-- ==== Sys2Proof/Word.lean ====
section
/-! DEFINITION. The word types of the GLF-9640 and the small named types that the operands of the commands are made of. -/

namespace Sys2Proof

/-- A register, a container or a ring index: 32 bits (R10, R44, R373). -/
abbrev Word := BitVec 32

/-- A byte of a frame, a ring entry or a flash (R9, R163). -/
abbrev Byte := BitVec 8

/-- A 64-bit quantity (R15). -/
abbrev DWord := BitVec 64

/-- SP0 to SP15 (R4). -/
abbrev Span := Fin 16

/-- Ports 0 to 1,023 (R4). -/
abbrev Port := Fin 1024

/-- Lanes 0 to 1,023 (R4). -/
abbrev Lane := Fin 1024

/-- A PHY type of R331: its rate in Gbit/s, and whether it is the copper-cable type (CR) or the backplane one (KR). -/
structure PhyType where
  rate   : Nat
  copper : Bool
deriving DecidableEq, Repr

/-- The rails that the board supplies, but for VHOLD (R507). -/
inductive Rail where
  | vcore | vsram | vsdA | vsdT | vio
deriving DecidableEq, Repr

/-- Traffic classes TC0 to TC15 (R4). -/
abbrev TrafficClass := Fin 16

/-- Physical pipelines 0 to 3, and 4 for the spare (R251). -/
abbrev PipeNo := Fin 5

/-- Port groups 0 to 3 of a span (R251). -/
abbrev GroupNo := Fin 4

/-- Frame descriptors 0 to 1,048,575 (R167). -/
abbrev DescId := Fin 1048576

/-- Submission and completion rings 0 to 4,095 (R372). -/
abbrev Ring := Fin 4096

/-- Time bases TB0 to TB3, and pier links PL0 to PL3 (R4). -/
abbrev Four := Fin 4

/-- Slots, mirror sessions and sensors, 0 to 63 (R4). -/
abbrev Sixtyfour := Fin 64

/-- A holder ID: [23:22] KIND, [21:8] TARGET, [7:0] INDEX (R173). -/
abbrev Holder := BitVec 24

/-- A source ID (R6). -/
abbrev SourceId := BitVec 16

/-- The offset of a register in BAR0, which is 64 MiB (R40). -/
abbrev Offset := BitVec 26

/-- The two passes of a frame (R28). -/
inductive Pass where
  | ingress
  | egress
deriving DecidableEq, Repr

/-- The four chip-level blocks built as lockstep pairs (R25). -/
inductive LockBlock where
  | bufferPool
  | freeList
  | orderKeepers
  | collector
deriving DecidableEq, Repr

/-- The classes of a fault: dangerous, service, notice (R436). -/
inductive FaultClass where
  | d
  | s
  | n
deriving DecidableEq, Repr, Inhabited

/-- What a checked read found: good data, a corrected bit, or more than its code corrects (R91, R160). -/
inductive ReadCheck where
  | good
  | single
  | uncorrectable
deriving DecidableEq, Repr

/-- What the read of the link words or of the descriptor of a frame found while they were walked: all good, a corrected
bit, or more than the code corrects, at the i-th link word or in the descriptor (R165, R167, R178). -/
inductive WalkCheck where
  | good
  | linkSingle (i : Fin 64)
  | linkBad (i : Fin 64)
  | descSingle
  | descBad
deriving DecidableEq, Repr

/-- A viaduct control frame as received: the deck header, the 52 bytes of its body and its CRC-32 in wire order
(R223). -/
structure ViaFrame where
  deck : DWord
  body : List Byte
  crc  : List Byte
deriving DecidableEq, Repr

/-- What a detector that has no row of its own reports to the collector (R428, R441): an occurrence of a fault or the
start of a persistent condition; a correction of an element by itself (R24, R433); an uncorrectable ledger entry; a bad
copy of ASSIGN or RELEASE of a pair, or both copies; and a copy of a time base (0 to 3) or of the cadence base (4) that has
moved off the others by so many units of 2^−48 ns. -/
inductive Detection where
  | occurs (src : SourceId) (cls : FaultClass) (detail : DWord) (live : Bool)
  | corrected (src : SourceId)
  | ledgerBad (d : DescId)
  | counterBad (pair : Fin 16384) (release both : Bool)
  | baseCopy (base : Fin 5) (copy : Fin 3) (off : Int)
deriving DecidableEq, Repr

/-- The outcome of the three-way rerun of a disputed packet (R256). -/
inductive Rerun where
  | allAgree
  | servingDiffers
  | freeDiffers
  | lentDiffers
  | noneAgree
deriving DecidableEq, Repr

/-- The stores that the scrubber visits (R87, R91). -/
inductive StoreKind where
  | control
  | dispatch
  | keyMap
  | entryOpcode
  | maintenance
  | routine
deriving DecidableEq, Repr

/-- One word of one copy of a store: `stage` is 0 for stores that belong to no stage (R87). -/
structure StoreRef where
  kind  : StoreKind
  span  : Span
  pass  : Pass
  pipe  : PipeNo
  stage : Fin 24
  genB  : Bool
  index : Fin 4096
deriving DecidableEq, Repr

/-- What happens beside the microword in one stage of one packet: a failed check (R79), single-bit
corrections on fetch (R24), the unit whose row the lookup has corrected (R160, R297: SRAM units 0 to 95, ternary units
from 96), and, at the end of a pass, a failed compare of a shadowed packet (R253) and a digest of a known-answer vector
that differs from the stored one (R254); and the unit whose row the lookup could not correct (R160, R441). -/
structure StageEvent where
  checkFails : Bool
  corrected  : Nat
  rowFixed   : Option (Fin 128)
  mismatch   : Bool
  digestBad  : Bool
  rowBad     : Option (Fin 128) := none
deriving DecidableEq, Repr

/-- What a trestle instruction addresses: a row of a table unit, or a rule of the classifier (R121, R151); `low` names
the lower of the two slots of a narrow LPM row (R153). A row of an exact or ternary entry names the whole entry. -/
structure TableRef where
  ternary : Bool
  unit    : Fin 96
  row     : Fin 2048
  low     : Bool
deriving DecidableEq, Repr

/-- The content that an instruction brings for an item (R121): the row, whose half counts for a narrow LPM slot, or the
value of a ternary row or a rule; the mask of a ternary row or a rule; the control word of a rule (R140). A whole entry
brings more: the second row of an exact entry, or value and mask in the second unit of a chained ternary entry, in `row1`
and `mask1`; the third row of an exact entry, or the result row of a ternary one, in `row2` (R152, R155). -/
structure ItemData where
  row   : BitVec 256
  mask  : BitVec 256
  ctl   : Word
  row1  : BitVec 256 := 0
  mask1 : BitVec 256 := 0
  row2  : BitVec 256 := 0
deriving DecidableEq, Repr

/-- One submission-ring entry as the device's read returned it: 64 bytes, or `none` for a DMA error (R376). -/
abbrev EntryRead := Option (List Byte)

end Sys2Proof
end

