-- ==== Sys2Proof/Syntax.lean ====
section
/-! DEFINITION. The commands of the GLF-9640, one constructor for each row of the table of operations and events.
An operand is what the row's event brings from outside the state: the unit it happens in, the word a host writes,
the bytes a link or a DMA read delivers, the outcome of a check that no state of the device decides. -/

namespace Sys2Proof

/-- The commands, in the table's order; each docstring names the rule of its row. -/
inductive Instr where
  /-- R10 -/
  | registerAccessMisaligned (off : Offset) (size : Nat) (isWrite : Bool)
  /-- R12 -/
  | registerWrite (off : Offset) (value : Word)
  /-- R15 -/
  | pairLowWordRead (off : Offset)
  /-- R18 -/
  | flitCrcFail (link : Fin 68)
  /-- R18 -/
  | d2dLinkFailover (link : Fin 68)
  /-- R26: at the collector, the copy of the decision logic that drives its pin of ERR_D otherwise than the other copy
  says, if one does: false for copy A and ERR_D_P, true for copy B and ERR_D_N (R437) -/
  | lockstepMismatch (b : LockBlock) (pin : Option Bool)
  /-- R26 -/
  | lockstepKatDone (b : LockBlock) (passA passB : Bool)
  /-- R26 -/
  | lockstepResume (b : LockBlock)
  /-- R38 -/
  | sysclkLoss
  /-- R38 -/
  | refclkSdLoss (n : Span)
  /-- R38 -/
  | pcieRefclkLoss
  /-- R108: the deck header, when the port is in viaduct mode -/
  | frameStart (port : Port) (deck : DWord)
  /-- R21: the next bytes of the arriving frame (at most 256), whether they end it, and the bank groups whose
  write stage is full (R170) -/
  | cellWrite (port : Port) (bytes : List Byte) (last : Bool) (full : List Nat)
  /-- R138 -/
  | parseDone (d : DescId)
  /-- R141 -/
  | classifyDone (d : DescId)
  /-- R29 -/
  | frameEnd (port : Port) (fcsGood truncated : Bool)
  /-- R51 -/
  | pipelineSlotGrant (span : Span) (pass : Pass) (pipe : PipeNo)
  /-- R52 -/
  | stageExecute (packet : Nat) (ev : StageEvent)
  /-- R245 -/
  | resultRelease (port : Port) (tc : TrafficClass)
  /-- R175: the multicast group, where the result asks for one (R181), and what the reads of the walk found (R178) -/
  | holderTransfer (d : DescId) (h : Holder) (set : List Holder) (group : Option (Fin 32768)) (walk : WalkCheck)
  /-- R175: what the reads of the walk found (R178) -/
  | holderRelease (d : DescId) (h : Holder) (walk : WalkCheck)
  /-- R182: `wrong` lists the bytes of the cell that the read path returned other than as stored, `check` what the bank's
  code found, and `walk` what the reads of its link words and of the descriptor found -/
  | cellRead (d : DescId) (i : Fin 64) (h : Holder) (wrong : List (Fin 256 × Byte)) (check : ReadCheck) (walk : WalkCheck)
  /-- R185 -/
  | limitCommit
  /-- R199 -/
  | faultLogRead
  /-- R200 -/
  | reclaim (byAudit : Bool) (value : Word)
  /-- R193 -/
  | cmpReqRx (dev : Fin 128) (voq : BitVec 16) (value : BitVec 26)
  /-- R191 -/
  | cmpGrantRx (voq : BitVec 16) (value : BitVec 26)
  /-- R193 -/
  | cmpSyncTimer
  /-- R193 -/
  | cmpSyncRx (dev : Fin 128) (voq : BitVec 16) (value : BitVec 26)
  /-- R193 -/
  | cmpSyncAckRx (voq : BitVec 16) (value : BitVec 26)
  /-- R192 -/
  | cmpMessageFlush (dev : Fin 128)
  /-- R237 -/
  | mcGroupWrite (g : Fin 32768) (value : Word)
  /-- R210 -/
  | schedulerSelect (port : Port)
  /-- R283 -/
  | transmitStart (port : Port)
  /-- R249 -/
  | transmitComplete (port : Port)
  /-- R214 -/
  | shaperRefill
  /-- R230 -/
  | shaperSwap (value : Word)
  /-- R217: `burst` false is SCH_SHP_RATE_x_k, true is SCH_SHP_BURST_x_k -/
  | shaperConfigWrite (x : Fin 21504) (k : Fin 2) (burst : Bool) (value : Word)
  /-- R219 -/
  | pfcXoffRefresh (port : Port) (pri : Fin 8)
  /-- R220 -/
  | pfcRx (port : Port) (enable : Byte) (times : List (BitVec 16))
  /-- R220 -/
  | pauseRx (port : Port) (quanta : BitVec 16)
  /-- R220: the priority whose time elapsed, or `none` for PAUSE -/
  | pfcPauseExpire (port : Port) (pri : Option (Fin 8))
  /-- R224 -/
  | viaInitTimer (port : Port)
  /-- R224 -/
  | viaInitRx (port : Port) (frame : ViaFrame)
  /-- R224 -/
  | viaInitAckRx (port : Port) (frame : ViaFrame)
  /-- R225: the deck header as received, the FCS, and the descriptor that took the frame, when one did -/
  | viaDataRx (port : Port) (deck : DWord) (fcsGood : Bool) (d : Option DescId)
  /-- R225 -/
  | viaAckRx (port : Port) (frame : ViaFrame)
  /-- R225 -/
  | viaNakRx (port : Port) (frame : ViaFrame)
  /-- R225 -/
  | viaRetransmitDone (port : Port)
  /-- R225 -/
  | viaRetryTimeout (port : Port)
  /-- R225 -/
  | viaAckTimer (port : Port)
  /-- R226 -/
  | viaCreditTimer (port : Port)
  /-- R226 -/
  | viaCreditRx (port : Port) (frame : ViaFrame)
  /-- R280 -/
  | viaHoldWrite (w : Fin 32) (value : Word)
  /-- R250 -/
  | linkHoldExpire (port : Port)
  /-- R275 -/
  | lossLogRead
  /-- R252 -/
  | shadowPeriodEnd (span : Span) (pass : Pass)
  /-- R252 -/
  | shadowPeriodStart (span : Span) (pass : Pass)
  /-- R254 -/
  | katVectorInsert (span : Span) (pass : Pass) (pipe : PipeNo)
  /-- R256 -/
  | mismatchDrained (span : Span) (pass : Pass)
  /-- R256 -/
  | mismatchVectorsChecked (span : Span) (pass : Pass) (servingPass freePass : Bool)
  /-- R256 -/
  | mismatchRerunChecked (span : Span) (pass : Pass) (outcome : Rerun)
  /-- R257 -/
  | spareDrained (span : Span) (pass : Pass)
  /-- R257: whether the two vectors passed on the free pipeline -/
  | spareSwitch (span : Span) (pass : Pass) (vectorsPass : Bool)
  /-- R261 -/
  | spareReinstate (span : Span) (value : Word)
  /-- R261 -/
  | reinstateDone (span : Span) (pass : Pass) (pipe : PipeNo) (vectorsPass : Bool)
  /-- R263 -/
  | spanResetRequest (value : Word)
  /-- R263 -/
  | spanLogicReset (span : Span)
  /-- R263: the healthy span that the copy came from -/
  | spanRecopyDone (span : Span) (donor : Span)
  /-- R263: the pipelines that failed -/
  | spanVectorsDone (span : Span) (failed : List (Pass × PipeNo))
  /-- R263 -/
  | spanReplayStart (span : Span)
  /-- R263 -/
  | spanResetEnd (span : Span)
  /-- R267 -/
  | journalProgram (verified : Bool)
  /-- R270 -/
  | journalCheckpoint
  /-- R281 -/
  | journalForceWt (value : Word)
  /-- R481 -/
  | journalFastResume
  /-- R286 -/
  | telRollWrite (value : Word)
  /-- R293: the copy's frame and its COPY holder -/
  | mirrorRecordWrite (d : DescId) (h : Holder) (ci : Option Word)
  /-- R387: the copy's frame and its COPY holder -/
  | rxCopyDeliver (d : DescId) (h : Holder) (ci : Option Word)
  /-- R303: `n` false is TEL_MS_CFG_s, true is TEL_MS_N_s -/
  | mirrorSessionWrite (sess : Sixtyfour) (n : Bool) (value : Word)
  /-- R298 -/
  | counterRead (off : Offset)
  /-- R312 -/
  | servoSample (n : Four)
  /-- R311 -/
  | tbOffsetSubmit (n : Four) (hi : Word)
  /-- R311 -/
  | ppsInEdge (i : Fin 2)
  /-- R313 -/
  | tbHoldoverTimeout (n : Four)
  /-- R313 -/
  | tbSrcWrite (n : Four) (value : Word)
  /-- R310 -/
  | tbSnapshot (value : Word)
  /-- R318 -/
  | tbSecondPublish
  /-- R318 -/
  | tbPubRead
  /-- R325 -/
  | ppsOutPulse
  /-- R325 -/
  | ppsOutEnd
  /-- R315 -/
  | cadSrcWrite (value : Word)
  /-- R314 -/
  | cadSlewEnd
  /-- R316 -/
  | cadAlign (value : Word)
  /-- R322: register r of slot s (0 SEC_LO, 1 SEC_HI, 2 NS, 3 PER, 4 CFG); `host` false is the power controller -/
  | cadSlotWrite (slot : Sixtyfour) (r : Fin 5) (value : Word) (host : Bool)
  /-- R321: every slot whose mark the cadence base reaches on this edge -/
  | cadSlotFire (slots : DWord)
  /-- R112: the word written to JNT_CTRL -/
  | jointArm (value : Word)
  /-- R113: the word written to JNT_CTRL -/
  | jointCancel (value : Word)
  /-- R117: the word written to JNT_CTRL -/
  | jointNow (value : Word)
  /-- R113 -/
  | jointCheck
  /-- R98: the word written to MC_LOAD_CTRL -/
  | loadStart (value : Word)
  /-- R98: the image with its trailer as read by DMA (`none`: the read failed), and the pipeline whose copy failed the
  read-back, if one did -/
  | loadComplete (image : Option (List Byte)) (badCopy : Option (Span × Pass × PipeNo))
  /-- R91: the word visited, what the read found, and the copy that checks good, if one does: another pipeline of the span,
  or another span for the maintenance store and the routine list -/
  | storeScrub (word : StoreRef) (check : ReadCheck) (good : Option (Fin 16))
  /-- R129 -/
  | windowRead (off : Offset)
  /-- R130 -/
  | windowWrite (off : Offset) (value : Word)
  /-- R121 -/
  | trestleRoutineStart (span : Span)
  /-- R121: the item read and the first working register that takes it -/
  | trestleLd (span : Span) (item : TableRef) (reg : Fin 16)
  /-- R121: the operation, the destination and the two sources -/
  | trestleAlu (span : Span) (op : Byte) (dst a b : Fin 16)
  /-- R121: the table, the hash function, the register that holds the key and the first register of the indices -/
  | trestleHash (span : Span) (table : Fin 256) (hsel : Fin 8) (key dst : Fin 16)
  /-- R121: the free entry and its new content -/
  | trestleStage (span : Span) (item : TableRef) (data : ItemData)
  /-- R121: the entry, the control word expected and the new content -/
  | trestleFlip (span : Span) (item : TableRef) (expected : Word) (data : ItemData)
  /-- R161: the entry, the control-word bits compared, their expected value and the new content -/
  | trestleBflip (span : Span) (item : TableRef) (bits expected : Word) (data : ItemData)
  /-- R121: the word that the branch or loop continues at -/
  | trestleBranch (span : Span) (target : BitVec 12)
  /-- R121, R417: the result that the routine reports, 0 for done or a DETAIL code -/
  | trestleHalt (span : Span) (result : Byte)
  /-- R123: the word written to SPn_TR_CTRL -/
  | trestleStop (span : Span) (value : Word)
  /-- R124: the word written to SPn_TR_CTRL -/
  | trestleResume (span : Span) (value : Word)
  /-- R124: the word written to SPn_TR_CTRL -/
  | trestleAbort (span : Span) (value : Word)
  /-- R150: `units` false is SPn_TBL_KIND_t, true is SPn_TBL_UNITS_t -/
  | tableKindWrite (span : Span) (t : Fin 240) (units : Bool) (value : Word)
  /-- R160: the row visited, what the read found, and the span whose copy checks good, if one does -/
  | tableScrub (span : Span) (item : TableRef) (check : ReadCheck) (good : Option Span)
  /-- R162 -/
  | agingSweep (t : Fin 240)
  /-- R441: the row of the replicas compared -/
  | replicaCompare (item : TableRef)
  /-- R332: the word written to LANE_CFG -/
  | portEnable (lane : Lane) (value : Word)
  /-- R333: the word written to LANE_CFG -/
  | portDisable (lane : Lane) (value : Word)
  /-- R338 -/
  | laneSignalDetect (port : Port)
  /-- R338: the abilities and the pause ability of the partner's base page, and whether a further page follows (R334) -/
  | anPageRx (port : Port) (abilities : List PhyType) (pause : BitVec 2) (next : Bool)
  /-- R338 -/
  | trainingDone (port : Port)
  /-- R338, R340: the lanes are aligned; whether there is a local fault, and whether the partner signals a remote one -/
  | linkUp (port : Port) (localFault remoteFault : Bool)
  /-- R340 -/
  | linkDown (port : Port)
  /-- R339 -/
  | bringupTimeout (port : Port)
  /-- R339 -/
  | linkStable (port : Port)
  /-- R338 -/
  | failedRetryTimer (port : Port)
  /-- R343 -/
  | trainingRequestRx (lane : Lane) (req : BitVec 16)
  /-- R343: the response, and the request that the receiver's adaptation makes next -/
  | trainingResponseRx (lane : Lane) (rsp : BitVec 16) (next : BitVec 16)
  /-- R344: the word written to LANE_TR_REQ -/
  | trainingManualRequest (lane : Lane) (value : Word)
  /-- R346, R347: the codewords of a window by the symbols corrected in them, 0 to 15, those that could not be corrected,
  and the symbols corrected on each lane of the port -/
  | fecDegradeWindow (port : Port) (hist : List Nat) (uncorr : Nat) (symbols : List Nat)
  /-- R349: the word written to LANE_EYE_CTRL -/
  | eyeScanStart (lane : Lane) (value : Word)
  /-- R350: the word written to LANE_EYE_CTRL -/
  | eyeScanStop (lane : Lane) (value : Word)
  /-- R349: the 4,096 counts, in scan order -/
  | eyeScanDone (lane : Lane) (counts : List Nat)
  /-- R353 -/
  | pierAlignSearch (n : Four)
  /-- R353 -/
  | pierSlip (n : Four)
  /-- R353 -/
  | pierAlignLock (n : Four)
  /-- R354 -/
  | pierAlignLost (n : Four)
  /-- R367: the word written to PLn_CFG -/
  | pierEnableWrite (n : Four) (value : Word)
  /-- R357 -/
  | pierCapTimer (n : Four)
  /-- R357: the payload bytes -/
  | cap (n : Four) (payload : List Byte)
  /-- R357: the payload bytes -/
  | step (n : Four) (payload : List Byte)
  /-- R357 -/
  | pierStepSwitch (n : Four)
  /-- R357 -/
  | pierStepTimeout (n : Four)
  /-- R355 -/
  | pierFrameBad (n : Four)
  /-- R359 -/
  | tmarkPeriod (n : Four)
  /-- R359 -/
  | timeMarkRx (n : Four)
  /-- R359: the payload bytes -/
  | tmark (n : Four) (payload : List Byte)
  /-- R359 -/
  | tmarkTimeout (n : Four)
  /-- R356: the payload bytes -/
  | mgmt (n : Four) (payload : List Byte)
  /-- R356: the payload bytes -/
  | fault (n : Four) (payload : List Byte)
  /-- R360 -/
  | pierFaultSymbolsRx (n : Four)
  /-- R360 -/
  | pierFaultRepeat
  /-- R369 -/
  | pcieFlr
  /-- R519 -/
  | pciePerst
  /-- R369 -/
  | pcieBusMasterOff
  /-- R369 -/
  | pcieBusMasterOn (cis : List (Option Word))
  /-- R376 -/
  | sqDoorbell (off : BitVec 19) (len : Fin 64) (cis : List (Option Word))
  /-- R379: the CI read from host memory (`none`: a DMA error) -/
  | cqDoorbell (off : BitVec 19) (len : Fin 64) (cis : List (Option Word))
  /-- R376, R379: the PI and the entries that the reads of one turn of the scan returned, from the ring's CI on, and the CI that a
  read of the completion ring's host index returns when its last free slot is reserved -/
  | sqScan (r : Ring) (pi : Option Word) (entries : List EntryRead) (ci : Option Word)
  /-- R377 -/
  | sqRescanTimer (r : Ring)
  /-- R380 -/
  | sqResourceFree (r : Ring)
  /-- R379: the PI and the buffer entries read -/
  | rxRingReadAhead (r : Ring) (pi : Option Word) (entries : List EntryRead)
  /-- R386: the oldest TX packet of the ring being read: its bytes, or `none` for a DMA error -/
  | txPacketReadDone (r : Ring) (bytes : Option (List Byte)) (full : List (Fin 256))
  /-- R382: the host's CI, as the device re-reads it -/
  | completionPost (r : Ring) (ci : Option Word)
  /-- R390: a fault record (false) or a capture record (true), and the host's CI as re-read -/
  | eventRecordWrite (capture : Bool) (ci : Option Word)
  /-- R394 -/
  | cqCoalTimer (r : Ring) (ci : Option Word)
  /-- R396: `cq` true names a completion ring; the word written to its CFG register -/
  | ringEnable (cq : Bool) (r : Ring) (value : Word)
  /-- R397 -/
  | ringDisable (cq : Bool) (r : Ring) (value : Word)
  /-- R406 -/
  | keystoneComparatorMismatch (pair : Fin 2)
  /-- R406 -/
  | keystoneWatchdogExpire (pair : Fin 2)
  /-- R406 -/
  | keystoneTakeoverStart (pair : Fin 2)
  /-- R406 -/
  | keystoneTakeoverDone (pair : Fin 2)
  /-- R408: the word written to KS_CTRL -/
  | keystoneReinstate (value : Word)
  /-- R408 -/
  | keystoneSelftestDone (pair : Fin 2) (passed : Bool)
  /-- R408: the word written to KS_CTRL -/
  | keystoneReturn (value : Word)
  /-- R410: the target of the call and the address of the instruction after it -/
  | call (pair : Fin 2) (target ret : DWord)
  /-- R410 -/
  | ret (pair : Fin 2)
  /-- R410 -/
  | wsave (pair : Fin 2) (w : Fin 16)
  /-- R410 -/
  | wload (pair : Fin 2) (w : Fin 16)
  /-- R411 -/
  | texit (pair : Fin 2)
  /-- R411: the causes present at the boundary -/
  | kcTrapEntry (pair : Fin 2) (causes : List Byte)
  /-- R414: the interrupt lines that have become pending -/
  | kcInterrupt (pair : Fin 2) (lines : DWord)
  /-- R415 -/
  | infoIdentify (r : Ring)
  /-- R415: the entry record as read from host memory -/
  | tableInsert (r : Ring) (record : Option (List Byte))
  /-- R415 -/
  | tableDelete (r : Ring) (record : Option (List Byte))
  /-- R415 -/
  | tableModify (r : Ring) (record : Option (List Byte))
  /-- R415 -/
  | tableRead (r : Ring) (record : Option (List Byte))
  /-- R415 -/
  | tableSetAge (r : Ring)
  /-- R415 -/
  | auditRun (r : Ring)
  /-- R418 -/
  | ptpInstance (r : Ring)
  /-- R418 -/
  | ptpPort (r : Ring)
  /-- R418 -/
  | ptpStatus (r : Ring)
  /-- R415: the try at which the search found the boundary, if it did -/
  | pierAlign (r : Ring) (found : Option (Fin 10))
  /-- R415 -/
  | pierSend (r : Ring)
  /-- R96 -/
  | fuseOwnerKey (r : Ring)
  /-- R497 -/
  | updateStatus (r : Ring)
  /-- R497: whether the flash erased -/
  | updateErase (r : Ring) (flashOk : Bool)
  /-- R497: the host's data and whether the flash programmed and read back -/
  | updateWrite (r : Ring) (data : Option (List Byte)) (flashOk : Bool)
  /-- R497 -/
  | updateRead (r : Ring)
  /-- R497 -/
  | updateActivate (r : Ring)
  /-- R497 -/
  | updateSettingsWrite (r : Ring) (data : Option (List Byte)) (flashOk : Bool)
  /-- R497 -/
  | updateSettingsRead (r : Ring)
  /-- R482 -/
  | powerStatus (r : Ring)
  /-- R482 -/
  | powerConcordReport (r : Ring)
  /-- R420, R421: the word written to GU_u_CTRL, and, when the firmware writes it, the registers of the unit that it has set
  before, by number, with their words -/
  | guScanStart (u : Fin 16) (value : Word) (firmware : Option (List (Fin 16 × Word)))
  /-- R421, R425: the word written to GU_u_CTRL, by the host or by the firmware -/
  | guScanAbort (u : Fin 16) (value : Word) (firmware : Bool)
  /-- R419: the bytes that a scan of host or management space read (`none`: a DMA error) -/
  | guScanDone (u : Fin 16) (data : Option (List Byte))
  /-- R428: the source, the class of R441, the DETAIL of R432, and whether the condition persists -/
  | faultLatch (what : Detection)
  /-- R433 -/
  | correctedThreshold (src : SourceId)
  /-- R429: the block (span 0 to 15, or 16 for the chip; block code), the word and the value written -/
  | faultCauseClear (i : Fin 17) (b : Fin 64) (high : Bool) (value : Word)
  /-- R460 -/
  | faultSelect (value : Word)
  /-- R438 -/
  | errSTimerExpire
  /-- R438: the word written to FC_ERR_S_CTRL -/
  | errSRelease (value : Word)
  /-- R440: the levels read back at ERR_D_P, ERR_D_N and ERR_S -/
  | errPinReadback (p n es : Bool)
  /-- R462: the word written to FC_PIN -/
  | fcPinTestWrite (value : Word)
  /-- R447 -/
  | collectorMismatch
  /-- R443 -/
  | safeStateComplete
  /-- R454: the kind and number of the unit compared -/
  | viewCompare (kind : Fin 6) (unit : BitVec 16)
  /-- R455: the word written to FC_INJ_KEY -/
  | injectionKeyWrite (value : Word)
  /-- R455: `arg` false is FC_INJ_CTRL, true is FC_INJ_ARG -/
  | injectionConfigWrite (arg : Bool) (value : Word)
  /-- R455 -/
  | injectionKeyTimeout
  /-- R455 -/
  | injectionFire
  /-- R455 -/
  | injectionLevelEnd
  /-- R467: `phases` false is PWR_OP_CTRL, true is PWR_PHASE_OP -/
  | opPolicyWrite (phases : Bool) (value : Word)
  /-- R468 -/
  | riseVoutCommand
  /-- R468: the reading in microvolts -/
  | riseReadVout (uv : Nat)
  /-- R469: whether the monitors ask for more or for less voltage -/
  | avsAdjust (up down : Bool)
  /-- R470 -/
  | pmbusFailure
  /-- R470: STATUS_WORD as read -/
  | pmbAlert (status : BitVec 16)
  /-- R471 -/
  | droopDetect (det : Fin 256)
  /-- R471 -/
  | droopRecover (det : Fin 256)
  /-- R466: the readings of the 64 sensors before the offset of R501, in 1/16 degC -/
  | thermalSample (temps : List Int)
  /-- R466 -/
  | throttleStep
  /-- R466 -/
  | throttleReleaseStep
  /-- R466 -/
  | tjmaxCapEnd
  /-- R472 -/
  | regAlertConfirm
  /-- R472 -/
  | regAlertEnd
  /-- R476 -/
  | concordRoundOpen
  /-- R476: the link and the payload bytes -/
  | concord (n : Four) (payload : List Byte)
  /-- R476 -/
  | concordRoundClose
  /-- R479: the sense voltage of the bank integrated since the last compare in nV·s, and VHOLD in mV -/
  | holdupCompare (sense : Int) (mv : Nat)
  /-- R480 -/
  | holdupRebase (mv : Nat)
  /-- R478 -/
  | mainSupplyFail
  /-- R269, R480: the sense voltage of the flush's draw integrated over it in nV·s, and the fall of VHOLD in mV -/
  | journalFlushDone (sense fall : Nat)
  /-- R507, R511: the rail and its voltage in µV, and the ports whose lanes have lost signal -/
  | railFault (rail : Rail) (uv : Nat) (ports : List Port)
  /-- R485 -/
  | powerOn
  /-- R487 -/
  | resetNAssert
  /-- R494: the level of STRAP0 and the fuse words found uncorrectable (R502) -/
  | resetNRelease (strap0 : Bool) (badFuses : BitVec 8)
  /-- R487: the word written to CHIP_RESET -/
  | coldResetRequest (value : Word)
  /-- R487: the word written to CHIP_RESET -/
  | warmResetRequest (value : Word)
  /-- R487 -/
  | warmNAssert
  /-- R265 -/
  | warmResetSeal
  /-- R265 -/
  | warmResetRelease
  /-- R189 -/
  | warmAuditDone
  /-- R90, R265: the pipelines whose vectors failed, and what the scrub of the stores and tables found: the words and rows
  that did not read good, each with the copy that it is restored from -/
  | warmResume (failed : List (Span × Pass × PipeNo)) (stores : List (StoreRef × ReadCheck × Option (Fin 16)))
      (tables : List (Span × TableRef × ReadCheck × Option Span))
  /-- R265 -/
  | warmResetEnd
  /-- R437 -/
  | collectorSelftestDone (passed : Bool)
  /-- R495: what the flash did not answer for, if anything: the manifest (0), or the part of entry i − 1 -/
  | bootVerifyDone (unread : Option (Fin 7))
  /-- R495: the type of the part that did not start -/
  | bootStartTimeout (part : BitVec 4)
  /-- R98, R496: the copy that fails its read-back, if one does, and whether the settings have been applied as well -/
  | bootReady (badCopy : Option (Span × Pass × PipeNo)) (settings : Bool)
  /-- R486 -/
  | gotoService
  /-- R486 -/
  | gotoTest
  /-- R501: the offset of the user field's register and the word written -/
  | calibrationWrite (off : Offset) (value : Word)
  /-- R12 -/
  | registerReadClear (off : Offset)
  /-- R368: the rate in GT/s and the width -/
  | pcieLinkUp (rate : Nat) (width : Nat) (cis : List (Option Word))
  /-- R38: the clock of span n, or `none` for the PCIe reference -/
  | referenceClockReturn (n : Option Span)
  /-- R394 -/
  | msixVectorUnmask (v : Fin 2048)
deriving DecidableEq, Repr

end Sys2Proof
end

