-- ==== Sys2Proof/Decode.lean ====
section
/-! DEFINITION. The table of operations and events gives no row any bits: a command comes from a link, a pin, a timer
or a register access, never as a word. No word therefore spells a command. -/

namespace Sys2Proof

/-- The command that a word spells by the table's bits: none, since no row has bits (assumption 5). -/
def decodeTableWord (_nbits _w : Nat) : Option Instr := none

end Sys2Proof
end

