-- ==== Sys2Proof/Config.lean ====
section
/-! DEFINITION. The values the spec leaves open: constants with no body, so that no proof can lean on one of them.
Each is applied to the operands it depends on, or to the counter `freeCount` of the state for a fresh value. -/

namespace Sys2Proof.Config

/-- A draw of the random-number generator of the management die for an EPOCH (R224); the model keeps it apart from 0
and from the previous EPOCH (assumption 12). -/
opaque freeEpoch : Nat → Word

/-- The result of a trestle ALU operation, whose encodings the spec does not give (R121, assumption 13): the operation
and the two source registers. -/
opaque trestleAlu : Byte → DWord → DWord → DWord

/-- The HALT instruction of a trestle engine, whose encoding the spec does not give (R94, R121, assumption 13). -/
opaque haltWord : DWord

/-- The check bits of a group of a store word, whose code the spec does not give: the kind of the item and the data bits of
the group (R55, R58, R87, assumption 17). -/
opaque checkBits : Nat → Nat → Nat

/-- What a lookup finds where the spec states no result: a table that is enabled under another kind than the microword
names, or a vendor-reserved table (R64, R145, assumption 18): the table, the kind and the selected bytes. -/
opaque openLookup : Nat → Nat → Nat → Bool × Word × Word × Word × Word

/-- MD3 of a packet that enters a pipeline before its frame has ended: the spec states no length there (R47,
assumption 19). -/
opaque openLength : Nat → BitVec 16

/-- Whether the lookup of a stage that meets a check failure had been made before the failure was found, which depends on
the check that failed (R52, R80, assumption 92): a draw. -/
opaque lookupMade : Nat → Bool

/-- Which of the bank groups with a free cell the record writer takes a cell from, which depends on the write stages that
have room (R170, assumption 95): a draw. -/
opaque openStage : Nat → Nat

/-- EGRESS of a loss-log entry of a frame lost before it had a queue copy: the spec states none (R275, assumption 22). -/
opaque openEgress : Nat → BitVec 10

/-- A container of a known-answer vector of the suite, which stands in the vendor image in a layout that the spec does not
give (R254, assumption 112): the place in the suite, and the container. -/
opaque katVector : Nat → Nat → Word

/-- The comma words, and the code and disparity errors, among the words that a pier receiver has seen (R353, assumption
120): a draw. -/
opaque commaHits : Nat → Nat
opaque codeErrors : Nat → Nat

/-- How many of the vectors that a pipeline fails it fails, where only the failure is known (R256, assumption 44). -/
opaque openKatFails : Nat → Nat

/-- The device's own address in GLF-7220 message frames, which no register of the spec holds (R192, assumption 20). -/
opaque ownAddress : BitVec 48

/-- The serial number fused at manufacture (R415, assumption 14). -/
opaque serialNumber : DWord

/-- The part of a nanosecond, in 2^−48 ns, that the phase of a lane clock adds to a captured time (R308, assumption 114):
a draw. -/
opaque lanePhase : Nat → Nat

/-- The temperature grade fused at manufacture: true for extended (R2, R505, assumption 14). -/
opaque gradeExtended : Bool

/-- The hashes of the vendor's keys fused at manufacture, by 32-bit word (R95, assumption 14). -/
opaque vendorKeyHash : Bool → Nat → Word

/-- The factory calibrations fused at manufacture: the quantity, and the instance of it (R501, assumption 14). -/
opaque factoryCal : Nat → Nat → Int

/-- The middle code of a SerDes trim, whose coding the spec does not give (R502, assumption 137). -/
opaque trimMidCode : Int

/-- What the loader answers to a management message, whose layout the spec does not give (R495, assumption 124): a draw,
and the payload received. -/
opaque loaderReply : Nat → List Byte → List Byte

/-- The bytes of the inactive bank that an UPDATE request in a management message programs, by offset in the bank (R495,
R497, assumption 124). -/
opaque loaderProgram : List Byte → List (Nat × Byte)

/-- The VCORE target that the power controller first asks for at an operating point, in units of 2.5 mV, which the spec
does not state beyond its window (R468, R469, assumption 46). -/
opaque pointTarget : Nat → Nat

/-- The energy in microjoules that the controller measures over one microsecond (R473, assumption 10): a draw. -/
opaque measuredEnergy : Nat → Nat

/-- The payload of the management message that reports an aborted joint, whose content the spec does not give (R113,
assumption 47): the cause. -/
opaque jointReport : Nat → List Byte

/-- The entry word of the maintenance routine that carries out a request: the TABLE function (R121, R126, assumption
13). -/
opaque routineEntry : Nat → Nat

/-- The hash function under which the table service places the entries of an exact table (R121, R152, assumption 48). -/
opaque tableHsel : Nat → Nat

/-- The address of the instruction after one of Koltan-C, whose length the spec does not give (R409, assumption 49). -/
opaque kcNext : DWord → DWord

/-- The address at which a trap handler of Koltan-C starts, by cause (R411, assumption 49). -/
opaque kcVector : Byte → DWord

/-- An argument of PTP.INSTANCE and PTP.PORT, which the spec does not lay out (R418, assumption 50): which one, and bytes 8
to 63 of the entry. -/
opaque ptpArg : Nat → List Byte → Nat

/-- The interrupt source of a keystone pair that a takeover raises, which the spec does not number (R406, R413, assumption
141). -/
opaque takeoverSource : Nat

/-- A load that a warm reset ends had reached step 7 of R98, by the draw (R488, assumption 89). -/
opaque loadReached : Nat → Bool

/-- A byte of the result of PTP.STATUS, which the spec does not lay out (R418, assumption 50): a draw, and the place. -/
opaque ptpStatus : Nat → Nat → Byte

/-- The SCHEMA that a set's settings-schema part defines, by the part's VERSION (R499, assumption 76). -/
opaque settingsSchema : Nat → BitVec 16

/-- The class of a fault that a held error line reports with no element event, which no rule states (R455, assumption
81): the source. -/
opaque lineClass : Nat → FaultClass

/-- The register writes that the items of a settings record amount to, whose layout the settings schema defines and the
spec does not (R499, R500, assumption 87): the SCHEMA and the body. -/
opaque settingsWrites : BitVec 16 → List Byte → List (Nat × Word)

/-- The body that the migration of a settings record gives (R500, assumption 87): the old SCHEMA, the new one, the old
body. -/
opaque migrated : BitVec 16 → BitVec 16 → List Byte → List Byte

end Sys2Proof.Config
end

