-- ==== Sys2Proof/Machine/RegTable.lean ====
section
/-! DEFINITION. The registers of BAR0, as the register tables of the spec give them: offset, bits, access and reset of
each field. A field marked `own` is written by a command of its own (for example JNT_CTRL.ARM by JOINT_ARM); the
command REGISTER_WRITE leaves it alone. Reserved bits have no field: they read 0 and ignore writes (R14). -/

namespace Sys2Proof.Machine

/-- The access types (R12). -/
inductive Access where
  | ro | rw | w1c | w1s | rc | wo | rwl
deriving DecidableEq, Repr

/-- A field of a register. -/
structure RegField where
  acc   : Access
  hi    : Nat
  lo    : Nat
  reset : Nat
  own   : Bool
deriving DecidableEq, Repr

/-- A register, or an array of registers of one or two dimensions. `pair`: the low word of a 64-bit pair whose high
word is read-only (R15). -/
structure RegRow where
  base    : Nat
  stride  : Nat
  count   : Nat
  stride2 : Nat
  count2  : Nat
  fields  : List RegField
  pair    : Bool
deriving DecidableEq, Repr

namespace Reg

def f (a : Access) (hi lo reset : Nat) : RegField := ⟨a, hi, lo, reset, false⟩
def o (a : Access) (hi lo reset : Nat) : RegField := ⟨a, hi, lo, reset, true⟩
def one (b : Nat) (fs : List RegField) : RegRow := ⟨b, 0, 1, 0, 1, fs, false⟩
def arr (b s n : Nat) (fs : List RegField) : RegRow := ⟨b, s, n, 0, 1, fs, false⟩
def arr2 (b s n t m : Nat) (fs : List RegField) : RegRow := ⟨b, s, n, t, m, fs, false⟩
def low (r : RegRow) : RegRow := { r with pair := true }
/-- One read-only word, reset 0. -/
def roWord : List RegField := [f .ro 31 0 0]
def rwWord (reset : Nat) : List RegField := [f .rw 31 0 reset]

end Reg

open Reg

/-- CHIP: R41, R42, R101 to R106, R118 to R120, R127, R273 to R276, R503 to R505. -/
def chipRegs : List RegRow := [
  one 0x0 [f .ro 31 16 0x9640, f .ro 7 0 0xB1],
  one 0x4 [f .ro 7 4 1, f .ro 3 0 1],
  one 0x8 [f .w1c 31 31 0, f .ro 11 8 0, o .wo 3 0 0],
  one 0xC [o .wo 31 16 0, o .wo 7 4 0, o .wo 2 2 0, o .wo 1 1 0, o .wo 0 0 0],
  one 0x10 [f .ro 31 16 0, f .ro 7 4 0, f .ro 3 0 1],
  one 0x14 [f .ro 31 31 0, f .w1c 30 30 0, f .ro 19 0 0],
  one 0x40 [f .rw 15 0 0],
  one 0x100 [f .ro 24 24 0, f .ro 23 0 0],
  one 0x104 roWord,
  one 0x108 [f .ro 31 16 0, f .ro 15 0 0],
  one 0x10C [f .ro 26 24 0, f .ro 23 0 0],
  one 0x110 roWord,
  one 0x120 [f .rw 1 1 0, o .wo 0 0 0],
  one 0x124 [f .rw 31 6 0],
  one 0x128 (rwWord 0),
  one 0x12C [f .ro 30 19 0, f .ro 18 14 0, f .ro 13 13 0, f .ro 12 10 0, f .ro 9 2 0, f .ro 1 0 0],
  one 0x180 [f .rw 9 9 1, f .rw 8 8 0, f .rw 7 7 0, f .rw 6 4 0, f .rw 3 0 0],
  one 0x200 [o .wo 11 11 0, f .rw 10 10 0, o .wo 9 9 0, o .w1s 8 8 0, f .rw 5 0 0],
  one 0x204 [f .ro 31 16 0, f .w1c 8 8 0, f .ro 7 4 0, f .w1c 3 3 0, f .ro 2 1 0, f .ro 0 0 0],
  one 0x208 [f .ro 20 0 0],
  one 0x400 [f .rw 31 16 0x3E8, f .rwl 11 0 0],
  one 0x404 [f .ro 31 16 0, f .w1c 0 0 0],
  one 0x408 [o .rc 31 31 0, o .rc 30 27 0, o .rc 26 23 0, o .rc 22 13 0, o .rc 12 3 0],
  one 0x40C roWord,
  one 0x410 [f .rc 31 0 0],
  one 0x800 [f .ro 31 28 0, f .ro 27 27 0, f .ro 26 26 0, f .ro 25 25 0, f .ro 24 24 0, f .ro 23 20 0, f .ro 19 16 0,
    f .ro 15 15 0],
  one 0x804 [f .ro 23 0 0],
  one 0x808 [f .ro 23 0 0],
  one 0x1000 [o .rwl 4 0 0],
  one 0x1004 [o .rwl 4 0 0],
  one 0x1008 [o .rwl 8 0 0],
  one 0x100C [o .rwl 7 0 0],
  one 0x1010 [f .ro 9 9 0, f .ro 8 8 0, f .w1c 5 0 0],
  arr 0x2000 4 1024 [o .rw 31 0 0]]

/-- FC: R457 to R463. -/
def fcRegs : List RegRow := [
  low (one 0x100000 [f .ro 31 16 0, f .ro 15 0 0]),
  one 0x100004 [f .ro 15 0 0, f .w1c 16 16 0, f .w1c 17 17 0, f .w1c 18 18 0, f .ro 19 19 0, f .ro 20 20 0],
  one 0x100008 [f .ro 31 31 0, f .ro 30 30 0, f .ro 7 0 0],
  one 0x10000C [f .ro 15 0 0],
  one 0x100010 roWord,
  one 0x100014 [f .ro 1 1 0, o .w1c 0 0 0],
  one 0x100018 [o .rwl 31 31 0, f .ro 2 2 0, f .ro 1 1 1, f .ro 0 0 0],
  one 0x100020 [o .rw 15 0 0],
  one 0x100024 [f .ro 19 19 0, f .ro 18 18 0, f .ro 17 16 0, f .ro 15 0 0],
  one 0x100028 roWord,
  low (one 0x10002C roWord),
  one 0x100030 roWord,
  one 0x100040 [o .rw 31 16 0, o .rw 15 12 0, o .rw 11 8 1, o .rw 7 7 0],
  one 0x100044 [o .rw 31 0 0],
  one 0x100048 [o .wo 15 0 0],
  one 0x10004C [f .w1c 8 8 0, f .ro 7 4 0, f .ro 1 0 0],
  low (arr 0x100100 8 16 roWord),
  arr 0x100104 8 16 roWord,
  arr 0x101000 0x10 1088 [o .w1c 31 0 0],
  arr 0x101004 0x10 1088 [o .w1c 31 0 0],
  low (arr 0x101008 0x10 1088 roWord),
  arr 0x10100C 0x10 1088 roWord]

/-- TB and CAD: R326 to R329. -/
def timeRegs : List RegRow := [
  arr 0x200000 0x40 4 [o .rw 31 28 0, f .rw 27 22 0x1E, f .rw 21 16 0x22],
  arr 0x200004 0x40 4 [f .ro 31 16 0, f .rc 15 8 0, f .w1c 5 5 0, f .w1c 4 4 0, f .ro 3 2 0, f .ro 1 0 0],
  arr 0x200008 0x40 4 roWord,
  arr 0x20000C 0x40 4 [f .rw 31 16 0x3E8, f .rw 15 8 0x32, f .rw 7 0 0x1E],
  arr 0x200010 0x40 4 [f .wo 31 0 0],
  arr 0x200014 0x40 4 [o .wo 31 0 0],
  arr 0x200018 0x40 4 roWord,
  one 0x200100 [o .wo 0 0 0],
  arr 0x200110 0x10 5 roWord,
  arr 0x200114 0x10 5 [f .ro 15 0 0],
  arr 0x200118 0x10 5 [f .ro 29 0 0],
  arr 0x20011C 0x10 5 [f .ro 15 0 0],
  one 0x200180 roWord,
  one 0x200184 [f .ro 15 0 0],
  one 0x200188 roWord,
  one 0x2001C0 [f .rw 31 31 0, f .rw 30 28 0, f .rw 27 16 0x64],
  one 0x2001C4 [f .rw 31 16 0, f .rw 15 0 0],
  one 0x201000 [o .wo 31 31 0, f .rw 30 30 1, o .rw 8 8 0, f .rw 3 0 0xA],
  one 0x201004 [f .w1c 31 31 0, f .ro 30 28 0, f .ro 27 22 0, f .ro 15 8 0, f .ro 2 2 1, f .ro 1 1 0, f .ro 0 0 0],
  one 0x201008 roWord,
  arr 0x201010 4 2 [f .w1c 31 0 0],
  arr 0x201018 4 2 [f .w1c 31 0 0],
  arr 0x201020 4 2 [f .w1c 31 0 0],
  arr 0x202000 0x20 64 [o .rw 31 0 0],
  arr 0x202004 0x20 64 [o .rw 15 0 0],
  arr 0x202008 0x20 64 [o .rw 29 0 0],
  arr 0x20200C 0x20 64 [o .rw 31 30 0, o .rw 29 0 0],
  arr 0x202010 0x20 64 [o .rw 31 31 0, o .rw 15 8 0, o .rw 3 0 0]]

/-- PWR: R483. -/
def pwrRegs : List RegRow := [
  one 0x300000 [o .rw 10 8 5, o .rw 6 4 0],
  one 0x300004 [o .rw 2 0 5, o .rw 6 4 5, o .rw 10 8 5, o .rw 14 12 5, o .rw 18 16 5, o .rw 22 20 5, o .rw 26 24 5,
    o .rw 30 28 5],
  one 0x300008 [f .ro 31 29 0, f .ro 28 26 5, f .ro 25 23 7, f .ro 22 20 0, f .ro 19 16 5, f .ro 15 15 0, f .ro 14 14 0,
    f .ro 13 13 0, f .ro 12 12 0, f .ro 11 11 0, f .ro 10 10 0, f .w1c 9 9 0],
  one 0x30000C [f .rc 31 0 0],
  one 0x300010 [f .ro 23 16 0, f .ro 13 8 0, f .rw 7 0 0x64],
  one 0x300014 [f .ro 25 16 0, f .ro 9 0 0],
  one 0x300018 [f .rwl 6 0 0x40],
  arr 0x300020 4 2 [f .rc 31 0 0],
  low (one 0x300028 roWord),
  one 0x30002C roWord,
  one 0x300040 [f .rw 31 31 0, f .rw 27 24 0, f .rw 23 16 1, f .rw 15 0 0],
  one 0x300044 [f .ro 31 29 0, f .w1c 28 28 0, f .ro 27 16 0, f .rc 15 8 0, f .ro 7 0 0],
  one 0x300060 [f .rwl 23 16 0x0A, f .rwl 15 0 0],
  one 0x300064 [f .ro 31 16 0, f .ro 15 0 0],
  one 0x300068 [f .ro 31 16 0, f .ro 2 2 1, f .ro 1 1 0, f .ro 0 0 0],
  one 0x30006C [f .ro 31 16 0, f .ro 15 0 0]]

/-- HQ and JRN: R281, R282, R370, R399 to R403. -/
def hqRegs : List RegRow := [
  one 0x400000 [f .rw 31 31 0, f .rw 11 0 0],
  one 0x400004 [f .w1c 17 17 0, f .w1c 16 16 0, f .rc 15 0 0],
  arr 0x401000 4 128 [f .rw 31 31 0, f .rw 10 0 0],
  arr 0x402000 4 256 [f .rw 31 31 0, f .rc 27 12 0, f .rw 11 0 0],
  arr 0x410000 0x10 2048 [f .rw 31 2 0],
  arr 0x410004 0x10 2048 (rwWord 0),
  arr 0x410008 0x10 2048 (rwWord 0),
  arr 0x41000C 0x10 2048 [f .rw 0 0 1],
  arr 0x418000 4 64 roWord,
  arr 0x420000 0x40 4096 [f .rw 31 12 0],
  arr 0x420004 0x40 4096 (rwWord 0),
  arr 0x420008 0x40 4096 [f .rw 31 2 0],
  arr 0x42000C 0x40 4096 (rwWord 0),
  arr 0x420010 0x40 4096 [f .rw 31 2 0],
  arr 0x420014 0x40 4096 (rwWord 0),
  arr 0x420018 0x40 4096 [o .rw 31 31 0, f .rw 30 28 0, f .rw 27 23 6, f .rw 22 11 0],
  arr 0x42001C 0x40 4096 [f .ro 31 29 0, f .ro 28 26 0, f .w1c 25 25 0, f .w1c 24 24 0, f .rc 15 0 0],
  arr 0x420020 0x40 4096 roWord,
  arr 0x420024 0x40 4096 roWord,
  arr 0x460000 0x40 4096 [f .rw 31 12 0],
  arr 0x460004 0x40 4096 (rwWord 0),
  arr 0x460008 0x40 4096 [f .rw 31 2 0],
  arr 0x46000C 0x40 4096 (rwWord 0),
  arr 0x460010 0x40 4096 [f .rw 31 2 0],
  arr 0x460014 0x40 4096 (rwWord 0),
  arr 0x460018 0x40 4096 [o .rw 31 31 0, f .rw 30 30 0, f .rw 29 29 0, f .rw 28 24 6, f .rw 10 0 0],
  arr 0x46001C 0x40 4096 [f .rw 31 16 1, f .rw 15 0 0],
  arr 0x460020 0x40 4096 [f .ro 31 30 0, f .ro 29 29 0, f .ro 28 28 0, f .rc 15 0 0],
  arr 0x460024 0x40 4096 roWord,
  arr 0x460028 0x40 4096 roWord,
  one 0x5F0000 [o .rw 0 0 0],
  one 0x5F0004 [f .ro 31 16 0, f .ro 2 2 0, f .ro 1 1 0, f .ro 0 0 1],
  one 0x5F0008 [f .ro 19 0 0]]

/-- GU and KS: R422 to R426. -/
def ksRegs : List RegRow := [
  arr 0x600000 0x40 16 [f .rw 31 25 0x20, f .rw 24 24 1, f .rw 23 23 1, f .rw 22 19 0, f .rw 18 18 0, f .rw 17 16 0],
  arr 0x600004 0x40 16 [o .wo 1 1 0, o .wo 0 0 0],
  arr 0x600008 0x40 16 [f .ro 31 30 0, f .ro 29 28 0],
  arr 0x60000C 0x40 16 (rwWord 0),
  arr 0x600010 0x40 16 (rwWord 0x1EDC6F41),
  arr 0x600014 0x40 16 (rwWord 0),
  arr 0x600018 0x40 16 (rwWord 0xFFFFFFFF),
  arr 0x60001C 0x40 16 (rwWord 0),
  arr 0x600020 0x40 16 (rwWord 0xFFFFFFFF),
  arr 0x600024 0x40 16 (rwWord 0),
  arr 0x600028 0x40 16 (rwWord 0),
  arr 0x60002C 0x40 16 (rwWord 0),
  arr 0x600030 0x40 16 (rwWord 0),
  arr 0x600034 0x40 16 (rwWord 0),
  low (arr 0x600038 0x40 16 roWord),
  arr 0x60003C 0x40 16 roWord,
  one 0x600400 [f .ro 15 0 0xF000],
  one 0x700000 [f .ro 31 16 0, f .ro 9 9 0, f .ro 8 8 0, f .ro 5 3 1, f .ro 2 0 1],
  one 0x700004 [o .wo 2 2 0, o .wo 1 1 0, f .rw 0 0 0],
  one 0x700008 [f .ro 23 0 0],
  arr 0x700010 0x10 2 [f .ro 31 24 0, f .ro 23 23 0, f .ro 22 22 0, f .ro 21 21 0, f .ro 20 20 0, f .ro 19 16 0,
    f .ro 15 12 0, f .ro 11 11 0],
  low (arr 0x700014 0x10 2 roWord),
  arr 0x700018 0x10 2 roWord,
  arr 0x70001C 0x10 2 roWord]

/-- BPM: R194 to R204. -/
def bpmRegs : List RegRow := [
  one 0x800000 [o .wo 0 0 0],
  one 0x800004 [f .ro 6 6 0, f .w1c 5 5 0, f .w1c 4 4 0, f .ro 3 0 0],
  one 0x800008 [f .rwl 31 16 0x400, f .rwl 15 0 0x1000],
  one 0x80000C [f .ro 21 0 0x1FBC00],
  one 0x800010 [f .ro 20 0 0xFBC00],
  one 0x800014 [f .ro 21 0 0x200000],
  one 0x800018 [f .rc 31 0 0],
  one 0x800020 [o .rc 31 31 0, o .rc 30 27 0, o .rc 20 0 0],
  one 0x800024 [f .ro 23 0 0],
  one 0x800028 [o .wo 31 31 0, o .wo 20 0 0],
  arr 0x800100 4 16 [f .rwl 31 24 4, f .rwl 22 22 0, f .rwl 21 0 0],
  arr 0x810000 8 16384 [f .rwl 21 0 0],
  arr 0x810004 8 16384 [f .rwl 31 16 0, f .rwl 15 0 0],
  arr 0x840000 4 16384 [f .ro 22 22 0, f .ro 21 0 0],
  one 0x880000 [f .rwl 31 31 0, f .rwl 22 16 0],
  one 0x880004 [f .rwl 21 0 0],
  arr 0x880100 4 32 [f .rwl 31 0 0],
  arr 0x881000 8 128 [f .rwl 31 0 0],
  arr 0x881004 8 128 [f .rwl 31 31 0, f .rwl 25 16 0, f .rwl 15 0 0]]

/-- SCH: R230 to R237, R280. -/
def schRegs : List RegRow := [
  one 0xC00010 [o .wo 1 1 0, f .ro 0 0 0],
  arr 0xC00040 4 16 [f .rwl 2 0 0],
  arr 0xC01000 4 1024 [f .rwl 31 31 0, f .rw 30 30 0, f .rwl 29 15 0x2400, f .rw 7 0 0],
  arr 0xC03000 4 1024 [f .rw 31 16 0xFFFF, f .rw 15 8 0, f .rw 7 0 0],
  arr 0xC05000 4 1024 [f .rwl 31 16 0x1000, f .rwl 7 0 0x64],
  arr2 0xC06000 0x10 1024 4 4 [f .rwl 21 0 0],
  arr 0xC0A000 4 32 [o .rw 31 0 0],
  arr 0xC10000 4 16384 [f .rw 31 16 0x800, f .rw 15 15 0, f .rw 14 12 0, f .rw 11 10 0, f .rw 5 4 0, f .rw 2 0 0],
  arr 0xC20000 4 4096 [f .rw 31 16 0x800, f .rw 2 0 0],
  arr2 0xC40000 0x10 21504 8 2 [o .rw 31 0 0],
  arr2 0xC40004 0x10 21504 8 2 [o .rw 31 31 0, o .rw 23 0 0],
  arr 0xCA0000 4 21504 [f .ro 31 0 0],
  arr 0xD00000 4 32768 [o .rw 31 31 0, o .rw 25 18 0, o .rw 17 0 0],
  arr 0xE00000 4 262144 [f .rw 15 15 0, f .rw 13 0 0]]

/-- SPn: R86, R118, R126, R144, R147 to R149, R277 to R279. -/
def spanRegs : List RegRow := [
  arr 0x1008000 0x100000 16 [f .rwl 31 0 1],
  arr 0x1009000 0x100000 16 [o .wo 2 2 0, o .wo 1 1 0, o .w1s 0 0 0],
  arr 0x1009004 0x100000 16 [f .ro 31 16 0, f .ro 15 4 0, f .ro 3 3 0, f .ro 2 0 0],
  arr 0x100A000 0x100000 16 [f .rw 8 8 0, f .rw 6 4 0, o .wo 1 1 0, f .rwl 0 0 1],
  arr 0x100A004 0x100000 16 [f .ro 31 31 0, f .ro 30 28 4, f .ro 27 25 3, f .ro 24 22 2, f .ro 21 19 1, f .ro 18 16 0,
    f .ro 15 15 0, f .ro 14 12 4, f .ro 11 9 3, f .ro 8 6 2, f .ro 5 3 1, f .ro 2 0 0],
  arr 0x100A008 0x100000 16 [f .ro 19 18 0, f .ro 17 16 0, f .ro 12 8 0, f .ro 4 0 0],
  arr2 0x100B000 0x100000 16 4 64 [f .rw 15 10 0, f .rw 9 6 0],
  arr2 0x100C000 0x100000 16 0x10 240 [o .rwl 31 31 0, o .rwl 30 28 0, o .rwl 27 27 0, o .rwl 26 24 0, o .rwl 23 18 0,
    o .rwl 17 14 0, o .rwl 13 9 0],
  arr2 0x100C004 0x100000 16 0x10 240 [o .rwl 31 25 0, o .rwl 24 18 0, o .rwl 17 13 0, o .rwl 12 7 0],
  arr2 0x100CF00 0x100000 16 4 8 [f .rwl 31 0 0xFFFFFFFF]]

/-- LANE: R361 to R366. -/
def laneRegs : List RegRow := [
  arr 0x2000000 0x1000 1024 [o .rw 31 31 0, f .rw 30 29 0, f .rw 28 27 0, f .rw 26 26 1, f .rw 25 25 1, f .rw 24 24 0,
    f .rw 23 23 0, f .rwl 22 21 0, f .rwl 20 18 0, f .rw 17 17 0],
  arr 0x2000004 0x1000 1024 [f .ro 31 28 0, f .ro 27 27 0, f .ro 26 26 0, f .ro 25 25 0, f .ro 24 24 0, f .ro 23 23 0,
    f .ro 22 22 0, f .ro 21 21 0, f .ro 20 16 0],
  arr 0x2000010 0x1000 1024 [f .ro 31 24 0, f .ro 23 16 0, f .ro 15 8 0, f .ro 7 0 0x40],
  arr 0x2000014 0x1000 1024 [f .ro 15 8 0, f .ro 7 0 0],
  arr 0x2000018 0x1000 1024 [o .rwl 31 31 0, o .rw 15 0 0],
  arr 0x200001C 0x1000 1024 [f .ro 31 16 0, f .ro 15 0 0],
  arr 0x2000020 0x1000 1024 [f .rw 31 27 0x14, f .rw 23 0 0xDED2],
  arr 0x2000040 0x1000 1024 [o .wo 31 31 0, o .wo 30 30 0, f .rw 29 28 1, f .rw 27 27 0, f .rw 26 22 0x14, f .rw 21 16 0],
  arr 0x2000044 0x1000 1024 [f .ro 14 8 0, f .ro 1 0 0],
  low (arr2 0x2000100 0x1000 1024 8 5 roWord),
  arr2 0x2000104 0x1000 1024 8 5 roWord,
  low (arr2 0x2000180 0x1000 1024 8 16 roWord),
  arr2 0x2000184 0x1000 1024 8 16 roWord,
  arr2 0x2000800 0x1000 1024 4 32 [f .ro 31 16 0, f .ro 15 0 0]]

/-- PIER: R367. -/
def pierRegs : List RegRow := [
  arr 0x2400000 0x100 4 [o .rw 31 31 1, f .rw 30 29 2, f .rw 28 27 1, f .rw 26 26 0],
  arr 0x2400004 0x100 4 [f .ro 31 29 0, f .ro 28 27 0, f .w1c 26 26 0, f .w1c 25 25 0, f .w1c 24 24 0, f .rc 23 16 0],
  arr 0x2400008 0x100 4 [o .wo 1 1 0, o .wo 0 0 0],
  arr 0x240000C 0x100 4 [o .wo 0 0 0],
  arr 0x2400010 0x100 4 [f .rc 31 0 0],
  arr 0x2400014 0x100 4 [f .rc 31 0 0],
  arr 0x2400020 0x100 4 [f .rw 31 30 0, f .rw 29 28 0, f .rw 15 0 0x3E8],
  arr 0x2400024 0x100 4 [o .rw 31 0 0]]

/-- TEL: R302 to R304. -/
def telRegs : List RegRow := [
  one 0x2500000 [o .wo 0 0 0],
  one 0x2500004 roWord,
  one 0x2500008 roWord,
  one 0x2500010 [f .rw 23 0 0],
  one 0x2500014 (rwWord 0),
  one 0x2500018 [f .rw 23 0 0],
  arr 0x2500020 4 4 [f .rw 16 16 0, f .rw 15 0 0],
  arr 0x2501000 8 64 [o .rw 31 31 0, o .rw 30 30 0, o .rw 29 29 0, o .rw 11 0 0],
  arr 0x2501004 8 64 [o .rw 23 0 1],
  one 0x2502000 [f .rw 10 4 0, f .rw 3 0 0],
  one 0x2FF0000 roWord,
  arr 0x2FF1000 8 64 [f .rw 31 31 0, f .rw 30 30 0, f .rw 29 27 0, f .rw 13 0 0],
  arr 0x2FF1004 8 64 (rwWord 0)]

/-- The rows of the 1 MiB page that an offset lies in, by the BAR0 map (R40). -/
def regPage (page : Nat) : List RegRow :=
  if page = 0 then chipRegs
  else if page = 1 then fcRegs
  else if page = 2 then timeRegs
  else if page = 3 then pwrRegs
  else if page < 6 then hqRegs
  else if page < 8 then ksRegs
  else if page < 0xC then bpmRegs
  else if page < 0x10 then schRegs
  else if page < 0x20 then spanRegs
  else if page < 0x24 then laneRegs
  else if page = 0x24 then pierRegs
  else telRegs

/-- Whether the row holds a register at the offset. -/
def RegRow.has (r : RegRow) (off : Nat) : Bool :=
  if off < r.base then false
  else
    let d := off - r.base
    let i := if r.stride = 0 then 0 else min (d / r.stride) (r.count - 1)
    let e := d - i * r.stride
    let j := if r.stride2 = 0 then 0 else min (e / r.stride2) (r.count2 - 1)
    e = j * r.stride2

/-- The row of the register at an offset, if some block decodes one there (R16). -/
def regRow (off : Nat) : Option RegRow := (regPage (off / 0x100000)).find? (fun r => r.has off)

/-- The value of a field of `hi − lo + 1` bits. -/
def getBits (w : Word) (hi lo : Nat) : Nat := w.toNat / 2 ^ lo % 2 ^ (hi - lo + 1)

/-- The word with a field replaced (the value modulo the width of the field). -/
def setBits (w : Word) (hi lo : Nat) (v : Nat) : Word :=
  BitVec.ofNat 32 (w.toNat - getBits w hi lo * 2 ^ lo + v % 2 ^ (hi - lo + 1) * 2 ^ lo)

/-- The reset value of the register at an offset: its fields at their reset values, all else 0. -/
def resetWord (off : Nat) : Word :=
  match regRow off with
  | none => 0
  | some r => r.fields.foldl (fun w x => setBits w x.hi x.lo x.reset) 0

/-- A write of a field under its access type (R12): `lockOk` says that RWL fields take the write. -/
def writeField (lockOk : Bool) (old new : Word) (x : RegField) (acc : Word) : Word :=
  if x.own then acc
  else
    let o := getBits old x.hi x.lo
    let n := getBits new x.hi x.lo
    match x.acc with
    | .ro | .rc | .wo => acc
    | .rw => setBits acc x.hi x.lo n
    | .rwl => if lockOk then setBits acc x.hi x.lo n else acc
    | .w1c => setBits acc x.hi x.lo (o - (o &&& n))
    | .w1s => setBits acc x.hi x.lo (o ||| n)

/-- A write of a whole word to a register: every field that has no command of its own takes it. -/
def writeWord (r : RegRow) (lockOk : Bool) (old new : Word) : Word :=
  r.fields.foldl (fun acc x => writeField lockOk old new x acc) old

/-- Some RWL field of the register would change (R12). -/
def rwlDiffers (r : RegRow) (old new : Word) : Bool :=
  r.fields.any (fun x => x.acc = .rwl && !x.own && getBits old x.hi x.lo ≠ getBits new x.hi x.lo)

/-- A read clears the RC fields (R12). -/
def clearRc (r : RegRow) (old : Word) : Word :=
  r.fields.foldl (fun acc x => if x.acc = .rc && !x.own then setBits acc x.hi x.lo 0 else acc) old

end Sys2Proof.Machine
end

