-- ==== Sys2Proof/Machine/Tbl.lean ====
section
/-! DEFINITION. Sparse tables: a list of key and value pairs in one canonical form, keys strictly rising and no entry
equal to the default of its key. Equal tables are therefore equal data. Every store, queue bank and register file of
the device that has more than a few elements is held in this form. -/

namespace Sys2Proof.Machine

/-- A sparse table. The default of a key is given by the function `d` of each operation. -/
abbrev Tbl (α : Type) := List (Nat × α)

/-- What the table holds under key `k`. -/
def Tbl.get {α : Type} (d : Nat → α) : Tbl α → Nat → α
  | [], k => d k
  | (k', v) :: t, k => if k = k' then v else Tbl.get d t k

/-- Take every entry of key `k` out. -/
def Tbl.del {α : Type} : Tbl α → Nat → Tbl α
  | [], _ => []
  | (k', v) :: t, k => if k = k' then Tbl.del t k else (k', v) :: Tbl.del t k

/-- Write an entry, keeping the keys in rising order. -/
def Tbl.ins {α : Type} : Tbl α → Nat → α → Tbl α
  | [], k, v => [(k, v)]
  | (k', v') :: t, k, v =>
    if k < k' then (k, v) :: (k', v') :: t
    else if k = k' then (k, v) :: t
    else (k', v') :: Tbl.ins t k v

/-- Write `v` under key `k`; writing the default takes the entry out. -/
def Tbl.put {α : Type} [DecidableEq α] (d : Nat → α) (t : Tbl α) (k : Nat) (v : α) : Tbl α :=
  if v = d k then Tbl.del t k else Tbl.ins t k v

/-- Change what the table holds under key `k`. -/
def Tbl.mod {α : Type} [DecidableEq α] (d : Nat → α) (t : Tbl α) (k : Nat) (f : α → α) : Tbl α :=
  Tbl.put d t k (f (Tbl.get d t k))

/-- Every key of the table is above `k`. -/
def Tbl.above {α : Type} (k : Nat) (t : Tbl α) : Bool := t.all (fun e => decide (k < e.1))

/-- The canonical form. -/
def Tbl.wf {α : Type} [DecidableEq α] (d : Nat → α) : Tbl α → Bool
  | [] => true
  | (k, v) :: t => Tbl.above k t && (!decide (v = d k)) && Tbl.wf d t

end Sys2Proof.Machine
end

