-- ==== Sys2Proof/Machine/Types.lean ====
section
/-! DEFINITION. The parts of the device's state, chapter by chapter, as plain data. Every field carries its reset
value; a value the spec does not give is a DESIGN CHOICE named in notes/assumptions/2.md. -/

namespace Sys2Proof.Machine

/-- The device states (R484). -/
inductive DevState where
  | off | startUp | service | test | recovery | safe
deriving DecidableEq, Repr

/-- The code of a state in CHIP_STATE and in fault records (R484). -/
def DevState.code : DevState → Nat
  | .off => 0 | .startUp => 1 | .service => 2 | .test => 3 | .recovery => 4 | .safe => 5

/-- What leaves the device: what a link, a bus or the host sees. -/
inductive Emission where
  /-- A transmitted frame: port, the bytes from the deck header or destination address to the FCS, and whether it was
  ended with an inverted FCS (R36, R249). -/
  | frame (port : Nat) (bytes : List Byte) (stomped : Bool)
  /-- A PFC frame: port, enabled priorities, and the eight times (R219). -/
  | pfc (port : Nat) (enable : Nat) (times : List Nat)
  /-- A viaduct control frame: port and its 64 bytes, deck header, body and CRC-32 (R223). -/
  | viaControl (port : Nat) (bytes : List Byte)
  /-- A frame on a pier link: link and bytes from TYPE to CRC (R355). -/
  | pier (link : Nat) (bytes : List Byte)
  /-- Special symbols on a pier link: link, the symbol (28 for K28.1, 30 for K30.7, 285 for K28.5 idle,
  0 for silence) and how many (0: until further notice). -/
  | pierSymbols (link : Nat) (symbol count : Nat)
  /-- An MSI-X message: vector, address, data (R370, R394). -/
  | msix (vector : Nat) (addr : Nat) (data : Word)
  /-- A PMBus transaction: command code and data (R468, R470). -/
  | pmbus (address command data : Nat)
  /-- The Clause 73 page that a port advertises: the PHY type, RS-FEC, and symmetric pause (R338). -/
  | anPage (port : Nat) (phy : PhyType) (rsFec pause : Bool)
  /-- A Clause 73 next page of a port, a null message (R334). -/
  | anNull (port : Nat)
  /-- A lane starts or stops transmitting, or sends a training or fault pattern. -/
  | lane (lane : Nat) (what : String) (value : Nat)
  /-- A message that the PTP service sends: port, type (8 Follow_Up, 9 Delay_Resp), sequence, and the time that it carries
  in 2^−16 ns (R418). -/
  | ptp (port type seq : Nat) (time : Int)
  /-- A level or an edge of a pin of the package. -/
  | pin (name : String) (level : Bool)
deriving DecidableEq, Repr

/-! ### Faults (chapter 13) -/

/-- What is kept of one source (R428, R429, R435). -/
structure SourceRec where
  cause   : Bool := false
  live    : Bool := false
  count   : Nat := 0
  firstTs : Word := 0
  detail  : DWord := 0
  /-- what the last occurrence names beside its source, where a rule has the fault name something that DETAIL does not
  hold: a port, a class, a queue, a group, or a table and a row (R32, R160, R188, R206, R208; assumption 94) -/
  names   : List Nat := []
  cls     : FaultClass := .d
  /-- time-unit instant of the last class-N record (R435) -/
  lastN   : Option Nat := none
deriving DecidableEq, Repr

/-- A fault record that waits to be written (R435). -/
structure FaultRecord where
  source    : Nat
  cls       : FaultClass
  flags     : Nat
  count     : Nat
  state     : Nat
  ts        : Word
  sec       : Word
  detail    : DWord
  lastClean : Word
  device    : Nat
  /-- its cell of the RECORD pool (R184) -/
  cell      : Nat
deriving DecidableEq, Repr

/-- The states of an injection (R455, R463). -/
inductive InjState where
  | idle | keyed | armed | done
deriving DecidableEq, Repr

/-- The fault collector, its pins and its injection logic. -/
structure FcState where
  src        : Tbl SourceRec := []
  /-- the instants of the latest corrections of each element, newest first (R433) -/
  corrected  : Tbl (List Nat) := []
  /-- DETAIL of the packet that each pipeline stage last made a correction for (R432, R433) -/
  corrDetail : Tbl Nat := []
  records    : List FaultRecord := []
  /-- the collector's self-test has passed (R437) -/
  selfTest   : Bool := false
  /-- a class-D fault has been latched since the last reset that left SAFE (R437, R446) -/
  errD       : Bool := false
  errSTimer  : Bool := false
  /-- consecutive reads in which the ball of ERR_D_P, ERR_D_N or ERR_S differed from what the device drives (R440) -/
  disagreeP  : Nat := 0
  disagreeN  : Nat := 0
  disagreeS  : Nat := 0
  /-- the copy of the decision logic that drives its pin of ERR_D inverted while the copies disagree: false for A, true
  for B (R437) -/
  errFlip    : Option Bool := none
  /-- the time-unit instant at which the safe state was entered (R442) -/
  safeAt     : Option Nat := none
  /-- fence bits by party (R451) -/
  fences     : List Nat := []
  /-- bank groups out of allocation (R434) -/
  retired    : List Nat := []
  /-- management views by kind × 65,536 + unit (R453) -/
  mgmt       : Tbl Bool := []
  /-- since when the two views of a unit diverge (R454) -/
  diverged   : Tbl Nat := []
  inj        : InjState := .idle
  injFired   : Nat := 0
  /-- the source whose next occurrence carries INJECTED (R456), and the kind of the firing: 0 to 2 while it still waits for
  the source's next check, 5 once it has met one (R526) -/
  injNext    : Option Nat := none
  injKind    : Nat := 0
  /-- SUPPRESS is in force for the last firing (R456) -/
  injQuiet   : Bool := false
  /-- the reaction under way goes back to a firing: what it raises carries INJECTED (R456) -/
  reacting   : Bool := false
  /-- the source whose condition or line an injection holds (R455) -/
  injHeld    : Option Nat := none
  /-- what it holds is the block's error line -/
  injLine    : Bool := false
  /-- faults latched while the decision logic is being checked, oldest first: source, class, and whether they go back to
  an injection; their reactions wait (R26) -/
  waiting    : List (Nat × FaultClass × Bool) := []
  /-- the safe state is complete: Local Fault on every front-panel port (R443) -/
  safeDone   : Bool := false
deriving DecidableEq, Repr

/-! ### The chip (chapters 01 and 15) -/

/-- A die-to-die link (R18). -/
structure D2dLink where
  failed  : Bool := false
  /-- the spare that carries its traffic -/
  spare   : Option Nat := none
deriving DecidableEq, Repr

/-- The phase of a lockstep pair (R26). -/
inductive LockPhase where
  | paired | checking | joining
deriving DecidableEq, Repr

/-- A chip-level lockstep block (R25 to R27). -/
structure LockPair where
  phase       : LockPhase := .paired
  standbyUsed : Bool := false
  fencedA     : Bool := false
  fencedB     : Bool := false
  /-- the copy that the known-answer sequence has named, until grants resume -/
  failed      : Option Nat := none
deriving DecidableEq, Repr

/-- The phases of a warm reset (R265). -/
inductive WarmPhase where
  | none | hold | sealed | released | audited | resumed
deriving DecidableEq, Repr

/-- The phases of a span reset (R263). -/
inductive SpanPhase where
  | none | requested | logicReset | recopied | vectorsDone | replaying
deriving DecidableEq, Repr

structure ChipState where
  mode        : DevState := .startUp
  sysclkLost  : Bool := false
  pcieRefLost : Bool := false
  /-- spans whose REFCLK_SDn is lost -/
  sdRefLost   : List Nat := []
  d2d         : Tbl D2dLink := []
  lockPool    : LockPair := {}
  lockFree    : LockPair := {}
  lockOrder   : LockPair := {}
  lockColl    : LockPair := {}
  warm        : WarmPhase := .none
  /-- spans under span reset (R263) -/
  spans       : Tbl SpanPhase := []
  /-- a commit under R185 has succeeded since cold reset (R486) -/
  committed   : Bool := false
  /-- level of STRAP0 as sampled (R515) -/
  strap0      : Bool := false
  /-- fuse words found uncorrectable (R502) -/
  badFuses    : BitVec 8 := 0
  /-- port groups in reset hold, by span × 4 + group (R262); in START-UP every one is (R484) -/
  hold        : List Nat := List.range 64
deriving DecidableEq, Repr

/-! ### Shared buffer (chapter 05) -/

/-- A link word (R165). -/
structure LinkWord where
  next   : Nat := 0
  last   : Bool := false
  alloc  : Bool := false
  refcnt : Nat := 0
  owner  : Holder := 0
  fill   : Nat := 0
  guard  : Word := 0
deriving DecidableEq, Repr

/-- A frame descriptor (R167). -/
structure Desc where
  first     : Nat := 0
  last      : Nat := 0
  cells     : Nat := 0
  gen       : Bool := false
  accepted  : Bool := false
  lossless  : Bool := false
  ct        : Bool := false
  alloc     : Bool := false
  quar      : Bool := false
  shdesc    : Bool := false
  portinfo  : Word := 0
  len       : Nat := 0
  dest      : Nat := 0
  seq       : Word := 0
  tsIn      : Word := 0
  egress    : Word := 0
  copy      : Word := 0
  bridge0   : Word := 0
  bridge1   : Word := 0
  bridge2   : Word := 0
  bridge3   : Word := 0
  egOp      : Nat := 0
  nextIndex : Nat := 0
deriving DecidableEq, Repr

/-- The free list of a bank group (R169). -/
structure FreeList where
  head  : Nat
  tail  : Nat
  count : Nat
deriving DecidableEq, Repr

/-- The charges of a pair (R186). -/
structure PairUse where
  res    : Nat := 0
  sh     : Nat := 0
  hd     : Nat := 0
  paused : Bool := false
deriving DecidableEq, Repr

/-- An entry of the buffer pool manager's fault log (R199). -/
structure FlogEntry where
  kind   : Nat
  id     : Nat
  holder : Holder
deriving DecidableEq, Repr

/-- A holder operation that waits while the manager holds its outputs (R26). -/
structure HolderReq where
  desc    : Nat
  holder  : Holder
  add     : List Holder
  newDest : Option Nat
deriving DecidableEq, Repr

structure BufState where
  /-- bytes of the cells, by cell × 256 + byte (R163) -/
  mem       : List (Nat × Byte) := []
  link      : Tbl LinkWord := []
  desc      : Tbl Desc := []
  free      : Tbl FreeList := []
  /-- the next descriptor never used, and the returned ones, oldest first (R168) -/
  freshDesc : Nat := 0
  freeDesc  : List Nat := []
  /-- the bank group last taken by each writer (R170) -/
  rot       : Tbl Nat := []
  pair      : Tbl PairUse := []
  clsSh     : Tbl Nat := []
  globSh    : Nat := 0
  globDesc  : Nat := 0
  head      : Tbl Nat := []
  hostUse   : Nat := 0
  /-- the limits in force: the registers as applied by the last COMMIT (R185) -/
  limits    : Tbl Word := []
  misdirect : Option Nat := none
  flog      : List FlogEntry := []
  /-- heads that the record writer has found ALLOCATED and passed over, whose FREE_LIST faults are still to be raised
  (R172) -/
  found     : List Nat := []
  /-- holder operations asked for while the manager holds its outputs, oldest first (R26) -/
  waiting   : List HolderReq := []
deriving DecidableEq, Repr

/-! ### Arriving frames (chapters 01 and 04) -/

/-- The values of the four time bases at one instant, in 2^−48 ns (R308, R358). -/
structure Stamp where
  b0 : Nat := 0
  b1 : Nat := 0
  b2 : Nat := 0
  b3 : Nat := 0
deriving DecidableEq, Repr

/-- A frame that is arriving on a port, from its SFD to its end. -/
structure RxFrame where
  /-- its descriptor, once a cell has been written -/
  desc    : Option Nat := none
  gen     : Bool := false
  tsIn    : Word := 0
  /-- the four time bases at its delimiter (R308) -/
  stamp   : Stamp := {}
  deck    : DWord := 0
  viaduct : Bool := false
  /-- SPn_PORT_CFG_p when its delimiter arrived (R144) -/
  cfg     : Word := 0
  bytes   : Nat := 0
  /-- the pair that it has been classified into (R297) -/
  pair    : Option Nat := none
  /-- the rest of the arrival is discarded -/
  discard : Bool := false
deriving DecidableEq, Repr

/-- What the parser finds in a frame (R131 to R136). -/
structure Parsed where
  hv       : Tbl Word := []
  pflags   : Word := 0
  hdrValid : Word := 0
  /-- where each header present starts, by header index -/
  offsets  : List (Nat × Nat) := []
  /-- the last IPv6 next header that the chain followed (R139) -/
  proto    : Nat := 0
  /-- the last next header of the outer IPv6 header and its extension headers, followed or not (R289) -/
  upper    : Nat := 0
deriving DecidableEq, Repr

/-- The region that a frame's cells are charged to (R184). -/
inductive Region where
  | head | pair | host
deriving DecidableEq, Repr

/-- What the device keeps of a frame beside its descriptor while it is in the buffer. -/
structure FrameInfo where
  port      : Nat := 0
  /-- the submission ring of a host-transmit packet -/
  ring      : Option Nat := none
  deck      : DWord := 0
  viaduct   : Bool := false
  /-- SPn_PORT_CFG_p when its delimiter arrived (R144) -/
  cfg       : Word := 0
  /-- CT_CLASS_EN when its first cell was written (R43) -/
  ctMask    : Nat := 0
  /-- the four time bases at its delimiter (R308) -/
  stamp     : Stamp := {}
  /-- queues that copies of it were placed in, and selected from, before its length was known (R297) -/
  placed    : List Nat := []
  taken     : List Nat := []
  ended     : Bool := false
  good      : Bool := false
  /-- no further cell is written (R177) -/
  stopped   : Bool := false
  parsed    : Option Parsed := none
  classified : Bool := false
  /-- class, and the sequence is assigned -/
  tc        : Nat := 0
  region    : Region := .head
  /-- the ingress pass has ended and its result reached the order keeper -/
  ingressDone : Bool := false
  /-- it has taken a slot of an ingress pipeline -/
  entered   : Bool := false
  /-- the result has been released (R245) -/
  released  : Bool := false
  /-- the lease on it has been revoked before it was accepted, and its sequence is void (R451) -/
  revoked   : Bool := false
  voided    : Bool := false
  /-- the group and the hop class of its arrival, for R226 and R227 -/
  hopClass  : Nat := 0
  acceptedVia : Bool := false
deriving DecidableEq, Repr

structure RxState where
  frames   : Tbl (Option RxFrame) := []
  info     : Tbl FrameInfo := []
  /-- arrival queues by span × 4 + group: descriptors, oldest first (R32) -/
  arrivals : Tbl (List Nat) := []
  xoff     : List Nat := []
  /-- groups whose overload at 16,384 frames has been reported -/
  overload : List Nat := []
deriving DecidableEq, Repr

/-! ### Koltan pipelines (chapter 02) -/

/-- Why a packet entered a pipeline (R51). -/
inductive Origin where
  | arrival | host | recirc | replay | kat | copy
deriving DecidableEq, Repr

/-- The EMIT controls latched in a pass (R72, R73). -/
structure Latched where
  qset    : Bool := false
  mirror  : Bool := false
  tocpu   : Bool := false
  ioam    : Bool := false
  nohist  : Bool := false
  nodigest : Bool := false
  csum4   : Bool := false
  csuml4  : Bool := false
deriving DecidableEq, Repr

/-- The route word (R49). -/
structure Route where
  opcode : Nat := 0
  gen    : Bool := false
  recirculated : Bool := false
  drop   : Bool := false
  ended  : Bool := false
  replay : Bool := false
  kat    : Bool := false
  vctx   : Bool := false
  reason : Nat := 0
  /-- a second ingress pass has been requested (R60) -/
  recircReq : Bool := false
deriving DecidableEq, Repr

/-- A queue copy (R205). -/
structure QEntry where
  desc : Nat
  idx  : Nat
  tag  : Nat
  /-- it stands in the common pool of queue entries -/
  pool : Bool := false
  /-- the bytes of a GLF-7220 message frame, which has no descriptor (R192); otherwise none -/
  msg  : List Byte := []
deriving DecidableEq, Repr

/-- The mirror and CPU copies that a pass has requested, with MD7 as the pass left it (R72), and whether that pass set
DROP, with its reason (R293). -/
structure CopyReq where
  mirror : Bool
  cpu    : Bool
  md7    : Word
  drop   : Bool
  reason : Nat
deriving DecidableEq, Repr

/-- A packet in a pipeline. -/
structure Packet where
  pass    : Pass
  span    : Nat
  pipe    : Nat
  group   : Nat
  origin  : Origin
  /-- the frame; none for a known-answer vector -/
  desc    : Option Nat
  /-- the queue and its entry, in the egress pass -/
  copy    : Option (Nat × QEntry)
  stage   : Nat := 0
  hv      : Tbl Word := []
  md      : Tbl Word := []
  route   : Route := {}
  latched : Latched := {}
  parsed  : Parsed := {}
  /-- copies that an earlier pass of a recirculated packet has requested -/
  requests : List CopyReq := []
  /-- the free pipeline runs this packet too (R252) -/
  shadowed : Bool := false
  /-- it is the replay of a packet that met a check failure in this pipeline, in that stage (R81, R433) -/
  failedAt : Option Nat := none
  /-- the HIT bits that the pass has set: the key of the row and the bit (R80, R160) -/
  hits    : List (Nat × Nat) := []
  /-- the place of a known-answer vector in the suite (R254) -/
  vector  : Nat := 0
deriving DecidableEq, Repr

/-- The result of an ingress pass, held for its sequence (R245). -/
structure Result where
  port    : Nat
  tc      : Nat
  seq     : Word
  desc    : Nat
  pipe    : Nat
  drop    : Bool
  reason  : Nat
  md6     : Word
  md7     : Word
  bridge  : List Word
  egOp    : Nat
  requests : List CopyReq
  /-- it came after a compare of its pipeline had failed (R256) -/
  after   : Bool
  /-- a DIRECT host packet, which has made no ingress pass (R386) -/
  direct  : Bool := false
deriving DecidableEq, Repr

/-- A replay that waits for a slot: an ingress frame, or an egress copy (R80, R247). -/
structure Replay where
  desc : Nat
  copy : Option (Nat × QEntry)
  /-- the stage of the pipeline in which the packet met a check failure before -/
  failedAt : Option Nat
deriving DecidableEq, Repr

/-- What one pass of a span holds beside its packets, by span × 2 + pass. -/
structure PassState where
  /-- the physical pipeline that serves each group -/
  svc      : List Nat := [0, 1, 2, 3]
  free     : Option Nat := some 4
  faulty   : List Nat := []
  shadowOn : Bool := false
  target   : Nat := 0
  /-- the shadow period has ended and the free pipeline drains (R252) -/
  draining : Bool := false
  /-- mismatch resolution (R256): 0 none, 1 draining, 2 vectors, 3 rerun -/
  resolving : Nat := 0
  /-- the packet whose compare failed -/
  disputed : Option Nat := none
  /-- the group that is being moved to the free pipeline (R257), and whether the free pipeline has drained -/
  switching : Option Nat := none
  drained  : Bool := false
  /-- the pipeline under reinstatement (R261) -/
  reinstating : Option Nat := none
  /-- groups that no pipeline serves (R260) -/
  unserved : List Nat := []
  /-- the switch under way goes back to an injection (R456) -/
  injected : Bool := false
deriving DecidableEq, Repr

/-- What one physical pipeline holds, by span × 10 + pass × 5 + pipe. -/
structure PipeState where
  lastClean : Word := 0
  /-- the vector of the suite that the next insertion takes (R254) -/
  katNext   : Nat := 0
  /-- the vector that failed, and runs again in the next vector slot (R255) -/
  katBad    : Option Nat := none
  /-- vectors inserted that wait for a slot, oldest first: the generation each was stamped with, and its place in the
  suite (R108, R254) -/
  katWait   : List (Bool × Nat) := []
  /-- slots taken that no core clock has been counted for yet (R300) -/
  owed      : Nat := 0
deriving DecidableEq, Repr

structure PipesState where
  packets  : Tbl (Option Packet) := []
  nextPkt  : Nat := 0
  pass     : Tbl PassState := []
  pipe     : Tbl PipeState := []
  /-- waiting replays and recirculations, by span × 8 + pass × 4 + group -/
  replays  : Tbl (List Replay) := []
  recirc   : Tbl (List Nat) := []
  /-- host-transmit packets assigned to a pipeline, by span × 4 + group -/
  hostTx   : Tbl (List Nat) := []
  /-- whose turn it is between arrivals and host packets (R51) -/
  hostTurn : Tbl Bool := []
  /-- copies chosen by the scheduler that wait for an egress slot, by span × 4 + group -/
  selected : Tbl (List (Nat × QEntry)) := []
deriving DecidableEq, Repr

/-! ### Stores, tables and trestle engines (chapters 03 and 04) -/

structure ProgState where
  /-- the content of the stores, by generation and item; every copy holds it (R87, R88) -/
  base     : Tbl Nat := []
  /-- items of single copies that differ from the others (R130) -/
  deviant  : Tbl (Option Nat) := []
  /-- the item last captured by a window read, and its bits (R129) -/
  captured : Option (Nat × Nat) := none
  /-- the item that collects window writes, and its bits (R129) -/
  staging  : Option (Nat × Nat) := none
  /-- the region of the load in progress: true for customer (R105) -/
  loadCust : Bool := false
  /-- MC_SHADOW.STATE before the load in progress (R98) -/
  loadPrev : Nat := 0
  /-- VENDOR_REQ of the customer region held by generation A and by B (R97) -/
  reqA     : Word := 0
  reqB     : Word := 0
  /-- the owner-key fuses (R96) -/
  ownerHash : List Word := []
  ownerEn  : Bool := false
  /-- VK0 and VK1, the hashes of the vendor's keys that are fused at manufacture, and their revocation fuses (R95) -/
  vk0      : List Word := (List.range 12).map (Config.vendorKeyHash false)
  vk1      : List Word := (List.range 12).map (Config.vendorKeyHash true)
  revoked0 : Bool := false
  revoked1 : Bool := false
  /-- the cadence slot of the armed joint (R112), whether its check has passed (R113), and whether it is cancelled -/
  joint    : Option Nat := none
  jointChecked : Bool := false
  jointCancel : Bool := false
deriving DecidableEq, Repr

/-- A classifier rule (R140): its control word is [31] V_A, [30] V_B, [15:0] the action word. -/
structure Rule where
  value : Nat := 0
  mask  : Nat := 0
  ctl   : Word := 0
deriving DecidableEq, Repr

structure TableState where
  /-- rows of the SRAM units, by span × 2^18 + unit × 2^11 + row (R145) -/
  sram  : Tbl Nat := []
  /-- values and masks of the ternary units, by span × 2^16 + unit × 2^11 + row -/
  tval  : Tbl Nat := []
  tmask : Tbl Nat := []
  /-- classifier rules, by span × 2^12 + rule -/
  rules : Tbl Rule := []
  /-- the age period of each table in seconds (R162, R417) -/
  period : Tbl Nat := []
deriving DecidableEq, Repr

/-- What the routine of a request does: a TABLE request by its function, bytes 8 to 63 of its entry and the record that was
read for it (R415, R416), or the sweep of a table (R162). -/
inductive EngineWork where
  | table (fn : Nat) (body record : List Byte)
  | aging (table : Nat)
deriving DecidableEq, Repr

/-- A request that waits at a trestle engine: the entry word of its routine, the submission ring whose command it
carries out, and what it does. -/
structure TrestleReq where
  entry : Nat
  ring  : Option Nat
  work  : Option EngineWork := none
deriving DecidableEq, Repr

/-- A trestle engine (R121 to R126). -/
structure Trestle where
  /-- SPn_TR_STATUS.STATE: 0 IDLE, 1 RUNNING, 2 STOPPING, 3 STOPPED, 4 FAULTED -/
  state   : Nat := 0
  /-- the generation the routine runs from -/
  gen     : Bool := false
  /-- the entry word, and the word at the last boundary -/
  entry   : Nat := 0
  pc      : Nat := 0
  regs    : Tbl DWord := []
  ctx     : Bool := false
  /-- the routine writes V bits of the shadow generation (R112, R113) -/
  touches : Bool := false
  /-- the routine started while a joint was armed (R112) -/
  late    : Bool := false
  /-- requests that wait, oldest first -/
  queued  : List TrestleReq := []
  /-- the submission ring whose request the engine runs, if one does (R124) -/
  owner   : Option Nat := none
  /-- what its routine does -/
  work    : Option EngineWork := none
  /-- an instruction of the routine has changed a table -/
  acted   : Bool := false
deriving DecidableEq, Repr

/-! ### Order keeper and ledger (chapter 07) -/

/-- A ledger entry's STATE (R243). -/
inductive LedgerState where
  | free | accepted | released
deriving DecidableEq, Repr

structure LedgerEntry where
  seq    : Word := 0
  port   : Nat := 0
  cls    : Nat := 0
  device : Nat := 0
  state  : LedgerState := .free
deriving DecidableEq, Repr

/-- What waits at the order keeper for a sequence of a pair. -/
inductive Held where
  | result (r : Result)
  | void
deriving DecidableEq, Repr

/-- The order keeper's view of a pair (R244). -/
structure PairOrder where
  assign  : Word := 0
  release : Word := 0
  held    : List (Word × Held) := []
deriving DecidableEq, Repr

/-- An entry of the loss log (R275). -/
structure LossEntry where
  kind   : Nat
  cls    : Nat
  port   : Nat
  egress : Nat
  seq    : Word
deriving DecidableEq, Repr

structure OrdState where
  pairs   : Tbl PairOrder := []
  ledger  : Tbl LedgerEntry := []
  /-- results in the reorder buffer, by span × 4 + group (R246) -/
  reorder : Tbl Nat := []
  losses  : List LossEntry := []
deriving DecidableEq, Repr

/-! ### Egress (chapter 06) -/

/-- The parameters of a shaper (R236). -/
structure ShaperSet where
  rate  : Nat
  burst : Nat
  en    : Bool
deriving DecidableEq, Repr

/-- A token bucket (R214): tokens in 1/256 byte. -/
structure Shaper where
  tok  : Int := 0
  /-- time-unit instant of its last refill -/
  last : Nat := 0
  /-- the configuration changed outside SERVICE and applies from the next refill: the set in force (R217) -/
  hold : Option ShaperSet := none
deriving DecidableEq, Repr

/-- The copy that a port has in hand, from its selection to the end of its transmission. -/
structure TxCopy where
  queue   : Nat
  entry   : QEntry
  /-- the class group that was charged with the queue at selection (R211) -/
  group   : Nat := 0
  charge  : Int
  /-- the length was not known at selection, so MTU was charged (R211) -/
  ctCharge : Bool := false
  /-- depth of the queue in cells at selection (R285) -/
  depth   : Nat := 0
  /-- the egress pass has ended with this packet -/
  ready   : Option Packet := none
  started : Bool := false
  tsOut   : Word := 0
  /-- the four time bases at the start-of-frame delimiter, and the cells in use then (R285, R308) -/
  stamp   : Stamp := {}
  cellsUsed : Nat := 0
  /-- bytes as sent -/
  bytes   : List Byte := []
  /-- its link sequence on a viaduct-mode port -/
  viaSeq  : Option Nat := none
  /-- its outgoing hop class -/
  hop     : Nat := 0
  resend  : Bool := false
deriving DecidableEq, Repr

/-- A mirror or CPU copy, with what its record carries (R293). -/
structure CopyRec where
  desc    : Nat
  holder  : Holder
  ts      : Word
  egress  : Bool
  dropped : Bool
  out     : Option Nat
  reason  : Nat
  /-- CPU reason code -/
  cpu     : Nat
deriving DecidableEq, Repr

structure EgrState where
  queues   : Tbl (List QEntry) := []
  /-- copies that were interrupted or are sent again, ahead of their queue, by queue (R249) -/
  ahead    : Tbl (List QEntry) := []
  poolUsed : Nat := 0
  defQ     : Tbl Int := []
  defG     : Tbl Int := []
  /-- the place in its group of the port that each egress pipeline comes to next (R213) -/
  rrPipe   : Tbl Nat := []
  /-- round-robin pointers: group of a port by port × 8 + pri, queue of a group by group × 8 + pri -/
  rrPort   : Tbl Nat := []
  rrGroup  : Tbl Nat := []
  shapers  : Tbl Shaper := []
  /-- stops received, by port × 9 + priority (8 for PAUSE): the time in quanta -/
  stops    : Tbl Nat := []
  tx       : Tbl (Option TxCopy) := []
  /-- mirror and CPU copies made and not yet delivered, oldest first -/
  copies   : List CopyRec := []
  /-- ports whose link hold has expired while the link is down (R250) -/
  expired  : List Nat := []
deriving DecidableEq, Repr

/-! ### Telemetry (chapter 08) -/

/-- A way of a flow digest (R290). -/
structure DigestWay where
  key   : Word := 0
  port  : Nat := 0
  egress : Bool := false
  pkts  : Nat := 0
  err   : Nat := 0
  bytes : Nat := 0
  first : Word := 0
  last  : Word := 0
deriving DecidableEq, Repr

structure TelState where
  /-- bins by queue × 64 + bin, live and frozen (R286, R288) -/
  histLive   : Tbl Nat := []
  histFrozen : Tbl Nat := []
  /-- ways by span × 2^14 + set × 4 + way (R289) -/
  digLive    : Tbl DigestWay := []
  digFrozen  : Tbl DigestWay := []
  /-- the countdown C and the LFSR of each mirror session (R292) -/
  countdown  : Tbl Nat := []
  lfsr       : Tbl Word := []
deriving DecidableEq, Repr

/-! ### Viaduct links (chapter 06) -/

/-- Four values, one per hop class. -/
structure Hc4 where
  h0 : Nat := 0
  h1 : Nat := 0
  h2 : Nat := 0
  h3 : Nat := 0
deriving DecidableEq, Repr

/-- A copy kept for link retry (R225). -/
structure RetryEntry where
  seq   : Nat
  queue : Nat
  entry : QEntry
  bytes : List Byte
  /-- what the MAC took as the copy was sent for the first time (R283, R285) -/
  tsOut : Word := 0
  stamp : Stamp := {}
  depth : Nat := 0
  cellsUsed : Nat := 0
deriving DecidableEq, Repr

/-- The link state of a viaduct-mode port (R224 to R226). -/
structure ViaLink where
  next     : Nat := 0
  una      : Nat := 0
  e        : Nat := 0
  used     : Hc4 := {}
  /-- the credit the peer has granted -/
  granted  : Hc4 := {}
  /-- the credit this end grants -/
  grant    : Hc4 := {}
  /-- `grant` at the last CREDIT -/
  lastCredit : Hc4 := {}
  epoch    : Word := 0
  peerEpoch : Word := 0
  up       : Bool := false
  retransmit : Bool := false
  /-- the next sequence to resend -/
  resend   : Nat := 0
  retries  : Nat := 0
  nakSent  : Bool := false
  ackDue   : Bool := false
  retry    : List RetryEntry := []
deriving DecidableEq, Repr

structure ViaState where
  links : Tbl ViaLink := []
deriving DecidableEq, Repr

/-! ### Lanes and pier links (chapter 10) -/

/-- What the receiver of a lane waits for in the training exchange (R343). -/
inductive TrainWait where
  | idle | status | notUpdated
deriving DecidableEq, Repr

/-- What a lane keeps beside its registers. -/
structure LaneRec where
  /-- bring-up failures in a row since the last FAILED state (R339) -/
  run     : Nat := 0
  /-- UP has lasted less than 1 s (R339) -/
  fresh   : Bool := false
  /-- the transmitter has answered a request and waits for HOLD; the response it keeps (R343) -/
  held    : Option (BitVec 16) := none
  wait    : TrainWait := .idle
  /-- the last request that the receiver sent -/
  sent    : BitVec 16 := 0
  /-- manual requests that wait for the exchange to be idle, oldest first (R344) -/
  manual  : List (BitVec 16) := []
  /-- the abilities of the partner's base page, while its next pages follow (R334, R338) -/
  anBase  : Option (List PhyType) := none
  /-- the pause ability of the partner's last base page, PAUSE in bit 0 and ASM_DIR in bit 1 (R338) -/
  peerPause : Option (BitVec 2) := none
  /-- the receiver has no further request: it is trained (R342) -/
  trained : Bool := false
  /-- the counts of a whole eye scan, in scan order (R349), and when the scan started -/
  eye      : List Nat := []
  eyeStart : Nat := 0
  /-- the SerDes trim that it runs with (R501) -/
  trim     : Int := 0
  /-- the DWELL that the scan started with (R349) -/
  eyeDwell : Nat := 10
deriving DecidableEq, Repr

/-- What a pier-link port keeps beside its registers. -/
structure PierRec where
  /-- bits that the word boundary has moved, modulo 10 (R353) -/
  slip     : Nat := 0
  capSent  : Bool := false
  peerRate : Option Nat := none
  target   : Nat := 0
  stepSent : Bool := false
  stepRx   : Bool := false
  /-- a step has failed: the link stays at 1.25 GBd (R357) -/
  noStep   : Bool := false
  /-- the transmitter sends frames for the services: the link has come UP, and neither steps nor restarts (R354, R357) -/
  sends    : Bool := false
  /-- since when comma words and code errors are counted (R353) -/
  hitsFrom : Nat := 0
  errsFrom : Nat := 0
  /-- a pair is outstanding: the initiator's t1 (R359) -/
  t1       : Option Stamp := none
  /-- the initiator's mark count -/
  marks    : Nat := 1
  /-- the responder's count of marks A, and its last t2 and t3 -/
  heard    : Nat := 0
  t2       : Stamp := {}
  t3       : Stamp := {}
  /-- the payload of the last FAULT frame received (R356) -/
  lastFault : List Byte := []
deriving DecidableEq, Repr

/-! ### GLF-7220 compatibility (chapter 05) -/

structure Voq where
  backlog : Nat := 0
  credit  : Int := 0
  out     : Nat := 0
  frames  : List (Nat × QEntry) := []
deriving DecidableEq, Repr

structure CmpState where
  voq      : Tbl Voq := []
  /-- pending counts by device × 65,536 + VOQ (R193) -/
  pending  : Tbl Nat := []
  /-- records gathered for a peer (R192) -/
  gathered : Tbl (List DWord) := []
deriving DecidableEq, Repr

/-! ### Time (chapter 09) -/

/-- A time base (R305): its value in units of 2^−48 ns, modulo 2^48 s. -/
structure TbBase where
  val   : Nat := 0
  freq  : Int := 0
  integ : Int := 0
  /-- consecutive samples within LOCK_NS while ACQUIRING (R313) -/
  good  : Nat := 0
  /-- instant of the last sample processed -/
  lastSample : Nat := 0
  /-- samples that wait, oldest first, in 2^−16 ns (R311) -/
  waiting : List Int := []
  /-- OFFS_LO as written -/
  offsLo : Word := 0
  /-- the last sample processed, in 2^−16 ns (R432) -/
  lastTheta : Int := 0
deriving DecidableEq, Repr

structure TimeState where
  /-- cycles of the time-unit clock since cold reset, one per ns -/
  tu     : Nat := 0
  /-- the core clocks of each die not yet counted as a whole clock, in twentieths (R37, R471) -/
  clk0   : Nat := 0
  clk1   : Nat := 0
  /-- whole core clocks of die 1; those of die 0 are in CORE_CYCLES (R297, assumption 74) -/
  clocks1 : Nat := 0
  tb     : Tbl TbBase := []
  /-- the residual D of the cadence base in 2^−48 ns (R314) -/
  d      : Int := 0
  pubSec : Nat := 0
  pubN32 : Word := 0
  ppsOut : Bool := false
  /-- how far each copy of a base stands off the held value, in 2^−48 ns, by base × 3 + copy; the cadence base is base 4
  (R441) -/
  copies : Tbl Int := []
deriving DecidableEq, Repr

/-! ### Host rings (chapter 11) and the journal (chapter 07) -/

/-- How a submission entry finished (R388, R391): its code, its DETAIL, and bytes 16 to 63 of its completion. -/
structure Done where
  code   : Nat
  detail : Nat := 0
  result : List Byte := []
deriving DecidableEq, Repr

/-- What a TX entry asks for (R385), with the generation stamped when the entry was read (R108). -/
structure TxWork where
  addr    : Nat
  len     : Nat
  direct  : Bool
  cls     : Nat
  target  : Nat
  op      : Nat
  gen     : Bool
deriving DecidableEq, Repr

/-- The work of an entry that has been taken. -/
inductive Work where
  | command
  | durable (lsn : Nat)
  | tx (w : TxWork)
  | malformed
deriving DecidableEq, Repr

/-- An entry taken and not yet completed (R376, R382). -/
structure Taken where
  idx  : Word
  tag  : Nat
  work : Work
  done : Option Done := none
deriving DecidableEq, Repr

/-- A command that a keystone service has to execute (R392): bytes 8 to 63 of its entry. -/
structure Call where
  idx  : Word
  body : List Byte
  lsn  : Option Nat := none
  /-- its request waits at a trestle engine, or runs there -/
  atEngine : Bool := false
  /-- found in the journal at a cold start, and to be executed before its ring accepts an entry (R270) -/
  recovered : Bool := false
deriving DecidableEq, Repr

/-- A receive buffer read ahead (R379, R387); `code` is not 0 for a malformed entry. -/
structure RxBuf where
  idx  : Word
  tag  : Nat
  addr : Nat
  len  : Nat
  code : Nat
deriving DecidableEq, Repr

/-- What the device keeps of a submission ring beside its context registers. -/
structure SqRec where
  again  : Bool := false
  /-- since when the scan has stopped at an entry that is not owned (R377) -/
  since  : Option Nat := none
  /-- STALL has been reported for this stop -/
  stalled : Bool := false
  taken  : List Taken := []
  calls  : List Call := []
  bufs   : List RxBuf := []
deriving DecidableEq, Repr

/-- A capture record that waits for its EVENT ring (R293, R390): the ring, the mirror session, the 168 bytes of header,
frame and padding, and its cells of the RECORD pool. -/
structure CaptureRec where
  ring    : Nat
  session : Nat
  bytes   : List Byte
  cells   : List Nat
deriving DecidableEq, Repr

structure HqState where
  sq       : Tbl SqRec := []
  /-- slots reserved in each completion ring (R380) -/
  reserved : Tbl Nat := []
  /-- Bus Master Enable set, and D0 (R369) -/
  busMaster : Bool := false
  pcieUp   : Bool := false
  /-- the rate of the PCIe link in GT/s, and its lanes, as it last trained (R368) -/
  pcieRate : Nat := 0
  pcieWidth : Nat := 0
  /-- capture records that wait, oldest first -/
  captures : List CaptureRec := []
deriving DecidableEq, Repr

/-- A journal record (R267). -/
structure JrnRecord where
  lsn  : Nat
  body : List Byte
  tag  : Nat
deriving DecidableEq, Repr

structure JrnState where
  /-- the write buffer, oldest first -/
  wbuf     : List JrnRecord := []
  /-- the log, by slot; a record's LSN folds into its CHECK (R267) -/
  log      : Tbl (Option JrnRecord) := []
  /-- slots marked bad (R441) -/
  bad      : List Nat := []
  /-- the LSN of the next record, the slot that the next one is programmed into, and the LSN of the next to program -/
  nextLsn  : Nat := 0
  slot     : Nat := 0
  programmed : Nat := 0
  /-- the last executed LSN plus 1 of each ring, and the same as its latest checkpoint has it (R270) -/
  executed : Tbl Nat := []
  covered  : Tbl Nat := []
  /-- no durable completion is posted until records below this LSN are programmed (R269) -/
  gate     : Nat := 0
  /-- the main supply has failed: no ring entry is taken (R269) -/
  noEntry  : Bool := false
deriving DecidableEq, Repr

/-! ### Keystones (chapter 12) -/

/-- The architectural state of a pair, whose two cores are in step (R404, R409). -/
structure KcPair where
  g      : Tbl DWord := []
  a      : Tbl DWord := []
  /-- h0 to h15 of w0 to w15, by window × 16 + register -/
  win    : Tbl DWord := []
  pc     : DWord := 0
  wsel   : Nat := 0
  depth  : Nat := 1
  tactive : Bool := false
  epc    : DWord := 0
  ecause : Byte := 0
  spillBase  : DWord := 0
  spillPtr   : DWord := 0
  spillLimit : DWord := 0
  imask  : DWord := 0
  /-- interrupt sources that are pending (R414) -/
  irq    : DWord := 0
  /-- bytes of its memory (R410) -/
  mem    : Tbl Byte := []
deriving DecidableEq, Repr

/-- The capture of a PTP event message that the PTP service has been given (R308): the port, whether the message was
sent, and the four time bases at the MDI. -/
structure PtpCapture where
  port  : Nat
  sent  : Bool
  times : Stamp
deriving DecidableEq, Repr

/-- An instance of the PTP service, for one time base (R418); times in 2^−16 ns. -/
structure PtpInstance where
  on     : Bool := false
  domain : Nat := 0
  /-- the state that the host has assigned to a port: 1 slave, 2 master -/
  ports  : Tbl Nat := []
  /-- a two-step Sync that waits for its Follow_Up: its sequence, and when it was received -/
  waiting : Option (Nat × Int) := none
  /-- when the last Sync was sent and received -/
  sync   : Option (Int × Int) := none
  /-- a Delay_Req that waits for its Delay_Resp: its sequence, and when it was sent -/
  request : Option (Nat × Int) := none
  /-- the mean path delay -/
  delay  : Option Int := none
deriving DecidableEq, Repr

structure KsState where
  kp0 : KcPair := {}
  kp1 : KcPair := {}
  /-- pairs whose services are being taken over (R406) -/
  taking : List Nat := []
  /-- the instances of the PTP service, by time base (R418) -/
  ptp : Tbl PtpInstance := []
  /-- the captures of PTP event messages, newest first (R308) -/
  captures : List PtpCapture := []
  /-- MGMT frames received, newest first: link and payload (R356) -/
  mgmt : List (Nat × List Byte) := []
  /-- the device space that a busy guard unit scans through the window: MC_WIN_SEL when its scan began (R420) -/
  guSel : Tbl Word := []
deriving DecidableEq, Repr

/-! ### Power (chapter 14) -/

/-- What a member of a concord group knows of a round (R475, R476). -/
structure Vote where
  sec    : Nat
  ns     : Nat
  minOp  : Nat
  minDev : Nat
  /-- its own request has been put in: the round has been opened -/
  opened : Bool
deriving DecidableEq, Repr

structure PwrState where
  safeCap : Bool := false
  alert   : Bool := false
  tjmax   : Bool := false
  /-- the throttle cap (R466) -/
  throttle : Option Nat := none
  /-- the PMBus cap (R470) -/
  pmbus   : Option Nat := none
  /-- consecutive successful PMBus transactions while that cap is in force (R466) -/
  pmbusOk : Nat := 0
  /-- TARGET of R466 -/
  target  : Nat := 0
  /-- a rise under way: its point, and whether READ_VOUT lay within 5 mV (R468) -/
  rise    : Option Nat := none
  riseOk  : Bool := false
  /-- the VCORE target in units of 2.5 mV (R469), and what it was before the rise under way -/
  target25 : Nat := 0
  before25 : Nat := 0
  /-- sensors' last readings in 1/16 °C, with the offset (R501); none before the first sample -/
  temps   : List Int := []
  /-- some sensor of the last sample lay at or above THROTTLE as it then stood (R466) -/
  hot     : Bool := false
  /-- detectors that see a droop (R471) -/
  droops  : List Nat := []
  energy  : Nat := 0
  /-- the charge of the hold-up bank in µC (R479) -/
  q       : Int := 0
  /-- a member of a concord group: PWR_CONC_CFG.EN as it stood when the last round opened (R474, R483) -/
  member  : Bool := false
  /-- rounds known, the open one first (R476) -/
  votes   : List Vote := []
  /-- the last round closed: SEC and NS of its mark -/
  closed  : Option (Nat × Nat) := none
  /-- the last CONCORD payload received on each link (R482) -/
  heard   : Tbl (List Byte) := []
deriving DecidableEq, Repr

/-! ### Boot (chapter 15) -/

structure BootState where
  /-- the flash, by address (R491); an erased byte reads 0xFF -/
  flash  : Tbl Byte := []
  /-- RESET_N is low -/
  held   : Bool := false
  /-- the main supply has failed and has not come back (R485, R511) -/
  noSupply : Bool := false
  /-- rails outside their limits (R511) -/
  railsOut : List Rail := []
  /-- the bank being booted or running, and whether it is a trial -/
  bank   : Nat := 0
  trial  : Bool := false
  /-- the banks that have failed at this start, and part × 16 + cause of the first failure (R495) -/
  tried  : List Nat := []
  failed : Option Nat := none
  /-- the settings slot that this start uses -/
  slot   : Nat := 0
  /-- the parts are started and have not all reported -/
  starting : Bool := false
deriving DecidableEq, Repr

end Sys2Proof.Machine
end

