-- ==== Sys2Proof/Machine/State.lean ====
section
/-! DEFINITION. The state of the device as plain data, its faults and refusals, and the state right after reset. -/

namespace Sys2Proof.Machine

/-- The state of the GLF-9640. Reset values stand beside the fields, here and in Machine/Types.lean. -/
structure State where
  /-- commands that wait, first in, first out (the model's own: the queue of the block) -/
  pending   : List Instr := []
  /-- the registers of BAR0 that are held as words, by offset; an unlisted one holds its reset value (R10 to R12) -/
  regs      : Tbl Word := []
  /-- the holding copies of the high words of pairs, by offset of the high word (R15) -/
  holding   : Tbl Word := []
  /-- what the last register read returned (the model's own) -/
  readData  : Word := 0
  /-- the 64-bit counters, by offset of the low word (R295, R296) -/
  counters  : Tbl Nat := []
  /-- bytes the device has written to host memory (R368) -/
  hostMem   : List Host.Cell := []
  /-- what has left the device, newest first (the model's own) -/
  emitted   : List Emission := []
  /-- draws of free values so far (the model's own) -/
  freeCount : Nat := 0
  chip      : ChipState := {}
  fc        : FcState := {}
  buf       : BufState := {}
  rx        : RxState := {}
  pipes     : PipesState := {}
  progs     : ProgState := {}
  tables    : TableState := {}
  trestle   : Tbl Trestle := []
  ord       : OrdState := {}
  egr       : EgrState := {}
  tel       : TelState := {}
  via       : ViaState := {}
  cmp       : CmpState := {}
  /-- frames sent on each pier link, modulo 256 (R355) -/
  pierTx    : Tbl Nat := []
  /-- lanes and pier-link ports (R330 to R360) -/
  lanes     : Tbl LaneRec := []
  piers     : Tbl PierRec := []
  time      : TimeState := {}
  hq        : HqState := {}
  jrn       : JrnState := {}
  ks        : KsState := {}
  pwr       : PwrState := {}
  boot      : BootState := {}
deriving DecidableEq, Repr

/-- A fault of the model. No command of this block faults: the device itself reports every error in its registers. -/
inductive Fault where
deriving DecidableEq, Repr

/-- A refusal of the model. -/
inductive Refusal where
  /-- Raised by exec for a command that has no meaning yet; safe: nothing is claimed of it. -/
  | notModelled (mnemonic : String)
deriving DecidableEq, Repr

/-- The device right after a power-on reset with RESET_N high: START-UP, every register at the reset value of its
table, every store at its cold state, no command waiting. -/
def State.reset : State := {}

end Sys2Proof.Machine
end

