-- ==== Sys2Proof/Machine/Ops.lean ====
section
/-! DEFINITION. The named operations over registers, counters, emissions, interrupts and time that every family of
commands uses. -/

namespace Sys2Proof.Machine

/-! ### Registers -/

/-- The word held for a register (R10, R12). -/
def State.reg (s : State) (off : Nat) : Word := Tbl.get resetWord s.regs off

/-- Write the word held for a register. -/
def State.setReg (s : State) (off : Nat) (w : Word) : State := { s with regs := Tbl.put resetWord s.regs off w }

/-- A field of a register. -/
def State.fld (s : State) (off hi lo : Nat) : Nat := getBits (s.reg off) hi lo

/-- One bit of a register. -/
def State.bit (s : State) (off i : Nat) : Bool := decide (s.fld off i i = 1)

/-- Set a field of a register, as hardware does. -/
def State.setFld (s : State) (off hi lo v : Nat) : State := s.setReg off (setBits (s.reg off) hi lo v)

/-- Set one bit of a register, as hardware does. -/
def State.setBit (s : State) (off i : Nat) (b : Bool) : State := s.setFld off i i b.toNat

/-- Add to a field that saturates at all ones. -/
def State.incSat (s : State) (off hi lo n : Nat) : State :=
  s.setFld off hi lo (min (s.fld off hi lo + n) (2 ^ (hi - lo + 1) - 1))

/-- Add to a field that counts modulo its width. -/
def State.incMod (s : State) (off hi lo n : Nat) : State := s.setFld off hi lo (s.fld off hi lo + n)

/-- A signed field. -/
def signedBits (v width : Nat) : Int := if v < 2 ^ (width - 1) then (v : Int) else (v : Int) - 2 ^ width

/-- The two's complement of an integer in `width` bits. -/
def unsignedBits (v : Int) (width : Nat) : Nat := (v % (2 ^ width : Nat)).toNat

/-- Clamp to a range. -/
def clampInt (v lo hi : Int) : Int := if v < lo then lo else if v > hi then hi else v

/-! ### Emissions and counters -/

/-- Something leaves the device. -/
def State.emit (s : State) (e : Emission) : State := { s with emitted := e :: s.emitted }

def zeroNat : Nat → Nat := fun _ => 0

/-- The value of the counter whose low word is at `off` (R295). -/
def State.counter (s : State) (off : Nat) : Nat := Tbl.get zeroNat s.counters off

/-- Count `n` events, modulo 2^64 (R295). -/
def State.count (s : State) (off n : Nat) : State :=
  { s with counters := Tbl.put zeroNat s.counters off ((s.counter off + n) % 2 ^ 64) }

/-- The offsets of the counters (R296). -/
def cChip (e : Nat) : Nat := 0x2600000 + e * 8
def cSpan (n e : Nat) : Nat := 0x2601000 + (n * 64 + e) * 8
def cPipe (k e : Nat) : Nat := 0x2610000 + (k * 64 + e) * 8
def cMirror (m e : Nat) : Nat := 0x2630000 + (m * 8 + e) * 8
def cThresh (i : Nat) : Nat := 0x2638000 + i * 8
def cPort (p e : Nat) : Nat := 0x2700000 + (p * 32 + e) * 8
def cPcl (q e : Nat) : Nat := 0x2800000 + (q * 16 + e) * 8
def cQueue (q e : Nat) : Nat := 0x2A00000 + (q * 8 + e) * 8

/-! ### Time -/

/-- 2^48 units of 2^−48 ns make a nanosecond (R305). -/
def nsUnits : Nat := 2 ^ 48
/-- A time base counts modulo 2^48 s. -/
def baseModulus : Nat := 2 ^ 48 * 1000000000 * 2 ^ 48

def tbDefault : Nat → TbBase := fun _ => {}

def State.tb (s : State) (n : Nat) : TbBase := Tbl.get tbDefault s.time.tb n
def State.setTb (s : State) (n : Nat) (b : TbBase) : State :=
  { s with time := { s.time with tb := Tbl.put tbDefault s.time.tb n b } }

/-- N32 of a time base: (SEC × 10^9 + NS) mod 2^32 (R307). -/
def State.n32 (s : State) (n : Nat) : Word := BitVec.ofNat 32 ((s.tb n).val / nsUnits)

/-- TB0 nanoseconds (R307). -/
def State.tb0Ns (s : State) : Word := s.n32 0

/-- SEC of a value in units of 2^−48 ns. -/
def secOf (v : Nat) : Nat := v / nsUnits / 1000000000
/-- NS of a value. -/
def nsOf (v : Nat) : Nat := v / nsUnits % 1000000000
/-- FRAC of a value. -/
def fracOf (v : Nat) : Nat := v % nsUnits / 2 ^ 32

/-- The values of the four time bases now (R308, R358). -/
def State.stamp (s : State) : Stamp := { b0 := (s.tb 0).val, b1 := (s.tb 1).val, b2 := (s.tb 2).val, b3 := (s.tb 3).val }

/-- The value of one base in a capture. -/
def Stamp.base (x : Stamp) (n : Nat) : Nat := if n = 0 then x.b0 else if n = 1 then x.b1 else if n = 2 then x.b2 else x.b3

/-- The time-unit clock (R37): cycles since cold reset. -/
def State.now (s : State) : Nat := s.time.tu

/-! ### Interrupts -/

/-- The device may issue DMA and messages: Bus Master Enable is set, in D0, on a link that is up (R369, assumption
53). -/
def State.hostOn (s : State) : Bool := s.hq.busMaster && s.hq.pcieUp

/-- Send the MSI-X message of a vector, or set its pending bit when the vector is masked (R394); without bus mastering
no message is sent (R369). -/
def State.msixVector (s : State) (v : Nat) : State :=
  if s.bit (0x41000C + v * 0x10) 0 then
    s.setBit (0x418000 + v / 32 * 4) (v % 32) true
  else if !s.hostOn then s
  else
    s.emit (.msix v ((s.reg (0x410004 + v * 0x10)).toNat * 2 ^ 32 + (s.reg (0x410000 + v * 0x10)).toNat)
      (s.reg (0x410008 + v * 0x10)))

/-- A device event of source `n` (R395, R400). -/
def State.irq (s : State) (n : Nat) : State :=
  if s.bit (0x401000 + n * 4) 31 then s.msixVector (s.fld (0x401000 + n * 4) 10 0) else s

/-! ### Source IDs (R6, R427) -/

/-- A source in a span. -/
def srcSpan (span block elem : Nat) : Nat := span * 0x1000 + block * 0x40 + elem
/-- A source at chip level. -/
def srcChip (block elem : Nat) : Nat := 0xF000 + (0x20 + block) * 0x40 + elem
/-- The span block code of a physical pipeline. -/
def pipeBlock (pass : Pass) (pipe : Nat) : Nat := match pass with | .ingress => 1 + pipe | .egress => 6 + pipe

/-! ### Shared arithmetic -/

/-- One byte into a reflected CRC-32 register. -/
def crcByte (poly c : Word) (b : Byte) : Word :=
  (List.range 8).foldl (fun x _ => if x.getLsbD 0 then (x >>> 1) ^^^ poly else x >>> 1) (c ^^^ b.setWidth 32)

/-- The CRC-32C register over bytes (polynomial 0x1EDC_6F41, reflected), without the final XOR. -/
def crc32cRaw (init : Word) (bs : List Byte) : Word := bs.foldl (crcByte 0x82F63B78) init

/-- CRC-32C as R180 has it: initial value 0xFFFF_FFFF, final XOR 0xFFFF_FFFF. -/
def crc32c (bs : List Byte) : Word := crc32cRaw 0xFFFFFFFF bs ^^^ 0xFFFFFFFF

/-- The Ethernet FCS over bytes, as four bytes in wire order. -/
def ethFcs (bs : List Byte) : List Byte :=
  let c := bs.foldl (crcByte 0xEDB88320) 0xFFFFFFFF ^^^ 0xFFFFFFFF
  [c.setWidth 8, (c >>> 8).setWidth 8, (c >>> 16).setWidth 8, (c >>> 24).setWidth 8]

/-- HMIX (R70, code 0x35). -/
def hmix (a b : Word) : Word :=
  let h := a ^^^ b
  let h := h ^^^ (h >>> 16)
  let h := h * 0x85EBCA6B
  let h := h ^^^ (h >>> 13)
  let h := h * 0xC2B2AE35
  h ^^^ (h >>> 16)

/-- A number as `n` bytes, most significant first (network order). -/
def beBytes : Nat → Nat → List Byte
  | 0, _ => []
  | n + 1, v => BitVec.ofNat 8 (v / 256 ^ n) :: beBytes n v

/-- A number as `n` bytes, least significant first (R9). -/
def leBytes : Nat → Nat → List Byte
  | 0, _ => []
  | n + 1, v => BitVec.ofNat 8 v :: leBytes n (v / 256)

/-- The number that bytes spell, most significant first. -/
def beNat (bs : List Byte) : Nat := bs.foldl (fun a b => a * 256 + b.toNat) 0

/-- The number that bytes spell, least significant first. -/
def leNat : List Byte → Nat
  | [] => 0
  | b :: t => b.toNat + 256 * leNat t

/-- Bytes `i` to `i + n − 1` of a list, absent ones 0. -/
def sliceBytes (bs : List Byte) (i n : Nat) : List Byte :=
  let x := (bs.drop i).take n
  x ++ List.replicate (n - x.length) 0

/-- Insert in an order given by a key, before the first larger one. -/
def insertBy {α : Type} (key : α → Nat) (x : α) : List α → List α
  | [] => [x]
  | y :: t => if key x < key y then x :: y :: t else y :: insertBy key x t

/-- Sort by a key, keeping the order of equals. -/
def sortBy {α : Type} (key : α → Nat) (l : List α) : List α := l.foldl (fun acc x => insertBy key x acc) []

/-- Add to a list without repeats, at the end. -/
def addOnce (l : List Nat) (x : Nat) : List Nat := if l.contains x then l else l ++ [x]

/-- Replace the element at a place. -/
def listSet {α : Type} : List α → Nat → α → List α
  | [], _, _ => []
  | _ :: t, 0, v => v :: t
  | x :: t, i + 1, v => x :: listSet t i v

/-! ### Device-wide conditions -/

/-- RWL fields take a write in START-UP and TEST (R12). -/
def State.rwlOpen (s : State) : Bool := s.chip.mode = .startUp || s.chip.mode = .test

/-- The port runs in viaduct mode (R222). -/
def State.viaduct (s : State) (p : Nat) : Bool := s.bit (0xC01000 + p * 4) 31

/-- MTU of a port (R232). -/
def State.mtu (s : State) (p : Nat) : Nat := s.fld (0xC01000 + p * 4) 29 15

/-- The port is enabled and its link is up: the data-path view of R453. -/
def State.linkUp (s : State) (p : Nat) : Bool :=
  s.bit (0x2000000 + p * 0x1000) 31 && s.bit (0x2000004 + p * 0x1000) 24

/-- The port receives a remote fault (R334, R362). -/
def State.remoteFault (s : State) (p : Nat) : Bool := s.bit (0x2000004 + p * 0x1000) 22

/-- The keystone's view of a unit, by kind × 65,536 + unit (R453): nothing is withheld until it says so (assumption
79). -/
def State.mgmtView (s : State) (kind unit : Nat) : Bool :=
  Tbl.get (fun _ => true) s.fc.mgmt (kind * 65536 + unit)
def State.setMgmt (s : State) (kind unit : Nat) (b : Bool) : State :=
  { s with fc := { s.fc with mgmt := Tbl.put (fun _ => true) s.fc.mgmt (kind * 65536 + unit) b } }

/-! ### Keystone pairs (R405, R406, R422) -/

/-- KS_STATUS.KPp_STATE: 0 OFF, 1 RUNNING, 2 HALTED, 3 SELFTEST, 4 STANDBY (R422). -/
def State.ksState (s : State) (p : Nat) : Nat := s.fld 0x700000 (3 * p + 2) (3 * p)

/-- The pair executes instructions. -/
def State.kcRuns (s : State) (p : Nat) : Bool := s.ksState p = 1 || s.ksState p = 4

/-- The pair that runs KP0's services (group 0) or KP1's (group 1) (R405, R422). -/
def State.groupPair (s : State) (group : Nat) : Nat :=
  if group = 0 then (s.fld 0x700000 9 9) else 1 - s.fld 0x700000 8 8

/-- The pair that runs a group of services does so (R405, R406): it is RUNNING, and the keystones' own view of it says so
too (R453). -/
def State.groupUp (s : State) (group : Nat) : Bool :=
  decide (s.ksState (s.groupPair group) = 1) && s.mgmtView 5 (s.groupPair group)

/-- A group of services that needs no trestle engine and no PTP message runs: on its pair, or, once a takeover has started,
on the surviving one from shared keystone memory (R406). -/
def State.groupServed (s : State) (group : Nat) : Bool :=
  s.groupUp group || (s.ks.taking.contains (s.groupPair group) && s.kcRuns (1 - s.groupPair group))

/-! ### Availability (R453) -/

/-- Forwarding treats a port as available only when both views say so (R453). -/
def State.available (s : State) (p : Nat) : Bool := s.linkUp p && s.mgmtView 3 p

/-- Journal programming and durable execution stand still in this part of a warm reset (R265). -/
def State.suspended (s : State) : Bool :=
  s.chip.warm = .sealed || s.chip.warm = .released || s.chip.warm = .audited

/-- Lanes of a port (R361). -/
def State.portLanes (s : State) (p : Nat) : Nat := 2 ^ s.fld (0x2000000 + p * 0x1000) 30 29

/-- The rate of a port in Gbit/s: its lane rate times its lanes (R331, R34). -/
def State.portRate (s : State) (p : Nat) : Nat :=
  s.portLanes p * (if s.fld (0x2000000 + p * 0x1000) 28 27 = 0 then 200 else 100)

/-- The device's own ID in the viaduct (R273). -/
def State.deviceId (s : State) : Nat := s.fld 0x400 11 0

/-- The registers of a block do not answer in this part of a warm reset (R490). -/
def State.closed (s : State) (off : Nat) : Bool := s.chip.warm = .sealed && decide (0x200000 ≤ off)

/-- The port group of a port: span × 4 + group (R50). -/
def portGroup (p : Nat) : Nat := p / 16

end Sys2Proof.Machine
end

