-- ==== Sys2Proof/Machine/Recovery.lean ====
section
/-! DEFINITION. What recovery needs of the pipelines, the order keeper and the egress side: reading and writing their
parts of the state, stomping a transmission, queueing replays, fencing a pipeline and moving its port group (R242,
R247 to R262, R450 to R452). -/

namespace Sys2Proof.Machine

def passNo : Pass → Nat | .ingress => 0 | .egress => 1

/-! ### Accessors -/

def passDefault : Nat → PassState := fun _ => {}
def State.passOf (s : State) (span : Nat) (pass : Pass) : PassState :=
  Tbl.get passDefault s.pipes.pass (span * 2 + passNo pass)
def State.setPass (s : State) (span : Nat) (pass : Pass) (x : PassState) : State :=
  { s with pipes := { s.pipes with pass := Tbl.put passDefault s.pipes.pass (span * 2 + passNo pass) x } }

/-- The number of a physical pipeline (R296). -/
def pipeNo (span : Nat) (pass : Pass) (pipe : Nat) : Nat := span * 10 + passNo pass * 5 + pipe

def pipeDefault : Nat → PipeState := fun _ => {}
def State.pipeOf (s : State) (k : Nat) : PipeState := Tbl.get pipeDefault s.pipes.pipe k
def State.setPipe (s : State) (k : Nat) (x : PipeState) : State :=
  { s with pipes := { s.pipes with pipe := Tbl.put pipeDefault s.pipes.pipe k x } }

/-- The last clean compare or vector of a pipeline is now (R242). -/
def State.setClean (s : State) (k : Nat) : State := s.setPipe k { (s.pipeOf k) with lastClean := s.tb0Ns }
/-- `n` slots of a pipeline are taken by passes that are WASTED; their core clocks are counted as time passes (R300). -/
def State.wasteSlots (s : State) (k n : Nat) : State :=
  (s.setPipe k { (s.pipeOf k) with owed := (s.pipeOf k).owed + n }).count (cPipe k 2) n

def noPacket : Nat → Option Packet := fun _ => none
def State.packet (s : State) (i : Nat) : Option Packet := Tbl.get noPacket s.pipes.packets i
def State.setPacket (s : State) (i : Nat) (p : Option Packet) : State :=
  { s with pipes := { s.pipes with packets := Tbl.put noPacket s.pipes.packets i p } }

def noReplays : Nat → List Replay := fun _ => []
/-- The replays of a port group in one pass: key span × 8 + pass × 4 + group. -/
def replayKey (g : Nat) (pass : Pass) : Nat := g / 4 * 8 + passNo pass * 4 + g % 4
def State.replaysOf (s : State) (g : Nat) (pass : Pass) : List Replay :=
  Tbl.get noReplays s.pipes.replays (replayKey g pass)
def State.setReplays (s : State) (g : Nat) (pass : Pass) (l : List Replay) : State :=
  { s with pipes := { s.pipes with replays := Tbl.put noReplays s.pipes.replays (replayKey g pass) l } }

def infoDefault : Nat → FrameInfo := fun _ => {}
def State.info (s : State) (d : Nat) : FrameInfo := Tbl.get infoDefault s.rx.info d
def State.setInfo (s : State) (d : Nat) (x : FrameInfo) : State :=
  { s with rx := { s.rx with info := Tbl.put infoDefault s.rx.info d x } }

def descDefault : Nat → Desc := fun _ => {}
def State.desc (s : State) (d : Nat) : Desc := Tbl.get descDefault s.buf.desc d
def State.setDesc (s : State) (d : Nat) (x : Desc) : State :=
  { s with buf := { s.buf with desc := Tbl.put descDefault s.buf.desc d x } }

def pairDefault : Nat → PairOrder := fun _ => {}
/-- The order keeper's counters of pair q = port × 16 + class (R244). -/
def State.order (s : State) (q : Nat) : PairOrder := Tbl.get pairDefault s.ord.pairs q
def State.setOrder (s : State) (q : Nat) (x : PairOrder) : State :=
  { s with ord := { s.ord with pairs := Tbl.put pairDefault s.ord.pairs q x } }

def ledgerDefault : Nat → LedgerEntry := fun _ => {}
def State.ledger (s : State) (d : Nat) : LedgerEntry := Tbl.get ledgerDefault s.ord.ledger d
def State.setLedger (s : State) (d : Nat) (x : LedgerEntry) : State :=
  { s with ord := { s.ord with ledger := Tbl.put ledgerDefault s.ord.ledger d x } }

/-- Results held for a port group (R246). -/
def State.reorderUse (s : State) (g : Nat) : Nat := Tbl.get zeroNat s.ord.reorder g
def State.setReorderUse (s : State) (g n : Nat) : State :=
  { s with ord := { s.ord with reorder := Tbl.put zeroNat s.ord.reorder g n } }

def noTx : Nat → Option TxCopy := fun _ => none
def State.tx (s : State) (p : Nat) : Option TxCopy := Tbl.get noTx s.egr.tx p
def State.setTx (s : State) (p : Nat) (x : Option TxCopy) : State :=
  { s with egr := { s.egr with tx := Tbl.put noTx s.egr.tx p x } }

def noEntries : Nat → List QEntry := fun _ => []
def State.queue (s : State) (q : Nat) : List QEntry := Tbl.get noEntries s.egr.queues q
def State.setQueue (s : State) (q : Nat) (l : List QEntry) : State :=
  { s with egr := { s.egr with queues := Tbl.put noEntries s.egr.queues q l } }
def State.aheadOf (s : State) (q : Nat) : List QEntry := Tbl.get noEntries s.egr.ahead q
def State.setAhead (s : State) (q : Nat) (l : List QEntry) : State :=
  { s with egr := { s.egr with ahead := Tbl.put noEntries s.egr.ahead q l } }

def viaDefault : Nat → ViaLink := fun _ => {}
def State.viaLink (s : State) (p : Nat) : ViaLink := Tbl.get viaDefault s.via.links p
def State.setVia (s : State) (p : Nat) (x : ViaLink) : State :=
  { s with via := { s.via with links := Tbl.put viaDefault s.via.links p x } }

def noNats : Nat → List Nat := fun _ => []
/-- The arrival queue of a port group: descriptors, oldest first (R32). -/
def State.arrivals (s : State) (g : Nat) : List Nat := Tbl.get noNats s.rx.arrivals g
def State.setArrivals (s : State) (g : Nat) (l : List Nat) : State :=
  { s with rx := { s.rx with arrivals := Tbl.put noNats s.rx.arrivals g l } }
def State.hostQueue (s : State) (g : Nat) : List Nat := Tbl.get noNats s.pipes.hostTx g
def State.setHostQueue (s : State) (g : Nat) (l : List Nat) : State :=
  { s with pipes := { s.pipes with hostTx := Tbl.put noNats s.pipes.hostTx g l } }
def State.recircQueue (s : State) (g : Nat) : List Nat := Tbl.get noNats s.pipes.recirc g
def State.setRecircQueue (s : State) (g : Nat) (l : List Nat) : State :=
  { s with pipes := { s.pipes with recirc := Tbl.put noNats s.pipes.recirc g l } }

def noSelected : Nat → List (Nat × QEntry) := fun _ => []
/-- The copies that the scheduler has chosen and that wait for an egress slot of a port group. -/
def State.selectedOf (s : State) (g : Nat) : List (Nat × QEntry) := Tbl.get noSelected s.pipes.selected g
def State.setSelected (s : State) (g : Nat) (l : List (Nat × QEntry)) : State :=
  { s with pipes := { s.pipes with selected := Tbl.put noSelected s.pipes.selected g l } }

def voqDefault : Nat → Voq := fun _ => {}
/-- A virtual output queue (R190, R191). -/
def State.voq (s : State) (v : Nat) : Voq := Tbl.get voqDefault s.cmp.voq v
def State.setVoq (s : State) (v : Nat) (x : Voq) : State :=
  { s with cmp := { s.cmp with voq := Tbl.put voqDefault s.cmp.voq v x } }

/-! ### Holder IDs (R173) -/

def holderQueue (q idx : Nat) : Holder := BitVec.ofNat 24 (q % 16384 * 256 + idx % 256)
def holderMirror (m idx : Nat) : Holder := BitVec.ofNat 24 (1 * 2 ^ 22 + m % 64 * 256 + idx % 256)
def holderCpu (idx : Nat) : Holder := BitVec.ofNat 24 (1 * 2 ^ 22 + 0x2000 * 256 + idx % 256)
def holderRetry (port idx : Nat) : Holder := BitVec.ofNat 24 (2 * 2 ^ 22 + port % 1024 * 256 + idx % 256)
def holderArrival (port : Nat) : Holder := BitVec.ofNat 24 (3 * 2 ^ 22 + port % 1024 * 256)
def holderHost (ring : Nat) : Holder := BitVec.ofNat 24 (3 * 2 ^ 22 + (0x2000 + ring % 4096) * 256)
def holderKind (h : Holder) : Nat := h.toNat / 2 ^ 22
def holderTarget (h : Holder) : Nat := h.toNat / 256 % 16384
def holderIndex (h : Holder) : Nat := h.toNat % 256

/-- The ARRIVAL holder of a frame (R173). -/
def FrameInfo.arrivalHolder (x : FrameInfo) : Holder :=
  match x.ring with
  | some r => holderHost r
  | none => holderArrival x.port

/-- The (port, class) pair of a frame, or 16,384 + ring for the packets of a TX ring (R244, R386). -/
def FrameInfo.pair (x : FrameInfo) : Nat :=
  match x.ring with
  | some r => 16384 + r
  | none => x.port * 16 + x.tc

/-! ### Sequences (R244) -/

/-- `q` counts as earlier than `r`. -/
def seqEarlier (q r : Word) : Bool := decide (1 ≤ (r - q).toNat) && decide ((r - q).toNat ≤ 2 ^ 31)

/-- A lockstep pair that grants is being checked: it holds its grants and its outputs (R26). -/
def State.grantsPaused (s : State) : Bool :=
  s.chip.lockPool.phase ≠ .paired || s.chip.lockFree.phase ≠ .paired || s.chip.lockOrder.phase ≠ .paired

/-- The buffer pool manager or its free-list logic holds its outputs: no cell is granted and no holder operation is made
(R26). -/
def State.bufferPaused (s : State) : Bool := s.chip.lockPool.phase ≠ .paired || s.chip.lockFree.phase ≠ .paired

/-! ### Transmissions -/

/-- The value of one hop class. -/
def Hc4.get (x : Hc4) (h : Nat) : Nat :=
  if h = 0 then x.h0 else if h = 1 then x.h1 else if h = 2 then x.h2 else x.h3
def Hc4.set (x : Hc4) (h v : Nat) : Hc4 :=
  if h = 0 then { x with h0 := v } else if h = 1 then { x with h1 := v }
  else if h = 2 then { x with h2 := v } else { x with h3 := v }

/-- The link sequence and the credit of a first transmission that was interrupted go back, so that the copy leaves under
the same sequence when it is sent again (R225, R249). -/
def State.untakeSeq (s : State) (p : Nat) (t : TxCopy) : State :=
  match t.viaSeq with
  | none => s
  | some q =>
    if t.resend then s
    else
      let l := s.viaLink p
      let cells := (t.bytes.length - 8 + 255) / 256
      s.setVia p { l with
        next := q, used := l.used.set t.hop ((l.used.get t.hop + 2 ^ 32 - cells) % 2 ^ 32) }

/-- Interrupt the transmission of a port (R249): the frame ends with an inverted FCS. What becomes of the copy is the
caller's. -/
def State.stomp (s : State) (p : Nat) (t : TxCopy) : State :=
  if t.started then ((s.untakeSeq p t).emit (.frame p t.bytes true)).count (cPort p 12) 1 else s

/-- Interrupt a port and keep its copy ahead of its queue, to be sent again from its first byte (R249). -/
def State.stompAhead (s : State) (p : Nat) : State :=
  match s.tx p with
  | none => s
  | some t =>
    let s := s.stomp p t
    let s := if t.resend then s else s.setAhead t.queue (t.entry :: s.aheadOf t.queue)
    s.setTx p none

/-- Interrupt every port of a list. -/
def State.stompPorts (s : State) (ps : List Nat) : State := ps.foldl (fun s p => s.stompAhead p) s

/-- The ports with a copy in hand. -/
def State.busyPorts (s : State) : List Nat := s.egr.tx.map (fun e => e.1)

/-! ### Replays (R80, R247, R258) -/

/-- The place of a frame in its pair: how far its sequence is past RELEASE. -/
def State.seqDistance (s : State) (d : Nat) : Nat :=
  let x := s.info d
  ((s.desc d).seq - (s.order x.pair).release).toNat

/-- Queue the replay of ingress frames of a group, in sequence order per pair, ahead of those that wait; `again` says in
which stage of the pipeline that goes on with it a frame has met a check failure (R81). -/
def State.queueReplays (s : State) (g : Nat) (ds : List Nat) (again : Nat → Option Nat := fun _ => none) : State :=
  let old := (s.replaysOf g .ingress).map (fun r => r.desc)
  let all := sortBy s.seqDistance (ds.foldl addOnce old)
  let s := ds.foldl (fun s d => s.setInfo d { s.info d with ingressDone := false }) s
  s.setReplays g .ingress (all.map (fun d => { desc := d, copy := none, failedAt := again d }))

/-- The stages of a pass (R50). -/
def passStages : Pass → Nat | .ingress => 24 | .egress => 16

/-- The slot of a pass discarded in flight is WASTED, and that of its shadow with it (R300). -/
def State.waste (s : State) (k : Packet) : State :=
  if k.stage < passStages k.pass then
    let free := (s.passOf k.span k.pass).free.getD 4
    let s := s.count (cPipe (pipeNo k.span k.pass k.pipe) 2) 1
    if k.shadowed then s.count (cPipe (pipeNo k.span k.pass free) 2) 1 else s
  else s

/-- Take the packets that satisfy a condition out of the pipelines; their passes are discarded. -/
def State.dropWhere (s : State) (f : Packet → Bool) : State :=
  let hit (e : Nat × Option Packet) : Option Packet := e.2.filter f
  let gone := s.pipes.packets.filterMap hit
  let s := { s with pipes := { s.pipes with packets := s.pipes.packets.filter (fun e => (hit e).isNone) } }
  gone.foldl (fun s k => s.waste k) s

/-- Take the packets of a physical pipeline out. -/
def State.dropPackets (s : State) (span : Nat) (pass : Pass) (pipe : Nat) : State :=
  s.dropWhere (fun k => k.span = span && k.pass = pass && k.pipe = pipe)

/-- The packets of a physical pipeline, oldest first. -/
def State.pipePackets (s : State) (span : Nat) (pass : Pass) (pipe : Nat) : List Packet :=
  s.pipes.packets.filterMap (fun e =>
    match e.2 with
    | some k => if k.span = span && k.pass = pass && k.pipe = pipe then some k else none
    | none => none)

/-- Discard the results that a physical pipeline has left in the reorder buffer of a group (R247); the frames they
were of. -/
def State.dropResults (s : State) (g pipe : Nat) : State × List Nat :=
  s.ord.pairs.foldl (fun (acc : State × List Nat) e =>
      let ds := e.2.held.filterMap (fun h =>
        match h.2 with
        | .result r => if portGroup r.port = g && r.pipe = pipe then some r.desc else none
        | .void => none)
      if ds.isEmpty then acc
      else
        let po := acc.1.order e.1
        let keep := po.held.filter (fun h =>
          match h.2 with
          | .result r => !(portGroup r.port = g && r.pipe = pipe)
          | .void => true)
        let st := acc.1.setOrder e.1 { po with held := keep }
        let st := st.setReorderUse g (st.reorderUse g - ds.length)
        let st := st.count (cPipe (pipeNo (g / 4) .ingress pipe) 18) ds.length
        (st, acc.2 ++ ds)) (s, [])

/-- Discard everything an ingress pipeline has in flight or unreleased for a group, and queue the replays (R247). With
`same` the group stays with that pipeline, which has not forgotten what has failed in it (R81). -/
def State.discardIngress (s : State) (g pipe : Nat) (same : Bool := false) : State :=
  let span := g / 4
  let inside := s.pipePackets span .ingress pipe
  let old := s.replaysOf g .ingress
  let again (d : Nat) : Option Nat :=
    if same then
      (inside.findSome? (fun k => if k.desc = some d then k.failedAt else none)).or
        (old.findSome? (fun r => if r.desc = d then r.failedAt else none))
    else none
  let s := s.dropPackets span .ingress pipe
  let s := { s with pipes := { s.pipes with recirc := Tbl.put (fun _ => ([] : List Nat)) s.pipes.recirc g [] } }
  let (s, ds) := s.dropResults g pipe
  s.queueReplays g (ds ++ inside.filterMap (fun k => k.desc)) again

/-- Stomp what the ports of a group transmit out of the group's egress pipeline, retransmissions that have begun with the
rest; the copies that have to run their egress pass again (R249, R258). A retransmission keeps its link sequence. -/
def State.stompGroup (s : State) (g : Nat) : State × List (Nat × QEntry) :=
  (s.busyPorts.filter (fun p => portGroup p = g)).foldl (fun (acc : State × List (Nat × QEntry)) p =>
    match acc.1.tx p with
    | some t =>
      if t.resend && !t.started && !t.bytes.isEmpty then (acc.1.setTx p none, acc.2)
      else if t.ready.isSome || (t.resend && t.started) then
        let seq := if t.resend then t.viaSeq else none
        ((acc.1.stomp p t).setTx p (some { t with ready := none, started := false, bytes := [], viaSeq := seq }),
          acc.2 ++ [(t.queue, t.entry)])
      else acc
    | none => acc) (s, [])

/-- Discard everything an egress pipeline has in flight for a group, and, when the pipeline has failed, stomp the
transmissions that it feeds; every such copy runs its egress pass again ahead of its queue (R256, R258). `same` is as for
the ingress pass: the pipeline is sound, and the transmissions go on. -/
def State.discardEgress (s : State) (g pipe : Nat) (same : Bool := false) : State :=
  let span := g / 4
  let again (n : Option Nat) : Option Nat := if same then n else none
  let flying := (s.pipePackets span .egress pipe).filterMap (fun k => k.copy.map (fun c => (c, again k.failedAt)))
  let s := s.dropPackets span .egress pipe
  let y := if same then (s, []) else s.stompGroup g
  y.1.setReplays g .egress
    ((y.2.map (fun c => (c, (none : Option Nat))) ++ flying).map (fun c => { desc := c.1.2.desc, copy := some c.1, failedAt := c.2 })
      ++ (y.1.replaysOf g .egress).map (fun r => { r with failedAt := again r.failedAt }))

/-- The free pipeline of a pass no longer runs the packets that it shadowed: their slots in it are WASTED (R300). -/
def State.unshadow (s : State) (span : Nat) (pass : Pass) : State :=
  let mine (k : Packet) : Bool := k.span = span && k.pass = pass && k.shadowed
  let n := (s.pipes.packets.filter (fun e => (e.2.filter (fun k => mine k && k.stage < passStages pass)).isSome)).length
  let s := { s with pipes := { s.pipes with packets := s.pipes.packets.map (fun e =>
    (e.1, e.2.map (fun k => if mine k then { k with shadowed := false } else k))) } }
  if n = 0 then s else s.count (cPipe (pipeNo span pass ((s.passOf span pass).free.getD 4)) 2) n

/-- Discard what a pipeline holds for a group, in either pass. -/
def State.discardPipe (s : State) (g : Nat) (pass : Pass) (pipe : Nat) (same : Bool := false) : State :=
  match pass with
  | .ingress => s.discardIngress g pipe same
  | .egress => s.discardEgress g pipe same

/-! ### Fences, spares and reset hold -/

/-- The party of a physical pipeline among those that can be fenced (R451). -/
def partyPipe (span : Nat) (pass : Pass) (pipe : Nat) : Nat := pipeNo span pass pipe
/-- The party of a keystone pair. -/
def partyPair (p : Nat) : Nat := 160 + p
/-- The party of copy A (0) or B (1) of a lockstep block. -/
def partyLock (b : LockBlock) (copy : Nat) : Nat :=
  164 + 2 * (match b with | .bufferPool => 0 | .freeList => 1 | .orderKeepers => 2 | .collector => 3) + copy

/-- The party of a span: its parser, classifier, crossbar and trestle engine, which its reset takes out of service (R263). -/
def partySpan (n : Nat) : Nat := 180 + n

def State.fence (s : State) (party : Nat) : State :=
  { s with fc := { s.fc with fences := addOnce s.fc.fences party } }
def State.unfence (s : State) (party : Nat) : State :=
  { s with fc := { s.fc with fences := s.fc.fences.filter (fun x => x ≠ party) } }
def State.fenced (s : State) (party : Nat) : Bool := s.fc.fences.contains party

/-- The group that a physical pipeline serves, if it serves one. -/
def PassState.groupOf (x : PassState) (pipe : Nat) : Option Nat :=
  (List.range 4).find? (fun g => x.svc.getD g 7 = pipe && !x.unserved.contains g)

/-- The pipeline whose packets the free one shadows, and so the one whose packet is disputed (R252, R256). -/
def PassState.serving (x : PassState) : Nat := x.svc.getD x.target 7

/-- The egress pipeline of a port's group is being replaced, or none serves the group: what it has made is not sent
(R257, R258, R260). -/
def State.egressMoving (s : State) (p : Nat) : Bool :=
  let x := s.passOf (p / 64) .egress
  decide (x.switching = some (p / 16 % 4)) || x.unserved.contains (p / 16 % 4)

/-- The pass has no free pipeline (R259). -/
def PassState.degraded (x : PassState) : Bool := x.free.isNone

/-- A port group is in reset hold (R262). -/
def State.inHold (s : State) (g : Nat) : Bool := s.chip.hold.contains g

end Sys2Proof.Machine
end

