-- ==== Sys2Proof/Machine/Cells.lean ====
section
/-! DEFINITION. The arrays of the buffer pool manager: bytes of cells, link words, free lists, limits and charges, and
the cells of event records (R163, R165, R169 to R171, R184 to R188). -/

namespace Sys2Proof.Machine

/-! ### Cells and their bytes -/

/-- What a byte of a cell that nothing has written reads as (assumption 3). -/
def cellByteDefault : Nat → Byte := fun _ => 0

/-- One byte of the buffer: cell × 256 + byte (R163). -/
def State.cellByte (s : State) (a : Nat) : Byte := Tbl.get cellByteDefault s.buf.mem a

/-- Write bytes into the buffer from an address on. -/
def writeCellBytes : Tbl Byte → Nat → List Byte → Tbl Byte
  | m, _, [] => m
  | m, a, b :: t => writeCellBytes (Tbl.put cellByteDefault m a b) (a + 1) t

/-- Bytes 0 to n − 1 of a cell. -/
def State.cellBytes (s : State) (c n : Nat) : List Byte := (List.range n).map (fun k => s.cellByte (c * 256 + k))

/-- The link word of a cell that no write has touched: FREE, linked to the next row of its bank group (R169). -/
def linkDefault : Nat → LinkWord := fun c => { next := c + 1 }
def State.link (s : State) (c : Nat) : LinkWord := Tbl.get linkDefault s.buf.link c
def State.setLink (s : State) (c : Nat) (x : LinkWord) : State :=
  { s with buf := { s.buf with link := Tbl.put linkDefault s.buf.link c x } }

/-- An initialised free list: every row of the bank group, in ascending order (R195). -/
def freeDefault : Nat → FreeList := fun g => { head := g * 8192, tail := g * 8192 + 8191, count := 8192 }
def State.freeList (s : State) (g : Nat) : FreeList := Tbl.get freeDefault s.buf.free g
def State.setFree (s : State) (g : Nat) (x : FreeList) : State :=
  { s with buf := { s.buf with free := Tbl.put freeDefault s.buf.free g x } }

/-- The limits in force (R185). -/
def State.lim (s : State) (off hi lo : Nat) : Nat := getBits (Tbl.get resetWord s.buf.limits off) hi lo
/-- A class is lossless under the limits in force (R201). -/
def State.lossless (s : State) (c : Nat) : Bool := decide (s.lim (0x800100 + c * 4) 22 22 = 1)
def State.minOf (s : State) (q : Nat) : Nat := s.lim (0x810004 + q * 8) 15 0
def State.hdrmOf (s : State) (q : Nat) : Nat := s.lim (0x810004 + q * 8) 31 16
def State.maxOf (s : State) (q : Nat) : Nat := s.lim (0x810000 + q * 8) 21 0
def State.shCap (s : State) (c : Nat) : Nat := s.lim (0x800100 + c * 4) 21 0
/-- MAX − 16 × XON_GAP, not below 0 (R187). -/
def State.xonAt (s : State) (q : Nat) : Nat := s.maxOf q - 16 * s.lim (0x800100 + q % 16 * 4) 31 24
/-- BPM_SHARED (R197). -/
def State.sharedCells (s : State) : Nat := s.fld 0x80000C 21 0
def State.sharedDesc (s : State) : Nat := s.fld 0x800010 20 0

def pairUseDefault : Nat → PairUse := fun _ => {}
/-- The charges of pair q (R186). -/
def State.pairUse (s : State) (q : Nat) : PairUse := Tbl.get pairUseDefault s.buf.pair q
def State.setPairUse (s : State) (q : Nat) (x : PairUse) : State :=
  { s with buf := { s.buf with pair := Tbl.put pairUseDefault s.buf.pair q x } }
def State.clsShared (s : State) (c : Nat) : Nat := Tbl.get zeroNat s.buf.clsSh c
def State.setClsShared (s : State) (c n : Nat) : State :=
  { s with buf := { s.buf with clsSh := Tbl.put zeroNat s.buf.clsSh c n } }
/-- HEAD cells in use of a port (R184). -/
def State.headUse (s : State) (p : Nat) : Nat := Tbl.get zeroNat s.buf.head p
def State.setHeadUse (s : State) (p n : Nat) : State :=
  { s with buf := { s.buf with head := Tbl.put zeroNat s.buf.head p n } }

/-- Cells with STATE FREE, over all bank groups (R197). -/
def State.freeCells (s : State) : Nat := s.buf.free.foldl (fun n e => n + e.2.count - 8192) 2097152

/-! ### Free lists (R169 to R172, R189) -/

/-- Push a freed cell at the tail of its list (R169, R171). -/
def State.pushFree (s : State) (c : Nat) : State :=
  let g := c / 8192
  let f := s.freeList g
  let s := s.setLink c { (s.link c) with alloc := false, refcnt := 0, owner := 0, last := false }
  if f.count = 0 then s.setFree g { head := c, tail := c, count := 1 }
  else
    let s := s.setLink f.tail { (s.link f.tail) with next := c }
    s.setFree g { f with tail := c, count := f.count + 1 }

/-- The FREE rows of a bank group by its state bits, ascending. -/
def State.freeRows (s : State) (g : Nat) : List Nat :=
  ((List.range 8192).map (fun r => g * 8192 + r)).filter (fun c => !(s.link c).alloc)

/-- Link a list of cells through NEXT. -/
def linkChain : Tbl LinkWord → List Nat → Tbl LinkWord
  | t, c :: c' :: rest =>
    linkChain (Tbl.put linkDefault t c { (Tbl.get linkDefault t c) with next := c' }) (c' :: rest)
  | t, _ => t

/-- Rebuild a free list from the state bits in ascending row order (R172, R189). -/
def State.rebuildFree (s : State) (g : Nat) : State :=
  let rows := s.freeRows g
  let s := { s with buf := { s.buf with link := linkChain s.buf.link rows } }
  s.setFree g { head := rows.headD 0, tail := rows.getLastD 0, count := rows.length }

/-- The bank groups of a die in the order of a writer's rotation (R170). -/
def State.rotation (s : State) (w die : Nat) : List Nat :=
  let r := Tbl.get zeroNat s.buf.rot (w * 2 + die)
  (List.range 128).map (fun i => die * 128 + (r + i) % 128)

/-! ### Cells of event records (R170, R184, R293) -/

/-- The writer that takes the cells of event records (R170): the 64 MAC groups and the host DMA come before it. -/
def recordWriter : Nat := 65

/-- The bank groups of a die that have a free cell, in the order of a writer's rotation. -/
def State.usableGroups (s : State) (w die : Nat) : List Nat :=
  (s.rotation w die).filter (fun g => !s.fc.retired.contains g && (s.freeList g).count ≠ 0)

/-- Pop heads until one is FREE, which is taken: the heads found ALLOCATED, oldest first, and the cell (R172). -/
def State.popHeads (s : State) (g : Nat) : Nat → State × List Nat × Option Nat
  | 0 => (s, [], none)
  | n + 1 =>
    let f := s.freeList g
    let l := s.link f.head
    let s := s.setFree g { f with head := l.next, count := f.count - 1 }
    if l.alloc then
      let r := State.popHeads s g n
      (r.1, f.head :: r.2.1, r.2.2)
    else (s.setLink f.head { l with alloc := true, refcnt := 1 }, [], some f.head)

/-- A pop of the record writer: heads found ALLOCATED are passed over, the list is rebuilt, and their faults follow with
the writer's next record (R172, assumption 95). -/
def State.popRecord (s : State) (g : Nat) : State × Option Nat :=
  let r := s.popHeads g (s.freeList g).count
  if r.2.1.isEmpty then (r.1, r.2.2)
  else ({ r.1.rebuildFree g with buf := { (r.1.rebuildFree g).buf with found := r.1.buf.found ++ r.2.1 } }, r.2.2)

/-- Take a cell for a record on the preferred die, or on the other one when that has no free cell: from one of the bank
groups that have one, which of them depends on the write stages with room (R170). A list that has held no FREE cell at all
has been rebuilt, and the writer pops again (R172). -/
def State.takeHead (s : State) (w die : Nat) : Nat → State × Option Nat
  | 0 => (s, none)
  | n + 1 =>
    let die' := if (s.usableGroups w die).isEmpty then 1 - die else die
    let l := s.usableGroups w die'
    if l.isEmpty then (s, none)
    else
      let g := l.getD (Config.openStage s.freeCount % l.length) 0
      let r := ({ s with freeCount := s.freeCount + 1 }).popRecord g
      match r.2 with
      | none => State.takeHead r.1 w die n
      | some c =>
        let rot := Tbl.put zeroNat r.1.buf.rot (w * 2 + die') ((g % 128 + 1) % 128)
        let s := r.1.setLink c { (r.1.link c) with owner := 0, last := true }
        (({ s with buf := { s.buf with rot := rot } }).count (cChip 2) 1, some c)

/-- A record has been handed over or dropped: its cells are free again. -/
def State.recordFree (s : State) (cs : List Nat) : State :=
  (cs.foldl (fun s c => s.pushFree c) s).count (cChip 3) cs.length

/-- A cell for a record, on die 0 where it has one (assumption 95). -/
def State.recordCell (s : State) : State × Option Nat := s.takeHead recordWriter 0 257

/-- Take `n` cells for a record; none when the buffer has no such cells, and those taken go back. -/
def State.recordTake (s : State) : Nat → State × Option (List Nat)
  | 0 => (s, some [])
  | n + 1 =>
    let y := s.recordCell
    match y.2 with
    | none => (y.1, none)
    | some c =>
      let z := State.recordTake y.1 n
      match z.2 with
      | some cs => (z.1, some (c :: cs))
      | none => (z.1.recordFree [c], none)

end Sys2Proof.Machine
end

