-- ==== Sys2Proof/Machine/Flow.lean ====
section
/-! DEFINITION. Flow control toward the ingress peers and reset hold (R32, R219, R262): which priorities of a port are
held off, and the PFC frames that say so; and the frames of viaduct links (R223). -/

namespace Sys2Proof.Machine

/-! ### Priority flow control and reset hold -/

/-- The PFC priority of a class (R231). -/
def State.pfcPri (s : State) (c : Nat) : Nat := s.fld (0xC00040 + c * 4) 2 0

/-- Some pair of the port mapped to the priority is paused (R186, R219). -/
def State.anyPaused (s : State) (p k : Nat) : Bool :=
  (List.range 16).any (fun c => (s.pairUse (p * 16 + c)).paused && decide (s.pfcPri c = k))

/-- A lossless class is mapped to the priority. -/
def State.losslessPri (s : State) (k : Nat) : Bool :=
  (List.range 16).any (fun c => s.lossless c && decide (s.pfcPri c = k))

/-- Something holds the priority of a port off: a paused pair (R219), the arrival queue of its pipeline, for a lossless
priority (R32), or reset hold (R262). -/
def State.xoffCause (s : State) (p k : Nat) : Bool :=
  s.anyPaused p k || (s.rx.xoff.contains (portGroup p) && s.losslessPri k) || s.inHold (portGroup p)

/-- The MAC sends PFC frames for a priority of a port: TX_EN has its bit, the port is not in viaduct mode and its link
is up (R219, R222, R233). -/
def State.pfcSends (s : State) (p k : Nat) : Bool :=
  !s.viaduct p && s.linkUp p && s.bit (0xC03000 + p * 4) (8 + k)

/-- The time that a PFC frame carries for XOFF (R219, R233). -/
def State.xoffQuanta (s : State) (p : Nat) : Nat :=
  let q := s.fld (0xC03000 + p * 4) 31 16
  if q = 0 then 0xFFFF else q

/-- Send one PFC frame with the same time for the priorities of a list; none, with no priority (R219). -/
def State.sendPfc (s : State) (p : Nat) (ks : List Nat) (time : Nat) : State :=
  if ks.isEmpty then s
  else
    let times := (List.range 8).map (fun k => if ks.contains k then time else 0)
    (s.emit (.pfc p (ks.foldl (fun m k => m + 2 ^ k) 0) times)).count (cPort p (if time = 0 then 16 else 15)) 1

/-- XOFF for those priorities of a list that the port sends (R219). -/
def State.xoff (s : State) (p : Nat) (ks : List Nat) : State :=
  s.sendPfc p (ks.filter (fun k => s.pfcSends p k)) (s.xoffQuanta p)

/-- XON for those priorities of a list that the port sends and that nothing holds off any more (R32, R219, R262). -/
def State.xon (s : State) (p : Nat) (ks : List Nat) : State :=
  s.sendPfc p (ks.filter (fun k => s.pfcSends p k && !s.xoffCause p k)) 0

/-- The ports of a group. -/
def groupPorts (g : Nat) : List Nat := (List.range 16).map (fun i => g * 16 + i)

/-- The lossless priorities. -/
def State.losslessPris (s : State) : List Nat := (List.range 8).filter (fun k => s.losslessPri k)

/-- The arrival queue of a group asks every port of its pipeline to stop, or lets it go on (R32). -/
def State.arrivalPfc (s : State) (g : Nat) (stop : Bool) : State :=
  (groupPorts g).foldl (fun s p => if stop then s.xoff p s.losslessPris else s.xon p s.losslessPris) s

/-- The arrival queue has grown: at 8,192 frames the MAC sends XOFF (R32). -/
def State.arrivalXoff (s : State) (g : Nat) : State :=
  if 8192 ≤ (s.arrivals g).length && !s.rx.xoff.contains g then
    ({ s with rx := { s.rx with xoff := addOnce s.rx.xoff g } }).arrivalPfc g true
  else s

/-- The arrival queue has shrunk: at 6,144 frames or fewer after XOFF the MAC sends XON (R32). -/
def State.arrivalXon (s : State) (g : Nat) : State :=
  let n := (s.arrivals g).length
  let s := if n < 16384 then { s with rx := { s.rx with overload := s.rx.overload.filter (fun x => x ≠ g) } } else s
  if n ≤ 6144 && s.rx.xoff.contains g then
    ({ s with rx := { s.rx with xoff := s.rx.xoff.filter (fun x => x ≠ g) } }).arrivalPfc g false
  else s

/-- A port group enters reset hold: XOFF for every priority enabled in TX_EN of its ordinary, enabled ports (R262). -/
def State.enterHold (s : State) (g : Nat) : State :=
  if s.inHold g then s
  else
    let s := { s with chip := { s.chip with hold := addOnce s.chip.hold g } }
    (groupPorts g).foldl (fun s p => s.xoff p (List.range 8)) s

/-- Reset hold ends: the MACs send XON for what nothing else holds off (R263, R265, assumption 96). -/
def State.leaveHold (s : State) (g : Nat) : State :=
  if s.inHold g then
    let s := { s with chip := { s.chip with hold := s.chip.hold.filter (fun x => x ≠ g) } }
    (groupPorts g).foldl (fun s p => s.xon p (List.range 8)) s
  else s

/-! ### Deck headers and control frames of viaduct links (R223) -/

/-- CRC-8 with polynomial 0x07 over bytes (R223). -/
def crc8 (bs : List Byte) : Byte :=
  bs.foldl (fun c b => (List.range 8).foldl (fun x _ => if x.getLsbD 7 then (x <<< 1) ^^^ 0x07 else x <<< 1) (c ^^^ b)) 0

/-- A deck header of 8 bytes. -/
def deckHeader (seq ack hc type : Nat) : List Byte :=
  let h := beBytes 3 seq ++ beBytes 3 ack ++ beBytes 1 (hc % 4 * 64 + type % 16)
  h ++ [crc8 h]

/-- CHK of a deck header verifies. -/
def deckGood (deck : DWord) : Bool := crc8 (beBytes 7 (deck.toNat / 256)) = deck.setWidth 8

def deckType (deck : DWord) : Nat := deck.toNat / 2 ^ 8 % 16
def deckSeq (deck : DWord) : Nat := deck.toNat / 2 ^ 40
def deckAck (deck : DWord) : Nat := deck.toNat / 2 ^ 16 % 2 ^ 24
def deckHop (deck : DWord) : Nat := deck.toNat / 2 ^ 14 % 4

/-- A control frame: the deck header, a body of 52 bytes that starts with words in network order and ends in zeros, and
a CRC-32 over both, computed as an Ethernet FCS. -/
def controlBytes (type ack : Nat) (body : List Word) : List Byte :=
  let h := deckHeader 0 ack 0 type ++ sliceBytes (body.flatMap (fun w => beBytes 4 w.toNat)) 0 52
  h ++ ethFcs h

/-- A received control frame can be used: its CHK and its CRC-32 verify, and its TYPE is `type`. -/
def frameGood (f : ViaFrame) (type : Nat) : Bool :=
  deckGood f.deck && decide (deckType f.deck = type) && decide (ethFcs (beBytes 8 f.deck.toNat ++ f.body) = f.crc)

/-- The i-th word of the body of a control frame, in network order. -/
def frameWord (f : ViaFrame) (i : Nat) : Word := BitVec.ofNat 32 (beNat (sliceBytes f.body (4 * i) 4))

/-- The sequence of the last DATA frame accepted: E − 1. -/
def ViaLink.ack (l : ViaLink) : Nat := (l.e + 2 ^ 24 - 1) % 2 ^ 24

def Hc4.words (x : Hc4) : List Word := [x.h0, x.h1, x.h2, x.h3].map (fun n => BitVec.ofNat 32 n)

/-- The link can carry control frames; in reset hold the MAC sends idle only and discards what arrives (R262). -/
def State.viaRuns (s : State) (p : Nat) : Bool := s.viaduct p && s.linkUp p && !s.inHold (portGroup p)

/-- Send a control frame; a due ACK rides in it (R223, R225). -/
def State.sendControl (s : State) (p type : Nat) (body : List Word) : State :=
  let l := s.viaLink p
  (s.setVia p { l with ackDue := false }).emit (.viaControl p (controlBytes type l.ack body))

/-- Send CREDIT with the cumulative GRANTED values (R226). -/
def State.sendCredit (s : State) (p : Nat) : State :=
  let s := s.setVia p { s.viaLink p with lastCredit := (s.viaLink p).grant }
  s.sendControl p 10 (s.viaLink p).grant.words

/-- GRANTED of hop class `h` grows by `n` cells; CREDIT is sent once it has grown by 64 since the last one (R226). -/
def State.grantCells (s : State) (p h n : Nat) : State :=
  let l := s.viaLink p
  let s := s.setVia p { l with grant := l.grant.set h ((l.grant.get h + n) % 2 ^ 32) }
  let l := s.viaLink p
  if s.viaRuns p && decide (64 ≤ (l.grant.get h + 2 ^ 32 - l.lastCredit.get h) % 2 ^ 32) then s.sendCredit p else s

end Sys2Proof.Machine
end

