-- ==== Sys2Proof/Machine/Fuses.lean ====
section
/-! DEFINITION. The effective values of the calibrated quantities: factory values, user fields and the conservative values of
bad fuses (R501, R502, R505). -/

namespace Sys2Proof.Machine

/-- A fuse word of a quantity is uncorrectable (R502): 0 VCORE window, 1 droop, 2 thermal, 3 hold-up gain, 4 grade,
5 SerDes trims, 6 path delays. -/
def State.badFuse (s : State) (k : Nat) : Bool := s.chip.badFuses.getLsbD k

/-- The grade that the device uses: extended, unless its fuse word is uncorrectable (R502, R505). -/
def State.gradeX (s : State) : Bool := Config.gradeExtended && !s.badFuse 4

/-- The signed user field of a quantity: 0 AVS, 1 droop, 2 thermal, 3 hold-up gain (R505). -/
def State.userField (s : State) (k : Nat) : Int :=
  let w := if k = 2 then 9 else if k = 3 then 8 else 5
  signedBits (s.fld (0x1000 + 4 * k) (w - 1) 0) w

/-- The user range of a quantity in its own unit (R501). -/
def userRange (k : Nat) : Int × Int :=
  if k = 0 then (-10, 10) else if k = 1 then (-8, 8) else if k = 2 then (-32, 128) else (-81, 81)

/-- The user field as it acts: beyond its range it acts as the nearer limit (R501). -/
def State.user (s : State) (k : Nat) : Int := clampInt (s.userField k) (userRange k).1 (userRange k).2

/-- The effective clamp of a quantity (R501). -/
def effRange (k : Nat) : Int × Int :=
  if k = 0 then (260, 320) else if k = 1 then (6, 24) else if k = 2 then (-160, 160) else (3892, 4300)

/-- The value used for a quantity whose fuse word is uncorrectable (R502). -/
def conservative (k : Nat) : Int := if k = 0 then 320 else if k = 1 then 6 else if k = 2 then 160 else 0

/-- The factory value of instance `i` of a quantity (R501). -/
def factory (k i : Nat) : Int := Config.factoryCal k i

/-- The effective value of instance `i` of quantity `k` (R501, R502): VCORE window edges in 2.5 mV (2p low and 2p + 1 high
of point p), the droop threshold of detector i in 2.5 mV, the offset of sensor i in 1/16 °C, the hold-up gains in
2^−12 (0 voltage, 1 current). -/
def State.calValue (s : State) (k i : Nat) : Int :=
  if s.badFuse k then conservative k else clampInt (factory k i + s.user k) (effRange k).1 (effRange k).2

end Sys2Proof.Machine
end

