-- ==== Sys2Proof/Machine/Point.lean ====
section
/-! DEFINITION. What the fault collector reaches directly besides the pipelines: frames on the pier links (R355), the
operating point under its caps and the concord vote (R466 to R477), the trestle engines (R123), and the armed joint
(R113). -/

namespace Sys2Proof.Machine

/-! ### Frames on pier links -/

/-- The bytes of a pier frame between K27.7 and K29.7 (R355). -/
def pierFrame (type seq : Nat) (payload : List Byte) : List Byte :=
  let body := [BitVec.ofNat 8 type, BitVec.ofNat 8 payload.length, BitVec.ofNat 8 seq, 0] ++ payload
  body ++ beBytes 4 (crc32c body).toNat

/-- Frames sent on a pier link, modulo 256 (R355). -/
def State.pierSeq (s : State) (n : Nat) : Nat := Tbl.get zeroNat s.pierTx n

/-- Send a frame on a pier link. -/
def State.pierSend (s : State) (n type : Nat) (payload : List Byte) : State :=
  let q := s.pierSeq n
  ({ s with pierTx := Tbl.put zeroNat s.pierTx n ((q + 1) % 256) }).emit (.pier n (pierFrame type q payload))

def pierDefault : Nat → PierRec := fun _ => {}
def State.pier (s : State) (n : Nat) : PierRec := Tbl.get pierDefault s.piers n
def State.setPier (s : State) (n : Nat) (x : PierRec) : State :=
  { s with piers := Tbl.put pierDefault s.piers n x }

/-- A pier link is enabled and UP: it takes frames and marks (R353, R357). -/
def State.pierRuns (s : State) (n : Nat) : Bool :=
  s.bit (0x2400000 + n * 0x100) 31 && decide (s.fld (0x2400004 + n * 0x100) 31 29 = 5)

/-- A pier link sends the services' frames: it has come UP; where its receiver has lost alignment since, the transmitter
continues (R354, assumption 42). -/
def State.pierSends (s : State) (n : Nat) : Bool :=
  s.bit (0x2400000 + n * 0x100) 31 && (s.pier n).sends && s.mgmtView 4 n

/-- A pier link is available to the services: it is UP, and the keystone's view says so too (R453). -/
def State.pierUsable (s : State) (n : Nat) : Bool := s.pierRuns n && s.mgmtView 4 n

/-! ### The operating point -/

/-- OP_MAX, OP_MIN and the preferred point of the current phase, as they act (R483). -/
def State.opMax (s : State) : Nat := min 5 (s.fld 0x300000 10 8)
def State.opMin (s : State) : Nat := min s.opMax (s.fld 0x300000 6 4)
def State.phase (s : State) : Nat := s.fld 0x300008 22 20
def State.phaseOp (s : State) : Nat := s.fld 0x300004 (4 * s.phase + 2) (4 * s.phase)

/-- POLICY (R466). -/
def State.policy (s : State) : Nat := min (max s.phaseOp s.opMin) s.opMax

/-- CAP (R466): the lowest limit in force, OP5 when none is. -/
def State.capOp (s : State) : Nat :=
  let p := s.pwr
  let z := if p.safeCap || p.alert || p.tjmax then 0 else 5
  min z (min (p.throttle.getD 5) (p.pmbus.getD 5))

/-- The point in use. -/
def State.curOp (s : State) : Nat := s.fld 0x300008 31 29
def State.setOp (s : State) (n : Nat) : State := s.setFld 0x300008 31 29 n

/-- A member of a concord group: a change of EN takes effect at the next round (R474, R483). -/
def State.inGroup (s : State) : Bool := s.pwr.member

/-- What the device asks for in a round (R476). -/
def State.request (s : State) : Nat := min s.policy s.capOp

/-- The payload of a CONCORD frame (R475). -/
def State.concordPayload (s : State) (v : Vote) : List Byte :=
  beBytes 2 (s.fld 0x300040 15 0) ++ beBytes 6 v.sec ++ beBytes 4 v.ns ++ beBytes 1 v.minOp ++ beBytes 1 s.request
    ++ beBytes 2 (v.minDev % 4096)

/-- Send CONCORD on each link of LINKS (R476). -/
def State.sendConcord (s : State) (v : Vote) : State :=
  (List.range 4).foldl (fun s n =>
    if s.bit 0x300040 (24 + n) && s.pierSends n then s.pierSend n 0x11 (s.concordPayload v) else s) s

/-- The lower of what a round knows and a request of a device (R475, R476). -/
def Vote.hear (v : Vote) (op dev : Nat) : Vote :=
  if op < v.minOp ∨ (op = v.minOp ∧ dev < v.minDev) then { v with minOp := op, minDev := dev } else v

/-- The round that is open. -/
def State.openVote (s : State) : Option Vote := s.pwr.votes.find? (fun v => v.opened)

def State.putVote (s : State) (v : Vote) : State :=
  { s with pwr := { s.pwr with
      votes := v :: s.pwr.votes.filter (fun x => !(x.sec = v.sec && x.ns = v.ns)) } }

/-- The status fields that the caps decide (R483). -/
def State.showCaps (s : State) : State :=
  let p := s.pwr
  let s := ((s.setFld 0x300008 19 16 s.capOp).setBit 0x300008 15 p.safeCap).setBit 0x300008 14 p.alert
  let s := ((s.setBit 0x300008 13 p.tjmax).setBit 0x300008 12 p.throttle.isSome).setBit 0x300008 11 p.pmbus.isSome
  s.setFld 0x300008 28 26 s.policy

/-! ### The VCORE voltage (R468 to R470) -/

/-- PMBus 1.3 command codes, and the alert response address (R470, assumption 70). -/
def pmbVoutCommand : Nat := 0x21
def pmbReadVout : Nat := 0x8B
def pmbStatusWord : Nat := 0x79
def pmbClearFaults : Nat := 0x03
def pmbAlertResponse : Nat := 0x0C

/-- A PMBus transaction with the VCORE regulator, at the address of PWR_PMB_CFG (R470). -/
def State.pmbusSend (s : State) (command data : Nat) : State := s.emit (.pmbus (s.fld 0x300018 6 0) command data)

/-- A voltage in units of 2.5 mV brought into the window of a point (R469). -/
def State.inWindow (s : State) (op : Nat) (v : Int) : Nat :=
  (min (max v (s.calValue 0 (2 * op))) (s.calValue 0 (2 * op + 1))).toNat

/-- Send VOUT_COMMAND for a VCORE target, which TARGET shows (R468, R469, R483). -/
def State.commandTarget (s : State) (v : Nat) : State :=
  let s := { s with pwr := { s.pwr with target25 := v } }
  (s.setFld 0x300014 25 16 (v * 5 / 2)).pmbusSend pmbVoutCommand v

/-- Set the VCORE target (R469, R483); a target that changes is sent to the regulator. -/
def State.setTarget25 (s : State) (v : Nat) : State := if v = s.pwr.target25 then s else s.commandTarget v

/-- The target comes back into the window of the point in use (R469); while the regulator cannot be reached the last target
is held (R470). -/
def State.settleVcore (s : State) : State :=
  if s.pwr.pmbus.isSome then s else s.setTarget25 (s.inWindow s.curOp s.pwr.target25)

/-- A rise under way is given up: the voltage target goes back to where it was, in the window of the point in use (R468,
R469). -/
def State.dropRise (s : State) : State :=
  match s.pwr.rise with
  | none => s
  | some _ =>
    let v := s.inWindow s.curOp s.pwr.before25
    ({ s with pwr := { s.pwr with rise := none, riseOk := false } }).setTarget25 v

/-! ### Caps (R466, R467, R477) -/

/-- An open round of a group is told of the request in force (R477). -/
def State.tellRound (s : State) : State :=
  match s.openVote with
  | some v =>
    if s.inGroup then
      let v := v.hear s.request s.deviceId
      (s.putVote v).sendConcord v
    else s
  | none => s

/-- A cap has fallen (R467): below the point in use, the point falls to it at once, a rise under way is given up, the VCORE
target follows into the window of the new point (R469, R472), and an open round of a group is told (R477). -/
def State.capFall (s : State) : State :=
  let s := s.showCaps
  if s.capOp < s.curOp then (s.setOp s.capOp).dropRise.settleVcore.tellRound else s

/-- A limit that overrides software starts (R466): it counts when the point is then below OP_MIN. -/
def State.overrideStarts (s : State) : State :=
  let s := s.capFall
  if s.curOp < s.opMin then s.incSat 0x30000C 31 0 1 else s

/-! ### Trestle engines -/

def trestleDefault : Nat → Trestle := fun _ => {}
def State.engine (s : State) (span : Nat) : Trestle := Tbl.get trestleDefault s.trestle span
def State.setEngine (s : State) (span : Nat) (x : Trestle) : State :=
  { s with trestle := Tbl.put trestleDefault s.trestle span x }

/-- Halt the routine of an engine with its context of the last boundary (R123): `st` is 3 STOPPED or 4 FAULTED. DESIGN
CHOICE: a saved context exists, and CTX_VALID reads 1, from here until it is resumed or discarded; R126 does not say whether
the context that R123 commits at every boundary counts while the routine runs (assumption 144). -/
def State.haltEngine (s : State) (span st : Nat) : State :=
  let x := s.engine span
  if x.state = 1 ∨ x.state = 2 then s.setEngine span { x with state := st, ctx := true } else s

/-- Some routine that is running or stopped writes V bits of the shadow generation (R113). -/
def State.trestlePending (s : State) : Bool :=
  s.trestle.any (fun e => e.2.touches && e.2.state ≠ 0)

/-! ### The armed joint -/

/-- Disarm the joint: ARM of JNT_CTRL and of its slot go (R113). -/
def State.disarmJoint (s : State) : State :=
  match s.progs.joint with
  | none => s
  | some i =>
    let s := { s with progs := { s.progs with joint := none, jointChecked := false, jointCancel := false } }
    let s := (s.setBit (0x202010 + i * 0x20) 31 false).setBit 0x200 8 false
    s.setFld 0x204 2 1 (if s.fld 0x10C 26 24 = 5 then 2 else 0)

/-- A joint is refused or aborted: ABORTED and its cause, the interrupt source JOINT, and the keystone's report
(R112, R113, R395). -/
def State.showAbort (s : State) (cause : Nat) (report : Bool) : State :=
  let s := ((s.setBit 0x204 3 true).setFld 0x204 7 4 cause).irq 1
  if report then
    (List.range 4).foldl (fun s n =>
      if s.pierSends n then s.pierSend n 0x10 ((Config.jointReport cause).take 252) else s) s
  else s

end Sys2Proof.Machine
end

