-- ==== Sys2Proof/Machine/Latch.lean ====
section
/-! DEFINITION. The fault collector's latch and the reactions that hardware starts from it (R428 to R447). A command
that raises a fault latches it at the chip collector in the same step; the propagation delay of R23 is left out. -/

namespace Sys2Proof.Machine

def sourceDefault : Nat → SourceRec := fun _ => {}
def State.source (s : State) (src : Nat) : SourceRec := Tbl.get sourceDefault s.fc.src src
def State.setSource (s : State) (src : Nat) (x : SourceRec) : State :=
  { s with fc := { s.fc with src := Tbl.put sourceDefault s.fc.src src x } }

/-- What follows goes back to a firing of an injection, or does not (R456). -/
def State.setReacting (s : State) (b : Bool) : State := { s with fc := { s.fc with reacting := b } }

def faultCode : FaultClass → Nat | .d => 0 | .s => 1 | .n => 2

/-- The physical pipeline that a source names: span, pass, pipeline (R427). -/
def pipeOfSource (src : Nat) : Option (Nat × Pass × Nat) :=
  let b := src / 0x40 % 64
  if 1 ≤ b ∧ b ≤ 5 then some (src / 0x1000, .ingress, b - 1)
  else if 6 ≤ b ∧ b ≤ 10 then some (src / 0x1000, .egress, b - 6)
  else none

/-- Queue the record of an occurrence in a cell of its own (R435); at most 256 wait, and one that finds no cell is
dropped and counted (R184, R188). In OFF nothing is written (R484). -/
def State.record (s : State) (src : Nat) (cls : FaultClass) (flags : Nat) : State :=
  let x := s.source src
  if !s.bit 0x400000 31 || s.chip.mode = .off then s
  else if s.fc.records.length ≥ 256 then s.incSat 0x400004 15 0 1
  else
    let y := s.recordCell
    match y.2 with
    | none => y.1.incSat 0x400004 15 0 1
    | some c =>
      let s := y.1
      let clean := match pipeOfSource src with
        | some (sp, ps, k) => if src % 64 = 0x3E then (s.pipeOf (pipeNo sp ps k)).lastClean else 0
        | none => 0
      { s with fc := { s.fc with records := s.fc.records ++ [{
          source := src, cls := cls, flags := flags, count := x.count, state := s.chip.mode.code, ts := s.tb0Ns,
          sec := BitVec.ofNat 32 (secOf (s.tb 0).val), detail := x.detail, lastClean := clean,
          device := s.deviceId, cell := c }] } }

/-- A class-N occurrence is recorded when the last record of its source is 100 ms old (R435). -/
def recordDue (x : SourceRec) (s : State) (cls : FaultClass) : Bool :=
  match cls, x.lastN with
  | .n, some t => decide (t + 100000000 ≤ s.now)
  | _, _ => true

/-- What a source shows after an occurrence (R428 to R430). -/
def latched (x : SourceRec) (s : State) (cls : FaultClass) (detail : Nat) (live : Bool) : SourceRec :=
  { x with
    cause := true, live := live, count := min (x.count + 1) 0xFFFF,
    firstTs := if x.count = 0 then s.tb0Ns else x.firstTs, detail := BitVec.ofNat 64 detail, names := [], cls := cls,
    lastN := if cls = .n && recordDue x s cls then some s.now else x.lastN }

/-- The flags of the record of an occurrence (R435, R456). -/
def State.recordFlags (s : State) (src : Nat) (live threshold safe : Bool) : Nat :=
  let fired := decide (s.fc.injNext = some src)
  live.toNat + 2 * (decide ((s.source src).count = 0)).toNat + 4 * (fired || s.fc.reacting).toNat
    + 8 * (fired && s.fc.injQuiet).toNat + 16 * safe.toNat + 32 * threshold.toNat

/-- What the fault just latched for a source names beside it (assumption 94). -/
def State.nameFault (s : State) (src : Nat) (names : List Nat) : State := s.setSource src { (s.source src) with names := names }

/-- The firing of an injection has shown as this occurrence (R456). -/
def State.takeFiring (s : State) (src : Nat) : State :=
  { s with fc := { s.fc with injNext := if s.fc.injNext = some src then none else s.fc.injNext } }

/-- Latch an occurrence and record it: CAUSE, LIVE, COUNT, FIRST_TS, DETAIL and the class summary (R428 to R430, R435).
No reaction yet. -/
def State.latchCore (s : State) (src : Nat) (cls : FaultClass) (detail : Nat) (live threshold safe : Bool) : State :=
  let x := s.source src
  let flags := s.recordFlags src live threshold safe
  let t := ((s.setSource src (latched x s cls detail live)).setBit 0x100004 (16 + faultCode cls) true).takeFiring src
  (if recordDue x s cls then t.record src cls flags else t).irq (2 + faultCode cls)

/-- ERR_S rises, and its 1 ms timer restarts (R438). -/
def State.raiseErrS (s : State) : State :=
  let s := (s.setBit 0x100014 0 true).setBit 0x100014 1 true
  ({ s with fc := { s.fc with errSTimer := true } }).emit (.pin "ERR_S" true)

/-- The FAULT payload (R356). -/
def State.faultPayload (s : State) (src : Nat) (cls : FaultClass) : List Byte :=
  beBytes 2 src ++ beBytes 1 (faultCode cls) ++ beBytes 1 s.chip.mode.code ++ beBytes 4 s.tb0Ns.toNat
    ++ beBytes 2 s.deviceId

/-- Propagate a fault on every enabled pier link whose FAULT_LVL asks for it: 8 K30.7 and a FAULT frame (R360). The
transmitter of an enabled link runs whatever its receiver does (R354). -/
def State.pierPropagate (s : State) (src : Nat) (cls : FaultClass) : State :=
  (List.range 4).foldl (fun s n =>
    let lvl := s.fld (0x2400000 + n * 0x100) 28 27
    let want := match cls with
      | .d => decide (1 ≤ lvl)
      | .s => decide (lvl = 2)
      | .n => false
    if s.bit (0x2400000 + n * 0x100) 31 && want then
      let t := s.emit (.pierSymbols n 30 8)
      if (s.pier n).stepSent && !(s.pier n).sends then t else t.pierSend n 4 (s.faultPayload src cls)
    else s) s

/-- The cause that FC_SAFE records for an entering fault (R461). -/
def safeCause (src : Nat) : Nat :=
  let b := src / 0x40 % 64
  let e := src % 64
  if src < 0xF800 then (if (pipeOfSource src).isSome then 5 else 1)
  else if b = 0x24 ∧ e = 4 then 2
  else if b = 0x21 ∧ e = 0x17 then 4
  else if (0x21 ≤ b ∧ b ≤ 0x24) ∧ e ≤ 2 then 3
  else if b = 0x23 ∧ e = 5 then 10
  else if b = 0x3A ∧ e = 0 then 6
  else if b = 0x35 then 7
  else if b = 0x2F ∨ b = 0x30 then 8
  else if b = 0x32 then 9
  else 1

/-- WARM_OK is 0 for COLLECTOR, LOCKSTEP, MISDIRECT, TIME and ORDER_STATE (R445). -/
def warmOk (cause : Nat) : Bool := !([2, 3, 4, 9, 10].contains cause)

/-- Abort the armed joint (R113, R324): class N against CHIP element 3, with the cause in DETAIL (R432). -/
def State.abortJoint (s : State) (cause : Nat) : State :=
  if s.progs.joint.isNone then s
  else (s.disarmJoint.showAbort cause true).latchCore (srcChip 0 3) .n (cause * 2 ^ 28) false false false

/-- FC_SAFE and its companions show the entry, and STATE is SAFE (R443, R445, R461). -/
def State.showSafe (s : State) (src cause : Nat) : State :=
  let s := s.setReg 0x100008 (BitVec.ofNat 32 (2 ^ 31 + (warmOk cause).toNat * 2 ^ 30 + cause))
  let s := s.setReg 0x10000C (BitVec.ofNat 32 src)
  let s := s.setReg 0x100010 s.tb0Ns
  s.setBit 0x100004 19 true

/-- FC_PIN.TEST is cleared when the device leaves TEST (R462). -/
def State.endPinTest (s : State) : State := if s.chip.mode = .test then s.setBit 0x100018 31 false else s

/-- STATE is SAFE, and the pair ERR_D is driven (R442, R443). -/
def State.markSafe (s : State) : State :=
  let s := s.endPinTest
  ({ s with
     chip := { s.chip with mode := .safe, warm := .none },
     fc := { s.fc with errD := true, safeDone := false, safeAt := some s.now } }).emit (.pin "ERR_D" true)

/-- A switch to the free pipeline that is under way ends: the safe state overrides it (R442). -/
def State.endSwitches (s : State) : State :=
  (List.range 32).foldl (fun s i =>
    let pass : Pass := if i % 2 = 0 then .ingress else .egress
    let x := s.passOf (i / 2) pass
    if x.switching.isSome then
      s.setPass (i / 2) pass { x with switching := none, drained := false, injected := false }
    else s) s

/-- The cap of the safe state (R466). -/
def State.capSafe (s : State) : State := { s with pwr := { s.pwr with safeCap := true } }

/-- Enter the safe state (R443): FC_SAFE, ERR_D 0/1, copies in transmission stomped, pier links
told, the armed joint aborted, trestle engines stopped, and the point at OP0. Nothing leads from OFF to SAFE (R485). -/
def State.enterSafe (s : State) (src cause : Nat) : State :=
  if s.chip.mode = .safe ∨ s.chip.mode = .off then s
  else
    let s := (s.showSafe src cause).markSafe.endSwitches
    let s := s.stompPorts s.busyPorts
    let s := (s.pierPropagate src .d).abortJoint 4
    let s := (List.range 16).foldl (fun s n => s.haltEngine n 3) s
    s.capSafe.overrideStarts

/-- A source in the span collector or the trestle engine of a span (R427). -/
def haltsEngine (src : Nat) : Bool := src < 0xF800 && (src / 0x40 % 64 = 0x0E || src / 0x40 % 64 = 0)

/-- A fault of the span collector or of a trestle engine halts the routine of its engine (R123). -/
def State.haltFor (s : State) (src : Nat) : State :=
  if haltsEngine src then s.haltEngine (src / 0x1000) 4 else s

/-- Latch a class-S fault that a reaction raises and whose own pipeline reaction is under way: ERR_S, the pier links, and
the routine of the span's engine (R123, R360, R438). -/
def State.latchService (s : State) (src : Nat) (detail : Nat := 0) : State :=
  ((s.latchCore src .s detail false false false).haltFor src).raiseErrS.pierPropagate src .s

/-- A pass of a span has lost its free pipeline (R259): class S against 0x3E of the span collector. -/
def State.degrade (s : State) (span : Nat) : State := s.latchService (srcSpan span 0 0x3E)

/-- No pipeline can take a group (R260): an ingress group enters reset hold, an egress group stops transmitting, and a
class-S fault is raised against the pipeline, with the packet concerned in DETAIL (R432). -/
def State.holdGroup (s : State) (span : Nat) (pass : Pass) (g pipe detail : Nat) : State :=
  let x := s.passOf span pass
  let s := s.setPass span pass { x with unserved := addOnce x.unserved g }
  let s := match pass with
    | .ingress => s.enterHold (span * 4 + g)
    | .egress => s
  s.latchService (srcSpan span (pipeBlock pass pipe) 0x3F) detail

/-- The lease on a frame that is not accepted yet is revoked (R30, R451): its sequence is void. What has arrived of it is
released when the next part of it arrives. -/
def State.revoke (s : State) (d : Nat) : State :=
  let x := s.info d
  let o := s.order x.pair
  let seq := (s.desc d).seq
  let s := s.setInfo d { x with revoked := true }
  (s.setOrder x.pair { o with held := o.held.filter (fun h => h.1 ≠ seq) ++ [(seq, .void)] }).count (cPcl x.pair 7) 1

/-- A lossless frame that is not accepted (R29, R451); lossy frames, which never are, are replayed (R247). -/
def State.unaccepted (s : State) (d : Nat) : Bool :=
  (s.desc d).lossless && !(s.desc d).accepted && (s.info d).ring.isNone

/-- The owner revokes the leases of a fenced ingress pipeline on the frames that are not accepted yet; the others wait
for their replay (R247, R451). -/
def State.revokeLeases (s : State) (g : Nat) : State :=
  let l := s.replaysOf g .ingress
  let s' := s.setReplays g .ingress (l.filter (fun r => !s.unaccepted r.desc))
  (l.filter (fun r => s.unaccepted r.desc)).foldl (fun s r => s.revoke r.desc) s'

/-- SPn_SPARE_CTRL of a span (R277). -/
def spareCtrl (span : Nat) : Nat := 0x100A000 + span * 0x100000

/-- With ROT_EN clear no pipeline of the pass shadows, except while a compare is being resolved (R252, R256, R277). -/
def State.rotationStop (s : State) (span : Nat) (pass : Pass) : State :=
  let x := s.passOf span pass
  if s.bit (spareCtrl span) 0 || x.resolving ≠ 0 then s
  else (s.setPass span pass { x with shadowOn := false, draining := false }).unshadow span pass

/-- A mismatch resolution ends: the group's packets and unreleased results are discarded and replayed, in the pipeline
that serves the group (R247, R256). -/
def State.endResolution (s : State) (span : Nat) (pass : Pass) : State :=
  let x := s.passOf span pass
  if x.resolving = 0 then s
  else
    let s := s.setPass span pass { x with resolving := 0, disputed := none }
    (s.discardPipe (span * 4 + x.target) pass x.serving true).rotationStop span pass

/-- A physical pipeline is faulty (R257, R258, R260): it is fenced and marked FAULTY, the shadow ends, what it holds is
discarded, and its group starts to move to the free pipeline; in a degraded pass the group is held. -/
def State.pipelineFaulty (s : State) (span : Nat) (pass : Pass) (pipe : Nat) (detail : Nat := 0) : State :=
  if (s.passOf span pass).faulty.contains pipe then s
  else
    let s := ((s.fence (partyPipe span pass pipe)).endResolution span pass).unshadow span pass
    let x := s.passOf span pass
    let x := { x with faulty := addOnce x.faulty pipe, shadowOn := false, draining := false }
    if x.free = some pipe then
      -- the free pipeline itself: a switch that needed it has no pipeline left (R257)
      let s := (s.setPass span pass { x with free := none, switching := none, drained := false }).degrade span
      match x.switching with
      | some g => s.holdGroup span pass g pipe detail
      | none => s
    else
      match x.groupOf pipe with
      | none => s.setPass span pass x
      | some g =>
        let s := (s.setPass span pass x).discardPipe (span * 4 + g) pass pipe
        let s := match pass with
          | .ingress => s.revokeLeases (span * 4 + g)
          | .egress => s
        if x.free.isSome && x.switching.isNone then
          s.setPass span pass { (s.passOf span pass) with
            switching := some g, drained := false, injected := s.fc.reacting }
        else s.holdGroup span pass g pipe detail

/-- The safe state has been entered in this instant, and overrides every other reaction (R442, assumption 128). -/
def State.safeNow (s : State) : Bool := s.chip.mode = .safe && decide (s.fc.safeAt = some s.now)

/-- The reactions that a latched fault calls for (R436, R441 to R443, R451): a received pier fault is never relayed. -/
def State.react (s : State) (src : Nat) (cls : FaultClass) : State :=
  match cls with
  | .n => s
  | .s =>
    if s.safeNow then s
    else
      let s := s.raiseErrS
      let s := if srcChip 0x13 4 ≤ src && src ≤ srcChip 0x13 7 then s else s.pierPropagate src .s
      match pipeOfSource src with
      | some (sp, ps, k) => s.pipelineFaulty sp ps k (s.source src).detail.toNat
      | none => s
  | .d => if s.chip.mode = .safe then s.pierPropagate src .d else s.enterSafe src (safeCause src)

/-- The decision logic of the collector reacts, or, while its pair is being checked and holds its outputs, reacts when it
resumes (R26). -/
def State.decideFault (s : State) (src : Nat) (cls : FaultClass) : State :=
  if s.chip.lockColl.phase = .paired then s.react src cls
  else { s with fc := { s.fc with waiting := s.fc.waiting ++ [(src, cls, s.fc.reacting)] } }

/-- The decision logic resumes: the reactions that have waited follow, in the order of their faults (R26). -/
def State.decideWaiting (s : State) : State :=
  let before := s.fc.reacting
  let l := s.fc.waiting
  let s := l.foldl (fun s e => (s.setReacting e.2.2).decideFault e.1 e.2.1) { s with fc := { s.fc with waiting := [] } }
  if l.isEmpty then s else s.setReacting before

/-- Latch a fault of a source and start every reaction it calls for (R428, R436, R441 to R443, R451). -/
def State.latchFault (s : State) (src : Nat) (cls : FaultClass) (detail : Nat := 0) (live : Bool := false)
    (threshold : Bool := false) : State :=
  let fired := decide (s.fc.injNext = some src)
  let quiet := fired && s.fc.injQuiet
  let before := s.fc.reacting
  let s := s.setReacting (before || fired)
  let s := s.latchCore src cls detail live threshold (cls = .d && !quiet && s.chip.mode != .safe)
  let s := s.haltFor src
  let s := if quiet then s else s.decideFault src cls
  s.setReacting before

/-- ERR_D reads 0/1 as far as the decision logic goes (R437): a class-D fault since the last reset that left SAFE, the
self-test not passed, RESET_N low, or the pin test, which acts in TEST only (R462). -/
def State.errDActive (s : State) : Bool :=
  s.fc.errD || !s.fc.selfTest || s.boot.held || (s.chip.mode = .test && s.bit 0x100018 31)

/-- The level of ERR_D_P, which copy A of the decision logic drives, and that of ERR_D_N, which copy B drives inverted: 1/0
or 0/1 while they agree, 0/0 or 1/1 while they do not (R437). -/
def State.errDP (s : State) : Bool := !s.errDActive != decide (s.fc.errFlip = some false)
def State.errDN (s : State) : Bool := s.errDActive != decide (s.fc.errFlip = some true)

/-- The copies of the decision logic start or cease to drive ERR_D apart (R437). -/
def State.setErrFlip (s : State) (x : Option Bool) : State :=
  if s.fc.errFlip = x then s
  else
    let s := { s with fc := { s.fc with errFlip := x } }
    (s.emit (.pin "ERR_D_P" s.errDP)).emit (.pin "ERR_D_N" s.errDN)

/-- A class-N fault of a refused, ignored or invalid register write whose rule names no other source (R525). -/
def State.refusedWrite (s : State) (off : Nat) : State :=
  s.latchFault (srcChip 0 1) .n (off % 2 ^ 26 + 2 ^ 26)

/-- A persistent condition starts: one occurrence, with LIVE held until it ends (R428, R429). -/
def State.latchLive (s : State) (src : Nat) (cls : FaultClass) (detail : Nat := 0) : State :=
  if (s.source src).live then s else s.latchFault src cls detail true

/-- A persistent condition has ended (R428). -/
def State.endLive (s : State) (src : Nat) : State := s.setSource src { (s.source src) with live := false }

/-! ### Corrected faults (R24, R433) -/

/-- The threshold of an element's corrections and the window in ns that they are counted in (R433). -/
def correctedRule (src : Nat) : Nat × Nat :=
  let b := src / 0x40 % 64
  if src < 0xF800 then
    if (pipeOfSource src).isSome then (8, 1000000000)
    else if b = 0x0F then (16, 1000000000)
    else (64, 1000000000)
  else if b = 0x25 ∨ b = 0x26 then (16, 1000000)
  else if 0x27 ≤ b ∧ b ≤ 0x2A then (64, 1000000000)
  else if b = 0x32 then (4, 1000000000)
  else (16, 1000000000)

def noTimes : Nat → List Nat := fun _ => []
/-- The instants of an element's latest corrections within its window, newest first; no more than decide a crossing. -/
def State.corrections (s : State) (src : Nat) : List Nat := Tbl.get noTimes s.fc.corrected src
def State.setCorrections (s : State) (src : Nat) (l : List Nat) : State :=
  { s with fc := { s.fc with corrected := Tbl.put noTimes s.fc.corrected src l } }

/-- A firing of FLIP1 (0), FLIP2 (1) or CHECK (2) at a source waits for the source's next check (R455, R526). -/
def State.injects (s : State) (src : Nat) : Option Nat :=
  if s.fc.injNext = some src ∧ s.fc.injKind ≤ 2 ∧ s.fc.injHeld = none then some s.fc.injKind else none

/-- What a checked read through a source's checker finds, with a firing that waits there: one bit inverted is corrected,
two are not, and CHECK reports a failure (R526). -/
def State.checkedRead (s : State) (src : Nat) (found : ReadCheck) : ReadCheck :=
  match s.injects src with
  | none => found
  | some 0 => if found = .uncorrectable then found else .single
  | some _ => .uncorrectable

/-- The firing that waits has met the source's check; what comes of it is still to show (R456, R526). -/
def State.meetCheck (s : State) : State := { s with fc := { s.fc with injKind := 5 } }

/-- The pending firing at a source, if one waits there, meets its check, and the fault that follows is one of `out`. -/
def State.meetAt (s : State) (src out : Nat) : State :=
  if (s.injects src).isSome then { s with fc := { s.fc with injNext := some out, injKind := 5 } } else s

/-- The pending firing at a source, if one waits there, meets its check. -/
def State.meetFiring (s : State) (src : Nat) : State := s.meetAt src src

/-- `n` corrected faults of an element are counted (R24, R433): those older than its window have left the count. A firing
that has been corrected is over (R456); one of FLIP2 or CHECK that still waits is not. -/
def State.corrected (s : State) (src n : Nat) : State :=
  let r := correctedRule src
  let s := if n = 0 ∨ s.injects src = some 1 ∨ s.injects src = some 2 then s else s.takeFiring src
  s.setCorrections src (((List.replicate (min n (r.1 + 1)) s.now)
    ++ (s.corrections src).filter (fun t => decide (s.now < t + r.2))).take (r.1 + 1))

/-- DETAIL of the packet that a pipeline stage last made a correction for (R432). -/
def State.corrPacket (s : State) (src : Nat) : Nat := Tbl.get zeroNat s.fc.corrDetail src
def State.setCorrPacket (s : State) (src n : Nat) : State :=
  { s with fc := { s.fc with corrDetail := Tbl.put zeroNat s.fc.corrDetail src n } }

/-- The corrections of an element have passed its threshold within its window (R433). -/
def State.overThreshold (s : State) (src : Nat) : Bool := decide ((correctedRule src).1 < (s.corrections src).length)

end Sys2Proof.Machine
end

