-- ==== Sys2Proof/Machine/Time.lean ====
section
/-! DEFINITION. Time bases, their servos, the cadence base and the writes to cadence slots (chapter 09), and the tick of
the time-unit clock. -/

namespace Sys2Proof.Machine

/-! ### Time bases and their servos -/

/-- The state of a time base (R326): 0 FREE, 1 ACQUIRING, 2 LOCKED, 3 HOLDOVER. -/
def State.tbState (s : State) (n : Nat) : Nat := s.fld (0x200004 + n * 0x40) 1 0

/-- The base that the cadence base follows (R328). -/
def State.following (s : State) : Nat := s.fld 0x201004 0 0

/-- The value of a base moved by an amount in 2^−48 ns, modulo 2^48 s. -/
def moveBase (v : Nat) (by_ : Int) : Nat := (((v : Int) + by_) % (baseModulus : Int)).toNat

/-- The cadence base: the followed base plus the residual D (R314). -/
def State.cb (s : State) : Nat := moveBase (s.tb s.following).val s.time.d

def State.setD (s : State) (d : Int) : State := { s with time := { s.time with d := d } }

/-- The cadence base is in holdover (R317). -/
def State.cadHoldover (s : State) : Bool := s.tbState s.following ≠ 2 || s.time.d ≠ 0

/-- The base that PPS_OUT follows (R327): 0 to 3, or the base behind the cadence base for 4; 5 to 7 act as 0. -/
def State.ppsBase (s : State) : Nat :=
  let v := s.fld 0x2001C0 30 28
  if v < 4 then v else if v = 4 then s.following else 0

def State.drivePps (s : State) (b : Bool) : State :=
  ({ s with time := { s.time with ppsOut := b } }).emit (.pin "PPS_OUT" b)

/-- PPS_OUT may be high: OUT_EN is set, and the selected base is not FREE (R325). -/
def State.ppsAllowed (s : State) : Bool := s.bit 0x2001C0 31 && s.tbState s.ppsBase ≠ 0

/-- PPS_OUT stays low while it may not be high (R325). -/
def State.settlePps (s : State) : State := if s.time.ppsOut && !s.ppsAllowed then s.drivePps false else s

/-- Change the followed base (R315): D becomes CB minus the new base. -/
def State.switchover (s : State) (n : Nat) : State :=
  let cb := s.cb
  let s := (s.setFld 0x201000 8 8 n).setFld 0x201004 0 0 n
  let s := s.incMod 0x201004 15 8 1
  ((s.setD ((cb : Int) - ((s.tb n).val : Int))).latchFault (srcChip 0x12 4) .n).settlePps

/-- Move a base to a state; the interrupt source TIME fires, and a followed base that leaves LOCKED while the other is
LOCKED gives way to it under AUTO (R313, R315, R395). -/
def State.setTbState (s : State) (n v : Nat) : State :=
  let old := s.tbState n
  if old = v then s
  else
    let s := ((s.setFld (0x200004 + n * 0x40) 1 0 v).irq 8).settlePps
    if old = 2 && s.following = n && s.bit 0x201000 30 && s.tbState (1 - n) = 2 && n ≤ 1 then s.switchover (1 - n)
    else s

/-- The integer nearest below a sample in 2^−16 ns, as a whole number of ns, saturating at 32 bits (R326). -/
def lastOffs (theta : Int) : Word :=
  BitVec.ofInt 32 (clampInt (theta / 65536) (-2147483648) 2147483647)

/-! ### The copies of a base (R441) -/

def copyDefault : Nat → Int := fun _ => 0
/-- How far copy `c` of base `n` stands off the held value; the cadence base is base 4. -/
def State.copyOff (s : State) (n c : Nat) : Int := Tbl.get copyDefault s.time.copies (n * 3 + c)
def State.setCopyOff (s : State) (n c : Nat) (v : Int) : State :=
  { s with time := { s.time with copies := Tbl.put copyDefault s.time.copies (n * 3 + c) v } }

/-- The value that at least two of the three copies hold, as its distance from the held one. -/
def majority (a b c : Int) : Option Int := if a = b then some a else if a = c then some a else if b = c then some b else none

/-- The vote over the copies of a base (R441, R433): a copy that disagrees is rewritten and counted; with no majority the
safe state is entered. -/
def State.voteBase (s : State) (n : Nat) : State :=
  let l := (List.range 3).map (s.copyOff n)
  if l.all (fun v => decide (v = 0)) then s
  else
    let t := (List.range 3).foldl (fun (s : State) c => s.setCopyOff n c 0) s
    match majority (s.copyOff n 0) (s.copyOff n 1) (s.copyOff n 2) with
    | some m =>
      let t := t.corrected (srcChip 0x12 n) (l.filter (fun v => decide (v ≠ m))).length
      if n < 4 then t.setTb n { (t.tb n) with val := moveBase (t.tb n).val m } else t.setD (t.time.d + m)
    | none => t.latchFault (srcChip 0x12 n) .d (if n < 4 then unsignedBits (s.tb n).lastTheta 64 else 0)

/-- The vote of every time-unit cycle. -/
def State.voteBases (s : State) : State :=
  if s.time.copies.isEmpty then s else (List.range 5).foldl (fun s n => s.voteBase n) s

def absInt (x : Int) : Int := if x < 0 then -x else x

/-- Signed 64-bit arithmetic (R312). -/
def wrap64 (x : Int) : Int := (BitVec.ofInt 64 x).toInt

/-- Process one sample, in signed 64-bit arithmetic with divisions that round toward minus infinity (R312, R313). -/
def State.servo (s : State) (n : Nat) (theta : Int) : State :=
  let st := 0x200004 + n * 0x40
  let stepNs : Int := (max 1 (s.fld (0x20000C + n * 0x40) 31 16) : Nat)
  let lockNs : Int := (max 1 (s.fld (0x20000C + n * 0x40) 15 8) : Nat)
  let far := decide (wrap64 (absInt theta) > stepNs * 65536)
  let locked := s.tbState n = 2
  let out := s.fld st 3 2
  if locked && far && out < 3 then
    (s.setFld st 3 2 (out + 1)).incSat st 15 8 1
  else
    let s := if locked && far then s.setTbState n 1 else s
    let s := s.setFld st 3 2 0
    let st0 := s.tbState n
    let b := s.tb n
    let s := if far && st0 ≠ 2 then
        let s := s.setTb n { b with val := moveBase b.val (-(theta * 2 ^ 32)) }
        let s := s.setBit st 4 true
        if s.following = n then s.setD (s.time.d + theta * 2 ^ 32) else s
      else
        let i := wrap64 (b.integ - wrap64 (theta * 2 ^ 28) / 2 ^ (s.fld (0x200000 + n * 0x40) 21 16))
        let integ := clampInt i (-2147483648) 2147483647
        let f := wrap64 (integ - wrap64 (theta * 2 ^ 28) / 2 ^ (s.fld (0x200000 + n * 0x40) 27 22))
        let freq := clampInt f (-2147483648) 2147483647
        let s := s.setTb n { b with integ := integ, freq := freq }
        if integ ≠ i ∨ freq ≠ f then s.setBit st 5 true else s
    let near := decide (wrap64 (absInt theta) ≤ lockNs * 65536)
    let good := if st0 = 1 && near then (s.tb n).good + 1 else 0
    let s := s.setTb n { (s.tb n) with lastSample := s.now, lastTheta := theta, good := good }
    let s := (s.incMod st 31 16 1).setReg (0x200018 + n * 0x40) (lastOffs theta)
    if st0 = 0 ∨ st0 = 3 then s.setTbState n 1
    else if st0 = 1 ∧ 16 ≤ good then
      (s.setTb n { (s.tb n) with good := 0 }).setTbState n 2
    else s

/-- An offset sample arrives, unless an injection holds the input absent (R526); with four waiting it is discarded and counted (R311). -/
def State.submitSample (s : State) (n : Nat) (theta : Int) : State :=
  let b := s.tb n
  if s.fc.injHeld = some (srcChip 0x12 n) then s
  else if b.waiting.length ≥ 4 then s.incSat (0x200004 + n * 0x40) 15 8 1
  else s.setTb n { b with waiting := b.waiting ++ [wrap64 theta] }

/-- The source of a base (R326): 8 to 15 act as 0. -/
def State.tbSource (s : State) (n : Nat) : Nat :=
  let v := s.fld (0x200000 + n * 0x40) 31 28
  if v < 8 then v else 0

/-- Write the ordinary fields of a register under their access types; outside START-UP and TEST a write that would change
an RWL field leaves it and is recorded (R12, R525). -/
def State.writeOrdinary (s : State) (off : Nat) (value : Word) : State :=
  match regRow off with
  | none => s
  | some r =>
    let old := s.reg off
    let t := s.setReg off (writeWord r s.rwlOpen old value)
    if !s.rwlOpen && rwlDiffers r old value then t.refusedWrite off else t

/-- SERVO_SAMPLE (R312): the oldest waiting sample of base n is processed. -/
def execServoSample (n : Four) (s : State) : Host.Outcome State Fault Refusal :=
  match (s.tb n).waiting with
  | [] => .next s
  | theta :: rest => .next ((s.setTb n { (s.tb n) with waiting := rest }).servo n theta)

/-- TB_OFFSET_SUBMIT (R311): the high word of an offset is written; it is a sample when SRC is 1. -/
def execTbOffsetSubmit (n : Four) (hi : Word) (s : State) : Host.Outcome State Fault Refusal :=
  if s.tbSource n = 1 then
    .next (s.submitSample n (signedBits (hi.toNat * 2 ^ 32 + (s.tb n).offsLo.toNat) 64))
  else .next s

/-- The offset that an edge of PPS input i gives base n (R311), in 2^−16 ns. -/
def State.ppsTheta (s : State) (n i : Nat) : Int :=
  let dly := signedBits (s.fld 0x2001C4 (16 * i + 15) (16 * i)) 16
  let v := moveBase (s.tb n).val (-(dly * (nsUnits : Int)))
  let x : Int := ((v / 2 ^ 32) % (1000000000 * 65536) : Nat)
  if nsOf v < 500000000 then x else x - 1000000000 * 65536

/-- PPS_IN_EDGE (R311): every base whose source is the input takes a sample; 100 ms and more is rejected. -/
def execPpsInEdge (i : Fin 2) (s : State) : Host.Outcome State Fault Refusal :=
  if s.fc.injHeld = some (srcChip 0x12 5) then .next s
  else .next ((List.range 4).foldl (fun s n =>
    if s.tbSource n = 2 + i then
      let th := s.ppsTheta n i
      if absInt th ≥ 100000000 * 65536 then s.incSat (0x200004 + n * 0x40) 15 8 1
      else s.submitSample n th
    else s) s)

/-- TB_HOLDOVER_TIMEOUT (R313): FREQ takes the integrator and is frozen; class N against the base. -/
def execTbHoldoverTimeout (n : Four) (s : State) : Host.Outcome State Fault Refusal :=
  if s.tbState n = 1 ∨ s.tbState n = 2 then
    let b := s.tb n
    let s := (s.setTb n { b with freq := b.integ, good := 0 }).setTbState n 3
    .next (s.latchFault (srcChip 0x12 n) .n (unsignedBits b.lastTheta 64))
  else .next s

/-- TB_SRC_WRITE (R313, R326): the word of TBn_CTRL; FREE when SRC is 0, else the servo goes on. -/
def execTbSrcWrite (n : Four) (value : Word) (s : State) : Host.Outcome State Fault Refusal :=
  if s.closed 0x200000 then .next s else
  let off := 0x200000 + n.val * 0x40
  let s := (s.writeOrdinary off value).setFld off 31 28 (getBits value 31 28)
  if s.tbSource n = 0 then .next ((s.setTb n { (s.tb n) with good := 0 }).setTbState n 0) else .next s

/-- Put a base value into the four snapshot registers of place x (R327). -/
def State.snapOne (s : State) (x v : Nat) : State :=
  let o := 0x200110 + x * 0x10
  (((s.setReg o (BitVec.ofNat 32 (secOf v))).setReg (o + 4) (BitVec.ofNat 32 (secOf v / 2 ^ 32 % 65536))).setReg
    (o + 8) (BitVec.ofNat 32 (nsOf v))).setReg (o + 12) (BitVec.ofNat 32 (fracOf v))

/-- TB_SNAPSHOT (R310): CAPTURE copies the four bases and the cadence base on one time-unit cycle. -/
def execTbSnapshot (value : Word) (s : State) : Host.Outcome State Fault Refusal :=
  if s.closed 0x200100 then .next s else
  if getBits value 0 0 = 1 then
    .next (((((s.snapOne 0 (s.tb 0).val).snapOne 1 (s.tb 1).val).snapOne 2 (s.tb 2).val).snapOne 3
      (s.tb 3).val).snapOne 4 s.cb)
  else .next s

/-- TB_SECOND_PUBLISH (R318): the new SEC of TB0 and the N32 at that boundary. -/
def execTbSecondPublish (s : State) : Host.Outcome State Fault Refusal :=
  let sec := secOf (s.tb 0).val
  .next { s with time := { s.time with pubSec := sec, pubN32 := BitVec.ofNat 32 (sec * 1000000000) } }

/-- TB_PUB_SEC_LO, TB_PUB_SEC_HI and TB_PUB_N32 (R327). -/
def pubSecLo : Nat := 0x200180
def pubSecHi : Nat := 0x200184
def pubN32 : Nat := 0x200188

/-- A read of TB_PUB_SEC_LO captures the other two words of the publication into their holding copies (R318). -/
def State.capturePub (s : State) : State :=
  { s with
    holding := Tbl.put (fun _ => (0 : Word)) (Tbl.put (fun _ => (0 : Word)) s.holding pubSecHi
      (BitVec.ofNat 32 (s.time.pubSec / 2 ^ 32 % 65536))) pubN32 s.time.pubN32 }

/-- TB_PUB_READ (R318): the low word of the publication. -/
def execTbPubRead (s : State) : Host.Outcome State Fault Refusal :=
  if s.closed pubSecLo then .next { s with readData := 0xFFFFFFFF } else
  .next { s with readData := BitVec.ofNat 32 s.time.pubSec }.capturePub

/-- PPS_OUT_PULSE (R325): PPS_OUT rises at a second boundary, unless OUT_EN is 0 or the base is FREE. -/
def execPpsOutPulse (s : State) : Host.Outcome State Fault Refusal :=
  if s.ppsAllowed then .next (s.drivePps true) else .next s

/-- PPS_OUT_END (R325): PPS_OUT falls after OUT_WIDTH µs. -/
def execPpsOutEnd (s : State) : Host.Outcome State Fault Refusal :=
  if s.time.ppsOut then .next (s.drivePps false) else .next s

/-! ### The cadence base -/

/-- A cadence slot is armed (R329). -/
def State.slotArmed (s : State) (i : Nat) : Bool := s.bit (0x202010 + i * 0x20) 31

/-- SRC of a word of CAD_CTRL: a change of it is a switchover (R315). -/
def State.selectBase (s : State) (n : Nat) : State := if n = s.fld 0x201000 8 8 then s else s.switchover n

/-- A write of CAD_CTRL (R315, R316, R328): a word with ALIGN is refused whole while any slot is armed; else its SRC acts,
and then its ALIGN: DESIGN CHOICE where a word has both (assumption 119). -/
def State.writeCadence (s : State) (value : Word) : State :=
  if getBits value 31 31 = 1 && (List.range 64).any (fun i => s.slotArmed i) then s.latchFault (srcChip 0x12 4) .n
  else
    let s := (s.writeOrdinary 0x201000 value).selectBase (getBits value 8 8)
    if getBits value 31 31 = 1 then s.setD 0 else s

/-- CAD_SRC_WRITE (R315): the word of CAD_CTRL. -/
def execCadSrcWrite (value : Word) (s : State) : Host.Outcome State Fault Refusal :=
  if s.closed 0x201000 then .next s else
  .next (s.writeCadence value)

/-- CAD_ALIGN (R316): the word of CAD_CTRL. -/
def execCadAlign (value : Word) (s : State) : Host.Outcome State Fault Refusal :=
  if s.closed 0x201000 then .next s else
  .next (s.writeCadence value)

/-! ### Cadence slots -/

/-- The mark of a slot in ns (R320). -/
def State.slotMark (s : State) (i : Nat) : Nat :=
  ((s.reg (0x202000 + i * 0x20)).toNat + s.fld (0x202004 + i * 0x20) 15 0 * 2 ^ 32) * 1000000000
    + s.fld (0x202008 + i * 0x20) 29 0

/-- The period of a slot in ns; 0 for a one-shot slot (R320). -/
def State.slotPeriod (s : State) (i : Nat) : Nat :=
  let u := s.fld (0x20200C + i * 0x20) 31 30
  s.fld (0x20200C + i * 0x20) 29 0 * (if u = 0 then 1000 else if u = 1 then 1000000 else 1000000000)

def State.slotEvent (s : State) (i : Nat) : Nat := s.fld (0x202010 + i * 0x20) 3 0
def State.slotArg (s : State) (i : Nat) : Nat := s.fld (0x202010 + i * 0x20) 15 8

/-- Write a mark into the time registers of a slot. -/
def State.setSlotMark (s : State) (i m : Nat) : State :=
  let sec := m / 1000000000
  ((s.setReg (0x202000 + i * 0x20) (BitVec.ofNat 32 sec)).setFld (0x202004 + i * 0x20) 15 0 (sec / 2 ^ 32)).setFld
    (0x202008 + i * 0x20) 29 0 (m % 1000000000)

/-- CB in whole ns. -/
def State.cbNs (s : State) : Nat := s.cb / nsUnits

/-- The fields of a slot break the BAD_FIELD rule (R322). -/
def State.slotBad (s : State) (i : Nat) : Bool :=
  let ev := s.slotEvent i
  let per := s.slotPeriod i
  decide (1000000000 ≤ s.fld (0x202008 + i * 0x20) 29 0) || decide (7 ≤ ev)
    || decide (s.fld (0x20200C + i * 0x20) 31 30 = 3) || (per ≠ 0 && decide (per < 10000))
    || (ev = 1 && per ≠ 0) || (ev = 3 && i ≠ 63)

/-- A refused write: CAD_STATUS takes the slot and the cause (R322, R328). -/
def State.slotRefused (s : State) (i cause : Nat) : State :=
  ((s.setBit 0x201004 31 true).setFld 0x201004 30 28 cause).setFld 0x201004 27 22 i

/-- The first cause for which a write to a slot is refused (R322); `t` is the state with the word written. -/
def slotWriteCause (s t : State) (i r : Nat) (value : Word) (host : Bool) : Nat :=
  let armed := s.slotArmed i
  let clears := r = 4 && getBits value 31 31 = 0
  let sets := r = 4 && getBits value 31 31 = 1
  let joint := (sets && t.slotEvent i = 1) || (armed && clears && s.slotEvent i = 1)
  if host && i = 63 then 3
  else if armed && !clears then 4
  else if host && joint then 5
  else if sets && t.slotBad i then 2
  else if sets && decide (t.slotMark i * nsUnits < t.cb + 1000 * nsUnits) then 1
  else 0

/-- CAD_SLOT_WRITE (R322): a write to one of a slot's registers is applied or refused. -/
def execCadSlotWrite (slot : Sixtyfour) (r : Fin 5) (value : Word) (host : Bool) (s : State) :
    Host.Outcome State Fault Refusal :=
  let i := slot.val
  let off := 0x202000 + i * 0x20 + r.val * 4
  if host && s.closed off then .next s else
  let mask : Word := if r.val = 1 then 0xFFFF else if r.val = 2 then 0x3FFFFFFF
    else if r.val = 4 then 0x8000FF0F else 0xFFFFFFFF
  let t := s.setReg off (value &&& mask)
  let cause := slotWriteCause s t i r.val value host
  if cause = 0 then .next t else .next (s.slotRefused i cause)

/-! ### The tick -/

/-- 100 MHz × M is the core clock (R37). -/
def coreM (op : Nat) : Nat :=
  if op = 0 then 8 else if op = 1 then 10 else if op = 2 then 12 else if op = 3 then 14 else if op = 4 then 15 else 16

/-- The droop detectors of a die that see a droop: detector x stands on die x / 128 (R471). -/
def State.droops (s : State) (die : Nat) : List Nat := s.pwr.droops.filter (fun x => x / 128 = die)

/-- Twentieths of a core clock that a die gains in one cycle of the time-unit clock: in a droop every second edge of its
clock is suppressed (R37, R471). -/
def State.dieStep (s : State) (die : Nat) : Nat :=
  coreM (s.fld 0x300008 31 29) * (if (s.droops die).isEmpty then 2 else 1)

/-- Twentieths of the core clock of a die that are not counted yet. -/
def State.dieRest (s : State) (die : Nat) : Nat := if die = 0 then s.time.clk0 else s.time.clk1

/-- The core clocks that the next cycle of the time-unit clock completes on a die (R37). -/
def State.clocksDue (s : State) (die : Nat) : Nat := (s.dieRest die + s.dieStep die) / 20

/-- What a base adds in one cycle of the time-unit clock, in 2^−48 ns: 1 ns + FREQ × 2^−44 ns (R305). -/
def tbStep (b : TbBase) : Int := (nsUnits : Int) + b.freq * 16

/-- SLEW_PPM (R328): 0 acts as 1, above 10 as 10. -/
def State.slewPpm (s : State) : Nat := min 10 (max 1 (s.fld 0x201000 3 0))

/-- D moved toward 0 by SLEW_PPM × 10^−6 ns for a nanosecond of the followed base (R314). -/
def slewed (d : Int) (ppm : Nat) (step : Int) : Int :=
  let m := step * ppm / 1000000
  if d > 0 then max 0 (d - m) else min 0 (d + m)

/-- CAD_SLEW_END (R314): the last step of the slew, whose nanosecond takes what is left of D to 0; while more is left the
slew has not ended. -/
def execCadSlewEnd (s : State) : Host.Outcome State Fault Refusal :=
  if slewed s.time.d s.slewPpm (tbStep (s.tb s.following)) = 0 then .next (s.setD 0) else .next s

/-- One cycle of the 1.0 GHz time-unit clock (R37, R305, R314); the chip's count of core clocks is die 0's (assumption
74). -/
def tick (s : State) : State :=
  let rest (die : Nat) : Nat := (s.dieRest die + s.dieStep die) % 20
  let clk0 := rest 0
  let clk1 := rest 1
  let clocks := s.clocksDue 0
  let d := slewed s.time.d s.slewPpm (tbStep (s.tb s.following))
  let s := (List.range 4).foldl (fun s n =>
    let b := s.tb n
    s.setTb n { b with val := moveBase b.val (tbStep b) }) s
  let clocks1 := s.time.clocks1 + s.clocksDue 1
  let s := { s with time := { s.time with tu := s.time.tu + 1, d := d, clk0 := clk0, clk1 := clk1, clocks1 := clocks1 } }
  (s.count (cChip 1) 1).count (cChip 0) clocks

end Sys2Proof.Machine
end

