-- ==== Sys2Proof/Machine/Calib.lean ====
section
/-! DEFINITION. Calibration: path delays, trims, the clamps and what flags them, and writes of the user fields (R501, R502,
R505). -/

namespace Sys2Proof.Machine

/-- How many instances a quantity has. -/
def calCount (k : Nat) : Nat := if k = 0 then 12 else if k = 1 then 256 else if k = 2 then 64 else 2

/-- The asymmetry range, ±10,000 ns in 2^−16 ns (R501). -/
def asymMax : Int := 655360000
def State.asymAt (s : State) (off : Nat) : Int := signedBits (s.reg off).toNat 32
/-- The effective asymmetry of a pier link (R311, R501). -/
def State.pierAsym (s : State) (n : Nat) : Int := clampInt (s.asymAt (0x2400024 + n * 0x100)) (-asymMax) asymMax
/-- The effective asymmetry of a front-panel port (R308, R501). -/
def State.portAsym (s : State) (p : Nat) : Int := clampInt (s.asymAt (0x2000 + p * 4)) (-asymMax) asymMax

/-- The factory path delay of a port's lane mode, in 2^−16 ns (R308, R501, R502). -/
def State.pathDelay (s : State) (p : Nat) (sent : Bool) : Int :=
  if s.badFuse 6 then 0
  else factory (if sent then 11 else 10) (p * 16 + s.fld (0x2000000 + p * 0x1000) 30 27)

/-- The factory path delay of a pier link at its rate, in 2^−16 ns (R358, R501, R502). -/
def State.pierDelay (s : State) (n : Nat) (sent : Bool) : Int :=
  if s.badFuse 6 then 0
  else factory (if sent then 13 else 12) (n * 4 + s.fld (0x2400004 + n * 0x100) 28 27)

/-- The SerDes trim of a lane in a mode (R501, R502). -/
def State.serdesTrim (s : State) (lane mode : Nat) : Int :=
  if s.badFuse 5 then Config.trimMidCode else factory 14 (lane * 4 + mode)

/-- A captured value of a base moved by a signed number of 2^−16 ns. -/
def shiftBase (v : Nat) (n : Int) : Nat := (((v : Int) + n * 2 ^ 32) % (baseModulus : Int)).toNat

/-- The time of a mark at the pier ball: the capture, with the factory path delay of the link removed, which a mark sent has
still to pass and one received has passed (R358). -/
def State.pierStamp (s : State) (n : Nat) (sent : Bool) : Stamp :=
  let d := if sent then s.pierDelay n true else -s.pierDelay n false
  let x := s.stamp
  { b0 := shiftBase x.b0 d, b1 := shiftBase x.b1 d, b2 := shiftBase x.b2 d, b3 := shiftBase x.b3 d }

/-- The capture of a PTP event message at the MDI: the path delay and the port's asymmetry are added, and the lane clock's
phase interpolates FRAC (R308, assumption 114). -/
def State.ptpCompensated (s : State) (p : Nat) (sent : Bool) (x : Stamp) : Stamp :=
  let n := s.pathDelay p sent + s.portAsym p
  let f (b : Nat) : Nat := shiftBase (b + Config.lanePhase s.freeCount % nsUnits) n
  { b0 := f x.b0, b1 := f x.b1, b2 := f x.b2, b3 := f x.b3 }

/-- The PTP service is given a capture (R308). -/
def State.ptpCapture (s : State) (p : Nat) (sent : Bool) (x : Stamp) : State :=
  { s with
    ks := { s.ks with captures := { port := p, sent := sent, times := x } :: s.ks.captures }
    freeCount := s.freeCount + 1 }

/-- The user field of a quantity is limited, or an effective value is clamped (R501). -/
def State.calClamps (s : State) (k : Nat) : Bool :=
  s.user k ≠ s.userField k
    || (!s.badFuse k && (List.range (calCount k)).any (fun i => s.calValue k i ≠ factory k i + s.user k))

/-- Flag a clamped quantity (R501): its CLAMPED bit, and a class-N fault against CHIP element 2. -/
def State.flagClamp (s : State) (k : Nat) (clamped : Bool) : State :=
  if clamped then (s.setBit 0x1010 k true).latchFault (srcChip 0 2) .n else s

/-- What the device computes at boot (R501, R502). -/
def State.calibrate (s : State) : State :=
  let s := (List.range 4).foldl (fun s k => s.flagClamp k (s.calClamps k)) s
  let s := s.flagClamp 4 ((List.range 1024).any (fun p => s.portAsym p ≠ s.asymAt (0x2000 + p * 4)))
  s.flagClamp 5 ((List.range 4).any (fun n => s.pierAsym n ≠ s.asymAt (0x2400024 + n * 0x100)))

/-- A write of an RWL field that has a command of its own (R12): refused and recorded outside START-UP and TEST when it
would change the field. -/
def State.writeLocked (s : State) (off : Nat) (w : Word) : State :=
  if s.rwlOpen || s.reg off = w then s.setReg off w else s.refusedWrite off

/-- The register holds a user field of R501. -/
def isCalibration (o : Nat) : Bool :=
  o = 0x1000 || o = 0x1004 || o = 0x1008 || o = 0x100C || (decide (0x2000 ≤ o) && decide (o < 0x3000) && o % 4 = 0)
    || o = 0x2400024 || o = 0x2400124 || o = 0x2400224 || o = 0x2400324

/-- A write of a user field: its effective values are computed again (R501, R505). -/
def State.writeCalibration (s : State) (o : Nat) (value : Word) : State :=
  if o = 0x1000 ∨ o = 0x1004 ∨ o = 0x1008 ∨ o = 0x100C then
    let k := (o - 0x1000) / 4
    let mask : Word := if k = 2 then 0x1FF else if k = 3 then 0xFF else 0x1F
    if s.rwlOpen then
      let s := s.setReg o (value &&& mask)
      s.flagClamp k (s.calClamps k)
    else s.writeLocked o (value &&& mask)
  else if 0x2000 ≤ o ∧ o < 0x3000 ∧ o % 4 = 0 then
    let s := s.setReg o value
    s.flagClamp 4 (s.portAsym ((o - 0x2000) / 4) ≠ s.asymAt o)
  else if isCalibration o then
    let s := s.setReg o value
    s.flagClamp 5 (s.pierAsym ((o - 0x2400000) / 0x100) ≠ s.asymAt o)
  else s

/-- CALIBRATION_WRITE (R501, R505). -/
def execCalibrationWrite (off : Offset) (value : Word) (s : State) : Host.Outcome State Fault Refusal :=
  if s.closed off.toNat then .next s else .next (s.writeCalibration off.toNat value)

end Sys2Proof.Machine
end

