-- ==== Sys2Proof/Machine/Journal.lean ====
section
/-! DEFINITION. The command journal: its records, the completion mode and the programming of the MRAM log (R267 to R271,
R281, R282). -/

namespace Sys2Proof.Machine

/-- Slots of the log (R267). -/
def logSlots : Nat := 524288

/-- Records that the write buffer holds (R267). -/
def wbufRecords : Nat := 4096

/-- JRN_STATUS.MODE (R282): true for WRITE_THROUGH. -/
def State.writeThrough (s : State) : Bool := s.bit 0x5F0004 0

/-- Change the completion mode; on the way to WRITE_THROUGH no durable completion is posted before every record now in
the write buffer has been programmed (R269, R395). -/
def State.setMode (s : State) (wt : Bool) : State :=
  if s.writeThrough = wt then s
  else
    let s := (s.setBit 0x5F0004 0 wt).irq 6
    if wt then { s with jrn := { s.jrn with gate := s.jrn.nextLsn } } else s

/-- A record is a checkpoint (R267). -/
def JrnRecord.checkpoint (r : JrnRecord) : Bool := decide (2 ^ 15 ≤ r.tag)
def JrnRecord.ring (r : JrnRecord) : Nat := r.tag % 4096

/-- The CHECK of a record: CRC-32C over its first 60 bytes, XOR its LSN (R267). -/
def JrnRecord.check (r : JrnRecord) : Word :=
  crc32c (sliceBytes r.body 0 56 ++ leBytes 2 r.tag ++ [0, 0]) ^^^ BitVec.ofNat 32 r.lsn

/-- The 64 bytes of a record in the log. -/
def JrnRecord.bytes (r : JrnRecord) : List Byte :=
  sliceBytes r.body 0 56 ++ leBytes 2 r.tag ++ [0, 0] ++ leBytes 4 r.check.toNat

/-- The last executed LSN plus 1 that the latest checkpoint of a ring has. -/
def State.coveredOf (s : State) (r : Nat) : Nat := Tbl.get zeroNat s.jrn.covered r
def State.executedOf (s : State) (r : Nat) : Nat := Tbl.get zeroNat s.jrn.executed r

/-- A command record that no checkpoint covers (R271). -/
def State.uncovered (s : State) (r : JrnRecord) : Bool := !r.checkpoint && decide (s.coveredOf r.ring ≤ r.lsn)

def noRecord : Nat → Option JrnRecord := fun _ => none

/-- JRN_LOG_USE.RECORDS (R282). -/
def State.logUse (s : State) : Nat :=
  (s.jrn.log.filter (fun e =>
    match e.2 with
    | some r => s.uncovered r
    | none => false)).length

/-- The journal can take one more record (R267, R271, R380). -/
def State.journalRoom (s : State) : Bool :=
  decide (s.jrn.wbuf.length < wbufRecords) && decide (s.logUse < logSlots)

/-- Append a record to the write buffer under the next LSN. -/
def State.journal (s : State) (body : List Byte) (tag : Nat) : State :=
  { s with jrn := { s.jrn with
      wbuf := s.jrn.wbuf ++ [{ lsn := s.jrn.nextLsn, body := body, tag := tag }]
      nextLsn := s.jrn.nextLsn + 1 } }

/-- A durable command of a ring has been executed (R270). -/
def State.setExecuted (s : State) (r lsn : Nat) : State :=
  { s with jrn := { s.jrn with executed := Tbl.put zeroNat s.jrn.executed r (lsn + 1) } }

/-! ### Submission rings as the journal sees them -/

def sqDefault : Nat → SqRec := fun _ => {}
def State.sq (s : State) (r : Nat) : SqRec := Tbl.get sqDefault s.hq.sq r
def State.setSq (s : State) (r : Nat) (x : SqRec) : State :=
  { s with hq := { s.hq with sq := Tbl.put sqDefault s.hq.sq r x } }

/-- The completion of a durable command: its LSN in bytes 16 to 23 (R388). -/
def durableDone (lsn : Nat) : Done := { code := 0, result := leBytes 8 lsn }

/-- The durable command with an LSN has reached its journal point (R268, R382). -/
def State.journalPoint (s : State) (r lsn : Nat) : State :=
  s.setSq r { (s.sq r) with taken := (s.sq r).taken.map (fun t =>
    if t.work = .durable lsn && t.done.isNone then { t with done := some (durableDone lsn) } else t) }

/-! ### Programming -/

/-- The next slot of the circular log that is not bad; after a whole turn the next one as it is. -/
def nextGood (bad : List Nat) : Nat → Nat → Nat
  | 0, k => k % logSlots
  | n + 1, k => if bad.contains (k % logSlots) then nextGood bad n (k + 1) else k % logSlots

/-- The slot that the next record is programmed into still holds a record that no checkpoint covers. -/
def State.slotBusy (s : State) : Bool :=
  match Tbl.get noRecord s.jrn.log s.jrn.slot with
  | some r => s.uncovered r
  | none => false

/-- JOURNAL_PROGRAM (R267, R297, R441): the oldest record of the write buffer has been programmed and read back; a slot
that fails holds no record whose CHECK verifies and is marked bad with a class-S fault, and the record is programmed again
at the next slot. -/
def State.journalProgram (s : State) (verified : Bool) : State :=
  match s.jrn.wbuf with
  | [] => s
  | r :: rest =>
    if s.slotBusy || s.suspended then s
    else
      let j := s.jrn
      let fired := (s.injects (srcChip 0x11 1)).isSome
      let verified := verified && !fired
      let s := s.meetFiring (srcChip 0x11 1)
      let bad := if verified then j.bad else addOnce j.bad j.slot
      let next := nextGood bad bad.length (j.slot + 1)
      if verified then
        let s := { s with jrn := { j with
          wbuf := rest, log := Tbl.put noRecord j.log j.slot (some r), slot := next, programmed := r.lsn + 1 } }
        if r.checkpoint then s.count (cChip 9) 1 else (s.count (cChip 8) 1).journalPoint r.ring r.lsn
      else
        { s with jrn := { j with
          bad := bad, log := Tbl.put noRecord j.log j.slot none, slot := next } }.latchFault (srcChip 0x11 1) .s

def execJournalProgram (verified : Bool) (s : State) : Host.Outcome State Fault Refusal := .next (s.journalProgram verified)

/-! ### Checkpoints -/

/-- The rings that have executed a command since their last checkpoint. -/
def State.ringsToCheck (s : State) : List Nat :=
  (s.jrn.executed.filter (fun e => decide (s.coveredOf e.1 < e.2))).map (fun e => e.1)

/-- An item of a checkpoint record (R267). -/
def State.checkpointItem (s : State) (r : Nat) : List Byte :=
  leBytes 8 ((s.executedOf r - 1) % 2 ^ 32 + r * 2 ^ 32 + 2 ^ 63)

/-- Write checkpoint records, seven rings to a record, while the write buffer has room. -/
def State.checkpoint (s : State) : Nat → List Nat → State
  | 0, _ => s
  | n + 1, rs =>
    if rs.isEmpty || decide (wbufRecords ≤ s.jrn.wbuf.length) then s
    else
      let now := rs.take 7
      let t := s.journal (now.flatMap (fun r => s.checkpointItem r)) (2 ^ 15)
      let c := now.foldl (fun c r => Tbl.put zeroNat c r (s.executedOf r)) t.jrn.covered
      State.checkpoint { t with jrn := { t.jrn with covered := c } } n (rs.drop 7)

/-- JOURNAL_CHECKPOINT (R270): every 1 ms, by the pair that executes host commands (R405). -/
def execJournalCheckpoint (s : State) : Host.Outcome State Fault Refusal :=
  if s.groupServed 0 then .next (s.checkpoint s.ringsToCheck.length s.ringsToCheck) else .next s

/-- JOURNAL_FORCE_WT (R268, R281): the word of JRN_CTRL; clearing FORCE_WT leaves the return to FAST to R481. -/
def execJournalForceWt (value : Word) (s : State) : Host.Outcome State Fault Refusal :=
  if s.closed 0x5F0000 then .next s else
  let s := s.setFld 0x5F0000 0 0 (getBits value 0 0)
  if getBits value 0 0 = 1 then .next (s.setMode true) else .next s

/-- What the items of a checkpoint record say: each ring with its last executed LSN plus 1, the LSN taken as the latest
one below the record's own with the 32 bits of the item. -/
def JrnRecord.items (r : JrnRecord) : List (Nat × Nat) :=
  (List.range 7).filterMap (fun i =>
    let v := leNat (sliceBytes r.body (8 * i) 8)
    if v / 2 ^ 63 % 2 = 1 then some (v / 2 ^ 32 % 4096, r.lsn - (r.lsn + 2 ^ 32 - v % 2 ^ 32) % 2 ^ 32 + 1) else none)

/-- The extent of the log, in LSN order (R270, step 1): a record that an earlier pass has left in its slot fails its
CHECK, whose fold is the LSN that the slot has in this pass (R267). -/
def State.logExtent (s : State) : List JrnRecord :=
  sortBy (fun r => r.lsn) ((s.jrn.log.filterMap (fun e => e.2)).filter (fun r =>
    decide (s.jrn.programmed ≤ r.lsn + logSlots)))

/-- The latest checkpoint of each ring in the log (R270, step 2). -/
def State.readCheckpoints (s : State) : State :=
  let recs := s.logExtent.filter (fun r => r.checkpoint)
  let c := recs.foldl (fun c r => r.items.foldl (fun c i => Tbl.put zeroNat c i.1 i.2) c) []
  { s with jrn := { s.jrn with covered := c, executed := c } }

/-- Recovery at a cold start (R270): after each ring's latest checkpoint in the log, the keystone executes the command
records in LSN order; they wait at its service queue. -/
def State.journalRecovery (s : State) : State :=
  let s := s.readCheckpoints
  let todo := s.logExtent.filter (fun r => s.uncovered r)
  todo.foldl (fun s r =>
    let x := s.sq r.ring
    s.setSq r.ring { x with calls := x.calls ++ [{ idx := 0, body := r.body, lsn := some r.lsn, recovered := true }] }) s

end Sys2Proof.Machine
end

