-- ==== Sys2Proof/Machine/Power.lean ====
section
/-! DEFINITION. The power controller: the operating point and its marks, the VCORE voltage, droop, temperature, the
regulator alert, frequency concord and the hold-up bank (R464 to R481, R483, R511). -/

namespace Sys2Proof.Machine

/-! ### Changes of the point at a mark (R467, R468) -/

/-- CS63 is armed with a change of the point. -/
def State.changePending (s : State) : Bool := s.slotArmed 63 && s.slotEvent 63 = 3

/-- Take a pending change out of CS63. -/
def State.dropChange (s : State) : State :=
  if s.changePending then ((s.setBit 0x2027F0 31 false).setBit 0x300008 10 false).dropRise else s

/-- Arm CS63 with EVENT CONCORD for a point at a mark in ns of CB (R467, R476). -/
def State.armChange (s : State) (op mark : Nat) : State :=
  let s := (s.dropRise.setSlotMark 63 mark).setReg 0x2027EC 0
  (s.setReg 0x2027F0 (BitVec.ofNat 32 (2 ^ 31 + op * 2 ^ 8 + 3))).setBit 0x300008 10 (s.curOp < op)

/-- The first millisecond boundary of CB at least 100 µs ahead, in ns (R467). -/
def State.nextChangeMark (s : State) : Nat :=
  let ms := 1000000 * nsUnits
  (s.cb + 100000 * nsUnits + (ms - 1)) / ms * 1000000

/-- The device would take another point than the one in use, or one is already scheduled: CS63 is written for it, outside
a group (R467). -/
def State.schedulePoint (s : State) : State :=
  let s := s.showCaps
  if s.inGroup then s
  else if s.request ≠ s.curOp || s.changePending then s.armChange s.request s.nextChangeMark
  else s

/-- OP_POLICY_WRITE (R467, R483): PWR_OP_CTRL, or PWR_PHASE_OP. -/
def execOpPolicyWrite (phases : Bool) (value : Word) (s : State) : Host.Outcome State Fault Refusal :=
  if s.closed 0x300000 then .next s else
  .next (if phases then s.setReg 0x300004 (value &&& 0x77777777) else s.setReg 0x300000 (value &&& 0x770)).schedulePoint

/-- The phase changes at an OP_PHASE mark (R466, R467): outside a group a lower point is taken on this edge, a higher one is
scheduled. -/
def State.phaseMark (s : State) (arg : Nat) : State :=
  let s := (s.setFld 0x300008 22 20 arg).showCaps
  if s.inGroup then s
  else if s.request < s.curOp then
    let s := s.dropChange
    (({ s with pwr := { s.pwr with target := s.request } }).setOp s.request).settleVcore
  else s.schedulePoint

/-- The point of CS63 is applied at its mark (R466 to R468, R476): the device runs at min(TARGET, CAP); a rise whose
voltage is not in place, or that a cap forbids, is refused. -/
def State.concordMark (s : State) (p : Nat) : State :=
  let ok := s.pwr.rise = some p && s.pwr.riseOk
  let s := (s.setBit 0x300008 10 false).setFld 0x300008 25 23 (if s.inGroup then p else 7)
  let s := { s with pwr := { s.pwr with target := p } }
  let new := min p s.capOp
  if p ≤ s.curOp then ((s.dropRise).setOp new).settleVcore
  else if ok && decide (s.curOp < new) then
    (({ s with pwr := { s.pwr with rise := none, riseOk := false } }).setOp new).settleVcore
  else (s.dropRise).setBit 0x300008 9 true

/-- The rise to the point of CS63 starts, 100 µs before its mark (R468); with the PMBus cap in force it does not. -/
def State.startRise (s : State) : State :=
  let p := min 5 (s.slotArg 63)
  if !s.changePending || p ≤ s.curOp || s.pwr.rise = some p || s.pwr.pmbus.isSome then s
  else
    let s := { s with pwr := { s.pwr with rise := some p, riseOk := false, before25 := s.pwr.target25 } }
    s.commandTarget (s.inWindow p (Config.pointTarget p))

/-- RISE_VOUT_COMMAND (R468). -/
def execRiseVoutCommand (s : State) : Host.Outcome State Fault Refusal := .next s.startRise

/-- A limit ends, or rises: outside a group a change of the point is scheduled, in one the next vote shows it (R467). -/
def State.capRise (s : State) : State := s.schedulePoint

/-- A PMBus transaction has succeeded; three in a row end the PMBus cap (R466), and a point changed since has its target
sent then (R469). -/
def State.pmbusGood (s : State) : State :=
  if s.pwr.pmbus.isNone then s
  else if 2 ≤ s.pwr.pmbusOk then ({ s with pwr := { s.pwr with pmbus := none, pmbusOk := 0 } }).settleVcore.capRise
  else { s with pwr := { s.pwr with pmbusOk := s.pwr.pmbusOk + 1 } }

/-- RISE_READ_VOUT (R468): the reading lies within 5 mV of the target, or not. -/
def execRiseReadVout (uv : Nat) (s : State) : Host.Outcome State Fault Refusal :=
  let t := s.pwr.target25 * 2500
  let near := decide (uv ≤ t + 5000) && decide (t ≤ uv + 5000)
  let s := { s with pwr := { s.pwr with riseOk := s.pwr.rise.isSome && near } }
  .next (((s.setFld 0x300014 9 0 (min 1023 (uv / 1000))).pmbusSend pmbReadVout uv).pmbusGood)

/-- AVS_ADJUST (R469): one step of 2.5 mV within the window of the point; the loop stands still during a rise, and while
the regulator cannot be reached. -/
def execAvsAdjust (up down : Bool) (s : State) : Host.Outcome State Fault Refusal :=
  if s.pwr.rise.isSome || s.pwr.pmbus.isSome then .next s
  else
    let v : Int := s.pwr.target25
    let v := if up && !down then v + 1 else if down && !up then v - 1 else v
    .next (s.setTarget25 (s.inWindow s.curOp v))

/-- The source of PMBus and adaptive-voltage faults (R427). -/
def pmbusSource : Nat := srcChip 0x14 0

/-- The regulator cannot be reached (R470): the last target is held, and the PMBus cap starts at the current point. -/
def State.pmbusFails (s : State) : State :=
  let s := { s with pwr := { s.pwr with
    pmbus := some (s.pwr.pmbus.getD s.curOp), pmbusOk := 0, rise := none, riseOk := false } }
  s.capFall.latchFault pmbusSource .s

/-- PMBUS_FAILURE (R470). -/
def execPmbusFailure (s : State) : Host.Outcome State Fault Refusal := .next s.pmbusFails

/-- PMB_ALERT (R470): STATUS_WORD is read through the alert response address, a class-N fault recorded, and CLEAR_FAULTS
sent. -/
def execPmbAlert (status : BitVec 16) (s : State) : Host.Outcome State Fault Refusal :=
  let s := (s.emit (.pmbus pmbAlertResponse pmbStatusWord status.toNat)).pmbusGood
  let s := s.latchFault pmbusSource .n
  .next (s.pmbusSend pmbClearFaults 0).pmbusGood

/-! ### Droop (R471) -/

/-- A detector sees a droop (R471): its die runs on half its clock, and counts the event. -/
def State.droopStarts (s : State) (det : Nat) : State :=
  if s.pwr.droops.contains det then s
  else
    let s := { s with pwr := { s.pwr with droops := addOnce s.pwr.droops det } }
    s.incSat (0x300020 + det / 128 * 4) 31 0 1

/-- The droop of a detector has ended (R471). -/
def State.droopEnds (s : State) (det : Nat) : State :=
  { s with pwr := { s.pwr with droops := s.pwr.droops.filter (fun d => d ≠ det) } }

/-- DROOP_DETECT (R471). -/
def execDroopDetect (det : Fin 256) (s : State) : Host.Outcome State Fault Refusal := .next (s.droopStarts det)

/-- DROOP_RECOVER (R471): the clock of the die is whole again, once no detector of it sees a droop. -/
def execDroopRecover (det : Fin 256) (s : State) : Host.Outcome State Fault Refusal := .next (s.droopEnds det)

/-! ### Temperature (R466, R471) -/

/-- The grade maximum in 1/16 °C (R2, R466). -/
def State.gradeMax (s : State) : Int := if s.gradeX then 110 * 16 else 105 * 16

/-- THROTTLE as it acts, in 1/16 °C (R483). -/
def State.throttleAt (s : State) : Int := min (signedBits (s.fld 0x300010 7 0) 8 * 16) s.gradeMax

/-- Some sensor of the last sample reads at or above a temperature. -/
def State.hotAt (s : State) (t : Int) : Bool := s.pwr.temps.any (fun x => decide (t ≤ x))

/-- The hottest sensor of a list of readings: the lowest of those that read the highest value. -/
def hottest : List Int → Nat → Nat × Int → Nat × Int
  | [], _, best => best
  | x :: t, i, best => hottest t (i + 1) (if best.2 < x then (i, x) else best)

/-- THERMAL_SAMPLE (R441, R466, R471): the readings with their offsets; 125 °C is a class-D fault, the grade maximum and
the throttle threshold start their caps, the threshold where the sample before it lay below the threshold that stood
then. -/
def execThermalSample (temps : List Int) (s : State) : Host.Outcome State Fault Refusal :=
  let crossed := !s.pwr.hot || s.pwr.throttle.isNone
  let ts := (List.range 64).map (fun i => temps.getD i 0 + s.calValue 2 i)
  let s := { s with pwr := { s.pwr with temps := ts } }
  let s := { s with pwr := { s.pwr with hot := s.hotAt s.throttleAt } }
  let h := hottest ts.tail 1 (0, ts.headD 0)
  let s := (s.setFld 0x300010 23 16 (unsignedBits (h.2 / 16) 8)).setFld 0x300010 13 8 h.1
  let s := if s.pwr.hot && crossed then
      ({ s with pwr := { s.pwr with throttle := some (max (s.curOp - 1) s.opMin) } }).capFall
    else s
  let s := if s.hotAt s.gradeMax && !s.pwr.tjmax then
      ({ s with pwr := { s.pwr with tjmax := true } }).overrideStarts
    else s
  .next ((List.range 64).foldl (fun s i =>
    let t := ts.getD i 0
    if 2000 ≤ t ∨ s.fc.injHeld = some (srcChip 0x15 i) then s.latchLive (srcChip 0x15 i) .d (unsignedBits t 16)
    else if (s.source (srcChip 0x15 i)).live then s.endLive (srcChip 0x15 i) else s) s)

/-- THROTTLE_STEP (R466): a further 1 ms with a sensor at or above THROTTLE. -/
def execThrottleStep (s : State) : Host.Outcome State Fault Refusal :=
  match s.pwr.throttle with
  | some c =>
    if s.hotAt s.throttleAt then .next ({ s with pwr := { s.pwr with throttle := some (max (c - 1) s.opMin) } }).capFall
    else .next s
  | none => .next s

/-- THROTTLE_RELEASE_STEP (R466): 100 ms with every sensor at or below THROTTLE − 5 °C. -/
def execThrottleReleaseStep (s : State) : Host.Outcome State Fault Refusal :=
  match s.pwr.throttle with
  | some c =>
    if s.hotAt (s.throttleAt - 79) then .next s
    else .next ({ s with pwr := { s.pwr with throttle := if 5 ≤ c then none else some (c + 1) } }).capRise
  | none => .next s

/-- TJMAX_CAP_END (R466): every sensor has been below the grade maximum minus 10 °C for 1 s. -/
def execTjmaxCapEnd (s : State) : Host.Outcome State Fault Refusal :=
  if s.pwr.tjmax && !s.hotAt (s.gradeMax - 160) then
    .next ({ s with pwr := { s.pwr with tjmax := false } }).capRise
  else .next s

/-! ### Regulator alert (R472) -/

def alertSource : Nat := srcChip 0x14 1

/-- The alert of the regulator is confirmed (R472): the OP0 cap starts, with a class-S fault; the VCORE target goes to
OP0's window, also where the device was at OP0 and about to rise. -/
def State.alertStarts (s : State) : State :=
  if s.pwr.alert then s
  else
    let s := ({ s with pwr := { s.pwr with alert := true } }).overrideStarts
    s.dropRise.settleVcore.latchLive alertSource .s

/-- The alert has ended (R472): the cap ends, and the device rises again. -/
def State.alertEnds (s : State) : State :=
  if s.pwr.alert then (({ s with pwr := { s.pwr with alert := false } }).endLive alertSource).capRise
  else s

/-- REG_ALERT_CONFIRM (R472). -/
def execRegAlertConfirm (s : State) : Host.Outcome State Fault Refusal := .next s.alertStarts

/-- REG_ALERT_END (R472). -/
def execRegAlertEnd (s : State) : Host.Outcome State Fault Refusal := .next s.alertEnds

/-! ### Frequency concord (R474 to R477) -/

/-- PERIOD in ms: a value that does not divide 1,000 acts as 1 (R474). -/
def State.concordPeriod (s : State) : Nat :=
  let p := s.fld 0x300040 23 16
  if p ≠ 0 ∧ 1000 % p = 0 then p else 1

/-- The next mark of the group after now, in ns of CB (R474). -/
def State.nextConcordMark (s : State) : Nat :=
  let ms := s.cbNs / 1000000
  (ms - ms % 1000 % s.concordPeriod + s.concordPeriod) * 1000000

/-- The instant of a round's mark in ns. -/
def Vote.mark (v : Vote) : Nat := v.sec * 1000000000 + v.ns

/-- A round opens (R476): the member puts its request in, with what it has already heard, and sends it. -/
def State.openRound (s : State) : State :=
  let m := s.nextConcordMark
  let sec := m / 1000000000 % 2 ^ 48
  let ns := m % 1000000000
  let early := s.pwr.votes.filter (fun v => decide (m < v.mark))
  let v : Vote := { sec := sec, ns := ns, minOp := s.request, minDev := s.deviceId, opened := true }
  let v := match s.pwr.votes.find? (fun x => x.sec = sec && x.ns = ns) with
    | some x => v.hear x.minOp x.minDev
    | none => v
  (({ s with pwr := { s.pwr with member := true, votes := early } }).putVote v).sendConcord v

/-- The device leaves its group: its own policy governs again (R467, R474, R483). -/
def State.leaveGroup (s : State) : State :=
  ({ s with pwr := { s.pwr with member := false, votes := [] } }.setFld 0x300008 25 23 7).schedulePoint

/-- CONCORD_ROUND_OPEN (R476): a change of EN takes effect here (R483). Concord is a service of KP1 (R405). -/
def execConcordRoundOpen (s : State) : Host.Outcome State Fault Refusal :=
  if !s.groupServed 1 then .next s
  else if s.bit 0x300040 31 then .next s.openRound
  else if s.inGroup then .next s.leaveGroup
  else .next s

/-- The round of a mark has closed, or was never opened before the open one (R475). -/
def State.roundOver (s : State) (m : Nat) : Bool :=
  (match s.pwr.closed with
    | some c => decide (m ≤ c.1 * 1000000000 + c.2)
    | none => false)
  || (match s.openVote with
    | some v => decide (m < v.mark)
    | none => false)

/-- CONCORD (R475, R476): a frame of the group lowers the known minimum of its round and is flooded on; a late one is
counted, one for a later round is kept. -/
def execConcord (n : Four) (payload : List Byte) (s : State) : Host.Outcome State Fault Refusal :=
  if payload.length ≠ 16 || !s.pierUsable n || !s.groupServed 1 then .next s
  else
    let s := { s with pwr := { s.pwr with heard := Tbl.put (fun _ => ([] : List Byte)) s.pwr.heard n payload } }
    let f (i k : Nat) : Nat := beNat (sliceBytes payload i k)
    if !(s.bit 0x300040 31 || s.inGroup) || !s.bit 0x300040 (24 + n.val) || f 0 2 ≠ s.fld 0x300040 15 0 then .next s
    else
      let m := f 2 6 * 1000000000 + f 8 4
      if s.roundOver m then .next (s.incSat 0x300044 15 8 1)
      else
        match s.pwr.votes.find? (fun x => x.sec = f 2 6 && x.ns = f 8 4) with
        | some v =>
          let v' := v.hear (f 12 1) (f 14 2 % 4096)
          if v' = v then .next s
          else if v.opened then .next ((s.putVote v').sendConcord v')
          else .next (s.putVote v')
        | none => .next (s.putVote { sec := f 2 6, ns := f 8 4, minOp := f 12 1, minDev := f 14 2 % 4096, opened := false })

/-- CONCORD_ROUND_CLOSE (R476): the known minimum becomes the group point for M; a rise starts at once. -/
def execConcordRoundClose (s : State) : Host.Outcome State Fault Refusal :=
  match s.openVote with
  | none => .next s
  | some v =>
    if !s.inGroup || !s.groupServed 1 then .next s
    else
      let s := { s with pwr := { s.pwr with
        votes := s.pwr.votes.filter (fun x => !x.opened), closed := some (v.sec, v.ns) } }
      let p := min 5 v.minOp
      let s := ((s.setFld 0x300044 31 29 p).setFld 0x300044 27 16 v.minDev).incMod 0x300044 7 0 1
      let down := (List.range 4).any (fun i => s.bit 0x300040 (24 + i) && !s.pierUsable i)
      let s := if down then (s.setBit 0x300044 28 true).latchFault (srcChip 0x14 2) .n else s
      .next (s.armChange p v.mark).startRise

/-- A write of PWR_CONC_CFG (R483): clearing EN discards a pending mark of CS63. -/
def State.writeConcord (s : State) (value : Word) : State :=
  let was := s.bit 0x300040 31
  let s := s.writeOrdinary 0x300040 value
  if was && !s.bit 0x300040 31 then s.dropChange else s

/-! ### The hold-up bank (R478 to R481) -/

def State.cEff (s : State) : Nat := s.fld 0x30006C 15 0
def State.huCap (s : State) : Nat := s.fld 0x300060 15 0

/-- A measured voltage in mV under the gain of the monitor (R479, R501). -/
def State.voltage (s : State) (mv : Int) : Int := mv * s.calValue 3 0 / 4096

/-- The charge in µC behind a sense voltage integrated over time, in nV·s, across the resistor of HU_RSNS, under the gain of
the monitor; an HU_RSNS of 0 acts as 1 (R478, R479, R483, R501). -/
def State.charge (s : State) (sense : Int) : Int := sense * s.calValue 3 1 / (4096 * (max 1 (s.fld 0x300060 23 16) : Nat))

/-- E_Q and E_V over a common denominator: each times 2 × 10^6 × C_EFF, in µJ (R479). -/
def energies (c : Nat) (q : Int) (mv : Int) : Int × Int :=
  let cc : Int := c
  (if q ≤ 6 * cc then 0 else (q * q - 36 * cc * cc) * 1000000,
    if mv ≤ 6000 then 0 else cc * cc * (mv * mv - 36000000))

/-- The estimates differ by more than 20 % of the larger one (R479). -/
def disagrees (e : Int × Int) : Bool := decide (max e.1 e.2 < 5 * absInt (e.1 - e.2))

/-- The budget is below 40 mJ (R481): estimates over 2 × 10^6 × C_EFF. -/
def budgetLow (c : Nat) (e : Int × Int) : Bool := c = 0 || decide (min e.1 e.2 < 40000 * 2000000 * (c : Int))

def holdupSource : Nat := srcChip 0x11 2

/-- Compute the estimates from Q and VHOLD in mV, show them, and compare them; when a condition of FAST ends the mode is
WRITE_THROUGH (R479, R481, R483). -/
def State.holdup (s : State) (mv : Int) : State :=
  let c := if s.huCap = 0 then 0 else s.cEff
  let e := if c = 0 then ((0 : Int), (0 : Int)) else energies c s.pwr.q mv
  let unit : Int := 20000000 * (c : Int)
  let shown (x : Int) : Nat := if c = 0 then 0 else (min 65535 (x / unit)).toNat
  let s := (s.setFld 0x300064 31 16 (shown e.1)).setFld 0x300064 15 0 (shown e.2)
  let s := s.setFld 0x300068 31 16 (clampInt mv 0 65535).toNat
  let apart := disagrees e || decide (s.fc.injHeld = some holdupSource)
  let s := (s.setBit 0x300068 2 (budgetLow c e)).setBit 0x300068 0 apart
  let s := if apart then s.latchLive holdupSource .s
    else if (s.source holdupSource).live then s.endLive holdupSource else s
  if s.bit 0x300068 2 || s.bit 0x300068 1 || s.bit 0x300068 0 then s.setMode true else s

/-- HOLDUP_COMPARE (R479): the sense voltage integrated over the 1 ms, in nV·s, and VHOLD averaged over it. -/
def execHoldupCompare (sense : Int) (mv : Nat) (s : State) : Host.Outcome State Fault Refusal :=
  .next (({ s with pwr := { s.pwr with q := s.pwr.q + s.charge sense } }).holdup (s.voltage mv))

/-- HOLDUP_REBASE (R480): C_EFF is the smaller of the rated and the measured capacitance, and Q what it holds. -/
def execHoldupRebase (mv : Nat) (s : State) : Host.Outcome State Fault Refusal :=
  let v := s.voltage mv
  if v < 10800 then .next s
  else
    let m := s.fld 0x30006C 31 16
    let c := if m = 0 then s.huCap else min s.huCap m
    let s := (s.setFld 0x30006C 15 0 c).setBit 0x300068 1 false
    .next (({ s with pwr := { s.pwr with q := (c : Int) * v / 1000 } }).holdup v)

/-- JOURNAL_FAST_RESUME (R268, R481): every condition of FAST has held for 100 ms. -/
def execJournalFastResume (s : State) : Host.Outcome State Fault Refusal :=
  if s.fld 0x300068 2 0 = 0 && !s.bit 0x5F0000 0 && !s.jrn.noEntry then .next (s.setMode false) else .next s

/-- The main supply has failed (R269, R478, R485): no ring entry is taken, the write buffer is flushed on VHOLD, and the
device is OFF. -/
def State.supplyFails (s : State) : State :=
  let s := { s with jrn := { s.jrn with noEntry := true } }
  let s := (s.setMode true).setBit 0x5F0004 2 true
  { s with chip := { s.chip with mode := .off, warm := .none }, boot := { s.boot with noSupply := true } }

/-- MAIN_SUPPLY_FAIL (R478). -/
def execMainSupplyFail (s : State) : Host.Outcome State Fault Refusal := .next s.supplyFails

/-- Program every record of the write buffer (R269), also where a warm reset had suspended the journal (R488). -/
def State.flushJournal (s : State) : State :=
  let s := { s with chip := { s.chip with warm := .none } }
  s.jrn.wbuf.foldl (fun s _ => s.journalProgram true) s

/-- JOURNAL_FLUSH_DONE (R269, R480): the flush has ended, with the sense voltage of its draw integrated over it in nV·s and
the fall in VHOLD in mV; a draw of at least 500 µC measures the capacitance. -/
def execJournalFlushDone (sense fall : Nat) (s : State) : Host.Outcome State Fault Refusal :=
  if !s.bit 0x5F0004 2 then .next s
  else
    let s := (s.flushJournal.setBit 0x5F0004 2 false).setBit 0x300068 1 true
    let q := s.charge sense
    let v := s.voltage fall
    let s := if 500 ≤ q ∧ 0 < v then s.setFld 0x30006C 31 16 (clampInt (q * 1000 / v) 0 65535).toNat else s
    .next (s.setMode true)

end Sys2Proof.Machine
end

