-- ==== Sys2Proof/Machine/Alu.lean ====
section
/-! DEFINITION. The ALU operations of a microword (R67 to R70). -/

namespace Sys2Proof.Machine

/-- What an ALU slot reads beside its operands. -/
structure AluIn where
  a      : Word
  b      : Word
  /-- the destination as it stood at stage entry -/
  prior  : Word
  md13   : Word
  md4    : Word
  port   : Nat
  egress : Bool
  stage  : Nat
  seed   : Word
  /-- the depth in cells of an egress queue (R85) -/
  depth  : Nat
deriving DecidableEq, Repr

/-- A result, and whether it sets SAT or EXC in MD1 (R69). -/
structure AluOut where
  d   : Word
  sat : Bool := false
  exc : Bool := false
deriving DecidableEq, Repr

def plain (d : Word) : Option AluOut := some { d := d }
def flagged (d : Word) (sat : Bool) : Option AluOut := some { d := d, sat := sat }
def oneIf (b : Bool) : Word := if b then 1 else 0

/-- Clip to the signed 32-bit range. -/
def clipSigned (v : Int) : Option AluOut :=
  let c := clampInt v (-2147483648) 2147483647
  flagged (BitVec.ofInt 32 c) (decide (c ≠ v))

/-- A ones'-complement sum of 16-bit values with end-around carry. -/
def endAround (n : Nat) : Nat :=
  let n := n / 65536 + n % 65536
  n / 65536 + n % 65536

/-- Byte i of a word, byte 0 in bits [7:0]. -/
def byteOf (w : Word) (i : Nat) : Nat := w.toNat / 256 ^ i % 256
def withByte (w : Word) (i v : Nat) : Word := setBits w (8 * i + 7) (8 * i) v

/-- The word's bits in reversed order of significance, counted from a side until the first 1. -/
def countFrom (w : Word) (places : List Nat) : Nat := (places.takeWhile (fun i => !w.getLsbD i)).length

/-- One byte into CRC16 (R70). The spec gives the polynomial 0x1021 and the initial value; DESIGN CHOICE, the register
is not reflected and takes each byte most significant bit first, A[31:24] first (assumption 100). -/
def crc16Byte (c : Nat) (b : Nat) : Nat :=
  (List.range 8).foldl (fun x _ =>
    if 32768 ≤ x then ((x * 2) % 65536) ^^^ 0x1021 else (x * 2) % 65536) (c ^^^ (b * 256))

/-- The bytes of a word in wire order. -/
def wordBytes (w : Word) : List Byte := beBytes 4 w.toNat

/-- One operation (R70); `none` for NOP, which writes nothing. -/
def aluOp (op : Nat) (x : AluIn) : Option AluOut :=
  let a := x.a
  let b := x.b
  let sh := b.toNat % 32
  let lsb := b.toNat % 32
  let width := b.toNat / 32 % 32 + 1
  let insLsb := b.toNat / 1024 % 32
  match op with
  | 0x01 => plain a
  | 0x02 => plain b
  | 0x03 => plain (~~~ a)
  | 0x04 => plain (a + b)
  | 0x05 => plain (a - b)
  | 0x06 => plain (b - a)
  | 0x07 => plain (0 - a)
  | 0x08 => if a.toNat + b.toNat < 2 ^ 32 then plain (a + b) else flagged 0xFFFFFFFF true
  | 0x09 => if b.toNat ≤ a.toNat then plain (a - b) else flagged 0 true
  | 0x0A => clipSigned (a.toInt + b.toInt)
  | 0x0B => clipSigned (a.toInt - b.toInt)
  | 0x0C => plain (BitVec.ofNat 32 (a.toNat % 65536 * (b.toNat % 65536)))
  | 0x0D => plain (BitVec.ofInt 32 (signedBits (a.toNat % 65536) 16 * signedBits (b.toNat % 65536) 16))
  | 0x0E => plain (if a.toNat ≤ b.toNat then a else b)
  | 0x0F => plain (if a.toNat ≤ b.toNat then b else a)
  | 0x10 => plain (if a.toInt ≤ b.toInt then a else b)
  | 0x11 => plain (if a.toInt ≤ b.toInt then b else a)
  | 0x12 => plain (if b.toNat ≤ a.toNat then a - b else b - a)
  | 0x13 => plain (BitVec.ofNat 32 ((a.toNat + b.toNat) / 2))
  | 0x14 => plain (a &&& b)
  | 0x15 => plain (a ||| b)
  | 0x16 => plain (a ^^^ b)
  | 0x17 => plain (a &&& ~~~ b)
  | 0x18 => plain (a ||| ~~~ b)
  | 0x19 => plain (~~~ (a &&& b))
  | 0x1A => plain (~~~ (a ||| b))
  | 0x1B => plain (~~~ (a ^^^ b))
  | 0x1C => plain (a <<< sh)
  | 0x1D => plain (a >>> sh)
  | 0x1E => plain (a.sshiftRight sh)
  | 0x1F => plain (a.rotateLeft sh)
  | 0x20 => plain (a.rotateRight sh)
  | 0x21 => plain (BitVec.ofNat 32 (a.toNat / 2 ^ lsb % 2 ^ width))
  | 0x22 =>
    let m := BitVec.ofNat 32 ((2 ^ width - 1) * 2 ^ insLsb)
    plain ((x.prior &&& ~~~ m) ||| (BitVec.ofNat 32 (a.toNat % 2 ^ width * 2 ^ insLsb)))
  | 0x23 => plain (BitVec.ofNat 32 (a.toNat % 2 ^ width * 2 ^ lsb))
  | 0x24 => plain ((x.prior &&& ~~~ b) ||| (a &&& b))
  | 0x25 => plain (BitVec.ofNat 32 (leNat (wordBytes a)))
  | 0x26 => plain (a.rotateLeft 16)
  | 0x27 => plain (BitVec.ofNat 32
      (byteOf a (b.toNat % 4) + byteOf a (b.toNat / 4 % 4) * 256 + byteOf a (b.toNat / 16 % 4) * 65536
        + byteOf a (b.toNat / 64 % 4) * 16777216))
  | 0x28 => plain (BitVec.ofNat 32 (a.toNat % 65536 * 65536 + b.toNat % 65536))
  | 0x29 => plain (BitVec.ofInt 32 (signedBits (a.toNat % 256) 8))
  | 0x2A => plain (BitVec.ofInt 32 (signedBits (a.toNat % 65536) 16))
  | 0x2B => plain (BitVec.ofNat 32 (countFrom a ((List.range 32).reverse)))
  | 0x2C => plain (BitVec.ofNat 32 (countFrom a (List.range 32)))
  | 0x2D => plain (BitVec.ofNat 32 ((List.range 32).filter (fun i => a.getLsbD i)).length)
  | 0x2E => plain (BitVec.ofNat 32 (((List.range 32).filter (fun i => a.getLsbD i)).length % 2))
  | 0x2F =>
    let v := byteOf a (b.toNat % 4)
    some { d := withByte a (b.toNat % 4) (v - 1), exc := decide (v = 0) }
  | 0x30 =>
    let v := byteOf a (b.toNat % 4)
    flagged (withByte a (b.toNat % 4) (min 255 (v + 1))) (decide (v = 255))
  | 0x31 => plain (BitVec.ofNat 32
      (endAround (a.toNat / 65536 + a.toNat % 65536 + b.toNat / 65536 + b.toNat % 65536)))
  | 0x32 => plain (BitVec.ofNat 32 (65535 -
      endAround ((65535 - a.toNat % 65536) + (65535 - b.toNat / 65536) + b.toNat % 65536)))
  | 0x33 => plain (crc32cRaw b (wordBytes a))
  | 0x34 => plain (BitVec.ofNat 32 ((wordBytes a).foldl (fun c v => crc16Byte c v.toNat) (b.toNat % 65536)))
  | 0x35 => plain (hmix a b)
  | 0x36 => plain (BitVec.ofNat 32 ((a.toNat / 65536) ^^^ (a.toNat % 65536)))
  | 0x37 => plain (oneIf (decide (a = b)))
  | 0x38 => plain (oneIf (decide (a ≠ b)))
  | 0x39 => plain (oneIf (decide (a.toNat < b.toNat)))
  | 0x3A => plain (oneIf (decide (a.toNat ≤ b.toNat)))
  | 0x3B => plain (oneIf (decide (a.toInt < b.toInt)))
  | 0x3C => plain (x.md13 - a)
  | 0x3D => plain (BitVec.ofNat 32 x.depth)
  | 0x3E => plain (hmix (hmix x.seed x.md4)
      (BitVec.ofNat 32 (x.port % 1024 * 256 + x.egress.toNat * 128 + x.stage)) &&& b)
  | 0x3F => plain (crc32cRaw x.prior (wordBytes a))
  | _ => none

end Sys2Proof.Machine
end

