-- ==== Sys2Proof/Machine/BufferOps.lean ====
section
/-! DEFINITION. The operations of the buffer pool manager: bytes of cells, link words, free lists, the three holder
operations, the cell guard, admission and the return of charges (R163 to R188). -/

namespace Sys2Proof.Machine

/-! ### Faults of the manager (R178, R199) -/

def State.bufFault (s : State) (kind id : Nat) (h : Holder) (cls : FaultClass := .s) : State :=
  let s := if s.buf.flog.length < 64 then
      { s with buf := { s.buf with flog := s.buf.flog ++ [{ kind := kind, id := id, holder := h }] } }
    else s.setBit 0x800004 5 true
  s.latchFault (srcChip 1 (0x10 + kind)) cls (id + h.toNat * 2 ^ 24)

/-- The free-list faults of the heads that the record writer has passed over are raised (R172, R178). -/
def State.raiseFound (s : State) : State :=
  let l := s.buf.found
  if l.isEmpty then s
  else l.foldl (fun s c => s.bufFault 5 c 0) { s with buf := { s.buf with found := [] } }

/-! ### Outcomes of copies (R239, R275) -/

/-- An entry of the loss log: a LOST or ABANDONED copy. -/
def State.logLoss (s : State) (kind d egress : Nat) : State :=
  let x := s.info d
  if s.ord.losses.length < 256 then
    { s with ord := { s.ord with losses := s.ord.losses ++
      [{ kind := kind, cls := x.tc, port := x.port, egress := egress, seq := (s.desc d).seq }] } }
  else s.setBit 0x404 0 true

/-- A queue copy of an accepted frame ends: event 3 DELIVERED, 4 DISPOSED, 5 LOST, 6 ABANDONED. -/
def State.outcome (s : State) (d e : Nat) : State :=
  let x := s.info d
  if (s.desc d).accepted then s.count (cPcl (x.port * 16 + x.tc) e) 1 else s

/-- A copy ends LOST or ABANDONED, with its entry in the loss log. -/
def State.lose (s : State) (d egress kind : Nat) : State :=
  if (s.desc d).accepted then (s.outcome d (if kind ≤ 3 then 5 else 6)).logLoss kind d egress else s

/-- Give back the common-pool place of a queue entry whose copy has ended (R205). -/
def State.freeEntry (s : State) (e : QEntry) : State :=
  if e.pool then { s with egr := { s.egr with poolUsed := s.egr.poolUsed - 1 } } else s

/-- The queues with a copy that waits. -/
def State.usedQueues (s : State) : List Nat :=
  ((s.egr.queues.map (fun e => e.1)) ++ (s.egr.ahead.map (fun e => e.1))).foldl addOnce []

/-- The group that a queue is joined to: port × 4 + group (R235). -/
def State.groupOfQueue (s : State) (q : Nat) : Nat := q / 16 * 4 + s.fld (0xC10000 + q * 4) 5 4

/-- The queue holds no entry. -/
def State.queueEmpty (s : State) (q : Nat) : Bool := (s.queue q).isEmpty && (s.aheadOf q).isEmpty

/-- A node that has become empty has its deficit set to 0 (R210). -/
def State.resetEmpty (s : State) (q : Nat) : State :=
  if !s.queueEmpty q then s
  else
    let zero : Nat → Int := fun _ => 0
    let g := s.groupOfQueue q
    let dq := Tbl.put zero s.egr.defQ q 0
    let idle := (List.range 16).all (fun i => s.groupOfQueue (q / 16 * 16 + i) ≠ g || s.queueEmpty (q / 16 * 16 + i))
    let dg := if idle then Tbl.put zero s.egr.defG g 0 else s.egr.defG
    { s with egr := { s.egr with defQ := dq, defG := dg } }

/-- Take the copies of a frame out of the queues; the entries taken, with their queues. -/
def State.unqueueFrame (s : State) (d : Nat) : State × List (Nat × QEntry) :=
  s.usedQueues.foldl (fun (acc : State × List (Nat × QEntry)) q =>
    let (s, out) := acc
    let mine := (s.aheadOf q ++ s.queue q).filter (fun e => e.desc = d)
    if mine.isEmpty then acc
    else
      let s := s.setQueue q ((s.queue q).filter (fun e => e.desc ≠ d))
      let s := s.setAhead q ((s.aheadOf q).filter (fun e => e.desc ≠ d))
      let s := mine.foldl (fun s e => s.freeEntry e) s
      (s.resetEmpty q, out ++ mine.map (fun e => (q, e)))) (s, [])

/-- Take the egress passes of a frame out of the pipelines and of what waits for a slot. -/
def State.dropEgressOf (s : State) (d : Nat) : State :=
  let s := (List.range 64).foldl (fun s g =>
    (s.setSelected g ((s.selectedOf g).filter (fun c => c.2.desc ≠ d))).setReplays g .egress
      ((s.replaysOf g .egress).filter (fun r => r.desc ≠ d))) s
  s.dropWhere (fun k => k.pass = .egress && k.desc = some d)

/-- The transmissions of a quarantined frame end with an inverted FCS and their copies as LOST (R36, R179, R239); a
retransmission's copy is counted where its RETRY entry is dropped. -/
def State.quarantineTx (s : State) (d : Nat) : State :=
  s.busyPorts.foldl (fun s p =>
    match s.tx p with
    | some t =>
      if t.entry.desc ≠ d then s
      else if t.resend then (s.stomp p t).setTx p none
      else (((s.stomp p t).setTx p none).freeEntry t.entry).lose d p 3
    | none => s) s

/-- The copies of a quarantined frame in the virtual output queues end LOST (R179, R190, R239). -/
def State.quarantineVoq (s : State) (d : Nat) : State :=
  s.cmp.voq.foldl (fun s e =>
    let x := s.voq e.1
    let mine := x.frames.filter (fun f => f.2.desc = d)
    let s := s.setVoq e.1 { x with
      frames := x.frames.filter (fun f => f.2.desc ≠ d), backlog := x.backlog - mine.length * (s.desc d).len }
    mine.foldl (fun s f => s.lose d (f.1 / 16) 3) s) s

/-- The copies of a quarantined frame that are kept for link retry end LOST (R179, R239). -/
def State.quarantineRetry (s : State) (d : Nat) : State :=
  s.via.links.foldl (fun s e =>
    let l := s.viaLink e.1
    let mine := l.retry.filter (fun r => r.entry.desc = d)
    let s := s.setVia e.1 { l with retry := l.retry.filter (fun r => r.entry.desc ≠ d) }
    mine.foldl (fun s _ => s.lose d e.1 3) s) s

/-- Mirror and CPU copies that wait for delivery are discarded; a mirror copy counts among the copies discarded in its
delivery queue, as no cause of R294 names a failed guard or a quarantine (assumption 139). -/
def State.discardCopies (s : State) (gone : CopyRec → Bool) : State :=
  let mirrors := s.egr.copies.filter (fun c => gone c && decide (holderTarget c.holder ≠ 0x2000))
  mirrors.foldl (fun s c => s.count (cMirror (holderTarget c.holder % 64) 4) 1)
    { s with egr := { s.egr with copies := s.egr.copies.filter (fun c => !gone c) } }

/-- Quarantine a frame (R179): no further operation is made on it, none of its copies is transmitted or delivered, and
each queue copy ends LOST, wherever it waits. -/
def State.quarantine (s : State) (d : Nat) : State :=
  let x := s.desc d
  if x.quar then s
  else
    let s := s.setDesc d { x with quar := true }
    let (s, gone) := s.unqueueFrame d
    let s := ((gone.foldl (fun s e => s.lose d (e.1 / 16) 3) s).quarantineTx d).dropEgressOf d
    ((s.quarantineVoq d).quarantineRetry d).discardCopies (fun c => c.desc = d)

/-! ### Free lists (R169 to R172, R189) -/


/-- Pop a cell of a bank group. A head whose STATE is ALLOCATED is not used: it is passed over, a FREE_LIST fault is
raised for it, and the list is rebuilt from the state bits of the cells (R172). -/
def State.popFree (s : State) (g : Nat) : State × Option Nat :=
  let r := s.popHeads g (s.freeList g).count
  if r.2.1.isEmpty then (r.1, r.2.2)
  else (r.2.1.foldl (fun s c => s.bufFault 5 c 0) (r.1.rebuildFree g), r.2.2)

/-- The list of a bank group is found damaged at its head, and is rebuilt; no cell is taken (R172). -/
def State.mendList (s : State) (g : Nat) : State :=
  let r := s.popHeads g (s.freeList g).count
  if r.2.1.isEmpty then s else r.2.1.foldl (fun s c => s.bufFault 5 c 0) (s.rebuildFree g)

/-- A writer that has had to wait after all keeps what its pops have found: the damaged lists that it has met on the way
to `v` are rebuilt (R172). -/
def State.mendAfter (s v : State) : State :=
  ((List.range 256).filter (fun g =>
    (s.link (s.freeList g).head).alloc && decide ((s.freeList g).count ≠ 0) && decide (v.freeList g ≠ s.freeList g))).foldl
      (fun s g => s.mendList g) s

/-- Take a cell on the preferred die, or on the other one when the preferred one has no free cell (R21, R170). `full`
names the bank groups whose write stage is full. With no cell the writer waits. A list that has held no FREE cell at all
has been rebuilt, and the writer pops again (R172). -/
def State.allocCell (s : State) (w die : Nat) (full : List Nat) : State × Option Nat :=
  let die' := if (s.usableGroups w die).isEmpty then 1 - die else die
  match (s.usableGroups w die').find? (fun g => !full.contains g) with
  | none => (s, none)
  | some g =>
    let r := s.popFree g
    match r.2 with
    | none => r
    | some c =>
      let rot := Tbl.put zeroNat r.1.buf.rot (w * 2 + die') ((g % 128 + 1) % 128)
      (({ r.1 with buf := { r.1.buf with rot := rot } }).count (cChip 2) 1, some c)

/-- Take a descriptor: one never used, or the one returned longest ago (R168, assumption 4). -/
def State.allocDesc (s : State) : Option (State × Nat) :=
  match s.buf.freeDesc with
  | d :: t =>
    if s.buf.freshDesc < 1048576 then
      some ({ s with buf := { s.buf with freshDesc := s.buf.freshDesc + 1 } }, s.buf.freshDesc)
    else some ({ s with buf := { s.buf with freeDesc := t } }, d)
  | [] =>
    if s.buf.freshDesc < 1048576 then
      some ({ s with buf := { s.buf with freshDesc := s.buf.freshDesc + 1 } }, s.buf.freshDesc)
    else none

/-! ### Generations draining (R110) -/

/-- The active generation (R119): true for B. -/
def State.activeGen (s : State) : Bool := s.bit 0x204 0

/-- A host-transmit packet that has been stamped and is still being read (R108). -/
def Taken.reads (t : Taken) (gen : Bool) : Bool :=
  match t.work with
  | .tx w => t.done.isNone && w.gen = gen
  | _ => false

/-- JNT_INFLIGHT: frames stamped with the generation that is not active (R108, R120). -/
def State.inflight (s : State) : Nat :=
  (s.buf.desc.filter (fun e => e.2.alloc && e.2.gen != s.activeGen)).length +
  s.hq.sq.foldl (fun n e => n + (e.2.taken.filter (fun t => t.reads (!s.activeGen))).length) 0 +
  (s.rx.frames.filter (fun e =>
    match e.2 with
    | some f => f.desc.isNone && !f.discard && f.gen != s.activeGen
    | none => false)).length

/-- A draining generation whose last frame has gone becomes READY (R110). -/
def State.checkDrained (s : State) : State :=
  if s.fld 0x10C 26 24 = 5 ∧ s.inflight = 0 then
    let s := s.setFld 0x10C 26 24 2
    if s.fld 0x204 2 1 = 2 then s.setFld 0x204 2 1 s.progs.joint.isSome.toNat else s
  else s

/-! ### Admission (R186 to R188) -/

/-- What admission answers (R186). -/
inductive Grant where
  | reserved | shared | headroom | refuse
deriving DecidableEq, Repr

/-- Admit one cell of a classified frame of port p and class c; `d` is its descriptor, `first` its first charged cell. -/
def State.admitCell (s : State) (p c d : Nat) (first : Bool) : State × Grant :=
  let q := p * 16 + c
  let u := s.pairUse q
  if u.res < s.minOf q then (s.setPairUse q { u with res := u.res + 1 }, .reserved)
  else if !u.paused && decide (u.res + u.sh < s.maxOf q) && decide (s.clsShared c < s.shCap c)
      && decide (s.buf.globSh < s.sharedCells) && (!first || decide (s.buf.globDesc < s.sharedDesc)) then
    let s := s.setPairUse q { u with sh := u.sh + 1 }
    let s := s.setClsShared c (s.clsShared c + 1)
    let s := { s with buf := { s.buf with globSh := s.buf.globSh + 1 } }
    if first then
      (({ s with buf := { s.buf with globDesc := s.buf.globDesc + 1 } }).setDesc d
        { (s.desc d) with shdesc := true }, .shared)
    else (s, .shared)
  else if s.lossless c && decide (u.hd < s.hdrmOf q) then
    let s := (s.setPairUse q { u with hd := u.hd + 1, paused := true }).count (cPcl q 11) 1
    if u.paused then (s, .headroom) else ((s.count (cPcl q 12) 1).xoff p [s.pfcPri c], .headroom)
  else (s, .refuse)

/-- Return the charge of `n` cells of a pair: from HDRM first, then shared, then MIN; XON when its conditions hold
(R187). -/
def State.uncharge (s : State) (q n : Nat) : State :=
  let u := s.pairUse q
  let a := min n u.hd
  let b := min (n - a) u.sh
  let c := min (n - a - b) u.res
  let s := s.setPairUse q { u with hd := u.hd - a, sh := u.sh - b, res := u.res - c }
  let s := s.setClsShared (q % 16) (s.clsShared (q % 16) - b)
  let s := { s with buf := { s.buf with globSh := s.buf.globSh - b } }
  let u' := s.pairUse q
  if u'.paused && u'.hd = 0 && u'.res + u'.sh ≤ s.xonAt q then
    (s.setPairUse q { u' with paused := false }).xon (q / 16) [s.pfcPri (q % 16)]
  else s

/-! ### Guard (R180, R181) -/

/-- The fold of a cell's guard. -/
def guardFold (cell dest : Nat) (seq : Word) : Word :=
  BitVec.ofNat 32 (cell * 2 ^ 11) ^^^ BitVec.ofNat 32 (dest * 2 ^ 16) ^^^ (seq &&& 0xFFFF)

/-- The chain of a frame's cells, from FIRST, `n` of them. -/
def State.chain (s : State) : Nat → Nat → List Nat
  | 0, _ => []
  | n + 1, c => c :: State.chain s n (s.link c).next

/-- The cells of a frame. -/
def State.cellsOf (s : State) (d : Nat) : List Nat := s.chain (s.desc d).cells (s.desc d).first

/-- Fold a difference into the guard of every cell written so far (R181). -/
def State.foldGuards (s : State) (d : Nat) (x : Word) : State :=
  (s.cellsOf d).foldl (fun s c => s.setLink c { (s.link c) with guard := (s.link c).guard ^^^ x }) s

/-! ### Holders (R175 to R179) -/

/-- Return a descriptor after the final free of its frame's last cell (R168). -/
def State.freeDescriptor (s : State) (d : Nat) : State :=
  if !(s.desc d).alloc then s.bufFault 6 d 0
  else
    let s := s.setDesc d {}
    let s := s.setLedger d {}
    let s := s.setInfo d {}
    let s := { s with buf := { s.buf with freeDesc := s.buf.freeDesc ++ [d] } }
    s.checkDrained

/-- Return what `n` finally freed cells of a frame were charged to (R187, R188, R226). -/
def State.returnCells (s : State) (d n : Nat) : State :=
  let x := s.info d
  let s := s.count (cChip 3) n
  let s := match x.region with
    | .head => s.setHeadUse x.port (s.headUse x.port - n)
    | .host => { s with buf := { s.buf with hostUse := s.buf.hostUse - n } }
    | .pair => s.uncharge (x.port * 16 + x.tc) n
  if x.acceptedVia && (s.desc d).accepted then s.grantCells x.port x.hopClass n else s

/-- Return what a frame was charged to, when its last cells, `n` of them, are finally freed: the charge of the cells and
the shared descriptor (R187). -/
def State.returnCharge (s : State) (d n : Nat) : State :=
  let s := s.returnCells d n
  if (s.desc d).shdesc then { s with buf := { s.buf with globDesc := s.buf.globDesc - 1 } } else s

/-- The outcome of the walk of a holder operation. -/
structure Walk where
  st    : State
  freed : Nat
  fault : Option Nat

/-- Apply one update to each cell of a chain (R177): `n` cells are left, `cell` is the next, and `bad` counts the cells
down to one whose link word cannot be corrected, when there is one (R178). -/
def walkCells (refcnt : Nat) (owner newOwner : Holder) (newCount : Nat) (gx : Word) :
    State → Nat → Nat → Nat → Option Nat → Walk
  | s, 0, _, freed, _ => { st := s, freed := freed, fault := none }
  | s, n + 1, c, freed, bad =>
    let l := s.link c
    if bad = some 0 || !l.alloc || l.refcnt ≠ refcnt || l.owner ≠ owner || l.refcnt = 0 || (l.last && n ≠ 0) then
      { st := s, freed := freed, fault := some c }
    else
      let s := s.setLink c { l with refcnt := newCount, owner := newOwner, guard := l.guard ^^^ gx }
      let s := if newCount = 0 then s.pushFree c else s
      walkCells refcnt owner newOwner newCount gx s n l.next (freed + if newCount = 0 then 1 else 0)
        (bad.map (fun i => i - 1))

/-- The link-memory word or the descriptor of a corrected error of a walk (R24, R427): link memory by die, then the
descriptors. -/
def State.walkSource (s : State) (d : Nat) (w : WalkCheck) : Option Nat :=
  match w with
  | .linkSingle i => some (srcChip 0x0B ((s.cellsOf d).getD i.val 0 / 2 ^ 20))
  | .descSingle => some (srcChip 0x0B 2)
  | _ => none

/-- Single-bit errors of the link words and the descriptor of a walk are corrected and counted (R24). -/
def State.walkCorrected (s : State) (d : Nat) (w : WalkCheck) : State :=
  match s.walkSource d w with
  | some src => s.corrected src 1
  | none => s

/-- The link word of a walk that cannot be corrected. -/
def badLink (w : WalkCheck) : Option Nat :=
  match w with
  | .linkBad i => some i.val
  | _ => none

/-- What a walk that has ended leaves to be done: the frame is quarantined where the walk stopped, its charge and
descriptor go back when its last holder has released it (R175 to R179, R187). -/
def State.walked (d : Nat) (h : Holder) (count : Nat) (r : Walk) : State × Bool :=
  match r.fault with
  | some c => (((r.st.returnCells d r.freed).bufFault 4 c h).quarantine d, false)
  | none =>
    if count = 0 then
      let s := r.st.returnCharge d r.freed
      if (s.info d).ended then (s.freeDescriptor d, true)
      else
        let i := s.info d
        let s := s.setInfo d { i with stopped := true }
        (s.setDesc d { (s.desc d) with cells := 0 }, true)
    else (r.st, true)

/-- An operation on a frame's holders whose preconditions hold: the walk over its cells, with the guard folded for a
change of DEST (R175 to R178, R181). -/
def State.holderWalk (s : State) (d : Nat) (h : Holder) (add : List Holder) (newDest : Option Nat) (bad : Option Nat) :
    State × Bool :=
  let x := s.desc d
  let l := s.link x.first
  let count := l.refcnt + add.length - 1
  let owner := add.foldl (fun o a => o ^^^ a) (l.owner ^^^ h)
  let gx : Word := match newDest with
    | some t => BitVec.ofNat 32 ((x.dest ^^^ t) * 2 ^ 16)
    | none => 0
  let s := match newDest with
    | some t => s.setDesc d { x with dest := t }
    | none => s
  State.walked d h count (walkCells l.refcnt l.owner owner count gx s x.cells x.first 0 bad)

/-- The kind of the fault that refuses an operation of holder `h` on a frame whose descriptor is in use (R175 to R178). -/
def State.opRefused (s : State) (d : Nat) (h : Holder) (added : Nat) (w : WalkCheck) : Option Nat :=
  let l := s.link (s.desc d).first
  if w = .descBad then some 4
  else if !l.alloc then some 2
  else if l.refcnt + added > 256 then some 3
  else if l.refcnt = 1 && l.owner ≠ h then some 1
  else none

/-- TRANSFER (h, add) or, with nothing to add, RELEASE (h) on a frame, with the guard folded for a change of DEST
(R175 to R179, R181); `w` is what the reads of the walk found. The answer says whether the operation was made. -/
def State.holderNow (s : State) (d : Nat) (h : Holder) (add : List Holder) (newDest : Option Nat) (w : WalkCheck) :
    State × Bool :=
  let s := s.walkCorrected d w
  let x := s.desc d
  if !x.alloc then (s.bufFault 6 d h, false)
  else if x.quar then (s, false)
  else
    match s.opRefused d h add.length w with
    | some kind => ((s.bufFault kind x.first h).quarantine d, false)
    | none => s.holderWalk d h add newDest (badLink w)

/-- An operation on a frame's holders; one asked for while the manager holds its outputs is made when it resumes (R26). -/
def State.holderOp (s : State) (d : Nat) (h : Holder) (add : List Holder) (newDest : Option Nat := none)
    (w : WalkCheck := .good) : State × Bool :=
  if s.bufferPaused then
    ({ s with buf := { s.buf with waiting := s.buf.waiting ++ [{ desc := d, holder := h, add := add, newDest := newDest }] } },
      true)
  else s.holderNow d h add newDest w

/-- The manager resumes: the operations that have waited are made, in their order (R26). -/
def State.holderWaiting (s : State) : State :=
  if s.bufferPaused then s
  else
    s.buf.waiting.foldl (fun s r => (s.holderNow r.desc r.holder r.add r.newDest .good).1)
      { s with buf := { s.buf with waiting := [] } }

/-- RELEASE (R175). -/
def State.release (s : State) (d : Nat) (h : Holder) : State := (s.holderOp d h []).1

/-! ### The frame's bytes as stored -/

/-- The bytes of a frame in the buffer, in wire order. -/
def State.frameBytes (s : State) (d : Nat) : List Byte :=
  (s.cellsOf d).flatMap (fun c => s.cellBytes c ((s.link c).fill + 1))

/-- The guard of cell `c` of a frame fails against the bytes read, for a reader that takes DEST as `dest` (R182). -/
def State.guardFails (s : State) (d c dest : Nat) (bytes : List Byte) : Bool :=
  decide (crc32c bytes ^^^ guardFold c dest (s.desc d).seq ≠ (s.link c).guard)

/-- The first cell of a frame whose guard fails for a reader (R182). -/
def State.badCell (s : State) (d dest : Nat) : Option Nat :=
  (s.cellsOf d).find? (fun c => s.guardFails d c dest (s.cellBytes c ((s.link c).fill + 1)))

end Sys2Proof.Machine
end

