-- ==== Sys2Proof/Machine/Parser.lean ====
section
/-! DEFINITION. The parser: the header chain of a frame, its containers and its flags (R131 to R138). -/

namespace Sys2Proof.Machine

/-- The parser at work: the window, whether the frame goes on past it, and what has been found. -/
structure Parse where
  win  : List Byte
  /-- the frame has no byte beyond the window, its FCS apart -/
  ends : Bool
  out  : Parsed := {}
deriving DecidableEq, Repr

def zeroWord : Nat → Word := fun _ => 0

def Parse.b (x : Parse) (i : Nat) : Nat := (x.win.getD i 0).toNat
def Parse.w16 (x : Parse) (i : Nat) : Nat := x.b i * 256 + x.b (i + 1)

/-- Set a parse flag (R136). -/
def Parse.flag (x : Parse) (k : Nat) : Parse :=
  { x with out := { x.out with pflags := x.out.pflags ||| BitVec.ofNat 32 (2 ^ k) } }

/-- Bytes `i` to `i + n − 1` into containers from `c` on, the first byte in bits [31:24], absent bytes 0 (R132). -/
def fillContainers (hv : Tbl Word) (c : Nat) (bs : List Byte) : Tbl Word :=
  (List.range ((bs.length + 3) / 4)).foldl (fun hv k =>
    Tbl.put zeroWord hv (c + k) (BitVec.ofNat 32 (beNat (sliceBytes bs (4 * k) 4)))) hv

/-- Mark header `h` present at offset `i`, with `n` bytes of it in containers from `c` on (R132, R134). -/
def Parse.header (x : Parse) (h i c n : Nat) : Parse :=
  { x with out := { x.out with
      hdrValid := x.out.hdrValid ||| BitVec.ofNat 32 (2 ^ h)
      offsets := x.out.offsets ++ [(h, i)]
      hv := fillContainers x.out.hv c (sliceBytes x.win i n) } }

/-- Write one container. -/
def Parse.put (x : Parse) (c : Nat) (w : Nat) : Parse :=
  { x with out := { x.out with hv := Tbl.put zeroWord x.out.hv c (BitVec.ofNat 32 w) } }

/-- A header of `n` bytes at `i` lies within the window. -/
def Parse.fits (x : Parse) (i n : Nat) : Bool := decide (i + n ≤ x.win.length)

/-- The flag of a header that does not fit: RUNT_HEADER when the frame ends within the window, else
PARSE_DEPTH_EXCEEDED (R136). -/
def Parse.cut (x : Parse) : Parse := if x.ends then x.flag 24 else x.flag 31

/-- A header after which nothing follows: extracted when it fits (R132). -/
def Parse.leaf (x : Parse) (h i c n : Nat) : Parse := if x.fits i n then x.header h i c n else x.cut

/-- The ones'-complement sum of the 16-bit words of bytes, folded. -/
def onesSum (bs : List Byte) : Nat :=
  let rec go : List Byte → Nat → Nat
    | a :: b :: t, n => go t (n + a.toNat * 256 + b.toNat)
    | [a], n => n + a.toNat * 256
    | [], n => n
  let s := go bs 0
  let s := s / 65536 + s % 65536
  s / 65536 + s % 65536

/-- IPV4_CSUM_BAD for a header of `n` bytes at `i` (R136, assumption 15). -/
def Parse.checkSum (x : Parse) (i n : Nat) : Parse :=
  if onesSum (sliceBytes x.win i n) ≠ 0xFFFF then x.flag 16 else x

def Parse.ptp (x : Parse) (i : Nat) : Parse :=
  if x.fits i 44 then
    let x' := x.header 20 i 79 44
    let t := x.b i % 16
    if t ≤ 3 then x'.flag 11 else if 8 ≤ t ∧ t ≤ 0xD then x'.flag 12 else x'
  else x.cut

/-! ### The tunnel layer -/

/-- INNER_TCP or INNER_UDP (R133). -/
def Parse.innerL4 (x : Parse) (p i : Nat) : Parse :=
  if p = 6 then x.leaf 27 i 133 20
  else if p = 17 then x.leaf 26 i 131 8
  else x.flag 23

/-- The length of an IPv4 header by its IHL, which is 20 at least (R136, assumption 15). -/
def Parse.v4Len (x : Parse) (i : Nat) : Nat := max 20 (x.b i % 16 * 4)

/-- IPV4_CSUM_BAD for the IPv4 header at `i`; one that does not lie within the window is not summed (R136, assumption
15). -/
def Parse.v4Sum (x : Parse) (i : Nat) : Parse := if x.fits i (x.v4Len i) then x.checkSum i (x.v4Len i) else x

/-- IP_HDR_BAD of the IPv4 header at `i` (R136). -/
def Parse.v4Bad (x : Parse) (i : Nat) : Bool :=
  decide (x.b i / 16 ≠ 4) || decide (x.b i % 16 < 5) || decide (x.w16 (i + 2) < x.b i % 16 * 4)

/-- An IPv4 header whose first 20 bytes are there and whose length by its IHL is not is cut (R132, R136); what those bytes
say of it stands all the same (assumption 15). -/
def Parse.v4Cut (x : Parse) (i : Nat) : Parse := if x.v4Bad i then x.cut.flag 17 else x.cut

def Parse.innerV4 (x : Parse) (i : Nat) : Parse :=
  if !x.fits i 20 then x.cut
  else if !x.fits i (x.v4Len i) then x.v4Cut i
  else if x.v4Bad i then ((x.header 24 i 116 20).v4Sum i).flag 17
  else ((x.header 24 i 116 20).v4Sum i).innerL4 (x.b (i + 9)) (i + x.v4Len i)

def Parse.innerV6 (x : Parse) (i : Nat) : Parse :=
  if !x.fits i 40 then x.cut
  else if x.b i / 16 ≠ 6 then (x.header 25 i 121 40).flag 17
  else (x.header 25 i 121 40).innerL4 (x.b (i + 6)) (i + 40)

/-- INNER_ETH is measured with the tag that it skips (R132, R133). -/
def Parse.innerEth (x : Parse) (i : Nat) : Parse :=
  if !x.fits i 14 then x.cut
  else
    let e := x.w16 (i + 12)
    let tagged := e = 0x8100 || e = 0x88A8
    if tagged && !x.fits i 18 then x.cut
    else
      let x := x.header 23 i 112 14
      let e' := if tagged then x.w16 (i + 16) else e
      let j := if tagged then i + 18 else i + 14
      if e' = 0x0800 then x.innerV4 j
      else if e' = 0x86DD then x.innerV6 j
      else x.flag 22

/-- What a GRE or GENEVE protocol type names. -/
def Parse.tunnel (x : Parse) (proto i : Nat) : Parse :=
  if proto = 0x6558 then x.innerEth i
  else if proto = 0x0800 then x.innerV4 i
  else if proto = 0x86DD then x.innerV6 i
  else x.flag 23

/-! ### Layer 4 -/

def Parse.gre (x : Parse) (i : Nat) : Parse :=
  if !x.fits i 4 then x.cut
  else
    let c := (x.b i / 128) % 2
    let k := (x.b i / 32) % 2
    let s := (x.b i / 16) % 2
    let n := 4 + 4 * (c + k + s)
    if !x.fits i n then x.cut
    else
      let x := x.header 15 i 60 4
      let word (j : Nat) : Nat := beNat (sliceBytes x.win j 4)
      let x := if c = 1 then x.put 61 (word (i + 4)) else x
      let x := if k = 1 then x.put 62 (word (i + 4 + 4 * c)) else x
      let x := if s = 1 then x.put 63 (word (i + 4 + 4 * c + 4 * k)) else x
      if x.b (i + 1) % 8 ≠ 0 then x.flag 23 else x.tunnel (x.w16 (i + 2)) (i + n)

def Parse.geneve (x : Parse) (i : Nat) : Parse :=
  if !x.fits i 8 then x.cut
  else
    let n := (x.b i % 64) * 4
    if !x.fits i (8 + n) then x.cut
    else
      let proto := x.w16 (i + 2)
      let x := x.header 17 i 66 8
      let x := if n = 0 then x else x.header 18 (i + 8) 68 (min n 32)
      let x := if n > 32 then x.flag 21 else x
      x.tunnel proto (i + 8 + n)

def Parse.udp (x : Parse) (i : Nat) : Parse :=
  if !x.fits i 8 then x.cut
  else
    let x := (x.header 13 i 53 8).flag 6
    let p := x.w16 (i + 2)
    if p = 4789 then (if x.fits (i + 8) 8 then (x.header 16 (i + 8) 64 8).innerEth (i + 16) else x.cut)
    else if p = 6081 then x.geneve (i + 8)
    else if p = 4791 then (if x.fits (i + 8) 12 then (x.header 19 (i + 8) 76 12).flag 7 else x.cut)
    else if p = 319 ∨ p = 320 then x.ptp (i + 8)
    else x.flag 23

/-- What a protocol or last next header names (R133). -/
def Parse.l4 (x : Parse) (p i : Nat) (icmp : Nat) : Parse :=
  if p = icmp then (if x.fits i 8 then (x.header 12 i 51 8).flag 6 else x.cut)
  else if p = 6 then (if x.fits i 20 then (x.header 14 i 55 20).flag 6 else x.cut)
  else if p = 17 then x.udp i
  else if p = 47 then x.gre i
  else x.flag 23

/-! ### Layer 3 -/

def Parse.ipv4 (x : Parse) (i : Nat) : Parse :=
  if !x.fits i 20 then x.cut
  else
    let bad := x.v4Bad i
    let n := x.v4Len i
    if !x.fits i n then x.v4Cut i
    else
      let x := (x.header 7 i 8 20).flag 0
      let x := x.v4Sum i
      let frag := x.w16 (i + 6)
      let x := if frag % 16384 ≠ 0 then x.flag 4 else x
      let later := decide (frag % 8192 ≠ 0)
      let x := if later then x.flag 5 else x
      if bad then x.flag 17
      else
        let x := if n > 20 then x.header 8 (i + 20) 26 (n - 20) else x
        if later then x else x.l4 (x.b (i + 9)) (i + n) 1

/-- The first IOAM trace option of a hop-by-hop header: `i` is the next option, `e` the end of the header (R133). An option
too short for the 12 bytes of IOAM_TRACE is passed over and a later one taken: DESIGN CHOICE (assumption 130). -/
def Parse.ioam (x : Parse) : Nat → Nat → Nat → Parse
  | 0, _, _ => x
  | fuel + 1, i, e =>
    if i ≥ e then x
    else if x.b i = 0 then Parse.ioam x fuel (i + 1) e
    else
      let n := 2 + x.b (i + 1)
      if x.b i = 0x31 ∧ x.b (i + 3) ≤ 1 ∧ i + 12 ≤ e ∧ 12 ≤ n then x.header 21 i 48 12
      else Parse.ioam x fuel (i + n) e

/-- The next header names an extension header that the chain follows; 0 does so after IPV6 only (R133). -/
def isExt (p : Nat) (first : Bool) : Bool := (first && p = 0) || p = 43 || p = 44 || p = 60

/-- The length of an extension header: 8 bytes for a fragment header, else by its length field. -/
def Parse.extLen (x : Parse) (p i : Nat) : Nat := if p = 44 then 8 else (x.b (i + 1) + 1) * 8

/-- One extension header in its place; `k` is 1 or 2. The answer is the state, and the next header and offset unless the
header did not fit. -/
def Parse.ext (x : Parse) (k p i : Nat) : Parse × Option (Nat × Nat) :=
  let n := x.extLen p i
  if !x.fits i 2 || !x.fits i n then (x.cut, none)
  else
    let x := x.header (9 + k) i (36 + 4 * k) (min n 16)
    let x := { x with out := { x.out with proto := p, upper := x.b i } }
    let x := if p = 0 then x.ioam 256 (i + 2) (i + n) else x
    let x := if p = 44 then x.flag 4 else x
    let x := if p = 44 ∧ x.w16 (i + 2) / 8 ≠ 0 then x.flag 5 else x
    (x, some (x.b i, i + n))

/-- A next header that names no extension header the chain can take: layer 4, or the end. FRAG_LATER ends the chain
before layer 4 (R137). A next header that R133 names counts as followed when its own header is cut, and a cut extension
header does not: DESIGN CHOICE (assumption 131). -/
def Parse.v6l4 (x : Parse) (p i : Nat) : Parse :=
  let y := x.l4 p i 58
  if x.out.pflags.getLsbD 5 then x
  else if p = 58 ∨ p = 6 ∨ p = 17 ∨ p = 47 then { y with out := { y.out with proto := p } } else y

def Parse.ipv6 (x : Parse) (i : Nat) : Parse :=
  if !x.fits i 40 then x.cut
  else
    let x := (x.header 9 i 16 40).flag 1
    let x := { x with out := { x.out with upper := x.b (i + 6) } }
    if x.b i / 16 ≠ 6 then x.flag 17
    else
      let p := x.b (i + 6)
      if isExt p true then
        match x.ext 1 p (i + 40) with
        | (x, none) => x
        | (x, some (p1, i1)) =>
          if isExt p1 false then
            match x.ext 2 p1 i1 with
            | (x, none) => x
            | (x, some (p2, i2)) => if isExt p2 false then (x.flag 20).flag 23 else x.v6l4 p2 i2
          else x.v6l4 p1 i1
      else x.v6l4 p (i + 40)

/-- The label stack (R133): `k` labels have been taken, the next starts at `i`. -/
def Parse.labels (x : Parse) (start : Nat) : Nat → Nat → Parse
  | 0, _ => x.flag 19
  | fuel + 1, k =>
    let i := start + 4 * k
    if !x.fits i 4 then x.cut
    else
      let x := (if k = 0 then (x.header 3 i 36 4).flag 2 else x.put (36 + k) (beNat (sliceBytes x.win i 4)))
      if x.b (i + 2) % 2 = 1 then
        if !x.fits (i + 4) 1 then x
        else if x.b (i + 4) / 16 = 4 then x.ipv4 (i + 4)
        else if x.b (i + 4) / 16 = 6 then x.ipv6 (i + 4)
        else x.flag 23
      else Parse.labels x start fuel (k + 1)

def Parse.macctl (x : Parse) (i : Nat) : Parse :=
  if x.fits i 20 then
    let y := x.header 6 i 105 20
    if x.w16 i = 1 then y.flag 13 else if x.w16 i = 0x0101 then y.flag 14 else y
  else x.cut

/-- What follows the last tag (R133). -/
def Parse.afterTags (x : Parse) (e i : Nat) : Parse :=
  let x := x.put 5 (e * 65536)
  if e = 0x0800 then x.ipv4 i
  else if e = 0x86DD then x.ipv6 i
  else if e = 0x8847 ∨ e = 0x8848 then x.labels i 4 0
  else if e = 0x0806 then x.leaf 4 i 90 28
  else if e = 0x88CC then x.leaf 5 i 97 32
  else if e = 0x8808 then x.macctl i
  else if e = 0x88F7 then x.ptp i
  else x.flag 22

/-- A tag: its TPID is the EtherType before it, its TCI and the next EtherType are the four bytes at `i`. -/
def Parse.tag (x : Parse) (h tpid i : Nat) : Parse :=
  let y := x.put (3 + (h - 1)) (tpid * 65536 + x.w16 i)
  { y with out := { y.out with
      hdrValid := y.out.hdrValid ||| BitVec.ofNat 32 (2 ^ h), offsets := y.out.offsets ++ [(h, i - 2)] } }

/-- The whole chain (R133), from the destination address on. -/
def Parse.chain (x : Parse) : Parse :=
  if !x.fits 0 14 then x.cut
  else
    let x := x.header 0 0 0 12
    let x := if x.b 0 % 2 = 1 then x.flag 8 else x
    let x := if (x.win.take 6).all (fun b => b.toNat = 255) then x.flag 9 else x
    let x := if x.b 6 % 2 = 1 then x.flag 10 else x
    let e := x.w16 12
    if e = 0x88A8 ∨ e = 0x8100 then
      if !x.fits 14 4 then (x.put 5 (e * 65536)).cut
      else
        let x := x.tag 1 e 14
        let e1 := x.w16 16
        if e1 = 0x8100 then
          if !x.fits 18 4 then (x.put 5 (e1 * 65536)).cut
          else
            let x := x.tag 2 e1 18
            let e2 := x.w16 20
            let x := if e2 = 0x8100 ∨ e2 = 0x88A8 then x.flag 18 else x
            x.afterTags e2 22
        else x.afterTags e1 18
    else x.afterTags e 14

/-- Parse a frame: the bytes before its FCS as far as they are stored, whether they are all of the frame, and the deck
header of a viaduct-mode port at ingress (R131). -/
def parseFrame (bytes : List Byte) (whole : Bool) (deck : Option DWord) : Parsed :=
  let x : Parse := { win := bytes.take 256, ends := whole && decide (bytes.length ≤ 256) }
  let y := x.chain
  let tunnel := y.out.hdrValid &&& 0x03800000 ≠ 0
  let y := if tunnel then y.flag 3 else y
  match deck with
  | none => y.out
  | some w =>
    ((y.put 240 (w.toNat / 2 ^ 32)).put 241 (w.toNat % 2 ^ 32)).out |>
      fun o => { o with hdrValid := o.hdrValid ||| BitVec.ofNat 32 (2 ^ 22) }

end Sys2Proof.Machine
end

