-- ==== Sys2Proof/Machine/Telemetry.lean ====
section
/-! DEFINITION. Histograms, flow digests, mirror sessions and counters (chapter 08). -/

namespace Sys2Proof.Machine

/-! ### Intervals and histograms -/

/-- Exchange the banks, clear the new live ones, and record the rollover (R286). -/
def State.telRoll (s : State) : State :=
  let s := { s with tel := { s.tel with
      histLive := [], histFrozen := s.tel.histLive, digLive := [], digFrozen := s.tel.digLive } }
  (s.incMod 0x2500004 31 0 1).setReg 0x2500008 s.tb0Ns

/-- The bin of a latency (R288). -/
def histBin (l : Nat) : Nat :=
  if l < 2 then l
  else
    let e := Nat.log2 l
    2 * e + l / 2 ^ (e - 1) % 2

/-- Add one transmission of a queue to its histogram; a bin saturates (R287, R288). -/
def State.histAdd (s : State) (q l : Nat) : State :=
  let k := q * 64 + histBin l
  { s with tel := { s.tel with
      histLive := Tbl.put zeroNat s.tel.histLive k (min (Tbl.get zeroNat s.tel.histLive k + 1) 0xFFFFFFFF) } }

/-! ### Flow digests -/

/-- The byte string of a flow key (R289), from the headers as parsed. -/
def flowBytes (p : Parsed) : List Byte :=
  let hv (c : Nat) : Word := Tbl.get zeroWord p.hv c
  let has (h : Nat) : Bool := p.hdrValid.getLsbD h
  let words (c n : Nat) : List Byte := (List.range n).flatMap (fun k => beBytes 4 (hv (c + k)).toNat)
  if p.pflags.getLsbD 3 && (has 24 || has 25) then
    (if has 24 then words 119 2 ++ beBytes 1 ((hv 118).toNat / 2 ^ 16)
      else words 123 8 ++ beBytes 1 ((hv 122).toNat / 2 ^ 8))
      ++ (if has 26 then words 131 1 else if has 27 then words 133 1 else [])
  else if has 7 || has 9 then
    (if has 7 then words 11 2 ++ beBytes 1 ((hv 10).toNat / 2 ^ 16) else words 18 8 ++ beBytes 1 p.upper)
      ++ (if has 13 then words 53 1 else if has 14 then words 55 1 else [])
  else words 0 3 ++ beBytes 2 ((hv 5).toNat / 2 ^ 16)

def wayDefault : Nat → DigestWay := fun _ => {}

/-- The way that an update takes: the matching one, else the lowest empty one, else the lowest with the fewest
packets (R290). -/
def digestPick (key : Word) (port : Nat) (egress : Bool) (ways : List DigestWay) : Nat :=
  let hit := (List.range 4).find? (fun i =>
    let w := ways.getD i {}
    w.pkts ≠ 0 && w.key = key && w.port = port && w.egress = egress)
  let free := (List.range 4).find? (fun i => (ways.getD i {}).pkts = 0)
  match hit, free with
  | some i, _ => i
  | none, some i => i
  | none, none =>
    (List.range 4).foldl (fun b i => if (ways.getD i {}).pkts < (ways.getD b {}).pkts then i else b) 0

/-- A pass updates the digest of its span (R289, R290). -/
def State.digestUpdate (s : State) (span port : Nat) (egress : Bool) (p : Parsed) (len : Nat) (ts : Word) : State :=
  let key := crc32c (flowBytes p)
  let base := span * 2 ^ 14 + key.toNat % 4096 * 4
  let ways := (List.range 4).map (fun i => Tbl.get wayDefault s.tel.digLive (base + i))
  let i := digestPick key port egress ways
  let w := ways.getD i {}
  let same := w.pkts ≠ 0 && w.key = key && w.port = port && w.egress = egress
  let w' : DigestWay :=
    if same then { w with pkts := min (w.pkts + 1) 0xFFFFFFFF, bytes := (w.bytes + len) % 2 ^ 64, last := ts }
    else { key := key, port := port, egress := egress, pkts := min (w.pkts + 1) 0xFFFFFFFF, err := w.pkts, bytes := len,
           first := ts, last := ts }
  let s := if !same && w.pkts ≠ 0 then s.count (cSpan span 16) 1 else s
  { s with tel := { s.tel with digLive := Tbl.put wayDefault s.tel.digLive (base + i) w' } }

/-! ### Mirror sessions -/

def oneWord : Nat → Word := fun _ => 0
def msCfg (m : Nat) : Nat := 0x2501000 + m * 8
/-- N of a session; 0 acts as 1 (R303). -/
def State.msN (s : State) (m : Nat) : Nat := max 1 (s.fld (0x2501004 + m * 8) 23 0)

def State.setCountdown (s : State) (m c : Nat) (r : Word) : State :=
  { s with tel := { s.tel with
      countdown := Tbl.put zeroNat s.tel.countdown m c, lfsr := Tbl.put oneWord s.tel.lfsr m r } }

/-- Load C with N and seed the LFSR (R292). -/
def State.reloadSession (s : State) (m : Nat) : State :=
  let r := hmix (s.reg 0x1008000) (BitVec.ofNat 32 m)
  s.setCountdown m (s.msN m) (if r = 0 then 1 else r)

/-- One step of the LFSR (R292). -/
def lfsrStep (r : Word) : Word := if r.getLsbD 0 then (r >>> 1) ^^^ 0x80200003 else r >>> 1

/-- A request to a session: whether its rule decides on a copy (R292). -/
def State.mirrorRequest (s : State) (m : Nat) : State × Bool :=
  let s := s.count (cMirror m 0) 1
  if !s.bit (msCfg m) 31 then (s, false)
  else if !s.bit (msCfg m) 30 then (s, true)
  else
    let c := Tbl.get zeroNat s.tel.countdown m
    let r := Tbl.get oneWord s.tel.lfsr m
    if 1 < c then (s.setCountdown m (c - 1) r, false)
    else
      let n := s.msN m
      if s.bit (msCfg m) 29 then
        let r' := lfsrStep r
        (s.setCountdown m (1 + r'.toNat * (2 * n - 1) / 2 ^ 32) r', true)
      else (s.setCountdown m n r, true)

/-- TEL_ROLL_WRITE (R286, R302): the word of TEL_CTRL. -/
def execTelRollWrite (value : Word) (s : State) : Host.Outcome State Fault Refusal :=
  if s.closed 0x2500000 then .next s else
  if getBits value 0 0 = 1 then .next s.telRoll else .next s

/-- MIRROR_SESSION_WRITE (R303): a write of either register of a session reloads C and reseeds the LFSR. -/
def execMirrorSessionWrite (sess : Sixtyfour) (n : Bool) (value : Word) (s : State) :
    Host.Outcome State Fault Refusal :=
  if s.closed 0x2501000 then .next s else
  let s := if n then s.setFld (0x2501004 + sess.val * 8) 23 0 (getBits value 23 0)
    else s.setReg (msCfg sess) (value &&& 0xE0000FFF)
  .next (s.reloadSession sess)

end Sys2Proof.Machine
end

