-- ==== Sys2Proof/Machine/Enqueue.lean ====
section
/-! DEFINITION. Queue copies, mirror and CPU copies, and the release of ingress results in sequence order (R173 to
R176, R205 to R208, R227, R244 to R246, R292, R294). -/

namespace Sys2Proof.Machine

/-- The core die of a port (R17). -/
def dieOf (p : Nat) : Nat := p / 512

/-! ### Copy indices -/

/-- Take the next copy index of a frame; none when the frame has had its 255 copies, which is counted (R174). -/
def State.takeIndex (s : State) (d : Nat) : State × Option Nat :=
  let x := s.desc d
  if x.nextIndex < 255 then (s.setDesc d { x with nextIndex := x.nextIndex + 1 }, some x.nextIndex)
  else ((s.incSat 0x800018 31 0 1).count (cChip 5) 1, none)

/-! ### Mirror and CPU copies -/

/-- The shared pool is full (R228). -/
def State.sharedFull (s : State) : Bool := decide (s.sharedCells ≤ s.buf.globSh)

/-- The copies that one pass has requested, CPU copy first (R174): the holders to add. Each copy made is queued for
delivery with what its record carries (R293, R294). -/
def State.passCopies (s : State) (d : Nat) (r : CopyReq) (ts : Word) (egress : Bool) (out : Option Nat) :
    State × List Holder :=
  let push (s : State) (h : Holder) (cpu : Nat) : State :=
    { s with egr := { s.egr with copies := s.egr.copies ++ [{
        desc := d, holder := h, ts := ts, egress := egress, dropped := r.drop, out := out,
        reason := if r.drop then r.reason else 0, cpu := cpu }] } }
  let (s, a) : State × List Holder :=
    if r.cpu then
      match s.takeIndex d with
      | (s, some i) => (push s (holderCpu i) (getBits r.md7 15 8), [holderCpu i])
      | (s, none) => (s, [])
    else (s, [])
  if !r.mirror then (s, a)
  else
    let m := getBits r.md7 5 0
    match s.mirrorRequest m with
    | (s, false) => (s, a)
    | (s, true) =>
      if s.sharedFull then (s.count (cMirror m 6) 1, a)
      else
        match s.takeIndex d with
        | (s, none) => (s.count (cMirror m 7) 1, a)
        | (s, some i) => ((push s (holderMirror m i) 0).count (cMirror m 1) 1, a ++ [holderMirror m i])

/-! ### Queue copies -/

/-- The depth of a queue in cells (R218, R285). -/
def State.queueDepth (s : State) (q : Nat) : Nat :=
  (s.aheadOf q ++ s.queue q).foldl (fun n e => n + (s.desc e.desc).cells) 0

/-- The outgoing hop class of a frame's copies; none for a frame that arrived as HC3 (R227). -/
def State.outHop (s : State) (d : Nat) : Option Nat :=
  let x := s.info d
  if x.ring.isSome || !x.viaduct then some 0
  else
    let h := x.deck.toNat / 2 ^ 14 % 4
    if h = 3 then none else some (h + 1)

/-- What R208 says of a copy for queue q: 0 it is placed, 1 MTU discard, 2 hop-class discard. -/
def State.copyCheck (s : State) (d q : Nat) : Nat :=
  let p := q / 16
  let x := s.desc d
  if (s.info d).ended && decide (s.mtu p < x.len) then 1
  else if s.viaduct p && x.lossless then
    (match s.outHop d with
    | some h => if h = s.fld (0xC10000 + q * 4) 11 10 then 0 else 2
    | none => 2)
  else 0

/-- The source of faults against a queue or a multicast group: the scheduler of its die (R427). What the fault names, the
group or the queue, stands beside DETAIL, which R432 does not list for this source (R206, R208, assumption 94). -/
def schedSource (q : Nat) : Nat := srcChip 0x0C (dieOf (q / 16))

/-- The length of a frame is not known yet (R34, R167). -/
def State.open (s : State) (d : Nat) : Bool := !(s.info d).ended

/-- Count a copy that is placed in queue q (R297); its bytes once its length is known. -/
def State.countPlaced (s : State) (d q : Nat) : State :=
  let x := s.info d
  let s := s.count (cQueue q 0) 1
  let s := if s.open d then s.setInfo d { x with placed := x.placed ++ [q] } else s.count (cQueue q 1) (s.desc d).len
  if (s.desc d).ct then s.count (cPort (q / 16) 17) 1 else s

/-- Put an entry at the tail of its queue. -/
def State.placeEntry (s : State) (q : Nat) (e : QEntry) : State :=
  let s := if e.pool then { s with egr := { s.egr with poolUsed := s.egr.poolUsed + 1 } } else s
  (s.setQueue q (s.queue q ++ [e])).countPlaced e.desc q

/-- Place one queue copy after its checks, or discard it as RELEASE (QUEUE h) (R208, R250). -/
def State.placeCopy (s : State) (q : Nat) (e : QEntry) : State :=
  let p := q / 16
  let h := holderQueue q e.idx
  match s.copyCheck e.desc q with
  | 1 => ((s.count (cPort p 13) 1).outcome e.desc 4).release e.desc h
  | 2 =>
    let s := ((s.count (cPort p 14) 1).latchFault (schedSource q) .s).nameFault (schedSource q) [q]
    (s.outcome e.desc 4).release e.desc h
  | _ =>
    if s.egr.expired.contains p && !s.linkUp p then
      ((s.count (cPort p 24) 1).lose e.desc p 4).release e.desc h
    else s.placeEntry q e

/-- A port carries GLF-7220 traffic (R190). -/
def State.fabricPort (s : State) (p : Nat) : Bool :=
  s.bit 0x880000 31 && s.bit (0x880100 + p / 32 * 4) (p % 32)

/-- The queues of a multicast group that a frame of port `inPort` is copied to, in entry order (R206). -/
def State.mcQueues (s : State) (g inPort : Nat) : List Nat :=
  let w := s.reg (0xD00000 + g * 4)
  if getBits w 31 31 = 0 then []
  else
    (List.range (getBits w 25 18)).filterMap (fun i =>
      let e := s.reg (0xE00000 + (getBits w 17 0 + i) * 4)
      let q := getBits e 13 0
      if getBits e 15 15 = 1 ∧ q / 16 = inPort then none else some q)

/-- Make the entries of the queue copies of a multicast frame: an extra copy needs the common pool, and every copy an
index (R174, R206). -/
def State.mcEntries (s : State) (d tag : Nat) (qs : List Nat) : State × List (Nat × QEntry) :=
  let r := qs.foldl (fun (acc : State × List (Nat × QEntry) × Nat) q =>
    let (s, es, used) := acc
    let extra := !es.isEmpty
    if extra && decide (1048576 ≤ s.egr.poolUsed + used) then
      let s := (s.incSat 0x800018 31 0 1).count (cChip 6) 1
      let s := if (s.desc d).lossless then (s.latchFault (schedSource q) .s).nameFault (schedSource q) [tag - 0x8000] else s
      (s.outcome d 4, es, used)
    else
      match s.takeIndex d with
      | (s, none) => (s.outcome d 4, es, used)
      | (s, some i) =>
        (s, es ++ [(q, { desc := d, idx := i, tag := tag, pool := extra })], if extra then used + 1 else used)
    ) (s, [], 0)
  (r.1, r.2.1)

/-! ### Virtual output queues (R190, R191) -/

/-- A message record (R192). -/
def cmpRecord (type src dst voq value : Nat) : DWord :=
  BitVec.ofNat 64 (type % 16 * 2 ^ 60 + src % 128 * 2 ^ 49 + dst % 128 * 2 ^ 42 + voq % 65536 * 2 ^ 26
    + value % 2 ^ 26)

/-- A message frame of records: addresses, EtherType 0x88B5, version, count, records, padding to 64 bytes with the FCS
(R192). -/
def cmpFrame (da : Nat) (recs : List DWord) : List Byte :=
  let body := beBytes 6 da ++ beBytes 6 Config.ownAddress.toNat ++ beBytes 2 0x88B5 ++ beBytes 1 1
    ++ beBytes 1 recs.length ++ recs.flatMap (fun r => beBytes 8 r.toNat)
  let body := body ++ List.replicate (60 - body.length) 0
  body ++ ethFcs body

def noRecords : Nat → List DWord := fun _ => []

/-- A message frame takes its place in TC15 of its fabric port; it has no descriptor and no cells (R192, assumption 97).
-/
def State.placeMessage (s : State) (p : Nat) (bytes : List Byte) : State :=
  let q := p * 16 + 15
  let s := (s.count (cQueue q 0) 1).count (cQueue q 1) bytes.length
  s.setQueue q (s.queue q ++ [{ desc := 1048576, idx := 0, tag := q, msg := bytes }])

/-- Send the records gathered for a peer, in a frame of TC15 of its fabric port (R192); a message for a peer whose VALID
is 0 is not sent (R204). -/
def State.cmpSendFrame (s : State) (dev : Nat) : State :=
  let recs := Tbl.get noRecords s.cmp.gathered dev
  let s := { s with cmp := { s.cmp with gathered := Tbl.put noRecords s.cmp.gathered dev [] } }
  let hi := s.reg (0x881004 + dev * 8)
  if recs.isEmpty || getBits hi 31 31 = 0 then s
  else
    let da := getBits hi 15 0 * 2 ^ 32 + (s.reg (0x881000 + dev * 8)).toNat
    s.placeMessage (getBits hi 25 16) (cmpFrame da recs)

/-- Gather a record for a peer; the eighth sends them (R192). -/
def State.cmpSend (s : State) (dev type voq value : Nat) : State :=
  let l := Tbl.get noRecords s.cmp.gathered dev ++ [cmpRecord type (s.fld 0x880000 22 16) dev voq value]
  let s := { s with cmp := { s.cmp with gathered := Tbl.put noRecords s.cmp.gathered dev l } }
  if 8 ≤ l.length then s.cmpSendFrame dev else s

/-- Move frames of a VOQ to its fabric port queue while its credit is positive (R191). A cut-through frame whose LEN is
not known yet waits for its end (assumption 98). -/
def State.voqRelease (s : State) (v : Nat) : Nat → State
  | 0 => s
  | fuel + 1 =>
    let x := s.voq v
    match x.frames with
    | [] => s
    | (q, e) :: t =>
      if x.credit ≤ 0 || !(s.info e.desc).ended then s
      else
        let len := (s.desc e.desc).len
        let s := s.setVoq v { x with frames := t, credit := x.credit - (len : Int), backlog := x.backlog - len }
        State.voqRelease (s.placeCopy q e) v fuel

/-- The bytes that a VOQ still has to ask credit for (R191). -/
def Voq.need (x : Voq) : Int := (x.backlog : Int) - x.credit - (x.out : Int) * 4096

/-- Request what a VOQ needs, 256 credits at a time (R191). -/
def State.voqRequest (s : State) (v : Nat) : Nat → State
  | 0 => s
  | fuel + 1 =>
    let x := s.voq v
    if 0 < x.need then
      let n := min 256 ((x.need.toNat + 4095) / 4096)
      State.voqRequest ((s.setVoq v { x with out := x.out + n }).cmpSend (v / 512) 1 v n) v fuel
    else s

/-- Request what a VOQ needs, then release what its credit allows (R191). -/
def State.voqRun (s : State) (v : Nat) : State :=
  let s := s.voqRequest v ((s.voq v).need.toNat / 1048576 + 1)
  s.voqRelease v (s.voq v).frames.length

/-- Join a frame to a VOQ, or drop a lossy one that would pass the cap, which is counted among the lossy frames refused
(R190, assumption 98). -/
def State.voqJoin (s : State) (v q : Nat) (e : QEntry) : State :=
  let x := s.voq v
  let d := s.desc e.desc
  let cells := x.frames.foldl (fun n f => n + (s.desc f.2.desc).cells) 0
  if !d.lossless && decide (s.fld 0x880004 21 0 < cells + d.cells) then
    let x := s.info e.desc
    ((s.outcome e.desc 4).count (cPcl (x.port * 16 + x.tc) 9) 1).release e.desc (holderQueue q e.idx)
  else
    (s.setVoq v { x with frames := x.frames ++ [(q, e)], backlog := x.backlog + d.len }).voqRun v

/-- The end of a cut-through frame has made its LEN known: the VOQs that it waits in take it into BACKLOG (R191). -/
def State.voqLength (s : State) (d : Nat) : State :=
  s.cmp.voq.foldl (fun s e =>
    let n := (e.2.frames.filter (fun f => f.2.desc = d)).length
    if n = 0 then s
    else
      let x := s.voq e.1
      (s.setVoq e.1 { x with backlog := x.backlog + n * (s.desc d).len }).voqRun e.1) s

/-! ### The release of a result -/

/-- The sequence of a pair moves on past its RELEASE, freeing a place of the reorder buffer (R244, R246). -/
def State.advanceRelease (s : State) (pair : Nat) : State :=
  let o := s.order pair
  s.setOrder pair { o with release := o.release + 1 }

/-- The result asks for a multicast group, and which (R48). -/
def Result.mc (r : Result) : Bool := decide (getBits r.md6 15 15 = 1)
def Result.group (r : Result) : Nat := getBits r.md6 30 16
/-- The queue that a unicast result names (R48). -/
def Result.queue (r : Result) : Nat := getBits r.md6 13 0

/-- RELEASE moves on, the ledger says RELEASED, and the descriptor takes what the pass has decided (R167, R245). -/
def State.markReleased (s : State) (pair : Nat) (r : Result) : State :=
  let d := r.desc
  let s := (s.advanceRelease pair).setInfo d { (s.info d) with released := true }
  let s := if (s.desc d).accepted then s.setLedger d { (s.ledger d) with state := .released } else s
  s.setDesc d { (s.desc d) with
    egress := r.md6, copy := r.md7, bridge0 := r.bridge.getD 0 0, bridge1 := r.bridge.getD 1 0,
    bridge2 := r.bridge.getD 2 0, bridge3 := r.bridge.getD 3 0, egOp := r.egOp, ct := !(s.info d).ended }

/-- The entry of a unicast copy. -/
def State.oneEntry (s : State) (d q : Nat) : State × List (Nat × QEntry) :=
  match s.takeIndex d with
  | (s, some i) => (s, [(q, { desc := d, idx := i, tag := q })])
  | (s, none) => (s, [])

/-- The queue entries that a result asks for, by queue (R205, R237). -/
def State.makeEntries (s : State) (r : Result) : State × List (Nat × QEntry) :=
  if r.drop then (s, [])
  else if r.mc then s.mcEntries r.desc (0x8000 + r.group) (s.mcQueues r.group r.port)
  else s.oneEntry r.desc r.queue

/-- The holders of the mirror and CPU copies that the passes have requested (R72, R293). -/
def State.makeCopies (s : State) (r : Result) : State × List Holder :=
  let out := if !r.mc && !r.drop then some (r.queue / 16) else none
  r.requests.foldl (fun (acc : State × List Holder) rq =>
    let y := acc.1.passCopies r.desc rq (acc.1.desc r.desc).tsIn false out
    (y.1, acc.2 ++ y.2)) (s, [])

/-- The entries go to their queues, to a virtual output queue on a fabric port where an ingress pass has named the queue
(R190); a DIRECT host packet is placed in its queue (R386). -/
def State.enqueueAll (s : State) (r : Result) (entries : List (Nat × QEntry)) : State :=
  entries.foldl (fun s e =>
    if !r.mc && !r.direct && s.fabricPort (e.1 / 16) then s.voqJoin (getBits r.md6 31 16) e.1 e.2 else s.placeCopy e.1 e.2) s

/-- The TRANSFER of R175 from ARRIVAL to the copies, and their queues; copies whose TRANSFER a check stops are lost. -/
def State.handOver (s : State) (r : Result) (arrival : Holder) (entries : List (Nat × QEntry)) (extra : List Holder) :
    State :=
  let hs := entries.map (fun e => holderQueue e.1 e.2.idx) ++ extra
  let dest := if entries.isEmpty then 0xFFFE else if r.mc then 0x8000 + r.group else r.queue
  let y := s.holderOp r.desc arrival hs (if hs.isEmpty then none else some dest)
  if y.2 then y.1.enqueueAll r entries
  else entries.foldl (fun s e => s.lose r.desc (e.1 / 16) 3) y.1

/-- A result with no copy is a drop (R239, R297). -/
def State.countResultDrop (s : State) (pair : Nat) (r : Result) (entries : List (Nat × QEntry)) (extra : List Holder) : State :=
  let dropped := r.drop || (entries.isEmpty && extra.isEmpty)
  let s := if dropped && (s.info r.desc).ring.isNone then s.count (cPcl pair 8) 1 else s
  if entries.isEmpty then s.outcome r.desc 4 else s

/-- Release an ingress result (R245): the queue entries are written, the ledger says RELEASED, RELEASE moves on, and the
TRANSFER of R175 follows. -/
def State.releaseResult (s : State) (pair : Nat) (r : Result) : State :=
  let arrival := (s.info r.desc).arrivalHolder
  let a := (s.markReleased pair r).makeEntries r
  let b := a.1.makeCopies r
  (b.1.countResultDrop pair r a.2 b.2).handOver r arrival a.2 b.2

/-- The result may leave the order keeper now (R26, R33 to R35, R253, R256, R442). A frame leaves cut-through when no
egress port of its copies is faster than its ingress port (R34). -/
def State.releasable (s : State) (r : Result) : Bool :=
  let x := s.info r.desc
  let d := s.desc r.desc
  let pass := s.passOf (r.port / 64) .ingress
  let held := pass.resolving ≠ 0 && r.after && x.ring.isNone && pass.target = r.port / 16 % 4
  let running := s.chip.mode = .service || s.chip.mode = .test || s.chip.mode = .recovery
  let qs := if r.mc then s.mcQueues r.group r.port else [r.queue]
  let cutThrough := x.ctMask / 2 ^ x.tc % 2 = 1 && !d.lossless && !qs.isEmpty
    && qs.all (fun q => decide (s.portRate (q / 16) ≤ s.portRate r.port))
  running && !held && !s.grantsPaused
    && (if d.lossless && x.ring.isNone then d.accepted else (x.ended && x.good) || (cutThrough && !r.drop) || (r.drop && x.ended))

/-- The result in a place of what waits for a pair, with its sequence. -/
def heldAt (l : List (Word × Held)) (i : Nat) : Option (Word × Result) :=
  match l.getD i (0, .void) with
  | (seq, .result r) => some (seq, r)
  | (_, .void) => none

/-- The result in place i is a duplicate: earlier than RELEASE, or already held (R245). -/
def PairOrder.isDup (o : PairOrder) (i : Nat) : Bool :=
  match heldAt o.held i with
  | some (seq, _) => seqEarlier seq o.release || (o.held.take i).any (fun h => h.1 = seq)
  | none => false

/-- RESULT_RELEASE (R245): of the results that wait for a pair, a duplicate is discarded; else the one at RELEASE is
released, or a void or dropped sequence is passed over. -/
def State.resultRelease (s : State) (pair : Nat) : State :=
  let o := s.order pair
  match (List.range o.held.length).find? (fun i => o.isDup i) with
  | some i =>
    let port := match heldAt o.held i with
      | some (_, r) => r.port
      | none => 0
    let s := s.setOrder pair { o with held := o.held.eraseIdx i }
    let s := s.setReorderUse (portGroup port) (s.reorderUse (portGroup port) - 1)
    (s.incSat 0x410 31 0 1).count (cChip 7) 1
  | none =>
    match o.held.find? (fun h => h.1 = o.release) with
    | none => s
    | some (_, .void) =>
      (s.setOrder pair { o with held := o.held.filter (fun h => h.1 ≠ o.release) }).advanceRelease pair
    | some (_, .result r) =>
      if s.releasable r then
        let s := s.setOrder pair { o with held := o.held.filter (fun h => h.1 ≠ o.release) }
        let s := s.setReorderUse (portGroup r.port) (s.reorderUse (portGroup r.port) - 1)
        s.releaseResult pair r
      else s

/-- Release what can be released of the packets of a host ring, in ring order (R386). -/
def State.releaseRing (s : State) (pair : Nat) : State :=
  (List.range (s.order pair).held.length).foldl (fun s _ => s.resultRelease pair) s

/-- The same for every host ring. -/
def State.releaseHost (s : State) : State :=
  (s.ord.pairs.filter (fun e => decide (16384 ≤ e.1))).foldl (fun s e => s.releaseRing e.1) s

/-- RESULT_RELEASE (R245). -/
def execResultRelease (port : Port) (tc : TrafficClass) (s : State) : Host.Outcome State Fault Refusal :=
  .next (s.resultRelease (port.val * 16 + tc.val))

end Sys2Proof.Machine
end

