-- ==== Sys2Proof/Machine/Discard.lean ====
section
/-! DEFINITION. Taking a frame or one of its copies out of everything that waits for it or works on it, and the cell guard
check of a reader (R30, R182, R183, R239). -/

namespace Sys2Proof.Machine

/-- Return a sequence as void (R30): it takes the place of a result that waits, and is passed over when it is next. -/
def State.voidSeq (s : State) (d : Nat) : State :=
  let x := s.info d
  if !x.classified || x.released || x.revoked then s
  else
    let seq := (s.desc d).seq
    let o := s.order x.pair
    let gone := o.held.filter (fun h => h.1 = seq)
    let s := s.setOrder x.pair { o with held := o.held.filter (fun h => h.1 ≠ seq) ++ [(seq, .void)] }
    let s := s.setReorderUse (portGroup x.port) (s.reorderUse (portGroup x.port) - gone.length)
    if x.ring.isSome then s.releaseRing x.pair else s.count (cPcl x.pair 7) 1

/-- The packet is an ingress pass of the frame. -/
def Packet.ingressOf (k : Packet) (d : Nat) : Bool := k.pass = .ingress && k.desc = some d

/-- Take a frame out of everything that waits to run its ingress pass. -/
def State.forgetIngress (s : State) (d : Nat) : State :=
  let x := s.info d
  let g := portGroup x.port
  let s := (s.setArrivals g ((s.arrivals g).filter (fun e => e ≠ d))).arrivalXon g
  let s := s.setHostQueue g ((s.hostQueue g).filter (fun e => e ≠ d))
  let s := s.setReplays g .ingress ((s.replaysOf g .ingress).filter (fun r => r.desc ≠ d))
  let gone := (s.pipes.packets.filter (fun e => (e.2.filter (fun k => k.ingressOf d)).isSome)).map (fun e => e.1)
  let s := s.dropWhere (fun k => k.ingressOf d)
  s.setRecircQueue g ((s.recircQueue g).filter (fun i => !gone.contains i))

/-- The packet is the egress pass of a copy. -/
def Packet.passOfCopy (k : Packet) (q : Nat) (e : QEntry) : Bool := k.copy = some (q, e)

/-- Take the pass of a copy out of the egress pipeline and of what waits for it. -/
def State.dropPass (s : State) (q : Nat) (e : QEntry) : State :=
  let g := portGroup (q / 16)
  let s := s.setSelected g ((s.selectedOf g).filter (fun c => c ≠ (q, e)))
  let s := s.setReplays g .egress ((s.replaysOf g .egress).filter (fun r => r.copy ≠ some (q, e)))
  s.dropWhere (fun k => k.passOfCopy q e)

/-- The queue entry of a copy, wherever the copy waits or is worked on (R205). -/
def State.findEntry (s : State) (q d idx : Nat) : Option QEntry :=
  let mine (e : QEntry) : Bool := e.desc = d && e.idx = idx && e.msg.isEmpty
  let hand := match s.tx (q / 16) with
    | some t => if t.queue = q && !t.resend then [t.entry] else []
    | none => []
  let voq := s.cmp.voq.flatMap (fun v => (v.2.frames.filter (fun f => f.1 = q)).map (fun f => f.2))
  (s.aheadOf q ++ s.queue q ++ hand ++ voq).find? mine

/-- Take a queue copy out of wherever it waits or is sent from; a transmission that has begun ends under R36. -/
def State.dropQueueCopy (s : State) (q d idx : Nat) : State :=
  let mine (e : QEntry) : Bool := e.desc = d && e.idx = idx && e.msg.isEmpty
  let s := ((s.aheadOf q ++ s.queue q).filter mine).foldl (fun s e => s.freeEntry e) s
  let s := s.setQueue q ((s.queue q).filter (fun e => !mine e))
  let s := s.setAhead q ((s.aheadOf q).filter (fun e => !mine e))
  let g := portGroup (q / 16)
  let s := s.setSelected g ((s.selectedOf g).filter (fun c => !(c.1 = q && mine c.2)))
  let ours (c : Option (Nat × QEntry)) : Bool := (c.filter (fun c => c.1 = q && mine c.2)).isSome
  let s := s.setReplays g .egress ((s.replaysOf g .egress).filter (fun r => !ours r.copy))
  let s := (s.dropWhere (fun k => ours k.copy)).resetEmpty q
  match s.tx (q / 16) with
  | some t =>
    if t.queue = q && !t.resend && mine t.entry then ((s.stomp (q / 16) t).setTx (q / 16) none).freeEntry t.entry else s
  | none => s

/-- The entry kept for link retry is dropped; a retransmission of it that has begun ends under R36 (R183). -/
def State.dropRetry (s : State) (p d idx : Nat) : State :=
  let mine (e : QEntry) : Bool := e.desc = d && e.idx = idx
  let l := s.viaLink p
  let s := s.setVia p { l with retry := l.retry.filter (fun e => !mine e.entry) }
  match s.tx p with
  | some t => if t.resend && mine t.entry then ((s.dropPass t.queue t.entry).stomp p t).setTx p none else s
  | none => s

/-- A retransmission whose egress pass was to run again is given up when its copy is no longer kept (R225, R258). -/
def State.dropRerun (s : State) (p : Nat) : State :=
  match s.tx p with
  | some t =>
    if t.resend && t.bytes.isEmpty && !(s.viaLink p).retry.any (fun e => e.entry = t.entry) then
      (s.dropPass t.queue t.entry).setTx p none
    else s
  | none => s

/-- Discard the copy whose holder was reading (R183), with its LOST outcome of `kind` (R239, R275). -/
def State.dropCopy (s : State) (d : Nat) (h : Holder) (kind : Nat) : State :=
  let t := holderTarget h
  match holderKind h with
  | 0 => (s.dropQueueCopy t d (holderIndex h)).lose d (t / 16) kind
  | 1 => s.discardCopies (fun c => c.desc = d && c.holder = h)
  | 2 => (s.dropRetry t d (holderIndex h)).lose d t kind
  | _ =>
    let e := (Config.openEgress s.freeCount).toNat
    (({ s with freeCount := s.freeCount + 1 }).voidSeq d |>.forgetIngress d).lose d e kind

/-- The DEST that a reader computes the fold from (R182): for a queue copy its own context, the tag of its queue entry;
the descriptor's for a mirror or CPU copy, an ingress replay and a retry. -/
def State.readerDest (s : State) (d : Nat) (h : Holder) : Nat :=
  if holderKind h = 0 then
    match s.findEntry (holderTarget h) d (holderIndex h) with
    | some e => e.tag
    | none => holderTarget h
  else (s.desc d).dest

/-- A MISDIRECT within 1 s of the previous one is dangerous (R183). -/
def State.misdirectClass (s : State) : FaultClass :=
  match s.buf.misdirect with
  | some t => if s.now ≤ t + 1000000000 then .d else .s
  | none => .s

/-- A guard check has failed (R183). -/
def State.guardFault (s : State) (d c : Nat) (h : Holder) (uncorrectable : Bool) : State :=
  if uncorrectable then ((s.dropCopy d h 1).bufFault 8 c h).release d h
  else
    let cls := s.misdirectClass
    let s := { s with buf := { s.buf with misdirect := some s.now } }
    ((s.dropCopy d h 2).bufFault 7 c h cls).quarantine d

/-- A reader of the whole frame meets no cell whose guard fails, or the first such one is reported: the state, and
whether the reader goes on (R182, R183). -/
def State.checkGuards (s : State) (d dest : Nat) (h : Holder) : State × Bool :=
  match s.badCell d dest with
  | some c => (s.guardFault d c h false, false)
  | none => (s, true)

end Sys2Proof.Machine
end

