-- ==== Sys2Proof/Machine/Stores.lean ====
section
/-! DEFINITION. The program stores of the two generations: the items, their defaults and their copies (R87 to R94),
and the fields of a microword (R58, R59, R64, R67, R72). An item is a number: the bits of the word. -/

namespace Sys2Proof.Machine

/-- Store codes: the section type of R93 for each kind of item. -/
def kindWord : Nat := 1
def kindDispatch : Nat := 2
def kindKeyMap : Nat := 3
def kindEntry : Nat := 4
def kindMaint : Nat := 5
def kindRoutine : Nat := 6

/-- The key of an item: generation, kind, pass, stage and index. -/
def storeKey (genB : Bool) (kind pass stage index : Nat) : Nat :=
  genB.toNat * 2 ^ 24 + kind * 2 ^ 20 + pass * 2 ^ 18 + stage * 2 ^ 13 + index

/-- An unused key map: sixteen selectors 0x1FF, by 16-bit item (R94). -/
def emptyKeyMap : Nat := (List.range 16).foldl (fun n _ => n * 65536 + 0x1FF) 0

/-- What an item holds that no load has listed (R94). -/
def storeDefault (key : Nat) : Nat :=
  let kind := key / 2 ^ 20 % 16
  if kind = 3 then emptyKeyMap
  else if kind = 5 then Config.haltWord.toNat
  else 0

def noOver : Nat → Option Nat := fun _ => none

/-- The copy of a store: the pipeline number of R296 for a store of a pipeline, span × 10 for one of a span. -/
def overKey (copy key : Nat) : Nat := copy * 2 ^ 25 + key

/-- What every copy of an item holds, unless a copy differs. -/
def State.storeBase (s : State) (key : Nat) : Nat := Tbl.get storeDefault s.progs.base key

/-- What one copy of an item holds. -/
def State.store (s : State) (copy key : Nat) : Nat :=
  match Tbl.get noOver s.progs.deviant (overKey copy key) with
  | some v => v
  | none => s.storeBase key

/-- Write an item in every copy (R88). -/
def State.setStoreAll (s : State) (key v : Nat) : State :=
  { s with progs := { s.progs with
      base := Tbl.put storeDefault s.progs.base key v
      deviant := s.progs.deviant.filter (fun e => e.1 % 2 ^ 25 ≠ key) } }

/-- Write an item in one copy. -/
def State.setStoreOne (s : State) (copy key v : Nat) : State :=
  { s with progs := { s.progs with
      deviant := Tbl.put noOver s.progs.deviant (overKey copy key) (if v = s.storeBase key then none else some v) } }

/-- Bits `hi` to `lo` of a number. -/
def bitsOf (n hi lo : Nat) : Nat := n / 2 ^ lo % 2 ^ (hi - lo + 1)

/-! ### Fields of a microword, from bit 0 of each field -/

def mwSeq (w : Nat) : Nat := bitsOf w 575 544
def mwKey (w : Nat) : Nat := bitsOf w 543 480
def mwSlot (w k : Nat) : Nat := bitsOf w (96 + 24 * k + 23) (96 + 24 * k)
def mwImm1 (w : Nat) : Nat := bitsOf w 95 64
def mwImm0 (w : Nat) : Nat := bitsOf w 63 32
def mwEmit (w : Nat) : Nat := bitsOf w 31 0

def slotOp (x : Nat) : Nat := bitsOf x 23 18
def slotDst (x : Nat) : Nat := bitsOf x 17 10
def slotSrc (x : Nat) : Nat := bitsOf x 9 2
def slotB (x : Nat) : Nat := bitsOf x 1 0

/-- The container that an 8-bit address names under HVWIN: 0 to 255 for the header vector, 256 to 319 for the
metadata (R46). -/
def containerOf (addr : Nat) (win : Bool) : Nat :=
  if addr < 0xC0 then (if win then addr + 64 else addr) else 256 + (addr - 0xC0)

/-- The container that a key-map selector names; none for an unused one (R46). -/
def selectorOf (sel : Nat) : Option Nat := if sel < 0x140 then some sel else none

/-- Entry k of a key map: the selector and the byte mask (R65, R93). -/
def mapSelector (m k : Nat) : Nat := m / 2 ^ (16 * k) % 512
def mapMask (m k : Nat) : Nat := m / 2 ^ (16 * k + 9) % 16

end Sys2Proof.Machine
end

