-- ==== Sys2Proof/Machine/Tables.lean ====
section
/-! DEFINITION. The table units, their entry formats and the lookups of a span (R145 to R159). A row is a number of 256
bits; bit 255 is its most significant. -/

namespace Sys2Proof.Machine

/-! ### Units and descriptors -/

def zeroRow : Nat → Nat := fun _ => 0
def sramKey (span unit row : Nat) : Nat := span * 2 ^ 18 + unit * 2 ^ 11 + row
def tcamKey (span unit row : Nat) : Nat := span * 2 ^ 16 + unit * 2 ^ 11 + row

def State.sram (s : State) (span unit row : Nat) : Nat := Tbl.get zeroRow s.tables.sram (sramKey span unit row)
def State.setSram (s : State) (span unit row v : Nat) : State :=
  { s with tables := { s.tables with sram := Tbl.put zeroRow s.tables.sram (sramKey span unit row) (v % 2 ^ 256) } }
def State.tcamVal (s : State) (span unit row : Nat) : Nat := Tbl.get zeroRow s.tables.tval (tcamKey span unit row)
def State.tcamMask (s : State) (span unit row : Nat) : Nat := Tbl.get zeroRow s.tables.tmask (tcamKey span unit row)
def State.setTcam (s : State) (span unit row v m : Nat) : State :=
  { s with tables := { s.tables with
      tval := Tbl.put zeroRow s.tables.tval (tcamKey span unit row) (v % 2 ^ 256)
      tmask := Tbl.put zeroRow s.tables.tmask (tcamKey span unit row) (m % 2 ^ 256) } }

def ruleDefault : Nat → Rule := fun _ => {}
def State.rule (s : State) (span r : Nat) : Rule := Tbl.get ruleDefault s.tables.rules (span * 4096 + r)
def State.setRule (s : State) (span r : Nat) (x : Rule) : State :=
  { s with tables := { s.tables with rules := Tbl.put ruleDefault s.tables.rules (span * 4096 + r) x } }

/-- The source of a table unit of a span: SRAM units 0 to 95, ternary units from 96 (R427). -/
def unitSource (span u : Nat) : Nat :=
  if u < 64 then srcSpan span 0x10 u else if u < 96 then srcSpan span 0x11 (u - 64) else srcSpan span 0x12 (u - 96)

/-- The geometry of a table (R147, R148). -/
structure Geometry where
  en        : Bool
  kind      : Nat
  gensplit  : Bool
  width     : Nat
  keyBytes  : Nat
  ageMax    : Nat
  rootBits  : Nat
  sramFirst : Nat
  sramCount : Nat
  tcamFirst : Nat
  tcamCount : Nat
deriving DecidableEq, Repr

def kindReg (span t : Nat) : Nat := 0x100C000 + span * 0x100000 + t * 0x10
def unitsReg (span t : Nat) : Nat := 0x100C004 + span * 0x100000 + t * 0x10

/-- The geometry that two descriptor words spell. -/
def geometryOf (k u : Word) : Geometry := {
  en := getBits k 31 31 = 1, kind := getBits k 30 28, gensplit := getBits k 27 27 = 1, width := getBits k 26 24,
  keyBytes := getBits k 23 18 + 1, ageMax := getBits k 17 14, rootBits := getBits k 13 9,
  sramFirst := getBits u 31 25, sramCount := getBits u 24 18, tcamFirst := getBits u 17 13,
  tcamCount := getBits u 12 7 }

def State.geometry (s : State) (span t : Nat) : Geometry :=
  geometryOf (s.reg (kindReg span t)) (s.reg (unitsReg span t))

/-- Entries of an exact way's unit stack: m of R150. -/
def Geometry.m (g : Geometry) : Nat := g.sramCount / (4 * max 1 g.width)
/-- Root units of an LPM table. -/
def Geometry.roots (g : Geometry) : Nat := max 1 (2 ^ g.rootBits / 2 ^ 14)
/-- Entries per row of a direct-index table. -/
def Geometry.perRow (g : Geometry) : Nat := if g.width = 0 then 8 else if g.width = 1 then 4 else 2

def isPow2To16 (m : Nat) : Bool := m = 1 || m = 2 || m = 4 || m = 8 || m = 16

/-- The geometry satisfies the table of R150. -/
def Geometry.valid (g : Geometry) : Bool :=
  let fitsUnits := decide (g.sramFirst + g.sramCount ≤ 96) && decide (g.tcamFirst + g.tcamCount ≤ 32)
  fitsUnits &&
  match g.kind with
  | 1 => 1 ≤ g.width && g.width ≤ 3 && g.tcamCount = 0 && isPow2To16 g.m && g.sramCount = 4 * g.width * g.m
      && decide (g.keyBytes ≤ (if g.width = 1 then 12 else if g.width = 2 then 44 else 64))
  | 2 => g.width ≤ 1 && g.tcamCount = 0 && 8 ≤ g.rootBits && g.rootBits ≤ 20
      && decide (g.roots + 4 ≤ g.sramCount) && (g.sramCount - g.roots) % 4 = 0
      && decide ((g.sramCount - g.roots) / 4 ≤ 32)
      && decide (g.keyBytes ≤ (if g.width = 0 then 4 else 20)) && decide ((g.rootBits + 7) / 8 ≤ g.keyBytes)
  | 3 => if g.width = 0 then g.sramCount = g.tcamCount && g.keyBytes = 32 && 1 ≤ g.tcamCount
      else g.width = 1 && g.tcamCount % 2 = 0 && g.sramCount = g.tcamCount / 2 && g.keyBytes = 64 && 1 ≤ g.tcamCount
  | 4 => g.width ≤ 2 && g.tcamCount = 0 && g.keyBytes ≤ 4 && 1 ≤ g.sramCount
  | 5 => g.width = 0 && g.tcamCount = 0 && g.keyBytes ≤ 4 && 1 ≤ g.sramCount
  | 6 => g.width = 0 && g.tcamCount = 0 && g.keyBytes ≤ 4 && 1 ≤ g.sramCount
  | _ => false

/-- Two ranges of units meet. -/
def meets (a n b m : Nat) : Bool := decide (a < b + m) && decide (b < a + n) && n ≠ 0 && m ≠ 0

/-- The geometry takes no unit of another enabled table of the span (R150). -/
def State.unitsFree (s : State) (span t : Nat) (g : Geometry) : Bool :=
  (List.range 240).all (fun t' =>
    let h := s.geometry span t'
    t' = t || !h.en ||
      (!meets g.sramFirst g.sramCount h.sramFirst h.sramCount && !meets g.tcamFirst g.tcamCount h.tcamFirst h.tcamCount))

/-! ### Control words (R151) -/

def ctlWord (row : Nat) : Nat := bitsOf row 255 224
def rowValid (row : Nat) (genB : Bool) : Bool := row / 2 ^ (if genB then 254 else 255) % 2 = 1
def rowHit (row : Nat) : Bool := row / 2 ^ 253 % 2 = 1

/-! ### Lookups (R66) -/

structure Lookup where
  hit : Bool := false
  lw0 : Word := 0
  lw1 : Word := 0
  lw2 : Word := 0
  lw3 : Word := 0
  /-- the HIT bit that the lookup has set: the key of its row and the bit (R160) -/
  hitAt : Option (Nat × Nat) := none
deriving DecidableEq, Repr

/-- Lookup words 0 to 3 from four 32-bit numbers. -/
def lookupOf (a b c d : Nat) : Lookup :=
  { hit := true, lw0 := BitVec.ofNat 32 a, lw1 := BitVec.ofNat 32 b, lw2 := BitVec.ofNat 32 c, lw3 := BitVec.ofNat 32 d }

/-- LW0 to LW3 of an exact entry's first row or a ternary result row (R152, R155). -/
def rowLookup (row : Nat) : Lookup :=
  lookupOf (bitsOf row 223 192) (bitsOf row 191 160) (bitsOf row 159 128) (bitsOf row 127 96)

/-- The key: the selected bytes in the most significant bytes of the key width (R65). -/
def keyOf (sel : List Byte) (w : Nat) : List Byte := sliceBytes sel 0 w

/-- The index of a direct, counter or meter lookup (R65). -/
def indexOf (sel : List Byte) (w : Nat) : Nat := beNat (sel.take w)

/-- The candidate slot of way j: unit and row (R152). -/
def exactSlot (g : Geometry) (h : Word) (j : Nat) : Nat × Nat :=
  let x := (hmix h (BitVec.ofNat 32 j)).toNat % (2048 * g.m)
  (g.sramFirst + j * g.width * g.m + g.width * (x / 2048), x % 2048)

/-- The key bits of an exact entry, from bit 95 of its first row on, as a number of 12, 44 or 76 bytes. -/
def State.exactKey (s : State) (span : Nat) (g : Geometry) (unit row : Nat) : Nat :=
  (List.range (g.width - 1)).foldl (fun n k => n * 2 ^ 256 + s.sram span (unit + 1 + k) row)
    (bitsOf (s.sram span unit row) 95 0)

/-- The CRC-32C of a key under a hash function, without the final XOR (R149, R152). -/
def State.exactHash (s : State) (span hsel : Nat) (key : List Byte) : Word :=
  crc32cRaw (s.reg (0x100CF00 + span * 0x100000 + hsel * 4)) key

/-- A lookup that hits an entry of a table that ages sets its HIT bit, when it is clear (R160). -/
def State.markHit (s : State) (span : Nat) (g : Geometry) (unit row bit : Nat) (l : Lookup) : State × Lookup :=
  let r := s.sram span unit row
  if g.ageMax = 0 ∨ r / 2 ^ bit % 2 = 1 then (s, l)
  else (s.setSram span unit row (r + 2 ^ bit), { l with hitAt := some (sramKey span unit row, bit) })

/-- The HIT bits of a discarded pass are clear again (R80). -/
def State.clearHits (s : State) (l : List (Nat × Nat)) : State :=
  { s with tables := { s.tables with sram := l.foldl (fun t e =>
      let r := Tbl.get zeroRow t e.1
      if r / 2 ^ e.2 % 2 = 1 then Tbl.put zeroRow t e.1 (r - 2 ^ e.2) else t) s.tables.sram } }

def State.lookupExact (s : State) (span : Nat) (g : Geometry) (hsel : Nat) (key : List Byte) (genB : Bool) :
    State × Lookup :=
  let h := s.exactHash span hsel key
  let want := beNat (sliceBytes key 0 (if g.width = 1 then 12 else if g.width = 2 then 44 else 76))
  match (List.range 4).find? (fun j =>
      let u := exactSlot g h j
      rowValid (s.sram span u.1 u.2) genB && s.exactKey span g u.1 u.2 = want) with
  | some j =>
    let u := exactSlot g h j
    s.markHit span g u.1 u.2 253 (rowLookup (s.sram span u.1 u.2))
  | none => (s, {})

/-- A slot of an LPM bucket: unit, row, the place of its control word's top bit, and its bits below that. -/
structure LpmSlot where
  unit : Nat
  row  : Nat
  top  : Nat
deriving DecidableEq, Repr

/-- The slots of bucket b in lookup order (R153, R154). -/
def lpmSlots (g : Geometry) (b : Nat) : List LpmSlot :=
  (List.range 4).flatMap (fun k =>
    let u := g.sramFirst + g.roots + 4 * (b / 2048) + k
    if g.width = 0 then [⟨u, b % 2048, 255⟩, ⟨u, b % 2048, 127⟩] else [⟨u, b % 2048, 255⟩])

/-- A slot matches a key of `kb` bits under generation `genB`: its prefix length when it does. -/
def State.slotMatch (s : State) (span : Nat) (g : Geometry) (key kb : Nat) (genB : Bool) (x : LpmSlot) : Option Nat :=
  let row := s.sram span x.unit x.row
  let ctl := bitsOf row x.top (x.top - 31)
  let len := bitsOf ctl 23 16
  let keyBits := if g.width = 0 then 32 else 160
  let stored := bitsOf row (x.top - 96) (x.top - 96 - (keyBits - 1))
  let mine := key * 2 ^ (keyBits - kb)
  if ctl / 2 ^ (if genB then 30 else 31) % 2 = 1 && len ≤ keyBits
      && stored / 2 ^ (keyBits - len) = mine / 2 ^ (keyBits - len) then some len else none

def State.lookupLpm (s : State) (span : Nat) (g : Geometry) (key : List Byte) (genB : Bool) : State × Lookup :=
  let kb := 8 * key.length
  let k := beNat key
  let i := k / 2 ^ (kb - g.rootBits)
  let row := s.sram span (g.sramFirst + i / 16384) (i % 16384 / 8)
  let e := bitsOf row (255 - 32 * (i % 8)) (224 - 32 * (i % 8))
  if e / 2 ^ 31 % 2 = 0 then (s, {})
  else
    let b := e % 65536
    if 2048 * ((g.sramCount - g.roots) / 4) ≤ b then (s.latchFault (srcSpan span 0x0D 0) .n, {})
    else
      let best := (lpmSlots g b).foldl (fun (acc : Option (Nat × LpmSlot)) x =>
        match s.slotMatch span g k kb genB x, acc with
        | some n, none => some (n, x)
        | some n, some (m, y) => if m < n then some (n, x) else some (m, y)
        | none, a => a) none
      match best with
      | none => (s, {})
      | some (_, x) =>
        let r := s.sram span x.unit x.row
        s.markHit span g x.unit x.row (x.top - 2)
          (lookupOf (bitsOf r (x.top - 32) (x.top - 63)) (bitsOf r (x.top - 64) (x.top - 95)) 0 0)

def State.lookupTernary (s : State) (span : Nat) (g : Geometry) (key : List Byte) (genB : Bool) : State × Lookup :=
  let k := beNat key
  let one (u row half : Nat) : Bool := ((half ^^^ s.tcamVal span u row) &&& s.tcamMask span u row) = 0
  let hits (unit row : Nat) : Bool :=
    let i := unit - g.sramFirst
    if g.width = 0 then one (g.tcamFirst + i) row k
    else one (g.tcamFirst + 2 * i) row (k / 2 ^ 256) && one (g.tcamFirst + 2 * i + 1) row (k % 2 ^ 256)
  match s.tables.sram.find? (fun e =>
      let u := e.1 / 2 ^ 11 % 128
      e.1 / 2 ^ 18 = span && decide (g.sramFirst ≤ u) && decide (u < g.sramFirst + g.sramCount)
        && rowValid e.2 genB && hits u (e.1 % 2 ^ 11)) with
  | some e => s.markHit span g (e.1 / 2 ^ 11 % 128) (e.1 % 2 ^ 11) 253 (rowLookup e.2)
  | none => (s, {})

/-- The bits of entry e of a table with p entries to a row (R156). -/
def State.packed (s : State) (span : Nat) (g : Geometry) (p e : Nat) : Nat :=
  let row := s.sram span (g.sramFirst + e / (2048 * p)) (e % (2048 * p) / p)
  row / 2 ^ (256 - (256 / p) * (e % p + 1)) % 2 ^ (256 / p)

def State.setPacked (s : State) (span : Nat) (g : Geometry) (p e v : Nat) : State :=
  let unit := g.sramFirst + e / (2048 * p)
  let r := e % (2048 * p) / p
  let sh := 256 - (256 / p) * (e % p + 1)
  let row := s.sram span unit r
  s.setSram span unit r (row - s.packed span g p e * 2 ^ sh + v % 2 ^ (256 / p) * 2 ^ sh)

def State.lookupDirect (s : State) (span : Nat) (g : Geometry) (i : Nat) (genB : Bool) : Lookup :=
  let p := g.perRow
  let cap := 2048 * g.sramCount * p
  let visible := if g.gensplit then cap / 2 else cap
  let e := if g.gensplit && genB then i + cap / 2 else i
  if visible ≤ i then {}
  else
    let v := s.packed span g p e
    if v = 0 then {}
    else if p = 8 then lookupOf v 0 0 0
    else if p = 4 then lookupOf (bitsOf v 63 32) (bitsOf v 31 0) 0 0
    else lookupOf (bitsOf v 127 96) (bitsOf v 95 64) (bitsOf v 63 32) (bitsOf v 31 0)

/-- A counter lookup (R157). -/
def State.lookupCounter (s : State) (span : Nat) (g : Geometry) (i len : Nat) : State × Lookup :=
  if 4096 * g.sramCount ≤ i then (s, {})
  else
    let v := s.packed span g 2 i
    let bytes := (v / 2 ^ 64 + len) % 2 ^ 64
    let packets := (v % 2 ^ 64 + 1) % 2 ^ 64
    (s.setPacked span g 2 i (bytes * 2 ^ 64 + packets), lookupOf 0 0 packets bytes)

/-- The buckets of a meter row: tokens, and the instant of the last update (R158). -/
structure Buckets where
  tc   : Nat
  tep  : Nat
deriving DecidableEq, Repr

/-- The refill of a meter at instant `now` (R159). -/
def meterRefill (row now : Nat) : Buckets :=
  let dt := (now + 2 ^ 32 - bitsOf row 47 16) % 2 ^ 32
  let cir := bitsOf row 223 192
  let pir := bitsOf row 191 160
  let cbs := bitsOf row 159 136 * 256
  let ebs := bitsOf row 135 112 * 256
  let tc := bitsOf row 111 80
  let tep := bitsOf row 79 48
  let add := dt * cir / 31250
  if row / 2 ^ 253 % 2 = 1 then { tc := min (tc + add) cbs, tep := min (tep + dt * pir / 31250) ebs }
  else if tc + add ≤ cbs then { tc := tc + add, tep := tep }
  else { tc := cbs, tep := min (tep + tc + add - cbs) ebs }

/-- Write the buckets and LAST into a meter row. -/
def meterRow (row now : Nat) (b : Buckets) : Nat :=
  row - row % 2 ^ 112 + row % 2 ^ 16 + b.tc % 2 ^ 32 * 2 ^ 80 + b.tep % 2 ^ 32 * 2 ^ 48 + now % 2 ^ 32 * 2 ^ 16

/-- A meter lookup (R159): `colour` is the packet's. -/
def State.lookupMeter (s : State) (span : Nat) (g : Geometry) (i len colour : Nat) : State × Lookup :=
  if 2048 * g.sramCount ≤ i then (s, {})
  else
    let unit := g.sramFirst + i / 2048
    let row := s.sram span unit (i % 2048)
    let b := meterRefill row s.now
    let l := len * 256
    let inp := if row / 2 ^ 252 % 2 = 1 then colour else 0
    let (c, b') : Nat × Buckets :=
      if row / 2 ^ 253 % 2 = 1 then
        if inp = 2 ∨ b.tep < l then (2, b)
        else if inp = 1 ∨ b.tc < l then (1, { b with tep := b.tep - l })
        else (0, { tc := b.tc - l, tep := b.tep - l })
      else
        if inp = 0 ∧ l ≤ b.tc then (0, { b with tc := b.tc - l })
        else if inp ≠ 2 ∧ l ≤ b.tep then (1, { b with tep := b.tep - l })
        else (2, b)
    let op := bitsOf row (247 - 8 * c) (240 - 8 * c)
    (s.setSram span unit (i % 2048) (meterRow row s.now b'), lookupOf op c 0 0)

/-- The return table, 255 (R77). The spec maps the indices 0x00 to 0x7F to 0x00 and leaves open whether that is a hit:
DESIGN CHOICE, it is one (assumption 99). -/
def lookupReturn (sel : List Byte) : Lookup :=
  let i := beNat sel
  if i < 256 then lookupOf (if 0x80 ≤ i then i else 0) 0 0 0 else {}

/-- A lookup of a table (R66): the kind and hash function of the microword, the selected bytes, the packet's
generation, length and colour. -/
def State.lookup (s : State) (span t kind hsel : Nat) (sel : List Byte) (genB : Bool) (len colour : Nat) :
    State × Lookup :=
  if kind = 0 then (s, {})
  else if t = 255 then (s, lookupReturn sel)
  else
    let g := s.geometry span t
    if 240 ≤ t ∨ (g.en ∧ g.kind ≠ kind) then
      let r := Config.openLookup t kind (beNat sel)
      (s, if r.1 then { hit := true, lw0 := r.2.1, lw1 := r.2.2.1, lw2 := r.2.2.2.1, lw3 := r.2.2.2.2 } else {})
    else if !g.en then (s, {})
    else
      match kind with
      | 1 => s.lookupExact span g hsel (keyOf sel g.keyBytes) genB
      | 2 => s.lookupLpm span g (keyOf sel g.keyBytes) genB
      | 3 => s.lookupTernary span g (keyOf sel g.keyBytes) genB
      | 4 => (s, s.lookupDirect span g (indexOf sel g.keyBytes) genB)
      | 5 => s.lookupCounter span g (indexOf sel g.keyBytes) len
      | 6 => s.lookupMeter span g (indexOf sel g.keyBytes) len colour
      | _ => (s, {})

/-! ### Classifier (R139 to R141) -/

/-- The 256-bit key of a frame. -/
def classifierKey (port profile : Nat) (p : Parsed) (hop : Nat) : Nat :=
  let hv (c : Nat) : Nat := (Tbl.get zeroWord p.hv c).toNat
  let has (h : Nat) : Bool := p.hdrValid.getLsbD h
  let v4 := has 7
  let v6 := has 9
  let pick (a b : Nat) : Nat := if v4 then a else if v6 then b else 0
  let l4 := if has 13 then hv 53 else if has 14 then hv 55 else 0
  port % 1024 * 2 ^ 246 + profile % 64 * 2 ^ 240 + p.pflags.toNat * 2 ^ 208
    + (if has 1 then hv 3 % 65536 else 0) * 2 ^ 192 + (if has 2 then hv 4 % 65536 else 0) * 2 ^ 176
    + (if has 0 then hv 5 / 65536 else 0) * 2 ^ 160 + (if has 3 then hv 36 / 2 ^ 9 % 8 else 0) * 2 ^ 157
    + hop % 4 * 2 ^ 155 + pick (hv 8 / 2 ^ 16 % 256) (hv 16 / 2 ^ 20 % 256) * 2 ^ 144
    + pick (hv 10 / 2 ^ 16 % 256) p.proto * 2 ^ 136 + l4 / 65536 * 2 ^ 120 + l4 % 65536 * 2 ^ 104
    + (if has 19 then hv 76 / 2 ^ 24 else 0) * 2 ^ 96 + (if has 14 then hv 58 / 2 ^ 16 % 256 else 0) * 2 ^ 88
    + (if has 20 then hv 79 / 2 ^ 24 else 0) * 2 ^ 80 + (if has 6 then hv 105 / 2 ^ 16 else 0) * 2 ^ 64
    + pick (hv 11) (hv 21) * 2 ^ 32 + pick (hv 12) (hv 25)

/-- The lowest-numbered rule that is valid in the generation and matches the key (R140). -/
def State.classify (s : State) (span : Nat) (genB : Bool) (key : Nat) : Option Rule :=
  (s.tables.rules.find? (fun e =>
    e.1 / 4096 = span && e.2.ctl.getLsbD (if genB then 30 else 31)
      && ((key ^^^ e.2.value) &&& e.2.mask) = 0)).map (fun e => e.2)

end Sys2Proof.Machine
end

