-- ==== Sys2Proof/Machine/Pipeline.lean ====
section
/-! DEFINITION. Koltan pipelines: the slot that a packet takes, the microword of a stage and the end of a pass (chapter
02, R245 to R256, R289). -/

namespace Sys2Proof.Machine

/-! ### Containers -/

/-- Container c of a packet: 0 to 255 HVc, 256 to 319 MD(c − 256) (R46). -/
def Packet.container (k : Packet) (c : Nat) : Word :=
  if c < 256 then Tbl.get zeroWord k.hv c else Tbl.get zeroWord k.md (c - 256)
def Packet.setContainer (k : Packet) (c : Nat) (w : Word) : Packet :=
  if c < 256 then { k with hv := Tbl.put zeroWord k.hv c w } else { k with md := Tbl.put zeroWord k.md (c - 256) w }
def Packet.mdw (k : Packet) (i : Nat) : Word := Tbl.get zeroWord k.md i
def Packet.setMd (k : Packet) (i : Nat) (w : Word) : Packet := { k with md := Tbl.put zeroWord k.md i w }

/-- MD1 of a packet (R47). -/
def statusWord (r : Route) (egress : Bool) : Word :=
  BitVec.ofNat 32 (r.gen.toNat * 4 + r.recirculated.toNat * 8 + r.replay.toNat * 16 + r.kat.toNat * 32
    + egress.toNat * 64)

/-- The source of a stage or of a pipeline's own logic (R427). -/
def Packet.source (k : Packet) (elem : Nat) : Nat := srcSpan k.span (pipeBlock k.pass k.pipe) elem

/-- DETAIL of a fault of a pipeline: the packet concerned (R432). -/
def Packet.detail (k : Packet) : Nat :=
  (k.mdw 4).toNat + (k.mdw 2).toNat % 1024 * 2 ^ 32 + (k.mdw 2).toNat / 2 ^ 10 % 16 * 2 ^ 42
    + (match k.pass with | .ingress => 0 | .egress => 2 ^ 46)

def Packet.no (k : Packet) : Nat := pipeNo k.span k.pass k.pipe
def Packet.egress (k : Packet) : Bool := k.pass = .egress

/-! ### Taking a slot (R51) -/

/-- Phases in which the pipelines of a span take no slot: a span reset before its replays, a warm reset before its
(R263, R265). -/
def State.slotsStopped (s : State) (span : Nat) : Bool :=
  let p := Tbl.get (fun _ => SpanPhase.none) s.chip.spans span
  (p = .requested || p = .logicReset || p = .recopied || p = .vectorsDone)
    || s.chip.warm = .hold || s.chip.warm = .sealed || s.chip.warm = .released || s.chip.warm = .audited

/-- The pipeline may take a packet now: nothing stops it, and both views of the span and of the pipeline say that it is
available (R453). -/
def State.slotOpen (s : State) (span : Nat) (pass : Pass) (pipe : Nat) : Bool :=
  let x := s.passOf span pass
  let moving := match x.switching, x.groupOf pipe with
    | some g, some h => decide (g = h)
    | _, _ => false
  !s.fenced (partyPipe span pass pipe) && !(x.resolving ≠ 0 && pipe = x.serving) && !moving
    && !s.slotsStopped span && !s.grantsPaused && s.chip.mode ≠ .safe && s.chip.mode ≠ .off
    && s.mgmtView 1 span && s.mgmtView 2 (pipeNo span pass pipe)

/-- A slot of a physical pipeline is taken; the core clock that it belongs to is counted as time passes (R300). -/
def State.takeSlot (s : State) (no : Nat) : State := s.setPipe no { (s.pipeOf no) with owed := (s.pipeOf no).owed + 1 }

/-- Place a packet in ST0, and in the pipeline that shadows its group (R252). -/
def State.startPacket (s : State) (k : Packet) : State :=
  let i := s.pipes.nextPkt
  let x := s.passOf k.span k.pass
  let k := { k with shadowed := x.shadowOn && !x.draining && k.group % 4 = x.target, stage := 0, hits := [] }
  let s := s.takeSlot k.no
  let s := if k.shadowed then s.takeSlot (pipeNo k.span k.pass (x.free.getD 4)) else s
  let s := s.setPacket i (some k)
  { s with pipes := { s.pipes with nextPkt := i + 1 } }

/-- The metadata that a frame brings into a pass: MD0 to MD5, MD12 and MD13 (R45, R47). DESIGN CHOICE: R45 gives MD14 no
value at the entry of a pass, and it starts at 0 as the containers around it do (assumption 143). -/
def State.frameMd (s : State) (d : Nat) (p : Parsed) (r : Route) (egress : Bool) : Tbl Word :=
  let x := s.desc d
  let len : Word := if (s.info d).ended then BitVec.ofNat 32 x.len
    else (Config.openLength s.freeCount).setWidth 32
  [(0, p.pflags), (1, statusWord r egress), (2, x.portinfo), (3, len), (4, x.seq), (5, x.tsIn), (12, p.hdrValid),
    (13, s.tb0Ns)].foldl (fun t e => Tbl.put zeroWord t e.1 e.2) []

/-- A fresh value has been drawn for MD3 of a frame that has not ended. -/
def State.drawLength (s : State) (d : Nat) : State :=
  if (s.info d).ended then s else { s with freeCount := s.freeCount + 1 }

/-- The entry opcode of a frame (R142): the item class × 64 + profile of its generation. -/
def State.entryOpcode (s : State) (copy : Nat) (genB : Bool) (portinfo : Word) : Nat :=
  s.store copy (storeKey genB kindEntry 0 0 (getBits portinfo 13 10 * 64 + getBits portinfo 25 20)) % 256

/-- The last cell of the frame is written. -/
def State.wholeFrame (s : State) (d : Nat) : Bool := (s.link (s.desc d).last).last

/-- The parse of a frame at ingress (R131): its deck header, on a viaduct-mode port, is copied beside it. -/
def State.parseOf (s : State) (d : Nat) : Parsed :=
  let x := s.info d
  let bytes := s.frameBytes d
  let whole := s.wholeFrame d
  parseFrame (if whole then bytes.take (bytes.length - 4) else bytes) whole (if x.viaduct then some x.deck else none)

/-- A frame takes a slot of its ingress pipeline (R45, R142); for a replay the parser has run again (R80). -/
def State.startIngress (s : State) (span g pipe d : Nat) (origin : Origin) (failed : Option Nat) : State :=
  let x := s.info d
  let y := s.desc d
  let p := if origin = .replay then s.parseOf d else x.parsed.getD {}
  let r : Route := {
    opcode := s.entryOpcode (pipeNo span .ingress pipe) y.gen y.portinfo, gen := y.gen, replay := origin = .replay }
  let md := s.frameMd d p r false
  let s := (s.drawLength d).setInfo d { x with entered := true }
  s.startPacket {
    pass := .ingress, span := span, pipe := pipe, group := g, origin := origin, desc := some d, copy := none,
    hv := p.hv, md := md, route := r, parsed := p, failedAt := failed }

/-- The vendor egress hook stages the fixed fields of a node in HV224 to HV229 as the egress pass starts (R48, R285), so
that the words of the pass may read them; which container holds which field the spec leaves to the hook (assumption 113).
-/
def State.ioamStage (s : State) (hv : Tbl Word) (inPort outPort : Nat) : Tbl Word :=
  [(224, s.fld 0x2500010 23 0), (225, inPort * 2 ^ 16 + outPort), (226, s.fld 0x2500018 23 0),
    (227, (s.reg 0x2500014).toNat), (228, inPort), (229, outPort)].foldl
      (fun t e => Tbl.put zeroWord t e.1 (BitVec.ofNat 32 e.2)) hv

/-- A queue copy takes a slot of its egress pipeline: the frame is parsed again as stored, and MD2 to MD11 are carried
over; MD6 holds this copy's queue (R45, R47). -/
def State.startEgress (s : State) (span g pipe : Nat) (c : Nat × QEntry) (origin : Origin) (failed : Option Nat) : State :=
  let d := c.2.desc
  let y := s.desc d
  let bytes := s.frameBytes d
  let whole := (s.info d).ended
  let p := parseFrame (if whole then bytes.take (bytes.length - 4) else bytes) whole none
  let p := { p with hv := s.ioamStage p.hv (getBits y.portinfo 9 0) (c.1 / 16) }
  let r : Route := { opcode := y.egOp, gen := y.gen, replay := origin = .replay }
  let md := [(6, setBits y.egress 13 0 c.1), (7, y.copy), (8, y.bridge0), (9, y.bridge1), (10, y.bridge2),
    (11, y.bridge3)].foldl (fun t e => Tbl.put zeroWord t e.1 e.2) (s.frameMd d p r true)
  (s.drawLength d).startPacket {
    pass := .egress, span := span, pipe := pipe, group := g, origin := origin, desc := some d, copy := some c,
    hv := p.hv, md := md, route := r, parsed := p, failedAt := failed }

/-- A known-answer vector takes a slot, under the generation that was active when it was inserted (R76, R108, R254). The
vector's own containers stand in the vendor image, whose layout of the suite the spec does not give (assumption 112). -/
def State.startVector (s : State) (span g pipe : Nat) (pass : Pass) (v : Bool × Nat) : State :=
  let r : Route := { opcode := match pass with | .ingress => 1 | .egress => 2, gen := v.1, kat := true }
  let md := Tbl.put zeroWord (Tbl.put zeroWord [] 1 (statusWord r (pass = .egress))) 13 s.tb0Ns
  s.startPacket {
    pass := pass, span := span, pipe := pipe, group := g, origin := .kat, desc := none, copy := none, md := md,
    hv := (List.range 256).foldl (fun t c => Tbl.put zeroWord t c (Config.katVector v.2 c)) [], route := r,
    vector := v.2 }

/-- The oldest frame of the arrival queue, when it is classified (R28, R32). -/
def State.nextArrival (s : State) (g : Nat) : Option Nat :=
  match s.arrivals g with
  | d :: _ => if (s.info d).classified then some d else none
  | [] => none

/-- The oldest host-transmit packet of a group, when it is parsed (R386). -/
def State.nextHost (s : State) (g : Nat) : Option Nat :=
  match s.hostQueue g with
  | d :: _ => if (s.info d).parsed.isSome then some d else none
  | [] => none

/-- Take the oldest frame of the arrival queue. -/
def State.takeArrival (s : State) (span g pipe d : Nat) : State :=
  let s := (s.setArrivals g ((s.arrivals g).drop 1)).arrivalXon g
  let s := { s with pipes := { s.pipes with hostTurn := Tbl.put (fun _ => false) s.pipes.hostTurn g true } }
  s.startIngress span g pipe d .arrival none

/-- Take the oldest host-transmit packet. -/
def State.takeHost (s : State) (span g pipe d : Nat) : State :=
  let s := s.setHostQueue g ((s.hostQueue g).drop 1)
  let s := { s with pipes := { s.pipes with hostTurn := Tbl.put (fun _ => false) s.pipes.hostTurn g false } }
  s.startIngress span g pipe d .host none

/-- A second pass takes a slot: MD13 takes its time, SAT and EXC are cleared (R69, R74). -/
def State.takeRecirc (s : State) (g pipe i : Nat) : State :=
  let s := s.setRecircQueue g ((s.recircQueue g).drop 1)
  match s.packet i with
  | none => s
  | some k =>
    let s := s.setPacket i none
    let k := (k.setMd 13 s.tb0Ns).setMd 1 (statusWord k.route false)
    (s.count (cPipe k.no 7) 1).startPacket { k with pipe := pipe, origin := .recirc, latched := {} }

/-- The replay of an ingress frame takes a slot; its cells are read again, and their guards checked with the
descriptor's DEST (R80, R182). -/
def State.startReplay (s : State) (span g pipe : Nat) (r : Replay) : State :=
  let y := s.checkGuards r.desc (s.desc r.desc).dest (s.info r.desc).arrivalHolder
  if y.2 then
    (y.1.count (cPipe (pipeNo span .ingress pipe) 6) 1).startIngress span g pipe r.desc .replay r.failedAt
  else y.1

/-- A grant of an ingress slot, in the order of R51. -/
def State.grantIngress (s : State) (span g pipe : Nat) : State :=
  let no := pipeNo span .ingress pipe
  match s.replaysOf g .ingress, s.recircQueue g, (s.pipeOf no).katWait with
  | r :: rest, _, _ => (s.setReplays g .ingress rest).startReplay span g pipe r
  | [], i :: _, _ => s.takeRecirc g pipe i
  | [], [], v :: vs => (s.setPipe no { (s.pipeOf no) with katWait := vs }).startVector span g pipe .ingress v
  | [], [], [] =>
    if 4096 ≤ s.reorderUse g then s
    else
      match s.nextArrival g, s.nextHost g, Tbl.get (fun _ => false) s.pipes.hostTurn g with
      | some _, some h, true => s.takeHost span g pipe h
      | some a, _, _ => s.takeArrival span g pipe a
      | none, some h, _ => s.takeHost span g pipe h
      | none, none, _ => s

/-- The holder under which a copy in hand is read, and the DEST that the read checks its guards with: a copy that is sent
again under the retry protocol has its RETRY holder, and is checked with the descriptor's (R175, R182). -/
def State.copyReader (s : State) (c : Nat × QEntry) : Holder × Nat :=
  match s.tx (c.1 / 16) with
  | some t =>
    if t.resend && t.queue = c.1 && t.entry = c.2 then (holderRetry (c.1 / 16) c.2.idx, (s.desc c.2.desc).dest)
    else (holderQueue c.1 c.2.idx, c.2.tag)
  | none => (holderQueue c.1 c.2.idx, c.2.tag)

/-- The cells of a copy are read for its egress pass, and their guards checked (R182): the pass starts when they hold. -/
def State.readEgress (s : State) (span g pipe : Nat) (c : Nat × QEntry) (origin : Origin) (failed : Option Nat) : State :=
  let r := s.copyReader c
  let y := s.checkGuards c.2.desc r.2 r.1
  if y.2 then y.1.startEgress span g pipe c origin failed else y.1

/-- A grant of an egress slot: replays, vectors, copies that the scheduler has chosen. -/
def State.grantEgress (s : State) (span g pipe : Nat) : State :=
  let no := pipeNo span .egress pipe
  match s.replaysOf g .egress, (s.pipeOf no).katWait, s.selectedOf g with
  | r :: rest, _, _ =>
    match r.copy with
    | some c => ((s.setReplays g .egress rest).count (cPipe no 6) 1).readEgress span g pipe c .replay r.failedAt
    | none => s.setReplays g .egress rest
  | [], v :: vs, _ => (s.setPipe no { (s.pipeOf no) with katWait := vs }).startVector span g pipe .egress v
  | [], [], c :: rest => (s.setSelected g rest).readEgress span g pipe c .copy none
  | [], [], [] => s

/-- PIPELINE_SLOT_GRANT (R51): the packet first in the slot order enters ST0 of the pipeline. -/
def execPipelineSlotGrant (span : Span) (pass : Pass) (pipe : PipeNo) (s : State) :
    Host.Outcome State Fault Refusal :=
  match (s.passOf span pass).groupOf pipe with
  | none => .next s
  | some g =>
    if !s.slotOpen span pass pipe then .next s
    else
      match pass with
      | .ingress => .next (s.grantIngress span (span.val * 4 + g) pipe)
      | .egress => .next (s.grantEgress span (span.val * 4 + g) pipe)

/-! ### One microword (R54 to R75) -/

/-- A vendor opcode may be produced by a customer word: the routine list of its generation marks it CALLABLE, as it
does NULL and RETURN in every vendor image (R63, R76, R107). -/
def State.callable (s : State) (copy : Nat) (genB : Bool) (op : Nat) : Bool :=
  let w := s.store copy (storeKey genB kindRoutine 0 0 op)
  op = 0 || op = 8 || (w / 2 ^ 14 % 2 = 1 && w / 2 ^ 15 % 2 = 1)

/-- The bytes that a key map selects, in entry order, from the containers at stage entry (R65). -/
def Packet.keyBytes (k : Packet) (kmap : Nat) : List Byte :=
  (List.range 16).flatMap (fun e =>
    match selectorOf (mapSelector kmap e) with
    | none => []
    | some c =>
      let bs := beBytes 4 (k.container c).toNat
      let m := mapMask kmap e
      (List.range 4).filterMap (fun b => if m / 2 ^ (3 - b) % 2 = 1 then bs[b]? else none))

/-- The operands and the operation of slot n (R67, R68). -/
def State.slotResult (s : State) (k : Packet) (w n : Nat) (l : Lookup) : Option (Nat × AluOut) :=
  let x := mwSlot w n
  let win := mwSeq w % 2 = 1
  let dst := containerOf (slotDst x) win
  let a := k.container (containerOf (slotSrc x) win)
  let lw := if n < 4 then l.lw0 else if n < 8 then l.lw1 else if n < 12 then l.lw2 else l.lw3
  let prior := k.container dst
  let b : Word := match slotB x with
    | 0 => BitVec.ofNat 32 (mwImm0 w)
    | 1 => BitVec.ofNat 32 (mwImm1 w)
    | 2 => lw
    | _ => prior
  (aluOp (slotOp x) {
    a := a, b := b, prior := prior, md13 := k.mdw 13, md4 := k.mdw 4, port := (k.mdw 2).toNat % 1024,
    egress := k.egress, stage := k.stage, seed := s.reg (0x1008000 + k.span * 0x100000),
    depth := if slotOp x = 0x3D then s.queueDepth (a.toNat % 16384) else 0 }).map (fun o => (dst, o))

/-- Write the results of all slots; SAT and EXC stick in MD1 (R68, R69). -/
def writeSlots (k : Packet) (outs : List (Nat × AluOut)) : Packet :=
  let k' := outs.foldl (fun k o => k.setContainer o.1 o.2.d) k
  let sat := outs.any (fun o => o.2.sat)
  let exc := outs.any (fun o => o.2.exc)
  k'.setMd 1 ((k'.mdw 1) ||| BitVec.ofNat 32 (sat.toNat + 2 * exc.toNat))

/-- The opcode for the next stage (R60). -/
def nextOpcode (seq : Nat) (l : Lookup) : Nat :=
  match bitsOf seq 31 30 with
  | 1 => if l.hit then bitsOf seq 21 14 else bitsOf seq 13 6
  | 2 =>
    if !l.hit then bitsOf seq 13 6
    else if l.lw0.toNat % 256 = 0 then bitsOf seq 29 22
    else l.lw0.toNat % 256
  | _ => bitsOf seq 29 22

/-- The pass controls of a word are in force (R60). -/
def controlsApply (seq : Nat) (l : Lookup) : Bool :=
  match bitsOf seq 2 1 with
  | 0 => true
  | 1 => l.hit
  | 2 => !l.hit
  | _ => false

/-- Set DROP, unless an earlier one stands (R61, R73). -/
def Route.dropped (r : Route) (reason : Nat) : Route := if r.drop then r else { r with drop := true, reason := reason }

/-- EMIT HOP applied to MD12 (R72); its bits 28 to 31, which stand for no header, read 0 (R134). -/
def applyHop (emit : Nat) (md12 : Word) : Word :=
  let h := BitVec.ofNat 32 (2 ^ bitsOf emit 31 27 % 2 ^ 28)
  match bitsOf emit 26 25 with
  | 1 => md12 ||| h
  | 2 => md12 &&& ~~~ h
  | _ => md12

/-- The EMIT controls that a word latches; `qual` says that its qualified ones apply (R60, R73). -/
def latchEmit (x : Latched) (emit : Nat) (qual : Bool) : Latched :=
  let tel := bitsOf emit 24 22
  let b (i : Nat) : Bool := decide (bitsOf emit i i = 1)
  { x with
    qset := x.qset || (qual && b 21), mirror := x.mirror || (qual && b 20), tocpu := x.tocpu || (qual && b 19)
    ioam := x.ioam || decide (tel = 1), nohist := x.nohist || decide (tel = 2), nodigest := x.nodigest || decide (tel = 3)
    csum4 := x.csum4 || b 18, csuml4 := x.csuml4 || b 17 }

/-- RECIRC takes effect: a second pass is requested, or refused in a second pass (R74, R75). -/
def State.takeRecircControl (s : State) (k : Packet) : State × Packet :=
  if k.route.drop then (s, k)
  else if k.route.recirculated then
    (s.latchFault (k.source 0x3F) .n k.detail, { k with route := k.route.dropped 0xFE })
  else (s, { k with route := { k.route with recircReq := true } })

/-- Word `idx` of the stage and generation of a packet (R57). -/
def State.wordOf (s : State) (k : Packet) (idx : Nat) : Nat :=
  s.store k.no (storeKey k.route.gen kindWord (passNo k.pass) k.stage idx)

/-- The lookup that word `idx` makes, with the key of its key map (R64 to R66). -/
def State.wordLookup (s : State) (k : Packet) (idx : Nat) : State × Lookup :=
  let g := k.route.gen
  let key := mwKey (s.wordOf k idx)
  let kmap := s.store k.no (storeKey g kindKeyMap (passNo k.pass) k.stage (bitsOf key 63 58))
  s.lookup k.span (bitsOf key 57 50) (bitsOf key 49 47) (bitsOf key 46 44) (k.keyBytes kmap) g
    ((k.mdw 3).toNat % 65536) ((k.mdw 2).toNat / 2 ^ 14 % 4)

/-- The dispatch entry of a packet's opcode in its stage (R55, R56). -/
def State.dispatchOf (s : State) (k : Packet) : Nat :=
  s.store k.no (storeKey k.route.gen kindDispatch (passNo k.pass) k.stage k.route.opcode)

/-- Execute a word (R58 to R73). -/
def State.runWord (s : State) (k : Packet) (idx : Nat) : State × Packet :=
  let g := k.route.gen
  let w := s.wordOf k idx
  let (s, l) := s.wordLookup k idx
  let k' := writeSlots k ((List.range 16).filterMap (fun n => s.slotResult k w n l))
  let seq := mwSeq w
  let emit := mwEmit w
  let next := nextOpcode seq l
  let qual := controlsApply seq l
  let on (i : Nat) : Bool := qual && decide (bitsOf seq i i = 1)
  let r := k'.route
  let r := if on 3 then r.dropped (bitsOf emit 16 9) else r
  let r := if on 4 && !on 5 then { r with ended := true } else r
  let barred := decide (0x40 ≤ idx) && decide (next < 0x80)
    && !s.callable (k.span * 10) g next
  let r := if barred then r.dropped 0xFB else r
  let r := { r with opcode := next, vctx := decide (idx < 0x40) }
  let k' := { k' with route := r, latched := latchEmit k'.latched emit qual }
  let k' := { k'.setMd 12 (applyHop emit (k'.mdw 12)) with hits := k'.hits ++ l.hitAt.toList }
  if on 5 && k.pass = .ingress then s.takeRecircControl k' else (s, k')

/-- Dispatch: the null word, BAD_OPCODE, or a word (R54 to R57). -/
def State.runStage (s : State) (k : Packet) : State × Packet :=
  if k.route.ended || k.route.drop || k.route.recircReq then (s, k)
  else
    let e := s.dispatchOf k
    if bitsOf e 15 15 = 0 then
      (s.latchFault (k.source k.stage) .n k.detail, { k with route := k.route.dropped 0xFD })
    else if bitsOf e 14 14 = 1 then (s, k)
    else s.runWord k (bitsOf e 6 0)

/-! ### Check failures (R79 to R81) -/

/-- Queue the replay of one packet: an ingress frame in the order of its pair, an egress copy ahead of the rest. -/
def State.queueReplay (s : State) (k : Packet) : State :=
  match k.desc with
  | none => s
  | some d =>
    let r : Replay := { desc := d, copy := k.copy, failedAt := some k.stage }
    match k.pass with
    | .ingress => s.setReplays k.group .ingress (insertBy (fun x => s.seqDistance x.desc) r (s.replaysOf k.group .ingress))
    | .egress => s.setReplays k.group .egress (r :: s.replaysOf k.group .egress)

/-- The counters and meters that the failing stage's own lookup has updated stay updated, where it was made before the
failure was found (R80, R82, assumption 92); the HIT bits that the pass has set are clear again. -/
def State.failedLookup (s : State) (k : Packet) : State :=
  let r := s.runStage k
  let s := if Config.lookupMade s.freeCount then { s with tables := r.1.tables }.clearHits r.2.hits else s.clearHits k.hits
  { s with freeCount := s.freeCount + 1 }

/-- A known-answer vector has failed (R255): it runs again in the next vector slot, and at its second failure the pipeline
is faulty. -/
def State.vectorFailed (s : State) (k : Packet) : State :=
  let s := s.count (cPipe k.no 9) 1
  let y := s.pipeOf k.no
  if y.katBad = some k.vector then (s.setPipe k.no { y with katBad := none }).latchFault (k.source 0x3E) .s k.detail
  else s.setPipe k.no { y with katBad := some k.vector }

/-- A check failure in a stage (R80, R81): the pass is discarded and the packet replayed, or, in a replay, the pipeline is
faulty. A vector has no buffer copy to be replayed from: it has failed (R254). -/
def State.checkFailure (s : State) (i : Nat) (k : Packet) : State :=
  let s := (((s.failedLookup k).count (cPipe k.no 12) 1).waste k).setPacket i none
  if k.route.kat then (s.count (cPipe k.no 8) 1).vectorFailed k
  else if k.failedAt.isSome then (s.queueReplay k).latchFault (k.source k.stage) .s k.detail
  else s.queueReplay k

/-- A replay that has passed, with every pass that it makes, is one corrected fault of the stage whose check had failed
(R24, R433); the packet is the one that a threshold fault of the stage names (R432). -/
def State.replayPassed (s : State) (k : Packet) : State :=
  match k.failedAt with
  | some st => (s.corrected (k.source st) 1).setCorrPacket (k.source st) k.detail
  | none => s

/-! ### The end of a pass (R62, R253, R289) -/

/-- A pass ended with DROP: counts by reason (R297). -/
def State.countDrop (s : State) (k : Packet) : State :=
  if k.route.drop then
    let s := s.count (cPipe k.no 13) 1
    if 0xFB ≤ k.route.reason && k.route.reason ≤ 0xFE then s.count (cPipe k.no (14 + (k.route.reason - 0xFB))) 1 else s
  else s

/-- A pass that was neither discarded nor that of a vector ends: slot category and passes (R300). -/
def State.countPass (s : State) (k : Packet) : State :=
  let s := s.count (cPipe k.no 5) 1
  s.count (cPipe k.no (if k.origin = .replay then 2 else 1)) 1

/-- The pipeline that shadows a packet. -/
def State.shadowOf (s : State) (k : Packet) : Nat := pipeNo k.span k.pass ((s.passOf k.span k.pass).free.getD 4)

/-- A known-answer vector leaves the last stage; its digest differs when `bad` (R254, R255). -/
def State.vectorEnd (s : State) (k : Packet) (bad : Bool) : State :=
  let s := ((s.count (cPipe k.no 8) 1).count (cPipe k.no 5) 1).count (cPipe k.no 2) 1
  if bad then s.vectorFailed k
  else
    let y := s.pipeOf k.no
    let s := (s.setPipe k.no { y with katBad := if y.katBad = some k.vector then none else y.katBad }).setClean k.no
    if k.shadowed then s.setClean (s.shadowOf k) else s

/-- The compare of a shadowed pass (R253): the free pipeline's pass is counted, and a failure starts the resolution of
R256, unless one is under way, and is what the answer says. -/
def State.shadowCompare (s : State) (i : Nat) (k : Packet) (bad : Bool) : State × Bool :=
  if !k.shadowed then (s, false)
  else
    let x := s.passOf k.span k.pass
    let f := s.shadowOf k
    let s := (s.count (cPipe f 10) 1).count (cPipe f 2) 1
    if bad then
      let s := s.count (cPipe k.no 11) 1
      (if x.resolving = 0 then s.setPass k.span k.pass { x with resolving := 1, disputed := some i } else s, true)
    else
      (if k.route.kat then s else (s.setClean k.no).setClean f, false)

/-- What the pass has requested of copies. -/
def Packet.passRequests (k : Packet) : List CopyReq :=
  if k.latched.mirror || k.latched.tocpu then
    [{ mirror := k.latched.mirror, cpu := k.latched.tocpu, md7 := k.mdw 7, drop := k.route.drop, reason := k.route.reason }]
  else []

/-- The pass updates the flow digest, unless it is excluded (R289). -/
def State.passDigest (s : State) (k : Packet) (port : Nat) : State :=
  if k.latched.nodigest then s
  else s.digestUpdate k.span port k.egress k.parsed ((k.mdw 3).toNat % 65536) (k.mdw 13)

/-- The result of an ingress pass reaches the order keeper (R245). -/
def State.holdResult (s : State) (pair : Nat) (r : Result) : State :=
  let o := s.order pair
  let s := s.setOrder pair { o with held := o.held ++ [(r.seq, .result r)] }
  s.setReorderUse (portGroup r.port) (s.reorderUse (portGroup r.port) + 1)

/-- The compare of an earlier packet of the pipeline has failed and is being resolved (R256). -/
def State.resolvingFor (s : State) (k : Packet) : Bool :=
  let x := s.passOf k.span k.pass
  x.resolving ≠ 0 && k.pipe = x.serving

/-- An ingress pass ends (R62, R74): it recirculates, or its decision goes to the order keeper. -/
def State.ingressEnd (s : State) (i d : Nat) (k : Packet) : State :=
  if k.route.recircReq && !k.route.drop then
    let k' := { k with
      route := { k.route with recirculated := true, recircReq := false, ended := false }
      requests := k.requests ++ k.passRequests, stage := passStages .ingress }
    let s := (s.countPass k).setPacket i (some k')
    s.setRecircQueue k.group (s.recircQueue k.group ++ [i])
  else
    let md6 := k.mdw 6
    let named := k.latched.qset && (getBits md6 14 14 = 1 || getBits md6 15 15 = 1)
    let route := if !k.route.drop && !named then k.route.dropped 0xFC else k.route
    let k := { k with route := route }
    let x := s.info d
    let port := (k.mdw 2).toNat % 1024
    let s := (((s.countPass k).replayPassed k).countDrop k).passDigest k port
    let s := (s.setPacket i none).setInfo d { x with ingressDone := true }
    let s := s.holdResult x.pair {
      port := port, tc := x.tc, seq := (s.desc d).seq, desc := d, pipe := k.pipe, drop := route.drop,
      reason := route.reason, md6 := md6, md7 := k.mdw 7, bridge := [k.mdw 8, k.mdw 9, k.mdw 10, k.mdw 11],
      egOp := route.opcode, requests := k.requests ++ k.passRequests, after := s.resolvingFor k }
    if x.ring.isSome then s.releaseRing x.pair else s

/-- The port of a queue no longer has this copy in hand. -/
def State.endTx (s : State) (q : Nat) (e : QEntry) : State :=
  match s.tx (q / 16) with
  | some t => if t.queue = q && t.entry = e then s.setTx (q / 16) none else s
  | none => s

/-- A copy that its egress pass drops is disposed of (R239); one that was being sent again is kept for link retry no more
(R225). -/
def State.dropByPass (s : State) (d : Nat) (c : Nat × QEntry) (h : Holder) : State :=
  let s := if holderKind h = 2 then s.dropRetry (c.1 / 16) d c.2.idx else (s.endTx c.1 c.2).freeEntry c.2
  (s.outcome d 4).release d h

/-- An egress pass ends (R62): its copies are made, and the copy is dropped or goes to the deparser. An operation that a
check stops has ended the copy already (R179). -/
def State.egressEnd (s : State) (i d : Nat) (c : Nat × QEntry) (k : Packet) : State :=
  let q := c.1
  let h := (s.copyReader c).1
  let s := ((((s.countPass k).replayPassed k).countDrop k).passDigest k (q / 16)).setPacket i none
  let (s, hs) := k.passRequests.foldl (fun (acc : State × List Holder) rq =>
    let (s, hs) := acc.1.passCopies d rq (k.mdw 13) true (some (q / 16))
    (s, acc.2 ++ hs)) (s, [])
  let y := if hs.isEmpty then (s, true) else s.holderOp d h (h :: hs)
  let s := y.1
  if !y.2 then s
  else if k.route.drop then s.dropByPass d c h
  else
    match s.tx (q / 16) with
    | some t => if t.queue = q && t.entry = c.2 then s.setTx (q / 16) (some { t with ready := some k }) else s
    | none => s

/-- The class of an uncorrectable row of a table unit: N, and S in a counter or meter table (R160, R441). -/
def State.rowClass (s : State) (span u : Nat) : FaultClass :=
  if (List.range 240).any (fun t =>
      let g := s.geometry span t
      g.en && (g.kind = 5 || g.kind = 6) && decide (g.sramFirst ≤ u) && decide (u < g.sramFirst + g.sramCount)) then .s
  else .n

/-- What a stage reports beside its own failure: single-bit store errors on fetch, a row that the lookup has corrected, and
one that it could not correct, which is a check failure of the lookup as well (R24, R160, R297, R441). -/
def State.stageCorrections (s : State) (k : Packet) (ev : StageEvent) : State :=
  let s := if ev.corrected = 0 then s
    else ((s.count (cPipe k.no 19) ev.corrected).corrected (k.source k.stage) ev.corrected).setCorrPacket
      (k.source k.stage) k.detail
  let s := match ev.rowFixed with
    | some u => (s.count (cSpan k.span 13) 1).corrected (unitSource k.span u.val) 1
    | none => s
  match ev.rowBad with
  | some u => s.latchFault (unitSource k.span u.val) (s.rowClass k.span u.val)
  | none => s

/-- The table units that the packet's word looks up in its stage (R64, R147): SRAM units, and ternary units from 96. -/
def State.lookupUnits (s : State) (k : Packet) : List (Fin 128) :=
  let e := s.dispatchOf k
  if k.route.ended || k.route.drop || k.route.recircReq || bitsOf e 15 14 ≠ 2 then []
  else
    let key := mwKey (s.wordOf k (bitsOf e 6 0))
    let g := s.geometry k.span (bitsOf key 57 50)
    if 240 ≤ bitsOf key 57 50 ∨ !g.en ∨ g.kind ≠ bitsOf key 49 47 then []
    else
      (List.range g.sramCount).map (fun i => Fin.ofNat 128 (g.sramFirst + i))
        ++ (List.range g.tcamCount).map (fun i => Fin.ofNat 128 (96 + g.tcamFirst + i))

/-- What a firing at the stage that a packet is in, or at a table unit that its word looks up, makes of the stage's checks
(R526): FLIP1 is one store error corrected on fetch or one row corrected, FLIP2 and CHECK a check failure. -/
def State.stageFiring (s : State) (k : Packet) (ev : StageEvent) : State × StageEvent :=
  match s.injects (k.source k.stage) with
  | some 0 => (s, { ev with corrected := ev.corrected + 1 })
  | some _ => (s.meetCheck, { ev with checkFails := true })
  | none =>
    if s.fc.injNext.isNone then (s, ev)
    else
      match (s.lookupUnits k).find? (fun u => (s.injects (unitSource k.span u.val)).isSome) with
      | none => (s, ev)
      | some u =>
        if s.injects (unitSource k.span u.val) = some 0 then (s, { ev with rowFixed := some u })
        else (s.meetCheck, { ev with rowBad := some u })

/-- The stage finds a check failure (R79), its own or that of a lookup whose row cannot be corrected (R441). -/
def stageFails (ev : StageEvent) : Bool := ev.checkFails || ev.rowBad.isSome

/-- What a firing at the shadow compare and vectors of the packet's pipeline, or of the one that shadows it, makes of its
compare and of its digest (R526). The fault that follows names the serving pipeline. -/
def State.compareFiring (s : State) (k : Packet) (ev : StageEvent) : State × StageEvent :=
  let free := srcSpan k.span (pipeBlock k.pass ((s.passOf k.span k.pass).free.getD 4)) 0x3E
  let own := (s.injects (k.source 0x3E)).isSome
  if (k.shadowed || k.route.kat) && (own || (k.shadowed && (s.injects free).isSome)) then
    let s := { s with fc := { s.fc with injNext := some (k.source 0x3E), injKind := 5 } }
    (s, if k.shadowed then { ev with mismatch := true } else { ev with digestBad := true })
  else (s, ev)

/-- The pass of a copy ends while an earlier packet of its pipeline is disputed: the copy waits, and runs its pass again
(R256). -/
def State.copyHeld (s : State) (k : Packet) : Bool := k.pass = .egress && !k.route.kat && s.resolvingFor k

/-- The last stage of a pass has run: its compare, and what follows from the pass (R253, R254). -/
def State.passEnd (s : State) (i : Nat) (k : Packet) (ev : StageEvent) : State :=
  let y := s.shadowCompare i k ev.mismatch
  if y.2 || y.1.copyHeld k then (y.1.count (cPipe k.no 2) 1).setPacket i (some { k with stage := passStages k.pass })
  else if k.route.kat then (y.1.setPacket i none).vectorEnd k ev.digestBad
  else
    match k.desc, k.copy with
    | some d, none => y.1.ingressEnd i d k
    | some d, some c => y.1.egressEnd i d c k
    | none, _ => y.1.setPacket i none

/-- STAGE_EXECUTE (R52): one stage of one packet, and the end of its pass after the last. -/
def State.stageExecute (s : State) (i : Nat) (k : Packet) (ev : StageEvent) : State :=
  let x := s.stageFiring k ev
  let s := x.1.stageCorrections k x.2
  if stageFails x.2 then s.checkFailure i k
  else
    let r := s.runStage k
    if r.2.stage + 1 < passStages k.pass then r.1.setPacket i (some { r.2 with stage := r.2.stage + 1 })
    else
      let y := r.1.compareFiring r.2 x.2
      y.1.passEnd i r.2 y.2

def execStageExecute (packet : Nat) (ev : StageEvent) (s : State) : Host.Outcome State Fault Refusal :=
  match s.packet packet with
  | none => .next s
  | some k => if k.stage < passStages k.pass then .next (s.stageExecute packet k ev) else .next s

end Sys2Proof.Machine
end

