-- ==== Sys2Proof/Machine/Deparse.lean ====
section
/-! DEFINITION. The deparser and what the egress MAC writes into a copy: headers from their containers, checksums, IOAM
node data and the deck header (R135, R72, R223, R284, R285). -/

namespace Sys2Proof.Machine

/-! ### Headers -/

/-- The first container of a header and the most bytes that its containers hold (R134). -/
def headerPlace (h : Nat) : Nat × Nat :=
  match h with
  | 1 => (3, 4) | 2 => (4, 4) | 3 => (36, 16) | 4 => (90, 28) | 5 => (97, 32) | 6 => (105, 20) | 7 => (8, 20)
  | 8 => (26, 40) | 9 => (16, 40) | 10 => (40, 16) | 11 => (44, 16) | 12 => (51, 8) | 13 => (53, 8) | 14 => (55, 20)
  | 15 => (60, 16) | 16 => (64, 8) | 17 => (66, 8) | 18 => (68, 32) | 19 => (76, 12) | 20 => (79, 44) | 23 => (112, 14)
  | 24 => (116, 20) | 25 => (121, 40) | 26 => (131, 8) | 27 => (133, 20) | _ => (0, 0)

/-- The first `n` bytes of the containers from `c` on, in wire order (R44). -/
def containerBytes (hv : Tbl Word) (c n : Nat) : List Byte :=
  ((List.range ((n + 3) / 4)).flatMap (fun i => beBytes 4 (Tbl.get zeroWord hv (c + i)).toNat)).take n

/-- Where a header of the stored frame starts. -/
def Parsed.at? (p : Parsed) (h : Nat) : Option Nat := (p.offsets.find? (fun e => e.1 = h)).map (fun e => e.2)

/-- The labels of a stack that lie in the window, at most four, up to the bottom one (R133). -/
def labelCount (data : List Byte) (i : Nat) : Nat → Nat
  | 0 => 0
  | fuel + 1 =>
    if i + 4 ≤ min 256 data.length then
      if (data.getD (i + 2) 0).toNat % 2 = 1 then 1 else 1 + labelCount data (i + 4) fuel
    else 0

/-- The whole length of a header of the stored frame, as R132 measures it. -/
def headerLength (p : Parsed) (data : List Byte) (h i : Nat) : Nat :=
  let b (k : Nat) : Nat := (data.getD k 0).toNat
  let w16 (k : Nat) : Nat := b k * 256 + b (k + 1)
  let ihl (k : Nat) : Nat :=
    max 20 (b k % 16 * 4)
  let ext (kind : Nat) : Nat := if kind = 44 then 8 else (b (i + 1) + 1) * 8
  match h with
  | 3 => 4 * labelCount data i 4
  | 8 => ihl (i - 20) - 20
  | 10 => ext (b ((p.at? 9).getD 0 + 6))
  | 11 => ext (b ((p.at? 10).getD 0))
  | 15 => 4 + 4 * (b i / 128 % 2 + b i / 32 % 2 + b i / 16 % 2)
  | 18 => b (i - 8) % 64 * 4
  | 23 => if w16 (i + 12) = 0x8100 ∨ w16 (i + 12) = 0x88A8 then 18 else 14
  | 24 => ihl i
  | _ => (headerPlace h).2

/-- GRE as its base word has it (R135). -/
def greBytes (hv : Tbl Word) : List Byte :=
  let w := Tbl.get zeroWord hv 60
  let opt (bit c : Nat) : List Byte := if w.getLsbD bit then containerBytes hv c 4 else []
  containerBytes hv 60 4 ++ opt 31 61 ++ opt 29 62 ++ opt 28 63

/-- The length of a header that the frame did not carry (R135). -/
def insertLength (hv : Tbl Word) (h : Nat) : Nat :=
  let c (k : Nat) : Nat := (Tbl.get zeroWord hv k).toNat
  match h with
  | 8 => c 8 / 2 ^ 24 % 16 * 4 - 20
  | 10 => (c 40 / 2 ^ 16 % 256 + 1) * 8
  | 11 => (c 44 / 2 ^ 16 % 256 + 1) * 8
  | 18 => c 66 / 2 ^ 24 % 64 * 4
  | _ => (headerPlace h).2

/-- Overwrite bytes of a list from a place on. -/
def patch (l : List Byte) (i : Nat) (bs : List Byte) : List Byte :=
  if l.length < i + bs.length then l else l.take i ++ bs ++ l.drop (i + bs.length)

/-- The bytes that one present header is emitted as (R135). -/
def headerBytes (p : Parsed) (data : List Byte) (hv : Tbl Word) (h : Nat) : List Byte :=
  let (c, cap) := headerPlace h
  if h = 15 then greBytes hv
  else
    match p.at? h with
    | none =>
      let n := insertLength hv h
      let x := containerBytes hv c (min n cap)
      x ++ List.replicate (n - x.length) 0
    | some i =>
      let n := headerLength p data h i
      let k := min n cap
      let x := containerBytes hv c k ++ sliceBytes data (i + k) (n - k)
      match h, p.at? 21 with
      | 10, some j => patch x (j - i) (containerBytes hv 48 12)
      | _, _ => x

/-- What the deparser has made: the bytes, and where each header starts in them. -/
structure Deparsed where
  out : List Byte := []
  at' : List (Nat × Nat) := []

def Deparsed.find (x : Deparsed) (h : Nat) : Option Nat := (x.at'.find? (fun e => e.1 = h)).map (fun e => e.2)

/-- Where the payload of the stored frame starts: the end of its last header. -/
def payloadStart (p : Parsed) (data : List Byte) : Nat :=
  let eth := if (p.at? 0).isSome then 14 + 4 * (p.offsets.filter (fun e => e.1 = 1 || e.1 = 2)).length else 0
  p.offsets.foldl (fun m e =>
    if e.1 = 0 ∨ e.1 = 1 ∨ e.1 = 2 ∨ e.1 = 21 ∨ e.1 = 22 then m else max m (e.2 + headerLength p data e.1 e.2)) eth

/-- The headers and the payload, in wire order (R135). `md12` says which headers are present. -/
def deparseHeaders (p : Parsed) (data : List Byte) (hv : Tbl Word) (md12 : Word) : Deparsed :=
  let eth : Deparsed := if md12.getLsbD 0 then { out := containerBytes hv 0 12, at' := [(0, 0)] } else {}
  let add (x : Deparsed) (h : Nat) : Deparsed :=
    if md12.getLsbD h then { out := x.out ++ headerBytes p data hv h, at' := x.at' ++ [(h, x.out.length)] } else x
  let x := [1, 2].foldl add eth
  let x := if md12.getLsbD 0 then { x with out := x.out ++ containerBytes hv 5 2 } else x
  let x := ([3, 4, 5, 6, 7, 8, 9, 10, 11, 12, 13, 14, 15, 16, 17, 18, 19, 20, 23, 24, 25, 26, 27]).foldl add x
  { x with out := x.out ++ data.drop (payloadStart p data) }

/-! ### Checksums (R72) -/

def be16 (l : List Byte) (i : Nat) : Nat := beNat (sliceBytes l i 2)

/-- The ones'-complement sum of 16-bit words. -/
def onesWords (ws : List Nat) : Nat :=
  let s := ws.foldl (fun a b => a + b) 0
  let s := s / 65536 + s % 65536
  s / 65536 + s % 65536

/-- CSUM4: the checksum of the IPv4 header at `i`. -/
def fixIpv4 (l : List Byte) (i : Nat) : List Byte :=
  let n := max 20 ((l.getD i 0).toNat % 16 * 4)
  let z := patch l (i + 10) [0, 0]
  patch z (i + 10) (beBytes 2 (0xFFFF - onesSum (sliceBytes z i n)))

/-- The last next header of the IPv6 header and the extension headers that precede the layer-4 header at `l4`: `nh` is
the next header so far, and `i` where it starts. -/
def lastNext (l : List Byte) (l4 : Nat) : Nat → Nat → Nat → Nat
  | 0, nh, _ => nh
  | fuel + 1, nh, i =>
    if l4 ≤ i then nh
    else
      let b (k : Nat) : Nat := (l.getD k 0).toNat
      lastNext l l4 fuel (b i) (i + if nh = 44 then 8 else (b (i + 1) + 1) * 8)

/-- The words that the outer TCP or UDP checksum covers outside the payload: the pseudo-header, and the header's own
words other than the checksum. -/
def coveredWords (l : List Byte) (ip4 : Option Nat) (ip6 l4 : Nat) (udp : Bool) : List Nat :=
  let words (i n : Nat) : List Nat := (List.range (n / 2)).map (fun k => be16 l (i + 2 * k))
  let pseudo := match ip4 with
    | some o => words (o + 12) 8 ++ [(l.getD (o + 9) 0).toNat, o + be16 l (o + 2) - l4]
    | none => words (ip6 + 8) 32
        ++ [lastNext l l4 2 (l.getD (ip6 + 6) 0).toNat (ip6 + 40), ip6 + 40 + be16 l (ip6 + 4) - l4]
  let own := if udp then [0, 2, 4] else [0, 2, 4, 6, 8, 10, 12, 14, 18]
  pseudo ++ own.map (fun k => be16 l (l4 + k))

/-- CSUML4: the incremental update of the outer TCP or UDP checksum (R72), when the header and an outer IP header are
present before and after the pass, of one version or of both. An updated UDP checksum of 0 is written as 0xFFFF, since 0
would say that there is none: PRESUMED (assumption 132). -/
def fixL4 (p : Parsed) (data : List Byte) (x : Deparsed) : List Byte :=
  let udp := (p.at? 13).isSome && (x.find 13).isSome
  let h := if udp then 13 else 14
  match p.at? h, x.find h with
  | some o, some n =>
    let old4 := p.at? 7
    let new4 := x.find 7
    if (old4.or (p.at? 9)).isNone || (new4.or (x.find 9)).isNone then x.out
    else
      let c := n + if udp then 6 else 16
      let hc := be16 x.out c
      if udp && old4.isSome && hc = 0 then x.out
      else
        let m := coveredWords data old4 ((p.at? 9).getD 0) o udp
        let m' := coveredWords x.out new4 ((x.find 9).getD 0) n udp
        let v := 0xFFFF - onesWords ([0xFFFF - hc] ++ m.map (fun w => 0xFFFF - w % 65536) ++ m'.map (fun w => w % 65536))
        patch x.out c (beBytes 2 (if udp && v = 0 then 0xFFFF else v))
  | _, _ => x.out

/-- Deparse a packet over the stored frame without its FCS; the answer says where the IOAM option lies, when the copy
carries one. -/
def Packet.deparse (k : Packet) (data : List Byte) : List Byte × Option Nat :=
  let x := deparseHeaders k.parsed data k.hv (k.mdw 12)
  let out := if k.latched.csum4 then
      (match x.find 7 with
      | some i => fixIpv4 x.out i
      | none => x.out)
    else x.out
  let out := if k.latched.csuml4 then fixL4 k.parsed data { x with out := out } else out
  let ioam := match x.find 10, k.parsed.at? 21, k.parsed.at? 10 with
    | some e, some j, some i => some (e + (j - i))
    | _, _, _ => none
  (out, ioam)

/-! ### IOAM (R284, R285) -/

/-- 4-byte units of a node data field (RFC 9197). -/
def ioamWords (bit : Nat) : Nat := if bit = 8 ∨ bit = 9 ∨ bit = 10 then 2 else 1

/-- What the values written depend on beside the frame. -/
structure IoamNode where
  hop     : Nat
  node    : Nat
  nodeW   : Nat
  inPort  : Nat
  outPort : Nat
  sec     : Nat
  tsOut   : Word
  latency : Word
  depth   : Nat
  used    : Nat

/-- The value of one field, in network byte order. -/
def IoamNode.field (x : IoamNode) (bit : Nat) : List Byte :=
  match bit with
  | 0 => beBytes 1 x.hop ++ beBytes 3 x.node
  | 1 => beBytes 2 x.inPort ++ beBytes 2 x.outPort
  | 2 => beBytes 4 x.sec
  | 3 => beBytes 4 x.tsOut.toNat
  | 4 => beBytes 4 x.latency.toNat
  | 6 => beBytes 4 x.depth
  | 8 => beBytes 1 x.hop ++ beBytes 7 x.nodeW
  | 9 => beBytes 4 x.inPort ++ beBytes 4 x.outPort
  | 11 => beBytes 4 x.used
  | _ => List.replicate (4 * ioamWords bit) 0xFF

/-- The trace-type bits set, bit 0 being the first on the wire. -/
def traceBits (t : Nat) : List Nat := (List.range 24).filter (fun k => t.testBit (23 - k))

/-- The conditions of R284 on the option at `i`, apart from the EMIT control. -/
def ioamAllowed (l : List Byte) (i : Nat) (namespaces : List Nat) : Bool :=
  let w := be16 l (i + 6)
  let bits := traceBits (beNat (sliceBytes l (i + 8) 3))
  decide ((l.getD (i + 3) 0).toNat = 0) && namespaces.contains (be16 l (i + 4))
    && decide (w / 2 ^ 11 = bits.foldl (fun n k => n + ioamWords k) 0)
    && bits.all (fun k => decide (k < 12))

/-- The outcome of a stamping: the bytes, and PORT event 25 updated, 26 overflow or 27 skipped. -/
def ioamStamp (l : List Byte) (i : Nat) (namespaces : List Nat) (x : IoamNode) : List Byte × Nat :=
  if !ioamAllowed l i namespaces then (l, 27)
  else
    let w := be16 l (i + 6)
    let need := w / 2 ^ 11
    let left := w % 128
    if left < need then (patch l (i + 6) (beBytes 2 (if w / 1024 % 2 = 1 then w else w + 1024)), 26)
    else
      let bits := traceBits (beNat (sliceBytes l (i + 8) 3))
      let l := patch l (i + 12 + (left - need) * 4) (bits.flatMap x.field)
      (patch l (i + 6) (beBytes 2 (w - need)), 25)

/-- The enabled namespaces (R303). -/
def State.ioamNamespaces (s : State) : List Nat :=
  (List.range 4).filterMap (fun k => if s.bit (0x2500020 + k * 4) 16 then some (s.fld (0x2500020 + k * 4) 15 0) else none)

/-- What this device writes for a copy (R285): the fixed fields from the staging containers as the pass has left them, the
hop limit as transmitted, and what the MAC has taken as the copy passed. -/
def ioamNode (k : Packet) (t : TxCopy) : IoamNode :=
  let hv (c : Nat) : Nat := (k.container c).toNat
  { hop := hv 17 % 256, node := hv 224 % 2 ^ 24, nodeW := hv 226 % 2 ^ 24 * 2 ^ 32 + hv 227
    inPort := hv 228, outPort := hv 229, sec := secOf t.stamp.b0 % 2 ^ 32
    tsOut := t.tsOut, latency := t.tsOut - k.mdw 5, depth := t.depth, used := t.cellsUsed }

/-- The bytes of a copy as its MAC sends them, without a deck header, and the PORT event of the IOAM option that it
carries (R284). -/
def State.copyBytes (s : State) (k : Packet) (t : TxCopy) : List Byte × Option Nat :=
  let d := t.entry.desc
  let stored := s.frameBytes d
  let data := if (s.info d).ended then stored.take (stored.length - 4) else stored
  let (out, ioam) := k.deparse data
  let (out, ev) : List Byte × Option Nat := match ioam with
    | some i =>
      if k.latched.ioam && (k.mdw 12).getLsbD 21 then
        let r := ioamStamp out i s.ioamNamespaces (ioamNode k t)
        (r.1, some r.2)
      else (out, some 27)
    | none => (out, none)
  (out ++ ethFcs out, ev)

end Sys2Proof.Machine
end

