-- ==== Sys2Proof/Machine/Ptp.lean ====
section
/-! DEFINITION. The PTP service of the keystones: its instances, the exchanges of their slave ports, and what it answers on
master ports (R308, R418). -/

namespace Sys2Proof.Machine

def ptpDefault : Nat → PtpInstance := fun _ => {}
/-- The instance of a time base. -/
def State.ptpOf (s : State) (base : Nat) : PtpInstance := Tbl.get ptpDefault s.ks.ptp base
def State.setPtp (s : State) (base : Nat) (x : PtpInstance) : State :=
  { s with ks := { s.ks with ptp := Tbl.put ptpDefault s.ks.ptp base x } }

/-- The state that the host has assigned to a port of an instance: 0 none, 1 slave, 2 master (R418). -/
def PtpInstance.role (x : PtpInstance) (port : Nat) : Nat := Tbl.get (fun _ => 0) x.ports port

/-- The instance of a base runs: it is configured, the base takes its samples from the keystone, and the pair of the service
is up (R311, R405, R418). -/
def State.ptpRuns (s : State) (base : Nat) : Bool := (s.ptpOf base).on && s.tbSource base = 1 && s.groupUp 0

/-! ### Messages (IEEE 1588-2019, assumption 50) -/

/-- What the service reads of a PTP message: its type, domain and sequence, whether a Follow_Up comes after it, its
correction, and its timestamp, both in 2^−16 ns. -/
structure PtpMessage where
  type    : Nat
  domain  : Nat
  seq     : Nat
  twoStep : Bool
  corr    : Int
  time    : Int
deriving DecidableEq, Repr

/-- A message as the parser has placed it: 44 bytes in HV79 to HV89 (R134). -/
def ptpMessage (hv : Tbl Word) : PtpMessage :=
  let w (k : Nat) : Word := Tbl.get (fun _ => (0 : Word)) hv (79 + k)
  let sec := getBits (w 8) 15 0 * 2 ^ 32 + (w 9).toNat
  { type := getBits (w 0) 27 24, domain := getBits (w 1) 31 24, seq := getBits (w 7) 15 0,
    twoStep := getBits (w 1) 9 9 = 1, corr := signedBits ((w 2).toNat * 2 ^ 32 + (w 3).toNat) 64,
    time := (sec * 1000000000 + (w 10).toNat : Nat) * 65536 }

/-- A captured value of a base in 2^−16 ns. -/
def ptpTime (v : Nat) : Int := (v / 2 ^ 32 : Nat)

/-- The capture of one base. -/
def Stamp.at (x : Stamp) (base : Nat) : Nat :=
  if base = 0 then x.b0 else if base = 1 then x.b1 else if base = 2 then x.b2 else x.b3

/-! ### The slave port -/

/-- The times of a Sync are known: the master's sending time and the device's receiving time, with the corrections taken
out; once a path delay is known, offsetFromMaster goes to the base (R311, R418). -/
def State.ptpSync (s : State) (base : Nat) (t1 t2 : Int) : State :=
  let x := s.ptpOf base
  let s := s.setPtp base { x with waiting := none, sync := some (t1, t2) }
  match x.delay with
  | some d => s.submitSample base (t2 - t1 - d)
  | none => s

/-- A message at the slave port of an instance: Sync of a one-step or a two-step master, Follow_Up, and Delay_Resp, which
gives the mean path delay of the delay request-response mechanism. -/
def State.ptpSlave (s : State) (base : Nat) (m : PtpMessage) (now : Int) : State :=
  let x := s.ptpOf base
  if m.type = 0 then
    if m.twoStep then s.setPtp base { x with waiting := some (m.seq, now - m.corr) } else s.ptpSync base m.time (now - m.corr)
  else if m.type = 8 then
    match x.waiting with
    | some (q, t2) => if q = m.seq then s.ptpSync base (m.time + m.corr) t2 else s
    | none => s
  else if m.type = 9 then
    match x.request, x.sync with
    | some (q, t3), some (t1, t2) =>
      if q = m.seq then
        s.setPtp base { x with request := none, delay := some (((t2 - t3) + (m.time - m.corr - t1)) / 2) }
      else s
    | _, _ => s
  else s

/-! ### Messages received and sent -/

/-- The service receives a message at a port: each instance of its domain takes it by the port's state; a Delay_Req at a
master port is answered with the time of its receipt. -/
def State.ptpReceive (s : State) (p : Nat) (m : PtpMessage) (x : Stamp) : State :=
  (List.range 4).foldl (fun s b =>
    if !s.ptpRuns b || (s.ptpOf b).domain ≠ m.domain then s
    else if (s.ptpOf b).role p = 1 then s.ptpSlave b m (ptpTime (x.at b))
    else if (s.ptpOf b).role p = 2 && m.type = 1 then s.emit (.ptp p 9 m.seq (ptpTime (x.at b) + m.corr))
    else s) s

/-- A message of the service has left a port: a Delay_Req of a slave port starts an exchange, and the Sync of a master port
is followed up with its time, as Sync is sent two-step (R418). -/
def State.ptpSent (s : State) (p : Nat) (m : PtpMessage) (x : Stamp) : State :=
  (List.range 4).foldl (fun s b =>
    if !s.ptpRuns b || (s.ptpOf b).domain ≠ m.domain then s
    else if (s.ptpOf b).role p = 1 && m.type = 1 then
      s.setPtp b { (s.ptpOf b) with request := some (m.seq, ptpTime (x.at b)) }
    else if (s.ptpOf b).role p = 2 && m.type = 0 then s.emit (.ptp p 8 m.seq (ptpTime (x.at b)))
    else s) s

/-- A PTP message has been parsed at a port, or has passed its MAC on the way out: an event message has its capture taken,
and the service sees the message (R308, R418). -/
def State.ptpSeen (s : State) (p : Nat) (sent : Bool) (flags : Word) (hv : Tbl Word) (x : Stamp) : State :=
  let event := flags.getLsbD 11
  let y := s.ptpCompensated p sent x
  let t := if event then (s.ptpCapture p sent y) else s
  if !event && !flags.getLsbD 12 then s
  else if sent then t.ptpSent p (ptpMessage hv) y
  else t.ptpReceive p (ptpMessage hv) y

end Sys2Proof.Machine
end

