-- ==== Sys2Proof/Machine/Ingress.lean ====
section
/-! DEFINITION. A frame from its start-of-frame delimiter to its acceptance or its discard (R21, R28 to R36, R108, R131,
R139 to R144, R164, R175, R181, R186, R188, R243, R244). -/

namespace Sys2Proof.Machine

/-! ### Discarding a frame -/

def noRx : Nat → Option RxFrame := fun _ => none
def State.rxFrame (s : State) (p : Nat) : Option RxFrame := Tbl.get noRx s.rx.frames p
def State.setRx (s : State) (p : Nat) (x : Option RxFrame) : State :=
  { s with rx := { s.rx with frames := Tbl.put noRx s.rx.frames p x } }

/-- The source of a fault that names a port: its lane in its MAC group (R427). -/
def macSource (p : Nat) : Nat := srcSpan (p / 64) (0x13 + p / 16 % 4) (p % 16)

/-- The copies of a cut-through frame that wait in virtual output queues are not made (R36, R190). -/
def State.endVoq (s : State) (d : Nat) : State :=
  s.cmp.voq.foldl (fun s e =>
    let x := s.voq e.1
    let mine := x.frames.filter (fun f => f.2.desc = d)
    let s := s.setVoq e.1 { x with frames := x.frames.filter (fun f => f.2.desc ≠ d) }
    mine.foldl (fun s f => s.release d (holderQueue f.1 f.2.idx)) s) s

/-- End the copies of a cut-through frame that turned out bad: a transmission that has begun ends with an inverted FCS,
the others are not made (R36). -/
def State.endCopies (s : State) (d : Nat) : State :=
  let (s, gone) := s.unqueueFrame d
  let s := gone.foldl (fun s e => s.release d (holderQueue e.1 e.2.idx)) s
  let s := s.busyPorts.foldl (fun s p =>
    match s.tx p with
    | some t =>
      if t.entry.desc = d then
        (((s.stomp p t).setTx p none).freeEntry t.entry).release d (holderQueue t.queue t.entry.idx)
      else s
    | none => s) (s.dropEgressOf d)
  s.endVoq d

/-- Discard a frame before acceptance: its result, its sequence and its cells go (R30, R164, R188). -/
def State.discardFrame (s : State) (d : Nat) : State :=
  let x := s.info d
  let s := (s.voidSeq d).forgetIngress d
  let s := s.setInfo d { x with ended := true, voided := true }
  if x.released then s.endCopies d else s.release d x.arrivalHolder

/-! ### Acceptance -/

/-- The length of a frame has become known: the virtual output queues that it waits in take it, and so do the counters
of the queues that copies of it have been placed in and selected from (R191, R297). -/
def State.lengthKnown (s : State) (d n : Nat) : State :=
  let s := s.setDesc d { (s.desc d) with len := n }
  let x := s.info d
  let s := x.placed.foldl (fun s q => s.count (cQueue q 1) n) s
  let s := x.taken.foldl (fun s q => s.count (cQueue q 3) n) s
  (s.setInfo d { x with placed := [], taken := [] }).voqLength d

/-- The arrival of a frame with a descriptor ends without it, with a length that copies of it may still show (R30, R164,
R293, R443): a frame that is stopped, or quarantined, has been dealt with already, and a stopped one returns its descriptor
(R168). -/
def State.dropArrival (s : State) (d n : Nat) : State :=
  let s := s.lengthKnown d n
  let x := s.info d
  if x.stopped then (s.setInfo d { x with ended := true }).freeDescriptor d
  else if (s.desc d).quar then s.setInfo d { x with ended := true }
  else s.discardFrame d

/-- A lossless frame whose cells are written, whose FCS is good and whose sequence is known is accepted (R29, R243); not in
the safe state, and not when its lease has been revoked (R444, R451). -/
def State.accept (s : State) (d : Nat) : State :=
  let x := s.info d
  let y := s.desc d
  if y.lossless && !y.accepted && x.ended && x.good && x.classified && x.ring.isNone && !x.revoked
      && s.chip.mode ≠ .safe then
    let s := s.setLedger d { seq := y.seq, port := x.port, cls := x.tc, device := s.deviceId, state := .accepted }
    let s := s.setDesc d { y with accepted := true }
    s.count (cPcl x.pair 2) 1
  else s

/-! ### FRAME_START -/

/-- The default class of a port (R144). -/
def State.portCfg (s : State) (p : Nat) : Word := s.reg (0x100B000 + p / 64 * 0x100000 + p % 64 * 4)

/-- Why the frame is discarded at its start, as a PORT counter event (R32, R262, R443); none: it is taken. R32 tells lossy
from lossless arrivals before any frame is classified, and does not say how: DESIGN CHOICE, by the port's default class
(assumption 101). -/
def State.startDiscard (s : State) (p : Nat) : Option Nat :=
  let g := portGroup p
  let n := (s.arrivals g).length
  let lossless := s.lossless (getBits (s.portCfg p) 9 6)
  if s.inHold g || s.chip.mode = .safe then some 7
  else if 16384 ≤ n && lossless then some 5
  else if 8192 ≤ n && !lossless then some 4
  else none

/-- An arrival is discarded before any of its cells is written, and counted under `e`; the first of a group's overload at
16,384 frames raises a class-S fault that names the port (R32). The fault is armed again once the queue is shorter than
16,384 frames, DESIGN CHOICE (assumption 129). -/
def State.discardStart (s : State) (p : Nat) (f : RxFrame) (e : Nat) : State :=
  let g := portGroup p
  let src := srcSpan (p / 64) 0x18 (g % 4)
  let s := (s.setRx p (some { f with discard := true })).count (cPort p e) 1
  if e = 5 && !s.rx.overload.contains g then
    (({ s with rx := { s.rx with overload := addOnce s.rx.overload g } }).latchFault src .s).nameFault src [p]
  else s

/-- FRAME_START (R108): the frame takes the active generation and its arrival time, or is discarded. -/
def execFrameStart (port : Port) (deck : DWord) (s : State) : Host.Outcome State Fault Refusal :=
  let p := port.val
  if !s.available p || (s.rxFrame p).isSome then .next s
  else
    let f : RxFrame := {
      gen := s.activeGen, tsIn := s.tb0Ns, stamp := s.stamp, deck := if s.viaduct p then deck else 0, viaduct := s.viaduct p,
      cfg := s.portCfg p }
    match s.startDiscard p with
    | none => .next (s.setRx p (some f))
    | some e => .next (s.discardStart p f e)

/-! ### CELL_WRITE -/

/-- The forwarding decision of a frame that its ingress pipeline has made and the order keeper still holds. -/
def State.heldMd6 (s : State) (d : Nat) : Option Word :=
  (s.order (s.info d).pair).held.findSome? (fun h =>
    match h.2 with
    | .result r => if r.desc = d && !r.drop then some r.md6 else none
    | .void => none)

/-- The forwarding decision of a frame, once its ingress pipeline has made it (R21, R48). -/
def State.chosen (s : State) (d : Nat) : Option Word :=
  if (s.info d).released then
    if (s.desc d).dest < 0xFFFE then some (s.desc d).egress else none
  else s.heldMd6 d

/-- The die that a cell of a frame is placed on (R21): the ingress port's, until the pipeline has chosen; then that of the
egress port, or of the first one of a multicast frame's replication list. -/
def State.cellDie (s : State) (p : Nat) (d : Option Nat) : Nat :=
  match d.bind s.chosen with
  | none => dieOf p
  | some w =>
    if getBits w 15 15 = 0 then dieOf (getBits w 13 0 / 16)
    else
      match s.mcQueues (getBits w 30 16) p with
      | q :: _ => dieOf (q / 16)
      | [] => dieOf p

/-- Write a cell's bytes, link word and guard, and append it to its frame (R164, R165, R175, R180, R181). -/
def State.writeCell (s : State) (d c : Nat) (bytes : List Byte) (last : Bool) : State :=
  let x := s.desc d
  let i := s.info d
  let f := s.link x.first
  let l : LinkWord := {
    last := last, alloc := true, refcnt := if x.cells = 0 then 1 else f.refcnt,
    owner := if x.cells = 0 then i.arrivalHolder else f.owner, fill := bytes.length - 1,
    guard := crc32c bytes ^^^ guardFold c x.dest x.seq }
  let s := { s with buf := { s.buf with mem := writeCellBytes s.buf.mem (c * 256) bytes } }
  let s := s.setLink c l
  let s := if x.cells = 0 then s else s.setLink x.last { (s.link x.last) with next := c }
  s.setDesc d { x with first := if x.cells = 0 then c else x.first, last := c, cells := x.cells + 1 }

/-- R188 for a front-panel frame; the fault of a lossless one names the port and the class. -/
def State.admissionRefuse (s : State) (d : Nat) : State :=
  let x := s.info d
  let lossless := (s.desc d).lossless
  let s := s.discardFrame d
  if lossless then
    ((s.count (cPcl x.pair 10) 1).latchFault (macSource x.port) .s).nameFault (macSource x.port) [x.port, x.tc]
  else s.count (cPcl x.pair 9) 1

/-- The rest of the arrival is discarded. -/
def State.rxDiscard (s : State) (p : Nat) (f : RxFrame) : State :=
  (s.setRx p (some { f with discard := true, desc := none })).checkDrained

/-- The first cell of a frame: a descriptor, the frame's record, and its place in the arrival queue (R32, R168). -/
def State.firstCell (s : State) (p d c : Nat) (f : RxFrame) (bytes : List Byte) (last : Bool) : State :=
  let s := s.setDesc d { alloc := true, gen := f.gen, tsIn := f.tsIn, dest := 0xFFFF }
  let s := s.setInfo d { port := p, deck := f.deck, viaduct := f.viaduct, cfg := f.cfg, stamp := f.stamp, ctMask := s.fld 0x40 15 0 }
  let s := s.setHeadUse p (s.headUse p + 1)
  let s := s.writeCell d c bytes last
  let s := s.setRx p (some { f with desc := some d, bytes := bytes.length })
  (s.setArrivals (portGroup p) (s.arrivals (portGroup p) ++ [d])).arrivalXoff (portGroup p)

/-- The HEAD region has no cell for a port (R184, R188). -/
def State.headFull (s : State) (p : Nat) : Bool := decide (12 * s.portLanes p ≤ s.headUse p)

/-- The rest of an arrival, and what has been written of it, is discarded. -/
def State.dropRx (s : State) (p : Nat) (f : RxFrame) : State :=
  let s := match f.desc with
    | some d => s.dropArrival d f.bytes
    | none => s
  s.rxDiscard p f

/-- HEAD exhausted: the frame is discarded before acceptance with a class-S fault (R188). -/
def State.headDiscard (s : State) (p : Nat) (f : RxFrame) : State :=
  ((s.dropRx p f).count (cPort p 6) 1).latchFault (macSource p) .s

/-- A further cell of a frame (R186, R188). -/
def State.nextCell (s : State) (p d : Nat) (f : RxFrame) (bytes : List Byte) (last : Bool) (full : List Nat) : State :=
  let x := s.info d
  let f' := { f with bytes := f.bytes + bytes.length }
  if x.stopped || x.revoked || (s.desc d).quar then s.dropRx p f'
  else
    let y := s.allocCell (portGroup p) (s.cellDie p (some d)) full
    match y.2 with
    | none => y.1
    | some c =>
      let t := y.1
      if x.classified then
        let (a, gr) := t.admitCell p x.tc d ((s.desc d).cells = 0)
        if gr = .refuse then ((s.lengthKnown d f'.bytes).admissionRefuse d).rxDiscard p f'
        else (a.writeCell d c bytes last).setRx p (some f')
      else if s.headFull p then s.headDiscard p f'
      else ((t.setHeadUse p (t.headUse p + 1)).writeCell d c bytes last).setRx p (some f')

/-- CELL_WRITE (R21): the next cell of the frame arriving at a port; while the pool or the free lists grant nothing, it
waits (R26), and in the safe state the arrival is discarded (R443). The depth of the arrival queue decides again at the
first cell (R32). -/
def execCellWrite (port : Port) (bytes : List Byte) (last : Bool) (full : List Nat) (s : State) :
    Host.Outcome State Fault Refusal :=
  let p := port.val
  match s.rxFrame p with
  | none => .next s
  | some f =>
    let n := f.bytes + bytes.length
    if f.discard then .next (s.setRx p (some { f with bytes := n }))
    else if s.bufferPaused then .next s
    else if bytes.isEmpty then .next s
    else if s.chip.mode = .safe then .next ((s.dropRx p { f with bytes := n }).count (cPort p 7) 1)
    else if 16384 < n ∨ s.mtu p < n then .next ((s.dropRx p { f with bytes := n }).count (cPort p 3) 1)
    else
      match f.desc, s.startDiscard p with
      | some d, _ => .next (s.nextCell p d f bytes last full)
      | none, some e => .next (s.discardStart p { f with bytes := n } e)
      | none, none =>
        if s.headFull p then .next (s.headDiscard p { f with bytes := n })
        else
          let y := s.allocCell (portGroup p) (dieOf p) full
          match y.2 with
          | none => .next y.1
          | some c =>
            match y.1.allocDesc with
            | none => .next (s.headDiscard p { f with bytes := n })
            | some (t, d) => .next (t.firstCell p d c f bytes last)

/-! ### PARSE_DONE and CLASSIFY_DONE -/

/-- PARSE_DONE (R138): the parser has examined the frame; SPAN counters take its flags (R297), and the PTP service a PTP
message, an event message with its capture (R308, R418). -/
def execParseDone (d : DescId) (s : State) : Host.Outcome State Fault Refusal :=
  let x := s.info d
  let y := s.desc d
  if !y.alloc || y.cells = 0 || x.parsed.isSome || x.stopped then .next s
  else
    let p := s.parseOf d
    let span := x.port / 64
    let s := s.setInfo d { x with parsed := some p }
    let s := (List.range 9).foldl (fun s i => if p.pflags.getLsbD (16 + i) then s.count (cSpan span i) 1 else s) s
    let s := if p.pflags.getLsbD 31 then s.count (cSpan span 9) 1 else s
    .next (if x.ring.isNone then s.ptpSeen x.port false p.pflags p.hv x.stamp else s)

/-- What the classifier makes of a frame: class, colour and queue within the port (R140, R141). -/
structure Verdict where
  tc     : Nat
  colour : Nat
  queue  : Nat
  hit    : Bool
deriving DecidableEq, Repr

/-- The classifier's values for a frame (R141). -/
def State.verdict (s : State) (d : Nat) (p : Parsed) : Verdict :=
  let x := s.info d
  let profile := getBits x.cfg 15 10
  let deftc := getBits x.cfg 9 6
  let hop := if x.viaduct then x.deck.toNat / 2 ^ 14 % 4 else 0
  match s.classify (x.port / 64) (s.desc d).gen (classifierKey x.port profile p hop) with
  | none => { tc := deftc, colour := 0, queue := deftc, hit := false }
  | some r =>
    let a := r.ctl
    let tc := if getBits a 15 15 = 1 then getBits a 14 11 else deftc
    { tc := tc, colour := if getBits a 10 10 = 1 then getBits a 9 8 else 0,
      queue := if getBits a 7 7 = 1 then getBits a 6 3 else deftc, hit := true }

/-- The order keeper gives the frame its sequence, which is folded into the guards of the cells written (R31, R181,
R244). -/
def State.assignSeq (s : State) (d : Nat) : State :=
  let x := s.info d
  let o := s.order x.pair
  let s := s.setOrder x.pair { o with assign := o.assign + 1 }
  let s := s.setDesc d { (s.desc d) with seq := o.assign }
  s.foldGuards d (o.assign &&& 0xFFFF)

/-- Charge the HEAD cells of a classified frame to its pair, in cell order; none when one is refused (R186). -/
def State.chargeHead (s : State) (d : Nat) : State × Bool :=
  let x := s.info d
  (List.range (s.desc d).cells).foldl (fun (acc : State × Bool) i =>
    if !acc.2 then acc
    else
      let (s, gr) := acc.1.admitCell x.port x.tc d (i = 0)
      if gr = .refuse then ((acc.1.uncharge x.pair i), false) else (s, true)) (s, true)

/-- The frame takes its class, its sequence and its counts, and its cells leave the HEAD region (R141, R144, R184,
R244). -/
def State.classifyFrame (s : State) (d : Nat) (p : Parsed) : State :=
  let x := s.info d
  let v := s.verdict d p
  let info : Nat := x.port % 1024 + v.tc * 2 ^ 10 + v.colour * 2 ^ 14 + v.queue * 2 ^ 16
    + getBits x.cfg 15 10 * 2 ^ 20
  let s := s.setDesc d { (s.desc d) with portinfo := BitVec.ofNat 32 info, lossless := s.lossless v.tc }
  let s := (s.setInfo d { x with classified := true, tc := v.tc, region := .pair }).assignSeq d
  let s := if v.hit then s else s.count (cSpan (x.port / 64) 10) 1
  let s := s.count (cPcl (x.port * 16 + v.tc) 0) 1
  let s := if x.ended then s.count (cPcl (x.port * 16 + v.tc) 1) (s.desc d).len else s
  let s := match s.rxFrame x.port with
    | some f => if f.desc = some d then s.setRx x.port (some { f with pair := some (x.port * 16 + v.tc) }) else s
    | none => s
  s.setHeadUse x.port (s.headUse x.port - (s.desc d).cells)

/-- A cell of a classified frame is refused (R188): what was charged has been returned, so the frame's cells are freed
against the HEAD region again. -/
def State.classifyRefused (s : State) (d : Nat) : State :=
  let x := s.info d
  let s := s.setHeadUse x.port (s.headUse x.port + (s.desc d).cells)
  let s := (s.setInfo d { (s.info d) with region := .head }).admissionRefuse d
  match s.rxFrame x.port with
  | some f => if f.desc = some d then s.rxDiscard x.port f else s
  | none => s

/-- CLASSIFY_DONE (R141): it waits while a lockstep pair that grants is being checked (R26), and nothing is classified in
the safe state (R444). -/
def execClassifyDone (d : DescId) (s : State) : Host.Outcome State Fault Refusal :=
  let x := s.info d
  match x.parsed with
  | none => .next s
  | some p =>
    if s.grantsPaused || s.chip.mode = .safe then .next s
    else if x.classified || x.ring.isSome || x.stopped || !(s.desc d).alloc then .next s
    else
      let r := (s.classifyFrame d p).chargeHead d
      if r.2 then .next (r.1.accept d) else .next (r.1.classifyRefused d)

/-! ### FRAME_END -/

/-- The receiver of a viaduct-mode port takes the frame: a DATA frame in sequence on a running link, or a DATA_LOSSY
frame (R223, R225). -/
def State.viaTakes (s : State) (p : Nat) (deck : DWord) : Bool :=
  deckGood deck &&
    (match deckType deck with
    | 0 => decide (deckSeq deck = (s.viaLink p).e)
    | 1 => true
    | _ => false)

/-- A deck header that the receiver cannot use: its CHK fails, or its TYPE is reserved (R223). -/
def deckUnusable (deck : DWord) : Bool :=
  !deckGood deck || !([0, 1, 8, 9, 10, 11, 12].contains (deckType deck))


/-- FRAME_END (R29, R30, R336); the end of a frame with cells waits while the pool or the free lists hold their outputs
(R26), and in the safe state the arrival is discarded (R443). -/
def execFrameEnd (port : Port) (fcsGood truncated : Bool) (s : State) : Host.Outcome State Fault Refusal :=
  let p := port.val
  match s.rxFrame p with
  | none => .next s
  | some f =>
    if f.desc.isSome && s.bufferPaused then .next s else
    let bad := !fcsGood || truncated || decide (f.bytes < 64)
    let s := (((s.setRx p none).count (cPort p 0) 1).count (cPort p 1) f.bytes)
    let s := if bad then s.count (cPort p 2) 1 else s
    let s := if f.viaduct && deckUnusable f.deck then s.count (cPort p 22) 1 else s
    let s := match f.pair with
      | some q => s.count (cPcl q 1) f.bytes
      | none => s
    match f.desc with
    | none => .next s.checkDrained
    | some d =>
      let x := s.info d
      let safe : Bool := s.chip.mode = .safe
      let s := if safe then s.count (cPort p 7) 1 else s
      if x.stopped || x.revoked || (s.desc d).quar || safe || bad || (f.viaduct && !s.viaTakes p f.deck) then
        .next (s.dropArrival d f.bytes)
      else
        let data := f.viaduct && deckType f.deck = 0
        let s := s.setInfo d { x with ended := true, good := true, hopClass := deckHop f.deck, acceptedVia := data }
        .next ((s.lengthKnown d f.bytes).accept d)

end Sys2Proof.Machine
end

