-- ==== Sys2Proof/Machine/Buffer.lean ====
section
/-! DEFINITION. The commands of the buffer pool manager (R175 to R200). -/

namespace Sys2Proof.Machine

/-! ### Holder operations -/

/-- The DEST that a TRANSFER of holder `h` to a set gives the frame (R181): the ingress TRANSFER names the queue of a
unicast copy, the group of a multicast frame, or that there is no queue copy. -/
def transferDest (h : Holder) (set : List Holder) (group : Option (Fin 32768)) : Option Nat :=
  if holderKind h ≠ 3 then none
  else
    match set.find? (fun x => holderKind x = 0), group with
    | none, _ => some 0xFFFE
    | some x, none => some (holderTarget x)
    | some _, some g => some (0x8000 + g.val)

/-- HOLDER_TRANSFER (R175): remove `h`, add `set`; it waits while the manager holds its outputs (R26). -/
def execHolderTransfer (d : DescId) (h : Holder) (set : List Holder) (group : Option (Fin 32768)) (walk : WalkCheck)
    (s : State) : Host.Outcome State Fault Refusal :=
  if s.bufferPaused then .next s else .next (s.holderOp d h set (transferDest h set group) walk).1

/-- HOLDER_RELEASE (R175); it waits while the manager holds its outputs (R26). -/
def execHolderRelease (d : DescId) (h : Holder) (walk : WalkCheck) (s : State) : Host.Outcome State Fault Refusal :=
  if s.bufferPaused then .next s else .next (s.holderOp d h [] none walk).1

/-! ### CELL_READ -/

/-- The bytes of a cell as the read path returned them. -/
def readBytes (stored : List Byte) (wrong : List (Fin 256 × Byte)) : List Byte :=
  wrong.foldl (fun l w => listSet l w.1.val w.2) stored

/-- The source of the bank group that holds a cell (R427). -/
def bankSource (c : Nat) : Nat := srcChip (7 + c / 8192 / 64) (c / 8192 % 64)

/-- The reads of a walk over a frame, with a firing that waits at its descriptor or at the link memory that holds one of its
link words (R526). -/
def State.checkedWalk (s : State) (d : Nat) (w : WalkCheck) : WalkCheck :=
  match s.injects (srcChip 0x0B 2) with
  | some k => if k = 0 then .descSingle else .descBad
  | none =>
    match (List.range (s.cellsOf d).length).find? (fun i =>
        (s.injects (srcChip 0x0B ((s.cellsOf d).getD i 0 / 2 ^ 20))).isSome) with
    | some i =>
      if s.injects (srcChip 0x0B ((s.cellsOf d).getD i 0 / 2 ^ 20)) = some 0 then .linkSingle (Fin.ofNat 64 i)
      else .linkBad (Fin.ofNat 64 i)
    | none => w

/-- A firing at link memory or descriptors that a walk could not correct shows as the CHAIN fault of R178. -/
def State.meetWalk (s : State) (d : Nat) (w : WalkCheck) : State :=
  match w with
  | .descBad => s.meetAt (srcChip 0x0B 2) (srcChip 1 0x14)
  | .linkBad i => s.meetAt (srcChip 0x0B ((s.cellsOf d).getD i.val 0 / 2 ^ 20)) (srcChip 1 0x14)
  | _ => s

/-- A single-bit error of a bank word, or of the link words or the descriptor, is corrected and counted (R24, R163). -/
def State.readCorrected (s : State) (d c : Nat) (check : ReadCheck) (walk : WalkCheck) : State :=
  (if check = .single then s.corrected (bankSource c) 1 else s).walkCorrected d walk

/-- CELL_READ (R182): cell i of a frame is read for holder h. A reader of a cell that is not yet written waits, and a
quarantined frame is not read. A link word or descriptor that cannot be corrected breaks the chain (R178). -/
def execCellRead (d : DescId) (i : Fin 64) (h : Holder) (wrong : List (Fin 256 × Byte)) (check : ReadCheck)
    (walk : WalkCheck) (s : State) : Host.Outcome State Fault Refusal :=
  let x := s.desc d
  if !x.alloc || x.quar || x.cells ≤ i.val then .next s
  else
    let c := (s.cellsOf d).getD i.val 0
    let check' := s.checkedRead (bankSource c) check
    let walk := s.checkedWalk d walk
    let s := (s.meetWalk d walk).readCorrected d c check' walk
    if walk = .descBad || (badLink walk).isSome then
      .next ((s.bufFault 4 ((badLink walk).elim x.first (fun k => (s.cellsOf d).getD k 0)) h).quarantine d)
    else
      let bytes := readBytes (s.cellBytes c ((s.link c).fill + 1)) wrong
      if (s.injects (bankSource c)).isSome then .next ((s.meetAt (bankSource c) (srcChip 1 0x18)).guardFault d c h true)
      else if s.guardFails d c (s.readerDest d h) bytes then .next (s.guardFault d c h (check' = .uncorrectable)) else .next s

/-! ### LIMIT_COMMIT -/

/-- The registers that a COMMIT applies (R185). -/
def isLimit (off : Nat) : Bool :=
  off = 0x800008 || (0x800100 ≤ off && off < 0x800140) || (0x810000 ≤ off && off < 0x830000)

/-- The staged BPM_PCL_RES registers that are not 0, with their pairs (R202). -/
def State.stagedRes (s : State) : List (Nat × Word) :=
  (s.regs.filter (fun e => 0x810004 ≤ e.1 && e.1 < 0x830000 && e.1 % 8 = 4)).map (fun e => ((e.1 - 0x810004) / 8, e.2))

/-- The cells that the staged limits reserve beside the shared ones. -/
def State.stagedSum (s : State) : Nat :=
  s.stagedRes.foldl (fun n e => n + getBits e.2 31 16 + getBits e.2 15 0) 0 + 12288
    + s.fld 0x800008 15 0 + s.fld 0x800008 31 16

/-- The number of the first failed check of R185; 0 when every check passes. -/
def State.commitCause (s : State) : Nat :=
  if 1048576 < s.stagedSum then 1
  else if s.stagedRes.any (fun e => decide (s.fld (0x810000 + e.1 * 8) 21 0 < getBits e.2 15 0)) then 2
  else if s.stagedRes.any (fun e => !s.bit (0x800100 + e.1 % 16 * 4) 22 && getBits e.2 31 16 ≠ 0) then 3
  else if s.fld 0x800008 31 16 < 256 then 4
  else 0

/-- The limits take effect (R185, R197); a retired bank group has left the shared cells (R434). -/
def State.applyLimits (s : State) : State :=
  let sum := s.stagedSum
  let s := { s with buf := { s.buf with limits := s.regs.filter (fun e => isLimit e.1) } }
  let s := s.setReg 0x80000C (BitVec.ofNat 32 (2097152 - sum - 8192 * s.fc.retired.length))
  let s := s.setReg 0x800010 (BitVec.ofNat 32 (1048576 - sum))
  { s with chip := { s.chip with committed := true } }

/-- LIMIT_COMMIT (R185, R194); it waits while the manager holds its outputs (R26). -/
def execLimitCommit (s : State) : Host.Outcome State Fault Refusal :=
  if s.closed 0x800000 then .next s else
  if !s.rwlOpen then .next (s.refusedWrite 0x800000)
  else if s.chip.lockPool.phase ≠ .paired then .next s
  else
    let c := s.commitCause
    if c = 0 then .next s.applyLimits
    else .next ((s.setBit 0x800004 4 true).setFld 0x800004 3 0 c)

/-! ### FAULT_LOG_READ and RECLAIM -/

/-- FAULT_LOG_READ (R199): the oldest entry is removed and read. -/
def execFaultLogRead (s : State) : Host.Outcome State Fault Refusal :=
  if s.closed 0x800020 then .next { s with readData := 0xFFFFFFFF } else
  match s.buf.flog with
  | [] => .next { s with readData := 0 }
  | e :: t =>
    let s := { s with buf := { s.buf with flog := t }, readData := BitVec.ofNat 32 (2 ^ 31 + e.kind * 2 ^ 27 + e.id) }
    .next (s.setReg 0x800024 (e.holder.setWidth 32))

/-- Free the allocated cells of a list; how many they were. -/
def State.freeCellList (s : State) (cs : List Nat) : State × Nat :=
  cs.foldl (fun (acc : State × Nat) c => if (acc.1.link c).alloc then (acc.1.pushFree c, acc.2 + 1) else acc) (s, 0)

/-- Return a quarantined frame: its chain, its charge and its descriptor (R179, R200); a descriptor that is FREE is a
double free (R168, R178). -/
def State.reclaimFrame (s : State) (d : Nat) : State :=
  if !(s.desc d).alloc then s.bufFault 6 d 0
  else if (s.desc d).quar then
    let (s, n) := s.freeCellList (s.cellsOf d)
    (s.returnCharge d n).freeDescriptor d
  else s

/-- RECLAIM (R200): the audit returns a frame or a cell; a write from the host is refused. -/
def execReclaim (byAudit : Bool) (value : Word) (s : State) : Host.Outcome State Fault Refusal :=
  if !byAudit && s.closed 0x800028 then .next s
  else if !byAudit then .next (s.refusedWrite 0x800028)
  else if s.bufferPaused then .next s
  else
    let id := getBits value 20 0
    if getBits value 31 31 = 1 then .next (s.reclaimFrame id)
    else if (s.link id).alloc then .next ((s.pushFree id).count (cChip 3) 1)
    else .next s

end Sys2Proof.Machine
end

