-- ==== Sys2Proof/Machine/Compat.lean ====
section
/-! DEFINITION. GLF-7220 compatibility: the messages of the credit protocol (R190 to R193). A message acts only while
BPM_CMP_CTRL.EN is set (assumption 26). -/

namespace Sys2Proof.Machine

/-- Compatibility mode is enabled (R190). -/
def State.cmpOn (s : State) : Bool := s.bit 0x880000 31

/-- The pending count of a requesting device and VOQ (R193). -/
def cmpKey (dev voq : Nat) : Nat := dev * 65536 + voq
def State.cmpPending (s : State) (dev voq : Nat) : Nat := Tbl.get zeroNat s.cmp.pending (cmpKey dev voq)
def State.setCmpPending (s : State) (dev voq n : Nat) : State :=
  { s with cmp := { s.cmp with pending := Tbl.put zeroNat s.cmp.pending (cmpKey dev voq) n } }

/-- CMP_REQ_RX (R193): P grows, saturating at 2^26 − 1. -/
def execCmpReqRx (dev : Fin 128) (voq : BitVec 16) (value : BitVec 26) (s : State) :
    Host.Outcome State Fault Refusal :=
  if s.cmpOn then
    .next (s.setCmpPending dev voq.toNat (min (s.cmpPending dev voq.toNat + value.toNat) (2 ^ 26 - 1)))
  else .next s

/-- GRANT n (R191). -/
def Voq.granted (x : Voq) (n : Nat) : Voq :=
  { x with out := x.out - n, credit := min (x.credit + (n : Int) * 4096) 1048576 }

/-- CMP_GRANT_RX (R191): OUT falls, CREDIT grows, and the VOQ runs. -/
def execCmpGrantRx (voq : BitVec 16) (value : BitVec 26) (s : State) : Host.Outcome State Fault Refusal :=
  if s.cmpOn then
    .next ((s.setVoq voq.toNat ((s.voq voq.toNat).granted value.toNat)).voqRun voq.toNat)
  else .next s

/-- CMP_SYNC_TIMER (R193): SYNC for each VOQ of the device with OUT above 0. -/
def execCmpSyncTimer (s : State) : Host.Outcome State Fault Refusal :=
  if s.cmpOn then
    .next (s.cmp.voq.foldl (fun s e => if 0 < e.2.out then s.cmpSend (e.1 / 512) 3 e.1 e.2.out else s) s)
  else .next s

/-- CMP_SYNC_RX (R193): the granter answers with its pending count. -/
def execCmpSyncRx (dev : Fin 128) (voq : BitVec 16) (value : BitVec 26) (s : State) :
    Host.Outcome State Fault Refusal :=
  if s.cmpOn then
    -- the requester's OUT, in `value`, changes nothing here
    let _ := value
    .next (s.cmpSend dev 4 voq.toNat (s.cmpPending dev voq.toNat))
  else .next s

/-- CMP_SYNC_ACK_RX (R193): OUT takes the granter's pending count. -/
def execCmpSyncAckRx (voq : BitVec 16) (value : BitVec 26) (s : State) : Host.Outcome State Fault Refusal :=
  if s.cmpOn then
    .next ((s.setVoq voq.toNat { (s.voq voq.toNat) with out := value.toNat }).voqRun voq.toNat)
  else .next s

/-- CMP_MESSAGE_FLUSH (R192): the records gathered for a peer leave, 1 µs after the first. -/
def execCmpMessageFlush (dev : Fin 128) (s : State) : Host.Outcome State Fault Refusal :=
  if s.cmpOn then .next (s.cmpSendFrame dev) else .next s

end Sys2Proof.Machine
end

