-- ==== Sys2Proof/Machine/Egress.lean ====
section
/-! DEFINITION. Multicast groups, the scheduler, shapers, flow control and transmission (R205 to R221, R237, R249,
R283). -/

namespace Sys2Proof.Machine

/-! ### Multicast groups -/

/-- MC_GROUP_WRITE (R237): a run that would pass entry 262,143 is refused. -/
def execMcGroupWrite (g : Fin 32768) (value : Word) (s : State) : Host.Outcome State Fault Refusal :=
  if s.closed 0xD00000 then .next s else
  let off := 0xD00000 + g.val * 4
  if 262144 < getBits value 17 0 + getBits value 25 18 then .next (s.refusedWrite off)
  else .next (s.setReg off (value &&& 0x83FFFFFF))

/-! ### Shapers (R214 to R217) -/

def shaperQueue (q : Nat) : Nat := q
def shaperGroup (g : Nat) : Nat := 16384 + g
def shaperPort (p : Nat) : Nat := 20480 + p

def shaperDefault : Nat → Shaper := fun _ => {}
def State.shaper (s : State) (x : Nat) : Shaper := Tbl.get shaperDefault s.egr.shapers x
def State.setShaper (s : State) (x : Nat) (y : Shaper) : State :=
  { s with egr := { s.egr with shapers := Tbl.put shaperDefault s.egr.shapers x y } }

/-- The profile in use (R230). -/
def State.profile (s : State) : Nat := s.fld 0xC00010 0 0

/-- The set of profile k of shaper x (R236). -/
def State.shaperRegs (s : State) (x k : Nat) : ShaperSet := {
  rate := (s.reg (0xC40000 + x * 16 + k * 8)).toNat
  burst := s.fld (0xC40004 + x * 16 + k * 8) 23 0
  en := s.bit (0xC40004 + x * 16 + k * 8) 31 }

/-- The set in force (R216, R217). -/
def State.shaperSet (s : State) (x : Nat) : ShaperSet := (s.shaper x).hold.getD (s.shaperRegs x s.profile)

/-- The shaper lets its node through (R209). -/
def State.shaperOk (s : State) (x : Nat) : Bool := !(s.shaperSet x).en || decide (0 ≤ (s.shaper x).tok)

/-- The shapers that a refill or a change of set can touch: those with a register or tokens of their own. -/
def State.knownShapers (s : State) : List Nat :=
  let offs : List Nat := (s.regs.map (fun e => e.1)).filter (fun o => 0xC40000 ≤ o && o < 0xC94000)
  let own : List Nat := s.egr.shapers.map (fun e => e.1)
  (offs.map (fun o => (o - 0xC40000) / 16) ++ own).foldl addOnce []

/-- One refill of a shaper from the time since its previous one (R214). -/
def State.refill (s : State) (x : Nat) : State :=
  let y := s.shaper x
  let p := s.shaperRegs x s.profile
  if p.en then
    let dt := s.now - y.last
    s.setShaper x {
      tok := min (y.tok + ((dt * p.rate / 31250 : Nat) : Int)) ((p.burst * 256 : Nat) : Int), last := s.now, hold := none }
  else s.setShaper x { y with hold := none }

/-- SHAPER_REFILL (R214): every enabled shaper, from the time elapsed on the time-unit clock. -/
def execShaperRefill (s : State) : Host.Outcome State Fault Refusal :=
  .next (s.knownShapers.foldl (fun s x => s.refill x) s)

/-- The configuration of shaper x has changed; `old` was in force (R217). -/
def State.reshape (s : State) (x : Nat) (old : ShaperSet) : State :=
  if s.chip.mode = .service then
    s.setShaper x { (s.shaper x) with tok := (((s.shaperRegs x s.profile).burst * 256 : Nat) : Int), hold := none }
  else s.setShaper x { (s.shaper x) with hold := some old }

/-- Every shaper changes to the other profile (R216, R217). -/
def State.swapProfile (s : State) : State :=
  let xs := s.knownShapers
  let olds := xs.map (fun x => (x, s.shaperSet x))
  let s := s.setFld 0xC00010 0 0 (1 - s.profile)
  olds.foldl (fun s e => s.reshape e.1 e.2) s

/-- SHAPER_SWAP (R230): the word of SCH_SHP_CTRL. -/
def execShaperSwap (value : Word) (s : State) : Host.Outcome State Fault Refusal :=
  if s.closed 0xC00000 then .next s else
  if getBits value 1 1 = 1 then .next s.swapProfile else .next s

/-- SHAPER_CONFIG_WRITE (R217, R236). -/
def execShaperConfigWrite (x : Fin 21504) (k : Fin 2) (burst : Bool) (value : Word) (s : State) :
    Host.Outcome State Fault Refusal :=
  if s.closed 0xC40000 then .next s else
  let old := s.shaperSet x
  let base := 0xC40000 + x.val * 16 + k.val * 8
  let s := if burst then s.setReg (base + 4) (value &&& 0x80FFFFFF) else s.setReg base value
  if k.val = s.profile then .next (s.reshape x old) else .next s

/-! ### The scheduler (R209 to R211) -/

def zeroInt : Nat → Int := fun _ => 0

/-- A received PFC or PAUSE stops the queue (R220). -/
def State.queueStopped (s : State) (q : Nat) : Bool :=
  let p := q / 16
  let on (k : Nat) : Bool := decide (Tbl.get zeroNat s.egr.stops (p * 9 + k) ≠ 0)
  on 8 || (s.bit (0xC10000 + q * 4) 15 && on (s.fld (0xC10000 + q * 4) 14 12))

/-- The pending GRANT that queue q would issue: the requesting device and VOQ (R193, assumption 27). -/
def State.pendingGrant (s : State) (q : Nat) : Option (Nat × Nat) :=
  if !s.cmpOn then none
  else
    (s.cmp.pending.find? (fun e =>
      let v := e.1 % 65536
      decide (v / 8 % 64 * 16 + v % 8 = q))).map (fun e => (e.1 / 65536, e.1 % 65536))

/-- The first entry of a queue: copies to be sent again come ahead of the rest (R249). -/
def State.headEntry (s : State) (q : Nat) : Option QEntry :=
  match s.aheadOf q, s.queue q with
  | e :: _, _ => some e
  | [], e :: _ => some e
  | [], [] => none

/-- `a − b` of two 32-bit cumulative counters is at least 0 as a signed value (R226). -/
def creditCovers (granted used : Nat) : Bool := ((BitVec.ofNat 32 granted - BitVec.ofNat 32 used).toNat) < 2 ^ 31

/-- The viaduct sender of a port is held (R280). -/
def State.viaHeld (s : State) (p : Nat) : Bool := s.bit (0xC0A000 + p / 32 * 4) (p % 32)

/-- Hop-class credit and the retry window cover a lossless frame of `len` bytes (R225, R226). -/
def State.viaCovers (s : State) (p hc len : Nat) : Bool :=
  let l := s.viaLink p
  l.up && !s.viaHeld p && decide ((l.next + 2 ^ 24 - l.una) % 2 ^ 24 < s.fld (0xC05000 + p * 4) 31 16)
    && creditCovers (l.granted.get hc) (l.used.get hc + (len + 255) / 256)

/-- A queue is eligible (R209). -/
def State.queueEligible (s : State) (q : Nat) : Bool :=
  let p := q / 16
  let work := match s.headEntry q with
    | some e =>
      let d := s.desc e.desc
      if s.viaduct p && d.lossless then
        s.viaCovers p (s.fld (0xC10000 + q * 4) 11 10) d.len && !(s.viaLink p).retransmit
      else true
    | none => (s.pendingGrant q).isSome
  work && !s.queueStopped q && s.shaperOk (shaperQueue q)

/-- The queues of a port that are joined to one of its groups. -/
def State.queuesOf (s : State) (g : Nat) : List Nat :=
  ((List.range 16).map (fun i => g / 4 * 16 + i)).filter (fun q => s.groupOfQueue q = g)

/-- A group is eligible (R209). -/
def State.groupEligible (s : State) (g : Nat) : Bool :=
  (s.queuesOf g).any (fun q => s.queueEligible q) && s.shaperOk (shaperGroup g)

/-- What a level of the tree looks like to `pick`: its children of one priority in index order, which are eligible, and
their quanta. -/
structure Level where
  kids    : List Nat
  elig    : List Nat
  quantum : Nat → Nat

/-- The deficit round robin of R210: the child to serve, the pointer and the deficits after it. -/
def drr (l : Level) : Nat → Nat → Tbl Int → Option (Nat × Tbl Int)
  | 0, _, _ => none
  | fuel + 1, i, d =>
    let c := l.kids.getD (i % l.kids.length) 0
    let e := l.elig.contains c
    let v := Tbl.get zeroInt d c
    if e && decide (0 < v) then some (c, d)
    else
      let d := if e then Tbl.put zeroInt d c (v + (l.quantum c : Int)) else d
      drr l fuel (i + 1) d

/-- Pick among children by priority: the child, the priority it was found at, and the deficits (R210). -/
def pickChild (pri : Nat → Nat) (kids elig : List Nat) (quantum : Nat → Nat) (ptr : Nat → Nat) (d : Tbl Int) :
    Option (Nat × Nat × Tbl Int) :=
  match (List.range 8).reverse.find? (fun k => elig.any (fun c => pri c = k)) with
  | none => none
  | some k =>
    let ks := kids.filter (fun c => pri c = k)
    -- the pointer names a child; one that has left this priority gives way to the first child (assumption 28)
    let start := (ks.findIdx? (fun c => c = ptr k)).getD 0
    -- every eligible deficit rises by 64 at least in each round, so this many visits reach one above 0
    let rounds := elig.foldl (fun n c => max n ((-(Tbl.get zeroInt d c)).toNat / 64 + 2)) 0
    match drr { kids := ks, elig := elig, quantum := quantum } (ks.length * rounds + ks.length) start d with
    | some (c, d) => some (c, k, d)
    | none => none

/-- A quantum as it acts (R235). -/
def State.quantumOf (s : State) (off : Nat) : Nat := max 64 (s.fld off 31 16)

/-- The scheduler's choice of group and queue for a port, with pointers and deficits moved on (R210). -/
def State.pickQueue (s : State) (p : Nat) : Option (State × Nat) :=
  let gs := (List.range 4).map (fun i => p * 4 + i)
  let gOff (g : Nat) : Nat := 0xC20000 + g * 4
  let qOff (q : Nat) : Nat := 0xC10000 + q * 4
  match pickChild (fun g => s.fld (gOff g) 2 0) gs (gs.filter (fun g => s.groupEligible g)) (fun g => s.quantumOf (gOff g))
      (fun k => Tbl.get zeroNat s.egr.rrPort (p * 8 + k)) s.egr.defG with
  | none => none
  | some (g, kp, dg) =>
    let qs := s.queuesOf g
    match pickChild (fun q => s.fld (qOff q) 2 0) qs (qs.filter (fun q => s.queueEligible q))
        (fun q => s.quantumOf (qOff q)) (fun k => Tbl.get zeroNat s.egr.rrGroup (g * 8 + k)) s.egr.defQ with
    | none => none
    | some (q, kg, dq) =>
      some ({ s with egr := { s.egr with
        defG := dg, defQ := dq
        rrPort := Tbl.put zeroNat s.egr.rrPort (p * 8 + kp) g
        rrGroup := Tbl.put zeroNat s.egr.rrGroup (g * 8 + kg) q } }, q)

/-- Add bytes to the deficits of a queue and of the group that it was served in, and to every shaper on its path, whose
tokens BURST bounds (R211, R214). -/
def State.credit (s : State) (q g : Nat) (n : Int) : State :=
  let s := { s with egr := { s.egr with
    defQ := Tbl.mod zeroInt s.egr.defQ q (fun v => v + n)
    defG := Tbl.mod zeroInt s.egr.defG g (fun v => v + n) } }
  [shaperQueue q, shaperGroup g, shaperPort (q / 16)].foldl (fun s x =>
    let tok := min ((s.shaper x).tok + n * 256) (((s.shaperSet x).burst * 256 : Nat) : Int)
    s.setShaper x { (s.shaper x) with tok := tok }) s

/-- OVERHEAD of a port, signed (R232). -/
def State.overhead (s : State) (p : Nat) : Int := signedBits (s.fld (0xC01000 + p * 4) 7 0) 8

/-- The port's transmitter can take a frame: its link is up and receives no remote fault, under which it sends idle only
(R334), nothing is in hand, its pipeline serves it and the device selects at all (R209, R249, R260, R263, R265, R484). -/
def State.canTransmit (s : State) (p : Nat) : Bool :=
  s.available p && !s.remoteFault p && (s.tx p).isNone && !(s.viaduct p && s.inHold (portGroup p)) && !(s.passOf (p / 64) .egress).unserved.contains (p / 16 % 4)
    && !s.slotsStopped (p / 64) && (s.chip.mode = .service || s.chip.mode = .test)

/-- The next copy that a sender in RETRANSMIT resends: the first one kept from the sequence it has come to; copies that
were dropped are passed over (R179, R225). -/
def ViaLink.due (l : ViaLink) : Option RetryEntry :=
  if !l.retransmit then none
  else
    let far (q : Nat) : Nat := (q + 2 ^ 24 - l.una) % 2 ^ 24
    (sortBy (fun e => far e.seq) (l.retry.filter (fun e => decide (far l.resend ≤ far e.seq)))).head?

/-- The next retransmission of a port, when one is under way (R225, R280); none while its egress pipeline is being
replaced (R258). -/
def State.nextResend (s : State) (p : Nat) : Option RetryEntry :=
  if s.viaHeld p || s.egressMoving p then none else (s.viaLink p).due

/-- The length by which an entry is charged and counted: the frame's LEN, or that of a message frame (R192, R211). -/
def State.entryLen (s : State) (e : QEntry) : Nat := if e.msg.isEmpty then (s.desc e.desc).len else e.msg.length

/-- The entry's length is not known yet. -/
def State.entryOpen (s : State) (e : QEntry) : Bool := e.msg.isEmpty && s.open e.desc

/-- Count a copy that is selected from queue q (R297); its bytes once its length is known. -/
def State.countTaken (s : State) (q : Nat) (e : QEntry) : State :=
  let x := s.info e.desc
  let s := s.count (cQueue q 2) 1
  if s.entryOpen e then s.setInfo e.desc { x with taken := x.taken ++ [q] } else s.count (cQueue q 3) (s.entryLen e)

/-- Take the head entry of a queue in hand (R210, R211). A message frame runs no egress pass (R192, assumption 97). -/
def State.takeCopy (s : State) (p q : Nat) (e : QEntry) : State :=
  let g := s.groupOfQueue q
  let charge : Int := ((if s.entryOpen e then s.mtu p else s.entryLen e) : Int) + s.overhead p
  let depth := s.queueDepth q
  let s := match s.aheadOf q with
    | _ :: t => s.setAhead q t
    | [] => s.setQueue q ((s.queue q).drop 1)
  let s := ((s.credit q g (-charge)).resetEmpty q).countTaken q e
  let s := if e.msg.isEmpty then s.setSelected (portGroup p) (s.selectedOf (portGroup p) ++ [(q, e)]) else s
  s.setTx p (some { queue := q, entry := e, group := g, charge := charge, ctCharge := s.entryOpen e, depth := depth })

/-- Issue one GRANT from a pending count; the queue is charged for its 4,096 bytes (R193). -/
def State.issueGrant (s : State) (q dev v : Nat) : State :=
  let s := s.setCmpPending dev v (s.cmpPending dev v - 1)
  (s.cmpSend dev 2 v 1).credit q (s.groupOfQueue q) (-4096)

/-- The port can take a frame and has one to take: a retransmission, or an eligible group (R209). -/
def State.portReady (s : State) (p : Nat) : Bool :=
  s.canTransmit p && ((s.nextResend p).isSome
    || (s.shaperOk (shaperPort p) && (List.range 4).any (fun i => s.groupEligible (p * 4 + i))))

/-- The port that the scheduler of an egress pipeline serves next: its ports in round robin, among those that can take a
frame (R213). -/
def State.nextPort (s : State) (g : Nat) : Option Nat :=
  let i := Tbl.get zeroNat s.egr.rrPipe g
  ((List.range 16).map (fun k => g * 16 + (i + k) % 16)).find? (fun p => s.portReady p)

/-- The round robin of the port's pipeline has served the port (R213). -/
def State.served (s : State) (p : Nat) : State :=
  { s with egr := { s.egr with rrPipe := Tbl.put zeroNat s.egr.rrPipe (portGroup p) ((p + 1) % 16) } }

/-- The hop class of a copy on a viaduct-mode port (R227). -/
def State.txHop (s : State) (d : Nat) : Nat := (s.outHop d).getD 0

/-- A retransmission is taken in hand; its cells are read again, and their guards checked with the descriptor's DEST
(R182, R225). -/
def State.takeResend (s : State) (p : Nat) (r : RetryEntry) : State :=
  let d := r.entry.desc
  let y := s.checkGuards d (s.desc d).dest (holderRetry p r.entry.idx)
  if y.2 then
    y.1.setTx p (some { queue := r.queue, entry := r.entry, charge := 0, bytes := r.bytes, viaSeq := some r.seq,
                        hop := y.1.txHop d, resend := true, tsOut := r.tsOut, stamp := r.stamp, depth := r.depth,
                        cellsUsed := r.cellsUsed })
  else y.1

/-- What a port is served with: a retransmission first, else the group and queue that the scheduler picks (R210). -/
def State.serve (s : State) (p : Nat) : State :=
  match s.nextResend p with
  | some r => s.takeResend p r
  | none =>
    match s.pickQueue p with
    | none => s
    | some (s, q) =>
      match s.headEntry q, s.pendingGrant q with
      | some e, _ => s.takeCopy p q e
      | none, some (dev, v) => s.issueGrant q dev v
      | none, none => s

/-- SCHEDULER_SELECT (R210, R213): the scheduler of an egress pipeline serves the port whose turn it is. -/
def execSchedulerSelect (port : Port) (s : State) : Host.Outcome State Fault Refusal :=
  if s.nextPort (portGroup port) = some port.val then .next ((s.serve port).served port) else .next s

/-- A selection whose first byte has not left is withdrawn when its queue is stopped (R211). -/
def State.withdraw (s : State) (p : Nat) : State :=
  match s.tx p with
  | none => s
  | some t =>
    if t.started || t.resend || !s.queueStopped t.queue then s
    else
      let s := (s.setTx p none).dropPass t.queue t.entry
      let s := s.setAhead t.queue (t.entry :: s.aheadOf t.queue)
      (s.credit t.queue t.group t.charge).count (cQueue t.queue 4) 1

/-! ### Transmission -/

/-- The deck header of a frame that leaves now (R223, R225). -/
def State.txDeck (s : State) (p : Nat) (seq : Option Nat) (hc : Nat) : List Byte :=
  if s.viaduct p then
    match seq with
    | some q => deckHeader q (s.viaLink p).ack hc 0
    | none => deckHeader 0 (s.viaLink p).ack 0 1
  else []

/-- A due ACK has left with a frame (R225). -/
def State.ackSent (s : State) (p : Nat) : State :=
  if s.viaduct p then s.setVia p { (s.viaLink p) with ackDue := false } else s

/-- The start-of-frame delimiter of a copy passes the MAC: the time bases are captured, and the PTP service is given a PTP
message with its capture (R283, R308, R418). -/
def State.startStamp (s : State) (p : Nat) (k : Packet) : State :=
  s.ptpSeen p true k.parsed.pflags k.parsed.hv s.stamp

/-- The link sequence and the credit that a DATA frame of `n` bytes takes (R225, R226). -/
def State.takeSeq (s : State) (p h n : Nat) : State :=
  let l := s.viaLink p
  s.setVia p { l with
    next := (l.next + 1) % 2 ^ 24, used := l.used.set h ((l.used.get h + (n + 255) / 256) % 2 ^ 32) }

/-- The first transmission of a copy starts: its bytes, its link sequence and its credit (R225, R226, R283). Its cells are
read with the guard checked against the tag of its queue entry (R182); a lossless copy on a viaduct-mode port waits for
the credit that its edited length needs. -/
def State.startCopy (s : State) (p : Nat) (t : TxCopy) (k : Packet) : State :=
  let d := t.entry.desc
  let y := s.checkGuards d t.entry.tag (holderQueue t.queue t.entry.idx)
  if !y.2 then y.1
  else
    let t := { t with tsOut := s.tb0Ns, stamp := s.stamp, cellsUsed := 2097152 - s.freeCells }
    let body := (s.copyBytes k t).1
    let data := s.viaduct p && (s.desc d).lossless
    let h := s.txHop d
    if data && !s.viaCovers p h body.length then s
    else
      let seq := if data then some (s.viaLink p).next else none
      let bytes := s.txDeck p seq h ++ body
      let s := if data then s.takeSeq p h body.length else s
      ((s.startStamp p k).ackSent p).setTx p
        (some { t with started := true, bytes := bytes, viaSeq := seq, hop := h, ready := some k })

/-- The bytes of a retransmission without its deck header: those that were sent first, or, when its egress pass has run
again on another pipeline, those that this pass has made (R225, R258); none while that pass still runs. -/
def State.resendBytes (s : State) (t : TxCopy) : List Byte :=
  match t.ready with
  | some k => (s.copyBytes k t).1
  | none => t.bytes

/-- A retransmission starts (R225), under its first link sequence. -/
def State.startResend (s : State) (p : Nat) (t : TxCopy) : State :=
  let body := s.resendBytes t
  if s.viaHeld p || s.egressMoving p || body.isEmpty then s
  else
    (s.ackSent p).setTx p (some { t with
      started := true, bytes := s.txDeck p t.viaSeq (s.txHop t.entry.desc) ++ body })

/-- A viaduct-mode port in reset hold sends idle only (R262). -/
def State.sendsIdle (s : State) (p : Nat) : Bool := s.viaduct p && s.inHold (portGroup p)

/-- TRANSMIT_START (R283): the start-of-frame delimiter of the copy in hand passes to the PCS. -/
def execTransmitStart (port : Port) (s : State) : Host.Outcome State Fault Refusal :=
  let p := port.val
  match s.tx p with
  | none => .next s
  | some t =>
    if t.started || !s.linkUp p || s.chip.mode = .safe || s.sendsIdle p then .next s
    else if t.resend then .next (s.startResend p t)
    else if !t.entry.msg.isEmpty then
      .next ((s.ackSent p).setTx p (some { t with started := true, bytes := s.txDeck p none 0 ++ t.entry.msg }))
    else
      match t.ready with
      | some k => .next (s.startCopy p t k)
      | none => .next s

/-- The latency of a completed copy goes to its queue's histogram, unless its pass excluded it (R283, R288, R297). -/
def State.latency (s : State) (t : TxCopy) (k : Packet) : State :=
  if k.latched.nohist then s.count (cQueue t.queue 6) 1
  else s.histAdd t.queue (t.tsOut - k.mdw 5).toNat

/-- The difference of a cut-through charge is credited back at the last byte to every counter that was charged (R211). -/
def State.settleCharge (s : State) (p : Nat) (t : TxCopy) : State :=
  if t.ctCharge then s.credit t.queue t.group (t.charge - (((s.desc t.entry.desc).len : Int) + s.overhead p)) else s

/-- A frame has left a port: its bytes without the deck header are counted (R297). -/
def State.sent (s : State) (p : Nat) (deck body : List Byte) : State :=
  ((s.emit (.frame p (deck ++ body) false)).count (cPort p 10) 1).count (cPort p 11) body.length

/-- What becomes of a copy whose frame has left: delivered, or kept for link retry (R175, R225, R239). -/
def State.copySent (s : State) (p : Nat) (t : TxCopy) (body : List Byte) : State :=
  let d := t.entry.desc
  let h := holderQueue t.queue t.entry.idx
  match t.viaSeq with
  | some q =>
    let l := s.viaLink p
    let s := s.setVia p { l with retry := l.retry ++ [{
      seq := q, queue := t.queue, entry := t.entry, bytes := body, tsOut := t.tsOut, stamp := t.stamp, depth := t.depth,
      cellsUsed := t.cellsUsed }] }
    (s.holderOp d h [holderRetry p t.entry.idx]).1
  | none => (s.outcome d 3).release d h

/-- A copy sent for the first time is complete; the guards of every cell have been checked as it passed (R182). -/
def State.finishCopy (s : State) (p : Nat) (t : TxCopy) (k : Packet) : State :=
  let y := s.checkGuards t.entry.desc t.entry.tag (holderQueue t.queue t.entry.idx)
  if !y.2 then y.1
  else
    let r := s.copyBytes k t
    let s := s.sent p (if s.viaduct p then t.bytes.take 8 else []) r.1
    let s := match r.2 with
      | some e => s.count (cPort p e) 1
      | none => s
    ((((s.settleCharge p t).latency t k).setTx p none).freeEntry t.entry).copySent p t r.1

/-- A message frame is complete (R192). -/
def State.finishMessage (s : State) (p : Nat) (t : TxCopy) : State :=
  (s.sent p (if s.viaduct p then t.bytes.take 8 else []) t.entry.msg).setTx p none

/-- A retransmission is complete (R225); an ACK that came meanwhile may have moved the sender on already. -/
def State.finishResend (s : State) (p : Nat) (t : TxCopy) : State :=
  let l := s.viaLink p
  let q := t.viaSeq.getD 0
  let far (n : Nat) : Nat := (n + 2 ^ 24 - l.una) % 2 ^ 24
  let s := (s.sent p (t.bytes.take 8) (t.bytes.drop 8)).count (cPort p 18) 1
  let next := if far l.resend ≤ far q && decide (far q < far l.next) then (q + 1) % 2 ^ 24 else l.resend
  (s.setVia p { l with resend := next }).setTx p none

/-- TRANSMIT_COMPLETE (R249): the last byte of the FCS has passed to the PCS. A cut-through copy completes only once
its frame has ended good, and none while the manager holds its outputs (R26). -/
def execTransmitComplete (port : Port) (s : State) : Host.Outcome State Fault Refusal :=
  let p := port.val
  match s.tx p with
  | none => .next s
  | some t =>
    let x := s.info t.entry.desc
    if !t.started || s.bufferPaused then .next s
    else if t.resend then .next (s.finishResend p t)
    else if !t.entry.msg.isEmpty then .next (s.finishMessage p t)
    else
      match t.ready with
      | some k => if x.ended && (x.good || x.ring.isSome) then .next (s.finishCopy p t k) else .next s
      | none => .next s

/-! ### PFC and PAUSE (R219, R220) -/

/-- PFC_XOFF_REFRESH (R32, R219, R262): half of the time has passed, and something still holds the priority off. -/
def execPfcXoffRefresh (port : Port) (pri : Fin 8) (s : State) : Host.Outcome State Fault Refusal :=
  if s.xoffCause port pri then .next (s.xoff port [pri.val]) else .next s

/-- Set the time of a stop; 0 ends it. -/
def State.setStop (s : State) (p k n : Nat) : State :=
  { s with egr := { s.egr with stops := Tbl.put zeroNat s.egr.stops (p * 9 + k) n } }

/-- PFC_RX (R220, R233). -/
def execPfcRx (port : Port) (enable : Byte) (times : List (BitVec 16)) (s : State) :
    Host.Outcome State Fault Refusal :=
  let p := port.val
  if !s.linkUp p then .next s
  else
    let s := s.count (cPort p 8) 1
    if s.viaduct p then .next s
    else
      let s := (List.range 8).foldl (fun s k =>
        if enable.getLsbD k && s.bit (0xC03000 + p * 4) k then s.setStop p k (times.getD k 0).toNat else s) s
      .next (s.withdraw p)

/-- PAUSE_RX (R220, R232). -/
def execPauseRx (port : Port) (quanta : BitVec 16) (s : State) : Host.Outcome State Fault Refusal :=
  let p := port.val
  if !s.linkUp p then .next s
  else
    let s := s.count (cPort p 9) 1
    if !s.bit (0xC01000 + p * 4) 30 then .next s
    else .next ((s.setStop p 8 quanta.toNat).withdraw p)

/-- PFC_PAUSE_EXPIRE (R220). -/
def execPfcPauseExpire (port : Port) (pri : Option (Fin 8)) (s : State) : Host.Outcome State Fault Refusal :=
  match pri with
  | some k => .next (s.setStop port.val k.val 0)
  | none => .next (s.setStop port.val 8 0)

/-- A nanosecond of core clocks passes: clocks in which a stop holds queued entries are counted (R297). -/
def State.countStopped (s : State) (clocks : Nat) : State :=
  if s.egr.stops.isEmpty || clocks = 0 then s
  else
    s.usedQueues.foldl (fun s q => if s.queueStopped q && !s.queueEmpty q then s.count (cQueue q 5) clocks else s) s

end Sys2Proof.Machine
end

