-- ==== Sys2Proof/Machine/Crypt.lean ====
section
/-! DEFINITION. The two public algorithms that signatures rest on (R95, R493, R495): SHA-384, and ECDSA P-384 as FIPS
186-5 verifies it. Their constants and steps stand in those standards, not in the spec (assumption 115). Words are
numbers; `force` has a number evaluated before it is used. -/

namespace Sys2Proof.Machine

/-- Apply a function to a number that has been evaluated. -/
def force {α : Type} (n : Nat) (k : Nat → α) : α :=
  match n with
  | 0 => k 0
  | m + 1 => k (m + 1)

theorem force_eq {α : Type} (n : Nat) (k : Nat → α) : force n k = k n := by cases n <;> rfl

/-! ### SHA-384 -/

/-- The round constants of SHA-384. -/
def shaK : List Nat :=
  [0x428A2F98D728AE22, 0x7137449123EF65CD, 0xB5C0FBCFEC4D3B2F, 0xE9B5DBA58189DBBC, 0x3956C25BF348B538,
   0x59F111F1B605D019, 0x923F82A4AF194F9B, 0xAB1C5ED5DA6D8118, 0xD807AA98A3030242, 0x12835B0145706FBE,
   0x243185BE4EE4B28C, 0x550C7DC3D5FFB4E2, 0x72BE5D74F27B896F, 0x80DEB1FE3B1696B1, 0x9BDC06A725C71235,
   0xC19BF174CF692694, 0xE49B69C19EF14AD2, 0xEFBE4786384F25E3, 0x0FC19DC68B8CD5B5, 0x240CA1CC77AC9C65] ++
  [0x2DE92C6F592B0275, 0x4A7484AA6EA6E483, 0x5CB0A9DCBD41FBD4, 0x76F988DA831153B5, 0x983E5152EE66DFAB,
   0xA831C66D2DB43210, 0xB00327C898FB213F, 0xBF597FC7BEEF0EE4, 0xC6E00BF33DA88FC2, 0xD5A79147930AA725,
   0x06CA6351E003826F, 0x142929670A0E6E70, 0x27B70A8546D22FFC, 0x2E1B21385C26C926, 0x4D2C6DFC5AC42AED,
   0x53380D139D95B3DF, 0x650A73548BAF63DE, 0x766A0ABB3C77B2A8, 0x81C2C92E47EDAEE6, 0x92722C851482353B] ++
  [0xA2BFE8A14CF10364, 0xA81A664BBC423001, 0xC24B8B70D0F89791, 0xC76C51A30654BE30, 0xD192E819D6EF5218,
   0xD69906245565A910, 0xF40E35855771202A, 0x106AA07032BBD1B8, 0x19A4C116B8D2D0C8, 0x1E376C085141AB53,
   0x2748774CDF8EEB99, 0x34B0BCB5E19B48A8, 0x391C0CB3C5C95A63, 0x4ED8AA4AE3418ACB, 0x5B9CCA4F7763E373,
   0x682E6FF3D6B2B8A3, 0x748F82EE5DEFB2FC, 0x78A5636F43172F60, 0x84C87814A1F0AB72, 0x8CC702081A6439EC] ++
  [0x90BEFFFA23631E28, 0xA4506CEBDE82BDE9, 0xBEF9A3F7B2C67915, 0xC67178F2E372532B, 0xCA273ECEEA26619C,
   0xD186B8C721C0C207, 0xEADA7DD6CDE0EB1E, 0xF57D4F7FEE6ED178, 0x06F067AA72176FBA, 0x0A637DC5A2C898A6,
   0x113F9804BEF90DAE, 0x1B710B35131C471B, 0x28DB77F523047D84, 0x32CAAB7B40C72493, 0x3C9EBE0A15C9BEBC,
   0x431D67C49C100D4C, 0x4CC5D4BECB3E42B6, 0x597F299CFC657E2A, 0x5FCB6FAB3AD6FAEC, 0x6C44198C4A475817]

/-- Eight words of a digest under way. -/
structure Sha where
  a : Nat
  b : Nat
  c : Nat
  d : Nat
  e : Nat
  f : Nat
  g : Nat
  h : Nat

/-- The initial value of SHA-384. -/
def shaStart : Sha := {
  a := 0xCBBB9D5DC1059ED8, b := 0x629A292A367CD507, c := 0x9159015A3070DD17, d := 0x152FECD8F70E5939,
  e := 0x67332667FFC00B31, f := 0x8EB44A8768581511, g := 0xDB0C2E0D64F98FA7, h := 0x47B5481DBEFA4FA4 }

/-- Rotate a 64-bit word right. -/
def ror64 (x n : Nat) : Nat := (x >>> n) ||| ((x <<< (64 - n)) % 2 ^ 64)

def shaBig0 (x : Nat) : Nat := ror64 x 28 ^^^ (ror64 x 34 ^^^ ror64 x 39)
def shaBig1 (x : Nat) : Nat := ror64 x 14 ^^^ (ror64 x 18 ^^^ ror64 x 41)
def shaSmall0 (x : Nat) : Nat := ror64 x 1 ^^^ (ror64 x 8 ^^^ (x >>> 7))
def shaSmall1 (x : Nat) : Nat := ror64 x 19 ^^^ (ror64 x 61 ^^^ (x >>> 6))
def shaCh (x y z : Nat) : Nat := z ^^^ (x &&& (y ^^^ z))
def shaMaj (x y z : Nat) : Nat := (x &&& y) ^^^ ((x &&& z) ^^^ (y &&& z))

/-- The rounds of one block: the constants left, and the next sixteen words of the schedule. -/
def shaRounds : List Nat → List Nat → Sha → Sha
  | k :: ks, w0 :: w1 :: ws, x =>
    force ((x.h + shaBig1 x.e + shaCh x.e x.f x.g + k + w0) % 2 ^ 64) fun t =>
    force ((x.d + t) % 2 ^ 64) fun e =>
    force ((t + shaBig0 x.a + shaMaj x.a x.b x.c) % 2 ^ 64) fun a =>
    force ((shaSmall1 (ws.getD 12 0) + ws.getD 7 0 + shaSmall0 w1 + w0) % 2 ^ 64) fun w =>
    shaRounds ks (w1 :: (ws ++ [w])) { a := a, b := x.a, c := x.b, d := x.c, e := e, f := x.e, g := x.f, h := x.g }
  | _, _, x => x

/-- One block into the digest. -/
def shaBlock (x : Sha) (ws : List Nat) (k : Sha → Sha) : Sha :=
  let y := shaRounds shaK ws x
  force ((x.a + y.a) % 2 ^ 64) fun a => force ((x.b + y.b) % 2 ^ 64) fun b =>
  force ((x.c + y.c) % 2 ^ 64) fun c => force ((x.d + y.d) % 2 ^ 64) fun d =>
  force ((x.e + y.e) % 2 ^ 64) fun e => force ((x.f + y.f) % 2 ^ 64) fun f =>
  force ((x.g + y.g) % 2 ^ 64) fun g => force ((x.h + y.h) % 2 ^ 64) fun h =>
  k { a := a, b := b, c := c, d := d, e := e, f := f, g := g, h := h }

/-- The sixteen words of the block at an offset of a message. -/
def shaWords (bs : List Byte) : List Nat := (List.range 16).map (fun i => beNat (sliceBytes bs (8 * i) 8))

/-- `n` blocks of a padded message. -/
def shaBlocks : Nat → List Byte → Sha → Sha
  | 0, _, x => x
  | n + 1, bs, x => shaBlock x (shaWords bs) (shaBlocks n (bs.drop 128))

/-- The padding of a message of `n` bytes. -/
def shaPad (n : Nat) : List Byte := 0x80 :: (List.replicate ((111 + 128 - n % 128) % 128) 0 ++ beBytes 16 (8 * n))

/-- The SHA-384 digest of a message: 48 bytes. -/
def sha384 (bs : List Byte) : List Byte :=
  let x := shaBlocks ((bs.length + 16) / 128 + 1) (bs ++ shaPad bs.length) shaStart
  [x.a, x.b, x.c, x.d, x.e, x.f].flatMap (beBytes 8)

/-! ### ECDSA P-384 -/

/-- The prime of the field, the order of the base point, the coefficient b, and the base point. -/
def ecP : Nat := 2 ^ 384 - 2 ^ 128 - 2 ^ 96 + 2 ^ 32 - 1
def ecN : Nat := 0xFFFFFFFFFFFFFFFFFFFFFFFFFFFFFFFFFFFFFFFFFFFFFFFFC7634D81F4372DDF581A0DB248B0A77AECEC196ACCC52973
def ecB : Nat := 0xB3312FA7E23EE7E4988E056BE3F82D19181D9C6EFE8141120314088F5013875AC656398D8A2ED19D2A85C8EDD3EC2AEF
def ecGx : Nat := 0xAA87CA22BE8B05378EB1C71EF320AD746E1D3B628BA79B9859F741E082542A385502F25DBF55296C3A545E3872760AB7
def ecGy : Nat := 0x3617DE4A96262C6F5D9E98BF9292DC29F8F41DBD289A147CE9DA3113B5F0B8C00A60B1CE1D7E819D7A431D7C90EA0E5F

/-- A point in Jacobian coordinates; z = 0 is the point at infinity. -/
structure EcPoint where
  x : Nat
  y : Nat
  z : Nat

def ecSub (a b : Nat) : Nat := (a + (ecP - b % ecP)) % ecP
def ecMul (a b : Nat) : Nat := a * b % ecP

/-- Twice a point, handed on. -/
def ecDouble {α : Type} (q : EcPoint) (k : EcPoint → α) : α :=
  force (ecMul q.z q.z) fun d =>
  force (ecMul q.y q.y) fun g =>
  force (ecMul q.x g) fun b =>
  force (ecMul 3 (ecMul (ecSub q.x d) (q.x + d))) fun a =>
  force (ecSub (ecMul a a) (8 * b)) fun x =>
  force (ecSub (ecSub (ecMul (q.y + q.z) (q.y + q.z)) g) d) fun z =>
  force (ecSub (ecMul a (ecSub (4 * b) x)) (8 * ecMul g g)) fun y =>
  k { x := x, y := y, z := z }

/-- The sum of two points, handed on. -/
def ecAdd {α : Type} (q r : EcPoint) (k : EcPoint → α) : α :=
  if q.z = 0 then k r
  else if r.z = 0 then k q
  else
    force (ecMul q.z q.z) fun za =>
    force (ecMul r.z r.z) fun zb =>
    force (ecMul q.x zb) fun ua =>
    force (ecMul r.x za) fun ub =>
    force (ecMul q.y (ecMul r.z zb)) fun sa =>
    force (ecMul r.y (ecMul q.z za)) fun sb =>
    force (ecSub ub ua) fun h =>
    force (ecSub sb sa) fun m =>
    if h = 0 then (if m = 0 then ecDouble q k else k { x := 1, y := 1, z := 0 })
    else
      force (ecMul h h) fun hh =>
      force (ecMul h hh) fun hc =>
      force (ecMul ua hh) fun v =>
      force (ecSub (ecSub (ecMul m m) hc) (2 * v)) fun x =>
      force (ecSub (ecMul m (ecSub v x)) (ecMul sa hc)) fun y =>
      force (ecMul (ecMul q.z r.z) h) fun z =>
      k { x := x, y := y, z := z }

/-- The sum of u times a point q, v times a point r, where s is q + r, over the low `n` bits of u and v. -/
def ecLadder (u v : Nat) (q r s : EcPoint) : Nat → EcPoint → EcPoint
  | 0, acc => acc
  | n + 1, acc => ecDouble acc fun d =>
    match u.testBit n, v.testBit n with
    | false, false => ecLadder u v q r s n d
    | true, false => ecAdd d q (ecLadder u v q r s n)
    | false, true => ecAdd d r (ecLadder u v q r s n)
    | true, true => ecAdd d s (ecLadder u v q r s n)

/-- A power modulo the order: the low `n` bits of the exponent. -/
def ecPow (b e : Nat) : Nat → Nat → Nat
  | 0, acc => acc
  | n + 1, acc => force (acc * acc % ecN) fun q => force (if e.testBit n then q * b % ecN else q) fun p => ecPow b e n p

/-- An ECDSA P-384 signature (r, s) of a digest verifies under the key (x, y) (FIPS 186-5). -/
def ecdsaVerify (x y r s : Nat) (digest : List Byte) : Bool :=
  force (beNat digest) fun z =>
  if r = 0 ∨ ecN ≤ r ∨ s = 0 ∨ ecN ≤ s ∨ ecP ≤ x ∨ ecP ≤ y then false
  else if ecMul y y ≠ (x * x * x + ecB + 3 * (ecP - x)) % ecP then false
  else
    force (ecPow s (ecN - 2) 384 1) fun w =>
    force (z * w % ecN) fun u =>
    force (r * w % ecN) fun v =>
    let g : EcPoint := { x := ecGx, y := ecGy, z := 1 }
    let q : EcPoint := { x := x, y := y, z := 1 }
    ecAdd g q fun t =>
      let p := ecLadder u v g q t 384 { x := 1, y := 1, z := 0 }
      force (ecMul p.z p.z) fun zz =>
      if zz = 0 then false
      else decide (ecMul r zz = p.x) || (decide (r + ecN < ecP) && decide (ecMul (r + ecN) zz = p.x))

/-! ### The signature trailer (R95) -/

/-- The 196-byte trailer of an image or a manifest. -/
structure SigTrailer where
  /-- the public key, a SEC1 uncompressed P-384 point: bytes 0 to 96 -/
  key  : List Byte
  /-- bytes 97 to 99 -/
  zero : List Byte
  r    : Nat
  s    : Nat
deriving DecidableEq, Repr

def trailerOf (bs : List Byte) : SigTrailer := {
  key := sliceBytes bs 0 97, zero := sliceBytes bs 97 3, r := beNat (sliceBytes bs 100 48), s := beNat (sliceBytes bs 148 48) }

/-- The signature of a trailer over a message verifies: the key is an uncompressed point, bytes 97 to 99 are 0, and the
ECDSA verifies over the SHA-384 digest. -/
def SigTrailer.verifies (t : SigTrailer) (message : List Byte) : Bool :=
  t.key.head? = some 0x04 && t.zero.all (fun b => b = 0)
    && ecdsaVerify (beNat (sliceBytes t.key 1 48)) (beNat (sliceBytes t.key 49 48)) t.r t.s (sha384 message)

end Sys2Proof.Machine
end

