-- ==== Sys2Proof/Machine/Images.lean ====
section
/-! DEFINITION. Program images and the checks of a load (R55 to R99): header, section table and items. -/

namespace Sys2Proof.Machine

/-- The codes of R99. -/
inductive LoadCode where
  | ok | badHeader | badSection | sigMissing | keyUnknown | sigBad | region | encoding | dstConflict | dstProtected
  | vendorOnly | barred | passControl | selector | vendorMismatch | targetBusy | dmaError | deviceState | readback
deriving DecidableEq, Repr

def LoadCode.number : LoadCode → Nat
  | .ok => 0 | .badHeader => 1 | .badSection => 2 | .sigMissing => 3 | .keyUnknown => 4 | .sigBad => 5 | .region => 6
  | .encoding => 7 | .dstConflict => 8 | .dstProtected => 9 | .vendorOnly => 10 | .barred => 11 | .passControl => 12
  | .selector => 13 | .vendorMismatch => 14 | .targetBusy => 15 | .dmaError => 16 | .deviceState => 17 | .readback => 18

/-- Where a fault of a load lies (R106): section type, pass, stage, item index. -/
structure LoadPlace where
  section_ : Nat := 0
  pass     : Nat := 0
  stage    : Nat := 0
  index    : Nat := 0
deriving DecidableEq, Repr

/-- A field of an image, little-endian. -/
def imgField (img : List Byte) (off n : Nat) : Nat := leNat (sliceBytes img off n)

/-- The header of an image (R92). -/
structure ImageHeader where
  magic    : Nat
  format   : Nat
  region   : Nat
  flags    : Nat
  version  : Nat
  require  : Nat
  length   : Nat
  sections : Nat
  rest     : Nat
deriving DecidableEq, Repr

def imageHeader (img : List Byte) : ImageHeader := {
  magic := imgField img 0 4, format := imgField img 4 2, region := imgField img 6 1, flags := imgField img 7 1,
  version := imgField img 8 4, require := imgField img 12 4, length := imgField img 16 4, sections := imgField img 20 2,
  rest := imgField img 22 42 }

/-- The header checks of step 4 (R92, R98, assumption 51). -/
def ImageHeader.good (h : ImageHeader) (cust : Bool) : Bool :=
  h.magic = 0x4B4C5450 && h.format = 1 && h.region = cust.toNat && h.flags ≤ 1 && h.rest = 0 && h.length % 8 = 0
    && 64 ≤ h.length && h.length ≤ 1048576 && h.sections ≤ 256 && decide (64 + 16 * h.sections ≤ h.length)
    && (if cust then h.version ≠ 0 && h.require % 256 = 0 && h.require < 2 ^ 24
        else h.version < 2 ^ 24 && h.require = 0)

/-- A section of an image (R93). -/
structure Section where
  type   : Nat
  pass   : Nat
  stage  : Nat
  first  : Nat
  count  : Nat
  offset : Nat
  zero   : Bool
deriving DecidableEq, Repr

def sectionAt (img : List Byte) (i : Nat) : Section :=
  let o := 64 + 16 * i
  { type := imgField img o 1, pass := imgField img (o + 1) 1, stage := imgField img (o + 2) 1,
    first := imgField img (o + 4) 2, count := imgField img (o + 6) 2, offset := imgField img (o + 8) 4,
    zero := imgField img (o + 3) 1 = 0 && imgField img (o + 12) 4 = 0 }

/-- Bytes of an item of each type (R93). -/
def itemSize (type : Nat) : Nat :=
  if type = 1 then 72 else if type = 2 then 2 else if type = 3 then 32 else if type = 4 then 1
  else if type = 5 then 8 else 128

/-- The first and last item of a type in a region (R87). -/
def itemRange (type : Nat) (cust : Bool) : Option (Nat × Nat) :=
  match type, cust with
  | 1, false => some (0, 0x3F)
  | 1, true => some (0x40, 0x7F)
  | 2, false => some (0, 0x7F)
  | 2, true => some (0x80, 0xFF)
  | 3, false => some (48, 63)
  | 3, true => some (0, 47)
  | 4, true => some (0, 1023)
  | 5, false => some (0, 0x7FF)
  | 5, true => some (0x800, 0xFFF)
  | 6, false => some (0, 127)
  | _, _ => none

/-- A type that belongs to a stage. -/
def staged (type : Nat) : Bool := type = 1 || type = 2 || type = 3

/-- Stages of a pass (R53). -/
def stagesOf (pass : Nat) : Nat := if pass = 0 then 24 else 16

/-- The section is well-formed by itself (R93, R98). Data that reach beyond LENGTH are a range that the image does not
hold, and give BAD_SECTION too: DESIGN CHOICE, R99 names no code for them (assumption 104). -/
def Section.good (x : Section) (cust : Bool) (length : Nat) : Bool :=
  match itemRange x.type cust with
  | none => false
  | some (lo, hi) =>
    x.zero && x.offset % 8 = 0 && decide (lo ≤ x.first) && decide (x.first + x.count ≤ hi + 1)
      && decide (x.offset + x.count * itemSize x.type ≤ length)
      && (if staged x.type then x.pass ≤ 1 && decide (x.stage < stagesOf x.pass) else x.pass = 0 && x.stage = 0)

/-- Two sections write the same item; an empty one writes none (R98). -/
def Section.overlaps (x y : Section) : Bool :=
  x.type = y.type && x.pass = y.pass && x.stage = y.stage && x.count ≠ 0 && y.count ≠ 0
    && decide (x.first < y.first + y.count) && decide (y.first < x.first + x.count)

def Section.place (x : Section) (index : Nat) : LoadPlace :=
  { section_ := x.type, pass := x.pass, stage := x.stage, index := index }

/-- The first section that breaks a rule of the section table. -/
def badSection (cust : Bool) (length : Nat) : List Section → List Section → Option Section
  | _, [] => none
  | seen, x :: t =>
    if !x.good cust length || seen.any (fun y => y.overlaps x) then some x else badSection cust length (x :: seen) t

/-! ### Items (R55, R56, R63, R78, R89, R93, R107) -/

/-- The slots of a microword that write, as the containers they name. -/
def mwDests (w : Nat) : List Nat :=
  (List.range 16).filterMap (fun k =>
    let x := mwSlot w k
    if slotOp x = 0 then none else some (containerOf (slotDst x) (mwSeq w % 2 = 1)))

/-- No container twice. -/
def distinct : List Nat → Bool
  | [] => true
  | x :: t => !t.contains x && distinct t

/-- A container that a customer word must not write (R47, R48, R78). -/
def protectedContainer (egress : Bool) (c : Nat) : Bool :=
  (224 ≤ c && c < 256) || [0, 1, 2, 3, 4, 5, 12, 13, 14].contains (c - 256) && 256 ≤ c || (egress && c = 262)

/-- Bits of the microword's fields that hold an invalid encoding or a reserved 1 (R59, R64, R72, R78). -/
def mwInvalid (w : Nat) : Bool :=
  let seq := mwSeq w
  let key := mwKey w
  let emit := mwEmit w
  bitsOf seq 31 30 = 3 || bitsOf seq 2 1 = 3 || bitsOf key 49 47 = 7 || bitsOf key 43 0 ≠ 0 || bitsOf emit 26 25 = 3
    || 4 ≤ bitsOf emit 24 22 || bitsOf emit 8 0 ≠ 0

/-- A word sets an EMIT control outside its pass, or an egress word sets RECIRC (R72, R75). -/
def mwPassControl (w : Nat) (egress : Bool) : Bool :=
  let emit := mwEmit w
  if egress then bitsOf emit 21 21 = 1 || bitsOf (mwSeq w) 5 5 = 1
  else bitsOf emit 26 25 ≠ 0 || bitsOf emit 24 22 = 1 || bitsOf emit 24 22 = 2 || bitsOf emit 18 18 = 1
    || bitsOf emit 17 17 = 1

/-- The three opcodes that a word may produce by itself. -/
def mwOpcodes (w : Nat) : List Nat := [bitsOf (mwSeq w) 29 22, bitsOf (mwSeq w) 21 14, bitsOf (mwSeq w) 13 6]

/-- An opcode that a customer word must not name (R63, R78). -/
def barredOp (callable : Nat → Bool) (op : Nat) : Bool := decide (op < 0x80) && !callable op

/-- The fault of a microword with the lowest code (R78, R89, R99). -/
def checkWord (w : Nat) (cust egress : Bool) (callable : Nat → Bool) : LoadCode :=
  if (48 ≤ bitsOf (mwKey w) 63 58) = cust then .region
  else if mwInvalid w then .encoding
  else if !distinct (mwDests w) then .dstConflict
  else if cust && (mwDests w).any (protectedContainer egress) then .dstProtected
  else if cust && ((List.range 16).any (fun k => slotOp (mwSlot w k) = 0x3F)
      || (bitsOf (mwKey w) 49 47 ≠ 0 && 240 ≤ bitsOf (mwKey w) 57 50) || 0xF0 ≤ bitsOf (mwEmit w) 16 9) then .vendorOnly
  else if cust && (mwOpcodes w).any (barredOp callable) then .barred
  else if mwPassControl w egress then .passControl
  else .ok

/-- The fault of a dispatch entry (R55, R56). -/
def checkDispatch (v : Nat) (cust : Bool) : LoadCode :=
  if v / 2 ^ 15 % 2 = 1 && (64 ≤ v % 128) ≠ cust then .region
  else if bitsOf v 13 7 ≠ 0 then .encoding
  else .ok

/-- The fault of a key map (R46, R93). -/
def checkKeyMap (v : Nat) : LoadCode :=
  if (List.range 16).any (fun k => bitsOf v (16 * k + 15) (16 * k + 13) ≠ 0) then .encoding
  else if (List.range 16).any (fun k => 0x140 ≤ mapSelector v k && mapSelector v k ≠ 0x1FF) then .selector
  else .ok

/-- The fault of an item (R99). -/
def checkItem (type : Nat) (cust egress : Bool) (callable : Nat → Bool) (v : Nat) : LoadCode :=
  if type = 1 then checkWord v cust egress callable
  else if type = 2 then checkDispatch v cust
  else if type = 3 then checkKeyMap v
  else if type = 4 then (if v = 0 || 0x80 ≤ v then .ok else .barred)
  else if type = 6 then (if bitsOf v 31 21 ≠ 0 || v / 2 ^ (21 * 32) ≠ 0 then .encoding else .ok)
  else .ok

/-- An item of an image. -/
def itemOf (img : List Byte) (x : Section) (k : Nat) : Nat :=
  imgField img (x.offset + k * itemSize x.type) (itemSize x.type)

/-- The first item of a list of sections that fails its check. -/
def badItem (img : List Byte) (cust : Bool) (callable : Nat → Bool) : List Section → Option (LoadCode × LoadPlace)
  | [] => none
  | x :: t =>
    match (List.range x.count).find? (fun k => checkItem x.type cust (x.pass = 1) callable (itemOf img x k) ≠ .ok) with
    | some k => some (checkItem x.type cust (x.pass = 1) callable (itemOf img x k), x.place (x.first + k))
    | none => badItem img cust callable t

/-- CALLABLE of the record of opcode `op` among the records of an image (R107): bits [15] PRESENT and [14] CALLABLE. -/
def imageCallable (img : List Byte) (secs : List Section) (op : Nat) : Bool :=
  match secs.find? (fun x => x.type = 6 && decide (x.first ≤ op) && decide (op < x.first + x.count)) with
  | some x => bitsOf (itemOf img x (op - x.first)) 15 14 = 3
  | none => false

end Sys2Proof.Machine
end

