-- ==== Sys2Proof/Machine/Loader.lean ====
section
/-! DEFINITION. Loading an image into the shadow generation and the joint that makes it active (R87 to R119). -/

namespace Sys2Proof.Machine

/-- The shadow generation. -/
def State.shadowGen (s : State) : Bool := !s.activeGen
/-- MC_SHADOW.STATE (R104). -/
def State.shadowState (s : State) : Nat := s.fld 0x10C 26 24
def State.setShadow (s : State) (n : Nat) : State := s.setFld 0x10C 26 24 n

/-- The source of faults of loads, window writes and joints (R525). -/
def loadSource : Nat := srcChip 0 3

/-! ### Loads -/

/-- MC_LOAD_STATUS after a load or a refused write (R106). -/
def State.loadStatus (s : State) (st : Nat) (c : LoadCode) (x : LoadPlace) : State :=
  let w : Word := 0
  let w := setBits (setBits (setBits w 30 19 x.index) 18 14 x.stage) 13 13 x.pass
  s.setReg 0x12C (setBits (setBits (setBits w 12 10 x.section_) 9 2 c.number) 1 0 st)

def State.loadBusy (s : State) : Bool := s.fld 0x12C 1 0 = 1

/-- A load ends in ERROR (R98, R395). -/
def State.loadFails (s : State) (c : LoadCode) (x : LoadPlace) : State := (s.loadStatus 3 c x).irq 0

/-- LOAD_START (R98, R105): MC_LOAD_CTRL is written. A START during a load is ignored with a class-N fault. Where both
DEVICE_STATE and TARGET_BUSY hold, the first is reported: DESIGN CHOICE, R99 orders no two of them (assumption 103). -/
def State.loadStart (s : State) (value : Word) : State :=
  let s := s.writeOrdinary 0x120 value
  if getBits value 0 0 = 0 then s
  else if s.loadBusy then s.latchFault loadSource .n 0x120
  else if s.chip.mode = .recovery ∨ s.chip.mode = .safe then s.loadFails .deviceState {}
  else if s.progs.joint.isSome ∨ s.shadowState = 5 then s.loadFails .targetBusy {}
  else
    let s := { s with progs := { s.progs with loadCust := s.bit 0x120 1, loadPrev := s.shadowState } }
    (s.loadStatus 1 .ok {}).setShadow 1

def execLoadStart (value : Word) (s : State) : Host.Outcome State Fault Refusal := .next (s.loadStart value)

/-- A hash as it stands in the fuses: twelve words, the first holding the first bytes of the digest (R96, R415). -/
def hashWords (digest : List Byte) : List Word :=
  (List.range 12).map (fun k => BitVec.ofNat 32 (beNat (sliceBytes digest (4 * k) 4)))

/-- The SHA-384 digest of a public key is a hash that the region takes: VK0 or VK1 with its revocation fuse intact, or
OWNER_KEY_HASH (R95, R96). -/
def State.keyPermitted (s : State) (cust : Bool) (key : List Byte) : Bool :=
  let h := hashWords (sha384 key)
  if cust then h = s.progs.ownerHash
  else (h = s.progs.vk0 && !s.progs.revoked0) || (h = s.progs.vk1 && !s.progs.revoked1)

/-- The device requires a signature of the image: of every vendor image, and of a customer image when OWNER_KEY_EN is
blown (R95, R96). -/
def State.signatureNeeded (s : State) (cust : Bool) : Bool := !cust || s.progs.ownerEn

/-- The signature checks of step 5, in their order, by the trailer after LENGTH bytes (R95, R96, R99). -/
def State.checkSignature (s : State) (cust : Bool) (h : ImageHeader) (img : List Byte) : LoadCode :=
  let t := trailerOf (img.drop h.length)
  if !s.signatureNeeded cust then .ok
  else if h.flags % 2 = 0 then .sigMissing
  else if !s.keyPermitted cust t.key then .keyUnknown
  else if !t.verifies (img.take h.length) then .sigBad
  else .ok

/-- Bytes of an image that the device reads: LENGTH, and the trailer where a signature is needed and there (R95, R98). -/
def State.imageNeeds (s : State) (cust : Bool) (h : ImageHeader) : Nat :=
  h.length + (if s.signatureNeeded cust && h.flags % 2 = 1 then 196 else 0)

/-- A customer region's VENDOR_REQ is met by a vendor version (R97). -/
def versionMet (req : Nat) (vendor : Nat) : Bool :=
  req / 65536 % 256 = vendor / 65536 % 256 && decide (req / 256 % 256 ≤ vendor / 256 % 256)

/-- The sections of an image. -/
def sectionsOf (img : List Byte) (n : Nat) : List Section := (List.range n).map (sectionAt img)

/-- The first fault of an image under steps 4 to 6 of R98, in the order of R99. -/
def State.checkImage (s : State) (img : List Byte) : LoadCode × LoadPlace :=
  let cust := s.progs.loadCust
  let h := imageHeader img
  if !h.good cust then (.badHeader, {})
  else if img.length < s.imageNeeds cust h then (.dmaError, {})
  else
    match s.checkSignature cust h img with
    | .ok =>
      let secs := sectionsOf img h.sections
      match badSection cust h.length [] secs with
      | some x => (.badSection, x.place x.first)
      | none =>
        match badItem img cust (s.callable 0 s.shadowGen) secs with
        | some r => r
        | none =>
          if cust && !versionMet h.require (s.fld 0x10C 23 0) then (.vendorMismatch, {}) else (.ok, {})
    | c => (c, {})

/-- An item lies in the customer region (R87). -/
def custItem (kind index : Nat) : Bool :=
  match itemRange kind true with
  | some (lo, hi) => decide (lo ≤ index) && decide (index ≤ hi)
  | none => false

/-- A store key names an item of a region of a generation. -/
def inRegion (genB cust : Bool) (key : Nat) : Bool :=
  (key / 2 ^ 24 % 2 = 1) = genB && custItem (key / 2 ^ 20 % 16) (key % 2 ^ 13) = cust

/-- Take every item of a region of a generation back to its default in every copy (R94). -/
def State.clearRegion (s : State) (genB cust : Bool) : State :=
  { s with progs := { s.progs with
      base := s.progs.base.filter (fun e => !inRegion genB cust e.1)
      deviant := s.progs.deviant.filter (fun e => !inRegion genB cust (e.1 % 2 ^ 25)) } }

/-- Write the items of a section in every copy. -/
def State.writeSection (s : State) (genB : Bool) (img : List Byte) (x : Section) : State :=
  (List.range x.count).foldl (fun s k =>
    s.setStoreAll (storeKey genB x.type x.pass x.stage (x.first + k)) (itemOf img x k)) s

/-- Write an image's region of a generation: no residue of an earlier image survives (R88, R94). -/
def State.writeImage (s : State) (genB cust : Bool) (img : List Byte) : State :=
  (sectionsOf img (imageHeader img).sections).foldl (fun s x => s.writeSection genB img x) (s.clearRegion genB cust)

/-- The customer words of a generation satisfy R78 with the routine list of that generation (R97). The containers of the
routines bar no word: R78 names none but fixed ones, and R107 leaves the masks to Pyique (assumption 102). -/
def State.customerCallsOk (s : State) (genB : Bool) : Bool :=
  s.progs.base.all (fun e =>
    !(inRegion genB true e.1 && e.1 / 2 ^ 20 % 16 = 1) || !(mwOpcodes e.2).any (barredOp (s.callable 0 genB)))

/-- VENDOR_REQ of the customer region of a generation. -/
def State.requireOf (s : State) (genB : Bool) : Nat := (if genB then s.progs.reqB else s.progs.reqA).toNat
def State.setRequire (s : State) (genB : Bool) (w : Word) : State :=
  if genB then { s with progs := { s.progs with reqB := w } } else { s with progs := { s.progs with reqA := w } }

/-- What a load leaves in MC_SHADOW.STATE: READY, or INCOMPATIBLE for a customer region that the new vendor region does
not serve (R97). -/
def State.compatible (s : State) (genB : Bool) (cid vendor : Nat) : Bool :=
  cid = 0 || (versionMet (s.requireOf genB) vendor && s.customerCallsOk genB)

/-- Steps 7 to 9 of R98 for the shadow generation. -/
def State.installImage (s : State) (img : List Byte) : State :=
  let cust := s.progs.loadCust
  let g := s.shadowGen
  let h := imageHeader img
  let s := s.writeImage g cust img
  let s := if cust then
      ((s.setRequire g (BitVec.ofNat 32 h.require)).setReg 0x110 (BitVec.ofNat 32 h.version)).incSat 0x108 15 0 1
    else (s.setFld 0x10C 23 0 h.version).incSat 0x108 31 16 1
  let ok := s.compatible g (s.reg 0x110).toNat (s.fld 0x10C 23 0)
  ((s.setShadow (if ok then 2 else 3)).loadStatus 2 .ok {}).irq 0

/-- LOAD_COMPLETE (R98): the load ends in DONE, or in ERROR with the shadow generation as it was; a copy that fails its
read-back leaves it DAMAGED with a class-S fault against the pipeline. -/
def State.loadComplete (s : State) (image : Option (List Byte)) (badCopy : Option (Span × Pass × PipeNo)) : State :=
  if !s.loadBusy then s
  else
    match image with
    | none => (s.setShadow s.progs.loadPrev).loadFails .dmaError {}
    | some img =>
      let r := s.checkImage img
      if r.1 ≠ .ok then (s.setShadow s.progs.loadPrev).loadFails r.1 r.2
      else
        match badCopy with
        | none => s.installImage img
        | some (n, pass, pipe) =>
          let s := ((s.writeImage s.shadowGen s.progs.loadCust img).setShadow 4).loadFails .readback {}
          s.latchFault (srcSpan n (pipeBlock pass pipe) 0x3F) .s

def execLoadComplete (image : Option (List Byte)) (badCopy : Option (Span × Pass × PipeNo)) (s : State) :
    Host.Outcome State Fault Refusal := .next (s.loadComplete image badCopy)

/-! ### Joints -/

/-- The arm is refused: reported in JNT_STATUS alone, with a class-N fault (R112). -/
def State.jointRefused (s : State) (cause : Nat) : State :=
  (s.showAbort cause false).latchFault loadSource .n (cause * 2 ^ 28)

/-- The first cause for which an arm is refused (R112); 0: it is accepted. -/
def State.armCause (s : State) (i : Nat) : Nat :=
  if s.shadowState = 5 then 7
  else if s.shadowState ≠ 2 then 1
  else if s.slotEvent i ≠ 1 ∨ s.fld (0x20200C + i * 0x20) 29 0 ≠ 0 ∨ s.slotBad i then 8
  else if s.slotMark i * nsUnits < s.cb + 20000 * nsUnits then 3
  else 0

/-- JNT_CTRL.ARM is written 1 (R112). While a joint is armed the bit reads 1 already, and writing it does nothing: DESIGN
CHOICE, R112 and R118 say nothing of it (assumption 106). -/
def State.jointArm (s : State) : State :=
  if s.progs.joint.isSome then s
  else
    let i := s.fld 0x200 5 0
    let c := s.armCause i
    if c ≠ 0 then s.jointRefused c
    else
      let s := { s with progs := { s.progs with joint := some i, jointChecked := false, jointCancel := false } }
      ((s.setBit (0x202010 + i * 0x20) 31 true).setBit 0x200 8 true).setFld 0x204 2 1 1

/-- The cause for which a joint is aborted at its check (R113), and 0 when it passes: where several hold, the lowest, in
the table's order: DESIGN CHOICE, R113 orders none (assumption 107). -/
def State.checkCause (s : State) (forced : Bool) : Nat :=
  if s.shadowState ≠ 2 then 1
  else if !forced && s.bit 0x200 10 && s.cadHoldover then 2
  else if s.chip.mode = .recovery ∨ s.chip.mode = .safe ∨ s.chip.mode = .off then 4
  else if s.trestlePending then 5
  else if s.progs.jointCancel then 6
  else 0

/-- The check of an armed joint (R113). -/
def State.jointCheck (s : State) : State :=
  if s.progs.joint.isNone || s.progs.jointChecked then s
  else
    let c := s.checkCause false
    if c ≠ 0 then s.abortJoint c
    else { s with progs := { s.progs with jointChecked := true } }

/-- The flip of the active generation in every span on one edge (R110, R114). -/
def State.jointFlip (s : State) : State :=
  let v := s.fld 0x100 23 0
  let c := s.reg 0x104
  let s := (s.setFld 0x100 23 0 (s.fld 0x10C 23 0)).setReg 0x104 (s.reg 0x110)
  let s := (s.setFld 0x10C 23 0 v).setReg 0x110 c
  let b := !s.activeGen
  let s := ((s.setBit 0x100 24 b).setBit 0x204 0 b).incMod 0x204 31 16 1
  ((s.setShadow 5).setFld 0x204 2 1 2).checkDrained.irq 1

/-- The mark of the armed joint fires (R113 to R115): a check that has not been made is made now. -/
def State.jointFire (s : State) (slot : Nat) : State :=
  if s.progs.joint ≠ some slot then s
  else
    let s := s.jointCheck
    if s.progs.joint.isNone then s
    else
      let s := if s.cadHoldover then s.setBit 0x204 8 true else s
      s.disarmJoint.jointFlip

/-- JNT_CTRL.NOW is written 1 (R117): the rules of R113 abort it with their report, and either way a joint that is armed
is armed no more (R113, R118). -/
def State.jointNow (s : State) : State :=
  if s.chip.mode = .startUp ∨ s.chip.mode = .test then
    let c := s.checkCause true
    if c ≠ 0 then (s.disarmJoint.showAbort c true).latchFault loadSource .n (c * 2 ^ 28) else s.disarmJoint.jointFlip
  else s.latchFault loadSource .n 0x200

/-- JNT_CTRL.CANCEL is written 1 (R113). -/
def State.jointCancelled (s : State) : State :=
  if s.progs.joint.isSome && !s.progs.jointChecked then { s with progs := { s.progs with jointCancel := true } } else s

/-- A write of JNT_CTRL (R118). A word that sets several of its bits acts as CANCEL, then NOW, then ARM: DESIGN CHOICE, the
spec gives no order (assumption 108). -/
def State.writeJoint (s : State) (value : Word) : State :=
  let s := s.writeOrdinary 0x200 value
  let s := if getBits value 9 9 = 1 then s.jointCancelled else s
  let s := if getBits value 11 11 = 1 then s.jointNow else s
  if getBits value 8 8 = 1 then s.jointArm else s

/-- JOINT_ARM (R112): the word written to JNT_CTRL. -/
def execJointArm (value : Word) (s : State) : Host.Outcome State Fault Refusal := .next (s.writeJoint value)

/-- JOINT_CANCEL (R113): the word written to JNT_CTRL. -/
def execJointCancel (value : Word) (s : State) : Host.Outcome State Fault Refusal := .next (s.writeJoint value)

/-- JOINT_NOW (R117): the word written to JNT_CTRL. -/
def execJointNow (value : Word) (s : State) : Host.Outcome State Fault Refusal := .next (s.writeJoint value)

/-- JOINT_CHECK (R113): 20 µs before the mark. -/
def execJointCheck (s : State) : Host.Outcome State Fault Refusal := .next s.jointCheck

/-! ### The store scrubber (R91) -/

def storeKindNo : StoreKind → Nat
  | .control => kindWord | .dispatch => kindDispatch | .keyMap => kindKeyMap | .entryOpcode => kindEntry
  | .maintenance => kindMaint | .routine => kindRoutine

/-- The store belongs to a span's trestle engine. -/
def storeOfSpan (w : StoreRef) : Bool := w.kind = .maintenance || w.kind = .routine

/-- The store belongs to a stage (R87). -/
def storeStaged (w : StoreRef) : Bool := !storeOfSpan w && w.kind ≠ .entryOpcode

/-- The pass of the pipelines that hold the store: the entry-opcode table stands in the ingress pipelines (R87). -/
def storePass (w : StoreRef) : Pass := if w.kind = .entryOpcode then .ingress else w.pass

def storeKeyOf (w : StoreRef) : Nat :=
  storeKey w.genB (storeKindNo w.kind) (if storeStaged w then passNo w.pass else 0)
    (if storeStaged w then w.stage else 0) w.index

def storeCopyOf (w : StoreRef) : Nat :=
  if storeOfSpan w then w.span * 10 else pipeNo w.span (storePass w) w.pipe

/-- The copy that a word is rewritten from: that of another pipeline of the span, or of another span (R91). -/
def donorCopy (w : StoreRef) (donor : Nat) : Nat :=
  if storeOfSpan w then donor % 16 * 10 else pipeNo w.span (storePass w) (donor % 5)

/-- The scrubber's source for a store (R427). -/
def storeSourceOf (w : StoreRef) : Nat :=
  srcSpan w.span 0x0F (if w.kind = .maintenance then 1 else if w.kind = .routine then 2 else 0)

/-- One visit of the store scrubber (R91, R297, R441): a single-bit error is corrected and counted, and a bad word takes the
content of a copy that checks good. -/
def State.storeScrub (s : State) (w : StoreRef) (check : ReadCheck) (good : Option (Fin 16)) : State :=
  let key := storeKeyOf w
  let src := storeSourceOf w
  let owner := if good.isSome || w.genB ≠ s.activeGen || storeOfSpan w then src
    else srcSpan w.span (pipeBlock (storePass w) w.pipe) (if storeStaged w then w.stage else 0x3F)
  let check := s.checkedRead src check
  let s := if check = .uncorrectable then s.meetAt src owner else s
  match check with
  | .good => s
  | .single =>
    (if storeOfSpan w then s else s.count (cPipe (storeCopyOf w) 19) 1).corrected (storeSourceOf w) 1
  | .uncorrectable =>
    match good with
    | some d => (s.setStoreOne (storeCopyOf w) key (s.store (donorCopy w d) key)).latchFault (storeSourceOf w) .n
    | none =>
      if w.genB = s.activeGen then
        if storeOfSpan w then s.latchFault (storeSourceOf w) .s
        else s.latchFault (srcSpan w.span (pipeBlock (storePass w) w.pipe) (if storeStaged w then w.stage else 0x3F)) .s
      else (s.setShadow 4).latchFault (storeSourceOf w) .s

/-- STORE_SCRUB (R91). -/
def execStoreScrub (word : StoreRef) (check : ReadCheck) (good : Option (Fin 16)) (s : State) :
    Host.Outcome State Fault Refusal := .next (s.storeScrub word check good)

end Sys2Proof.Machine
end

