-- ==== Sys2Proof/Machine/Cadence.lean ====
section
/-! DEFINITION. The firing of cadence slots, their events, and marks that are missed (R320 to R324). -/

namespace Sys2Proof.Machine

/-- Marks do not fire in a warm reset, in SAFE and in OFF (R324). -/
def State.marksFire (s : State) : Bool := s.chip.mode ≠ .safe && s.chip.mode ≠ .off && s.chip.mode ≠ .recovery

/-- Set the bit of slot `i` in a pair of 32-bit registers (R328). -/
def State.slotBit (s : State) (off i : Nat) : State := s.setBit (off + i / 32 * 4) (i % 32) true

/-- The first mark of a repeating slot that lies at least 1 µs ahead of CB (R324). -/
def nextMark (mark per from_ : Nat) : Nat :=
  if from_ + 1000 ≤ mark then mark else mark + (from_ + 1000 - mark + (per - 1)) / per * per

/-- A mark that cannot fire is missed: its slot is disarmed, or waits for its next mark (R324). A missed joint is aborted
with cause 4; a change of the point whose mark is missed is no longer scheduled (R483). -/
def State.slotMissed (s : State) (i : Nat) : State :=
  let s := if s.progs.joint = some i then s.abortJoint 4 else s
  let s := if i = 63 && s.changePending then (s.setBit 0x300008 10 false).dropRise else s
  let s := s.slotBit 0x201020 i
  if s.slotPeriod i = 0 then s.setBit (0x202010 + i * 0x20) 31 false else s

/-- Firing becomes possible again (R324): an armed slot whose mark has passed has missed it, and a repeating one advances. -/
def State.advanceSlots (s : State) : State :=
  (List.range 64).foldl (fun s i =>
    if s.slotArmed i && decide (s.slotMark i * nsUnits ≤ s.cb) then
      let per := s.slotPeriod i
      let t := s.slotMissed i
      if per = 0 then t else t.setSlotMark i (nextMark (s.slotMark i) per ((s.cb + (nsUnits - 1)) / nsUnits))
    else s) s

/-- The slot's own part of a firing (R320, R321, R323): FIRED, FIRED_HO in holdover, and the next mark or the disarming. -/
def State.slotAdvance (s : State) (i : Nat) : State :=
  let s := s.slotBit 0x201010 i
  let s := if s.cadHoldover then s.slotBit 0x201018 i else s
  if s.slotPeriod i = 0 then s.setBit (0x202010 + i * 0x20) 31 false
  else s.setSlotMark i (s.slotMark i + s.slotPeriod i)

/-- The effect of an event (R320). -/
def State.slotEffect (s : State) (i ev arg : Nat) : State :=
  if ev = 1 then s.jointFire i
  else if ev = 2 then s.phaseMark (arg % 8)
  else if ev = 3 then s.concordMark (min 5 (arg % 8))
  else if ev = 4 then s.telRoll
  else if ev = 5 then (if s.profile = arg % 2 then s else s.swapProfile)
  else if ev = 6 then s.irq (64 + i)
  else s

/-- A higher slot that fires on the same edge sets the same state: OP_PHASE, TEL_ROLL or SHP_PROFILE (R321). -/
def State.overruled (s : State) (due : List Nat) (i : Nat) : Bool :=
  let ev := s.slotEvent i
  (ev = 2 || ev = 4 || ev = 5) && due.any (fun j => decide (i < j) && s.slotEvent j = ev)

/-- One slot fires; a joint that its check withholds has been aborted, and its slot does not fire (R113). -/
def State.slotFire (s : State) (due : List Nat) (i : Nat) : State :=
  let ev := s.slotEvent i
  let t := if s.overruled due i then s else s.slotEffect i ev (s.slotArg i)
  if ev = 1 && t.activeGen = s.activeGen then t else t.slotAdvance i

/-- CAD_SLOT_FIRE (R321): the armed slots whose marks CB reaches on this edge act together; where two set the same state
the higher slot's argument stands. CS63 is taken first, so that what another slot of the edge asks of the point finds its
change made, and does not rewrite a slot that has fired (assumption 138). -/
def execCadSlotFire (slots : DWord) (s : State) : Host.Outcome State Fault Refusal :=
  let due := (63 :: List.range 63).filter (fun i => slots.getLsbD i && s.slotArmed i)
  if s.marksFire then .next (due.foldl (fun s i => s.slotFire due i) s)
  else .next (due.foldl (fun s i => s.slotMissed i) s)

end Sys2Proof.Machine
end

