-- ==== Sys2Proof/Machine/Viaduct.lean ====
section
/-! DEFINITION. Viaduct links: the INIT exchange, link retry and hop-class credit (R222 to R226, R280), and what a link
that goes down or comes up does to the port (R250, R340). -/

namespace Sys2Proof.Machine

/-! ### Link state -/

/-- A fresh EPOCH: a draw that is neither 0 nor the previous one (R224, assumption 12). -/
def State.drawEpoch (s : State) (prev : Word) : State × Word :=
  let e := Config.freeEpoch s.freeCount
  let ok (x : Word) : Bool := x ≠ 0 && x ≠ prev
  let e := if ok e then e else if ok (e + 1) then e + 1 else e + 2
  ({ s with freeCount := s.freeCount + 1 }, e)

/-- LIMIT of the four hop classes of a port (R234). -/
def State.viaLimits (s : State) (p : Nat) : Hc4 :=
  let f (h : Nat) : Nat := s.fld (0xC06000 + p * 16 + h * 4) 21 0
  { h0 := f 0, h1 := f 1, h2 := f 2, h3 := f 3 }

/-- Release every RETRY holder of a port without acknowledgement: the copies end ABANDONED (R224, R225, R239). -/
def State.abandonRetry (s : State) (p kind : Nat) : State :=
  let l := s.viaLink p
  let s := (s.setVia p { l with retry := [] }).dropRerun p
  l.retry.foldl (fun s e =>
    ((s.count (cPort p 23) 1).lose e.entry.desc p kind).release e.entry.desc (holderRetry p e.entry.idx)) s

/-- A DATA frame that is leaving under the old link state is interrupted: a retransmission ends, and a copy sent for the
first time waits ahead of its queue (R224, R249). -/
def State.stompData (s : State) (p : Nat) : State :=
  match s.tx p with
  | some t => if t.viaSeq.isSome then (if t.resend then s.dropPass t.queue t.entry else s).stompAhead p else s
  | none => s

/-- The reset state of a link, with a new EPOCH and no PEER_EPOCH (R224). -/
def State.viaReset (s : State) (p kind : Nat) : State :=
  let s := (s.stompData p).abandonRetry p kind
  let (s, e) := s.drawEpoch (s.viaLink p).epoch
  let lim := s.viaLimits p
  s.setVia p { epoch := e, granted := lim, grant := lim, lastCredit := lim }

/-- Send INIT (0xB) or INIT_ACK (0xC): GRANTED, EPOCH and PEER_EPOCH (R223, R224). -/
def State.sendInit (s : State) (p type : Nat) : State :=
  let l := s.viaLink p
  s.sendControl p type (l.grant.words ++ [l.epoch, l.peerEpoch])

/-- VIA_INIT_TIMER (R224): INIT every 10 µs until PEER_EPOCH is recorded. -/
def execViaInitTimer (port : Port) (s : State) : Host.Outcome State Fault Refusal :=
  if s.viaRuns port && !(s.viaLink port).up then .next (s.sendInit port 11) else .next s

/-- The cumulative GRANTED values that a control frame carries (R223). -/
def frameGranted (f : ViaFrame) : Hc4 :=
  { h0 := (frameWord f 0).toNat, h1 := (frameWord f 1).toNat, h2 := (frameWord f 2).toNat, h3 := (frameWord f 3).toNat }
/-- EPOCH and PEER_EPOCH of an INIT or INIT_ACK (R223). -/
def frameEpoch (f : ViaFrame) : Word := frameWord f 4
def framePeerEpoch (f : ViaFrame) : Word := frameWord f 5

/-- A control frame of a type has arrived at a port that runs: an unusable deck header is counted, and a frame whose CRC
fails is discarded (R223); else it acts. -/
def State.onControl (s : State) (p type : Nat) (f : ViaFrame) (act : State → State) : State :=
  if !s.viaRuns p then s
  else if deckUnusable f.deck then s.count (cPort p 22) 1
  else if frameGood f type then act s
  else s

/-- Record the peer's EPOCH and its credit: the link runs (R224). -/
def State.recordPeer (s : State) (p : Nat) (f : ViaFrame) : State :=
  s.setVia p { (s.viaLink p) with peerEpoch := frameEpoch f, up := true, granted := frameGranted f }

/-- An acknowledged copy is delivered and its RETRY holder released (R175, R239). -/
def State.ackCopy (s : State) (p : Nat) (e : RetryEntry) : State :=
  (s.outcome e.entry.desc 3).release e.entry.desc (holderRetry p e.entry.idx)

/-- ACK a: UNA to a are released when UNA ≤ a < NEXT (R225). -/
def State.viaAck (s : State) (p a : Nat) : State :=
  let l := s.viaLink p
  let far (q : Nat) : Nat := (q + 2 ^ 24 - l.una) % 2 ^ 24
  if far a < far l.next then
    let done := l.retry.filter (fun e => decide (far e.seq ≤ far a))
    let una := (a + 1) % 2 ^ 24
    let s := s.setVia p { l with
      retry := l.retry.filter (fun e => !decide (far e.seq ≤ far a)), una := una, retries := 0
      resend := if far l.resend ≤ far a then una else l.resend }
    done.foldl (fun s e => s.ackCopy p e) (s.dropRerun p)
  else s

/-- The ACK that every frame of a running link carries (R223, R225). -/
def State.frameAck (s : State) (p : Nat) (deck : DWord) : State :=
  if (s.viaLink p).up then s.viaAck p (deckAck deck) else s

/-- What a good INIT does (R224). One with another EPOCH than the one recorded comes from a peer that has lost its link
state; its ACK says nothing of the copies kept here. -/
def State.initRx (s : State) (p : Nat) (f : ViaFrame) : State :=
  let l := s.viaLink p
  if !l.up then (s.recordPeer p f).sendInit p 12
  else if frameEpoch f = l.peerEpoch then (s.frameAck p f.deck).sendInit p 12
  else (s.viaReset p 6).sendInit p 12

/-- VIA_INIT_RX (R224). -/
def execViaInitRx (port : Port) (frame : ViaFrame) (s : State) : Host.Outcome State Fault Refusal :=
  .next (s.onControl port 11 frame (fun s => s.initRx port frame))

/-- What a good INIT_ACK does (R224). -/
def State.initAckRx (s : State) (p : Nat) (f : ViaFrame) : State :=
  let l := s.viaLink p
  if framePeerEpoch f ≠ 0 && framePeerEpoch f ≠ l.epoch then s
  else if !l.up then if framePeerEpoch f = l.epoch then s.recordPeer p f else s
  else if frameEpoch f = l.peerEpoch then s.frameAck p f.deck
  else s.viaReset p 6

/-- VIA_INIT_ACK_RX (R224). -/
def execViaInitAckRx (port : Port) (frame : ViaFrame) (s : State) : Host.Outcome State Fault Refusal :=
  .next (s.onControl port 12 frame (fun s => s.initAckRx port frame))

/-! ### Link retry (R225) -/

/-- Resend from a sequence on, when something is unacknowledged. -/
def State.retransmitFrom (s : State) (p q : Nat) : State :=
  let l := s.viaLink p
  if l.retransmit || l.una = l.next then s else s.setVia p { l with retransmit := true, resend := q }

/-- Send a NAK for E − 1, at most once until a DATA frame with SEQ = E arrives. -/
def State.sendNak (s : State) (p : Nat) : State :=
  let l := s.viaLink p
  if l.nakSent then s else ((s.setVia p { l with nakSent := true }).sendControl p 9 []).count (cPort p 20) 1

/-- The frame that a DATA frame became has been accepted (R29). -/
def State.dataAccepted (s : State) (d : Option DescId) : Bool :=
  match d with
  | some d => (s.desc d).accepted
  | none => false

/-- A DATA frame with SEQ = E has arrived: a NAK may be sent again (R225). -/
def State.nakAgain (s : State) (p : Nat) : State := s.setVia p { (s.viaLink p) with nakSent := false }

/-- What the receiver makes of a DATA frame (R225). -/
def State.viaReceive (s : State) (p seq : Nat) (fcsGood : Bool) (d : Option DescId) : State :=
  let l := s.viaLink p
  if seq = l.e then
    if fcsGood && s.dataAccepted d then
      s.setVia p { l with e := (l.e + 1) % 2 ^ 24, ackDue := true, nakSent := false }
    else (s.nakAgain p).sendNak p
  else if 2 ^ 23 ≤ (seq + 2 ^ 24 - l.e) % 2 ^ 24 then (s.setVia p { l with ackDue := true }).count (cPort p 19) 1
  else s.sendNak p

/-- VIA_DATA_RX (R225): a frame with a good deck header has ended; its ACK counts, and DATA is accepted in sequence,
discarded as a duplicate, or answered with a NAK. -/
def execViaDataRx (port : Port) (deck : DWord) (fcsGood : Bool) (d : Option DescId) (s : State) :
    Host.Outcome State Fault Refusal :=
  let p := port.val
  if !s.viaRuns p || !deckGood deck || 1 < deckType deck then .next s
  else
    let s := s.frameAck p deck
    if deckType deck = 0 then .next (s.viaReceive p (deckSeq deck) fcsGood d) else .next s

/-- VIA_ACK_RX (R225). -/
def execViaAckRx (port : Port) (frame : ViaFrame) (s : State) : Host.Outcome State Fault Refusal :=
  .next (s.onControl port 8 frame (fun s => s.frameAck port frame.deck))

/-- What a good NAK does (R225): acknowledge up to its value, then resend from the next frame. -/
def State.nakRx (s : State) (p : Nat) (f : ViaFrame) : State :=
  ((s.count (cPort p 21) 1).frameAck p f.deck).retransmitFrom p ((deckAck f.deck + 1) % 2 ^ 24)

/-- VIA_NAK_RX (R225). -/
def execViaNakRx (port : Port) (frame : ViaFrame) (s : State) : Host.Outcome State Fault Refusal :=
  .next (s.onControl port 9 frame (fun s => s.nakRx port frame))

/-- VIA_RETRANSMIT_DONE (R225): UNA to NEXT − 1 have been resent. -/
def execViaRetransmitDone (port : Port) (s : State) : Host.Outcome State Fault Refusal :=
  let l := s.viaLink port
  if l.retransmit && l.due.isNone && (s.tx port).isNone then .next (s.setVia port { l with retransmit := false })
  else .next s

/-- VIA_ACK_TIMER (R225): a due ACK has found no frame leaving for 500 ns. -/
def execViaAckTimer (port : Port) (s : State) : Host.Outcome State Fault Refusal :=
  if s.viaRuns port && (s.viaLink port).ackDue then .next (s.sendControl port 8 []) else .next s

/-! ### Credit (R226) -/

/-- VIA_CREDIT_TIMER (R226): CREDIT carries the cumulative GRANTED values. -/
def execViaCreditTimer (port : Port) (s : State) : Host.Outcome State Fault Refusal :=
  if s.viaRuns port then .next (s.sendCredit port) else .next s

/-- What a good CREDIT does on a link that runs (R225, R226). -/
def State.creditRx (s : State) (p : Nat) (f : ViaFrame) : State :=
  if (s.viaLink p).up then
    let s := s.frameAck p f.deck
    s.setVia p { s.viaLink p with granted := frameGranted f }
  else s

/-- VIA_CREDIT_RX (R226). -/
def execViaCreditRx (port : Port) (frame : ViaFrame) (s : State) : Host.Outcome State Fault Refusal :=
  .next (s.onControl port 10 frame (fun s => s.creditRx port frame))

/-- VIA_HOLD_WRITE (R280): the senders of 32 ports are held or resume. -/
def execViaHoldWrite (w : Fin 32) (value : Word) (s : State) : Host.Outcome State Fault Refusal :=
  if s.closed 0xC0A000 then .next s else
  .next (s.setReg (0xC0A000 + w.val * 4) value)

/-! ### A port's link goes down or comes up -/

def laneOff (l : Nat) : Nat := 0x2000000 + l * 0x1000

/-- The lanes of a port, from its first. -/
def State.lanesOf (s : State) (p : Nat) : List Nat := (List.range (s.portLanes p)).map (fun i => p + i)

/-- The bring-up state of a port, as its first lane shows it (R362). -/
def State.portState (s : State) (p : Nat) : Nat := s.fld (laneOff p + 4) 31 28

/-- Every lane of the port shows its state (R338). -/
def State.setPortState (s : State) (p v : Nat) : State :=
  (s.lanesOf p).foldl (fun s l => s.setFld (laneOff l + 4) 31 28 v) s

def laneDefault : Nat → LaneRec := fun _ => {}
def State.lane (s : State) (l : Nat) : LaneRec := Tbl.get laneDefault s.lanes l
def State.setLane (s : State) (l : Nat) (x : LaneRec) : State :=
  { s with lanes := Tbl.put laneDefault s.lanes l x }

/-- Twice the signalling rate of a lane in MBd, in the mode of its port or its own (R330, R332). -/
def State.laneBaud (s : State) (l : Nat) : Nat :=
  let p := ((List.range 8).find? (fun k =>
    decide (k ≤ l) && s.bit (laneOff (l - k)) 31 && decide (k < s.portLanes (l - k)))).getD 0
  match s.fld (laneOff (l - p)) 28 27 with
  | 0 => 212500
  | 1 => 106250
  | _ => 53125

/-- The columns that a running eye scan has completed: 64 points each, of 2^DWELL symbols and 200 ns; a DWELL outside 10 to
30 acts as the nearer limit (R349, R366, assumption 43). -/
def State.eyeColumns (s : State) (l : Nat) : Nat :=
  let b := s.laneBaud l
  let d := (s.lane l).eyeDwell
  min 63 ((s.now - (s.lane l).eyeStart) * b / (64 * (2 ^ d * 2000 + 200 * b)))

/-- A running eye scan of a lane ends in ABORTED (R350). -/
def State.eyeAbort (s : State) (l : Nat) : State :=
  if s.fld (laneOff l + 0x44) 1 0 = 1 then
    ((s.setFld (laneOff l + 0x44) 14 8 (s.eyeColumns l)).setFld (laneOff l + 0x44) 1 0 3).setLane l
      { (s.lane l) with eye := [] }
  else s

/-- Every lane of a port shows a field of its state (R362). -/
def State.showLanes (s : State) (p hi lo v : Nat) : State :=
  (s.lanesOf p).foldl (fun s l => s.setFld (laneOff l + 4) hi lo v) s

/-- Every lane of a port sends something. -/
def State.emitLanes (s : State) (p : Nat) (what : String) : State :=
  (s.lanesOf p).foldl (fun s l => s.emit (.lane l what 0)) s

/-- The port waits for signal (R338): it sends Clause 73 pages on its first lane, or training frames, or the PCS idle
stream. -/
def State.enterWait (s : State) (p : Nat) : State :=
  let s := s.setPortState p 1
  if s.bit (laneOff p) 26 then s.emit (.lane p "DME" 0)
  else s.emitLanes p (if s.bit (laneOff p) 25 then "TRAINING" else "IDLE")

/-- A bring-up attempt has failed (R339): the port tries again, or enters FAILED after the third failure in a row. -/
def State.bringupFail (s : State) (p : Nat) : State :=
  let x := s.lane p
  let s := s.showLanes p 20 16 (min 31 (s.fld (laneOff p + 4) 20 16 + 1))
  if 3 ≤ x.run + 1 then
    (((s.setLane p { x with run := 0, fresh := false }).setPortState p 6).emitLanes p "silent").latchFault (macSource p) .n
  else (s.setLane p { x with run := x.run + 1, fresh := false }).enterWait p

/-- The port leaves UP (R340): what it was sending stays ahead of its queue, running eye scans end, and the exit is
recorded and is a LINK event (R395); a remote fault is received no more. `next` is the state that follows. -/
def State.leaveUp (s : State) (p next : Nat) : State :=
  let s := match s.tx p with
    | some t => (s.dropPass t.queue t.entry).stompAhead p
    | none => s
  let s := (s.lanesOf p).foldl (fun s l =>
    (((s.setFld (laneOff l + 4) 27 25 0).setFld (laneOff l + 4) 31 28 next).setFld (laneOff l + 4) 23 22 0).eyeAbort l) s
  let s := (s.setBit (laneOff p + 4) 24 false).count (laneOff p + 0x120) 1
  (s.latchFault (macSource p) .n).irq 7

/-- A link is taken down (R225, R334, R338): the port sees a local fault, which it signals to its partner, and looks for
signal again; an UP shorter than 1 s is a failure. -/
def State.linkFails (s : State) (p : Nat) : State :=
  if s.portState p = 5 then
    let fresh := (s.lane p).fresh
    let s := (s.leaveUp p 1).setLane p { (s.lane p) with fresh := false }
    let s := (s.showLanes p 23 23 1).emit (.lane p "REMOTE_FAULT" 0)
    if fresh then s.bringupFail p else s.enterWait p
  else s

/-- The port enters UP (R338, R340): copies that waited go on; a viaduct end resets its link state. -/
def State.enterUp (s : State) (p : Nat) : State :=
  let s := s.setPortState p 5
  let s := (s.lanesOf p).foldl (fun s l => s.setBit (laneOff l + 4) 25 true) s
  let s := (s.setBit (laneOff p + 4) 24 true).setLane p { (s.lane p) with fresh := true }
  let s := { s with egr := { s.egr with expired := s.egr.expired.filter (fun x => x ≠ p) } }
  let s := (s.latchFault (macSource p) .n).irq 7
  if s.viaduct p then s.viaReset p 4 else s

/-- VIA_RETRY_TIMEOUT (R225, R280): UNA has not advanced for RTO; at the eighth time the link is taken down. -/
def execViaRetryTimeout (port : Port) (s : State) : Host.Outcome State Fault Refusal :=
  let p := port.val
  let l := s.viaLink p
  if !s.viaRuns p || s.viaHeld p || l.retransmit || l.una = l.next then .next s
  else if 8 ≤ l.retries + 1 then
    let s := (s.setVia p { l with retries := 8 }).abandonRetry p 5
    .next ((s.linkFails p).latchFault (macSource p) .s)
  else .next ((s.setVia p { l with retries := l.retries + 1 }).retransmitFrom p l.una)

/-- End every copy queued for a port as ABANDONED (R250). -/
def State.abandonPort (s : State) (p : Nat) : State :=
  (List.range 16).foldl (fun s i =>
    let q := p * 16 + i
    let es := s.aheadOf q ++ s.queue q
    let s := ((s.setAhead q []).setQueue q []).resetEmpty q
    es.foldl (fun s e =>
      if e.msg.isEmpty then
        (((s.freeEntry e).count (cPort p 24) 1).lose e.desc p 4).release e.desc (holderQueue q e.idx)
      else s) s) s

/-- LINK_HOLD_EXPIRE (R250): the link of an ordinary port has stayed down for LINK_HOLD. -/
def execLinkHoldExpire (port : Port) (s : State) : Host.Outcome State Fault Refusal :=
  let p := port.val
  if s.viaduct p || s.linkUp p then .next s
  else .next (({ s with egr := { s.egr with expired := addOnce s.egr.expired p } }).abandonPort p)

end Sys2Proof.Machine
end

