-- ==== Sys2Proof/Machine/Lanes.lean ====
section
/-! DEFINITION. Lanes and ports: enabling, bring-up, transmitter taps, FEC degradation and the eye scan (R330 to R350,
R361 to R366). -/

namespace Sys2Proof.Machine

/-! ### LANE_CFG -/

/-- The first lane of the enabled port that a lane belongs to (R332). -/
def State.portOfLane (s : State) (l : Nat) : Option Nat :=
  (List.range 8).findSome? (fun k =>
    if k ≤ l ∧ s.bit (laneOff (l - k)) 31 = true ∧ k < s.portLanes (l - k) then some (l - k) else none)

/-- The fields that are locked while the lane's port is enabled: WIDTH, MODE, AN_EN, LT_EN, TX_INV, RX_INV and MEDIUM
(R332). -/
def laneLocked (old new : Word) : Bool := getBits old 30 23 ≠ getBits new 30 23 || getBits old 17 17 ≠ getBits new 17 17

/-- The state of a lane outside a port: TEST while PRBS or LOOPBACK is set, else DISABLED (R362). A scan ends when the
test mode does (R350). -/
def State.laneTest (s : State) (l : Nat) : State :=
  let w := s.reg (laneOff l)
  if getBits w 22 18 ≠ 0 then s.setFld (laneOff l + 4) 31 28 7
  else (s.setFld (laneOff l + 4) 31 28 0).eyeAbort l

/-- A write of LANE_CFG's fields other than PORT_EN (R12, R332, R361): on a lane of an enabled port, the locked fields are
ignored with a class-N fault against the lane, and LOOPBACK and PRBS, which are for other lanes only, with one against CHIP
element 1; on another lane LOOPBACK and PRBS are so ignored outside START-UP and TEST. -/
def State.writeLaneCfg (s : State) (l : Nat) (value : Word) : State :=
  let off := laneOff l
  let old := s.reg off
  let test := decide (getBits value 22 18 ≠ getBits old 22 18)
  match s.portOfLane l with
  | some _ =>
    let s := if laneLocked old value then s.latchFault (macSource l) .n else s
    if test then s.refusedWrite off else s
  | none =>
    let w := setBits (setBits old 30 23 (getBits value 30 23)) 17 17 (getBits value 17 17)
    if test && !s.rwlOpen then (s.setReg off w).refusedWrite off
    else if test then (s.setReg off (setBits w 22 18 (getBits value 22 18))).laneTest l
    else s.setReg off w

/-- LOOPBACK and PRBS of a lane after a write of its LANE_CFG (R12): outside START-UP and TEST they keep their values. -/
def State.testAfter (s : State) (l : Nat) (value : Word) : Nat :=
  getBits (if s.rwlOpen then value else s.reg (laneOff l)) 22 18

/-- A port may not be enabled with this word in its first lane (R332). -/
def State.enableRefused (s : State) (l : Nat) (value : Word) : Bool :=
  let k := 2 ^ getBits value 30 29
  let mode := getBits value 28 27
  let ls := (List.range k).map (fun i => l + i)
  l % 64 % k ≠ 0 || decide (64 < l % 64 + k)
    || ls.any (fun x => match s.portOfLane x with
      | some p => p ≠ l
      | none => false)
    || decide (2 ≤ mode) || (mode = 1 && decide (1 < k))
    || ls.any (fun x => (if x = l then s.testAfter l value else s.fld (laneOff x) 22 18) ≠ 0)

/-- A word of LANE_CFG enables a port (R332, R350, R501): its lanes run with their trims for its mode; a lane that it takes
out of its test mode ends its scan; LOOPBACK and PRBS outside START-UP and TEST keep their value 0, and another value in the
word is recorded (R12). -/
def State.enablePort (s : State) (l : Nat) (value : Word) : State :=
  let off := laneOff l
  let differs := decide (getBits value 22 18 ≠ 0)
  let s := (if s.fld off 22 18 ≠ 0 then s.eyeAbort l else s).setReg off (value &&& 0xFF820000)
  let s := s.setLane l { (s.lane l) with run := 0, fresh := false }
  let s := (s.lanesOf l).foldl (fun s k => s.setLane k { (s.lane k) with trim := s.serdesTrim k (s.fld off 28 27) }) s
  let s := (s.emit (.lane l "enabled" (s.portLanes l))).enterWait l
  if differs then s.refusedWrite off else s

/-- PORT_ENABLE (R332): the word of LANE_CFG with PORT_EN set. A refused word still has LOOPBACK and PRBS recorded where they
differ outside START-UP and TEST (R12). -/
def execPortEnable (lane : Lane) (value : Word) (s : State) : Host.Outcome State Fault Refusal :=
  if s.closed (laneOff lane) then .next s else
  let l := lane.val
  if getBits value 31 31 = 0 then .next s
  else if s.bit (laneOff l) 31 then .next (s.writeLaneCfg l value)
  else if s.enableRefused l value then
    let differs := !s.rwlOpen && decide (getBits value 22 18 ≠ s.fld (laneOff l) 22 18)
    let s := s.latchFault (macSource l) .n
    if differs then .next (s.refusedWrite (laneOff l)) else .next s
  else .next (s.enablePort l value)

/-- PORT_DISABLE (R333): PORT_EN is cleared; the link goes down and the transmitters fall silent. -/
def execPortDisable (lane : Lane) (value : Word) (s : State) : Host.Outcome State Fault Refusal :=
  if s.closed (laneOff lane) then .next s else
  let l := lane.val
  if getBits value 31 31 = 1 || !s.bit (laneOff l) 31 then .next s
  else
    let s := if s.portState l = 5 then s.leaveUp l 0 else s
    let s := s.setPortState l 0
    let s := ((s.showLanes l 27 25 0).showLanes l 23 22 0).emitLanes l "silent"
    let s := s.setLane l { (s.lane l) with run := 0, fresh := false }
    .next ((s.setBit (laneOff l) 31 false).writeLaneCfg l value)

/-! ### Bring-up (R338 to R340) -/

/-- The word of LANE_TX_TAPS0 and LANE_TX_TAPS1 for six coefficients (R363). -/
def tapWords (t : List Int) : Word × Word :=
  let b (i : Nat) : Nat := unsignedBits (t.getD i 0) 8
  (BitVec.ofNat 32 (b 0 * 2 ^ 24 + b 1 * 2 ^ 16 + b 2 * 2 ^ 8 + b 3), BitVec.ofNat 32 (b 4 * 2 ^ 8 + b 5))

/-- The coefficients of a lane, c(−3) first. -/
def State.taps (s : State) (l : Nat) : List Int :=
  let f (off hi lo : Nat) : Int := signedBits (s.fld (laneOff l + off) hi lo) 8
  [f 0x10 31 24, f 0x10 23 16, f 0x10 15 8, f 0x10 7 0, f 0x14 15 8, f 0x14 7 0]

def State.setTaps (s : State) (l : Nat) (t : List Int) : State :=
  let w := tapWords t
  (s.setReg (laneOff l + 0x10) w.1).setReg (laneOff l + 0x14) w.2

/-- The limits of each tap (R341). -/
def tapMin (i : Nat) : Int := [-6, 0, -24, 24, -12, -4].getD i 0
def tapMax (i : Nat) : Int := [0, 12, 0, 64, 0, 4].getD i 0

/-- The presets (R341). -/
def preset (k : Nat) : List Int :=
  match k with
  | 1 => [0, 0, 0, 64, 0, 0]
  | 2 => [0, 0, -8, 56, 0, 0]
  | 3 => [0, 2, -12, 48, -2, 0]
  | _ => [-1, 4, -16, 40, -3, 0]

/-- The sum of the magnitudes. -/
def tapSum (t : List Int) : Nat := t.foldl (fun n x => n + x.natAbs) 0

/-- Six coefficients within R341. -/
def tapsLegal (t : List Int) : Bool :=
  t.length = 6 && (List.range 6).all (fun i => decide (tapMin i ≤ t.getD i 0) && decide (t.getD i 0 ≤ tapMax i))
    && decide (tapSum t ≤ 64)

/-- The port starts to train: every lane at preset 1 (R341). -/
def State.enterTrain (s : State) (p : Nat) : State :=
  (s.lanesOf p).foldl (fun s l =>
    (s.setTaps l (preset 1)).setLane l
      { (s.lane l) with held := none, wait := .idle, sent := 0, manual := [], trained := false })
    (s.setPortState p 3)

/-- The one PHY type of R331 that a port advertises: by its rate, and by MEDIUM. -/
def State.phyType (s : State) (p : Nat) : PhyType := { rate := s.portRate p, copper := s.bit (laneOff p) 17 }

/-- The port starts to negotiate (R338): its page has RS-FEC, and symmetric pause when PAUSE_EN is set. -/
def State.enterAn (s : State) (p : Nat) : State :=
  ((s.setPortState p 2).setLane p { (s.lane p) with anBase := none, peerPause := none }).emit
    (.anPage p (s.phyType p) true (s.bit (0xC01000 + p * 4) 30))

/-- LANE_SIGNAL_DETECT (R338): signal on every lane of a port that waits for it. -/
def execLaneSignalDetect (port : Port) (s : State) : Host.Outcome State Fault Refusal :=
  let p := port.val
  if !s.bit (laneOff p) 31 || s.portState p ≠ 1 then .next s
  else
    let s := (s.lanesOf p).foldl (fun s l => s.setFld (laneOff l + 4) 27 26 3) s
    if s.bit (laneOff p) 26 then .next (s.enterAn p)
    else if s.bit (laneOff p) 25 then .next (s.enterTrain p)
    else .next (s.setPortState p 4)

/-- AN_PAGE_RX (R334, R338, R339): a page of the partner, whose base page brings its abilities; while it has a further page
(`next`) the device answers with a null message. The device has one ability, so the highest common one is that one or
none. -/
def execAnPageRx (port : Port) (abilities : List PhyType) (pause : BitVec 2) (next : Bool) (s : State) :
    Host.Outcome State Fault Refusal :=
  let p := port.val
  if s.portState p ≠ 2 || !s.bit (laneOff p) 31 then .next s
  else
    let x := s.lane p
    let base := x.anBase.getD abilities
    let s := s.setLane p { x with
      anBase := if next then some base else none
      peerPause := if x.anBase.isNone then some pause else x.peerPause }
    if next then .next (s.emit (.anNull p))
    else if base.contains (s.phyType p) then .next (s.enterTrain p)
    else .next (s.bringupFail p)

/-- TRAINING_DONE (R338, R344): the taps freeze at the values that the exchange has left. -/
def execTrainingDone (port : Port) (s : State) : Host.Outcome State Fault Refusal :=
  if s.portState port = 3 && s.bit (laneOff port) 31 then .next (s.setPortState port 4) else .next s

/-- The fault signals that an aligned port sees (R334, R362). -/
def State.showFaults (s : State) (p : Nat) (localFault remoteFault : Bool) : State :=
  (s.showLanes p 23 23 localFault.toNat).showLanes p 22 22 remoteFault.toNat

/-- LINK_UP (R334, R338, R340, R362): every lane is aligned. A local fault keeps the port in ALIGN, and the port signals it
to its partner; in UP a remote fault that begins or ends is shown, and a local one takes the link down. -/
def execLinkUp (port : Port) (localFault remoteFault : Bool) (s : State) : Host.Outcome State Fault Refusal :=
  let p := port.val
  if !s.bit (laneOff p) 31 || s.chip.sdRefLost.contains (p / 64) then .next s
  else if s.portState p = 4 then
    let s := (s.showFaults p localFault remoteFault).showLanes p 25 25 1
    if localFault then .next (s.emit (.lane p "REMOTE_FAULT" 0)) else .next (s.enterUp p)
  else if s.portState p = 5 then
    if localFault then .next (s.linkFails p) else .next (s.showFaults p false remoteFault)
  else .next s

/-- LINK_DOWN (R340). -/
def execLinkDown (port : Port) (s : State) : Host.Outcome State Fault Refusal :=
  .next (s.linkFails port)

/-- BRINGUP_TIMEOUT (R339): training or ALIGN has lasted too long. -/
def execBringupTimeout (port : Port) (s : State) : Host.Outcome State Fault Refusal :=
  if (s.portState port = 3 || s.portState port = 4) && s.bit (laneOff port) 31 then .next (s.bringupFail port) else .next s

/-- LINK_STABLE (R339): UP has lasted 1 s. -/
def execLinkStable (port : Port) (s : State) : Host.Outcome State Fault Refusal :=
  let p := port.val
  if s.portState p = 5 && (s.lane p).fresh then
    .next ((s.showLanes p 20 16 0).setLane p { (s.lane p) with run := 0, fresh := false })
  else .next s

/-- FAILED_RETRY_TIMER (R338). -/
def execFailedRetryTimer (port : Port) (s : State) : Host.Outcome State Fault Refusal :=
  if s.portState port = 6 && s.bit (laneOff port) 31 then .next (s.enterWait port) else .next s

/-! ### The training exchange (R342 to R344) -/

def reqTap (r : BitVec 16) : Nat := r.toNat / 2 ^ 13
def reqAction (r : BitVec 16) : Nat := r.toNat / 2 ^ 11 % 4
def reqPreset (r : BitVec 16) : Nat := r.toNat / 2 ^ 8 % 8
def rspStatus (r : BitVec 16) : Nat := r.toNat / 2 ^ 10 % 8

/-- A response word; READY says that the sender's own receiver is trained. -/
def response (tap status : Nat) (ready : Bool) : BitVec 16 :=
  BitVec.ofNat 16 (tap * 2 ^ 13 + status * 2 ^ 10 + ready.toNat * 2 ^ 9)

/-- The taps after a request and the status it is answered with (R343). -/
def applyRequest (t : List Int) (r : BitVec 16) : List Int × Nat :=
  let i := reqTap r
  let up := reqAction r = 1
  let v := t.getD i 0 + if up then 1 else -1
  match reqAction r with
  | 0 => (t, 0)
  | 3 => if 6 ≤ i ∨ reqPreset r = 0 ∨ 4 < reqPreset r then (t, 5) else (preset (reqPreset r), 1)
  | _ =>
    if 6 ≤ i then (t, 5)
    else if up && decide (tapMax i < v) then (t, 3)
    else if !up && decide (v < tapMin i) then (t, 2)
    else if 64 < tapSum (listSet t i v) then (t, 4)
    else (listSet t i v, 1)

/-- TRAINING_REQUEST_RX (R342, R343): the transmitter answers, with the TAP of the request answered; it keeps its last
status and applies nothing more until a HOLD has been answered. -/
def execTrainingRequestRx (lane : Lane) (req : BitVec 16) (s : State) : Host.Outcome State Fault Refusal :=
  let l := lane.val
  if s.fld (laneOff l + 4) 31 28 ≠ 3 then .next s
  else
    let x := s.lane l
    let s := s.setFld (laneOff l + 0x1C) 31 16 req.toNat
    match x.held, reqAction req with
    | some _, 0 =>
      .next ((s.setLane l { x with held := none }).emit (.lane l "response" (response (reqTap req) 0 x.trained).toNat))
    | some r, _ => .next (s.emit (.lane l "response" (response (reqTap r) (rspStatus r) x.trained).toNat))
    | none, _ =>
      let (t, st) := applyRequest (s.taps l) req
      let rsp := response (reqTap req) st x.trained
      let s := (s.setTaps l t).emit (.lane l "response" rsp.toNat)
      .next (s.setLane l { x with held := if st = 0 then none else some rsp })

/-- The receiver sends a request: LANE_TR_REQ.REQ shows it (R363). -/
def State.sendRequest (s : State) (l : Nat) (req : BitVec 16) : State :=
  let s := (s.setFld (laneOff l + 0x18) 15 0 req.toNat).emit (.lane l "request" req.toNat)
  s.setLane l { (s.lane l) with
    sent := req, wait := if reqAction req = 0 then .notUpdated else .status, trained := false }

/-- Manual mode is in force (R344). -/
def State.manualMode (s : State) (l : Nat) : Bool := s.chip.mode = .test && s.bit (laneOff l + 0x18) 31

/-- The exchange is idle: the next request leaves, the oldest manual one in manual mode, else the adaptation's; with no
further request of the adaptation the receiver is trained. -/
def State.nextRequest (s : State) (l : Nat) (next : BitVec 16) : State :=
  let x := s.lane l
  if s.manualMode l then
    match x.manual with
    | r :: rest => (s.setLane l { x with manual := rest }).sendRequest l r
    | [] => s.setLane l { x with wait := .idle }
  else if reqAction next = 0 then s.setLane l { x with wait := .idle, trained := true }
  else s.sendRequest l next

/-- TRAINING_RESPONSE_RX (R343): after a status the receiver sends HOLD, and after NOT_UPDATED its next request. -/
def execTrainingResponseRx (lane : Lane) (rsp : BitVec 16) (next : BitVec 16) (s : State) :
    Host.Outcome State Fault Refusal :=
  let l := lane.val
  if s.fld (laneOff l + 4) 31 28 ≠ 3 then .next s
  else
    let s := s.setFld (laneOff l + 0x1C) 15 0 rsp.toNat
    match (s.lane l).wait, rspStatus rsp with
    | .status, 0 => .next s
    | .status, _ => .next (s.sendRequest l (BitVec.ofNat 16 (reqTap (s.lane l).sent * 2 ^ 13)))
    | _, 0 => .next (s.nextRequest l next)
    | _, _ => .next s

/-- TRAINING_MANUAL_REQUEST (R344): the word of LANE_TR_REQ. Each write sends its request once: one that comes while an
answer is awaited waits behind those before it. MANUAL is RWL (R363), which a write would set in START-UP as well (R12),
but R344 has it ignored in every state but TEST: DESIGN CHOICE, R344 is followed (assumption 136). -/
def execTrainingManualRequest (lane : Lane) (value : Word) (s : State) : Host.Outcome State Fault Refusal :=
  if s.closed (laneOff lane) then .next s else
  let l := lane.val
  let off := laneOff l + 0x18
  if s.chip.mode ≠ .test then
    if getBits value 31 31 ≠ s.fld off 31 31 then .next (s.refusedWrite off) else .next s
  else
    let s := s.setFld off 31 31 (getBits value 31 31)
    if getBits value 31 31 = 0 then .next s
    else
      let r : BitVec 16 := value.setWidth 16
      match (s.lane l).wait with
      | .idle => .next (s.sendRequest l r)
      | _ => .next ((s.setFld off 15 0 r.toNat).setLane l { (s.lane l) with manual := (s.lane l).manual ++ [r] })

/-! ### FEC degradation and the eye scan (R347 to R350) -/

/-- The codewords of a window: 2^DEG_WIN, with DEG_WIN held between 10 and 30 (R364). -/
def State.fecWindow (s : State) (p : Nat) : Nat := 2 ^ max 10 (min 30 (s.fld (laneOff p + 0x20) 31 27))

def sumNat (l : List Nat) : Nat := l.foldl (fun n x => n + x) 0

/-- The FEC counters of a port take a window of codewords (R346, R365, assumption 120). -/
def State.countFec (s : State) (p : Nat) (hist : List Nat) (uncorr : Nat) (symbols : List Nat) : State :=
  let s := (s.count (laneOff p + 0x100) (sumNat hist + uncorr)).count (laneOff p + 0x108) (sumNat (hist.drop 1))
  let s := s.count (laneOff p + 0x110) uncorr
  let s := (List.range 16).foldl (fun s b => s.count (laneOff p + 0x180 + b * 8) (hist.getD b 0)) s
  (List.range (s.portLanes p)).foldl (fun s i => s.count (laneOff (p + i) + 0x118) (symbols.getD i 0)) s

/-- DEGRADED at the end of a window in which `corrected` symbols were corrected (R347). -/
def State.judgeWindow (s : State) (p corrected : Nat) : State :=
  let th := s.fld (laneOff p + 0x20) 23 0
  if th < corrected then
    if s.bit (laneOff p + 4) 21 then s else (s.setBit (laneOff p + 4) 21 true).latchFault (macSource p) .n
  else if corrected ≤ th / 2 then s.setBit (laneOff p + 4) 21 false
  else s

/-- FEC_DEGRADE_WINDOW (R346, R347): a window of a port that is UP ends with its last codeword. -/
def execFecDegradeWindow (port : Port) (hist : List Nat) (uncorr : Nat) (symbols : List Nat) (s : State) :
    Host.Outcome State Fault Refusal :=
  let hist := hist.take 16
  if s.portState port ≠ 5 || sumNat hist + uncorr ≠ s.fecWindow port then .next s
  else
    .next ((s.countFec port hist uncorr symbols).judgeWindow port (sumNat (symbols.take (s.portLanes port))))

/-- The ordinary fields of LANE_EYE_CTRL (R366). -/
def State.setEyeCtrl (s : State) (l : Nat) (value : Word) : State :=
  s.setReg (laneOff l + 0x40) (value &&& 0x3FFF0000)

/-- EYE_SCAN_START (R349, R350): a scan begins; one that is BUSY ends in ABORTED. -/
def execEyeScanStart (lane : Lane) (value : Word) (s : State) : Host.Outcome State Fault Refusal :=
  if s.closed (laneOff lane) then .next s else
  let l := lane.val
  let s := s.setEyeCtrl l value
  if getBits value 31 31 = 0 then .next s
  else if getBits value 30 30 = 1 ∨ s.fld (laneOff l + 0x44) 1 0 = 1 then .next (s.eyeAbort l)
  else .next ((s.setReg (laneOff l + 0x44) 1).setLane l { (s.lane l) with
    eye := [], eyeStart := s.now, eyeDwell := max 10 (min 30 (s.fld (laneOff l + 0x40) 26 22)) })

/-- EYE_SCAN_STOP (R350). -/
def execEyeScanStop (lane : Lane) (value : Word) (s : State) : Host.Outcome State Fault Refusal :=
  if s.closed (laneOff lane) then .next s else
  let s := s.setEyeCtrl lane value
  if getBits value 30 30 = 1 then .next (s.eyeAbort lane) else .next s

/-- EYE_SCAN_DONE (R349): 64 columns of 64 counts, each at most 0xFFFF. -/
def execEyeScanDone (lane : Lane) (counts : List Nat) (s : State) : Host.Outcome State Fault Refusal :=
  let l := lane.val
  if s.fld (laneOff l + 0x44) 1 0 = 1 then
    .next (((s.setFld (laneOff l + 0x44) 14 8 64).setFld (laneOff l + 0x44) 1 0 2).setLane l
      { (s.lane l) with eye := (counts.take 4096).map (fun c => min c 0xFFFF) })
  else .next s

/-- LANE_EYE_RES_i (R366): the counts of the column selected, once the scan is DONE. -/
def State.eyeResult (s : State) (l i : Nat) : Word :=
  if s.fld (laneOff l + 0x44) 1 0 = 2 then
    let col := s.fld (laneOff l + 0x40) 21 16
    let c (v : Nat) : Nat := (s.lane l).eye.getD (col * 64 + v) 0
    BitVec.ofNat 32 (c (2 * i + 1) * 65536 + c (2 * i))
  else 0

end Sys2Proof.Machine
end

