-- ==== Sys2Proof/Machine/Rings.lean ====
section
/-! DEFINITION. Submission and completion rings: indices, entries, the scan, completions, records and interrupts (R369 to
R398). -/

namespace Sys2Proof.Machine

/-! ### Registers and host memory -/

def sqOff (r : Nat) : Nat := 0x420000 + r * 0x40
def cqOff (c : Nat) : Nat := 0x460000 + c * 0x40

/-- The source of faults of the host DMA and rings (R427). -/
def hostSource : Nat := srcChip 0x0D 0

def State.sqEn (s : State) (r : Nat) : Bool := s.bit (sqOff r + 0x18) 31
def State.sqKind (s : State) (r : Nat) : Nat := s.fld (sqOff r + 0x18) 30 28
def State.sqLog (s : State) (r : Nat) : Nat := s.fld (sqOff r + 0x18) 27 23
def State.sqCq (s : State) (r : Nat) : Nat := s.fld (sqOff r + 0x18) 22 11
/-- SQ_STATUS.STATE: 0 DISABLED, 1 IDLE, 2 SCANNING, 3 WAITING, 4 STALLED, 5 ERROR, 6 DRAINING (R402). -/
def State.sqState (s : State) (r : Nat) : Nat := s.fld (sqOff r + 0x1C) 31 29
def State.sqCause (s : State) (r : Nat) : Nat := s.fld (sqOff r + 0x1C) 28 26
def State.setSqState (s : State) (r st cause : Nat) : State :=
  (s.setFld (sqOff r + 0x1C) 31 29 st).setFld (sqOff r + 0x1C) 28 26 cause
def State.sqCi (s : State) (r : Nat) : Word := s.reg (sqOff r + 0x20)
def State.setSqCi (s : State) (r : Nat) (w : Word) : State := s.setReg (sqOff r + 0x20) w

def State.cqEn (s : State) (c : Nat) : Bool := s.bit (cqOff c + 0x18) 31
def State.cqEvent (s : State) (c : Nat) : Bool := s.bit (cqOff c + 0x18) 30
def State.cqLog (s : State) (c : Nat) : Nat := s.fld (cqOff c + 0x18) 28 24
def State.cqPi (s : State) (c : Nat) : Word := s.reg (cqOff c + 0x24)
def State.cqCi (s : State) (c : Nat) : Word := s.reg (cqOff c + 0x28)
/-- Entries that the host has not consumed, by its last-read CI. -/
def State.cqUnread (s : State) (c : Nat) : Nat := (s.cqPi c - s.cqCi c).toNat
def State.cqReserved (s : State) (c : Nat) : Nat := Tbl.get zeroNat s.hq.reserved c
def State.setReserved (s : State) (c n : Nat) : State :=
  { s with hq := { s.hq with reserved := Tbl.put zeroNat s.hq.reserved c n } }
/-- Free slots of a completion ring; a reserved slot counts as used (R380). -/
def State.cqFree (s : State) (c : Nat) : Nat := 2 ^ s.cqLog c - s.cqUnread c - s.cqReserved c

/-- A 64-bit address pair. -/
def State.addr64 (s : State) (off : Nat) : Nat := (s.reg (off + 4)).toNat * 2 ^ 32 + (s.reg off).toNat

/-- What a byte of host memory that the device has not written reads as in `hostMem` (assumption 2). -/
def hostByteDefault : Nat → Byte := fun _ => 0

/-- Write bytes from an address on, modulo 2^64. -/
def writeBytes : List Host.Cell → Nat → List Byte → List Host.Cell
  | m, _, [] => m
  | m, a, b :: t => writeBytes (Tbl.put hostByteDefault m (a % 2 ^ 64) b) (a + 1) t

/-- The device writes to host memory by DMA; without bus mastering nothing is written (R369). -/
def State.hostWrite (s : State) (a : Nat) (bs : List Byte) : State :=
  if s.hostOn then { s with hostMem := writeBytes s.hostMem a bs } else s

/-- A device read has ended in a DMA error (R399). -/
def State.dmaErr (s : State) : State := s.setBit 0x400004 16 true

/-- PHASE of entry `i` of a ring (R373). -/
def phaseOf (i : Word) (log : Nat) : Nat := 1 - i.toNat / 2 ^ log % 2

/-- The ownership word of a device entry (R383). -/
def ownership (phase part type tag : Nat) (idx : Word) : List Byte :=
  leBytes 8 (phase + part * 2 + type * 2 ^ 8 + tag * 2 ^ 16 + idx.toNat * 2 ^ 32)

/-! ### Completion rings -/

/-- The host address of entry i of a completion ring (R373). -/
def State.cqEntry (s : State) (c : Nat) (i : Word) : Nat := s.addr64 (cqOff c) + i.toNat % 2 ^ s.cqLog c * 64

/-- Write the ownership word of entry i of a completion ring (R373, R383). -/
def State.writeOwner (s : State) (c type tag part : Nat) (i : Word) : State :=
  s.hostWrite (s.cqEntry c i) (ownership (phaseOf i (s.cqLog c)) part type tag i)

/-- Write the next entry of a completion ring: bytes 8 to 63, then bytes 0 to 7 (R373, R375). -/
def State.writeEntry (s : State) (c type tag part : Nat) (body : List Byte) : State :=
  let i := s.cqPi c
  let s := (s.hostWrite (s.cqEntry c i + 8) (sliceBytes body 0 56)).writeOwner c type tag part i
  s.setReg (cqOff c + 0x24) (i + 1)

/-- Write a record of three entries: the bytes 8 to 63 of every entry first, then the ownership words from the last entry
to the first (R375, R390). -/
def State.writeRecord (s : State) (c type : Nat) (body : List Byte) : State :=
  let i := s.cqPi c
  let s := ((s.hostWrite (s.cqEntry c i + 8) (sliceBytes body 0 56)).hostWrite (s.cqEntry c (i + 1) + 8)
    (sliceBytes body 56 56)).hostWrite (s.cqEntry c (i + 2) + 8) (sliceBytes body 112 56)
  let s := ((s.writeOwner c type 0 3 (i + 2)).writeOwner c type 0 2 (i + 1)).writeOwner c type 0 1 i
  s.setReg (cqOff c + 0x24) (i + 3)

/-- The PI write-back, when the ring has an address for it (R375). -/
def State.writePi (s : State) (c : Nat) : State :=
  let a := s.addr64 (cqOff c + 0x10)
  if a = 0 then s else s.hostWrite a (leBytes 4 (s.cqPi c).toNat)

/-- The host's CI as read, and FULL with it (R379, R403). -/
def State.readCi (s : State) (c : Nat) (ci : Option Word) : State :=
  match ci with
  | none => s.dmaErr
  | some v =>
    let s := s.setReg (cqOff c + 0x28) v
    s.setBit (cqOff c + 0x20) 28 (s.cqFree c = 0)

/-- An armed ring has something to say: COUNT entries, or an oldest one that need not wait (R394). -/
def State.cqDue (s : State) (c : Nat) : Bool :=
  let n := s.cqUnread c
  s.cqEn c && s.bit (cqOff c + 0x18) 29 && s.bit (cqOff c + 0x20) 29 && n ≠ 0
    && (decide (max 1 (s.fld (cqOff c + 0x1C) 31 16) ≤ n) || s.fld (cqOff c + 0x1C) 15 0 = 0)

/-- Send the ring's message and disarm (R394). -/
def State.cqMessage (s : State) (c : Nat) : State :=
  if s.hostOn then (s.setBit (cqOff c + 0x20) 29 false).msixVector (s.fld (cqOff c + 0x18) 10 0) else s

def State.cqInterrupt (s : State) (c : Nat) : State := if s.cqDue c then s.cqMessage c else s

/-! ### Submission rings -/

/-- The ring enters ERROR with BAD_PI: RING_ERR and a class-N fault (R378). -/
def State.ringError (s : State) (r : Nat) : State :=
  (((s.setBit (sqOff r + 0x1C) 25 true).setSqState r 5 0).irq 5).latchFault hostSource .n

/-- PI lies beyond the depth (R378). -/
def State.badPi (s : State) (r : Nat) (pi : Word) : Bool := decide (2 ^ s.sqLog r < (pi - s.sqCi r).toNat)

/-- The CI write-back of a submission ring (R376). -/
def State.writeSqCi (s : State) (r : Nat) : State :=
  let a := s.addr64 (sqOff r + 0x10)
  if a = 0 then s else s.hostWrite a (leBytes 4 (s.sqCi r).toNat)

/-- A submission ring that runs: enabled, and not in ERROR. -/
def State.sqRuns (s : State) (r : Nat) : Bool := s.sqEn r && s.sqState r ≠ 5

/-! ### Entries of the host -/

def entryByte (e : List Byte) (i : Nat) : Nat := (e.getD i 0).toNat
def entryField (e : List Byte) (i n : Nat) : Nat := leNat (sliceBytes e i n)
/-- Bytes i to j are 0. -/
def zeroBytes (e : List Byte) (i j : Nat) : Bool := (sliceBytes e i (j + 1 - i)).all (fun b => b = 0)

/-- The functions of R415, R482 and R497. -/
def knownFunction (svc fn : Nat) : Bool :=
  match svc with
  | 1 => fn = 0
  | 2 => 1 ≤ fn && fn ≤ 5
  | 3 => fn = 1
  | 4 => 1 ≤ fn && fn ≤ 3
  | 5 => 1 ≤ fn && fn ≤ 2
  | 6 => fn = 1
  | 7 => 1 ≤ fn && fn ≤ 7
  | 8 => 1 ≤ fn && fn ≤ 2
  | _ => false

/-- Functions that a DURABLE ring may carry (R415). -/
def journalable (svc fn : Nat) : Bool := svc = 2 && (fn = 1 || fn = 2 || fn = 3 || fn = 5)

/-- The bytes of ARGS that a service leaves unused are 0 (R381, R416, R497). -/
def argsClear (e : List Byte) : Bool :=
  match entryByte e 8 with
  | 2 => decide (entryByte e 13 < 8) && zeroBytes e 15 15 && zeroBytes e 20 23 && zeroBytes e 32 63
  | 7 => decide (entryByte e 12 < 4) && zeroBytes e 13 15 && zeroBytes e 32 63
  | _ => true

/-- The reserved bits of an entry are 0, by the ring's kind (R381, R383 to R387). -/
def entryClear (kind : Nat) (e : List Byte) : Bool :=
  entryByte e 1 = 0 && entryByte e 0 / 2 = 0 &&
  match kind with
  | 0 | 1 => zeroBytes e 10 11 && (!knownFunction (entryByte e 8) (entryByte e 9) || argsClear e)
  | 2 =>
    let direct := entryByte e 18 % 2 = 1
    entryByte e 18 / 2 = 0 && zeroBytes e 23 63
      && (if direct then entryByte e 19 = 0 && decide (entryField e 20 2 < 2 ^ 14)
          else decide (entryByte e 19 < 16) && decide (entryField e 20 2 < 2 ^ 10) && decide (entryByte e 22 < 64))
  | 3 => zeroBytes e 20 63
  | _ => true

/-- The port of a TX entry's TARGET (R385). -/
def txPort (e : List Byte) : Nat :=
  if entryByte e 18 % 2 = 1 then entryField e 20 2 / 16 % 1024 else entryField e 20 2 % 1024

/-- The code of the first failed check of an entry; 0 when it passes (R381, R384, R385, R387, R391). -/
def State.entryCode (s : State) (r : Nat) (i : Word) (e : List Byte) : Nat :=
  let kind := s.sqKind r
  if entryField e 4 4 ≠ i.toNat then 1
  else if !entryClear kind e then 2
  else if kind = 0 ∨ kind = 1 then
    if !knownFunction (entryByte e 8) (entryByte e 9) then 3
    else if kind = 1 ∧ !journalable (entryByte e 8) (entryByte e 9) then 7
    else 0
  else if kind = 2 then
    if entryField e 8 8 = 0 ∨ entryField e 8 8 % 8 ≠ 0 then 5
    else if entryField e 16 2 < 60 ∨ 16380 < entryField e 16 2 then 4
    else if !s.bit (0x2000000 + txPort e * 0x1000) 31 then 6
    else if s.chip.mode = .recovery ∨ s.chip.mode = .safe then 9
    else 0
  else if kind = 3 then
    if entryField e 8 8 = 0 ∨ entryField e 8 8 % 64 ≠ 0 then 5
    else if entryField e 16 4 < 80 ∨ 65535 < entryField e 16 4 then 4
    else 0
  else 0

/-- HOST-pool cells that a packet of LEN bytes needs (R380). -/
def txCells (len : Nat) : Nat := (len + 4 + 255) / 256

/-- Commands of a ring taken and not completed (R380). -/
def SqRec.commands (x : SqRec) : Nat :=
  (x.taken.filter (fun t => match t.work with
    | .command | .durable _ => true
    | _ => false)).length

/-- The resource that an entry waits for, as WAIT_CAUSE (R380, R402, R269); 0 when none is missing. While a command of the
ring that a cold start has found in the journal is not executed, the ring accepts no entry, and waits for JOURNAL (R270,
assumption 140). -/
def State.missing (s : State) (r : Nat) (e : List Byte) : Nat :=
  let kind := s.sqKind r
  if s.jrn.noEntry || (s.sq r).calls.any (fun c => c.recovered) then 3
  else if s.cqFree (s.sqCq r) = 0 then 1
  else if (kind = 0 ∨ kind = 1) ∧ 64 ≤ (s.sq r).commands then 4
  else if kind = 1 ∧ !s.journalRoom then 3
  else if kind = 2 ∧ s.lim 0x800008 15 0 < s.buf.hostUse + txCells (entryField e 16 2) then 2
  else 0

/-- The work that an entry starts (R108, R267, R381, R385, R392). -/
def State.startEntry (s : State) (r : Nat) (e : List Byte) : State × Work :=
  let kind := s.sqKind r
  let body := sliceBytes e 8 56
  let x := s.sq r
  if kind = 0 then
    (s.setSq r { x with calls := x.calls ++ [{ idx := s.sqCi r, body := body }] }, .command)
  else if kind = 1 then
    let lsn := s.jrn.nextLsn
    let s := s.journal body r
    (s.setSq r { x with calls := x.calls ++ [{ idx := s.sqCi r, body := body, lsn := some lsn }] }, .durable lsn)
  else
    let w : TxWork := {
      addr := entryField e 8 8, len := entryField e 16 2, direct := entryByte e 18 % 2 = 1, cls := entryByte e 19,
      target := entryField e 20 2, op := entryByte e 22, gen := s.activeGen }
    ({ s with buf := { s.buf with hostUse := s.buf.hostUse + txCells w.len } }, .tx w)

/-- Take an entry: a completion slot is reserved, and it is started or completed with its error (R376, R381). -/
def State.takeEntry (s : State) (r : Nat) (e : List Byte) : State :=
  let c := s.sqCq r
  let i := s.sqCi r
  let code := s.entryCode r i e
  let s := s.setReserved c (s.cqReserved c + 1)
  let (s, work, done) : State × Work × Option Done :=
    if code ≠ 0 then (s, .malformed, some { code := code })
    else
      let (s, w) := s.startEntry r e
      match w with
      | .durable lsn => (s, w, if s.writeThrough then none else some (durableDone lsn))
      | _ => (s, w, none)
  let x := s.sq r
  let s := s.setSq r { x with
    taken := x.taken ++ [{ idx := i, tag := entryField e 2 2, work := work, done := done }]
    since := none, stalled := false }
  s.setSqCi r (i + 1)

/-- Why a turn of the scan stops. -/
inductive ScanStop where
  | finished | unowned | more
  | wait (cause : Nat)
deriving DecidableEq, Repr

/-- The slot just reserved was the last: CQ_CI_ADDR is read (R379). -/
def State.readWhenFull (s : State) (c : Nat) (ci : Option Word) : State := if s.cqFree c = 0 then s.readCi c ci else s

/-- Take owned entries in order while resources allow (R376); `ci` is what a read of CQ_CI_ADDR returns (R379). -/
def State.takeEntries (s : State) (r : Nat) (pi : Word) (ci : Option Word) : List EntryRead → State × ScanStop
  | [] => (s, if s.sqCi r = pi then .finished else .more)
  | e :: t =>
    if s.sqCi r = pi then (s, .finished)
    else
      match e with
      | none => (s.dmaErr, .unowned)
      | some b =>
        if entryByte b 0 % 2 ≠ phaseOf (s.sqCi r) (s.sqLog r) then (s, .unowned)
        else if s.missing r b ≠ 0 then (s, .wait (s.missing r b))
        else State.takeEntries ((s.takeEntry r b).readWhenFull (s.sqCq r) ci) r pi ci t

/-- A turn of the scan ends: CI is written back, and the scan reads PI again after a doorbell (R376). -/
def State.endTurn (s : State) (r st cause : Nat) : State :=
  let x := s.sq r
  let s := s.writeSqCi r
  if x.again then (s.setSq r { x with again := false }).setSqState r 2 0 else s.setSqState r st cause

/-- One turn of the scan of a submission ring (R376 to R378). -/
def State.scan (s : State) (r : Nat) (pi : Option Word) (entries : List EntryRead) (ci : Option Word) : State :=
  match pi with
  | none => (s.dmaErr).ringError r
  | some v =>
    let s := s.setReg (sqOff r + 0x24) v
    if s.badPi r v then s.ringError r
    else
      let (s, stop) := s.takeEntries r v ci entries
      match stop with
      | .more => s
      | .finished => (s.setSq r { (s.sq r) with since := none, stalled := false }).endTurn r 1 0
      | .wait c => s.endTurn r 3 c
      | .unowned =>
        let x := s.sq r
        let x := { x with since := some (x.since.getD s.now) }
        (s.setSq r x).endTurn r (if x.stalled then 4 else 1) 0

/-- SQ_SCAN (R376): one turn of a scan that has been started, on a COMMAND, DURABLE or TX ring; commands are not scanned
between a failure of the pair that executes them and its takeover (R405, R406). -/
def execSqScan (r : Ring) (pi : Option Word) (entries : List EntryRead) (ci : Option Word) (s : State) :
    Host.Outcome State Fault Refusal :=
  if s.sqEn r && s.sqState r = 2 && s.sqKind r ≤ 2 && s.hostOn && (s.sqKind r = 2 || s.groupServed 0) then
    .next (s.scan r pi entries ci)
  else .next s

/-- Start a scan, or mark a running one to read PI again (R376). -/
def State.startScan (s : State) (r : Nat) : State :=
  if !s.sqRuns r || 3 ≤ s.sqKind r then s
  else if !s.hostOn then s.setSqState r 3 5
  else if s.sqState r = 2 then s.setSq r { (s.sq r) with again := true }
  else (s.setSq r { (s.sq r) with again := false }).setSqState r 2 0

/-- The host's CI of an armed ring is read again, and its conditions are evaluated (R379, R394); the read needs the bus. -/
def State.cqLook (s : State) (c : Nat) (ci : Option Word) : State :=
  if s.hostOn then (s.readCi c ci).cqInterrupt c else s

/-- A completion ring's doorbell arms its interrupt, and its CI is read, when the device next has the bus where it has it not
now (R371, R379, R394); ignored while EN is 0. -/
def State.cqRing (s : State) (c : Nat) (ci : Option Word) : State :=
  if s.cqEn c then (s.setBit (cqOff c + 0x20) 29 true).cqLook c ci else s

/-- The completion rings that are armed, in order. -/
def State.armedCqs (s : State) : List Nat :=
  (s.regs.filter (fun e => 0x460000 ≤ e.1 && e.1 < 0x4A0000 && e.1 % 0x40 = 0x20 && getBits e.2 29 29 = 1)).map
    (fun e => (e.1 - 0x460000) / 0x40)

/-- The device has the bus again: each armed ring is looked at; `cis` are what the reads of CQ_CI_ADDR return, in the order
of the rings (R394). -/
def State.cqsLook : List Nat → List (Option Word) → State → State
  | [], _, s => s
  | c :: cs, cis, s => State.cqsLook cs (cis.drop 1) (s.cqLook c (cis.headD none))

/-- The 64-byte regions of BAR2 that a write of `n` bytes touches (R370, R371). -/
def doorbellsOf (off n : Nat) : List Nat := (List.range ((off + n - 1) / 0x40 - off / 0x40 + 1)).map (fun k => off / 0x40 + k)

/-- A write to BAR2 rings the doorbell of every region it touches, whatever it carries: SQr at r × 0x40, CQr at 0x40000 +
r × 0x40; `cis` are what the reads of CQ_CI_ADDR return, in the order of the completion rings (R370, R371). -/
def State.ringDoorbells : List Nat → List (Option Word) → State → State
  | [], _, s => s
  | k :: ks, cis, s =>
    if k < 4096 then State.ringDoorbells ks cis (s.startScan k)
    else State.ringDoorbells ks (cis.drop 1) (s.cqRing (k % 4096) (cis.headD none))

/-- A read of BAR2 returns 0 and has no effect (R371). -/
def doorbellRead (_off : BitVec 19) : Word := 0

/-- SQ_DOORBELL (R371, R376): a write to BAR2 of `len` + 1 bytes. -/
def execSqDoorbell (off : BitVec 19) (len : Fin 64) (cis : List (Option Word)) (s : State) :
    Host.Outcome State Fault Refusal := .next (State.ringDoorbells (doorbellsOf off.toNat (len + 1)) cis s)

/-- SQ_RESCAN_TIMER (R377): the scan that stopped at an entry that is not owned is repeated; after 1 ms it sets STALL
and raises RING_ERR. -/
def execSqRescanTimer (r : Ring) (s : State) : Host.Outcome State Fault Refusal :=
  let x := s.sq r
  match x.since with
  | none => .next s
  | some t =>
    if !s.sqRuns r || s.sqState r = 2 || s.sqState r = 3 then .next s
    else
      let s := if t + 1000000 ≤ s.now && !x.stalled then
          (((s.setSq r { x with stalled := true }).setBit (sqOff r + 0x1C) 24 true).setSqState r 4 0).irq 5
        else s
      .next (s.startScan r)

/-- SQ_RESOURCE_FREE (R380): the scan of a ring that waits resumes. -/
def execSqResourceFree (r : Ring) (s : State) : Host.Outcome State Fault Refusal :=
  if s.sqState r = 3 then .next (s.startScan r) else .next s

/-! ### RX rings -/

/-- Read ahead owned buffer entries, up to 16 (R379). -/
def State.readAhead (s : State) (r : Nat) (pi : Word) : List EntryRead → State
  | [] => s
  | e :: t =>
    let x := s.sq r
    let i := s.sqCi r + BitVec.ofNat 32 x.bufs.length
    if i = pi || 16 ≤ x.bufs.length then s
    else
      match e with
      | none => s.dmaErr
      | some b =>
        if entryByte b 0 % 2 ≠ phaseOf i (s.sqLog r) then s
        else
          let buf : RxBuf := {
            idx := i, tag := entryField b 2 2, addr := entryField b 8 8, len := entryField b 16 4,
            code := s.entryCode r i b }
          State.readAhead (s.setSq r { x with bufs := x.bufs ++ [buf] }) r pi t

/-- RX_RING_READ_AHEAD (R379): the entries follow those already read ahead. -/
def execRxRingReadAhead (r : Ring) (pi : Option Word) (entries : List EntryRead) (s : State) :
    Host.Outcome State Fault Refusal :=
  if s.sqRuns r && s.sqKind r = 3 && s.hostOn then
    match pi with
    | none => .next (s.dmaErr.ringError r)
    | some v =>
      let s := s.setReg (sqOff r + 0x24) v
      if s.badPi r v then .next (s.ringError r) else .next (s.readAhead r v entries)
  else .next s

/-- Post a receive completion and consume the buffer's entry; the host's CI is read again before the interrupt is decided
(R379, R382, R387, R389, R394). -/
def State.rxPost (s : State) (r : Nat) (b : RxBuf) (code source written id : Nat) (ci : Option Word) : State :=
  let c := s.sqCq r
  let body := leBytes 2 r ++ leBytes 1 code ++ leBytes 1 source ++ leBytes 4 b.idx.toNat ++ leBytes 2 written
    ++ leBytes 1 id
  let s := (s.writeEntry c 2 b.tag 0 body).writePi c
  let s := s.setSq r { (s.sq r) with bufs := (s.sq r).bufs.drop 1 }
  (((s.setSqCi r (b.idx + 1)).writeSqCi r).readCi c ci).cqInterrupt c

/-- Complete malformed buffers that are reached, while the completion ring has room (R387). -/
def State.skipBuffers (s : State) (r : Nat) (ci : Option Word) : Nat → State
  | 0 => s
  | n + 1 =>
    match (s.sq r).bufs with
    | b :: _ =>
      if b.code ≠ 0 && s.cqFree (s.sqCq r) ≠ 0 then State.skipBuffers (s.rxPost r b b.code 0 0 0 ci) r ci n else s
    | [] => s

/-- Deliver a record into the next buffer of a receive ring, as it is for the room in the buffer; the answer says whether it
was (R387). -/
def State.rxDeliver (s : State) (r source id : Nat) (rec_ : Nat → List Byte) (ci : Option Word) : State × Bool :=
  if !(s.sqRuns r && s.sqKind r = 3 && s.hostOn) then (s.incSat (sqOff r + 0x1C) 15 0 1, false)
  else
    let s := s.skipBuffers r ci 16
    match (s.sq r).bufs with
    | b :: _ =>
      if b.code ≠ 0 || s.cqFree (s.sqCq r) = 0 then (s.incSat (sqOff r + 0x1C) 15 0 1, false)
      else
        let bytes := rec_ b.len
        let cut := bytes.take b.len
        let code := if b.len < bytes.length then 0x0E else 0
        ((s.hostWrite b.addr cut).rxPost r b code source cut.length id ci, true)
    | [] => (s.incSat (sqOff r + 0x1C) 15 0 1, false)

/-! ### Mirror and CPU copies (R293, R294, R387, R401) -/

/-- The 16-byte header of a copy's record (R293). -/
def State.copyHeader (s : State) (c : CopyRec) (session caplen : Nat) : List Byte :=
  let d := s.desc c.desc
  let x := s.info c.desc
  leBytes 4 c.ts.toNat ++ leBytes 4 d.seq.toNat
    ++ leBytes 4 (d.len % 2 ^ 15 + c.out.isSome.toNat * 2 ^ 15 + caplen % 256 * 2 ^ 16 + session % 64 * 2 ^ 24
        + c.egress.toNat * 2 ^ 30 + c.dropped.toNat * 2 ^ 31)
    ++ leBytes 4 (x.port % 1024 + c.out.getD 0 % 1024 * 2 ^ 10 + x.tc % 16 * 2 ^ 20
        + (if c.dropped then c.reason % 256 else 0) * 2 ^ 24)

/-- The copy leaves its delivery queue and its holder is released (R175). -/
def State.endDelivery (s : State) (c : CopyRec) : State :=
  let s := { s with egr := { s.egr with copies := s.egr.copies.filter (fun x => x ≠ c) } }
  s.release c.desc c.holder

/-- Deliver a CPU copy (R387, R401): CAPLEN counts the bytes of the frame that are written, up to 256. -/
def State.deliverCpu (s : State) (c : CopyRec) (frame : List Byte) (ci : Option Word) : State :=
  let map := 0x402000 + c.cpu % 256 * 4
  let r := s.fld map 11 0
  if !s.bit map 31 || !s.sqEn r || s.sqKind r ≠ 3 then s.incSat map 27 12 1
  else
    let rec_ (room : Nat) : List Byte := s.copyHeader c 0 (min (min frame.length (room - 16)) 256 - 1) ++ frame
    (s.rxDeliver r 0 (c.cpu % 256) rec_ ci).1

/-- Cells of the RECORD pool that capture and sample records hold. -/
def State.recordUse (s : State) : Nat := s.hq.captures.foldl (fun n x => n + x.cells.length) 0

/-- Cells for a record of `n` bytes, out of all of the RECORD pool but its first 256 cells, which serve fault records
(R184, R293); none when the pool is exhausted (R188). -/
def State.recordCells (s : State) (n : Nat) : State × Option (List Nat) :=
  let k := (n + 255) / 256
  if s.recordUse + k ≤ s.lim 0x800008 31 16 - 256 then s.recordTake k else (s, none)

/-- Deliver a session's copy, whose record is built in cells of the RECORD pool: a sample to its receive ring, which gives
them back at once, or a capture record to wait for its event ring; CAPLEN counts the bytes of the frame that the record
holds (R293, R294, R387). -/
def State.deliverSession (s : State) (m : Nat) (c : CopyRec) (frame : List Byte) (ci : Option Word) : State :=
  let ring := s.fld (0x2501000 + m * 8) 11 0
  let sample := s.bit (0x2501000 + m * 8) 30
  let f := frame.take (if sample then 256 else 128)
  let rec_ (room : Nat) : List Byte := s.copyHeader c m (min f.length (room - 16) - 1) ++ f
  let z := s.recordCells (16 + f.length)
  let s := z.1.raiseFound
  match z.2 with
  | none => s.count (cMirror m 3) 1
  | some cs =>
    if sample then
      let y := s.rxDeliver ring 1 m rec_ ci
      (y.1.count (cMirror m (if y.2 then 2 else 5)) 1).recordFree cs
    else
      { s with hq := { s.hq with captures := s.hq.captures ++
        [{ ring := ring, session := m, bytes := sliceBytes (rec_ 144) 0 168, cells := cs }] } }

/-- A copy reaches the head of its delivery queue: delivered, once the guard of every cell it reads has been checked, or
discarded while the shared pool is full (R182, R228, R293, R387). A copy of a frame whose last cell is not written
waits. -/
def State.deliverCopy (s : State) (d : Nat) (h : Holder) (cpuToo : Bool) (ci : Option Word) : State :=
  match s.egr.copies.find? (fun c => c.desc = d && c.holder = h) with
  | none => s
  | some c =>
    let cpu := holderTarget h = 0x2000
    if (cpu && !cpuToo) || !(s.info d).ended then s
    else
      let m := holderTarget h % 64
      if s.sharedFull then (if cpu then s else s.count (cMirror m 4) 1).endDelivery c
      else
        let y := s.checkGuards d (s.desc d).dest h
        if !y.2 then y.1
        else if cpu then (y.1.deliverCpu c (y.1.frameBytes d) ci).endDelivery c
        else (y.1.deliverSession m c (y.1.frameBytes d) ci).endDelivery c

/-- RX_COPY_DELIVER (R387): a CPU or sample copy. -/
def execRxCopyDeliver (d : DescId) (h : Holder) (ci : Option Word) (s : State) : Host.Outcome State Fault Refusal :=
  if holderTarget h = 0x2000 || s.bit (0x2501000 + holderTarget h % 64 * 8) 30 then .next (s.deliverCopy d h true ci)
  else .next s

/-- MIRROR_RECORD_WRITE (R293): a session's copy. -/
def execMirrorRecordWrite (d : DescId) (h : Holder) (ci : Option Word) (s : State) : Host.Outcome State Fault Refusal :=
  .next (s.deliverCopy d h false ci)

/-! ### TX packets (R386) -/

/-- The oldest packet of a ring that is being read. -/
def SqRec.reading (x : SqRec) : Option (Taken × TxWork) :=
  x.taken.findSome? (fun t =>
    match t.work with
    | .tx w => if t.done.isNone then some (t, w) else none
    | _ => none)

/-- Finish a taken entry. -/
def State.finishTaken (s : State) (r : Nat) (i : Word) (done : Done) : State :=
  s.setSq r { (s.sq r) with taken := (s.sq r).taken.map (fun t =>
    if t.idx = i && t.done.isNone then { t with done := some done } else t) }

/-- Write the cells of a host packet (R164, R386); the answer says whether every cell could be had now, or the writer
waits. `full` names the bank groups whose write stage is full (R170). -/
def State.writeHostCells (s : State) (d die : Nat) (full : List Nat) : List Byte → Nat → State × Bool
  | _, 0 => (s, true)
  | bs, n + 1 =>
    let y := s.allocCell 64 die full
    match y.2 with
    | none => (y.1, false)
    | some c => State.writeHostCells (y.1.writeCell d c (bs.take 256) (n = 0)) d die full (bs.drop 256) n

/-- The packet's sequence in its ring, its descriptor and its record. -/
def State.hostFrame (s : State) (r d : Nat) (w : TxWork) : State :=
  let port := if w.direct then w.target / 16 % 1024 else w.target % 1024
  let pair := 16384 + r
  let o := s.order pair
  let info : Nat := port + w.cls % 16 * 2 ^ 10 + w.cls % 16 * 2 ^ 16 + (if w.direct then 0 else w.op % 64) * 2 ^ 20
  let s := s.setOrder pair { o with assign := o.assign + 1 }
  let s := s.setDesc d {
    alloc := true, gen := w.gen, tsIn := s.tb0Ns, dest := 0xFFFF, seq := o.assign, len := w.len + 4,
    portinfo := BitVec.ofNat 32 info, lossless := s.lossless w.cls }
  s.setInfo d {
    port := port, ring := some r, ended := true, good := true, classified := true, tc := w.cls % 16, region := .host }

/-- The packet goes to its pipeline's slot queue, or into ring order for its queue (R386). -/
def State.sendHost (s : State) (r d : Nat) (w : TxWork) : State :=
  if w.direct then
    let port := (s.info d).port
    let s := s.setInfo d { (s.info d) with ingressDone := true }
    let s := s.holdResult (16384 + r) {
      port := port, tc := 0, seq := (s.desc d).seq, desc := d, pipe := 7, drop := false, reason := 0,
      md6 := BitVec.ofNat 32 (2 ^ 14 + w.target % 2 ^ 14), md7 := 0, bridge := [], egOp := w.op, requests := [], after := false,
      direct := true }
    s.releaseRing (16384 + r)
  else
    let g := portGroup (s.info d).port
    s.setHostQueue g (s.hostQueue g ++ [d])

/-- TX_PACKET_READ_DONE (R386, R388): the oldest packet being read is in the buffer, or its read failed. -/
def State.txReadDone (s : State) (r : Nat) (bytes : Option (List Byte)) (full : List Nat) : State :=
  match (s.sq r).reading with
  | none => s
  | some (t, w) =>
    match bytes with
    | none =>
      let s := { s with buf := { s.buf with hostUse := s.buf.hostUse - txCells w.len } }
      (s.dmaErr.finishTaken r t.idx { code := 8 }).checkDrained
    | some b =>
      let frame := sliceBytes b 0 w.len
      match s.allocDesc with
      | none => s
      | some (u, d) =>
        let u := u.hostFrame r d w
        let y := u.writeHostCells d (dieOf (u.info d).port) full (frame ++ ethFcs frame) (txCells w.len)
        if y.2 then
          let v := y.1
          let res := leBytes 4 (v.desc d).seq.toNat ++ leBytes 4 v.tb0Ns.toNat
          (v.finishTaken r t.idx { code := 0, result := res }).sendHost r d w
        else s.mendAfter y.1

/-- TX_PACKET_READ_DONE (R386): with no cell granted, the writer waits and tries again (R26, R170). -/
def execTxPacketReadDone (r : Ring) (bytes : Option (List Byte)) (full : List (Fin 256)) (s : State) :
    Host.Outcome State Fault Refusal :=
  if s.hostOn && !s.bufferPaused then .next (s.txReadDone r bytes (full.map Fin.val)) else .next s

/-! ### Completions -/

/-- The oldest taken entry of a ring may be completed now (R269, R382). -/
def State.postable (s : State) (t : Taken) : Option Done :=
  match t.done, t.work with
  | some d, .durable _ => if s.jrn.gate ≤ s.jrn.programmed then some d else none
  | d, _ => d

/-- A ring that drains is DISABLED once nothing it has taken is left (R397). -/
def State.checkDrainedSq (s : State) (r : Nat) : State :=
  if s.sqState r = 6 && (s.sq r).taken.isEmpty then s.setSqState r 0 0 else s

/-- Post the completion of a ring's oldest entry (R375, R382, R388); a durable one counts under the mode (R297). -/
def State.postOne (s : State) (r : Nat) (ci : Option Word) : State :=
  match (s.sq r).taken with
  | [] => s
  | t :: rest =>
    match s.postable t with
    | none => s
    | some d =>
      let c := s.sqCq r
      let body := leBytes 2 r ++ leBytes 1 d.code ++ leBytes 1 d.detail ++ leBytes 4 t.idx.toNat
        ++ sliceBytes d.result 0 48
      let s := (s.writeEntry c 1 t.tag 0 body).writePi c
      let s := s.setReserved c (s.cqReserved c - 1)
      let s := match t.work with
        | .durable _ => s.count (cChip (if s.writeThrough then 11 else 10)) 1
        | _ => s
      let s := s.setSq r { (s.sq r) with taken := rest }
      ((s.checkDrainedSq r).readCi c ci).cqInterrupt c

/-- COMPLETION_POST (R382): the completion, the PI write-back and the interrupt. -/
def execCompletionPost (r : Ring) (ci : Option Word) (s : State) : Host.Outcome State Fault Refusal :=
  if s.hostOn then .next (s.postOne r ci) else .next s

/-- CQ_DOORBELL (R371, R379, R394): a write to BAR2 of `len` + 1 bytes. -/
def execCqDoorbell (off : BitVec 19) (len : Fin 64) (cis : List (Option Word)) (s : State) :
    Host.Outcome State Fault Refusal := .next (State.ringDoorbells (doorbellsOf off.toNat (len + 1)) cis s)

/-- CQ_COAL_TIMER (R394): the oldest unread entry of an armed ring has waited TIME µs. The host's CI is read again; where it
has moved on, another entry is the oldest, and COUNT decides. -/
def execCqCoalTimer (r : Ring) (ci : Option Word) (s : State) : Host.Outcome State Fault Refusal :=
  if s.cqEn r && s.bit (cqOff r + 0x18) 29 && s.bit (cqOff r + 0x20) 29 && s.cqUnread r ≠ 0 && s.hostOn then
    let t := s.readCi r ci
    .next (if t.cqUnread r = s.cqUnread r then t.cqMessage r else t.cqInterrupt r)
  else .next s

/-! ### Event records -/

/-- An EVENT ring takes `n` more entries (R390, R397). -/
def State.eventRoom (s : State) (c n : Nat) : Bool := s.cqEn c && s.cqEvent c && s.hostOn && decide (n ≤ s.cqFree c)

/-- A record of an event ring is dropped and counted (R390). -/
def State.eventDrop (s : State) (c : Nat) : State := s.incSat (cqOff c + 0x20) 15 0 1

/-- The body of a fault record (R435). -/
def FaultRecord.body (f : FaultRecord) : List Byte :=
  leBytes 2 f.source ++ leBytes 1 (faultCode f.cls) ++ leBytes 1 f.flags ++ leBytes 2 f.count ++ leBytes 1 f.state ++ [0]
    ++ leBytes 4 f.ts.toNat ++ leBytes 4 f.sec.toNat ++ leBytes 8 f.detail.toNat ++ leBytes 4 f.lastClean.toNat
    ++ leBytes 2 (f.device % 4096)

/-- Write the oldest fault record (R390, R399). -/
def State.writeFaultRecord (s : State) (ci : Option Word) : State :=
  match s.fc.records with
  | [] => s
  | f :: rest =>
    let s := { s with fc := { s.fc with records := rest } }.recordFree [f.cell]
    let c := s.fld 0x400000 11 0
    if !s.bit 0x400000 31 then s
    else if s.eventRoom c 1 then (((s.writeEntry c 0x10 0 0 f.body).writePi c).readCi c ci).cqInterrupt c
    else
      let s := s.incSat 0x400004 15 0 1
      if s.cqEvent c then s.eventDrop c else s

/-- Write the oldest capture record: three entries (R293, R390). -/
def State.writeCapture (s : State) (ci : Option Word) : State :=
  match s.hq.captures with
  | [] => s
  | x :: rest =>
    let s := { s with hq := { s.hq with captures := rest } }.recordFree x.cells
    let c := x.ring
    if s.eventRoom c 3 then
      ((((s.writeRecord c 0x11 x.bytes).writePi c).count (cMirror x.session 2) 1).readCi c ci).cqInterrupt c
    else (s.eventDrop c).count (cMirror x.session 5) 1

/-- EVENT_RECORD_WRITE (R390); the damaged free lists that the record writer has met are reported first (R172). Fault records
are handled by a service of KP1 (R405). -/
def execEventRecordWrite (capture : Bool) (ci : Option Word) (s : State) : Host.Outcome State Fault Refusal :=
  let s := s.raiseFound
  .next (if capture then s.writeCapture ci else if s.groupServed 1 then s.writeFaultRecord ci else s)

/-! ### Enabling and disabling (R396, R397) -/

def depthOk (log : Nat) : Bool := 6 ≤ log && log ≤ 16

/-- Enable a submission ring, or refuse with a class-N fault. -/
def State.enableSq (s : State) (r : Nat) : State :=
  let c := s.sqCq r
  if depthOk (s.sqLog r) && s.cqEn c && !s.cqEvent c && s.sqState r ≠ 6 then
    let s := (s.setBit (sqOff r + 0x18) 31 true).setSqState r 1 0
    let s := (s.setReg (sqOff r + 0x20) 0).setReg (sqOff r + 0x24) 0
    s.setSq r { (s.sq r) with again := false, since := none, stalled := false, bufs := [] }
  else s.refusedWrite (sqOff r + 0x18)

/-- Enable a completion ring, armed, or refuse with a class-N fault. -/
def State.enableCq (s : State) (c : Nat) : State :=
  if depthOk (s.cqLog c) then
    let s := (s.setBit (cqOff c + 0x18) 31 true).setFld (cqOff c + 0x20) 31 30 1
    let s := (s.setBit (cqOff c + 0x20) 29 true).setBit (cqOff c + 0x20) 28 false
    (s.setReg (cqOff c + 0x24) 0).setReg (cqOff c + 0x28) 0
  else s.refusedWrite (cqOff c + 0x18)

/-- The fields of a CFG register that change only while EN is 0, and IRQ_EN of a completion ring, which may change at
any time and then lets an armed ring that is due send its message (R394, R396). -/
def State.writeCfg (s : State) (cq : Bool) (r : Nat) (value : Word) : State :=
  let off := if cq then cqOff r + 0x18 else sqOff r + 0x18
  let mask : Word := if cq then 0x7F0007FF else 0x7FFFF800
  let free : Word := if cq then 0x20000000 else 0
  let old := s.reg off
  if getBits old 31 31 = 0 then s.setReg off (value &&& mask)
  else
    let s := s.setReg off ((old &&& ~~~free) ||| (value &&& free))
    let s := if cq then s.cqInterrupt r else s
    if (old ^^^ value) &&& mask &&& ~~~free = 0 then s else s.refusedWrite off

/-- An enabled submission ring names a completion ring. -/
def State.cqNamed (s : State) (c : Nat) : Bool :=
  s.regs.any (fun e =>
    0x420000 ≤ e.1 && e.1 < 0x460000 && e.1 % 0x40 = 0x18 && getBits e.2 31 31 = 1 && getBits e.2 22 11 = c)

/-- EN of a submission ring is cleared: it drains (R397). -/
def State.disableSq (s : State) (r : Nat) : State :=
  let s := (s.setBit (sqOff r + 0x18) 31 false).setSqState r 6 0
  (s.setSq r { (s.sq r) with again := false, since := none, stalled := false, bufs := [] }).checkDrainedSq r

/-- EN of a completion ring is cleared, or the write is refused (R397). -/
def State.disableCq (s : State) (c : Nat) : State :=
  if !s.cqEvent c && (s.cqNamed c || s.cqReserved c ≠ 0) then s.refusedWrite (cqOff c + 0x18)
  else ((s.setBit (cqOff c + 0x18) 31 false).setFld (cqOff c + 0x20) 31 30 0).setBit (cqOff c + 0x20) 29 false

/-- EN of a ring goes from `was` to `on`. -/
def State.ringChange (s : State) (cq : Bool) (r : Nat) (was on : Bool) : State :=
  if was = on then s
  else if on then (if cq then s.enableCq r else s.enableSq r)
  else if cq then s.disableCq r
  else s.disableSq r

/-- A write of a ring's CFG register (R396, R397). -/
def State.writeRingCfg (s : State) (cq : Bool) (r : Nat) (value : Word) : State :=
  (s.writeCfg cq r value).ringChange cq r (if cq then s.cqEn r else s.sqEn r) (decide (getBits value 31 31 = 1))

/-- RING_ENABLE (R396): the word of the ring's CFG register. -/
def execRingEnable (cq : Bool) (r : Ring) (value : Word) (s : State) : Host.Outcome State Fault Refusal :=
  if s.closed 0x420000 then .next s else
  .next (s.writeRingCfg cq r value)

/-- RING_DISABLE (R397): the word of the ring's CFG register. -/
def execRingDisable (cq : Bool) (r : Ring) (value : Word) (s : State) : Host.Outcome State Fault Refusal :=
  if s.closed 0x420000 then .next s else
  .next (s.writeRingCfg cq r value)

/-! ### The PCIe function (R368, R369, R519) -/

/-- Enabled rings wait with BUS_MASTER (R369). -/
def State.ringsWait (s : State) : State :=
  (s.regs.filter (fun e => 0x420000 ≤ e.1 && e.1 < 0x460000 && e.1 % 0x40 = 0x18 && getBits e.2 31 31 = 1)).foldl
    (fun s e =>
      let r := (e.1 - 0x420000) / 0x40
      if s.sqState r = 5 then s else s.setSqState r 3 5) s

/-- PCIE_BUS_MASTER_OFF (R369): Bus Master Enable is cleared, or D3hot is entered. -/
def execPcieBusMasterOff (s : State) : Host.Outcome State Fault Refusal :=
  .next ({ s with hq := { s.hq with busMaster := false } }.ringsWait)

/-- Rings that wait for the bus resume (R369): they scan again. -/
def State.ringsResume (s : State) : State :=
  (s.regs.filter (fun e => 0x420000 ≤ e.1 && e.1 < 0x460000 && e.1 % 0x40 = 0x1C && getBits e.2 28 26 = 5)).foldl
    (fun s e =>
      let r := (e.1 - 0x420000) / 0x40
      if s.sqKind r = 3 then s.setSqState r 1 0 else s.startScan r) s

/-- The device has the bus: the rings that waited for it resume, and the armed completion rings are looked at (R369,
R394). -/
def State.busBack (s : State) (cis : List (Option Word)) : State :=
  if s.hostOn then State.cqsLook s.armedCqs cis s.ringsResume else s

/-- PCIE_BUS_MASTER_ON (R369, R394). -/
def execPcieBusMasterOn (cis : List (Option Word)) (s : State) : Host.Outcome State Fault Refusal :=
  .next ({ s with hq := { s.hq with busMaster := true } }.busBack cis)

/-- The trestle requests of the plain commands of a ring have no owner any more. -/
def Trestle.disown (x : Trestle) (lost : Nat → Bool) : Trestle :=
  let keep (o : Option Nat) : Option Nat := o.filter (fun r => !lost r)
  { x with owner := keep x.owner, queued := x.queued.map (fun q => { q with ring := keep q.ring }) }

/-- Capture records that wait have lost their rings: each is dropped and counted, and its cells are free (R294, R369). -/
def State.dropCaptures (s : State) : State :=
  s.hq.captures.foldl (fun s x => (s.recordFree x.cells).count (cMirror x.session 5) 1)
    { s with hq := { s.hq with captures := [] } }

/-- The host interface and the PCIe function are reset (R369): rings are DISABLED, what was taken is forgotten but for
the durable commands already journalled, and nothing else is touched. -/
def State.functionReset (s : State) : State :=
  let cells := s.hq.sq.foldl (fun n e => n + (e.2.taken.foldl (fun n t =>
    match t.work, t.done with
    | .tx w, none => n + txCells w.len
    | _, _ => n) 0)) 0
  let lost (r : Nat) : Bool := (s.sq r).calls.any (fun c => c.lsn.isNone)
  let keep : Tbl SqRec := s.hq.sq.filterMap (fun e =>
    let cs := e.2.calls.filter (fun c => c.lsn.isSome)
    if cs.isEmpty then none else some (e.1, { calls := cs }))
  let s := s.dropCaptures
  let s := { s with
    regs := s.regs.filter (fun e => !(0x400000 ≤ e.1 && e.1 < 0x500000))
    trestle := s.trestle.map (fun (e : Nat × Trestle) => (e.1, e.2.disown lost))
    buf := { s.buf with hostUse := s.buf.hostUse - cells }
    hq := { sq := keep, pcieUp := s.hq.pcieUp, pcieRate := s.hq.pcieRate, pcieWidth := s.hq.pcieWidth } }
  (s.setBit 0x400004 17 true).checkDrained

/-- PCIE_FLR (R369). -/
def execPcieFlr (s : State) : Host.Outcome State Fault Refusal := .next s.functionReset

/-- PCIE_PERST (R519): as an FLR; the link trains again. -/
def execPciePerst (s : State) : Host.Outcome State Fault Refusal :=
  let s := s.functionReset
  .next { s with hq := { s.hq with pcieUp := false } }

/-- The identity of the PCIe endpoint: device ID, revision ID and class code (R368). -/
def pcieDeviceId : BitVec 16 := 0x9640
def pcieRevision : BitVec 8 := 0xB1
def pcieClass : BitVec 24 := 0x020000

/-- PCIE_LINK_UP (R368): the link has trained at a rate and a width; below 16 GT/s a class-N fault is recorded. -/
def execPcieLinkUp (rate width : Nat) (cis : List (Option Word)) (s : State) : Host.Outcome State Fault Refusal :=
  if s.chip.pcieRefLost then .next s else
  let s := { s with hq := { s.hq with pcieUp := true, pcieRate := rate, pcieWidth := width } }.busBack cis
  .next (if rate < 16 then s.latchFault hostSource .n else s)

/-- MSIX_VECTOR_UNMASK (R394): the mask bit is cleared, and a pending message is sent. -/
def execMsixVectorUnmask (v : Fin 2048) (s : State) : Host.Outcome State Fault Refusal :=
  let s := s.setBit (0x41000C + v.val * 0x10) 0 false
  let pba := 0x418000 + v.val / 32 * 4
  if s.bit pba (v.val % 32) && s.hostOn then .next ((s.setBit pba (v.val % 32) false).msixVector v) else .next s

end Sys2Proof.Machine
end

