-- ==== Sys2Proof/Machine/Keystone.lean ====
section
/-! DEFINITION. Keystone pairs, takeover, and the frame windows and traps of Koltan-C (R404 to R414, R422 to R424). -/

namespace Sys2Proof.Machine

/-! ### Pairs and where their services run -/

/-- Move a pair to a state; one that runs is available to the keystones' own view again (R422, R453). -/
def State.setKsState (s : State) (p v : Nat) : State :=
  let s := s.setFld 0x700000 (3 * p + 2) (3 * p) v
  if v = 1 then s.setMgmt 5 p true else s

/-- Move a group of services to a pair, as KS_STATUS shows it. -/
def State.moveGroup (s : State) (group pair : Nat) : State :=
  if group = 0 then s.setBit 0x700000 9 (pair = 1) else s.setBit 0x700000 8 (pair = 0)

/-- The group of a service: FUSE and POWER are KP1's, the others KP0's (R405). -/
def serviceGroup (svc : Nat) : Nat := if svc = 6 ∨ svc = 8 then 1 else 0

/-- Host command execution and the service run (R405, R406); in LOADER only INFO and UPDATE are answered (R495). -/
def State.serviceUp (s : State) (svc : Nat) : Bool :=
  (s.fld 0x800 31 28 ≠ 5 || svc = 1 || svc = 7) && s.groupUp 0 && s.groupUp (serviceGroup svc)

def State.kc (s : State) (p : Nat) : KcPair := if p = 0 then s.ks.kp0 else s.ks.kp1
def State.setKc (s : State) (p : Nat) (x : KcPair) : State :=
  if p = 0 then { s with ks := { s.ks with kp0 := x } } else { s with ks := { s.ks with kp1 := x } }

/-! ### Failure (R406, R407, R424) -/

/-- A further WSAVE would pass SPILL_LIMIT. -/
def KcPair.spillFull (x : KcPair) : Bool := decide (x.spillLimit.toNat < x.spillPtr.toNat + 128)

/-- Latch KS_HALT_p. -/
def State.haltDump (s : State) (p : Nat) (ecause : Nat) (double mismatch watchdog : Bool) : State :=
  let x := s.kc p
  let o := 0x700010 + p * 0x10
  let info := ecause % 256 * 2 ^ 24 + double.toNat * 2 ^ 23 + mismatch.toNat * 2 ^ 22 + watchdog.toNat * 2 ^ 21
    + x.tactive.toNat * 2 ^ 20 + x.wsel % 16 * 2 ^ 16 + x.depth % 16 * 2 ^ 12 + x.spillFull.toNat * 2 ^ 11
  let s := (s.setReg o (BitVec.ofNat 32 info)).setReg (o + 4) (x.pc.setWidth 32)
  (s.setReg (o + 8) (BitVec.ofNat 32 (x.pc.toNat / 2 ^ 32))).setReg (o + 12) ((x.spillPtr - x.spillBase).setWidth 32)

/-- A pair fails (R406): both cores halt, the dump is latched and a class-S fault is raised; with the other pair halted
already the fault is of class D (R407). `elem` is the element of R427. -/
def State.pairFails (s : State) (p elem ecause : Nat) (double mismatch watchdog : Bool) : State :=
  if !s.kcRuns p then s
  else
    let detail := ecause % 256 + (s.kc p).pc.toNat % 2 ^ 56 * 2 ^ 8
    let other := s.kcRuns (1 - p)
    let s := ((s.haltDump p ecause double mismatch watchdog).setKsState p 2).fence (partyPair p)
    s.latchFault (srcChip (0x0F + p) elem) (if other then .s else .d) detail

/-- KEYSTONE_COMPARATOR_MISMATCH (R404, R406). -/
def execKeystoneComparatorMismatch (pair : Fin 2) (s : State) : Host.Outcome State Fault Refusal :=
  .next (s.pairFails pair 0 0 false true false)

/-- KEYSTONE_WATCHDOG_EXPIRE (R406). -/
def execKeystoneWatchdogExpire (pair : Fin 2) (s : State) : Host.Outcome State Fault Refusal :=
  .next (s.pairFails pair 2 0 false false true)

/-! ### Takeover (R393, R406) -/

/-- Services of the pair run nowhere while it is down. -/
def State.owesTakeover (s : State) (p : Nat) : Bool :=
  s.ksState p ≠ 1 && s.kcRuns (1 - p) && (s.groupPair 0 = p || s.groupPair 1 = p)

/-- Finish every plain command taken and not completed that `which` names; the trestle requests of those commands have
no owner any more. -/
def State.sweepPlain (s : State) (code : Nat) (which : Call → Bool) : State :=
  let lost (r : Nat) : Bool :=
    match (s.sq r).calls with
    | c :: _ => c.lsn.isNone && which c
    | [] => false
  let s := { s with trestle := s.trestle.map (fun (e : Nat × Trestle) => (e.1, e.2.disown lost)) }
  s.hq.sq.foldl (fun s e =>
    let gone := e.2.calls.filter (fun c => c.lsn.isNone && which c)
    let x := s.sq e.1
    s.setSq e.1 { x with
      calls := x.calls.filter (fun c => !(c.lsn.isNone && which c))
      taken := x.taken.map (fun t =>
        if t.done.isNone && gone.any (fun c => c.idx = t.idx) then { t with done := some { code := code } } else t) }) s

/-- The service number of a command. -/
def Call.service (c : Call) : Nat := (c.body.getD 0 0).toNat
def Call.function (c : Call) : Nat := (c.body.getD 1 0).toNat



/-- KEYSTONE_TAKEOVER_DONE (R406): every service runs on the surviving pair. -/
def execKeystoneTakeoverDone (pair : Fin 2) (s : State) : Host.Outcome State Fault Refusal :=
  let p := pair.val
  let q := 1 - p
  if !s.owesTakeover p || !s.ks.taking.contains p then .next s
  else
    let s := { s with ks := { s.ks with taking := s.ks.taking.filter (fun x => x ≠ p) } }
    let s := if s.groupPair 0 = p then s.moveGroup 0 q else s
    let s := if s.groupPair 1 = p then s.moveGroup 1 q else s
    .next (((s.setKsState q 1).incMod 0x700000 31 16 1).irq 9)

/-! ### Reinstatement and return (R408, R423) -/

/-- A write of KS_CTRL (R423). -/
def State.writeKsCtrl (s : State) (value : Word) : State :=
  let p := getBits value 0 0
  let s := s.setFld 0x700004 0 0 p
  let s :=
    if getBits value 1 1 = 0 then s
    else if s.ksState p = 2 then (s.setKc p {}).setKsState p 3
    else s.refusedWrite 0x700004
  if getBits value 2 2 = 0 then s
  else if s.ksState p = 4 then (s.moveGroup p p).setKsState p 1
  else s.refusedWrite 0x700004

/-- KEYSTONE_REINSTATE (R408): the word of KS_CTRL. -/
def execKeystoneReinstate (value : Word) (s : State) : Host.Outcome State Fault Refusal :=
  if s.closed 0x700004 then .next s else
  .next (s.writeKsCtrl value)

/-- KEYSTONE_RETURN (R408): the word of KS_CTRL. -/
def execKeystoneReturn (value : Word) (s : State) : Host.Outcome State Fault Refusal :=
  if s.closed 0x700004 then .next s else
  .next (s.writeKsCtrl value)

/-- KEYSTONE_SELFTEST_DONE (R408, R452). -/
def execKeystoneSelftestDone (pair : Fin 2) (passed : Bool) (s : State) : Host.Outcome State Fault Refusal :=
  let p := pair.val
  if s.ksState p ≠ 3 then .next s
  else if passed then .next ((s.setKsState p 4).unfence (partyPair p))
  else .next ((s.setKsState p 2).latchFault (srcChip (0x0F + p) 0) .n)

/-! ### Frame windows (R409, R410) -/

def zeroDWord : Nat → DWord := fun _ => 0

/-- Register h of window w. -/
def KcPair.h (x : KcPair) (w h : Nat) : DWord := Tbl.get zeroDWord x.win (w * 16 + h)
def KcPair.setH (x : KcPair) (w h : Nat) (v : DWord) : KcPair := { x with win := Tbl.put zeroDWord x.win (w * 16 + h) v }

/-- The window that h0 to h15 name (R409, R411). -/
def KcPair.window (x : KcPair) : Nat := if x.tactive then 15 else x.wsel

/-- A trap of cause `c`: vectored, or a double fault while a handler runs (R411, R412). -/
def State.kcTrap (s : State) (p c : Nat) : State :=
  let x := s.kc p
  if x.tactive then s.pairFails p 1 c true false false
  else s.setKc p { x with
    epc := x.pc, ecause := BitVec.ofNat 8 c, tactive := true, pc := Config.kcVector (BitVec.ofNat 8 c) }

/-- The lowest interrupt source that is pending and enabled (R409, R413). -/
def KcPair.interrupt (x : KcPair) : Option Nat :=
  if x.tactive || !x.imask.getLsbD 63 then none
  else (List.range 64).find? (fun i => x.irq.getLsbD i && x.imask.getLsbD i)

/-- Take an interrupt at this instruction boundary, if one may be taken (R414). -/
def State.kcTakeInterrupt (s : State) (p : Nat) : State :=
  let x := s.kc p
  match x.interrupt with
  | some i => (s.setKc p { x with irq := x.irq &&& ~~~(1#64 <<< i) }).kcTrap p (0x40 + i)
  | none => s

/-- Lines of a pair become pending (R413, R414). -/
def State.kcPend (s : State) (p : Nat) (lines : DWord) : State :=
  s.setKc p { (s.kc p) with irq := (s.kc p).irq ||| lines }

/-- KEYSTONE_TAKEOVER_START (R406): the surviving pair is interrupted at its next instruction boundary, and starts the
services of the failed pair; plain commands that were taken and not completed are completed with TAKEOVER (R393). -/
def execKeystoneTakeoverStart (pair : Fin 2) (s : State) : Host.Outcome State Fault Refusal :=
  let p := pair.val
  if !s.owesTakeover p || s.ks.taking.contains p then .next s
  else
    let host := s.groupPair 0 = p
    let safe := s.groupPair 1 = p
    let s := s.sweepPlain 0x0D (fun c => host || (safe && serviceGroup c.service = 1))
    let s := { s with ks := { s.ks with taking := addOnce s.ks.taking p } }
    .next ((s.kcPend (1 - p) (1#64 <<< (Config.takeoverSource % 64))).kcTakeInterrupt (1 - p))

/-- CALL (R410, R412). -/
def execCall (pair : Fin 2) (target ret : DWord) (s : State) : Host.Outcome State Fault Refusal :=
  let x := s.kc pair
  if !s.kcRuns pair then .next s
  else if x.tactive then .next (s.kcTrap pair 2)
  else if x.depth = 15 then .next (s.kcTrap pair 6)
  else
    let w := (x.wsel + 1) % 15
    .next (s.setKc pair { x.setH w 15 ret with wsel := w, depth := x.depth + 1, pc := target })

/-- RET (R410). -/
def execRet (pair : Fin 2) (s : State) : Host.Outcome State Fault Refusal :=
  let x := s.kc pair
  if !s.kcRuns pair then .next s
  else if x.depth = 1 then .next (s.kcTrap pair 7)
  else .next (s.setKc pair { x with pc := x.h x.window 15, wsel := (x.wsel + 14) % 15, depth := x.depth - 1 })

def kcByteDefault : Nat → Byte := fun _ => 0

/-- The 128 bytes of a window, register 0 first, least significant byte first. -/
def KcPair.windowBytes (x : KcPair) (w : Nat) : List Byte := (List.range 16).flatMap (fun i => leBytes 8 (x.h w i).toNat)

/-- Write bytes of a pair's memory. -/
def putBytes : Tbl Byte → Nat → List Byte → Tbl Byte
  | m, _, [] => m
  | m, a, b :: t => putBytes (Tbl.put kcByteDefault m a b) (a + 1) t

/-- Register i of a window saved at an address. -/
def KcPair.saved (x : KcPair) (a i : Nat) : DWord :=
  BitVec.ofNat 64 (leNat ((List.range 8).map (fun k => Tbl.get kcByteDefault x.mem (a + 8 * i + k))))

/-- WSAVE (R410). -/
def execWsave (pair : Fin 2) (w : Fin 16) (s : State) : Host.Outcome State Fault Refusal :=
  let x := s.kc pair
  if !s.kcRuns pair then .next s
  else if x.spillFull then .next (s.kcTrap pair 3)
  else .next (s.setKc pair { x with
    mem := putBytes x.mem x.spillPtr.toNat (x.windowBytes w), spillPtr := x.spillPtr + 128, pc := Config.kcNext x.pc })

/-- WLOAD (R410). -/
def execWload (pair : Fin 2) (w : Fin 16) (s : State) : Host.Outcome State Fault Refusal :=
  let x := s.kc pair
  if !s.kcRuns pair then .next s
  else if x.spillPtr.toNat < x.spillBase.toNat + 128 then .next (s.kcTrap pair 3)
  else
    let a := x.spillPtr.toNat - 128
    let y := (List.range 16).foldl (fun y i => y.setH w i (x.saved a i)) x
    .next (s.setKc pair { y with spillPtr := BitVec.ofNat 64 a, pc := Config.kcNext x.pc })

/-- The frames resident after the handler of a frame trap (R410). -/
def KcPair.handlerDepth (x : KcPair) : Nat :=
  if x.ecause = 6 then x.depth - 1 else if x.ecause = 7 then x.depth + 1 else x.depth

/-- TEXIT (R411, R414): an interrupt that became pending during the handler is taken at this boundary. -/
def execTexit (pair : Fin 2) (s : State) : Host.Outcome State Fault Refusal :=
  let x := s.kc pair
  if !s.kcRuns pair then .next s
  else if x.tactive then
    .next ((s.setKc pair { x with pc := x.epc, tactive := false, depth := x.handlerDepth }).kcTakeInterrupt pair)
  else .next (s.setKc pair { x with pc := x.epc })

/-! ### Traps and interrupts (R411 to R414) -/

/-- The priority of a cause (R413); none for a reserved code. -/
def kcPriority (c : Nat) : Option Nat :=
  if 1 ≤ c ∧ c ≤ 6 then some c
  else if c = 7 then some 6
  else if c = 8 then some 7
  else if c = 9 then some 8
  else if 0x40 ≤ c ∧ c ≤ 0x7F then some 9
  else none

/-- The cause that is taken: the lowest priority number, then the lower code (R413). -/
def kcFirst (cs : List Byte) : Option Nat :=
  (cs.map (fun c => c.toNat)).foldl (fun (best : Option Nat) c =>
    match kcPriority c, best with
    | none, b => b
    | some _, none => some c
    | some n, some b => if n * 256 + c < (kcPriority b).getD 99 * 256 + b then some c else best) none

/-- The interrupt lines among the causes of an instruction boundary. -/
def kcLines (causes : List Byte) : DWord :=
  causes.foldl (fun w c => if 0x40 ≤ c.toNat ∧ c.toNat ≤ 0x7F then w ||| 1#64 <<< (c.toNat - 0x40) else w) 0

/-- KC_TRAP_ENTRY (R411 to R414): of the causes at an instruction boundary the first traps; an interrupt comes after every
other cause, and one that is not taken stays pending. -/
def execKcTrapEntry (pair : Fin 2) (causes : List Byte) (s : State) : Host.Outcome State Fault Refusal :=
  if !s.kcRuns pair then .next s
  else
    let s := s.kcPend pair (kcLines causes)
    match kcFirst (causes.filter (fun c => c.toNat < 0x40)) with
    | some c => .next (s.kcTrap pair c)
    | none => .next (s.kcTakeInterrupt pair)

/-- KC_INTERRUPT (R414): lines become pending, and the first that may be taken is taken at the instruction boundary. -/
def execKcInterrupt (pair : Fin 2) (lines : DWord) (s : State) : Host.Outcome State Fault Refusal :=
  if !s.kcRuns pair then .next s else .next ((s.kcPend pair lines).kcTakeInterrupt pair)

end Sys2Proof.Machine
end

