-- ==== Sys2Proof/Machine/Trestle.lean ====
section
/-! DEFINITION. Commands of the host as the keystones execute them, the trestle engines and their instructions, table
descriptors, the table scrubber, aging and the comparison of replicas (R121 to R126, R150, R160 to R162, R392, R415). -/

namespace Sys2Proof.Machine

/-! ### Service calls (R392, R415) -/

/-- Complete the oldest command of a ring: a plain command finishes its entry; a durable one has been executed, and a
failure is recorded with a class-N fault that names the ring and the LSN (R392, assumption 55). -/
def State.finishCall (s : State) (r : Nat) (done : Done) : State :=
  match (s.sq r).calls with
  | [] => s
  | c :: rest =>
    let s := s.setSq r { (s.sq r) with calls := rest }
    match c.lsn with
    | none => s.finishTaken r c.idx done
    | some l =>
      let s := s.setExecuted r l
      if done.code = 0 then s else (s.latchFault hostSource .n).nameFault hostSource [r, l]

/-- The oldest command of a ring, when it asks for this function and the pair that runs the service can execute it: not
while the keystones are in reset, and a durable one not before the journal has resumed (R265). -/
def State.callFor (s : State) (r svc fn : Nat) : Option Call :=
  match (s.sq r).calls with
  | c :: _ =>
    if c.service = svc && c.function = fn && !c.atEngine && s.serviceUp svc
        && s.chip.warm ≠ .sealed && !(c.lsn.isSome && s.suspended) then some c else none
  | [] => none

/-- Execute the oldest command of a ring: outside its states it completes with DEVICE_STATE (R391, R415); a durable
command goes on in RECOVERY (R265). -/
def State.runCall (s : State) (r svc fn : Nat) (allowed : DevState → Bool) (f : Call → State) : State :=
  match s.callFor r svc fn with
  | none => s
  | some c => if allowed s.chip.mode || (c.lsn.isSome && s.chip.mode = .recovery) then f c else s.finishCall r { code := 9 }

def statesAll : DevState → Bool := fun _ => true
def statesButOff (m : DevState) : Bool := m ≠ .off
def statesChange (m : DevState) : Bool := m = .startUp || m = .test || m = .service

/-- ARGS of a command by the byte numbers of its entry (R384). -/
def Call.arg (c : Call) (i n : Nat) : Nat := leNat (sliceBytes c.body (i - 8) n)

/-- SERVICE_ERROR with a DETAIL code (R391, R417). -/
def serviceError (detail : Nat) : Done := { code := 0x0B, detail := detail }

/-! ### Spans and items -/

/-- The span takes part in broadcasts: it is not in reset (R122). -/
def State.spanUp (s : State) (n : Nat) : Bool := Tbl.get (fun _ => SpanPhase.none) s.chip.spans n = .none

/-- The spans that take part in broadcasts. -/
def State.spansUp (s : State) : List Nat := (List.range 16).filter s.spanUp

/-- The span whose engine carries out replicated requests: the lowest that is up (assumption 48). -/
def State.serviceSpan (s : State) : Nat := s.spansUp.headD 0

/-- The classifier rule that an item names: ternary units 32 and 33 stand for the classifier (assumption 65). -/
def ruleOf (t : TableRef) : Nat := (t.unit.val - 32) % 2 * 2048 + t.row.val

def isRule (t : TableRef) : Bool := t.ternary && 32 ≤ t.unit.val

/-- The number of the table of a span whose units hold an SRAM or ternary unit. -/
def State.tableNo (s : State) (span : Nat) (ternary : Bool) (unit : Nat) : Option Nat :=
  (List.range 240).find? (fun t =>
    let g := s.geometry span t
    g.en && (if ternary then decide (g.tcamFirst ≤ unit) && decide (unit < g.tcamFirst + g.tcamCount)
      else decide (g.sramFirst ≤ unit) && decide (unit < g.sramFirst + g.sramCount)))

/-- The table of a span whose units hold an SRAM or ternary unit. -/
def State.tableOf (s : State) (span : Nat) (ternary : Bool) (unit : Nat) : Option Geometry :=
  (s.tableNo span ternary unit).map (fun t => s.geometry span t)

/-- The SRAM unit that holds the result rows of a ternary unit (R155). -/
def Geometry.resultUnit (g : Geometry) (unit : Nat) : Nat :=
  g.sramFirst + (unit - g.tcamFirst) / (if g.width = 0 then 1 else 2)

/-- The row of a unit may hold an entry's control word (R152, R153, R155). -/
def Geometry.entryUnit (g : Geometry) (unit : Nat) : Bool :=
  decide (g.sramFirst ≤ unit) && decide (unit < g.sramFirst + g.sramCount) &&
  match g.kind with
  | 1 => (unit - g.sramFirst) % max 1 g.width = 0
  | 2 => decide (g.sramFirst + g.roots ≤ unit)
  | 3 => true
  | _ => false

/-- The unit that holds the first row of the exact entry, or the first unit of the chained ternary entry, that a unit
belongs to (R152, R155). -/
def Geometry.firstUnit (g : Geometry) (ternary : Bool) (unit : Nat) : Nat :=
  if ternary then (if g.width = 0 then unit else unit - (unit - g.tcamFirst) % 2)
  else if g.kind = 1 then unit - (unit - g.sramFirst) % max 1 g.width
  else unit

/-- A unit whose rows hold two narrow LPM slots (R153). -/
def Geometry.narrowUnit (g : Geometry) (unit : Nat) : Bool := g.kind = 2 && g.width = 0 && g.entryUnit unit

/-- An item has a control word with V bits: a rule, a ternary row by its result row, and the rows of exact, LPM and ternary
entries (R140, R151, R155). -/
def State.hasCtl (s : State) (span : Nat) (t : TableRef) : Bool :=
  if isRule t then true
  else
    match s.tableOf span t.ternary t.unit with
    | some g => t.ternary || g.kind = 1 || g.entryUnit t.unit
    | none => false

/-- The bits of its row that an SRAM item takes: the lowest, and how many; a narrow LPM slot is half a row, the upper half
first (R153). -/
def State.itemBits (s : State) (span : Nat) (t : TableRef) : Nat × Nat :=
  match s.tableOf span false t.unit with
  | some g => if g.narrowUnit t.unit then (if t.low then (0, 128) else (128, 128)) else (0, 256)
  | none => (0, 256)

/-- The control word that a row holds for an item that takes those bits: its uppermost word. -/
def slotCtlOf (row : Nat) (p : Nat × Nat) : Word := BitVec.ofNat 32 (row / 2 ^ (p.1 + p.2 - 32))

/-- A row whose bits from `p.1` on are taken from another. -/
def mergeRow (old new : Nat) (p : Nat × Nat) : Nat :=
  old - old / 2 ^ p.1 % 2 ^ p.2 * 2 ^ p.1 + new / 2 ^ p.1 % 2 ^ p.2 * 2 ^ p.1

/-- The control word of an item (R140, R151, R153), that of an exact entry in its first row; that of a ternary row stands in
its result row (R155). -/
def State.itemCtl (s : State) (span : Nat) (t : TableRef) : Word :=
  if isRule t then (s.rule span (ruleOf t)).ctl
  else
    match s.tableOf span t.ternary t.unit with
    | some g =>
      if t.ternary then BitVec.ofNat 32 (ctlWord (s.sram span (g.resultUnit t.unit) t.row))
      else slotCtlOf (s.sram span (g.firstUnit false t.unit) t.row) (s.itemBits span t)
    | none => if t.ternary then 0 else slotCtlOf (s.sram span t.unit t.row) (s.itemBits span t)

/-- The control word that new content brings: that of a ternary entry in its result row. -/
def State.dataCtl (s : State) (span : Nat) (t : TableRef) (x : ItemData) : Word :=
  if isRule t then x.ctl
  else if t.ternary then BitVec.ofNat 32 (ctlWord x.row2.toNat)
  else slotCtlOf x.row.toNat (s.itemBits span t)

/-- Replace an item whole (R121): every row of an exact entry, and value, mask and result row of a ternary one. -/
def State.putItem (s : State) (span : Nat) (t : TableRef) (x : ItemData) : State :=
  if isRule t then s.setRule span (ruleOf t) { value := x.row.toNat, mask := x.mask.toNat, ctl := x.ctl }
  else
    match s.tableOf span t.ternary t.unit with
    | some g =>
      let u := g.firstUnit t.ternary t.unit
      if t.ternary then
        let s := s.setTcam span (u % 32) t.row x.row.toNat x.mask.toNat
        let s := if g.width = 0 then s else s.setTcam span ((u + 1) % 32) t.row x.row1.toNat x.mask1.toNat
        s.setSram span (g.resultUnit t.unit) t.row x.row2.toNat
      else if g.kind = 1 then
        (List.range g.width).foldl (fun s i =>
          s.setSram span (u + i) t.row ([x.row, x.row1, x.row2].getD i 0).toNat) s
      else s.setSram span t.unit t.row (mergeRow (s.sram span t.unit t.row) x.row.toNat (s.itemBits span t))
    | none =>
      if t.ternary then s.setTcam span (t.unit % 32) t.row x.row.toNat x.mask.toNat
      else s.setSram span t.unit t.row x.row.toNat

/-- New content with both V bits 0, where the item has a control word (R121). -/
def State.unvalid (s : State) (span : Nat) (t : TableRef) (x : ItemData) : ItemData :=
  let p := s.itemBits span t
  let clear (row : BitVec 256) (top : Nat) : BitVec 256 := BitVec.ofNat 256 (mergeRow row.toNat 0 (top - 2, 2))
  if !s.hasCtl span t then x
  else if isRule t then { x with ctl := x.ctl &&& 0x3FFFFFFF }
  else if t.ternary then { x with row2 := clear x.row2 256 }
  else { x with row := clear x.row (p.1 + p.2) }

/-- The working registers that an LD fills: 64-bit words of the rows, most significant first, then those of the mask and
the control word where the item has them. -/
def State.itemWords (s : State) (span : Nat) (t : TableRef) : List DWord :=
  let split (n : Nat) : List DWord := (List.range 4).map (fun k => BitVec.ofNat 64 (n / 2 ^ (192 - 64 * k)))
  if isRule t then
    let x := s.rule span (ruleOf t)
    split x.value ++ split x.mask ++ [x.ctl.setWidth 64]
  else if t.ternary then split (s.tcamVal span (t.unit % 32) t.row) ++ split (s.tcamMask span (t.unit % 32) t.row)
  else
    match s.tableOf span false t.unit with
    | some g =>
      if g.kind = 1 then (List.range g.width).flatMap (fun i => split (s.sram span (g.firstUnit false t.unit + i) t.row))
      else split (s.sram span t.unit t.row)
    | none => split (s.sram span t.unit t.row)

/-- An item is free: both V bits of its control word are 0 (R109); a row without a control word is free while it is 0
(assumption 65). -/
def State.itemFree (s : State) (span : Nat) (t : TableRef) : Bool :=
  if s.hasCtl span t then (s.itemCtl span t).toNat / 2 ^ 30 = 0
  else if t.ternary then s.tcamVal span (t.unit % 32) t.row = 0 && s.tcamMask span (t.unit % 32) t.row = 0
  else s.sram span t.unit t.row = 0

/-! ### Engines -/

def zeroReg : Nat → DWord := fun _ => 0
def Trestle.reg (x : Trestle) (i : Nat) : DWord := Tbl.get zeroReg x.regs (i % 16)
def Trestle.setReg (x : Trestle) (i : Nat) (v : DWord) : Trestle := { x with regs := Tbl.put zeroReg x.regs (i % 16) v }

/-- SPn_TR_CTRL.STOP (R125). -/
def trCtrl (span : Nat) : Nat := 0x1009000 + span * 0x100000
def State.stopSet (s : State) (span : Nat) : Bool := s.bit (trCtrl span) 0

/-- The engine carries out a request now (R121, R124). -/
def State.engineFree (s : State) (span : Nat) : Bool :=
  let x := s.engine span
  x.state = 0 && x.queued.isEmpty && !s.stopSet span

/-- Queue a request at an engine, when it has room (R126). -/
def State.queueRequest (s : State) (span : Nat) (q : TrestleReq) : State :=
  let x := s.engine span
  if 256 ≤ x.queued.length then s
  else
    let s := s.setEngine span { x with queued := x.queued ++ [q] }
    match q.ring with
    | none => s
    | some r =>
      match (s.sq r).calls with
      | c :: rest => s.setSq r { (s.sq r) with calls := { c with atEngine := true } :: rest }
      | [] => s

/-- A TABLE request that has still to write a V bit of a generation: INSERT or DELETE whose FLAGS name it (R113, R416). -/
def writesGen (w : Option EngineWork) (genB : Bool) : Bool :=
  match w with
  | some (.table fn body _) => (fn = 1 || fn = 2) && (body.getD 5 0).getLsbD (if genB then 1 else 0)
  | _ => false

/-- TRESTLE_ROUTINE_START (R121, R123): an idle engine starts its oldest request in the active generation. -/
def execTrestleRoutineStart (span : Span) (s : State) : Host.Outcome State Fault Refusal :=
  let x := s.engine span
  match x.queued with
  | [] => .next s
  | q :: rest =>
    if x.state ≠ 0 ∨ s.stopSet span then .next s
    else .next (s.setEngine span { x with
      state := 1, gen := s.activeGen, entry := q.entry, pc := q.entry, regs := [], ctx := false
      touches := writesGen q.work s.shadowGen, late := s.progs.joint.isSome, queued := rest, owner := q.ring
      work := q.work, acted := false })

/-- An instruction boundary of a running routine: the next word, and what the instruction did to the engine. -/
def State.boundary (s : State) (span : Nat) (f : Trestle → Trestle) : State :=
  let x := s.engine span
  s.setEngine span { f x with pc := (x.pc + 1) % 4096 }

/-- The engine runs a routine. -/
def State.routineRuns (s : State) (span : Nat) : Bool := (s.engine span).state = 1

/-- TRESTLE_LD (R121). -/
def execTrestleLd (span : Span) (item : TableRef) (reg : Fin 16) (s : State) : Host.Outcome State Fault Refusal :=
  if s.routineRuns span then
    let ws := s.itemWords span item
    .next (s.boundary span (fun x =>
      (List.range ws.length).foldl (fun x k => x.setReg (reg + k) (ws.getD k 0)) x))
  else .next s

/-- TRESTLE_ALU (R121): the result is the engine's own (assumption 13). -/
def execTrestleAlu (span : Span) (op : Byte) (dst a b : Fin 16) (s : State) : Host.Outcome State Fault Refusal :=
  if s.routineRuns span then
    .next (s.boundary span (fun x => x.setReg dst (Config.trestleAlu op (x.reg a) (x.reg b))))
  else .next s

/-- The key bytes that working registers hold from register `key` on, most significant first. -/
def Trestle.keyBytes (x : Trestle) (key n : Nat) : List Byte :=
  ((List.range 8).flatMap (fun k => beBytes 8 (x.reg (key + k)).toNat)).take n

/-- TRESTLE_HASH (R121, R152): the slot index of each way. -/
def execTrestleHash (span : Span) (table : Fin 256) (hsel : Fin 8) (key dst : Fin 16) (s : State) :
    Host.Outcome State Fault Refusal :=
  if s.routineRuns span then
    let g := s.geometry span table
    let h := s.exactHash span hsel ((s.engine span).keyBytes key g.keyBytes)
    .next (s.boundary span (fun x => (List.range 4).foldl (fun x j =>
      x.setReg (dst + j) (BitVec.ofNat 64 ((hmix h (BitVec.ofNat 32 j)).toNat % (2048 * g.m)))) x))
  else .next s

/-- The routine of an engine has changed a table. -/
def State.noteActed (s : State) (span : Nat) : State := s.setEngine span { (s.engine span) with acted := true }

/-- TRESTLE_STAGE (R121): the entry is written in every span that takes part, where it is free (assumption 65). -/
def execTrestleStage (span : Span) (item : TableRef) (data : ItemData) (s : State) :
    Host.Outcome State Fault Refusal :=
  if s.routineRuns span then
    let t := if s.spansUp.all (fun n => s.itemFree n item) then
        (s.spansUp.foldl (fun s n => s.putItem n item (s.unvalid n item data)) s).noteActed span
      else s
    .next (t.boundary span id)
  else .next s

/-- The V bit of a control word for a generation. -/
def vBit (ctl : Word) (genB : Bool) : Bool := ctl.getLsbD (if genB then 30 else 31)

/-- A change of a control word that the device refuses: a V bit of the shadow written by a request that started while a
joint is armed (R112), or the last V bit of a DRAINING generation cleared (R110), which is read as the bit whose clearing
leaves the entry valid in no generation: DESIGN CHOICE, R110 does not say (assumption 105). -/
def State.genBusy (s : State) (late : Bool) (old new : Word) : Bool :=
  let g := s.shadowGen
  let moved := vBit old g != vBit new g
  (late && moved) || (moved && vBit old g && s.shadowState = 5 && !vBit new (!g))

/-- The flip of an item by a routine is refused. -/
def State.flipRefused (s : State) (span n : Nat) (t : TableRef) (x : ItemData) : Bool :=
  s.hasCtl n t && s.genBusy (s.engine span).late (s.itemCtl n t) (s.dataCtl n t x)

/-- A flip from one control word to another that writes a V bit of the shadow is noted for R113. -/
def State.noteFlip (s : State) (span : Nat) (has : Bool) (old new : Word) : State :=
  let s := s.noteActed span
  if has && vBit old s.shadowGen != vBit new s.shadowGen then
    s.setEngine span { (s.engine span) with touches := true }
  else s

/-- TRESTLE_FLIP (R121): the entry changes in the engine's own span when its control word has the expected value; a
compare that fails is counted (R297). -/
def execTrestleFlip (span : Span) (item : TableRef) (expected : Word) (data : ItemData) (s : State) :
    Host.Outcome State Fault Refusal :=
  if s.routineRuns span then
    let old := s.itemCtl span item
    let t := if old ≠ expected then s.count (cSpan span 12) 1
      else if s.flipRefused span span item data then s
      else (s.putItem span item data).noteFlip span (s.hasCtl span item) old (s.dataCtl span item data)
    .next (t.boundary span id)
  else .next s

/-- TRESTLE_BFLIP (R121, R122, R161): every replica that takes part changes when the compare holds in all of them, and
none otherwise. -/
def execTrestleBflip (span : Span) (item : TableRef) (bits expected : Word) (data : ItemData) (s : State) :
    Host.Outcome State Fault Refusal :=
  if s.routineRuns span then
    let spans := s.spansUp
    let holds := spans.all (fun n => s.itemCtl n item &&& bits = expected &&& bits)
    let refused := spans.any (fun n => s.flipRefused span n item data)
    let n := spans.headD 0
    let t := if !holds then s.count (cSpan span 12) 1
      else if refused then s
      else (spans.foldl (fun s n => s.putItem n item data) s).noteFlip span (s.hasCtl n item) (s.itemCtl n item)
          (s.dataCtl n item data)
    .next (t.boundary span id)
  else .next s

/-- TRESTLE_BRANCH (R121): BR or LOOP. -/
def execTrestleBranch (span : Span) (target : BitVec 12) (s : State) : Host.Outcome State Fault Refusal :=
  if s.routineRuns span then .next (s.setEngine span { (s.engine span) with pc := target.toNat }) else .next s

/-- Complete the command whose request an engine ran. -/
def State.finishOwner (s : State) (owner : Option Nat) (done : Done) : State :=
  match owner with
  | none => s
  | some r =>
    match (s.sq r).calls with
    | c :: _ => if c.atEngine then s.finishCall r done else s
    | [] => s

/-- The engine after its routine: idle, with what waits. -/
def Trestle.ended (x : Trestle) (st : Nat) : Trestle := { state := st, queued := x.queued }

/-- A stop by SPn_TR_CTRL halts the routine and completes its command with ABORTED: nothing of the request is left to do,
and the context stays (R123, R417). -/
def State.stopRoutine (s : State) (span : Nat) : State :=
  let x := s.engine span
  ((s.haltEngine span 3).setEngine span { x with state := 3, ctx := true, owner := none, work := none }).finishOwner x.owner
    { code := 0x0C }

/-- A write of SPn_TR_CTRL (R123 to R125). DESIGN CHOICES where R125 is silent: STOP of an idle engine gives STOPPED
with no context, so that it starts no routine (assumption 109); a word that sets several bits acts as STOP, then ABORT,
then RESUME (assumption 110); and RESUME and ABORT act on an engine that a fault has halted as on a stopped one
(assumption 133). -/
def State.writeTrCtrl (s : State) (span : Nat) (value : Word) : State :=
  let s :=
    if getBits value 0 0 = 0 then s
    else
      let s := s.setBit (trCtrl span) 0 true
      let x := s.engine span
      if x.state = 1 then s.stopRoutine span
      else if x.state = 0 then s.setEngine span { x with state := 3 }
      else s
  let s :=
    if getBits value 2 2 = 0 then s
    else
      let x := s.engine span
      if x.ctx && (x.state = 3 || x.state = 4) then
        (s.setEngine span (x.ended (if s.stopSet span then 3 else 0))).finishOwner x.owner { code := 0x0C }
      else s
  if getBits value 1 1 = 0 then s
  else
    let x := s.engine span
    if x.state = 3 || x.state = 4 then
      (s.setBit (trCtrl span) 0 false).setEngine span { x with state := if x.ctx then 1 else 0, ctx := false }
    else s

/-- TRESTLE_STOP (R123): the word of SPn_TR_CTRL. -/
def execTrestleStop (span : Span) (value : Word) (s : State) : Host.Outcome State Fault Refusal :=
  if s.closed (trCtrl span) then .next s else
  .next (s.writeTrCtrl span value)

/-- TRESTLE_RESUME (R124): the word of SPn_TR_CTRL. -/
def execTrestleResume (span : Span) (value : Word) (s : State) : Host.Outcome State Fault Refusal :=
  if s.closed (trCtrl span) then .next s else
  .next (s.writeTrCtrl span value)

/-- TRESTLE_ABORT (R124): the word of SPn_TR_CTRL. -/
def execTrestleAbort (span : Span) (value : Word) (s : State) : Host.Outcome State Fault Refusal :=
  if s.closed (trCtrl span) then .next s else
  .next (s.writeTrCtrl span value)

/-! ### Table descriptors (R147, R148, R150) -/

/-- A class-N fault against the span's table crossbar. -/
def State.crossbarFault (s : State) (span : Nat) : State := s.latchFault (srcSpan span 0x0D 0) .n

/-- A write of SPn_TBL_KIND_t. -/
def State.writeKind (s : State) (span t : Nat) (value : Word) : State :=
  let off := kindReg span t
  let new := value &&& 0xFFFFFE00
  if s.bit off 31 then
    if getBits new 31 31 = 0 then s.setReg off new
    else if new = s.reg off then s
    else s.crossbarFault span
  else if getBits new 31 31 = 0 then s.setReg off new
  else
    let g := geometryOf new (s.reg (unitsReg span t))
    if g.valid && s.unitsFree span t g then s.setReg off new
    else (s.setReg off (new &&& 0x7FFFFFFF)).crossbarFault span

/-- A write of SPn_TBL_UNITS_t. -/
def State.writeUnits (s : State) (span t : Nat) (value : Word) : State :=
  if s.bit (kindReg span t) 31 then s.crossbarFault span else s.setReg (unitsReg span t) (value &&& 0xFFFFFF80)

/-- While EN is 1 the device ignores this write and faults the crossbar, whatever its state (R150). -/
def State.tableFrozen (s : State) (span t : Nat) (units : Bool) (value : Word) : Bool :=
  let old := s.reg (kindReg span t)
  getBits old 31 31 = 1 && (units || (getBits value 31 31 = 1 && value &&& 0xFFFFFE00 ≠ old))

/-- TABLE_KIND_WRITE (R12, R150): a write that R150 does not ignore is refused outside START-UP and TEST when it would
change a field. -/
def execTableKindWrite (span : Span) (t : Fin 240) (units : Bool) (value : Word) (s : State) :
    Host.Outcome State Fault Refusal :=
  if s.closed (kindReg span t) then .next s else
  let off := if units then unitsReg span t else kindReg span t
  let mask : Word := if units then 0xFFFFFF80 else 0xFFFFFE00
  if s.tableFrozen span t units value then .next (s.crossbarFault span)
  else if !s.rwlOpen then
    if value &&& mask = s.reg off then .next s else .next (s.refusedWrite off)
  else if units then .next (s.writeUnits span t value)
  else .next (s.writeKind span t value)

/-! ### The table scrubber (R160) -/

/-- The source of an item (R427). -/
def itemSource (span : Nat) (t : TableRef) : Nat :=
  if isRule t then srcSpan span 0x0C 0 else unitSource span (if t.ternary then 96 + t.unit % 32 else t.unit)

/-- The kind of the table that holds an SRAM row; 0 when none does. -/
def State.rowKind (s : State) (span : Nat) (t : TableRef) : Nat :=
  if t.ternary then 3
  else
    match s.tableOf span false t.unit with
    | some g => g.kind
    | none => 0

/-- Copy an item of one span to another. -/
def State.copyItem (s : State) (src dst : Nat) (t : TableRef) : State :=
  if isRule t then s.setRule dst (ruleOf t) (s.rule src (ruleOf t))
  else if t.ternary then
    s.setTcam dst (t.unit % 32) t.row (s.tcamVal src (t.unit % 32) t.row) (s.tcamMask src (t.unit % 32) t.row)
  else s.setSram dst t.unit t.row (s.sram src t.unit t.row)

/-- Write an item as zero. -/
def State.zeroItem (s : State) (span : Nat) (t : TableRef) : State :=
  if isRule t then s.setRule span (ruleOf t) {}
  else if t.ternary then s.setTcam span (t.unit % 32) t.row 0 0
  else s.setSram span t.unit t.row 0

/-- The refill of a meter row at the scrubber's visit (R159). -/
def State.scrubRefill (s : State) (span : Nat) (t : TableRef) : State :=
  if s.rowKind span t = 6 then
    let row := s.sram span t.unit t.row
    s.setSram span t.unit t.row (meterRow row s.now (meterRefill row s.now))
  else s

/-- The table and the row that a fault of a counter or meter row names (R160, assumption 94). -/
def State.rowNames (s : State) (span : Nat) (t : TableRef) : List Nat :=
  [(s.tableNo span t.ternary t.unit).getD 255, t.unit.val, t.row.val]

/-- One visit of the table scrubber to a row (R159, R160, R297). -/
def State.tableScrub (s : State) (span : Nat) (item : TableRef) (check : ReadCheck) (good : Option Span) : State :=
  let src := itemSource span item
  let check := s.checkedRead src check
  let s := if check = .uncorrectable then s.meetFiring src else s
  match check with
  | .good => s.scrubRefill span item
  | .single => ((s.count (cSpan span 13) 1).corrected src 1).scrubRefill span item
  | .uncorrectable =>
    let s := s.count (cSpan span 14) 1
    let own := s.rowKind span item = 5 || s.rowKind span item = 6
    match good with
    | some g =>
      if own then ((s.zeroItem span item).latchFault src .s).nameFault src (s.rowNames span item)
      else (s.copyItem g span item).latchFault src .n
    | none =>
      let s := (s.zeroItem span item).latchFault src .s
      if own then s.nameFault src (s.rowNames span item) else s

/-- TABLE_SCRUB (R159, R160). -/
def execTableScrub (span : Span) (item : TableRef) (check : ReadCheck) (good : Option Span) (s : State) :
    Host.Outcome State Fault Refusal := .next (s.tableScrub span item check good)

/-! ### Entries of a table -/

/-- The place of an entry's control word: unit, row, and the row bit of V_A. -/
structure EntryPlace where
  unit : Nat
  row  : Nat
  top  : Nat
deriving DecidableEq, Repr

def State.placeCtl (s : State) (span : Nat) (e : EntryPlace) : Word :=
  BitVec.ofNat 32 (s.sram span e.unit e.row / 2 ^ (e.top - 31))

/-- Replace the control word at a place. -/
def State.setPlaceCtl (s : State) (span : Nat) (e : EntryPlace) (ctl : Word) : State :=
  let row := s.sram span e.unit e.row
  s.setSram span e.unit e.row
    (row - (s.placeCtl span e).toNat * 2 ^ (e.top - 31) + ctl.toNat * 2 ^ (e.top - 31))

/-- The entries of a table in a span that are valid in either generation, in row order. -/
def State.entries (s : State) (span : Nat) (g : Geometry) : List EntryPlace :=
  let rows := s.tables.sram.filter (fun e => e.1 / 2 ^ 18 = span && g.entryUnit (e.1 / 2 ^ 11 % 128))
  let places := rows.flatMap (fun e =>
    let u := e.1 / 2 ^ 11 % 128
    let row := e.1 % 2 ^ 11
    if g.kind = 2 && g.width = 0 then [EntryPlace.mk u row 255, EntryPlace.mk u row 127] else [EntryPlace.mk u row 255])
  places.filter (fun e => (s.placeCtl span e).toNat / 2 ^ 30 ≠ 0)

/-! ### Aging (R162) -/

/-- AGE of a control word. -/
def ctlAge (ctl : Word) : Nat := getBits ctl 28 25

/-- One entry of a sweep: a hit in any replica restarts its age, else its age grows, and it is removed at AGE_MAX, which
the engine that sweeps counts (R162, R297, assumption 117). A replica whose AGE is not the one read fails the compare: no
replica changes, and the entry is left for the next sweep. -/
def State.ageEntry (s : State) (spans : List Nat) (late : Bool) (g : Geometry) (e : EntryPlace) : State :=
  let ctl := s.placeCtl (spans.headD 0) e
  let all (f : Word → Word) : State := spans.foldl (fun s n => s.setPlaceCtl n e (f (s.placeCtl n e))) s
  if getBits ctl 24 24 = 1 then s
  else if spans.any (fun n => ctlAge (s.placeCtl n e) ≠ ctlAge ctl) then s.count (cSpan s.serviceSpan 12) 1
  else if spans.any (fun n => getBits (s.placeCtl n e) 29 29 = 1) then
    all (fun w => setBits (setBits w 29 29 0) 28 25 0)
  else if ctlAge ctl + 1 = g.ageMax then
    if s.genBusy late ctl (ctl &&& 0x3FFFFFFF) then s
    else (all (fun w => w &&& 0x3FFFFFFF)).count (cSpan s.serviceSpan 15) 1
  else all (fun w => setBits w 28 25 (ctlAge w + 1))

/-- A whole sweep over the entries of a table that ages. -/
def State.agingEntries (s : State) (t : Nat) : State :=
  let spans := s.spansUp
  let n := spans.headD 0
  let g := s.geometry n t
  if !g.en || g.ageMax = 0 || spans.isEmpty then s
  else (s.entries n g).foldl (fun s e => s.ageEntry spans s.progs.joint.isSome g e) s

/-- A whole sweep of a table, one routine of the engine (R297). -/
def State.agingSweep (s : State) (t : Nat) : State :=
  let g := s.geometry (s.spansUp.headD 0) t
  if !g.en || g.ageMax = 0 || s.spansUp.isEmpty then s else (s.agingEntries t).count (cSpan s.serviceSpan 11) 1

/-- AGING_SWEEP (R162): the aging routine of a table runs, or waits at the engine; while no pair runs the table service,
sweeps pause (R405, R406). -/
def execAgingSweep (t : Fin 240) (s : State) : Host.Outcome State Fault Refusal :=
  if !s.groupUp 0 then .next s
  else if s.engineFree s.serviceSpan then .next (s.agingSweep t)
  else .next (s.queueRequest s.serviceSpan { entry := Config.routineEntry 0, ring := none, work := some (.aging t.val) })

/-! ### Comparison of replicas (R441) -/

/-- What a replica holds at an item, without its HIT bits. -/
def State.replica (s : State) (span : Nat) (t : TableRef) : List Nat :=
  let drop (n bit : Nat) : Nat := n - n / 2 ^ bit % 2 * 2 ^ bit
  if isRule t then
    let x := s.rule span (ruleOf t)
    [x.value, x.mask, x.ctl.toNat]
  else if t.ternary then [s.tcamVal span (t.unit % 32) t.row, s.tcamMask span (t.unit % 32) t.row]
  else
    let row := s.sram span t.unit t.row
    match s.tableOf span false t.unit with
    | some g =>
      if g.narrowUnit t.unit then [drop (drop row 253) 125] else if g.entryUnit t.unit then [drop row 253] else [row]
    | none => [row]

/-- REPLICA_COMPARE (R405, R441), by the safety monitoring of KP1: a minority replica is rewritten from the majority with a class-S fault; without a majority
the faults alone are raised. -/
def execReplicaCompare (item : TableRef) (s : State) : Host.Outcome State Fault Refusal :=
  let spans := s.spansUp
  let kind := s.rowKind (spans.headD 0) item
  if kind = 5 || kind = 6 || !s.groupServed 1 then .next s
  else
    let agree (n : Nat) : Nat := (spans.filter (fun k => s.replica k item = s.replica n item)).length
    match spans.find? (fun n => spans.length < 2 * agree n) with
    | some m =>
      let bad := spans.filter (fun n => s.replica n item ≠ s.replica m item)
      .next (bad.foldl (fun s n => (s.copyItem m n item).latchFault (itemSource n item) .s) s)
    | none => .next (spans.foldl (fun s n => s.latchFault (itemSource n item) .s) s)

end Sys2Proof.Machine
end

