-- ==== Sys2Proof/Machine/Window.lean ====
section
/-! DEFINITION. The indirect window onto the program stores and the table units (R127 to R130). -/

namespace Sys2Proof.Machine

/-- What a window register belongs to (R128). -/
inductive WinItem where
  | store (kind stage index : Nat)
  | sram (unit row : Nat)
  | tval (unit row : Nat)
  | tmask (unit row : Nat)
deriving DecidableEq, Repr

/-- A window register: its item, and its number within the item. -/
structure WinReg where
  item : WinItem
  k    : Nat
deriving DecidableEq, Repr

/-- The selection of MC_WIN_SEL (R127). -/
structure WinSel where
  bcast  : Bool
  genB   : Bool
  egress : Bool
  pipe   : Nat
  span   : Nat
deriving DecidableEq, Repr

def winSelOf (w : Word) : WinSel := {
  bcast := getBits w 9 9 = 1, genB := getBits w 8 8 = 1, egress := getBits w 7 7 = 1, pipe := getBits w 6 4,
  span := getBits w 3 0 }

/-- The register at an offset of the window, if the window decodes one there (R128); a stage beyond the pass and a
reserved PIPE decode none (assumption 52). -/
def winReg (sel : WinSel) (off : Nat) : Option WinReg :=
  let d := off - 0x3000000
  if off < 0x3000000 ∨ 4 < sel.pipe then none
  else if d < 0x180000 then
    let st := d / 0x10000
    let r := d % 0x10000
    if stagesOf sel.egress.toNat ≤ st then none
    else if r < 0x4000 then
      (if r % 0x80 / 4 < 21 then some { item := .store kindWord st (r / 0x80), k := r % 0x80 / 4 } else none)
    else if r < 0x4400 then some { item := .store kindDispatch st ((r - 0x4000) / 4), k := 0 }
    else if 0x5000 ≤ r ∧ r < 0x6000 then
      some { item := .store kindKeyMap st ((r - 0x5000) / 0x40), k := r % 0x40 / 4 }
    else none
  else if d < 0x181000 then some { item := .store kindEntry 0 ((d - 0x180000) / 4), k := 0 }
  else if 0x190000 ≤ d ∧ d < 0x1A0000 then
    (if d % 0x10 / 4 < 3 then some { item := .store kindMaint 0 ((d - 0x190000) / 0x10), k := d % 0x10 / 4 } else none)
  else if 0x1A0000 ≤ d ∧ d < 0x1A4000 then
    some { item := .store kindRoutine 0 ((d - 0x1A0000) / 0x80), k := d % 0x80 / 4 }
  else if 0x400000 ≤ d ∧ d < 0xA00000 then
    let e := d - 0x400000
    some { item := .sram (e / 0x10000) (e % 0x10000 / 0x20), k := e % 0x20 / 4 }
  else if 0xA00000 ≤ d ∧ d < 0xE00000 then
    let e := d - 0xA00000
    let u := e / 0x20000
    let row := e % 0x10000 / 0x20
    some { item := if e % 0x20000 < 0x10000 then .tval u row else .tmask u row, k := e % 0x20 / 4 }
  else none

/-- The pass whose pipelines the window shows. DESIGN CHOICE: the stores without stages, the entry-opcode table among them,
stand in ingress pipelines or in the span only (R87), and EGRESS does not act on them; R127 and R128 do not say what it
selects there (assumption 146). -/
def winPass (sel : WinSel) (kind : Nat) : Nat := if staged kind then sel.egress.toNat else 0

/-- The copy that the selection shows. -/
def winCopy (sel : WinSel) (kind : Nat) : Nat :=
  if kind = kindMaint ∨ kind = kindRoutine then sel.span * 10
  else sel.span * 10 + winPass sel kind * 5 + sel.pipe

def winKey (sel : WinSel) (kind stage index : Nat) : Nat :=
  storeKey sel.genB kind (winPass sel kind) stage index

/-- The groups of an item that carry check bits of their own, the bits of a group, and its check bits: a microword has nine
groups of 64 bits with 8 check bits each (R55, R58, R87); no groups: software sees no check bits. -/
def checkPlace (kind : Nat) : Nat × Nat × Nat :=
  if kind = kindWord then (9, 64, 8) else if kind = kindDispatch then (1, 16, 6) else if kind = kindMaint then (1, 64, 8)
  else (0, 0, 0)

/-- The check bits of an item, those of group i at i × their number (R58, assumption 17). -/
def checkField (kind v : Nat) : Nat :=
  let p := checkPlace kind
  (List.range p.1).foldl (fun n i =>
    n + Config.checkBits kind (v / 2 ^ (p.2.1 * i) % 2 ^ p.2.1) % 2 ^ p.2.2 * 2 ^ (p.2.2 * i)) 0

/-- The data of an item. -/
def State.winData (s : State) (sel : WinSel) (x : WinItem) : Nat :=
  match x with
  | .store kind stage index => s.store (winCopy sel kind) (winKey sel kind stage index)
  | .sram u row => s.sram sel.span u row
  | .tval u row => s.tcamVal sel.span u row
  | .tmask u row => s.tcamMask sel.span u row

/-- An item with its check bits (R129). -/
def State.winWhole (s : State) (sel : WinSel) (x : WinItem) : Nat :=
  let v := s.winData sel x
  match x with
  | .store kind _ _ =>
    let p := checkPlace kind
    if p.1 = 0 then v else v % 2 ^ (p.1 * p.2.1) + checkField kind v * 2 ^ (p.1 * p.2.1)
  | _ => v

/-- One register of an item. -/
def winPart (x : WinReg) (v : Nat) : Word :=
  match x.item with
  | .store kind _ _ =>
    if kind = kindDispatch then BitVec.ofNat 32 (v % 2 ^ 22)
    else if kind = kindKeyMap then BitVec.ofNat 32 (v / 2 ^ (16 * x.k) % 2 ^ 13)
    else if kind = kindEntry then BitVec.ofNat 32 (v % 256)
    else BitVec.ofNat 32 (v / 2 ^ (32 * x.k) % 2 ^ 32)
  | _ => BitVec.ofNat 32 (v / 2 ^ (32 * x.k) % 2 ^ 32)

/-- A number that names an item under a selection. -/
def winId (sel : WinSel) (x : WinItem) : Nat :=
  let base := match x with
    | .store kind stage index => winKey sel kind stage index * 4
    | .sram u row => (u * 2048 + row) * 4 + 1
    | .tval u row => (u * 2048 + row) * 4 + 2
    | .tmask u row => (u * 2048 + row) * 4 + 3
  base * 256 + (match x with | .store kind _ _ => winCopy sel kind | _ => sel.span)

/-- What a read of a window register returns: of an item that is captured, the captured bits (R129). DESIGN CHOICE: a register
other than the lowest, of an item that is not the one captured, reads as the item stands; R129 names no value for it
(assumption 145). -/
def State.winRead (s : State) (off : Nat) : Word :=
  let sel := winSelOf (s.reg 0x180)
  match winReg sel off with
  | none => 0
  | some x =>
    match s.progs.captured with
    | some (i, v) => if i = winId sel x.item ∧ x.k ≠ 0 then winPart x v else winPart x (s.winWhole sel x.item)
    | none => winPart x (s.winWhole sel x.item)

/-- WINDOW_READ (R129): a read of an item's lowest register captures the whole item. -/
def execWindowRead (off : Offset) (s : State) : Host.Outcome State Fault Refusal :=
  if s.closed 0x3000000 then .next { s with readData := 0xFFFFFFFF } else
  let o := off.toNat / 4 * 4
  let sel := winSelOf (s.reg 0x180)
  let t := { s with readData := s.winRead o }
  match winReg sel o with
  | none => .next t
  | some x =>
    if x.k = 0 then
      .next { t with progs := { t.progs with captured := some (winId sel x.item, s.winWhole sel x.item) } }
    else .next t

/-! ### Writes -/

/-- A rejected write (R130): a class-N fault with its offset, and the code unless a load is BUSY. -/
def State.winReject (s : State) (off : Nat) (c : LoadCode) (x : LoadPlace) : State :=
  let s := if s.loadBusy then s else s.loadStatus 3 c x
  s.latchFault loadSource .n (off % 2 ^ 26)

/-- Where an item lies, for MC_LOAD_STATUS (R130). -/
def winPlace (sel : WinSel) (x : WinItem) : LoadPlace :=
  match x with
  | .store kind stage index => { section_ := kind, pass := winPass sel kind, stage := stage, index := index }
  | .sram _ row => { index := row }
  | .tval _ row => { index := row }
  | .tmask _ row => { index := row }

/-- The highest data register of an item, whose write commits it (R129); none: the item is read-only. -/
def winLast (x : WinItem) : Option Nat :=
  match x with
  | .store kind _ _ =>
    if kind = kindWord then some 17 else if kind = kindDispatch ∨ kind = kindEntry then some 0
    else if kind = kindKeyMap then some 15 else if kind = kindMaint then some 1 else none
  | _ => some 7

/-- An item with one register replaced. -/
def winPut (x : WinReg) (v : Nat) (w : Word) : Nat :=
  let put (lo n : Nat) : Nat := v - v / 2 ^ lo % 2 ^ n * 2 ^ lo + w.toNat % 2 ^ n * 2 ^ lo
  match x.item with
  | .store kind _ _ =>
    if kind = kindDispatch then put 0 16
    else if kind = kindKeyMap then put (16 * x.k) 13
    else if kind = kindEntry then put 0 8
    else put (32 * x.k) 32
  | _ => put (32 * x.k) 32

/-- Why a write to an item is rejected before its content is looked at (R130). -/
def State.winRefusal (s : State) (sel : WinSel) (x : WinItem) : Option LoadCode :=
  match x with
  | .store _ _ _ =>
    if sel.genB = s.activeGen ∨ s.shadowState = 5 ∨ s.loadBusy then some .targetBusy
    else if s.chip.mode ≠ .test then some .deviceState
    else none
  | _ =>
    if (s.chip.mode = .startUp ∧ sel.bcast) ∨ s.chip.mode = .test then none else some .deviceState

/-- Write a row of a table unit in one span. -/
def State.putRow (s : State) (x : WinItem) (v span : Nat) : State :=
  match x with
  | .sram u row => s.setSram span u row v
  | .tval u row => s.setTcam span u row v (s.tcamMask span u row)
  | .tmask u row => s.setTcam span u row (s.tcamVal span u row) v
  | .store _ _ _ => s

/-- Commit an item (R88, R127, R130). -/
def State.winCommit (s : State) (sel : WinSel) (x : WinItem) (v : Nat) : State :=
  match x with
  | .store kind stage index =>
    let key := winKey sel kind stage index
    (if sel.bcast then s.setStoreAll key v else s.setStoreOne (winCopy sel kind) key v).setReg 0x110 0xFFFFFFFF
  | _ => (if sel.bcast then List.range 16 else [sel.span]).foldl (fun s n => s.putRow x v n) s

/-- The check of a store item that a load would make (R98, R130). -/
def State.winCheck (s : State) (sel : WinSel) (x : WinItem) (v : Nat) : LoadCode :=
  match x with
  | .store kind _ index => checkItem kind (custItem kind index) sel.egress (s.callable 0 sel.genB) v
  | _ => .ok

/-- A write of a window register (R129, R130). -/
def State.windowWrite (s : State) (off : Nat) (value : Word) : State :=
  let sel := winSelOf (s.reg 0x180)
  match winReg sel off with
  | none => s
  | some x =>
    match winLast x.item with
    | none => s
    | some last =>
      if last < x.k then s
      else
        match s.winRefusal sel x.item with
        | some c => s.winReject off c (winPlace sel x.item)
        | none =>
          let id := winId sel x.item
          let cur := match s.progs.staging with
            | some (i, v) => if i = id then v else s.winData sel x.item
            | none => s.winData sel x.item
          let v := winPut x cur value
          if x.k < last then { s with progs := { s.progs with staging := some (id, v) } }
          else
            match s.winCheck sel x.item v with
            | .ok => { s with progs := { s.progs with staging := none } }.winCommit sel x.item v
            | c => s.winReject off c (winPlace sel x.item)

/-- WINDOW_WRITE (R130). -/
def execWindowWrite (off : Offset) (value : Word) (s : State) : Host.Outcome State Fault Refusal :=
  if s.closed 0x3000000 then .next s else
  .next (s.windowWrite (off.toNat / 4 * 4) value)

end Sys2Proof.Machine
end

