-- ==== Sys2Proof/Machine/Read.lean ====
section
/-! DEFINITION. What a register reads as, without side effects: the words held for it, and the fields that the device
derives from its state (R10 to R16, R40 and the register tables of every chapter). -/

namespace Sys2Proof.Machine

/-- A word from its bits. -/
def bitsWord (f : Nat → Bool) : Word :=
  BitVec.ofNat 32 ((List.range 32).foldl (fun n i => if f i then n + 2 ^ i else n) 0)

/-- Some source of `n` from `base` on holds its CAUSE bit (R430). -/
def State.anyCause (s : State) (base n : Nat) : Bool :=
  s.fc.src.any (fun e : Nat × SourceRec => e.2.cause && decide (base ≤ e.1) && decide (e.1 < base + n))

/-- The first source of block `b` of span `i`, or of the chip for `i` = 16 (R427, R459). -/
def blockBase (i b : Nat) : Option Nat :=
  if i = 16 then (if b < 32 then some (srcChip b 0) else none)
  else if i = 15 ∧ 32 ≤ b then none
  else some (srcSpan i b 0)

/-- Some source of a block holds its CAUSE bit. -/
def State.blockCause (s : State) (i b : Nat) : Bool :=
  match blockBase i b with
  | some x => s.anyCause x 64
  | none => false

/-- FC_STATUS, FC_SPAN_n and FC_BLK (R457 to R459). -/
def State.readFc (s : State) (off : Nat) : Word :=
  if off = 0x100000 then
    bitsWord (fun k => if k < 16 then (List.range 64).any (fun b => s.blockCause k b) else s.blockCause 16 (k - 16))
  else if off = 0x100004 then
    (s.reg off &&& 0x000F0000) ||| bitsWord (fun k =>
      if k < 16 then s.blockCause 16 (k + 16) else k = 20 && s.fc.src.any (fun e : Nat × SourceRec => e.2.live))
  else if 0x100100 ≤ off ∧ off < 0x100180 then
    let n := (off - 0x100100) / 8
    bitsWord (fun k => s.blockCause n (k + 32 * (off / 4 % 2)))
  else if 0x101000 ≤ off ∧ off < 0x105400 then
    let x := (off - 0x101000) / 0x10
    let k := off / 4 % 4
    match blockBase (x / 64) (x % 64) with
    | none => 0
    | some b => bitsWord (fun e =>
        let r := s.source (b + 32 * (k % 2) + e)
        if k < 2 then r.cause else r.live)
  else s.reg off

/-- The fields of chapter 09 that the time unit derives (R317, R326, R328). -/
def State.readTime (s : State) (off : Nat) : Word :=
  if 0x200000 ≤ off ∧ off < 0x200100 ∧ off % 0x40 = 8 then BitVec.ofInt 32 (s.tb ((off - 0x200000) / 0x40)).freq
  else if off = pubSecLo then BitVec.ofNat 32 s.time.pubSec
  else if off = 0x201004 then
    setBits (setBits (s.reg off) 2 2 s.cadHoldover.toNat) 1 1 (decide (s.time.d ≠ 0)).toNat
  else if off = 0x201008 then
    BitVec.ofInt 32 (clampInt (Int.tdiv s.time.d (nsUnits : Int)) (-2147483648) 2147483647)
  else s.reg off

/-- SPn_SPARE_STATUS (R278). -/
def State.readSpare (s : State) (n : Nat) : Word :=
  let one (pass : Pass) : Nat :=
    let x := s.passOf n pass
    x.shadowOn.toNat * 2 ^ 15 + x.free.getD 7 * 2 ^ 12 + x.svc.getD 3 0 * 2 ^ 9 + x.svc.getD 2 0 * 2 ^ 6
      + x.svc.getD 1 0 * 2 ^ 3 + x.svc.getD 0 0
  BitVec.ofNat 32 (one .egress * 2 ^ 16 + one .ingress)

/-- SPn_SPARE_FAULT (R279). -/
def State.readFaulty (s : State) (n : Nat) : Word :=
  let one (pass : Pass) : Nat := (s.passOf n pass).faulty.foldl (fun v k => v + 2 ^ k) 0
  BitVec.ofNat 32 ((s.passOf n .egress).target * 2 ^ 18 + (s.passOf n .ingress).target * 2 ^ 16
    + one .egress * 2 ^ 8 + one .ingress)

/-- SPn_TR_STATUS (R126). -/
def State.readTrestle (s : State) (n : Nat) : Word :=
  let x := s.engine n
  BitVec.ofNat 32 (x.queued.length * 2 ^ 16 + x.entry % 4096 * 2 ^ 4 + x.ctx.toNat * 2 ^ 3 + x.state)

/-- The registers of a span (R126, R278, R279). -/
def State.readSpan (s : State) (off : Nat) : Word :=
  let n := (off - 0x1000000) / 0x100000
  let o := off % 0x100000
  if o = 0x9004 then s.readTrestle n
  else if o = 0xA004 then s.readSpare n
  else if o = 0xA008 then s.readFaulty n
  else s.reg off

/-- The registers of CHIP (R120, R274, R503, R505). -/
def State.readChip (s : State) (off : Nat) : Word :=
  if off = 0x4 then setBits (s.reg off) 3 0 s.chip.mode.code
  else if off = 0x208 then BitVec.ofNat 32 s.inflight
  else if off = 0x404 then
    (s.reg off &&& 0xFFFF) ||| bitsWord (fun k =>
      16 ≤ k && ((s.passOf (k - 16) .ingress).degraded || (s.passOf (k - 16) .egress).degraded))
  else if off = 0x1010 then
    setBits (setBits (s.reg off) 9 9 s.gradeX.toNat) 8 8 (decide (s.chip.badFuses ≠ 0)).toNat
  else s.reg off

/-- The buffer pool manager and the scheduler (R197, R203, R236). -/
def State.readBuffer (s : State) (off : Nat) : Word :=
  if off = 0x800014 then BitVec.ofNat 32 s.freeCells
  else if 0x840000 ≤ off ∧ off < 0x850000 then
    let u := s.pairUse ((off - 0x840000) / 4)
    BitVec.ofNat 32 (u.paused.toNat * 2 ^ 22 + (u.res + u.sh + u.hd))
  else if 0xCA0000 ≤ off ∧ off < 0xCB5000 then BitVec.ofInt 32 ((s.shaper ((off - 0xCA0000) / 4)).tok / 256)
  else s.reg off

/-- The host interface, the journal, the guard units and the power controller (R282, R425, R473). -/
def State.readHost (s : State) (off : Nat) : Word :=
  if off = 0x300028 then BitVec.ofNat 32 s.pwr.energy
  else if off = 0x30002C then BitVec.ofNat 32 (s.pwr.energy / 2 ^ 32)
  else if off = 0x5F0004 then
    setBits (setBits (s.reg off) 31 16 s.jrn.wbuf.length) 1 1 (decide (logSlots ≤ s.logUse)).toNat
  else if off = 0x5F0008 then BitVec.ofNat 32 s.logUse
  else if 0x600000 ≤ off ∧ off < 0x600400 ∧ 0x38 ≤ off % 0x40 then
    (if s.fld (off / 0x40 * 0x40 + 8) 31 30 = 2 then s.reg off else 0)
  else s.reg off

/-- An offset of the performance counters (R296). -/
def isCounter (off : Nat) : Bool := decide (0x2600000 ≤ off) && decide (off < 0x2B00000)
/-- An offset of the frozen histogram bins (R288). -/
def isBin (off : Nat) : Bool := decide (0x2B00000 ≤ off) && decide (off < 0x2F00000)
/-- An offset of a lane's FEC counters (R365). -/
def isLaneCounter (off : Nat) : Bool :=
  decide (0x2000000 ≤ off) && decide (off < 0x2400000) && decide (0x100 ≤ off % 0x1000) && decide (off % 0x1000 < 0x200)

/-- The value of the counter whose low word is at `low`: CYCLES of a pipeline counts the core clocks of its die (R17, R297,
R471). -/
def State.counterAt (s : State) (low : Nat) : Nat :=
  if 0x2610000 ≤ low ∧ low < 0x2624000 ∧ (low - 0x2610000) / 8 % 64 = 0 then
    (if (low - 0x2610000) / 512 < 80 then s.counter (cChip 0) else s.time.clocks1 % 2 ^ 64)
  else s.counter low

/-- A word of the frozen digest through its window (R291). DESIGN CHOICE: BYTES is 64 bits wide and R291 calls it no pair of
R15, so its high word is read as it stands, with no holding copy; the frozen bank does not change between two roll-overs
(assumption 142). -/
def State.readDigest (s : State) (off : Nat) : Word :=
  let w := Tbl.get wayDefault s.tel.digFrozen
    (s.fld 0x2502000 3 0 * 2 ^ 14 + s.fld 0x2502000 10 4 * 128 + (off - 0x2503000) / 0x20)
  match off / 4 % 8 with
  | 0 => w.key
  | 1 => BitVec.ofNat 32 (w.port % 1024 + w.egress.toNat * 2 ^ 15)
  | 2 => BitVec.ofNat 32 w.pkts
  | 3 => BitVec.ofNat 32 w.err
  | 4 => BitVec.ofNat 32 w.bytes
  | 5 => BitVec.ofNat 32 (w.bytes / 2 ^ 32)
  | 6 => w.first
  | _ => w.last

/-- The 10-bit words that a pier receiver has seen since a time of the time-unit clock, at its RATE of 1.25, 3.125 or
6.25 GBd (R351, R353); none while the link is off (assumption 120). -/
def State.pierWords (s : State) (n since : Nat) : Nat :=
  if s.bit (0x2400000 + n * 0x100) 31 then
    (s.now - since) * 10 / (match s.fld (0x2400004 + n * 0x100) 28 27 with
      | 0 => 80
      | 1 => 32
      | _ => 16)
  else 0

/-- PLn_COMMA_HITS or PLn_CODE_ERR (R353, R367): a draw within the words seen since the last clear, saturating. -/
def pierCount (draw words : Nat) : Word := BitVec.ofNat 32 (min (2 ^ 32 - 1) (draw % (words + 1)))

/-- The registers of a pier link. -/
def State.readPier (s : State) (off : Nat) : Word :=
  let n := (off - 0x2400000) / 0x100
  if off % 0x100 = 0x10 then pierCount (Config.commaHits s.freeCount) (s.pierWords n (s.pier n).hitsFrom)
  else if off % 0x100 = 0x14 then pierCount (Config.codeErrors s.freeCount) (s.pierWords n (s.pier n).errsFrom)
  else s.reg off

/-- The registers of a lane: LANE_EYE_STATUS shows the columns that a running scan has completed (R366). -/
def State.readLane (s : State) (off : Nat) : Word :=
  let o := off % 0x1000
  let l := (off - 0x2000000) / 0x1000
  if 0x800 ≤ o ∧ o < 0x880 then s.eyeResult l (o / 4 - 0x200)
  else if o = 0x44 ∧ s.fld off 1 0 = 1 then setBits (s.reg off) 14 8 (s.eyeColumns l)
  else s.reg off

/-- Lanes, pier links, telemetry and counters (R288, R291, R296, R365, R366). -/
def State.readIo (s : State) (off : Nat) : Word :=
  if isCounter off || isLaneCounter off then
    BitVec.ofNat 32 (s.counterAt (off / 8 * 8) / 2 ^ (32 * (off / 4 % 2)))
  else if isBin off then BitVec.ofNat 32 (Tbl.get zeroNat s.tel.histFrozen ((off - 0x2B00000) / 4))
  else if 0x2503000 ≤ off ∧ off < 0x2504000 then s.readDigest off
  else if off < 0x2400000 then s.readLane off
  else if off < 0x2400400 then s.readPier off
  else s.reg off

/-- The live value of the register at an aligned offset. -/
def State.liveWord (s : State) (off : Nat) : Word :=
  if off < 0x100000 then s.readChip off
  else if off < 0x200000 then s.readFc off
  else if off < 0x300000 then s.readTime off
  else if off < 0x800000 then s.readHost off
  else if off < 0x1000000 then s.readBuffer off
  else if off < 0x2000000 then s.readSpan off
  else if off < 0x3000000 then s.readIo off
  else s.winRead off

/-- The register is the low word of a pair whose high word is read-only (R15). -/
def isPairLow (off : Nat) : Bool :=
  ((isCounter off || isLaneCounter off) && off % 8 = 0)
    || (match regRow off with
      | some r => r.pair
      | none => false)

/-- The high word of such a pair, or a word that a read of TB_PUB_SEC_LO captures (R15, R327). -/
def isHeld (off : Nat) : Bool := (4 ≤ off && isPairLow (off - 4)) || off = pubSecHi || off = pubN32

/-- The holding copy of a high word (R15): before the first read of the low word, its reset value. -/
def State.heldWord (s : State) (off : Nat) : Word := Tbl.get (fun _ => (0 : Word)) s.holding off

/-- What a read of the register at an aligned offset returns (R12 to R16). -/
def State.readReg (s : State) (off : Nat) : Word := if isHeld off then s.heldWord off else s.liveWord off

/-- A byte of device space, without side effects (R9, R420). -/
def State.readByte (s : State) (a : Nat) : Byte := ((s.readReg (a / 4 * 4)) >>> (8 * (a % 4))).setWidth 8


end Sys2Proof.Machine
end

