-- ==== Sys2Proof/Machine/Chip.lean ====
section
/-! DEFINITION. What the chip level does by itself (chapter 01, R511): die-to-die links, the lockstep pairs, and the
clock monitors. -/

namespace Sys2Proof.Machine

/-! ### Die-to-die links (R18) -/

def d2dDefault : Nat → D2dLink := fun _ => {}
def State.d2dLink (s : State) (l : Nat) : D2dLink := Tbl.get d2dDefault s.chip.d2d l
def State.setD2d (s : State) (l : Nat) (x : D2dLink) : State :=
  { s with chip := { s.chip with d2d := Tbl.put d2dDefault s.chip.d2d l x } }

/-- The source of a link: 0 to 63 carry traffic, 64 to 67 are the spares (R427). -/
def d2dSource (l : Nat) : Nat := if l < 64 then srcChip 5 l else srcChip 6 (l - 64)

/-- The link whose traffic a spare carries. -/
def State.d2dCarried (s : State) (l : Nat) : Option Nat :=
  (List.range 64).find? (fun i => (s.d2dLink i).spare = some l)

/-- The link carries traffic: an ordinary one that has not failed, or a spare in use. -/
def State.d2dRuns (s : State) (l : Nat) : Bool := !(s.d2dLink l).failed && (l < 64 || (s.d2dCarried l).isSome)

/-- A flit of a link that carries traffic is replayed, and the replay counted (R18, R24). -/
def State.flitReplay (s : State) (l : Nat) : State :=
  if s.d2dRuns l then (s.corrected (d2dSource l) 1).count (cChip 4) 1 else s

/-- FLIT_CRC_FAIL (R18). -/
def execFlitCrcFail (link : Fin 68) (s : State) : Host.Outcome State Fault Refusal := .next (s.flitReplay link)

/-- Move the traffic of a link to the first free spare, or run with less capacity (R18). -/
def State.d2dMove (s : State) (l : Nat) (threshold : Bool) : State :=
  if !s.d2dRuns l then s
  else
    let from_ := if l < 64 then some l else s.d2dCarried l
    let s := (s.setD2d l { s.d2dLink l with failed := true }).setCorrections (d2dSource l) []
    let free := (List.range 4).find? (fun k => !(s.d2dLink (64 + k)).failed && (s.d2dCarried (64 + k)).isNone)
    let s := match from_ with
      | some i => s.setD2d i { s.d2dLink i with spare := free.map (fun k => 64 + k) }
      | none => s
    s.latchFault (d2dSource l) .s 0 false threshold

/-- D2D_LINK_FAILOVER (R18): more than 16 replays within 1 ms, by the replays counted. -/
def execD2dLinkFailover (link : Fin 68) (s : State) : Host.Outcome State Fault Refusal :=
  if s.overThreshold (d2dSource link) then .next (s.d2dMove link true) else .next s

/-! ### Lockstep pairs (R25 to R27) -/

def State.lockPair (s : State) (b : LockBlock) : LockPair :=
  match b with
  | .bufferPool => s.chip.lockPool
  | .freeList => s.chip.lockFree
  | .orderKeepers => s.chip.lockOrder
  | .collector => s.chip.lockColl

def State.setLock (s : State) (b : LockBlock) (x : LockPair) : State :=
  match b with
  | .bufferPool => { s with chip := { s.chip with lockPool := x } }
  | .freeList => { s with chip := { s.chip with lockFree := x } }
  | .orderKeepers => { s with chip := { s.chip with lockOrder := x } }
  | .collector => { s with chip := { s.chip with lockColl := x } }

/-- The chip block of a lockstep block (R427). -/
def lockCode (b : LockBlock) : Nat :=
  match b with | .bufferPool => 1 | .freeList => 2 | .orderKeepers => 3 | .collector => 4

/-- The source of a copy: 0 and 1 the pair, 2 the standby copy (R427). -/
def lockSource (b : LockBlock) (copy : Nat) : Nat := srcChip (lockCode b) copy

/-- An injection at copy A or B of a block is met by a fault of that block (R456, R526): the next occurrence of `src`
carries INJECTED. -/
def State.lockInjected (s : State) (b : LockBlock) (src : Nat) : State :=
  if s.fc.injNext = some (lockSource b 0) ∨ s.fc.injNext = some (lockSource b 1) then
    { s with fc := { s.fc with injNext := some src } }
  else s

/-- The reactions of the pending firing are suppressed (R456). -/
def State.lockQuiet (s : State) (b : LockBlock) : Bool :=
  s.fc.injQuiet && (s.fc.injNext = some (lockSource b 0) || s.fc.injNext = some (lockSource b 1))

/-- The comparator of a pair sees a mismatch (R26): the pair holds its grants and runs its known-answer sequence. -/
def State.lockMismatch (s : State) (b : LockBlock) : State :=
  let x := s.lockPair b
  if x.phase = .paired then s.setLock b { x with phase := .checking, failed := none } else s

/-- LOCKSTEP_MISMATCH (R26); at the collector the copies may drive ERR_D apart until the pair resumes (R437). -/
def execLockstepMismatch (b : LockBlock) (pin : Option Bool) (s : State) : Host.Outcome State Fault Refusal :=
  if b = .collector ∧ (s.lockPair b).phase = .paired then .next ((s.lockMismatch b).setErrFlip pin)
  else .next (s.lockMismatch b)

/-- What the known-answer sequence finds in copy A or B of a block at which an injection has fired (R26, R526): FLIP1 and
FLIP2 fail the named copy, and CHECK leaves both sound. -/
def State.lockInjects (s : State) (b : LockBlock) : Option (Bool × Bool) :=
  match s.injects (lockSource b 0), s.injects (lockSource b 1) with
  | some k, _ => some (k = 2, true)
  | none, some k => some (true, k = 2)
  | none, none => none

/-- The copy that stands in a place of the pair: the standby copy once the first one is fenced. -/
def LockPair.copyAt (x : LockPair) (second : Bool) : Nat :=
  if second then (if x.fencedB then 2 else 1) else (if x.fencedA then 2 else 0)

/-- Fence a copy (R26, R451). -/
def State.fenceCopy (s : State) (b : LockBlock) (copy : Nat) : State :=
  let x := s.lockPair b
  (s.setLock b { x with fencedA := x.fencedA || copy = 0, fencedB := x.fencedB || copy = 1 }).fence (partyLock b copy)

/-- LOCKSTEP_KAT_DONE (R26, R27): with both copies sound the mismatch is transient; a copy that fails is fenced, and the
standby copy joins, or, once it is in use, the safe state is entered. -/
def execLockstepKatDone (b : LockBlock) (passA passB : Bool) (s : State) : Host.Outcome State Fault Refusal :=
  let x := s.lockPair b
  let (passA, passB) := (s.lockInjects b).getD (passA, passB)
  if x.phase ≠ .checking then .next s
  else if passA && passB then .next (s.setLock b { x with phase := .joining, failed := none })
  else
    let copy := x.copyAt passA
    let src := lockSource b copy
    let both := !passA && !passB
    if s.lockQuiet b && !both then .next (s.setLock b { x with phase := .joining, failed := some copy })
    else
      let s := s.fenceCopy b copy
      let s := if both then s.fenceCopy b (x.copyAt true) else s
      if x.standbyUsed || both then
        -- the collector's own decision logic is the one that has failed: the safe state does not wait for it
        let s := (s.lockInjected b src).latchFault src .d
        .next (if b = .collector && !s.lockQuiet b then s.enterSafe src (safeCause src) else s)
      else .next (s.setLock b { s.lockPair b with phase := .joining, failed := some copy })

/-- LOCKSTEP_RESUME (R26): grants resume, and the collector records what the check has found. -/
def execLockstepResume (b : LockBlock) (s : State) : Host.Outcome State Fault Refusal :=
  let x := s.lockPair b
  if x.phase ≠ .joining then .next s
  else
    let used := x.standbyUsed || (x.failed.isSome && !s.lockQuiet b)
    let s := s.setLock b { x with phase := .paired, failed := none, standbyUsed := used }
    let s := match x.failed with
      | some copy => (s.lockInjected b (lockSource b copy)).latchFault (lockSource b copy) .s
      | none => (s.lockInjected b (lockSource b 0)).latchFault (lockSource b 0) .n
    match b with
    | .orderKeepers => .next s.releaseHost
    | .collector => .next (s.setErrFlip none).decideWaiting
    | .bufferPool | .freeList => .next s.holderWaiting

/-! ### Clock monitors (R38) -/

/-- The source of a clock monitor: 0 SYSCLK, 1 the PCIe reference, 2 + n REFCLK_SDn (R427). -/
def clockSource (e : Nat) : Nat := srcChip 0x1A e

/-- SYSCLK has been lost for more than 1 µs (R38). -/
def State.sysclkLost (s : State) : State :=
  ({ s with chip := { s.chip with sysclkLost := true } }).latchLive (clockSource 0) .d

/-- REFCLK_SDn is lost (R38): the links of the span go down. What their loss raises goes back to the same cause, and to a
firing where that is one (R456). -/
def State.refclkLost (s : State) (n : Nat) : State :=
  let before := s.fc.reacting
  let fired := decide (s.fc.injNext = some (clockSource (2 + n)))
  let s := { s with chip := { s.chip with sdRefLost := addOnce s.chip.sdRefLost n } }
  let s := (s.latchLive (clockSource (2 + n)) .s).setReacting (before || fired)
  ((List.range 64).foldl (fun s i => s.linkFails (n * 64 + i)) s).setReacting before

/-- The PCIe reference clock is lost (R38): the PCIe link goes down. -/
def State.pcieRefLost (s : State) : State :=
  let s := { s with chip := { s.chip with pcieRefLost := true }, hq := { s.hq with pcieUp := false } }
  s.ringsWait.latchLive (clockSource 1) .s

/-- SYSCLK_LOSS (R38). -/
def execSysclkLoss (s : State) : Host.Outcome State Fault Refusal := .next s.sysclkLost

/-- REFCLK_SD_LOSS (R38). -/
def execRefclkSdLoss (n : Span) (s : State) : Host.Outcome State Fault Refusal := .next (s.refclkLost n)

/-- PCIE_REFCLK_LOSS (R38). -/
def execPcieRefclkLoss (s : State) : Host.Outcome State Fault Refusal := .next s.pcieRefLost

/-- REFERENCE_CLOCK_RETURN (R38, R428): the monitor's LIVE clears; the links may come up again. -/
def execReferenceClockReturn (n : Option Span) (s : State) : Host.Outcome State Fault Refusal :=
  match n with
  | none => .next (({ s with chip := { s.chip with pcieRefLost := false } }).endLive (clockSource 1))
  | some k =>
    .next (({ s with chip := { s.chip with
      sdRefLost := s.chip.sdRefLost.filter (fun x => x ≠ k.val) } }).endLive (clockSource (2 + k)))

end Sys2Proof.Machine
end

