-- ==== Sys2Proof/Machine/Pier.lean ====
section
/-! DEFINITION. Pier links: alignment, capability exchange and step-up, time marks and fault propagation (R351 to R360,
R367). -/

namespace Sys2Proof.Machine

def pierOff (n : Nat) : Nat := 0x2400000 + n * 0x100

/-- PLn_STATUS.STATE (R367): 0 DOWN, 1 SEARCH, 2 ALIGNED, 3 CAP, 4 STEPPING, 5 UP. -/
def State.pierState (s : State) (n : Nat) : Nat := s.fld (pierOff n + 4) 31 29
def State.setPierState (s : State) (n v : Nat) : State := s.setFld (pierOff n + 4) 31 29 v
def State.pierRate (s : State) (n : Nat) : Nat := s.fld (pierOff n + 4) 28 27
def State.pierOn (s : State) (n : Nat) : Bool := s.bit (pierOff n) 31

/-- The source of a pier link (R427). -/
def pierSource (n : Nat) : Nat := srcChip 0x13 n

/-! ### Alignment (R353, R354) -/

/-- Clear PLn_COMMA_HITS and PLn_CODE_ERR: both count from now on. -/
def State.clearPierCounts (s : State) (n : Nat) : State := s.setPier n { (s.pier n) with hitsFrom := s.now, errsFrom := s.now }

/-- SEARCH (R353, step 1): ALIGNED and both counters are cleared, and the receiver discards its input. -/
def State.pierSearch (s : State) (n : Nat) : State :=
  if s.pierOn n then (s.clearPierCounts n).setPierState n 1 else s

/-- PIER_ALIGN_SEARCH (R353): PLn_ALIGN.SEARCH. -/
def execPierAlignSearch (n : Four) (s : State) : Host.Outcome State Fault Refusal := .next (s.pierSearch n)

/-- SLIP (R353, step 2): the word boundary moves one bit later, modulo 10, and both counters are cleared. -/
def State.pierSlipOne (s : State) (n : Nat) : State :=
  let x := s.pier n
  (s.setPier n { x with slip := (x.slip + 1) % 10 }).clearPierCounts n

/-- PIER_SLIP (R353): PLn_SLIP. -/
def execPierSlip (n : Four) (s : State) : Host.Outcome State Fault Refusal := .next (s.pierSlipOne n)

/-- The link enters UP; the mark counts restart (assumption 41). -/
def State.pierUp (s : State) (n : Nat) : State :=
  (s.setPierState n 5).setPier n { (s.pier n) with sends := true, t1 := none, marks := 1, heard := 0 }

/-- The capability exchange of a link is over and no step is left: it came UP before, runs at a stepped-up rate, or has
failed to step (R357, assumption 42). -/
def State.pierSettled (s : State) (n : Nat) : Bool := decide (s.pierRate n ≠ 0) || (s.pier n).sends || (s.pier n).noStep

/-- LOCK (R353, step 4, R357): the receiver starts to decode; with its exchange over the link is UP, else the exchange goes
on where it stood. -/
def State.pierLock (s : State) (n : Nat) : State :=
  if !s.pierOn n then s
  else if s.pierSettled n then s.pierUp n
  else s.setPierState n (if (s.pier n).stepSent then 4 else if (s.pier n).capSent then 3 else 2)

/-- PIER_ALIGN_LOCK (R353): PLn_ALIGN.LOCK. -/
def execPierAlignLock (n : Four) (s : State) : Host.Outcome State Fault Refusal := .next (s.pierLock n)

/-- PIER_ALIGN_LOST (R354): more than 8 code errors within 1,024 symbols. -/
def execPierAlignLost (n : Four) (s : State) : Host.Outcome State Fault Refusal :=
  if 2 ≤ s.pierState n then
    .next (((s.setPierState n 0).setBit (pierOff n + 4) 24 true).latchFault (pierSource n) .n)
  else .next s

/-- PIER_ENABLE_WRITE (R367): the word of PLn_CFG. -/
def execPierEnableWrite (n : Four) (value : Word) (s : State) : Host.Outcome State Fault Refusal :=
  if s.closed (pierOff n) then .next s else
  let old := s.pierOn n
  let s := s.setReg (pierOff n) (value &&& 0xFC000000)
  if s.pierOn n = old then .next s
  else
    let s := (s.setFld (pierOff n + 4) 31 27 0).setPier n { hitsFrom := s.now, errsFrom := s.now }
    .next (s.emit (.pierSymbols n (if old then 0 else 285) 0))

/-! ### Capability exchange and step-up (R357) -/

/-- MAX_RATE as offered: 3 acts as 2 (R367). -/
def State.maxRate (s : State) (n : Nat) : Nat := min 2 (s.fld (pierOff n) 30 29)

/-- Both CAPs are exchanged: UP at 1.25 GBd, or STEP with the target. -/
def State.capDone (s : State) (n : Nat) : State :=
  let x := s.pier n
  match x.peerRate with
  | none => s
  | some r =>
    if !x.capSent then s
    else
      let t := if x.noStep then 0 else min (s.maxRate n) (min 2 r)
      if t = 0 then s.pierUp n
      else
        ((s.setPier n { x with target := t, stepSent := true, sends := false }).setPierState n 4).pierSend n 2 [BitVec.ofNat 8 t]

/-- PIER_CAP_TIMER (R357): an aligned end at 1.25 GBd sends CAP. -/
def execPierCapTimer (n : Four) (s : State) : Host.Outcome State Fault Refusal :=
  if s.pierOn n && (s.pierState n = 2 || s.pierState n = 3) then
    let role := s.fld (pierOff n + 0x20) 31 30
    let payload := [BitVec.ofNat 8 (s.maxRate n), 1] ++ beBytes 2 s.deviceId ++ [BitVec.ofNat 8 role]
    let s := (s.pierSend n 1 payload).setPierState n 3
    .next ((s.setPier n { (s.pier n) with capSent := true }).capDone n)
  else .next s

/-- CAP (R356, R357): the peer's rate is known. -/
def execCap (n : Four) (payload : List Byte) (s : State) : Host.Outcome State Fault Refusal :=
  if s.pierState n = 2 || s.pierState n = 3 then
    .next ((s.setPier n { (s.pier n) with peerRate := some (payload.getD 0 0).toNat }).capDone n)
  else .next s

/-- STEP (R357). -/
def execStep (n : Four) (payload : List Byte) (s : State) : Host.Outcome State Fault Refusal :=
  -- the rate in the payload is the target that both ends compute alike
  let _ := payload
  if 2 ≤ s.pierState n && s.pierState n ≤ 4 then .next (s.setPier n { (s.pier n) with stepRx := true }) else .next s

/-- PIER_STEP_SWITCH (R357): both ends switch rate and search. -/
def execPierStepSwitch (n : Four) (s : State) : Host.Outcome State Fault Refusal :=
  let x := s.pier n
  if s.pierState n = 4 && x.stepSent && x.stepRx then
    .next (((s.setFld (pierOff n + 4) 28 27 x.target).setPierState n 1).clearPierCounts n)
  else .next s

/-- PIER_STEP_TIMEOUT (R357): the end falls back to 1.25 GBd and stays there until EN is cleared. -/
def execPierStepTimeout (n : Four) (s : State) : Host.Outcome State Fault Refusal :=
  if s.pierState n ≤ 1 && s.pierRate n ≠ 0 then
    let s := (((s.setFld (pierOff n + 4) 28 27 0).setPierState n 1).clearPierCounts n).setBit (pierOff n + 4) 26 true
    .next ((s.setPier n { (s.pier n) with noStep := true, sends := false }).latchFault (pierSource n) .n)
  else .next s

/-- PIER_FRAME_BAD (R355): a frame is discarded and counted. -/
def execPierFrameBad (n : Four) (s : State) : Host.Outcome State Fault Refusal :=
  if 2 ≤ s.pierState n then .next (s.incSat (pierOff n + 4) 23 16 1) else .next s

/-! ### Time marks (R358, R359) -/

/-- SEC (6 bytes), NS (4) and FRAC (2) of a time (R356). -/
def timeBytes (v : Nat) : List Byte := beBytes 6 (secOf v) ++ beBytes 4 (nsOf v) ++ beBytes 2 (fracOf v)

/-- A time of a payload in 2^−16 ns. -/
def timeTicks (bs : List Byte) (i : Nat) : Int :=
  ((beNat (sliceBytes bs i 6) * 1000000000 + beNat (sliceBytes bs (i + 6) 4)) * 65536 + beNat (sliceBytes bs (i + 10) 2) : Nat)

def State.tmRole (s : State) (n : Nat) : Nat := s.fld (pierOff n + 0x20) 31 30

/-- TMARK_PERIOD (R359): the initiator sends mark A, unless a pair is outstanding. Its transmitter goes on when its receiver
has lost alignment, and sends no mark from STEP to UP (R354, R357). -/
def execTmarkPeriod (n : Four) (s : State) : Host.Outcome State Fault Refusal :=
  let x := s.pier n
  if s.pierOn n && x.sends && s.tmRole n = 1 && x.t1.isNone then
    .next ((s.emit (.pierSymbols n 28 1)).setPier n { x with t1 := some (s.pierStamp n true) })
  else .next s

/-- TIME_MARK_RX (R359): the responder answers with mark B; the initiator sends TMARK. -/
def execTimeMarkRx (n : Four) (s : State) : Host.Outcome State Fault Refusal :=
  let x := s.pier n
  if s.pierState n ≠ 5 then .next s
  else if s.tmRole n = 2 then
    .next ((s.emit (.pierSymbols n 28 1)).setPier n
      { x with heard := (x.heard + 1) % 256, t2 := s.pierStamp n false, t3 := s.pierStamp n true })
  else if s.tmRole n = 1 then
    match x.t1 with
    | none => .next s
    | some t1 =>
      let b := s.fld (pierOff n + 0x20) 29 28
      let payload := [BitVec.ofNat 8 x.marks, 1] ++ timeBytes (t1.base b) ++ timeBytes ((s.pierStamp n false).base b)
      .next ((s.pierSend n 3 payload).setPier n { x with t1 := none, marks := (x.marks + 1) % 256 })
  else .next s

/-- The offset that a completed exchange gives base m (R311), in 2^−16 ns. -/
def State.pierTheta (s : State) (n m : Nat) (payload : List Byte) : Int :=
  let x := s.pier n
  let t2 : Int := (x.t2.base m / 2 ^ 32 : Nat)
  let t3 : Int := (x.t3.base m / 2 ^ 32 : Nat)
  ((t2 - timeTicks payload 2) - (timeTicks payload 14 - t3)) / 2 - s.pierAsym n

/-- TMARK (R359): paired with the last marks, it gives each base that follows the link a sample; else it is rejected. -/
def execTmark (n : Four) (payload : List Byte) (s : State) : Host.Outcome State Fault Refusal :=
  let x := s.pier n
  if s.pierState n ≠ 5 || s.tmRole n ≠ 2 then .next s
  else
    let paired := decide (x.heard = (payload.getD 0 0).toNat)
    .next ((List.range 4).foldl (fun s m =>
      if s.tbSource m = 4 + n.val then
        if paired then s.submitSample m (s.pierTheta n m payload) else s.incSat (0x200004 + m * 0x40) 15 8 1
      else s) s)

/-- TMARK_TIMEOUT (R359): B has not arrived within 10 µs. -/
def execTmarkTimeout (n : Four) (s : State) : Host.Outcome State Fault Refusal :=
  let x := s.pier n
  if x.t1.isSome then .next (s.setPier n { x with t1 := none, marks := (x.marks + 1) % 256 }) else .next s

/-! ### Faults (R356, R360) -/

/-- FAULT (R356): what the peer says of its fault is kept. -/
def execFault (n : Four) (payload : List Byte) (s : State) : Host.Outcome State Fault Refusal :=
  if s.pierState n = 5 then .next (s.setPier n { (s.pier n) with lastFault := payload }) else .next s

/-- PIER_FAULT_SYMBOLS_RX (R360): FAULT_RX, and a fault of class RX_CLASS against the pier port. -/
def execPierFaultSymbolsRx (n : Four) (s : State) : Host.Outcome State Fault Refusal :=
  if 2 ≤ s.pierState n then
    let cls : FaultClass := if s.bit (pierOff n) 26 then .s else .n
    .next ((s.setBit (pierOff n + 4) 25 true).latchFault (srcChip 0x13 (4 + n.val)) cls)
  else .next s

/-- PIER_FAULT_REPEAT (R360): in SAFE the burst and the frame go out again. -/
def execPierFaultRepeat (s : State) : Host.Outcome State Fault Refusal :=
  if s.chip.mode = .safe then .next (s.pierPropagate (s.fld 0x10000C 15 0) .d) else .next s

end Sys2Proof.Machine
end

