-- ==== Sys2Proof/Machine/Spares.lean ====
section
/-! DEFINITION. The loss log, shadow compare, known-answer vectors, mismatch resolution, the switch to the spare pipeline
and reinstatement (R251 to R261, R275). -/

namespace Sys2Proof.Machine

/-- LOSS_LOG_READ (R275): the oldest entry is removed and read. -/
def execLossLogRead (s : State) : Host.Outcome State Fault Refusal :=
  match s.ord.losses with
  | [] => .next { s with readData := 0 }
  | e :: t =>
    let w := 2 ^ 31 + e.kind % 16 * 2 ^ 27 + e.cls % 16 * 2 ^ 23 + e.port % 1024 * 2 ^ 13 + e.egress % 1024 * 2 ^ 3
    let s := { s with ord := { s.ord with losses := t }, readData := BitVec.ofNat 32 w }
    .next (s.setReg 0x40C e.seq)

/-! ### Rotating shadow compare (R252) -/


/-- The free pipeline of a pass may shadow. -/
def State.mayShadow (s : State) (span : Nat) (pass : Pass) : Bool :=
  let x := s.passOf span pass
  x.free.isSome && s.bit (spareCtrl span) 0 && x.resolving = 0 && x.switching.isNone && !s.slotsStopped span

/-- SHADOW_PERIOD_END (R252): the free pipeline takes no new packet. -/
def execShadowPeriodEnd (span : Span) (pass : Pass) (s : State) : Host.Outcome State Fault Refusal :=
  let x := s.passOf span pass
  if x.shadowOn && !x.draining then .next (s.setPass span pass { x with draining := true }) else .next s

/-- A packet is an earlier shadow packet of the pass. -/
def isShadowOf (span : Nat) (pass : Pass) (e : Nat × Option Packet) : Bool :=
  match e.2 with
  | some k => k.span = span && k.pass = pass && k.shadowed
  | none => false

/-- SHADOW_PERIOD_START (R252): the last shadow packet has left; the next group is shadowed. -/
def execShadowPeriodStart (span : Span) (pass : Pass) (s : State) : Host.Outcome State Fault Refusal :=
  let x := s.passOf span pass
  if !s.mayShadow span pass || (x.shadowOn && !x.draining) || s.pipes.packets.any (isShadowOf span pass) then .next s
  else if x.shadowOn then
    .next (s.setPass span pass { x with target := (x.target + 1) % 4, draining := false })
  else .next (s.setPass span pass { x with shadowOn := true, draining := false })

/-- The vector slot takes the vector whose failure is to be confirmed, or the next of the suite of 1,536, which starts
again after its last; it is stamped with the active generation (R108, R254, R255). -/
def PipeState.insertVector (y : PipeState) (gen : Bool) : PipeState :=
  match y.katBad with
  | some v => { y with katWait := y.katWait ++ [(gen, v)] }
  | none => { y with katWait := y.katWait ++ [(gen, y.katNext)], katNext := (y.katNext + 1) % 1536 }

/-- KAT_VECTOR_INSERT (R254): a vector waits for a slot of a serving pipeline. -/
def execKatVectorInsert (span : Span) (pass : Pass) (pipe : PipeNo) (s : State) : Host.Outcome State Fault Refusal :=
  let no := pipeNo span pass pipe
  if ((s.passOf span pass).groupOf pipe).isSome && !s.fenced (partyPipe span pass pipe) then
    .next (s.setPipe no ((s.pipeOf no).insertVector s.activeGen))
  else .next s

/-! ### Mismatch resolution (R256) -/

/-- The source of the shadow compare and the vectors of a pipeline (R427). -/
def compareSource (span : Nat) (pass : Pass) (pipe : Nat) : Nat := srcSpan span (pipeBlock pass pipe) 0x3E

/-- The disputed packet of a pass, which has left the last stage. -/
def State.disputedPacket (s : State) (span : Nat) (pass : Pass) : Option Packet :=
  (s.passOf span pass).disputed.bind s.packet

/-- DETAIL of the records of a resolution (R432). -/
def State.disputeDetail (s : State) (span : Nat) (pass : Pass) : Nat :=
  match s.disputedPacket span pass with
  | some k => k.detail
  | none => 0

/-- A packet is in a stage of the serving pipeline. -/
def inFlightOf (span : Nat) (pass : Pass) (pipe : Nat) (e : Nat × Option Packet) : Bool :=
  match e.2 with
  | some k => k.span = span && k.pass = pass && k.pipe = pipe && k.stage < passStages pass
  | none => false

/-- MISMATCH_DRAINED (R256): both pipelines have drained; 16 vectors enter them. -/
def execMismatchDrained (span : Span) (pass : Pass) (s : State) : Host.Outcome State Fault Refusal :=
  let x := s.passOf span pass
  if x.resolving = 1 && !s.pipes.packets.any (inFlightOf span pass x.serving) then
    .next (s.setPass span pass { x with resolving := 2 })
  else .next s

/-- Vectors have run in a pipeline: they are counted, their slots are WASTED, and when all have passed it is clean (R242,
R297, R300). -/
def State.countVectors (s : State) (no n : Nat) (passed : Bool) : State :=
  let s := (s.count (cPipe no 8) n).wasteSlots no n
  if passed then s.setClean no
  else ({ s with freeCount := s.freeCount + 1 }).count (cPipe no 9) (1 + Config.openKatFails s.freeCount % n)

/-- The resolution names the serving pipeline (R256, R257). -/
def State.servingFaulty (s : State) (span : Nat) (pass : Pass) : State :=
  let x := s.passOf span pass
  s.latchFault (compareSource span pass x.serving) .s (s.disputeDetail span pass)

/-- The resolution names the free pipeline: the pass becomes degraded, and the held packets are replayed (R256, R259). -/
def State.freeFaulty (s : State) (span : Nat) (pass : Pass) : State :=
  let x := s.passOf span pass
  match x.free with
  | some f => (s.latchFault (compareSource span pass f) .s (s.disputeDetail span pass)).endResolution span pass
  | none => s.endResolution span pass

/-- MISMATCH_VECTORS_CHECKED (R256). -/
def execMismatchVectorsChecked (span : Span) (pass : Pass) (servingPass freePass : Bool) (s : State) :
    Host.Outcome State Fault Refusal :=
  let x := s.passOf span pass
  if x.resolving ≠ 2 then .next s
  else
    let s := s.countVectors (pipeNo span pass x.serving) 16 servingPass
    let s := s.countVectors (pipeNo span pass (x.free.getD 4)) 16 freePass
    match servingPass, freePass with
    | true, true => .next (s.setPass span pass { (s.passOf span pass) with resolving := 3 })
    | false, true => .next (s.servingFaulty span pass)
    | true, false => .next (s.freeFaulty span pass)
    | false, false =>
      let d := s.disputeDetail span pass
      .next ((s.freeFaulty span pass).latchFault (compareSource span pass x.serving) .s d)

/-- The pipeline that lends a slot: the next serving pipeline of the pass (R256). -/
def PassState.lender (x : PassState) : Nat := x.svc.getD ((x.target + 1) % 4) 7

/-- The disputed packet has run again in the serving pipeline, in the free one and in a slot that the next serving pipeline
has lent: three slots that are WASTED (R256, R300). -/
def State.rerunSlots (s : State) (span : Nat) (pass : Pass) : State :=
  let x := s.passOf span pass
  [x.serving, x.free.getD 4, x.lender].foldl (fun s k => s.wasteSlots (pipeNo span pass k) 1) s

/-- MISMATCH_RERUN_CHECKED (R256). -/
def execMismatchRerunChecked (span : Span) (pass : Pass) (outcome : Rerun) (s : State) :
    Host.Outcome State Fault Refusal :=
  let x := s.passOf span pass
  let d := s.disputeDetail span pass
  if x.resolving ≠ 3 then .next s
  else
    let s := s.rerunSlots span pass
    match outcome with
    | .allAgree => .next ((s.latchFault (compareSource span pass x.serving) .n d).endResolution span pass)
    | .servingDiffers => .next (s.servingFaulty span pass)
    | .freeDiffers => .next (s.freeFaulty span pass)
    | .lentDiffers => .next ((s.latchFault (compareSource span pass x.lender) .s d).endResolution span pass)
    | .noneAgree => .next (s.latchFault (compareSource span pass x.serving) .d d)

/-! ### Switching and reinstatement (R257 to R261) -/

/-- SPARE_DRAINED (R257): the free pipeline has drained and runs two vectors. -/
def execSpareDrained (span : Span) (pass : Pass) (s : State) : Host.Outcome State Fault Refusal :=
  let x := s.passOf span pass
  if x.switching.isSome then .next (s.setPass span pass { x with drained := true }) else .next s

/-- SPARE_SWITCH (R257): the vectors have run; the group moves to the free pipeline, which leaves the pass degraded, or
that pipeline is FAULTY too (R260). -/
def execSpareSwitch (span : Span) (pass : Pass) (vectorsPass : Bool) (s : State) : Host.Outcome State Fault Refusal :=
  let x := s.passOf span pass
  match x.switching, x.free, x.drained with
  | some g, some f, true =>
    let s := (s.countVectors (pipeNo span pass f) 2 vectorsPass).setReacting x.injected
    let s :=
      if vectorsPass then
        (s.setPass span pass { (s.passOf span pass) with
          svc := listSet x.svc g f, free := none, switching := none, drained := false, injected := false }).degrade span
      else s.latchFault (compareSource span pass f) .s
    .next (s.setReacting false)
  | _, _, _ => .next s

/-- With ROT_EN clear no pipeline of the span shadows (R252, R277). -/
def State.rotationCheck (s : State) (span : Nat) : State :=
  [Pass.ingress, Pass.egress].foldl (fun s pass => s.rotationStop span pass) s

/-- SPARE_REINSTATE (R261, R277): the word of SPn_SPARE_CTRL. -/
def execSpareReinstate (span : Span) (value : Word) (s : State) : Host.Outcome State Fault Refusal :=
  if s.closed (spareCtrl span) then .next s else
  let off := spareCtrl span
  let s := (s.writeOrdinary off value).rotationCheck span
  if getBits value 1 1 = 0 then .next s
  else
    let pass : Pass := if getBits value 8 8 = 1 then .egress else .ingress
    let x := s.passOf span pass
    let pipe := getBits value 6 4
    if x.faulty.contains pipe then .next (s.setPass span pass { x with reinstating := some pipe })
    else .next (s.refusedWrite off)

/-- A pipeline that was FAULTY is sound again (R260, R261): it takes a group that none serves, whose reset hold then
ends, or becomes the free pipeline. -/
def State.pipeRestored (s : State) (span : Nat) (pass : Pass) (pipe : Nat) : State :=
  let s := (s.unfence (partyPipe span pass pipe)).setMgmt 2 (pipeNo span pass pipe) true
  let x := s.passOf span pass
  let x := { x with faulty := x.faulty.filter (fun k => k ≠ pipe), reinstating := none }
  match x.unserved with
  | g :: rest =>
    let s := s.setPass span pass { x with svc := listSet x.svc g pipe, unserved := rest }
    match pass with
    | .ingress => s.leaveHold (span * 4 + g)
    | .egress => s
  | [] => s.setPass span pass { x with free := some pipe, shadowOn := false, draining := false }

/-- REINSTATE_DONE (R261): the full suite of 1,536 vectors has run in the pipeline under reinstatement. -/
def execReinstateDone (span : Span) (pass : Pass) (pipe : PipeNo) (vectorsPass : Bool) (s : State) :
    Host.Outcome State Fault Refusal :=
  let x := s.passOf span pass
  if x.reinstating ≠ some pipe.val || x.switching.isSome then .next s
  else
    let s := s.countVectors (pipeNo span pass pipe) 1536 vectorsPass
    if vectorsPass then .next ((s.pipeRestored span pass pipe).latchFault (compareSource span pass pipe) .n)
    else .next (s.setPass span pass { (s.passOf span pass) with reinstating := none })

end Sys2Proof.Machine
end

