-- ==== Sys2Proof/Machine/Registers.lean ====
section
/-! DEFINITION. Reads and writes of registers by the host (R10 to R16, R40, R298, R490), and the writes of fields that
have no command of their own. -/

namespace Sys2Proof.Machine

/-! ### Reads -/

/-- A read of PLn_COMMA_HITS or PLn_CODE_ERR clears it: it counts from now on (R367). -/
def State.pierReadClear (s : State) (off : Nat) : State :=
  let n := (off - 0x2400000) / 0x100
  let t := { s with freeCount := s.freeCount + 1 }
  if off % 0x100 = 0x10 then t.setPier n { (s.pier n) with hitsFrom := s.now }
  else if off % 0x100 = 0x14 then t.setPier n { (s.pier n) with errsFrom := s.now }
  else s

/-- A read of an aligned register (R12, R15, R298): its value; the high word of its pair goes to the holding copy; RC
fields are cleared; a counter's low word or a histogram bin latches PMC_RD_TS (R298, R346). -/
def State.readPlain (s : State) (off : Nat) : State :=
  let t := { s with readData := s.readReg off }
  let t := if isPairLow off then
      { t with holding := Tbl.put (fun _ => (0 : Word)) t.holding (off + 4) (s.liveWord (off + 4)) }
    else if off = pubSecLo then t.capturePub
    else t
  let t := if ((isCounter off || isLaneCounter off) && off % 8 = 0) || isBin off then t.setReg 0x2FF0000 s.tb0Ns else t
  let t := if 0x2400000 ≤ off ∧ off < 0x2400400 then t.pierReadClear off else t
  match regRow off with
  | none => t
  | some r => t.setReg off (clearRc r (t.reg off))

/-- A read by the host: in the closed part of a warm reset it returns all ones (R490). -/
def State.hostRead (s : State) (off : Nat) : State :=
  if s.closed off then { s with readData := 0xFFFFFFFF } else s.readPlain (off / 4 * 4)

/-- REGISTER_READ_CLEAR (R12, R13). -/
def execRegisterReadClear (off : Offset) (s : State) : Host.Outcome State Fault Refusal := .next (s.hostRead off.toNat)

/-- PAIR_LOW_WORD_READ (R15). -/
def execPairLowWordRead (off : Offset) (s : State) : Host.Outcome State Fault Refusal := .next (s.hostRead off.toNat)

/-- COUNTER_READ (R298). -/
def execCounterRead (off : Offset) (s : State) : Host.Outcome State Fault Refusal := .next (s.hostRead off.toNat)

/-- REGISTER_ACCESS_MISALIGNED (R10): no write effect, all ones on a read, and a class-N fault against CHIP element 0 with
the offset and the direction. An aligned access of 4 bytes is none. -/
def execRegisterAccessMisaligned (off : Offset) (size : Nat) (isWrite : Bool) (s : State) :
    Host.Outcome State Fault Refusal :=
  if size = 4 ∧ off.toNat % 4 = 0 then .next s
  else
    let s := if isWrite then s else { s with readData := 0xFFFFFFFF }
    if s.closed off.toNat then .next s
    else .next (s.latchFault (srcChip 0 0) .n (off.toNat + isWrite.toNat * 2 ^ 26))

/-! ### Writes -/

/-- A guard unit takes writes from the host only when the host owns it and it is not BUSY (R421). -/
def State.guRefuses (s : State) (off : Nat) : Bool :=
  let u := (off - 0x600000) / 0x40
  !s.bit 0x600400 u || s.fld (0x600000 + u * 0x40 + 8) 31 30 = 1

/-- A write of a ring context register (R396): while EN is 1 only EN, IRQ_EN and CQ_COAL take it, and a change of CQ_COAL
lets an armed ring that is due send its message (R394). -/
def State.writeContext (s : State) (off : Nat) (value : Word) : State :=
  let cq := decide (0x460000 ≤ off)
  let r := (off - (if cq then 0x460000 else 0x420000)) / 0x40
  let o := off % 0x40
  if o = 0x18 then s.writeCfg cq r value
  else if (if cq then s.cqEn r else s.sqEn r) && !(cq && o = 0x1C) then s.refusedWrite off
  else if cq && o = 0x1C then (s.writeOrdinary off value).cqInterrupt r
  else s.writeOrdinary off value

/-- A write of SCH_PORT_CFG_p (R232): an OVERHEAD outside −32 to +63 is ignored with a class-N fault. -/
def State.writePortCfg (s : State) (off : Nat) (value : Word) : State :=
  let v := signedBits (getBits value 7 0) 8
  if v < -32 ∨ 63 < v then
    (s.writeOrdinary off (setBits value 7 0 (s.fld off 7 0))).refusedWrite off
  else s.writeOrdinary off value

/-- A write of an MSI-X vector's control word (R394): clearing the mask sends a pending message. -/
def State.writeMsixControl (s : State) (v : Nat) (value : Word) : State :=
  let s := s.writeOrdinary (0x41000C + v * 0x10) value
  let pba := 0x418000 + v / 32 * 4
  if getBits value 0 0 = 0 && s.bit pba (v % 32) && s.hostOn then (s.setBit pba (v % 32) false).msixVector v else s

/-- A write of CHIP_STATE_CTRL whose GOTO names neither SERVICE nor TEST is refused with the first cause that holds
(R486, R503). -/
def State.writeStateCtrl (s : State) (value : Word) : State :=
  let s := s.writeOrdinary 0x8 value
  let g := getBits value 3 0
  if g = 2 ∨ g = 3 then s
  else
    let cause := if s.fld 0x800 31 28 ≠ 4 then 1 else if !s.fc.selfTest then 2 else 5
    (s.setBit 0x8 31 true).setFld 0x8 11 8 cause

/-- A write of the fields of a register that have no command of their own (R12). -/
def State.writePlain (s : State) (off : Nat) (value : Word) : State :=
  if 0x600000 ≤ off ∧ off < 0x600400 then
    (if off % 0x40 = 4 ∧ s.bit 0x600400 ((off - 0x600000) / 0x40) ∧ getBits value 0 0 = 0 then s
    else if s.guRefuses off then s.refusedWrite off
    else if off % 0x40 = 4 then s
    else s.writeOrdinary off value)
  else if 0x420000 ≤ off ∧ off < 0x4A0000 then s.writeContext off value
  else if 0x410000 ≤ off ∧ off < 0x418000 ∧ off % 0x10 = 0xC then s.writeMsixControl ((off - 0x410000) / 0x10) value
  else if 0xC01000 ≤ off ∧ off < 0xC02000 then s.writePortCfg off value
  else if 0x2000000 ≤ off ∧ off < 0x2400000 ∧ off % 0x1000 = 0 then
    s.writeLaneCfg ((off - 0x2000000) / 0x1000) value
  else if 0x1000000 ≤ off ∧ off < 0x2000000 ∧ off % 0x100000 = 0xA000 then
    (s.writeOrdinary off value).rotationCheck ((off - 0x1000000) / 0x100000)
  else if off = 0x200010 ∨ off = 0x200050 ∨ off = 0x200090 ∨ off = 0x2000D0 then
    let n := (off - 0x200010) / 0x40
    s.setTb n { (s.tb n) with offsLo := value }
  else if off = 0x2001C0 then (s.writeOrdinary off value).settlePps
  else if off = 0x300040 then s.writeConcord value
  else if off = 0x8 then s.writeStateCtrl value
  else s.writeOrdinary off value

/-- A write by the host: in the closed part of a warm reset it is dropped (R490). -/
def State.hostStore (s : State) (off : Nat) (value : Word) : State :=
  if s.closed off then s else s.writePlain (off / 4 * 4) value

/-- REGISTER_WRITE (R12 to R16). -/
def execRegisterWrite (off : Offset) (value : Word) (s : State) : Host.Outcome State Fault Refusal :=
  .next (s.hostStore off.toNat value)

end Sys2Proof.Machine
end

