-- ==== Sys2Proof/Machine/Faults.lean ====
section
/-! DEFINITION. Chapter 13 as commands: the collector's latch and its clearing, the error pins, the safe state, the
comparison of the two views, and fault injection. -/

namespace Sys2Proof.Machine

/-! ### Latching (R428 to R435, R460) -/

/-- The classes that the rules give the occurrences of a source in a span (R436, R441, and R32, R150, R259, R260 and
R340); an empty list where no rule states one. -/
def spanClasses (b e : Nat) : List FaultClass :=
  if b = 0x00 then (if e = 0x3E then [.s] else [])
  else if b ≤ 0x0A then (if e = 0x3E then [.s, .n, .d] else [.s])
  else
    match b with
    | 0x0D => [.n]
    | 0x0F | 0x10 | 0x11 | 0x12 => [.n, .s]
    | 0x13 | 0x14 | 0x15 | 0x16 => [.n, .s]
    | 0x18 => [.s]
    | _ => []

/-- The same for a source at chip level (R436, R441, and R18, R113, R178, R395, R406, R470, R474, R501, R525). -/
def chipClasses (b e : Nat) : List FaultClass :=
  match b with
  | 0x00 => if e = 2 then [.s, .n] else [.n]
  | 0x01 => if e < 3 then [.s, .n, .d] else if e = 0x17 then [.s, .d] else if 0x11 ≤ e then [.s] else []
  | 0x02 => if e < 3 then [.s, .n, .d] else []
  | 0x03 => if e < 3 then [.s, .n, .d] else if e = 4 then [.n, .s] else if e = 5 then [.n, .d] else []
  | 0x04 => if e < 3 then [.s, .n, .d] else if e = 4 then [.d] else if e = 5 then [.s] else if e = 6 then [.n] else []
  | 0x05 | 0x06 | 0x07 | 0x08 | 0x09 | 0x0A | 0x0B | 0x0C => [.s]
  | 0x0F | 0x10 => if e < 3 then [.s, .d] else [.s]
  | 0x11 => if 1 ≤ e then [.s] else []
  | 0x12 => if e < 5 then [.n, .s, .d] else []
  | 0x13 => [.n, .s]
  | 0x14 => if e < 2 then [.s] else []
  | 0x15 => [.d]
  | 0x1A => if e = 0 then [.d] else [.s]
  | 0x1C => [.s]
  | _ => []

/-- The source-to-class map (R436, R447). -/
def sourceClasses (src : Nat) : List FaultClass :=
  if 0xF800 ≤ src then chipClasses (src / 64 % 64 - 0x20) (src % 64) else spanClasses (src / 64 % 64) (src % 64)

/-- The class of an occurrence (R436): what its detector reports, where the map has that class for the source or none at
all, and otherwise the first class of the map. The class of a fault received on a pier link is that of RX_CLASS (R367). -/
def State.occurrenceClass (s : State) (src : Nat) (cls : FaultClass) : FaultClass :=
  if srcChip 0x13 4 ≤ src ∧ src ≤ srcChip 0x13 7 then
    (if s.bit (0x2400000 + (src - srcChip 0x13 4) * 0x100) 26 then .s else .n)
  else
    match sourceClasses src with
    | [] => cls
    | c :: l => if (c :: l).contains cls then cls else c

/-- DETAIL of an occurrence that its detector reports (R432): a source that the table does not list holds 0, and a time
base its last θ. -/
def State.occurrenceDetail (s : State) (src detail : Nat) : Nat :=
  let b := src / 64 % 64
  let e := src % 64
  if src < 0xF800 then
    (if (pipeOfSource src).isSome && (e < 24 || 0x3E ≤ e) then detail % 2 ^ 47 else 0)
  else if b = 0x20 then
    (if e ≤ 1 then detail % 2 ^ 27 else if e = 3 then detail % 2 ^ 26 + detail / 2 ^ 28 % 16 * 2 ^ 28 else 0)
  else if b = 0x21 then (if 0x11 ≤ e ∧ e ≤ 0x18 then detail % 2 ^ 21 + detail / 2 ^ 24 % 2 ^ 24 * 2 ^ 24 else 0)
  else if b = 0x23 then (if e = 4 ∨ e = 5 then detail % 2 ^ 46 else 0)
  else if b = 0x24 then (if e = 6 then detail % 2 ^ 26 else 0)
  else if b = 0x2F ∨ b = 0x30 then detail
  else if b = 0x32 then (if e < 4 then unsignedBits (s.tb e).lastTheta 64 else 0)
  else if b = 0x35 then detail % 2 ^ 16
  else 0

/-- A ledger entry as its descriptor has it (R243, R441): its PORTINFO and SEQ, and a frame that has been released. -/
def State.rebuiltEntry (s : State) (d : Nat) : LedgerEntry :=
  let y := s.desc d
  if y.alloc && y.accepted then
    { seq := y.seq, port := getBits y.portinfo 9 0, cls := getBits y.portinfo 13 10, device := s.deviceId,
      state := if (s.info d).released then .released else .accepted }
  else {}

/-- The DETAIL of a pair and a sequence (R432). -/
def pairDetail (q : Nat) (seq : Word) : Nat := q % 2 ^ 14 + seq.toNat * 2 ^ 14

/-- An uncorrectable ledger entry is rebuilt from its descriptor (R441). -/
def State.ledgerBad (s : State) (d : Nat) : State :=
  let e := s.rebuiltEntry d
  (s.setLedger d e).latchFault (srcChip 3 4) .n (pairDetail (e.port * 16 + e.cls) e.seq)

/-- A copy of ASSIGN or RELEASE of a pair is bad, and is rebuilt from the other, which the state holds; with both bad the
order state is lost (R441). -/
def State.counterBad (s : State) (q : Nat) (release both : Bool) : State :=
  let o := s.order q
  s.latchFault (srcChip 3 5) (if both then .d else .n) (pairDetail q (if release then o.release else o.assign))

/-- The bank group that a source names (R427). -/
def bankGroupOf (src : Nat) : Option Nat :=
  let b := src / 64 % 64
  if 0xF800 ≤ src ∧ 0x27 ≤ b ∧ b ≤ 0x2A then some ((b - 0x27) * 64 + src % 64) else none

/-- Retire a bank group (R434): at most 16; its free list leaves allocation and the shared pool shrinks. -/
def State.retireGroup (s : State) (g : Nat) : State :=
  if s.fc.retired.contains g || 16 ≤ s.fc.retired.length then s
  else
    let s := { s with fc := { s.fc with retired := s.fc.retired ++ [g] } }
    s.setFld 0x80000C 21 0 (s.fld 0x80000C 21 0 - 8192)

/-- The die-to-die link that a source names (R427). -/
def d2dOf (src : Nat) : Option Nat :=
  if srcChip 5 0 ≤ src ∧ src < srcChip 6 0 then some (src - srcChip 5 0)
  else if srcChip 6 0 ≤ src ∧ src < srcChip 6 4 then some (64 + (src - srcChip 6 0))
  else none

/-- R433 gives the element a threshold: stages, store scrubbers and table units, die-to-die links, bank groups, link
memory, descriptors and the ledger, the keystones' memories, and the copies of the time bases. -/
def countedSource (src : Nat) : Bool :=
  let b := src / 64 % 64
  let e := src % 64
  (d2dOf src).isSome || (bankGroupOf src).isSome ||
  if src < 0xF800 then ((pipeOfSource src).isSome && e < 24) || (0x0F ≤ b && b ≤ 0x12)
  else b = 0x2B || src = srcChip 3 4 || ((b = 0x2F || b = 0x30) && e = 3) || (b = 0x32 && e < 5) || b = 0x3C

/-- FAULT_LATCH (R428): an occurrence of a fault, or the start of a persistent condition, which occurs once; and what the
detectors report that have no row of their own (R433, R441). -/
def execFaultLatch (what : Detection) (s : State) : Host.Outcome State Fault Refusal :=
  match what with
  | .occurs src cls detail live =>
    let n := src.toNat
    let cls := s.occurrenceClass n cls
    let detail := s.occurrenceDetail n detail.toNat
    if live then .next (s.latchLive n cls detail) else .next (s.latchFault n cls detail (s.source n).live)
  | .corrected src => .next (s.corrected src.toNat 1)
  | .ledgerBad d => .next (s.ledgerBad d)
  | .counterBad pair release both => .next (s.counterBad pair release both)
  | .baseCopy base copy off => .next (s.setCopyOff base copy off)

/-- The block of an element raises its error line for corrections past the threshold (R18, R433, R434): a pipeline stage
counts as a permanent stage fault, with the packet of its last correction in DETAIL (R432), a die-to-die link moves to a
spare, and a bank group is retired. -/
def State.thresholdFault (s : State) (n : Nat) : State :=
  match d2dOf n, bankGroupOf n with
  | some l, _ => s.d2dMove l true
  | none, some g => (s.retireGroup g).latchFault n .s 0 (s.source n).live true
  | none, none => s.latchFault n .s (if (pipeOfSource n).isSome then s.corrPacket n else 0) (s.source n).live true

/-- CORRECTED_THRESHOLD (R24, R433): the count of an element has passed its threshold; it starts again (assumption 116).
An element that R433 gives no threshold passes none. -/
def execCorrectedThreshold (src : SourceId) (s : State) : Host.Outcome State Fault Refusal :=
  let n := src.toNat
  if countedSource n && s.overThreshold n then .next ((s.setCorrections n []).thresholdFault n) else .next s

/-- Clear the CAUSE bit of a source (R429): COUNT and FIRST_TS go with it, unless its condition persists. -/
def State.clearCause (s : State) (src : Nat) : State :=
  let x := s.source src
  if !x.cause then s
  else if x.live then s.setSource src { x with count := 1, firstTs := s.tb0Ns }
  else s.setSource src { x with cause := false, count := 0, firstTs := 0 }

/-- FAULT_CAUSE_CLEAR (R429, R459): a write of 1 to bits of CAUSE_LO or CAUSE_HI of a block. -/
def execFaultCauseClear (i : Fin 17) (b : Fin 64) (high : Bool) (value : Word) (s : State) :
    Host.Outcome State Fault Refusal :=
  match blockBase i b with
  | none => .next s
  | some base =>
    .next ((List.range 32).foldl (fun s e =>
      if value.getLsbD e then s.clearCause (base + 32 * high.toNat + e) else s) s)

/-- FAULT_SELECT (R460): the values of the selected source are captured. -/
def execFaultSelect (value : Word) (s : State) : Host.Outcome State Fault Refusal :=
  let src := getBits value 15 0
  let x := s.source src
  let s := s.setReg 0x100020 (BitVec.ofNat 32 src)
  let s := s.setReg 0x100024 (BitVec.ofNat 32
    (x.cause.toNat * 2 ^ 19 + x.live.toNat * 2 ^ 18 + faultCode x.cls * 2 ^ 16 + x.count % 65536))
  let s := s.setReg 0x100028 x.firstTs
  .next ((s.setReg 0x10002C (x.detail.setWidth 32)).setReg 0x100030 ((x.detail >>> 32).setWidth 32))

/-! ### Error pins (R437 to R440, R462) -/

/-- FC_PIN.TEST drives the pins, which it does in TEST only (R462). -/
def State.pinTest (s : State) : Bool := s.chip.mode = .test && s.bit 0x100018 31

/-- ERR_S is high (R438). -/
def State.errSActive (s : State) : Bool := s.bit 0x100014 0 || s.bit 0x100014 1 || s.pinTest

/-- ERR_S follows ASSERT and its timer (R438). -/
def State.settleErrS (s : State) (was : Bool) : State :=
  if was ≠ s.errSActive then s.emit (.pin "ERR_S" s.errSActive) else s

/-- ERR_S_TIMER_EXPIRE (R438): the minimum-pulse timer ends; the pin falls when ASSERT is clear. -/
def execErrSTimerExpire (s : State) : Host.Outcome State Fault Refusal :=
  if !s.fc.errSTimer then .next s
  else
    let was := s.errSActive
    let s := ({ s with fc := { s.fc with errSTimer := false } }).setBit 0x100014 1 false
    .next (s.settleErrS was)

/-- ERR_S_RELEASE (R438): the word of FC_ERR_S_CTRL; a 1 clears ASSERT, and the pin falls once the timer has ended. -/
def execErrSRelease (value : Word) (s : State) : Host.Outcome State Fault Refusal :=
  if getBits value 0 0 = 1 then
    let was := s.errSActive
    .next ((s.setBit 0x100014 0 false).settleErrS was)
  else .next s

/-- The reads in a row in which a ball has differed, up to 2. -/
def readbackCount (old : Nat) (bad : Bool) : Nat := if bad then min 2 (old + 1) else 0

/-- ERR_PIN_READBACK (R440): FC_PIN shows the levels read; the second read in a row in which a ball differs from what the
device drives there is a class-S fault against element 5 of the collector. -/
def execErrPinReadback (p n es : Bool) (s : State) : Host.Outcome State Fault Refusal :=
  let badP := decide (p ≠ s.errDP)
  let badN := decide (n ≠ s.errDN)
  let badS := decide (es ≠ s.errSActive)
  let s := ((s.setBit 0x100018 2 p).setBit 0x100018 1 n).setBit 0x100018 0 es
  let second := (badP && s.fc.disagreeP = 1) || (badN && s.fc.disagreeN = 1) || (badS && s.fc.disagreeS = 1)
  let s := { s with fc := { s.fc with
    disagreeP := readbackCount s.fc.disagreeP badP
    disagreeN := readbackCount s.fc.disagreeN badN
    disagreeS := readbackCount s.fc.disagreeS badS } }
  .next (if second then s.latchFault (srcChip 4 5) .s else s)

/-- The error pins follow a change of the pin test (R462). -/
def State.settlePins (s : State) (wasD wasS : Bool) : State :=
  let s := if wasD ≠ s.errDActive then s.emit (.pin "ERR_D" s.errDActive) else s
  s.settleErrS wasS

/-- FC_PIN_TEST_WRITE (R12, R462): the word of FC_PIN. -/
def execFcPinTestWrite (value : Word) (s : State) : Host.Outcome State Fault Refusal :=
  let wasD := s.errDActive
  let wasS := s.errSActive
  .next ((s.writeLocked 0x100018 (setBits (s.reg 0x100018) 31 31 (getBits value 31 31))).settlePins wasD wasS)

/-! ### The collector's own faults and the safe state (R443, R447) -/

/-- COLLECTOR_MISMATCH (R447): the safe state by hardware, with cause COLLECTOR. -/
def execCollectorMismatch (s : State) : Host.Outcome State Fault Refusal :=
  let src := srcChip 4 4
  -- the duplicated registers wait for no decision logic
  if s.chip.lockColl.phase = .paired then .next (s.latchFault src .d) else .next ((s.latchFault src .d).enterSafe src 2)

/-- SAFE_STATE_COMPLETE (R443): every enabled front-panel port transmits the Local Fault ordered set. -/
def execSafeStateComplete (s : State) : Host.Outcome State Fault Refusal :=
  if s.chip.mode = .safe && !s.fc.safeDone then
    let s := { s with fc := { s.fc with safeDone := true } }
    .next ((List.range 1024).foldl (fun s p =>
      if s.bit (0x2000000 + p * 0x1000) 31 then s.emit (.lane p "LOCAL_FAULT" 0) else s) s)
  else .next s

/-! ### Management and data path (R453, R454) -/

/-- The data-path view of a unit (R453); none for a kind or a number that names no unit. -/
def State.dataView (s : State) (kind unit : Nat) : Option Bool :=
  match kind with
  | 1 =>
    if unit < 16 then
      some (Tbl.get (fun _ => SpanPhase.none) s.chip.spans unit = .none && !s.fenced (partySpan unit))
    else none
  | 2 =>
    if unit < 160 then
      let pass : Pass := if unit % 10 < 5 then .ingress else .egress
      some (!(s.passOf (unit / 10) pass).faulty.contains (unit % 5))
    else none
  | 3 => if unit < 1024 then some (s.linkUp unit) else none
  | 4 => if unit < 4 then some (s.pierRuns unit) else none
  | 5 => if unit < 2 then some (decide (s.ksState unit = 1)) else none
  | _ => none

/-- Since when two views diverge, plus 1; 0 when they do not. -/
def State.divergedAt (s : State) (key : Nat) : Nat := Tbl.get zeroNat s.fc.diverged key
def State.setDiverged (s : State) (key t : Nat) : State :=
  { s with fc := { s.fc with diverged := Tbl.put zeroNat s.fc.diverged key t } }

/-- VIEW_COMPARE (R454): a divergence that has lasted 100 µs is a class-N fault against element 6 of the collector, and
the keystone's view takes the data path's. -/
def execViewCompare (kind : Fin 6) (unit : BitVec 16) (s : State) : Host.Outcome State Fault Refusal :=
  let u := unit.toNat
  match s.dataView kind u with
  | none => .next s
  | some data =>
    let key := kind.val * 65536 + u
    let src := srcChip 4 6
    let held := decide (s.fc.injHeld = some src)
    let mgmt := if held then !data else s.mgmtView kind u
    if mgmt = data then .next (s.setDiverged key 0)
    else if s.divergedAt key = 0 then .next (s.setDiverged key (s.now + 1))
    else if s.now + 1 < s.divergedAt key + 100000 then .next s
    else
      let detail := kind.val + u * 2 ^ 8 + mgmt.toNat * 2 ^ 24 + data.toNat * 2 ^ 25
      let s := if held then s.latchLive src .n detail else s.latchFault src .n detail
      .next ((s.setMgmt kind u data).setDiverged key 0)

/-! ### Injection (R455, R456, R463, R526) -/

/-- The kinds FLIP1, FLIP2 and CHECK, and CHECK alone. -/
def kindsFlip : List Nat := [0, 1, 2]
def kindsCheck : List Nat := [2]

/-- The kinds but LINE that apply to a source in a span (R427, R526); none when it names no source. -/
def spanKinds (b e : Nat) : Option (List Nat) :=
  if b = 0x00 then (if e = 0 ∨ e = 0x3E then some kindsCheck else none)
  else if b ≤ 0x0A then
    if e < (if b ≤ 5 then 24 else 16) then some kindsFlip
    else if e = 0x3E then some kindsCheck
    else if e = 0x3F then some []
    else none
  else if 0x13 ≤ b ∧ b ≤ 0x16 then (if e < 16 ∨ e = 0x3F then some kindsCheck else none)
  else
    let flip (n : Nat) : Option (List Nat) := if e < n then some kindsFlip else none
    let check (n : Nat) : Option (List Nat) := if e < n then some kindsCheck else none
    match b with
    | 0x0B => flip 5
    | 0x0C => flip 1
    | 0x0D => check 1
    | 0x0E => flip 1
    | 0x0F => flip 3
    | 0x10 => flip 64
    | 0x11 => flip 32
    | 0x12 => flip 32
    | 0x17 => check 64
    | 0x18 => check 4
    | _ => none

/-- The same for a source at chip level. -/
def chipKinds (b e : Nat) : Option (List Nat) :=
  let flip (n : Nat) : Option (List Nat) := if e < n then some kindsFlip else none
  let check (n : Nat) : Option (List Nat) := if e < n then some kindsCheck else none
  let level (n : Nat) : Option (List Nat) := if e < n then some [3] else none
  let pair : Option (List Nat) := if e = 2 then some [] else flip 4
  match b with
  | 0x00 => if e < 2 then some kindsCheck else if e < 4 then some [] else none
  | 0x01 => if 0x11 ≤ e ∧ e ≤ 0x18 then some kindsCheck else pair
  | 0x02 => pair
  | 0x03 => if e = 4 ∨ e = 5 then some kindsFlip else pair
  | 0x04 => if e = 4 ∨ e = 5 then some kindsCheck else if e = 6 then some [3] else pair
  | 0x05 => flip 64
  | 0x06 => flip 4
  | 0x07 | 0x08 | 0x09 | 0x0A => flip 64
  | 0x0B => flip 3
  | 0x0C => check 2
  | 0x0D | 0x0E => check 1
  | 0x0F | 0x10 => if e = 3 then some kindsFlip else check 3
  | 0x11 => if e = 0 then some [] else if e = 1 then some kindsCheck else if e = 2 then some [3] else none
  | 0x12 => if e < 4 then some [2, 3] else if e = 4 then some kindsCheck else if e = 5 then some [3] else none
  | 0x13 => check 8
  | 0x14 => if e = 2 then some [] else level 2
  | 0x15 | 0x16 | 0x17 | 0x18 | 0x19 => level 64
  | 0x1A => level 18
  | 0x1B => flip 16
  | 0x1C => flip 1
  | _ => none

/-- The kinds but LINE that apply to a source ID; none when R427 names no such source. -/
def sourceKinds (src : Nat) : Option (List Nat) :=
  if 0xF800 ≤ src then chipKinds (src / 64 % 64 - 0x20) (src % 64) else spanKinds (src / 64 % 64) (src % 64)

/-- An injection of a kind may be armed at a source (R455, R526); LINE reaches every listed block, whatever the element. -/
def kindApplies (kind src : Nat) : Bool :=
  if kind = 4 then (sourceKinds (src / 64 * 64)).isSome
  else
    match sourceKinds src with
    | some ks => ks.contains kind
    | none => false

def InjState.code : InjState → Nat | .idle => 0 | .keyed => 1 | .armed => 2 | .done => 3

/-- Move the injection logic to a state, which FC_INJ_STATUS shows with FIRED (R463). -/
def State.setInj (s : State) (i : InjState) : State :=
  ({ s with fc := { s.fc with inj := i } }).setFld 0x10004C 1 0 i.code

def State.injSource (s : State) : Nat := s.fld 0x100040 31 16
def State.injKind (s : State) : Nat := s.fld 0x100040 15 12
/-- Occurrences to inject: COUNT, where 0 acts as 1 (R463). -/
def State.injCount (s : State) : Nat := max 1 (s.fld 0x100040 11 8)

/-- INJECTION_KEY_WRITE (R455): the word of FC_INJ_KEY. -/
def execInjectionKeyWrite (value : Word) (s : State) : Host.Outcome State Fault Refusal :=
  let key := getBits value 15 0
  if s.chip.mode ≠ .test ∧ s.chip.mode ≠ .service then .next (s.refusedWrite 0x100048)
  else
    match s.fc.inj with
    | .idle | .done => .next (if key = 0x6A17 then s.setInj .keyed else s)
    | .armed => .next (s.setInj .idle)
    | .keyed =>
      if key ≠ 0x95E8 then .next (s.setInj .idle)
      else if kindApplies s.injKind s.injSource then
        let s := { s with fc := { s.fc with injFired := 0 } }
        .next ((s.setInj .armed).setFld 0x10004C 7 4 0)
      else .next (((s.setInj .idle).setBit 0x10004C 8 true).refusedWrite 0x100048)

/-- The word of FC_INJ_CTRL or FC_INJ_ARG is stored (R463). -/
def State.writeInjConfig (s : State) (arg : Bool) (value : Word) : State :=
  if arg then s.setReg 0x100044 value else s.setReg 0x100040 (setBits value 6 0 0)

/-- INJECTION_CONFIG_WRITE (R455): the word of FC_INJ_CTRL or FC_INJ_ARG. -/
def execInjectionConfigWrite (arg : Bool) (value : Word) (s : State) : Host.Outcome State Fault Refusal :=
  let off := if arg then 0x100044 else 0x100040
  match s.fc.inj with
  | .armed => .next (s.refusedWrite off)
  | .keyed => .next ((s.setInj .idle).writeInjConfig arg value)
  | _ => .next (s.writeInjConfig arg value)

/-- INJECTION_KEY_TIMEOUT (R455). -/
def execInjectionKeyTimeout (s : State) : Host.Outcome State Fault Refusal :=
  if s.fc.inj = .keyed then .next (s.setInj .idle) else .next s

/-- The chip block and the element of a source at chip level. -/
def chipBlock (src : Nat) : Nat := src / 64 % 64 - 0x20

/-- The condition of a source starts by injection (R455, R526). Under SUPPRESS it is latched and nothing above the block
reacts (R456). The inputs of the servos, the droop detectors and the two views report through their own commands. -/
def State.levelStart (s : State) (src : Nat) : State :=
  let e := src % 64
  let q := s.fc.injQuiet
  let b := chipBlock src
  if b = 0x1A then
    (if e = 0 then (if q then s.latchLive src .d else s.sysclkLost)
    else if q then s.latchLive src .s
    else if e = 1 then s.pcieRefLost
    else s.refclkLost (e - 2))
  else if b = 0x15 then s.latchLive src .d (unsignedBits (s.pwr.temps.getD e 0) 16)
  else if b = 0x14 then
    (if e = 0 then (if q then s.latchLive src .s else s.pmbusFails)
    else if q then s.latchLive src .s else s.alertStarts)
  else if b = 0x11 then
    let s := s.latchLive holdupSource .s
    if q then s else (s.setBit 0x300068 0 true).setMode true
  else if 0x16 ≤ b ∧ b ≤ 0x19 then s.droopStarts ((b - 0x16) * 64 + e)
  else s

/-- The condition ends. -/
def State.levelEnd (s : State) (src : Nat) : State :=
  let e := src % 64
  let b := chipBlock src
  if b = 0x1A then
    let s := s.endLive src
    if e = 0 then { s with chip := { s.chip with sysclkLost := false } }
    else if e = 1 then { s with chip := { s.chip with pcieRefLost := false } }
    else { s with chip := { s.chip with sdRefLost := s.chip.sdRefLost.filter (fun x => x ≠ e - 2) } }
  else if b = 0x14 ∧ e = 1 then (s.endLive src).alertEnds
  else if b = 0x11 then (s.endLive src).setBit 0x300068 0 false
  else if 0x16 ≤ b ∧ b ≤ 0x19 then s.droopEnds ((b - 0x16) * 64 + e)
  else s.endLive src

/-- The class of a failure that a checker reports by injection: the first one that the rules give the source, or, where they
give none, an open one (assumption 81). -/
def injectedClass (src : Nat) : FaultClass := (sourceClasses src).headD (Config.lineClass src)

/-- The firings of FLIP1, FLIP2 and CHECK that wait for the source's next check, which another command makes (R526): a
stage and the compare of a pipeline, the store scrubber, a table unit, the arriving ECC of a bank group or of link memory
and descriptors, and the MRAM program-verify. -/
def waitsForCheck (src : Nat) : Bool :=
  let b := src / 64 % 64
  if src < 0xF800 then (pipeOfSource src).isSome || (0x0F ≤ b && b ≤ 0x12)
  else (bankGroupOf src).isSome || b = 0x2B || src = srcChip 0x11 1

/-- A firing whose check the source makes at once (R526): one inverted bit is corrected and counted, a flit is replayed, a
base's copy is outvoted, a lockstep pair sees a mismatch, and every other checker reports its failure. -/
def State.fireNow (s : State) (src kind : Nat) : State :=
  let b := chipBlock src
  let e := src % 64
  if src < 0xF800 then (if kind = 0 then s.corrected src 1 else s.latchFault src (injectedClass src))
  else if 1 ≤ b ∧ b ≤ 4 ∧ e < 2 then
    s.lockMismatch (if b = 1 then .bufferPool else if b = 2 then .freeList else if b = 3 then .orderKeepers else .collector)
  else
    match d2dOf src with
    | some l => s.flitReplay l
    | none =>
      if b = 0x12 ∨ kind = 0 then s.corrected src 1
      else if b = 0x01 ∧ 0x11 ≤ e then s.bufFault (e - 0x10) 0 0 (s.occurrenceClass src .s)
      else if (b = 0x0F ∨ b = 0x10) ∧ e < 3 then s.pairFails (b - 0x0F) e 0 (e = 1) (e = 0) (e = 2)
      else if b = 0x03 ∧ e = 5 then s.latchFault src .n
      else s.latchFault src (s.occurrenceClass src (injectedClass src))

/-- INJECTION_FIRE (R455): one occurrence; after COUNT of them STATE is DONE. A LEVEL or LINE injection fires again only
when its duration has ended, and another only when the failure of the one before has shown. -/
def execInjectionFire (s : State) : Host.Outcome State Fault Refusal :=
  if s.fc.inj ≠ .armed ∨ s.fc.injHeld.isSome ∨ (s.injects s.injSource).isSome then .next s
  else
    let src := s.injSource
    let kind := s.injKind
    let n := s.fc.injFired + 1
    let quiet := decide (s.chip.mode = .test) && s.bit 0x100040 7
    let held := if kind = 3 ∨ kind = 4 then some src else none
    let line := decide (kind = 4)
    let s := { s with fc := { s.fc with
      injFired := n, injNext := some src, injKind := kind, injQuiet := quiet, injHeld := held, injLine := line } }
    let s := (s.setInj (if s.injCount ≤ n then .done else .armed)).setFld 0x10004C 7 4 n
    .next (if kind = 3 then s.levelStart src
      else if kind = 4 then s.latchLive src (Config.lineClass src)
      else if waitsForCheck src then s
      else s.fireNow src kind)

/-- INJECTION_LEVEL_END (R455): the duration of a LEVEL or LINE injection has ended. -/
def execInjectionLevelEnd (s : State) : Host.Outcome State Fault Refusal :=
  match s.fc.injHeld with
  | none => .next s
  | some src =>
    let line := s.fc.injLine
    let s := { s with fc := { s.fc with
      injHeld := none, injNext := if s.fc.injNext = some src then none else s.fc.injNext } }
    .next (if line then s.endLive src else s.levelEnd src)

end Sys2Proof.Machine
end

