-- ==== Sys2Proof/Machine/Package.lean ====
section
/-! DEFINITION. What chapter 16 states of the part itself: its rails and their limits (R506, R507), its grades (R2, R508),
its operating points (R464), and its ball map (R517 to R521). -/

namespace Sys2Proof.Machine

/-! ### Rails (R506, R507) -/

/-- The nominal voltage of a rail in µV (R507); that of VCORE is its start-up value. -/
def railNominal : Rail → Nat
  | .vcore => 720000
  | .vsram => 800000
  | .vsdA => 750000
  | .vsdT => 1200000
  | .vio => 1800000

/-- The recommended limits of a rail in µV (R507): those of VCORE bound every target of the adaptive loop. -/
def railLimits : Rail → Nat × Nat
  | .vcore => (650000, 800000)
  | .vsram => (776000, 824000)
  | .vsdA => (727500, 772500)
  | .vsdT => (1164000, 1236000)
  | .vio => (1710000, 1890000)

/-- A voltage in µV lies within the limits of its rail; VCORE is held within 10 mV of the target of the adaptive loop, once
one has been set (R507). -/
def railGood (r : Rail) (uv target : Nat) : Bool :=
  decide ((railLimits r).1 ≤ uv) && decide (uv ≤ (railLimits r).2)
    && (decide (r ≠ .vcore) || target = 0 || (decide (uv ≤ target + 10000) && decide (target ≤ uv + 10000)))

/-- The absolute maximum of a rail in µV (R506). -/
def railMaximum : Rail → Nat
  | .vcore => 900000
  | .vsram => 950000
  | .vsdA => 850000
  | .vsdT => 1350000
  | .vio => 1980000

/-- The range of the junction temperature of a grade in °C (R2, R508): extended, or commercial. -/
def gradeRange (extended : Bool) : Int × Int := if extended then (-40, 110) else (0, 105)

/-! ### Operating points (R464) -/

/-- An operating point: its core clock in MHz, the smallest frame at full line rate in bytes, and its maximum power in W. -/
structure OpPoint where
  mhz   : Nat
  frame : Nat
  watts : Nat
deriving DecidableEq, Repr

/-- OP0 to OP5 (R464). -/
def opPoint : Nat → OpPoint
  | 0 => { mhz := 800, frame := 231, watts := 620 }
  | 1 => { mhz := 1000, frame := 181, watts := 720 }
  | 2 => { mhz := 1200, frame := 147, watts := 830 }
  | 3 => { mhz := 1400, frame := 123, watts := 980 }
  | 4 => { mhz := 1500, frame := 114, watts := 1150 }
  | _ => { mhz := 1600, frame := 106, watts := 1350 }

/-! ### Ball map (R517 to R520) -/

/-- The N ball of a pair, or its P ball. -/
abbrev Negative := Bool

/-- What a ball carries: `neg` names the N ball of a pair. -/
inductive Ball where
  | vss | vhold
  | supply (r : Rail)
  | laneRx (lane : Nat) (neg : Negative)
  | laneTx (lane : Nat) (neg : Negative)
  | refclkSd (span : Nat) (neg : Negative)
  | pcieTx (i : Nat) (neg : Negative)
  | pcieRx (i : Nat) (neg : Negative)
  | pierTx (n : Nat) (neg : Negative)
  | pierRx (n : Nat) (neg : Negative)
  | pcieRefclk (neg : Negative)
  | sysclk (neg : Negative)
  | signal (name : String)
deriving DecidableEq, Repr

/-- The ball at a point of the field of a span (R518): u along the strip, v inward from the edge. -/
def fieldBall (span u v : Nat) : Ball :=
  if v = 19 then .supply (if u % 2 = 0 then .vsdA else .vsdT)
  else if u % 3 = 0 ∨ 21 < u then .vss
  else
    let neg := decide (u % 3 = 2)
    let s := 7 * v + u / 3
    if s < 64 then .laneRx (span * 64 + s) neg
    else if s < 128 then .laneTx (span * 64 + (s - 64)) neg
    else if s = 128 then .refclkSd span neg
    else .vss

/-- The single-ended signals of the management field, by index (R519). -/
def singleEnded : List String :=
  ["RESET_N", "WARM_N", "ERR_D_P", "ERR_D_N", "ERR_S", "PPS_IN0", "PPS_IN1", "PPS_OUT", "PMB_SCL", "PMB_SDA",
   "PMB_ALERT_N", "REG_ALERT_N", "SPI_SCK", "SPI_CS_N", "SPI_IO0", "SPI_IO1", "SPI_IO2", "SPI_IO3", "TCK", "TMS",
   "TDI", "TDO", "TRST_N", "THERMDA", "THERMDC", "HU_ISP", "HU_ISN", "STRAP0", "STRAP1"]

/-- The ball of an odd or even column of a row of pairs, `step` columns apart from column `first` on; none beyond `n` pairs. -/
def pairAt (c first step n : Nat) : Option (Nat × Negative) :=
  if first ≤ c ∧ (c - first) / step < n ∧ (c - first) % step < 2 then
    some ((c - first) / step, decide ((c - first) % step = 1))
  else none

/-- The ball of the management field at row r, column c (R519). -/
def managementBall (r c : Nat) : Ball :=
  match r with
  | 20 =>
    match pairAt c 22 4 8, pairAt c 60 4 4 with
    | some p, _ => .pcieTx p.1 p.2
    | none, some p => .pierTx p.1 p.2
    | none, none => .vss
  | 22 =>
    match pairAt c 22 4 8, pairAt c 60 4 4 with
    | some p, _ => .pcieRx p.1 p.2
    | none, some p => .pierRx p.1 p.2
    | none, none => .vss
  | 24 =>
    if c = 22 ∨ c = 23 then .pcieRefclk (c = 23)
    else if c = 25 then .signal "PCIE_PERST_N"
    else if c = 30 ∨ c = 31 then .sysclk (c = 31)
    else .vss
  | 25 => .supply (if c % 2 = 0 then .vsdA else .vsdT)
  | 26 =>
    if 22 ≤ c ∧ c % 2 = 0 then
      match singleEnded[(c - 22) / 2]? with
      | some n => .signal n
      | none => .vss
    else .vss
  | 27 => if c % 2 = 0 then .supply .vio else .vss
  | _ => .vss

/-- The ball of the power field at row r, column c (R520). -/
def powerBall (r c : Nat) : Ball :=
  if (r + c) % 2 = 1 then .vss
  else if r ≤ 75 then .supply .vcore
  else if r ≤ 79 then .supply .vsram
  else if r ≤ 89 then .supply .vsdA
  else if c ≤ 27 then .vhold
  else .supply .vsdT

/-- The ball at a distance `a` along strip e and v inward from its edge: four fields of 23 balls (R518). -/
def stripBall (e a v : Nat) : Ball := if a < 92 then fieldBall (4 * e + a / 23) (a % 23) v else .vss

/-- What the ball in row r, column c of the 112 × 112 grid carries (R517 to R520); every ball that no rule names is VSS. -/
def ballAt (r c : Nat) : Ball :=
  if 20 ≤ r ∧ r ≤ 27 ∧ 20 ≤ c ∧ c ≤ 91 then managementBall r c
  else if 28 ≤ r ∧ r ≤ 91 ∧ 20 ≤ c ∧ c ≤ 91 then powerBall r c
  else if r < 20 ∧ c < 92 then stripBall 0 c r
  else if 92 ≤ c ∧ r < 92 then stripBall 1 r (111 - c)
  else if 92 ≤ r ∧ 20 ≤ c then stripBall 2 (111 - c) (111 - r)
  else if c < 20 ∧ 20 ≤ r then stripBall 3 (111 - r) c
  else .vss

end Sys2Proof.Machine
end

