-- ==== Sys2Proof/Machine/Flash.lean ====
section
/-! DEFINITION. The boot flash: its regions, the boot control block, the manifests and the settings records (R491 to R493,
R497 to R500), and the UPDATE service. -/

namespace Sys2Proof.Machine

/-! ### The flash (R491) -/

def flashErased : Nat → Byte := fun _ => 0xFF

/-- Bytes of the flash. -/
def State.flashBytes (s : State) (a n : Nat) : List Byte :=
  (List.range n).map (fun i => Tbl.get flashErased s.boot.flash (a + i))

def programBytes : Tbl Byte → Nat → List Byte → Tbl Byte
  | t, _, [] => t
  | t, a, b :: bs => programBytes (Tbl.put flashErased t a b) (a + 1) bs

/-- Program bytes. -/
def State.flashProgram (s : State) (a : Nat) (bs : List Byte) : State :=
  { s with boot := { s.boot with flash := programBytes s.boot.flash a bs } }

/-- Erase a range. -/
def State.flashErase (s : State) (a n : Nat) : State :=
  let rest := s.boot.flash.filter (fun (e : Nat × Byte) => !(decide (a ≤ e.1) && decide (e.1 < a + n)))
  { s with boot := { s.boot with flash := rest } }

def bankBase (b : Nat) : Nat := if b = 0 then 0x100000 else 0x1F00000
def bankSize : Nat := 31457280
def slotBase (k : Nat) : Nat := 0x3D00000 + k % 2 * 0x100000
def slotSize : Nat := 1048576

/-! ### The boot control block (R492) -/

/-- A record of the boot control block. -/
structure Bcb where
  seq     : Nat := 0
  active  : Nat := 0
  pending : Nat := 0xFF
  trial   : Nat := 0xFF
  slot    : Nat := 0
  fail    : Nat := 0
deriving DecidableEq, Repr

/-- The bytes of a record before its CRC. -/
def Bcb.body (r : Bcb) : List Byte :=
  leBytes 4 0x4B424342 ++ leBytes 4 r.seq ++ [BitVec.ofNat 8 r.active, BitVec.ofNat 8 r.pending, BitVec.ofNat 8 r.trial,
    BitVec.ofNat 8 r.slot, BitVec.ofNat 8 r.fail] ++ List.replicate 15 0

/-- The 32 bytes of a record. -/
def Bcb.bytes (r : Bcb) : List Byte := r.body ++ leBytes 4 (crc32c r.body).toNat

/-- The record that 32 bytes hold, when MAGIC and CRC check. -/
def bcbOf (b : List Byte) : Option Bcb :=
  let n (i k : Nat) : Nat := leNat (sliceBytes b i k)
  if n 0 4 = 0x4B424342 ∧ n 28 4 = (crc32c (sliceBytes b 0 28)).toNat then
    some { seq := n 4 4, active := n 8 1, pending := n 9 1, trial := n 10 1, slot := n 11 1, fail := n 12 1 }
  else none

/-- The 32-byte places of both copies that hold a programmed byte. -/
def State.bcbPlaces (s : State) : List Nat :=
  s.boot.flash.foldl (fun (l : List Nat) (e : Nat × Byte) => if e.1 < 0x20000 then addOnce l (e.1 / 32) else l) []

/-- The governing record: the valid one with the highest SEQ (R492). -/
def State.governing (s : State) : Option Bcb :=
  s.bcbPlaces.foldl (fun (g : Option Bcb) k =>
    match bcbOf (s.flashBytes (k * 32) 32), g with
    | some r, some x => if x.seq < r.seq then some r else some x
    | some r, none => some r
    | none, x => x) none

/-- The record that governs, or what the ROM takes when none is valid (R494). -/
def State.bcb (s : State) : Bcb := s.governing.getD {}

/-- The first unprogrammed of `n` places of the copy that begins at place `base`, from place `k` of it on. -/
def State.freePlaceFrom (s : State) (base : Nat) : Nat → Nat → Option Nat
  | 0, _ => none
  | n + 1, k => if s.bcbPlaces.contains (base + k) then s.freePlaceFrom base n (k + 1) else some k

/-- The first unprogrammed place of the copy that begins at place `base`. -/
def State.freePlace (s : State) (base : Nat) : Option Nat := s.freePlaceFrom base 2048 0

/-- SEQ of the next record: after the governing one, or 0 (R492). -/
def State.nextSeq (s : State) : Nat := (s.governing.map (fun g => g.seq + 1)).getD 0

/-- Write a record into the first unprogrammed place of a copy; the running firmware, but not the ROM, erases a full copy
that does not hold the governing record (R492). -/
def State.writeBcb (s : State) (rom : Bool) (base : Nat) (b : List Byte) : State :=
  match s.freePlace base with
  | some k => s.flashProgram ((base + k) * 32) b
  | none => if rom then s else (s.flashErase (base * 32) 65536).flashProgram (base * 32) b

/-- Append a record to copy SEQ mod 2 (R492). -/
def State.appendBcb (s : State) (rom : Bool) (r : Bcb) : State :=
  s.writeBcb rom (s.nextSeq % 2 * 2048) (Bcb.bytes { r with seq := s.nextSeq })

/-! ### Manifests (R493) -/

/-- An entry of a manifest. -/
structure Part where
  type    : Nat
  version : Nat
  offset  : Nat
  len     : Nat
  digest  : List Byte
deriving DecidableEq, Repr

/-- The entries of the manifest that a bank begins with. -/
def State.manifestParts (s : State) (bank : Nat) : List Part :=
  (List.range 6).map (fun i =>
    let b := s.flashBytes (bankBase bank + 0x40 + 64 * i) 64
    let n (k l : Nat) : Nat := leNat (sliceBytes b k l)
    { type := n 0 1, version := n 4 4, offset := n 8 4, len := n 12 4, digest := sliceBytes b 16 48 })

/-- SET_VERSION of a bank's manifest. -/
def State.setVersion (s : State) (bank : Nat) : Nat := leNat (s.flashBytes (bankBase bank + 8) 4)

/-- The rules of R493 but the signature: header, parts, types and reserved bytes. -/
def State.manifestFormat (s : State) (bank : Nat) : Bool :=
  let h := s.flashBytes (bankBase bank) 0x1C0
  let n (k l : Nat) : Nat := leNat (sliceBytes h k l)
  let ps := s.manifestParts bank
  n 0 4 = 0x474C464D && n 4 2 = 1 && n 6 2 = 6 && n 11 1 = 0 && decide (n 12 4 ≤ bankSize)
    && (sliceBytes h 0x10 48).all (fun b => b = 0)
    && (List.range 6).all (fun i => (sliceBytes h (0x41 + 64 * i) 3).all (fun b => b = 0))
    && [1, 2, 3, 4, 5, 6].all (fun t => (ps.filter (fun p => p.type = t)).length = 1)
    && ps.all (fun p => p.offset % 4096 = 0 && decide (0x1000 ≤ p.offset) && p.len ≠ 0 && decide (p.offset + p.len ≤ n 12 4))
    && ps.all (fun p => ps.all (fun q => p.type = q.type
        || decide (p.offset + p.len ≤ q.offset) || decide (q.offset + q.len ≤ p.offset)))

/-- The signature of a bank's manifest verifies, under a vendor key that R95 permits (R493). -/
def State.manifestSigned (s : State) (bank : Nat) : Bool :=
  let t := trailerOf (s.flashBytes (bankBase bank + 0x1C0) 196)
  s.keyPermitted false t.key && t.verifies (s.flashBytes (bankBase bank) 0x1C0)

/-- The bytes of a part have the digest of its entry (R493, R495). -/
def State.partSound (s : State) (bank : Nat) (p : Part) : Bool :=
  sha384 (s.flashBytes (bankBase bank + p.offset) p.len) = p.digest

/-- The SCHEMA of the running set (R499). -/
def State.runningSchema (s : State) : Nat :=
  match (s.manifestParts s.boot.bank).find? (fun p => p.type = 6) with
  | some p => (Config.settingsSchema p.version).toNat
  | none => (Config.settingsSchema 0).toNat

/-! ### Settings records (R499) -/

/-- A record's header and CRC check, whatever its SCHEMA. -/
def settingsSound (b : List Byte) : Bool :=
  let n (i k : Nat) : Nat := leNat (sliceBytes b i k)
  let len := n 0x10 4
  n 0 4 = 0x53544753 && n 6 2 = 0 && decide (len ≤ 1048544) && n 0x14 8 = 0 && decide (32 + len ≤ b.length)
    && n 0x1C 4 = (crc32c (sliceBytes b 0 28 ++ sliceBytes b 32 len)).toNat

def settingsSchemaOf (b : List Byte) : Nat := leNat (sliceBytes b 4 2)

/-- The settings record of a slot, with as many bytes as its header says. -/
def State.settingsAt (s : State) (slot : Nat) : List Byte :=
  let len := leNat (s.flashBytes (slotBase slot + 0x10) 4)
  s.flashBytes (slotBase slot) (32 + min len 1048544)

/-- A slot holds no record. -/
def State.slotEmpty (s : State) (slot : Nat) : Bool := (s.flashBytes (slotBase slot) 4).all (fun b => b = 0xFF)

/-! ### The UPDATE service (R497, R498) -/

def Call.offset (c : Call) : Nat := c.arg 16 4
def Call.length (c : Call) : Nat := c.arg 20 4
def Call.address (c : Call) : Nat := c.arg 24 8
def Call.cancel (c : Call) : Bool := c.arg 12 1 % 2 = 1
def Call.activeBank (c : Call) : Bool := c.arg 12 1 / 2 % 2 = 1

/-- The bank that ACTIVE does not name. -/
def State.inactive (s : State) : Nat := if s.bcb.active = 0 then 1 else 0

def updActiveBank : Done := serviceError 1
def updRange : Done := serviceError 2
def updFlash : Done := serviceError 3
def updBadRecord : Done := serviceError 4

/-- UPDATE_STATUS (R497). -/
def execUpdateStatus (r : Ring) (s : State) : Host.Outcome State Fault Refusal :=
  let res := leBytes 4 (s.readReg 0x800).toNat ++ leBytes 4 (s.readReg 0x804).toNat ++ leBytes 4 (s.readReg 0x808).toNat
    ++ leBytes 4 s.bcb.seq
  .next (s.runCall r 7 1 statesChange (fun _ => s.finishCall r { code := 0, result := res }))

/-- Erase a range of the inactive bank (R497, R498). -/
def State.updErase (s : State) (r : Nat) (c : Call) (ok : Bool) : State :=
  if c.activeBank then s.finishCall r updActiveBank
  else if c.offset % 65536 ≠ 0 ∨ c.length % 65536 ≠ 0 ∨ bankSize < c.offset + c.length then s.finishCall r updRange
  else if !ok then s.finishCall r updFlash
  else (s.flashErase (bankBase s.inactive + c.offset) c.length).finishCall r { code := 0 }

/-- UPDATE_ERASE (R497). -/
def execUpdateErase (r : Ring) (flashOk : Bool) (s : State) : Host.Outcome State Fault Refusal :=
  .next (s.runCall r 7 2 statesChange (fun c => s.updErase r c flashOk))

/-- Program bytes of the host into the inactive bank (R497, R498). -/
def State.updWrite (s : State) (r : Nat) (c : Call) (data : Option (List Byte)) (ok : Bool) : State :=
  if c.activeBank then s.finishCall r updActiveBank
  else if c.length = 0 ∨ 65536 < c.length ∨ bankSize < c.offset + c.length then s.finishCall r updRange
  else if c.address = 0 then s.finishCall r { code := 5 }
  else
    match data with
    | none => s.dmaErr.finishCall r { code := 8 }
    | some bs =>
      if !ok then s.finishCall r updFlash
      else (s.flashProgram (bankBase s.inactive + c.offset) (sliceBytes bs 0 c.length)).finishCall r { code := 0 }

/-- UPDATE_WRITE (R497). -/
def execUpdateWrite (r : Ring) (data : Option (List Byte)) (flashOk : Bool) (s : State) :
    Host.Outcome State Fault Refusal :=
  .next (s.runCall r 7 3 statesChange (fun c => s.updWrite r c data flashOk))

/-- Copy a range of a bank to the host (R497, R498). -/
def State.updRead (s : State) (r : Nat) (c : Call) : State :=
  let bank := if c.activeBank then 1 - s.inactive else s.inactive
  if bankSize < c.offset + c.length then s.finishCall r updRange
  else if c.address = 0 then s.finishCall r { code := 5 }
  else (s.hostWrite c.address (s.flashBytes (bankBase bank + c.offset) c.length)).finishCall r { code := 0 }

/-- UPDATE_READ (R497). -/
def execUpdateRead (r : Ring) (s : State) : Host.Outcome State Fault Refusal :=
  .next (s.runCall r 7 4 statesChange (fun c => s.updRead r c))

/-- PENDING, UPDATE_FAILED, FAIL_PART and FAIL_CAUSE follow the governing record (R504). -/
def State.showBcb (s : State) : State :=
  let f := s.bcb.fail
  let s := s.setBit 0x800 24 (s.bcb.pending < 2)
  ((s.setBit 0x800 27 (f ≠ 0)).setFld 0x800 23 20 (f / 16)).setFld 0x800 19 16 (f % 16)

/-- UPDATE_ACTIVATE (R497): a record with PENDING set to the inactive bank and FAIL 0, or with PENDING none. -/
def execUpdateActivate (r : Ring) (s : State) : Host.Outcome State Fault Refusal :=
  .next (s.runCall r 7 5 statesChange (fun c =>
    let b := s.bcb
    let s := s.appendBcb false (if c.cancel then { b with pending := 0xFF }
      else { b with pending := s.inactive, fail := 0 })
    s.showBcb.finishCall r { code := 0 }))

/-- Write a settings record into the slot that SLOT does not name, and switch SLOT (R497 to R499). -/
def State.updSettings (s : State) (r : Nat) (c : Call) (data : Option (List Byte)) (ok : Bool) : State :=
  if slotSize < c.length then s.finishCall r updRange
  else if c.address = 0 then s.finishCall r { code := 5 }
  else
    match data with
    | none => s.dmaErr.finishCall r { code := 8 }
    | some bs =>
      if !settingsSound bs || settingsSchemaOf bs ≠ s.runningSchema then s.finishCall r updBadRecord
      else if !ok then s.finishCall r updFlash
      else
        let b := s.bcb
        let k := 1 - b.slot % 2
        let len := 32 + leNat (sliceBytes bs 0x10 4)
        let s := (s.flashErase (slotBase k) slotSize).flashProgram (slotBase k) (sliceBytes bs 0 len)
        (s.appendBcb false { b with slot := k }).finishCall r { code := 0 }

/-- UPDATE_SETTINGS_WRITE (R497). -/
def execUpdateSettingsWrite (r : Ring) (data : Option (List Byte)) (flashOk : Bool) (s : State) :
    Host.Outcome State Fault Refusal :=
  .next (s.runCall r 7 6 statesChange (fun c => s.updSettings r c data flashOk))

/-- UPDATE_SETTINGS_READ (R497): the record of the slot that SLOT names. -/
def execUpdateSettingsRead (r : Ring) (s : State) : Host.Outcome State Fault Refusal :=
  .next (s.runCall r 7 7 statesChange (fun c =>
    let b := s.settingsAt s.bcb.slot
    if c.address = 0 then s.finishCall r { code := 5 }
    else if !settingsSound b then s.finishCall r updBadRecord
    else (s.hostWrite c.address b).finishCall r { code := 0 }))

end Sys2Proof.Machine
end

