-- ==== Sys2Proof/Machine/Services.lean ====
section
/-! DEFINITION. The services INFO, AUDIT, PTP, PIER, FUSE and POWER of the keystones (R96, R179, R415, R418, R482). -/

namespace Sys2Proof.Machine

/-! ### INFO -/

/-- The fuse state of INFO.IDENTIFY (R415). -/
def State.fuseState (s : State) : Nat :=
  let cal := s.readReg 0x1010
  s.progs.ownerEn.toNat + 2 * s.progs.revoked0.toNat + 4 * s.progs.revoked1.toNat + 8 * getBits cal 8 8
    + 16 * getBits cal 9 9

/-- INFO_IDENTIFY (R415). -/
def execInfoIdentify (r : Ring) (s : State) : Host.Outcome State Fault Refusal :=
  let res := leBytes 8 Config.serialNumber.toNat ++ leBytes 4 (s.readReg 0x700008).toNat
    ++ leBytes 4 (s.readReg 0x100).toNat ++ leBytes 4 (s.readReg 0x104).toNat ++ leBytes 4 s.fuseState
    ++ leBytes 4 (s.readReg 0x700000).toNat
  .next (s.runCall r 1 0 statesAll (fun _ => s.finishCall r { code := 0, result := res }))

/-! ### AUDIT -/

/-- The quarantined frames that are still allocated. -/
def State.quarantined (s : State) : List Nat :=
  s.buf.desc.filterMap (fun (e : Nat × Desc) => if e.2.alloc && e.2.quar then some e.1 else none)

/-- The allocated cells that no live chain reaches, and that hold no record that waits (R179, R184). -/
def State.orphans (s : State) : List Nat :=
  let live := s.buf.desc.flatMap (fun (e : Nat × Desc) => if e.2.alloc then s.cellsOf e.1 else [])
  let live := live ++ s.fc.records.map (fun r => r.cell) ++ s.hq.captures.flatMap (fun x => x.cells)
  s.buf.link.filterMap (fun (e : Nat × LinkWord) => if e.2.alloc && !live.contains e.1 then some e.1 else none)

/-- The buffer audit (R179): quarantined frames and orphan cells go back through BPM_RECLAIM; how many of each. -/
def State.audit (s : State) : State × Nat × Nat :=
  let ds := s.quarantined
  let s := ds.foldl (fun s d => s.reclaimFrame d) s
  let cs := s.orphans
  let (s, n) := s.freeCellList cs
  (s.count (cChip 3) n, ds.length, n)

/-- AUDIT_RUN (R179, R415). -/
def execAuditRun (r : Ring) (s : State) : Host.Outcome State Fault Refusal :=
  .next (s.runCall r 3 1 statesButOff (fun _ =>
    let (s, f, n) := s.audit
    s.finishCall r { code := 0, result := leBytes 4 f ++ leBytes 4 n }))

/-! ### PTP -/

/-- An argument of a PTP command, whose layout the spec does not give: 0 the time base, 1 the domain, 2 the port, 3 the
port's state (R418, assumption 50). -/
def Call.ptpArg (c : Call) (k : Nat) : Nat := Config.ptpArg k c.body % (if k = 0 then 4 else if k = 1 then 256 else if k = 2 then 1024 else 3)

/-- PTP_INSTANCE (R418): the instance of a time base is configured with its domain, and its exchanges start anew. -/
def execPtpInstance (r : Ring) (s : State) : Host.Outcome State Fault Refusal :=
  .next (s.runCall r 4 1 statesButOff (fun c =>
    let b := c.ptpArg 0
    (s.setPtp b { on := true, domain := c.ptpArg 1, ports := (s.ptpOf b).ports }).finishCall r { code := 0 }))

/-- The instance may give a port this state: it has one slave port and up to 64 master ports (R418). -/
def PtpInstance.mayAssign (x : PtpInstance) (port role : Nat) : Bool :=
  let others (k : Nat) : Nat := (x.ports.filter (fun e => e.1 ≠ port && e.2 = k)).length
  (role ≠ 1 || others 1 = 0) && (role ≠ 2 || decide (others 2 < 64))

/-- PTP_PORT (R418): the host assigns a port's state; what would give an instance a second slave port, or a 65th master
port, fails with SERVICE_ERROR (assumption 50). -/
def execPtpPort (r : Ring) (s : State) : Host.Outcome State Fault Refusal :=
  .next (s.runCall r 4 2 statesButOff (fun c =>
    let x := s.ptpOf (c.ptpArg 0)
    if x.mayAssign (c.ptpArg 2) (c.ptpArg 3) then
      (s.setPtp (c.ptpArg 0) { x with ports := Tbl.put (fun _ => 0) x.ports (c.ptpArg 2) (c.ptpArg 3) }).finishCall r
        { code := 0 }
    else s.finishCall r (serviceError 0)))

/-- PTP_STATUS (R418): the spec does not lay the result out; its bytes are free (assumption 50). -/
def execPtpStatus (r : Ring) (s : State) : Host.Outcome State Fault Refusal :=
  let res := (List.range 48).map (fun i => Config.ptpStatus s.freeCount i)
  .next (s.runCall r 4 3 statesButOff (fun _ =>
    ({ s with freeCount := s.freeCount + 1 }).finishCall r { code := 0, result := res }))

/-! ### PIER -/

/-- The pier link that a PIER command names: byte 12 of its arguments (assumption 75). -/
def Call.link (c : Call) : Nat := c.arg 12 1 % 4

/-- PIER_ALIGN (R353, R415): the search slips until it finds the boundary at try `found`, and locks; without it all ten
tries have slipped. -/
def execPierAlign (r : Ring) (found : Option (Fin 10)) (s : State) : Host.Outcome State Fault Refusal :=
  .next (s.runCall r 5 1 statesButOff (fun c =>
    let n := c.link
    let s := s.pierSearch n
    match found with
    | some i => (((List.range i.val).foldl (fun s _ => s.pierSlipOne n) s).pierLock n).finishCall r { code := 0 }
    | none => ((List.range 10).foldl (fun s _ => s.pierSlipOne n) s).finishCall r (serviceError 0)))

/-- PIER_SEND (R356, R415): a MGMT frame with bytes 16 to 63 of the arguments. -/
def execPierSend (r : Ring) (s : State) : Host.Outcome State Fault Refusal :=
  .next (s.runCall r 5 2 statesButOff (fun c =>
    let n := c.link
    if s.pierSends n then (s.pierSend n 0x10 (sliceBytes c.body 8 48)).finishCall r { code := 0 }
    else s.finishCall r (serviceError 0)))

/-! ### FUSE -/

/-- FUSE_OWNER_KEY (R96): OWNER_KEY_HASH, then OWNER_KEY_EN; fuses that are blown stay as they are. -/
def execFuseOwnerKey (r : Ring) (s : State) : Host.Outcome State Fault Refusal :=
  .next (s.runCall r 6 1 (fun m => m = .startUp) (fun c =>
    if s.progs.ownerEn then s.finishCall r { code := 0x0A }
    else
      ({ s with progs := { s.progs with ownerHash := hashWords (sliceBytes c.body 8 48), ownerEn := true } }).finishCall r { code := 0 }))

/-! ### POWER -/

/-- POWER_STATUS (R482): five registers captured at one instant. -/
def execPowerStatus (r : Ring) (s : State) : Host.Outcome State Fault Refusal :=
  let w (off : Nat) : List Byte := leBytes 4 (s.liveWord off).toNat
  let res := w 0x300028 ++ w 0x30002C ++ w 0x300008 ++ w 0x300010 ++ w 0x300064 ++ w 0x300068
  .next (s.runCall r 8 1 statesButOff (fun _ => s.finishCall r { code := 0, result := res }))

/-- POWER_CONCORD_REPORT (R482): four records of 20 bytes at the host address of ARGS bytes 16 to 23. -/
def execPowerConcordReport (r : Ring) (s : State) : Host.Outcome State Fault Refusal :=
  let one (n : Nat) : List Byte :=
    [BitVec.ofNat 8 n] ++ sliceBytes (Tbl.get (fun _ => []) s.pwr.heard n) 0 16 ++ [0, 0, 0]
  .next (s.runCall r 8 2 statesButOff (fun c =>
    let a := c.arg 16 8
    if a = 0 then s.finishCall r { code := 5 }
    else (s.hostWrite a ((List.range 4).flatMap one)).finishCall r { code := 0 }))

end Sys2Proof.Machine
end

