-- ==== Sys2Proof/Machine/Resets.lean ====
section
/-! DEFINITION. Span resets, warm resets and cold resets (R189, R262 to R265, R445, R484 to R490). -/

namespace Sys2Proof.Machine

/-! ### What both a span reset and a warm reset do to a span -/

/-- The egress passes and the copies in hand of a span's ports go back to their queues: a copy in transmission is stomped,
and every copy is sent again ahead of its queue (R249, R263). -/
def State.requeueEgress (s : State) (n : Nat) : State :=
  let s := s.stompPorts (s.busyPorts.filter (fun p => p / 64 = n))
  let s := (List.range 5).foldl (fun s k => s.dropPackets n .egress k) s
  (List.range 4).foldl (fun s k => (s.setSelected (n * 4 + k) []).setReplays (n * 4 + k) .egress []) s

/-- The ingress passes of a span and its unreleased results are discarded, and their frames queued for replay (R247). -/
def State.discardSpan (s : State) (n : Nat) : State :=
  let s := (List.range 4).foldl (fun s k => s.discardIngress (n * 4 + k) ((s.passOf n .ingress).svc.getD k 7)) s
  (List.range 5).foldl (fun s k => s.dropPackets n .ingress k) s

/-- The logic of a span is reset (R263): no shadow, no resolution, no switch and no vector is under way. -/
def State.resetPasses (s : State) (n : Nat) : State :=
  let s := [Pass.ingress, Pass.egress].foldl (fun s pass =>
    let x := s.passOf n pass
    s.setPass n pass { x with
      shadowOn := false, draining := false, resolving := 0, disputed := none, switching := none, drained := false,
      reinstating := none, injected := false }) s
  (List.range 10).foldl (fun s k =>
    s.setPipe (n * 10 + k) { (s.pipeOf (n * 10 + k)) with katBad := none, katWait := [] }) s

/-- The span stops: its passes are discarded, its copies go back, and its trestle engine halts with its context (R123,
R263). -/
def State.stopSpan (s : State) (n : Nat) : State :=
  ((s.discardSpan n).requeueEgress n).haltEngine n 3

/-- Give the groups of a pass their pipelines: a sound one that served stays, the others are filled from the sound ones
that are left. -/
def fillGroups : List (Option Nat) → List Nat → List (Option Nat) × List Nat
  | [], spare => ([], spare)
  | some k :: t, spare => let (l, r) := fillGroups t spare; (some k :: l, r)
  | none :: t, k :: spare => let (l, r) := fillGroups t spare; (some k :: l, r)
  | none :: t, [] => let (l, r) := fillGroups t []; (none :: l, r)

/-- The full vector suite has run through the pipelines of a pass (R263, R265): those of `failed` are FAULTY and fenced,
the others are sound. A pipeline that fails now for the first time, a pass that loses its free pipeline, and a group that
none serves raise their faults (R254, R259, R260). -/
def State.rebuildPass (s : State) (n : Nat) (pass : Pass) (failed : List Nat) : State :=
  let x := s.passOf n pass
  let keep := (List.range 4).map (fun g =>
    let k := x.svc.getD g 7
    if x.unserved.contains g || failed.contains k || 5 ≤ k then none else some k)
  let spare := (List.range 5).filter (fun k => !failed.contains k && !keep.contains (some k))
  let (got, rest) := fillGroups keep spare
  let free := rest.head?
  let unserved := (List.range 4).filter (fun g => (got.getD g none).isNone)
  let svc := (List.range 4).map (fun g => (got.getD g none).getD (x.svc.getD g 7))
  let s := s.setPass n pass { x with svc := svc, free := free, faulty := failed, unserved := unserved }
  let s := failed.foldl (fun s k => s.fence (partyPipe n pass k)) s
  let s := failed.foldl (fun s k =>
    if x.faulty.contains k then s else s.latchService (compareSource n pass k)) s
  let s := if free.isNone && x.free.isSome then s.degrade n else s
  unserved.foldl (fun s g =>
    if x.unserved.contains g then s
    else s.latchService (srcSpan n (pipeBlock pass (svc.getD g 7)) 0x3F)) s

/-- The span and its sound pipelines re-enter service: their fence bits are cleared (R452). -/
def State.unfenceSpan (s : State) (n : Nat) : State :=
  let s := (s.unfence (partySpan n)).setMgmt 1 n true
  [Pass.ingress, Pass.egress].foldl (fun s pass =>
    (List.range 5).foldl (fun s k =>
      if (s.passOf n pass).faulty.contains k then s
      else (s.unfence (partyPipe n pass k)).setMgmt 2 (pipeNo n pass k) true) s) s

/-- The vectors of the ten pipelines of a span (R297): which of them fail, and which are FAULTY afterwards. -/
def State.runVectors (s : State) (n : Nat) (failed faulty : Pass → List Nat) : State :=
  [Pass.ingress, Pass.egress].foldl (fun s pass =>
    let s := (List.range 5).foldl (fun s k => s.countVectors (pipeNo n pass k) 1536 (!(failed pass).contains k)) s
    s.rebuildPass n pass (faulty pass)) s

/-- The pipelines of one pass in a list of failures. -/
def failedOf (l : List (Pass × PipeNo)) (pass : Pass) : List Nat :=
  (List.range 5).filter (fun k => l.any (fun (e : Pass × PipeNo) => e.1 = pass && e.2.val = k))

/-! ### Recopying a span (R116, R263) -/

/-- An SRAM row of a span that holds a counter or a meter is its own; every other row is a replica (R158, R489). -/
def State.ownRow (s : State) (n unit : Nat) : Bool :=
  match s.tableOf n false unit with
  | some g => 5 ≤ g.kind
  | none => false

/-- The entries of a table of the replicated items, with those of one span replaced by another's: `per` keys belong to a
span, and `own` names what the span keeps. -/
def recopy {α : Type} (t : Tbl α) (per n donor : Nat) (own : Nat → Bool) : Tbl α :=
  let kept := t.filter (fun (e : Nat × α) => !(e.1 / per = n && !own (e.1 % per)))
  let mine := t.filterMap (fun (e : Nat × α) =>
    if e.1 / per = donor && !own (e.1 % per) then some (n * per + e.1 % per, e.2) else none)
  mine.foldl (fun t e => Tbl.ins t e.1 e.2) kept

/-- Both generations of the stores and the replicated tables of a span are copied from a healthy span, each store from the
same one of the other span (R116, R263); its counters and meters keep their rows. -/
def State.recopySpan (s : State) (n donor : Nat) : State :=
  let own (k : Nat) : Bool := s.ownRow n (k / 2048)
  let none_ (_ : Nat) : Bool := false
  let t := s.tables
  { s with
    progs := { s.progs with deviant := recopy s.progs.deviant (10 * 2 ^ 25) n donor none_ }
    tables := { t with
      sram := recopy t.sram (2 ^ 18) n donor own
      tval := recopy t.tval (2 ^ 16) n donor none_
      tmask := recopy t.tmask (2 ^ 16) n donor none_
      rules := recopy t.rules (2 ^ 12) n donor none_ } }

/-! ### Span reset (R263) -/

def spanPhaseDefault : Nat → SpanPhase := fun _ => .none
def State.spanPhase (s : State) (n : Nat) : SpanPhase := Tbl.get spanPhaseDefault s.chip.spans n
def State.setSpanPhase (s : State) (n : Nat) (p : SpanPhase) : State :=
  { s with chip := { s.chip with spans := Tbl.put spanPhaseDefault s.chip.spans n p } }

/-- The sequence of a span reset goes on: not while a warm reset runs, and not without supply. -/
def State.spanRuns (s : State) (n : Nat) (p : SpanPhase) : Bool :=
  s.spanPhase n = p && s.chip.mode ≠ .recovery && s.chip.mode ≠ .off

/-- SPAN_GO is written 1 (R263, R488). -/
def State.spanRequest (s : State) (n : Nat) : State :=
  if (s.chip.mode ≠ .service ∧ s.chip.mode ≠ .test) ∨ !s.chip.spans.isEmpty then s.setBit 0x14 30 true
  else
    let s := (((s.setSpanPhase n .requested).setBit 0x14 31 true).setFld 0x14 19 16 n).fence (partySpan n)
    let s := (List.range 4).foldl (fun s k => s.enterHold (n * 4 + k)) s
    s.stopSpan n

/-- SPAN_LOGIC_RESET (R263): the span's logic, and nothing at chip level. -/
def execSpanLogicReset (span : Span) (s : State) : Host.Outcome State Fault Refusal :=
  let n := span.val
  if s.spanRuns n .requested then .next ((s.resetPasses n).setSpanPhase n .logicReset) else .next s

/-- SPAN_RECOPY_DONE (R116, R263). -/
def execSpanRecopyDone (span : Span) (donor : Span) (s : State) : Host.Outcome State Fault Refusal :=
  let n := span.val
  if s.spanRuns n .logicReset && donor.val ≠ n then
    .next ((s.recopySpan n donor).setSpanPhase n .recopied)
  else .next s

/-- SPAN_VECTORS_DONE (R263): a pipeline that fails is FAULTY. -/
def execSpanVectorsDone (span : Span) (failed : List (Pass × PipeNo)) (s : State) : Host.Outcome State Fault Refusal :=
  let n := span.val
  if s.spanRuns n .recopied then .next ((s.runVectors n (failedOf failed) (failedOf failed)).setSpanPhase n .vectorsDone)
  else .next s

/-- After a reset the saved context of an engine is resumed, whether the engine was stopped or FAULTED, unless software
has stopped it (R124, assumption 85); with no context a FAULTED engine is idle again. -/
def State.resumeEngine (s : State) (n : Nat) : State :=
  let x := s.engine n
  if (x.state = 3 ∨ x.state = 4) ∧ !s.stopSet n then
    if x.ctx then s.setEngine n { x with state := 1, ctx := false } else s.setEngine n { x with state := 0 }
  else s

/-- SPAN_REPLAY_START (R263): the replays start, and the trestle context is resumed. -/
def execSpanReplayStart (span : Span) (s : State) : Host.Outcome State Fault Refusal :=
  let n := span.val
  if s.spanRuns n .vectorsDone then .next ((s.resumeEngine n).setSpanPhase n .replaying) else .next s

/-- Reset hold ends for a port group that a pipeline serves (R260, R263). -/
def State.endHold (s : State) (g : Nat) : State :=
  if (s.passOf (g / 4) .ingress).unserved.contains (g % 4) then s else s.leaveHold g

/-- SPAN_RESET_END (R263, R452): the fences of the span are cleared, and reset hold ends, unless the device is in SAFE. -/
def execSpanResetEnd (span : Span) (s : State) : Host.Outcome State Fault Refusal :=
  let n := span.val
  if !s.spanRuns n .replaying then .next s
  else
    let s := (s.setSpanPhase n .none).unfenceSpan n
    let s := if s.chip.mode = .safe then s else (List.range 4).foldl (fun s k => s.endHold (n * 4 + k)) s
    .next ((s.setBit 0x14 31 false).incMod 0x14 15 0 1).releaseHost

/-! ### Warm reset (R265) -/

/-- A frame whose cells are being written is voided (R30, R265). -/
def State.cutArrivals (s : State) : State :=
  s.rx.frames.foldl (fun s e =>
    match e.2 with
    | none => s
    | some f =>
      let s := match f.desc with
        | none => s
        | some d =>
          let x := s.info d
          if x.stopped then (s.setInfo d { x with ended := true }).freeDescriptor d else s.discardFrame d
      s.rxDiscard e.1 f) s

/-- A load in progress ends with DEVICE_STATE (R99, R488). One that had reached step 7 of R98 leaves the shadow generation
DAMAGED, and one that had not leaves it as it was; how far it had come is free (assumption 89). -/
def State.stopLoad (s : State) : State :=
  if s.loadBusy then
    let st := if Config.loadReached s.freeCount then 4 else s.progs.loadPrev
    (({ s with freeCount := s.freeCount + 1 }).setShadow st).loadFails .deviceState {}
  else s

/-- A warm reset starts (R265, R485): RECOVERY, every group in reset hold; the bits of FC_SAFE and FC_STATUS that say SAFE
go when it leaves SAFE. A span reset that runs is stopped (R488). -/
def State.warmStart (s : State) (source : Nat) : State :=
  let s := (s.endPinTest.setFld 0x4 7 4 s.chip.mode.code).incMod 0x10 31 16 1
  let s := (s.setFld 0x10 7 4 source).setBit 0x800004 6 false
  let s := (s.setBit 0x14 31 false).setBit 0x100008 31 false
  let s := s.setBit 0x100004 19 false
  let s := { s with
    chip := { s.chip with mode := .recovery, warm := .hold }
    fc := { s.fc with safeDone := false } }
  let s := (List.range 64).foldl (fun s g => s.enterHold g) s
  s.cutArrivals.stopLoad

/-- A warm reset may leave SAFE now (R445). -/
def State.warmAllowed (s : State) : Bool :=
  s.chip.mode ≠ .safe || (s.bit 0x100008 30 && !(s.fld 0x100008 7 0 = 7 && s.hotAt s.gradeMax))

/-- A warm reset is asked for (R445, R488): ignored in RECOVERY and OFF; refused in SAFE with a class-N fault. -/
def State.warmRequest (s : State) (source detail : Nat) : State :=
  if s.chip.mode = .recovery ∨ s.chip.mode = .off then s
  else if s.warmAllowed then s.warmStart source
  else s.latchFault (srcChip 0 1) .n detail

/-- WARM_N_ASSERT (R487): WARM_N low for 1 µs; ignored while RESET_N is low. -/
def execWarmNAssert (s : State) : Host.Outcome State Fault Refusal := .next (if s.boot.held then s else s.warmRequest 1 0)

/-- The spans whose reset a warm reset has stopped, and which must be recopied (R488). -/
def State.brokenSpans (s : State) : List Nat := (List.range 16).filter (fun n => s.spanPhase n ≠ .none)

/-- Every span stops, and its logic is reset (R265). -/
def State.stopSpans (s : State) : State := (List.range 16).foldl (fun s n => (s.stopSpan n).resetPasses n) s

/-- No holding copy of a pair outlives a reset but those of TB_PUB, which keep their words until a cold reset (R15, R318,
R489). DESIGN CHOICE: the window's holding copy and an uncommitted staging copy (R129) stay through a warm reset; no rule
lists them as kept or lost (assumption 147). -/
def State.seal (s : State) : State :=
  { s with
    chip := { s.chip with warm := .sealed }
    holding := s.holding.filter (fun (e : Nat × Word) => e.1 = pubSecHi || e.1 = pubN32) }

/-- WARM_RESET_SEAL (R265): copies in transmission are stomped, the passes and the reorder buffers are discarded, the
engines halt, and logic reset is applied. -/
def execWarmResetSeal (s : State) : Host.Outcome State Fault Refusal :=
  .next (if s.chip.warm ≠ .hold then s else s.stopSpans.seal)

/-- The TX packets that are being read complete with RESET (R393), and a generation may have drained with them (R110). -/
def State.sweepTx (s : State) : State :=
  s.hq.sq.foldl (fun s e =>
    let x := s.sq e.1
    let (s, l) := x.taken.foldl (fun (acc : State × List Taken) t =>
      match t.work, t.done with
      | .tx w, none =>
        ({ acc.1 with buf := { acc.1.buf with hostUse := acc.1.buf.hostUse - txCells w.len } },
          acc.2 ++ [{ t with done := some { code := 0x0F } }])
      | _, _ => (acc.1, acc.2 ++ [t])) (s, [])
    s.setSq e.1 { (s.sq e.1) with taken := l }) s

/-- WARM_RESET_RELEASE (R265, R393, R489): the keystones restart from the retained image; plain commands and TX packets
taken and not completed complete with RESET. -/
def execWarmResetRelease (s : State) : Host.Outcome State Fault Refusal :=
  if s.chip.warm ≠ .sealed then .next s
  else
    let s := (s.sweepPlain 0x0F (fun _ => true)).sweepTx.checkDrained
    let s := [0, 1].foldl (fun s p => if s.kcRuns p then s.setKc p {} else s) s
    .next { s with chip := { s.chip with warm := .released } }

/-! ### The audit of R189 and the checks of R265 -/

/-- The bank groups that have been touched. -/
def State.touchedGroups (s : State) : List Nat :=
  let a := s.buf.free.foldl (fun l e => addOnce l e.1) []
  s.buf.link.foldl (fun l e => addOnce l (e.1 / 8192)) a

/-- The first pass (R189): a list whose count differs from the FREE cells of its group is rebuilt. -/
def State.auditLists (s : State) : State :=
  s.touchedGroups.foldl (fun s g =>
    if (s.freeRows g).length = (s.freeList g).count then s else (s.rebuildFree g).bufFault 5 (g * 8192) 0) s

/-- The cells of the allocated descriptors that `key` puts under each number. -/
def State.cellTotals (s : State) (key : Nat → FrameInfo → Desc → Option Nat) : Tbl Nat :=
  s.buf.desc.foldl (fun t e =>
    if e.2.alloc then
      match key e.1 (s.info e.1) e.2 with
      | some k => Tbl.put zeroNat t k (Tbl.get zeroNat t k + e.2.cells)
      | none => t
    else t) []

/-- A class-N fault of the audit against the state arrays of the buffer pool manager (R189). -/
def State.auditFault (s : State) : State := s.latchFault (srcChip 1 3) .n

/-- The charge of a pair split in the fill order of R186. -/
def State.splitCharge (s : State) (q n : Nat) : PairUse :=
  let res := min n (s.minOf q)
  let sh := min (n - res) (s.maxOf q - res)
  { res := res, sh := sh, hd := n - res - sh, paused := (s.pairUse q).paused }

/-- The second pass (R189): every charge counter that differs from what the descriptors say is replaced. -/
def State.auditCharges (s : State) : State :=
  let pairs := s.cellTotals (fun _ x y =>
    if x.region = .pair then some (getBits y.portinfo 9 0 * 16 + getBits y.portinfo 13 10) else none)
  let heads := s.cellTotals (fun _ x _ => if x.region = .head then some x.port else none)
  let host := Tbl.get zeroNat (s.cellTotals (fun _ x _ => if x.region = .host then some 0 else none)) 0
  let s := ((s.buf.pair.map (fun e => e.1)) ++ (pairs.map (fun e => e.1))).foldl (fun s q =>
    let u := s.splitCharge q (Tbl.get zeroNat pairs q)
    if u = s.pairUse q then s else (s.setPairUse q u).auditFault) s
  let s := ((s.buf.head.map (fun e => e.1)) ++ (heads.map (fun e => e.1))).foldl (fun s p =>
    let n := Tbl.get zeroNat heads p
    if n = s.headUse p then s else (s.setHeadUse p n).auditFault) s
  let s := (List.range 16).foldl (fun s c =>
    let n := s.buf.pair.foldl (fun n e => if e.1 % 16 = c then n + e.2.sh else n) 0
    if n = s.clsShared c then s else (s.setClsShared c n).auditFault) s
  let sh := s.buf.pair.foldl (fun n e => n + e.2.sh) 0
  let ds := (s.buf.desc.filter (fun (e : Nat × Desc) => e.2.alloc && e.2.shdesc)).length
  let s := if sh = s.buf.globSh then s else { s with buf := { s.buf with globSh := sh } }.auditFault
  let s := if ds = s.buf.globDesc then s else { s with buf := { s.buf with globDesc := ds } }.auditFault
  if host = s.buf.hostUse then s else { s with buf := { s.buf with hostUse := host } }.auditFault

/-- A class-N fault of the order keeper's check, with the pair and the sequence (R265, R432). -/
def State.orderFault (s : State) (pair : Nat) (seq : Word) : State :=
  s.latchFault (srcChip 3 5) .n (pair % 2 ^ 14 + seq.toNat * 2 ^ 14)

/-- The check of one ledger entry (R265): an ACCEPTED frame lies from RELEASE up to ASSIGN, a RELEASED one before
RELEASE; the counters are corrected. -/
def State.checkLedger (s : State) (e : LedgerEntry) : State :=
  let q := e.port * 16 + e.cls
  let o := s.order q
  match e.state with
  | .free => s
  | .accepted =>
    let s := if seqEarlier e.seq o.release then (s.setOrder q { o with release := e.seq }).orderFault q e.seq else s
    let o := s.order q
    if seqEarlier e.seq o.assign then s else (s.setOrder q { o with assign := e.seq + 1 }).orderFault q e.seq
  | .released =>
    let first (l : LedgerEntry) : Bool :=
      l.state = .accepted && l.port = e.port && l.cls = e.cls && (l.seq = e.seq || seqEarlier l.seq e.seq)
    if seqEarlier e.seq o.release || s.ord.ledger.any (fun (x : Nat × LedgerEntry) => first x.2) then s
    else
      let o' := { o with release := e.seq + 1, assign := if seqEarlier e.seq o.assign then o.assign else e.seq + 1 }
      (s.setOrder q o').orderFault q e.seq

/-- A queue entry belongs to a copy that its descriptor knows: the descriptor is allocated, the frame RELEASED, and the
copy index given out (R174, R205, R265). An entry that carries a message of its own has no descriptor. -/
def State.entryLives (s : State) (e : QEntry) : Bool :=
  !e.msg.isEmpty || ((s.desc e.desc).alloc && (s.info e.desc).released && decide (e.idx < (s.desc e.desc).nextIndex))

/-- The entry with the destination tag that the DEST of its descriptor gives (R205). -/
def State.retag (s : State) (e : QEntry) : QEntry := if e.msg.isEmpty then { e with tag := (s.desc e.desc).dest } else e

/-- An entry with a tag stands in a queue where the tag puts it: that queue's own, or a multicast group's. -/
def tagFits (q : Nat) (e : QEntry) : Bool := e.tag = q || decide (0x8000 ≤ e.tag)

/-- The check of the entries of a queue against their descriptors (R265): an entry of no live copy goes, and its pool place
with it; a tag takes the descriptor's DEST, and the entry of a unicast copy goes to the queue that DEST names. A mismatch is
a class-N fault. -/
def State.checkQueue (s : State) (q : Nat) : State :=
  let mend (l : List QEntry) : List QEntry := (l.filter s.entryLives).map s.retag
  let ahead := mend (s.aheadOf q)
  let here := mend (s.queue q)
  if ahead = s.aheadOf q && here = s.queue q && (ahead ++ here).all (tagFits q) then s
  else
    let gone := (s.aheadOf q ++ s.queue q).filter (fun e => !s.entryLives e)
    let s := (s.setQueue q (here.filter (tagFits q))).setAhead q (ahead.filter (tagFits q))
    let s := ((ahead ++ here).filter (fun e => !tagFits q e)).foldl (fun s e => s.setQueue e.tag (s.queue e.tag ++ [e])) s
    (gone.foldl (fun s e => s.freeEntry e) s).latchFault (srcChip 0x0C (dieOf (q / 16))) .n

/-- The check of all queue entries (R265). -/
def State.checkQueues (s : State) : State := s.usedQueues.foldl (fun s q => s.checkQueue q) s

/-- WARM_AUDIT_DONE (R189, R265). -/
def execWarmAuditDone (s : State) : Host.Outcome State Fault Refusal :=
  if s.chip.warm ≠ .released then .next s
  else
    let s := s.auditLists.auditCharges
    let s := (s.ord.ledger.foldl (fun s e => s.checkLedger e.2) s).checkQueues
    let s := s.setBit 0x800004 6 true
    .next { s with chip := { s.chip with warm := .audited } }

/-- The frames that still have their ARRIVAL holder. -/
def State.arrivalFrames (s : State) : List Nat :=
  s.buf.desc.filterMap (fun (e : Nat × Desc) =>
    let x := s.info e.1
    if e.2.alloc && !e.2.quar && !x.released && !x.voided then some e.1 else none)

/-- Accepted frames with an ARRIVAL holder are replayed in sequence order, and the others released with their sequences
voided (R247, R265). -/
def State.resumeFrames (s : State) : State :=
  let ds := s.arrivalFrames
  let (good, bad) := ds.partition (fun d => (s.desc d).accepted)
  let s := bad.foldl (fun s d => s.discardFrame d) s
  let s := (List.range 64).foldl (fun s g => (s.setArrivals g []).setReplays g .ingress []) s
  let s := { s with rx := { s.rx with xoff := [], overload := [] } }
  (List.range 64).foldl (fun s g => s.queueReplays g (good.filter (fun d => portGroup (s.info d).port = g))) s

/-- The scrub of every word of the stores and of every row of the tables (R90, R265): the findings name the words and rows
that did not read good, each with the copy that it is restored from. -/
def State.warmScrub (s : State) (stores : List (StoreRef × ReadCheck × Option (Fin 16)))
    (tables : List (Span × TableRef × ReadCheck × Option Span)) : State :=
  let s := stores.foldl (fun s e => s.storeScrub e.1 e.2.1 e.2.2) s
  tables.foldl (fun s e => s.tableScrub e.1 e.2.1 e.2.2.1 e.2.2.2) s

/-- The pipelines of a pass that are FAULTY after the vectors of a warm reset: those that fail, and those that were FAULTY,
which no warm reset brings back into service, except in a span whose own reset it completes (R452, R488). -/
def State.stillFaulty (s : State) (n : Nat) (pass : Pass) (broken : Bool) (failed : List Nat) : List Nat :=
  (List.range 5).filter (fun k => failed.contains k || (!broken && (s.passOf n pass).faulty.contains k))

/-- WARM_RESUME (R90, R265, R488): the stores and tables are scrubbed, vectors run through every pipeline, a span whose reset
was stopped is recopied, frames are replayed or released, and trestle contexts are resumed. -/
def execWarmResume (failed : List (Span × Pass × PipeNo)) (stores : List (StoreRef × ReadCheck × Option (Fin 16)))
    (tables : List (Span × TableRef × ReadCheck × Option Span)) (s : State) : Host.Outcome State Fault Refusal :=
  if s.chip.warm ≠ .audited then .next s
  else
    let s := s.warmScrub stores tables
    let broken := s.brokenSpans
    let donor := ((List.range 16).find? (fun n => !broken.contains n)).getD 0
    let s := broken.foldl (fun s n => s.recopySpan n donor) s
    let s := { s with chip := { s.chip with spans := [] } }
    let s := (List.range 16).foldl (fun s n =>
      let mine := failed.filterMap (fun (e : Span × Pass × PipeNo) =>
        if e.1.val = n then some (e.2.1, e.2.2) else none)
      let all (pass : Pass) : List Nat := s.stillFaulty n pass (broken.contains n) (failedOf mine pass)
      s.runVectors n (failedOf mine) all) s
    let s := (broken.foldl (fun s n => s.unfenceSpan n) s).resumeFrames
    let s := (List.range 16).foldl (fun s n => s.resumeEngine n) s
    .next { s with chip := { s.chip with warm := .resumed } }

/-- The safe state has been left by a warm reset (R445, R446, R466): ERR_D returns to 1/0 and the OP0 cap goes. -/
def State.leaveSafe (s : State) : State :=
  let s := ({ s with fc := { s.fc with errD := false }, pwr := { s.pwr with safeCap := false } })
  (if s.errDActive then s else s.emit (.pin "ERR_D" false)).capRise

/-- The state that a warm reset returns to: the one it left, or START-UP after START-UP and SAFE (R485). -/
def stateAfter (prev : Nat) : DevState := if prev = 2 then .service else if prev = 3 then .test else .startUp

/-- Both telemetry banks are empty (R286, R489). -/
def State.emptyBanks (s : State) : State :=
  let s := s.telRoll
  { s with tel := { s.tel with histFrozen := [], digFrozen := [] } }

/-- Viaduct senders resume from UNA (R225, R265). -/
def State.resumeLinks (s : State) : State :=
  s.via.links.foldl (fun s e => s.retransmitFrom e.1 (s.viaLink e.1).una) s

/-- Reset hold ends everywhere but where no pipeline serves, and the host's packets go on (R265). -/
def State.endHolds (s : State) : State := ((List.range 64).foldl (fun s g => s.endHold g) s).releaseHost

/-- Buffers read ahead are read again after a warm reset (R398). -/
def State.forgetBuffers (s : State) : State :=
  { s with hq := { s.hq with sq := s.hq.sq.map (fun (e : Nat × SqRec) => (e.1, { e.2 with bufs := [] })) } }

/-- Traffic is released (R265): reset hold ends, and viaduct senders resume from UNA. -/
def State.releaseTraffic (s : State) : State := s.resumeLinks.endHolds

/-- The end of a warm reset that the device entered from the state of a code (R265, R485): in START-UP, traffic waits until
software moves the device on. -/
def State.warmEnd (s : State) (prev : Nat) : State :=
  let s := { s with chip := { s.chip with mode := stateAfter prev, warm := .none } }
  let s := s.forgetBuffers.emptyBanks.advanceSlots
  let s := if prev = 5 then s.leaveSafe else s
  if stateAfter prev = .startUp then s else s.releaseTraffic

/-- WARM_RESET_END (R265, R286, R324, R485): the device returns to the state that it left, or to START-UP with its hold
kept; viaduct senders resume from UNA, both telemetry banks are empty, and slots advance. -/
def execWarmResetEnd (s : State) : Host.Outcome State Fault Refusal :=
  .next (if s.chip.warm ≠ .resumed then s else s.warmEnd (s.fld 0x4 7 4))

/-! ### Cold reset, power and RESET_N (R485, R487, R489, R494) -/

/-- The device as a cold reset leaves it: fuses, MRAM and flash stay, and so does what is outside the device (R489). The
write buffer must have been programmed before; the checkpoints that the log holds still cover what they cover (R270,
R282). -/
def State.coldReset (s : State) (cause : Nat) (mode : DevState) : State :=
  let fresh : State := {}
  let s' : State := { fresh with
    pending := s.pending
    readData := s.readData
    hostMem := s.hostMem
    emitted := s.emitted
    freeCount := s.freeCount
    chip := { mode := mode, strap0 := s.chip.strap0, badFuses := s.chip.badFuses }
    progs := { ownerHash := s.progs.ownerHash, ownerEn := s.progs.ownerEn, revoked0 := s.progs.revoked0,
               revoked1 := s.progs.revoked1, vk0 := s.progs.vk0, vk1 := s.progs.vk1 }
    jrn := { log := s.jrn.log, bad := s.jrn.bad, slot := s.jrn.slot, nextLsn := s.jrn.programmed,
             programmed := s.jrn.programmed }
    boot := { flash := s.boot.flash, held := s.boot.held, noSupply := s.boot.noSupply, railsOut := s.boot.railsOut } }
  (s'.readCheckpoints.setFld 0x10 3 0 cause).emit (.pin "ERR_D" true)

/-- COLD is written 1, or RESET_N goes low (R487): the write buffer is programmed, and the device is OFF. -/
def State.coldRequest (s : State) (cause : Nat) : State := s.flushJournal.coldReset cause .off

/-- A write of CHIP_RESET (R487, R503): a wrong KEY, or more than one request, is ignored with a class-N fault. -/
def State.writeReset (s : State) (value : Word) : State :=
  let n := getBits value 0 0 + getBits value 1 1 + getBits value 2 2
  if s.chip.mode = .off then s
  else if getBits value 31 16 ≠ 0x5EA7 ∨ 1 < n then s.refusedWrite 0xC
  else if getBits value 0 0 = 1 then s.coldRequest 3
  else if getBits value 1 1 = 1 then s.warmRequest 2 (0xC + 2 ^ 26)
  else if getBits value 2 2 = 1 then s.spanRequest (getBits value 7 4)
  else s

/-- SPAN_RESET_REQUEST (R263, R487): the word of CHIP_RESET. -/
def execSpanResetRequest (value : Word) (s : State) : Host.Outcome State Fault Refusal := .next (s.writeReset value)

/-- WARM_RESET_REQUEST (R265, R487): the word of CHIP_RESET. -/
def execWarmResetRequest (value : Word) (s : State) : Host.Outcome State Fault Refusal := .next (s.writeReset value)

/-- COLD_RESET_REQUEST (R487): the word of CHIP_RESET. -/
def execColdResetRequest (value : Word) (s : State) : Host.Outcome State Fault Refusal := .next (s.writeReset value)

/-- RESET_N_ASSERT (R485, R487): a cold reset with cause RESET_N; without supply there is nothing left to reset. -/
def execResetNAssert (s : State) : Host.Outcome State Fault Refusal :=
  if s.boot.held then .next s
  else
    let s := { s with boot := { s.boot with held := true } }
    if s.boot.noSupply then .next s else .next (s.coldRequest 2)

/-- START-UP begins (R437, R465, R485, R502): the self-test of the collector runs, and the fuses are read. -/
def State.startUp (s : State) : State :=
  let s := { s with chip := { s.chip with mode := .startUp } }
  let s := if s.chip.badFuses ≠ 0 then s.latchFault (srcChip 0 2) .s else s
  s.calibrate

/-- The main supply has failed, or a rail is outside its limits (R485, R511). -/
def State.noPower (s : State) : Bool := s.boot.noSupply || !s.boot.railsOut.isEmpty

/-- RESET_N_RELEASE (R494, R511, R515): the straps are sampled; with a rail out of limits the device stays in OFF. -/
def execResetNRelease (strap0 : Bool) (badFuses : BitVec 8) (s : State) : Host.Outcome State Fault Refusal :=
  if s.chip.mode ≠ .off then .next s
  else
    let s := { s with
      boot := { s.boot with held := false }
      chip := { s.chip with strap0 := strap0, badFuses := badFuses } }
    if s.noPower then .next s else .next s.startUp

/-- RAIL_FAULT (R507, R511): a rail leaves its limits, or comes in. With RESET_N high outside OFF, VIO or VSRAM is a failure
of the main supply, VCORE is seen by droop and PMBus alone, and the SerDes rails take links down. With RESET_N low the rail
is only kept in mind; in OFF the device starts, as at a cold reset, once the last rail is in. -/
def execRailFault (rail : Rail) (uv : Nat) (ports : List Port) (s : State) : Host.Outcome State Fault Refusal :=
  let good := railGood rail uv (s.pwr.target25 * 2500)
  let waited := decide (s.chip.mode = .off) && !s.boot.held && !s.boot.noSupply && !s.boot.railsOut.isEmpty
  let rest := s.boot.railsOut.filter (fun r => r ≠ rail)
  let s := { s with boot := { s.boot with railsOut := if good then rest else rail :: rest } }
  if waited && s.boot.railsOut.isEmpty then .next s.startUp
  else if s.boot.held || s.chip.mode = .off || good then .next s
  else
    match rail with
    | .vio | .vsram => .next s.supplyFails
    | .vcore => .next s
    | .vsdA | .vsdT => .next (ports.foldl (fun (s : State) (p : Port) => s.linkFails p.val) s)

/-- POWER_ON (R485, R487, R511): the supplies come in: everything but fuses, MRAM and flash is lost; with RESET_N high the
device starts. -/
def execPowerOn (s : State) : Host.Outcome State Fault Refusal :=
  if s.chip.mode ≠ .off ∨ !s.noPower then .next s
  else
    let s := { s with boot := { s.boot with noSupply := false, railsOut := [] } }.coldReset 1 .off
    if s.boot.held then .next s else .next s.startUp

end Sys2Proof.Machine
end

