-- ==== Sys2Proof/Machine/Boot.lean ====
section
/-! DEFINITION. The boot from RESET_N release to READY, with its trial and its fall-back (R437, R494 to R496, R500, R504),
and the moves between the states (R485, R486). -/

namespace Sys2Proof.Machine

/-! ### Choosing a bank (R494) -/

def State.bootPhase (s : State) : Nat := s.fld 0x800 31 28
def State.setPhase (s : State) (n : Nat) : State := s.setFld 0x800 31 28 n

/-- The ROM boots a bank (R494). -/
def State.tryBank (s : State) (bank : Nat) (trial : Bool) : State :=
  ({ s with boot := { s.boot with bank := bank, trial := trial, starting := false } }).showBcb.setPhase 1

/-- The ROM chooses a bank from the governing record (R494). -/
def State.chooseBank (s : State) : State :=
  let b := s.bcb
  if b.trial < 2 then
    (s.appendBcb true { b with trial := 0xFF, fail := 4 }).tryBank b.active false
  else if b.pending < 2 then
    (s.appendBcb true { b with trial := b.pending, pending := 0xFF }).tryBank b.pending true
  else s.tryBank b.active false

/-- COLLECTOR_SELFTEST_DONE (R437, R494): ERR_D reads 1/0, and the ROM may read the flash; or SAFE with cause SELFTEST. -/
def execCollectorSelftestDone (passed : Bool) (s : State) : Host.Outcome State Fault Refusal :=
  if s.chip.mode ≠ .startUp ∨ s.fc.selfTest then .next s
  else if passed then
    let s := { s with fc := { s.fc with selfTest := true } }
    .next ((if s.errDActive then s else s.emit (.pin "ERR_D" false)).chooseBank)
  else .next (s.enterSafe 0 0x0B)

/-! ### Verifying and starting (R493, R495) -/

/-- A boot fails with a part and a cause (R495): a trial falls back to ACTIVE, a failed ACTIVE to the other bank, and with
both failed the ROM stays in LOADER. -/
def State.bootFails (s : State) (part cause : Nat) : State :=
  let f := part * 16 + cause
  let b := s.bcb
  let s := if s.boot.trial then s.appendBcb true { b with trial := 0xFF, fail := f } else s
  let tried := addOnce s.boot.tried s.boot.bank
  let s := { s with boot := { s.boot with
    tried := tried, failed := some (s.boot.failed.getD f), starting := false, trial := false } }
  let next := if s.boot.bank = b.active then 1 - b.active else b.active
  if tried.contains next then s.showBcb.setPhase 5 else s.tryBank next false

/-- The first part, in entry order, that cannot be read or whose digest differs, with the cause (R495); `i` is the place
of the first entry of the list, and `unread` that of the part whose read fails, each counted from 1. -/
def State.badPart (s : State) (unread : Option Nat) : Nat → List Part → Option (Nat × Nat)
  | _, [] => none
  | i, p :: t =>
    if unread = some i then some (p.type, 6)
    else if !s.partSound s.boot.bank p then some (p.type, 3)
    else s.badPart unread (i + 1) t

/-- BOOT_VERIFY_DONE (R493, R495): the ROM has verified the manifest of the chosen bank, and then each part in entry
order; `unread` is the read that the flash has not answered: 0 the manifest, i entry i − 1. -/
def execBootVerifyDone (unread : Option (Fin 7)) (s : State) : Host.Outcome State Fault Refusal :=
  if s.chip.mode ≠ .startUp ∨ s.bootPhase ≠ 1 then .next s
  else if unread = some 0 then .next (s.bootFails 0 6)
  else if !s.manifestSigned s.boot.bank then .next (s.bootFails 0 1)
  else if !s.manifestFormat s.boot.bank then .next (s.bootFails 0 2)
  else
    match s.badPart (unread.map Fin.val) 1 (s.manifestParts s.boot.bank) with
    | some f => .next (s.bootFails f.1 f.2)
    | none => .next (({ s with boot := { s.boot with starting := true } }).setPhase 2)

/-- BOOT_START_TIMEOUT (R495): a part has not reported started within 500 ms. -/
def execBootStartTimeout (part : BitVec 4) (s : State) : Host.Outcome State Fault Refusal :=
  if s.chip.mode = .startUp ∧ s.boot.starting ∧ s.bootPhase ≠ 3 then .next (s.bootFails part.toNat 4) else .next s

/-! ### Settings (R499, R500) -/

/-- What becomes of the settings record at a start. -/
inductive SettingsFate where
  | applied | migrated | unusable | none
deriving DecidableEq, Repr

/-- The first applicable row of R500. -/
def State.settingsFate (s : State) : SettingsFate :=
  let b := s.settingsAt s.bcb.slot
  let have_ := settingsSchemaOf b
  let want := s.runningSchema
  if s.slotEmpty 0 && s.slotEmpty 1 then .none
  else if !settingsSound b then .unusable
  else if have_ = want then .applied
  else if have_ < want ∧ want / 256 ≤ have_ / 256 + 1 then .migrated
  else .unusable

/-- The body of a settings record. -/
def settingsBody (b : List Byte) : List Byte := (b.drop 32).take (leNat (sliceBytes b 0x10 4))

/-- The bytes of a settings record with a new schema and body (R499). -/
def settingsRecord (old : List Byte) (schema version : Nat) (body : List Byte) : List Byte :=
  let h := leBytes 4 0x53544753 ++ leBytes 2 schema ++ [0, 0] ++ leBytes 4 version ++ sliceBytes old 0x0C 4
    ++ leBytes 4 body.length ++ leBytes 4 0 ++ leBytes 4 0
  h ++ leBytes 4 (crc32c (h ++ body)).toNat ++ body

/-- One register that the settings carry: a user calibration, the configuration of a lane, or another (R499). -/
def State.writeSetting (s : State) (off : Nat) (value : Word) : State :=
  let o := off / 4 * 4
  if isCalibration o then s.writeCalibration o value
  else if 0x2000000 ≤ o ∧ o < 0x2400000 ∧ o % 0x1000 = 0 ∧ getBits value 31 31 = 1 then
    match execPortEnable (Fin.ofNat 1024 ((o - 0x2000000) / 0x1000)) value s with
    | .next t => t
    | _ => s
  else s.writePlain o value

/-- The configuration that the settings carry is written (R499, assumption 87). -/
def State.applySettings (s : State) (body : List Byte) : State :=
  (Config.settingsWrites (BitVec.ofNat 16 s.runningSchema) body).foldl (fun s w => s.writeSetting w.1 w.2) s

/-- The settings of this start (R500). -/
def State.useSettings (s : State) : State :=
  let k := s.bcb.slot
  let b := s.settingsAt k
  let s := { s with boot := { s.boot with slot := k } }
  match s.settingsFate with
  | .applied => (s.setBit 0x800 15 false).applySettings (settingsBody b)
  | .migrated =>
    let body := (Config.migrated (BitVec.ofNat 16 (settingsSchemaOf b)) (BitVec.ofNat 16 s.runningSchema)
      (settingsBody b)).take 1048544
    let other := 1 - k % 2
    let rec_ := settingsRecord b s.runningSchema (s.setVersion s.boot.bank) body
    let s := (s.flashErase (slotBase other) slotSize).flashProgram (slotBase other) rec_
    let s := ({ s with boot := { s.boot with slot := other } }).setBit 0x800 26 true
    s.applySettings body
  | _ => s.setBit 0x800 15 true

/-! ### READY (R98, R496) -/

/-- The bytes of a part of the bank that boots. -/
def State.partBytes (s : State) (type : Nat) : List Byte :=
  match (s.manifestParts s.boot.bank).find? (fun p => p.type = type) with
  | some p => s.flashBytes (bankBase s.boot.bank + p.offset) p.len
  | none => []

/-- The version of a part of the bank that boots. -/
def State.partVersion (s : State) (type : Nat) : Nat :=
  match (s.manifestParts s.boot.bank).find? (fun p => p.type = type) with
  | some p => p.version
  | none => 0

/-- Step 9 of the keystone's load, which writes both generations (R98, R103). -/
def State.vendorLoaded (s : State) (version : Nat) : State :=
  let s := (s.setFld 0x100 23 0 version).setFld 0x10C 23 0 version
  let s := (s.setReg 0x104 0).setReg 0x110 0
  (((s.setShadow 2).incSat 0x108 31 16 1).loadStatus 2 .ok {}).irq 0

/-- A copy fails its read-back (R98, step 8): DAMAGED, READBACK, and a class-S fault against its pipeline. -/
def State.readbackFails (s : State) (c : Span × Pass × PipeNo) : State :=
  ((s.setShadow 4).loadFails .readback {}).latchFault (srcSpan c.1 (pipeBlock c.2.1 c.2.2) 0x3F) .s

/-- The keystone loads the vendor image with the checks of every load (R98): the state, and whether it is loaded. -/
def State.loadVendor (s : State) (badCopy : Option (Span × Pass × PipeNo)) : State × Bool :=
  let s := { s with progs := { s.progs with loadCust := false } }
  let img := s.partBytes 2
  let r := s.checkImage img
  if r.1 ≠ .ok then (s.loadFails r.1 r.2, false)
  else
    let s := (s.writeImage false false img).writeImage true false img
    match badCopy with
    | none => (s.vendorLoaded (imageHeader img).version, true)
    | some c => (s.readbackFails c, false)

/-- BOOT_ALT_VER (R504): 0 when the other bank's manifest is not valid. -/
def State.showOther (s : State) : State :=
  let o := 1 - s.boot.bank
  let valid := s.manifestFormat o && s.manifestSigned o
  s.setReg 0x808 (BitVec.ofNat 32 (if valid then s.setVersion o % 2 ^ 24 else 0))

/-- The record that READY appends (R495, R496): after a trial, and when the bank is not the one that ACTIVE names. -/
def State.readyRecord (s : State) : State :=
  let b := s.bcb
  if s.boot.trial then s.appendBcb false { b with active := s.boot.bank, trial := 0xFF, slot := s.boot.slot }
  else if s.boot.bank ≠ b.active then
    s.appendBcb false { b with
      active := s.boot.bank, trial := 0xFF, slot := s.boot.slot, fail := s.boot.failed.getD 0 }
  else s

/-- The bank and the version of the running set (R504). -/
def State.showRunning (s : State) : State :=
  (s.setBit 0x800 25 (s.boot.bank = 1)).setReg 0x804 (BitVec.ofNat 32 (s.setVersion s.boot.bank % 2 ^ 24))

/-- Every part has reported started. -/
def State.partsStarted (s : State) : State := { s with boot := { s.boot with starting := false, trial := false } }

/-- The device is READY with its vendor image loaded (R270, R465, R496, R500). -/
def State.becomeReady (s : State) : State :=
  let s := (s.setFld 0x700008 23 0 (s.partVersion 1)).useSettings
  let s := s.readyRecord.showBcb.showRunning.showOther.partsStarted
  ((s.setPhase 4).journalRecovery).schedulePoint

/-- The settings are read and applied, or a trial fails with them (R495, R500). -/
def State.settingsStage (s : State) : State :=
  if s.boot.trial ∧ s.settingsFate = .unusable then s.bootFails 6 5 else s.becomeReady

/-- BOOT_READY (R496, R500, R504): every part has started and the vendor image is loaded, which leaves PHASE at SETTINGS;
once the settings are there as well the device is READY. A vendor image that fails a check of its load or its read-back
ends the load in ERROR, and the device does not become READY: DESIGN CHOICE, R495 names no cause for it (assumption
118). -/
def execBootReady (badCopy : Option (Span × Pass × PipeNo)) (settings : Bool) (s : State) :
    Host.Outcome State Fault Refusal :=
  if s.chip.mode ≠ .startUp ∨ !s.boot.starting then .next s
  else if s.bootPhase = 3 then (if settings then .next s.settingsStage else .next s)
  else
    let y := s.loadVendor badCopy
    if !y.2 then .next y.1
    else if settings then .next (y.1.setPhase 3).settingsStage
    else .next (y.1.setPhase 3)

/-! ### The loader (R495) -/

/-- In LOADER the ROM answers INFO and UPDATE over MGMT frames: it programs what the request asks for, which is never the
bank that ACTIVE names, and sends its answer (R495, R497, assumption 124). -/
def State.loaderMgmt (s : State) (n : Nat) (payload : List Byte) : State :=
  let ws := Config.loaderProgram payload
  let s := ws.foldl (fun s w => s.flashProgram (bankBase s.inactive + w.1 % bankSize) [w.2]) s
  { s.pierSend n 0x10 (Config.loaderReply s.freeCount payload) with freeCount := s.freeCount + 1 }

/-- MGMT (R356): a management frame is passed to the keystone service; in LOADER the ROM answers it. -/
def execMgmt (n : Four) (payload : List Byte) (s : State) : Host.Outcome State Fault Refusal :=
  if s.fld (0x2400004 + n.val * 0x100) 31 29 ≠ 5 then .next s
  else
    let s := { s with ks := { s.ks with mgmt := (n.val, payload) :: s.ks.mgmt } }
    if s.bootPhase = 5 then .next (s.loaderMgmt n payload) else .next s

/-! ### Moving between the states (R485, R486) -/

/-- The first cause for which a GOTO is refused (R486); 0: it is accepted. -/
def State.gotoCause (s : State) (target : DevState) : Nat :=
  let legal := match s.chip.mode, target with
    | .startUp, .service | .test, .service | .startUp, .test | .service, .test => true
    | _, _ => false
  if s.bootPhase ≠ 4 then 1
  else if !s.fc.selfTest then 2
  else if target = .service ∧ !s.chip.committed then 3
  else if target = .service ∧ (s.fc.inj = .keyed ∨ s.fc.inj = .armed) then 4
  else if !legal then 5
  else 0

/-- A GOTO is refused (R486, R503). -/
def State.gotoRefused (s : State) (cause : Nat) : State := (s.setBit 0x8 31 true).setFld 0x8 11 8 cause

/-- The device moves to SERVICE or TEST (R265, R462, R485): traffic is released when it leaves START-UP, and the pin test
acts in TEST only. -/
def State.goto (s : State) (target : DevState) : State :=
  let c := s.gotoCause target
  if c ≠ 0 then s.gotoRefused c
  else
    let wasD := s.errDActive
    let wasS := s.errSActive
    let up := decide (s.chip.mode = .startUp)
    let s := { s with chip := { s.chip with mode := target } }
    let s := if target = .service then s.setBit 0x100018 31 false else s
    let s := s.settlePins wasD wasS
    if up then s.releaseTraffic else s

/-- GOTO_SERVICE (R486). -/
def execGotoService (s : State) : Host.Outcome State Fault Refusal := .next (s.goto .service)

/-- GOTO_TEST (R486). -/
def execGotoTest (s : State) : Host.Outcome State Fault Refusal := .next (s.goto .test)

end Sys2Proof.Machine
end

