-- ==== Sys2Proof/Machine/Guard.lean ====
section
/-! DEFINITION. The guard units: check values over device space and host memory (R419 to R421, R425, R426). -/

namespace Sys2Proof.Machine

/-! ### The check value (R419) -/

/-- The bits of a value reversed within a width. -/
def reflectBits (v w : Nat) : Nat := (List.range w).foldl (fun n i => 2 * n + v / 2 ^ i % 2) 0

/-- One bit of the division. -/
def checkShift (w poly crc : Nat) : Nat := (if crc / 2 ^ (w - 1) % 2 = 1 then (2 * crc) ^^^ poly else 2 * crc) % 2 ^ w

/-- One byte into the check value. -/
def checkByte (w poly : Nat) (refin : Bool) (crc : Nat) (b : Byte) : Nat :=
  let x := if refin then reflectBits b.toNat 8 else b.toNat
  (List.range 8).foldl (fun c _ => checkShift w poly c) (crc ^^^ (x * 2 ^ (w - 8)))

/-- The check value of a stream of bytes under the parameters of a unit (R419). -/
def checkValue (w poly init xorout : Nat) (refin refout : Bool) (bs : List Byte) : Nat :=
  let crc := bs.foldl (checkByte w (poly % 2 ^ w) refin) (init % 2 ^ w)
  (if refout then reflectBits crc w else crc) ^^^ (xorout % 2 ^ w)

/-! ### Units -/

def guOff (u : Nat) : Nat := 0x600000 + u * 0x40

/-- The width of a unit: a value outside 8 to 64 acts as the nearer limit (R425). -/
def State.guWidth (s : State) (u : Nat) : Nat := min 64 (max 8 (s.fld (guOff u) 31 25))

/-- The bytes that the fold word feeds (R419, R420, R425). -/
def State.guFold (s : State) (u : Nat) : List Byte :=
  leBytes (min 8 (s.fld (guOff u) 22 19)) (s.addr64 (guOff u + (if s.bit (guOff u) 18 then 0x30 else 0x28)))

/-- End a scan in a state with a cause (R425). -/
def State.guEnd (s : State) (u st cause : Nat) : State := s.setReg (guOff u + 8) (BitVec.ofNat 32 (st * 2 ^ 30 + cause * 2 ^ 28))

/-- End a scan with its check value. -/
def State.guDone (s : State) (u : Nat) (data : List Byte) : State :=
  let o := guOff u
  let v := checkValue (s.guWidth u) (s.addr64 (o + 0x10)) (s.addr64 (o + 0x18)) (s.addr64 (o + 0x20)) (s.bit o 24)
    (s.bit o 23) (s.guFold u ++ data)
  ((s.setReg (o + 0x38) (BitVec.ofNat 32 v)).setReg (o + 0x3C) (BitVec.ofNat 32 (v / 2 ^ 32))).guEnd u 2 0

/-- Bytes of device space as a scan reads them: through MC_WIN_SEL as it stood when the scan started, past the holding
copy of the window (R420). -/
def State.guBytes (s : State) (u addr len : Nat) : List Byte :=
  let t := s.setReg 0x180 (Tbl.get oneWord s.ks.guSel u)
  let t := { t with progs := { t.progs with captured := none } }
  (List.range len).map (fun i => t.readByte (addr + i))

/-- The unit belongs to the host (R421, R426). -/
def State.guHosts (s : State) (u : Nat) : Bool := s.bit 0x600400 u

/-- A scan starts with what the unit's registers hold. SPACE 2 is the firmware's, and SPACE 3 is no space (R420, R421). -/
def State.guStart (s : State) (u : Nat) (firmware : Bool) : State :=
  if (if firmware then 3 else 2) ≤ s.fld (guOff u) 17 16 then s.guEnd u 3 3
  else ({ s with ks := { s.ks with guSel := Tbl.put oneWord s.ks.guSel u (s.reg 0x180) } }).guEnd u 1 0

/-- GU_SCAN_START by the firmware: it sets the registers of a unit of its own that is not BUSY, and starts it. -/
def State.guFirmware (s : State) (u : Nat) (ws : List (Fin 16 × Word)) (start : Bool) : State :=
  if s.guHosts u || s.fld (guOff u + 8) 31 30 = 1 then s
  else
    let s := ws.foldl (fun s w => s.writeOrdinary (guOff u + 4 * w.1.val) w.2) s
    if start then s.guStart u true else s

/-- GU_SCAN_START (R420, R421): the word of GU_u_CTRL with START set; a write of the host to a unit of the firmware is
refused whatever it sets, and one to a BUSY unit when it sets START. -/
def execGuScanStart (u : Fin 16) (value : Word) (firmware : Option (List (Fin 16 × Word))) (s : State) :
    Host.Outcome State Fault Refusal :=
  let o := guOff u
  let start := decide (getBits value 0 0 = 1)
  match firmware with
  | some ws => .next (s.guFirmware u ws start)
  | none =>
    if s.closed o then .next s
    else if !s.guHosts u then .next (s.refusedWrite (o + 4))
    else if !start then .next s
    else if s.guRefuses o then .next (s.refusedWrite (o + 4))
    else .next (s.guStart u false)

/-- GU_SCAN_ABORT (R421, R425): the word of GU_u_CTRL with ABORT set. -/
def execGuScanAbort (u : Fin 16) (value : Word) (firmware : Bool) (s : State) : Host.Outcome State Fault Refusal :=
  let o := guOff u
  if !firmware && s.closed o then .next s
  else if !firmware && !s.guHosts u then .next (s.refusedWrite (o + 4))
  else if getBits value 1 1 = 0 ∨ (firmware ∧ s.guHosts u) then .next s
  else if s.fld (o + 8) 31 30 = 1 then .next (s.guEnd u 3 1)
  else .next s

/-- GU_SCAN_DONE (R419, R420): a scan of device space reads the registers as they stand; one of host memory or of
management space has read `data`; one of host memory that has read none ended in a DMA error. -/
def execGuScanDone (u : Fin 16) (data : Option (List Byte)) (s : State) : Host.Outcome State Fault Refusal :=
  let o := guOff u
  let len := (s.reg (o + 0xC)).toNat
  if s.fld (o + 8) 31 30 ≠ 1 then .next s
  else if s.fld o 17 16 = 0 then .next (s.guDone u (s.guBytes u (s.addr64 (o + 0x30)) len))
  else
    match data with
    | none => if s.fld o 17 16 = 1 then .next (s.dmaErr.guEnd u 3 2) else .next s
    | some bs => .next (s.guDone u (sliceBytes bs 0 len))

end Sys2Proof.Machine
end

