-- ==== Sys2Proof/Machine/TableService.lean ====
section
/-! DEFINITION. The TABLE service: entry records, placement in every kind of table, and its five functions (R109, R140,
R152 to R158, R415 to R417). A request is one trestle routine: it takes effect in every replica or in none. -/

namespace Sys2Proof.Machine

/-! ### Records and arguments (R416) -/

/-- An entry record of 192 bytes. -/
structure EntryRecord where
  key    : List Byte
  mask   : List Byte
  len    : Nat
  words  : List Nat
  action : Nat
  row    : Nat
  clean  : Bool
deriving DecidableEq, Repr

def entryRecord (b : List Byte) : EntryRecord := {
  key := sliceBytes b 0 64, mask := sliceBytes b 64 64, len := (b.getD 128 0).toNat,
  words := (List.range 4).map (fun k => leNat (sliceBytes b (132 + 4 * k) 4)), action := leNat (sliceBytes b 148 2),
  row := leNat (sliceBytes b 160 32),
  clean := zeroBytes b 129 131 && zeroBytes b 150 159 }

/-- The 192 bytes of a record. -/
def EntryRecord.bytes (x : EntryRecord) : List Byte :=
  sliceBytes x.key 0 64 ++ sliceBytes x.mask 0 64 ++ [BitVec.ofNat 8 x.len, 0, 0, 0]
    ++ (List.range 4).flatMap (fun k => leBytes 4 (x.words.getD k 0)) ++ leBytes 2 x.action ++ List.replicate 10 0
    ++ leBytes 32 x.row

/-- The arguments of a TABLE command. -/
structure TableArgs where
  table  : Nat
  setA   : Bool
  setB   : Bool
  static : Bool
  span   : Nat
  index  : Nat
  addr   : Nat
  /-- the request reached its engine while a joint was armed (R112) -/
  late   : Bool := false
deriving DecidableEq, Repr

def Call.tableArgs (c : Call) : TableArgs :=
  let f := c.arg 13 1
  { table := c.arg 12 1, setA := f % 2 = 1, setB := f / 2 % 2 = 1, static := f / 4 % 2 = 1, span := c.arg 14 1,
    index := c.arg 16 4, addr := c.arg 24 8 }

/-- The DETAIL codes of R417. -/
def noSpace : Nat := 1
def notFound : Nat := 2
def entryExists : Nat := 3
def genBusyCode : Nat := 4
def badTable : Nat := 5
def badEntry : Nat := 6
def spanDown : Nat := 7

/-- The V bits of FLAGS as a control word. -/
def TableArgs.vWord (a : TableArgs) : Word := BitVec.ofNat 32 (a.setA.toNat * 2 ^ 31 + a.setB.toNat * 2 ^ 30)

/-- A control word is valid in a generation that FLAGS names. -/
def TableArgs.names (a : TableArgs) (ctl : Word) : Bool := ctl &&& a.vWord ≠ 0

/-- The control word of a new entry. -/
def TableArgs.ctl (a : TableArgs) (len : Nat) : Nat :=
  a.vWord.toNat + a.static.toNat * 2 ^ 24 + len % 256 * 2 ^ 16

/-- What a request answers: a state with the change made, or a DETAIL code. -/
inductive TableResult where
  | ok (s : State)
  | fail (detail : Nat)

/-! ### Rows written in every replica -/

/-- Write an SRAM row in every span that takes part. -/
def State.rowAll (s : State) (unit row v : Nat) : State :=
  s.spansUp.foldl (fun s n => s.setSram n unit row v) s

/-- Replace part of an SRAM row, from bit `lo` on, in every span that takes part. -/
def State.fieldAll (s : State) (unit row lo width v : Nat) : State :=
  s.spansUp.foldl (fun s n =>
    let r := s.sram n unit row
    s.setSram n unit row (r - r / 2 ^ lo % 2 ^ width * 2 ^ lo + v % 2 ^ width * 2 ^ lo)) s

/-- The span that answers for all replicas. -/
def State.refSpan (s : State) : Nat := s.serviceSpan

/-! ### Exact tables (R152) -/

/-- The rows of an exact entry, first row first. -/
def exactRows (g : Geometry) (ctl : Nat) (words : List Nat) (key : List Byte) : List Nat :=
  let w := if g.width = 1 then 12 else if g.width = 2 then 44 else 76
  let k := beNat (sliceBytes key 0 w)
  let lw := (List.range 4).foldl (fun n i => n * 2 ^ 32 + words.getD i 0) 0
  (List.range g.width).map (fun i =>
    if i = 0 then ctl * 2 ^ 224 + lw * 2 ^ 96 + k / 2 ^ (256 * (g.width - 1))
    else k / 2 ^ (256 * (g.width - 1 - i)) % 2 ^ 256)

/-- Write the rows of an entry at a slot in every replica. -/
def State.writeSlot (s : State) (slot : Nat × Nat) (rows : List Nat) : State :=
  (List.range rows.length).foldl (fun s i => s.rowAll (slot.1 + i) slot.2 (rows.getD i 0)) s

/-- The candidate slots of a key. -/
def State.candidates (s : State) (t : Nat) (g : Geometry) (key : List Byte) : List (Nat × Nat) :=
  let h := s.exactHash s.refSpan (Config.tableHsel t % 8) key
  (List.range 4).map (fun j => exactSlot g h j)

def State.slotCtl (s : State) (slot : Nat × Nat) : Word := BitVec.ofNat 32 (ctlWord (s.sram s.refSpan slot.1 slot.2))

/-- Both V bits of the slot are 0. -/
def State.slotFree (s : State) (slot : Nat × Nat) : Bool := (s.slotCtl slot).toNat / 2 ^ 30 = 0

/-- The key that a slot holds. -/
def State.slotKey (s : State) (g : Geometry) (slot : Nat × Nat) : List Byte :=
  let w := if g.width = 1 then 12 else if g.width = 2 then 44 else 76
  (beBytes w (s.exactKey s.refSpan g slot.1 slot.2)).take g.keyBytes

/-- The slot that holds a key valid in a named generation. -/
def State.findExact (s : State) (t : Nat) (g : Geometry) (a : TableArgs) (key : List Byte) : Option (Nat × Nat) :=
  (s.candidates t g key).find? (fun x => a.names (s.slotCtl x) && s.slotKey g x = key)

/-- Copy an entry from one slot to another in every replica, with each replica's own HIT, then free the first: a cuckoo
move (R121). -/
def State.moveEntry (s : State) (g : Geometry) (src dst : Nat × Nat) : State :=
  let s := s.spansUp.foldl (fun s n =>
    (List.range g.width).foldl (fun s i => s.setSram n (dst.1 + i) dst.2 (s.sram n (src.1 + i) src.2)) s) s
  s.fieldAll src.1 src.2 254 2 0

/-- A breadth-first search for a path of moves to a free slot: each path lists the slots from the one last reached back
to a candidate; at most 32 moves (R417). -/
def State.cuckooPath (s : State) (t : Nat) (g : Geometry) :
    Nat → List (List (Nat × Nat)) → List (Nat × Nat) → Option (List (Nat × Nat))
  | 0, _, _ => none
  | _, [], _ => none
  | n + 1, p :: rest, seen =>
    match p with
    | [] => State.cuckooPath s t g n rest seen
    | x :: _ =>
      if s.slotFree x then some p
      else if 33 ≤ p.length then State.cuckooPath s t g n rest seen
      else
        let next := (s.candidates t g (s.slotKey g x)).filter (fun y => !seen.contains y)
        State.cuckooPath s t g n (rest ++ next.map (fun y => y :: p)) (seen ++ next)

/-- Carry out the moves of a path; the slot that becomes free. -/
def State.cuckooMoves (s : State) (g : Geometry) : List (Nat × Nat) → State × (Nat × Nat)
  | [] => (s, (0, 0))
  | [x] => (s, x)
  | x :: y :: t => State.cuckooMoves (s.moveEntry g y x) g (y :: t)

def State.insertExact (s : State) (t : Nat) (g : Geometry) (a : TableArgs) (x : EntryRecord) : TableResult :=
  let key := x.key.take g.keyBytes
  if (s.findExact t g a key).isSome then .fail entryExists
  else
    let cs := s.candidates t g key
    match s.cuckooPath t g (8192 * g.m + 1) (cs.map (fun c => [c])) cs with
    | none => .fail noSpace
    | some p =>
      let (s, slot) := s.cuckooMoves g p
      .ok (s.writeSlot slot (exactRows g (a.ctl 0) x.words key))

/-! ### LPM tables (R153, R154) -/

/-- A prefix: its key bits left-aligned in the key's width, and its length. -/
structure LpmPrefix where
  key : Nat
  len : Nat
deriving DecidableEq, Repr

def Geometry.keyBits (g : Geometry) : Nat := 8 * g.keyBytes

/-- BUCKET of root entry i, when it is VALID. -/
def State.rootBucket (s : State) (g : Geometry) (i : Nat) : Option Nat :=
  let row := s.sram s.refSpan (g.sramFirst + i / 16384) (i % 16384 / 8)
  let e := bitsOf row (255 - 32 * (i % 8)) (224 - 32 * (i % 8))
  if e / 2 ^ 31 = 1 then some (e % 65536) else none

/-- FLIP a root entry to a bucket in every replica. -/
def State.setRoot (s : State) (g : Geometry) (i b : Nat) : State :=
  s.fieldAll (g.sramFirst + i / 16384) (i % 16384 / 8) (224 - 32 * (i % 8)) 32 (2 ^ 31 + b)

/-- The root entries that a prefix covers. -/
def LpmPrefix.roots (p : LpmPrefix) (g : Geometry) : List Nat :=
  let i := p.key / 2 ^ (g.keyBits - g.rootBits)
  if p.len ≤ g.rootBits then (List.range (2 ^ (g.rootBits - p.len))).map (fun k => i + k) else [i]

/-- A prefix could match an address under a root entry. -/
def LpmPrefix.under (p : LpmPrefix) (g : Geometry) (i : Nat) : Bool :=
  let n := min p.len g.rootBits
  p.key / 2 ^ (g.keyBits - n) = i / 2 ^ (g.rootBits - n)

/-- Bits of a slot that hold its key. -/
def Geometry.slotKeyBits (g : Geometry) : Nat := if g.width = 0 then 32 else 160

def State.lpmCtl (s : State) (x : LpmSlot) : Word :=
  BitVec.ofNat 32 (bitsOf (s.sram s.refSpan x.unit x.row) x.top (x.top - 31))

/-- The prefix that a slot holds. -/
def State.slotPrefix (s : State) (g : Geometry) (x : LpmSlot) : LpmPrefix :=
  let row := s.sram s.refSpan x.unit x.row
  { key := bitsOf row (x.top - 96) (x.top - 96 - (g.slotKeyBits - 1)) / 2 ^ (g.slotKeyBits - g.keyBits),
    len := getBits (s.lpmCtl x) 23 16 }

def State.lpmFree (s : State) (x : LpmSlot) : Bool := (s.lpmCtl x).toNat / 2 ^ 30 = 0

/-- Write a slot in every replica: control word, LW0, LW1 and key. -/
def State.writeLpm (s : State) (g : Geometry) (x : LpmSlot) (ctl lw0 lw1 : Nat) (p : LpmPrefix) : State :=
  let w := 96 + g.slotKeyBits
  s.fieldAll x.unit x.row (x.top + 1 - w) w
    (((ctl * 2 ^ 32 + lw0) * 2 ^ 32 + lw1) * 2 ^ g.slotKeyBits + p.key * 2 ^ (g.slotKeyBits - g.keyBits))

/-- The whole content of a slot. -/
def State.lpmContent (s : State) (g : Geometry) (x : LpmSlot) : Nat :=
  bitsOf (s.sram s.refSpan x.unit x.row) x.top (x.top + 1 - (96 + g.slotKeyBits))

/-- Root entries that name a bucket. -/
def State.rootsOf (s : State) (g : Geometry) (b : Nat) : List Nat :=
  (List.range (2 ^ g.rootBits)).filter (fun i => s.rootBucket g i = some b)

/-- The lowest bucket that no root entry names. -/
def State.freeBucket (s : State) (g : Geometry) : Option Nat :=
  (List.range (2048 * ((g.sramCount - g.roots) / 4))).find? (fun b =>
    (List.range (2 ^ g.rootBits)).all (fun i => s.rootBucket g i ≠ some b))

/-- Free every slot of a bucket. -/
def State.clearBucket (s : State) (g : Geometry) (b : Nat) : State :=
  (lpmSlots g b).foldl (fun s x => s.fieldAll x.unit x.row (x.top - 1) 2 0) s

/-- Split a bucket: a new one takes the upper half of its root entries with the prefixes that could match there; the old
one keeps those of the lower half (R154). -/
def State.splitBucket (s : State) (g : Geometry) (b : Nat) : Option State :=
  let rs := s.rootsOf g b
  let lower := rs.take (rs.length / 2)
  let upper := rs.drop (rs.length / 2)
  match s.freeBucket g with
  | none => none
  | some b' =>
    if lower.isEmpty then none
    else
      let live := (lpmSlots g b).filter (fun x => !s.lpmFree x)
      let up := live.filter (fun x => upper.any (fun i => (s.slotPrefix g x).under g i))
      let down := live.filter (fun x => !lower.any (fun i => (s.slotPrefix g x).under g i))
      let content := up.map (fun x => s.lpmContent g x)
      let w := 96 + g.slotKeyBits
      let s := s.clearBucket g b'
      let s := ((lpmSlots g b').zip content).foldl (fun s e => s.fieldAll e.1.unit e.1.row (e.1.top + 1 - w) w e.2) s
      let s := upper.foldl (fun s i => s.setRoot g i b') s
      some (down.foldl (fun s x => s.fieldAll x.unit x.row (x.top - 1) 2 0) s)

/-- Put a prefix into the bucket of one root entry, splitting it while it is full; a root that names no bucket takes a
new one, which other roots of the prefix that name none share. -/
def State.addPrefix (s : State) (g : Geometry) (p : LpmPrefix) (ctl lw0 lw1 : Nat) (i : Nat) : Nat → Option State
  | 0 => none
  | n + 1 =>
    match s.rootBucket g i with
    | none =>
      match s.freeBucket g with
      | none => none
      | some b =>
        let s := s.clearBucket g b
        let s := match lpmSlots g b with
          | x :: _ => s.writeLpm g x ctl lw0 lw1 p
          | [] => s
        some (((p.roots g).filter (fun k => (s.rootBucket g k).isNone)).foldl (fun s k => s.setRoot g k b) s)
    | some b =>
      let slots := lpmSlots g b
      if slots.any (fun x => !s.lpmFree x && s.slotPrefix g x = p && (s.lpmCtl x).toNat / 2 ^ 30 = ctl / 2 ^ 30) then some s
      else
        match slots.find? (fun x => s.lpmFree x) with
        | some x => some (s.writeLpm g x ctl lw0 lw1 p)
        | none =>
          match s.splitBucket g b with
          | some s => State.addPrefix s g p ctl lw0 lw1 i n
          | none => none

/-- The slots that hold a prefix valid in a named generation, in every bucket under its roots. -/
def State.findLpm (s : State) (g : Geometry) (a : TableArgs) (p : LpmPrefix) : List LpmSlot :=
  let bs := ((p.roots g).filterMap (fun i => s.rootBucket g i)).foldl addOnce []
  bs.flatMap (fun b => (lpmSlots g b).filter (fun x => a.names (s.lpmCtl x) && s.slotPrefix g x = p))

def State.insertLpm (s : State) (g : Geometry) (a : TableArgs) (x : EntryRecord) (p : LpmPrefix) : TableResult :=
  if !(s.findLpm g a p).isEmpty then .fail entryExists
  else
    match (p.roots g).foldl (fun (acc : Option State) i =>
        acc.bind (fun s => s.addPrefix g p (a.ctl p.len) (x.words.getD 0 0) (x.words.getD 1 0) i 32)) (some s) with
    | some s => .ok s
    | none => .fail noSpace

/-! ### Ternary tables (R155) -/

/-- The rows of a ternary table in priority order. -/
def Geometry.ternaryPlaces (g : Geometry) : List (Nat × Nat) :=
  (List.range g.sramCount).flatMap (fun i => (List.range 2048).map (fun r => (i, r)))

/-- Value and mask of entry i, row r. -/
def State.ternaryAt (s : State) (g : Geometry) (i r : Nat) : Nat × Nat :=
  let n := s.refSpan
  if g.width = 0 then (s.tcamVal n (g.tcamFirst + i) r, s.tcamMask n (g.tcamFirst + i) r)
  else
    (s.tcamVal n (g.tcamFirst + 2 * i) r * 2 ^ 256 + s.tcamVal n (g.tcamFirst + 2 * i + 1) r,
      s.tcamMask n (g.tcamFirst + 2 * i) r * 2 ^ 256 + s.tcamMask n (g.tcamFirst + 2 * i + 1) r)

/-- Write value and mask in every replica. -/
def State.setTernary (s : State) (g : Geometry) (i r v m : Nat) : State :=
  s.spansUp.foldl (fun s n =>
    if g.width = 0 then s.setTcam n (g.tcamFirst + i) r v m
    else (s.setTcam n (g.tcamFirst + 2 * i) r (v / 2 ^ 256) (m / 2 ^ 256)).setTcam n (g.tcamFirst + 2 * i + 1) r
      (v % 2 ^ 256) (m % 2 ^ 256)) s

def State.findTernary (s : State) (g : Geometry) (a : TableArgs) (v m : Nat) : Option (Nat × Nat) :=
  g.ternaryPlaces.find? (fun e =>
    a.names (s.slotCtl (g.sramFirst + e.1, e.2)) && s.ternaryAt g e.1 e.2 = (v, m))

def State.insertTernary (s : State) (g : Geometry) (a : TableArgs) (x : EntryRecord) (v m : Nat) : TableResult :=
  if (s.findTernary g a v m).isSome then .fail entryExists
  else
    match g.ternaryPlaces.find? (fun e => s.slotFree (g.sramFirst + e.1, e.2)) with
    | none => .fail noSpace
    | some e =>
      let lw := (List.range 4).foldl (fun n i => n * 2 ^ 32 + x.words.getD i 0) 0
      .ok ((s.setTernary g e.1 e.2 v m).rowAll (g.sramFirst + e.1) e.2 (a.ctl 0 * 2 ^ 224 + lw * 2 ^ 96))

/-! ### The checks of a request -/

/-- The key bytes beyond a length are 0. -/
def tailZero (k : List Byte) (n : Nat) : Bool := (k.drop n).all (fun b => b = 0)

/-- The record keeps the format of its table (R417). -/
def recordOk (t : Nat) (g : Geometry) (a : TableArgs) (x : EntryRecord) : Bool :=
  let words : Bool := x.words.all (fun w => w = 0)
  x.clean &&
  if t = 240 then
    tailZero x.key 32 && tailZero x.mask 32 && x.len = 0 && words && x.row = 0 && decide (a.index < 4096)
      && x.action % 8 = 0 && x.action / 2 ^ 8 % 4 ≠ 3 && a.span = 0
  else
    match g.kind with
    | 1 => tailZero x.key g.keyBytes && tailZero x.mask 0 && x.len = 0 && x.action = 0 && x.row = 0 && a.index = 0
        && a.span = 0
    | 2 =>
      tailZero x.key g.keyBytes && tailZero x.mask 0 && x.action = 0 && x.row = 0 && a.index = 0 && a.span = 0
        && decide (x.len ≤ g.keyBits)
        && beNat (x.key.take g.keyBytes) % 2 ^ (g.keyBits - x.len) = 0
        && x.words.getD 2 0 = 0 && x.words.getD 3 0 = 0
    | 3 => tailZero x.key g.keyBytes && tailZero x.mask g.keyBytes && x.len = 0 && x.action = 0 && x.row = 0
        && a.index = 0 && a.span = 0
    | 4 => tailZero x.key 0 && tailZero x.mask 0 && x.len = 0 && words && x.action = 0 && a.span = 0
        && decide (a.index < 2048 * g.sramCount * g.perRow)
    | 5 => tailZero x.key 0 && tailZero x.mask 0 && x.len = 0 && words && x.action = 0
        && decide (a.index < 4096 * g.sramCount)
    | _ => tailZero x.key 0 && tailZero x.mask 0 && x.len = 0 && words && x.action = 0
        && decide (a.index < 2048 * g.sramCount)

/-- The prefix of a record. -/
def EntryRecord.prefix_ (x : EntryRecord) (g : Geometry) : LpmPrefix :=
  { key := beNat (x.key.take g.keyBytes), len := x.len }

/-- The SRAM row of an indexed entry (R156 to R158). -/
def Geometry.indexRow (g : Geometry) (i : Nat) : Nat × Nat :=
  let p := if g.kind = 4 then g.perRow else if g.kind = 5 then 2 else 1
  (g.sramFirst + i / (2048 * p), i % (2048 * p) / p)

/-- Replace the row of an indexed entry: in every replica for a direct table, in the named span for a counter or meter
(R161, R416). -/
def State.setIndexed (s : State) (g : Geometry) (a : TableArgs) (row : Nat) : State :=
  let u := g.indexRow a.index
  if g.kind = 4 then s.rowAll u.1 u.2 row else s.setSram a.span u.1 u.2 row

/-! ### The functions -/

/-- The change of V bits that a request makes is refused when it came while a joint was armed, or while a generation drains
(R110, R112). -/
def State.requestBusy (s : State) (a : TableArgs) (old new : Word) : Bool := s.genBusy a.late old new

/-- A request that came while a joint was armed has written a V bit of the shadow in some row of its table: a move or a
split counts as the entry itself (R112, R121, R154). -/
def State.shadowWritten (s t : State) (g : Geometry) : Bool :=
  let n := s.refSpan
  (s.entries n g ++ t.entries n g).any (fun e =>
    vBit (s.placeCtl n e) s.shadowGen != vBit (t.placeCtl n e) s.shadowGen)

/-- The answer of an insertion: GEN_BUSY where it would write the shadow's V bits while a joint is armed (R112, R417). -/
def State.guardShadow (s : State) (g : Geometry) (a : TableArgs) (y : TableResult) : TableResult :=
  match y with
  | .ok t => if a.late && s.shadowWritten t g then .fail genBusyCode else .ok t
  | .fail d => .fail d

def State.tableInsert (s : State) (t : Nat) (g : Geometry) (a : TableArgs) (x : EntryRecord) : TableResult :=
  if t = 240 then
    let y := s.rule s.refSpan a.index
    if s.requestBusy a 0 a.vWord then .fail genBusyCode
    else if a.names y.ctl then .fail entryExists
    else if y.ctl.toNat / 2 ^ 30 ≠ 0 then .fail noSpace
    else .ok (s.spansUp.foldl (fun s n => s.setRule n a.index {
      value := beNat (x.key.take 32), mask := beNat (x.mask.take 32),
      ctl := BitVec.ofNat 32 (a.vWord.toNat + x.action) }) s)
  else if 4 ≤ g.kind then .ok (s.setIndexed g a x.row)
  else if s.requestBusy a 0 a.vWord then .fail genBusyCode
  else if a.vWord = 0 then .ok s
  else
    s.guardShadow g a (match g.kind with
      | 1 => s.insertExact t g a x
      | 2 => s.insertLpm g a x (x.prefix_ g)
      | _ => s.insertTernary g a x (beNat (x.key.take g.keyBytes)) (beNat (x.mask.take g.keyBytes)))

/-- The control words of the entry that a request names, with their places. -/
def State.entryPlaces (s : State) (t : Nat) (g : Geometry) (a : TableArgs) (x : EntryRecord) : List EntryPlace :=
  match g.kind with
  | 1 => (s.findExact t g a (x.key.take g.keyBytes)).toList.map (fun e => { unit := e.1, row := e.2, top := 255 })
  | 2 => (s.findLpm g a (x.prefix_ g)).map (fun e => { unit := e.unit, row := e.row, top := e.top })
  | 3 => (s.findTernary g a (beNat (x.key.take g.keyBytes)) (beNat (x.mask.take g.keyBytes))).toList.map (fun e =>
      { unit := g.sramFirst + e.1, row := e.2, top := 255 })
  | _ => []

/-- Clear the named V bits of the control words at some places, in every replica. -/
def State.clearV (s : State) (a : TableArgs) (es : List EntryPlace) : State :=
  es.foldl (fun s e => s.spansUp.foldl (fun s n => s.setPlaceCtl n e (s.placeCtl n e &&& ~~~a.vWord)) s) s

def State.tableDelete (s : State) (t : Nat) (g : Geometry) (a : TableArgs) (x : EntryRecord) : TableResult :=
  if t = 240 then
    let y := s.rule s.refSpan a.index
    let new := y.ctl &&& ~~~a.vWord
    if !a.names y.ctl then .fail notFound
    else if s.requestBusy a y.ctl new then .fail genBusyCode
    else .ok (s.spansUp.foldl (fun s n =>
      s.setRule n a.index (if new.toNat / 2 ^ 30 = 0 then {} else { y with ctl := new })) s)
  else if 4 ≤ g.kind then .fail badTable
  else
    let es := s.entryPlaces t g a x
    if es.isEmpty then .fail notFound
    else if es.any (fun e =>
        let c := s.placeCtl s.refSpan e
        s.requestBusy a c (c &&& ~~~a.vWord)) then .fail genBusyCode
    else .ok (s.clearV a es)

def State.tableModify (s : State) (t : Nat) (g : Geometry) (a : TableArgs) (x : EntryRecord) : TableResult :=
  if t = 240 then
    let y := s.rule s.refSpan a.index
    if !a.names y.ctl then .fail notFound
    else .ok (s.spansUp.foldl (fun s n =>
      s.setRule n a.index { y with ctl := BitVec.ofNat 32 (y.ctl.toNat / 2 ^ 16 * 2 ^ 16 + x.action) }) s)
  else if 4 ≤ g.kind then .ok (s.setIndexed g a x.row)
  else
    let es := s.entryPlaces t g a x
    if es.isEmpty then .fail notFound
    else
      let n := if g.kind = 2 then 2 else 4
      let lw := (List.range n).foldl (fun v i => v * 2 ^ 32 + x.words.getD i 0) 0
      .ok (es.foldl (fun s e => s.fieldAll e.unit e.row (e.top + 1 - 32 * (n + 1)) (32 * n) lw) s)

/-- The record that TABLE.READ writes back: what the command names, with the result of the entry. -/
def State.readRecord (s : State) (t : Nat) (g : Geometry) (a : TableArgs) (x : EntryRecord) : Option EntryRecord :=
  if t = 240 then
    let y := s.rule s.refSpan a.index
    if a.names y.ctl then
      some { x with key := beBytes 32 y.value, mask := beBytes 32 y.mask, action := y.ctl.toNat % 2 ^ 16 }
    else none
  else if 4 ≤ g.kind then
    let u := g.indexRow a.index
    some { x with row := s.sram (if g.kind = 4 then s.refSpan else a.span) u.1 u.2 }
  else
    match s.entryPlaces t g a x with
    | [] => none
    | e :: _ =>
      let row := s.sram s.refSpan e.unit e.row
      let n := if g.kind = 2 then 2 else 4
      some { x with words := (List.range 4).map (fun k => if k < n then bitsOf row (e.top - 32 * (k + 1)) (e.top - 32 * (k + 1) - 31) else 0) }

/-- The table that a command names can be served: the geometry of the span that answers, or a DETAIL code (R417). -/
def State.tableCheck (s : State) (a : TableArgs) : Nat :=
  let g := s.geometry s.refSpan a.table
  if 240 < a.table ∨ (a.table < 240 ∧ !g.en) then badTable
  else if a.table < 240 ∧ (g.kind = 5 ∨ g.kind = 6) ∧ (15 < a.span ∨ !s.spanUp a.span) then spanDown
  else 0

/-- The engine that carries out a request: the named span's for a counter or meter. -/
def State.requestSpan (s : State) (a : TableArgs) : Nat :=
  let g := s.geometry s.refSpan a.table
  if a.table < 240 ∧ (g.kind = 5 ∨ g.kind = 6) then a.span % 16 else s.serviceSpan

/-- The entry record is written back to host memory (R416). -/
def State.tableReadBack (s : State) (t : Nat) (g : Geometry) (a : TableArgs) (x : EntryRecord) : TableResult :=
  match s.readRecord t g a x with
  | some y => .ok (s.hostWrite a.addr y.bytes)
  | none => .fail notFound

/-- The effect of a TABLE function: 1 INSERT, 2 DELETE, 3 MODIFY, 4 READ (R415). -/
def State.tableEffect (s : State) (fn : Nat) : Nat → Geometry → TableArgs → EntryRecord → TableResult :=
  match fn with
  | 1 => s.tableInsert
  | 2 => s.tableDelete
  | 3 => s.tableModify
  | _ => s.tableReadBack

/-- A TABLE request as its engine carries it out: its checks, then its effect (R417). -/
def State.tableResult (s : State) (fn : Nat) (a : TableArgs) (x : EntryRecord) : TableResult :=
  let g := s.geometry s.refSpan a.table
  if s.tableCheck a ≠ 0 then .fail (s.tableCheck a)
  else if !recordOk a.table g a x then .fail badEntry
  else s.tableEffect fn a.table g a x

/-- The completion that a result gives (R391, R417). -/
def TableResult.done : TableResult → Done
  | .ok _ => { code := 0 }
  | .fail d => serviceError d

/-- The state with the change that a result makes, which is none for a request that fails (R417). -/
def State.tableState (s : State) : TableResult → State
  | .ok t => t
  | .fail _ => s

/-- Complete a request, which was one routine of the engine of `span`, with its result (R121, R297, R391, R417). -/
def State.finishTable (s : State) (span r : Nat) (y : TableResult) : State :=
  ((s.tableState y).count (cSpan span 11) 1).finishCall r y.done

/-- A TABLE request whose record has been read: it is checked, and it is one trestle routine, which waits with its record
while the engine is busy or stopped (R121, R417). -/
def State.tableRun (s : State) (r fn : Nat) (c : Call) (b : List Byte) : State :=
  let a := { c.tableArgs with late := s.progs.joint.isSome }
  let x := entryRecord b
  if s.tableCheck a ≠ 0 then s.finishCall r (serviceError (s.tableCheck a))
  else if !recordOk a.table (s.geometry s.refSpan a.table) a x then s.finishCall r (serviceError badEntry)
  else if !s.engineFree (s.requestSpan a) then
    s.queueRequest (s.requestSpan a)
      { entry := Config.routineEntry fn, ring := some r, work := some (.table fn c.body b) }
  else s.finishTable (s.requestSpan a) r (s.tableResult fn a x)

/-- Run a TABLE request (R416). -/
def State.tableRequest (s : State) (r fn : Nat) (c : Call) (record : Option (List Byte)) : State :=
  if c.tableArgs.addr = 0 ∨ c.tableArgs.addr % 8 ≠ 0 then s.finishCall r { code := 5 }
  else
    match record with
    | none => s.dmaErr.finishCall r { code := 8 }
    | some b => s.tableRun r fn c b

/-- The request of a routine that ends: a result that the routine itself reports, else the effect that its instructions
have not made themselves; a READ whose ring has been reset writes nothing back (R415, R417, assumption 134). -/
def State.haltTable (s : State) (x : Trestle) (fn : Nat) (body b : List Byte) (result : Nat) : State :=
  if result ≠ 0 then s.finishOwner x.owner (serviceError result)
  else if (x.acted && fn ≠ 4) || (fn = 4 && x.owner.isNone) then s.finishOwner x.owner { code := 0 }
  else
    let c : Call := { idx := 0, body := body }
    let y := s.tableResult fn { c.tableArgs with late := x.late } (entryRecord b)
    (s.tableState y).finishOwner x.owner y.done

/-- TRESTLE_HALT (R121, R297): the routine is complete, and so is its request. -/
def execTrestleHalt (span : Span) (result : Byte) (s : State) : Host.Outcome State Fault Refusal :=
  if s.routineRuns span then
    let x := s.engine span
    let s := (s.setEngine span (x.ended 0)).count (cSpan span 11) 1
    .next (match x.work with
      | some (.table fn body b) => s.haltTable x fn body b result.toNat
      | some (.aging t) => if x.acted then s else s.agingEntries t
      | none => s.finishOwner x.owner (if result = 0 then { code := 0 } else serviceError result.toNat))
  else .next s

/-- TABLE_INSERT (R415 to R417). -/
def execTableInsert (r : Ring) (record : Option (List Byte)) (s : State) : Host.Outcome State Fault Refusal :=
  .next (s.runCall r 2 1 statesChange (fun c => s.tableRequest r 1 c record))

/-- TABLE_DELETE (R415 to R417). -/
def execTableDelete (r : Ring) (record : Option (List Byte)) (s : State) : Host.Outcome State Fault Refusal :=
  .next (s.runCall r 2 2 statesChange (fun c => s.tableRequest r 2 c record))

/-- TABLE_MODIFY (R415 to R417). -/
def execTableModify (r : Ring) (record : Option (List Byte)) (s : State) : Host.Outcome State Fault Refusal :=
  .next (s.runCall r 2 3 statesChange (fun c => s.tableRequest r 3 c record))

/-- TABLE_READ (R415 to R417). -/
def execTableRead (r : Ring) (record : Option (List Byte)) (s : State) : Host.Outcome State Fault Refusal :=
  .next (s.runCall r 2 4 statesButOff (fun c => s.tableRequest r 4 c record))

/-- TABLE_SET_AGE (R162, R415). -/
def State.tableSetAge (s : State) (r : Nat) (c : Call) : State :=
  let a := c.tableArgs
  if 240 ≤ a.table ∨ !(s.geometry s.refSpan a.table).en then s.finishCall r (serviceError badTable)
  else if a.index = 0 ∨ 65535 < a.index then s.finishCall r (serviceError badEntry)
  else
    ({ s with tables := { s.tables with period := Tbl.put zeroNat s.tables.period a.table a.index } }).finishCall r
      { code := 0 }

def execTableSetAge (r : Ring) (s : State) : Host.Outcome State Fault Refusal :=
  .next (s.runCall r 2 5 statesChange (fun c => s.tableSetAge r c))

end Sys2Proof.Machine
end

