-- ==== Sys2Proof/Machine/Dispatch.lean ====
section
/-! DEFINITION. One arm per command: the meaning that exec calls. -/

namespace Sys2Proof.Machine

open Sys2Proof

def exec (i : Instr) (s : State) : Host.Outcome State Fault Refusal :=
  match i with
  | .registerAccessMisaligned off size isWrite => Sys2Proof.Machine.execRegisterAccessMisaligned off size isWrite s
  | .registerWrite off value => Sys2Proof.Machine.execRegisterWrite off value s
  | .pairLowWordRead off => Sys2Proof.Machine.execPairLowWordRead off s
  | .flitCrcFail link => Sys2Proof.Machine.execFlitCrcFail link s
  | .d2dLinkFailover link => Sys2Proof.Machine.execD2dLinkFailover link s
  | .lockstepMismatch b pin => Sys2Proof.Machine.execLockstepMismatch b pin s
  | .lockstepKatDone b passA passB => Sys2Proof.Machine.execLockstepKatDone b passA passB s
  | .lockstepResume b => Sys2Proof.Machine.execLockstepResume b s
  | .sysclkLoss => Sys2Proof.Machine.execSysclkLoss s
  | .refclkSdLoss n => Sys2Proof.Machine.execRefclkSdLoss n s
  | .pcieRefclkLoss => Sys2Proof.Machine.execPcieRefclkLoss s
  | .frameStart port deck => Sys2Proof.Machine.execFrameStart port deck s
  | .cellWrite port bytes last full => Sys2Proof.Machine.execCellWrite port bytes last full s
  | .parseDone d => Sys2Proof.Machine.execParseDone d s
  | .classifyDone d => Sys2Proof.Machine.execClassifyDone d s
  | .frameEnd port fcsGood truncated => Sys2Proof.Machine.execFrameEnd port fcsGood truncated s
  | .pipelineSlotGrant span pass pipe => Sys2Proof.Machine.execPipelineSlotGrant span pass pipe s
  | .stageExecute packet ev => Sys2Proof.Machine.execStageExecute packet ev s
  | .resultRelease port tc => Sys2Proof.Machine.execResultRelease port tc s
  | .holderTransfer d h set group walk => Sys2Proof.Machine.execHolderTransfer d h set group walk s
  | .holderRelease d h walk => Sys2Proof.Machine.execHolderRelease d h walk s
  | .cellRead d idx h wrong check walk => Sys2Proof.Machine.execCellRead d idx h wrong check walk s
  | .limitCommit => Sys2Proof.Machine.execLimitCommit s
  | .faultLogRead => Sys2Proof.Machine.execFaultLogRead s
  | .reclaim byAudit value => Sys2Proof.Machine.execReclaim byAudit value s
  | .cmpReqRx dev voq value => Sys2Proof.Machine.execCmpReqRx dev voq value s
  | .cmpGrantRx voq value => Sys2Proof.Machine.execCmpGrantRx voq value s
  | .cmpSyncTimer => Sys2Proof.Machine.execCmpSyncTimer s
  | .cmpSyncRx dev voq value => Sys2Proof.Machine.execCmpSyncRx dev voq value s
  | .cmpSyncAckRx voq value => Sys2Proof.Machine.execCmpSyncAckRx voq value s
  | .cmpMessageFlush dev => Sys2Proof.Machine.execCmpMessageFlush dev s
  | .mcGroupWrite g value => Sys2Proof.Machine.execMcGroupWrite g value s
  | .schedulerSelect port => Sys2Proof.Machine.execSchedulerSelect port s
  | .transmitStart port => Sys2Proof.Machine.execTransmitStart port s
  | .transmitComplete port => Sys2Proof.Machine.execTransmitComplete port s
  | .shaperRefill => Sys2Proof.Machine.execShaperRefill s
  | .shaperSwap value => Sys2Proof.Machine.execShaperSwap value s
  | .shaperConfigWrite x k burst value => Sys2Proof.Machine.execShaperConfigWrite x k burst value s
  | .pfcXoffRefresh port pri => Sys2Proof.Machine.execPfcXoffRefresh port pri s
  | .pfcRx port enable times => Sys2Proof.Machine.execPfcRx port enable times s
  | .pauseRx port quanta => Sys2Proof.Machine.execPauseRx port quanta s
  | .pfcPauseExpire port pri => Sys2Proof.Machine.execPfcPauseExpire port pri s
  | .viaInitTimer port => Sys2Proof.Machine.execViaInitTimer port s
  | .viaInitRx port frame => Sys2Proof.Machine.execViaInitRx port frame s
  | .viaInitAckRx port frame => Sys2Proof.Machine.execViaInitAckRx port frame s
  | .viaDataRx port deck fcsGood d => Sys2Proof.Machine.execViaDataRx port deck fcsGood d s
  | .viaAckRx port frame => Sys2Proof.Machine.execViaAckRx port frame s
  | .viaNakRx port frame => Sys2Proof.Machine.execViaNakRx port frame s
  | .viaRetransmitDone port => Sys2Proof.Machine.execViaRetransmitDone port s
  | .viaRetryTimeout port => Sys2Proof.Machine.execViaRetryTimeout port s
  | .viaAckTimer port => Sys2Proof.Machine.execViaAckTimer port s
  | .viaCreditTimer port => Sys2Proof.Machine.execViaCreditTimer port s
  | .viaCreditRx port frame => Sys2Proof.Machine.execViaCreditRx port frame s
  | .viaHoldWrite w value => Sys2Proof.Machine.execViaHoldWrite w value s
  | .linkHoldExpire port => Sys2Proof.Machine.execLinkHoldExpire port s
  | .lossLogRead => Sys2Proof.Machine.execLossLogRead s
  | .shadowPeriodEnd span pass => Sys2Proof.Machine.execShadowPeriodEnd span pass s
  | .shadowPeriodStart span pass => Sys2Proof.Machine.execShadowPeriodStart span pass s
  | .katVectorInsert span pass pipe => Sys2Proof.Machine.execKatVectorInsert span pass pipe s
  | .mismatchDrained span pass => Sys2Proof.Machine.execMismatchDrained span pass s
  | .mismatchVectorsChecked span pass servingPass freePass => Sys2Proof.Machine.execMismatchVectorsChecked span pass servingPass freePass s
  | .mismatchRerunChecked span pass outcome => Sys2Proof.Machine.execMismatchRerunChecked span pass outcome s
  | .spareDrained span pass => Sys2Proof.Machine.execSpareDrained span pass s
  | .spareSwitch span pass vectorsPass => Sys2Proof.Machine.execSpareSwitch span pass vectorsPass s
  | .spareReinstate span value => Sys2Proof.Machine.execSpareReinstate span value s
  | .reinstateDone span pass pipe vectorsPass => Sys2Proof.Machine.execReinstateDone span pass pipe vectorsPass s
  | .spanResetRequest value => Sys2Proof.Machine.execSpanResetRequest value s
  | .spanLogicReset span => Sys2Proof.Machine.execSpanLogicReset span s
  | .spanRecopyDone span donor => Sys2Proof.Machine.execSpanRecopyDone span donor s
  | .spanVectorsDone span failed => Sys2Proof.Machine.execSpanVectorsDone span failed s
  | .spanReplayStart span => Sys2Proof.Machine.execSpanReplayStart span s
  | .spanResetEnd span => Sys2Proof.Machine.execSpanResetEnd span s
  | .journalProgram verified => Sys2Proof.Machine.execJournalProgram verified s
  | .journalCheckpoint => Sys2Proof.Machine.execJournalCheckpoint s
  | .journalForceWt value => Sys2Proof.Machine.execJournalForceWt value s
  | .journalFastResume => Sys2Proof.Machine.execJournalFastResume s
  | .telRollWrite value => Sys2Proof.Machine.execTelRollWrite value s
  | .mirrorRecordWrite d h ci => Sys2Proof.Machine.execMirrorRecordWrite d h ci s
  | .rxCopyDeliver d h ci => Sys2Proof.Machine.execRxCopyDeliver d h ci s
  | .mirrorSessionWrite sess n value => Sys2Proof.Machine.execMirrorSessionWrite sess n value s
  | .counterRead off => Sys2Proof.Machine.execCounterRead off s
  | .servoSample n => Sys2Proof.Machine.execServoSample n s
  | .tbOffsetSubmit n hi => Sys2Proof.Machine.execTbOffsetSubmit n hi s
  | .ppsInEdge idx => Sys2Proof.Machine.execPpsInEdge idx s
  | .tbHoldoverTimeout n => Sys2Proof.Machine.execTbHoldoverTimeout n s
  | .tbSrcWrite n value => Sys2Proof.Machine.execTbSrcWrite n value s
  | .tbSnapshot value => Sys2Proof.Machine.execTbSnapshot value s
  | .tbSecondPublish => Sys2Proof.Machine.execTbSecondPublish s
  | .tbPubRead => Sys2Proof.Machine.execTbPubRead s
  | .ppsOutPulse => Sys2Proof.Machine.execPpsOutPulse s
  | .ppsOutEnd => Sys2Proof.Machine.execPpsOutEnd s
  | .cadSrcWrite value => Sys2Proof.Machine.execCadSrcWrite value s
  | .cadSlewEnd => Sys2Proof.Machine.execCadSlewEnd s
  | .cadAlign value => Sys2Proof.Machine.execCadAlign value s
  | .cadSlotWrite slot r value host => Sys2Proof.Machine.execCadSlotWrite slot r value host s
  | .cadSlotFire slots => Sys2Proof.Machine.execCadSlotFire slots s
  | .jointArm value => Sys2Proof.Machine.execJointArm value s
  | .jointCancel value => Sys2Proof.Machine.execJointCancel value s
  | .jointNow value => Sys2Proof.Machine.execJointNow value s
  | .jointCheck => Sys2Proof.Machine.execJointCheck s
  | .loadStart value => Sys2Proof.Machine.execLoadStart value s
  | .loadComplete image badCopy => Sys2Proof.Machine.execLoadComplete image badCopy s
  | .storeScrub word check good => Sys2Proof.Machine.execStoreScrub word check good s
  | .windowRead off => Sys2Proof.Machine.execWindowRead off s
  | .windowWrite off value => Sys2Proof.Machine.execWindowWrite off value s
  | .trestleRoutineStart span => Sys2Proof.Machine.execTrestleRoutineStart span s
  | .trestleLd span item reg => Sys2Proof.Machine.execTrestleLd span item reg s
  | .trestleAlu span op dst a b => Sys2Proof.Machine.execTrestleAlu span op dst a b s
  | .trestleHash span table hsel key dst => Sys2Proof.Machine.execTrestleHash span table hsel key dst s
  | .trestleStage span item data => Sys2Proof.Machine.execTrestleStage span item data s
  | .trestleFlip span item expected data => Sys2Proof.Machine.execTrestleFlip span item expected data s
  | .trestleBflip span item bits expected data => Sys2Proof.Machine.execTrestleBflip span item bits expected data s
  | .trestleBranch span target => Sys2Proof.Machine.execTrestleBranch span target s
  | .trestleHalt span result => Sys2Proof.Machine.execTrestleHalt span result s
  | .trestleStop span value => Sys2Proof.Machine.execTrestleStop span value s
  | .trestleResume span value => Sys2Proof.Machine.execTrestleResume span value s
  | .trestleAbort span value => Sys2Proof.Machine.execTrestleAbort span value s
  | .tableKindWrite span t units value => Sys2Proof.Machine.execTableKindWrite span t units value s
  | .tableScrub span item check good => Sys2Proof.Machine.execTableScrub span item check good s
  | .agingSweep t => Sys2Proof.Machine.execAgingSweep t s
  | .replicaCompare item => Sys2Proof.Machine.execReplicaCompare item s
  | .portEnable lane value => Sys2Proof.Machine.execPortEnable lane value s
  | .portDisable lane value => Sys2Proof.Machine.execPortDisable lane value s
  | .laneSignalDetect port => Sys2Proof.Machine.execLaneSignalDetect port s
  | .anPageRx port abilities pause next => Sys2Proof.Machine.execAnPageRx port abilities pause next s
  | .trainingDone port => Sys2Proof.Machine.execTrainingDone port s
  | .linkUp port localFault remoteFault => Sys2Proof.Machine.execLinkUp port localFault remoteFault s
  | .linkDown port => Sys2Proof.Machine.execLinkDown port s
  | .bringupTimeout port => Sys2Proof.Machine.execBringupTimeout port s
  | .linkStable port => Sys2Proof.Machine.execLinkStable port s
  | .failedRetryTimer port => Sys2Proof.Machine.execFailedRetryTimer port s
  | .trainingRequestRx lane req => Sys2Proof.Machine.execTrainingRequestRx lane req s
  | .trainingResponseRx lane rsp next => Sys2Proof.Machine.execTrainingResponseRx lane rsp next s
  | .trainingManualRequest lane value => Sys2Proof.Machine.execTrainingManualRequest lane value s
  | .fecDegradeWindow port hist uncorr symbols => Sys2Proof.Machine.execFecDegradeWindow port hist uncorr symbols s
  | .eyeScanStart lane value => Sys2Proof.Machine.execEyeScanStart lane value s
  | .eyeScanStop lane value => Sys2Proof.Machine.execEyeScanStop lane value s
  | .eyeScanDone lane counts => Sys2Proof.Machine.execEyeScanDone lane counts s
  | .pierAlignSearch n => Sys2Proof.Machine.execPierAlignSearch n s
  | .pierSlip n => Sys2Proof.Machine.execPierSlip n s
  | .pierAlignLock n => Sys2Proof.Machine.execPierAlignLock n s
  | .pierAlignLost n => Sys2Proof.Machine.execPierAlignLost n s
  | .pierEnableWrite n value => Sys2Proof.Machine.execPierEnableWrite n value s
  | .pierCapTimer n => Sys2Proof.Machine.execPierCapTimer n s
  | .cap n payload => Sys2Proof.Machine.execCap n payload s
  | .step n payload => Sys2Proof.Machine.execStep n payload s
  | .pierStepSwitch n => Sys2Proof.Machine.execPierStepSwitch n s
  | .pierStepTimeout n => Sys2Proof.Machine.execPierStepTimeout n s
  | .pierFrameBad n => Sys2Proof.Machine.execPierFrameBad n s
  | .tmarkPeriod n => Sys2Proof.Machine.execTmarkPeriod n s
  | .timeMarkRx n => Sys2Proof.Machine.execTimeMarkRx n s
  | .tmark n payload => Sys2Proof.Machine.execTmark n payload s
  | .tmarkTimeout n => Sys2Proof.Machine.execTmarkTimeout n s
  | .mgmt n payload => Sys2Proof.Machine.execMgmt n payload s
  | .fault n payload => Sys2Proof.Machine.execFault n payload s
  | .pierFaultSymbolsRx n => Sys2Proof.Machine.execPierFaultSymbolsRx n s
  | .pierFaultRepeat => Sys2Proof.Machine.execPierFaultRepeat s
  | .pcieFlr => Sys2Proof.Machine.execPcieFlr s
  | .pciePerst => Sys2Proof.Machine.execPciePerst s
  | .pcieBusMasterOff => Sys2Proof.Machine.execPcieBusMasterOff s
  | .pcieBusMasterOn cis => Sys2Proof.Machine.execPcieBusMasterOn cis s
  | .sqDoorbell off len cis => Sys2Proof.Machine.execSqDoorbell off len cis s
  | .cqDoorbell off len cis => Sys2Proof.Machine.execCqDoorbell off len cis s
  | .sqScan r pi entries ci => Sys2Proof.Machine.execSqScan r pi entries ci s
  | .sqRescanTimer r => Sys2Proof.Machine.execSqRescanTimer r s
  | .sqResourceFree r => Sys2Proof.Machine.execSqResourceFree r s
  | .rxRingReadAhead r pi entries => Sys2Proof.Machine.execRxRingReadAhead r pi entries s
  | .txPacketReadDone r bytes full => Sys2Proof.Machine.execTxPacketReadDone r bytes full s
  | .completionPost r ci => Sys2Proof.Machine.execCompletionPost r ci s
  | .eventRecordWrite capture ci => Sys2Proof.Machine.execEventRecordWrite capture ci s
  | .cqCoalTimer r ci => Sys2Proof.Machine.execCqCoalTimer r ci s
  | .ringEnable cq r value => Sys2Proof.Machine.execRingEnable cq r value s
  | .ringDisable cq r value => Sys2Proof.Machine.execRingDisable cq r value s
  | .keystoneComparatorMismatch pair => Sys2Proof.Machine.execKeystoneComparatorMismatch pair s
  | .keystoneWatchdogExpire pair => Sys2Proof.Machine.execKeystoneWatchdogExpire pair s
  | .keystoneTakeoverStart pair => Sys2Proof.Machine.execKeystoneTakeoverStart pair s
  | .keystoneTakeoverDone pair => Sys2Proof.Machine.execKeystoneTakeoverDone pair s
  | .keystoneReinstate value => Sys2Proof.Machine.execKeystoneReinstate value s
  | .keystoneSelftestDone pair passed => Sys2Proof.Machine.execKeystoneSelftestDone pair passed s
  | .keystoneReturn value => Sys2Proof.Machine.execKeystoneReturn value s
  | .call pair target ret => Sys2Proof.Machine.execCall pair target ret s
  | .ret pair => Sys2Proof.Machine.execRet pair s
  | .wsave pair w => Sys2Proof.Machine.execWsave pair w s
  | .wload pair w => Sys2Proof.Machine.execWload pair w s
  | .texit pair => Sys2Proof.Machine.execTexit pair s
  | .kcTrapEntry pair causes => Sys2Proof.Machine.execKcTrapEntry pair causes s
  | .kcInterrupt pair lines => Sys2Proof.Machine.execKcInterrupt pair lines s
  | .infoIdentify r => Sys2Proof.Machine.execInfoIdentify r s
  | .tableInsert r record => Sys2Proof.Machine.execTableInsert r record s
  | .tableDelete r record => Sys2Proof.Machine.execTableDelete r record s
  | .tableModify r record => Sys2Proof.Machine.execTableModify r record s
  | .tableRead r record => Sys2Proof.Machine.execTableRead r record s
  | .tableSetAge r => Sys2Proof.Machine.execTableSetAge r s
  | .auditRun r => Sys2Proof.Machine.execAuditRun r s
  | .ptpInstance r => Sys2Proof.Machine.execPtpInstance r s
  | .ptpPort r => Sys2Proof.Machine.execPtpPort r s
  | .ptpStatus r => Sys2Proof.Machine.execPtpStatus r s
  | .pierAlign r found => Sys2Proof.Machine.execPierAlign r found s
  | .pierSend r => Sys2Proof.Machine.execPierSend r s
  | .fuseOwnerKey r => Sys2Proof.Machine.execFuseOwnerKey r s
  | .updateStatus r => Sys2Proof.Machine.execUpdateStatus r s
  | .updateErase r flashOk => Sys2Proof.Machine.execUpdateErase r flashOk s
  | .updateWrite r data flashOk => Sys2Proof.Machine.execUpdateWrite r data flashOk s
  | .updateRead r => Sys2Proof.Machine.execUpdateRead r s
  | .updateActivate r => Sys2Proof.Machine.execUpdateActivate r s
  | .updateSettingsWrite r data flashOk => Sys2Proof.Machine.execUpdateSettingsWrite r data flashOk s
  | .updateSettingsRead r => Sys2Proof.Machine.execUpdateSettingsRead r s
  | .powerStatus r => Sys2Proof.Machine.execPowerStatus r s
  | .powerConcordReport r => Sys2Proof.Machine.execPowerConcordReport r s
  | .guScanStart u value firmware => Sys2Proof.Machine.execGuScanStart u value firmware s
  | .guScanAbort u value firmware => Sys2Proof.Machine.execGuScanAbort u value firmware s
  | .guScanDone u data => Sys2Proof.Machine.execGuScanDone u data s
  | .faultLatch what => Sys2Proof.Machine.execFaultLatch what s
  | .correctedThreshold src => Sys2Proof.Machine.execCorrectedThreshold src s
  | .faultCauseClear idx b high value => Sys2Proof.Machine.execFaultCauseClear idx b high value s
  | .faultSelect value => Sys2Proof.Machine.execFaultSelect value s
  | .errSTimerExpire => Sys2Proof.Machine.execErrSTimerExpire s
  | .errSRelease value => Sys2Proof.Machine.execErrSRelease value s
  | .errPinReadback p n es => Sys2Proof.Machine.execErrPinReadback p n es s
  | .fcPinTestWrite value => Sys2Proof.Machine.execFcPinTestWrite value s
  | .collectorMismatch => Sys2Proof.Machine.execCollectorMismatch s
  | .safeStateComplete => Sys2Proof.Machine.execSafeStateComplete s
  | .viewCompare kind unit => Sys2Proof.Machine.execViewCompare kind unit s
  | .injectionKeyWrite value => Sys2Proof.Machine.execInjectionKeyWrite value s
  | .injectionConfigWrite arg value => Sys2Proof.Machine.execInjectionConfigWrite arg value s
  | .injectionKeyTimeout => Sys2Proof.Machine.execInjectionKeyTimeout s
  | .injectionFire => Sys2Proof.Machine.execInjectionFire s
  | .injectionLevelEnd => Sys2Proof.Machine.execInjectionLevelEnd s
  | .opPolicyWrite phases value => Sys2Proof.Machine.execOpPolicyWrite phases value s
  | .riseVoutCommand => Sys2Proof.Machine.execRiseVoutCommand s
  | .riseReadVout uv => Sys2Proof.Machine.execRiseReadVout uv s
  | .avsAdjust up down => Sys2Proof.Machine.execAvsAdjust up down s
  | .pmbusFailure => Sys2Proof.Machine.execPmbusFailure s
  | .pmbAlert status => Sys2Proof.Machine.execPmbAlert status s
  | .droopDetect det => Sys2Proof.Machine.execDroopDetect det s
  | .droopRecover det => Sys2Proof.Machine.execDroopRecover det s
  | .thermalSample temps => Sys2Proof.Machine.execThermalSample temps s
  | .throttleStep => Sys2Proof.Machine.execThrottleStep s
  | .throttleReleaseStep => Sys2Proof.Machine.execThrottleReleaseStep s
  | .tjmaxCapEnd => Sys2Proof.Machine.execTjmaxCapEnd s
  | .regAlertConfirm => Sys2Proof.Machine.execRegAlertConfirm s
  | .regAlertEnd => Sys2Proof.Machine.execRegAlertEnd s
  | .concordRoundOpen => Sys2Proof.Machine.execConcordRoundOpen s
  | .concord n payload => Sys2Proof.Machine.execConcord n payload s
  | .concordRoundClose => Sys2Proof.Machine.execConcordRoundClose s
  | .holdupCompare sense mv => Sys2Proof.Machine.execHoldupCompare sense mv s
  | .holdupRebase mv => Sys2Proof.Machine.execHoldupRebase mv s
  | .mainSupplyFail => Sys2Proof.Machine.execMainSupplyFail s
  | .journalFlushDone sense fall => Sys2Proof.Machine.execJournalFlushDone sense fall s
  | .railFault rail uv ports => Sys2Proof.Machine.execRailFault rail uv ports s
  | .powerOn => Sys2Proof.Machine.execPowerOn s
  | .resetNAssert => Sys2Proof.Machine.execResetNAssert s
  | .resetNRelease strap0 badFuses => Sys2Proof.Machine.execResetNRelease strap0 badFuses s
  | .coldResetRequest value => Sys2Proof.Machine.execColdResetRequest value s
  | .warmResetRequest value => Sys2Proof.Machine.execWarmResetRequest value s
  | .warmNAssert => Sys2Proof.Machine.execWarmNAssert s
  | .warmResetSeal => Sys2Proof.Machine.execWarmResetSeal s
  | .warmResetRelease => Sys2Proof.Machine.execWarmResetRelease s
  | .warmAuditDone => Sys2Proof.Machine.execWarmAuditDone s
  | .warmResume failed stores tables => Sys2Proof.Machine.execWarmResume failed stores tables s
  | .warmResetEnd => Sys2Proof.Machine.execWarmResetEnd s
  | .collectorSelftestDone passed => Sys2Proof.Machine.execCollectorSelftestDone passed s
  | .bootVerifyDone unread => Sys2Proof.Machine.execBootVerifyDone unread s
  | .bootStartTimeout part => Sys2Proof.Machine.execBootStartTimeout part s
  | .bootReady badCopy settings => Sys2Proof.Machine.execBootReady badCopy settings s
  | .gotoService => Sys2Proof.Machine.execGotoService s
  | .gotoTest => Sys2Proof.Machine.execGotoTest s
  | .calibrationWrite off value => Sys2Proof.Machine.execCalibrationWrite off value s
  | .registerReadClear off => Sys2Proof.Machine.execRegisterReadClear off s
  | .pcieLinkUp rate width cis => Sys2Proof.Machine.execPcieLinkUp rate width cis s
  | .referenceClockReturn n => Sys2Proof.Machine.execReferenceClockReturn n s
  | .msixVectorUnmask v => Sys2Proof.Machine.execMsixVectorUnmask v s

end Sys2Proof.Machine
end

