-- ==== Sys2Proof/Machine/Tick.lean ====
section
/-! DEFINITION. What happens as time passes while no command waits: one cycle of the time-unit clock (R37, R305, R314),
what is counted per core clock (R296, R297, R301), and the energy measured (R473). -/

namespace Sys2Proof.Machine

/-- The source of a threshold unit (R301, R304); 7 is reserved. -/
def State.thresholdSource (s : State) (src index : Nat) : Nat :=
  match src with
  | 0 => s.queueDepth index
  | 1 => let u := s.pairUse index; u.res + u.sh + u.hd
  | 2 => s.freeCells
  | 3 => s.buf.globSh
  | 4 => (s.reg (sqOff index + 0x24) - s.sqCi index).toNat
  | 5 => s.cqUnread index
  | 6 => (s.arrivals index).length
  | _ => 0

/-- PMC_TH_CFG_i and PMC_TH_N_i (R304). -/
def thCfg (i : Nat) : Nat := 0x2FF1000 + i * 8

/-- A threshold unit is enabled and its source lies past N (R301); with SRC 7 it does not count (R304). -/
def State.pastThreshold (s : State) (i : Nat) : Bool :=
  let v := s.thresholdSource (s.fld (thCfg i) 29 27) (s.fld (thCfg i) 13 0)
  let n := (s.reg (thCfg i + 4)).toNat
  s.bit (thCfg i) 31 && decide (s.fld (thCfg i) 29 27 ≠ 7) && (if s.bit (thCfg i) 30 then decide (v < n) else decide (n < v))

/-- The threshold units count core clocks (R301). -/
def State.countThresholds (s : State) (clocks : Nat) : State :=
  if clocks = 0 then s
  else (List.range 64).foldl (fun s i => if s.pastThreshold i then s.count (cThresh i) clocks else s) s


/-- Every microsecond the controller adds the energy that it has measured to PWR_ENERGY (R473); the measurement comes
from the package's sensors and is free (assumption 10). -/
def State.addEnergy (s : State) : State :=
  if (s.time.tu + 1) % 1000 = 0 then
    { s with pwr := { s.pwr with energy := (s.pwr.energy + Config.measuredEnergy s.freeCount) % 2 ^ 64 },
             freeCount := s.freeCount + 1 }
  else s

/-! ### Empty slots (R300) -/

/-- The group whose packets a physical pipeline takes: the one that it serves, or shadows. -/
def PassState.taking (x : PassState) (pipe : Nat) : Option Nat :=
  if x.free = some pipe then (if x.shadowOn && !x.draining then some x.target else none) else x.groupOf pipe

/-- The transmitter of a port of a group holds a copy while others wait behind it: a full egress transmitter
(assumption 111). -/
def State.egressFull (s : State) (g : Nat) : Bool :=
  s.busyPorts.any (fun p => portGroup p = g && (List.range 16).any (fun c => !s.queueEmpty (p * 16 + c)))

/-- A pipeline drains for a resolution or a switch (R256, R257). -/
def PassState.drains (x : PassState) (pipe : Nat) : Bool :=
  (x.resolving ≠ 0 && (pipe = x.serving || x.free = some pipe))
    || (x.switching.isSome && (x.free = some pipe || x.groupOf pipe = x.switching))

/-- A pipeline could not take a packet: its empty slot counts in STARVED_BACK; in every other case, reset hold among them,
it counts in STARVED_FRONT (R300). -/
def State.slotBlocked (s : State) (span : Nat) (pass : Pass) (pipe : Nat) : Bool :=
  let x := s.passOf span pass
  x.faulty.contains pipe || s.fenced (partyPipe span pass pipe) || x.drains pipe || s.grantsPaused || s.chip.mode = .safe ||
  match x.taking pipe, pass with
  | some g, .ingress => !s.inHold (span * 4 + g) && decide (4096 ≤ s.reorderUse (span * 4 + g))
  | some g, .egress => s.egressFull (span * 4 + g)
  | none, _ => false

/-- The slots of `clocks` core clocks of a physical pipeline that no packet has taken are counted. -/
def State.starve (s : State) (span : Nat) (pass : Pass) (pipe clocks : Nat) : State :=
  let no := pipeNo span pass pipe
  let y := s.pipeOf no
  let empty := 2 * clocks - y.owed
  let s := if y.owed = 0 then s else s.setPipe no { y with owed := y.owed - 2 * clocks }
  if empty = 0 then s else s.count (cPipe no (if s.slotBlocked span pass pipe then 4 else 3)) empty

/-- The empty slots of every physical pipeline of a die, whose core clock is the one of its spans (R17, R471). -/
def State.countStarved (s : State) (die clocks : Nat) : State :=
  if clocks = 0 then s
  else
    (List.range 80).foldl (fun s k =>
      s.starve (die * 8 + k / 10) (if k % 10 < 5 then .ingress else .egress) (k % 5) clocks) s

/-- One cycle of the time-unit clock of a device that has its clocks. -/
def State.cycle (s : State) : State :=
  let n := s.clocksDue 0
  let m := s.clocksDue 1
  tick ((((s.voteBases.countStopped n).countThresholds n).countStarved 0 n).countStarved 1 m).addEnergy

/-- A nanosecond passes with no command: in OFF nothing runs (R484). -/
def State.idle (s : State) : State := if s.chip.mode = .off then s else s.cycle

end Sys2Proof.Machine
end

