-- ==== Sys2Proof/Safety.lean ====
section
/-! DEFINITION. The terms in which claims about runs of the device are made: the canonical form of its stores, the parts
of its state, and what a step may touch. -/

namespace Sys2Proof.Machine

/-- The bytes of the shared buffer are in canonical form: addresses strictly rising, and no entry equal to what an
unlisted byte reads as (R163, assumption 3). -/
def Memory.wf (m : List (Nat × Byte)) : Bool := Tbl.wf cellByteDefault m

/-- Every store of the device that is read and written by address is in canonical form, so that stores that read the
same are the same: registers, holding copies, counters, shared buffer, flash, and the host's memory. -/
structure State.Canonical (s : State) : Prop where
  regs     : Tbl.wf resetWord s.regs = true
  holding  : Tbl.wf (fun _ => (0 : Word)) s.holding = true
  counters : Tbl.wf zeroNat s.counters = true
  hostMem  : Tbl.wf hostByteDefault s.hostMem = true
  mem      : Memory.wf s.buf.mem = true
  flash    : Tbl.wf flashErased s.boot.flash = true

/-- The parts of the state, as `State` names them; the bytes of the shared buffer (`mem`) are a part of their own beside
the buffer's lists, links, descriptors and counts (`buf`). -/
inductive StatePart where
  | pending | regs | holding | readData | counters | hostMem | emitted | freeCount | chip | fc | buf | mem | rx | pipes
  | progs | tables | trestle | ord | egr | tel | via | cmp | pierTx | lanes | piers | time | hq | jrn | ks | pwr | boot
deriving DecidableEq, Repr

/-- The two states hold the same in a part. -/
def StatePart.same (p : StatePart) (s t : State) : Prop :=
  match p with
  | .pending => t.pending = s.pending
  | .regs => t.regs = s.regs
  | .holding => t.holding = s.holding
  | .readData => t.readData = s.readData
  | .counters => t.counters = s.counters
  | .hostMem => t.hostMem = s.hostMem
  | .emitted => t.emitted = s.emitted
  | .freeCount => t.freeCount = s.freeCount
  | .chip => t.chip = s.chip
  | .fc => t.fc = s.fc
  | .buf => { t.buf with mem := [] } = { s.buf with mem := [] }
  | .mem => t.buf.mem = s.buf.mem
  | .rx => t.rx = s.rx
  | .pipes => t.pipes = s.pipes
  | .progs => t.progs = s.progs
  | .tables => t.tables = s.tables
  | .trestle => t.trestle = s.trestle
  | .ord => t.ord = s.ord
  | .egr => t.egr = s.egr
  | .tel => t.tel = s.tel
  | .via => t.via = s.via
  | .cmp => t.cmp = s.cmp
  | .pierTx => t.pierTx = s.pierTx
  | .lanes => t.lanes = s.lanes
  | .piers => t.piers = s.piers
  | .time => t.time = s.time
  | .hq => t.hq = s.hq
  | .jrn => t.jrn = s.jrn
  | .ks => t.ks = s.ks
  | .pwr => t.pwr = s.pwr
  | .boot => t.boot = s.boot

/-- Between the two states nothing changes but the parts listed. -/
def OnlyTouches (ps : List StatePart) (s t : State) : Prop := ∀ p, p ∉ ps → p.same s t

/-- What raising a fault may touch, with every reaction that hardware starts from it (R428 to R447): the fault collector,
the state of the chip, its pins and pier links, the pipelines and the frames in them, the engines, the armed joint, the
copies in transmission, the operating point, the cells that fault records take (R170, R184), and the counter of free values.
No byte of the shared buffer is among them. -/
def reactParts : List StatePart := [.regs, .counters, .emitted, .freeCount, .chip, .fc, .buf, .rx, .pipes, .progs, .trestle,
  .ord, .egr, .via, .pierTx, .pwr]

/-- The registers that a fault of class N or S can write: the class summary, ERR_S, the count of lost records and the
pending interrupts (R394, R430, R435, R438). -/
def faultRegister (o : Nat) : Bool :=
  o = 0x100004 || o = 0x100014 || o = 0x400004 || (decide (0x418000 ≤ o) && decide (o < 0x418100))

/-- Every register that such a fault does not write reads as before. -/
def FaultFrame (s t : State) : Prop := ∀ o, faultRegister o = false → t.reg o = s.reg o

/-- In state `t` the item of a span holds the content `x` whole, with the tables laid out as `s` has them: a classifier
rule with its control word, every row of an exact entry, both units and the result row of a ternary entry, or the half of
a row that a narrow LPM slot takes (R121, R140, R152, R153, R155). -/
def Holds (s t : State) (n : Nat) (item : TableRef) (x : ItemData) : Prop :=
  if isRule item then t.rule n (ruleOf item) = { value := x.row.toNat, mask := x.mask.toNat, ctl := x.ctl }
  else
    match s.tableOf n item.ternary item.unit with
    | some g =>
      let u := g.firstUnit item.ternary item.unit
      if item.ternary then
        t.tcamVal n (u % 32) item.row = x.row.toNat ∧ t.tcamMask n (u % 32) item.row = x.mask.toNat
          ∧ (g.width ≠ 0 → t.tcamVal n ((u + 1) % 32) item.row = x.row1.toNat
            ∧ t.tcamMask n ((u + 1) % 32) item.row = x.mask1.toNat)
          ∧ t.sram n (g.resultUnit item.unit) item.row = x.row2.toNat
      else if g.kind = 1 then
        t.sram n u item.row = x.row.toNat ∧ (2 ≤ g.width → t.sram n (u + 1) item.row = x.row1.toNat)
          ∧ (3 ≤ g.width → t.sram n (u + 2) item.row = x.row2.toNat)
      else t.sram n item.unit item.row = mergeRow (s.sram n item.unit item.row) x.row.toNat (s.itemBits n item) % 2 ^ 256
    | none =>
      if item.ternary then
        t.tcamVal n (item.unit % 32) item.row = x.row.toNat ∧ t.tcamMask n (item.unit % 32) item.row = x.mask.toNat
      else t.sram n item.unit item.row = x.row.toNat

/-- The table that an item of a span lies in, if any, has a geometry of R150. -/
def SoundItem (s : State) (n : Nat) (item : TableRef) : Bool :=
  (s.tableOf n item.ternary item.unit).all Geometry.valid

/-- What a command may touch: the parts of the state that its rules, and the reactions they call for, write. Everything
else it leaves as it was. -/
def footprint : Instr → List StatePart
  | .registerAccessMisaligned _ _ _ =>
    .readData :: reactParts
  | .registerWrite _ _ =>
    .lanes :: .time :: reactParts
  | .pairLowWordRead _ | .counterRead _ | .registerReadClear _ =>
    [.regs, .holding, .readData, .freeCount, .piers]
  | .flitCrcFail _ =>
    [.counters, .fc]
  | .d2dLinkFailover _ | .lockstepKatDone _ _ _ | .sysclkLoss | .frameStart _ _ | .limitCommit | .reclaim _ _
  | .mcGroupWrite _ _ | .mismatchVectorsChecked _ _ _ _ | .mismatchRerunChecked _ _ _ | .spareSwitch _ _ _
  | .spareReinstate _ _ | .reinstateDone _ _ _ _ | .jointArm _ | .jointCancel _ | .jointNow _ | .loadStart _
  | .loadComplete _ _ | .storeScrub _ _ _ | .tableKindWrite _ _ _ _ | .fecDegradeWindow _ _ _ _ | .pierAlignLost _
  | .pierFaultSymbolsRx _ | .keystoneComparatorMismatch _ | .keystoneWatchdogExpire _ | .keystoneSelftestDone _ _
  | .guScanAbort _ _ _ | .correctedThreshold _ | .errPinReadback _ _ _ | .fcPinTestWrite _ | .collectorMismatch
  | .viewCompare _ _ | .injectionKeyWrite _ | .injectionConfigWrite _ _ | .pmbusFailure | .pmbAlert _
  | .thermalSample _ | .regAlertConfirm | .concordRoundClose | .warmAuditDone | .calibrationWrite _ _ =>
    reactParts
  | .lockstepMismatch _ _ =>
    [.emitted, .chip, .fc]
  | .lockstepResume _ | .classifyDone _ | .frameEnd _ _ _ | .pipelineSlotGrant _ _ _ | .resultRelease _ _
  | .cellRead _ _ _ _ _ _ | .schedulerSelect _ | .transmitComplete _ | .spanResetEnd _ | .warmNAssert | .gotoService
  | .gotoTest =>
    .tel :: .cmp :: reactParts
  | .refclkSdLoss _ | .portEnable _ _ | .portDisable _ _ | .anPageRx _ _ _ _ | .linkDown _ | .bringupTimeout _
  | .trainingManualRequest _ _ =>
    .lanes :: reactParts
  | .pcieRefclkLoss | .rxRingReadAhead _ _ _ | .ringEnable _ _ _ | .ringDisable _ _ _ | .pcieLinkUp _ _ _ =>
    .hq :: reactParts
  | .cellWrite _ _ _ _ =>
    .mem :: .tel :: .cmp :: reactParts
  | .parseDone _ =>
    [.regs, .counters, .emitted, .freeCount, .rx, .time, .ks]
  | .stageExecute _ _ | .warmResume _ _ _ =>
    .tables :: .tel :: .cmp :: reactParts
  | .holderTransfer _ _ _ _ _ | .holderRelease _ _ _ | .cmpGrantRx _ _ | .cmpSyncAckRx _ _ | .viaInitRx _ _
  | .viaInitAckRx _ _ | .viaDataRx _ _ _ _ | .viaAckRx _ _ | .viaNakRx _ _ | .viaCreditRx _ _ | .linkHoldExpire _ =>
    .cmp :: reactParts
  | .faultLogRead =>
    [.regs, .readData, .buf]
  | .cmpReqRx _ _ _ =>
    [.cmp]
  | .cmpSyncTimer | .cmpSyncRx _ _ _ | .cmpMessageFlush _ =>
    [.counters, .egr, .cmp]
  | .transmitStart _ =>
    .tel :: .cmp :: .time :: .ks :: reactParts
  | .shaperRefill | .pfcPauseExpire _ _ =>
    [.egr]
  | .shaperSwap _ | .shaperConfigWrite _ _ _ _ =>
    [.regs, .egr]
  | .pfcXoffRefresh _ _ =>
    [.counters, .emitted]
  | .pfcRx _ _ _ | .pauseRx _ _ =>
    [.counters, .pipes, .egr]
  | .viaInitTimer _ | .viaAckTimer _ | .viaCreditTimer _ =>
    [.emitted, .via]
  | .viaRetransmitDone _ =>
    [.via]
  | .viaRetryTimeout _ | .linkUp _ _ _ =>
    .cmp :: .lanes :: reactParts
  | .viaHoldWrite _ _ | .tbSnapshot _ | .cadSlotWrite _ _ _ _ | .trainingDone _ | .pierFrameBad _ | .guScanDone _ _
  | .faultSelect _ =>
    [.regs]
  | .lossLogRead =>
    [.regs, .readData, .ord]
  | .shadowPeriodEnd _ _ | .shadowPeriodStart _ _ | .katVectorInsert _ _ _ | .mismatchDrained _ _ | .spareDrained _ _ =>
    [.pipes]
  | .spanResetRequest _ | .powerOn | .resetNAssert | .coldResetRequest _ | .warmResetRequest _ =>
    .holding :: .mem :: .tables :: .tel :: .cmp :: .lanes :: .piers :: .time :: .hq :: .jrn :: .ks :: .boot :: reactParts
  | .spanLogicReset _ =>
    [.chip, .pipes]
  | .spanRecopyDone _ _ =>
    [.chip, .progs, .tables]
  | .spanVectorsDone _ _ =>
    [.regs, .counters, .emitted, .freeCount, .chip, .fc, .buf, .pipes, .trestle, .pierTx]
  | .spanReplayStart _ =>
    [.chip, .trestle]
  | .journalProgram _ | .trestleStop _ _ | .trestleResume _ _ | .trestleAbort _ _ | .infoIdentify _ | .auditRun _
  | .ptpStatus _ | .pierSend _ | .fuseOwnerKey _ | .updateStatus _ | .powerStatus _ | .journalFlushDone _ _ =>
    .hq :: .jrn :: reactParts
  | .journalCheckpoint =>
    [.jrn]
  | .journalForceWt _ | .journalFastResume =>
    [.regs, .emitted, .jrn]
  | .telRollWrite _ | .mirrorSessionWrite _ _ _ =>
    [.regs, .tel]
  | .mirrorRecordWrite _ _ _ | .rxCopyDeliver _ _ _ =>
    .hostMem :: .tel :: .cmp :: .hq :: reactParts
  | .servoSample _ | .tbHoldoverTimeout _ | .tbSrcWrite _ _ | .cadSrcWrite _ | .cadAlign _ | .faultLatch _ =>
    .time :: reactParts
  | .tbOffsetSubmit _ _ | .ppsInEdge _ | .tmark _ _ =>
    [.regs, .time]
  | .tbSecondPublish | .cadSlewEnd =>
    [.time]
  | .tbPubRead =>
    [.holding, .readData]
  | .ppsOutPulse | .ppsOutEnd =>
    [.emitted, .time]
  | .cadSlotFire _ =>
    [.regs, .counters, .emitted, .freeCount, .fc, .buf, .progs, .egr, .tel, .pierTx, .pwr]
  | .jointCheck =>
    [.regs, .counters, .emitted, .freeCount, .fc, .buf, .progs, .pierTx]
  | .windowRead _ =>
    [.readData, .progs]
  | .windowWrite _ _ | .tableScrub _ _ _ _ | .replicaCompare _ =>
    .tables :: reactParts
  | .trestleRoutineStart _ | .trestleBranch _ _ =>
    [.trestle]
  | .trestleLd _ _ _ | .trestleAlu _ _ _ _ _ | .trestleHash _ _ _ _ _ =>
    [.regs, .trestle]
  | .trestleStage _ _ _ =>
    [.tables, .trestle]
  | .trestleFlip _ _ _ _ | .trestleBflip _ _ _ _ _ =>
    [.counters, .tables, .trestle]
  | .trestleHalt _ _ | .tableInsert _ _ | .tableDelete _ _ | .tableModify _ _ | .tableRead _ _ =>
    .hostMem :: .tables :: .hq :: .jrn :: reactParts
  | .agingSweep _ =>
    [.counters, .tables, .trestle, .hq]
  | .laneSignalDetect _ | .trainingRequestRx _ _ | .trainingResponseRx _ _ _ =>
    [.regs, .emitted, .lanes]
  | .linkStable _ | .eyeScanStart _ _ | .eyeScanStop _ _ | .eyeScanDone _ _ =>
    [.regs, .lanes]
  | .failedRetryTimer _ | .cqCoalTimer _ _ | .errSRelease _ | .msixVectorUnmask _ =>
    [.regs, .emitted]
  | .pierAlignSearch _ | .pierAlignLock _ | .pierStepSwitch _ =>
    [.regs, .piers]
  | .pierSlip _ | .step _ _ | .tmarkTimeout _ | .fault _ _ =>
    [.piers]
  | .pierEnableWrite _ _ =>
    [.regs, .emitted, .piers]
  | .pierCapTimer _ | .cap _ _ =>
    [.regs, .emitted, .pierTx, .piers]
  | .pierStepTimeout _ =>
    .piers :: reactParts
  | .tmarkPeriod _ =>
    [.emitted, .piers]
  | .timeMarkRx _ =>
    [.emitted, .pierTx, .piers]
  | .mgmt _ _ =>
    [.emitted, .freeCount, .pierTx, .ks, .boot]
  | .pierFaultRepeat =>
    [.emitted, .pierTx]
  | .pcieFlr | .pciePerst =>
    [.regs, .counters, .buf, .trestle, .hq]
  | .pcieBusMasterOff | .sqResourceFree _ =>
    [.regs, .hq]
  | .pcieBusMasterOn _ | .sqDoorbell _ _ _ | .cqDoorbell _ _ _ | .sqRescanTimer _ =>
    [.regs, .emitted, .hq]
  | .sqScan _ _ _ _ | .updateRead _ | .updateSettingsRead _ | .powerConcordReport _ =>
    .hostMem :: .hq :: .jrn :: reactParts
  | .txPacketReadDone _ _ _ =>
    .mem :: .tel :: .cmp :: .hq :: reactParts
  | .completionPost _ _ =>
    [.regs, .counters, .hostMem, .emitted, .hq]
  | .eventRecordWrite _ _ =>
    .hostMem :: .hq :: reactParts
  | .keystoneTakeoverStart _ =>
    .hq :: .ks :: reactParts
  | .keystoneTakeoverDone _ =>
    [.regs, .emitted, .fc, .ks]
  | .keystoneReinstate _ | .keystoneReturn _ | .call _ _ _ | .ret _ | .wsave _ _ | .wload _ _ | .texit _
  | .kcTrapEntry _ _ | .kcInterrupt _ _ | .guScanStart _ _ _ =>
    .ks :: reactParts
  | .tableSetAge _ =>
    .tables :: .hq :: .jrn :: reactParts
  | .ptpInstance _ | .ptpPort _ =>
    .hq :: .jrn :: .ks :: reactParts
  | .pierAlign _ _ =>
    .piers :: .hq :: .jrn :: reactParts
  | .updateErase _ _ | .updateWrite _ _ _ | .updateActivate _ | .updateSettingsWrite _ _ _ =>
    .hq :: .jrn :: .boot :: reactParts
  | .faultCauseClear _ _ _ _ =>
    [.fc]
  | .errSTimerExpire =>
    [.regs, .emitted, .fc]
  | .safeStateComplete =>
    [.emitted, .fc]
  | .injectionKeyTimeout =>
    [.regs, .fc]
  | .injectionFire =>
    .lanes :: .hq :: .jrn :: reactParts
  | .injectionLevelEnd =>
    [.regs, .emitted, .chip, .fc, .pwr]
  | .opPolicyWrite _ _ | .riseVoutCommand | .riseReadVout _ | .avsAdjust _ _ | .throttleReleaseStep | .tjmaxCapEnd =>
    [.regs, .emitted, .pwr]
  | .droopDetect _ =>
    [.regs, .pwr]
  | .droopRecover _ =>
    [.pwr]
  | .throttleStep | .concordRoundOpen | .concord _ _ =>
    [.regs, .emitted, .pierTx, .pwr]
  | .regAlertEnd =>
    [.regs, .emitted, .fc, .pwr]
  | .holdupCompare _ _ | .holdupRebase _ =>
    .jrn :: reactParts
  | .mainSupplyFail =>
    [.regs, .emitted, .chip, .jrn, .boot]
  | .railFault _ _ _ =>
    .lanes :: .jrn :: .boot :: reactParts
  | .resetNRelease _ _ =>
    .boot :: reactParts
  | .warmResetSeal =>
    [.holding, .counters, .emitted, .chip, .rx, .pipes, .trestle, .ord, .egr, .via]
  | .warmResetRelease =>
    [.regs, .chip, .buf, .trestle, .hq, .ks]
  | .warmResetEnd =>
    .tel :: .cmp :: .hq :: reactParts
  | .collectorSelftestDone _ =>
    [.regs, .counters, .emitted, .freeCount, .chip, .fc, .buf, .pipes, .progs, .trestle, .egr, .via, .pierTx, .pwr, .boot]
  | .bootVerifyDone _ | .bootStartTimeout _ =>
    [.regs, .boot]
  | .bootReady _ _ =>
    .lanes :: .time :: .hq :: .jrn :: .boot :: reactParts
  | .referenceClockReturn _ =>
    [.chip, .fc]

end Sys2Proof.Machine
end

