-- ==== Sys2Proof/Certificates/Slice0/Obligations.lean ====
section
/-! DEFINITION. The statements for the provers: what the rules of the spec say of the commands and of the machine. -/

open Sys2Proof Sys2Proof.Machine

/-- For every command c and state s, a step of s with c at the front of its queue is exec of c on s with the queue's rest.
The queue is the model's own (log entry 8). (95_what_each_step_holds) -/
def Obligations.StepRunsTheFrontCommand : Prop :=
    ∀ (c : Instr) (s : State),
      step { s with pending := c :: s.pending } = exec c s

/-- With an empty queue a step always answers a next state: in OFF the state itself, else one in which the time-unit clock
has counted one nanosecond more and no command waits. That an empty queue is a cycle of the clock is the model's
choice (log entry 1). (R37) -/
def Obligations.AnEmptyQueueIsOneNanosecond : Prop :=
    (∀ (s : State),
      s.pending = [] →
      s.chip.mode ≠ .off →
      ∃ t, step s = .next t ∧ t.pending = [] ∧ t.now = s.now + 1) ∧
    (∀ (s : State),
      s.pending = [] →
      s.chip.mode = .off →
      step s = .next s)

/-- The state right after reset holds its stores in canonical form, and its queue is empty. The canonical form is the
model's own. (R484) -/
def Obligations.ResetCanonical : Prop :=
    State.Canonical State.reset ∧ State.reset.pending = []

/-- After reset CHIP_ID reads 0x9640_00B1, CHIP_STATE reads 0x11 (STATE and PREV 1), FC_STATUS, FC_SAFE and MC_LOAD_STATUS
read 0, and CUR_OP of PWR_STATUS is 0; every performance counter is 0, and the record of every source of the fault
collector is empty. (R1, R503, R461, R105, R483) -/
def Obligations.ResetRegisters : Prop :=
    (State.reset.readReg 0 = 0x964000B1 ∧ State.reset.readReg 0x4 = 0x11 ∧ State.reset.readReg 0x100000 = 0 ∧ State.reset.readReg 0x100008 = 0 ∧
      State.reset.readReg 0x12C = 0 ∧ State.reset.fld 0x300008 31 29 = 0) ∧
    (∀ (off : Nat),
      State.reset.counter off = 0 ∧ State.reset.source off = {})

/-- From every state whose stores (the registers, the holding copies, the counters, the host memory written, the cell
memory, the flash) are in canonical form, whatever command stands at the front of the queue, and also with no command
waiting, a step that answers a next state answers one whose stores are in canonical form. (R10, R163, R295, R368,
R492) -/
def Obligations.StepKeepsCanonical : Prop :=
    ∀ (s t : State),
      s.Canonical →
      step s = .next t →
      t.Canonical

/-- For every command and every state exec answers a next state; it differs from the state before in no part of the state
outside the command's footprint, and the commands that wait are the same. The footprint lists, for each command, the
parts that its rules and the reactions of the fault collector write: it is the frame of every command at the grain of
the parts of the state. (95_what_each_step_holds) -/
def Obligations.CommandsKeepTheirFootprint : Prop :=
    ∀ (c : Instr) (s : State),
      ∃ t, exec c s = .next t ∧ OnlyTouches (footprint c) s t ∧ t.pending = s.pending

/-- Whatever command stands at the front of the queue, a step answers a next state whose queue is the rest of the queue;
with no command waiting the queue stays empty. (95_what_each_step_holds) -/
def Obligations.StepTakesOneCommand : Prop :=
    ∀ (s : State),
      ∃ t, step s = .next t ∧ t.pending = s.pending.tail

/-- Outside the closed part of a warm reset an aligned read completes and returns the value of the register. A read of a
register other than PMC_RD_TS (part 1) clears exactly the RC fields of the register and leaves every other register
but PMC_RD_TS, and the counters. A read of the low word of a pair (part 2) takes the live high word into the pair's
holding copy and into no other. A read of the low word of a performance counter (part 3) does that too, latches TB0
nanoseconds in PMC_RD_TS, and leaves the counters and every other register. A read of PMC_RD_TS itself (part 4)
returns it and leaves every register. (R12, R15, R298) -/
def Obligations.RegisterReads : Prop :=
    (∀ (off : Offset) (s : State) (r : RegRow),
      off.toNat % 4 = 0 →
      off.toNat ≠ 0x2FF0000 →
      regRow off.toNat = some r →
      s.closed off.toNat = false →
      ∃ t, exec (.registerReadClear off) s = .next t ∧ t.readData = s.readReg off.toNat ∧ t.reg off.toNat = clearRc r (s.reg off.toNat) ∧
      (∀ o, o ≠ off.toNat → o ≠ 0x2FF0000 → t.reg o = s.reg o) ∧ t.counters = s.counters) ∧
    (∀ (off : Offset) (s : State),
      off.toNat % 4 = 0 →
      isPairLow off.toNat = true →
      s.closed off.toNat = false →
      ∃ t, exec (.pairLowWordRead off) s = .next t ∧ t.readData = s.readReg off.toNat ∧ t.heldWord (off.toNat + 4) = s.liveWord (off.toNat + 4) ∧
      ∀ o, o ≠ off.toNat + 4 → t.heldWord o = s.heldWord o) ∧
    (∀ (off : Offset) (s : State),
      off.toNat % 8 = 0 →
      isCounter off.toNat = true →
      s.closed off.toNat = false →
      ∃ t, exec (.counterRead off) s = .next t ∧ t.readData = s.readReg off.toNat ∧ t.reg 0x2FF0000 = s.tb0Ns ∧ t.counters = s.counters ∧ (∀ o, o ≠ 0x2FF0000 → t.reg o = s.reg o) ∧
      t.heldWord (off.toNat + 4) = s.liveWord (off.toNat + 4) ∧ ∀ o, o ≠ off.toNat + 4 → t.heldWord o = s.heldWord o) ∧
    (∀ (s : State),
      s.closed 0x2FF0000 = false →
      ∃ t, exec (.registerReadClear 0x2FF0000) s = .next t ∧ t.readData = s.reg 0x2FF0000 ∧ t.regs = s.regs ∧ t.counters = s.counters ∧ t.holding = s.holding)

/-- From 2 us to 100 ms of a warm reset (the part the model calls sealed) a register access outside CHIP and FC, whichever
command carries it, has no effect but that a read returns 0xFFFF_FFFF: nothing else of the state changes, the sources
of faults included. The registers of CHIP and FC (below 0x20_0000) keep answering with their values. (R490) -/
def Obligations.ClosedRegistersAnswerNothing : Prop :=
    (∀ (off : Offset) (v : Word) (s : State),
      s.chip.warm = .sealed →
      0x200000 ≤ off.toNat →
      ∃ t, exec (.registerWrite off v) s = .next t ∧ t = s) ∧
    (∀ (off : Offset) (s : State),
      s.chip.warm = .sealed →
      0x200000 ≤ off.toNat →
      ∃ t, exec (.registerReadClear off) s = .next t ∧ t = { s with readData := 0xFFFFFFFF }) ∧
    (∀ (off : Offset) (s : State),
      s.chip.warm = .sealed →
      0x200000 ≤ off.toNat →
      ∃ t, exec (.pairLowWordRead off) s = .next t ∧ t = { s with readData := 0xFFFFFFFF }) ∧
    (∀ (off : Offset) (s : State),
      s.chip.warm = .sealed →
      0x200000 ≤ off.toNat →
      exec (.counterRead off) s = .next { s with readData := 0xFFFFFFFF } ∧ exec (.faultLogRead) s = .next { s with readData := 0xFFFFFFFF } ∧
      exec (.tbPubRead) s = .next { s with readData := 0xFFFFFFFF } ∧ exec (.windowRead off) s = .next { s with readData := 0xFFFFFFFF }) ∧
    (∀ (v : Word) (off : Offset) (l : Lane) (n : Four) (w : Fin 32) (u : Fin 16) (sp : Span) (t : Fin 240) (b : Bool) (r : Ring) (g : Fin 32768) (x : Fin 21504) (k : Fin 2) (z : Sixtyfour) (i : Fin 5) (s : State),
      s.chip.warm = .sealed →
      0x200000 ≤ off.toNat →
      exec (.limitCommit) s = .next s ∧ exec (.reclaim false v) s = .next s ∧ exec (.calibrationWrite off v) s = .next s ∧ exec (.mcGroupWrite g v) s = .next s ∧ exec (.shaperSwap v) s = .next s ∧ exec (.shaperConfigWrite x k b v) s = .next s ∧ exec (.guScanStart u v none) s = .next s ∧ exec (.guScanAbort u v false) s = .next s ∧ exec (.journalForceWt v) s = .next s ∧ exec (.keystoneReinstate v) s = .next s ∧ exec (.keystoneReturn v) s = .next s ∧ exec (.portEnable l v) s = .next s ∧ exec (.portDisable l v) s = .next s ∧ exec (.trainingManualRequest l v) s = .next s ∧ exec (.eyeScanStart l v) s = .next s ∧ exec (.eyeScanStop l v) s = .next s ∧ exec (.pierEnableWrite n v) s = .next s ∧ exec (.opPolicyWrite b v) s = .next s ∧ exec (.ringEnable b r v) s = .next s ∧ exec (.ringDisable b r v) s = .next s ∧ exec (.spareReinstate sp v) s = .next s ∧ exec (.telRollWrite v) s = .next s ∧ exec (.mirrorSessionWrite z b v) s = .next s ∧ exec (.tbSrcWrite n v) s = .next s ∧ exec (.tbSnapshot v) s = .next s ∧ exec (.cadSrcWrite v) s = .next s ∧ exec (.cadAlign v) s = .next s ∧ exec (.cadSlotWrite z i v true) s = .next s ∧ exec (.trestleStop sp v) s = .next s ∧ exec (.trestleResume sp v) s = .next s ∧ exec (.trestleAbort sp v) s = .next s ∧ exec (.tableKindWrite sp t b v) s = .next s ∧ exec (.viaHoldWrite w v) s = .next s ∧ exec (.windowWrite off v) s = .next s) ∧
    (∀ (off : Offset) (s : State),
      s.chip.warm = .sealed →
      off.toNat < 0x200000 →
      off.toNat % 4 = 0 →
      ∃ t, exec (.registerReadClear off) s = .next t ∧ t.readData = s.readReg off.toNat)

/-- Outside the closed part of a warm reset an access of another size or alignment writes nothing, returns 0xFFFF_FFFF
when it is a read, and latches a class-N fault against element 0 of CHIP whose DETAIL is the offset and the direction;
no other source changes, no register but those that a fault writes (the collector's summary and its error lines, the
count of lost records and the pending interrupts), and no part of the state but those named in the statement. A
register access of 4 bytes at an aligned offset is none and changes nothing here. (R10) -/
def Obligations.MisalignedAccess : Prop :=
    (∀ (off : Offset) (n : Nat) (w : Bool) (s : State),
      ¬ (n = 4 ∧ off.toNat % 4 = 0) →
      s.closed off.toNat = false →
      ∃ t, exec (.registerAccessMisaligned off n w) s = .next t ∧ t.readData = (if w then s.readData else 0xFFFFFFFF) ∧
      (t.source 0xF800).cause = true ∧ (t.source 0xF800).cls = .n ∧ (t.source 0xF800).detail = BitVec.ofNat 64 (off.toNat + w.toNat * 2 ^ 26) ∧
      (∀ x, x ≠ 0xF800 → t.source x = s.source x) ∧ FaultFrame s t ∧ OnlyTouches [.readData, .regs, .counters, .emitted, .freeCount, .fc, .buf] s t) ∧
    (∀ (off : Offset) (w : Bool) (s : State),
      off.toNat % 4 = 0 →
      exec (.registerAccessMisaligned off 4 w) s = .next s)

/-- For the registers of CHIP (below 0x10_0000, but CHIP_STATE_CTRL) and of FC: a write that would change no RWL field, or
in START-UP or TEST any write, takes every field under its access type and changes nothing else (part 1). For a
register of CHIP, a write that would change an RWL field outside START-UP and TEST leaves that field while the others
take the write, leaves every other register of CHIP, and latches a class-N fault against CHIP element 1 with the
offset in DETAIL; no other source changes (part 2). In both blocks a write where no register stands has no effect
(part 3). Bits 11:0 of the register at 0x400 (DEVICE_ID) keep their value outside START-UP and TEST while bits 31:16
take the write (part 4). An access of the wrong size or alignment while its block is closed in a warm reset (R490) has
no effect but that a read returns all ones: this last part is the model's reading (log entry 11). (R12, R14, R16,
R525) -/
def Obligations.RegisterWrites : Prop :=
    (∀ (off : Offset) (v : Word) (s : State) (r : RegRow),
      off.toNat < 0x200000 →
      off.toNat % 4 = 0 →
      off.toNat ≠ 8 →
      regRow off.toNat = some r →
      s.rwlOpen = true ∨ rwlDiffers r (s.reg off.toNat) v = false →
      ∃ t, exec (.registerWrite off v) s = .next t ∧ t = s.setReg off.toNat (writeWord r s.rwlOpen (s.reg off.toNat) v)) ∧
    (∀ (off : Offset) (v : Word) (s : State) (r : RegRow),
      off.toNat < 0x100000 →
      off.toNat % 4 = 0 →
      off.toNat ≠ 8 →
      regRow off.toNat = some r →
      s.rwlOpen = false →
      rwlDiffers r (s.reg off.toNat) v = true →
      ∃ t, exec (.registerWrite off v) s = .next t ∧ (∀ o, o < 0x100000 → t.reg o = if o = off.toNat then writeWord r false (s.reg o) v else s.reg o) ∧
      (t.source 0xF801).cause = true ∧ (t.source 0xF801).cls = .n ∧ (t.source 0xF801).detail = BitVec.ofNat 64 (off.toNat + 2 ^ 26) ∧ ∀ x, x ≠ 0xF801 → t.source x = s.source x) ∧
    (∀ (off : Offset) (v : Word) (s : State),
      off.toNat < 0x200000 →
      off.toNat % 4 = 0 →
      off.toNat ≠ 8 →
      regRow off.toNat = none →
      ∃ t, exec (.registerWrite off v) s = .next t ∧ t = s) ∧
    (∀ (v : Word) (s : State),
      s.rwlOpen = false →
      ∃ t, exec (.registerWrite 0x400 v) s = .next t ∧ t.fld 0x400 11 0 = s.fld 0x400 11 0 ∧ t.fld 0x400 31 16 = v.toNat / 65536) ∧
    (∀ (off : Offset) (n : Nat) (w : Bool) (s : State),
      s.chip.warm = .sealed →
      0x200000 ≤ off.toNat →
      ¬ (n = 4 ∧ off.toNat % 4 = 0) →
      ∃ t, exec (.registerAccessMisaligned off n w) s = .next t ∧ t = { s with readData := if w then s.readData else 0xFFFFFFFF })

/-- On a die-to-die link that carries traffic a failed flit counts one replay, among those of the last 1 ms, and no other
element's corrections change; on a link that carries none it has no effect. A link that carries traffic and has had
more than 16 replays within 1 ms is taken out of use, and its source latches a class-S fault, whatever spares there
are: the traffic it carried (its own, or for a spare that of the link it stood for) goes to the first spare that has
not failed and carries nothing, whichever of the four that is, and to none when there is no such spare; no other link
and no other source changes. A fail-over of a link below the threshold, or of one that carries no traffic, has no
effect. That the replays are counted as corrections of the link is the model's reading (log entry 74). (R18, R24,
R428) -/
def Obligations.DieLinksReplayAndFailOver : Prop :=
    (∀ (l : Fin 68) (s : State),
      s.d2dRuns l = true →
      ∃ t, exec (.flitCrcFail l) s = .next t ∧ t.counter (cChip 4) = (s.counter (cChip 4) + 1) % 2 ^ 64 ∧
      t.corrections (d2dSource l) = (s.now :: (s.corrections (d2dSource l)).filter (fun x => decide (s.now < x + 1000000))).take 17 ∧
      (∀ x, x ≠ d2dSource l → t.corrections x = s.corrections x) ∧ OnlyTouches [.counters, .fc] s t) ∧
    (∀ (l : Fin 68) (s : State),
      s.d2dRuns l = false →
      ∃ t, exec (.flitCrcFail l) s = .next t ∧ t = s) ∧
    (∀ (l : Fin 68) (k : Fin 4) (s : State),
      s.overThreshold (d2dSource l) = true →
      s.d2dRuns l = true →
      (s.d2dLink (64 + k.val)).failed = false →
      s.d2dCarried (64 + k.val) = none →
      (∀ j, j < k.val → (s.d2dLink (64 + j)).failed = true ∨ (s.d2dCarried (64 + j)).isSome = true) →
      ∃ t, exec (.d2dLinkFailover l) s = .next t ∧ (t.source (d2dSource l)).cause = true ∧ (t.source (d2dSource l)).cls = .s ∧ (t.d2dLink l).failed = true ∧ (l.val < 64 → (t.d2dLink l).spare = some (64 + k.val)) ∧
      (∀ i, 64 ≤ l.val → s.d2dCarried l = some i → (t.d2dLink i).spare = some (64 + k.val)) ∧ (∀ j, j ≠ l.val → s.d2dCarried l ≠ some j → t.d2dLink j = s.d2dLink j) ∧
      (∀ x, x ≠ d2dSource l → t.source x = s.source x) ∧ OnlyTouches [.chip, .regs, .counters, .emitted, .freeCount, .fc, .buf, .pierTx] s t) ∧
    (∀ (l : Fin 68) (s : State),
      s.overThreshold (d2dSource l) = true →
      s.d2dRuns l = true →
      (∀ j, j < 4 → (s.d2dLink (64 + j)).failed = true ∨ (s.d2dCarried (64 + j)).isSome = true) →
      ∃ t, exec (.d2dLinkFailover l) s = .next t ∧ (t.source (d2dSource l)).cause = true ∧ (t.source (d2dSource l)).cls = .s ∧ (t.d2dLink l).failed = true ∧ (l.val < 64 → (t.d2dLink l).spare = none) ∧
      (∀ i, 64 ≤ l.val → s.d2dCarried l = some i → (t.d2dLink i).spare = none) ∧ (∀ j, j ≠ l.val → s.d2dCarried l ≠ some j → t.d2dLink j = s.d2dLink j) ∧
      (∀ x, x ≠ d2dSource l → t.source x = s.source x) ∧ OnlyTouches [.chip, .regs, .counters, .emitted, .freeCount, .fc, .buf, .pierTx] s t) ∧
    (∀ (l : Fin 68) (s : State),
      s.overThreshold (d2dSource l) = false ∨ s.d2dRuns l = false →
      ∃ t, exec (.d2dLinkFailover l) s = .next t ∧ t = s)

/-- A mismatch of a pair that runs makes it check: the buffer pool, the free lists and the order keepers hold their
grants, and the collector may drive ERR_D apart; no other pair changes. What the check finds is what the command says
of the two copies, or, where an injection has fired at the pair, what its kind makes of them. When both copies pass,
no copy is fenced, and when the grants resume a class-N fault is recorded against element 0 of the block. When one
copy fails and the standby copy is unused, that copy is fenced; when the grants resume the standby is in use and a
class-S fault is latched against the copy that failed. When a copy fails with the standby in use, or both fail, the
device enters the safe state. Where an injection suppresses the reactions, a copy that fails alone is neither fenced
nor replaced, and its fault is latched all the same. No other source changes at the resumption. The clauses about the
resumption are for a collector with no reaction waiting, order keepers with no packet of a host ring waiting, and a
buffer manager with no holder operation waiting; the one about the safe state is for a device out of OFF whose
reactions no injection suppresses, and a collector that is not itself being checked. (R26, R27, R437, R443, R456,
R526) -/
def Obligations.LockstepPairs : Prop :=
    (∀ (b : LockBlock) (pin : Option Bool) (s : State),
      (s.lockPair b).phase = .paired →
      ∃ t, exec (.lockstepMismatch b pin) s = .next t ∧ (t.lockPair b).phase = .checking ∧ (∀ c, c ≠ b → t.lockPair c = s.lockPair c) ∧ (b ≠ .collector → t.grantsPaused = true) ∧ (b = .bufferPool ∨ b = .freeList → t.bufferPaused = true) ∧
      (b = .collector → t.fc.errFlip = pin) ∧ (b ≠ .collector → OnlyTouches [.chip] s t) ∧ OnlyTouches [.chip, .fc, .emitted] s t) ∧
    (∀ (b : LockBlock) (pin : Option Bool) (s : State),
      (s.lockPair b).phase ≠ .paired →
      ∃ t, exec (.lockstepMismatch b pin) s = .next t ∧ t = s) ∧
    (∀ (b : LockBlock) (passA passB : Bool) (s : State),
      (s.lockPair b).phase = .checking →
      (s.lockInjects b).getD (passA, passB) = (true, true) →
      ∃ t, exec (.lockstepKatDone b passA passB) s = .next t ∧ (t.lockPair b).phase = .joining ∧ (t.lockPair b).failed = none ∧ (t.lockPair b).standbyUsed = (s.lockPair b).standbyUsed ∧ (∀ c, c ≠ b → t.lockPair c = s.lockPair c) ∧ OnlyTouches [.chip] s t) ∧
    (∀ (b : LockBlock) (passA passB two : Bool) (s : State),
      (s.lockPair b).phase = .checking →
      (s.lockInjects b).getD (passA, passB) = (two, !two) →
      (s.lockPair b).standbyUsed = false →
      s.lockQuiet b = false →
      ∃ t, exec (.lockstepKatDone b passA passB) s = .next t ∧ (t.lockPair b).phase = .joining ∧ (t.lockPair b).failed = some ((s.lockPair b).copyAt two) ∧ (t.lockPair b).standbyUsed = false ∧ (∀ c, c ≠ b → t.lockPair c = s.lockPair c) ∧
      t.fenced (partyLock b ((s.lockPair b).copyAt two)) = true ∧ OnlyTouches [.chip, .fc] s t) ∧
    (∀ (b : LockBlock) (passA passB two : Bool) (s : State),
      (s.lockPair b).phase = .checking →
      (s.lockInjects b).getD (passA, passB) = (two, !two) →
      s.lockQuiet b = true →
      ∃ t, exec (.lockstepKatDone b passA passB) s = .next t ∧ (t.lockPair b).phase = .joining ∧ (t.lockPair b).failed = some ((s.lockPair b).copyAt two) ∧ (t.lockPair b).standbyUsed = (s.lockPair b).standbyUsed ∧ OnlyTouches [.chip] s t) ∧
    (∀ (b : LockBlock) (passA passB a c : Bool) (s : State),
      (s.lockPair b).phase = .checking →
      (s.lockInjects b).getD (passA, passB) = (a, c) →
      (a && c) = false →
      (s.lockPair b).standbyUsed = true ∨ (a || c) = false →
      s.fc.injNext = none ∨ s.fc.injQuiet = false →
      b = .collector ∨ s.chip.lockColl.phase = .paired →
      s.chip.mode ≠ .off →
      ∃ t, exec (.lockstepKatDone b passA passB) s = .next t ∧ t.chip.mode = .safe) ∧
    (∀ (b : LockBlock) (passA passB : Bool) (s : State),
      (s.lockPair b).phase ≠ .checking →
      ∃ t, exec (.lockstepKatDone b passA passB) s = .next t ∧ t = s) ∧
    (∀ (b : LockBlock) (c : Nat) (s : State),
      (b = .orderKeepers → ∀ e ∈ s.ord.pairs, e.1 < 16384) →
      (b = .collector → s.fc.waiting = []) →
      (b = .bufferPool ∨ b = .freeList → s.buf.waiting = []) →
      (s.lockPair b).phase = .joining →
      (s.lockPair b).failed = some c →
      s.lockQuiet b = false →
      ∃ t, exec (.lockstepResume b) s = .next t ∧ (t.lockPair b).phase = .paired ∧ (t.lockPair b).failed = none ∧ (t.lockPair b).standbyUsed = true ∧ (∀ c, c ≠ b → t.lockPair c = s.lockPair c) ∧ (b = .collector → t.fc.errFlip = none) ∧
      (t.source (lockSource b c)).cause = true ∧ (t.source (lockSource b c)).cls = .s ∧ ∀ x, x ≠ lockSource b c → t.source x = s.source x) ∧
    (∀ (b : LockBlock) (c : Nat) (s : State),
      (b = .orderKeepers → ∀ e ∈ s.ord.pairs, e.1 < 16384) →
      (b = .collector → s.fc.waiting = []) →
      (b = .bufferPool ∨ b = .freeList → s.buf.waiting = []) →
      (s.lockPair b).phase = .joining →
      (s.lockPair b).failed = some c →
      s.lockQuiet b = true →
      ∃ t, exec (.lockstepResume b) s = .next t ∧ (t.lockPair b).phase = .paired ∧ (t.lockPair b).failed = none ∧ (t.lockPair b).standbyUsed = (s.lockPair b).standbyUsed ∧ (∀ c, c ≠ b → t.lockPair c = s.lockPair c) ∧ (b = .collector → t.fc.errFlip = none) ∧
      (t.source (lockSource b c)).cause = true ∧ (t.source (lockSource b c)).cls = .s ∧ ∀ x, x ≠ lockSource b c → t.source x = s.source x) ∧
    (∀ (b : LockBlock) (s : State),
      (b = .orderKeepers → ∀ e ∈ s.ord.pairs, e.1 < 16384) →
      (b = .collector → s.fc.waiting = []) →
      (b = .bufferPool ∨ b = .freeList → s.buf.waiting = []) →
      (s.lockPair b).phase = .joining →
      (s.lockPair b).failed = none →
      ∃ t, exec (.lockstepResume b) s = .next t ∧ (t.lockPair b).phase = .paired ∧ (t.lockPair b).failed = none ∧ (t.lockPair b).standbyUsed = (s.lockPair b).standbyUsed ∧ (∀ c, c ≠ b → t.lockPair c = s.lockPair c) ∧ (b = .collector → t.fc.errFlip = none) ∧
      (t.source (lockSource b 0)).cause = true ∧ (t.source (lockSource b 0)).cls = .n ∧ ∀ x, x ≠ lockSource b 0 → t.source x = s.source x) ∧
    (∀ (b : LockBlock) (s : State),
      (s.lockPair b).phase ≠ .joining →
      ∃ t, exec (.lockstepResume b) s = .next t ∧ t = s)

/-- In every state the loss of SYSCLK shows LIVE on its monitor's source, and no other source changes but CHIP element 3,
where the abort of an armed joint is recorded; where it was not LIVE, it latches class D and the device enters the
safe state (out of OFF, unless an injection suppresses the reaction or the collector is being checked). In every state
the loss of a span's reference leaves no port of the span UP and its monitor LIVE; where it was not LIVE, it latches
class S. In every state the loss of the PCIe reference takes the PCIe link down, leaves its monitor LIVE, and leaves
the device in its state; where it was not LIVE, it latches class S. When the clock returns, LIVE clears while CAUSE
stays, and no other source and no register changes. (R38, R428, R443) -/
def Obligations.ReferenceClocks : Prop :=
    (∀ (s : State),
      ∃ t, exec (.sysclkLoss) s = .next t ∧ t.chip.sysclkLost = true ∧ (t.source 0xFE80).live = true ∧ (∀ x, x ≠ 0xFE80 → x ≠ 0xF803 → t.source x = s.source x)) ∧
    (∀ (s : State),
      (s.source 0xFE80).live = false →
      s.fc.injNext ≠ some 0xFE80 ∨ s.fc.injQuiet = false →
      s.chip.lockColl.phase = .paired →
      s.chip.mode ≠ .off →
      ∃ t, exec (.sysclkLoss) s = .next t ∧ t.chip.mode = .safe ∧ (t.source 0xFE80).live = true ∧ (t.source 0xFE80).cause = true ∧ (t.source 0xFE80).cls = .d) ∧
    (∀ (n : Span) (s : State),
      ∃ t, exec (.refclkSdLoss n) s = .next t ∧ n.val ∈ t.chip.sdRefLost ∧ (t.source (clockSource (2 + n))).live = true ∧ (∀ i, i < 64 → t.portState (n * 64 + i) ≠ 5)) ∧
    (∀ (n : Span) (s : State),
      (s.source (clockSource (2 + n))).live = false →
      ∃ t, exec (.refclkSdLoss n) s = .next t ∧ n.val ∈ t.chip.sdRefLost ∧ (t.source (clockSource (2 + n))).live = true ∧ (t.source (clockSource (2 + n))).cause = true ∧ (t.source (clockSource (2 + n))).cls = .s ∧ (∀ i, i < 64 → t.portState (n * 64 + i) ≠ 5)) ∧
    (∀ (s : State),
      ∃ t, exec (.pcieRefclkLoss) s = .next t ∧ t.hq.pcieUp = false ∧ t.chip.pcieRefLost = true ∧ (t.source 0xFE81).live = true ∧ t.chip.mode = s.chip.mode) ∧
    (∀ (s : State),
      (s.source 0xFE81).live = false →
      ∃ t, exec (.pcieRefclkLoss) s = .next t ∧ t.hq.pcieUp = false ∧ t.chip.pcieRefLost = true ∧ (t.source 0xFE81).live = true ∧ (t.source 0xFE81).cause = true ∧ (t.source 0xFE81).cls = .s ∧ t.chip.mode = s.chip.mode) ∧
    (∀ (n : Span) (s : State),
      ∃ t, exec (.referenceClockReturn (some n)) s = .next t ∧ n.val ∉ t.chip.sdRefLost ∧ (t.source (clockSource (2 + n))).live = false ∧ (t.source (clockSource (2 + n))).cause = (s.source (clockSource (2 + n))).cause ∧
      (∀ x, x ≠ clockSource (2 + n) → t.source x = s.source x) ∧ t.regs = s.regs) ∧
    (∀ (s : State),
      ∃ t, exec (.referenceClockReturn none) s = .next t ∧ t.chip.pcieRefLost = false ∧ (t.source 0xFE81).live = false ∧ (t.source 0xFE81).cause = (s.source 0xFE81).cause ∧
      (∀ x, x ≠ 0xFE81 → t.source x = s.source x) ∧ t.regs = s.regs)

/-- At the start of a frame on an available port with none in reception, the receiver takes the active generation, the TB0
nanoseconds, the stamps of the time bases, the port's configuration and, in viaduct mode, the deck header. In reset
hold or SAFE (part 2), with the arrival queue at 8,192 frames or more and the port's default class lossy (part 3), or
at 16,384 or more and that class lossless (parts 4 and 5), the arrival is discarded and the port counts one under the
event of the cause (7, 4 and 5). Nothing but the receivers, and where a frame is discarded the counters, changes; the
first discard of a group's overload at 16,384 also raises a class-S fault of the group's block, and no other source
changes. On a port that is not available, or that is receiving, a start has no effect. Telling lossy from lossless
arrivals by the port's default class is the model's choice (log entry 101), and so is when a discard counts as the
first again (log entry 129). (R108, R28, R32, R262, R443) -/
def Obligations.FramesStart : Prop :=
    (∀ (p : Port) (deck : DWord) (s : State),
      s.available p = true →
      s.rxFrame p = none →
      s.inHold (portGroup p) = false →
      s.chip.mode ≠ .safe →
      (s.arrivals (portGroup p)).length < 8192 ∨ (s.lossless (getBits (s.portCfg p) 9 6) = true ∧ (s.arrivals (portGroup p)).length < 16384) →
      ∃ t, exec (.frameStart p deck) s = .next t ∧ t.rxFrame p = some { gen := s.activeGen, tsIn := s.tb0Ns, stamp := s.stamp, deck := if s.viaduct p then deck else 0, viaduct := s.viaduct p, cfg := s.portCfg p } ∧
      (∀ q, q ≠ p.val → t.rxFrame q = s.rxFrame q) ∧ OnlyTouches [.rx] s t) ∧
    (∀ (p : Port) (deck : DWord) (s : State),
      s.available p = true →
      s.rxFrame p = none →
      s.inHold (portGroup p) = true ∨ s.chip.mode = .safe →
      ∃ t, exec (.frameStart p deck) s = .next t ∧ t.counter (cPort p 7) = (s.counter (cPort p 7) + 1) % 2 ^ 64 ∧ t.rxFrame p = some { gen := s.activeGen, tsIn := s.tb0Ns, stamp := s.stamp, deck := if s.viaduct p then deck else 0, viaduct := s.viaduct p, cfg := s.portCfg p, discard := true } ∧
      (∀ q, q ≠ p.val → t.rxFrame q = s.rxFrame q) ∧ OnlyTouches [.rx, .counters] s t) ∧
    (∀ (p : Port) (deck : DWord) (s : State),
      s.available p = true →
      s.rxFrame p = none →
      s.inHold (portGroup p) = false →
      s.chip.mode ≠ .safe →
      s.lossless (getBits (s.portCfg p) 9 6) = false →
      8192 ≤ (s.arrivals (portGroup p)).length →
      ∃ t, exec (.frameStart p deck) s = .next t ∧ t.counter (cPort p 4) = (s.counter (cPort p 4) + 1) % 2 ^ 64 ∧ t.rxFrame p = some { gen := s.activeGen, tsIn := s.tb0Ns, stamp := s.stamp, deck := if s.viaduct p then deck else 0, viaduct := s.viaduct p, cfg := s.portCfg p, discard := true } ∧
      (∀ q, q ≠ p.val → t.rxFrame q = s.rxFrame q) ∧ OnlyTouches [.rx, .counters] s t) ∧
    (∀ (p : Port) (deck : DWord) (s : State),
      s.available p = true →
      s.rxFrame p = none →
      s.inHold (portGroup p) = false →
      s.chip.mode ≠ .safe →
      s.lossless (getBits (s.portCfg p) 9 6) = true →
      16384 ≤ (s.arrivals (portGroup p)).length →
      portGroup p ∈ s.rx.overload →
      ∃ t, exec (.frameStart p deck) s = .next t ∧ t.counter (cPort p 5) = (s.counter (cPort p 5) + 1) % 2 ^ 64 ∧ t.rxFrame p = some { gen := s.activeGen, tsIn := s.tb0Ns, stamp := s.stamp, deck := if s.viaduct p then deck else 0, viaduct := s.viaduct p, cfg := s.portCfg p, discard := true } ∧
      (∀ q, q ≠ p.val → t.rxFrame q = s.rxFrame q) ∧ OnlyTouches [.rx, .counters] s t) ∧
    (∀ (p : Port) (deck : DWord) (s : State),
      s.available p = true →
      s.rxFrame p = none →
      s.inHold (portGroup p) = false →
      s.chip.mode ≠ .safe →
      s.lossless (getBits (s.portCfg p) 9 6) = true →
      16384 ≤ (s.arrivals (portGroup p)).length →
      portGroup p ∉ s.rx.overload →
      ∃ t, exec (.frameStart p deck) s = .next t ∧ t.counter (cPort p 5) = (s.counter (cPort p 5) + 1) % 2 ^ 64 ∧ t.rxFrame p = some { gen := s.activeGen, tsIn := s.tb0Ns, stamp := s.stamp, deck := if s.viaduct p then deck else 0, viaduct := s.viaduct p, cfg := s.portCfg p, discard := true } ∧
      (∀ q, q ≠ p.val → t.rxFrame q = s.rxFrame q) ∧
      portGroup p ∈ t.rx.overload ∧ (t.source (srcSpan (p / 64) 0x18 (portGroup p % 4))).cause = true ∧ (t.source (srcSpan (p / 64) 0x18 (portGroup p % 4))).cls = .s ∧
      (∀ x, x ≠ srcSpan (p / 64) 0x18 (portGroup p % 4) → t.source x = s.source x) ∧ FaultFrame s t) ∧
    (∀ (p : Port) (deck : DWord) (s : State),
      s.available p = false ∨ (s.rxFrame p).isSome = true →
      ∃ t, exec (.frameStart p deck) s = .next t ∧ t = s)

/-- The bytes of a frame whose arrival is being discarded are counted and go nowhere. In the safe state, and past the
port's MTU or 16,384 bytes, the arrival is discarded from there on, with the frame's descriptor forgotten by the
receiver; for a frame without a cell the port counts one under the event of the cause (7 and 3). The first bytes of a
frame, where its group's arrival queue and the HEAD region have room and a cell and a descriptor are free, take both:
the descriptor names the cell as its first, last and only one and carries the frame's generation and time, the cell
holds exactly these bytes and one holder, the port's HEAD use rises by one, the frame joins the end of its group's
arrival queue, and the receiver knows the descriptor. With no room in the HEAD region the arrival is discarded before
acceptance, with a class-S fault of the port's MAC. Bytes of a later cell of a frame that is not yet classified take
the next cell of its chain: the descriptor counts it and names it as its last, the cell before points to it, and it
carries the holders of the first. Bytes with no frame in reception, empty bytes, and bytes that come while the buffer
manager holds its outputs change nothing. (R21, R32, R164, R168, R175, R181, R188, R443) -/
def Obligations.CellsArrive : Prop :=
    (∀ (p : Port) (bytes : List Byte) (last : Bool) (full : List Nat) (s : State) (f : RxFrame),
      s.rxFrame p = some f →
      f.discard = true →
      ∃ t, exec (.cellWrite p bytes last full) s = .next t ∧ t.rxFrame p = some { f with bytes := f.bytes + bytes.length } ∧ (∀ q, q ≠ p.val → t.rxFrame q = s.rxFrame q) ∧ OnlyTouches [.rx] s t) ∧
    (∀ (p : Port) (bytes : List Byte) (last : Bool) (full : List Nat) (s : State) (f : RxFrame),
      s.rxFrame p = some f →
      f.discard = false →
      s.bufferPaused = false →
      bytes ≠ [] →
      f.desc = none →
      s.chip.mode = .safe →
      ∃ t, exec (.cellWrite p bytes last full) s = .next t ∧ t.counter (cPort p 7) = (s.counter (cPort p 7) + 1) % 2 ^ 64 ∧ t.rxFrame p = some { f with bytes := f.bytes + bytes.length, discard := true, desc := none } ∧ OnlyTouches [.regs, .rx, .counters] s t) ∧
    (∀ (p : Port) (bytes : List Byte) (last : Bool) (full : List Nat) (s : State) (f : RxFrame),
      s.rxFrame p = some f →
      f.discard = false →
      s.bufferPaused = false →
      bytes ≠ [] →
      f.desc = none →
      s.chip.mode ≠ .safe →
      16384 < f.bytes + bytes.length ∨ s.mtu p < f.bytes + bytes.length →
      ∃ t, exec (.cellWrite p bytes last full) s = .next t ∧ t.counter (cPort p 3) = (s.counter (cPort p 3) + 1) % 2 ^ 64 ∧ t.rxFrame p = some { f with bytes := f.bytes + bytes.length, discard := true, desc := none } ∧ OnlyTouches [.regs, .rx, .counters] s t) ∧
    (∀ (p : Port) (bytes : List Byte) (last : Bool) (full : List Nat) (s : State) (f : RxFrame),
      s.rxFrame p = some f →
      f.discard = false →
      s.bufferPaused = false →
      bytes ≠ [] →
      s.chip.mode = .safe ∨ 16384 < f.bytes + bytes.length ∨ s.mtu p < f.bytes + bytes.length →
      ∃ t, exec (.cellWrite p bytes last full) s = .next t ∧ t.rxFrame p = some { f with bytes := f.bytes + bytes.length, discard := true, desc := none }) ∧
    (∀ (p : Port) (bytes : List Byte) (last : Bool) (full : List Nat) (s v : State) (f : RxFrame) (c d : Nat),
      s.rxFrame p = some f →
      f.discard = false →
      s.bufferPaused = false →
      bytes ≠ [] →
      f.desc = none →
      s.chip.mode ≠ .safe →
      f.bytes + bytes.length ≤ 16384 ∧ f.bytes + bytes.length ≤ s.mtu p →
      s.inHold (portGroup p) = false →
      (s.arrivals (portGroup p)).length < 8192 ∨ (s.lossless (getBits (s.portCfg p) 9 6) = true ∧ (s.arrivals (portGroup p)).length < 16384) →
      s.headFull p = false →
      (s.allocCell (portGroup p) (dieOf p) full).2 = some c →
      (s.allocCell (portGroup p) (dieOf p) full).1.allocDesc = some (v, d) →
      ∃ t, exec (.cellWrite p bytes last full) s = .next t ∧ (t.desc d).alloc = true ∧ (t.desc d).first = c ∧ (t.desc d).last = c ∧ (t.desc d).cells = 1 ∧ (t.desc d).gen = f.gen ∧ (t.desc d).tsIn = f.tsIn ∧ (t.info d).port = p.val ∧
      t.headUse p = v.headUse p + 1 ∧ (t.link c).alloc = true ∧ (t.link c).refcnt = 1 ∧ (t.link c).owner = holderArrival p ∧ (t.link c).last = last ∧
      t.rxFrame p = some { f with desc := some d, bytes := bytes.length } ∧ t.arrivals (portGroup p) = v.arrivals (portGroup p) ++ [d] ∧
      (∀ k, k < bytes.length → t.cellByte (c * 256 + k) = bytes.getD k 0) ∧ (∀ a, a < c * 256 ∨ c * 256 + bytes.length ≤ a → t.cellByte a = s.cellByte a)) ∧
    (∀ (p : Port) (bytes : List Byte) (last : Bool) (full : List Nat) (s : State) (f : RxFrame),
      s.rxFrame p = some f →
      f.discard = false →
      s.bufferPaused = false →
      bytes ≠ [] →
      f.desc = none →
      s.chip.mode ≠ .safe →
      f.bytes + bytes.length ≤ 16384 ∧ f.bytes + bytes.length ≤ s.mtu p →
      s.inHold (portGroup p) = false →
      (s.arrivals (portGroup p)).length < 8192 ∨ (s.lossless (getBits (s.portCfg p) 9 6) = true ∧ (s.arrivals (portGroup p)).length < 16384) →
      s.headFull p = true →
      ∃ t, exec (.cellWrite p bytes last full) s = .next t ∧ t.rxFrame p = some { f with bytes := f.bytes + bytes.length, discard := true, desc := none } ∧ (t.source (macSource p)).cause = true ∧ (t.source (macSource p)).cls = .s ∧ ∀ x, x ≠ macSource p → t.source x = s.source x) ∧
    (∀ (p : Port) (bytes : List Byte) (last : Bool) (full : List Nat) (s v : State) (f : RxFrame) (c d : Nat),
      s.rxFrame p = some f →
      f.discard = false →
      s.bufferPaused = false →
      bytes ≠ [] →
      f.desc = some d →
      s.chip.mode ≠ .safe →
      f.bytes + bytes.length ≤ 16384 ∧ f.bytes + bytes.length ≤ s.mtu p →
      (s.info d).stopped = false →
      (s.info d).revoked = false →
      (s.desc d).quar = false →
      (s.info d).classified = false →
      s.headFull p = false →
      s.allocCell (portGroup p) (s.cellDie p (some d)) full = (v, some c) →
      (v.desc d).cells ≠ 0 →
      (v.desc d).last ≠ c →
      ∃ t, exec (.cellWrite p bytes last full) s = .next t ∧ (t.desc d).cells = (v.desc d).cells + 1 ∧ (t.desc d).first = (v.desc d).first ∧ (t.desc d).last = c ∧ (t.link (v.desc d).last).next = c ∧ t.headUse p = v.headUse p + 1 ∧
      (t.link c).alloc = true ∧ (t.link c).refcnt = (v.link (v.desc d).first).refcnt ∧ (t.link c).owner = (v.link (v.desc d).first).owner ∧ (t.link c).last = last ∧
      t.rxFrame p = some { f with bytes := f.bytes + bytes.length } ∧ (∀ k, k < bytes.length → t.cellByte (c * 256 + k) = bytes.getD k 0)) ∧
    (∀ (p : Port) (bytes : List Byte) (last : Bool) (full : List Nat) (s : State),
      (s.rxFrame p = none ∨ ((s.rxFrame p).any (fun f => f.discard) = false ∧ (bytes = [] ∨ s.bufferPaused = true))) →
      ∃ t, exec (.cellWrite p bytes last full) s = .next t ∧ t = s)

/-- PARSE_DONE records the parse of an allocated frame that has none yet; a host's packet and a frame without a PTP
message change nothing else but the SPAN counters of its flags, and a PTP message of a port also what the PTP service
keeps of it (its capture, the time bases it steers and their registers). No other frame's record changes.
CLASSIFY_DONE, when every cell of the frame is admitted, gives the frame the classifier's class, colour, queue within
the port and profile, whether the class is lossless, and the ASSIGN counter of its (ingress port, class) pair as its
sequence; ASSIGN moves on by one, the pair's other counters stay, and so do all other pairs and the records of all
other frames. When a cell of a frame of a lossless class is refused, the frame is refused with a class-S fault of its
port's MAC. Both wait or do nothing where the frame is not theirs: without descriptor, already done, stopped, and for
the classifier also a host's packet, a frame not parsed, in the safe state, and while a lockstep pair that grants is
being checked. (R138, R140, R141, R244, R31, R188, R243) -/
def Obligations.FramesAreParsedAndClassified : Prop :=
    (∀ (d : DescId) (s : State),
      (s.desc d).alloc = true →
      (s.desc d).cells ≠ 0 →
      (s.info d).parsed = none →
      (s.info d).stopped = false →
      ∃ t, exec (.parseDone d) s = .next t ∧ (t.info d) = { s.info d with parsed := some (s.parseOf d) } ∧ (∀ e, e ≠ d.val → t.info e = s.info e) ∧ OnlyTouches [.regs, .counters, .emitted, .freeCount, .rx, .time, .ks] s t) ∧
    (∀ (d : DescId) (s : State),
      (s.desc d).alloc = true →
      (s.desc d).cells ≠ 0 →
      (s.info d).parsed = none →
      (s.info d).stopped = false →
      (s.info d).ring.isSome = true ∨ ((s.parseOf d).pflags.getLsbD 11 = false ∧ (s.parseOf d).pflags.getLsbD 12 = false) →
      ∃ t, exec (.parseDone d) s = .next t ∧ (∀ i, i < 9 → t.counter (cSpan ((s.info d).port / 64) i) = if (s.parseOf d).pflags.getLsbD (16 + i) then (s.counter (cSpan ((s.info d).port / 64) i) + 1) % 2 ^ 64 else s.counter (cSpan ((s.info d).port / 64) i)) ∧
      t.counter (cSpan ((s.info d).port / 64) 9) = (if (s.parseOf d).pflags.getLsbD 31 then (s.counter (cSpan ((s.info d).port / 64) 9) + 1) % 2 ^ 64 else s.counter (cSpan ((s.info d).port / 64) 9)) ∧ OnlyTouches [.counters, .rx] s t) ∧
    (∀ (d : DescId) (s : State),
      (s.desc d).alloc = false ∨ (s.desc d).cells = 0 ∨ (s.info d).parsed.isSome = true ∨ (s.info d).stopped = true →
      ∃ t, exec (.parseDone d) s = .next t ∧ t = s) ∧
    (∀ (d : DescId) (p : Parsed) (s : State),
      (s.info d).parsed = some p →
      (s.info d).classified = false →
      (s.info d).ring = none →
      (s.info d).stopped = false →
      (s.desc d).alloc = true →
      s.grantsPaused = false →
      s.chip.mode ≠ .safe →
      ((s.classifyFrame d p).chargeHead d).2 = true →
      ∃ t, exec (.classifyDone d) s = .next t ∧ (t.info d).classified = true ∧ (t.info d).tc = (s.verdict d p).tc ∧ (t.desc d).lossless = s.lossless (s.verdict d p).tc ∧ (t.desc d).seq = (s.order ((s.info d).port * 16 + (s.verdict d p).tc)).assign ∧
      (t.desc d).portinfo = BitVec.ofNat 32 ((s.info d).port % 1024 + (s.verdict d p).tc * 2 ^ 10 + (s.verdict d p).colour * 2 ^ 14 + (s.verdict d p).queue * 2 ^ 16 + getBits (s.info d).cfg 15 10 * 2 ^ 20) ∧
      t.order ((s.info d).port * 16 + (s.verdict d p).tc) = { s.order ((s.info d).port * 16 + (s.verdict d p).tc) with assign := (s.order ((s.info d).port * 16 + (s.verdict d p).tc)).assign + 1 } ∧
      (∀ q, q ≠ (s.info d).port * 16 + (s.verdict d p).tc → t.order q = s.order q) ∧ (∀ e, e ≠ d.val → t.info e = s.info e)) ∧
    (∀ (d : DescId) (p : Parsed) (s : State),
      (s.info d).parsed = some p →
      (s.info d).classified = false →
      (s.info d).ring = none →
      (s.info d).stopped = false →
      (s.desc d).alloc = true →
      s.grantsPaused = false →
      s.chip.mode ≠ .safe →
      ((s.classifyFrame d p).chargeHead d).2 = false →
      s.lossless (s.verdict d p).tc = true →
      ∃ t, exec (.classifyDone d) s = .next t ∧ (t.source (macSource (s.info d).port)).cause = true ∧ (t.source (macSource (s.info d).port)).cls = .s) ∧
    (∀ (d : DescId) (s : State),
      (s.info d).parsed = none ∨ s.grantsPaused = true ∨ s.chip.mode = .safe ∨ (s.info d).classified = true ∨ (s.info d).ring.isSome = true ∨ (s.info d).stopped = true ∨ (s.desc d).alloc = false →
      ∃ t, exec (.classifyDone d) s = .next t ∧ t = s)

/-- At the end of a frame its receiver is free, and the port counts the frame and its bytes; a bad one (a failed FCS, a
truncated frame, one under 64 bytes) it counts among the bad ones too. A bad frame that holds cells, of a port,
classified and not yet released, has its sequence returned as void, in place of a result of its ingress pipeline that
waits: the pair's ASSIGN and RELEASE stay; and where it holds one cell that nobody else holds, the cell and the
descriptor are free again. A lossless frame with a good FCS of at least 64 bytes, not truncated, from an ordinary
port, whose sequence is known, is accepted: its descriptor and its ledger entry say so, with its sequence, port and
class. With no frame in reception, and for a frame with cells while the buffer manager holds its outputs, the end
changes nothing. (R29, R30, R243, R297) -/
def Obligations.FramesEnd : Prop :=
    (∀ (p : Port) (good truncated : Bool) (s : State) (f : RxFrame),
      s.rxFrame p = some f →
      f.desc = none →
      ∃ t, exec (.frameEnd p good truncated) s = .next t ∧ t.rxFrame p = none ∧ t.counter (cPort p 0) = (s.counter (cPort p 0) + 1) % 2 ^ 64 ∧ t.counter (cPort p 1) = (s.counter (cPort p 1) + f.bytes) % 2 ^ 64 ∧
      t.counter (cPort p 2) = (if (good = false ∨ truncated = true ∨ f.bytes < 64) then (s.counter (cPort p 2) + 1) % 2 ^ 64 else s.counter (cPort p 2))) ∧
    (∀ (p : Port) (good truncated : Bool) (s : State) (f : RxFrame) (d : Nat),
      s.rxFrame p = some f →
      f.desc = some d →
      (good = false ∨ truncated = true ∨ f.bytes < 64) →
      s.bufferPaused = false →
      (s.info d).stopped = false →
      (s.desc d).quar = false →
      (s.info d).classified = true →
      (s.info d).released = false →
      (s.info d).revoked = false →
      (s.info d).ring = none →
      ∃ t, exec (.frameEnd p good truncated) s = .next t ∧ t.rxFrame p = none ∧ t.counter (cPort p 0) = (s.counter (cPort p 0) + 1) % 2 ^ 64 ∧ t.counter (cPort p 1) = (s.counter (cPort p 1) + f.bytes) % 2 ^ 64 ∧
      t.counter (cPort p 2) = (s.counter (cPort p 2) + 1) % 2 ^ 64 ∧ (t.order (s.info d).pair).assign = (s.order (s.info d).pair).assign ∧ (t.order (s.info d).pair).release = (s.order (s.info d).pair).release ∧
      (t.order (s.info d).pair).held = (s.order (s.info d).pair).held.filter (fun h => h.1 ≠ (s.desc d).seq) ++ [((s.desc d).seq, .void)]) ∧
    (∀ (p : Port) (good truncated : Bool) (s : State) (f : RxFrame) (d : Nat),
      s.rxFrame p = some f →
      f.desc = some d →
      (good = false ∨ truncated = true ∨ f.bytes < 64) →
      s.bufferPaused = false →
      (s.info d).stopped = false →
      (s.desc d).quar = false →
      (s.desc d).alloc = true →
      (s.info d).released = false →
      (s.desc d).cells = 1 →
      (s.link (s.desc d).first).alloc = true →
      (s.link (s.desc d).first).refcnt = 1 →
      (s.link (s.desc d).first).owner = (s.info d).arrivalHolder →
      ∃ t, exec (.frameEnd p good truncated) s = .next t ∧ (t.desc d).alloc = false ∧ (t.link (s.desc d).first).alloc = false) ∧
    (∀ (p : Port) (s : State) (f : RxFrame) (d : Nat),
      s.rxFrame p = some f →
      f.desc = some d →
      64 ≤ f.bytes →
      f.viaduct = false →
      s.bufferPaused = false →
      s.chip.mode ≠ .safe →
      (s.info d).stopped = false →
      (s.info d).revoked = false →
      (s.desc d).quar = false →
      (s.info d).classified = true →
      (s.info d).ring = none →
      (s.desc d).lossless = true →
      (s.desc d).accepted = false →
      ∃ t, exec (.frameEnd p true false) s = .next t ∧ t.rxFrame p = none ∧ t.counter (cPort p 0) = (s.counter (cPort p 0) + 1) % 2 ^ 64 ∧ t.counter (cPort p 1) = (s.counter (cPort p 1) + f.bytes) % 2 ^ 64 ∧ t.counter (cPort p 2) = s.counter (cPort p 2) ∧ (t.desc d).accepted = true ∧ (t.desc d).len = f.bytes ∧ (t.info d).ended = true ∧ (t.info d).good = true ∧
      (t.ledger d).state = .accepted ∧ (t.ledger d).seq = (s.desc d).seq ∧ (t.ledger d).port = (s.info d).port ∧ (t.ledger d).cls = (s.info d).tc) ∧
    (∀ (p : Port) (good truncated : Bool) (s : State),
      (s.rxFrame p = none ∨ (s.bufferPaused = true ∧ (s.rxFrame p).any (fun f => f.desc.isNone) = false)) →
      ∃ t, exec (.frameEnd p good truncated) s = .next t ∧ t = s)

/-- A slot of an open pipeline that serves a group takes, in this order: a replay that waits, for ingress and for egress,
when the guards of its cells hold; in the ingress pass then a packet that recirculates, which keeps its containers but
takes the time of its new pass in MD13 and a fresh MD1; then a known-answer vector, under the generation that was
active at its insertion; then, with room in the reorder buffer, the oldest frame of the group's arrival queue when it
is classified, or the oldest packet of a host ring, or in the egress pass the copy that the scheduler chose first,
when the guards of its cells hold. The packet starts in stage 0 of that pipeline; a frame starts with its class's
entry opcode, MD6 to MD11 and MD15 to MD63 zero, and its descriptor's PORTINFO, sequence and arrival time, and a copy
with the bridged containers of its descriptor and its own queue in MD6. No other packet changes. While its slots are
closed, or when it serves no group, a pipeline takes nothing. (R51, R45, R47, R74, R80, R142, R182, R254, R386) -/
def Obligations.SlotsTakePackets : Prop :=
    (∀ (span : Span) (pipe : PipeNo) (s : State) (g d : Nat),
      (s.passOf span .ingress).groupOf pipe = some g →
      s.slotOpen span .ingress pipe = true →
      s.replaysOf (span * 4 + g) .ingress = [] →
      s.recircQueue (span * 4 + g) = [] →
      (s.pipeOf (pipeNo span .ingress pipe)).katWait = [] →
      s.reorderUse (span * 4 + g) < 4096 →
      s.nextArrival (span * 4 + g) = some d →
      (s.nextHost (span * 4 + g) = none ∨ Tbl.get (fun _ => false) s.pipes.hostTurn (span * 4 + g) = false) →
      ∃ t, exec (.pipelineSlotGrant span .ingress pipe) s = .next t ∧ (∃ k, t.packet s.pipes.nextPkt = some k ∧ k.stage = 0 ∧ k.desc = some d ∧ k.hv = ((s.info d).parsed.getD {}).hv ∧ k.route.replay = false ∧ k.failedAt = none ∧ k.copy = none ∧ k.pass = .ingress ∧ k.span = span.val ∧ k.pipe = pipe.val ∧ k.group = span.val * 4 + g ∧ k.route.gen = (s.desc d).gen ∧ k.route.recirculated = false ∧ k.route.opcode = s.entryOpcode (pipeNo span .ingress pipe) (s.desc d).gen (s.desc d).portinfo ∧
        (∀ c, (6 ≤ c ∧ c ≤ 11) ∨ (15 ≤ c ∧ c ≤ 63) → k.mdw c = 0) ∧ k.mdw 2 = (s.desc d).portinfo ∧ k.mdw 4 = (s.desc d).seq ∧ k.mdw 5 = (s.desc d).tsIn ∧ k.mdw 13 = s.tb0Ns) ∧ t.arrivals (span * 4 + g) = (s.arrivals (span * 4 + g)).drop 1 ∧ (t.info d).entered = true ∧
      (∀ i, i ≠ s.pipes.nextPkt → t.packet i = s.packet i)) ∧
    (∀ (span : Span) (pipe : PipeNo) (s : State) (g d : Nat),
      (s.passOf span .ingress).groupOf pipe = some g →
      s.slotOpen span .ingress pipe = true →
      s.replaysOf (span * 4 + g) .ingress = [] →
      s.recircQueue (span * 4 + g) = [] →
      (s.pipeOf (pipeNo span .ingress pipe)).katWait = [] →
      s.reorderUse (span * 4 + g) < 4096 →
      s.nextHost (span * 4 + g) = some d →
      (s.nextArrival (span * 4 + g) = none ∨ Tbl.get (fun _ => false) s.pipes.hostTurn (span * 4 + g) = true) →
      ∃ t, exec (.pipelineSlotGrant span .ingress pipe) s = .next t ∧ (∃ k, t.packet s.pipes.nextPkt = some k ∧ k.stage = 0 ∧ k.desc = some d ∧ k.origin = .host ∧ k.route.replay = false ∧ k.copy = none ∧ k.pass = .ingress ∧ k.span = span.val ∧ k.pipe = pipe.val ∧ k.group = span.val * 4 + g ∧ k.route.gen = (s.desc d).gen ∧ k.route.recirculated = false ∧ k.route.opcode = s.entryOpcode (pipeNo span .ingress pipe) (s.desc d).gen (s.desc d).portinfo ∧
        (∀ c, (6 ≤ c ∧ c ≤ 11) ∨ (15 ≤ c ∧ c ≤ 63) → k.mdw c = 0) ∧ k.mdw 2 = (s.desc d).portinfo ∧ k.mdw 4 = (s.desc d).seq ∧ k.mdw 5 = (s.desc d).tsIn ∧ k.mdw 13 = s.tb0Ns) ∧ t.hostQueue (span * 4 + g) = (s.hostQueue (span * 4 + g)).drop 1 ∧ (t.info d).entered = true ∧ (∀ i, i ≠ s.pipes.nextPkt → t.packet i = s.packet i)) ∧
    (∀ (span : Span) (pipe : PipeNo) (s : State) (g : Nat) (r : Replay) (rest : List Replay),
      (s.passOf span .ingress).groupOf pipe = some g →
      s.slotOpen span .ingress pipe = true →
      s.replaysOf (span * 4 + g) .ingress = r :: rest →
      (s.checkGuards r.desc (s.desc r.desc).dest (s.info r.desc).arrivalHolder).2 = true →
      ∃ t, exec (.pipelineSlotGrant span .ingress pipe) s = .next t ∧ (∃ k, t.packet s.pipes.nextPkt = some k ∧ k.stage = 0 ∧ k.desc = some r.desc ∧ k.hv = (s.parseOf r.desc).hv ∧ k.route.replay = true ∧ k.origin = .replay ∧ k.failedAt = r.failedAt ∧ k.copy = none ∧ k.pass = .ingress ∧ k.span = span.val ∧ k.pipe = pipe.val ∧ k.group = span.val * 4 + g ∧ k.route.gen = (s.desc r.desc).gen ∧ k.route.recirculated = false ∧ k.route.opcode = s.entryOpcode (pipeNo span .ingress pipe) (s.desc r.desc).gen (s.desc r.desc).portinfo ∧
        (∀ c, (6 ≤ c ∧ c ≤ 11) ∨ (15 ≤ c ∧ c ≤ 63) → k.mdw c = 0) ∧ k.mdw 2 = (s.desc r.desc).portinfo ∧ k.mdw 4 = (s.desc r.desc).seq ∧ k.mdw 5 = (s.desc r.desc).tsIn ∧ k.mdw 13 = s.tb0Ns) ∧ t.replaysOf (span * 4 + g) .ingress = rest ∧ t.counter (cPipe (pipeNo span .ingress pipe) 6) = (s.counter (cPipe (pipeNo span .ingress pipe) 6) + 1) % 2 ^ 64 ∧
      (∀ i, i ≠ s.pipes.nextPkt → t.packet i = s.packet i)) ∧
    (∀ (span : Span) (pipe : PipeNo) (s : State) (g i : Nat) (rest : List Nat) (x : Packet),
      (s.passOf span .ingress).groupOf pipe = some g →
      s.slotOpen span .ingress pipe = true →
      s.replaysOf (span * 4 + g) .ingress = [] →
      s.recircQueue (span * 4 + g) = i :: rest →
      s.packet i = some x →
      i ≠ s.pipes.nextPkt →
      ∃ t, exec (.pipelineSlotGrant span .ingress pipe) s = .next t ∧ (∃ k, t.packet s.pipes.nextPkt = some k ∧ k.stage = 0 ∧ k.origin = .recirc ∧ k.pipe = pipe.val ∧ k.hv = x.hv ∧ k.desc = x.desc ∧ k.copy = x.copy ∧ k.route = x.route ∧ k.requests = x.requests ∧ k.latched = {} ∧ k.failedAt = x.failedAt ∧ k.mdw 13 = s.tb0Ns ∧ k.mdw 1 = statusWord x.route false ∧ (∀ c, c ≠ 1 → c ≠ 13 → k.mdw c = x.mdw c)) ∧ t.packet i = none ∧ t.recircQueue (span * 4 + g) = rest ∧ (∀ j, j ≠ i → j ≠ s.pipes.nextPkt → t.packet j = s.packet j)) ∧
    (∀ (span : Span) (pass : Pass) (pipe : PipeNo) (s : State) (g : Nat) (v : Bool × Nat) (rest : List (Bool × Nat)),
      (s.passOf span pass).groupOf pipe = some g →
      s.slotOpen span pass pipe = true →
      s.replaysOf (span * 4 + g) pass = [] →
      pass = .egress ∨ s.recircQueue (span * 4 + g) = [] →
      (s.pipeOf (pipeNo span pass pipe)).katWait = v :: rest →
      ∃ t, exec (.pipelineSlotGrant span pass pipe) s = .next t ∧ (∃ k, t.packet s.pipes.nextPkt = some k ∧ k.desc = none ∧ k.stage = 0 ∧ k.pass = pass ∧ k.pipe = pipe.val ∧ k.vector = v.2 ∧ k.route.kat = true ∧ k.route.gen = v.1 ∧ k.route.opcode = (if pass = .ingress then 1 else 2)) ∧
      (t.pipeOf (pipeNo span pass pipe)).katWait = rest ∧ (∀ i, i ≠ s.pipes.nextPkt → t.packet i = s.packet i) ∧ OnlyTouches [.pipes] s t) ∧
    (∀ (span : Span) (pipe : PipeNo) (s : State) (g : Nat) (r : Replay) (c : Nat × QEntry) (rest : List Replay),
      (s.passOf span .egress).groupOf pipe = some g →
      s.slotOpen span .egress pipe = true →
      s.replaysOf (span * 4 + g) .egress = r :: rest →
      r.copy = some c →
      (s.checkGuards c.2.desc (s.copyReader c).2 (s.copyReader c).1).2 = true →
      ∃ t, exec (.pipelineSlotGrant span .egress pipe) s = .next t ∧ (∃ k, t.packet s.pipes.nextPkt = some k ∧ k.stage = 0 ∧ k.route.replay = true ∧ k.origin = .replay ∧ k.failedAt = r.failedAt ∧ k.desc = some c.2.desc ∧ k.copy = some c ∧ k.pass = .egress ∧ k.span = span.val ∧ k.pipe = pipe.val ∧ k.group = span.val * 4 + g ∧ k.route.gen = (s.desc c.2.desc).gen ∧ k.route.opcode = (s.desc c.2.desc).egOp ∧
        k.mdw 2 = (s.desc c.2.desc).portinfo ∧ k.mdw 4 = (s.desc c.2.desc).seq ∧ k.mdw 5 = (s.desc c.2.desc).tsIn ∧ k.mdw 6 = setBits (s.desc c.2.desc).egress 13 0 c.1 ∧ k.mdw 7 = (s.desc c.2.desc).copy ∧ k.mdw 8 = (s.desc c.2.desc).bridge0 ∧ k.mdw 11 = (s.desc c.2.desc).bridge3) ∧ t.replaysOf (span * 4 + g) .egress = rest ∧ (∀ i, i ≠ s.pipes.nextPkt → t.packet i = s.packet i)) ∧
    (∀ (span : Span) (pipe : PipeNo) (s : State) (g : Nat) (c : Nat × QEntry) (rest : List (Nat × QEntry)),
      (s.passOf span .egress).groupOf pipe = some g →
      s.slotOpen span .egress pipe = true →
      s.replaysOf (span * 4 + g) .egress = [] →
      (s.pipeOf (pipeNo span .egress pipe)).katWait = [] →
      s.selectedOf (span * 4 + g) = c :: rest →
      (s.checkGuards c.2.desc (s.copyReader c).2 (s.copyReader c).1).2 = true →
      ∃ t, exec (.pipelineSlotGrant span .egress pipe) s = .next t ∧ (∃ k, t.packet s.pipes.nextPkt = some k ∧ k.stage = 0 ∧ k.route.replay = false ∧ k.origin = .copy ∧ k.desc = some c.2.desc ∧ k.copy = some c ∧ k.pass = .egress ∧ k.span = span.val ∧ k.pipe = pipe.val ∧ k.group = span.val * 4 + g ∧ k.route.gen = (s.desc c.2.desc).gen ∧ k.route.opcode = (s.desc c.2.desc).egOp ∧
        k.mdw 2 = (s.desc c.2.desc).portinfo ∧ k.mdw 4 = (s.desc c.2.desc).seq ∧ k.mdw 5 = (s.desc c.2.desc).tsIn ∧ k.mdw 6 = setBits (s.desc c.2.desc).egress 13 0 c.1 ∧ k.mdw 7 = (s.desc c.2.desc).copy ∧ k.mdw 8 = (s.desc c.2.desc).bridge0 ∧ k.mdw 11 = (s.desc c.2.desc).bridge3) ∧ t.selectedOf (span * 4 + g) = rest ∧ (∀ i, i ≠ s.pipes.nextPkt → t.packet i = s.packet i)) ∧
    (∀ (span : Span) (pass : Pass) (pipe : PipeNo) (s : State),
      s.slotOpen span pass pipe = false ∨ (s.passOf span pass).groupOf pipe = none →
      ∃ t, exec (.pipelineSlotGrant span pass pipe) s = .next t ∧ t = s)

/-- A packet whose pass has ended early, or whose opcode names the null word, moves one stage on as it was. Another runs
the word that its dispatch entry names: the slots' results, of operands as they stood at stage entry, are in its
header-vector and metadata containers, but that MD12 takes the word's EMIT HOP; EMIT controls are latched, the
qualified ones when the word's controls apply; the opcode is the one the sequencer selects from the word's lookup;
DROP (with the word's reason) and, without RECIRC, END are set when the controls apply, and a customer word that
selects a vendor opcode that is not callable drops the packet with 0xFB. RECIRC asks for a second pass, with END not
set, in a first ingress pass, and drops the packet with 0xFE and a class-N fault of the pipeline in a second. One
whose opcode has no valid dispatch entry is dropped with reason 0xFD and the stage latches a class-N fault. After the
last stage, with what its last word made of it: a packet that asked for a second pass waits for a slot, marked
RECIRCULATED, with the copies it has requested; the result of another ingress frame joins those that its pair holds,
with its queue, bridged containers, egress opcode and requests, and dropped with 0xFC when it names no queue; an
egress copy that goes out is ready for its port; and a vector with the right digest has passed. A store error
corrected on fetch is counted and changes nothing else of this. A check failure in the first run of a packet discards
it, counts it and queues its replay, while what its lookup did to counters and meters may stand (log entry 92); in a
replay it makes the pipeline faulty and queues the next replay. A packet that is not there, or that has run its last
stage, changes nothing. The clauses are for a stage at which no injection waits to fire; those about the end of a pass
are for a packet that is not shadowed, the one about a copy for one that requests no mirror or CPU copy. (R52, R54,
R57, R58, R60, R61, R62, R68, R72, R73, R74, R80) -/
def Obligations.StagesExecute : Prop :=
    (∀ (i : Nat) (k : Packet) (ev : StageEvent) (s : State),
      s.packet i = some k →
      (k.route.ended || k.route.drop || k.route.recircReq) = true ∨ (bitsOf (s.dispatchOf k) 15 15 = 1 ∧ bitsOf (s.dispatchOf k) 14 14 = 1) →
      k.stage + 1 < passStages k.pass →
      ev.checkFails = false →
      ev.corrected = 0 →
      ev.rowFixed = none →
      ev.rowBad = none →
      s.fc.injNext = none →
      ∃ t, exec (.stageExecute i ev) s = .next t ∧ t.packet i = some { k with stage := k.stage + 1 } ∧ (∀ j, j ≠ i → t.packet j = s.packet j) ∧ OnlyTouches [.pipes] s t) ∧
    (∀ (i : Nat) (k : Packet) (ev : StageEvent) (s : State),
      s.packet i = some k →
      k.route.ended = false →
      k.route.drop = false →
      k.route.recircReq = false →
      bitsOf (s.dispatchOf k) 15 15 = 1 →
      bitsOf (s.dispatchOf k) 14 14 = 0 →
      k.stage + 1 < passStages k.pass →
      bitsOf (mwSeq (s.wordOf k (bitsOf (s.dispatchOf k) 6 0))) 5 5 = 0 ∨ (controlsApply (mwSeq (s.wordOf k (bitsOf (s.dispatchOf k) 6 0))) (s.wordLookup k (bitsOf (s.dispatchOf k) 6 0)).2) = false →
      ev.checkFails = false →
      ev.corrected = 0 →
      ev.rowFixed = none →
      ev.rowBad = none →
      s.fc.injNext = none →
      ∃ t, exec (.stageExecute i ev) s = .next t ∧ ∃ r, t.packet i = some r ∧ r.stage = k.stage + 1 ∧ r.hv = (writeSlots k ((List.range 16).filterMap (fun n => (s.wordLookup k (bitsOf (s.dispatchOf k) 6 0)).1.slotResult k (s.wordOf k (bitsOf (s.dispatchOf k) 6 0)) n (s.wordLookup k (bitsOf (s.dispatchOf k) 6 0)).2))).hv ∧ (∀ c, c ≠ 12 → r.mdw c = (writeSlots k ((List.range 16).filterMap (fun n => (s.wordLookup k (bitsOf (s.dispatchOf k) 6 0)).1.slotResult k (s.wordOf k (bitsOf (s.dispatchOf k) 6 0)) n (s.wordLookup k (bitsOf (s.dispatchOf k) 6 0)).2))).mdw c) ∧ r.mdw 12 = applyHop (mwEmit (s.wordOf k (bitsOf (s.dispatchOf k) 6 0))) ((writeSlots k ((List.range 16).filterMap (fun n => (s.wordLookup k (bitsOf (s.dispatchOf k) 6 0)).1.slotResult k (s.wordOf k (bitsOf (s.dispatchOf k) 6 0)) n (s.wordLookup k (bitsOf (s.dispatchOf k) 6 0)).2))).mdw 12) ∧ r.latched = latchEmit k.latched (mwEmit (s.wordOf k (bitsOf (s.dispatchOf k) 6 0))) (controlsApply (mwSeq (s.wordOf k (bitsOf (s.dispatchOf k) 6 0))) (s.wordLookup k (bitsOf (s.dispatchOf k) 6 0)).2) ∧
      r.desc = k.desc ∧ r.copy = k.copy ∧ r.parsed = k.parsed ∧ r.requests = k.requests ∧ r.route.opcode = nextOpcode (mwSeq (s.wordOf k (bitsOf (s.dispatchOf k) 6 0))) (s.wordLookup k (bitsOf (s.dispatchOf k) 6 0)).2 ∧
      r.route.drop = (((controlsApply (mwSeq (s.wordOf k (bitsOf (s.dispatchOf k) 6 0))) (s.wordLookup k (bitsOf (s.dispatchOf k) 6 0)).2) && decide (bitsOf (mwSeq (s.wordOf k (bitsOf (s.dispatchOf k) 6 0))) 3 3 = 1)) || decide ((64 ≤ (bitsOf (s.dispatchOf k) 6 0) ∧ nextOpcode (mwSeq (s.wordOf k (bitsOf (s.dispatchOf k) 6 0))) (s.wordLookup k (bitsOf (s.dispatchOf k) 6 0)).2 < 128 ∧ (s.wordLookup k (bitsOf (s.dispatchOf k) 6 0)).1.callable (k.span * 10) k.route.gen (nextOpcode (mwSeq (s.wordOf k (bitsOf (s.dispatchOf k) 6 0))) (s.wordLookup k (bitsOf (s.dispatchOf k) 6 0)).2) = false))) ∧ (((controlsApply (mwSeq (s.wordOf k (bitsOf (s.dispatchOf k) 6 0))) (s.wordLookup k (bitsOf (s.dispatchOf k) 6 0)).2) && decide (bitsOf (mwSeq (s.wordOf k (bitsOf (s.dispatchOf k) 6 0))) 3 3 = 1)) = true → r.route.reason = bitsOf (mwEmit (s.wordOf k (bitsOf (s.dispatchOf k) 6 0))) 16 9) ∧
      (((controlsApply (mwSeq (s.wordOf k (bitsOf (s.dispatchOf k) 6 0))) (s.wordLookup k (bitsOf (s.dispatchOf k) 6 0)).2) && decide (bitsOf (mwSeq (s.wordOf k (bitsOf (s.dispatchOf k) 6 0))) 3 3 = 1)) = false → (64 ≤ (bitsOf (s.dispatchOf k) 6 0) ∧ nextOpcode (mwSeq (s.wordOf k (bitsOf (s.dispatchOf k) 6 0))) (s.wordLookup k (bitsOf (s.dispatchOf k) 6 0)).2 < 128 ∧ (s.wordLookup k (bitsOf (s.dispatchOf k) 6 0)).1.callable (k.span * 10) k.route.gen (nextOpcode (mwSeq (s.wordOf k (bitsOf (s.dispatchOf k) 6 0))) (s.wordLookup k (bitsOf (s.dispatchOf k) 6 0)).2) = false) → r.route.reason = 0xFB) ∧ r.route.ended = ((controlsApply (mwSeq (s.wordOf k (bitsOf (s.dispatchOf k) 6 0))) (s.wordLookup k (bitsOf (s.dispatchOf k) 6 0)).2) && decide (bitsOf (mwSeq (s.wordOf k (bitsOf (s.dispatchOf k) 6 0))) 4 4 = 1)) ∧ r.route.recircReq = false ∧ (∀ j, j ≠ i → t.packet j = (s.wordLookup k (bitsOf (s.dispatchOf k) 6 0)).1.packet j) ∧ t.tables = (s.wordLookup k (bitsOf (s.dispatchOf k) 6 0)).1.tables) ∧
    (∀ (i : Nat) (k : Packet) (ev : StageEvent) (s : State),
      s.packet i = some k →
      k.route.ended = false →
      k.route.drop = false →
      k.route.recircReq = false →
      bitsOf (s.dispatchOf k) 15 15 = 1 →
      bitsOf (s.dispatchOf k) 14 14 = 0 →
      k.stage + 1 < passStages k.pass →
      k.pass = .ingress →
      k.route.recirculated = false →
      bitsOf (mwSeq (s.wordOf k (bitsOf (s.dispatchOf k) 6 0))) 5 5 = 1 →
      (controlsApply (mwSeq (s.wordOf k (bitsOf (s.dispatchOf k) 6 0))) (s.wordLookup k (bitsOf (s.dispatchOf k) 6 0)).2) = true →
      bitsOf (mwSeq (s.wordOf k (bitsOf (s.dispatchOf k) 6 0))) 3 3 = 0 →
      ¬ (64 ≤ (bitsOf (s.dispatchOf k) 6 0) ∧ nextOpcode (mwSeq (s.wordOf k (bitsOf (s.dispatchOf k) 6 0))) (s.wordLookup k (bitsOf (s.dispatchOf k) 6 0)).2 < 128 ∧ (s.wordLookup k (bitsOf (s.dispatchOf k) 6 0)).1.callable (k.span * 10) k.route.gen (nextOpcode (mwSeq (s.wordOf k (bitsOf (s.dispatchOf k) 6 0))) (s.wordLookup k (bitsOf (s.dispatchOf k) 6 0)).2) = false) →
      ev.checkFails = false →
      ev.corrected = 0 →
      ev.rowFixed = none →
      ev.rowBad = none →
      s.fc.injNext = none →
      ∃ t, exec (.stageExecute i ev) s = .next t ∧ ∃ r, t.packet i = some r ∧ r.stage = k.stage + 1 ∧ r.hv = (writeSlots k ((List.range 16).filterMap (fun n => (s.wordLookup k (bitsOf (s.dispatchOf k) 6 0)).1.slotResult k (s.wordOf k (bitsOf (s.dispatchOf k) 6 0)) n (s.wordLookup k (bitsOf (s.dispatchOf k) 6 0)).2))).hv ∧ (∀ c, c ≠ 12 → r.mdw c = (writeSlots k ((List.range 16).filterMap (fun n => (s.wordLookup k (bitsOf (s.dispatchOf k) 6 0)).1.slotResult k (s.wordOf k (bitsOf (s.dispatchOf k) 6 0)) n (s.wordLookup k (bitsOf (s.dispatchOf k) 6 0)).2))).mdw c) ∧ r.mdw 12 = applyHop (mwEmit (s.wordOf k (bitsOf (s.dispatchOf k) 6 0))) ((writeSlots k ((List.range 16).filterMap (fun n => (s.wordLookup k (bitsOf (s.dispatchOf k) 6 0)).1.slotResult k (s.wordOf k (bitsOf (s.dispatchOf k) 6 0)) n (s.wordLookup k (bitsOf (s.dispatchOf k) 6 0)).2))).mdw 12) ∧ r.latched = latchEmit k.latched (mwEmit (s.wordOf k (bitsOf (s.dispatchOf k) 6 0))) (controlsApply (mwSeq (s.wordOf k (bitsOf (s.dispatchOf k) 6 0))) (s.wordLookup k (bitsOf (s.dispatchOf k) 6 0)).2) ∧
      r.desc = k.desc ∧ r.copy = k.copy ∧ r.parsed = k.parsed ∧ r.requests = k.requests ∧ r.route.opcode = nextOpcode (mwSeq (s.wordOf k (bitsOf (s.dispatchOf k) 6 0))) (s.wordLookup k (bitsOf (s.dispatchOf k) 6 0)).2 ∧ r.route.recircReq = true ∧ r.route.drop = false ∧ r.route.ended = false ∧ (∀ j, j ≠ i → t.packet j = (s.wordLookup k (bitsOf (s.dispatchOf k) 6 0)).1.packet j) ∧ t.tables = (s.wordLookup k (bitsOf (s.dispatchOf k) 6 0)).1.tables) ∧
    (∀ (i : Nat) (k : Packet) (ev : StageEvent) (s : State),
      s.packet i = some k →
      k.route.ended = false →
      k.route.drop = false →
      k.route.recircReq = false →
      bitsOf (s.dispatchOf k) 15 15 = 1 →
      bitsOf (s.dispatchOf k) 14 14 = 0 →
      k.stage + 1 < passStages k.pass →
      k.pass = .ingress →
      k.route.recirculated = true →
      bitsOf (mwSeq (s.wordOf k (bitsOf (s.dispatchOf k) 6 0))) 5 5 = 1 →
      (controlsApply (mwSeq (s.wordOf k (bitsOf (s.dispatchOf k) 6 0))) (s.wordLookup k (bitsOf (s.dispatchOf k) 6 0)).2) = true →
      bitsOf (mwSeq (s.wordOf k (bitsOf (s.dispatchOf k) 6 0))) 3 3 = 0 →
      ¬ (64 ≤ (bitsOf (s.dispatchOf k) 6 0) ∧ nextOpcode (mwSeq (s.wordOf k (bitsOf (s.dispatchOf k) 6 0))) (s.wordLookup k (bitsOf (s.dispatchOf k) 6 0)).2 < 128 ∧ (s.wordLookup k (bitsOf (s.dispatchOf k) 6 0)).1.callable (k.span * 10) k.route.gen (nextOpcode (mwSeq (s.wordOf k (bitsOf (s.dispatchOf k) 6 0))) (s.wordLookup k (bitsOf (s.dispatchOf k) 6 0)).2) = false) →
      ev.checkFails = false →
      ev.corrected = 0 →
      ev.rowFixed = none →
      ev.rowBad = none →
      s.fc.injNext = none →
      ∃ t, exec (.stageExecute i ev) s = .next t ∧ (∃ r, t.packet i = some r ∧ r.stage = k.stage + 1 ∧ r.hv = (writeSlots k ((List.range 16).filterMap (fun n => (s.wordLookup k (bitsOf (s.dispatchOf k) 6 0)).1.slotResult k (s.wordOf k (bitsOf (s.dispatchOf k) 6 0)) n (s.wordLookup k (bitsOf (s.dispatchOf k) 6 0)).2))).hv ∧ (∀ c, c ≠ 12 → r.mdw c = (writeSlots k ((List.range 16).filterMap (fun n => (s.wordLookup k (bitsOf (s.dispatchOf k) 6 0)).1.slotResult k (s.wordOf k (bitsOf (s.dispatchOf k) 6 0)) n (s.wordLookup k (bitsOf (s.dispatchOf k) 6 0)).2))).mdw c) ∧ r.mdw 12 = applyHop (mwEmit (s.wordOf k (bitsOf (s.dispatchOf k) 6 0))) ((writeSlots k ((List.range 16).filterMap (fun n => (s.wordLookup k (bitsOf (s.dispatchOf k) 6 0)).1.slotResult k (s.wordOf k (bitsOf (s.dispatchOf k) 6 0)) n (s.wordLookup k (bitsOf (s.dispatchOf k) 6 0)).2))).mdw 12) ∧ r.latched = latchEmit k.latched (mwEmit (s.wordOf k (bitsOf (s.dispatchOf k) 6 0))) (controlsApply (mwSeq (s.wordOf k (bitsOf (s.dispatchOf k) 6 0))) (s.wordLookup k (bitsOf (s.dispatchOf k) 6 0)).2) ∧
      r.desc = k.desc ∧ r.copy = k.copy ∧ r.parsed = k.parsed ∧ r.requests = k.requests ∧ r.route.opcode = nextOpcode (mwSeq (s.wordOf k (bitsOf (s.dispatchOf k) 6 0))) (s.wordLookup k (bitsOf (s.dispatchOf k) 6 0)).2 ∧ r.route.recircReq = false ∧ r.route.drop = true ∧ r.route.reason = 0xFE) ∧ (t.source (k.source 0x3F)).cause = true ∧ (t.source (k.source 0x3F)).cls = .n ∧ (∀ j, j ≠ i → t.packet j = (s.wordLookup k (bitsOf (s.dispatchOf k) 6 0)).1.packet j)) ∧
    (∀ (i : Nat) (k : Packet) (ev : StageEvent) (s : State),
      s.packet i = some k →
      k.route.ended = false →
      k.route.drop = false →
      k.route.recircReq = false →
      bitsOf (s.dispatchOf k) 15 15 = 0 →
      k.stage + 1 < passStages k.pass →
      ev.checkFails = false →
      ev.corrected = 0 →
      ev.rowFixed = none →
      ev.rowBad = none →
      s.fc.injNext = none →
      ∃ t, exec (.stageExecute i ev) s = .next t ∧ (∃ r, t.packet i = some r ∧ r = { k with stage := k.stage + 1, route := r.route } ∧ r.route.drop = true ∧ r.route.reason = 0xFD) ∧ (t.source (k.source k.stage)).cause = true ∧ (t.source (k.source k.stage)).cls = .n ∧
      (∀ j, j ≠ i → t.packet j = s.packet j) ∧ FaultFrame s t) ∧
    (∀ (i : Nat) (k : Packet) (ev : StageEvent) (s : State),
      s.packet i = some k →
      k.pass = .ingress →
      k.desc.isSome = true →
      k.copy = none →
      (s.runStage k).2.route.recircReq = true →
      (s.runStage k).2.route.drop = false →
      k.route.kat = false →
      k.shadowed = false →
      k.stage = 23 →
      ev.checkFails = false →
      ev.corrected = 0 →
      ev.rowFixed = none →
      ev.rowBad = none →
      s.fc.injNext = none →
      ∃ t, exec (.stageExecute i ev) s = .next t ∧ t.packet i = some { (s.runStage k).2 with route := { (s.runStage k).2.route with recirculated := true, recircReq := false, ended := false }, requests := (s.runStage k).2.requests ++ (s.runStage k).2.passRequests, stage := 24 } ∧
      t.recircQueue k.group = (s.runStage k).1.recircQueue k.group ++ [i] ∧ (∀ j, j ≠ i → t.packet j = (s.runStage k).1.packet j) ∧ t.ord = (s.runStage k).1.ord) ∧
    (∀ (i : Nat) (k : Packet) (ev : StageEvent) (s : State) (d : Nat),
      s.packet i = some k →
      k.pass = .ingress →
      k.desc = some d →
      k.copy = none →
      (s.runStage k).2.route.recircReq = false ∨ (s.runStage k).2.route.drop = true →
      k.route.kat = false →
      k.shadowed = false →
      (s.info d).ring = none →
      k.stage = 23 →
      ev.checkFails = false →
      ev.corrected = 0 →
      ev.rowFixed = none →
      ev.rowBad = none →
      s.fc.injNext = none →
      ∃ t, exec (.stageExecute i ev) s = .next t ∧ t.packet i = none ∧ (t.info d).ingressDone = true ∧ t.order (s.info d).pair = { s.order (s.info d).pair with held := (s.order (s.info d).pair).held ++ [((s.desc d).seq, .result { port := ((s.runStage k).2.mdw 2).toNat % 1024, tc := ((s.runStage k).1.info d).tc, seq := ((s.runStage k).1.desc d).seq, desc := d, pipe := (s.runStage k).2.pipe, drop := (s.runStage k).2.route.drop || decide (¬ ((s.runStage k).2.latched.qset = true ∧ (getBits ((s.runStage k).2.mdw 6) 14 14 = 1 ∨ getBits ((s.runStage k).2.mdw 6) 15 15 = 1))), reason := if (s.runStage k).2.route.drop = true ∨ ((s.runStage k).2.latched.qset = true ∧ (getBits ((s.runStage k).2.mdw 6) 14 14 = 1 ∨ getBits ((s.runStage k).2.mdw 6) 15 15 = 1)) then (s.runStage k).2.route.reason else 0xFC, md6 := (s.runStage k).2.mdw 6, md7 := (s.runStage k).2.mdw 7, bridge := [(s.runStage k).2.mdw 8, (s.runStage k).2.mdw 9, (s.runStage k).2.mdw 10, (s.runStage k).2.mdw 11], egOp := (s.runStage k).2.route.opcode, requests := (s.runStage k).2.requests ++ (s.runStage k).2.passRequests, after := (s.runStage k).1.resolvingFor (s.runStage k).2 })] } ∧
      (∀ q, q ≠ (s.info d).pair → t.order q = s.order q) ∧ (∀ j, j ≠ i → t.packet j = (s.runStage k).1.packet j) ∧ OnlyTouches [.counters, .fc, .rx, .pipes, .ord, .tel] (s.runStage k).1 t) ∧
    (∀ (i : Nat) (k : Packet) (ev : StageEvent) (s : State) (d : Nat) (c : Nat × QEntry) (x : TxCopy),
      s.packet i = some k →
      k.pass = .egress →
      k.desc = some d →
      k.copy = some c →
      (s.runStage k).2.route.drop = false →
      k.route.kat = false →
      k.shadowed = false →
      (s.runStage k).2.latched.mirror = false →
      (s.runStage k).2.latched.tocpu = false →
      s.tx (c.1 / 16) = some x →
      x.queue = c.1 →
      x.entry = c.2 →
      s.resolvingFor k = false →
      k.stage = 15 →
      ev.checkFails = false →
      ev.corrected = 0 →
      ev.rowFixed = none →
      ev.rowBad = none →
      s.fc.injNext = none →
      ∃ t, exec (.stageExecute i ev) s = .next t ∧ t.packet i = none ∧ t.tx (c.1 / 16) = some { x with ready := some (s.runStage k).2 } ∧ (∀ o, o ≠ c.1 / 16 → t.tx o = s.tx o) ∧ (∀ j, j ≠ i → t.packet j = (s.runStage k).1.packet j) ∧ OnlyTouches [.counters, .fc, .pipes, .egr, .tel] (s.runStage k).1 t) ∧
    (∀ (i : Nat) (k : Packet) (ev : StageEvent) (s : State),
      s.packet i = some k →
      k.route.kat = true →
      k.shadowed = false →
      ev.digestBad = false →
      k.stage + 1 = passStages k.pass →
      ev.checkFails = false →
      ev.corrected = 0 →
      ev.rowFixed = none →
      ev.rowBad = none →
      s.fc.injNext = none →
      ∃ t, exec (.stageExecute i ev) s = .next t ∧ t.packet i = none ∧ t.counter (cPipe k.no 8) = ((s.runStage k).1.counter (cPipe k.no 8) + 1) % 2 ^ 64 ∧ t.counter (cPipe k.no 9) = (s.runStage k).1.counter (cPipe k.no 9) ∧ (t.pipeOf k.no).katBad ≠ some k.vector ∧ (∀ j, j ≠ i → t.packet j = (s.runStage k).1.packet j) ∧ OnlyTouches [.counters, .pipes] (s.runStage k).1 t) ∧
    (∀ (i : Nat) (k : Packet) (ev : StageEvent) (s : State),
      s.packet i = some k →
      (k.route.ended || k.route.drop || k.route.recircReq) = true →
      k.stage + 1 < passStages k.pass →
      ev.checkFails = false →
      ev.corrected ≠ 0 →
      ev.rowFixed = none →
      ev.rowBad = none →
      s.fc.injNext = none →
      ∃ t, exec (.stageExecute i ev) s = .next t ∧ t.packet i = some { k with stage := k.stage + 1 } ∧ t.counter (cPipe k.no 19) = (s.counter (cPipe k.no 19) + ev.corrected) % 2 ^ 64 ∧ (∀ j, j ≠ i → t.packet j = s.packet j) ∧ OnlyTouches [.counters, .fc, .pipes] s t) ∧
    (∀ (i : Nat) (k : Packet) (ev : StageEvent) (s : State),
      s.packet i = some k →
      k.stage < passStages k.pass →
      ev.checkFails = true →
      ev.corrected = 0 →
      ev.rowFixed = none →
      ev.rowBad = none →
      s.fc.injNext = none →
      k.route.kat = false →
      k.shadowed = false →
      k.failedAt = none →
      ∃ t, exec (.stageExecute i ev) s = .next t ∧ t.packet i = none ∧ t.counter (cPipe k.no 12) = (s.counter (cPipe k.no 12) + 1) % 2 ^ 64 ∧ t.counter (cPipe k.no 2) = (s.counter (cPipe k.no 2) + 1) % 2 ^ 64 ∧
      (∀ d, k.desc = some d → ∃ r, r ∈ t.replaysOf k.group k.pass ∧ r.desc = d ∧ r.copy = k.copy ∧ r.failedAt = some k.stage) ∧ OnlyTouches [.counters, .freeCount, .fc, .pipes, .tables] s t) ∧
    (∀ (i : Nat) (k : Packet) (ev : StageEvent) (s : State),
      s.packet i = some k →
      k.span < 16 →
      k.pipe < 5 →
      k.stage < passStages k.pass →
      ev.checkFails = true →
      ev.corrected = 0 →
      ev.rowFixed = none →
      ev.rowBad = none →
      s.fc.injNext = none →
      k.route.kat = false →
      k.failedAt.isSome = true →
      s.chip.lockColl.phase = .paired →
      s.chip.mode ≠ .safe →
      ∃ t, exec (.stageExecute i ev) s = .next t ∧ k.pipe ∈ (t.passOf k.span k.pass).faulty ∧ (t.source (k.source k.stage)).cause = true) ∧
    (∀ (i : Nat) (ev : StageEvent) (s : State),
      ((s.packet i).all (fun k => decide (passStages k.pass ≤ k.stage)) = true) →
      ∃ t, exec (.stageExecute i ev) s = .next t ∧ t = s)

/-- Of the results that wait for a pair, a duplicate is discarded and counted, and RELEASE stays. With no duplicate, a
void sequence at RELEASE is passed over: RELEASE moves on by one and no other pair changes; and a result at RELEASE
leaves when it may: RELEASE moves on by one, the frame is marked released with its egress container and an accepted
frame's ledger entry says RELEASED. A result for one queue, of a frame of one cell that asks for no other copy, puts
the frame's entry at that queue's tail, with the egress opcode in its descriptor and the cell handed from the arrival
to the queue's holder (on a port that is neither a fabric port nor in viaduct mode, with room for the frame under its
MTU). A dropped one of such a frame counts a drop of the pair, and the cell and the descriptor are free. With nothing
at RELEASE, or with a result there that may not leave, nothing changes. (R175, R237, R244, R245, R246, R30) -/
def Obligations.ResultsLeaveInOrder : Prop :=
    (∀ (p : Port) (tc : TrafficClass) (s : State) (r : Word),
      ((List.range (s.order (p * 16 + tc)).held.length).find? (fun i => (s.order (p * 16 + tc)).isDup i) = none) →
      ((s.order (p * 16 + tc)).held.find? (fun h => h.1 = (s.order (p * 16 + tc)).release) = some (r, .void)) →
      ∃ t, exec (.resultRelease p tc) s = .next t ∧ (t.order (p * 16 + tc)).release = (s.order (p * 16 + tc)).release + 1 ∧ (t.order (p * 16 + tc)).assign = (s.order (p * 16 + tc)).assign ∧
      (∀ q, q ≠ p.val * 16 + tc.val → t.order q = s.order q) ∧ OnlyTouches [.ord] s t) ∧
    (∀ (p : Port) (tc : TrafficClass) (s : State) (i : Nat),
      ((List.range (s.order (p * 16 + tc)).held.length).find? (fun i => (s.order (p * 16 + tc)).isDup i) = some i) →
      ∃ t, exec (.resultRelease p tc) s = .next t ∧ (t.order (p * 16 + tc)).held = (s.order (p * 16 + tc)).held.eraseIdx i ∧ (t.order (p * 16 + tc)).release = (s.order (p * 16 + tc)).release ∧
      t.counter (cChip 7) = (s.counter (cChip 7) + 1) % 2 ^ 64 ∧ t.fld 0x410 31 0 = min (s.fld 0x410 31 0 + 1) (2 ^ 32 - 1) ∧ OnlyTouches [.regs, .counters, .ord] s t) ∧
    (∀ (p : Port) (tc : TrafficClass) (s : State) (q : Word) (r : Result),
      ((List.range (s.order (p * 16 + tc)).held.length).find? (fun i => (s.order (p * 16 + tc)).isDup i) = none) →
      ((s.order (p * 16 + tc)).held.find? (fun h => h.1 = (s.order (p * 16 + tc)).release) = some (q, .result r)) →
      s.releasable r = true →
      ∃ t, exec (.resultRelease p tc) s = .next t ∧ t = ((s.setOrder (p * 16 + tc) { s.order (p * 16 + tc) with held := (s.order (p * 16 + tc)).held.filter (fun h => h.1 ≠ (s.order (p * 16 + tc)).release) }).setReorderUse
        (portGroup r.port) (s.reorderUse (portGroup r.port) - 1)).releaseResult (p * 16 + tc) r) ∧
    (∀ (p : Port) (tc : TrafficClass) (s : State) (q : Word) (r : Result),
      ((List.range (s.order (p * 16 + tc)).held.length).find? (fun i => (s.order (p * 16 + tc)).isDup i) = none) →
      ((s.order (p * 16 + tc)).held.find? (fun h => h.1 = (s.order (p * 16 + tc)).release) = some (q, .result r)) →
      s.releasable r = true →
      r.drop = false →
      r.mc = false →
      r.requests = [] →
      (s.desc r.desc).nextIndex < 255 →
      (s.desc r.desc).alloc = true →
      (s.desc r.desc).quar = false →
      (s.desc r.desc).cells = 1 →
      (s.link (s.desc r.desc).first).alloc = true →
      (s.link (s.desc r.desc).first).refcnt = 1 →
      (s.link (s.desc r.desc).first).owner = (s.info r.desc).arrivalHolder →
      (s.link (s.desc r.desc).first).last = true →
      s.bufferPaused = false →
      s.fabricPort (r.queue / 16) = false →
      (s.desc r.desc).len ≤ s.mtu (r.queue / 16) →
      s.viaduct (r.queue / 16) = false →
      s.egr.expired.contains (r.queue / 16) = false →
      ∃ t, exec (.resultRelease p tc) s = .next t ∧ (t.order (p * 16 + tc)).release = (s.order (p * 16 + tc)).release + 1 ∧ (t.info r.desc).released = true ∧ ((s.desc r.desc).accepted = true → (t.ledger r.desc).state = .released) ∧ (t.desc r.desc).egress = r.md6 ∧ (t.desc r.desc).egOp = r.egOp ∧
      (t.desc r.desc).dest = r.queue ∧ (t.link (s.desc r.desc).first).refcnt = 1 ∧ (t.link (s.desc r.desc).first).owner = (s.link (s.desc r.desc).first).owner ^^^ (s.info r.desc).arrivalHolder ^^^ holderQueue r.queue (s.desc r.desc).nextIndex ∧
      t.queue r.queue = s.queue r.queue ++ [{ desc := r.desc, idx := (s.desc r.desc).nextIndex, tag := r.queue }]) ∧
    (∀ (pair : Nat) (r : Result) (s : State),
      ((s.markReleased pair r).order pair).release = (s.order pair).release + 1 ∧ ((s.markReleased pair r).info r.desc).released = true ∧
      ((s.desc r.desc).accepted = true → ((s.markReleased pair r).ledger r.desc).state = .released) ∧ ((s.markReleased pair r).desc r.desc).egress = r.md6) ∧
    (∀ (p : Port) (tc : TrafficClass) (s : State) (q : Word) (r : Result),
      ((List.range (s.order (p * 16 + tc)).held.length).find? (fun i => (s.order (p * 16 + tc)).isDup i) = none) →
      ((s.order (p * 16 + tc)).held.find? (fun h => h.1 = (s.order (p * 16 + tc)).release) = some (q, .result r)) →
      s.releasable r = true →
      r.drop = true →
      r.requests = [] →
      (s.info r.desc).ring = none →
      (s.info r.desc).ended = true →
      s.bufferPaused = false →
      (s.desc r.desc).alloc = true →
      (s.desc r.desc).quar = false →
      (s.desc r.desc).cells = 1 →
      (s.link (s.desc r.desc).first).alloc = true →
      (s.link (s.desc r.desc).first).refcnt = 1 →
      (s.link (s.desc r.desc).first).owner = (s.info r.desc).arrivalHolder →
      ∃ t, exec (.resultRelease p tc) s = .next t ∧ (t.order (p * 16 + tc)).release = (s.order (p * 16 + tc)).release + 1 ∧ t.counter (cPcl (p * 16 + tc) 8) = (s.counter (cPcl (p * 16 + tc) 8) + 1) % 2 ^ 64 ∧ (t.desc r.desc).alloc = false ∧ (t.link (s.desc r.desc).first).alloc = false) ∧
    (∀ (p : Port) (tc : TrafficClass) (s : State),
      ((List.range (s.order (p * 16 + tc)).held.length).find? (fun i => (s.order (p * 16 + tc)).isDup i) = none) →
      ((s.order (p * 16 + tc)).held.find? (fun h => h.1 = (s.order (p * 16 + tc)).release) = none) →
      ∃ t, exec (.resultRelease p tc) s = .next t ∧ t = s) ∧
    (∀ (p : Port) (tc : TrafficClass) (s : State) (q : Word) (r : Result),
      ((List.range (s.order (p * 16 + tc)).held.length).find? (fun i => (s.order (p * 16 + tc)).isDup i) = none) →
      ((s.order (p * 16 + tc)).held.find? (fun h => h.1 = (s.order (p * 16 + tc)).release) = some (q, .result r)) →
      s.releasable r = false →
      ∃ t, exec (.resultRelease p tc) s = .next t ∧ t = s)

/-- On a frame whose cells agree and that is neither free nor quarantined, a TRANSFER of h to a set that leaves a holder
leaves every cell of the frame with the count less one plus the size of the set, and with h and the set's IDs folded
into its owner word; a TRANSFER of the arrival holder also gives the frame its destination (the queue of a unicast
copy, the group of a multicast frame, or 0xFFFE with no queue copy) and folds the change of destination into every
guard, while any other leaves the guards, the links' order and the descriptors. A RELEASE that is not the last takes
one from the count and folds h. No other cell changes, and nothing outside the buffer pool, but that single-bit errors
of the walk's reads are corrected and counted. The final RELEASE frees every cell of the frame and counts them; it
returns the descriptor of a frame whose arrival has ended, and of one still arriving it stops the frame, which keeps
its descriptor and has no cell. While the manager holds its outputs the operations wait. (R168, R173, R175, R176,
R177, R181) -/
def Obligations.HoldersMove : Prop :=
    (∀ (d : DescId) (h : Holder) (add : List Holder) (g : Option (Fin 32768)) (w : WalkCheck) (s : State),
      w ≠ .descBad →
      badLink w = none →
      holderKind h ≠ 3 →
      s.bufferPaused = false →
      (s.desc d).alloc = true →
      (s.desc d).quar = false →
      (s.desc d).cells ≠ 0 →
      (s.cellsOf d).Nodup →
      (∀ c ∈ s.cellsOf d, (s.link c).alloc = true ∧ (s.link c).refcnt = (s.link (s.desc d).first).refcnt ∧ (s.link c).owner = (s.link (s.desc d).first).owner ∧ ((s.link c).last = true → some c = (s.cellsOf d).getLast?)) →
      (s.link (s.desc d).first).refcnt ≠ 0 →
      (s.link (s.desc d).first).refcnt + add.length ≤ 256 →
      (s.link (s.desc d).first).refcnt ≠ 1 ∨ (s.link (s.desc d).first).owner = h →
      (s.link (s.desc d).first).refcnt + add.length ≠ 1 →
      ∃ t, exec (.holderTransfer d h add g w) s = .next t ∧ (∀ c ∈ s.cellsOf d, (t.link c).alloc = true ∧ (t.link c).refcnt = (s.link (s.desc d).first).refcnt + add.length - 1 ∧
        (t.link c).owner = add.foldl (fun o a => o ^^^ a) ((s.link (s.desc d).first).owner ^^^ h) ∧ (t.link c).guard = (s.link c).guard ∧ (t.link c).next = (s.link c).next) ∧
      (∀ c, c ∉ s.cellsOf d → t.link c = s.link c) ∧ t.buf.desc = s.buf.desc ∧ (w = .good → OnlyTouches [.buf] s t) ∧ OnlyTouches [.buf, .fc] s t) ∧
    (∀ (d : DescId) (h : Holder) (add : List Holder) (g : Option (Fin 32768)) (w : WalkCheck) (s : State),
      w ≠ .descBad →
      badLink w = none →
      holderKind h = 3 →
      s.bufferPaused = false →
      (s.desc d).alloc = true →
      (s.desc d).quar = false →
      (s.desc d).cells ≠ 0 →
      (s.cellsOf d).Nodup →
      (∀ c ∈ s.cellsOf d, (s.link c).alloc = true ∧ (s.link c).refcnt = (s.link (s.desc d).first).refcnt ∧ (s.link c).owner = (s.link (s.desc d).first).owner ∧ ((s.link c).last = true → some c = (s.cellsOf d).getLast?)) →
      (s.link (s.desc d).first).refcnt ≠ 0 →
      (s.link (s.desc d).first).refcnt + add.length ≤ 256 →
      (s.link (s.desc d).first).refcnt ≠ 1 ∨ (s.link (s.desc d).first).owner = h →
      (s.link (s.desc d).first).refcnt + add.length ≠ 1 →
      ∃ t, exec (.holderTransfer d h add g w) s = .next t ∧ (t.desc d).dest = (match add.find? (fun x => holderKind x = 0), g with | none, _ => 0xFFFE | some x, none => holderTarget x | some _, some k => 0x8000 + k.val) ∧
      (∀ c ∈ s.cellsOf d, (t.link c).refcnt = (s.link (s.desc d).first).refcnt + add.length - 1 ∧ (t.link c).owner = add.foldl (fun o a => o ^^^ a) ((s.link (s.desc d).first).owner ^^^ h) ∧
        (t.link c).guard = (s.link c).guard ^^^ BitVec.ofNat 32 (((s.desc d).dest ^^^ (t.desc d).dest) * 2 ^ 16)) ∧ (∀ c, c ∉ s.cellsOf d → t.link c = s.link c) ∧ (w = .good → OnlyTouches [.buf] s t) ∧ OnlyTouches [.buf, .fc] s t) ∧
    (∀ (d : DescId) (h : Holder) (w : WalkCheck) (s : State),
      w ≠ .descBad →
      badLink w = none →
      s.bufferPaused = false →
      (s.desc d).alloc = true →
      (s.desc d).quar = false →
      (s.desc d).cells ≠ 0 →
      (s.cellsOf d).Nodup →
      (∀ c ∈ s.cellsOf d, (s.link c).alloc = true ∧ (s.link c).refcnt = (s.link (s.desc d).first).refcnt ∧ (s.link c).owner = (s.link (s.desc d).first).owner ∧ ((s.link c).last = true → some c = (s.cellsOf d).getLast?)) →
      2 ≤ (s.link (s.desc d).first).refcnt →
      (s.link (s.desc d).first).refcnt ≤ 256 →
      ∃ t, exec (.holderRelease d h w) s = .next t ∧ (∀ c ∈ s.cellsOf d, (t.link c).alloc = true ∧ (t.link c).refcnt = (s.link (s.desc d).first).refcnt - 1 ∧ (t.link c).owner = (s.link (s.desc d).first).owner ^^^ h ∧ (t.link c).guard = (s.link c).guard) ∧
      (∀ c, c ∉ s.cellsOf d → t.link c = s.link c) ∧ t.buf.desc = s.buf.desc ∧ (w = .good → OnlyTouches [.buf] s t) ∧ OnlyTouches [.buf, .fc] s t) ∧
    (∀ (d : DescId) (h : Holder) (w : WalkCheck) (s : State),
      w ≠ .descBad →
      badLink w = none →
      s.bufferPaused = false →
      (s.desc d).alloc = true →
      (s.desc d).quar = false →
      (s.desc d).cells ≠ 0 →
      (s.cellsOf d).Nodup →
      (∀ c ∈ s.cellsOf d, (s.link c).alloc = true ∧ (s.link c).refcnt = (s.link (s.desc d).first).refcnt ∧ (s.link c).owner = (s.link (s.desc d).first).owner ∧ ((s.link c).last = true → some c = (s.cellsOf d).getLast?)) →
      (s.info d).ended = true →
      (s.link (s.desc d).first).refcnt = 1 →
      (s.link (s.desc d).first).owner = h →
      ∃ t, exec (.holderRelease d h w) s = .next t ∧ (∀ c ∈ s.cellsOf d, (t.link c).alloc = false) ∧ t.desc d = {} ∧ t.ledger d = {} ∧ t.buf.freeDesc = s.buf.freeDesc ++ [d.val] ∧ t.counter (cChip 3) = (s.counter (cChip 3) + (s.desc d).cells) % 2 ^ 64) ∧
    (∀ (d : DescId) (h : Holder) (w : WalkCheck) (s : State),
      w ≠ .descBad →
      badLink w = none →
      s.bufferPaused = false →
      (s.desc d).alloc = true →
      (s.desc d).quar = false →
      (s.desc d).cells ≠ 0 →
      (s.cellsOf d).Nodup →
      (∀ c ∈ s.cellsOf d, (s.link c).alloc = true ∧ (s.link c).refcnt = (s.link (s.desc d).first).refcnt ∧ (s.link c).owner = (s.link (s.desc d).first).owner ∧ ((s.link c).last = true → some c = (s.cellsOf d).getLast?)) →
      (s.info d).ended = false →
      (s.link (s.desc d).first).refcnt = 1 →
      (s.link (s.desc d).first).owner = h →
      ∃ t, exec (.holderRelease d h w) s = .next t ∧ (∀ c ∈ s.cellsOf d, (t.link c).alloc = false) ∧ (t.desc d).alloc = true ∧ (t.desc d).cells = 0 ∧ (t.info d).stopped = true ∧ t.buf.freeDesc = s.buf.freeDesc ∧ t.counter (cChip 3) = (s.counter (cChip 3) + (s.desc d).cells) % 2 ^ 64) ∧
    (∀ (d : DescId) (h : Holder) (add : List Holder) (g : Option (Fin 32768)) (w : WalkCheck) (s : State),
      s.bufferPaused = true →
      exec (.holderTransfer d h add g w) s = .next s ∧ exec (.holderRelease d h w) s = .next s)

/-- On a frame that is neither free nor quarantined, a TRANSFER or a RELEASE is refused when the first cell is FREE (kind
2), when the count would pass 255 (kind 3), and at a count of one by another holder than the last one (kind 1): the
source 0x10 + kind of the buffer pool manager latches a class-S fault with the first cell and the holder in DETAIL,
the fault log takes the entry while it has room and shows its overflow else, the frame is quarantined, and an
allocated first cell keeps its count and owner. An operation that names a free descriptor is refused in the same way
as kind 6, with the descriptor in place of the cell. A read of a cell whose guard verifies changes nothing, but that a
single-bit error is corrected and counted and leaves the frame as it is. A read whose guard fails with the bank word
correct is a MISDIRECT: source 0x17 latches and the frame is quarantined, class S, or, within 1 s of the previous one,
class D with the device in the safe state (out of OFF, with no injection suppressing it and the collector not being
checked). One with an uncorrectable bank word is a DATA_LOSS: source 0x18 latches, class S. The clauses on reads are
for a device with no injection fired and not yet met. (R178, R179, R182, R183, R199, R432) -/
def Obligations.WrongHoldersAreCaught : Prop :=
    (∀ (d : DescId) (h : Holder) (add : List Holder) (g : Option (Fin 32768)) (s : State) (kind : Nat),
      s.bufferPaused = false →
      (s.desc d).alloc = true →
      (s.desc d).quar = false →
      (kind = 2 ∧ (s.link (s.desc d).first).alloc = false) ∨ (kind = 3 ∧ (s.link (s.desc d).first).alloc = true ∧ 256 < (s.link (s.desc d).first).refcnt + add.length) ∨
        (kind = 1 ∧ (s.link (s.desc d).first).alloc = true ∧ (s.link (s.desc d).first).refcnt = 1 ∧ (s.link (s.desc d).first).owner ≠ h ∧ add.length < 256) →
      ∃ t, exec (.holderTransfer d h add g .good) s = .next t ∧ (t.source (srcChip 1 (16 + kind))).cause = true ∧ (t.source (srcChip 1 (16 + kind))).cls = .s ∧ (t.source (srcChip 1 (16 + kind))).detail = BitVec.ofNat 64 ((s.desc d).first + h.toNat * 2 ^ 24) ∧
      (s.buf.flog.length < 64 → t.buf.flog = s.buf.flog ++ [{ kind := kind, id := (s.desc d).first, holder := h }]) ∧ (64 ≤ s.buf.flog.length → t.bit 0x800004 5 = true) ∧
      (t.desc d).quar = true ∧ ((s.link (s.desc d).first).alloc = true → (t.link (s.desc d).first).refcnt = (s.link (s.desc d).first).refcnt ∧ (t.link (s.desc d).first).owner = (s.link (s.desc d).first).owner)) ∧
    (∀ (d : DescId) (h : Holder) (s : State) (kind : Nat),
      s.bufferPaused = false →
      (s.desc d).alloc = true →
      (s.desc d).quar = false →
      (kind = 2 ∧ (s.link (s.desc d).first).alloc = false) ∨ (kind = 3 ∧ (s.link (s.desc d).first).alloc = true ∧ 256 < (s.link (s.desc d).first).refcnt) ∨
        (kind = 1 ∧ (s.link (s.desc d).first).alloc = true ∧ (s.link (s.desc d).first).refcnt = 1 ∧ (s.link (s.desc d).first).owner ≠ h) →
      ∃ t, exec (.holderRelease d h .good) s = .next t ∧ (t.source (srcChip 1 (16 + kind))).cause = true ∧ (t.source (srcChip 1 (16 + kind))).cls = .s ∧ (t.source (srcChip 1 (16 + kind))).detail = BitVec.ofNat 64 ((s.desc d).first + h.toNat * 2 ^ 24) ∧
      (s.buf.flog.length < 64 → t.buf.flog = s.buf.flog ++ [{ kind := kind, id := (s.desc d).first, holder := h }]) ∧ (64 ≤ s.buf.flog.length → t.bit 0x800004 5 = true) ∧
      (t.desc d).quar = true ∧ ((s.link (s.desc d).first).alloc = true → (t.link (s.desc d).first).refcnt = (s.link (s.desc d).first).refcnt ∧ (t.link (s.desc d).first).owner = (s.link (s.desc d).first).owner)) ∧
    (∀ (d : DescId) (h : Holder) (s : State),
      s.bufferPaused = false →
      (s.desc d).alloc = false →
      ∃ t, exec (.holderRelease d h .good) s = .next t ∧ (t.source (srcChip 1 (16 + 6))).cause = true ∧ (t.source (srcChip 1 (16 + 6))).cls = .s ∧ (t.source (srcChip 1 (16 + 6))).detail = BitVec.ofNat 64 (d.val + h.toNat * 2 ^ 24) ∧
      (s.buf.flog.length < 64 → t.buf.flog = s.buf.flog ++ [{ kind := 6, id := d.val, holder := h }]) ∧ (64 ≤ s.buf.flog.length → t.bit 0x800004 5 = true)) ∧
    (∀ (d : DescId) (i : Fin 64) (h : Holder) (wrong : List (Fin 256 × Byte)) (s : State),
      i.val < (s.desc d).cells →
      s.fc.injNext = none →
      s.guardFails d ((s.cellsOf d).getD i.val 0) (s.readerDest d h) (readBytes (s.cellBytes ((s.cellsOf d).getD i.val 0) ((s.link ((s.cellsOf d).getD i.val 0)).fill + 1)) wrong) = false →
      ∃ t, exec (.cellRead d i h wrong .good .good) s = .next t ∧ t = s) ∧
    (∀ (d : DescId) (i : Fin 64) (h : Holder) (wrong : List (Fin 256 × Byte)) (s : State),
      (s.desc d).alloc = true →
      (s.desc d).quar = false →
      i.val < (s.desc d).cells →
      s.fc.injNext = none →
      s.guardFails d ((s.cellsOf d).getD i.val 0) (s.readerDest d h) (readBytes (s.cellBytes ((s.cellsOf d).getD i.val 0) ((s.link ((s.cellsOf d).getD i.val 0)).fill + 1)) wrong) = false →
      ∃ t, exec (.cellRead d i h wrong .single .good) s = .next t ∧ t.corrections (bankSource ((s.cellsOf d).getD i.val 0)) = (s.now :: (s.corrections (bankSource ((s.cellsOf d).getD i.val 0))).filter (fun x => decide (s.now < x + (correctedRule (bankSource ((s.cellsOf d).getD i.val 0))).2))).take ((correctedRule (bankSource ((s.cellsOf d).getD i.val 0))).1 + 1) ∧ (t.desc d).quar = false ∧ OnlyTouches [.fc] s t) ∧
    (∀ (d : DescId) (i : Fin 64) (h : Holder) (wrong : List (Fin 256 × Byte)) (s : State),
      (s.desc d).alloc = true →
      (s.desc d).quar = false →
      i.val < (s.desc d).cells →
      s.fc.injNext = none →
      s.guardFails d ((s.cellsOf d).getD i.val 0) (s.readerDest d h) (readBytes (s.cellBytes ((s.cellsOf d).getD i.val 0) ((s.link ((s.cellsOf d).getD i.val 0)).fill + 1)) wrong) = true →
      ∃ t, exec (.cellRead d i h wrong .good .good) s = .next t ∧ (t.source (srcChip 1 0x17)).cause = true ∧ (t.desc d).quar = true ∧ (t.source (srcChip 1 0x17)).cls = if s.buf.misdirect.any (fun m => decide (s.now ≤ m + 1000000000)) then .d else .s) ∧
    (∀ (d : DescId) (i : Fin 64) (h : Holder) (wrong : List (Fin 256 × Byte)) (s : State),
      (s.desc d).alloc = true →
      (s.desc d).quar = false →
      i.val < (s.desc d).cells →
      s.fc.injNext = none →
      s.guardFails d ((s.cellsOf d).getD i.val 0) (s.readerDest d h) (readBytes (s.cellBytes ((s.cellsOf d).getD i.val 0) ((s.link ((s.cellsOf d).getD i.val 0)).fill + 1)) wrong) = true →
      (s.buf.misdirect.any (fun m => decide (s.now ≤ m + 1000000000)) = true) →
      s.chip.lockColl.phase = .paired →
      s.chip.mode ≠ .off →
      ∃ t, exec (.cellRead d i h wrong .good .good) s = .next t ∧ t.chip.mode = .safe) ∧
    (∀ (d : DescId) (i : Fin 64) (h : Holder) (wrong : List (Fin 256 × Byte)) (s : State),
      (s.desc d).alloc = true →
      (s.desc d).quar = false →
      i.val < (s.desc d).cells →
      s.fc.injNext = none →
      s.guardFails d ((s.cellsOf d).getD i.val 0) (s.readerDest d h) (readBytes (s.cellBytes ((s.cellsOf d).getD i.val 0) ((s.link ((s.cellsOf d).getD i.val 0)).fill + 1)) wrong) = true →
      ∃ t, exec (.cellRead d i h wrong .uncorrectable .good) s = .next t ∧ (t.source (srcChip 1 0x18)).cause = true ∧ (t.source (srcChip 1 0x18)).cls = .s)

/-- The checks of a COMMIT pass exactly when the staged MIN and HDRM of all pairs, 12,288, HOST and RECORD sum to at most
1,048,576, MIN is at most MAX for every pair, HDRM is 0 for every pair of a lossy class, and RECORD is at least 256.
In START-UP and TEST, outside the closed part of a warm reset, a COMMIT whose checks pass puts every staged limit
register in force and computes BPM_SHARED and the shared descriptors from their sum; one whose checks fail applies
none and shows the number of the first failed check; while the pool's pair is being checked it waits. In another state
it is refused against CHIP element 1. A read of the fault log takes the oldest entry out, or reads 0. RECLAIM from the
audit frees the chain of a quarantined frame and returns its descriptor, or frees an allocated cell, and does nothing
to a frame that is not quarantined, to a free cell, and while the manager holds its outputs; from the host it is
refused against CHIP element 1. (R185, R197, R199, R200, R194) -/
def Obligations.LimitsAndAudits : Prop :=
    (∀ (s : State),
      s.closed 0x800000 = false →
      s.rwlOpen = true →
      s.chip.lockPool.phase = .paired →
      s.commitCause = 0 →
      ∃ t, exec (.limitCommit) s = .next t ∧ t.buf.limits = s.regs.filter (fun e : Nat × Word => isLimit e.1) ∧ t.reg 0x80000C = BitVec.ofNat 32 (2097152 - s.stagedSum - 8192 * s.fc.retired.length) ∧
      t.reg 0x800010 = BitVec.ofNat 32 (1048576 - s.stagedSum) ∧ t.chip.committed = true ∧ (∀ o, o ≠ 0x80000C → o ≠ 0x800010 → t.reg o = s.reg o) ∧ OnlyTouches [.regs, .chip, .buf] s t) ∧
    (∀ (s : State),
      s.closed 0x800000 = false →
      s.rwlOpen = true →
      s.chip.lockPool.phase = .paired →
      s.commitCause ≠ 0 →
      ∃ t, exec (.limitCommit) s = .next t ∧ t.buf = s.buf ∧ t.chip = s.chip ∧ t.bit 0x800004 4 = true ∧ t.fld 0x800004 3 0 = s.commitCause % 16 ∧ (∀ o, o ≠ 0x800004 → t.reg o = s.reg o)) ∧
    (∀ (s : State),
      s.closed 0x800000 = false →
      s.rwlOpen = false →
      ∃ t, exec (.limitCommit) s = .next t ∧ t.buf.limits = s.buf.limits ∧ (t.source 0xF801).cause = true ∧ (t.source 0xF801).cls = .n ∧ FaultFrame s t) ∧
    (∀ (s : State) (e : FlogEntry) (rest : List FlogEntry),
      s.closed 0x800020 = false →
      s.buf.flog = e :: rest →
      ∃ t, exec (.faultLogRead) s = .next t ∧ t.readData = BitVec.ofNat 32 (2 ^ 31 + e.kind * 2 ^ 27 + e.id) ∧ t.buf.flog = rest ∧ t.reg 0x800024 = e.holder.setWidth 32 ∧ (∀ o, o ≠ 0x800024 → t.reg o = s.reg o)) ∧
    (∀ (s : State),
      s.closed 0x800020 = false →
      s.buf.flog = [] →
      ∃ t, exec (.faultLogRead) s = .next t ∧ t = { s with readData := 0 }) ∧
    (∀ (v : Word) (s : State),
      s.bufferPaused = false →
      getBits v 31 31 = 1 →
      (s.desc (getBits v 20 0)).alloc = true →
      (s.desc (getBits v 20 0)).quar = true →
      ∃ t, exec (.reclaim true v) s = .next t ∧ (∀ c ∈ s.cellsOf (getBits v 20 0), (t.link c).alloc = false) ∧ t.desc (getBits v 20 0) = {} ∧ t.buf.freeDesc = s.buf.freeDesc ++ [getBits v 20 0]) ∧
    (∀ (v : Word) (s : State),
      s.bufferPaused = false →
      getBits v 31 31 = 0 →
      (s.link (getBits v 20 0)).alloc = true →
      ∃ t, exec (.reclaim true v) s = .next t ∧ (t.link (getBits v 20 0)).alloc = false ∧ t.counter (cChip 3) = (s.counter (cChip 3) + 1) % 2 ^ 64 ∧ OnlyTouches [.buf, .counters] s t) ∧
    (∀ (v : Word) (s : State),
      s.closed 0x800028 = false →
      ∃ t, exec (.reclaim false v) s = .next t ∧ t.buf.desc = s.buf.desc ∧ t.buf.freeDesc = s.buf.freeDesc ∧ (t.source 0xF801).cause = true ∧ (t.source 0xF801).cls = .n ∧ (t.source 0xF801).detail = 0x4800028 ∧ FaultFrame s t) ∧
    (∀ (v : Word) (s : State),
      s.bufferPaused = true ∨ (getBits v 31 31 = 1 ∧ (s.desc (getBits v 20 0)).alloc = true ∧ (s.desc (getBits v 20 0)).quar = false) ∨ (getBits v 31 31 ≠ 1 ∧ (s.link (getBits v 20 0)).alloc = false) →
      ∃ t, exec (.reclaim true v) s = .next t ∧ t = s) ∧
    (∀ (s : State),
      s.closed 0x800000 = false →
      s.rwlOpen = true →
      s.chip.lockPool.phase ≠ .paired →
      ∃ t, exec (.limitCommit) s = .next t ∧ t = s) ∧
    (∀ (s : State),
      Tbl.wf resetWord s.regs = true →
      s.commitCause = 0 ↔ s.stagedSum ≤ 1048576 ∧ (∀ q, q < 16384 → s.fld (0x810004 + q * 8) 15 0 ≤ s.fld (0x810000 + q * 8) 21 0) ∧
      (∀ q, q < 16384 → s.bit (0x800100 + q % 16 * 4) 22 = false → s.fld (0x810004 + q * 8) 31 16 = 0) ∧ 256 ≤ s.fld 0x800008 31 16)

/-- A port whose turn it is in its pipeline's round robin takes the retransmission that is next, or the head entry of the
queue that the scheduler picks, which leaves its queue and waits for its egress slot; a queue picked for a pending
GRANT issues one, and the pending count falls by 1; a port whose turn it is not takes nothing. A copy in hand whose
egress pass has ended, and whose cells verify, starts with TB0 nanoseconds as its time, a lossless one on a viaduct-
mode port with the next link sequence when credit covers it, and waits when it does not; a retransmission starts with
the bytes kept for it, and a message as it is. A port with nothing in hand that can start or complete changes nothing.
A completed retransmission moves the link to the next one; a completed copy leaves the port free, and the frame and
its bytes are counted. (R182, R210, R211, R213, R225, R237, R249, R283, R297) -/
def Obligations.CopiesAreSelectedAndSent : Prop :=
    (∀ (p : Port) (s u : State) (q : Nat) (e : QEntry),
      s.nextPort (portGroup p) = some p.val →
      s.nextResend p = none →
      s.pickQueue p = some (u, q) →
      u.headEntry q = some e →
      e.msg = [] →
      ∃ t, exec (.schedulerSelect p) s = .next t ∧ (∃ x, t.tx p = some x ∧ x.queue = q ∧ x.entry = e ∧ x.started = false ∧ x.resend = false ∧ x.ready = none) ∧ t.selectedOf (portGroup p) = s.selectedOf (portGroup p) ++ [(q, e)] ∧
      t.aheadOf q = (s.aheadOf q).drop 1 ∧ (s.aheadOf q = [] → t.queue q = (s.queue q).drop 1) ∧ (s.aheadOf q ≠ [] → t.queue q = s.queue q) ∧ (∀ r, r ≠ q → t.queue r = s.queue r) ∧
      OnlyTouches [.counters, .rx, .pipes, .egr] s t) ∧
    (∀ (p : Port) (s : State) (r : RetryEntry),
      s.nextPort (portGroup p) = some p.val →
      s.nextResend p = some r →
      (s.checkGuards r.entry.desc (s.desc r.entry.desc).dest (holderRetry p r.entry.idx)).2 = true →
      ∃ t, exec (.schedulerSelect p) s = .next t ∧ (∃ x, t.tx p = some x ∧ x.queue = r.queue ∧ x.entry = r.entry ∧ x.bytes = r.bytes ∧ x.viaSeq = some r.seq ∧ x.resend = true ∧ x.started = false) ∧ (∀ o, o ≠ p.val → t.tx o = s.tx o) ∧ (∀ q, t.queue q = s.queue q) ∧ OnlyTouches [.egr] s t) ∧
    (∀ (p : Port) (s u : State) (q dev v : Nat),
      s.nextPort (portGroup p) = some p.val →
      s.nextResend p = none →
      s.pickQueue p = some (u, q) →
      u.headEntry q = none →
      u.pendingGrant q = some (dev, v) →
      ∃ t, exec (.schedulerSelect p) s = .next t ∧ Tbl.get zeroNat t.cmp.pending (dev * 65536 + v) = Tbl.get zeroNat s.cmp.pending (dev * 65536 + v) - 1 ∧ t.tx p = none ∧ (∀ r, t.queue r = s.queue r) ∧ OnlyTouches [.emitted, .counters, .egr, .cmp] s t) ∧
    (∀ (p : Port) (s : State),
      s.nextPort (portGroup p) ≠ some p.val →
      ∃ t, exec (.schedulerSelect p) s = .next t ∧ t = s) ∧
    (∀ (p : Port) (s : State) (x : TxCopy) (k : Packet),
      s.tx p = some x →
      x.started = false →
      x.resend = false →
      x.entry.msg = [] →
      x.ready = some k →
      x.viaSeq = none →
      s.linkUp p = true →
      s.chip.mode ≠ .safe →
      s.sendsIdle p = false →
      (s.checkGuards x.entry.desc x.entry.tag (holderQueue x.queue x.entry.idx)).2 = true →
      (s.viaduct p && (s.desc x.entry.desc).lossless) = false →
      ∃ t, exec (.transmitStart p) s = .next t ∧ (∃ y, t.tx p = some y ∧ y.started = true ∧ y.tsOut = s.tb0Ns ∧ y.stamp = s.stamp ∧ y.viaSeq = none ∧ y.entry = x.entry ∧ y.queue = x.queue ∧ y.bytes = s.txDeck p none (s.txHop x.entry.desc) ++ (s.copyBytes k { x with tsOut := s.tb0Ns, stamp := s.stamp, cellsUsed := 2097152 - s.freeCells }).1) ∧ (∀ o, o ≠ p.val → t.tx o = s.tx o)) ∧
    (∀ (p : Port) (s : State) (x : TxCopy) (k : Packet),
      s.tx p = some x →
      x.started = false →
      x.resend = false →
      x.entry.msg = [] →
      x.ready = some k →
      s.linkUp p = true →
      s.chip.mode ≠ .safe →
      s.sendsIdle p = false →
      (s.checkGuards x.entry.desc x.entry.tag (holderQueue x.queue x.entry.idx)).2 = true →
      (s.viaduct p && (s.desc x.entry.desc).lossless) = true →
      s.viaCovers p (s.txHop x.entry.desc) ((s.copyBytes k { x with tsOut := s.tb0Ns, stamp := s.stamp, cellsUsed := 2097152 - s.freeCells }).1).length = true →
      ∃ t, exec (.transmitStart p) s = .next t ∧ (∃ y, t.tx p = some y ∧ y.started = true ∧ y.viaSeq = some (s.viaLink p).next ∧ y.hop = s.txHop x.entry.desc ∧ y.tsOut = s.tb0Ns ∧ y.entry = x.entry ∧ y.queue = x.queue) ∧ (t.viaLink p).next = ((s.viaLink p).next + 1) % 2 ^ 24 ∧ (∀ o, o ≠ p.val → t.tx o = s.tx o)) ∧
    (∀ (p : Port) (s : State),
      s.tx p = none ∨ (∃ x, s.tx p = some x ∧ (x.started = true ∨ (x.resend = false ∧ x.entry.msg = [] ∧ x.ready = none))) ∨ s.linkUp p = false ∨ s.chip.mode = .safe ∨ s.sendsIdle p = true →
      ∃ t, exec (.transmitStart p) s = .next t ∧ t = s) ∧
    (∀ (p : Port) (s : State) (x : TxCopy) (k : Packet),
      s.tx p = some x →
      x.resend = false →
      x.entry.msg = [] →
      x.ready = some k →
      (s.checkGuards x.entry.desc x.entry.tag (holderQueue x.queue x.entry.idx)).2 = true →
      (s.viaduct p && (s.desc x.entry.desc).lossless) = true →
      s.viaCovers p (s.txHop x.entry.desc) ((s.copyBytes k { x with tsOut := s.tb0Ns, stamp := s.stamp, cellsUsed := 2097152 - s.freeCells }).1).length = false →
      ∃ t, exec (.transmitStart p) s = .next t ∧ t = s) ∧
    (∀ (p : Port) (s : State) (x : TxCopy),
      s.tx p = some x →
      x.resend = true →
      s.viaHeld p = true ∨ s.egressMoving p = true ∨ s.resendBytes x = [] →
      ∃ t, exec (.transmitStart p) s = .next t ∧ t = s) ∧
    (∀ (p : Port) (s : State) (x : TxCopy),
      s.tx p = some x →
      x.started = false →
      x.resend = true →
      s.viaHeld p = false →
      s.egressMoving p = false →
      s.resendBytes x ≠ [] →
      s.linkUp p = true →
      s.chip.mode ≠ .safe →
      s.sendsIdle p = false →
      ∃ t, exec (.transmitStart p) s = .next t ∧ t.tx p = some { x with started := true, bytes := s.txDeck p x.viaSeq (s.txHop x.entry.desc) ++ s.resendBytes x } ∧ (∀ o, o ≠ p.val → t.tx o = s.tx o) ∧ OnlyTouches [.egr, .via] s t) ∧
    (∀ (p : Port) (s : State) (x : TxCopy),
      s.tx p = some x →
      x.started = false →
      x.resend = false →
      x.entry.msg ≠ [] →
      s.linkUp p = true →
      s.chip.mode ≠ .safe →
      s.sendsIdle p = false →
      ∃ t, exec (.transmitStart p) s = .next t ∧ t.tx p = some { x with started := true, bytes := s.txDeck p none 0 ++ x.entry.msg } ∧ (∀ o, o ≠ p.val → t.tx o = s.tx o) ∧ OnlyTouches [.egr, .via] s t) ∧
    (∀ (p : Port) (s : State) (x : TxCopy) (q : Nat),
      s.tx p = some x →
      x.started = true →
      s.bufferPaused = false →
      x.resend = true →
      x.viaSeq = some q →
      q < 2 ^ 24 →
      (s.viaLink p).resend = q →
      q ≠ (s.viaLink p).next →
      (s.viaLink p).next < 2 ^ 24 →
      (s.viaLink p).una = q →
      ∃ t, exec (.transmitComplete p) s = .next t ∧ (t.viaLink p).resend = (q + 1) % 2 ^ 24 ∧ (t.viaLink p).una = q ∧ (t.viaLink p).next = (s.viaLink p).next ∧ (t.viaLink p).retry = (s.viaLink p).retry ∧ (∀ o, o ≠ p.val → t.viaLink o = s.viaLink o)) ∧
    (∀ (p : Port) (s : State) (x : TxCopy),
      s.tx p = some x →
      x.started = true →
      s.bufferPaused = false →
      x.resend = true →
      ∃ t, exec (.transmitComplete p) s = .next t ∧ t.tx p = none ∧ t.counter (cPort p 10) = (s.counter (cPort p 10) + 1) % 2 ^ 64 ∧ t.counter (cPort p 11) = (s.counter (cPort p 11) + (x.bytes.drop 8).length) % 2 ^ 64 ∧ t.counter (cPort p 18) = (s.counter (cPort p 18) + 1) % 2 ^ 64 ∧
      t.emitted = .frame p (x.bytes.take 8 ++ x.bytes.drop 8) false :: s.emitted ∧ (∀ o, o ≠ p.val → t.tx o = s.tx o) ∧ OnlyTouches [.counters, .emitted, .egr, .via] s t) ∧
    (∀ (p : Port) (s : State) (x : TxCopy) (k : Packet),
      s.tx p = some x →
      x.started = true →
      s.bufferPaused = false →
      x.resend = false →
      x.entry.msg = [] →
      x.ready = some k →
      (s.info x.entry.desc).ended = true →
      (s.info x.entry.desc).good = true →
      (s.checkGuards x.entry.desc x.entry.tag (holderQueue x.queue x.entry.idx)).2 = true →
      ∃ t, exec (.transmitComplete p) s = .next t ∧ t.tx p = none) ∧
    (∀ (p : Port) (s : State) (x : TxCopy) (k : Packet),
      s.tx p = some x →
      x.started = true →
      s.bufferPaused = false →
      x.resend = false →
      x.entry.msg = [] →
      x.ready = some k →
      x.viaSeq = none →
      (s.info x.entry.desc).ended = true →
      (s.info x.entry.desc).good = true →
      (s.checkGuards x.entry.desc x.entry.tag (holderQueue x.queue x.entry.idx)).2 = true →
      (s.desc x.entry.desc).alloc = true →
      (s.desc x.entry.desc).quar = false →
      (s.desc x.entry.desc).cells = 1 →
      (s.link (s.desc x.entry.desc).first).alloc = true →
      2 ≤ (s.link (s.desc x.entry.desc).first).refcnt →
      (s.link (s.desc x.entry.desc).first).refcnt ≤ 256 →
      (s.link (s.desc x.entry.desc).first).last = true →
      ∃ t, exec (.transmitComplete p) s = .next t ∧ t.tx p = none ∧ (∀ o, o ≠ p.val → t.tx o = s.tx o) ∧ t.emitted = .frame p ((if s.viaduct p then x.bytes.take 8 else []) ++ (s.copyBytes k x).1) false :: s.emitted ∧ t.counter (cPort p 10) = (s.counter (cPort p 10) + 1) % 2 ^ 64 ∧ t.counter (cPort p 11) = (s.counter (cPort p 11) + (s.copyBytes k x).1.length) % 2 ^ 64 ∧
      (t.link (s.desc x.entry.desc).first).refcnt = (s.link (s.desc x.entry.desc).first).refcnt - 1 ∧ (t.link (s.desc x.entry.desc).first).owner = (s.link (s.desc x.entry.desc).first).owner ^^^ holderQueue x.queue x.entry.idx) ∧
    (∀ (p : Port) (s : State) (x : TxCopy),
      s.tx p = some x →
      x.started = true →
      s.bufferPaused = false →
      x.resend = false →
      x.entry.msg ≠ [] →
      ∃ t, exec (.transmitComplete p) s = .next t ∧ t.tx p = none ∧ t.counter (cPort p 10) = (s.counter (cPort p 10) + 1) % 2 ^ 64 ∧ t.counter (cPort p 11) = (s.counter (cPort p 11) + x.entry.msg.length) % 2 ^ 64 ∧ t.emitted = .frame p ((if s.viaduct p then x.bytes.take 8 else []) ++ x.entry.msg) false :: s.emitted ∧ OnlyTouches [.counters, .emitted, .egr] s t) ∧
    (∀ (p : Port) (s : State),
      s.tx p = none ∨ (∃ x, s.tx p = some x ∧ x.started = false) ∨ s.bufferPaused = true →
      ∃ t, exec (.transmitComplete p) s = .next t ∧ t = s) ∧
    (∀ (p : Port) (s : State) (x : TxCopy),
      s.tx p = some x →
      x.resend = false →
      x.entry.msg = [] →
      x.ready = none ∨ ((s.info x.entry.desc).ended = false) ∨ ((s.info x.entry.desc).good = false ∧ (s.info x.entry.desc).ring = none) →
      ∃ t, exec (.transmitComplete p) s = .next t ∧ t = s)

/-- A refill adds to each enabled shaper the time since its own last refill times its rate, never past its burst, and
leaves the time of the refill; a shaper that is not enabled keeps its tokens. A swap toggles the profile in use. A
write of a rate or burst sets that register alone. A multicast group takes a run that stays below entry 262,144 and
refuses one that passes it, with its register as it was. (R214, R216, R217, R230, R236, R237) -/
def Obligations.ShapersAndGroups : Prop :=
    (∀ (s : State),
      ∃ t, exec (.shaperRefill) s = .next t ∧ (∀ x ∈ s.knownShapers, t.shaper x = if (s.shaperRegs x s.profile).en then { tok := min ((s.shaper x).tok + (((s.now - (s.shaper x).last) * (s.shaperRegs x s.profile).rate / 31250 : Nat) : Int)) (((s.shaperRegs x s.profile).burst * 256 : Nat) : Int), last := s.now, hold := none }
        else { s.shaper x with hold := none }) ∧
      (∀ x, x ∉ s.knownShapers → t.shaper x = s.shaper x) ∧ OnlyTouches [.egr] s t) ∧
    (∀ (v : Word) (s : State),
      getBits v 1 1 = 1 →
      s.closed 0xC00000 = false →
      ∃ t, exec (.shaperSwap v) s = .next t ∧ t.profile = 1 - s.profile ∧ (∀ o, o ≠ 0xC00010 → t.reg o = s.reg o) ∧ OnlyTouches [.regs, .egr] s t) ∧
    (∀ (v : Word) (s : State),
      getBits v 1 1 = 0 →
      ∃ t, exec (.shaperSwap v) s = .next t ∧ t = s) ∧
    (∀ (x : Fin 21504) (k : Fin 2) (burst : Bool) (v : Word) (s : State),
      s.closed 0xC40000 = false →
      ∃ t, exec (.shaperConfigWrite x k burst v) s = .next t ∧ t.reg (0xC40000 + x * 16 + k * 8 + if burst then 4 else 0) = (if burst then v &&& 0x80FFFFFF else v) ∧
      (∀ o, o ≠ 0xC40000 + x.val * 16 + k.val * 8 + (if burst then 4 else 0) → t.reg o = s.reg o) ∧ (∀ y, y ≠ x.val → t.shaper y = s.shaper y) ∧ OnlyTouches [.regs, .egr] s t) ∧
    (∀ (g : Fin 32768) (v : Word) (s : State),
      getBits v 17 0 + getBits v 25 18 ≤ 262144 →
      s.closed 0xD00000 = false →
      ∃ t, exec (.mcGroupWrite g v) s = .next t ∧ t.reg (0xD00000 + g * 4) = v &&& 0x83FFFFFF ∧ (∀ o, o ≠ 0xD00000 + g.val * 4 → t.reg o = s.reg o) ∧ OnlyTouches [.regs] s t) ∧
    (∀ (g : Fin 32768) (v : Word) (s : State),
      262144 < getBits v 17 0 + getBits v 25 18 →
      s.closed 0xD00000 = false →
      ∃ t, exec (.mcGroupWrite g v) s = .next t ∧ FaultFrame s t ∧ (t.source 0xF801).cause = true ∧ (t.source 0xF801).cls = .n)

/-- On an ordinary port whose link is up a received PFC frame is counted, and each priority that it enables and RX_EN
allows is stopped for its time, where time 0 ends the stop; a received PAUSE stops the whole port where PAUSE_RX is
set; a copy in hand that has not begun goes back to the head of a queue so stopped, and is counted there; the end of a
time ends that stop alone. While a priority is in XOFF, half its time later the same XOFF is sent again, with
XOFF_QUANTA as its time, and counted; with nothing holding it off, or no PFC sent there, nothing happens. (R32, R219,
R220, R262) -/
def Obligations.FlowControl : Prop :=
    (∀ (p : Port) (en : Byte) (times : List (BitVec 16)) (s : State),
      s.linkUp p = true →
      s.viaduct p = false →
      ∃ t, exec (.pfcRx p en times) s = .next t ∧ t.counter (cPort p 8) = (s.counter (cPort p 8) + 1) % 2 ^ 64 ∧ (∀ k, k < 8 → Tbl.get zeroNat t.egr.stops (p * 9 + k) =
        if en.getLsbD k && s.bit (0xC03000 + p * 4) k then (times.getD k 0).toNat else Tbl.get zeroNat s.egr.stops (p * 9 + k)) ∧ t.regs = s.regs) ∧
    (∀ (p : Port) (en : Byte) (times : List (BitVec 16)) (s : State),
      s.linkUp p = false →
      ∃ t, exec (.pfcRx p en times) s = .next t ∧ t = s) ∧
    (∀ (p : Port) (en : Byte) (times : List (BitVec 16)) (s : State),
      s.linkUp p = true →
      s.viaduct p = true →
      ∃ t, exec (.pfcRx p en times) s = .next t ∧ t = s.count (cPort p 8) 1) ∧
    (∀ (p : Port) (q : BitVec 16) (s : State),
      s.linkUp p = true →
      s.bit (0xC01000 + p * 4) 30 = true →
      ∃ t, exec (.pauseRx p q) s = .next t ∧ t.counter (cPort p 9) = (s.counter (cPort p 9) + 1) % 2 ^ 64 ∧ Tbl.get zeroNat t.egr.stops (p * 9 + 8) = q.toNat ∧ (∀ i, i ≠ p.val * 9 + 8 → Tbl.get zeroNat t.egr.stops i = Tbl.get zeroNat s.egr.stops i)) ∧
    (∀ (p : Port) (q : BitVec 16) (x : TxCopy) (s : State),
      s.linkUp p = true →
      s.bit (0xC01000 + p * 4) 30 = true →
      q ≠ 0 →
      s.tx p = some x →
      x.started = false →
      x.resend = false →
      x.queue / 16 = p →
      ∃ t, exec (.pauseRx p q) s = .next t ∧ t.tx p = none ∧ t.aheadOf x.queue = x.entry :: s.aheadOf x.queue ∧ t.counter (cQueue x.queue 4) = (s.counter (cQueue x.queue 4) + 1) % 2 ^ 64) ∧
    (∀ (p : Port) (q : BitVec 16) (s : State),
      s.linkUp p = false →
      ∃ t, exec (.pauseRx p q) s = .next t ∧ t = s) ∧
    (∀ (p : Port) (q : BitVec 16) (s : State),
      s.linkUp p = true →
      s.bit (0xC01000 + p * 4) 30 = false →
      ∃ t, exec (.pauseRx p q) s = .next t ∧ t = s.count (cPort p 9) 1) ∧
    (∀ (p : Port) (k : Option (Fin 8)) (s : State),
      ∃ t, exec (.pfcPauseExpire p k) s = .next t ∧ Tbl.get zeroNat t.egr.stops (p * 9 + (match k with | some k => k.val | none => 8)) = 0 ∧
      (∀ i, i ≠ p.val * 9 + (match k with | some k => k.val | none => 8) → Tbl.get zeroNat t.egr.stops i = Tbl.get zeroNat s.egr.stops i) ∧ OnlyTouches [.egr] s t) ∧
    (∀ (p : Port) (k : Fin 8) (s : State),
      s.xoffCause p k = true →
      s.pfcSends p k = true →
      ∃ t, exec (.pfcXoffRefresh p k) s = .next t ∧ t.emitted = .pfc p (2 ^ k.val) ((List.range 8).map (fun i => if i = k.val then s.xoffQuanta p else 0)) :: s.emitted ∧
      t.counter (cPort p 15) = (s.counter (cPort p 15) + 1) % 2 ^ 64 ∧ OnlyTouches [.counters, .emitted] s t) ∧
    (∀ (p : Port) (k : Fin 8) (s : State),
      s.xoffCause p k = false ∨ s.pfcSends p k = false →
      ∃ t, exec (.pfcXoffRefresh p k) s = .next t ∧ t = s)

/-- In compatibility mode REQ adds to the pending count of its device and VOQ, saturating; GRANT n takes n from OUT and
adds n times 4,096 bytes to CREDIT, at most 1 MiB; SYNC_ACK sets OUT; SYNC is answered with a SYNC_ACK record that
carries the pending count, gathered for its peer, the eighth record of a peer leaving with the seven before it; each
VOQ with OUT above 0 sends SYNC; a flush puts the gathered records of a valid peer, in one frame, at the tail of TC15
of its port, and those of a peer that is not valid go nowhere. With the mode off every message and timer changes
nothing. The clauses for GRANT and SYNC_ACK are about a VOQ with no frame waiting that needs no more credit: then
nothing else of the device changes; of any VOQ, it then requests what it needs and releases what its credit allows.
(R190, R191, R192, R193) -/
def Obligations.CompatibilityCredits : Prop :=
    (∀ (dev : Fin 128) (v : BitVec 16) (n : BitVec 26) (s : State),
      s.cmpOn = false →
      exec (.cmpReqRx dev v n) s = .next s ∧ exec (.cmpGrantRx v n) s = .next s ∧ exec (.cmpSyncRx dev v n) s = .next s ∧ exec (.cmpSyncAckRx v n) s = .next s ∧ exec (.cmpSyncTimer) s = .next s ∧ exec (.cmpMessageFlush dev) s = .next s) ∧
    (∀ (dev : Fin 128) (s : State),
      s.cmpOn = true →
      Tbl.get noRecords s.cmp.gathered dev = [] ∨ s.bit (0x881004 + dev * 8) 31 = false →
      ∃ t, exec (.cmpMessageFlush dev) s = .next t ∧ Tbl.get noRecords t.cmp.gathered dev = [] ∧ (∀ d, d ≠ dev.val → Tbl.get noRecords t.cmp.gathered d = Tbl.get noRecords s.cmp.gathered d) ∧ OnlyTouches [.cmp] s t) ∧
    (∀ (dev : Fin 128) (v : BitVec 16) (n : BitVec 26) (s : State),
      s.cmpOn = true →
      (Tbl.get noRecords s.cmp.gathered dev).length = 7 →
      s.bit (0x881004 + dev * 8) 31 = true →
      ∃ t, exec (.cmpSyncRx dev v n) s = .next t ∧ Tbl.get noRecords t.cmp.gathered dev = [] ∧ t.queue (s.fld (0x881004 + dev * 8) 25 16 * 16 + 15) = s.queue (s.fld (0x881004 + dev * 8) 25 16 * 16 + 15) ++ [{ desc := 1048576, idx := 0, tag := s.fld (0x881004 + dev * 8) 25 16 * 16 + 15, msg := cmpFrame (s.fld (0x881004 + dev * 8) 15 0 * 2 ^ 32 + (s.reg (0x881000 + dev * 8)).toNat) (Tbl.get noRecords s.cmp.gathered dev ++ [cmpRecord 4 (s.fld 0x880000 22 16) dev v.toNat (s.cmpPending dev v.toNat)]) }] ∧ OnlyTouches [.counters, .egr, .cmp] s t) ∧
    (∀ (dev : Fin 128) (v : BitVec 16) (n : BitVec 26) (s : State),
      s.cmpOn = true →
      ∃ t, exec (.cmpReqRx dev v n) s = .next t ∧ t.cmpPending dev v.toNat = min (s.cmpPending dev v.toNat + n.toNat) (2 ^ 26 - 1) ∧ (∀ d w, w < 65536 → (d, w) ≠ (dev.val, v.toNat) → t.cmpPending d w = s.cmpPending d w) ∧ OnlyTouches [.cmp] s t) ∧
    (∀ (v : BitVec 16) (n : BitVec 26) (s : State),
      s.cmpOn = true →
      (s.voq v.toNat).frames = [] →
      ((s.voq v.toNat).granted n.toNat).need ≤ 0 →
      ∃ t, exec (.cmpGrantRx v n) s = .next t ∧ (t.voq v.toNat).out = (s.voq v.toNat).out - n.toNat ∧ (t.voq v.toNat).credit = min ((s.voq v.toNat).credit + (n.toNat : Int) * 4096) 1048576 ∧ (∀ w, w ≠ v.toNat → t.voq w = s.voq w) ∧ OnlyTouches [.cmp] s t) ∧
    (∀ (v : BitVec 16) (n : BitVec 26) (s : State),
      s.cmpOn = true →
      ∃ t, exec (.cmpGrantRx v n) s = .next t ∧ t = (s.setVoq v.toNat { s.voq v.toNat with out := (s.voq v.toNat).out - n.toNat, credit := min ((s.voq v.toNat).credit + (n.toNat : Int) * 4096) 1048576 }).voqRun v.toNat) ∧
    (∀ (v : BitVec 16) (n : BitVec 26) (s : State),
      s.cmpOn = true →
      ∃ t, exec (.cmpSyncAckRx v n) s = .next t ∧ t = (s.setVoq v.toNat { s.voq v.toNat with out := n.toNat }).voqRun v.toNat) ∧
    (∀ (s : State),
      s.cmpOn = true →
      (∀ dev, (Tbl.get noRecords s.cmp.gathered dev).length + (s.cmp.voq.filter (fun e : Nat × Voq => decide (0 < e.2.out ∧ e.1 / 512 = dev))).length < 8) →
      ∃ t, exec (.cmpSyncTimer) s = .next t ∧ (∀ dev, Tbl.get noRecords t.cmp.gathered dev = Tbl.get noRecords s.cmp.gathered dev ++ ((s.cmp.voq.filter (fun e : Nat × Voq => decide (0 < e.2.out ∧ e.1 / 512 = dev))).map (fun e : Nat × Voq => cmpRecord 3 (s.fld 0x880000 22 16) (e.1 / 512) e.1 e.2.out))) ∧ t.cmp.voq = s.cmp.voq ∧ OnlyTouches [.cmp] s t) ∧
    (∀ (s : State) (v : Nat) (x : Voq),
      s.cmpOn = true →
      s.cmp.voq = [(v, x)] →
      0 < x.out →
      Tbl.get noRecords s.cmp.gathered (v / 512) = [] →
      ∃ t, exec (.cmpSyncTimer) s = .next t ∧ Tbl.get noRecords t.cmp.gathered (v / 512) = [cmpRecord 3 (s.fld 0x880000 22 16) (v / 512) v x.out] ∧ t.cmp.voq = s.cmp.voq ∧ t.emitted = s.emitted) ∧
    (∀ (dev : Fin 128) (v : BitVec 16) (n : BitVec 26) (s : State),
      s.cmpOn = true →
      (Tbl.get noRecords s.cmp.gathered dev).length < 7 →
      ∃ t, exec (.cmpSyncRx dev v n) s = .next t ∧ Tbl.get noRecords t.cmp.gathered dev = Tbl.get noRecords s.cmp.gathered dev ++ [cmpRecord 4 (s.fld 0x880000 22 16) dev v.toNat (s.cmpPending dev v.toNat)] ∧ t.cmp.pending = s.cmp.pending ∧ OnlyTouches [.cmp] s t) ∧
    (∀ (v : BitVec 16) (n : BitVec 26) (s : State),
      s.cmpOn = true →
      (s.voq v.toNat).frames = [] →
      ({ s.voq v.toNat with out := n.toNat } : Voq).need ≤ 0 →
      ∃ t, exec (.cmpSyncAckRx v n) s = .next t ∧ (t.voq v.toNat).out = n.toNat ∧ (t.voq v.toNat).credit = (s.voq v.toNat).credit ∧ (∀ w, w ≠ v.toNat → t.voq w = s.voq w) ∧ OnlyTouches [.cmp] s t) ∧
    (∀ (dev : Fin 128) (s : State),
      s.cmpOn = true →
      Tbl.get noRecords s.cmp.gathered dev ≠ [] →
      s.bit (0x881004 + dev * 8) 31 = true →
      ∃ t, exec (.cmpMessageFlush dev) s = .next t ∧ t.queue (s.fld (0x881004 + dev * 8) 25 16 * 16 + 15) = s.queue (s.fld (0x881004 + dev * 8) 25 16 * 16 + 15) ++ [{ desc := 1048576, idx := 0, tag := s.fld (0x881004 + dev * 8) 25 16 * 16 + 15, msg := cmpFrame (s.fld (0x881004 + dev * 8) 15 0 * 2 ^ 32 + (s.reg (0x881000 + dev * 8)).toNat) (Tbl.get noRecords s.cmp.gathered dev) }] ∧
      (∀ q, q ≠ s.fld (0x881004 + dev * 8) 25 16 * 16 + 15 → t.queue q = s.queue q) ∧ Tbl.get noRecords t.cmp.gathered dev = [] ∧ OnlyTouches [.counters, .egr, .cmp] s t)

/-- A viaduct link that is not up sends INIT; a good INIT, or a good INIT_ACK that carries this end's epoch, records the
peer's epoch and credit and brings the link up, and an INIT is answered. On a link that is up an INIT of the known
peer is only answered, and one of another epoch resets the link to a state with no peer, nothing to acknowledge and a
new epoch that is not 0. CREDIT carries and takes the cumulative GRANTED values. An INIT_ACK that carries another
epoch of this end does nothing, and one that carries this end's or none but comes from another epoch of the peer
resets a link that is up. A control frame whose deck header cannot be used is counted and does nothing; one whose
CRC-32 fails does nothing; at a port that runs no viaduct link every one, and both timers, do nothing. A hold register
takes the word written. The clauses about an INIT of the known peer and about CREDIT are for a frame whose ACK
acknowledges nothing new. (R223, R224, R226, R280) -/
def Obligations.ViaductLinksStart : Prop :=
    (∀ (p : Port) (s : State),
      s.viaRuns p = true →
      (s.viaLink p).up = false →
      ∃ t, exec (.viaInitTimer p) s = .next t ∧ t.emitted = .viaControl p (controlBytes 11 (s.viaLink p).ack ((s.viaLink p).grant.words ++ [(s.viaLink p).epoch, (s.viaLink p).peerEpoch])) :: s.emitted ∧ t.viaLink p = { s.viaLink p with ackDue := false } ∧ (∀ o, o ≠ p.val → t.viaLink o = s.viaLink o) ∧ OnlyTouches [.emitted, .via] s t) ∧
    (∀ (p : Port) (f : ViaFrame) (s : State),
      s.viaRuns p = true →
      frameGood f 11 = true →
      (s.viaLink p).up = false →
      ∃ t, exec (.viaInitRx p f) s = .next t ∧ t.viaLink p = { s.viaLink p with up := true, peerEpoch := frameEpoch f, granted := frameGranted f, ackDue := false } ∧ t.emitted = .viaControl p (controlBytes 12 (s.viaLink p).ack ((s.viaLink p).grant.words ++ [(s.viaLink p).epoch, frameEpoch f])) :: s.emitted ∧
      (∀ o, o ≠ p.val → t.viaLink o = s.viaLink o) ∧ OnlyTouches [.emitted, .via] s t) ∧
    (∀ (p : Port) (f : ViaFrame) (s : State),
      s.viaRuns p = true →
      frameGood f 11 = true →
      (s.viaLink p).up = true →
      frameEpoch f = (s.viaLink p).peerEpoch →
      (s.viaLink p).up = false ∨ ((s.viaLink p).next + 2 ^ 24 - (s.viaLink p).una) % 2 ^ 24 ≤ (deckAck f.deck + 2 ^ 24 - (s.viaLink p).una) % 2 ^ 24 →
      ∃ t, exec (.viaInitRx p f) s = .next t ∧ t.viaLink p = { s.viaLink p with ackDue := false } ∧ t.emitted = .viaControl p (controlBytes 12 (s.viaLink p).ack ((s.viaLink p).grant.words ++ [(s.viaLink p).epoch, (s.viaLink p).peerEpoch])) :: s.emitted ∧ (∀ o, o ≠ p.val → t.viaLink o = s.viaLink o) ∧ OnlyTouches [.emitted, .via] s t) ∧
    (∀ (p : Port) (f : ViaFrame) (s : State),
      s.viaRuns p = true →
      frameGood f 11 = true →
      (s.viaLink p).up = true →
      frameEpoch f ≠ (s.viaLink p).peerEpoch →
      ∃ t, exec (.viaInitRx p f) s = .next t ∧ (t.viaLink p).up = false ∧ (t.viaLink p).epoch ≠ 0 ∧ (t.viaLink p).epoch ≠ (s.viaLink p).epoch ∧ (t.viaLink p).peerEpoch = 0 ∧ (t.viaLink p).retry = [] ∧ (t.viaLink p).next = 0 ∧ (t.viaLink p).una = 0 ∧ (t.viaLink p).e = 0 ∧
      t.emitted.head? = some (.viaControl p (controlBytes 12 (2 ^ 24 - 1) ((s.viaLimits p).words ++ [(t.viaLink p).epoch, 0])))) ∧
    (∀ (p : Port) (f : ViaFrame) (s : State),
      s.viaRuns p = true →
      frameGood f 12 = true →
      (s.viaLink p).up = false →
      framePeerEpoch f = (s.viaLink p).epoch →
      ∃ t, exec (.viaInitAckRx p f) s = .next t ∧ t.viaLink p = { s.viaLink p with up := true, peerEpoch := frameEpoch f, granted := frameGranted f } ∧ (∀ o, o ≠ p.val → t.viaLink o = s.viaLink o) ∧ OnlyTouches [.via] s t) ∧
    (∀ (p : Port) (s : State),
      s.viaRuns p = true →
      ∃ t, exec (.viaCreditTimer p) s = .next t ∧ t.emitted = .viaControl p (controlBytes 10 (s.viaLink p).ack (s.viaLink p).grant.words) :: s.emitted ∧ t.viaLink p = { s.viaLink p with lastCredit := (s.viaLink p).grant, ackDue := false } ∧ (∀ o, o ≠ p.val → t.viaLink o = s.viaLink o) ∧ OnlyTouches [.emitted, .via] s t) ∧
    (∀ (p : Port) (f : ViaFrame) (s : State),
      s.viaRuns p = true →
      frameGood f 10 = true →
      (s.viaLink p).up = true →
      (s.viaLink p).up = false ∨ ((s.viaLink p).next + 2 ^ 24 - (s.viaLink p).una) % 2 ^ 24 ≤ (deckAck f.deck + 2 ^ 24 - (s.viaLink p).una) % 2 ^ 24 →
      ∃ t, exec (.viaCreditRx p f) s = .next t ∧ t.viaLink p = { s.viaLink p with granted := frameGranted f } ∧ (∀ o, o ≠ p.val → t.viaLink o = s.viaLink o) ∧ OnlyTouches [.via] s t) ∧
    (∀ (p : Port) (f : ViaFrame) (s : State),
      s.viaRuns p = true →
      deckUnusable f.deck = true →
      exec (.viaAckRx p f) s = .next (s.count (cPort p 22) 1) ∧ exec (.viaNakRx p f) s = .next (s.count (cPort p 22) 1) ∧ exec (.viaCreditRx p f) s = .next (s.count (cPort p 22) 1) ∧ exec (.viaInitRx p f) s = .next (s.count (cPort p 22) 1) ∧ exec (.viaInitAckRx p f) s = .next (s.count (cPort p 22) 1)) ∧
    (∀ (p : Port) (f : ViaFrame) (s : State),
      deckUnusable f.deck = false →
      ethFcs (beBytes 8 f.deck.toNat ++ f.body) ≠ f.crc →
      exec (.viaAckRx p f) s = .next s ∧ exec (.viaNakRx p f) s = .next s ∧ exec (.viaCreditRx p f) s = .next s ∧ exec (.viaInitRx p f) s = .next s ∧ exec (.viaInitAckRx p f) s = .next s) ∧
    (∀ (p : Port) (f : ViaFrame) (s : State),
      s.viaRuns p = false →
      exec (.viaAckRx p f) s = .next s ∧ exec (.viaNakRx p f) s = .next s ∧ exec (.viaCreditRx p f) s = .next s ∧ exec (.viaInitRx p f) s = .next s ∧ exec (.viaInitAckRx p f) s = .next s ∧ exec (.viaInitTimer p) s = .next s ∧ exec (.viaCreditTimer p) s = .next s) ∧
    (∀ (p : Port) (s : State),
      (s.viaLink p).up = true →
      ∃ t, exec (.viaInitTimer p) s = .next t ∧ t = s) ∧
    (∀ (p : Port) (f : ViaFrame) (s : State),
      s.viaRuns p = true →
      frameGood f 12 = true →
      framePeerEpoch f ≠ 0 →
      framePeerEpoch f ≠ (s.viaLink p).epoch →
      ∃ t, exec (.viaInitAckRx p f) s = .next t ∧ t = s) ∧
    (∀ (p : Port) (f : ViaFrame) (s : State),
      s.viaRuns p = true →
      frameGood f 12 = true →
      (s.viaLink p).up = true →
      framePeerEpoch f = 0 ∨ framePeerEpoch f = (s.viaLink p).epoch →
      frameEpoch f ≠ (s.viaLink p).peerEpoch →
      ∃ t, exec (.viaInitAckRx p f) s = .next t ∧ (t.viaLink p).up = false ∧ (t.viaLink p).epoch ≠ 0 ∧ (t.viaLink p).epoch ≠ (s.viaLink p).epoch ∧ (t.viaLink p).peerEpoch = 0 ∧ (t.viaLink p).retry = [] ∧ (t.viaLink p).next = 0 ∧ (t.viaLink p).una = 0 ∧ (t.viaLink p).e = 0) ∧
    (∀ (p : Port) (f : ViaFrame) (s : State),
      s.viaRuns p = true →
      frameGood f 10 = true →
      (s.viaLink p).up = false →
      ∃ t, exec (.viaCreditRx p f) s = .next t ∧ t = s) ∧
    (∀ (w : Fin 32) (v : Word) (s : State),
      s.closed 0xC0A000 = false →
      ∃ t, exec (.viaHoldWrite w v) s = .next t ∧ t.reg (0xC0A000 + w * 4) = v ∧ (∀ o, o ≠ 0xC0A000 + w.val * 4 → t.reg o = s.reg o) ∧ OnlyTouches [.regs] s t)

/-- At a port that runs no viaduct link, with a hold, or with nothing due, the retry commands change nothing. The receiver
of a viaduct link, for a frame whose deck header checks and whose acknowledgement is stale: accepted DATA in sequence
moves E on by one, makes an ACK due and allows a NAK again; DATA behind E is counted as a duplicate and makes an ACK
due; other DATA is answered with a NAK, once until DATA with the sequence E arrives. The sender: an acknowledgement
inside the window, of an ACK frame or of data, moves UNA past it, and an ACK outside changes nothing; NAK, where
anything is unacknowledged and no retransmission runs, and a timeout resend from the oldest unacknowledged frame, and
the eighth timeout in a row abandons what is unacknowledged and raises a class-S fault against the port. A
retransmission that has sent all ends. A due ACK leaves by itself after its time. When a link hold ends with the link
down the port's queues are abandoned. (R225, R226, R250, R239) -/
def Obligations.ViaductLinksRetry : Prop :=
    (∀ (p : Port) (deck : DWord) (d : Option DescId) (s : State),
      s.viaRuns p = true →
      deckGood deck = true →
      deckType deck = 0 →
      deckSeq deck = (s.viaLink p).e →
      s.dataAccepted d = true →
      (s.viaLink p).up = false ∨ ((s.viaLink p).next + 2 ^ 24 - (s.viaLink p).una) % 2 ^ 24 ≤ (deckAck deck + 2 ^ 24 - (s.viaLink p).una) % 2 ^ 24 →
      ∃ t, exec (.viaDataRx p deck true d) s = .next t ∧ t.viaLink p = { s.viaLink p with e := ((s.viaLink p).e + 1) % 2 ^ 24, ackDue := true, nakSent := false } ∧ (∀ o, o ≠ p.val → t.viaLink o = s.viaLink o) ∧ OnlyTouches [.via] s t) ∧
    (∀ (p : Port) (deck : DWord) (good : Bool) (d : Option DescId) (s : State),
      s.viaRuns p = true →
      deckGood deck = true →
      deckType deck = 0 →
      deckSeq deck ≠ (s.viaLink p).e →
      2 ^ 23 ≤ (deckSeq deck + 2 ^ 24 - (s.viaLink p).e) % 2 ^ 24 →
      (s.viaLink p).up = false ∨ ((s.viaLink p).next + 2 ^ 24 - (s.viaLink p).una) % 2 ^ 24 ≤ (deckAck deck + 2 ^ 24 - (s.viaLink p).una) % 2 ^ 24 →
      ∃ t, exec (.viaDataRx p deck good d) s = .next t ∧ t.viaLink p = { s.viaLink p with ackDue := true } ∧ t.counter (cPort p 19) = (s.counter (cPort p 19) + 1) % 2 ^ 64 ∧ (∀ o, o ≠ p.val → t.viaLink o = s.viaLink o) ∧ OnlyTouches [.counters, .via] s t) ∧
    (∀ (p : Port) (deck : DWord) (d : Option DescId) (s : State),
      s.viaRuns p = true →
      deckGood deck = true →
      deckType deck = 0 →
      deckSeq deck = (s.viaLink p).e →
      (s.viaLink p).up = false ∨ ((s.viaLink p).next + 2 ^ 24 - (s.viaLink p).una) % 2 ^ 24 ≤ (deckAck deck + 2 ^ 24 - (s.viaLink p).una) % 2 ^ 24 →
      ∃ t, exec (.viaDataRx p deck false d) s = .next t ∧ t.viaLink p = { s.viaLink p with nakSent := true, ackDue := false } ∧ t.emitted = .viaControl p (controlBytes 9 (s.viaLink p).ack []) :: s.emitted ∧ t.counter (cPort p 20) = (s.counter (cPort p 20) + 1) % 2 ^ 64 ∧ (∀ o, o ≠ p.val → t.viaLink o = s.viaLink o) ∧ OnlyTouches [.counters, .emitted, .via] s t) ∧
    (∀ (p : Port) (deck : DWord) (good : Bool) (d : Option DescId) (s : State),
      s.viaRuns p = true →
      deckGood deck = true →
      deckType deck = 0 →
      deckSeq deck ≠ (s.viaLink p).e →
      (deckSeq deck + 2 ^ 24 - (s.viaLink p).e) % 2 ^ 24 < 2 ^ 23 →
      (s.viaLink p).nakSent = false →
      (s.viaLink p).up = false ∨ ((s.viaLink p).next + 2 ^ 24 - (s.viaLink p).una) % 2 ^ 24 ≤ (deckAck deck + 2 ^ 24 - (s.viaLink p).una) % 2 ^ 24 →
      ∃ t, exec (.viaDataRx p deck good d) s = .next t ∧ t.viaLink p = { s.viaLink p with nakSent := true, ackDue := false } ∧ t.emitted = .viaControl p (controlBytes 9 (s.viaLink p).ack []) :: s.emitted ∧ t.counter (cPort p 20) = (s.counter (cPort p 20) + 1) % 2 ^ 64 ∧ (∀ o, o ≠ p.val → t.viaLink o = s.viaLink o) ∧ OnlyTouches [.counters, .emitted, .via] s t) ∧
    (∀ (p : Port) (f : ViaFrame) (s : State),
      s.viaRuns p = true →
      frameGood f 8 = true →
      (s.viaLink p).up = true →
      (deckAck f.deck + 2 ^ 24 - (s.viaLink p).una) % 2 ^ 24 < ((s.viaLink p).next + 2 ^ 24 - (s.viaLink p).una) % 2 ^ 24 →
      ∃ t, exec (.viaAckRx p f) s = .next t ∧ (t.viaLink p).una = (deckAck f.deck + 1) % 2 ^ 24 ∧ (t.viaLink p).retries = 0) ∧
    (∀ (p : Port) (deck : DWord) (good : Bool) (d : Option DescId) (s : State),
      s.viaRuns p = false ∨ deckGood deck = false ∨ 1 < deckType deck ∨ (deckType deck = 1 ∧ ((s.viaLink p).up = false ∨ ((s.viaLink p).next + 2 ^ 24 - (s.viaLink p).una) % 2 ^ 24 ≤ (deckAck deck + 2 ^ 24 - (s.viaLink p).una) % 2 ^ 24)) →
      ∃ t, exec (.viaDataRx p deck good d) s = .next t ∧ t = s) ∧
    (∀ (p : Port) (deck : DWord) (good : Bool) (d : Option DescId) (s : State),
      s.viaRuns p = true →
      deckGood deck = true →
      deckType deck < 2 →
      (s.viaLink p).up = true →
      (deckAck deck + 2 ^ 24 - (s.viaLink p).una) % 2 ^ 24 < ((s.viaLink p).next + 2 ^ 24 - (s.viaLink p).una) % 2 ^ 24 →
      ∃ t, exec (.viaDataRx p deck good d) s = .next t ∧ (t.viaLink p).una = (deckAck deck + 1) % 2 ^ 24 ∧ (t.viaLink p).retries = 0) ∧
    (∀ (p : Port) (f : ViaFrame) (s : State),
      frameGood f 8 = true →
      (s.viaLink p).up = false ∨ ((s.viaLink p).next + 2 ^ 24 - (s.viaLink p).una) % 2 ^ 24 ≤ (deckAck f.deck + 2 ^ 24 - (s.viaLink p).una) % 2 ^ 24 →
      ∃ t, exec (.viaAckRx p f) s = .next t ∧ t = s) ∧
    (∀ (p : Port) (f : ViaFrame) (s : State),
      s.viaRuns p = true →
      frameGood f 9 = true →
      (s.viaLink p).una ≠ (s.viaLink p).next →
      (s.viaLink p).retransmit = false →
      (s.viaLink p).up = false ∨ ((s.viaLink p).next + 2 ^ 24 - (s.viaLink p).una) % 2 ^ 24 ≤ (deckAck f.deck + 2 ^ 24 - (s.viaLink p).una) % 2 ^ 24 →
      ∃ t, exec (.viaNakRx p f) s = .next t ∧ t.viaLink p = { s.viaLink p with retransmit := true, resend := (deckAck f.deck + 1) % 2 ^ 24 } ∧ t.counter (cPort p 21) = (s.counter (cPort p 21) + 1) % 2 ^ 64 ∧ (∀ o, o ≠ p.val → t.viaLink o = s.viaLink o) ∧ OnlyTouches [.counters, .via] s t) ∧
    (∀ (p : Port) (s : State),
      (s.viaLink p).retransmit = false ∨ (s.viaLink p).due ≠ none ∨ s.tx p ≠ none →
      ∃ t, exec (.viaRetransmitDone p) s = .next t ∧ t = s) ∧
    (∀ (p : Port) (s : State),
      s.viaRuns p = false ∨ s.viaHeld p = true ∨ (s.viaLink p).retransmit = true ∨ (s.viaLink p).una = (s.viaLink p).next →
      exec (.viaRetryTimeout p) s = .next s) ∧
    (∀ (p : Port) (s : State),
      s.viaRuns p = false ∨ (s.viaLink p).ackDue = false →
      exec (.viaAckTimer p) s = .next s) ∧
    (∀ (p : Port) (s : State),
      s.viaduct p = true ∨ s.linkUp p = true →
      exec (.linkHoldExpire p) s = .next s) ∧
    (∀ (p : Port) (f : ViaFrame) (s : State),
      s.viaRuns p = true →
      frameGood f 9 = true →
      (s.viaLink p).una = (s.viaLink p).next ∨ (s.viaLink p).retransmit = true →
      (s.viaLink p).up = false ∨ ((s.viaLink p).next + 2 ^ 24 - (s.viaLink p).una) % 2 ^ 24 ≤ (deckAck f.deck + 2 ^ 24 - (s.viaLink p).una) % 2 ^ 24 →
      ∃ t, exec (.viaNakRx p f) s = .next t ∧ t.viaLink p = s.viaLink p ∧ t.counter (cPort p 21) = (s.counter (cPort p 21) + 1) % 2 ^ 64 ∧ OnlyTouches [.counters] s t) ∧
    (∀ (p : Port) (s : State),
      (s.viaLink p).retransmit = true →
      (s.viaLink p).due = none →
      s.tx p = none →
      ∃ t, exec (.viaRetransmitDone p) s = .next t ∧ t.viaLink p = { s.viaLink p with retransmit := false } ∧ (∀ o, o ≠ p.val → t.viaLink o = s.viaLink o) ∧ OnlyTouches [.via] s t) ∧
    (∀ (p : Port) (s : State),
      s.viaRuns p = true →
      s.viaHeld p = false →
      (s.viaLink p).retransmit = false →
      (s.viaLink p).una ≠ (s.viaLink p).next →
      (s.viaLink p).retries < 7 →
      ∃ t, exec (.viaRetryTimeout p) s = .next t ∧ (t.viaLink p).retransmit = true ∧ (t.viaLink p).resend = (s.viaLink p).una ∧ (t.viaLink p).retries = (s.viaLink p).retries + 1 ∧ (∀ o, o ≠ p.val → t.viaLink o = s.viaLink o) ∧ OnlyTouches [.via] s t) ∧
    (∀ (p : Port) (s : State),
      s.viaRuns p = true →
      s.viaHeld p = false →
      (s.viaLink p).retransmit = false →
      (s.viaLink p).una ≠ (s.viaLink p).next →
      7 ≤ (s.viaLink p).retries →
      ∃ t, exec (.viaRetryTimeout p) s = .next t ∧ (t.source (macSource p)).cause = true ∧ (t.source (macSource p)).cls = .s ∧ (t.viaLink p).retry = []) ∧
    (∀ (p : Port) (s : State),
      s.viaRuns p = true →
      (s.viaLink p).ackDue = true →
      ∃ t, exec (.viaAckTimer p) s = .next t ∧ t.emitted = .viaControl p (controlBytes 8 (s.viaLink p).ack []) :: s.emitted ∧ t.viaLink p = { s.viaLink p with ackDue := false } ∧ (∀ o, o ≠ p.val → t.viaLink o = s.viaLink o) ∧ OnlyTouches [.emitted, .via] s t) ∧
    (∀ (p : Port) (s : State),
      s.viaduct p = false →
      s.linkUp p = false →
      (∀ i, i < 16 → s.queueEmpty (p * 16 + i) = true) →
      ∃ t, exec (.linkHoldExpire p) s = .next t ∧ p.val ∈ t.egr.expired ∧ t.regs = s.regs) ∧
    (∀ (p : Port) (s : State),
      s.viaduct p = false →
      s.linkUp p = false →
      ∃ t, exec (.linkHoldExpire p) s = .next t ∧ ∀ i, i < 16 → t.queueEmpty (p * 16 + i) = true)

/-- A free pipeline that may shadow and runs no earlier shadow packet starts a period, and after a period has ended moves
on to the next group; the end of a period makes it drain; none of this touches another pass or anything but the
pipelines, and a period that cannot start or end changes nothing. The next vector of the suite, or the one that has
failed once, joins those that wait for a serving pipeline, under the active generation; a pipeline that serves no
group, or is fenced, takes none. A read of the loss log takes its oldest entry out, with its sequence in the register
beside, or reads 0. (R252, R254, R275) -/
def Obligations.ShadowingAndVectors : Prop :=
    (∀ (sp : Span) (ps : Pass) (s : State),
      s.mayShadow sp ps = true →
      (s.passOf sp ps).shadowOn = false →
      (∀ e ∈ s.pipes.packets, isShadowOf sp ps e = false) →
      ∃ t, exec (.shadowPeriodStart sp ps) s = .next t ∧ t.passOf sp ps = { s.passOf sp ps with shadowOn := true, draining := false } ∧ (∀ x pass, (x, pass) ≠ (sp.val, ps) → t.passOf x pass = s.passOf x pass) ∧ OnlyTouches [.pipes] s t) ∧
    (∀ (sp : Span) (ps : Pass) (s : State),
      s.mayShadow sp ps = true →
      (s.passOf sp ps).shadowOn = true →
      (s.passOf sp ps).draining = true →
      (∀ e ∈ s.pipes.packets, isShadowOf sp ps e = false) →
      ∃ t, exec (.shadowPeriodStart sp ps) s = .next t ∧ t.passOf sp ps = { s.passOf sp ps with target := ((s.passOf sp ps).target + 1) % 4, draining := false } ∧ OnlyTouches [.pipes] s t) ∧
    (∀ (sp : Span) (ps : Pass) (s : State),
      s.mayShadow sp ps = false ∨ ((s.passOf sp ps).shadowOn = true ∧ (s.passOf sp ps).draining = false) ∨ (∃ e ∈ s.pipes.packets, isShadowOf sp ps e = true) →
      ∃ t, exec (.shadowPeriodStart sp ps) s = .next t ∧ t = s) ∧
    (∀ (sp : Span) (ps : Pass) (s : State),
      (s.passOf sp ps).shadowOn = false ∨ (s.passOf sp ps).draining = true →
      ∃ t, exec (.shadowPeriodEnd sp ps) s = .next t ∧ t = s) ∧
    (∀ (sp : Span) (ps : Pass) (k : PipeNo) (s : State),
      ((s.passOf sp ps).groupOf k).isSome = false ∨ s.fenced (partyPipe sp ps k) = true →
      ∃ t, exec (.katVectorInsert sp ps k) s = .next t ∧ t = s) ∧
    (∀ (sp : Span) (ps : Pass) (s : State),
      (s.passOf sp ps).shadowOn = true →
      (s.passOf sp ps).draining = false →
      ∃ t, exec (.shadowPeriodEnd sp ps) s = .next t ∧ t.passOf sp ps = { s.passOf sp ps with draining := true } ∧ (∀ x pass, (x, pass) ≠ (sp.val, ps) → t.passOf x pass = s.passOf x pass) ∧ OnlyTouches [.pipes] s t) ∧
    (∀ (sp : Span) (ps : Pass) (k : PipeNo) (s : State),
      ((s.passOf sp ps).groupOf k).isSome = true →
      s.fenced (partyPipe sp ps k) = false →
      ∃ t, exec (.katVectorInsert sp ps k) s = .next t ∧ (t.pipeOf (pipeNo sp ps k)).katWait = (s.pipeOf (pipeNo sp ps k)).katWait ++ [(s.activeGen, (match (s.pipeOf (pipeNo sp ps k)).katBad with | some v => v | none => (s.pipeOf (pipeNo sp ps k)).katNext))] ∧
      ((s.pipeOf (pipeNo sp ps k)).katBad = none → (t.pipeOf (pipeNo sp ps k)).katNext = ((s.pipeOf (pipeNo sp ps k)).katNext + 1) % 1536) ∧ (∀ x, x ≠ pipeNo sp ps k → t.pipeOf x = s.pipeOf x) ∧ OnlyTouches [.pipes] s t) ∧
    (∀ (s : State) (e : LossEntry) (rest : List LossEntry),
      s.ord.losses = e :: rest →
      ∃ t, exec (.lossLogRead) s = .next t ∧ t.readData = BitVec.ofNat 32 (2 ^ 31 + e.kind % 16 * 2 ^ 27 + e.cls % 16 * 2 ^ 23 + e.port % 1024 * 2 ^ 13 + e.egress % 1024 * 2 ^ 3) ∧ t.reg 0x40C = e.seq ∧ t.ord.losses = rest ∧ (∀ o, o ≠ 0x40C → t.reg o = s.reg o) ∧
      OnlyTouches [.regs, .readData, .ord] s t) ∧
    (∀ (s : State),
      s.ord.losses = [] →
      ∃ t, exec (.lossLogRead) s = .next t ∧ t = { s with readData := 0 })

/-- A resolution whose pipelines have drained goes to its vectors. When both pipelines pass them it goes to the rerun;
when the serving pipeline fails them it is faulty, and when the free pipeline fails them it is, and there is no free
pipeline any more. A rerun in which all agree ends the resolution with a class-N record; one in which the serving, the
free or the lent pipeline differs makes that one faulty; one in which none agrees enters the safe state. A switch that
waits notes that the free pipeline has drained. A command that comes at another stage of the resolution changes
nothing. (R256, R257, R443) -/
def Obligations.MismatchesAreResolved : Prop :=
    (∀ (sp : Span) (ps : Pass) (s : State),
      (s.passOf sp ps).resolving = 1 →
      (∀ e ∈ s.pipes.packets, inFlightOf sp ps (s.passOf sp ps).serving e = false) →
      ∃ t, exec (.mismatchDrained sp ps) s = .next t ∧ t.passOf sp ps = { s.passOf sp ps with resolving := 2 } ∧ (∀ x pass, (x, pass) ≠ (sp.val, ps) → t.passOf x pass = s.passOf x pass) ∧ OnlyTouches [.pipes] s t) ∧
    (∀ (sp : Span) (ps : Pass) (s : State),
      (s.passOf sp ps).resolving = 2 →
      ∃ t, exec (.mismatchVectorsChecked sp ps true true) s = .next t ∧ t.passOf sp ps = { s.passOf sp ps with resolving := 3 } ∧ OnlyTouches [.counters, .pipes] s t) ∧
    (∀ (sp : Span) (ps : Pass) (s : State),
      (s.passOf sp ps).resolving = 2 →
      (s.passOf sp ps).serving < 5 →
      s.fc.injNext = none ∨ s.fc.injQuiet = false →
      s.chip.lockColl.phase = .paired →
      ∃ t, exec (.mismatchVectorsChecked sp ps false true) s = .next t ∧ (s.passOf sp ps).serving ∈ (t.passOf sp ps).faulty) ∧
    (∀ (sp : Span) (ps : Pass) (s : State) (f : Nat),
      (s.passOf sp ps).resolving = 2 →
      (s.passOf sp ps).free = some f →
      f < 5 →
      f ∉ (s.passOf sp ps).faulty →
      s.fc.injNext = none ∨ s.fc.injQuiet = false →
      s.chip.lockColl.phase = .paired →
      ∃ t, exec (.mismatchVectorsChecked sp ps true false) s = .next t ∧ f ∈ (t.passOf sp ps).faulty ∧ (t.passOf sp ps).free = none ∧ (t.source (compareSource sp ps f)).cause = true ∧ (t.source (compareSource sp ps f)).cls = .s) ∧
    (∀ (sp : Span) (ps : Pass) (s : State),
      (s.passOf sp ps).resolving = 2 →
      (s.passOf sp ps).serving < 5 →
      s.fc.injNext = none ∨ s.fc.injQuiet = false →
      s.chip.lockColl.phase = .paired →
      ∃ t, exec (.mismatchVectorsChecked sp ps false false) s = .next t ∧ (s.passOf sp ps).serving ∈ (t.passOf sp ps).faulty ∧ (t.source (compareSource sp ps (s.passOf sp ps).serving)).cause = true ∧ (t.source (compareSource sp ps (s.passOf sp ps).serving)).cls = .s) ∧
    (∀ (sp : Span) (ps : Pass) (s : State),
      (s.passOf sp ps).resolving = 3 →
      (s.passOf sp ps).serving < 5 →
      s.fc.injNext = none ∨ s.fc.injQuiet = false →
      s.chip.lockColl.phase = .paired →
      ∃ t, exec (.mismatchRerunChecked sp ps .servingDiffers) s = .next t ∧ (s.passOf sp ps).serving ∈ (t.passOf sp ps).faulty) ∧
    (∀ (sp : Span) (ps : Pass) (s : State) (f : Nat),
      (s.passOf sp ps).resolving = 3 →
      (s.passOf sp ps).free = some f →
      f < 5 →
      f ∉ (s.passOf sp ps).faulty →
      s.fc.injNext = none ∨ s.fc.injQuiet = false →
      s.chip.lockColl.phase = .paired →
      ∃ t, exec (.mismatchRerunChecked sp ps .freeDiffers) s = .next t ∧ f ∈ (t.passOf sp ps).faulty ∧ (t.passOf sp ps).free = none) ∧
    (∀ (sp : Span) (ps : Pass) (s : State),
      (s.passOf sp ps).resolving = 3 →
      (s.passOf sp ps).lender < 5 →
      s.fc.injNext = none ∨ s.fc.injQuiet = false →
      s.chip.lockColl.phase = .paired →
      ∃ t, exec (.mismatchRerunChecked sp ps .lentDiffers) s = .next t ∧ (s.passOf sp ps).lender ∈ (t.passOf sp ps).faulty) ∧
    (∀ (sp : Span) (ps : Pass) (s : State),
      (s.passOf sp ps).resolving = 3 →
      ∃ t, exec (.mismatchRerunChecked sp ps .allAgree) s = .next t ∧ (t.passOf sp ps).resolving = 0 ∧ (t.passOf sp ps).faulty = (s.passOf sp ps).faulty ∧ (t.source (compareSource sp ps (s.passOf sp ps).serving)).cause = true ∧ (t.source (compareSource sp ps (s.passOf sp ps).serving)).cls = .n) ∧
    (∀ (sp : Span) (ps : Pass) (s : State),
      (s.passOf sp ps).resolving = 3 →
      s.fc.injNext = none ∨ s.fc.injQuiet = false →
      s.chip.lockColl.phase = .paired →
      ∃ t, exec (.mismatchRerunChecked sp ps .noneAgree) s = .next t ∧ t.chip.mode = .safe) ∧
    (∀ (sp : Span) (ps : Pass) (a b : Bool) (r : Rerun) (s : State),
      ((s.passOf sp ps).resolving ≠ 1 → exec (.mismatchDrained sp ps) s = .next s) ∧ ((s.passOf sp ps).resolving ≠ 2 → exec (.mismatchVectorsChecked sp ps a b) s = .next s) ∧ ((s.passOf sp ps).resolving ≠ 3 → exec (.mismatchRerunChecked sp ps r) s = .next s) ∧
      ((s.passOf sp ps).switching = none → exec (.spareDrained sp ps) s = .next s) ∧ ((∃ e ∈ s.pipes.packets, inFlightOf sp ps (s.passOf sp ps).serving e = true) → exec (.mismatchDrained sp ps) s = .next s)) ∧
    (∀ (sp : Span) (ps : Pass) (s : State),
      (s.passOf sp ps).switching.isSome = true →
      ∃ t, exec (.spareDrained sp ps) s = .next t ∧ t.passOf sp ps = { s.passOf sp ps with drained := true } ∧ (∀ x pass, (x, pass) ≠ (sp.val, ps) → t.passOf x pass = s.passOf x pass) ∧ OnlyTouches [.pipes] s t)

/-- When the free pipeline has drained and passes its vectors, it serves the group that was moved, no pipeline is free,
and the span collector latches the degraded pass as class S; when it fails them it is faulty too. A reinstatement
asked for a faulty pipeline is noted; one asked for another is refused. A pipeline under reinstatement that passes its
vectors is no longer faulty, and serves a group that none serves, or with no such group is the free one; its compare
source latches a class-N record. One that fails them stays faulty. A switch with nothing to switch, and a
reinstatement that none asked for or while a switch is under way, change nothing; ROT_EN takes a write in START-UP and
TEST. (R257, R259, R260, R261) -/
def Obligations.SparesTakeOver : Prop :=
    (∀ (sp : Span) (ps : Pass) (s : State) (g f : Nat),
      (s.passOf sp ps).switching = some g →
      (s.passOf sp ps).free = some f →
      (s.passOf sp ps).drained = true →
      ∃ t, exec (.spareSwitch sp ps true) s = .next t ∧ (t.passOf sp ps).svc = listSet (s.passOf sp ps).svc g f ∧ (t.passOf sp ps).free = none ∧ (t.passOf sp ps).switching = none ∧ (t.passOf sp ps).faulty = (s.passOf sp ps).faulty ∧
      (t.source (srcSpan sp 0 0x3E)).cause = true ∧ (t.source (srcSpan sp 0 0x3E)).cls = .s ∧ (∀ x, x ≠ srcSpan sp 0 0x3E → t.source x = s.source x) ∧ FaultFrame s t) ∧
    (∀ (sp : Span) (ps : Pass) (s : State) (g f : Nat),
      (s.passOf sp ps).switching = some g →
      (s.passOf sp ps).free = some f →
      f < 5 →
      (s.passOf sp ps).drained = true →
      s.fc.injNext = none ∨ s.fc.injQuiet = false →
      s.chip.lockColl.phase = .paired →
      ∃ t, exec (.spareSwitch sp ps false) s = .next t ∧ f ∈ (t.passOf sp ps).faulty ∧ (t.source (compareSource sp ps f)).cause = true ∧ (t.source (compareSource sp ps f)).cls = .s) ∧
    (∀ (sp : Span) (v : Word) (s : State),
      getBits v 1 1 = 0 →
      s.chip.mode = .startUp ∨ s.chip.mode = .test →
      s.closed (spareCtrl sp) = false →
      ∃ t, exec (.spareReinstate sp v) s = .next t ∧ t.bit (spareCtrl sp) 0 = v.getLsbD 0 ∧ (∀ o, o ≠ spareCtrl sp → t.reg o = s.reg o) ∧ OnlyTouches [.regs, .pipes] s t) ∧
    (∀ (sp : Span) (v : Word) (s : State),
      getBits v 1 1 = 1 →
      (getBits v 6 4 ∈ (s.passOf sp (if getBits v 8 8 = 1 then .egress else .ingress)).faulty) →
      s.closed (spareCtrl sp) = false →
      ∃ t, exec (.spareReinstate sp v) s = .next t ∧ (t.passOf sp (if getBits v 8 8 = 1 then .egress else .ingress)).reinstating = some (getBits v 6 4)) ∧
    (∀ (sp : Span) (v : Word) (s : State),
      getBits v 1 1 = 1 →
      (getBits v 6 4 ∉ (s.passOf sp (if getBits v 8 8 = 1 then .egress else .ingress)).faulty) →
      s.closed (spareCtrl sp) = false →
      ∃ t, exec (.spareReinstate sp v) s = .next t ∧ (t.source 0xF801).cause = true ∧ (t.source 0xF801).cls = .n ∧ (∀ ps, (t.passOf sp ps).reinstating = (s.passOf sp ps).reinstating ∧ (t.passOf sp ps).faulty = (s.passOf sp ps).faulty ∧ (t.passOf sp ps).svc = (s.passOf sp ps).svc)) ∧
    (∀ (sp : Span) (ps : Pass) (k : PipeNo) (b : Bool) (s : State),
      ((s.passOf sp ps).reinstating ≠ some k.val ∨ (s.passOf sp ps).switching ≠ none → exec (.reinstateDone sp ps k b) s = .next s) ∧ ((s.passOf sp ps).switching = none ∨ (s.passOf sp ps).free = none ∨ (s.passOf sp ps).drained = false → exec (.spareSwitch sp ps b) s = .next s)) ∧
    (∀ (sp : Span) (ps : Pass) (k : PipeNo) (s : State),
      (s.passOf sp ps).reinstating = some k.val →
      (s.passOf sp ps).switching = none →
      (s.passOf sp ps).unserved = [] →
      ∃ t, exec (.reinstateDone sp ps k true) s = .next t ∧ k.val ∉ (t.passOf sp ps).faulty ∧ (t.passOf sp ps).free = some k.val ∧ (t.passOf sp ps).reinstating = none ∧ t.fenced (partyPipe sp ps k) = false ∧ (t.source (compareSource sp ps k)).cause = true ∧ (t.source (compareSource sp ps k)).cls = .n) ∧
    (∀ (sp : Span) (ps : Pass) (k : PipeNo) (s : State) (g : Nat) (rest : List Nat),
      (s.passOf sp ps).reinstating = some k.val →
      (s.passOf sp ps).switching = none →
      (s.passOf sp ps).unserved = g :: rest →
      ∃ t, exec (.reinstateDone sp ps k true) s = .next t ∧ k.val ∉ (t.passOf sp ps).faulty ∧ (t.passOf sp ps).svc = listSet (s.passOf sp ps).svc g k ∧ (t.passOf sp ps).unserved = rest ∧ (t.passOf sp ps).reinstating = none ∧ t.fenced (partyPipe sp ps k) = false) ∧
    (∀ (sp : Span) (ps : Pass) (k : PipeNo) (s : State),
      (s.passOf sp ps).reinstating = some k.val →
      (s.passOf sp ps).switching = none →
      ∃ t, exec (.reinstateDone sp ps k false) s = .next t ∧ t.passOf sp ps = { s.passOf sp ps with reinstating := none } ∧ OnlyTouches [.counters, .freeCount, .pipes] s t)

/-- SPAN_GO in SERVICE with no span under reset puts the span's four groups in reset hold, halts its engine and shows the
span; in another state, or while a span reset runs, the request is shown as refused; a write with a wrong key, or with
two requests, is refused with a class-N fault and changes no phase. A phase command out of its turn changes nothing.
The logic reset leaves no shadow, resolution, switch or reinstatement in either pass. The recopy leaves no deviation
in the stores of the span. The pipelines that fail their vectors are FAULTY, and no other. The replays resume a saved
trestle context. The end, with no packet of a host ring waiting, clears the request and ends reset hold for the groups
that a pipeline serves. (R263, R116, R123, R260, R487, R488) -/
def Obligations.SpanResets : Prop :=
    (∀ (v : Word) (s : State),
      getBits v 31 16 = 0x5EA7 →
      getBits v 0 0 = 0 →
      getBits v 1 1 = 0 →
      getBits v 2 2 = 1 →
      s.chip.mode = .service ∨ s.chip.mode = .test →
      s.chip.spans = [] →
      ∃ t, exec (.spanResetRequest v) s = .next t ∧ t.spanPhase (getBits v 7 4) = .requested ∧ t.bit 0x14 31 = true ∧ t.fld 0x14 19 16 = getBits v 7 4 ∧ t.chip.mode = s.chip.mode ∧
      (∀ k, k < 4 → getBits v 7 4 * 4 + k ∈ t.chip.hold) ∧ (t.engine (getBits v 7 4)).state ≠ 1 ∧ (t.engine (getBits v 7 4)).state ≠ 2 ∧ (∀ o, o ≠ 0x14 → t.reg o = s.reg o)) ∧
    (∀ (v : Word) (s : State),
      getBits v 31 16 ≠ 0x5EA7 →
      s.chip.mode ≠ .off →
      ∃ t, exec (.spanResetRequest v) s = .next t ∧ t.chip = s.chip ∧ (t.source 0xF801).cause = true ∧ (t.source 0xF801).cls = .n ∧ (t.source 0xF801).detail = 0x400000C ∧ (∀ x, x ≠ 0xF801 → t.source x = s.source x) ∧ FaultFrame s t) ∧
    (∀ (v : Word) (s : State),
      getBits v 31 16 = 0x5EA7 →
      getBits v 0 0 = 0 →
      getBits v 1 1 = 0 →
      getBits v 2 2 = 1 →
      s.chip.mode ≠ .off →
      (s.chip.mode ≠ .service ∧ s.chip.mode ≠ .test) ∨ s.chip.spans ≠ [] →
      ∃ t, exec (.spanResetRequest v) s = .next t ∧ t.bit 0x14 30 = true ∧ (∀ o, o ≠ 0x14 → t.reg o = s.reg o) ∧ OnlyTouches [.regs] s t) ∧
    (∀ (v : Word) (s : State),
      1 < getBits v 0 0 + getBits v 1 1 + getBits v 2 2 →
      s.chip.mode ≠ .off →
      ∃ t, exec (.spanResetRequest v) s = .next t ∧ t.chip = s.chip ∧ (t.source 0xF801).cause = true ∧ (t.source 0xF801).cls = .n ∧ (t.source 0xF801).detail = 0x400000C ∧ (∀ x, x ≠ 0xF801 → t.source x = s.source x) ∧ FaultFrame s t) ∧
    (∀ (sp donor : Span) (failed : List (Pass × PipeNo)) (s : State),
      (s.spanRuns sp .requested = false → exec (.spanLogicReset sp) s = .next s) ∧ (s.spanRuns sp .logicReset = false ∨ donor = sp → exec (.spanRecopyDone sp donor) s = .next s) ∧ (s.spanRuns sp .recopied = false → exec (.spanVectorsDone sp failed) s = .next s) ∧
      (s.spanRuns sp .vectorsDone = false → exec (.spanReplayStart sp) s = .next s) ∧ (s.spanRuns sp .replaying = false → exec (.spanResetEnd sp) s = .next s)) ∧
    (∀ (sp : Span) (s : State),
      s.spanRuns sp .requested = true →
      ∃ t, exec (.spanLogicReset sp) s = .next t ∧ t.chip.mode = s.chip.mode ∧ t.spanPhase sp = .logicReset ∧ (∀ ps, (t.passOf sp ps).shadowOn = false ∧ (t.passOf sp ps).resolving = 0 ∧ (t.passOf sp ps).switching = none ∧ (t.passOf sp ps).reinstating = none ∧ (t.passOf sp ps).svc = (s.passOf sp ps).svc) ∧
      (∀ m ps, m ≠ sp.val → t.passOf m ps = s.passOf m ps) ∧ OnlyTouches [.chip, .pipes] s t) ∧
    (∀ (sp donor : Span) (s : State),
      s.spanRuns sp .logicReset = true →
      donor ≠ sp →
      ∃ t, exec (.spanRecopyDone sp donor) s = .next t ∧ t.spanPhase sp = .recopied ∧ (∀ e ∈ t.progs.deviant, e.1 / 2 ^ 25 / 10 ≠ sp.val) ∧ (∀ e ∈ s.progs.deviant, e.1 / 2 ^ 25 / 10 ≠ sp.val → e ∈ t.progs.deviant) ∧ OnlyTouches [.chip, .progs, .tables] s t) ∧
    (∀ (sp donor : Span) (s : State),
      s.spanRuns sp .logicReset = true →
      donor ≠ sp →
      ∃ t, exec (.spanRecopyDone sp donor) s = .next t ∧ (∀ k x, k < 10 → x < 2 ^ 25 → t.store (sp * 10 + k) x = s.store (donor * 10 + k) x) ∧ (∀ k x, k < 10 → x < 2 ^ 25 → t.store (donor * 10 + k) x = s.store (donor * 10 + k) x)) ∧
    (∀ (sp : Span) (failed : List (Pass × PipeNo)) (s : State),
      s.spanRuns sp .recopied = true →
      ∃ t, exec (.spanVectorsDone sp failed) s = .next t ∧ t.spanPhase sp = .vectorsDone ∧ t.chip.mode = s.chip.mode ∧ (∀ ps, (t.passOf sp ps).faulty = failedOf failed ps) ∧ (∀ m ps, m ≠ sp.val → t.passOf m ps = s.passOf m ps)) ∧
    (∀ (sp : Span) (s : State),
      s.spanRuns sp .vectorsDone = true →
      ∃ t, exec (.spanReplayStart sp) s = .next t ∧ t.spanPhase sp = .replaying ∧ ((s.engine sp).state = 3 → (s.engine sp).ctx = true → s.stopSet sp = false → (t.engine sp).state = 1) ∧ (∀ m, m ≠ sp.val → t.engine m = s.engine m) ∧ OnlyTouches [.chip, .trestle] s t) ∧
    (∀ (sp : Span) (s : State),
      s.spanRuns sp .replaying = true →
      (∀ e ∈ s.ord.pairs, e.1 < 16384) →
      ∃ t, exec (.spanResetEnd sp) s = .next t ∧ t.spanPhase sp = .none ∧ t.bit 0x14 31 = false ∧ t.mgmtView 1 sp = true ∧ (s.chip.mode = .safe → t.chip.hold = s.chip.hold) ∧
      (s.chip.mode ≠ .safe → ∀ k, k < 4 → (s.passOf sp .ingress).unserved.contains k = false → sp.val * 4 + k ∉ t.chip.hold) ∧ OnlyTouches [.regs, .counters, .emitted, .chip, .fc] s t) ∧
    (∀ (sp : Span) (s : State),
      s.spanRuns sp .replaying = true →
      ∃ t, exec (.spanResetEnd sp) s = .next t ∧ t.spanPhase sp = .none ∧ t.bit 0x14 31 = false ∧ t.fld 0x14 15 0 = (s.fld 0x14 15 0 + 1) % 2 ^ 16)

/-- With no frame arriving, WARM_N or a warm request in a state that allows it enters RECOVERY with all 64 groups in reset
hold and shows the state it left and its source; in SAFE without WARM_OK it is refused; in RECOVERY and OFF it is
ignored, and so is WARM_N while RESET_N is low. A phase command out of its turn changes nothing. The seal empties the
holding copies, those of the published time apart, and leaves no engine running. The release restarts the running
keystone pairs. The audit shows itself done. The resume empties the arrival queues. The end returns to the state left,
or to START-UP with its hold kept after START-UP and SAFE, where ERR_D is no longer asserted by the collector. (R265,
R445, R485, R487, R488, R489, R189, R393) -/
def Obligations.WarmResets : Prop :=
    (∀ (s : State),
      s.boot.held = false →
      s.chip.mode ≠ .recovery →
      s.chip.mode ≠ .off →
      s.warmAllowed = true →
      (∀ e ∈ s.rx.frames, e.2 = none) →
      ∃ t, exec (.warmNAssert) s = .next t ∧ t.chip.mode = .recovery ∧ t.chip.warm = .hold ∧ (∀ g, g < 64 → g ∈ t.chip.hold) ∧ t.fld 0x4 7 4 = s.chip.mode.code ∧ t.fld 0x10 7 4 = 1 ∧ t.fld 0x10 31 16 = (s.fld 0x10 31 16 + 1) % 2 ^ 16 ∧ OnlyTouches [.regs, .counters, .emitted, .chip, .fc] s t) ∧
    (∀ (s : State),
      s.boot.held = false →
      s.chip.mode ≠ .recovery →
      s.chip.mode ≠ .off →
      s.warmAllowed = true →
      ∃ t, exec (.warmNAssert) s = .next t ∧ t.chip.mode = .recovery ∧ t.chip.warm = .hold ∧ (∀ g, g < 64 → g ∈ t.chip.hold)) ∧
    (∀ (v : Word) (s : State),
      getBits v 31 16 = 0x5EA7 →
      getBits v 0 0 = 0 →
      getBits v 1 1 = 1 →
      getBits v 2 2 = 0 →
      s.chip.mode ≠ .recovery →
      s.chip.mode ≠ .off →
      s.warmAllowed = true →
      ∃ t, exec (.warmResetRequest v) s = .next t ∧ t.chip.mode = .recovery ∧ t.chip.warm = .hold ∧ (∀ g, g < 64 → g ∈ t.chip.hold)) ∧
    (∀ (v : Word) (s : State),
      getBits v 31 16 = 0x5EA7 →
      getBits v 0 0 = 0 →
      getBits v 1 1 = 1 →
      getBits v 2 2 = 0 →
      s.chip.mode ≠ .recovery →
      s.chip.mode ≠ .off →
      s.warmAllowed = true →
      (∀ e ∈ s.rx.frames, e.2 = none) →
      ∃ t, exec (.warmResetRequest v) s = .next t ∧ t.chip.mode = .recovery ∧ t.chip.warm = .hold ∧ (∀ g, g < 64 → g ∈ t.chip.hold) ∧ t.fld 0x4 7 4 = s.chip.mode.code ∧ t.fld 0x10 7 4 = 2 ∧ OnlyTouches [.regs, .counters, .emitted, .chip, .fc] s t) ∧
    (∀ (v : Word) (s : State),
      getBits v 31 16 = 0x5EA7 →
      getBits v 0 0 = 0 →
      getBits v 1 1 = 1 →
      getBits v 2 2 = 0 →
      s.chip.mode = .safe →
      s.bit 0x100008 30 = false →
      ∃ t, exec (.warmResetRequest v) s = .next t ∧ t.chip = s.chip ∧ (t.source 0xF801).cause = true ∧ (t.source 0xF801).cls = .n ∧ (t.source 0xF801).detail = 0x400000C ∧ (∀ x, x ≠ 0xF801 → t.source x = s.source x) ∧ FaultFrame s t) ∧
    (∀ (s : State),
      s.boot.held = false →
      s.chip.mode = .safe →
      s.bit 0x100008 30 = false →
      ∃ t, exec (.warmNAssert) s = .next t ∧ (t.source 0xF801).cause = true ∧ (t.source 0xF801).cls = .n ∧ t.chip = s.chip ∧ FaultFrame s t) ∧
    (∀ (v : Word) (failed : List (Span × Pass × PipeNo)) (stores : List (StoreRef × ReadCheck × Option (Fin 16))) (tables : List (Span × TableRef × ReadCheck × Option Span)) (s : State),
      (s.chip.mode = .off ∨ s.chip.mode = .recovery ∧ getBits v 31 16 = 0x5EA7 ∧ getBits v 0 0 = 0 ∧ getBits v 1 1 = 1 ∧ getBits v 2 2 = 0 → exec (.warmResetRequest v) s = .next s) ∧ (s.chip.mode = .off ∨ s.chip.mode = .recovery ∨ s.boot.held = true → exec (.warmNAssert) s = .next s) ∧
      (s.chip.warm ≠ .hold → exec (.warmResetSeal) s = .next s) ∧ (s.chip.warm ≠ .sealed → exec (.warmResetRelease) s = .next s) ∧ (s.chip.warm ≠ .released → exec (.warmAuditDone) s = .next s) ∧
      (s.chip.warm ≠ .audited → exec (.warmResume failed stores tables) s = .next s) ∧ (s.chip.warm ≠ .resumed → exec (.warmResetEnd) s = .next s)) ∧
    (∀ (s : State),
      s.chip.warm = .hold →
      ∃ t, exec (.warmResetSeal) s = .next t ∧ t.chip = { s.chip with warm := .sealed } ∧ t.holding = s.holding.filter (fun (e : Nat × Word) => e.1 = pubSecHi || e.1 = pubN32) ∧ (∀ n, n < 16 → (t.engine n).state ≠ 1 ∧ (t.engine n).state ≠ 2) ∧ (∀ n ps, n < 16 → (t.passOf n ps).resolving = 0) ∧ (∀ o, t.reg o = s.reg o)) ∧
    (∀ (s : State),
      s.chip.warm = .sealed →
      ∃ t, exec (.warmResetRelease) s = .next t ∧ t.chip = { s.chip with warm := .released } ∧ (∀ p, p < 2 → t.kc p = if s.kcRuns p then {} else s.kc p) ∧ OnlyTouches [.chip, .buf, .trestle, .hq, .ks] s t) ∧
    (∀ (s : State),
      s.chip.warm = .released →
      ∃ t, exec (.warmAuditDone) s = .next t ∧ t.chip.warm = .audited ∧ t.bit 0x800004 6 = true) ∧
    (∀ (failed : List (Span × Pass × PipeNo)) (stores : List (StoreRef × ReadCheck × Option (Fin 16))) (tables : List (Span × TableRef × ReadCheck × Option Span)) (s : State),
      s.chip.warm = .audited →
      ∃ t, exec (.warmResume failed stores tables) s = .next t ∧ t.chip.warm = .resumed ∧ t.rx.xoff = [] ∧ t.rx.overload = [] ∧ (∀ g, g < 64 → t.arrivals g = [])) ∧
    (∀ (s : State),
      s.chip.warm = .resumed →
      s.fld 0x4 7 4 ≠ 5 →
      (∀ e ∈ s.ord.pairs, e.1 < 16384) →
      ∃ t, exec (.warmResetEnd) s = .next t ∧ t.chip.mode = stateAfter (s.fld 0x4 7 4) ∧ t.chip.warm = .none ∧ t.tel.histLive = [] ∧ t.tel.histFrozen = [] ∧ t.tel.digLive = [] ∧ t.tel.digFrozen = []) ∧
    (∀ (s : State),
      s.chip.warm = .resumed →
      ∃ t, exec (.warmResetEnd) s = .next t ∧ t.chip.mode = stateAfter (s.fld 0x4 7 4) ∧ t.chip.warm = .none) ∧
    (∀ (s : State),
      s.chip.warm = .resumed →
      s.fld 0x4 7 4 = 5 →
      ∃ t, exec (.warmResetEnd) s = .next t ∧ t.chip = { s.chip with mode := .startUp, warm := .none } ∧ t.fc.errD = false ∧ t.pwr.safeCap = false)

/-- A cold request, or RESET_N going low, leaves the device OFF with its cause in RESET_CAUSE, every other register,
counter, holding copy, buffer and fault at its reset value, an empty write buffer, and the flash, the fused owner key
and host memory as before. With RESET_N high the supplies, or the release of RESET_N, lead to START-UP with the straps
sampled; an uncorrectable fuse latches CHIP element 2. A passed self-test lets the ROM choose a bank; a failed one
enters the safe state. A wrong key is refused with a class-N fault; without supply RESET_N is only noted; an event
that does not fit the state changes nothing. (R437, R485, R487, R489, R494, R502, R515) -/
def Obligations.ColdStarts : Prop :=
    (∀ (v : Word) (s : State),
      getBits v 31 16 = 0x5EA7 →
      getBits v 0 0 = 1 →
      getBits v 1 1 = 0 →
      getBits v 2 2 = 0 →
      s.chip.mode ≠ .off →
      ∃ t, exec (.coldResetRequest v) s = .next t ∧ t.chip.mode = .off ∧ t.fld 0x10 3 0 = 3 ∧ (∀ o, o ≠ 0x10 → t.reg o = resetWord o) ∧ t.counters = [] ∧ t.holding = [] ∧ (∀ o, t.heldWord o = 0) ∧ t.buf = {} ∧ t.fc = {} ∧ t.jrn.wbuf = [] ∧ t.boot.flash = s.boot.flash ∧ t.progs.ownerHash = s.progs.ownerHash ∧ t.hostMem = s.hostMem) ∧
    (∀ (s : State),
      s.boot.held = false →
      s.boot.noSupply = false →
      ∃ t, exec (.resetNAssert) s = .next t ∧ t.chip.mode = .off ∧ t.boot.held = true ∧ t.fld 0x10 3 0 = 2 ∧ (∀ o, o ≠ 0x10 → t.reg o = resetWord o) ∧ t.counters = [] ∧ t.holding = [] ∧ (∀ o, t.heldWord o = 0) ∧ t.buf = {} ∧ t.fc = {} ∧ t.jrn.wbuf = [] ∧ t.boot.flash = s.boot.flash ∧ t.progs.ownerHash = s.progs.ownerHash ∧ t.hostMem = s.hostMem) ∧
    (∀ (s : State),
      s.chip.mode = .off →
      s.noPower = true →
      ∃ t, exec (.powerOn) s = .next t ∧ t.chip.mode = (if s.boot.held then .off else .startUp) ∧ t.boot.noSupply = false ∧ t.fld 0x10 3 0 = 1 ∧ t.boot.flash = s.boot.flash) ∧
    (∀ (v : Word) (s : State),
      getBits v 31 16 ≠ 0x5EA7 ∨ 1 < getBits v 0 0 + getBits v 1 1 + getBits v 2 2 →
      s.chip.mode ≠ .off →
      ∃ t, exec (.coldResetRequest v) s = .next t ∧ t.chip = s.chip ∧ (t.source 0xF801).cause = true ∧ (t.source 0xF801).cls = .n ∧ (t.source 0xF801).detail = 0x400000C ∧ (∀ x, x ≠ 0xF801 → t.source x = s.source x) ∧ FaultFrame s t) ∧
    (∀ (s : State),
      s.boot.noSupply = true →
      ∃ t, exec (.resetNAssert) s = .next t ∧ t = { s with boot := { s.boot with held := true } }) ∧
    (∀ (strap : Bool) (bad : BitVec 8) (s : State),
      s.chip.mode = .off →
      s.noPower = true →
      ∃ t, exec (.resetNRelease strap bad) s = .next t ∧ t = { s with boot := { s.boot with held := false }, chip := { s.chip with strap0 := strap, badFuses := bad } }) ∧
    (∀ (v : Word) (strap b : Bool) (bad : BitVec 8) (s : State),
      (s.chip.mode = .off → exec (.coldResetRequest v) s = .next s) ∧ (s.boot.held = true → exec (.resetNAssert) s = .next s) ∧ (s.chip.mode ≠ .off ∨ s.noPower = false → exec (.powerOn) s = .next s) ∧ (s.chip.mode ≠ .off → exec (.resetNRelease strap bad) s = .next s) ∧ (s.chip.mode ≠ .startUp ∨ s.fc.selfTest = true → exec (.collectorSelftestDone b) s = .next s)) ∧
    (∀ (strap : Bool) (bad : BitVec 8) (s : State),
      s.chip.mode = .off →
      s.noPower = false →
      ∃ t, exec (.resetNRelease strap bad) s = .next t ∧ t.chip = { s.chip with mode := .startUp, strap0 := strap, badFuses := bad } ∧ t.boot = { s.boot with held := false } ∧ (bad ≠ 0 → (t.source 0xF802).cause = true)) ∧
    (∀ (s : State),
      s.chip.mode = .startUp →
      s.fc.selfTest = false →
      ∃ t, exec (.collectorSelftestDone true) s = .next t ∧ t.fc = { s.fc with selfTest := true } ∧ t.bootPhase = 1 ∧ t.boot.starting = false ∧ t.boot.bank = (if s.bcb.trial < 2 then s.bcb.active else if s.bcb.pending < 2 then s.bcb.pending else s.bcb.active) ∧ OnlyTouches [.regs, .emitted, .fc, .boot] s t) ∧
    (∀ (s : State),
      s.chip.mode = .startUp →
      s.fc.selfTest = false →
      ∃ t, exec (.collectorSelftestDone false) s = .next t ∧ t.chip.mode = .safe)

/-- A bank whose manifest, key and parts verify is started. A bank that cannot be read, or a part that does not start,
leaves the bank among those tried and the first failure noted. The parts' READY loads the vendor image and leaves boot
phase READY with no trial under way, or phase SETTINGS while the settings are still to come; a vendor image that
cannot be loaded shows ERROR and leaves the phase; a trial whose settings cannot be used fails. Outside their phase
these events change nothing. An accepted GOTO moves the device, and out of START-UP ends reset hold for the groups
that are served; a refused one shows its cause and moves nothing. (R485, R486, R494, R495, R496, R504) -/
def Obligations.BootsAndMoves : Prop :=
    (∀ (s : State),
      s.chip.mode = .startUp →
      s.bootPhase = 1 →
      s.manifestSigned s.boot.bank = true →
      s.manifestFormat s.boot.bank = true →
      s.badPart none 1 (s.manifestParts s.boot.bank) = none →
      ∃ t, exec (.bootVerifyDone none) s = .next t ∧ t.bootPhase = 2 ∧ t.boot = { s.boot with starting := true } ∧ (∀ o, o ≠ 0x800 → t.reg o = s.reg o) ∧ OnlyTouches [.regs, .boot] s t) ∧
    (∀ (u : Option (Fin 7)) (s : State),
      s.chip.mode = .startUp →
      s.bootPhase = 1 →
      u ≠ some 0 →
      s.manifestSigned s.boot.bank = false →
      s.boot.trial = false →
      ∃ t, exec (.bootVerifyDone u) s = .next t ∧ s.boot.bank ∈ t.boot.tried ∧ t.boot.failed = some (s.boot.failed.getD 1) ∧ t.boot.starting = false) ∧
    (∀ (s : State),
      s.chip.mode = .startUp →
      s.bootPhase = 1 →
      ∃ t, exec (.bootVerifyDone (some 0)) s = .next t ∧ s.boot.bank ∈ t.boot.tried ∧ t.boot.failed = some (s.boot.failed.getD 6) ∧ t.boot.starting = false ∧ OnlyTouches [.regs, .boot] s t) ∧
    (∀ (part : BitVec 4) (s : State),
      s.chip.mode = .startUp →
      s.boot.starting = true →
      s.bootPhase ≠ 3 →
      ∃ t, exec (.bootStartTimeout part) s = .next t ∧ s.boot.bank ∈ t.boot.tried ∧ t.boot.failed = some (s.boot.failed.getD (part.toNat * 16 + 4)) ∧ t.boot.starting = false ∧ OnlyTouches [.regs, .boot] s t) ∧
    (∀ (s : State),
      s.chip.mode = .startUp →
      s.boot.starting = true →
      s.bootPhase ≠ 3 →
      s.boot.trial = false →
      (s.loadVendor none).2 = true →
      ∃ t, exec (.bootReady none true) s = .next t ∧ t.bootPhase = 4 ∧ t.boot.starting = false ∧ t.boot.trial = false) ∧
    (∀ (s : State),
      s.chip.mode = .startUp →
      s.boot.starting = true →
      s.bootPhase ≠ 3 →
      (s.loadVendor none).2 = true →
      ∃ t, exec (.bootReady none false) s = .next t ∧ t.bootPhase = 3 ∧ t.boot = s.boot) ∧
    (∀ (c : Option (Span × Pass × PipeNo)) (s : State),
      s.chip.mode = .startUp →
      s.boot.starting = true →
      s.bootPhase = 3 →
      s.boot.trial = false →
      ∃ t, exec (.bootReady c true) s = .next t ∧ t.bootPhase = 4 ∧ t.boot.starting = false ∧ t.boot.trial = false) ∧
    (∀ (c : Option (Span × Pass × PipeNo)) (s : State),
      s.chip.mode = .startUp →
      s.boot.starting = true →
      s.bootPhase = 3 →
      s.boot.trial = true →
      s.settingsFate = .unusable →
      ∃ t, exec (.bootReady c true) s = .next t ∧ s.boot.bank ∈ t.boot.tried ∧ t.boot.failed = some (s.boot.failed.getD 0x65) ∧ t.boot.starting = false) ∧
    (∀ (c : Option (Span × Pass × PipeNo)) (b : Bool) (u : Option (Fin 7)) (part : BitVec 4) (s : State),
      (s.chip.mode ≠ .startUp ∨ s.boot.starting = false ∨ (s.bootPhase = 3 ∧ b = false) → exec (.bootReady c b) s = .next s) ∧ (s.chip.mode ≠ .startUp ∨ s.bootPhase ≠ 1 → exec (.bootVerifyDone u) s = .next s) ∧ (s.chip.mode ≠ .startUp ∨ s.boot.starting = false ∨ s.bootPhase = 3 → exec (.bootStartTimeout part) s = .next s)) ∧
    (∀ (c : Option (Span × Pass × PipeNo)) (b : Bool) (s : State),
      s.chip.mode = .startUp →
      s.boot.starting = true →
      s.bootPhase ≠ 3 →
      (s.loadVendor c).2 = false →
      ∃ t, exec (.bootReady c b) s = .next t ∧ t.fld 0x12C 1 0 = 3 ∧ t.bootPhase = s.bootPhase ∧ t.boot = s.boot) ∧
    (∀ (s : State),
      s.gotoCause .service = 0 →
      (∀ e ∈ s.ord.pairs, e.1 < 16384) →
      ∃ t, exec (.gotoService) s = .next t ∧ t.chip.mode = .service ∧ t.bit 0x100018 31 = false ∧ (s.chip.mode ≠ .startUp → t.chip.hold = s.chip.hold) ∧
      (s.chip.mode = .startUp → ∀ g, g < 64 → (s.passOf (g / 4) .ingress).unserved.contains (g % 4) = false → g ∉ t.chip.hold)) ∧
    (∀ (s : State),
      s.gotoCause .test = 0 →
      (∀ e ∈ s.ord.pairs, e.1 < 16384) →
      ∃ t, exec (.gotoTest) s = .next t ∧ t.chip.mode = .test ∧ (s.chip.mode ≠ .startUp → t.chip.hold = s.chip.hold) ∧
      (s.chip.mode = .startUp → ∀ g, g < 64 → (s.passOf (g / 4) .ingress).unserved.contains (g % 4) = false → g ∉ t.chip.hold)) ∧
    (∀ (s : State),
      s.gotoCause .service = 0 →
      ∃ t, exec (.gotoService) s = .next t ∧ t.chip.mode = .service ∧ t.bit 0x100018 31 = false) ∧
    (∀ (s : State),
      s.gotoCause .test = 0 →
      ∃ t, exec (.gotoTest) s = .next t ∧ t.chip.mode = .test) ∧
    (∀ (s : State),
      s.gotoCause .test ≠ 0 →
      ∃ t, exec (.gotoTest) s = .next t ∧ t.chip = s.chip ∧ t.bit 0x8 31 = true ∧ t.fld 0x8 11 8 = s.gotoCause .test ∧ (∀ o, o ≠ 0x8 → t.reg o = s.reg o) ∧ OnlyTouches [.regs] s t) ∧
    (∀ (s : State),
      s.gotoCause .service ≠ 0 →
      ∃ t, exec (.gotoService) s = .next t ∧ t.chip = s.chip ∧ t.bit 0x8 31 = true ∧ t.fld 0x8 11 8 = s.gotoCause .service ∧ (∀ o, o ≠ 0x8 → t.reg o = s.reg o) ∧ OnlyTouches [.regs] s t)

/-- With the slot free and no warm reset in the way the oldest record of the write buffer goes into the log at the current
slot and its durable command is done; a slot that fails its read-back holds no record, is marked bad with a class-S
fault, and the record stays. A checkpoint with room for it covers all that the rings have executed. FORCE_WT goes to
WRITE_THROUGH, and the return to FAST waits for the conditions. A supply failure turns the device OFF with no ring
entry taken; the end of the flush leaves WRITE_THROUGH. (R267, R268, R269, R270, R281, R441, R481) -/
def Obligations.TheJournalIsProgrammed : Prop :=
    (∀ (r : JrnRecord) (rest : List JrnRecord) (s : State),
      s.jrn.wbuf = r :: rest →
      s.slotBusy = false →
      s.suspended = false →
      s.injects (srcChip 0x11 1) = none →
      ∃ t, exec (.journalProgram true) s = .next t ∧ t.jrn.wbuf = rest ∧ Tbl.get noRecord t.jrn.log s.jrn.slot = some r ∧ t.jrn.programmed = r.lsn + 1 ∧ t.jrn.bad = s.jrn.bad ∧
      (r.checkpoint = false → ∀ x ∈ (t.sq r.ring).taken, x.work = .durable r.lsn → x.done.isSome = true) ∧ t.counter (cChip (if r.checkpoint then 9 else 8)) = (s.counter (cChip (if r.checkpoint then 9 else 8)) + 1) % 2 ^ 64 ∧ (∀ q, q ≠ r.ring → t.sq q = s.sq q) ∧ OnlyTouches [.counters, .hq, .jrn] s t) ∧
    (∀ (r : JrnRecord) (rest : List JrnRecord) (s : State),
      s.jrn.wbuf = r :: rest →
      s.slotBusy = false →
      s.suspended = false →
      s.injects (srcChip 0x11 1) = none →
      ∃ t, exec (.journalProgram false) s = .next t ∧ t.jrn.wbuf = s.jrn.wbuf ∧ t.jrn.log = Tbl.put noRecord s.jrn.log s.jrn.slot none ∧ s.jrn.slot ∈ t.jrn.bad ∧ t.jrn.programmed = s.jrn.programmed ∧ (t.source 0xFC41).cause = true ∧ (t.source 0xFC41).cls = .s ∧ (∀ x, x ≠ 0xFC41 → t.source x = s.source x) ∧ FaultFrame s t) ∧
    (∀ (b : Bool) (s : State),
      s.jrn.wbuf = [] ∨ s.slotBusy = true ∨ s.suspended = true →
      exec (.journalProgram b) s = .next s) ∧
    (∀ (s : State),
      s.groupServed 0 = false →
      exec (.journalCheckpoint) s = .next s) ∧
    (∀ (s : State),
      s.groupServed 0 = true →
      s.jrn.wbuf.length + s.ringsToCheck.length ≤ 4096 →
      ∃ t, exec (.journalCheckpoint) s = .next t ∧ (∀ r ∈ s.ringsToCheck, t.coveredOf r = s.executedOf r) ∧ t.jrn.executed = s.jrn.executed ∧ t.jrn.log = s.jrn.log ∧ t.jrn.wbuf.take s.jrn.wbuf.length = s.jrn.wbuf ∧ OnlyTouches [.jrn] s t) ∧
    (∀ (v : Word) (s : State),
      getBits v 0 0 = 1 →
      s.closed 0x5F0000 = false →
      ∃ t, exec (.journalForceWt v) s = .next t ∧ t.writeThrough = true ∧ t.bit 0x5F0000 0 = true ∧ (s.writeThrough = false → t.jrn.gate = s.jrn.nextLsn) ∧ OnlyTouches [.regs, .emitted, .jrn] s t) ∧
    (∀ (v : Word) (s : State),
      getBits v 0 0 = 0 →
      s.closed 0x5F0000 = false →
      ∃ t, exec (.journalForceWt v) s = .next t ∧ t = s.setBit 0x5F0000 0 false) ∧
    (∀ (s : State),
      s.fld 0x300068 2 0 ≠ 0 ∨ s.bit 0x5F0000 0 = true ∨ s.jrn.noEntry = true →
      exec (.journalFastResume) s = .next s) ∧
    (∀ (a b : Nat) (s : State),
      s.bit 0x5F0004 2 = false →
      exec (.journalFlushDone a b) s = .next s) ∧
    (∀ (s : State),
      s.fld 0x300068 2 0 = 0 →
      s.bit 0x5F0000 0 = false →
      s.jrn.noEntry = false →
      ∃ t, exec (.journalFastResume) s = .next t ∧ t.writeThrough = false ∧ t.jrn = s.jrn ∧ OnlyTouches [.regs, .emitted] s t) ∧
    (∀ (s : State),
      ∃ t, exec (.mainSupplyFail) s = .next t ∧ t.chip = { s.chip with mode := .off, warm := .none } ∧ t.boot = { s.boot with noSupply := true } ∧ t.jrn.noEntry = true ∧ t.jrn.wbuf = s.jrn.wbuf ∧ t.writeThrough = true ∧ t.bit 0x5F0004 2 = true ∧ OnlyTouches [.regs, .emitted, .chip, .jrn, .boot] s t) ∧
    (∀ (sense fall : Nat) (s : State),
      s.bit 0x5F0004 2 = true →
      ∃ t, exec (.journalFlushDone sense fall) s = .next t ∧ t.bit 0x5F0004 2 = false ∧ t.bit 0x300068 1 = true ∧ (500 ≤ s.charge sense → 0 < s.voltage fall → t.fld 0x30006C 31 16 = (clampInt (s.charge sense * 1000 / s.voltage fall) 0 65535).toNat) ∧ t.writeThrough = true ∧ t.chip = { s.chip with warm := .none } ∧ (∀ r ∈ t.jrn.wbuf, r ∈ s.jrn.wbuf))

/-- A comparison adds the measured charge, shows the bank voltage, and leaves WRITE_THROUGH while the estimates disagree
or the budget is low; a rebase with a full bank takes the smaller capacitance. A rise takes the target into the window
of its point, sends it and keeps the old one; with no rise due, or under the PMBus cap, it does not start; a reading
is shown and, with no PMBus cap, says whether the voltage is in place, while under the cap the third good transaction
in a row ends it; the adaptive loop moves one step within the window, and stands still during a rise or the PMBus cap.
A PMBus failure caps the point where it stands with a class-S fault, an alert reads STATUS_WORD through the alert
response address, is a class-N fault and is cleared. (R466, R468, R469, R470, R479, R480, R481, R501) -/
def Obligations.HoldUpAndVoltage : Prop :=
    (∀ (sense : Int) (mv : Nat) (s : State),
      ∃ t, exec (.holdupCompare sense mv) s = .next t ∧ t.pwr = { s.pwr with q := s.pwr.q + s.charge sense } ∧ t.fld 0x300068 31 16 = (clampInt (s.voltage mv) 0 65535).toNat ∧ t.bit 0x300068 1 = s.bit 0x300068 1 ∧
      (t.bit 0x300068 0 = true ∨ t.bit 0x300068 2 = true → t.writeThrough = true) ∧ t.chip = s.chip) ∧
    (∀ (mv : Nat) (s : State),
      10800 ≤ s.voltage mv →
      ∃ t, exec (.holdupRebase mv) s = .next t ∧ t.fld 0x30006C 15 0 = (if s.fld 0x30006C 31 16 = 0 then s.huCap else min s.huCap (s.fld 0x30006C 31 16)) ∧ t.bit 0x300068 1 = false ∧
      t.pwr = { s.pwr with q := ((if s.fld 0x30006C 31 16 = 0 then s.huCap else min s.huCap (s.fld 0x30006C 31 16) : Nat) : Int) * s.voltage mv / 1000 } ∧ t.chip = s.chip) ∧
    (∀ (mv : Nat) (s : State),
      s.voltage mv < 10800 →
      exec (.holdupRebase mv) s = .next s) ∧
    (∀ (s : State),
      s.changePending = false ∨ min 5 (s.slotArg 63) ≤ s.curOp ∨ s.pwr.rise = some (min 5 (s.slotArg 63)) ∨ s.pwr.pmbus.isSome = true →
      exec (.riseVoutCommand) s = .next s) ∧
    (∀ (up down : Bool) (s : State),
      s.pwr.rise.isSome = true ∨ s.pwr.pmbus.isSome = true →
      exec (.avsAdjust up down) s = .next s) ∧
    (∀ (uv : Nat) (s : State),
      s.pwr.pmbus.isSome = true →
      s.pwr.pmbusOk < 2 →
      ∃ t, exec (.riseReadVout uv) s = .next t ∧ t.pwr.pmbus = s.pwr.pmbus ∧ t.pwr.pmbusOk = s.pwr.pmbusOk + 1 ∧ t.fld 0x300014 9 0 = min 1023 (uv / 1000)) ∧
    (∀ (s : State),
      s.changePending = true →
      s.curOp < min 5 (s.slotArg 63) →
      s.pwr.rise ≠ some (min 5 (s.slotArg 63)) →
      s.pwr.pmbus = none →
      ∃ t, exec (.riseVoutCommand) s = .next t ∧ t.pwr = { s.pwr with rise := some (min 5 (s.slotArg 63)), riseOk := false, before25 := s.pwr.target25, target25 := s.inWindow (min 5 (s.slotArg 63)) (Config.pointTarget (min 5 (s.slotArg 63))) } ∧ t.emitted.length = s.emitted.length + 1 ∧ OnlyTouches [.regs, .emitted, .pwr] s t) ∧
    (∀ (uv : Nat) (s : State),
      s.pwr.pmbus = none →
      ∃ t, exec (.riseReadVout uv) s = .next t ∧ t.fld 0x300014 9 0 = min 1023 (uv / 1000) ∧ t.pwr = { s.pwr with riseOk := s.pwr.rise.isSome && (decide (uv ≤ s.pwr.target25 * 2500 + 5000) && decide (s.pwr.target25 * 2500 ≤ uv + 5000)) } ∧ (∀ o, o ≠ 0x300014 → t.reg o = s.reg o)) ∧
    (∀ (uv : Nat) (s : State),
      s.pwr.pmbus.isSome = true →
      2 ≤ s.pwr.pmbusOk →
      ∃ t, exec (.riseReadVout uv) s = .next t ∧ t.fld 0x300014 9 0 = min 1023 (uv / 1000) ∧ t.pwr.pmbus = none ∧ t.pwr.pmbusOk = 0) ∧
    (∀ (up down : Bool) (s : State),
      s.pwr.rise = none →
      s.pwr.pmbus = none →
      ∃ t, exec (.avsAdjust up down) s = .next t ∧ t.pwr = { s.pwr with target25 := s.inWindow s.curOp (if up && !down then (s.pwr.target25 : Int) + 1 else if down && !up then (s.pwr.target25 : Int) - 1 else s.pwr.target25) } ∧ (∀ o, o ≠ 0x300014 → t.reg o = s.reg o) ∧ OnlyTouches [.regs, .emitted, .pwr] s t) ∧
    (∀ (s : State),
      ∃ t, exec (.pmbusFailure) s = .next t ∧ t.pwr.pmbus = some (s.pwr.pmbus.getD s.curOp) ∧ t.pwr.rise = none ∧ t.pwr.pmbusOk = 0 ∧ t.curOp = min s.curOp t.capOp ∧ (t.source pmbusSource).cause = true ∧ (t.source pmbusSource).cls = .s ∧ (∀ x, x ≠ pmbusSource → t.source x = s.source x) ∧ t.chip = s.chip) ∧
    (∀ (status : BitVec 16) (s : State),
      ∃ t, exec (.pmbAlert status) s = .next t ∧ (t.source pmbusSource).cause = true ∧ (t.source pmbusSource).cls = .n ∧ (∀ x, x ≠ pmbusSource → t.source x = s.source x) ∧ t.chip = s.chip ∧ .pmbus 0x0C 0x79 status.toNat ∈ t.emitted ∧ t.emitted.head? = some (.pmbus (s.fld 0x300018 6 0) 0x03 0))

/-- A policy write shows its register and, outside a group, schedules the point it asks for. With every sensor below 125
°C a sample is kept, and one at the grade maximum starts the OP0 cap. A throttle step lowers the throttle cap by one,
not below OP_MIN, and a release step raises or ends it. The end of the junction cap and of the regulator alert leave
the point to the schedule; a confirmed alert takes OP0 and latches class S. A droop is counted once until its detector
recovers. A SerDes rail outside its limits takes links down, VIO and VSRAM outside theirs are a supply failure; a rail
within its limits, and any rail while RESET_N is low or the device is OFF, is only noted, and so is VCORE; but the
last rail to come in starts a device that waits for it. A step, release or end whose condition does not hold changes
nothing. (R441, R466, R467, R471, R472, R483, R511) -/
def Obligations.CapsMoveThePoint : Prop :=
    (∀ (phases : Bool) (v : Word) (s : State),
      s.closed 0x300000 = false →
      ∃ t, exec (.opPolicyWrite phases v) s = .next t ∧ t.reg (if phases then 0x300004 else 0x300000) = v &&& (if phases then 0x77777777 else 0x770) ∧ t.curOp = s.curOp ∧
      (s.inGroup = false → t.request ≠ s.curOp → t.changePending = true ∧ t.slotArg 63 = t.request) ∧ OnlyTouches [.regs, .emitted, .pwr] s t) ∧
    (∀ (temps : List Int) (s : State),
      (∀ i, i < 64 → temps.getD i 0 + s.calValue 2 i < 2000) →
      (∀ i, i < 64 → s.fc.injHeld ≠ some (srcChip 0x15 i)) →
      ∃ t, exec (.thermalSample temps) s = .next t ∧ t.pwr.temps = (List.range 64).map (fun i => temps.getD i 0 + s.calValue 2 i) ∧ (t.hotAt s.gradeMax = true → t.pwr.tjmax = true) ∧ t.chip = s.chip) ∧
    (∀ (temps : List Int) (s : State),
      ∃ t, exec (.thermalSample temps) s = .next t ∧ t.pwr.temps = (List.range 64).map (fun i => temps.getD i 0 + s.calValue 2 i) ∧ (t.hotAt s.gradeMax = true → t.pwr.tjmax = true) ∧ t.pwr.hot = t.hotAt s.throttleAt ∧ (t.hotAt s.throttleAt = true → s.pwr.hot = false ∨ s.pwr.throttle = none → t.pwr.throttle = some (max (s.curOp - 1) s.opMin))) ∧
    (∀ (c : Nat) (s : State),
      s.pwr.throttle = some c →
      s.hotAt s.throttleAt = true →
      ∃ t, exec (.throttleStep) s = .next t ∧ t.pwr.throttle = some (max (c - 1) s.opMin) ∧ t.curOp ≤ t.capOp ∧ t.pwr.temps = s.pwr.temps ∧ OnlyTouches [.regs, .emitted, .pierTx, .pwr] s t) ∧
    (∀ (c : Nat) (s : State),
      s.pwr.throttle = some c →
      s.hotAt (s.throttleAt - 79) = false →
      ∃ t, exec (.throttleReleaseStep) s = .next t ∧ t.pwr.throttle = (if 5 ≤ c then none else some (c + 1)) ∧ t.curOp = s.curOp ∧ OnlyTouches [.regs, .emitted, .pwr] s t) ∧
    (∀ (s : State),
      s.pwr.tjmax = true →
      s.hotAt (s.gradeMax - 160) = false →
      ∃ t, exec (.tjmaxCapEnd) s = .next t ∧ t.pwr.tjmax = false ∧ t.curOp = s.curOp ∧ OnlyTouches [.regs, .emitted, .pwr] s t) ∧
    (∀ (s : State),
      (s.pwr.throttle = none ∨ s.hotAt s.throttleAt = false → exec (.throttleStep) s = .next s) ∧ (s.pwr.throttle = none ∨ s.hotAt (s.throttleAt - 79) = true → exec (.throttleReleaseStep) s = .next s) ∧ (s.pwr.tjmax = false ∨ s.hotAt (s.gradeMax - 160) = true → exec (.tjmaxCapEnd) s = .next s) ∧
      (s.pwr.alert = true → exec (.regAlertConfirm) s = .next s) ∧ (s.pwr.alert = false → exec (.regAlertEnd) s = .next s)) ∧
    (∀ (det : Fin 256) (s : State),
      s.pwr.droops.contains det.val = true →
      exec (.droopDetect det) s = .next s) ∧
    (∀ (s : State),
      s.pwr.alert = false →
      (s.source alertSource).live = false →
      ∃ t, exec (.regAlertConfirm) s = .next t ∧ t.pwr.alert = true ∧ t.curOp = 0 ∧ (t.source alertSource).cause = true ∧ (t.source alertSource).cls = .s ∧ (∀ x, x ≠ alertSource → t.source x = s.source x)) ∧
    (∀ (s : State),
      s.pwr.alert = false →
      ∃ t, exec (.regAlertConfirm) s = .next t ∧ t.pwr.alert = true ∧ t.curOp = 0 ∧ (t.source alertSource).live = true) ∧
    (∀ (s : State),
      s.pwr.alert = true →
      ∃ t, exec (.regAlertEnd) s = .next t ∧ t.pwr.alert = false ∧ t.curOp = s.curOp ∧ (t.source alertSource).live = false ∧ (∀ x, x ≠ alertSource → t.source x = s.source x)) ∧
    (∀ (det : Fin 256) (s : State),
      s.pwr.droops.contains det.val = false →
      ∃ t, exec (.droopDetect det) s = .next t ∧ det.val ∈ t.pwr.droops ∧ t.fld (0x300020 + det.val / 128 * 4) 31 0 = min (s.fld (0x300020 + det.val / 128 * 4) 31 0 + 1) (2 ^ 32 - 1) ∧ (∀ o, o ≠ 0x300020 + det.val / 128 * 4 → t.reg o = s.reg o) ∧ OnlyTouches [.regs, .pwr] s t) ∧
    (∀ (det : Fin 256) (s : State),
      ∃ t, exec (.droopRecover det) s = .next t ∧ det.val ∉ t.pwr.droops ∧ (∀ d, d ≠ det.val → (d ∈ t.pwr.droops ↔ d ∈ s.pwr.droops)) ∧ OnlyTouches [.pwr] s t) ∧
    (∀ (r : Rail) (uv : Nat) (ports : List Port) (s : State),
      s.boot.held = false →
      s.chip.mode ≠ .off →
      r = .vio ∨ r = .vsram →
      railGood r uv (s.pwr.target25 * 2500) = false →
      ∃ t, exec (.railFault r uv ports) s = .next t ∧ t.chip.mode = .off ∧ t.boot.noSupply = true ∧ r ∈ t.boot.railsOut ∧ t.jrn.noEntry = true ∧ t.writeThrough = true) ∧
    (∀ (r : Rail) (uv : Nat) (p : Port) (s : State),
      s.boot.held = false →
      s.chip.mode ≠ .off →
      r = .vsdA ∨ r = .vsdT →
      railGood r uv (s.pwr.target25 * 2500) = false →
      ∃ t, exec (.railFault r uv [p]) s = .next t ∧ t.portState p.val ≠ 5 ∧ r ∈ t.boot.railsOut ∧ t.chip.mode = s.chip.mode) ∧
    (∀ (r : Rail) (uv : Nat) (ports : List Port) (s : State),
      railGood r uv (s.pwr.target25 * 2500) = true →
      s.chip.mode ≠ .off ∨ s.boot.held = true ∨ s.boot.noSupply = true ∨ (∃ q ∈ s.boot.railsOut, q ≠ r) ∨ s.boot.railsOut = [] →
      ∃ t, exec (.railFault r uv ports) s = .next t ∧ r ∉ t.boot.railsOut ∧ (∀ q ∈ s.boot.railsOut, q ≠ r → q ∈ t.boot.railsOut) ∧ OnlyTouches [.boot] s t) ∧
    (∀ (r : Rail) (uv : Nat) (ports : List Port) (s : State),
      railGood r uv (s.pwr.target25 * 2500) = true →
      s.chip.mode = .off →
      s.boot.held = false →
      s.boot.noSupply = false →
      s.boot.railsOut = [r] →
      ∃ t, exec (.railFault r uv ports) s = .next t ∧ t.chip.mode = .startUp ∧ t.boot.railsOut = []) ∧
    (∀ (r : Rail) (uv : Nat) (ports : List Port) (s : State),
      railGood r uv (s.pwr.target25 * 2500) = false →
      s.boot.held = true ∨ s.chip.mode = .off ∨ r = .vcore →
      ∃ t, exec (.railFault r uv ports) s = .next t ∧ r ∈ t.boot.railsOut ∧ (∀ q ∈ s.boot.railsOut, q ∈ t.boot.railsOut) ∧ OnlyTouches [.boot] s t)

/-- With EN set, opening makes the device a member and puts a vote for the next mark first, with at most the member's own
request; with EN clear a member leaves its group. A frame for an unknown later round of the group is kept as heard;
one whose round is over is counted as late; the device that is no member only keeps the payload. Closing shows the
known minimum, counts the round, keeps no open vote, and arms CS63 for the mark with that point. With the group's
service on neither pair, with a payload of another length or over a link that is not usable, and with nothing to open
or close, nothing changes. (R474, R475, R476, R477, R483) -/
def Obligations.ConcordRounds : Prop :=
    (∀ (s : State),
      s.groupServed 1 = true →
      s.bit 0x300040 31 = true →
      ∃ t, exec (.concordRoundOpen) s = .next t ∧ (∃ v, t.pwr.votes.head? = some v ∧ v.opened = true ∧ v.sec = s.nextConcordMark / 1000000000 % 2 ^ 48 ∧ v.ns = s.nextConcordMark % 1000000000 ∧ v.minOp ≤ s.request) ∧ t.inGroup = true ∧ OnlyTouches [.emitted, .pierTx, .pwr] s t) ∧
    (∀ (s : State),
      s.groupServed 1 = true →
      s.bit 0x300040 31 = false →
      s.inGroup = true →
      ∃ t, exec (.concordRoundOpen) s = .next t ∧ t.inGroup = false ∧ t.pwr.votes = [] ∧ t.fld 0x300008 25 23 = 7 ∧ t.chip = s.chip) ∧
    (∀ (n : Four) (payload : List Byte) (s : State),
      payload.length = 16 →
      s.pierUsable n = true →
      s.groupServed 1 = true →
      s.inGroup = false →
      s.bit 0x300040 31 = false →
      ∃ t, exec (.concord n payload) s = .next t ∧ t.pwr.votes = s.pwr.votes ∧ Tbl.get (fun _ => ([] : List Byte)) t.pwr.heard n = payload ∧ OnlyTouches [.pwr] s t) ∧
    (∀ (n : Four) (payload : List Byte) (s : State),
      payload.length = 16 →
      s.pierUsable n = true →
      s.groupServed 1 = true →
      s.inGroup = true →
      s.bit 0x300040 (24 + n.val) = true →
      beNat (sliceBytes payload 0 2) = s.fld 0x300040 15 0 →
      s.roundOver (beNat (sliceBytes payload 2 6) * 1000000000 + beNat (sliceBytes payload 8 4)) = true →
      ∃ t, exec (.concord n payload) s = .next t ∧ t.fld 0x300044 15 8 = min (s.fld 0x300044 15 8 + 1) 255 ∧ t.pwr.votes = s.pwr.votes ∧ (∀ o, o ≠ 0x300044 → t.reg o = s.reg o) ∧ OnlyTouches [.regs, .pwr] s t) ∧
    (∀ (n : Four) (payload : List Byte) (s : State),
      payload.length = 16 →
      s.pierUsable n = true →
      s.groupServed 1 = true →
      s.inGroup = true →
      s.bit 0x300040 (24 + n.val) = true →
      beNat (sliceBytes payload 0 2) = s.fld 0x300040 15 0 →
      s.roundOver (beNat (sliceBytes payload 2 6) * 1000000000 + beNat (sliceBytes payload 8 4)) = false →
      (s.pwr.votes.find? (fun x => x.sec = beNat (sliceBytes payload 2 6) && x.ns = beNat (sliceBytes payload 8 4)) = none) →
      ∃ t, exec (.concord n payload) s = .next t ∧ { sec := beNat (sliceBytes payload 2 6), ns := beNat (sliceBytes payload 8 4), minOp := beNat (sliceBytes payload 12 1), minDev := beNat (sliceBytes payload 14 2) % 4096, opened := false } ∈ t.pwr.votes ∧ (∀ v ∈ s.pwr.votes, v ∈ t.pwr.votes) ∧ OnlyTouches [.pwr] s t) ∧
    (∀ (n : Four) (payload : List Byte) (s : State),
      (s.groupServed 1 = false ∨ (s.bit 0x300040 31 = false ∧ s.inGroup = false) → exec (.concordRoundOpen) s = .next s) ∧ (s.groupServed 1 = false ∨ payload.length ≠ 16 ∨ s.pierUsable n = false → exec (.concord n payload) s = .next s) ∧ (s.groupServed 1 = false ∨ s.openVote = none ∨ s.inGroup = false → exec (.concordRoundClose) s = .next s)) ∧
    (∀ (v : Vote) (s : State),
      s.groupServed 1 = true →
      s.openVote = some v →
      s.inGroup = true →
      ∃ t, exec (.concordRoundClose) s = .next t ∧ t.pwr.closed = some (v.sec, v.ns) ∧ (∀ x ∈ t.pwr.votes, x.opened = false) ∧ t.fld 0x300044 31 29 = min 5 v.minOp ∧ t.fld 0x300044 27 16 = v.minDev % 4096 ∧ t.fld 0x300044 7 0 = (s.fld 0x300044 7 0 + 1) % 256 ∧ t.changePending = true ∧ t.slotArg 63 = min 5 v.minOp)

/-- ROLL freezes the live banks, empties the new ones, counts the interval and records its time. A write of a session's
register loads its countdown with N and seeds its register, which is never 0. A CPU copy goes to the next buffer of
the receive ring that the map names for its code, or is counted in the map when there is none; a session's copy, with
the RECORD pool in room, goes as a sample to its receive ring or waits as a capture record, and is counted while the
shared pool is full. Each leaves the copies that wait. A copy of a frame that has not ended, and a copy that does not
exist, changes nothing. (R286, R292, R293, R294, R302, R303, R387) -/
def Obligations.TelemetryIsKept : Prop :=
    (∀ (v : Word) (s : State),
      getBits v 0 0 = 1 →
      s.closed 0x2500000 = false →
      ∃ t, exec (.telRollWrite v) s = .next t ∧ t.tel = { s.tel with histLive := [], histFrozen := s.tel.histLive, digLive := [], digFrozen := s.tel.digLive } ∧ t.fld 0x2500004 31 0 = (s.fld 0x2500004 31 0 + 1) % 2 ^ 32 ∧ t.reg 0x2500008 = s.tb0Ns ∧ OnlyTouches [.regs, .tel] s t) ∧
    (∀ (v : Word) (s : State),
      getBits v 0 0 = 0 →
      ∃ t, exec (.telRollWrite v) s = .next t ∧ t = s) ∧
    (∀ (m : Sixtyfour) (n : Bool) (v : Word) (s : State),
      s.closed 0x2501000 = false →
      ∃ t, exec (.mirrorSessionWrite m n v) s = .next t ∧ Tbl.get zeroNat t.tel.countdown m = t.msN m ∧ 1 ≤ t.msN m ∧ Tbl.get oneWord t.tel.lfsr m ≠ 0 ∧ (n = true → t.fld (0x2501004 + m.val * 8) 23 0 = getBits v 23 0) ∧ (n = false → t.reg (msCfg m) = v &&& 0xE0000FFF) ∧ OnlyTouches [.regs, .tel] s t) ∧
    (∀ (d : DescId) (h : Holder) (ci : Option Word) (s : State),
      ((s.info d).ended = false ∨ s.egr.copies.find? (fun c => decide (c.desc = d.val) && decide (c.holder = h)) = none) →
      exec (.rxCopyDeliver d h ci) s = .next s ∧ exec (.mirrorRecordWrite d h ci) s = .next s) ∧
    (∀ (d : DescId) (h : Holder) (ci : Option Word) (s : State),
      holderTarget h = 0x2000 →
      exec (.mirrorRecordWrite d h ci) s = .next s) ∧
    (∀ (d : DescId) (h : Holder) (ci : Option Word) (s : State),
      holderTarget h ≠ 0x2000 →
      s.bit (0x2501000 + holderTarget h % 64 * 8) 30 = false →
      exec (.rxCopyDeliver d h ci) s = .next s) ∧
    (∀ (d : DescId) (h : Holder) (ci : Option Word) (c : CopyRec) (s : State),
      (s.egr.copies.find? (fun c => decide (c.desc = d.val) && decide (c.holder = h)) = some c) →
      (s.info d).ended = true →
      s.sharedFull = false →
      (s.checkGuards d (s.desc d).dest h).2 = true →
      holderTarget h = 0x2000 →
      s.bit (0x402000 + c.cpu % 256 * 4) 31 = false →
      (s.desc d).alloc = true →
      (s.desc d).quar = false →
      (s.desc d).cells ≠ 0 →
      (s.cellsOf d).Nodup →
      (∀ c ∈ s.cellsOf d, (s.link c).alloc = true ∧ (s.link c).refcnt = (s.link (s.desc d).first).refcnt ∧ (s.link c).owner = (s.link (s.desc d).first).owner ∧ ((s.link c).last = true → some c = (s.cellsOf d).getLast?)) →
      2 ≤ (s.link (s.desc d).first).refcnt →
      (s.link (s.desc d).first).refcnt ≤ 256 →
      ∃ t, exec (.rxCopyDeliver d h ci) s = .next t ∧ c ∉ t.egr.copies ∧ t.fld (0x402000 + c.cpu % 256 * 4) 27 12 = min (s.fld (0x402000 + c.cpu % 256 * 4) 27 12 + 1) 65535 ∧ t.hostMem = s.hostMem) ∧
    (∀ (d : DescId) (h : Holder) (ci : Option Word) (c : CopyRec) (b : RxBuf) (bs : List RxBuf) (s : State),
      (s.egr.copies.find? (fun c => decide (c.desc = d.val) && decide (c.holder = h)) = some c) →
      (s.info d).ended = true →
      s.sharedFull = false →
      (s.checkGuards d (s.desc d).dest h).2 = true →
      holderTarget h = 0x2000 →
      s.bit (0x402000 + c.cpu % 256 * 4) 31 = true →
      s.sqRuns (s.fld (0x402000 + c.cpu % 256 * 4) 11 0) = true →
      s.sqEn (s.fld (0x402000 + c.cpu % 256 * 4) 11 0) = true →
      s.sqKind (s.fld (0x402000 + c.cpu % 256 * 4) 11 0) = 3 →
      s.hostOn = true →
      (s.sq (s.fld (0x402000 + c.cpu % 256 * 4) 11 0)).bufs = b :: bs →
      b.code = 0 →
      s.cqFree (s.sqCq (s.fld (0x402000 + c.cpu % 256 * 4) 11 0)) ≠ 0 →
      (s.desc d).alloc = true →
      (s.desc d).quar = false →
      (s.desc d).cells ≠ 0 →
      (s.cellsOf d).Nodup →
      (∀ c ∈ s.cellsOf d, (s.link c).alloc = true ∧ (s.link c).refcnt = (s.link (s.desc d).first).refcnt ∧ (s.link c).owner = (s.link (s.desc d).first).owner ∧ ((s.link c).last = true → some c = (s.cellsOf d).getLast?)) →
      2 ≤ (s.link (s.desc d).first).refcnt →
      (s.link (s.desc d).first).refcnt ≤ 256 →
      ∃ t, exec (.rxCopyDeliver d h ci) s = .next t ∧ c ∉ t.egr.copies ∧ (t.sq (s.fld (0x402000 + c.cpu % 256 * 4) 11 0)).bufs = bs ∧ t.sqCi (s.fld (0x402000 + c.cpu % 256 * 4) 11 0) = b.idx + 1 ∧
      t.hostMem = (s.rxDeliver (s.fld (0x402000 + c.cpu % 256 * 4) 11 0) 0 (c.cpu % 256) (fun room => s.copyHeader c 0 (min (min (s.frameBytes d).length (room - 16)) 256 - 1) ++ s.frameBytes d) ci).1.hostMem) ∧
    (∀ (d : DescId) (h : Holder) (ci : Option Word) (c : CopyRec) (b : RxBuf) (bs : List RxBuf) (s : State),
      (s.egr.copies.find? (fun c => decide (c.desc = d.val) && decide (c.holder = h)) = some c) →
      (s.info d).ended = true →
      s.sharedFull = false →
      (s.checkGuards d (s.desc d).dest h).2 = true →
      holderTarget h ≠ 0x2000 →
      s.bit (0x2501000 + holderTarget h % 64 * 8) 30 = true →
      (s.recordCells (16 + ((s.frameBytes d).take 256).length)).2.isSome = true →
      s.sqRuns (s.fld (0x2501000 + holderTarget h % 64 * 8) 11 0) = true →
      s.sqKind (s.fld (0x2501000 + holderTarget h % 64 * 8) 11 0) = 3 →
      s.hostOn = true →
      (s.sq (s.fld (0x2501000 + holderTarget h % 64 * 8) 11 0)).bufs = b :: bs →
      b.code = 0 →
      s.cqFree (s.sqCq (s.fld (0x2501000 + holderTarget h % 64 * 8) 11 0)) ≠ 0 →
      (s.desc d).alloc = true →
      (s.desc d).quar = false →
      (s.desc d).cells ≠ 0 →
      (s.cellsOf d).Nodup →
      (∀ c ∈ s.cellsOf d, (s.link c).alloc = true ∧ (s.link c).refcnt = (s.link (s.desc d).first).refcnt ∧ (s.link c).owner = (s.link (s.desc d).first).owner ∧ ((s.link c).last = true → some c = (s.cellsOf d).getLast?)) →
      2 ≤ (s.link (s.desc d).first).refcnt →
      (s.link (s.desc d).first).refcnt ≤ 256 →
      ∃ t, exec (.rxCopyDeliver d h ci) s = .next t ∧ c ∉ t.egr.copies ∧ (t.sq (s.fld (0x2501000 + holderTarget h % 64 * 8) 11 0)).bufs = bs ∧ t.sqCi (s.fld (0x2501000 + holderTarget h % 64 * 8) 11 0) = b.idx + 1 ∧ t.counter (cMirror (holderTarget h % 64) 2) = (s.counter (cMirror (holderTarget h % 64) 2) + 1) % 2 ^ 64) ∧
    (∀ (d : DescId) (h : Holder) (ci : Option Word) (c : CopyRec) (s : State),
      (s.egr.copies.find? (fun c => decide (c.desc = d.val) && decide (c.holder = h)) = some c) →
      (s.info d).ended = true →
      s.sharedFull = false →
      (s.checkGuards d (s.desc d).dest h).2 = true →
      holderTarget h ≠ 0x2000 →
      s.bit (0x2501000 + holderTarget h % 64 * 8) 30 = false →
      (s.recordCells (16 + ((s.frameBytes d).take 128).length)).2.isSome = true →
      (s.desc d).alloc = true →
      (s.desc d).quar = false →
      (s.desc d).cells ≠ 0 →
      (s.cellsOf d).Nodup →
      (∀ c ∈ s.cellsOf d, (s.link c).alloc = true ∧ (s.link c).refcnt = (s.link (s.desc d).first).refcnt ∧ (s.link c).owner = (s.link (s.desc d).first).owner ∧ ((s.link c).last = true → some c = (s.cellsOf d).getLast?)) →
      2 ≤ (s.link (s.desc d).first).refcnt →
      (s.link (s.desc d).first).refcnt ≤ 256 →
      ∃ t, exec (.mirrorRecordWrite d h ci) s = .next t ∧ c ∉ t.egr.copies ∧ t.hq.captures.length = s.hq.captures.length + 1 ∧ t.hq.captures.getLast?.map (fun r => (r.ring, r.session, r.bytes)) = some (s.fld (0x2501000 + holderTarget h % 64 * 8) 11 0, holderTarget h % 64, sliceBytes (s.copyHeader c (holderTarget h % 64) (((s.frameBytes d).take 128).length - 1) ++ (s.frameBytes d).take 128) 0 168) ∧ t.hostMem = s.hostMem) ∧
    (∀ (d : DescId) (h : Holder) (ci : Option Word) (c : CopyRec) (s : State),
      (s.egr.copies.find? (fun c => decide (c.desc = d.val) && decide (c.holder = h)) = some c) →
      holderTarget h ≠ 0x2000 →
      (s.info d).ended = true →
      s.sharedFull = true →
      (s.desc d).alloc = true →
      (s.desc d).quar = false →
      (s.desc d).cells ≠ 0 →
      (s.cellsOf d).Nodup →
      (∀ c ∈ s.cellsOf d, (s.link c).alloc = true ∧ (s.link c).refcnt = (s.link (s.desc d).first).refcnt ∧ (s.link c).owner = (s.link (s.desc d).first).owner ∧ ((s.link c).last = true → some c = (s.cellsOf d).getLast?)) →
      2 ≤ (s.link (s.desc d).first).refcnt →
      (s.link (s.desc d).first).refcnt ≤ 256 →
      ∃ t, exec (.mirrorRecordWrite d h ci) s = .next t ∧ c ∉ t.egr.copies ∧ t.counter (cMirror (holderTarget h % 64) 4) = (s.counter (cMirror (holderTarget h % 64) 4) + 1) % 2 ^ 64 ∧ t.hostMem = s.hostMem)

/-- A LOCKED base processes its oldest sample: a small one moves the integrator and the frequency within their limits, one
beyond the step limit is set aside while fewer than four are in a row. A submitted offset and an input edge add a
sample to the bases that take them, and to no other; a fifth waiting offset is counted instead, and an input that an
injection holds absent gives none. A timeout leaves holdover with the frequency at the integrator and a class-N fault.
A source of 0 leaves FREE. CAPTURE, the second boundary, the low word of the publication and the output pulse do what
they show, and no more. (R310, R311, R312, R313, R318, R325, R326, R327) -/
def Obligations.ServosAndBases : Prop :=
    (∀ (n : Four) (theta : Int) (rest : List Int) (s : State),
      (s.tb n).waiting = theta :: rest →
      s.tbState n = 2 →
      absInt theta ≤ (max 1 (s.fld (0x20000C + n.val * 0x40) 31 16) : Nat) * 65536 →
      ∃ t, exec (.servoSample n) s = .next t ∧ t.tb n = { s.tb n with waiting := rest, integ := clampInt (wrap64 ((s.tb n).integ - theta * 2 ^ 28 / 2 ^ (s.fld (0x200000 + n.val * 0x40) 21 16))) (-2147483648) 2147483647, freq := clampInt (clampInt (wrap64 ((s.tb n).integ - theta * 2 ^ 28 / 2 ^ (s.fld (0x200000 + n.val * 0x40) 21 16))) (-2147483648) 2147483647 - theta * 2 ^ 28 / 2 ^ (s.fld (0x200000 + n.val * 0x40) 27 22)) (-2147483648) 2147483647, lastSample := s.now, lastTheta := theta, good := 0 } ∧
      t.tbState n = 2 ∧ t.reg (0x200018 + n.val * 0x40) = lastOffs theta ∧ (∀ m, m ≠ n.val → t.tb m = s.tb m) ∧ OnlyTouches [.regs, .emitted, .time] s t) ∧
    (∀ (n : Four) (theta : Int) (rest : List Int) (s : State),
      (s.tb n).waiting = theta :: rest →
      s.tbState n = 2 →
      (max 1 (s.fld (0x20000C + n.val * 0x40) 31 16) : Nat) * 65536 < wrap64 (absInt theta) →
      s.fld (0x200004 + n.val * 0x40) 3 2 < 3 →
      ∃ t, exec (.servoSample n) s = .next t ∧ t.tb n = { s.tb n with waiting := rest } ∧ t.tbState n = 2 ∧ t.fld (0x200004 + n.val * 0x40) 3 2 = s.fld (0x200004 + n.val * 0x40) 3 2 + 1 ∧ (∀ o, o ≠ 0x200004 + n.val * 0x40 → t.reg o = s.reg o)) ∧
    (∀ (n : Four) (theta : Int) (rest : List Int) (s : State),
      (s.tb n).waiting = theta :: rest →
      s.tbState n ≠ 2 →
      absInt theta ≤ (max 1 (s.fld (0x20000C + n.val * 0x40) 31 16) : Nat) * 65536 →
      ∃ t, exec (.servoSample n) s = .next t ∧ (t.tb n).waiting = rest ∧ (t.tb n).val = (s.tb n).val ∧ (t.tb n).integ = clampInt (wrap64 ((s.tb n).integ - theta * 2 ^ 28 / 2 ^ (s.fld (0x200000 + n.val * 0x40) 21 16))) (-2147483648) 2147483647 ∧ (t.tb n).lastTheta = theta ∧ (s.tbState n ≠ 1 → t.tbState n = 1) ∧ (s.tbState n = 1 → (s.tb n).good < 15 → t.tbState n = 1) ∧
      t.fld (0x200004 + n.val * 0x40) 31 16 = (s.fld (0x200004 + n.val * 0x40) 31 16 + 1) % 2 ^ 16 ∧ t.reg (0x200018 + n.val * 0x40) = lastOffs theta ∧ (∀ m, m ≠ n.val → t.tb m = s.tb m) ∧ OnlyTouches [.regs, .emitted, .time] s t) ∧
    (∀ (n : Four) (theta : Int) (rest : List Int) (s : State),
      (s.tb n).waiting = theta :: rest →
      s.tbState n ≠ 2 →
      (max 1 (s.fld (0x20000C + n.val * 0x40) 31 16) : Nat) * 65536 < wrap64 (absInt theta) →
      ∃ t, exec (.servoSample n) s = .next t ∧ (t.tb n).waiting = rest ∧ (t.tb n).val = moveBase (s.tb n).val (-(theta * 2 ^ 32)) ∧ (t.tb n).freq = (s.tb n).freq ∧ (t.tb n).integ = (s.tb n).integ ∧ t.bit (0x200004 + n.val * 0x40) 4 = true ∧ (∀ m, m ≠ n.val → t.tb m = s.tb m) ∧ OnlyTouches [.regs, .emitted, .time] s t) ∧
    (∀ (n : Four) (hi : Word) (s : State),
      s.tbSource n = 1 →
      s.fc.injHeld ≠ some (srcChip 0x12 n) →
      (s.tb n).waiting.length < 4 →
      ∃ t, exec (.tbOffsetSubmit n hi) s = .next t ∧ t.tb n = { s.tb n with waiting := (s.tb n).waiting ++ [signedBits (hi.toNat * 2 ^ 32 + (s.tb n).offsLo.toNat) 64] } ∧ (∀ m, m ≠ n.val → t.tb m = s.tb m) ∧ OnlyTouches [.time] s t) ∧
    (∀ (n : Four) (hi : Word) (s : State),
      s.tbSource n = 1 →
      s.fc.injHeld ≠ some (srcChip 0x12 n) →
      4 ≤ (s.tb n).waiting.length →
      ∃ t, exec (.tbOffsetSubmit n hi) s = .next t ∧ t.time = s.time ∧ t.fld (0x200004 + n * 0x40) 15 8 = min (s.fld (0x200004 + n * 0x40) 15 8 + 1) 255 ∧ (∀ o, o ≠ 0x200004 + n.val * 0x40 → t.reg o = s.reg o) ∧ OnlyTouches [.regs] s t) ∧
    (∀ (n : Four) (hi : Word) (s : State),
      s.tbSource n ≠ 1 ∨ s.fc.injHeld = some (srcChip 0x12 n) →
      ∃ t, exec (.tbOffsetSubmit n hi) s = .next t ∧ t = s) ∧
    (∀ (i : Fin 2) (s : State),
      s.fc.injHeld ≠ some (srcChip 0x12 5) →
      ∃ t, exec (.ppsInEdge i) s = .next t ∧ (∀ n, n < 4 → s.tbSource n ≠ 2 + i.val → t.tb n = s.tb n) ∧ (∀ n, n < 4 → s.tbSource n = 2 + i.val → absInt (s.ppsTheta n i) < 100000000 * 65536 → s.fc.injHeld ≠ some (srcChip 0x12 n) → (s.tb n).waiting.length < 4 →
        (t.tb n).waiting = (s.tb n).waiting ++ [s.ppsTheta n i]) ∧ OnlyTouches [.regs, .time] s t) ∧
    (∀ (i : Fin 2) (s : State),
      s.fc.injHeld = some (srcChip 0x12 5) →
      exec (.ppsInEdge i) s = .next s) ∧
    (∀ (n : Four) (s : State),
      s.tbState n = 1 ∨ s.tbState n = 2 →
      ∃ t, exec (.tbHoldoverTimeout n) s = .next t ∧ (t.tb n).freq = (s.tb n).integ ∧ (t.tb n).val = (s.tb n).val ∧ t.tbState n = 3 ∧ (t.source (srcChip 0x12 n)).cause = true ∧ (t.source (srcChip 0x12 n)).cls = .n ∧ t.chip = s.chip) ∧
    (∀ (n : Four) (v : Word) (s : State),
      getBits v 31 28 = 0 →
      s.closed 0x200000 = false →
      ∃ t, exec (.tbSrcWrite n v) s = .next t ∧ t.tbState n = 0 ∧ t.tbSource n = 0 ∧ (t.tb n).val = (s.tb n).val ∧ t.chip = s.chip) ∧
    (∀ (n : Four) (v : Word) (s : State),
      getBits v 31 28 ≠ 0 →
      getBits v 31 28 < 8 →
      s.closed 0x200000 = false →
      ∃ t, exec (.tbSrcWrite n v) s = .next t ∧ t.tbSource n = getBits v 31 28 ∧ t.tbState n = s.tbState n ∧ t.time = s.time ∧ t.chip = s.chip) ∧
    (∀ (v : Word) (s : State),
      getBits v 0 0 = 1 →
      s.closed 0x200100 = false →
      ∃ t, exec (.tbSnapshot v) s = .next t ∧ ∀ x, x < 5 → t.reg (0x200110 + x * 0x10) = BitVec.ofNat 32 (secOf (if x = 4 then s.cb else (s.tb x).val)) ∧ t.reg (0x200118 + x * 0x10) = BitVec.ofNat 32 (nsOf (if x = 4 then s.cb else (s.tb x).val)) ∧
        t.reg (0x20011C + x * 0x10) = BitVec.ofNat 32 (fracOf (if x = 4 then s.cb else (s.tb x).val))) ∧
    (∀ (n : Four) (v : Word) (s : State),
      ((s.tb n).waiting = [] → exec (.servoSample n) s = .next s) ∧ (s.tbState n = 0 ∨ s.tbState n = 3 → exec (.tbHoldoverTimeout n) s = .next s) ∧ (getBits v 0 0 = 0 → exec (.tbSnapshot v) s = .next s) ∧ (s.bit 0x2001C0 31 = false ∨ s.tbState s.ppsBase = 0 → exec (.ppsOutPulse) s = .next s) ∧ (s.time.ppsOut = false → exec (.ppsOutEnd) s = .next s)) ∧
    (∀ (s : State),
      ∃ t, exec (.tbSecondPublish) s = .next t ∧ t.time = { s.time with pubSec := secOf (s.tb 0).val, pubN32 := BitVec.ofNat 32 (secOf (s.tb 0).val * 1000000000) } ∧ OnlyTouches [.time] s t) ∧
    (∀ (s : State),
      s.closed 0x200180 = false →
      ∃ t, exec (.tbPubRead) s = .next t ∧ t.readData = BitVec.ofNat 32 s.time.pubSec ∧ t.heldWord 0x200184 = BitVec.ofNat 32 (s.time.pubSec / 2 ^ 32 % 65536) ∧ t.heldWord 0x200188 = s.time.pubN32 ∧ (∀ o, o ≠ 0x200184 → o ≠ 0x200188 → t.heldWord o = s.heldWord o) ∧ OnlyTouches [.readData, .holding] s t) ∧
    (∀ (s : State),
      s.bit 0x2001C0 31 = true →
      s.tbState s.ppsBase ≠ 0 →
      ∃ t, exec (.ppsOutPulse) s = .next t ∧ t = { s with time := { s.time with ppsOut := true }, emitted := .pin "PPS_OUT" true :: s.emitted }) ∧
    (∀ (s : State),
      s.time.ppsOut = true →
      ∃ t, exec (.ppsOutEnd) s = .next t ∧ t = { s with time := { s.time with ppsOut := false }, emitted := .pin "PPS_OUT" false :: s.emitted })

/-- A change of source leaves the cadence base where it was and latches the class-N fault of a switchover; a word without
one changes the rate alone. A slew whose next move reaches it ends with no residual, and none ends before; ALIGN with
no slot armed leaves no residual, changes the source and the rate of its word, and with a slot armed is refused with
CAD_CTRL as it was. A slot register that passes the checks takes its word; a refused write shows the slot and the
cause and changes no slot. A slot with TEL_ROLL that fires alone rolls telemetry and shows FIRED; in SAFE it is
missed, and a one-shot slot is disarmed. (R314, R315, R316, R320, R322, R324, R328, R329) -/
def Obligations.CadenceSlots : Prop :=
    (∀ (v : Word) (s : State),
      getBits v 8 8 ≠ s.fld 0x201000 8 8 →
      getBits v 31 31 = 0 →
      s.closed 0x201000 = false →
      ∃ t, exec (.cadSrcWrite v) s = .next t ∧ t.cb = s.cb ∧ t.following = getBits v 8 8 ∧ (t.tb 0 = s.tb 0 ∧ t.tb 1 = s.tb 1) ∧ (t.source (srcChip 0x12 4)).cause = true ∧ (t.source (srcChip 0x12 4)).cls = .n ∧ t.chip = s.chip) ∧
    (∀ (v : Word) (s : State),
      getBits v 8 8 = s.fld 0x201000 8 8 →
      getBits v 31 31 = 0 →
      s.closed 0x201000 = false →
      ∃ t, exec (.cadSrcWrite v) s = .next t ∧ t.cb = s.cb ∧ t.following = s.following ∧ t.time = s.time ∧ t.fld 0x201000 3 0 = getBits v 3 0 ∧ OnlyTouches [.regs] s t) ∧
    (∀ (s : State),
      slewed s.time.d s.slewPpm (tbStep (s.tb s.following)) = 0 →
      ∃ t, exec (.cadSlewEnd) s = .next t ∧ t.cb = moveBase (s.tb s.following).val 0 ∧ t = { s with time := { s.time with d := 0 } }) ∧
    (∀ (s : State),
      slewed s.time.d s.slewPpm (tbStep (s.tb s.following)) ≠ 0 →
      ∃ t, exec (.cadSlewEnd) s = .next t ∧ t = s) ∧
    (∀ (v : Word) (s : State),
      s.closed 0x201000 = false →
      getBits v 31 31 = 1 →
      (∀ i, i < 64 → s.slotArmed i = false) →
      ∃ t, exec (.cadAlign v) s = .next t ∧ t.time.d = 0 ∧ (∀ m, m < 4 → t.tb m = s.tb m) ∧ t.fld 0x201000 8 8 = getBits v 8 8 ∧ t.fld 0x201000 3 0 = getBits v 3 0 ∧ t.chip = s.chip) ∧
    (∀ (v : Word) (i : Nat) (s : State),
      s.closed 0x201000 = false →
      getBits v 31 31 = 1 →
      i < 64 →
      s.slotArmed i = true →
      ∃ t, exec (.cadAlign v) s = .next t ∧ t.time = s.time ∧ t.reg 0x201000 = s.reg 0x201000 ∧ (t.source (srcChip 0x12 4)).cause = true ∧ (t.source (srcChip 0x12 4)).cls = .n ∧ t.chip = s.chip) ∧
    (∀ (i : Sixtyfour) (r : Fin 5) (v : Word) (host : Bool) (s : State),
      (slotWriteCause s (s.setReg (0x202000 + i.val * 0x20 + r.val * 4) (v &&& (if r.val = 1 then 0xFFFF else if r.val = 2 then 0x3FFFFFFF else if r.val = 4 then 0x8000FF0F else 0xFFFFFFFF))) i r v host = 0) →
      host = false ∨ s.closed (0x202000 + i.val * 0x20 + r.val * 4) = false →
      ∃ t, exec (.cadSlotWrite i r v host) s = .next t ∧ t.reg (0x202000 + i.val * 0x20 + r.val * 4) = v &&& (if r.val = 1 then 0xFFFF else if r.val = 2 then 0x3FFFFFFF else if r.val = 4 then 0x8000FF0F else 0xFFFFFFFF) ∧ (∀ o, o ≠ 0x202000 + i.val * 0x20 + r.val * 4 → t.reg o = s.reg o) ∧ OnlyTouches [.regs] s t) ∧
    (∀ (i : Sixtyfour) (r : Fin 5) (v : Word) (host : Bool) (s : State),
      (slotWriteCause s (s.setReg (0x202000 + i.val * 0x20 + r.val * 4) (v &&& (if r.val = 1 then 0xFFFF else if r.val = 2 then 0x3FFFFFFF else if r.val = 4 then 0x8000FF0F else 0xFFFFFFFF))) i r v host ≠ 0) →
      host = false ∨ s.closed (0x202000 + i.val * 0x20 + r.val * 4) = false →
      ∃ t, exec (.cadSlotWrite i r v host) s = .next t ∧ t.bit 0x201004 31 = true ∧ t.fld 0x201004 30 28 = slotWriteCause s (s.setReg (0x202000 + i.val * 0x20 + r.val * 4) (v &&& (if r.val = 1 then 0xFFFF else if r.val = 2 then 0x3FFFFFFF else if r.val = 4 then 0x8000FF0F else 0xFFFFFFFF))) i r v host ∧ t.fld 0x201004 27 22 = i.val ∧ (∀ o, o ≠ 0x201004 → t.reg o = s.reg o) ∧ OnlyTouches [.regs] s t) ∧
    (∀ (slots : DWord) (s : State),
      (∀ i, i < 64 → (slots.getLsbD i && s.slotArmed i) = false) →
      ∃ t, exec (.cadSlotFire slots) s = .next t ∧ t = s) ∧
    (∀ (slots : DWord) (i : Nat) (s : State),
      i < 64 →
      ((List.range 64).filter (fun i => slots.getLsbD i && s.slotArmed i) = [i]) →
      s.marksFire = true →
      s.slotEvent i = 4 →
      ∃ t, exec (.cadSlotFire slots) s = .next t ∧ t.tel = { s.tel with histLive := [], histFrozen := s.tel.histLive, digLive := [], digFrozen := s.tel.digLive } ∧ t.bit (0x201010 + i / 32 * 4) (i % 32) = true ∧ (s.slotPeriod i = 0 → t.slotArmed i = false)) ∧
    (∀ (slots : DWord) (i : Nat) (s : State),
      i < 64 →
      ((List.range 64).filter (fun i => slots.getLsbD i && s.slotArmed i) = [i]) →
      s.chip.mode = .safe →
      s.progs.joint ≠ some i →
      ∃ t, exec (.cadSlotFire slots) s = .next t ∧ t.tel = s.tel ∧ t.bit (0x201020 + i / 32 * 4) (i % 32) = true ∧ (s.slotPeriod i = 0 → t.slotArmed i = false) ∧ t.chip = s.chip)

/-- An ARM that no cause forbids arms the slot and shows it; one that a cause forbids shows the cause with a class-N fault
and arms nothing. A CANCEL before the check is noted, and a later one does nothing. A check that finds no cause lets
the joint pass; one that finds a cause disarms it with a class-N fault whose DETAIL names the cause. NOW in START-UP
and TEST with nothing against it flips the active generation, exchanges the versions and counts the flip; with a cause
against it, it shows the cause and flips nothing; in SERVICE it is refused. (R110, R112, R113, R114, R117, R118) -/
def Obligations.JointsFlipTheGenerations : Prop :=
    (∀ (v : Word) (s : State),
      getBits v 8 8 = 1 →
      getBits v 9 9 = 0 →
      getBits v 11 11 = 0 →
      s.progs.joint = none →
      (s.writeOrdinary 0x200 v).armCause ((s.writeOrdinary 0x200 v).fld 0x200 5 0) = 0 →
      ∃ t, exec (.jointArm v) s = .next t ∧ t.progs.joint = some ((s.writeOrdinary 0x200 v).fld 0x200 5 0) ∧ t.progs.jointChecked = false ∧ t.slotArmed ((s.writeOrdinary 0x200 v).fld 0x200 5 0) = true ∧ t.bit 0x200 8 = true ∧ t.fld 0x204 2 1 = 1 ∧ t.activeGen = s.activeGen) ∧
    (∀ (v : Word) (s : State),
      getBits v 8 8 = 1 →
      getBits v 9 9 = 0 →
      getBits v 11 11 = 0 →
      s.progs.joint = none →
      (s.writeOrdinary 0x200 v).armCause ((s.writeOrdinary 0x200 v).fld 0x200 5 0) ≠ 0 →
      ∃ t, exec (.jointArm v) s = .next t ∧ t.progs = s.progs ∧ t.bit 0x204 3 = true ∧ t.fld 0x204 7 4 = (s.writeOrdinary 0x200 v).armCause ((s.writeOrdinary 0x200 v).fld 0x200 5 0) ∧ t.activeGen = s.activeGen ∧ (t.source loadSource).cause = true ∧ (t.source loadSource).cls = .n ∧ t.chip = s.chip) ∧
    (∀ (v : Word) (s : State),
      getBits v 8 8 = 0 →
      getBits v 9 9 = 1 →
      getBits v 11 11 = 0 →
      s.progs.joint = none ∨ s.progs.jointChecked = true →
      ∃ t, exec (.jointCancel v) s = .next t ∧ t.progs = s.progs ∧ t.activeGen = s.activeGen ∧ t.chip = s.chip) ∧
    (∀ (v : Word) (s : State),
      getBits v 8 8 = 0 →
      getBits v 9 9 = 0 →
      getBits v 11 11 = 1 →
      s.chip.mode = .startUp ∨ s.chip.mode = .test →
      s.checkCause true ≠ 0 →
      ∃ t, exec (.jointNow v) s = .next t ∧ t.progs.joint = none ∧ t.activeGen = s.activeGen ∧ t.bit 0x204 3 = true ∧ t.fld 0x204 7 4 = s.checkCause true ∧ t.chip = s.chip ∧ (t.source loadSource).cause = true ∧ (t.source loadSource).cls = .n) ∧
    (∀ (s : State),
      s.progs.joint = none ∨ s.progs.jointChecked = true →
      exec (.jointCheck) s = .next s) ∧
    (∀ (v : Word) (s : State),
      getBits v 8 8 = 0 →
      getBits v 9 9 = 1 →
      getBits v 11 11 = 0 →
      s.progs.joint.isSome = true →
      s.progs.jointChecked = false →
      ∃ t, exec (.jointCancel v) s = .next t ∧ t.progs = { s.progs with jointCancel := true } ∧ t.activeGen = s.activeGen ∧ t.chip = s.chip) ∧
    (∀ (v : Word) (s : State),
      getBits v 8 8 = 0 →
      getBits v 9 9 = 0 →
      getBits v 11 11 = 1 →
      s.chip.mode = .startUp ∨ s.chip.mode = .test →
      s.checkCause true = 0 →
      ∃ t, exec (.jointNow v) s = .next t ∧ t.activeGen = !s.activeGen ∧ t.fld 0x204 31 16 = (s.fld 0x204 31 16 + 1) % 2 ^ 16 ∧ t.fld 0x100 23 0 = s.fld 0x10C 23 0 ∧ t.fld 0x10C 23 0 = s.fld 0x100 23 0 ∧ t.reg 0x104 = s.reg 0x110 ∧ t.reg 0x110 = s.reg 0x104 ∧ t.chip = s.chip) ∧
    (∀ (v : Word) (s : State),
      getBits v 8 8 = 0 →
      getBits v 9 9 = 0 →
      getBits v 11 11 = 1 →
      s.chip.mode = .service →
      ∃ t, exec (.jointNow v) s = .next t ∧ t.activeGen = s.activeGen ∧ t.progs = s.progs ∧ t.chip = s.chip ∧ (t.source loadSource).cause = true ∧ (t.source loadSource).cls = .n ∧ (t.source loadSource).detail = 0x200) ∧
    (∀ (s : State),
      s.progs.joint.isSome = true →
      s.progs.jointChecked = false →
      s.checkCause false = 0 →
      ∃ t, exec (.jointCheck) s = .next t ∧ t = { s with progs := { s.progs with jointChecked := true } }) ∧
    (∀ (s : State),
      s.progs.joint.isSome = true →
      s.progs.jointChecked = false →
      s.checkCause false ≠ 0 →
      ∃ t, exec (.jointCheck) s = .next t ∧ t.progs.joint = none ∧ t.activeGen = s.activeGen ∧ (t.source loadSource).cause = true ∧ (t.source loadSource).cls = .n ∧ (∀ x, x ≠ loadSource → t.source x = s.source x) ∧ (t.source loadSource).detail = BitVec.ofNat 64 (s.checkCause false * 2 ^ 28))

/-- An accepted START shows BUSY and keeps the shadow's state; one during a load is a class-N fault, and one in a state or
at a shadow that forbids it ends in ERROR with its code. A load whose image cannot be read or fails a check ends in
ERROR with the shadow as it was; one that passes ends in DONE with READY or INCOMPATIBLE when every copy reads back
right, and in ERROR with the shadow DAMAGED and a class-S fault when one does not; none changes which generation is
active or a table. The scrubber leaves a good word, counts one that it corrects, writes one that cannot be corrected
back from a good copy with a class-N fault, and with no good copy leaves the shadow DAMAGED, or blames the pipeline
for an active word, with a class-S fault. A read of an item's lowest register captures the item. A write below its
last register stages, the last one of a table row in TEST commits it in the span selected, and a write of a store item
in SERVICE is rejected. (R91, R98, R104, R105, R106, R127, R129, R130) -/
def Obligations.LoadsAndTheWindow : Prop :=
    (∀ (v : Word) (s : State),
      getBits v 0 0 = 1 →
      s.loadBusy = false →
      s.chip.mode ≠ .recovery →
      s.chip.mode ≠ .safe →
      s.progs.joint = none →
      s.shadowState ≠ 5 →
      ∃ t, exec (.loadStart v) s = .next t ∧ t.loadBusy = true ∧ t.shadowState = 1 ∧ t.progs = { s.progs with loadPrev := s.shadowState, loadCust := decide (getBits v 1 1 = 1) } ∧ t.activeGen = s.activeGen ∧ t.chip = s.chip) ∧
    (∀ (v : Word) (s : State),
      getBits v 0 0 = 0 →
      ∃ t, exec (.loadStart v) s = .next t ∧ t.shadowState = s.shadowState ∧ t.progs = s.progs ∧ t.activeGen = s.activeGen ∧ OnlyTouches [.regs] s t) ∧
    (∀ (v : Word) (s : State),
      getBits v 0 0 = 1 →
      s.loadBusy = true →
      ∃ t, exec (.loadStart v) s = .next t ∧ t.loadBusy = true ∧ t.shadowState = s.shadowState ∧ t.progs = s.progs ∧ (t.source loadSource).cause = true ∧ (t.source loadSource).cls = .n) ∧
    (∀ (v : Word) (s : State),
      getBits v 0 0 = 1 →
      s.loadBusy = false →
      s.chip.mode = .recovery ∨ s.chip.mode = .safe ∨ s.progs.joint.isSome = true ∨ s.shadowState = 5 →
      ∃ t, exec (.loadStart v) s = .next t ∧ t.loadBusy = false ∧ t.fld 0x12C 1 0 = 3 ∧ t.fld 0x12C 9 2 = (if s.chip.mode = .recovery ∨ s.chip.mode = .safe then LoadCode.deviceState else LoadCode.targetBusy).number % 256 ∧ t.shadowState = s.shadowState ∧ t.progs = s.progs) ∧
    (∀ (img : Option (List Byte)) (bad : Option (Span × Pass × PipeNo)) (s : State),
      s.loadBusy = false →
      exec (.loadComplete img bad) s = .next s) ∧
    (∀ (off : Offset) (v : Word) (s : State),
      s.closed 0x3000000 = false →
      winReg (winSelOf (s.reg 0x180)) (off.toNat / 4 * 4) = none →
      exec (.windowWrite off v) s = .next s ∧ exec (.windowRead off) s = .next { s with readData := 0 }) ∧
    (∀ (bad : Option (Span × Pass × PipeNo)) (s : State),
      s.loadBusy = true →
      ∃ t, exec (.loadComplete none bad) s = .next t ∧ t.loadBusy = false ∧ t.fld 0x12C 1 0 = 3 ∧ t.shadowState = s.progs.loadPrev % 8 ∧ t.progs = s.progs ∧ t.activeGen = s.activeGen) ∧
    (∀ (img : List Byte) (bad : Option (Span × Pass × PipeNo)) (s : State),
      s.loadBusy = true →
      (s.checkImage img).1 ≠ .ok →
      ∃ t, exec (.loadComplete (some img) bad) s = .next t ∧ t.loadBusy = false ∧ t.fld 0x12C 1 0 = 3 ∧ t.fld 0x12C 9 2 = (s.checkImage img).1.number % 256 ∧ t.shadowState = s.progs.loadPrev % 8 ∧ t.progs = s.progs) ∧
    (∀ (img : List Byte) (s : State),
      s.loadBusy = true →
      (s.checkImage img).1 = .ok →
      ∃ t, exec (.loadComplete (some img) none) s = .next t ∧ t.loadBusy = false ∧ t.fld 0x12C 1 0 = 2 ∧ (t.shadowState = 2 ∨ t.shadowState = 3) ∧ t.activeGen = s.activeGen ∧ t.chip = s.chip ∧ t.tables = s.tables) ∧
    (∀ (img : List Byte) (n : Span) (ps : Pass) (p : PipeNo) (s : State),
      s.loadBusy = true →
      (s.checkImage img).1 = .ok →
      ∃ t, exec (.loadComplete (some img) (some (n, ps, p))) s = .next t ∧ t.loadBusy = false ∧ t.fld 0x12C 1 0 = 3 ∧ t.shadowState = 4 ∧ t.activeGen = s.activeGen ∧ t.tables = s.tables ∧ (t.source (srcSpan n (pipeBlock ps p) 0x3F)).cause = true ∧ (t.source (srcSpan n (pipeBlock ps p) 0x3F)).cls = .s) ∧
    (∀ (w : StoreRef) (d : Fin 16) (s : State),
      s.injects (storeSourceOf w) = none →
      ∃ t, exec (.storeScrub w .uncorrectable (some d)) s = .next t ∧ t.store (storeCopyOf w) (storeKeyOf w) = s.store (donorCopy w d) (storeKeyOf w) ∧ t.progs.base = s.progs.base ∧ t.chip = s.chip ∧ (t.source (storeSourceOf w)).cause = true ∧ (t.source (storeSourceOf w)).cls = .n) ∧
    (∀ (w : StoreRef) (g : Option (Fin 16)) (s : State),
      s.injects (storeSourceOf w) = none →
      ∃ t, exec (.storeScrub w .good g) s = .next t ∧ t = s) ∧
    (∀ (w : StoreRef) (g : Option (Fin 16)) (s : State),
      s.injects (storeSourceOf w) = none →
      ∃ t, exec (.storeScrub w .single g) s = .next t ∧ t.progs = s.progs ∧ t.shadowState = s.shadowState ∧ (storeOfSpan w = false → t.counter (cPipe (storeCopyOf w) 19) = (s.counter (cPipe (storeCopyOf w) 19) + 1) % 2 ^ 64)) ∧
    (∀ (w : StoreRef) (s : State),
      s.injects (storeSourceOf w) = none →
      w.genB = s.activeGen →
      storeOfSpan w = false →
      ∃ t, exec (.storeScrub w .uncorrectable none) s = .next t ∧ t.progs = s.progs ∧ t.activeGen = s.activeGen ∧ (t.source (srcSpan w.span (pipeBlock (storePass w) w.pipe) (if storeStaged w then w.stage else 0x3F))).cause = true ∧ (t.source (srcSpan w.span (pipeBlock (storePass w) w.pipe) (if storeStaged w then w.stage else 0x3F))).cls = .s) ∧
    (∀ (w : StoreRef) (s : State),
      s.injects (storeSourceOf w) = none →
      w.genB = !s.activeGen →
      ∃ t, exec (.storeScrub w .uncorrectable none) s = .next t ∧ t.shadowState = 4 ∧ t.activeGen = s.activeGen ∧ t.progs.base = s.progs.base ∧ (t.source (storeSourceOf w)).cause = true ∧ (t.source (storeSourceOf w)).cls = .s) ∧
    (∀ (off : Offset) (x : WinReg) (s : State),
      s.closed 0x3000000 = false →
      winReg (winSelOf (s.reg 0x180)) (off.toNat / 4 * 4) = some x →
      x.k = 0 →
      ∃ t, exec (.windowRead off) s = .next t ∧ t.readData = winPart x (s.winWhole (winSelOf (s.reg 0x180)) x.item) ∧ t.progs = { s.progs with captured := some (winId (winSelOf (s.reg 0x180)) x.item, s.winWhole (winSelOf (s.reg 0x180)) x.item) } ∧ OnlyTouches [.readData, .progs] s t) ∧
    (∀ (off : Offset) (x : WinReg) (v : Nat) (s : State),
      s.closed 0x3000000 = false →
      winReg (winSelOf (s.reg 0x180)) (off.toNat / 4 * 4) = some x →
      x.k ≠ 0 →
      s.progs.captured = some (winId (winSelOf (s.reg 0x180)) x.item, v) →
      ∃ t, exec (.windowRead off) s = .next t ∧ t.readData = winPart x v ∧ OnlyTouches [.readData] s t) ∧
    (∀ (off : Offset) (v : Word) (x : WinReg) (u row : Nat) (s : State),
      s.closed 0x3000000 = false →
      winReg (winSelOf (s.reg 0x180)) (off.toNat / 4 * 4) = some x →
      x.item = .sram u row →
      x.k < 7 →
      s.chip.mode = .test →
      ∃ t, exec (.windowWrite off v) s = .next t ∧ t.progs = { s.progs with staging := some (winId (winSelOf (s.reg 0x180)) x.item, winPut x (match s.progs.staging with | some (i, w) => if i = winId (winSelOf (s.reg 0x180)) x.item then w else s.winData (winSelOf (s.reg 0x180)) x.item | none => s.winData (winSelOf (s.reg 0x180)) x.item) v) } ∧ OnlyTouches [.progs] s t) ∧
    (∀ (off : Offset) (v : Word) (x : WinReg) (u row w : Nat) (s : State),
      s.closed 0x3000000 = false →
      winReg (winSelOf (s.reg 0x180)) (off.toNat / 4 * 4) = some x →
      x.item = .sram u row →
      x.k = 7 →
      s.progs.staging = some (winId (winSelOf (s.reg 0x180)) x.item, w) →
      (winSelOf (s.reg 0x180)).bcast = false →
      s.chip.mode = .test →
      ∃ t, exec (.windowWrite off v) s = .next t ∧ t.sram (winSelOf (s.reg 0x180)).span u row = winPut x w v % 2 ^ 256 ∧ t.progs = { s.progs with staging := none } ∧ OnlyTouches [.progs, .tables] s t) ∧
    (∀ (off : Offset) (v : Word) (x : WinReg) (kind stage index : Nat) (s : State),
      s.closed 0x3000000 = false →
      winReg (winSelOf (s.reg 0x180)) (off.toNat / 4 * 4) = some x →
      x.item = .store kind stage index →
      winLast x.item = some 17 →
      x.k ≤ 17 →
      s.chip.mode = .service →
      ∃ t, exec (.windowWrite off v) s = .next t ∧ t.progs = s.progs ∧ t.tables = s.tables ∧ t.chip = s.chip ∧ (t.source loadSource).cause = true ∧ (t.source loadSource).cls = .n ∧ (∀ x, x ≠ loadSource → t.source x = s.source x) ∧ (t.source loadSource).detail = BitVec.ofNat 64 ((off.toNat / 4 * 4) % 2 ^ 26))

/-- A start takes the oldest request with cleared registers in the active generation. LD, ALU and HASH write their working
registers alone. STAGE writes a free row in every span that takes part with both V bits 0, and no row where one is not
free. FLIP writes the whole item of its own span when the control word is the expected one and no rule forbids it, a
failed compare only counts, and a forbidden one writes nothing; BFLIP does so in every span that takes part. A branch
goes to its target; HALT counts the routine, completes its command and leaves an engine that no command owns idle.
With no routine running the instructions change nothing. (R121, R122, R109, R110, R112, R113, R152, R161) -/
def Obligations.TrestleInstructions : Prop :=
    (∀ (sp : Span) (q : TrestleReq) (rest : List TrestleReq) (s : State),
      (s.engine sp).queued = q :: rest →
      (s.engine sp).state = 0 →
      s.stopSet sp = false →
      ∃ t, exec (.trestleRoutineStart sp) s = .next t ∧ t.engine sp = { s.engine sp with state := 1, gen := s.activeGen, entry := q.entry, pc := q.entry, regs := [], ctx := false, touches := writesGen q.work s.shadowGen, late := s.progs.joint.isSome, queued := rest, owner := q.ring, work := q.work, acted := false } ∧ (∀ m, m ≠ sp.val → t.engine m = s.engine m) ∧ OnlyTouches [.trestle] s t) ∧
    (∀ (sp : Span) (item : TableRef) (r : Fin 16) (s : State),
      s.routineRuns sp = true →
      ∃ t, exec (.trestleLd sp item r) s = .next t ∧ (t.engine sp).pc = ((s.engine sp).pc + 1) % 4096 ∧ (t.engine sp).state = 1 ∧ (∀ k, k < (s.itemWords sp item).length → (t.engine sp).reg (r.val + k) = (s.itemWords sp item).getD k 0) ∧ (∀ m, m ≠ sp.val → t.engine m = s.engine m) ∧ OnlyTouches [.trestle] s t) ∧
    (∀ (sp : Span) (op : Byte) (dst a b : Fin 16) (s : State),
      s.routineRuns sp = true →
      ∃ t, exec (.trestleAlu sp op dst a b) s = .next t ∧ (t.engine sp).pc = ((s.engine sp).pc + 1) % 4096 ∧ (t.engine sp).state = 1 ∧ (t.engine sp).reg dst = Config.trestleAlu op ((s.engine sp).reg a) ((s.engine sp).reg b) ∧ (∀ k : Fin 16, k ≠ dst → (t.engine sp).reg k = (s.engine sp).reg k) ∧ (∀ m, m ≠ sp.val → t.engine m = s.engine m) ∧ OnlyTouches [.trestle] s t) ∧
    (∀ (sp : Span) (table : Fin 256) (hsel : Fin 8) (key dst : Fin 16) (s : State),
      s.routineRuns sp = true →
      ∃ t, exec (.trestleHash sp table hsel key dst) s = .next t ∧ (t.engine sp).pc = ((s.engine sp).pc + 1) % 4096 ∧ (t.engine sp).state = 1 ∧ (∀ j, j < 4 → (t.engine sp).reg (dst.val + j) = BitVec.ofNat 64 ((hmix (s.exactHash sp hsel ((s.engine sp).keyBytes key (s.geometry sp table).keyBytes)) (BitVec.ofNat 32 j)).toNat % (2048 * (s.geometry sp table).m))) ∧ (∀ m, m ≠ sp.val → t.engine m = s.engine m) ∧ OnlyTouches [.trestle] s t) ∧
    (∀ (sp : Span) (item : TableRef) (data : ItemData) (s : State),
      s.routineRuns sp = true →
      (s.spansUp.all (fun n => SoundItem s n item) = true) →
      (s.spansUp.all (fun n => s.itemFree n item) = true) →
      ∃ t, exec (.trestleStage sp item data) s = .next t ∧ (t.engine sp).pc = ((s.engine sp).pc + 1) % 4096 ∧ (t.engine sp).state = 1 ∧ (∀ n ∈ s.spansUp, Holds s t n item (s.unvalid n item data)) ∧ OnlyTouches [.tables, .trestle] s t) ∧
    (∀ (sp : Span) (item : TableRef) (data : ItemData) (s : State),
      s.routineRuns sp = true →
      (s.spansUp.all (fun n => s.itemFree n item) = false) →
      ∃ t, exec (.trestleStage sp item data) s = .next t ∧ (t.engine sp).pc = ((s.engine sp).pc + 1) % 4096 ∧ (t.engine sp).state = 1 ∧ OnlyTouches [.trestle] s t) ∧
    (∀ (sp : Span) (item : TableRef) (expected : Word) (data : ItemData) (s : State),
      s.routineRuns sp = true →
      SoundItem s sp item = true →
      s.itemCtl sp item = expected →
      s.flipRefused sp sp item data = false →
      ∃ t, exec (.trestleFlip sp item expected data) s = .next t ∧ (t.engine sp).pc = ((s.engine sp).pc + 1) % 4096 ∧ (t.engine sp).state = 1 ∧ Holds s t sp item (data) ∧ (∀ m, m ≠ sp.val → t.engine m = s.engine m) ∧ OnlyTouches [.tables, .trestle] s t) ∧
    (∀ (sp : Span) (item : TableRef) (expected : Word) (data : ItemData) (s : State),
      s.routineRuns sp = true →
      SoundItem s sp item = true →
      s.itemCtl sp item = expected →
      s.flipRefused sp sp item data = false →
      ∃ t, exec (.trestleFlip sp item expected data) s = .next t ∧ (∀ n u k, u < 128 → k < 2048 → n ≠ sp.val ∨ k ≠ item.row.val → t.sram n u k = s.sram n u k)) ∧
    (∀ (sp : Span) (item : TableRef) (expected : Word) (data : ItemData) (s : State),
      s.routineRuns sp = true →
      s.itemCtl sp item ≠ expected →
      ∃ t, exec (.trestleFlip sp item expected data) s = .next t ∧ (t.engine sp).pc = ((s.engine sp).pc + 1) % 4096 ∧ (t.engine sp).state = 1 ∧ t.counter (cSpan sp 12) = (s.counter (cSpan sp 12) + 1) % 2 ^ 64 ∧ OnlyTouches [.counters, .trestle] s t) ∧
    (∀ (sp : Span) (item : TableRef) (bits expected : Word) (data : ItemData) (s : State),
      s.routineRuns sp = true →
      (s.spansUp.all (fun n => SoundItem s n item) = true) →
      (∀ n ∈ s.spansUp, s.itemCtl n item &&& bits = expected &&& bits) →
      (∀ n ∈ s.spansUp, s.flipRefused sp n item data = false) →
      ∃ t, exec (.trestleBflip sp item bits expected data) s = .next t ∧ (t.engine sp).pc = ((s.engine sp).pc + 1) % 4096 ∧ (t.engine sp).state = 1 ∧ (∀ n ∈ s.spansUp, Holds s t n item (data)) ∧ OnlyTouches [.tables, .trestle] s t) ∧
    (∀ (sp : Span) (item : TableRef) (bits expected : Word) (data : ItemData) (n : Nat) (s : State),
      s.routineRuns sp = true →
      n ∈ s.spansUp →
      s.itemCtl n item &&& bits ≠ expected &&& bits →
      ∃ t, exec (.trestleBflip sp item bits expected data) s = .next t ∧ (t.engine sp).pc = ((s.engine sp).pc + 1) % 4096 ∧ (t.engine sp).state = 1 ∧ t.counter (cSpan sp 12) = (s.counter (cSpan sp 12) + 1) % 2 ^ 64 ∧ OnlyTouches [.counters, .trestle] s t) ∧
    (∀ (sp : Span) (target : BitVec 12) (s : State),
      s.routineRuns sp = true →
      ∃ t, exec (.trestleBranch sp target) s = .next t ∧ t.engine sp = { s.engine sp with pc := target.toNat } ∧ (∀ m, m ≠ sp.val → t.engine m = s.engine m) ∧ OnlyTouches [.trestle] s t) ∧
    (∀ (sp : Span) (item : TableRef) (expected : Word) (data : ItemData) (s : State),
      s.routineRuns sp = true →
      s.itemCtl sp item = expected →
      s.flipRefused sp sp item data = true →
      ∃ t, exec (.trestleFlip sp item expected data) s = .next t ∧ (t.engine sp).pc = ((s.engine sp).pc + 1) % 4096 ∧ (t.engine sp).state = 1 ∧ OnlyTouches [.trestle] s t) ∧
    (∀ (sp : Span) (item : TableRef) (bits expected : Word) (data : ItemData) (n : Nat) (s : State),
      s.routineRuns sp = true →
      (∀ n ∈ s.spansUp, s.itemCtl n item &&& bits = expected &&& bits) →
      n ∈ s.spansUp →
      s.flipRefused sp n item data = true →
      ∃ t, exec (.trestleBflip sp item bits expected data) s = .next t ∧ (t.engine sp).pc = ((s.engine sp).pc + 1) % 4096 ∧ (t.engine sp).state = 1 ∧ OnlyTouches [.trestle] s t) ∧
    (∀ (sp : Span) (item : TableRef) (r : Fin 16) (op : Byte) (dst a b : Fin 16) (data : ItemData) (e bits : Word) (table : Fin 256) (hsel : Fin 8) (target : BitVec 12) (res : Byte) (s : State),
      s.routineRuns sp = false →
      exec (.trestleLd sp item r) s = .next s ∧ exec (.trestleAlu sp op dst a b) s = .next s ∧ exec (.trestleHash sp table hsel a b) s = .next s ∧ exec (.trestleStage sp item data) s = .next s ∧ exec (.trestleFlip sp item e data) s = .next s ∧ exec (.trestleBflip sp item bits e data) s = .next s ∧ exec (.trestleBranch sp target) s = .next s ∧ exec (.trestleHalt sp res) s = .next s) ∧
    (∀ (sp : Span) (s : State),
      (s.engine sp).queued = [] ∨ (s.engine sp).state ≠ 0 ∨ s.stopSet sp = true →
      exec (.trestleRoutineStart sp) s = .next s) ∧
    (∀ (sp : Span) (res : Byte) (r : Nat) (c : Call) (rest : List Call) (s : State),
      s.routineRuns sp = true →
      (s.engine sp).work = none →
      (s.engine sp).owner = some r →
      (s.sq r).calls = c :: rest →
      c.atEngine = true →
      ∃ t, exec (.trestleHalt sp res) s = .next t ∧ (t.sq r).calls = rest ∧ t.counter (cSpan sp 11) = (s.counter (cSpan sp 11) + 1) % 2 ^ 64) ∧
    (∀ (sp : Span) (res : Byte) (s : State),
      s.routineRuns sp = true →
      (s.engine sp).owner = none →
      (s.engine sp).work = none →
      ∃ t, exec (.trestleHalt sp res) s = .next t ∧ t.engine sp = { state := 0, queued := (s.engine sp).queued } ∧ (∀ m, m ≠ sp.val → t.engine m = s.engine m) ∧ t.counter (cSpan sp 11) = (s.counter (cSpan sp 11) + 1) % 2 ^ 64 ∧ OnlyTouches [.counters, .trestle] s t)

/-- STOP halts a running engine with its context, RESUME clears STOP and goes on, ABORT ends a halted routine. A
descriptor that is sound and whose units are free is taken, one that is not is kept without EN and faulted, and with
EN clear both words are taken; a write that R150 forbids while EN is set is a class-N fault of the table crossbar, and
outside START-UP and TEST another that would change a descriptor is recorded as a refused write. A row with a
corrected error is counted; a row of a replicated table that cannot be corrected is copied from a good span with a
class-N fault, and becomes zero with a class-S fault where there is none. A sweep with an idle engine restarts the age
of an entry that any span has hit. A minority of the replicas of a row is rewritten from the majority. (R123, R124,
R125, R150, R160, R162, R441) -/
def Obligations.EnginesAndTablesAreServed : Prop :=
    (∀ (sp : Span) (v : Word) (s : State),
      getBits v 0 0 = 1 →
      getBits v 1 1 = 0 →
      getBits v 2 2 = 0 →
      (s.engine sp).state = 1 →
      (s.engine sp).owner = none →
      (s.engine sp).work = none →
      s.closed (trCtrl sp) = false →
      ∃ t, exec (.trestleStop sp v) s = .next t ∧ t.engine sp = { s.engine sp with state := 3, ctx := true } ∧ t.stopSet sp = true ∧ (∀ m, m ≠ sp.val → t.engine m = s.engine m) ∧ OnlyTouches [.regs, .trestle] s t) ∧
    (∀ (sp : Span) (v : Word) (s : State),
      getBits v 0 0 = 0 →
      getBits v 1 1 = 1 →
      getBits v 2 2 = 0 →
      s.closed (trCtrl sp) = false →
      (s.engine sp).state = 3 ∨ (s.engine sp).state = 4 →
      ∃ t, exec (.trestleResume sp v) s = .next t ∧ t.engine sp = { s.engine sp with state := if (s.engine sp).ctx then 1 else 0, ctx := false } ∧ t.stopSet sp = false ∧ (∀ m, m ≠ sp.val → t.engine m = s.engine m) ∧ OnlyTouches [.regs, .trestle] s t) ∧
    (∀ (sp : Span) (v : Word) (s : State),
      getBits v 0 0 = 0 →
      getBits v 1 1 = 0 →
      getBits v 2 2 = 1 →
      s.closed (trCtrl sp) = false →
      (s.engine sp).state = 3 ∨ (s.engine sp).state = 4 →
      (s.engine sp).ctx = true →
      (s.engine sp).owner = none →
      ∃ t, exec (.trestleAbort sp v) s = .next t ∧ t.engine sp = { state := if s.stopSet sp then 3 else 0, queued := (s.engine sp).queued } ∧ (∀ m, m ≠ sp.val → t.engine m = s.engine m) ∧ OnlyTouches [.trestle] s t) ∧
    (∀ (sp : Span) (k : Fin 240) (v : Word) (s : State),
      s.closed (kindReg sp k) = false →
      s.rwlOpen = true →
      s.bit (kindReg sp k) 31 = false →
      getBits v 31 31 = 1 →
      (geometryOf (v &&& 0xFFFFFE00) (s.reg (unitsReg sp k))).valid = true →
      s.unitsFree sp k (geometryOf (v &&& 0xFFFFFE00) (s.reg (unitsReg sp k))) = true →
      ∃ t, exec (.tableKindWrite sp k false v) s = .next t ∧ t.reg (kindReg sp k) = v &&& 0xFFFFFE00 ∧ (∀ o, o ≠ kindReg sp k → t.reg o = s.reg o) ∧ OnlyTouches [.regs] s t) ∧
    (∀ (sp : Span) (k : Fin 240) (units : Bool) (v : Word) (s : State),
      s.closed (kindReg sp k) = false →
      s.tableFrozen sp k units v = true →
      ∃ t, exec (.tableKindWrite sp k units v) s = .next t ∧ (t.source (srcSpan sp 0x0D 0)).cause = true ∧ (t.source (srcSpan sp 0x0D 0)).cls = .n ∧ t.tables = s.tables ∧ t.chip = s.chip ∧ FaultFrame s t) ∧
    (∀ (sp : Span) (k : Fin 240) (units : Bool) (v : Word) (s : State),
      s.closed (kindReg sp k) = false →
      s.rwlOpen = false →
      s.tableFrozen sp k units v = false →
      (v &&& (if units then 0xFFFFFF80 else 0xFFFFFE00) ≠ s.reg (if units then unitsReg sp k else kindReg sp k)) →
      ∃ t, exec (.tableKindWrite sp k units v) s = .next t ∧ (t.source 0xF801).cause = true ∧ (t.source 0xF801).cls = .n ∧ t.tables = s.tables ∧ t.chip = s.chip ∧ FaultFrame s t) ∧
    (∀ (sp : Span) (k : Fin 240) (v : Word) (s : State),
      s.closed (kindReg sp k) = false →
      s.rwlOpen = true →
      s.bit (kindReg sp k) 31 = false →
      ∃ t, exec (.tableKindWrite sp k true v) s = .next t ∧ t.reg (unitsReg sp k) = v &&& 0xFFFFFF80 ∧ (∀ o, o ≠ unitsReg sp k → t.reg o = s.reg o) ∧ OnlyTouches [.regs] s t) ∧
    (∀ (sp : Span) (k : Fin 240) (v : Word) (s : State),
      s.closed (kindReg sp k) = false →
      s.rwlOpen = true →
      getBits v 31 31 = 0 →
      ∃ t, exec (.tableKindWrite sp k false v) s = .next t ∧ t.reg (kindReg sp k) = v &&& 0xFFFFFE00 ∧ (∀ o, o ≠ kindReg sp k → t.reg o = s.reg o) ∧ OnlyTouches [.regs] s t) ∧
    (∀ (sp : Span) (k : Fin 240) (v : Word) (s : State),
      s.closed (kindReg sp k) = false →
      s.rwlOpen = true →
      s.bit (kindReg sp k) 31 = false →
      getBits v 31 31 = 1 →
      (geometryOf (v &&& 0xFFFFFE00) (s.reg (unitsReg sp k))).valid = false ∨ s.unitsFree sp k (geometryOf (v &&& 0xFFFFFE00) (s.reg (unitsReg sp k))) = false →
      ∃ t, exec (.tableKindWrite sp k false v) s = .next t ∧ t.bit (kindReg sp k) 31 = false ∧ t.tables = s.tables ∧ (t.source (srcSpan sp 0x0D 0)).cause = true ∧ (t.source (srcSpan sp 0x0D 0)).cls = .n) ∧
    (∀ (sp : Span) (g : Option Span) (item : TableRef) (s : State),
      s.injects (itemSource sp item) = none →
      ∃ t, exec (.tableScrub sp item .single g) s = .next t ∧ t.counter (cSpan sp 13) = (s.counter (cSpan sp 13) + 1) % 2 ^ 64) ∧
    (∀ (sp : Span) (item : TableRef) (s : State) (g : Option Span),
      s.injects (itemSource sp item) = none →
      ∃ t, exec (.tableScrub sp item .good g) s = .next t ∧ t = s.scrubRefill sp item) ∧
    (∀ (sp g : Span) (item : TableRef) (s : State),
      item.ternary = false →
      s.rowKind sp item ≠ 5 →
      s.rowKind sp item ≠ 6 →
      ∃ t, exec (.tableScrub sp item .uncorrectable (some g)) s = .next t ∧ t.sram sp item.unit item.row = s.sram g item.unit item.row % 2 ^ 256 ∧ (t.source (itemSource sp item)).cause = true ∧ (t.source (itemSource sp item)).cls = .n) ∧
    (∀ (sp : Span) (item : TableRef) (s : State),
      item.ternary = false →
      ∃ t, exec (.tableScrub sp item .uncorrectable none) s = .next t ∧ t.sram sp item.unit item.row = 0 ∧ (t.source (itemSource sp item)).cause = true ∧ (t.source (itemSource sp item)).cls = .s) ∧
    (∀ (k : Fin 240) (e : EntryPlace) (s : State),
      s.groupUp 0 = true →
      s.engineFree s.serviceSpan = true →
      s.spansUp ≠ [] →
      (s.geometry s.serviceSpan k).en = true →
      (s.geometry s.serviceSpan k).ageMax ≠ 0 →
      s.entries s.serviceSpan (s.geometry s.serviceSpan k) = [e] →
      getBits (s.placeCtl s.serviceSpan e) 24 24 = 0 →
      (∃ n ∈ s.spansUp, getBits (s.placeCtl n e) 29 29 = 1) →
      ∃ t, exec (.agingSweep k) s = .next t ∧ (∀ n ∈ s.spansUp, t.placeCtl n e = setBits (setBits (s.placeCtl n e) 29 29 0) 28 25 0) ∧ OnlyTouches [.counters, .tables] s t) ∧
    (∀ (item : TableRef) (m : Nat) (s : State),
      s.groupServed 1 = true →
      item.ternary = false →
      s.rowKind (s.spansUp.headD 0) item ≠ 5 →
      s.rowKind (s.spansUp.headD 0) item ≠ 6 →
      (s.spansUp.find? (fun n => decide (s.spansUp.length < 2 * (s.spansUp.filter (fun k => decide (s.replica k item = s.replica n item))).length)) = some m) →
      ∃ t, exec (.replicaCompare item) s = .next t ∧ (∀ n ∈ s.spansUp, s.replica n item = s.replica m item → t.sram n item.unit item.row = s.sram n item.unit item.row) ∧
      (∀ n ∈ s.spansUp, s.replica n item ≠ s.replica m item → t.sram n item.unit item.row = s.sram m item.unit item.row % 2 ^ 256 ∧ (t.source (itemSource n item)).cause = true ∧ (t.source (itemSource n item)).cls = .s))

/-- An accepted enable writes the lane's configuration and starts the port at SIGNAL, and where the word also sets a test
field in a state that refuses it a class-N fault of CHIP element 1 records it; a refused enable latches the MAC's
class-N fault. A disable ends in DISABLED. Signal leads to AN, TRAIN or ALIGN by the configuration; a base page keeps
the partner's pause ability; while more pages follow the device answers with a null message, and the last leads to
TRAIN at preset 1 when the partner has the port's ability, and is a failed attempt otherwise. Training leaves the taps
as the exchange left them and leads to ALIGN. While the receiver reports a local fault an aligned port stays in ALIGN,
shows it and signals it to its partner; in UP a remote fault is shown, and a local one takes the link down; with none
the link comes up, which its class-N record shows, and in viaduct mode its retry protocol starts anew; it goes down
with a class-N record. A timeout counts an attempt, and the third in a row is FAILED; a stable link clears the count
and a retry starts again. At a port that is not enabled, or in another state of its bring-up, these events change
nothing. (R332, R333, R338, R339, R340, R341, R344) -/
def Obligations.PortsComeUpAndDown : Prop :=
    (∀ (p : Lane) (v : Word) (s : State),
      s.closed (laneOff p) = false →
      getBits v 31 31 = 1 →
      s.bit (laneOff p) 31 = false →
      s.enableRefused p v = false →
      getBits v 22 18 = 0 →
      ∃ t, exec (.portEnable p v) s = .next t ∧ t.reg (laneOff p) = v &&& 0xFF820000 ∧ t.portState p = 1 ∧ (t.lane p).run = 0 ∧ (∀ x, x ≠ p.val → { t.lane x with trim := 0 } = { s.lane x with trim := 0 }) ∧ OnlyTouches [.regs, .emitted, .lanes] s t) ∧
    (∀ (p : Lane) (v : Word) (s : State),
      s.closed (laneOff p) = false →
      getBits v 31 31 = 1 →
      s.bit (laneOff p) 31 = false →
      s.enableRefused p v = false →
      getBits v 22 18 ≠ 0 →
      ∃ t, exec (.portEnable p v) s = .next t ∧ t.reg (laneOff p) = v &&& 0xFF820000 ∧ t.portState p = 1 ∧ (t.lane p).run = 0 ∧ (t.source 0xF801).cause = true ∧ (t.source 0xF801).cls = .n ∧ t.chip = s.chip) ∧
    (∀ (p : Lane) (v : Word) (s : State),
      s.closed (laneOff p) = false →
      getBits v 31 31 = 1 →
      s.bit (laneOff p) 31 = false →
      s.enableRefused p v = true →
      ∃ t, exec (.portEnable p v) s = .next t ∧ (t.source (macSource p)).cause = true ∧ (t.source (macSource p)).cls = .n ∧ t.bit (laneOff p) 31 = false ∧ t.lanes = s.lanes ∧ t.chip = s.chip) ∧
    (∀ (p : Lane) (v : Word) (s : State),
      s.closed (laneOff p) = false →
      getBits v 31 31 = 0 →
      s.bit (laneOff p) 31 = true →
      ∃ t, exec (.portDisable p v) s = .next t ∧ t.bit (laneOff p) 31 = false ∧ t.portState p = 0 ∧ (t.lane p).run = 0) ∧
    (∀ (p : Port) (s : State),
      s.bit (laneOff p) 31 = true →
      s.portState p = 1 →
      ∃ t, exec (.laneSignalDetect p) s = .next t ∧ t.portState p = (if s.bit (laneOff p) 26 then 2 else if s.bit (laneOff p) 25 then 3 else 4) ∧ OnlyTouches [.regs, .emitted, .lanes] s t) ∧
    (∀ (p : Port) (a : List PhyType) (u : BitVec 2) (s : State),
      s.bit (laneOff p) 31 = true →
      s.portState p = 2 →
      ((s.lane p).anBase.getD a).contains (s.phyType p) = true →
      ∃ t, exec (.anPageRx p a u false) s = .next t ∧ t.portState p = 3 ∧ (∀ l ∈ s.lanesOf p, t.taps l = preset 1 ∧ (t.lane l).wait = .idle ∧ (t.lane l).held = none) ∧ OnlyTouches [.regs, .lanes] s t) ∧
    (∀ (p : Port) (a : List PhyType) (u : BitVec 2) (s : State),
      s.bit (laneOff p) 31 = true →
      s.portState p = 2 →
      ((s.lane p).anBase.getD a).contains (s.phyType p) = false →
      (s.lane p).run < 2 →
      ∃ t, exec (.anPageRx p a u false) s = .next t ∧ t.portState p = 1 ∧ (t.lane p).run = (s.lane p).run + 1 ∧ t.fld (laneOff p + 4) 20 16 = min (s.fld (laneOff p + 4) 20 16 + 1) 31 ∧ OnlyTouches [.regs, .emitted, .lanes] s t) ∧
    (∀ (p : Port) (a : List PhyType) (u : BitVec 2) (s : State),
      s.bit (laneOff p) 31 = true →
      s.portState p = 2 →
      ∃ t, exec (.anPageRx p a u true) s = .next t ∧ t.lane p = { s.lane p with anBase := some ((s.lane p).anBase.getD a), peerPause := if (s.lane p).anBase = none then some u else (s.lane p).peerPause } ∧ t.emitted = .anNull p :: s.emitted ∧ (∀ x, x ≠ p.val → t.lane x = s.lane x) ∧ OnlyTouches [.emitted, .lanes] s t) ∧
    (∀ (p : Port) (a : List PhyType) (u : BitVec 2) (s : State),
      s.bit (laneOff p) 31 = true →
      s.portState p = 2 →
      (s.lane p).anBase = none →
      ∃ t, exec (.anPageRx p a u false) s = .next t ∧ (t.lane p).peerPause = some u ∧ (t.lane p).anBase = none) ∧
    (∀ (p : Port) (rf : Bool) (s : State),
      s.bit (laneOff p) 31 = true →
      s.portState p = 5 →
      s.chip.sdRefLost.contains (p.val / 64) = false →
      ∃ t, exec (.linkUp p false rf) s = .next t ∧ t.portState p = 5 ∧ t.bit (laneOff p + 4) 23 = false ∧ t.bit (laneOff p + 4) 22 = rf ∧ OnlyTouches [.regs] s t) ∧
    (∀ (p : Port) (rf : Bool) (s : State),
      s.bit (laneOff p) 31 = true →
      s.portState p = 5 →
      s.chip.sdRefLost.contains (p.val / 64) = false →
      ∃ t, exec (.linkUp p true rf) s = .next t ∧ t.portState p ≠ 5 ∧ t.bit (laneOff p + 4) 23 = true ∧ t.tx p = none ∧ (t.source (macSource p)).cause = true ∧ (t.source (macSource p)).cls = .n) ∧
    (∀ (p : Port) (a : List PhyType) (u : BitVec 2) (b c : Bool) (s : State),
      s.bit (laneOff p) 31 = false →
      exec (.laneSignalDetect p) s = .next s ∧ exec (.anPageRx p a u b) s = .next s ∧ exec (.trainingDone p) s = .next s ∧ exec (.linkUp p b c) s = .next s ∧ exec (.bringupTimeout p) s = .next s ∧ exec (.failedRetryTimer p) s = .next s) ∧
    (∀ (p : Port) (a : List PhyType) (u : BitVec 2) (b c : Bool) (s : State),
      (s.portState p ≠ 1 → exec (.laneSignalDetect p) s = .next s) ∧ (s.portState p ≠ 2 → exec (.anPageRx p a u b) s = .next s) ∧ (s.portState p ≠ 3 → exec (.trainingDone p) s = .next s) ∧ (s.portState p ≠ 4 ∧ s.portState p ≠ 5 ∨ s.chip.sdRefLost.contains (p.val / 64) = true → exec (.linkUp p b c) s = .next s) ∧
      (s.portState p ≠ 3 → s.portState p ≠ 4 → exec (.bringupTimeout p) s = .next s) ∧ (s.portState p ≠ 6 → exec (.failedRetryTimer p) s = .next s) ∧ (s.portState p ≠ 5 → exec (.linkDown p) s = .next s) ∧ (s.portState p ≠ 5 ∨ (s.lane p).fresh = false → exec (.linkStable p) s = .next s)) ∧
    (∀ (p : Lane) (v : Word) (s : State),
      (getBits v 31 31 = 0 → exec (.portEnable p v) s = .next s) ∧ (getBits v 31 31 = 1 ∨ s.bit (laneOff p) 31 = false → exec (.portDisable p v) s = .next s)) ∧
    (∀ (p : Port) (s : State),
      s.bit (laneOff p) 31 = true →
      s.portState p = 3 →
      ∃ t, exec (.trainingDone p) s = .next t ∧ t.portState p = 4 ∧ (∀ i, t.taps i = s.taps i) ∧ OnlyTouches [.regs] s t) ∧
    (∀ (p : Port) (rf : Bool) (s : State),
      s.bit (laneOff p) 31 = true →
      s.portState p = 4 →
      s.chip.sdRefLost.contains (p.val / 64) = false →
      ∃ t, exec (.linkUp p true rf) s = .next t ∧ t.portState p = 4 ∧ t.bit (laneOff p + 4) 23 = true ∧ t.bit (laneOff p + 4) 22 = rf ∧ t.bit (laneOff p + 4) 25 = true ∧ t.emitted = .lane p "REMOTE_FAULT" 0 :: s.emitted ∧ OnlyTouches [.regs, .emitted] s t) ∧
    (∀ (p : Port) (rf : Bool) (s : State),
      s.bit (laneOff p) 31 = true →
      s.portState p = 4 →
      s.chip.sdRefLost.contains (p.val / 64) = false →
      s.viaduct p = false →
      ∃ t, exec (.linkUp p false rf) s = .next t ∧ t.portState p = 5 ∧ t.bit (laneOff p + 4) 23 = false ∧ t.bit (laneOff p + 4) 22 = rf ∧ t.bit (laneOff p + 4) 24 = true ∧ (t.lane p).fresh = true ∧ p.val ∉ t.egr.expired ∧ (t.source (macSource p)).cause = true ∧ (t.source (macSource p)).cls = .n ∧ (∀ x, x ≠ (macSource p) → t.source x = s.source x)) ∧
    (∀ (p : Port) (rf : Bool) (s : State),
      s.bit (laneOff p) 31 = true →
      s.portState p = 4 →
      s.chip.sdRefLost.contains (p.val / 64) = false →
      s.viaduct p = true →
      ∃ t, exec (.linkUp p false rf) s = .next t ∧ (t.lane p).fresh = true ∧ (t.viaLink p).up = false ∧ (t.viaLink p).epoch ≠ 0 ∧ (t.viaLink p).next = 0 ∧ (t.viaLink p).retry = []) ∧
    (∀ (p : Port) (s : State),
      s.portState p = 5 →
      ∃ t, exec (.linkDown p) s = .next t ∧ t.portState p ≠ 5 ∧ t.linkUp p = false ∧ (t.lane p).fresh = false ∧ (t.source (macSource p)).cause = true ∧ (t.source (macSource p)).cls = .n ∧ t.tx p = none ∧ t.chip = s.chip) ∧
    (∀ (p : Port) (s : State),
      s.bit (laneOff p) 31 = true →
      s.portState p = 3 ∨ s.portState p = 4 →
      (s.lane p).run < 2 →
      ∃ t, exec (.bringupTimeout p) s = .next t ∧ t.portState p = 1 ∧ (t.lane p).run = (s.lane p).run + 1 ∧ OnlyTouches [.regs, .emitted, .lanes] s t) ∧
    (∀ (p : Port) (s : State),
      s.bit (laneOff p) 31 = true →
      s.portState p = 3 ∨ s.portState p = 4 →
      2 ≤ (s.lane p).run →
      ∃ t, exec (.bringupTimeout p) s = .next t ∧ t.portState p = 6 ∧ (t.lane p).run = 0 ∧ (t.source (macSource p)).cause = true ∧ (t.source (macSource p)).cls = .n ∧ (∀ x, x ≠ (macSource p) → t.source x = s.source x)) ∧
    (∀ (p : Port) (s : State),
      s.portState p = 5 →
      (s.lane p).fresh = true →
      ∃ t, exec (.linkStable p) s = .next t ∧ t.lane p = { s.lane p with run := 0, fresh := false } ∧ t.fld (laneOff p + 4) 20 16 = 0 ∧ t.portState p = 5 ∧ (∀ o, (∀ l ∈ s.lanesOf p, o ≠ laneOff l + 4) → t.reg o = s.reg o) ∧ OnlyTouches [.regs, .lanes] s t) ∧
    (∀ (p : Port) (s : State),
      s.bit (laneOff p) 31 = true →
      s.portState p = 6 →
      ∃ t, exec (.failedRetryTimer p) s = .next t ∧ t.portState p = 1 ∧ OnlyTouches [.regs, .emitted] s t)

/-- A lane that trains applies a request once and keeps its answer until a HOLD has been answered; it repeats that answer,
TAP and all, to any other request; every answer says whether its own receiver is trained, which it is once it has no
next request. Its receiver answers a status with a HOLD and NOT_UPDATED with its next request. In TEST a manual
request leaves when the exchange is idle and waits behind those before it otherwise, to leave in its turn; outside
TEST a change of the mode is refused. A window with more corrected symbols than the threshold shows DEGRADED with a
class-N record, and one with at most half of it clears the bit; the window's codewords are counted, and the
uncorrectable ones. A scan is BUSY until it is DONE with its counts, or ABORTED without them, which a START of a
running one does too; a word without START or STOP sets the scan's fields alone. A lane that does not train, and a
window that is not whole, change nothing. (R341, R343, R344, R347, R349, R350, R363, R366) -/
def Obligations.LanesTrainAndScan : Prop :=
    (∀ (l : Lane) (q : BitVec 16) (s : State),
      s.fld (laneOff l + 4) 31 28 = 3 →
      (s.lane l).held = none →
      ∃ t, exec (.trainingRequestRx l q) s = .next t ∧ t.taps l = (applyRequest (s.taps l) q).1 ∧ (t.lane l).held = (if (applyRequest (s.taps l) q).2 = 0 then none else some (response (reqTap q) (applyRequest (s.taps l) q).2 (s.lane l).trained)) ∧
      t.emitted = .lane l "response" (response (reqTap q) (applyRequest (s.taps l) q).2 (s.lane l).trained).toNat :: s.emitted ∧ t.fld (laneOff l + 0x1C) 31 16 = q.toNat ∧ (∀ x, x ≠ l.val → t.lane x = s.lane x) ∧ OnlyTouches [.regs, .emitted, .lanes] s t) ∧
    (∀ (l : Lane) (q r : BitVec 16) (s : State),
      s.fld (laneOff l + 4) 31 28 = 3 →
      (s.lane l).held = some r →
      reqAction q = 0 →
      ∃ t, exec (.trainingRequestRx l q) s = .next t ∧ t.taps l = s.taps l ∧ t.lane l = { s.lane l with held := none } ∧ t.emitted = .lane l "response" (response (reqTap q) 0 (s.lane l).trained).toNat :: s.emitted ∧ OnlyTouches [.regs, .emitted, .lanes] s t) ∧
    (∀ (l : Lane) (q r : BitVec 16) (s : State),
      s.fld (laneOff l + 4) 31 28 = 3 →
      (s.lane l).held = some r →
      reqAction q ≠ 0 →
      ∃ t, exec (.trainingRequestRx l q) s = .next t ∧ t.taps l = s.taps l ∧ t.lanes = s.lanes ∧ t.emitted = .lane l "response" (response (reqTap r) (rspStatus r) (s.lane l).trained).toNat :: s.emitted ∧ OnlyTouches [.regs, .emitted] s t) ∧
    (∀ (l : Lane) (r next : BitVec 16) (s : State),
      s.fld (laneOff l + 4) 31 28 = 3 →
      (s.lane l).wait = .status →
      rspStatus r ≠ 0 →
      ∃ t, exec (.trainingResponseRx l r next) s = .next t ∧ (t.lane l).sent = BitVec.ofNat 16 (reqTap (s.lane l).sent * 2 ^ 13) ∧ (t.lane l).wait = .notUpdated ∧ t.fld (laneOff l + 0x18) 15 0 = reqTap (s.lane l).sent * 2 ^ 13 ∧ t.fld (laneOff l + 0x1C) 15 0 = r.toNat ∧ OnlyTouches [.regs, .emitted, .lanes] s t) ∧
    (∀ (l : Lane) (r next : BitVec 16) (s : State),
      s.fld (laneOff l + 4) 31 28 = 3 →
      (s.lane l).wait ≠ .status →
      rspStatus r = 0 →
      s.manualMode l = false →
      reqAction next ≠ 0 →
      ∃ t, exec (.trainingResponseRx l r next) s = .next t ∧ (t.lane l).sent = next ∧ (t.lane l).wait = .status ∧ t.fld (laneOff l + 0x18) 15 0 = next.toNat ∧ OnlyTouches [.regs, .emitted, .lanes] s t) ∧
    (∀ (l : Lane) (r next : BitVec 16) (s : State),
      s.fld (laneOff l + 4) 31 28 = 3 →
      (s.lane l).wait ≠ .status →
      rspStatus r = 0 →
      s.manualMode l = false →
      reqAction next = 0 →
      ∃ t, exec (.trainingResponseRx l r next) s = .next t ∧ t.lane l = { s.lane l with wait := .idle, trained := true } ∧ t.fld (laneOff l + 0x1C) 15 0 = r.toNat ∧ t.emitted = s.emitted ∧ OnlyTouches [.regs, .lanes] s t) ∧
    (∀ (l : Lane) (v : Word) (s : State),
      s.closed (laneOff l) = false →
      s.chip.mode = .test →
      getBits v 31 31 = 1 →
      (s.lane l).wait = .idle →
      ∃ t, exec (.trainingManualRequest l v) s = .next t ∧ (t.lane l).sent = v.setWidth 16 ∧ t.fld (laneOff l + 0x18) 15 0 = getBits v 15 0 ∧ t.bit (laneOff l + 0x18) 31 = true ∧ OnlyTouches [.regs, .emitted, .lanes] s t) ∧
    (∀ (l : Lane) (v : Word) (s : State),
      s.closed (laneOff l) = false →
      s.chip.mode = .test →
      getBits v 31 31 = 1 →
      (s.lane l).wait ≠ .idle →
      ∃ t, exec (.trainingManualRequest l v) s = .next t ∧ (t.lane l).manual = (s.lane l).manual ++ [v.setWidth 16] ∧ (t.lane l).sent = (s.lane l).sent ∧ t.fld (laneOff l + 0x18) 15 0 = getBits v 15 0 ∧ OnlyTouches [.regs, .lanes] s t) ∧
    (∀ (l : Lane) (v : Word) (s : State),
      s.closed (laneOff l) = false →
      s.chip.mode ≠ .test →
      getBits v 31 31 ≠ s.fld (laneOff l + 0x18) 31 31 →
      ∃ t, exec (.trainingManualRequest l v) s = .next t ∧ t.lanes = s.lanes ∧ (t.source 0xF801).cause = true ∧ (t.source 0xF801).cls = .n ∧ FaultFrame s t) ∧
    (∀ (l : Lane) (r next q : BitVec 16) (rest : List (BitVec 16)) (s : State),
      s.fld (laneOff l + 4) 31 28 = 3 →
      (s.lane l).wait ≠ .status →
      rspStatus r = 0 →
      s.manualMode l = true →
      (s.lane l).manual = q :: rest →
      ∃ t, exec (.trainingResponseRx l r next) s = .next t ∧ (t.lane l).sent = q ∧ (t.lane l).manual = rest ∧ t.fld (laneOff l + 0x18) 15 0 = q.toNat ∧ OnlyTouches [.regs, .emitted, .lanes] s t) ∧
    (∀ (l : Lane) (q r next : BitVec 16) (s : State),
      s.fld (laneOff l + 4) 31 28 ≠ 3 →
      exec (.trainingRequestRx l q) s = .next s ∧ exec (.trainingResponseRx l r next) s = .next s) ∧
    (∀ (l : Lane) (v : Word) (s : State),
      s.closed (laneOff l) = false →
      s.chip.mode = .test →
      getBits v 31 31 = 0 →
      ∃ t, exec (.trainingManualRequest l v) s = .next t ∧ t.bit (laneOff l + 0x18) 31 = false ∧ t.lanes = s.lanes ∧ OnlyTouches [.regs] s t) ∧
    (∀ (l : Lane) (v : Word) (s : State),
      s.chip.mode ≠ .test →
      getBits v 31 31 = s.fld (laneOff l + 0x18) 31 31 →
      exec (.trainingManualRequest l v) s = .next s) ∧
    (∀ (l : Lane) (v : Word) (s : State),
      s.closed (laneOff l) = false →
      getBits v 31 31 = 1 →
      s.fld (laneOff l + 0x44) 1 0 = 1 →
      ∃ t, exec (.eyeScanStart l v) s = .next t ∧ t.fld (laneOff l + 0x44) 1 0 = 3 ∧ (t.lane l).eye = [] ∧ OnlyTouches [.regs, .lanes] s t) ∧
    (∀ (l : Lane) (v : Word) (s : State),
      s.closed (laneOff l) = false →
      getBits v 31 31 = 0 →
      ∃ t, exec (.eyeScanStart l v) s = .next t ∧ t.reg (laneOff l + 0x40) = v &&& 0x3FFF0000 ∧ (∀ o, o ≠ laneOff l + 0x40 → t.reg o = s.reg o) ∧ OnlyTouches [.regs] s t) ∧
    (∀ (l : Lane) (v : Word) (s : State),
      s.closed (laneOff l) = false →
      getBits v 30 30 = 0 ∨ s.fld (laneOff l + 0x44) 1 0 ≠ 1 →
      ∃ t, exec (.eyeScanStop l v) s = .next t ∧ t.reg (laneOff l + 0x40) = v &&& 0x3FFF0000 ∧ (∀ o, o ≠ laneOff l + 0x40 → t.reg o = s.reg o) ∧ OnlyTouches [.regs] s t) ∧
    (∀ (l : Lane) (counts : List Nat) (s : State),
      s.fld (laneOff l + 0x44) 1 0 ≠ 1 →
      exec (.eyeScanDone l counts) s = .next s) ∧
    (∀ (p : Port) (hist : List Nat) (uncorr : Nat) (symbols : List Nat) (s : State),
      s.portState p ≠ 5 ∨ sumNat (hist.take 16) + uncorr ≠ s.fecWindow p →
      exec (.fecDegradeWindow p hist uncorr symbols) s = .next s) ∧
    (∀ (p : Port) (hist : List Nat) (uncorr : Nat) (symbols : List Nat) (s : State),
      s.portState p = 5 →
      sumNat (hist.take 16) + uncorr = s.fecWindow p →
      s.fld (laneOff p + 0x20) 23 0 < sumNat (symbols.take (s.portLanes p)) →
      s.bit (laneOff p + 4) 21 = false →
      ∃ t, exec (.fecDegradeWindow p hist uncorr symbols) s = .next t ∧ t.bit (laneOff p + 4) 21 = true ∧ t.portState p = 5 ∧ t.counter (laneOff p + 0x100) = (s.counter (laneOff p + 0x100) + s.fecWindow p) % 2 ^ 64 ∧ t.counter (laneOff p + 0x110) = (s.counter (laneOff p + 0x110) + uncorr) % 2 ^ 64 ∧ (t.source (macSource p)).cause = true ∧ (t.source (macSource p)).cls = .n ∧ (∀ x, x ≠ (macSource p) → t.source x = s.source x) ∧ t.chip = s.chip) ∧
    (∀ (p : Port) (hist : List Nat) (uncorr : Nat) (symbols : List Nat) (s : State),
      s.portState p = 5 →
      sumNat (hist.take 16) + uncorr = s.fecWindow p →
      sumNat (symbols.take (s.portLanes p)) ≤ s.fld (laneOff p + 0x20) 23 0 / 2 →
      ∃ t, exec (.fecDegradeWindow p hist uncorr symbols) s = .next t ∧ t.bit (laneOff p + 4) 21 = false ∧ t.counter (laneOff p + 0x100) = (s.counter (laneOff p + 0x100) + s.fecWindow p) % 2 ^ 64 ∧ t.counter (laneOff p + 0x110) = (s.counter (laneOff p + 0x110) + uncorr) % 2 ^ 64 ∧ (∀ o, o ≠ laneOff p + 4 → t.reg o = s.reg o) ∧ OnlyTouches [.regs, .counters] s t) ∧
    (∀ (l : Lane) (v : Word) (s : State),
      s.closed (laneOff l) = false →
      getBits v 31 31 = 1 →
      getBits v 30 30 = 0 →
      s.fld (laneOff l + 0x44) 1 0 ≠ 1 →
      ∃ t, exec (.eyeScanStart l v) s = .next t ∧ t.reg (laneOff l + 0x44) = 1 ∧ (t.lane l).eye = [] ∧ t.reg (laneOff l + 0x40) = v &&& 0x3FFF0000 ∧ OnlyTouches [.regs, .lanes] s t) ∧
    (∀ (l : Lane) (v : Word) (s : State),
      s.closed (laneOff l) = false →
      getBits v 30 30 = 1 →
      s.fld (laneOff l + 0x44) 1 0 = 1 →
      ∃ t, exec (.eyeScanStop l v) s = .next t ∧ t.fld (laneOff l + 0x44) 1 0 = 3 ∧ (t.lane l).eye = [] ∧ OnlyTouches [.regs, .lanes] s t) ∧
    (∀ (l : Lane) (counts : List Nat) (s : State),
      s.fld (laneOff l + 0x44) 1 0 = 1 →
      ∃ t, exec (.eyeScanDone l counts) s = .next t ∧ t.fld (laneOff l + 0x44) 1 0 = 2 ∧ t.fld (laneOff l + 0x44) 14 8 = 64 ∧ t.lane l = { s.lane l with eye := (counts.take 4096).map (fun c => min c 0xFFFF) } ∧ (∀ o, o ≠ laneOff l + 0x44 → t.reg o = s.reg o) ∧ OnlyTouches [.regs, .lanes] s t)

/-- A search starts the counts anew and looks for commas; a slip moves the word boundary by one bit modulo 10 and starts
them too; a lock at 1.25 GBd leads to ALIGNED, or back to where the exchange of capabilities stood, and at a stepped-
up rate to UP; a loss of alignment leads to DOWN with the port's class-N fault. A change of EN starts the link from
nothing. The timer sends CAP; the peer's CAP leads to UP when the common rate is 1.25 GBd and to STEPPING otherwise. A
STEP is noted, the switch takes the target rate and searches, a timeout falls back with its record, and a bad frame is
counted. A word that leaves EN as it is writes the register alone; events of another state of the link change nothing.
(R353, R354, R355, R356, R357, R367) -/
def Obligations.PierLinksAlignAndStepUp : Prop :=
    (∀ (n : Four) (s : State),
      s.pierOn n = true →
      ∃ t, exec (.pierAlignSearch n) s = .next t ∧ t.pierState n = 1 ∧ t.pier n = { s.pier n with hitsFrom := s.now, errsFrom := s.now } ∧ (∀ m, m ≠ n.val → t.pier m = s.pier m) ∧ OnlyTouches [.regs, .piers] s t) ∧
    (∀ (n : Four) (s : State),
      ∃ t, exec (.pierSlip n) s = .next t ∧ t.pier n = { s.pier n with slip := ((s.pier n).slip + 1) % 10, hitsFrom := s.now, errsFrom := s.now } ∧ (∀ m, m ≠ n.val → t.pier m = s.pier m) ∧ OnlyTouches [.piers] s t) ∧
    (∀ (n : Four) (s : State),
      s.pierOn n = true →
      s.pierRate n = 0 →
      (s.pier n).sends = false →
      (s.pier n).noStep = false →
      ∃ t, exec (.pierAlignLock n) s = .next t ∧ t.pierState n = (if (s.pier n).stepSent then 4 else if (s.pier n).capSent then 3 else 2) ∧ OnlyTouches [.regs] s t) ∧
    (∀ (n : Four) (s : State),
      s.pierOn n = true →
      s.pierRate n ≠ 0 →
      ∃ t, exec (.pierAlignLock n) s = .next t ∧ t.pierState n = 5 ∧ t.pier n = { s.pier n with sends := true, t1 := none, marks := 1, heard := 0 } ∧ (∀ m, m ≠ n.val → t.pier m = s.pier m) ∧ OnlyTouches [.regs, .piers] s t) ∧
    (∀ (n : Four) (s : State),
      2 ≤ s.pierState n →
      ∃ t, exec (.pierAlignLost n) s = .next t ∧ t.pierState n = 0 ∧ t.bit (pierOff n + 4) 24 = true ∧ (t.source (pierSource n)).cause = true ∧ (t.source (pierSource n)).cls = .n ∧ (∀ x, x ≠ (pierSource n) → t.source x = s.source x) ∧ t.piers = s.piers) ∧
    (∀ (n : Four) (v : Word) (s : State),
      s.closed (pierOff n) = false →
      decide (getBits v 31 31 = 1) ≠ s.pierOn n →
      ∃ t, exec (.pierEnableWrite n v) s = .next t ∧ t.pierOn n = !s.pierOn n ∧ t.reg (pierOff n) = v &&& 0xFC000000 ∧ t.pierState n = 0 ∧ t.pierRate n = 0 ∧ t.pier n = { hitsFrom := s.now, errsFrom := s.now } ∧ (∀ m, m ≠ n.val → t.pier m = s.pier m) ∧ OnlyTouches [.regs, .emitted, .piers] s t) ∧
    (∀ (n : Four) (v : Word) (s : State),
      s.closed (pierOff n) = false →
      decide (getBits v 31 31 = 1) = s.pierOn n →
      ∃ t, exec (.pierEnableWrite n v) s = .next t ∧ t = s.setReg (pierOff n) (v &&& 0xFC000000)) ∧
    (∀ (n : Four) (payload : List Byte) (s : State),
      (s.pierOn n = false → exec (.pierAlignSearch n) s = .next s ∧ exec (.pierAlignLock n) s = .next s ∧ exec (.pierCapTimer n) s = .next s) ∧ (s.pierState n < 2 → exec (.pierAlignLost n) s = .next s ∧ exec (.pierFrameBad n) s = .next s) ∧ (s.pierState n ≠ 2 → s.pierState n ≠ 3 → exec (.cap n payload) s = .next s ∧ exec (.pierCapTimer n) s = .next s) ∧
      (s.pierState n < 2 ∨ 4 < s.pierState n → exec (.step n payload) s = .next s) ∧ (s.pierState n ≠ 4 ∨ (s.pier n).stepSent = false ∨ (s.pier n).stepRx = false → exec (.pierStepSwitch n) s = .next s) ∧ (1 < s.pierState n ∨ s.pierRate n = 0 → exec (.pierStepTimeout n) s = .next s)) ∧
    (∀ (n : Four) (s : State),
      s.pierOn n = true →
      s.pierState n = 2 ∨ s.pierState n = 3 →
      (s.pier n).peerRate = none →
      ∃ t, exec (.pierCapTimer n) s = .next t ∧ t.pierState n = 3 ∧ t.pier n = { s.pier n with capSent := true } ∧ t.pierSeq n = (s.pierSeq n + 1) % 256 ∧
      t.emitted = .pier n (pierFrame 1 (s.pierSeq n) ([BitVec.ofNat 8 (s.maxRate n), 1] ++ beBytes 2 s.deviceId ++ [BitVec.ofNat 8 (s.fld (pierOff n + 0x20) 31 30)])) :: s.emitted ∧ (∀ m, m ≠ n.val → t.pier m = s.pier m) ∧ OnlyTouches [.regs, .emitted, .pierTx, .piers] s t) ∧
    (∀ (n : Four) (payload : List Byte) (s : State),
      s.pierState n = 2 ∨ s.pierState n = 3 →
      (s.pier n).capSent = true →
      (s.pier n).noStep = false →
      ∃ t, exec (.cap n payload) s = .next t ∧ t.pierState n = (if min (s.maxRate n) (min 2 (payload.getD 0 0).toNat) = 0 then 5 else 4) ∧ (t.pier n).peerRate = some (payload.getD 0 0).toNat ∧ (t.pier n).target = (if min (s.maxRate n) (min 2 (payload.getD 0 0).toNat) = 0 then (s.pier n).target else min (s.maxRate n) (min 2 (payload.getD 0 0).toNat)) ∧ (∀ m, m ≠ n.val → t.pier m = s.pier m)) ∧
    (∀ (n : Four) (payload : List Byte) (s : State),
      2 ≤ s.pierState n →
      s.pierState n ≤ 4 →
      ∃ t, exec (.step n payload) s = .next t ∧ t.pier n = { s.pier n with stepRx := true } ∧ (∀ m, m ≠ n.val → t.pier m = s.pier m) ∧ OnlyTouches [.piers] s t) ∧
    (∀ (n : Four) (s : State),
      s.pierState n = 4 →
      (s.pier n).stepSent = true →
      (s.pier n).stepRx = true →
      ∃ t, exec (.pierStepSwitch n) s = .next t ∧ t.pierRate n = (s.pier n).target % 4 ∧ t.pierState n = 1 ∧ t.pier n = { s.pier n with hitsFrom := s.now, errsFrom := s.now } ∧ (∀ m, m ≠ n.val → t.pier m = s.pier m) ∧ OnlyTouches [.regs, .piers] s t) ∧
    (∀ (n : Four) (s : State),
      s.pierState n ≤ 1 →
      s.pierRate n ≠ 0 →
      ∃ t, exec (.pierStepTimeout n) s = .next t ∧ t.pierRate n = 0 ∧ t.pierState n = 1 ∧ t.bit (pierOff n + 4) 26 = true ∧ t.pier n = { s.pier n with noStep := true, sends := false, hitsFrom := s.now, errsFrom := s.now } ∧ (t.source (pierSource n)).cause = true ∧ (t.source (pierSource n)).cls = .n ∧ (∀ x, x ≠ (pierSource n) → t.source x = s.source x)) ∧
    (∀ (n : Four) (s : State),
      2 ≤ s.pierState n →
      ∃ t, exec (.pierFrameBad n) s = .next t ∧ t.fld (pierOff n + 4) 23 16 = min (s.fld (pierOff n + 4) 23 16 + 1) 255 ∧ (∀ o, o ≠ pierOff n + 4 → t.reg o = s.reg o) ∧ OnlyTouches [.regs] s t)

/-- The initiator marks its stamp when no pair is outstanding and its transmitter sends; the responder stamps the mark and
answers; the answer makes the initiator send TMARK and count the mark, and a timeout counts it without. A TMARK whose
mark count is the one heard gives each base that follows the link its sample. A MGMT frame and a FAULT payload are
kept, and in LOADER the ROM answers a MGMT frame, with what log entry 124 leaves free. A burst on an aligned link is
shown and latched at the class that RX_CLASS says. In SAFE the burst goes out again on each link that asks for it. On
a link in another state these events change nothing. (R356, R358, R359, R360, R311, R413, R441) -/
def Obligations.PierLinksMarkTimeAndFaults : Prop :=
    (∀ (n : Four) (s : State),
      s.pierOn n = true →
      (s.pier n).sends = true →
      s.tmRole n = 1 →
      (s.pier n).t1 = none →
      ∃ t, exec (.tmarkPeriod n) s = .next t ∧ t.pier n = { s.pier n with t1 := some (s.pierStamp n true) } ∧ t.emitted = .pierSymbols n 28 1 :: s.emitted ∧ (∀ m, m ≠ n.val → t.pier m = s.pier m) ∧ OnlyTouches [.emitted, .piers] s t) ∧
    (∀ (n : Four) (s : State),
      s.pierState n = 5 →
      s.tmRole n = 2 →
      ∃ t, exec (.timeMarkRx n) s = .next t ∧ t.pier n = { s.pier n with heard := ((s.pier n).heard + 1) % 256, t2 := s.pierStamp n false, t3 := s.pierStamp n true } ∧ t.emitted = .pierSymbols n 28 1 :: s.emitted ∧ (∀ m, m ≠ n.val → t.pier m = s.pier m) ∧ OnlyTouches [.emitted, .piers] s t) ∧
    (∀ (n : Four) (x : Stamp) (s : State),
      s.pierState n = 5 →
      s.tmRole n = 1 →
      (s.pier n).t1 = some x →
      ∃ t, exec (.timeMarkRx n) s = .next t ∧ t.pier n = { s.pier n with t1 := none, marks := ((s.pier n).marks + 1) % 256 } ∧ t.pierSeq n = (s.pierSeq n + 1) % 256 ∧
      t.emitted = .pier n (pierFrame 3 (s.pierSeq n) ([BitVec.ofNat 8 (s.pier n).marks, 1] ++ timeBytes (x.base (s.fld (pierOff n + 0x20) 29 28)) ++ timeBytes ((s.pierStamp n false).base (s.fld (pierOff n + 0x20) 29 28)))) :: s.emitted ∧ (∀ m, m ≠ n.val → t.pier m = s.pier m) ∧ OnlyTouches [.emitted, .pierTx, .piers] s t) ∧
    (∀ (n m : Four) (payload : List Byte) (s : State),
      s.pierState n = 5 →
      s.tmRole n = 2 →
      (s.pier n).heard = (payload.getD 0 0).toNat →
      s.tbSource m = 4 + n.val →
      s.fc.injHeld ≠ some (srcChip 0x12 m) →
      (s.tb m).waiting.length < 4 →
      ∃ t, exec (.tmark n payload) s = .next t ∧ (t.tb m).waiting = (s.tb m).waiting ++ [s.pierTheta n m payload] ∧ (∀ k, k < 4 → s.tbSource k ≠ 4 + n.val → t.tb k = s.tb k) ∧ OnlyTouches [.regs, .time] s t) ∧
    (∀ (n m : Four) (payload : List Byte) (s : State),
      s.pierState n = 5 →
      s.tmRole n = 2 →
      (s.pier n).heard ≠ (payload.getD 0 0).toNat →
      s.tbSource m = 4 + n.val →
      ∃ t, exec (.tmark n payload) s = .next t ∧ t.time = s.time ∧ t.fld (0x200004 + m.val * 0x40) 15 8 = min (s.fld (0x200004 + m.val * 0x40) 15 8 + 1) 255 ∧ OnlyTouches [.regs] s t) ∧
    (∀ (n : Four) (s : State),
      (s.pier n).t1.isSome = true →
      ∃ t, exec (.tmarkTimeout n) s = .next t ∧ t.pier n = { s.pier n with t1 := none, marks := ((s.pier n).marks + 1) % 256 } ∧ (∀ m, m ≠ n.val → t.pier m = s.pier m) ∧ OnlyTouches [.piers] s t) ∧
    (∀ (n : Four) (payload : List Byte) (s : State),
      s.pierState n = 5 →
      s.bootPhase ≠ 5 →
      ∃ t, exec (.mgmt n payload) s = .next t ∧ t.ks.mgmt = (n.val, payload) :: s.ks.mgmt ∧ OnlyTouches [.ks] s t) ∧
    (∀ (n : Four) (payload : List Byte) (s : State),
      s.pierState n = 5 →
      s.bootPhase = 5 →
      ∃ t, exec (.mgmt n payload) s = .next t ∧ t.ks.mgmt = (n.val, payload) :: s.ks.mgmt ∧ t.pierSeq n = (s.pierSeq n + 1) % 256 ∧ t.emitted = .pier n (pierFrame 0x10 (s.pierSeq n) (Config.loaderReply s.freeCount payload)) :: s.emitted ∧ t.freeCount = s.freeCount + 1 ∧ OnlyTouches [.emitted, .freeCount, .pierTx, .ks, .boot] s t) ∧
    (∀ (n : Four) (payload : List Byte) (s : State),
      s.pierState n ≠ 5 →
      exec (.mgmt n payload) s = .next s ∧ exec (.fault n payload) s = .next s ∧ exec (.tmark n payload) s = .next s ∧ exec (.timeMarkRx n) s = .next s) ∧
    (∀ (n : Four) (s : State),
      (s.pierState n < 2 → exec (.pierFaultSymbolsRx n) s = .next s) ∧ (s.chip.mode ≠ .safe → exec (.pierFaultRepeat) s = .next s) ∧ ((s.pier n).t1 = none → exec (.tmarkTimeout n) s = .next s) ∧ (s.pierOn n = false ∨ (s.pier n).sends = false ∨ s.tmRole n ≠ 1 ∨ (s.pier n).t1.isSome = true → exec (.tmarkPeriod n) s = .next s)) ∧
    (∀ (n : Four) (payload : List Byte) (s : State),
      s.pierState n = 5 →
      ∃ t, exec (.fault n payload) s = .next t ∧ t.pier n = { s.pier n with lastFault := payload } ∧ (∀ m, m ≠ n.val → t.pier m = s.pier m) ∧ OnlyTouches [.piers] s t) ∧
    (∀ (n : Four) (s : State),
      2 ≤ s.pierState n →
      ∃ t, exec (.pierFaultSymbolsRx n) s = .next t ∧ t.bit (pierOff n + 4) 25 = true ∧ (t.source (srcChip 0x13 (4 + n.val))).cause = true ∧ (t.source (srcChip 0x13 (4 + n.val))).cls = (if s.bit (pierOff n) 26 then .s else .n) ∧ t.pierTx = s.pierTx ∧ t.chip = s.chip) ∧
    (∀ (s : State),
      s.chip.mode = .safe →
      ∃ t, exec (.pierFaultRepeat) s = .next t ∧ ∀ n, n < 4 → t.pierSeq n = if s.bit (0x2400000 + n * 0x100) 31 && decide (1 ≤ s.fld (0x2400000 + n * 0x100) 28 27) && !((s.pier n).stepSent && !(s.pier n).sends) then (s.pierSeq n + 1) % 256 else s.pierSeq n)

/-- FLR leaves every host register but DEV_STATUS at its reset value, forgets what was taken and leaves every register
outside the block but MC_SHADOW and JNT_STATUS, where a shadow ends draining with it; PERST also takes the link down.
Without bus mastering every enabled ring that is not in error waits with its cause; when mastering comes back on a
link that is up, every ring that waited goes on and an armed completion ring has its CI read; on a link that is down
only the enable changes. A ring is enabled with its indices at 0 when its fields are sound, a completion ring armed,
and otherwise stays disabled with a class-N fault; a submission ring that is disabled drains, and a completion ring
that is still used is not disabled; sealed by a warm reset the rings take no write. A link that comes up keeps its
rate and width, and a rate below 16 GT/s is recorded; without the reference clock it does not come up. A vector that
is unmasked loses its mask bit and sends the message that is pending, when the bus may be used. (R368, R369, R394,
R396, R397, R402, R403, R519) -/
def Obligations.TheHostFunctionAndItsRings : Prop :=
    (∀ (s : State),
      ∃ t, exec (.pcieFlr) s = .next t ∧ (∀ o, 0x400000 ≤ o → o < 0x500000 → o ≠ 0x400004 → t.reg o = resetWord o) ∧ t.bit 0x400004 17 = true ∧ (∀ o, o < 0x400000 ∨ 0x500000 ≤ o → o ≠ 0x10C → o ≠ 0x204 → t.reg o = s.reg o) ∧
      t.hq.busMaster = false ∧ t.hq.pcieUp = s.hq.pcieUp ∧ t.hq.reserved = [] ∧ (∀ r, (t.sq r).taken = [] ∧ (t.sq r).bufs = []) ∧ OnlyTouches [.regs, .counters, .freeCount, .fc, .trestle, .buf, .hq] s t) ∧
    (∀ (s : State),
      ∃ t, exec (.pciePerst) s = .next t ∧ t.hq.pcieUp = false ∧ t.hq.busMaster = false ∧ t.bit 0x400004 17 = true ∧ (∀ r, (t.sq r).taken = []) ∧ OnlyTouches [.regs, .counters, .freeCount, .fc, .trestle, .buf, .hq] s t) ∧
    (∀ (s : State),
      ∃ t, exec (.pcieBusMasterOff) s = .next t ∧ t.hq = { s.hq with busMaster := false } ∧ (∀ r, r < 4096 → s.sqEn r = true → s.sqState r ≠ 5 → t.sqState r = 3 ∧ t.sqCause r = 5) ∧ OnlyTouches [.regs, .hq] s t) ∧
    (∀ (cis : List (Option Word)) (s : State),
      s.hq.pcieUp = true →
      ∃ t, exec (.pcieBusMasterOn cis) s = .next t ∧ t.hq.busMaster = true ∧ t.hq.pcieUp = true ∧ (∀ r, r < 4096 → s.sqCause r = 5 → s.sqEn r = true → s.sqState r ≠ 5 → s.sqKind r ≤ 3 → t.sqState r = if s.sqKind r = 3 then 1 else 2) ∧ OnlyTouches [.regs, .emitted, .hq] s t) ∧
    (∀ (c : Nat) (v : Word) (s : State),
      s.hq.pcieUp = true →
      s.armedCqs = [c] →
      c < 4096 →
      ∃ t, exec (.pcieBusMasterOn [some v]) s = .next t ∧ t.cqCi c = v ∧ t.cqPi c = s.cqPi c ∧ t.bit (cqOff c + 0x20) 28 = decide (t.cqFree c = 0)) ∧
    (∀ (cis : List (Option Word)) (s : State),
      s.hq.pcieUp = false →
      ∃ t, exec (.pcieBusMasterOn cis) s = .next t ∧ t = { s with hq := { s.hq with busMaster := true } }) ∧
    (∀ (r : Ring) (v : Word) (s : State),
      s.closed 0x420000 = false →
      s.cqEn r = false →
      getBits v 31 31 = 1 →
      depthOk (getBits v 28 24) = true →
      ∃ t, exec (.ringEnable true r v) s = .next t ∧ t.cqEn r = true ∧ t.cqPi r = 0 ∧ t.cqCi r = 0 ∧ t.bit (cqOff r + 0x20) 29 = true ∧ OnlyTouches [.regs] s t) ∧
    (∀ (r : Ring) (v : Word) (s : State),
      s.closed 0x420000 = false →
      s.sqEn r = false →
      getBits v 31 31 = 1 →
      depthOk (getBits v 27 23) = true →
      s.cqEn (getBits v 22 11) = true →
      s.cqEvent (getBits v 22 11) = false →
      s.sqState r ≠ 6 →
      ∃ t, exec (.ringEnable false r v) s = .next t ∧ t.sqEn r = true ∧ t.sqState r = 1 ∧ t.sqCi r = 0 ∧ t.sqKind r = getBits v 30 28 ∧ (t.sq r).bufs = [] ∧ (t.sq r).taken = (s.sq r).taken ∧ OnlyTouches [.regs, .hq] s t) ∧
    (∀ (r : Ring) (v : Word) (s : State),
      s.closed 0x420000 = false →
      s.sqEn r = true →
      getBits v 31 31 = 0 →
      ∃ t, exec (.ringDisable false r v) s = .next t ∧ t.sqEn r = false ∧ t.sqState r = (if (s.sq r).taken = [] then 0 else 6) ∧ (t.sq r).taken = (s.sq r).taken ∧ t.chip = s.chip) ∧
    (∀ (r : Ring) (v : Word) (s : State),
      s.closed 0x420000 = false →
      s.cqEn r = true →
      getBits v 31 31 = 0 →
      s.cqEvent r = true ∨ (s.cqNamed r = false ∧ s.cqReserved r = 0) →
      ∃ t, exec (.ringDisable true r v) s = .next t ∧ t.cqEn r = false ∧ t.bit (cqOff r + 0x20) 29 = false ∧ t.hq = s.hq) ∧
    (∀ (r : Ring) (v : Word) (s : State),
      s.closed 0x420000 = false →
      s.cqEn r = true →
      getBits v 31 31 = 0 →
      s.cqEvent r = false →
      s.cqNamed r = true ∨ s.cqReserved r ≠ 0 →
      ∃ t, exec (.ringDisable true r v) s = .next t ∧ t.cqEn r = true ∧ (t.source 0xF801).cause = true ∧ (t.source 0xF801).cls = .n ∧ t.hq = s.hq ∧ t.chip = s.chip) ∧
    (∀ (r : Ring) (v : Word) (s : State),
      s.closed 0x420000 = false →
      s.cqEn r = false →
      getBits v 31 31 = 1 →
      depthOk (getBits v 28 24) = false →
      ∃ t, exec (.ringEnable true r v) s = .next t ∧ t.cqEn r = false ∧ (t.source 0xF801).cause = true ∧ (t.source 0xF801).cls = .n ∧ t.hq = s.hq) ∧
    (∀ (r : Ring) (v : Word) (s : State),
      s.closed 0x420000 = false →
      s.sqEn r = false →
      getBits v 31 31 = 1 →
      depthOk (getBits v 27 23) = false ∨ s.cqEn (getBits v 22 11) = false ∨ s.cqEvent (getBits v 22 11) = true ∨ s.sqState r = 6 →
      ∃ t, exec (.ringEnable false r v) s = .next t ∧ t.sqEn r = false ∧ (t.source 0xF801).cause = true ∧ (t.source 0xF801).cls = .n ∧ t.hq = s.hq) ∧
    (∀ (cq : Bool) (r : Ring) (v : Word) (s : State),
      s.closed 0x420000 = true →
      ∃ t, exec (.ringEnable cq r v) s = .next t ∧ t = s) ∧
    (∀ (cq : Bool) (r : Ring) (v : Word) (s : State),
      s.closed 0x420000 = true →
      ∃ t, exec (.ringDisable cq r v) s = .next t ∧ t = s) ∧
    (∀ (rate width : Nat) (cis : List (Option Word)) (s : State),
      s.chip.pcieRefLost = true →
      ∃ t, exec (.pcieLinkUp rate width cis) s = .next t ∧ t = s) ∧
    (∀ (rate width : Nat) (cis : List (Option Word)) (s : State),
      s.chip.pcieRefLost = false →
      ∃ t, exec (.pcieLinkUp rate width cis) s = .next t ∧ t.hq.pcieUp = true ∧ t.hq.pcieRate = rate ∧ t.hq.pcieWidth = width ∧ t.hq.busMaster = s.hq.busMaster ∧ (rate < 16 → (t.source hostSource).cause = true ∧ (t.source hostSource).cls = .n) ∧ (16 ≤ rate → t.fc = s.fc) ∧ t.chip = s.chip) ∧
    (∀ (v : Fin 2048) (s : State),
      s.hostOn = true →
      s.bit (0x418000 + v.val / 32 * 4) (v.val % 32) = true →
      ∃ t, exec (.msixVectorUnmask v) s = .next t ∧ t.emitted = .msix v ((s.reg (0x410004 + v.val * 0x10)).toNat * 2 ^ 32 + (s.reg (0x410000 + v.val * 0x10)).toNat) (s.reg (0x410008 + v.val * 0x10)) :: s.emitted ∧ t.bit (0x41000C + v.val * 0x10) 0 = false ∧ t.bit (0x418000 + v.val / 32 * 4) (v.val % 32) = false ∧ OnlyTouches [.regs, .emitted] s t) ∧
    (∀ (v : Fin 2048) (s : State),
      s.hostOn = false ∨ s.bit (0x418000 + v.val / 32 * 4) (v.val % 32) = false →
      ∃ t, exec (.msixVectorUnmask v) s = .next t ∧ t = s.setBit (0x41000C + v.val * 0x10) 0 false)

/-- A write in BAR2 that meets one doorbell starts a scan of its ring, makes a running one read PI again, or, without the
bus, lets the ring wait for it; a ring that does not run or is a receive ring takes none. A scan that finds no entry
ends its turn; one plain command that is owned and sound is taken, with a completion slot reserved, and handed to its
service; a scan that has not been started changes nothing. A stop of 1 ms is reported as STALL and scanned again; a
freed resource resumes the scan of a ring that waits, and only of such a ring. A receive ring reads an owned buffer
ahead. A packet whose read fails completes with its error; one that is read completes and goes to its group's queue,
or, DIRECT, to no slot queue; while no packet is read, no descriptor is free, the bus is off or the buffer pauses,
nothing changes, and a writer that gets no cell takes none. The oldest entry that is done is posted, and nothing where
none is. CI is taken with the doorbell of a completion ring, which without the bus is only armed. The timer of an
armed ring reads CI and sends the message when its oldest entry is still the same. A fault record is written in its
ring by the pair that serves it, a capture record as three entries; without room either is dropped and counted. (R371,
R376, R377, R379, R380, R382, R386, R387, R390, R394, R399) -/
def Obligations.RingsTakeAndComplete : Prop :=
    (∀ (off : BitVec 19) (len : Fin 64) (cis : List (Option Word)) (r : Ring) (s : State),
      doorbellsOf off.toNat (len.val + 1) = [r.val] →
      s.sqRuns r = true →
      s.sqKind r ≤ 2 →
      s.hostOn = true →
      s.sqState r ≠ 2 →
      ∃ t, exec (.sqDoorbell off len cis) s = .next t ∧ t.sqState r = 2 ∧ t.sq r = { s.sq r with again := false } ∧ OnlyTouches [.regs, .hq] s t) ∧
    (∀ (off : BitVec 19) (len : Fin 64) (cis : List (Option Word)) (r : Ring) (s : State),
      doorbellsOf off.toNat (len.val + 1) = [r.val] →
      s.sqRuns r = true →
      s.sqKind r ≤ 2 →
      s.hostOn = false →
      ∃ t, exec (.sqDoorbell off len cis) s = .next t ∧ t.sqState r = 3 ∧ t.sqCause r = 5 ∧ OnlyTouches [.regs] s t) ∧
    (∀ (off : BitVec 19) (len : Fin 64) (cis : List (Option Word)) (r : Ring) (s : State),
      doorbellsOf off.toNat (len.val + 1) = [r.val] →
      s.sqRuns r = false ∨ 3 ≤ s.sqKind r →
      ∃ t, exec (.sqDoorbell off len cis) s = .next t ∧ t = s) ∧
    (∀ (off : BitVec 19) (len : Fin 64) (cis : List (Option Word)) (r : Ring) (s : State),
      doorbellsOf off.toNat (len.val + 1) = [r.val] →
      s.sqRuns r = true →
      s.sqKind r ≤ 2 →
      s.hostOn = true →
      s.sqState r = 2 →
      ∃ t, exec (.sqDoorbell off len cis) s = .next t ∧ t.sq r = { s.sq r with again := true } ∧ OnlyTouches [.hq] s t) ∧
    (∀ (r : Ring) (entries : List EntryRead) (ci : Option Word) (s : State),
      s.sqEn r = true →
      s.sqState r = 2 →
      s.sqKind r ≤ 2 →
      s.hostOn = true →
      s.sqKind r = 2 ∨ s.groupServed 0 = true →
      ∃ t, exec (.sqScan r (some (s.sqCi r)) entries ci) s = .next t ∧ t.sqState r = (if (s.sq r).again then 2 else 1) ∧ t.sqCi r = s.sqCi r ∧ t.sq r = { s.sq r with since := none, stalled := false, again := false } ∧ t.chip = s.chip ∧ t.fc = s.fc) ∧
    (∀ (r : Ring) (e : List Byte) (ci : Option Word) (s : State),
      s.sqEn r = true →
      s.sqState r = 2 →
      s.sqKind r = 0 →
      s.hostOn = true →
      s.groupServed 0 = true →
      entryByte e 0 % 2 = phaseOf (s.sqCi r) (s.sqLog r) →
      s.missing r e = 0 →
      s.entryCode r (s.sqCi r) e = 0 →
      ∃ t, exec (.sqScan r (some (s.sqCi r + 1)) [some e] ci) s = .next t ∧ t.sqCi r = s.sqCi r + 1 ∧ (t.sq r).taken = (s.sq r).taken ++ [{ idx := s.sqCi r, tag := entryField e 2 2, work := .command, done := none }] ∧
      (t.sq r).calls = (s.sq r).calls ++ [{ idx := s.sqCi r, body := sliceBytes e 8 56 }] ∧ t.cqReserved (s.sqCq r) = s.cqReserved (s.sqCq r) + 1 ∧ t.jrn = s.jrn) ∧
    (∀ (r : Ring) (pi : Option Word) (entries : List EntryRead) (ci : Option Word) (s : State),
      s.sqEn r = false ∨ s.sqState r ≠ 2 ∨ 2 < s.sqKind r ∨ s.hostOn = false ∨ (s.sqKind r ≠ 2 ∧ s.groupServed 0 = false) →
      ∃ t, exec (.sqScan r pi entries ci) s = .next t ∧ t = s) ∧
    (∀ (r : Ring) (s : State),
      (s.sq r).since = none ∨ s.sqRuns r = false ∨ s.sqState r = 2 ∨ s.sqState r = 3 →
      ∃ t, exec (.sqRescanTimer r) s = .next t ∧ t = s) ∧
    (∀ (r : Ring) (t0 : Nat) (s : State),
      s.sqRuns r = true →
      s.sqKind r ≤ 2 →
      s.hostOn = true →
      (s.sq r).since = some t0 →
      s.sqState r ≠ 2 →
      s.sqState r ≠ 3 →
      t0 + 1000000 ≤ s.now →
      (s.sq r).stalled = false →
      ∃ t, exec (.sqRescanTimer r) s = .next t ∧ (t.sq r).stalled = true ∧ t.bit (sqOff r + 0x1C) 24 = true ∧ t.sqState r = 2 ∧ OnlyTouches [.regs, .emitted, .hq] s t) ∧
    (∀ (r : Ring) (s : State),
      s.sqRuns r = true →
      s.sqKind r ≤ 2 →
      s.hostOn = true →
      s.sqState r = 3 →
      ∃ t, exec (.sqResourceFree r) s = .next t ∧ t.sqState r = 2 ∧ OnlyTouches [.regs, .hq] s t) ∧
    (∀ (r : Ring) (s : State),
      s.sqState r ≠ 3 ∨ s.sqRuns r = false ∨ 3 ≤ s.sqKind r →
      ∃ t, exec (.sqResourceFree r) s = .next t ∧ t = s) ∧
    (∀ (r : Ring) (pi : Option Word) (entries : List EntryRead) (s : State),
      s.sqRuns r = false ∨ s.sqKind r ≠ 3 ∨ s.hostOn = false →
      ∃ t, exec (.rxRingReadAhead r pi entries) s = .next t ∧ t = s) ∧
    (∀ (r : Ring) (entries : List EntryRead) (s : State),
      s.sqRuns r = true →
      s.sqKind r = 3 →
      s.hostOn = true →
      ∃ t, exec (.rxRingReadAhead r none entries) s = .next t ∧ t.bit 0x400004 16 = true ∧ t.sqState r = 5 ∧ t.bit (sqOff r + 0x1C) 25 = true ∧ (t.source hostSource).cause = true ∧ (t.source hostSource).cls = .n ∧ t.hq = s.hq) ∧
    (∀ (r : Ring) (pi : Word) (e : List Byte) (s : State),
      s.sqRuns r = true →
      s.sqKind r = 3 →
      s.hostOn = true →
      s.badPi r pi = false →
      s.sqCi r + BitVec.ofNat 32 (s.sq r).bufs.length ≠ pi →
      (s.sq r).bufs.length < 16 →
      entryByte e 0 % 2 = phaseOf (s.sqCi r + BitVec.ofNat 32 (s.sq r).bufs.length) (s.sqLog r) →
      ∃ t, exec (.rxRingReadAhead r (some pi) [some e]) s = .next t ∧ t.sq r = { s.sq r with bufs := (s.sq r).bufs ++ [{ idx := s.sqCi r + BitVec.ofNat 32 (s.sq r).bufs.length, tag := entryField e 2 2, addr := entryField e 8 8, len := entryField e 16 4, code := s.entryCode r (s.sqCi r + BitVec.ofNat 32 (s.sq r).bufs.length) e }] } ∧ t.sqCi r = s.sqCi r ∧ OnlyTouches [.regs, .hq] s t) ∧
    (∀ (r : Ring) (full : List (Fin 256)) (x : Taken) (w : TxWork) (s : State),
      s.hostOn = true →
      s.bufferPaused = false →
      (s.sq r).reading = some (x, w) →
      ∃ t, exec (.txPacketReadDone r none full) s = .next t ∧ t.bit 0x400004 16 = true ∧ (∀ y ∈ (t.sq r).taken, y.idx = x.idx → y.done.isSome = true) ∧ t.buf = { s.buf with hostUse := s.buf.hostUse - txCells w.len } ∧ OnlyTouches [.regs, .buf, .hq] s t) ∧
    (∀ (r : Ring) (b : List Byte) (full : List (Fin 256)) (x : Taken) (w : TxWork) (u v : State) (d : Nat) (s : State),
      s.hostOn = true →
      s.bufferPaused = false →
      (s.sq r).reading = some (x, w) →
      w.direct = false →
      s.allocDesc = some (u, d) →
      ((u.hostFrame r d w).writeHostCells d (dieOf ((u.hostFrame r d w).info d).port) (full.map Fin.val) (sliceBytes b 0 w.len ++ ethFcs (sliceBytes b 0 w.len)) (txCells w.len)) = (v, true) →
      ∃ t, exec (.txPacketReadDone r (some b) full) s = .next t ∧ (∀ y ∈ (t.sq r).taken, y.idx = x.idx → y.done.isSome = true) ∧ t.hostQueue (portGroup (v.info d).port) = v.hostQueue (portGroup (v.info d).port) ++ [d] ∧ t.buf = v.buf ∧ t.hostMem = s.hostMem) ∧
    (∀ (r : Ring) (b : List Byte) (full : List (Fin 256)) (x : Taken) (w : TxWork) (u v : State) (d : Nat) (s : State),
      s.hostOn = true →
      s.bufferPaused = false →
      (s.sq r).reading = some (x, w) →
      w.direct = true →
      s.allocDesc = some (u, d) →
      ((u.hostFrame r d w).writeHostCells d (dieOf ((u.hostFrame r d w).info d).port) (full.map Fin.val) (sliceBytes b 0 w.len ++ ethFcs (sliceBytes b 0 w.len)) (txCells w.len)) = (v, true) →
      ∃ t, exec (.txPacketReadDone r (some b) full) s = .next t ∧ (∀ y ∈ (t.sq r).taken, y.idx = x.idx → y.done.isSome = true) ∧ (∀ g, t.hostQueue g = v.hostQueue g) ∧ t.hostMem = s.hostMem) ∧
    (∀ (r : Ring) (b : List Byte) (full : List (Fin 256)) (x : Taken) (w : TxWork) (u v : State) (d : Nat) (s : State),
      s.hostOn = true →
      s.bufferPaused = false →
      (s.sq r).reading = some (x, w) →
      s.allocDesc = some (u, d) →
      ((u.hostFrame r d w).writeHostCells d (dieOf ((u.hostFrame r d w).info d).port) (full.map Fin.val) (sliceBytes b 0 w.len ++ ethFcs (sliceBytes b 0 w.len)) (txCells w.len)) = (v, false) →
      ∃ t, exec (.txPacketReadDone r (some b) full) s = .next t ∧ t.rx.info = s.rx.info ∧ t.buf.desc = s.buf.desc ∧ t.hq = s.hq ∧ t.ord = s.ord ∧ OnlyTouches [.regs, .counters, .emitted, .freeCount, .fc, .buf, .pierTx] s t) ∧
    (∀ (r : Ring) (bytes : Option (List Byte)) (full : List (Fin 256)) (s : State),
      s.hostOn = false ∨ s.bufferPaused = true ∨ (s.sq r).reading = none ∨ (bytes.isSome = true ∧ s.allocDesc = none) →
      ∃ t, exec (.txPacketReadDone r bytes full) s = .next t ∧ t = s) ∧
    (∀ (r : Ring) (ci : Option Word) (x : Taken) (rest : List Taken) (d : Done) (s : State),
      s.hostOn = true →
      (s.sq r).taken = x :: rest →
      s.postable x = some d →
      ∃ t, exec (.completionPost r ci) s = .next t ∧ (t.sq r).taken = rest ∧ t.cqPi (s.sqCq r) = s.cqPi (s.sqCq r) + 1 ∧ t.cqCi (s.sqCq r) = ci.getD (s.cqCi (s.sqCq r)) ∧ t.cqReserved (s.sqCq r) = s.cqReserved (s.sqCq r) - 1 ∧
      t.hostMem = ((s.writeEntry (s.sqCq r) 1 x.tag 0 (leBytes 2 r ++ leBytes 1 d.code ++ leBytes 1 d.detail ++ leBytes 4 x.idx.toNat ++ sliceBytes d.result 0 48)).writePi (s.sqCq r)).hostMem ∧ OnlyTouches [.regs, .counters, .hostMem, .emitted, .hq] s t) ∧
    (∀ (r : Ring) (ci : Option Word) (s : State),
      s.hostOn = false ∨ (s.sq r).taken.head?.bind s.postable = none →
      ∃ t, exec (.completionPost r ci) s = .next t ∧ t = s) ∧
    (∀ (off : BitVec 19) (len : Fin 64) (r : Ring) (cis : List (Option Word)) (s : State),
      doorbellsOf off.toNat (len.val + 1) = [4096 + r.val] →
      s.cqEn r = false ∨ s.hostOn = false →
      ∃ t, exec (.cqDoorbell off len cis) s = .next t ∧ t = (if s.cqEn r then s.setBit (cqOff r + 0x20) 29 true else s)) ∧
    (∀ (off : BitVec 19) (len : Fin 64) (r : Ring) (ci : Word) (rest : List (Option Word)) (s : State),
      doorbellsOf off.toNat (len.val + 1) = [4096 + r.val] →
      s.cqEn r = true →
      s.hostOn = true →
      ∃ t, exec (.cqDoorbell off len (some ci :: rest)) s = .next t ∧ t.cqCi r = ci ∧ t.cqPi r = s.cqPi r ∧ t.bit (cqOff r + 0x20) 28 = decide (t.cqFree r = 0) ∧ OnlyTouches [.regs, .emitted] s t) ∧
    (∀ (r : Ring) (ci : Option Word) (s : State),
      s.cqEn r = true →
      s.bit (cqOff r + 0x18) 29 = true →
      s.bit (cqOff r + 0x20) 29 = true →
      s.cqUnread r ≠ 0 →
      s.hostOn = true →
      ci = none ∨ ci = some (s.cqCi r) →
      ∃ t, exec (.cqCoalTimer r ci) s = .next t ∧ t.bit (cqOff r + 0x20) 29 = false ∧ t.cqPi r = s.cqPi r ∧ t.cqCi r = s.cqCi r ∧ (s.bit (0x41000C + s.fld (cqOff r + 0x18) 10 0 * 0x10) 0 = true → t.emitted = s.emitted ∧ t.bit (0x418000 + s.fld (cqOff r + 0x18) 10 0 / 32 * 4) (s.fld (cqOff r + 0x18) 10 0 % 32) = true) ∧
      (s.bit (0x41000C + s.fld (cqOff r + 0x18) 10 0 * 0x10) 0 = false → t.emitted.length = s.emitted.length + 1) ∧ OnlyTouches [.regs, .emitted] s t) ∧
    (∀ (r : Ring) (v : Word) (s : State),
      s.cqEn r = true →
      s.bit (cqOff r + 0x18) 29 = true →
      s.bit (cqOff r + 0x20) 29 = true →
      s.cqUnread r ≠ 0 →
      s.hostOn = true →
      v ≠ s.cqCi r →
      ∃ t, exec (.cqCoalTimer r (some v)) s = .next t ∧ t.cqCi r = v ∧ t.cqPi r = s.cqPi r ∧ ((s.readCi r (some v)).cqDue r = false → t.emitted = s.emitted ∧ t.bit (cqOff r + 0x20) 29 = true) ∧ ((s.readCi r (some v)).cqDue r = true → t.bit (cqOff r + 0x20) 29 = false) ∧ OnlyTouches [.regs, .emitted] s t) ∧
    (∀ (r : Ring) (ci : Option Word) (s : State),
      s.cqEn r = false ∨ s.bit (cqOff r + 0x18) 29 = false ∨ s.bit (cqOff r + 0x20) 29 = false ∨ s.cqUnread r = 0 ∨ s.hostOn = false →
      ∃ t, exec (.cqCoalTimer r ci) s = .next t ∧ t = s) ∧
    (∀ (ci : Word) (f : FaultRecord) (rest : List FaultRecord) (s : State),
      s.groupServed 1 = true →
      s.buf.found = [] →
      s.fc.records = f :: rest →
      s.bit 0x400000 31 = true →
      s.eventRoom (s.fld 0x400000 11 0) 1 = true →
      ∃ t, exec (.eventRecordWrite false (some ci)) s = .next t ∧ t.fc.records = rest ∧ t.cqPi (s.fld 0x400000 11 0) = s.cqPi (s.fld 0x400000 11 0) + 1 ∧ t.cqCi (s.fld 0x400000 11 0) = ci ∧ OnlyTouches [.regs, .counters, .freeCount, .buf, .hostMem, .emitted, .fc] s t) ∧
    (∀ (ci : Word) (x : CaptureRec) (rest : List CaptureRec) (s : State),
      s.buf.found = [] →
      s.hq.captures = x :: rest →
      x.ring < 4096 →
      x.session < 64 →
      s.eventRoom x.ring 3 = true →
      ∃ t, exec (.eventRecordWrite true (some ci)) s = .next t ∧ t.hq = { s.hq with captures := rest } ∧ t.cqPi x.ring = s.cqPi x.ring + 3 ∧ t.cqCi x.ring = ci ∧ t.counter (cMirror x.session 2) = (s.counter (cMirror x.session 2) + 1) % 2 ^ 64 ∧ OnlyTouches [.regs, .counters, .freeCount, .fc, .buf, .hostMem, .emitted, .hq] s t) ∧
    (∀ (ci : Option Word) (f : FaultRecord) (rest : List FaultRecord) (s : State),
      s.groupServed 1 = true →
      s.buf.found = [] →
      s.fc.records = f :: rest →
      s.bit 0x400000 31 = false ∨ s.eventRoom (s.fld 0x400000 11 0) 1 = false →
      ∃ t, exec (.eventRecordWrite false ci) s = .next t ∧ t.fc.records = rest ∧ t.hostMem = s.hostMem ∧ t.emitted = s.emitted ∧ t.fld 0x400004 15 0 = (if s.bit 0x400000 31 then min (s.fld 0x400004 15 0 + 1) 0xFFFF else s.fld 0x400004 15 0) ∧ OnlyTouches [.regs, .counters, .freeCount, .buf, .fc] s t) ∧
    (∀ (ci : Option Word) (x : CaptureRec) (rest : List CaptureRec) (s : State),
      s.buf.found = [] →
      s.hq.captures = x :: rest →
      x.session < 64 →
      s.eventRoom x.ring 3 = false →
      ∃ t, exec (.eventRecordWrite true ci) s = .next t ∧ t.hq = { s.hq with captures := rest } ∧ t.hostMem = s.hostMem ∧ t.emitted = s.emitted ∧ t.counter (cMirror x.session 5) = (s.counter (cMirror x.session 5) + 1) % 2 ^ 64 ∧ OnlyTouches [.regs, .counters, .freeCount, .fc, .buf, .hq] s t) ∧
    (∀ (capture : Bool) (ci : Option Word) (s : State),
      s.buf.found = [] →
      (capture = true ∧ s.hq.captures = []) ∨ (capture = false ∧ (s.groupServed 1 = false ∨ s.fc.records = [])) →
      ∃ t, exec (.eventRecordWrite capture ci) s = .next t ∧ t = s)

/-- A comparator mismatch or an expired watchdog halts a running pair, fences it and latches class S against the pair
while the other runs, and nothing when the pair does not run; without the other the safe state follows. A takeover of
an owed pair is started once: the survivor's takeover interrupt becomes pending and is taken where it may be, and
where the pair ran host commands every plain one is completed; its end leaves no service with the failed pair, counts
it, and shows the other RUNNING. A halted pair that is reinstated runs its self-test from a cleared state, stands by
when it passes and stays halted with a class-N fault when it does not; a pair that stands by returns to its own
services; either request in another state only latches class N. Sealed by a warm reset neither write acts. (R404,
R406, R407, R408, R422, R423, R424, R452) -/
def Obligations.KeystonePairsFailAndReturn : Prop :=
    (∀ (p : Fin 2) (s : State),
      s.kcRuns p = true →
      s.kcRuns (1 - p.val) = true →
      ∃ t, exec (.keystoneComparatorMismatch p) s = .next t ∧ t.ksState p = 2 ∧ t.fenced (partyPair p) = true ∧ (t.source (srcChip (0x0F + p.val) 0)).cause = true ∧ (t.source (srcChip (0x0F + p.val) 0)).cls = .s ∧ (∀ x, x ≠ (srcChip (0x0F + p.val) 0) → t.source x = s.source x) ∧ t.bit (0x700010 + p.val * 0x10) 22 = true ∧ t.chip = s.chip) ∧
    (∀ (p : Fin 2) (s : State),
      s.kcRuns p = true →
      s.kcRuns (1 - p.val) = false →
      s.chip.mode ≠ .off →
      s.fc.injNext ≠ some (srcChip (0x0F + p.val) 0) ∨ s.fc.injQuiet = false →
      s.chip.lockColl.phase = .paired →
      ∃ t, exec (.keystoneComparatorMismatch p) s = .next t ∧ t.chip.mode = .safe ∧ t.ksState p = 2) ∧
    (∀ (p : Fin 2) (s : State),
      s.kcRuns p = false →
      ∃ t, exec (.keystoneComparatorMismatch p) s = .next t ∧ t = s) ∧
    (∀ (p : Fin 2) (s : State),
      s.kcRuns p = true →
      s.kcRuns (1 - p.val) = true →
      ∃ t, exec (.keystoneWatchdogExpire p) s = .next t ∧ t.ksState p = 2 ∧ t.fenced (partyPair p) = true ∧ (t.source (srcChip (0x0F + p.val) 2)).cause = true ∧ (t.source (srcChip (0x0F + p.val) 2)).cls = .s ∧ (∀ x, x ≠ (srcChip (0x0F + p.val) 2) → t.source x = s.source x) ∧ t.bit (0x700010 + p.val * 0x10) 21 = true ∧ t.chip = s.chip) ∧
    (∀ (p : Fin 2) (s : State),
      s.kcRuns p = true →
      s.kcRuns (1 - p.val) = false →
      s.chip.mode ≠ .off →
      s.fc.injNext ≠ some (srcChip (0x0F + p.val) 2) ∨ s.fc.injQuiet = false →
      s.chip.lockColl.phase = .paired →
      ∃ t, exec (.keystoneWatchdogExpire p) s = .next t ∧ t.chip.mode = .safe ∧ t.ksState p = 2) ∧
    (∀ (p : Fin 2) (s : State),
      s.kcRuns p = false →
      ∃ t, exec (.keystoneWatchdogExpire p) s = .next t ∧ t = s) ∧
    (∀ (p : Fin 2) (s : State),
      s.owesTakeover p = true →
      s.ks.taking.contains p.val = false →
      ({ s.kc (1 - p.val) with irq := (s.kc (1 - p.val)).irq ||| 1#64 <<< (Config.takeoverSource % 64) } : KcPair).interrupt = none →
      ∃ t, exec (.keystoneTakeoverStart p) s = .next t ∧ p.val ∈ t.ks.taking ∧ t.kc p = s.kc p ∧ t.kc (1 - p.val) = { s.kc (1 - p.val) with irq := (s.kc (1 - p.val)).irq ||| 1#64 <<< (Config.takeoverSource % 64) } ∧ (s.groupPair 0 = p.val → ∀ r, ∀ c ∈ (s.sq r).calls, c.lsn = none → ∀ y ∈ (t.sq r).taken, y.idx = c.idx → y.done.isSome = true) ∧ OnlyTouches [.trestle, .hq, .ks] s t) ∧
    (∀ (p : Fin 2) (i : Nat) (s : State),
      s.owesTakeover p = true →
      s.ks.taking.contains p.val = false →
      ({ s.kc (1 - p.val) with irq := (s.kc (1 - p.val)).irq ||| 1#64 <<< (Config.takeoverSource % 64) } : KcPair).interrupt = some i →
      ∃ t, exec (.keystoneTakeoverStart p) s = .next t ∧ p.val ∈ t.ks.taking ∧ t.kc p = s.kc p ∧ (t.kc (1 - p.val)).epc = (s.kc (1 - p.val)).pc ∧ (t.kc (1 - p.val)).ecause = BitVec.ofNat 8 (0x40 + i) ∧ (t.kc (1 - p.val)).tactive = true ∧ (t.kc (1 - p.val)).pc = Config.kcVector (BitVec.ofNat 8 (0x40 + i)) ∧ OnlyTouches [.trestle, .hq, .ks] s t) ∧
    (∀ (p : Fin 2) (s : State),
      s.owesTakeover p = false ∨ s.ks.taking.contains p.val = true →
      ∃ t, exec (.keystoneTakeoverStart p) s = .next t ∧ t = s) ∧
    (∀ (p : Fin 2) (s : State),
      s.owesTakeover p = true →
      s.ks.taking.contains p.val = true →
      ∃ t, exec (.keystoneTakeoverDone p) s = .next t ∧ p.val ∉ t.ks.taking ∧ t.groupPair 0 ≠ p.val ∧ t.groupPair 1 ≠ p.val ∧ t.ksState (1 - p.val) = 1 ∧ t.ksState p = s.ksState p ∧ t.fld 0x700000 31 16 = (s.fld 0x700000 31 16 + 1) % 2 ^ 16 ∧ OnlyTouches [.regs, .emitted, .fc, .ks] s t) ∧
    (∀ (p : Fin 2) (s : State),
      s.owesTakeover p = false ∨ s.ks.taking.contains p.val = false →
      ∃ t, exec (.keystoneTakeoverDone p) s = .next t ∧ t = s) ∧
    (∀ (v : Word) (s : State),
      s.closed 0x700004 = false →
      getBits v 1 1 = 1 →
      getBits v 2 2 = 0 →
      s.ksState (getBits v 0 0) = 2 →
      ∃ t, exec (.keystoneReinstate v) s = .next t ∧ t.ksState (getBits v 0 0) = 3 ∧ t.kc (getBits v 0 0) = {} ∧ t.kc (1 - getBits v 0 0) = s.kc (1 - getBits v 0 0) ∧ t.ksState (1 - getBits v 0 0) = s.ksState (1 - getBits v 0 0) ∧ OnlyTouches [.regs, .ks] s t) ∧
    (∀ (v : Word) (s : State),
      s.closed 0x700004 = false →
      getBits v 1 1 = 1 →
      getBits v 2 2 = 0 →
      s.ksState (getBits v 0 0) ≠ 2 →
      ∃ t, exec (.keystoneReinstate v) s = .next t ∧ (∀ p, p < 2 → t.ksState p = s.ksState p) ∧ t.ks = s.ks ∧ (t.source (srcChip 0 1)).cause = true ∧ (t.source (srcChip 0 1)).cls = .n) ∧
    (∀ (v : Word) (s : State),
      s.closed 0x700004 = true →
      ∃ t, exec (.keystoneReinstate v) s = .next t ∧ t = s) ∧
    (∀ (v : Word) (s : State),
      s.closed 0x700004 = false →
      getBits v 1 1 = 0 →
      getBits v 2 2 = 1 →
      s.ksState (getBits v 0 0) = 4 →
      ∃ t, exec (.keystoneReturn v) s = .next t ∧ t.ksState (getBits v 0 0) = 1 ∧ t.groupPair (getBits v 0 0) = getBits v 0 0 ∧ t.groupPair (1 - getBits v 0 0) = s.groupPair (1 - getBits v 0 0) ∧ t.ks = s.ks ∧ OnlyTouches [.regs, .fc] s t) ∧
    (∀ (v : Word) (s : State),
      s.closed 0x700004 = false →
      getBits v 1 1 = 0 →
      getBits v 2 2 = 1 →
      s.ksState (getBits v 0 0) ≠ 4 →
      ∃ t, exec (.keystoneReturn v) s = .next t ∧ (∀ p, p < 2 → t.ksState p = s.ksState p) ∧ t.ks = s.ks ∧ (t.source (srcChip 0 1)).cause = true ∧ (t.source (srcChip 0 1)).cls = .n) ∧
    (∀ (v : Word) (s : State),
      s.closed 0x700004 = true →
      ∃ t, exec (.keystoneReturn v) s = .next t ∧ t = s) ∧
    (∀ (p : Fin 2) (s : State),
      s.ksState p = 3 →
      ∃ t, exec (.keystoneSelftestDone p true) s = .next t ∧ t.ksState p = 4 ∧ t.fenced (partyPair p) = false ∧ t.ks = s.ks ∧ OnlyTouches [.regs, .fc] s t) ∧
    (∀ (p : Fin 2) (s : State),
      s.ksState p = 3 →
      ∃ t, exec (.keystoneSelftestDone p false) s = .next t ∧ t.ksState p = 2 ∧ (t.source (srcChip (0x0F + p.val) 0)).cause = true ∧ (t.source (srcChip (0x0F + p.val) 0)).cls = .n ∧ (∀ x, x ≠ (srcChip (0x0F + p.val) 0) → t.source x = s.source x) ∧ t.ks = s.ks ∧ t.chip = s.chip) ∧
    (∀ (p : Fin 2) (passed : Bool) (s : State),
      s.ksState p ≠ 3 →
      ∃ t, exec (.keystoneSelftestDone p passed) s = .next t ∧ t = s)

/-- On a pair that runs, a CALL with room takes the next of fifteen windows with the return address in its h15, a RET goes
back; at the ends of the depth they trap with causes 6 and 7. WSAVE writes the sixteen registers at the spill pointer,
WLOAD reads them back, and a pointer at its bound traps with cause 3. A trap saves pc and cause and goes to its
vector; a trap inside a handler, a CALL among them, halts the pair. TEXIT goes back to the saved pc, and an interrupt
that may be taken is taken at that boundary. Of the causes of a boundary the first that is no interrupt traps, and
every line stays pending until it is taken; a line that may be taken is taken at once. A pair that does not run
executes nothing. (R409, R410, R411, R412, R413, R414) -/
def Obligations.FrameWindowsAndTraps : Prop :=
    (∀ (p : Fin 2) (target ret : DWord) (s : State),
      s.kcRuns p = true →
      (s.kc p).tactive = false →
      (s.kc p).depth ≠ 15 →
      ∃ t, exec (.call p target ret) s = .next t ∧ t.kc p = { (s.kc p).setH (((s.kc p).wsel + 1) % 15) 15 ret with wsel := ((s.kc p).wsel + 1) % 15, depth := (s.kc p).depth + 1, pc := target } ∧ (∀ q : Fin 2, q ≠ p → t.kc q = s.kc q) ∧ OnlyTouches [.ks] s t) ∧
    (∀ (p : Fin 2) (target ret : DWord) (s : State),
      s.kcRuns p = true →
      (s.kc p).tactive = false →
      (s.kc p).depth = 15 →
      ∃ t, exec (.call p target ret) s = .next t ∧ t.kc p = { s.kc p with epc := (s.kc p).pc, ecause := BitVec.ofNat 8 6, tactive := true, pc := Config.kcVector (BitVec.ofNat 8 6) } ∧ (∀ q : Fin 2, q ≠ p → t.kc q = s.kc q) ∧ OnlyTouches [.ks] s t) ∧
    (∀ (p : Fin 2) (target ret : DWord) (s : State),
      s.kcRuns p = true →
      (s.kc p).tactive = true →
      s.kcRuns (1 - p.val) = true →
      ∃ t, exec (.call p target ret) s = .next t ∧ t.ksState p = 2 ∧ t.fenced (partyPair p) = true ∧ (t.source (srcChip (0x0F + p.val) 1)).cause = true ∧ (t.source (srcChip (0x0F + p.val) 1)).cls = .s ∧ (∀ x, x ≠ (srcChip (0x0F + p.val) 1) → t.source x = s.source x) ∧ t.fld (0x700010 + p.val * 0x10) 31 24 = 2 ∧ t.bit (0x700010 + p.val * 0x10) 23 = true ∧ t.chip = s.chip) ∧
    (∀ (p : Fin 2) (target ret : DWord) (s : State),
      s.kcRuns p = false →
      ∃ t, exec (.call p target ret) s = .next t ∧ t = s) ∧
    (∀ (p : Fin 2) (s : State),
      s.kcRuns p = true →
      (s.kc p).tactive = true →
      (s.kc p).depth = 1 →
      s.kcRuns (1 - p.val) = true →
      ∃ t, exec (.ret p) s = .next t ∧ t.ksState p = 2 ∧ t.fenced (partyPair p) = true ∧ (t.source (srcChip (0x0F + p.val) 1)).cause = true ∧ (t.source (srcChip (0x0F + p.val) 1)).cls = .s ∧ (∀ x, x ≠ (srcChip (0x0F + p.val) 1) → t.source x = s.source x) ∧ t.fld (0x700010 + p.val * 0x10) 31 24 = 7 ∧ t.bit (0x700010 + p.val * 0x10) 23 = true ∧ t.chip = s.chip) ∧
    (∀ (p : Fin 2) (s : State),
      s.kcRuns p = false →
      ∃ t, exec (.ret p) s = .next t ∧ t = s) ∧
    (∀ (p : Fin 2) (s : State),
      s.kcRuns p = true →
      (s.kc p).depth ≠ 1 →
      ∃ t, exec (.ret p) s = .next t ∧ t.kc p = { s.kc p with pc := (s.kc p).h (s.kc p).window 15, wsel := ((s.kc p).wsel + 14) % 15, depth := (s.kc p).depth - 1 } ∧ (∀ q : Fin 2, q ≠ p → t.kc q = s.kc q) ∧ OnlyTouches [.ks] s t) ∧
    (∀ (p : Fin 2) (s : State),
      s.kcRuns p = true →
      (s.kc p).tactive = false →
      (s.kc p).depth = 1 →
      ∃ t, exec (.ret p) s = .next t ∧ t.kc p = { s.kc p with epc := (s.kc p).pc, ecause := BitVec.ofNat 8 7, tactive := true, pc := Config.kcVector (BitVec.ofNat 8 7) } ∧ (∀ q : Fin 2, q ≠ p → t.kc q = s.kc q) ∧ OnlyTouches [.ks] s t) ∧
    (∀ (p : Fin 2) (w : Fin 16) (s : State),
      s.kcRuns p = true →
      (s.kc p).spillFull = false →
      ∃ t, exec (.wsave p w) s = .next t ∧ (∀ i, i < 16 → (t.kc p).saved (s.kc p).spillPtr.toNat i = (s.kc p).h w i) ∧ (t.kc p).spillPtr = (s.kc p).spillPtr + 128 ∧ (∀ x i, (t.kc p).h x i = (s.kc p).h x i) ∧ (t.kc p).pc = Config.kcNext (s.kc p).pc ∧ (∀ q : Fin 2, q ≠ p → t.kc q = s.kc q) ∧ OnlyTouches [.ks] s t) ∧
    (∀ (p : Fin 2) (w : Fin 16) (s : State),
      s.kcRuns p = true →
      (s.kc p).tactive = false →
      (s.kc p).spillFull = true →
      ∃ t, exec (.wsave p w) s = .next t ∧ t.kc p = { s.kc p with epc := (s.kc p).pc, ecause := BitVec.ofNat 8 3, tactive := true, pc := Config.kcVector (BitVec.ofNat 8 3) } ∧ (∀ q : Fin 2, q ≠ p → t.kc q = s.kc q) ∧ OnlyTouches [.ks] s t) ∧
    (∀ (p : Fin 2) (w : Fin 16) (s : State),
      s.kcRuns p = true →
      (s.kc p).tactive = true →
      (s.kc p).spillFull = true →
      s.kcRuns (1 - p.val) = true →
      ∃ t, exec (.wsave p w) s = .next t ∧ t.ksState p = 2 ∧ t.fenced (partyPair p) = true ∧ (t.source (srcChip (0x0F + p.val) 1)).cause = true ∧ (t.source (srcChip (0x0F + p.val) 1)).cls = .s ∧ (∀ x, x ≠ (srcChip (0x0F + p.val) 1) → t.source x = s.source x) ∧ t.fld (0x700010 + p.val * 0x10) 31 24 = 3 ∧ t.bit (0x700010 + p.val * 0x10) 23 = true ∧ t.chip = s.chip) ∧
    (∀ (p : Fin 2) (w : Fin 16) (s : State),
      s.kcRuns p = false →
      ∃ t, exec (.wsave p w) s = .next t ∧ t = s) ∧
    (∀ (p : Fin 2) (w : Fin 16) (s : State),
      s.kcRuns p = true →
      (s.kc p).tactive = false →
      (s.kc p).spillPtr.toNat < (s.kc p).spillBase.toNat + 128 →
      ∃ t, exec (.wload p w) s = .next t ∧ t.kc p = { s.kc p with epc := (s.kc p).pc, ecause := BitVec.ofNat 8 3, tactive := true, pc := Config.kcVector (BitVec.ofNat 8 3) } ∧ (∀ q : Fin 2, q ≠ p → t.kc q = s.kc q) ∧ OnlyTouches [.ks] s t) ∧
    (∀ (p : Fin 2) (w : Fin 16) (s : State),
      s.kcRuns p = true →
      (s.kc p).tactive = true →
      (s.kc p).spillPtr.toNat < (s.kc p).spillBase.toNat + 128 →
      s.kcRuns (1 - p.val) = true →
      ∃ t, exec (.wload p w) s = .next t ∧ t.ksState p = 2 ∧ t.fenced (partyPair p) = true ∧ (t.source (srcChip (0x0F + p.val) 1)).cause = true ∧ (t.source (srcChip (0x0F + p.val) 1)).cls = .s ∧ (∀ x, x ≠ (srcChip (0x0F + p.val) 1) → t.source x = s.source x) ∧ t.fld (0x700010 + p.val * 0x10) 31 24 = 3 ∧ t.bit (0x700010 + p.val * 0x10) 23 = true ∧ t.chip = s.chip) ∧
    (∀ (p : Fin 2) (w : Fin 16) (s : State),
      s.kcRuns p = false →
      ∃ t, exec (.wload p w) s = .next t ∧ t = s) ∧
    (∀ (p : Fin 2) (w : Fin 16) (s : State),
      s.kcRuns p = true →
      (s.kc p).spillBase.toNat + 128 ≤ (s.kc p).spillPtr.toNat →
      ∃ t, exec (.wload p w) s = .next t ∧ (∀ i, i < 16 → (t.kc p).h w i = (s.kc p).saved ((s.kc p).spillPtr.toNat - 128) i) ∧ (∀ x i, x ≠ w.val → i < 16 → (t.kc p).h x i = (s.kc p).h x i) ∧ (t.kc p).spillPtr = BitVec.ofNat 64 ((s.kc p).spillPtr.toNat - 128) ∧ (t.kc p).pc = Config.kcNext (s.kc p).pc ∧ (∀ q : Fin 2, q ≠ p → t.kc q = s.kc q) ∧ OnlyTouches [.ks] s t) ∧
    (∀ (p : Fin 2) (s : State),
      s.kcRuns p = true →
      (s.kc p).tactive = true →
      ({ s.kc p with tactive := false } : KcPair).interrupt = none →
      ∃ t, exec (.texit p) s = .next t ∧ t.kc p = { s.kc p with pc := (s.kc p).epc, tactive := false, depth := (s.kc p).handlerDepth } ∧ (∀ q : Fin 2, q ≠ p → t.kc q = s.kc q) ∧ OnlyTouches [.ks] s t) ∧
    (∀ (p : Fin 2) (s : State),
      s.kcRuns p = true →
      (s.kc p).tactive = false →
      ∃ t, exec (.texit p) s = .next t ∧ t.kc p = { s.kc p with pc := (s.kc p).epc } ∧ (∀ q : Fin 2, q ≠ p → t.kc q = s.kc q) ∧ OnlyTouches [.ks] s t) ∧
    (∀ (p : Fin 2) (i : Nat) (s : State),
      s.kcRuns p = true →
      (s.kc p).tactive = true →
      ({ s.kc p with tactive := false } : KcPair).interrupt = some i →
      ∃ t, exec (.texit p) s = .next t ∧ (t.kc p).epc = (s.kc p).epc ∧ (t.kc p).ecause = BitVec.ofNat 8 (0x40 + i) ∧ (t.kc p).tactive = true ∧ (t.kc p).pc = Config.kcVector (BitVec.ofNat 8 (0x40 + i)) ∧ (t.kc p).irq.getLsbD i = false ∧ (∀ q : Fin 2, q ≠ p → t.kc q = s.kc q) ∧ OnlyTouches [.ks] s t) ∧
    (∀ (p : Fin 2) (s : State),
      s.kcRuns p = false →
      ∃ t, exec (.texit p) s = .next t ∧ t = s) ∧
    (∀ (p : Fin 2) (causes : List Byte) (c : Nat) (s : State),
      s.kcRuns p = true →
      (s.kc p).tactive = false →
      (kcFirst (causes.filter (fun x => x.toNat < 0x40)) = some c) →
      ∃ t, exec (.kcTrapEntry p causes) s = .next t ∧ t.kc p = { s.kc p with epc := (s.kc p).pc, ecause := BitVec.ofNat 8 c, tactive := true, pc := Config.kcVector (BitVec.ofNat 8 c), irq := (s.kc p).irq ||| kcLines causes } ∧ (∀ q : Fin 2, q ≠ p → t.kc q = s.kc q) ∧ OnlyTouches [.ks] s t) ∧
    (∀ (p : Fin 2) (causes : List Byte) (c : Nat) (s : State),
      s.kcRuns p = true →
      (s.kc p).tactive = true →
      (kcFirst (causes.filter (fun x => x.toNat < 0x40)) = some c) →
      s.kcRuns (1 - p.val) = true →
      ∃ t, exec (.kcTrapEntry p causes) s = .next t ∧ t.ksState p = 2 ∧ t.fenced (partyPair p) = true ∧ (t.source (srcChip (0x0F + p.val) 1)).cause = true ∧ (t.source (srcChip (0x0F + p.val) 1)).cls = .s ∧ (∀ x, x ≠ (srcChip (0x0F + p.val) 1) → t.source x = s.source x) ∧ t.fld (0x700010 + p.val * 0x10) 31 24 = c % 256 ∧ t.bit (0x700010 + p.val * 0x10) 23 = true ∧ t.chip = s.chip) ∧
    (∀ (p : Fin 2) (causes : List Byte) (s : State),
      s.kcRuns p = true →
      (kcFirst (causes.filter (fun x => x.toNat < 0x40)) = none) →
      ({ s.kc p with irq := (s.kc p).irq ||| kcLines causes } : KcPair).interrupt = none →
      ∃ t, exec (.kcTrapEntry p causes) s = .next t ∧ t.kc p = { s.kc p with irq := (s.kc p).irq ||| kcLines causes } ∧ (∀ q : Fin 2, q ≠ p → t.kc q = s.kc q) ∧ OnlyTouches [.ks] s t) ∧
    (∀ (p : Fin 2) (causes : List Byte) (i : Nat) (s : State),
      s.kcRuns p = true →
      (kcFirst (causes.filter (fun x => x.toNat < 0x40)) = none) →
      ({ s.kc p with irq := (s.kc p).irq ||| kcLines causes } : KcPair).interrupt = some i →
      ∃ t, exec (.kcTrapEntry p causes) s = .next t ∧ (t.kc p).epc = (s.kc p).pc ∧ (t.kc p).ecause = BitVec.ofNat 8 (0x40 + i) ∧ (t.kc p).tactive = true ∧ (t.kc p).pc = Config.kcVector (BitVec.ofNat 8 (0x40 + i)) ∧ (t.kc p).irq.getLsbD i = false ∧ (∀ q : Fin 2, q ≠ p → t.kc q = s.kc q) ∧ OnlyTouches [.ks] s t) ∧
    (∀ (p : Fin 2) (causes : List Byte) (s : State),
      s.kcRuns p = false →
      ∃ t, exec (.kcTrapEntry p causes) s = .next t ∧ t = s) ∧
    (∀ (p : Fin 2) (lines : DWord) (s : State),
      s.kcRuns p = true →
      ({ s.kc p with irq := (s.kc p).irq ||| lines } : KcPair).interrupt = none →
      ∃ t, exec (.kcInterrupt p lines) s = .next t ∧ t.kc p = { s.kc p with irq := (s.kc p).irq ||| lines } ∧ (∀ q : Fin 2, q ≠ p → t.kc q = s.kc q) ∧ OnlyTouches [.ks] s t) ∧
    (∀ (p : Fin 2) (lines : DWord) (i : Nat) (s : State),
      s.kcRuns p = true →
      ({ s.kc p with irq := (s.kc p).irq ||| lines }).interrupt = some i →
      ∃ t, exec (.kcInterrupt p lines) s = .next t ∧ (t.kc p).epc = (s.kc p).pc ∧ (t.kc p).ecause = BitVec.ofNat 8 (0x40 + i) ∧ (t.kc p).tactive = true ∧ (t.kc p).pc = Config.kcVector (BitVec.ofNat 8 (0x40 + i)) ∧ (t.kc p).irq.getLsbD i = false ∧ (∀ q : Fin 2, q ≠ p → t.kc q = s.kc q) ∧ OnlyTouches [.ks] s t) ∧
    (∀ (p : Fin 2) (lines : DWord) (s : State),
      s.kcRuns p = false →
      ∃ t, exec (.kcInterrupt p lines) s = .next t ∧ t = s)

/-- A sound TABLE command in a state that allows it, which for a durable one includes RECOVERY, runs as one routine.
INSERT, DELETE and MODIFY of an entry give the state their function answers, completed; a classifier rule is written,
cleared or replaced at its number in every span that takes part and no other rule changes; an entry of a direct-index
table takes its row in every such span. A function that fails completes with SERVICE_ERROR and its DETAIL with every
table as it was, and so does a table that cannot be served or a record out of format. A bad address, a failed read of
the record and a state that does not allow the command complete with their codes. A request waits with its record at a
busy engine. READ writes the record to host memory and SET_AGE sets the period or fails with its DETAIL. A ring whose
oldest command asks for something else, or cannot run now, answers nothing. (R109, R110, R121, R140, R161, R162, R391,
R392, R415, R416, R417) -/
def Obligations.TableRequestsActInEveryReplica : Prop :=
    (∀ (r : Ring) (c : Call) (b : List Byte) (u : State) (s : State),
      s.callFor r 2 1 = some c →
      statesChange s.chip.mode = true ∨ (c.lsn.isSome = true ∧ s.chip.mode = .recovery) →
      c.tableArgs.addr ≠ 0 →
      c.tableArgs.addr % 8 = 0 →
      s.tableCheck c.tableArgs = 0 →
      recordOk c.tableArgs.table (s.geometry s.refSpan c.tableArgs.table) c.tableArgs (entryRecord b) = true →
      s.engineFree (s.requestSpan c.tableArgs) = true →
      s.tableInsert c.tableArgs.table (s.geometry s.refSpan c.tableArgs.table) ({ c.tableArgs with late := s.progs.joint.isSome } : TableArgs) (entryRecord b) = .ok u →
      ∃ t, exec (.tableInsert r (some b)) s = .next t ∧ t = ((u).count (cSpan (s.requestSpan c.tableArgs) 11) 1).finishCall r { code := 0 }) ∧
    (∀ (r : Ring) (c : Call) (b : List Byte) (s : State),
      s.callFor r 2 1 = some c →
      statesChange s.chip.mode = true ∨ (c.lsn.isSome = true ∧ s.chip.mode = .recovery) →
      c.tableArgs.addr ≠ 0 →
      c.tableArgs.addr % 8 = 0 →
      s.tableCheck c.tableArgs = 0 →
      recordOk c.tableArgs.table (s.geometry s.refSpan c.tableArgs.table) c.tableArgs (entryRecord b) = true →
      s.engineFree (s.requestSpan c.tableArgs) = true →
      c.tableArgs.table = 240 →
      s.requestBusy ({ c.tableArgs with late := s.progs.joint.isSome } : TableArgs) 0 c.tableArgs.vWord = false →
      (s.rule s.refSpan c.tableArgs.index).ctl.toNat / 2 ^ 30 = 0 →
      ∃ t, exec (.tableInsert r (some b)) s = .next t ∧ (∀ n ∈ s.spansUp, t.rule n c.tableArgs.index = { value := beNat (sliceBytes b 0 32), mask := beNat (sliceBytes b 64 32), ctl := BitVec.ofNat 32 (c.tableArgs.vWord.toNat + leNat (sliceBytes b 148 2)) }) ∧ (∀ n i, i ≠ c.tableArgs.index → t.rule n i = s.rule n i) ∧
      (t.sq r).calls = (s.sq r).calls.drop 1 ∧ (∀ l, c.lsn = some l → t.executedOf r = l + 1) ∧ (c.lsn = none → ∀ y ∈ (t.sq r).taken, y.idx = c.idx → y.done.isSome = true) ∧ OnlyTouches [.counters, .tables, .hq, .jrn] s t) ∧
    (∀ (r : Ring) (c : Call) (b : List Byte) (d : Nat) (s : State),
      s.callFor r 2 1 = some c →
      statesChange s.chip.mode = true ∨ (c.lsn.isSome = true ∧ s.chip.mode = .recovery) →
      c.tableArgs.addr ≠ 0 →
      c.tableArgs.addr % 8 = 0 →
      s.tableCheck c.tableArgs = 0 →
      recordOk c.tableArgs.table (s.geometry s.refSpan c.tableArgs.table) c.tableArgs (entryRecord b) = true →
      s.engineFree (s.requestSpan c.tableArgs) = true →
      s.tableInsert c.tableArgs.table (s.geometry s.refSpan c.tableArgs.table) ({ c.tableArgs with late := s.progs.joint.isSome } : TableArgs) (entryRecord b) = .fail d →
      ∃ t, exec (.tableInsert r (some b)) s = .next t ∧ t = ((s).count (cSpan (s.requestSpan c.tableArgs) 11) 1).finishCall r (serviceError d) ∧ t.tables = s.tables ∧ t.progs = s.progs) ∧
    (∀ (r : Ring) (c : Call) (b : List Byte) (s : State),
      s.callFor r 2 1 = some c →
      statesChange s.chip.mode = true ∨ (c.lsn.isSome = true ∧ s.chip.mode = .recovery) →
      c.tableArgs.addr ≠ 0 →
      c.tableArgs.addr % 8 = 0 →
      s.tableCheck c.tableArgs = 0 →
      recordOk c.tableArgs.table (s.geometry s.refSpan c.tableArgs.table) c.tableArgs (entryRecord b) = true →
      s.engineFree (s.requestSpan c.tableArgs) = false →
      (s.engine (s.requestSpan c.tableArgs)).queued.length < 256 →
      ∃ t, exec (.tableInsert r (some b)) s = .next t ∧ (t.engine (s.requestSpan c.tableArgs)).queued = (s.engine (s.requestSpan c.tableArgs)).queued ++ [{ entry := Config.routineEntry 1, ring := some r.val, work := some (.table 1 c.body b) }] ∧ (t.sq r).calls = { c with atEngine := true } :: (s.sq r).calls.drop 1 ∧ OnlyTouches [.trestle, .hq] s t) ∧
    (∀ (r : Ring) (c : Call) (b : List Byte) (s : State),
      s.callFor r 2 1 = some c →
      statesChange s.chip.mode = true ∨ (c.lsn.isSome = true ∧ s.chip.mode = .recovery) →
      c.tableArgs.addr ≠ 0 →
      c.tableArgs.addr % 8 = 0 →
      s.tableCheck c.tableArgs = 0 →
      recordOk c.tableArgs.table (s.geometry s.refSpan c.tableArgs.table) c.tableArgs (entryRecord b) = false →
      ∃ t, exec (.tableInsert r (some b)) s = .next t ∧ t = s.finishCall r (serviceError 6) ∧ t.tables = s.tables ∧ t.progs = s.progs) ∧
    (∀ (r : Ring) (c : Call) (b : List Byte) (u : State) (s : State),
      s.callFor r 2 2 = some c →
      statesChange s.chip.mode = true ∨ (c.lsn.isSome = true ∧ s.chip.mode = .recovery) →
      c.tableArgs.addr ≠ 0 →
      c.tableArgs.addr % 8 = 0 →
      s.tableCheck c.tableArgs = 0 →
      recordOk c.tableArgs.table (s.geometry s.refSpan c.tableArgs.table) c.tableArgs (entryRecord b) = true →
      s.engineFree (s.requestSpan c.tableArgs) = true →
      s.tableDelete c.tableArgs.table (s.geometry s.refSpan c.tableArgs.table) ({ c.tableArgs with late := s.progs.joint.isSome } : TableArgs) (entryRecord b) = .ok u →
      ∃ t, exec (.tableDelete r (some b)) s = .next t ∧ t = ((u).count (cSpan (s.requestSpan c.tableArgs) 11) 1).finishCall r { code := 0 }) ∧
    (∀ (r : Ring) (c : Call) (b : List Byte) (s : State),
      s.callFor r 2 2 = some c →
      statesChange s.chip.mode = true ∨ (c.lsn.isSome = true ∧ s.chip.mode = .recovery) →
      c.tableArgs.addr ≠ 0 →
      c.tableArgs.addr % 8 = 0 →
      s.tableCheck c.tableArgs = 0 →
      recordOk c.tableArgs.table (s.geometry s.refSpan c.tableArgs.table) c.tableArgs (entryRecord b) = true →
      s.engineFree (s.requestSpan c.tableArgs) = true →
      c.tableArgs.table = 240 →
      c.tableArgs.names (s.rule s.refSpan c.tableArgs.index).ctl = true →
      s.requestBusy ({ c.tableArgs with late := s.progs.joint.isSome } : TableArgs) (s.rule s.refSpan c.tableArgs.index).ctl ((s.rule s.refSpan c.tableArgs.index).ctl &&& ~~~c.tableArgs.vWord) = false →
      ∃ t, exec (.tableDelete r (some b)) s = .next t ∧ (∀ n ∈ s.spansUp, t.rule n c.tableArgs.index = (if ((s.rule s.refSpan c.tableArgs.index).ctl &&& ~~~c.tableArgs.vWord).toNat / 2 ^ 30 = 0 then {} else { (s.rule s.refSpan c.tableArgs.index) with ctl := (s.rule s.refSpan c.tableArgs.index).ctl &&& ~~~c.tableArgs.vWord })) ∧ (∀ n i, i ≠ c.tableArgs.index → t.rule n i = s.rule n i) ∧ (t.sq r).calls = (s.sq r).calls.drop 1 ∧ (∀ l, c.lsn = some l → t.executedOf r = l + 1) ∧ (c.lsn = none → ∀ y ∈ (t.sq r).taken, y.idx = c.idx → y.done.isSome = true) ∧ OnlyTouches [.counters, .tables, .hq, .jrn] s t) ∧
    (∀ (r : Ring) (c : Call) (b : List Byte) (u : State) (s : State),
      s.callFor r 2 3 = some c →
      statesChange s.chip.mode = true ∨ (c.lsn.isSome = true ∧ s.chip.mode = .recovery) →
      c.tableArgs.addr ≠ 0 →
      c.tableArgs.addr % 8 = 0 →
      s.tableCheck c.tableArgs = 0 →
      recordOk c.tableArgs.table (s.geometry s.refSpan c.tableArgs.table) c.tableArgs (entryRecord b) = true →
      s.engineFree (s.requestSpan c.tableArgs) = true →
      s.tableModify c.tableArgs.table (s.geometry s.refSpan c.tableArgs.table) ({ c.tableArgs with late := s.progs.joint.isSome } : TableArgs) (entryRecord b) = .ok u →
      ∃ t, exec (.tableModify r (some b)) s = .next t ∧ t = ((u).count (cSpan (s.requestSpan c.tableArgs) 11) 1).finishCall r { code := 0 }) ∧
    (∀ (r : Ring) (c : Call) (b : List Byte) (s : State),
      s.callFor r 2 3 = some c →
      statesChange s.chip.mode = true ∨ (c.lsn.isSome = true ∧ s.chip.mode = .recovery) →
      c.tableArgs.addr ≠ 0 →
      c.tableArgs.addr % 8 = 0 →
      s.tableCheck c.tableArgs = 0 →
      recordOk c.tableArgs.table (s.geometry s.refSpan c.tableArgs.table) c.tableArgs (entryRecord b) = true →
      s.engineFree (s.requestSpan c.tableArgs) = true →
      c.tableArgs.table = 240 →
      c.tableArgs.names (s.rule s.refSpan c.tableArgs.index).ctl = true →
      ∃ t, exec (.tableModify r (some b)) s = .next t ∧ (∀ n ∈ s.spansUp, t.rule n c.tableArgs.index = { (s.rule s.refSpan c.tableArgs.index) with ctl := BitVec.ofNat 32 ((s.rule s.refSpan c.tableArgs.index).ctl.toNat / 2 ^ 16 * 2 ^ 16 + leNat (sliceBytes b 148 2)) }) ∧ (∀ n i, i ≠ c.tableArgs.index → t.rule n i = s.rule n i) ∧ (t.sq r).calls = (s.sq r).calls.drop 1 ∧ (∀ l, c.lsn = some l → t.executedOf r = l + 1) ∧ (c.lsn = none → ∀ y ∈ (t.sq r).taken, y.idx = c.idx → y.done.isSome = true) ∧ OnlyTouches [.counters, .tables, .hq, .jrn] s t) ∧
    (∀ (r : Ring) (c : Call) (b : List Byte) (y : EntryRecord) (s : State),
      s.callFor r 2 4 = some c →
      statesButOff s.chip.mode = true →
      c.tableArgs.addr ≠ 0 →
      c.tableArgs.addr % 8 = 0 →
      s.tableCheck c.tableArgs = 0 →
      recordOk c.tableArgs.table (s.geometry s.refSpan c.tableArgs.table) c.tableArgs (entryRecord b) = true →
      s.engineFree (s.requestSpan c.tableArgs) = true →
      s.readRecord c.tableArgs.table (s.geometry s.refSpan c.tableArgs.table) ({ c.tableArgs with late := s.progs.joint.isSome } : TableArgs) (entryRecord b) = some y →
      ∃ t, exec (.tableRead r (some b)) s = .next t ∧ t.hostMem = (s.hostWrite c.tableArgs.addr y.bytes).hostMem ∧ (t.sq r).calls = (s.sq r).calls.drop 1 ∧ (∀ l, c.lsn = some l → t.executedOf r = l + 1) ∧ (c.lsn = none → ∀ y ∈ (t.sq r).taken, y.idx = c.idx → y.done.isSome = true) ∧ OnlyTouches [.counters, .hostMem, .hq, .jrn] s t) ∧
    (∀ (r : Ring) (c : Call) (b : List Byte) (s : State),
      s.callFor r 2 4 = some c →
      statesButOff s.chip.mode = true →
      c.tableArgs.addr ≠ 0 →
      c.tableArgs.addr % 8 = 0 →
      s.tableCheck c.tableArgs = 0 →
      recordOk c.tableArgs.table (s.geometry s.refSpan c.tableArgs.table) c.tableArgs (entryRecord b) = true →
      s.engineFree (s.requestSpan c.tableArgs) = true →
      s.readRecord c.tableArgs.table (s.geometry s.refSpan c.tableArgs.table) ({ c.tableArgs with late := s.progs.joint.isSome } : TableArgs) (entryRecord b) = none →
      ∃ t, exec (.tableRead r (some b)) s = .next t ∧ t = ((s).count (cSpan (s.requestSpan c.tableArgs) 11) 1).finishCall r (serviceError 2) ∧ t.hostMem = s.hostMem) ∧
    (∀ (r : Ring) (c : Call) (s : State),
      s.callFor r 2 5 = some c →
      statesChange s.chip.mode = true ∨ (c.lsn.isSome = true ∧ s.chip.mode = .recovery) →
      c.tableArgs.table < 240 →
      (s.geometry s.refSpan c.tableArgs.table).en = true →
      0 < c.tableArgs.index →
      c.tableArgs.index ≤ 65535 →
      ∃ t, exec (.tableSetAge r) s = .next t ∧ Tbl.get zeroNat t.tables.period c.tableArgs.table = c.tableArgs.index ∧ (∀ k, k ≠ c.tableArgs.table → Tbl.get zeroNat t.tables.period k = Tbl.get zeroNat s.tables.period k) ∧ (t.sq r).calls = (s.sq r).calls.drop 1 ∧ (∀ l, c.lsn = some l → t.executedOf r = l + 1) ∧ (c.lsn = none → ∀ y ∈ (t.sq r).taken, y.idx = c.idx → y.done.isSome = true) ∧ OnlyTouches [.tables, .hq, .jrn] s t) ∧
    (∀ (r : Ring) (c : Call) (s : State),
      s.callFor r 2 5 = some c →
      statesChange s.chip.mode = true ∨ (c.lsn.isSome = true ∧ s.chip.mode = .recovery) →
      240 ≤ c.tableArgs.table ∨ (s.geometry s.refSpan c.tableArgs.table).en = false ∨ c.tableArgs.index = 0 ∨ 65535 < c.tableArgs.index →
      ∃ t, exec (.tableSetAge r) s = .next t ∧ t = s.finishCall r (serviceError (if 240 ≤ c.tableArgs.table ∨ (s.geometry s.refSpan c.tableArgs.table).en = false then 5 else 6))) ∧
    (∀ (r : Ring) (c : Call) (b : List Byte) (s : State),
      s.callFor r 2 1 = some c →
      statesChange s.chip.mode = true ∨ (c.lsn.isSome = true ∧ s.chip.mode = .recovery) →
      c.tableArgs.addr ≠ 0 →
      c.tableArgs.addr % 8 = 0 →
      s.tableCheck c.tableArgs = 0 →
      recordOk c.tableArgs.table (s.geometry s.refSpan c.tableArgs.table) c.tableArgs (entryRecord b) = true →
      s.engineFree (s.requestSpan c.tableArgs) = true →
      c.tableArgs.table < 240 →
      (s.geometry s.refSpan c.tableArgs.table).kind = 4 →
      (s.geometry s.refSpan c.tableArgs.table).valid = true →
      ∃ t, exec (.tableInsert r (some b)) s = .next t ∧ (∀ n ∈ s.spansUp, t.sram n ((s.geometry s.refSpan c.tableArgs.table).indexRow c.tableArgs.index).1 ((s.geometry s.refSpan c.tableArgs.table).indexRow c.tableArgs.index).2 = leNat (sliceBytes b 160 32)) ∧ (∀ n u k, n < 16 → u < 96 → k < 2048 → (n ∉ s.spansUp ∨ (u, k) ≠ (s.geometry s.refSpan c.tableArgs.table).indexRow c.tableArgs.index) → t.sram n u k = s.sram n u k) ∧ (t.sq r).calls = (s.sq r).calls.drop 1 ∧ (∀ l, c.lsn = some l → t.executedOf r = l + 1) ∧ (c.lsn = none → ∀ y ∈ (t.sq r).taken, y.idx = c.idx → y.done.isSome = true) ∧ OnlyTouches [.counters, .tables, .hq, .jrn] s t) ∧
    (∀ (r : Ring) (c : Call) (b : List Byte) (s : State),
      s.callFor r 2 3 = some c →
      statesChange s.chip.mode = true ∨ (c.lsn.isSome = true ∧ s.chip.mode = .recovery) →
      c.tableArgs.addr ≠ 0 →
      c.tableArgs.addr % 8 = 0 →
      s.tableCheck c.tableArgs = 0 →
      recordOk c.tableArgs.table (s.geometry s.refSpan c.tableArgs.table) c.tableArgs (entryRecord b) = true →
      s.engineFree (s.requestSpan c.tableArgs) = true →
      c.tableArgs.table < 240 →
      (s.geometry s.refSpan c.tableArgs.table).kind = 4 →
      (s.geometry s.refSpan c.tableArgs.table).valid = true →
      ∃ t, exec (.tableModify r (some b)) s = .next t ∧ (∀ n ∈ s.spansUp, t.sram n ((s.geometry s.refSpan c.tableArgs.table).indexRow c.tableArgs.index).1 ((s.geometry s.refSpan c.tableArgs.table).indexRow c.tableArgs.index).2 = leNat (sliceBytes b 160 32)) ∧ (∀ n u k, n < 16 → u < 96 → k < 2048 → (n ∉ s.spansUp ∨ (u, k) ≠ (s.geometry s.refSpan c.tableArgs.table).indexRow c.tableArgs.index) → t.sram n u k = s.sram n u k) ∧ (t.sq r).calls = (s.sq r).calls.drop 1 ∧ (∀ l, c.lsn = some l → t.executedOf r = l + 1) ∧ (c.lsn = none → ∀ y ∈ (t.sq r).taken, y.idx = c.idx → y.done.isSome = true) ∧ OnlyTouches [.counters, .tables, .hq, .jrn] s t) ∧
    (∀ (r : Ring) (rec : Option (List Byte)) (x : Nat × Instr) (c : Call) (s : State),
      x ∈ [(1, Instr.tableInsert r rec), (2, .tableDelete r rec), (3, .tableModify r rec), (4, .tableRead r rec)] →
      s.callFor r 2 x.1 = some c →
      statesButOff s.chip.mode = true →
      x.1 = 4 ∨ statesChange s.chip.mode = true ∨ (c.lsn.isSome = true ∧ s.chip.mode = .recovery) →
      c.tableArgs.addr = 0 ∨ c.tableArgs.addr % 8 ≠ 0 →
      exec x.2 s = .next (s.finishCall r { code := 5 })) ∧
    (∀ (r : Ring) (rec : Option (List Byte)) (x : Nat × Instr) (c : Call) (s : State),
      x ∈ [(1, Instr.tableInsert r rec), (2, .tableDelete r rec), (3, .tableModify r rec), (4, .tableRead r rec)] →
      s.callFor r 2 x.1 = some c →
      statesButOff s.chip.mode = true →
      x.1 = 4 ∨ statesChange s.chip.mode = true ∨ (c.lsn.isSome = true ∧ s.chip.mode = .recovery) →
      c.tableArgs.addr ≠ 0 →
      c.tableArgs.addr % 8 = 0 →
      rec = none →
      exec x.2 s = .next (s.dmaErr.finishCall r { code := 8 })) ∧
    (∀ (r : Ring) (rec : Option (List Byte)) (x : Nat × Instr) (c : Call) (s : State),
      x ∈ [(1, Instr.tableInsert r rec), (2, .tableDelete r rec), (3, .tableModify r rec), (4, .tableRead r rec)] →
      s.callFor r 2 x.1 = some c →
      statesButOff s.chip.mode = true →
      x.1 = 4 ∨ statesChange s.chip.mode = true ∨ (c.lsn.isSome = true ∧ s.chip.mode = .recovery) →
      c.tableArgs.addr ≠ 0 →
      c.tableArgs.addr % 8 = 0 →
      rec.isSome = true →
      s.tableCheck c.tableArgs ≠ 0 ∨ recordOk c.tableArgs.table (s.geometry s.refSpan c.tableArgs.table) c.tableArgs (entryRecord (rec.getD [])) = false →
      exec x.2 s = .next (s.finishCall r (serviceError (if s.tableCheck c.tableArgs ≠ 0 then s.tableCheck c.tableArgs else 6)))) ∧
    (∀ (r : Ring) (b : List Byte) (x : Nat × Instr) (c : Call) (d : Nat) (s : State),
      x ∈ [(1, Instr.tableInsert r (some b)), (2, .tableDelete r (some b)), (3, .tableModify r (some b)), (4, .tableRead r (some b))] →
      s.callFor r 2 x.1 = some c →
      statesButOff s.chip.mode = true →
      x.1 = 4 ∨ statesChange s.chip.mode = true ∨ (c.lsn.isSome = true ∧ s.chip.mode = .recovery) →
      c.tableArgs.addr ≠ 0 →
      c.tableArgs.addr % 8 = 0 →
      s.tableCheck c.tableArgs = 0 →
      recordOk c.tableArgs.table (s.geometry s.refSpan c.tableArgs.table) c.tableArgs (entryRecord b) = true →
      s.engineFree (s.requestSpan c.tableArgs) = true →
      s.tableEffect x.1 c.tableArgs.table (s.geometry s.refSpan c.tableArgs.table) ({ c.tableArgs with late := s.progs.joint.isSome } : TableArgs) (entryRecord b) = .fail d →
      exec x.2 s = .next ((s.count (cSpan (s.requestSpan c.tableArgs) 11) 1).finishCall r (serviceError d))) ∧
    (∀ (r : Ring) (b : List Byte) (x : Nat × Instr) (c : Call) (s : State),
      x ∈ [(1, Instr.tableInsert r (some b)), (2, .tableDelete r (some b)), (3, .tableModify r (some b)), (4, .tableRead r (some b))] →
      s.callFor r 2 x.1 = some c →
      statesButOff s.chip.mode = true →
      x.1 = 4 ∨ statesChange s.chip.mode = true ∨ (c.lsn.isSome = true ∧ s.chip.mode = .recovery) →
      c.tableArgs.addr ≠ 0 →
      c.tableArgs.addr % 8 = 0 →
      s.tableCheck c.tableArgs = 0 →
      recordOk c.tableArgs.table (s.geometry s.refSpan c.tableArgs.table) c.tableArgs (entryRecord b) = true →
      s.engineFree (s.requestSpan c.tableArgs) = false →
      exec x.2 s = .next (s.queueRequest (s.requestSpan c.tableArgs) { entry := Config.routineEntry x.1, ring := some r.val, work := some (.table x.1 c.body b) })) ∧
    (∀ (r : Ring) (rec : Option (List Byte)) (x : Nat × Instr) (s : State),
      x ∈ [(1, Instr.tableInsert r rec), (2, .tableDelete r rec), (3, .tableModify r rec), (4, .tableRead r rec)] ++ [(5, .tableSetAge r)] →
      s.callFor r 2 x.1 = none →
      exec x.2 s = .next s) ∧
    (∀ (r : Ring) (rec : Option (List Byte)) (x : Nat × Instr) (c : Call) (s : State),
      x ∈ [(1, Instr.tableInsert r rec), (2, .tableDelete r rec), (3, .tableModify r rec), (4, .tableRead r rec)] ++ [(5, .tableSetAge r)] →
      s.callFor r 2 x.1 = some c →
      s.chip.mode = .off ∨ (x.1 ≠ 4 ∧ statesChange s.chip.mode = false) →
      c.lsn = none ∨ s.chip.mode ≠ .recovery →
      exec x.2 s = .next (s.finishCall r { code := 9 }))

/-- In a state that allows it, and while the pair that runs it is up, each function of INFO, AUDIT, PTP, PIER, FUSE,
UPDATE and POWER takes the oldest command of its ring and completes it; a ring whose oldest command asks for something
else, or cannot run now, answers nothing, and a state that does not allow the command completes it with DEVICE_STATE.
INFO, UPDATE.STATUS and POWER.STATUS answer what the registers read and change nothing else. A PTP command configures
an instance, or gives a port its state, or fails where an instance would have a second slave port or a 65th master
port; where its arguments stand and what PTP.STATUS answers are the model's own (assumption 50). PIER.ALIGN leaves the
word boundary where the search found it, and locks, or fails with the boundary where it was; PIER.SEND sends a MGMT
frame or fails where the link does not send; which byte names the link is assumption 75. FUSE.OWNER_KEY blows the key
of its arguments once. UPDATE erases and programs the bank that ACTIVE does not name and no other byte, appends a
control record, reads the flash into host memory, and fails with its DETAIL. (R96, R179, R353, R356, R391, R392, R415,
R418, R482, R492, R497, R498) -/
def Obligations.ServicesAnswerTheirRing : Prop :=
    (∀ (r : Ring) (c : Call) (s : State),
      s.callFor r 1 0 = some c →
      ∃ t, exec (.infoIdentify r) s = .next t ∧ (t.sq r).calls = (s.sq r).calls.drop 1 ∧ (∀ l, c.lsn = some l → t.executedOf r = l + 1) ∧ (c.lsn = none → ∀ y ∈ (t.sq r).taken, y.idx = c.idx → y.done.isSome = true) ∧ (∀ y ∈ (s.sq r).taken, y.idx = c.idx → c.lsn = none → y.done = none → ∃ z ∈ (t.sq r).taken, z.idx = c.idx ∧ z.done = some { code := 0, result := leBytes 8 Config.serialNumber.toNat ++ leBytes 4 (s.readReg 0x700008).toNat ++ leBytes 4 (s.readReg 0x100).toNat ++ leBytes 4 (s.readReg 0x104).toNat ++ leBytes 4 s.fuseState ++ leBytes 4 (s.readReg 0x700000).toNat }) ∧ OnlyTouches [.hq, .jrn] s t) ∧
    (∀ (r : Ring) (c : Call) (s : State),
      s.callFor r 3 1 = some c →
      statesButOff s.chip.mode = true →
      ∃ t, exec (.auditRun r) s = .next t ∧ (t.sq r).calls = (s.sq r).calls.drop 1 ∧ (∀ l, c.lsn = some l → t.executedOf r = l + 1) ∧ (c.lsn = none → ∀ y ∈ (t.sq r).taken, y.idx = c.idx → y.done.isSome = true) ∧ t.tables = s.tables ∧ t.hostMem = s.hostMem ∧ (∀ y ∈ (s.sq r).taken, y.idx = c.idx → c.lsn = none → y.done = none → ∃ z ∈ (t.sq r).taken, z.idx = c.idx ∧ z.done = some { code := 0, result := leBytes 4 s.quarantined.length ++ leBytes 4 s.audit.2.2 })) ∧
    (∀ (r : Ring) (c : Call) (s : State),
      s.callFor r 4 1 = some c →
      statesButOff s.chip.mode = true →
      ∃ t, exec (.ptpInstance r) s = .next t ∧ (t.sq r).calls = (s.sq r).calls.drop 1 ∧ (∀ l, c.lsn = some l → t.executedOf r = l + 1) ∧ (c.lsn = none → ∀ y ∈ (t.sq r).taken, y.idx = c.idx → y.done.isSome = true) ∧ t.ptpOf (c.ptpArg 0) = { on := true, domain := c.ptpArg 1, ports := (s.ptpOf (c.ptpArg 0)).ports } ∧ (∀ k, k ≠ c.ptpArg 0 → t.ptpOf k = s.ptpOf k) ∧ OnlyTouches [.ks, .hq, .jrn] s t) ∧
    (∀ (r : Ring) (c : Call) (s : State),
      s.callFor r 4 2 = some c →
      statesButOff s.chip.mode = true →
      ∃ t, exec (.ptpPort r) s = .next t ∧ (t.sq r).calls = (s.sq r).calls.drop 1 ∧ (∀ l, c.lsn = some l → t.executedOf r = l + 1) ∧ (c.lsn = none → ∀ y ∈ (t.sq r).taken, y.idx = c.idx → y.done.isSome = true) ∧ ((s.ptpOf (c.ptpArg 0)).mayAssign (c.ptpArg 2) (c.ptpArg 3) = true → t.ptpOf (c.ptpArg 0) = { s.ptpOf (c.ptpArg 0) with ports := Tbl.put (fun _ => 0) (s.ptpOf (c.ptpArg 0)).ports (c.ptpArg 2) (c.ptpArg 3) }) ∧ (∀ k, k ≠ c.ptpArg 0 → t.ptpOf k = s.ptpOf k) ∧ (c.lsn = none → OnlyTouches [.ks, .hq, .jrn] s t) ∧ ((s.ptpOf (c.ptpArg 0)).mayAssign (c.ptpArg 2) (c.ptpArg 3) = false → t = s.finishCall r (serviceError 0))) ∧
    (∀ (r : Ring) (c : Call) (s : State),
      s.callFor r 4 3 = some c →
      statesButOff s.chip.mode = true →
      ∃ t, exec (.ptpStatus r) s = .next t ∧ (t.sq r).calls = (s.sq r).calls.drop 1 ∧ (∀ l, c.lsn = some l → t.executedOf r = l + 1) ∧ (c.lsn = none → ∀ y ∈ (t.sq r).taken, y.idx = c.idx → y.done.isSome = true) ∧ t.freeCount = s.freeCount + 1 ∧ OnlyTouches [.freeCount, .hq, .jrn] s t) ∧
    (∀ (r : Ring) (c : Call) (i : Fin 10) (s : State),
      s.callFor r 5 1 = some c →
      statesButOff s.chip.mode = true →
      s.pierOn c.link = true →
      ∃ t, exec (.pierAlign r (some i)) s = .next t ∧ (t.sq r).calls = (s.sq r).calls.drop 1 ∧ (∀ l, c.lsn = some l → t.executedOf r = l + 1) ∧ (c.lsn = none → ∀ y ∈ (t.sq r).taken, y.idx = c.idx → y.done.isSome = true) ∧ (t.pier c.link).slip = (if i.val = 0 then (s.pier c.link).slip else ((s.pier c.link).slip + i.val) % 10) ∧ t.pierState c.link = (if s.pierSettled c.link then 5 else if (s.pier c.link).stepSent then 4 else if (s.pier c.link).capSent then 3 else 2) ∧ OnlyTouches [.regs, .piers, .hq, .jrn] s t) ∧
    (∀ (r : Ring) (c : Call) (s : State),
      s.callFor r 5 1 = some c →
      statesButOff s.chip.mode = true →
      s.pierOn c.link = true →
      ∃ t, exec (.pierAlign r none) s = .next t ∧ t = ((List.range 10).foldl (fun s _ => s.pierSlipOne c.link) (s.pierSearch c.link)).finishCall r (serviceError 0) ∧ t.pierState c.link = 1 ∧ ((s.pier c.link).slip < 10 → (t.pier c.link).slip = (s.pier c.link).slip)) ∧
    (∀ (r : Ring) (c : Call) (s : State),
      s.callFor r 5 2 = some c →
      statesButOff s.chip.mode = true →
      s.pierSends c.link = false →
      ∃ t, exec (.pierSend r) s = .next t ∧ t = s.finishCall r (serviceError 0)) ∧
    (∀ (r : Ring) (c : Call) (s : State),
      s.callFor r 5 2 = some c →
      statesButOff s.chip.mode = true →
      s.pierSends c.link = true →
      ∃ t, exec (.pierSend r) s = .next t ∧ (t.sq r).calls = (s.sq r).calls.drop 1 ∧ (∀ l, c.lsn = some l → t.executedOf r = l + 1) ∧ (c.lsn = none → ∀ y ∈ (t.sq r).taken, y.idx = c.idx → y.done.isSome = true) ∧ t.emitted = .pier c.link (pierFrame 0x10 (s.pierSeq c.link) (sliceBytes c.body 8 48)) :: s.emitted ∧ t.pierSeq c.link = (s.pierSeq c.link + 1) % 256 ∧ OnlyTouches [.emitted, .pierTx, .hq, .jrn] s t) ∧
    (∀ (r : Ring) (c : Call) (s : State),
      s.callFor r 6 1 = some c →
      s.chip.mode = .startUp →
      s.progs.ownerEn = false →
      ∃ t, exec (.fuseOwnerKey r) s = .next t ∧ (t.sq r).calls = (s.sq r).calls.drop 1 ∧ (∀ l, c.lsn = some l → t.executedOf r = l + 1) ∧ (c.lsn = none → ∀ y ∈ (t.sq r).taken, y.idx = c.idx → y.done.isSome = true) ∧ t.progs = { s.progs with ownerHash := (List.range 12).map (fun k => BitVec.ofNat 32 (beNat (sliceBytes c.body (8 + 4 * k) 4))), ownerEn := true } ∧ OnlyTouches [.progs, .hq, .jrn] s t) ∧
    (∀ (r : Ring) (c : Call) (s : State),
      s.callFor r 6 1 = some c →
      s.chip.mode = .startUp →
      s.progs.ownerEn = true →
      ∃ t, exec (.fuseOwnerKey r) s = .next t ∧ t = s.finishCall r { code := 0x0A }) ∧
    (∀ (r : Ring) (c : Call) (s : State),
      s.callFor r 6 1 = some c →
      s.chip.mode ≠ .startUp →
      c.lsn = none →
      ∃ t, exec (.fuseOwnerKey r) s = .next t ∧ t = s.finishCall r { code := 9 }) ∧
    (∀ (r : Ring) (c : Call) (s : State),
      s.callFor r 7 1 = some c →
      statesChange s.chip.mode = true →
      ∃ t, exec (.updateStatus r) s = .next t ∧ (t.sq r).calls = (s.sq r).calls.drop 1 ∧ (∀ l, c.lsn = some l → t.executedOf r = l + 1) ∧ (c.lsn = none → ∀ y ∈ (t.sq r).taken, y.idx = c.idx → y.done.isSome = true) ∧ (∀ y ∈ (s.sq r).taken, y.idx = c.idx → c.lsn = none → y.done = none → ∃ z ∈ (t.sq r).taken, z.idx = c.idx ∧ z.done = some { code := 0, result := leBytes 4 (s.readReg 0x800).toNat ++ leBytes 4 (s.readReg 0x804).toNat ++ leBytes 4 (s.readReg 0x808).toNat ++ leBytes 4 s.bcb.seq }) ∧ OnlyTouches [.hq, .jrn] s t) ∧
    (∀ (r : Ring) (c : Call) (s : State),
      s.callFor r 7 2 = some c →
      statesChange s.chip.mode = true →
      c.activeBank = false →
      c.offset % 65536 = 0 →
      c.length % 65536 = 0 →
      c.offset + c.length ≤ bankSize →
      ∃ t, exec (.updateErase r true) s = .next t ∧ (t.sq r).calls = (s.sq r).calls.drop 1 ∧ (∀ l, c.lsn = some l → t.executedOf r = l + 1) ∧ (c.lsn = none → ∀ y ∈ (t.sq r).taken, y.idx = c.idx → y.done.isSome = true) ∧ (∀ a, ((bankBase s.inactive + c.offset) ≤ a ∧ a < (bankBase s.inactive + c.offset) + c.length → Tbl.get flashErased t.boot.flash a = 0xFF) ∧ (a < (bankBase s.inactive + c.offset) ∨ (bankBase s.inactive + c.offset) + c.length ≤ a → Tbl.get flashErased t.boot.flash a = Tbl.get flashErased s.boot.flash a)) ∧ OnlyTouches [.boot, .hq, .jrn] s t) ∧
    (∀ (r : Ring) (c : Call) (bs : List Byte) (s : State),
      s.callFor r 7 3 = some c →
      statesChange s.chip.mode = true →
      c.activeBank = false →
      0 < c.length →
      c.length ≤ 65536 →
      c.offset + c.length ≤ bankSize →
      c.address ≠ 0 →
      ∃ t, exec (.updateWrite r (some bs) true) s = .next t ∧ (t.sq r).calls = (s.sq r).calls.drop 1 ∧ (∀ l, c.lsn = some l → t.executedOf r = l + 1) ∧ (c.lsn = none → ∀ y ∈ (t.sq r).taken, y.idx = c.idx → y.done.isSome = true) ∧ (∀ k, k < c.length → Tbl.get flashErased t.boot.flash ((bankBase s.inactive + c.offset) + k) = (sliceBytes bs 0 c.length).getD k 0) ∧ (∀ a, a < (bankBase s.inactive + c.offset) ∨ (bankBase s.inactive + c.offset) + c.length ≤ a → Tbl.get flashErased t.boot.flash a = Tbl.get flashErased s.boot.flash a) ∧ OnlyTouches [.boot, .hq, .jrn] s t) ∧
    (∀ (r : Ring) (c : Call) (s : State),
      s.callFor r 7 3 = some c →
      statesChange s.chip.mode = true →
      c.activeBank = false →
      0 < c.length →
      c.length ≤ 65536 →
      c.offset + c.length ≤ bankSize →
      c.address ≠ 0 →
      c.lsn = none →
      ∃ t, exec (.updateWrite r none true) s = .next t ∧ t.bit 0x400004 16 = true ∧ t.boot = s.boot ∧ (t.sq r).calls = (s.sq r).calls.drop 1) ∧
    (∀ (r : Ring) (c : Call) (s : State),
      s.callFor r 7 4 = some c →
      statesChange s.chip.mode = true →
      c.offset + c.length ≤ bankSize →
      c.address ≠ 0 →
      ∃ t, exec (.updateRead r) s = .next t ∧ (t.sq r).calls = (s.sq r).calls.drop 1 ∧ (∀ l, c.lsn = some l → t.executedOf r = l + 1) ∧ (c.lsn = none → ∀ y ∈ (t.sq r).taken, y.idx = c.idx → y.done.isSome = true) ∧ t.hostMem = (s.hostWrite c.address (s.flashBytes (bankBase (if c.activeBank then 1 - s.inactive else s.inactive) + c.offset) c.length)).hostMem ∧ OnlyTouches [.hostMem, .hq, .jrn] s t) ∧
    (∀ (r : Ring) (c : Call) (s : State),
      s.callFor r 7 5 = some c →
      statesChange s.chip.mode = true →
      ∃ t, exec (.updateActivate r) s = .next t ∧ (t.sq r).calls = (s.sq r).calls.drop 1 ∧ (∀ l, c.lsn = some l → t.executedOf r = l + 1) ∧ (c.lsn = none → ∀ y ∈ (t.sq r).taken, y.idx = c.idx → y.done.isSome = true) ∧ t.boot.flash = (s.appendBcb false (if c.cancel then { s.bcb with pending := 0xFF } else { s.bcb with pending := s.inactive, fail := 0 })).boot.flash ∧ (∀ a, 0x20000 ≤ a → Tbl.get flashErased t.boot.flash a = Tbl.get flashErased s.boot.flash a) ∧ OnlyTouches [.regs, .boot, .hq, .jrn] s t) ∧
    (∀ (r : Ring) (c : Call) (bs : List Byte) (s : State),
      s.callFor r 7 6 = some c →
      statesChange s.chip.mode = true →
      c.length ≤ slotSize →
      c.address ≠ 0 →
      settingsSound bs = true →
      settingsSchemaOf bs = s.runningSchema →
      ∃ t, exec (.updateSettingsWrite r (some bs) true) s = .next t ∧ (t.sq r).calls = (s.sq r).calls.drop 1 ∧ (∀ l, c.lsn = some l → t.executedOf r = l + 1) ∧ (c.lsn = none → ∀ y ∈ (t.sq r).taken, y.idx = c.idx → y.done.isSome = true) ∧ (∀ k, k < 32 + leNat (sliceBytes bs 0x10 4) → Tbl.get flashErased t.boot.flash (slotBase (1 - s.bcb.slot % 2) + k) = (sliceBytes bs 0 (32 + leNat (sliceBytes bs 0x10 4))).getD k 0) ∧ (∀ a, 0x100000 ≤ a → a < slotBase (1 - s.bcb.slot % 2) ∨ slotBase (1 - s.bcb.slot % 2) + slotSize ≤ a → Tbl.get flashErased t.boot.flash a = Tbl.get flashErased s.boot.flash a) ∧ OnlyTouches [.boot, .hq, .jrn] s t) ∧
    (∀ (r : Ring) (c : Call) (s : State),
      s.callFor r 7 7 = some c →
      statesChange s.chip.mode = true →
      c.address ≠ 0 →
      settingsSound (s.settingsAt s.bcb.slot) = true →
      ∃ t, exec (.updateSettingsRead r) s = .next t ∧ (t.sq r).calls = (s.sq r).calls.drop 1 ∧ (∀ l, c.lsn = some l → t.executedOf r = l + 1) ∧ (c.lsn = none → ∀ y ∈ (t.sq r).taken, y.idx = c.idx → y.done.isSome = true) ∧ t.hostMem = (s.hostWrite c.address (s.settingsAt s.bcb.slot)).hostMem ∧ OnlyTouches [.hostMem, .hq, .jrn] s t) ∧
    (∀ (r : Ring) (c : Call) (s : State),
      s.callFor r 8 1 = some c →
      statesButOff s.chip.mode = true →
      ∃ t, exec (.powerStatus r) s = .next t ∧ (t.sq r).calls = (s.sq r).calls.drop 1 ∧ (∀ l, c.lsn = some l → t.executedOf r = l + 1) ∧ (c.lsn = none → ∀ y ∈ (t.sq r).taken, y.idx = c.idx → y.done.isSome = true) ∧ (∀ y ∈ (s.sq r).taken, y.idx = c.idx → c.lsn = none → y.done = none → ∃ z ∈ (t.sq r).taken, z.idx = c.idx ∧ z.done = some { code := 0, result := leBytes 4 (s.liveWord 0x300028).toNat ++ leBytes 4 (s.liveWord 0x30002C).toNat ++ leBytes 4 (s.liveWord 0x300008).toNat ++ leBytes 4 (s.liveWord 0x300010).toNat ++ leBytes 4 (s.liveWord 0x300064).toNat ++ leBytes 4 (s.liveWord 0x300068).toNat }) ∧ OnlyTouches [.hq, .jrn] s t) ∧
    (∀ (r : Ring) (c : Call) (s : State),
      s.callFor r 8 2 = some c →
      statesButOff s.chip.mode = true →
      c.arg 16 8 ≠ 0 →
      ∃ t, exec (.powerConcordReport r) s = .next t ∧ (t.sq r).calls = (s.sq r).calls.drop 1 ∧ (∀ l, c.lsn = some l → t.executedOf r = l + 1) ∧ (c.lsn = none → ∀ y ∈ (t.sq r).taken, y.idx = c.idx → y.done.isSome = true) ∧ t.hostMem = (s.hostWrite (c.arg 16 8) ((List.range 4).flatMap (fun n => [BitVec.ofNat 8 n] ++ sliceBytes (Tbl.get (fun _ => []) s.pwr.heard n) 0 16 ++ [0, 0, 0]))).hostMem ∧ OnlyTouches [.hostMem, .hq, .jrn] s t) ∧
    (∀ (r : Ring) (c : Call) (ok : Bool) (s : State),
      s.callFor r 7 2 = some c →
      statesChange s.chip.mode = true →
      c.activeBank = true ∨ c.offset % 65536 ≠ 0 ∨ c.length % 65536 ≠ 0 ∨ bankSize < c.offset + c.length ∨ ok = false →
      ∃ t, exec (.updateErase r ok) s = .next t ∧ t = s.finishCall r (serviceError (if c.activeBank then 1 else if c.offset % 65536 ≠ 0 ∨ c.length % 65536 ≠ 0 ∨ bankSize < c.offset + c.length then 2 else 3))) ∧
    (∀ (r : Ring) (c : Call) (data : Option (List Byte)) (ok : Bool) (s : State),
      s.callFor r 7 3 = some c →
      statesChange s.chip.mode = true →
      c.activeBank = true ∨ c.length = 0 ∨ 65536 < c.length ∨ bankSize < c.offset + c.length ∨ c.address = 0 ∨ (data.isSome = true ∧ ok = false) →
      ∃ t, exec (.updateWrite r data ok) s = .next t ∧ t = s.finishCall r (if c.activeBank then serviceError 1 else if c.length = 0 ∨ 65536 < c.length ∨ bankSize < c.offset + c.length then serviceError 2 else if c.address = 0 then { code := 5 } else serviceError 3)) ∧
    (∀ (r : Ring) (c : Call) (s : State),
      s.callFor r 7 4 = some c →
      statesChange s.chip.mode = true →
      bankSize < c.offset + c.length ∨ c.address = 0 →
      ∃ t, exec (.updateRead r) s = .next t ∧ t = s.finishCall r (if bankSize < c.offset + c.length then serviceError 2 else { code := 5 })) ∧
    (∀ (r : Ring) (c : Call) (data : Option (List Byte)) (ok : Bool) (s : State),
      s.callFor r 7 6 = some c →
      statesChange s.chip.mode = true →
      slotSize < c.length ∨ c.address = 0 ∨ (data.isSome = true ∧ (settingsSound (data.getD []) = false ∨ settingsSchemaOf (data.getD []) ≠ s.runningSchema ∨ ok = false)) →
      ∃ t, exec (.updateSettingsWrite r data ok) s = .next t ∧ t = s.finishCall r (if slotSize < c.length then serviceError 2 else if c.address = 0 then { code := 5 } else if settingsSound (data.getD []) = false ∨ settingsSchemaOf (data.getD []) ≠ s.runningSchema then serviceError 4 else serviceError 3)) ∧
    (∀ (r : Ring) (c : Call) (ok : Bool) (s : State),
      s.callFor r 7 6 = some c →
      statesChange s.chip.mode = true →
      c.length ≤ slotSize →
      c.address ≠ 0 →
      ∃ t, exec (.updateSettingsWrite r none ok) s = .next t ∧ t = s.dmaErr.finishCall r { code := 8 }) ∧
    (∀ (r : Ring) (c : Call) (s : State),
      s.callFor r 7 7 = some c →
      statesChange s.chip.mode = true →
      c.address = 0 ∨ settingsSound (s.settingsAt s.bcb.slot) = false →
      ∃ t, exec (.updateSettingsRead r) s = .next t ∧ t = s.finishCall r (if c.address = 0 then { code := 5 } else serviceError 4)) ∧
    (∀ (r : Ring) (c : Call) (s : State),
      s.callFor r 8 2 = some c →
      statesButOff s.chip.mode = true →
      c.arg 16 8 = 0 →
      ∃ t, exec (.powerConcordReport r) s = .next t ∧ t = s.finishCall r { code := 5 }) ∧
    (∀ (r : Ring) (data : Option (List Byte)) (ok : Bool) (found : Option (Fin 10)) (x : Nat × Nat × Instr) (s : State),
      x ∈ [(1, 0, Instr.infoIdentify r)] ++ [(3, 1, Instr.auditRun r), (4, 1, .ptpInstance r), (4, 2, .ptpPort r), (4, 3, .ptpStatus r), (5, 1, .pierAlign r found), (5, 2, .pierSend r), (8, 1, .powerStatus r), (8, 2, .powerConcordReport r)] ++ [(6, 1, .fuseOwnerKey r)] ++ [(7, 1, Instr.updateStatus r), (7, 2, .updateErase r ok), (7, 3, .updateWrite r data ok), (7, 4, .updateRead r), (7, 5, .updateActivate r), (7, 6, .updateSettingsWrite r data ok), (7, 7, .updateSettingsRead r)] →
      s.callFor r x.1 x.2.1 = none →
      exec x.2.2 s = .next s) ∧
    (∀ (r : Ring) (data : Option (List Byte)) (ok : Bool) (found : Option (Fin 10)) (x : Nat × Nat × Instr) (c : Call) (s : State),
      s.callFor r x.1 x.2.1 = some c →
      c.lsn = none ∨ s.chip.mode ≠ .recovery →
      (x ∈ [(3, 1, Instr.auditRun r), (4, 1, .ptpInstance r), (4, 2, .ptpPort r), (4, 3, .ptpStatus r), (5, 1, .pierAlign r found), (5, 2, .pierSend r), (8, 1, .powerStatus r), (8, 2, .powerConcordReport r)] ∧ s.chip.mode = .off) ∨ (x ∈ [(7, 1, Instr.updateStatus r), (7, 2, .updateErase r ok), (7, 3, .updateWrite r data ok), (7, 4, .updateRead r), (7, 5, .updateActivate r), (7, 6, .updateSettingsWrite r data ok), (7, 7, .updateSettingsRead r)] ∧ statesChange s.chip.mode = false) →
      exec x.2.2 s = .next (s.finishCall r { code := 9 }))

/-- An occurrence sets the source's CAUSE, count, first time, detail and class and no other source, with the class that
the map gives its source (log entry 148) and a detail in the source's layout; a condition that is live occurs once.
Class S raises ERR_S and restarts its timer; class D enters the safe state with the cause of its source, but not out
of OFF; a suppressed injection starts no reaction. A correction is counted for its element; a ledger entry is rebuilt
from its descriptor with a class-N fault; a bad copy of an order counter is class N, and both copies class D; a copy
of a time base that stands off is held until the vote. A corrected count over its source's threshold is a class-S
fault and starts again, and one that is not, or of a source without a threshold, does nothing: on a die-to-die link it
moves the traffic, and it retires a bank group, at most 16, and makes a pipeline faulty. Clearing CAUSE takes count
and first time with it, or leaves one occurrence while the condition persists. The selected source is captured. ERR_S
falls when its timer has ended and ASSERT is clear. The second read-back in a row in which one ball is wrong is class
S. FC_PIN.TEST takes a write in START-UP and TEST and otherwise latches class N. A mismatch of the collector enters
the safe state. In the safe state every enabled port transmits Local Fault. A divergence of the views that lasts 100
µs is class N, and the data path's view is taken. (R428, R429, R430, R433, R434, R437, R438, R440, R443, R447, R454,
R460) -/
def Obligations.FaultsLatchAndReact : Prop :=
    (∀ (src : SourceId) (cls : FaultClass) (detail : DWord) (s : State),
      s.occurrenceClass src.toNat cls = .n →
      ∃ t, exec (.faultLatch (.occurs src cls detail false)) s = .next t ∧ t.source src.toNat = latched (s.source src.toNat) s .n (s.occurrenceDetail src.toNat detail.toNat) (s.source src.toNat).live ∧ (t.source src.toNat).cause = true ∧ (∀ x, x ≠ src.toNat → t.source x = s.source x) ∧ t.bit 0x100004 18 = true ∧ t.chip = s.chip ∧ (0xF800 ≤ src.toNat → OnlyTouches [.regs, .counters, .emitted, .freeCount, .fc, .buf] s t)) ∧
    (∀ (src : SourceId) (cls : FaultClass) (detail : DWord) (s : State),
      s.occurrenceClass src.toNat cls = .n →
      (s.source src.toNat).live = false →
      ∃ t, exec (.faultLatch (.occurs src cls detail true)) s = .next t ∧ t.source src.toNat = latched (s.source src.toNat) s .n (s.occurrenceDetail src.toNat detail.toNat) true ∧ (t.source src.toNat).live = true ∧ (∀ x, x ≠ src.toNat → t.source x = s.source x)) ∧
    (∀ (src : SourceId) (cls : FaultClass) (detail : DWord) (s : State),
      (s.source src.toNat).live = true →
      ∃ t, exec (.faultLatch (.occurs src cls detail true)) s = .next t ∧ t = s) ∧
    (∀ (src : SourceId) (cls : FaultClass) (detail : DWord) (s : State),
      s.occurrenceClass src.toNat cls = .s →
      s.safeNow = false →
      pipeOfSource src.toNat = none →
      s.fc.injNext ≠ some src.toNat ∨ s.fc.injQuiet = false →
      s.chip.lockColl.phase = .paired →
      ∃ t, exec (.faultLatch (.occurs src cls detail false)) s = .next t ∧ (t.source src.toNat).cause = true ∧ (t.source src.toNat).cls = .s ∧ (t.source src.toNat).detail = BitVec.ofNat 64 (s.occurrenceDetail src.toNat detail.toNat) ∧ (∀ x, x ≠ src.toNat → t.source x = s.source x) ∧ t.bit 0x100014 0 = true ∧ t.bit 0x100014 1 = true ∧ t.fc.errSTimer = true ∧ t.bit 0x100004 17 = true ∧ t.chip = s.chip) ∧
    (∀ (src : SourceId) (cls : FaultClass) (detail : DWord) (s : State),
      s.occurrenceClass src.toNat cls = .s →
      haltsEngine src.toNat = false →
      s.safeNow = true ∨ (s.fc.injNext = some src.toNat ∧ s.fc.injQuiet = true) →
      s.chip.lockColl.phase = .paired →
      ∃ t, exec (.faultLatch (.occurs src cls detail false)) s = .next t ∧ (t.source src.toNat).cause = true ∧ (t.source src.toNat).cls = .s ∧ t.reg 0x100014 = s.reg 0x100014 ∧ t.fc.errSTimer = s.fc.errSTimer ∧ t.fc.fences = s.fc.fences ∧ t.pipes = s.pipes) ∧
    (∀ (src : SourceId) (cls : FaultClass) (detail : DWord) (s : State),
      s.occurrenceClass src.toNat cls = .d →
      s.chip.mode ≠ .safe →
      s.chip.mode ≠ .off →
      s.fc.injNext ≠ some src.toNat ∨ s.fc.injQuiet = false →
      s.chip.lockColl.phase = .paired →
      ∃ t, exec (.faultLatch (.occurs src cls detail false)) s = .next t ∧ t.chip.mode = .safe ∧ t.fc.errD = true ∧ t.bit 0x100008 31 = true ∧ t.fld 0x100008 3 0 = safeCause src.toNat ∧ t.reg 0x10000C = BitVec.ofNat 32 src.toNat ∧ t.reg 0x100010 = s.tb0Ns) ∧
    (∀ (src : SourceId) (cls : FaultClass) (detail : DWord) (s : State),
      s.occurrenceClass src.toNat cls = .d →
      s.chip.mode = .off →
      ∃ t, exec (.faultLatch (.occurs src cls detail false)) s = .next t ∧ t.chip.mode = .off ∧ (t.source src.toNat).cause = true ∧ (t.source src.toNat).cls = .d ∧ t.fc.errD = s.fc.errD) ∧
    (∀ (src : SourceId) (s : State),
      ∃ t, exec (.faultLatch (.corrected src)) s = .next t ∧ t.corrections src.toNat = (s.now :: (s.corrections src.toNat).filter (fun y => decide (s.now < y + (correctedRule src.toNat).2))).take ((correctedRule src.toNat).1 + 1) ∧ (∀ x, x ≠ src.toNat → t.corrections x = s.corrections x) ∧ t.fc.src = s.fc.src ∧ OnlyTouches [.fc] s t) ∧
    (∀ (d : DescId) (s : State),
      ∃ t, exec (.faultLatch (.ledgerBad d)) s = .next t ∧ t.ledger d = s.rebuiltEntry d ∧ (∀ x, x ≠ d.val → t.ledger x = s.ledger x) ∧ (t.source (srcChip 3 4)).cause = true ∧ (t.source (srcChip 3 4)).cls = .n ∧ (∀ x, x ≠ (srcChip 3 4) → t.source x = s.source x) ∧ (t.source (srcChip 3 4)).detail = BitVec.ofNat 64 (pairDetail ((s.rebuiltEntry d).port * 16 + (s.rebuiltEntry d).cls) (s.rebuiltEntry d).seq) ∧ t.chip = s.chip) ∧
    (∀ (q : Fin 16384) (release : Bool) (s : State),
      ∃ t, exec (.faultLatch (.counterBad q release false)) s = .next t ∧ t.order q = s.order q ∧ (t.source (srcChip 3 5)).cause = true ∧ (t.source (srcChip 3 5)).cls = .n ∧ (∀ x, x ≠ (srcChip 3 5) → t.source x = s.source x) ∧ (t.source (srcChip 3 5)).detail = BitVec.ofNat 64 (pairDetail q (if release then (s.order q).release else (s.order q).assign)) ∧ t.chip = s.chip) ∧
    (∀ (q : Fin 16384) (release : Bool) (s : State),
      s.chip.mode ≠ .safe →
      s.chip.mode ≠ .off →
      s.fc.injNext ≠ some (srcChip 3 5) ∨ s.fc.injQuiet = false →
      s.chip.lockColl.phase = .paired →
      ∃ t, exec (.faultLatch (.counterBad q release true)) s = .next t ∧ t.chip.mode = .safe ∧ t.fld 0x100008 3 0 = 10 ∧ t.bit 0x100008 30 = false) ∧
    (∀ (b : Fin 5) (k : Fin 3) (off : Int) (s : State),
      ∃ t, exec (.faultLatch (.baseCopy b k off)) s = .next t ∧ t.copyOff b k = off ∧ (∀ n c, n < 5 → c < 3 → (n, c) ≠ (b.val, k.val) → t.copyOff n c = s.copyOff n c) ∧ OnlyTouches [.time] s t) ∧
    (∀ (src : SourceId) (s : State),
      countedSource src.toNat = true ∧ s.overThreshold src.toNat = true →
      d2dOf src.toNat = none →
      bankGroupOf src.toNat = none →
      pipeOfSource src.toNat = none →
      ∃ t, exec (.correctedThreshold src) s = .next t ∧ (t.source src.toNat).cause = true ∧ (t.source src.toNat).cls = .s ∧ (t.source src.toNat).live = (s.source src.toNat).live ∧ t.corrections src.toNat = []) ∧
    (∀ (src : SourceId) (s : State),
      countedSource src.toNat = false ∨ s.overThreshold src.toNat = false →
      ∃ t, exec (.correctedThreshold src) s = .next t ∧ t = s) ∧
    (∀ (src : SourceId) (g : Nat) (s : State),
      countedSource src.toNat = true ∧ s.overThreshold src.toNat = true →
      d2dOf src.toNat = none →
      bankGroupOf src.toNat = some g →
      g ∉ s.fc.retired →
      ∃ t, exec (.correctedThreshold src) s = .next t ∧ (t.source src.toNat).cause = true ∧ (t.source src.toNat).cls = .s ∧ (s.fc.retired.length < 16 → t.fc.retired = s.fc.retired ++ [g] ∧ t.fld 0x80000C 21 0 = s.fld 0x80000C 21 0 - 8192) ∧ (16 ≤ s.fc.retired.length → t.fc.retired = s.fc.retired)) ∧
    (∀ (src : SourceId) (l : Nat) (s : State),
      countedSource src.toNat = true ∧ s.overThreshold src.toNat = true →
      d2dOf src.toNat = some l →
      ∃ t, exec (.correctedThreshold src) s = .next t ∧ t = (s.setCorrections src.toNat []).d2dMove l true) ∧
    (∀ (src : SourceId) (sp k : Nat) (ps : Pass) (s : State),
      countedSource src.toNat = true ∧ s.overThreshold src.toNat = true →
      pipeOfSource src.toNat = some (sp, ps, k) →
      k ∉ (s.passOf sp ps).faulty →
      s.safeNow = false →
      s.fc.injNext ≠ some src.toNat ∨ s.fc.injQuiet = false →
      s.chip.lockColl.phase = .paired →
      ∃ t, exec (.correctedThreshold src) s = .next t ∧ k ∈ (t.passOf sp ps).faulty) ∧
    (∀ (i : Fin 17) (b : Fin 64) (h : Bool) (v : Word) (base : Nat) (s : State),
      blockBase i b = some base →
      ∃ t, exec (.faultCauseClear i b h v) s = .next t ∧ (∀ e, e < 32 → v.getLsbD e = true → (s.source (base + 32 * h.toNat + e)).cause = true → t.source (base + 32 * h.toNat + e) = if (s.source (base + 32 * h.toNat + e)).live then { s.source (base + 32 * h.toNat + e) with count := 1, firstTs := s.tb0Ns } else { s.source (base + 32 * h.toNat + e) with cause := false, count := 0, firstTs := 0 }) ∧
      (∀ x, (∀ e, e < 32 → v.getLsbD e = true → x ≠ base + 32 * h.toNat + e) → t.source x = s.source x) ∧ OnlyTouches [.fc] s t) ∧
    (∀ (i : Fin 17) (b : Fin 64) (h : Bool) (v : Word) (s : State),
      blockBase i b = none →
      ∃ t, exec (.faultCauseClear i b h v) s = .next t ∧ t = s) ∧
    (∀ (s : State),
      s.fc.errSTimer = false →
      ∃ t, exec (.errSTimerExpire) s = .next t ∧ t = s) ∧
    (∀ (v : Word) (s : State),
      ∃ t, exec (.faultSelect v) s = .next t ∧ t.reg 0x100020 = BitVec.ofNat 32 (getBits v 15 0) ∧ t.reg 0x100028 = (s.source (getBits v 15 0)).firstTs ∧ t.reg 0x10002C = (s.source (getBits v 15 0)).detail.setWidth 32 ∧
      t.reg 0x100030 = ((s.source (getBits v 15 0)).detail >>> 32).setWidth 32 ∧ t.fld 0x100024 15 0 = (s.source (getBits v 15 0)).count % 65536 ∧ t.bit 0x100024 19 = (s.source (getBits v 15 0)).cause ∧ t.bit 0x100024 18 = (s.source (getBits v 15 0)).live ∧ t.fld 0x100024 17 16 = faultCode (s.source (getBits v 15 0)).cls ∧ (∀ o, o < 0x100020 ∨ 0x100030 < o → t.reg o = s.reg o) ∧ OnlyTouches [.regs] s t) ∧
    (∀ (s : State),
      s.fc.errSTimer = true →
      ∃ t, exec (.errSTimerExpire) s = .next t ∧ t.fc = { s.fc with errSTimer := false } ∧ t.bit 0x100014 1 = false ∧ t.bit 0x100014 0 = s.bit 0x100014 0 ∧ (s.bit 0x100014 0 = true → t.emitted = s.emitted) ∧ (s.bit 0x100014 0 = false → s.bit 0x100014 1 = true → s.pinTest = false → t.emitted = .pin "ERR_S" false :: s.emitted) ∧ OnlyTouches [.regs, .emitted, .fc] s t) ∧
    (∀ (v : Word) (s : State),
      getBits v 0 0 = 1 →
      ∃ t, exec (.errSRelease v) s = .next t ∧ t.bit 0x100014 0 = false ∧ t.bit 0x100014 1 = s.bit 0x100014 1 ∧ (s.bit 0x100014 1 = true → t.emitted = s.emitted) ∧ (s.bit 0x100014 1 = false → s.bit 0x100014 0 = true → s.pinTest = false → t.emitted = .pin "ERR_S" false :: s.emitted) ∧ OnlyTouches [.regs, .emitted] s t) ∧
    (∀ (v : Word) (s : State),
      getBits v 0 0 = 0 →
      ∃ t, exec (.errSRelease v) s = .next t ∧ t = s) ∧
    (∀ (p n es : Bool) (s : State),
      ¬((p ≠ s.errDP ∧ s.fc.disagreeP = 1) ∨ (n ≠ s.errDN ∧ s.fc.disagreeN = 1) ∨ (es ≠ s.errSActive ∧ s.fc.disagreeS = 1)) →
      ∃ t, exec (.errPinReadback p n es) s = .next t ∧ t.fld 0x100018 2 0 = 4 * p.toNat + 2 * n.toNat + es.toNat ∧ t.fc = { s.fc with disagreeP := readbackCount s.fc.disagreeP (decide (p ≠ s.errDP)), disagreeN := readbackCount s.fc.disagreeN (decide (n ≠ s.errDN)), disagreeS := readbackCount s.fc.disagreeS (decide (es ≠ s.errSActive)) } ∧ OnlyTouches [.regs, .fc] s t) ∧
    (∀ (p n es : Bool) (s : State),
      (p ≠ s.errDP ∧ s.fc.disagreeP = 1) ∨ (n ≠ s.errDN ∧ s.fc.disagreeN = 1) ∨ (es ≠ s.errSActive ∧ s.fc.disagreeS = 1) →
      ∃ t, exec (.errPinReadback p n es) s = .next t ∧ t.fld 0x100018 2 0 = 4 * p.toNat + 2 * n.toNat + es.toNat ∧ (t.source (srcChip 4 5)).cause = true ∧ (t.source (srcChip 4 5)).cls = .s) ∧
    (∀ (v : Word) (s : State),
      s.rwlOpen = true →
      ∃ t, exec (.fcPinTestWrite v) s = .next t ∧ t.bit 0x100018 31 = decide (getBits v 31 31 = 1) ∧ t.fld 0x100018 30 0 = s.fld 0x100018 30 0 ∧ OnlyTouches [.regs, .emitted] s t) ∧
    (∀ (v : Word) (s : State),
      s.rwlOpen = false →
      s.bit 0x100018 31 ≠ decide (getBits v 31 31 = 1) →
      ∃ t, exec (.fcPinTestWrite v) s = .next t ∧ t.reg 0x100018 = s.reg 0x100018 ∧ (t.source (srcChip 0 1)).cause = true ∧ (t.source (srcChip 0 1)).cls = .n ∧ OnlyTouches [.regs, .counters, .emitted, .freeCount, .fc, .buf] s t) ∧
    (∀ (v : Word) (s : State),
      s.rwlOpen = false →
      s.bit 0x100018 31 = decide (getBits v 31 31 = 1) →
      ∃ t, exec (.fcPinTestWrite v) s = .next t ∧ t = s) ∧
    (∀ (s : State),
      s.chip.mode ≠ .safe →
      s.chip.mode ≠ .off →
      s.fc.injNext ≠ some (srcChip 4 4) ∨ s.fc.injQuiet = false →
      ∃ t, exec (.collectorMismatch) s = .next t ∧ t.chip.mode = .safe ∧ t.fc.errD = true ∧ t.fld 0x100008 3 0 = 2 ∧ t.bit 0x100008 30 = false ∧ (t.source (srcChip 4 4)).cause = true ∧ (t.source (srcChip 4 4)).cls = .d) ∧
    (∀ (s : State),
      s.chip.mode = .safe ∨ s.chip.mode = .off →
      ∃ t, exec (.collectorMismatch) s = .next t ∧ t.chip.mode = s.chip.mode ∧ (t.source (srcChip 4 4)).cause = true ∧ (t.source (srcChip 4 4)).cls = .d) ∧
    (∀ (s : State),
      s.chip.mode = .safe →
      s.fc.safeDone = false →
      ∃ t, exec (.safeStateComplete) s = .next t ∧ t.fc = { s.fc with safeDone := true } ∧ (∀ p, p < 1024 → s.bit (0x2000000 + p * 0x1000) 31 = true → Emission.lane p "LOCAL_FAULT" 0 ∈ t.emitted) ∧ OnlyTouches [.emitted, .fc] s t) ∧
    (∀ (s : State),
      s.chip.mode ≠ .safe ∨ s.fc.safeDone = true →
      ∃ t, exec (.safeStateComplete) s = .next t ∧ t = s) ∧
    (∀ (kind : Fin 6) (unit : BitVec 16) (d : Bool) (s : State),
      s.dataView kind unit.toNat = some d →
      ∃ t, exec (.viewCompare kind unit) s = .next t ∧ ((if s.fc.injHeld = some (srcChip 4 6) then !d else s.mgmtView kind unit.toNat) = d → t.divergedAt (kind.val * 65536 + unit.toNat) = 0 ∧ OnlyTouches [.fc] s t) ∧
      ((if s.fc.injHeld = some (srcChip 4 6) then !d else s.mgmtView kind unit.toNat) ≠ d → s.divergedAt (kind.val * 65536 + unit.toNat) = 0 → t.divergedAt (kind.val * 65536 + unit.toNat) = s.now + 1 ∧ OnlyTouches [.fc] s t) ∧
      ((if s.fc.injHeld = some (srcChip 4 6) then !d else s.mgmtView kind unit.toNat) ≠ d → s.divergedAt (kind.val * 65536 + unit.toNat) ≠ 0 → s.now + 1 < s.divergedAt (kind.val * 65536 + unit.toNat) + 100000 → t = s) ∧
      ((if s.fc.injHeld = some (srcChip 4 6) then !d else s.mgmtView kind unit.toNat) ≠ d → s.divergedAt (kind.val * 65536 + unit.toNat) ≠ 0 → s.divergedAt (kind.val * 65536 + unit.toNat) + 100000 ≤ s.now + 1 → t.mgmtView kind unit.toNat = d ∧ t.divergedAt (kind.val * 65536 + unit.toNat) = 0 ∧ (s.fc.injHeld ≠ some (srcChip 4 6) ∨ (s.source (srcChip 4 6)).live = false → (t.source (srcChip 4 6)).cause = true ∧ (t.source (srcChip 4 6)).cls = .n))) ∧
    (∀ (kind : Fin 6) (unit : BitVec 16) (s : State),
      s.dataView kind unit.toNat = none →
      ∃ t, exec (.viewCompare kind unit) s = .next t ∧ t = s)

/-- In TEST and SERVICE the first key makes the logic KEYED and the second arms it where the kind applies to the source,
and otherwise is refused with a class-N fault; any other key, the timeout or a write of the configuration ends KEYED,
and an armed logic refuses a new configuration; outside them a key is refused. The configuration takes its fields. A
fire is counted, and is DONE after COUNT: it waits for the source's next check, or, where the source is checked at
once, is corrected or reported by it; a LEVEL injection starts a condition of its source, shown here for a temperature
sensor, and a LINE injection holds its source live (which class LINE raises is free, assumption 81), until the
duration ends; while one waits or is held none fires. A scan starts with the window selection captured, ends in error
where its space is not the owner's, is aborted with its cause, and ends with the check value of its bytes; the
firmware uses only its own units, and the host's write to one is refused. A user field is written where RWL registers
may be, and flagged when it is clamped; while sealed the others take no write. (R12, R419, R420, R421, R425, R455,
R456, R463, R501, R505) -/
def Obligations.InjectionGuardsAndCalibration : Prop :=
    (∀ (v : Word) (s : State),
      s.chip.mode = .test ∨ s.chip.mode = .service →
      s.fc.inj = .idle ∨ s.fc.inj = .done →
      getBits v 15 0 = 0x6A17 →
      ∃ t, exec (.injectionKeyWrite v) s = .next t ∧ t.fc.inj = .keyed ∧ t.fld 0x10004C 1 0 = InjState.code .keyed ∧ OnlyTouches [.regs, .fc] s t) ∧
    (∀ (v : Word) (s : State),
      s.chip.mode = .test ∨ s.chip.mode = .service →
      s.fc.inj = .idle ∨ s.fc.inj = .done →
      getBits v 15 0 ≠ 0x6A17 →
      ∃ t, exec (.injectionKeyWrite v) s = .next t ∧ t = s) ∧
    (∀ (v : Word) (s : State),
      s.chip.mode = .test ∨ s.chip.mode = .service →
      s.fc.inj = .keyed →
      getBits v 15 0 = 0x95E8 →
      kindApplies s.injKind s.injSource = true →
      ∃ t, exec (.injectionKeyWrite v) s = .next t ∧ t.fc.inj = .armed ∧ t.fld 0x10004C 1 0 = InjState.code .armed ∧ t.fc.injFired = 0 ∧ t.fld 0x10004C 7 4 = 0 ∧ t.reg 0x100040 = s.reg 0x100040 ∧ OnlyTouches [.regs, .fc] s t) ∧
    (∀ (v : Word) (s : State),
      s.chip.mode = .test ∨ s.chip.mode = .service →
      s.fc.inj = .keyed →
      getBits v 15 0 = 0x95E8 →
      kindApplies s.injKind s.injSource = false →
      ∃ t, exec (.injectionKeyWrite v) s = .next t ∧ t.fc.inj = .idle ∧ t.fld 0x10004C 1 0 = InjState.code .idle ∧ t.bit 0x10004C 8 = true ∧ (t.source (srcChip 0 1)).cause = true ∧ (t.source (srcChip 0 1)).cls = .n ∧ t.reg 0x100040 = s.reg 0x100040 ∧ t.chip = s.chip) ∧
    (∀ (v : Word) (s : State),
      s.chip.mode = .test ∨ s.chip.mode = .service →
      (s.fc.inj = .keyed ∧ getBits v 15 0 ≠ 0x95E8) ∨ s.fc.inj = .armed →
      ∃ t, exec (.injectionKeyWrite v) s = .next t ∧ t.fc.inj = .idle ∧ t.fld 0x10004C 1 0 = InjState.code .idle ∧ OnlyTouches [.regs, .fc] s t) ∧
    (∀ (v : Word) (s : State),
      s.chip.mode ≠ .test →
      s.chip.mode ≠ .service →
      ∃ t, exec (.injectionKeyWrite v) s = .next t ∧ t.fc.inj = s.fc.inj ∧ (t.source (srcChip 0 1)).cause = true ∧ (t.source (srcChip 0 1)).cls = .n ∧ t.chip = s.chip) ∧
    (∀ (a : Bool) (v : Word) (s : State),
      s.fc.inj = .armed →
      ∃ t, exec (.injectionConfigWrite a v) s = .next t ∧ t.fc.inj = .armed ∧ t.reg 0x100040 = s.reg 0x100040 ∧ t.reg 0x100044 = s.reg 0x100044 ∧ (t.source (srcChip 0 1)).cause = true ∧ (t.source (srcChip 0 1)).cls = .n) ∧
    (∀ (a : Bool) (v : Word) (s : State),
      s.fc.inj = .keyed →
      ∃ t, exec (.injectionConfigWrite a v) s = .next t ∧ t.fc.inj = .idle ∧ t.fld 0x10004C 1 0 = InjState.code .idle ∧ (a = true → t.reg 0x100044 = v ∧ t.reg 0x100040 = s.reg 0x100040) ∧ (a = false → t.reg 0x100040 = setBits v 6 0 0 ∧ t.reg 0x100044 = s.reg 0x100044) ∧ OnlyTouches [.regs, .fc] s t) ∧
    (∀ (a : Bool) (v : Word) (s : State),
      s.fc.inj = .idle ∨ s.fc.inj = .done →
      ∃ t, exec (.injectionConfigWrite a v) s = .next t ∧ t.fc = s.fc ∧ (a = true → t.reg 0x100044 = v ∧ t.reg 0x100040 = s.reg 0x100040) ∧ (a = false → t.reg 0x100040 = setBits v 6 0 0 ∧ t.reg 0x100044 = s.reg 0x100044) ∧ OnlyTouches [.regs, .fc] s t) ∧
    (∀ (s : State),
      s.fc.inj = .keyed →
      ∃ t, exec (.injectionKeyTimeout) s = .next t ∧ t.fc.inj = .idle ∧ t.fld 0x10004C 1 0 = InjState.code .idle ∧ OnlyTouches [.regs, .fc] s t) ∧
    (∀ (s : State),
      s.fc.inj = .armed →
      s.fc.injHeld = none →
      s.injects s.injSource = none →
      s.injKind ≠ 3 →
      s.injKind ≠ 4 →
      waitsForCheck s.injSource = true →
      ∃ t, exec (.injectionFire) s = .next t ∧ t.fc.injFired = s.fc.injFired + 1 ∧ t.fc.inj = (if s.injCount ≤ s.fc.injFired + 1 then .done else .armed) ∧ t.fc.injNext = some s.injSource ∧ t.fc.injKind = s.injKind ∧ t.fc.injHeld = none ∧ t.fc.injQuiet = (decide (s.chip.mode = .test) && s.bit 0x100040 7) ∧ t.fc.src = s.fc.src ∧ OnlyTouches [.regs, .fc] s t) ∧
    (∀ (s : State),
      s.fc.inj = .armed →
      s.fc.injHeld = none →
      s.injects s.injSource = none →
      s.injKind = 1 ∨ s.injKind = 2 →
      waitsForCheck s.injSource = false →
      s.injSource < 0xF800 →
      pipeOfSource s.injSource = none →
      ∃ t, exec (.injectionFire) s = .next t ∧ t.fc.injFired = s.fc.injFired + 1 ∧ t.fc.inj = (if s.injCount ≤ s.fc.injFired + 1 then .done else .armed) ∧ t.fc.injHeld = none ∧ (t.source s.injSource).cause = true ∧ (t.source s.injSource).cls = injectedClass s.injSource ∧ t.fc.injNext = none) ∧
    (∀ (s : State),
      s.fc.inj = .armed →
      s.fc.injHeld = none →
      s.injects s.injSource = none →
      s.injKind = 0 →
      waitsForCheck s.injSource = false →
      s.injSource < 0xF800 →
      ∃ t, exec (.injectionFire) s = .next t ∧ t.fc.injFired = s.fc.injFired + 1 ∧ t.fc.inj = (if s.injCount ≤ s.fc.injFired + 1 then .done else .armed) ∧ (t.corrections s.injSource).head? = some s.now ∧ t.fc.injNext = none ∧ t.fc.src = s.fc.src ∧ OnlyTouches [.regs, .fc] s t) ∧
    (∀ (s : State),
      s.fc.inj = .armed →
      s.fc.injHeld = none →
      s.injects s.injSource = none →
      s.injKind = 4 →
      (s.source s.injSource).live = false →
      s.injSource ≠ srcChip 0 3 →
      pipeOfSource s.injSource = none →
      ∃ t, exec (.injectionFire) s = .next t ∧ (t.source s.injSource).cause = true ∧ (t.source s.injSource).live = true ∧ (t.source s.injSource).cls = Config.lineClass s.injSource ∧ t.fc.injHeld = some s.injSource ∧ t.fc.injLine = true ∧ t.fc.injFired = s.fc.injFired + 1 ∧ t.fc.inj = (if s.injCount ≤ s.fc.injFired + 1 then .done else .armed)) ∧
    (∀ (s : State),
      s.fc.inj = .armed →
      s.fc.injHeld = none →
      s.injects s.injSource = none →
      s.injKind = 3 →
      (s.source s.injSource).live = false →
      chipBlock s.injSource = 0x15 →
      ∃ t, exec (.injectionFire) s = .next t ∧ (t.source s.injSource).cause = true ∧ (t.source s.injSource).live = true ∧ (t.source s.injSource).cls = .d ∧ t.fc.injHeld = some s.injSource ∧ t.fc.injLine = false ∧ t.fc.injFired = s.fc.injFired + 1 ∧ t.fc.inj = (if s.injCount ≤ s.fc.injFired + 1 then .done else .armed)) ∧
    (∀ (s : State),
      s.fc.inj ≠ .armed ∨ s.fc.injHeld.isSome = true ∨ (s.injects s.injSource).isSome = true →
      ∃ t, exec (.injectionFire) s = .next t ∧ t = s) ∧
    (∀ (s : State),
      s.fc.inj ≠ .keyed →
      ∃ t, exec (.injectionKeyTimeout) s = .next t ∧ t = s) ∧
    (∀ (s : State),
      s.fc.injHeld = none →
      ∃ t, exec (.injectionLevelEnd) s = .next t ∧ t = s) ∧
    (∀ (src : Nat) (s : State),
      s.fc.injHeld = some src →
      s.fc.injLine = false →
      chipBlock src = 0x15 →
      ∃ t, exec (.injectionLevelEnd) s = .next t ∧ t.source src = { s.source src with live := false } ∧ t.fc.injHeld = none ∧ (∀ x, x ≠ src → t.source x = s.source x) ∧ OnlyTouches [.fc] s t) ∧
    (∀ (src : Nat) (s : State),
      s.fc.injHeld = some src →
      s.fc.injLine = true →
      ∃ t, exec (.injectionLevelEnd) s = .next t ∧ t.source src = { s.source src with live := false } ∧ t.fc.injHeld = none ∧ (∀ x, x ≠ src → t.source x = s.source x) ∧ OnlyTouches [.fc] s t) ∧
    (∀ (u : Fin 16) (v : Word) (s : State),
      s.closed (guOff u) = false →
      getBits v 0 0 = 1 →
      s.guHosts u = true →
      s.fld (guOff u + 8) 31 30 ≠ 1 →
      s.fld (guOff u) 17 16 < 2 →
      ∃ t, exec (.guScanStart u v none) s = .next t ∧ t.fld (guOff u + 8) 31 30 = 1 ∧ Tbl.get oneWord t.ks.guSel u = s.reg 0x180 ∧ OnlyTouches [.regs, .ks] s t) ∧
    (∀ (u : Fin 16) (v : Word) (s : State),
      s.closed (guOff u) = false →
      getBits v 0 0 = 1 →
      s.guHosts u = true →
      s.fld (guOff u + 8) 31 30 ≠ 1 →
      2 ≤ s.fld (guOff u) 17 16 →
      ∃ t, exec (.guScanStart u v none) s = .next t ∧ t.fld (guOff u + 8) 31 30 = 3 ∧ t.fld (guOff u + 8) 29 28 = 3 ∧ OnlyTouches [.regs] s t) ∧
    (∀ (u : Fin 16) (v : Word) (s : State),
      s.closed (guOff u) = false →
      s.guHosts u = false ∨ (getBits v 0 0 = 1 ∧ s.fld (guOff u + 8) 31 30 = 1) →
      ∃ t, exec (.guScanStart u v none) s = .next t ∧ t.ks = s.ks ∧ (t.source (srcChip 0 1)).cause = true ∧ (t.source (srcChip 0 1)).cls = .n ∧ t.reg (guOff u + 8) = s.reg (guOff u + 8)) ∧
    (∀ (u : Fin 16) (v : Word) (s : State),
      s.closed (guOff u) = true ∨ (s.guHosts u = true ∧ getBits v 0 0 = 0) →
      ∃ t, exec (.guScanStart u v none) s = .next t ∧ t = s) ∧
    (∀ (u : Fin 16) (v : Word) (ws : List (Fin 16 × Word)) (s : State),
      s.guHosts u = true ∨ s.fld (guOff u + 8) 31 30 = 1 →
      ∃ t, exec (.guScanStart u v (some ws)) s = .next t ∧ t = s) ∧
    (∀ (u : Fin 16) (v : Word) (s : State),
      s.guHosts u = false →
      s.fld (guOff u + 8) 31 30 ≠ 1 →
      getBits v 0 0 = 1 →
      ∃ t, exec (.guScanStart u v (some [])) s = .next t ∧ t.fld (guOff u + 8) 31 30 = (if s.fld (guOff u) 17 16 < 3 then 1 else 3) ∧ (s.fld (guOff u) 17 16 < 3 → Tbl.get oneWord t.ks.guSel u = s.reg 0x180) ∧ OnlyTouches [.regs, .ks] s t) ∧
    (∀ (u : Fin 16) (v : Word) (ws : List (Fin 16 × Word)) (s : State),
      s.guHosts u = false →
      s.fld (guOff u + 8) 31 30 ≠ 1 →
      getBits v 0 0 = 0 →
      ∃ t, exec (.guScanStart u v (some ws)) s = .next t ∧ t = ws.foldl (fun s w => s.writeOrdinary (guOff u + 4 * w.1.val) w.2) s) ∧
    (∀ (u : Fin 16) (v : Word) (fw : Bool) (s : State),
      fw = true ∨ s.closed (guOff u) = false →
      getBits v 1 1 = 1 →
      s.guHosts u = !fw →
      s.fld (guOff u + 8) 31 30 = 1 →
      ∃ t, exec (.guScanAbort u v fw) s = .next t ∧ t.fld (guOff u + 8) 31 30 = 3 ∧ t.fld (guOff u + 8) 29 28 = 1 ∧ OnlyTouches [.regs] s t) ∧
    (∀ (u : Fin 16) (v : Word) (s : State),
      s.closed (guOff u) = false →
      s.guHosts u = false →
      ∃ t, exec (.guScanAbort u v false) s = .next t ∧ t.reg (guOff u + 8) = s.reg (guOff u + 8) ∧ t.ks = s.ks ∧ (t.source (srcChip 0 1)).cause = true ∧ (t.source (srcChip 0 1)).cls = .n) ∧
    (∀ (u : Fin 16) (v : Word) (fw : Bool) (s : State),
      (fw = false ∧ s.closed (guOff u) = true) ∨ (fw = true ∧ s.guHosts u = true) ∨ (s.guHosts u = !fw ∧ (getBits v 1 1 = 0 ∨ ¬s.fld (guOff u + 8) 31 30 = 1)) →
      ∃ t, exec (.guScanAbort u v fw) s = .next t ∧ t = s) ∧
    (∀ (u : Fin 16) (d : Option (List Byte)) (s : State),
      s.fld (guOff u + 8) 31 30 = 1 →
      s.fld (guOff u) 17 16 = 0 →
      ∃ t, exec (.guScanDone u d) s = .next t ∧ t.reg (guOff u + 0x38) = BitVec.ofNat 32 (checkValue (s.guWidth u) (s.addr64 (guOff u + 0x10)) (s.addr64 (guOff u + 0x18)) (s.addr64 (guOff u + 0x20)) (s.bit (guOff u) 24) (s.bit (guOff u) 23) (s.guFold u ++ s.guBytes u (s.addr64 (guOff u + 0x30)) (s.reg (guOff u + 0xC)).toNat)) ∧ t.reg (guOff u + 0x3C) = BitVec.ofNat 32 (checkValue (s.guWidth u) (s.addr64 (guOff u + 0x10)) (s.addr64 (guOff u + 0x18)) (s.addr64 (guOff u + 0x20)) (s.bit (guOff u) 24) (s.bit (guOff u) 23) (s.guFold u ++ s.guBytes u (s.addr64 (guOff u + 0x30)) (s.reg (guOff u + 0xC)).toNat) / 2 ^ 32) ∧ t.fld (guOff u + 8) 31 30 = 2 ∧ OnlyTouches [.regs] s t) ∧
    (∀ (u : Fin 16) (bs : List Byte) (s : State),
      s.fld (guOff u + 8) 31 30 = 1 →
      s.fld (guOff u) 17 16 ≠ 0 →
      ∃ t, exec (.guScanDone u (some bs)) s = .next t ∧ t.reg (guOff u + 0x38) = BitVec.ofNat 32 (checkValue (s.guWidth u) (s.addr64 (guOff u + 0x10)) (s.addr64 (guOff u + 0x18)) (s.addr64 (guOff u + 0x20)) (s.bit (guOff u) 24) (s.bit (guOff u) 23) (s.guFold u ++ sliceBytes bs 0 (s.reg (guOff u + 0xC)).toNat)) ∧ t.reg (guOff u + 0x3C) = BitVec.ofNat 32 (checkValue (s.guWidth u) (s.addr64 (guOff u + 0x10)) (s.addr64 (guOff u + 0x18)) (s.addr64 (guOff u + 0x20)) (s.bit (guOff u) 24) (s.bit (guOff u) 23) (s.guFold u ++ sliceBytes bs 0 (s.reg (guOff u + 0xC)).toNat) / 2 ^ 32) ∧ t.fld (guOff u + 8) 31 30 = 2 ∧ OnlyTouches [.regs] s t) ∧
    (∀ (u : Fin 16) (s : State),
      s.fld (guOff u + 8) 31 30 = 1 →
      s.fld (guOff u) 17 16 = 1 →
      ∃ t, exec (.guScanDone u none) s = .next t ∧ t.fld (guOff u + 8) 31 30 = 3 ∧ t.fld (guOff u + 8) 29 28 = 2 ∧ t.bit 0x400004 16 = true ∧ OnlyTouches [.regs] s t) ∧
    (∀ (u : Fin 16) (d : Option (List Byte)) (s : State),
      ¬s.fld (guOff u + 8) 31 30 = 1 ∨ (d = none ∧ 2 ≤ s.fld (guOff u) 17 16) →
      ∃ t, exec (.guScanDone u d) s = .next t ∧ t = s) ∧
    (∀ (k : Fin 4) (off : Offset) (v : Word) (s : State),
      off.toNat = (0x1000 + 4 * k.val) →
      s.rwlOpen = true →
      ∃ t, exec (.calibrationWrite off v) s = .next t ∧ t.reg (0x1000 + 4 * k.val) = v &&& (if k = 2 then 0x1FF else if k = 3 then 0xFF else 0x1F) ∧ ((s.setReg (0x1000 + 4 * k.val) (v &&& (if k = 2 then 0x1FF else if k = 3 then 0xFF else 0x1F))).calClamps k = true → (t.source (srcChip 0 2)).cause = true ∧ (t.source (srcChip 0 2)).cls = .n ∧ t.bit 0x1010 k = true) ∧ ((s.setReg (0x1000 + 4 * k.val) (v &&& (if k = 2 then 0x1FF else if k = 3 then 0xFF else 0x1F))).calClamps k = false → OnlyTouches [.regs] s t)) ∧
    (∀ (k : Fin 4) (off : Offset) (v : Word) (s : State),
      off.toNat = (0x1000 + 4 * k.val) →
      s.rwlOpen = false →
      (s.reg (0x1000 + 4 * k.val) ≠ v &&& (if k = 2 then 0x1FF else if k = 3 then 0xFF else 0x1F)) →
      ∃ t, exec (.calibrationWrite off v) s = .next t ∧ t.reg (0x1000 + 4 * k.val) = s.reg (0x1000 + 4 * k.val) ∧ (t.source (srcChip 0 1)).cause = true ∧ (t.source (srcChip 0 1)).cls = .n ∧ t.chip = s.chip) ∧
    (∀ (off : Offset) (v : Word) (s : State),
      0x2000 ≤ off.toNat →
      off.toNat < 0x3000 →
      off.toNat % 4 = 0 →
      ∃ t, exec (.calibrationWrite off v) s = .next t ∧ t.reg off.toNat = v ∧ t.chip = s.chip ∧ (clampInt (signedBits v.toNat 32) (-asymMax) asymMax ≠ signedBits v.toNat 32 → (t.source (srcChip 0 2)).cause = true ∧ (t.source (srcChip 0 2)).cls = .n ∧ t.bit 0x1010 4 = true)) ∧
    (∀ (n : Four) (off : Offset) (v : Word) (s : State),
      s.closed off.toNat = false →
      off.toNat = 0x2400024 + n.val * 0x100 →
      ∃ t, exec (.calibrationWrite off v) s = .next t ∧ t.reg off.toNat = v ∧ t.chip = s.chip ∧ (clampInt (signedBits v.toNat 32) (-asymMax) asymMax ≠ signedBits v.toNat 32 → (t.source (srcChip 0 2)).cause = true ∧ (t.source (srcChip 0 2)).cls = .n ∧ t.bit 0x1010 5 = true)) ∧
    (∀ (off : Offset) (v : Word) (s : State),
      s.closed off.toNat = true ∨ (isCalibration off.toNat = false ∧ ¬(0x2000 ≤ off.toNat ∧ off.toNat < 0x3000 ∧ off.toNat % 4 = 0)) →
      ∃ t, exec (.calibrationWrite off v) s = .next t ∧ t = s)
end

