-- ==== Sys2Proof/Laws/Tbl.lean ====
section
/-! SUPPORT. What the operations of a sparse table do: a read after a write, and that a write keeps the canonical form. -/

namespace Sys2Proof.Machine

variable {α : Type} [DecidableEq α] (d : Nat → α)

theorem Tbl.get_of_above (t : Tbl α) (k : Nat) (h : Tbl.above k t = true) : Tbl.get d t k = d k := by
  induction t with
  | nil => rfl
  | cons e t ih =>
    obtain ⟨k', v⟩ := e
    simp only [Tbl.above, List.all_cons, Bool.and_eq_true, decide_eq_true_eq] at h
    have hne : k ≠ k' := by omega
    simp only [Tbl.get, hne, if_false]
    exact ih (by simpa [Tbl.above] using h.2)

theorem Tbl.above_mono {t : Tbl α} {k k' : Nat} (h : k' ≤ k) (ha : Tbl.above k t = true) : Tbl.above k' t = true := by
  simp only [Tbl.above, List.all_eq_true, decide_eq_true_eq] at *
  intro e he
  have := ha e he
  omega

theorem Tbl.get_ins (t : Tbl α) (k k' : Nat) (v : α) :
    Tbl.get d (Tbl.ins t k v) k' = if k' = k then v else Tbl.get d t k' := by
  induction t with
  | nil => simp [Tbl.ins, Tbl.get]
  | cons e t ih =>
    obtain ⟨a, w⟩ := e
    simp only [Tbl.ins]
    by_cases h1 : k < a
    · simp [h1, Tbl.get]
    · by_cases h2 : k = a
      · subst h2
        by_cases h3 : k' = k <;> simp [Tbl.get, h3]
      · simp only [h1, h2, if_false, Tbl.get, ih]
        by_cases h3 : k' = a
        · have : k' ≠ k := by omega
          simp [h3, this]
          intro h; omega
        · simp [h3]

theorem Tbl.get_del (t : Tbl α) (k k' : Nat) :
    Tbl.get d (Tbl.del t k) k' = if k' = k then d k else Tbl.get d t k' := by
  induction t with
  | nil => by_cases h : k' = k <;> simp [Tbl.del, Tbl.get, h]
  | cons e t ih =>
    obtain ⟨a, w⟩ := e
    simp only [Tbl.del]
    by_cases h : k = a
    · subst h
      simp only [if_true, ih, Tbl.get]
      by_cases h3 : k' = k <;> simp [h3]
    · simp only [h, if_false, Tbl.get, ih]
      by_cases h3 : k' = a
      · have : k' ≠ k := by omega
        simp [h3]
        intro h; omega
      · simp [h3]

/-- Reading a table after a write, of any table. -/
theorem Tbl.get_put (t : Tbl α) (k k' : Nat) (v : α) :
    Tbl.get d (Tbl.put d t k v) k' = if k' = k then v else Tbl.get d t k' := by
  unfold Tbl.put
  by_cases h : v = d k
  · simp [h, Tbl.get_del]
  · simp [h, Tbl.get_ins]

theorem Tbl.get_mod (t : Tbl α) (k k' : Nat) (f : α → α) :
    Tbl.get d (Tbl.mod d t k f) k' = if k' = k then f (Tbl.get d t k) else Tbl.get d t k' := by
  simp [Tbl.mod, Tbl.get_put]

theorem Tbl.above_ins {t : Tbl α} {j k : Nat} {v : α} (h : Tbl.above j t = true) (hj : j < k) :
    Tbl.above j (Tbl.ins t k v) = true := by
  induction t with
  | nil => simp [Tbl.ins, Tbl.above, hj]
  | cons e t ih =>
    obtain ⟨a, w⟩ := e
    simp only [Tbl.above, List.all_cons, Bool.and_eq_true, decide_eq_true_eq] at h
    simp only [Tbl.ins]
    split
    · simp [Tbl.above, hj, h.1]; simpa using h.2
    · split
      · simp [Tbl.above, hj]; simpa using h.2
      · have := ih (by simpa [Tbl.above] using h.2)
        simp only [Tbl.above, List.all_cons, Bool.and_eq_true, decide_eq_true_eq]
        exact ⟨h.1, this⟩

theorem Tbl.above_del {t : Tbl α} {j k : Nat} (h : Tbl.above j t = true) : Tbl.above j (Tbl.del t k) = true := by
  induction t with
  | nil => simp [Tbl.del, Tbl.above]
  | cons e t ih =>
    obtain ⟨a, w⟩ := e
    simp only [Tbl.above, List.all_cons, Bool.and_eq_true, decide_eq_true_eq] at h
    simp only [Tbl.del]
    split
    · exact ih (by simpa [Tbl.above] using h.2)
    · have := ih (by simpa [Tbl.above] using h.2)
      simp only [Tbl.above, List.all_cons, Bool.and_eq_true, decide_eq_true_eq]
      exact ⟨h.1, this⟩

theorem Tbl.wf_ins (t : Tbl α) (k : Nat) (v : α) (hv : v ≠ d k) (hwf : Tbl.wf d t = true) :
    Tbl.wf d (Tbl.ins t k v) = true := by
  induction t with
  | nil => simp [Tbl.ins, Tbl.wf, Tbl.above, hv]
  | cons e t ih =>
    obtain ⟨a, w⟩ := e
    have hwf' := hwf
    simp only [Tbl.wf, Bool.and_eq_true] at hwf
    simp only [Tbl.ins]
    split
    · rename_i h1
      have : Tbl.above k ((a, w) :: t) = true := by
        have h2 := Tbl.above_mono (k' := k) (by omega) hwf.1.1
        simp only [Tbl.above, List.all_cons, Bool.and_eq_true, decide_eq_true_eq]
        exact ⟨h1, h2⟩
      rw [Tbl.wf]; simp [this, hv, hwf']
    · split
      · rename_i _ h2; subst h2
        simp [Tbl.wf, hwf.1.1, hv, hwf.2]
      · have h3 : a < k := by omega
        simp only [Tbl.wf, Bool.and_eq_true]
        exact ⟨⟨Tbl.above_ins hwf.1.1 h3, hwf.1.2⟩, ih hwf.2⟩

theorem Tbl.wf_del (t : Tbl α) (k : Nat) (hwf : Tbl.wf d t = true) : Tbl.wf d (Tbl.del t k) = true := by
  induction t with
  | nil => simp [Tbl.del, Tbl.wf]
  | cons e t ih =>
    obtain ⟨a, w⟩ := e
    simp only [Tbl.wf, Bool.and_eq_true] at hwf
    simp only [Tbl.del]
    split
    · exact ih hwf.2
    · simp only [Tbl.wf, Bool.and_eq_true]
      exact ⟨⟨Tbl.above_del hwf.1.1, hwf.1.2⟩, ih hwf.2⟩

/-- A write keeps the canonical form. -/
theorem Tbl.wf_put (t : Tbl α) (k : Nat) (v : α) (hwf : Tbl.wf d t = true) : Tbl.wf d (Tbl.put d t k v) = true := by
  unfold Tbl.put
  split
  · exact Tbl.wf_del d t k hwf
  · rename_i h; exact Tbl.wf_ins d t k v h hwf

/-- A change of one entry keeps the canonical form. -/
theorem Tbl.wf_mod (t : Tbl α) (k : Nat) (f : α → α) (hwf : Tbl.wf d t = true) : Tbl.wf d (Tbl.mod d t k f) = true :=
  Tbl.wf_put d t k _ hwf

/-- Taking entries out keeps the canonical form. -/
theorem Tbl.wf_filter (t : Tbl α) (p : Nat × α → Bool) (hwf : Tbl.wf d t = true) : Tbl.wf d (t.filter p) = true := by
  induction t with
  | nil => simp [Tbl.wf]
  | cons e t ih =>
    obtain ⟨a, w⟩ := e
    simp only [Tbl.wf, Bool.and_eq_true] at hwf
    simp only [List.filter_cons]
    split
    · simp only [Tbl.wf, Bool.and_eq_true]
      refine ⟨⟨?_, hwf.1.2⟩, ih hwf.2⟩
      simp only [Tbl.above, List.all_eq_true, List.mem_filter] at *
      exact fun e he => hwf.1.1 e he.1
    · exact ih hwf.2

end Sys2Proof.Machine
end

