-- ==== Sys2Proof/Laws/Moves.lean ====
section
/-! SUPPORT. The one relation in which the laws of the operations are said: which parts of the state an operation may
touch, and that it keeps the stores in canonical form. -/

namespace Sys2Proof.Machine

/-- From `s` to `t` only the parts listed change, and canonical stores stay canonical. -/
structure Moves (ps : List StatePart) (s t : State) : Prop where
  only : OnlyTouches ps s t
  keep : s.Canonical → t.Canonical

theorem StatePart.same_refl (p : StatePart) (s : State) : p.same s s := by cases p <;> rfl

theorem StatePart.same_trans {p : StatePart} {s t u : State} (h : p.same s t) (k : p.same t u) : p.same s u := by
  cases p <;> exact k.trans h

variable {ps qs : List StatePart} {s t u : State}

theorem Moves.refl : Moves ps s s := ⟨fun p _ => p.same_refl s, id⟩

theorem Moves.trans (h : Moves ps s t) (k : Moves ps t u) : Moves ps s u :=
  ⟨fun p hp => StatePart.same_trans (h.only p hp) (k.only p hp), fun c => k.keep (h.keep c)⟩

theorem Moves.mono (hs : qs ⊆ ps) (h : Moves qs s t) : Moves ps s t :=
  ⟨fun p hp => h.only p (fun hq => hp (hs hq)), h.keep⟩

/-- An operation that leaves the stores themselves alone. -/
theorem Moves.plain (h : OnlyTouches ps s t) (hr : t.regs = s.regs) (hh : t.holding = s.holding)
    (hc : t.counters = s.counters) (hm : t.hostMem = s.hostMem) (hb : t.buf.mem = s.buf.mem)
    (hf : t.boot.flash = s.boot.flash) : Moves ps s t :=
  ⟨h, fun c => ⟨hr ▸ c.regs, hh ▸ c.holding, hc ▸ c.counters, hm ▸ c.hostMem, hb ▸ c.mem, hf ▸ c.flash⟩⟩

theorem Moves.ite {c : Prop} [Decidable c] (h : Moves ps s t) (k : Moves ps s u) : Moves ps s (if c then t else u) := by
  split
  · exact h
  · exact k

/-- One operation more. -/
theorem Moves.step (k : Moves qs t u) (hs : qs ⊆ ps) (h : Moves ps s t) : Moves ps s u := h.trans (k.mono hs)

theorem Moves.fold {α : Type} {f : State → α → State} {l : List α} (h : ∀ s x, Moves ps s (f s x)) (k : Moves ps s t) :
    Moves ps s (l.foldl f t) := by
  induction l generalizing t with
  | nil => exact k
  | cons x l ih => exact ih (k.trans (h t x))

/-- A fold that carries a value beside the state. -/
theorem Moves.fold₁ {α β : Type} {f : State × β → α → State × β} {l : List α} {b : β}
    (h : ∀ a x, Moves ps a.1 (f a x).1) (k : Moves ps s t) : Moves ps s (l.foldl f (t, b)).1 := by
  suffices ∀ a : State × β, Moves ps a.1 (l.foldl f a).1 from k.trans (this (t, b))
  intro a
  induction l generalizing a with
  | nil => exact .refl
  | cons x l ih => exact (h a x).trans (ih (f a x))

/-! One part of the state is written: a part that holds no store needs nothing more. -/

theorem Moves.pending {x} (hp : .pending ∈ ps) (h : Moves ps s t) : Moves ps s { t with pending := x } :=
  h.trans (.plain (fun p h => by cases p <;> first | rfl | exact absurd hp h) rfl rfl rfl rfl rfl rfl)

theorem Moves.readData {x} (hp : .readData ∈ ps) (h : Moves ps s t) : Moves ps s { t with readData := x } :=
  h.trans (.plain (fun p h => by cases p <;> first | rfl | exact absurd hp h) rfl rfl rfl rfl rfl rfl)

theorem Moves.emitted {x} (hp : .emitted ∈ ps) (h : Moves ps s t) : Moves ps s { t with emitted := x } :=
  h.trans (.plain (fun p h => by cases p <;> first | rfl | exact absurd hp h) rfl rfl rfl rfl rfl rfl)

theorem Moves.freeCount {x} (hp : .freeCount ∈ ps) (h : Moves ps s t) : Moves ps s { t with freeCount := x } :=
  h.trans (.plain (fun p h => by cases p <;> first | rfl | exact absurd hp h) rfl rfl rfl rfl rfl rfl)

theorem Moves.chip {x} (hp : .chip ∈ ps) (h : Moves ps s t) : Moves ps s { t with chip := x } :=
  h.trans (.plain (fun p h => by cases p <;> first | rfl | exact absurd hp h) rfl rfl rfl rfl rfl rfl)

theorem Moves.fc {x} (hp : .fc ∈ ps) (h : Moves ps s t) : Moves ps s { t with fc := x } :=
  h.trans (.plain (fun p h => by cases p <;> first | rfl | exact absurd hp h) rfl rfl rfl rfl rfl rfl)

theorem Moves.rx {x} (hp : .rx ∈ ps) (h : Moves ps s t) : Moves ps s { t with rx := x } :=
  h.trans (.plain (fun p h => by cases p <;> first | rfl | exact absurd hp h) rfl rfl rfl rfl rfl rfl)

theorem Moves.pipes {x} (hp : .pipes ∈ ps) (h : Moves ps s t) : Moves ps s { t with pipes := x } :=
  h.trans (.plain (fun p h => by cases p <;> first | rfl | exact absurd hp h) rfl rfl rfl rfl rfl rfl)

theorem Moves.progs {x} (hp : .progs ∈ ps) (h : Moves ps s t) : Moves ps s { t with progs := x } :=
  h.trans (.plain (fun p h => by cases p <;> first | rfl | exact absurd hp h) rfl rfl rfl rfl rfl rfl)

theorem Moves.tables {x} (hp : .tables ∈ ps) (h : Moves ps s t) : Moves ps s { t with tables := x } :=
  h.trans (.plain (fun p h => by cases p <;> first | rfl | exact absurd hp h) rfl rfl rfl rfl rfl rfl)

theorem Moves.trestle {x} (hp : .trestle ∈ ps) (h : Moves ps s t) : Moves ps s { t with trestle := x } :=
  h.trans (.plain (fun p h => by cases p <;> first | rfl | exact absurd hp h) rfl rfl rfl rfl rfl rfl)

theorem Moves.ord {x} (hp : .ord ∈ ps) (h : Moves ps s t) : Moves ps s { t with ord := x } :=
  h.trans (.plain (fun p h => by cases p <;> first | rfl | exact absurd hp h) rfl rfl rfl rfl rfl rfl)

theorem Moves.egr {x} (hp : .egr ∈ ps) (h : Moves ps s t) : Moves ps s { t with egr := x } :=
  h.trans (.plain (fun p h => by cases p <;> first | rfl | exact absurd hp h) rfl rfl rfl rfl rfl rfl)

theorem Moves.tel {x} (hp : .tel ∈ ps) (h : Moves ps s t) : Moves ps s { t with tel := x } :=
  h.trans (.plain (fun p h => by cases p <;> first | rfl | exact absurd hp h) rfl rfl rfl rfl rfl rfl)

theorem Moves.via {x} (hp : .via ∈ ps) (h : Moves ps s t) : Moves ps s { t with via := x } :=
  h.trans (.plain (fun p h => by cases p <;> first | rfl | exact absurd hp h) rfl rfl rfl rfl rfl rfl)

theorem Moves.cmp {x} (hp : .cmp ∈ ps) (h : Moves ps s t) : Moves ps s { t with cmp := x } :=
  h.trans (.plain (fun p h => by cases p <;> first | rfl | exact absurd hp h) rfl rfl rfl rfl rfl rfl)

theorem Moves.pierTx {x} (hp : .pierTx ∈ ps) (h : Moves ps s t) : Moves ps s { t with pierTx := x } :=
  h.trans (.plain (fun p h => by cases p <;> first | rfl | exact absurd hp h) rfl rfl rfl rfl rfl rfl)

theorem Moves.lanes {x} (hp : .lanes ∈ ps) (h : Moves ps s t) : Moves ps s { t with lanes := x } :=
  h.trans (.plain (fun p h => by cases p <;> first | rfl | exact absurd hp h) rfl rfl rfl rfl rfl rfl)

theorem Moves.piers {x} (hp : .piers ∈ ps) (h : Moves ps s t) : Moves ps s { t with piers := x } :=
  h.trans (.plain (fun p h => by cases p <;> first | rfl | exact absurd hp h) rfl rfl rfl rfl rfl rfl)

theorem Moves.time {x} (hp : .time ∈ ps) (h : Moves ps s t) : Moves ps s { t with time := x } :=
  h.trans (.plain (fun p h => by cases p <;> first | rfl | exact absurd hp h) rfl rfl rfl rfl rfl rfl)

theorem Moves.hq {x} (hp : .hq ∈ ps) (h : Moves ps s t) : Moves ps s { t with hq := x } :=
  h.trans (.plain (fun p h => by cases p <;> first | rfl | exact absurd hp h) rfl rfl rfl rfl rfl rfl)

theorem Moves.jrn {x} (hp : .jrn ∈ ps) (h : Moves ps s t) : Moves ps s { t with jrn := x } :=
  h.trans (.plain (fun p h => by cases p <;> first | rfl | exact absurd hp h) rfl rfl rfl rfl rfl rfl)

theorem Moves.ks {x} (hp : .ks ∈ ps) (h : Moves ps s t) : Moves ps s { t with ks := x } :=
  h.trans (.plain (fun p h => by cases p <;> first | rfl | exact absurd hp h) rfl rfl rfl rfl rfl rfl)

theorem Moves.pwr {x} (hp : .pwr ∈ ps) (h : Moves ps s t) : Moves ps s { t with pwr := x } :=
  h.trans (.plain (fun p h => by cases p <;> first | rfl | exact absurd hp h) rfl rfl rfl rfl rfl rfl)

theorem Moves.buf {x : BufState} (hp : .buf ∈ ps) (k : x.mem = t.buf.mem)
    (h : Moves ps s t) : Moves ps s { t with buf := x } :=
  h.trans ⟨fun p h => by cases p <;> first | rfl | exact absurd hp h | exact k,
    fun c => ⟨c.regs, c.holding, c.counters, c.hostMem, k ▸ c.mem, c.flash⟩⟩

theorem Moves.mem {m : Tbl Byte} (hp : .mem ∈ ps)
    (k : Memory.wf t.buf.mem = true → Memory.wf m = true)
    (h : Moves ps s t) : Moves ps s { t with buf := { t.buf with mem := m } } :=
  h.trans ⟨fun p h => by cases p <;> first | rfl | exact absurd hp h,
    fun c => ⟨c.regs, c.holding, c.counters, c.hostMem, k c.mem, c.flash⟩⟩

theorem Moves.boot {x : BootState} (hp : .boot ∈ ps)
    (k : Tbl.wf flashErased t.boot.flash = true → Tbl.wf flashErased x.flash = true)
    (h : Moves ps s t) : Moves ps s { t with boot := x } :=
  h.trans ⟨fun p h => by cases p <;> first | rfl | exact absurd hp h,
    fun c => ⟨c.regs, c.holding, c.counters, c.hostMem, c.mem, k c.flash⟩⟩

theorem Moves.regs {x : Tbl Word} (hp : .regs ∈ ps)
    (k : Tbl.wf resetWord t.regs = true → Tbl.wf resetWord x = true)
    (h : Moves ps s t) : Moves ps s { t with regs := x } :=
  h.trans ⟨fun p h => by cases p <;> first | rfl | exact absurd hp h,
    fun c => ⟨k c.regs, c.holding, c.counters, c.hostMem, c.mem, c.flash⟩⟩

theorem Moves.holding {x : Tbl Word} (hp : .holding ∈ ps)
    (k : Tbl.wf (fun _ => (0 : Word)) t.holding = true → Tbl.wf (fun _ => (0 : Word)) x = true)
    (h : Moves ps s t) : Moves ps s { t with holding := x } :=
  h.trans ⟨fun p h => by cases p <;> first | rfl | exact absurd hp h,
    fun c => ⟨c.regs, k c.holding, c.counters, c.hostMem, c.mem, c.flash⟩⟩

theorem Moves.counters {x : Tbl Nat} (hp : .counters ∈ ps)
    (k : Tbl.wf zeroNat t.counters = true → Tbl.wf zeroNat x = true)
    (h : Moves ps s t) : Moves ps s { t with counters := x } :=
  h.trans ⟨fun p h => by cases p <;> first | rfl | exact absurd hp h,
    fun c => ⟨c.regs, c.holding, k c.counters, c.hostMem, c.mem, c.flash⟩⟩

theorem Moves.hostMem {x : List Host.Cell} (hp : .hostMem ∈ ps)
    (k : Tbl.wf hostByteDefault t.hostMem = true → Tbl.wf hostByteDefault x = true)
    (h : Moves ps s t) : Moves ps s { t with hostMem := x } :=
  h.trans ⟨fun p h => by cases p <;> first | rfl | exact absurd hp h,
    fun c => ⟨c.regs, c.holding, c.counters, k c.hostMem, c.mem, c.flash⟩⟩

/-- Several parts of the state are written at once. -/
theorem Moves.upd {x0 x1 x2 x3 x4 x5 x6 x7 x8 x9 x10 x11 x12 x13 x14 x15 x16 x17 x18 x19 x20 x21 x22 x23 x24 x25 x26 x27 x28 x29}
    (e : x0 = t.pending)
    (h1 : x1 = t.regs ∨ (.regs ∈ ps ∧ (Tbl.wf resetWord t.regs = true → Tbl.wf resetWord x1 = true)))
    (h2 : x2 = t.holding ∨ (.holding ∈ ps ∧ (Tbl.wf (fun _ => (0 : Word)) t.holding = true → Tbl.wf (fun _ => (0 : Word)) x2 = true)))
    (h3 : x3 = t.readData ∨ .readData ∈ ps)
    (h4 : x4 = t.counters ∨ (.counters ∈ ps ∧ (Tbl.wf zeroNat t.counters = true → Tbl.wf zeroNat x4 = true)))
    (h5 : x5 = t.hostMem ∨ (.hostMem ∈ ps ∧ (Tbl.wf hostByteDefault t.hostMem = true → Tbl.wf hostByteDefault x5 = true)))
    (h6 : x6 = t.emitted ∨ .emitted ∈ ps)
    (h7 : x7 = t.freeCount ∨ .freeCount ∈ ps)
    (h8 : x8 = t.chip ∨ .chip ∈ ps)
    (h9 : x9 = t.fc ∨ .fc ∈ ps)
    (h10 : x10 = t.buf ∨ .buf ∈ ps)
    (h10m : x10.mem = t.buf.mem ∨ (.mem ∈ ps ∧ (Memory.wf t.buf.mem = true → Memory.wf x10.mem = true)))
    (h11 : x11 = t.rx ∨ .rx ∈ ps)
    (h12 : x12 = t.pipes ∨ .pipes ∈ ps)
    (h13 : x13 = t.progs ∨ .progs ∈ ps)
    (h14 : x14 = t.tables ∨ .tables ∈ ps)
    (h15 : x15 = t.trestle ∨ .trestle ∈ ps)
    (h16 : x16 = t.ord ∨ .ord ∈ ps)
    (h17 : x17 = t.egr ∨ .egr ∈ ps)
    (h18 : x18 = t.tel ∨ .tel ∈ ps)
    (h19 : x19 = t.via ∨ .via ∈ ps)
    (h20 : x20 = t.cmp ∨ .cmp ∈ ps)
    (h21 : x21 = t.pierTx ∨ .pierTx ∈ ps)
    (h22 : x22 = t.lanes ∨ .lanes ∈ ps)
    (h23 : x23 = t.piers ∨ .piers ∈ ps)
    (h24 : x24 = t.time ∨ .time ∈ ps)
    (h25 : x25 = t.hq ∨ .hq ∈ ps)
    (h26 : x26 = t.jrn ∨ .jrn ∈ ps)
    (h27 : x27 = t.ks ∨ .ks ∈ ps)
    (h28 : x28 = t.pwr ∨ .pwr ∈ ps)
    (h29 : x29 = t.boot ∨ (.boot ∈ ps ∧ (Tbl.wf flashErased t.boot.flash = true → Tbl.wf flashErased x29.flash = true)))
    (h : Moves ps s t) :
    Moves ps s (State.mk x0 x1 x2 x3 x4 x5 x6 x7 x8 x9 x10 x11 x12 x13 x14 x15 x16 x17 x18 x19 x20 x21 x22 x23 x24 x25 x26 x27 x28 x29) :=
  h.trans ⟨fun p hn => by
      cases p
      · exact e
      · exact h1.resolve_right (fun k => hn k.1)
      · exact h2.resolve_right (fun k => hn k.1)
      · exact h3.resolve_right hn
      · exact h4.resolve_right (fun k => hn k.1)
      · exact h5.resolve_right (fun k => hn k.1)
      · exact h6.resolve_right hn
      · exact h7.resolve_right hn
      · exact h8.resolve_right hn
      · exact h9.resolve_right hn
      · exact congrArg (fun b : BufState => { b with mem := [] }) (h10.resolve_right hn)
      · exact h10m.resolve_right (fun k => hn k.1)
      · exact h11.resolve_right hn
      · exact h12.resolve_right hn
      · exact h13.resolve_right hn
      · exact h14.resolve_right hn
      · exact h15.resolve_right hn
      · exact h16.resolve_right hn
      · exact h17.resolve_right hn
      · exact h18.resolve_right hn
      · exact h19.resolve_right hn
      · exact h20.resolve_right hn
      · exact h21.resolve_right hn
      · exact h22.resolve_right hn
      · exact h23.resolve_right hn
      · exact h24.resolve_right hn
      · exact h25.resolve_right hn
      · exact h26.resolve_right hn
      · exact h27.resolve_right hn
      · exact h28.resolve_right hn
      · exact h29.resolve_right (fun k => hn k.1),
    fun c => ⟨h1.elim (fun k => k ▸ c.regs) (fun k => k.2 c.regs),
      h2.elim (fun k => k ▸ c.holding) (fun k => k.2 c.holding),
      h4.elim (fun k => k ▸ c.counters) (fun k => k.2 c.counters),
      h5.elim (fun k => k ▸ c.hostMem) (fun k => k.2 c.hostMem),
      h10m.elim (fun k => k ▸ c.mem) (fun k => k.2 c.mem),
      h29.elim (fun k => k ▸ c.flash) (fun k => k.2 c.flash)⟩⟩

/-- A command ends in a next state that an operation may reach. -/
def Ends (ps : List StatePart) (s : State) (o : Host.Outcome State Fault Refusal) : Prop :=
  ∃ t, o = .next t ∧ Moves ps s t

theorem Ends.next (h : Moves ps s t) : Ends ps s (.next t) := ⟨t, rfl, h⟩

theorem Ends.mono {o : Host.Outcome State Fault Refusal} (hs : qs ⊆ ps) (h : Ends qs s o) : Ends ps s o :=
  let ⟨t, e, m⟩ := h
  ⟨t, e, m.mono hs⟩

end Sys2Proof.Machine
end

