-- ==== Sys2Proof/Laws/Moves/Ops.lean ====
section
/-! SUPPORT. What each operation of Machine/Ops.lean can touch, and that it keeps the stores canonical. -/

namespace Sys2Proof.Machine

theorem State.setReg_moves {s : State} {off : Nat} {w : Word} :
    Moves [.regs] s (State.setReg s off w) := by
  unfold State.setReg
  all_goals (repeat' (first | with_reducible exact .refl | dsimp -proj only | split | (with_reducible apply Moves.regs; (· decide); (· first | exact fun h => h | exact Tbl.wf_put _ _ _ _ | exact fun h => Tbl.wf_put _ _ _ _ (Tbl.wf_put _ _ _ _ h) | exact Tbl.wf_filter _ _ _ | exact fun _ => rfl | exact writeCellBytes_wf | exact writeBytes_wf | exact programBytes_wf))))

theorem State.setFld_moves {s : State} {off hi lo v : Nat} :
    Moves [.regs] s (State.setFld s off hi lo v) := by
  unfold State.setFld
  all_goals (repeat' (first | with_reducible exact .refl | (with_reducible apply Moves.step State.setReg_moves; · decide) | dsimp -proj only | split))

theorem State.setBit_moves {s : State} {off i : Nat} {b : Bool} :
    Moves [.regs] s (State.setBit s off i b) := by
  unfold State.setBit
  all_goals (repeat' (first | with_reducible exact .refl | (with_reducible apply Moves.step State.setFld_moves; · decide) | dsimp -proj only | split))

theorem State.incSat_moves {s : State} {off hi lo n : Nat} :
    Moves [.regs] s (State.incSat s off hi lo n) := by
  unfold State.incSat
  all_goals (repeat' (first | with_reducible exact .refl | (with_reducible apply Moves.step State.setFld_moves; · decide) | dsimp -proj only | split))

theorem State.incMod_moves {s : State} {off hi lo n : Nat} :
    Moves [.regs] s (State.incMod s off hi lo n) := by
  unfold State.incMod
  all_goals (repeat' (first | with_reducible exact .refl | (with_reducible apply Moves.step State.setFld_moves; · decide) | dsimp -proj only | split))

theorem State.emit_moves {s : State} {e : Emission} :
    Moves [.emitted] s (State.emit s e) := by
  unfold State.emit
  all_goals (repeat' (first | with_reducible exact .refl | dsimp -proj only | split | (with_reducible apply Moves.emitted; · decide)))

theorem State.count_moves {s : State} {off n : Nat} :
    Moves [.counters] s (State.count s off n) := by
  unfold State.count
  all_goals (repeat' (first | with_reducible exact .refl | dsimp -proj only | split | (with_reducible apply Moves.counters; (· decide); (· first | exact fun h => h | exact Tbl.wf_put _ _ _ _ | exact fun h => Tbl.wf_put _ _ _ _ (Tbl.wf_put _ _ _ _ h) | exact Tbl.wf_filter _ _ _ | exact fun _ => rfl | exact writeCellBytes_wf | exact writeBytes_wf | exact programBytes_wf))))

theorem State.setTb_moves {s : State} {n : Nat} {b : TbBase} :
    Moves [.time] s (State.setTb s n b) := by
  unfold State.setTb
  all_goals (repeat' (first | with_reducible exact .refl | dsimp -proj only | split | (with_reducible apply Moves.time; · decide)))

theorem State.msixVector_moves {s : State} {v : Nat} :
    Moves [.regs, .emitted] s (State.msixVector s v) := by
  unfold State.msixVector
  all_goals (repeat' (first | with_reducible exact .refl | (with_reducible apply Moves.step State.setBit_moves; · decide) | (with_reducible apply Moves.step State.emit_moves; · decide) | dsimp -proj only | split))

theorem State.irq_moves {s : State} {n : Nat} :
    Moves [.regs, .emitted] s (State.irq s n) := by
  unfold State.irq
  all_goals (repeat' (first | with_reducible exact .refl | (with_reducible apply Moves.step State.msixVector_moves; · decide) | dsimp -proj only | split))

theorem State.setMgmt_moves {s : State} {kind unit : Nat} {b : Bool} :
    Moves [.fc] s (State.setMgmt s kind unit b) := by
  unfold State.setMgmt
  all_goals (repeat' (first | with_reducible exact .refl | dsimp -proj only | split | (with_reducible apply Moves.fc; · decide)))

end Sys2Proof.Machine
end

