-- ==== Sys2Proof/Laws/Moves/Recovery.lean ====
section
/-! SUPPORT. What each operation of Machine/Recovery.lean can touch, and that it keeps the stores canonical. -/

namespace Sys2Proof.Machine

theorem State.setPass_moves {s : State} {span : Nat} {pass : Pass} {x : PassState} :
    Moves [.pipes] s (State.setPass s span pass x) := by
  unfold State.setPass
  all_goals (repeat' (first | with_reducible exact .refl | dsimp -proj only | split | (with_reducible apply Moves.pipes; · decide)))

theorem State.setPipe_moves {s : State} {k : Nat} {x : PipeState} :
    Moves [.pipes] s (State.setPipe s k x) := by
  unfold State.setPipe
  all_goals (repeat' (first | with_reducible exact .refl | dsimp -proj only | split | (with_reducible apply Moves.pipes; · decide)))

theorem State.setClean_moves {s : State} {k : Nat} :
    Moves [.pipes] s (State.setClean s k) := by
  unfold State.setClean
  all_goals (repeat' (first | with_reducible exact .refl | (with_reducible apply Moves.step State.setPipe_moves; · decide) | dsimp -proj only | split))

theorem State.wasteSlots_moves {s : State} {k n : Nat} :
    Moves [.counters, .pipes] s (State.wasteSlots s k n) := by
  unfold State.wasteSlots
  all_goals (repeat' (first | with_reducible exact .refl | (with_reducible apply Moves.step State.count_moves; · decide) | (with_reducible apply Moves.step State.setPipe_moves; · decide) | dsimp -proj only | split))

theorem State.setPacket_moves {s : State} {i : Nat} {p : Option Packet} :
    Moves [.pipes] s (State.setPacket s i p) := by
  unfold State.setPacket
  all_goals (repeat' (first | with_reducible exact .refl | dsimp -proj only | split | (with_reducible apply Moves.pipes; · decide)))

theorem State.setReplays_moves {s : State} {g : Nat} {pass : Pass} {l : List Replay} :
    Moves [.pipes] s (State.setReplays s g pass l) := by
  unfold State.setReplays
  all_goals (repeat' (first | with_reducible exact .refl | dsimp -proj only | split | (with_reducible apply Moves.pipes; · decide)))

theorem State.setInfo_moves {s : State} {d : Nat} {x : FrameInfo} :
    Moves [.rx] s (State.setInfo s d x) := by
  unfold State.setInfo
  all_goals (repeat' (first | with_reducible exact .refl | dsimp -proj only | split | (with_reducible apply Moves.rx; · decide)))

theorem State.setDesc_moves {s : State} {d : Nat} {x : Desc} :
    Moves [.buf] s (State.setDesc s d x) := by
  unfold State.setDesc
  all_goals (repeat' (first | with_reducible exact .refl | dsimp -proj only | split | (with_reducible apply Moves.buf; (· decide); (· with_reducible rfl))))

theorem State.setOrder_moves {s : State} {q : Nat} {x : PairOrder} :
    Moves [.ord] s (State.setOrder s q x) := by
  unfold State.setOrder
  all_goals (repeat' (first | with_reducible exact .refl | dsimp -proj only | split | (with_reducible apply Moves.ord; · decide)))

theorem State.setLedger_moves {s : State} {d : Nat} {x : LedgerEntry} :
    Moves [.ord] s (State.setLedger s d x) := by
  unfold State.setLedger
  all_goals (repeat' (first | with_reducible exact .refl | dsimp -proj only | split | (with_reducible apply Moves.ord; · decide)))

theorem State.setReorderUse_moves {s : State} {g n : Nat} :
    Moves [.ord] s (State.setReorderUse s g n) := by
  unfold State.setReorderUse
  all_goals (repeat' (first | with_reducible exact .refl | dsimp -proj only | split | (with_reducible apply Moves.ord; · decide)))

theorem State.setTx_moves {s : State} {p : Nat} {x : Option TxCopy} :
    Moves [.egr] s (State.setTx s p x) := by
  unfold State.setTx
  all_goals (repeat' (first | with_reducible exact .refl | dsimp -proj only | split | (with_reducible apply Moves.egr; · decide)))

theorem State.setQueue_moves {s : State} {q : Nat} {l : List QEntry} :
    Moves [.egr] s (State.setQueue s q l) := by
  unfold State.setQueue
  all_goals (repeat' (first | with_reducible exact .refl | dsimp -proj only | split | (with_reducible apply Moves.egr; · decide)))

theorem State.setAhead_moves {s : State} {q : Nat} {l : List QEntry} :
    Moves [.egr] s (State.setAhead s q l) := by
  unfold State.setAhead
  all_goals (repeat' (first | with_reducible exact .refl | dsimp -proj only | split | (with_reducible apply Moves.egr; · decide)))

theorem State.setVia_moves {s : State} {p : Nat} {x : ViaLink} :
    Moves [.via] s (State.setVia s p x) := by
  unfold State.setVia
  all_goals (repeat' (first | with_reducible exact .refl | dsimp -proj only | split | (with_reducible apply Moves.via; · decide)))

theorem State.setArrivals_moves {s : State} {g : Nat} {l : List Nat} :
    Moves [.rx] s (State.setArrivals s g l) := by
  unfold State.setArrivals
  all_goals (repeat' (first | with_reducible exact .refl | dsimp -proj only | split | (with_reducible apply Moves.rx; · decide)))

theorem State.setHostQueue_moves {s : State} {g : Nat} {l : List Nat} :
    Moves [.pipes] s (State.setHostQueue s g l) := by
  unfold State.setHostQueue
  all_goals (repeat' (first | with_reducible exact .refl | dsimp -proj only | split | (with_reducible apply Moves.pipes; · decide)))

theorem State.setRecircQueue_moves {s : State} {g : Nat} {l : List Nat} :
    Moves [.pipes] s (State.setRecircQueue s g l) := by
  unfold State.setRecircQueue
  all_goals (repeat' (first | with_reducible exact .refl | dsimp -proj only | split | (with_reducible apply Moves.pipes; · decide)))

theorem State.setSelected_moves {s : State} {g : Nat} {l : List (Nat × QEntry)} :
    Moves [.pipes] s (State.setSelected s g l) := by
  unfold State.setSelected
  all_goals (repeat' (first | with_reducible exact .refl | dsimp -proj only | split | (with_reducible apply Moves.pipes; · decide)))

theorem State.setVoq_moves {s : State} {v : Nat} {x : Voq} :
    Moves [.cmp] s (State.setVoq s v x) := by
  unfold State.setVoq
  all_goals (repeat' (first | with_reducible exact .refl | dsimp -proj only | split | (with_reducible apply Moves.cmp; · decide)))

theorem State.untakeSeq_moves {s : State} {p : Nat} {t : TxCopy} :
    Moves [.via] s (State.untakeSeq s p t) := by
  unfold State.untakeSeq
  all_goals (repeat' (first | with_reducible exact .refl | (with_reducible apply Moves.step State.setVia_moves; · decide) | dsimp -proj only | split))

theorem State.stomp_moves {s : State} {p : Nat} {t : TxCopy} :
    Moves [.counters, .emitted, .via] s (State.stomp s p t) := by
  unfold State.stomp
  all_goals (repeat' (first | with_reducible exact .refl | (with_reducible apply Moves.step State.emit_moves; · decide) | (with_reducible apply Moves.step State.count_moves; · decide) | (with_reducible apply Moves.step State.untakeSeq_moves; · decide) | dsimp -proj only | split))

theorem State.stompAhead_moves {s : State} {p : Nat} :
    Moves [.counters, .emitted, .egr, .via] s (State.stompAhead s p) := by
  unfold State.stompAhead
  all_goals (repeat' (first | with_reducible exact .refl | (with_reducible apply Moves.step State.setTx_moves; · decide) | (with_reducible apply Moves.step State.setAhead_moves; · decide) | (with_reducible apply Moves.step State.stomp_moves; · decide) | dsimp -proj only | split))

theorem State.stompPorts_moves {s : State} {ps : List Nat} :
    Moves [.counters, .emitted, .egr, .via] s (State.stompPorts s ps) := by
  unfold State.stompPorts
  all_goals (repeat' (first | with_reducible exact .refl | (with_reducible apply Moves.step State.stompAhead_moves; · decide) | with_reducible apply Moves.fold | with_reducible apply Moves.fold₁ | with_reducible intro _ _ | dsimp -proj only | split))

theorem State.queueReplays_moves {s : State} {g : Nat} {ds : List Nat} {again : Nat → Option Nat} :
    Moves [.rx, .pipes] s (State.queueReplays s g ds again) := by
  unfold State.queueReplays
  all_goals (repeat' (first | with_reducible exact .refl | (with_reducible apply Moves.step State.setReplays_moves; · decide) | (with_reducible apply Moves.step State.setInfo_moves; · decide) | with_reducible apply Moves.fold | with_reducible apply Moves.fold₁ | with_reducible intro _ _ | dsimp -proj only | split))

theorem State.waste_moves {s : State} {k : Packet} :
    Moves [.counters] s (State.waste s k) := by
  unfold State.waste
  all_goals (repeat' (first | with_reducible exact .refl | (with_reducible apply Moves.step State.count_moves; · decide) | dsimp -proj only | split))

theorem State.dropWhere_moves {s : State} {f : Packet → Bool} :
    Moves [.counters, .pipes] s (State.dropWhere s f) := by
  unfold State.dropWhere
  all_goals (repeat' (first | with_reducible exact .refl | (with_reducible apply Moves.step State.waste_moves; · decide) | with_reducible apply Moves.fold | with_reducible apply Moves.fold₁ | with_reducible intro _ _ | dsimp -proj only | split | (with_reducible apply Moves.pipes; · decide)))

theorem State.dropPackets_moves {s : State} {span : Nat} {pass : Pass} {pipe : Nat} :
    Moves [.counters, .pipes] s (State.dropPackets s span pass pipe) := by
  unfold State.dropPackets
  all_goals (repeat' (first | with_reducible exact .refl | (with_reducible apply Moves.step State.dropWhere_moves; · decide) | dsimp -proj only | split))

theorem State.dropResults_moves {s : State} {g pipe : Nat} :
    Moves [.counters, .ord] s (State.dropResults s g pipe).1 := by
  unfold State.dropResults
  all_goals (repeat' (first | with_reducible exact .refl | (with_reducible apply Moves.step State.count_moves; · decide) | (with_reducible apply Moves.step State.setOrder_moves; · decide) | (with_reducible apply Moves.step State.setReorderUse_moves; · decide) | with_reducible apply Moves.fold | with_reducible apply Moves.fold₁ | with_reducible intro _ _ | dsimp -proj only | split))

theorem State.dropResults_moves_eq {s : State} {g pipe : Nat} {sEnd : State} {yEnd} (he : State.dropResults s g pipe = (sEnd, yEnd)) : Moves [.counters, .ord] s sEnd := by
  have := @State.dropResults_moves s g pipe
  rw [he] at this
  exact this

theorem State.discardIngress_moves {s : State} {g pipe : Nat} {same : Bool} :
    Moves [.counters, .rx, .pipes, .ord] s (State.discardIngress s g pipe same) := by
  unfold State.discardIngress
  all_goals (repeat' (first | with_reducible exact .refl | (with_reducible apply Moves.step State.queueReplays_moves; · decide) | (with_reducible apply Moves.step State.dropPackets_moves; · decide) | (with_reducible apply Moves.step State.dropResults_moves; · decide) | (with_reducible apply Moves.step (State.dropResults_moves_eq (by assumption)); · decide) | dsimp -proj only | split | (with_reducible apply Moves.pipes; · decide)))

theorem State.stompGroup_moves {s : State} {g : Nat} :
    Moves [.counters, .emitted, .egr, .via] s (State.stompGroup s g).1 := by
  unfold State.stompGroup
  all_goals (repeat' (first | with_reducible exact .refl | (with_reducible apply Moves.step State.setTx_moves; · decide) | (with_reducible apply Moves.step State.stomp_moves; · decide) | with_reducible apply Moves.fold | with_reducible apply Moves.fold₁ | with_reducible intro _ _ | dsimp -proj only | split))

theorem State.stompGroup_moves_eq {s : State} {g : Nat} {sEnd : State} {yEnd} (he : State.stompGroup s g = (sEnd, yEnd)) : Moves [.counters, .emitted, .egr, .via] s sEnd := by
  have := @State.stompGroup_moves s g
  rw [he] at this
  exact this

theorem State.discardEgress_moves {s : State} {g pipe : Nat} {same : Bool} :
    Moves [.counters, .emitted, .pipes, .egr, .via] s (State.discardEgress s g pipe same) := by
  unfold State.discardEgress
  all_goals (repeat' (first | with_reducible exact .refl | (with_reducible apply Moves.step State.setReplays_moves; · decide) | (with_reducible apply Moves.step State.dropPackets_moves; · decide) | (with_reducible apply Moves.step State.stompGroup_moves; · decide) | (with_reducible apply Moves.step (State.stompGroup_moves_eq (by assumption)); · decide) | dsimp -proj only | split))

theorem State.unshadow_moves {s : State} {span : Nat} {pass : Pass} :
    Moves [.counters, .pipes] s (State.unshadow s span pass) := by
  unfold State.unshadow
  all_goals (repeat' (first | with_reducible exact .refl | (with_reducible apply Moves.step State.count_moves; · decide) | dsimp -proj only | split | (with_reducible apply Moves.pipes; · decide)))

theorem State.discardPipe_moves {s : State} {g : Nat} {pass : Pass} {pipe : Nat} {same : Bool} :
    Moves [.counters, .emitted, .rx, .pipes, .ord, .egr, .via] s (State.discardPipe s g pass pipe same) := by
  unfold State.discardPipe
  all_goals (repeat' (first | with_reducible exact .refl | (with_reducible apply Moves.step State.discardIngress_moves; · decide) | (with_reducible apply Moves.step State.discardEgress_moves; · decide) | dsimp -proj only | split))

theorem State.fence_moves {s : State} {party : Nat} :
    Moves [.fc] s (State.fence s party) := by
  unfold State.fence
  all_goals (repeat' (first | with_reducible exact .refl | dsimp -proj only | split | (with_reducible apply Moves.fc; · decide)))

theorem State.unfence_moves {s : State} {party : Nat} :
    Moves [.fc] s (State.unfence s party) := by
  unfold State.unfence
  all_goals (repeat' (first | with_reducible exact .refl | dsimp -proj only | split | (with_reducible apply Moves.fc; · decide)))

end Sys2Proof.Machine
end

