-- ==== Sys2Proof/Laws/Moves/Cells.lean ====
section
/-! SUPPORT. What each operation of Machine/Cells.lean can touch, and that it keeps the stores canonical. -/

namespace Sys2Proof.Machine

theorem State.setLink_moves {s : State} {c : Nat} {x : LinkWord} :
    Moves [.buf] s (State.setLink s c x) := by
  unfold State.setLink
  all_goals (repeat' (first | with_reducible exact .refl | dsimp -proj only | split | (with_reducible apply Moves.buf; (· decide); (· with_reducible rfl))))

theorem State.setFree_moves {s : State} {g : Nat} {x : FreeList} :
    Moves [.buf] s (State.setFree s g x) := by
  unfold State.setFree
  all_goals (repeat' (first | with_reducible exact .refl | dsimp -proj only | split | (with_reducible apply Moves.buf; (· decide); (· with_reducible rfl))))

theorem State.setPairUse_moves {s : State} {q : Nat} {x : PairUse} :
    Moves [.buf] s (State.setPairUse s q x) := by
  unfold State.setPairUse
  all_goals (repeat' (first | with_reducible exact .refl | dsimp -proj only | split | (with_reducible apply Moves.buf; (· decide); (· with_reducible rfl))))

theorem State.setClsShared_moves {s : State} {c n : Nat} :
    Moves [.buf] s (State.setClsShared s c n) := by
  unfold State.setClsShared
  all_goals (repeat' (first | with_reducible exact .refl | dsimp -proj only | split | (with_reducible apply Moves.buf; (· decide); (· with_reducible rfl))))

theorem State.setHeadUse_moves {s : State} {p n : Nat} :
    Moves [.buf] s (State.setHeadUse s p n) := by
  unfold State.setHeadUse
  all_goals (repeat' (first | with_reducible exact .refl | dsimp -proj only | split | (with_reducible apply Moves.buf; (· decide); (· with_reducible rfl))))

theorem State.pushFree_moves {s : State} {c : Nat} :
    Moves [.buf] s (State.pushFree s c) := by
  unfold State.pushFree
  all_goals (repeat' (first | with_reducible exact .refl | (with_reducible apply Moves.step State.setLink_moves; · decide) | (with_reducible apply Moves.step State.setFree_moves; · decide) | dsimp -proj only | split))

theorem State.rebuildFree_moves {s : State} {g : Nat} :
    Moves [.buf] s (State.rebuildFree s g) := by
  unfold State.rebuildFree
  all_goals (repeat' (first | with_reducible exact .refl | (with_reducible apply Moves.step State.setFree_moves; · decide) | dsimp -proj only | split | (with_reducible apply Moves.buf; (· decide); (· with_reducible rfl))))

theorem State.popHeads_moves {s : State} {g n : Nat} : Moves [.buf] s (State.popHeads s g n).1 := by
  induction n generalizing s with
  | zero => exact .refl
  | succ n ih =>
    simp only [State.popHeads]
    split
    · exact .trans (.mono (by decide) State.setFree_moves) ih
    · exact .step State.setLink_moves (by decide) (.mono (by decide) State.setFree_moves)

theorem State.popRecord_moves {s : State} {g : Nat} : Moves [.buf] s (State.popRecord s g).1 := by
  have h : Moves [.buf] s (s.popHeads g (s.freeList g).count).1 := .mono (by decide) State.popHeads_moves
  unfold State.popRecord
  dsimp -proj only
  split
  · exact h
  · exact .buf (by decide) rfl (.step State.rebuildFree_moves (by decide) h)

theorem State.takeHead_moves {s : State} {w die n : Nat} : Moves [.counters, .freeCount, .buf] s (State.takeHead s w die n).1 := by
  induction n generalizing s with
  | zero => exact .refl
  | succ n ih =>
    have hp {g : Nat} : Moves [.counters, .freeCount, .buf] s (({ s with freeCount := s.freeCount + 1 } : State).popRecord g).1 :=
      .step State.popRecord_moves (by decide) (.freeCount (by decide) .refl)
    unfold State.takeHead
    dsimp -proj only
    generalize (if (s.usableGroups w die).isEmpty = true then 1 - die else die) = d
    split
    · exact .refl
    · split
      · exact .trans hp ih
      · exact .step State.count_moves (by decide) (.buf (by decide) rfl (.step State.setLink_moves (by decide) hp))

theorem State.recordFree_moves {s : State} {cs : List Nat} :
    Moves [.counters, .buf] s (State.recordFree s cs) := by
  unfold State.recordFree
  all_goals (repeat' (first | with_reducible exact .refl | (with_reducible apply Moves.step State.count_moves; · decide) | (with_reducible apply Moves.step State.pushFree_moves; · decide) | with_reducible apply Moves.fold | with_reducible apply Moves.fold₁ | with_reducible intro _ _ | dsimp -proj only | split))

theorem State.recordCell_moves {s : State} : Moves [.counters, .freeCount, .buf] s (State.recordCell s).1 := State.takeHead_moves

theorem State.recordTake_moves {s : State} {n : Nat} : Moves [.counters, .freeCount, .buf] s (State.recordTake s n).1 := by
  induction n generalizing s with
  | zero => exact .refl
  | succ n ih =>
    simp only [State.recordTake]
    split
    · exact .mono (by decide) State.recordCell_moves
    · split
      · exact .trans (.mono (by decide) State.recordCell_moves) ih
      · exact .step State.recordFree_moves (by decide) (.trans (.mono (by decide) State.recordCell_moves) ih)

end Sys2Proof.Machine
end

