-- ==== Sys2Proof/Laws/Moves/Flow.lean ====
section
/-! SUPPORT. What each operation of Machine/Flow.lean can touch, and that it keeps the stores canonical. -/

namespace Sys2Proof.Machine

theorem State.sendPfc_moves {s : State} {p : Nat} {ks : List Nat} {time : Nat} :
    Moves [.counters, .emitted] s (State.sendPfc s p ks time) := by
  unfold State.sendPfc
  all_goals (repeat' (first | with_reducible exact .refl | (with_reducible apply Moves.step State.emit_moves; · decide) | (with_reducible apply Moves.step State.count_moves; · decide) | with_reducible apply Moves.fold | with_reducible apply Moves.fold₁ | with_reducible intro _ _ | dsimp -proj only | split))

theorem State.xoff_moves {s : State} {p : Nat} {ks : List Nat} :
    Moves [.counters, .emitted] s (State.xoff s p ks) := by
  unfold State.xoff
  all_goals (repeat' (first | with_reducible exact .refl | (with_reducible apply Moves.step State.sendPfc_moves; · decide) | dsimp -proj only | split))

theorem State.xon_moves {s : State} {p : Nat} {ks : List Nat} :
    Moves [.counters, .emitted] s (State.xon s p ks) := by
  unfold State.xon
  all_goals (repeat' (first | with_reducible exact .refl | (with_reducible apply Moves.step State.sendPfc_moves; · decide) | dsimp -proj only | split))

theorem State.arrivalPfc_moves {s : State} {g : Nat} {stop : Bool} :
    Moves [.counters, .emitted] s (State.arrivalPfc s g stop) := by
  unfold State.arrivalPfc
  all_goals (repeat' (first | with_reducible exact .refl | (with_reducible apply Moves.step State.xoff_moves; · decide) | (with_reducible apply Moves.step State.xon_moves; · decide) | with_reducible apply Moves.fold | with_reducible apply Moves.fold₁ | with_reducible intro _ _ | dsimp -proj only | split))

theorem State.arrivalXoff_moves {s : State} {g : Nat} :
    Moves [.counters, .emitted, .rx] s (State.arrivalXoff s g) := by
  unfold State.arrivalXoff
  all_goals (repeat' (first | with_reducible exact .refl | (with_reducible apply Moves.step State.xoff_moves; · decide) | (with_reducible apply Moves.step State.arrivalPfc_moves; · decide) | dsimp -proj only | split | (with_reducible apply Moves.rx; · decide)))

theorem State.arrivalXon_moves {s : State} {g : Nat} :
    Moves [.counters, .emitted, .rx] s (State.arrivalXon s g) := by
  unfold State.arrivalXon
  all_goals (repeat' (first | with_reducible exact .refl | (with_reducible apply Moves.step State.xoff_moves; · decide) | (with_reducible apply Moves.step State.arrivalPfc_moves; · decide) | dsimp -proj only | split | (with_reducible apply Moves.rx; · decide)))

theorem State.enterHold_moves {s : State} {g : Nat} :
    Moves [.counters, .emitted, .chip] s (State.enterHold s g) := by
  unfold State.enterHold
  all_goals (repeat' (first | with_reducible exact .refl | (with_reducible apply Moves.step State.xoff_moves; · decide) | with_reducible apply Moves.fold | with_reducible apply Moves.fold₁ | with_reducible intro _ _ | dsimp -proj only | split | (with_reducible apply Moves.chip; · decide)))

theorem State.leaveHold_moves {s : State} {g : Nat} :
    Moves [.counters, .emitted, .chip] s (State.leaveHold s g) := by
  unfold State.leaveHold
  all_goals (repeat' (first | with_reducible exact .refl | (with_reducible apply Moves.step State.xon_moves; · decide) | with_reducible apply Moves.fold | with_reducible apply Moves.fold₁ | with_reducible intro _ _ | dsimp -proj only | split | (with_reducible apply Moves.chip; · decide)))

theorem State.sendControl_moves {s : State} {p type : Nat} {body : List Word} :
    Moves [.emitted, .via] s (State.sendControl s p type body) := by
  unfold State.sendControl
  all_goals (repeat' (first | with_reducible exact .refl | (with_reducible apply Moves.step State.emit_moves; · decide) | (with_reducible apply Moves.step State.setVia_moves; · decide) | dsimp -proj only | split))

theorem State.sendCredit_moves {s : State} {p : Nat} :
    Moves [.emitted, .via] s (State.sendCredit s p) := by
  unfold State.sendCredit
  all_goals (repeat' (first | with_reducible exact .refl | (with_reducible apply Moves.step State.setVia_moves; · decide) | (with_reducible apply Moves.step State.sendControl_moves; · decide) | dsimp -proj only | split))

theorem State.grantCells_moves {s : State} {p h n : Nat} :
    Moves [.emitted, .via] s (State.grantCells s p h n) := by
  unfold State.grantCells
  all_goals (repeat' (first | with_reducible exact .refl | (with_reducible apply Moves.step State.setVia_moves; · decide) | (with_reducible apply Moves.step State.sendCredit_moves; · decide) | dsimp -proj only | split))

end Sys2Proof.Machine
end

