-- ==== Sys2Proof/Laws/Moves/Point.lean ====
section
/-! SUPPORT. What each operation of Machine/Point.lean can touch, and that it keeps the stores canonical. -/

namespace Sys2Proof.Machine

theorem State.pierSend_moves {s : State} {n type : Nat} {payload : List Byte} :
    Moves [.emitted, .pierTx] s (State.pierSend s n type payload) := by
  unfold State.pierSend
  all_goals (repeat' (first | with_reducible exact .refl | (with_reducible apply Moves.step State.emit_moves; · decide) | dsimp -proj only | split | (with_reducible apply Moves.pierTx; · decide)))

theorem State.setPier_moves {s : State} {n : Nat} {x : PierRec} :
    Moves [.piers] s (State.setPier s n x) := by
  unfold State.setPier
  all_goals (repeat' (first | with_reducible exact .refl | dsimp -proj only | split | (with_reducible apply Moves.piers; · decide)))

theorem State.setOp_moves {s : State} {n : Nat} :
    Moves [.regs] s (State.setOp s n) := by
  unfold State.setOp
  all_goals (repeat' (first | with_reducible exact .refl | (with_reducible apply Moves.step State.setFld_moves; · decide) | dsimp -proj only | split))

theorem State.sendConcord_moves {s : State} {v : Vote} :
    Moves [.emitted, .pierTx] s (State.sendConcord s v) := by
  unfold State.sendConcord
  all_goals (repeat' (first | with_reducible exact .refl | (with_reducible apply Moves.step State.pierSend_moves; · decide) | with_reducible apply Moves.fold | with_reducible apply Moves.fold₁ | with_reducible intro _ _ | dsimp -proj only | split))

theorem State.putVote_moves {s : State} {v : Vote} :
    Moves [.pwr] s (State.putVote s v) := by
  unfold State.putVote
  all_goals (repeat' (first | with_reducible exact .refl | dsimp -proj only | split | (with_reducible apply Moves.pwr; · decide)))

theorem State.showCaps_moves {s : State} :
    Moves [.regs] s (State.showCaps s) := by
  unfold State.showCaps
  all_goals (repeat' (first | with_reducible exact .refl | (with_reducible apply Moves.step State.setFld_moves; · decide) | (with_reducible apply Moves.step State.setBit_moves; · decide) | dsimp -proj only | split))

theorem State.pmbusSend_moves {s : State} {command data : Nat} :
    Moves [.emitted] s (State.pmbusSend s command data) := by
  unfold State.pmbusSend
  all_goals (repeat' (first | with_reducible exact .refl | (with_reducible apply Moves.step State.emit_moves; · decide) | dsimp -proj only | split))

theorem State.commandTarget_moves {s : State} {v : Nat} :
    Moves [.regs, .emitted, .pwr] s (State.commandTarget s v) := by
  unfold State.commandTarget
  all_goals (repeat' (first | with_reducible exact .refl | (with_reducible apply Moves.step State.setFld_moves; · decide) | (with_reducible apply Moves.step State.pmbusSend_moves; · decide) | dsimp -proj only | split | (with_reducible apply Moves.pwr; · decide)))

theorem State.setTarget25_moves {s : State} {v : Nat} :
    Moves [.regs, .emitted, .pwr] s (State.setTarget25 s v) := by
  unfold State.setTarget25
  all_goals (repeat' (first | with_reducible exact .refl | (with_reducible apply Moves.step State.commandTarget_moves; · decide) | dsimp -proj only | split))

theorem State.settleVcore_moves {s : State} :
    Moves [.regs, .emitted, .pwr] s (State.settleVcore s) := by
  unfold State.settleVcore
  all_goals (repeat' (first | with_reducible exact .refl | (with_reducible apply Moves.step State.setTarget25_moves; · decide) | dsimp -proj only | split))

theorem State.dropRise_moves {s : State} :
    Moves [.regs, .emitted, .pwr] s (State.dropRise s) := by
  unfold State.dropRise
  all_goals (repeat' (first | with_reducible exact .refl | (with_reducible apply Moves.step State.setTarget25_moves; · decide) | dsimp -proj only | split | (with_reducible apply Moves.pwr; · decide)))

theorem State.tellRound_moves {s : State} :
    Moves [.emitted, .pierTx, .pwr] s (State.tellRound s) := by
  unfold State.tellRound
  all_goals (repeat' (first | with_reducible exact .refl | (with_reducible apply Moves.step State.sendConcord_moves; · decide) | (with_reducible apply Moves.step State.putVote_moves; · decide) | dsimp -proj only | split))

theorem State.capFall_moves {s : State} :
    Moves [.regs, .emitted, .pierTx, .pwr] s (State.capFall s) := by
  unfold State.capFall
  all_goals (repeat' (first | with_reducible exact .refl | (with_reducible apply Moves.step State.setOp_moves; · decide) | (with_reducible apply Moves.step State.showCaps_moves; · decide) | (with_reducible apply Moves.step State.settleVcore_moves; · decide) | (with_reducible apply Moves.step State.dropRise_moves; · decide) | (with_reducible apply Moves.step State.tellRound_moves; · decide) | dsimp -proj only | split))

theorem State.overrideStarts_moves {s : State} :
    Moves [.regs, .emitted, .pierTx, .pwr] s (State.overrideStarts s) := by
  unfold State.overrideStarts
  all_goals (repeat' (first | with_reducible exact .refl | (with_reducible apply Moves.step State.incSat_moves; · decide) | (with_reducible apply Moves.step State.capFall_moves; · decide) | dsimp -proj only | split))

theorem State.setEngine_moves {s : State} {span : Nat} {x : Trestle} :
    Moves [.trestle] s (State.setEngine s span x) := by
  unfold State.setEngine
  all_goals (repeat' (first | with_reducible exact .refl | dsimp -proj only | split | (with_reducible apply Moves.trestle; · decide)))

theorem State.haltEngine_moves {s : State} {span st : Nat} :
    Moves [.trestle] s (State.haltEngine s span st) := by
  unfold State.haltEngine
  all_goals (repeat' (first | with_reducible exact .refl | (with_reducible apply Moves.step State.setEngine_moves; · decide) | dsimp -proj only | split))

theorem State.disarmJoint_moves {s : State} :
    Moves [.regs, .progs] s (State.disarmJoint s) := by
  unfold State.disarmJoint
  all_goals (repeat' (first | with_reducible exact .refl | (with_reducible apply Moves.step State.setFld_moves; · decide) | (with_reducible apply Moves.step State.setBit_moves; · decide) | dsimp -proj only | split | (with_reducible apply Moves.progs; · decide)))

theorem State.showAbort_moves {s : State} {cause : Nat} {report : Bool} :
    Moves [.regs, .emitted, .pierTx] s (State.showAbort s cause report) := by
  unfold State.showAbort
  all_goals (repeat' (first | with_reducible exact .refl | (with_reducible apply Moves.step State.setFld_moves; · decide) | (with_reducible apply Moves.step State.setBit_moves; · decide) | (with_reducible apply Moves.step State.irq_moves; · decide) | (with_reducible apply Moves.step State.pierSend_moves; · decide) | with_reducible apply Moves.fold | with_reducible apply Moves.fold₁ | with_reducible intro _ _ | dsimp -proj only | split))

end Sys2Proof.Machine
end

