-- ==== Sys2Proof/Laws/Moves/Latch.lean ====
section
/-! SUPPORT. What each operation of Machine/Latch.lean can touch, and that it keeps the stores canonical. -/

namespace Sys2Proof.Machine

theorem State.setSource_moves {s : State} {src : Nat} {x : SourceRec} :
    Moves [.fc] s (State.setSource s src x) := by
  unfold State.setSource
  all_goals (repeat' (first | with_reducible exact .refl | dsimp -proj only | split | (with_reducible apply Moves.fc; · decide)))

theorem State.setReacting_moves {s : State} {b : Bool} :
    Moves [.fc] s (State.setReacting s b) := by
  unfold State.setReacting
  all_goals (repeat' (first | with_reducible exact .refl | dsimp -proj only | split | (with_reducible apply Moves.fc; · decide)))

theorem State.record_moves {s : State} {src : Nat} {cls : FaultClass} {flags : Nat} :
    Moves [.regs, .counters, .freeCount, .fc, .buf] s (State.record s src cls flags) := by
  have h : Moves [.regs, .counters, .freeCount, .fc, .buf] s s.recordCell.1 := .mono (by decide) State.recordCell_moves
  unfold State.record
  dsimp -proj only
  split
  · exact .refl
  · split
    · exact .mono (by decide) State.incSat_moves
    · split
      · exact .step State.incSat_moves (by decide) h
      · exact .fc (by decide) h

theorem State.nameFault_moves {s : State} {src : Nat} {names : List Nat} :
    Moves [.fc] s (State.nameFault s src names) := by
  unfold State.nameFault
  all_goals (repeat' (first | with_reducible exact .refl | (with_reducible apply Moves.step State.setSource_moves; · decide) | dsimp -proj only | split))

theorem State.takeFiring_moves {s : State} {src : Nat} :
    Moves [.fc] s (State.takeFiring s src) := by
  unfold State.takeFiring
  all_goals (repeat' (first | with_reducible exact .refl | dsimp -proj only | split | (with_reducible apply Moves.fc; · decide)))

theorem State.latchCore_moves {s : State} {src : Nat} {cls : FaultClass} {detail : Nat} {live threshold safe : Bool} :
    Moves [.regs, .counters, .emitted, .freeCount, .fc, .buf] s (State.latchCore s src cls detail live threshold safe) := by
  unfold State.latchCore
  all_goals (repeat' (first | with_reducible exact .refl | (with_reducible apply Moves.step State.setBit_moves; · decide) | (with_reducible apply Moves.step State.irq_moves; · decide) | (with_reducible apply Moves.step State.setSource_moves; · decide) | (with_reducible apply Moves.step State.record_moves; · decide) | (with_reducible apply Moves.step State.takeFiring_moves; · decide) | dsimp -proj only | split))

theorem State.raiseErrS_moves {s : State} :
    Moves [.regs, .emitted, .fc] s (State.raiseErrS s) := by
  unfold State.raiseErrS
  all_goals (repeat' (first | with_reducible exact .refl | (with_reducible apply Moves.step State.setBit_moves; · decide) | (with_reducible apply Moves.step State.emit_moves; · decide) | dsimp -proj only | split | (with_reducible apply Moves.fc; · decide)))

theorem State.pierPropagate_moves {s : State} {src : Nat} {cls : FaultClass} :
    Moves [.emitted, .pierTx] s (State.pierPropagate s src cls) := by
  unfold State.pierPropagate
  all_goals (repeat' (first | with_reducible exact .refl | (with_reducible apply Moves.step State.emit_moves; · decide) | (with_reducible apply Moves.step State.pierSend_moves; · decide) | with_reducible apply Moves.fold | with_reducible apply Moves.fold₁ | with_reducible intro _ _ | dsimp -proj only | split))

theorem State.abortJoint_moves {s : State} {cause : Nat} :
    Moves [.regs, .counters, .emitted, .freeCount, .fc, .buf, .progs, .pierTx] s (State.abortJoint s cause) := by
  unfold State.abortJoint
  all_goals (repeat' (first | with_reducible exact .refl | (with_reducible apply Moves.step State.disarmJoint_moves; · decide) | (with_reducible apply Moves.step State.showAbort_moves; · decide) | (with_reducible apply Moves.step State.latchCore_moves; · decide) | dsimp -proj only | split))

theorem State.showSafe_moves {s : State} {src cause : Nat} :
    Moves [.regs] s (State.showSafe s src cause) := by
  unfold State.showSafe
  all_goals (repeat' (first | with_reducible exact .refl | (with_reducible apply Moves.step State.setReg_moves; · decide) | (with_reducible apply Moves.step State.setBit_moves; · decide) | dsimp -proj only | split))

theorem State.endPinTest_moves {s : State} :
    Moves [.regs] s (State.endPinTest s) := by
  unfold State.endPinTest
  all_goals (repeat' (first | with_reducible exact .refl | (with_reducible apply Moves.step State.setBit_moves; · decide) | dsimp -proj only | split))

theorem State.markSafe_moves {s : State} :
    Moves [.regs, .emitted, .chip, .fc] s (State.markSafe s) := by
  unfold State.markSafe
  all_goals (repeat' (first | with_reducible exact .refl | (with_reducible apply Moves.step State.emit_moves; · decide) | (with_reducible apply Moves.step State.endPinTest_moves; · decide) | dsimp -proj only | split | (with_reducible apply Moves.chip; · decide) | (with_reducible apply Moves.fc; · decide) | (with_reducible apply Moves.upd; with_reducible rfl; (all_goals first | exact .inl (by with_reducible rfl) | exact .inr (by decide) | exact .inr ⟨by decide, by first | exact fun h => h | exact Tbl.wf_put _ _ _ _ | exact fun h => Tbl.wf_put _ _ _ _ (Tbl.wf_put _ _ _ _ h) | exact Tbl.wf_filter _ _ _ | exact fun _ => rfl | exact writeCellBytes_wf | exact writeBytes_wf | exact programBytes_wf⟩ | skip))))

theorem State.endSwitches_moves {s : State} :
    Moves [.pipes] s (State.endSwitches s) := by
  unfold State.endSwitches
  all_goals (repeat' (first | with_reducible exact .refl | (with_reducible apply Moves.step State.setPass_moves; · decide) | with_reducible apply Moves.fold | with_reducible apply Moves.fold₁ | with_reducible intro _ _ | dsimp -proj only | split))

theorem State.capSafe_moves {s : State} :
    Moves [.pwr] s (State.capSafe s) := by
  unfold State.capSafe
  all_goals (repeat' (first | with_reducible exact .refl | dsimp -proj only | split | (with_reducible apply Moves.pwr; · decide)))

theorem State.enterSafe_moves {s : State} {src cause : Nat} :
    Moves [.regs, .counters, .emitted, .freeCount, .chip, .fc, .buf, .pipes, .progs, .trestle, .egr, .via, .pierTx, .pwr] s (State.enterSafe s src cause) := by
  unfold State.enterSafe
  all_goals (repeat' (first | with_reducible exact .refl | (with_reducible apply Moves.step State.stompPorts_moves; · decide) | (with_reducible apply Moves.step State.overrideStarts_moves; · decide) | (with_reducible apply Moves.step State.haltEngine_moves; · decide) | (with_reducible apply Moves.step State.pierPropagate_moves; · decide) | (with_reducible apply Moves.step State.abortJoint_moves; · decide) | (with_reducible apply Moves.step State.showSafe_moves; · decide) | (with_reducible apply Moves.step State.markSafe_moves; · decide) | (with_reducible apply Moves.step State.endSwitches_moves; · decide) | (with_reducible apply Moves.step State.capSafe_moves; · decide) | with_reducible apply Moves.fold | with_reducible apply Moves.fold₁ | with_reducible intro _ _ | dsimp -proj only | split))

theorem State.haltFor_moves {s : State} {src : Nat} :
    Moves [.trestle] s (State.haltFor s src) := by
  unfold State.haltFor
  all_goals (repeat' (first | with_reducible exact .refl | (with_reducible apply Moves.step State.haltEngine_moves; · decide) | dsimp -proj only | split))

theorem State.latchService_moves {s : State} {src : Nat} {detail : Nat} :
    Moves [.regs, .counters, .emitted, .freeCount, .fc, .buf, .trestle, .pierTx] s (State.latchService s src detail) := by
  unfold State.latchService
  all_goals (repeat' (first | with_reducible exact .refl | (with_reducible apply Moves.step State.latchCore_moves; · decide) | (with_reducible apply Moves.step State.raiseErrS_moves; · decide) | (with_reducible apply Moves.step State.pierPropagate_moves; · decide) | (with_reducible apply Moves.step State.haltFor_moves; · decide) | dsimp -proj only | split))

theorem State.degrade_moves {s : State} {span : Nat} :
    Moves [.regs, .counters, .emitted, .freeCount, .fc, .buf, .trestle, .pierTx] s (State.degrade s span) := by
  unfold State.degrade
  all_goals (repeat' (first | with_reducible exact .refl | (with_reducible apply Moves.step State.latchService_moves; · decide) | dsimp -proj only | split))

theorem State.holdGroup_moves {s : State} {span : Nat} {pass : Pass} {g pipe detail : Nat} :
    Moves [.regs, .counters, .emitted, .freeCount, .chip, .fc, .buf, .pipes, .trestle, .pierTx] s (State.holdGroup s span pass g pipe detail) := by
  unfold State.holdGroup
  all_goals (repeat' (first | with_reducible exact .refl | (with_reducible apply Moves.step State.setPass_moves; · decide) | (with_reducible apply Moves.step State.enterHold_moves; · decide) | (with_reducible apply Moves.step State.latchService_moves; · decide) | dsimp -proj only | split))

theorem State.revoke_moves {s : State} {d : Nat} :
    Moves [.counters, .rx, .ord] s (State.revoke s d) := by
  unfold State.revoke
  all_goals (repeat' (first | with_reducible exact .refl | (with_reducible apply Moves.step State.count_moves; · decide) | (with_reducible apply Moves.step State.setInfo_moves; · decide) | (with_reducible apply Moves.step State.setOrder_moves; · decide) | dsimp -proj only | split))

theorem State.revokeLeases_moves {s : State} {g : Nat} :
    Moves [.counters, .rx, .pipes, .ord] s (State.revokeLeases s g) := by
  unfold State.revokeLeases
  all_goals (repeat' (first | with_reducible exact .refl | (with_reducible apply Moves.step State.setReplays_moves; · decide) | (with_reducible apply Moves.step State.revoke_moves; · decide) | with_reducible apply Moves.fold | with_reducible apply Moves.fold₁ | with_reducible intro _ _ | dsimp -proj only | split))

theorem State.rotationStop_moves {s : State} {span : Nat} {pass : Pass} :
    Moves [.counters, .pipes] s (State.rotationStop s span pass) := by
  unfold State.rotationStop
  all_goals (repeat' (first | with_reducible exact .refl | (with_reducible apply Moves.step State.setPass_moves; · decide) | (with_reducible apply Moves.step State.unshadow_moves; · decide) | dsimp -proj only | split))

theorem State.endResolution_moves {s : State} {span : Nat} {pass : Pass} :
    Moves [.counters, .emitted, .rx, .pipes, .ord, .egr, .via] s (State.endResolution s span pass) := by
  unfold State.endResolution
  all_goals (repeat' (first | with_reducible exact .refl | (with_reducible apply Moves.step State.setPass_moves; · decide) | (with_reducible apply Moves.step State.discardPipe_moves; · decide) | (with_reducible apply Moves.step State.rotationStop_moves; · decide) | dsimp -proj only | split))

theorem State.pipelineFaulty_moves {s : State} {span : Nat} {pass : Pass} {pipe : Nat} {detail : Nat} :
    Moves [.regs, .counters, .emitted, .freeCount, .chip, .fc, .buf, .rx, .pipes, .trestle, .ord, .egr, .via, .pierTx] s (State.pipelineFaulty s span pass pipe detail) := by
  unfold State.pipelineFaulty
  all_goals (repeat' (first | with_reducible exact .refl | (with_reducible apply Moves.step State.setPass_moves; · decide) | (with_reducible apply Moves.step State.unshadow_moves; · decide) | (with_reducible apply Moves.step State.discardPipe_moves; · decide) | (with_reducible apply Moves.step State.fence_moves; · decide) | (with_reducible apply Moves.step State.degrade_moves; · decide) | (with_reducible apply Moves.step State.holdGroup_moves; · decide) | (with_reducible apply Moves.step State.revokeLeases_moves; · decide) | (with_reducible apply Moves.step State.endResolution_moves; · decide) | dsimp -proj only | split))

theorem State.react_moves {s : State} {src : Nat} {cls : FaultClass} :
    Moves reactParts s (State.react s src cls) := by
  unfold State.react
  all_goals (repeat' (first | with_reducible exact .refl | (with_reducible apply Moves.step State.raiseErrS_moves; · decide) | (with_reducible apply Moves.step State.pierPropagate_moves; · decide) | (with_reducible apply Moves.step State.enterSafe_moves; · decide) | (with_reducible apply Moves.step State.pipelineFaulty_moves; · decide) | dsimp -proj only | split))

theorem State.decideFault_moves {s : State} {src : Nat} {cls : FaultClass} :
    Moves reactParts s (State.decideFault s src cls) := by
  unfold State.decideFault
  all_goals (repeat' (first | with_reducible exact .refl | (with_reducible apply Moves.step State.react_moves; · decide) | dsimp -proj only | split | (with_reducible apply Moves.fc; · decide)))

theorem State.decideWaiting_moves {s : State} :
    Moves reactParts s (State.decideWaiting s) := by
  unfold State.decideWaiting
  all_goals (repeat' (first | with_reducible exact .refl | (with_reducible apply Moves.step State.setReacting_moves; · decide) | (with_reducible apply Moves.step State.decideFault_moves; · decide) | with_reducible apply Moves.fold | with_reducible apply Moves.fold₁ | with_reducible intro _ _ | dsimp -proj only | split | (with_reducible apply Moves.fc; · decide)))

theorem State.latchFault_moves {s : State} {src : Nat} {cls : FaultClass} {detail : Nat} {live : Bool} {threshold : Bool} :
    Moves reactParts s (State.latchFault s src cls detail live threshold) := by
  unfold State.latchFault
  all_goals (repeat' (first | with_reducible exact .refl | (with_reducible apply Moves.step State.setReacting_moves; · decide) | (with_reducible apply Moves.step State.latchCore_moves; · decide) | (with_reducible apply Moves.step State.haltFor_moves; · decide) | (with_reducible apply Moves.step State.decideFault_moves; · decide) | dsimp -proj only | split))

theorem State.setErrFlip_moves {s : State} {x : Option Bool} :
    Moves [.emitted, .fc] s (State.setErrFlip s x) := by
  unfold State.setErrFlip
  all_goals (repeat' (first | with_reducible exact .refl | (with_reducible apply Moves.step State.emit_moves; · decide) | dsimp -proj only | split | (with_reducible apply Moves.fc; · decide)))

theorem State.refusedWrite_moves {s : State} {off : Nat} :
    Moves reactParts s (State.refusedWrite s off) := by
  unfold State.refusedWrite
  all_goals (repeat' (first | with_reducible exact .refl | (with_reducible apply Moves.step State.latchFault_moves; · decide) | dsimp -proj only | split))

theorem State.latchLive_moves {s : State} {src : Nat} {cls : FaultClass} {detail : Nat} :
    Moves reactParts s (State.latchLive s src cls detail) := by
  unfold State.latchLive
  all_goals (repeat' (first | with_reducible exact .refl | (with_reducible apply Moves.step State.latchFault_moves; · decide) | dsimp -proj only | split))

theorem State.endLive_moves {s : State} {src : Nat} :
    Moves [.fc] s (State.endLive s src) := by
  unfold State.endLive
  all_goals (repeat' (first | with_reducible exact .refl | (with_reducible apply Moves.step State.setSource_moves; · decide) | dsimp -proj only | split))

theorem State.setCorrections_moves {s : State} {src : Nat} {l : List Nat} :
    Moves [.fc] s (State.setCorrections s src l) := by
  unfold State.setCorrections
  all_goals (repeat' (first | with_reducible exact .refl | (with_reducible apply Moves.step State.corrected_moves; · decide) | dsimp -proj only | split | (with_reducible apply Moves.fc; · decide)))

theorem State.meetCheck_moves {s : State} :
    Moves [.fc] s (State.meetCheck s) := by
  unfold State.meetCheck
  all_goals (repeat' (first | with_reducible exact .refl | dsimp -proj only | split | (with_reducible apply Moves.fc; · decide)))

theorem State.meetAt_moves {s : State} {src out : Nat} :
    Moves [.fc] s (State.meetAt s src out) := by
  unfold State.meetAt
  all_goals (repeat' (first | with_reducible exact .refl | dsimp -proj only | split | (with_reducible apply Moves.fc; · decide)))

theorem State.meetFiring_moves {s : State} {src : Nat} :
    Moves [.fc] s (State.meetFiring s src) := by
  unfold State.meetFiring
  all_goals (repeat' (first | with_reducible exact .refl | (with_reducible apply Moves.step State.meetAt_moves; · decide) | dsimp -proj only | split))

theorem State.corrected_moves {s : State} {src n : Nat} :
    Moves [.fc] s (State.corrected s src n) := by
  unfold State.corrected
  all_goals (repeat' (first | with_reducible exact .refl | (with_reducible apply Moves.step State.takeFiring_moves; · decide) | (with_reducible apply Moves.step State.setCorrections_moves; · decide) | dsimp -proj only | split))

theorem State.setCorrPacket_moves {s : State} {src n : Nat} :
    Moves [.fc] s (State.setCorrPacket s src n) := by
  unfold State.setCorrPacket
  all_goals (repeat' (first | with_reducible exact .refl | dsimp -proj only | split | (with_reducible apply Moves.fc; · decide)))

end Sys2Proof.Machine
end

