-- ==== Sys2Proof/Laws/Moves/Time.lean ====
section
/-! SUPPORT. What each operation of Machine/Time.lean can touch, and that it keeps the stores canonical. -/

namespace Sys2Proof.Machine

theorem State.setD_moves {s : State} {d : Int} :
    Moves [.time] s (State.setD s d) := by
  unfold State.setD
  all_goals (repeat' (first | with_reducible exact .refl | dsimp -proj only | split | (with_reducible apply Moves.time; · decide)))

theorem State.drivePps_moves {s : State} {b : Bool} :
    Moves [.emitted, .time] s (State.drivePps s b) := by
  unfold State.drivePps
  all_goals (repeat' (first | with_reducible exact .refl | (with_reducible apply Moves.step State.emit_moves; · decide) | dsimp -proj only | split | (with_reducible apply Moves.time; · decide)))

theorem State.settlePps_moves {s : State} :
    Moves [.emitted, .time] s (State.settlePps s) := by
  unfold State.settlePps
  all_goals (repeat' (first | with_reducible exact .refl | (with_reducible apply Moves.step State.drivePps_moves; · decide) | dsimp -proj only | split))

theorem State.switchover_moves {s : State} {n : Nat} :
    Moves (.time :: reactParts) s (State.switchover s n) := by
  unfold State.switchover
  all_goals (repeat' (first | with_reducible exact .refl | (with_reducible apply Moves.step State.setFld_moves; · decide) | (with_reducible apply Moves.step State.incMod_moves; · decide) | (with_reducible apply Moves.step State.latchFault_moves; · decide) | (with_reducible apply Moves.step State.setD_moves; · decide) | (with_reducible apply Moves.step State.settlePps_moves; · decide) | dsimp -proj only | split))

theorem State.setTbState_moves {s : State} {n v : Nat} :
    Moves (.time :: reactParts) s (State.setTbState s n v) := by
  unfold State.setTbState
  all_goals (repeat' (first | with_reducible exact .refl | (with_reducible apply Moves.step State.setFld_moves; · decide) | (with_reducible apply Moves.step State.irq_moves; · decide) | (with_reducible apply Moves.step State.settlePps_moves; · decide) | (with_reducible apply Moves.step State.switchover_moves; · decide) | dsimp -proj only | split))

theorem State.setCopyOff_moves {s : State} {n c : Nat} {v : Int} :
    Moves [.time] s (State.setCopyOff s n c v) := by
  unfold State.setCopyOff
  all_goals (repeat' (first | with_reducible exact .refl | dsimp -proj only | split | (with_reducible apply Moves.time; · decide)))

theorem State.voteBase_moves {s : State} {n : Nat} :
    Moves (.time :: reactParts) s (State.voteBase s n) := by
  unfold State.voteBase
  all_goals (repeat' (first | with_reducible exact .refl | (with_reducible apply Moves.step State.setTb_moves; · decide) | (with_reducible apply Moves.step State.latchFault_moves; · decide) | (with_reducible apply Moves.step State.corrected_moves; · decide) | (with_reducible apply Moves.step State.setD_moves; · decide) | (with_reducible apply Moves.step State.setCopyOff_moves; · decide) | with_reducible apply Moves.fold | with_reducible apply Moves.fold₁ | with_reducible intro _ _ | dsimp -proj only | split))

theorem State.voteBases_moves {s : State} :
    Moves (.time :: reactParts) s (State.voteBases s) := by
  unfold State.voteBases
  all_goals (repeat' (first | with_reducible exact .refl | (with_reducible apply Moves.step State.voteBase_moves; · decide) | with_reducible apply Moves.fold | with_reducible apply Moves.fold₁ | with_reducible intro _ _ | dsimp -proj only | split))

theorem State.servo_moves {s : State} {n : Nat} {theta : Int} :
    Moves (.time :: reactParts) s (State.servo s n theta) := by
  unfold State.servo
  all_goals (repeat' (first | with_reducible exact .refl | (with_reducible apply Moves.step State.setReg_moves; · decide) | (with_reducible apply Moves.step State.setFld_moves; · decide) | (with_reducible apply Moves.step State.setBit_moves; · decide) | (with_reducible apply Moves.step State.incSat_moves; · decide) | (with_reducible apply Moves.step State.incMod_moves; · decide) | (with_reducible apply Moves.step State.setTb_moves; · decide) | (with_reducible apply Moves.step State.setD_moves; · decide) | (with_reducible apply Moves.step State.setTbState_moves; · decide) | dsimp -proj only | split))

theorem State.submitSample_moves {s : State} {n : Nat} {theta : Int} :
    Moves [.regs, .time] s (State.submitSample s n theta) := by
  unfold State.submitSample
  all_goals (repeat' (first | with_reducible exact .refl | (with_reducible apply Moves.step State.incSat_moves; · decide) | (with_reducible apply Moves.step State.setTb_moves; · decide) | dsimp -proj only | split))

theorem State.writeOrdinary_moves {s : State} {off : Nat} {value : Word} :
    Moves reactParts s (State.writeOrdinary s off value) := by
  unfold State.writeOrdinary
  all_goals (repeat' (first | with_reducible exact .refl | (with_reducible apply Moves.step State.setReg_moves; · decide) | (with_reducible apply Moves.step State.refusedWrite_moves; · decide) | dsimp -proj only | split))

theorem execServoSample_moves {n : Four} {s : State} :
    Ends (.time :: reactParts) s (execServoSample n s) := by
  unfold execServoSample
  all_goals (repeat' (first | with_reducible exact .refl | with_reducible apply Ends.next | (with_reducible apply Moves.step State.setTb_moves; · decide) | (with_reducible apply Moves.step State.servo_moves; · decide) | dsimp -proj only | split))

theorem execTbOffsetSubmit_moves {n : Four} {hi : Word} {s : State} :
    Ends [.regs, .time] s (execTbOffsetSubmit n hi s) := by
  unfold execTbOffsetSubmit
  all_goals (repeat' (first | with_reducible exact .refl | with_reducible apply Ends.next | (with_reducible apply Moves.step State.submitSample_moves; · decide) | dsimp -proj only | split))

theorem execPpsInEdge_moves {i : Fin 2} {s : State} :
    Ends [.regs, .time] s (execPpsInEdge i s) := by
  unfold execPpsInEdge
  all_goals (repeat' (first | with_reducible exact .refl | with_reducible apply Ends.next | (with_reducible apply Moves.step State.incSat_moves; · decide) | (with_reducible apply Moves.step State.submitSample_moves; · decide) | with_reducible apply Moves.fold | with_reducible apply Moves.fold₁ | with_reducible intro _ _ | dsimp -proj only | split))

theorem execTbHoldoverTimeout_moves {n : Four} {s : State} :
    Ends (.time :: reactParts) s (execTbHoldoverTimeout n s) := by
  unfold execTbHoldoverTimeout
  all_goals (repeat' (first | with_reducible exact .refl | with_reducible apply Ends.next | (with_reducible apply Moves.step State.setTb_moves; · decide) | (with_reducible apply Moves.step State.latchFault_moves; · decide) | (with_reducible apply Moves.step State.setTbState_moves; · decide) | dsimp -proj only | split))

theorem execTbSrcWrite_moves {n : Four} {value : Word} {s : State} :
    Ends (.time :: reactParts) s (execTbSrcWrite n value s) := by
  unfold execTbSrcWrite
  all_goals (repeat' (first | with_reducible exact .refl | with_reducible apply Ends.next | (with_reducible apply Moves.step State.setFld_moves; · decide) | (with_reducible apply Moves.step State.setTb_moves; · decide) | (with_reducible apply Moves.step State.setTbState_moves; · decide) | (with_reducible apply Moves.step State.writeOrdinary_moves; · decide) | dsimp -proj only | split))

theorem State.snapOne_moves {s : State} {x v : Nat} :
    Moves [.regs] s (State.snapOne s x v) := by
  unfold State.snapOne
  all_goals (repeat' (first | with_reducible exact .refl | (with_reducible apply Moves.step State.setReg_moves; · decide) | dsimp -proj only | split))

theorem execTbSnapshot_moves {value : Word} {s : State} :
    Ends [.regs] s (execTbSnapshot value s) := by
  unfold execTbSnapshot
  all_goals (repeat' (first | with_reducible exact .refl | with_reducible apply Ends.next | (with_reducible apply Moves.step State.snapOne_moves; · decide) | dsimp -proj only | split))

theorem execTbSecondPublish_moves {s : State} :
    Ends [.time] s (execTbSecondPublish s) := by
  unfold execTbSecondPublish
  all_goals (repeat' (first | with_reducible exact .refl | with_reducible apply Ends.next | dsimp -proj only | split | (with_reducible apply Moves.time; · decide)))

theorem State.capturePub_moves {s : State} :
    Moves [.holding] s (State.capturePub s) := by
  unfold State.capturePub
  all_goals (repeat' (first | with_reducible exact .refl | dsimp -proj only | split | (with_reducible apply Moves.holding; (· decide); (· first | exact fun h => h | exact Tbl.wf_put _ _ _ _ | exact fun h => Tbl.wf_put _ _ _ _ (Tbl.wf_put _ _ _ _ h) | exact Tbl.wf_filter _ _ _ | exact fun _ => rfl | exact writeCellBytes_wf | exact writeBytes_wf | exact programBytes_wf))))

theorem execTbPubRead_moves {s : State} :
    Ends [.holding, .readData] s (execTbPubRead s) := by
  unfold execTbPubRead
  all_goals (repeat' (first | with_reducible exact .refl | with_reducible apply Ends.next | (with_reducible apply Moves.step State.capturePub_moves; · decide) | dsimp -proj only | split | (with_reducible apply Moves.readData; · decide) | (with_reducible apply Moves.upd; with_reducible rfl; (all_goals first | exact .inl (by with_reducible rfl) | exact .inr (by decide) | exact .inr ⟨by decide, by first | exact fun h => h | exact Tbl.wf_put _ _ _ _ | exact fun h => Tbl.wf_put _ _ _ _ (Tbl.wf_put _ _ _ _ h) | exact Tbl.wf_filter _ _ _ | exact fun _ => rfl | exact writeCellBytes_wf | exact writeBytes_wf | exact programBytes_wf⟩ | skip))))

theorem execPpsOutPulse_moves {s : State} :
    Ends [.emitted, .time] s (execPpsOutPulse s) := by
  unfold execPpsOutPulse
  all_goals (repeat' (first | with_reducible exact .refl | with_reducible apply Ends.next | (with_reducible apply Moves.step State.drivePps_moves; · decide) | dsimp -proj only | split))

theorem execPpsOutEnd_moves {s : State} :
    Ends [.emitted, .time] s (execPpsOutEnd s) := by
  unfold execPpsOutEnd
  all_goals (repeat' (first | with_reducible exact .refl | with_reducible apply Ends.next | (with_reducible apply Moves.step State.drivePps_moves; · decide) | dsimp -proj only | split))

theorem State.selectBase_moves {s : State} {n : Nat} :
    Moves (.time :: reactParts) s (State.selectBase s n) := by
  unfold State.selectBase
  all_goals (repeat' (first | with_reducible exact .refl | (with_reducible apply Moves.step State.switchover_moves; · decide) | dsimp -proj only | split))

theorem State.writeCadence_moves {s : State} {value : Word} :
    Moves (.time :: reactParts) s (State.writeCadence s value) := by
  unfold State.writeCadence
  all_goals (repeat' (first | with_reducible exact .refl | (with_reducible apply Moves.step State.latchFault_moves; · decide) | (with_reducible apply Moves.step State.setD_moves; · decide) | (with_reducible apply Moves.step State.writeOrdinary_moves; · decide) | (with_reducible apply Moves.step State.selectBase_moves; · decide) | dsimp -proj only | split))

theorem execCadSrcWrite_moves {value : Word} {s : State} :
    Ends (.time :: reactParts) s (execCadSrcWrite value s) := by
  unfold execCadSrcWrite
  all_goals (repeat' (first | with_reducible exact .refl | with_reducible apply Ends.next | (with_reducible apply Moves.step State.writeCadence_moves; · decide) | dsimp -proj only | split))

theorem execCadAlign_moves {value : Word} {s : State} :
    Ends (.time :: reactParts) s (execCadAlign value s) := by
  unfold execCadAlign
  all_goals (repeat' (first | with_reducible exact .refl | with_reducible apply Ends.next | (with_reducible apply Moves.step State.writeCadence_moves; · decide) | dsimp -proj only | split))

theorem State.setSlotMark_moves {s : State} {i m : Nat} :
    Moves [.regs] s (State.setSlotMark s i m) := by
  unfold State.setSlotMark
  all_goals (repeat' (first | with_reducible exact .refl | (with_reducible apply Moves.step State.setReg_moves; · decide) | (with_reducible apply Moves.step State.setFld_moves; · decide) | dsimp -proj only | split))

theorem State.slotRefused_moves {s : State} {i cause : Nat} :
    Moves [.regs] s (State.slotRefused s i cause) := by
  unfold State.slotRefused
  all_goals (repeat' (first | with_reducible exact .refl | (with_reducible apply Moves.step State.setFld_moves; · decide) | (with_reducible apply Moves.step State.setBit_moves; · decide) | dsimp -proj only | split))

theorem execCadSlotWrite_moves {slot : Sixtyfour} {r : Fin 5} {value : Word} {host : Bool} {s : State} :
    Ends [.regs] s (execCadSlotWrite slot r value host s) := by
  unfold execCadSlotWrite
  all_goals (repeat' (first | with_reducible exact .refl | with_reducible apply Ends.next | (with_reducible apply Moves.step State.setReg_moves; · decide) | (with_reducible apply Moves.step State.slotRefused_moves; · decide) | dsimp -proj only | split))

theorem execCadSlewEnd_moves {s : State} :
    Ends [.time] s (execCadSlewEnd s) := by
  unfold execCadSlewEnd
  all_goals (repeat' (first | with_reducible exact .refl | with_reducible apply Ends.next | (with_reducible apply Moves.step State.setD_moves; · decide) | dsimp -proj only | split))

theorem tick_moves {s : State} :
    Moves [.counters, .time] s (tick s) := by
  unfold tick
  all_goals (repeat' (first | with_reducible exact .refl | (with_reducible apply Moves.step State.count_moves; · decide) | (with_reducible apply Moves.step State.setTb_moves; · decide) | with_reducible apply Moves.fold | with_reducible apply Moves.fold₁ | with_reducible intro _ _ | dsimp -proj only | split | (with_reducible apply Moves.time; · decide)))

end Sys2Proof.Machine
end

