-- ==== Sys2Proof/Laws/Moves/Calib.lean ====
section
/-! SUPPORT. What each operation of Machine/Calib.lean can touch, and that it keeps the stores canonical. -/

namespace Sys2Proof.Machine

theorem State.ptpCapture_moves {s : State} {p : Nat} {sent : Bool} {x : Stamp} :
    Moves [.freeCount, .ks] s (State.ptpCapture s p sent x) := by
  unfold State.ptpCapture
  all_goals (repeat' (first | with_reducible exact .refl | dsimp -proj only | split | (with_reducible apply Moves.freeCount; · decide) | (with_reducible apply Moves.ks; · decide) | (with_reducible apply Moves.upd; with_reducible rfl; (all_goals first | exact .inl (by with_reducible rfl) | exact .inr (by decide) | exact .inr ⟨by decide, by first | exact fun h => h | exact Tbl.wf_put _ _ _ _ | exact fun h => Tbl.wf_put _ _ _ _ (Tbl.wf_put _ _ _ _ h) | exact Tbl.wf_filter _ _ _ | exact fun _ => rfl | exact writeCellBytes_wf | exact writeBytes_wf | exact programBytes_wf⟩ | skip))))

theorem State.flagClamp_moves {s : State} {k : Nat} {clamped : Bool} :
    Moves reactParts s (State.flagClamp s k clamped) := by
  unfold State.flagClamp
  all_goals (repeat' (first | with_reducible exact .refl | (with_reducible apply Moves.step State.setBit_moves; · decide) | (with_reducible apply Moves.step State.latchFault_moves; · decide) | dsimp -proj only | split))

theorem State.calibrate_moves {s : State} :
    Moves reactParts s (State.calibrate s) := by
  unfold State.calibrate
  all_goals (repeat' (first | with_reducible exact .refl | (with_reducible apply Moves.step State.flagClamp_moves; · decide) | with_reducible apply Moves.fold | with_reducible apply Moves.fold₁ | with_reducible intro _ _ | dsimp -proj only | split))

theorem State.writeLocked_moves {s : State} {off : Nat} {w : Word} :
    Moves reactParts s (State.writeLocked s off w) := by
  unfold State.writeLocked
  all_goals (repeat' (first | with_reducible exact .refl | (with_reducible apply Moves.step State.setReg_moves; · decide) | (with_reducible apply Moves.step State.refusedWrite_moves; · decide) | dsimp -proj only | split))

theorem State.writeCalibration_moves {s : State} {o : Nat} {value : Word} :
    Moves reactParts s (State.writeCalibration s o value) := by
  unfold State.writeCalibration
  all_goals (repeat' (first | with_reducible exact .refl | (with_reducible apply Moves.step State.setReg_moves; · decide) | (with_reducible apply Moves.step State.flagClamp_moves; · decide) | (with_reducible apply Moves.step State.writeLocked_moves; · decide) | dsimp -proj only | split))

theorem execCalibrationWrite_moves {off : Offset} {value : Word} {s : State} :
    Ends reactParts s (execCalibrationWrite off value s) := by
  unfold execCalibrationWrite
  all_goals (repeat' (first | with_reducible exact .refl | with_reducible apply Ends.next | (with_reducible apply Moves.step State.writeCalibration_moves; · decide) | dsimp -proj only | split))

end Sys2Proof.Machine
end

