-- ==== Sys2Proof/Laws/Moves/Journal.lean ====
section
/-! SUPPORT. What each operation of Machine/Journal.lean can touch, and that it keeps the stores canonical. -/

namespace Sys2Proof.Machine

theorem State.setMode_moves {s : State} {wt : Bool} :
    Moves [.regs, .emitted, .jrn] s (State.setMode s wt) := by
  unfold State.setMode
  all_goals (repeat' (first | with_reducible exact .refl | (with_reducible apply Moves.step State.setBit_moves; · decide) | (with_reducible apply Moves.step State.irq_moves; · decide) | dsimp -proj only | split | (with_reducible apply Moves.jrn; · decide)))

theorem State.journal_moves {s : State} {body : List Byte} {tag : Nat} :
    Moves [.jrn] s (State.journal s body tag) := by
  unfold State.journal
  all_goals (repeat' (first | with_reducible exact .refl | dsimp -proj only | split | (with_reducible apply Moves.jrn; · decide)))

theorem State.setExecuted_moves {s : State} {r lsn : Nat} :
    Moves [.jrn] s (State.setExecuted s r lsn) := by
  unfold State.setExecuted
  all_goals (repeat' (first | with_reducible exact .refl | dsimp -proj only | split | (with_reducible apply Moves.jrn; · decide)))

theorem State.setSq_moves {s : State} {r : Nat} {x : SqRec} :
    Moves [.hq] s (State.setSq s r x) := by
  unfold State.setSq
  all_goals (repeat' (first | with_reducible exact .refl | dsimp -proj only | split | (with_reducible apply Moves.hq; · decide)))

theorem State.journalPoint_moves {s : State} {r lsn : Nat} :
    Moves [.hq] s (State.journalPoint s r lsn) := by
  unfold State.journalPoint
  all_goals (repeat' (first | with_reducible exact .refl | (with_reducible apply Moves.step State.setSq_moves; · decide) | dsimp -proj only | split))

theorem State.journalProgram_moves {s : State} {verified : Bool} :
    Moves (.hq :: .jrn :: reactParts) s (State.journalProgram s verified) := by
  unfold State.journalProgram
  all_goals (repeat' (first | with_reducible exact .refl | (with_reducible apply Moves.step State.count_moves; · decide) | (with_reducible apply Moves.step State.latchFault_moves; · decide) | (with_reducible apply Moves.step State.meetFiring_moves; · decide) | (with_reducible apply Moves.step State.journalPoint_moves; · decide) | (with_reducible apply Moves.step State.checkpoint_moves; · decide) | dsimp -proj only | split | (with_reducible apply Moves.jrn; · decide)))

theorem execJournalProgram_moves {verified : Bool} {s : State} :
    Ends (.hq :: .jrn :: reactParts) s (execJournalProgram verified s) := by
  unfold execJournalProgram
  all_goals (repeat' (first | with_reducible exact .refl | with_reducible apply Ends.next | (with_reducible apply Moves.step State.journalProgram_moves; · decide) | dsimp -proj only | split))

theorem State.checkpoint_moves {s : State} {n : Nat} {rs : List Nat} :
    Moves [.jrn] s (State.checkpoint s n rs) := by
  induction n generalizing s rs with
  | zero => exact .refl
  | succ n ih =>
    unfold State.checkpoint
    split
    · exact .refl
    · exact .trans (.jrn (by decide) State.journal_moves) ih

theorem execJournalCheckpoint_moves {s : State} :
    Ends [.jrn] s (execJournalCheckpoint s) := by
  unfold execJournalCheckpoint
  all_goals (repeat' (first | with_reducible exact .refl | with_reducible apply Ends.next | (with_reducible apply Moves.step State.checkpoint_moves; · decide) | dsimp -proj only | split))

theorem execJournalForceWt_moves {value : Word} {s : State} :
    Ends [.regs, .emitted, .jrn] s (execJournalForceWt value s) := by
  unfold execJournalForceWt
  all_goals (repeat' (first | with_reducible exact .refl | with_reducible apply Ends.next | (with_reducible apply Moves.step State.setFld_moves; · decide) | (with_reducible apply Moves.step State.setMode_moves; · decide) | dsimp -proj only | split))

theorem State.readCheckpoints_moves {s : State} :
    Moves [.jrn] s (State.readCheckpoints s) := by
  unfold State.readCheckpoints
  all_goals (repeat' (first | with_reducible exact .refl | (with_reducible apply Moves.step State.checkpoint_moves; · decide) | with_reducible apply Moves.fold | with_reducible apply Moves.fold₁ | with_reducible intro _ _ | dsimp -proj only | split | (with_reducible apply Moves.jrn; · decide)))

theorem State.journalRecovery_moves {s : State} :
    Moves [.hq, .jrn] s (State.journalRecovery s) := by
  unfold State.journalRecovery
  all_goals (repeat' (first | with_reducible exact .refl | (with_reducible apply Moves.step State.setSq_moves; · decide) | (with_reducible apply Moves.step State.readCheckpoints_moves; · decide) | with_reducible apply Moves.fold | with_reducible apply Moves.fold₁ | with_reducible intro _ _ | dsimp -proj only | split))

end Sys2Proof.Machine
end

