-- ==== Sys2Proof/Laws/Moves/Power.lean ====
section
/-! SUPPORT. What each operation of Machine/Power.lean can touch, and that it keeps the stores canonical. -/

namespace Sys2Proof.Machine

theorem State.dropChange_moves {s : State} :
    Moves [.regs, .emitted, .pwr] s (State.dropChange s) := by
  unfold State.dropChange
  all_goals (repeat' (first | with_reducible exact .refl | (with_reducible apply Moves.step State.setBit_moves; · decide) | (with_reducible apply Moves.step State.dropRise_moves; · decide) | dsimp -proj only | split))

theorem State.armChange_moves {s : State} {op mark : Nat} :
    Moves [.regs, .emitted, .pwr] s (State.armChange s op mark) := by
  unfold State.armChange
  all_goals (repeat' (first | with_reducible exact .refl | (with_reducible apply Moves.step State.setReg_moves; · decide) | (with_reducible apply Moves.step State.setBit_moves; · decide) | (with_reducible apply Moves.step State.dropRise_moves; · decide) | (with_reducible apply Moves.step State.setSlotMark_moves; · decide) | dsimp -proj only | split))

theorem State.schedulePoint_moves {s : State} :
    Moves [.regs, .emitted, .pwr] s (State.schedulePoint s) := by
  unfold State.schedulePoint
  all_goals (repeat' (first | with_reducible exact .refl | (with_reducible apply Moves.step State.showCaps_moves; · decide) | (with_reducible apply Moves.step State.armChange_moves; · decide) | dsimp -proj only | split))

theorem execOpPolicyWrite_moves {phases : Bool} {value : Word} {s : State} :
    Ends [.regs, .emitted, .pwr] s (execOpPolicyWrite phases value s) := by
  unfold execOpPolicyWrite
  all_goals (repeat' (first | with_reducible exact .refl | with_reducible apply Ends.next | (with_reducible apply Moves.step State.setReg_moves; · decide) | (with_reducible apply Moves.step State.schedulePoint_moves; · decide) | dsimp -proj only | split))

theorem State.phaseMark_moves {s : State} {arg : Nat} :
    Moves [.regs, .emitted, .pwr] s (State.phaseMark s arg) := by
  unfold State.phaseMark
  all_goals (repeat' (first | with_reducible exact .refl | (with_reducible apply Moves.step State.setFld_moves; · decide) | (with_reducible apply Moves.step State.setOp_moves; · decide) | (with_reducible apply Moves.step State.showCaps_moves; · decide) | (with_reducible apply Moves.step State.settleVcore_moves; · decide) | (with_reducible apply Moves.step State.dropChange_moves; · decide) | (with_reducible apply Moves.step State.schedulePoint_moves; · decide) | dsimp -proj only | split | (with_reducible apply Moves.pwr; · decide)))

theorem State.concordMark_moves {s : State} {p : Nat} :
    Moves [.regs, .emitted, .pwr] s (State.concordMark s p) := by
  unfold State.concordMark
  all_goals (repeat' (first | with_reducible exact .refl | (with_reducible apply Moves.step State.setFld_moves; · decide) | (with_reducible apply Moves.step State.setBit_moves; · decide) | (with_reducible apply Moves.step State.setOp_moves; · decide) | (with_reducible apply Moves.step State.settleVcore_moves; · decide) | (with_reducible apply Moves.step State.dropRise_moves; · decide) | dsimp -proj only | split | (with_reducible apply Moves.pwr; · decide)))

theorem State.startRise_moves {s : State} :
    Moves [.regs, .emitted, .pwr] s (State.startRise s) := by
  unfold State.startRise
  all_goals (repeat' (first | with_reducible exact .refl | (with_reducible apply Moves.step State.commandTarget_moves; · decide) | dsimp -proj only | split | (with_reducible apply Moves.pwr; · decide)))

theorem execRiseVoutCommand_moves {s : State} :
    Ends [.regs, .emitted, .pwr] s (execRiseVoutCommand s) := by
  unfold execRiseVoutCommand
  all_goals (repeat' (first | with_reducible exact .refl | with_reducible apply Ends.next | (with_reducible apply Moves.step State.startRise_moves; · decide) | dsimp -proj only | split))

theorem State.capRise_moves {s : State} :
    Moves [.regs, .emitted, .pwr] s (State.capRise s) := by
  unfold State.capRise
  all_goals (repeat' (first | with_reducible exact .refl | (with_reducible apply Moves.step State.schedulePoint_moves; · decide) | dsimp -proj only | split))

theorem State.pmbusGood_moves {s : State} :
    Moves [.regs, .emitted, .pwr] s (State.pmbusGood s) := by
  unfold State.pmbusGood
  all_goals (repeat' (first | with_reducible exact .refl | (with_reducible apply Moves.step State.settleVcore_moves; · decide) | (with_reducible apply Moves.step State.capRise_moves; · decide) | dsimp -proj only | split | (with_reducible apply Moves.pwr; · decide)))

theorem execRiseReadVout_moves {uv : Nat} {s : State} :
    Ends [.regs, .emitted, .pwr] s (execRiseReadVout uv s) := by
  unfold execRiseReadVout
  all_goals (repeat' (first | with_reducible exact .refl | with_reducible apply Ends.next | (with_reducible apply Moves.step State.setFld_moves; · decide) | (with_reducible apply Moves.step State.pmbusSend_moves; · decide) | (with_reducible apply Moves.step State.pmbusGood_moves; · decide) | dsimp -proj only | split | (with_reducible apply Moves.pwr; · decide)))

theorem execAvsAdjust_moves {up down : Bool} {s : State} :
    Ends [.regs, .emitted, .pwr] s (execAvsAdjust up down s) := by
  unfold execAvsAdjust
  all_goals (repeat' (first | with_reducible exact .refl | with_reducible apply Ends.next | (with_reducible apply Moves.step State.setTarget25_moves; · decide) | dsimp -proj only | split))

theorem State.pmbusFails_moves {s : State} :
    Moves reactParts s (State.pmbusFails s) := by
  unfold State.pmbusFails
  all_goals (repeat' (first | with_reducible exact .refl | (with_reducible apply Moves.step State.capFall_moves; · decide) | (with_reducible apply Moves.step State.latchFault_moves; · decide) | dsimp -proj only | split | (with_reducible apply Moves.pwr; · decide)))

theorem execPmbusFailure_moves {s : State} :
    Ends reactParts s (execPmbusFailure s) := by
  unfold execPmbusFailure
  all_goals (repeat' (first | with_reducible exact .refl | with_reducible apply Ends.next | (with_reducible apply Moves.step State.pmbusFails_moves; · decide) | dsimp -proj only | split))

theorem execPmbAlert_moves {status : BitVec 16} {s : State} :
    Ends reactParts s (execPmbAlert status s) := by
  unfold execPmbAlert
  all_goals (repeat' (first | with_reducible exact .refl | with_reducible apply Ends.next | (with_reducible apply Moves.step State.emit_moves; · decide) | (with_reducible apply Moves.step State.pmbusSend_moves; · decide) | (with_reducible apply Moves.step State.latchFault_moves; · decide) | (with_reducible apply Moves.step State.pmbusGood_moves; · decide) | dsimp -proj only | split))

theorem State.droopStarts_moves {s : State} {det : Nat} :
    Moves [.regs, .pwr] s (State.droopStarts s det) := by
  unfold State.droopStarts
  all_goals (repeat' (first | with_reducible exact .refl | (with_reducible apply Moves.step State.incSat_moves; · decide) | dsimp -proj only | split | (with_reducible apply Moves.pwr; · decide)))

theorem State.droopEnds_moves {s : State} {det : Nat} :
    Moves [.pwr] s (State.droopEnds s det) := by
  unfold State.droopEnds
  all_goals (repeat' (first | with_reducible exact .refl | dsimp -proj only | split | (with_reducible apply Moves.pwr; · decide)))

theorem execDroopDetect_moves {det : Fin 256} {s : State} :
    Ends [.regs, .pwr] s (execDroopDetect det s) := by
  unfold execDroopDetect
  all_goals (repeat' (first | with_reducible exact .refl | with_reducible apply Ends.next | (with_reducible apply Moves.step State.droopStarts_moves; · decide) | dsimp -proj only | split))

theorem execDroopRecover_moves {det : Fin 256} {s : State} :
    Ends [.pwr] s (execDroopRecover det s) := by
  unfold execDroopRecover
  all_goals (repeat' (first | with_reducible exact .refl | with_reducible apply Ends.next | (with_reducible apply Moves.step State.droopEnds_moves; · decide) | dsimp -proj only | split))

theorem execThermalSample_moves {temps : List Int} {s : State} :
    Ends reactParts s (execThermalSample temps s) := by
  unfold execThermalSample
  all_goals (repeat' (first | with_reducible exact .refl | with_reducible apply Ends.next | (with_reducible apply Moves.step State.setFld_moves; · decide) | (with_reducible apply Moves.step State.capFall_moves; · decide) | (with_reducible apply Moves.step State.overrideStarts_moves; · decide) | (with_reducible apply Moves.step State.latchLive_moves; · decide) | (with_reducible apply Moves.step State.endLive_moves; · decide) | with_reducible apply Moves.fold | with_reducible apply Moves.fold₁ | with_reducible intro _ _ | dsimp -proj only | split | (with_reducible apply Moves.pwr; · decide)))

theorem execThrottleStep_moves {s : State} :
    Ends [.regs, .emitted, .pierTx, .pwr] s (execThrottleStep s) := by
  unfold execThrottleStep
  all_goals (repeat' (first | with_reducible exact .refl | with_reducible apply Ends.next | (with_reducible apply Moves.step State.capFall_moves; · decide) | dsimp -proj only | split | (with_reducible apply Moves.pwr; · decide)))

theorem execThrottleReleaseStep_moves {s : State} :
    Ends [.regs, .emitted, .pwr] s (execThrottleReleaseStep s) := by
  unfold execThrottleReleaseStep
  all_goals (repeat' (first | with_reducible exact .refl | with_reducible apply Ends.next | (with_reducible apply Moves.step State.capRise_moves; · decide) | dsimp -proj only | split | (with_reducible apply Moves.pwr; · decide)))

theorem execTjmaxCapEnd_moves {s : State} :
    Ends [.regs, .emitted, .pwr] s (execTjmaxCapEnd s) := by
  unfold execTjmaxCapEnd
  all_goals (repeat' (first | with_reducible exact .refl | with_reducible apply Ends.next | (with_reducible apply Moves.step State.capRise_moves; · decide) | dsimp -proj only | split | (with_reducible apply Moves.pwr; · decide)))

theorem State.alertStarts_moves {s : State} :
    Moves reactParts s (State.alertStarts s) := by
  unfold State.alertStarts
  all_goals (repeat' (first | with_reducible exact .refl | (with_reducible apply Moves.step State.settleVcore_moves; · decide) | (with_reducible apply Moves.step State.dropRise_moves; · decide) | (with_reducible apply Moves.step State.overrideStarts_moves; · decide) | (with_reducible apply Moves.step State.latchLive_moves; · decide) | dsimp -proj only | split | (with_reducible apply Moves.pwr; · decide)))

theorem State.alertEnds_moves {s : State} :
    Moves [.regs, .emitted, .fc, .pwr] s (State.alertEnds s) := by
  unfold State.alertEnds
  all_goals (repeat' (first | with_reducible exact .refl | (with_reducible apply Moves.step State.endLive_moves; · decide) | (with_reducible apply Moves.step State.capRise_moves; · decide) | dsimp -proj only | split | (with_reducible apply Moves.pwr; · decide)))

theorem execRegAlertConfirm_moves {s : State} :
    Ends reactParts s (execRegAlertConfirm s) := by
  unfold execRegAlertConfirm
  all_goals (repeat' (first | with_reducible exact .refl | with_reducible apply Ends.next | (with_reducible apply Moves.step State.alertStarts_moves; · decide) | dsimp -proj only | split))

theorem execRegAlertEnd_moves {s : State} :
    Ends [.regs, .emitted, .fc, .pwr] s (execRegAlertEnd s) := by
  unfold execRegAlertEnd
  all_goals (repeat' (first | with_reducible exact .refl | with_reducible apply Ends.next | (with_reducible apply Moves.step State.alertEnds_moves; · decide) | dsimp -proj only | split))

theorem State.openRound_moves {s : State} :
    Moves [.emitted, .pierTx, .pwr] s (State.openRound s) := by
  unfold State.openRound
  all_goals (repeat' (first | with_reducible exact .refl | (with_reducible apply Moves.step State.sendConcord_moves; · decide) | (with_reducible apply Moves.step State.putVote_moves; · decide) | dsimp -proj only | split | (with_reducible apply Moves.pwr; · decide)))

theorem State.leaveGroup_moves {s : State} :
    Moves [.regs, .emitted, .pwr] s (State.leaveGroup s) := by
  unfold State.leaveGroup
  all_goals (repeat' (first | with_reducible exact .refl | (with_reducible apply Moves.step State.setFld_moves; · decide) | (with_reducible apply Moves.step State.schedulePoint_moves; · decide) | dsimp -proj only | split | (with_reducible apply Moves.pwr; · decide)))

theorem execConcordRoundOpen_moves {s : State} :
    Ends [.regs, .emitted, .pierTx, .pwr] s (execConcordRoundOpen s) := by
  unfold execConcordRoundOpen
  all_goals (repeat' (first | with_reducible exact .refl | with_reducible apply Ends.next | (with_reducible apply Moves.step State.openRound_moves; · decide) | (with_reducible apply Moves.step State.leaveGroup_moves; · decide) | dsimp -proj only | split))

theorem execConcord_moves {n : Four} {payload : List Byte} {s : State} :
    Ends [.regs, .emitted, .pierTx, .pwr] s (execConcord n payload s) := by
  unfold execConcord
  all_goals (repeat' (first | with_reducible exact .refl | with_reducible apply Ends.next | (with_reducible apply Moves.step State.incSat_moves; · decide) | (with_reducible apply Moves.step State.sendConcord_moves; · decide) | (with_reducible apply Moves.step State.putVote_moves; · decide) | dsimp -proj only | split | (with_reducible apply Moves.pwr; · decide)))

theorem execConcordRoundClose_moves {s : State} :
    Ends reactParts s (execConcordRoundClose s) := by
  unfold execConcordRoundClose
  all_goals (repeat' (first | with_reducible exact .refl | with_reducible apply Ends.next | (with_reducible apply Moves.step State.setFld_moves; · decide) | (with_reducible apply Moves.step State.setBit_moves; · decide) | (with_reducible apply Moves.step State.incMod_moves; · decide) | (with_reducible apply Moves.step State.latchFault_moves; · decide) | (with_reducible apply Moves.step State.armChange_moves; · decide) | (with_reducible apply Moves.step State.startRise_moves; · decide) | dsimp -proj only | split | (with_reducible apply Moves.pwr; · decide)))

theorem State.writeConcord_moves {s : State} {value : Word} :
    Moves reactParts s (State.writeConcord s value) := by
  unfold State.writeConcord
  all_goals (repeat' (first | with_reducible exact .refl | (with_reducible apply Moves.step State.writeOrdinary_moves; · decide) | (with_reducible apply Moves.step State.dropChange_moves; · decide) | dsimp -proj only | split))

theorem State.holdup_moves {s : State} {mv : Int} :
    Moves (.jrn :: reactParts) s (State.holdup s mv) := by
  unfold State.holdup
  all_goals (repeat' (first | with_reducible exact .refl | (with_reducible apply Moves.step State.setFld_moves; · decide) | (with_reducible apply Moves.step State.setBit_moves; · decide) | (with_reducible apply Moves.step State.latchLive_moves; · decide) | (with_reducible apply Moves.step State.endLive_moves; · decide) | (with_reducible apply Moves.step State.setMode_moves; · decide) | dsimp -proj only | split))

theorem execHoldupCompare_moves {sense : Int} {mv : Nat} {s : State} :
    Ends (.jrn :: reactParts) s (execHoldupCompare sense mv s) := by
  unfold execHoldupCompare
  all_goals (repeat' (first | with_reducible exact .refl | with_reducible apply Ends.next | (with_reducible apply Moves.step State.holdup_moves; · decide) | dsimp -proj only | split | (with_reducible apply Moves.pwr; · decide)))

theorem execHoldupRebase_moves {mv : Nat} {s : State} :
    Ends (.jrn :: reactParts) s (execHoldupRebase mv s) := by
  unfold execHoldupRebase
  all_goals (repeat' (first | with_reducible exact .refl | with_reducible apply Ends.next | (with_reducible apply Moves.step State.setFld_moves; · decide) | (with_reducible apply Moves.step State.setBit_moves; · decide) | (with_reducible apply Moves.step State.holdup_moves; · decide) | dsimp -proj only | split | (with_reducible apply Moves.pwr; · decide)))

theorem execJournalFastResume_moves {s : State} :
    Ends [.regs, .emitted, .jrn] s (execJournalFastResume s) := by
  unfold execJournalFastResume
  all_goals (repeat' (first | with_reducible exact .refl | with_reducible apply Ends.next | (with_reducible apply Moves.step State.setMode_moves; · decide) | dsimp -proj only | split))

theorem State.supplyFails_moves {s : State} :
    Moves [.regs, .emitted, .chip, .jrn, .boot] s (State.supplyFails s) := by
  unfold State.supplyFails
  all_goals (repeat' (first | with_reducible exact .refl | (with_reducible apply Moves.step State.setBit_moves; · decide) | (with_reducible apply Moves.step State.setMode_moves; · decide) | dsimp -proj only | split | (with_reducible apply Moves.chip; · decide) | (with_reducible apply Moves.jrn; · decide) | (with_reducible apply Moves.boot; (· decide); (· first | exact fun h => h | exact Tbl.wf_put _ _ _ _ | exact fun h => Tbl.wf_put _ _ _ _ (Tbl.wf_put _ _ _ _ h) | exact Tbl.wf_filter _ _ _ | exact fun _ => rfl | exact writeCellBytes_wf | exact writeBytes_wf | exact programBytes_wf)) | (with_reducible apply Moves.upd; with_reducible rfl; (all_goals first | exact .inl (by with_reducible rfl) | exact .inr (by decide) | exact .inr ⟨by decide, by first | exact fun h => h | exact Tbl.wf_put _ _ _ _ | exact fun h => Tbl.wf_put _ _ _ _ (Tbl.wf_put _ _ _ _ h) | exact Tbl.wf_filter _ _ _ | exact fun _ => rfl | exact writeCellBytes_wf | exact writeBytes_wf | exact programBytes_wf⟩ | skip))))

theorem execMainSupplyFail_moves {s : State} :
    Ends [.regs, .emitted, .chip, .jrn, .boot] s (execMainSupplyFail s) := by
  unfold execMainSupplyFail
  all_goals (repeat' (first | with_reducible exact .refl | with_reducible apply Ends.next | (with_reducible apply Moves.step State.supplyFails_moves; · decide) | dsimp -proj only | split))

theorem State.flushJournal_moves {s : State} :
    Moves (.hq :: .jrn :: reactParts) s (State.flushJournal s) := by
  unfold State.flushJournal
  all_goals (repeat' (first | with_reducible exact .refl | (with_reducible apply Moves.step State.journalProgram_moves; · decide) | with_reducible apply Moves.fold | with_reducible apply Moves.fold₁ | with_reducible intro _ _ | dsimp -proj only | split | (with_reducible apply Moves.chip; · decide)))

theorem execJournalFlushDone_moves {sense fall : Nat} {s : State} :
    Ends (.hq :: .jrn :: reactParts) s (execJournalFlushDone sense fall s) := by
  unfold execJournalFlushDone
  all_goals (repeat' (first | with_reducible exact .refl | with_reducible apply Ends.next | (with_reducible apply Moves.step State.setFld_moves; · decide) | (with_reducible apply Moves.step State.setBit_moves; · decide) | (with_reducible apply Moves.step State.setMode_moves; · decide) | (with_reducible apply Moves.step State.flushJournal_moves; · decide) | dsimp -proj only | split))

end Sys2Proof.Machine
end

