-- ==== Sys2Proof/Laws/Moves/BufferOps.lean ====
section
/-! SUPPORT. What each operation of Machine/BufferOps.lean can touch, and that it keeps the stores canonical. -/

namespace Sys2Proof.Machine

theorem State.bufFault_moves {s : State} {kind id : Nat} {h : Holder} {cls : FaultClass} :
    Moves reactParts s (State.bufFault s kind id h cls) := by
  unfold State.bufFault
  all_goals (repeat' (first | with_reducible exact .refl | (with_reducible apply Moves.step State.setBit_moves; · decide) | (with_reducible apply Moves.step State.latchFault_moves; · decide) | dsimp -proj only | split | (with_reducible apply Moves.buf; (· decide); (· with_reducible rfl))))

theorem State.raiseFound_moves {s : State} :
    Moves reactParts s (State.raiseFound s) := by
  unfold State.raiseFound
  all_goals (repeat' (first | with_reducible exact .refl | (with_reducible apply Moves.step State.bufFault_moves; · decide) | with_reducible apply Moves.fold | with_reducible apply Moves.fold₁ | with_reducible intro _ _ | dsimp -proj only | split | (with_reducible apply Moves.buf; (· decide); (· with_reducible rfl))))

theorem State.logLoss_moves {s : State} {kind d egress : Nat} :
    Moves [.regs, .ord] s (State.logLoss s kind d egress) := by
  unfold State.logLoss
  all_goals (repeat' (first | with_reducible exact .refl | (with_reducible apply Moves.step State.setBit_moves; · decide) | dsimp -proj only | split | (with_reducible apply Moves.ord; · decide)))

theorem State.outcome_moves {s : State} {d e : Nat} :
    Moves [.counters] s (State.outcome s d e) := by
  unfold State.outcome
  all_goals (repeat' (first | with_reducible exact .refl | (with_reducible apply Moves.step State.count_moves; · decide) | dsimp -proj only | split))

theorem State.lose_moves {s : State} {d egress kind : Nat} :
    Moves [.regs, .counters, .ord] s (State.lose s d egress kind) := by
  unfold State.lose
  all_goals (repeat' (first | with_reducible exact .refl | (with_reducible apply Moves.step State.logLoss_moves; · decide) | (with_reducible apply Moves.step State.outcome_moves; · decide) | dsimp -proj only | split))

theorem State.freeEntry_moves {s : State} {e : QEntry} :
    Moves [.egr] s (State.freeEntry s e) := by
  unfold State.freeEntry
  all_goals (repeat' (first | with_reducible exact .refl | dsimp -proj only | split | (with_reducible apply Moves.egr; · decide)))

theorem State.resetEmpty_moves {s : State} {q : Nat} :
    Moves [.egr] s (State.resetEmpty s q) := by
  unfold State.resetEmpty
  all_goals (repeat' (first | with_reducible exact .refl | dsimp -proj only | split | (with_reducible apply Moves.egr; · decide)))

theorem State.unqueueFrame_moves {s : State} {d : Nat} :
    Moves [.egr] s (State.unqueueFrame s d).1 := by
  unfold State.unqueueFrame
  all_goals (repeat' (first | with_reducible exact .refl | (with_reducible apply Moves.step State.setQueue_moves; · decide) | (with_reducible apply Moves.step State.setAhead_moves; · decide) | (with_reducible apply Moves.step State.freeEntry_moves; · decide) | (with_reducible apply Moves.step State.resetEmpty_moves; · decide) | with_reducible apply Moves.fold | with_reducible apply Moves.fold₁ | with_reducible intro _ _ | dsimp -proj only | split))

theorem State.unqueueFrame_moves_eq {s : State} {d : Nat} {sEnd : State} {yEnd} (he : State.unqueueFrame s d = (sEnd, yEnd)) : Moves [.egr] s sEnd := by
  have := @State.unqueueFrame_moves s d
  rw [he] at this
  exact this

theorem State.dropEgressOf_moves {s : State} {d : Nat} :
    Moves [.counters, .pipes] s (State.dropEgressOf s d) := by
  unfold State.dropEgressOf
  all_goals (repeat' (first | with_reducible exact .refl | (with_reducible apply Moves.step State.setReplays_moves; · decide) | (with_reducible apply Moves.step State.setSelected_moves; · decide) | (with_reducible apply Moves.step State.dropWhere_moves; · decide) | with_reducible apply Moves.fold | with_reducible apply Moves.fold₁ | with_reducible intro _ _ | dsimp -proj only | split))

theorem State.quarantineTx_moves {s : State} {d : Nat} :
    Moves [.regs, .counters, .emitted, .ord, .egr, .via] s (State.quarantineTx s d) := by
  unfold State.quarantineTx
  all_goals (repeat' (first | with_reducible exact .refl | (with_reducible apply Moves.step State.setTx_moves; · decide) | (with_reducible apply Moves.step State.stomp_moves; · decide) | (with_reducible apply Moves.step State.lose_moves; · decide) | (with_reducible apply Moves.step State.freeEntry_moves; · decide) | with_reducible apply Moves.fold | with_reducible apply Moves.fold₁ | with_reducible intro _ _ | dsimp -proj only | split))

theorem State.quarantineVoq_moves {s : State} {d : Nat} :
    Moves [.regs, .counters, .ord, .cmp] s (State.quarantineVoq s d) := by
  unfold State.quarantineVoq
  all_goals (repeat' (first | with_reducible exact .refl | (with_reducible apply Moves.step State.setVoq_moves; · decide) | (with_reducible apply Moves.step State.lose_moves; · decide) | with_reducible apply Moves.fold | with_reducible apply Moves.fold₁ | with_reducible intro _ _ | dsimp -proj only | split))

theorem State.quarantineRetry_moves {s : State} {d : Nat} :
    Moves [.regs, .counters, .ord, .via] s (State.quarantineRetry s d) := by
  unfold State.quarantineRetry
  all_goals (repeat' (first | with_reducible exact .refl | (with_reducible apply Moves.step State.setVia_moves; · decide) | (with_reducible apply Moves.step State.lose_moves; · decide) | with_reducible apply Moves.fold | with_reducible apply Moves.fold₁ | with_reducible intro _ _ | dsimp -proj only | split))

theorem State.discardCopies_moves {s : State} {gone : CopyRec → Bool} :
    Moves [.counters, .egr] s (State.discardCopies s gone) := by
  unfold State.discardCopies
  all_goals (repeat' (first | with_reducible exact .refl | (with_reducible apply Moves.step State.count_moves; · decide) | with_reducible apply Moves.fold | with_reducible apply Moves.fold₁ | with_reducible intro _ _ | dsimp -proj only | split | (with_reducible apply Moves.egr; · decide)))

theorem State.quarantine_moves {s : State} {d : Nat} :
    Moves [.regs, .counters, .emitted, .buf, .pipes, .ord, .egr, .via, .cmp] s (State.quarantine s d) := by
  unfold State.quarantine
  all_goals (repeat' (first | with_reducible exact .refl | (with_reducible apply Moves.step State.setDesc_moves; · decide) | (with_reducible apply Moves.step State.lose_moves; · decide) | (with_reducible apply Moves.step State.unqueueFrame_moves; · decide) | (with_reducible apply Moves.step (State.unqueueFrame_moves_eq (by assumption)); · decide) | (with_reducible apply Moves.step State.dropEgressOf_moves; · decide) | (with_reducible apply Moves.step State.quarantineTx_moves; · decide) | (with_reducible apply Moves.step State.quarantineVoq_moves; · decide) | (with_reducible apply Moves.step State.quarantineRetry_moves; · decide) | (with_reducible apply Moves.step State.discardCopies_moves; · decide) | with_reducible apply Moves.fold | with_reducible apply Moves.fold₁ | with_reducible intro _ _ | dsimp -proj only | split))

theorem State.popFree_moves {s : State} {g : Nat} : Moves reactParts s (State.popFree s g).1 := by
  unfold State.popFree
  dsimp -proj only
  split
  · exact .mono (by decide) State.popHeads_moves
  · exact .fold (fun _ _ => .mono (by decide) State.bufFault_moves)
      (.step State.rebuildFree_moves (by decide) (.mono (by decide) State.popHeads_moves))

theorem State.mendList_moves {s : State} {g : Nat} :
    Moves reactParts s (State.mendList s g) := by
  unfold State.mendList
  all_goals (repeat' (first | with_reducible exact .refl | (with_reducible apply Moves.step State.rebuildFree_moves; · decide) | (with_reducible apply Moves.step State.bufFault_moves; · decide) | with_reducible apply Moves.fold | with_reducible apply Moves.fold₁ | with_reducible intro _ _ | dsimp -proj only | split))

theorem State.mendAfter_moves {s v : State} :
    Moves reactParts s (State.mendAfter s v) := by
  unfold State.mendAfter
  all_goals (repeat' (first | with_reducible exact .refl | (with_reducible apply Moves.step State.mendList_moves; · decide) | with_reducible apply Moves.fold | with_reducible apply Moves.fold₁ | with_reducible intro _ _ | dsimp -proj only | split))

theorem State.allocCell_moves {s : State} {w die : Nat} {full : List Nat} :
    Moves reactParts s (State.allocCell s w die full).1 := by
  unfold State.allocCell
  dsimp -proj only
  split
  · exact .refl
  · split
    · exact .mono (by decide) State.popFree_moves
    · exact .step State.count_moves (by decide) (.buf (by decide) rfl (.mono (by decide) State.popFree_moves))

theorem State.allocDesc_moves {s t : State} {d : Nat} (h : s.allocDesc = some (t, d)) : Moves [.buf] s t := by
  unfold State.allocDesc at h
  repeat' (split at h)
  all_goals first | cases h | skip
  all_goals exact .buf (by decide) rfl .refl

theorem State.checkDrained_moves {s : State} :
    Moves [.regs] s (State.checkDrained s) := by
  unfold State.checkDrained
  all_goals (repeat' (first | with_reducible exact .refl | (with_reducible apply Moves.step State.setFld_moves; · decide) | dsimp -proj only | split))

theorem State.admitCell_moves {s : State} {p c d : Nat} {first : Bool} :
    Moves [.counters, .emitted, .buf] s (State.admitCell s p c d first).1 := by
  unfold State.admitCell
  all_goals (repeat' (first | with_reducible exact .refl | (with_reducible apply Moves.step State.count_moves; · decide) | (with_reducible apply Moves.step State.setDesc_moves; · decide) | (with_reducible apply Moves.step State.setPairUse_moves; · decide) | (with_reducible apply Moves.step State.setClsShared_moves; · decide) | (with_reducible apply Moves.step State.xoff_moves; · decide) | dsimp -proj only | split | (with_reducible apply Moves.buf; (· decide); (· with_reducible rfl))))

theorem State.admitCell_moves_eq {s : State} {p c d : Nat} {first : Bool} {sEnd : State} {yEnd} (he : State.admitCell s p c d first = (sEnd, yEnd)) : Moves [.counters, .emitted, .buf] s sEnd := by
  have := @State.admitCell_moves s p c d first
  rw [he] at this
  exact this

theorem State.uncharge_moves {s : State} {q n : Nat} :
    Moves [.counters, .emitted, .buf] s (State.uncharge s q n) := by
  unfold State.uncharge
  all_goals (repeat' (first | with_reducible exact .refl | (with_reducible apply Moves.step State.setPairUse_moves; · decide) | (with_reducible apply Moves.step State.setClsShared_moves; · decide) | (with_reducible apply Moves.step State.xon_moves; · decide) | dsimp -proj only | split | (with_reducible apply Moves.buf; (· decide); (· with_reducible rfl))))

theorem State.foldGuards_moves {s : State} {d : Nat} {x : Word} :
    Moves [.buf] s (State.foldGuards s d x) := by
  unfold State.foldGuards
  all_goals (repeat' (first | with_reducible exact .refl | (with_reducible apply Moves.step State.setLink_moves; · decide) | with_reducible apply Moves.fold | with_reducible apply Moves.fold₁ | with_reducible intro _ _ | dsimp -proj only | split))

theorem State.freeDescriptor_moves {s : State} {d : Nat} :
    Moves reactParts s (State.freeDescriptor s d) := by
  unfold State.freeDescriptor
  all_goals (repeat' (first | with_reducible exact .refl | (with_reducible apply Moves.step State.setInfo_moves; · decide) | (with_reducible apply Moves.step State.setDesc_moves; · decide) | (with_reducible apply Moves.step State.setLedger_moves; · decide) | (with_reducible apply Moves.step State.bufFault_moves; · decide) | (with_reducible apply Moves.step State.checkDrained_moves; · decide) | dsimp -proj only | split | (with_reducible apply Moves.buf; (· decide); (· with_reducible rfl))))

theorem State.returnCells_moves {s : State} {d n : Nat} :
    Moves [.counters, .emitted, .buf, .via] s (State.returnCells s d n) := by
  unfold State.returnCells
  all_goals (repeat' (first | with_reducible exact .refl | (with_reducible apply Moves.step State.count_moves; · decide) | (with_reducible apply Moves.step State.setHeadUse_moves; · decide) | (with_reducible apply Moves.step State.grantCells_moves; · decide) | (with_reducible apply Moves.step State.uncharge_moves; · decide) | dsimp -proj only | split | (with_reducible apply Moves.buf; (· decide); (· with_reducible rfl))))

theorem State.returnCharge_moves {s : State} {d n : Nat} :
    Moves [.counters, .emitted, .buf, .via] s (State.returnCharge s d n) := by
  unfold State.returnCharge
  all_goals (repeat' (first | with_reducible exact .refl | (with_reducible apply Moves.step State.returnCells_moves; · decide) | dsimp -proj only | split | (with_reducible apply Moves.buf; (· decide); (· with_reducible rfl))))

theorem walkCells_moves {refcnt : Nat} {owner newOwner : Holder} {newCount : Nat} {gx : Word} {s : State}
    {n c freed : Nat} {bad : Option Nat} :
    Moves [.buf] s (walkCells refcnt owner newOwner newCount gx s n c freed bad).st := by
  induction n generalizing s c freed bad with
  | zero => exact .refl
  | succ n ih =>
    unfold walkCells
    dsimp -proj only
    split
    · exact .refl
    · refine .trans ?_ ih
      repeat' (first | with_reducible exact .refl | (with_reducible apply Moves.step State.setLink_moves; · decide) | (with_reducible apply Moves.step State.pushFree_moves; · decide) | dsimp -proj only | split)

theorem State.walkCorrected_moves {s : State} {d : Nat} {w : WalkCheck} :
    Moves [.fc] s (State.walkCorrected s d w) := by
  unfold State.walkCorrected
  all_goals (repeat' (first | with_reducible exact .refl | (with_reducible apply Moves.step State.corrected_moves; · decide) | dsimp -proj only | split))

theorem State.walked_moves {d : Nat} {h : Holder} {count : Nat} {r : Walk} :
    Moves (.cmp :: reactParts) r.st (State.walked d h count r).1 := by
  unfold State.walked
  repeat' (first | with_reducible exact .refl | first | with_reducible exact .refl | (with_reducible apply Moves.step State.setInfo_moves; · decide) | (with_reducible apply Moves.step State.setDesc_moves; · decide) | (with_reducible apply Moves.step State.bufFault_moves; · decide) | (with_reducible apply Moves.step State.quarantine_moves; · decide) | (with_reducible apply Moves.step State.freeDescriptor_moves; · decide) | (with_reducible apply Moves.step State.returnCells_moves; · decide) | (with_reducible apply Moves.step State.returnCharge_moves; · decide) | dsimp -proj only | split)

theorem State.holderWalk_moves {s : State} {d : Nat} {h : Holder} {add : List Holder} {newDest bad : Option Nat} :
    Moves (.cmp :: reactParts) s (State.holderWalk s d h add newDest bad).1 := by
  unfold State.holderWalk
  dsimp -proj only
  refine .trans ?_ (.mono (by decide) State.walked_moves)
  refine .trans ?_ (.mono (by decide) walkCells_moves)
  split
  · exact .mono (by decide) State.setDesc_moves
  · exact .refl

theorem State.holderNow_moves {s : State} {d : Nat} {h : Holder} {add : List Holder} {newDest : Option Nat} {w : WalkCheck} :
    Moves (.cmp :: reactParts) s (State.holderNow s d h add newDest w).1 := by
  unfold State.holderNow
  all_goals (repeat' (first | with_reducible exact .refl | (with_reducible apply Moves.step State.bufFault_moves; · decide) | (with_reducible apply Moves.step State.quarantine_moves; · decide) | (with_reducible apply Moves.step State.walkCorrected_moves; · decide) | (with_reducible apply Moves.step State.holderWalk_moves; · decide) | (with_reducible apply Moves.step (State.holderWalk_moves_eq (by assumption)); · decide) | dsimp -proj only | split))

theorem State.holderNow_moves_eq {s : State} {d : Nat} {h : Holder} {add : List Holder} {newDest : Option Nat} {w : WalkCheck} {sEnd : State} {yEnd} (he : State.holderNow s d h add newDest w = (sEnd, yEnd)) : Moves (.cmp :: reactParts) s sEnd := by
  have := @State.holderNow_moves s d h add newDest w
  rw [he] at this
  exact this

theorem State.holderOp_moves {s : State} {d : Nat} {h : Holder} {add : List Holder} {newDest : Option Nat} {w : WalkCheck} :
    Moves (.cmp :: reactParts) s (State.holderOp s d h add newDest w).1 := by
  unfold State.holderOp
  all_goals (repeat' (first | with_reducible exact .refl | (with_reducible apply Moves.step State.holderNow_moves; · decide) | (with_reducible apply Moves.step (State.holderNow_moves_eq (by assumption)); · decide) | dsimp -proj only | split | (with_reducible apply Moves.buf; (· decide); (· with_reducible rfl))))

theorem State.holderOp_moves_eq {s : State} {d : Nat} {h : Holder} {add : List Holder} {newDest : Option Nat} {w : WalkCheck} {sEnd : State} {yEnd} (he : State.holderOp s d h add newDest w = (sEnd, yEnd)) : Moves (.cmp :: reactParts) s sEnd := by
  have := @State.holderOp_moves s d h add newDest w
  rw [he] at this
  exact this

theorem State.holderWaiting_moves {s : State} :
    Moves (.cmp :: reactParts) s (State.holderWaiting s) := by
  unfold State.holderWaiting
  all_goals (repeat' (first | with_reducible exact .refl | (with_reducible apply Moves.step State.holderNow_moves; · decide) | (with_reducible apply Moves.step (State.holderNow_moves_eq (by assumption)); · decide) | with_reducible apply Moves.fold | with_reducible apply Moves.fold₁ | with_reducible intro _ _ | dsimp -proj only | split | (with_reducible apply Moves.buf; (· decide); (· with_reducible rfl))))

theorem State.release_moves {s : State} {d : Nat} {h : Holder} :
    Moves (.cmp :: reactParts) s (State.release s d h) := by
  unfold State.release
  all_goals (repeat' (first | with_reducible exact .refl | (with_reducible apply Moves.step State.holderOp_moves; · decide) | (with_reducible apply Moves.step (State.holderOp_moves_eq (by assumption)); · decide) | dsimp -proj only | split))

end Sys2Proof.Machine
end

