-- ==== Sys2Proof/Laws/Moves/Telemetry.lean ====
section
/-! SUPPORT. What each operation of Machine/Telemetry.lean can touch, and that it keeps the stores canonical. -/

namespace Sys2Proof.Machine

theorem State.telRoll_moves {s : State} :
    Moves [.regs, .tel] s (State.telRoll s) := by
  unfold State.telRoll
  all_goals (repeat' (first | with_reducible exact .refl | (with_reducible apply Moves.step State.setReg_moves; · decide) | (with_reducible apply Moves.step State.incMod_moves; · decide) | dsimp -proj only | split | (with_reducible apply Moves.tel; · decide)))

theorem State.histAdd_moves {s : State} {q l : Nat} :
    Moves [.tel] s (State.histAdd s q l) := by
  unfold State.histAdd
  all_goals (repeat' (first | with_reducible exact .refl | dsimp -proj only | split | (with_reducible apply Moves.tel; · decide)))

theorem State.digestUpdate_moves {s : State} {span port : Nat} {egress : Bool} {p : Parsed} {len : Nat} {ts : Word} :
    Moves [.counters, .tel] s (State.digestUpdate s span port egress p len ts) := by
  unfold State.digestUpdate
  all_goals (repeat' (first | with_reducible exact .refl | (with_reducible apply Moves.step State.count_moves; · decide) | dsimp -proj only | split | (with_reducible apply Moves.tel; · decide)))

theorem State.setCountdown_moves {s : State} {m c : Nat} {r : Word} :
    Moves [.tel] s (State.setCountdown s m c r) := by
  unfold State.setCountdown
  all_goals (repeat' (first | with_reducible exact .refl | dsimp -proj only | split | (with_reducible apply Moves.tel; · decide)))

theorem State.reloadSession_moves {s : State} {m : Nat} :
    Moves [.tel] s (State.reloadSession s m) := by
  unfold State.reloadSession
  all_goals (repeat' (first | with_reducible exact .refl | (with_reducible apply Moves.step State.setCountdown_moves; · decide) | dsimp -proj only | split))

theorem State.mirrorRequest_moves {s : State} {m : Nat} :
    Moves [.counters, .tel] s (State.mirrorRequest s m).1 := by
  unfold State.mirrorRequest
  all_goals (repeat' (first | with_reducible exact .refl | (with_reducible apply Moves.step State.count_moves; · decide) | (with_reducible apply Moves.step State.setCountdown_moves; · decide) | dsimp -proj only | split))

theorem State.mirrorRequest_moves_eq {s : State} {m : Nat} {sEnd : State} {yEnd} (he : State.mirrorRequest s m = (sEnd, yEnd)) : Moves [.counters, .tel] s sEnd := by
  have := @State.mirrorRequest_moves s m
  rw [he] at this
  exact this

theorem execTelRollWrite_moves {value : Word} {s : State} :
    Ends [.regs, .tel] s (execTelRollWrite value s) := by
  unfold execTelRollWrite
  all_goals (repeat' (first | with_reducible exact .refl | with_reducible apply Ends.next | (with_reducible apply Moves.step State.telRoll_moves; · decide) | dsimp -proj only | split))

theorem execMirrorSessionWrite_moves {sess : Sixtyfour} {n : Bool} {value : Word} {s : State} :
    Ends [.regs, .tel] s (execMirrorSessionWrite sess n value s) := by
  unfold execMirrorSessionWrite
  all_goals (repeat' (first | with_reducible exact .refl | with_reducible apply Ends.next | (with_reducible apply Moves.step State.setReg_moves; · decide) | (with_reducible apply Moves.step State.setFld_moves; · decide) | (with_reducible apply Moves.step State.reloadSession_moves; · decide) | dsimp -proj only | split))

end Sys2Proof.Machine
end

