-- ==== Sys2Proof/Laws/Moves/Enqueue.lean ====
section
/-! SUPPORT. What each operation of Machine/Enqueue.lean can touch, and that it keeps the stores canonical. -/

namespace Sys2Proof.Machine

theorem State.takeIndex_moves {s : State} {d : Nat} :
    Moves [.regs, .counters, .buf] s (State.takeIndex s d).1 := by
  unfold State.takeIndex
  all_goals (repeat' (first | with_reducible exact .refl | (with_reducible apply Moves.step State.incSat_moves; · decide) | (with_reducible apply Moves.step State.count_moves; · decide) | (with_reducible apply Moves.step State.setDesc_moves; · decide) | dsimp -proj only | split))

theorem State.takeIndex_moves_eq {s : State} {d : Nat} {sEnd : State} {yEnd} (he : State.takeIndex s d = (sEnd, yEnd)) : Moves [.regs, .counters, .buf] s sEnd := by
  have := @State.takeIndex_moves s d
  rw [he] at this
  exact this

theorem State.passCopies_moves {s : State} {d : Nat} {r : CopyReq} {ts : Word} {egress : Bool} {out : Option Nat} :
    Moves [.regs, .counters, .buf, .egr, .tel] s (State.passCopies s d r ts egress out).1 := by
  unfold State.passCopies
  all_goals (repeat' (first | with_reducible exact .refl | (with_reducible apply Moves.step State.count_moves; · decide) | (with_reducible apply Moves.step State.mirrorRequest_moves; · decide) | (with_reducible apply Moves.step (State.mirrorRequest_moves_eq (by assumption)); · decide) | (with_reducible apply Moves.step State.takeIndex_moves; · decide) | (with_reducible apply Moves.step (State.takeIndex_moves_eq (by assumption)); · decide) | dsimp -proj only | split | (with_reducible apply Moves.egr; · decide)))

theorem State.passCopies_moves_eq {s : State} {d : Nat} {r : CopyReq} {ts : Word} {egress : Bool} {out : Option Nat} {sEnd : State} {yEnd} (he : State.passCopies s d r ts egress out = (sEnd, yEnd)) : Moves [.regs, .counters, .buf, .egr, .tel] s sEnd := by
  have := @State.passCopies_moves s d r ts egress out
  rw [he] at this
  exact this

theorem State.countPlaced_moves {s : State} {d q : Nat} :
    Moves [.counters, .rx] s (State.countPlaced s d q) := by
  unfold State.countPlaced
  all_goals (repeat' (first | with_reducible exact .refl | (with_reducible apply Moves.step State.count_moves; · decide) | (with_reducible apply Moves.step State.setInfo_moves; · decide) | dsimp -proj only | split))

theorem State.placeEntry_moves {s : State} {q : Nat} {e : QEntry} :
    Moves [.counters, .rx, .egr] s (State.placeEntry s q e) := by
  unfold State.placeEntry
  all_goals (repeat' (first | with_reducible exact .refl | (with_reducible apply Moves.step State.setQueue_moves; · decide) | (with_reducible apply Moves.step State.countPlaced_moves; · decide) | dsimp -proj only | split | (with_reducible apply Moves.egr; · decide)))

theorem State.placeCopy_moves {s : State} {q : Nat} {e : QEntry} :
    Moves (.cmp :: reactParts) s (State.placeCopy s q e) := by
  unfold State.placeCopy
  all_goals (repeat' (first | with_reducible exact .refl | (with_reducible apply Moves.step State.count_moves; · decide) | (with_reducible apply Moves.step State.nameFault_moves; · decide) | (with_reducible apply Moves.step State.latchFault_moves; · decide) | (with_reducible apply Moves.step State.outcome_moves; · decide) | (with_reducible apply Moves.step State.lose_moves; · decide) | (with_reducible apply Moves.step State.release_moves; · decide) | (with_reducible apply Moves.step State.placeEntry_moves; · decide) | dsimp -proj only | split))

theorem State.mcEntries_moves {s : State} {d tag : Nat} {qs : List Nat} :
    Moves reactParts s (State.mcEntries s d tag qs).1 := by
  unfold State.mcEntries
  all_goals (repeat' (first | with_reducible exact .refl | (with_reducible apply Moves.step State.incSat_moves; · decide) | (with_reducible apply Moves.step State.count_moves; · decide) | (with_reducible apply Moves.step State.nameFault_moves; · decide) | (with_reducible apply Moves.step State.latchFault_moves; · decide) | (with_reducible apply Moves.step State.outcome_moves; · decide) | (with_reducible apply Moves.step State.takeIndex_moves; · decide) | (with_reducible apply Moves.step (State.takeIndex_moves_eq (by assumption)); · decide) | with_reducible apply Moves.fold | with_reducible apply Moves.fold₁ | with_reducible intro _ _ | dsimp -proj only | split))

theorem State.mcEntries_moves_eq {s : State} {d tag : Nat} {qs : List Nat} {sEnd : State} {yEnd} (he : State.mcEntries s d tag qs = (sEnd, yEnd)) : Moves reactParts s sEnd := by
  have := @State.mcEntries_moves s d tag qs
  rw [he] at this
  exact this

theorem State.placeMessage_moves {s : State} {p : Nat} {bytes : List Byte} :
    Moves [.counters, .egr] s (State.placeMessage s p bytes) := by
  unfold State.placeMessage
  all_goals (repeat' (first | with_reducible exact .refl | (with_reducible apply Moves.step State.count_moves; · decide) | (with_reducible apply Moves.step State.setQueue_moves; · decide) | dsimp -proj only | split))

theorem State.cmpSendFrame_moves {s : State} {dev : Nat} :
    Moves [.counters, .egr, .cmp] s (State.cmpSendFrame s dev) := by
  unfold State.cmpSendFrame
  all_goals (repeat' (first | with_reducible exact .refl | (with_reducible apply Moves.step State.placeMessage_moves; · decide) | dsimp -proj only | split | (with_reducible apply Moves.cmp; · decide)))

theorem State.cmpSend_moves {s : State} {dev type voq value : Nat} :
    Moves [.counters, .egr, .cmp] s (State.cmpSend s dev type voq value) := by
  unfold State.cmpSend
  all_goals (repeat' (first | with_reducible exact .refl | (with_reducible apply Moves.step State.cmpSendFrame_moves; · decide) | dsimp -proj only | split | (with_reducible apply Moves.cmp; · decide)))

theorem State.voqRelease_moves {s : State} {v n : Nat} :
    Moves (.cmp :: reactParts) s (State.voqRelease s v n) := by
  induction n generalizing s with
  | zero => exact .refl
  | succ n ih =>
    unfold State.voqRelease
    repeat' (first | with_reducible exact .refl | (with_reducible refine Moves.trans ?_ ih) | first | with_reducible exact .refl | (with_reducible apply Moves.step State.setVoq_moves; · decide) | (with_reducible apply Moves.step State.placeCopy_moves; · decide) | dsimp -proj only | split)

theorem State.voqRequest_moves {s : State} {v n : Nat} :
    Moves [.counters, .egr, .cmp] s (State.voqRequest s v n) := by
  induction n generalizing s with
  | zero => exact .refl
  | succ n ih =>
    unfold State.voqRequest
    repeat' (first | with_reducible exact .refl | (with_reducible refine Moves.trans ?_ ih) | first | with_reducible exact .refl | (with_reducible apply Moves.step State.setVoq_moves; · decide) | (with_reducible apply Moves.step State.cmpSend_moves; · decide) | dsimp -proj only | split)

theorem State.voqRun_moves {s : State} {v : Nat} :
    Moves (.cmp :: reactParts) s (State.voqRun s v) := by
  unfold State.voqRun
  all_goals (repeat' (first | with_reducible exact .refl | (with_reducible apply Moves.step State.voqRelease_moves; · decide) | (with_reducible apply Moves.step State.voqRequest_moves; · decide) | dsimp -proj only | split))

theorem State.voqJoin_moves {s : State} {v q : Nat} {e : QEntry} :
    Moves (.cmp :: reactParts) s (State.voqJoin s v q e) := by
  unfold State.voqJoin
  all_goals (repeat' (first | with_reducible exact .refl | (with_reducible apply Moves.step State.count_moves; · decide) | (with_reducible apply Moves.step State.setVoq_moves; · decide) | (with_reducible apply Moves.step State.outcome_moves; · decide) | (with_reducible apply Moves.step State.release_moves; · decide) | (with_reducible apply Moves.step State.voqRun_moves; · decide) | with_reducible apply Moves.fold | with_reducible apply Moves.fold₁ | with_reducible intro _ _ | dsimp -proj only | split))

theorem State.voqLength_moves {s : State} {d : Nat} :
    Moves (.cmp :: reactParts) s (State.voqLength s d) := by
  unfold State.voqLength
  all_goals (repeat' (first | with_reducible exact .refl | (with_reducible apply Moves.step State.setVoq_moves; · decide) | (with_reducible apply Moves.step State.voqRun_moves; · decide) | with_reducible apply Moves.fold | with_reducible apply Moves.fold₁ | with_reducible intro _ _ | dsimp -proj only | split))

theorem State.advanceRelease_moves {s : State} {pair : Nat} :
    Moves [.ord] s (State.advanceRelease s pair) := by
  unfold State.advanceRelease
  all_goals (repeat' (first | with_reducible exact .refl | (with_reducible apply Moves.step State.setOrder_moves; · decide) | dsimp -proj only | split))

theorem State.markReleased_moves {s : State} {pair : Nat} {r : Result} :
    Moves [.buf, .rx, .ord] s (State.markReleased s pair r) := by
  unfold State.markReleased
  all_goals (repeat' (first | with_reducible exact .refl | (with_reducible apply Moves.step State.setInfo_moves; · decide) | (with_reducible apply Moves.step State.setDesc_moves; · decide) | (with_reducible apply Moves.step State.setLedger_moves; · decide) | (with_reducible apply Moves.step State.advanceRelease_moves; · decide) | dsimp -proj only | split))

theorem State.oneEntry_moves {s : State} {d q : Nat} :
    Moves [.regs, .counters, .buf] s (State.oneEntry s d q).1 := by
  unfold State.oneEntry
  all_goals (repeat' (first | with_reducible exact .refl | (with_reducible apply Moves.step State.takeIndex_moves; · decide) | (with_reducible apply Moves.step (State.takeIndex_moves_eq (by assumption)); · decide) | dsimp -proj only | split))

theorem State.oneEntry_moves_eq {s : State} {d q : Nat} {sEnd : State} {yEnd} (he : State.oneEntry s d q = (sEnd, yEnd)) : Moves [.regs, .counters, .buf] s sEnd := by
  have := @State.oneEntry_moves s d q
  rw [he] at this
  exact this

theorem State.makeEntries_moves {s : State} {r : Result} :
    Moves reactParts s (State.makeEntries s r).1 := by
  unfold State.makeEntries
  all_goals (repeat' (first | with_reducible exact .refl | (with_reducible apply Moves.step State.mcEntries_moves; · decide) | (with_reducible apply Moves.step (State.mcEntries_moves_eq (by assumption)); · decide) | (with_reducible apply Moves.step State.oneEntry_moves; · decide) | (with_reducible apply Moves.step (State.oneEntry_moves_eq (by assumption)); · decide) | dsimp -proj only | split))

theorem State.makeEntries_moves_eq {s : State} {r : Result} {sEnd : State} {yEnd} (he : State.makeEntries s r = (sEnd, yEnd)) : Moves reactParts s sEnd := by
  have := @State.makeEntries_moves s r
  rw [he] at this
  exact this

theorem State.makeCopies_moves {s : State} {r : Result} :
    Moves [.regs, .counters, .buf, .egr, .tel] s (State.makeCopies s r).1 := by
  unfold State.makeCopies
  all_goals (repeat' (first | with_reducible exact .refl | (with_reducible apply Moves.step State.passCopies_moves; · decide) | (with_reducible apply Moves.step (State.passCopies_moves_eq (by assumption)); · decide) | with_reducible apply Moves.fold | with_reducible apply Moves.fold₁ | with_reducible intro _ _ | dsimp -proj only | split))

theorem State.makeCopies_moves_eq {s : State} {r : Result} {sEnd : State} {yEnd} (he : State.makeCopies s r = (sEnd, yEnd)) : Moves [.regs, .counters, .buf, .egr, .tel] s sEnd := by
  have := @State.makeCopies_moves s r
  rw [he] at this
  exact this

theorem State.enqueueAll_moves {s : State} {r : Result} {entries : List (Nat × QEntry)} :
    Moves (.cmp :: reactParts) s (State.enqueueAll s r entries) := by
  unfold State.enqueueAll
  all_goals (repeat' (first | with_reducible exact .refl | (with_reducible apply Moves.step State.placeCopy_moves; · decide) | (with_reducible apply Moves.step State.voqJoin_moves; · decide) | with_reducible apply Moves.fold | with_reducible apply Moves.fold₁ | with_reducible intro _ _ | dsimp -proj only | split))

theorem State.handOver_moves {s : State} {r : Result} {arrival : Holder} {entries : List (Nat × QEntry)} {extra : List Holder} :
    Moves (.cmp :: reactParts) s (State.handOver s r arrival entries extra) := by
  unfold State.handOver
  all_goals (repeat' (first | with_reducible exact .refl | (with_reducible apply Moves.step State.lose_moves; · decide) | (with_reducible apply Moves.step State.holderOp_moves; · decide) | (with_reducible apply Moves.step (State.holderOp_moves_eq (by assumption)); · decide) | (with_reducible apply Moves.step State.enqueueAll_moves; · decide) | with_reducible apply Moves.fold | with_reducible apply Moves.fold₁ | with_reducible intro _ _ | dsimp -proj only | split))

theorem State.countResultDrop_moves {s : State} {pair : Nat} {r : Result} {entries : List (Nat × QEntry)} {extra : List Holder} :
    Moves [.counters] s (State.countResultDrop s pair r entries extra) := by
  unfold State.countResultDrop
  all_goals (repeat' (first | with_reducible exact .refl | (with_reducible apply Moves.step State.count_moves; · decide) | (with_reducible apply Moves.step State.outcome_moves; · decide) | dsimp -proj only | split))

theorem State.releaseResult_moves {s : State} {pair : Nat} {r : Result} :
    Moves (.tel :: .cmp :: reactParts) s (State.releaseResult s pair r) := by
  unfold State.releaseResult
  all_goals (repeat' (first | with_reducible exact .refl | (with_reducible apply Moves.step State.markReleased_moves; · decide) | (with_reducible apply Moves.step State.makeEntries_moves; · decide) | (with_reducible apply Moves.step (State.makeEntries_moves_eq (by assumption)); · decide) | (with_reducible apply Moves.step State.makeCopies_moves; · decide) | (with_reducible apply Moves.step (State.makeCopies_moves_eq (by assumption)); · decide) | (with_reducible apply Moves.step State.handOver_moves; · decide) | (with_reducible apply Moves.step State.countResultDrop_moves; · decide) | dsimp -proj only | split))

theorem State.resultRelease_moves {s : State} {pair : Nat} :
    Moves (.tel :: .cmp :: reactParts) s (State.resultRelease s pair) := by
  unfold State.resultRelease
  all_goals (repeat' (first | with_reducible exact .refl | (with_reducible apply Moves.step State.incSat_moves; · decide) | (with_reducible apply Moves.step State.count_moves; · decide) | (with_reducible apply Moves.step State.setOrder_moves; · decide) | (with_reducible apply Moves.step State.setReorderUse_moves; · decide) | (with_reducible apply Moves.step State.advanceRelease_moves; · decide) | (with_reducible apply Moves.step State.releaseResult_moves; · decide) | dsimp -proj only | split))

theorem State.releaseRing_moves {s : State} {pair : Nat} :
    Moves (.tel :: .cmp :: reactParts) s (State.releaseRing s pair) := by
  unfold State.releaseRing
  all_goals (repeat' (first | with_reducible exact .refl | (with_reducible apply Moves.step State.resultRelease_moves; · decide) | with_reducible apply Moves.fold | with_reducible apply Moves.fold₁ | with_reducible intro _ _ | dsimp -proj only | split))

theorem State.releaseHost_moves {s : State} :
    Moves (.tel :: .cmp :: reactParts) s (State.releaseHost s) := by
  unfold State.releaseHost
  all_goals (repeat' (first | with_reducible exact .refl | (with_reducible apply Moves.step State.releaseRing_moves; · decide) | with_reducible apply Moves.fold | with_reducible apply Moves.fold₁ | with_reducible intro _ _ | dsimp -proj only | split))

theorem execResultRelease_moves {port : Port} {tc : TrafficClass} {s : State} :
    Ends (.tel :: .cmp :: reactParts) s (execResultRelease port tc s) := by
  unfold execResultRelease
  all_goals (repeat' (first | with_reducible exact .refl | with_reducible apply Ends.next | (with_reducible apply Moves.step State.resultRelease_moves; · decide) | dsimp -proj only | split))

end Sys2Proof.Machine
end

