-- ==== Sys2Proof/Laws/Moves/Discard.lean ====
section
/-! SUPPORT. What each operation of Machine/Discard.lean can touch, and that it keeps the stores canonical. -/

namespace Sys2Proof.Machine

theorem State.voidSeq_moves {s : State} {d : Nat} :
    Moves (.tel :: .cmp :: reactParts) s (State.voidSeq s d) := by
  unfold State.voidSeq
  all_goals (repeat' (first | with_reducible exact .refl | (with_reducible apply Moves.step State.count_moves; · decide) | (with_reducible apply Moves.step State.setOrder_moves; · decide) | (with_reducible apply Moves.step State.setReorderUse_moves; · decide) | (with_reducible apply Moves.step State.releaseRing_moves; · decide) | dsimp -proj only | split))

theorem State.forgetIngress_moves {s : State} {d : Nat} :
    Moves [.counters, .emitted, .rx, .pipes] s (State.forgetIngress s d) := by
  unfold State.forgetIngress
  all_goals (repeat' (first | with_reducible exact .refl | (with_reducible apply Moves.step State.setReplays_moves; · decide) | (with_reducible apply Moves.step State.setArrivals_moves; · decide) | (with_reducible apply Moves.step State.setHostQueue_moves; · decide) | (with_reducible apply Moves.step State.setRecircQueue_moves; · decide) | (with_reducible apply Moves.step State.dropWhere_moves; · decide) | (with_reducible apply Moves.step State.arrivalXon_moves; · decide) | dsimp -proj only | split))

theorem State.dropPass_moves {s : State} {q : Nat} {e : QEntry} :
    Moves [.counters, .pipes] s (State.dropPass s q e) := by
  unfold State.dropPass
  all_goals (repeat' (first | with_reducible exact .refl | (with_reducible apply Moves.step State.setReplays_moves; · decide) | (with_reducible apply Moves.step State.setSelected_moves; · decide) | (with_reducible apply Moves.step State.dropWhere_moves; · decide) | dsimp -proj only | split))

theorem State.dropQueueCopy_moves {s : State} {q d idx : Nat} :
    Moves [.counters, .emitted, .pipes, .egr, .via] s (State.dropQueueCopy s q d idx) := by
  unfold State.dropQueueCopy
  all_goals (repeat' (first | with_reducible exact .refl | (with_reducible apply Moves.step State.setReplays_moves; · decide) | (with_reducible apply Moves.step State.setTx_moves; · decide) | (with_reducible apply Moves.step State.setQueue_moves; · decide) | (with_reducible apply Moves.step State.setAhead_moves; · decide) | (with_reducible apply Moves.step State.setSelected_moves; · decide) | (with_reducible apply Moves.step State.stomp_moves; · decide) | (with_reducible apply Moves.step State.dropWhere_moves; · decide) | (with_reducible apply Moves.step State.freeEntry_moves; · decide) | (with_reducible apply Moves.step State.resetEmpty_moves; · decide) | with_reducible apply Moves.fold | with_reducible apply Moves.fold₁ | with_reducible intro _ _ | dsimp -proj only | split))

theorem State.dropRetry_moves {s : State} {p d idx : Nat} :
    Moves [.counters, .emitted, .pipes, .egr, .via] s (State.dropRetry s p d idx) := by
  unfold State.dropRetry
  all_goals (repeat' (first | with_reducible exact .refl | (with_reducible apply Moves.step State.setTx_moves; · decide) | (with_reducible apply Moves.step State.setVia_moves; · decide) | (with_reducible apply Moves.step State.stomp_moves; · decide) | (with_reducible apply Moves.step State.dropPass_moves; · decide) | dsimp -proj only | split))

theorem State.dropRerun_moves {s : State} {p : Nat} :
    Moves [.counters, .pipes, .egr] s (State.dropRerun s p) := by
  unfold State.dropRerun
  all_goals (repeat' (first | with_reducible exact .refl | (with_reducible apply Moves.step State.setTx_moves; · decide) | (with_reducible apply Moves.step State.dropPass_moves; · decide) | dsimp -proj only | split))

theorem State.dropCopy_moves {s : State} {d : Nat} {h : Holder} {kind : Nat} :
    Moves (.tel :: .cmp :: reactParts) s (State.dropCopy s d h kind) := by
  unfold State.dropCopy
  all_goals (repeat' (first | with_reducible exact .refl | (with_reducible apply Moves.step State.lose_moves; · decide) | (with_reducible apply Moves.step State.discardCopies_moves; · decide) | (with_reducible apply Moves.step State.voidSeq_moves; · decide) | (with_reducible apply Moves.step State.forgetIngress_moves; · decide) | (with_reducible apply Moves.step State.dropQueueCopy_moves; · decide) | (with_reducible apply Moves.step State.dropRetry_moves; · decide) | dsimp -proj only | split | (with_reducible apply Moves.freeCount; · decide)))

theorem State.guardFault_moves {s : State} {d c : Nat} {h : Holder} {uncorrectable : Bool} :
    Moves (.tel :: .cmp :: reactParts) s (State.guardFault s d c h uncorrectable) := by
  unfold State.guardFault
  all_goals (repeat' (first | with_reducible exact .refl | (with_reducible apply Moves.step State.bufFault_moves; · decide) | (with_reducible apply Moves.step State.quarantine_moves; · decide) | (with_reducible apply Moves.step State.release_moves; · decide) | (with_reducible apply Moves.step State.dropCopy_moves; · decide) | dsimp -proj only | split | (with_reducible apply Moves.buf; (· decide); (· with_reducible rfl))))

theorem State.checkGuards_moves {s : State} {d dest : Nat} {h : Holder} :
    Moves (.tel :: .cmp :: reactParts) s (State.checkGuards s d dest h).1 := by
  unfold State.checkGuards
  all_goals (repeat' (first | with_reducible exact .refl | (with_reducible apply Moves.step State.guardFault_moves; · decide) | dsimp -proj only | split))

theorem State.checkGuards_moves_eq {s : State} {d dest : Nat} {h : Holder} {sEnd : State} {yEnd} (he : State.checkGuards s d dest h = (sEnd, yEnd)) : Moves (.tel :: .cmp :: reactParts) s sEnd := by
  have := @State.checkGuards_moves s d dest h
  rw [he] at this
  exact this

end Sys2Proof.Machine
end

