-- ==== Sys2Proof/Laws/Moves/Stores.lean ====
section
/-! SUPPORT. What each operation of Machine/Stores.lean can touch, and that it keeps the stores canonical. -/

namespace Sys2Proof.Machine

theorem State.setStoreAll_moves {s : State} {key v : Nat} :
    Moves [.progs] s (State.setStoreAll s key v) := by
  unfold State.setStoreAll
  all_goals (repeat' (first | with_reducible exact .refl | dsimp -proj only | split | (with_reducible apply Moves.progs; · decide)))

theorem State.setStoreOne_moves {s : State} {copy key v : Nat} :
    Moves [.progs] s (State.setStoreOne s copy key v) := by
  unfold State.setStoreOne
  all_goals (repeat' (first | with_reducible exact .refl | dsimp -proj only | split | (with_reducible apply Moves.progs; · decide)))

end Sys2Proof.Machine
end

