-- ==== Sys2Proof/Laws/Moves/Tables.lean ====
section
/-! SUPPORT. What each operation of Machine/Tables.lean can touch, and that it keeps the stores canonical. -/

namespace Sys2Proof.Machine

theorem State.setSram_moves {s : State} {span unit row v : Nat} :
    Moves [.tables] s (State.setSram s span unit row v) := by
  unfold State.setSram
  all_goals (repeat' (first | with_reducible exact .refl | dsimp -proj only | split | (with_reducible apply Moves.tables; · decide)))

theorem State.setTcam_moves {s : State} {span unit row v m : Nat} :
    Moves [.tables] s (State.setTcam s span unit row v m) := by
  unfold State.setTcam
  all_goals (repeat' (first | with_reducible exact .refl | dsimp -proj only | split | (with_reducible apply Moves.tables; · decide)))

theorem State.setRule_moves {s : State} {span r : Nat} {x : Rule} :
    Moves [.tables] s (State.setRule s span r x) := by
  unfold State.setRule
  all_goals (repeat' (first | with_reducible exact .refl | dsimp -proj only | split | (with_reducible apply Moves.tables; · decide)))

theorem State.markHit_moves {s : State} {span : Nat} {g : Geometry} {unit row bit : Nat} {l : Lookup} :
    Moves [.tables] s (State.markHit s span g unit row bit l).1 := by
  unfold State.markHit
  all_goals (repeat' (first | with_reducible exact .refl | (with_reducible apply Moves.step State.setSram_moves; · decide) | dsimp -proj only | split))

theorem State.markHit_moves_eq {s : State} {span : Nat} {g : Geometry} {unit row bit : Nat} {l : Lookup} {sEnd : State} {yEnd} (he : State.markHit s span g unit row bit l = (sEnd, yEnd)) : Moves [.tables] s sEnd := by
  have := @State.markHit_moves s span g unit row bit l
  rw [he] at this
  exact this

theorem State.clearHits_moves {s : State} {l : List (Nat × Nat)} :
    Moves [.tables] s (State.clearHits s l) := by
  unfold State.clearHits
  all_goals (repeat' (first | with_reducible exact .refl | with_reducible apply Moves.fold | with_reducible apply Moves.fold₁ | with_reducible intro _ _ | dsimp -proj only | split | (with_reducible apply Moves.tables; · decide)))

theorem State.lookupExact_moves {s : State} {span : Nat} {g : Geometry} {hsel : Nat} {key : List Byte} {genB : Bool} :
    Moves [.tables] s (State.lookupExact s span g hsel key genB).1 := by
  unfold State.lookupExact
  all_goals (repeat' (first | with_reducible exact .refl | (with_reducible apply Moves.step State.markHit_moves; · decide) | (with_reducible apply Moves.step (State.markHit_moves_eq (by assumption)); · decide) | dsimp -proj only | split))

theorem State.lookupExact_moves_eq {s : State} {span : Nat} {g : Geometry} {hsel : Nat} {key : List Byte} {genB : Bool} {sEnd : State} {yEnd} (he : State.lookupExact s span g hsel key genB = (sEnd, yEnd)) : Moves [.tables] s sEnd := by
  have := @State.lookupExact_moves s span g hsel key genB
  rw [he] at this
  exact this

theorem State.lookupLpm_moves {s : State} {span : Nat} {g : Geometry} {key : List Byte} {genB : Bool} :
    Moves (.tables :: reactParts) s (State.lookupLpm s span g key genB).1 := by
  unfold State.lookupLpm
  all_goals (repeat' (first | with_reducible exact .refl | (with_reducible apply Moves.step State.latchFault_moves; · decide) | (with_reducible apply Moves.step State.markHit_moves; · decide) | (with_reducible apply Moves.step (State.markHit_moves_eq (by assumption)); · decide) | with_reducible apply Moves.fold | with_reducible apply Moves.fold₁ | with_reducible intro _ _ | dsimp -proj only | split))

theorem State.lookupLpm_moves_eq {s : State} {span : Nat} {g : Geometry} {key : List Byte} {genB : Bool} {sEnd : State} {yEnd} (he : State.lookupLpm s span g key genB = (sEnd, yEnd)) : Moves (.tables :: reactParts) s sEnd := by
  have := @State.lookupLpm_moves s span g key genB
  rw [he] at this
  exact this

theorem State.lookupTernary_moves {s : State} {span : Nat} {g : Geometry} {key : List Byte} {genB : Bool} :
    Moves [.tables] s (State.lookupTernary s span g key genB).1 := by
  unfold State.lookupTernary
  all_goals (repeat' (first | with_reducible exact .refl | (with_reducible apply Moves.step State.markHit_moves; · decide) | (with_reducible apply Moves.step (State.markHit_moves_eq (by assumption)); · decide) | dsimp -proj only | split))

theorem State.lookupTernary_moves_eq {s : State} {span : Nat} {g : Geometry} {key : List Byte} {genB : Bool} {sEnd : State} {yEnd} (he : State.lookupTernary s span g key genB = (sEnd, yEnd)) : Moves [.tables] s sEnd := by
  have := @State.lookupTernary_moves s span g key genB
  rw [he] at this
  exact this

theorem State.setPacked_moves {s : State} {span : Nat} {g : Geometry} {p e v : Nat} :
    Moves [.tables] s (State.setPacked s span g p e v) := by
  unfold State.setPacked
  all_goals (repeat' (first | with_reducible exact .refl | (with_reducible apply Moves.step State.setSram_moves; · decide) | dsimp -proj only | split))

theorem State.lookupCounter_moves {s : State} {span : Nat} {g : Geometry} {i len : Nat} :
    Moves [.tables] s (State.lookupCounter s span g i len).1 := by
  unfold State.lookupCounter
  all_goals (repeat' (first | with_reducible exact .refl | (with_reducible apply Moves.step State.setPacked_moves; · decide) | dsimp -proj only | split))

theorem State.lookupCounter_moves_eq {s : State} {span : Nat} {g : Geometry} {i len : Nat} {sEnd : State} {yEnd} (he : State.lookupCounter s span g i len = (sEnd, yEnd)) : Moves [.tables] s sEnd := by
  have := @State.lookupCounter_moves s span g i len
  rw [he] at this
  exact this

theorem State.lookupMeter_moves {s : State} {span : Nat} {g : Geometry} {i len colour : Nat} :
    Moves [.tables] s (State.lookupMeter s span g i len colour).1 := by
  unfold State.lookupMeter
  all_goals (repeat' (first | with_reducible exact .refl | (with_reducible apply Moves.step State.setSram_moves; · decide) | dsimp -proj only | split))

theorem State.lookupMeter_moves_eq {s : State} {span : Nat} {g : Geometry} {i len colour : Nat} {sEnd : State} {yEnd} (he : State.lookupMeter s span g i len colour = (sEnd, yEnd)) : Moves [.tables] s sEnd := by
  have := @State.lookupMeter_moves s span g i len colour
  rw [he] at this
  exact this

theorem State.lookup_moves {s : State} {span t kind hsel : Nat} {sel : List Byte} {genB : Bool} {len colour : Nat} :
    Moves (.tables :: reactParts) s (State.lookup s span t kind hsel sel genB len colour).1 := by
  unfold State.lookup
  all_goals (repeat' (first | with_reducible exact .refl | (with_reducible apply Moves.step State.lookupExact_moves; · decide) | (with_reducible apply Moves.step (State.lookupExact_moves_eq (by assumption)); · decide) | (with_reducible apply Moves.step State.lookupLpm_moves; · decide) | (with_reducible apply Moves.step (State.lookupLpm_moves_eq (by assumption)); · decide) | (with_reducible apply Moves.step State.lookupTernary_moves; · decide) | (with_reducible apply Moves.step (State.lookupTernary_moves_eq (by assumption)); · decide) | (with_reducible apply Moves.step State.lookupCounter_moves; · decide) | (with_reducible apply Moves.step (State.lookupCounter_moves_eq (by assumption)); · decide) | (with_reducible apply Moves.step State.lookupMeter_moves; · decide) | (with_reducible apply Moves.step (State.lookupMeter_moves_eq (by assumption)); · decide) | dsimp -proj only | split))

theorem State.lookup_moves_eq {s : State} {span t kind hsel : Nat} {sel : List Byte} {genB : Bool} {len colour : Nat} {sEnd : State} {yEnd} (he : State.lookup s span t kind hsel sel genB len colour = (sEnd, yEnd)) : Moves (.tables :: reactParts) s sEnd := by
  have := @State.lookup_moves s span t kind hsel sel genB len colour
  rw [he] at this
  exact this

end Sys2Proof.Machine
end

