-- ==== Sys2Proof/Laws/Moves/Pipeline.lean ====
section
/-! SUPPORT. What each operation of Machine/Pipeline.lean can touch, and that it keeps the stores canonical. -/

namespace Sys2Proof.Machine

theorem State.takeSlot_moves {s : State} {no : Nat} :
    Moves [.pipes] s (State.takeSlot s no) := by
  unfold State.takeSlot
  all_goals (repeat' (first | with_reducible exact .refl | (with_reducible apply Moves.step State.setPipe_moves; · decide) | dsimp -proj only | split))

theorem State.startPacket_moves {s : State} {k : Packet} :
    Moves [.pipes] s (State.startPacket s k) := by
  unfold State.startPacket
  all_goals (repeat' (first | with_reducible exact .refl | (with_reducible apply Moves.step State.setPacket_moves; · decide) | (with_reducible apply Moves.step State.takeSlot_moves; · decide) | dsimp -proj only | split | (with_reducible apply Moves.pipes; · decide)))

theorem State.drawLength_moves {s : State} {d : Nat} :
    Moves [.freeCount] s (State.drawLength s d) := by
  unfold State.drawLength
  all_goals (repeat' (first | with_reducible exact .refl | dsimp -proj only | split | (with_reducible apply Moves.freeCount; · decide)))

theorem State.startIngress_moves {s : State} {span g pipe d : Nat} {origin : Origin} {failed : Option Nat} :
    Moves [.freeCount, .rx, .pipes] s (State.startIngress s span g pipe d origin failed) := by
  unfold State.startIngress
  all_goals (repeat' (first | with_reducible exact .refl | (with_reducible apply Moves.step State.setInfo_moves; · decide) | (with_reducible apply Moves.step State.startPacket_moves; · decide) | (with_reducible apply Moves.step State.drawLength_moves; · decide) | dsimp -proj only | split))

theorem State.startEgress_moves {s : State} {span g pipe : Nat} {c : Nat × QEntry} {origin : Origin} {failed : Option Nat} :
    Moves [.freeCount, .pipes] s (State.startEgress s span g pipe c origin failed) := by
  unfold State.startEgress
  all_goals (repeat' (first | with_reducible exact .refl | (with_reducible apply Moves.step State.startPacket_moves; · decide) | (with_reducible apply Moves.step State.drawLength_moves; · decide) | with_reducible apply Moves.fold | with_reducible apply Moves.fold₁ | with_reducible intro _ _ | dsimp -proj only | split))

theorem State.startVector_moves {s : State} {span g pipe : Nat} {pass : Pass} {v : Bool × Nat} :
    Moves [.pipes] s (State.startVector s span g pipe pass v) := by
  unfold State.startVector
  all_goals (repeat' (first | with_reducible exact .refl | (with_reducible apply Moves.step State.startPacket_moves; · decide) | with_reducible apply Moves.fold | with_reducible apply Moves.fold₁ | with_reducible intro _ _ | dsimp -proj only | split))

theorem State.takeArrival_moves {s : State} {span g pipe d : Nat} :
    Moves [.counters, .emitted, .freeCount, .rx, .pipes] s (State.takeArrival s span g pipe d) := by
  unfold State.takeArrival
  all_goals (repeat' (first | with_reducible exact .refl | (with_reducible apply Moves.step State.setArrivals_moves; · decide) | (with_reducible apply Moves.step State.arrivalXon_moves; · decide) | (with_reducible apply Moves.step State.startIngress_moves; · decide) | dsimp -proj only | split | (with_reducible apply Moves.pipes; · decide)))

theorem State.takeHost_moves {s : State} {span g pipe d : Nat} :
    Moves [.freeCount, .rx, .pipes] s (State.takeHost s span g pipe d) := by
  unfold State.takeHost
  all_goals (repeat' (first | with_reducible exact .refl | (with_reducible apply Moves.step State.setHostQueue_moves; · decide) | (with_reducible apply Moves.step State.startIngress_moves; · decide) | dsimp -proj only | split | (with_reducible apply Moves.pipes; · decide)))

theorem State.takeRecirc_moves {s : State} {g pipe i : Nat} :
    Moves [.counters, .pipes] s (State.takeRecirc s g pipe i) := by
  unfold State.takeRecirc
  all_goals (repeat' (first | with_reducible exact .refl | (with_reducible apply Moves.step State.count_moves; · decide) | (with_reducible apply Moves.step State.setPacket_moves; · decide) | (with_reducible apply Moves.step State.setRecircQueue_moves; · decide) | (with_reducible apply Moves.step State.startPacket_moves; · decide) | dsimp -proj only | split))

theorem State.startReplay_moves {s : State} {span g pipe : Nat} {r : Replay} :
    Moves (.tel :: .cmp :: reactParts) s (State.startReplay s span g pipe r) := by
  unfold State.startReplay
  all_goals (repeat' (first | with_reducible exact .refl | (with_reducible apply Moves.step State.count_moves; · decide) | (with_reducible apply Moves.step State.checkGuards_moves; · decide) | (with_reducible apply Moves.step (State.checkGuards_moves_eq (by assumption)); · decide) | (with_reducible apply Moves.step State.startIngress_moves; · decide) | dsimp -proj only | split))

theorem State.grantIngress_moves {s : State} {span g pipe : Nat} :
    Moves (.tel :: .cmp :: reactParts) s (State.grantIngress s span g pipe) := by
  unfold State.grantIngress
  all_goals (repeat' (first | with_reducible exact .refl | (with_reducible apply Moves.step State.setPipe_moves; · decide) | (with_reducible apply Moves.step State.setReplays_moves; · decide) | (with_reducible apply Moves.step State.startVector_moves; · decide) | (with_reducible apply Moves.step State.takeArrival_moves; · decide) | (with_reducible apply Moves.step State.takeHost_moves; · decide) | (with_reducible apply Moves.step State.takeRecirc_moves; · decide) | (with_reducible apply Moves.step State.startReplay_moves; · decide) | dsimp -proj only | split))

theorem State.readEgress_moves {s : State} {span g pipe : Nat} {c : Nat × QEntry} {origin : Origin} {failed : Option Nat} :
    Moves (.tel :: .cmp :: reactParts) s (State.readEgress s span g pipe c origin failed) := by
  unfold State.readEgress
  all_goals (repeat' (first | with_reducible exact .refl | (with_reducible apply Moves.step State.checkGuards_moves; · decide) | (with_reducible apply Moves.step (State.checkGuards_moves_eq (by assumption)); · decide) | (with_reducible apply Moves.step State.startEgress_moves; · decide) | dsimp -proj only | split))

theorem State.grantEgress_moves {s : State} {span g pipe : Nat} :
    Moves (.tel :: .cmp :: reactParts) s (State.grantEgress s span g pipe) := by
  unfold State.grantEgress
  all_goals (repeat' (first | with_reducible exact .refl | (with_reducible apply Moves.step State.count_moves; · decide) | (with_reducible apply Moves.step State.setPipe_moves; · decide) | (with_reducible apply Moves.step State.setReplays_moves; · decide) | (with_reducible apply Moves.step State.setSelected_moves; · decide) | (with_reducible apply Moves.step State.startVector_moves; · decide) | (with_reducible apply Moves.step State.readEgress_moves; · decide) | dsimp -proj only | split))

theorem execPipelineSlotGrant_moves {span : Span} {pass : Pass} {pipe : PipeNo} {s : State} :
    Ends (.tel :: .cmp :: reactParts) s (execPipelineSlotGrant span pass pipe s) := by
  unfold execPipelineSlotGrant
  all_goals (repeat' (first | with_reducible exact .refl | with_reducible apply Ends.next | (with_reducible apply Moves.step State.grantIngress_moves; · decide) | (with_reducible apply Moves.step State.grantEgress_moves; · decide) | dsimp -proj only | split))

theorem State.takeRecircControl_moves {s : State} {k : Packet} :
    Moves reactParts s (State.takeRecircControl s k).1 := by
  unfold State.takeRecircControl
  all_goals (repeat' (first | with_reducible exact .refl | (with_reducible apply Moves.step State.latchFault_moves; · decide) | dsimp -proj only | split))

theorem State.takeRecircControl_moves_eq {s : State} {k : Packet} {sEnd : State} {yEnd} (he : State.takeRecircControl s k = (sEnd, yEnd)) : Moves reactParts s sEnd := by
  have := @State.takeRecircControl_moves s k
  rw [he] at this
  exact this

theorem State.wordLookup_moves {s : State} {k : Packet} {idx : Nat} :
    Moves (.tables :: reactParts) s (State.wordLookup s k idx).1 := by
  unfold State.wordLookup
  all_goals (repeat' (first | with_reducible exact .refl | (with_reducible apply Moves.step State.lookup_moves; · decide) | (with_reducible apply Moves.step (State.lookup_moves_eq (by assumption)); · decide) | dsimp -proj only | split))

theorem State.wordLookup_moves_eq {s : State} {k : Packet} {idx : Nat} {sEnd : State} {yEnd} (he : State.wordLookup s k idx = (sEnd, yEnd)) : Moves (.tables :: reactParts) s sEnd := by
  have := @State.wordLookup_moves s k idx
  rw [he] at this
  exact this

theorem State.runWord_moves {s : State} {k : Packet} {idx : Nat} :
    Moves (.tables :: reactParts) s (State.runWord s k idx).1 := by
  unfold State.runWord
  all_goals (repeat' (first | with_reducible exact .refl | (with_reducible apply Moves.step State.takeRecircControl_moves; · decide) | (with_reducible apply Moves.step (State.takeRecircControl_moves_eq (by assumption)); · decide) | (with_reducible apply Moves.step State.wordLookup_moves; · decide) | (with_reducible apply Moves.step (State.wordLookup_moves_eq (by assumption)); · decide) | dsimp -proj only | split))

theorem State.runWord_moves_eq {s : State} {k : Packet} {idx : Nat} {sEnd : State} {yEnd} (he : State.runWord s k idx = (sEnd, yEnd)) : Moves (.tables :: reactParts) s sEnd := by
  have := @State.runWord_moves s k idx
  rw [he] at this
  exact this

theorem State.runStage_moves {s : State} {k : Packet} :
    Moves (.tables :: reactParts) s (State.runStage s k).1 := by
  unfold State.runStage
  all_goals (repeat' (first | with_reducible exact .refl | (with_reducible apply Moves.step State.latchFault_moves; · decide) | (with_reducible apply Moves.step State.runWord_moves; · decide) | (with_reducible apply Moves.step (State.runWord_moves_eq (by assumption)); · decide) | dsimp -proj only | split))

theorem State.runStage_moves_eq {s : State} {k : Packet} {sEnd : State} {yEnd} (he : State.runStage s k = (sEnd, yEnd)) : Moves (.tables :: reactParts) s sEnd := by
  have := @State.runStage_moves s k
  rw [he] at this
  exact this

theorem State.queueReplay_moves {s : State} {k : Packet} :
    Moves [.pipes] s (State.queueReplay s k) := by
  unfold State.queueReplay
  all_goals (repeat' (first | with_reducible exact .refl | (with_reducible apply Moves.step State.setReplays_moves; · decide) | dsimp -proj only | split))

theorem State.failedLookup_moves {s : State} {k : Packet} :
    Moves (.tables :: reactParts) s (State.failedLookup s k) := by
  unfold State.failedLookup
  all_goals (repeat' (first | with_reducible exact .refl | (with_reducible apply Moves.step State.clearHits_moves; · decide) | (with_reducible apply Moves.step State.runStage_moves; · decide) | (with_reducible apply Moves.step (State.runStage_moves_eq (by assumption)); · decide) | dsimp -proj only | split | (with_reducible apply Moves.freeCount; · decide) | (with_reducible apply Moves.tables; · decide) | (with_reducible apply Moves.upd; with_reducible rfl; (all_goals first | exact .inl (by with_reducible rfl) | exact .inr (by decide) | exact .inr ⟨by decide, by first | exact fun h => h | exact Tbl.wf_put _ _ _ _ | exact fun h => Tbl.wf_put _ _ _ _ (Tbl.wf_put _ _ _ _ h) | exact Tbl.wf_filter _ _ _ | exact fun _ => rfl | exact writeCellBytes_wf | exact writeBytes_wf | exact programBytes_wf⟩ | skip))))

theorem State.vectorFailed_moves {s : State} {k : Packet} :
    Moves reactParts s (State.vectorFailed s k) := by
  unfold State.vectorFailed
  all_goals (repeat' (first | with_reducible exact .refl | (with_reducible apply Moves.step State.count_moves; · decide) | (with_reducible apply Moves.step State.setPipe_moves; · decide) | (with_reducible apply Moves.step State.latchFault_moves; · decide) | dsimp -proj only | split))

theorem State.checkFailure_moves {s : State} {i : Nat} {k : Packet} :
    Moves (.tables :: reactParts) s (State.checkFailure s i k) := by
  unfold State.checkFailure
  all_goals (repeat' (first | with_reducible exact .refl | (with_reducible apply Moves.step State.count_moves; · decide) | (with_reducible apply Moves.step State.setPacket_moves; · decide) | (with_reducible apply Moves.step State.waste_moves; · decide) | (with_reducible apply Moves.step State.latchFault_moves; · decide) | (with_reducible apply Moves.step State.queueReplay_moves; · decide) | (with_reducible apply Moves.step State.failedLookup_moves; · decide) | (with_reducible apply Moves.step State.vectorFailed_moves; · decide) | dsimp -proj only | split))

theorem State.replayPassed_moves {s : State} {k : Packet} :
    Moves [.fc] s (State.replayPassed s k) := by
  unfold State.replayPassed
  all_goals (repeat' (first | with_reducible exact .refl | (with_reducible apply Moves.step State.corrected_moves; · decide) | (with_reducible apply Moves.step State.setCorrPacket_moves; · decide) | dsimp -proj only | split))

theorem State.countDrop_moves {s : State} {k : Packet} :
    Moves [.counters] s (State.countDrop s k) := by
  unfold State.countDrop
  all_goals (repeat' (first | with_reducible exact .refl | (with_reducible apply Moves.step State.count_moves; · decide) | dsimp -proj only | split))

theorem State.countPass_moves {s : State} {k : Packet} :
    Moves [.counters] s (State.countPass s k) := by
  unfold State.countPass
  all_goals (repeat' (first | with_reducible exact .refl | (with_reducible apply Moves.step State.count_moves; · decide) | dsimp -proj only | split))

theorem State.vectorEnd_moves {s : State} {k : Packet} {bad : Bool} :
    Moves reactParts s (State.vectorEnd s k bad) := by
  unfold State.vectorEnd
  all_goals (repeat' (first | with_reducible exact .refl | (with_reducible apply Moves.step State.count_moves; · decide) | (with_reducible apply Moves.step State.setPipe_moves; · decide) | (with_reducible apply Moves.step State.setClean_moves; · decide) | (with_reducible apply Moves.step State.vectorFailed_moves; · decide) | dsimp -proj only | split))

theorem State.shadowCompare_moves {s : State} {i : Nat} {k : Packet} {bad : Bool} :
    Moves [.counters, .pipes] s (State.shadowCompare s i k bad).1 := by
  unfold State.shadowCompare
  all_goals (repeat' (first | with_reducible exact .refl | (with_reducible apply Moves.step State.count_moves; · decide) | (with_reducible apply Moves.step State.setPass_moves; · decide) | (with_reducible apply Moves.step State.setClean_moves; · decide) | dsimp -proj only | split))

theorem State.shadowCompare_moves_eq {s : State} {i : Nat} {k : Packet} {bad : Bool} {sEnd : State} {yEnd} (he : State.shadowCompare s i k bad = (sEnd, yEnd)) : Moves [.counters, .pipes] s sEnd := by
  have := @State.shadowCompare_moves s i k bad
  rw [he] at this
  exact this

theorem State.passDigest_moves {s : State} {k : Packet} {port : Nat} :
    Moves [.counters, .tel] s (State.passDigest s k port) := by
  unfold State.passDigest
  all_goals (repeat' (first | with_reducible exact .refl | (with_reducible apply Moves.step State.digestUpdate_moves; · decide) | dsimp -proj only | split))

theorem State.holdResult_moves {s : State} {pair : Nat} {r : Result} :
    Moves [.ord] s (State.holdResult s pair r) := by
  unfold State.holdResult
  all_goals (repeat' (first | with_reducible exact .refl | (with_reducible apply Moves.step State.setOrder_moves; · decide) | (with_reducible apply Moves.step State.setReorderUse_moves; · decide) | dsimp -proj only | split))

theorem State.ingressEnd_moves {s : State} {i d : Nat} {k : Packet} :
    Moves (.tel :: .cmp :: reactParts) s (State.ingressEnd s i d k) := by
  unfold State.ingressEnd
  all_goals (repeat' (first | with_reducible exact .refl | (with_reducible apply Moves.step State.setPacket_moves; · decide) | (with_reducible apply Moves.step State.setInfo_moves; · decide) | (with_reducible apply Moves.step State.setRecircQueue_moves; · decide) | (with_reducible apply Moves.step State.releaseRing_moves; · decide) | (with_reducible apply Moves.step State.replayPassed_moves; · decide) | (with_reducible apply Moves.step State.countDrop_moves; · decide) | (with_reducible apply Moves.step State.countPass_moves; · decide) | (with_reducible apply Moves.step State.passDigest_moves; · decide) | (with_reducible apply Moves.step State.holdResult_moves; · decide) | dsimp -proj only | split))

theorem State.endTx_moves {s : State} {q : Nat} {e : QEntry} :
    Moves [.egr] s (State.endTx s q e) := by
  unfold State.endTx
  all_goals (repeat' (first | with_reducible exact .refl | (with_reducible apply Moves.step State.setTx_moves; · decide) | dsimp -proj only | split))

theorem State.dropByPass_moves {s : State} {d : Nat} {c : Nat × QEntry} {h : Holder} :
    Moves (.cmp :: reactParts) s (State.dropByPass s d c h) := by
  unfold State.dropByPass
  all_goals (repeat' (first | with_reducible exact .refl | (with_reducible apply Moves.step State.outcome_moves; · decide) | (with_reducible apply Moves.step State.freeEntry_moves; · decide) | (with_reducible apply Moves.step State.release_moves; · decide) | (with_reducible apply Moves.step State.dropRetry_moves; · decide) | (with_reducible apply Moves.step State.endTx_moves; · decide) | dsimp -proj only | split))

theorem State.egressEnd_moves {s : State} {i d : Nat} {c : Nat × QEntry} {k : Packet} :
    Moves (.tel :: .cmp :: reactParts) s (State.egressEnd s i d c k) := by
  unfold State.egressEnd
  all_goals (repeat' (first | with_reducible exact .refl | (with_reducible apply Moves.step State.setPacket_moves; · decide) | (with_reducible apply Moves.step State.setTx_moves; · decide) | (with_reducible apply Moves.step State.holderOp_moves; · decide) | (with_reducible apply Moves.step (State.holderOp_moves_eq (by assumption)); · decide) | (with_reducible apply Moves.step State.passCopies_moves; · decide) | (with_reducible apply Moves.step (State.passCopies_moves_eq (by assumption)); · decide) | (with_reducible apply Moves.step State.replayPassed_moves; · decide) | (with_reducible apply Moves.step State.countDrop_moves; · decide) | (with_reducible apply Moves.step State.countPass_moves; · decide) | (with_reducible apply Moves.step State.passDigest_moves; · decide) | (with_reducible apply Moves.step State.dropByPass_moves; · decide) | with_reducible apply Moves.fold | with_reducible apply Moves.fold₁ | with_reducible intro _ _ | dsimp -proj only | split))

theorem State.stageCorrections_moves {s : State} {k : Packet} {ev : StageEvent} :
    Moves reactParts s (State.stageCorrections s k ev) := by
  unfold State.stageCorrections
  all_goals (repeat' (first | with_reducible exact .refl | (with_reducible apply Moves.step State.count_moves; · decide) | (with_reducible apply Moves.step State.latchFault_moves; · decide) | (with_reducible apply Moves.step State.corrected_moves; · decide) | (with_reducible apply Moves.step State.setCorrPacket_moves; · decide) | dsimp -proj only | split))

theorem State.stageFiring_moves {s : State} {k : Packet} {ev : StageEvent} :
    Moves [.fc] s (State.stageFiring s k ev).1 := by
  unfold State.stageFiring
  all_goals (repeat' (first | with_reducible exact .refl | (with_reducible apply Moves.step State.meetCheck_moves; · decide) | dsimp -proj only | split))

theorem State.stageFiring_moves_eq {s : State} {k : Packet} {ev : StageEvent} {sEnd : State} {yEnd} (he : State.stageFiring s k ev = (sEnd, yEnd)) : Moves [.fc] s sEnd := by
  have := @State.stageFiring_moves s k ev
  rw [he] at this
  exact this

theorem State.compareFiring_moves {s : State} {k : Packet} {ev : StageEvent} :
    Moves [.fc] s (State.compareFiring s k ev).1 := by
  unfold State.compareFiring
  all_goals (repeat' (first | with_reducible exact .refl | dsimp -proj only | split | (with_reducible apply Moves.fc; · decide)))

theorem State.compareFiring_moves_eq {s : State} {k : Packet} {ev : StageEvent} {sEnd : State} {yEnd} (he : State.compareFiring s k ev = (sEnd, yEnd)) : Moves [.fc] s sEnd := by
  have := @State.compareFiring_moves s k ev
  rw [he] at this
  exact this

theorem State.passEnd_moves {s : State} {i : Nat} {k : Packet} {ev : StageEvent} :
    Moves (.tel :: .cmp :: reactParts) s (State.passEnd s i k ev) := by
  unfold State.passEnd
  all_goals (repeat' (first | with_reducible exact .refl | (with_reducible apply Moves.step State.count_moves; · decide) | (with_reducible apply Moves.step State.setPacket_moves; · decide) | (with_reducible apply Moves.step State.vectorEnd_moves; · decide) | (with_reducible apply Moves.step State.shadowCompare_moves; · decide) | (with_reducible apply Moves.step (State.shadowCompare_moves_eq (by assumption)); · decide) | (with_reducible apply Moves.step State.ingressEnd_moves; · decide) | (with_reducible apply Moves.step State.egressEnd_moves; · decide) | dsimp -proj only | split))

theorem State.stageExecute_moves {s : State} {i : Nat} {k : Packet} {ev : StageEvent} :
    Moves (.tables :: .tel :: .cmp :: reactParts) s (State.stageExecute s i k ev) := by
  unfold State.stageExecute
  all_goals (repeat' (first | with_reducible exact .refl | (with_reducible apply Moves.step State.setPacket_moves; · decide) | (with_reducible apply Moves.step State.runStage_moves; · decide) | (with_reducible apply Moves.step (State.runStage_moves_eq (by assumption)); · decide) | (with_reducible apply Moves.step State.checkFailure_moves; · decide) | (with_reducible apply Moves.step State.stageCorrections_moves; · decide) | (with_reducible apply Moves.step State.stageFiring_moves; · decide) | (with_reducible apply Moves.step (State.stageFiring_moves_eq (by assumption)); · decide) | (with_reducible apply Moves.step State.compareFiring_moves; · decide) | (with_reducible apply Moves.step (State.compareFiring_moves_eq (by assumption)); · decide) | (with_reducible apply Moves.step State.passEnd_moves; · decide) | dsimp -proj only | split))

theorem execStageExecute_moves {packet : Nat} {ev : StageEvent} {s : State} :
    Ends (.tables :: .tel :: .cmp :: reactParts) s (execStageExecute packet ev s) := by
  unfold execStageExecute
  all_goals (repeat' (first | with_reducible exact .refl | with_reducible apply Ends.next | (with_reducible apply Moves.step State.stageExecute_moves; · decide) | dsimp -proj only | split))

end Sys2Proof.Machine
end

