-- ==== Sys2Proof/Laws/Moves/Ptp.lean ====
section
/-! SUPPORT. What each operation of Machine/Ptp.lean can touch, and that it keeps the stores canonical. -/

namespace Sys2Proof.Machine

theorem State.setPtp_moves {s : State} {base : Nat} {x : PtpInstance} :
    Moves [.ks] s (State.setPtp s base x) := by
  unfold State.setPtp
  all_goals (repeat' (first | with_reducible exact .refl | dsimp -proj only | split | (with_reducible apply Moves.ks; · decide)))

theorem State.ptpSync_moves {s : State} {base : Nat} {t1 t2 : Int} :
    Moves [.regs, .time, .ks] s (State.ptpSync s base t1 t2) := by
  unfold State.ptpSync
  all_goals (repeat' (first | with_reducible exact .refl | (with_reducible apply Moves.step State.submitSample_moves; · decide) | (with_reducible apply Moves.step State.setPtp_moves; · decide) | dsimp -proj only | split))

theorem State.ptpSlave_moves {s : State} {base : Nat} {m : PtpMessage} {now : Int} :
    Moves [.regs, .time, .ks] s (State.ptpSlave s base m now) := by
  unfold State.ptpSlave
  all_goals (repeat' (first | with_reducible exact .refl | (with_reducible apply Moves.step State.setPtp_moves; · decide) | (with_reducible apply Moves.step State.ptpSync_moves; · decide) | dsimp -proj only | split))

theorem State.ptpReceive_moves {s : State} {p : Nat} {m : PtpMessage} {x : Stamp} :
    Moves [.regs, .emitted, .time, .ks] s (State.ptpReceive s p m x) := by
  unfold State.ptpReceive
  all_goals (repeat' (first | with_reducible exact .refl | (with_reducible apply Moves.step State.emit_moves; · decide) | (with_reducible apply Moves.step State.ptpSlave_moves; · decide) | with_reducible apply Moves.fold | with_reducible apply Moves.fold₁ | with_reducible intro _ _ | dsimp -proj only | split))

theorem State.ptpSent_moves {s : State} {p : Nat} {m : PtpMessage} {x : Stamp} :
    Moves [.emitted, .ks] s (State.ptpSent s p m x) := by
  unfold State.ptpSent
  all_goals (repeat' (first | with_reducible exact .refl | (with_reducible apply Moves.step State.emit_moves; · decide) | (with_reducible apply Moves.step State.setPtp_moves; · decide) | with_reducible apply Moves.fold | with_reducible apply Moves.fold₁ | with_reducible intro _ _ | dsimp -proj only | split))

theorem State.ptpSeen_moves {s : State} {p : Nat} {sent : Bool} {flags : Word} {hv : Tbl Word} {x : Stamp} :
    Moves [.regs, .emitted, .freeCount, .time, .ks] s (State.ptpSeen s p sent flags hv x) := by
  unfold State.ptpSeen
  all_goals (repeat' (first | with_reducible exact .refl | (with_reducible apply Moves.step State.ptpCapture_moves; · decide) | (with_reducible apply Moves.step State.ptpReceive_moves; · decide) | (with_reducible apply Moves.step State.ptpSent_moves; · decide) | dsimp -proj only | split))

end Sys2Proof.Machine
end

