-- ==== Sys2Proof/Laws/Moves/Ingress.lean ====
section
/-! SUPPORT. What each operation of Machine/Ingress.lean can touch, and that it keeps the stores canonical. -/

namespace Sys2Proof.Machine

/-- Bytes written into the shared buffer keep its canonical form. -/
theorem writeCellBytes_wf {m : Tbl Byte} {a : Nat} {b : List Byte} (h : Memory.wf m = true) :
    Memory.wf (writeCellBytes m a b) = true := by
  induction b generalizing m a with
  | nil => exact h
  | cons x t ih => exact ih (Tbl.wf_put _ _ _ _ h)

theorem State.setRx_moves {s : State} {p : Nat} {x : Option RxFrame} :
    Moves [.rx] s (State.setRx s p x) := by
  unfold State.setRx
  all_goals (repeat' (first | with_reducible exact .refl | dsimp -proj only | split | (with_reducible apply Moves.rx; · decide)))

theorem State.endVoq_moves {s : State} {d : Nat} :
    Moves (.cmp :: reactParts) s (State.endVoq s d) := by
  unfold State.endVoq
  all_goals (repeat' (first | with_reducible exact .refl | (with_reducible apply Moves.step State.setVoq_moves; · decide) | (with_reducible apply Moves.step State.release_moves; · decide) | with_reducible apply Moves.fold | with_reducible apply Moves.fold₁ | with_reducible intro _ _ | dsimp -proj only | split))

theorem State.endCopies_moves {s : State} {d : Nat} :
    Moves (.cmp :: reactParts) s (State.endCopies s d) := by
  unfold State.endCopies
  all_goals (repeat' (first | with_reducible exact .refl | (with_reducible apply Moves.step State.setTx_moves; · decide) | (with_reducible apply Moves.step State.stomp_moves; · decide) | (with_reducible apply Moves.step State.freeEntry_moves; · decide) | (with_reducible apply Moves.step State.unqueueFrame_moves; · decide) | (with_reducible apply Moves.step (State.unqueueFrame_moves_eq (by assumption)); · decide) | (with_reducible apply Moves.step State.dropEgressOf_moves; · decide) | (with_reducible apply Moves.step State.release_moves; · decide) | (with_reducible apply Moves.step State.endVoq_moves; · decide) | with_reducible apply Moves.fold | with_reducible apply Moves.fold₁ | with_reducible intro _ _ | dsimp -proj only | split))

theorem State.discardFrame_moves {s : State} {d : Nat} :
    Moves (.tel :: .cmp :: reactParts) s (State.discardFrame s d) := by
  unfold State.discardFrame
  all_goals (repeat' (first | with_reducible exact .refl | (with_reducible apply Moves.step State.setInfo_moves; · decide) | (with_reducible apply Moves.step State.release_moves; · decide) | (with_reducible apply Moves.step State.voidSeq_moves; · decide) | (with_reducible apply Moves.step State.forgetIngress_moves; · decide) | (with_reducible apply Moves.step State.endCopies_moves; · decide) | dsimp -proj only | split))

theorem State.lengthKnown_moves {s : State} {d n : Nat} :
    Moves (.cmp :: reactParts) s (State.lengthKnown s d n) := by
  unfold State.lengthKnown
  all_goals (repeat' (first | with_reducible exact .refl | (with_reducible apply Moves.step State.count_moves; · decide) | (with_reducible apply Moves.step State.setInfo_moves; · decide) | (with_reducible apply Moves.step State.setDesc_moves; · decide) | (with_reducible apply Moves.step State.voqLength_moves; · decide) | with_reducible apply Moves.fold | with_reducible apply Moves.fold₁ | with_reducible intro _ _ | dsimp -proj only | split))

theorem State.dropArrival_moves {s : State} {d n : Nat} :
    Moves (.tel :: .cmp :: reactParts) s (State.dropArrival s d n) := by
  unfold State.dropArrival
  all_goals (repeat' (first | with_reducible exact .refl | (with_reducible apply Moves.step State.setInfo_moves; · decide) | (with_reducible apply Moves.step State.freeDescriptor_moves; · decide) | (with_reducible apply Moves.step State.discardFrame_moves; · decide) | (with_reducible apply Moves.step State.lengthKnown_moves; · decide) | dsimp -proj only | split))

theorem State.accept_moves {s : State} {d : Nat} :
    Moves [.counters, .buf, .ord] s (State.accept s d) := by
  unfold State.accept
  all_goals (repeat' (first | with_reducible exact .refl | (with_reducible apply Moves.step State.count_moves; · decide) | (with_reducible apply Moves.step State.setDesc_moves; · decide) | (with_reducible apply Moves.step State.setLedger_moves; · decide) | dsimp -proj only | split))

theorem State.discardStart_moves {s : State} {p : Nat} {f : RxFrame} {e : Nat} :
    Moves reactParts s (State.discardStart s p f e) := by
  unfold State.discardStart
  all_goals (repeat' (first | with_reducible exact .refl | (with_reducible apply Moves.step State.count_moves; · decide) | (with_reducible apply Moves.step State.nameFault_moves; · decide) | (with_reducible apply Moves.step State.latchFault_moves; · decide) | (with_reducible apply Moves.step State.setRx_moves; · decide) | dsimp -proj only | split | (with_reducible apply Moves.rx; · decide)))

theorem execFrameStart_moves {port : Port} {deck : DWord} {s : State} :
    Ends reactParts s (execFrameStart port deck s) := by
  unfold execFrameStart
  all_goals (repeat' (first | with_reducible exact .refl | with_reducible apply Ends.next | (with_reducible apply Moves.step State.setRx_moves; · decide) | (with_reducible apply Moves.step State.discardStart_moves; · decide) | dsimp -proj only | split))

theorem State.writeCell_moves {s : State} {d c : Nat} {bytes : List Byte} {last : Bool} :
    Moves [.buf, .mem] s (State.writeCell s d c bytes last) := by
  unfold State.writeCell
  all_goals (repeat' (first | with_reducible exact .refl | (with_reducible apply Moves.step State.setDesc_moves; · decide) | (with_reducible apply Moves.step State.setLink_moves; · decide) | dsimp -proj only | split | (with_reducible apply Moves.buf; (· decide); (· with_reducible rfl)) | (with_reducible apply Moves.mem; (· decide); (· exact writeCellBytes_wf))))

theorem State.admissionRefuse_moves {s : State} {d : Nat} :
    Moves (.tel :: .cmp :: reactParts) s (State.admissionRefuse s d) := by
  unfold State.admissionRefuse
  all_goals (repeat' (first | with_reducible exact .refl | (with_reducible apply Moves.step State.count_moves; · decide) | (with_reducible apply Moves.step State.nameFault_moves; · decide) | (with_reducible apply Moves.step State.latchFault_moves; · decide) | (with_reducible apply Moves.step State.discardFrame_moves; · decide) | dsimp -proj only | split))

theorem State.rxDiscard_moves {s : State} {p : Nat} {f : RxFrame} :
    Moves [.regs, .rx] s (State.rxDiscard s p f) := by
  unfold State.rxDiscard
  all_goals (repeat' (first | with_reducible exact .refl | (with_reducible apply Moves.step State.checkDrained_moves; · decide) | (with_reducible apply Moves.step State.setRx_moves; · decide) | dsimp -proj only | split))

theorem State.firstCell_moves {s : State} {p d c : Nat} {f : RxFrame} {bytes : List Byte} {last : Bool} :
    Moves [.counters, .emitted, .buf, .mem, .rx] s (State.firstCell s p d c f bytes last) := by
  unfold State.firstCell
  all_goals (repeat' (first | with_reducible exact .refl | (with_reducible apply Moves.step State.setInfo_moves; · decide) | (with_reducible apply Moves.step State.setDesc_moves; · decide) | (with_reducible apply Moves.step State.setArrivals_moves; · decide) | (with_reducible apply Moves.step State.setHeadUse_moves; · decide) | (with_reducible apply Moves.step State.arrivalXoff_moves; · decide) | (with_reducible apply Moves.step State.setRx_moves; · decide) | (with_reducible apply Moves.step State.writeCell_moves; · decide) | dsimp -proj only | split))

theorem State.dropRx_moves {s : State} {p : Nat} {f : RxFrame} :
    Moves (.tel :: .cmp :: reactParts) s (State.dropRx s p f) := by
  unfold State.dropRx
  all_goals (repeat' (first | with_reducible exact .refl | (with_reducible apply Moves.step State.dropArrival_moves; · decide) | (with_reducible apply Moves.step State.rxDiscard_moves; · decide) | dsimp -proj only | split))

theorem State.headDiscard_moves {s : State} {p : Nat} {f : RxFrame} :
    Moves (.tel :: .cmp :: reactParts) s (State.headDiscard s p f) := by
  unfold State.headDiscard
  all_goals (repeat' (first | with_reducible exact .refl | (with_reducible apply Moves.step State.count_moves; · decide) | (with_reducible apply Moves.step State.latchFault_moves; · decide) | (with_reducible apply Moves.step State.dropRx_moves; · decide) | dsimp -proj only | split))

theorem State.nextCell_moves {s : State} {p d : Nat} {f : RxFrame} {bytes : List Byte} {last : Bool} {full : List Nat} :
    Moves (.mem :: .tel :: .cmp :: reactParts) s (State.nextCell s p d f bytes last full) := by
  unfold State.nextCell
  all_goals (repeat' (first | with_reducible exact .refl | (with_reducible apply Moves.step State.setHeadUse_moves; · decide) | (with_reducible apply Moves.step State.allocCell_moves; · decide) | (with_reducible apply Moves.step (State.allocCell_moves_eq (by assumption)); · decide) | (with_reducible apply Moves.step State.admitCell_moves; · decide) | (with_reducible apply Moves.step (State.admitCell_moves_eq (by assumption)); · decide) | (with_reducible apply Moves.step State.setRx_moves; · decide) | (with_reducible apply Moves.step State.lengthKnown_moves; · decide) | (with_reducible apply Moves.step State.writeCell_moves; · decide) | (with_reducible apply Moves.step State.admissionRefuse_moves; · decide) | (with_reducible apply Moves.step State.rxDiscard_moves; · decide) | (with_reducible apply Moves.step State.dropRx_moves; · decide) | (with_reducible apply Moves.step State.headDiscard_moves; · decide) | dsimp -proj only | split))

theorem execCellWrite_moves {port : Port} {bytes : List Byte} {last : Bool} {full : List Nat} {s : State} :
    Ends (.mem :: .tel :: .cmp :: reactParts) s (execCellWrite port bytes last full s) := by
  unfold execCellWrite
  all_goals (repeat' (first | with_reducible exact .refl | with_reducible apply Ends.next | (with_reducible apply Moves.step State.count_moves; · decide) | (with_reducible apply Moves.step State.allocCell_moves; · decide) | (with_reducible apply Moves.step (State.allocCell_moves_eq (by assumption)); · decide) | (with_reducible apply Moves.step (State.allocDesc_moves (by assumption)); · decide) | (with_reducible apply Moves.step State.setRx_moves; · decide) | (with_reducible apply Moves.step State.discardStart_moves; · decide) | (with_reducible apply Moves.step State.firstCell_moves; · decide) | (with_reducible apply Moves.step State.dropRx_moves; · decide) | (with_reducible apply Moves.step State.headDiscard_moves; · decide) | (with_reducible apply Moves.step State.nextCell_moves; · decide) | dsimp -proj only | split))

theorem execParseDone_moves {d : DescId} {s : State} :
    Ends [.regs, .counters, .emitted, .freeCount, .rx, .time, .ks] s (execParseDone d s) := by
  unfold execParseDone
  all_goals (repeat' (first | with_reducible exact .refl | with_reducible apply Ends.next | (with_reducible apply Moves.step State.count_moves; · decide) | (with_reducible apply Moves.step State.setInfo_moves; · decide) | (with_reducible apply Moves.step State.ptpSeen_moves; · decide) | with_reducible apply Moves.fold | with_reducible apply Moves.fold₁ | with_reducible intro _ _ | dsimp -proj only | split))

theorem State.assignSeq_moves {s : State} {d : Nat} :
    Moves [.buf, .ord] s (State.assignSeq s d) := by
  unfold State.assignSeq
  all_goals (repeat' (first | with_reducible exact .refl | (with_reducible apply Moves.step State.setDesc_moves; · decide) | (with_reducible apply Moves.step State.setOrder_moves; · decide) | (with_reducible apply Moves.step State.foldGuards_moves; · decide) | dsimp -proj only | split))

theorem State.chargeHead_moves {s : State} {d : Nat} :
    Moves [.counters, .emitted, .buf] s (State.chargeHead s d).1 := by
  unfold State.chargeHead
  all_goals (repeat' (first | with_reducible exact .refl | (with_reducible apply Moves.step State.admitCell_moves; · decide) | (with_reducible apply Moves.step (State.admitCell_moves_eq (by assumption)); · decide) | (with_reducible apply Moves.step State.uncharge_moves; · decide) | with_reducible apply Moves.fold | with_reducible apply Moves.fold₁ | with_reducible intro _ _ | dsimp -proj only | split))

theorem State.chargeHead_moves_eq {s : State} {d : Nat} {sEnd : State} {yEnd} (he : State.chargeHead s d = (sEnd, yEnd)) : Moves [.counters, .emitted, .buf] s sEnd := by
  have := @State.chargeHead_moves s d
  rw [he] at this
  exact this

theorem State.classifyFrame_moves {s : State} {d : Nat} {p : Parsed} :
    Moves [.counters, .buf, .rx, .ord] s (State.classifyFrame s d p) := by
  unfold State.classifyFrame
  all_goals (repeat' (first | with_reducible exact .refl | (with_reducible apply Moves.step State.count_moves; · decide) | (with_reducible apply Moves.step State.setInfo_moves; · decide) | (with_reducible apply Moves.step State.setDesc_moves; · decide) | (with_reducible apply Moves.step State.setHeadUse_moves; · decide) | (with_reducible apply Moves.step State.setRx_moves; · decide) | (with_reducible apply Moves.step State.assignSeq_moves; · decide) | dsimp -proj only | split))

theorem State.classifyRefused_moves {s : State} {d : Nat} :
    Moves (.tel :: .cmp :: reactParts) s (State.classifyRefused s d) := by
  unfold State.classifyRefused
  all_goals (repeat' (first | with_reducible exact .refl | (with_reducible apply Moves.step State.setInfo_moves; · decide) | (with_reducible apply Moves.step State.setHeadUse_moves; · decide) | (with_reducible apply Moves.step State.admissionRefuse_moves; · decide) | (with_reducible apply Moves.step State.rxDiscard_moves; · decide) | dsimp -proj only | split))

theorem execClassifyDone_moves {d : DescId} {s : State} :
    Ends (.tel :: .cmp :: reactParts) s (execClassifyDone d s) := by
  unfold execClassifyDone
  all_goals (repeat' (first | with_reducible exact .refl | with_reducible apply Ends.next | (with_reducible apply Moves.step State.accept_moves; · decide) | (with_reducible apply Moves.step State.chargeHead_moves; · decide) | (with_reducible apply Moves.step (State.chargeHead_moves_eq (by assumption)); · decide) | (with_reducible apply Moves.step State.classifyFrame_moves; · decide) | (with_reducible apply Moves.step State.classifyRefused_moves; · decide) | dsimp -proj only | split))

theorem execFrameEnd_moves {port : Port} {fcsGood truncated : Bool} {s : State} :
    Ends (.tel :: .cmp :: reactParts) s (execFrameEnd port fcsGood truncated s) := by
  unfold execFrameEnd
  all_goals (repeat' (first | with_reducible exact .refl | with_reducible apply Ends.next | (with_reducible apply Moves.step State.count_moves; · decide) | (with_reducible apply Moves.step State.setInfo_moves; · decide) | (with_reducible apply Moves.step State.checkDrained_moves; · decide) | (with_reducible apply Moves.step State.setRx_moves; · decide) | (with_reducible apply Moves.step State.lengthKnown_moves; · decide) | (with_reducible apply Moves.step State.dropArrival_moves; · decide) | (with_reducible apply Moves.step State.accept_moves; · decide) | dsimp -proj only | split))

end Sys2Proof.Machine
end

