-- ==== Sys2Proof/Laws/Moves/Buffer.lean ====
section
/-! SUPPORT. What each operation of Machine/Buffer.lean can touch, and that it keeps the stores canonical. -/

namespace Sys2Proof.Machine

theorem execHolderTransfer_moves {d : DescId} {h : Holder} {set : List Holder} {group : Option (Fin 32768)} {walk : WalkCheck} {s : State} :
    Ends (.cmp :: reactParts) s (execHolderTransfer d h set group walk s) := by
  unfold execHolderTransfer
  all_goals (repeat' (first | with_reducible exact .refl | with_reducible apply Ends.next | (with_reducible apply Moves.step State.holderOp_moves; · decide) | (with_reducible apply Moves.step (State.holderOp_moves_eq (by assumption)); · decide) | dsimp -proj only | split))

theorem execHolderRelease_moves {d : DescId} {h : Holder} {walk : WalkCheck} {s : State} :
    Ends (.cmp :: reactParts) s (execHolderRelease d h walk s) := by
  unfold execHolderRelease
  all_goals (repeat' (first | with_reducible exact .refl | with_reducible apply Ends.next | (with_reducible apply Moves.step State.holderOp_moves; · decide) | (with_reducible apply Moves.step (State.holderOp_moves_eq (by assumption)); · decide) | dsimp -proj only | split))

theorem State.meetWalk_moves {s : State} {d : Nat} {w : WalkCheck} :
    Moves [.fc] s (State.meetWalk s d w) := by
  unfold State.meetWalk
  all_goals (repeat' (first | with_reducible exact .refl | (with_reducible apply Moves.step State.meetAt_moves; · decide) | dsimp -proj only | split))

theorem State.readCorrected_moves {s : State} {d c : Nat} {check : ReadCheck} {walk : WalkCheck} :
    Moves [.fc] s (State.readCorrected s d c check walk) := by
  unfold State.readCorrected
  all_goals (repeat' (first | with_reducible exact .refl | (with_reducible apply Moves.step State.corrected_moves; · decide) | (with_reducible apply Moves.step State.walkCorrected_moves; · decide) | dsimp -proj only | split))

theorem execCellRead_moves {d : DescId} {i : Fin 64} {h : Holder} {wrong : List (Fin 256 × Byte)} {check : ReadCheck} {walk : WalkCheck} {s : State} :
    Ends (.tel :: .cmp :: reactParts) s (execCellRead d i h wrong check walk s) := by
  unfold execCellRead
  all_goals (repeat' (first | with_reducible exact .refl | with_reducible apply Ends.next | (with_reducible apply Moves.step State.meetAt_moves; · decide) | (with_reducible apply Moves.step State.bufFault_moves; · decide) | (with_reducible apply Moves.step State.quarantine_moves; · decide) | (with_reducible apply Moves.step State.guardFault_moves; · decide) | (with_reducible apply Moves.step State.meetWalk_moves; · decide) | (with_reducible apply Moves.step State.readCorrected_moves; · decide) | dsimp -proj only | split))

theorem State.applyLimits_moves {s : State} :
    Moves [.regs, .chip, .buf] s (State.applyLimits s) := by
  unfold State.applyLimits
  all_goals (repeat' (first | with_reducible exact .refl | (with_reducible apply Moves.step State.setReg_moves; · decide) | dsimp -proj only | split | (with_reducible apply Moves.chip; · decide) | (with_reducible apply Moves.buf; (· decide); (· with_reducible rfl))))

theorem execLimitCommit_moves {s : State} :
    Ends reactParts s (execLimitCommit s) := by
  unfold execLimitCommit
  all_goals (repeat' (first | with_reducible exact .refl | with_reducible apply Ends.next | (with_reducible apply Moves.step State.setFld_moves; · decide) | (with_reducible apply Moves.step State.setBit_moves; · decide) | (with_reducible apply Moves.step State.refusedWrite_moves; · decide) | (with_reducible apply Moves.step State.applyLimits_moves; · decide) | dsimp -proj only | split))

theorem execFaultLogRead_moves {s : State} :
    Ends [.regs, .readData, .buf] s (execFaultLogRead s) := by
  unfold execFaultLogRead
  all_goals (repeat' (first | with_reducible exact .refl | with_reducible apply Ends.next | (with_reducible apply Moves.step State.setReg_moves; · decide) | dsimp -proj only | split | (with_reducible apply Moves.readData; · decide) | (with_reducible apply Moves.buf; (· decide); (· with_reducible rfl)) | (with_reducible apply Moves.upd; with_reducible rfl; (all_goals first | exact .inl (by with_reducible rfl) | exact .inr (by decide) | exact .inr ⟨by decide, by first | exact fun h => h | exact Tbl.wf_put _ _ _ _ | exact fun h => Tbl.wf_put _ _ _ _ (Tbl.wf_put _ _ _ _ h) | exact Tbl.wf_filter _ _ _ | exact fun _ => rfl | exact writeCellBytes_wf | exact writeBytes_wf | exact programBytes_wf⟩ | skip))))

theorem State.freeCellList_moves {s : State} {cs : List Nat} :
    Moves [.buf] s (State.freeCellList s cs).1 := by
  unfold State.freeCellList
  all_goals (repeat' (first | with_reducible exact .refl | (with_reducible apply Moves.step State.pushFree_moves; · decide) | with_reducible apply Moves.fold | with_reducible apply Moves.fold₁ | with_reducible intro _ _ | dsimp -proj only | split))

theorem State.freeCellList_moves_eq {s : State} {cs : List Nat} {sEnd : State} {yEnd} (he : State.freeCellList s cs = (sEnd, yEnd)) : Moves [.buf] s sEnd := by
  have := @State.freeCellList_moves s cs
  rw [he] at this
  exact this

theorem State.reclaimFrame_moves {s : State} {d : Nat} :
    Moves reactParts s (State.reclaimFrame s d) := by
  unfold State.reclaimFrame
  all_goals (repeat' (first | with_reducible exact .refl | (with_reducible apply Moves.step State.bufFault_moves; · decide) | (with_reducible apply Moves.step State.freeDescriptor_moves; · decide) | (with_reducible apply Moves.step State.returnCharge_moves; · decide) | (with_reducible apply Moves.step State.freeCellList_moves; · decide) | (with_reducible apply Moves.step (State.freeCellList_moves_eq (by assumption)); · decide) | dsimp -proj only | split))

theorem execReclaim_moves {byAudit : Bool} {value : Word} {s : State} :
    Ends reactParts s (execReclaim byAudit value s) := by
  unfold execReclaim
  all_goals (repeat' (first | with_reducible exact .refl | with_reducible apply Ends.next | (with_reducible apply Moves.step State.count_moves; · decide) | (with_reducible apply Moves.step State.pushFree_moves; · decide) | (with_reducible apply Moves.step State.refusedWrite_moves; · decide) | (with_reducible apply Moves.step State.reclaimFrame_moves; · decide) | dsimp -proj only | split))

end Sys2Proof.Machine
end

