-- ==== Sys2Proof/Laws/Moves/Compat.lean ====
section
/-! SUPPORT. What each operation of Machine/Compat.lean can touch, and that it keeps the stores canonical. -/

namespace Sys2Proof.Machine

theorem State.setCmpPending_moves {s : State} {dev voq n : Nat} :
    Moves [.cmp] s (State.setCmpPending s dev voq n) := by
  unfold State.setCmpPending
  all_goals (repeat' (first | with_reducible exact .refl | dsimp -proj only | split | (with_reducible apply Moves.cmp; · decide)))

theorem execCmpReqRx_moves {dev : Fin 128} {voq : BitVec 16} {value : BitVec 26} {s : State} :
    Ends [.cmp] s (execCmpReqRx dev voq value s) := by
  unfold execCmpReqRx
  all_goals (repeat' (first | with_reducible exact .refl | with_reducible apply Ends.next | (with_reducible apply Moves.step State.setCmpPending_moves; · decide) | dsimp -proj only | split))

theorem execCmpGrantRx_moves {voq : BitVec 16} {value : BitVec 26} {s : State} :
    Ends (.cmp :: reactParts) s (execCmpGrantRx voq value s) := by
  unfold execCmpGrantRx
  all_goals (repeat' (first | with_reducible exact .refl | with_reducible apply Ends.next | (with_reducible apply Moves.step State.setVoq_moves; · decide) | (with_reducible apply Moves.step State.voqRun_moves; · decide) | dsimp -proj only | split))

theorem execCmpSyncTimer_moves {s : State} :
    Ends [.counters, .egr, .cmp] s (execCmpSyncTimer s) := by
  unfold execCmpSyncTimer
  all_goals (repeat' (first | with_reducible exact .refl | with_reducible apply Ends.next | (with_reducible apply Moves.step State.cmpSend_moves; · decide) | with_reducible apply Moves.fold | with_reducible apply Moves.fold₁ | with_reducible intro _ _ | dsimp -proj only | split))

theorem execCmpSyncRx_moves {dev : Fin 128} {voq : BitVec 16} {value : BitVec 26} {s : State} :
    Ends [.counters, .egr, .cmp] s (execCmpSyncRx dev voq value s) := by
  unfold execCmpSyncRx
  all_goals (repeat' (first | with_reducible exact .refl | with_reducible apply Ends.next | (with_reducible apply Moves.step State.cmpSend_moves; · decide) | dsimp -proj only | split))

theorem execCmpSyncAckRx_moves {voq : BitVec 16} {value : BitVec 26} {s : State} :
    Ends (.cmp :: reactParts) s (execCmpSyncAckRx voq value s) := by
  unfold execCmpSyncAckRx
  all_goals (repeat' (first | with_reducible exact .refl | with_reducible apply Ends.next | (with_reducible apply Moves.step State.setVoq_moves; · decide) | (with_reducible apply Moves.step State.voqRun_moves; · decide) | dsimp -proj only | split))

theorem execCmpMessageFlush_moves {dev : Fin 128} {s : State} :
    Ends [.counters, .egr, .cmp] s (execCmpMessageFlush dev s) := by
  unfold execCmpMessageFlush
  all_goals (repeat' (first | with_reducible exact .refl | with_reducible apply Ends.next | (with_reducible apply Moves.step State.cmpSendFrame_moves; · decide) | dsimp -proj only | split))

end Sys2Proof.Machine
end

