-- ==== Sys2Proof/Laws/Moves/Egress.lean ====
section
/-! SUPPORT. What each operation of Machine/Egress.lean can touch, and that it keeps the stores canonical. -/

namespace Sys2Proof.Machine

theorem execMcGroupWrite_moves {g : Fin 32768} {value : Word} {s : State} :
    Ends reactParts s (execMcGroupWrite g value s) := by
  unfold execMcGroupWrite
  all_goals (repeat' (first | with_reducible exact .refl | with_reducible apply Ends.next | (with_reducible apply Moves.step State.setReg_moves; · decide) | (with_reducible apply Moves.step State.refusedWrite_moves; · decide) | dsimp -proj only | split))

theorem State.setShaper_moves {s : State} {x : Nat} {y : Shaper} :
    Moves [.egr] s (State.setShaper s x y) := by
  unfold State.setShaper
  all_goals (repeat' (first | with_reducible exact .refl | dsimp -proj only | split | (with_reducible apply Moves.egr; · decide)))

theorem State.refill_moves {s : State} {x : Nat} :
    Moves [.egr] s (State.refill s x) := by
  unfold State.refill
  all_goals (repeat' (first | with_reducible exact .refl | (with_reducible apply Moves.step State.setShaper_moves; · decide) | dsimp -proj only | split))

theorem execShaperRefill_moves {s : State} :
    Ends [.egr] s (execShaperRefill s) := by
  unfold execShaperRefill
  all_goals (repeat' (first | with_reducible exact .refl | with_reducible apply Ends.next | (with_reducible apply Moves.step State.refill_moves; · decide) | with_reducible apply Moves.fold | with_reducible apply Moves.fold₁ | with_reducible intro _ _ | dsimp -proj only | split))

theorem State.reshape_moves {s : State} {x : Nat} {old : ShaperSet} :
    Moves [.egr] s (State.reshape s x old) := by
  unfold State.reshape
  all_goals (repeat' (first | with_reducible exact .refl | (with_reducible apply Moves.step State.setShaper_moves; · decide) | dsimp -proj only | split))

theorem State.swapProfile_moves {s : State} :
    Moves [.regs, .egr] s (State.swapProfile s) := by
  unfold State.swapProfile
  all_goals (repeat' (first | with_reducible exact .refl | (with_reducible apply Moves.step State.setFld_moves; · decide) | (with_reducible apply Moves.step State.reshape_moves; · decide) | with_reducible apply Moves.fold | with_reducible apply Moves.fold₁ | with_reducible intro _ _ | dsimp -proj only | split))

theorem execShaperSwap_moves {value : Word} {s : State} :
    Ends [.regs, .egr] s (execShaperSwap value s) := by
  unfold execShaperSwap
  all_goals (repeat' (first | with_reducible exact .refl | with_reducible apply Ends.next | (with_reducible apply Moves.step State.swapProfile_moves; · decide) | dsimp -proj only | split))

theorem execShaperConfigWrite_moves {x : Fin 21504} {k : Fin 2} {burst : Bool} {value : Word} {s : State} :
    Ends [.regs, .egr] s (execShaperConfigWrite x k burst value s) := by
  unfold execShaperConfigWrite
  all_goals (repeat' (first | with_reducible exact .refl | with_reducible apply Ends.next | (with_reducible apply Moves.step State.setReg_moves; · decide) | (with_reducible apply Moves.step State.reshape_moves; · decide) | dsimp -proj only | split))

theorem State.pickQueue_moves {s t : State} {p q : Nat} (h : s.pickQueue p = some (t, q)) : Moves [.egr] s t := by
  unfold State.pickQueue at h
  dsimp only at h
  repeat' (split at h)
  all_goals first | cases h | skip
  all_goals exact .egr (by decide) .refl

theorem State.credit_moves {s : State} {q g : Nat} {n : Int} :
    Moves [.egr] s (State.credit s q g n) := by
  unfold State.credit
  all_goals (repeat' (first | with_reducible exact .refl | (with_reducible apply Moves.step State.setShaper_moves; · decide) | with_reducible apply Moves.fold | with_reducible apply Moves.fold₁ | with_reducible intro _ _ | dsimp -proj only | split | (with_reducible apply Moves.egr; · decide)))

theorem State.countTaken_moves {s : State} {q : Nat} {e : QEntry} :
    Moves [.counters, .rx] s (State.countTaken s q e) := by
  unfold State.countTaken
  all_goals (repeat' (first | with_reducible exact .refl | (with_reducible apply Moves.step State.count_moves; · decide) | (with_reducible apply Moves.step State.setInfo_moves; · decide) | dsimp -proj only | split))

theorem State.takeCopy_moves {s : State} {p q : Nat} {e : QEntry} :
    Moves [.counters, .rx, .pipes, .egr] s (State.takeCopy s p q e) := by
  unfold State.takeCopy
  all_goals (repeat' (first | with_reducible exact .refl | (with_reducible apply Moves.step State.setTx_moves; · decide) | (with_reducible apply Moves.step State.setQueue_moves; · decide) | (with_reducible apply Moves.step State.setAhead_moves; · decide) | (with_reducible apply Moves.step State.setSelected_moves; · decide) | (with_reducible apply Moves.step State.resetEmpty_moves; · decide) | (with_reducible apply Moves.step State.credit_moves; · decide) | (with_reducible apply Moves.step State.countTaken_moves; · decide) | dsimp -proj only | split))

theorem State.issueGrant_moves {s : State} {q dev v : Nat} :
    Moves [.counters, .egr, .cmp] s (State.issueGrant s q dev v) := by
  unfold State.issueGrant
  all_goals (repeat' (first | with_reducible exact .refl | (with_reducible apply Moves.step State.cmpSend_moves; · decide) | (with_reducible apply Moves.step State.setCmpPending_moves; · decide) | (with_reducible apply Moves.step State.credit_moves; · decide) | dsimp -proj only | split))

theorem State.served_moves {s : State} {p : Nat} :
    Moves [.egr] s (State.served s p) := by
  unfold State.served
  all_goals (repeat' (first | with_reducible exact .refl | dsimp -proj only | split | (with_reducible apply Moves.egr; · decide)))

theorem State.takeResend_moves {s : State} {p : Nat} {r : RetryEntry} :
    Moves (.tel :: .cmp :: reactParts) s (State.takeResend s p r) := by
  unfold State.takeResend
  all_goals (repeat' (first | with_reducible exact .refl | (with_reducible apply Moves.step State.setTx_moves; · decide) | (with_reducible apply Moves.step State.checkGuards_moves; · decide) | (with_reducible apply Moves.step (State.checkGuards_moves_eq (by assumption)); · decide) | dsimp -proj only | split))

theorem State.serve_moves {s : State} {p : Nat} :
    Moves (.tel :: .cmp :: reactParts) s (State.serve s p) := by
  unfold State.serve
  all_goals (repeat' (first | with_reducible exact .refl | (with_reducible apply Moves.step (State.pickQueue_moves (by assumption)); · decide) | (with_reducible apply Moves.step State.takeCopy_moves; · decide) | (with_reducible apply Moves.step State.issueGrant_moves; · decide) | (with_reducible apply Moves.step State.takeResend_moves; · decide) | dsimp -proj only | split))

theorem execSchedulerSelect_moves {port : Port} {s : State} :
    Ends (.tel :: .cmp :: reactParts) s (execSchedulerSelect port s) := by
  unfold execSchedulerSelect
  all_goals (repeat' (first | with_reducible exact .refl | with_reducible apply Ends.next | (with_reducible apply Moves.step State.served_moves; · decide) | (with_reducible apply Moves.step State.serve_moves; · decide) | dsimp -proj only | split))

theorem State.withdraw_moves {s : State} {p : Nat} :
    Moves [.counters, .pipes, .egr] s (State.withdraw s p) := by
  unfold State.withdraw
  all_goals (repeat' (first | with_reducible exact .refl | (with_reducible apply Moves.step State.count_moves; · decide) | (with_reducible apply Moves.step State.setTx_moves; · decide) | (with_reducible apply Moves.step State.setAhead_moves; · decide) | (with_reducible apply Moves.step State.dropPass_moves; · decide) | (with_reducible apply Moves.step State.credit_moves; · decide) | dsimp -proj only | split))

theorem State.ackSent_moves {s : State} {p : Nat} :
    Moves [.via] s (State.ackSent s p) := by
  unfold State.ackSent
  all_goals (repeat' (first | with_reducible exact .refl | (with_reducible apply Moves.step State.setVia_moves; · decide) | dsimp -proj only | split))

theorem State.startStamp_moves {s : State} {p : Nat} {k : Packet} :
    Moves [.regs, .emitted, .freeCount, .time, .ks] s (State.startStamp s p k) := by
  unfold State.startStamp
  all_goals (repeat' (first | with_reducible exact .refl | (with_reducible apply Moves.step State.ptpSeen_moves; · decide) | dsimp -proj only | split))

theorem State.takeSeq_moves {s : State} {p h n : Nat} :
    Moves [.via] s (State.takeSeq s p h n) := by
  unfold State.takeSeq
  all_goals (repeat' (first | with_reducible exact .refl | (with_reducible apply Moves.step State.setVia_moves; · decide) | dsimp -proj only | split))

theorem State.startCopy_moves {s : State} {p : Nat} {t : TxCopy} {k : Packet} :
    Moves (.tel :: .cmp :: .time :: .ks :: reactParts) s (State.startCopy s p t k) := by
  unfold State.startCopy
  all_goals (repeat' (first | with_reducible exact .refl | (with_reducible apply Moves.step State.setTx_moves; · decide) | (with_reducible apply Moves.step State.checkGuards_moves; · decide) | (with_reducible apply Moves.step (State.checkGuards_moves_eq (by assumption)); · decide) | (with_reducible apply Moves.step State.ackSent_moves; · decide) | (with_reducible apply Moves.step State.startStamp_moves; · decide) | (with_reducible apply Moves.step State.takeSeq_moves; · decide) | dsimp -proj only | split))

theorem State.startResend_moves {s : State} {p : Nat} {t : TxCopy} :
    Moves [.egr, .via] s (State.startResend s p t) := by
  unfold State.startResend
  all_goals (repeat' (first | with_reducible exact .refl | (with_reducible apply Moves.step State.setTx_moves; · decide) | (with_reducible apply Moves.step State.ackSent_moves; · decide) | dsimp -proj only | split))

theorem execTransmitStart_moves {port : Port} {s : State} :
    Ends (.tel :: .cmp :: .time :: .ks :: reactParts) s (execTransmitStart port s) := by
  unfold execTransmitStart
  all_goals (repeat' (first | with_reducible exact .refl | with_reducible apply Ends.next | (with_reducible apply Moves.step State.setTx_moves; · decide) | (with_reducible apply Moves.step State.ackSent_moves; · decide) | (with_reducible apply Moves.step State.startCopy_moves; · decide) | (with_reducible apply Moves.step State.startResend_moves; · decide) | dsimp -proj only | split))

theorem State.latency_moves {s : State} {t : TxCopy} {k : Packet} :
    Moves [.counters, .tel] s (State.latency s t k) := by
  unfold State.latency
  all_goals (repeat' (first | with_reducible exact .refl | (with_reducible apply Moves.step State.count_moves; · decide) | (with_reducible apply Moves.step State.histAdd_moves; · decide) | dsimp -proj only | split))

theorem State.settleCharge_moves {s : State} {p : Nat} {t : TxCopy} :
    Moves [.egr] s (State.settleCharge s p t) := by
  unfold State.settleCharge
  all_goals (repeat' (first | with_reducible exact .refl | (with_reducible apply Moves.step State.credit_moves; · decide) | dsimp -proj only | split))

theorem State.sent_moves {s : State} {p : Nat} {deck body : List Byte} :
    Moves [.counters, .emitted] s (State.sent s p deck body) := by
  unfold State.sent
  all_goals (repeat' (first | with_reducible exact .refl | (with_reducible apply Moves.step State.emit_moves; · decide) | (with_reducible apply Moves.step State.count_moves; · decide) | dsimp -proj only | split))

theorem State.copySent_moves {s : State} {p : Nat} {t : TxCopy} {body : List Byte} :
    Moves (.cmp :: reactParts) s (State.copySent s p t body) := by
  unfold State.copySent
  all_goals (repeat' (first | with_reducible exact .refl | (with_reducible apply Moves.step State.setVia_moves; · decide) | (with_reducible apply Moves.step State.outcome_moves; · decide) | (with_reducible apply Moves.step State.holderOp_moves; · decide) | (with_reducible apply Moves.step (State.holderOp_moves_eq (by assumption)); · decide) | (with_reducible apply Moves.step State.release_moves; · decide) | dsimp -proj only | split))

theorem State.finishCopy_moves {s : State} {p : Nat} {t : TxCopy} {k : Packet} :
    Moves (.tel :: .cmp :: reactParts) s (State.finishCopy s p t k) := by
  unfold State.finishCopy
  all_goals (repeat' (first | with_reducible exact .refl | (with_reducible apply Moves.step State.count_moves; · decide) | (with_reducible apply Moves.step State.setTx_moves; · decide) | (with_reducible apply Moves.step State.freeEntry_moves; · decide) | (with_reducible apply Moves.step State.checkGuards_moves; · decide) | (with_reducible apply Moves.step (State.checkGuards_moves_eq (by assumption)); · decide) | (with_reducible apply Moves.step State.latency_moves; · decide) | (with_reducible apply Moves.step State.settleCharge_moves; · decide) | (with_reducible apply Moves.step State.sent_moves; · decide) | (with_reducible apply Moves.step State.copySent_moves; · decide) | dsimp -proj only | split))

theorem State.finishMessage_moves {s : State} {p : Nat} {t : TxCopy} :
    Moves [.counters, .emitted, .egr] s (State.finishMessage s p t) := by
  unfold State.finishMessage
  all_goals (repeat' (first | with_reducible exact .refl | (with_reducible apply Moves.step State.setTx_moves; · decide) | (with_reducible apply Moves.step State.sent_moves; · decide) | dsimp -proj only | split))

theorem State.finishResend_moves {s : State} {p : Nat} {t : TxCopy} :
    Moves [.counters, .emitted, .egr, .via] s (State.finishResend s p t) := by
  unfold State.finishResend
  all_goals (repeat' (first | with_reducible exact .refl | (with_reducible apply Moves.step State.count_moves; · decide) | (with_reducible apply Moves.step State.setTx_moves; · decide) | (with_reducible apply Moves.step State.setVia_moves; · decide) | (with_reducible apply Moves.step State.sent_moves; · decide) | dsimp -proj only | split))

theorem execTransmitComplete_moves {port : Port} {s : State} :
    Ends (.tel :: .cmp :: reactParts) s (execTransmitComplete port s) := by
  unfold execTransmitComplete
  all_goals (repeat' (first | with_reducible exact .refl | with_reducible apply Ends.next | (with_reducible apply Moves.step State.finishCopy_moves; · decide) | (with_reducible apply Moves.step State.finishMessage_moves; · decide) | (with_reducible apply Moves.step State.finishResend_moves; · decide) | dsimp -proj only | split))

theorem execPfcXoffRefresh_moves {port : Port} {pri : Fin 8} {s : State} :
    Ends [.counters, .emitted] s (execPfcXoffRefresh port pri s) := by
  unfold execPfcXoffRefresh
  all_goals (repeat' (first | with_reducible exact .refl | with_reducible apply Ends.next | (with_reducible apply Moves.step State.xoff_moves; · decide) | dsimp -proj only | split))

theorem State.setStop_moves {s : State} {p k n : Nat} :
    Moves [.egr] s (State.setStop s p k n) := by
  unfold State.setStop
  all_goals (repeat' (first | with_reducible exact .refl | dsimp -proj only | split | (with_reducible apply Moves.egr; · decide)))

theorem execPfcRx_moves {port : Port} {enable : Byte} {times : List (BitVec 16)} {s : State} :
    Ends [.counters, .pipes, .egr] s (execPfcRx port enable times s) := by
  unfold execPfcRx
  all_goals (repeat' (first | with_reducible exact .refl | with_reducible apply Ends.next | (with_reducible apply Moves.step State.count_moves; · decide) | (with_reducible apply Moves.step State.withdraw_moves; · decide) | (with_reducible apply Moves.step State.setStop_moves; · decide) | with_reducible apply Moves.fold | with_reducible apply Moves.fold₁ | with_reducible intro _ _ | dsimp -proj only | split))

theorem execPauseRx_moves {port : Port} {quanta : BitVec 16} {s : State} :
    Ends [.counters, .pipes, .egr] s (execPauseRx port quanta s) := by
  unfold execPauseRx
  all_goals (repeat' (first | with_reducible exact .refl | with_reducible apply Ends.next | (with_reducible apply Moves.step State.count_moves; · decide) | (with_reducible apply Moves.step State.withdraw_moves; · decide) | (with_reducible apply Moves.step State.setStop_moves; · decide) | dsimp -proj only | split))

theorem execPfcPauseExpire_moves {port : Port} {pri : Option (Fin 8)} {s : State} :
    Ends [.egr] s (execPfcPauseExpire port pri s) := by
  unfold execPfcPauseExpire
  all_goals (repeat' (first | with_reducible exact .refl | with_reducible apply Ends.next | (with_reducible apply Moves.step State.setStop_moves; · decide) | dsimp -proj only | split))

theorem State.countStopped_moves {s : State} {clocks : Nat} :
    Moves [.counters] s (State.countStopped s clocks) := by
  unfold State.countStopped
  all_goals (repeat' (first | with_reducible exact .refl | (with_reducible apply Moves.step State.count_moves; · decide) | with_reducible apply Moves.fold | with_reducible apply Moves.fold₁ | with_reducible intro _ _ | dsimp -proj only | split))

end Sys2Proof.Machine
end

