-- ==== Sys2Proof/Laws/Moves/Loader.lean ====
section
/-! SUPPORT. What each operation of Machine/Loader.lean can touch, and that it keeps the stores canonical. -/

namespace Sys2Proof.Machine

theorem State.setShadow_moves {s : State} {n : Nat} :
    Moves [.regs] s (State.setShadow s n) := by
  unfold State.setShadow
  all_goals (repeat' (first | with_reducible exact .refl | (with_reducible apply Moves.step State.setFld_moves; · decide) | dsimp -proj only | split))

theorem State.loadStatus_moves {s : State} {st : Nat} {c : LoadCode} {x : LoadPlace} :
    Moves [.regs] s (State.loadStatus s st c x) := by
  unfold State.loadStatus
  all_goals (repeat' (first | with_reducible exact .refl | (with_reducible apply Moves.step State.setReg_moves; · decide) | dsimp -proj only | split))

theorem State.loadFails_moves {s : State} {c : LoadCode} {x : LoadPlace} :
    Moves [.regs, .emitted] s (State.loadFails s c x) := by
  unfold State.loadFails
  all_goals (repeat' (first | with_reducible exact .refl | (with_reducible apply Moves.step State.irq_moves; · decide) | (with_reducible apply Moves.step State.loadStatus_moves; · decide) | dsimp -proj only | split))

theorem State.loadStart_moves {s : State} {value : Word} :
    Moves reactParts s (State.loadStart s value) := by
  unfold State.loadStart
  all_goals (repeat' (first | with_reducible exact .refl | (with_reducible apply Moves.step State.latchFault_moves; · decide) | (with_reducible apply Moves.step State.writeOrdinary_moves; · decide) | (with_reducible apply Moves.step State.setShadow_moves; · decide) | (with_reducible apply Moves.step State.loadStatus_moves; · decide) | (with_reducible apply Moves.step State.loadFails_moves; · decide) | dsimp -proj only | split | (with_reducible apply Moves.progs; · decide)))

theorem execLoadStart_moves {value : Word} {s : State} :
    Ends reactParts s (execLoadStart value s) := by
  unfold execLoadStart
  all_goals (repeat' (first | with_reducible exact .refl | with_reducible apply Ends.next | (with_reducible apply Moves.step State.loadStart_moves; · decide) | dsimp -proj only | split))

theorem State.clearRegion_moves {s : State} {genB cust : Bool} :
    Moves [.progs] s (State.clearRegion s genB cust) := by
  unfold State.clearRegion
  all_goals (repeat' (first | with_reducible exact .refl | dsimp -proj only | split | (with_reducible apply Moves.progs; · decide)))

theorem State.writeSection_moves {s : State} {genB : Bool} {img : List Byte} {x : Section} :
    Moves [.progs] s (State.writeSection s genB img x) := by
  unfold State.writeSection
  all_goals (repeat' (first | with_reducible exact .refl | (with_reducible apply Moves.step State.setStoreAll_moves; · decide) | with_reducible apply Moves.fold | with_reducible apply Moves.fold₁ | with_reducible intro _ _ | dsimp -proj only | split))

theorem State.writeImage_moves {s : State} {genB cust : Bool} {img : List Byte} :
    Moves [.progs] s (State.writeImage s genB cust img) := by
  unfold State.writeImage
  all_goals (repeat' (first | with_reducible exact .refl | (with_reducible apply Moves.step State.clearRegion_moves; · decide) | (with_reducible apply Moves.step State.writeSection_moves; · decide) | with_reducible apply Moves.fold | with_reducible apply Moves.fold₁ | with_reducible intro _ _ | dsimp -proj only | split))

theorem State.setRequire_moves {s : State} {genB : Bool} {w : Word} :
    Moves [.progs] s (State.setRequire s genB w) := by
  unfold State.setRequire
  all_goals (repeat' (first | with_reducible exact .refl | dsimp -proj only | split | (with_reducible apply Moves.progs; · decide)))

theorem State.installImage_moves {s : State} {img : List Byte} :
    Moves [.regs, .emitted, .progs] s (State.installImage s img) := by
  unfold State.installImage
  all_goals (repeat' (first | with_reducible exact .refl | (with_reducible apply Moves.step State.setReg_moves; · decide) | (with_reducible apply Moves.step State.setFld_moves; · decide) | (with_reducible apply Moves.step State.incSat_moves; · decide) | (with_reducible apply Moves.step State.irq_moves; · decide) | (with_reducible apply Moves.step State.setShadow_moves; · decide) | (with_reducible apply Moves.step State.loadStatus_moves; · decide) | (with_reducible apply Moves.step State.writeImage_moves; · decide) | (with_reducible apply Moves.step State.setRequire_moves; · decide) | dsimp -proj only | split))

theorem State.loadComplete_moves {s : State} {image : Option (List Byte)} {badCopy : Option (Span × Pass × PipeNo)} :
    Moves reactParts s (State.loadComplete s image badCopy) := by
  unfold State.loadComplete
  all_goals (repeat' (first | with_reducible exact .refl | (with_reducible apply Moves.step State.latchFault_moves; · decide) | (with_reducible apply Moves.step State.setShadow_moves; · decide) | (with_reducible apply Moves.step State.loadFails_moves; · decide) | (with_reducible apply Moves.step State.writeImage_moves; · decide) | (with_reducible apply Moves.step State.installImage_moves; · decide) | dsimp -proj only | split))

theorem execLoadComplete_moves {image : Option (List Byte)} {badCopy : Option (Span × Pass × PipeNo)} {s : State} :
    Ends reactParts s (execLoadComplete image badCopy s) := by
  unfold execLoadComplete
  all_goals (repeat' (first | with_reducible exact .refl | with_reducible apply Ends.next | (with_reducible apply Moves.step State.loadComplete_moves; · decide) | dsimp -proj only | split))

theorem State.jointRefused_moves {s : State} {cause : Nat} :
    Moves reactParts s (State.jointRefused s cause) := by
  unfold State.jointRefused
  all_goals (repeat' (first | with_reducible exact .refl | (with_reducible apply Moves.step State.showAbort_moves; · decide) | (with_reducible apply Moves.step State.latchFault_moves; · decide) | dsimp -proj only | split))

theorem State.jointArm_moves {s : State} :
    Moves reactParts s (State.jointArm s) := by
  unfold State.jointArm
  all_goals (repeat' (first | with_reducible exact .refl | (with_reducible apply Moves.step State.setFld_moves; · decide) | (with_reducible apply Moves.step State.setBit_moves; · decide) | (with_reducible apply Moves.step State.jointRefused_moves; · decide) | dsimp -proj only | split | (with_reducible apply Moves.progs; · decide)))

theorem State.jointCheck_moves {s : State} :
    Moves [.regs, .counters, .emitted, .freeCount, .fc, .buf, .progs, .pierTx] s (State.jointCheck s) := by
  unfold State.jointCheck
  all_goals (repeat' (first | with_reducible exact .refl | (with_reducible apply Moves.step State.abortJoint_moves; · decide) | dsimp -proj only | split | (with_reducible apply Moves.progs; · decide)))

theorem State.jointFlip_moves {s : State} :
    Moves [.regs, .emitted] s (State.jointFlip s) := by
  unfold State.jointFlip
  all_goals (repeat' (first | with_reducible exact .refl | (with_reducible apply Moves.step State.setReg_moves; · decide) | (with_reducible apply Moves.step State.setFld_moves; · decide) | (with_reducible apply Moves.step State.setBit_moves; · decide) | (with_reducible apply Moves.step State.incMod_moves; · decide) | (with_reducible apply Moves.step State.irq_moves; · decide) | (with_reducible apply Moves.step State.checkDrained_moves; · decide) | (with_reducible apply Moves.step State.setShadow_moves; · decide) | dsimp -proj only | split))

theorem State.jointFire_moves {s : State} {slot : Nat} :
    Moves [.regs, .counters, .emitted, .freeCount, .fc, .buf, .progs, .pierTx] s (State.jointFire s slot) := by
  unfold State.jointFire
  all_goals (repeat' (first | with_reducible exact .refl | (with_reducible apply Moves.step State.setBit_moves; · decide) | (with_reducible apply Moves.step State.disarmJoint_moves; · decide) | (with_reducible apply Moves.step State.jointCheck_moves; · decide) | (with_reducible apply Moves.step State.jointFlip_moves; · decide) | dsimp -proj only | split))

theorem State.jointNow_moves {s : State} :
    Moves reactParts s (State.jointNow s) := by
  unfold State.jointNow
  all_goals (repeat' (first | with_reducible exact .refl | (with_reducible apply Moves.step State.disarmJoint_moves; · decide) | (with_reducible apply Moves.step State.showAbort_moves; · decide) | (with_reducible apply Moves.step State.latchFault_moves; · decide) | (with_reducible apply Moves.step State.jointFlip_moves; · decide) | dsimp -proj only | split))

theorem State.jointCancelled_moves {s : State} :
    Moves [.progs] s (State.jointCancelled s) := by
  unfold State.jointCancelled
  all_goals (repeat' (first | with_reducible exact .refl | dsimp -proj only | split | (with_reducible apply Moves.progs; · decide)))

theorem State.writeJoint_moves {s : State} {value : Word} :
    Moves reactParts s (State.writeJoint s value) := by
  unfold State.writeJoint
  all_goals (repeat' (first | with_reducible exact .refl | (with_reducible apply Moves.step State.writeOrdinary_moves; · decide) | (with_reducible apply Moves.step State.jointArm_moves; · decide) | (with_reducible apply Moves.step State.jointNow_moves; · decide) | (with_reducible apply Moves.step State.jointCancelled_moves; · decide) | dsimp -proj only | split))

theorem execJointArm_moves {value : Word} {s : State} :
    Ends reactParts s (execJointArm value s) := by
  unfold execJointArm
  all_goals (repeat' (first | with_reducible exact .refl | with_reducible apply Ends.next | (with_reducible apply Moves.step State.writeJoint_moves; · decide) | dsimp -proj only | split))

theorem execJointCancel_moves {value : Word} {s : State} :
    Ends reactParts s (execJointCancel value s) := by
  unfold execJointCancel
  all_goals (repeat' (first | with_reducible exact .refl | with_reducible apply Ends.next | (with_reducible apply Moves.step State.writeJoint_moves; · decide) | dsimp -proj only | split))

theorem execJointNow_moves {value : Word} {s : State} :
    Ends reactParts s (execJointNow value s) := by
  unfold execJointNow
  all_goals (repeat' (first | with_reducible exact .refl | with_reducible apply Ends.next | (with_reducible apply Moves.step State.writeJoint_moves; · decide) | dsimp -proj only | split))

theorem execJointCheck_moves {s : State} :
    Ends [.regs, .counters, .emitted, .freeCount, .fc, .buf, .progs, .pierTx] s (execJointCheck s) := by
  unfold execJointCheck
  all_goals (repeat' (first | with_reducible exact .refl | with_reducible apply Ends.next | (with_reducible apply Moves.step State.jointCheck_moves; · decide) | dsimp -proj only | split))

theorem State.storeScrub_moves {s : State} {w : StoreRef} {check : ReadCheck} {good : Option (Fin 16)} :
    Moves reactParts s (State.storeScrub s w check good) := by
  unfold State.storeScrub
  all_goals (repeat' (first | with_reducible exact .refl | (with_reducible apply Moves.step State.count_moves; · decide) | (with_reducible apply Moves.step State.latchFault_moves; · decide) | (with_reducible apply Moves.step State.meetAt_moves; · decide) | (with_reducible apply Moves.step State.corrected_moves; · decide) | (with_reducible apply Moves.step State.setStoreOne_moves; · decide) | (with_reducible apply Moves.step State.setShadow_moves; · decide) | dsimp -proj only | split))

theorem execStoreScrub_moves {word : StoreRef} {check : ReadCheck} {good : Option (Fin 16)} {s : State} :
    Ends reactParts s (execStoreScrub word check good s) := by
  unfold execStoreScrub
  all_goals (repeat' (first | with_reducible exact .refl | with_reducible apply Ends.next | (with_reducible apply Moves.step State.storeScrub_moves; · decide) | dsimp -proj only | split))

end Sys2Proof.Machine
end

