-- ==== Sys2Proof/Laws/Moves/Cadence.lean ====
section
/-! SUPPORT. What each operation of Machine/Cadence.lean can touch, and that it keeps the stores canonical. -/

namespace Sys2Proof.Machine

theorem State.slotBit_moves {s : State} {off i : Nat} :
    Moves [.regs] s (State.slotBit s off i) := by
  unfold State.slotBit
  all_goals (repeat' (first | with_reducible exact .refl | (with_reducible apply Moves.step State.setBit_moves; · decide) | dsimp -proj only | split))

theorem State.slotMissed_moves {s : State} {i : Nat} :
    Moves [.regs, .counters, .emitted, .freeCount, .fc, .buf, .progs, .pierTx, .pwr] s (State.slotMissed s i) := by
  unfold State.slotMissed
  all_goals (repeat' (first | with_reducible exact .refl | (with_reducible apply Moves.step State.setBit_moves; · decide) | (with_reducible apply Moves.step State.dropRise_moves; · decide) | (with_reducible apply Moves.step State.abortJoint_moves; · decide) | (with_reducible apply Moves.step State.slotBit_moves; · decide) | dsimp -proj only | split))

theorem State.advanceSlots_moves {s : State} :
    Moves [.regs, .counters, .emitted, .freeCount, .fc, .buf, .progs, .pierTx, .pwr] s (State.advanceSlots s) := by
  unfold State.advanceSlots
  all_goals (repeat' (first | with_reducible exact .refl | (with_reducible apply Moves.step State.setSlotMark_moves; · decide) | (with_reducible apply Moves.step State.slotMissed_moves; · decide) | with_reducible apply Moves.fold | with_reducible apply Moves.fold₁ | with_reducible intro _ _ | dsimp -proj only | split))

theorem State.slotAdvance_moves {s : State} {i : Nat} :
    Moves [.regs] s (State.slotAdvance s i) := by
  unfold State.slotAdvance
  all_goals (repeat' (first | with_reducible exact .refl | (with_reducible apply Moves.step State.setBit_moves; · decide) | (with_reducible apply Moves.step State.setSlotMark_moves; · decide) | (with_reducible apply Moves.step State.slotBit_moves; · decide) | dsimp -proj only | split))

theorem State.slotEffect_moves {s : State} {i ev arg : Nat} :
    Moves [.regs, .counters, .emitted, .freeCount, .fc, .buf, .progs, .egr, .tel, .pierTx, .pwr] s (State.slotEffect s i ev arg) := by
  unfold State.slotEffect
  all_goals (repeat' (first | with_reducible exact .refl | (with_reducible apply Moves.step State.irq_moves; · decide) | (with_reducible apply Moves.step State.phaseMark_moves; · decide) | (with_reducible apply Moves.step State.concordMark_moves; · decide) | (with_reducible apply Moves.step State.telRoll_moves; · decide) | (with_reducible apply Moves.step State.swapProfile_moves; · decide) | (with_reducible apply Moves.step State.jointFire_moves; · decide) | dsimp -proj only | split))

theorem State.slotFire_moves {s : State} {due : List Nat} {i : Nat} :
    Moves [.regs, .counters, .emitted, .freeCount, .fc, .buf, .progs, .egr, .tel, .pierTx, .pwr] s (State.slotFire s due i) := by
  unfold State.slotFire
  all_goals (repeat' (first | with_reducible exact .refl | (with_reducible apply Moves.step State.slotAdvance_moves; · decide) | (with_reducible apply Moves.step State.slotEffect_moves; · decide) | dsimp -proj only | split))

theorem execCadSlotFire_moves {slots : DWord} {s : State} :
    Ends [.regs, .counters, .emitted, .freeCount, .fc, .buf, .progs, .egr, .tel, .pierTx, .pwr] s (execCadSlotFire slots s) := by
  unfold execCadSlotFire
  all_goals (repeat' (first | with_reducible exact .refl | with_reducible apply Ends.next | (with_reducible apply Moves.step State.slotMissed_moves; · decide) | (with_reducible apply Moves.step State.slotFire_moves; · decide) | with_reducible apply Moves.fold | with_reducible apply Moves.fold₁ | with_reducible intro _ _ | dsimp -proj only | split))

end Sys2Proof.Machine
end

