-- ==== Sys2Proof/Laws/Moves/Viaduct.lean ====
section
/-! SUPPORT. What each operation of Machine/Viaduct.lean can touch, and that it keeps the stores canonical. -/

namespace Sys2Proof.Machine

theorem State.drawEpoch_moves {s : State} {prev : Word} :
    Moves [.freeCount] s (State.drawEpoch s prev).1 := by
  unfold State.drawEpoch
  all_goals (repeat' (first | with_reducible exact .refl | dsimp -proj only | split | (with_reducible apply Moves.freeCount; · decide)))

theorem State.drawEpoch_moves_eq {s : State} {prev : Word} {sEnd : State} {yEnd} (he : State.drawEpoch s prev = (sEnd, yEnd)) : Moves [.freeCount] s sEnd := by
  have := @State.drawEpoch_moves s prev
  rw [he] at this
  exact this

theorem State.abandonRetry_moves {s : State} {p kind : Nat} :
    Moves (.cmp :: reactParts) s (State.abandonRetry s p kind) := by
  unfold State.abandonRetry
  all_goals (repeat' (first | with_reducible exact .refl | (with_reducible apply Moves.step State.count_moves; · decide) | (with_reducible apply Moves.step State.setVia_moves; · decide) | (with_reducible apply Moves.step State.lose_moves; · decide) | (with_reducible apply Moves.step State.release_moves; · decide) | (with_reducible apply Moves.step State.dropRerun_moves; · decide) | with_reducible apply Moves.fold | with_reducible apply Moves.fold₁ | with_reducible intro _ _ | dsimp -proj only | split))

theorem State.stompData_moves {s : State} {p : Nat} :
    Moves [.counters, .emitted, .pipes, .egr, .via] s (State.stompData s p) := by
  unfold State.stompData
  all_goals (repeat' (first | with_reducible exact .refl | (with_reducible apply Moves.step State.stompAhead_moves; · decide) | (with_reducible apply Moves.step State.dropPass_moves; · decide) | dsimp -proj only | split))

theorem State.viaReset_moves {s : State} {p kind : Nat} :
    Moves (.cmp :: reactParts) s (State.viaReset s p kind) := by
  unfold State.viaReset
  all_goals (repeat' (first | with_reducible exact .refl | (with_reducible apply Moves.step State.setVia_moves; · decide) | (with_reducible apply Moves.step State.drawEpoch_moves; · decide) | (with_reducible apply Moves.step (State.drawEpoch_moves_eq (by assumption)); · decide) | (with_reducible apply Moves.step State.abandonRetry_moves; · decide) | (with_reducible apply Moves.step State.stompData_moves; · decide) | dsimp -proj only | split))

theorem State.sendInit_moves {s : State} {p type : Nat} :
    Moves [.emitted, .via] s (State.sendInit s p type) := by
  unfold State.sendInit
  all_goals (repeat' (first | with_reducible exact .refl | (with_reducible apply Moves.step State.sendControl_moves; · decide) | dsimp -proj only | split))

theorem execViaInitTimer_moves {port : Port} {s : State} :
    Ends [.emitted, .via] s (execViaInitTimer port s) := by
  unfold execViaInitTimer
  all_goals (repeat' (first | with_reducible exact .refl | with_reducible apply Ends.next | (with_reducible apply Moves.step State.sendInit_moves; · decide) | dsimp -proj only | split))

theorem State.onControl_moves {ps : List StatePart} {s : State} {p type : Nat} {f : ViaFrame} {act : State → State}
    (hs : [.counters] ⊆ ps) (ha : ∀ u, Moves ps u (act u)) : Moves ps s (State.onControl s p type f act) := by
  unfold State.onControl
  exact .ite .refl (.ite (.mono hs State.count_moves) (.ite (ha s) .refl))

theorem State.recordPeer_moves {s : State} {p : Nat} {f : ViaFrame} :
    Moves [.via] s (State.recordPeer s p f) := by
  unfold State.recordPeer
  all_goals (repeat' (first | with_reducible exact .refl | (with_reducible apply Moves.step State.setVia_moves; · decide) | dsimp -proj only | split))

theorem State.ackCopy_moves {s : State} {p : Nat} {e : RetryEntry} :
    Moves (.cmp :: reactParts) s (State.ackCopy s p e) := by
  unfold State.ackCopy
  all_goals (repeat' (first | with_reducible exact .refl | (with_reducible apply Moves.step State.outcome_moves; · decide) | (with_reducible apply Moves.step State.release_moves; · decide) | dsimp -proj only | split))

theorem State.viaAck_moves {s : State} {p a : Nat} :
    Moves (.cmp :: reactParts) s (State.viaAck s p a) := by
  unfold State.viaAck
  all_goals (repeat' (first | with_reducible exact .refl | (with_reducible apply Moves.step State.setVia_moves; · decide) | (with_reducible apply Moves.step State.dropRerun_moves; · decide) | (with_reducible apply Moves.step State.ackCopy_moves; · decide) | with_reducible apply Moves.fold | with_reducible apply Moves.fold₁ | with_reducible intro _ _ | dsimp -proj only | split))

theorem State.frameAck_moves {s : State} {p : Nat} {deck : DWord} :
    Moves (.cmp :: reactParts) s (State.frameAck s p deck) := by
  unfold State.frameAck
  all_goals (repeat' (first | with_reducible exact .refl | (with_reducible apply Moves.step State.viaAck_moves; · decide) | dsimp -proj only | split))

theorem State.initRx_moves {s : State} {p : Nat} {f : ViaFrame} :
    Moves (.cmp :: reactParts) s (State.initRx s p f) := by
  unfold State.initRx
  all_goals (repeat' (first | with_reducible exact .refl | (with_reducible apply Moves.step State.viaReset_moves; · decide) | (with_reducible apply Moves.step State.sendInit_moves; · decide) | (with_reducible apply Moves.step State.recordPeer_moves; · decide) | (with_reducible apply Moves.step State.frameAck_moves; · decide) | dsimp -proj only | split))

theorem execViaInitRx_moves {port : Port} {frame : ViaFrame} {s : State} :
    Ends (.cmp :: reactParts) s (execViaInitRx port frame s) := by
  unfold execViaInitRx
  all_goals (repeat' (first | with_reducible exact .refl | with_reducible apply Ends.next | (with_reducible apply State.onControl_moves; (· decide); intro _) | (with_reducible apply Moves.step State.initRx_moves; · decide) | dsimp -proj only | split))

theorem State.initAckRx_moves {s : State} {p : Nat} {f : ViaFrame} :
    Moves (.cmp :: reactParts) s (State.initAckRx s p f) := by
  unfold State.initAckRx
  all_goals (repeat' (first | with_reducible exact .refl | (with_reducible apply Moves.step State.viaReset_moves; · decide) | (with_reducible apply Moves.step State.recordPeer_moves; · decide) | (with_reducible apply Moves.step State.frameAck_moves; · decide) | dsimp -proj only | split))

theorem execViaInitAckRx_moves {port : Port} {frame : ViaFrame} {s : State} :
    Ends (.cmp :: reactParts) s (execViaInitAckRx port frame s) := by
  unfold execViaInitAckRx
  all_goals (repeat' (first | with_reducible exact .refl | with_reducible apply Ends.next | (with_reducible apply State.onControl_moves; (· decide); intro _) | (with_reducible apply Moves.step State.initAckRx_moves; · decide) | dsimp -proj only | split))

theorem State.retransmitFrom_moves {s : State} {p q : Nat} :
    Moves [.via] s (State.retransmitFrom s p q) := by
  unfold State.retransmitFrom
  all_goals (repeat' (first | with_reducible exact .refl | (with_reducible apply Moves.step State.setVia_moves; · decide) | dsimp -proj only | split))

theorem State.sendNak_moves {s : State} {p : Nat} :
    Moves [.counters, .emitted, .via] s (State.sendNak s p) := by
  unfold State.sendNak
  all_goals (repeat' (first | with_reducible exact .refl | (with_reducible apply Moves.step State.count_moves; · decide) | (with_reducible apply Moves.step State.setVia_moves; · decide) | (with_reducible apply Moves.step State.sendControl_moves; · decide) | dsimp -proj only | split))

theorem State.nakAgain_moves {s : State} {p : Nat} :
    Moves [.via] s (State.nakAgain s p) := by
  unfold State.nakAgain
  all_goals (repeat' (first | with_reducible exact .refl | (with_reducible apply Moves.step State.setVia_moves; · decide) | dsimp -proj only | split))

theorem State.viaReceive_moves {s : State} {p seq : Nat} {fcsGood : Bool} {d : Option DescId} :
    Moves [.counters, .emitted, .via] s (State.viaReceive s p seq fcsGood d) := by
  unfold State.viaReceive
  all_goals (repeat' (first | with_reducible exact .refl | (with_reducible apply Moves.step State.count_moves; · decide) | (with_reducible apply Moves.step State.setVia_moves; · decide) | (with_reducible apply Moves.step State.sendNak_moves; · decide) | (with_reducible apply Moves.step State.nakAgain_moves; · decide) | dsimp -proj only | split))

theorem execViaDataRx_moves {port : Port} {deck : DWord} {fcsGood : Bool} {d : Option DescId} {s : State} :
    Ends (.cmp :: reactParts) s (execViaDataRx port deck fcsGood d s) := by
  unfold execViaDataRx
  all_goals (repeat' (first | with_reducible exact .refl | with_reducible apply Ends.next | (with_reducible apply Moves.step State.frameAck_moves; · decide) | (with_reducible apply Moves.step State.viaReceive_moves; · decide) | dsimp -proj only | split))

theorem execViaAckRx_moves {port : Port} {frame : ViaFrame} {s : State} :
    Ends (.cmp :: reactParts) s (execViaAckRx port frame s) := by
  unfold execViaAckRx
  all_goals (repeat' (first | with_reducible exact .refl | with_reducible apply Ends.next | (with_reducible apply State.onControl_moves; (· decide); intro _) | (with_reducible apply Moves.step State.frameAck_moves; · decide) | dsimp -proj only | split))

theorem State.nakRx_moves {s : State} {p : Nat} {f : ViaFrame} :
    Moves (.cmp :: reactParts) s (State.nakRx s p f) := by
  unfold State.nakRx
  all_goals (repeat' (first | with_reducible exact .refl | (with_reducible apply Moves.step State.count_moves; · decide) | (with_reducible apply Moves.step State.frameAck_moves; · decide) | (with_reducible apply Moves.step State.retransmitFrom_moves; · decide) | dsimp -proj only | split))

theorem execViaNakRx_moves {port : Port} {frame : ViaFrame} {s : State} :
    Ends (.cmp :: reactParts) s (execViaNakRx port frame s) := by
  unfold execViaNakRx
  all_goals (repeat' (first | with_reducible exact .refl | with_reducible apply Ends.next | (with_reducible apply State.onControl_moves; (· decide); intro _) | (with_reducible apply Moves.step State.nakRx_moves; · decide) | dsimp -proj only | split))

theorem execViaRetransmitDone_moves {port : Port} {s : State} :
    Ends [.via] s (execViaRetransmitDone port s) := by
  unfold execViaRetransmitDone
  all_goals (repeat' (first | with_reducible exact .refl | with_reducible apply Ends.next | (with_reducible apply Moves.step State.setVia_moves; · decide) | dsimp -proj only | split))

theorem execViaAckTimer_moves {port : Port} {s : State} :
    Ends [.emitted, .via] s (execViaAckTimer port s) := by
  unfold execViaAckTimer
  all_goals (repeat' (first | with_reducible exact .refl | with_reducible apply Ends.next | (with_reducible apply Moves.step State.sendControl_moves; · decide) | dsimp -proj only | split))

theorem execViaCreditTimer_moves {port : Port} {s : State} :
    Ends [.emitted, .via] s (execViaCreditTimer port s) := by
  unfold execViaCreditTimer
  all_goals (repeat' (first | with_reducible exact .refl | with_reducible apply Ends.next | (with_reducible apply Moves.step State.sendCredit_moves; · decide) | dsimp -proj only | split))

theorem State.creditRx_moves {s : State} {p : Nat} {f : ViaFrame} :
    Moves (.cmp :: reactParts) s (State.creditRx s p f) := by
  unfold State.creditRx
  all_goals (repeat' (first | with_reducible exact .refl | (with_reducible apply Moves.step State.setVia_moves; · decide) | (with_reducible apply Moves.step State.frameAck_moves; · decide) | dsimp -proj only | split))

theorem execViaCreditRx_moves {port : Port} {frame : ViaFrame} {s : State} :
    Ends (.cmp :: reactParts) s (execViaCreditRx port frame s) := by
  unfold execViaCreditRx
  all_goals (repeat' (first | with_reducible exact .refl | with_reducible apply Ends.next | (with_reducible apply State.onControl_moves; (· decide); intro _) | (with_reducible apply Moves.step State.creditRx_moves; · decide) | dsimp -proj only | split))

theorem execViaHoldWrite_moves {w : Fin 32} {value : Word} {s : State} :
    Ends [.regs] s (execViaHoldWrite w value s) := by
  unfold execViaHoldWrite
  all_goals (repeat' (first | with_reducible exact .refl | with_reducible apply Ends.next | (with_reducible apply Moves.step State.setReg_moves; · decide) | dsimp -proj only | split))

theorem State.setPortState_moves {s : State} {p v : Nat} :
    Moves [.regs] s (State.setPortState s p v) := by
  unfold State.setPortState
  all_goals (repeat' (first | with_reducible exact .refl | (with_reducible apply Moves.step State.setFld_moves; · decide) | with_reducible apply Moves.fold | with_reducible apply Moves.fold₁ | with_reducible intro _ _ | dsimp -proj only | split))

theorem State.setLane_moves {s : State} {l : Nat} {x : LaneRec} :
    Moves [.lanes] s (State.setLane s l x) := by
  unfold State.setLane
  all_goals (repeat' (first | with_reducible exact .refl | dsimp -proj only | split | (with_reducible apply Moves.lanes; · decide)))

theorem State.eyeAbort_moves {s : State} {l : Nat} :
    Moves [.regs, .lanes] s (State.eyeAbort s l) := by
  unfold State.eyeAbort
  all_goals (repeat' (first | with_reducible exact .refl | (with_reducible apply Moves.step State.setFld_moves; · decide) | (with_reducible apply Moves.step State.setLane_moves; · decide) | dsimp -proj only | split))

theorem State.showLanes_moves {s : State} {p hi lo v : Nat} :
    Moves [.regs] s (State.showLanes s p hi lo v) := by
  unfold State.showLanes
  all_goals (repeat' (first | with_reducible exact .refl | (with_reducible apply Moves.step State.setFld_moves; · decide) | with_reducible apply Moves.fold | with_reducible apply Moves.fold₁ | with_reducible intro _ _ | dsimp -proj only | split))

theorem State.emitLanes_moves {s : State} {p : Nat} {what : String} :
    Moves [.emitted] s (State.emitLanes s p what) := by
  unfold State.emitLanes
  all_goals (repeat' (first | with_reducible exact .refl | (with_reducible apply Moves.step State.emit_moves; · decide) | with_reducible apply Moves.fold | with_reducible apply Moves.fold₁ | with_reducible intro _ _ | dsimp -proj only | split))

theorem State.enterWait_moves {s : State} {p : Nat} :
    Moves [.regs, .emitted] s (State.enterWait s p) := by
  unfold State.enterWait
  all_goals (repeat' (first | with_reducible exact .refl | (with_reducible apply Moves.step State.emit_moves; · decide) | (with_reducible apply Moves.step State.setPortState_moves; · decide) | (with_reducible apply Moves.step State.emitLanes_moves; · decide) | dsimp -proj only | split))

theorem State.bringupFail_moves {s : State} {p : Nat} :
    Moves (.lanes :: reactParts) s (State.bringupFail s p) := by
  unfold State.bringupFail
  all_goals (repeat' (first | with_reducible exact .refl | (with_reducible apply Moves.step State.latchFault_moves; · decide) | (with_reducible apply Moves.step State.setPortState_moves; · decide) | (with_reducible apply Moves.step State.setLane_moves; · decide) | (with_reducible apply Moves.step State.showLanes_moves; · decide) | (with_reducible apply Moves.step State.emitLanes_moves; · decide) | (with_reducible apply Moves.step State.enterWait_moves; · decide) | dsimp -proj only | split))

theorem State.leaveUp_moves {s : State} {p next : Nat} :
    Moves (.lanes :: reactParts) s (State.leaveUp s p next) := by
  unfold State.leaveUp
  all_goals (repeat' (first | with_reducible exact .refl | (with_reducible apply Moves.step State.setFld_moves; · decide) | (with_reducible apply Moves.step State.setBit_moves; · decide) | (with_reducible apply Moves.step State.count_moves; · decide) | (with_reducible apply Moves.step State.irq_moves; · decide) | (with_reducible apply Moves.step State.stompAhead_moves; · decide) | (with_reducible apply Moves.step State.latchFault_moves; · decide) | (with_reducible apply Moves.step State.dropPass_moves; · decide) | (with_reducible apply Moves.step State.eyeAbort_moves; · decide) | with_reducible apply Moves.fold | with_reducible apply Moves.fold₁ | with_reducible intro _ _ | dsimp -proj only | split))

theorem State.linkFails_moves {s : State} {p : Nat} :
    Moves (.lanes :: reactParts) s (State.linkFails s p) := by
  unfold State.linkFails
  all_goals (repeat' (first | with_reducible exact .refl | (with_reducible apply Moves.step State.emit_moves; · decide) | (with_reducible apply Moves.step State.setLane_moves; · decide) | (with_reducible apply Moves.step State.showLanes_moves; · decide) | (with_reducible apply Moves.step State.enterWait_moves; · decide) | (with_reducible apply Moves.step State.bringupFail_moves; · decide) | (with_reducible apply Moves.step State.leaveUp_moves; · decide) | dsimp -proj only | split))

theorem State.enterUp_moves {s : State} {p : Nat} :
    Moves (.cmp :: .lanes :: reactParts) s (State.enterUp s p) := by
  unfold State.enterUp
  all_goals (repeat' (first | with_reducible exact .refl | (with_reducible apply Moves.step State.setBit_moves; · decide) | (with_reducible apply Moves.step State.irq_moves; · decide) | (with_reducible apply Moves.step State.latchFault_moves; · decide) | (with_reducible apply Moves.step State.viaReset_moves; · decide) | (with_reducible apply Moves.step State.setPortState_moves; · decide) | (with_reducible apply Moves.step State.setLane_moves; · decide) | with_reducible apply Moves.fold | with_reducible apply Moves.fold₁ | with_reducible intro _ _ | dsimp -proj only | split | (with_reducible apply Moves.egr; · decide)))

theorem execViaRetryTimeout_moves {port : Port} {s : State} :
    Ends (.cmp :: .lanes :: reactParts) s (execViaRetryTimeout port s) := by
  unfold execViaRetryTimeout
  all_goals (repeat' (first | with_reducible exact .refl | with_reducible apply Ends.next | (with_reducible apply Moves.step State.setVia_moves; · decide) | (with_reducible apply Moves.step State.latchFault_moves; · decide) | (with_reducible apply Moves.step State.abandonRetry_moves; · decide) | (with_reducible apply Moves.step State.retransmitFrom_moves; · decide) | (with_reducible apply Moves.step State.linkFails_moves; · decide) | dsimp -proj only | split))

theorem State.abandonPort_moves {s : State} {p : Nat} :
    Moves (.cmp :: reactParts) s (State.abandonPort s p) := by
  unfold State.abandonPort
  all_goals (repeat' (first | with_reducible exact .refl | (with_reducible apply Moves.step State.count_moves; · decide) | (with_reducible apply Moves.step State.setQueue_moves; · decide) | (with_reducible apply Moves.step State.setAhead_moves; · decide) | (with_reducible apply Moves.step State.lose_moves; · decide) | (with_reducible apply Moves.step State.freeEntry_moves; · decide) | (with_reducible apply Moves.step State.resetEmpty_moves; · decide) | (with_reducible apply Moves.step State.release_moves; · decide) | with_reducible apply Moves.fold | with_reducible apply Moves.fold₁ | with_reducible intro _ _ | dsimp -proj only | split))

theorem execLinkHoldExpire_moves {port : Port} {s : State} :
    Ends (.cmp :: reactParts) s (execLinkHoldExpire port s) := by
  unfold execLinkHoldExpire
  all_goals (repeat' (first | with_reducible exact .refl | with_reducible apply Ends.next | (with_reducible apply Moves.step State.abandonPort_moves; · decide) | dsimp -proj only | split | (with_reducible apply Moves.egr; · decide)))

end Sys2Proof.Machine
end

