-- ==== Sys2Proof/Laws/Moves/Lanes.lean ====
section
/-! SUPPORT. What each operation of Machine/Lanes.lean can touch, and that it keeps the stores canonical. -/

namespace Sys2Proof.Machine

theorem State.laneTest_moves {s : State} {l : Nat} :
    Moves [.regs, .lanes] s (State.laneTest s l) := by
  unfold State.laneTest
  all_goals (repeat' (first | with_reducible exact .refl | (with_reducible apply Moves.step State.setFld_moves; · decide) | (with_reducible apply Moves.step State.eyeAbort_moves; · decide) | dsimp -proj only | split))

theorem State.writeLaneCfg_moves {s : State} {l : Nat} {value : Word} :
    Moves (.lanes :: reactParts) s (State.writeLaneCfg s l value) := by
  unfold State.writeLaneCfg
  all_goals (repeat' (first | with_reducible exact .refl | (with_reducible apply Moves.step State.setReg_moves; · decide) | (with_reducible apply Moves.step State.latchFault_moves; · decide) | (with_reducible apply Moves.step State.refusedWrite_moves; · decide) | (with_reducible apply Moves.step State.laneTest_moves; · decide) | dsimp -proj only | split))

theorem State.enablePort_moves {s : State} {l : Nat} {value : Word} :
    Moves (.lanes :: reactParts) s (State.enablePort s l value) := by
  unfold State.enablePort
  all_goals (repeat' (first | with_reducible exact .refl | (with_reducible apply Moves.step State.setReg_moves; · decide) | (with_reducible apply Moves.step State.emit_moves; · decide) | (with_reducible apply Moves.step State.refusedWrite_moves; · decide) | (with_reducible apply Moves.step State.setLane_moves; · decide) | (with_reducible apply Moves.step State.eyeAbort_moves; · decide) | (with_reducible apply Moves.step State.enterWait_moves; · decide) | with_reducible apply Moves.fold | with_reducible apply Moves.fold₁ | with_reducible intro _ _ | dsimp -proj only | split))

theorem execPortEnable_moves {lane : Lane} {value : Word} {s : State} :
    Ends (.lanes :: reactParts) s (execPortEnable lane value s) := by
  unfold execPortEnable
  all_goals (repeat' (first | with_reducible exact .refl | with_reducible apply Ends.next | (with_reducible apply Moves.step State.latchFault_moves; · decide) | (with_reducible apply Moves.step State.refusedWrite_moves; · decide) | (with_reducible apply Moves.step State.writeLaneCfg_moves; · decide) | (with_reducible apply Moves.step State.enablePort_moves; · decide) | dsimp -proj only | split))

theorem execPortDisable_moves {lane : Lane} {value : Word} {s : State} :
    Ends (.lanes :: reactParts) s (execPortDisable lane value s) := by
  unfold execPortDisable
  all_goals (repeat' (first | with_reducible exact .refl | with_reducible apply Ends.next | (with_reducible apply Moves.step State.setBit_moves; · decide) | (with_reducible apply Moves.step State.setPortState_moves; · decide) | (with_reducible apply Moves.step State.setLane_moves; · decide) | (with_reducible apply Moves.step State.showLanes_moves; · decide) | (with_reducible apply Moves.step State.emitLanes_moves; · decide) | (with_reducible apply Moves.step State.leaveUp_moves; · decide) | (with_reducible apply Moves.step State.writeLaneCfg_moves; · decide) | dsimp -proj only | split))

theorem State.setTaps_moves {s : State} {l : Nat} {t : List Int} :
    Moves [.regs] s (State.setTaps s l t) := by
  unfold State.setTaps
  all_goals (repeat' (first | with_reducible exact .refl | (with_reducible apply Moves.step State.setReg_moves; · decide) | dsimp -proj only | split))

theorem State.enterTrain_moves {s : State} {p : Nat} :
    Moves [.regs, .lanes] s (State.enterTrain s p) := by
  unfold State.enterTrain
  all_goals (repeat' (first | with_reducible exact .refl | (with_reducible apply Moves.step State.setPortState_moves; · decide) | (with_reducible apply Moves.step State.setLane_moves; · decide) | (with_reducible apply Moves.step State.setTaps_moves; · decide) | with_reducible apply Moves.fold | with_reducible apply Moves.fold₁ | with_reducible intro _ _ | dsimp -proj only | split))

theorem State.enterAn_moves {s : State} {p : Nat} :
    Moves [.regs, .emitted, .lanes] s (State.enterAn s p) := by
  unfold State.enterAn
  all_goals (repeat' (first | with_reducible exact .refl | (with_reducible apply Moves.step State.emit_moves; · decide) | (with_reducible apply Moves.step State.setPortState_moves; · decide) | (with_reducible apply Moves.step State.setLane_moves; · decide) | dsimp -proj only | split))

theorem execLaneSignalDetect_moves {port : Port} {s : State} :
    Ends [.regs, .emitted, .lanes] s (execLaneSignalDetect port s) := by
  unfold execLaneSignalDetect
  all_goals (repeat' (first | with_reducible exact .refl | with_reducible apply Ends.next | (with_reducible apply Moves.step State.setFld_moves; · decide) | (with_reducible apply Moves.step State.setPortState_moves; · decide) | (with_reducible apply Moves.step State.enterTrain_moves; · decide) | (with_reducible apply Moves.step State.enterAn_moves; · decide) | with_reducible apply Moves.fold | with_reducible apply Moves.fold₁ | with_reducible intro _ _ | dsimp -proj only | split))

theorem execAnPageRx_moves {port : Port} {abilities : List PhyType} {pause : BitVec 2} {next : Bool} {s : State} :
    Ends (.lanes :: reactParts) s (execAnPageRx port abilities pause next s) := by
  unfold execAnPageRx
  all_goals (repeat' (first | with_reducible exact .refl | with_reducible apply Ends.next | (with_reducible apply Moves.step State.emit_moves; · decide) | (with_reducible apply Moves.step State.setLane_moves; · decide) | (with_reducible apply Moves.step State.bringupFail_moves; · decide) | (with_reducible apply Moves.step State.enterTrain_moves; · decide) | dsimp -proj only | split))

theorem execTrainingDone_moves {port : Port} {s : State} :
    Ends [.regs] s (execTrainingDone port s) := by
  unfold execTrainingDone
  all_goals (repeat' (first | with_reducible exact .refl | with_reducible apply Ends.next | (with_reducible apply Moves.step State.setPortState_moves; · decide) | dsimp -proj only | split))

theorem State.showFaults_moves {s : State} {p : Nat} {localFault remoteFault : Bool} :
    Moves [.regs] s (State.showFaults s p localFault remoteFault) := by
  unfold State.showFaults
  all_goals (repeat' (first | with_reducible exact .refl | (with_reducible apply Moves.step State.showLanes_moves; · decide) | dsimp -proj only | split))

theorem execLinkUp_moves {port : Port} {localFault remoteFault : Bool} {s : State} :
    Ends (.cmp :: .lanes :: reactParts) s (execLinkUp port localFault remoteFault s) := by
  unfold execLinkUp
  all_goals (repeat' (first | with_reducible exact .refl | with_reducible apply Ends.next | (with_reducible apply Moves.step State.emit_moves; · decide) | (with_reducible apply Moves.step State.showLanes_moves; · decide) | (with_reducible apply Moves.step State.linkFails_moves; · decide) | (with_reducible apply Moves.step State.enterUp_moves; · decide) | (with_reducible apply Moves.step State.showFaults_moves; · decide) | dsimp -proj only | split))

theorem execLinkDown_moves {port : Port} {s : State} :
    Ends (.lanes :: reactParts) s (execLinkDown port s) := by
  unfold execLinkDown
  all_goals (repeat' (first | with_reducible exact .refl | with_reducible apply Ends.next | (with_reducible apply Moves.step State.linkFails_moves; · decide) | dsimp -proj only | split))

theorem execBringupTimeout_moves {port : Port} {s : State} :
    Ends (.lanes :: reactParts) s (execBringupTimeout port s) := by
  unfold execBringupTimeout
  all_goals (repeat' (first | with_reducible exact .refl | with_reducible apply Ends.next | (with_reducible apply Moves.step State.bringupFail_moves; · decide) | dsimp -proj only | split))

theorem execLinkStable_moves {port : Port} {s : State} :
    Ends [.regs, .lanes] s (execLinkStable port s) := by
  unfold execLinkStable
  all_goals (repeat' (first | with_reducible exact .refl | with_reducible apply Ends.next | (with_reducible apply Moves.step State.setLane_moves; · decide) | (with_reducible apply Moves.step State.showLanes_moves; · decide) | dsimp -proj only | split))

theorem execFailedRetryTimer_moves {port : Port} {s : State} :
    Ends [.regs, .emitted] s (execFailedRetryTimer port s) := by
  unfold execFailedRetryTimer
  all_goals (repeat' (first | with_reducible exact .refl | with_reducible apply Ends.next | (with_reducible apply Moves.step State.enterWait_moves; · decide) | dsimp -proj only | split))

theorem execTrainingRequestRx_moves {lane : Lane} {req : BitVec 16} {s : State} :
    Ends [.regs, .emitted, .lanes] s (execTrainingRequestRx lane req s) := by
  unfold execTrainingRequestRx
  all_goals (repeat' (first | with_reducible exact .refl | with_reducible apply Ends.next | (with_reducible apply Moves.step State.setFld_moves; · decide) | (with_reducible apply Moves.step State.emit_moves; · decide) | (with_reducible apply Moves.step State.setLane_moves; · decide) | (with_reducible apply Moves.step State.setTaps_moves; · decide) | dsimp -proj only | split))

theorem State.sendRequest_moves {s : State} {l : Nat} {req : BitVec 16} :
    Moves [.regs, .emitted, .lanes] s (State.sendRequest s l req) := by
  unfold State.sendRequest
  all_goals (repeat' (first | with_reducible exact .refl | (with_reducible apply Moves.step State.setFld_moves; · decide) | (with_reducible apply Moves.step State.emit_moves; · decide) | (with_reducible apply Moves.step State.setLane_moves; · decide) | dsimp -proj only | split))

theorem State.nextRequest_moves {s : State} {l : Nat} {next : BitVec 16} :
    Moves [.regs, .emitted, .lanes] s (State.nextRequest s l next) := by
  unfold State.nextRequest
  all_goals (repeat' (first | with_reducible exact .refl | (with_reducible apply Moves.step State.setLane_moves; · decide) | (with_reducible apply Moves.step State.sendRequest_moves; · decide) | dsimp -proj only | split))

theorem execTrainingResponseRx_moves {lane : Lane} {rsp : BitVec 16} {next : BitVec 16} {s : State} :
    Ends [.regs, .emitted, .lanes] s (execTrainingResponseRx lane rsp next s) := by
  unfold execTrainingResponseRx
  all_goals (repeat' (first | with_reducible exact .refl | with_reducible apply Ends.next | (with_reducible apply Moves.step State.setFld_moves; · decide) | (with_reducible apply Moves.step State.sendRequest_moves; · decide) | (with_reducible apply Moves.step State.nextRequest_moves; · decide) | dsimp -proj only | split))

theorem execTrainingManualRequest_moves {lane : Lane} {value : Word} {s : State} :
    Ends (.lanes :: reactParts) s (execTrainingManualRequest lane value s) := by
  unfold execTrainingManualRequest
  all_goals (repeat' (first | with_reducible exact .refl | with_reducible apply Ends.next | (with_reducible apply Moves.step State.setFld_moves; · decide) | (with_reducible apply Moves.step State.refusedWrite_moves; · decide) | (with_reducible apply Moves.step State.setLane_moves; · decide) | (with_reducible apply Moves.step State.sendRequest_moves; · decide) | dsimp -proj only | split))

theorem State.countFec_moves {s : State} {p : Nat} {hist : List Nat} {uncorr : Nat} {symbols : List Nat} :
    Moves [.counters] s (State.countFec s p hist uncorr symbols) := by
  unfold State.countFec
  all_goals (repeat' (first | with_reducible exact .refl | (with_reducible apply Moves.step State.count_moves; · decide) | with_reducible apply Moves.fold | with_reducible apply Moves.fold₁ | with_reducible intro _ _ | dsimp -proj only | split))

theorem State.judgeWindow_moves {s : State} {p corrected : Nat} :
    Moves reactParts s (State.judgeWindow s p corrected) := by
  unfold State.judgeWindow
  all_goals (repeat' (first | with_reducible exact .refl | (with_reducible apply Moves.step State.setBit_moves; · decide) | (with_reducible apply Moves.step State.latchFault_moves; · decide) | dsimp -proj only | split))

theorem execFecDegradeWindow_moves {port : Port} {hist : List Nat} {uncorr : Nat} {symbols : List Nat} {s : State} :
    Ends reactParts s (execFecDegradeWindow port hist uncorr symbols s) := by
  unfold execFecDegradeWindow
  all_goals (repeat' (first | with_reducible exact .refl | with_reducible apply Ends.next | (with_reducible apply Moves.step State.countFec_moves; · decide) | (with_reducible apply Moves.step State.judgeWindow_moves; · decide) | dsimp -proj only | split))

theorem State.setEyeCtrl_moves {s : State} {l : Nat} {value : Word} :
    Moves [.regs] s (State.setEyeCtrl s l value) := by
  unfold State.setEyeCtrl
  all_goals (repeat' (first | with_reducible exact .refl | (with_reducible apply Moves.step State.setReg_moves; · decide) | dsimp -proj only | split))

theorem execEyeScanStart_moves {lane : Lane} {value : Word} {s : State} :
    Ends [.regs, .lanes] s (execEyeScanStart lane value s) := by
  unfold execEyeScanStart
  all_goals (repeat' (first | with_reducible exact .refl | with_reducible apply Ends.next | (with_reducible apply Moves.step State.setReg_moves; · decide) | (with_reducible apply Moves.step State.setLane_moves; · decide) | (with_reducible apply Moves.step State.eyeAbort_moves; · decide) | (with_reducible apply Moves.step State.setEyeCtrl_moves; · decide) | dsimp -proj only | split))

theorem execEyeScanStop_moves {lane : Lane} {value : Word} {s : State} :
    Ends [.regs, .lanes] s (execEyeScanStop lane value s) := by
  unfold execEyeScanStop
  all_goals (repeat' (first | with_reducible exact .refl | with_reducible apply Ends.next | (with_reducible apply Moves.step State.eyeAbort_moves; · decide) | (with_reducible apply Moves.step State.setEyeCtrl_moves; · decide) | dsimp -proj only | split))

theorem execEyeScanDone_moves {lane : Lane} {counts : List Nat} {s : State} :
    Ends [.regs, .lanes] s (execEyeScanDone lane counts s) := by
  unfold execEyeScanDone
  all_goals (repeat' (first | with_reducible exact .refl | with_reducible apply Ends.next | (with_reducible apply Moves.step State.setFld_moves; · decide) | (with_reducible apply Moves.step State.setLane_moves; · decide) | dsimp -proj only | split))

end Sys2Proof.Machine
end

