-- ==== Sys2Proof/Laws/Moves/Rings.lean ====
section
/-! SUPPORT. What each operation of Machine/Rings.lean can touch, and that it keeps the stores canonical. -/

namespace Sys2Proof.Machine

/-- Bytes written to host memory keep its canonical form. -/
theorem writeBytes_wf {m : List Host.Cell} {a : Nat} {b : List Byte} (h : Tbl.wf hostByteDefault m = true) :
    Tbl.wf hostByteDefault (writeBytes m a b) = true := by
  induction b generalizing m a with
  | nil => exact h
  | cons x t ih => exact ih (Tbl.wf_put _ _ _ _ h)

theorem State.setSqState_moves {s : State} {r st cause : Nat} :
    Moves [.regs] s (State.setSqState s r st cause) := by
  unfold State.setSqState
  all_goals (repeat' (first | with_reducible exact .refl | (with_reducible apply Moves.step State.setFld_moves; · decide) | dsimp -proj only | split))

theorem State.setSqCi_moves {s : State} {r : Nat} {w : Word} :
    Moves [.regs] s (State.setSqCi s r w) := by
  unfold State.setSqCi
  all_goals (repeat' (first | with_reducible exact .refl | (with_reducible apply Moves.step State.setReg_moves; · decide) | dsimp -proj only | split))

theorem State.setReserved_moves {s : State} {c n : Nat} :
    Moves [.hq] s (State.setReserved s c n) := by
  unfold State.setReserved
  all_goals (repeat' (first | with_reducible exact .refl | dsimp -proj only | split | (with_reducible apply Moves.hq; · decide)))

theorem State.hostWrite_moves {s : State} {a : Nat} {bs : List Byte} :
    Moves [.hostMem] s (State.hostWrite s a bs) := by
  unfold State.hostWrite
  all_goals (repeat' (first | with_reducible exact .refl | dsimp -proj only | split | (with_reducible apply Moves.hostMem; (· decide); (· first | exact fun h => h | exact Tbl.wf_put _ _ _ _ | exact fun h => Tbl.wf_put _ _ _ _ (Tbl.wf_put _ _ _ _ h) | exact Tbl.wf_filter _ _ _ | exact fun _ => rfl | exact writeCellBytes_wf | exact writeBytes_wf | exact programBytes_wf))))

theorem State.dmaErr_moves {s : State} :
    Moves [.regs] s (State.dmaErr s) := by
  unfold State.dmaErr
  all_goals (repeat' (first | with_reducible exact .refl | (with_reducible apply Moves.step State.setBit_moves; · decide) | dsimp -proj only | split))

theorem State.writeOwner_moves {s : State} {c type tag part : Nat} {i : Word} :
    Moves [.hostMem] s (State.writeOwner s c type tag part i) := by
  unfold State.writeOwner
  all_goals (repeat' (first | with_reducible exact .refl | (with_reducible apply Moves.step State.hostWrite_moves; · decide) | dsimp -proj only | split))

theorem State.writeEntry_moves {s : State} {c type tag part : Nat} {body : List Byte} :
    Moves [.regs, .hostMem] s (State.writeEntry s c type tag part body) := by
  unfold State.writeEntry
  all_goals (repeat' (first | with_reducible exact .refl | (with_reducible apply Moves.step State.setReg_moves; · decide) | (with_reducible apply Moves.step State.hostWrite_moves; · decide) | (with_reducible apply Moves.step State.writeOwner_moves; · decide) | dsimp -proj only | split))

theorem State.writeRecord_moves {s : State} {c type : Nat} {body : List Byte} :
    Moves [.regs, .hostMem] s (State.writeRecord s c type body) := by
  unfold State.writeRecord
  all_goals (repeat' (first | with_reducible exact .refl | (with_reducible apply Moves.step State.setReg_moves; · decide) | (with_reducible apply Moves.step State.hostWrite_moves; · decide) | (with_reducible apply Moves.step State.writeOwner_moves; · decide) | dsimp -proj only | split))

theorem State.writePi_moves {s : State} {c : Nat} :
    Moves [.hostMem] s (State.writePi s c) := by
  unfold State.writePi
  all_goals (repeat' (first | with_reducible exact .refl | (with_reducible apply Moves.step State.hostWrite_moves; · decide) | dsimp -proj only | split))

theorem State.readCi_moves {s : State} {c : Nat} {ci : Option Word} :
    Moves [.regs] s (State.readCi s c ci) := by
  unfold State.readCi
  all_goals (repeat' (first | with_reducible exact .refl | (with_reducible apply Moves.step State.setReg_moves; · decide) | (with_reducible apply Moves.step State.setBit_moves; · decide) | (with_reducible apply Moves.step State.dmaErr_moves; · decide) | dsimp -proj only | split))

theorem State.cqMessage_moves {s : State} {c : Nat} :
    Moves [.regs, .emitted] s (State.cqMessage s c) := by
  unfold State.cqMessage
  all_goals (repeat' (first | with_reducible exact .refl | (with_reducible apply Moves.step State.setBit_moves; · decide) | (with_reducible apply Moves.step State.msixVector_moves; · decide) | dsimp -proj only | split))

theorem State.cqInterrupt_moves {s : State} {c : Nat} :
    Moves [.regs, .emitted] s (State.cqInterrupt s c) := by
  unfold State.cqInterrupt
  all_goals (repeat' (first | with_reducible exact .refl | (with_reducible apply Moves.step State.cqMessage_moves; · decide) | dsimp -proj only | split))

theorem State.ringError_moves {s : State} {r : Nat} :
    Moves reactParts s (State.ringError s r) := by
  unfold State.ringError
  all_goals (repeat' (first | with_reducible exact .refl | (with_reducible apply Moves.step State.setBit_moves; · decide) | (with_reducible apply Moves.step State.irq_moves; · decide) | (with_reducible apply Moves.step State.latchFault_moves; · decide) | (with_reducible apply Moves.step State.setSqState_moves; · decide) | dsimp -proj only | split))

theorem State.writeSqCi_moves {s : State} {r : Nat} :
    Moves [.hostMem] s (State.writeSqCi s r) := by
  unfold State.writeSqCi
  all_goals (repeat' (first | with_reducible exact .refl | (with_reducible apply Moves.step State.hostWrite_moves; · decide) | dsimp -proj only | split))

theorem State.startEntry_moves {s : State} {r : Nat} {e : List Byte} :
    Moves [.buf, .hq, .jrn] s (State.startEntry s r e).1 := by
  unfold State.startEntry
  all_goals (repeat' (first | with_reducible exact .refl | (with_reducible apply Moves.step State.journal_moves; · decide) | (with_reducible apply Moves.step State.setSq_moves; · decide) | dsimp -proj only | split | (with_reducible apply Moves.buf; (· decide); (· with_reducible rfl))))

theorem State.startEntry_moves_eq {s : State} {r : Nat} {e : List Byte} {sEnd : State} {yEnd} (he : State.startEntry s r e = (sEnd, yEnd)) : Moves [.buf, .hq, .jrn] s sEnd := by
  have := @State.startEntry_moves s r e
  rw [he] at this
  exact this

theorem State.takeEntry_moves {s : State} {r : Nat} {e : List Byte} :
    Moves [.regs, .buf, .hq, .jrn] s (State.takeEntry s r e) := by
  unfold State.takeEntry
  all_goals (repeat' (first | with_reducible exact .refl | (with_reducible apply Moves.step State.setSq_moves; · decide) | (with_reducible apply Moves.step State.setSqCi_moves; · decide) | (with_reducible apply Moves.step State.setReserved_moves; · decide) | (with_reducible apply Moves.step State.startEntry_moves; · decide) | (with_reducible apply Moves.step (State.startEntry_moves_eq (by assumption)); · decide) | dsimp -proj only | split))

theorem State.readWhenFull_moves {s : State} {c : Nat} {ci : Option Word} :
    Moves [.regs] s (State.readWhenFull s c ci) := by
  unfold State.readWhenFull
  all_goals (repeat' (first | with_reducible exact .refl | (with_reducible apply Moves.step State.readCi_moves; · decide) | dsimp -proj only | split))

theorem State.takeEntries_moves {s : State} {r : Nat} {pi : Word} {ci : Option Word} {l : List EntryRead} :
    Moves [.regs, .buf, .hq, .jrn] s (State.takeEntries s r pi ci l).1 := by
  induction l generalizing s with
  | nil => exact .refl
  | cons e l ih =>
    unfold State.takeEntries
    repeat' (first | with_reducible exact .refl | (with_reducible refine Moves.trans ?_ ih) | first | with_reducible exact .refl | (with_reducible apply Moves.step State.dmaErr_moves; · decide) | (with_reducible apply Moves.step State.takeEntry_moves; · decide) | (with_reducible apply Moves.step State.readWhenFull_moves; · decide) | dsimp -proj only | split)

theorem State.takeEntries_moves_eq {s : State} {r : Nat} {pi : Word} {ci : Option Word} {l : List EntryRead} {t} {x}
    (h : State.takeEntries s r pi ci l = (t, x)) : Moves [.regs, .buf, .hq, .jrn] s t := by
  have := @State.takeEntries_moves s r pi ci l
  rw [h] at this
  exact this

theorem State.endTurn_moves {s : State} {r st cause : Nat} :
    Moves [.regs, .hostMem, .hq] s (State.endTurn s r st cause) := by
  unfold State.endTurn
  all_goals (repeat' (first | with_reducible exact .refl | (with_reducible apply Moves.step State.setSq_moves; · decide) | (with_reducible apply Moves.step State.setSqState_moves; · decide) | (with_reducible apply Moves.step State.writeSqCi_moves; · decide) | dsimp -proj only | split))

theorem State.scan_moves {s : State} {r : Nat} {pi : Option Word} {entries : List EntryRead} {ci : Option Word} :
    Moves (.hostMem :: .hq :: .jrn :: reactParts) s (State.scan s r pi entries ci) := by
  unfold State.scan
  all_goals (repeat' (first | with_reducible exact .refl | (with_reducible apply Moves.step State.setReg_moves; · decide) | (with_reducible apply Moves.step State.setSq_moves; · decide) | (with_reducible apply Moves.step State.dmaErr_moves; · decide) | (with_reducible apply Moves.step State.ringError_moves; · decide) | (with_reducible apply Moves.step State.takeEntries_moves; · decide) | (with_reducible apply Moves.step (State.takeEntries_moves_eq (by assumption)); · decide) | (with_reducible apply Moves.step State.endTurn_moves; · decide) | dsimp -proj only | split))

theorem execSqScan_moves {r : Ring} {pi : Option Word} {entries : List EntryRead} {ci : Option Word} {s : State} :
    Ends (.hostMem :: .hq :: .jrn :: reactParts) s (execSqScan r pi entries ci s) := by
  unfold execSqScan
  all_goals (repeat' (first | with_reducible exact .refl | with_reducible apply Ends.next | (with_reducible apply Moves.step State.scan_moves; · decide) | dsimp -proj only | split))

theorem State.startScan_moves {s : State} {r : Nat} :
    Moves [.regs, .hq] s (State.startScan s r) := by
  unfold State.startScan
  all_goals (repeat' (first | with_reducible exact .refl | (with_reducible apply Moves.step State.setSq_moves; · decide) | (with_reducible apply Moves.step State.setSqState_moves; · decide) | dsimp -proj only | split))

theorem State.cqLook_moves {s : State} {c : Nat} {ci : Option Word} :
    Moves [.regs, .emitted] s (State.cqLook s c ci) := by
  unfold State.cqLook
  all_goals (repeat' (first | with_reducible exact .refl | (with_reducible apply Moves.step State.readCi_moves; · decide) | (with_reducible apply Moves.step State.cqInterrupt_moves; · decide) | dsimp -proj only | split))

theorem State.cqRing_moves {s : State} {c : Nat} {ci : Option Word} :
    Moves [.regs, .emitted] s (State.cqRing s c ci) := by
  unfold State.cqRing
  all_goals (repeat' (first | with_reducible exact .refl | (with_reducible apply Moves.step State.setBit_moves; · decide) | (with_reducible apply Moves.step State.cqLook_moves; · decide) | dsimp -proj only | split))

theorem State.cqsLook_moves {l : List Nat} {cis : List (Option Word)} {s : State} :
    Moves [.regs, .emitted] s (State.cqsLook l cis s) := by
  induction l generalizing cis s with
  | nil => exact .refl
  | cons c l ih => exact .trans (.mono (by decide) State.cqLook_moves) ih

theorem State.ringDoorbells_moves {ks : List Nat} {cis : List (Option Word)} {s : State} :
    Moves [.regs, .emitted, .hq] s (State.ringDoorbells ks cis s) := by
  induction ks generalizing cis s with
  | nil => exact .refl
  | cons k ks ih =>
    unfold State.ringDoorbells
    repeat' (first | with_reducible exact .refl | (with_reducible refine Moves.trans ?_ ih) | first | with_reducible exact .refl | (with_reducible apply Moves.step State.startScan_moves; · decide) | (with_reducible apply Moves.step State.cqRing_moves; · decide) | dsimp -proj only | split)

theorem execSqDoorbell_moves {off : BitVec 19} {len : Fin 64} {cis : List (Option Word)} {s : State} :
    Ends [.regs, .emitted, .hq] s (execSqDoorbell off len cis s) := by
  unfold execSqDoorbell
  all_goals (repeat' (first | with_reducible exact .refl | with_reducible apply Ends.next | (with_reducible apply Moves.step State.ringDoorbells_moves; · decide) | dsimp -proj only | split))

theorem execSqRescanTimer_moves {r : Ring} {s : State} :
    Ends [.regs, .emitted, .hq] s (execSqRescanTimer r s) := by
  unfold execSqRescanTimer
  all_goals (repeat' (first | with_reducible exact .refl | with_reducible apply Ends.next | (with_reducible apply Moves.step State.setBit_moves; · decide) | (with_reducible apply Moves.step State.irq_moves; · decide) | (with_reducible apply Moves.step State.setSq_moves; · decide) | (with_reducible apply Moves.step State.setSqState_moves; · decide) | (with_reducible apply Moves.step State.startScan_moves; · decide) | dsimp -proj only | split))

theorem execSqResourceFree_moves {r : Ring} {s : State} :
    Ends [.regs, .hq] s (execSqResourceFree r s) := by
  unfold execSqResourceFree
  all_goals (repeat' (first | with_reducible exact .refl | with_reducible apply Ends.next | (with_reducible apply Moves.step State.startScan_moves; · decide) | dsimp -proj only | split))

theorem State.readAhead_moves {s : State} {r : Nat} {pi : Word} {l : List EntryRead} :
    Moves [.regs, .hq] s (State.readAhead s r pi l) := by
  induction l generalizing s with
  | nil => exact .refl
  | cons e l ih =>
    unfold State.readAhead
    repeat' (first | with_reducible exact .refl | (with_reducible refine Moves.trans ?_ ih) | first | with_reducible exact .refl | (with_reducible apply Moves.step State.setSq_moves; · decide) | (with_reducible apply Moves.step State.dmaErr_moves; · decide) | dsimp -proj only | split)

theorem execRxRingReadAhead_moves {r : Ring} {pi : Option Word} {entries : List EntryRead} {s : State} :
    Ends (.hq :: reactParts) s (execRxRingReadAhead r pi entries s) := by
  unfold execRxRingReadAhead
  all_goals (repeat' (first | with_reducible exact .refl | with_reducible apply Ends.next | (with_reducible apply Moves.step State.setReg_moves; · decide) | (with_reducible apply Moves.step State.dmaErr_moves; · decide) | (with_reducible apply Moves.step State.ringError_moves; · decide) | (with_reducible apply Moves.step State.readAhead_moves; · decide) | dsimp -proj only | split))

theorem State.rxPost_moves {s : State} {r : Nat} {b : RxBuf} {code source written id : Nat} {ci : Option Word} :
    Moves [.regs, .hostMem, .emitted, .hq] s (State.rxPost s r b code source written id ci) := by
  unfold State.rxPost
  all_goals (repeat' (first | with_reducible exact .refl | (with_reducible apply Moves.step State.setSq_moves; · decide) | (with_reducible apply Moves.step State.setSqCi_moves; · decide) | (with_reducible apply Moves.step State.writeEntry_moves; · decide) | (with_reducible apply Moves.step State.writePi_moves; · decide) | (with_reducible apply Moves.step State.readCi_moves; · decide) | (with_reducible apply Moves.step State.cqInterrupt_moves; · decide) | (with_reducible apply Moves.step State.writeSqCi_moves; · decide) | dsimp -proj only | split))

theorem State.skipBuffers_moves {s : State} {r n : Nat} {ci : Option Word} :
    Moves [.regs, .hostMem, .emitted, .hq] s (State.skipBuffers s r ci n) := by
  induction n generalizing s with
  | zero => exact .refl
  | succ n ih =>
    unfold State.skipBuffers
    repeat' (first | with_reducible exact .refl | (with_reducible refine Moves.trans ?_ ih) | first | with_reducible exact .refl | (with_reducible apply Moves.step State.rxPost_moves; · decide) | dsimp -proj only | split)

theorem State.rxDeliver_moves {s : State} {r source id : Nat} {rec_ : Nat → List Byte} {ci : Option Word} :
    Moves [.regs, .hostMem, .emitted, .hq] s (State.rxDeliver s r source id rec_ ci).1 := by
  unfold State.rxDeliver
  all_goals (repeat' (first | with_reducible exact .refl | (with_reducible apply Moves.step State.incSat_moves; · decide) | (with_reducible apply Moves.step State.hostWrite_moves; · decide) | (with_reducible apply Moves.step State.rxPost_moves; · decide) | (with_reducible apply Moves.step State.skipBuffers_moves; · decide) | dsimp -proj only | split))

theorem State.rxDeliver_moves_eq {s : State} {r source id : Nat} {rec_ : Nat → List Byte} {ci : Option Word} {sEnd : State} {yEnd} (he : State.rxDeliver s r source id rec_ ci = (sEnd, yEnd)) : Moves [.regs, .hostMem, .emitted, .hq] s sEnd := by
  have := @State.rxDeliver_moves s r source id rec_ ci
  rw [he] at this
  exact this

theorem State.endDelivery_moves {s : State} {c : CopyRec} :
    Moves (.cmp :: reactParts) s (State.endDelivery s c) := by
  unfold State.endDelivery
  all_goals (repeat' (first | with_reducible exact .refl | (with_reducible apply Moves.step State.release_moves; · decide) | dsimp -proj only | split | (with_reducible apply Moves.egr; · decide)))

theorem State.deliverCpu_moves {s : State} {c : CopyRec} {frame : List Byte} {ci : Option Word} :
    Moves [.regs, .hostMem, .emitted, .hq] s (State.deliverCpu s c frame ci) := by
  unfold State.deliverCpu
  all_goals (repeat' (first | with_reducible exact .refl | (with_reducible apply Moves.step State.incSat_moves; · decide) | (with_reducible apply Moves.step State.rxDeliver_moves; · decide) | (with_reducible apply Moves.step (State.rxDeliver_moves_eq (by assumption)); · decide) | dsimp -proj only | split))

theorem State.recordCells_moves {s : State} {n : Nat} : Moves [.counters, .freeCount, .buf] s (State.recordCells s n).1 := by
  unfold State.recordCells
  dsimp -proj only
  split
  · exact .mono (by decide) State.recordTake_moves
  · exact .refl

theorem State.deliverSession_moves {s : State} {m : Nat} {c : CopyRec} {frame : List Byte} {ci : Option Word} :
    Moves (.hostMem :: .hq :: reactParts) s (State.deliverSession s m c frame ci) := by
  unfold State.deliverSession
  all_goals (repeat' (first | with_reducible exact .refl | (with_reducible apply Moves.step State.count_moves; · decide) | (with_reducible apply Moves.step State.recordFree_moves; · decide) | (with_reducible apply Moves.step State.raiseFound_moves; · decide) | (with_reducible apply Moves.step State.rxDeliver_moves; · decide) | (with_reducible apply Moves.step (State.rxDeliver_moves_eq (by assumption)); · decide) | (with_reducible apply Moves.step State.recordCells_moves; · decide) | (with_reducible apply Moves.step (State.recordCells_moves_eq (by assumption)); · decide) | dsimp -proj only | split | (with_reducible apply Moves.hq; · decide)))

theorem State.deliverCopy_moves {s : State} {d : Nat} {h : Holder} {cpuToo : Bool} {ci : Option Word} :
    Moves (.hostMem :: .tel :: .cmp :: .hq :: reactParts) s (State.deliverCopy s d h cpuToo ci) := by
  unfold State.deliverCopy
  all_goals (repeat' (first | with_reducible exact .refl | (with_reducible apply Moves.step State.count_moves; · decide) | (with_reducible apply Moves.step State.checkGuards_moves; · decide) | (with_reducible apply Moves.step (State.checkGuards_moves_eq (by assumption)); · decide) | (with_reducible apply Moves.step State.endDelivery_moves; · decide) | (with_reducible apply Moves.step State.deliverCpu_moves; · decide) | (with_reducible apply Moves.step State.deliverSession_moves; · decide) | dsimp -proj only | split))

theorem execRxCopyDeliver_moves {d : DescId} {h : Holder} {ci : Option Word} {s : State} :
    Ends (.hostMem :: .tel :: .cmp :: .hq :: reactParts) s (execRxCopyDeliver d h ci s) := by
  unfold execRxCopyDeliver
  all_goals (repeat' (first | with_reducible exact .refl | with_reducible apply Ends.next | (with_reducible apply Moves.step State.deliverCopy_moves; · decide) | dsimp -proj only | split))

theorem execMirrorRecordWrite_moves {d : DescId} {h : Holder} {ci : Option Word} {s : State} :
    Ends (.hostMem :: .tel :: .cmp :: .hq :: reactParts) s (execMirrorRecordWrite d h ci s) := by
  unfold execMirrorRecordWrite
  all_goals (repeat' (first | with_reducible exact .refl | with_reducible apply Ends.next | (with_reducible apply Moves.step State.deliverCopy_moves; · decide) | dsimp -proj only | split))

theorem State.finishTaken_moves {s : State} {r : Nat} {i : Word} {done : Done} :
    Moves [.hq] s (State.finishTaken s r i done) := by
  unfold State.finishTaken
  all_goals (repeat' (first | with_reducible exact .refl | (with_reducible apply Moves.step State.setSq_moves; · decide) | dsimp -proj only | split))

theorem State.writeHostCells_moves {s : State} {d die : Nat} {full : List Nat} {bs : List Byte} {n : Nat} :
    Moves (.mem :: reactParts) s (State.writeHostCells s d die full bs n).1 := by
  induction n generalizing s bs with
  | zero => exact .refl
  | succ n ih =>
    simp only [State.writeHostCells]
    split
    · exact .mono (by decide) State.allocCell_moves
    · exact .trans (.step State.writeCell_moves (by decide) (.mono (by decide) State.allocCell_moves)) ih

theorem State.hostFrame_moves {s : State} {r d : Nat} {w : TxWork} :
    Moves [.buf, .rx, .ord] s (State.hostFrame s r d w) := by
  unfold State.hostFrame
  all_goals (repeat' (first | with_reducible exact .refl | (with_reducible apply Moves.step State.setInfo_moves; · decide) | (with_reducible apply Moves.step State.setDesc_moves; · decide) | (with_reducible apply Moves.step State.setOrder_moves; · decide) | dsimp -proj only | split))

theorem State.sendHost_moves {s : State} {r d : Nat} {w : TxWork} :
    Moves (.tel :: .cmp :: reactParts) s (State.sendHost s r d w) := by
  unfold State.sendHost
  all_goals (repeat' (first | with_reducible exact .refl | (with_reducible apply Moves.step State.setInfo_moves; · decide) | (with_reducible apply Moves.step State.setHostQueue_moves; · decide) | (with_reducible apply Moves.step State.releaseRing_moves; · decide) | (with_reducible apply Moves.step State.holdResult_moves; · decide) | dsimp -proj only | split))

theorem State.txReadDone_moves {s : State} {r : Nat} {bytes : Option (List Byte)} {full : List Nat} :
    Moves (.mem :: .tel :: .cmp :: .hq :: reactParts) s (State.txReadDone s r bytes full) := by
  unfold State.txReadDone
  split
  · exact .refl
  · split
    · exact .step State.checkDrained_moves (by decide) (.step State.finishTaken_moves (by decide)
        (.step State.dmaErr_moves (by decide) (.buf (by decide) rfl .refl)))
    · dsimp -proj only
      split
      · exact .refl
      · split
        · exact .step State.sendHost_moves (by decide) (.step State.finishTaken_moves (by decide)
            (.step State.writeHostCells_moves (by decide) (.step State.hostFrame_moves (by decide)
              (.mono (by decide) (State.allocDesc_moves (by assumption))))))
        · exact .mono (by decide) State.mendAfter_moves

theorem execTxPacketReadDone_moves {r : Ring} {bytes : Option (List Byte)} {full : List (Fin 256)} {s : State} :
    Ends (.mem :: .tel :: .cmp :: .hq :: reactParts) s (execTxPacketReadDone r bytes full s) := by
  unfold execTxPacketReadDone
  all_goals (repeat' (first | with_reducible exact .refl | with_reducible apply Ends.next | (with_reducible apply Moves.step State.txReadDone_moves; · decide) | dsimp -proj only | split))

theorem State.checkDrainedSq_moves {s : State} {r : Nat} :
    Moves [.regs] s (State.checkDrainedSq s r) := by
  unfold State.checkDrainedSq
  all_goals (repeat' (first | with_reducible exact .refl | (with_reducible apply Moves.step State.setSqState_moves; · decide) | dsimp -proj only | split))

theorem State.postOne_moves {s : State} {r : Nat} {ci : Option Word} :
    Moves [.regs, .counters, .hostMem, .emitted, .hq] s (State.postOne s r ci) := by
  unfold State.postOne
  all_goals (repeat' (first | with_reducible exact .refl | (with_reducible apply Moves.step State.count_moves; · decide) | (with_reducible apply Moves.step State.setSq_moves; · decide) | (with_reducible apply Moves.step State.setReserved_moves; · decide) | (with_reducible apply Moves.step State.writeEntry_moves; · decide) | (with_reducible apply Moves.step State.writePi_moves; · decide) | (with_reducible apply Moves.step State.readCi_moves; · decide) | (with_reducible apply Moves.step State.cqInterrupt_moves; · decide) | (with_reducible apply Moves.step State.checkDrainedSq_moves; · decide) | dsimp -proj only | split))

theorem execCompletionPost_moves {r : Ring} {ci : Option Word} {s : State} :
    Ends [.regs, .counters, .hostMem, .emitted, .hq] s (execCompletionPost r ci s) := by
  unfold execCompletionPost
  all_goals (repeat' (first | with_reducible exact .refl | with_reducible apply Ends.next | (with_reducible apply Moves.step State.postOne_moves; · decide) | dsimp -proj only | split))

theorem execCqDoorbell_moves {off : BitVec 19} {len : Fin 64} {cis : List (Option Word)} {s : State} :
    Ends [.regs, .emitted, .hq] s (execCqDoorbell off len cis s) := by
  unfold execCqDoorbell
  all_goals (repeat' (first | with_reducible exact .refl | with_reducible apply Ends.next | (with_reducible apply Moves.step State.ringDoorbells_moves; · decide) | dsimp -proj only | split))

theorem execCqCoalTimer_moves {r : Ring} {ci : Option Word} {s : State} :
    Ends [.regs, .emitted] s (execCqCoalTimer r ci s) := by
  unfold execCqCoalTimer
  all_goals (repeat' (first | with_reducible exact .refl | with_reducible apply Ends.next | (with_reducible apply Moves.step State.readCi_moves; · decide) | (with_reducible apply Moves.step State.cqMessage_moves; · decide) | (with_reducible apply Moves.step State.cqInterrupt_moves; · decide) | dsimp -proj only | split))

theorem State.eventDrop_moves {s : State} {c : Nat} :
    Moves [.regs] s (State.eventDrop s c) := by
  unfold State.eventDrop
  all_goals (repeat' (first | with_reducible exact .refl | (with_reducible apply Moves.step State.incSat_moves; · decide) | dsimp -proj only | split))

theorem State.writeFaultRecord_moves {s : State} {ci : Option Word} :
    Moves [.regs, .counters, .hostMem, .emitted, .fc, .buf] s (State.writeFaultRecord s ci) := by
  unfold State.writeFaultRecord
  all_goals (repeat' (first | with_reducible exact .refl | (with_reducible apply Moves.step State.incSat_moves; · decide) | (with_reducible apply Moves.step State.recordFree_moves; · decide) | (with_reducible apply Moves.step State.writeEntry_moves; · decide) | (with_reducible apply Moves.step State.writePi_moves; · decide) | (with_reducible apply Moves.step State.readCi_moves; · decide) | (with_reducible apply Moves.step State.cqInterrupt_moves; · decide) | (with_reducible apply Moves.step State.eventDrop_moves; · decide) | dsimp -proj only | split | (with_reducible apply Moves.fc; · decide)))

theorem State.writeCapture_moves {s : State} {ci : Option Word} :
    Moves [.regs, .counters, .hostMem, .emitted, .buf, .hq] s (State.writeCapture s ci) := by
  unfold State.writeCapture
  all_goals (repeat' (first | with_reducible exact .refl | (with_reducible apply Moves.step State.count_moves; · decide) | (with_reducible apply Moves.step State.recordFree_moves; · decide) | (with_reducible apply Moves.step State.writeRecord_moves; · decide) | (with_reducible apply Moves.step State.writePi_moves; · decide) | (with_reducible apply Moves.step State.readCi_moves; · decide) | (with_reducible apply Moves.step State.cqInterrupt_moves; · decide) | (with_reducible apply Moves.step State.eventDrop_moves; · decide) | dsimp -proj only | split | (with_reducible apply Moves.hq; · decide)))

theorem execEventRecordWrite_moves {capture : Bool} {ci : Option Word} {s : State} :
    Ends (.hostMem :: .hq :: reactParts) s (execEventRecordWrite capture ci s) := by
  unfold execEventRecordWrite
  all_goals (repeat' (first | with_reducible exact .refl | with_reducible apply Ends.next | (with_reducible apply Moves.step State.raiseFound_moves; · decide) | (with_reducible apply Moves.step State.writeFaultRecord_moves; · decide) | (with_reducible apply Moves.step State.writeCapture_moves; · decide) | dsimp -proj only | split))

theorem State.enableSq_moves {s : State} {r : Nat} :
    Moves (.hq :: reactParts) s (State.enableSq s r) := by
  unfold State.enableSq
  all_goals (repeat' (first | with_reducible exact .refl | (with_reducible apply Moves.step State.setReg_moves; · decide) | (with_reducible apply Moves.step State.setBit_moves; · decide) | (with_reducible apply Moves.step State.refusedWrite_moves; · decide) | (with_reducible apply Moves.step State.setSq_moves; · decide) | (with_reducible apply Moves.step State.setSqState_moves; · decide) | dsimp -proj only | split))

theorem State.enableCq_moves {s : State} {c : Nat} :
    Moves reactParts s (State.enableCq s c) := by
  unfold State.enableCq
  all_goals (repeat' (first | with_reducible exact .refl | (with_reducible apply Moves.step State.setReg_moves; · decide) | (with_reducible apply Moves.step State.setFld_moves; · decide) | (with_reducible apply Moves.step State.setBit_moves; · decide) | (with_reducible apply Moves.step State.refusedWrite_moves; · decide) | dsimp -proj only | split))

theorem State.writeCfg_moves {s : State} {cq : Bool} {r : Nat} {value : Word} :
    Moves reactParts s (State.writeCfg s cq r value) := by
  unfold State.writeCfg
  all_goals (repeat' (first | with_reducible exact .refl | (with_reducible apply Moves.step State.setReg_moves; · decide) | (with_reducible apply Moves.step State.refusedWrite_moves; · decide) | (with_reducible apply Moves.step State.cqInterrupt_moves; · decide) | dsimp -proj only | split))

theorem State.disableSq_moves {s : State} {r : Nat} :
    Moves [.regs, .hq] s (State.disableSq s r) := by
  unfold State.disableSq
  all_goals (repeat' (first | with_reducible exact .refl | (with_reducible apply Moves.step State.setBit_moves; · decide) | (with_reducible apply Moves.step State.setSq_moves; · decide) | (with_reducible apply Moves.step State.setSqState_moves; · decide) | (with_reducible apply Moves.step State.checkDrainedSq_moves; · decide) | dsimp -proj only | split))

theorem State.disableCq_moves {s : State} {c : Nat} :
    Moves reactParts s (State.disableCq s c) := by
  unfold State.disableCq
  all_goals (repeat' (first | with_reducible exact .refl | (with_reducible apply Moves.step State.setFld_moves; · decide) | (with_reducible apply Moves.step State.setBit_moves; · decide) | (with_reducible apply Moves.step State.refusedWrite_moves; · decide) | dsimp -proj only | split))

theorem State.ringChange_moves {s : State} {cq : Bool} {r : Nat} {was on : Bool} :
    Moves (.hq :: reactParts) s (State.ringChange s cq r was on) := by
  unfold State.ringChange
  all_goals (repeat' (first | with_reducible exact .refl | (with_reducible apply Moves.step State.enableSq_moves; · decide) | (with_reducible apply Moves.step State.enableCq_moves; · decide) | (with_reducible apply Moves.step State.disableSq_moves; · decide) | (with_reducible apply Moves.step State.disableCq_moves; · decide) | dsimp -proj only | split))

theorem State.writeRingCfg_moves {s : State} {cq : Bool} {r : Nat} {value : Word} :
    Moves (.hq :: reactParts) s (State.writeRingCfg s cq r value) := by
  unfold State.writeRingCfg
  all_goals (repeat' (first | with_reducible exact .refl | (with_reducible apply Moves.step State.writeCfg_moves; · decide) | (with_reducible apply Moves.step State.ringChange_moves; · decide) | dsimp -proj only | split))

theorem execRingEnable_moves {cq : Bool} {r : Ring} {value : Word} {s : State} :
    Ends (.hq :: reactParts) s (execRingEnable cq r value s) := by
  unfold execRingEnable
  all_goals (repeat' (first | with_reducible exact .refl | with_reducible apply Ends.next | (with_reducible apply Moves.step State.writeRingCfg_moves; · decide) | dsimp -proj only | split))

theorem execRingDisable_moves {cq : Bool} {r : Ring} {value : Word} {s : State} :
    Ends (.hq :: reactParts) s (execRingDisable cq r value s) := by
  unfold execRingDisable
  all_goals (repeat' (first | with_reducible exact .refl | with_reducible apply Ends.next | (with_reducible apply Moves.step State.writeRingCfg_moves; · decide) | dsimp -proj only | split))

theorem State.ringsWait_moves {s : State} :
    Moves [.regs] s (State.ringsWait s) := by
  unfold State.ringsWait
  all_goals (repeat' (first | with_reducible exact .refl | (with_reducible apply Moves.step State.setSqState_moves; · decide) | with_reducible apply Moves.fold | with_reducible apply Moves.fold₁ | with_reducible intro _ _ | dsimp -proj only | split))

theorem execPcieBusMasterOff_moves {s : State} :
    Ends [.regs, .hq] s (execPcieBusMasterOff s) := by
  unfold execPcieBusMasterOff
  all_goals (repeat' (first | with_reducible exact .refl | with_reducible apply Ends.next | (with_reducible apply Moves.step State.ringsWait_moves; · decide) | dsimp -proj only | split | (with_reducible apply Moves.hq; · decide)))

theorem State.ringsResume_moves {s : State} :
    Moves [.regs, .hq] s (State.ringsResume s) := by
  unfold State.ringsResume
  all_goals (repeat' (first | with_reducible exact .refl | (with_reducible apply Moves.step State.setSqState_moves; · decide) | (with_reducible apply Moves.step State.startScan_moves; · decide) | with_reducible apply Moves.fold | with_reducible apply Moves.fold₁ | with_reducible intro _ _ | dsimp -proj only | split))

theorem State.busBack_moves {s : State} {cis : List (Option Word)} :
    Moves [.regs, .emitted, .hq] s (State.busBack s cis) := by
  unfold State.busBack
  all_goals (repeat' (first | with_reducible exact .refl | (with_reducible apply Moves.step State.cqsLook_moves; · decide) | (with_reducible apply Moves.step State.ringsResume_moves; · decide) | dsimp -proj only | split))

theorem execPcieBusMasterOn_moves {cis : List (Option Word)} {s : State} :
    Ends [.regs, .emitted, .hq] s (execPcieBusMasterOn cis s) := by
  unfold execPcieBusMasterOn
  all_goals (repeat' (first | with_reducible exact .refl | with_reducible apply Ends.next | (with_reducible apply Moves.step State.busBack_moves; · decide) | dsimp -proj only | split | (with_reducible apply Moves.hq; · decide)))

theorem State.dropCaptures_moves {s : State} :
    Moves [.counters, .buf, .hq] s (State.dropCaptures s) := by
  unfold State.dropCaptures
  all_goals (repeat' (first | with_reducible exact .refl | (with_reducible apply Moves.step State.count_moves; · decide) | (with_reducible apply Moves.step State.recordFree_moves; · decide) | with_reducible apply Moves.fold | with_reducible apply Moves.fold₁ | with_reducible intro _ _ | dsimp -proj only | split | (with_reducible apply Moves.hq; · decide)))

theorem State.functionReset_moves {s : State} :
    Moves [.regs, .counters, .buf, .trestle, .hq] s (State.functionReset s) := by
  unfold State.functionReset
  all_goals (repeat' (first | with_reducible exact .refl | (with_reducible apply Moves.step State.setBit_moves; · decide) | (with_reducible apply Moves.step State.checkDrained_moves; · decide) | (with_reducible apply Moves.step State.dropCaptures_moves; · decide) | with_reducible apply Moves.fold | with_reducible apply Moves.fold₁ | with_reducible intro _ _ | dsimp -proj only | split | (with_reducible apply Moves.regs; (· decide); (· first | exact fun h => h | exact Tbl.wf_put _ _ _ _ | exact fun h => Tbl.wf_put _ _ _ _ (Tbl.wf_put _ _ _ _ h) | exact Tbl.wf_filter _ _ _ | exact fun _ => rfl | exact writeCellBytes_wf | exact writeBytes_wf | exact programBytes_wf)) | (with_reducible apply Moves.buf; (· decide); (· with_reducible rfl)) | (with_reducible apply Moves.trestle; · decide) | (with_reducible apply Moves.hq; · decide) | (with_reducible apply Moves.upd; with_reducible rfl; (all_goals first | exact .inl (by with_reducible rfl) | exact .inr (by decide) | exact .inr ⟨by decide, by first | exact fun h => h | exact Tbl.wf_put _ _ _ _ | exact fun h => Tbl.wf_put _ _ _ _ (Tbl.wf_put _ _ _ _ h) | exact Tbl.wf_filter _ _ _ | exact fun _ => rfl | exact writeCellBytes_wf | exact writeBytes_wf | exact programBytes_wf⟩ | skip))))

theorem execPcieFlr_moves {s : State} :
    Ends [.regs, .counters, .buf, .trestle, .hq] s (execPcieFlr s) := by
  unfold execPcieFlr
  all_goals (repeat' (first | with_reducible exact .refl | with_reducible apply Ends.next | (with_reducible apply Moves.step State.functionReset_moves; · decide) | dsimp -proj only | split))

theorem execPciePerst_moves {s : State} :
    Ends [.regs, .counters, .buf, .trestle, .hq] s (execPciePerst s) := by
  unfold execPciePerst
  all_goals (repeat' (first | with_reducible exact .refl | with_reducible apply Ends.next | (with_reducible apply Moves.step State.functionReset_moves; · decide) | dsimp -proj only | split | (with_reducible apply Moves.hq; · decide)))

theorem execPcieLinkUp_moves {rate width : Nat} {cis : List (Option Word)} {s : State} :
    Ends (.hq :: reactParts) s (execPcieLinkUp rate width cis s) := by
  unfold execPcieLinkUp
  all_goals (repeat' (first | with_reducible exact .refl | with_reducible apply Ends.next | (with_reducible apply Moves.step State.latchFault_moves; · decide) | (with_reducible apply Moves.step State.busBack_moves; · decide) | (with_reducible apply Moves.step State.pcieRefLost_moves; · decide) | dsimp -proj only | split | (with_reducible apply Moves.hq; · decide)))

theorem execMsixVectorUnmask_moves {v : Fin 2048} {s : State} :
    Ends [.regs, .emitted] s (execMsixVectorUnmask v s) := by
  unfold execMsixVectorUnmask
  all_goals (repeat' (first | with_reducible exact .refl | with_reducible apply Ends.next | (with_reducible apply Moves.step State.setBit_moves; · decide) | (with_reducible apply Moves.step State.msixVector_moves; · decide) | dsimp -proj only | split))

end Sys2Proof.Machine
end

