-- ==== Sys2Proof/Laws/Moves/Keystone.lean ====
section
/-! SUPPORT. What each operation of Machine/Keystone.lean can touch, and that it keeps the stores canonical. -/

namespace Sys2Proof.Machine

theorem State.setKsState_moves {s : State} {p v : Nat} :
    Moves [.regs, .fc] s (State.setKsState s p v) := by
  unfold State.setKsState
  all_goals (repeat' (first | with_reducible exact .refl | (with_reducible apply Moves.step State.setFld_moves; · decide) | (with_reducible apply Moves.step State.setMgmt_moves; · decide) | dsimp -proj only | split))

theorem State.moveGroup_moves {s : State} {group pair : Nat} :
    Moves [.regs] s (State.moveGroup s group pair) := by
  unfold State.moveGroup
  all_goals (repeat' (first | with_reducible exact .refl | (with_reducible apply Moves.step State.setBit_moves; · decide) | dsimp -proj only | split))

theorem State.setKc_moves {s : State} {p : Nat} {x : KcPair} :
    Moves [.ks] s (State.setKc s p x) := by
  unfold State.setKc
  all_goals (repeat' (first | with_reducible exact .refl | dsimp -proj only | split | (with_reducible apply Moves.ks; · decide)))

theorem State.haltDump_moves {s : State} {p : Nat} {ecause : Nat} {double mismatch watchdog : Bool} :
    Moves [.regs] s (State.haltDump s p ecause double mismatch watchdog) := by
  unfold State.haltDump
  all_goals (repeat' (first | with_reducible exact .refl | (with_reducible apply Moves.step State.setReg_moves; · decide) | dsimp -proj only | split))

theorem State.pairFails_moves {s : State} {p elem ecause : Nat} {double mismatch watchdog : Bool} :
    Moves reactParts s (State.pairFails s p elem ecause double mismatch watchdog) := by
  unfold State.pairFails
  all_goals (repeat' (first | with_reducible exact .refl | (with_reducible apply Moves.step State.fence_moves; · decide) | (with_reducible apply Moves.step State.latchFault_moves; · decide) | (with_reducible apply Moves.step State.setKsState_moves; · decide) | (with_reducible apply Moves.step State.haltDump_moves; · decide) | dsimp -proj only | split))

theorem execKeystoneComparatorMismatch_moves {pair : Fin 2} {s : State} :
    Ends reactParts s (execKeystoneComparatorMismatch pair s) := by
  unfold execKeystoneComparatorMismatch
  all_goals (repeat' (first | with_reducible exact .refl | with_reducible apply Ends.next | (with_reducible apply Moves.step State.pairFails_moves; · decide) | dsimp -proj only | split))

theorem execKeystoneWatchdogExpire_moves {pair : Fin 2} {s : State} :
    Ends reactParts s (execKeystoneWatchdogExpire pair s) := by
  unfold execKeystoneWatchdogExpire
  all_goals (repeat' (first | with_reducible exact .refl | with_reducible apply Ends.next | (with_reducible apply Moves.step State.pairFails_moves; · decide) | dsimp -proj only | split))

theorem State.sweepPlain_moves {s : State} {code : Nat} {which : Call → Bool} :
    Moves [.trestle, .hq] s (State.sweepPlain s code which) := by
  unfold State.sweepPlain
  all_goals (repeat' (first | with_reducible exact .refl | (with_reducible apply Moves.step State.setSq_moves; · decide) | with_reducible apply Moves.fold | with_reducible apply Moves.fold₁ | with_reducible intro _ _ | dsimp -proj only | split | (with_reducible apply Moves.trestle; · decide)))

theorem execKeystoneTakeoverDone_moves {pair : Fin 2} {s : State} :
    Ends [.regs, .emitted, .fc, .ks] s (execKeystoneTakeoverDone pair s) := by
  unfold execKeystoneTakeoverDone
  all_goals (repeat' (first | with_reducible exact .refl | with_reducible apply Ends.next | (with_reducible apply Moves.step State.incMod_moves; · decide) | (with_reducible apply Moves.step State.irq_moves; · decide) | (with_reducible apply Moves.step State.setKsState_moves; · decide) | (with_reducible apply Moves.step State.moveGroup_moves; · decide) | dsimp -proj only | split | (with_reducible apply Moves.ks; · decide)))

theorem State.writeKsCtrl_moves {s : State} {value : Word} :
    Moves (.ks :: reactParts) s (State.writeKsCtrl s value) := by
  unfold State.writeKsCtrl
  all_goals (repeat' (first | with_reducible exact .refl | (with_reducible apply Moves.step State.setFld_moves; · decide) | (with_reducible apply Moves.step State.refusedWrite_moves; · decide) | (with_reducible apply Moves.step State.setKsState_moves; · decide) | (with_reducible apply Moves.step State.moveGroup_moves; · decide) | (with_reducible apply Moves.step State.setKc_moves; · decide) | dsimp -proj only | split))

theorem execKeystoneReinstate_moves {value : Word} {s : State} :
    Ends (.ks :: reactParts) s (execKeystoneReinstate value s) := by
  unfold execKeystoneReinstate
  all_goals (repeat' (first | with_reducible exact .refl | with_reducible apply Ends.next | (with_reducible apply Moves.step State.writeKsCtrl_moves; · decide) | dsimp -proj only | split))

theorem execKeystoneReturn_moves {value : Word} {s : State} :
    Ends (.ks :: reactParts) s (execKeystoneReturn value s) := by
  unfold execKeystoneReturn
  all_goals (repeat' (first | with_reducible exact .refl | with_reducible apply Ends.next | (with_reducible apply Moves.step State.writeKsCtrl_moves; · decide) | dsimp -proj only | split))

theorem execKeystoneSelftestDone_moves {pair : Fin 2} {passed : Bool} {s : State} :
    Ends reactParts s (execKeystoneSelftestDone pair passed s) := by
  unfold execKeystoneSelftestDone
  all_goals (repeat' (first | with_reducible exact .refl | with_reducible apply Ends.next | (with_reducible apply Moves.step State.unfence_moves; · decide) | (with_reducible apply Moves.step State.latchFault_moves; · decide) | (with_reducible apply Moves.step State.setKsState_moves; · decide) | dsimp -proj only | split))

theorem State.kcTrap_moves {s : State} {p c : Nat} :
    Moves (.ks :: reactParts) s (State.kcTrap s p c) := by
  unfold State.kcTrap
  all_goals (repeat' (first | with_reducible exact .refl | (with_reducible apply Moves.step State.setKc_moves; · decide) | (with_reducible apply Moves.step State.pairFails_moves; · decide) | dsimp -proj only | split))

theorem State.kcTakeInterrupt_moves {s : State} {p : Nat} :
    Moves (.ks :: reactParts) s (State.kcTakeInterrupt s p) := by
  unfold State.kcTakeInterrupt
  all_goals (repeat' (first | with_reducible exact .refl | (with_reducible apply Moves.step State.setKc_moves; · decide) | (with_reducible apply Moves.step State.kcTrap_moves; · decide) | dsimp -proj only | split))

theorem State.kcPend_moves {s : State} {p : Nat} {lines : DWord} :
    Moves [.ks] s (State.kcPend s p lines) := by
  unfold State.kcPend
  all_goals (repeat' (first | with_reducible exact .refl | (with_reducible apply Moves.step State.setKc_moves; · decide) | dsimp -proj only | split))

theorem execKeystoneTakeoverStart_moves {pair : Fin 2} {s : State} :
    Ends (.hq :: .ks :: reactParts) s (execKeystoneTakeoverStart pair s) := by
  unfold execKeystoneTakeoverStart
  all_goals (repeat' (first | with_reducible exact .refl | with_reducible apply Ends.next | (with_reducible apply Moves.step State.sweepPlain_moves; · decide) | (with_reducible apply Moves.step State.kcTakeInterrupt_moves; · decide) | (with_reducible apply Moves.step State.kcPend_moves; · decide) | dsimp -proj only | split | (with_reducible apply Moves.ks; · decide)))

theorem execCall_moves {pair : Fin 2} {target ret : DWord} {s : State} :
    Ends (.ks :: reactParts) s (execCall pair target ret s) := by
  unfold execCall
  all_goals (repeat' (first | with_reducible exact .refl | with_reducible apply Ends.next | (with_reducible apply Moves.step State.setKc_moves; · decide) | (with_reducible apply Moves.step State.kcTrap_moves; · decide) | dsimp -proj only | split))

theorem execRet_moves {pair : Fin 2} {s : State} :
    Ends (.ks :: reactParts) s (execRet pair s) := by
  unfold execRet
  all_goals (repeat' (first | with_reducible exact .refl | with_reducible apply Ends.next | (with_reducible apply Moves.step State.setKc_moves; · decide) | (with_reducible apply Moves.step State.kcTrap_moves; · decide) | dsimp -proj only | split))

theorem execWsave_moves {pair : Fin 2} {w : Fin 16} {s : State} :
    Ends (.ks :: reactParts) s (execWsave pair w s) := by
  unfold execWsave
  all_goals (repeat' (first | with_reducible exact .refl | with_reducible apply Ends.next | (with_reducible apply Moves.step State.setKc_moves; · decide) | (with_reducible apply Moves.step State.kcTrap_moves; · decide) | dsimp -proj only | split))

theorem execWload_moves {pair : Fin 2} {w : Fin 16} {s : State} :
    Ends (.ks :: reactParts) s (execWload pair w s) := by
  unfold execWload
  all_goals (repeat' (first | with_reducible exact .refl | with_reducible apply Ends.next | (with_reducible apply Moves.step State.setKc_moves; · decide) | (with_reducible apply Moves.step State.kcTrap_moves; · decide) | with_reducible apply Moves.fold | with_reducible apply Moves.fold₁ | with_reducible intro _ _ | dsimp -proj only | split))

theorem execTexit_moves {pair : Fin 2} {s : State} :
    Ends (.ks :: reactParts) s (execTexit pair s) := by
  unfold execTexit
  all_goals (repeat' (first | with_reducible exact .refl | with_reducible apply Ends.next | (with_reducible apply Moves.step State.setKc_moves; · decide) | (with_reducible apply Moves.step State.kcTakeInterrupt_moves; · decide) | dsimp -proj only | split))

theorem execKcTrapEntry_moves {pair : Fin 2} {causes : List Byte} {s : State} :
    Ends (.ks :: reactParts) s (execKcTrapEntry pair causes s) := by
  unfold execKcTrapEntry
  all_goals (repeat' (first | with_reducible exact .refl | with_reducible apply Ends.next | (with_reducible apply Moves.step State.kcTrap_moves; · decide) | (with_reducible apply Moves.step State.kcTakeInterrupt_moves; · decide) | (with_reducible apply Moves.step State.kcPend_moves; · decide) | dsimp -proj only | split))

theorem execKcInterrupt_moves {pair : Fin 2} {lines : DWord} {s : State} :
    Ends (.ks :: reactParts) s (execKcInterrupt pair lines s) := by
  unfold execKcInterrupt
  all_goals (repeat' (first | with_reducible exact .refl | with_reducible apply Ends.next | (with_reducible apply Moves.step State.kcTakeInterrupt_moves; · decide) | (with_reducible apply Moves.step State.kcPend_moves; · decide) | dsimp -proj only | split))

end Sys2Proof.Machine
end

