-- ==== Sys2Proof/Laws/Moves/Trestle.lean ====
section
/-! SUPPORT. What each operation of Machine/Trestle.lean can touch, and that it keeps the stores canonical. -/

namespace Sys2Proof.Machine

theorem State.finishCall_moves {s : State} {r : Nat} {done : Done} :
    Moves (.hq :: .jrn :: reactParts) s (State.finishCall s r done) := by
  unfold State.finishCall
  all_goals (repeat' (first | with_reducible exact .refl | (with_reducible apply Moves.step State.nameFault_moves; · decide) | (with_reducible apply Moves.step State.latchFault_moves; · decide) | (with_reducible apply Moves.step State.setExecuted_moves; · decide) | (with_reducible apply Moves.step State.setSq_moves; · decide) | (with_reducible apply Moves.step State.finishTaken_moves; · decide) | dsimp -proj only | split))

theorem State.runCall_moves {ps : List StatePart} {s : State} {r svc fn : Nat} {allowed : DevState → Bool}
    {f : Call → State} (hs : (.hq :: .jrn :: reactParts) ⊆ ps) (hf : ∀ c, Moves ps s (f c)) :
    Moves ps s (State.runCall s r svc fn allowed f) := by
  unfold State.runCall
  split
  · exact .refl
  · split
    · exact hf _
    · exact .mono hs State.finishCall_moves

theorem State.putItem_moves {s : State} {span : Nat} {t : TableRef} {x : ItemData} :
    Moves [.tables] s (State.putItem s span t x) := by
  unfold State.putItem
  all_goals (repeat' (first | with_reducible exact .refl | (with_reducible apply Moves.step State.setSram_moves; · decide) | (with_reducible apply Moves.step State.setTcam_moves; · decide) | (with_reducible apply Moves.step State.setRule_moves; · decide) | with_reducible apply Moves.fold | with_reducible apply Moves.fold₁ | with_reducible intro _ _ | dsimp -proj only | split))

theorem State.queueRequest_moves {s : State} {span : Nat} {q : TrestleReq} :
    Moves [.trestle, .hq] s (State.queueRequest s span q) := by
  unfold State.queueRequest
  all_goals (repeat' (first | with_reducible exact .refl | (with_reducible apply Moves.step State.setEngine_moves; · decide) | (with_reducible apply Moves.step State.setSq_moves; · decide) | dsimp -proj only | split))

theorem execTrestleRoutineStart_moves {span : Span} {s : State} :
    Ends [.trestle] s (execTrestleRoutineStart span s) := by
  unfold execTrestleRoutineStart
  all_goals (repeat' (first | with_reducible exact .refl | with_reducible apply Ends.next | (with_reducible apply Moves.step State.setEngine_moves; · decide) | dsimp -proj only | split))

theorem State.boundary_moves {s : State} {span : Nat} {f : Trestle → Trestle} :
    Moves [.trestle] s (State.boundary s span f) := by
  unfold State.boundary
  all_goals (repeat' (first | with_reducible exact .refl | (with_reducible apply Moves.step State.setEngine_moves; · decide) | dsimp -proj only | split))

theorem execTrestleLd_moves {span : Span} {item : TableRef} {reg : Fin 16} {s : State} :
    Ends [.regs, .trestle] s (execTrestleLd span item reg s) := by
  unfold execTrestleLd
  all_goals (repeat' (first | with_reducible exact .refl | with_reducible apply Ends.next | (with_reducible apply Moves.step State.setReg_moves; · decide) | (with_reducible apply Moves.step State.boundary_moves; · decide) | with_reducible apply Moves.fold | with_reducible apply Moves.fold₁ | with_reducible intro _ _ | dsimp -proj only | split))

theorem execTrestleAlu_moves {span : Span} {op : Byte} {dst a b : Fin 16} {s : State} :
    Ends [.regs, .trestle] s (execTrestleAlu span op dst a b s) := by
  unfold execTrestleAlu
  all_goals (repeat' (first | with_reducible exact .refl | with_reducible apply Ends.next | (with_reducible apply Moves.step State.setReg_moves; · decide) | (with_reducible apply Moves.step State.boundary_moves; · decide) | dsimp -proj only | split))

theorem execTrestleHash_moves {span : Span} {table : Fin 256} {hsel : Fin 8} {key dst : Fin 16} {s : State} :
    Ends [.regs, .trestle] s (execTrestleHash span table hsel key dst s) := by
  unfold execTrestleHash
  all_goals (repeat' (first | with_reducible exact .refl | with_reducible apply Ends.next | (with_reducible apply Moves.step State.setReg_moves; · decide) | (with_reducible apply Moves.step State.boundary_moves; · decide) | with_reducible apply Moves.fold | with_reducible apply Moves.fold₁ | with_reducible intro _ _ | dsimp -proj only | split))

theorem State.noteActed_moves {s : State} {span : Nat} :
    Moves [.trestle] s (State.noteActed s span) := by
  unfold State.noteActed
  all_goals (repeat' (first | with_reducible exact .refl | (with_reducible apply Moves.step State.setEngine_moves; · decide) | dsimp -proj only | split))

theorem execTrestleStage_moves {span : Span} {item : TableRef} {data : ItemData} {s : State} :
    Ends [.tables, .trestle] s (execTrestleStage span item data s) := by
  unfold execTrestleStage
  all_goals (repeat' (first | with_reducible exact .refl | with_reducible apply Ends.next | (with_reducible apply Moves.step State.putItem_moves; · decide) | (with_reducible apply Moves.step State.boundary_moves; · decide) | (with_reducible apply Moves.step State.noteActed_moves; · decide) | with_reducible apply Moves.fold | with_reducible apply Moves.fold₁ | with_reducible intro _ _ | dsimp -proj only | split))

theorem State.noteFlip_moves {s : State} {span : Nat} {has : Bool} {old new : Word} :
    Moves [.trestle] s (State.noteFlip s span has old new) := by
  unfold State.noteFlip
  all_goals (repeat' (first | with_reducible exact .refl | (with_reducible apply Moves.step State.setEngine_moves; · decide) | (with_reducible apply Moves.step State.noteActed_moves; · decide) | dsimp -proj only | split))

theorem execTrestleFlip_moves {span : Span} {item : TableRef} {expected : Word} {data : ItemData} {s : State} :
    Ends [.counters, .tables, .trestle] s (execTrestleFlip span item expected data s) := by
  unfold execTrestleFlip
  all_goals (repeat' (first | with_reducible exact .refl | with_reducible apply Ends.next | (with_reducible apply Moves.step State.count_moves; · decide) | (with_reducible apply Moves.step State.putItem_moves; · decide) | (with_reducible apply Moves.step State.boundary_moves; · decide) | (with_reducible apply Moves.step State.noteFlip_moves; · decide) | dsimp -proj only | split))

theorem execTrestleBflip_moves {span : Span} {item : TableRef} {bits expected : Word} {data : ItemData} {s : State} :
    Ends [.counters, .tables, .trestle] s (execTrestleBflip span item bits expected data s) := by
  unfold execTrestleBflip
  all_goals (repeat' (first | with_reducible exact .refl | with_reducible apply Ends.next | (with_reducible apply Moves.step State.count_moves; · decide) | (with_reducible apply Moves.step State.putItem_moves; · decide) | (with_reducible apply Moves.step State.boundary_moves; · decide) | (with_reducible apply Moves.step State.noteFlip_moves; · decide) | with_reducible apply Moves.fold | with_reducible apply Moves.fold₁ | with_reducible intro _ _ | dsimp -proj only | split))

theorem execTrestleBranch_moves {span : Span} {target : BitVec 12} {s : State} :
    Ends [.trestle] s (execTrestleBranch span target s) := by
  unfold execTrestleBranch
  all_goals (repeat' (first | with_reducible exact .refl | with_reducible apply Ends.next | (with_reducible apply Moves.step State.setEngine_moves; · decide) | dsimp -proj only | split))

theorem State.finishOwner_moves {s : State} {owner : Option Nat} {done : Done} :
    Moves (.hq :: .jrn :: reactParts) s (State.finishOwner s owner done) := by
  unfold State.finishOwner
  all_goals (repeat' (first | with_reducible exact .refl | (with_reducible apply Moves.step State.finishCall_moves; · decide) | dsimp -proj only | split))

theorem State.stopRoutine_moves {s : State} {span : Nat} :
    Moves (.hq :: .jrn :: reactParts) s (State.stopRoutine s span) := by
  unfold State.stopRoutine
  all_goals (repeat' (first | with_reducible exact .refl | (with_reducible apply Moves.step State.setEngine_moves; · decide) | (with_reducible apply Moves.step State.haltEngine_moves; · decide) | (with_reducible apply Moves.step State.finishOwner_moves; · decide) | dsimp -proj only | split))

theorem State.writeTrCtrl_moves {s : State} {span : Nat} {value : Word} :
    Moves (.hq :: .jrn :: reactParts) s (State.writeTrCtrl s span value) := by
  unfold State.writeTrCtrl
  all_goals (repeat' (first | with_reducible exact .refl | (with_reducible apply Moves.step State.setBit_moves; · decide) | (with_reducible apply Moves.step State.setEngine_moves; · decide) | (with_reducible apply Moves.step State.finishOwner_moves; · decide) | (with_reducible apply Moves.step State.stopRoutine_moves; · decide) | dsimp -proj only | split))

theorem execTrestleStop_moves {span : Span} {value : Word} {s : State} :
    Ends (.hq :: .jrn :: reactParts) s (execTrestleStop span value s) := by
  unfold execTrestleStop
  all_goals (repeat' (first | with_reducible exact .refl | with_reducible apply Ends.next | (with_reducible apply Moves.step State.writeTrCtrl_moves; · decide) | dsimp -proj only | split))

theorem execTrestleResume_moves {span : Span} {value : Word} {s : State} :
    Ends (.hq :: .jrn :: reactParts) s (execTrestleResume span value s) := by
  unfold execTrestleResume
  all_goals (repeat' (first | with_reducible exact .refl | with_reducible apply Ends.next | (with_reducible apply Moves.step State.writeTrCtrl_moves; · decide) | dsimp -proj only | split))

theorem execTrestleAbort_moves {span : Span} {value : Word} {s : State} :
    Ends (.hq :: .jrn :: reactParts) s (execTrestleAbort span value s) := by
  unfold execTrestleAbort
  all_goals (repeat' (first | with_reducible exact .refl | with_reducible apply Ends.next | (with_reducible apply Moves.step State.writeTrCtrl_moves; · decide) | dsimp -proj only | split))

theorem State.crossbarFault_moves {s : State} {span : Nat} :
    Moves reactParts s (State.crossbarFault s span) := by
  unfold State.crossbarFault
  all_goals (repeat' (first | with_reducible exact .refl | (with_reducible apply Moves.step State.latchFault_moves; · decide) | dsimp -proj only | split))

theorem State.writeKind_moves {s : State} {span t : Nat} {value : Word} :
    Moves reactParts s (State.writeKind s span t value) := by
  unfold State.writeKind
  all_goals (repeat' (first | with_reducible exact .refl | (with_reducible apply Moves.step State.setReg_moves; · decide) | (with_reducible apply Moves.step State.crossbarFault_moves; · decide) | dsimp -proj only | split))

theorem State.writeUnits_moves {s : State} {span t : Nat} {value : Word} :
    Moves reactParts s (State.writeUnits s span t value) := by
  unfold State.writeUnits
  all_goals (repeat' (first | with_reducible exact .refl | (with_reducible apply Moves.step State.setReg_moves; · decide) | (with_reducible apply Moves.step State.crossbarFault_moves; · decide) | dsimp -proj only | split))

theorem execTableKindWrite_moves {span : Span} {t : Fin 240} {units : Bool} {value : Word} {s : State} :
    Ends reactParts s (execTableKindWrite span t units value s) := by
  unfold execTableKindWrite
  all_goals (repeat' (first | with_reducible exact .refl | with_reducible apply Ends.next | (with_reducible apply Moves.step State.refusedWrite_moves; · decide) | (with_reducible apply Moves.step State.crossbarFault_moves; · decide) | (with_reducible apply Moves.step State.writeKind_moves; · decide) | (with_reducible apply Moves.step State.writeUnits_moves; · decide) | dsimp -proj only | split))

theorem State.copyItem_moves {s : State} {src dst : Nat} {t : TableRef} :
    Moves [.tables] s (State.copyItem s src dst t) := by
  unfold State.copyItem
  all_goals (repeat' (first | with_reducible exact .refl | (with_reducible apply Moves.step State.setSram_moves; · decide) | (with_reducible apply Moves.step State.setTcam_moves; · decide) | (with_reducible apply Moves.step State.setRule_moves; · decide) | dsimp -proj only | split))

theorem State.zeroItem_moves {s : State} {span : Nat} {t : TableRef} :
    Moves [.tables] s (State.zeroItem s span t) := by
  unfold State.zeroItem
  all_goals (repeat' (first | with_reducible exact .refl | (with_reducible apply Moves.step State.setSram_moves; · decide) | (with_reducible apply Moves.step State.setTcam_moves; · decide) | (with_reducible apply Moves.step State.setRule_moves; · decide) | dsimp -proj only | split))

theorem State.scrubRefill_moves {s : State} {span : Nat} {t : TableRef} :
    Moves [.tables] s (State.scrubRefill s span t) := by
  unfold State.scrubRefill
  all_goals (repeat' (first | with_reducible exact .refl | (with_reducible apply Moves.step State.setSram_moves; · decide) | dsimp -proj only | split))

theorem State.tableScrub_moves {s : State} {span : Nat} {item : TableRef} {check : ReadCheck} {good : Option Span} :
    Moves (.tables :: reactParts) s (State.tableScrub s span item check good) := by
  unfold State.tableScrub
  all_goals (repeat' (first | with_reducible exact .refl | (with_reducible apply Moves.step State.count_moves; · decide) | (with_reducible apply Moves.step State.nameFault_moves; · decide) | (with_reducible apply Moves.step State.latchFault_moves; · decide) | (with_reducible apply Moves.step State.meetFiring_moves; · decide) | (with_reducible apply Moves.step State.corrected_moves; · decide) | (with_reducible apply Moves.step State.copyItem_moves; · decide) | (with_reducible apply Moves.step State.zeroItem_moves; · decide) | (with_reducible apply Moves.step State.scrubRefill_moves; · decide) | dsimp -proj only | split))

theorem execTableScrub_moves {span : Span} {item : TableRef} {check : ReadCheck} {good : Option Span} {s : State} :
    Ends (.tables :: reactParts) s (execTableScrub span item check good s) := by
  unfold execTableScrub
  all_goals (repeat' (first | with_reducible exact .refl | with_reducible apply Ends.next | (with_reducible apply Moves.step State.tableScrub_moves; · decide) | dsimp -proj only | split))

theorem State.setPlaceCtl_moves {s : State} {span : Nat} {e : EntryPlace} {ctl : Word} :
    Moves [.tables] s (State.setPlaceCtl s span e ctl) := by
  unfold State.setPlaceCtl
  all_goals (repeat' (first | with_reducible exact .refl | (with_reducible apply Moves.step State.setSram_moves; · decide) | dsimp -proj only | split))

theorem State.ageEntry_moves {s : State} {spans : List Nat} {late : Bool} {g : Geometry} {e : EntryPlace} :
    Moves [.counters, .tables] s (State.ageEntry s spans late g e) := by
  unfold State.ageEntry
  all_goals (repeat' (first | with_reducible exact .refl | (with_reducible apply Moves.step State.count_moves; · decide) | (with_reducible apply Moves.step State.setPlaceCtl_moves; · decide) | with_reducible apply Moves.fold | with_reducible apply Moves.fold₁ | with_reducible intro _ _ | dsimp -proj only | split))

theorem State.agingEntries_moves {s : State} {t : Nat} :
    Moves [.counters, .tables] s (State.agingEntries s t) := by
  unfold State.agingEntries
  all_goals (repeat' (first | with_reducible exact .refl | (with_reducible apply Moves.step State.ageEntry_moves; · decide) | with_reducible apply Moves.fold | with_reducible apply Moves.fold₁ | with_reducible intro _ _ | dsimp -proj only | split))

theorem State.agingSweep_moves {s : State} {t : Nat} :
    Moves [.counters, .tables] s (State.agingSweep s t) := by
  unfold State.agingSweep
  all_goals (repeat' (first | with_reducible exact .refl | (with_reducible apply Moves.step State.count_moves; · decide) | (with_reducible apply Moves.step State.agingEntries_moves; · decide) | dsimp -proj only | split))

theorem execAgingSweep_moves {t : Fin 240} {s : State} :
    Ends [.counters, .tables, .trestle, .hq] s (execAgingSweep t s) := by
  unfold execAgingSweep
  all_goals (repeat' (first | with_reducible exact .refl | with_reducible apply Ends.next | (with_reducible apply Moves.step State.queueRequest_moves; · decide) | (with_reducible apply Moves.step State.agingSweep_moves; · decide) | dsimp -proj only | split))

theorem execReplicaCompare_moves {item : TableRef} {s : State} :
    Ends (.tables :: reactParts) s (execReplicaCompare item s) := by
  unfold execReplicaCompare
  all_goals (repeat' (first | with_reducible exact .refl | with_reducible apply Ends.next | (with_reducible apply Moves.step State.latchFault_moves; · decide) | (with_reducible apply Moves.step State.copyItem_moves; · decide) | with_reducible apply Moves.fold | with_reducible apply Moves.fold₁ | with_reducible intro _ _ | dsimp -proj only | split))

end Sys2Proof.Machine
end

