-- ==== Sys2Proof/Laws/Moves/Window.lean ====
section
/-! SUPPORT. What each operation of Machine/Window.lean can touch, and that it keeps the stores canonical. -/

namespace Sys2Proof.Machine

theorem execWindowRead_moves {off : Offset} {s : State} :
    Ends [.readData, .progs] s (execWindowRead off s) := by
  unfold execWindowRead
  all_goals (repeat' (first | with_reducible exact .refl | with_reducible apply Ends.next | dsimp -proj only | split | (with_reducible apply Moves.readData; · decide) | (with_reducible apply Moves.progs; · decide)))

theorem State.winReject_moves {s : State} {off : Nat} {c : LoadCode} {x : LoadPlace} :
    Moves reactParts s (State.winReject s off c x) := by
  unfold State.winReject
  all_goals (repeat' (first | with_reducible exact .refl | (with_reducible apply Moves.step State.latchFault_moves; · decide) | (with_reducible apply Moves.step State.loadStatus_moves; · decide) | dsimp -proj only | split))

theorem State.putRow_moves {s : State} {x : WinItem} {v span : Nat} :
    Moves [.tables] s (State.putRow s x v span) := by
  unfold State.putRow
  all_goals (repeat' (first | with_reducible exact .refl | (with_reducible apply Moves.step State.setSram_moves; · decide) | (with_reducible apply Moves.step State.setTcam_moves; · decide) | dsimp -proj only | split))

theorem State.winCommit_moves {s : State} {sel : WinSel} {x : WinItem} {v : Nat} :
    Moves [.regs, .progs, .tables] s (State.winCommit s sel x v) := by
  unfold State.winCommit
  all_goals (repeat' (first | with_reducible exact .refl | (with_reducible apply Moves.step State.setReg_moves; · decide) | (with_reducible apply Moves.step State.setStoreAll_moves; · decide) | (with_reducible apply Moves.step State.setStoreOne_moves; · decide) | (with_reducible apply Moves.step State.putRow_moves; · decide) | with_reducible apply Moves.fold | with_reducible apply Moves.fold₁ | with_reducible intro _ _ | dsimp -proj only | split))

theorem State.windowWrite_moves {s : State} {off : Nat} {value : Word} :
    Moves (.tables :: reactParts) s (State.windowWrite s off value) := by
  unfold State.windowWrite
  all_goals (repeat' (first | with_reducible exact .refl | (with_reducible apply Moves.step State.winReject_moves; · decide) | (with_reducible apply Moves.step State.winCommit_moves; · decide) | dsimp -proj only | split | (with_reducible apply Moves.progs; · decide)))

theorem execWindowWrite_moves {off : Offset} {value : Word} {s : State} :
    Ends (.tables :: reactParts) s (execWindowWrite off value s) := by
  unfold execWindowWrite
  all_goals (repeat' (first | with_reducible exact .refl | with_reducible apply Ends.next | (with_reducible apply Moves.step State.windowWrite_moves; · decide) | dsimp -proj only | split))

end Sys2Proof.Machine
end

