-- ==== Sys2Proof/Laws/Moves/Chip.lean ====
section
/-! SUPPORT. What each operation of Machine/Chip.lean can touch, and that it keeps the stores canonical. -/

namespace Sys2Proof.Machine

theorem State.setD2d_moves {s : State} {l : Nat} {x : D2dLink} :
    Moves [.chip] s (State.setD2d s l x) := by
  unfold State.setD2d
  all_goals (repeat' (first | with_reducible exact .refl | dsimp -proj only | split | (with_reducible apply Moves.chip; · decide)))

theorem State.flitReplay_moves {s : State} {l : Nat} :
    Moves [.counters, .fc] s (State.flitReplay s l) := by
  unfold State.flitReplay
  all_goals (repeat' (first | with_reducible exact .refl | (with_reducible apply Moves.step State.count_moves; · decide) | (with_reducible apply Moves.step State.corrected_moves; · decide) | dsimp -proj only | split))

theorem execFlitCrcFail_moves {link : Fin 68} {s : State} :
    Ends [.counters, .fc] s (execFlitCrcFail link s) := by
  unfold execFlitCrcFail
  all_goals (repeat' (first | with_reducible exact .refl | with_reducible apply Ends.next | (with_reducible apply Moves.step State.flitReplay_moves; · decide) | dsimp -proj only | split))

theorem State.d2dMove_moves {s : State} {l : Nat} {threshold : Bool} :
    Moves reactParts s (State.d2dMove s l threshold) := by
  unfold State.d2dMove
  all_goals (repeat' (first | with_reducible exact .refl | (with_reducible apply Moves.step State.latchFault_moves; · decide) | (with_reducible apply Moves.step State.setCorrections_moves; · decide) | (with_reducible apply Moves.step State.setD2d_moves; · decide) | dsimp -proj only | split))

theorem execD2dLinkFailover_moves {link : Fin 68} {s : State} :
    Ends reactParts s (execD2dLinkFailover link s) := by
  unfold execD2dLinkFailover
  all_goals (repeat' (first | with_reducible exact .refl | with_reducible apply Ends.next | (with_reducible apply Moves.step State.d2dMove_moves; · decide) | dsimp -proj only | split))

theorem State.setLock_moves {s : State} {b : LockBlock} {x : LockPair} :
    Moves [.chip] s (State.setLock s b x) := by
  unfold State.setLock
  all_goals (repeat' (first | with_reducible exact .refl | dsimp -proj only | split | (with_reducible apply Moves.chip; · decide)))

theorem State.lockInjected_moves {s : State} {b : LockBlock} {src : Nat} :
    Moves [.fc] s (State.lockInjected s b src) := by
  unfold State.lockInjected
  all_goals (repeat' (first | with_reducible exact .refl | dsimp -proj only | split | (with_reducible apply Moves.fc; · decide)))

theorem State.lockMismatch_moves {s : State} {b : LockBlock} :
    Moves [.chip] s (State.lockMismatch s b) := by
  unfold State.lockMismatch
  all_goals (repeat' (first | with_reducible exact .refl | (with_reducible apply Moves.step State.setLock_moves; · decide) | dsimp -proj only | split))

theorem execLockstepMismatch_moves {b : LockBlock} {pin : Option Bool} {s : State} :
    Ends [.emitted, .chip, .fc] s (execLockstepMismatch b pin s) := by
  unfold execLockstepMismatch
  all_goals (repeat' (first | with_reducible exact .refl | with_reducible apply Ends.next | (with_reducible apply Moves.step State.setErrFlip_moves; · decide) | (with_reducible apply Moves.step State.lockMismatch_moves; · decide) | dsimp -proj only | split))

theorem State.fenceCopy_moves {s : State} {b : LockBlock} {copy : Nat} :
    Moves [.chip, .fc] s (State.fenceCopy s b copy) := by
  unfold State.fenceCopy
  all_goals (repeat' (first | with_reducible exact .refl | (with_reducible apply Moves.step State.fence_moves; · decide) | (with_reducible apply Moves.step State.setLock_moves; · decide) | dsimp -proj only | split))

theorem execLockstepKatDone_moves {b : LockBlock} {passA passB : Bool} {s : State} :
    Ends reactParts s (execLockstepKatDone b passA passB s) := by
  unfold execLockstepKatDone
  all_goals (repeat' (first | with_reducible exact .refl | with_reducible apply Ends.next | (with_reducible apply Moves.step State.enterSafe_moves; · decide) | (with_reducible apply Moves.step State.latchFault_moves; · decide) | (with_reducible apply Moves.step State.setLock_moves; · decide) | (with_reducible apply Moves.step State.lockInjected_moves; · decide) | (with_reducible apply Moves.step State.fenceCopy_moves; · decide) | dsimp -proj only | split))

theorem execLockstepResume_moves {b : LockBlock} {s : State} :
    Ends (.tel :: .cmp :: reactParts) s (execLockstepResume b s) := by
  unfold execLockstepResume
  all_goals (repeat' (first | with_reducible exact .refl | with_reducible apply Ends.next | (with_reducible apply Moves.step State.decideWaiting_moves; · decide) | (with_reducible apply Moves.step State.latchFault_moves; · decide) | (with_reducible apply Moves.step State.setErrFlip_moves; · decide) | (with_reducible apply Moves.step State.holderWaiting_moves; · decide) | (with_reducible apply Moves.step State.releaseHost_moves; · decide) | (with_reducible apply Moves.step State.setLock_moves; · decide) | (with_reducible apply Moves.step State.lockInjected_moves; · decide) | dsimp -proj only | split))

theorem State.sysclkLost_moves {s : State} :
    Moves reactParts s (State.sysclkLost s) := by
  unfold State.sysclkLost
  all_goals (repeat' (first | with_reducible exact .refl | (with_reducible apply Moves.step State.latchLive_moves; · decide) | dsimp -proj only | split | (with_reducible apply Moves.chip; · decide)))

theorem State.refclkLost_moves {s : State} {n : Nat} :
    Moves (.lanes :: reactParts) s (State.refclkLost s n) := by
  unfold State.refclkLost
  all_goals (repeat' (first | with_reducible exact .refl | (with_reducible apply Moves.step State.setReacting_moves; · decide) | (with_reducible apply Moves.step State.latchLive_moves; · decide) | (with_reducible apply Moves.step State.linkFails_moves; · decide) | with_reducible apply Moves.fold | with_reducible apply Moves.fold₁ | with_reducible intro _ _ | dsimp -proj only | split | (with_reducible apply Moves.chip; · decide)))

theorem State.pcieRefLost_moves {s : State} :
    Moves (.hq :: reactParts) s (State.pcieRefLost s) := by
  unfold State.pcieRefLost
  all_goals (repeat' (first | with_reducible exact .refl | (with_reducible apply Moves.step State.latchLive_moves; · decide) | (with_reducible apply Moves.step State.ringsWait_moves; · decide) | dsimp -proj only | split | (with_reducible apply Moves.chip; · decide) | (with_reducible apply Moves.hq; · decide) | (with_reducible apply Moves.upd; with_reducible rfl; (all_goals first | exact .inl (by with_reducible rfl) | exact .inr (by decide) | exact .inr ⟨by decide, by first | exact fun h => h | exact Tbl.wf_put _ _ _ _ | exact fun h => Tbl.wf_put _ _ _ _ (Tbl.wf_put _ _ _ _ h) | exact Tbl.wf_filter _ _ _ | exact fun _ => rfl | exact writeCellBytes_wf | exact writeBytes_wf | exact programBytes_wf⟩ | skip))))

theorem execSysclkLoss_moves {s : State} :
    Ends reactParts s (execSysclkLoss s) := by
  unfold execSysclkLoss
  all_goals (repeat' (first | with_reducible exact .refl | with_reducible apply Ends.next | (with_reducible apply Moves.step State.sysclkLost_moves; · decide) | dsimp -proj only | split))

theorem execRefclkSdLoss_moves {n : Span} {s : State} :
    Ends (.lanes :: reactParts) s (execRefclkSdLoss n s) := by
  unfold execRefclkSdLoss
  all_goals (repeat' (first | with_reducible exact .refl | with_reducible apply Ends.next | (with_reducible apply Moves.step State.refclkLost_moves; · decide) | dsimp -proj only | split))

theorem execPcieRefclkLoss_moves {s : State} :
    Ends (.hq :: reactParts) s (execPcieRefclkLoss s) := by
  unfold execPcieRefclkLoss
  all_goals (repeat' (first | with_reducible exact .refl | with_reducible apply Ends.next | (with_reducible apply Moves.step State.pcieRefLost_moves; · decide) | dsimp -proj only | split))

theorem execReferenceClockReturn_moves {n : Option Span} {s : State} :
    Ends [.chip, .fc] s (execReferenceClockReturn n s) := by
  unfold execReferenceClockReturn
  all_goals (repeat' (first | with_reducible exact .refl | with_reducible apply Ends.next | (with_reducible apply Moves.step State.endLive_moves; · decide) | dsimp -proj only | split | (with_reducible apply Moves.chip; · decide)))

end Sys2Proof.Machine
end

