-- ==== Sys2Proof/Laws/Moves/Pier.lean ====
section
/-! SUPPORT. What each operation of Machine/Pier.lean can touch, and that it keeps the stores canonical. -/

namespace Sys2Proof.Machine

theorem State.setPierState_moves {s : State} {n v : Nat} :
    Moves [.regs] s (State.setPierState s n v) := by
  unfold State.setPierState
  all_goals (repeat' (first | with_reducible exact .refl | (with_reducible apply Moves.step State.setFld_moves; · decide) | dsimp -proj only | split))

theorem State.clearPierCounts_moves {s : State} {n : Nat} :
    Moves [.piers] s (State.clearPierCounts s n) := by
  unfold State.clearPierCounts
  all_goals (repeat' (first | with_reducible exact .refl | (with_reducible apply Moves.step State.setPier_moves; · decide) | dsimp -proj only | split))

theorem State.pierSearch_moves {s : State} {n : Nat} :
    Moves [.regs, .piers] s (State.pierSearch s n) := by
  unfold State.pierSearch
  all_goals (repeat' (first | with_reducible exact .refl | (with_reducible apply Moves.step State.setPierState_moves; · decide) | (with_reducible apply Moves.step State.clearPierCounts_moves; · decide) | dsimp -proj only | split))

theorem execPierAlignSearch_moves {n : Four} {s : State} :
    Ends [.regs, .piers] s (execPierAlignSearch n s) := by
  unfold execPierAlignSearch
  all_goals (repeat' (first | with_reducible exact .refl | with_reducible apply Ends.next | (with_reducible apply Moves.step State.pierSearch_moves; · decide) | dsimp -proj only | split))

theorem State.pierSlipOne_moves {s : State} {n : Nat} :
    Moves [.piers] s (State.pierSlipOne s n) := by
  unfold State.pierSlipOne
  all_goals (repeat' (first | with_reducible exact .refl | (with_reducible apply Moves.step State.setPier_moves; · decide) | (with_reducible apply Moves.step State.clearPierCounts_moves; · decide) | dsimp -proj only | split))

theorem execPierSlip_moves {n : Four} {s : State} :
    Ends [.piers] s (execPierSlip n s) := by
  unfold execPierSlip
  all_goals (repeat' (first | with_reducible exact .refl | with_reducible apply Ends.next | (with_reducible apply Moves.step State.pierSlipOne_moves; · decide) | dsimp -proj only | split))

theorem State.pierUp_moves {s : State} {n : Nat} :
    Moves [.regs, .piers] s (State.pierUp s n) := by
  unfold State.pierUp
  all_goals (repeat' (first | with_reducible exact .refl | (with_reducible apply Moves.step State.setPier_moves; · decide) | (with_reducible apply Moves.step State.setPierState_moves; · decide) | dsimp -proj only | split))

theorem State.pierLock_moves {s : State} {n : Nat} :
    Moves [.regs, .piers] s (State.pierLock s n) := by
  unfold State.pierLock
  all_goals (repeat' (first | with_reducible exact .refl | (with_reducible apply Moves.step State.setPierState_moves; · decide) | (with_reducible apply Moves.step State.pierUp_moves; · decide) | dsimp -proj only | split))

theorem execPierAlignLock_moves {n : Four} {s : State} :
    Ends [.regs, .piers] s (execPierAlignLock n s) := by
  unfold execPierAlignLock
  all_goals (repeat' (first | with_reducible exact .refl | with_reducible apply Ends.next | (with_reducible apply Moves.step State.pierLock_moves; · decide) | dsimp -proj only | split))

theorem execPierAlignLost_moves {n : Four} {s : State} :
    Ends reactParts s (execPierAlignLost n s) := by
  unfold execPierAlignLost
  all_goals (repeat' (first | with_reducible exact .refl | with_reducible apply Ends.next | (with_reducible apply Moves.step State.setBit_moves; · decide) | (with_reducible apply Moves.step State.latchFault_moves; · decide) | (with_reducible apply Moves.step State.setPierState_moves; · decide) | dsimp -proj only | split))

theorem execPierEnableWrite_moves {n : Four} {value : Word} {s : State} :
    Ends [.regs, .emitted, .piers] s (execPierEnableWrite n value s) := by
  unfold execPierEnableWrite
  all_goals (repeat' (first | with_reducible exact .refl | with_reducible apply Ends.next | (with_reducible apply Moves.step State.setReg_moves; · decide) | (with_reducible apply Moves.step State.setFld_moves; · decide) | (with_reducible apply Moves.step State.emit_moves; · decide) | (with_reducible apply Moves.step State.setPier_moves; · decide) | dsimp -proj only | split))

theorem State.capDone_moves {s : State} {n : Nat} :
    Moves [.regs, .emitted, .pierTx, .piers] s (State.capDone s n) := by
  unfold State.capDone
  all_goals (repeat' (first | with_reducible exact .refl | (with_reducible apply Moves.step State.pierSend_moves; · decide) | (with_reducible apply Moves.step State.setPier_moves; · decide) | (with_reducible apply Moves.step State.setPierState_moves; · decide) | (with_reducible apply Moves.step State.pierUp_moves; · decide) | dsimp -proj only | split))

theorem execPierCapTimer_moves {n : Four} {s : State} :
    Ends [.regs, .emitted, .pierTx, .piers] s (execPierCapTimer n s) := by
  unfold execPierCapTimer
  all_goals (repeat' (first | with_reducible exact .refl | with_reducible apply Ends.next | (with_reducible apply Moves.step State.pierSend_moves; · decide) | (with_reducible apply Moves.step State.setPier_moves; · decide) | (with_reducible apply Moves.step State.setPierState_moves; · decide) | (with_reducible apply Moves.step State.capDone_moves; · decide) | dsimp -proj only | split))

theorem execCap_moves {n : Four} {payload : List Byte} {s : State} :
    Ends [.regs, .emitted, .pierTx, .piers] s (execCap n payload s) := by
  unfold execCap
  all_goals (repeat' (first | with_reducible exact .refl | with_reducible apply Ends.next | (with_reducible apply Moves.step State.setPier_moves; · decide) | (with_reducible apply Moves.step State.capDone_moves; · decide) | dsimp -proj only | split))

theorem execStep_moves {n : Four} {payload : List Byte} {s : State} :
    Ends [.piers] s (execStep n payload s) := by
  unfold execStep
  all_goals (repeat' (first | with_reducible exact .refl | with_reducible apply Ends.next | (with_reducible apply Moves.step State.setPier_moves; · decide) | dsimp -proj only | split))

theorem execPierStepSwitch_moves {n : Four} {s : State} :
    Ends [.regs, .piers] s (execPierStepSwitch n s) := by
  unfold execPierStepSwitch
  all_goals (repeat' (first | with_reducible exact .refl | with_reducible apply Ends.next | (with_reducible apply Moves.step State.setFld_moves; · decide) | (with_reducible apply Moves.step State.setPierState_moves; · decide) | (with_reducible apply Moves.step State.clearPierCounts_moves; · decide) | dsimp -proj only | split))

theorem execPierStepTimeout_moves {n : Four} {s : State} :
    Ends (.piers :: reactParts) s (execPierStepTimeout n s) := by
  unfold execPierStepTimeout
  all_goals (repeat' (first | with_reducible exact .refl | with_reducible apply Ends.next | (with_reducible apply Moves.step State.setFld_moves; · decide) | (with_reducible apply Moves.step State.setBit_moves; · decide) | (with_reducible apply Moves.step State.setPier_moves; · decide) | (with_reducible apply Moves.step State.latchFault_moves; · decide) | (with_reducible apply Moves.step State.setPierState_moves; · decide) | (with_reducible apply Moves.step State.clearPierCounts_moves; · decide) | dsimp -proj only | split))

theorem execPierFrameBad_moves {n : Four} {s : State} :
    Ends [.regs] s (execPierFrameBad n s) := by
  unfold execPierFrameBad
  all_goals (repeat' (first | with_reducible exact .refl | with_reducible apply Ends.next | (with_reducible apply Moves.step State.incSat_moves; · decide) | dsimp -proj only | split))

theorem execTmarkPeriod_moves {n : Four} {s : State} :
    Ends [.emitted, .piers] s (execTmarkPeriod n s) := by
  unfold execTmarkPeriod
  all_goals (repeat' (first | with_reducible exact .refl | with_reducible apply Ends.next | (with_reducible apply Moves.step State.emit_moves; · decide) | (with_reducible apply Moves.step State.setPier_moves; · decide) | dsimp -proj only | split))

theorem execTimeMarkRx_moves {n : Four} {s : State} :
    Ends [.emitted, .pierTx, .piers] s (execTimeMarkRx n s) := by
  unfold execTimeMarkRx
  all_goals (repeat' (first | with_reducible exact .refl | with_reducible apply Ends.next | (with_reducible apply Moves.step State.emit_moves; · decide) | (with_reducible apply Moves.step State.pierSend_moves; · decide) | (with_reducible apply Moves.step State.setPier_moves; · decide) | dsimp -proj only | split))

theorem execTmark_moves {n : Four} {payload : List Byte} {s : State} :
    Ends [.regs, .time] s (execTmark n payload s) := by
  unfold execTmark
  all_goals (repeat' (first | with_reducible exact .refl | with_reducible apply Ends.next | (with_reducible apply Moves.step State.incSat_moves; · decide) | (with_reducible apply Moves.step State.submitSample_moves; · decide) | with_reducible apply Moves.fold | with_reducible apply Moves.fold₁ | with_reducible intro _ _ | dsimp -proj only | split))

theorem execTmarkTimeout_moves {n : Four} {s : State} :
    Ends [.piers] s (execTmarkTimeout n s) := by
  unfold execTmarkTimeout
  all_goals (repeat' (first | with_reducible exact .refl | with_reducible apply Ends.next | (with_reducible apply Moves.step State.setPier_moves; · decide) | dsimp -proj only | split))

theorem execFault_moves {n : Four} {payload : List Byte} {s : State} :
    Ends [.piers] s (execFault n payload s) := by
  unfold execFault
  all_goals (repeat' (first | with_reducible exact .refl | with_reducible apply Ends.next | (with_reducible apply Moves.step State.setPier_moves; · decide) | dsimp -proj only | split))

theorem execPierFaultSymbolsRx_moves {n : Four} {s : State} :
    Ends reactParts s (execPierFaultSymbolsRx n s) := by
  unfold execPierFaultSymbolsRx
  all_goals (repeat' (first | with_reducible exact .refl | with_reducible apply Ends.next | (with_reducible apply Moves.step State.setBit_moves; · decide) | (with_reducible apply Moves.step State.latchFault_moves; · decide) | dsimp -proj only | split))

theorem execPierFaultRepeat_moves {s : State} :
    Ends [.emitted, .pierTx] s (execPierFaultRepeat s) := by
  unfold execPierFaultRepeat
  all_goals (repeat' (first | with_reducible exact .refl | with_reducible apply Ends.next | (with_reducible apply Moves.step State.pierPropagate_moves; · decide) | dsimp -proj only | split))

end Sys2Proof.Machine
end

