-- ==== Sys2Proof/Laws/Moves/Spares.lean ====
section
/-! SUPPORT. What each operation of Machine/Spares.lean can touch, and that it keeps the stores canonical. -/

namespace Sys2Proof.Machine

theorem execLossLogRead_moves {s : State} :
    Ends [.regs, .readData, .ord] s (execLossLogRead s) := by
  unfold execLossLogRead
  all_goals (repeat' (first | with_reducible exact .refl | with_reducible apply Ends.next | (with_reducible apply Moves.step State.setReg_moves; · decide) | dsimp -proj only | split | (with_reducible apply Moves.readData; · decide) | (with_reducible apply Moves.ord; · decide) | (with_reducible apply Moves.upd; with_reducible rfl; (all_goals first | exact .inl (by with_reducible rfl) | exact .inr (by decide) | exact .inr ⟨by decide, by first | exact fun h => h | exact Tbl.wf_put _ _ _ _ | exact fun h => Tbl.wf_put _ _ _ _ (Tbl.wf_put _ _ _ _ h) | exact Tbl.wf_filter _ _ _ | exact fun _ => rfl | exact writeCellBytes_wf | exact writeBytes_wf | exact programBytes_wf⟩ | skip))))

theorem execShadowPeriodEnd_moves {span : Span} {pass : Pass} {s : State} :
    Ends [.pipes] s (execShadowPeriodEnd span pass s) := by
  unfold execShadowPeriodEnd
  all_goals (repeat' (first | with_reducible exact .refl | with_reducible apply Ends.next | (with_reducible apply Moves.step State.setPass_moves; · decide) | dsimp -proj only | split))

theorem execShadowPeriodStart_moves {span : Span} {pass : Pass} {s : State} :
    Ends [.pipes] s (execShadowPeriodStart span pass s) := by
  unfold execShadowPeriodStart
  all_goals (repeat' (first | with_reducible exact .refl | with_reducible apply Ends.next | (with_reducible apply Moves.step State.setPass_moves; · decide) | dsimp -proj only | split))

theorem execKatVectorInsert_moves {span : Span} {pass : Pass} {pipe : PipeNo} {s : State} :
    Ends [.pipes] s (execKatVectorInsert span pass pipe s) := by
  unfold execKatVectorInsert
  all_goals (repeat' (first | with_reducible exact .refl | with_reducible apply Ends.next | (with_reducible apply Moves.step State.setPipe_moves; · decide) | dsimp -proj only | split))

theorem execMismatchDrained_moves {span : Span} {pass : Pass} {s : State} :
    Ends [.pipes] s (execMismatchDrained span pass s) := by
  unfold execMismatchDrained
  all_goals (repeat' (first | with_reducible exact .refl | with_reducible apply Ends.next | (with_reducible apply Moves.step State.setPass_moves; · decide) | dsimp -proj only | split))

theorem State.countVectors_moves {s : State} {no n : Nat} {passed : Bool} :
    Moves [.counters, .freeCount, .pipes] s (State.countVectors s no n passed) := by
  unfold State.countVectors
  all_goals (repeat' (first | with_reducible exact .refl | (with_reducible apply Moves.step State.count_moves; · decide) | (with_reducible apply Moves.step State.setClean_moves; · decide) | (with_reducible apply Moves.step State.wasteSlots_moves; · decide) | dsimp -proj only | split | (with_reducible apply Moves.freeCount; · decide)))

theorem State.servingFaulty_moves {s : State} {span : Nat} {pass : Pass} :
    Moves reactParts s (State.servingFaulty s span pass) := by
  unfold State.servingFaulty
  all_goals (repeat' (first | with_reducible exact .refl | (with_reducible apply Moves.step State.latchFault_moves; · decide) | dsimp -proj only | split))

theorem State.freeFaulty_moves {s : State} {span : Nat} {pass : Pass} :
    Moves reactParts s (State.freeFaulty s span pass) := by
  unfold State.freeFaulty
  all_goals (repeat' (first | with_reducible exact .refl | (with_reducible apply Moves.step State.endResolution_moves; · decide) | (with_reducible apply Moves.step State.latchFault_moves; · decide) | dsimp -proj only | split))

theorem execMismatchVectorsChecked_moves {span : Span} {pass : Pass} {servingPass freePass : Bool} {s : State} :
    Ends reactParts s (execMismatchVectorsChecked span pass servingPass freePass s) := by
  unfold execMismatchVectorsChecked
  all_goals (repeat' (first | with_reducible exact .refl | with_reducible apply Ends.next | (with_reducible apply Moves.step State.setPass_moves; · decide) | (with_reducible apply Moves.step State.latchFault_moves; · decide) | (with_reducible apply Moves.step State.countVectors_moves; · decide) | (with_reducible apply Moves.step State.servingFaulty_moves; · decide) | (with_reducible apply Moves.step State.freeFaulty_moves; · decide) | dsimp -proj only | split))

theorem State.rerunSlots_moves {s : State} {span : Nat} {pass : Pass} :
    Moves [.counters, .pipes] s (State.rerunSlots s span pass) := by
  unfold State.rerunSlots
  all_goals (repeat' (first | with_reducible exact .refl | (with_reducible apply Moves.step State.wasteSlots_moves; · decide) | with_reducible apply Moves.fold | with_reducible apply Moves.fold₁ | with_reducible intro _ _ | dsimp -proj only | split))

theorem execMismatchRerunChecked_moves {span : Span} {pass : Pass} {outcome : Rerun} {s : State} :
    Ends reactParts s (execMismatchRerunChecked span pass outcome s) := by
  unfold execMismatchRerunChecked
  all_goals (repeat' (first | with_reducible exact .refl | with_reducible apply Ends.next | (with_reducible apply Moves.step State.endResolution_moves; · decide) | (with_reducible apply Moves.step State.latchFault_moves; · decide) | (with_reducible apply Moves.step State.servingFaulty_moves; · decide) | (with_reducible apply Moves.step State.freeFaulty_moves; · decide) | (with_reducible apply Moves.step State.rerunSlots_moves; · decide) | dsimp -proj only | split))

theorem execSpareDrained_moves {span : Span} {pass : Pass} {s : State} :
    Ends [.pipes] s (execSpareDrained span pass s) := by
  unfold execSpareDrained
  all_goals (repeat' (first | with_reducible exact .refl | with_reducible apply Ends.next | (with_reducible apply Moves.step State.setPass_moves; · decide) | dsimp -proj only | split))

theorem execSpareSwitch_moves {span : Span} {pass : Pass} {vectorsPass : Bool} {s : State} :
    Ends reactParts s (execSpareSwitch span pass vectorsPass s) := by
  unfold execSpareSwitch
  all_goals (repeat' (first | with_reducible exact .refl | with_reducible apply Ends.next | (with_reducible apply Moves.step State.setPass_moves; · decide) | (with_reducible apply Moves.step State.setReacting_moves; · decide) | (with_reducible apply Moves.step State.degrade_moves; · decide) | (with_reducible apply Moves.step State.latchFault_moves; · decide) | (with_reducible apply Moves.step State.countVectors_moves; · decide) | dsimp -proj only | split))

theorem State.rotationCheck_moves {s : State} {span : Nat} :
    Moves [.counters, .pipes] s (State.rotationCheck s span) := by
  unfold State.rotationCheck
  all_goals (repeat' (first | with_reducible exact .refl | (with_reducible apply Moves.step State.rotationStop_moves; · decide) | with_reducible apply Moves.fold | with_reducible apply Moves.fold₁ | with_reducible intro _ _ | dsimp -proj only | split))

theorem execSpareReinstate_moves {span : Span} {value : Word} {s : State} :
    Ends reactParts s (execSpareReinstate span value s) := by
  unfold execSpareReinstate
  all_goals (repeat' (first | with_reducible exact .refl | with_reducible apply Ends.next | (with_reducible apply Moves.step State.setPass_moves; · decide) | (with_reducible apply Moves.step State.refusedWrite_moves; · decide) | (with_reducible apply Moves.step State.writeOrdinary_moves; · decide) | (with_reducible apply Moves.step State.rotationCheck_moves; · decide) | dsimp -proj only | split))

theorem State.pipeRestored_moves {s : State} {span : Nat} {pass : Pass} {pipe : Nat} :
    Moves [.counters, .emitted, .chip, .fc, .pipes] s (State.pipeRestored s span pass pipe) := by
  unfold State.pipeRestored
  all_goals (repeat' (first | with_reducible exact .refl | (with_reducible apply Moves.step State.setMgmt_moves; · decide) | (with_reducible apply Moves.step State.setPass_moves; · decide) | (with_reducible apply Moves.step State.unfence_moves; · decide) | (with_reducible apply Moves.step State.leaveHold_moves; · decide) | dsimp -proj only | split))

theorem execReinstateDone_moves {span : Span} {pass : Pass} {pipe : PipeNo} {vectorsPass : Bool} {s : State} :
    Ends reactParts s (execReinstateDone span pass pipe vectorsPass s) := by
  unfold execReinstateDone
  all_goals (repeat' (first | with_reducible exact .refl | with_reducible apply Ends.next | (with_reducible apply Moves.step State.setPass_moves; · decide) | (with_reducible apply Moves.step State.latchFault_moves; · decide) | (with_reducible apply Moves.step State.countVectors_moves; · decide) | (with_reducible apply Moves.step State.pipeRestored_moves; · decide) | dsimp -proj only | split))

end Sys2Proof.Machine
end

