-- ==== Sys2Proof/Laws/Moves/Registers.lean ====
section
/-! SUPPORT. What each operation of Machine/Registers.lean can touch, and that it keeps the stores canonical. -/

namespace Sys2Proof.Machine

theorem State.pierReadClear_moves {s : State} {off : Nat} :
    Moves [.freeCount, .piers] s (State.pierReadClear s off) := by
  unfold State.pierReadClear
  all_goals (repeat' (first | with_reducible exact .refl | (with_reducible apply Moves.step State.setPier_moves; · decide) | dsimp -proj only | split | (with_reducible apply Moves.freeCount; · decide)))

theorem State.readPlain_moves {s : State} {off : Nat} :
    Moves [.regs, .holding, .readData, .freeCount, .piers] s (State.readPlain s off) := by
  unfold State.readPlain
  all_goals (repeat' (first | with_reducible exact .refl | (with_reducible apply Moves.step State.setReg_moves; · decide) | (with_reducible apply Moves.step State.capturePub_moves; · decide) | (with_reducible apply Moves.step State.pierReadClear_moves; · decide) | dsimp -proj only | split | (with_reducible apply Moves.holding; (· decide); (· first | exact fun h => h | exact Tbl.wf_put _ _ _ _ | exact fun h => Tbl.wf_put _ _ _ _ (Tbl.wf_put _ _ _ _ h) | exact Tbl.wf_filter _ _ _ | exact fun _ => rfl | exact writeCellBytes_wf | exact writeBytes_wf | exact programBytes_wf)) | (with_reducible apply Moves.readData; · decide)))

theorem State.hostRead_moves {s : State} {off : Nat} :
    Moves [.regs, .holding, .readData, .freeCount, .piers] s (State.hostRead s off) := by
  unfold State.hostRead
  all_goals (repeat' (first | with_reducible exact .refl | (with_reducible apply Moves.step State.readPlain_moves; · decide) | dsimp -proj only | split | (with_reducible apply Moves.readData; · decide)))

theorem execRegisterReadClear_moves {off : Offset} {s : State} :
    Ends [.regs, .holding, .readData, .freeCount, .piers] s (execRegisterReadClear off s) := by
  unfold execRegisterReadClear
  all_goals (repeat' (first | with_reducible exact .refl | with_reducible apply Ends.next | (with_reducible apply Moves.step State.hostRead_moves; · decide) | dsimp -proj only | split))

theorem execPairLowWordRead_moves {off : Offset} {s : State} :
    Ends [.regs, .holding, .readData, .freeCount, .piers] s (execPairLowWordRead off s) := by
  unfold execPairLowWordRead
  all_goals (repeat' (first | with_reducible exact .refl | with_reducible apply Ends.next | (with_reducible apply Moves.step State.hostRead_moves; · decide) | dsimp -proj only | split))

theorem execCounterRead_moves {off : Offset} {s : State} :
    Ends [.regs, .holding, .readData, .freeCount, .piers] s (execCounterRead off s) := by
  unfold execCounterRead
  all_goals (repeat' (first | with_reducible exact .refl | with_reducible apply Ends.next | (with_reducible apply Moves.step State.hostRead_moves; · decide) | dsimp -proj only | split))

theorem execRegisterAccessMisaligned_moves {off : Offset} {size : Nat} {isWrite : Bool} {s : State} :
    Ends (.readData :: reactParts) s (execRegisterAccessMisaligned off size isWrite s) := by
  unfold execRegisterAccessMisaligned
  all_goals (repeat' (first | with_reducible exact .refl | with_reducible apply Ends.next | (with_reducible apply Moves.step State.latchFault_moves; · decide) | dsimp -proj only | split | (with_reducible apply Moves.readData; · decide)))

theorem State.writeContext_moves {s : State} {off : Nat} {value : Word} :
    Moves reactParts s (State.writeContext s off value) := by
  unfold State.writeContext
  all_goals (repeat' (first | with_reducible exact .refl | (with_reducible apply Moves.step State.refusedWrite_moves; · decide) | (with_reducible apply Moves.step State.writeOrdinary_moves; · decide) | (with_reducible apply Moves.step State.cqInterrupt_moves; · decide) | (with_reducible apply Moves.step State.writeCfg_moves; · decide) | dsimp -proj only | split))

theorem State.writePortCfg_moves {s : State} {off : Nat} {value : Word} :
    Moves reactParts s (State.writePortCfg s off value) := by
  unfold State.writePortCfg
  all_goals (repeat' (first | with_reducible exact .refl | (with_reducible apply Moves.step State.refusedWrite_moves; · decide) | (with_reducible apply Moves.step State.writeOrdinary_moves; · decide) | dsimp -proj only | split))

theorem State.writeMsixControl_moves {s : State} {v : Nat} {value : Word} :
    Moves reactParts s (State.writeMsixControl s v value) := by
  unfold State.writeMsixControl
  all_goals (repeat' (first | with_reducible exact .refl | (with_reducible apply Moves.step State.setBit_moves; · decide) | (with_reducible apply Moves.step State.msixVector_moves; · decide) | (with_reducible apply Moves.step State.writeOrdinary_moves; · decide) | dsimp -proj only | split))

theorem State.writeStateCtrl_moves {s : State} {value : Word} :
    Moves reactParts s (State.writeStateCtrl s value) := by
  unfold State.writeStateCtrl
  all_goals (repeat' (first | with_reducible exact .refl | (with_reducible apply Moves.step State.setFld_moves; · decide) | (with_reducible apply Moves.step State.setBit_moves; · decide) | (with_reducible apply Moves.step State.writeOrdinary_moves; · decide) | dsimp -proj only | split))

theorem State.writePlain_moves {s : State} {off : Nat} {value : Word} :
    Moves (.lanes :: .time :: reactParts) s (State.writePlain s off value) := by
  unfold State.writePlain
  all_goals (repeat' (first | with_reducible exact .refl | (with_reducible apply Moves.step State.setTb_moves; · decide) | (with_reducible apply Moves.step State.refusedWrite_moves; · decide) | (with_reducible apply Moves.step State.settlePps_moves; · decide) | (with_reducible apply Moves.step State.writeOrdinary_moves; · decide) | (with_reducible apply Moves.step State.writeConcord_moves; · decide) | (with_reducible apply Moves.step State.writeLaneCfg_moves; · decide) | (with_reducible apply Moves.step State.rotationCheck_moves; · decide) | (with_reducible apply Moves.step State.writeContext_moves; · decide) | (with_reducible apply Moves.step State.writePortCfg_moves; · decide) | (with_reducible apply Moves.step State.writeMsixControl_moves; · decide) | (with_reducible apply Moves.step State.writeStateCtrl_moves; · decide) | dsimp -proj only | split))

theorem State.hostStore_moves {s : State} {off : Nat} {value : Word} :
    Moves (.lanes :: .time :: reactParts) s (State.hostStore s off value) := by
  unfold State.hostStore
  all_goals (repeat' (first | with_reducible exact .refl | (with_reducible apply Moves.step State.writePlain_moves; · decide) | dsimp -proj only | split))

theorem execRegisterWrite_moves {off : Offset} {value : Word} {s : State} :
    Ends (.lanes :: .time :: reactParts) s (execRegisterWrite off value s) := by
  unfold execRegisterWrite
  all_goals (repeat' (first | with_reducible exact .refl | with_reducible apply Ends.next | (with_reducible apply Moves.step State.hostStore_moves; · decide) | dsimp -proj only | split))

end Sys2Proof.Machine
end

