-- ==== Sys2Proof/Laws/Moves/Faults.lean ====
section
/-! SUPPORT. What each operation of Machine/Faults.lean can touch, and that it keeps the stores canonical. -/

namespace Sys2Proof.Machine

theorem State.ledgerBad_moves {s : State} {d : Nat} :
    Moves reactParts s (State.ledgerBad s d) := by
  unfold State.ledgerBad
  all_goals (repeat' (first | with_reducible exact .refl | (with_reducible apply Moves.step State.setLedger_moves; · decide) | (with_reducible apply Moves.step State.latchFault_moves; · decide) | dsimp -proj only | split))

theorem State.counterBad_moves {s : State} {q : Nat} {release both : Bool} :
    Moves reactParts s (State.counterBad s q release both) := by
  unfold State.counterBad
  all_goals (repeat' (first | with_reducible exact .refl | (with_reducible apply Moves.step State.latchFault_moves; · decide) | dsimp -proj only | split))

theorem State.retireGroup_moves {s : State} {g : Nat} :
    Moves [.regs, .fc] s (State.retireGroup s g) := by
  unfold State.retireGroup
  all_goals (repeat' (first | with_reducible exact .refl | (with_reducible apply Moves.step State.setFld_moves; · decide) | dsimp -proj only | split | (with_reducible apply Moves.fc; · decide)))

theorem execFaultLatch_moves {what : Detection} {s : State} :
    Ends (.time :: reactParts) s (execFaultLatch what s) := by
  unfold execFaultLatch
  all_goals (repeat' (first | with_reducible exact .refl | with_reducible apply Ends.next | (with_reducible apply Moves.step State.latchFault_moves; · decide) | (with_reducible apply Moves.step State.latchLive_moves; · decide) | (with_reducible apply Moves.step State.corrected_moves; · decide) | (with_reducible apply Moves.step State.setCopyOff_moves; · decide) | (with_reducible apply Moves.step State.ledgerBad_moves; · decide) | (with_reducible apply Moves.step State.counterBad_moves; · decide) | dsimp -proj only | split))

theorem State.thresholdFault_moves {s : State} {n : Nat} :
    Moves reactParts s (State.thresholdFault s n) := by
  unfold State.thresholdFault
  all_goals (repeat' (first | with_reducible exact .refl | (with_reducible apply Moves.step State.latchFault_moves; · decide) | (with_reducible apply Moves.step State.d2dMove_moves; · decide) | (with_reducible apply Moves.step State.retireGroup_moves; · decide) | dsimp -proj only | split))

theorem execCorrectedThreshold_moves {src : SourceId} {s : State} :
    Ends reactParts s (execCorrectedThreshold src s) := by
  unfold execCorrectedThreshold
  all_goals (repeat' (first | with_reducible exact .refl | with_reducible apply Ends.next | (with_reducible apply Moves.step State.setCorrections_moves; · decide) | (with_reducible apply Moves.step State.thresholdFault_moves; · decide) | dsimp -proj only | split))

theorem State.clearCause_moves {s : State} {src : Nat} :
    Moves [.fc] s (State.clearCause s src) := by
  unfold State.clearCause
  all_goals (repeat' (first | with_reducible exact .refl | (with_reducible apply Moves.step State.setSource_moves; · decide) | dsimp -proj only | split))

theorem execFaultCauseClear_moves {i : Fin 17} {b : Fin 64} {high : Bool} {value : Word} {s : State} :
    Ends [.fc] s (execFaultCauseClear i b high value s) := by
  unfold execFaultCauseClear
  all_goals (repeat' (first | with_reducible exact .refl | with_reducible apply Ends.next | (with_reducible apply Moves.step State.clearCause_moves; · decide) | with_reducible apply Moves.fold | with_reducible apply Moves.fold₁ | with_reducible intro _ _ | dsimp -proj only | split))

theorem execFaultSelect_moves {value : Word} {s : State} :
    Ends [.regs] s (execFaultSelect value s) := by
  unfold execFaultSelect
  all_goals (repeat' (first | with_reducible exact .refl | with_reducible apply Ends.next | (with_reducible apply Moves.step State.setReg_moves; · decide) | dsimp -proj only | split))

theorem State.settleErrS_moves {s : State} {was : Bool} :
    Moves [.emitted] s (State.settleErrS s was) := by
  unfold State.settleErrS
  all_goals (repeat' (first | with_reducible exact .refl | (with_reducible apply Moves.step State.emit_moves; · decide) | dsimp -proj only | split))

theorem execErrSTimerExpire_moves {s : State} :
    Ends [.regs, .emitted, .fc] s (execErrSTimerExpire s) := by
  unfold execErrSTimerExpire
  all_goals (repeat' (first | with_reducible exact .refl | with_reducible apply Ends.next | (with_reducible apply Moves.step State.setBit_moves; · decide) | (with_reducible apply Moves.step State.settleErrS_moves; · decide) | dsimp -proj only | split | (with_reducible apply Moves.fc; · decide)))

theorem execErrSRelease_moves {value : Word} {s : State} :
    Ends [.regs, .emitted] s (execErrSRelease value s) := by
  unfold execErrSRelease
  all_goals (repeat' (first | with_reducible exact .refl | with_reducible apply Ends.next | (with_reducible apply Moves.step State.setBit_moves; · decide) | (with_reducible apply Moves.step State.settleErrS_moves; · decide) | dsimp -proj only | split))

theorem execErrPinReadback_moves {p n es : Bool} {s : State} :
    Ends reactParts s (execErrPinReadback p n es s) := by
  unfold execErrPinReadback
  all_goals (repeat' (first | with_reducible exact .refl | with_reducible apply Ends.next | (with_reducible apply Moves.step State.setBit_moves; · decide) | (with_reducible apply Moves.step State.latchFault_moves; · decide) | dsimp -proj only | split | (with_reducible apply Moves.fc; · decide)))

theorem State.settlePins_moves {s : State} {wasD wasS : Bool} :
    Moves [.emitted] s (State.settlePins s wasD wasS) := by
  unfold State.settlePins
  all_goals (repeat' (first | with_reducible exact .refl | (with_reducible apply Moves.step State.emit_moves; · decide) | (with_reducible apply Moves.step State.settleErrS_moves; · decide) | dsimp -proj only | split))

theorem execFcPinTestWrite_moves {value : Word} {s : State} :
    Ends reactParts s (execFcPinTestWrite value s) := by
  unfold execFcPinTestWrite
  all_goals (repeat' (first | with_reducible exact .refl | with_reducible apply Ends.next | (with_reducible apply Moves.step State.writeLocked_moves; · decide) | (with_reducible apply Moves.step State.settlePins_moves; · decide) | dsimp -proj only | split))

theorem execCollectorMismatch_moves {s : State} :
    Ends reactParts s (execCollectorMismatch s) := by
  unfold execCollectorMismatch
  all_goals (repeat' (first | with_reducible exact .refl | with_reducible apply Ends.next | (with_reducible apply Moves.step State.enterSafe_moves; · decide) | (with_reducible apply Moves.step State.latchFault_moves; · decide) | dsimp -proj only | split))

theorem execSafeStateComplete_moves {s : State} :
    Ends [.emitted, .fc] s (execSafeStateComplete s) := by
  unfold execSafeStateComplete
  all_goals (repeat' (first | with_reducible exact .refl | with_reducible apply Ends.next | (with_reducible apply Moves.step State.emit_moves; · decide) | with_reducible apply Moves.fold | with_reducible apply Moves.fold₁ | with_reducible intro _ _ | dsimp -proj only | split | (with_reducible apply Moves.fc; · decide)))

theorem State.setDiverged_moves {s : State} {key t : Nat} :
    Moves [.fc] s (State.setDiverged s key t) := by
  unfold State.setDiverged
  all_goals (repeat' (first | with_reducible exact .refl | dsimp -proj only | split | (with_reducible apply Moves.fc; · decide)))

theorem execViewCompare_moves {kind : Fin 6} {unit : BitVec 16} {s : State} :
    Ends reactParts s (execViewCompare kind unit s) := by
  unfold execViewCompare
  all_goals (repeat' (first | with_reducible exact .refl | with_reducible apply Ends.next | (with_reducible apply Moves.step State.setMgmt_moves; · decide) | (with_reducible apply Moves.step State.latchFault_moves; · decide) | (with_reducible apply Moves.step State.latchLive_moves; · decide) | (with_reducible apply Moves.step State.setDiverged_moves; · decide) | dsimp -proj only | split))

theorem State.setInj_moves {s : State} {i : InjState} :
    Moves [.regs, .fc] s (State.setInj s i) := by
  unfold State.setInj
  all_goals (repeat' (first | with_reducible exact .refl | (with_reducible apply Moves.step State.setFld_moves; · decide) | dsimp -proj only | split | (with_reducible apply Moves.fc; · decide)))

theorem execInjectionKeyWrite_moves {value : Word} {s : State} :
    Ends reactParts s (execInjectionKeyWrite value s) := by
  unfold execInjectionKeyWrite
  all_goals (repeat' (first | with_reducible exact .refl | with_reducible apply Ends.next | (with_reducible apply Moves.step State.setFld_moves; · decide) | (with_reducible apply Moves.step State.setBit_moves; · decide) | (with_reducible apply Moves.step State.refusedWrite_moves; · decide) | (with_reducible apply Moves.step State.setInj_moves; · decide) | dsimp -proj only | split | (with_reducible apply Moves.fc; · decide)))

theorem State.writeInjConfig_moves {s : State} {arg : Bool} {value : Word} :
    Moves [.regs] s (State.writeInjConfig s arg value) := by
  unfold State.writeInjConfig
  all_goals (repeat' (first | with_reducible exact .refl | (with_reducible apply Moves.step State.setReg_moves; · decide) | dsimp -proj only | split))

theorem execInjectionConfigWrite_moves {arg : Bool} {value : Word} {s : State} :
    Ends reactParts s (execInjectionConfigWrite arg value s) := by
  unfold execInjectionConfigWrite
  all_goals (repeat' (first | with_reducible exact .refl | with_reducible apply Ends.next | (with_reducible apply Moves.step State.refusedWrite_moves; · decide) | (with_reducible apply Moves.step State.setInj_moves; · decide) | (with_reducible apply Moves.step State.writeInjConfig_moves; · decide) | dsimp -proj only | split))

theorem execInjectionKeyTimeout_moves {s : State} :
    Ends [.regs, .fc] s (execInjectionKeyTimeout s) := by
  unfold execInjectionKeyTimeout
  all_goals (repeat' (first | with_reducible exact .refl | with_reducible apply Ends.next | (with_reducible apply Moves.step State.setInj_moves; · decide) | dsimp -proj only | split))

theorem State.levelStart_moves {s : State} {src : Nat} :
    Moves (.lanes :: .hq :: .jrn :: reactParts) s (State.levelStart s src) := by
  unfold State.levelStart
  all_goals (repeat' (first | with_reducible exact .refl | (with_reducible apply Moves.step State.setBit_moves; · decide) | (with_reducible apply Moves.step State.latchLive_moves; · decide) | (with_reducible apply Moves.step State.setMode_moves; · decide) | (with_reducible apply Moves.step State.pmbusFails_moves; · decide) | (with_reducible apply Moves.step State.droopStarts_moves; · decide) | (with_reducible apply Moves.step State.alertStarts_moves; · decide) | (with_reducible apply Moves.step State.sysclkLost_moves; · decide) | (with_reducible apply Moves.step State.refclkLost_moves; · decide) | (with_reducible apply Moves.step State.pcieRefLost_moves; · decide) | dsimp -proj only | split))

theorem State.levelEnd_moves {s : State} {src : Nat} :
    Moves [.regs, .emitted, .chip, .fc, .pwr] s (State.levelEnd s src) := by
  unfold State.levelEnd
  all_goals (repeat' (first | with_reducible exact .refl | (with_reducible apply Moves.step State.setBit_moves; · decide) | (with_reducible apply Moves.step State.endLive_moves; · decide) | (with_reducible apply Moves.step State.droopEnds_moves; · decide) | (with_reducible apply Moves.step State.alertEnds_moves; · decide) | dsimp -proj only | split | (with_reducible apply Moves.chip; · decide)))

theorem State.fireNow_moves {s : State} {src kind : Nat} :
    Moves reactParts s (State.fireNow s src kind) := by
  unfold State.fireNow
  all_goals (repeat' (first | with_reducible exact .refl | (with_reducible apply Moves.step State.latchFault_moves; · decide) | (with_reducible apply Moves.step State.corrected_moves; · decide) | (with_reducible apply Moves.step State.bufFault_moves; · decide) | (with_reducible apply Moves.step State.pairFails_moves; · decide) | (with_reducible apply Moves.step State.flitReplay_moves; · decide) | (with_reducible apply Moves.step State.lockMismatch_moves; · decide) | dsimp -proj only | split))

theorem execInjectionFire_moves {s : State} :
    Ends (.lanes :: .hq :: .jrn :: reactParts) s (execInjectionFire s) := by
  unfold execInjectionFire
  all_goals (repeat' (first | with_reducible exact .refl | with_reducible apply Ends.next | (with_reducible apply Moves.step State.setFld_moves; · decide) | (with_reducible apply Moves.step State.latchLive_moves; · decide) | (with_reducible apply Moves.step State.setInj_moves; · decide) | (with_reducible apply Moves.step State.levelStart_moves; · decide) | (with_reducible apply Moves.step State.fireNow_moves; · decide) | dsimp -proj only | split | (with_reducible apply Moves.fc; · decide)))

theorem execInjectionLevelEnd_moves {s : State} :
    Ends [.regs, .emitted, .chip, .fc, .pwr] s (execInjectionLevelEnd s) := by
  unfold execInjectionLevelEnd
  all_goals (repeat' (first | with_reducible exact .refl | with_reducible apply Ends.next | (with_reducible apply Moves.step State.endLive_moves; · decide) | (with_reducible apply Moves.step State.levelEnd_moves; · decide) | dsimp -proj only | split | (with_reducible apply Moves.fc; · decide)))

end Sys2Proof.Machine
end

