-- ==== Sys2Proof/Laws/Moves/Flash.lean ====
section
/-! SUPPORT. What each operation of Machine/Flash.lean can touch, and that it keeps the stores canonical. -/

namespace Sys2Proof.Machine

/-- Bytes programmed into the flash keep its canonical form. -/
theorem programBytes_wf {m : Tbl Byte} {a : Nat} {b : List Byte} (h : Tbl.wf flashErased m = true) :
    Tbl.wf flashErased (programBytes m a b) = true := by
  induction b generalizing m a with
  | nil => exact h
  | cons x t ih => exact ih (Tbl.wf_put _ _ _ _ h)

theorem State.flashProgram_moves {s : State} {a : Nat} {bs : List Byte} :
    Moves [.boot] s (State.flashProgram s a bs) := by
  unfold State.flashProgram
  all_goals (repeat' (first | with_reducible exact .refl | dsimp -proj only | split | (with_reducible apply Moves.boot; (· decide); (· first | exact fun h => h | exact Tbl.wf_put _ _ _ _ | exact fun h => Tbl.wf_put _ _ _ _ (Tbl.wf_put _ _ _ _ h) | exact Tbl.wf_filter _ _ _ | exact fun _ => rfl | exact writeCellBytes_wf | exact writeBytes_wf | exact programBytes_wf))))

theorem State.flashErase_moves {s : State} {a n : Nat} :
    Moves [.boot] s (State.flashErase s a n) := by
  unfold State.flashErase
  all_goals (repeat' (first | with_reducible exact .refl | dsimp -proj only | split | (with_reducible apply Moves.boot; (· decide); (· first | exact fun h => h | exact Tbl.wf_put _ _ _ _ | exact fun h => Tbl.wf_put _ _ _ _ (Tbl.wf_put _ _ _ _ h) | exact Tbl.wf_filter _ _ _ | exact fun _ => rfl | exact writeCellBytes_wf | exact writeBytes_wf | exact programBytes_wf))))

theorem State.writeBcb_moves {s : State} {rom : Bool} {base : Nat} {b : List Byte} :
    Moves [.boot] s (State.writeBcb s rom base b) := by
  unfold State.writeBcb
  all_goals (repeat' (first | with_reducible exact .refl | (with_reducible apply Moves.step State.flashProgram_moves; · decide) | (with_reducible apply Moves.step State.flashErase_moves; · decide) | dsimp -proj only | split))

theorem State.appendBcb_moves {s : State} {rom : Bool} {r : Bcb} :
    Moves [.boot] s (State.appendBcb s rom r) := by
  unfold State.appendBcb
  all_goals (repeat' (first | with_reducible exact .refl | (with_reducible apply Moves.step State.writeBcb_moves; · decide) | dsimp -proj only | split))

theorem execUpdateStatus_moves {r : Ring} {s : State} :
    Ends (.hq :: .jrn :: reactParts) s (execUpdateStatus r s) := by
  unfold execUpdateStatus
  all_goals (repeat' (first | with_reducible exact .refl | with_reducible apply Ends.next | (with_reducible apply Moves.step State.finishCall_moves; · decide) | (with_reducible apply State.runCall_moves; (· decide); intro _) | dsimp -proj only | split))

theorem State.updErase_moves {s : State} {r : Nat} {c : Call} {ok : Bool} :
    Moves (.hq :: .jrn :: .boot :: reactParts) s (State.updErase s r c ok) := by
  unfold State.updErase
  all_goals (repeat' (first | with_reducible exact .refl | (with_reducible apply Moves.step State.finishCall_moves; · decide) | (with_reducible apply Moves.step State.flashErase_moves; · decide) | dsimp -proj only | split))

theorem execUpdateErase_moves {r : Ring} {flashOk : Bool} {s : State} :
    Ends (.hq :: .jrn :: .boot :: reactParts) s (execUpdateErase r flashOk s) := by
  unfold execUpdateErase
  all_goals (repeat' (first | with_reducible exact .refl | with_reducible apply Ends.next | (with_reducible apply State.runCall_moves; (· decide); intro _) | (with_reducible apply Moves.step State.updErase_moves; · decide) | dsimp -proj only | split))

theorem State.updWrite_moves {s : State} {r : Nat} {c : Call} {data : Option (List Byte)} {ok : Bool} :
    Moves (.hq :: .jrn :: .boot :: reactParts) s (State.updWrite s r c data ok) := by
  unfold State.updWrite
  all_goals (repeat' (first | with_reducible exact .refl | (with_reducible apply Moves.step State.dmaErr_moves; · decide) | (with_reducible apply Moves.step State.finishCall_moves; · decide) | (with_reducible apply Moves.step State.flashProgram_moves; · decide) | dsimp -proj only | split))

theorem execUpdateWrite_moves {r : Ring} {data : Option (List Byte)} {flashOk : Bool} {s : State} :
    Ends (.hq :: .jrn :: .boot :: reactParts) s (execUpdateWrite r data flashOk s) := by
  unfold execUpdateWrite
  all_goals (repeat' (first | with_reducible exact .refl | with_reducible apply Ends.next | (with_reducible apply State.runCall_moves; (· decide); intro _) | (with_reducible apply Moves.step State.updWrite_moves; · decide) | dsimp -proj only | split))

theorem State.updRead_moves {s : State} {r : Nat} {c : Call} :
    Moves (.hostMem :: .hq :: .jrn :: reactParts) s (State.updRead s r c) := by
  unfold State.updRead
  all_goals (repeat' (first | with_reducible exact .refl | (with_reducible apply Moves.step State.hostWrite_moves; · decide) | (with_reducible apply Moves.step State.finishCall_moves; · decide) | dsimp -proj only | split))

theorem execUpdateRead_moves {r : Ring} {s : State} :
    Ends (.hostMem :: .hq :: .jrn :: reactParts) s (execUpdateRead r s) := by
  unfold execUpdateRead
  all_goals (repeat' (first | with_reducible exact .refl | with_reducible apply Ends.next | (with_reducible apply State.runCall_moves; (· decide); intro _) | (with_reducible apply Moves.step State.updRead_moves; · decide) | dsimp -proj only | split))

theorem State.showBcb_moves {s : State} :
    Moves [.regs] s (State.showBcb s) := by
  unfold State.showBcb
  all_goals (repeat' (first | with_reducible exact .refl | (with_reducible apply Moves.step State.setFld_moves; · decide) | (with_reducible apply Moves.step State.setBit_moves; · decide) | dsimp -proj only | split))

theorem execUpdateActivate_moves {r : Ring} {s : State} :
    Ends (.hq :: .jrn :: .boot :: reactParts) s (execUpdateActivate r s) := by
  unfold execUpdateActivate
  all_goals (repeat' (first | with_reducible exact .refl | with_reducible apply Ends.next | (with_reducible apply Moves.step State.finishCall_moves; · decide) | (with_reducible apply State.runCall_moves; (· decide); intro _) | (with_reducible apply Moves.step State.appendBcb_moves; · decide) | (with_reducible apply Moves.step State.showBcb_moves; · decide) | dsimp -proj only | split))

theorem State.updSettings_moves {s : State} {r : Nat} {c : Call} {data : Option (List Byte)} {ok : Bool} :
    Moves (.hq :: .jrn :: .boot :: reactParts) s (State.updSettings s r c data ok) := by
  unfold State.updSettings
  all_goals (repeat' (first | with_reducible exact .refl | (with_reducible apply Moves.step State.dmaErr_moves; · decide) | (with_reducible apply Moves.step State.finishCall_moves; · decide) | (with_reducible apply Moves.step State.flashProgram_moves; · decide) | (with_reducible apply Moves.step State.flashErase_moves; · decide) | (with_reducible apply Moves.step State.appendBcb_moves; · decide) | dsimp -proj only | split))

theorem execUpdateSettingsWrite_moves {r : Ring} {data : Option (List Byte)} {flashOk : Bool} {s : State} :
    Ends (.hq :: .jrn :: .boot :: reactParts) s (execUpdateSettingsWrite r data flashOk s) := by
  unfold execUpdateSettingsWrite
  all_goals (repeat' (first | with_reducible exact .refl | with_reducible apply Ends.next | (with_reducible apply State.runCall_moves; (· decide); intro _) | (with_reducible apply Moves.step State.updSettings_moves; · decide) | dsimp -proj only | split))

theorem execUpdateSettingsRead_moves {r : Ring} {s : State} :
    Ends (.hostMem :: .hq :: .jrn :: reactParts) s (execUpdateSettingsRead r s) := by
  unfold execUpdateSettingsRead
  all_goals (repeat' (first | with_reducible exact .refl | with_reducible apply Ends.next | (with_reducible apply Moves.step State.hostWrite_moves; · decide) | (with_reducible apply Moves.step State.finishCall_moves; · decide) | (with_reducible apply State.runCall_moves; (· decide); intro _) | dsimp -proj only | split))

end Sys2Proof.Machine
end

