-- ==== Sys2Proof/Laws/Moves/Services.lean ====
section
/-! SUPPORT. What each operation of Machine/Services.lean can touch, and that it keeps the stores canonical. -/

namespace Sys2Proof.Machine

theorem execInfoIdentify_moves {r : Ring} {s : State} :
    Ends (.hq :: .jrn :: reactParts) s (execInfoIdentify r s) := by
  unfold execInfoIdentify
  all_goals (repeat' (first | with_reducible exact .refl | with_reducible apply Ends.next | (with_reducible apply Moves.step State.finishCall_moves; · decide) | (with_reducible apply State.runCall_moves; (· decide); intro _) | dsimp -proj only | split))

theorem State.audit_moves {s : State} :
    Moves reactParts s (State.audit s).1 := by
  unfold State.audit
  all_goals (repeat' (first | with_reducible exact .refl | (with_reducible apply Moves.step State.count_moves; · decide) | (with_reducible apply Moves.step State.freeCellList_moves; · decide) | (with_reducible apply Moves.step (State.freeCellList_moves_eq (by assumption)); · decide) | (with_reducible apply Moves.step State.reclaimFrame_moves; · decide) | with_reducible apply Moves.fold | with_reducible apply Moves.fold₁ | with_reducible intro _ _ | dsimp -proj only | split))

theorem State.audit_moves_eq {s : State} {sEnd : State} {yEnd} {zEnd} (he : State.audit s = (sEnd, yEnd, zEnd)) : Moves reactParts s sEnd := by
  have := @State.audit_moves s
  rw [he] at this
  exact this

theorem execAuditRun_moves {r : Ring} {s : State} :
    Ends (.hq :: .jrn :: reactParts) s (execAuditRun r s) := by
  unfold execAuditRun
  all_goals (repeat' (first | with_reducible exact .refl | with_reducible apply Ends.next | (with_reducible apply Moves.step State.finishCall_moves; · decide) | (with_reducible apply State.runCall_moves; (· decide); intro _) | (with_reducible apply Moves.step State.audit_moves; · decide) | (with_reducible apply Moves.step (State.audit_moves_eq (by assumption)); · decide) | dsimp -proj only | split))

theorem execPtpInstance_moves {r : Ring} {s : State} :
    Ends (.hq :: .jrn :: .ks :: reactParts) s (execPtpInstance r s) := by
  unfold execPtpInstance
  all_goals (repeat' (first | with_reducible exact .refl | with_reducible apply Ends.next | (with_reducible apply Moves.step State.setPtp_moves; · decide) | (with_reducible apply Moves.step State.finishCall_moves; · decide) | (with_reducible apply State.runCall_moves; (· decide); intro _) | dsimp -proj only | split))

theorem execPtpPort_moves {r : Ring} {s : State} :
    Ends (.hq :: .jrn :: .ks :: reactParts) s (execPtpPort r s) := by
  unfold execPtpPort
  all_goals (repeat' (first | with_reducible exact .refl | with_reducible apply Ends.next | (with_reducible apply Moves.step State.setPtp_moves; · decide) | (with_reducible apply Moves.step State.finishCall_moves; · decide) | (with_reducible apply State.runCall_moves; (· decide); intro _) | dsimp -proj only | split))

theorem execPtpStatus_moves {r : Ring} {s : State} :
    Ends (.hq :: .jrn :: reactParts) s (execPtpStatus r s) := by
  unfold execPtpStatus
  all_goals (repeat' (first | with_reducible exact .refl | with_reducible apply Ends.next | (with_reducible apply Moves.step State.finishCall_moves; · decide) | (with_reducible apply State.runCall_moves; (· decide); intro _) | dsimp -proj only | split | (with_reducible apply Moves.freeCount; · decide)))

theorem execPierAlign_moves {r : Ring} {found : Option (Fin 10)} {s : State} :
    Ends (.piers :: .hq :: .jrn :: reactParts) s (execPierAlign r found s) := by
  unfold execPierAlign
  all_goals (repeat' (first | with_reducible exact .refl | with_reducible apply Ends.next | (with_reducible apply Moves.step State.finishCall_moves; · decide) | (with_reducible apply State.runCall_moves; (· decide); intro _) | (with_reducible apply Moves.step State.pierSearch_moves; · decide) | (with_reducible apply Moves.step State.pierSlipOne_moves; · decide) | (with_reducible apply Moves.step State.pierLock_moves; · decide) | with_reducible apply Moves.fold | with_reducible apply Moves.fold₁ | with_reducible intro _ _ | dsimp -proj only | split))

theorem execPierSend_moves {r : Ring} {s : State} :
    Ends (.hq :: .jrn :: reactParts) s (execPierSend r s) := by
  unfold execPierSend
  all_goals (repeat' (first | with_reducible exact .refl | with_reducible apply Ends.next | (with_reducible apply Moves.step State.pierSend_moves; · decide) | (with_reducible apply Moves.step State.finishCall_moves; · decide) | (with_reducible apply State.runCall_moves; (· decide); intro _) | dsimp -proj only | split))

theorem execFuseOwnerKey_moves {r : Ring} {s : State} :
    Ends (.hq :: .jrn :: reactParts) s (execFuseOwnerKey r s) := by
  unfold execFuseOwnerKey
  all_goals (repeat' (first | with_reducible exact .refl | with_reducible apply Ends.next | (with_reducible apply Moves.step State.finishCall_moves; · decide) | (with_reducible apply State.runCall_moves; (· decide); intro _) | dsimp -proj only | split | (with_reducible apply Moves.progs; · decide)))

theorem execPowerStatus_moves {r : Ring} {s : State} :
    Ends (.hq :: .jrn :: reactParts) s (execPowerStatus r s) := by
  unfold execPowerStatus
  all_goals (repeat' (first | with_reducible exact .refl | with_reducible apply Ends.next | (with_reducible apply Moves.step State.finishCall_moves; · decide) | (with_reducible apply State.runCall_moves; (· decide); intro _) | dsimp -proj only | split))

theorem execPowerConcordReport_moves {r : Ring} {s : State} :
    Ends (.hostMem :: .hq :: .jrn :: reactParts) s (execPowerConcordReport r s) := by
  unfold execPowerConcordReport
  all_goals (repeat' (first | with_reducible exact .refl | with_reducible apply Ends.next | (with_reducible apply Moves.step State.hostWrite_moves; · decide) | (with_reducible apply Moves.step State.finishCall_moves; · decide) | (with_reducible apply State.runCall_moves; (· decide); intro _) | dsimp -proj only | split))

end Sys2Proof.Machine
end

