-- ==== Sys2Proof/Laws/Moves/Resets.lean ====
section
/-! SUPPORT. What each operation of Machine/Resets.lean can touch, and that it keeps the stores canonical. -/

namespace Sys2Proof.Machine

theorem State.requeueEgress_moves {s : State} {n : Nat} :
    Moves [.counters, .emitted, .pipes, .egr, .via] s (State.requeueEgress s n) := by
  unfold State.requeueEgress
  all_goals (repeat' (first | with_reducible exact .refl | (with_reducible apply Moves.step State.setReplays_moves; · decide) | (with_reducible apply Moves.step State.setSelected_moves; · decide) | (with_reducible apply Moves.step State.stompPorts_moves; · decide) | (with_reducible apply Moves.step State.dropPackets_moves; · decide) | with_reducible apply Moves.fold | with_reducible apply Moves.fold₁ | with_reducible intro _ _ | dsimp -proj only | split))

theorem State.discardSpan_moves {s : State} {n : Nat} :
    Moves [.counters, .rx, .pipes, .ord] s (State.discardSpan s n) := by
  unfold State.discardSpan
  all_goals (repeat' (first | with_reducible exact .refl | (with_reducible apply Moves.step State.dropPackets_moves; · decide) | (with_reducible apply Moves.step State.discardIngress_moves; · decide) | with_reducible apply Moves.fold | with_reducible apply Moves.fold₁ | with_reducible intro _ _ | dsimp -proj only | split))

theorem State.resetPasses_moves {s : State} {n : Nat} :
    Moves [.pipes] s (State.resetPasses s n) := by
  unfold State.resetPasses
  all_goals (repeat' (first | with_reducible exact .refl | (with_reducible apply Moves.step State.setPass_moves; · decide) | (with_reducible apply Moves.step State.setPipe_moves; · decide) | with_reducible apply Moves.fold | with_reducible apply Moves.fold₁ | with_reducible intro _ _ | dsimp -proj only | split))

theorem State.stopSpan_moves {s : State} {n : Nat} :
    Moves [.counters, .emitted, .rx, .pipes, .trestle, .ord, .egr, .via] s (State.stopSpan s n) := by
  unfold State.stopSpan
  all_goals (repeat' (first | with_reducible exact .refl | (with_reducible apply Moves.step State.haltEngine_moves; · decide) | (with_reducible apply Moves.step State.requeueEgress_moves; · decide) | (with_reducible apply Moves.step State.discardSpan_moves; · decide) | dsimp -proj only | split))

theorem State.rebuildPass_moves {s : State} {n : Nat} {pass : Pass} {failed : List Nat} :
    Moves [.regs, .counters, .emitted, .freeCount, .fc, .buf, .pipes, .trestle, .pierTx] s (State.rebuildPass s n pass failed) := by
  unfold State.rebuildPass
  all_goals (repeat' (first | with_reducible exact .refl | (with_reducible apply Moves.step State.setPass_moves; · decide) | (with_reducible apply Moves.step State.fence_moves; · decide) | (with_reducible apply Moves.step State.latchService_moves; · decide) | (with_reducible apply Moves.step State.degrade_moves; · decide) | with_reducible apply Moves.fold | with_reducible apply Moves.fold₁ | with_reducible intro _ _ | dsimp -proj only | split))

theorem State.unfenceSpan_moves {s : State} {n : Nat} :
    Moves [.fc] s (State.unfenceSpan s n) := by
  unfold State.unfenceSpan
  all_goals (repeat' (first | with_reducible exact .refl | (with_reducible apply Moves.step State.setMgmt_moves; · decide) | (with_reducible apply Moves.step State.unfence_moves; · decide) | with_reducible apply Moves.fold | with_reducible apply Moves.fold₁ | with_reducible intro _ _ | dsimp -proj only | split))

theorem State.runVectors_moves {s : State} {n : Nat} {failed faulty : Pass → List Nat} :
    Moves [.regs, .counters, .emitted, .freeCount, .fc, .buf, .pipes, .trestle, .pierTx] s (State.runVectors s n failed faulty) := by
  unfold State.runVectors
  all_goals (repeat' (first | with_reducible exact .refl | (with_reducible apply Moves.step State.countVectors_moves; · decide) | (with_reducible apply Moves.step State.rebuildPass_moves; · decide) | with_reducible apply Moves.fold | with_reducible apply Moves.fold₁ | with_reducible intro _ _ | dsimp -proj only | split))

theorem State.recopySpan_moves {s : State} {n donor : Nat} :
    Moves [.progs, .tables] s (State.recopySpan s n donor) := by
  unfold State.recopySpan
  all_goals (repeat' (first | with_reducible exact .refl | dsimp -proj only | split | (with_reducible apply Moves.progs; · decide) | (with_reducible apply Moves.tables; · decide) | (with_reducible apply Moves.upd; with_reducible rfl; (all_goals first | exact .inl (by with_reducible rfl) | exact .inr (by decide) | exact .inr ⟨by decide, by first | exact fun h => h | exact Tbl.wf_put _ _ _ _ | exact fun h => Tbl.wf_put _ _ _ _ (Tbl.wf_put _ _ _ _ h) | exact Tbl.wf_filter _ _ _ | exact fun _ => rfl | exact writeCellBytes_wf | exact writeBytes_wf | exact programBytes_wf⟩ | skip))))

theorem State.setSpanPhase_moves {s : State} {n : Nat} {p : SpanPhase} :
    Moves [.chip] s (State.setSpanPhase s n p) := by
  unfold State.setSpanPhase
  all_goals (repeat' (first | with_reducible exact .refl | dsimp -proj only | split | (with_reducible apply Moves.chip; · decide)))

theorem State.spanRequest_moves {s : State} {n : Nat} :
    Moves [.regs, .counters, .emitted, .chip, .fc, .rx, .pipes, .trestle, .ord, .egr, .via] s (State.spanRequest s n) := by
  unfold State.spanRequest
  all_goals (repeat' (first | with_reducible exact .refl | (with_reducible apply Moves.step State.setFld_moves; · decide) | (with_reducible apply Moves.step State.setBit_moves; · decide) | (with_reducible apply Moves.step State.fence_moves; · decide) | (with_reducible apply Moves.step State.enterHold_moves; · decide) | (with_reducible apply Moves.step State.stopSpan_moves; · decide) | (with_reducible apply Moves.step State.setSpanPhase_moves; · decide) | with_reducible apply Moves.fold | with_reducible apply Moves.fold₁ | with_reducible intro _ _ | dsimp -proj only | split))

theorem execSpanLogicReset_moves {span : Span} {s : State} :
    Ends [.chip, .pipes] s (execSpanLogicReset span s) := by
  unfold execSpanLogicReset
  all_goals (repeat' (first | with_reducible exact .refl | with_reducible apply Ends.next | (with_reducible apply Moves.step State.resetPasses_moves; · decide) | (with_reducible apply Moves.step State.setSpanPhase_moves; · decide) | dsimp -proj only | split))

theorem execSpanRecopyDone_moves {span : Span} {donor : Span} {s : State} :
    Ends [.chip, .progs, .tables] s (execSpanRecopyDone span donor s) := by
  unfold execSpanRecopyDone
  all_goals (repeat' (first | with_reducible exact .refl | with_reducible apply Ends.next | (with_reducible apply Moves.step State.recopySpan_moves; · decide) | (with_reducible apply Moves.step State.setSpanPhase_moves; · decide) | dsimp -proj only | split))

theorem execSpanVectorsDone_moves {span : Span} {failed : List (Pass × PipeNo)} {s : State} :
    Ends [.regs, .counters, .emitted, .freeCount, .chip, .fc, .buf, .pipes, .trestle, .pierTx] s (execSpanVectorsDone span failed s) := by
  unfold execSpanVectorsDone
  all_goals (repeat' (first | with_reducible exact .refl | with_reducible apply Ends.next | (with_reducible apply Moves.step State.runVectors_moves; · decide) | (with_reducible apply Moves.step State.setSpanPhase_moves; · decide) | dsimp -proj only | split))

theorem State.resumeEngine_moves {s : State} {n : Nat} :
    Moves [.trestle] s (State.resumeEngine s n) := by
  unfold State.resumeEngine
  all_goals (repeat' (first | with_reducible exact .refl | (with_reducible apply Moves.step State.setEngine_moves; · decide) | dsimp -proj only | split))

theorem execSpanReplayStart_moves {span : Span} {s : State} :
    Ends [.chip, .trestle] s (execSpanReplayStart span s) := by
  unfold execSpanReplayStart
  all_goals (repeat' (first | with_reducible exact .refl | with_reducible apply Ends.next | (with_reducible apply Moves.step State.setSpanPhase_moves; · decide) | (with_reducible apply Moves.step State.resumeEngine_moves; · decide) | dsimp -proj only | split))

theorem State.endHold_moves {s : State} {g : Nat} :
    Moves [.counters, .emitted, .chip] s (State.endHold s g) := by
  unfold State.endHold
  all_goals (repeat' (first | with_reducible exact .refl | (with_reducible apply Moves.step State.leaveHold_moves; · decide) | dsimp -proj only | split))

theorem execSpanResetEnd_moves {span : Span} {s : State} :
    Ends (.tel :: .cmp :: reactParts) s (execSpanResetEnd span s) := by
  unfold execSpanResetEnd
  all_goals (repeat' (first | with_reducible exact .refl | with_reducible apply Ends.next | (with_reducible apply Moves.step State.setBit_moves; · decide) | (with_reducible apply Moves.step State.incMod_moves; · decide) | (with_reducible apply Moves.step State.releaseHost_moves; · decide) | (with_reducible apply Moves.step State.unfenceSpan_moves; · decide) | (with_reducible apply Moves.step State.setSpanPhase_moves; · decide) | (with_reducible apply Moves.step State.endHold_moves; · decide) | with_reducible apply Moves.fold | with_reducible apply Moves.fold₁ | with_reducible intro _ _ | dsimp -proj only | split))

theorem State.cutArrivals_moves {s : State} :
    Moves (.tel :: .cmp :: reactParts) s (State.cutArrivals s) := by
  unfold State.cutArrivals
  all_goals (repeat' (first | with_reducible exact .refl | (with_reducible apply Moves.step State.setInfo_moves; · decide) | (with_reducible apply Moves.step State.freeDescriptor_moves; · decide) | (with_reducible apply Moves.step State.discardFrame_moves; · decide) | (with_reducible apply Moves.step State.rxDiscard_moves; · decide) | with_reducible apply Moves.fold | with_reducible apply Moves.fold₁ | with_reducible intro _ _ | dsimp -proj only | split))

theorem State.stopLoad_moves {s : State} :
    Moves [.regs, .emitted, .freeCount] s (State.stopLoad s) := by
  unfold State.stopLoad
  all_goals (repeat' (first | with_reducible exact .refl | (with_reducible apply Moves.step State.setShadow_moves; · decide) | (with_reducible apply Moves.step State.loadFails_moves; · decide) | dsimp -proj only | split | (with_reducible apply Moves.freeCount; · decide)))

theorem State.warmStart_moves {s : State} {source : Nat} :
    Moves (.tel :: .cmp :: reactParts) s (State.warmStart s source) := by
  unfold State.warmStart
  all_goals (repeat' (first | with_reducible exact .refl | (with_reducible apply Moves.step State.setFld_moves; · decide) | (with_reducible apply Moves.step State.setBit_moves; · decide) | (with_reducible apply Moves.step State.incMod_moves; · decide) | (with_reducible apply Moves.step State.enterHold_moves; · decide) | (with_reducible apply Moves.step State.endPinTest_moves; · decide) | (with_reducible apply Moves.step State.cutArrivals_moves; · decide) | (with_reducible apply Moves.step State.stopLoad_moves; · decide) | with_reducible apply Moves.fold | with_reducible apply Moves.fold₁ | with_reducible intro _ _ | dsimp -proj only | split | (with_reducible apply Moves.chip; · decide) | (with_reducible apply Moves.fc; · decide) | (with_reducible apply Moves.upd; with_reducible rfl; (all_goals first | exact .inl (by with_reducible rfl) | exact .inr (by decide) | exact .inr ⟨by decide, by first | exact fun h => h | exact Tbl.wf_put _ _ _ _ | exact fun h => Tbl.wf_put _ _ _ _ (Tbl.wf_put _ _ _ _ h) | exact Tbl.wf_filter _ _ _ | exact fun _ => rfl | exact writeCellBytes_wf | exact writeBytes_wf | exact programBytes_wf⟩ | skip))))

theorem State.warmRequest_moves {s : State} {source detail : Nat} :
    Moves (.tel :: .cmp :: reactParts) s (State.warmRequest s source detail) := by
  unfold State.warmRequest
  all_goals (repeat' (first | with_reducible exact .refl | (with_reducible apply Moves.step State.latchFault_moves; · decide) | (with_reducible apply Moves.step State.warmStart_moves; · decide) | dsimp -proj only | split))

theorem execWarmNAssert_moves {s : State} :
    Ends (.tel :: .cmp :: reactParts) s (execWarmNAssert s) := by
  unfold execWarmNAssert
  all_goals (repeat' (first | with_reducible exact .refl | with_reducible apply Ends.next | (with_reducible apply Moves.step State.warmRequest_moves; · decide) | dsimp -proj only | split))

theorem State.stopSpans_moves {s : State} :
    Moves [.counters, .emitted, .rx, .pipes, .trestle, .ord, .egr, .via] s (State.stopSpans s) := by
  unfold State.stopSpans
  all_goals (repeat' (first | with_reducible exact .refl | (with_reducible apply Moves.step State.resetPasses_moves; · decide) | (with_reducible apply Moves.step State.stopSpan_moves; · decide) | with_reducible apply Moves.fold | with_reducible apply Moves.fold₁ | with_reducible intro _ _ | dsimp -proj only | split))

theorem State.seal_moves {s : State} : Moves [.holding, .chip] s s.seal :=
  have h : Moves [.holding, .chip] s { s with holding := s.holding.filter (fun (e : Nat × Word) => e.1 = pubSecHi || e.1 = pubN32) } :=
    .holding (by decide) (Tbl.wf_filter _ _ _) .refl
  Moves.chip (by decide) h

theorem execWarmResetSeal_moves {s : State} :
    Ends [.holding, .counters, .emitted, .chip, .rx, .pipes, .trestle, .ord, .egr, .via] s (execWarmResetSeal s) := by
  unfold execWarmResetSeal
  all_goals (repeat' (first | with_reducible exact .refl | with_reducible apply Ends.next | (with_reducible apply Moves.step State.stopSpans_moves; · decide) | (with_reducible apply Moves.step State.seal_moves; · decide) | dsimp -proj only | split))

theorem State.sweepTx_moves {s : State} :
    Moves [.buf, .hq] s (State.sweepTx s) := by
  unfold State.sweepTx
  all_goals (repeat' (first | with_reducible exact .refl | (with_reducible apply Moves.step State.setSq_moves; · decide) | with_reducible apply Moves.fold | with_reducible apply Moves.fold₁ | with_reducible intro _ _ | dsimp -proj only | split | (with_reducible apply Moves.buf; (· decide); (· with_reducible rfl))))

theorem execWarmResetRelease_moves {s : State} :
    Ends [.regs, .chip, .buf, .trestle, .hq, .ks] s (execWarmResetRelease s) := by
  unfold execWarmResetRelease
  all_goals (repeat' (first | with_reducible exact .refl | with_reducible apply Ends.next | (with_reducible apply Moves.step State.checkDrained_moves; · decide) | (with_reducible apply Moves.step State.setKc_moves; · decide) | (with_reducible apply Moves.step State.sweepPlain_moves; · decide) | (with_reducible apply Moves.step State.sweepTx_moves; · decide) | with_reducible apply Moves.fold | with_reducible apply Moves.fold₁ | with_reducible intro _ _ | dsimp -proj only | split | (with_reducible apply Moves.chip; · decide)))

theorem State.auditLists_moves {s : State} :
    Moves reactParts s (State.auditLists s) := by
  unfold State.auditLists
  all_goals (repeat' (first | with_reducible exact .refl | (with_reducible apply Moves.step State.rebuildFree_moves; · decide) | (with_reducible apply Moves.step State.bufFault_moves; · decide) | with_reducible apply Moves.fold | with_reducible apply Moves.fold₁ | with_reducible intro _ _ | dsimp -proj only | split))

theorem State.auditFault_moves {s : State} :
    Moves reactParts s (State.auditFault s) := by
  unfold State.auditFault
  all_goals (repeat' (first | with_reducible exact .refl | (with_reducible apply Moves.step State.latchFault_moves; · decide) | dsimp -proj only | split))

theorem State.auditCharges_moves {s : State} :
    Moves reactParts s (State.auditCharges s) := by
  unfold State.auditCharges
  all_goals (repeat' (first | with_reducible exact .refl | (with_reducible apply Moves.step State.setPairUse_moves; · decide) | (with_reducible apply Moves.step State.setClsShared_moves; · decide) | (with_reducible apply Moves.step State.setHeadUse_moves; · decide) | (with_reducible apply Moves.step State.auditFault_moves; · decide) | with_reducible apply Moves.fold | with_reducible apply Moves.fold₁ | with_reducible intro _ _ | dsimp -proj only | split | (with_reducible apply Moves.buf; (· decide); (· with_reducible rfl))))

theorem State.orderFault_moves {s : State} {pair : Nat} {seq : Word} :
    Moves reactParts s (State.orderFault s pair seq) := by
  unfold State.orderFault
  all_goals (repeat' (first | with_reducible exact .refl | (with_reducible apply Moves.step State.latchFault_moves; · decide) | dsimp -proj only | split))

theorem State.checkLedger_moves {s : State} {e : LedgerEntry} :
    Moves reactParts s (State.checkLedger s e) := by
  unfold State.checkLedger
  all_goals (repeat' (first | with_reducible exact .refl | (with_reducible apply Moves.step State.setOrder_moves; · decide) | (with_reducible apply Moves.step State.orderFault_moves; · decide) | dsimp -proj only | split))

theorem State.checkQueue_moves {s : State} {q : Nat} :
    Moves reactParts s (State.checkQueue s q) := by
  unfold State.checkQueue
  all_goals (repeat' (first | with_reducible exact .refl | (with_reducible apply Moves.step State.setQueue_moves; · decide) | (with_reducible apply Moves.step State.setAhead_moves; · decide) | (with_reducible apply Moves.step State.latchFault_moves; · decide) | (with_reducible apply Moves.step State.freeEntry_moves; · decide) | with_reducible apply Moves.fold | with_reducible apply Moves.fold₁ | with_reducible intro _ _ | dsimp -proj only | split))

theorem State.checkQueues_moves {s : State} :
    Moves reactParts s (State.checkQueues s) := by
  unfold State.checkQueues
  all_goals (repeat' (first | with_reducible exact .refl | (with_reducible apply Moves.step State.checkQueue_moves; · decide) | with_reducible apply Moves.fold | with_reducible apply Moves.fold₁ | with_reducible intro _ _ | dsimp -proj only | split))

theorem execWarmAuditDone_moves {s : State} :
    Ends reactParts s (execWarmAuditDone s) := by
  unfold execWarmAuditDone
  all_goals (repeat' (first | with_reducible exact .refl | with_reducible apply Ends.next | (with_reducible apply Moves.step State.setBit_moves; · decide) | (with_reducible apply Moves.step State.auditLists_moves; · decide) | (with_reducible apply Moves.step State.auditCharges_moves; · decide) | (with_reducible apply Moves.step State.checkLedger_moves; · decide) | (with_reducible apply Moves.step State.checkQueues_moves; · decide) | with_reducible apply Moves.fold | with_reducible apply Moves.fold₁ | with_reducible intro _ _ | dsimp -proj only | split | (with_reducible apply Moves.chip; · decide)))

theorem State.resumeFrames_moves {s : State} :
    Moves (.tel :: .cmp :: reactParts) s (State.resumeFrames s) := by
  unfold State.resumeFrames
  all_goals (repeat' (first | with_reducible exact .refl | (with_reducible apply Moves.step State.setReplays_moves; · decide) | (with_reducible apply Moves.step State.setArrivals_moves; · decide) | (with_reducible apply Moves.step State.queueReplays_moves; · decide) | (with_reducible apply Moves.step State.discardFrame_moves; · decide) | with_reducible apply Moves.fold | with_reducible apply Moves.fold₁ | with_reducible intro _ _ | dsimp -proj only | split | (with_reducible apply Moves.rx; · decide)))

theorem State.warmScrub_moves {s : State} {stores : List (StoreRef × ReadCheck × Option (Fin 16))} {tables : List (Span × TableRef × ReadCheck × Option Span)} :
    Moves (.tables :: reactParts) s (State.warmScrub s stores tables) := by
  unfold State.warmScrub
  all_goals (repeat' (first | with_reducible exact .refl | (with_reducible apply Moves.step State.storeScrub_moves; · decide) | (with_reducible apply Moves.step State.tableScrub_moves; · decide) | with_reducible apply Moves.fold | with_reducible apply Moves.fold₁ | with_reducible intro _ _ | dsimp -proj only | split))

theorem execWarmResume_moves {failed : List (Span × Pass × PipeNo)} {stores : List (StoreRef × ReadCheck × Option (Fin 16))} {tables : List (Span × TableRef × ReadCheck × Option Span)} {s : State} :
    Ends (.tables :: .tel :: .cmp :: reactParts) s (execWarmResume failed stores tables s) := by
  unfold execWarmResume
  all_goals (repeat' (first | with_reducible exact .refl | with_reducible apply Ends.next | (with_reducible apply Moves.step State.unfenceSpan_moves; · decide) | (with_reducible apply Moves.step State.runVectors_moves; · decide) | (with_reducible apply Moves.step State.recopySpan_moves; · decide) | (with_reducible apply Moves.step State.resumeEngine_moves; · decide) | (with_reducible apply Moves.step State.resumeFrames_moves; · decide) | (with_reducible apply Moves.step State.warmScrub_moves; · decide) | with_reducible apply Moves.fold | with_reducible apply Moves.fold₁ | with_reducible intro _ _ | dsimp -proj only | split | (with_reducible apply Moves.chip; · decide)))

theorem State.leaveSafe_moves {s : State} :
    Moves [.regs, .emitted, .fc, .pwr] s (State.leaveSafe s) := by
  unfold State.leaveSafe
  all_goals (repeat' (first | with_reducible exact .refl | (with_reducible apply Moves.step State.emit_moves; · decide) | (with_reducible apply Moves.step State.capRise_moves; · decide) | dsimp -proj only | split | (with_reducible apply Moves.fc; · decide) | (with_reducible apply Moves.pwr; · decide) | (with_reducible apply Moves.upd; with_reducible rfl; (all_goals first | exact .inl (by with_reducible rfl) | exact .inr (by decide) | exact .inr ⟨by decide, by first | exact fun h => h | exact Tbl.wf_put _ _ _ _ | exact fun h => Tbl.wf_put _ _ _ _ (Tbl.wf_put _ _ _ _ h) | exact Tbl.wf_filter _ _ _ | exact fun _ => rfl | exact writeCellBytes_wf | exact writeBytes_wf | exact programBytes_wf⟩ | skip))))

theorem State.emptyBanks_moves {s : State} :
    Moves [.regs, .tel] s (State.emptyBanks s) := by
  unfold State.emptyBanks
  all_goals (repeat' (first | with_reducible exact .refl | (with_reducible apply Moves.step State.telRoll_moves; · decide) | dsimp -proj only | split | (with_reducible apply Moves.tel; · decide)))

theorem State.resumeLinks_moves {s : State} :
    Moves [.via] s (State.resumeLinks s) := by
  unfold State.resumeLinks
  all_goals (repeat' (first | with_reducible exact .refl | (with_reducible apply Moves.step State.retransmitFrom_moves; · decide) | with_reducible apply Moves.fold | with_reducible apply Moves.fold₁ | with_reducible intro _ _ | dsimp -proj only | split))

theorem State.endHolds_moves {s : State} :
    Moves (.tel :: .cmp :: reactParts) s (State.endHolds s) := by
  unfold State.endHolds
  all_goals (repeat' (first | with_reducible exact .refl | (with_reducible apply Moves.step State.releaseHost_moves; · decide) | (with_reducible apply Moves.step State.endHold_moves; · decide) | with_reducible apply Moves.fold | with_reducible apply Moves.fold₁ | with_reducible intro _ _ | dsimp -proj only | split))

theorem State.forgetBuffers_moves {s : State} :
    Moves [.hq] s (State.forgetBuffers s) := by
  unfold State.forgetBuffers
  all_goals (repeat' (first | with_reducible exact .refl | dsimp -proj only | split | (with_reducible apply Moves.hq; · decide)))

theorem State.releaseTraffic_moves {s : State} :
    Moves (.tel :: .cmp :: reactParts) s (State.releaseTraffic s) := by
  unfold State.releaseTraffic
  all_goals (repeat' (first | with_reducible exact .refl | (with_reducible apply Moves.step State.resumeLinks_moves; · decide) | (with_reducible apply Moves.step State.endHolds_moves; · decide) | dsimp -proj only | split))

theorem State.warmEnd_moves {s : State} {prev : Nat} :
    Moves (.tel :: .cmp :: .hq :: reactParts) s (State.warmEnd s prev) := by
  unfold State.warmEnd
  all_goals (repeat' (first | with_reducible exact .refl | (with_reducible apply Moves.step State.advanceSlots_moves; · decide) | (with_reducible apply Moves.step State.leaveSafe_moves; · decide) | (with_reducible apply Moves.step State.emptyBanks_moves; · decide) | (with_reducible apply Moves.step State.forgetBuffers_moves; · decide) | (with_reducible apply Moves.step State.releaseTraffic_moves; · decide) | dsimp -proj only | split | (with_reducible apply Moves.chip; · decide)))

theorem execWarmResetEnd_moves {s : State} :
    Ends (.tel :: .cmp :: .hq :: reactParts) s (execWarmResetEnd s) := by
  unfold execWarmResetEnd
  all_goals (repeat' (first | with_reducible exact .refl | with_reducible apply Ends.next | (with_reducible apply Moves.step State.warmEnd_moves; · decide) | dsimp -proj only | split))

theorem State.coldReset_moves {s : State} {cause : Nat} {mode : DevState} :
    Moves [.regs, .holding, .counters, .emitted, .chip, .fc, .buf, .mem, .rx, .pipes, .progs, .tables, .trestle, .ord, .egr, .tel, .via, .cmp, .pierTx, .lanes, .piers, .time, .hq, .jrn, .ks, .pwr, .boot] s (State.coldReset s cause mode) := by
  unfold State.coldReset
  refine .trans ?_ (.mono (by decide) State.emit_moves)
  refine .trans ?_ (.mono (by decide) State.setFld_moves)
  exact ⟨fun p hp => by cases p <;> first | rfl | exact absurd (by decide) hp,
    fun c => ⟨rfl, rfl, rfl, c.hostMem, rfl, c.flash⟩⟩

theorem State.coldRequest_moves {s : State} {cause : Nat} :
    Moves (.holding :: .mem :: .tables :: .tel :: .cmp :: .lanes :: .piers :: .time :: .hq :: .jrn :: .ks :: .boot :: reactParts) s (State.coldRequest s cause) := by
  unfold State.coldRequest
  all_goals (repeat' (first | with_reducible exact .refl | (with_reducible apply Moves.step State.flushJournal_moves; · decide) | (with_reducible apply Moves.step State.coldReset_moves; · decide) | dsimp -proj only | split))

theorem State.writeReset_moves {s : State} {value : Word} :
    Moves (.holding :: .mem :: .tables :: .tel :: .cmp :: .lanes :: .piers :: .time :: .hq :: .jrn :: .ks :: .boot :: reactParts) s (State.writeReset s value) := by
  unfold State.writeReset
  all_goals (repeat' (first | with_reducible exact .refl | (with_reducible apply Moves.step State.refusedWrite_moves; · decide) | (with_reducible apply Moves.step State.spanRequest_moves; · decide) | (with_reducible apply Moves.step State.warmRequest_moves; · decide) | (with_reducible apply Moves.step State.coldRequest_moves; · decide) | dsimp -proj only | split))

theorem execSpanResetRequest_moves {value : Word} {s : State} :
    Ends (.holding :: .mem :: .tables :: .tel :: .cmp :: .lanes :: .piers :: .time :: .hq :: .jrn :: .ks :: .boot :: reactParts) s (execSpanResetRequest value s) := by
  unfold execSpanResetRequest
  all_goals (repeat' (first | with_reducible exact .refl | with_reducible apply Ends.next | (with_reducible apply Moves.step State.writeReset_moves; · decide) | dsimp -proj only | split))

theorem execWarmResetRequest_moves {value : Word} {s : State} :
    Ends (.holding :: .mem :: .tables :: .tel :: .cmp :: .lanes :: .piers :: .time :: .hq :: .jrn :: .ks :: .boot :: reactParts) s (execWarmResetRequest value s) := by
  unfold execWarmResetRequest
  all_goals (repeat' (first | with_reducible exact .refl | with_reducible apply Ends.next | (with_reducible apply Moves.step State.writeReset_moves; · decide) | dsimp -proj only | split))

theorem execColdResetRequest_moves {value : Word} {s : State} :
    Ends (.holding :: .mem :: .tables :: .tel :: .cmp :: .lanes :: .piers :: .time :: .hq :: .jrn :: .ks :: .boot :: reactParts) s (execColdResetRequest value s) := by
  unfold execColdResetRequest
  all_goals (repeat' (first | with_reducible exact .refl | with_reducible apply Ends.next | (with_reducible apply Moves.step State.writeReset_moves; · decide) | dsimp -proj only | split))

theorem execResetNAssert_moves {s : State} :
    Ends (.holding :: .mem :: .tables :: .tel :: .cmp :: .lanes :: .piers :: .time :: .hq :: .jrn :: .ks :: .boot :: reactParts) s (execResetNAssert s) := by
  unfold execResetNAssert
  all_goals (repeat' (first | with_reducible exact .refl | with_reducible apply Ends.next | (with_reducible apply Moves.step State.coldRequest_moves; · decide) | dsimp -proj only | split | (with_reducible apply Moves.boot; (· decide); (· first | exact fun h => h | exact Tbl.wf_put _ _ _ _ | exact fun h => Tbl.wf_put _ _ _ _ (Tbl.wf_put _ _ _ _ h) | exact Tbl.wf_filter _ _ _ | exact fun _ => rfl | exact writeCellBytes_wf | exact writeBytes_wf | exact programBytes_wf))))

theorem State.startUp_moves {s : State} :
    Moves reactParts s (State.startUp s) := by
  unfold State.startUp
  all_goals (repeat' (first | with_reducible exact .refl | (with_reducible apply Moves.step State.latchFault_moves; · decide) | (with_reducible apply Moves.step State.calibrate_moves; · decide) | dsimp -proj only | split | (with_reducible apply Moves.chip; · decide)))

theorem execResetNRelease_moves {strap0 : Bool} {badFuses : BitVec 8} {s : State} :
    Ends (.boot :: reactParts) s (execResetNRelease strap0 badFuses s) := by
  unfold execResetNRelease
  all_goals (repeat' (first | with_reducible exact .refl | with_reducible apply Ends.next | (with_reducible apply Moves.step State.startUp_moves; · decide) | dsimp -proj only | split | (with_reducible apply Moves.chip; · decide) | (with_reducible apply Moves.boot; (· decide); (· first | exact fun h => h | exact Tbl.wf_put _ _ _ _ | exact fun h => Tbl.wf_put _ _ _ _ (Tbl.wf_put _ _ _ _ h) | exact Tbl.wf_filter _ _ _ | exact fun _ => rfl | exact writeCellBytes_wf | exact writeBytes_wf | exact programBytes_wf)) | (with_reducible apply Moves.upd; with_reducible rfl; (all_goals first | exact .inl (by with_reducible rfl) | exact .inr (by decide) | exact .inr ⟨by decide, by first | exact fun h => h | exact Tbl.wf_put _ _ _ _ | exact fun h => Tbl.wf_put _ _ _ _ (Tbl.wf_put _ _ _ _ h) | exact Tbl.wf_filter _ _ _ | exact fun _ => rfl | exact writeCellBytes_wf | exact writeBytes_wf | exact programBytes_wf⟩ | skip))))

theorem execRailFault_moves {rail : Rail} {uv : Nat} {ports : List Port} {s : State} :
    Ends (.lanes :: .jrn :: .boot :: reactParts) s (execRailFault rail uv ports s) := by
  unfold execRailFault
  all_goals (repeat' (first | with_reducible exact .refl | with_reducible apply Ends.next | (with_reducible apply Moves.step State.supplyFails_moves; · decide) | (with_reducible apply Moves.step State.linkFails_moves; · decide) | (with_reducible apply Moves.step State.startUp_moves; · decide) | with_reducible apply Moves.fold | with_reducible apply Moves.fold₁ | with_reducible intro _ _ | dsimp -proj only | split | (with_reducible apply Moves.boot; (· decide); (· first | exact fun h => h | exact Tbl.wf_put _ _ _ _ | exact fun h => Tbl.wf_put _ _ _ _ (Tbl.wf_put _ _ _ _ h) | exact Tbl.wf_filter _ _ _ | exact fun _ => rfl | exact writeCellBytes_wf | exact writeBytes_wf | exact programBytes_wf))))

theorem execPowerOn_moves {s : State} :
    Ends (.holding :: .mem :: .tables :: .tel :: .cmp :: .lanes :: .piers :: .time :: .hq :: .jrn :: .ks :: .boot :: reactParts) s (execPowerOn s) := by
  unfold execPowerOn
  all_goals (repeat' (first | with_reducible exact .refl | with_reducible apply Ends.next | (with_reducible apply Moves.step State.coldReset_moves; · decide) | (with_reducible apply Moves.step State.startUp_moves; · decide) | dsimp -proj only | split | (with_reducible apply Moves.boot; (· decide); (· first | exact fun h => h | exact Tbl.wf_put _ _ _ _ | exact fun h => Tbl.wf_put _ _ _ _ (Tbl.wf_put _ _ _ _ h) | exact Tbl.wf_filter _ _ _ | exact fun _ => rfl | exact writeCellBytes_wf | exact writeBytes_wf | exact programBytes_wf))))

end Sys2Proof.Machine
end

