-- ==== Sys2Proof/Laws/Moves/Boot.lean ====
section
/-! SUPPORT. What each operation of Machine/Boot.lean can touch, and that it keeps the stores canonical. -/

namespace Sys2Proof.Machine

theorem State.setPhase_moves {s : State} {n : Nat} :
    Moves [.regs] s (State.setPhase s n) := by
  unfold State.setPhase
  all_goals (repeat' (first | with_reducible exact .refl | (with_reducible apply Moves.step State.setFld_moves; · decide) | dsimp -proj only | split))

theorem State.tryBank_moves {s : State} {bank : Nat} {trial : Bool} :
    Moves [.regs, .boot] s (State.tryBank s bank trial) := by
  unfold State.tryBank
  all_goals (repeat' (first | with_reducible exact .refl | (with_reducible apply Moves.step State.showBcb_moves; · decide) | (with_reducible apply Moves.step State.setPhase_moves; · decide) | dsimp -proj only | split | (with_reducible apply Moves.boot; (· decide); (· first | exact fun h => h | exact Tbl.wf_put _ _ _ _ | exact fun h => Tbl.wf_put _ _ _ _ (Tbl.wf_put _ _ _ _ h) | exact Tbl.wf_filter _ _ _ | exact fun _ => rfl | exact writeCellBytes_wf | exact writeBytes_wf | exact programBytes_wf))))

theorem State.chooseBank_moves {s : State} :
    Moves [.regs, .boot] s (State.chooseBank s) := by
  unfold State.chooseBank
  all_goals (repeat' (first | with_reducible exact .refl | (with_reducible apply Moves.step State.appendBcb_moves; · decide) | (with_reducible apply Moves.step State.tryBank_moves; · decide) | dsimp -proj only | split))

theorem execCollectorSelftestDone_moves {passed : Bool} {s : State} :
    Ends [.regs, .counters, .emitted, .freeCount, .chip, .fc, .buf, .pipes, .progs, .trestle, .egr, .via, .pierTx, .pwr, .boot] s (execCollectorSelftestDone passed s) := by
  unfold execCollectorSelftestDone
  all_goals (repeat' (first | with_reducible exact .refl | with_reducible apply Ends.next | (with_reducible apply Moves.step State.emit_moves; · decide) | (with_reducible apply Moves.step State.enterSafe_moves; · decide) | (with_reducible apply Moves.step State.chooseBank_moves; · decide) | dsimp -proj only | split | (with_reducible apply Moves.fc; · decide)))

theorem State.bootFails_moves {s : State} {part cause : Nat} :
    Moves [.regs, .boot] s (State.bootFails s part cause) := by
  unfold State.bootFails
  all_goals (repeat' (first | with_reducible exact .refl | (with_reducible apply Moves.step State.appendBcb_moves; · decide) | (with_reducible apply Moves.step State.showBcb_moves; · decide) | (with_reducible apply Moves.step State.setPhase_moves; · decide) | (with_reducible apply Moves.step State.tryBank_moves; · decide) | dsimp -proj only | split | (with_reducible apply Moves.boot; (· decide); (· first | exact fun h => h | exact Tbl.wf_put _ _ _ _ | exact fun h => Tbl.wf_put _ _ _ _ (Tbl.wf_put _ _ _ _ h) | exact Tbl.wf_filter _ _ _ | exact fun _ => rfl | exact writeCellBytes_wf | exact writeBytes_wf | exact programBytes_wf))))

theorem execBootVerifyDone_moves {unread : Option (Fin 7)} {s : State} :
    Ends [.regs, .boot] s (execBootVerifyDone unread s) := by
  unfold execBootVerifyDone
  all_goals (repeat' (first | with_reducible exact .refl | with_reducible apply Ends.next | (with_reducible apply Moves.step State.setPhase_moves; · decide) | (with_reducible apply Moves.step State.bootFails_moves; · decide) | dsimp -proj only | split | (with_reducible apply Moves.boot; (· decide); (· first | exact fun h => h | exact Tbl.wf_put _ _ _ _ | exact fun h => Tbl.wf_put _ _ _ _ (Tbl.wf_put _ _ _ _ h) | exact Tbl.wf_filter _ _ _ | exact fun _ => rfl | exact writeCellBytes_wf | exact writeBytes_wf | exact programBytes_wf))))

theorem execBootStartTimeout_moves {part : BitVec 4} {s : State} :
    Ends [.regs, .boot] s (execBootStartTimeout part s) := by
  unfold execBootStartTimeout
  all_goals (repeat' (first | with_reducible exact .refl | with_reducible apply Ends.next | (with_reducible apply Moves.step State.bootFails_moves; · decide) | dsimp -proj only | split))

theorem State.writeSetting_moves {s : State} {off : Nat} {value : Word} :
    Moves (.lanes :: .time :: reactParts) s (State.writeSetting s off value) := by
  unfold State.writeSetting
  dsimp -proj only
  split
  · exact .mono (by decide) State.writeCalibration_moves
  · split
    · obtain ⟨t, e, m⟩ := @execPortEnable_moves (Fin.ofNat 1024 ((off / 4 * 4 - 0x2000000) / 0x1000)) value s
      simp only [e]
      exact .mono (by decide) m
    · exact .mono (by decide) State.writePlain_moves

theorem State.applySettings_moves {s : State} {body : List Byte} :
    Moves (.lanes :: .time :: reactParts) s (State.applySettings s body) := by
  unfold State.applySettings
  all_goals (repeat' (first | with_reducible exact .refl | (with_reducible apply Moves.step State.writeSetting_moves; · decide) | with_reducible apply Moves.fold | with_reducible apply Moves.fold₁ | with_reducible intro _ _ | dsimp -proj only | split))

theorem State.useSettings_moves {s : State} :
    Moves (.lanes :: .time :: .boot :: reactParts) s (State.useSettings s) := by
  unfold State.useSettings
  all_goals (repeat' (first | with_reducible exact .refl | (with_reducible apply Moves.step State.setBit_moves; · decide) | (with_reducible apply Moves.step State.flashProgram_moves; · decide) | (with_reducible apply Moves.step State.flashErase_moves; · decide) | (with_reducible apply Moves.step State.applySettings_moves; · decide) | dsimp -proj only | split | (with_reducible apply Moves.boot; (· decide); (· first | exact fun h => h | exact Tbl.wf_put _ _ _ _ | exact fun h => Tbl.wf_put _ _ _ _ (Tbl.wf_put _ _ _ _ h) | exact Tbl.wf_filter _ _ _ | exact fun _ => rfl | exact writeCellBytes_wf | exact writeBytes_wf | exact programBytes_wf))))

theorem State.vendorLoaded_moves {s : State} {version : Nat} :
    Moves [.regs, .emitted] s (State.vendorLoaded s version) := by
  unfold State.vendorLoaded
  all_goals (repeat' (first | with_reducible exact .refl | (with_reducible apply Moves.step State.setReg_moves; · decide) | (with_reducible apply Moves.step State.setFld_moves; · decide) | (with_reducible apply Moves.step State.incSat_moves; · decide) | (with_reducible apply Moves.step State.irq_moves; · decide) | (with_reducible apply Moves.step State.setShadow_moves; · decide) | (with_reducible apply Moves.step State.loadStatus_moves; · decide) | dsimp -proj only | split))

theorem State.readbackFails_moves {s : State} {c : Span × Pass × PipeNo} :
    Moves reactParts s (State.readbackFails s c) := by
  unfold State.readbackFails
  all_goals (repeat' (first | with_reducible exact .refl | (with_reducible apply Moves.step State.latchFault_moves; · decide) | (with_reducible apply Moves.step State.setShadow_moves; · decide) | (with_reducible apply Moves.step State.loadFails_moves; · decide) | dsimp -proj only | split))

theorem State.loadVendor_moves {s : State} {badCopy : Option (Span × Pass × PipeNo)} :
    Moves reactParts s (State.loadVendor s badCopy).1 := by
  unfold State.loadVendor
  all_goals (repeat' (first | with_reducible exact .refl | (with_reducible apply Moves.step State.loadFails_moves; · decide) | (with_reducible apply Moves.step State.writeImage_moves; · decide) | (with_reducible apply Moves.step State.vendorLoaded_moves; · decide) | (with_reducible apply Moves.step State.readbackFails_moves; · decide) | dsimp -proj only | split | (with_reducible apply Moves.progs; · decide)))

theorem State.loadVendor_moves_eq {s : State} {badCopy : Option (Span × Pass × PipeNo)} {sEnd : State} {yEnd} (he : State.loadVendor s badCopy = (sEnd, yEnd)) : Moves reactParts s sEnd := by
  have := @State.loadVendor_moves s badCopy
  rw [he] at this
  exact this

theorem State.showOther_moves {s : State} :
    Moves [.regs] s (State.showOther s) := by
  unfold State.showOther
  all_goals (repeat' (first | with_reducible exact .refl | (with_reducible apply Moves.step State.setReg_moves; · decide) | dsimp -proj only | split))

theorem State.readyRecord_moves {s : State} :
    Moves [.boot] s (State.readyRecord s) := by
  unfold State.readyRecord
  all_goals (repeat' (first | with_reducible exact .refl | (with_reducible apply Moves.step State.appendBcb_moves; · decide) | dsimp -proj only | split))

theorem State.showRunning_moves {s : State} :
    Moves [.regs] s (State.showRunning s) := by
  unfold State.showRunning
  all_goals (repeat' (first | with_reducible exact .refl | (with_reducible apply Moves.step State.setReg_moves; · decide) | (with_reducible apply Moves.step State.setBit_moves; · decide) | dsimp -proj only | split))

theorem State.partsStarted_moves {s : State} :
    Moves [.boot] s (State.partsStarted s) := by
  unfold State.partsStarted
  all_goals (repeat' (first | with_reducible exact .refl | dsimp -proj only | split | (with_reducible apply Moves.boot; (· decide); (· first | exact fun h => h | exact Tbl.wf_put _ _ _ _ | exact fun h => Tbl.wf_put _ _ _ _ (Tbl.wf_put _ _ _ _ h) | exact Tbl.wf_filter _ _ _ | exact fun _ => rfl | exact writeCellBytes_wf | exact writeBytes_wf | exact programBytes_wf))))

theorem State.becomeReady_moves {s : State} :
    Moves (.lanes :: .time :: .hq :: .jrn :: .boot :: reactParts) s (State.becomeReady s) := by
  unfold State.becomeReady
  all_goals (repeat' (first | with_reducible exact .refl | (with_reducible apply Moves.step State.setFld_moves; · decide) | (with_reducible apply Moves.step State.journalRecovery_moves; · decide) | (with_reducible apply Moves.step State.schedulePoint_moves; · decide) | (with_reducible apply Moves.step State.showBcb_moves; · decide) | (with_reducible apply Moves.step State.setPhase_moves; · decide) | (with_reducible apply Moves.step State.useSettings_moves; · decide) | (with_reducible apply Moves.step State.showOther_moves; · decide) | (with_reducible apply Moves.step State.readyRecord_moves; · decide) | (with_reducible apply Moves.step State.showRunning_moves; · decide) | (with_reducible apply Moves.step State.partsStarted_moves; · decide) | dsimp -proj only | split))

theorem State.settingsStage_moves {s : State} :
    Moves (.lanes :: .time :: .hq :: .jrn :: .boot :: reactParts) s (State.settingsStage s) := by
  unfold State.settingsStage
  all_goals (repeat' (first | with_reducible exact .refl | (with_reducible apply Moves.step State.bootFails_moves; · decide) | (with_reducible apply Moves.step State.becomeReady_moves; · decide) | dsimp -proj only | split))

theorem execBootReady_moves {badCopy : Option (Span × Pass × PipeNo)} {settings : Bool} {s : State} :
    Ends (.lanes :: .time :: .hq :: .jrn :: .boot :: reactParts) s (execBootReady badCopy settings s) := by
  unfold execBootReady
  all_goals (repeat' (first | with_reducible exact .refl | with_reducible apply Ends.next | (with_reducible apply Moves.step State.setPhase_moves; · decide) | (with_reducible apply Moves.step State.loadVendor_moves; · decide) | (with_reducible apply Moves.step (State.loadVendor_moves_eq (by assumption)); · decide) | (with_reducible apply Moves.step State.settingsStage_moves; · decide) | dsimp -proj only | split))

theorem State.loaderMgmt_moves {s : State} {n : Nat} {payload : List Byte} :
    Moves [.emitted, .freeCount, .pierTx, .boot] s (State.loaderMgmt s n payload) := by
  unfold State.loaderMgmt
  all_goals (repeat' (first | with_reducible exact .refl | (with_reducible apply Moves.step State.pierSend_moves; · decide) | (with_reducible apply Moves.step State.flashProgram_moves; · decide) | with_reducible apply Moves.fold | with_reducible apply Moves.fold₁ | with_reducible intro _ _ | dsimp -proj only | split | (with_reducible apply Moves.freeCount; · decide)))

theorem execMgmt_moves {n : Four} {payload : List Byte} {s : State} :
    Ends [.emitted, .freeCount, .pierTx, .ks, .boot] s (execMgmt n payload s) := by
  unfold execMgmt
  all_goals (repeat' (first | with_reducible exact .refl | with_reducible apply Ends.next | (with_reducible apply Moves.step State.loaderMgmt_moves; · decide) | dsimp -proj only | split | (with_reducible apply Moves.ks; · decide)))

theorem State.gotoRefused_moves {s : State} {cause : Nat} :
    Moves [.regs] s (State.gotoRefused s cause) := by
  unfold State.gotoRefused
  all_goals (repeat' (first | with_reducible exact .refl | (with_reducible apply Moves.step State.setFld_moves; · decide) | (with_reducible apply Moves.step State.setBit_moves; · decide) | dsimp -proj only | split))

theorem State.goto_moves {s : State} {target : DevState} :
    Moves (.tel :: .cmp :: reactParts) s (State.goto s target) := by
  unfold State.goto
  all_goals (repeat' (first | with_reducible exact .refl | (with_reducible apply Moves.step State.setBit_moves; · decide) | (with_reducible apply Moves.step State.settlePins_moves; · decide) | (with_reducible apply Moves.step State.releaseTraffic_moves; · decide) | (with_reducible apply Moves.step State.gotoRefused_moves; · decide) | dsimp -proj only | split | (with_reducible apply Moves.chip; · decide)))

theorem execGotoService_moves {s : State} :
    Ends (.tel :: .cmp :: reactParts) s (execGotoService s) := by
  unfold execGotoService
  all_goals (repeat' (first | with_reducible exact .refl | with_reducible apply Ends.next | (with_reducible apply Moves.step State.goto_moves; · decide) | dsimp -proj only | split))

theorem execGotoTest_moves {s : State} :
    Ends (.tel :: .cmp :: reactParts) s (execGotoTest s) := by
  unfold execGotoTest
  all_goals (repeat' (first | with_reducible exact .refl | with_reducible apply Ends.next | (with_reducible apply Moves.step State.goto_moves; · decide) | dsimp -proj only | split))

end Sys2Proof.Machine
end

