-- ==== Sys2Proof/Laws/Moves/Guard.lean ====
section
/-! SUPPORT. What each operation of Machine/Guard.lean can touch, and that it keeps the stores canonical. -/

namespace Sys2Proof.Machine

theorem State.guEnd_moves {s : State} {u st cause : Nat} :
    Moves [.regs] s (State.guEnd s u st cause) := by
  unfold State.guEnd
  all_goals (repeat' (first | with_reducible exact .refl | (with_reducible apply Moves.step State.setReg_moves; · decide) | dsimp -proj only | split))

theorem State.guDone_moves {s : State} {u : Nat} {data : List Byte} :
    Moves [.regs] s (State.guDone s u data) := by
  unfold State.guDone
  all_goals (repeat' (first | with_reducible exact .refl | (with_reducible apply Moves.step State.setReg_moves; · decide) | (with_reducible apply Moves.step State.guEnd_moves; · decide) | dsimp -proj only | split))

theorem State.guStart_moves {s : State} {u : Nat} {firmware : Bool} :
    Moves [.regs, .ks] s (State.guStart s u firmware) := by
  unfold State.guStart
  all_goals (repeat' (first | with_reducible exact .refl | (with_reducible apply Moves.step State.guEnd_moves; · decide) | dsimp -proj only | split | (with_reducible apply Moves.ks; · decide)))

theorem State.guFirmware_moves {s : State} {u : Nat} {ws : List (Fin 16 × Word)} {start : Bool} :
    Moves (.ks :: reactParts) s (State.guFirmware s u ws start) := by
  unfold State.guFirmware
  all_goals (repeat' (first | with_reducible exact .refl | (with_reducible apply Moves.step State.writeOrdinary_moves; · decide) | (with_reducible apply Moves.step State.guStart_moves; · decide) | with_reducible apply Moves.fold | with_reducible apply Moves.fold₁ | with_reducible intro _ _ | dsimp -proj only | split))

theorem execGuScanStart_moves {u : Fin 16} {value : Word} {firmware : Option (List (Fin 16 × Word))} {s : State} :
    Ends (.ks :: reactParts) s (execGuScanStart u value firmware s) := by
  unfold execGuScanStart
  all_goals (repeat' (first | with_reducible exact .refl | with_reducible apply Ends.next | (with_reducible apply Moves.step State.refusedWrite_moves; · decide) | (with_reducible apply Moves.step State.guStart_moves; · decide) | (with_reducible apply Moves.step State.guFirmware_moves; · decide) | dsimp -proj only | split))

theorem execGuScanAbort_moves {u : Fin 16} {value : Word} {firmware : Bool} {s : State} :
    Ends reactParts s (execGuScanAbort u value firmware s) := by
  unfold execGuScanAbort
  all_goals (repeat' (first | with_reducible exact .refl | with_reducible apply Ends.next | (with_reducible apply Moves.step State.refusedWrite_moves; · decide) | (with_reducible apply Moves.step State.guEnd_moves; · decide) | dsimp -proj only | split))

theorem execGuScanDone_moves {u : Fin 16} {data : Option (List Byte)} {s : State} :
    Ends [.regs] s (execGuScanDone u data s) := by
  unfold execGuScanDone
  all_goals (repeat' (first | with_reducible exact .refl | with_reducible apply Ends.next | (with_reducible apply Moves.step State.dmaErr_moves; · decide) | (with_reducible apply Moves.step State.guEnd_moves; · decide) | (with_reducible apply Moves.step State.guDone_moves; · decide) | dsimp -proj only | split))

end Sys2Proof.Machine
end

