-- ==== Sys2Proof/Laws/Moves/TableService.lean ====
section
/-! SUPPORT. What each operation of Machine/TableService.lean can touch, and that it keeps the stores canonical. -/

namespace Sys2Proof.Machine

/-- A request of the table service, when it is granted, ends in a state that an operation may reach. -/
def Granted (ps : List StatePart) (s : State) (r : TableResult) : Prop := ∀ t, r = .ok t → Moves ps s t

theorem Granted.ok {ps : List StatePart} {s t : State} (h : Moves ps s t) : Granted ps s (.ok t) := by
  intro u hu
  cases hu
  exact h

theorem Granted.fail {ps : List StatePart} {s : State} {d : Nat} : Granted ps s (.fail d) := by
  intro u hu
  cases hu

theorem Granted.step {ps qs : List StatePart} {s : State} {r : TableResult} (h : Granted qs s r) (hs : qs ⊆ ps) :
    Granted ps s r := fun t ht => (h t ht).mono hs

theorem State.rowAll_moves {s : State} {unit row v : Nat} :
    Moves [.tables] s (State.rowAll s unit row v) := by
  unfold State.rowAll
  all_goals (repeat' (first | with_reducible exact .refl | (with_reducible apply Moves.step State.setSram_moves; · decide) | with_reducible apply Moves.fold | with_reducible apply Moves.fold₁ | with_reducible intro _ _ | dsimp -proj only | split))

theorem State.fieldAll_moves {s : State} {unit row lo width v : Nat} :
    Moves [.tables] s (State.fieldAll s unit row lo width v) := by
  unfold State.fieldAll
  all_goals (repeat' (first | with_reducible exact .refl | (with_reducible apply Moves.step State.setSram_moves; · decide) | with_reducible apply Moves.fold | with_reducible apply Moves.fold₁ | with_reducible intro _ _ | dsimp -proj only | split))

theorem State.writeSlot_moves {s : State} {slot : Nat × Nat} {rows : List Nat} :
    Moves [.tables] s (State.writeSlot s slot rows) := by
  unfold State.writeSlot
  all_goals (repeat' (first | with_reducible exact .refl | (with_reducible apply Moves.step State.rowAll_moves; · decide) | with_reducible apply Moves.fold | with_reducible apply Moves.fold₁ | with_reducible intro _ _ | dsimp -proj only | split))

theorem State.moveEntry_moves {s : State} {g : Geometry} {src dst : Nat × Nat} :
    Moves [.tables] s (State.moveEntry s g src dst) := by
  unfold State.moveEntry
  all_goals (repeat' (first | with_reducible exact .refl | (with_reducible apply Moves.step State.setSram_moves; · decide) | (with_reducible apply Moves.step State.fieldAll_moves; · decide) | with_reducible apply Moves.fold | with_reducible apply Moves.fold₁ | with_reducible intro _ _ | dsimp -proj only | split))

theorem State.cuckooMoves_moves {s : State} {g : Geometry} {l : List (Nat × Nat)} :
    Moves [.tables] s (State.cuckooMoves s g l).1 := by
  induction l generalizing s with
  | nil => exact .refl
  | cons x l ih =>
    cases l with
    | nil => exact .refl
    | cons y l => exact .trans (.mono (by decide) State.moveEntry_moves) ih

theorem State.cuckooMoves_moves_eq {s : State} {g : Geometry} {l : List (Nat × Nat)} {t} {x}
    (h : State.cuckooMoves s g l = (t, x)) : Moves [.tables] s t := by
  have := @State.cuckooMoves_moves s g l
  rw [h] at this
  exact this

theorem State.insertExact_moves {s : State} {t : Nat} {g : Geometry} {a : TableArgs} {x : EntryRecord} :
    Granted [.tables] s (State.insertExact s t g a x) := by
  unfold State.insertExact
  all_goals (repeat' (first | with_reducible exact .refl | with_reducible exact .fail | with_reducible apply Granted.ok | (with_reducible apply Moves.step State.writeSlot_moves; · decide) | (with_reducible apply Moves.step State.cuckooMoves_moves; · decide) | (with_reducible apply Moves.step (State.cuckooMoves_moves_eq (by assumption)); · decide) | dsimp -proj only | split))

theorem State.setRoot_moves {s : State} {g : Geometry} {i b : Nat} :
    Moves [.tables] s (State.setRoot s g i b) := by
  unfold State.setRoot
  all_goals (repeat' (first | with_reducible exact .refl | (with_reducible apply Moves.step State.fieldAll_moves; · decide) | dsimp -proj only | split))

theorem State.writeLpm_moves {s : State} {g : Geometry} {x : LpmSlot} {ctl lw0 lw1 : Nat} {p : LpmPrefix} :
    Moves [.tables] s (State.writeLpm s g x ctl lw0 lw1 p) := by
  unfold State.writeLpm
  all_goals (repeat' (first | with_reducible exact .refl | (with_reducible apply Moves.step State.fieldAll_moves; · decide) | dsimp -proj only | split))

theorem State.clearBucket_moves {s : State} {g : Geometry} {b : Nat} :
    Moves [.tables] s (State.clearBucket s g b) := by
  unfold State.clearBucket
  all_goals (repeat' (first | with_reducible exact .refl | (with_reducible apply Moves.step State.fieldAll_moves; · decide) | with_reducible apply Moves.fold | with_reducible apply Moves.fold₁ | with_reducible intro _ _ | dsimp -proj only | split))

theorem State.splitBucket_moves {s t : State} {g : Geometry} {b : Nat} (h : s.splitBucket g b = some t) :
    Moves [.tables] s t := by
  unfold State.splitBucket at h
  dsimp only at h
  repeat' (split at h)
  all_goals first | cases h | skip
  all_goals repeat' (first | with_reducible exact .refl | (with_reducible apply Moves.step State.fieldAll_moves; · decide) | (with_reducible apply Moves.step State.setRoot_moves; · decide) | (with_reducible apply Moves.step State.clearBucket_moves; · decide) | with_reducible apply Moves.fold | with_reducible apply Moves.fold₁ | with_reducible intro _ _ | dsimp -proj only | split)

theorem State.addPrefix_moves {s t : State} {g : Geometry} {p : LpmPrefix} {ctl lw0 lw1 i n : Nat}
    (h : s.addPrefix g p ctl lw0 lw1 i n = some t) : Moves [.tables] s t := by
  induction n generalizing s with
  | zero => cases h
  | succ n ih =>
    simp only [State.addPrefix] at h
    repeat' (split at h)
    all_goals first | cases h | skip
    all_goals repeat' (first | with_reducible exact .refl | exact ih h | (refine .trans ?_ (ih h)) | (exact .mono (by decide) (State.splitBucket_moves ‹_›)) | first | with_reducible exact .refl | (with_reducible apply Moves.step State.setRoot_moves; · decide) | (with_reducible apply Moves.step State.writeLpm_moves; · decide) | (with_reducible apply Moves.step State.clearBucket_moves; · decide) | (with_reducible apply Moves.step (State.splitBucket_moves (by assumption)); · decide) | with_reducible apply Moves.fold | with_reducible apply Moves.fold₁ | with_reducible intro _ _ | dsimp -proj only | split)

theorem State.addPrefixes_moves {g : Geometry} {p : LpmPrefix} {ctl lw0 lw1 n : Nat} {l : List Nat} {s t : State}
    (h : l.foldl (fun (acc : Option State) i => acc.bind (fun s => s.addPrefix g p ctl lw0 lw1 i n)) (some s) = some t) :
    Moves [.tables] s t := by
  induction l generalizing s with
  | nil => cases h; exact .refl
  | cons i l ih =>
    simp only [List.foldl_cons, Option.bind_some] at h
    cases e : s.addPrefix g p ctl lw0 lw1 i n with
    | none =>
      rw [e] at h
      exfalso
      clear ih e
      induction l with
      | nil => cases h
      | cons j l ih => exact ih h
    | some u =>
      rw [e] at h
      exact .trans (State.addPrefix_moves e) (ih h)

theorem State.insertLpm_moves {s : State} {g : Geometry} {a : TableArgs} {x : EntryRecord} {p : LpmPrefix} :
    Granted [.tables] s (State.insertLpm s g a x p) := by
  unfold State.insertLpm
  split
  · exact .fail
  · split
    · exact .ok (State.addPrefixes_moves ‹_›)
    · exact .fail

theorem State.setTernary_moves {s : State} {g : Geometry} {i r v m : Nat} :
    Moves [.tables] s (State.setTernary s g i r v m) := by
  unfold State.setTernary
  all_goals (repeat' (first | with_reducible exact .refl | (with_reducible apply Moves.step State.setTcam_moves; · decide) | with_reducible apply Moves.fold | with_reducible apply Moves.fold₁ | with_reducible intro _ _ | dsimp -proj only | split))

theorem State.insertTernary_moves {s : State} {g : Geometry} {a : TableArgs} {x : EntryRecord} {v m : Nat} :
    Granted [.tables] s (State.insertTernary s g a x v m) := by
  unfold State.insertTernary
  all_goals (repeat' (first | with_reducible exact .refl | with_reducible exact .fail | with_reducible apply Granted.ok | (with_reducible apply Moves.step State.rowAll_moves; · decide) | (with_reducible apply Moves.step State.setTernary_moves; · decide) | with_reducible apply Moves.fold | with_reducible apply Moves.fold₁ | with_reducible intro _ _ | dsimp -proj only | split))

theorem State.setIndexed_moves {s : State} {g : Geometry} {a : TableArgs} {row : Nat} :
    Moves [.tables] s (State.setIndexed s g a row) := by
  unfold State.setIndexed
  all_goals (repeat' (first | with_reducible exact .refl | (with_reducible apply Moves.step State.setSram_moves; · decide) | (with_reducible apply Moves.step State.rowAll_moves; · decide) | dsimp -proj only | split))

theorem State.guardShadow_moves {ps : List StatePart} {s : State} {g : Geometry} {a : TableArgs} {y : TableResult}
    (hy : Granted ps s y) : Granted ps s (State.guardShadow s g a y) := by
  unfold State.guardShadow
  split
  · split
    · exact .fail
    · exact hy
  · exact .fail

theorem State.tableInsert_moves {s : State} {t : Nat} {g : Geometry} {a : TableArgs} {x : EntryRecord} :
    Granted [.tables] s (State.tableInsert s t g a x) := by
  unfold State.tableInsert
  all_goals (repeat' (first | with_reducible exact .refl | with_reducible exact .fail | with_reducible apply Granted.ok | (with_reducible apply Moves.step State.setRule_moves; · decide) | (with_reducible apply Granted.step State.insertExact_moves; (· decide)) | (with_reducible apply Granted.step State.insertLpm_moves; (· decide)) | (with_reducible apply Granted.step State.insertTernary_moves; (· decide)) | (with_reducible apply Moves.step State.setIndexed_moves; · decide) | (with_reducible apply State.guardShadow_moves) | with_reducible apply Moves.fold | with_reducible apply Moves.fold₁ | with_reducible intro _ _ | dsimp -proj only | split))

theorem State.clearV_moves {s : State} {a : TableArgs} {es : List EntryPlace} :
    Moves [.tables] s (State.clearV s a es) := by
  unfold State.clearV
  all_goals (repeat' (first | with_reducible exact .refl | (with_reducible apply Moves.step State.setPlaceCtl_moves; · decide) | with_reducible apply Moves.fold | with_reducible apply Moves.fold₁ | with_reducible intro _ _ | dsimp -proj only | split))

theorem State.tableDelete_moves {s : State} {t : Nat} {g : Geometry} {a : TableArgs} {x : EntryRecord} :
    Granted [.tables] s (State.tableDelete s t g a x) := by
  unfold State.tableDelete
  all_goals (repeat' (first | with_reducible exact .refl | with_reducible exact .fail | with_reducible apply Granted.ok | (with_reducible apply Moves.step State.setRule_moves; · decide) | (with_reducible apply Moves.step State.clearV_moves; · decide) | with_reducible apply Moves.fold | with_reducible apply Moves.fold₁ | with_reducible intro _ _ | dsimp -proj only | split))

theorem State.tableModify_moves {s : State} {t : Nat} {g : Geometry} {a : TableArgs} {x : EntryRecord} :
    Granted [.tables] s (State.tableModify s t g a x) := by
  unfold State.tableModify
  all_goals (repeat' (first | with_reducible exact .refl | with_reducible exact .fail | with_reducible apply Granted.ok | (with_reducible apply Moves.step State.setRule_moves; · decide) | (with_reducible apply Moves.step State.fieldAll_moves; · decide) | (with_reducible apply Moves.step State.setIndexed_moves; · decide) | with_reducible apply Moves.fold | with_reducible apply Moves.fold₁ | with_reducible intro _ _ | dsimp -proj only | split))

theorem State.tableReadBack_moves {s : State} {t : Nat} {g : Geometry} {a : TableArgs} {x : EntryRecord} :
    Granted [.hostMem] s (State.tableReadBack s t g a x) := by
  unfold State.tableReadBack
  all_goals (repeat' (first | with_reducible exact .refl | with_reducible exact .fail | with_reducible apply Granted.ok | (with_reducible apply Moves.step State.hostWrite_moves; · decide) | dsimp -proj only | split))

theorem State.tableEffect_moves {s : State} {fn t : Nat} {g : Geometry} {a : TableArgs} {x : EntryRecord} :
    Granted [.hostMem, .tables] s (State.tableEffect s fn t g a x) := by
  unfold State.tableEffect
  split
  · exact .step State.tableInsert_moves (by decide)
  · exact .step State.tableDelete_moves (by decide)
  · exact .step State.tableModify_moves (by decide)
  · exact .step State.tableReadBack_moves (by decide)

theorem State.tableResult_moves {s : State} {fn : Nat} {a : TableArgs} {x : EntryRecord} :
    Granted [.hostMem, .tables] s (State.tableResult s fn a x) := by
  unfold State.tableResult
  all_goals (repeat' (first | with_reducible exact .refl | with_reducible exact .fail | with_reducible apply Granted.ok | (with_reducible apply Granted.step State.tableEffect_moves; (· decide)) | dsimp -proj only | split))


theorem State.tableState_moves {ps : List StatePart} {s : State} {y : TableResult} (hy : Granted ps s y) :
    Moves ps s (s.tableState y) := by
  cases y with
  | ok t => exact hy t rfl
  | fail d => exact .refl

theorem State.finishTable_moves {ps : List StatePart} {s : State} {span r : Nat} {y : TableResult} (hs : (.hq :: .jrn :: reactParts) ⊆ ps)
    (hy : Granted ps s y) : Moves ps s (State.finishTable s span r y) :=
  .trans (State.tableState_moves hy)
    (.mono hs (.step State.finishCall_moves (by decide) (.mono (by decide) State.count_moves)))

theorem State.tableRun_moves {s : State} {r fn : Nat} {c : Call} {b : List Byte} :
    Moves (.hostMem :: .tables :: .hq :: .jrn :: reactParts) s (State.tableRun s r fn c b) := by
  unfold State.tableRun
  all_goals (repeat' (first | with_reducible exact .refl | (with_reducible apply Moves.step State.finishCall_moves; · decide) | (with_reducible apply Moves.step State.queueRequest_moves; · decide) | (with_reducible apply Granted.step State.tableResult_moves; (· decide)) | (with_reducible refine State.finishTable_moves (by decide) (Granted.step State.tableResult_moves (by decide))) | dsimp -proj only | split))

theorem State.tableRequest_moves {s : State} {r fn : Nat} {c : Call} {record : Option (List Byte)} :
    Moves (.hostMem :: .tables :: .hq :: .jrn :: reactParts) s (State.tableRequest s r fn c record) := by
  unfold State.tableRequest
  all_goals (repeat' (first | with_reducible exact .refl | (with_reducible apply Moves.step State.dmaErr_moves; · decide) | (with_reducible apply Moves.step State.finishCall_moves; · decide) | (with_reducible apply Moves.step State.tableRun_moves; · decide) | dsimp -proj only | split))

theorem State.haltTable_moves {s : State} {x : Trestle} {fn : Nat} {body b : List Byte} {result : Nat} :
    Moves (.hostMem :: .tables :: .hq :: .jrn :: reactParts) s (State.haltTable s x fn body b result) := by
  unfold State.haltTable
  all_goals (repeat' (first | with_reducible exact .refl | (with_reducible apply Moves.step State.finishOwner_moves; · decide) | (with_reducible apply Granted.step State.tableResult_moves; (· decide)) | (with_reducible refine Moves.trans ?_ (State.tableState_moves (Granted.step State.tableResult_moves (by decide)))) | dsimp -proj only | split))

theorem execTrestleHalt_moves {span : Span} {result : Byte} {s : State} :
    Ends (.hostMem :: .tables :: .hq :: .jrn :: reactParts) s (execTrestleHalt span result s) := by
  unfold execTrestleHalt
  all_goals (repeat' (first | with_reducible exact .refl | with_reducible apply Ends.next | (with_reducible apply Moves.step State.count_moves; · decide) | (with_reducible apply Moves.step State.setEngine_moves; · decide) | (with_reducible apply Moves.step State.finishOwner_moves; · decide) | (with_reducible apply Moves.step State.agingEntries_moves; · decide) | (with_reducible apply Moves.step State.haltTable_moves; · decide) | dsimp -proj only | split))

theorem execTableInsert_moves {r : Ring} {record : Option (List Byte)} {s : State} :
    Ends (.hostMem :: .tables :: .hq :: .jrn :: reactParts) s (execTableInsert r record s) := by
  unfold execTableInsert
  all_goals (repeat' (first | with_reducible exact .refl | with_reducible apply Ends.next | (with_reducible apply State.runCall_moves; (· decide); intro _) | (with_reducible apply Moves.step State.tableRequest_moves; · decide) | dsimp -proj only | split))

theorem execTableDelete_moves {r : Ring} {record : Option (List Byte)} {s : State} :
    Ends (.hostMem :: .tables :: .hq :: .jrn :: reactParts) s (execTableDelete r record s) := by
  unfold execTableDelete
  all_goals (repeat' (first | with_reducible exact .refl | with_reducible apply Ends.next | (with_reducible apply State.runCall_moves; (· decide); intro _) | (with_reducible apply Moves.step State.tableRequest_moves; · decide) | dsimp -proj only | split))

theorem execTableModify_moves {r : Ring} {record : Option (List Byte)} {s : State} :
    Ends (.hostMem :: .tables :: .hq :: .jrn :: reactParts) s (execTableModify r record s) := by
  unfold execTableModify
  all_goals (repeat' (first | with_reducible exact .refl | with_reducible apply Ends.next | (with_reducible apply State.runCall_moves; (· decide); intro _) | (with_reducible apply Moves.step State.tableRequest_moves; · decide) | dsimp -proj only | split))

theorem execTableRead_moves {r : Ring} {record : Option (List Byte)} {s : State} :
    Ends (.hostMem :: .tables :: .hq :: .jrn :: reactParts) s (execTableRead r record s) := by
  unfold execTableRead
  all_goals (repeat' (first | with_reducible exact .refl | with_reducible apply Ends.next | (with_reducible apply State.runCall_moves; (· decide); intro _) | (with_reducible apply Moves.step State.tableRequest_moves; · decide) | dsimp -proj only | split))

theorem State.tableSetAge_moves {s : State} {r : Nat} {c : Call} :
    Moves (.tables :: .hq :: .jrn :: reactParts) s (State.tableSetAge s r c) := by
  unfold State.tableSetAge
  all_goals (repeat' (first | with_reducible exact .refl | (with_reducible apply Moves.step State.finishCall_moves; · decide) | dsimp -proj only | split | (with_reducible apply Moves.tables; · decide)))

theorem execTableSetAge_moves {r : Ring} {s : State} :
    Ends (.tables :: .hq :: .jrn :: reactParts) s (execTableSetAge r s) := by
  unfold execTableSetAge
  all_goals (repeat' (first | with_reducible exact .refl | with_reducible apply Ends.next | (with_reducible apply State.runCall_moves; (· decide); intro _) | (with_reducible apply Moves.step State.tableSetAge_moves; · decide) | dsimp -proj only | split))

end Sys2Proof.Machine
end

