-- ==== Sys2Proof/Laws/Moves/Tick.lean ====
section
/-! SUPPORT. What each operation of Machine/Tick.lean can touch, and that it keeps the stores canonical. -/

namespace Sys2Proof.Machine

theorem State.countThresholds_moves {s : State} {clocks : Nat} :
    Moves [.counters] s (State.countThresholds s clocks) := by
  unfold State.countThresholds
  all_goals (repeat' (first | with_reducible exact .refl | (with_reducible apply Moves.step State.count_moves; · decide) | with_reducible apply Moves.fold | with_reducible apply Moves.fold₁ | with_reducible intro _ _ | dsimp -proj only | split))

theorem State.addEnergy_moves {s : State} :
    Moves [.freeCount, .pwr] s (State.addEnergy s) := by
  unfold State.addEnergy
  all_goals (repeat' (first | with_reducible exact .refl | dsimp -proj only | split | (with_reducible apply Moves.freeCount; · decide) | (with_reducible apply Moves.pwr; · decide) | (with_reducible apply Moves.upd; with_reducible rfl; (all_goals first | exact .inl (by with_reducible rfl) | exact .inr (by decide) | exact .inr ⟨by decide, by first | exact fun h => h | exact Tbl.wf_put _ _ _ _ | exact fun h => Tbl.wf_put _ _ _ _ (Tbl.wf_put _ _ _ _ h) | exact Tbl.wf_filter _ _ _ | exact fun _ => rfl | exact writeCellBytes_wf | exact writeBytes_wf | exact programBytes_wf⟩ | skip))))

theorem State.starve_moves {s : State} {span : Nat} {pass : Pass} {pipe clocks : Nat} :
    Moves [.counters, .pipes] s (State.starve s span pass pipe clocks) := by
  unfold State.starve
  all_goals (repeat' (first | with_reducible exact .refl | (with_reducible apply Moves.step State.count_moves; · decide) | (with_reducible apply Moves.step State.setPipe_moves; · decide) | dsimp -proj only | split))

theorem State.countStarved_moves {s : State} {die clocks : Nat} :
    Moves [.counters, .pipes] s (State.countStarved s die clocks) := by
  unfold State.countStarved
  all_goals (repeat' (first | with_reducible exact .refl | (with_reducible apply Moves.step State.starve_moves; · decide) | with_reducible apply Moves.fold | with_reducible apply Moves.fold₁ | with_reducible intro _ _ | dsimp -proj only | split))

theorem State.cycle_moves {s : State} :
    Moves (.time :: reactParts) s (State.cycle s) := by
  unfold State.cycle
  all_goals (repeat' (first | with_reducible exact .refl | (with_reducible apply Moves.step State.voteBases_moves; · decide) | (with_reducible apply Moves.step tick_moves; · decide) | (with_reducible apply Moves.step State.countStopped_moves; · decide) | (with_reducible apply Moves.step State.countThresholds_moves; · decide) | (with_reducible apply Moves.step State.addEnergy_moves; · decide) | (with_reducible apply Moves.step State.countStarved_moves; · decide) | dsimp -proj only | split))

theorem State.idle_moves {s : State} :
    Moves (.time :: reactParts) s (State.idle s) := by
  unfold State.idle
  all_goals (repeat' (first | with_reducible exact .refl | (with_reducible apply Moves.step State.cycle_moves; · decide) | dsimp -proj only | split))

end Sys2Proof.Machine
end

