-- ==== Sys2Proof/Laws/Registers.lean ====
section
/-! SUPPORT. What a read of a register, a field or a bit finds after a write of a register, a field or a bit. -/

namespace Sys2Proof.Machine

/-! ### Fields of a word -/

theorem getBits_lt (w : Word) (hi lo : Nat) : getBits w hi lo < 2 ^ (hi - lo + 1) :=
  Nat.mod_lt _ (Nat.two_pow_pos _)

theorem getBits_le_toNat (w : Word) (hi lo : Nat) : getBits w hi lo * 2 ^ lo ≤ w.toNat := by
  unfold getBits
  calc w.toNat / 2 ^ lo % 2 ^ (hi - lo + 1) * 2 ^ lo ≤ w.toNat / 2 ^ lo * 2 ^ lo :=
        Nat.mul_le_mul_right _ (Nat.mod_le _ _)
    _ ≤ w.toNat := Nat.div_mul_le_self _ _

/-- A word is what lies above a field, the field, and what lies below it. -/
theorem word_split (n hi lo : Nat) :
    n = n / 2 ^ (lo + (hi - lo + 1)) * 2 ^ (lo + (hi - lo + 1)) + n / 2 ^ lo % 2 ^ (hi - lo + 1) * 2 ^ lo + n % 2 ^ lo := by
  have h1 := Nat.div_add_mod n (2 ^ lo)
  have h2 := Nat.div_add_mod (n / 2 ^ lo) (2 ^ (hi - lo + 1))
  rw [Nat.div_div_eq_div_mul, ← Nat.pow_add] at h2
  calc n = 2 ^ lo * (2 ^ (hi - lo + 1) * (n / 2 ^ (lo + (hi - lo + 1))) + n / 2 ^ lo % 2 ^ (hi - lo + 1)) + n % 2 ^ lo := by
        rw [h2, h1]
    _ = _ := by rw [Nat.pow_add 2 lo (hi - lo + 1)]; ring

/-- The number that a word holds after a field is replaced. -/
theorem toNat_setBits (w : Word) (hi lo v : Nat) (h : lo ≤ hi) (hw : hi < 32) :
    (setBits w hi lo v).toNat = w.toNat - getBits w hi lo * 2 ^ lo + v % 2 ^ (hi - lo + 1) * 2 ^ lo := by
  have hv : v % 2 ^ (hi - lo + 1) < 2 ^ (hi - lo + 1) := Nat.mod_lt _ (Nat.two_pow_pos _)
  have hs := word_split w.toNat hi lo
  have hlt := w.isLt
  unfold setBits getBits
  rw [BitVec.toNat_ofNat]
  apply Nat.mod_eq_of_lt
  have hp : (2 : Nat) ^ 32 = 2 ^ (lo + (hi - lo + 1)) * 2 ^ (31 - hi) := by
    rw [← Nat.pow_add]; congr 1; omega
  have hm : w.toNat % 2 ^ lo < 2 ^ lo := Nat.mod_lt _ (Nat.two_pow_pos _)
  have hq : w.toNat / 2 ^ (lo + (hi - lo + 1)) < 2 ^ (31 - hi) := by
    apply Nat.div_lt_of_lt_mul
    rw [← hp]; exact hlt
  have hk : (w.toNat / 2 ^ (lo + (hi - lo + 1)) + 1) * 2 ^ (lo + (hi - lo + 1)) ≤ 2 ^ 32 := by
    rw [hp, Nat.mul_comm (2 ^ (lo + (hi - lo + 1)))]
    exact Nat.mul_le_mul_right _ hq
  have he : 2 ^ (lo + (hi - lo + 1)) = 2 ^ (hi - lo + 1) * 2 ^ lo := by rw [← Nat.pow_add]; congr 1; omega
  have hvm : v % 2 ^ (hi - lo + 1) * 2 ^ lo + 2 ^ lo ≤ 2 ^ (hi - lo + 1) * 2 ^ lo := by
    have := Nat.mul_le_mul_right (2 ^ lo) (Nat.succ_le_of_lt hv)
    rw [Nat.succ_mul] at this; exact this
  rw [Nat.add_mul, Nat.one_mul] at hk
  omega

/-- A field reads as it was written. -/
theorem getBits_setBits_same (w : Word) (hi lo v : Nat) (h : lo ≤ hi) (hw : hi < 32) :
    getBits (setBits w hi lo v) hi lo = v % 2 ^ (hi - lo + 1) := by
  have ht := toNat_setBits w hi lo v h hw
  have hs := word_split w.toNat hi lo
  have hm : w.toNat % 2 ^ lo < 2 ^ lo := Nat.mod_lt _ (Nat.two_pow_pos _)
  have hv : v % 2 ^ (hi - lo + 1) < 2 ^ (hi - lo + 1) := Nat.mod_lt _ (Nat.two_pow_pos _)
  unfold getBits at ht ⊢
  have he : 2 ^ (lo + (hi - lo + 1)) = 2 ^ lo * 2 ^ (hi - lo + 1) := Nat.pow_add _ _ _
  have : (setBits w hi lo v).toNat
      = 2 ^ lo * (v % 2 ^ (hi - lo + 1) + 2 ^ (hi - lo + 1) * (w.toNat / 2 ^ (lo + (hi - lo + 1)))) + w.toNat % 2 ^ lo := by
    have e1 : (setBits w hi lo v).toNat = w.toNat / 2 ^ (lo + (hi - lo + 1)) * 2 ^ (lo + (hi - lo + 1))
        + v % 2 ^ (hi - lo + 1) * 2 ^ lo + w.toNat % 2 ^ lo := by omega
    rw [e1, he]
    ring
  rw [this, Nat.mul_add_div (Nat.two_pow_pos _), Nat.div_eq_of_lt hm, Nat.add_zero, Nat.add_mul_mod_self_left,
    Nat.mod_mod]

/-- Another field of the word is left as it was. -/
theorem getBits_setBits_ne (w : Word) (hi lo v hi' lo' : Nat) (h : lo ≤ hi) (hw : hi < 32) (h' : lo' ≤ hi')
    (hd : hi < lo' ∨ hi' < lo) : getBits (setBits w hi lo v) hi' lo' = getBits w hi' lo' := by
  have ht := toNat_setBits w hi lo v h hw
  have hs := word_split w.toNat hi lo
  have hm : w.toNat % 2 ^ lo < 2 ^ lo := Nat.mod_lt _ (Nat.two_pow_pos _)
  have hv : v % 2 ^ (hi - lo + 1) < 2 ^ (hi - lo + 1) := Nat.mod_lt _ (Nat.two_pow_pos _)
  have hg : w.toNat / 2 ^ lo % 2 ^ (hi - lo + 1) < 2 ^ (hi - lo + 1) := Nat.mod_lt _ (Nat.two_pow_pos _)
  have he : 2 ^ (lo + (hi - lo + 1)) = 2 ^ lo * 2 ^ (hi - lo + 1) := Nat.pow_add _ _ _
  have hadd : (setBits w hi lo v).toNat + getBits w hi lo * 2 ^ lo = w.toNat + v % 2 ^ (hi - lo + 1) * 2 ^ lo := by
    have := getBits_le_toNat w hi lo
    omega
  unfold getBits at *
  rcases hd with hd | hd
  · -- the other field lies above
    have key : ∀ (a b : Nat), a < 2 ^ (hi - lo + 1) → b < 2 ^ lo →
        (w.toNat / 2 ^ (lo + (hi - lo + 1)) * 2 ^ (lo + (hi - lo + 1)) + a * 2 ^ lo + b) / 2 ^ lo'
          = w.toNat / 2 ^ (lo + (hi - lo + 1)) / 2 ^ (lo' - (hi + 1)) := by
      intro a b ha hb
      have hl : 2 ^ lo' = 2 ^ (lo + (hi - lo + 1)) * 2 ^ (lo' - (hi + 1)) := by rw [← Nat.pow_add]; congr 1; omega
      have hlt : a * 2 ^ lo + b < 2 ^ (lo + (hi - lo + 1)) := by
        have := Nat.mul_le_mul_right (2 ^ lo) (Nat.succ_le_of_lt ha)
        rw [Nat.succ_mul] at this
        rw [he, Nat.mul_comm (2 ^ lo)]
        omega
      rw [hl, ← Nat.div_div_eq_div_mul, Nat.add_assoc, Nat.mul_comm, Nat.mul_add_div (Nat.two_pow_pos _),
        Nat.div_eq_of_lt hlt, Nat.add_zero]
    have e1 : (setBits w hi lo v).toNat = w.toNat / 2 ^ (lo + (hi - lo + 1)) * 2 ^ (lo + (hi - lo + 1))
        + v % 2 ^ (hi - lo + 1) * 2 ^ lo + w.toNat % 2 ^ lo := by omega
    have k1 := key _ _ hv hm
    have k2 := key _ _ hg hm
    rw [← e1] at k1
    rw [← hs] at k2
    rw [k1, k2]
  · -- the other field lies below
    have hl : 2 ^ lo = 2 ^ lo' * 2 ^ (hi' - lo' + 1) * 2 ^ (lo - (hi' + 1)) := by
      rw [← Nat.pow_add, ← Nat.pow_add]; congr 1; omega
    have e : ∀ n x : Nat, (n + x * 2 ^ lo) / 2 ^ lo' % 2 ^ (hi' - lo' + 1) = n / 2 ^ lo' % 2 ^ (hi' - lo' + 1) := by
      intro n x
      have : x * 2 ^ lo = 2 ^ lo' * (2 ^ (hi' - lo' + 1) * (2 ^ (lo - (hi' + 1)) * x)) := by rw [hl]; ring
      rw [this, Nat.add_mul_div_left _ _ (Nat.two_pow_pos _), Nat.add_mul_mod_self_left]
    rw [← e (setBits w hi lo v).toNat (w.toNat / 2 ^ lo % 2 ^ (hi - lo + 1)), hadd, e]

/-! ### Registers, fields and bits of the state -/

variable (s : State) (off off' hi lo hi' lo' v i j : Nat) (w : Word) (b : Bool)

theorem State.reg_setReg : (s.setReg off w).reg off' = if off' = off then w else s.reg off' := by
  simp [State.reg, State.setReg, Tbl.get_put]

@[simp] theorem State.reg_setReg_same : (s.setReg off w).reg off = w := by simp [State.reg_setReg]

theorem State.reg_setReg_ne (h : off' ≠ off) : (s.setReg off w).reg off' = s.reg off' := by
  simp [State.reg_setReg, h]

theorem State.reg_setFld_ne (h : off' ≠ off) : (s.setFld off hi lo v).reg off' = s.reg off' := by
  simp [State.setFld, State.reg_setReg, h]

@[simp] theorem State.reg_setFld_same : (s.setFld off hi lo v).reg off = setBits (s.reg off) hi lo v := by
  simp [State.setFld]

/-- A field reads as it was written. -/
theorem State.fld_setFld_same (h : lo ≤ hi) (hw : hi < 32) :
    (s.setFld off hi lo v).fld off hi lo = v % 2 ^ (hi - lo + 1) := by
  simp [State.fld, getBits_setBits_same, h, hw]

/-- A write of one register leaves the fields of every other. -/
theorem State.fld_setFld_reg (h : off' ≠ off) : (s.setFld off hi lo v).fld off' hi' lo' = s.fld off' hi' lo' := by
  simp [State.fld, State.reg_setFld_ne, h]

/-- A write of one field leaves the other fields of its register. -/
theorem State.fld_setFld_ne (h : lo ≤ hi) (hw : hi < 32) (h' : lo' ≤ hi') (hd : hi < lo' ∨ hi' < lo) :
    (s.setFld off hi lo v).fld off' hi' lo' = s.fld off' hi' lo' := by
  by_cases e : off' = off
  · subst e; simp [State.fld, getBits_setBits_ne, *]
  · exact s.fld_setFld_reg off off' hi lo hi' lo' v e

theorem State.fld_setReg_ne (h : off' ≠ off) : (s.setReg off w).fld off' hi lo = s.fld off' hi lo := by
  simp [State.fld, State.reg_setReg, h]

@[simp] theorem State.fld_setReg_same : (s.setReg off w).fld off hi lo = getBits w hi lo := by simp [State.fld]

/-- A bit reads as it was written. -/
theorem State.bit_setBit_same (hw : i < 32) : (s.setBit off i b).bit off i = b := by
  cases b <;> simp [State.bit, State.setBit, State.fld_setFld_same, hw]

theorem State.bit_setBit_ne (hw : i < 32) (h : i ≠ j) : (s.setBit off i b).bit off' j = s.bit off' j := by
  have : i < j ∨ j < i := by omega
  simp [State.bit, State.setBit, State.fld_setFld_ne, hw, this]

theorem State.bit_setBit_reg (h : off' ≠ off) : (s.setBit off i b).bit off' j = s.bit off' j := by
  simp [State.bit, State.setBit, State.fld_setFld_reg, h]

theorem State.fld_setBit_reg (h : off' ≠ off) : (s.setBit off i b).fld off' hi lo = s.fld off' hi lo := by
  simp [State.setBit, State.fld_setFld_reg, h]

theorem State.bit_setFld_reg (h : off' ≠ off) : (s.setFld off hi lo v).bit off' j = s.bit off' j := by
  simp [State.bit, State.fld_setFld_reg, h]

theorem State.bit_setReg_ne (h : off' ≠ off) : (s.setReg off w).bit off' j = s.bit off' j := by
  simp [State.bit, State.fld_setReg_ne, h]

/-- A field that saturates: one more, up to all ones. -/
theorem State.fld_incSat_same (h : lo ≤ hi) (hw : hi < 32) :
    (s.incSat off hi lo v).fld off hi lo = min (s.fld off hi lo + v) (2 ^ (hi - lo + 1) - 1) := by
  have : min (s.fld off hi lo + v) (2 ^ (hi - lo + 1) - 1) < 2 ^ (hi - lo + 1) := by
    have := Nat.two_pow_pos (hi - lo + 1); omega
  simp only [State.incSat, State.fld_setFld_same s off hi lo _ h hw]
  exact Nat.mod_eq_of_lt this

/-- A field that counts modulo its width. -/
theorem State.fld_incMod_same (h : lo ≤ hi) (hw : hi < 32) :
    (s.incMod off hi lo v).fld off hi lo = (s.fld off hi lo + v) % 2 ^ (hi - lo + 1) := by
  simp only [State.incMod, State.fld_setFld_same s off hi lo _ h hw]

/-- A counter after it has counted (R295). -/
theorem State.counter_count : (s.count off v).counter off' =
    if off' = off then (s.counter off + v) % 2 ^ 64 else s.counter off' := by
  simp [State.counter, State.count, Tbl.get_put]

end Sys2Proof.Machine
end

