-- ==== Sys2Proof/Laws/State.lean ====
section
/-! SUPPORT. What each write of one part of the state leaves of the others: one lemma for each field and each update. -/

namespace Sys2Proof.Machine

variable (s : State)

section
variable (off : Nat) (w : Word)
@[simp] theorem State.setReg_pending : (s.setReg off w).pending = s.pending := rfl
@[simp] theorem State.setReg_holding : (s.setReg off w).holding = s.holding := rfl
@[simp] theorem State.setReg_readData : (s.setReg off w).readData = s.readData := rfl
@[simp] theorem State.setReg_counters : (s.setReg off w).counters = s.counters := rfl
@[simp] theorem State.setReg_hostMem : (s.setReg off w).hostMem = s.hostMem := rfl
@[simp] theorem State.setReg_emitted : (s.setReg off w).emitted = s.emitted := rfl
@[simp] theorem State.setReg_freeCount : (s.setReg off w).freeCount = s.freeCount := rfl
@[simp] theorem State.setReg_chip : (s.setReg off w).chip = s.chip := rfl
@[simp] theorem State.setReg_fc : (s.setReg off w).fc = s.fc := rfl
@[simp] theorem State.setReg_buf : (s.setReg off w).buf = s.buf := rfl
@[simp] theorem State.setReg_rx : (s.setReg off w).rx = s.rx := rfl
@[simp] theorem State.setReg_pipes : (s.setReg off w).pipes = s.pipes := rfl
@[simp] theorem State.setReg_progs : (s.setReg off w).progs = s.progs := rfl
@[simp] theorem State.setReg_tables : (s.setReg off w).tables = s.tables := rfl
@[simp] theorem State.setReg_trestle : (s.setReg off w).trestle = s.trestle := rfl
@[simp] theorem State.setReg_ord : (s.setReg off w).ord = s.ord := rfl
@[simp] theorem State.setReg_egr : (s.setReg off w).egr = s.egr := rfl
@[simp] theorem State.setReg_tel : (s.setReg off w).tel = s.tel := rfl
@[simp] theorem State.setReg_via : (s.setReg off w).via = s.via := rfl
@[simp] theorem State.setReg_cmp : (s.setReg off w).cmp = s.cmp := rfl
@[simp] theorem State.setReg_pierTx : (s.setReg off w).pierTx = s.pierTx := rfl
@[simp] theorem State.setReg_lanes : (s.setReg off w).lanes = s.lanes := rfl
@[simp] theorem State.setReg_piers : (s.setReg off w).piers = s.piers := rfl
@[simp] theorem State.setReg_time : (s.setReg off w).time = s.time := rfl
@[simp] theorem State.setReg_hq : (s.setReg off w).hq = s.hq := rfl
@[simp] theorem State.setReg_jrn : (s.setReg off w).jrn = s.jrn := rfl
@[simp] theorem State.setReg_ks : (s.setReg off w).ks = s.ks := rfl
@[simp] theorem State.setReg_pwr : (s.setReg off w).pwr = s.pwr := rfl
@[simp] theorem State.setReg_boot : (s.setReg off w).boot = s.boot := rfl
end

section
variable (off hi lo v : Nat)
@[simp] theorem State.setFld_pending : (s.setFld off hi lo v).pending = s.pending := rfl
@[simp] theorem State.setFld_holding : (s.setFld off hi lo v).holding = s.holding := rfl
@[simp] theorem State.setFld_readData : (s.setFld off hi lo v).readData = s.readData := rfl
@[simp] theorem State.setFld_counters : (s.setFld off hi lo v).counters = s.counters := rfl
@[simp] theorem State.setFld_hostMem : (s.setFld off hi lo v).hostMem = s.hostMem := rfl
@[simp] theorem State.setFld_emitted : (s.setFld off hi lo v).emitted = s.emitted := rfl
@[simp] theorem State.setFld_freeCount : (s.setFld off hi lo v).freeCount = s.freeCount := rfl
@[simp] theorem State.setFld_chip : (s.setFld off hi lo v).chip = s.chip := rfl
@[simp] theorem State.setFld_fc : (s.setFld off hi lo v).fc = s.fc := rfl
@[simp] theorem State.setFld_buf : (s.setFld off hi lo v).buf = s.buf := rfl
@[simp] theorem State.setFld_rx : (s.setFld off hi lo v).rx = s.rx := rfl
@[simp] theorem State.setFld_pipes : (s.setFld off hi lo v).pipes = s.pipes := rfl
@[simp] theorem State.setFld_progs : (s.setFld off hi lo v).progs = s.progs := rfl
@[simp] theorem State.setFld_tables : (s.setFld off hi lo v).tables = s.tables := rfl
@[simp] theorem State.setFld_trestle : (s.setFld off hi lo v).trestle = s.trestle := rfl
@[simp] theorem State.setFld_ord : (s.setFld off hi lo v).ord = s.ord := rfl
@[simp] theorem State.setFld_egr : (s.setFld off hi lo v).egr = s.egr := rfl
@[simp] theorem State.setFld_tel : (s.setFld off hi lo v).tel = s.tel := rfl
@[simp] theorem State.setFld_via : (s.setFld off hi lo v).via = s.via := rfl
@[simp] theorem State.setFld_cmp : (s.setFld off hi lo v).cmp = s.cmp := rfl
@[simp] theorem State.setFld_pierTx : (s.setFld off hi lo v).pierTx = s.pierTx := rfl
@[simp] theorem State.setFld_lanes : (s.setFld off hi lo v).lanes = s.lanes := rfl
@[simp] theorem State.setFld_piers : (s.setFld off hi lo v).piers = s.piers := rfl
@[simp] theorem State.setFld_time : (s.setFld off hi lo v).time = s.time := rfl
@[simp] theorem State.setFld_hq : (s.setFld off hi lo v).hq = s.hq := rfl
@[simp] theorem State.setFld_jrn : (s.setFld off hi lo v).jrn = s.jrn := rfl
@[simp] theorem State.setFld_ks : (s.setFld off hi lo v).ks = s.ks := rfl
@[simp] theorem State.setFld_pwr : (s.setFld off hi lo v).pwr = s.pwr := rfl
@[simp] theorem State.setFld_boot : (s.setFld off hi lo v).boot = s.boot := rfl
end

section
variable (off i : Nat) (b : Bool)
@[simp] theorem State.setBit_pending : (s.setBit off i b).pending = s.pending := rfl
@[simp] theorem State.setBit_holding : (s.setBit off i b).holding = s.holding := rfl
@[simp] theorem State.setBit_readData : (s.setBit off i b).readData = s.readData := rfl
@[simp] theorem State.setBit_counters : (s.setBit off i b).counters = s.counters := rfl
@[simp] theorem State.setBit_hostMem : (s.setBit off i b).hostMem = s.hostMem := rfl
@[simp] theorem State.setBit_emitted : (s.setBit off i b).emitted = s.emitted := rfl
@[simp] theorem State.setBit_freeCount : (s.setBit off i b).freeCount = s.freeCount := rfl
@[simp] theorem State.setBit_chip : (s.setBit off i b).chip = s.chip := rfl
@[simp] theorem State.setBit_fc : (s.setBit off i b).fc = s.fc := rfl
@[simp] theorem State.setBit_buf : (s.setBit off i b).buf = s.buf := rfl
@[simp] theorem State.setBit_rx : (s.setBit off i b).rx = s.rx := rfl
@[simp] theorem State.setBit_pipes : (s.setBit off i b).pipes = s.pipes := rfl
@[simp] theorem State.setBit_progs : (s.setBit off i b).progs = s.progs := rfl
@[simp] theorem State.setBit_tables : (s.setBit off i b).tables = s.tables := rfl
@[simp] theorem State.setBit_trestle : (s.setBit off i b).trestle = s.trestle := rfl
@[simp] theorem State.setBit_ord : (s.setBit off i b).ord = s.ord := rfl
@[simp] theorem State.setBit_egr : (s.setBit off i b).egr = s.egr := rfl
@[simp] theorem State.setBit_tel : (s.setBit off i b).tel = s.tel := rfl
@[simp] theorem State.setBit_via : (s.setBit off i b).via = s.via := rfl
@[simp] theorem State.setBit_cmp : (s.setBit off i b).cmp = s.cmp := rfl
@[simp] theorem State.setBit_pierTx : (s.setBit off i b).pierTx = s.pierTx := rfl
@[simp] theorem State.setBit_lanes : (s.setBit off i b).lanes = s.lanes := rfl
@[simp] theorem State.setBit_piers : (s.setBit off i b).piers = s.piers := rfl
@[simp] theorem State.setBit_time : (s.setBit off i b).time = s.time := rfl
@[simp] theorem State.setBit_hq : (s.setBit off i b).hq = s.hq := rfl
@[simp] theorem State.setBit_jrn : (s.setBit off i b).jrn = s.jrn := rfl
@[simp] theorem State.setBit_ks : (s.setBit off i b).ks = s.ks := rfl
@[simp] theorem State.setBit_pwr : (s.setBit off i b).pwr = s.pwr := rfl
@[simp] theorem State.setBit_boot : (s.setBit off i b).boot = s.boot := rfl
end

section
variable (off hi lo n : Nat)
@[simp] theorem State.incSat_pending : (s.incSat off hi lo n).pending = s.pending := rfl
@[simp] theorem State.incSat_holding : (s.incSat off hi lo n).holding = s.holding := rfl
@[simp] theorem State.incSat_readData : (s.incSat off hi lo n).readData = s.readData := rfl
@[simp] theorem State.incSat_counters : (s.incSat off hi lo n).counters = s.counters := rfl
@[simp] theorem State.incSat_hostMem : (s.incSat off hi lo n).hostMem = s.hostMem := rfl
@[simp] theorem State.incSat_emitted : (s.incSat off hi lo n).emitted = s.emitted := rfl
@[simp] theorem State.incSat_freeCount : (s.incSat off hi lo n).freeCount = s.freeCount := rfl
@[simp] theorem State.incSat_chip : (s.incSat off hi lo n).chip = s.chip := rfl
@[simp] theorem State.incSat_fc : (s.incSat off hi lo n).fc = s.fc := rfl
@[simp] theorem State.incSat_buf : (s.incSat off hi lo n).buf = s.buf := rfl
@[simp] theorem State.incSat_rx : (s.incSat off hi lo n).rx = s.rx := rfl
@[simp] theorem State.incSat_pipes : (s.incSat off hi lo n).pipes = s.pipes := rfl
@[simp] theorem State.incSat_progs : (s.incSat off hi lo n).progs = s.progs := rfl
@[simp] theorem State.incSat_tables : (s.incSat off hi lo n).tables = s.tables := rfl
@[simp] theorem State.incSat_trestle : (s.incSat off hi lo n).trestle = s.trestle := rfl
@[simp] theorem State.incSat_ord : (s.incSat off hi lo n).ord = s.ord := rfl
@[simp] theorem State.incSat_egr : (s.incSat off hi lo n).egr = s.egr := rfl
@[simp] theorem State.incSat_tel : (s.incSat off hi lo n).tel = s.tel := rfl
@[simp] theorem State.incSat_via : (s.incSat off hi lo n).via = s.via := rfl
@[simp] theorem State.incSat_cmp : (s.incSat off hi lo n).cmp = s.cmp := rfl
@[simp] theorem State.incSat_pierTx : (s.incSat off hi lo n).pierTx = s.pierTx := rfl
@[simp] theorem State.incSat_lanes : (s.incSat off hi lo n).lanes = s.lanes := rfl
@[simp] theorem State.incSat_piers : (s.incSat off hi lo n).piers = s.piers := rfl
@[simp] theorem State.incSat_time : (s.incSat off hi lo n).time = s.time := rfl
@[simp] theorem State.incSat_hq : (s.incSat off hi lo n).hq = s.hq := rfl
@[simp] theorem State.incSat_jrn : (s.incSat off hi lo n).jrn = s.jrn := rfl
@[simp] theorem State.incSat_ks : (s.incSat off hi lo n).ks = s.ks := rfl
@[simp] theorem State.incSat_pwr : (s.incSat off hi lo n).pwr = s.pwr := rfl
@[simp] theorem State.incSat_boot : (s.incSat off hi lo n).boot = s.boot := rfl
end

section
variable (off hi lo n : Nat)
@[simp] theorem State.incMod_pending : (s.incMod off hi lo n).pending = s.pending := rfl
@[simp] theorem State.incMod_holding : (s.incMod off hi lo n).holding = s.holding := rfl
@[simp] theorem State.incMod_readData : (s.incMod off hi lo n).readData = s.readData := rfl
@[simp] theorem State.incMod_counters : (s.incMod off hi lo n).counters = s.counters := rfl
@[simp] theorem State.incMod_hostMem : (s.incMod off hi lo n).hostMem = s.hostMem := rfl
@[simp] theorem State.incMod_emitted : (s.incMod off hi lo n).emitted = s.emitted := rfl
@[simp] theorem State.incMod_freeCount : (s.incMod off hi lo n).freeCount = s.freeCount := rfl
@[simp] theorem State.incMod_chip : (s.incMod off hi lo n).chip = s.chip := rfl
@[simp] theorem State.incMod_fc : (s.incMod off hi lo n).fc = s.fc := rfl
@[simp] theorem State.incMod_buf : (s.incMod off hi lo n).buf = s.buf := rfl
@[simp] theorem State.incMod_rx : (s.incMod off hi lo n).rx = s.rx := rfl
@[simp] theorem State.incMod_pipes : (s.incMod off hi lo n).pipes = s.pipes := rfl
@[simp] theorem State.incMod_progs : (s.incMod off hi lo n).progs = s.progs := rfl
@[simp] theorem State.incMod_tables : (s.incMod off hi lo n).tables = s.tables := rfl
@[simp] theorem State.incMod_trestle : (s.incMod off hi lo n).trestle = s.trestle := rfl
@[simp] theorem State.incMod_ord : (s.incMod off hi lo n).ord = s.ord := rfl
@[simp] theorem State.incMod_egr : (s.incMod off hi lo n).egr = s.egr := rfl
@[simp] theorem State.incMod_tel : (s.incMod off hi lo n).tel = s.tel := rfl
@[simp] theorem State.incMod_via : (s.incMod off hi lo n).via = s.via := rfl
@[simp] theorem State.incMod_cmp : (s.incMod off hi lo n).cmp = s.cmp := rfl
@[simp] theorem State.incMod_pierTx : (s.incMod off hi lo n).pierTx = s.pierTx := rfl
@[simp] theorem State.incMod_lanes : (s.incMod off hi lo n).lanes = s.lanes := rfl
@[simp] theorem State.incMod_piers : (s.incMod off hi lo n).piers = s.piers := rfl
@[simp] theorem State.incMod_time : (s.incMod off hi lo n).time = s.time := rfl
@[simp] theorem State.incMod_hq : (s.incMod off hi lo n).hq = s.hq := rfl
@[simp] theorem State.incMod_jrn : (s.incMod off hi lo n).jrn = s.jrn := rfl
@[simp] theorem State.incMod_ks : (s.incMod off hi lo n).ks = s.ks := rfl
@[simp] theorem State.incMod_pwr : (s.incMod off hi lo n).pwr = s.pwr := rfl
@[simp] theorem State.incMod_boot : (s.incMod off hi lo n).boot = s.boot := rfl
end

section
variable (e : Emission)
@[simp] theorem State.emit_pending : (s.emit e).pending = s.pending := rfl
@[simp] theorem State.emit_regs : (s.emit e).regs = s.regs := rfl
@[simp] theorem State.emit_holding : (s.emit e).holding = s.holding := rfl
@[simp] theorem State.emit_readData : (s.emit e).readData = s.readData := rfl
@[simp] theorem State.emit_counters : (s.emit e).counters = s.counters := rfl
@[simp] theorem State.emit_hostMem : (s.emit e).hostMem = s.hostMem := rfl
@[simp] theorem State.emit_freeCount : (s.emit e).freeCount = s.freeCount := rfl
@[simp] theorem State.emit_chip : (s.emit e).chip = s.chip := rfl
@[simp] theorem State.emit_fc : (s.emit e).fc = s.fc := rfl
@[simp] theorem State.emit_buf : (s.emit e).buf = s.buf := rfl
@[simp] theorem State.emit_rx : (s.emit e).rx = s.rx := rfl
@[simp] theorem State.emit_pipes : (s.emit e).pipes = s.pipes := rfl
@[simp] theorem State.emit_progs : (s.emit e).progs = s.progs := rfl
@[simp] theorem State.emit_tables : (s.emit e).tables = s.tables := rfl
@[simp] theorem State.emit_trestle : (s.emit e).trestle = s.trestle := rfl
@[simp] theorem State.emit_ord : (s.emit e).ord = s.ord := rfl
@[simp] theorem State.emit_egr : (s.emit e).egr = s.egr := rfl
@[simp] theorem State.emit_tel : (s.emit e).tel = s.tel := rfl
@[simp] theorem State.emit_via : (s.emit e).via = s.via := rfl
@[simp] theorem State.emit_cmp : (s.emit e).cmp = s.cmp := rfl
@[simp] theorem State.emit_pierTx : (s.emit e).pierTx = s.pierTx := rfl
@[simp] theorem State.emit_lanes : (s.emit e).lanes = s.lanes := rfl
@[simp] theorem State.emit_piers : (s.emit e).piers = s.piers := rfl
@[simp] theorem State.emit_time : (s.emit e).time = s.time := rfl
@[simp] theorem State.emit_hq : (s.emit e).hq = s.hq := rfl
@[simp] theorem State.emit_jrn : (s.emit e).jrn = s.jrn := rfl
@[simp] theorem State.emit_ks : (s.emit e).ks = s.ks := rfl
@[simp] theorem State.emit_pwr : (s.emit e).pwr = s.pwr := rfl
@[simp] theorem State.emit_boot : (s.emit e).boot = s.boot := rfl
end

section
variable (off n : Nat)
@[simp] theorem State.count_pending : (s.count off n).pending = s.pending := rfl
@[simp] theorem State.count_regs : (s.count off n).regs = s.regs := rfl
@[simp] theorem State.count_holding : (s.count off n).holding = s.holding := rfl
@[simp] theorem State.count_readData : (s.count off n).readData = s.readData := rfl
@[simp] theorem State.count_hostMem : (s.count off n).hostMem = s.hostMem := rfl
@[simp] theorem State.count_emitted : (s.count off n).emitted = s.emitted := rfl
@[simp] theorem State.count_freeCount : (s.count off n).freeCount = s.freeCount := rfl
@[simp] theorem State.count_chip : (s.count off n).chip = s.chip := rfl
@[simp] theorem State.count_fc : (s.count off n).fc = s.fc := rfl
@[simp] theorem State.count_buf : (s.count off n).buf = s.buf := rfl
@[simp] theorem State.count_rx : (s.count off n).rx = s.rx := rfl
@[simp] theorem State.count_pipes : (s.count off n).pipes = s.pipes := rfl
@[simp] theorem State.count_progs : (s.count off n).progs = s.progs := rfl
@[simp] theorem State.count_tables : (s.count off n).tables = s.tables := rfl
@[simp] theorem State.count_trestle : (s.count off n).trestle = s.trestle := rfl
@[simp] theorem State.count_ord : (s.count off n).ord = s.ord := rfl
@[simp] theorem State.count_egr : (s.count off n).egr = s.egr := rfl
@[simp] theorem State.count_tel : (s.count off n).tel = s.tel := rfl
@[simp] theorem State.count_via : (s.count off n).via = s.via := rfl
@[simp] theorem State.count_cmp : (s.count off n).cmp = s.cmp := rfl
@[simp] theorem State.count_pierTx : (s.count off n).pierTx = s.pierTx := rfl
@[simp] theorem State.count_lanes : (s.count off n).lanes = s.lanes := rfl
@[simp] theorem State.count_piers : (s.count off n).piers = s.piers := rfl
@[simp] theorem State.count_time : (s.count off n).time = s.time := rfl
@[simp] theorem State.count_hq : (s.count off n).hq = s.hq := rfl
@[simp] theorem State.count_jrn : (s.count off n).jrn = s.jrn := rfl
@[simp] theorem State.count_ks : (s.count off n).ks = s.ks := rfl
@[simp] theorem State.count_pwr : (s.count off n).pwr = s.pwr := rfl
@[simp] theorem State.count_boot : (s.count off n).boot = s.boot := rfl
end

section
variable (n : Nat) (b : TbBase)
@[simp] theorem State.setTb_pending : (s.setTb n b).pending = s.pending := rfl
@[simp] theorem State.setTb_regs : (s.setTb n b).regs = s.regs := rfl
@[simp] theorem State.setTb_holding : (s.setTb n b).holding = s.holding := rfl
@[simp] theorem State.setTb_readData : (s.setTb n b).readData = s.readData := rfl
@[simp] theorem State.setTb_counters : (s.setTb n b).counters = s.counters := rfl
@[simp] theorem State.setTb_hostMem : (s.setTb n b).hostMem = s.hostMem := rfl
@[simp] theorem State.setTb_emitted : (s.setTb n b).emitted = s.emitted := rfl
@[simp] theorem State.setTb_freeCount : (s.setTb n b).freeCount = s.freeCount := rfl
@[simp] theorem State.setTb_chip : (s.setTb n b).chip = s.chip := rfl
@[simp] theorem State.setTb_fc : (s.setTb n b).fc = s.fc := rfl
@[simp] theorem State.setTb_buf : (s.setTb n b).buf = s.buf := rfl
@[simp] theorem State.setTb_rx : (s.setTb n b).rx = s.rx := rfl
@[simp] theorem State.setTb_pipes : (s.setTb n b).pipes = s.pipes := rfl
@[simp] theorem State.setTb_progs : (s.setTb n b).progs = s.progs := rfl
@[simp] theorem State.setTb_tables : (s.setTb n b).tables = s.tables := rfl
@[simp] theorem State.setTb_trestle : (s.setTb n b).trestle = s.trestle := rfl
@[simp] theorem State.setTb_ord : (s.setTb n b).ord = s.ord := rfl
@[simp] theorem State.setTb_egr : (s.setTb n b).egr = s.egr := rfl
@[simp] theorem State.setTb_tel : (s.setTb n b).tel = s.tel := rfl
@[simp] theorem State.setTb_via : (s.setTb n b).via = s.via := rfl
@[simp] theorem State.setTb_cmp : (s.setTb n b).cmp = s.cmp := rfl
@[simp] theorem State.setTb_pierTx : (s.setTb n b).pierTx = s.pierTx := rfl
@[simp] theorem State.setTb_lanes : (s.setTb n b).lanes = s.lanes := rfl
@[simp] theorem State.setTb_piers : (s.setTb n b).piers = s.piers := rfl
@[simp] theorem State.setTb_hq : (s.setTb n b).hq = s.hq := rfl
@[simp] theorem State.setTb_jrn : (s.setTb n b).jrn = s.jrn := rfl
@[simp] theorem State.setTb_ks : (s.setTb n b).ks = s.ks := rfl
@[simp] theorem State.setTb_pwr : (s.setTb n b).pwr = s.pwr := rfl
@[simp] theorem State.setTb_boot : (s.setTb n b).boot = s.boot := rfl
end

section
variable (kind unit : Nat) (b : Bool)
@[simp] theorem State.setMgmt_pending : (s.setMgmt kind unit b).pending = s.pending := rfl
@[simp] theorem State.setMgmt_regs : (s.setMgmt kind unit b).regs = s.regs := rfl
@[simp] theorem State.setMgmt_holding : (s.setMgmt kind unit b).holding = s.holding := rfl
@[simp] theorem State.setMgmt_readData : (s.setMgmt kind unit b).readData = s.readData := rfl
@[simp] theorem State.setMgmt_counters : (s.setMgmt kind unit b).counters = s.counters := rfl
@[simp] theorem State.setMgmt_hostMem : (s.setMgmt kind unit b).hostMem = s.hostMem := rfl
@[simp] theorem State.setMgmt_emitted : (s.setMgmt kind unit b).emitted = s.emitted := rfl
@[simp] theorem State.setMgmt_freeCount : (s.setMgmt kind unit b).freeCount = s.freeCount := rfl
@[simp] theorem State.setMgmt_chip : (s.setMgmt kind unit b).chip = s.chip := rfl
@[simp] theorem State.setMgmt_buf : (s.setMgmt kind unit b).buf = s.buf := rfl
@[simp] theorem State.setMgmt_rx : (s.setMgmt kind unit b).rx = s.rx := rfl
@[simp] theorem State.setMgmt_pipes : (s.setMgmt kind unit b).pipes = s.pipes := rfl
@[simp] theorem State.setMgmt_progs : (s.setMgmt kind unit b).progs = s.progs := rfl
@[simp] theorem State.setMgmt_tables : (s.setMgmt kind unit b).tables = s.tables := rfl
@[simp] theorem State.setMgmt_trestle : (s.setMgmt kind unit b).trestle = s.trestle := rfl
@[simp] theorem State.setMgmt_ord : (s.setMgmt kind unit b).ord = s.ord := rfl
@[simp] theorem State.setMgmt_egr : (s.setMgmt kind unit b).egr = s.egr := rfl
@[simp] theorem State.setMgmt_tel : (s.setMgmt kind unit b).tel = s.tel := rfl
@[simp] theorem State.setMgmt_via : (s.setMgmt kind unit b).via = s.via := rfl
@[simp] theorem State.setMgmt_cmp : (s.setMgmt kind unit b).cmp = s.cmp := rfl
@[simp] theorem State.setMgmt_pierTx : (s.setMgmt kind unit b).pierTx = s.pierTx := rfl
@[simp] theorem State.setMgmt_lanes : (s.setMgmt kind unit b).lanes = s.lanes := rfl
@[simp] theorem State.setMgmt_piers : (s.setMgmt kind unit b).piers = s.piers := rfl
@[simp] theorem State.setMgmt_time : (s.setMgmt kind unit b).time = s.time := rfl
@[simp] theorem State.setMgmt_hq : (s.setMgmt kind unit b).hq = s.hq := rfl
@[simp] theorem State.setMgmt_jrn : (s.setMgmt kind unit b).jrn = s.jrn := rfl
@[simp] theorem State.setMgmt_ks : (s.setMgmt kind unit b).ks = s.ks := rfl
@[simp] theorem State.setMgmt_pwr : (s.setMgmt kind unit b).pwr = s.pwr := rfl
@[simp] theorem State.setMgmt_boot : (s.setMgmt kind unit b).boot = s.boot := rfl
end

section
variable (span : Nat) (pass : Pass) (x : PassState)
@[simp] theorem State.setPass_pending : (s.setPass span pass x).pending = s.pending := rfl
@[simp] theorem State.setPass_regs : (s.setPass span pass x).regs = s.regs := rfl
@[simp] theorem State.setPass_holding : (s.setPass span pass x).holding = s.holding := rfl
@[simp] theorem State.setPass_readData : (s.setPass span pass x).readData = s.readData := rfl
@[simp] theorem State.setPass_counters : (s.setPass span pass x).counters = s.counters := rfl
@[simp] theorem State.setPass_hostMem : (s.setPass span pass x).hostMem = s.hostMem := rfl
@[simp] theorem State.setPass_emitted : (s.setPass span pass x).emitted = s.emitted := rfl
@[simp] theorem State.setPass_freeCount : (s.setPass span pass x).freeCount = s.freeCount := rfl
@[simp] theorem State.setPass_chip : (s.setPass span pass x).chip = s.chip := rfl
@[simp] theorem State.setPass_fc : (s.setPass span pass x).fc = s.fc := rfl
@[simp] theorem State.setPass_buf : (s.setPass span pass x).buf = s.buf := rfl
@[simp] theorem State.setPass_rx : (s.setPass span pass x).rx = s.rx := rfl
@[simp] theorem State.setPass_progs : (s.setPass span pass x).progs = s.progs := rfl
@[simp] theorem State.setPass_tables : (s.setPass span pass x).tables = s.tables := rfl
@[simp] theorem State.setPass_trestle : (s.setPass span pass x).trestle = s.trestle := rfl
@[simp] theorem State.setPass_ord : (s.setPass span pass x).ord = s.ord := rfl
@[simp] theorem State.setPass_egr : (s.setPass span pass x).egr = s.egr := rfl
@[simp] theorem State.setPass_tel : (s.setPass span pass x).tel = s.tel := rfl
@[simp] theorem State.setPass_via : (s.setPass span pass x).via = s.via := rfl
@[simp] theorem State.setPass_cmp : (s.setPass span pass x).cmp = s.cmp := rfl
@[simp] theorem State.setPass_pierTx : (s.setPass span pass x).pierTx = s.pierTx := rfl
@[simp] theorem State.setPass_lanes : (s.setPass span pass x).lanes = s.lanes := rfl
@[simp] theorem State.setPass_piers : (s.setPass span pass x).piers = s.piers := rfl
@[simp] theorem State.setPass_time : (s.setPass span pass x).time = s.time := rfl
@[simp] theorem State.setPass_hq : (s.setPass span pass x).hq = s.hq := rfl
@[simp] theorem State.setPass_jrn : (s.setPass span pass x).jrn = s.jrn := rfl
@[simp] theorem State.setPass_ks : (s.setPass span pass x).ks = s.ks := rfl
@[simp] theorem State.setPass_pwr : (s.setPass span pass x).pwr = s.pwr := rfl
@[simp] theorem State.setPass_boot : (s.setPass span pass x).boot = s.boot := rfl
end

section
variable (k : Nat) (x : PipeState)
@[simp] theorem State.setPipe_pending : (s.setPipe k x).pending = s.pending := rfl
@[simp] theorem State.setPipe_regs : (s.setPipe k x).regs = s.regs := rfl
@[simp] theorem State.setPipe_holding : (s.setPipe k x).holding = s.holding := rfl
@[simp] theorem State.setPipe_readData : (s.setPipe k x).readData = s.readData := rfl
@[simp] theorem State.setPipe_counters : (s.setPipe k x).counters = s.counters := rfl
@[simp] theorem State.setPipe_hostMem : (s.setPipe k x).hostMem = s.hostMem := rfl
@[simp] theorem State.setPipe_emitted : (s.setPipe k x).emitted = s.emitted := rfl
@[simp] theorem State.setPipe_freeCount : (s.setPipe k x).freeCount = s.freeCount := rfl
@[simp] theorem State.setPipe_chip : (s.setPipe k x).chip = s.chip := rfl
@[simp] theorem State.setPipe_fc : (s.setPipe k x).fc = s.fc := rfl
@[simp] theorem State.setPipe_buf : (s.setPipe k x).buf = s.buf := rfl
@[simp] theorem State.setPipe_rx : (s.setPipe k x).rx = s.rx := rfl
@[simp] theorem State.setPipe_progs : (s.setPipe k x).progs = s.progs := rfl
@[simp] theorem State.setPipe_tables : (s.setPipe k x).tables = s.tables := rfl
@[simp] theorem State.setPipe_trestle : (s.setPipe k x).trestle = s.trestle := rfl
@[simp] theorem State.setPipe_ord : (s.setPipe k x).ord = s.ord := rfl
@[simp] theorem State.setPipe_egr : (s.setPipe k x).egr = s.egr := rfl
@[simp] theorem State.setPipe_tel : (s.setPipe k x).tel = s.tel := rfl
@[simp] theorem State.setPipe_via : (s.setPipe k x).via = s.via := rfl
@[simp] theorem State.setPipe_cmp : (s.setPipe k x).cmp = s.cmp := rfl
@[simp] theorem State.setPipe_pierTx : (s.setPipe k x).pierTx = s.pierTx := rfl
@[simp] theorem State.setPipe_lanes : (s.setPipe k x).lanes = s.lanes := rfl
@[simp] theorem State.setPipe_piers : (s.setPipe k x).piers = s.piers := rfl
@[simp] theorem State.setPipe_time : (s.setPipe k x).time = s.time := rfl
@[simp] theorem State.setPipe_hq : (s.setPipe k x).hq = s.hq := rfl
@[simp] theorem State.setPipe_jrn : (s.setPipe k x).jrn = s.jrn := rfl
@[simp] theorem State.setPipe_ks : (s.setPipe k x).ks = s.ks := rfl
@[simp] theorem State.setPipe_pwr : (s.setPipe k x).pwr = s.pwr := rfl
@[simp] theorem State.setPipe_boot : (s.setPipe k x).boot = s.boot := rfl
end

section
variable (i : Nat) (p : Option Packet)
@[simp] theorem State.setPacket_pending : (s.setPacket i p).pending = s.pending := rfl
@[simp] theorem State.setPacket_regs : (s.setPacket i p).regs = s.regs := rfl
@[simp] theorem State.setPacket_holding : (s.setPacket i p).holding = s.holding := rfl
@[simp] theorem State.setPacket_readData : (s.setPacket i p).readData = s.readData := rfl
@[simp] theorem State.setPacket_counters : (s.setPacket i p).counters = s.counters := rfl
@[simp] theorem State.setPacket_hostMem : (s.setPacket i p).hostMem = s.hostMem := rfl
@[simp] theorem State.setPacket_emitted : (s.setPacket i p).emitted = s.emitted := rfl
@[simp] theorem State.setPacket_freeCount : (s.setPacket i p).freeCount = s.freeCount := rfl
@[simp] theorem State.setPacket_chip : (s.setPacket i p).chip = s.chip := rfl
@[simp] theorem State.setPacket_fc : (s.setPacket i p).fc = s.fc := rfl
@[simp] theorem State.setPacket_buf : (s.setPacket i p).buf = s.buf := rfl
@[simp] theorem State.setPacket_rx : (s.setPacket i p).rx = s.rx := rfl
@[simp] theorem State.setPacket_progs : (s.setPacket i p).progs = s.progs := rfl
@[simp] theorem State.setPacket_tables : (s.setPacket i p).tables = s.tables := rfl
@[simp] theorem State.setPacket_trestle : (s.setPacket i p).trestle = s.trestle := rfl
@[simp] theorem State.setPacket_ord : (s.setPacket i p).ord = s.ord := rfl
@[simp] theorem State.setPacket_egr : (s.setPacket i p).egr = s.egr := rfl
@[simp] theorem State.setPacket_tel : (s.setPacket i p).tel = s.tel := rfl
@[simp] theorem State.setPacket_via : (s.setPacket i p).via = s.via := rfl
@[simp] theorem State.setPacket_cmp : (s.setPacket i p).cmp = s.cmp := rfl
@[simp] theorem State.setPacket_pierTx : (s.setPacket i p).pierTx = s.pierTx := rfl
@[simp] theorem State.setPacket_lanes : (s.setPacket i p).lanes = s.lanes := rfl
@[simp] theorem State.setPacket_piers : (s.setPacket i p).piers = s.piers := rfl
@[simp] theorem State.setPacket_time : (s.setPacket i p).time = s.time := rfl
@[simp] theorem State.setPacket_hq : (s.setPacket i p).hq = s.hq := rfl
@[simp] theorem State.setPacket_jrn : (s.setPacket i p).jrn = s.jrn := rfl
@[simp] theorem State.setPacket_ks : (s.setPacket i p).ks = s.ks := rfl
@[simp] theorem State.setPacket_pwr : (s.setPacket i p).pwr = s.pwr := rfl
@[simp] theorem State.setPacket_boot : (s.setPacket i p).boot = s.boot := rfl
end

section
variable (g : Nat) (pass : Pass) (l : List Replay)
@[simp] theorem State.setReplays_pending : (s.setReplays g pass l).pending = s.pending := rfl
@[simp] theorem State.setReplays_regs : (s.setReplays g pass l).regs = s.regs := rfl
@[simp] theorem State.setReplays_holding : (s.setReplays g pass l).holding = s.holding := rfl
@[simp] theorem State.setReplays_readData : (s.setReplays g pass l).readData = s.readData := rfl
@[simp] theorem State.setReplays_counters : (s.setReplays g pass l).counters = s.counters := rfl
@[simp] theorem State.setReplays_hostMem : (s.setReplays g pass l).hostMem = s.hostMem := rfl
@[simp] theorem State.setReplays_emitted : (s.setReplays g pass l).emitted = s.emitted := rfl
@[simp] theorem State.setReplays_freeCount : (s.setReplays g pass l).freeCount = s.freeCount := rfl
@[simp] theorem State.setReplays_chip : (s.setReplays g pass l).chip = s.chip := rfl
@[simp] theorem State.setReplays_fc : (s.setReplays g pass l).fc = s.fc := rfl
@[simp] theorem State.setReplays_buf : (s.setReplays g pass l).buf = s.buf := rfl
@[simp] theorem State.setReplays_rx : (s.setReplays g pass l).rx = s.rx := rfl
@[simp] theorem State.setReplays_progs : (s.setReplays g pass l).progs = s.progs := rfl
@[simp] theorem State.setReplays_tables : (s.setReplays g pass l).tables = s.tables := rfl
@[simp] theorem State.setReplays_trestle : (s.setReplays g pass l).trestle = s.trestle := rfl
@[simp] theorem State.setReplays_ord : (s.setReplays g pass l).ord = s.ord := rfl
@[simp] theorem State.setReplays_egr : (s.setReplays g pass l).egr = s.egr := rfl
@[simp] theorem State.setReplays_tel : (s.setReplays g pass l).tel = s.tel := rfl
@[simp] theorem State.setReplays_via : (s.setReplays g pass l).via = s.via := rfl
@[simp] theorem State.setReplays_cmp : (s.setReplays g pass l).cmp = s.cmp := rfl
@[simp] theorem State.setReplays_pierTx : (s.setReplays g pass l).pierTx = s.pierTx := rfl
@[simp] theorem State.setReplays_lanes : (s.setReplays g pass l).lanes = s.lanes := rfl
@[simp] theorem State.setReplays_piers : (s.setReplays g pass l).piers = s.piers := rfl
@[simp] theorem State.setReplays_time : (s.setReplays g pass l).time = s.time := rfl
@[simp] theorem State.setReplays_hq : (s.setReplays g pass l).hq = s.hq := rfl
@[simp] theorem State.setReplays_jrn : (s.setReplays g pass l).jrn = s.jrn := rfl
@[simp] theorem State.setReplays_ks : (s.setReplays g pass l).ks = s.ks := rfl
@[simp] theorem State.setReplays_pwr : (s.setReplays g pass l).pwr = s.pwr := rfl
@[simp] theorem State.setReplays_boot : (s.setReplays g pass l).boot = s.boot := rfl
end

section
variable (d : Nat) (x : FrameInfo)
@[simp] theorem State.setInfo_pending : (s.setInfo d x).pending = s.pending := rfl
@[simp] theorem State.setInfo_regs : (s.setInfo d x).regs = s.regs := rfl
@[simp] theorem State.setInfo_holding : (s.setInfo d x).holding = s.holding := rfl
@[simp] theorem State.setInfo_readData : (s.setInfo d x).readData = s.readData := rfl
@[simp] theorem State.setInfo_counters : (s.setInfo d x).counters = s.counters := rfl
@[simp] theorem State.setInfo_hostMem : (s.setInfo d x).hostMem = s.hostMem := rfl
@[simp] theorem State.setInfo_emitted : (s.setInfo d x).emitted = s.emitted := rfl
@[simp] theorem State.setInfo_freeCount : (s.setInfo d x).freeCount = s.freeCount := rfl
@[simp] theorem State.setInfo_chip : (s.setInfo d x).chip = s.chip := rfl
@[simp] theorem State.setInfo_fc : (s.setInfo d x).fc = s.fc := rfl
@[simp] theorem State.setInfo_buf : (s.setInfo d x).buf = s.buf := rfl
@[simp] theorem State.setInfo_pipes : (s.setInfo d x).pipes = s.pipes := rfl
@[simp] theorem State.setInfo_progs : (s.setInfo d x).progs = s.progs := rfl
@[simp] theorem State.setInfo_tables : (s.setInfo d x).tables = s.tables := rfl
@[simp] theorem State.setInfo_trestle : (s.setInfo d x).trestle = s.trestle := rfl
@[simp] theorem State.setInfo_ord : (s.setInfo d x).ord = s.ord := rfl
@[simp] theorem State.setInfo_egr : (s.setInfo d x).egr = s.egr := rfl
@[simp] theorem State.setInfo_tel : (s.setInfo d x).tel = s.tel := rfl
@[simp] theorem State.setInfo_via : (s.setInfo d x).via = s.via := rfl
@[simp] theorem State.setInfo_cmp : (s.setInfo d x).cmp = s.cmp := rfl
@[simp] theorem State.setInfo_pierTx : (s.setInfo d x).pierTx = s.pierTx := rfl
@[simp] theorem State.setInfo_lanes : (s.setInfo d x).lanes = s.lanes := rfl
@[simp] theorem State.setInfo_piers : (s.setInfo d x).piers = s.piers := rfl
@[simp] theorem State.setInfo_time : (s.setInfo d x).time = s.time := rfl
@[simp] theorem State.setInfo_hq : (s.setInfo d x).hq = s.hq := rfl
@[simp] theorem State.setInfo_jrn : (s.setInfo d x).jrn = s.jrn := rfl
@[simp] theorem State.setInfo_ks : (s.setInfo d x).ks = s.ks := rfl
@[simp] theorem State.setInfo_pwr : (s.setInfo d x).pwr = s.pwr := rfl
@[simp] theorem State.setInfo_boot : (s.setInfo d x).boot = s.boot := rfl
end

section
variable (d : Nat) (x : Desc)
@[simp] theorem State.setDesc_pending : (s.setDesc d x).pending = s.pending := rfl
@[simp] theorem State.setDesc_regs : (s.setDesc d x).regs = s.regs := rfl
@[simp] theorem State.setDesc_holding : (s.setDesc d x).holding = s.holding := rfl
@[simp] theorem State.setDesc_readData : (s.setDesc d x).readData = s.readData := rfl
@[simp] theorem State.setDesc_counters : (s.setDesc d x).counters = s.counters := rfl
@[simp] theorem State.setDesc_hostMem : (s.setDesc d x).hostMem = s.hostMem := rfl
@[simp] theorem State.setDesc_emitted : (s.setDesc d x).emitted = s.emitted := rfl
@[simp] theorem State.setDesc_freeCount : (s.setDesc d x).freeCount = s.freeCount := rfl
@[simp] theorem State.setDesc_chip : (s.setDesc d x).chip = s.chip := rfl
@[simp] theorem State.setDesc_fc : (s.setDesc d x).fc = s.fc := rfl
@[simp] theorem State.setDesc_rx : (s.setDesc d x).rx = s.rx := rfl
@[simp] theorem State.setDesc_pipes : (s.setDesc d x).pipes = s.pipes := rfl
@[simp] theorem State.setDesc_progs : (s.setDesc d x).progs = s.progs := rfl
@[simp] theorem State.setDesc_tables : (s.setDesc d x).tables = s.tables := rfl
@[simp] theorem State.setDesc_trestle : (s.setDesc d x).trestle = s.trestle := rfl
@[simp] theorem State.setDesc_ord : (s.setDesc d x).ord = s.ord := rfl
@[simp] theorem State.setDesc_egr : (s.setDesc d x).egr = s.egr := rfl
@[simp] theorem State.setDesc_tel : (s.setDesc d x).tel = s.tel := rfl
@[simp] theorem State.setDesc_via : (s.setDesc d x).via = s.via := rfl
@[simp] theorem State.setDesc_cmp : (s.setDesc d x).cmp = s.cmp := rfl
@[simp] theorem State.setDesc_pierTx : (s.setDesc d x).pierTx = s.pierTx := rfl
@[simp] theorem State.setDesc_lanes : (s.setDesc d x).lanes = s.lanes := rfl
@[simp] theorem State.setDesc_piers : (s.setDesc d x).piers = s.piers := rfl
@[simp] theorem State.setDesc_time : (s.setDesc d x).time = s.time := rfl
@[simp] theorem State.setDesc_hq : (s.setDesc d x).hq = s.hq := rfl
@[simp] theorem State.setDesc_jrn : (s.setDesc d x).jrn = s.jrn := rfl
@[simp] theorem State.setDesc_ks : (s.setDesc d x).ks = s.ks := rfl
@[simp] theorem State.setDesc_pwr : (s.setDesc d x).pwr = s.pwr := rfl
@[simp] theorem State.setDesc_boot : (s.setDesc d x).boot = s.boot := rfl
end

section
variable (q : Nat) (x : PairOrder)
@[simp] theorem State.setOrder_pending : (s.setOrder q x).pending = s.pending := rfl
@[simp] theorem State.setOrder_regs : (s.setOrder q x).regs = s.regs := rfl
@[simp] theorem State.setOrder_holding : (s.setOrder q x).holding = s.holding := rfl
@[simp] theorem State.setOrder_readData : (s.setOrder q x).readData = s.readData := rfl
@[simp] theorem State.setOrder_counters : (s.setOrder q x).counters = s.counters := rfl
@[simp] theorem State.setOrder_hostMem : (s.setOrder q x).hostMem = s.hostMem := rfl
@[simp] theorem State.setOrder_emitted : (s.setOrder q x).emitted = s.emitted := rfl
@[simp] theorem State.setOrder_freeCount : (s.setOrder q x).freeCount = s.freeCount := rfl
@[simp] theorem State.setOrder_chip : (s.setOrder q x).chip = s.chip := rfl
@[simp] theorem State.setOrder_fc : (s.setOrder q x).fc = s.fc := rfl
@[simp] theorem State.setOrder_buf : (s.setOrder q x).buf = s.buf := rfl
@[simp] theorem State.setOrder_rx : (s.setOrder q x).rx = s.rx := rfl
@[simp] theorem State.setOrder_pipes : (s.setOrder q x).pipes = s.pipes := rfl
@[simp] theorem State.setOrder_progs : (s.setOrder q x).progs = s.progs := rfl
@[simp] theorem State.setOrder_tables : (s.setOrder q x).tables = s.tables := rfl
@[simp] theorem State.setOrder_trestle : (s.setOrder q x).trestle = s.trestle := rfl
@[simp] theorem State.setOrder_egr : (s.setOrder q x).egr = s.egr := rfl
@[simp] theorem State.setOrder_tel : (s.setOrder q x).tel = s.tel := rfl
@[simp] theorem State.setOrder_via : (s.setOrder q x).via = s.via := rfl
@[simp] theorem State.setOrder_cmp : (s.setOrder q x).cmp = s.cmp := rfl
@[simp] theorem State.setOrder_pierTx : (s.setOrder q x).pierTx = s.pierTx := rfl
@[simp] theorem State.setOrder_lanes : (s.setOrder q x).lanes = s.lanes := rfl
@[simp] theorem State.setOrder_piers : (s.setOrder q x).piers = s.piers := rfl
@[simp] theorem State.setOrder_time : (s.setOrder q x).time = s.time := rfl
@[simp] theorem State.setOrder_hq : (s.setOrder q x).hq = s.hq := rfl
@[simp] theorem State.setOrder_jrn : (s.setOrder q x).jrn = s.jrn := rfl
@[simp] theorem State.setOrder_ks : (s.setOrder q x).ks = s.ks := rfl
@[simp] theorem State.setOrder_pwr : (s.setOrder q x).pwr = s.pwr := rfl
@[simp] theorem State.setOrder_boot : (s.setOrder q x).boot = s.boot := rfl
end

section
variable (d : Nat) (x : LedgerEntry)
@[simp] theorem State.setLedger_pending : (s.setLedger d x).pending = s.pending := rfl
@[simp] theorem State.setLedger_regs : (s.setLedger d x).regs = s.regs := rfl
@[simp] theorem State.setLedger_holding : (s.setLedger d x).holding = s.holding := rfl
@[simp] theorem State.setLedger_readData : (s.setLedger d x).readData = s.readData := rfl
@[simp] theorem State.setLedger_counters : (s.setLedger d x).counters = s.counters := rfl
@[simp] theorem State.setLedger_hostMem : (s.setLedger d x).hostMem = s.hostMem := rfl
@[simp] theorem State.setLedger_emitted : (s.setLedger d x).emitted = s.emitted := rfl
@[simp] theorem State.setLedger_freeCount : (s.setLedger d x).freeCount = s.freeCount := rfl
@[simp] theorem State.setLedger_chip : (s.setLedger d x).chip = s.chip := rfl
@[simp] theorem State.setLedger_fc : (s.setLedger d x).fc = s.fc := rfl
@[simp] theorem State.setLedger_buf : (s.setLedger d x).buf = s.buf := rfl
@[simp] theorem State.setLedger_rx : (s.setLedger d x).rx = s.rx := rfl
@[simp] theorem State.setLedger_pipes : (s.setLedger d x).pipes = s.pipes := rfl
@[simp] theorem State.setLedger_progs : (s.setLedger d x).progs = s.progs := rfl
@[simp] theorem State.setLedger_tables : (s.setLedger d x).tables = s.tables := rfl
@[simp] theorem State.setLedger_trestle : (s.setLedger d x).trestle = s.trestle := rfl
@[simp] theorem State.setLedger_egr : (s.setLedger d x).egr = s.egr := rfl
@[simp] theorem State.setLedger_tel : (s.setLedger d x).tel = s.tel := rfl
@[simp] theorem State.setLedger_via : (s.setLedger d x).via = s.via := rfl
@[simp] theorem State.setLedger_cmp : (s.setLedger d x).cmp = s.cmp := rfl
@[simp] theorem State.setLedger_pierTx : (s.setLedger d x).pierTx = s.pierTx := rfl
@[simp] theorem State.setLedger_lanes : (s.setLedger d x).lanes = s.lanes := rfl
@[simp] theorem State.setLedger_piers : (s.setLedger d x).piers = s.piers := rfl
@[simp] theorem State.setLedger_time : (s.setLedger d x).time = s.time := rfl
@[simp] theorem State.setLedger_hq : (s.setLedger d x).hq = s.hq := rfl
@[simp] theorem State.setLedger_jrn : (s.setLedger d x).jrn = s.jrn := rfl
@[simp] theorem State.setLedger_ks : (s.setLedger d x).ks = s.ks := rfl
@[simp] theorem State.setLedger_pwr : (s.setLedger d x).pwr = s.pwr := rfl
@[simp] theorem State.setLedger_boot : (s.setLedger d x).boot = s.boot := rfl
end

section
variable (g n : Nat)
@[simp] theorem State.setReorderUse_pending : (s.setReorderUse g n).pending = s.pending := rfl
@[simp] theorem State.setReorderUse_regs : (s.setReorderUse g n).regs = s.regs := rfl
@[simp] theorem State.setReorderUse_holding : (s.setReorderUse g n).holding = s.holding := rfl
@[simp] theorem State.setReorderUse_readData : (s.setReorderUse g n).readData = s.readData := rfl
@[simp] theorem State.setReorderUse_counters : (s.setReorderUse g n).counters = s.counters := rfl
@[simp] theorem State.setReorderUse_hostMem : (s.setReorderUse g n).hostMem = s.hostMem := rfl
@[simp] theorem State.setReorderUse_emitted : (s.setReorderUse g n).emitted = s.emitted := rfl
@[simp] theorem State.setReorderUse_freeCount : (s.setReorderUse g n).freeCount = s.freeCount := rfl
@[simp] theorem State.setReorderUse_chip : (s.setReorderUse g n).chip = s.chip := rfl
@[simp] theorem State.setReorderUse_fc : (s.setReorderUse g n).fc = s.fc := rfl
@[simp] theorem State.setReorderUse_buf : (s.setReorderUse g n).buf = s.buf := rfl
@[simp] theorem State.setReorderUse_rx : (s.setReorderUse g n).rx = s.rx := rfl
@[simp] theorem State.setReorderUse_pipes : (s.setReorderUse g n).pipes = s.pipes := rfl
@[simp] theorem State.setReorderUse_progs : (s.setReorderUse g n).progs = s.progs := rfl
@[simp] theorem State.setReorderUse_tables : (s.setReorderUse g n).tables = s.tables := rfl
@[simp] theorem State.setReorderUse_trestle : (s.setReorderUse g n).trestle = s.trestle := rfl
@[simp] theorem State.setReorderUse_egr : (s.setReorderUse g n).egr = s.egr := rfl
@[simp] theorem State.setReorderUse_tel : (s.setReorderUse g n).tel = s.tel := rfl
@[simp] theorem State.setReorderUse_via : (s.setReorderUse g n).via = s.via := rfl
@[simp] theorem State.setReorderUse_cmp : (s.setReorderUse g n).cmp = s.cmp := rfl
@[simp] theorem State.setReorderUse_pierTx : (s.setReorderUse g n).pierTx = s.pierTx := rfl
@[simp] theorem State.setReorderUse_lanes : (s.setReorderUse g n).lanes = s.lanes := rfl
@[simp] theorem State.setReorderUse_piers : (s.setReorderUse g n).piers = s.piers := rfl
@[simp] theorem State.setReorderUse_time : (s.setReorderUse g n).time = s.time := rfl
@[simp] theorem State.setReorderUse_hq : (s.setReorderUse g n).hq = s.hq := rfl
@[simp] theorem State.setReorderUse_jrn : (s.setReorderUse g n).jrn = s.jrn := rfl
@[simp] theorem State.setReorderUse_ks : (s.setReorderUse g n).ks = s.ks := rfl
@[simp] theorem State.setReorderUse_pwr : (s.setReorderUse g n).pwr = s.pwr := rfl
@[simp] theorem State.setReorderUse_boot : (s.setReorderUse g n).boot = s.boot := rfl
end

section
variable (p : Nat) (x : Option TxCopy)
@[simp] theorem State.setTx_pending : (s.setTx p x).pending = s.pending := rfl
@[simp] theorem State.setTx_regs : (s.setTx p x).regs = s.regs := rfl
@[simp] theorem State.setTx_holding : (s.setTx p x).holding = s.holding := rfl
@[simp] theorem State.setTx_readData : (s.setTx p x).readData = s.readData := rfl
@[simp] theorem State.setTx_counters : (s.setTx p x).counters = s.counters := rfl
@[simp] theorem State.setTx_hostMem : (s.setTx p x).hostMem = s.hostMem := rfl
@[simp] theorem State.setTx_emitted : (s.setTx p x).emitted = s.emitted := rfl
@[simp] theorem State.setTx_freeCount : (s.setTx p x).freeCount = s.freeCount := rfl
@[simp] theorem State.setTx_chip : (s.setTx p x).chip = s.chip := rfl
@[simp] theorem State.setTx_fc : (s.setTx p x).fc = s.fc := rfl
@[simp] theorem State.setTx_buf : (s.setTx p x).buf = s.buf := rfl
@[simp] theorem State.setTx_rx : (s.setTx p x).rx = s.rx := rfl
@[simp] theorem State.setTx_pipes : (s.setTx p x).pipes = s.pipes := rfl
@[simp] theorem State.setTx_progs : (s.setTx p x).progs = s.progs := rfl
@[simp] theorem State.setTx_tables : (s.setTx p x).tables = s.tables := rfl
@[simp] theorem State.setTx_trestle : (s.setTx p x).trestle = s.trestle := rfl
@[simp] theorem State.setTx_ord : (s.setTx p x).ord = s.ord := rfl
@[simp] theorem State.setTx_tel : (s.setTx p x).tel = s.tel := rfl
@[simp] theorem State.setTx_via : (s.setTx p x).via = s.via := rfl
@[simp] theorem State.setTx_cmp : (s.setTx p x).cmp = s.cmp := rfl
@[simp] theorem State.setTx_pierTx : (s.setTx p x).pierTx = s.pierTx := rfl
@[simp] theorem State.setTx_lanes : (s.setTx p x).lanes = s.lanes := rfl
@[simp] theorem State.setTx_piers : (s.setTx p x).piers = s.piers := rfl
@[simp] theorem State.setTx_time : (s.setTx p x).time = s.time := rfl
@[simp] theorem State.setTx_hq : (s.setTx p x).hq = s.hq := rfl
@[simp] theorem State.setTx_jrn : (s.setTx p x).jrn = s.jrn := rfl
@[simp] theorem State.setTx_ks : (s.setTx p x).ks = s.ks := rfl
@[simp] theorem State.setTx_pwr : (s.setTx p x).pwr = s.pwr := rfl
@[simp] theorem State.setTx_boot : (s.setTx p x).boot = s.boot := rfl
end

section
variable (q : Nat) (l : List QEntry)
@[simp] theorem State.setQueue_pending : (s.setQueue q l).pending = s.pending := rfl
@[simp] theorem State.setQueue_regs : (s.setQueue q l).regs = s.regs := rfl
@[simp] theorem State.setQueue_holding : (s.setQueue q l).holding = s.holding := rfl
@[simp] theorem State.setQueue_readData : (s.setQueue q l).readData = s.readData := rfl
@[simp] theorem State.setQueue_counters : (s.setQueue q l).counters = s.counters := rfl
@[simp] theorem State.setQueue_hostMem : (s.setQueue q l).hostMem = s.hostMem := rfl
@[simp] theorem State.setQueue_emitted : (s.setQueue q l).emitted = s.emitted := rfl
@[simp] theorem State.setQueue_freeCount : (s.setQueue q l).freeCount = s.freeCount := rfl
@[simp] theorem State.setQueue_chip : (s.setQueue q l).chip = s.chip := rfl
@[simp] theorem State.setQueue_fc : (s.setQueue q l).fc = s.fc := rfl
@[simp] theorem State.setQueue_buf : (s.setQueue q l).buf = s.buf := rfl
@[simp] theorem State.setQueue_rx : (s.setQueue q l).rx = s.rx := rfl
@[simp] theorem State.setQueue_pipes : (s.setQueue q l).pipes = s.pipes := rfl
@[simp] theorem State.setQueue_progs : (s.setQueue q l).progs = s.progs := rfl
@[simp] theorem State.setQueue_tables : (s.setQueue q l).tables = s.tables := rfl
@[simp] theorem State.setQueue_trestle : (s.setQueue q l).trestle = s.trestle := rfl
@[simp] theorem State.setQueue_ord : (s.setQueue q l).ord = s.ord := rfl
@[simp] theorem State.setQueue_tel : (s.setQueue q l).tel = s.tel := rfl
@[simp] theorem State.setQueue_via : (s.setQueue q l).via = s.via := rfl
@[simp] theorem State.setQueue_cmp : (s.setQueue q l).cmp = s.cmp := rfl
@[simp] theorem State.setQueue_pierTx : (s.setQueue q l).pierTx = s.pierTx := rfl
@[simp] theorem State.setQueue_lanes : (s.setQueue q l).lanes = s.lanes := rfl
@[simp] theorem State.setQueue_piers : (s.setQueue q l).piers = s.piers := rfl
@[simp] theorem State.setQueue_time : (s.setQueue q l).time = s.time := rfl
@[simp] theorem State.setQueue_hq : (s.setQueue q l).hq = s.hq := rfl
@[simp] theorem State.setQueue_jrn : (s.setQueue q l).jrn = s.jrn := rfl
@[simp] theorem State.setQueue_ks : (s.setQueue q l).ks = s.ks := rfl
@[simp] theorem State.setQueue_pwr : (s.setQueue q l).pwr = s.pwr := rfl
@[simp] theorem State.setQueue_boot : (s.setQueue q l).boot = s.boot := rfl
end

section
variable (q : Nat) (l : List QEntry)
@[simp] theorem State.setAhead_pending : (s.setAhead q l).pending = s.pending := rfl
@[simp] theorem State.setAhead_regs : (s.setAhead q l).regs = s.regs := rfl
@[simp] theorem State.setAhead_holding : (s.setAhead q l).holding = s.holding := rfl
@[simp] theorem State.setAhead_readData : (s.setAhead q l).readData = s.readData := rfl
@[simp] theorem State.setAhead_counters : (s.setAhead q l).counters = s.counters := rfl
@[simp] theorem State.setAhead_hostMem : (s.setAhead q l).hostMem = s.hostMem := rfl
@[simp] theorem State.setAhead_emitted : (s.setAhead q l).emitted = s.emitted := rfl
@[simp] theorem State.setAhead_freeCount : (s.setAhead q l).freeCount = s.freeCount := rfl
@[simp] theorem State.setAhead_chip : (s.setAhead q l).chip = s.chip := rfl
@[simp] theorem State.setAhead_fc : (s.setAhead q l).fc = s.fc := rfl
@[simp] theorem State.setAhead_buf : (s.setAhead q l).buf = s.buf := rfl
@[simp] theorem State.setAhead_rx : (s.setAhead q l).rx = s.rx := rfl
@[simp] theorem State.setAhead_pipes : (s.setAhead q l).pipes = s.pipes := rfl
@[simp] theorem State.setAhead_progs : (s.setAhead q l).progs = s.progs := rfl
@[simp] theorem State.setAhead_tables : (s.setAhead q l).tables = s.tables := rfl
@[simp] theorem State.setAhead_trestle : (s.setAhead q l).trestle = s.trestle := rfl
@[simp] theorem State.setAhead_ord : (s.setAhead q l).ord = s.ord := rfl
@[simp] theorem State.setAhead_tel : (s.setAhead q l).tel = s.tel := rfl
@[simp] theorem State.setAhead_via : (s.setAhead q l).via = s.via := rfl
@[simp] theorem State.setAhead_cmp : (s.setAhead q l).cmp = s.cmp := rfl
@[simp] theorem State.setAhead_pierTx : (s.setAhead q l).pierTx = s.pierTx := rfl
@[simp] theorem State.setAhead_lanes : (s.setAhead q l).lanes = s.lanes := rfl
@[simp] theorem State.setAhead_piers : (s.setAhead q l).piers = s.piers := rfl
@[simp] theorem State.setAhead_time : (s.setAhead q l).time = s.time := rfl
@[simp] theorem State.setAhead_hq : (s.setAhead q l).hq = s.hq := rfl
@[simp] theorem State.setAhead_jrn : (s.setAhead q l).jrn = s.jrn := rfl
@[simp] theorem State.setAhead_ks : (s.setAhead q l).ks = s.ks := rfl
@[simp] theorem State.setAhead_pwr : (s.setAhead q l).pwr = s.pwr := rfl
@[simp] theorem State.setAhead_boot : (s.setAhead q l).boot = s.boot := rfl
end

section
variable (p : Nat) (x : ViaLink)
@[simp] theorem State.setVia_pending : (s.setVia p x).pending = s.pending := rfl
@[simp] theorem State.setVia_regs : (s.setVia p x).regs = s.regs := rfl
@[simp] theorem State.setVia_holding : (s.setVia p x).holding = s.holding := rfl
@[simp] theorem State.setVia_readData : (s.setVia p x).readData = s.readData := rfl
@[simp] theorem State.setVia_counters : (s.setVia p x).counters = s.counters := rfl
@[simp] theorem State.setVia_hostMem : (s.setVia p x).hostMem = s.hostMem := rfl
@[simp] theorem State.setVia_emitted : (s.setVia p x).emitted = s.emitted := rfl
@[simp] theorem State.setVia_freeCount : (s.setVia p x).freeCount = s.freeCount := rfl
@[simp] theorem State.setVia_chip : (s.setVia p x).chip = s.chip := rfl
@[simp] theorem State.setVia_fc : (s.setVia p x).fc = s.fc := rfl
@[simp] theorem State.setVia_buf : (s.setVia p x).buf = s.buf := rfl
@[simp] theorem State.setVia_rx : (s.setVia p x).rx = s.rx := rfl
@[simp] theorem State.setVia_pipes : (s.setVia p x).pipes = s.pipes := rfl
@[simp] theorem State.setVia_progs : (s.setVia p x).progs = s.progs := rfl
@[simp] theorem State.setVia_tables : (s.setVia p x).tables = s.tables := rfl
@[simp] theorem State.setVia_trestle : (s.setVia p x).trestle = s.trestle := rfl
@[simp] theorem State.setVia_ord : (s.setVia p x).ord = s.ord := rfl
@[simp] theorem State.setVia_egr : (s.setVia p x).egr = s.egr := rfl
@[simp] theorem State.setVia_tel : (s.setVia p x).tel = s.tel := rfl
@[simp] theorem State.setVia_cmp : (s.setVia p x).cmp = s.cmp := rfl
@[simp] theorem State.setVia_pierTx : (s.setVia p x).pierTx = s.pierTx := rfl
@[simp] theorem State.setVia_lanes : (s.setVia p x).lanes = s.lanes := rfl
@[simp] theorem State.setVia_piers : (s.setVia p x).piers = s.piers := rfl
@[simp] theorem State.setVia_time : (s.setVia p x).time = s.time := rfl
@[simp] theorem State.setVia_hq : (s.setVia p x).hq = s.hq := rfl
@[simp] theorem State.setVia_jrn : (s.setVia p x).jrn = s.jrn := rfl
@[simp] theorem State.setVia_ks : (s.setVia p x).ks = s.ks := rfl
@[simp] theorem State.setVia_pwr : (s.setVia p x).pwr = s.pwr := rfl
@[simp] theorem State.setVia_boot : (s.setVia p x).boot = s.boot := rfl
end

section
variable (g : Nat) (l : List Nat)
@[simp] theorem State.setArrivals_pending : (s.setArrivals g l).pending = s.pending := rfl
@[simp] theorem State.setArrivals_regs : (s.setArrivals g l).regs = s.regs := rfl
@[simp] theorem State.setArrivals_holding : (s.setArrivals g l).holding = s.holding := rfl
@[simp] theorem State.setArrivals_readData : (s.setArrivals g l).readData = s.readData := rfl
@[simp] theorem State.setArrivals_counters : (s.setArrivals g l).counters = s.counters := rfl
@[simp] theorem State.setArrivals_hostMem : (s.setArrivals g l).hostMem = s.hostMem := rfl
@[simp] theorem State.setArrivals_emitted : (s.setArrivals g l).emitted = s.emitted := rfl
@[simp] theorem State.setArrivals_freeCount : (s.setArrivals g l).freeCount = s.freeCount := rfl
@[simp] theorem State.setArrivals_chip : (s.setArrivals g l).chip = s.chip := rfl
@[simp] theorem State.setArrivals_fc : (s.setArrivals g l).fc = s.fc := rfl
@[simp] theorem State.setArrivals_buf : (s.setArrivals g l).buf = s.buf := rfl
@[simp] theorem State.setArrivals_pipes : (s.setArrivals g l).pipes = s.pipes := rfl
@[simp] theorem State.setArrivals_progs : (s.setArrivals g l).progs = s.progs := rfl
@[simp] theorem State.setArrivals_tables : (s.setArrivals g l).tables = s.tables := rfl
@[simp] theorem State.setArrivals_trestle : (s.setArrivals g l).trestle = s.trestle := rfl
@[simp] theorem State.setArrivals_ord : (s.setArrivals g l).ord = s.ord := rfl
@[simp] theorem State.setArrivals_egr : (s.setArrivals g l).egr = s.egr := rfl
@[simp] theorem State.setArrivals_tel : (s.setArrivals g l).tel = s.tel := rfl
@[simp] theorem State.setArrivals_via : (s.setArrivals g l).via = s.via := rfl
@[simp] theorem State.setArrivals_cmp : (s.setArrivals g l).cmp = s.cmp := rfl
@[simp] theorem State.setArrivals_pierTx : (s.setArrivals g l).pierTx = s.pierTx := rfl
@[simp] theorem State.setArrivals_lanes : (s.setArrivals g l).lanes = s.lanes := rfl
@[simp] theorem State.setArrivals_piers : (s.setArrivals g l).piers = s.piers := rfl
@[simp] theorem State.setArrivals_time : (s.setArrivals g l).time = s.time := rfl
@[simp] theorem State.setArrivals_hq : (s.setArrivals g l).hq = s.hq := rfl
@[simp] theorem State.setArrivals_jrn : (s.setArrivals g l).jrn = s.jrn := rfl
@[simp] theorem State.setArrivals_ks : (s.setArrivals g l).ks = s.ks := rfl
@[simp] theorem State.setArrivals_pwr : (s.setArrivals g l).pwr = s.pwr := rfl
@[simp] theorem State.setArrivals_boot : (s.setArrivals g l).boot = s.boot := rfl
end

section
variable (g : Nat) (l : List Nat)
@[simp] theorem State.setHostQueue_pending : (s.setHostQueue g l).pending = s.pending := rfl
@[simp] theorem State.setHostQueue_regs : (s.setHostQueue g l).regs = s.regs := rfl
@[simp] theorem State.setHostQueue_holding : (s.setHostQueue g l).holding = s.holding := rfl
@[simp] theorem State.setHostQueue_readData : (s.setHostQueue g l).readData = s.readData := rfl
@[simp] theorem State.setHostQueue_counters : (s.setHostQueue g l).counters = s.counters := rfl
@[simp] theorem State.setHostQueue_hostMem : (s.setHostQueue g l).hostMem = s.hostMem := rfl
@[simp] theorem State.setHostQueue_emitted : (s.setHostQueue g l).emitted = s.emitted := rfl
@[simp] theorem State.setHostQueue_freeCount : (s.setHostQueue g l).freeCount = s.freeCount := rfl
@[simp] theorem State.setHostQueue_chip : (s.setHostQueue g l).chip = s.chip := rfl
@[simp] theorem State.setHostQueue_fc : (s.setHostQueue g l).fc = s.fc := rfl
@[simp] theorem State.setHostQueue_buf : (s.setHostQueue g l).buf = s.buf := rfl
@[simp] theorem State.setHostQueue_rx : (s.setHostQueue g l).rx = s.rx := rfl
@[simp] theorem State.setHostQueue_progs : (s.setHostQueue g l).progs = s.progs := rfl
@[simp] theorem State.setHostQueue_tables : (s.setHostQueue g l).tables = s.tables := rfl
@[simp] theorem State.setHostQueue_trestle : (s.setHostQueue g l).trestle = s.trestle := rfl
@[simp] theorem State.setHostQueue_ord : (s.setHostQueue g l).ord = s.ord := rfl
@[simp] theorem State.setHostQueue_egr : (s.setHostQueue g l).egr = s.egr := rfl
@[simp] theorem State.setHostQueue_tel : (s.setHostQueue g l).tel = s.tel := rfl
@[simp] theorem State.setHostQueue_via : (s.setHostQueue g l).via = s.via := rfl
@[simp] theorem State.setHostQueue_cmp : (s.setHostQueue g l).cmp = s.cmp := rfl
@[simp] theorem State.setHostQueue_pierTx : (s.setHostQueue g l).pierTx = s.pierTx := rfl
@[simp] theorem State.setHostQueue_lanes : (s.setHostQueue g l).lanes = s.lanes := rfl
@[simp] theorem State.setHostQueue_piers : (s.setHostQueue g l).piers = s.piers := rfl
@[simp] theorem State.setHostQueue_time : (s.setHostQueue g l).time = s.time := rfl
@[simp] theorem State.setHostQueue_hq : (s.setHostQueue g l).hq = s.hq := rfl
@[simp] theorem State.setHostQueue_jrn : (s.setHostQueue g l).jrn = s.jrn := rfl
@[simp] theorem State.setHostQueue_ks : (s.setHostQueue g l).ks = s.ks := rfl
@[simp] theorem State.setHostQueue_pwr : (s.setHostQueue g l).pwr = s.pwr := rfl
@[simp] theorem State.setHostQueue_boot : (s.setHostQueue g l).boot = s.boot := rfl
end

section
variable (g : Nat) (l : List Nat)
@[simp] theorem State.setRecircQueue_pending : (s.setRecircQueue g l).pending = s.pending := rfl
@[simp] theorem State.setRecircQueue_regs : (s.setRecircQueue g l).regs = s.regs := rfl
@[simp] theorem State.setRecircQueue_holding : (s.setRecircQueue g l).holding = s.holding := rfl
@[simp] theorem State.setRecircQueue_readData : (s.setRecircQueue g l).readData = s.readData := rfl
@[simp] theorem State.setRecircQueue_counters : (s.setRecircQueue g l).counters = s.counters := rfl
@[simp] theorem State.setRecircQueue_hostMem : (s.setRecircQueue g l).hostMem = s.hostMem := rfl
@[simp] theorem State.setRecircQueue_emitted : (s.setRecircQueue g l).emitted = s.emitted := rfl
@[simp] theorem State.setRecircQueue_freeCount : (s.setRecircQueue g l).freeCount = s.freeCount := rfl
@[simp] theorem State.setRecircQueue_chip : (s.setRecircQueue g l).chip = s.chip := rfl
@[simp] theorem State.setRecircQueue_fc : (s.setRecircQueue g l).fc = s.fc := rfl
@[simp] theorem State.setRecircQueue_buf : (s.setRecircQueue g l).buf = s.buf := rfl
@[simp] theorem State.setRecircQueue_rx : (s.setRecircQueue g l).rx = s.rx := rfl
@[simp] theorem State.setRecircQueue_progs : (s.setRecircQueue g l).progs = s.progs := rfl
@[simp] theorem State.setRecircQueue_tables : (s.setRecircQueue g l).tables = s.tables := rfl
@[simp] theorem State.setRecircQueue_trestle : (s.setRecircQueue g l).trestle = s.trestle := rfl
@[simp] theorem State.setRecircQueue_ord : (s.setRecircQueue g l).ord = s.ord := rfl
@[simp] theorem State.setRecircQueue_egr : (s.setRecircQueue g l).egr = s.egr := rfl
@[simp] theorem State.setRecircQueue_tel : (s.setRecircQueue g l).tel = s.tel := rfl
@[simp] theorem State.setRecircQueue_via : (s.setRecircQueue g l).via = s.via := rfl
@[simp] theorem State.setRecircQueue_cmp : (s.setRecircQueue g l).cmp = s.cmp := rfl
@[simp] theorem State.setRecircQueue_pierTx : (s.setRecircQueue g l).pierTx = s.pierTx := rfl
@[simp] theorem State.setRecircQueue_lanes : (s.setRecircQueue g l).lanes = s.lanes := rfl
@[simp] theorem State.setRecircQueue_piers : (s.setRecircQueue g l).piers = s.piers := rfl
@[simp] theorem State.setRecircQueue_time : (s.setRecircQueue g l).time = s.time := rfl
@[simp] theorem State.setRecircQueue_hq : (s.setRecircQueue g l).hq = s.hq := rfl
@[simp] theorem State.setRecircQueue_jrn : (s.setRecircQueue g l).jrn = s.jrn := rfl
@[simp] theorem State.setRecircQueue_ks : (s.setRecircQueue g l).ks = s.ks := rfl
@[simp] theorem State.setRecircQueue_pwr : (s.setRecircQueue g l).pwr = s.pwr := rfl
@[simp] theorem State.setRecircQueue_boot : (s.setRecircQueue g l).boot = s.boot := rfl
end

section
variable (g : Nat) (l : List (Nat × QEntry))
@[simp] theorem State.setSelected_pending : (s.setSelected g l).pending = s.pending := rfl
@[simp] theorem State.setSelected_regs : (s.setSelected g l).regs = s.regs := rfl
@[simp] theorem State.setSelected_holding : (s.setSelected g l).holding = s.holding := rfl
@[simp] theorem State.setSelected_readData : (s.setSelected g l).readData = s.readData := rfl
@[simp] theorem State.setSelected_counters : (s.setSelected g l).counters = s.counters := rfl
@[simp] theorem State.setSelected_hostMem : (s.setSelected g l).hostMem = s.hostMem := rfl
@[simp] theorem State.setSelected_emitted : (s.setSelected g l).emitted = s.emitted := rfl
@[simp] theorem State.setSelected_freeCount : (s.setSelected g l).freeCount = s.freeCount := rfl
@[simp] theorem State.setSelected_chip : (s.setSelected g l).chip = s.chip := rfl
@[simp] theorem State.setSelected_fc : (s.setSelected g l).fc = s.fc := rfl
@[simp] theorem State.setSelected_buf : (s.setSelected g l).buf = s.buf := rfl
@[simp] theorem State.setSelected_rx : (s.setSelected g l).rx = s.rx := rfl
@[simp] theorem State.setSelected_progs : (s.setSelected g l).progs = s.progs := rfl
@[simp] theorem State.setSelected_tables : (s.setSelected g l).tables = s.tables := rfl
@[simp] theorem State.setSelected_trestle : (s.setSelected g l).trestle = s.trestle := rfl
@[simp] theorem State.setSelected_ord : (s.setSelected g l).ord = s.ord := rfl
@[simp] theorem State.setSelected_egr : (s.setSelected g l).egr = s.egr := rfl
@[simp] theorem State.setSelected_tel : (s.setSelected g l).tel = s.tel := rfl
@[simp] theorem State.setSelected_via : (s.setSelected g l).via = s.via := rfl
@[simp] theorem State.setSelected_cmp : (s.setSelected g l).cmp = s.cmp := rfl
@[simp] theorem State.setSelected_pierTx : (s.setSelected g l).pierTx = s.pierTx := rfl
@[simp] theorem State.setSelected_lanes : (s.setSelected g l).lanes = s.lanes := rfl
@[simp] theorem State.setSelected_piers : (s.setSelected g l).piers = s.piers := rfl
@[simp] theorem State.setSelected_time : (s.setSelected g l).time = s.time := rfl
@[simp] theorem State.setSelected_hq : (s.setSelected g l).hq = s.hq := rfl
@[simp] theorem State.setSelected_jrn : (s.setSelected g l).jrn = s.jrn := rfl
@[simp] theorem State.setSelected_ks : (s.setSelected g l).ks = s.ks := rfl
@[simp] theorem State.setSelected_pwr : (s.setSelected g l).pwr = s.pwr := rfl
@[simp] theorem State.setSelected_boot : (s.setSelected g l).boot = s.boot := rfl
end

section
variable (v : Nat) (x : Voq)
@[simp] theorem State.setVoq_pending : (s.setVoq v x).pending = s.pending := rfl
@[simp] theorem State.setVoq_regs : (s.setVoq v x).regs = s.regs := rfl
@[simp] theorem State.setVoq_holding : (s.setVoq v x).holding = s.holding := rfl
@[simp] theorem State.setVoq_readData : (s.setVoq v x).readData = s.readData := rfl
@[simp] theorem State.setVoq_counters : (s.setVoq v x).counters = s.counters := rfl
@[simp] theorem State.setVoq_hostMem : (s.setVoq v x).hostMem = s.hostMem := rfl
@[simp] theorem State.setVoq_emitted : (s.setVoq v x).emitted = s.emitted := rfl
@[simp] theorem State.setVoq_freeCount : (s.setVoq v x).freeCount = s.freeCount := rfl
@[simp] theorem State.setVoq_chip : (s.setVoq v x).chip = s.chip := rfl
@[simp] theorem State.setVoq_fc : (s.setVoq v x).fc = s.fc := rfl
@[simp] theorem State.setVoq_buf : (s.setVoq v x).buf = s.buf := rfl
@[simp] theorem State.setVoq_rx : (s.setVoq v x).rx = s.rx := rfl
@[simp] theorem State.setVoq_pipes : (s.setVoq v x).pipes = s.pipes := rfl
@[simp] theorem State.setVoq_progs : (s.setVoq v x).progs = s.progs := rfl
@[simp] theorem State.setVoq_tables : (s.setVoq v x).tables = s.tables := rfl
@[simp] theorem State.setVoq_trestle : (s.setVoq v x).trestle = s.trestle := rfl
@[simp] theorem State.setVoq_ord : (s.setVoq v x).ord = s.ord := rfl
@[simp] theorem State.setVoq_egr : (s.setVoq v x).egr = s.egr := rfl
@[simp] theorem State.setVoq_tel : (s.setVoq v x).tel = s.tel := rfl
@[simp] theorem State.setVoq_via : (s.setVoq v x).via = s.via := rfl
@[simp] theorem State.setVoq_pierTx : (s.setVoq v x).pierTx = s.pierTx := rfl
@[simp] theorem State.setVoq_lanes : (s.setVoq v x).lanes = s.lanes := rfl
@[simp] theorem State.setVoq_piers : (s.setVoq v x).piers = s.piers := rfl
@[simp] theorem State.setVoq_time : (s.setVoq v x).time = s.time := rfl
@[simp] theorem State.setVoq_hq : (s.setVoq v x).hq = s.hq := rfl
@[simp] theorem State.setVoq_jrn : (s.setVoq v x).jrn = s.jrn := rfl
@[simp] theorem State.setVoq_ks : (s.setVoq v x).ks = s.ks := rfl
@[simp] theorem State.setVoq_pwr : (s.setVoq v x).pwr = s.pwr := rfl
@[simp] theorem State.setVoq_boot : (s.setVoq v x).boot = s.boot := rfl
end

section
variable (party : Nat)
@[simp] theorem State.fence_pending : (s.fence party).pending = s.pending := rfl
@[simp] theorem State.fence_regs : (s.fence party).regs = s.regs := rfl
@[simp] theorem State.fence_holding : (s.fence party).holding = s.holding := rfl
@[simp] theorem State.fence_readData : (s.fence party).readData = s.readData := rfl
@[simp] theorem State.fence_counters : (s.fence party).counters = s.counters := rfl
@[simp] theorem State.fence_hostMem : (s.fence party).hostMem = s.hostMem := rfl
@[simp] theorem State.fence_emitted : (s.fence party).emitted = s.emitted := rfl
@[simp] theorem State.fence_freeCount : (s.fence party).freeCount = s.freeCount := rfl
@[simp] theorem State.fence_chip : (s.fence party).chip = s.chip := rfl
@[simp] theorem State.fence_buf : (s.fence party).buf = s.buf := rfl
@[simp] theorem State.fence_rx : (s.fence party).rx = s.rx := rfl
@[simp] theorem State.fence_pipes : (s.fence party).pipes = s.pipes := rfl
@[simp] theorem State.fence_progs : (s.fence party).progs = s.progs := rfl
@[simp] theorem State.fence_tables : (s.fence party).tables = s.tables := rfl
@[simp] theorem State.fence_trestle : (s.fence party).trestle = s.trestle := rfl
@[simp] theorem State.fence_ord : (s.fence party).ord = s.ord := rfl
@[simp] theorem State.fence_egr : (s.fence party).egr = s.egr := rfl
@[simp] theorem State.fence_tel : (s.fence party).tel = s.tel := rfl
@[simp] theorem State.fence_via : (s.fence party).via = s.via := rfl
@[simp] theorem State.fence_cmp : (s.fence party).cmp = s.cmp := rfl
@[simp] theorem State.fence_pierTx : (s.fence party).pierTx = s.pierTx := rfl
@[simp] theorem State.fence_lanes : (s.fence party).lanes = s.lanes := rfl
@[simp] theorem State.fence_piers : (s.fence party).piers = s.piers := rfl
@[simp] theorem State.fence_time : (s.fence party).time = s.time := rfl
@[simp] theorem State.fence_hq : (s.fence party).hq = s.hq := rfl
@[simp] theorem State.fence_jrn : (s.fence party).jrn = s.jrn := rfl
@[simp] theorem State.fence_ks : (s.fence party).ks = s.ks := rfl
@[simp] theorem State.fence_pwr : (s.fence party).pwr = s.pwr := rfl
@[simp] theorem State.fence_boot : (s.fence party).boot = s.boot := rfl
end

section
variable (party : Nat)
@[simp] theorem State.unfence_pending : (s.unfence party).pending = s.pending := rfl
@[simp] theorem State.unfence_regs : (s.unfence party).regs = s.regs := rfl
@[simp] theorem State.unfence_holding : (s.unfence party).holding = s.holding := rfl
@[simp] theorem State.unfence_readData : (s.unfence party).readData = s.readData := rfl
@[simp] theorem State.unfence_counters : (s.unfence party).counters = s.counters := rfl
@[simp] theorem State.unfence_hostMem : (s.unfence party).hostMem = s.hostMem := rfl
@[simp] theorem State.unfence_emitted : (s.unfence party).emitted = s.emitted := rfl
@[simp] theorem State.unfence_freeCount : (s.unfence party).freeCount = s.freeCount := rfl
@[simp] theorem State.unfence_chip : (s.unfence party).chip = s.chip := rfl
@[simp] theorem State.unfence_buf : (s.unfence party).buf = s.buf := rfl
@[simp] theorem State.unfence_rx : (s.unfence party).rx = s.rx := rfl
@[simp] theorem State.unfence_pipes : (s.unfence party).pipes = s.pipes := rfl
@[simp] theorem State.unfence_progs : (s.unfence party).progs = s.progs := rfl
@[simp] theorem State.unfence_tables : (s.unfence party).tables = s.tables := rfl
@[simp] theorem State.unfence_trestle : (s.unfence party).trestle = s.trestle := rfl
@[simp] theorem State.unfence_ord : (s.unfence party).ord = s.ord := rfl
@[simp] theorem State.unfence_egr : (s.unfence party).egr = s.egr := rfl
@[simp] theorem State.unfence_tel : (s.unfence party).tel = s.tel := rfl
@[simp] theorem State.unfence_via : (s.unfence party).via = s.via := rfl
@[simp] theorem State.unfence_cmp : (s.unfence party).cmp = s.cmp := rfl
@[simp] theorem State.unfence_pierTx : (s.unfence party).pierTx = s.pierTx := rfl
@[simp] theorem State.unfence_lanes : (s.unfence party).lanes = s.lanes := rfl
@[simp] theorem State.unfence_piers : (s.unfence party).piers = s.piers := rfl
@[simp] theorem State.unfence_time : (s.unfence party).time = s.time := rfl
@[simp] theorem State.unfence_hq : (s.unfence party).hq = s.hq := rfl
@[simp] theorem State.unfence_jrn : (s.unfence party).jrn = s.jrn := rfl
@[simp] theorem State.unfence_ks : (s.unfence party).ks = s.ks := rfl
@[simp] theorem State.unfence_pwr : (s.unfence party).pwr = s.pwr := rfl
@[simp] theorem State.unfence_boot : (s.unfence party).boot = s.boot := rfl
end

section
variable (c : Nat) (x : LinkWord)
@[simp] theorem State.setLink_pending : (s.setLink c x).pending = s.pending := rfl
@[simp] theorem State.setLink_regs : (s.setLink c x).regs = s.regs := rfl
@[simp] theorem State.setLink_holding : (s.setLink c x).holding = s.holding := rfl
@[simp] theorem State.setLink_readData : (s.setLink c x).readData = s.readData := rfl
@[simp] theorem State.setLink_counters : (s.setLink c x).counters = s.counters := rfl
@[simp] theorem State.setLink_hostMem : (s.setLink c x).hostMem = s.hostMem := rfl
@[simp] theorem State.setLink_emitted : (s.setLink c x).emitted = s.emitted := rfl
@[simp] theorem State.setLink_freeCount : (s.setLink c x).freeCount = s.freeCount := rfl
@[simp] theorem State.setLink_chip : (s.setLink c x).chip = s.chip := rfl
@[simp] theorem State.setLink_fc : (s.setLink c x).fc = s.fc := rfl
@[simp] theorem State.setLink_rx : (s.setLink c x).rx = s.rx := rfl
@[simp] theorem State.setLink_pipes : (s.setLink c x).pipes = s.pipes := rfl
@[simp] theorem State.setLink_progs : (s.setLink c x).progs = s.progs := rfl
@[simp] theorem State.setLink_tables : (s.setLink c x).tables = s.tables := rfl
@[simp] theorem State.setLink_trestle : (s.setLink c x).trestle = s.trestle := rfl
@[simp] theorem State.setLink_ord : (s.setLink c x).ord = s.ord := rfl
@[simp] theorem State.setLink_egr : (s.setLink c x).egr = s.egr := rfl
@[simp] theorem State.setLink_tel : (s.setLink c x).tel = s.tel := rfl
@[simp] theorem State.setLink_via : (s.setLink c x).via = s.via := rfl
@[simp] theorem State.setLink_cmp : (s.setLink c x).cmp = s.cmp := rfl
@[simp] theorem State.setLink_pierTx : (s.setLink c x).pierTx = s.pierTx := rfl
@[simp] theorem State.setLink_lanes : (s.setLink c x).lanes = s.lanes := rfl
@[simp] theorem State.setLink_piers : (s.setLink c x).piers = s.piers := rfl
@[simp] theorem State.setLink_time : (s.setLink c x).time = s.time := rfl
@[simp] theorem State.setLink_hq : (s.setLink c x).hq = s.hq := rfl
@[simp] theorem State.setLink_jrn : (s.setLink c x).jrn = s.jrn := rfl
@[simp] theorem State.setLink_ks : (s.setLink c x).ks = s.ks := rfl
@[simp] theorem State.setLink_pwr : (s.setLink c x).pwr = s.pwr := rfl
@[simp] theorem State.setLink_boot : (s.setLink c x).boot = s.boot := rfl
end

section
variable (g : Nat) (x : FreeList)
@[simp] theorem State.setFree_pending : (s.setFree g x).pending = s.pending := rfl
@[simp] theorem State.setFree_regs : (s.setFree g x).regs = s.regs := rfl
@[simp] theorem State.setFree_holding : (s.setFree g x).holding = s.holding := rfl
@[simp] theorem State.setFree_readData : (s.setFree g x).readData = s.readData := rfl
@[simp] theorem State.setFree_counters : (s.setFree g x).counters = s.counters := rfl
@[simp] theorem State.setFree_hostMem : (s.setFree g x).hostMem = s.hostMem := rfl
@[simp] theorem State.setFree_emitted : (s.setFree g x).emitted = s.emitted := rfl
@[simp] theorem State.setFree_freeCount : (s.setFree g x).freeCount = s.freeCount := rfl
@[simp] theorem State.setFree_chip : (s.setFree g x).chip = s.chip := rfl
@[simp] theorem State.setFree_fc : (s.setFree g x).fc = s.fc := rfl
@[simp] theorem State.setFree_rx : (s.setFree g x).rx = s.rx := rfl
@[simp] theorem State.setFree_pipes : (s.setFree g x).pipes = s.pipes := rfl
@[simp] theorem State.setFree_progs : (s.setFree g x).progs = s.progs := rfl
@[simp] theorem State.setFree_tables : (s.setFree g x).tables = s.tables := rfl
@[simp] theorem State.setFree_trestle : (s.setFree g x).trestle = s.trestle := rfl
@[simp] theorem State.setFree_ord : (s.setFree g x).ord = s.ord := rfl
@[simp] theorem State.setFree_egr : (s.setFree g x).egr = s.egr := rfl
@[simp] theorem State.setFree_tel : (s.setFree g x).tel = s.tel := rfl
@[simp] theorem State.setFree_via : (s.setFree g x).via = s.via := rfl
@[simp] theorem State.setFree_cmp : (s.setFree g x).cmp = s.cmp := rfl
@[simp] theorem State.setFree_pierTx : (s.setFree g x).pierTx = s.pierTx := rfl
@[simp] theorem State.setFree_lanes : (s.setFree g x).lanes = s.lanes := rfl
@[simp] theorem State.setFree_piers : (s.setFree g x).piers = s.piers := rfl
@[simp] theorem State.setFree_time : (s.setFree g x).time = s.time := rfl
@[simp] theorem State.setFree_hq : (s.setFree g x).hq = s.hq := rfl
@[simp] theorem State.setFree_jrn : (s.setFree g x).jrn = s.jrn := rfl
@[simp] theorem State.setFree_ks : (s.setFree g x).ks = s.ks := rfl
@[simp] theorem State.setFree_pwr : (s.setFree g x).pwr = s.pwr := rfl
@[simp] theorem State.setFree_boot : (s.setFree g x).boot = s.boot := rfl
end

section
variable (q : Nat) (x : PairUse)
@[simp] theorem State.setPairUse_pending : (s.setPairUse q x).pending = s.pending := rfl
@[simp] theorem State.setPairUse_regs : (s.setPairUse q x).regs = s.regs := rfl
@[simp] theorem State.setPairUse_holding : (s.setPairUse q x).holding = s.holding := rfl
@[simp] theorem State.setPairUse_readData : (s.setPairUse q x).readData = s.readData := rfl
@[simp] theorem State.setPairUse_counters : (s.setPairUse q x).counters = s.counters := rfl
@[simp] theorem State.setPairUse_hostMem : (s.setPairUse q x).hostMem = s.hostMem := rfl
@[simp] theorem State.setPairUse_emitted : (s.setPairUse q x).emitted = s.emitted := rfl
@[simp] theorem State.setPairUse_freeCount : (s.setPairUse q x).freeCount = s.freeCount := rfl
@[simp] theorem State.setPairUse_chip : (s.setPairUse q x).chip = s.chip := rfl
@[simp] theorem State.setPairUse_fc : (s.setPairUse q x).fc = s.fc := rfl
@[simp] theorem State.setPairUse_rx : (s.setPairUse q x).rx = s.rx := rfl
@[simp] theorem State.setPairUse_pipes : (s.setPairUse q x).pipes = s.pipes := rfl
@[simp] theorem State.setPairUse_progs : (s.setPairUse q x).progs = s.progs := rfl
@[simp] theorem State.setPairUse_tables : (s.setPairUse q x).tables = s.tables := rfl
@[simp] theorem State.setPairUse_trestle : (s.setPairUse q x).trestle = s.trestle := rfl
@[simp] theorem State.setPairUse_ord : (s.setPairUse q x).ord = s.ord := rfl
@[simp] theorem State.setPairUse_egr : (s.setPairUse q x).egr = s.egr := rfl
@[simp] theorem State.setPairUse_tel : (s.setPairUse q x).tel = s.tel := rfl
@[simp] theorem State.setPairUse_via : (s.setPairUse q x).via = s.via := rfl
@[simp] theorem State.setPairUse_cmp : (s.setPairUse q x).cmp = s.cmp := rfl
@[simp] theorem State.setPairUse_pierTx : (s.setPairUse q x).pierTx = s.pierTx := rfl
@[simp] theorem State.setPairUse_lanes : (s.setPairUse q x).lanes = s.lanes := rfl
@[simp] theorem State.setPairUse_piers : (s.setPairUse q x).piers = s.piers := rfl
@[simp] theorem State.setPairUse_time : (s.setPairUse q x).time = s.time := rfl
@[simp] theorem State.setPairUse_hq : (s.setPairUse q x).hq = s.hq := rfl
@[simp] theorem State.setPairUse_jrn : (s.setPairUse q x).jrn = s.jrn := rfl
@[simp] theorem State.setPairUse_ks : (s.setPairUse q x).ks = s.ks := rfl
@[simp] theorem State.setPairUse_pwr : (s.setPairUse q x).pwr = s.pwr := rfl
@[simp] theorem State.setPairUse_boot : (s.setPairUse q x).boot = s.boot := rfl
end

section
variable (c n : Nat)
@[simp] theorem State.setClsShared_pending : (s.setClsShared c n).pending = s.pending := rfl
@[simp] theorem State.setClsShared_regs : (s.setClsShared c n).regs = s.regs := rfl
@[simp] theorem State.setClsShared_holding : (s.setClsShared c n).holding = s.holding := rfl
@[simp] theorem State.setClsShared_readData : (s.setClsShared c n).readData = s.readData := rfl
@[simp] theorem State.setClsShared_counters : (s.setClsShared c n).counters = s.counters := rfl
@[simp] theorem State.setClsShared_hostMem : (s.setClsShared c n).hostMem = s.hostMem := rfl
@[simp] theorem State.setClsShared_emitted : (s.setClsShared c n).emitted = s.emitted := rfl
@[simp] theorem State.setClsShared_freeCount : (s.setClsShared c n).freeCount = s.freeCount := rfl
@[simp] theorem State.setClsShared_chip : (s.setClsShared c n).chip = s.chip := rfl
@[simp] theorem State.setClsShared_fc : (s.setClsShared c n).fc = s.fc := rfl
@[simp] theorem State.setClsShared_rx : (s.setClsShared c n).rx = s.rx := rfl
@[simp] theorem State.setClsShared_pipes : (s.setClsShared c n).pipes = s.pipes := rfl
@[simp] theorem State.setClsShared_progs : (s.setClsShared c n).progs = s.progs := rfl
@[simp] theorem State.setClsShared_tables : (s.setClsShared c n).tables = s.tables := rfl
@[simp] theorem State.setClsShared_trestle : (s.setClsShared c n).trestle = s.trestle := rfl
@[simp] theorem State.setClsShared_ord : (s.setClsShared c n).ord = s.ord := rfl
@[simp] theorem State.setClsShared_egr : (s.setClsShared c n).egr = s.egr := rfl
@[simp] theorem State.setClsShared_tel : (s.setClsShared c n).tel = s.tel := rfl
@[simp] theorem State.setClsShared_via : (s.setClsShared c n).via = s.via := rfl
@[simp] theorem State.setClsShared_cmp : (s.setClsShared c n).cmp = s.cmp := rfl
@[simp] theorem State.setClsShared_pierTx : (s.setClsShared c n).pierTx = s.pierTx := rfl
@[simp] theorem State.setClsShared_lanes : (s.setClsShared c n).lanes = s.lanes := rfl
@[simp] theorem State.setClsShared_piers : (s.setClsShared c n).piers = s.piers := rfl
@[simp] theorem State.setClsShared_time : (s.setClsShared c n).time = s.time := rfl
@[simp] theorem State.setClsShared_hq : (s.setClsShared c n).hq = s.hq := rfl
@[simp] theorem State.setClsShared_jrn : (s.setClsShared c n).jrn = s.jrn := rfl
@[simp] theorem State.setClsShared_ks : (s.setClsShared c n).ks = s.ks := rfl
@[simp] theorem State.setClsShared_pwr : (s.setClsShared c n).pwr = s.pwr := rfl
@[simp] theorem State.setClsShared_boot : (s.setClsShared c n).boot = s.boot := rfl
end

section
variable (p n : Nat)
@[simp] theorem State.setHeadUse_pending : (s.setHeadUse p n).pending = s.pending := rfl
@[simp] theorem State.setHeadUse_regs : (s.setHeadUse p n).regs = s.regs := rfl
@[simp] theorem State.setHeadUse_holding : (s.setHeadUse p n).holding = s.holding := rfl
@[simp] theorem State.setHeadUse_readData : (s.setHeadUse p n).readData = s.readData := rfl
@[simp] theorem State.setHeadUse_counters : (s.setHeadUse p n).counters = s.counters := rfl
@[simp] theorem State.setHeadUse_hostMem : (s.setHeadUse p n).hostMem = s.hostMem := rfl
@[simp] theorem State.setHeadUse_emitted : (s.setHeadUse p n).emitted = s.emitted := rfl
@[simp] theorem State.setHeadUse_freeCount : (s.setHeadUse p n).freeCount = s.freeCount := rfl
@[simp] theorem State.setHeadUse_chip : (s.setHeadUse p n).chip = s.chip := rfl
@[simp] theorem State.setHeadUse_fc : (s.setHeadUse p n).fc = s.fc := rfl
@[simp] theorem State.setHeadUse_rx : (s.setHeadUse p n).rx = s.rx := rfl
@[simp] theorem State.setHeadUse_pipes : (s.setHeadUse p n).pipes = s.pipes := rfl
@[simp] theorem State.setHeadUse_progs : (s.setHeadUse p n).progs = s.progs := rfl
@[simp] theorem State.setHeadUse_tables : (s.setHeadUse p n).tables = s.tables := rfl
@[simp] theorem State.setHeadUse_trestle : (s.setHeadUse p n).trestle = s.trestle := rfl
@[simp] theorem State.setHeadUse_ord : (s.setHeadUse p n).ord = s.ord := rfl
@[simp] theorem State.setHeadUse_egr : (s.setHeadUse p n).egr = s.egr := rfl
@[simp] theorem State.setHeadUse_tel : (s.setHeadUse p n).tel = s.tel := rfl
@[simp] theorem State.setHeadUse_via : (s.setHeadUse p n).via = s.via := rfl
@[simp] theorem State.setHeadUse_cmp : (s.setHeadUse p n).cmp = s.cmp := rfl
@[simp] theorem State.setHeadUse_pierTx : (s.setHeadUse p n).pierTx = s.pierTx := rfl
@[simp] theorem State.setHeadUse_lanes : (s.setHeadUse p n).lanes = s.lanes := rfl
@[simp] theorem State.setHeadUse_piers : (s.setHeadUse p n).piers = s.piers := rfl
@[simp] theorem State.setHeadUse_time : (s.setHeadUse p n).time = s.time := rfl
@[simp] theorem State.setHeadUse_hq : (s.setHeadUse p n).hq = s.hq := rfl
@[simp] theorem State.setHeadUse_jrn : (s.setHeadUse p n).jrn = s.jrn := rfl
@[simp] theorem State.setHeadUse_ks : (s.setHeadUse p n).ks = s.ks := rfl
@[simp] theorem State.setHeadUse_pwr : (s.setHeadUse p n).pwr = s.pwr := rfl
@[simp] theorem State.setHeadUse_boot : (s.setHeadUse p n).boot = s.boot := rfl
end

section
variable (n : Nat) (x : PierRec)
@[simp] theorem State.setPier_pending : (s.setPier n x).pending = s.pending := rfl
@[simp] theorem State.setPier_regs : (s.setPier n x).regs = s.regs := rfl
@[simp] theorem State.setPier_holding : (s.setPier n x).holding = s.holding := rfl
@[simp] theorem State.setPier_readData : (s.setPier n x).readData = s.readData := rfl
@[simp] theorem State.setPier_counters : (s.setPier n x).counters = s.counters := rfl
@[simp] theorem State.setPier_hostMem : (s.setPier n x).hostMem = s.hostMem := rfl
@[simp] theorem State.setPier_emitted : (s.setPier n x).emitted = s.emitted := rfl
@[simp] theorem State.setPier_freeCount : (s.setPier n x).freeCount = s.freeCount := rfl
@[simp] theorem State.setPier_chip : (s.setPier n x).chip = s.chip := rfl
@[simp] theorem State.setPier_fc : (s.setPier n x).fc = s.fc := rfl
@[simp] theorem State.setPier_buf : (s.setPier n x).buf = s.buf := rfl
@[simp] theorem State.setPier_rx : (s.setPier n x).rx = s.rx := rfl
@[simp] theorem State.setPier_pipes : (s.setPier n x).pipes = s.pipes := rfl
@[simp] theorem State.setPier_progs : (s.setPier n x).progs = s.progs := rfl
@[simp] theorem State.setPier_tables : (s.setPier n x).tables = s.tables := rfl
@[simp] theorem State.setPier_trestle : (s.setPier n x).trestle = s.trestle := rfl
@[simp] theorem State.setPier_ord : (s.setPier n x).ord = s.ord := rfl
@[simp] theorem State.setPier_egr : (s.setPier n x).egr = s.egr := rfl
@[simp] theorem State.setPier_tel : (s.setPier n x).tel = s.tel := rfl
@[simp] theorem State.setPier_via : (s.setPier n x).via = s.via := rfl
@[simp] theorem State.setPier_cmp : (s.setPier n x).cmp = s.cmp := rfl
@[simp] theorem State.setPier_pierTx : (s.setPier n x).pierTx = s.pierTx := rfl
@[simp] theorem State.setPier_lanes : (s.setPier n x).lanes = s.lanes := rfl
@[simp] theorem State.setPier_time : (s.setPier n x).time = s.time := rfl
@[simp] theorem State.setPier_hq : (s.setPier n x).hq = s.hq := rfl
@[simp] theorem State.setPier_jrn : (s.setPier n x).jrn = s.jrn := rfl
@[simp] theorem State.setPier_ks : (s.setPier n x).ks = s.ks := rfl
@[simp] theorem State.setPier_pwr : (s.setPier n x).pwr = s.pwr := rfl
@[simp] theorem State.setPier_boot : (s.setPier n x).boot = s.boot := rfl
end

section
variable (v : Vote)
@[simp] theorem State.putVote_pending : (s.putVote v).pending = s.pending := rfl
@[simp] theorem State.putVote_regs : (s.putVote v).regs = s.regs := rfl
@[simp] theorem State.putVote_holding : (s.putVote v).holding = s.holding := rfl
@[simp] theorem State.putVote_readData : (s.putVote v).readData = s.readData := rfl
@[simp] theorem State.putVote_counters : (s.putVote v).counters = s.counters := rfl
@[simp] theorem State.putVote_hostMem : (s.putVote v).hostMem = s.hostMem := rfl
@[simp] theorem State.putVote_emitted : (s.putVote v).emitted = s.emitted := rfl
@[simp] theorem State.putVote_freeCount : (s.putVote v).freeCount = s.freeCount := rfl
@[simp] theorem State.putVote_chip : (s.putVote v).chip = s.chip := rfl
@[simp] theorem State.putVote_fc : (s.putVote v).fc = s.fc := rfl
@[simp] theorem State.putVote_buf : (s.putVote v).buf = s.buf := rfl
@[simp] theorem State.putVote_rx : (s.putVote v).rx = s.rx := rfl
@[simp] theorem State.putVote_pipes : (s.putVote v).pipes = s.pipes := rfl
@[simp] theorem State.putVote_progs : (s.putVote v).progs = s.progs := rfl
@[simp] theorem State.putVote_tables : (s.putVote v).tables = s.tables := rfl
@[simp] theorem State.putVote_trestle : (s.putVote v).trestle = s.trestle := rfl
@[simp] theorem State.putVote_ord : (s.putVote v).ord = s.ord := rfl
@[simp] theorem State.putVote_egr : (s.putVote v).egr = s.egr := rfl
@[simp] theorem State.putVote_tel : (s.putVote v).tel = s.tel := rfl
@[simp] theorem State.putVote_via : (s.putVote v).via = s.via := rfl
@[simp] theorem State.putVote_cmp : (s.putVote v).cmp = s.cmp := rfl
@[simp] theorem State.putVote_pierTx : (s.putVote v).pierTx = s.pierTx := rfl
@[simp] theorem State.putVote_lanes : (s.putVote v).lanes = s.lanes := rfl
@[simp] theorem State.putVote_piers : (s.putVote v).piers = s.piers := rfl
@[simp] theorem State.putVote_time : (s.putVote v).time = s.time := rfl
@[simp] theorem State.putVote_hq : (s.putVote v).hq = s.hq := rfl
@[simp] theorem State.putVote_jrn : (s.putVote v).jrn = s.jrn := rfl
@[simp] theorem State.putVote_ks : (s.putVote v).ks = s.ks := rfl
@[simp] theorem State.putVote_boot : (s.putVote v).boot = s.boot := rfl
end

section
variable (span : Nat) (x : Trestle)
@[simp] theorem State.setEngine_pending : (s.setEngine span x).pending = s.pending := rfl
@[simp] theorem State.setEngine_regs : (s.setEngine span x).regs = s.regs := rfl
@[simp] theorem State.setEngine_holding : (s.setEngine span x).holding = s.holding := rfl
@[simp] theorem State.setEngine_readData : (s.setEngine span x).readData = s.readData := rfl
@[simp] theorem State.setEngine_counters : (s.setEngine span x).counters = s.counters := rfl
@[simp] theorem State.setEngine_hostMem : (s.setEngine span x).hostMem = s.hostMem := rfl
@[simp] theorem State.setEngine_emitted : (s.setEngine span x).emitted = s.emitted := rfl
@[simp] theorem State.setEngine_freeCount : (s.setEngine span x).freeCount = s.freeCount := rfl
@[simp] theorem State.setEngine_chip : (s.setEngine span x).chip = s.chip := rfl
@[simp] theorem State.setEngine_fc : (s.setEngine span x).fc = s.fc := rfl
@[simp] theorem State.setEngine_buf : (s.setEngine span x).buf = s.buf := rfl
@[simp] theorem State.setEngine_rx : (s.setEngine span x).rx = s.rx := rfl
@[simp] theorem State.setEngine_pipes : (s.setEngine span x).pipes = s.pipes := rfl
@[simp] theorem State.setEngine_progs : (s.setEngine span x).progs = s.progs := rfl
@[simp] theorem State.setEngine_tables : (s.setEngine span x).tables = s.tables := rfl
@[simp] theorem State.setEngine_ord : (s.setEngine span x).ord = s.ord := rfl
@[simp] theorem State.setEngine_egr : (s.setEngine span x).egr = s.egr := rfl
@[simp] theorem State.setEngine_tel : (s.setEngine span x).tel = s.tel := rfl
@[simp] theorem State.setEngine_via : (s.setEngine span x).via = s.via := rfl
@[simp] theorem State.setEngine_cmp : (s.setEngine span x).cmp = s.cmp := rfl
@[simp] theorem State.setEngine_pierTx : (s.setEngine span x).pierTx = s.pierTx := rfl
@[simp] theorem State.setEngine_lanes : (s.setEngine span x).lanes = s.lanes := rfl
@[simp] theorem State.setEngine_piers : (s.setEngine span x).piers = s.piers := rfl
@[simp] theorem State.setEngine_time : (s.setEngine span x).time = s.time := rfl
@[simp] theorem State.setEngine_hq : (s.setEngine span x).hq = s.hq := rfl
@[simp] theorem State.setEngine_jrn : (s.setEngine span x).jrn = s.jrn := rfl
@[simp] theorem State.setEngine_ks : (s.setEngine span x).ks = s.ks := rfl
@[simp] theorem State.setEngine_pwr : (s.setEngine span x).pwr = s.pwr := rfl
@[simp] theorem State.setEngine_boot : (s.setEngine span x).boot = s.boot := rfl
end

section
variable (src : Nat) (x : SourceRec)
@[simp] theorem State.setSource_pending : (s.setSource src x).pending = s.pending := rfl
@[simp] theorem State.setSource_regs : (s.setSource src x).regs = s.regs := rfl
@[simp] theorem State.setSource_holding : (s.setSource src x).holding = s.holding := rfl
@[simp] theorem State.setSource_readData : (s.setSource src x).readData = s.readData := rfl
@[simp] theorem State.setSource_counters : (s.setSource src x).counters = s.counters := rfl
@[simp] theorem State.setSource_hostMem : (s.setSource src x).hostMem = s.hostMem := rfl
@[simp] theorem State.setSource_emitted : (s.setSource src x).emitted = s.emitted := rfl
@[simp] theorem State.setSource_freeCount : (s.setSource src x).freeCount = s.freeCount := rfl
@[simp] theorem State.setSource_chip : (s.setSource src x).chip = s.chip := rfl
@[simp] theorem State.setSource_buf : (s.setSource src x).buf = s.buf := rfl
@[simp] theorem State.setSource_rx : (s.setSource src x).rx = s.rx := rfl
@[simp] theorem State.setSource_pipes : (s.setSource src x).pipes = s.pipes := rfl
@[simp] theorem State.setSource_progs : (s.setSource src x).progs = s.progs := rfl
@[simp] theorem State.setSource_tables : (s.setSource src x).tables = s.tables := rfl
@[simp] theorem State.setSource_trestle : (s.setSource src x).trestle = s.trestle := rfl
@[simp] theorem State.setSource_ord : (s.setSource src x).ord = s.ord := rfl
@[simp] theorem State.setSource_egr : (s.setSource src x).egr = s.egr := rfl
@[simp] theorem State.setSource_tel : (s.setSource src x).tel = s.tel := rfl
@[simp] theorem State.setSource_via : (s.setSource src x).via = s.via := rfl
@[simp] theorem State.setSource_cmp : (s.setSource src x).cmp = s.cmp := rfl
@[simp] theorem State.setSource_pierTx : (s.setSource src x).pierTx = s.pierTx := rfl
@[simp] theorem State.setSource_lanes : (s.setSource src x).lanes = s.lanes := rfl
@[simp] theorem State.setSource_piers : (s.setSource src x).piers = s.piers := rfl
@[simp] theorem State.setSource_time : (s.setSource src x).time = s.time := rfl
@[simp] theorem State.setSource_hq : (s.setSource src x).hq = s.hq := rfl
@[simp] theorem State.setSource_jrn : (s.setSource src x).jrn = s.jrn := rfl
@[simp] theorem State.setSource_ks : (s.setSource src x).ks = s.ks := rfl
@[simp] theorem State.setSource_pwr : (s.setSource src x).pwr = s.pwr := rfl
@[simp] theorem State.setSource_boot : (s.setSource src x).boot = s.boot := rfl
end

section
variable (b : Bool)
@[simp] theorem State.setReacting_pending : (s.setReacting b).pending = s.pending := rfl
@[simp] theorem State.setReacting_regs : (s.setReacting b).regs = s.regs := rfl
@[simp] theorem State.setReacting_holding : (s.setReacting b).holding = s.holding := rfl
@[simp] theorem State.setReacting_readData : (s.setReacting b).readData = s.readData := rfl
@[simp] theorem State.setReacting_counters : (s.setReacting b).counters = s.counters := rfl
@[simp] theorem State.setReacting_hostMem : (s.setReacting b).hostMem = s.hostMem := rfl
@[simp] theorem State.setReacting_emitted : (s.setReacting b).emitted = s.emitted := rfl
@[simp] theorem State.setReacting_freeCount : (s.setReacting b).freeCount = s.freeCount := rfl
@[simp] theorem State.setReacting_chip : (s.setReacting b).chip = s.chip := rfl
@[simp] theorem State.setReacting_buf : (s.setReacting b).buf = s.buf := rfl
@[simp] theorem State.setReacting_rx : (s.setReacting b).rx = s.rx := rfl
@[simp] theorem State.setReacting_pipes : (s.setReacting b).pipes = s.pipes := rfl
@[simp] theorem State.setReacting_progs : (s.setReacting b).progs = s.progs := rfl
@[simp] theorem State.setReacting_tables : (s.setReacting b).tables = s.tables := rfl
@[simp] theorem State.setReacting_trestle : (s.setReacting b).trestle = s.trestle := rfl
@[simp] theorem State.setReacting_ord : (s.setReacting b).ord = s.ord := rfl
@[simp] theorem State.setReacting_egr : (s.setReacting b).egr = s.egr := rfl
@[simp] theorem State.setReacting_tel : (s.setReacting b).tel = s.tel := rfl
@[simp] theorem State.setReacting_via : (s.setReacting b).via = s.via := rfl
@[simp] theorem State.setReacting_cmp : (s.setReacting b).cmp = s.cmp := rfl
@[simp] theorem State.setReacting_pierTx : (s.setReacting b).pierTx = s.pierTx := rfl
@[simp] theorem State.setReacting_lanes : (s.setReacting b).lanes = s.lanes := rfl
@[simp] theorem State.setReacting_piers : (s.setReacting b).piers = s.piers := rfl
@[simp] theorem State.setReacting_time : (s.setReacting b).time = s.time := rfl
@[simp] theorem State.setReacting_hq : (s.setReacting b).hq = s.hq := rfl
@[simp] theorem State.setReacting_jrn : (s.setReacting b).jrn = s.jrn := rfl
@[simp] theorem State.setReacting_ks : (s.setReacting b).ks = s.ks := rfl
@[simp] theorem State.setReacting_pwr : (s.setReacting b).pwr = s.pwr := rfl
@[simp] theorem State.setReacting_boot : (s.setReacting b).boot = s.boot := rfl
end

section
variable (src : Nat)
@[simp] theorem State.takeFiring_pending : (s.takeFiring src).pending = s.pending := rfl
@[simp] theorem State.takeFiring_regs : (s.takeFiring src).regs = s.regs := rfl
@[simp] theorem State.takeFiring_holding : (s.takeFiring src).holding = s.holding := rfl
@[simp] theorem State.takeFiring_readData : (s.takeFiring src).readData = s.readData := rfl
@[simp] theorem State.takeFiring_counters : (s.takeFiring src).counters = s.counters := rfl
@[simp] theorem State.takeFiring_hostMem : (s.takeFiring src).hostMem = s.hostMem := rfl
@[simp] theorem State.takeFiring_emitted : (s.takeFiring src).emitted = s.emitted := rfl
@[simp] theorem State.takeFiring_freeCount : (s.takeFiring src).freeCount = s.freeCount := rfl
@[simp] theorem State.takeFiring_chip : (s.takeFiring src).chip = s.chip := rfl
@[simp] theorem State.takeFiring_buf : (s.takeFiring src).buf = s.buf := rfl
@[simp] theorem State.takeFiring_rx : (s.takeFiring src).rx = s.rx := rfl
@[simp] theorem State.takeFiring_pipes : (s.takeFiring src).pipes = s.pipes := rfl
@[simp] theorem State.takeFiring_progs : (s.takeFiring src).progs = s.progs := rfl
@[simp] theorem State.takeFiring_tables : (s.takeFiring src).tables = s.tables := rfl
@[simp] theorem State.takeFiring_trestle : (s.takeFiring src).trestle = s.trestle := rfl
@[simp] theorem State.takeFiring_ord : (s.takeFiring src).ord = s.ord := rfl
@[simp] theorem State.takeFiring_egr : (s.takeFiring src).egr = s.egr := rfl
@[simp] theorem State.takeFiring_tel : (s.takeFiring src).tel = s.tel := rfl
@[simp] theorem State.takeFiring_via : (s.takeFiring src).via = s.via := rfl
@[simp] theorem State.takeFiring_cmp : (s.takeFiring src).cmp = s.cmp := rfl
@[simp] theorem State.takeFiring_pierTx : (s.takeFiring src).pierTx = s.pierTx := rfl
@[simp] theorem State.takeFiring_lanes : (s.takeFiring src).lanes = s.lanes := rfl
@[simp] theorem State.takeFiring_piers : (s.takeFiring src).piers = s.piers := rfl
@[simp] theorem State.takeFiring_time : (s.takeFiring src).time = s.time := rfl
@[simp] theorem State.takeFiring_hq : (s.takeFiring src).hq = s.hq := rfl
@[simp] theorem State.takeFiring_jrn : (s.takeFiring src).jrn = s.jrn := rfl
@[simp] theorem State.takeFiring_ks : (s.takeFiring src).ks = s.ks := rfl
@[simp] theorem State.takeFiring_pwr : (s.takeFiring src).pwr = s.pwr := rfl
@[simp] theorem State.takeFiring_boot : (s.takeFiring src).boot = s.boot := rfl
end

section
@[simp] theorem State.capSafe_pending : (s.capSafe).pending = s.pending := rfl
@[simp] theorem State.capSafe_regs : (s.capSafe).regs = s.regs := rfl
@[simp] theorem State.capSafe_holding : (s.capSafe).holding = s.holding := rfl
@[simp] theorem State.capSafe_readData : (s.capSafe).readData = s.readData := rfl
@[simp] theorem State.capSafe_counters : (s.capSafe).counters = s.counters := rfl
@[simp] theorem State.capSafe_hostMem : (s.capSafe).hostMem = s.hostMem := rfl
@[simp] theorem State.capSafe_emitted : (s.capSafe).emitted = s.emitted := rfl
@[simp] theorem State.capSafe_freeCount : (s.capSafe).freeCount = s.freeCount := rfl
@[simp] theorem State.capSafe_chip : (s.capSafe).chip = s.chip := rfl
@[simp] theorem State.capSafe_fc : (s.capSafe).fc = s.fc := rfl
@[simp] theorem State.capSafe_buf : (s.capSafe).buf = s.buf := rfl
@[simp] theorem State.capSafe_rx : (s.capSafe).rx = s.rx := rfl
@[simp] theorem State.capSafe_pipes : (s.capSafe).pipes = s.pipes := rfl
@[simp] theorem State.capSafe_progs : (s.capSafe).progs = s.progs := rfl
@[simp] theorem State.capSafe_tables : (s.capSafe).tables = s.tables := rfl
@[simp] theorem State.capSafe_trestle : (s.capSafe).trestle = s.trestle := rfl
@[simp] theorem State.capSafe_ord : (s.capSafe).ord = s.ord := rfl
@[simp] theorem State.capSafe_egr : (s.capSafe).egr = s.egr := rfl
@[simp] theorem State.capSafe_tel : (s.capSafe).tel = s.tel := rfl
@[simp] theorem State.capSafe_via : (s.capSafe).via = s.via := rfl
@[simp] theorem State.capSafe_cmp : (s.capSafe).cmp = s.cmp := rfl
@[simp] theorem State.capSafe_pierTx : (s.capSafe).pierTx = s.pierTx := rfl
@[simp] theorem State.capSafe_lanes : (s.capSafe).lanes = s.lanes := rfl
@[simp] theorem State.capSafe_piers : (s.capSafe).piers = s.piers := rfl
@[simp] theorem State.capSafe_time : (s.capSafe).time = s.time := rfl
@[simp] theorem State.capSafe_hq : (s.capSafe).hq = s.hq := rfl
@[simp] theorem State.capSafe_jrn : (s.capSafe).jrn = s.jrn := rfl
@[simp] theorem State.capSafe_ks : (s.capSafe).ks = s.ks := rfl
@[simp] theorem State.capSafe_boot : (s.capSafe).boot = s.boot := rfl
end

section
variable (src : Nat) (l : List Nat)
@[simp] theorem State.setCorrections_pending : (s.setCorrections src l).pending = s.pending := rfl
@[simp] theorem State.setCorrections_regs : (s.setCorrections src l).regs = s.regs := rfl
@[simp] theorem State.setCorrections_holding : (s.setCorrections src l).holding = s.holding := rfl
@[simp] theorem State.setCorrections_readData : (s.setCorrections src l).readData = s.readData := rfl
@[simp] theorem State.setCorrections_counters : (s.setCorrections src l).counters = s.counters := rfl
@[simp] theorem State.setCorrections_hostMem : (s.setCorrections src l).hostMem = s.hostMem := rfl
@[simp] theorem State.setCorrections_emitted : (s.setCorrections src l).emitted = s.emitted := rfl
@[simp] theorem State.setCorrections_freeCount : (s.setCorrections src l).freeCount = s.freeCount := rfl
@[simp] theorem State.setCorrections_chip : (s.setCorrections src l).chip = s.chip := rfl
@[simp] theorem State.setCorrections_buf : (s.setCorrections src l).buf = s.buf := rfl
@[simp] theorem State.setCorrections_rx : (s.setCorrections src l).rx = s.rx := rfl
@[simp] theorem State.setCorrections_pipes : (s.setCorrections src l).pipes = s.pipes := rfl
@[simp] theorem State.setCorrections_progs : (s.setCorrections src l).progs = s.progs := rfl
@[simp] theorem State.setCorrections_tables : (s.setCorrections src l).tables = s.tables := rfl
@[simp] theorem State.setCorrections_trestle : (s.setCorrections src l).trestle = s.trestle := rfl
@[simp] theorem State.setCorrections_ord : (s.setCorrections src l).ord = s.ord := rfl
@[simp] theorem State.setCorrections_egr : (s.setCorrections src l).egr = s.egr := rfl
@[simp] theorem State.setCorrections_tel : (s.setCorrections src l).tel = s.tel := rfl
@[simp] theorem State.setCorrections_via : (s.setCorrections src l).via = s.via := rfl
@[simp] theorem State.setCorrections_cmp : (s.setCorrections src l).cmp = s.cmp := rfl
@[simp] theorem State.setCorrections_pierTx : (s.setCorrections src l).pierTx = s.pierTx := rfl
@[simp] theorem State.setCorrections_lanes : (s.setCorrections src l).lanes = s.lanes := rfl
@[simp] theorem State.setCorrections_piers : (s.setCorrections src l).piers = s.piers := rfl
@[simp] theorem State.setCorrections_time : (s.setCorrections src l).time = s.time := rfl
@[simp] theorem State.setCorrections_hq : (s.setCorrections src l).hq = s.hq := rfl
@[simp] theorem State.setCorrections_jrn : (s.setCorrections src l).jrn = s.jrn := rfl
@[simp] theorem State.setCorrections_ks : (s.setCorrections src l).ks = s.ks := rfl
@[simp] theorem State.setCorrections_pwr : (s.setCorrections src l).pwr = s.pwr := rfl
@[simp] theorem State.setCorrections_boot : (s.setCorrections src l).boot = s.boot := rfl
end

section
@[simp] theorem State.meetCheck_pending : (s.meetCheck).pending = s.pending := rfl
@[simp] theorem State.meetCheck_regs : (s.meetCheck).regs = s.regs := rfl
@[simp] theorem State.meetCheck_holding : (s.meetCheck).holding = s.holding := rfl
@[simp] theorem State.meetCheck_readData : (s.meetCheck).readData = s.readData := rfl
@[simp] theorem State.meetCheck_counters : (s.meetCheck).counters = s.counters := rfl
@[simp] theorem State.meetCheck_hostMem : (s.meetCheck).hostMem = s.hostMem := rfl
@[simp] theorem State.meetCheck_emitted : (s.meetCheck).emitted = s.emitted := rfl
@[simp] theorem State.meetCheck_freeCount : (s.meetCheck).freeCount = s.freeCount := rfl
@[simp] theorem State.meetCheck_chip : (s.meetCheck).chip = s.chip := rfl
@[simp] theorem State.meetCheck_buf : (s.meetCheck).buf = s.buf := rfl
@[simp] theorem State.meetCheck_rx : (s.meetCheck).rx = s.rx := rfl
@[simp] theorem State.meetCheck_pipes : (s.meetCheck).pipes = s.pipes := rfl
@[simp] theorem State.meetCheck_progs : (s.meetCheck).progs = s.progs := rfl
@[simp] theorem State.meetCheck_tables : (s.meetCheck).tables = s.tables := rfl
@[simp] theorem State.meetCheck_trestle : (s.meetCheck).trestle = s.trestle := rfl
@[simp] theorem State.meetCheck_ord : (s.meetCheck).ord = s.ord := rfl
@[simp] theorem State.meetCheck_egr : (s.meetCheck).egr = s.egr := rfl
@[simp] theorem State.meetCheck_tel : (s.meetCheck).tel = s.tel := rfl
@[simp] theorem State.meetCheck_via : (s.meetCheck).via = s.via := rfl
@[simp] theorem State.meetCheck_cmp : (s.meetCheck).cmp = s.cmp := rfl
@[simp] theorem State.meetCheck_pierTx : (s.meetCheck).pierTx = s.pierTx := rfl
@[simp] theorem State.meetCheck_lanes : (s.meetCheck).lanes = s.lanes := rfl
@[simp] theorem State.meetCheck_piers : (s.meetCheck).piers = s.piers := rfl
@[simp] theorem State.meetCheck_time : (s.meetCheck).time = s.time := rfl
@[simp] theorem State.meetCheck_hq : (s.meetCheck).hq = s.hq := rfl
@[simp] theorem State.meetCheck_jrn : (s.meetCheck).jrn = s.jrn := rfl
@[simp] theorem State.meetCheck_ks : (s.meetCheck).ks = s.ks := rfl
@[simp] theorem State.meetCheck_pwr : (s.meetCheck).pwr = s.pwr := rfl
@[simp] theorem State.meetCheck_boot : (s.meetCheck).boot = s.boot := rfl
end

section
variable (src n : Nat)
@[simp] theorem State.setCorrPacket_pending : (s.setCorrPacket src n).pending = s.pending := rfl
@[simp] theorem State.setCorrPacket_regs : (s.setCorrPacket src n).regs = s.regs := rfl
@[simp] theorem State.setCorrPacket_holding : (s.setCorrPacket src n).holding = s.holding := rfl
@[simp] theorem State.setCorrPacket_readData : (s.setCorrPacket src n).readData = s.readData := rfl
@[simp] theorem State.setCorrPacket_counters : (s.setCorrPacket src n).counters = s.counters := rfl
@[simp] theorem State.setCorrPacket_hostMem : (s.setCorrPacket src n).hostMem = s.hostMem := rfl
@[simp] theorem State.setCorrPacket_emitted : (s.setCorrPacket src n).emitted = s.emitted := rfl
@[simp] theorem State.setCorrPacket_freeCount : (s.setCorrPacket src n).freeCount = s.freeCount := rfl
@[simp] theorem State.setCorrPacket_chip : (s.setCorrPacket src n).chip = s.chip := rfl
@[simp] theorem State.setCorrPacket_buf : (s.setCorrPacket src n).buf = s.buf := rfl
@[simp] theorem State.setCorrPacket_rx : (s.setCorrPacket src n).rx = s.rx := rfl
@[simp] theorem State.setCorrPacket_pipes : (s.setCorrPacket src n).pipes = s.pipes := rfl
@[simp] theorem State.setCorrPacket_progs : (s.setCorrPacket src n).progs = s.progs := rfl
@[simp] theorem State.setCorrPacket_tables : (s.setCorrPacket src n).tables = s.tables := rfl
@[simp] theorem State.setCorrPacket_trestle : (s.setCorrPacket src n).trestle = s.trestle := rfl
@[simp] theorem State.setCorrPacket_ord : (s.setCorrPacket src n).ord = s.ord := rfl
@[simp] theorem State.setCorrPacket_egr : (s.setCorrPacket src n).egr = s.egr := rfl
@[simp] theorem State.setCorrPacket_tel : (s.setCorrPacket src n).tel = s.tel := rfl
@[simp] theorem State.setCorrPacket_via : (s.setCorrPacket src n).via = s.via := rfl
@[simp] theorem State.setCorrPacket_cmp : (s.setCorrPacket src n).cmp = s.cmp := rfl
@[simp] theorem State.setCorrPacket_pierTx : (s.setCorrPacket src n).pierTx = s.pierTx := rfl
@[simp] theorem State.setCorrPacket_lanes : (s.setCorrPacket src n).lanes = s.lanes := rfl
@[simp] theorem State.setCorrPacket_piers : (s.setCorrPacket src n).piers = s.piers := rfl
@[simp] theorem State.setCorrPacket_time : (s.setCorrPacket src n).time = s.time := rfl
@[simp] theorem State.setCorrPacket_hq : (s.setCorrPacket src n).hq = s.hq := rfl
@[simp] theorem State.setCorrPacket_jrn : (s.setCorrPacket src n).jrn = s.jrn := rfl
@[simp] theorem State.setCorrPacket_ks : (s.setCorrPacket src n).ks = s.ks := rfl
@[simp] theorem State.setCorrPacket_pwr : (s.setCorrPacket src n).pwr = s.pwr := rfl
@[simp] theorem State.setCorrPacket_boot : (s.setCorrPacket src n).boot = s.boot := rfl
end

section
variable (d : Int)
@[simp] theorem State.setD_pending : (s.setD d).pending = s.pending := rfl
@[simp] theorem State.setD_regs : (s.setD d).regs = s.regs := rfl
@[simp] theorem State.setD_holding : (s.setD d).holding = s.holding := rfl
@[simp] theorem State.setD_readData : (s.setD d).readData = s.readData := rfl
@[simp] theorem State.setD_counters : (s.setD d).counters = s.counters := rfl
@[simp] theorem State.setD_hostMem : (s.setD d).hostMem = s.hostMem := rfl
@[simp] theorem State.setD_emitted : (s.setD d).emitted = s.emitted := rfl
@[simp] theorem State.setD_freeCount : (s.setD d).freeCount = s.freeCount := rfl
@[simp] theorem State.setD_chip : (s.setD d).chip = s.chip := rfl
@[simp] theorem State.setD_fc : (s.setD d).fc = s.fc := rfl
@[simp] theorem State.setD_buf : (s.setD d).buf = s.buf := rfl
@[simp] theorem State.setD_rx : (s.setD d).rx = s.rx := rfl
@[simp] theorem State.setD_pipes : (s.setD d).pipes = s.pipes := rfl
@[simp] theorem State.setD_progs : (s.setD d).progs = s.progs := rfl
@[simp] theorem State.setD_tables : (s.setD d).tables = s.tables := rfl
@[simp] theorem State.setD_trestle : (s.setD d).trestle = s.trestle := rfl
@[simp] theorem State.setD_ord : (s.setD d).ord = s.ord := rfl
@[simp] theorem State.setD_egr : (s.setD d).egr = s.egr := rfl
@[simp] theorem State.setD_tel : (s.setD d).tel = s.tel := rfl
@[simp] theorem State.setD_via : (s.setD d).via = s.via := rfl
@[simp] theorem State.setD_cmp : (s.setD d).cmp = s.cmp := rfl
@[simp] theorem State.setD_pierTx : (s.setD d).pierTx = s.pierTx := rfl
@[simp] theorem State.setD_lanes : (s.setD d).lanes = s.lanes := rfl
@[simp] theorem State.setD_piers : (s.setD d).piers = s.piers := rfl
@[simp] theorem State.setD_hq : (s.setD d).hq = s.hq := rfl
@[simp] theorem State.setD_jrn : (s.setD d).jrn = s.jrn := rfl
@[simp] theorem State.setD_ks : (s.setD d).ks = s.ks := rfl
@[simp] theorem State.setD_pwr : (s.setD d).pwr = s.pwr := rfl
@[simp] theorem State.setD_boot : (s.setD d).boot = s.boot := rfl
end

section
variable (n c : Nat) (v : Int)
@[simp] theorem State.setCopyOff_pending : (s.setCopyOff n c v).pending = s.pending := rfl
@[simp] theorem State.setCopyOff_regs : (s.setCopyOff n c v).regs = s.regs := rfl
@[simp] theorem State.setCopyOff_holding : (s.setCopyOff n c v).holding = s.holding := rfl
@[simp] theorem State.setCopyOff_readData : (s.setCopyOff n c v).readData = s.readData := rfl
@[simp] theorem State.setCopyOff_counters : (s.setCopyOff n c v).counters = s.counters := rfl
@[simp] theorem State.setCopyOff_hostMem : (s.setCopyOff n c v).hostMem = s.hostMem := rfl
@[simp] theorem State.setCopyOff_emitted : (s.setCopyOff n c v).emitted = s.emitted := rfl
@[simp] theorem State.setCopyOff_freeCount : (s.setCopyOff n c v).freeCount = s.freeCount := rfl
@[simp] theorem State.setCopyOff_chip : (s.setCopyOff n c v).chip = s.chip := rfl
@[simp] theorem State.setCopyOff_fc : (s.setCopyOff n c v).fc = s.fc := rfl
@[simp] theorem State.setCopyOff_buf : (s.setCopyOff n c v).buf = s.buf := rfl
@[simp] theorem State.setCopyOff_rx : (s.setCopyOff n c v).rx = s.rx := rfl
@[simp] theorem State.setCopyOff_pipes : (s.setCopyOff n c v).pipes = s.pipes := rfl
@[simp] theorem State.setCopyOff_progs : (s.setCopyOff n c v).progs = s.progs := rfl
@[simp] theorem State.setCopyOff_tables : (s.setCopyOff n c v).tables = s.tables := rfl
@[simp] theorem State.setCopyOff_trestle : (s.setCopyOff n c v).trestle = s.trestle := rfl
@[simp] theorem State.setCopyOff_ord : (s.setCopyOff n c v).ord = s.ord := rfl
@[simp] theorem State.setCopyOff_egr : (s.setCopyOff n c v).egr = s.egr := rfl
@[simp] theorem State.setCopyOff_tel : (s.setCopyOff n c v).tel = s.tel := rfl
@[simp] theorem State.setCopyOff_via : (s.setCopyOff n c v).via = s.via := rfl
@[simp] theorem State.setCopyOff_cmp : (s.setCopyOff n c v).cmp = s.cmp := rfl
@[simp] theorem State.setCopyOff_pierTx : (s.setCopyOff n c v).pierTx = s.pierTx := rfl
@[simp] theorem State.setCopyOff_lanes : (s.setCopyOff n c v).lanes = s.lanes := rfl
@[simp] theorem State.setCopyOff_piers : (s.setCopyOff n c v).piers = s.piers := rfl
@[simp] theorem State.setCopyOff_hq : (s.setCopyOff n c v).hq = s.hq := rfl
@[simp] theorem State.setCopyOff_jrn : (s.setCopyOff n c v).jrn = s.jrn := rfl
@[simp] theorem State.setCopyOff_ks : (s.setCopyOff n c v).ks = s.ks := rfl
@[simp] theorem State.setCopyOff_pwr : (s.setCopyOff n c v).pwr = s.pwr := rfl
@[simp] theorem State.setCopyOff_boot : (s.setCopyOff n c v).boot = s.boot := rfl
end

section
variable (body : List Byte) (tag : Nat)
@[simp] theorem State.journal_pending : (s.journal body tag).pending = s.pending := rfl
@[simp] theorem State.journal_regs : (s.journal body tag).regs = s.regs := rfl
@[simp] theorem State.journal_holding : (s.journal body tag).holding = s.holding := rfl
@[simp] theorem State.journal_readData : (s.journal body tag).readData = s.readData := rfl
@[simp] theorem State.journal_counters : (s.journal body tag).counters = s.counters := rfl
@[simp] theorem State.journal_hostMem : (s.journal body tag).hostMem = s.hostMem := rfl
@[simp] theorem State.journal_emitted : (s.journal body tag).emitted = s.emitted := rfl
@[simp] theorem State.journal_freeCount : (s.journal body tag).freeCount = s.freeCount := rfl
@[simp] theorem State.journal_chip : (s.journal body tag).chip = s.chip := rfl
@[simp] theorem State.journal_fc : (s.journal body tag).fc = s.fc := rfl
@[simp] theorem State.journal_buf : (s.journal body tag).buf = s.buf := rfl
@[simp] theorem State.journal_rx : (s.journal body tag).rx = s.rx := rfl
@[simp] theorem State.journal_pipes : (s.journal body tag).pipes = s.pipes := rfl
@[simp] theorem State.journal_progs : (s.journal body tag).progs = s.progs := rfl
@[simp] theorem State.journal_tables : (s.journal body tag).tables = s.tables := rfl
@[simp] theorem State.journal_trestle : (s.journal body tag).trestle = s.trestle := rfl
@[simp] theorem State.journal_ord : (s.journal body tag).ord = s.ord := rfl
@[simp] theorem State.journal_egr : (s.journal body tag).egr = s.egr := rfl
@[simp] theorem State.journal_tel : (s.journal body tag).tel = s.tel := rfl
@[simp] theorem State.journal_via : (s.journal body tag).via = s.via := rfl
@[simp] theorem State.journal_cmp : (s.journal body tag).cmp = s.cmp := rfl
@[simp] theorem State.journal_pierTx : (s.journal body tag).pierTx = s.pierTx := rfl
@[simp] theorem State.journal_lanes : (s.journal body tag).lanes = s.lanes := rfl
@[simp] theorem State.journal_piers : (s.journal body tag).piers = s.piers := rfl
@[simp] theorem State.journal_time : (s.journal body tag).time = s.time := rfl
@[simp] theorem State.journal_hq : (s.journal body tag).hq = s.hq := rfl
@[simp] theorem State.journal_ks : (s.journal body tag).ks = s.ks := rfl
@[simp] theorem State.journal_pwr : (s.journal body tag).pwr = s.pwr := rfl
@[simp] theorem State.journal_boot : (s.journal body tag).boot = s.boot := rfl
end

section
variable (r lsn : Nat)
@[simp] theorem State.setExecuted_pending : (s.setExecuted r lsn).pending = s.pending := rfl
@[simp] theorem State.setExecuted_regs : (s.setExecuted r lsn).regs = s.regs := rfl
@[simp] theorem State.setExecuted_holding : (s.setExecuted r lsn).holding = s.holding := rfl
@[simp] theorem State.setExecuted_readData : (s.setExecuted r lsn).readData = s.readData := rfl
@[simp] theorem State.setExecuted_counters : (s.setExecuted r lsn).counters = s.counters := rfl
@[simp] theorem State.setExecuted_hostMem : (s.setExecuted r lsn).hostMem = s.hostMem := rfl
@[simp] theorem State.setExecuted_emitted : (s.setExecuted r lsn).emitted = s.emitted := rfl
@[simp] theorem State.setExecuted_freeCount : (s.setExecuted r lsn).freeCount = s.freeCount := rfl
@[simp] theorem State.setExecuted_chip : (s.setExecuted r lsn).chip = s.chip := rfl
@[simp] theorem State.setExecuted_fc : (s.setExecuted r lsn).fc = s.fc := rfl
@[simp] theorem State.setExecuted_buf : (s.setExecuted r lsn).buf = s.buf := rfl
@[simp] theorem State.setExecuted_rx : (s.setExecuted r lsn).rx = s.rx := rfl
@[simp] theorem State.setExecuted_pipes : (s.setExecuted r lsn).pipes = s.pipes := rfl
@[simp] theorem State.setExecuted_progs : (s.setExecuted r lsn).progs = s.progs := rfl
@[simp] theorem State.setExecuted_tables : (s.setExecuted r lsn).tables = s.tables := rfl
@[simp] theorem State.setExecuted_trestle : (s.setExecuted r lsn).trestle = s.trestle := rfl
@[simp] theorem State.setExecuted_ord : (s.setExecuted r lsn).ord = s.ord := rfl
@[simp] theorem State.setExecuted_egr : (s.setExecuted r lsn).egr = s.egr := rfl
@[simp] theorem State.setExecuted_tel : (s.setExecuted r lsn).tel = s.tel := rfl
@[simp] theorem State.setExecuted_via : (s.setExecuted r lsn).via = s.via := rfl
@[simp] theorem State.setExecuted_cmp : (s.setExecuted r lsn).cmp = s.cmp := rfl
@[simp] theorem State.setExecuted_pierTx : (s.setExecuted r lsn).pierTx = s.pierTx := rfl
@[simp] theorem State.setExecuted_lanes : (s.setExecuted r lsn).lanes = s.lanes := rfl
@[simp] theorem State.setExecuted_piers : (s.setExecuted r lsn).piers = s.piers := rfl
@[simp] theorem State.setExecuted_time : (s.setExecuted r lsn).time = s.time := rfl
@[simp] theorem State.setExecuted_hq : (s.setExecuted r lsn).hq = s.hq := rfl
@[simp] theorem State.setExecuted_ks : (s.setExecuted r lsn).ks = s.ks := rfl
@[simp] theorem State.setExecuted_pwr : (s.setExecuted r lsn).pwr = s.pwr := rfl
@[simp] theorem State.setExecuted_boot : (s.setExecuted r lsn).boot = s.boot := rfl
end

section
variable (r : Nat) (x : SqRec)
@[simp] theorem State.setSq_pending : (s.setSq r x).pending = s.pending := rfl
@[simp] theorem State.setSq_regs : (s.setSq r x).regs = s.regs := rfl
@[simp] theorem State.setSq_holding : (s.setSq r x).holding = s.holding := rfl
@[simp] theorem State.setSq_readData : (s.setSq r x).readData = s.readData := rfl
@[simp] theorem State.setSq_counters : (s.setSq r x).counters = s.counters := rfl
@[simp] theorem State.setSq_hostMem : (s.setSq r x).hostMem = s.hostMem := rfl
@[simp] theorem State.setSq_emitted : (s.setSq r x).emitted = s.emitted := rfl
@[simp] theorem State.setSq_freeCount : (s.setSq r x).freeCount = s.freeCount := rfl
@[simp] theorem State.setSq_chip : (s.setSq r x).chip = s.chip := rfl
@[simp] theorem State.setSq_fc : (s.setSq r x).fc = s.fc := rfl
@[simp] theorem State.setSq_buf : (s.setSq r x).buf = s.buf := rfl
@[simp] theorem State.setSq_rx : (s.setSq r x).rx = s.rx := rfl
@[simp] theorem State.setSq_pipes : (s.setSq r x).pipes = s.pipes := rfl
@[simp] theorem State.setSq_progs : (s.setSq r x).progs = s.progs := rfl
@[simp] theorem State.setSq_tables : (s.setSq r x).tables = s.tables := rfl
@[simp] theorem State.setSq_trestle : (s.setSq r x).trestle = s.trestle := rfl
@[simp] theorem State.setSq_ord : (s.setSq r x).ord = s.ord := rfl
@[simp] theorem State.setSq_egr : (s.setSq r x).egr = s.egr := rfl
@[simp] theorem State.setSq_tel : (s.setSq r x).tel = s.tel := rfl
@[simp] theorem State.setSq_via : (s.setSq r x).via = s.via := rfl
@[simp] theorem State.setSq_cmp : (s.setSq r x).cmp = s.cmp := rfl
@[simp] theorem State.setSq_pierTx : (s.setSq r x).pierTx = s.pierTx := rfl
@[simp] theorem State.setSq_lanes : (s.setSq r x).lanes = s.lanes := rfl
@[simp] theorem State.setSq_piers : (s.setSq r x).piers = s.piers := rfl
@[simp] theorem State.setSq_time : (s.setSq r x).time = s.time := rfl
@[simp] theorem State.setSq_jrn : (s.setSq r x).jrn = s.jrn := rfl
@[simp] theorem State.setSq_ks : (s.setSq r x).ks = s.ks := rfl
@[simp] theorem State.setSq_pwr : (s.setSq r x).pwr = s.pwr := rfl
@[simp] theorem State.setSq_boot : (s.setSq r x).boot = s.boot := rfl
end

section
variable (det : Nat)
@[simp] theorem State.droopEnds_pending : (s.droopEnds det).pending = s.pending := rfl
@[simp] theorem State.droopEnds_regs : (s.droopEnds det).regs = s.regs := rfl
@[simp] theorem State.droopEnds_holding : (s.droopEnds det).holding = s.holding := rfl
@[simp] theorem State.droopEnds_readData : (s.droopEnds det).readData = s.readData := rfl
@[simp] theorem State.droopEnds_counters : (s.droopEnds det).counters = s.counters := rfl
@[simp] theorem State.droopEnds_hostMem : (s.droopEnds det).hostMem = s.hostMem := rfl
@[simp] theorem State.droopEnds_emitted : (s.droopEnds det).emitted = s.emitted := rfl
@[simp] theorem State.droopEnds_freeCount : (s.droopEnds det).freeCount = s.freeCount := rfl
@[simp] theorem State.droopEnds_chip : (s.droopEnds det).chip = s.chip := rfl
@[simp] theorem State.droopEnds_fc : (s.droopEnds det).fc = s.fc := rfl
@[simp] theorem State.droopEnds_buf : (s.droopEnds det).buf = s.buf := rfl
@[simp] theorem State.droopEnds_rx : (s.droopEnds det).rx = s.rx := rfl
@[simp] theorem State.droopEnds_pipes : (s.droopEnds det).pipes = s.pipes := rfl
@[simp] theorem State.droopEnds_progs : (s.droopEnds det).progs = s.progs := rfl
@[simp] theorem State.droopEnds_tables : (s.droopEnds det).tables = s.tables := rfl
@[simp] theorem State.droopEnds_trestle : (s.droopEnds det).trestle = s.trestle := rfl
@[simp] theorem State.droopEnds_ord : (s.droopEnds det).ord = s.ord := rfl
@[simp] theorem State.droopEnds_egr : (s.droopEnds det).egr = s.egr := rfl
@[simp] theorem State.droopEnds_tel : (s.droopEnds det).tel = s.tel := rfl
@[simp] theorem State.droopEnds_via : (s.droopEnds det).via = s.via := rfl
@[simp] theorem State.droopEnds_cmp : (s.droopEnds det).cmp = s.cmp := rfl
@[simp] theorem State.droopEnds_pierTx : (s.droopEnds det).pierTx = s.pierTx := rfl
@[simp] theorem State.droopEnds_lanes : (s.droopEnds det).lanes = s.lanes := rfl
@[simp] theorem State.droopEnds_piers : (s.droopEnds det).piers = s.piers := rfl
@[simp] theorem State.droopEnds_time : (s.droopEnds det).time = s.time := rfl
@[simp] theorem State.droopEnds_hq : (s.droopEnds det).hq = s.hq := rfl
@[simp] theorem State.droopEnds_jrn : (s.droopEnds det).jrn = s.jrn := rfl
@[simp] theorem State.droopEnds_ks : (s.droopEnds det).ks = s.ks := rfl
@[simp] theorem State.droopEnds_boot : (s.droopEnds det).boot = s.boot := rfl
end

section
variable (m c : Nat) (r : Word)
@[simp] theorem State.setCountdown_pending : (s.setCountdown m c r).pending = s.pending := rfl
@[simp] theorem State.setCountdown_regs : (s.setCountdown m c r).regs = s.regs := rfl
@[simp] theorem State.setCountdown_holding : (s.setCountdown m c r).holding = s.holding := rfl
@[simp] theorem State.setCountdown_readData : (s.setCountdown m c r).readData = s.readData := rfl
@[simp] theorem State.setCountdown_counters : (s.setCountdown m c r).counters = s.counters := rfl
@[simp] theorem State.setCountdown_hostMem : (s.setCountdown m c r).hostMem = s.hostMem := rfl
@[simp] theorem State.setCountdown_emitted : (s.setCountdown m c r).emitted = s.emitted := rfl
@[simp] theorem State.setCountdown_freeCount : (s.setCountdown m c r).freeCount = s.freeCount := rfl
@[simp] theorem State.setCountdown_chip : (s.setCountdown m c r).chip = s.chip := rfl
@[simp] theorem State.setCountdown_fc : (s.setCountdown m c r).fc = s.fc := rfl
@[simp] theorem State.setCountdown_buf : (s.setCountdown m c r).buf = s.buf := rfl
@[simp] theorem State.setCountdown_rx : (s.setCountdown m c r).rx = s.rx := rfl
@[simp] theorem State.setCountdown_pipes : (s.setCountdown m c r).pipes = s.pipes := rfl
@[simp] theorem State.setCountdown_progs : (s.setCountdown m c r).progs = s.progs := rfl
@[simp] theorem State.setCountdown_tables : (s.setCountdown m c r).tables = s.tables := rfl
@[simp] theorem State.setCountdown_trestle : (s.setCountdown m c r).trestle = s.trestle := rfl
@[simp] theorem State.setCountdown_ord : (s.setCountdown m c r).ord = s.ord := rfl
@[simp] theorem State.setCountdown_egr : (s.setCountdown m c r).egr = s.egr := rfl
@[simp] theorem State.setCountdown_via : (s.setCountdown m c r).via = s.via := rfl
@[simp] theorem State.setCountdown_cmp : (s.setCountdown m c r).cmp = s.cmp := rfl
@[simp] theorem State.setCountdown_pierTx : (s.setCountdown m c r).pierTx = s.pierTx := rfl
@[simp] theorem State.setCountdown_lanes : (s.setCountdown m c r).lanes = s.lanes := rfl
@[simp] theorem State.setCountdown_piers : (s.setCountdown m c r).piers = s.piers := rfl
@[simp] theorem State.setCountdown_time : (s.setCountdown m c r).time = s.time := rfl
@[simp] theorem State.setCountdown_hq : (s.setCountdown m c r).hq = s.hq := rfl
@[simp] theorem State.setCountdown_jrn : (s.setCountdown m c r).jrn = s.jrn := rfl
@[simp] theorem State.setCountdown_ks : (s.setCountdown m c r).ks = s.ks := rfl
@[simp] theorem State.setCountdown_pwr : (s.setCountdown m c r).pwr = s.pwr := rfl
@[simp] theorem State.setCountdown_boot : (s.setCountdown m c r).boot = s.boot := rfl
end

section
variable (key v : Nat)
@[simp] theorem State.setStoreAll_pending : (s.setStoreAll key v).pending = s.pending := rfl
@[simp] theorem State.setStoreAll_regs : (s.setStoreAll key v).regs = s.regs := rfl
@[simp] theorem State.setStoreAll_holding : (s.setStoreAll key v).holding = s.holding := rfl
@[simp] theorem State.setStoreAll_readData : (s.setStoreAll key v).readData = s.readData := rfl
@[simp] theorem State.setStoreAll_counters : (s.setStoreAll key v).counters = s.counters := rfl
@[simp] theorem State.setStoreAll_hostMem : (s.setStoreAll key v).hostMem = s.hostMem := rfl
@[simp] theorem State.setStoreAll_emitted : (s.setStoreAll key v).emitted = s.emitted := rfl
@[simp] theorem State.setStoreAll_freeCount : (s.setStoreAll key v).freeCount = s.freeCount := rfl
@[simp] theorem State.setStoreAll_chip : (s.setStoreAll key v).chip = s.chip := rfl
@[simp] theorem State.setStoreAll_fc : (s.setStoreAll key v).fc = s.fc := rfl
@[simp] theorem State.setStoreAll_buf : (s.setStoreAll key v).buf = s.buf := rfl
@[simp] theorem State.setStoreAll_rx : (s.setStoreAll key v).rx = s.rx := rfl
@[simp] theorem State.setStoreAll_pipes : (s.setStoreAll key v).pipes = s.pipes := rfl
@[simp] theorem State.setStoreAll_tables : (s.setStoreAll key v).tables = s.tables := rfl
@[simp] theorem State.setStoreAll_trestle : (s.setStoreAll key v).trestle = s.trestle := rfl
@[simp] theorem State.setStoreAll_ord : (s.setStoreAll key v).ord = s.ord := rfl
@[simp] theorem State.setStoreAll_egr : (s.setStoreAll key v).egr = s.egr := rfl
@[simp] theorem State.setStoreAll_tel : (s.setStoreAll key v).tel = s.tel := rfl
@[simp] theorem State.setStoreAll_via : (s.setStoreAll key v).via = s.via := rfl
@[simp] theorem State.setStoreAll_cmp : (s.setStoreAll key v).cmp = s.cmp := rfl
@[simp] theorem State.setStoreAll_pierTx : (s.setStoreAll key v).pierTx = s.pierTx := rfl
@[simp] theorem State.setStoreAll_lanes : (s.setStoreAll key v).lanes = s.lanes := rfl
@[simp] theorem State.setStoreAll_piers : (s.setStoreAll key v).piers = s.piers := rfl
@[simp] theorem State.setStoreAll_time : (s.setStoreAll key v).time = s.time := rfl
@[simp] theorem State.setStoreAll_hq : (s.setStoreAll key v).hq = s.hq := rfl
@[simp] theorem State.setStoreAll_jrn : (s.setStoreAll key v).jrn = s.jrn := rfl
@[simp] theorem State.setStoreAll_ks : (s.setStoreAll key v).ks = s.ks := rfl
@[simp] theorem State.setStoreAll_pwr : (s.setStoreAll key v).pwr = s.pwr := rfl
@[simp] theorem State.setStoreAll_boot : (s.setStoreAll key v).boot = s.boot := rfl
end

section
variable (copy key v : Nat)
@[simp] theorem State.setStoreOne_pending : (s.setStoreOne copy key v).pending = s.pending := rfl
@[simp] theorem State.setStoreOne_regs : (s.setStoreOne copy key v).regs = s.regs := rfl
@[simp] theorem State.setStoreOne_holding : (s.setStoreOne copy key v).holding = s.holding := rfl
@[simp] theorem State.setStoreOne_readData : (s.setStoreOne copy key v).readData = s.readData := rfl
@[simp] theorem State.setStoreOne_counters : (s.setStoreOne copy key v).counters = s.counters := rfl
@[simp] theorem State.setStoreOne_hostMem : (s.setStoreOne copy key v).hostMem = s.hostMem := rfl
@[simp] theorem State.setStoreOne_emitted : (s.setStoreOne copy key v).emitted = s.emitted := rfl
@[simp] theorem State.setStoreOne_freeCount : (s.setStoreOne copy key v).freeCount = s.freeCount := rfl
@[simp] theorem State.setStoreOne_chip : (s.setStoreOne copy key v).chip = s.chip := rfl
@[simp] theorem State.setStoreOne_fc : (s.setStoreOne copy key v).fc = s.fc := rfl
@[simp] theorem State.setStoreOne_buf : (s.setStoreOne copy key v).buf = s.buf := rfl
@[simp] theorem State.setStoreOne_rx : (s.setStoreOne copy key v).rx = s.rx := rfl
@[simp] theorem State.setStoreOne_pipes : (s.setStoreOne copy key v).pipes = s.pipes := rfl
@[simp] theorem State.setStoreOne_tables : (s.setStoreOne copy key v).tables = s.tables := rfl
@[simp] theorem State.setStoreOne_trestle : (s.setStoreOne copy key v).trestle = s.trestle := rfl
@[simp] theorem State.setStoreOne_ord : (s.setStoreOne copy key v).ord = s.ord := rfl
@[simp] theorem State.setStoreOne_egr : (s.setStoreOne copy key v).egr = s.egr := rfl
@[simp] theorem State.setStoreOne_tel : (s.setStoreOne copy key v).tel = s.tel := rfl
@[simp] theorem State.setStoreOne_via : (s.setStoreOne copy key v).via = s.via := rfl
@[simp] theorem State.setStoreOne_cmp : (s.setStoreOne copy key v).cmp = s.cmp := rfl
@[simp] theorem State.setStoreOne_pierTx : (s.setStoreOne copy key v).pierTx = s.pierTx := rfl
@[simp] theorem State.setStoreOne_lanes : (s.setStoreOne copy key v).lanes = s.lanes := rfl
@[simp] theorem State.setStoreOne_piers : (s.setStoreOne copy key v).piers = s.piers := rfl
@[simp] theorem State.setStoreOne_time : (s.setStoreOne copy key v).time = s.time := rfl
@[simp] theorem State.setStoreOne_hq : (s.setStoreOne copy key v).hq = s.hq := rfl
@[simp] theorem State.setStoreOne_jrn : (s.setStoreOne copy key v).jrn = s.jrn := rfl
@[simp] theorem State.setStoreOne_ks : (s.setStoreOne copy key v).ks = s.ks := rfl
@[simp] theorem State.setStoreOne_pwr : (s.setStoreOne copy key v).pwr = s.pwr := rfl
@[simp] theorem State.setStoreOne_boot : (s.setStoreOne copy key v).boot = s.boot := rfl
end

section
variable (span unit row v : Nat)
@[simp] theorem State.setSram_pending : (s.setSram span unit row v).pending = s.pending := rfl
@[simp] theorem State.setSram_regs : (s.setSram span unit row v).regs = s.regs := rfl
@[simp] theorem State.setSram_holding : (s.setSram span unit row v).holding = s.holding := rfl
@[simp] theorem State.setSram_readData : (s.setSram span unit row v).readData = s.readData := rfl
@[simp] theorem State.setSram_counters : (s.setSram span unit row v).counters = s.counters := rfl
@[simp] theorem State.setSram_hostMem : (s.setSram span unit row v).hostMem = s.hostMem := rfl
@[simp] theorem State.setSram_emitted : (s.setSram span unit row v).emitted = s.emitted := rfl
@[simp] theorem State.setSram_freeCount : (s.setSram span unit row v).freeCount = s.freeCount := rfl
@[simp] theorem State.setSram_chip : (s.setSram span unit row v).chip = s.chip := rfl
@[simp] theorem State.setSram_fc : (s.setSram span unit row v).fc = s.fc := rfl
@[simp] theorem State.setSram_buf : (s.setSram span unit row v).buf = s.buf := rfl
@[simp] theorem State.setSram_rx : (s.setSram span unit row v).rx = s.rx := rfl
@[simp] theorem State.setSram_pipes : (s.setSram span unit row v).pipes = s.pipes := rfl
@[simp] theorem State.setSram_progs : (s.setSram span unit row v).progs = s.progs := rfl
@[simp] theorem State.setSram_trestle : (s.setSram span unit row v).trestle = s.trestle := rfl
@[simp] theorem State.setSram_ord : (s.setSram span unit row v).ord = s.ord := rfl
@[simp] theorem State.setSram_egr : (s.setSram span unit row v).egr = s.egr := rfl
@[simp] theorem State.setSram_tel : (s.setSram span unit row v).tel = s.tel := rfl
@[simp] theorem State.setSram_via : (s.setSram span unit row v).via = s.via := rfl
@[simp] theorem State.setSram_cmp : (s.setSram span unit row v).cmp = s.cmp := rfl
@[simp] theorem State.setSram_pierTx : (s.setSram span unit row v).pierTx = s.pierTx := rfl
@[simp] theorem State.setSram_lanes : (s.setSram span unit row v).lanes = s.lanes := rfl
@[simp] theorem State.setSram_piers : (s.setSram span unit row v).piers = s.piers := rfl
@[simp] theorem State.setSram_time : (s.setSram span unit row v).time = s.time := rfl
@[simp] theorem State.setSram_hq : (s.setSram span unit row v).hq = s.hq := rfl
@[simp] theorem State.setSram_jrn : (s.setSram span unit row v).jrn = s.jrn := rfl
@[simp] theorem State.setSram_ks : (s.setSram span unit row v).ks = s.ks := rfl
@[simp] theorem State.setSram_pwr : (s.setSram span unit row v).pwr = s.pwr := rfl
@[simp] theorem State.setSram_boot : (s.setSram span unit row v).boot = s.boot := rfl
end

section
variable (span unit row v m : Nat)
@[simp] theorem State.setTcam_pending : (s.setTcam span unit row v m).pending = s.pending := rfl
@[simp] theorem State.setTcam_regs : (s.setTcam span unit row v m).regs = s.regs := rfl
@[simp] theorem State.setTcam_holding : (s.setTcam span unit row v m).holding = s.holding := rfl
@[simp] theorem State.setTcam_readData : (s.setTcam span unit row v m).readData = s.readData := rfl
@[simp] theorem State.setTcam_counters : (s.setTcam span unit row v m).counters = s.counters := rfl
@[simp] theorem State.setTcam_hostMem : (s.setTcam span unit row v m).hostMem = s.hostMem := rfl
@[simp] theorem State.setTcam_emitted : (s.setTcam span unit row v m).emitted = s.emitted := rfl
@[simp] theorem State.setTcam_freeCount : (s.setTcam span unit row v m).freeCount = s.freeCount := rfl
@[simp] theorem State.setTcam_chip : (s.setTcam span unit row v m).chip = s.chip := rfl
@[simp] theorem State.setTcam_fc : (s.setTcam span unit row v m).fc = s.fc := rfl
@[simp] theorem State.setTcam_buf : (s.setTcam span unit row v m).buf = s.buf := rfl
@[simp] theorem State.setTcam_rx : (s.setTcam span unit row v m).rx = s.rx := rfl
@[simp] theorem State.setTcam_pipes : (s.setTcam span unit row v m).pipes = s.pipes := rfl
@[simp] theorem State.setTcam_progs : (s.setTcam span unit row v m).progs = s.progs := rfl
@[simp] theorem State.setTcam_trestle : (s.setTcam span unit row v m).trestle = s.trestle := rfl
@[simp] theorem State.setTcam_ord : (s.setTcam span unit row v m).ord = s.ord := rfl
@[simp] theorem State.setTcam_egr : (s.setTcam span unit row v m).egr = s.egr := rfl
@[simp] theorem State.setTcam_tel : (s.setTcam span unit row v m).tel = s.tel := rfl
@[simp] theorem State.setTcam_via : (s.setTcam span unit row v m).via = s.via := rfl
@[simp] theorem State.setTcam_cmp : (s.setTcam span unit row v m).cmp = s.cmp := rfl
@[simp] theorem State.setTcam_pierTx : (s.setTcam span unit row v m).pierTx = s.pierTx := rfl
@[simp] theorem State.setTcam_lanes : (s.setTcam span unit row v m).lanes = s.lanes := rfl
@[simp] theorem State.setTcam_piers : (s.setTcam span unit row v m).piers = s.piers := rfl
@[simp] theorem State.setTcam_time : (s.setTcam span unit row v m).time = s.time := rfl
@[simp] theorem State.setTcam_hq : (s.setTcam span unit row v m).hq = s.hq := rfl
@[simp] theorem State.setTcam_jrn : (s.setTcam span unit row v m).jrn = s.jrn := rfl
@[simp] theorem State.setTcam_ks : (s.setTcam span unit row v m).ks = s.ks := rfl
@[simp] theorem State.setTcam_pwr : (s.setTcam span unit row v m).pwr = s.pwr := rfl
@[simp] theorem State.setTcam_boot : (s.setTcam span unit row v m).boot = s.boot := rfl
end

section
variable (span r : Nat) (x : Rule)
@[simp] theorem State.setRule_pending : (s.setRule span r x).pending = s.pending := rfl
@[simp] theorem State.setRule_regs : (s.setRule span r x).regs = s.regs := rfl
@[simp] theorem State.setRule_holding : (s.setRule span r x).holding = s.holding := rfl
@[simp] theorem State.setRule_readData : (s.setRule span r x).readData = s.readData := rfl
@[simp] theorem State.setRule_counters : (s.setRule span r x).counters = s.counters := rfl
@[simp] theorem State.setRule_hostMem : (s.setRule span r x).hostMem = s.hostMem := rfl
@[simp] theorem State.setRule_emitted : (s.setRule span r x).emitted = s.emitted := rfl
@[simp] theorem State.setRule_freeCount : (s.setRule span r x).freeCount = s.freeCount := rfl
@[simp] theorem State.setRule_chip : (s.setRule span r x).chip = s.chip := rfl
@[simp] theorem State.setRule_fc : (s.setRule span r x).fc = s.fc := rfl
@[simp] theorem State.setRule_buf : (s.setRule span r x).buf = s.buf := rfl
@[simp] theorem State.setRule_rx : (s.setRule span r x).rx = s.rx := rfl
@[simp] theorem State.setRule_pipes : (s.setRule span r x).pipes = s.pipes := rfl
@[simp] theorem State.setRule_progs : (s.setRule span r x).progs = s.progs := rfl
@[simp] theorem State.setRule_trestle : (s.setRule span r x).trestle = s.trestle := rfl
@[simp] theorem State.setRule_ord : (s.setRule span r x).ord = s.ord := rfl
@[simp] theorem State.setRule_egr : (s.setRule span r x).egr = s.egr := rfl
@[simp] theorem State.setRule_tel : (s.setRule span r x).tel = s.tel := rfl
@[simp] theorem State.setRule_via : (s.setRule span r x).via = s.via := rfl
@[simp] theorem State.setRule_cmp : (s.setRule span r x).cmp = s.cmp := rfl
@[simp] theorem State.setRule_pierTx : (s.setRule span r x).pierTx = s.pierTx := rfl
@[simp] theorem State.setRule_lanes : (s.setRule span r x).lanes = s.lanes := rfl
@[simp] theorem State.setRule_piers : (s.setRule span r x).piers = s.piers := rfl
@[simp] theorem State.setRule_time : (s.setRule span r x).time = s.time := rfl
@[simp] theorem State.setRule_hq : (s.setRule span r x).hq = s.hq := rfl
@[simp] theorem State.setRule_jrn : (s.setRule span r x).jrn = s.jrn := rfl
@[simp] theorem State.setRule_ks : (s.setRule span r x).ks = s.ks := rfl
@[simp] theorem State.setRule_pwr : (s.setRule span r x).pwr = s.pwr := rfl
@[simp] theorem State.setRule_boot : (s.setRule span r x).boot = s.boot := rfl
end

section
variable (l : List (Nat × Nat))
@[simp] theorem State.clearHits_pending : (s.clearHits l).pending = s.pending := rfl
@[simp] theorem State.clearHits_regs : (s.clearHits l).regs = s.regs := rfl
@[simp] theorem State.clearHits_holding : (s.clearHits l).holding = s.holding := rfl
@[simp] theorem State.clearHits_readData : (s.clearHits l).readData = s.readData := rfl
@[simp] theorem State.clearHits_counters : (s.clearHits l).counters = s.counters := rfl
@[simp] theorem State.clearHits_hostMem : (s.clearHits l).hostMem = s.hostMem := rfl
@[simp] theorem State.clearHits_emitted : (s.clearHits l).emitted = s.emitted := rfl
@[simp] theorem State.clearHits_freeCount : (s.clearHits l).freeCount = s.freeCount := rfl
@[simp] theorem State.clearHits_chip : (s.clearHits l).chip = s.chip := rfl
@[simp] theorem State.clearHits_fc : (s.clearHits l).fc = s.fc := rfl
@[simp] theorem State.clearHits_buf : (s.clearHits l).buf = s.buf := rfl
@[simp] theorem State.clearHits_rx : (s.clearHits l).rx = s.rx := rfl
@[simp] theorem State.clearHits_pipes : (s.clearHits l).pipes = s.pipes := rfl
@[simp] theorem State.clearHits_progs : (s.clearHits l).progs = s.progs := rfl
@[simp] theorem State.clearHits_trestle : (s.clearHits l).trestle = s.trestle := rfl
@[simp] theorem State.clearHits_ord : (s.clearHits l).ord = s.ord := rfl
@[simp] theorem State.clearHits_egr : (s.clearHits l).egr = s.egr := rfl
@[simp] theorem State.clearHits_tel : (s.clearHits l).tel = s.tel := rfl
@[simp] theorem State.clearHits_via : (s.clearHits l).via = s.via := rfl
@[simp] theorem State.clearHits_cmp : (s.clearHits l).cmp = s.cmp := rfl
@[simp] theorem State.clearHits_pierTx : (s.clearHits l).pierTx = s.pierTx := rfl
@[simp] theorem State.clearHits_lanes : (s.clearHits l).lanes = s.lanes := rfl
@[simp] theorem State.clearHits_piers : (s.clearHits l).piers = s.piers := rfl
@[simp] theorem State.clearHits_time : (s.clearHits l).time = s.time := rfl
@[simp] theorem State.clearHits_hq : (s.clearHits l).hq = s.hq := rfl
@[simp] theorem State.clearHits_jrn : (s.clearHits l).jrn = s.jrn := rfl
@[simp] theorem State.clearHits_ks : (s.clearHits l).ks = s.ks := rfl
@[simp] theorem State.clearHits_pwr : (s.clearHits l).pwr = s.pwr := rfl
@[simp] theorem State.clearHits_boot : (s.clearHits l).boot = s.boot := rfl
end

section
variable (base : Nat) (x : PtpInstance)
@[simp] theorem State.setPtp_pending : (s.setPtp base x).pending = s.pending := rfl
@[simp] theorem State.setPtp_regs : (s.setPtp base x).regs = s.regs := rfl
@[simp] theorem State.setPtp_holding : (s.setPtp base x).holding = s.holding := rfl
@[simp] theorem State.setPtp_readData : (s.setPtp base x).readData = s.readData := rfl
@[simp] theorem State.setPtp_counters : (s.setPtp base x).counters = s.counters := rfl
@[simp] theorem State.setPtp_hostMem : (s.setPtp base x).hostMem = s.hostMem := rfl
@[simp] theorem State.setPtp_emitted : (s.setPtp base x).emitted = s.emitted := rfl
@[simp] theorem State.setPtp_freeCount : (s.setPtp base x).freeCount = s.freeCount := rfl
@[simp] theorem State.setPtp_chip : (s.setPtp base x).chip = s.chip := rfl
@[simp] theorem State.setPtp_fc : (s.setPtp base x).fc = s.fc := rfl
@[simp] theorem State.setPtp_buf : (s.setPtp base x).buf = s.buf := rfl
@[simp] theorem State.setPtp_rx : (s.setPtp base x).rx = s.rx := rfl
@[simp] theorem State.setPtp_pipes : (s.setPtp base x).pipes = s.pipes := rfl
@[simp] theorem State.setPtp_progs : (s.setPtp base x).progs = s.progs := rfl
@[simp] theorem State.setPtp_tables : (s.setPtp base x).tables = s.tables := rfl
@[simp] theorem State.setPtp_trestle : (s.setPtp base x).trestle = s.trestle := rfl
@[simp] theorem State.setPtp_ord : (s.setPtp base x).ord = s.ord := rfl
@[simp] theorem State.setPtp_egr : (s.setPtp base x).egr = s.egr := rfl
@[simp] theorem State.setPtp_tel : (s.setPtp base x).tel = s.tel := rfl
@[simp] theorem State.setPtp_via : (s.setPtp base x).via = s.via := rfl
@[simp] theorem State.setPtp_cmp : (s.setPtp base x).cmp = s.cmp := rfl
@[simp] theorem State.setPtp_pierTx : (s.setPtp base x).pierTx = s.pierTx := rfl
@[simp] theorem State.setPtp_lanes : (s.setPtp base x).lanes = s.lanes := rfl
@[simp] theorem State.setPtp_piers : (s.setPtp base x).piers = s.piers := rfl
@[simp] theorem State.setPtp_time : (s.setPtp base x).time = s.time := rfl
@[simp] theorem State.setPtp_hq : (s.setPtp base x).hq = s.hq := rfl
@[simp] theorem State.setPtp_jrn : (s.setPtp base x).jrn = s.jrn := rfl
@[simp] theorem State.setPtp_pwr : (s.setPtp base x).pwr = s.pwr := rfl
@[simp] theorem State.setPtp_boot : (s.setPtp base x).boot = s.boot := rfl
end

section
variable (p : Nat) (x : Option RxFrame)
@[simp] theorem State.setRx_pending : (s.setRx p x).pending = s.pending := rfl
@[simp] theorem State.setRx_regs : (s.setRx p x).regs = s.regs := rfl
@[simp] theorem State.setRx_holding : (s.setRx p x).holding = s.holding := rfl
@[simp] theorem State.setRx_readData : (s.setRx p x).readData = s.readData := rfl
@[simp] theorem State.setRx_counters : (s.setRx p x).counters = s.counters := rfl
@[simp] theorem State.setRx_hostMem : (s.setRx p x).hostMem = s.hostMem := rfl
@[simp] theorem State.setRx_emitted : (s.setRx p x).emitted = s.emitted := rfl
@[simp] theorem State.setRx_freeCount : (s.setRx p x).freeCount = s.freeCount := rfl
@[simp] theorem State.setRx_chip : (s.setRx p x).chip = s.chip := rfl
@[simp] theorem State.setRx_fc : (s.setRx p x).fc = s.fc := rfl
@[simp] theorem State.setRx_buf : (s.setRx p x).buf = s.buf := rfl
@[simp] theorem State.setRx_pipes : (s.setRx p x).pipes = s.pipes := rfl
@[simp] theorem State.setRx_progs : (s.setRx p x).progs = s.progs := rfl
@[simp] theorem State.setRx_tables : (s.setRx p x).tables = s.tables := rfl
@[simp] theorem State.setRx_trestle : (s.setRx p x).trestle = s.trestle := rfl
@[simp] theorem State.setRx_ord : (s.setRx p x).ord = s.ord := rfl
@[simp] theorem State.setRx_egr : (s.setRx p x).egr = s.egr := rfl
@[simp] theorem State.setRx_tel : (s.setRx p x).tel = s.tel := rfl
@[simp] theorem State.setRx_via : (s.setRx p x).via = s.via := rfl
@[simp] theorem State.setRx_cmp : (s.setRx p x).cmp = s.cmp := rfl
@[simp] theorem State.setRx_pierTx : (s.setRx p x).pierTx = s.pierTx := rfl
@[simp] theorem State.setRx_lanes : (s.setRx p x).lanes = s.lanes := rfl
@[simp] theorem State.setRx_piers : (s.setRx p x).piers = s.piers := rfl
@[simp] theorem State.setRx_time : (s.setRx p x).time = s.time := rfl
@[simp] theorem State.setRx_hq : (s.setRx p x).hq = s.hq := rfl
@[simp] theorem State.setRx_jrn : (s.setRx p x).jrn = s.jrn := rfl
@[simp] theorem State.setRx_ks : (s.setRx p x).ks = s.ks := rfl
@[simp] theorem State.setRx_pwr : (s.setRx p x).pwr = s.pwr := rfl
@[simp] theorem State.setRx_boot : (s.setRx p x).boot = s.boot := rfl
end

section
variable (dev voq n : Nat)
@[simp] theorem State.setCmpPending_pending : (s.setCmpPending dev voq n).pending = s.pending := rfl
@[simp] theorem State.setCmpPending_regs : (s.setCmpPending dev voq n).regs = s.regs := rfl
@[simp] theorem State.setCmpPending_holding : (s.setCmpPending dev voq n).holding = s.holding := rfl
@[simp] theorem State.setCmpPending_readData : (s.setCmpPending dev voq n).readData = s.readData := rfl
@[simp] theorem State.setCmpPending_counters : (s.setCmpPending dev voq n).counters = s.counters := rfl
@[simp] theorem State.setCmpPending_hostMem : (s.setCmpPending dev voq n).hostMem = s.hostMem := rfl
@[simp] theorem State.setCmpPending_emitted : (s.setCmpPending dev voq n).emitted = s.emitted := rfl
@[simp] theorem State.setCmpPending_freeCount : (s.setCmpPending dev voq n).freeCount = s.freeCount := rfl
@[simp] theorem State.setCmpPending_chip : (s.setCmpPending dev voq n).chip = s.chip := rfl
@[simp] theorem State.setCmpPending_fc : (s.setCmpPending dev voq n).fc = s.fc := rfl
@[simp] theorem State.setCmpPending_buf : (s.setCmpPending dev voq n).buf = s.buf := rfl
@[simp] theorem State.setCmpPending_rx : (s.setCmpPending dev voq n).rx = s.rx := rfl
@[simp] theorem State.setCmpPending_pipes : (s.setCmpPending dev voq n).pipes = s.pipes := rfl
@[simp] theorem State.setCmpPending_progs : (s.setCmpPending dev voq n).progs = s.progs := rfl
@[simp] theorem State.setCmpPending_tables : (s.setCmpPending dev voq n).tables = s.tables := rfl
@[simp] theorem State.setCmpPending_trestle : (s.setCmpPending dev voq n).trestle = s.trestle := rfl
@[simp] theorem State.setCmpPending_ord : (s.setCmpPending dev voq n).ord = s.ord := rfl
@[simp] theorem State.setCmpPending_egr : (s.setCmpPending dev voq n).egr = s.egr := rfl
@[simp] theorem State.setCmpPending_tel : (s.setCmpPending dev voq n).tel = s.tel := rfl
@[simp] theorem State.setCmpPending_via : (s.setCmpPending dev voq n).via = s.via := rfl
@[simp] theorem State.setCmpPending_pierTx : (s.setCmpPending dev voq n).pierTx = s.pierTx := rfl
@[simp] theorem State.setCmpPending_lanes : (s.setCmpPending dev voq n).lanes = s.lanes := rfl
@[simp] theorem State.setCmpPending_piers : (s.setCmpPending dev voq n).piers = s.piers := rfl
@[simp] theorem State.setCmpPending_time : (s.setCmpPending dev voq n).time = s.time := rfl
@[simp] theorem State.setCmpPending_hq : (s.setCmpPending dev voq n).hq = s.hq := rfl
@[simp] theorem State.setCmpPending_jrn : (s.setCmpPending dev voq n).jrn = s.jrn := rfl
@[simp] theorem State.setCmpPending_ks : (s.setCmpPending dev voq n).ks = s.ks := rfl
@[simp] theorem State.setCmpPending_pwr : (s.setCmpPending dev voq n).pwr = s.pwr := rfl
@[simp] theorem State.setCmpPending_boot : (s.setCmpPending dev voq n).boot = s.boot := rfl
end

section
variable (x : Nat) (y : Shaper)
@[simp] theorem State.setShaper_pending : (s.setShaper x y).pending = s.pending := rfl
@[simp] theorem State.setShaper_regs : (s.setShaper x y).regs = s.regs := rfl
@[simp] theorem State.setShaper_holding : (s.setShaper x y).holding = s.holding := rfl
@[simp] theorem State.setShaper_readData : (s.setShaper x y).readData = s.readData := rfl
@[simp] theorem State.setShaper_counters : (s.setShaper x y).counters = s.counters := rfl
@[simp] theorem State.setShaper_hostMem : (s.setShaper x y).hostMem = s.hostMem := rfl
@[simp] theorem State.setShaper_emitted : (s.setShaper x y).emitted = s.emitted := rfl
@[simp] theorem State.setShaper_freeCount : (s.setShaper x y).freeCount = s.freeCount := rfl
@[simp] theorem State.setShaper_chip : (s.setShaper x y).chip = s.chip := rfl
@[simp] theorem State.setShaper_fc : (s.setShaper x y).fc = s.fc := rfl
@[simp] theorem State.setShaper_buf : (s.setShaper x y).buf = s.buf := rfl
@[simp] theorem State.setShaper_rx : (s.setShaper x y).rx = s.rx := rfl
@[simp] theorem State.setShaper_pipes : (s.setShaper x y).pipes = s.pipes := rfl
@[simp] theorem State.setShaper_progs : (s.setShaper x y).progs = s.progs := rfl
@[simp] theorem State.setShaper_tables : (s.setShaper x y).tables = s.tables := rfl
@[simp] theorem State.setShaper_trestle : (s.setShaper x y).trestle = s.trestle := rfl
@[simp] theorem State.setShaper_ord : (s.setShaper x y).ord = s.ord := rfl
@[simp] theorem State.setShaper_tel : (s.setShaper x y).tel = s.tel := rfl
@[simp] theorem State.setShaper_via : (s.setShaper x y).via = s.via := rfl
@[simp] theorem State.setShaper_cmp : (s.setShaper x y).cmp = s.cmp := rfl
@[simp] theorem State.setShaper_pierTx : (s.setShaper x y).pierTx = s.pierTx := rfl
@[simp] theorem State.setShaper_lanes : (s.setShaper x y).lanes = s.lanes := rfl
@[simp] theorem State.setShaper_piers : (s.setShaper x y).piers = s.piers := rfl
@[simp] theorem State.setShaper_time : (s.setShaper x y).time = s.time := rfl
@[simp] theorem State.setShaper_hq : (s.setShaper x y).hq = s.hq := rfl
@[simp] theorem State.setShaper_jrn : (s.setShaper x y).jrn = s.jrn := rfl
@[simp] theorem State.setShaper_ks : (s.setShaper x y).ks = s.ks := rfl
@[simp] theorem State.setShaper_pwr : (s.setShaper x y).pwr = s.pwr := rfl
@[simp] theorem State.setShaper_boot : (s.setShaper x y).boot = s.boot := rfl
end

section
variable (p : Nat)
@[simp] theorem State.served_pending : (s.served p).pending = s.pending := rfl
@[simp] theorem State.served_regs : (s.served p).regs = s.regs := rfl
@[simp] theorem State.served_holding : (s.served p).holding = s.holding := rfl
@[simp] theorem State.served_readData : (s.served p).readData = s.readData := rfl
@[simp] theorem State.served_counters : (s.served p).counters = s.counters := rfl
@[simp] theorem State.served_hostMem : (s.served p).hostMem = s.hostMem := rfl
@[simp] theorem State.served_emitted : (s.served p).emitted = s.emitted := rfl
@[simp] theorem State.served_freeCount : (s.served p).freeCount = s.freeCount := rfl
@[simp] theorem State.served_chip : (s.served p).chip = s.chip := rfl
@[simp] theorem State.served_fc : (s.served p).fc = s.fc := rfl
@[simp] theorem State.served_buf : (s.served p).buf = s.buf := rfl
@[simp] theorem State.served_rx : (s.served p).rx = s.rx := rfl
@[simp] theorem State.served_pipes : (s.served p).pipes = s.pipes := rfl
@[simp] theorem State.served_progs : (s.served p).progs = s.progs := rfl
@[simp] theorem State.served_tables : (s.served p).tables = s.tables := rfl
@[simp] theorem State.served_trestle : (s.served p).trestle = s.trestle := rfl
@[simp] theorem State.served_ord : (s.served p).ord = s.ord := rfl
@[simp] theorem State.served_tel : (s.served p).tel = s.tel := rfl
@[simp] theorem State.served_via : (s.served p).via = s.via := rfl
@[simp] theorem State.served_cmp : (s.served p).cmp = s.cmp := rfl
@[simp] theorem State.served_pierTx : (s.served p).pierTx = s.pierTx := rfl
@[simp] theorem State.served_lanes : (s.served p).lanes = s.lanes := rfl
@[simp] theorem State.served_piers : (s.served p).piers = s.piers := rfl
@[simp] theorem State.served_time : (s.served p).time = s.time := rfl
@[simp] theorem State.served_hq : (s.served p).hq = s.hq := rfl
@[simp] theorem State.served_jrn : (s.served p).jrn = s.jrn := rfl
@[simp] theorem State.served_ks : (s.served p).ks = s.ks := rfl
@[simp] theorem State.served_pwr : (s.served p).pwr = s.pwr := rfl
@[simp] theorem State.served_boot : (s.served p).boot = s.boot := rfl
end

section
variable (p k n : Nat)
@[simp] theorem State.setStop_pending : (s.setStop p k n).pending = s.pending := rfl
@[simp] theorem State.setStop_regs : (s.setStop p k n).regs = s.regs := rfl
@[simp] theorem State.setStop_holding : (s.setStop p k n).holding = s.holding := rfl
@[simp] theorem State.setStop_readData : (s.setStop p k n).readData = s.readData := rfl
@[simp] theorem State.setStop_counters : (s.setStop p k n).counters = s.counters := rfl
@[simp] theorem State.setStop_hostMem : (s.setStop p k n).hostMem = s.hostMem := rfl
@[simp] theorem State.setStop_emitted : (s.setStop p k n).emitted = s.emitted := rfl
@[simp] theorem State.setStop_freeCount : (s.setStop p k n).freeCount = s.freeCount := rfl
@[simp] theorem State.setStop_chip : (s.setStop p k n).chip = s.chip := rfl
@[simp] theorem State.setStop_fc : (s.setStop p k n).fc = s.fc := rfl
@[simp] theorem State.setStop_buf : (s.setStop p k n).buf = s.buf := rfl
@[simp] theorem State.setStop_rx : (s.setStop p k n).rx = s.rx := rfl
@[simp] theorem State.setStop_pipes : (s.setStop p k n).pipes = s.pipes := rfl
@[simp] theorem State.setStop_progs : (s.setStop p k n).progs = s.progs := rfl
@[simp] theorem State.setStop_tables : (s.setStop p k n).tables = s.tables := rfl
@[simp] theorem State.setStop_trestle : (s.setStop p k n).trestle = s.trestle := rfl
@[simp] theorem State.setStop_ord : (s.setStop p k n).ord = s.ord := rfl
@[simp] theorem State.setStop_tel : (s.setStop p k n).tel = s.tel := rfl
@[simp] theorem State.setStop_via : (s.setStop p k n).via = s.via := rfl
@[simp] theorem State.setStop_cmp : (s.setStop p k n).cmp = s.cmp := rfl
@[simp] theorem State.setStop_pierTx : (s.setStop p k n).pierTx = s.pierTx := rfl
@[simp] theorem State.setStop_lanes : (s.setStop p k n).lanes = s.lanes := rfl
@[simp] theorem State.setStop_piers : (s.setStop p k n).piers = s.piers := rfl
@[simp] theorem State.setStop_time : (s.setStop p k n).time = s.time := rfl
@[simp] theorem State.setStop_hq : (s.setStop p k n).hq = s.hq := rfl
@[simp] theorem State.setStop_jrn : (s.setStop p k n).jrn = s.jrn := rfl
@[simp] theorem State.setStop_ks : (s.setStop p k n).ks = s.ks := rfl
@[simp] theorem State.setStop_pwr : (s.setStop p k n).pwr = s.pwr := rfl
@[simp] theorem State.setStop_boot : (s.setStop p k n).boot = s.boot := rfl
end

section
variable (genB cust : Bool)
@[simp] theorem State.clearRegion_pending : (s.clearRegion genB cust).pending = s.pending := rfl
@[simp] theorem State.clearRegion_regs : (s.clearRegion genB cust).regs = s.regs := rfl
@[simp] theorem State.clearRegion_holding : (s.clearRegion genB cust).holding = s.holding := rfl
@[simp] theorem State.clearRegion_readData : (s.clearRegion genB cust).readData = s.readData := rfl
@[simp] theorem State.clearRegion_counters : (s.clearRegion genB cust).counters = s.counters := rfl
@[simp] theorem State.clearRegion_hostMem : (s.clearRegion genB cust).hostMem = s.hostMem := rfl
@[simp] theorem State.clearRegion_emitted : (s.clearRegion genB cust).emitted = s.emitted := rfl
@[simp] theorem State.clearRegion_freeCount : (s.clearRegion genB cust).freeCount = s.freeCount := rfl
@[simp] theorem State.clearRegion_chip : (s.clearRegion genB cust).chip = s.chip := rfl
@[simp] theorem State.clearRegion_fc : (s.clearRegion genB cust).fc = s.fc := rfl
@[simp] theorem State.clearRegion_buf : (s.clearRegion genB cust).buf = s.buf := rfl
@[simp] theorem State.clearRegion_rx : (s.clearRegion genB cust).rx = s.rx := rfl
@[simp] theorem State.clearRegion_pipes : (s.clearRegion genB cust).pipes = s.pipes := rfl
@[simp] theorem State.clearRegion_tables : (s.clearRegion genB cust).tables = s.tables := rfl
@[simp] theorem State.clearRegion_trestle : (s.clearRegion genB cust).trestle = s.trestle := rfl
@[simp] theorem State.clearRegion_ord : (s.clearRegion genB cust).ord = s.ord := rfl
@[simp] theorem State.clearRegion_egr : (s.clearRegion genB cust).egr = s.egr := rfl
@[simp] theorem State.clearRegion_tel : (s.clearRegion genB cust).tel = s.tel := rfl
@[simp] theorem State.clearRegion_via : (s.clearRegion genB cust).via = s.via := rfl
@[simp] theorem State.clearRegion_cmp : (s.clearRegion genB cust).cmp = s.cmp := rfl
@[simp] theorem State.clearRegion_pierTx : (s.clearRegion genB cust).pierTx = s.pierTx := rfl
@[simp] theorem State.clearRegion_lanes : (s.clearRegion genB cust).lanes = s.lanes := rfl
@[simp] theorem State.clearRegion_piers : (s.clearRegion genB cust).piers = s.piers := rfl
@[simp] theorem State.clearRegion_time : (s.clearRegion genB cust).time = s.time := rfl
@[simp] theorem State.clearRegion_hq : (s.clearRegion genB cust).hq = s.hq := rfl
@[simp] theorem State.clearRegion_jrn : (s.clearRegion genB cust).jrn = s.jrn := rfl
@[simp] theorem State.clearRegion_ks : (s.clearRegion genB cust).ks = s.ks := rfl
@[simp] theorem State.clearRegion_pwr : (s.clearRegion genB cust).pwr = s.pwr := rfl
@[simp] theorem State.clearRegion_boot : (s.clearRegion genB cust).boot = s.boot := rfl
end

section
variable (l : Nat) (x : LaneRec)
@[simp] theorem State.setLane_pending : (s.setLane l x).pending = s.pending := rfl
@[simp] theorem State.setLane_regs : (s.setLane l x).regs = s.regs := rfl
@[simp] theorem State.setLane_holding : (s.setLane l x).holding = s.holding := rfl
@[simp] theorem State.setLane_readData : (s.setLane l x).readData = s.readData := rfl
@[simp] theorem State.setLane_counters : (s.setLane l x).counters = s.counters := rfl
@[simp] theorem State.setLane_hostMem : (s.setLane l x).hostMem = s.hostMem := rfl
@[simp] theorem State.setLane_emitted : (s.setLane l x).emitted = s.emitted := rfl
@[simp] theorem State.setLane_freeCount : (s.setLane l x).freeCount = s.freeCount := rfl
@[simp] theorem State.setLane_chip : (s.setLane l x).chip = s.chip := rfl
@[simp] theorem State.setLane_fc : (s.setLane l x).fc = s.fc := rfl
@[simp] theorem State.setLane_buf : (s.setLane l x).buf = s.buf := rfl
@[simp] theorem State.setLane_rx : (s.setLane l x).rx = s.rx := rfl
@[simp] theorem State.setLane_pipes : (s.setLane l x).pipes = s.pipes := rfl
@[simp] theorem State.setLane_progs : (s.setLane l x).progs = s.progs := rfl
@[simp] theorem State.setLane_tables : (s.setLane l x).tables = s.tables := rfl
@[simp] theorem State.setLane_trestle : (s.setLane l x).trestle = s.trestle := rfl
@[simp] theorem State.setLane_ord : (s.setLane l x).ord = s.ord := rfl
@[simp] theorem State.setLane_egr : (s.setLane l x).egr = s.egr := rfl
@[simp] theorem State.setLane_tel : (s.setLane l x).tel = s.tel := rfl
@[simp] theorem State.setLane_via : (s.setLane l x).via = s.via := rfl
@[simp] theorem State.setLane_cmp : (s.setLane l x).cmp = s.cmp := rfl
@[simp] theorem State.setLane_pierTx : (s.setLane l x).pierTx = s.pierTx := rfl
@[simp] theorem State.setLane_piers : (s.setLane l x).piers = s.piers := rfl
@[simp] theorem State.setLane_time : (s.setLane l x).time = s.time := rfl
@[simp] theorem State.setLane_hq : (s.setLane l x).hq = s.hq := rfl
@[simp] theorem State.setLane_jrn : (s.setLane l x).jrn = s.jrn := rfl
@[simp] theorem State.setLane_ks : (s.setLane l x).ks = s.ks := rfl
@[simp] theorem State.setLane_pwr : (s.setLane l x).pwr = s.pwr := rfl
@[simp] theorem State.setLane_boot : (s.setLane l x).boot = s.boot := rfl
end

section
variable (c n : Nat)
@[simp] theorem State.setReserved_pending : (s.setReserved c n).pending = s.pending := rfl
@[simp] theorem State.setReserved_regs : (s.setReserved c n).regs = s.regs := rfl
@[simp] theorem State.setReserved_holding : (s.setReserved c n).holding = s.holding := rfl
@[simp] theorem State.setReserved_readData : (s.setReserved c n).readData = s.readData := rfl
@[simp] theorem State.setReserved_counters : (s.setReserved c n).counters = s.counters := rfl
@[simp] theorem State.setReserved_hostMem : (s.setReserved c n).hostMem = s.hostMem := rfl
@[simp] theorem State.setReserved_emitted : (s.setReserved c n).emitted = s.emitted := rfl
@[simp] theorem State.setReserved_freeCount : (s.setReserved c n).freeCount = s.freeCount := rfl
@[simp] theorem State.setReserved_chip : (s.setReserved c n).chip = s.chip := rfl
@[simp] theorem State.setReserved_fc : (s.setReserved c n).fc = s.fc := rfl
@[simp] theorem State.setReserved_buf : (s.setReserved c n).buf = s.buf := rfl
@[simp] theorem State.setReserved_rx : (s.setReserved c n).rx = s.rx := rfl
@[simp] theorem State.setReserved_pipes : (s.setReserved c n).pipes = s.pipes := rfl
@[simp] theorem State.setReserved_progs : (s.setReserved c n).progs = s.progs := rfl
@[simp] theorem State.setReserved_tables : (s.setReserved c n).tables = s.tables := rfl
@[simp] theorem State.setReserved_trestle : (s.setReserved c n).trestle = s.trestle := rfl
@[simp] theorem State.setReserved_ord : (s.setReserved c n).ord = s.ord := rfl
@[simp] theorem State.setReserved_egr : (s.setReserved c n).egr = s.egr := rfl
@[simp] theorem State.setReserved_tel : (s.setReserved c n).tel = s.tel := rfl
@[simp] theorem State.setReserved_via : (s.setReserved c n).via = s.via := rfl
@[simp] theorem State.setReserved_cmp : (s.setReserved c n).cmp = s.cmp := rfl
@[simp] theorem State.setReserved_pierTx : (s.setReserved c n).pierTx = s.pierTx := rfl
@[simp] theorem State.setReserved_lanes : (s.setReserved c n).lanes = s.lanes := rfl
@[simp] theorem State.setReserved_piers : (s.setReserved c n).piers = s.piers := rfl
@[simp] theorem State.setReserved_time : (s.setReserved c n).time = s.time := rfl
@[simp] theorem State.setReserved_jrn : (s.setReserved c n).jrn = s.jrn := rfl
@[simp] theorem State.setReserved_ks : (s.setReserved c n).ks = s.ks := rfl
@[simp] theorem State.setReserved_pwr : (s.setReserved c n).pwr = s.pwr := rfl
@[simp] theorem State.setReserved_boot : (s.setReserved c n).boot = s.boot := rfl
end

section
variable (l : Nat) (x : D2dLink)
@[simp] theorem State.setD2d_pending : (s.setD2d l x).pending = s.pending := rfl
@[simp] theorem State.setD2d_regs : (s.setD2d l x).regs = s.regs := rfl
@[simp] theorem State.setD2d_holding : (s.setD2d l x).holding = s.holding := rfl
@[simp] theorem State.setD2d_readData : (s.setD2d l x).readData = s.readData := rfl
@[simp] theorem State.setD2d_counters : (s.setD2d l x).counters = s.counters := rfl
@[simp] theorem State.setD2d_hostMem : (s.setD2d l x).hostMem = s.hostMem := rfl
@[simp] theorem State.setD2d_emitted : (s.setD2d l x).emitted = s.emitted := rfl
@[simp] theorem State.setD2d_freeCount : (s.setD2d l x).freeCount = s.freeCount := rfl
@[simp] theorem State.setD2d_fc : (s.setD2d l x).fc = s.fc := rfl
@[simp] theorem State.setD2d_buf : (s.setD2d l x).buf = s.buf := rfl
@[simp] theorem State.setD2d_rx : (s.setD2d l x).rx = s.rx := rfl
@[simp] theorem State.setD2d_pipes : (s.setD2d l x).pipes = s.pipes := rfl
@[simp] theorem State.setD2d_progs : (s.setD2d l x).progs = s.progs := rfl
@[simp] theorem State.setD2d_tables : (s.setD2d l x).tables = s.tables := rfl
@[simp] theorem State.setD2d_trestle : (s.setD2d l x).trestle = s.trestle := rfl
@[simp] theorem State.setD2d_ord : (s.setD2d l x).ord = s.ord := rfl
@[simp] theorem State.setD2d_egr : (s.setD2d l x).egr = s.egr := rfl
@[simp] theorem State.setD2d_tel : (s.setD2d l x).tel = s.tel := rfl
@[simp] theorem State.setD2d_via : (s.setD2d l x).via = s.via := rfl
@[simp] theorem State.setD2d_cmp : (s.setD2d l x).cmp = s.cmp := rfl
@[simp] theorem State.setD2d_pierTx : (s.setD2d l x).pierTx = s.pierTx := rfl
@[simp] theorem State.setD2d_lanes : (s.setD2d l x).lanes = s.lanes := rfl
@[simp] theorem State.setD2d_piers : (s.setD2d l x).piers = s.piers := rfl
@[simp] theorem State.setD2d_time : (s.setD2d l x).time = s.time := rfl
@[simp] theorem State.setD2d_hq : (s.setD2d l x).hq = s.hq := rfl
@[simp] theorem State.setD2d_jrn : (s.setD2d l x).jrn = s.jrn := rfl
@[simp] theorem State.setD2d_ks : (s.setD2d l x).ks = s.ks := rfl
@[simp] theorem State.setD2d_pwr : (s.setD2d l x).pwr = s.pwr := rfl
@[simp] theorem State.setD2d_boot : (s.setD2d l x).boot = s.boot := rfl
end

section
variable (key t : Nat)
@[simp] theorem State.setDiverged_pending : (s.setDiverged key t).pending = s.pending := rfl
@[simp] theorem State.setDiverged_regs : (s.setDiverged key t).regs = s.regs := rfl
@[simp] theorem State.setDiverged_holding : (s.setDiverged key t).holding = s.holding := rfl
@[simp] theorem State.setDiverged_readData : (s.setDiverged key t).readData = s.readData := rfl
@[simp] theorem State.setDiverged_counters : (s.setDiverged key t).counters = s.counters := rfl
@[simp] theorem State.setDiverged_hostMem : (s.setDiverged key t).hostMem = s.hostMem := rfl
@[simp] theorem State.setDiverged_emitted : (s.setDiverged key t).emitted = s.emitted := rfl
@[simp] theorem State.setDiverged_freeCount : (s.setDiverged key t).freeCount = s.freeCount := rfl
@[simp] theorem State.setDiverged_chip : (s.setDiverged key t).chip = s.chip := rfl
@[simp] theorem State.setDiverged_buf : (s.setDiverged key t).buf = s.buf := rfl
@[simp] theorem State.setDiverged_rx : (s.setDiverged key t).rx = s.rx := rfl
@[simp] theorem State.setDiverged_pipes : (s.setDiverged key t).pipes = s.pipes := rfl
@[simp] theorem State.setDiverged_progs : (s.setDiverged key t).progs = s.progs := rfl
@[simp] theorem State.setDiverged_tables : (s.setDiverged key t).tables = s.tables := rfl
@[simp] theorem State.setDiverged_trestle : (s.setDiverged key t).trestle = s.trestle := rfl
@[simp] theorem State.setDiverged_ord : (s.setDiverged key t).ord = s.ord := rfl
@[simp] theorem State.setDiverged_egr : (s.setDiverged key t).egr = s.egr := rfl
@[simp] theorem State.setDiverged_tel : (s.setDiverged key t).tel = s.tel := rfl
@[simp] theorem State.setDiverged_via : (s.setDiverged key t).via = s.via := rfl
@[simp] theorem State.setDiverged_cmp : (s.setDiverged key t).cmp = s.cmp := rfl
@[simp] theorem State.setDiverged_pierTx : (s.setDiverged key t).pierTx = s.pierTx := rfl
@[simp] theorem State.setDiverged_lanes : (s.setDiverged key t).lanes = s.lanes := rfl
@[simp] theorem State.setDiverged_piers : (s.setDiverged key t).piers = s.piers := rfl
@[simp] theorem State.setDiverged_time : (s.setDiverged key t).time = s.time := rfl
@[simp] theorem State.setDiverged_hq : (s.setDiverged key t).hq = s.hq := rfl
@[simp] theorem State.setDiverged_jrn : (s.setDiverged key t).jrn = s.jrn := rfl
@[simp] theorem State.setDiverged_ks : (s.setDiverged key t).ks = s.ks := rfl
@[simp] theorem State.setDiverged_pwr : (s.setDiverged key t).pwr = s.pwr := rfl
@[simp] theorem State.setDiverged_boot : (s.setDiverged key t).boot = s.boot := rfl
end

section
variable (a : Nat) (bs : List Byte)
@[simp] theorem State.flashProgram_pending : (s.flashProgram a bs).pending = s.pending := rfl
@[simp] theorem State.flashProgram_regs : (s.flashProgram a bs).regs = s.regs := rfl
@[simp] theorem State.flashProgram_holding : (s.flashProgram a bs).holding = s.holding := rfl
@[simp] theorem State.flashProgram_readData : (s.flashProgram a bs).readData = s.readData := rfl
@[simp] theorem State.flashProgram_counters : (s.flashProgram a bs).counters = s.counters := rfl
@[simp] theorem State.flashProgram_hostMem : (s.flashProgram a bs).hostMem = s.hostMem := rfl
@[simp] theorem State.flashProgram_emitted : (s.flashProgram a bs).emitted = s.emitted := rfl
@[simp] theorem State.flashProgram_freeCount : (s.flashProgram a bs).freeCount = s.freeCount := rfl
@[simp] theorem State.flashProgram_chip : (s.flashProgram a bs).chip = s.chip := rfl
@[simp] theorem State.flashProgram_fc : (s.flashProgram a bs).fc = s.fc := rfl
@[simp] theorem State.flashProgram_buf : (s.flashProgram a bs).buf = s.buf := rfl
@[simp] theorem State.flashProgram_rx : (s.flashProgram a bs).rx = s.rx := rfl
@[simp] theorem State.flashProgram_pipes : (s.flashProgram a bs).pipes = s.pipes := rfl
@[simp] theorem State.flashProgram_progs : (s.flashProgram a bs).progs = s.progs := rfl
@[simp] theorem State.flashProgram_tables : (s.flashProgram a bs).tables = s.tables := rfl
@[simp] theorem State.flashProgram_trestle : (s.flashProgram a bs).trestle = s.trestle := rfl
@[simp] theorem State.flashProgram_ord : (s.flashProgram a bs).ord = s.ord := rfl
@[simp] theorem State.flashProgram_egr : (s.flashProgram a bs).egr = s.egr := rfl
@[simp] theorem State.flashProgram_tel : (s.flashProgram a bs).tel = s.tel := rfl
@[simp] theorem State.flashProgram_via : (s.flashProgram a bs).via = s.via := rfl
@[simp] theorem State.flashProgram_cmp : (s.flashProgram a bs).cmp = s.cmp := rfl
@[simp] theorem State.flashProgram_pierTx : (s.flashProgram a bs).pierTx = s.pierTx := rfl
@[simp] theorem State.flashProgram_lanes : (s.flashProgram a bs).lanes = s.lanes := rfl
@[simp] theorem State.flashProgram_piers : (s.flashProgram a bs).piers = s.piers := rfl
@[simp] theorem State.flashProgram_time : (s.flashProgram a bs).time = s.time := rfl
@[simp] theorem State.flashProgram_hq : (s.flashProgram a bs).hq = s.hq := rfl
@[simp] theorem State.flashProgram_jrn : (s.flashProgram a bs).jrn = s.jrn := rfl
@[simp] theorem State.flashProgram_ks : (s.flashProgram a bs).ks = s.ks := rfl
@[simp] theorem State.flashProgram_pwr : (s.flashProgram a bs).pwr = s.pwr := rfl
end

section
variable (n : Nat) (p : SpanPhase)
@[simp] theorem State.setSpanPhase_pending : (s.setSpanPhase n p).pending = s.pending := rfl
@[simp] theorem State.setSpanPhase_regs : (s.setSpanPhase n p).regs = s.regs := rfl
@[simp] theorem State.setSpanPhase_holding : (s.setSpanPhase n p).holding = s.holding := rfl
@[simp] theorem State.setSpanPhase_readData : (s.setSpanPhase n p).readData = s.readData := rfl
@[simp] theorem State.setSpanPhase_counters : (s.setSpanPhase n p).counters = s.counters := rfl
@[simp] theorem State.setSpanPhase_hostMem : (s.setSpanPhase n p).hostMem = s.hostMem := rfl
@[simp] theorem State.setSpanPhase_emitted : (s.setSpanPhase n p).emitted = s.emitted := rfl
@[simp] theorem State.setSpanPhase_freeCount : (s.setSpanPhase n p).freeCount = s.freeCount := rfl
@[simp] theorem State.setSpanPhase_fc : (s.setSpanPhase n p).fc = s.fc := rfl
@[simp] theorem State.setSpanPhase_buf : (s.setSpanPhase n p).buf = s.buf := rfl
@[simp] theorem State.setSpanPhase_rx : (s.setSpanPhase n p).rx = s.rx := rfl
@[simp] theorem State.setSpanPhase_pipes : (s.setSpanPhase n p).pipes = s.pipes := rfl
@[simp] theorem State.setSpanPhase_progs : (s.setSpanPhase n p).progs = s.progs := rfl
@[simp] theorem State.setSpanPhase_tables : (s.setSpanPhase n p).tables = s.tables := rfl
@[simp] theorem State.setSpanPhase_trestle : (s.setSpanPhase n p).trestle = s.trestle := rfl
@[simp] theorem State.setSpanPhase_ord : (s.setSpanPhase n p).ord = s.ord := rfl
@[simp] theorem State.setSpanPhase_egr : (s.setSpanPhase n p).egr = s.egr := rfl
@[simp] theorem State.setSpanPhase_tel : (s.setSpanPhase n p).tel = s.tel := rfl
@[simp] theorem State.setSpanPhase_via : (s.setSpanPhase n p).via = s.via := rfl
@[simp] theorem State.setSpanPhase_cmp : (s.setSpanPhase n p).cmp = s.cmp := rfl
@[simp] theorem State.setSpanPhase_pierTx : (s.setSpanPhase n p).pierTx = s.pierTx := rfl
@[simp] theorem State.setSpanPhase_lanes : (s.setSpanPhase n p).lanes = s.lanes := rfl
@[simp] theorem State.setSpanPhase_piers : (s.setSpanPhase n p).piers = s.piers := rfl
@[simp] theorem State.setSpanPhase_time : (s.setSpanPhase n p).time = s.time := rfl
@[simp] theorem State.setSpanPhase_hq : (s.setSpanPhase n p).hq = s.hq := rfl
@[simp] theorem State.setSpanPhase_jrn : (s.setSpanPhase n p).jrn = s.jrn := rfl
@[simp] theorem State.setSpanPhase_ks : (s.setSpanPhase n p).ks = s.ks := rfl
@[simp] theorem State.setSpanPhase_pwr : (s.setSpanPhase n p).pwr = s.pwr := rfl
@[simp] theorem State.setSpanPhase_boot : (s.setSpanPhase n p).boot = s.boot := rfl
end

section
@[simp] theorem State.forgetBuffers_pending : (s.forgetBuffers).pending = s.pending := rfl
@[simp] theorem State.forgetBuffers_regs : (s.forgetBuffers).regs = s.regs := rfl
@[simp] theorem State.forgetBuffers_holding : (s.forgetBuffers).holding = s.holding := rfl
@[simp] theorem State.forgetBuffers_readData : (s.forgetBuffers).readData = s.readData := rfl
@[simp] theorem State.forgetBuffers_counters : (s.forgetBuffers).counters = s.counters := rfl
@[simp] theorem State.forgetBuffers_hostMem : (s.forgetBuffers).hostMem = s.hostMem := rfl
@[simp] theorem State.forgetBuffers_emitted : (s.forgetBuffers).emitted = s.emitted := rfl
@[simp] theorem State.forgetBuffers_freeCount : (s.forgetBuffers).freeCount = s.freeCount := rfl
@[simp] theorem State.forgetBuffers_chip : (s.forgetBuffers).chip = s.chip := rfl
@[simp] theorem State.forgetBuffers_fc : (s.forgetBuffers).fc = s.fc := rfl
@[simp] theorem State.forgetBuffers_buf : (s.forgetBuffers).buf = s.buf := rfl
@[simp] theorem State.forgetBuffers_rx : (s.forgetBuffers).rx = s.rx := rfl
@[simp] theorem State.forgetBuffers_pipes : (s.forgetBuffers).pipes = s.pipes := rfl
@[simp] theorem State.forgetBuffers_progs : (s.forgetBuffers).progs = s.progs := rfl
@[simp] theorem State.forgetBuffers_tables : (s.forgetBuffers).tables = s.tables := rfl
@[simp] theorem State.forgetBuffers_trestle : (s.forgetBuffers).trestle = s.trestle := rfl
@[simp] theorem State.forgetBuffers_ord : (s.forgetBuffers).ord = s.ord := rfl
@[simp] theorem State.forgetBuffers_egr : (s.forgetBuffers).egr = s.egr := rfl
@[simp] theorem State.forgetBuffers_tel : (s.forgetBuffers).tel = s.tel := rfl
@[simp] theorem State.forgetBuffers_via : (s.forgetBuffers).via = s.via := rfl
@[simp] theorem State.forgetBuffers_cmp : (s.forgetBuffers).cmp = s.cmp := rfl
@[simp] theorem State.forgetBuffers_pierTx : (s.forgetBuffers).pierTx = s.pierTx := rfl
@[simp] theorem State.forgetBuffers_lanes : (s.forgetBuffers).lanes = s.lanes := rfl
@[simp] theorem State.forgetBuffers_piers : (s.forgetBuffers).piers = s.piers := rfl
@[simp] theorem State.forgetBuffers_time : (s.forgetBuffers).time = s.time := rfl
@[simp] theorem State.forgetBuffers_jrn : (s.forgetBuffers).jrn = s.jrn := rfl
@[simp] theorem State.forgetBuffers_ks : (s.forgetBuffers).ks = s.ks := rfl
@[simp] theorem State.forgetBuffers_pwr : (s.forgetBuffers).pwr = s.pwr := rfl
@[simp] theorem State.forgetBuffers_boot : (s.forgetBuffers).boot = s.boot := rfl
end

section
@[simp] theorem State.partsStarted_pending : (s.partsStarted).pending = s.pending := rfl
@[simp] theorem State.partsStarted_regs : (s.partsStarted).regs = s.regs := rfl
@[simp] theorem State.partsStarted_holding : (s.partsStarted).holding = s.holding := rfl
@[simp] theorem State.partsStarted_readData : (s.partsStarted).readData = s.readData := rfl
@[simp] theorem State.partsStarted_counters : (s.partsStarted).counters = s.counters := rfl
@[simp] theorem State.partsStarted_hostMem : (s.partsStarted).hostMem = s.hostMem := rfl
@[simp] theorem State.partsStarted_emitted : (s.partsStarted).emitted = s.emitted := rfl
@[simp] theorem State.partsStarted_freeCount : (s.partsStarted).freeCount = s.freeCount := rfl
@[simp] theorem State.partsStarted_chip : (s.partsStarted).chip = s.chip := rfl
@[simp] theorem State.partsStarted_fc : (s.partsStarted).fc = s.fc := rfl
@[simp] theorem State.partsStarted_buf : (s.partsStarted).buf = s.buf := rfl
@[simp] theorem State.partsStarted_rx : (s.partsStarted).rx = s.rx := rfl
@[simp] theorem State.partsStarted_pipes : (s.partsStarted).pipes = s.pipes := rfl
@[simp] theorem State.partsStarted_progs : (s.partsStarted).progs = s.progs := rfl
@[simp] theorem State.partsStarted_tables : (s.partsStarted).tables = s.tables := rfl
@[simp] theorem State.partsStarted_trestle : (s.partsStarted).trestle = s.trestle := rfl
@[simp] theorem State.partsStarted_ord : (s.partsStarted).ord = s.ord := rfl
@[simp] theorem State.partsStarted_egr : (s.partsStarted).egr = s.egr := rfl
@[simp] theorem State.partsStarted_tel : (s.partsStarted).tel = s.tel := rfl
@[simp] theorem State.partsStarted_via : (s.partsStarted).via = s.via := rfl
@[simp] theorem State.partsStarted_cmp : (s.partsStarted).cmp = s.cmp := rfl
@[simp] theorem State.partsStarted_pierTx : (s.partsStarted).pierTx = s.pierTx := rfl
@[simp] theorem State.partsStarted_lanes : (s.partsStarted).lanes = s.lanes := rfl
@[simp] theorem State.partsStarted_piers : (s.partsStarted).piers = s.piers := rfl
@[simp] theorem State.partsStarted_time : (s.partsStarted).time = s.time := rfl
@[simp] theorem State.partsStarted_hq : (s.partsStarted).hq = s.hq := rfl
@[simp] theorem State.partsStarted_jrn : (s.partsStarted).jrn = s.jrn := rfl
@[simp] theorem State.partsStarted_ks : (s.partsStarted).ks = s.ks := rfl
@[simp] theorem State.partsStarted_pwr : (s.partsStarted).pwr = s.pwr := rfl
end

end Sys2Proof.Machine
end

