-- ==== Sys2Proof/Laws/Faults.lean ====
section
/-! SUPPORT. What latching a fault does to the record of its source, and what it leaves alone: the records of other
sources, and every register that is not among the collector's summary, the records lost and the pending interrupts. -/

namespace Sys2Proof.Machine

variable {s t u : State}

/-- An operation that does not touch a part leaves it. -/
theorem Moves.same {ps : List StatePart} (h : Moves ps s t) (p : StatePart) (hp : p ∉ ps) : p.same s t := h.only p hp

/-! ### Registers that no fault of class N or S touches -/

theorem FaultFrame.refl : FaultFrame s s := fun _ _ => rfl
theorem FaultFrame.trans (h : FaultFrame s t) (k : FaultFrame t u) : FaultFrame s u := fun o ho => (k o ho).trans (h o ho)
theorem FaultFrame.of_regs (h : t.regs = s.regs) : FaultFrame s t := fun o _ => by simp [State.reg, h]
theorem FaultFrame.moves {ps : List StatePart} (h : Moves ps s t) (hp : .regs ∉ ps) : FaultFrame s t := .of_regs (h.same .regs hp)
theorem FaultFrame.fld (h : FaultFrame s t) {o : Nat} (ho : faultRegister o = false) (hi lo : Nat) :
    t.fld o hi lo = s.fld o hi lo := by simp [State.fld, h o ho]
theorem FaultFrame.bit (h : FaultFrame s t) {o : Nat} (ho : faultRegister o = false) (i : Nat) :
    t.bit o i = s.bit o i := by simp [State.bit, h.fld ho]

theorem State.setFld_frame (off hi lo v : Nat) (h : faultRegister off = true) : FaultFrame s (s.setFld off hi lo v) :=
  fun _ ho => State.reg_setFld_ne _ _ _ _ _ _ (by rintro rfl; simp [h] at ho)
theorem State.setBit_frame (off i : Nat) (b : Bool) (h : faultRegister off = true) : FaultFrame s (s.setBit off i b) :=
  State.setFld_frame _ _ _ _ h
theorem State.setReg_frame (off : Nat) (w : Word) (h : faultRegister off = true) : FaultFrame s (s.setReg off w) :=
  fun _ ho => State.reg_setReg_ne _ _ _ _ (by rintro rfl; simp [h] at ho)
theorem State.incSat_frame (off hi lo v : Nat) (h : faultRegister off = true) : FaultFrame s (s.incSat off hi lo v) :=
  State.setFld_frame _ _ _ _ h

theorem State.msixVector_frame (v : Nat) (h : v < 2048) : FaultFrame s (s.msixVector v) := by
  unfold State.msixVector
  split
  · exact State.setBit_frame _ _ _ (by simp [faultRegister]; omega)
  · split
    · exact .refl
    · exact .of_regs rfl

theorem State.irq_frame (n : Nat) : FaultFrame s (s.irq n) := by
  unfold State.irq
  split
  · exact State.msixVector_frame _ (getBits_lt _ _ _)
  · exact .refl

theorem State.record_frame (src : Nat) (cls : FaultClass) (flags : Nat) : FaultFrame s (s.record src cls flags) := by
  have h : FaultFrame s s.recordCell.1 := .moves State.recordCell_moves (by decide)
  unfold State.record
  dsimp -proj only
  split
  · exact .refl
  · split
    · exact State.incSat_frame _ _ _ _ (by decide)
    · split
      · exact h.trans (State.incSat_frame _ _ _ _ (by decide))
      · exact h.trans (.of_regs rfl)

theorem faultCode_le (cls : FaultClass) : faultCode cls ≤ 2 := by cases cls <;> decide

theorem State.latchCore_frame (src : Nat) (cls : FaultClass) (detail : Nat) (live threshold safe : Bool) :
    FaultFrame s (s.latchCore src cls detail live threshold safe) := by
  have h : FaultFrame s (((s.setSource src (latched (s.source src) s cls detail live)).setBit 0x100004
      (16 + faultCode cls) true).takeFiring src) :=
    (FaultFrame.of_regs rfl : FaultFrame s (s.setSource _ _)).trans ((State.setBit_frame _ _ _ (by decide)).trans (.of_regs rfl))
  unfold State.latchCore
  dsimp -proj only
  refine FaultFrame.trans ?_ (State.irq_frame _)
  split
  · exact h.trans (State.record_frame _ _ _)
  · exact h

theorem State.raiseErrS_frame : FaultFrame s s.raiseErrS := by
  unfold State.raiseErrS
  dsimp -proj only
  have h : FaultFrame s ((s.setBit 0x100014 0 true).setBit 0x100014 1 true) :=
    (State.setBit_frame _ _ _ (by decide)).trans (State.setBit_frame _ _ _ (by decide))
  exact h.trans (.of_regs rfl)

theorem State.pierPropagate_frame (src : Nat) (cls : FaultClass) : FaultFrame s (s.pierPropagate src cls) :=
  .moves State.pierPropagate_moves (by decide)

theorem State.haltFor_frame (src : Nat) : FaultFrame s (s.haltFor src) := .moves State.haltFor_moves (by decide)

theorem State.latchService_frame (src detail : Nat) : FaultFrame s (s.latchService src detail) :=
  (((State.latchCore_frame _ _ _ _ _ _).trans (State.haltFor_frame _)).trans State.raiseErrS_frame).trans
    (State.pierPropagate_frame _ _)

theorem State.degrade_frame (span : Nat) : FaultFrame s (s.degrade span) := State.latchService_frame _ _

theorem State.holdGroup_frame (span : Nat) (pass : Pass) (g pipe detail : Nat) :
    FaultFrame s (s.holdGroup span pass g pipe detail) := by
  unfold State.holdGroup
  refine FaultFrame.trans ?_ (State.latchService_frame _ _)
  cases pass
  · exact (FaultFrame.moves State.setPass_moves (by decide)).trans (.moves State.enterHold_moves (by decide))
  · exact .moves State.setPass_moves (by decide)

theorem State.pipelineFaulty_frame (span : Nat) (pass : Pass) (pipe detail : Nat) :
    FaultFrame s (s.pipelineFaulty span pass pipe detail) := by
  have h0 : FaultFrame s (((s.fence (partyPipe span pass pipe)).endResolution span pass).unshadow span pass) :=
    (FaultFrame.moves State.fence_moves (by decide)).trans
      ((FaultFrame.moves State.endResolution_moves (by decide)).trans (.moves State.unshadow_moves (by decide)))
  have hs {y : State} {x : PassState} : FaultFrame y (y.setPass span pass x) := .moves State.setPass_moves (by decide)
  unfold State.pipelineFaulty
  split
  · exact .refl
  · dsimp -proj only
    generalize ((s.fence (partyPipe span pass pipe)).endResolution span pass).unshadow span pass = u at h0 ⊢
    split
    · split
      · exact (h0.trans (hs.trans (State.degrade_frame _))).trans (State.holdGroup_frame _ _ _ _ _)
      · exact h0.trans (hs.trans (State.degrade_frame _))
    · split
      · exact h0.trans hs
      · rename_i g _
        have hd {x : PassState} : FaultFrame s ((u.setPass span pass x).discardPipe (span * 4 + g) pass pipe) :=
          (h0.trans hs).trans (.moves State.discardPipe_moves (by decide))
        cases pass
        · have hl {x : PassState} : FaultFrame s
              (((u.setPass span .ingress x).discardPipe (span * 4 + g) .ingress pipe).revokeLeases (span * 4 + g)) :=
            hd.trans (.moves State.revokeLeases_moves (by decide))
          dsimp -proj only
          split
          · exact hl.trans hs
          · exact hl.trans (State.holdGroup_frame _ _ _ _ _)
        · dsimp -proj only
          split
          · exact hd.trans hs
          · exact hd.trans (State.holdGroup_frame _ _ _ _ _)

theorem State.react_frame (src : Nat) (cls : FaultClass) (hc : cls ≠ .d) : FaultFrame s (s.react src cls) := by
  unfold State.react
  cases cls
  · exact absurd rfl hc
  · have h : FaultFrame s (if srcChip 0x13 4 ≤ src && src ≤ srcChip 0x13 7 then s.raiseErrS
        else s.raiseErrS.pierPropagate src .s) := by
      split
      · exact State.raiseErrS_frame
      · exact State.raiseErrS_frame.trans (State.pierPropagate_frame _ _)
    dsimp -proj only
    split
    · exact .refl
    · split
      · exact h.trans (State.pipelineFaulty_frame _ _ _ _)
      · exact h
  · exact .refl

theorem State.decideFault_frame (src : Nat) (cls : FaultClass) (hc : cls ≠ .d) : FaultFrame s (s.decideFault src cls) := by
  unfold State.decideFault
  split
  · exact State.react_frame _ _ hc
  · exact .of_regs rfl

/-- A class-N or class-S fault leaves every register outside the window of the collector and the interrupts. -/
theorem State.latchFault_frame (src : Nat) (cls : FaultClass) (detail : Nat) (live threshold : Bool) (hc : cls ≠ .d) :
    FaultFrame s (s.latchFault src cls detail live threshold) := by
  unfold State.latchFault
  dsimp -proj only
  refine FaultFrame.trans ?_ (.moves State.setReacting_moves (by decide))
  have h0 : ∀ b c, FaultFrame s (((s.setReacting b).latchCore src cls detail live threshold c).haltFor src) :=
    fun b c => ((FaultFrame.moves State.setReacting_moves (by decide)).trans (State.latchCore_frame _ _ _ _ _ _)).trans
      (State.haltFor_frame _)
  split
  · exact h0 _ _
  · exact (h0 _ _).trans (State.decideFault_frame _ _ hc)

/-! ### The record of the source -/

theorem State.record_src (src : Nat) (cls : FaultClass) (flags : Nat) : (s.record src cls flags).fc.src = s.fc.src := by
  unfold State.record
  dsimp -proj only
  split
  · rfl
  · have h : s.recordCell.1.fc = s.fc := Moves.same State.recordCell_moves .fc (by decide)
    have k (y : State) (n : Nat) : (y.incSat 0x400004 15 0 n).fc = y.fc := Moves.same State.incSat_moves .fc (by decide)
    split
    · rw [k]
    · split
      · rw [k, h]
      · have e := congrArg FcState.src h
        exact e

theorem State.irq_fc (n : Nat) : (s.irq n).fc = s.fc := Moves.same State.irq_moves .fc (by decide)

theorem State.latchCore_src (src : Nat) (cls : FaultClass) (detail : Nat) (live threshold safe : Bool) :
    (s.latchCore src cls detail live threshold safe).fc.src
      = Tbl.put sourceDefault s.fc.src src (latched (s.source src) s cls detail live) := by
  unfold State.latchCore
  dsimp -proj only
  rw [State.irq_fc]
  split
  · rw [State.record_src]
    rfl
  · rfl

theorem State.latchCore_source (src x : Nat) (cls : FaultClass) (detail : Nat) (live threshold safe : Bool) :
    (s.latchCore src cls detail live threshold safe).source x
      = if x = src then latched (s.source src) s cls detail live else s.source x := by
  rw [State.source, State.latchCore_src, Tbl.get_put]
  rfl

theorem State.source_of_fc (h : t.fc = s.fc) (x : Nat) : t.source x = s.source x := by rw [State.source, State.source, h]

theorem State.source_moves {ps : List StatePart} (h : Moves ps s t) (hp : .fc ∉ ps) (x : Nat) : t.source x = s.source x :=
  State.source_of_fc (h.same .fc hp) x

theorem State.raiseErrS_source (x : Nat) : s.raiseErrS.source x = s.source x := rfl

theorem State.abortJoint_source (cause x : Nat) (hx : x ≠ srcChip 0 3) : (s.abortJoint cause).source x = s.source x := by
  unfold State.abortJoint
  split
  · rfl
  · rw [State.latchCore_source, if_neg hx, State.source_moves State.showAbort_moves (by decide),
      State.source_moves State.disarmJoint_moves (by decide)]

theorem State.source_fold {α : Type} (f : State → α → State) (l : List α) (x : Nat)
    (h : ∀ s a, (f s a).source x = s.source x) : (l.foldl f s).source x = s.source x := by
  induction l generalizing s with
  | nil => rfl
  | cons a l ih => rw [List.foldl_cons, ih, h]

theorem State.markSafe_source (x : Nat) : s.markSafe.source x = s.source x := by
  have h : s.markSafe.fc.src = s.endPinTest.fc.src := rfl
  rw [State.endPinTest_moves.same .fc (by decide)] at h
  rw [State.source, State.source, h]

/-- Entering SAFE latches nothing but the abort of the armed joint (R443). -/
theorem State.enterSafe_source (src cause x : Nat) (hx : x ≠ srcChip 0 3) : (s.enterSafe src cause).source x = s.source x := by
  unfold State.enterSafe
  split
  · rfl
  · dsimp -proj only
    rw [State.source_moves State.overrideStarts_moves (by decide), State.source_moves State.capSafe_moves (by decide),
      State.source_fold _ _ _ (fun s a => State.source_moves State.haltEngine_moves (by decide) x),
      State.abortJoint_source _ _ hx, State.source_moves State.pierPropagate_moves (by decide),
      State.source_moves State.stompPorts_moves (by decide),
      State.source_moves State.endSwitches_moves (by decide), State.markSafe_source,
      State.source_moves State.showSafe_moves (by decide)]

theorem State.haltFor_source (src x : Nat) : (s.haltFor src).source x = s.source x :=
  State.source_moves State.haltFor_moves (by decide) x

theorem State.react_source (src : Nat) (cls : FaultClass) (x : Nat) (hx : x ≠ srcChip 0 3 ∨ cls ≠ .d)
    (hp : pipeOfSource src = none ∨ cls ≠ .s) : (s.react src cls).source x = s.source x := by
  unfold State.react
  cases cls
  · dsimp -proj only
    split
    · exact State.source_moves State.pierPropagate_moves (by decide) x
    · exact State.enterSafe_source _ _ _ (by simpa using hx)
  · have hp : pipeOfSource src = none := by simpa using hp
    rw [hp]
    dsimp -proj only
    split
    · rfl
    · split
      · exact State.raiseErrS_source x
      · exact (State.source_moves State.pierPropagate_moves (by decide) x).trans (State.raiseErrS_source x)
  · rfl

theorem State.decideFault_source (src : Nat) (cls : FaultClass) (x : Nat) (hx : x ≠ srcChip 0 3 ∨ cls ≠ .d)
    (hp : pipeOfSource src = none ∨ cls ≠ .s) : (s.decideFault src cls).source x = s.source x := by
  unfold State.decideFault
  split
  · exact State.react_source _ _ _ hx hp
  · rfl

/-- What a fault leaves in the record of every source: the one it is latched against shows it, every other is as it was.
The pipelines' class-S faults, which can raise more of their span, are set apart. -/
theorem State.latchFault_source (src : Nat) (cls : FaultClass) (detail : Nat) (live threshold : Bool) (x : Nat)
    (hx : x ≠ srcChip 0 3 ∨ cls ≠ .d) (hp : pipeOfSource src = none ∨ cls ≠ .s) :
    (s.latchFault src cls detail live threshold).source x
      = if x = src then latched (s.source src) s cls detail live else s.source x := by
  have e0 : ∀ b c, (((s.setReacting b).latchCore src cls detail live threshold c)).source x
      = if x = src then latched (s.source src) s cls detail live else s.source x := by
    intro b c
    rw [State.latchCore_source]
    rfl
  have e1 : ∀ (y : State) b, (y.setReacting b).source x = y.source x := fun _ _ => rfl
  unfold State.latchFault
  dsimp -proj only
  rw [e1]
  split
  · rw [State.haltFor_source, e0]
  · rw [State.decideFault_source _ _ _ hx hp, State.haltFor_source, e0]

/-- A fault sets CAUSE of its source (R428). -/
theorem State.latchFault_cause (src : Nat) (cls : FaultClass) (detail : Nat) (live threshold : Bool)
    (hx : src ≠ srcChip 0 3 ∨ cls ≠ .d) (hp : pipeOfSource src = none ∨ cls ≠ .s) :
    ((s.latchFault src cls detail live threshold).source src).cause = true := by
  rw [State.latchFault_source _ _ _ _ _ _ hx hp]
  simp [latched]

/-! ### A class-N fault -/

/-- No engine is halted by a fault outside the spans. -/
theorem State.haltFor_chip (src : Nat) (h : 0xF800 ≤ src) : s.haltFor src = s := by
  unfold State.haltFor haltsEngine
  rw [decide_eq_false (by omega : ¬ src < 0xF800)]
  rfl

theorem State.decideFault_n_moves (src : Nat) : Moves [.fc] s (s.decideFault src .n) := by
  unfold State.decideFault
  split
  · exact .refl
  · exact .fc (by decide) .refl

/-- The engine of a span is not the one that latches: class-N faults outside the spans touch the collector, and the
cell of their record, alone. -/
theorem State.latchFault_n_moves (src detail : Nat) (live threshold : Bool) (h : 0xF800 ≤ src) :
    Moves [.regs, .counters, .emitted, .freeCount, .fc, .buf] s (s.latchFault src .n detail live threshold) := by
  unfold State.latchFault
  dsimp -proj only
  rw [State.haltFor_chip _ h]
  refine Moves.step State.setReacting_moves (by decide) ?_
  have h0 : ∀ b c, Moves [.regs, .counters, .emitted, .freeCount, .fc, .buf] s
      ((s.setReacting b).latchCore src .n detail live threshold c) :=
    fun b c => Moves.step State.latchCore_moves (by decide) (State.setReacting_moves.mono (by decide))
  split
  · exact h0 _ _
  · exact Moves.step (State.decideFault_n_moves _) (by decide) (h0 _ _)

/-! ### Faults of class S and D -/

theorem State.decideFault_s_moves (src : Nat) (hp : pipeOfSource src = none) :
    Moves [.regs, .emitted, .fc, .pierTx] s (s.decideFault src .s) := by
  unfold State.decideFault State.react
  rw [hp]
  split
  · dsimp -proj only
    split
    · exact .refl
    · split
      · exact .mono (by decide) State.raiseErrS_moves
      · exact Moves.step State.pierPropagate_moves (by decide) (.mono (by decide) State.raiseErrS_moves)
  · exact .fc (by decide) .refl

/-- A class-S fault of the chip level touches the collector, the cell of its record, the pins and the pier links alone. -/
theorem State.latchFault_s_moves (src detail : Nat) (live threshold : Bool) (h : 0xF800 ≤ src) (hp : pipeOfSource src = none) :
    Moves [.regs, .counters, .emitted, .freeCount, .fc, .buf, .pierTx] s (s.latchFault src .s detail live threshold) := by
  unfold State.latchFault
  dsimp -proj only
  rw [State.haltFor_chip _ h]
  refine Moves.step State.setReacting_moves (by decide) ?_
  have h0 : ∀ b c, Moves [.regs, .counters, .emitted, .freeCount, .fc, .buf, .pierTx] s
      ((s.setReacting b).latchCore src .s detail live threshold c) :=
    fun b c => Moves.step State.latchCore_moves (by decide) (State.setReacting_moves.mono (by decide))
  split
  · exact h0 _ _
  · exact Moves.step (State.decideFault_s_moves _ hp) (by decide) (h0 _ _)

theorem State.markSafe_mode : s.markSafe.chip.mode = .safe := rfl

theorem State.enterSafe_mode (src cause : Nat) (ho : s.chip.mode ≠ .off) : (s.enterSafe src cause).chip.mode = .safe := by
  generalize h : s.enterSafe src cause = t
  unfold State.enterSafe at h
  split at h
  · next hm => rw [← h]; exact hm.resolve_right ho
  · dsimp -proj only at h
    have e1 : ∀ x : State, x.overrideStarts.chip = x.chip := fun x => State.overrideStarts_moves.same .chip (by decide)
    have e3 : ∀ x : State, ((List.range 16).foldl (fun s n => s.haltEngine n 3) x).chip = x.chip := fun x =>
      (Moves.fold (fun s n => (State.haltEngine_moves : Moves [.trestle] s (s.haltEngine n 3))) (Moves.refl (s := x))).same
        .chip (by decide)
    have e4 : ∀ (x : State) c, (x.abortJoint c).chip = x.chip := fun x c => State.abortJoint_moves.same .chip (by decide)
    have e5 : ∀ (x : State) a b, (x.pierPropagate a b).chip = x.chip := fun x a b =>
      State.pierPropagate_moves.same .chip (by decide)
    have e6 : ∀ (x : State) l, (x.stompPorts l).chip = x.chip := fun x l => State.stompPorts_moves.same .chip (by decide)
    have e7 : ∀ x : State, x.endSwitches.chip = x.chip := fun x => State.endSwitches_moves.same .chip (by decide)
    rw [← h, e1, State.capSafe_chip, e3, e4, e5, e6, e7, State.markSafe_mode]

theorem State.react_mode (src : Nat) (ho : s.chip.mode ≠ .off) : (s.react src .d).chip.mode = .safe := by
  unfold State.react
  dsimp -proj only
  split
  · next h => rw [State.pierPropagate_moves.same .chip (by decide)]; exact h
  · exact State.enterSafe_mode _ _ ho

theorem State.latchCore_chip (src : Nat) (cls : FaultClass) (detail : Nat) (live threshold safe : Bool) :
    (s.latchCore src cls detail live threshold safe).chip = s.chip := State.latchCore_moves.same .chip (by decide)

theorem State.haltFor_same_chip (src : Nat) : (s.haltFor src).chip = s.chip := State.haltFor_moves.same .chip (by decide)

/-- A class-D fault enters the safe state, unless an injection suppresses the reaction or the pair that decides is being
checked, and never from OFF (R26, R443, R456, R485). -/
theorem State.latchFault_safe (src detail : Nat) (live threshold : Bool) (ho : s.chip.mode ≠ .off) (hl : s.chip.lockColl.phase = .paired)
    (h : s.fc.injNext ≠ some src ∨ s.fc.injQuiet = false) :
    (s.latchFault src .d detail live threshold).chip.mode = .safe := by
  have hq : (decide (s.fc.injNext = some src) && s.fc.injQuiet) = false := by
    rcases h with h | h <;> simp [h]
  generalize ht : s.latchFault src .d detail live threshold = t
  unfold State.latchFault at ht
  dsimp -proj only at ht
  rw [hq, if_neg (by decide)] at ht
  rw [← ht, State.setReacting_chip]
  unfold State.decideFault
  rw [State.haltFor_same_chip, State.latchCore_chip, State.setReacting_chip, if_pos hl]
  exact State.react_mode _ (by rwa [State.haltFor_same_chip, State.latchCore_chip, State.setReacting_chip])

end Sys2Proof.Machine
end

