-- ==== Sys2Proof/Laws/Memory.lean ====
section
/-! SUPPORT. What a run of bytes written to the shared buffer or to the flash reads as afterwards. -/

namespace Sys2Proof.Machine

/-- Reading the buffer after bytes were written from address `a` on: the byte written there, else the one before. -/
theorem writeCellBytes_get (m : Tbl Byte) (a : Nat) (bs : List Byte) (k : Nat) :
    Tbl.get cellByteDefault (writeCellBytes m a bs) k =
      if a ≤ k ∧ k < a + bs.length then bs[k - a]?.getD 0 else Tbl.get cellByteDefault m k := by
  induction bs generalizing m a with
  | nil => simp [writeCellBytes] <;> (intros; omega)
  | cons b t ih =>
    rw [writeCellBytes, ih, Tbl.get_put]
    by_cases h : k = a
    · subst h; simp <;> omega
    · by_cases h' : a + 1 ≤ k ∧ k < a + 1 + t.length
      · have e : k - a = k - (a + 1) + 1 := by omega
        have h2 : a ≤ k ∧ k < a + (b :: t).length := by simp; omega
        rw [if_pos h', if_pos h2, e, List.getElem?_cons_succ]
      · have h2 : ¬(a ≤ k ∧ k < a + (b :: t).length) := by simp; omega
        rw [if_neg h', if_neg h2, if_neg h]

/-- Reading the flash after bytes were programmed from address `a` on (R492). -/
theorem programBytes_get (m : Tbl Byte) (a : Nat) (bs : List Byte) (k : Nat) :
    Tbl.get flashErased (programBytes m a bs) k =
      if a ≤ k ∧ k < a + bs.length then bs[k - a]?.getD 0 else Tbl.get flashErased m k := by
  induction bs generalizing m a with
  | nil => simp [programBytes] <;> (intros; omega)
  | cons b t ih =>
    rw [programBytes, ih, Tbl.get_put]
    by_cases h : k = a
    · subst h; simp <;> omega
    · by_cases h' : a + 1 ≤ k ∧ k < a + 1 + t.length
      · have e : k - a = k - (a + 1) + 1 := by omega
        have h2 : a ≤ k ∧ k < a + (b :: t).length := by simp; omega
        rw [if_pos h', if_pos h2, e, List.getElem?_cons_succ]
      · have h2 : ¬(a ≤ k ∧ k < a + (b :: t).length) := by simp; omega
        rw [if_neg h', if_neg h2, if_neg h]

end Sys2Proof.Machine
end

