-- ==== Sys2Proof/Laws/PerInstr.lean ====
section
/-! SUPPORT. What every command keeps, command by command: its footprint does not name the queue of waiting commands. -/

namespace Sys2Proof.Laws

/-- The queue of waiting commands is no part of what a command may touch. -/
def Queue.Statement (i : Instr) : Prop := Machine.StatePart.pending ∉ Machine.footprint i

theorem Queue.Statement.of {i : Instr} (h : (Machine.footprint i).contains .pending = false) : Queue.Statement i :=
  fun hm => by simp_all

theorem Queue.registerAccessMisaligned (off : Offset) (size : Nat) (isWrite : Bool) :
    Queue.Statement (.registerAccessMisaligned off size isWrite) :=
  .of rfl
theorem Queue.registerWrite (off : Offset) (value : Word) : Queue.Statement (.registerWrite off value) :=
  .of rfl
theorem Queue.pairLowWordRead (off : Offset) : Queue.Statement (.pairLowWordRead off) :=
  .of rfl
theorem Queue.flitCrcFail (link : Fin 68) : Queue.Statement (.flitCrcFail link) :=
  .of rfl
theorem Queue.d2dLinkFailover (link : Fin 68) : Queue.Statement (.d2dLinkFailover link) :=
  .of rfl
theorem Queue.lockstepMismatch (b : LockBlock) (pin : Option Bool) : Queue.Statement (.lockstepMismatch b pin) :=
  .of rfl
theorem Queue.lockstepKatDone (b : LockBlock) (passA passB : Bool) :
    Queue.Statement (.lockstepKatDone b passA passB) :=
  .of rfl
theorem Queue.lockstepResume (b : LockBlock) : Queue.Statement (.lockstepResume b) :=
  .of rfl
theorem Queue.sysclkLoss : Queue.Statement (.sysclkLoss) :=
  .of rfl
theorem Queue.refclkSdLoss (n : Span) : Queue.Statement (.refclkSdLoss n) :=
  .of rfl
theorem Queue.pcieRefclkLoss : Queue.Statement (.pcieRefclkLoss) :=
  .of rfl
theorem Queue.frameStart (port : Port) (deck : DWord) : Queue.Statement (.frameStart port deck) :=
  .of rfl
theorem Queue.cellWrite (port : Port) (bytes : List Byte) (last : Bool) (full : List Nat) :
    Queue.Statement (.cellWrite port bytes last full) :=
  .of rfl
theorem Queue.parseDone (d : DescId) : Queue.Statement (.parseDone d) :=
  .of rfl
theorem Queue.classifyDone (d : DescId) : Queue.Statement (.classifyDone d) :=
  .of rfl
theorem Queue.frameEnd (port : Port) (fcsGood truncated : Bool) :
    Queue.Statement (.frameEnd port fcsGood truncated) :=
  .of rfl
theorem Queue.pipelineSlotGrant (span : Span) (pass : Pass) (pipe : PipeNo) :
    Queue.Statement (.pipelineSlotGrant span pass pipe) :=
  .of rfl
theorem Queue.stageExecute (packet : Nat) (ev : StageEvent) : Queue.Statement (.stageExecute packet ev) :=
  .of rfl
theorem Queue.resultRelease (port : Port) (tc : TrafficClass) : Queue.Statement (.resultRelease port tc) :=
  .of rfl
theorem Queue.holderTransfer (d : DescId) (h : Holder) (set : List Holder) (group : Option (Fin 32768)) (walk : WalkCheck) :
    Queue.Statement (.holderTransfer d h set group walk) :=
  .of rfl
theorem Queue.holderRelease (d : DescId) (h : Holder) (walk : WalkCheck) :
    Queue.Statement (.holderRelease d h walk) :=
  .of rfl
theorem Queue.cellRead (d : DescId) (i : Fin 64) (h : Holder) (wrong : List (Fin 256 × Byte)) (check : ReadCheck) (walk : WalkCheck) :
    Queue.Statement (.cellRead d i h wrong check walk) :=
  .of rfl
theorem Queue.limitCommit : Queue.Statement (.limitCommit) :=
  .of rfl
theorem Queue.faultLogRead : Queue.Statement (.faultLogRead) :=
  .of rfl
theorem Queue.reclaim (byAudit : Bool) (value : Word) : Queue.Statement (.reclaim byAudit value) :=
  .of rfl
theorem Queue.cmpReqRx (dev : Fin 128) (voq : BitVec 16) (value : BitVec 26) :
    Queue.Statement (.cmpReqRx dev voq value) :=
  .of rfl
theorem Queue.cmpGrantRx (voq : BitVec 16) (value : BitVec 26) : Queue.Statement (.cmpGrantRx voq value) :=
  .of rfl
theorem Queue.cmpSyncTimer : Queue.Statement (.cmpSyncTimer) :=
  .of rfl
theorem Queue.cmpSyncRx (dev : Fin 128) (voq : BitVec 16) (value : BitVec 26) :
    Queue.Statement (.cmpSyncRx dev voq value) :=
  .of rfl
theorem Queue.cmpSyncAckRx (voq : BitVec 16) (value : BitVec 26) : Queue.Statement (.cmpSyncAckRx voq value) :=
  .of rfl
theorem Queue.cmpMessageFlush (dev : Fin 128) : Queue.Statement (.cmpMessageFlush dev) :=
  .of rfl
theorem Queue.mcGroupWrite (g : Fin 32768) (value : Word) : Queue.Statement (.mcGroupWrite g value) :=
  .of rfl
theorem Queue.schedulerSelect (port : Port) : Queue.Statement (.schedulerSelect port) :=
  .of rfl
theorem Queue.transmitStart (port : Port) : Queue.Statement (.transmitStart port) :=
  .of rfl
theorem Queue.transmitComplete (port : Port) : Queue.Statement (.transmitComplete port) :=
  .of rfl
theorem Queue.shaperRefill : Queue.Statement (.shaperRefill) :=
  .of rfl
theorem Queue.shaperSwap (value : Word) : Queue.Statement (.shaperSwap value) :=
  .of rfl
theorem Queue.shaperConfigWrite (x : Fin 21504) (k : Fin 2) (burst : Bool) (value : Word) :
    Queue.Statement (.shaperConfigWrite x k burst value) :=
  .of rfl
theorem Queue.pfcXoffRefresh (port : Port) (pri : Fin 8) : Queue.Statement (.pfcXoffRefresh port pri) :=
  .of rfl
theorem Queue.pfcRx (port : Port) (enable : Byte) (times : List (BitVec 16)) :
    Queue.Statement (.pfcRx port enable times) :=
  .of rfl
theorem Queue.pauseRx (port : Port) (quanta : BitVec 16) : Queue.Statement (.pauseRx port quanta) :=
  .of rfl
theorem Queue.pfcPauseExpire (port : Port) (pri : Option (Fin 8)) : Queue.Statement (.pfcPauseExpire port pri) :=
  .of rfl
theorem Queue.viaInitTimer (port : Port) : Queue.Statement (.viaInitTimer port) :=
  .of rfl
theorem Queue.viaInitRx (port : Port) (frame : ViaFrame) : Queue.Statement (.viaInitRx port frame) :=
  .of rfl
theorem Queue.viaInitAckRx (port : Port) (frame : ViaFrame) : Queue.Statement (.viaInitAckRx port frame) :=
  .of rfl
theorem Queue.viaDataRx (port : Port) (deck : DWord) (fcsGood : Bool) (d : Option DescId) :
    Queue.Statement (.viaDataRx port deck fcsGood d) :=
  .of rfl
theorem Queue.viaAckRx (port : Port) (frame : ViaFrame) : Queue.Statement (.viaAckRx port frame) :=
  .of rfl
theorem Queue.viaNakRx (port : Port) (frame : ViaFrame) : Queue.Statement (.viaNakRx port frame) :=
  .of rfl
theorem Queue.viaRetransmitDone (port : Port) : Queue.Statement (.viaRetransmitDone port) :=
  .of rfl
theorem Queue.viaRetryTimeout (port : Port) : Queue.Statement (.viaRetryTimeout port) :=
  .of rfl
theorem Queue.viaAckTimer (port : Port) : Queue.Statement (.viaAckTimer port) :=
  .of rfl
theorem Queue.viaCreditTimer (port : Port) : Queue.Statement (.viaCreditTimer port) :=
  .of rfl
theorem Queue.viaCreditRx (port : Port) (frame : ViaFrame) : Queue.Statement (.viaCreditRx port frame) :=
  .of rfl
theorem Queue.viaHoldWrite (w : Fin 32) (value : Word) : Queue.Statement (.viaHoldWrite w value) :=
  .of rfl
theorem Queue.linkHoldExpire (port : Port) : Queue.Statement (.linkHoldExpire port) :=
  .of rfl
theorem Queue.lossLogRead : Queue.Statement (.lossLogRead) :=
  .of rfl
theorem Queue.shadowPeriodEnd (span : Span) (pass : Pass) : Queue.Statement (.shadowPeriodEnd span pass) :=
  .of rfl
theorem Queue.shadowPeriodStart (span : Span) (pass : Pass) : Queue.Statement (.shadowPeriodStart span pass) :=
  .of rfl
theorem Queue.katVectorInsert (span : Span) (pass : Pass) (pipe : PipeNo) :
    Queue.Statement (.katVectorInsert span pass pipe) :=
  .of rfl
theorem Queue.mismatchDrained (span : Span) (pass : Pass) : Queue.Statement (.mismatchDrained span pass) :=
  .of rfl
theorem Queue.mismatchVectorsChecked (span : Span) (pass : Pass) (servingPass freePass : Bool) :
    Queue.Statement (.mismatchVectorsChecked span pass servingPass freePass) :=
  .of rfl
theorem Queue.mismatchRerunChecked (span : Span) (pass : Pass) (outcome : Rerun) :
    Queue.Statement (.mismatchRerunChecked span pass outcome) :=
  .of rfl
theorem Queue.spareDrained (span : Span) (pass : Pass) : Queue.Statement (.spareDrained span pass) :=
  .of rfl
theorem Queue.spareSwitch (span : Span) (pass : Pass) (vectorsPass : Bool) :
    Queue.Statement (.spareSwitch span pass vectorsPass) :=
  .of rfl
theorem Queue.spareReinstate (span : Span) (value : Word) : Queue.Statement (.spareReinstate span value) :=
  .of rfl
theorem Queue.reinstateDone (span : Span) (pass : Pass) (pipe : PipeNo) (vectorsPass : Bool) :
    Queue.Statement (.reinstateDone span pass pipe vectorsPass) :=
  .of rfl
theorem Queue.spanResetRequest (value : Word) : Queue.Statement (.spanResetRequest value) :=
  .of rfl
theorem Queue.spanLogicReset (span : Span) : Queue.Statement (.spanLogicReset span) :=
  .of rfl
theorem Queue.spanRecopyDone (span : Span) (donor : Span) : Queue.Statement (.spanRecopyDone span donor) :=
  .of rfl
theorem Queue.spanVectorsDone (span : Span) (failed : List (Pass × PipeNo)) :
    Queue.Statement (.spanVectorsDone span failed) :=
  .of rfl
theorem Queue.spanReplayStart (span : Span) : Queue.Statement (.spanReplayStart span) :=
  .of rfl
theorem Queue.spanResetEnd (span : Span) : Queue.Statement (.spanResetEnd span) :=
  .of rfl
theorem Queue.journalProgram (verified : Bool) : Queue.Statement (.journalProgram verified) :=
  .of rfl
theorem Queue.journalCheckpoint : Queue.Statement (.journalCheckpoint) :=
  .of rfl
theorem Queue.journalForceWt (value : Word) : Queue.Statement (.journalForceWt value) :=
  .of rfl
theorem Queue.journalFastResume : Queue.Statement (.journalFastResume) :=
  .of rfl
theorem Queue.telRollWrite (value : Word) : Queue.Statement (.telRollWrite value) :=
  .of rfl
theorem Queue.mirrorRecordWrite (d : DescId) (h : Holder) (ci : Option Word) :
    Queue.Statement (.mirrorRecordWrite d h ci) :=
  .of rfl
theorem Queue.rxCopyDeliver (d : DescId) (h : Holder) (ci : Option Word) : Queue.Statement (.rxCopyDeliver d h ci) :=
  .of rfl
theorem Queue.mirrorSessionWrite (sess : Sixtyfour) (n : Bool) (value : Word) :
    Queue.Statement (.mirrorSessionWrite sess n value) :=
  .of rfl
theorem Queue.counterRead (off : Offset) : Queue.Statement (.counterRead off) :=
  .of rfl
theorem Queue.servoSample (n : Four) : Queue.Statement (.servoSample n) :=
  .of rfl
theorem Queue.tbOffsetSubmit (n : Four) (hi : Word) : Queue.Statement (.tbOffsetSubmit n hi) :=
  .of rfl
theorem Queue.ppsInEdge (i : Fin 2) : Queue.Statement (.ppsInEdge i) :=
  .of rfl
theorem Queue.tbHoldoverTimeout (n : Four) : Queue.Statement (.tbHoldoverTimeout n) :=
  .of rfl
theorem Queue.tbSrcWrite (n : Four) (value : Word) : Queue.Statement (.tbSrcWrite n value) :=
  .of rfl
theorem Queue.tbSnapshot (value : Word) : Queue.Statement (.tbSnapshot value) :=
  .of rfl
theorem Queue.tbSecondPublish : Queue.Statement (.tbSecondPublish) :=
  .of rfl
theorem Queue.tbPubRead : Queue.Statement (.tbPubRead) :=
  .of rfl
theorem Queue.ppsOutPulse : Queue.Statement (.ppsOutPulse) :=
  .of rfl
theorem Queue.ppsOutEnd : Queue.Statement (.ppsOutEnd) :=
  .of rfl
theorem Queue.cadSrcWrite (value : Word) : Queue.Statement (.cadSrcWrite value) :=
  .of rfl
theorem Queue.cadSlewEnd : Queue.Statement (.cadSlewEnd) :=
  .of rfl
theorem Queue.cadAlign (value : Word) : Queue.Statement (.cadAlign value) :=
  .of rfl
theorem Queue.cadSlotWrite (slot : Sixtyfour) (r : Fin 5) (value : Word) (host : Bool) :
    Queue.Statement (.cadSlotWrite slot r value host) :=
  .of rfl
theorem Queue.cadSlotFire (slots : DWord) : Queue.Statement (.cadSlotFire slots) :=
  .of rfl
theorem Queue.jointArm (value : Word) : Queue.Statement (.jointArm value) :=
  .of rfl
theorem Queue.jointCancel (value : Word) : Queue.Statement (.jointCancel value) :=
  .of rfl
theorem Queue.jointNow (value : Word) : Queue.Statement (.jointNow value) :=
  .of rfl
theorem Queue.jointCheck : Queue.Statement (.jointCheck) :=
  .of rfl
theorem Queue.loadStart (value : Word) : Queue.Statement (.loadStart value) :=
  .of rfl
theorem Queue.loadComplete (image : Option (List Byte)) (badCopy : Option (Span × Pass × PipeNo)) :
    Queue.Statement (.loadComplete image badCopy) :=
  .of rfl
theorem Queue.storeScrub (word : StoreRef) (check : ReadCheck) (good : Option (Fin 16)) :
    Queue.Statement (.storeScrub word check good) :=
  .of rfl
theorem Queue.windowRead (off : Offset) : Queue.Statement (.windowRead off) :=
  .of rfl
theorem Queue.windowWrite (off : Offset) (value : Word) : Queue.Statement (.windowWrite off value) :=
  .of rfl
theorem Queue.trestleRoutineStart (span : Span) : Queue.Statement (.trestleRoutineStart span) :=
  .of rfl
theorem Queue.trestleLd (span : Span) (item : TableRef) (reg : Fin 16) : Queue.Statement (.trestleLd span item reg) :=
  .of rfl
theorem Queue.trestleAlu (span : Span) (op : Byte) (dst a b : Fin 16) :
    Queue.Statement (.trestleAlu span op dst a b) :=
  .of rfl
theorem Queue.trestleHash (span : Span) (table : Fin 256) (hsel : Fin 8) (key dst : Fin 16) :
    Queue.Statement (.trestleHash span table hsel key dst) :=
  .of rfl
theorem Queue.trestleStage (span : Span) (item : TableRef) (data : ItemData) :
    Queue.Statement (.trestleStage span item data) :=
  .of rfl
theorem Queue.trestleFlip (span : Span) (item : TableRef) (expected : Word) (data : ItemData) :
    Queue.Statement (.trestleFlip span item expected data) :=
  .of rfl
theorem Queue.trestleBflip (span : Span) (item : TableRef) (bits expected : Word) (data : ItemData) :
    Queue.Statement (.trestleBflip span item bits expected data) :=
  .of rfl
theorem Queue.trestleBranch (span : Span) (target : BitVec 12) : Queue.Statement (.trestleBranch span target) :=
  .of rfl
theorem Queue.trestleHalt (span : Span) (result : Byte) : Queue.Statement (.trestleHalt span result) :=
  .of rfl
theorem Queue.trestleStop (span : Span) (value : Word) : Queue.Statement (.trestleStop span value) :=
  .of rfl
theorem Queue.trestleResume (span : Span) (value : Word) : Queue.Statement (.trestleResume span value) :=
  .of rfl
theorem Queue.trestleAbort (span : Span) (value : Word) : Queue.Statement (.trestleAbort span value) :=
  .of rfl
theorem Queue.tableKindWrite (span : Span) (t : Fin 240) (units : Bool) (value : Word) :
    Queue.Statement (.tableKindWrite span t units value) :=
  .of rfl
theorem Queue.tableScrub (span : Span) (item : TableRef) (check : ReadCheck) (good : Option Span) :
    Queue.Statement (.tableScrub span item check good) :=
  .of rfl
theorem Queue.agingSweep (t : Fin 240) : Queue.Statement (.agingSweep t) :=
  .of rfl
theorem Queue.replicaCompare (item : TableRef) : Queue.Statement (.replicaCompare item) :=
  .of rfl
theorem Queue.portEnable (lane : Lane) (value : Word) : Queue.Statement (.portEnable lane value) :=
  .of rfl
theorem Queue.portDisable (lane : Lane) (value : Word) : Queue.Statement (.portDisable lane value) :=
  .of rfl
theorem Queue.laneSignalDetect (port : Port) : Queue.Statement (.laneSignalDetect port) :=
  .of rfl
theorem Queue.anPageRx (port : Port) (abilities : List PhyType) (pause : BitVec 2) (next : Bool) :
    Queue.Statement (.anPageRx port abilities pause next) :=
  .of rfl
theorem Queue.trainingDone (port : Port) : Queue.Statement (.trainingDone port) :=
  .of rfl
theorem Queue.linkUp (port : Port) (localFault remoteFault : Bool) :
    Queue.Statement (.linkUp port localFault remoteFault) :=
  .of rfl
theorem Queue.linkDown (port : Port) : Queue.Statement (.linkDown port) :=
  .of rfl
theorem Queue.bringupTimeout (port : Port) : Queue.Statement (.bringupTimeout port) :=
  .of rfl
theorem Queue.linkStable (port : Port) : Queue.Statement (.linkStable port) :=
  .of rfl
theorem Queue.failedRetryTimer (port : Port) : Queue.Statement (.failedRetryTimer port) :=
  .of rfl
theorem Queue.trainingRequestRx (lane : Lane) (req : BitVec 16) : Queue.Statement (.trainingRequestRx lane req) :=
  .of rfl
theorem Queue.trainingResponseRx (lane : Lane) (rsp : BitVec 16) (next : BitVec 16) :
    Queue.Statement (.trainingResponseRx lane rsp next) :=
  .of rfl
theorem Queue.trainingManualRequest (lane : Lane) (value : Word) :
    Queue.Statement (.trainingManualRequest lane value) :=
  .of rfl
theorem Queue.fecDegradeWindow (port : Port) (hist : List Nat) (uncorr : Nat) (symbols : List Nat) :
    Queue.Statement (.fecDegradeWindow port hist uncorr symbols) :=
  .of rfl
theorem Queue.eyeScanStart (lane : Lane) (value : Word) : Queue.Statement (.eyeScanStart lane value) :=
  .of rfl
theorem Queue.eyeScanStop (lane : Lane) (value : Word) : Queue.Statement (.eyeScanStop lane value) :=
  .of rfl
theorem Queue.eyeScanDone (lane : Lane) (counts : List Nat) : Queue.Statement (.eyeScanDone lane counts) :=
  .of rfl
theorem Queue.pierAlignSearch (n : Four) : Queue.Statement (.pierAlignSearch n) :=
  .of rfl
theorem Queue.pierSlip (n : Four) : Queue.Statement (.pierSlip n) :=
  .of rfl
theorem Queue.pierAlignLock (n : Four) : Queue.Statement (.pierAlignLock n) :=
  .of rfl
theorem Queue.pierAlignLost (n : Four) : Queue.Statement (.pierAlignLost n) :=
  .of rfl
theorem Queue.pierEnableWrite (n : Four) (value : Word) : Queue.Statement (.pierEnableWrite n value) :=
  .of rfl
theorem Queue.pierCapTimer (n : Four) : Queue.Statement (.pierCapTimer n) :=
  .of rfl
theorem Queue.cap (n : Four) (payload : List Byte) : Queue.Statement (.cap n payload) :=
  .of rfl
theorem Queue.step (n : Four) (payload : List Byte) : Queue.Statement (.step n payload) :=
  .of rfl
theorem Queue.pierStepSwitch (n : Four) : Queue.Statement (.pierStepSwitch n) :=
  .of rfl
theorem Queue.pierStepTimeout (n : Four) : Queue.Statement (.pierStepTimeout n) :=
  .of rfl
theorem Queue.pierFrameBad (n : Four) : Queue.Statement (.pierFrameBad n) :=
  .of rfl
theorem Queue.tmarkPeriod (n : Four) : Queue.Statement (.tmarkPeriod n) :=
  .of rfl
theorem Queue.timeMarkRx (n : Four) : Queue.Statement (.timeMarkRx n) :=
  .of rfl
theorem Queue.tmark (n : Four) (payload : List Byte) : Queue.Statement (.tmark n payload) :=
  .of rfl
theorem Queue.tmarkTimeout (n : Four) : Queue.Statement (.tmarkTimeout n) :=
  .of rfl
theorem Queue.mgmt (n : Four) (payload : List Byte) : Queue.Statement (.mgmt n payload) :=
  .of rfl
theorem Queue.fault (n : Four) (payload : List Byte) : Queue.Statement (.fault n payload) :=
  .of rfl
theorem Queue.pierFaultSymbolsRx (n : Four) : Queue.Statement (.pierFaultSymbolsRx n) :=
  .of rfl
theorem Queue.pierFaultRepeat : Queue.Statement (.pierFaultRepeat) :=
  .of rfl
theorem Queue.pcieFlr : Queue.Statement (.pcieFlr) :=
  .of rfl
theorem Queue.pciePerst : Queue.Statement (.pciePerst) :=
  .of rfl
theorem Queue.pcieBusMasterOff : Queue.Statement (.pcieBusMasterOff) :=
  .of rfl
theorem Queue.pcieBusMasterOn (cis : List (Option Word)) : Queue.Statement (.pcieBusMasterOn cis) :=
  .of rfl
theorem Queue.sqDoorbell (off : BitVec 19) (len : Fin 64) (cis : List (Option Word)) :
    Queue.Statement (.sqDoorbell off len cis) :=
  .of rfl
theorem Queue.cqDoorbell (off : BitVec 19) (len : Fin 64) (cis : List (Option Word)) :
    Queue.Statement (.cqDoorbell off len cis) :=
  .of rfl
theorem Queue.sqScan (r : Ring) (pi : Option Word) (entries : List EntryRead) (ci : Option Word) :
    Queue.Statement (.sqScan r pi entries ci) :=
  .of rfl
theorem Queue.sqRescanTimer (r : Ring) : Queue.Statement (.sqRescanTimer r) :=
  .of rfl
theorem Queue.sqResourceFree (r : Ring) : Queue.Statement (.sqResourceFree r) :=
  .of rfl
theorem Queue.rxRingReadAhead (r : Ring) (pi : Option Word) (entries : List EntryRead) :
    Queue.Statement (.rxRingReadAhead r pi entries) :=
  .of rfl
theorem Queue.txPacketReadDone (r : Ring) (bytes : Option (List Byte)) (full : List (Fin 256)) :
    Queue.Statement (.txPacketReadDone r bytes full) :=
  .of rfl
theorem Queue.completionPost (r : Ring) (ci : Option Word) : Queue.Statement (.completionPost r ci) :=
  .of rfl
theorem Queue.eventRecordWrite (capture : Bool) (ci : Option Word) : Queue.Statement (.eventRecordWrite capture ci) :=
  .of rfl
theorem Queue.cqCoalTimer (r : Ring) (ci : Option Word) : Queue.Statement (.cqCoalTimer r ci) :=
  .of rfl
theorem Queue.ringEnable (cq : Bool) (r : Ring) (value : Word) : Queue.Statement (.ringEnable cq r value) :=
  .of rfl
theorem Queue.ringDisable (cq : Bool) (r : Ring) (value : Word) : Queue.Statement (.ringDisable cq r value) :=
  .of rfl
theorem Queue.keystoneComparatorMismatch (pair : Fin 2) : Queue.Statement (.keystoneComparatorMismatch pair) :=
  .of rfl
theorem Queue.keystoneWatchdogExpire (pair : Fin 2) : Queue.Statement (.keystoneWatchdogExpire pair) :=
  .of rfl
theorem Queue.keystoneTakeoverStart (pair : Fin 2) : Queue.Statement (.keystoneTakeoverStart pair) :=
  .of rfl
theorem Queue.keystoneTakeoverDone (pair : Fin 2) : Queue.Statement (.keystoneTakeoverDone pair) :=
  .of rfl
theorem Queue.keystoneReinstate (value : Word) : Queue.Statement (.keystoneReinstate value) :=
  .of rfl
theorem Queue.keystoneSelftestDone (pair : Fin 2) (passed : Bool) :
    Queue.Statement (.keystoneSelftestDone pair passed) :=
  .of rfl
theorem Queue.keystoneReturn (value : Word) : Queue.Statement (.keystoneReturn value) :=
  .of rfl
theorem Queue.call (pair : Fin 2) (target ret : DWord) : Queue.Statement (.call pair target ret) :=
  .of rfl
theorem Queue.ret (pair : Fin 2) : Queue.Statement (.ret pair) :=
  .of rfl
theorem Queue.wsave (pair : Fin 2) (w : Fin 16) : Queue.Statement (.wsave pair w) :=
  .of rfl
theorem Queue.wload (pair : Fin 2) (w : Fin 16) : Queue.Statement (.wload pair w) :=
  .of rfl
theorem Queue.texit (pair : Fin 2) : Queue.Statement (.texit pair) :=
  .of rfl
theorem Queue.kcTrapEntry (pair : Fin 2) (causes : List Byte) : Queue.Statement (.kcTrapEntry pair causes) :=
  .of rfl
theorem Queue.kcInterrupt (pair : Fin 2) (lines : DWord) : Queue.Statement (.kcInterrupt pair lines) :=
  .of rfl
theorem Queue.infoIdentify (r : Ring) : Queue.Statement (.infoIdentify r) :=
  .of rfl
theorem Queue.tableInsert (r : Ring) (record : Option (List Byte)) : Queue.Statement (.tableInsert r record) :=
  .of rfl
theorem Queue.tableDelete (r : Ring) (record : Option (List Byte)) : Queue.Statement (.tableDelete r record) :=
  .of rfl
theorem Queue.tableModify (r : Ring) (record : Option (List Byte)) : Queue.Statement (.tableModify r record) :=
  .of rfl
theorem Queue.tableRead (r : Ring) (record : Option (List Byte)) : Queue.Statement (.tableRead r record) :=
  .of rfl
theorem Queue.tableSetAge (r : Ring) : Queue.Statement (.tableSetAge r) :=
  .of rfl
theorem Queue.auditRun (r : Ring) : Queue.Statement (.auditRun r) :=
  .of rfl
theorem Queue.ptpInstance (r : Ring) : Queue.Statement (.ptpInstance r) :=
  .of rfl
theorem Queue.ptpPort (r : Ring) : Queue.Statement (.ptpPort r) :=
  .of rfl
theorem Queue.ptpStatus (r : Ring) : Queue.Statement (.ptpStatus r) :=
  .of rfl
theorem Queue.pierAlign (r : Ring) (found : Option (Fin 10)) : Queue.Statement (.pierAlign r found) :=
  .of rfl
theorem Queue.pierSend (r : Ring) : Queue.Statement (.pierSend r) :=
  .of rfl
theorem Queue.fuseOwnerKey (r : Ring) : Queue.Statement (.fuseOwnerKey r) :=
  .of rfl
theorem Queue.updateStatus (r : Ring) : Queue.Statement (.updateStatus r) :=
  .of rfl
theorem Queue.updateErase (r : Ring) (flashOk : Bool) : Queue.Statement (.updateErase r flashOk) :=
  .of rfl
theorem Queue.updateWrite (r : Ring) (data : Option (List Byte)) (flashOk : Bool) :
    Queue.Statement (.updateWrite r data flashOk) :=
  .of rfl
theorem Queue.updateRead (r : Ring) : Queue.Statement (.updateRead r) :=
  .of rfl
theorem Queue.updateActivate (r : Ring) : Queue.Statement (.updateActivate r) :=
  .of rfl
theorem Queue.updateSettingsWrite (r : Ring) (data : Option (List Byte)) (flashOk : Bool) :
    Queue.Statement (.updateSettingsWrite r data flashOk) :=
  .of rfl
theorem Queue.updateSettingsRead (r : Ring) : Queue.Statement (.updateSettingsRead r) :=
  .of rfl
theorem Queue.powerStatus (r : Ring) : Queue.Statement (.powerStatus r) :=
  .of rfl
theorem Queue.powerConcordReport (r : Ring) : Queue.Statement (.powerConcordReport r) :=
  .of rfl
theorem Queue.guScanStart (u : Fin 16) (value : Word) (firmware : Option (List (Fin 16 × Word))) :
    Queue.Statement (.guScanStart u value firmware) :=
  .of rfl
theorem Queue.guScanAbort (u : Fin 16) (value : Word) (firmware : Bool) :
    Queue.Statement (.guScanAbort u value firmware) :=
  .of rfl
theorem Queue.guScanDone (u : Fin 16) (data : Option (List Byte)) : Queue.Statement (.guScanDone u data) :=
  .of rfl
theorem Queue.faultLatch (what : Detection) : Queue.Statement (.faultLatch what) :=
  .of rfl
theorem Queue.correctedThreshold (src : SourceId) : Queue.Statement (.correctedThreshold src) :=
  .of rfl
theorem Queue.faultCauseClear (i : Fin 17) (b : Fin 64) (high : Bool) (value : Word) :
    Queue.Statement (.faultCauseClear i b high value) :=
  .of rfl
theorem Queue.faultSelect (value : Word) : Queue.Statement (.faultSelect value) :=
  .of rfl
theorem Queue.errSTimerExpire : Queue.Statement (.errSTimerExpire) :=
  .of rfl
theorem Queue.errSRelease (value : Word) : Queue.Statement (.errSRelease value) :=
  .of rfl
theorem Queue.errPinReadback (p n es : Bool) : Queue.Statement (.errPinReadback p n es) :=
  .of rfl
theorem Queue.fcPinTestWrite (value : Word) : Queue.Statement (.fcPinTestWrite value) :=
  .of rfl
theorem Queue.collectorMismatch : Queue.Statement (.collectorMismatch) :=
  .of rfl
theorem Queue.safeStateComplete : Queue.Statement (.safeStateComplete) :=
  .of rfl
theorem Queue.viewCompare (kind : Fin 6) (unit : BitVec 16) : Queue.Statement (.viewCompare kind unit) :=
  .of rfl
theorem Queue.injectionKeyWrite (value : Word) : Queue.Statement (.injectionKeyWrite value) :=
  .of rfl
theorem Queue.injectionConfigWrite (arg : Bool) (value : Word) : Queue.Statement (.injectionConfigWrite arg value) :=
  .of rfl
theorem Queue.injectionKeyTimeout : Queue.Statement (.injectionKeyTimeout) :=
  .of rfl
theorem Queue.injectionFire : Queue.Statement (.injectionFire) :=
  .of rfl
theorem Queue.injectionLevelEnd : Queue.Statement (.injectionLevelEnd) :=
  .of rfl
theorem Queue.opPolicyWrite (phases : Bool) (value : Word) : Queue.Statement (.opPolicyWrite phases value) :=
  .of rfl
theorem Queue.riseVoutCommand : Queue.Statement (.riseVoutCommand) :=
  .of rfl
theorem Queue.riseReadVout (uv : Nat) : Queue.Statement (.riseReadVout uv) :=
  .of rfl
theorem Queue.avsAdjust (up down : Bool) : Queue.Statement (.avsAdjust up down) :=
  .of rfl
theorem Queue.pmbusFailure : Queue.Statement (.pmbusFailure) :=
  .of rfl
theorem Queue.pmbAlert (status : BitVec 16) : Queue.Statement (.pmbAlert status) :=
  .of rfl
theorem Queue.droopDetect (det : Fin 256) : Queue.Statement (.droopDetect det) :=
  .of rfl
theorem Queue.droopRecover (det : Fin 256) : Queue.Statement (.droopRecover det) :=
  .of rfl
theorem Queue.thermalSample (temps : List Int) : Queue.Statement (.thermalSample temps) :=
  .of rfl
theorem Queue.throttleStep : Queue.Statement (.throttleStep) :=
  .of rfl
theorem Queue.throttleReleaseStep : Queue.Statement (.throttleReleaseStep) :=
  .of rfl
theorem Queue.tjmaxCapEnd : Queue.Statement (.tjmaxCapEnd) :=
  .of rfl
theorem Queue.regAlertConfirm : Queue.Statement (.regAlertConfirm) :=
  .of rfl
theorem Queue.regAlertEnd : Queue.Statement (.regAlertEnd) :=
  .of rfl
theorem Queue.concordRoundOpen : Queue.Statement (.concordRoundOpen) :=
  .of rfl
theorem Queue.concord (n : Four) (payload : List Byte) : Queue.Statement (.concord n payload) :=
  .of rfl
theorem Queue.concordRoundClose : Queue.Statement (.concordRoundClose) :=
  .of rfl
theorem Queue.holdupCompare (sense : Int) (mv : Nat) : Queue.Statement (.holdupCompare sense mv) :=
  .of rfl
theorem Queue.holdupRebase (mv : Nat) : Queue.Statement (.holdupRebase mv) :=
  .of rfl
theorem Queue.mainSupplyFail : Queue.Statement (.mainSupplyFail) :=
  .of rfl
theorem Queue.journalFlushDone (sense fall : Nat) : Queue.Statement (.journalFlushDone sense fall) :=
  .of rfl
theorem Queue.railFault (rail : Rail) (uv : Nat) (ports : List Port) : Queue.Statement (.railFault rail uv ports) :=
  .of rfl
theorem Queue.powerOn : Queue.Statement (.powerOn) :=
  .of rfl
theorem Queue.resetNAssert : Queue.Statement (.resetNAssert) :=
  .of rfl
theorem Queue.resetNRelease (strap0 : Bool) (badFuses : BitVec 8) :
    Queue.Statement (.resetNRelease strap0 badFuses) :=
  .of rfl
theorem Queue.coldResetRequest (value : Word) : Queue.Statement (.coldResetRequest value) :=
  .of rfl
theorem Queue.warmResetRequest (value : Word) : Queue.Statement (.warmResetRequest value) :=
  .of rfl
theorem Queue.warmNAssert : Queue.Statement (.warmNAssert) :=
  .of rfl
theorem Queue.warmResetSeal : Queue.Statement (.warmResetSeal) :=
  .of rfl
theorem Queue.warmResetRelease : Queue.Statement (.warmResetRelease) :=
  .of rfl
theorem Queue.warmAuditDone : Queue.Statement (.warmAuditDone) :=
  .of rfl
theorem Queue.warmResume (failed : List (Span × Pass × PipeNo)) (stores : List (StoreRef × ReadCheck × Option (Fin 16))) (tables : List (Span × TableRef × ReadCheck × Option Span)) :
    Queue.Statement (.warmResume failed stores tables) :=
  .of rfl
theorem Queue.warmResetEnd : Queue.Statement (.warmResetEnd) :=
  .of rfl
theorem Queue.collectorSelftestDone (passed : Bool) : Queue.Statement (.collectorSelftestDone passed) :=
  .of rfl
theorem Queue.bootVerifyDone (unread : Option (Fin 7)) : Queue.Statement (.bootVerifyDone unread) :=
  .of rfl
theorem Queue.bootStartTimeout (part : BitVec 4) : Queue.Statement (.bootStartTimeout part) :=
  .of rfl
theorem Queue.bootReady (badCopy : Option (Span × Pass × PipeNo)) (settings : Bool) :
    Queue.Statement (.bootReady badCopy settings) :=
  .of rfl
theorem Queue.gotoService : Queue.Statement (.gotoService) :=
  .of rfl
theorem Queue.gotoTest : Queue.Statement (.gotoTest) :=
  .of rfl
theorem Queue.calibrationWrite (off : Offset) (value : Word) : Queue.Statement (.calibrationWrite off value) :=
  .of rfl
theorem Queue.registerReadClear (off : Offset) : Queue.Statement (.registerReadClear off) :=
  .of rfl
theorem Queue.pcieLinkUp (rate : Nat) (width : Nat) (cis : List (Option Word)) :
    Queue.Statement (.pcieLinkUp rate width cis) :=
  .of rfl
theorem Queue.referenceClockReturn (n : Option Span) : Queue.Statement (.referenceClockReturn n) :=
  .of rfl
theorem Queue.msixVectorUnmask (v : Fin 2048) : Queue.Statement (.msixVectorUnmask v) :=
  .of rfl

end Sys2Proof.Laws
end

