-- ==== Sys2Proof/WellFormed.lean ====
section
/-! DEFINITION. What the operands of a command must satisfy beyond their types: the commands that can occur. The machine
gives every command a meaning; one that is not well formed brings operands that no event of the device brings. -/

namespace Sys2Proof.Instr

/-- An access of 4 bytes on a multiple of 4 is aligned (R10). -/
def misaligned (off : Offset) (size : Nat) : Bool := !(decide (size = 4) && decide (off.toNat % 4 = 0))

/-- The offset of a register (R10). -/
def onWord (off : Offset) : Bool := decide (off.toNat % 4 = 0)

/-- A delivery of arriving bytes: a whole cell, or what is left at the end of the frame; full groups are bank groups of
the shared buffer (R163, R170). -/
def cellBytes (n : Nat) (last : Bool) (full : List Nat) : Bool :=
  decide (0 < n) && decide (n ≤ 256) && (last || decide (n = 256)) && full.all (fun g => decide (g < 256))

/-- The bytes returned other than as stored are bytes of one cell, each named once (R182). -/
def wrongBytes (wrong : List (Fin 256 × Byte)) : Bool := decide ((wrong.map (fun e => e.1)).Nodup)

/-- What a trestle instruction or a scrub addresses exists: SRAM units 0 to 95, ternary units 0 to 31, and the two units
of the classifier rules, 32 and 33 (R145, R146, assumption 65). -/
def tableItem (item : TableRef) : Bool := !item.ternary || decide (item.unit.val ≤ 33)

/-- A ring entry, when the read brought one: 64 bytes (R374). -/
def sixtyFour (e : EntryRead) : Bool :=
  match e with
  | none => true
  | some b => decide (b.length = 64)

/-- The entry record of the table service, when the read brought one (R416). -/
def entryRecord (r : Option (List Byte)) : Bool :=
  match r with
  | none => true
  | some b => decide (b.length = 192)

/-- A cause of R412 that has a code: an exception of 0x01 to 0x0F, or an interrupt line. -/
def trapCause (c : Byte) : Bool := (Machine.kcPriority c.toNat).isSome

/-- A control frame of a viaduct link: 52 bytes of body and a CRC of 4 (R223). -/
def controlFrame (f : ViaFrame) : Bool := decide (f.body.length = 52) && decide (f.crc.length = 4)

/-- A write of 1 to 64 bytes that stays within BAR2 (R370, R371). -/
def doorbellWrite (off : BitVec 19) (len : Fin 64) : Bool := decide (off.toNat + len.val < 2 ^ 19)

/-- The source IDs that R427 names. -/
def namedSource (src : SourceId) : Bool := (Machine.sourceKinds src.toNat).isSome

/-- A user calibration field, or the asymmetry of a port or a pier link (R501, R505). -/
def calibration (o : Nat) : Bool :=
  (decide (0x1000 ≤ o) && decide (o ≤ 0x100C)) || (decide (0x2000 ≤ o) && decide (o < 0x3000))
    || o = 0x2400024 || o = 0x2400124 || o = 0x2400224 || o = 0x2400324

/-- The commands that can occur, as far as their operands say. -/
def wellFormed : Instr → Bool
  | .registerAccessMisaligned off size _ => misaligned off size
  | .registerWrite off _ => onWord off
  | .pairLowWordRead off => onWord off && Machine.isPairLow off.toNat
  | .counterRead off => onWord off && (Machine.isCounter off.toNat || Machine.isBin off.toNat)
  | .registerReadClear off => onWord off
  | .windowRead off => onWord off
  | .windowWrite off _ => onWord off
  | .calibrationWrite off _ => onWord off && calibration off.toNat
  | .cellWrite _ bytes last full => cellBytes bytes.length last full
  | .cellRead _ _ _ wrong _ _ => wrongBytes wrong
  | .holderTransfer _ _ set _ _ => decide (set ≠ [])
  | .pfcRx _ _ times => decide (times.length = 8)
  | .viaInitRx _ frame => controlFrame frame
  | .viaInitAckRx _ frame => controlFrame frame
  | .viaAckRx _ frame => controlFrame frame
  | .viaNakRx _ frame => controlFrame frame
  | .viaCreditRx _ frame => controlFrame frame
  | .fecDegradeWindow _ hist _ symbols => decide (hist.length = 16) && decide (symbols.length ≤ 8)
  | .eyeScanDone _ counts => decide (counts.length = 4096)
  | .cap _ payload => decide (payload.length = 5)
  | .step _ payload => decide (payload.length = 1)
  | .tmark _ payload => decide (payload.length = 26)
  | .fault _ payload => decide (payload.length = 10)
  | .concord _ payload => decide (payload.length = 16)
  | .mgmt _ payload => decide (payload.length ≤ 252)
  | .sqDoorbell off len _ => doorbellWrite off len
  | .cqDoorbell off len _ => doorbellWrite off len
  | .sqScan _ _ entries _ => entries.all sixtyFour
  | .rxRingReadAhead _ _ entries => entries.all sixtyFour
  | .kcTrapEntry _ causes => decide (causes ≠ []) && causes.all trapCause
  | .tableInsert _ record => entryRecord record
  | .tableDelete _ record => entryRecord record
  | .tableModify _ record => entryRecord record
  | .tableRead _ record => entryRecord record
  | .faultLatch (.occurs src _ _ _) => namedSource src
  | .faultLatch (.corrected src) => namedSource src
  | .faultLatch (.ledgerBad _) | .faultLatch (.counterBad _ _ _) | .faultLatch (.baseCopy _ _ _) => true
  | .correctedThreshold src => namedSource src
  | .thermalSample temps => decide (temps.length = 64)
  | .trestleLd _ item _ => tableItem item
  | .trestleStage _ item _ => tableItem item
  | .trestleFlip _ item _ _ => tableItem item
  | .trestleBflip _ item _ _ _ => tableItem item
  | .tableScrub _ item _ _ => tableItem item
  | .replicaCompare item => tableItem item
  | .spanVectorsDone _ failed => decide failed.Nodup
  | .warmResume failed _ tables => decide failed.Nodup && tables.all (fun e => tableItem e.2.1)
  | .flitCrcFail _ | .d2dLinkFailover _ | .lockstepMismatch _ _ | .lockstepKatDone _ _ _ | .lockstepResume _
  | .sysclkLoss | .refclkSdLoss _ | .pcieRefclkLoss | .frameStart _ _ | .parseDone _ | .classifyDone _
  | .frameEnd _ _ _ | .pipelineSlotGrant _ _ _ | .stageExecute _ _ | .resultRelease _ _ | .holderRelease _ _ _
  | .limitCommit | .faultLogRead | .reclaim _ _ | .cmpReqRx _ _ _ | .cmpGrantRx _ _ | .cmpSyncTimer
  | .cmpSyncRx _ _ _ | .cmpSyncAckRx _ _ | .cmpMessageFlush _ | .mcGroupWrite _ _ | .schedulerSelect _
  | .transmitStart _ | .transmitComplete _ | .shaperRefill | .shaperSwap _ | .shaperConfigWrite _ _ _ _
  | .pfcXoffRefresh _ _ | .pauseRx _ _ | .pfcPauseExpire _ _ | .viaInitTimer _ | .viaDataRx _ _ _ _
  | .viaRetransmitDone _ | .viaRetryTimeout _ | .viaAckTimer _ | .viaCreditTimer _ | .viaHoldWrite _ _
  | .linkHoldExpire _ | .lossLogRead | .shadowPeriodEnd _ _ | .shadowPeriodStart _ _ | .katVectorInsert _ _ _
  | .mismatchDrained _ _ | .mismatchVectorsChecked _ _ _ _ | .mismatchRerunChecked _ _ _ | .spareDrained _ _
  | .spareSwitch _ _ _ | .spareReinstate _ _ | .reinstateDone _ _ _ _ | .spanResetRequest _ | .spanLogicReset _
  | .spanRecopyDone _ _ | .spanReplayStart _ | .spanResetEnd _ | .journalProgram _ | .journalCheckpoint
  | .journalForceWt _ | .journalFastResume | .telRollWrite _ | .mirrorRecordWrite _ _ _ | .rxCopyDeliver _ _ _
  | .mirrorSessionWrite _ _ _ | .servoSample _ | .tbOffsetSubmit _ _ | .ppsInEdge _ | .tbHoldoverTimeout _
  | .tbSrcWrite _ _ | .tbSnapshot _ | .tbSecondPublish | .tbPubRead | .ppsOutPulse | .ppsOutEnd | .cadSrcWrite _
  | .cadSlewEnd | .cadAlign _ | .cadSlotWrite _ _ _ _ | .cadSlotFire _ | .jointArm _ | .jointCancel _ | .jointNow _
  | .jointCheck | .loadStart _ | .loadComplete _ _ | .storeScrub _ _ _ | .trestleRoutineStart _
  | .trestleAlu _ _ _ _ _ | .trestleHash _ _ _ _ _ | .trestleBranch _ _ | .trestleHalt _ _ | .trestleStop _ _
  | .trestleResume _ _ | .trestleAbort _ _ | .tableKindWrite _ _ _ _ | .agingSweep _ | .portEnable _ _
  | .portDisable _ _ | .laneSignalDetect _ | .anPageRx _ _ _ _ | .trainingDone _ | .linkUp _ _ _ | .linkDown _
  | .bringupTimeout _ | .linkStable _ | .failedRetryTimer _ | .trainingRequestRx _ _ | .trainingResponseRx _ _ _
  | .trainingManualRequest _ _ | .eyeScanStart _ _ | .eyeScanStop _ _ | .pierAlignSearch _ | .pierSlip _
  | .pierAlignLock _ | .pierAlignLost _ | .pierEnableWrite _ _ | .pierCapTimer _ | .pierStepSwitch _
  | .pierStepTimeout _ | .pierFrameBad _ | .tmarkPeriod _ | .timeMarkRx _ | .tmarkTimeout _ | .pierFaultSymbolsRx _
  | .pierFaultRepeat | .pcieFlr | .pciePerst | .pcieBusMasterOff | .pcieBusMasterOn _ | .sqRescanTimer _
  | .sqResourceFree _ | .txPacketReadDone _ _ _ | .completionPost _ _ | .eventRecordWrite _ _ | .cqCoalTimer _ _
  | .ringEnable _ _ _ | .ringDisable _ _ _ | .keystoneComparatorMismatch _ | .keystoneWatchdogExpire _
  | .keystoneTakeoverStart _ | .keystoneTakeoverDone _ | .keystoneReinstate _ | .keystoneSelftestDone _ _
  | .keystoneReturn _ | .call _ _ _ | .ret _ | .wsave _ _ | .wload _ _ | .texit _ | .kcInterrupt _ _
  | .infoIdentify _ | .tableSetAge _ | .auditRun _ | .ptpInstance _ | .ptpPort _ | .ptpStatus _ | .pierAlign _ _
  | .pierSend _ | .fuseOwnerKey _ | .updateStatus _ | .updateErase _ _ | .updateWrite _ _ _ | .updateRead _
  | .updateActivate _ | .updateSettingsWrite _ _ _ | .updateSettingsRead _ | .powerStatus _ | .powerConcordReport _
  | .guScanStart _ _ _ | .guScanAbort _ _ _ | .guScanDone _ _ | .faultCauseClear _ _ _ _ | .faultSelect _
  | .errSTimerExpire | .errSRelease _ | .errPinReadback _ _ _ | .fcPinTestWrite _ | .collectorMismatch
  | .safeStateComplete | .viewCompare _ _ | .injectionKeyWrite _ | .injectionConfigWrite _ _ | .injectionKeyTimeout
  | .injectionFire | .injectionLevelEnd | .opPolicyWrite _ _ | .riseVoutCommand | .riseReadVout _ | .avsAdjust _ _
  | .pmbusFailure | .pmbAlert _ | .droopDetect _ | .droopRecover _ | .throttleStep | .throttleReleaseStep
  | .tjmaxCapEnd | .regAlertConfirm | .regAlertEnd | .concordRoundOpen | .concordRoundClose | .holdupCompare _ _
  | .holdupRebase _ | .mainSupplyFail | .journalFlushDone _ _ | .railFault _ _ _ | .powerOn | .resetNAssert
  | .resetNRelease _ _ | .coldResetRequest _ | .warmResetRequest _ | .warmNAssert | .warmResetSeal
  | .warmResetRelease | .warmAuditDone | .warmResetEnd | .collectorSelftestDone _ | .bootVerifyDone _
  | .bootStartTimeout _ | .bootReady _ _ | .gotoService | .gotoTest | .pcieLinkUp _ _ _ | .referenceClockReturn _
  | .msixVectorUnmask _ => true

end Sys2Proof.Instr
end

