-- ==== Sys2Proof/Tests/Slice0.lean ====
section
/-! SUPPORT. Tests of the model: an ill-formed command for each check, the worked examples of the spec, one-step tests of
the families, and a state and operands that meet the premises of each statement. -/

-- one theorem at a time: each evaluates a machine
set_option Elab.async false

namespace Sys2Proof.Machine

/-- The state that a command leads to. -/
def State.after (s : State) (c : Instr) : State :=
  match exec c s with
  | .next t => t
  | _ => s

end Sys2Proof.Machine

namespace Sys2Proof.Tests

open Sys2Proof.Machine

/-- A good control frame of a type, with an ACK and the words of its body (R223). -/
def testFrame (type ack : Nat) (ws : List Word) : ViaFrame :=
  let b := controlBytes type ack ws
  { deck := BitVec.ofNat 64 (beNat (b.take 8)), body := (b.drop 8).take 52, crc := b.drop 60 }

/-! ### Well-formedness: one command that each check refuses -/

theorem test_wf_aligned_access : (Instr.registerAccessMisaligned 0x100 4 true).wellFormed = false := by decide
theorem test_wf_write_off_word : (Instr.registerWrite 0x102 0).wellFormed = false := by decide
theorem test_wf_pair_high : (Instr.pairLowWordRead 0x200004).wellFormed = false := by decide
theorem test_wf_counter : (Instr.counterRead 0x0).wellFormed = false := by decide
theorem test_wf_calibration : (Instr.calibrationWrite 0x1010 0).wellFormed = false := by decide
theorem test_wf_calibration_asym : (Instr.calibrationWrite 0x2400124 0).wellFormed = true := by decide
theorem test_wf_cell_empty : (Instr.cellWrite 0 [] true []).wellFormed = false := by decide
theorem test_wf_cell_group : (Instr.cellWrite 0 [1] true [256]).wellFormed = false := by decide
theorem test_wf_wrong_twice : (Instr.cellRead 0 0 0 [(3, 1), (3, 2)] .good .good).wellFormed = false := by decide
theorem test_wf_holders : (Instr.holderTransfer 0 0 [] none .good).wellFormed = false := by decide
theorem test_wf_pfc : (Instr.pfcRx 0 0 [1]).wellFormed = false := by decide
theorem test_wf_credit : (Instr.viaCreditRx 0 { deck := 0, body := [], crc := [] }).wellFormed = false := by decide
theorem test_wf_eye : (Instr.eyeScanDone 0 []).wellFormed = false := by decide
theorem test_wf_cap : (Instr.cap 0 []).wellFormed = false := by decide
theorem test_wf_step : (Instr.step 0 []).wellFormed = false := by decide
theorem test_wf_tmark : (Instr.tmark 0 []).wellFormed = false := by decide
theorem test_wf_fault : (Instr.fault 0 []).wellFormed = false := by decide
theorem test_wf_concord : (Instr.concord 0 []).wellFormed = false := by decide
theorem test_wf_scan : (Instr.sqScan 0 none [some [1]] none).wellFormed = false := by decide
theorem test_wf_trap : (Instr.kcTrapEntry 0 [0x3F]).wellFormed = false := by decide
theorem test_wf_record : (Instr.tableInsert 0 (some [1])).wellFormed = false := by decide
theorem test_wf_source : (Instr.faultLatch (.occurs 0x001F .n 0 false)).wellFormed = false := by decide
theorem test_wf_temps : (Instr.thermalSample []).wellFormed = false := by decide
theorem test_wf_histogram : (Instr.fecDegradeWindow 0 [1] 0 []).wellFormed = false := by decide
theorem test_wf_doorbell : (Instr.sqDoorbell 0x7FFFF 1 []).wellFormed = false := by decide
theorem test_wf_resume : (Instr.warmResume [(0, .ingress, 1), (0, .ingress, 1)] [] []).wellFormed = false := by decide
theorem test_wf_mgmt : (Instr.mgmt 0 (List.replicate 253 0)).wellFormed = false := by decide +kernel
theorem test_wf_unit : (Instr.trestleLd 0 { ternary := true, unit := 40, row := 0, low := false } 0).wellFormed = false := by decide
theorem test_wf_vectors : (Instr.spanVectorsDone 0 [(.ingress, 1), (.ingress, 1)]).wellFormed = false := by decide

/-! ### The worked examples of the spec -/

/-- "Guarding the last cell of a frame" (chapter 05): crc32c over 0x31 to 0x39. -/
theorem test_crc32c : crc32c [0x31, 0x32, 0x33, 0x34, 0x35, 0x36, 0x37, 0x38, 0x39] = 0xE3069283 := by decide +kernel

/-- The same example: the fold at arrival, and the one that queue 0x1483 expects. -/
theorem test_guard_fold : guardFold 0xA4123 0xFFFF 0x00017A3C = 0xADF6623C ∧ guardFold 0xA4123 0x1483 0x00017A3C = 0x468A623C := by
  decide

/-- "Folding in the address" (chapter 12): the right and the wrong address, and no fold. -/
theorem test_guard_unit : checkValue 8 7 0 0 false false [0, 1, 0xA5, 0x5A] = 0xB3 ∧ checkValue 8 7 0 0 false false [0, 2, 0xA5, 0x5A] = 0x0E
    ∧ checkValue 8 7 0 0 false false [0xA5, 0x5A] = 0xD8 := by decide +kernel

/-- The same example: the standard check value over "123456789". -/
theorem test_guard_unit_standard :
    checkValue 8 7 0 0 false false [0x31, 0x32, 0x33, 0x34, 0x35, 0x36, 0x37, 0x38, 0x39] = 0xF4 := by decide +kernel

/-- The same example, as a unit does it: GU13 over two bytes of the host. -/
theorem test_guard_scan :
    let s := ((((State.reset.setReg (guOff 13) (BitVec.ofNat 32 (8 * 2 ^ 25 + 2 * 2 ^ 19 + 2 ^ 18 + 2 ^ 16))).setReg (guOff 13 + 0x10) 7).setReg
      (guOff 13 + 0x30) 0x100).setReg (guOff 13 + 0x34) 1).setReg (guOff 13 + 0xC) 2
    ((((s.setReg (guOff 13 + 0x18) 0).setReg (guOff 13 + 0x20) 0).setReg (guOff 13 + 8) 0x40000000).after (.guScanDone 13 (some [0xA5, 0x5A]))).reg (guOff 13 + 0x38) = 0xB3 := by decide +kernel

/-- "A late frame" (chapter 08): 9,216 ns fall into bin 26. -/
theorem test_latency_bin : histBin 9216 = 26 := by decide

/-- "Latency stamping and mirroring" (chapter 02): slot 0 of 0xD0 is TSDIFF of MD5 into MD16. -/
theorem test_slot_fields : slotOp 0xF34314 = 0x3C ∧ slotDst 0xF34314 = 0xD0 ∧ slotSrc 0xF34314 = 0xC5 := by decide

/-- The same example: MD13 − MD5 across the wrap. -/
theorem test_tsdiff :
    (aluOp 0x3C ⟨0xFFFFF000, 0, 0, 0x1388, 0, 0, true, 1, 0, 0⟩).map (fun y => y.d) = some 0x2388 := by decide

/-- "IPv4 and IPv6 routing" (chapter 02): DECB of the TTL byte of HV10, 64 to 63. -/
theorem test_slot_decb : slotOp 0xBC2828 = 0x2F ∧ slotDst 0xBC2828 = 0x0A ∧ slotSrc 0xBC2828 = 0x0A := by decide

/-- "A 10 Gbit/s queue shaper" (chapter 06): 20 ns at 10,000,000 kbit/s add 6,400 units. -/
theorem test_shaper_refill :
    let s := (({ State.reset with time := { State.reset.time with tu := 20 } } : State).setReg 0xC40000 10000000).setReg 0xC40004 0x80004000
    (s.refill 0).shaper 0 = { tok := 6400, last := 20, hold := none } := by decide

/-- The source IDs of chapter 13: stage 5 of IP1 in SP3. -/
theorem test_source_id : srcSpan 3 (pipeBlock .ingress 1) 5 = 0x3085 := by decide

/-- "A bank that has lost capacitance" (chapter 14), at t0 + 2 ms: 28.85 mJ and 19.71 mJ, apart by more than 20 %. -/
theorem test_holdup_estimates : (energies 1000 9680 8685).1 / 2000000000 = 28851 ∧ (energies 1000 9680 8685).2 / 2000000000 = 19714
    ∧ disagrees (energies 1000 9680 8685) = true := by decide

/-- "Aligning at 1.25 GBd" (chapter 10): the search locks at try 7. -/
theorem test_pier_align :
    let s := ((State.reset.setReg (pierOff 1) 0x80000000).setSq 0 { calls := [{ idx := 0, body := [5, 1, 0, 0, 1] }] }).setFld 0x700000 5 0 9
    ((s.after (.pierAlign 0 (some 7))).pier 1).slip = 7 ∧ (s.after (.pierAlign 0 (some 7))).pierState 1 = 2 := by decide

/-- "A scan that meets an unfinished entry" (chapter 11): the phase of indices 126 and 128 in a ring of 64 entries. -/
theorem test_phase : phaseOf 126 6 = 0 ∧ phaseOf 128 6 = 1 := by decide

/-- "A hit at the moment of age-out" (chapter 04): the entry keeps V_A, and its age starts again. -/
theorem test_age_hit :
    let s := (List.range 16).foldl (fun s n => s.setSram n 0 0 (2 ^ 255 + 3 * 2 ^ 249))
      ((State.reset.setReg (kindReg 0 0) 0x91010000).setReg (unitsReg 0 0) 0x100000)
    ((s.setSram 9 0 0 (2 ^ 255 + 2 ^ 253 + 3 * 2 ^ 249)).after (.agingSweep 0)).sram 9 0 0 = 2 ^ 255 := by decide +kernel

/-- The same example without a hit: AGE 3 of 4 is removed. -/
theorem test_age_out :
    let s := (List.range 16).foldl (fun s n => s.setSram n 0 0 (2 ^ 255 + 3 * 2 ^ 249))
      ((State.reset.setReg (kindReg 0 0) 0x91010000).setReg (unitsReg 0 0) 0x100000)
    (s.after (.agingSweep 0)).sram 9 0 0 / 2 ^ 254 = 0 := by decide +kernel

/-- "An update that falls back" (chapter 15): bank B's third part fails, and the record of the fall-back is SEQ 43. -/
theorem test_update_falls_back :
    let r : Bcb := { seq := 42, active := 0, pending := 0xFF, trial := 1, slot := 0, fail := 0 }
    let s : State := { State.reset with boot := { State.reset.boot with flash := programBytes [] 0 r.bytes, bank := 1, trial := true } }
    (s.bootFails 3 3).bcb = { seq := 43, active := 0, pending := 0xFF, trial := 0xFF, slot := 0, fail := 0x33 } := by decide +kernel

/-- "The balls of port 328" (chapter 16): its first lane, the reference clock of SP5 and a ground. -/
theorem test_balls : ballAt 27 110 = .laneRx 328 false ∧ ballAt 28 110 = .laneRx 328 true ∧ ballAt 30 101 = .laneTx 328 false
    ∧ ballAt 31 101 = .laneTx 328 true ∧ ballAt 30 93 = .refclkSd 5 false ∧ ballAt 29 101 = .vss := by decide

/-! ### One step of a family -/

/-- R10: a write that is not aligned is a class-N fault and changes no register. -/
theorem test_misaligned_write : ((State.reset.after (.registerAccessMisaligned 0x402 4 true)).source 0xF800).cause = true := by decide

/-- R15: reading the low word of a pair keeps the high word in its holding copy. -/
theorem test_pair_read : Tbl.get (fun _ => 0) (({ State.reset with pwr := { State.reset.pwr with energy := 5 * 2 ^ 32 } } : State).after (.pairLowWordRead 0x300028)).holding 0x30002C = 5 := by
  decide

/-- R16: register 0 reads the device identity. -/
theorem test_identity : State.reset.readReg 0 = 0x964000B1 := by decide

/-- R31: the second frame of a pair takes sequence 1. -/
theorem test_assign :
    let s := ((State.reset.setInfo 5 { port := 3, tc := 2 }).setOrder 50 { assign := 1 }).assignSeq 5
    (s.order 50).assign = 2 ∧ (s.desc 5).seq = 1 := by decide

/-- R245: a result earlier than RELEASE is a duplicate and is dropped. -/
theorem test_duplicate :
    let r : Result := { port := 0, tc := 0, seq := 2, desc := 5, pipe := 0, drop := false, reason := 0, md6 := 0, md7 := 0, bridge := [], egOp := 0, requests := [], after := false }
    ((State.reset.setOrder 0 { release := 3, held := [(2, .result r)] }).after (.resultRelease 0 0)).order 0 = { release := 3 } := by decide

/-- R270: SUB of two words wraps. -/
theorem test_alu_add_wraps : (aluOp 0x04 ⟨0xFFFFFFFF, 2, 0, 0, 0, 0, false, 0, 0, 0⟩).map (fun y => y.d) = some 1 := by decide

/-- R370, R371: a write over two regions of BAR2 rings SQ1 and SQ2, and one at 0x40040 rings CQ1. -/
theorem test_doorbells : doorbellsOf 0x7C 8 = [1, 2] ∧ doorbellsOf 0x40040 4 = [4097] := by decide

/-- R410: a CALL takes the next window and leaves its return address in h15. -/
theorem test_call :
    let t := ({ State.reset with chip := State.reset.chip } : State).setFld 0x700000 5 0 9 |>.after (.call 0 0x1000 0x2004)
    (t.kc 0).wsel = 1 ∧ (t.kc 0).depth = 2 ∧ (t.kc 0).pc = 0x1000 ∧ (t.kc 0).h 1 15 = 0x2004 := by decide

/-- R410: a CALL with DEPTH 15 traps with frame full and changes no window. -/
theorem test_call_full :
    let s : State := { State.reset with ks := { State.reset.ks with kp0 := { depth := 15, pc := 0x40 } } }
    let t := (s.setFld 0x700000 5 0 9).after (.call 0 0x1000 0x2004)
    (t.kc 0).ecause = 6 ∧ (t.kc 0).epc = 0x40 ∧ (t.kc 0).tactive = true ∧ (t.kc 0).wsel = 0 := by decide

/-- R443, R447: a comparator mismatch of the collector enters the safe state with cause COLLECTOR. -/
theorem test_collector : (State.reset.after .collectorMismatch).chip.mode = .safe ∧ (State.reset.after .collectorMismatch).fld 0x100008 3 0 = 2 := by
  decide +kernel

/-- R455: the first key, and then the second with a kind that does not apply. -/
theorem test_injection_keys :
    let s : State := { State.reset with chip := { State.reset.chip with mode := .test } }
    (s.after (.injectionKeyWrite 0x6A17)).fc.inj = .keyed ∧ ((s.after (.injectionKeyWrite 0x6A17)).after (.injectionKeyWrite 0)).fc.inj = .idle := by
  decide

/-- R486: GOTO_SERVICE before the boot is ready is refused with cause 1. -/
theorem test_goto_refused : (State.reset.after .gotoService).fld 0x8 11 8 = 1 ∧ (State.reset.after .gotoService).chip.mode = .startUp := by decide

/-- R353: a slip past 9 comes back to 0. -/
theorem test_slip_wraps : ((State.reset.setPier 2 { slip := 9 }).after (.pierSlip 2)).pier 2 = {} := by decide

/-- R501: a user field beyond its range acts as the nearer limit and is flagged. -/
theorem test_calibration_clamp : (State.reset.after (.calibrationWrite 0x1000 0x0F)).bit 0x1010 0 = true := by decide +kernel

end Sys2Proof.Tests

open Sys2Proof Sys2Proof.Machine Sys2Proof.Tests

/-! ### The premises of the statements hold somewhere -/

theorem eq_some_pair {α β : Type} (o : Option (α × β)) (h : o.isSome = true) : o = some ((o.get h).1, (o.get h).2) := (Option.some_get h).symm

/-- The premises of StepKeepsCanonical, part 1, hold somewhere. -/
theorem witness_StepKeepsCanonical_1 : ∃ (s t : State), (s.Canonical) ∧ (step s = .next t) :=
  ⟨State.reset, State.reset.cycle, ⟨by decide, by decide, by decide, by decide, by decide, by decide⟩, rfl⟩

/-- The premises of KeystonePairsFailAndReturn, part 8, hold somewhere. -/
theorem witness_KeystonePairsFailAndReturn_8 : ∃ (p : Fin 2) (i : Nat) (s : State), (s.owesTakeover p = true) ∧ (s.ks.taking.contains p.val = false) ∧ (({ s.kc (1 - p.val) with irq := (s.kc (1 - p.val)).irq ||| 1#64 <<< (Config.takeoverSource % 64) } : KcPair).interrupt = some i) :=
  ⟨0, 0, { State.reset.setFld 0x700000 5 0 0x0A with ks := { State.reset.ks with kp1 := { irq := 1, imask := BitVec.allOnes 64 } } },
    by decide, by decide, by
      have h : ∀ w : DWord, ({ irq := (1 : DWord) ||| w, imask := BitVec.allOnes 64 } : KcPair).interrupt = some 0 := by
        intro w
        have e : List.range 64 = 0 :: (List.range 63).map (· + 1) := by decide
        simp [KcPair.interrupt, e]
      exact h _⟩
/-! A boot image and a manifest signed outside the model, with a key pair made for it. -/

/-- A key pair made for this test: the public key as a trailer holds it (R95). -/
def testKey : List Byte :=
  0x04 :: (beBytes 48 0xFBF96095915EB587390F850EC95B35F618AE121C72A70808AD8F9F4C261B602B63541743E395F7C778E52BB28C18DC83
    ++ beBytes 48 0x016A6FF3F72C9368326AD50A3BD148A53CD2213BB480E4730AD019DB87AE100995EC65DF011E19811A15DC9DDFC9AB3C)

/-- A trailer of the key with a signature (R95). -/
def testTrailer (r s : Nat) : List Byte := testKey ++ [0, 0, 0] ++ beBytes 48 r ++ beBytes 48 s

/-- A vendor image without sections, signed outside the model with the test key (R92, R95). -/
def testImage : List Byte :=
  leBytes 4 0x4B4C5450 ++ [1, 0, 0, 1] ++ List.replicate 8 0 ++ leBytes 4 64 ++ List.replicate 44 0
    ++ testTrailer
      0x1CB78FB94D5C175277FC0854BB84BDE8BD30FDC860A0148ECD1ECBC7E84EA6E2900561224C53986BCAC3888A4E029F38
      0x0534A53A330DE8969B61E5689432F9C8AF2D65029F62837C61A86927477FE45DA4AA40FA88B3946DE767675A49E3EAEF

/-- An entry of a manifest (R493). -/
def testPart (i len digest : Nat) : List Byte :=
  [BitVec.ofNat 8 i, 0, 0, 0, 1, 0, 0, 0] ++ leBytes 4 (0x1000 * i) ++ leBytes 4 len ++ beBytes 48 digest

/-- The digest of a part that is one erased byte. -/
def testDigest : Nat := 0x43950796D9883503655E35B5190AEE687A2DD99F265012625B95753978E4EFFF3E8414D178A6E2318480D8EB6DDEE643

/-- A manifest of six parts, signed outside the model with the test key; part 2 is the vendor image (R493). -/
def testManifest : List Byte :=
  leBytes 4 0x474C464D ++ [1, 0, 6, 0, 1, 0, 0, 0] ++ leBytes 4 0x10000 ++ List.replicate 48 0
    ++ testPart 1 1 testDigest
    ++ testPart 2 260 0x32DE047F8A138AF66039301C0CE5B11E46822D1021D19F8193E058A77B59DD2B2D8FA7BFF3AE6C690EE77C7835353288
    ++ [3, 4, 5, 6].flatMap (fun i => testPart i 1 testDigest)
    ++ testTrailer
      0xC1948B4E68BA65DBBF921D91782B22C195FB4B18E77D583738E0821784EF5D94AD6F8A5D77027AEDDF5FB5F83186A2EB
      0xEB38922C047DDC4751C3FB6BDD65273814DFEC138A820839ADEB090D59825EF1CE78BAE6004C8909140BB4282308F220

/-- Bytes as they stand in the flash from an address on. -/
def placed : Nat → List Byte → Tbl Byte
  | _, [] => []
  | a, b :: bs => force (a + 1) (fun c => (a, b) :: placed c bs)

/-- The flash with the test manifest and image in bank 0. -/
def testFlash : Tbl Byte := placed 0x100000 testManifest ++ placed 0x102000 testImage

/-- The manifest and the image as numbers, the first byte the most significant. -/
def manifestNat : Nat := beNat testManifest
def imageNat : Nat := beNat testImage

/-- What the test flash holds at an address. -/
def testByte (k : Nat) : Byte :=
  if 0x102000 ≤ k ∧ k < 0x102000 + 260 then BitVec.ofNat 8 (imageNat / 256 ^ (259 - (k - 0x102000)))
  else if 0x100000 ≤ k ∧ k < 0x100000 + 644 then BitVec.ofNat 8 (manifestNat / 256 ^ (643 - (k - 0x100000)))
  else 0xFF

theorem get_placed (d : Nat → Byte) : ∀ (bs : List Byte) (a k : Nat) (rest : Tbl Byte), Tbl.get d (placed a bs ++ rest) k =
    if a ≤ k ∧ k < a + bs.length then bs.getD (k - a) (d k) else Tbl.get d rest k
  | [], a, k, rest => by
    rw [if_neg (by simp)]; rfl
  | b :: bs, a, k, rest => by
    have e : placed a (b :: bs) = (a, b) :: placed (a + 1) bs := rfl
    rw [e, List.cons_append, Tbl.get, get_placed d bs (a + 1) k rest]
    by_cases h : k = a
    · subst h; simp
    · rw [if_neg h]
      by_cases h2 : a + 1 ≤ k ∧ k < a + 1 + bs.length
      · rw [if_pos h2, if_pos (by simp; omega)]
        have : k - a = (k - (a + 1)) + 1 := by omega
        rw [this]; simp
      · rw [if_neg h2, if_neg (by simp; omega)]

theorem length_beBytes (n v : Nat) : (beBytes n v).length = n := by
  induction n with
  | zero => rfl
  | succ n ih => simp [beBytes, ih]

theorem getD_beBytes (v : Nat) (x : Byte) : ∀ (n i : Nat), i < n →
    (beBytes n v).getD i x = BitVec.ofNat 8 (v / 256 ^ (n - 1 - i))
  | n + 1, 0, _ => rfl
  | n + 1, i + 1, h => by
    have e : n + 1 - 1 - (i + 1) = n - 1 - i := by omega
    rw [e, ← getD_beBytes v x n i (by omega)]
    rfl

theorem manifest_bytes : testManifest = beBytes 644 manifestNat := by decide +kernel
theorem image_bytes : testImage = beBytes 260 imageNat := by decide +kernel

theorem flashBytes_test (s : State) (h : s.boot.flash = testFlash) (a n : Nat) :
    s.flashBytes a n = (List.range n).map (fun i => testByte (a + i)) := by
  have l1 := length_beBytes 644 manifestNat
  have l2 := length_beBytes 260 imageNat
  unfold State.flashBytes
  refine List.map_congr_left (fun i _ => ?_)
  have e : testFlash = placed 0x100000 (beBytes 644 manifestNat) ++ (placed 0x102000 (beBytes 260 imageNat) ++ []) := by
    rw [← manifest_bytes, ← image_bytes, List.append_nil]; rfl
  rw [h, e, get_placed, get_placed, l1, l2]
  unfold testByte
  by_cases h1 : 0x102000 ≤ a + i ∧ a + i < 0x102000 + 260
  · rw [if_pos h1, if_pos h1, if_neg (by omega), getD_beBytes _ _ _ _ (by omega)]
  · rw [if_neg h1, if_neg h1]
    by_cases h2 : 0x100000 ≤ a + i ∧ a + i < 0x100000 + 644
    · rw [if_pos h2, if_pos h2, getD_beBytes _ _ _ _ (by omega)]
    · rw [if_neg h2, if_neg h2]; rfl

/-- A device in the ROM's phase whose first key fuse takes the test key, and whose bank 0 holds the test manifest and
image. -/
def testBoot : State :=
  { State.reset.setPhase 1 with
    progs := { State.reset.progs with vk0 := hashWords (sha384 testKey) }
    boot := { State.reset.boot with flash := testFlash } }

theorem badPart_none (s : State) : ∀ (l : List Part) (i : Nat), (∀ p ∈ l, s.partSound s.boot.bank p = true) → s.badPart none i l = none
  | [], _, _ => rfl
  | p :: t, i, h => by
    unfold State.badPart
    rw [if_neg (by simp), if_neg (by simp [h p (by simp)])]
    exact badPart_none s t _ (fun q hq => h q (by simp [hq]))

/-- The parts of the test manifest. -/
def testParts : List Part :=
  [{ type := 1, version := 1, offset := 0x1000, len := 1, digest := beBytes 48 testDigest },
    { type := 2, version := 1, offset := 0x2000, len := 260, digest := beBytes 48 0x32DE047F8A138AF66039301C0CE5B11E46822D1021D19F8193E058A77B59DD2B2D8FA7BFF3AE6C690EE77C7835353288 }]
    ++ [3, 4, 5, 6].map (fun i => { type := i, version := 1, offset := 0x1000 * i, len := 1, digest := beBytes 48 testDigest })

theorem parts_test (s : State) (h : s.boot.flash = testFlash) : s.manifestParts 0 = testParts := by
  unfold State.manifestParts
  simp only [flashBytes_test _ h]
  decide +kernel

theorem signed_test : testBoot.manifestSigned testBoot.boot.bank = true := by
  have hb : testBoot.boot.bank = 0 := rfl
  unfold State.manifestSigned
  simp only [hb, flashBytes_test testBoot rfl]
  decide +kernel

theorem format_test : testBoot.manifestFormat testBoot.boot.bank = true := by
  have hb : testBoot.boot.bank = 0 := rfl
  unfold State.manifestFormat
  simp only [hb, flashBytes_test testBoot rfl, parts_test testBoot rfl]
  decide +kernel

theorem sound_test : testBoot.badPart none 1 (testBoot.manifestParts testBoot.boot.bank) = none := by
  have hb : testBoot.boot.bank = 0 := rfl
  rw [hb, parts_test testBoot rfl]
  refine badPart_none _ _ _ ?_
  unfold State.partSound
  simp only [hb, flashBytes_test testBoot rfl]
  decide +kernel

theorem image_test (s : State) (h : s.boot.flash = testFlash) (hb : s.boot.bank = 0) : s.partBytes 2 = testImage := by
  unfold State.partBytes
  rw [hb, parts_test s h]
  simp only [flashBytes_test s h]
  decide +kernel

theorem vendor_test (s : State) (h : s.boot.flash = testFlash) (hb : s.boot.bank = 0)
    (hc : (State.checkImage { s with progs := { s.progs with loadCust := false } } testImage).1 = .ok) :
    (s.loadVendor none).2 = true := by
  unfold State.loadVendor
  simp only [image_test { s with progs := { s.progs with loadCust := false } } h hb, hc]
  rfl

/-- The premises of BootsAndMoves, part 1, hold somewhere. -/
theorem witness_BootsAndMoves_1 : ∃ (s : State), (s.chip.mode = .startUp) ∧ (s.bootPhase = 1) ∧ (s.manifestSigned s.boot.bank = true) ∧ (s.manifestFormat s.boot.bank = true) ∧ (s.badPart none 1 (s.manifestParts s.boot.bank) = none) :=
  ⟨testBoot, rfl, by decide, signed_test, format_test, sound_test⟩

/-- The premises of BootsAndMoves, part 5, hold somewhere. -/
theorem witness_BootsAndMoves_5 : ∃ (s : State), (s.chip.mode = .startUp) ∧ (s.boot.starting = true) ∧ (s.bootPhase ≠ 3) ∧ (s.boot.trial = false) ∧ ((s.loadVendor none).2 = true) :=
  ⟨{ testBoot with boot := { testBoot.boot with starting := true } }, rfl, rfl, by decide, rfl, vendor_test _ rfl rfl (by decide +kernel)⟩

/-- The premises of BootsAndMoves, part 6, hold somewhere. -/
theorem witness_BootsAndMoves_6 : ∃ (s : State), (s.chip.mode = .startUp) ∧ (s.boot.starting = true) ∧ (s.bootPhase ≠ 3) ∧ ((s.loadVendor none).2 = true) :=
  ⟨{ testBoot with boot := { testBoot.boot with starting := true } }, rfl, rfl, by decide, vendor_test _ rfl rfl (by decide +kernel)⟩

/-- The premises of BootsAndMoves, part 8, hold somewhere. -/
theorem witness_BootsAndMoves_8 : ∃ (c : Option (Span × Pass × PipeNo)) (s : State), (s.chip.mode = .startUp) ∧ (s.boot.starting = true) ∧ (s.bootPhase = 3) ∧ (s.boot.trial = true) ∧ (s.settingsFate = .unusable) :=
  ⟨none, ({ State.reset with boot := { State.reset.boot with starting := true, trial := true, flash := [(slotBase 0, 5), (slotBase 0 + 16, 0), (slotBase 0 + 17, 0), (slotBase 0 + 18, 0), (slotBase 0 + 19, 0)] } } : State).setPhase 3,
    by decide, by decide, by decide, by decide, by decide +kernel⟩

/-- The premises of HoldUpAndVoltage, part 2, hold somewhere. -/
theorem witness_HoldUpAndVoltage_2 : ∃ (mv : Nat) (s : State), (10800 ≤ s.voltage mv) :=
  ⟨100000, State.reset, by
    have h : ∀ v : Int, 3892 ≤ clampInt v 3892 4300 := by intro v; unfold clampInt; (repeat' split) <;> omega
    have hc : 3892 ≤ State.reset.calValue 3 0 := h _
    unfold State.voltage
    exact Int.le_ediv_of_mul_le (by decide) (by omega)⟩

/-- The premises of HoldUpAndVoltage, part 3, hold somewhere. -/
theorem witness_HoldUpAndVoltage_3 : ∃ (mv : Nat) (s : State), (s.voltage mv < 10800) :=
  ⟨0, State.reset, by unfold State.voltage; simp⟩

/-- The premises of CapsMoveThePoint, part 2, hold somewhere. -/
theorem witness_CapsMoveThePoint_2 : ∃ (temps : List Int) (s : State), (∀ i, i < 64 → temps.getD i 0 + s.calValue 2 i < 2000) ∧ (∀ i, i < 64 → s.fc.injHeld ≠ some (srcChip 0x15 i)) :=
  have hc : ∀ v : Int, clampInt v (-160) 160 ≤ 160 := by intro v; unfold clampInt; (repeat' split) <;> omega
  ⟨[], State.reset, fun i _ => by
    have h : State.reset.calValue 2 i ≤ 160 := hc _
    have e : ([] : List Int).getD i 0 = 0 := rfl
    rw [e]
    omega, fun i _ => by simp [State.reset]⟩

/-- The premises of CapsMoveThePoint, part 4, hold somewhere. -/
theorem witness_CapsMoveThePoint_4 : ∃ (c : Nat) (s : State), (s.pwr.throttle = some c) ∧ (s.hotAt s.throttleAt = true) :=
  ⟨3, { State.reset with pwr := { State.reset.pwr with throttle := some 3, temps := [3000] } }, rfl, by
    have h : ∀ s : State, s.throttleAt ≤ 1760 := by
      intro s
      have : s.gradeMax ≤ 1760 := by unfold State.gradeMax; split <;> omega
      unfold State.throttleAt
      omega
    have h' := h { State.reset with pwr := { State.reset.pwr with throttle := some 3, temps := [3000] } }
    simp only [State.hotAt, List.any_cons, List.any_nil, Bool.or_false, decide_eq_true_eq]
    exact Int.le_trans h' (by decide)⟩

/-- A command waits at ring 0, its keystone pair runs, and the state is TEST. -/
def commandAt (body : List Byte) : State :=
  (({ State.reset with chip := { State.reset.chip with mode := .test } } : State).setFld 0x700000 5 0 9).setSq 0
    { calls := [{ idx := 0, body := body }] }

/-- A TABLE command of function `fn` for rule 5 in generation A, with its record at address 8. -/
def ruleCommand (fn : Byte) : List Byte := [2, fn, 0, 0, 240, 1, 0, 0, 5, 0, 0, 0, 0, 0, 0, 0, 8, 0, 0, 0, 0, 0, 0, 0]

/-- The premises of TableRequestsActInEveryReplica, part 1, hold somewhere. -/
theorem witness_TableRequestsActInEveryReplica_1 : ∃ (r : Ring) (c : Call) (b : List Byte) (u : State) (s : State), (s.callFor r 2 1 = some c) ∧ (statesChange s.chip.mode = true ∨ (c.lsn.isSome = true ∧ s.chip.mode = .recovery)) ∧ (c.tableArgs.addr ≠ 0) ∧ (c.tableArgs.addr % 8 = 0) ∧ (s.tableCheck c.tableArgs = 0) ∧ (recordOk c.tableArgs.table (s.geometry s.refSpan c.tableArgs.table) c.tableArgs (entryRecord b) = true) ∧ (s.engineFree (s.requestSpan c.tableArgs) = true) ∧ (s.tableInsert c.tableArgs.table (s.geometry s.refSpan c.tableArgs.table) ({ c.tableArgs with late := s.progs.joint.isSome } : TableArgs) (entryRecord b) = .ok u) :=
  ⟨0, { idx := 0, body := ruleCommand 1 }, [], _, commandAt (ruleCommand 1), by decide, by decide, by decide, by decide, by decide, by decide, by decide, rfl⟩

/-- The premises of TableRequestsActInEveryReplica, part 3, hold somewhere. -/
theorem witness_TableRequestsActInEveryReplica_3 : ∃ (r : Ring) (c : Call) (b : List Byte) (d : Nat) (s : State), (s.callFor r 2 1 = some c) ∧ (statesChange s.chip.mode = true ∨ (c.lsn.isSome = true ∧ s.chip.mode = .recovery)) ∧ (c.tableArgs.addr ≠ 0) ∧ (c.tableArgs.addr % 8 = 0) ∧ (s.tableCheck c.tableArgs = 0) ∧ (recordOk c.tableArgs.table (s.geometry s.refSpan c.tableArgs.table) c.tableArgs (entryRecord b) = true) ∧ (s.engineFree (s.requestSpan c.tableArgs) = true) ∧ (s.tableInsert c.tableArgs.table (s.geometry s.refSpan c.tableArgs.table) ({ c.tableArgs with late := s.progs.joint.isSome } : TableArgs) (entryRecord b) = .fail d) :=
  ⟨0, { idx := 0, body := ruleCommand 1 }, [], 3, (commandAt (ruleCommand 1)).setRule 0 5 { ctl := 0x80000000 }, by decide, by decide, by decide, by decide, by decide, by decide, by decide, rfl⟩

/-- The premises of TableRequestsActInEveryReplica, part 6, hold somewhere. -/
theorem witness_TableRequestsActInEveryReplica_6 : ∃ (r : Ring) (c : Call) (b : List Byte) (u : State) (s : State), (s.callFor r 2 2 = some c) ∧ (statesChange s.chip.mode = true ∨ (c.lsn.isSome = true ∧ s.chip.mode = .recovery)) ∧ (c.tableArgs.addr ≠ 0) ∧ (c.tableArgs.addr % 8 = 0) ∧ (s.tableCheck c.tableArgs = 0) ∧ (recordOk c.tableArgs.table (s.geometry s.refSpan c.tableArgs.table) c.tableArgs (entryRecord b) = true) ∧ (s.engineFree (s.requestSpan c.tableArgs) = true) ∧ (s.tableDelete c.tableArgs.table (s.geometry s.refSpan c.tableArgs.table) ({ c.tableArgs with late := s.progs.joint.isSome } : TableArgs) (entryRecord b) = .ok u) :=
  ⟨0, { idx := 0, body := ruleCommand 2 }, [], _, (commandAt (ruleCommand 2)).setRule 0 5 { ctl := 0x80000000 }, by decide, by decide, by decide, by decide, by decide, by decide, by decide, rfl⟩

/-- The premises of TableRequestsActInEveryReplica, part 8, hold somewhere. -/
theorem witness_TableRequestsActInEveryReplica_8 : ∃ (r : Ring) (c : Call) (b : List Byte) (u : State) (s : State), (s.callFor r 2 3 = some c) ∧ (statesChange s.chip.mode = true ∨ (c.lsn.isSome = true ∧ s.chip.mode = .recovery)) ∧ (c.tableArgs.addr ≠ 0) ∧ (c.tableArgs.addr % 8 = 0) ∧ (s.tableCheck c.tableArgs = 0) ∧ (recordOk c.tableArgs.table (s.geometry s.refSpan c.tableArgs.table) c.tableArgs (entryRecord b) = true) ∧ (s.engineFree (s.requestSpan c.tableArgs) = true) ∧ (s.tableModify c.tableArgs.table (s.geometry s.refSpan c.tableArgs.table) ({ c.tableArgs with late := s.progs.joint.isSome } : TableArgs) (entryRecord b) = .ok u) :=
  ⟨0, { idx := 0, body := ruleCommand 3 }, [], _, (commandAt (ruleCommand 3)).setRule 0 5 { ctl := 0x80000000 }, by decide, by decide, by decide, by decide, by decide, by decide, by decide, rfl⟩

/-- The premises of TableRequestsActInEveryReplica, part 10, hold somewhere. -/
theorem witness_TableRequestsActInEveryReplica_10 : ∃ (r : Ring) (c : Call) (b : List Byte) (y : EntryRecord) (s : State), (s.callFor r 2 4 = some c) ∧ (statesButOff s.chip.mode = true) ∧ (c.tableArgs.addr ≠ 0) ∧ (c.tableArgs.addr % 8 = 0) ∧ (s.tableCheck c.tableArgs = 0) ∧ (recordOk c.tableArgs.table (s.geometry s.refSpan c.tableArgs.table) c.tableArgs (entryRecord b) = true) ∧ (s.engineFree (s.requestSpan c.tableArgs) = true) ∧ (s.readRecord c.tableArgs.table (s.geometry s.refSpan c.tableArgs.table) ({ c.tableArgs with late := s.progs.joint.isSome } : TableArgs) (entryRecord b) = some y) :=
  ⟨0, { idx := 0, body := ruleCommand 4 }, [], _, (commandAt (ruleCommand 4)).setRule 0 5 { ctl := 0x80000000 }, by decide, by decide, by decide, by decide, by decide, by decide, by decide, rfl⟩

/-- The premises of TableRequestsActInEveryReplica, part 12, hold somewhere. -/
theorem witness_TableRequestsActInEveryReplica_12 : ∃ (r : Ring) (c : Call) (s : State), (s.callFor r 2 5 = some c) ∧ (statesChange s.chip.mode = true ∨ (c.lsn.isSome = true ∧ s.chip.mode = .recovery)) ∧ (c.tableArgs.table < 240) ∧ ((s.geometry s.refSpan c.tableArgs.table).en = true) ∧ (0 < c.tableArgs.index) ∧ (c.tableArgs.index ≤ 65535) :=
  ⟨0, { idx := 0, body := [2, 5, 0, 0, 0, 0, 0, 0, 7] }, (commandAt [2, 5, 0, 0, 0, 0, 0, 0, 7]).setReg (kindReg 0 0) 0x80000000, by decide⟩

/-- A settings record without items, of a schema. -/
def emptySettings (a b : Byte) : List Byte :=
  [0x53, 0x47, 0x54, 0x53, a, b, 0, 0, 0, 0, 0, 0, 0, 0, 0, 0, 0, 0, 0, 0, 0, 0, 0, 0, 0, 0, 0, 0]
    ++ leBytes 4 (crc32c [0x53, 0x47, 0x54, 0x53, a, b, 0, 0, 0, 0, 0, 0, 0, 0, 0, 0, 0, 0, 0, 0, 0, 0, 0, 0, 0, 0, 0, 0]).toNat

theorem leNat_word (w : Word) : leNat (leBytes 4 w.toNat) = w.toNat := by
  have := w.isLt
  simp [leBytes, leNat]
  omega

theorem settingsSound_of (B : List Byte) (w : Word) (h : List Byte) (h0 : leNat (sliceBytes B 0 4) = 0x53544753)
    (h1 : leNat (sliceBytes B 6 2) = 0) (h2 : leNat (sliceBytes B 0x10 4) = 0) (h3 : leNat (sliceBytes B 0x14 8) = 0)
    (h4 : B.length = 32) (h5 : leNat (sliceBytes B 0x1C 4) = w.toNat) (h6 : sliceBytes B 0 28 ++ sliceBytes B 32 0 = h)
    (h7 : crc32c h = w) : settingsSound B = true := by
  simp only [settingsSound, h0, h1, h2, h3, h4, h5, h6, h7]
  decide

theorem emptySettings_sound (a b : Byte) : settingsSound (emptySettings a b) = true := by
  unfold emptySettings
  generalize hw : crc32c _ = w
  have e (i n : Nat) (l B : List Byte) (k : Nat) (h : sliceBytes B i n = l) (h' : leNat l = k) : leNat (sliceBytes B i n) = k := by
    rw [h, h']
  exact settingsSound_of _ w _ (e _ _ [0x53, 0x47, 0x54, 0x53] _ _ rfl (by decide)) (e _ _ [0, 0] _ _ rfl (by decide))
    (e _ _ [0, 0, 0, 0] _ _ rfl (by decide)) (e _ _ [0, 0, 0, 0, 0, 0, 0, 0] _ _ rfl (by decide)) (by simp [leBytes])
    (e _ _ (leBytes 4 w.toNat) _ _ rfl (leNat_word w)) rfl hw

/-- The premises of ServicesAnswerTheirRing, part 19, hold somewhere. -/
theorem witness_ServicesAnswerTheirRing_19 : ∃ (r : Ring) (c : Call) (bs : List Byte) (s : State), (s.callFor r 7 6 = some c) ∧ (statesChange s.chip.mode = true) ∧ (c.length ≤ slotSize) ∧ (c.address ≠ 0) ∧ (settingsSound bs = true) ∧ (settingsSchemaOf bs = s.runningSchema) :=
  have h : settingsSchemaOf (emptySettings ((Config.settingsSchema 0).setWidth 8) ((Config.settingsSchema 0 >>> 8).setWidth 8))
      = (Config.settingsSchema 0).toNat := by
    have := (Config.settingsSchema 0).isLt
    generalize Config.settingsSchema 0 = w at this
    have e : settingsSchemaOf (emptySettings (w.setWidth 8) ((w >>> 8).setWidth 8)) = leNat [w.setWidth 8, (w >>> 8).setWidth 8] := rfl
    rw [e]
    simp [leNat, Nat.shiftRight_eq_div_pow]
    omega
  have r : (commandAt ([7, 6] ++ List.replicate 14 0 ++ [8])).runningSchema = (Config.settingsSchema 0).toNat := rfl
  ⟨0, { idx := 0, body := [7, 6] ++ List.replicate 14 0 ++ [8] }, _, commandAt ([7, 6] ++ List.replicate 14 0 ++ [8]), by decide, by decide,
    by decide, by decide, emptySettings_sound _ _, h.trans r.symm⟩

/-- The premises of ServicesAnswerTheirRing, part 20, hold somewhere. -/
theorem witness_ServicesAnswerTheirRing_20 : ∃ (r : Ring) (c : Call) (s : State), (s.callFor r 7 7 = some c) ∧ (statesChange s.chip.mode = true) ∧ (c.address ≠ 0) ∧ (settingsSound (s.settingsAt s.bcb.slot) = true) :=
  ⟨0, { idx := 0, body := [7, 7] ++ List.replicate 14 0 ++ [8] },
    (commandAt ([7, 7] ++ List.replicate 14 0 ++ [8])).flashProgram 0x3D00000 (emptySettings 0 0), by decide +kernel⟩

/-- The premises of TableRequestsActInEveryReplica, part 19, hold somewhere. -/
theorem witness_TableRequestsActInEveryReplica_19 : ∃ (r : Ring) (b : List Byte) (x : Nat × Instr) (c : Call) (d : Nat) (s : State), (x ∈ [(1, Instr.tableInsert r (some b)), (2, .tableDelete r (some b)), (3, .tableModify r (some b)), (4, .tableRead r (some b))]) ∧ (s.callFor r 2 x.1 = some c) ∧ (statesButOff s.chip.mode = true) ∧ (x.1 = 4 ∨ statesChange s.chip.mode = true ∨ (c.lsn.isSome = true ∧ s.chip.mode = .recovery)) ∧ (c.tableArgs.addr ≠ 0) ∧ (c.tableArgs.addr % 8 = 0) ∧ (s.tableCheck c.tableArgs = 0) ∧ (recordOk c.tableArgs.table (s.geometry s.refSpan c.tableArgs.table) c.tableArgs (entryRecord b) = true) ∧ (s.engineFree (s.requestSpan c.tableArgs) = true) ∧ (s.tableEffect x.1 c.tableArgs.table (s.geometry s.refSpan c.tableArgs.table) ({ c.tableArgs with late := s.progs.joint.isSome } : TableArgs) (entryRecord b) = .fail d) :=
  ⟨0, [], (1, .tableInsert 0 (some [])), { idx := 0, body := ruleCommand 1 }, 3, (commandAt (ruleCommand 1)).setRule 0 5 { ctl := 0x80000000 },
    by decide, by decide, by decide, by decide, by decide, by decide, by decide, by decide, by decide, rfl⟩

/-- A packet of 60 bytes that is being read for ring 0. -/
def txWork (direct : Bool) : TxWork := { addr := 64, len := 60, direct := direct, cls := 0, target := 0, op := 0, gen := false }
def txTaken (direct : Bool) : Taken := { idx := 0, tag := 0, work := .tx (txWork direct) }
def txStart (direct : Bool) : State :=
  ({ State.reset with hq := { State.reset.hq with busMaster := true, pcieUp := true } } : State).setSq 0 { taken := [txTaken direct] }

/-- The descriptor of that packet, and the state that has taken it. -/
def txAlloc (direct : Bool) : State × Nat := ((txStart direct).allocDesc).getD (State.reset, 0)
theorem txAlloc_eq (direct : Bool) : (txStart direct).allocDesc = some ((txAlloc direct).1, (txAlloc direct).2) := by
  cases direct <;> rfl

/-- Writing its cells. -/
def txCellWrites (direct : Bool) (full : List Nat) : State × Bool :=
  ((txAlloc direct).1.hostFrame (0 : Ring) (txAlloc direct).2 (txWork direct)).writeHostCells (txAlloc direct).2
    (dieOf (((txAlloc direct).1.hostFrame (0 : Ring) (txAlloc direct).2 (txWork direct)).info (txAlloc direct).2).port) full
    (sliceBytes [] 0 60 ++ ethFcs (sliceBytes [] 0 60)) (txCells 60)

/-- The premises of RingsTakeAndComplete, part 16, hold somewhere. -/
theorem witness_RingsTakeAndComplete_16 : ∃ (r : Ring) (b : List Byte) (full : List (Fin 256)) (x : Taken) (w : TxWork) (u v : State) (d : Nat) (s : State), (s.hostOn = true) ∧ (s.bufferPaused = false) ∧ ((s.sq r).reading = some (x, w)) ∧ (w.direct = false) ∧ (s.allocDesc = some (u, d)) ∧ (((u.hostFrame r d w).writeHostCells d (dieOf ((u.hostFrame r d w).info d).port) (full.map Fin.val) (sliceBytes b 0 w.len ++ ethFcs (sliceBytes b 0 w.len)) (txCells w.len)) = (v, true)) :=
  ⟨0, [], [], txTaken false, txWork false, (txAlloc false).1, (txCellWrites false []).1, (txAlloc false).2, txStart false,
    by decide, by decide, rfl, rfl, txAlloc_eq false, Prod.ext rfl (by decide +kernel : (txCellWrites false []).2 = true)⟩

/-- The premises of RingsTakeAndComplete, part 17, hold somewhere. -/
theorem witness_RingsTakeAndComplete_17 : ∃ (r : Ring) (b : List Byte) (full : List (Fin 256)) (x : Taken) (w : TxWork) (u v : State) (d : Nat) (s : State), (s.hostOn = true) ∧ (s.bufferPaused = false) ∧ ((s.sq r).reading = some (x, w)) ∧ (w.direct = true) ∧ (s.allocDesc = some (u, d)) ∧ (((u.hostFrame r d w).writeHostCells d (dieOf ((u.hostFrame r d w).info d).port) (full.map Fin.val) (sliceBytes b 0 w.len ++ ethFcs (sliceBytes b 0 w.len)) (txCells w.len)) = (v, true)) :=
  ⟨0, [], [], txTaken true, txWork true, (txAlloc true).1, (txCellWrites true []).1, (txAlloc true).2, txStart true,
    by decide, by decide, rfl, rfl, txAlloc_eq true, Prod.ext rfl (by decide +kernel : (txCellWrites true []).2 = true)⟩

/-- The premises of RingsTakeAndComplete, part 18, hold somewhere. -/
theorem witness_RingsTakeAndComplete_18 : ∃ (r : Ring) (b : List Byte) (full : List (Fin 256)) (x : Taken) (w : TxWork) (u v : State) (d : Nat) (s : State), (s.hostOn = true) ∧ (s.bufferPaused = false) ∧ ((s.sq r).reading = some (x, w)) ∧ (s.allocDesc = some (u, d)) ∧ (((u.hostFrame r d w).writeHostCells d (dieOf ((u.hostFrame r d w).info d).port) (full.map Fin.val) (sliceBytes b 0 w.len ++ ethFcs (sliceBytes b 0 w.len)) (txCells w.len)) = (v, false)) :=
  ⟨0, [], List.finRange 256, txTaken false, txWork false, (txAlloc false).1, (txCellWrites false ((List.finRange 256).map Fin.val)).1,
    (txAlloc false).2, txStart false, by decide, by decide, rfl, txAlloc_eq false,
    Prod.ext rfl (by decide +kernel : (txCellWrites false ((List.finRange 256).map Fin.val)).2 = false)⟩

/-- A record of one cell can be had where one bank group of die 0 is left, whose head is free. -/
theorem recordCells_one (s : State) (n g : Nat) (hn : (n + 255) / 256 = 1) (hu : s.recordUse + 1 ≤ s.lim 0x800008 31 16 - 256)
    (hg : s.usableGroups recordWriter 0 = [g]) (hp : ∀ k, (({ s with freeCount := k } : State).popRecord g).2.isSome = true) :
    (s.recordCells n).2.isSome = true := by
  obtain ⟨c, hc⟩ := Option.isSome_iff_exists.mp (hp (s.freeCount + 1))
  have h : (s.recordCell).2 = some c := by
    unfold State.recordCell State.takeHead
    simp [hg, Nat.mod_one, hc]
  unfold State.recordCells
  simp only [hn, if_pos hu]
  unfold State.recordTake
  simp [h, State.recordTake]

/-- A mirror copy of a stored frame of one cell, and a state in which it waits, with one bank group of die 0 left. -/
def mirrorCopy : CopyRec :=
  { desc := 5, holder := holderMirror 1 0, ts := 7, egress := false, dropped := false, out := none, reason := 0, cpu := 3 }
def copyWaits : State :=
  { ((((State.reset.setDesc 5 { alloc := true, cells := 1, first := 7, last := 7, dest := 3 }).setLink 7
      { alloc := true, refcnt := 2, owner := 9, last := true, guard := crc32c [0] ^^^ guardFold 7 3 0 }).setInfo 5
      { ended := true, good := true }).setReg 0x80000C 0x1000) with
    buf.limits := [(0x800008, 0x02000000)], egr := { State.reset.egr with copies := [mirrorCopy] },
    fc := { State.reset.fc with retired := (List.range 128).filter (fun g => g ≠ 5) } }
def sampleBuf : RxBuf := { idx := 4, tag := 9, addr := 0x1000, len := 300, code := 0 }
def sampleWaits : State :=
  { ((((copyWaits.setReg 0x2501008 0xC0000002).setReg 0x420098 0xB2001000).setReg 0x42009C 0x20000000).setReg 0x460098 0x82000000) with
    hq := { State.reset.hq with busMaster := true, pcieUp := true, sq := [(2, { bufs := [sampleBuf] })] } }
def captureWaits : State := copyWaits.setReg 0x2501008 0x80000002

/-- The premises of TelemetryIsKept, part 9, hold somewhere. -/
theorem witness_TelemetryIsKept_9 : ∃ (d : DescId) (h : Holder) (ci : Option Word) (c : CopyRec) (b : RxBuf) (bs : List RxBuf) (s : State), (s.egr.copies.find? (fun c => decide (c.desc = d.val) && decide (c.holder = h)) = some c) ∧ ((s.info d).ended = true) ∧ (s.sharedFull = false) ∧ ((s.checkGuards d (s.desc d).dest h).2 = true) ∧ (holderTarget h ≠ 0x2000) ∧ (s.bit (0x2501000 + holderTarget h % 64 * 8) 30 = true) ∧ ((s.recordCells (16 + ((s.frameBytes d).take 256).length)).2.isSome = true) ∧ (s.sqRuns (s.fld (0x2501000 + holderTarget h % 64 * 8) 11 0) = true) ∧ (s.sqKind (s.fld (0x2501000 + holderTarget h % 64 * 8) 11 0) = 3) ∧ (s.hostOn = true) ∧ ((s.sq (s.fld (0x2501000 + holderTarget h % 64 * 8) 11 0)).bufs = b :: bs) ∧ (b.code = 0) ∧ (s.cqFree (s.sqCq (s.fld (0x2501000 + holderTarget h % 64 * 8) 11 0)) ≠ 0) ∧ ((s.desc d).alloc = true) ∧ ((s.desc d).quar = false) ∧ ((s.desc d).cells ≠ 0) ∧ ((s.cellsOf d).Nodup) ∧ (∀ c ∈ s.cellsOf d, (s.link c).alloc = true ∧ (s.link c).refcnt = (s.link (s.desc d).first).refcnt ∧ (s.link c).owner = (s.link (s.desc d).first).owner ∧ ((s.link c).last = true → some c = (s.cellsOf d).getLast?)) ∧ (2 ≤ (s.link (s.desc d).first).refcnt) ∧ ((s.link (s.desc d).first).refcnt ≤ 256) :=
  ⟨5, holderMirror 1 0, none, mirrorCopy, sampleBuf, [], sampleWaits, by decide, by decide, by decide +kernel, by decide, by decide, by decide,
    recordCells_one sampleWaits _ 5 (by decide) (by decide) (by decide +kernel) (fun _ => rfl),
    by decide, by decide, by decide, by decide, by decide, by decide, by decide, by decide, by decide, by decide, by decide, by decide, by decide⟩

/-- The premises of TelemetryIsKept, part 10, hold somewhere. -/
theorem witness_TelemetryIsKept_10 : ∃ (d : DescId) (h : Holder) (ci : Option Word) (c : CopyRec) (s : State), (s.egr.copies.find? (fun c => decide (c.desc = d.val) && decide (c.holder = h)) = some c) ∧ ((s.info d).ended = true) ∧ (s.sharedFull = false) ∧ ((s.checkGuards d (s.desc d).dest h).2 = true) ∧ (holderTarget h ≠ 0x2000) ∧ (s.bit (0x2501000 + holderTarget h % 64 * 8) 30 = false) ∧ ((s.recordCells (16 + ((s.frameBytes d).take 128).length)).2.isSome = true) ∧ ((s.desc d).alloc = true) ∧ ((s.desc d).quar = false) ∧ ((s.desc d).cells ≠ 0) ∧ ((s.cellsOf d).Nodup) ∧ (∀ c ∈ s.cellsOf d, (s.link c).alloc = true ∧ (s.link c).refcnt = (s.link (s.desc d).first).refcnt ∧ (s.link c).owner = (s.link (s.desc d).first).owner ∧ ((s.link c).last = true → some c = (s.cellsOf d).getLast?)) ∧ (2 ≤ (s.link (s.desc d).first).refcnt) ∧ ((s.link (s.desc d).first).refcnt ≤ 256) :=
  ⟨5, holderMirror 1 0, none, mirrorCopy, captureWaits, by decide, by decide, by decide +kernel, by decide, by decide, by decide,
    recordCells_one captureWaits _ 5 (by decide) (by decide) (by decide +kernel) (fun _ => rfl),
    by decide, by decide, by decide, by decide, by decide, by decide, by decide⟩

/-- The premises of AnEmptyQueueIsOneNanosecond, part 1, hold somewhere. -/
theorem witness_AnEmptyQueueIsOneNanosecond_1 : ∃ (s : State), (s.pending = []) ∧ (s.chip.mode ≠ .off) :=
  ⟨State.reset, by decide⟩

/-- The premises of AnEmptyQueueIsOneNanosecond, part 2, hold somewhere. -/
theorem witness_AnEmptyQueueIsOneNanosecond_2 : ∃ (s : State), (s.pending = []) ∧ (s.chip.mode = .off) :=
  ⟨{ State.reset with chip := { State.reset.chip with mode := .off } }, by decide⟩

/-- The premises of RegisterReads, part 1, hold somewhere. -/
theorem witness_RegisterReads_1 : ∃ (off : Offset) (s : State) (r : RegRow), (off.toNat % 4 = 0) ∧ (off.toNat ≠ 0x2FF0000) ∧ (regRow off.toNat = some r) ∧ (s.closed off.toNat = false) :=
  ⟨0x410, State.reset, Reg.one 0x410 [Reg.f .rc 31 0 0], by decide⟩

/-- The premises of RegisterReads, part 2, hold somewhere. -/
theorem witness_RegisterReads_2 : ∃ (off : Offset) (s : State), (off.toNat % 4 = 0) ∧ (isPairLow off.toNat = true) ∧ (s.closed off.toNat = false) :=
  ⟨0x100000, State.reset, by decide⟩

/-- The premises of RegisterReads, part 3, hold somewhere. -/
theorem witness_RegisterReads_3 : ∃ (off : Offset) (s : State), (off.toNat % 8 = 0) ∧ (isCounter off.toNat = true) ∧ (s.closed off.toNat = false) :=
  ⟨0x2600008, State.reset, by decide⟩

/-- The premises of RegisterReads, part 4, hold somewhere. -/
theorem witness_RegisterReads_4 : ∃ (s : State), (s.closed 0x2FF0000 = false) :=
  ⟨State.reset, by decide⟩

/-- The premises of ClosedRegistersAnswerNothing, part 1, hold somewhere. -/
theorem witness_ClosedRegistersAnswerNothing_1 : ∃ (off : Offset) (v : Word) (s : State), (s.chip.warm = .sealed) ∧ (0x200000 ≤ off.toNat) :=
  ⟨0x200000, 1, { State.reset with chip := { State.reset.chip with warm := .sealed } }, by decide⟩

/-- The premises of ClosedRegistersAnswerNothing, part 2, hold somewhere. -/
theorem witness_ClosedRegistersAnswerNothing_2 : ∃ (off : Offset) (s : State), (s.chip.warm = .sealed) ∧ (0x200000 ≤ off.toNat) :=
  ⟨0x200000, { State.reset with chip := { State.reset.chip with warm := .sealed } }, by decide⟩

/-- The premises of ClosedRegistersAnswerNothing, part 3, hold somewhere. -/
theorem witness_ClosedRegistersAnswerNothing_3 : ∃ (off : Offset) (s : State), (s.chip.warm = .sealed) ∧ (0x200000 ≤ off.toNat) :=
  ⟨0x200188, { State.reset with chip := { State.reset.chip with warm := .sealed } }, by decide⟩

/-- The premises of ClosedRegistersAnswerNothing, part 4, hold somewhere. -/
theorem witness_ClosedRegistersAnswerNothing_4 : ∃ (off : Offset) (s : State), (s.chip.warm = .sealed) ∧ (0x200000 ≤ off.toNat) :=
  ⟨0x2600000, { State.reset with chip := { State.reset.chip with warm := .sealed } }, by decide⟩

/-- The premises of ClosedRegistersAnswerNothing, part 5, hold somewhere. -/
theorem witness_ClosedRegistersAnswerNothing_5 : ∃ (v : Word) (off : Offset) (l : Lane) (n : Four) (w : Fin 32) (u : Fin 16) (sp : Span) (t : Fin 240) (b : Bool) (r : Ring) (g : Fin 32768) (x : Fin 21504) (k : Fin 2) (z : Sixtyfour) (i : Fin 5) (s : State), (s.chip.warm = .sealed) ∧ (0x200000 ≤ off.toNat) :=
  ⟨0, 0x200000, 0, 0, 0, 0, 0, 0, true, 0, 0, 0, 0, 0, 0, { State.reset with chip := { State.reset.chip with warm := .sealed } }, by decide⟩

/-- The premises of ClosedRegistersAnswerNothing, part 6, hold somewhere. -/
theorem witness_ClosedRegistersAnswerNothing_6 : ∃ (off : Offset) (s : State), (s.chip.warm = .sealed) ∧ (off.toNat < 0x200000) ∧ (off.toNat % 4 = 0) :=
  ⟨0x4, { State.reset with chip := { State.reset.chip with warm := .sealed } }, by decide⟩

/-- The premises of MisalignedAccess, part 1, hold somewhere. -/
theorem witness_MisalignedAccess_1 : ∃ (off : Offset) (n : Nat) (w : Bool) (s : State), (¬ (n = 4 ∧ off.toNat % 4 = 0)) ∧ (s.closed off.toNat = false) :=
  ⟨0x2, 4, false, State.reset, by decide⟩

/-- The premises of MisalignedAccess, part 2, hold somewhere. -/
theorem witness_MisalignedAccess_2 : ∃ (off : Offset) (w : Bool) (s : State), (off.toNat % 4 = 0) :=
  ⟨0x4, true, State.reset, by decide⟩

/-- The premises of RegisterWrites, part 1, hold somewhere. -/
theorem witness_RegisterWrites_1 : ∃ (off : Offset) (v : Word) (s : State) (r : RegRow), (off.toNat < 0x200000) ∧ (off.toNat % 4 = 0) ∧ (off.toNat ≠ 8) ∧ (regRow off.toNat = some r) ∧ (s.rwlOpen = true ∨ rwlDiffers r (s.reg off.toNat) v = false) :=
  ⟨0x40, 0xFFFF1234, State.reset, Reg.one 0x40 [Reg.f .rw 15 0 0], by decide⟩

/-- The premises of RegisterWrites, part 2, hold somewhere. -/
theorem witness_RegisterWrites_2 : ∃ (off : Offset) (v : Word) (s : State) (r : RegRow), (off.toNat < 0x100000) ∧ (off.toNat % 4 = 0) ∧ (off.toNat ≠ 8) ∧ (regRow off.toNat = some r) ∧ (s.rwlOpen = false) ∧ (rwlDiffers r (s.reg off.toNat) v = true) :=
  ⟨0x400, 5, { State.reset with chip := { State.reset.chip with mode := .service } }, Reg.one 0x400 [Reg.f .rw 31 16 0x3E8, Reg.f .rwl 11 0 0], by decide⟩

/-- The premises of RegisterWrites, part 3, hold somewhere. -/
theorem witness_RegisterWrites_3 : ∃ (off : Offset) (v : Word) (s : State), (off.toNat < 0x200000) ∧ (off.toNat % 4 = 0) ∧ (off.toNat ≠ 8) ∧ (regRow off.toNat = none) :=
  ⟨0x3000, 7, State.reset, by decide⟩

/-- The premises of RegisterWrites, part 4, hold somewhere. -/
theorem witness_RegisterWrites_4 : ∃ (v : Word) (s : State), (s.rwlOpen = false) :=
  ⟨5, { State.reset with chip := { State.reset.chip with mode := .service } }, by decide⟩

/-- The premises of RegisterWrites, part 5, hold somewhere. -/
theorem witness_RegisterWrites_5 : ∃ (off : Offset) (n : Nat) (w : Bool) (s : State), (s.chip.warm = .sealed) ∧ (0x200000 ≤ off.toNat) ∧ (¬ (n = 4 ∧ off.toNat % 4 = 0)) :=
  ⟨0x200001, 4, true, { State.reset with chip := { State.reset.chip with warm := .sealed } }, by decide⟩

/-- The premises of DieLinksReplayAndFailOver, part 1, hold somewhere. -/
theorem witness_DieLinksReplayAndFailOver_1 : ∃ (l : Fin 68) (s : State), (s.d2dRuns l = true) :=
  ⟨0, State.reset, by decide⟩

/-- The premises of DieLinksReplayAndFailOver, part 2, hold somewhere. -/
theorem witness_DieLinksReplayAndFailOver_2 : ∃ (l : Fin 68) (s : State), (s.d2dRuns l = false) :=
  ⟨64, State.reset, by decide⟩

/-- The premises of DieLinksReplayAndFailOver, part 3, hold somewhere. -/
theorem witness_DieLinksReplayAndFailOver_3 : ∃ (l : Fin 68) (k : Fin 4) (s : State), (s.overThreshold (d2dSource l) = true) ∧ (s.d2dRuns l = true) ∧ ((s.d2dLink (64 + k.val)).failed = false) ∧ (s.d2dCarried (64 + k.val) = none) ∧ (∀ j, j < k.val → (s.d2dLink (64 + j)).failed = true ∨ (s.d2dCarried (64 + j)).isSome = true) :=
  ⟨0, 1, (State.reset.setCorrections (d2dSource 0) (List.replicate 17 0)).setD2d 5 { failed := true, spare := some 64 }, by decide⟩

/-- The premises of DieLinksReplayAndFailOver, part 4, hold somewhere. -/
theorem witness_DieLinksReplayAndFailOver_4 : ∃ (l : Fin 68) (s : State), (s.overThreshold (d2dSource l) = true) ∧ (s.d2dRuns l = true) ∧ (∀ j, j < 4 → (s.d2dLink (64 + j)).failed = true ∨ (s.d2dCarried (64 + j)).isSome = true) :=
  ⟨0, (((((State.reset.setCorrections (d2dSource 0) (List.replicate 17 0)).setD2d 5 { failed := true, spare := some 64 }).setD2d 65 { failed := true }).setD2d 66 { failed := true }).setD2d 67 { failed := true }), by decide⟩

/-- The premises of DieLinksReplayAndFailOver, part 5, hold somewhere. -/
theorem witness_DieLinksReplayAndFailOver_5 : ∃ (l : Fin 68) (s : State), (s.overThreshold (d2dSource l) = false ∨ s.d2dRuns l = false) :=
  ⟨0, State.reset, by decide⟩

/-- The premises of LockstepPairs, part 1, hold somewhere. -/
theorem witness_LockstepPairs_1 : ∃ (b : LockBlock) (pin : Option Bool) (s : State), ((s.lockPair b).phase = .paired) :=
  ⟨.collector, some true, State.reset, by decide⟩

/-- The premises of LockstepPairs, part 2, hold somewhere. -/
theorem witness_LockstepPairs_2 : ∃ (b : LockBlock) (pin : Option Bool) (s : State), ((s.lockPair b).phase ≠ .paired) :=
  ⟨.collector, none, State.reset.setLock .collector { phase := .checking }, by decide⟩

/-- The premises of LockstepPairs, part 3, hold somewhere. -/
theorem witness_LockstepPairs_3 : ∃ (b : LockBlock) (passA passB : Bool) (s : State), ((s.lockPair b).phase = .checking) ∧ ((s.lockInjects b).getD (passA, passB) = (true, true)) :=
  ⟨.collector, true, true, State.reset.setLock .collector { phase := .checking }, by decide⟩

/-- The premises of LockstepPairs, part 4, hold somewhere. -/
theorem witness_LockstepPairs_4 : ∃ (b : LockBlock) (passA passB two : Bool) (s : State), ((s.lockPair b).phase = .checking) ∧ ((s.lockInjects b).getD (passA, passB) = (two, !two)) ∧ ((s.lockPair b).standbyUsed = false) ∧ (s.lockQuiet b = false) :=
  ⟨.collector, true, false, true, State.reset.setLock .collector { phase := .checking }, by decide⟩

/-- The premises of LockstepPairs, part 5, hold somewhere. -/
theorem witness_LockstepPairs_5 : ∃ (b : LockBlock) (passA passB two : Bool) (s : State), ((s.lockPair b).phase = .checking) ∧ ((s.lockInjects b).getD (passA, passB) = (two, !two)) ∧ (s.lockQuiet b = true) :=
  ⟨.collector, true, true, false, (let s := State.reset.setLock .collector { phase := .checking }; { s with fc := { s.fc with injNext := some (lockSource .collector 0), injKind := 0, injQuiet := true } }), by decide⟩

/-- The premises of LockstepPairs, part 6, hold somewhere. -/
theorem witness_LockstepPairs_6 : ∃ (b : LockBlock) (passA passB a c : Bool) (s : State), ((s.lockPair b).phase = .checking) ∧ ((s.lockInjects b).getD (passA, passB) = (a, c)) ∧ ((a && c) = false) ∧ ((s.lockPair b).standbyUsed = true ∨ (a || c) = false) ∧ (s.fc.injNext = none ∨ s.fc.injQuiet = false) ∧ (b = .collector ∨ s.chip.lockColl.phase = .paired) ∧ (s.chip.mode ≠ .off) :=
  ⟨.collector, true, false, true, false, State.reset.setLock .collector { phase := .checking, standbyUsed := true }, by decide⟩

/-- The premises of LockstepPairs, part 7, hold somewhere. -/
theorem witness_LockstepPairs_7 : ∃ (b : LockBlock) (passA passB : Bool) (s : State), ((s.lockPair b).phase ≠ .checking) :=
  ⟨.collector, true, true, State.reset, by decide⟩

/-- The premises of LockstepPairs, part 8, hold somewhere. -/
theorem witness_LockstepPairs_8 : ∃ (b : LockBlock) (c : Nat) (s : State), (b = .orderKeepers → ∀ e ∈ s.ord.pairs, e.1 < 16384) ∧ (b = .collector → s.fc.waiting = []) ∧ (b = .bufferPool ∨ b = .freeList → s.buf.waiting = []) ∧ ((s.lockPair b).phase = .joining) ∧ ((s.lockPair b).failed = some c) ∧ (s.lockQuiet b = false) :=
  ⟨.collector, 0, State.reset.setLock .collector { phase := .joining, failed := some 0 }, by decide⟩

/-- The premises of LockstepPairs, part 9, hold somewhere. -/
theorem witness_LockstepPairs_9 : ∃ (b : LockBlock) (c : Nat) (s : State), (b = .orderKeepers → ∀ e ∈ s.ord.pairs, e.1 < 16384) ∧ (b = .collector → s.fc.waiting = []) ∧ (b = .bufferPool ∨ b = .freeList → s.buf.waiting = []) ∧ ((s.lockPair b).phase = .joining) ∧ ((s.lockPair b).failed = some c) ∧ (s.lockQuiet b = true) :=
  ⟨.collector, 0, (let s := State.reset.setLock .collector { phase := .joining, failed := some 0 }; { s with fc := { s.fc with injNext := some (lockSource .collector 0), injKind := 0, injQuiet := true } }), by decide⟩

/-- The premises of LockstepPairs, part 10, hold somewhere. -/
theorem witness_LockstepPairs_10 : ∃ (b : LockBlock) (s : State), (b = .orderKeepers → ∀ e ∈ s.ord.pairs, e.1 < 16384) ∧ (b = .collector → s.fc.waiting = []) ∧ (b = .bufferPool ∨ b = .freeList → s.buf.waiting = []) ∧ ((s.lockPair b).phase = .joining) ∧ ((s.lockPair b).failed = none) :=
  ⟨.orderKeepers, State.reset.setLock .orderKeepers { phase := .joining }, by decide⟩

/-- The premises of LockstepPairs, part 11, hold somewhere. -/
theorem witness_LockstepPairs_11 : ∃ (b : LockBlock) (s : State), ((s.lockPair b).phase ≠ .joining) :=
  ⟨.orderKeepers, State.reset, by decide⟩

/-- The premises of ReferenceClocks, part 2, hold somewhere. -/
theorem witness_ReferenceClocks_2 : ∃ (s : State), ((s.source 0xFE80).live = false) ∧ (s.fc.injNext ≠ some 0xFE80 ∨ s.fc.injQuiet = false) ∧ (s.chip.lockColl.phase = .paired) ∧ (s.chip.mode ≠ .off) :=
  ⟨State.reset, by decide⟩

/-- The premises of ReferenceClocks, part 4, hold somewhere. -/
theorem witness_ReferenceClocks_4 : ∃ (n : Span) (s : State), ((s.source (clockSource (2 + n))).live = false) :=
  ⟨3, State.reset, by decide⟩

/-- The premises of ReferenceClocks, part 6, hold somewhere. -/
theorem witness_ReferenceClocks_6 : ∃ (s : State), ((s.source 0xFE81).live = false) :=
  ⟨State.reset, by decide⟩

/-- The premises of FramesStart, part 1, hold somewhere. -/
theorem witness_FramesStart_1 : ∃ (p : Port) (deck : DWord) (s : State), (s.available p = true) ∧ (s.rxFrame p = none) ∧ (s.inHold (portGroup p) = false) ∧ (s.chip.mode ≠ .safe) ∧ ((s.arrivals (portGroup p)).length < 8192 ∨ (s.lossless (getBits (s.portCfg p) 9 6) = true ∧ (s.arrivals (portGroup p)).length < 16384)) :=
  ⟨0, 0, ((({ State.reset with chip := { State.reset.chip with hold := [] } } : State).setBit 0x2000000 31 true).setBit 0x2000004 24 true), by decide⟩

/-- The premises of FramesStart, part 2, hold somewhere. -/
theorem witness_FramesStart_2 : ∃ (p : Port) (deck : DWord) (s : State), (s.available p = true) ∧ (s.rxFrame p = none) ∧ (s.inHold (portGroup p) = true ∨ s.chip.mode = .safe) :=
  ⟨0, 0, { ((({ State.reset with chip := { State.reset.chip with hold := [] } } : State).setBit 0x2000000 31 true).setBit 0x2000004 24 true) with chip := { State.reset.chip with hold := [0] } }, by decide⟩

/-- The premises of FramesStart, part 3, hold somewhere. -/
theorem witness_FramesStart_3 : ∃ (p : Port) (deck : DWord) (s : State), (s.available p = true) ∧ (s.rxFrame p = none) ∧ (s.inHold (portGroup p) = false) ∧ (s.chip.mode ≠ .safe) ∧ (s.lossless (getBits (s.portCfg p) 9 6) = false) ∧ (8192 ≤ (s.arrivals (portGroup p)).length) :=
  ⟨0, 0, ((({ State.reset with chip := { State.reset.chip with hold := [] } } : State).setBit 0x2000000 31 true).setBit 0x2000004 24 true).setArrivals 0 (List.range 8192), by decide +kernel⟩

/-- The premises of FramesStart, part 4, hold somewhere. -/
theorem witness_FramesStart_4 : ∃ (p : Port) (deck : DWord) (s : State), (s.available p = true) ∧ (s.rxFrame p = none) ∧ (s.inHold (portGroup p) = false) ∧ (s.chip.mode ≠ .safe) ∧ (s.lossless (getBits (s.portCfg p) 9 6) = true) ∧ (16384 ≤ (s.arrivals (portGroup p)).length) ∧ (portGroup p ∈ s.rx.overload) :=
  ⟨0, 0, (let s := ((({ State.reset with chip := { State.reset.chip with hold := [] } } : State).setBit 0x2000000 31 true).setBit 0x2000004 24 true).setArrivals 0 (List.range 16384); { s with rx := { s.rx with overload := [0] }, buf := { s.buf with limits := [(0x800100, 0x400000)] } }), by decide +kernel⟩

/-- The premises of FramesStart, part 5, hold somewhere. -/
theorem witness_FramesStart_5 : ∃ (p : Port) (deck : DWord) (s : State), (s.available p = true) ∧ (s.rxFrame p = none) ∧ (s.inHold (portGroup p) = false) ∧ (s.chip.mode ≠ .safe) ∧ (s.lossless (getBits (s.portCfg p) 9 6) = true) ∧ (16384 ≤ (s.arrivals (portGroup p)).length) ∧ (portGroup p ∉ s.rx.overload) :=
  ⟨0, 0, (let s := ((({ State.reset with chip := { State.reset.chip with hold := [] } } : State).setBit 0x2000000 31 true).setBit 0x2000004 24 true).setArrivals 0 (List.range 16384); { s with buf := { s.buf with limits := [(0x800100, 0x400000)] } }), by decide +kernel⟩

/-- The premises of FramesStart, part 6, hold somewhere. -/
theorem witness_FramesStart_6 : ∃ (p : Port) (deck : DWord) (s : State), (s.available p = false ∨ (s.rxFrame p).isSome = true) :=
  ⟨0, 0, State.reset, by decide⟩

/-- The premises of CellsArrive, part 1, hold somewhere. -/
theorem witness_CellsArrive_1 : ∃ (p : Port) (bytes : List Byte) (last : Bool) (full : List Nat) (s : State) (f : RxFrame), (s.rxFrame p = some f) ∧ (f.discard = true) :=
  ⟨0, [], false, [], State.reset.setRx 0 (some { gen := false, discard := true }), { gen := false, discard := true }, by decide⟩

/-- The premises of CellsArrive, part 2, hold somewhere. -/
theorem witness_CellsArrive_2 : ∃ (p : Port) (bytes : List Byte) (last : Bool) (full : List Nat) (s : State) (f : RxFrame), (s.rxFrame p = some f) ∧ (f.discard = false) ∧ (s.bufferPaused = false) ∧ (bytes ≠ []) ∧ (f.desc = none) ∧ (s.chip.mode = .safe) :=
  ⟨0, [0], false, [], (({ State.reset with chip := { State.reset.chip with mode := .safe } } : State).setRx 0 (some { gen := false })), { gen := false }, by decide⟩

/-- The premises of CellsArrive, part 3, hold somewhere. -/
theorem witness_CellsArrive_3 : ∃ (p : Port) (bytes : List Byte) (last : Bool) (full : List Nat) (s : State) (f : RxFrame), (s.rxFrame p = some f) ∧ (f.discard = false) ∧ (s.bufferPaused = false) ∧ (bytes ≠ []) ∧ (f.desc = none) ∧ (s.chip.mode ≠ .safe) ∧ (16384 < f.bytes + bytes.length ∨ s.mtu p < f.bytes + bytes.length) :=
  ⟨0, [0], false, [], State.reset.setRx 0 (some { gen := false, bytes := 16384 }), { gen := false, bytes := 16384 }, by decide⟩

/-- The premises of CellsArrive, part 4, hold somewhere. -/
theorem witness_CellsArrive_4 : ∃ (p : Port) (bytes : List Byte) (last : Bool) (full : List Nat) (s : State) (f : RxFrame), (s.rxFrame p = some f) ∧ (f.discard = false) ∧ (s.bufferPaused = false) ∧ (bytes ≠ []) ∧ (s.chip.mode = .safe ∨ 16384 < f.bytes + bytes.length ∨ s.mtu p < f.bytes + bytes.length) :=
  ⟨0, [0], false, [], State.reset.setRx 0 (some { gen := false, bytes := 16384, desc := some 5 }), { gen := false, bytes := 16384, desc := some 5 }, by decide⟩

/-- The premises of CellsArrive, part 5, hold somewhere. -/
theorem witness_CellsArrive_5 : ∃ (p : Port) (bytes : List Byte) (last : Bool) (full : List Nat) (s v : State) (f : RxFrame) (c d : Nat), (s.rxFrame p = some f) ∧ (f.discard = false) ∧ (s.bufferPaused = false) ∧ (bytes ≠ []) ∧ (f.desc = none) ∧ (s.chip.mode ≠ .safe) ∧ (f.bytes + bytes.length ≤ 16384 ∧ f.bytes + bytes.length ≤ s.mtu p) ∧ (s.inHold (portGroup p) = false) ∧ ((s.arrivals (portGroup p)).length < 8192 ∨ (s.lossless (getBits (s.portCfg p) 9 6) = true ∧ (s.arrivals (portGroup p)).length < 16384)) ∧ (s.headFull p = false) ∧ ((s.allocCell (portGroup p) (dieOf p) full).2 = some c) ∧ ((s.allocCell (portGroup p) (dieOf p) full).1.allocDesc = some (v, d)) :=
  ⟨0, [1], true, [], (((({ State.reset with chip := { State.reset.chip with hold := [], mode := .service } } : State).setBit 0x2000000 31 true).setBit 0x2000004 24 true).setRx 0 (some {})), (((((({ State.reset with chip := { State.reset.chip with hold := [], mode := .service } } : State).setBit 0x2000000 31 true).setBit 0x2000004 24 true).setRx 0 (some {})).allocCell (portGroup 0) (dieOf 0) []).1.allocDesc.get (by decide)).1, {}, (((((({ State.reset with chip := { State.reset.chip with hold := [], mode := .service } } : State).setBit 0x2000000 31 true).setBit 0x2000004 24 true).setRx 0 (some {})).allocCell (portGroup 0) (dieOf 0) []).2.get (by decide)), (((((({ State.reset with chip := { State.reset.chip with hold := [], mode := .service } } : State).setBit 0x2000000 31 true).setBit 0x2000004 24 true).setRx 0 (some {})).allocCell (portGroup 0) (dieOf 0) []).1.allocDesc.get (by decide)).2, by exact ⟨by decide, rfl, by decide, by decide, rfl, by decide, by decide, by decide, by decide, by decide, (Option.some_get _).symm, eq_some_pair _ _⟩⟩

/-- The premises of CellsArrive, part 6, hold somewhere. -/
theorem witness_CellsArrive_6 : ∃ (p : Port) (bytes : List Byte) (last : Bool) (full : List Nat) (s : State) (f : RxFrame), (s.rxFrame p = some f) ∧ (f.discard = false) ∧ (s.bufferPaused = false) ∧ (bytes ≠ []) ∧ (f.desc = none) ∧ (s.chip.mode ≠ .safe) ∧ (f.bytes + bytes.length ≤ 16384 ∧ f.bytes + bytes.length ≤ s.mtu p) ∧ (s.inHold (portGroup p) = false) ∧ ((s.arrivals (portGroup p)).length < 8192 ∨ (s.lossless (getBits (s.portCfg p) 9 6) = true ∧ (s.arrivals (portGroup p)).length < 16384)) ∧ (s.headFull p = true) :=
  ⟨0, [0], false, [], (((({ State.reset with chip := { State.reset.chip with hold := [], mode := .service } } : State).setBit 0x2000000 31 true).setBit 0x2000004 24 true).setRx 0 (some {})).setHeadUse 0 100000, {}, by decide⟩

/-- The premises of CellsArrive, part 7, hold somewhere. -/
theorem witness_CellsArrive_7 : ∃ (p : Port) (bytes : List Byte) (last : Bool) (full : List Nat) (s v : State) (f : RxFrame) (c d : Nat), (s.rxFrame p = some f) ∧ (f.discard = false) ∧ (s.bufferPaused = false) ∧ (bytes ≠ []) ∧ (f.desc = some d) ∧ (s.chip.mode ≠ .safe) ∧ (f.bytes + bytes.length ≤ 16384 ∧ f.bytes + bytes.length ≤ s.mtu p) ∧ ((s.info d).stopped = false) ∧ ((s.info d).revoked = false) ∧ ((s.desc d).quar = false) ∧ ((s.info d).classified = false) ∧ (s.headFull p = false) ∧ (s.allocCell (portGroup p) (s.cellDie p (some d)) full = (v, some c)) ∧ ((v.desc d).cells ≠ 0) ∧ ((v.desc d).last ≠ c) :=
  ⟨0, [1], true, [], (((((({ State.reset with chip := { State.reset.chip with hold := [], mode := .service } } : State).setBit 0x2000000 31 true).setBit 0x2000004 24 true).setRx 0 (some { desc := some 5, bytes := 256 })).setDesc 5 { alloc := true, cells := 1, first := 9, last := 9 }).setLink 9 { alloc := true, refcnt := 1 }), ((((((({ State.reset with chip := { State.reset.chip with hold := [], mode := .service } } : State).setBit 0x2000000 31 true).setBit 0x2000004 24 true).setRx 0 (some { desc := some 5, bytes := 256 })).setDesc 5 { alloc := true, cells := 1, first := 9, last := 9 }).setLink 9 { alloc := true, refcnt := 1 }).allocCell (portGroup 0) ((((((({ State.reset with chip := { State.reset.chip with hold := [], mode := .service } } : State).setBit 0x2000000 31 true).setBit 0x2000004 24 true).setRx 0 (some { desc := some 5, bytes := 256 })).setDesc 5 { alloc := true, cells := 1, first := 9, last := 9 }).setLink 9 { alloc := true, refcnt := 1 }).cellDie 0 (some 5)) []).1, { desc := some 5, bytes := 256 }, (((((((({ State.reset with chip := { State.reset.chip with hold := [], mode := .service } } : State).setBit 0x2000000 31 true).setBit 0x2000004 24 true).setRx 0 (some { desc := some 5, bytes := 256 })).setDesc 5 { alloc := true, cells := 1, first := 9, last := 9 }).setLink 9 { alloc := true, refcnt := 1 }).allocCell (portGroup 0) ((((((({ State.reset with chip := { State.reset.chip with hold := [], mode := .service } } : State).setBit 0x2000000 31 true).setBit 0x2000004 24 true).setRx 0 (some { desc := some 5, bytes := 256 })).setDesc 5 { alloc := true, cells := 1, first := 9, last := 9 }).setLink 9 { alloc := true, refcnt := 1 }).cellDie 0 (some 5)) []).2.get (by decide)), 5, by exact ⟨by decide, rfl, by decide, by decide, rfl, by decide, by decide, by decide, by decide, by decide, by decide, by decide, Prod.ext rfl (Option.some_get _).symm, by decide, by decide⟩⟩

/-- The premises of CellsArrive, part 8, hold somewhere. -/
theorem witness_CellsArrive_8 : ∃ (p : Port) (bytes : List Byte) (last : Bool) (full : List Nat) (s : State), (s.rxFrame p = none ∨ ((s.rxFrame p).any (fun f => f.discard) = false ∧ (bytes = [] ∨ s.bufferPaused = true))) :=
  ⟨0, [1], true, [], State.reset, by exact Or.inl (by decide)⟩

/-- The premises of FramesAreParsedAndClassified, part 1, hold somewhere. -/
theorem witness_FramesAreParsedAndClassified_1 : ∃ (d : DescId) (s : State), ((s.desc d).alloc = true) ∧ ((s.desc d).cells ≠ 0) ∧ ((s.info d).parsed = none) ∧ ((s.info d).stopped = false) :=
  ⟨0, State.reset.setDesc 0 { alloc := true, cells := 1 }, by decide⟩

/-- The premises of FramesAreParsedAndClassified, part 2, hold somewhere. -/
theorem witness_FramesAreParsedAndClassified_2 : ∃ (d : DescId) (s : State), ((s.desc d).alloc = true) ∧ ((s.desc d).cells ≠ 0) ∧ ((s.info d).parsed = none) ∧ ((s.info d).stopped = false) ∧ ((s.info d).ring.isSome = true ∨ ((s.parseOf d).pflags.getLsbD 11 = false ∧ (s.parseOf d).pflags.getLsbD 12 = false)) :=
  ⟨0, State.reset.setDesc 0 { alloc := true, cells := 1 }, by decide⟩

/-- The premises of FramesAreParsedAndClassified, part 3, hold somewhere. -/
theorem witness_FramesAreParsedAndClassified_3 : ∃ (d : DescId) (s : State), ((s.desc d).alloc = false ∨ (s.desc d).cells = 0 ∨ (s.info d).parsed.isSome = true ∨ (s.info d).stopped = true) :=
  ⟨0, State.reset, by decide⟩

/-- The premises of FramesAreParsedAndClassified, part 4, hold somewhere. -/
theorem witness_FramesAreParsedAndClassified_4 : ∃ (d : DescId) (p : Parsed) (s : State), ((s.info d).parsed = some p) ∧ ((s.info d).classified = false) ∧ ((s.info d).ring = none) ∧ ((s.info d).stopped = false) ∧ ((s.desc d).alloc = true) ∧ (s.grantsPaused = false) ∧ (s.chip.mode ≠ .safe) ∧ (((s.classifyFrame d p).chargeHead d).2 = true) :=
  ⟨5, {}, ((((({ State.reset with chip := { State.reset.chip with hold := [], mode := .service } } : State).setBit 0x2000000 31 true).setBit 0x2000004 24 true).setInfo 5 { parsed := some {} }).setDesc 5 { alloc := true }), by decide⟩

/-- The premises of FramesAreParsedAndClassified, part 5, hold somewhere. -/
theorem witness_FramesAreParsedAndClassified_5 : ∃ (d : DescId) (p : Parsed) (s : State), ((s.info d).parsed = some p) ∧ ((s.info d).classified = false) ∧ ((s.info d).ring = none) ∧ ((s.info d).stopped = false) ∧ ((s.desc d).alloc = true) ∧ (s.grantsPaused = false) ∧ (s.chip.mode ≠ .safe) ∧ (((s.classifyFrame d p).chargeHead d).2 = false) ∧ (s.lossless (s.verdict d p).tc = true) :=
  ⟨5, {}, (let s := ((((({ State.reset with chip := { State.reset.chip with hold := [], mode := .service } } : State).setBit 0x2000000 31 true).setBit 0x2000004 24 true).setInfo 5 { parsed := some {} }).setDesc 5 { alloc := true, cells := 1 }); { s with buf := { s.buf with limits := [(0x800100, 0x400000)] } }), by decide⟩

/-- The premises of FramesAreParsedAndClassified, part 6, hold somewhere. -/
theorem witness_FramesAreParsedAndClassified_6 : ∃ (d : DescId) (s : State), ((s.info d).parsed = none ∨ s.grantsPaused = true ∨ s.chip.mode = .safe ∨ (s.info d).classified = true ∨ (s.info d).ring.isSome = true ∨ (s.info d).stopped = true ∨ (s.desc d).alloc = false) :=
  ⟨0, State.reset, by decide⟩

/-- The premises of FramesEnd, part 1, hold somewhere. -/
theorem witness_FramesEnd_1 : ∃ (p : Port) (good truncated : Bool) (s : State) (f : RxFrame), (s.rxFrame p = some f) ∧ (f.desc = none) :=
  ⟨0, true, false, State.reset.setRx 0 (some { gen := false }), { gen := false }, by decide⟩

/-- The premises of FramesEnd, part 2, hold somewhere. -/
theorem witness_FramesEnd_2 : ∃ (p : Port) (good truncated : Bool) (s : State) (f : RxFrame) (d : Nat), (s.rxFrame p = some f) ∧ (f.desc = some d) ∧ ((good = false ∨ truncated = true ∨ f.bytes < 64)) ∧ (s.bufferPaused = false) ∧ ((s.info d).stopped = false) ∧ ((s.desc d).quar = false) ∧ ((s.info d).classified = true) ∧ ((s.info d).released = false) ∧ ((s.info d).revoked = false) ∧ ((s.info d).ring = none) :=
  ⟨0, false, false, ((((State.reset.setRx 0 (some { desc := some 5, bytes := 64 })).setInfo 5 { classified := true }).setDesc 5 { alloc := true, cells := 1, first := 9, last := 9 }).setLink 9 { alloc := true, refcnt := 1, owner := holderArrival 0, last := true }), { desc := some 5, bytes := 64 }, 5, by decide⟩

/-- The premises of FramesEnd, part 3, hold somewhere. -/
theorem witness_FramesEnd_3 : ∃ (p : Port) (good truncated : Bool) (s : State) (f : RxFrame) (d : Nat), (s.rxFrame p = some f) ∧ (f.desc = some d) ∧ ((good = false ∨ truncated = true ∨ f.bytes < 64)) ∧ (s.bufferPaused = false) ∧ ((s.info d).stopped = false) ∧ ((s.desc d).quar = false) ∧ ((s.desc d).alloc = true) ∧ ((s.info d).released = false) ∧ ((s.desc d).cells = 1) ∧ ((s.link (s.desc d).first).alloc = true) ∧ ((s.link (s.desc d).first).refcnt = 1) ∧ ((s.link (s.desc d).first).owner = (s.info d).arrivalHolder) :=
  ⟨0, false, false, ((((State.reset.setRx 0 (some { desc := some 5, bytes := 64 })).setInfo 5 { classified := true }).setDesc 5 { alloc := true, cells := 1, first := 9, last := 9 }).setLink 9 { alloc := true, refcnt := 1, owner := holderArrival 0, last := true }), { desc := some 5, bytes := 64 }, 5, by decide⟩

/-- The premises of FramesEnd, part 4, hold somewhere. -/
theorem witness_FramesEnd_4 : ∃ (p : Port) (s : State) (f : RxFrame) (d : Nat), (s.rxFrame p = some f) ∧ (f.desc = some d) ∧ (64 ≤ f.bytes) ∧ (f.viaduct = false) ∧ (s.bufferPaused = false) ∧ (s.chip.mode ≠ .safe) ∧ ((s.info d).stopped = false) ∧ ((s.info d).revoked = false) ∧ ((s.desc d).quar = false) ∧ ((s.info d).classified = true) ∧ ((s.info d).ring = none) ∧ ((s.desc d).lossless = true) ∧ ((s.desc d).accepted = false) :=
  ⟨0, ((State.reset.setRx 0 (some { gen := false, desc := some 5, bytes := 64 })).setInfo 5 { classified := true }).setDesc 5 { lossless := true }, { gen := false, desc := some 5, bytes := 64 }, 5, by decide⟩

/-- The premises of FramesEnd, part 5, hold somewhere. -/
theorem witness_FramesEnd_5 : ∃ (p : Port) (good truncated : Bool) (s : State), (s.rxFrame p = none ∨ (s.bufferPaused = true ∧ (s.rxFrame p).any (fun f => f.desc.isNone) = false)) :=
  ⟨0, false, false, State.reset, by exact Or.inl (by decide)⟩

/-- The premises of SlotsTakePackets, part 1, hold somewhere. -/
theorem witness_SlotsTakePackets_1 : ∃ (span : Span) (pipe : PipeNo) (s : State) (g d : Nat), ((s.passOf span .ingress).groupOf pipe = some g) ∧ (s.slotOpen span .ingress pipe = true) ∧ (s.replaysOf (span * 4 + g) .ingress = []) ∧ (s.recircQueue (span * 4 + g) = []) ∧ ((s.pipeOf (pipeNo span .ingress pipe)).katWait = []) ∧ (s.reorderUse (span * 4 + g) < 4096) ∧ (s.nextArrival (span * 4 + g) = some d) ∧ (s.nextHost (span * 4 + g) = none ∨ Tbl.get (fun _ => false) s.pipes.hostTurn (span * 4 + g) = false) :=
  ⟨0, 0, (State.reset.setInfo 5 { classified := true }).setArrivals 0 [5], 0, 5, by decide⟩

/-- The premises of SlotsTakePackets, part 2, hold somewhere. -/
theorem witness_SlotsTakePackets_2 : ∃ (span : Span) (pipe : PipeNo) (s : State) (g d : Nat), ((s.passOf span .ingress).groupOf pipe = some g) ∧ (s.slotOpen span .ingress pipe = true) ∧ (s.replaysOf (span * 4 + g) .ingress = []) ∧ (s.recircQueue (span * 4 + g) = []) ∧ ((s.pipeOf (pipeNo span .ingress pipe)).katWait = []) ∧ (s.reorderUse (span * 4 + g) < 4096) ∧ (s.nextHost (span * 4 + g) = some d) ∧ (s.nextArrival (span * 4 + g) = none ∨ Tbl.get (fun _ => false) s.pipes.hostTurn (span * 4 + g) = true) :=
  ⟨0, 0, (State.reset.setInfo 5 { parsed := some {} }).setHostQueue 0 [5], 0, 5, by decide⟩

/-- The premises of SlotsTakePackets, part 3, hold somewhere. -/
theorem witness_SlotsTakePackets_3 : ∃ (span : Span) (pipe : PipeNo) (s : State) (g : Nat) (r : Replay) (rest : List Replay), ((s.passOf span .ingress).groupOf pipe = some g) ∧ (s.slotOpen span .ingress pipe = true) ∧ (s.replaysOf (span * 4 + g) .ingress = r :: rest) ∧ ((s.checkGuards r.desc (s.desc r.desc).dest (s.info r.desc).arrivalHolder).2 = true) :=
  ⟨0, 0, State.reset.setReplays 0 .ingress [{ desc := 5, copy := none, failedAt := some 3 }], 0, { desc := 5, copy := none, failedAt := some 3 }, [], by decide⟩

/-- The premises of SlotsTakePackets, part 4, hold somewhere. -/
theorem witness_SlotsTakePackets_4 : ∃ (span : Span) (pipe : PipeNo) (s : State) (g i : Nat) (rest : List Nat) (x : Packet), ((s.passOf span .ingress).groupOf pipe = some g) ∧ (s.slotOpen span .ingress pipe = true) ∧ (s.replaysOf (span * 4 + g) .ingress = []) ∧ (s.recircQueue (span * 4 + g) = i :: rest) ∧ (s.packet i = some x) ∧ (i ≠ s.pipes.nextPkt) :=
  ⟨0, 0, ((State.reset.setPacket 7 (some { pass := .ingress, span := 0, pipe := 0, group := 0, origin := .arrival, desc := some 5, copy := none, route := { recirculated := true } })).setRecircQueue 0 [7]), 0, 7, [], { pass := .ingress, span := 0, pipe := 0, group := 0, origin := .arrival, desc := some 5, copy := none, route := { recirculated := true } }, by decide⟩

/-- The premises of SlotsTakePackets, part 5, hold somewhere. -/
theorem witness_SlotsTakePackets_5 : ∃ (span : Span) (pass : Pass) (pipe : PipeNo) (s : State) (g : Nat) (v : Bool × Nat) (rest : List (Bool × Nat)), ((s.passOf span pass).groupOf pipe = some g) ∧ (s.slotOpen span pass pipe = true) ∧ (s.replaysOf (span * 4 + g) pass = []) ∧ (pass = .egress ∨ s.recircQueue (span * 4 + g) = []) ∧ ((s.pipeOf (pipeNo span pass pipe)).katWait = v :: rest) :=
  ⟨0, .ingress, 0, State.reset.setPipe 0 { katWait := [(true, 3)] }, 0, (true, 3), [], by decide⟩

/-- The premises of SlotsTakePackets, part 6, hold somewhere. -/
theorem witness_SlotsTakePackets_6 : ∃ (span : Span) (pipe : PipeNo) (s : State) (g : Nat) (r : Replay) (c : Nat × QEntry) (rest : List Replay), ((s.passOf span .egress).groupOf pipe = some g) ∧ (s.slotOpen span .egress pipe = true) ∧ (s.replaysOf (span * 4 + g) .egress = r :: rest) ∧ (r.copy = some c) ∧ ((s.checkGuards c.2.desc (s.copyReader c).2 (s.copyReader c).1).2 = true) :=
  ⟨0, 0, State.reset.setReplays 0 .egress [{ desc := 5, copy := some (0, { desc := 5, idx := 0, tag := 0 }), failedAt := some 3 }], 0, { desc := 5, copy := some (0, { desc := 5, idx := 0, tag := 0 }), failedAt := some 3 }, (0, { desc := 5, idx := 0, tag := 0 }), [], by decide⟩

/-- The premises of SlotsTakePackets, part 7, hold somewhere. -/
theorem witness_SlotsTakePackets_7 : ∃ (span : Span) (pipe : PipeNo) (s : State) (g : Nat) (c : Nat × QEntry) (rest : List (Nat × QEntry)), ((s.passOf span .egress).groupOf pipe = some g) ∧ (s.slotOpen span .egress pipe = true) ∧ (s.replaysOf (span * 4 + g) .egress = []) ∧ ((s.pipeOf (pipeNo span .egress pipe)).katWait = []) ∧ (s.selectedOf (span * 4 + g) = c :: rest) ∧ ((s.checkGuards c.2.desc (s.copyReader c).2 (s.copyReader c).1).2 = true) :=
  ⟨0, 0, State.reset.setSelected 0 [(0, { desc := 5, idx := 0, tag := 0 })], 0, (0, { desc := 5, idx := 0, tag := 0 }), [], by decide⟩

/-- The premises of SlotsTakePackets, part 8, hold somewhere. -/
theorem witness_SlotsTakePackets_8 : ∃ (span : Span) (pass : Pass) (pipe : PipeNo) (s : State), (s.slotOpen span pass pipe = false ∨ (s.passOf span pass).groupOf pipe = none) :=
  ⟨0, .ingress, 0, { State.reset with chip := { State.reset.chip with mode := .safe } }, by decide⟩

/-- The premises of StagesExecute, part 1, hold somewhere. -/
theorem witness_StagesExecute_1 : ∃ (i : Nat) (k : Packet) (ev : StageEvent) (s : State), (s.packet i = some k) ∧ ((k.route.ended || k.route.drop || k.route.recircReq) = true ∨ (bitsOf (s.dispatchOf k) 15 15 = 1 ∧ bitsOf (s.dispatchOf k) 14 14 = 1)) ∧ (k.stage + 1 < passStages k.pass) ∧ (ev.checkFails = false) ∧ (ev.corrected = 0) ∧ (ev.rowFixed = none) ∧ (ev.rowBad = none) ∧ (s.fc.injNext = none) :=
  ⟨0, { pass := .ingress, span := 0, pipe := 0, group := 0, origin := .arrival, desc := some 5, copy := none }, { checkFails := false, corrected := 0, rowFixed := none, mismatch := false, digestBad := false }, ((State.reset.setStoreAll (storeKey false kindDispatch 0 0 0) 0xC000).setPacket 0 (some { pass := .ingress, span := 0, pipe := 0, group := 0, origin := .arrival, desc := some 5, copy := none })), by decide +kernel⟩

/-- The premises of StagesExecute, part 2, hold somewhere. -/
theorem witness_StagesExecute_2 : ∃ (i : Nat) (k : Packet) (ev : StageEvent) (s : State), (s.packet i = some k) ∧ (k.route.ended = false) ∧ (k.route.drop = false) ∧ (k.route.recircReq = false) ∧ (bitsOf (s.dispatchOf k) 15 15 = 1) ∧ (bitsOf (s.dispatchOf k) 14 14 = 0) ∧ (k.stage + 1 < passStages k.pass) ∧ (bitsOf (mwSeq (s.wordOf k (bitsOf (s.dispatchOf k) 6 0))) 5 5 = 0 ∨ (controlsApply (mwSeq (s.wordOf k (bitsOf (s.dispatchOf k) 6 0))) (s.wordLookup k (bitsOf (s.dispatchOf k) 6 0)).2) = false) ∧ (ev.checkFails = false) ∧ (ev.corrected = 0) ∧ (ev.rowFixed = none) ∧ (ev.rowBad = none) ∧ (s.fc.injNext = none) :=
  ⟨0, { pass := .ingress, span := 0, pipe := 0, group := 0, origin := .arrival, desc := some 5, copy := none }, { checkFails := false, corrected := 0, rowFixed := none, mismatch := false, digestBad := false }, ((State.reset.setStoreAll (storeKey false kindDispatch 0 0 0) 0x8001).setPacket 0 (some { pass := .ingress, span := 0, pipe := 0, group := 0, origin := .arrival, desc := some 5, copy := none })), by decide +kernel⟩

/-- The premises of StagesExecute, part 3, hold somewhere. -/
theorem witness_StagesExecute_3 : ∃ (i : Nat) (k : Packet) (ev : StageEvent) (s : State), (s.packet i = some k) ∧ (k.route.ended = false) ∧ (k.route.drop = false) ∧ (k.route.recircReq = false) ∧ (bitsOf (s.dispatchOf k) 15 15 = 1) ∧ (bitsOf (s.dispatchOf k) 14 14 = 0) ∧ (k.stage + 1 < passStages k.pass) ∧ (k.pass = .ingress) ∧ (k.route.recirculated = false) ∧ (bitsOf (mwSeq (s.wordOf k (bitsOf (s.dispatchOf k) 6 0))) 5 5 = 1) ∧ ((controlsApply (mwSeq (s.wordOf k (bitsOf (s.dispatchOf k) 6 0))) (s.wordLookup k (bitsOf (s.dispatchOf k) 6 0)).2) = true) ∧ (bitsOf (mwSeq (s.wordOf k (bitsOf (s.dispatchOf k) 6 0))) 3 3 = 0) ∧ (¬ (64 ≤ (bitsOf (s.dispatchOf k) 6 0) ∧ nextOpcode (mwSeq (s.wordOf k (bitsOf (s.dispatchOf k) 6 0))) (s.wordLookup k (bitsOf (s.dispatchOf k) 6 0)).2 < 128 ∧ (s.wordLookup k (bitsOf (s.dispatchOf k) 6 0)).1.callable (k.span * 10) k.route.gen (nextOpcode (mwSeq (s.wordOf k (bitsOf (s.dispatchOf k) 6 0))) (s.wordLookup k (bitsOf (s.dispatchOf k) 6 0)).2) = false)) ∧ (ev.checkFails = false) ∧ (ev.corrected = 0) ∧ (ev.rowFixed = none) ∧ (ev.rowBad = none) ∧ (s.fc.injNext = none) :=
  ⟨0, { pass := .ingress, span := 0, pipe := 0, group := 0, origin := .arrival, desc := some 5, copy := none }, { checkFails := false, corrected := 0, rowFixed := none, mismatch := false, digestBad := false }, (((State.reset.setStoreAll (storeKey false kindDispatch 0 0 0) 0x8001).setStoreAll (storeKey false kindWord 0 0 1) (2 ^ 549)).setPacket 0 (some { pass := .ingress, span := 0, pipe := 0, group := 0, origin := .arrival, desc := some 5, copy := none })), by decide +kernel⟩

/-- The premises of StagesExecute, part 4, hold somewhere. -/
theorem witness_StagesExecute_4 : ∃ (i : Nat) (k : Packet) (ev : StageEvent) (s : State), (s.packet i = some k) ∧ (k.route.ended = false) ∧ (k.route.drop = false) ∧ (k.route.recircReq = false) ∧ (bitsOf (s.dispatchOf k) 15 15 = 1) ∧ (bitsOf (s.dispatchOf k) 14 14 = 0) ∧ (k.stage + 1 < passStages k.pass) ∧ (k.pass = .ingress) ∧ (k.route.recirculated = true) ∧ (bitsOf (mwSeq (s.wordOf k (bitsOf (s.dispatchOf k) 6 0))) 5 5 = 1) ∧ ((controlsApply (mwSeq (s.wordOf k (bitsOf (s.dispatchOf k) 6 0))) (s.wordLookup k (bitsOf (s.dispatchOf k) 6 0)).2) = true) ∧ (bitsOf (mwSeq (s.wordOf k (bitsOf (s.dispatchOf k) 6 0))) 3 3 = 0) ∧ (¬ (64 ≤ (bitsOf (s.dispatchOf k) 6 0) ∧ nextOpcode (mwSeq (s.wordOf k (bitsOf (s.dispatchOf k) 6 0))) (s.wordLookup k (bitsOf (s.dispatchOf k) 6 0)).2 < 128 ∧ (s.wordLookup k (bitsOf (s.dispatchOf k) 6 0)).1.callable (k.span * 10) k.route.gen (nextOpcode (mwSeq (s.wordOf k (bitsOf (s.dispatchOf k) 6 0))) (s.wordLookup k (bitsOf (s.dispatchOf k) 6 0)).2) = false)) ∧ (ev.checkFails = false) ∧ (ev.corrected = 0) ∧ (ev.rowFixed = none) ∧ (ev.rowBad = none) ∧ (s.fc.injNext = none) :=
  ⟨0, { pass := .ingress, span := 0, pipe := 0, group := 0, origin := .arrival, desc := some 5, copy := none, route := { recirculated := true } }, { checkFails := false, corrected := 0, rowFixed := none, mismatch := false, digestBad := false }, (((State.reset.setStoreAll (storeKey false kindDispatch 0 0 0) 0x8001).setStoreAll (storeKey false kindWord 0 0 1) (2 ^ 549)).setPacket 0 (some { pass := .ingress, span := 0, pipe := 0, group := 0, origin := .arrival, desc := some 5, copy := none, route := { recirculated := true } })), by decide +kernel⟩

/-- The premises of StagesExecute, part 5, hold somewhere. -/
theorem witness_StagesExecute_5 : ∃ (i : Nat) (k : Packet) (ev : StageEvent) (s : State), (s.packet i = some k) ∧ (k.route.ended = false) ∧ (k.route.drop = false) ∧ (k.route.recircReq = false) ∧ (bitsOf (s.dispatchOf k) 15 15 = 0) ∧ (k.stage + 1 < passStages k.pass) ∧ (ev.checkFails = false) ∧ (ev.corrected = 0) ∧ (ev.rowFixed = none) ∧ (ev.rowBad = none) ∧ (s.fc.injNext = none) :=
  ⟨0, { pass := .ingress, span := 0, pipe := 0, group := 0, origin := .arrival, desc := some 5, copy := none }, { checkFails := false, corrected := 0, rowFixed := none, mismatch := false, digestBad := false }, (State.reset.setPacket 0 (some { pass := .ingress, span := 0, pipe := 0, group := 0, origin := .arrival, desc := some 5, copy := none })), by decide⟩

/-- The premises of StagesExecute, part 6, hold somewhere. -/
theorem witness_StagesExecute_6 : ∃ (i : Nat) (k : Packet) (ev : StageEvent) (s : State), (s.packet i = some k) ∧ (k.pass = .ingress) ∧ (k.desc.isSome = true) ∧ (k.copy = none) ∧ ((s.runStage k).2.route.recircReq = true) ∧ ((s.runStage k).2.route.drop = false) ∧ (k.route.kat = false) ∧ (k.shadowed = false) ∧ (k.stage = 23) ∧ (ev.checkFails = false) ∧ (ev.corrected = 0) ∧ (ev.rowFixed = none) ∧ (ev.rowBad = none) ∧ (s.fc.injNext = none) :=
  ⟨0, { pass := .ingress, span := 0, pipe := 0, group := 0, origin := .arrival, desc := some 5, copy := none, stage := 23, route := { recircReq := true } }, { checkFails := false, corrected := 0, rowFixed := none, mismatch := false, digestBad := false }, (State.reset.setPacket 0 (some { pass := .ingress, span := 0, pipe := 0, group := 0, origin := .arrival, desc := some 5, copy := none, stage := 23, route := { recircReq := true } })), by decide⟩

/-- The premises of StagesExecute, part 7, hold somewhere. -/
theorem witness_StagesExecute_7 : ∃ (i : Nat) (k : Packet) (ev : StageEvent) (s : State) (d : Nat), (s.packet i = some k) ∧ (k.pass = .ingress) ∧ (k.desc = some d) ∧ (k.copy = none) ∧ ((s.runStage k).2.route.recircReq = false ∨ (s.runStage k).2.route.drop = true) ∧ (k.route.kat = false) ∧ (k.shadowed = false) ∧ ((s.info d).ring = none) ∧ (k.stage = 23) ∧ (ev.checkFails = false) ∧ (ev.corrected = 0) ∧ (ev.rowFixed = none) ∧ (ev.rowBad = none) ∧ (s.fc.injNext = none) :=
  ⟨0, { pass := .ingress, span := 0, pipe := 0, group := 0, origin := .arrival, desc := some 5, copy := none, stage := 23, route := { ended := true } }, { checkFails := false, corrected := 0, rowFixed := none, mismatch := false, digestBad := false }, (State.reset.setPacket 0 (some { pass := .ingress, span := 0, pipe := 0, group := 0, origin := .arrival, desc := some 5, copy := none, stage := 23, route := { ended := true } })), 5, by decide⟩

/-- The premises of StagesExecute, part 8, hold somewhere. -/
theorem witness_StagesExecute_8 : ∃ (i : Nat) (k : Packet) (ev : StageEvent) (s : State) (d : Nat) (c : Nat × QEntry) (x : TxCopy), (s.packet i = some k) ∧ (k.pass = .egress) ∧ (k.desc = some d) ∧ (k.copy = some c) ∧ ((s.runStage k).2.route.drop = false) ∧ (k.route.kat = false) ∧ (k.shadowed = false) ∧ ((s.runStage k).2.latched.mirror = false) ∧ ((s.runStage k).2.latched.tocpu = false) ∧ (s.tx (c.1 / 16) = some x) ∧ (x.queue = c.1) ∧ (x.entry = c.2) ∧ (s.resolvingFor k = false) ∧ (k.stage = 15) ∧ (ev.checkFails = false) ∧ (ev.corrected = 0) ∧ (ev.rowFixed = none) ∧ (ev.rowBad = none) ∧ (s.fc.injNext = none) :=
  ⟨0, { pass := .egress, span := 0, pipe := 0, group := 0, origin := .copy, desc := some 5, copy := some (3, { desc := 5, idx := 0, tag := 3 }), stage := 15, route := { ended := true } }, { checkFails := false, corrected := 0, rowFixed := none, mismatch := false, digestBad := false }, ((State.reset.setPacket 0 (some { pass := .egress, span := 0, pipe := 0, group := 0, origin := .copy, desc := some 5, copy := some (3, { desc := 5, idx := 0, tag := 3 }), stage := 15, route := { ended := true } })).setTx 0 (some { queue := 3, entry := { desc := 5, idx := 0, tag := 3 }, charge := 0 })), 5, (3, { desc := 5, idx := 0, tag := 3 }), { queue := 3, entry := { desc := 5, idx := 0, tag := 3 }, charge := 0 }, by decide⟩

/-- The premises of StagesExecute, part 9, hold somewhere. -/
theorem witness_StagesExecute_9 : ∃ (i : Nat) (k : Packet) (ev : StageEvent) (s : State), (s.packet i = some k) ∧ (k.route.kat = true) ∧ (k.shadowed = false) ∧ (ev.digestBad = false) ∧ (k.stage + 1 = passStages k.pass) ∧ (ev.checkFails = false) ∧ (ev.corrected = 0) ∧ (ev.rowFixed = none) ∧ (ev.rowBad = none) ∧ (s.fc.injNext = none) :=
  ⟨0, { pass := .ingress, span := 0, pipe := 0, group := 0, origin := .kat, desc := none, copy := none, route := { kat := true, ended := true }, stage := 23 }, { checkFails := false, corrected := 0, rowFixed := none, mismatch := false, digestBad := false }, (State.reset.setPacket 0 (some { pass := .ingress, span := 0, pipe := 0, group := 0, origin := .kat, desc := none, copy := none, route := { kat := true, ended := true }, stage := 23 })), by decide⟩

/-- The premises of StagesExecute, part 10, hold somewhere. -/
theorem witness_StagesExecute_10 : ∃ (i : Nat) (k : Packet) (ev : StageEvent) (s : State), (s.packet i = some k) ∧ ((k.route.ended || k.route.drop || k.route.recircReq) = true) ∧ (k.stage + 1 < passStages k.pass) ∧ (ev.checkFails = false) ∧ (ev.corrected ≠ 0) ∧ (ev.rowFixed = none) ∧ (ev.rowBad = none) ∧ (s.fc.injNext = none) :=
  ⟨0, { pass := .ingress, span := 0, pipe := 0, group := 0, origin := .arrival, desc := some 5, copy := none, route := { ended := true } }, { checkFails := false, corrected := 2, rowFixed := none, mismatch := false, digestBad := false }, (State.reset.setPacket 0 (some { pass := .ingress, span := 0, pipe := 0, group := 0, origin := .arrival, desc := some 5, copy := none, route := { ended := true } })), by decide⟩

/-- The premises of StagesExecute, part 11, hold somewhere. -/
theorem witness_StagesExecute_11 : ∃ (i : Nat) (k : Packet) (ev : StageEvent) (s : State), (s.packet i = some k) ∧ (k.stage < passStages k.pass) ∧ (ev.checkFails = true) ∧ (ev.corrected = 0) ∧ (ev.rowFixed = none) ∧ (ev.rowBad = none) ∧ (s.fc.injNext = none) ∧ (k.route.kat = false) ∧ (k.shadowed = false) ∧ (k.failedAt = none) :=
  ⟨0, { pass := .ingress, span := 0, pipe := 0, group := 0, origin := .arrival, desc := some 5, copy := none }, { checkFails := true, corrected := 0, rowFixed := none, mismatch := false, digestBad := false }, (State.reset.setPacket 0 (some { pass := .ingress, span := 0, pipe := 0, group := 0, origin := .arrival, desc := some 5, copy := none })), by decide⟩

/-- The premises of StagesExecute, part 12, hold somewhere. -/
theorem witness_StagesExecute_12 : ∃ (i : Nat) (k : Packet) (ev : StageEvent) (s : State), (s.packet i = some k) ∧ (k.span < 16) ∧ (k.pipe < 5) ∧ (k.stage < passStages k.pass) ∧ (ev.checkFails = true) ∧ (ev.corrected = 0) ∧ (ev.rowFixed = none) ∧ (ev.rowBad = none) ∧ (s.fc.injNext = none) ∧ (k.route.kat = false) ∧ (k.failedAt.isSome = true) ∧ (s.chip.lockColl.phase = .paired) ∧ (s.chip.mode ≠ .safe) :=
  ⟨0, { pass := .ingress, span := 0, pipe := 0, group := 0, origin := .arrival, desc := some 5, copy := none, failedAt := some 2 }, { checkFails := true, corrected := 0, rowFixed := none, mismatch := false, digestBad := false }, (State.reset.setPacket 0 (some { pass := .ingress, span := 0, pipe := 0, group := 0, origin := .arrival, desc := some 5, copy := none, failedAt := some 2 })), by decide⟩

/-- The premises of StagesExecute, part 13, hold somewhere. -/
theorem witness_StagesExecute_13 : ∃ (i : Nat) (ev : StageEvent) (s : State), ((s.packet i).all (fun k => decide (passStages k.pass ≤ k.stage)) = true) :=
  ⟨0, { checkFails := false, corrected := 0, rowFixed := none, mismatch := false, digestBad := false }, State.reset, by decide⟩

/-- The premises of ResultsLeaveInOrder, part 1, hold somewhere. -/
theorem witness_ResultsLeaveInOrder_1 : ∃ (p : Port) (tc : TrafficClass) (s : State) (r : Word), ((List.range (s.order (p * 16 + tc)).held.length).find? (fun i => (s.order (p * 16 + tc)).isDup i) = none) ∧ ((s.order (p * 16 + tc)).held.find? (fun h => h.1 = (s.order (p * 16 + tc)).release) = some (r, .void)) :=
  ⟨0, 0, State.reset.setOrder 0 { held := [(0, .void)] }, 0, by decide⟩

/-- The premises of ResultsLeaveInOrder, part 2, hold somewhere. -/
theorem witness_ResultsLeaveInOrder_2 : ∃ (p : Port) (tc : TrafficClass) (s : State) (i : Nat), ((List.range (s.order (p * 16 + tc)).held.length).find? (fun i => (s.order (p * 16 + tc)).isDup i) = some i) :=
  ⟨0, 0, State.reset.setOrder 0 { release := 3, held := [(2, .result { port := 0, tc := 0, seq := 2, desc := 5, pipe := 0, drop := false, reason := 0, md6 := 0x4000, md7 := 0, bridge := [], egOp := 7, requests := [], after := false })] }, 0, by decide⟩

/-- The premises of ResultsLeaveInOrder, part 3, hold somewhere. -/
theorem witness_ResultsLeaveInOrder_3 : ∃ (p : Port) (tc : TrafficClass) (s : State) (q : Word) (r : Result), ((List.range (s.order (p * 16 + tc)).held.length).find? (fun i => (s.order (p * 16 + tc)).isDup i) = none) ∧ ((s.order (p * 16 + tc)).held.find? (fun h => h.1 = (s.order (p * 16 + tc)).release) = some (q, .result r)) ∧ (s.releasable r = true) :=
  ⟨0, 0, ((((({ State.reset with chip := { State.reset.chip with mode := .service, hold := [] } } : State).setLink 7 { alloc := true, refcnt := 1, owner := holderArrival 0, last := true }).setDesc 5 { alloc := true, cells := 1, first := 7, last := 7 }).setInfo 5 { ended := true, good := true }).setOrder 0 { release := 3, held := [(3, .result { port := 0, tc := 0, seq := 3, desc := 5, pipe := 0, drop := false, reason := 0, md6 := 0x4000, md7 := 0, bridge := [], egOp := 7, requests := [], after := false })] }), 3, { port := 0, tc := 0, seq := 3, desc := 5, pipe := 0, drop := false, reason := 0, md6 := 0x4000, md7 := 0, bridge := [], egOp := 7, requests := [], after := false }, by decide⟩

/-- The premises of ResultsLeaveInOrder, part 4, hold somewhere. -/
theorem witness_ResultsLeaveInOrder_4 : ∃ (p : Port) (tc : TrafficClass) (s : State) (q : Word) (r : Result), ((List.range (s.order (p * 16 + tc)).held.length).find? (fun i => (s.order (p * 16 + tc)).isDup i) = none) ∧ ((s.order (p * 16 + tc)).held.find? (fun h => h.1 = (s.order (p * 16 + tc)).release) = some (q, .result r)) ∧ (s.releasable r = true) ∧ (r.drop = false) ∧ (r.mc = false) ∧ (r.requests = []) ∧ ((s.desc r.desc).nextIndex < 255) ∧ ((s.desc r.desc).alloc = true) ∧ ((s.desc r.desc).quar = false) ∧ ((s.desc r.desc).cells = 1) ∧ ((s.link (s.desc r.desc).first).alloc = true) ∧ ((s.link (s.desc r.desc).first).refcnt = 1) ∧ ((s.link (s.desc r.desc).first).owner = (s.info r.desc).arrivalHolder) ∧ ((s.link (s.desc r.desc).first).last = true) ∧ (s.bufferPaused = false) ∧ (s.fabricPort (r.queue / 16) = false) ∧ ((s.desc r.desc).len ≤ s.mtu (r.queue / 16)) ∧ (s.viaduct (r.queue / 16) = false) ∧ (s.egr.expired.contains (r.queue / 16) = false) :=
  ⟨0, 0, ((((({ State.reset with chip := { State.reset.chip with mode := .service, hold := [] } } : State).setLink 7 { alloc := true, refcnt := 1, owner := holderArrival 0, last := true }).setDesc 5 { alloc := true, cells := 1, first := 7, last := 7 }).setInfo 5 { ended := true, good := true }).setOrder 0 { release := 3, held := [(3, .result { port := 0, tc := 0, seq := 3, desc := 5, pipe := 0, drop := false, reason := 0, md6 := 0x4000, md7 := 0, bridge := [], egOp := 7, requests := [], after := false })] }), 3, { port := 0, tc := 0, seq := 3, desc := 5, pipe := 0, drop := false, reason := 0, md6 := 0x4000, md7 := 0, bridge := [], egOp := 7, requests := [], after := false }, by decide⟩

/-- The premises of ResultsLeaveInOrder, part 6, hold somewhere. -/
theorem witness_ResultsLeaveInOrder_6 : ∃ (p : Port) (tc : TrafficClass) (s : State) (q : Word) (r : Result), ((List.range (s.order (p * 16 + tc)).held.length).find? (fun i => (s.order (p * 16 + tc)).isDup i) = none) ∧ ((s.order (p * 16 + tc)).held.find? (fun h => h.1 = (s.order (p * 16 + tc)).release) = some (q, .result r)) ∧ (s.releasable r = true) ∧ (r.drop = true) ∧ (r.requests = []) ∧ ((s.info r.desc).ring = none) ∧ ((s.info r.desc).ended = true) ∧ (s.bufferPaused = false) ∧ ((s.desc r.desc).alloc = true) ∧ ((s.desc r.desc).quar = false) ∧ ((s.desc r.desc).cells = 1) ∧ ((s.link (s.desc r.desc).first).alloc = true) ∧ ((s.link (s.desc r.desc).first).refcnt = 1) ∧ ((s.link (s.desc r.desc).first).owner = (s.info r.desc).arrivalHolder) :=
  ⟨0, 0, ((((({ State.reset with chip := { State.reset.chip with mode := .service, hold := [] } } : State).setLink 7 { alloc := true, refcnt := 1, owner := holderArrival 0, last := true }).setDesc 5 { alloc := true, cells := 1, first := 7, last := 7 }).setInfo 5 { ended := true, good := true }).setOrder 0 { release := 3, held := [(3, .result { port := 0, tc := 0, seq := 3, desc := 5, pipe := 0, drop := true, reason := 0, md6 := 0x4000, md7 := 0, bridge := [], egOp := 7, requests := [], after := false })] }), 3, { port := 0, tc := 0, seq := 3, desc := 5, pipe := 0, drop := true, reason := 0, md6 := 0x4000, md7 := 0, bridge := [], egOp := 7, requests := [], after := false }, by decide⟩

/-- The premises of ResultsLeaveInOrder, part 7, hold somewhere. -/
theorem witness_ResultsLeaveInOrder_7 : ∃ (p : Port) (tc : TrafficClass) (s : State), ((List.range (s.order (p * 16 + tc)).held.length).find? (fun i => (s.order (p * 16 + tc)).isDup i) = none) ∧ ((s.order (p * 16 + tc)).held.find? (fun h => h.1 = (s.order (p * 16 + tc)).release) = none) :=
  ⟨0, 0, State.reset, by decide⟩

/-- The premises of ResultsLeaveInOrder, part 8, hold somewhere. -/
theorem witness_ResultsLeaveInOrder_8 : ∃ (p : Port) (tc : TrafficClass) (s : State) (q : Word) (r : Result), ((List.range (s.order (p * 16 + tc)).held.length).find? (fun i => (s.order (p * 16 + tc)).isDup i) = none) ∧ ((s.order (p * 16 + tc)).held.find? (fun h => h.1 = (s.order (p * 16 + tc)).release) = some (q, .result r)) ∧ (s.releasable r = false) :=
  ⟨0, 0, ({ State.reset with chip := { State.reset.chip with mode := .service, hold := [] } } : State).setOrder 0 { release := 3, held := [(3, .result { port := 0, tc := 0, seq := 3, desc := 5, pipe := 0, drop := false, reason := 0, md6 := 0x4000, md7 := 0, bridge := [], egOp := 7, requests := [], after := false })] }, 3, { port := 0, tc := 0, seq := 3, desc := 5, pipe := 0, drop := false, reason := 0, md6 := 0x4000, md7 := 0, bridge := [], egOp := 7, requests := [], after := false }, by decide⟩

/-- The premises of HoldersMove, part 1, hold somewhere. -/
theorem witness_HoldersMove_1 : ∃ (d : DescId) (h : Holder) (add : List Holder) (g : Option (Fin 32768)) (w : WalkCheck) (s : State), (w ≠ .descBad) ∧ (badLink w = none) ∧ (holderKind h ≠ 3) ∧ (s.bufferPaused = false) ∧ ((s.desc d).alloc = true) ∧ ((s.desc d).quar = false) ∧ ((s.desc d).cells ≠ 0) ∧ ((s.cellsOf d).Nodup) ∧ (∀ c ∈ s.cellsOf d, (s.link c).alloc = true ∧ (s.link c).refcnt = (s.link (s.desc d).first).refcnt ∧ (s.link c).owner = (s.link (s.desc d).first).owner ∧ ((s.link c).last = true → some c = (s.cellsOf d).getLast?)) ∧ ((s.link (s.desc d).first).refcnt ≠ 0) ∧ ((s.link (s.desc d).first).refcnt + add.length ≤ 256) ∧ ((s.link (s.desc d).first).refcnt ≠ 1 ∨ (s.link (s.desc d).first).owner = h) ∧ ((s.link (s.desc d).first).refcnt + add.length ≠ 1) :=
  ⟨5, 1, [2], none, .descSingle, ((State.reset.setDesc 5 { alloc := true, cells := 1, first := 7, last := 7 }).setLink 7 { alloc := true, refcnt := 2, owner := 3, last := true }), by decide⟩

/-- The premises of HoldersMove, part 2, hold somewhere. -/
theorem witness_HoldersMove_2 : ∃ (d : DescId) (h : Holder) (add : List Holder) (g : Option (Fin 32768)) (w : WalkCheck) (s : State), (w ≠ .descBad) ∧ (badLink w = none) ∧ (holderKind h = 3) ∧ (s.bufferPaused = false) ∧ ((s.desc d).alloc = true) ∧ ((s.desc d).quar = false) ∧ ((s.desc d).cells ≠ 0) ∧ ((s.cellsOf d).Nodup) ∧ (∀ c ∈ s.cellsOf d, (s.link c).alloc = true ∧ (s.link c).refcnt = (s.link (s.desc d).first).refcnt ∧ (s.link c).owner = (s.link (s.desc d).first).owner ∧ ((s.link c).last = true → some c = (s.cellsOf d).getLast?)) ∧ ((s.link (s.desc d).first).refcnt ≠ 0) ∧ ((s.link (s.desc d).first).refcnt + add.length ≤ 256) ∧ ((s.link (s.desc d).first).refcnt ≠ 1 ∨ (s.link (s.desc d).first).owner = h) ∧ ((s.link (s.desc d).first).refcnt + add.length ≠ 1) :=
  ⟨5, holderArrival 0, [holderQueue 35 0], none, .good, ((State.reset.setDesc 5 { alloc := true, cells := 1, first := 7, last := 7 }).setLink 7 { alloc := true, refcnt := 1, owner := holderArrival 0, last := true }), by decide⟩

/-- The premises of HoldersMove, part 3, hold somewhere. -/
theorem witness_HoldersMove_3 : ∃ (d : DescId) (h : Holder) (w : WalkCheck) (s : State), (w ≠ .descBad) ∧ (badLink w = none) ∧ (s.bufferPaused = false) ∧ ((s.desc d).alloc = true) ∧ ((s.desc d).quar = false) ∧ ((s.desc d).cells ≠ 0) ∧ ((s.cellsOf d).Nodup) ∧ (∀ c ∈ s.cellsOf d, (s.link c).alloc = true ∧ (s.link c).refcnt = (s.link (s.desc d).first).refcnt ∧ (s.link c).owner = (s.link (s.desc d).first).owner ∧ ((s.link c).last = true → some c = (s.cellsOf d).getLast?)) ∧ (2 ≤ (s.link (s.desc d).first).refcnt) ∧ ((s.link (s.desc d).first).refcnt ≤ 256) :=
  ⟨5, 1, .linkSingle 0, ((State.reset.setDesc 5 { alloc := true, cells := 1, first := 7, last := 7 }).setLink 7 { alloc := true, refcnt := 2, owner := 3, last := true }), by decide⟩

/-- The premises of HoldersMove, part 4, hold somewhere. -/
theorem witness_HoldersMove_4 : ∃ (d : DescId) (h : Holder) (w : WalkCheck) (s : State), (w ≠ .descBad) ∧ (badLink w = none) ∧ (s.bufferPaused = false) ∧ ((s.desc d).alloc = true) ∧ ((s.desc d).quar = false) ∧ ((s.desc d).cells ≠ 0) ∧ ((s.cellsOf d).Nodup) ∧ (∀ c ∈ s.cellsOf d, (s.link c).alloc = true ∧ (s.link c).refcnt = (s.link (s.desc d).first).refcnt ∧ (s.link c).owner = (s.link (s.desc d).first).owner ∧ ((s.link c).last = true → some c = (s.cellsOf d).getLast?)) ∧ ((s.info d).ended = true) ∧ ((s.link (s.desc d).first).refcnt = 1) ∧ ((s.link (s.desc d).first).owner = h) :=
  ⟨5, 3, .good, (((State.reset.setDesc 5 { alloc := true, cells := 1, first := 7, last := 7 }).setLink 7 { alloc := true, refcnt := 1, owner := 3, last := true }).setInfo 5 { ended := true }), by decide⟩

/-- The premises of HoldersMove, part 5, hold somewhere. -/
theorem witness_HoldersMove_5 : ∃ (d : DescId) (h : Holder) (w : WalkCheck) (s : State), (w ≠ .descBad) ∧ (badLink w = none) ∧ (s.bufferPaused = false) ∧ ((s.desc d).alloc = true) ∧ ((s.desc d).quar = false) ∧ ((s.desc d).cells ≠ 0) ∧ ((s.cellsOf d).Nodup) ∧ (∀ c ∈ s.cellsOf d, (s.link c).alloc = true ∧ (s.link c).refcnt = (s.link (s.desc d).first).refcnt ∧ (s.link c).owner = (s.link (s.desc d).first).owner ∧ ((s.link c).last = true → some c = (s.cellsOf d).getLast?)) ∧ ((s.info d).ended = false) ∧ ((s.link (s.desc d).first).refcnt = 1) ∧ ((s.link (s.desc d).first).owner = h) :=
  ⟨5, 3, .good, ((State.reset.setDesc 5 { alloc := true, cells := 1, first := 7, last := 7 }).setLink 7 { alloc := true, refcnt := 1, owner := 3, last := true }), by decide⟩

/-- The premises of HoldersMove, part 6, hold somewhere. -/
theorem witness_HoldersMove_6 : ∃ (d : DescId) (h : Holder) (add : List Holder) (g : Option (Fin 32768)) (w : WalkCheck) (s : State), (s.bufferPaused = true) :=
  ⟨5, 3, [], none, .good, State.reset.setLock .bufferPool { phase := .checking }, by decide⟩

/-- The premises of WrongHoldersAreCaught, part 1, hold somewhere. -/
theorem witness_WrongHoldersAreCaught_1 : ∃ (d : DescId) (h : Holder) (add : List Holder) (g : Option (Fin 32768)) (s : State) (kind : Nat), (s.bufferPaused = false) ∧ ((s.desc d).alloc = true) ∧ ((s.desc d).quar = false) ∧ ((kind = 2 ∧ (s.link (s.desc d).first).alloc = false) ∨ (kind = 3 ∧ (s.link (s.desc d).first).alloc = true ∧ 256 < (s.link (s.desc d).first).refcnt + add.length) ∨
        (kind = 1 ∧ (s.link (s.desc d).first).alloc = true ∧ (s.link (s.desc d).first).refcnt = 1 ∧ (s.link (s.desc d).first).owner ≠ h ∧ add.length < 256)) :=
  ⟨5, 1, [], none, ((State.reset.setDesc 5 { alloc := true, cells := 1, first := 7, last := 7 }).setLink 7 { alloc := true, refcnt := 1, owner := 3, last := true }), 1, by decide⟩

/-- The premises of WrongHoldersAreCaught, part 2, hold somewhere. -/
theorem witness_WrongHoldersAreCaught_2 : ∃ (d : DescId) (h : Holder) (s : State) (kind : Nat), (s.bufferPaused = false) ∧ ((s.desc d).alloc = true) ∧ ((s.desc d).quar = false) ∧ ((kind = 2 ∧ (s.link (s.desc d).first).alloc = false) ∨ (kind = 3 ∧ (s.link (s.desc d).first).alloc = true ∧ 256 < (s.link (s.desc d).first).refcnt) ∨
        (kind = 1 ∧ (s.link (s.desc d).first).alloc = true ∧ (s.link (s.desc d).first).refcnt = 1 ∧ (s.link (s.desc d).first).owner ≠ h)) :=
  ⟨5, 1, ((State.reset.setDesc 5 { alloc := true, cells := 1, first := 7, last := 7 }).setLink 7 { alloc := true, refcnt := 1, owner := 3, last := true }), 1, by decide⟩

/-- The premises of WrongHoldersAreCaught, part 3, hold somewhere. -/
theorem witness_WrongHoldersAreCaught_3 : ∃ (d : DescId) (h : Holder) (s : State), (s.bufferPaused = false) ∧ ((s.desc d).alloc = false) :=
  ⟨5, 1, State.reset, by decide⟩

/-- The premises of WrongHoldersAreCaught, part 4, hold somewhere. -/
theorem witness_WrongHoldersAreCaught_4 : ∃ (d : DescId) (i : Fin 64) (h : Holder) (wrong : List (Fin 256 × Byte)) (s : State), (i.val < (s.desc d).cells) ∧ (s.fc.injNext = none) ∧ (s.guardFails d ((s.cellsOf d).getD i.val 0) (s.readerDest d h) (readBytes (s.cellBytes ((s.cellsOf d).getD i.val 0) ((s.link ((s.cellsOf d).getD i.val 0)).fill + 1)) wrong) = false) :=
  ⟨5, 0, holderMirror 1 0, [], ((State.reset.setDesc 5 { alloc := true, cells := 1, first := 7, last := 7 }).setLink 7 { alloc := true, last := true, fill := 0, guard := crc32c [0] ^^^ guardFold 7 0 0 }), by decide⟩

/-- The premises of WrongHoldersAreCaught, part 5, hold somewhere. -/
theorem witness_WrongHoldersAreCaught_5 : ∃ (d : DescId) (i : Fin 64) (h : Holder) (wrong : List (Fin 256 × Byte)) (s : State), ((s.desc d).alloc = true) ∧ ((s.desc d).quar = false) ∧ (i.val < (s.desc d).cells) ∧ (s.fc.injNext = none) ∧ (s.guardFails d ((s.cellsOf d).getD i.val 0) (s.readerDest d h) (readBytes (s.cellBytes ((s.cellsOf d).getD i.val 0) ((s.link ((s.cellsOf d).getD i.val 0)).fill + 1)) wrong) = false) :=
  ⟨5, 0, holderMirror 1 0, [], ((State.reset.setDesc 5 { alloc := true, cells := 1, first := 7, last := 7 }).setLink 7 { alloc := true, last := true, fill := 0, guard := crc32c [0] ^^^ guardFold 7 0 0 }), by decide⟩

/-- The premises of WrongHoldersAreCaught, part 6, hold somewhere. -/
theorem witness_WrongHoldersAreCaught_6 : ∃ (d : DescId) (i : Fin 64) (h : Holder) (wrong : List (Fin 256 × Byte)) (s : State), ((s.desc d).alloc = true) ∧ ((s.desc d).quar = false) ∧ (i.val < (s.desc d).cells) ∧ (s.fc.injNext = none) ∧ (s.guardFails d ((s.cellsOf d).getD i.val 0) (s.readerDest d h) (readBytes (s.cellBytes ((s.cellsOf d).getD i.val 0) ((s.link ((s.cellsOf d).getD i.val 0)).fill + 1)) wrong) = true) :=
  ⟨5, 0, holderMirror 1 0, [], State.reset.setDesc 5 { alloc := true, cells := 1 }, by decide⟩

/-- The premises of WrongHoldersAreCaught, part 7, hold somewhere. -/
theorem witness_WrongHoldersAreCaught_7 : ∃ (d : DescId) (i : Fin 64) (h : Holder) (wrong : List (Fin 256 × Byte)) (s : State), ((s.desc d).alloc = true) ∧ ((s.desc d).quar = false) ∧ (i.val < (s.desc d).cells) ∧ (s.fc.injNext = none) ∧ (s.guardFails d ((s.cellsOf d).getD i.val 0) (s.readerDest d h) (readBytes (s.cellBytes ((s.cellsOf d).getD i.val 0) ((s.link ((s.cellsOf d).getD i.val 0)).fill + 1)) wrong) = true) ∧ (s.buf.misdirect.any (fun m => decide (s.now ≤ m + 1000000000)) = true) ∧ (s.chip.lockColl.phase = .paired) ∧ (s.chip.mode ≠ .off) :=
  ⟨5, 0, holderMirror 1 0, [], (let s := State.reset.setDesc 5 { alloc := true, cells := 1 }; { s with buf := { s.buf with misdirect := some 0 } }), by decide⟩

/-- The premises of WrongHoldersAreCaught, part 8, hold somewhere. -/
theorem witness_WrongHoldersAreCaught_8 : ∃ (d : DescId) (i : Fin 64) (h : Holder) (wrong : List (Fin 256 × Byte)) (s : State), ((s.desc d).alloc = true) ∧ ((s.desc d).quar = false) ∧ (i.val < (s.desc d).cells) ∧ (s.fc.injNext = none) ∧ (s.guardFails d ((s.cellsOf d).getD i.val 0) (s.readerDest d h) (readBytes (s.cellBytes ((s.cellsOf d).getD i.val 0) ((s.link ((s.cellsOf d).getD i.val 0)).fill + 1)) wrong) = true) :=
  ⟨5, 0, holderMirror 1 0, [], State.reset.setDesc 5 { alloc := true, cells := 1 }, by decide⟩

/-- The premises of LimitsAndAudits, part 1, hold somewhere. -/
theorem witness_LimitsAndAudits_1 : ∃ (s : State), (s.closed 0x800000 = false) ∧ (s.rwlOpen = true) ∧ (s.chip.lockPool.phase = .paired) ∧ (s.commitCause = 0) :=
  ⟨State.reset.setReg 0x800008 0x01000100, by decide⟩

/-- The premises of LimitsAndAudits, part 2, hold somewhere. -/
theorem witness_LimitsAndAudits_2 : ∃ (s : State), (s.closed 0x800000 = false) ∧ (s.rwlOpen = true) ∧ (s.chip.lockPool.phase = .paired) ∧ (s.commitCause ≠ 0) :=
  ⟨State.reset.setReg 0x800008 0x00010100, by decide⟩

/-- The premises of LimitsAndAudits, part 3, hold somewhere. -/
theorem witness_LimitsAndAudits_3 : ∃ (s : State), (s.closed 0x800000 = false) ∧ (s.rwlOpen = false) :=
  ⟨{ State.reset with chip := { State.reset.chip with mode := .service } }, by decide⟩

/-- The premises of LimitsAndAudits, part 4, hold somewhere. -/
theorem witness_LimitsAndAudits_4 : ∃ (s : State) (e : FlogEntry) (rest : List FlogEntry), (s.closed 0x800020 = false) ∧ (s.buf.flog = e :: rest) :=
  ⟨{ State.reset with buf := { State.reset.buf with flog := [{ kind := 1, id := 5, holder := 3 }] } }, { kind := 1, id := 5, holder := 3 }, [], by decide⟩

/-- The premises of LimitsAndAudits, part 5, hold somewhere. -/
theorem witness_LimitsAndAudits_5 : ∃ (s : State), (s.closed 0x800020 = false) ∧ (s.buf.flog = []) :=
  ⟨State.reset, by decide⟩

/-- The premises of LimitsAndAudits, part 6, hold somewhere. -/
theorem witness_LimitsAndAudits_6 : ∃ (v : Word) (s : State), (s.bufferPaused = false) ∧ (getBits v 31 31 = 1) ∧ ((s.desc (getBits v 20 0)).alloc = true) ∧ ((s.desc (getBits v 20 0)).quar = true) :=
  ⟨0x80000005, State.reset.setDesc 5 { alloc := true, quar := true }, by decide⟩

/-- The premises of LimitsAndAudits, part 7, hold somewhere. -/
theorem witness_LimitsAndAudits_7 : ∃ (v : Word) (s : State), (s.bufferPaused = false) ∧ (getBits v 31 31 = 0) ∧ ((s.link (getBits v 20 0)).alloc = true) :=
  ⟨5, State.reset.setLink 5 { alloc := true }, by decide⟩

/-- The premises of LimitsAndAudits, part 8, hold somewhere. -/
theorem witness_LimitsAndAudits_8 : ∃ (v : Word) (s : State), (s.closed 0x800028 = false) :=
  ⟨5, State.reset, by decide⟩

/-- The premises of LimitsAndAudits, part 9, hold somewhere. -/
theorem witness_LimitsAndAudits_9 : ∃ (v : Word) (s : State), (s.bufferPaused = true ∨ (getBits v 31 31 = 1 ∧ (s.desc (getBits v 20 0)).alloc = true ∧ (s.desc (getBits v 20 0)).quar = false) ∨ (getBits v 31 31 ≠ 1 ∧ (s.link (getBits v 20 0)).alloc = false)) :=
  ⟨5, State.reset, by decide⟩

/-- The premises of LimitsAndAudits, part 10, hold somewhere. -/
theorem witness_LimitsAndAudits_10 : ∃ (s : State), (s.closed 0x800000 = false) ∧ (s.rwlOpen = true) ∧ (s.chip.lockPool.phase ≠ .paired) :=
  ⟨State.reset.setLock .bufferPool { phase := .checking }, by decide⟩

/-- The premises of LimitsAndAudits, part 11, hold somewhere. -/
theorem witness_LimitsAndAudits_11 : ∃ (s : State), (Tbl.wf resetWord s.regs = true) :=
  ⟨State.reset, by decide⟩

/-- The premises of CopiesAreSelectedAndSent, part 1, hold somewhere. -/
theorem witness_CopiesAreSelectedAndSent_1 : ∃ (p : Port) (s u : State) (q : Nat) (e : QEntry), (s.nextPort (portGroup p) = some p.val) ∧ (s.nextResend p = none) ∧ (s.pickQueue p = some (u, q)) ∧ (u.headEntry q = some e) ∧ (e.msg = []) :=
  ⟨0, (((({ State.reset with chip := { State.reset.chip with mode := .service, hold := [] } } : State).setBit 0x2000000 31 true).setBit 0x2000004 24 true).setQueue 3 [{ desc := 5, idx := 0, tag := 3 }]), (((((({ State.reset with chip := { State.reset.chip with mode := .service, hold := [] } } : State).setBit 0x2000000 31 true).setBit 0x2000004 24 true).setQueue 3 [{ desc := 5, idx := 0, tag := 3 }]).pickQueue 0).get (by decide +kernel)).1, (((((({ State.reset with chip := { State.reset.chip with mode := .service, hold := [] } } : State).setBit 0x2000000 31 true).setBit 0x2000004 24 true).setQueue 3 [{ desc := 5, idx := 0, tag := 3 }]).pickQueue 0).get (by decide +kernel)).2, { desc := 5, idx := 0, tag := 3 }, by exact ⟨by decide +kernel, by decide +kernel, eq_some_pair _ _, by decide +kernel, by decide⟩⟩

/-- The premises of CopiesAreSelectedAndSent, part 2, hold somewhere. -/
theorem witness_CopiesAreSelectedAndSent_2 : ∃ (p : Port) (s : State) (r : RetryEntry), (s.nextPort (portGroup p) = some p.val) ∧ (s.nextResend p = some r) ∧ ((s.checkGuards r.entry.desc (s.desc r.entry.desc).dest (holderRetry p r.entry.idx)).2 = true) :=
  ⟨0, (((({ State.reset with chip := { State.reset.chip with mode := .service, hold := [] } } : State).setBit 0x2000000 31 true).setBit 0x2000004 24 true).setBit 0xC01000 31 true).setVia 0 { up := true, next := 5, una := 4, resend := 4, retransmit := true, retry := [{ seq := 4, queue := 3, entry := { desc := 5, idx := 0, tag := 3 }, bytes := [1, 2] }] }, { seq := 4, queue := 3, entry := { desc := 5, idx := 0, tag := 3 }, bytes := [1, 2] }, by decide⟩

/-- The premises of CopiesAreSelectedAndSent, part 3, hold somewhere. -/
theorem witness_CopiesAreSelectedAndSent_3 : ∃ (p : Port) (s u : State) (q dev v : Nat), (s.nextPort (portGroup p) = some p.val) ∧ (s.nextResend p = none) ∧ (s.pickQueue p = some (u, q)) ∧ (u.headEntry q = none) ∧ (u.pendingGrant q = some (dev, v)) :=
  ⟨0, ({ (((({ State.reset with chip := { State.reset.chip with mode := .service, hold := [] } } : State).setBit 0x2000000 31 true).setBit 0x2000004 24 true).setReg 0x880000 0x80000000) with cmp := { State.reset.cmp with pending := [(65536, 5)] } }), ((({ (((({ State.reset with chip := { State.reset.chip with mode := .service, hold := [] } } : State).setBit 0x2000000 31 true).setBit 0x2000004 24 true).setReg 0x880000 0x80000000) with cmp := { State.reset.cmp with pending := [(65536, 5)] } } : State).pickQueue 0).get (by decide +kernel)).1, ((({ (((({ State.reset with chip := { State.reset.chip with mode := .service, hold := [] } } : State).setBit 0x2000000 31 true).setBit 0x2000004 24 true).setReg 0x880000 0x80000000) with cmp := { State.reset.cmp with pending := [(65536, 5)] } } : State).pickQueue 0).get (by decide +kernel)).2, 1, 0, by exact ⟨by decide +kernel, by decide +kernel, eq_some_pair _ _, by decide +kernel, by decide +kernel⟩⟩

/-- The premises of CopiesAreSelectedAndSent, part 4, hold somewhere. -/
theorem witness_CopiesAreSelectedAndSent_4 : ∃ (p : Port) (s : State), (s.nextPort (portGroup p) ≠ some p.val) :=
  ⟨0, State.reset, by decide⟩

/-- The premises of CopiesAreSelectedAndSent, part 5, hold somewhere. -/
theorem witness_CopiesAreSelectedAndSent_5 : ∃ (p : Port) (s : State) (x : TxCopy) (k : Packet), (s.tx p = some x) ∧ (x.started = false) ∧ (x.resend = false) ∧ (x.entry.msg = []) ∧ (x.ready = some k) ∧ (x.viaSeq = none) ∧ (s.linkUp p = true) ∧ (s.chip.mode ≠ .safe) ∧ (s.sendsIdle p = false) ∧ ((s.checkGuards x.entry.desc x.entry.tag (holderQueue x.queue x.entry.idx)).2 = true) ∧ ((s.viaduct p && (s.desc x.entry.desc).lossless) = false) :=
  ⟨0, ((({ State.reset with chip := { State.reset.chip with mode := .service, hold := [] } } : State).setBit 0x2000000 31 true).setBit 0x2000004 24 true).setTx 0 (some { queue := 3, entry := { desc := 5, idx := 0, tag := 3 }, charge := 0, ready := some { pass := .egress, span := 0, pipe := 0, group := 0, origin := .copy, desc := some 5, copy := some (3, { desc := 5, idx := 0, tag := 3 }) } }), { queue := 3, entry := { desc := 5, idx := 0, tag := 3 }, charge := 0, ready := some { pass := .egress, span := 0, pipe := 0, group := 0, origin := .copy, desc := some 5, copy := some (3, { desc := 5, idx := 0, tag := 3 }) } }, { pass := .egress, span := 0, pipe := 0, group := 0, origin := .copy, desc := some 5, copy := some (3, { desc := 5, idx := 0, tag := 3 }) }, by decide⟩

/-- The premises of CopiesAreSelectedAndSent, part 6, hold somewhere. -/
theorem witness_CopiesAreSelectedAndSent_6 : ∃ (p : Port) (s : State) (x : TxCopy) (k : Packet), (s.tx p = some x) ∧ (x.started = false) ∧ (x.resend = false) ∧ (x.entry.msg = []) ∧ (x.ready = some k) ∧ (s.linkUp p = true) ∧ (s.chip.mode ≠ .safe) ∧ (s.sendsIdle p = false) ∧ ((s.checkGuards x.entry.desc x.entry.tag (holderQueue x.queue x.entry.idx)).2 = true) ∧ ((s.viaduct p && (s.desc x.entry.desc).lossless) = true) ∧ (s.viaCovers p (s.txHop x.entry.desc) ((s.copyBytes k { x with tsOut := s.tb0Ns, stamp := s.stamp, cellsUsed := 2097152 - s.freeCells }).1).length = true) :=
  ⟨0, ((((((((({ State.reset with chip := { State.reset.chip with mode := .service, hold := [] } } : State).setBit 0x2000000 31 true).setBit 0x2000004 24 true).setDesc 5 { alloc := true, cells := 1, first := 7, last := 7, dest := 3 }).setLink 7 { alloc := true, refcnt := 2, owner := 9, last := true, guard := crc32c [0] ^^^ guardFold 7 3 0 }).setInfo 5 { ended := true, good := true }).setDesc 5 { alloc := true, cells := 1, first := 7, last := 7, dest := 3, lossless := true }).setReg 0xC01000 0x80000000).setVia 0 { up := true, next := 5, una := 5, granted := { h0 := 100, h1 := 100, h2 := 100, h3 := 100 } }).setTx 0 (some { queue := 3, entry := { desc := 5, idx := 0, tag := 3 }, charge := 0, ready := some { pass := .egress, span := 0, pipe := 0, group := 0, origin := .copy, desc := some 5, copy := some (3, { desc := 5, idx := 0, tag := 3 }) } }), { queue := 3, entry := { desc := 5, idx := 0, tag := 3 }, charge := 0, ready := some { pass := .egress, span := 0, pipe := 0, group := 0, origin := .copy, desc := some 5, copy := some (3, { desc := 5, idx := 0, tag := 3 }) } }, { pass := .egress, span := 0, pipe := 0, group := 0, origin := .copy, desc := some 5, copy := some (3, { desc := 5, idx := 0, tag := 3 }) }, by decide⟩

/-- The premises of CopiesAreSelectedAndSent, part 7, hold somewhere. -/
theorem witness_CopiesAreSelectedAndSent_7 : ∃ (p : Port) (s : State), (s.tx p = none ∨ (∃ x, s.tx p = some x ∧ (x.started = true ∨ (x.resend = false ∧ x.entry.msg = [] ∧ x.ready = none))) ∨ s.linkUp p = false ∨ s.chip.mode = .safe ∨ s.sendsIdle p = true) :=
  ⟨0, State.reset, by decide⟩

/-- The premises of CopiesAreSelectedAndSent, part 8, hold somewhere. -/
theorem witness_CopiesAreSelectedAndSent_8 : ∃ (p : Port) (s : State) (x : TxCopy) (k : Packet), (s.tx p = some x) ∧ (x.resend = false) ∧ (x.entry.msg = []) ∧ (x.ready = some k) ∧ ((s.checkGuards x.entry.desc x.entry.tag (holderQueue x.queue x.entry.idx)).2 = true) ∧ ((s.viaduct p && (s.desc x.entry.desc).lossless) = true) ∧ (s.viaCovers p (s.txHop x.entry.desc) ((s.copyBytes k { x with tsOut := s.tb0Ns, stamp := s.stamp, cellsUsed := 2097152 - s.freeCells }).1).length = false) :=
  ⟨0, (((((((({ State.reset with chip := { State.reset.chip with mode := .service, hold := [] } } : State).setBit 0x2000000 31 true).setBit 0x2000004 24 true).setDesc 5 { alloc := true, cells := 1, first := 7, last := 7, dest := 3 }).setLink 7 { alloc := true, refcnt := 2, owner := 9, last := true, guard := crc32c [0] ^^^ guardFold 7 3 0 }).setInfo 5 { ended := true, good := true }).setDesc 5 { alloc := true, cells := 1, first := 7, last := 7, dest := 3, lossless := true }).setReg 0xC01000 0x80000000).setTx 0 (some { queue := 3, entry := { desc := 5, idx := 0, tag := 3 }, charge := 0, ready := some { pass := .egress, span := 0, pipe := 0, group := 0, origin := .copy, desc := some 5, copy := some (3, { desc := 5, idx := 0, tag := 3 }) } }), { queue := 3, entry := { desc := 5, idx := 0, tag := 3 }, charge := 0, ready := some { pass := .egress, span := 0, pipe := 0, group := 0, origin := .copy, desc := some 5, copy := some (3, { desc := 5, idx := 0, tag := 3 }) } }, { pass := .egress, span := 0, pipe := 0, group := 0, origin := .copy, desc := some 5, copy := some (3, { desc := 5, idx := 0, tag := 3 }) }, by decide⟩

/-- The premises of CopiesAreSelectedAndSent, part 9, hold somewhere. -/
theorem witness_CopiesAreSelectedAndSent_9 : ∃ (p : Port) (s : State) (x : TxCopy), (s.tx p = some x) ∧ (x.resend = true) ∧ (s.viaHeld p = true ∨ s.egressMoving p = true ∨ s.resendBytes x = []) :=
  ⟨0, ((({ State.reset with chip := { State.reset.chip with mode := .service, hold := [] } } : State).setBit 0x2000000 31 true).setBit 0x2000004 24 true).setTx 0 (some { queue := 3, entry := { desc := 5, idx := 0, tag := 3 }, charge := 0, resend := true }), { queue := 3, entry := { desc := 5, idx := 0, tag := 3 }, charge := 0, resend := true }, by decide⟩

/-- The premises of CopiesAreSelectedAndSent, part 10, hold somewhere. -/
theorem witness_CopiesAreSelectedAndSent_10 : ∃ (p : Port) (s : State) (x : TxCopy), (s.tx p = some x) ∧ (x.started = false) ∧ (x.resend = true) ∧ (s.viaHeld p = false) ∧ (s.egressMoving p = false) ∧ (s.resendBytes x ≠ []) ∧ (s.linkUp p = true) ∧ (s.chip.mode ≠ .safe) ∧ (s.sendsIdle p = false) :=
  ⟨0, ((({ State.reset with chip := { State.reset.chip with mode := .service, hold := [] } } : State).setBit 0x2000000 31 true).setBit 0x2000004 24 true).setTx 0 (some { queue := 3, entry := { desc := 5, idx := 0, tag := 3 }, charge := 0, resend := true, bytes := [1, 2] }), { queue := 3, entry := { desc := 5, idx := 0, tag := 3 }, charge := 0, resend := true, bytes := [1, 2] }, by decide⟩

/-- The premises of CopiesAreSelectedAndSent, part 11, hold somewhere. -/
theorem witness_CopiesAreSelectedAndSent_11 : ∃ (p : Port) (s : State) (x : TxCopy), (s.tx p = some x) ∧ (x.started = false) ∧ (x.resend = false) ∧ (x.entry.msg ≠ []) ∧ (s.linkUp p = true) ∧ (s.chip.mode ≠ .safe) ∧ (s.sendsIdle p = false) :=
  ⟨0, ((({ State.reset with chip := { State.reset.chip with mode := .service, hold := [] } } : State).setBit 0x2000000 31 true).setBit 0x2000004 24 true).setTx 0 (some { queue := 3, entry := { desc := 5, idx := 0, tag := 3, msg := [1] }, charge := 0 }), { queue := 3, entry := { desc := 5, idx := 0, tag := 3, msg := [1] }, charge := 0 }, by decide⟩

/-- The premises of CopiesAreSelectedAndSent, part 12, hold somewhere. -/
theorem witness_CopiesAreSelectedAndSent_12 : ∃ (p : Port) (s : State) (x : TxCopy) (q : Nat), (s.tx p = some x) ∧ (x.started = true) ∧ (s.bufferPaused = false) ∧ (x.resend = true) ∧ (x.viaSeq = some q) ∧ (q < 2 ^ 24) ∧ ((s.viaLink p).resend = q) ∧ (q ≠ (s.viaLink p).next) ∧ ((s.viaLink p).next < 2 ^ 24) ∧ ((s.viaLink p).una = q) :=
  ⟨0, (State.reset.setTx 0 (some { queue := 3, entry := { desc := 5, idx := 0, tag := 3 }, charge := 0, started := true, resend := true, viaSeq := some 4 })).setVia 0 { up := true, next := 5, una := 4, resend := 4, retransmit := true, retry := [{ seq := 4, queue := 3, entry := { desc := 5, idx := 0, tag := 3 }, bytes := [1, 2] }] }, { queue := 3, entry := { desc := 5, idx := 0, tag := 3 }, charge := 0, started := true, resend := true, viaSeq := some 4 }, 4, by decide⟩

/-- The premises of CopiesAreSelectedAndSent, part 13, hold somewhere. -/
theorem witness_CopiesAreSelectedAndSent_13 : ∃ (p : Port) (s : State) (x : TxCopy), (s.tx p = some x) ∧ (x.started = true) ∧ (s.bufferPaused = false) ∧ (x.resend = true) :=
  ⟨0, (State.reset.setTx 0 (some { queue := 3, entry := { desc := 5, idx := 0, tag := 3 }, charge := 0, started := true, resend := true, viaSeq := some 4 })).setVia 0 { up := true, next := 5, una := 4, resend := 4, retransmit := true, retry := [{ seq := 4, queue := 3, entry := { desc := 5, idx := 0, tag := 3 }, bytes := [1, 2] }] }, { queue := 3, entry := { desc := 5, idx := 0, tag := 3 }, charge := 0, started := true, resend := true, viaSeq := some 4 }, by decide⟩

/-- The premises of CopiesAreSelectedAndSent, part 14, hold somewhere. -/
theorem witness_CopiesAreSelectedAndSent_14 : ∃ (p : Port) (s : State) (x : TxCopy) (k : Packet), (s.tx p = some x) ∧ (x.started = true) ∧ (s.bufferPaused = false) ∧ (x.resend = false) ∧ (x.entry.msg = []) ∧ (x.ready = some k) ∧ ((s.info x.entry.desc).ended = true) ∧ ((s.info x.entry.desc).good = true) ∧ ((s.checkGuards x.entry.desc x.entry.tag (holderQueue x.queue x.entry.idx)).2 = true) :=
  ⟨0, (((((({ State.reset with chip := { State.reset.chip with mode := .service, hold := [] } } : State).setBit 0x2000000 31 true).setBit 0x2000004 24 true).setDesc 5 { alloc := true, cells := 1, first := 7, last := 7, dest := 3 }).setLink 7 { alloc := true, refcnt := 2, owner := 9, last := true, guard := crc32c [0] ^^^ guardFold 7 3 0 }).setInfo 5 { ended := true, good := true }).setTx 0 (some { queue := 3, entry := { desc := 5, idx := 0, tag := 3 }, charge := 0, ready := some { pass := .egress, span := 0, pipe := 0, group := 0, origin := .copy, desc := some 5, copy := some (3, { desc := 5, idx := 0, tag := 3 }) }, started := true }), { queue := 3, entry := { desc := 5, idx := 0, tag := 3 }, charge := 0, ready := some { pass := .egress, span := 0, pipe := 0, group := 0, origin := .copy, desc := some 5, copy := some (3, { desc := 5, idx := 0, tag := 3 }) }, started := true }, { pass := .egress, span := 0, pipe := 0, group := 0, origin := .copy, desc := some 5, copy := some (3, { desc := 5, idx := 0, tag := 3 }) }, by decide⟩

/-- The premises of CopiesAreSelectedAndSent, part 15, hold somewhere. -/
theorem witness_CopiesAreSelectedAndSent_15 : ∃ (p : Port) (s : State) (x : TxCopy) (k : Packet), (s.tx p = some x) ∧ (x.started = true) ∧ (s.bufferPaused = false) ∧ (x.resend = false) ∧ (x.entry.msg = []) ∧ (x.ready = some k) ∧ (x.viaSeq = none) ∧ ((s.info x.entry.desc).ended = true) ∧ ((s.info x.entry.desc).good = true) ∧ ((s.checkGuards x.entry.desc x.entry.tag (holderQueue x.queue x.entry.idx)).2 = true) ∧ ((s.desc x.entry.desc).alloc = true) ∧ ((s.desc x.entry.desc).quar = false) ∧ ((s.desc x.entry.desc).cells = 1) ∧ ((s.link (s.desc x.entry.desc).first).alloc = true) ∧ (2 ≤ (s.link (s.desc x.entry.desc).first).refcnt) ∧ ((s.link (s.desc x.entry.desc).first).refcnt ≤ 256) ∧ ((s.link (s.desc x.entry.desc).first).last = true) :=
  ⟨0, (((((({ State.reset with chip := { State.reset.chip with mode := .service, hold := [] } } : State).setBit 0x2000000 31 true).setBit 0x2000004 24 true).setDesc 5 { alloc := true, cells := 1, first := 7, last := 7, dest := 3 }).setLink 7 { alloc := true, refcnt := 2, owner := 9, last := true, guard := crc32c [0] ^^^ guardFold 7 3 0 }).setInfo 5 { ended := true, good := true }).setTx 0 (some { queue := 3, entry := { desc := 5, idx := 0, tag := 3 }, charge := 0, ready := some { pass := .egress, span := 0, pipe := 0, group := 0, origin := .copy, desc := some 5, copy := some (3, { desc := 5, idx := 0, tag := 3 }) }, started := true }), { queue := 3, entry := { desc := 5, idx := 0, tag := 3 }, charge := 0, ready := some { pass := .egress, span := 0, pipe := 0, group := 0, origin := .copy, desc := some 5, copy := some (3, { desc := 5, idx := 0, tag := 3 }) }, started := true }, { pass := .egress, span := 0, pipe := 0, group := 0, origin := .copy, desc := some 5, copy := some (3, { desc := 5, idx := 0, tag := 3 }) }, by decide⟩

/-- The premises of CopiesAreSelectedAndSent, part 16, hold somewhere. -/
theorem witness_CopiesAreSelectedAndSent_16 : ∃ (p : Port) (s : State) (x : TxCopy), (s.tx p = some x) ∧ (x.started = true) ∧ (s.bufferPaused = false) ∧ (x.resend = false) ∧ (x.entry.msg ≠ []) :=
  ⟨0, ((({ State.reset with chip := { State.reset.chip with mode := .service, hold := [] } } : State).setBit 0x2000000 31 true).setBit 0x2000004 24 true).setTx 0 (some { queue := 3, entry := { desc := 5, idx := 0, tag := 3, msg := [1] }, charge := 0, started := true }), { queue := 3, entry := { desc := 5, idx := 0, tag := 3, msg := [1] }, charge := 0, started := true }, by decide⟩

/-- The premises of CopiesAreSelectedAndSent, part 17, hold somewhere. -/
theorem witness_CopiesAreSelectedAndSent_17 : ∃ (p : Port) (s : State), (s.tx p = none ∨ (∃ x, s.tx p = some x ∧ x.started = false) ∨ s.bufferPaused = true) :=
  ⟨0, State.reset, by decide⟩

/-- The premises of CopiesAreSelectedAndSent, part 18, hold somewhere. -/
theorem witness_CopiesAreSelectedAndSent_18 : ∃ (p : Port) (s : State) (x : TxCopy), (s.tx p = some x) ∧ (x.resend = false) ∧ (x.entry.msg = []) ∧ (x.ready = none ∨ ((s.info x.entry.desc).ended = false) ∨ ((s.info x.entry.desc).good = false ∧ (s.info x.entry.desc).ring = none)) :=
  ⟨0, ((({ State.reset with chip := { State.reset.chip with mode := .service, hold := [] } } : State).setBit 0x2000000 31 true).setBit 0x2000004 24 true).setTx 0 (some { queue := 3, entry := { desc := 5, idx := 0, tag := 3 }, charge := 0, started := true }), { queue := 3, entry := { desc := 5, idx := 0, tag := 3 }, charge := 0, started := true }, by decide⟩

/-- The premises of ShapersAndGroups, part 2, hold somewhere. -/
theorem witness_ShapersAndGroups_2 : ∃ (v : Word) (s : State), (getBits v 1 1 = 1) ∧ (s.closed 0xC00000 = false) :=
  ⟨2, State.reset, by decide⟩

/-- The premises of ShapersAndGroups, part 3, hold somewhere. -/
theorem witness_ShapersAndGroups_3 : ∃ (v : Word) (s : State), (getBits v 1 1 = 0) :=
  ⟨0, State.reset, by decide⟩

/-- The premises of ShapersAndGroups, part 4, hold somewhere. -/
theorem witness_ShapersAndGroups_4 : ∃ (x : Fin 21504) (k : Fin 2) (burst : Bool) (v : Word) (s : State), (s.closed 0xC40000 = false) :=
  ⟨0, 0, true, 3, State.reset, by decide⟩

/-- The premises of ShapersAndGroups, part 5, hold somewhere. -/
theorem witness_ShapersAndGroups_5 : ∃ (g : Fin 32768) (v : Word) (s : State), (getBits v 17 0 + getBits v 25 18 ≤ 262144) ∧ (s.closed 0xD00000 = false) :=
  ⟨0, 1, State.reset, by decide⟩

/-- The premises of ShapersAndGroups, part 6, hold somewhere. -/
theorem witness_ShapersAndGroups_6 : ∃ (g : Fin 32768) (v : Word) (s : State), (262144 < getBits v 17 0 + getBits v 25 18) ∧ (s.closed 0xD00000 = false) :=
  ⟨0, 0x03FFFFFF, State.reset, by decide⟩

/-- The premises of FlowControl, part 1, hold somewhere. -/
theorem witness_FlowControl_1 : ∃ (p : Port) (en : Byte) (times : List (BitVec 16)) (s : State), (s.linkUp p = true) ∧ (s.viaduct p = false) :=
  ⟨0, 0, [], ((State.reset.setBit 0x2000000 31 true).setBit 0x2000004 24 true), by decide⟩

/-- The premises of FlowControl, part 2, hold somewhere. -/
theorem witness_FlowControl_2 : ∃ (p : Port) (en : Byte) (times : List (BitVec 16)) (s : State), (s.linkUp p = false) :=
  ⟨0, 0, [], State.reset, by decide⟩

/-- The premises of FlowControl, part 3, hold somewhere. -/
theorem witness_FlowControl_3 : ∃ (p : Port) (en : Byte) (times : List (BitVec 16)) (s : State), (s.linkUp p = true) ∧ (s.viaduct p = true) :=
  ⟨0, 0, [], ((State.reset.setBit 0x2000000 31 true).setBit 0x2000004 24 true).setBit 0xC01000 31 true, by decide⟩

/-- The premises of FlowControl, part 4, hold somewhere. -/
theorem witness_FlowControl_4 : ∃ (p : Port) (q : BitVec 16) (s : State), (s.linkUp p = true) ∧ (s.bit (0xC01000 + p * 4) 30 = true) :=
  ⟨0, 7, ((State.reset.setBit 0x2000000 31 true).setBit 0x2000004 24 true).setBit 0xC01000 30 true, by decide⟩

/-- The premises of FlowControl, part 5, hold somewhere. -/
theorem witness_FlowControl_5 : ∃ (p : Port) (q : BitVec 16) (x : TxCopy) (s : State), (s.linkUp p = true) ∧ (s.bit (0xC01000 + p * 4) 30 = true) ∧ (q ≠ 0) ∧ (s.tx p = some x) ∧ (x.started = false) ∧ (x.resend = false) ∧ (x.queue / 16 = p) :=
  ⟨0, 7, { queue := 3, entry := { desc := 5, idx := 0, tag := 3 }, charge := 0 }, ((State.reset.setBit 0x2000000 31 true).setBit 0x2000004 24 true).setBit 0xC01000 30 true |>.setTx 0 (some { queue := 3, entry := { desc := 5, idx := 0, tag := 3 }, charge := 0 }), by decide⟩

/-- The premises of FlowControl, part 6, hold somewhere. -/
theorem witness_FlowControl_6 : ∃ (p : Port) (q : BitVec 16) (s : State), (s.linkUp p = false) :=
  ⟨0, 7, State.reset, by decide⟩

/-- The premises of FlowControl, part 7, hold somewhere. -/
theorem witness_FlowControl_7 : ∃ (p : Port) (q : BitVec 16) (s : State), (s.linkUp p = true) ∧ (s.bit (0xC01000 + p * 4) 30 = false) :=
  ⟨0, 7, ((State.reset.setBit 0x2000000 31 true).setBit 0x2000004 24 true), by decide⟩

/-- The premises of FlowControl, part 9, hold somewhere. -/
theorem witness_FlowControl_9 : ∃ (p : Port) (k : Fin 8) (s : State), (s.xoffCause p k = true) ∧ (s.pfcSends p k = true) :=
  ⟨0, 3, { (((State.reset.setBit 0x2000000 31 true).setBit 0x2000004 24 true).setReg 0xC03000 0x800) with chip := { State.reset.chip with hold := [0] } }, by decide⟩

/-- The premises of FlowControl, part 10, hold somewhere. -/
theorem witness_FlowControl_10 : ∃ (p : Port) (k : Fin 8) (s : State), (s.xoffCause p k = false ∨ s.pfcSends p k = false) :=
  ⟨0, 3, { State.reset with chip := { State.reset.chip with hold := [] } }, by decide⟩

/-- The premises of CompatibilityCredits, part 1, hold somewhere. -/
theorem witness_CompatibilityCredits_1 : ∃ (dev : Fin 128) (v : BitVec 16) (n : BitVec 26) (s : State), (s.cmpOn = false) :=
  ⟨0, 0, 1, State.reset, by decide⟩

/-- The premises of CompatibilityCredits, part 2, hold somewhere. -/
theorem witness_CompatibilityCredits_2 : ∃ (dev : Fin 128) (s : State), (s.cmpOn = true) ∧ (Tbl.get noRecords s.cmp.gathered dev = [] ∨ s.bit (0x881004 + dev * 8) 31 = false) :=
  ⟨0, (State.reset.setBit 0x880000 31 true), by decide⟩

/-- The premises of CompatibilityCredits, part 3, hold somewhere. -/
theorem witness_CompatibilityCredits_3 : ∃ (dev : Fin 128) (v : BitVec 16) (n : BitVec 26) (s : State), (s.cmpOn = true) ∧ ((Tbl.get noRecords s.cmp.gathered dev).length = 7) ∧ (s.bit (0x881004 + dev * 8) 31 = true) :=
  ⟨0, 0, 1, { ((State.reset.setBit 0x880000 31 true).setBit 0x881004 31 true) with cmp := { State.reset.cmp with gathered := [(0, [5, 6, 7, 8, 9, 10, 11])] } }, by decide⟩

/-- The premises of CompatibilityCredits, part 4, hold somewhere. -/
theorem witness_CompatibilityCredits_4 : ∃ (dev : Fin 128) (v : BitVec 16) (n : BitVec 26) (s : State), (s.cmpOn = true) :=
  ⟨0, 0, 1, (State.reset.setBit 0x880000 31 true), by decide⟩

/-- The premises of CompatibilityCredits, part 5, hold somewhere. -/
theorem witness_CompatibilityCredits_5 : ∃ (v : BitVec 16) (n : BitVec 26) (s : State), (s.cmpOn = true) ∧ ((s.voq v.toNat).frames = []) ∧ (((s.voq v.toNat).granted n.toNat).need ≤ 0) :=
  ⟨0, 1, (State.reset.setBit 0x880000 31 true), by decide⟩

/-- The premises of CompatibilityCredits, part 6, hold somewhere. -/
theorem witness_CompatibilityCredits_6 : ∃ (v : BitVec 16) (n : BitVec 26) (s : State), (s.cmpOn = true) :=
  ⟨0, 1, (State.reset.setBit 0x880000 31 true), by decide⟩

/-- The premises of CompatibilityCredits, part 7, hold somewhere. -/
theorem witness_CompatibilityCredits_7 : ∃ (v : BitVec 16) (n : BitVec 26) (s : State), (s.cmpOn = true) :=
  ⟨0, 1, (State.reset.setBit 0x880000 31 true), by decide⟩

/-- The premises of CompatibilityCredits, part 8, hold somewhere. -/
theorem witness_CompatibilityCredits_8 : ∃ (s : State), (s.cmpOn = true) ∧ (∀ dev, (Tbl.get noRecords s.cmp.gathered dev).length + (s.cmp.voq.filter (fun e : Nat × Voq => decide (0 < e.2.out ∧ e.1 / 512 = dev))).length < 8) :=
  ⟨{ (State.reset.setBit 0x880000 31 true) with cmp := { State.reset.cmp with voq := [(7, { out := 3 })] } }, by exact ⟨by decide, fun dev => Nat.lt_of_le_of_lt (Nat.add_le_add (Nat.le_of_eq (by rfl : _ = 0)) (List.length_filter_le _ _)) (by decide)⟩⟩

/-- The premises of CompatibilityCredits, part 9, hold somewhere. -/
theorem witness_CompatibilityCredits_9 : ∃ (s : State) (v : Nat) (x : Voq), (s.cmpOn = true) ∧ (s.cmp.voq = [(v, x)]) ∧ (0 < x.out) ∧ (Tbl.get noRecords s.cmp.gathered (v / 512) = []) :=
  ⟨{ (State.reset.setBit 0x880000 31 true) with cmp := { State.reset.cmp with voq := [(7, { out := 3 })] } }, 7, { out := 3 }, by decide⟩

/-- The premises of CompatibilityCredits, part 10, hold somewhere. -/
theorem witness_CompatibilityCredits_10 : ∃ (dev : Fin 128) (v : BitVec 16) (n : BitVec 26) (s : State), (s.cmpOn = true) ∧ ((Tbl.get noRecords s.cmp.gathered dev).length < 7) :=
  ⟨0, 0, 1, (State.reset.setBit 0x880000 31 true), by decide⟩

/-- The premises of CompatibilityCredits, part 11, hold somewhere. -/
theorem witness_CompatibilityCredits_11 : ∃ (v : BitVec 16) (n : BitVec 26) (s : State), (s.cmpOn = true) ∧ ((s.voq v.toNat).frames = []) ∧ (({ s.voq v.toNat with out := n.toNat } : Voq).need ≤ 0) :=
  ⟨0, 1, (State.reset.setBit 0x880000 31 true), by decide⟩

/-- The premises of CompatibilityCredits, part 12, hold somewhere. -/
theorem witness_CompatibilityCredits_12 : ∃ (dev : Fin 128) (s : State), (s.cmpOn = true) ∧ (Tbl.get noRecords s.cmp.gathered dev ≠ []) ∧ (s.bit (0x881004 + dev * 8) 31 = true) :=
  ⟨0, { ((State.reset.setBit 0x880000 31 true).setBit 0x881004 31 true) with cmp := { State.reset.cmp with gathered := [(0, [5])] } }, by decide⟩

/-- The premises of ViaductLinksStart, part 1, hold somewhere. -/
theorem witness_ViaductLinksStart_1 : ∃ (p : Port) (s : State), (s.viaRuns p = true) ∧ ((s.viaLink p).up = false) :=
  ⟨0, (((({ State.reset with chip := { State.reset.chip with hold := [] } } : State).setBit 0x2000000 31 true).setBit 0x2000004 24 true).setBit 0xC01000 31 true), by decide⟩

/-- The premises of ViaductLinksStart, part 2, hold somewhere. -/
theorem witness_ViaductLinksStart_2 : ∃ (p : Port) (f : ViaFrame) (s : State), (s.viaRuns p = true) ∧ (frameGood f 11 = true) ∧ ((s.viaLink p).up = false) :=
  ⟨0, (testFrame 11 0 [1, 2, 3, 4, 7, 0]), (((({ State.reset with chip := { State.reset.chip with hold := [] } } : State).setBit 0x2000000 31 true).setBit 0x2000004 24 true).setBit 0xC01000 31 true), by decide +kernel⟩

/-- The premises of ViaductLinksStart, part 3, hold somewhere. -/
theorem witness_ViaductLinksStart_3 : ∃ (p : Port) (f : ViaFrame) (s : State), (s.viaRuns p = true) ∧ (frameGood f 11 = true) ∧ ((s.viaLink p).up = true) ∧ (frameEpoch f = (s.viaLink p).peerEpoch) ∧ ((s.viaLink p).up = false ∨ ((s.viaLink p).next + 2 ^ 24 - (s.viaLink p).una) % 2 ^ 24 ≤ (deckAck f.deck + 2 ^ 24 - (s.viaLink p).una) % 2 ^ 24) :=
  ⟨0, (testFrame 11 0 [1, 2, 3, 4, 7, 0]), (((({ State.reset with chip := { State.reset.chip with hold := [] } } : State).setBit 0x2000000 31 true).setBit 0x2000004 24 true).setBit 0xC01000 31 true).setVia 0 { up := true, peerEpoch := 7 }, by decide +kernel⟩

/-- The premises of ViaductLinksStart, part 4, hold somewhere. -/
theorem witness_ViaductLinksStart_4 : ∃ (p : Port) (f : ViaFrame) (s : State), (s.viaRuns p = true) ∧ (frameGood f 11 = true) ∧ ((s.viaLink p).up = true) ∧ (frameEpoch f ≠ (s.viaLink p).peerEpoch) :=
  ⟨0, (testFrame 11 0 [1, 2, 3, 4, 8, 0]), (((({ State.reset with chip := { State.reset.chip with hold := [] } } : State).setBit 0x2000000 31 true).setBit 0x2000004 24 true).setBit 0xC01000 31 true).setVia 0 { up := true, peerEpoch := 7 }, by decide +kernel⟩

/-- The premises of ViaductLinksStart, part 5, hold somewhere. -/
theorem witness_ViaductLinksStart_5 : ∃ (p : Port) (f : ViaFrame) (s : State), (s.viaRuns p = true) ∧ (frameGood f 12 = true) ∧ ((s.viaLink p).up = false) ∧ (framePeerEpoch f = (s.viaLink p).epoch) :=
  ⟨0, (testFrame 12 0 [1, 2, 3, 4, 7, 5]), (((({ State.reset with chip := { State.reset.chip with hold := [] } } : State).setBit 0x2000000 31 true).setBit 0x2000004 24 true).setBit 0xC01000 31 true).setVia 0 { epoch := 5 }, by decide +kernel⟩

/-- The premises of ViaductLinksStart, part 6, hold somewhere. -/
theorem witness_ViaductLinksStart_6 : ∃ (p : Port) (s : State), (s.viaRuns p = true) :=
  ⟨0, (((({ State.reset with chip := { State.reset.chip with hold := [] } } : State).setBit 0x2000000 31 true).setBit 0x2000004 24 true).setBit 0xC01000 31 true), by decide⟩

/-- The premises of ViaductLinksStart, part 7, hold somewhere. -/
theorem witness_ViaductLinksStart_7 : ∃ (p : Port) (f : ViaFrame) (s : State), (s.viaRuns p = true) ∧ (frameGood f 10 = true) ∧ ((s.viaLink p).up = true) ∧ ((s.viaLink p).up = false ∨ ((s.viaLink p).next + 2 ^ 24 - (s.viaLink p).una) % 2 ^ 24 ≤ (deckAck f.deck + 2 ^ 24 - (s.viaLink p).una) % 2 ^ 24) :=
  ⟨0, (testFrame 10 0 [1, 2, 3, 4]), (((({ State.reset with chip := { State.reset.chip with hold := [] } } : State).setBit 0x2000000 31 true).setBit 0x2000004 24 true).setBit 0xC01000 31 true).setVia 0 { up := true }, by decide +kernel⟩

/-- The premises of ViaductLinksStart, part 8, hold somewhere. -/
theorem witness_ViaductLinksStart_8 : ∃ (p : Port) (f : ViaFrame) (s : State), (s.viaRuns p = true) ∧ (deckUnusable f.deck = true) :=
  ⟨0, { deck := 1, body := [], crc := [] }, (((({ State.reset with chip := { State.reset.chip with hold := [] } } : State).setBit 0x2000000 31 true).setBit 0x2000004 24 true).setBit 0xC01000 31 true), by decide +kernel⟩

/-- The premises of ViaductLinksStart, part 9, hold somewhere. -/
theorem witness_ViaductLinksStart_9 : ∃ (p : Port) (f : ViaFrame) (s : State), (deckUnusable f.deck = false) ∧ (ethFcs (beBytes 8 f.deck.toNat ++ f.body) ≠ f.crc) :=
  ⟨0, { (testFrame 11 0 []) with crc := [] }, (((({ State.reset with chip := { State.reset.chip with hold := [] } } : State).setBit 0x2000000 31 true).setBit 0x2000004 24 true).setBit 0xC01000 31 true), by decide +kernel⟩

/-- The premises of ViaductLinksStart, part 10, hold somewhere. -/
theorem witness_ViaductLinksStart_10 : ∃ (p : Port) (f : ViaFrame) (s : State), (s.viaRuns p = false) :=
  ⟨0, { deck := 1, body := [], crc := [] }, State.reset, by decide⟩

/-- The premises of ViaductLinksStart, part 11, hold somewhere. -/
theorem witness_ViaductLinksStart_11 : ∃ (p : Port) (s : State), ((s.viaLink p).up = true) :=
  ⟨0, State.reset.setVia 0 { up := true }, by decide⟩

/-- The premises of ViaductLinksStart, part 12, hold somewhere. -/
theorem witness_ViaductLinksStart_12 : ∃ (p : Port) (f : ViaFrame) (s : State), (s.viaRuns p = true) ∧ (frameGood f 12 = true) ∧ (framePeerEpoch f ≠ 0) ∧ (framePeerEpoch f ≠ (s.viaLink p).epoch) :=
  ⟨0, (testFrame 12 0 [1, 2, 3, 4, 7, 6]), (((({ State.reset with chip := { State.reset.chip with hold := [] } } : State).setBit 0x2000000 31 true).setBit 0x2000004 24 true).setBit 0xC01000 31 true).setVia 0 { epoch := 5 }, by decide +kernel⟩

/-- The premises of ViaductLinksStart, part 13, hold somewhere. -/
theorem witness_ViaductLinksStart_13 : ∃ (p : Port) (f : ViaFrame) (s : State), (s.viaRuns p = true) ∧ (frameGood f 12 = true) ∧ ((s.viaLink p).up = true) ∧ (framePeerEpoch f = 0 ∨ framePeerEpoch f = (s.viaLink p).epoch) ∧ (frameEpoch f ≠ (s.viaLink p).peerEpoch) :=
  ⟨0, (testFrame 12 0 [1, 2, 3, 4, 8, 0]), (((({ State.reset with chip := { State.reset.chip with hold := [] } } : State).setBit 0x2000000 31 true).setBit 0x2000004 24 true).setBit 0xC01000 31 true).setVia 0 { up := true, peerEpoch := 7 }, by decide +kernel⟩

/-- The premises of ViaductLinksStart, part 14, hold somewhere. -/
theorem witness_ViaductLinksStart_14 : ∃ (p : Port) (f : ViaFrame) (s : State), (s.viaRuns p = true) ∧ (frameGood f 10 = true) ∧ ((s.viaLink p).up = false) :=
  ⟨0, (testFrame 10 0 [1, 2, 3, 4]), (((({ State.reset with chip := { State.reset.chip with hold := [] } } : State).setBit 0x2000000 31 true).setBit 0x2000004 24 true).setBit 0xC01000 31 true), by decide +kernel⟩

/-- The premises of ViaductLinksStart, part 15, hold somewhere. -/
theorem witness_ViaductLinksStart_15 : ∃ (w : Fin 32) (v : Word) (s : State), (s.closed 0xC0A000 = false) :=
  ⟨0, 5, State.reset, by decide⟩

/-- The premises of ViaductLinksRetry, part 1, hold somewhere. -/
theorem witness_ViaductLinksRetry_1 : ∃ (p : Port) (deck : DWord) (d : Option DescId) (s : State), (s.viaRuns p = true) ∧ (deckGood deck = true) ∧ (deckType deck = 0) ∧ (deckSeq deck = (s.viaLink p).e) ∧ (s.dataAccepted d = true) ∧ ((s.viaLink p).up = false ∨ ((s.viaLink p).next + 2 ^ 24 - (s.viaLink p).una) % 2 ^ 24 ≤ (deckAck deck + 2 ^ 24 - (s.viaLink p).una) % 2 ^ 24) :=
  ⟨0, (testFrame 0 0 []).deck, some 5, (((({ State.reset with chip := { State.reset.chip with hold := [] } } : State).setBit 0x2000000 31 true).setBit 0x2000004 24 true).setBit 0xC01000 31 true).setDesc 5 { alloc := true, accepted := true }, by decide +kernel⟩

/-- The premises of ViaductLinksRetry, part 2, hold somewhere. -/
theorem witness_ViaductLinksRetry_2 : ∃ (p : Port) (deck : DWord) (good : Bool) (d : Option DescId) (s : State), (s.viaRuns p = true) ∧ (deckGood deck = true) ∧ (deckType deck = 0) ∧ (deckSeq deck ≠ (s.viaLink p).e) ∧ (2 ^ 23 ≤ (deckSeq deck + 2 ^ 24 - (s.viaLink p).e) % 2 ^ 24) ∧ ((s.viaLink p).up = false ∨ ((s.viaLink p).next + 2 ^ 24 - (s.viaLink p).una) % 2 ^ 24 ≤ (deckAck deck + 2 ^ 24 - (s.viaLink p).una) % 2 ^ 24) :=
  ⟨0, (testFrame 0 0 []).deck, true, none, (((({ State.reset with chip := { State.reset.chip with hold := [] } } : State).setBit 0x2000000 31 true).setBit 0x2000004 24 true).setBit 0xC01000 31 true).setVia 0 { e := 1 }, by decide +kernel⟩

/-- The premises of ViaductLinksRetry, part 3, hold somewhere. -/
theorem witness_ViaductLinksRetry_3 : ∃ (p : Port) (deck : DWord) (d : Option DescId) (s : State), (s.viaRuns p = true) ∧ (deckGood deck = true) ∧ (deckType deck = 0) ∧ (deckSeq deck = (s.viaLink p).e) ∧ ((s.viaLink p).up = false ∨ ((s.viaLink p).next + 2 ^ 24 - (s.viaLink p).una) % 2 ^ 24 ≤ (deckAck deck + 2 ^ 24 - (s.viaLink p).una) % 2 ^ 24) :=
  ⟨0, (testFrame 0 0 []).deck, none, (((({ State.reset with chip := { State.reset.chip with hold := [] } } : State).setBit 0x2000000 31 true).setBit 0x2000004 24 true).setBit 0xC01000 31 true), by decide +kernel⟩

/-- The premises of ViaductLinksRetry, part 4, hold somewhere. -/
theorem witness_ViaductLinksRetry_4 : ∃ (p : Port) (deck : DWord) (good : Bool) (d : Option DescId) (s : State), (s.viaRuns p = true) ∧ (deckGood deck = true) ∧ (deckType deck = 0) ∧ (deckSeq deck ≠ (s.viaLink p).e) ∧ ((deckSeq deck + 2 ^ 24 - (s.viaLink p).e) % 2 ^ 24 < 2 ^ 23) ∧ ((s.viaLink p).nakSent = false) ∧ ((s.viaLink p).up = false ∨ ((s.viaLink p).next + 2 ^ 24 - (s.viaLink p).una) % 2 ^ 24 ≤ (deckAck deck + 2 ^ 24 - (s.viaLink p).una) % 2 ^ 24) :=
  ⟨0, (testFrame 0 0 []).deck, true, none, (((({ State.reset with chip := { State.reset.chip with hold := [] } } : State).setBit 0x2000000 31 true).setBit 0x2000004 24 true).setBit 0xC01000 31 true).setVia 0 { e := 0xFFFFFF }, by decide +kernel⟩

/-- The premises of ViaductLinksRetry, part 5, hold somewhere. -/
theorem witness_ViaductLinksRetry_5 : ∃ (p : Port) (f : ViaFrame) (s : State), (s.viaRuns p = true) ∧ (frameGood f 8 = true) ∧ ((s.viaLink p).up = true) ∧ ((deckAck f.deck + 2 ^ 24 - (s.viaLink p).una) % 2 ^ 24 < ((s.viaLink p).next + 2 ^ 24 - (s.viaLink p).una) % 2 ^ 24) :=
  ⟨0, (testFrame 8 0 []), (((({ State.reset with chip := { State.reset.chip with hold := [] } } : State).setBit 0x2000000 31 true).setBit 0x2000004 24 true).setBit 0xC01000 31 true).setVia 0 { up := true, next := 1 }, by decide +kernel⟩

/-- The premises of ViaductLinksRetry, part 6, hold somewhere. -/
theorem witness_ViaductLinksRetry_6 : ∃ (p : Port) (deck : DWord) (good : Bool) (d : Option DescId) (s : State), (s.viaRuns p = false ∨ deckGood deck = false ∨ 1 < deckType deck ∨ (deckType deck = 1 ∧ ((s.viaLink p).up = false ∨ ((s.viaLink p).next + 2 ^ 24 - (s.viaLink p).una) % 2 ^ 24 ≤ (deckAck deck + 2 ^ 24 - (s.viaLink p).una) % 2 ^ 24))) :=
  ⟨0, (testFrame 0 0 []).deck, true, none, State.reset, by decide +kernel⟩

/-- The premises of ViaductLinksRetry, part 7, hold somewhere. -/
theorem witness_ViaductLinksRetry_7 : ∃ (p : Port) (deck : DWord) (good : Bool) (d : Option DescId) (s : State), (s.viaRuns p = true) ∧ (deckGood deck = true) ∧ (deckType deck < 2) ∧ ((s.viaLink p).up = true) ∧ ((deckAck deck + 2 ^ 24 - (s.viaLink p).una) % 2 ^ 24 < ((s.viaLink p).next + 2 ^ 24 - (s.viaLink p).una) % 2 ^ 24) :=
  ⟨0, (testFrame 0 0 []).deck, true, none, (((({ State.reset with chip := { State.reset.chip with hold := [] } } : State).setBit 0x2000000 31 true).setBit 0x2000004 24 true).setBit 0xC01000 31 true).setVia 0 { up := true, next := 1 }, by decide +kernel⟩

/-- The premises of ViaductLinksRetry, part 8, hold somewhere. -/
theorem witness_ViaductLinksRetry_8 : ∃ (p : Port) (f : ViaFrame) (s : State), (frameGood f 8 = true) ∧ ((s.viaLink p).up = false ∨ ((s.viaLink p).next + 2 ^ 24 - (s.viaLink p).una) % 2 ^ 24 ≤ (deckAck f.deck + 2 ^ 24 - (s.viaLink p).una) % 2 ^ 24) :=
  ⟨0, (testFrame 8 0 []), (((({ State.reset with chip := { State.reset.chip with hold := [] } } : State).setBit 0x2000000 31 true).setBit 0x2000004 24 true).setBit 0xC01000 31 true), by decide +kernel⟩

/-- The premises of ViaductLinksRetry, part 9, hold somewhere. -/
theorem witness_ViaductLinksRetry_9 : ∃ (p : Port) (f : ViaFrame) (s : State), (s.viaRuns p = true) ∧ (frameGood f 9 = true) ∧ ((s.viaLink p).una ≠ (s.viaLink p).next) ∧ ((s.viaLink p).retransmit = false) ∧ ((s.viaLink p).up = false ∨ ((s.viaLink p).next + 2 ^ 24 - (s.viaLink p).una) % 2 ^ 24 ≤ (deckAck f.deck + 2 ^ 24 - (s.viaLink p).una) % 2 ^ 24) :=
  ⟨0, (testFrame 9 0xFFFFFF []), (((({ State.reset with chip := { State.reset.chip with hold := [] } } : State).setBit 0x2000000 31 true).setBit 0x2000004 24 true).setBit 0xC01000 31 true).setVia 0 { up := true, next := 1 }, by decide +kernel⟩

/-- The premises of ViaductLinksRetry, part 10, hold somewhere. -/
theorem witness_ViaductLinksRetry_10 : ∃ (p : Port) (s : State), ((s.viaLink p).retransmit = false ∨ (s.viaLink p).due ≠ none ∨ s.tx p ≠ none) :=
  ⟨0, State.reset, by decide⟩

/-- The premises of ViaductLinksRetry, part 11, hold somewhere. -/
theorem witness_ViaductLinksRetry_11 : ∃ (p : Port) (s : State), (s.viaRuns p = false ∨ s.viaHeld p = true ∨ (s.viaLink p).retransmit = true ∨ (s.viaLink p).una = (s.viaLink p).next) :=
  ⟨0, State.reset, by decide⟩

/-- The premises of ViaductLinksRetry, part 12, hold somewhere. -/
theorem witness_ViaductLinksRetry_12 : ∃ (p : Port) (s : State), (s.viaRuns p = false ∨ (s.viaLink p).ackDue = false) :=
  ⟨0, State.reset, by decide⟩

/-- The premises of ViaductLinksRetry, part 13, hold somewhere. -/
theorem witness_ViaductLinksRetry_13 : ∃ (p : Port) (s : State), (s.viaduct p = true ∨ s.linkUp p = true) :=
  ⟨0, ((State.reset.setBit 0x2000000 31 true).setBit 0x2000004 24 true), by decide⟩

/-- The premises of ViaductLinksRetry, part 14, hold somewhere. -/
theorem witness_ViaductLinksRetry_14 : ∃ (p : Port) (f : ViaFrame) (s : State), (s.viaRuns p = true) ∧ (frameGood f 9 = true) ∧ ((s.viaLink p).una = (s.viaLink p).next ∨ (s.viaLink p).retransmit = true) ∧ ((s.viaLink p).up = false ∨ ((s.viaLink p).next + 2 ^ 24 - (s.viaLink p).una) % 2 ^ 24 ≤ (deckAck f.deck + 2 ^ 24 - (s.viaLink p).una) % 2 ^ 24) :=
  ⟨0, (testFrame 9 0xFFFFFF []), (((({ State.reset with chip := { State.reset.chip with hold := [] } } : State).setBit 0x2000000 31 true).setBit 0x2000004 24 true).setBit 0xC01000 31 true).setVia 0 { up := true }, by decide +kernel⟩

/-- The premises of ViaductLinksRetry, part 15, hold somewhere. -/
theorem witness_ViaductLinksRetry_15 : ∃ (p : Port) (s : State), ((s.viaLink p).retransmit = true) ∧ ((s.viaLink p).due = none) ∧ (s.tx p = none) :=
  ⟨0, (((({ State.reset with chip := { State.reset.chip with hold := [] } } : State).setBit 0x2000000 31 true).setBit 0x2000004 24 true).setBit 0xC01000 31 true).setVia 0 { up := true, retransmit := true }, by decide⟩

/-- The premises of ViaductLinksRetry, part 16, hold somewhere. -/
theorem witness_ViaductLinksRetry_16 : ∃ (p : Port) (s : State), (s.viaRuns p = true) ∧ (s.viaHeld p = false) ∧ ((s.viaLink p).retransmit = false) ∧ ((s.viaLink p).una ≠ (s.viaLink p).next) ∧ ((s.viaLink p).retries < 7) :=
  ⟨0, (((({ State.reset with chip := { State.reset.chip with hold := [] } } : State).setBit 0x2000000 31 true).setBit 0x2000004 24 true).setBit 0xC01000 31 true).setVia 0 { up := true, next := 1 }, by decide⟩

/-- The premises of ViaductLinksRetry, part 17, hold somewhere. -/
theorem witness_ViaductLinksRetry_17 : ∃ (p : Port) (s : State), (s.viaRuns p = true) ∧ (s.viaHeld p = false) ∧ ((s.viaLink p).retransmit = false) ∧ ((s.viaLink p).una ≠ (s.viaLink p).next) ∧ (7 ≤ (s.viaLink p).retries) :=
  ⟨0, (((({ State.reset with chip := { State.reset.chip with hold := [] } } : State).setBit 0x2000000 31 true).setBit 0x2000004 24 true).setBit 0xC01000 31 true).setVia 0 { up := true, next := 1, retries := 7 }, by decide⟩

/-- The premises of ViaductLinksRetry, part 18, hold somewhere. -/
theorem witness_ViaductLinksRetry_18 : ∃ (p : Port) (s : State), (s.viaRuns p = true) ∧ ((s.viaLink p).ackDue = true) :=
  ⟨0, (((({ State.reset with chip := { State.reset.chip with hold := [] } } : State).setBit 0x2000000 31 true).setBit 0x2000004 24 true).setBit 0xC01000 31 true).setVia 0 { up := true, ackDue := true }, by decide⟩

/-- The premises of ViaductLinksRetry, part 19, hold somewhere. -/
theorem witness_ViaductLinksRetry_19 : ∃ (p : Port) (s : State), (s.viaduct p = false) ∧ (s.linkUp p = false) ∧ (∀ i, i < 16 → s.queueEmpty (p * 16 + i) = true) :=
  ⟨0, State.reset, by decide⟩

/-- The premises of ViaductLinksRetry, part 20, hold somewhere. -/
theorem witness_ViaductLinksRetry_20 : ∃ (p : Port) (s : State), (s.viaduct p = false) ∧ (s.linkUp p = false) :=
  ⟨0, State.reset, by decide⟩

/-- The premises of ShadowingAndVectors, part 1, hold somewhere. -/
theorem witness_ShadowingAndVectors_1 : ∃ (sp : Span) (ps : Pass) (s : State), (s.mayShadow sp ps = true) ∧ ((s.passOf sp ps).shadowOn = false) ∧ (∀ e ∈ s.pipes.packets, isShadowOf sp ps e = false) :=
  ⟨0, .ingress, State.reset.setBit 0x100A000 0 true, by decide⟩

/-- The premises of ShadowingAndVectors, part 2, hold somewhere. -/
theorem witness_ShadowingAndVectors_2 : ∃ (sp : Span) (ps : Pass) (s : State), (s.mayShadow sp ps = true) ∧ ((s.passOf sp ps).shadowOn = true) ∧ ((s.passOf sp ps).draining = true) ∧ (∀ e ∈ s.pipes.packets, isShadowOf sp ps e = false) :=
  ⟨0, .ingress, (State.reset.setBit 0x100A000 0 true).setPass 0 .ingress { shadowOn := true, draining := true }, by decide⟩

/-- The premises of ShadowingAndVectors, part 3, hold somewhere. -/
theorem witness_ShadowingAndVectors_3 : ∃ (sp : Span) (ps : Pass) (s : State), (s.mayShadow sp ps = false ∨ ((s.passOf sp ps).shadowOn = true ∧ (s.passOf sp ps).draining = false) ∨ (∃ e ∈ s.pipes.packets, isShadowOf sp ps e = true)) :=
  ⟨0, .ingress, State.reset.setPass 0 .ingress { shadowOn := true }, by decide⟩

/-- The premises of ShadowingAndVectors, part 4, hold somewhere. -/
theorem witness_ShadowingAndVectors_4 : ∃ (sp : Span) (ps : Pass) (s : State), ((s.passOf sp ps).shadowOn = false ∨ (s.passOf sp ps).draining = true) :=
  ⟨0, .ingress, State.reset, by decide⟩

/-- The premises of ShadowingAndVectors, part 5, hold somewhere. -/
theorem witness_ShadowingAndVectors_5 : ∃ (sp : Span) (ps : Pass) (k : PipeNo) (s : State), (((s.passOf sp ps).groupOf k).isSome = false ∨ s.fenced (partyPipe sp ps k) = true) :=
  ⟨0, .ingress, 4, State.reset, by decide⟩

/-- The premises of ShadowingAndVectors, part 6, hold somewhere. -/
theorem witness_ShadowingAndVectors_6 : ∃ (sp : Span) (ps : Pass) (s : State), ((s.passOf sp ps).shadowOn = true) ∧ ((s.passOf sp ps).draining = false) :=
  ⟨0, .ingress, State.reset.setPass 0 .ingress { shadowOn := true }, by decide⟩

/-- The premises of ShadowingAndVectors, part 7, hold somewhere. -/
theorem witness_ShadowingAndVectors_7 : ∃ (sp : Span) (ps : Pass) (k : PipeNo) (s : State), (((s.passOf sp ps).groupOf k).isSome = true) ∧ (s.fenced (partyPipe sp ps k) = false) :=
  ⟨0, .ingress, 0, State.reset, by decide⟩

/-- The premises of ShadowingAndVectors, part 8, hold somewhere. -/
theorem witness_ShadowingAndVectors_8 : ∃ (s : State) (e : LossEntry) (rest : List LossEntry), (s.ord.losses = e :: rest) :=
  ⟨{ State.reset with ord := { State.reset.ord with losses := [{ kind := 1, cls := 2, port := 3, egress := 4, seq := 9 }] } }, { kind := 1, cls := 2, port := 3, egress := 4, seq := 9 }, [], by decide⟩

/-- The premises of ShadowingAndVectors, part 9, hold somewhere. -/
theorem witness_ShadowingAndVectors_9 : ∃ (s : State), (s.ord.losses = []) :=
  ⟨State.reset, by decide⟩

/-- The premises of MismatchesAreResolved, part 1, hold somewhere. -/
theorem witness_MismatchesAreResolved_1 : ∃ (sp : Span) (ps : Pass) (s : State), ((s.passOf sp ps).resolving = 1) ∧ (∀ e ∈ s.pipes.packets, inFlightOf sp ps (s.passOf sp ps).serving e = false) :=
  ⟨0, .ingress, State.reset.setPass 0 .ingress { resolving := 1 }, by decide⟩

/-- The premises of MismatchesAreResolved, part 2, hold somewhere. -/
theorem witness_MismatchesAreResolved_2 : ∃ (sp : Span) (ps : Pass) (s : State), ((s.passOf sp ps).resolving = 2) :=
  ⟨0, .ingress, State.reset.setPass 0 .ingress { resolving := 2 }, by decide⟩

/-- The premises of MismatchesAreResolved, part 3, hold somewhere. -/
theorem witness_MismatchesAreResolved_3 : ∃ (sp : Span) (ps : Pass) (s : State), ((s.passOf sp ps).resolving = 2) ∧ ((s.passOf sp ps).serving < 5) ∧ (s.fc.injNext = none ∨ s.fc.injQuiet = false) ∧ (s.chip.lockColl.phase = .paired) :=
  ⟨0, .ingress, State.reset.setPass 0 .ingress { resolving := 2 }, by decide⟩

/-- The premises of MismatchesAreResolved, part 4, hold somewhere. -/
theorem witness_MismatchesAreResolved_4 : ∃ (sp : Span) (ps : Pass) (s : State) (f : Nat), ((s.passOf sp ps).resolving = 2) ∧ ((s.passOf sp ps).free = some f) ∧ (f < 5) ∧ (f ∉ (s.passOf sp ps).faulty) ∧ (s.fc.injNext = none ∨ s.fc.injQuiet = false) ∧ (s.chip.lockColl.phase = .paired) :=
  ⟨0, .ingress, State.reset.setPass 0 .ingress { resolving := 2 }, 4, by decide⟩

/-- The premises of MismatchesAreResolved, part 5, hold somewhere. -/
theorem witness_MismatchesAreResolved_5 : ∃ (sp : Span) (ps : Pass) (s : State), ((s.passOf sp ps).resolving = 2) ∧ ((s.passOf sp ps).serving < 5) ∧ (s.fc.injNext = none ∨ s.fc.injQuiet = false) ∧ (s.chip.lockColl.phase = .paired) :=
  ⟨0, .ingress, State.reset.setPass 0 .ingress { resolving := 2 }, by decide⟩

/-- The premises of MismatchesAreResolved, part 6, hold somewhere. -/
theorem witness_MismatchesAreResolved_6 : ∃ (sp : Span) (ps : Pass) (s : State), ((s.passOf sp ps).resolving = 3) ∧ ((s.passOf sp ps).serving < 5) ∧ (s.fc.injNext = none ∨ s.fc.injQuiet = false) ∧ (s.chip.lockColl.phase = .paired) :=
  ⟨0, .ingress, State.reset.setPass 0 .ingress { resolving := 3 }, by decide⟩

/-- The premises of MismatchesAreResolved, part 7, hold somewhere. -/
theorem witness_MismatchesAreResolved_7 : ∃ (sp : Span) (ps : Pass) (s : State) (f : Nat), ((s.passOf sp ps).resolving = 3) ∧ ((s.passOf sp ps).free = some f) ∧ (f < 5) ∧ (f ∉ (s.passOf sp ps).faulty) ∧ (s.fc.injNext = none ∨ s.fc.injQuiet = false) ∧ (s.chip.lockColl.phase = .paired) :=
  ⟨0, .ingress, State.reset.setPass 0 .ingress { resolving := 3 }, 4, by decide⟩

/-- The premises of MismatchesAreResolved, part 8, hold somewhere. -/
theorem witness_MismatchesAreResolved_8 : ∃ (sp : Span) (ps : Pass) (s : State), ((s.passOf sp ps).resolving = 3) ∧ ((s.passOf sp ps).lender < 5) ∧ (s.fc.injNext = none ∨ s.fc.injQuiet = false) ∧ (s.chip.lockColl.phase = .paired) :=
  ⟨0, .ingress, State.reset.setPass 0 .ingress { resolving := 3 }, by decide⟩

/-- The premises of MismatchesAreResolved, part 9, hold somewhere. -/
theorem witness_MismatchesAreResolved_9 : ∃ (sp : Span) (ps : Pass) (s : State), ((s.passOf sp ps).resolving = 3) :=
  ⟨0, .ingress, State.reset.setPass 0 .ingress { resolving := 3 }, by decide⟩

/-- The premises of MismatchesAreResolved, part 10, hold somewhere. -/
theorem witness_MismatchesAreResolved_10 : ∃ (sp : Span) (ps : Pass) (s : State), ((s.passOf sp ps).resolving = 3) ∧ (s.fc.injNext = none ∨ s.fc.injQuiet = false) ∧ (s.chip.lockColl.phase = .paired) :=
  ⟨0, .ingress, State.reset.setPass 0 .ingress { resolving := 3 }, by decide⟩

/-- The premises of MismatchesAreResolved, part 12, hold somewhere. -/
theorem witness_MismatchesAreResolved_12 : ∃ (sp : Span) (ps : Pass) (s : State), ((s.passOf sp ps).switching.isSome = true) :=
  ⟨0, .ingress, State.reset.setPass 0 .ingress { switching := some 1 }, by decide⟩

/-- The premises of SparesTakeOver, part 1, hold somewhere. -/
theorem witness_SparesTakeOver_1 : ∃ (sp : Span) (ps : Pass) (s : State) (g f : Nat), ((s.passOf sp ps).switching = some g) ∧ ((s.passOf sp ps).free = some f) ∧ ((s.passOf sp ps).drained = true) :=
  ⟨0, .ingress, State.reset.setPass 0 .ingress { switching := some 1, drained := true }, 1, 4, by decide⟩

/-- The premises of SparesTakeOver, part 2, hold somewhere. -/
theorem witness_SparesTakeOver_2 : ∃ (sp : Span) (ps : Pass) (s : State) (g f : Nat), ((s.passOf sp ps).switching = some g) ∧ ((s.passOf sp ps).free = some f) ∧ (f < 5) ∧ ((s.passOf sp ps).drained = true) ∧ (s.fc.injNext = none ∨ s.fc.injQuiet = false) ∧ (s.chip.lockColl.phase = .paired) :=
  ⟨0, .ingress, State.reset.setPass 0 .ingress { switching := some 1, drained := true }, 1, 4, by decide⟩

/-- The premises of SparesTakeOver, part 3, hold somewhere. -/
theorem witness_SparesTakeOver_3 : ∃ (sp : Span) (v : Word) (s : State), (getBits v 1 1 = 0) ∧ (s.chip.mode = .startUp ∨ s.chip.mode = .test) ∧ (s.closed (spareCtrl sp) = false) :=
  ⟨0, 1, State.reset, by decide⟩

/-- The premises of SparesTakeOver, part 4, hold somewhere. -/
theorem witness_SparesTakeOver_4 : ∃ (sp : Span) (v : Word) (s : State), (getBits v 1 1 = 1) ∧ (getBits v 6 4 ∈ (s.passOf sp (if getBits v 8 8 = 1 then .egress else .ingress)).faulty) ∧ (s.closed (spareCtrl sp) = false) :=
  ⟨0, 0x22, State.reset.setPass 0 .ingress { faulty := [2] }, by decide⟩

/-- The premises of SparesTakeOver, part 5, hold somewhere. -/
theorem witness_SparesTakeOver_5 : ∃ (sp : Span) (v : Word) (s : State), (getBits v 1 1 = 1) ∧ (getBits v 6 4 ∉ (s.passOf sp (if getBits v 8 8 = 1 then .egress else .ingress)).faulty) ∧ (s.closed (spareCtrl sp) = false) :=
  ⟨0, 0x22, State.reset, by decide⟩

/-- The premises of SparesTakeOver, part 7, hold somewhere. -/
theorem witness_SparesTakeOver_7 : ∃ (sp : Span) (ps : Pass) (k : PipeNo) (s : State), ((s.passOf sp ps).reinstating = some k.val) ∧ ((s.passOf sp ps).switching = none) ∧ ((s.passOf sp ps).unserved = []) :=
  ⟨0, .ingress, 2, State.reset.setPass 0 .ingress { faulty := [2], reinstating := some 2 }, by decide⟩

/-- The premises of SparesTakeOver, part 8, hold somewhere. -/
theorem witness_SparesTakeOver_8 : ∃ (sp : Span) (ps : Pass) (k : PipeNo) (s : State) (g : Nat) (rest : List Nat), ((s.passOf sp ps).reinstating = some k.val) ∧ ((s.passOf sp ps).switching = none) ∧ ((s.passOf sp ps).unserved = g :: rest) :=
  ⟨0, .ingress, 2, State.reset.setPass 0 .ingress { faulty := [2], reinstating := some 2, unserved := [1], free := none }, 1, [], by decide⟩

/-- The premises of SparesTakeOver, part 9, hold somewhere. -/
theorem witness_SparesTakeOver_9 : ∃ (sp : Span) (ps : Pass) (k : PipeNo) (s : State), ((s.passOf sp ps).reinstating = some k.val) ∧ ((s.passOf sp ps).switching = none) :=
  ⟨0, .ingress, 2, State.reset.setPass 0 .ingress { faulty := [2], reinstating := some 2 }, by decide⟩

/-- The premises of SpanResets, part 1, hold somewhere. -/
theorem witness_SpanResets_1 : ∃ (v : Word) (s : State), (getBits v 31 16 = 0x5EA7) ∧ (getBits v 0 0 = 0) ∧ (getBits v 1 1 = 0) ∧ (getBits v 2 2 = 1) ∧ (s.chip.mode = .service ∨ s.chip.mode = .test) ∧ (s.chip.spans = []) :=
  ⟨0x5EA70024, { State.reset with chip := { State.reset.chip with mode := .service } }, by decide⟩

/-- The premises of SpanResets, part 2, hold somewhere. -/
theorem witness_SpanResets_2 : ∃ (v : Word) (s : State), (getBits v 31 16 ≠ 0x5EA7) ∧ (s.chip.mode ≠ .off) :=
  ⟨4, State.reset, by decide⟩

/-- The premises of SpanResets, part 3, hold somewhere. -/
theorem witness_SpanResets_3 : ∃ (v : Word) (s : State), (getBits v 31 16 = 0x5EA7) ∧ (getBits v 0 0 = 0) ∧ (getBits v 1 1 = 0) ∧ (getBits v 2 2 = 1) ∧ (s.chip.mode ≠ .off) ∧ ((s.chip.mode ≠ .service ∧ s.chip.mode ≠ .test) ∨ s.chip.spans ≠ []) :=
  ⟨0x5EA70024, State.reset, by decide⟩

/-- The premises of SpanResets, part 4, hold somewhere. -/
theorem witness_SpanResets_4 : ∃ (v : Word) (s : State), (1 < getBits v 0 0 + getBits v 1 1 + getBits v 2 2) ∧ (s.chip.mode ≠ .off) :=
  ⟨0x5EA70006, State.reset, by decide⟩

/-- The premises of SpanResets, part 6, hold somewhere. -/
theorem witness_SpanResets_6 : ∃ (sp : Span) (s : State), (s.spanRuns sp .requested = true) :=
  ⟨2, ({ State.reset with chip := { State.reset.chip with spans := [(2, .requested)], mode := .service } }), by decide⟩

/-- The premises of SpanResets, part 7, hold somewhere. -/
theorem witness_SpanResets_7 : ∃ (sp donor : Span) (s : State), (s.spanRuns sp .logicReset = true) ∧ (donor ≠ sp) :=
  ⟨2, 3, ({ State.reset with chip := { State.reset.chip with spans := [(2, .logicReset)], mode := .service } }), by decide⟩

/-- The premises of SpanResets, part 8, hold somewhere. -/
theorem witness_SpanResets_8 : ∃ (sp donor : Span) (s : State), (s.spanRuns sp .logicReset = true) ∧ (donor ≠ sp) :=
  ⟨2, 3, { ({ State.reset with chip := { State.reset.chip with spans := [(2, .logicReset)], mode := .service } }) with progs := { State.reset.progs with deviant := [(30 * 2 ^ 25 + 5, some 9)] } }, by decide⟩

/-- The premises of SpanResets, part 9, hold somewhere. -/
theorem witness_SpanResets_9 : ∃ (sp : Span) (failed : List (Pass × PipeNo)) (s : State), (s.spanRuns sp .recopied = true) :=
  ⟨2, [(.ingress, 1)], ({ State.reset with chip := { State.reset.chip with spans := [(2, .recopied)], mode := .service } }), by decide⟩

/-- The premises of SpanResets, part 10, hold somewhere. -/
theorem witness_SpanResets_10 : ∃ (sp : Span) (s : State), (s.spanRuns sp .vectorsDone = true) :=
  ⟨2, ({ State.reset with chip := { State.reset.chip with spans := [(2, .vectorsDone)], mode := .service } }), by decide⟩

/-- The premises of SpanResets, part 11, hold somewhere. -/
theorem witness_SpanResets_11 : ∃ (sp : Span) (s : State), (s.spanRuns sp .replaying = true) ∧ (∀ e ∈ s.ord.pairs, e.1 < 16384) :=
  ⟨2, ({ State.reset with chip := { State.reset.chip with spans := [(2, .replaying)], mode := .service } }), by decide⟩

/-- The premises of SpanResets, part 12, hold somewhere. -/
theorem witness_SpanResets_12 : ∃ (sp : Span) (s : State), (s.spanRuns sp .replaying = true) :=
  ⟨2, ({ State.reset with chip := { State.reset.chip with spans := [(2, .replaying)], mode := .service } }), by decide⟩

/-- The premises of WarmResets, part 1, hold somewhere. -/
theorem witness_WarmResets_1 : ∃ (s : State), (s.boot.held = false) ∧ (s.chip.mode ≠ .recovery) ∧ (s.chip.mode ≠ .off) ∧ (s.warmAllowed = true) ∧ (∀ e ∈ s.rx.frames, e.2 = none) :=
  ⟨State.reset, by decide⟩

/-- The premises of WarmResets, part 2, hold somewhere. -/
theorem witness_WarmResets_2 : ∃ (s : State), (s.boot.held = false) ∧ (s.chip.mode ≠ .recovery) ∧ (s.chip.mode ≠ .off) ∧ (s.warmAllowed = true) :=
  ⟨State.reset, by decide⟩

/-- The premises of WarmResets, part 3, hold somewhere. -/
theorem witness_WarmResets_3 : ∃ (v : Word) (s : State), (getBits v 31 16 = 0x5EA7) ∧ (getBits v 0 0 = 0) ∧ (getBits v 1 1 = 1) ∧ (getBits v 2 2 = 0) ∧ (s.chip.mode ≠ .recovery) ∧ (s.chip.mode ≠ .off) ∧ (s.warmAllowed = true) :=
  ⟨0x5EA70002, State.reset, by decide⟩

/-- The premises of WarmResets, part 4, hold somewhere. -/
theorem witness_WarmResets_4 : ∃ (v : Word) (s : State), (getBits v 31 16 = 0x5EA7) ∧ (getBits v 0 0 = 0) ∧ (getBits v 1 1 = 1) ∧ (getBits v 2 2 = 0) ∧ (s.chip.mode ≠ .recovery) ∧ (s.chip.mode ≠ .off) ∧ (s.warmAllowed = true) ∧ (∀ e ∈ s.rx.frames, e.2 = none) :=
  ⟨0x5EA70002, State.reset, by decide⟩

/-- The premises of WarmResets, part 5, hold somewhere. -/
theorem witness_WarmResets_5 : ∃ (v : Word) (s : State), (getBits v 31 16 = 0x5EA7) ∧ (getBits v 0 0 = 0) ∧ (getBits v 1 1 = 1) ∧ (getBits v 2 2 = 0) ∧ (s.chip.mode = .safe) ∧ (s.bit 0x100008 30 = false) :=
  ⟨0x5EA70002, { State.reset with chip := { State.reset.chip with mode := .safe } }, by decide⟩

/-- The premises of WarmResets, part 6, hold somewhere. -/
theorem witness_WarmResets_6 : ∃ (s : State), (s.boot.held = false) ∧ (s.chip.mode = .safe) ∧ (s.bit 0x100008 30 = false) :=
  ⟨{ State.reset with chip := { State.reset.chip with mode := .safe } }, by decide⟩

/-- The premises of WarmResets, part 8, hold somewhere. -/
theorem witness_WarmResets_8 : ∃ (s : State), (s.chip.warm = .hold) :=
  ⟨{ State.reset with chip := { State.reset.chip with mode := .recovery, warm := .hold } }, by decide⟩

/-- The premises of WarmResets, part 9, hold somewhere. -/
theorem witness_WarmResets_9 : ∃ (s : State), (s.chip.warm = .sealed) :=
  ⟨{ State.reset with chip := { State.reset.chip with mode := .recovery, warm := .sealed } }, by decide⟩

/-- The premises of WarmResets, part 10, hold somewhere. -/
theorem witness_WarmResets_10 : ∃ (s : State), (s.chip.warm = .released) :=
  ⟨{ State.reset with chip := { State.reset.chip with mode := .recovery, warm := .released } }, by decide⟩

/-- The premises of WarmResets, part 11, hold somewhere. -/
theorem witness_WarmResets_11 : ∃ (failed : List (Span × Pass × PipeNo)) (stores : List (StoreRef × ReadCheck × Option (Fin 16))) (tables : List (Span × TableRef × ReadCheck × Option Span)) (s : State), (s.chip.warm = .audited) :=
  ⟨[], [], [], { State.reset with chip := { State.reset.chip with mode := .recovery, warm := .audited } }, by decide⟩

/-- The premises of WarmResets, part 12, hold somewhere. -/
theorem witness_WarmResets_12 : ∃ (s : State), (s.chip.warm = .resumed) ∧ (s.fld 0x4 7 4 ≠ 5) ∧ (∀ e ∈ s.ord.pairs, e.1 < 16384) :=
  ⟨{ State.reset with chip := { State.reset.chip with mode := .recovery, warm := .resumed } }, by decide⟩

/-- The premises of WarmResets, part 13, hold somewhere. -/
theorem witness_WarmResets_13 : ∃ (s : State), (s.chip.warm = .resumed) :=
  ⟨{ State.reset with chip := { State.reset.chip with mode := .recovery, warm := .resumed } }, by decide⟩

/-- The premises of WarmResets, part 14, hold somewhere. -/
theorem witness_WarmResets_14 : ∃ (s : State), (s.chip.warm = .resumed) ∧ (s.fld 0x4 7 4 = 5) :=
  ⟨({ State.reset with chip := { State.reset.chip with mode := .recovery, warm := .resumed } } : State).setFld 0x4 7 4 5, by decide⟩

/-- The premises of ColdStarts, part 1, hold somewhere. -/
theorem witness_ColdStarts_1 : ∃ (v : Word) (s : State), (getBits v 31 16 = 0x5EA7) ∧ (getBits v 0 0 = 1) ∧ (getBits v 1 1 = 0) ∧ (getBits v 2 2 = 0) ∧ (s.chip.mode ≠ .off) :=
  ⟨0x5EA70001, State.reset, by decide⟩

/-- The premises of ColdStarts, part 2, hold somewhere. -/
theorem witness_ColdStarts_2 : ∃ (s : State), (s.boot.held = false) ∧ (s.boot.noSupply = false) :=
  ⟨State.reset, by decide⟩

/-- The premises of ColdStarts, part 3, hold somewhere. -/
theorem witness_ColdStarts_3 : ∃ (s : State), (s.chip.mode = .off) ∧ (s.noPower = true) :=
  ⟨{ State.reset with chip := { State.reset.chip with mode := .off }, boot := { State.reset.boot with noSupply := true } }, by decide⟩

/-- The premises of ColdStarts, part 4, hold somewhere. -/
theorem witness_ColdStarts_4 : ∃ (v : Word) (s : State), (getBits v 31 16 ≠ 0x5EA7 ∨ 1 < getBits v 0 0 + getBits v 1 1 + getBits v 2 2) ∧ (s.chip.mode ≠ .off) :=
  ⟨1, State.reset, by decide⟩

/-- The premises of ColdStarts, part 5, hold somewhere. -/
theorem witness_ColdStarts_5 : ∃ (s : State), (s.boot.noSupply = true) :=
  ⟨{ State.reset with boot := { State.reset.boot with noSupply := true } }, by decide⟩

/-- The premises of ColdStarts, part 6, hold somewhere. -/
theorem witness_ColdStarts_6 : ∃ (strap : Bool) (bad : BitVec 8) (s : State), (s.chip.mode = .off) ∧ (s.noPower = true) :=
  ⟨true, 4, { State.reset with chip := { State.reset.chip with mode := .off }, boot := { State.reset.boot with noSupply := true } }, by decide⟩

/-- The premises of ColdStarts, part 8, hold somewhere. -/
theorem witness_ColdStarts_8 : ∃ (strap : Bool) (bad : BitVec 8) (s : State), (s.chip.mode = .off) ∧ (s.noPower = false) :=
  ⟨true, 4, { State.reset with chip := { State.reset.chip with mode := .off } }, by decide⟩

/-- The premises of ColdStarts, part 9, hold somewhere. -/
theorem witness_ColdStarts_9 : ∃ (s : State), (s.chip.mode = .startUp) ∧ (s.fc.selfTest = false) :=
  ⟨State.reset, by decide⟩

/-- The premises of ColdStarts, part 10, hold somewhere. -/
theorem witness_ColdStarts_10 : ∃ (s : State), (s.chip.mode = .startUp) ∧ (s.fc.selfTest = false) :=
  ⟨State.reset, by decide⟩

/-- The premises of BootsAndMoves, part 2, hold somewhere. -/
theorem witness_BootsAndMoves_2 : ∃ (u : Option (Fin 7)) (s : State), (s.chip.mode = .startUp) ∧ (s.bootPhase = 1) ∧ (u ≠ some 0) ∧ (s.manifestSigned s.boot.bank = false) ∧ (s.boot.trial = false) :=
  ⟨none, ({ State.reset with progs := { State.reset.progs with vk0 := [], vk1 := [] } } : State).setFld 0x800 31 28 1, by decide +kernel⟩

/-- The premises of BootsAndMoves, part 3, hold somewhere. -/
theorem witness_BootsAndMoves_3 : ∃ (s : State), (s.chip.mode = .startUp) ∧ (s.bootPhase = 1) :=
  ⟨State.reset.setFld 0x800 31 28 1, by decide⟩

/-- The premises of BootsAndMoves, part 4, hold somewhere. -/
theorem witness_BootsAndMoves_4 : ∃ (part : BitVec 4) (s : State), (s.chip.mode = .startUp) ∧ (s.boot.starting = true) ∧ (s.bootPhase ≠ 3) :=
  ⟨2, { State.reset with boot := { State.reset.boot with starting := true } }, by decide⟩

/-- The premises of BootsAndMoves, part 7, hold somewhere. -/
theorem witness_BootsAndMoves_7 : ∃ (c : Option (Span × Pass × PipeNo)) (s : State), (s.chip.mode = .startUp) ∧ (s.boot.starting = true) ∧ (s.bootPhase = 3) ∧ (s.boot.trial = false) :=
  ⟨none, ({ State.reset with boot := { State.reset.boot with starting := true } } : State).setPhase 3, by decide⟩

/-- The premises of BootsAndMoves, part 10, hold somewhere. -/
theorem witness_BootsAndMoves_10 : ∃ (c : Option (Span × Pass × PipeNo)) (b : Bool) (s : State), (s.chip.mode = .startUp) ∧ (s.boot.starting = true) ∧ (s.bootPhase ≠ 3) ∧ ((s.loadVendor c).2 = false) :=
  ⟨none, true, { State.reset with boot := { State.reset.boot with starting := true } }, by decide +kernel⟩

/-- The premises of BootsAndMoves, part 11, hold somewhere. -/
theorem witness_BootsAndMoves_11 : ∃ (s : State), (s.gotoCause .service = 0) ∧ (∀ e ∈ s.ord.pairs, e.1 < 16384) :=
  ⟨({ State.reset with chip := { State.reset.chip with committed := true }, fc := { State.reset.fc with selfTest := true } } : State).setPhase 4, by decide⟩

/-- The premises of BootsAndMoves, part 12, hold somewhere. -/
theorem witness_BootsAndMoves_12 : ∃ (s : State), (s.gotoCause .test = 0) ∧ (∀ e ∈ s.ord.pairs, e.1 < 16384) :=
  ⟨({ State.reset with chip := { State.reset.chip with committed := true }, fc := { State.reset.fc with selfTest := true } } : State).setPhase 4, by decide⟩

/-- The premises of BootsAndMoves, part 13, hold somewhere. -/
theorem witness_BootsAndMoves_13 : ∃ (s : State), (s.gotoCause .service = 0) :=
  ⟨({ State.reset with chip := { State.reset.chip with committed := true }, fc := { State.reset.fc with selfTest := true } } : State).setPhase 4, by decide⟩

/-- The premises of BootsAndMoves, part 14, hold somewhere. -/
theorem witness_BootsAndMoves_14 : ∃ (s : State), (s.gotoCause .test = 0) :=
  ⟨({ State.reset with chip := { State.reset.chip with committed := true }, fc := { State.reset.fc with selfTest := true } } : State).setPhase 4, by decide⟩

/-- The premises of BootsAndMoves, part 15, hold somewhere. -/
theorem witness_BootsAndMoves_15 : ∃ (s : State), (s.gotoCause .test ≠ 0) :=
  ⟨State.reset, by decide⟩

/-- The premises of BootsAndMoves, part 16, hold somewhere. -/
theorem witness_BootsAndMoves_16 : ∃ (s : State), (s.gotoCause .service ≠ 0) :=
  ⟨State.reset, by decide⟩

/-- The premises of TheJournalIsProgrammed, part 1, hold somewhere. -/
theorem witness_TheJournalIsProgrammed_1 : ∃ (r : JrnRecord) (rest : List JrnRecord) (s : State), (s.jrn.wbuf = r :: rest) ∧ (s.slotBusy = false) ∧ (s.suspended = false) ∧ (s.injects (srcChip 0x11 1) = none) :=
  ⟨{ lsn := 5, body := [], tag := 3 }, [], { State.reset with jrn := { State.reset.jrn with wbuf := [{ lsn := 5, body := [], tag := 3 }] } }, by decide⟩

/-- The premises of TheJournalIsProgrammed, part 2, hold somewhere. -/
theorem witness_TheJournalIsProgrammed_2 : ∃ (r : JrnRecord) (rest : List JrnRecord) (s : State), (s.jrn.wbuf = r :: rest) ∧ (s.slotBusy = false) ∧ (s.suspended = false) ∧ (s.injects (srcChip 0x11 1) = none) :=
  ⟨{ lsn := 5, body := [], tag := 3 }, [], { State.reset with jrn := { State.reset.jrn with wbuf := [{ lsn := 5, body := [], tag := 3 }] } }, by decide⟩

/-- The premises of TheJournalIsProgrammed, part 3, hold somewhere. -/
theorem witness_TheJournalIsProgrammed_3 : ∃ (b : Bool) (s : State), (s.jrn.wbuf = [] ∨ s.slotBusy = true ∨ s.suspended = true) :=
  ⟨true, State.reset, by decide⟩

/-- The premises of TheJournalIsProgrammed, part 4, hold somewhere. -/
theorem witness_TheJournalIsProgrammed_4 : ∃ (s : State), (s.groupServed 0 = false) :=
  ⟨State.reset.setMgmt 5 0 false, by decide⟩

/-- The premises of TheJournalIsProgrammed, part 5, hold somewhere. -/
theorem witness_TheJournalIsProgrammed_5 : ∃ (s : State), (s.groupServed 0 = true) ∧ (s.jrn.wbuf.length + s.ringsToCheck.length ≤ 4096) :=
  ⟨{ State.reset with jrn := { State.reset.jrn with executed := [(2, 7)] } }, by decide⟩

/-- The premises of TheJournalIsProgrammed, part 6, hold somewhere. -/
theorem witness_TheJournalIsProgrammed_6 : ∃ (v : Word) (s : State), (getBits v 0 0 = 1) ∧ (s.closed 0x5F0000 = false) :=
  ⟨1, State.reset, by decide⟩

/-- The premises of TheJournalIsProgrammed, part 7, hold somewhere. -/
theorem witness_TheJournalIsProgrammed_7 : ∃ (v : Word) (s : State), (getBits v 0 0 = 0) ∧ (s.closed 0x5F0000 = false) :=
  ⟨0, State.reset, by decide⟩

/-- The premises of TheJournalIsProgrammed, part 8, hold somewhere. -/
theorem witness_TheJournalIsProgrammed_8 : ∃ (s : State), (s.fld 0x300068 2 0 ≠ 0 ∨ s.bit 0x5F0000 0 = true ∨ s.jrn.noEntry = true) :=
  ⟨State.reset.setFld 0x300068 2 0 1, by decide⟩

/-- The premises of TheJournalIsProgrammed, part 9, hold somewhere. -/
theorem witness_TheJournalIsProgrammed_9 : ∃ (a b : Nat) (s : State), (s.bit 0x5F0004 2 = false) :=
  ⟨0, 0, State.reset, by decide⟩

/-- The premises of TheJournalIsProgrammed, part 10, hold somewhere. -/
theorem witness_TheJournalIsProgrammed_10 : ∃ (s : State), (s.fld 0x300068 2 0 = 0) ∧ (s.bit 0x5F0000 0 = false) ∧ (s.jrn.noEntry = false) :=
  ⟨State.reset.setFld 0x300068 2 0 0, by decide⟩

/-- The premises of TheJournalIsProgrammed, part 12, hold somewhere. -/
theorem witness_TheJournalIsProgrammed_12 : ∃ (sense fall : Nat) (s : State), (s.bit 0x5F0004 2 = true) :=
  ⟨0, 0, State.reset.setBit 0x5F0004 2 true, by decide⟩

/-- The premises of HoldUpAndVoltage, part 4, hold somewhere. -/
theorem witness_HoldUpAndVoltage_4 : ∃ (s : State), (s.changePending = false ∨ min 5 (s.slotArg 63) ≤ s.curOp ∨ s.pwr.rise = some (min 5 (s.slotArg 63)) ∨ s.pwr.pmbus.isSome = true) :=
  ⟨State.reset, by decide⟩

/-- The premises of HoldUpAndVoltage, part 5, hold somewhere. -/
theorem witness_HoldUpAndVoltage_5 : ∃ (up down : Bool) (s : State), (s.pwr.rise.isSome = true ∨ s.pwr.pmbus.isSome = true) :=
  ⟨true, false, { State.reset with pwr := { State.reset.pwr with pmbus := some 2 } }, by decide⟩

/-- The premises of HoldUpAndVoltage, part 6, hold somewhere. -/
theorem witness_HoldUpAndVoltage_6 : ∃ (uv : Nat) (s : State), (s.pwr.pmbus.isSome = true) ∧ (s.pwr.pmbusOk < 2) :=
  ⟨700000, { State.reset with pwr := { State.reset.pwr with pmbus := some 2 } }, by decide⟩

/-- The premises of HoldUpAndVoltage, part 7, hold somewhere. -/
theorem witness_HoldUpAndVoltage_7 : ∃ (s : State), (s.changePending = true) ∧ (s.curOp < min 5 (s.slotArg 63)) ∧ (s.pwr.rise ≠ some (min 5 (s.slotArg 63))) ∧ (s.pwr.pmbus = none) :=
  ⟨State.reset.setReg 0x2027F0 0x80000503, by decide⟩

/-- The premises of HoldUpAndVoltage, part 8, hold somewhere. -/
theorem witness_HoldUpAndVoltage_8 : ∃ (uv : Nat) (s : State), (s.pwr.pmbus = none) :=
  ⟨700000, State.reset, by decide⟩

/-- The premises of HoldUpAndVoltage, part 9, hold somewhere. -/
theorem witness_HoldUpAndVoltage_9 : ∃ (uv : Nat) (s : State), (s.pwr.pmbus.isSome = true) ∧ (2 ≤ s.pwr.pmbusOk) :=
  ⟨700000, { State.reset with pwr := { State.reset.pwr with pmbus := some 2, pmbusOk := 2 } }, by decide⟩

/-- The premises of HoldUpAndVoltage, part 10, hold somewhere. -/
theorem witness_HoldUpAndVoltage_10 : ∃ (up down : Bool) (s : State), (s.pwr.rise = none) ∧ (s.pwr.pmbus = none) :=
  ⟨true, false, State.reset, by decide⟩

/-- The premises of CapsMoveThePoint, part 1, hold somewhere. -/
theorem witness_CapsMoveThePoint_1 : ∃ (phases : Bool) (v : Word) (s : State), (s.closed 0x300000 = false) :=
  ⟨true, 3, State.reset, by decide⟩

/-- The premises of CapsMoveThePoint, part 5, hold somewhere. -/
theorem witness_CapsMoveThePoint_5 : ∃ (c : Nat) (s : State), (s.pwr.throttle = some c) ∧ (s.hotAt (s.throttleAt - 79) = false) :=
  ⟨3, { State.reset with pwr := { State.reset.pwr with throttle := some 3 } }, by decide⟩

/-- The premises of CapsMoveThePoint, part 6, hold somewhere. -/
theorem witness_CapsMoveThePoint_6 : ∃ (s : State), (s.pwr.tjmax = true) ∧ (s.hotAt (s.gradeMax - 160) = false) :=
  ⟨{ State.reset with pwr := { State.reset.pwr with tjmax := true } }, by decide⟩

/-- The premises of CapsMoveThePoint, part 8, hold somewhere. -/
theorem witness_CapsMoveThePoint_8 : ∃ (det : Fin 256) (s : State), (s.pwr.droops.contains det.val = true) :=
  ⟨0, { State.reset with pwr := { State.reset.pwr with droops := [0] } }, by decide⟩

/-- The premises of CapsMoveThePoint, part 9, hold somewhere. -/
theorem witness_CapsMoveThePoint_9 : ∃ (s : State), (s.pwr.alert = false) ∧ ((s.source alertSource).live = false) :=
  ⟨State.reset, by decide⟩

/-- The premises of CapsMoveThePoint, part 10, hold somewhere. -/
theorem witness_CapsMoveThePoint_10 : ∃ (s : State), (s.pwr.alert = false) :=
  ⟨State.reset, by decide⟩

/-- The premises of CapsMoveThePoint, part 11, hold somewhere. -/
theorem witness_CapsMoveThePoint_11 : ∃ (s : State), (s.pwr.alert = true) :=
  ⟨{ State.reset with pwr := { State.reset.pwr with alert := true } }, by decide⟩

/-- The premises of CapsMoveThePoint, part 12, hold somewhere. -/
theorem witness_CapsMoveThePoint_12 : ∃ (det : Fin 256) (s : State), (s.pwr.droops.contains det.val = false) :=
  ⟨200, State.reset, by decide⟩

/-- The premises of CapsMoveThePoint, part 14, hold somewhere. -/
theorem witness_CapsMoveThePoint_14 : ∃ (r : Rail) (uv : Nat) (ports : List Port) (s : State), (s.boot.held = false) ∧ (s.chip.mode ≠ .off) ∧ (r = .vio ∨ r = .vsram) ∧ (railGood r uv (s.pwr.target25 * 2500) = false) :=
  ⟨.vio, 0, [], State.reset, by decide⟩

/-- The premises of CapsMoveThePoint, part 15, hold somewhere. -/
theorem witness_CapsMoveThePoint_15 : ∃ (r : Rail) (uv : Nat) (p : Port) (s : State), (s.boot.held = false) ∧ (s.chip.mode ≠ .off) ∧ (r = .vsdA ∨ r = .vsdT) ∧ (railGood r uv (s.pwr.target25 * 2500) = false) :=
  ⟨.vsdA, 0, 7, State.reset, by decide⟩

/-- The premises of CapsMoveThePoint, part 16, hold somewhere. -/
theorem witness_CapsMoveThePoint_16 : ∃ (r : Rail) (uv : Nat) (ports : List Port) (s : State), (railGood r uv (s.pwr.target25 * 2500) = true) ∧ (s.chip.mode ≠ .off ∨ s.boot.held = true ∨ s.boot.noSupply = true ∨ (∃ q ∈ s.boot.railsOut, q ≠ r) ∨ s.boot.railsOut = []) :=
  ⟨.vio, 1800000, [], { State.reset with boot := { State.reset.boot with railsOut := [.vio] } }, by decide⟩

/-- The premises of CapsMoveThePoint, part 17, hold somewhere. -/
theorem witness_CapsMoveThePoint_17 : ∃ (r : Rail) (uv : Nat) (ports : List Port) (s : State), (railGood r uv (s.pwr.target25 * 2500) = true) ∧ (s.chip.mode = .off) ∧ (s.boot.held = false) ∧ (s.boot.noSupply = false) ∧ (s.boot.railsOut = [r]) :=
  ⟨.vio, 1800000, [], { State.reset with chip := { State.reset.chip with mode := .off }, boot := { State.reset.boot with railsOut := [.vio] } }, by decide⟩

/-- The premises of CapsMoveThePoint, part 18, hold somewhere. -/
theorem witness_CapsMoveThePoint_18 : ∃ (r : Rail) (uv : Nat) (ports : List Port) (s : State), (railGood r uv (s.pwr.target25 * 2500) = false) ∧ (s.boot.held = true ∨ s.chip.mode = .off ∨ r = .vcore) :=
  ⟨.vcore, 0, [], State.reset, by decide⟩

/-- The premises of ConcordRounds, part 1, hold somewhere. -/
theorem witness_ConcordRounds_1 : ∃ (s : State), (s.groupServed 1 = true) ∧ (s.bit 0x300040 31 = true) :=
  ⟨({ State.reset with pwr := { State.reset.pwr with member := true } }.setReg 0x300040 0x81010007), by decide⟩

/-- The premises of ConcordRounds, part 2, hold somewhere. -/
theorem witness_ConcordRounds_2 : ∃ (s : State), (s.groupServed 1 = true) ∧ (s.bit 0x300040 31 = false) ∧ (s.inGroup = true) :=
  ⟨{ State.reset with pwr := { State.reset.pwr with member := true } }, by decide⟩

/-- The premises of ConcordRounds, part 3, hold somewhere. -/
theorem witness_ConcordRounds_3 : ∃ (n : Four) (payload : List Byte) (s : State), (payload.length = 16) ∧ (s.pierUsable n = true) ∧ (s.groupServed 1 = true) ∧ (s.inGroup = false) ∧ (s.bit 0x300040 31 = false) :=
  ⟨0, List.replicate 16 0, (State.reset.setBit 0x2400000 31 true).setFld 0x2400004 31 29 5, by decide⟩

/-- The premises of ConcordRounds, part 4, hold somewhere. -/
theorem witness_ConcordRounds_4 : ∃ (n : Four) (payload : List Byte) (s : State), (payload.length = 16) ∧ (s.pierUsable n = true) ∧ (s.groupServed 1 = true) ∧ (s.inGroup = true) ∧ (s.bit 0x300040 (24 + n.val) = true) ∧ (beNat (sliceBytes payload 0 2) = s.fld 0x300040 15 0) ∧ (s.roundOver (beNat (sliceBytes payload 2 6) * 1000000000 + beNat (sliceBytes payload 8 4)) = true) :=
  ⟨0, [0, 7] ++ List.replicate 14 0, { ((({ State.reset with pwr := { State.reset.pwr with member := true } }.setReg 0x300040 0x81010007).setBit 0x2400000 31 true).setFld 0x2400004 31 29 5) with pwr := { State.reset.pwr with member := true, closed := some (1, 0) } }, by decide⟩

/-- The premises of ConcordRounds, part 5, hold somewhere. -/
theorem witness_ConcordRounds_5 : ∃ (n : Four) (payload : List Byte) (s : State), (payload.length = 16) ∧ (s.pierUsable n = true) ∧ (s.groupServed 1 = true) ∧ (s.inGroup = true) ∧ (s.bit 0x300040 (24 + n.val) = true) ∧ (beNat (sliceBytes payload 0 2) = s.fld 0x300040 15 0) ∧ (s.roundOver (beNat (sliceBytes payload 2 6) * 1000000000 + beNat (sliceBytes payload 8 4)) = false) ∧ (s.pwr.votes.find? (fun x => x.sec = beNat (sliceBytes payload 2 6) && x.ns = beNat (sliceBytes payload 8 4)) = none) :=
  ⟨0, [0, 7] ++ List.replicate 14 0, ((({ State.reset with pwr := { State.reset.pwr with member := true } }.setReg 0x300040 0x81010007).setBit 0x2400000 31 true).setFld 0x2400004 31 29 5), by decide⟩

/-- The premises of ConcordRounds, part 7, hold somewhere. -/
theorem witness_ConcordRounds_7 : ∃ (v : Vote) (s : State), (s.groupServed 1 = true) ∧ (s.openVote = some v) ∧ (s.inGroup = true) :=
  ⟨{ sec := 3, ns := 0, minOp := 2, minDev := 9, opened := true }, { ({ State.reset with pwr := { State.reset.pwr with member := true } }.setReg 0x300040 0x81010007) with pwr := { State.reset.pwr with member := true, votes := [{ sec := 3, ns := 0, minOp := 2, minDev := 9, opened := true }] } }, by decide⟩

/-- The premises of TelemetryIsKept, part 1, hold somewhere. -/
theorem witness_TelemetryIsKept_1 : ∃ (v : Word) (s : State), (getBits v 0 0 = 1) ∧ (s.closed 0x2500000 = false) :=
  ⟨1, State.reset, by decide⟩

/-- The premises of TelemetryIsKept, part 2, hold somewhere. -/
theorem witness_TelemetryIsKept_2 : ∃ (v : Word) (s : State), (getBits v 0 0 = 0) :=
  ⟨2, State.reset, by decide⟩

/-- The premises of TelemetryIsKept, part 3, hold somewhere. -/
theorem witness_TelemetryIsKept_3 : ∃ (m : Sixtyfour) (n : Bool) (v : Word) (s : State), (s.closed 0x2501000 = false) :=
  ⟨3, true, 5, State.reset, by decide⟩

/-- The premises of TelemetryIsKept, part 4, hold somewhere. -/
theorem witness_TelemetryIsKept_4 : ∃ (d : DescId) (h : Holder) (ci : Option Word) (s : State), ((s.info d).ended = false ∨ s.egr.copies.find? (fun c => decide (c.desc = d.val) && decide (c.holder = h)) = none) :=
  ⟨5, (holderCpu 0), none, State.reset, by decide⟩

/-- The premises of TelemetryIsKept, part 5, hold somewhere. -/
theorem witness_TelemetryIsKept_5 : ∃ (d : DescId) (h : Holder) (ci : Option Word) (s : State), (holderTarget h = 0x2000) :=
  ⟨5, (holderCpu 0), none, State.reset, by decide⟩

/-- The premises of TelemetryIsKept, part 6, hold somewhere. -/
theorem witness_TelemetryIsKept_6 : ∃ (d : DescId) (h : Holder) (ci : Option Word) (s : State), (holderTarget h ≠ 0x2000) ∧ (s.bit (0x2501000 + holderTarget h % 64 * 8) 30 = false) :=
  ⟨5, (holderMirror 1 0), none, State.reset, by decide⟩

/-- The premises of TelemetryIsKept, part 7, hold somewhere. -/
theorem witness_TelemetryIsKept_7 : ∃ (d : DescId) (h : Holder) (ci : Option Word) (c : CopyRec) (s : State), (s.egr.copies.find? (fun c => decide (c.desc = d.val) && decide (c.holder = h)) = some c) ∧ ((s.info d).ended = true) ∧ (s.sharedFull = false) ∧ ((s.checkGuards d (s.desc d).dest h).2 = true) ∧ (holderTarget h = 0x2000) ∧ (s.bit (0x402000 + c.cpu % 256 * 4) 31 = false) ∧ ((s.desc d).alloc = true) ∧ ((s.desc d).quar = false) ∧ ((s.desc d).cells ≠ 0) ∧ ((s.cellsOf d).Nodup) ∧ (∀ c ∈ s.cellsOf d, (s.link c).alloc = true ∧ (s.link c).refcnt = (s.link (s.desc d).first).refcnt ∧ (s.link c).owner = (s.link (s.desc d).first).owner ∧ ((s.link c).last = true → some c = (s.cellsOf d).getLast?)) ∧ (2 ≤ (s.link (s.desc d).first).refcnt) ∧ ((s.link (s.desc d).first).refcnt ≤ 256) :=
  ⟨5, (holderCpu 0), none, { desc := 5, holder := (holderCpu 0), ts := 7, egress := false, dropped := false, out := none, reason := 0, cpu := 3 }, { (((((State.reset.setDesc 5 { alloc := true, cells := 1, first := 7, last := 7, dest := 3 }).setLink 7 { alloc := true, refcnt := 2, owner := 9, last := true, guard := crc32c [0] ^^^ guardFold 7 3 0 }).setInfo 5 { ended := true, good := true }).setReg 0x80000C 0x1000) : State) with buf.limits := [(0x800008, 0x02000000)], egr := { State.reset.egr with copies := [{ desc := 5, holder := (holderCpu 0), ts := 7, egress := false, dropped := false, out := none, reason := 0, cpu := 3 }] } }, by decide⟩

/-- The premises of TelemetryIsKept, part 8, hold somewhere. -/
theorem witness_TelemetryIsKept_8 : ∃ (d : DescId) (h : Holder) (ci : Option Word) (c : CopyRec) (b : RxBuf) (bs : List RxBuf) (s : State), (s.egr.copies.find? (fun c => decide (c.desc = d.val) && decide (c.holder = h)) = some c) ∧ ((s.info d).ended = true) ∧ (s.sharedFull = false) ∧ ((s.checkGuards d (s.desc d).dest h).2 = true) ∧ (holderTarget h = 0x2000) ∧ (s.bit (0x402000 + c.cpu % 256 * 4) 31 = true) ∧ (s.sqRuns (s.fld (0x402000 + c.cpu % 256 * 4) 11 0) = true) ∧ (s.sqEn (s.fld (0x402000 + c.cpu % 256 * 4) 11 0) = true) ∧ (s.sqKind (s.fld (0x402000 + c.cpu % 256 * 4) 11 0) = 3) ∧ (s.hostOn = true) ∧ ((s.sq (s.fld (0x402000 + c.cpu % 256 * 4) 11 0)).bufs = b :: bs) ∧ (b.code = 0) ∧ (s.cqFree (s.sqCq (s.fld (0x402000 + c.cpu % 256 * 4) 11 0)) ≠ 0) ∧ ((s.desc d).alloc = true) ∧ ((s.desc d).quar = false) ∧ ((s.desc d).cells ≠ 0) ∧ ((s.cellsOf d).Nodup) ∧ (∀ c ∈ s.cellsOf d, (s.link c).alloc = true ∧ (s.link c).refcnt = (s.link (s.desc d).first).refcnt ∧ (s.link c).owner = (s.link (s.desc d).first).owner ∧ ((s.link c).last = true → some c = (s.cellsOf d).getLast?)) ∧ (2 ≤ (s.link (s.desc d).first).refcnt) ∧ ((s.link (s.desc d).first).refcnt ≤ 256) :=
  ⟨5, (holderCpu 0), none, { desc := 5, holder := (holderCpu 0), ts := 7, egress := false, dropped := false, out := none, reason := 0, cpu := 3 }, { idx := 4, tag := 9, addr := 0x1000, len := 300, code := 0 }, [], { ((((({ (((((State.reset.setDesc 5 { alloc := true, cells := 1, first := 7, last := 7, dest := 3 }).setLink 7 { alloc := true, refcnt := 2, owner := 9, last := true, guard := crc32c [0] ^^^ guardFold 7 3 0 }).setInfo 5 { ended := true, good := true }).setReg 0x80000C 0x1000) : State) with buf.limits := [(0x800008, 0x02000000)], egr := { State.reset.egr with copies := [{ desc := 5, holder := (holderCpu 0), ts := 7, egress := false, dropped := false, out := none, reason := 0, cpu := 3 }] } } : State).setReg 0x40200C 0x80000002).setReg 0x420098 0xB2001000).setReg 0x42009C 0x20000000).setReg 0x460098 0x82000000) with hq := { State.reset.hq with busMaster := true, pcieUp := true, sq := [(2, { bufs := [{ idx := 4, tag := 9, addr := 0x1000, len := 300, code := 0 }] })] } }, by decide⟩

/-- The premises of TelemetryIsKept, part 11, hold somewhere. -/
theorem witness_TelemetryIsKept_11 : ∃ (d : DescId) (h : Holder) (ci : Option Word) (c : CopyRec) (s : State), (s.egr.copies.find? (fun c => decide (c.desc = d.val) && decide (c.holder = h)) = some c) ∧ (holderTarget h ≠ 0x2000) ∧ ((s.info d).ended = true) ∧ (s.sharedFull = true) ∧ ((s.desc d).alloc = true) ∧ ((s.desc d).quar = false) ∧ ((s.desc d).cells ≠ 0) ∧ ((s.cellsOf d).Nodup) ∧ (∀ c ∈ s.cellsOf d, (s.link c).alloc = true ∧ (s.link c).refcnt = (s.link (s.desc d).first).refcnt ∧ (s.link c).owner = (s.link (s.desc d).first).owner ∧ ((s.link c).last = true → some c = (s.cellsOf d).getLast?)) ∧ (2 ≤ (s.link (s.desc d).first).refcnt) ∧ ((s.link (s.desc d).first).refcnt ≤ 256) :=
  ⟨5, (holderMirror 1 0), none, { desc := 5, holder := (holderMirror 1 0), ts := 7, egress := false, dropped := false, out := none, reason := 0, cpu := 3 }, {  (((((State.reset.setDesc 5 { alloc := true, cells := 1, first := 7, last := 7, dest := 3 }).setLink 7 { alloc := true, refcnt := 2, owner := 9, last := true, guard := crc32c [0] ^^^ guardFold 7 3 0 }).setInfo 5 { ended := true, good := true }).setReg 0x80000C 0x1000) : State) with buf.limits := [(0x800008, 0x02000000)], buf.globSh := 100000000, egr := { State.reset.egr with copies := [{ desc := 5, holder := (holderMirror 1 0), ts := 7, egress := false, dropped := false, out := none, reason := 0, cpu := 3 }] } }, by decide⟩

/-- The premises of ServosAndBases, part 1, hold somewhere. -/
theorem witness_ServosAndBases_1 : ∃ (n : Four) (theta : Int) (rest : List Int) (s : State), ((s.tb n).waiting = theta :: rest) ∧ (s.tbState n = 2) ∧ (absInt theta ≤ (max 1 (s.fld (0x20000C + n.val * 0x40) 31 16) : Nat) * 65536) :=
  ⟨1, 5, [], (State.reset.setTb 1 { waiting := [5] }).setFld 0x200044 1 0 2, by decide⟩

/-- The premises of ServosAndBases, part 2, hold somewhere. -/
theorem witness_ServosAndBases_2 : ∃ (n : Four) (theta : Int) (rest : List Int) (s : State), ((s.tb n).waiting = theta :: rest) ∧ (s.tbState n = 2) ∧ ((max 1 (s.fld (0x20000C + n.val * 0x40) 31 16) : Nat) * 65536 < wrap64 (absInt theta)) ∧ (s.fld (0x200004 + n.val * 0x40) 3 2 < 3) :=
  ⟨1, 99999999999, [], (State.reset.setTb 1 { waiting := [99999999999] }).setFld 0x200044 1 0 2, by decide⟩

/-- The premises of ServosAndBases, part 3, hold somewhere. -/
theorem witness_ServosAndBases_3 : ∃ (n : Four) (theta : Int) (rest : List Int) (s : State), ((s.tb n).waiting = theta :: rest) ∧ (s.tbState n ≠ 2) ∧ (absInt theta ≤ (max 1 (s.fld (0x20000C + n.val * 0x40) 31 16) : Nat) * 65536) :=
  ⟨1, 5, [], State.reset.setTb 1 { waiting := [5] }, by decide⟩

/-- The premises of ServosAndBases, part 4, hold somewhere. -/
theorem witness_ServosAndBases_4 : ∃ (n : Four) (theta : Int) (rest : List Int) (s : State), ((s.tb n).waiting = theta :: rest) ∧ (s.tbState n ≠ 2) ∧ ((max 1 (s.fld (0x20000C + n.val * 0x40) 31 16) : Nat) * 65536 < wrap64 (absInt theta)) :=
  ⟨1, 99999999999, [], State.reset.setTb 1 { waiting := [99999999999] }, by decide⟩

/-- The premises of ServosAndBases, part 5, hold somewhere. -/
theorem witness_ServosAndBases_5 : ∃ (n : Four) (hi : Word) (s : State), (s.tbSource n = 1) ∧ (s.fc.injHeld ≠ some (srcChip 0x12 n)) ∧ ((s.tb n).waiting.length < 4) :=
  ⟨2, 0xFFFFFFFF, State.reset.setFld 0x200080 31 28 1, by decide⟩

/-- The premises of ServosAndBases, part 6, hold somewhere. -/
theorem witness_ServosAndBases_6 : ∃ (n : Four) (hi : Word) (s : State), (s.tbSource n = 1) ∧ (s.fc.injHeld ≠ some (srcChip 0x12 n)) ∧ (4 ≤ (s.tb n).waiting.length) :=
  ⟨2, 1, (State.reset.setTb 2 { waiting := [1, 2, 3, 4] }).setFld 0x200080 31 28 1, by decide⟩

/-- The premises of ServosAndBases, part 7, hold somewhere. -/
theorem witness_ServosAndBases_7 : ∃ (n : Four) (hi : Word) (s : State), (s.tbSource n ≠ 1 ∨ s.fc.injHeld = some (srcChip 0x12 n)) :=
  ⟨2, 1, State.reset, by decide⟩

/-- The premises of ServosAndBases, part 8, hold somewhere. -/
theorem witness_ServosAndBases_8 : ∃ (i : Fin 2) (s : State), (s.fc.injHeld ≠ some (srcChip 0x12 5)) :=
  ⟨1, State.reset, by decide⟩

/-- The premises of ServosAndBases, part 9, hold somewhere. -/
theorem witness_ServosAndBases_9 : ∃ (i : Fin 2) (s : State), (s.fc.injHeld = some (srcChip 0x12 5)) :=
  ⟨1, { State.reset with fc := { State.reset.fc with injHeld := some (srcChip 0x12 5) } }, by decide⟩

/-- The premises of ServosAndBases, part 10, hold somewhere. -/
theorem witness_ServosAndBases_10 : ∃ (n : Four) (s : State), (s.tbState n = 1 ∨ s.tbState n = 2) :=
  ⟨1, State.reset.setFld 0x200044 1 0 2, by decide⟩

/-- The premises of ServosAndBases, part 11, hold somewhere. -/
theorem witness_ServosAndBases_11 : ∃ (n : Four) (v : Word) (s : State), (getBits v 31 28 = 0) ∧ (s.closed 0x200000 = false) :=
  ⟨0, 0, State.reset, by decide⟩

/-- The premises of ServosAndBases, part 12, hold somewhere. -/
theorem witness_ServosAndBases_12 : ∃ (n : Four) (v : Word) (s : State), (getBits v 31 28 ≠ 0) ∧ (getBits v 31 28 < 8) ∧ (s.closed 0x200000 = false) :=
  ⟨0, 0x10000000, State.reset, by decide⟩

/-- The premises of ServosAndBases, part 13, hold somewhere. -/
theorem witness_ServosAndBases_13 : ∃ (v : Word) (s : State), (getBits v 0 0 = 1) ∧ (s.closed 0x200100 = false) :=
  ⟨1, State.reset, by decide⟩

/-- The premises of ServosAndBases, part 16, hold somewhere. -/
theorem witness_ServosAndBases_16 : ∃ (s : State), (s.closed 0x200180 = false) :=
  ⟨State.reset, by decide⟩

/-- The premises of ServosAndBases, part 17, hold somewhere. -/
theorem witness_ServosAndBases_17 : ∃ (s : State), (s.bit 0x2001C0 31 = true) ∧ (s.tbState s.ppsBase ≠ 0) :=
  ⟨(State.reset.setBit 0x2001C0 31 true).setFld 0x200004 1 0 2, by decide⟩

/-- The premises of ServosAndBases, part 18, hold somewhere. -/
theorem witness_ServosAndBases_18 : ∃ (s : State), (s.time.ppsOut = true) :=
  ⟨{ State.reset with time := { State.reset.time with ppsOut := true } }, by decide⟩

/-- The premises of CadenceSlots, part 1, hold somewhere. -/
theorem witness_CadenceSlots_1 : ∃ (v : Word) (s : State), (getBits v 8 8 ≠ s.fld 0x201000 8 8) ∧ (getBits v 31 31 = 0) ∧ (s.closed 0x201000 = false) :=
  ⟨0x100, State.reset, by decide⟩

/-- The premises of CadenceSlots, part 2, hold somewhere. -/
theorem witness_CadenceSlots_2 : ∃ (v : Word) (s : State), (getBits v 8 8 = s.fld 0x201000 8 8) ∧ (getBits v 31 31 = 0) ∧ (s.closed 0x201000 = false) :=
  ⟨3, State.reset, by decide⟩

/-- The premises of CadenceSlots, part 3, hold somewhere. -/
theorem witness_CadenceSlots_3 : ∃ (s : State), (slewed s.time.d s.slewPpm (tbStep (s.tb s.following)) = 0) :=
  ⟨State.reset, by decide⟩

/-- The premises of CadenceSlots, part 4, hold somewhere. -/
theorem witness_CadenceSlots_4 : ∃ (s : State), (slewed s.time.d s.slewPpm (tbStep (s.tb s.following)) ≠ 0) :=
  ⟨{ State.reset with time := { State.reset.time with d := 2 ^ 80 } }, by decide⟩

/-- The premises of CadenceSlots, part 5, hold somewhere. -/
theorem witness_CadenceSlots_5 : ∃ (v : Word) (s : State), (s.closed 0x201000 = false) ∧ (getBits v 31 31 = 1) ∧ (∀ i, i < 64 → s.slotArmed i = false) :=
  ⟨0x80000000, { State.reset with time := { State.reset.time with d := 2 ^ 80 } }, by decide⟩

/-- The premises of CadenceSlots, part 6, hold somewhere. -/
theorem witness_CadenceSlots_6 : ∃ (v : Word) (i : Nat) (s : State), (s.closed 0x201000 = false) ∧ (getBits v 31 31 = 1) ∧ (i < 64) ∧ (s.slotArmed i = true) :=
  ⟨0x80000000, 7, State.reset.setBit 0x2020F0 31 true, by decide⟩

/-- The premises of CadenceSlots, part 7, hold somewhere. -/
theorem witness_CadenceSlots_7 : ∃ (i : Sixtyfour) (r : Fin 5) (v : Word) (host : Bool) (s : State), (slotWriteCause s (s.setReg (0x202000 + i.val * 0x20 + r.val * 4) (v &&& (if r.val = 1 then 0xFFFF else if r.val = 2 then 0x3FFFFFFF else if r.val = 4 then 0x8000FF0F else 0xFFFFFFFF))) i r v host = 0) ∧ (host = false ∨ s.closed (0x202000 + i.val * 0x20 + r.val * 4) = false) :=
  ⟨7, 2, 5, true, State.reset, by decide⟩

/-- The premises of CadenceSlots, part 8, hold somewhere. -/
theorem witness_CadenceSlots_8 : ∃ (i : Sixtyfour) (r : Fin 5) (v : Word) (host : Bool) (s : State), (slotWriteCause s (s.setReg (0x202000 + i.val * 0x20 + r.val * 4) (v &&& (if r.val = 1 then 0xFFFF else if r.val = 2 then 0x3FFFFFFF else if r.val = 4 then 0x8000FF0F else 0xFFFFFFFF))) i r v host ≠ 0) ∧ (host = false ∨ s.closed (0x202000 + i.val * 0x20 + r.val * 4) = false) :=
  ⟨63, 2, 5, true, State.reset, by decide⟩

/-- The premises of CadenceSlots, part 9, hold somewhere. -/
theorem witness_CadenceSlots_9 : ∃ (slots : DWord) (s : State), (∀ i, i < 64 → (slots.getLsbD i && s.slotArmed i) = false) :=
  ⟨0, State.reset, by decide⟩

/-- The premises of CadenceSlots, part 10, hold somewhere. -/
theorem witness_CadenceSlots_10 : ∃ (slots : DWord) (i : Nat) (s : State), (i < 64) ∧ ((List.range 64).filter (fun i => slots.getLsbD i && s.slotArmed i) = [i]) ∧ (s.marksFire = true) ∧ (s.slotEvent i = 4) :=
  ⟨128, 7, State.reset.setReg 0x2020F0 0x80000004, by decide⟩

/-- The premises of CadenceSlots, part 11, hold somewhere. -/
theorem witness_CadenceSlots_11 : ∃ (slots : DWord) (i : Nat) (s : State), (i < 64) ∧ ((List.range 64).filter (fun i => slots.getLsbD i && s.slotArmed i) = [i]) ∧ (s.chip.mode = .safe) ∧ (s.progs.joint ≠ some i) :=
  ⟨128, 7, ({ State.reset with chip := { State.reset.chip with mode := .safe } } : State).setReg 0x2020F0 0x80000004, by decide⟩

/-- The premises of JointsFlipTheGenerations, part 1, hold somewhere. -/
theorem witness_JointsFlipTheGenerations_1 : ∃ (v : Word) (s : State), (getBits v 8 8 = 1) ∧ (getBits v 9 9 = 0) ∧ (getBits v 11 11 = 0) ∧ (s.progs.joint = none) ∧ ((s.writeOrdinary 0x200 v).armCause ((s.writeOrdinary 0x200 v).fld 0x200 5 0) = 0) :=
  ⟨0x107, ((State.reset.setFld 0x10C 26 24 2).setReg 0x2020E0 1).setReg 0x2020F0 1, by decide⟩

/-- The premises of JointsFlipTheGenerations, part 2, hold somewhere. -/
theorem witness_JointsFlipTheGenerations_2 : ∃ (v : Word) (s : State), (getBits v 8 8 = 1) ∧ (getBits v 9 9 = 0) ∧ (getBits v 11 11 = 0) ∧ (s.progs.joint = none) ∧ ((s.writeOrdinary 0x200 v).armCause ((s.writeOrdinary 0x200 v).fld 0x200 5 0) ≠ 0) :=
  ⟨0x107, State.reset, by decide⟩

/-- The premises of JointsFlipTheGenerations, part 3, hold somewhere. -/
theorem witness_JointsFlipTheGenerations_3 : ∃ (v : Word) (s : State), (getBits v 8 8 = 0) ∧ (getBits v 9 9 = 1) ∧ (getBits v 11 11 = 0) ∧ (s.progs.joint = none ∨ s.progs.jointChecked = true) :=
  ⟨0x200, State.reset, by decide⟩

/-- The premises of JointsFlipTheGenerations, part 4, hold somewhere. -/
theorem witness_JointsFlipTheGenerations_4 : ∃ (v : Word) (s : State), (getBits v 8 8 = 0) ∧ (getBits v 9 9 = 0) ∧ (getBits v 11 11 = 1) ∧ (s.chip.mode = .startUp ∨ s.chip.mode = .test) ∧ (s.checkCause true ≠ 0) :=
  ⟨0x800, State.reset, by decide⟩

/-- The premises of JointsFlipTheGenerations, part 5, hold somewhere. -/
theorem witness_JointsFlipTheGenerations_5 : ∃ (s : State), (s.progs.joint = none ∨ s.progs.jointChecked = true) :=
  ⟨State.reset, by decide⟩

/-- The premises of JointsFlipTheGenerations, part 6, hold somewhere. -/
theorem witness_JointsFlipTheGenerations_6 : ∃ (v : Word) (s : State), (getBits v 8 8 = 0) ∧ (getBits v 9 9 = 1) ∧ (getBits v 11 11 = 0) ∧ (s.progs.joint.isSome = true) ∧ (s.progs.jointChecked = false) :=
  ⟨0x200, { State.reset with progs := { State.reset.progs with joint := some 7 } }, by decide⟩

/-- The premises of JointsFlipTheGenerations, part 7, hold somewhere. -/
theorem witness_JointsFlipTheGenerations_7 : ∃ (v : Word) (s : State), (getBits v 8 8 = 0) ∧ (getBits v 9 9 = 0) ∧ (getBits v 11 11 = 1) ∧ (s.chip.mode = .startUp ∨ s.chip.mode = .test) ∧ (s.checkCause true = 0) :=
  ⟨0x800, State.reset.setFld 0x10C 26 24 2, by decide⟩

/-- The premises of JointsFlipTheGenerations, part 8, hold somewhere. -/
theorem witness_JointsFlipTheGenerations_8 : ∃ (v : Word) (s : State), (getBits v 8 8 = 0) ∧ (getBits v 9 9 = 0) ∧ (getBits v 11 11 = 1) ∧ (s.chip.mode = .service) :=
  ⟨0x800, { State.reset with chip := { State.reset.chip with mode := .service } }, by decide⟩

/-- The premises of JointsFlipTheGenerations, part 9, hold somewhere. -/
theorem witness_JointsFlipTheGenerations_9 : ∃ (s : State), (s.progs.joint.isSome = true) ∧ (s.progs.jointChecked = false) ∧ (s.checkCause false = 0) :=
  ⟨({ State.reset with progs := { State.reset.progs with joint := some 7 } } : State).setFld 0x10C 26 24 2, by decide⟩

/-- The premises of JointsFlipTheGenerations, part 10, hold somewhere. -/
theorem witness_JointsFlipTheGenerations_10 : ∃ (s : State), (s.progs.joint.isSome = true) ∧ (s.progs.jointChecked = false) ∧ (s.checkCause false ≠ 0) :=
  ⟨{ State.reset with progs := { State.reset.progs with joint := some 7 } }, by decide⟩

/-- The premises of LoadsAndTheWindow, part 1, hold somewhere. -/
theorem witness_LoadsAndTheWindow_1 : ∃ (v : Word) (s : State), (getBits v 0 0 = 1) ∧ (s.loadBusy = false) ∧ (s.chip.mode ≠ .recovery) ∧ (s.chip.mode ≠ .safe) ∧ (s.progs.joint = none) ∧ (s.shadowState ≠ 5) :=
  ⟨3, State.reset, by decide⟩

/-- The premises of LoadsAndTheWindow, part 2, hold somewhere. -/
theorem witness_LoadsAndTheWindow_2 : ∃ (v : Word) (s : State), (getBits v 0 0 = 0) :=
  ⟨2, State.reset, by decide⟩

/-- The premises of LoadsAndTheWindow, part 3, hold somewhere. -/
theorem witness_LoadsAndTheWindow_3 : ∃ (v : Word) (s : State), (getBits v 0 0 = 1) ∧ (s.loadBusy = true) :=
  ⟨1, State.reset.setFld 0x12C 1 0 1, by decide⟩

/-- The premises of LoadsAndTheWindow, part 4, hold somewhere. -/
theorem witness_LoadsAndTheWindow_4 : ∃ (v : Word) (s : State), (getBits v 0 0 = 1) ∧ (s.loadBusy = false) ∧ (s.chip.mode = .recovery ∨ s.chip.mode = .safe ∨ s.progs.joint.isSome = true ∨ s.shadowState = 5) :=
  ⟨1, { State.reset with chip := { State.reset.chip with mode := .safe } }, by decide⟩

/-- The premises of LoadsAndTheWindow, part 5, hold somewhere. -/
theorem witness_LoadsAndTheWindow_5 : ∃ (img : Option (List Byte)) (bad : Option (Span × Pass × PipeNo)) (s : State), (s.loadBusy = false) :=
  ⟨none, none, State.reset, by decide⟩

/-- The premises of LoadsAndTheWindow, part 6, hold somewhere. -/
theorem witness_LoadsAndTheWindow_6 : ∃ (off : Offset) (v : Word) (s : State), (s.closed 0x3000000 = false) ∧ (winReg (winSelOf (s.reg 0x180)) (off.toNat / 4 * 4) = none) :=
  ⟨0, 5, State.reset, by decide⟩

/-- The premises of LoadsAndTheWindow, part 7, hold somewhere. -/
theorem witness_LoadsAndTheWindow_7 : ∃ (bad : Option (Span × Pass × PipeNo)) (s : State), (s.loadBusy = true) :=
  ⟨none, State.reset.setFld 0x12C 1 0 1, by decide⟩

/-- The premises of LoadsAndTheWindow, part 8, hold somewhere. -/
theorem witness_LoadsAndTheWindow_8 : ∃ (img : List Byte) (bad : Option (Span × Pass × PipeNo)) (s : State), (s.loadBusy = true) ∧ ((s.checkImage img).1 ≠ .ok) :=
  ⟨[], none, State.reset.setFld 0x12C 1 0 1, by decide⟩

/-- The premises of LoadsAndTheWindow, part 9, hold somewhere. -/
theorem witness_LoadsAndTheWindow_9 : ∃ (img : List Byte) (s : State), (s.loadBusy = true) ∧ ((s.checkImage img).1 = .ok) :=
  ⟨(leBytes 4 0x4B4C5450 ++ [1, 0, 1, 0] ++ leBytes 4 1 ++ leBytes 4 0 ++ leBytes 4 64 ++ List.replicate 44 0), ({ State.reset with progs := { State.reset.progs with loadCust := true } } : State).setFld 0x12C 1 0 1, by decide +kernel⟩

/-- The premises of LoadsAndTheWindow, part 10, hold somewhere. -/
theorem witness_LoadsAndTheWindow_10 : ∃ (img : List Byte) (n : Span) (ps : Pass) (p : PipeNo) (s : State), (s.loadBusy = true) ∧ ((s.checkImage img).1 = .ok) :=
  ⟨(leBytes 4 0x4B4C5450 ++ [1, 0, 1, 0] ++ leBytes 4 1 ++ leBytes 4 0 ++ leBytes 4 64 ++ List.replicate 44 0), 1, .ingress, 2, ({ State.reset with progs := { State.reset.progs with loadCust := true } } : State).setFld 0x12C 1 0 1, by decide +kernel⟩

/-- The premises of LoadsAndTheWindow, part 11, hold somewhere. -/
theorem witness_LoadsAndTheWindow_11 : ∃ (w : StoreRef) (d : Fin 16) (s : State), (s.injects (storeSourceOf w) = none) :=
  ⟨{ kind := .routine, span := 1, pass := .ingress, pipe := 2, stage := 3, genB := true, index := 5 }, 3, State.reset, by decide⟩

/-- The premises of LoadsAndTheWindow, part 12, hold somewhere. -/
theorem witness_LoadsAndTheWindow_12 : ∃ (w : StoreRef) (g : Option (Fin 16)) (s : State), (s.injects (storeSourceOf w) = none) :=
  ⟨{ kind := .routine, span := 1, pass := .ingress, pipe := 2, stage := 3, genB := true, index := 5 }, none, State.reset, by decide⟩

/-- The premises of LoadsAndTheWindow, part 13, hold somewhere. -/
theorem witness_LoadsAndTheWindow_13 : ∃ (w : StoreRef) (g : Option (Fin 16)) (s : State), (s.injects (storeSourceOf w) = none) :=
  ⟨{ kind := .routine, span := 1, pass := .ingress, pipe := 2, stage := 3, genB := true, index := 5 }, none, State.reset, by decide⟩

/-- The premises of LoadsAndTheWindow, part 14, hold somewhere. -/
theorem witness_LoadsAndTheWindow_14 : ∃ (w : StoreRef) (s : State), (s.injects (storeSourceOf w) = none) ∧ (w.genB = s.activeGen) ∧ (storeOfSpan w = false) :=
  ⟨{ kind := .dispatch, span := 1, pass := .ingress, pipe := 2, stage := 3, genB := false, index := 5 }, State.reset, by decide⟩

/-- The premises of LoadsAndTheWindow, part 15, hold somewhere. -/
theorem witness_LoadsAndTheWindow_15 : ∃ (w : StoreRef) (s : State), (s.injects (storeSourceOf w) = none) ∧ (w.genB = !s.activeGen) :=
  ⟨{ kind := .routine, span := 1, pass := .ingress, pipe := 2, stage := 3, genB := true, index := 5 }, State.reset, by decide⟩

/-- The premises of LoadsAndTheWindow, part 16, hold somewhere. -/
theorem witness_LoadsAndTheWindow_16 : ∃ (off : Offset) (x : WinReg) (s : State), (s.closed 0x3000000 = false) ∧ (winReg (winSelOf (s.reg 0x180)) (off.toNat / 4 * 4) = some x) ∧ (x.k = 0) :=
  ⟨0x3000000, { item := .store 1 0 0, k := 0 }, State.reset, by decide⟩

/-- The premises of LoadsAndTheWindow, part 17, hold somewhere. -/
theorem witness_LoadsAndTheWindow_17 : ∃ (off : Offset) (x : WinReg) (v : Nat) (s : State), (s.closed 0x3000000 = false) ∧ (winReg (winSelOf (s.reg 0x180)) (off.toNat / 4 * 4) = some x) ∧ (x.k ≠ 0) ∧ (s.progs.captured = some (winId (winSelOf (s.reg 0x180)) x.item, v)) :=
  ⟨0x3000004, { item := .store 1 0 0, k := 1 }, 5, { State.reset with progs := { State.reset.progs with captured := some (winId (winSelOf (State.reset.reg 0x180)) (.store 1 0 0), 5) } }, by decide⟩

/-- The premises of LoadsAndTheWindow, part 18, hold somewhere. -/
theorem witness_LoadsAndTheWindow_18 : ∃ (off : Offset) (v : Word) (x : WinReg) (u row : Nat) (s : State), (s.closed 0x3000000 = false) ∧ (winReg (winSelOf (s.reg 0x180)) (off.toNat / 4 * 4) = some x) ∧ (x.item = .sram u row) ∧ (x.k < 7) ∧ (s.chip.mode = .test) :=
  ⟨0x3400000, 5, { item := .sram 0 0, k := 0 }, 0, 0, { State.reset with chip := { State.reset.chip with mode := .test } }, by decide⟩

/-- The premises of LoadsAndTheWindow, part 19, hold somewhere. -/
theorem witness_LoadsAndTheWindow_19 : ∃ (off : Offset) (v : Word) (x : WinReg) (u row w : Nat) (s : State), (s.closed 0x3000000 = false) ∧ (winReg (winSelOf (s.reg 0x180)) (off.toNat / 4 * 4) = some x) ∧ (x.item = .sram u row) ∧ (x.k = 7) ∧ (s.progs.staging = some (winId (winSelOf (s.reg 0x180)) x.item, w)) ∧ ((winSelOf (s.reg 0x180)).bcast = false) ∧ (s.chip.mode = .test) :=
  ⟨0x340001C, 5, { item := .sram 0 0, k := 7 }, 0, 0, 5, ({ State.reset with chip := { State.reset.chip with mode := .test }, progs := { State.reset.progs with staging := some (winId (winSelOf 0) (.sram 0 0), 5) } } : State).setReg 0x180 0, by decide⟩

/-- The premises of LoadsAndTheWindow, part 20, hold somewhere. -/
theorem witness_LoadsAndTheWindow_20 : ∃ (off : Offset) (v : Word) (x : WinReg) (kind stage index : Nat) (s : State), (s.closed 0x3000000 = false) ∧ (winReg (winSelOf (s.reg 0x180)) (off.toNat / 4 * 4) = some x) ∧ (x.item = .store kind stage index) ∧ (winLast x.item = some 17) ∧ (x.k ≤ 17) ∧ (s.chip.mode = .service) :=
  ⟨0x3000000, 5, { item := .store 1 0 0, k := 0 }, 1, 0, 0, { State.reset with chip := { State.reset.chip with mode := .service } }, by decide⟩

/-- The premises of TrestleInstructions, part 1, hold somewhere. -/
theorem witness_TrestleInstructions_1 : ∃ (sp : Span) (q : TrestleReq) (rest : List TrestleReq) (s : State), ((s.engine sp).queued = q :: rest) ∧ ((s.engine sp).state = 0) ∧ (s.stopSet sp = false) :=
  ⟨2, { entry := 9, ring := none }, [], State.reset.setEngine 2 { queued := [{ entry := 9, ring := none }] }, by decide⟩

/-- The premises of TrestleInstructions, part 2, hold somewhere. -/
theorem witness_TrestleInstructions_2 : ∃ (sp : Span) (item : TableRef) (r : Fin 16) (s : State), (s.routineRuns sp = true) :=
  ⟨2, { ternary := false, unit := 3, row := 7, low := false }, 3, (State.reset.setEngine 2 { state := 1 }), by decide⟩

/-- The premises of TrestleInstructions, part 3, hold somewhere. -/
theorem witness_TrestleInstructions_3 : ∃ (sp : Span) (op : Byte) (dst a b : Fin 16) (s : State), (s.routineRuns sp = true) :=
  ⟨2, 1, 3, 4, 5, (State.reset.setEngine 2 { state := 1 }), by decide⟩

/-- The premises of TrestleInstructions, part 4, hold somewhere. -/
theorem witness_TrestleInstructions_4 : ∃ (sp : Span) (table : Fin 256) (hsel : Fin 8) (key dst : Fin 16) (s : State), (s.routineRuns sp = true) :=
  ⟨2, 0, 1, 3, 4, (State.reset.setEngine 2 { state := 1 }), by decide⟩

/-- The premises of TrestleInstructions, part 5, hold somewhere. -/
theorem witness_TrestleInstructions_5 : ∃ (sp : Span) (item : TableRef) (data : ItemData) (s : State), (s.routineRuns sp = true) ∧ (s.spansUp.all (fun n => SoundItem s n item) = true) ∧ (s.spansUp.all (fun n => s.itemFree n item) = true) :=
  ⟨2, { ternary := false, unit := 3, row := 7, low := false }, { row := 5, mask := 0, ctl := 0 }, (State.reset.setEngine 2 { state := 1 }), by decide⟩

/-- The premises of TrestleInstructions, part 6, hold somewhere. -/
theorem witness_TrestleInstructions_6 : ∃ (sp : Span) (item : TableRef) (data : ItemData) (s : State), (s.routineRuns sp = true) ∧ (s.spansUp.all (fun n => s.itemFree n item) = false) :=
  ⟨2, { ternary := false, unit := 3, row := 7, low := false }, { row := 5, mask := 0, ctl := 0 }, ((State.reset.setEngine 2 { state := 1 }) : State).setReg (kindReg 1 0) 0x9100C000 |>.setReg (unitsReg 1 0) 0x100000 |>.setSram 1 3 7 (2 ^ 255 + 2 ^ 127), by decide⟩

/-- The premises of TrestleInstructions, part 7, hold somewhere. -/
theorem witness_TrestleInstructions_7 : ∃ (sp : Span) (item : TableRef) (expected : Word) (data : ItemData) (s : State), (s.routineRuns sp = true) ∧ (SoundItem s sp item = true) ∧ (s.itemCtl sp item = expected) ∧ (s.flipRefused sp sp item data = false) :=
  ⟨2, { ternary := false, unit := 3, row := 7, low := false }, 0, { row := 5, mask := 0, ctl := 0 }, (State.reset.setEngine 2 { state := 1 }), by decide⟩

/-- The premises of TrestleInstructions, part 8, hold somewhere. -/
theorem witness_TrestleInstructions_8 : ∃ (sp : Span) (item : TableRef) (expected : Word) (data : ItemData) (s : State), (s.routineRuns sp = true) ∧ (SoundItem s sp item = true) ∧ (s.itemCtl sp item = expected) ∧ (s.flipRefused sp sp item data = false) :=
  ⟨2, { ternary := false, unit := 3, row := 7, low := false }, 0, { row := 5, mask := 0, ctl := 0 }, (State.reset.setEngine 2 { state := 1 }), by decide⟩

/-- The premises of TrestleInstructions, part 9, hold somewhere. -/
theorem witness_TrestleInstructions_9 : ∃ (sp : Span) (item : TableRef) (expected : Word) (data : ItemData) (s : State), (s.routineRuns sp = true) ∧ (s.itemCtl sp item ≠ expected) :=
  ⟨2, { ternary := false, unit := 3, row := 7, low := false }, 1, { row := 5, mask := 0, ctl := 0 }, (State.reset.setEngine 2 { state := 1 }), by decide⟩

/-- The premises of TrestleInstructions, part 10, hold somewhere. -/
theorem witness_TrestleInstructions_10 : ∃ (sp : Span) (item : TableRef) (bits expected : Word) (data : ItemData) (s : State), (s.routineRuns sp = true) ∧ (s.spansUp.all (fun n => SoundItem s n item) = true) ∧ (∀ n ∈ s.spansUp, s.itemCtl n item &&& bits = expected &&& bits) ∧ (∀ n ∈ s.spansUp, s.flipRefused sp n item data = false) :=
  ⟨2, { ternary := false, unit := 3, row := 7, low := false }, 0, 0, { row := 5, mask := 0, ctl := 0 }, (State.reset.setEngine 2 { state := 1 }), by decide⟩

/-- The premises of TrestleInstructions, part 11, hold somewhere. -/
theorem witness_TrestleInstructions_11 : ∃ (sp : Span) (item : TableRef) (bits expected : Word) (data : ItemData) (n : Nat) (s : State), (s.routineRuns sp = true) ∧ (n ∈ s.spansUp) ∧ (s.itemCtl n item &&& bits ≠ expected &&& bits) :=
  ⟨2, { ternary := false, unit := 3, row := 7, low := false }, 1, 1, { row := 5, mask := 0, ctl := 0 }, 0, (State.reset.setEngine 2 { state := 1 }), by decide⟩

/-- The premises of TrestleInstructions, part 12, hold somewhere. -/
theorem witness_TrestleInstructions_12 : ∃ (sp : Span) (target : BitVec 12) (s : State), (s.routineRuns sp = true) :=
  ⟨2, 5, (State.reset.setEngine 2 { state := 1 }), by decide⟩

/-- The premises of TrestleInstructions, part 13, hold somewhere. -/
theorem witness_TrestleInstructions_13 : ∃ (sp : Span) (item : TableRef) (expected : Word) (data : ItemData) (s : State), (s.routineRuns sp = true) ∧ (s.itemCtl sp item = expected) ∧ (s.flipRefused sp sp item data = true) :=
  ⟨2, { ternary := false, unit := 3, row := 7, low := false }, BitVec.ofNat 32 (2 ^ 30), { row := 5, mask := 0, ctl := 0 }, (({ State.reset with progs := { State.reset.progs with joint := some 7 } } : State).setEngine 2 { state := 1, late := true }).setReg (kindReg 2 0) 0x9100C000 |>.setReg (unitsReg 2 0) 0x100000 |>.setSram 2 3 7 (2 ^ 254), by decide +kernel⟩

/-- The premises of TrestleInstructions, part 14, hold somewhere. -/
theorem witness_TrestleInstructions_14 : ∃ (sp : Span) (item : TableRef) (bits expected : Word) (data : ItemData) (n : Nat) (s : State), (s.routineRuns sp = true) ∧ (∀ n ∈ s.spansUp, s.itemCtl n item &&& bits = expected &&& bits) ∧ (n ∈ s.spansUp) ∧ (s.flipRefused sp n item data = true) :=
  ⟨2, { ternary := false, unit := 3, row := 7, low := false }, 0, 0, { row := 5, mask := 0, ctl := 0 }, 2, (({ State.reset with progs := { State.reset.progs with joint := some 7 } } : State).setEngine 2 { state := 1, late := true }).setReg (kindReg 2 0) 0x9100C000 |>.setReg (unitsReg 2 0) 0x100000 |>.setSram 2 3 7 (2 ^ 254), by decide +kernel⟩

/-- The premises of TrestleInstructions, part 15, hold somewhere. -/
theorem witness_TrestleInstructions_15 : ∃ (sp : Span) (item : TableRef) (r : Fin 16) (op : Byte) (dst a b : Fin 16) (data : ItemData) (e bits : Word) (table : Fin 256) (hsel : Fin 8) (target : BitVec 12) (res : Byte) (s : State), (s.routineRuns sp = false) :=
  ⟨2, { ternary := false, unit := 3, row := 7, low := false }, 3, 1, 3, 4, 5, { row := 5, mask := 0, ctl := 0 }, 1, 1, 0, 1, 5, 0, State.reset, by decide⟩

/-- The premises of TrestleInstructions, part 16, hold somewhere. -/
theorem witness_TrestleInstructions_16 : ∃ (sp : Span) (s : State), ((s.engine sp).queued = [] ∨ (s.engine sp).state ≠ 0 ∨ s.stopSet sp = true) :=
  ⟨2, State.reset, by decide⟩

/-- The premises of TrestleInstructions, part 17, hold somewhere. -/
theorem witness_TrestleInstructions_17 : ∃ (sp : Span) (res : Byte) (r : Nat) (c : Call) (rest : List Call) (s : State), (s.routineRuns sp = true) ∧ ((s.engine sp).work = none) ∧ ((s.engine sp).owner = some r) ∧ ((s.sq r).calls = c :: rest) ∧ (c.atEngine = true) :=
  ⟨2, 0, 1, { idx := 0, body := [], atEngine := true }, [], (State.reset.setEngine 2 { state := 1, owner := some 1 }).setSq 1 { calls := [{ idx := 0, body := [], atEngine := true }] }, by decide⟩

/-- The premises of TrestleInstructions, part 18, hold somewhere. -/
theorem witness_TrestleInstructions_18 : ∃ (sp : Span) (res : Byte) (s : State), (s.routineRuns sp = true) ∧ ((s.engine sp).owner = none) ∧ ((s.engine sp).work = none) :=
  ⟨2, 0, (State.reset.setEngine 2 { state := 1 }), by decide⟩

/-- The premises of EnginesAndTablesAreServed, part 1, hold somewhere. -/
theorem witness_EnginesAndTablesAreServed_1 : ∃ (sp : Span) (v : Word) (s : State), (getBits v 0 0 = 1) ∧ (getBits v 1 1 = 0) ∧ (getBits v 2 2 = 0) ∧ ((s.engine sp).state = 1) ∧ ((s.engine sp).owner = none) ∧ ((s.engine sp).work = none) ∧ (s.closed (trCtrl sp) = false) :=
  ⟨2, 1, (State.reset.setEngine 2 { state := 1 }), by decide⟩

/-- The premises of EnginesAndTablesAreServed, part 2, hold somewhere. -/
theorem witness_EnginesAndTablesAreServed_2 : ∃ (sp : Span) (v : Word) (s : State), (getBits v 0 0 = 0) ∧ (getBits v 1 1 = 1) ∧ (getBits v 2 2 = 0) ∧ (s.closed (trCtrl sp) = false) ∧ ((s.engine sp).state = 3 ∨ (s.engine sp).state = 4) :=
  ⟨2, 2, State.reset.setEngine 2 { state := 4, ctx := true }, by decide⟩

/-- The premises of EnginesAndTablesAreServed, part 3, hold somewhere. -/
theorem witness_EnginesAndTablesAreServed_3 : ∃ (sp : Span) (v : Word) (s : State), (getBits v 0 0 = 0) ∧ (getBits v 1 1 = 0) ∧ (getBits v 2 2 = 1) ∧ (s.closed (trCtrl sp) = false) ∧ ((s.engine sp).state = 3 ∨ (s.engine sp).state = 4) ∧ ((s.engine sp).ctx = true) ∧ ((s.engine sp).owner = none) :=
  ⟨2, 4, State.reset.setEngine 2 { state := 4, ctx := true }, by decide⟩

/-- The premises of EnginesAndTablesAreServed, part 4, hold somewhere. -/
theorem witness_EnginesAndTablesAreServed_4 : ∃ (sp : Span) (k : Fin 240) (v : Word) (s : State), (s.closed (kindReg sp k) = false) ∧ (s.rwlOpen = true) ∧ (s.bit (kindReg sp k) 31 = false) ∧ (getBits v 31 31 = 1) ∧ ((geometryOf (v &&& 0xFFFFFE00) (s.reg (unitsReg sp k))).valid = true) ∧ (s.unitsFree sp k (geometryOf (v &&& 0xFFFFFE00) (s.reg (unitsReg sp k))) = true) :=
  ⟨2, 0, 0xC0000000, State.reset.setReg (unitsReg 2 0) 0x40000, by decide +kernel⟩

/-- The premises of EnginesAndTablesAreServed, part 5, hold somewhere. -/
theorem witness_EnginesAndTablesAreServed_5 : ∃ (sp : Span) (k : Fin 240) (units : Bool) (v : Word) (s : State), (s.closed (kindReg sp k) = false) ∧ (s.tableFrozen sp k units v = true) :=
  ⟨2, 3, true, 0, State.reset.setReg (kindReg 2 3) 0xC0000000, by decide⟩

/-- The premises of EnginesAndTablesAreServed, part 6, hold somewhere. -/
theorem witness_EnginesAndTablesAreServed_6 : ∃ (sp : Span) (k : Fin 240) (units : Bool) (v : Word) (s : State), (s.closed (kindReg sp k) = false) ∧ (s.rwlOpen = false) ∧ (s.tableFrozen sp k units v = false) ∧ (v &&& (if units then 0xFFFFFF80 else 0xFFFFFE00) ≠ s.reg (if units then unitsReg sp k else kindReg sp k)) :=
  ⟨2, 3, false, 0xFFFFFFFF, { State.reset with chip := { State.reset.chip with mode := .service } }, by decide⟩

/-- The premises of EnginesAndTablesAreServed, part 7, hold somewhere. -/
theorem witness_EnginesAndTablesAreServed_7 : ∃ (sp : Span) (k : Fin 240) (v : Word) (s : State), (s.closed (kindReg sp k) = false) ∧ (s.rwlOpen = true) ∧ (s.bit (kindReg sp k) 31 = false) :=
  ⟨2, 0, 0x40000, State.reset, by decide⟩

/-- The premises of EnginesAndTablesAreServed, part 8, hold somewhere. -/
theorem witness_EnginesAndTablesAreServed_8 : ∃ (sp : Span) (k : Fin 240) (v : Word) (s : State), (s.closed (kindReg sp k) = false) ∧ (s.rwlOpen = true) ∧ (getBits v 31 31 = 0) :=
  ⟨2, 0, 0x40000000, State.reset, by decide⟩

/-- The premises of EnginesAndTablesAreServed, part 9, hold somewhere. -/
theorem witness_EnginesAndTablesAreServed_9 : ∃ (sp : Span) (k : Fin 240) (v : Word) (s : State), (s.closed (kindReg sp k) = false) ∧ (s.rwlOpen = true) ∧ (s.bit (kindReg sp k) 31 = false) ∧ (getBits v 31 31 = 1) ∧ ((geometryOf (v &&& 0xFFFFFE00) (s.reg (unitsReg sp k))).valid = false ∨ s.unitsFree sp k (geometryOf (v &&& 0xFFFFFE00) (s.reg (unitsReg sp k))) = false) :=
  ⟨2, 0, 0x80000000, State.reset, by decide +kernel⟩

/-- The premises of EnginesAndTablesAreServed, part 10, hold somewhere. -/
theorem witness_EnginesAndTablesAreServed_10 : ∃ (sp : Span) (g : Option Span) (item : TableRef) (s : State), (s.injects (itemSource sp item) = none) :=
  ⟨2, none, { ternary := false, unit := 3, row := 7, low := false }, State.reset, by decide⟩

/-- The premises of EnginesAndTablesAreServed, part 11, hold somewhere. -/
theorem witness_EnginesAndTablesAreServed_11 : ∃ (sp : Span) (item : TableRef) (s : State) (g : Option Span), (s.injects (itemSource sp item) = none) :=
  ⟨2, { ternary := false, unit := 3, row := 7, low := false }, State.reset, none, by decide⟩

/-- The premises of EnginesAndTablesAreServed, part 12, hold somewhere. -/
theorem witness_EnginesAndTablesAreServed_12 : ∃ (sp g : Span) (item : TableRef) (s : State), (item.ternary = false) ∧ (s.rowKind sp item ≠ 5) ∧ (s.rowKind sp item ≠ 6) :=
  ⟨2, 3, { ternary := false, unit := 3, row := 7, low := false }, State.reset, by decide⟩

/-- The premises of EnginesAndTablesAreServed, part 13, hold somewhere. -/
theorem witness_EnginesAndTablesAreServed_13 : ∃ (sp : Span) (item : TableRef) (s : State), (item.ternary = false) :=
  ⟨2, { ternary := false, unit := 3, row := 7, low := false }, State.reset, by decide⟩

/-- The premises of EnginesAndTablesAreServed, part 14, hold somewhere. -/
theorem witness_EnginesAndTablesAreServed_14 : ∃ (k : Fin 240) (e : EntryPlace) (s : State), (s.groupUp 0 = true) ∧ (s.engineFree s.serviceSpan = true) ∧ (s.spansUp ≠ []) ∧ ((s.geometry s.serviceSpan k).en = true) ∧ ((s.geometry s.serviceSpan k).ageMax ≠ 0) ∧ (s.entries s.serviceSpan (s.geometry s.serviceSpan k) = [e]) ∧ (getBits (s.placeCtl s.serviceSpan e) 24 24 = 0) ∧ (∃ n ∈ s.spansUp, getBits (s.placeCtl n e) 29 29 = 1) :=
  ⟨0, { unit := 0, row := 0, top := 255 }, ((State.reset.setReg (kindReg 0 0) 0x9100C000).setReg (unitsReg 0 0) 0x100000).setSram 0 0 0 (2 ^ 255 + 2 ^ 253), by decide +kernel⟩

/-- The premises of EnginesAndTablesAreServed, part 15, hold somewhere. -/
theorem witness_EnginesAndTablesAreServed_15 : ∃ (item : TableRef) (m : Nat) (s : State), (s.groupServed 1 = true) ∧ (item.ternary = false) ∧ (s.rowKind (s.spansUp.headD 0) item ≠ 5) ∧ (s.rowKind (s.spansUp.headD 0) item ≠ 6) ∧ (s.spansUp.find? (fun n => decide (s.spansUp.length < 2 * (s.spansUp.filter (fun k => decide (s.replica k item = s.replica n item))).length)) = some m) :=
  ⟨{ ternary := false, unit := 3, row := 7, low := false }, 0, State.reset, by decide⟩

/-- The premises of PortsComeUpAndDown, part 1, hold somewhere. -/
theorem witness_PortsComeUpAndDown_1 : ∃ (p : Lane) (v : Word) (s : State), (s.closed (laneOff p) = false) ∧ (getBits v 31 31 = 1) ∧ (s.bit (laneOff p) 31 = false) ∧ (s.enableRefused p v = false) ∧ (getBits v 22 18 = 0) :=
  ⟨0, 0x80000000, State.reset, by decide⟩

/-- The premises of PortsComeUpAndDown, part 2, hold somewhere. -/
theorem witness_PortsComeUpAndDown_2 : ∃ (p : Lane) (v : Word) (s : State), (s.closed (laneOff p) = false) ∧ (getBits v 31 31 = 1) ∧ (s.bit (laneOff p) 31 = false) ∧ (s.enableRefused p v = false) ∧ (getBits v 22 18 ≠ 0) :=
  ⟨0, 0x80040000, { State.reset with chip := { State.reset.chip with mode := .service } }, by decide⟩

/-- The premises of PortsComeUpAndDown, part 3, hold somewhere. -/
theorem witness_PortsComeUpAndDown_3 : ∃ (p : Lane) (v : Word) (s : State), (s.closed (laneOff p) = false) ∧ (getBits v 31 31 = 1) ∧ (s.bit (laneOff p) 31 = false) ∧ (s.enableRefused p v = true) :=
  ⟨0, 0x90000000, State.reset, by decide⟩

/-- The premises of PortsComeUpAndDown, part 4, hold somewhere. -/
theorem witness_PortsComeUpAndDown_4 : ∃ (p : Lane) (v : Word) (s : State), (s.closed (laneOff p) = false) ∧ (getBits v 31 31 = 0) ∧ (s.bit (laneOff p) 31 = true) :=
  ⟨0, 0, (State.reset.setBit (laneOff 0) 31 true).setFld (laneOff 0 + 4) 31 28 4, by decide⟩

/-- The premises of PortsComeUpAndDown, part 5, hold somewhere. -/
theorem witness_PortsComeUpAndDown_5 : ∃ (p : Port) (s : State), (s.bit (laneOff p) 31 = true) ∧ (s.portState p = 1) :=
  ⟨0, (State.reset.setBit (laneOff 0) 31 true).setFld (laneOff 0 + 4) 31 28 1, by decide⟩

/-- The premises of PortsComeUpAndDown, part 6, hold somewhere. -/
theorem witness_PortsComeUpAndDown_6 : ∃ (p : Port) (a : List PhyType) (u : BitVec 2) (s : State), (s.bit (laneOff p) 31 = true) ∧ (s.portState p = 2) ∧ (((s.lane p).anBase.getD a).contains (s.phyType p) = true) :=
  ⟨0, [State.phyType ((State.reset.setBit (laneOff 0) 31 true).setFld (laneOff 0 + 4) 31 28 2) 0], 1, (State.reset.setBit (laneOff 0) 31 true).setFld (laneOff 0 + 4) 31 28 2, by decide⟩

/-- The premises of PortsComeUpAndDown, part 7, hold somewhere. -/
theorem witness_PortsComeUpAndDown_7 : ∃ (p : Port) (a : List PhyType) (u : BitVec 2) (s : State), (s.bit (laneOff p) 31 = true) ∧ (s.portState p = 2) ∧ (((s.lane p).anBase.getD a).contains (s.phyType p) = false) ∧ ((s.lane p).run < 2) :=
  ⟨0, [], 1, (State.reset.setBit (laneOff 0) 31 true).setFld (laneOff 0 + 4) 31 28 2, by decide⟩

/-- The premises of PortsComeUpAndDown, part 8, hold somewhere. -/
theorem witness_PortsComeUpAndDown_8 : ∃ (p : Port) (a : List PhyType) (u : BitVec 2) (s : State), (s.bit (laneOff p) 31 = true) ∧ (s.portState p = 2) :=
  ⟨0, [], 1, (State.reset.setBit (laneOff 0) 31 true).setFld (laneOff 0 + 4) 31 28 2, by decide⟩

/-- The premises of PortsComeUpAndDown, part 9, hold somewhere. -/
theorem witness_PortsComeUpAndDown_9 : ∃ (p : Port) (a : List PhyType) (u : BitVec 2) (s : State), (s.bit (laneOff p) 31 = true) ∧ (s.portState p = 2) ∧ ((s.lane p).anBase = none) :=
  ⟨0, [], 1, (State.reset.setBit (laneOff 0) 31 true).setFld (laneOff 0 + 4) 31 28 2, by decide⟩

/-- The premises of PortsComeUpAndDown, part 10, hold somewhere. -/
theorem witness_PortsComeUpAndDown_10 : ∃ (p : Port) (rf : Bool) (s : State), (s.bit (laneOff p) 31 = true) ∧ (s.portState p = 5) ∧ (s.chip.sdRefLost.contains (p.val / 64) = false) :=
  ⟨0, true, (State.reset.setBit (laneOff 0) 31 true).setFld (laneOff 0 + 4) 31 28 5, by decide⟩

/-- The premises of PortsComeUpAndDown, part 11, hold somewhere. -/
theorem witness_PortsComeUpAndDown_11 : ∃ (p : Port) (rf : Bool) (s : State), (s.bit (laneOff p) 31 = true) ∧ (s.portState p = 5) ∧ (s.chip.sdRefLost.contains (p.val / 64) = false) :=
  ⟨0, true, (State.reset.setBit (laneOff 0) 31 true).setFld (laneOff 0 + 4) 31 28 5, by decide⟩

/-- The premises of PortsComeUpAndDown, part 12, hold somewhere. -/
theorem witness_PortsComeUpAndDown_12 : ∃ (p : Port) (a : List PhyType) (u : BitVec 2) (b c : Bool) (s : State), (s.bit (laneOff p) 31 = false) :=
  ⟨0, [], 1, true, true, State.reset, by decide⟩

/-- The premises of PortsComeUpAndDown, part 15, hold somewhere. -/
theorem witness_PortsComeUpAndDown_15 : ∃ (p : Port) (s : State), (s.bit (laneOff p) 31 = true) ∧ (s.portState p = 3) :=
  ⟨0, (State.reset.setBit (laneOff 0) 31 true).setFld (laneOff 0 + 4) 31 28 3, by decide⟩

/-- The premises of PortsComeUpAndDown, part 16, hold somewhere. -/
theorem witness_PortsComeUpAndDown_16 : ∃ (p : Port) (rf : Bool) (s : State), (s.bit (laneOff p) 31 = true) ∧ (s.portState p = 4) ∧ (s.chip.sdRefLost.contains (p.val / 64) = false) :=
  ⟨0, true, (State.reset.setBit (laneOff 0) 31 true).setFld (laneOff 0 + 4) 31 28 4, by decide⟩

/-- The premises of PortsComeUpAndDown, part 17, hold somewhere. -/
theorem witness_PortsComeUpAndDown_17 : ∃ (p : Port) (rf : Bool) (s : State), (s.bit (laneOff p) 31 = true) ∧ (s.portState p = 4) ∧ (s.chip.sdRefLost.contains (p.val / 64) = false) ∧ (s.viaduct p = false) :=
  ⟨0, false, (State.reset.setBit (laneOff 0) 31 true).setFld (laneOff 0 + 4) 31 28 4, by decide⟩

/-- The premises of PortsComeUpAndDown, part 18, hold somewhere. -/
theorem witness_PortsComeUpAndDown_18 : ∃ (p : Port) (rf : Bool) (s : State), (s.bit (laneOff p) 31 = true) ∧ (s.portState p = 4) ∧ (s.chip.sdRefLost.contains (p.val / 64) = false) ∧ (s.viaduct p = true) :=
  ⟨0, false, ((State.reset.setBit (laneOff 0) 31 true).setFld (laneOff 0 + 4) 31 28 4).setBit 0xC01000 31 true, by decide⟩

/-- The premises of PortsComeUpAndDown, part 19, hold somewhere. -/
theorem witness_PortsComeUpAndDown_19 : ∃ (p : Port) (s : State), (s.portState p = 5) :=
  ⟨0, (State.reset.setBit (laneOff 0) 31 true).setFld (laneOff 0 + 4) 31 28 5, by decide⟩

/-- The premises of PortsComeUpAndDown, part 20, hold somewhere. -/
theorem witness_PortsComeUpAndDown_20 : ∃ (p : Port) (s : State), (s.bit (laneOff p) 31 = true) ∧ (s.portState p = 3 ∨ s.portState p = 4) ∧ ((s.lane p).run < 2) :=
  ⟨0, (State.reset.setBit (laneOff 0) 31 true).setFld (laneOff 0 + 4) 31 28 4, by decide⟩

/-- The premises of PortsComeUpAndDown, part 21, hold somewhere. -/
theorem witness_PortsComeUpAndDown_21 : ∃ (p : Port) (s : State), (s.bit (laneOff p) 31 = true) ∧ (s.portState p = 3 ∨ s.portState p = 4) ∧ (2 ≤ (s.lane p).run) :=
  ⟨0, ((State.reset.setBit (laneOff 0) 31 true).setFld (laneOff 0 + 4) 31 28 4).setLane 0 { run := 2 }, by decide⟩

/-- The premises of PortsComeUpAndDown, part 22, hold somewhere. -/
theorem witness_PortsComeUpAndDown_22 : ∃ (p : Port) (s : State), (s.portState p = 5) ∧ ((s.lane p).fresh = true) :=
  ⟨0, ((State.reset.setBit (laneOff 0) 31 true).setFld (laneOff 0 + 4) 31 28 5).setLane 0 { fresh := true }, by decide⟩

/-- The premises of PortsComeUpAndDown, part 23, hold somewhere. -/
theorem witness_PortsComeUpAndDown_23 : ∃ (p : Port) (s : State), (s.bit (laneOff p) 31 = true) ∧ (s.portState p = 6) :=
  ⟨0, (State.reset.setBit (laneOff 0) 31 true).setFld (laneOff 0 + 4) 31 28 6, by decide⟩

/-- The premises of LanesTrainAndScan, part 1, hold somewhere. -/
theorem witness_LanesTrainAndScan_1 : ∃ (l : Lane) (q : BitVec 16) (s : State), (s.fld (laneOff l + 4) 31 28 = 3) ∧ ((s.lane l).held = none) :=
  ⟨0, 0x6800, (State.reset.setFld (laneOff 0 + 4) 31 28 3), by decide⟩

/-- The premises of LanesTrainAndScan, part 2, hold somewhere. -/
theorem witness_LanesTrainAndScan_2 : ∃ (l : Lane) (q r : BitVec 16) (s : State), (s.fld (laneOff l + 4) 31 28 = 3) ∧ ((s.lane l).held = some r) ∧ (reqAction q = 0) :=
  ⟨0, 0x6000, 0x6400, (State.reset.setFld (laneOff 0 + 4) 31 28 3).setLane 0 { held := some 0x6400 }, by decide⟩

/-- The premises of LanesTrainAndScan, part 3, hold somewhere. -/
theorem witness_LanesTrainAndScan_3 : ∃ (l : Lane) (q r : BitVec 16) (s : State), (s.fld (laneOff l + 4) 31 28 = 3) ∧ ((s.lane l).held = some r) ∧ (reqAction q ≠ 0) :=
  ⟨0, 0x6800, 0x6400, (State.reset.setFld (laneOff 0 + 4) 31 28 3).setLane 0 { held := some 0x6400 }, by decide⟩

/-- The premises of LanesTrainAndScan, part 4, hold somewhere. -/
theorem witness_LanesTrainAndScan_4 : ∃ (l : Lane) (r next : BitVec 16) (s : State), (s.fld (laneOff l + 4) 31 28 = 3) ∧ ((s.lane l).wait = .status) ∧ (rspStatus r ≠ 0) :=
  ⟨0, 0x6400, 0, (State.reset.setFld (laneOff 0 + 4) 31 28 3).setLane 0 { wait := .status }, by decide⟩

/-- The premises of LanesTrainAndScan, part 5, hold somewhere. -/
theorem witness_LanesTrainAndScan_5 : ∃ (l : Lane) (r next : BitVec 16) (s : State), (s.fld (laneOff l + 4) 31 28 = 3) ∧ ((s.lane l).wait ≠ .status) ∧ (rspStatus r = 0) ∧ (s.manualMode l = false) ∧ (reqAction next ≠ 0) :=
  ⟨0, 0x6000, 0x6800, (State.reset.setFld (laneOff 0 + 4) 31 28 3), by decide⟩

/-- The premises of LanesTrainAndScan, part 6, hold somewhere. -/
theorem witness_LanesTrainAndScan_6 : ∃ (l : Lane) (r next : BitVec 16) (s : State), (s.fld (laneOff l + 4) 31 28 = 3) ∧ ((s.lane l).wait ≠ .status) ∧ (rspStatus r = 0) ∧ (s.manualMode l = false) ∧ (reqAction next = 0) :=
  ⟨0, 0x6000, 0, (State.reset.setFld (laneOff 0 + 4) 31 28 3), by decide⟩

/-- The premises of LanesTrainAndScan, part 7, hold somewhere. -/
theorem witness_LanesTrainAndScan_7 : ∃ (l : Lane) (v : Word) (s : State), (s.closed (laneOff l) = false) ∧ (s.chip.mode = .test) ∧ (getBits v 31 31 = 1) ∧ ((s.lane l).wait = .idle) :=
  ⟨0, 0x80006800, { State.reset with chip := { State.reset.chip with mode := .test } }, by decide⟩

/-- The premises of LanesTrainAndScan, part 8, hold somewhere. -/
theorem witness_LanesTrainAndScan_8 : ∃ (l : Lane) (v : Word) (s : State), (s.closed (laneOff l) = false) ∧ (s.chip.mode = .test) ∧ (getBits v 31 31 = 1) ∧ ((s.lane l).wait ≠ .idle) :=
  ⟨0, 0x80006800, ({ State.reset with chip := { State.reset.chip with mode := .test } } : State).setLane 0 { wait := .status }, by decide⟩

/-- The premises of LanesTrainAndScan, part 9, hold somewhere. -/
theorem witness_LanesTrainAndScan_9 : ∃ (l : Lane) (v : Word) (s : State), (s.closed (laneOff l) = false) ∧ (s.chip.mode ≠ .test) ∧ (getBits v 31 31 ≠ s.fld (laneOff l + 0x18) 31 31) :=
  ⟨0, 0x80000000, State.reset, by decide⟩

/-- The premises of LanesTrainAndScan, part 10, hold somewhere. -/
theorem witness_LanesTrainAndScan_10 : ∃ (l : Lane) (r next q : BitVec 16) (rest : List (BitVec 16)) (s : State), (s.fld (laneOff l + 4) 31 28 = 3) ∧ ((s.lane l).wait ≠ .status) ∧ (rspStatus r = 0) ∧ (s.manualMode l = true) ∧ ((s.lane l).manual = q :: rest) :=
  ⟨0, 0, 0, 5, [], ({ ((State.reset.setFld (laneOff 0 + 4) 31 28 3).setBit 0x2000018 31 true) with chip := { State.reset.chip with mode := .test } } : State).setLane 0 { manual := [5] }, by decide⟩

/-- The premises of LanesTrainAndScan, part 11, hold somewhere. -/
theorem witness_LanesTrainAndScan_11 : ∃ (l : Lane) (q r next : BitVec 16) (s : State), (s.fld (laneOff l + 4) 31 28 ≠ 3) :=
  ⟨0, 0, 0, 0, State.reset, by decide⟩

/-- The premises of LanesTrainAndScan, part 12, hold somewhere. -/
theorem witness_LanesTrainAndScan_12 : ∃ (l : Lane) (v : Word) (s : State), (s.closed (laneOff l) = false) ∧ (s.chip.mode = .test) ∧ (getBits v 31 31 = 0) :=
  ⟨0, 5, { State.reset with chip := { State.reset.chip with mode := .test } }, by decide⟩

/-- The premises of LanesTrainAndScan, part 13, hold somewhere. -/
theorem witness_LanesTrainAndScan_13 : ∃ (l : Lane) (v : Word) (s : State), (s.chip.mode ≠ .test) ∧ (getBits v 31 31 = s.fld (laneOff l + 0x18) 31 31) :=
  ⟨0, 5, State.reset, by decide⟩

/-- The premises of LanesTrainAndScan, part 14, hold somewhere. -/
theorem witness_LanesTrainAndScan_14 : ∃ (l : Lane) (v : Word) (s : State), (s.closed (laneOff l) = false) ∧ (getBits v 31 31 = 1) ∧ (s.fld (laneOff l + 0x44) 1 0 = 1) :=
  ⟨0, 0x80000000, State.reset.setReg 0x2000044 1, by decide⟩

/-- The premises of LanesTrainAndScan, part 15, hold somewhere. -/
theorem witness_LanesTrainAndScan_15 : ∃ (l : Lane) (v : Word) (s : State), (s.closed (laneOff l) = false) ∧ (getBits v 31 31 = 0) :=
  ⟨0, 5, State.reset, by decide⟩

/-- The premises of LanesTrainAndScan, part 16, hold somewhere. -/
theorem witness_LanesTrainAndScan_16 : ∃ (l : Lane) (v : Word) (s : State), (s.closed (laneOff l) = false) ∧ (getBits v 30 30 = 0 ∨ s.fld (laneOff l + 0x44) 1 0 ≠ 1) :=
  ⟨0, 5, State.reset, by decide⟩

/-- The premises of LanesTrainAndScan, part 17, hold somewhere. -/
theorem witness_LanesTrainAndScan_17 : ∃ (l : Lane) (counts : List Nat) (s : State), (s.fld (laneOff l + 0x44) 1 0 ≠ 1) :=
  ⟨0, [], State.reset, by decide⟩

/-- The premises of LanesTrainAndScan, part 18, hold somewhere. -/
theorem witness_LanesTrainAndScan_18 : ∃ (p : Port) (hist : List Nat) (uncorr : Nat) (symbols : List Nat) (s : State), (s.portState p ≠ 5 ∨ sumNat (hist.take 16) + uncorr ≠ s.fecWindow p) :=
  ⟨0, [], 0, [], State.reset, by decide⟩

/-- The premises of LanesTrainAndScan, part 19, hold somewhere. -/
theorem witness_LanesTrainAndScan_19 : ∃ (p : Port) (hist : List Nat) (uncorr : Nat) (symbols : List Nat) (s : State), (s.portState p = 5) ∧ (sumNat (hist.take 16) + uncorr = s.fecWindow p) ∧ (s.fld (laneOff p + 0x20) 23 0 < sumNat (symbols.take (s.portLanes p))) ∧ (s.bit (laneOff p + 4) 21 = false) :=
  ⟨0, [65536], 0, [16777216], ((State.reset.setBit (laneOff 0) 31 true).setFld (laneOff 0 + 4) 31 28 5).setReg (laneOff 0 + 0x20) 0x80000000, by decide⟩

/-- The premises of LanesTrainAndScan, part 20, hold somewhere. -/
theorem witness_LanesTrainAndScan_20 : ∃ (p : Port) (hist : List Nat) (uncorr : Nat) (symbols : List Nat) (s : State), (s.portState p = 5) ∧ (sumNat (hist.take 16) + uncorr = s.fecWindow p) ∧ (sumNat (symbols.take (s.portLanes p)) ≤ s.fld (laneOff p + 0x20) 23 0 / 2) :=
  ⟨0, [65530], 6, [0], ((State.reset.setBit (laneOff 0) 31 true).setFld (laneOff 0 + 4) 31 28 5).setReg (laneOff 0 + 0x20) 0x80000000, by decide⟩

/-- The premises of LanesTrainAndScan, part 21, hold somewhere. -/
theorem witness_LanesTrainAndScan_21 : ∃ (l : Lane) (v : Word) (s : State), (s.closed (laneOff l) = false) ∧ (getBits v 31 31 = 1) ∧ (getBits v 30 30 = 0) ∧ (s.fld (laneOff l + 0x44) 1 0 ≠ 1) :=
  ⟨0, 0x80000000, State.reset, by decide⟩

/-- The premises of LanesTrainAndScan, part 22, hold somewhere. -/
theorem witness_LanesTrainAndScan_22 : ∃ (l : Lane) (v : Word) (s : State), (s.closed (laneOff l) = false) ∧ (getBits v 30 30 = 1) ∧ (s.fld (laneOff l + 0x44) 1 0 = 1) :=
  ⟨0, 0x40000000, State.reset.setReg 0x2000044 1, by decide⟩

/-- The premises of LanesTrainAndScan, part 23, hold somewhere. -/
theorem witness_LanesTrainAndScan_23 : ∃ (l : Lane) (counts : List Nat) (s : State), (s.fld (laneOff l + 0x44) 1 0 = 1) :=
  ⟨0, [], State.reset.setReg 0x2000044 1, by decide⟩

/-- The premises of PierLinksAlignAndStepUp, part 1, hold somewhere. -/
theorem witness_PierLinksAlignAndStepUp_1 : ∃ (n : Four) (s : State), (s.pierOn n = true) :=
  ⟨1, (((State.reset.setBit (pierOff 1) 31 true).setFld (pierOff 1 + 4) 31 29 5).setFld (pierOff 1 + 4) 28 27 0), by decide⟩

/-- The premises of PierLinksAlignAndStepUp, part 3, hold somewhere. -/
theorem witness_PierLinksAlignAndStepUp_3 : ∃ (n : Four) (s : State), (s.pierOn n = true) ∧ (s.pierRate n = 0) ∧ ((s.pier n).sends = false) ∧ ((s.pier n).noStep = false) :=
  ⟨1, (((State.reset.setBit (pierOff 1) 31 true).setFld (pierOff 1 + 4) 31 29 1).setFld (pierOff 1 + 4) 28 27 0), by decide⟩

/-- The premises of PierLinksAlignAndStepUp, part 4, hold somewhere. -/
theorem witness_PierLinksAlignAndStepUp_4 : ∃ (n : Four) (s : State), (s.pierOn n = true) ∧ (s.pierRate n ≠ 0) :=
  ⟨1, (((State.reset.setBit (pierOff 1) 31 true).setFld (pierOff 1 + 4) 31 29 1).setFld (pierOff 1 + 4) 28 27 1), by decide⟩

/-- The premises of PierLinksAlignAndStepUp, part 5, hold somewhere. -/
theorem witness_PierLinksAlignAndStepUp_5 : ∃ (n : Four) (s : State), (2 ≤ s.pierState n) :=
  ⟨1, (((State.reset.setBit (pierOff 1) 31 true).setFld (pierOff 1 + 4) 31 29 5).setFld (pierOff 1 + 4) 28 27 0), by decide⟩

/-- The premises of PierLinksAlignAndStepUp, part 6, hold somewhere. -/
theorem witness_PierLinksAlignAndStepUp_6 : ∃ (n : Four) (v : Word) (s : State), (s.closed (pierOff n) = false) ∧ (decide (getBits v 31 31 = 1) ≠ s.pierOn n) :=
  ⟨1, 0, State.reset, by decide⟩

/-- The premises of PierLinksAlignAndStepUp, part 7, hold somewhere. -/
theorem witness_PierLinksAlignAndStepUp_7 : ∃ (n : Four) (v : Word) (s : State), (s.closed (pierOff n) = false) ∧ (decide (getBits v 31 31 = 1) = s.pierOn n) :=
  ⟨1, 0x84000000, State.reset, by decide⟩

/-- The premises of PierLinksAlignAndStepUp, part 9, hold somewhere. -/
theorem witness_PierLinksAlignAndStepUp_9 : ∃ (n : Four) (s : State), (s.pierOn n = true) ∧ (s.pierState n = 2 ∨ s.pierState n = 3) ∧ ((s.pier n).peerRate = none) :=
  ⟨1, (((State.reset.setBit (pierOff 1) 31 true).setFld (pierOff 1 + 4) 31 29 2).setFld (pierOff 1 + 4) 28 27 0), by decide⟩

/-- The premises of PierLinksAlignAndStepUp, part 10, hold somewhere. -/
theorem witness_PierLinksAlignAndStepUp_10 : ∃ (n : Four) (payload : List Byte) (s : State), (s.pierState n = 2 ∨ s.pierState n = 3) ∧ ((s.pier n).capSent = true) ∧ ((s.pier n).noStep = false) :=
  ⟨1, [1], (((State.reset.setBit (pierOff 1) 31 true).setFld (pierOff 1 + 4) 31 29 3).setFld (pierOff 1 + 4) 28 27 0).setPier 1 { capSent := true }, by decide⟩

/-- The premises of PierLinksAlignAndStepUp, part 11, hold somewhere. -/
theorem witness_PierLinksAlignAndStepUp_11 : ∃ (n : Four) (payload : List Byte) (s : State), (2 ≤ s.pierState n) ∧ (s.pierState n ≤ 4) :=
  ⟨1, [1], (((State.reset.setBit (pierOff 1) 31 true).setFld (pierOff 1 + 4) 31 29 4).setFld (pierOff 1 + 4) 28 27 0), by decide⟩

/-- The premises of PierLinksAlignAndStepUp, part 12, hold somewhere. -/
theorem witness_PierLinksAlignAndStepUp_12 : ∃ (n : Four) (s : State), (s.pierState n = 4) ∧ ((s.pier n).stepSent = true) ∧ ((s.pier n).stepRx = true) :=
  ⟨1, (((State.reset.setBit (pierOff 1) 31 true).setFld (pierOff 1 + 4) 31 29 4).setFld (pierOff 1 + 4) 28 27 0).setPier 1 { stepSent := true, stepRx := true }, by decide⟩

/-- The premises of PierLinksAlignAndStepUp, part 13, hold somewhere. -/
theorem witness_PierLinksAlignAndStepUp_13 : ∃ (n : Four) (s : State), (s.pierState n ≤ 1) ∧ (s.pierRate n ≠ 0) :=
  ⟨1, (((State.reset.setBit (pierOff 1) 31 true).setFld (pierOff 1 + 4) 31 29 1).setFld (pierOff 1 + 4) 28 27 1), by decide⟩

/-- The premises of PierLinksAlignAndStepUp, part 14, hold somewhere. -/
theorem witness_PierLinksAlignAndStepUp_14 : ∃ (n : Four) (s : State), (2 ≤ s.pierState n) :=
  ⟨1, (((State.reset.setBit (pierOff 1) 31 true).setFld (pierOff 1 + 4) 31 29 5).setFld (pierOff 1 + 4) 28 27 0), by decide⟩

/-- The premises of PierLinksMarkTimeAndFaults, part 1, hold somewhere. -/
theorem witness_PierLinksMarkTimeAndFaults_1 : ∃ (n : Four) (s : State), (s.pierOn n = true) ∧ ((s.pier n).sends = true) ∧ (s.tmRole n = 1) ∧ ((s.pier n).t1 = none) :=
  ⟨1, ((((State.reset.setBit (pierOff 1) 31 true).setFld (pierOff 1 + 4) 31 29 5).setFld (pierOff 1 + 4) 28 27 0).setFld (pierOff 1 + 0x20) 31 30 1).setPier 1 { sends := true }, by decide⟩

/-- The premises of PierLinksMarkTimeAndFaults, part 2, hold somewhere. -/
theorem witness_PierLinksMarkTimeAndFaults_2 : ∃ (n : Four) (s : State), (s.pierState n = 5) ∧ (s.tmRole n = 2) :=
  ⟨1, (((State.reset.setBit (pierOff 1) 31 true).setFld (pierOff 1 + 4) 31 29 5).setFld (pierOff 1 + 4) 28 27 0).setFld (pierOff 1 + 0x20) 31 30 2, by decide⟩

/-- The premises of PierLinksMarkTimeAndFaults, part 3, hold somewhere. -/
theorem witness_PierLinksMarkTimeAndFaults_3 : ∃ (n : Four) (x : Stamp) (s : State), (s.pierState n = 5) ∧ (s.tmRole n = 1) ∧ ((s.pier n).t1 = some x) :=
  ⟨1, {}, ((((State.reset.setBit (pierOff 1) 31 true).setFld (pierOff 1 + 4) 31 29 5).setFld (pierOff 1 + 4) 28 27 0).setFld (pierOff 1 + 0x20) 31 30 1).setPier 1 { t1 := some {} }, by decide⟩

/-- The premises of PierLinksMarkTimeAndFaults, part 4, hold somewhere. -/
theorem witness_PierLinksMarkTimeAndFaults_4 : ∃ (n m : Four) (payload : List Byte) (s : State), (s.pierState n = 5) ∧ (s.tmRole n = 2) ∧ ((s.pier n).heard = (payload.getD 0 0).toNat) ∧ (s.tbSource m = 4 + n.val) ∧ (s.fc.injHeld ≠ some (srcChip 0x12 m)) ∧ ((s.tb m).waiting.length < 4) :=
  ⟨1, 0, [0], ((((State.reset.setBit (pierOff 1) 31 true).setFld (pierOff 1 + 4) 31 29 5).setFld (pierOff 1 + 4) 28 27 0).setFld (pierOff 1 + 0x20) 31 30 2).setFld 0x200000 31 28 5, by decide⟩

/-- The premises of PierLinksMarkTimeAndFaults, part 5, hold somewhere. -/
theorem witness_PierLinksMarkTimeAndFaults_5 : ∃ (n m : Four) (payload : List Byte) (s : State), (s.pierState n = 5) ∧ (s.tmRole n = 2) ∧ ((s.pier n).heard ≠ (payload.getD 0 0).toNat) ∧ (s.tbSource m = 4 + n.val) :=
  ⟨1, 0, [9], ((((State.reset.setBit (pierOff 1) 31 true).setFld (pierOff 1 + 4) 31 29 5).setFld (pierOff 1 + 4) 28 27 0).setFld (pierOff 1 + 0x20) 31 30 2).setFld 0x200000 31 28 5, by decide⟩

/-- The premises of PierLinksMarkTimeAndFaults, part 6, hold somewhere. -/
theorem witness_PierLinksMarkTimeAndFaults_6 : ∃ (n : Four) (s : State), ((s.pier n).t1.isSome = true) :=
  ⟨1, State.reset.setPier 1 { t1 := some {} }, by decide⟩

/-- The premises of PierLinksMarkTimeAndFaults, part 7, hold somewhere. -/
theorem witness_PierLinksMarkTimeAndFaults_7 : ∃ (n : Four) (payload : List Byte) (s : State), (s.pierState n = 5) ∧ (s.bootPhase ≠ 5) :=
  ⟨1, [5], (((State.reset.setBit (pierOff 1) 31 true).setFld (pierOff 1 + 4) 31 29 5).setFld (pierOff 1 + 4) 28 27 0), by decide⟩

/-- The premises of PierLinksMarkTimeAndFaults, part 8, hold somewhere. -/
theorem witness_PierLinksMarkTimeAndFaults_8 : ∃ (n : Four) (payload : List Byte) (s : State), (s.pierState n = 5) ∧ (s.bootPhase = 5) :=
  ⟨1, [5], ((((State.reset.setBit (pierOff 1) 31 true).setFld (pierOff 1 + 4) 31 29 5).setFld (pierOff 1 + 4) 28 27 0)).setPhase 5, by decide⟩

/-- The premises of PierLinksMarkTimeAndFaults, part 9, hold somewhere. -/
theorem witness_PierLinksMarkTimeAndFaults_9 : ∃ (n : Four) (payload : List Byte) (s : State), (s.pierState n ≠ 5) :=
  ⟨1, [5], State.reset, by decide⟩

/-- The premises of PierLinksMarkTimeAndFaults, part 11, hold somewhere. -/
theorem witness_PierLinksMarkTimeAndFaults_11 : ∃ (n : Four) (payload : List Byte) (s : State), (s.pierState n = 5) :=
  ⟨1, [5], (((State.reset.setBit (pierOff 1) 31 true).setFld (pierOff 1 + 4) 31 29 5).setFld (pierOff 1 + 4) 28 27 0), by decide⟩

/-- The premises of PierLinksMarkTimeAndFaults, part 12, hold somewhere. -/
theorem witness_PierLinksMarkTimeAndFaults_12 : ∃ (n : Four) (s : State), (2 ≤ s.pierState n) :=
  ⟨1, (((State.reset.setBit (pierOff 1) 31 true).setFld (pierOff 1 + 4) 31 29 5).setFld (pierOff 1 + 4) 28 27 0), by decide⟩

/-- The premises of PierLinksMarkTimeAndFaults, part 13, hold somewhere. -/
theorem witness_PierLinksMarkTimeAndFaults_13 : ∃ (s : State), (s.chip.mode = .safe) :=
  ⟨{ State.reset with chip := { State.reset.chip with mode := .safe } }, by decide⟩

/-- The premises of TheHostFunctionAndItsRings, part 4, hold somewhere. -/
theorem witness_TheHostFunctionAndItsRings_4 : ∃ (cis : List (Option Word)) (s : State), (s.hq.pcieUp = true) :=
  ⟨[], { State.reset with hq := { State.reset.hq with busMaster := true, pcieUp := true } }, by decide⟩

/-- The premises of TheHostFunctionAndItsRings, part 5, hold somewhere. -/
theorem witness_TheHostFunctionAndItsRings_5 : ∃ (c : Nat) (v : Word) (s : State), (s.hq.pcieUp = true) ∧ (s.armedCqs = [c]) ∧ (c < 4096) :=
  ⟨3, 9, { State.reset with hq := { State.reset.hq with busMaster := true, pcieUp := true } }.setBit (cqOff 3 + 0x20) 29 true, by decide⟩

/-- The premises of TheHostFunctionAndItsRings, part 6, hold somewhere. -/
theorem witness_TheHostFunctionAndItsRings_6 : ∃ (cis : List (Option Word)) (s : State), (s.hq.pcieUp = false) :=
  ⟨[], State.reset, by decide⟩

/-- The premises of TheHostFunctionAndItsRings, part 7, hold somewhere. -/
theorem witness_TheHostFunctionAndItsRings_7 : ∃ (r : Ring) (v : Word) (s : State), (s.closed 0x420000 = false) ∧ (s.cqEn r = false) ∧ (getBits v 31 31 = 1) ∧ (depthOk (getBits v 28 24) = true) :=
  ⟨0, 0x86000000, State.reset, by decide⟩

/-- The premises of TheHostFunctionAndItsRings, part 8, hold somewhere. -/
theorem witness_TheHostFunctionAndItsRings_8 : ∃ (r : Ring) (v : Word) (s : State), (s.closed 0x420000 = false) ∧ (s.sqEn r = false) ∧ (getBits v 31 31 = 1) ∧ (depthOk (getBits v 27 23) = true) ∧ (s.cqEn (getBits v 22 11) = true) ∧ (s.cqEvent (getBits v 22 11) = false) ∧ (s.sqState r ≠ 6) :=
  ⟨0, 0x83000000, ((State.reset).setReg (cqOff 0 + 0x18) 0xA6000000), by decide⟩

/-- The premises of TheHostFunctionAndItsRings, part 9, hold somewhere. -/
theorem witness_TheHostFunctionAndItsRings_9 : ∃ (r : Ring) (v : Word) (s : State), (s.closed 0x420000 = false) ∧ (s.sqEn r = true) ∧ (getBits v 31 31 = 0) :=
  ⟨0, 0, (({ State.reset with hq := { State.reset.hq with busMaster := true, pcieUp := true } } : State).setReg (sqOff 0 + 0x18) (BitVec.ofNat 32 (2 ^ 31 + 0 * 2 ^ 28 + 6 * 2 ^ 23))).setReg (sqOff 0 + 0x1C) (BitVec.ofNat 32 (1 * 2 ^ 29)), by decide⟩

/-- The premises of TheHostFunctionAndItsRings, part 10, hold somewhere. -/
theorem witness_TheHostFunctionAndItsRings_10 : ∃ (r : Ring) (v : Word) (s : State), (s.closed 0x420000 = false) ∧ (s.cqEn r = true) ∧ (getBits v 31 31 = 0) ∧ (s.cqEvent r = true ∨ (s.cqNamed r = false ∧ s.cqReserved r = 0)) :=
  ⟨0, 0, State.reset.setReg (cqOff 0 + 0x18) 0xC6000000, by decide⟩

/-- The premises of TheHostFunctionAndItsRings, part 11, hold somewhere. -/
theorem witness_TheHostFunctionAndItsRings_11 : ∃ (r : Ring) (v : Word) (s : State), (s.closed 0x420000 = false) ∧ (s.cqEn r = true) ∧ (getBits v 31 31 = 0) ∧ (s.cqEvent r = false) ∧ (s.cqNamed r = true ∨ s.cqReserved r ≠ 0) :=
  ⟨0, 0, ((State.reset.setReserved 0 1).setReg (cqOff 0 + 0x18) 0xA6000000), by decide⟩

/-- The premises of TheHostFunctionAndItsRings, part 12, hold somewhere. -/
theorem witness_TheHostFunctionAndItsRings_12 : ∃ (r : Ring) (v : Word) (s : State), (s.closed 0x420000 = false) ∧ (s.cqEn r = false) ∧ (getBits v 31 31 = 1) ∧ (depthOk (getBits v 28 24) = false) :=
  ⟨0, 0x80000000, State.reset, by decide⟩

/-- The premises of TheHostFunctionAndItsRings, part 13, hold somewhere. -/
theorem witness_TheHostFunctionAndItsRings_13 : ∃ (r : Ring) (v : Word) (s : State), (s.closed 0x420000 = false) ∧ (s.sqEn r = false) ∧ (getBits v 31 31 = 1) ∧ (depthOk (getBits v 27 23) = false ∨ s.cqEn (getBits v 22 11) = false ∨ s.cqEvent (getBits v 22 11) = true ∨ s.sqState r = 6) :=
  ⟨0, 0x80000000, State.reset, by decide⟩

/-- The premises of TheHostFunctionAndItsRings, part 14, hold somewhere. -/
theorem witness_TheHostFunctionAndItsRings_14 : ∃ (cq : Bool) (r : Ring) (v : Word) (s : State), (s.closed 0x420000 = true) :=
  ⟨true, 0, 0x80000000, { State.reset with chip := { State.reset.chip with warm := .sealed } }, by decide⟩

/-- The premises of TheHostFunctionAndItsRings, part 15, hold somewhere. -/
theorem witness_TheHostFunctionAndItsRings_15 : ∃ (cq : Bool) (r : Ring) (v : Word) (s : State), (s.closed 0x420000 = true) :=
  ⟨true, 0, 0, { State.reset with chip := { State.reset.chip with warm := .sealed } }, by decide⟩

/-- The premises of TheHostFunctionAndItsRings, part 16, hold somewhere. -/
theorem witness_TheHostFunctionAndItsRings_16 : ∃ (rate width : Nat) (cis : List (Option Word)) (s : State), (s.chip.pcieRefLost = true) :=
  ⟨8, 16, [], { State.reset with chip := { State.reset.chip with pcieRefLost := true } }, by decide⟩

/-- The premises of TheHostFunctionAndItsRings, part 17, hold somewhere. -/
theorem witness_TheHostFunctionAndItsRings_17 : ∃ (rate width : Nat) (cis : List (Option Word)) (s : State), (s.chip.pcieRefLost = false) :=
  ⟨8, 16, [], State.reset, by decide⟩

/-- The premises of TheHostFunctionAndItsRings, part 18, hold somewhere. -/
theorem witness_TheHostFunctionAndItsRings_18 : ∃ (v : Fin 2048) (s : State), (s.hostOn = true) ∧ (s.bit (0x418000 + v.val / 32 * 4) (v.val % 32) = true) :=
  ⟨7, ({ State.reset with hq := { State.reset.hq with busMaster := true, pcieUp := true } } : State).setBit 0x418000 7 true, by decide⟩

/-- The premises of TheHostFunctionAndItsRings, part 19, hold somewhere. -/
theorem witness_TheHostFunctionAndItsRings_19 : ∃ (v : Fin 2048) (s : State), (s.hostOn = false ∨ s.bit (0x418000 + v.val / 32 * 4) (v.val % 32) = false) :=
  ⟨7, State.reset, by decide⟩

/-- The premises of RingsTakeAndComplete, part 1, hold somewhere. -/
theorem witness_RingsTakeAndComplete_1 : ∃ (off : BitVec 19) (len : Fin 64) (cis : List (Option Word)) (r : Ring) (s : State), (doorbellsOf off.toNat (len.val + 1) = [r.val]) ∧ (s.sqRuns r = true) ∧ (s.sqKind r ≤ 2) ∧ (s.hostOn = true) ∧ (s.sqState r ≠ 2) :=
  ⟨0x3F, 0, [], 0, (({ State.reset with hq := { State.reset.hq with busMaster := true, pcieUp := true } } : State).setReg (sqOff 0 + 0x18) (BitVec.ofNat 32 (2 ^ 31 + 0 * 2 ^ 28 + 6 * 2 ^ 23))).setReg (sqOff 0 + 0x1C) (BitVec.ofNat 32 (1 * 2 ^ 29)), by decide⟩

/-- The premises of RingsTakeAndComplete, part 2, hold somewhere. -/
theorem witness_RingsTakeAndComplete_2 : ∃ (off : BitVec 19) (len : Fin 64) (cis : List (Option Word)) (r : Ring) (s : State), (doorbellsOf off.toNat (len.val + 1) = [r.val]) ∧ (s.sqRuns r = true) ∧ (s.sqKind r ≤ 2) ∧ (s.hostOn = false) :=
  ⟨0x3F, 0, [], 0, { (({ State.reset with hq := { State.reset.hq with busMaster := true, pcieUp := true } } : State).setReg (sqOff 0 + 0x18) (BitVec.ofNat 32 (2 ^ 31 + 0 * 2 ^ 28 + 6 * 2 ^ 23))).setReg (sqOff 0 + 0x1C) (BitVec.ofNat 32 (1 * 2 ^ 29)) with hq := State.reset.hq }, by decide⟩

/-- The premises of RingsTakeAndComplete, part 3, hold somewhere. -/
theorem witness_RingsTakeAndComplete_3 : ∃ (off : BitVec 19) (len : Fin 64) (cis : List (Option Word)) (r : Ring) (s : State), (doorbellsOf off.toNat (len.val + 1) = [r.val]) ∧ (s.sqRuns r = false ∨ 3 ≤ s.sqKind r) :=
  ⟨0x3F, 0, [], 0, State.reset, by decide⟩

/-- The premises of RingsTakeAndComplete, part 4, hold somewhere. -/
theorem witness_RingsTakeAndComplete_4 : ∃ (off : BitVec 19) (len : Fin 64) (cis : List (Option Word)) (r : Ring) (s : State), (doorbellsOf off.toNat (len.val + 1) = [r.val]) ∧ (s.sqRuns r = true) ∧ (s.sqKind r ≤ 2) ∧ (s.hostOn = true) ∧ (s.sqState r = 2) :=
  ⟨0x3F, 0, [], 0, (({ State.reset with hq := { State.reset.hq with busMaster := true, pcieUp := true } } : State).setReg (sqOff 0 + 0x18) (BitVec.ofNat 32 (2 ^ 31 + 0 * 2 ^ 28 + 6 * 2 ^ 23))).setReg (sqOff 0 + 0x1C) (BitVec.ofNat 32 (2 * 2 ^ 29)), by decide⟩

/-- The premises of RingsTakeAndComplete, part 5, hold somewhere. -/
theorem witness_RingsTakeAndComplete_5 : ∃ (r : Ring) (entries : List EntryRead) (ci : Option Word) (s : State), (s.sqEn r = true) ∧ (s.sqState r = 2) ∧ (s.sqKind r ≤ 2) ∧ (s.hostOn = true) ∧ (s.sqKind r = 2 ∨ s.groupServed 0 = true) :=
  ⟨0, [], none, (({ State.reset with hq := { State.reset.hq with busMaster := true, pcieUp := true } } : State).setReg (sqOff 0 + 0x18) (BitVec.ofNat 32 (2 ^ 31 + 0 * 2 ^ 28 + 6 * 2 ^ 23))).setReg (sqOff 0 + 0x1C) (BitVec.ofNat 32 (2 * 2 ^ 29)), by decide⟩

/-- The premises of RingsTakeAndComplete, part 6, hold somewhere. -/
theorem witness_RingsTakeAndComplete_6 : ∃ (r : Ring) (e : List Byte) (ci : Option Word) (s : State), (s.sqEn r = true) ∧ (s.sqState r = 2) ∧ (s.sqKind r = 0) ∧ (s.hostOn = true) ∧ (s.groupServed 0 = true) ∧ (entryByte e 0 % 2 = phaseOf (s.sqCi r) (s.sqLog r)) ∧ (s.missing r e = 0) ∧ (s.entryCode r (s.sqCi r) e = 0) :=
  ⟨0, [1, 0, 0, 0, 0, 0, 0, 0, 1, 0] ++ List.replicate 54 0, some 0, (((({ State.reset with hq := { State.reset.hq with busMaster := true, pcieUp := true } } : State).setReg (sqOff 0 + 0x18) (BitVec.ofNat 32 (2 ^ 31 + 0 * 2 ^ 28 + 6 * 2 ^ 23))).setReg (sqOff 0 + 0x1C) (BitVec.ofNat 32 (2 * 2 ^ 29))).setReg (cqOff 0 + 0x18) 0xA6000000), by decide⟩

/-- The premises of RingsTakeAndComplete, part 7, hold somewhere. -/
theorem witness_RingsTakeAndComplete_7 : ∃ (r : Ring) (pi : Option Word) (entries : List EntryRead) (ci : Option Word) (s : State), (s.sqEn r = false ∨ s.sqState r ≠ 2 ∨ 2 < s.sqKind r ∨ s.hostOn = false ∨ (s.sqKind r ≠ 2 ∧ s.groupServed 0 = false)) :=
  ⟨0, none, [], none, State.reset, by decide⟩

/-- The premises of RingsTakeAndComplete, part 8, hold somewhere. -/
theorem witness_RingsTakeAndComplete_8 : ∃ (r : Ring) (s : State), ((s.sq r).since = none ∨ s.sqRuns r = false ∨ s.sqState r = 2 ∨ s.sqState r = 3) :=
  ⟨0, State.reset, by decide⟩

/-- The premises of RingsTakeAndComplete, part 9, hold somewhere. -/
theorem witness_RingsTakeAndComplete_9 : ∃ (r : Ring) (t0 : Nat) (s : State), (s.sqRuns r = true) ∧ (s.sqKind r ≤ 2) ∧ (s.hostOn = true) ∧ ((s.sq r).since = some t0) ∧ (s.sqState r ≠ 2) ∧ (s.sqState r ≠ 3) ∧ (t0 + 1000000 ≤ s.now) ∧ ((s.sq r).stalled = false) :=
  ⟨0, 0, { (({ State.reset with hq := { State.reset.hq with busMaster := true, pcieUp := true } } : State).setReg (sqOff 0 + 0x18) (BitVec.ofNat 32 (2 ^ 31 + 0 * 2 ^ 28 + 6 * 2 ^ 23))).setReg (sqOff 0 + 0x1C) (BitVec.ofNat 32 (1 * 2 ^ 29)) with hq := { State.reset.hq with busMaster := true, pcieUp := true, sq := [(0, { since := some 0 })] }, time := { State.reset.time with tu := 1000000 } }, by decide⟩

/-- The premises of RingsTakeAndComplete, part 10, hold somewhere. -/
theorem witness_RingsTakeAndComplete_10 : ∃ (r : Ring) (s : State), (s.sqRuns r = true) ∧ (s.sqKind r ≤ 2) ∧ (s.hostOn = true) ∧ (s.sqState r = 3) :=
  ⟨0, (({ State.reset with hq := { State.reset.hq with busMaster := true, pcieUp := true } } : State).setReg (sqOff 0 + 0x18) (BitVec.ofNat 32 (2 ^ 31 + 0 * 2 ^ 28 + 6 * 2 ^ 23))).setReg (sqOff 0 + 0x1C) (BitVec.ofNat 32 (3 * 2 ^ 29)), by decide⟩

/-- The premises of RingsTakeAndComplete, part 11, hold somewhere. -/
theorem witness_RingsTakeAndComplete_11 : ∃ (r : Ring) (s : State), (s.sqState r ≠ 3 ∨ s.sqRuns r = false ∨ 3 ≤ s.sqKind r) :=
  ⟨0, State.reset, by decide⟩

/-- The premises of RingsTakeAndComplete, part 12, hold somewhere. -/
theorem witness_RingsTakeAndComplete_12 : ∃ (r : Ring) (pi : Option Word) (entries : List EntryRead) (s : State), (s.sqRuns r = false ∨ s.sqKind r ≠ 3 ∨ s.hostOn = false) :=
  ⟨0, none, [], State.reset, by decide⟩

/-- The premises of RingsTakeAndComplete, part 13, hold somewhere. -/
theorem witness_RingsTakeAndComplete_13 : ∃ (r : Ring) (entries : List EntryRead) (s : State), (s.sqRuns r = true) ∧ (s.sqKind r = 3) ∧ (s.hostOn = true) :=
  ⟨0, [], (({ State.reset with hq := { State.reset.hq with busMaster := true, pcieUp := true } } : State).setReg (sqOff 0 + 0x18) (BitVec.ofNat 32 (2 ^ 31 + 3 * 2 ^ 28 + 6 * 2 ^ 23))).setReg (sqOff 0 + 0x1C) (BitVec.ofNat 32 (1 * 2 ^ 29)), by decide⟩

/-- The premises of RingsTakeAndComplete, part 14, hold somewhere. -/
theorem witness_RingsTakeAndComplete_14 : ∃ (r : Ring) (pi : Word) (e : List Byte) (s : State), (s.sqRuns r = true) ∧ (s.sqKind r = 3) ∧ (s.hostOn = true) ∧ (s.badPi r pi = false) ∧ (s.sqCi r + BitVec.ofNat 32 (s.sq r).bufs.length ≠ pi) ∧ ((s.sq r).bufs.length < 16) ∧ (entryByte e 0 % 2 = phaseOf (s.sqCi r + BitVec.ofNat 32 (s.sq r).bufs.length) (s.sqLog r)) :=
  ⟨0, 1, [1], (({ State.reset with hq := { State.reset.hq with busMaster := true, pcieUp := true } } : State).setReg (sqOff 0 + 0x18) (BitVec.ofNat 32 (2 ^ 31 + 3 * 2 ^ 28 + 6 * 2 ^ 23))).setReg (sqOff 0 + 0x1C) (BitVec.ofNat 32 (1 * 2 ^ 29)), by decide⟩

/-- The premises of RingsTakeAndComplete, part 15, hold somewhere. -/
theorem witness_RingsTakeAndComplete_15 : ∃ (r : Ring) (full : List (Fin 256)) (x : Taken) (w : TxWork) (s : State), (s.hostOn = true) ∧ (s.bufferPaused = false) ∧ ((s.sq r).reading = some (x, w)) :=
  ⟨0, [], ({ idx := 0, tag := 0, work := .tx { addr := 64, len := 60, direct := false, cls := 0, target := 0, op := 0, gen := false } } : Taken), { addr := 64, len := 60, direct := false, cls := 0, target := 0, op := 0, gen := false }, ({ State.reset with hq := { State.reset.hq with busMaster := true, pcieUp := true } } : State).setSq 0 { taken := [({ idx := 0, tag := 0, work := .tx { addr := 64, len := 60, direct := false, cls := 0, target := 0, op := 0, gen := false } } : Taken)] }, by decide⟩

/-- The premises of RingsTakeAndComplete, part 19, hold somewhere. -/
theorem witness_RingsTakeAndComplete_19 : ∃ (r : Ring) (bytes : Option (List Byte)) (full : List (Fin 256)) (s : State), (s.hostOn = false ∨ s.bufferPaused = true ∨ (s.sq r).reading = none ∨ (bytes.isSome = true ∧ s.allocDesc = none)) :=
  ⟨0, none, [], State.reset, by decide⟩

/-- The premises of RingsTakeAndComplete, part 20, hold somewhere. -/
theorem witness_RingsTakeAndComplete_20 : ∃ (r : Ring) (ci : Option Word) (x : Taken) (rest : List Taken) (d : Done) (s : State), (s.hostOn = true) ∧ ((s.sq r).taken = x :: rest) ∧ (s.postable x = some d) :=
  ⟨0, some 0, { idx := 0, tag := 0, work := .command, done := some { code := 0 } }, [], { code := 0 }, ({ State.reset with hq := { State.reset.hq with busMaster := true, pcieUp := true } } : State).setSq 0 { taken := [{ idx := 0, tag := 0, work := .command, done := some { code := 0 } }] }, by decide⟩

/-- The premises of RingsTakeAndComplete, part 21, hold somewhere. -/
theorem witness_RingsTakeAndComplete_21 : ∃ (r : Ring) (ci : Option Word) (s : State), (s.hostOn = false ∨ (s.sq r).taken.head?.bind s.postable = none) :=
  ⟨0, none, State.reset, by decide⟩

/-- The premises of RingsTakeAndComplete, part 22, hold somewhere. -/
theorem witness_RingsTakeAndComplete_22 : ∃ (off : BitVec 19) (len : Fin 64) (r : Ring) (cis : List (Option Word)) (s : State), (doorbellsOf off.toNat (len.val + 1) = [4096 + r.val]) ∧ (s.cqEn r = false ∨ s.hostOn = false) :=
  ⟨0x40000, 0, 0, [], State.reset, by decide⟩

/-- The premises of RingsTakeAndComplete, part 23, hold somewhere. -/
theorem witness_RingsTakeAndComplete_23 : ∃ (off : BitVec 19) (len : Fin 64) (r : Ring) (ci : Word) (rest : List (Option Word)) (s : State), (doorbellsOf off.toNat (len.val + 1) = [4096 + r.val]) ∧ (s.cqEn r = true) ∧ (s.hostOn = true) :=
  ⟨0x40000, 0, 0, 0, [], (({ State.reset with hq := { State.reset.hq with busMaster := true, pcieUp := true } } : State).setReg (cqOff 0 + 0x18) 0xA6000000), by decide⟩

/-- The premises of RingsTakeAndComplete, part 24, hold somewhere. -/
theorem witness_RingsTakeAndComplete_24 : ∃ (r : Ring) (ci : Option Word) (s : State), (s.cqEn r = true) ∧ (s.bit (cqOff r + 0x18) 29 = true) ∧ (s.bit (cqOff r + 0x20) 29 = true) ∧ (s.cqUnread r ≠ 0) ∧ (s.hostOn = true) ∧ (ci = none ∨ ci = some (s.cqCi r)) :=
  ⟨0, none, ((({ State.reset with hq := { State.reset.hq with busMaster := true, pcieUp := true } } : State).setReg (cqOff 0 + 0x18) 0xA6000000).setBit (cqOff 0 + 0x20) 29 true).setReg (cqOff 0 + 0x24) 2, by decide⟩

/-- The premises of RingsTakeAndComplete, part 25, hold somewhere. -/
theorem witness_RingsTakeAndComplete_25 : ∃ (r : Ring) (v : Word) (s : State), (s.cqEn r = true) ∧ (s.bit (cqOff r + 0x18) 29 = true) ∧ (s.bit (cqOff r + 0x20) 29 = true) ∧ (s.cqUnread r ≠ 0) ∧ (s.hostOn = true) ∧ (v ≠ s.cqCi r) :=
  ⟨0, 1, ((({ State.reset with hq := { State.reset.hq with busMaster := true, pcieUp := true } } : State).setReg (cqOff 0 + 0x18) 0xA6000000).setBit (cqOff 0 + 0x20) 29 true).setReg (cqOff 0 + 0x24) 2, by decide⟩

/-- The premises of RingsTakeAndComplete, part 26, hold somewhere. -/
theorem witness_RingsTakeAndComplete_26 : ∃ (r : Ring) (ci : Option Word) (s : State), (s.cqEn r = false ∨ s.bit (cqOff r + 0x18) 29 = false ∨ s.bit (cqOff r + 0x20) 29 = false ∨ s.cqUnread r = 0 ∨ s.hostOn = false) :=
  ⟨0, none, State.reset, by decide⟩

/-- The premises of RingsTakeAndComplete, part 27, hold somewhere. -/
theorem witness_RingsTakeAndComplete_27 : ∃ (ci : Word) (f : FaultRecord) (rest : List FaultRecord) (s : State), (s.groupServed 1 = true) ∧ (s.buf.found = []) ∧ (s.fc.records = f :: rest) ∧ (s.bit 0x400000 31 = true) ∧ (s.eventRoom (s.fld 0x400000 11 0) 1 = true) :=
  ⟨0, ({ source := 1, cls := .n, flags := 0, count := 1, state := 2, ts := 0, sec := 0, detail := 0, lastClean := 0, device := 0, cell := 5 } : FaultRecord), [], { ((({ State.reset with hq := { State.reset.hq with busMaster := true, pcieUp := true } } : State).setReg (cqOff 0 + 0x18) 0xC6000000).setReg 0x400000 0x80000000) with fc := { State.reset.fc with records := [({ source := 1, cls := .n, flags := 0, count := 1, state := 2, ts := 0, sec := 0, detail := 0, lastClean := 0, device := 0, cell := 5 } : FaultRecord)] } }, by decide⟩

/-- The premises of RingsTakeAndComplete, part 28, hold somewhere. -/
theorem witness_RingsTakeAndComplete_28 : ∃ (ci : Word) (x : CaptureRec) (rest : List CaptureRec) (s : State), (s.buf.found = []) ∧ (s.hq.captures = x :: rest) ∧ (x.ring < 4096) ∧ (x.session < 64) ∧ (s.eventRoom x.ring 3 = true) :=
  ⟨0, { ring := 0, session := 0, bytes := [], cells := [] }, [], { ((({ State.reset with hq := { State.reset.hq with busMaster := true, pcieUp := true } } : State).setReg (cqOff 0 + 0x18) 0xC6000000).setReg 0x400000 0x80000000) with hq := { State.reset.hq with busMaster := true, pcieUp := true, captures := [{ ring := 0, session := 0, bytes := [], cells := [] }] } }, by decide⟩

/-- The premises of RingsTakeAndComplete, part 29, hold somewhere. -/
theorem witness_RingsTakeAndComplete_29 : ∃ (ci : Option Word) (f : FaultRecord) (rest : List FaultRecord) (s : State), (s.groupServed 1 = true) ∧ (s.buf.found = []) ∧ (s.fc.records = f :: rest) ∧ (s.bit 0x400000 31 = false ∨ s.eventRoom (s.fld 0x400000 11 0) 1 = false) :=
  ⟨none, ({ source := 1, cls := .n, flags := 0, count := 1, state := 2, ts := 0, sec := 0, detail := 0, lastClean := 0, device := 0, cell := 5 } : FaultRecord), [], { State.reset with fc := { State.reset.fc with records := [({ source := 1, cls := .n, flags := 0, count := 1, state := 2, ts := 0, sec := 0, detail := 0, lastClean := 0, device := 0, cell := 5 } : FaultRecord)] } }, by decide⟩

/-- The premises of RingsTakeAndComplete, part 30, hold somewhere. -/
theorem witness_RingsTakeAndComplete_30 : ∃ (ci : Option Word) (x : CaptureRec) (rest : List CaptureRec) (s : State), (s.buf.found = []) ∧ (s.hq.captures = x :: rest) ∧ (x.session < 64) ∧ (s.eventRoom x.ring 3 = false) :=
  ⟨none, { ring := 0, session := 0, bytes := [], cells := [] }, [], { State.reset with hq := { State.reset.hq with captures := [{ ring := 0, session := 0, bytes := [], cells := [] }] } }, by decide⟩

/-- The premises of RingsTakeAndComplete, part 31, hold somewhere. -/
theorem witness_RingsTakeAndComplete_31 : ∃ (capture : Bool) (ci : Option Word) (s : State), (s.buf.found = []) ∧ ((capture = true ∧ s.hq.captures = []) ∨ (capture = false ∧ (s.groupServed 1 = false ∨ s.fc.records = []))) :=
  ⟨true, none, State.reset, by decide⟩

/-- The premises of KeystonePairsFailAndReturn, part 1, hold somewhere. -/
theorem witness_KeystonePairsFailAndReturn_1 : ∃ (p : Fin 2) (s : State), (s.kcRuns p = true) ∧ (s.kcRuns (1 - p.val) = true) :=
  ⟨0, State.reset.setFld 0x700000 5 0 9, by decide⟩

/-- The premises of KeystonePairsFailAndReturn, part 2, hold somewhere. -/
theorem witness_KeystonePairsFailAndReturn_2 : ∃ (p : Fin 2) (s : State), (s.kcRuns p = true) ∧ (s.kcRuns (1 - p.val) = false) ∧ (s.chip.mode ≠ .off) ∧ (s.fc.injNext ≠ some (srcChip (0x0F + p.val) 0) ∨ s.fc.injQuiet = false) ∧ (s.chip.lockColl.phase = .paired) :=
  ⟨0, State.reset.setFld 0x700000 5 0 1, by decide⟩

/-- The premises of KeystonePairsFailAndReturn, part 3, hold somewhere. -/
theorem witness_KeystonePairsFailAndReturn_3 : ∃ (p : Fin 2) (s : State), (s.kcRuns p = false) :=
  ⟨0, State.reset.setFld 0x700000 5 0 0, by decide⟩

/-- The premises of KeystonePairsFailAndReturn, part 4, hold somewhere. -/
theorem witness_KeystonePairsFailAndReturn_4 : ∃ (p : Fin 2) (s : State), (s.kcRuns p = true) ∧ (s.kcRuns (1 - p.val) = true) :=
  ⟨0, State.reset.setFld 0x700000 5 0 9, by decide⟩

/-- The premises of KeystonePairsFailAndReturn, part 5, hold somewhere. -/
theorem witness_KeystonePairsFailAndReturn_5 : ∃ (p : Fin 2) (s : State), (s.kcRuns p = true) ∧ (s.kcRuns (1 - p.val) = false) ∧ (s.chip.mode ≠ .off) ∧ (s.fc.injNext ≠ some (srcChip (0x0F + p.val) 2) ∨ s.fc.injQuiet = false) ∧ (s.chip.lockColl.phase = .paired) :=
  ⟨0, State.reset.setFld 0x700000 5 0 1, by decide⟩

/-- The premises of KeystonePairsFailAndReturn, part 6, hold somewhere. -/
theorem witness_KeystonePairsFailAndReturn_6 : ∃ (p : Fin 2) (s : State), (s.kcRuns p = false) :=
  ⟨0, State.reset.setFld 0x700000 5 0 0, by decide⟩

/-- The premises of KeystonePairsFailAndReturn, part 7, hold somewhere. -/
theorem witness_KeystonePairsFailAndReturn_7 : ∃ (p : Fin 2) (s : State), (s.owesTakeover p = true) ∧ (s.ks.taking.contains p.val = false) ∧ (({ s.kc (1 - p.val) with irq := (s.kc (1 - p.val)).irq ||| 1#64 <<< (Config.takeoverSource % 64) } : KcPair).interrupt = none) :=
  ⟨0, State.reset.setFld 0x700000 5 0 0x0A, by decide⟩

/-- The premises of KeystonePairsFailAndReturn, part 9, hold somewhere. -/
theorem witness_KeystonePairsFailAndReturn_9 : ∃ (p : Fin 2) (s : State), (s.owesTakeover p = false ∨ s.ks.taking.contains p.val = true) :=
  ⟨0, State.reset, by decide⟩

/-- The premises of KeystonePairsFailAndReturn, part 10, hold somewhere. -/
theorem witness_KeystonePairsFailAndReturn_10 : ∃ (p : Fin 2) (s : State), (s.owesTakeover p = true) ∧ (s.ks.taking.contains p.val = true) :=
  ⟨0, { State.reset.setFld 0x700000 5 0 0x0A with ks := { State.reset.ks with taking := [0] } }, by decide⟩

/-- The premises of KeystonePairsFailAndReturn, part 11, hold somewhere. -/
theorem witness_KeystonePairsFailAndReturn_11 : ∃ (p : Fin 2) (s : State), (s.owesTakeover p = false ∨ s.ks.taking.contains p.val = false) :=
  ⟨0, State.reset, by decide⟩

/-- The premises of KeystonePairsFailAndReturn, part 12, hold somewhere. -/
theorem witness_KeystonePairsFailAndReturn_12 : ∃ (v : Word) (s : State), (s.closed 0x700004 = false) ∧ (getBits v 1 1 = 1) ∧ (getBits v 2 2 = 0) ∧ (s.ksState (getBits v 0 0) = 2) :=
  ⟨2, State.reset.setFld 0x700000 5 0 0x0A, by decide⟩

/-- The premises of KeystonePairsFailAndReturn, part 13, hold somewhere. -/
theorem witness_KeystonePairsFailAndReturn_13 : ∃ (v : Word) (s : State), (s.closed 0x700004 = false) ∧ (getBits v 1 1 = 1) ∧ (getBits v 2 2 = 0) ∧ (s.ksState (getBits v 0 0) ≠ 2) :=
  ⟨2, State.reset, by decide⟩

/-- The premises of KeystonePairsFailAndReturn, part 14, hold somewhere. -/
theorem witness_KeystonePairsFailAndReturn_14 : ∃ (v : Word) (s : State), (s.closed 0x700004 = true) :=
  ⟨2, { State.reset with chip := { State.reset.chip with warm := .sealed } }, by decide⟩

/-- The premises of KeystonePairsFailAndReturn, part 15, hold somewhere. -/
theorem witness_KeystonePairsFailAndReturn_15 : ∃ (v : Word) (s : State), (s.closed 0x700004 = false) ∧ (getBits v 1 1 = 0) ∧ (getBits v 2 2 = 1) ∧ (s.ksState (getBits v 0 0) = 4) :=
  ⟨4, State.reset.setFld 0x700000 5 0 0x0C, by decide⟩

/-- The premises of KeystonePairsFailAndReturn, part 16, hold somewhere. -/
theorem witness_KeystonePairsFailAndReturn_16 : ∃ (v : Word) (s : State), (s.closed 0x700004 = false) ∧ (getBits v 1 1 = 0) ∧ (getBits v 2 2 = 1) ∧ (s.ksState (getBits v 0 0) ≠ 4) :=
  ⟨4, State.reset, by decide⟩

/-- The premises of KeystonePairsFailAndReturn, part 17, hold somewhere. -/
theorem witness_KeystonePairsFailAndReturn_17 : ∃ (v : Word) (s : State), (s.closed 0x700004 = true) :=
  ⟨4, { State.reset with chip := { State.reset.chip with warm := .sealed } }, by decide⟩

/-- The premises of KeystonePairsFailAndReturn, part 18, hold somewhere. -/
theorem witness_KeystonePairsFailAndReturn_18 : ∃ (p : Fin 2) (s : State), (s.ksState p = 3) :=
  ⟨0, State.reset.setFld 0x700000 5 0 0x0B, by decide⟩

/-- The premises of KeystonePairsFailAndReturn, part 19, hold somewhere. -/
theorem witness_KeystonePairsFailAndReturn_19 : ∃ (p : Fin 2) (s : State), (s.ksState p = 3) :=
  ⟨0, State.reset.setFld 0x700000 5 0 0x0B, by decide⟩

/-- The premises of KeystonePairsFailAndReturn, part 20, hold somewhere. -/
theorem witness_KeystonePairsFailAndReturn_20 : ∃ (p : Fin 2) (passed : Bool) (s : State), (s.ksState p ≠ 3) :=
  ⟨0, true, State.reset, by decide⟩

/-- The premises of FrameWindowsAndTraps, part 1, hold somewhere. -/
theorem witness_FrameWindowsAndTraps_1 : ∃ (p : Fin 2) (target ret : DWord) (s : State), (s.kcRuns p = true) ∧ ((s.kc p).tactive = false) ∧ ((s.kc p).depth ≠ 15) :=
  ⟨0, 8, 4, (State.reset.setFld 0x700000 5 0 9).setKc 0 { depth := 1 }, by decide⟩

/-- The premises of FrameWindowsAndTraps, part 2, hold somewhere. -/
theorem witness_FrameWindowsAndTraps_2 : ∃ (p : Fin 2) (target ret : DWord) (s : State), (s.kcRuns p = true) ∧ ((s.kc p).tactive = false) ∧ ((s.kc p).depth = 15) :=
  ⟨0, 8, 4, (State.reset.setFld 0x700000 5 0 9).setKc 0 { depth := 15 }, by decide⟩

/-- The premises of FrameWindowsAndTraps, part 3, hold somewhere. -/
theorem witness_FrameWindowsAndTraps_3 : ∃ (p : Fin 2) (target ret : DWord) (s : State), (s.kcRuns p = true) ∧ ((s.kc p).tactive = true) ∧ (s.kcRuns (1 - p.val) = true) :=
  ⟨0, 8, 4, (State.reset.setFld 0x700000 5 0 9).setKc 0 { tactive := true }, by decide⟩

/-- The premises of FrameWindowsAndTraps, part 4, hold somewhere. -/
theorem witness_FrameWindowsAndTraps_4 : ∃ (p : Fin 2) (target ret : DWord) (s : State), (s.kcRuns p = false) :=
  ⟨0, 8, 4, State.reset.setFld 0x700000 5 0 0, by decide⟩

/-- The premises of FrameWindowsAndTraps, part 5, hold somewhere. -/
theorem witness_FrameWindowsAndTraps_5 : ∃ (p : Fin 2) (s : State), (s.kcRuns p = true) ∧ ((s.kc p).tactive = true) ∧ ((s.kc p).depth = 1) ∧ (s.kcRuns (1 - p.val) = true) :=
  ⟨0, (State.reset.setFld 0x700000 5 0 9).setKc 0 { tactive := true, depth := 1 }, by decide⟩

/-- The premises of FrameWindowsAndTraps, part 6, hold somewhere. -/
theorem witness_FrameWindowsAndTraps_6 : ∃ (p : Fin 2) (s : State), (s.kcRuns p = false) :=
  ⟨0, State.reset.setFld 0x700000 5 0 0, by decide⟩

/-- The premises of FrameWindowsAndTraps, part 7, hold somewhere. -/
theorem witness_FrameWindowsAndTraps_7 : ∃ (p : Fin 2) (s : State), (s.kcRuns p = true) ∧ ((s.kc p).depth ≠ 1) :=
  ⟨0, (State.reset.setFld 0x700000 5 0 9).setKc 0 { depth := 2 }, by decide⟩

/-- The premises of FrameWindowsAndTraps, part 8, hold somewhere. -/
theorem witness_FrameWindowsAndTraps_8 : ∃ (p : Fin 2) (s : State), (s.kcRuns p = true) ∧ ((s.kc p).tactive = false) ∧ ((s.kc p).depth = 1) :=
  ⟨0, (State.reset.setFld 0x700000 5 0 9).setKc 0 { depth := 1 }, by decide⟩

/-- The premises of FrameWindowsAndTraps, part 9, hold somewhere. -/
theorem witness_FrameWindowsAndTraps_9 : ∃ (p : Fin 2) (w : Fin 16) (s : State), (s.kcRuns p = true) ∧ ((s.kc p).spillFull = false) :=
  ⟨0, 3, (State.reset.setFld 0x700000 5 0 9).setKc 0 { spillLimit := 256 }, by decide⟩

/-- The premises of FrameWindowsAndTraps, part 10, hold somewhere. -/
theorem witness_FrameWindowsAndTraps_10 : ∃ (p : Fin 2) (w : Fin 16) (s : State), (s.kcRuns p = true) ∧ ((s.kc p).tactive = false) ∧ ((s.kc p).spillFull = true) :=
  ⟨0, 3, (State.reset.setFld 0x700000 5 0 9).setKc 0 { depth := 1 }, by decide⟩

/-- The premises of FrameWindowsAndTraps, part 11, hold somewhere. -/
theorem witness_FrameWindowsAndTraps_11 : ∃ (p : Fin 2) (w : Fin 16) (s : State), (s.kcRuns p = true) ∧ ((s.kc p).tactive = true) ∧ ((s.kc p).spillFull = true) ∧ (s.kcRuns (1 - p.val) = true) :=
  ⟨0, 3, (State.reset.setFld 0x700000 5 0 9).setKc 0 { tactive := true }, by decide⟩

/-- The premises of FrameWindowsAndTraps, part 12, hold somewhere. -/
theorem witness_FrameWindowsAndTraps_12 : ∃ (p : Fin 2) (w : Fin 16) (s : State), (s.kcRuns p = false) :=
  ⟨0, 3, State.reset.setFld 0x700000 5 0 0, by decide⟩

/-- The premises of FrameWindowsAndTraps, part 13, hold somewhere. -/
theorem witness_FrameWindowsAndTraps_13 : ∃ (p : Fin 2) (w : Fin 16) (s : State), (s.kcRuns p = true) ∧ ((s.kc p).tactive = false) ∧ ((s.kc p).spillPtr.toNat < (s.kc p).spillBase.toNat + 128) :=
  ⟨0, 3, (State.reset.setFld 0x700000 5 0 9).setKc 0 { depth := 1 }, by decide⟩

/-- The premises of FrameWindowsAndTraps, part 14, hold somewhere. -/
theorem witness_FrameWindowsAndTraps_14 : ∃ (p : Fin 2) (w : Fin 16) (s : State), (s.kcRuns p = true) ∧ ((s.kc p).tactive = true) ∧ ((s.kc p).spillPtr.toNat < (s.kc p).spillBase.toNat + 128) ∧ (s.kcRuns (1 - p.val) = true) :=
  ⟨0, 3, (State.reset.setFld 0x700000 5 0 9).setKc 0 { tactive := true }, by decide⟩

/-- The premises of FrameWindowsAndTraps, part 15, hold somewhere. -/
theorem witness_FrameWindowsAndTraps_15 : ∃ (p : Fin 2) (w : Fin 16) (s : State), (s.kcRuns p = false) :=
  ⟨0, 3, State.reset.setFld 0x700000 5 0 0, by decide⟩

/-- The premises of FrameWindowsAndTraps, part 16, hold somewhere. -/
theorem witness_FrameWindowsAndTraps_16 : ∃ (p : Fin 2) (w : Fin 16) (s : State), (s.kcRuns p = true) ∧ ((s.kc p).spillBase.toNat + 128 ≤ (s.kc p).spillPtr.toNat) :=
  ⟨0, 3, (State.reset.setFld 0x700000 5 0 9).setKc 0 { spillPtr := 128 }, by decide⟩

/-- The premises of FrameWindowsAndTraps, part 17, hold somewhere. -/
theorem witness_FrameWindowsAndTraps_17 : ∃ (p : Fin 2) (s : State), (s.kcRuns p = true) ∧ ((s.kc p).tactive = true) ∧ (({ s.kc p with tactive := false } : KcPair).interrupt = none) :=
  ⟨0, (State.reset.setFld 0x700000 5 0 9).setKc 0 { tactive := true }, by decide⟩

/-- The premises of FrameWindowsAndTraps, part 18, hold somewhere. -/
theorem witness_FrameWindowsAndTraps_18 : ∃ (p : Fin 2) (s : State), (s.kcRuns p = true) ∧ ((s.kc p).tactive = false) :=
  ⟨0, (State.reset.setFld 0x700000 5 0 9).setKc 0 { depth := 2 }, by decide⟩

/-- The premises of FrameWindowsAndTraps, part 19, hold somewhere. -/
theorem witness_FrameWindowsAndTraps_19 : ∃ (p : Fin 2) (i : Nat) (s : State), (s.kcRuns p = true) ∧ ((s.kc p).tactive = true) ∧ (({ s.kc p with tactive := false } : KcPair).interrupt = some i) :=
  ⟨0, 0, (State.reset.setFld 0x700000 5 0 9).setKc 0 { tactive := true, irq := 1, imask := 0x8000000000000001 }, by decide⟩

/-- The premises of FrameWindowsAndTraps, part 20, hold somewhere. -/
theorem witness_FrameWindowsAndTraps_20 : ∃ (p : Fin 2) (s : State), (s.kcRuns p = false) :=
  ⟨0, State.reset.setFld 0x700000 5 0 0, by decide⟩

/-- The premises of FrameWindowsAndTraps, part 21, hold somewhere. -/
theorem witness_FrameWindowsAndTraps_21 : ∃ (p : Fin 2) (causes : List Byte) (c : Nat) (s : State), (s.kcRuns p = true) ∧ ((s.kc p).tactive = false) ∧ (kcFirst (causes.filter (fun x => x.toNat < 0x40)) = some c) :=
  ⟨0, [3, 2, 0x45], 2, (State.reset.setFld 0x700000 5 0 9).setKc 0 { depth := 2 }, by decide⟩

/-- The premises of FrameWindowsAndTraps, part 22, hold somewhere. -/
theorem witness_FrameWindowsAndTraps_22 : ∃ (p : Fin 2) (causes : List Byte) (c : Nat) (s : State), (s.kcRuns p = true) ∧ ((s.kc p).tactive = true) ∧ (kcFirst (causes.filter (fun x => x.toNat < 0x40)) = some c) ∧ (s.kcRuns (1 - p.val) = true) :=
  ⟨0, [3, 2, 0x45], 2, (State.reset.setFld 0x700000 5 0 9).setKc 0 { tactive := true }, by decide⟩

/-- The premises of FrameWindowsAndTraps, part 23, hold somewhere. -/
theorem witness_FrameWindowsAndTraps_23 : ∃ (p : Fin 2) (causes : List Byte) (s : State), (s.kcRuns p = true) ∧ (kcFirst (causes.filter (fun x => x.toNat < 0x40)) = none) ∧ (({ s.kc p with irq := (s.kc p).irq ||| kcLines causes } : KcPair).interrupt = none) :=
  ⟨0, [0x45], (State.reset.setFld 0x700000 5 0 9).setKc 0 { depth := 2 }, by decide⟩

/-- The premises of FrameWindowsAndTraps, part 24, hold somewhere. -/
theorem witness_FrameWindowsAndTraps_24 : ∃ (p : Fin 2) (causes : List Byte) (i : Nat) (s : State), (s.kcRuns p = true) ∧ (kcFirst (causes.filter (fun x => x.toNat < 0x40)) = none) ∧ (({ s.kc p with irq := (s.kc p).irq ||| kcLines causes } : KcPair).interrupt = some i) :=
  ⟨0, [0x40], 0, (State.reset.setFld 0x700000 5 0 9).setKc 0 { imask := 0x8000000000000001 }, by decide⟩

/-- The premises of FrameWindowsAndTraps, part 25, hold somewhere. -/
theorem witness_FrameWindowsAndTraps_25 : ∃ (p : Fin 2) (causes : List Byte) (s : State), (s.kcRuns p = false) :=
  ⟨0, [2], State.reset.setFld 0x700000 5 0 0, by decide⟩

/-- The premises of FrameWindowsAndTraps, part 26, hold somewhere. -/
theorem witness_FrameWindowsAndTraps_26 : ∃ (p : Fin 2) (lines : DWord) (s : State), (s.kcRuns p = true) ∧ (({ s.kc p with irq := (s.kc p).irq ||| lines } : KcPair).interrupt = none) :=
  ⟨0, 1, (State.reset.setFld 0x700000 5 0 9).setKc 0 { depth := 2 }, by decide⟩

/-- The premises of FrameWindowsAndTraps, part 27, hold somewhere. -/
theorem witness_FrameWindowsAndTraps_27 : ∃ (p : Fin 2) (lines : DWord) (i : Nat) (s : State), (s.kcRuns p = true) ∧ (({ s.kc p with irq := (s.kc p).irq ||| lines }).interrupt = some i) :=
  ⟨0, 1, 0, (State.reset.setFld 0x700000 5 0 9).setKc 0 { imask := 0x8000000000000001 }, by decide⟩

/-- The premises of FrameWindowsAndTraps, part 28, hold somewhere. -/
theorem witness_FrameWindowsAndTraps_28 : ∃ (p : Fin 2) (lines : DWord) (s : State), (s.kcRuns p = false) :=
  ⟨0, 1, State.reset.setFld 0x700000 5 0 0, by decide⟩

/-- The premises of TableRequestsActInEveryReplica, part 2, hold somewhere. -/
theorem witness_TableRequestsActInEveryReplica_2 : ∃ (r : Ring) (c : Call) (b : List Byte) (s : State), (s.callFor r 2 1 = some c) ∧ (statesChange s.chip.mode = true ∨ (c.lsn.isSome = true ∧ s.chip.mode = .recovery)) ∧ (c.tableArgs.addr ≠ 0) ∧ (c.tableArgs.addr % 8 = 0) ∧ (s.tableCheck c.tableArgs = 0) ∧ (recordOk c.tableArgs.table (s.geometry s.refSpan c.tableArgs.table) c.tableArgs (entryRecord b) = true) ∧ (s.engineFree (s.requestSpan c.tableArgs) = true) ∧ (c.tableArgs.table = 240) ∧ (s.requestBusy ({ c.tableArgs with late := s.progs.joint.isSome } : TableArgs) 0 c.tableArgs.vWord = false) ∧ ((s.rule s.refSpan c.tableArgs.index).ctl.toNat / 2 ^ 30 = 0) :=
  ⟨0, { idx := 0, body := [2, 1, 0, 0, 240, 1, 0, 0, 5, 0, 0, 0, 0, 0, 0, 0, 8, 0, 0, 0, 0, 0, 0, 0] }, [], ((({ State.reset with chip := { State.reset.chip with mode := .test } } : State).setFld 0x700000 5 0 9).setSq 0 { calls := [{ idx := 0, body := [2, 1, 0, 0, 240, 1, 0, 0, 5, 0, 0, 0, 0, 0, 0, 0, 8, 0, 0, 0, 0, 0, 0, 0] }] }), by decide⟩

/-- The premises of TableRequestsActInEveryReplica, part 4, hold somewhere. -/
theorem witness_TableRequestsActInEveryReplica_4 : ∃ (r : Ring) (c : Call) (b : List Byte) (s : State), (s.callFor r 2 1 = some c) ∧ (statesChange s.chip.mode = true ∨ (c.lsn.isSome = true ∧ s.chip.mode = .recovery)) ∧ (c.tableArgs.addr ≠ 0) ∧ (c.tableArgs.addr % 8 = 0) ∧ (s.tableCheck c.tableArgs = 0) ∧ (recordOk c.tableArgs.table (s.geometry s.refSpan c.tableArgs.table) c.tableArgs (entryRecord b) = true) ∧ (s.engineFree (s.requestSpan c.tableArgs) = false) ∧ ((s.engine (s.requestSpan c.tableArgs)).queued.length < 256) :=
  ⟨0, { idx := 0, body := [2, 1, 0, 0, 240, 1, 0, 0, 5, 0, 0, 0, 0, 0, 0, 0, 8, 0, 0, 0, 0, 0, 0, 0] }, [], (((({ State.reset with chip := { State.reset.chip with mode := .test } } : State).setFld 0x700000 5 0 9).setEngine 0 { state := 1 }).setSq 0 { calls := [{ idx := 0, body := [2, 1, 0, 0, 240, 1, 0, 0, 5, 0, 0, 0, 0, 0, 0, 0, 8, 0, 0, 0, 0, 0, 0, 0] }] }), by decide⟩

/-- The premises of TableRequestsActInEveryReplica, part 5, hold somewhere. -/
theorem witness_TableRequestsActInEveryReplica_5 : ∃ (r : Ring) (c : Call) (b : List Byte) (s : State), (s.callFor r 2 1 = some c) ∧ (statesChange s.chip.mode = true ∨ (c.lsn.isSome = true ∧ s.chip.mode = .recovery)) ∧ (c.tableArgs.addr ≠ 0) ∧ (c.tableArgs.addr % 8 = 0) ∧ (s.tableCheck c.tableArgs = 0) ∧ (recordOk c.tableArgs.table (s.geometry s.refSpan c.tableArgs.table) c.tableArgs (entryRecord b) = false) :=
  ⟨0, { idx := 0, body := [2, 1, 0, 0, 240, 1, 0, 0, 5, 0, 0, 0, 0, 0, 0, 0, 8, 0, 0, 0, 0, 0, 0, 0] }, List.replicate 192 1, ((({ State.reset with chip := { State.reset.chip with mode := .test } } : State).setFld 0x700000 5 0 9).setSq 0 { calls := [{ idx := 0, body := [2, 1, 0, 0, 240, 1, 0, 0, 5, 0, 0, 0, 0, 0, 0, 0, 8, 0, 0, 0, 0, 0, 0, 0] }] }), by decide⟩

/-- The premises of TableRequestsActInEveryReplica, part 7, hold somewhere. -/
theorem witness_TableRequestsActInEveryReplica_7 : ∃ (r : Ring) (c : Call) (b : List Byte) (s : State), (s.callFor r 2 2 = some c) ∧ (statesChange s.chip.mode = true ∨ (c.lsn.isSome = true ∧ s.chip.mode = .recovery)) ∧ (c.tableArgs.addr ≠ 0) ∧ (c.tableArgs.addr % 8 = 0) ∧ (s.tableCheck c.tableArgs = 0) ∧ (recordOk c.tableArgs.table (s.geometry s.refSpan c.tableArgs.table) c.tableArgs (entryRecord b) = true) ∧ (s.engineFree (s.requestSpan c.tableArgs) = true) ∧ (c.tableArgs.table = 240) ∧ (c.tableArgs.names (s.rule s.refSpan c.tableArgs.index).ctl = true) ∧ (s.requestBusy ({ c.tableArgs with late := s.progs.joint.isSome } : TableArgs) (s.rule s.refSpan c.tableArgs.index).ctl ((s.rule s.refSpan c.tableArgs.index).ctl &&& ~~~c.tableArgs.vWord) = false) :=
  ⟨0, { idx := 0, body := [2, 2, 0, 0, 240, 1, 0, 0, 5, 0, 0, 0, 0, 0, 0, 0, 8, 0, 0, 0, 0, 0, 0, 0] }, [], (((({ State.reset with chip := { State.reset.chip with mode := .test } } : State).setFld 0x700000 5 0 9).setRule 0 5 { ctl := 0x80000000 }).setSq 0 { calls := [{ idx := 0, body := [2, 2, 0, 0, 240, 1, 0, 0, 5, 0, 0, 0, 0, 0, 0, 0, 8, 0, 0, 0, 0, 0, 0, 0] }] }), by decide⟩

/-- The premises of TableRequestsActInEveryReplica, part 9, hold somewhere. -/
theorem witness_TableRequestsActInEveryReplica_9 : ∃ (r : Ring) (c : Call) (b : List Byte) (s : State), (s.callFor r 2 3 = some c) ∧ (statesChange s.chip.mode = true ∨ (c.lsn.isSome = true ∧ s.chip.mode = .recovery)) ∧ (c.tableArgs.addr ≠ 0) ∧ (c.tableArgs.addr % 8 = 0) ∧ (s.tableCheck c.tableArgs = 0) ∧ (recordOk c.tableArgs.table (s.geometry s.refSpan c.tableArgs.table) c.tableArgs (entryRecord b) = true) ∧ (s.engineFree (s.requestSpan c.tableArgs) = true) ∧ (c.tableArgs.table = 240) ∧ (c.tableArgs.names (s.rule s.refSpan c.tableArgs.index).ctl = true) :=
  ⟨0, { idx := 0, body := [2, 3, 0, 0, 240, 1, 0, 0, 5, 0, 0, 0, 0, 0, 0, 0, 8, 0, 0, 0, 0, 0, 0, 0] }, [], (((({ State.reset with chip := { State.reset.chip with mode := .test } } : State).setFld 0x700000 5 0 9).setRule 0 5 { ctl := 0x80000000 }).setSq 0 { calls := [{ idx := 0, body := [2, 3, 0, 0, 240, 1, 0, 0, 5, 0, 0, 0, 0, 0, 0, 0, 8, 0, 0, 0, 0, 0, 0, 0] }] }), by decide⟩

/-- The premises of TableRequestsActInEveryReplica, part 11, hold somewhere. -/
theorem witness_TableRequestsActInEveryReplica_11 : ∃ (r : Ring) (c : Call) (b : List Byte) (s : State), (s.callFor r 2 4 = some c) ∧ (statesButOff s.chip.mode = true) ∧ (c.tableArgs.addr ≠ 0) ∧ (c.tableArgs.addr % 8 = 0) ∧ (s.tableCheck c.tableArgs = 0) ∧ (recordOk c.tableArgs.table (s.geometry s.refSpan c.tableArgs.table) c.tableArgs (entryRecord b) = true) ∧ (s.engineFree (s.requestSpan c.tableArgs) = true) ∧ (s.readRecord c.tableArgs.table (s.geometry s.refSpan c.tableArgs.table) ({ c.tableArgs with late := s.progs.joint.isSome } : TableArgs) (entryRecord b) = none) :=
  ⟨0, { idx := 0, body := [2, 4, 0, 0, 240, 1, 0, 0, 5, 0, 0, 0, 0, 0, 0, 0, 8, 0, 0, 0, 0, 0, 0, 0] }, [], ((({ State.reset with chip := { State.reset.chip with mode := .test } } : State).setFld 0x700000 5 0 9).setSq 0 { calls := [{ idx := 0, body := [2, 4, 0, 0, 240, 1, 0, 0, 5, 0, 0, 0, 0, 0, 0, 0, 8, 0, 0, 0, 0, 0, 0, 0] }] }), by decide⟩

/-- The premises of TableRequestsActInEveryReplica, part 13, hold somewhere. -/
theorem witness_TableRequestsActInEveryReplica_13 : ∃ (r : Ring) (c : Call) (s : State), (s.callFor r 2 5 = some c) ∧ (statesChange s.chip.mode = true ∨ (c.lsn.isSome = true ∧ s.chip.mode = .recovery)) ∧ (240 ≤ c.tableArgs.table ∨ (s.geometry s.refSpan c.tableArgs.table).en = false ∨ c.tableArgs.index = 0 ∨ 65535 < c.tableArgs.index) :=
  ⟨0, { idx := 0, body := [2, 5, 0, 0, 240, 1, 0, 0, 5, 0, 0, 0, 0, 0, 0, 0, 8, 0, 0, 0, 0, 0, 0, 0] }, ((({ State.reset with chip := { State.reset.chip with mode := .test } } : State).setFld 0x700000 5 0 9).setSq 0 { calls := [{ idx := 0, body := [2, 5, 0, 0, 240, 1, 0, 0, 5, 0, 0, 0, 0, 0, 0, 0, 8, 0, 0, 0, 0, 0, 0, 0] }] }), by decide⟩

/-- The premises of TableRequestsActInEveryReplica, part 14, hold somewhere. -/
theorem witness_TableRequestsActInEveryReplica_14 : ∃ (r : Ring) (c : Call) (b : List Byte) (s : State), (s.callFor r 2 1 = some c) ∧ (statesChange s.chip.mode = true ∨ (c.lsn.isSome = true ∧ s.chip.mode = .recovery)) ∧ (c.tableArgs.addr ≠ 0) ∧ (c.tableArgs.addr % 8 = 0) ∧ (s.tableCheck c.tableArgs = 0) ∧ (recordOk c.tableArgs.table (s.geometry s.refSpan c.tableArgs.table) c.tableArgs (entryRecord b) = true) ∧ (s.engineFree (s.requestSpan c.tableArgs) = true) ∧ (c.tableArgs.table < 240) ∧ ((s.geometry s.refSpan c.tableArgs.table).kind = 4) ∧ ((s.geometry s.refSpan c.tableArgs.table).valid = true) :=
  ⟨0, { idx := 0, body := [2, 1, 0, 0, 0, 1, 0, 0, 5, 0, 0, 0, 0, 0, 0, 0, 8, 0, 0, 0, 0, 0, 0, 0] }, List.replicate 160 0, (((({ State.reset with chip := { State.reset.chip with mode := .test } } : State).setFld 0x700000 5 0 9).setReg (kindReg 0 0) 0xC0000000 |>.setReg (unitsReg 0 0) 0x00040000).setSq 0 { calls := [{ idx := 0, body := [2, 1, 0, 0, 0, 1, 0, 0, 5, 0, 0, 0, 0, 0, 0, 0, 8, 0, 0, 0, 0, 0, 0, 0] }] }), by decide⟩

/-- The premises of TableRequestsActInEveryReplica, part 15, hold somewhere. -/
theorem witness_TableRequestsActInEveryReplica_15 : ∃ (r : Ring) (c : Call) (b : List Byte) (s : State), (s.callFor r 2 3 = some c) ∧ (statesChange s.chip.mode = true ∨ (c.lsn.isSome = true ∧ s.chip.mode = .recovery)) ∧ (c.tableArgs.addr ≠ 0) ∧ (c.tableArgs.addr % 8 = 0) ∧ (s.tableCheck c.tableArgs = 0) ∧ (recordOk c.tableArgs.table (s.geometry s.refSpan c.tableArgs.table) c.tableArgs (entryRecord b) = true) ∧ (s.engineFree (s.requestSpan c.tableArgs) = true) ∧ (c.tableArgs.table < 240) ∧ ((s.geometry s.refSpan c.tableArgs.table).kind = 4) ∧ ((s.geometry s.refSpan c.tableArgs.table).valid = true) :=
  ⟨0, { idx := 0, body := [2, 3, 0, 0, 0, 1, 0, 0, 5, 0, 0, 0, 0, 0, 0, 0, 8, 0, 0, 0, 0, 0, 0, 0] }, List.replicate 160 0, (((({ State.reset with chip := { State.reset.chip with mode := .test } } : State).setFld 0x700000 5 0 9).setReg (kindReg 0 0) 0xC0000000 |>.setReg (unitsReg 0 0) 0x00040000).setSq 0 { calls := [{ idx := 0, body := [2, 3, 0, 0, 0, 1, 0, 0, 5, 0, 0, 0, 0, 0, 0, 0, 8, 0, 0, 0, 0, 0, 0, 0] }] }), by decide⟩

/-- The premises of TableRequestsActInEveryReplica, part 16, hold somewhere. -/
theorem witness_TableRequestsActInEveryReplica_16 : ∃ (r : Ring) (rec : Option (List Byte)) (x : Nat × Instr) (c : Call) (s : State), (x ∈ [(1, Instr.tableInsert r rec), (2, .tableDelete r rec), (3, .tableModify r rec), (4, .tableRead r rec)]) ∧ (s.callFor r 2 x.1 = some c) ∧ (statesButOff s.chip.mode = true) ∧ (x.1 = 4 ∨ statesChange s.chip.mode = true ∨ (c.lsn.isSome = true ∧ s.chip.mode = .recovery)) ∧ (c.tableArgs.addr = 0 ∨ c.tableArgs.addr % 8 ≠ 0) :=
  ⟨0, none, (1, .tableInsert 0 none), { idx := 0, body := [2, 1, 0, 0, 240] }, ((({ State.reset with chip := { State.reset.chip with mode := .test } } : State).setFld 0x700000 5 0 9).setSq 0 { calls := [{ idx := 0, body := [2, 1, 0, 0, 240] }] }), by decide⟩

/-- The premises of TableRequestsActInEveryReplica, part 17, hold somewhere. -/
theorem witness_TableRequestsActInEveryReplica_17 : ∃ (r : Ring) (rec : Option (List Byte)) (x : Nat × Instr) (c : Call) (s : State), (x ∈ [(1, Instr.tableInsert r rec), (2, .tableDelete r rec), (3, .tableModify r rec), (4, .tableRead r rec)]) ∧ (s.callFor r 2 x.1 = some c) ∧ (statesButOff s.chip.mode = true) ∧ (x.1 = 4 ∨ statesChange s.chip.mode = true ∨ (c.lsn.isSome = true ∧ s.chip.mode = .recovery)) ∧ (c.tableArgs.addr ≠ 0) ∧ (c.tableArgs.addr % 8 = 0) ∧ (rec = none) :=
  ⟨0, none, (1, .tableInsert 0 none), { idx := 0, body := [2, 1, 0, 0, 240, 1, 0, 0, 5, 0, 0, 0, 0, 0, 0, 0, 8, 0, 0, 0, 0, 0, 0, 0] }, ((({ State.reset with chip := { State.reset.chip with mode := .test } } : State).setFld 0x700000 5 0 9).setSq 0 { calls := [{ idx := 0, body := [2, 1, 0, 0, 240, 1, 0, 0, 5, 0, 0, 0, 0, 0, 0, 0, 8, 0, 0, 0, 0, 0, 0, 0] }] }), by decide⟩

/-- The premises of TableRequestsActInEveryReplica, part 18, hold somewhere. -/
theorem witness_TableRequestsActInEveryReplica_18 : ∃ (r : Ring) (rec : Option (List Byte)) (x : Nat × Instr) (c : Call) (s : State), (x ∈ [(1, Instr.tableInsert r rec), (2, .tableDelete r rec), (3, .tableModify r rec), (4, .tableRead r rec)]) ∧ (s.callFor r 2 x.1 = some c) ∧ (statesButOff s.chip.mode = true) ∧ (x.1 = 4 ∨ statesChange s.chip.mode = true ∨ (c.lsn.isSome = true ∧ s.chip.mode = .recovery)) ∧ (c.tableArgs.addr ≠ 0) ∧ (c.tableArgs.addr % 8 = 0) ∧ (rec.isSome = true) ∧ (s.tableCheck c.tableArgs ≠ 0 ∨ recordOk c.tableArgs.table (s.geometry s.refSpan c.tableArgs.table) c.tableArgs (entryRecord (rec.getD [])) = false) :=
  ⟨0, some (List.replicate 192 1), (1, .tableInsert 0 (some (List.replicate 192 1))), { idx := 0, body := [2, 1, 0, 0, 240, 1, 0, 0, 5, 0, 0, 0, 0, 0, 0, 0, 8, 0, 0, 0, 0, 0, 0, 0] }, ((({ State.reset with chip := { State.reset.chip with mode := .test } } : State).setFld 0x700000 5 0 9).setSq 0 { calls := [{ idx := 0, body := [2, 1, 0, 0, 240, 1, 0, 0, 5, 0, 0, 0, 0, 0, 0, 0, 8, 0, 0, 0, 0, 0, 0, 0] }] }), by decide +kernel⟩

/-- The premises of TableRequestsActInEveryReplica, part 20, hold somewhere. -/
theorem witness_TableRequestsActInEveryReplica_20 : ∃ (r : Ring) (b : List Byte) (x : Nat × Instr) (c : Call) (s : State), (x ∈ [(1, Instr.tableInsert r (some b)), (2, .tableDelete r (some b)), (3, .tableModify r (some b)), (4, .tableRead r (some b))]) ∧ (s.callFor r 2 x.1 = some c) ∧ (statesButOff s.chip.mode = true) ∧ (x.1 = 4 ∨ statesChange s.chip.mode = true ∨ (c.lsn.isSome = true ∧ s.chip.mode = .recovery)) ∧ (c.tableArgs.addr ≠ 0) ∧ (c.tableArgs.addr % 8 = 0) ∧ (s.tableCheck c.tableArgs = 0) ∧ (recordOk c.tableArgs.table (s.geometry s.refSpan c.tableArgs.table) c.tableArgs (entryRecord b) = true) ∧ (s.engineFree (s.requestSpan c.tableArgs) = false) :=
  ⟨0, [], (1, .tableInsert 0 (some [])), { idx := 0, body := [2, 1, 0, 0, 240, 1, 0, 0, 5, 0, 0, 0, 0, 0, 0, 0, 8, 0, 0, 0, 0, 0, 0, 0] }, (((({ State.reset with chip := { State.reset.chip with mode := .test } } : State).setFld 0x700000 5 0 9).setEngine 0 { state := 1 }).setSq 0 { calls := [{ idx := 0, body := [2, 1, 0, 0, 240, 1, 0, 0, 5, 0, 0, 0, 0, 0, 0, 0, 8, 0, 0, 0, 0, 0, 0, 0] }] }), by decide⟩

/-- The premises of TableRequestsActInEveryReplica, part 21, hold somewhere. -/
theorem witness_TableRequestsActInEveryReplica_21 : ∃ (r : Ring) (rec : Option (List Byte)) (x : Nat × Instr) (s : State), (x ∈ [(1, Instr.tableInsert r rec), (2, .tableDelete r rec), (3, .tableModify r rec), (4, .tableRead r rec)] ++ [(5, .tableSetAge r)]) ∧ (s.callFor r 2 x.1 = none) :=
  ⟨0, none, (1, .tableInsert 0 none), State.reset, by decide⟩

/-- The premises of TableRequestsActInEveryReplica, part 22, hold somewhere. -/
theorem witness_TableRequestsActInEveryReplica_22 : ∃ (r : Ring) (rec : Option (List Byte)) (x : Nat × Instr) (c : Call) (s : State), (x ∈ [(1, Instr.tableInsert r rec), (2, .tableDelete r rec), (3, .tableModify r rec), (4, .tableRead r rec)] ++ [(5, .tableSetAge r)]) ∧ (s.callFor r 2 x.1 = some c) ∧ (s.chip.mode = .off ∨ (x.1 ≠ 4 ∧ statesChange s.chip.mode = false)) ∧ (c.lsn = none ∨ s.chip.mode ≠ .recovery) :=
  ⟨0, none, (1, .tableInsert 0 none), { idx := 0, body := [2, 1, 0, 0, 240, 1, 0, 0, 5, 0, 0, 0, 0, 0, 0, 0, 8, 0, 0, 0, 0, 0, 0, 0] }, ((({ State.reset with chip := { State.reset.chip with mode := .safe } } : State).setFld 0x700000 5 0 9).setSq 0 { calls := [{ idx := 0, body := [2, 1, 0, 0, 240, 1, 0, 0, 5, 0, 0, 0, 0, 0, 0, 0, 8, 0, 0, 0, 0, 0, 0, 0] }] }), by decide⟩

/-- The premises of ServicesAnswerTheirRing, part 1, hold somewhere. -/
theorem witness_ServicesAnswerTheirRing_1 : ∃ (r : Ring) (c : Call) (s : State), (s.callFor r 1 0 = some c) :=
  ⟨0, { idx := 0, body := [1, 0, 0, 0] }, ((({ State.reset with chip := { State.reset.chip with mode := .test } } : State).setFld 0x700000 5 0 9).setSq 0 { calls := [{ idx := 0, body := [1, 0, 0, 0] }] }), by decide⟩

/-- The premises of ServicesAnswerTheirRing, part 2, hold somewhere. -/
theorem witness_ServicesAnswerTheirRing_2 : ∃ (r : Ring) (c : Call) (s : State), (s.callFor r 3 1 = some c) ∧ (statesButOff s.chip.mode = true) :=
  ⟨0, { idx := 0, body := [3, 1, 0, 0] }, ((({ State.reset with chip := { State.reset.chip with mode := .test } } : State).setFld 0x700000 5 0 9).setSq 0 { calls := [{ idx := 0, body := [3, 1, 0, 0] }] }), by decide⟩

/-- The premises of ServicesAnswerTheirRing, part 3, hold somewhere. -/
theorem witness_ServicesAnswerTheirRing_3 : ∃ (r : Ring) (c : Call) (s : State), (s.callFor r 4 1 = some c) ∧ (statesButOff s.chip.mode = true) :=
  ⟨0, { idx := 0, body := [4, 1, 0, 0] }, ((({ State.reset with chip := { State.reset.chip with mode := .test } } : State).setFld 0x700000 5 0 9).setSq 0 { calls := [{ idx := 0, body := [4, 1, 0, 0] }] }), by decide⟩

/-- The premises of ServicesAnswerTheirRing, part 4, hold somewhere. -/
theorem witness_ServicesAnswerTheirRing_4 : ∃ (r : Ring) (c : Call) (s : State), (s.callFor r 4 2 = some c) ∧ (statesButOff s.chip.mode = true) :=
  ⟨0, { idx := 0, body := [4, 2, 0, 0] }, ((({ State.reset with chip := { State.reset.chip with mode := .test } } : State).setFld 0x700000 5 0 9).setSq 0 { calls := [{ idx := 0, body := [4, 2, 0, 0] }] }), by decide⟩

/-- The premises of ServicesAnswerTheirRing, part 5, hold somewhere. -/
theorem witness_ServicesAnswerTheirRing_5 : ∃ (r : Ring) (c : Call) (s : State), (s.callFor r 4 3 = some c) ∧ (statesButOff s.chip.mode = true) :=
  ⟨0, { idx := 0, body := [4, 3, 0, 0] }, ((({ State.reset with chip := { State.reset.chip with mode := .test } } : State).setFld 0x700000 5 0 9).setSq 0 { calls := [{ idx := 0, body := [4, 3, 0, 0] }] }), by decide⟩

/-- The premises of ServicesAnswerTheirRing, part 6, hold somewhere. -/
theorem witness_ServicesAnswerTheirRing_6 : ∃ (r : Ring) (c : Call) (i : Fin 10) (s : State), (s.callFor r 5 1 = some c) ∧ (statesButOff s.chip.mode = true) ∧ (s.pierOn c.link = true) :=
  ⟨0, { idx := 0, body := [5, 1, 0, 0, 0] }, 3, (((({ State.reset with chip := { State.reset.chip with mode := .test } } : State).setFld 0x700000 5 0 9).setReg (pierOff 0) 0x80000000).setSq 0 { calls := [{ idx := 0, body := [5, 1, 0, 0, 0] }] }), by decide⟩

/-- The premises of ServicesAnswerTheirRing, part 7, hold somewhere. -/
theorem witness_ServicesAnswerTheirRing_7 : ∃ (r : Ring) (c : Call) (s : State), (s.callFor r 5 1 = some c) ∧ (statesButOff s.chip.mode = true) ∧ (s.pierOn c.link = true) :=
  ⟨0, { idx := 0, body := [5, 1, 0, 0, 0] }, (((({ State.reset with chip := { State.reset.chip with mode := .test } } : State).setFld 0x700000 5 0 9).setReg (pierOff 0) 0x80000000).setSq 0 { calls := [{ idx := 0, body := [5, 1, 0, 0, 0] }] }), by decide⟩

/-- The premises of ServicesAnswerTheirRing, part 8, hold somewhere. -/
theorem witness_ServicesAnswerTheirRing_8 : ∃ (r : Ring) (c : Call) (s : State), (s.callFor r 5 2 = some c) ∧ (statesButOff s.chip.mode = true) ∧ (s.pierSends c.link = false) :=
  ⟨0, { idx := 0, body := [5, 2, 0, 0] }, ((({ State.reset with chip := { State.reset.chip with mode := .test } } : State).setFld 0x700000 5 0 9).setSq 0 { calls := [{ idx := 0, body := [5, 2, 0, 0] }] }), by decide⟩

/-- The premises of ServicesAnswerTheirRing, part 9, hold somewhere. -/
theorem witness_ServicesAnswerTheirRing_9 : ∃ (r : Ring) (c : Call) (s : State), (s.callFor r 5 2 = some c) ∧ (statesButOff s.chip.mode = true) ∧ (s.pierSends c.link = true) :=
  ⟨0, { idx := 0, body := [5, 2, 0, 0] }, (((({ State.reset with chip := { State.reset.chip with mode := .test } } : State).setFld 0x700000 5 0 9).setSq 0 { calls := [{ idx := 0, body := [5, 2, 0, 0] }] }).setReg 0x2400000 0x80000000).setPier 0 { sends := true }, by decide⟩

/-- The premises of ServicesAnswerTheirRing, part 10, hold somewhere. -/
theorem witness_ServicesAnswerTheirRing_10 : ∃ (r : Ring) (c : Call) (s : State), (s.callFor r 6 1 = some c) ∧ (s.chip.mode = .startUp) ∧ (s.progs.ownerEn = false) :=
  ⟨0, { idx := 0, body := [6, 1, 0, 0] }, ((({ State.reset with chip := { State.reset.chip with mode := .startUp } } : State).setFld 0x700000 5 0 9).setSq 0 { calls := [{ idx := 0, body := [6, 1, 0, 0] }] }), by decide⟩

/-- The premises of ServicesAnswerTheirRing, part 11, hold somewhere. -/
theorem witness_ServicesAnswerTheirRing_11 : ∃ (r : Ring) (c : Call) (s : State), (s.callFor r 6 1 = some c) ∧ (s.chip.mode = .startUp) ∧ (s.progs.ownerEn = true) :=
  ⟨0, { idx := 0, body := [6, 1, 0, 0] }, { ((({ State.reset with chip := { State.reset.chip with mode := .startUp } } : State).setFld 0x700000 5 0 9).setSq 0 { calls := [{ idx := 0, body := [6, 1, 0, 0] }] }) with progs := { State.reset.progs with ownerEn := true } }, by decide⟩

/-- The premises of ServicesAnswerTheirRing, part 12, hold somewhere. -/
theorem witness_ServicesAnswerTheirRing_12 : ∃ (r : Ring) (c : Call) (s : State), (s.callFor r 6 1 = some c) ∧ (s.chip.mode ≠ .startUp) ∧ (c.lsn = none) :=
  ⟨0, { idx := 0, body := [6, 1, 0, 0] }, ((({ State.reset with chip := { State.reset.chip with mode := .test } } : State).setFld 0x700000 5 0 9).setSq 0 { calls := [{ idx := 0, body := [6, 1, 0, 0] }] }), by decide⟩

/-- The premises of ServicesAnswerTheirRing, part 13, hold somewhere. -/
theorem witness_ServicesAnswerTheirRing_13 : ∃ (r : Ring) (c : Call) (s : State), (s.callFor r 7 1 = some c) ∧ (statesChange s.chip.mode = true) :=
  ⟨0, { idx := 0, body := [7, 1, 0, 0] }, ((({ State.reset with chip := { State.reset.chip with mode := .test } } : State).setFld 0x700000 5 0 9).setSq 0 { calls := [{ idx := 0, body := [7, 1, 0, 0] }] }), by decide⟩

/-- The premises of ServicesAnswerTheirRing, part 14, hold somewhere. -/
theorem witness_ServicesAnswerTheirRing_14 : ∃ (r : Ring) (c : Call) (s : State), (s.callFor r 7 2 = some c) ∧ (statesChange s.chip.mode = true) ∧ (c.activeBank = false) ∧ (c.offset % 65536 = 0) ∧ (c.length % 65536 = 0) ∧ (c.offset + c.length ≤ bankSize) :=
  ⟨0, { idx := 0, body := [7, 2, 0, 0, 0, 0, 0, 0, 0, 0, 0, 0, 0, 0, 1, 0, 0, 0, 0, 0, 0, 0, 0, 0] }, ((({ State.reset with chip := { State.reset.chip with mode := .test } } : State).setFld 0x700000 5 0 9).setSq 0 { calls := [{ idx := 0, body := [7, 2, 0, 0, 0, 0, 0, 0, 0, 0, 0, 0, 0, 0, 1, 0, 0, 0, 0, 0, 0, 0, 0, 0] }] }), by decide⟩

/-- The premises of ServicesAnswerTheirRing, part 15, hold somewhere. -/
theorem witness_ServicesAnswerTheirRing_15 : ∃ (r : Ring) (c : Call) (bs : List Byte) (s : State), (s.callFor r 7 3 = some c) ∧ (statesChange s.chip.mode = true) ∧ (c.activeBank = false) ∧ (0 < c.length) ∧ (c.length ≤ 65536) ∧ (c.offset + c.length ≤ bankSize) ∧ (c.address ≠ 0) :=
  ⟨0, { idx := 0, body := [7, 3, 0, 0, 0, 0, 0, 0, 0, 0, 0, 0, 4, 0, 0, 0, 8, 0, 0, 0, 0, 0, 0, 0] }, [1, 2], ((({ State.reset with chip := { State.reset.chip with mode := .test } } : State).setFld 0x700000 5 0 9).setSq 0 { calls := [{ idx := 0, body := [7, 3, 0, 0, 0, 0, 0, 0, 0, 0, 0, 0, 4, 0, 0, 0, 8, 0, 0, 0, 0, 0, 0, 0] }] }), by decide⟩

/-- The premises of ServicesAnswerTheirRing, part 16, hold somewhere. -/
theorem witness_ServicesAnswerTheirRing_16 : ∃ (r : Ring) (c : Call) (s : State), (s.callFor r 7 3 = some c) ∧ (statesChange s.chip.mode = true) ∧ (c.activeBank = false) ∧ (0 < c.length) ∧ (c.length ≤ 65536) ∧ (c.offset + c.length ≤ bankSize) ∧ (c.address ≠ 0) ∧ (c.lsn = none) :=
  ⟨0, { idx := 0, body := [7, 3, 0, 0, 0, 0, 0, 0, 0, 0, 0, 0, 4, 0, 0, 0, 8, 0, 0, 0, 0, 0, 0, 0] }, ((({ State.reset with chip := { State.reset.chip with mode := .test } } : State).setFld 0x700000 5 0 9).setSq 0 { calls := [{ idx := 0, body := [7, 3, 0, 0, 0, 0, 0, 0, 0, 0, 0, 0, 4, 0, 0, 0, 8, 0, 0, 0, 0, 0, 0, 0] }] }), by decide⟩

/-- The premises of ServicesAnswerTheirRing, part 17, hold somewhere. -/
theorem witness_ServicesAnswerTheirRing_17 : ∃ (r : Ring) (c : Call) (s : State), (s.callFor r 7 4 = some c) ∧ (statesChange s.chip.mode = true) ∧ (c.offset + c.length ≤ bankSize) ∧ (c.address ≠ 0) :=
  ⟨0, { idx := 0, body := [7, 4, 0, 0, 0, 0, 0, 0, 0, 0, 0, 0, 4, 0, 0, 0, 8, 0, 0, 0, 0, 0, 0, 0] }, ((({ State.reset with chip := { State.reset.chip with mode := .test } } : State).setFld 0x700000 5 0 9).setSq 0 { calls := [{ idx := 0, body := [7, 4, 0, 0, 0, 0, 0, 0, 0, 0, 0, 0, 4, 0, 0, 0, 8, 0, 0, 0, 0, 0, 0, 0] }] }), by decide⟩

/-- The premises of ServicesAnswerTheirRing, part 18, hold somewhere. -/
theorem witness_ServicesAnswerTheirRing_18 : ∃ (r : Ring) (c : Call) (s : State), (s.callFor r 7 5 = some c) ∧ (statesChange s.chip.mode = true) :=
  ⟨0, { idx := 0, body := [7, 5, 0, 0] }, ((({ State.reset with chip := { State.reset.chip with mode := .test } } : State).setFld 0x700000 5 0 9).setSq 0 { calls := [{ idx := 0, body := [7, 5, 0, 0] }] }), by decide⟩

/-- The premises of ServicesAnswerTheirRing, part 21, hold somewhere. -/
theorem witness_ServicesAnswerTheirRing_21 : ∃ (r : Ring) (c : Call) (s : State), (s.callFor r 8 1 = some c) ∧ (statesButOff s.chip.mode = true) :=
  ⟨0, { idx := 0, body := [8, 1, 0, 0] }, ((({ State.reset with chip := { State.reset.chip with mode := .test } } : State).setFld 0x700000 5 0 9).setSq 0 { calls := [{ idx := 0, body := [8, 1, 0, 0] }] }), by decide⟩

/-- The premises of ServicesAnswerTheirRing, part 22, hold somewhere. -/
theorem witness_ServicesAnswerTheirRing_22 : ∃ (r : Ring) (c : Call) (s : State), (s.callFor r 8 2 = some c) ∧ (statesButOff s.chip.mode = true) ∧ (c.arg 16 8 ≠ 0) :=
  ⟨0, { idx := 0, body := [8, 2, 0, 0, 0, 0, 0, 0, 8] }, ((({ State.reset with chip := { State.reset.chip with mode := .test } } : State).setFld 0x700000 5 0 9).setSq 0 { calls := [{ idx := 0, body := [8, 2, 0, 0, 0, 0, 0, 0, 8] }] }), by decide⟩

/-- The premises of ServicesAnswerTheirRing, part 23, hold somewhere. -/
theorem witness_ServicesAnswerTheirRing_23 : ∃ (r : Ring) (c : Call) (ok : Bool) (s : State), (s.callFor r 7 2 = some c) ∧ (statesChange s.chip.mode = true) ∧ (c.activeBank = true ∨ c.offset % 65536 ≠ 0 ∨ c.length % 65536 ≠ 0 ∨ bankSize < c.offset + c.length ∨ ok = false) :=
  ⟨0, { idx := 0, body := [7, 2, 0, 0, 0, 0, 0, 0, 1, 0, 0, 0, 0, 0, 0, 0, 0, 0, 0, 0, 0, 0, 0, 0] }, true, ((({ State.reset with chip := { State.reset.chip with mode := .test } } : State).setFld 0x700000 5 0 9).setSq 0 { calls := [{ idx := 0, body := [7, 2, 0, 0, 0, 0, 0, 0, 1, 0, 0, 0, 0, 0, 0, 0, 0, 0, 0, 0, 0, 0, 0, 0] }] }), by decide⟩

/-- The premises of ServicesAnswerTheirRing, part 24, hold somewhere. -/
theorem witness_ServicesAnswerTheirRing_24 : ∃ (r : Ring) (c : Call) (data : Option (List Byte)) (ok : Bool) (s : State), (s.callFor r 7 3 = some c) ∧ (statesChange s.chip.mode = true) ∧ (c.activeBank = true ∨ c.length = 0 ∨ 65536 < c.length ∨ bankSize < c.offset + c.length ∨ c.address = 0 ∨ (data.isSome = true ∧ ok = false)) :=
  ⟨0, { idx := 0, body := [7, 3, 0, 0, 0, 0, 0, 0, 0, 0, 0, 0, 0, 0, 0, 0, 0, 0, 0, 0, 0, 0, 0, 0] }, none, true, ((({ State.reset with chip := { State.reset.chip with mode := .test } } : State).setFld 0x700000 5 0 9).setSq 0 { calls := [{ idx := 0, body := [7, 3, 0, 0, 0, 0, 0, 0, 0, 0, 0, 0, 0, 0, 0, 0, 0, 0, 0, 0, 0, 0, 0, 0] }] }), by decide⟩

/-- The premises of ServicesAnswerTheirRing, part 25, hold somewhere. -/
theorem witness_ServicesAnswerTheirRing_25 : ∃ (r : Ring) (c : Call) (s : State), (s.callFor r 7 4 = some c) ∧ (statesChange s.chip.mode = true) ∧ (bankSize < c.offset + c.length ∨ c.address = 0) :=
  ⟨0, { idx := 0, body := [7, 4, 0, 0, 0, 0, 0, 0, 0, 0, 0, 0, 4, 0, 0, 0, 0, 0, 0, 0, 0, 0, 0, 0] }, ((({ State.reset with chip := { State.reset.chip with mode := .test } } : State).setFld 0x700000 5 0 9).setSq 0 { calls := [{ idx := 0, body := [7, 4, 0, 0, 0, 0, 0, 0, 0, 0, 0, 0, 4, 0, 0, 0, 0, 0, 0, 0, 0, 0, 0, 0] }] }), by decide⟩

/-- The premises of ServicesAnswerTheirRing, part 26, hold somewhere. -/
theorem witness_ServicesAnswerTheirRing_26 : ∃ (r : Ring) (c : Call) (data : Option (List Byte)) (ok : Bool) (s : State), (s.callFor r 7 6 = some c) ∧ (statesChange s.chip.mode = true) ∧ (slotSize < c.length ∨ c.address = 0 ∨ (data.isSome = true ∧ (settingsSound (data.getD []) = false ∨ settingsSchemaOf (data.getD []) ≠ s.runningSchema ∨ ok = false))) :=
  ⟨0, { idx := 0, body := [7, 6, 0, 0, 0, 0, 0, 0, 0, 0, 0, 0, 0, 0, 0, 0, 0, 0, 0, 0, 0, 0, 0, 0] }, none, true, ((({ State.reset with chip := { State.reset.chip with mode := .test } } : State).setFld 0x700000 5 0 9).setSq 0 { calls := [{ idx := 0, body := [7, 6, 0, 0, 0, 0, 0, 0, 0, 0, 0, 0, 0, 0, 0, 0, 0, 0, 0, 0, 0, 0, 0, 0] }] }), by decide⟩

/-- The premises of ServicesAnswerTheirRing, part 27, hold somewhere. -/
theorem witness_ServicesAnswerTheirRing_27 : ∃ (r : Ring) (c : Call) (ok : Bool) (s : State), (s.callFor r 7 6 = some c) ∧ (statesChange s.chip.mode = true) ∧ (c.length ≤ slotSize) ∧ (c.address ≠ 0) :=
  ⟨0, { idx := 0, body := [7, 6, 0, 0, 0, 0, 0, 0, 0, 0, 0, 0, 4, 0, 0, 0, 8, 0, 0, 0, 0, 0, 0, 0] }, true, ((({ State.reset with chip := { State.reset.chip with mode := .test } } : State).setFld 0x700000 5 0 9).setSq 0 { calls := [{ idx := 0, body := [7, 6, 0, 0, 0, 0, 0, 0, 0, 0, 0, 0, 4, 0, 0, 0, 8, 0, 0, 0, 0, 0, 0, 0] }] }), by decide⟩

/-- The premises of ServicesAnswerTheirRing, part 28, hold somewhere. -/
theorem witness_ServicesAnswerTheirRing_28 : ∃ (r : Ring) (c : Call) (s : State), (s.callFor r 7 7 = some c) ∧ (statesChange s.chip.mode = true) ∧ (c.address = 0 ∨ settingsSound (s.settingsAt s.bcb.slot) = false) :=
  ⟨0, { idx := 0, body := [7, 7, 0, 0] }, ((({ State.reset with chip := { State.reset.chip with mode := .test } } : State).setFld 0x700000 5 0 9).setSq 0 { calls := [{ idx := 0, body := [7, 7, 0, 0] }] }), by decide⟩

/-- The premises of ServicesAnswerTheirRing, part 29, hold somewhere. -/
theorem witness_ServicesAnswerTheirRing_29 : ∃ (r : Ring) (c : Call) (s : State), (s.callFor r 8 2 = some c) ∧ (statesButOff s.chip.mode = true) ∧ (c.arg 16 8 = 0) :=
  ⟨0, { idx := 0, body := [8, 2, 0, 0] }, ((({ State.reset with chip := { State.reset.chip with mode := .test } } : State).setFld 0x700000 5 0 9).setSq 0 { calls := [{ idx := 0, body := [8, 2, 0, 0] }] }), by decide⟩

/-- The premises of ServicesAnswerTheirRing, part 30, hold somewhere. -/
theorem witness_ServicesAnswerTheirRing_30 : ∃ (r : Ring) (data : Option (List Byte)) (ok : Bool) (found : Option (Fin 10)) (x : Nat × Nat × Instr) (s : State), (x ∈ [(1, 0, Instr.infoIdentify r)] ++ [(3, 1, Instr.auditRun r), (4, 1, .ptpInstance r), (4, 2, .ptpPort r), (4, 3, .ptpStatus r), (5, 1, .pierAlign r found), (5, 2, .pierSend r), (8, 1, .powerStatus r), (8, 2, .powerConcordReport r)] ++ [(6, 1, .fuseOwnerKey r)] ++ [(7, 1, Instr.updateStatus r), (7, 2, .updateErase r ok), (7, 3, .updateWrite r data ok), (7, 4, .updateRead r), (7, 5, .updateActivate r), (7, 6, .updateSettingsWrite r data ok), (7, 7, .updateSettingsRead r)]) ∧ (s.callFor r x.1 x.2.1 = none) :=
  ⟨0, none, true, none, (1, 0, .infoIdentify 0), State.reset, by decide⟩

/-- The premises of ServicesAnswerTheirRing, part 31, hold somewhere. -/
theorem witness_ServicesAnswerTheirRing_31 : ∃ (r : Ring) (data : Option (List Byte)) (ok : Bool) (found : Option (Fin 10)) (x : Nat × Nat × Instr) (c : Call) (s : State), (s.callFor r x.1 x.2.1 = some c) ∧ (c.lsn = none ∨ s.chip.mode ≠ .recovery) ∧ ((x ∈ [(3, 1, Instr.auditRun r), (4, 1, .ptpInstance r), (4, 2, .ptpPort r), (4, 3, .ptpStatus r), (5, 1, .pierAlign r found), (5, 2, .pierSend r), (8, 1, .powerStatus r), (8, 2, .powerConcordReport r)] ∧ s.chip.mode = .off) ∨ (x ∈ [(7, 1, Instr.updateStatus r), (7, 2, .updateErase r ok), (7, 3, .updateWrite r data ok), (7, 4, .updateRead r), (7, 5, .updateActivate r), (7, 6, .updateSettingsWrite r data ok), (7, 7, .updateSettingsRead r)] ∧ statesChange s.chip.mode = false)) :=
  ⟨0, none, true, none, (7, 1, .updateStatus 0), { idx := 0, body := [7, 1, 0, 0] }, ((({ State.reset with chip := { State.reset.chip with mode := .safe } } : State).setFld 0x700000 5 0 9).setSq 0 { calls := [{ idx := 0, body := [7, 1, 0, 0] }] }), by decide⟩

/-- The premises of FaultsLatchAndReact, part 1, hold somewhere. -/
theorem witness_FaultsLatchAndReact_1 : ∃ (src : SourceId) (cls : FaultClass) (detail : DWord) (s : State), (s.occurrenceClass src.toNat cls = .n) :=
  ⟨0xF801, .n, 7, State.reset, by decide⟩

/-- The premises of FaultsLatchAndReact, part 2, hold somewhere. -/
theorem witness_FaultsLatchAndReact_2 : ∃ (src : SourceId) (cls : FaultClass) (detail : DWord) (s : State), (s.occurrenceClass src.toNat cls = .n) ∧ ((s.source src.toNat).live = false) :=
  ⟨0xF801, .n, 7, State.reset, by decide⟩

/-- The premises of FaultsLatchAndReact, part 3, hold somewhere. -/
theorem witness_FaultsLatchAndReact_3 : ∃ (src : SourceId) (cls : FaultClass) (detail : DWord) (s : State), ((s.source src.toNat).live = true) :=
  ⟨0xF980, .s, 7, State.reset.setSource 0xF980 { live := true }, by decide⟩

/-- The premises of FaultsLatchAndReact, part 4, hold somewhere. -/
theorem witness_FaultsLatchAndReact_4 : ∃ (src : SourceId) (cls : FaultClass) (detail : DWord) (s : State), (s.occurrenceClass src.toNat cls = .s) ∧ (s.safeNow = false) ∧ (pipeOfSource src.toNat = none) ∧ (s.fc.injNext ≠ some src.toNat ∨ s.fc.injQuiet = false) ∧ (s.chip.lockColl.phase = .paired) :=
  ⟨0xF980, .s, 7, State.reset, by decide⟩

/-- The premises of FaultsLatchAndReact, part 5, hold somewhere. -/
theorem witness_FaultsLatchAndReact_5 : ∃ (src : SourceId) (cls : FaultClass) (detail : DWord) (s : State), (s.occurrenceClass src.toNat cls = .s) ∧ (haltsEngine src.toNat = false) ∧ (s.safeNow = true ∨ (s.fc.injNext = some src.toNat ∧ s.fc.injQuiet = true)) ∧ (s.chip.lockColl.phase = .paired) :=
  ⟨0xF980, .s, 7, { State.reset with fc := { State.reset.fc with injNext := some 0xF980, injQuiet := true } }, by decide⟩

/-- The premises of FaultsLatchAndReact, part 6, hold somewhere. -/
theorem witness_FaultsLatchAndReact_6 : ∃ (src : SourceId) (cls : FaultClass) (detail : DWord) (s : State), (s.occurrenceClass src.toNat cls = .d) ∧ (s.chip.mode ≠ .safe) ∧ (s.chip.mode ≠ .off) ∧ (s.fc.injNext ≠ some src.toNat ∨ s.fc.injQuiet = false) ∧ (s.chip.lockColl.phase = .paired) :=
  ⟨0xFD40, .d, 7, State.reset, by decide⟩

/-- The premises of FaultsLatchAndReact, part 7, hold somewhere. -/
theorem witness_FaultsLatchAndReact_7 : ∃ (src : SourceId) (cls : FaultClass) (detail : DWord) (s : State), (s.occurrenceClass src.toNat cls = .d) ∧ (s.chip.mode = .off) :=
  ⟨0xFD40, .d, 7, { State.reset with chip := { State.reset.chip with mode := .off } }, by decide⟩

/-- The premises of FaultsLatchAndReact, part 11, hold somewhere. -/
theorem witness_FaultsLatchAndReact_11 : ∃ (q : Fin 16384) (release : Bool) (s : State), (s.chip.mode ≠ .safe) ∧ (s.chip.mode ≠ .off) ∧ (s.fc.injNext ≠ some (srcChip 3 5) ∨ s.fc.injQuiet = false) ∧ (s.chip.lockColl.phase = .paired) :=
  ⟨5, true, State.reset, by decide⟩

/-- The premises of FaultsLatchAndReact, part 13, hold somewhere. -/
theorem witness_FaultsLatchAndReact_13 : ∃ (src : SourceId) (s : State), (countedSource src.toNat = true ∧ s.overThreshold src.toNat = true) ∧ (d2dOf src.toNat = none) ∧ (bankGroupOf src.toNat = none) ∧ (pipeOfSource src.toNat = none) :=
  ⟨0xFAC0, (State.reset.setCorrections 0xFAC0 (List.replicate 200 0)), by decide +kernel⟩

/-- The premises of FaultsLatchAndReact, part 14, hold somewhere. -/
theorem witness_FaultsLatchAndReact_14 : ∃ (src : SourceId) (s : State), (countedSource src.toNat = false ∨ s.overThreshold src.toNat = false) :=
  ⟨0xF9C5, State.reset, by decide⟩

/-- The premises of FaultsLatchAndReact, part 15, hold somewhere. -/
theorem witness_FaultsLatchAndReact_15 : ∃ (src : SourceId) (g : Nat) (s : State), (countedSource src.toNat = true ∧ s.overThreshold src.toNat = true) ∧ (d2dOf src.toNat = none) ∧ (bankGroupOf src.toNat = some g) ∧ (g ∉ s.fc.retired) :=
  ⟨0xF9C5, 5, (State.reset.setCorrections 0xF9C5 (List.replicate 200 0)), by decide +kernel⟩

/-- The premises of FaultsLatchAndReact, part 16, hold somewhere. -/
theorem witness_FaultsLatchAndReact_16 : ∃ (src : SourceId) (l : Nat) (s : State), (countedSource src.toNat = true ∧ s.overThreshold src.toNat = true) ∧ (d2dOf src.toNat = some l) :=
  ⟨0xF943, 3, (State.reset.setCorrections 0xF943 (List.replicate 200 0)), by decide +kernel⟩

/-- The premises of FaultsLatchAndReact, part 17, hold somewhere. -/
theorem witness_FaultsLatchAndReact_17 : ∃ (src : SourceId) (sp k : Nat) (ps : Pass) (s : State), (countedSource src.toNat = true ∧ s.overThreshold src.toNat = true) ∧ (pipeOfSource src.toNat = some (sp, ps, k)) ∧ (k ∉ (s.passOf sp ps).faulty) ∧ (s.safeNow = false) ∧ (s.fc.injNext ≠ some src.toNat ∨ s.fc.injQuiet = false) ∧ (s.chip.lockColl.phase = .paired) :=
  ⟨0x2043, 2, 0, .ingress, (State.reset.setCorrections 0x2043 (List.replicate 200 0)), by decide +kernel⟩

/-- The premises of FaultsLatchAndReact, part 18, hold somewhere. -/
theorem witness_FaultsLatchAndReact_18 : ∃ (i : Fin 17) (b : Fin 64) (h : Bool) (v : Word) (base : Nat) (s : State), (blockBase i b = some base) :=
  ⟨16, 4, true, 0xFFFFFFFF, 0xF900, State.reset, by decide⟩

/-- The premises of FaultsLatchAndReact, part 19, hold somewhere. -/
theorem witness_FaultsLatchAndReact_19 : ∃ (i : Fin 17) (b : Fin 64) (h : Bool) (v : Word) (s : State), (blockBase i b = none) :=
  ⟨16, 63, true, 1, State.reset, by decide⟩

/-- The premises of FaultsLatchAndReact, part 20, hold somewhere. -/
theorem witness_FaultsLatchAndReact_20 : ∃ (s : State), (s.fc.errSTimer = false) :=
  ⟨State.reset, by decide⟩

/-- The premises of FaultsLatchAndReact, part 22, hold somewhere. -/
theorem witness_FaultsLatchAndReact_22 : ∃ (s : State), (s.fc.errSTimer = true) :=
  ⟨State.reset.raiseErrS, by decide⟩

/-- The premises of FaultsLatchAndReact, part 23, hold somewhere. -/
theorem witness_FaultsLatchAndReact_23 : ∃ (v : Word) (s : State), (getBits v 0 0 = 1) :=
  ⟨1, State.reset.raiseErrS, by decide⟩

/-- The premises of FaultsLatchAndReact, part 24, hold somewhere. -/
theorem witness_FaultsLatchAndReact_24 : ∃ (v : Word) (s : State), (getBits v 0 0 = 0) :=
  ⟨2, State.reset, by decide⟩

/-- The premises of FaultsLatchAndReact, part 25, hold somewhere. -/
theorem witness_FaultsLatchAndReact_25 : ∃ (p n es : Bool) (s : State), (¬((p ≠ s.errDP ∧ s.fc.disagreeP = 1) ∨ (n ≠ s.errDN ∧ s.fc.disagreeN = 1) ∨ (es ≠ s.errSActive ∧ s.fc.disagreeS = 1))) :=
  ⟨false, true, false, State.reset, by decide⟩

/-- The premises of FaultsLatchAndReact, part 26, hold somewhere. -/
theorem witness_FaultsLatchAndReact_26 : ∃ (p n es : Bool) (s : State), ((p ≠ s.errDP ∧ s.fc.disagreeP = 1) ∨ (n ≠ s.errDN ∧ s.fc.disagreeN = 1) ∨ (es ≠ s.errSActive ∧ s.fc.disagreeS = 1)) :=
  ⟨true, true, true, { State.reset with fc := { State.reset.fc with disagreeP := 1, disagreeN := 1, disagreeS := 1 } }, by decide⟩

/-- The premises of FaultsLatchAndReact, part 27, hold somewhere. -/
theorem witness_FaultsLatchAndReact_27 : ∃ (v : Word) (s : State), (s.rwlOpen = true) :=
  ⟨0x80000000, State.reset, by decide⟩

/-- The premises of FaultsLatchAndReact, part 28, hold somewhere. -/
theorem witness_FaultsLatchAndReact_28 : ∃ (v : Word) (s : State), (s.rwlOpen = false) ∧ (s.bit 0x100018 31 ≠ decide (getBits v 31 31 = 1)) :=
  ⟨0x80000000, { State.reset with chip := { State.reset.chip with mode := .service } }, by decide⟩

/-- The premises of FaultsLatchAndReact, part 29, hold somewhere. -/
theorem witness_FaultsLatchAndReact_29 : ∃ (v : Word) (s : State), (s.rwlOpen = false) ∧ (s.bit 0x100018 31 = decide (getBits v 31 31 = 1)) :=
  ⟨0, { State.reset with chip := { State.reset.chip with mode := .service } }, by decide⟩

/-- The premises of FaultsLatchAndReact, part 30, hold somewhere. -/
theorem witness_FaultsLatchAndReact_30 : ∃ (s : State), (s.chip.mode ≠ .safe) ∧ (s.chip.mode ≠ .off) ∧ (s.fc.injNext ≠ some (srcChip 4 4) ∨ s.fc.injQuiet = false) :=
  ⟨State.reset, by decide⟩

/-- The premises of FaultsLatchAndReact, part 31, hold somewhere. -/
theorem witness_FaultsLatchAndReact_31 : ∃ (s : State), (s.chip.mode = .safe ∨ s.chip.mode = .off) :=
  ⟨{ State.reset with chip := { State.reset.chip with mode := .off } }, by decide⟩

/-- The premises of FaultsLatchAndReact, part 32, hold somewhere. -/
theorem witness_FaultsLatchAndReact_32 : ∃ (s : State), (s.chip.mode = .safe) ∧ (s.fc.safeDone = false) :=
  ⟨{ State.reset with chip := { State.reset.chip with mode := .safe } }, by decide⟩

/-- The premises of FaultsLatchAndReact, part 33, hold somewhere. -/
theorem witness_FaultsLatchAndReact_33 : ∃ (s : State), (s.chip.mode ≠ .safe ∨ s.fc.safeDone = true) :=
  ⟨State.reset, by decide⟩

/-- The premises of FaultsLatchAndReact, part 34, hold somewhere. -/
theorem witness_FaultsLatchAndReact_34 : ∃ (kind : Fin 6) (unit : BitVec 16) (d : Bool) (s : State), (s.dataView kind unit.toNat = some d) :=
  ⟨4, 2, false, State.reset, by decide⟩

/-- The premises of FaultsLatchAndReact, part 35, hold somewhere. -/
theorem witness_FaultsLatchAndReact_35 : ∃ (kind : Fin 6) (unit : BitVec 16) (s : State), (s.dataView kind unit.toNat = none) :=
  ⟨0, 2, State.reset, by decide⟩

/-- The premises of InjectionGuardsAndCalibration, part 1, hold somewhere. -/
theorem witness_InjectionGuardsAndCalibration_1 : ∃ (v : Word) (s : State), (s.chip.mode = .test ∨ s.chip.mode = .service) ∧ (s.fc.inj = .idle ∨ s.fc.inj = .done) ∧ (getBits v 15 0 = 0x6A17) :=
  ⟨0x6A17, ((({ State.reset with chip := { State.reset.chip with mode := .test } } : State).setReg 0x100040 (BitVec.ofNat 32 (63872 * 2 ^ 16 + 0 * 2 ^ 12))).setInj .idle), by decide⟩

/-- The premises of InjectionGuardsAndCalibration, part 2, hold somewhere. -/
theorem witness_InjectionGuardsAndCalibration_2 : ∃ (v : Word) (s : State), (s.chip.mode = .test ∨ s.chip.mode = .service) ∧ (s.fc.inj = .idle ∨ s.fc.inj = .done) ∧ (getBits v 15 0 ≠ 0x6A17) :=
  ⟨1, ((({ State.reset with chip := { State.reset.chip with mode := .test } } : State).setReg 0x100040 (BitVec.ofNat 32 (63872 * 2 ^ 16 + 0 * 2 ^ 12))).setInj .idle), by decide⟩

/-- The premises of InjectionGuardsAndCalibration, part 3, hold somewhere. -/
theorem witness_InjectionGuardsAndCalibration_3 : ∃ (v : Word) (s : State), (s.chip.mode = .test ∨ s.chip.mode = .service) ∧ (s.fc.inj = .keyed) ∧ (getBits v 15 0 = 0x95E8) ∧ (kindApplies s.injKind s.injSource = true) :=
  ⟨0x95E8, ((({ State.reset with chip := { State.reset.chip with mode := .test } } : State).setReg 0x100040 (BitVec.ofNat 32 (63553 * 2 ^ 16 + 0 * 2 ^ 12))).setInj .keyed), by decide⟩

/-- The premises of InjectionGuardsAndCalibration, part 4, hold somewhere. -/
theorem witness_InjectionGuardsAndCalibration_4 : ∃ (v : Word) (s : State), (s.chip.mode = .test ∨ s.chip.mode = .service) ∧ (s.fc.inj = .keyed) ∧ (getBits v 15 0 = 0x95E8) ∧ (kindApplies s.injKind s.injSource = false) :=
  ⟨0x95E8, ((({ State.reset with chip := { State.reset.chip with mode := .test } } : State).setReg 0x100040 (BitVec.ofNat 32 (63553 * 2 ^ 16 + 3 * 2 ^ 12))).setInj .keyed), by decide⟩

/-- The premises of InjectionGuardsAndCalibration, part 5, hold somewhere. -/
theorem witness_InjectionGuardsAndCalibration_5 : ∃ (v : Word) (s : State), (s.chip.mode = .test ∨ s.chip.mode = .service) ∧ ((s.fc.inj = .keyed ∧ getBits v 15 0 ≠ 0x95E8) ∨ s.fc.inj = .armed) :=
  ⟨5, ((({ State.reset with chip := { State.reset.chip with mode := .test } } : State).setReg 0x100040 (BitVec.ofNat 32 (63872 * 2 ^ 16 + 0 * 2 ^ 12))).setInj .armed), by decide⟩

/-- The premises of InjectionGuardsAndCalibration, part 6, hold somewhere. -/
theorem witness_InjectionGuardsAndCalibration_6 : ∃ (v : Word) (s : State), (s.chip.mode ≠ .test) ∧ (s.chip.mode ≠ .service) :=
  ⟨0x6A17, State.reset, by decide⟩

/-- The premises of InjectionGuardsAndCalibration, part 7, hold somewhere. -/
theorem witness_InjectionGuardsAndCalibration_7 : ∃ (a : Bool) (v : Word) (s : State), (s.fc.inj = .armed) :=
  ⟨true, 5, ((({ State.reset with chip := { State.reset.chip with mode := .test } } : State).setReg 0x100040 (BitVec.ofNat 32 (63872 * 2 ^ 16 + 0 * 2 ^ 12))).setInj .armed), by decide⟩

/-- The premises of InjectionGuardsAndCalibration, part 8, hold somewhere. -/
theorem witness_InjectionGuardsAndCalibration_8 : ∃ (a : Bool) (v : Word) (s : State), (s.fc.inj = .keyed) :=
  ⟨true, 5, ((({ State.reset with chip := { State.reset.chip with mode := .test } } : State).setReg 0x100040 (BitVec.ofNat 32 (63872 * 2 ^ 16 + 0 * 2 ^ 12))).setInj .keyed), by decide⟩

/-- The premises of InjectionGuardsAndCalibration, part 9, hold somewhere. -/
theorem witness_InjectionGuardsAndCalibration_9 : ∃ (a : Bool) (v : Word) (s : State), (s.fc.inj = .idle ∨ s.fc.inj = .done) :=
  ⟨true, 5, ((({ State.reset with chip := { State.reset.chip with mode := .test } } : State).setReg 0x100040 (BitVec.ofNat 32 (63872 * 2 ^ 16 + 0 * 2 ^ 12))).setInj .idle), by decide⟩

/-- The premises of InjectionGuardsAndCalibration, part 10, hold somewhere. -/
theorem witness_InjectionGuardsAndCalibration_10 : ∃ (s : State), (s.fc.inj = .keyed) :=
  ⟨((({ State.reset with chip := { State.reset.chip with mode := .test } } : State).setReg 0x100040 (BitVec.ofNat 32 (63872 * 2 ^ 16 + 0 * 2 ^ 12))).setInj .keyed), by decide⟩

/-- The premises of InjectionGuardsAndCalibration, part 11, hold somewhere. -/
theorem witness_InjectionGuardsAndCalibration_11 : ∃ (s : State), (s.fc.inj = .armed) ∧ (s.fc.injHeld = none) ∧ (s.injects s.injSource = none) ∧ (s.injKind ≠ 3) ∧ (s.injKind ≠ 4) ∧ (waitsForCheck s.injSource = true) :=
  ⟨((({ State.reset with chip := { State.reset.chip with mode := .test } } : State).setReg 0x100040 (BitVec.ofNat 32 (8256 * 2 ^ 16 + 2 * 2 ^ 12))).setInj .armed), by decide⟩

/-- The premises of InjectionGuardsAndCalibration, part 12, hold somewhere. -/
theorem witness_InjectionGuardsAndCalibration_12 : ∃ (s : State), (s.fc.inj = .armed) ∧ (s.fc.injHeld = none) ∧ (s.injects s.injSource = none) ∧ (s.injKind = 1 ∨ s.injKind = 2) ∧ (waitsForCheck s.injSource = false) ∧ (s.injSource < 0xF800) ∧ (pipeOfSource s.injSource = none) :=
  ⟨((({ State.reset with chip := { State.reset.chip with mode := .test } } : State).setReg 0x100040 (BitVec.ofNat 32 (13120 * 2 ^ 16 + 2 * 2 ^ 12))).setInj .armed), by decide⟩

/-- The premises of InjectionGuardsAndCalibration, part 13, hold somewhere. -/
theorem witness_InjectionGuardsAndCalibration_13 : ∃ (s : State), (s.fc.inj = .armed) ∧ (s.fc.injHeld = none) ∧ (s.injects s.injSource = none) ∧ (s.injKind = 0) ∧ (waitsForCheck s.injSource = false) ∧ (s.injSource < 0xF800) :=
  ⟨((({ State.reset with chip := { State.reset.chip with mode := .test } } : State).setReg 0x100040 (BitVec.ofNat 32 (13056 * 2 ^ 16 + 0 * 2 ^ 12))).setInj .armed), by decide⟩

/-- The premises of InjectionGuardsAndCalibration, part 14, hold somewhere. -/
theorem witness_InjectionGuardsAndCalibration_14 : ∃ (s : State), (s.fc.inj = .armed) ∧ (s.fc.injHeld = none) ∧ (s.injects s.injSource = none) ∧ (s.injKind = 4) ∧ ((s.source s.injSource).live = false) ∧ (s.injSource ≠ srcChip 0 3) ∧ (pipeOfSource s.injSource = none) :=
  ⟨((({ State.reset with chip := { State.reset.chip with mode := .test } } : State).setReg 0x100040 (BitVec.ofNat 32 (63553 * 2 ^ 16 + 4 * 2 ^ 12))).setInj .armed), by decide⟩

/-- The premises of InjectionGuardsAndCalibration, part 15, hold somewhere. -/
theorem witness_InjectionGuardsAndCalibration_15 : ∃ (s : State), (s.fc.inj = .armed) ∧ (s.fc.injHeld = none) ∧ (s.injects s.injSource = none) ∧ (s.injKind = 3) ∧ ((s.source s.injSource).live = false) ∧ (chipBlock s.injSource = 0x15) :=
  ⟨((({ State.reset with chip := { State.reset.chip with mode := .test } } : State).setReg 0x100040 (BitVec.ofNat 32 (64833 * 2 ^ 16 + 3 * 2 ^ 12))).setInj .armed), by decide⟩

/-- The premises of InjectionGuardsAndCalibration, part 16, hold somewhere. -/
theorem witness_InjectionGuardsAndCalibration_16 : ∃ (s : State), (s.fc.inj ≠ .armed ∨ s.fc.injHeld.isSome = true ∨ (s.injects s.injSource).isSome = true) :=
  ⟨State.reset, by decide⟩

/-- The premises of InjectionGuardsAndCalibration, part 17, hold somewhere. -/
theorem witness_InjectionGuardsAndCalibration_17 : ∃ (s : State), (s.fc.inj ≠ .keyed) :=
  ⟨State.reset, by decide⟩

/-- The premises of InjectionGuardsAndCalibration, part 18, hold somewhere. -/
theorem witness_InjectionGuardsAndCalibration_18 : ∃ (s : State), (s.fc.injHeld = none) :=
  ⟨State.reset, by decide⟩

/-- The premises of InjectionGuardsAndCalibration, part 19, hold somewhere. -/
theorem witness_InjectionGuardsAndCalibration_19 : ∃ (src : Nat) (s : State), (s.fc.injHeld = some src) ∧ (s.fc.injLine = false) ∧ (chipBlock src = 0x15) :=
  ⟨0xFD41, { State.reset with fc := { State.reset.fc with injHeld := some 0xFD41 } }, by decide⟩

/-- The premises of InjectionGuardsAndCalibration, part 20, hold somewhere. -/
theorem witness_InjectionGuardsAndCalibration_20 : ∃ (src : Nat) (s : State), (s.fc.injHeld = some src) ∧ (s.fc.injLine = true) :=
  ⟨7, { State.reset with fc := { State.reset.fc with injHeld := some 7, injLine := true } }, by decide⟩

/-- The premises of InjectionGuardsAndCalibration, part 21, hold somewhere. -/
theorem witness_InjectionGuardsAndCalibration_21 : ∃ (u : Fin 16) (v : Word) (s : State), (s.closed (guOff u) = false) ∧ (getBits v 0 0 = 1) ∧ (s.guHosts u = true) ∧ (s.fld (guOff u + 8) 31 30 ≠ 1) ∧ (s.fld (guOff u) 17 16 < 2) :=
  ⟨3, 1, State.reset.setReg 0x600400 0xFFFFFFFF, by decide⟩

/-- The premises of InjectionGuardsAndCalibration, part 22, hold somewhere. -/
theorem witness_InjectionGuardsAndCalibration_22 : ∃ (u : Fin 16) (v : Word) (s : State), (s.closed (guOff u) = false) ∧ (getBits v 0 0 = 1) ∧ (s.guHosts u = true) ∧ (s.fld (guOff u + 8) 31 30 ≠ 1) ∧ (2 ≤ s.fld (guOff u) 17 16) :=
  ⟨3, 1, (State.reset.setReg 0x600400 0xFFFFFFFF).setReg 0x6000C0 0x20000, by decide⟩

/-- The premises of InjectionGuardsAndCalibration, part 23, hold somewhere. -/
theorem witness_InjectionGuardsAndCalibration_23 : ∃ (u : Fin 16) (v : Word) (s : State), (s.closed (guOff u) = false) ∧ (s.guHosts u = false ∨ (getBits v 0 0 = 1 ∧ s.fld (guOff u + 8) 31 30 = 1)) :=
  ⟨3, 1, State.reset.setReg 0x600400 0, by decide⟩

/-- The premises of InjectionGuardsAndCalibration, part 24, hold somewhere. -/
theorem witness_InjectionGuardsAndCalibration_24 : ∃ (u : Fin 16) (v : Word) (s : State), (s.closed (guOff u) = true ∨ (s.guHosts u = true ∧ getBits v 0 0 = 0)) :=
  ⟨3, 0, State.reset.setReg 0x600400 0xFFFFFFFF, by decide⟩

/-- The premises of InjectionGuardsAndCalibration, part 25, hold somewhere. -/
theorem witness_InjectionGuardsAndCalibration_25 : ∃ (u : Fin 16) (v : Word) (ws : List (Fin 16 × Word)) (s : State), (s.guHosts u = true ∨ s.fld (guOff u + 8) 31 30 = 1) :=
  ⟨3, 1, [], State.reset.setReg 0x600400 0xFFFFFFFF, by decide⟩

/-- The premises of InjectionGuardsAndCalibration, part 26, hold somewhere. -/
theorem witness_InjectionGuardsAndCalibration_26 : ∃ (u : Fin 16) (v : Word) (s : State), (s.guHosts u = false) ∧ (s.fld (guOff u + 8) 31 30 ≠ 1) ∧ (getBits v 0 0 = 1) :=
  ⟨3, 1, State.reset.setReg 0x600400 0, by decide⟩

/-- The premises of InjectionGuardsAndCalibration, part 27, hold somewhere. -/
theorem witness_InjectionGuardsAndCalibration_27 : ∃ (u : Fin 16) (v : Word) (ws : List (Fin 16 × Word)) (s : State), (s.guHosts u = false) ∧ (s.fld (guOff u + 8) 31 30 ≠ 1) ∧ (getBits v 0 0 = 0) :=
  ⟨3, 0, [(4, 7)], State.reset.setReg 0x600400 0, by decide⟩

/-- The premises of InjectionGuardsAndCalibration, part 28, hold somewhere. -/
theorem witness_InjectionGuardsAndCalibration_28 : ∃ (u : Fin 16) (v : Word) (fw : Bool) (s : State), (fw = true ∨ s.closed (guOff u) = false) ∧ (getBits v 1 1 = 1) ∧ (s.guHosts u = !fw) ∧ (s.fld (guOff u + 8) 31 30 = 1) :=
  ⟨3, 2, false, (State.reset.setReg 0x600400 0xFFFFFFFF).setReg 0x6000C8 0x40000000, by decide⟩

/-- The premises of InjectionGuardsAndCalibration, part 29, hold somewhere. -/
theorem witness_InjectionGuardsAndCalibration_29 : ∃ (u : Fin 16) (v : Word) (s : State), (s.closed (guOff u) = false) ∧ (s.guHosts u = false) :=
  ⟨3, 2, State.reset.setReg 0x600400 0, by decide⟩

/-- The premises of InjectionGuardsAndCalibration, part 30, hold somewhere. -/
theorem witness_InjectionGuardsAndCalibration_30 : ∃ (u : Fin 16) (v : Word) (fw : Bool) (s : State), ((fw = false ∧ s.closed (guOff u) = true) ∨ (fw = true ∧ s.guHosts u = true) ∨ (s.guHosts u = !fw ∧ (getBits v 1 1 = 0 ∨ ¬s.fld (guOff u + 8) 31 30 = 1))) :=
  ⟨3, 2, false, State.reset.setReg 0x600400 0xFFFFFFFF, by decide⟩

/-- The premises of InjectionGuardsAndCalibration, part 31, hold somewhere. -/
theorem witness_InjectionGuardsAndCalibration_31 : ∃ (u : Fin 16) (d : Option (List Byte)) (s : State), (s.fld (guOff u + 8) 31 30 = 1) ∧ (s.fld (guOff u) 17 16 = 0) :=
  ⟨3, none, State.reset.setReg 0x6000C8 0x40000000, by decide⟩

/-- The premises of InjectionGuardsAndCalibration, part 32, hold somewhere. -/
theorem witness_InjectionGuardsAndCalibration_32 : ∃ (u : Fin 16) (bs : List Byte) (s : State), (s.fld (guOff u + 8) 31 30 = 1) ∧ (s.fld (guOff u) 17 16 ≠ 0) :=
  ⟨3, [], (State.reset.setReg 0x6000C8 0x40000000).setReg 0x6000C0 0x10000, by decide⟩

/-- The premises of InjectionGuardsAndCalibration, part 33, hold somewhere. -/
theorem witness_InjectionGuardsAndCalibration_33 : ∃ (u : Fin 16) (s : State), (s.fld (guOff u + 8) 31 30 = 1) ∧ (s.fld (guOff u) 17 16 = 1) :=
  ⟨3, (State.reset.setReg 0x6000C8 0x40000000).setReg 0x6000C0 0x10000, by decide⟩

/-- The premises of InjectionGuardsAndCalibration, part 34, hold somewhere. -/
theorem witness_InjectionGuardsAndCalibration_34 : ∃ (u : Fin 16) (d : Option (List Byte)) (s : State), (¬s.fld (guOff u + 8) 31 30 = 1 ∨ (d = none ∧ 2 ≤ s.fld (guOff u) 17 16)) :=
  ⟨3, none, State.reset, by decide⟩

/-- The premises of InjectionGuardsAndCalibration, part 35, hold somewhere. -/
theorem witness_InjectionGuardsAndCalibration_35 : ∃ (k : Fin 4) (off : Offset) (v : Word) (s : State), (off.toNat = (0x1000 + 4 * k.val)) ∧ (s.rwlOpen = true) :=
  ⟨2, 0x1008, 5, State.reset, by decide⟩

/-- The premises of InjectionGuardsAndCalibration, part 36, hold somewhere. -/
theorem witness_InjectionGuardsAndCalibration_36 : ∃ (k : Fin 4) (off : Offset) (v : Word) (s : State), (off.toNat = (0x1000 + 4 * k.val)) ∧ (s.rwlOpen = false) ∧ (s.reg (0x1000 + 4 * k.val) ≠ v &&& (if k = 2 then 0x1FF else if k = 3 then 0xFF else 0x1F)) :=
  ⟨2, 0x1008, 5, { State.reset with chip := { State.reset.chip with mode := .service } }, by decide⟩

/-- The premises of InjectionGuardsAndCalibration, part 37, hold somewhere. -/
theorem witness_InjectionGuardsAndCalibration_37 : ∃ (off : Offset) (v : Word) (s : State), (0x2000 ≤ off.toNat) ∧ (off.toNat < 0x3000) ∧ (off.toNat % 4 = 0) :=
  ⟨0x2004, 5, State.reset, by decide⟩

/-- The premises of InjectionGuardsAndCalibration, part 38, hold somewhere. -/
theorem witness_InjectionGuardsAndCalibration_38 : ∃ (n : Four) (off : Offset) (v : Word) (s : State), (s.closed off.toNat = false) ∧ (off.toNat = 0x2400024 + n.val * 0x100) :=
  ⟨2, 0x2400224, 5, State.reset, by decide⟩

/-- The premises of InjectionGuardsAndCalibration, part 39, hold somewhere. -/
theorem witness_InjectionGuardsAndCalibration_39 : ∃ (off : Offset) (v : Word) (s : State), (s.closed off.toNat = true ∨ (isCalibration off.toNat = false ∧ ¬(0x2000 ≤ off.toNat ∧ off.toNat < 0x3000 ∧ off.toNat % 4 = 0))) :=
  ⟨0x2400224, 5, { State.reset with chip := { State.reset.chip with warm := .sealed } }, by decide⟩
end

section
/-! PROOFS. What every command can do, from the laws of Laws/Moves: it ends within its footprint and keeps the stores canonical. -/

namespace Sys2Proof.Machine

/-- What every command can do: it ends in a next state, touches no part outside its footprint, and keeps the stores
canonical. One law of Laws/Moves for each command. -/
theorem exec_ends (s : State) : ∀ c : Instr, Ends (footprint c) s (exec c s)
  | .registerAccessMisaligned _ _ _ => execRegisterAccessMisaligned_moves
  | .registerWrite _ _ => execRegisterWrite_moves
  | .pairLowWordRead _ => execPairLowWordRead_moves
  | .flitCrcFail _ => execFlitCrcFail_moves
  | .d2dLinkFailover _ => execD2dLinkFailover_moves
  | .lockstepMismatch _ _ => execLockstepMismatch_moves
  | .lockstepKatDone _ _ _ => execLockstepKatDone_moves
  | .lockstepResume _ => execLockstepResume_moves
  | .sysclkLoss => execSysclkLoss_moves
  | .refclkSdLoss _ => execRefclkSdLoss_moves
  | .pcieRefclkLoss => execPcieRefclkLoss_moves
  | .frameStart _ _ => execFrameStart_moves
  | .cellWrite _ _ _ _ => execCellWrite_moves
  | .parseDone _ => execParseDone_moves
  | .classifyDone _ => execClassifyDone_moves
  | .frameEnd _ _ _ => execFrameEnd_moves
  | .pipelineSlotGrant _ _ _ => execPipelineSlotGrant_moves
  | .stageExecute _ _ => execStageExecute_moves
  | .resultRelease _ _ => execResultRelease_moves
  | .holderTransfer _ _ _ _ _ => execHolderTransfer_moves
  | .holderRelease _ _ _ => execHolderRelease_moves
  | .cellRead _ _ _ _ _ _ => execCellRead_moves
  | .limitCommit => execLimitCommit_moves
  | .faultLogRead => execFaultLogRead_moves
  | .reclaim _ _ => execReclaim_moves
  | .cmpReqRx _ _ _ => execCmpReqRx_moves
  | .cmpGrantRx _ _ => execCmpGrantRx_moves
  | .cmpSyncTimer => execCmpSyncTimer_moves
  | .cmpSyncRx _ _ v => execCmpSyncRx_moves (value := v)
  | .cmpSyncAckRx _ _ => execCmpSyncAckRx_moves
  | .cmpMessageFlush _ => execCmpMessageFlush_moves
  | .mcGroupWrite _ _ => execMcGroupWrite_moves
  | .schedulerSelect _ => execSchedulerSelect_moves
  | .transmitStart _ => execTransmitStart_moves
  | .transmitComplete _ => execTransmitComplete_moves
  | .shaperRefill => execShaperRefill_moves
  | .shaperSwap _ => execShaperSwap_moves
  | .shaperConfigWrite _ _ _ _ => execShaperConfigWrite_moves
  | .pfcXoffRefresh _ _ => execPfcXoffRefresh_moves
  | .pfcRx _ _ _ => execPfcRx_moves
  | .pauseRx _ _ => execPauseRx_moves
  | .pfcPauseExpire _ _ => execPfcPauseExpire_moves
  | .viaInitTimer _ => execViaInitTimer_moves
  | .viaInitRx _ _ => execViaInitRx_moves
  | .viaInitAckRx _ _ => execViaInitAckRx_moves
  | .viaDataRx _ _ _ _ => execViaDataRx_moves
  | .viaAckRx _ _ => execViaAckRx_moves
  | .viaNakRx _ _ => execViaNakRx_moves
  | .viaRetransmitDone _ => execViaRetransmitDone_moves
  | .viaRetryTimeout _ => execViaRetryTimeout_moves
  | .viaAckTimer _ => execViaAckTimer_moves
  | .viaCreditTimer _ => execViaCreditTimer_moves
  | .viaCreditRx _ _ => execViaCreditRx_moves
  | .viaHoldWrite _ _ => execViaHoldWrite_moves
  | .linkHoldExpire _ => execLinkHoldExpire_moves
  | .lossLogRead => execLossLogRead_moves
  | .shadowPeriodEnd _ _ => execShadowPeriodEnd_moves
  | .shadowPeriodStart _ _ => execShadowPeriodStart_moves
  | .katVectorInsert _ _ _ => execKatVectorInsert_moves
  | .mismatchDrained _ _ => execMismatchDrained_moves
  | .mismatchVectorsChecked _ _ _ _ => execMismatchVectorsChecked_moves
  | .mismatchRerunChecked _ _ _ => execMismatchRerunChecked_moves
  | .spareDrained _ _ => execSpareDrained_moves
  | .spareSwitch _ _ _ => execSpareSwitch_moves
  | .spareReinstate _ _ => execSpareReinstate_moves
  | .reinstateDone _ _ _ _ => execReinstateDone_moves
  | .spanResetRequest _ => execSpanResetRequest_moves
  | .spanLogicReset _ => execSpanLogicReset_moves
  | .spanRecopyDone _ _ => execSpanRecopyDone_moves
  | .spanVectorsDone _ _ => execSpanVectorsDone_moves
  | .spanReplayStart _ => execSpanReplayStart_moves
  | .spanResetEnd _ => execSpanResetEnd_moves
  | .journalProgram _ => execJournalProgram_moves
  | .journalCheckpoint => execJournalCheckpoint_moves
  | .journalForceWt _ => execJournalForceWt_moves
  | .journalFastResume => execJournalFastResume_moves
  | .telRollWrite _ => execTelRollWrite_moves
  | .mirrorRecordWrite _ _ _ => execMirrorRecordWrite_moves
  | .rxCopyDeliver _ _ _ => execRxCopyDeliver_moves
  | .mirrorSessionWrite _ _ _ => execMirrorSessionWrite_moves
  | .counterRead _ => execCounterRead_moves
  | .servoSample _ => execServoSample_moves
  | .tbOffsetSubmit _ _ => execTbOffsetSubmit_moves
  | .ppsInEdge _ => execPpsInEdge_moves
  | .tbHoldoverTimeout _ => execTbHoldoverTimeout_moves
  | .tbSrcWrite _ _ => execTbSrcWrite_moves
  | .tbSnapshot _ => execTbSnapshot_moves
  | .tbSecondPublish => execTbSecondPublish_moves
  | .tbPubRead => execTbPubRead_moves
  | .ppsOutPulse => execPpsOutPulse_moves
  | .ppsOutEnd => execPpsOutEnd_moves
  | .cadSrcWrite _ => execCadSrcWrite_moves
  | .cadSlewEnd => execCadSlewEnd_moves
  | .cadAlign _ => execCadAlign_moves
  | .cadSlotWrite _ _ _ _ => execCadSlotWrite_moves
  | .cadSlotFire _ => execCadSlotFire_moves
  | .jointArm _ => execJointArm_moves
  | .jointCancel _ => execJointCancel_moves
  | .jointNow _ => execJointNow_moves
  | .jointCheck => execJointCheck_moves
  | .loadStart _ => execLoadStart_moves
  | .loadComplete _ _ => execLoadComplete_moves
  | .storeScrub _ _ _ => execStoreScrub_moves
  | .windowRead _ => execWindowRead_moves
  | .windowWrite _ _ => execWindowWrite_moves
  | .trestleRoutineStart _ => execTrestleRoutineStart_moves
  | .trestleLd _ _ _ => execTrestleLd_moves
  | .trestleAlu _ _ _ _ _ => execTrestleAlu_moves
  | .trestleHash _ _ _ _ _ => execTrestleHash_moves
  | .trestleStage _ _ _ => execTrestleStage_moves
  | .trestleFlip _ _ _ _ => execTrestleFlip_moves
  | .trestleBflip _ _ _ _ _ => execTrestleBflip_moves
  | .trestleBranch _ _ => execTrestleBranch_moves
  | .trestleHalt _ _ => execTrestleHalt_moves
  | .trestleStop _ _ => execTrestleStop_moves
  | .trestleResume _ _ => execTrestleResume_moves
  | .trestleAbort _ _ => execTrestleAbort_moves
  | .tableKindWrite _ _ _ _ => execTableKindWrite_moves
  | .tableScrub _ _ _ _ => execTableScrub_moves
  | .agingSweep _ => execAgingSweep_moves
  | .replicaCompare _ => execReplicaCompare_moves
  | .portEnable _ _ => execPortEnable_moves
  | .portDisable _ _ => execPortDisable_moves
  | .laneSignalDetect _ => execLaneSignalDetect_moves
  | .anPageRx _ _ _ _ => execAnPageRx_moves
  | .trainingDone _ => execTrainingDone_moves
  | .linkUp _ _ _ => execLinkUp_moves
  | .linkDown _ => execLinkDown_moves
  | .bringupTimeout _ => execBringupTimeout_moves
  | .linkStable _ => execLinkStable_moves
  | .failedRetryTimer _ => execFailedRetryTimer_moves
  | .trainingRequestRx _ _ => execTrainingRequestRx_moves
  | .trainingResponseRx _ _ _ => execTrainingResponseRx_moves
  | .trainingManualRequest _ _ => execTrainingManualRequest_moves
  | .fecDegradeWindow _ _ _ _ => execFecDegradeWindow_moves
  | .eyeScanStart _ _ => execEyeScanStart_moves
  | .eyeScanStop _ _ => execEyeScanStop_moves
  | .eyeScanDone _ _ => execEyeScanDone_moves
  | .pierAlignSearch _ => execPierAlignSearch_moves
  | .pierSlip _ => execPierSlip_moves
  | .pierAlignLock _ => execPierAlignLock_moves
  | .pierAlignLost _ => execPierAlignLost_moves
  | .pierEnableWrite _ _ => execPierEnableWrite_moves
  | .pierCapTimer _ => execPierCapTimer_moves
  | .cap _ _ => execCap_moves
  | .step _ p => execStep_moves (payload := p)
  | .pierStepSwitch _ => execPierStepSwitch_moves
  | .pierStepTimeout _ => execPierStepTimeout_moves
  | .pierFrameBad _ => execPierFrameBad_moves
  | .tmarkPeriod _ => execTmarkPeriod_moves
  | .timeMarkRx _ => execTimeMarkRx_moves
  | .tmark _ _ => execTmark_moves
  | .tmarkTimeout _ => execTmarkTimeout_moves
  | .mgmt _ _ => execMgmt_moves
  | .fault _ _ => execFault_moves
  | .pierFaultSymbolsRx _ => execPierFaultSymbolsRx_moves
  | .pierFaultRepeat => execPierFaultRepeat_moves
  | .pcieFlr => execPcieFlr_moves
  | .pciePerst => execPciePerst_moves
  | .pcieBusMasterOff => execPcieBusMasterOff_moves
  | .pcieBusMasterOn _ => execPcieBusMasterOn_moves
  | .sqDoorbell _ _ _ => execSqDoorbell_moves
  | .cqDoorbell _ _ _ => execCqDoorbell_moves
  | .sqScan _ _ _ _ => execSqScan_moves
  | .sqRescanTimer _ => execSqRescanTimer_moves
  | .sqResourceFree _ => execSqResourceFree_moves
  | .rxRingReadAhead _ _ _ => execRxRingReadAhead_moves
  | .txPacketReadDone _ _ _ => execTxPacketReadDone_moves
  | .completionPost _ _ => execCompletionPost_moves
  | .eventRecordWrite _ _ => execEventRecordWrite_moves
  | .cqCoalTimer _ _ => execCqCoalTimer_moves
  | .ringEnable _ _ _ => execRingEnable_moves
  | .ringDisable _ _ _ => execRingDisable_moves
  | .keystoneComparatorMismatch _ => execKeystoneComparatorMismatch_moves
  | .keystoneWatchdogExpire _ => execKeystoneWatchdogExpire_moves
  | .keystoneTakeoverStart _ => execKeystoneTakeoverStart_moves
  | .keystoneTakeoverDone _ => execKeystoneTakeoverDone_moves
  | .keystoneReinstate _ => execKeystoneReinstate_moves
  | .keystoneSelftestDone _ _ => execKeystoneSelftestDone_moves
  | .keystoneReturn _ => execKeystoneReturn_moves
  | .call _ _ _ => execCall_moves
  | .ret _ => execRet_moves
  | .wsave _ _ => execWsave_moves
  | .wload _ _ => execWload_moves
  | .texit _ => execTexit_moves
  | .kcTrapEntry _ _ => execKcTrapEntry_moves
  | .kcInterrupt _ _ => execKcInterrupt_moves
  | .infoIdentify _ => execInfoIdentify_moves
  | .tableInsert _ _ => execTableInsert_moves
  | .tableDelete _ _ => execTableDelete_moves
  | .tableModify _ _ => execTableModify_moves
  | .tableRead _ _ => execTableRead_moves
  | .tableSetAge _ => execTableSetAge_moves
  | .auditRun _ => execAuditRun_moves
  | .ptpInstance _ => execPtpInstance_moves
  | .ptpPort _ => execPtpPort_moves
  | .ptpStatus _ => execPtpStatus_moves
  | .pierAlign _ _ => execPierAlign_moves
  | .pierSend _ => execPierSend_moves
  | .fuseOwnerKey _ => execFuseOwnerKey_moves
  | .updateStatus _ => execUpdateStatus_moves
  | .updateErase _ _ => execUpdateErase_moves
  | .updateWrite _ _ _ => execUpdateWrite_moves
  | .updateRead _ => execUpdateRead_moves
  | .updateActivate _ => execUpdateActivate_moves
  | .updateSettingsWrite _ _ _ => execUpdateSettingsWrite_moves
  | .updateSettingsRead _ => execUpdateSettingsRead_moves
  | .powerStatus _ => execPowerStatus_moves
  | .powerConcordReport _ => execPowerConcordReport_moves
  | .guScanStart _ _ _ => execGuScanStart_moves
  | .guScanAbort _ _ _ => execGuScanAbort_moves
  | .guScanDone _ _ => execGuScanDone_moves
  | .faultLatch _ => execFaultLatch_moves
  | .correctedThreshold _ => execCorrectedThreshold_moves
  | .faultCauseClear _ _ _ _ => execFaultCauseClear_moves
  | .faultSelect _ => execFaultSelect_moves
  | .errSTimerExpire => execErrSTimerExpire_moves
  | .errSRelease _ => execErrSRelease_moves
  | .errPinReadback _ _ _ => execErrPinReadback_moves
  | .fcPinTestWrite _ => execFcPinTestWrite_moves
  | .collectorMismatch => execCollectorMismatch_moves
  | .safeStateComplete => execSafeStateComplete_moves
  | .viewCompare _ _ => execViewCompare_moves
  | .injectionKeyWrite _ => execInjectionKeyWrite_moves
  | .injectionConfigWrite _ _ => execInjectionConfigWrite_moves
  | .injectionKeyTimeout => execInjectionKeyTimeout_moves
  | .injectionFire => execInjectionFire_moves
  | .injectionLevelEnd => execInjectionLevelEnd_moves
  | .opPolicyWrite _ _ => execOpPolicyWrite_moves
  | .riseVoutCommand => execRiseVoutCommand_moves
  | .riseReadVout _ => execRiseReadVout_moves
  | .avsAdjust _ _ => execAvsAdjust_moves
  | .pmbusFailure => execPmbusFailure_moves
  | .pmbAlert _ => execPmbAlert_moves
  | .droopDetect _ => execDroopDetect_moves
  | .droopRecover _ => execDroopRecover_moves
  | .thermalSample _ => execThermalSample_moves
  | .throttleStep => execThrottleStep_moves
  | .throttleReleaseStep => execThrottleReleaseStep_moves
  | .tjmaxCapEnd => execTjmaxCapEnd_moves
  | .regAlertConfirm => execRegAlertConfirm_moves
  | .regAlertEnd => execRegAlertEnd_moves
  | .concordRoundOpen => execConcordRoundOpen_moves
  | .concord _ _ => execConcord_moves
  | .concordRoundClose => execConcordRoundClose_moves
  | .holdupCompare _ _ => execHoldupCompare_moves
  | .holdupRebase _ => execHoldupRebase_moves
  | .mainSupplyFail => execMainSupplyFail_moves
  | .journalFlushDone _ _ => execJournalFlushDone_moves
  | .railFault _ _ _ => execRailFault_moves
  | .powerOn => execPowerOn_moves
  | .resetNAssert => execResetNAssert_moves
  | .resetNRelease _ _ => execResetNRelease_moves
  | .coldResetRequest _ => execColdResetRequest_moves
  | .warmResetRequest _ => execWarmResetRequest_moves
  | .warmNAssert => execWarmNAssert_moves
  | .warmResetSeal => execWarmResetSeal_moves
  | .warmResetRelease => execWarmResetRelease_moves
  | .warmAuditDone => execWarmAuditDone_moves
  | .warmResume _ _ _ => execWarmResume_moves
  | .warmResetEnd => execWarmResetEnd_moves
  | .collectorSelftestDone _ => execCollectorSelftestDone_moves
  | .bootVerifyDone _ => execBootVerifyDone_moves
  | .bootStartTimeout _ => execBootStartTimeout_moves
  | .bootReady _ _ => execBootReady_moves
  | .gotoService => execGotoService_moves
  | .gotoTest => execGotoTest_moves
  | .calibrationWrite _ _ => execCalibrationWrite_moves
  | .registerReadClear _ => execRegisterReadClear_moves
  | .pcieLinkUp _ _ _ => execPcieLinkUp_moves
  | .referenceClockReturn _ => execReferenceClockReturn_moves
  | .msixVectorUnmask _ => execMsixVectorUnmask_moves

/-- A state differs from another in its queue only: its stores are the same. -/
theorem State.Canonical.withPending {s : State} (h : s.Canonical) (q : List Instr) : State.Canonical { s with pending := q } :=
  ⟨h.regs, h.holding, h.counters, h.hostMem, h.mem, h.flash⟩

theorem exec_keeps_canonical {c : Instr} {s t : State} (h : s.Canonical) (e : exec c s = .next t) : t.Canonical := by
  obtain ⟨u, hu, m⟩ := exec_ends s c
  obtain rfl : u = t := Host.Outcome.next.inj (hu.symm.trans e)
  exact m.keep h

/-- Settles O5, by cases on the queue: an idle step by the law of the tick, a command by its own law. -/
theorem stepKeepsCanonical : Obligations.StepKeepsCanonical := by
  intro s t h e
  cases hq : s.pending with
  | nil =>
    obtain rfl : s.idle = t := by simpa [step, hq] using e
    exact State.idle_moves.keep h
  | cons c rest => exact exec_keeps_canonical (h.withPending rest) (by simpa [step, hq] using e)

/-- Settles O4: the six registers are evaluated one by one, and no counter and no source has an entry at reset. -/
theorem resetRegisters : Obligations.ResetRegisters := by
  refine ⟨⟨?_, ?_, ?_, ?_, ?_, ?_⟩, fun off => ⟨rfl, rfl⟩⟩ <;> decide

end Sys2Proof.Machine
end

section
/-! PROOFS. What a class-N fault of the chip level, and a refused write, report and leave. -/

namespace Sys2Proof.Machine

variable {s : State}

/-! ### Class-N faults of the chip level: what they report, and what they leave -/

/-- The record of a source shows a class-N fault (R428). -/
def SourceRec.ShowsN (x : SourceRec) : Prop := x.cause = true ∧ x.cls = .n

/-- A class-N fault shows in the record of its source, and in no other (R428). -/
theorem State.latchFault_n_source (src detail : Nat) (live threshold : Bool) (x : Nat) :
    (s.latchFault src .n detail live threshold).source x
      = if x = src then latched (s.source src) s .n detail live else s.source x :=
  State.latchFault_source _ _ _ _ _ _ (.inr (by decide)) (.inr (by decide))

theorem State.latchFault_n_shows (src detail : Nat) (live threshold : Bool) :
    ((s.latchFault src .n detail live threshold).source src).ShowsN := by
  rw [State.latchFault_n_source, if_pos rfl]
  exact ⟨rfl, rfl⟩

theorem State.latchFault_n_chip (src detail : Nat) (live threshold : Bool) (h : 0xF800 ≤ src) :
    (s.latchFault src .n detail live threshold).chip = s.chip :=
  (State.latchFault_n_moves src detail live threshold h).same .chip (by decide)

/-! ### Refused writes (R525) -/

theorem State.refusedWrite_frame (off : Nat) : FaultFrame s (s.refusedWrite off) :=
  State.latchFault_frame _ _ _ _ _ (by decide)

theorem State.refusedWrite_shows (off : Nat) : ((s.refusedWrite off).source (srcChip 0 1)).ShowsN :=
  State.latchFault_n_shows _ _ _ _

theorem State.refusedWrite_source (off x : Nat) :
    (s.refusedWrite off).source x
      = if x = srcChip 0 1 then latched (s.source (srcChip 0 1)) s .n (off % 2 ^ 26 + 2 ^ 26) false else s.source x :=
  State.latchFault_n_source _ _ _ _ _

theorem State.refusedWrite_n_moves (off : Nat) :
    Moves [.regs, .counters, .emitted, .freeCount, .fc, .buf] s (s.refusedWrite off) :=
  State.latchFault_n_moves _ _ _ _ (by decide)

theorem State.refusedWrite_chip (off : Nat) : (s.refusedWrite off).chip = s.chip :=
  State.latchFault_n_chip _ _ _ _ (by decide)

end Sys2Proof.Machine
end

section
/-! PROOFS. Accesses of the host to registers: misaligned ones, the writes to CHIP and FC, and the read of PMC_RD_TS. -/

namespace Sys2Proof.Machine

variable {s : State}

/-! ### Accesses of a wrong size or alignment (R10) -/

/-- CHIP and FC answer throughout a warm reset (R490). -/
theorem State.closed_low {off : Nat} (h : off < 0x200000) : s.closed off = false := by
  simp [State.closed, h]

theorem State.closed_sealed {off : Nat} (hw : s.chip.warm = .sealed) (h : 0x200000 ≤ off) : s.closed off = true := by
  simp [State.closed, hw, h]

/-- What a read that does not reach a register returns (R10, R490): all ones, where a write returns nothing. -/
def State.unanswered (s : State) (w : Bool) : State := { s with readData := if w then s.readData else 0xFFFFFFFF }

theorem exec_misaligned_eq {off : Offset} {n : Nat} {w : Bool} (hn : ¬ (n = 4 ∧ off.toNat % 4 = 0)) :
    exec (.registerAccessMisaligned off n w) s = .next (if s.closed off.toNat then s.unanswered w
      else (s.unanswered w).latchFault (srcChip 0 0) .n (off.toNat + w.toNat * 2 ^ 26)) := by
  have hu : (if w then s else { s with readData := 0xFFFFFFFF }) = s.unanswered w := by cases w <;> rfl
  have hc : (s.unanswered w).closed off.toNat = s.closed off.toNat := rfl
  simp only [exec, execRegisterAccessMisaligned, if_neg hn, hu, hc]
  split <;> rfl

/-- Settles O10: the access ends as `exec_misaligned_eq` says, and the rest are the laws of a class-N fault of the chip
level. -/
theorem misalignedAccess : Obligations.MisalignedAccess := by
  refine ⟨fun off n w s hn hc => ?_, fun off w s ha => ?_⟩
  · have hm : Moves [.readData] s (s.unanswered w) := .readData (by decide) .refl
    have hl := State.latchFault_n_moves (s := s.unanswered w) (srcChip 0 0) (off.toNat + w.toNat * 2 ^ 26) false false (by decide)
    have hs := State.latchFault_n_source (s := s.unanswered w) (srcChip 0 0) (off.toNat + w.toNat * 2 ^ 26) false false
    have h0 := (hs 0xF800).trans (if_pos rfl)
    refine ⟨_, by rw [exec_misaligned_eq hn, hc]; rfl, hl.same .readData (by decide), ?_, ?_, ?_, fun x hx => ?_, ?_, ?_⟩
    · exact congrArg SourceRec.cause h0
    · exact congrArg SourceRec.cls h0
    · exact congrArg SourceRec.detail h0
    · exact (hs x).trans (if_neg hx)
    · exact (FaultFrame.moves hm (by decide)).trans (State.latchFault_frame _ _ _ _ _ (by decide))
    · exact ((hm.mono (by decide)).trans (hl.mono (by decide))).only
  · simp [exec, execRegisterAccessMisaligned, ha]

/-! ### Writes of the registers of CHIP and FC (R12, R14, R16) -/

theorem State.writeOrdinary_none {off : Nat} {v : Word} (h : regRow off = none) : s.writeOrdinary off v = s := by
  simp [State.writeOrdinary, h]

/-- A write that no lock stands against takes every field under its access type (R12). -/
theorem State.writeOrdinary_taken {off : Nat} {v : Word} {r : RegRow} (h : regRow off = some r)
    (hl : s.rwlOpen = true ∨ rwlDiffers r (s.reg off) v = false) :
    s.writeOrdinary off v = s.setReg off (writeWord r s.rwlOpen (s.reg off) v) := by
  rcases hl with hl | hl <;> simp [State.writeOrdinary, h, hl]

/-- A write that would change a locked field is taken by the others, and refused for that one (R12, R525). -/
theorem State.writeOrdinary_locked {off : Nat} {v : Word} {r : RegRow} (h : regRow off = some r)
    (ho : s.rwlOpen = false) (hd : rwlDiffers r (s.reg off) v = true) :
    s.writeOrdinary off v = (s.setReg off (writeWord r false (s.reg off) v)).refusedWrite off := by
  simp [State.writeOrdinary, h, ho, hd]

theorem State.writePlain_low {off : Nat} {v : Word} (h : off < 0x200000) (h8 : off ≠ 8) :
    s.writePlain off v = s.writeOrdinary off v := by
  unfold State.writePlain
  repeat rw [if_neg (by omega)]

/-- The registers of CHIP and FC take a plain write, CHIP_STATE_CTRL excepted. -/
theorem exec_registerWrite_low {off : Offset} {v : Word} (h : off.toNat < 0x200000) (ha : off.toNat % 4 = 0)
    (h8 : off.toNat ≠ 8) : exec (.registerWrite off v) s = .next (s.writeOrdinary off.toNat v) := by
  have hoff : off.toNat / 4 * 4 = off.toNat := by omega
  simp only [exec, execRegisterWrite, State.hostStore, State.closed_low h, hoff, State.writePlain_low h h8]
  rfl

theorem faultRegister_chip {o : Nat} (h : o < 0x100000) : faultRegister o = false := by
  simp [faultRegister]; omega

/-- The row of DEVICE_ID (R273): bits 31:16 are RW, bits 11:0 RWL. -/
theorem regRow_deviceId : regRow 0x400 = some (Reg.one 0x400 [Reg.f .rw 31 16 0x3E8, Reg.f .rwl 11 0 0]) := by decide

/-- Outside START-UP and TEST, with DEVICE_ID changed or not, the register holds the new bits 31:16 beside the old rest. -/
theorem State.reg_writeOrdinary_deviceId {v : Word} (ho : s.rwlOpen = false) :
    (s.writeOrdinary 0x400 v).reg 0x400 = setBits (s.reg 0x400) 31 16 (getBits v 31 16) := by
  cases hd : rwlDiffers (Reg.one 0x400 [Reg.f .rw 31 16 0x3E8, Reg.f .rwl 11 0 0]) (s.reg 0x400) v with
  | false => rw [State.writeOrdinary_taken regRow_deviceId (.inr hd), State.reg_setReg_same, ho]; rfl
  | true =>
    rw [State.writeOrdinary_locked regRow_deviceId ho hd, State.refusedWrite_frame _ _ (by decide),
      State.reg_setReg_same]
    rfl

/-- Settles O11: a write to CHIP or FC is one of the three cases of `writeOrdinary`, and an access to a closed block is
left unanswered. -/
theorem registerWrites : Obligations.RegisterWrites := by
  refine ⟨fun off v s r h ha h8 hr hl => ?_, fun off v s r h ha h8 hr ho hd => ?_, fun off v s h ha h8 hr => ?_,
    fun v s ho => ?_, fun off n w s hw h hn => ?_⟩
  · exact ⟨_, exec_registerWrite_low h ha h8, State.writeOrdinary_taken hr hl⟩
  · refine ⟨_, exec_registerWrite_low (by omega) ha h8, ?_⟩
    rw [State.writeOrdinary_locked hr ho hd]
    have hs := State.refusedWrite_source (s := s.setReg off.toNat (writeWord r false (s.reg off.toNat) v)) off.toNat
    have h1 := (hs 0xF801).trans (if_pos rfl)
    have hdet : off.toNat % 2 ^ 26 = off.toNat := Nat.mod_eq_of_lt off.isLt
    refine ⟨fun o hlt => ?_, congrArg SourceRec.cause h1, congrArg SourceRec.cls h1, ?_, fun x hx => (hs x).trans (if_neg hx)⟩
    · rw [State.refusedWrite_frame _ _ (faultRegister_chip hlt), State.reg_setReg]
      split
      · next e => rw [e]
      · rfl
    · exact (congrArg SourceRec.detail h1).trans (by rw [hdet]; rfl)
  · exact ⟨_, exec_registerWrite_low h ha h8, State.writeOrdinary_none hr⟩
  · refine ⟨_, exec_registerWrite_low (off := 0x400) (by decide) (by decide) (by decide), ?_⟩
    have e : (s.writeOrdinary (0x400 : Offset).toNat v).reg 0x400 = _ := State.reg_writeOrdinary_deviceId ho
    have hv := v.isLt
    simp only [State.fld, e]
    constructor
    · exact getBits_setBits_ne _ _ _ _ _ _ (by decide) (by decide) (by decide) (by decide)
    · rw [getBits_setBits_same _ _ _ _ (by decide) (by decide)]
      simp only [getBits]
      omega
  · exact ⟨_, by rw [exec_misaligned_eq hn, State.closed_sealed hw h]; rfl, rfl⟩

/-- Refutes O8: a store of registers that lists PMC_RD_TS at its reset value, which no run reaches, is not the same store
after a read of PMC_RD_TS, because the read writes the register back and so takes the entry out. What the store reads as
is unchanged; the statement asks that `regs` itself be. -/
theorem not_registerReads : ¬ Obligations.RegisterReads := by
  unfold Obligations.RegisterReads
  rintro ⟨-, -, -, hTs⟩
  let s : State := { State.reset with regs := [(0x2FF0000, 0)] }
  have hRead : exec (.registerReadClear 0x2FF0000) s = .next (s.hostRead 0x2FF0000) := rfl
  have hLost : (s.hostRead 0x2FF0000).regs = [] := by decide
  obtain ⟨t, e, -, hKept, -⟩ := hTs s rfl
  obtain rfl := Host.Outcome.next.inj (hRead.symm.trans e)
  exact absurd (hLost.symm.trans hKept) (by decide)

end Sys2Proof.Machine
end

section
/-! PROOFS. What a fault leaves of the injection logic. -/

namespace Sys2Proof.Machine

variable {s t u : State}

/-! ### What a fault leaves of the injection logic (R455, R456)

The reactions to a fault, the safe state among them, move neither the state of the logic nor what it counts and holds, and
they take a firing out of `injNext` only once it has shown. -/

/-- From `s` to `t` the injection logic stands as it was, and a firing that has shown does not wait again. -/
structure KeepsFiring (s t : State) : Prop where
  inj   : t.fc.inj = s.fc.inj
  fired : t.fc.injFired = s.fc.injFired
  held  : t.fc.injHeld = s.fc.injHeld
  line  : t.fc.injLine = s.fc.injLine
  shown : s.fc.injNext = none → t.fc.injNext = none

theorem KeepsFiring.trans (h : KeepsFiring s t) (k : KeepsFiring t u) : KeepsFiring s u :=
  ⟨k.inj.trans h.inj, k.fired.trans h.fired, k.held.trans h.held, k.line.trans h.line, k.shown ∘ h.shown⟩

theorem KeepsFiring.of_fc (h : t.fc = s.fc) : KeepsFiring s t := by constructor <;> simp [h]

theorem KeepsFiring.refl : KeepsFiring s s := .of_fc rfl

theorem KeepsFiring.moves {ps : List StatePart} (h : Moves ps s t) (hp : .fc ∉ ps) : KeepsFiring s t :=
  .of_fc (h.same .fc hp)

theorem State.record_fc (src : Nat) (cls : FaultClass) (flags : Nat) :
    ∃ l, (s.record src cls flags).fc = { s.fc with records := l } := by
  have hCell : s.recordCell.1.fc = s.fc := State.recordCell_moves.same .fc (by decide)
  unfold State.record
  dsimp -proj only
  split
  · exact ⟨_, rfl⟩
  · split
    · exact ⟨_, rfl⟩
    · split
      · exact ⟨s.fc.records, hCell⟩
      · simp only [hCell]
        exact ⟨_, rfl⟩

/-- What latching writes in the collector: the record of the source, the firing that has shown, and the queue of records. -/
theorem State.latchCore_fc (src : Nat) (cls : FaultClass) (detail : Nat) (live threshold safe : Bool) :
    ∃ l, (s.latchCore src cls detail live threshold safe).fc = { s.fc with
      src := Tbl.put sourceDefault s.fc.src src (latched (s.source src) s cls detail live)
      injNext := if s.fc.injNext = some src then none else s.fc.injNext
      records := l } := by
  unfold State.latchCore
  dsimp -proj only
  rw [State.irq_fc]
  split
  · exact State.record_fc _ _ _
  · exact ⟨_, rfl⟩

theorem State.latchCore_keepsFiring (src : Nat) (cls : FaultClass) (detail : Nat) (live threshold safe : Bool) :
    KeepsFiring s (s.latchCore src cls detail live threshold safe) := by
  obtain ⟨l, h⟩ := State.latchCore_fc (s := s) src cls detail live threshold safe
  constructor <;> simp +contextual [h]

theorem State.setReacting_keepsFiring (b : Bool) : KeepsFiring s (s.setReacting b) := ⟨rfl, rfl, rfl, rfl, id⟩

theorem State.raiseErrS_keepsFiring : KeepsFiring s s.raiseErrS := ⟨rfl, rfl, rfl, rfl, id⟩

theorem State.abortJoint_keepsFiring (cause : Nat) : KeepsFiring s (s.abortJoint cause) := by
  unfold State.abortJoint
  split
  · exact .refl
  · exact ((KeepsFiring.moves State.disarmJoint_moves (by decide)).trans
      (.moves State.showAbort_moves (by decide))).trans (State.latchCore_keepsFiring _ _ _ _ _ _)

theorem State.markSafe_keepsFiring : KeepsFiring s s.markSafe :=
  (KeepsFiring.moves State.endPinTest_moves (by decide)).trans ⟨rfl, rfl, rfl, rfl, id⟩

theorem State.enterSafe_keepsFiring (src cause : Nat) : KeepsFiring s (s.enterSafe src cause) := by
  unfold State.enterSafe
  split
  · exact .refl
  · dsimp -proj only
    have hMark : KeepsFiring s (s.showSafe src cause).markSafe :=
      (KeepsFiring.moves State.showSafe_moves (by decide)).trans State.markSafe_keepsFiring
    have hStomp {x : State} : KeepsFiring x (x.endSwitches.stompPorts x.endSwitches.busyPorts) :=
      (KeepsFiring.moves State.endSwitches_moves (by decide)).trans (.moves State.stompPorts_moves (by decide))
    have hAbort {x : State} : KeepsFiring x ((x.pierPropagate src .d).abortJoint 4) :=
      (KeepsFiring.moves State.pierPropagate_moves (by decide)).trans (State.abortJoint_keepsFiring _)
    have hHalt {x : State} : KeepsFiring x ((List.range 16).foldl (fun s n => s.haltEngine n 3) x) :=
      .moves (ps := [.trestle]) (Moves.fold (fun _ _ => State.haltEngine_moves) .refl) (by decide)
    have hCap {x : State} : KeepsFiring x x.capSafe.overrideStarts :=
      (KeepsFiring.moves State.capSafe_moves (by decide)).trans (.moves State.overrideStarts_moves (by decide))
    exact (((hMark.trans hStomp).trans hAbort).trans hHalt).trans hCap

/-- Sources that name a pipeline are set apart, as in `State.react_source`. -/
theorem State.react_keepsFiring (src : Nat) (cls : FaultClass) (hp : pipeOfSource src = none ∨ cls ≠ .s) :
    KeepsFiring s (s.react src cls) := by
  unfold State.react
  cases cls with
  | d =>
    dsimp -proj only
    split
    · exact .moves State.pierPropagate_moves (by decide)
    · exact State.enterSafe_keepsFiring _ _
  | s =>
    have hp : pipeOfSource src = none := by simpa using hp
    rw [hp]
    dsimp -proj only
    split
    · exact .refl
    · split
      · exact State.raiseErrS_keepsFiring
      · exact State.raiseErrS_keepsFiring.trans (.moves State.pierPropagate_moves (by decide))
  | n => exact .refl

theorem State.decideFault_keepsFiring (src : Nat) (cls : FaultClass) (hp : pipeOfSource src = none ∨ cls ≠ .s) :
    KeepsFiring s (s.decideFault src cls) := by
  unfold State.decideFault
  split
  · exact State.react_keepsFiring _ _ hp
  · exact ⟨rfl, rfl, rfl, rfl, id⟩

/-- A fault is latched with some flags, and what follows leaves the injection logic alone. -/
theorem State.latchFault_after_latchCore (src : Nat) (cls : FaultClass) (detail : Nat) (live threshold : Bool)
    (hp : pipeOfSource src = none ∨ cls ≠ .s) :
    ∃ b c, KeepsFiring ((s.setReacting b).latchCore src cls detail live threshold c)
      (s.latchFault src cls detail live threshold) := by
  have hReact (x : State) (quiet : Prop) [Decidable quiet] :
      KeepsFiring x (if quiet then x else x.decideFault src cls) := by
    split
    · exact .refl
    · exact State.decideFault_keepsFiring _ _ hp
  exact ⟨_, _, ((KeepsFiring.moves State.haltFor_moves (by decide)).trans (hReact _ _)).trans
    (State.setReacting_keepsFiring _)⟩

theorem State.latchFault_keepsFiring (src : Nat) (cls : FaultClass) (detail : Nat) (live threshold : Bool)
    (hp : pipeOfSource src = none ∨ cls ≠ .s) : KeepsFiring s (s.latchFault src cls detail live threshold) := by
  obtain ⟨b, c, h⟩ := State.latchFault_after_latchCore (s := s) src cls detail live threshold hp
  exact ((State.setReacting_keepsFiring b).trans (State.latchCore_keepsFiring _ _ _ _ _ _)).trans h

/-- The firing that waits at a source has shown once a fault of the source is latched (R456). -/
theorem State.latchFault_injNext (src : Nat) (cls : FaultClass) (detail : Nat) (live threshold : Bool)
    (hp : pipeOfSource src = none ∨ cls ≠ .s) (hn : s.fc.injNext = some src) :
    (s.latchFault src cls detail live threshold).fc.injNext = none := by
  obtain ⟨b, c, h⟩ := State.latchFault_after_latchCore (s := s) src cls detail live threshold hp
  obtain ⟨l, hl⟩ := State.latchCore_fc (s := s.setReacting b) src cls detail live threshold c
  exact h.shown (by rw [hl]; exact if_pos hn)

theorem State.refusedWrite_keepsFiring (off : Nat) : KeepsFiring s (s.refusedWrite off) :=
  State.latchFault_keepsFiring _ _ _ _ _ (.inr (by decide))

end Sys2Proof.Machine
end

section
/-! PROOFS. The commands of the injection logic, by the state that they meet. -/

namespace Sys2Proof.Machine

variable {s t u : State}

/-! ### The keys and the configuration of the injection logic (R455, R463) -/

/-- FC_INJ_STATUS shows the state that the logic has moved to. -/
theorem State.setInj_code (i : InjState) : (s.setInj i).fld 0x10004C 1 0 = i.code := by
  unfold State.setInj
  rw [State.fld_setFld_same _ _ _ _ _ (by decide) (by decide)]
  cases i <;> rfl

theorem State.setInj_reg (i : InjState) {o : Nat} (h : o ≠ 0x10004C) : (s.setInj i).reg o = s.reg o :=
  State.reg_setFld_ne _ _ _ _ _ _ h

/-- The logic arms, with no occurrence counted yet. -/
def State.arm (s : State) : State :=
  (({ s with fc := { s.fc with injFired := 0 } }).setInj .armed).setFld 0x10004C 7 4 0

theorem State.arm_moves : Moves [.regs, .fc] s s.arm :=
  .step State.setFld_moves (by decide) (.step State.setInj_moves (by decide) (.fc (by decide) .refl))

theorem State.arm_code : s.arm.fld 0x10004C 1 0 = InjState.code .armed :=
  (State.fld_setFld_ne _ _ _ _ _ _ _ _ (by decide) (by decide) (by decide) (by decide)).trans (State.setInj_code _)

theorem State.arm_fired : s.arm.fld 0x10004C 7 4 = 0 := State.fld_setFld_same _ _ _ _ _ (by decide) (by decide)

theorem State.arm_reg {o : Nat} (h : o ≠ 0x10004C) : s.arm.reg o = s.reg o :=
  (State.reg_setFld_ne _ _ _ _ _ _ h).trans (State.setInj_reg _ h)

/-- The second key does not apply: the logic is IDLE and shows the refusal. -/
def State.rejectKey (s : State) : State := ((s.setInj .idle).setBit 0x10004C 8 true).refusedWrite 0x100048

theorem State.rejectKey_inj : s.rejectKey.fc.inj = .idle := (State.refusedWrite_keepsFiring _).inj

theorem State.rejectKey_code : s.rejectKey.fld 0x10004C 1 0 = InjState.code .idle := by
  unfold State.rejectKey
  rw [(State.refusedWrite_frame _).fld (by decide), State.setBit,
    State.fld_setFld_ne _ _ _ _ _ _ _ _ (by decide) (by decide) (by decide) (by decide), State.setInj_code]

theorem State.rejectKey_flag : s.rejectKey.bit 0x10004C 8 = true :=
  ((State.refusedWrite_frame _).bit (by decide) _).trans (State.bit_setBit_same _ _ _ _ (by decide))

theorem State.rejectKey_reg {o : Nat} (hf : faultRegister o = false) (h : o ≠ 0x10004C) : s.rejectKey.reg o = s.reg o :=
  (State.refusedWrite_frame _ _ hf).trans ((State.reg_setFld_ne _ _ _ _ _ _ h).trans (State.setInj_reg _ h))

section
variable {v : Word}

theorem exec_key_refused (h : s.chip.mode ≠ .test ∧ s.chip.mode ≠ .service) :
    exec (.injectionKeyWrite v) s = .next (s.refusedWrite 0x100048) := if_pos h

theorem exec_key_first (hm : s.chip.mode = .test ∨ s.chip.mode = .service) (hi : s.fc.inj = .idle ∨ s.fc.inj = .done) :
    exec (.injectionKeyWrite v) s = .next (if getBits v 15 0 = 0x6A17 then s.setInj .keyed else s) := by
  have hm : ¬ (s.chip.mode ≠ .test ∧ s.chip.mode ≠ .service) := by tauto
  rcases hi with hi | hi <;> simp only [exec, execInjectionKeyWrite, if_neg hm, hi]

theorem exec_key_second (hm : s.chip.mode = .test ∨ s.chip.mode = .service) (hi : s.fc.inj = .keyed)
    (hv : getBits v 15 0 = 0x95E8) :
    exec (.injectionKeyWrite v) s = .next (if kindApplies s.injKind s.injSource then s.arm else s.rejectKey) := by
  have hm : ¬ (s.chip.mode ≠ .test ∧ s.chip.mode ≠ .service) := by tauto
  simp only [exec, execInjectionKeyWrite, if_neg hm, hi, hv, ne_eq, not_true_eq_false, if_false]
  split <;> rfl

theorem exec_key_disarms (hm : s.chip.mode = .test ∨ s.chip.mode = .service)
    (hi : (s.fc.inj = .keyed ∧ getBits v 15 0 ≠ 0x95E8) ∨ s.fc.inj = .armed) :
    exec (.injectionKeyWrite v) s = .next (s.setInj .idle) := by
  have hm : ¬ (s.chip.mode ≠ .test ∧ s.chip.mode ≠ .service) := by tauto
  rcases hi with ⟨hi, hv⟩ | hi
  · simp only [exec, execInjectionKeyWrite, if_neg hm, hi]
    exact if_pos hv
  · simp only [exec, execInjectionKeyWrite, if_neg hm, hi]

end

section
variable (a : Bool) (v : Word)

/-- The configuration takes its word: FC_INJ_ARG whole, FC_INJ_CTRL without its reserved bits, and neither for the other. -/
theorem State.writeInjConfig_reg :
    (a = true → (s.writeInjConfig a v).reg 0x100044 = v ∧ (s.writeInjConfig a v).reg 0x100040 = s.reg 0x100040)
      ∧ (a = false → (s.writeInjConfig a v).reg 0x100040 = setBits v 6 0 0
        ∧ (s.writeInjConfig a v).reg 0x100044 = s.reg 0x100044) := by
  cases a <;> simp [State.writeInjConfig, State.reg_setReg]

theorem State.writeInjConfig_fc : (s.writeInjConfig a v).fc = s.fc := State.writeInjConfig_moves.same .fc (by decide)

theorem State.writeInjConfig_reg_ne {o : Nat} (h : o ≠ 0x100040) (h' : o ≠ 0x100044) :
    (s.writeInjConfig a v).reg o = s.reg o := by
  cases a <;> simp [State.writeInjConfig, State.reg_setReg, h, h']

theorem exec_config_armed (hi : s.fc.inj = .armed) :
    exec (.injectionConfigWrite a v) s = .next (s.refusedWrite (if a then 0x100044 else 0x100040)) := by
  simp only [exec, execInjectionConfigWrite, hi]

theorem exec_config_keyed (hi : s.fc.inj = .keyed) :
    exec (.injectionConfigWrite a v) s = .next ((s.setInj .idle).writeInjConfig a v) := by
  simp only [exec, execInjectionConfigWrite, hi]

theorem exec_config_open (hi : s.fc.inj = .idle ∨ s.fc.inj = .done) :
    exec (.injectionConfigWrite a v) s = .next (s.writeInjConfig a v) := by
  rcases hi with hi | hi <;> simp only [exec, execInjectionConfigWrite, hi]

end

/-! ### A firing (R455, R456) -/

/-- The logic counts the occurrence that it fires, and shows it as the one whose failure is to come. -/
def State.countFiring (s : State) : State :=
  (({ s with fc := { s.fc with
      injFired := s.fc.injFired + 1, injNext := some s.injSource, injKind := s.injKind
      injQuiet := decide (s.chip.mode = DevState.test) && s.bit 0x100040 7
      injHeld := if s.injKind = 3 ∨ s.injKind = 4 then some s.injSource else none
      injLine := decide (s.injKind = 4) } }).setInj
    (if s.injCount ≤ s.fc.injFired + 1 then .done else .armed)).setFld 0x10004C 7 4 (s.fc.injFired + 1)

theorem State.countFiring_moves : Moves [.regs, .fc] s s.countFiring :=
  .step State.setFld_moves (by decide) (.step State.setInj_moves (by decide) (.fc (by decide) .refl))

/-- What the logic holds once it has counted a firing of kind `k`. -/
structure Fired (s t : State) (held : Option Nat) (line : Bool) : Prop where
  fired : t.fc.injFired = s.fc.injFired + 1
  inj   : t.fc.inj = if s.injCount ≤ s.fc.injFired + 1 then .done else .armed
  held  : t.fc.injHeld = held
  line  : t.fc.injLine = line

theorem State.countFiring_fired :
    Fired s s.countFiring (if s.injKind = 3 ∨ s.injKind = 4 then some s.injSource else none) (decide (s.injKind = 4)) :=
  ⟨rfl, rfl, rfl, rfl⟩

/-- What a source makes of the firing leaves the count of it as it is. -/
theorem Fired.keeps {held : Option Nat} {line : Bool} (h : Fired s t held line) (k : KeepsFiring t u) :
    Fired s u held line :=
  ⟨k.fired.trans h.fired, k.inj.trans h.inj, k.held.trans h.held, k.line.trans h.line⟩

/-- The logic fires when it is ARMED, holds nothing, and no firing waits at the source. -/
def State.fires (s : State) : Prop := s.fc.inj = .armed ∧ s.fc.injHeld = none ∧ s.injects s.injSource = none

theorem exec_fire (h : s.fires) :
    exec .injectionFire s = .next (if s.injKind = 3 then s.countFiring.levelStart s.injSource
      else if s.injKind = 4 then s.countFiring.latchLive s.injSource (Config.lineClass s.injSource)
      else if waitsForCheck s.injSource then s.countFiring
      else s.countFiring.fireNow s.injSource s.injKind) := by
  obtain ⟨hi, hh, hs⟩ := h
  have hn : ¬ (s.fc.inj ≠ .armed ∨ s.fc.injHeld.isSome ∨ (s.injects s.injSource).isSome) := by simp [hi, hh, hs]
  simp only [exec, execInjectionFire, if_neg hn]
  rfl

theorem exec_fire_blocked (h : s.fc.inj ≠ .armed ∨ s.fc.injHeld.isSome = true ∨ (s.injects s.injSource).isSome = true) :
    exec .injectionFire s = .next s := if_pos h

/-- A live condition that was not live is latched with LIVE (R428). -/
theorem State.latchLive_eq {src : Nat} {cls : FaultClass} {detail : Nat} (h : (s.source src).live = false) :
    s.latchLive src cls detail = s.latchFault src cls detail true := by simp [State.latchLive, h]

/-- The record of a source shows a persistent condition of a class. -/
def SourceRec.ShowsLive (x : SourceRec) (cls : FaultClass) : Prop := x.cause = true ∧ x.live = true ∧ x.cls = cls

theorem State.latchFault_same (src : Nat) (cls : FaultClass) (detail : Nat) (live threshold : Bool)
    (hx : src ≠ srcChip 0 3 ∨ cls ≠ .d) (hp : pipeOfSource src = none ∨ cls ≠ .s) :
    (s.latchFault src cls detail live threshold).source src = latched (s.source src) s cls detail live :=
  (State.latchFault_source _ _ _ _ _ _ hx hp).trans (if_pos rfl)

theorem State.latchLive_shows {src : Nat} {cls : FaultClass} {detail : Nat} (h : (s.source src).live = false)
    (hx : src ≠ srcChip 0 3 ∨ cls ≠ .d) (hp : pipeOfSource src = none ∨ cls ≠ .s) :
    ((s.latchLive src cls detail).source src).ShowsLive cls := by
  rw [State.latchLive_eq h, State.latchFault_same _ _ _ _ _ hx hp]
  exact ⟨rfl, rfl, rfl⟩

theorem State.latchLive_keepsFiring {src : Nat} {cls : FaultClass} {detail : Nat}
    (hp : pipeOfSource src = none ∨ cls ≠ .s) : KeepsFiring s (s.latchLive src cls detail) := by
  unfold State.latchLive
  split
  · exact .refl
  · exact State.latchFault_keepsFiring _ _ _ _ _ hp

/-- The condition of a temperature sensor starts as a class-D fault (R455, R526). -/
theorem State.levelStart_sensor {src : Nat} (hb : chipBlock src = 0x15) :
    s.levelStart src = s.latchLive src .d (unsignedBits (s.pwr.temps.getD (src % 64) 0) 16) := by
  simp [State.levelStart, hb]

theorem State.levelEnd_sensor {src : Nat} (hb : chipBlock src = 0x15) : s.levelEnd src = s.endLive src := by
  simp [State.levelEnd, hb]

theorem sensor_ne_joint {src : Nat} (hb : chipBlock src = 0x15) : src ≠ srcChip 0 3 := by
  rintro rfl; exact absurd hb (by decide)

/-- A failing check outside the chip level is reported at once (R526). -/
theorem State.fireNow_check {src kind : Nat} (hs : src < 0xF800) (hk : kind ≠ 0) :
    s.fireNow src kind = s.latchFault src (injectedClass src) := by
  simp [State.fireNow, hs, hk]

/-- An inverted bit outside the chip level is corrected at once (R526). -/
theorem State.fireNow_flip {src : Nat} (hs : src < 0xF800) : s.fireNow src 0 = s.corrected src 1 := by
  simp [State.fireNow, hs]

theorem State.countFiring_injects (hk : s.injKind = 0) : s.countFiring.injects s.injSource = some 0 := by
  have hn : s.countFiring.fc.injNext = some s.injSource := rfl
  have hq : s.countFiring.fc.injKind = 0 := hk
  have hh : s.countFiring.fc.injHeld = none := State.countFiring_fired.held.trans (by simp [hk])
  simp [State.injects, hn, hq, hh]

/-- The correction of a bit that a firing has inverted ends the firing. -/
theorem State.corrected_flip {src : Nat} (h : s.injects src = some 0) :
    s.corrected src 1 = (s.takeFiring src).setCorrections src ((List.replicate (min 1 ((correctedRule src).1 + 1)) s.now
      ++ (s.corrections src).filter (fun t => decide (s.now < t + (correctedRule src).2))).take
        ((correctedRule src).1 + 1)) := by
  have hw : ¬ (1 = 0 ∨ s.injects src = some 1 ∨ s.injects src = some 2) := by simp [h]
  simp only [State.corrected, if_neg hw]
  rfl

theorem State.corrected_flip_head {src : Nat} (h : s.injects src = some 0) :
    ((s.corrected src 1).corrections src).head? = some s.now := by
  rw [State.corrected_flip h]
  simp [State.corrections, State.setCorrections, Tbl.get_put]

theorem State.corrected_flip_keepsFiring {src : Nat} (h : s.injects src = some 0) :
    KeepsFiring s (s.corrected src 1) := by
  rw [State.corrected_flip h]
  exact ⟨rfl, rfl, rfl, rfl, fun hn => by simp [State.setCorrections, State.takeFiring, hn]⟩

theorem State.corrected_flip_injNext {src : Nat} (h : s.injects src = some 0) (hn : s.fc.injNext = some src) :
    (s.corrected src 1).fc.injNext = none := by
  rw [State.corrected_flip h]
  simp [State.setCorrections, State.takeFiring, hn]

theorem State.corrected_flip_src {src : Nat} (h : s.injects src = some 0) : (s.corrected src 1).fc.src = s.fc.src := by
  rw [State.corrected_flip h]
  rfl

/-! ### The end of what an injection holds -/

/-- The logic lets go of what it holds. -/
def State.dropHeld (s : State) (src : Nat) : State :=
  { s with fc := { s.fc with injHeld := none, injNext := if s.fc.injNext = some src then none else s.fc.injNext } }

theorem exec_levelEnd {src : Nat} (h : s.fc.injHeld = some src) :
    exec .injectionLevelEnd s
      = .next (if s.fc.injLine then (s.dropHeld src).endLive src else (s.dropHeld src).levelEnd src) := by
  simp only [exec, execInjectionLevelEnd, h]
  rfl

theorem State.endLive_dropHeld_source (src x : Nat) :
    ((s.dropHeld src).endLive src).source x = if x = src then { s.source src with live := false } else s.source x := by
  unfold State.endLive
  exact Tbl.get_put _ _ _ _ _

theorem State.endLive_dropHeld_moves (src : Nat) : Moves [.fc] s ((s.dropHeld src).endLive src) :=
  .step State.endLive_moves (by decide) (.fc (by decide) .refl)

end Sys2Proof.Machine
end

section
/-! PROOFS. The commands of the guard units and the writes of user fields, by the state that they meet. -/

namespace Sys2Proof.Machine

variable {s : State}

/-! ### Guard units (R419 to R421, R425) -/

section
variable (u : Fin 16)

theorem faultRegister_guard {k : Nat} (h : k < 0x40) : faultRegister (guOff u + k) = false := by
  have := u.isLt
  have hNone : ∀ c : Nat, c < 0x600000 → ¬ guOff u + k = c := fun c hc => by unfold guOff; omega
  have hAbove : ¬ guOff u + k < 0x418100 := by unfold guOff; omega
  simp only [faultRegister, hNone, hAbove, Nat.reduceLT, decide_false, Bool.and_false, Bool.or_self]

/-- A unit takes a start from the host when the host owns it and it is not BUSY (R421). -/
theorem State.guRefuses_eq : s.guRefuses (guOff u) = (!s.guHosts u || decide (s.fld (guOff u + 8) 31 30 = 1)) := by
  have hu : (guOff u - 0x600000) / 0x40 = u := by simp [guOff]
  simp only [State.guRefuses, hu, State.guHosts]
  rfl

/-- The status word of a unit shows the state and the cause that its scan has ended or started with. -/
theorem State.guEnd_status {st cause : Nat} (hs : st < 4) (hc : cause < 4) :
    (s.guEnd u st cause).fld (guOff u + 8) 31 30 = st ∧ (s.guEnd u st cause).fld (guOff u + 8) 29 28 = cause := by
  simp only [State.guEnd, State.fld_setReg_same, getBits, BitVec.toNat_ofNat]
  omega

theorem State.guStart_refused {fw : Bool} (h : (if fw then 3 else 2) ≤ s.fld (guOff u) 17 16) :
    s.guStart u fw = s.guEnd u 3 3 := if_pos h

theorem State.guStart_busy {fw : Bool} (h : s.fld (guOff u) 17 16 < if fw then 3 else 2) :
    (s.guStart u fw).fld (guOff u + 8) 31 30 = 1 := by
  unfold State.guStart
  rw [if_neg (by omega)]
  exact (State.guEnd_status u (by decide) (by decide)).1

/-- A scan that starts has captured the window selection (R420). -/
theorem State.guStart_captures {fw : Bool} (h : s.fld (guOff u) 17 16 < if fw then 3 else 2) :
    Tbl.get oneWord (s.guStart u fw).ks.guSel u = s.reg 0x180 := by
  unfold State.guStart
  rw [if_neg (by omega)]
  exact (Tbl.get_put _ _ _ _ _).trans (if_pos rfl)

/-- A scan that has ended with its check value shows it, and is DONE (R419, R425). -/
theorem State.guDone_value (bs : List Byte) :
    let v := checkValue (s.guWidth u) (s.addr64 (guOff u + 0x10)) (s.addr64 (guOff u + 0x18)) (s.addr64 (guOff u + 0x20))
      (s.bit (guOff u) 24) (s.bit (guOff u) 23) (s.guFold u ++ bs)
    (s.guDone u bs).reg (guOff u + 0x38) = BitVec.ofNat 32 v
      ∧ (s.guDone u bs).reg (guOff u + 0x3C) = BitVec.ofNat 32 (v / 2 ^ 32)
      ∧ (s.guDone u bs).fld (guOff u + 8) 31 30 = 2 := by
  refine ⟨?_, ?_, (State.guEnd_status u (by decide) (by decide)).1⟩ <;>
    simp [State.guDone, State.guEnd, State.reg_setReg]

section
variable {v : Word}

theorem exec_scanStart_eq (hc : s.closed (guOff u) = false) :
    exec (.guScanStart u v none) s = .next (if s.guHosts u = false then s.refusedWrite (guOff u + 4)
      else if getBits v 0 0 = 1 then
        (if s.fld (guOff u + 8) 31 30 = 1 then s.refusedWrite (guOff u + 4) else s.guStart u false)
      else s) := by
  simp only [exec, execGuScanStart, hc, State.guRefuses_eq]
  cases s.guHosts u <;> by_cases hv : getBits v 0 0 = 1 <;> by_cases hb : s.fld (guOff u + 8) 31 30 = 1 <;> simp [hv, hb]

theorem exec_scanStart_closed (hc : s.closed (guOff u) = true) : exec (.guScanStart u v none) s = .next s := if_pos hc

theorem exec_scanStart_firmware (ws : List (Fin 16 × Word)) :
    exec (.guScanStart u v (some ws)) s = .next (s.guFirmware u ws (decide (getBits v 0 0 = 1))) := rfl

theorem State.guFirmware_refused {ws : List (Fin 16 × Word)} {start : Bool}
    (h : s.guHosts u = true ∨ s.fld (guOff u + 8) 31 30 = 1) : s.guFirmware u ws start = s := by
  rcases h with h | h <;> simp [State.guFirmware, h]

/-- The firmware writes the registers of its own unit that is not BUSY, and starts it. -/
theorem State.guFirmware_own {ws : List (Fin 16 × Word)} {start : Bool} (hh : s.guHosts u = false)
    (hb : s.fld (guOff u + 8) 31 30 ≠ 1) :
    s.guFirmware u ws start
      = let t := ws.foldl (fun s w => s.writeOrdinary (guOff u + 4 * w.1.val) w.2) s
        if start then t.guStart u true else t := by
  simp only [State.guFirmware, hh, hb, decide_false, Bool.or_self, Bool.false_eq_true, if_false]

/-- An abort by the unit's owner ends a scan under way (R421, R425). -/
theorem exec_scanAbort_owner {fw : Bool} (hc : fw = true ∨ s.closed (guOff u) = false) (hh : s.guHosts u = !fw) :
    exec (.guScanAbort u v fw) s
      = .next (if getBits v 1 1 = 1 ∧ s.fld (guOff u + 8) 31 30 = 1 then s.guEnd u 3 1 else s) := by
  have hv : getBits v 1 1 = 0 ∨ getBits v 1 1 = 1 := by have := getBits_lt v 1 1; omega
  have hc : (!fw && s.closed (guOff u)) = false := by rcases hc with h | h <;> simp [h]
  simp only [exec, execGuScanAbort, hc, hh]
  rcases hv with hv | hv <;> cases fw <;> by_cases hb : s.fld (guOff u + 8) 31 30 = 1 <;> simp [hv, hb]

theorem exec_scanAbort_host (hc : s.closed (guOff u) = false) (hh : s.guHosts u = false) :
    exec (.guScanAbort u v false) s = .next (s.refusedWrite (guOff u + 4)) := by
  simp [exec, execGuScanAbort, hc, hh]

theorem exec_scanAbort_closed (hc : s.closed (guOff u) = true) : exec (.guScanAbort u v false) s = .next s := by
  simp [exec, execGuScanAbort, hc]

theorem exec_scanAbort_notFirmwares (hh : s.guHosts u = true) : exec (.guScanAbort u v true) s = .next s := by
  simp [exec, execGuScanAbort, hh]

end

section
variable {d : Option (List Byte)} {bs : List Byte}

theorem exec_scanDone_idle (h : ¬ s.fld (guOff u + 8) 31 30 = 1) : exec (.guScanDone u d) s = .next s := if_pos h

theorem exec_scanDone_device (hb : s.fld (guOff u + 8) 31 30 = 1) (hs : s.fld (guOff u) 17 16 = 0) :
    exec (.guScanDone u d) s
      = .next (s.guDone u (s.guBytes u (s.addr64 (guOff u + 0x30)) (s.reg (guOff u + 0xC)).toNat)) := by
  simp [exec, execGuScanDone, hb, hs]

theorem exec_scanDone_read (hb : s.fld (guOff u + 8) 31 30 = 1) (hs : s.fld (guOff u) 17 16 ≠ 0) :
    exec (.guScanDone u (some bs)) s = .next (s.guDone u (sliceBytes bs 0 (s.reg (guOff u + 0xC)).toNat)) := by
  simp [exec, execGuScanDone, hb, hs]

theorem exec_scanDone_unread (hb : s.fld (guOff u + 8) 31 30 = 1) (hs : s.fld (guOff u) 17 16 ≠ 0) :
    exec (.guScanDone u none) s = .next (if s.fld (guOff u) 17 16 = 1 then s.dmaErr.guEnd u 3 2 else s) := by
  simp only [exec, execGuScanDone, hb, hs, ne_eq, not_true_eq_false, if_false]
  split <;> rfl

/-- A scan that could not read host memory leaves DMA_ERR set (R399, R420). -/
theorem State.guEnd_dmaErr_bit : (s.dmaErr.guEnd u 3 2).bit 0x400004 16 = true := by
  have hne : (0x400004 : Nat) ≠ guOff u + 8 := by simp [guOff]; omega
  unfold State.guEnd
  rw [State.bit_setReg_ne _ _ _ _ _ hne]
  exact State.bit_setBit_same _ _ _ _ (by decide)

end
end

/-! ### User fields (R501, R505) -/

/-- The bits of the user field of a quantity (R501). -/
def userMask (k : Fin 4) : Word := if k = 2 then 0x1FF else if k = 3 then 0xFF else 0x1F

theorem exec_calibration_open {off : Offset} {v : Word} (hc : s.closed off.toNat = false) :
    exec (.calibrationWrite off v) s = .next (s.writeCalibration off.toNat v) := by
  simp [exec, execCalibrationWrite, hc]

theorem State.flagClamp_reg (k : Nat) (c : Bool) {o : Nat} (hf : faultRegister o = false) (h : o ≠ 0x1010) :
    (s.flagClamp k c).reg o = s.reg o := by
  unfold State.flagClamp
  split
  · exact (State.latchFault_frame _ _ _ _ _ (by decide) _ hf).trans (State.reg_setFld_ne _ _ _ _ _ _ h)
  · rfl

theorem State.flagClamp_chip (k : Nat) (c : Bool) : (s.flagClamp k c).chip = s.chip := by
  unfold State.flagClamp
  split
  · exact State.latchFault_n_chip _ _ _ _ (by decide)
  · rfl

theorem State.flagClamp_not (k : Nat) : s.flagClamp k false = s := rfl

/-- A clamped quantity is flagged: its CLAMPED bit, and a class-N fault of CHIP element 2 (R501). -/
theorem State.flagClamp_flags {k : Nat} (hk : k < 32) {c : Bool} (hc : c = true) :
    ((s.flagClamp k c).source (srcChip 0 2)).cause = true ∧ ((s.flagClamp k c).source (srcChip 0 2)).cls = .n
      ∧ (s.flagClamp k c).bit 0x1010 k = true := by
  subst hc
  have hShows : ((s.flagClamp k true).source (srcChip 0 2)).ShowsN := State.latchFault_n_shows _ _ _ _
  exact ⟨hShows.1, hShows.2, ((State.latchFault_frame _ _ _ _ _ (by decide)).bit (by decide) _).trans
    (State.bit_setBit_same _ _ _ _ hk)⟩

theorem State.writeCalibration_user (k : Fin 4) (v : Word) (ho : s.rwlOpen = true) :
    s.writeCalibration (0x1000 + 4 * k.val) v
      = (s.setReg (0x1000 + 4 * k.val) (v &&& userMask k)).flagClamp k
          ((s.setReg (0x1000 + 4 * k.val) (v &&& userMask k)).calClamps k) := by
  fin_cases k <;> simp [State.writeCalibration, userMask, ho]

theorem State.writeCalibration_locked (k : Fin 4) (v : Word) (ho : s.rwlOpen = false)
    (hd : s.reg (0x1000 + 4 * k.val) ≠ v &&& userMask k) :
    s.writeCalibration (0x1000 + 4 * k.val) v = s.refusedWrite (0x1000 + 4 * k.val) := by
  fin_cases k <;> simp_all [State.writeCalibration, State.writeLocked, userMask]

/-- The asymmetry that a written word stands for is out of range. -/
def asymClamps (v : Word) : Bool := clampInt (signedBits v.toNat 32) (-asymMax) asymMax ≠ signedBits v.toNat 32

theorem State.writeCalibration_port {o : Nat} (v : Word) (h : 0x2000 ≤ o) (h' : o < 0x3000) (ha : o % 4 = 0) :
    s.writeCalibration o v = (s.setReg o v).flagClamp 4 (asymClamps v) := by
  have hUser : ¬ (o = 0x1000 ∨ o = 0x1004 ∨ o = 0x1008 ∨ o = 0x100C) := by omega
  have hPort : 0x2000 + (o - 0x2000) / 4 * 4 = o := by omega
  simp only [State.writeCalibration, if_neg hUser, if_pos (And.intro h (And.intro h' ha)), State.portAsym, hPort,
    State.asymAt, State.reg_setReg_same]
  rfl

theorem State.writeCalibration_pier {o : Nat} (n : Four) (v : Word) (h : o = 0x2400024 + n.val * 0x100) :
    s.writeCalibration o v = (s.setReg o v).flagClamp 5 (asymClamps v) := by
  have hUser : ¬ (o = 0x1000 ∨ o = 0x1004 ∨ o = 0x1008 ∨ o = 0x100C) := by omega
  have hPort : ¬ (0x2000 ≤ o ∧ o < 0x3000 ∧ o % 4 = 0) := by omega
  have hCal : isCalibration o = true := by
    subst h; fin_cases n <;> decide
  have hPier : 0x2400024 + (o - 0x2400000) / 0x100 * 0x100 = o := by omega
  simp only [State.writeCalibration, if_neg hUser, if_neg hPort, if_pos hCal, State.pierAsym, hPier,
    State.asymAt, State.reg_setReg_same]
  rfl

theorem State.writeCalibration_none {o : Nat} (v : Word) (hc : isCalibration o = false)
    (hp : ¬ (0x2000 ≤ o ∧ o < 0x3000 ∧ o % 4 = 0)) : s.writeCalibration o v = s := by
  have hUser : ¬ (o = 0x1000 ∨ o = 0x1004 ∨ o = 0x1008 ∨ o = 0x100C) := by
    rintro (rfl | rfl | rfl | rfl) <;> exact absurd hc (by decide)
  simp only [State.writeCalibration, if_neg hUser, if_neg hp, hc]
  rfl

/-- A written asymmetry is kept, the chip is as it was, and one out of range is flagged. -/
theorem State.asymWrite_spec {k o : Nat} (v : Word) (hk : k < 32) (hf : faultRegister o = false) (h : o ≠ 0x1010) :
    ((s.setReg o v).flagClamp k (asymClamps v)).reg o = v
      ∧ ((s.setReg o v).flagClamp k (asymClamps v)).chip = s.chip
      ∧ (clampInt (signedBits v.toNat 32) (-asymMax) asymMax ≠ signedBits v.toNat 32 →
        (((s.setReg o v).flagClamp k (asymClamps v)).source (srcChip 0 2)).cause = true
          ∧ (((s.setReg o v).flagClamp k (asymClamps v)).source (srcChip 0 2)).cls = .n
          ∧ ((s.setReg o v).flagClamp k (asymClamps v)).bit 0x1010 k = true) :=
  ⟨(State.flagClamp_reg _ _ hf h).trans (State.reg_setReg_same _ _ _), State.flagClamp_chip _ _,
    fun hv => State.flagClamp_flags hk (decide_eq_true hv)⟩

end Sys2Proof.Machine
end

section
/-! PROOFS. The injection logic, the guard units and the user fields together. -/

namespace Sys2Proof.Machine

/-- Settles O60: what each command does by the state it meets (`exec_key_…`, `exec_config_…`, `exec_fire`, `exec_levelEnd`,
`exec_scan…`, `exec_calibration_open`), and what each of those results holds. -/
theorem injectionGuardsAndCalibration : Obligations.InjectionGuardsAndCalibration := by
  refine ⟨?_, ?_, ?_, ?_, ?_, ?_, ?_, ?_, ?_, ?_, ?_, ?_, ?_, ?_, ?_, ?_, ?_, ?_, ?_, ?_, ?_, ?_, ?_, ?_, ?_, ?_, ?_, ?_, ?_, ?_,
    ?_, ?_, ?_, ?_, ?_, ?_, ?_, ?_, ?_⟩
  -- the keys
  · intro v s hm hi hv
    exact ⟨_, (exec_key_first hm hi).trans (by rw [if_pos hv]), rfl, State.setInj_code _, State.setInj_moves.only⟩
  · intro v s hm hi hv
    exact ⟨s, (exec_key_first hm hi).trans (by rw [if_neg hv]), rfl⟩
  · intro v s hm hi hv hk
    exact ⟨s.arm, (exec_key_second hm hi hv).trans (by rw [if_pos hk]), rfl, State.arm_code, rfl, State.arm_fired,
      State.arm_reg (by decide), State.arm_moves.only⟩
  · intro v s hm hi hv hk
    obtain ⟨hCause, hCls⟩ : (s.rejectKey.source (srcChip 0 1)).ShowsN := State.refusedWrite_shows _
    exact ⟨s.rejectKey, (exec_key_second hm hi hv).trans (by rw [if_neg (by simp [hk])]), State.rejectKey_inj,
      State.rejectKey_code, State.rejectKey_flag, hCause, hCls, State.rejectKey_reg (by decide) (by decide),
      State.refusedWrite_chip _⟩
  · intro v s hm hi
    exact ⟨_, exec_key_disarms hm hi, rfl, State.setInj_code _, State.setInj_moves.only⟩
  · intro v s ht hs
    obtain ⟨hCause, hCls⟩ := State.refusedWrite_shows (s := s) 0x100048
    exact ⟨_, exec_key_refused ⟨ht, hs⟩, (State.refusedWrite_keepsFiring _).inj, hCause, hCls, State.refusedWrite_chip _⟩
  -- the configuration
  · intro a v s hi
    obtain ⟨hCause, hCls⟩ := State.refusedWrite_shows (s := s) (if a then 0x100044 else 0x100040)
    exact ⟨_, exec_config_armed a v hi, (State.refusedWrite_keepsFiring _).inj.trans hi,
      State.refusedWrite_frame _ _ (by decide), State.refusedWrite_frame _ _ (by decide), hCause, hCls⟩
  · intro a v s hi
    obtain ⟨hArg, hCtrl⟩ := State.writeInjConfig_reg (s := s.setInj .idle) a v
    refine ⟨_, exec_config_keyed a v hi, congrArg FcState.inj (State.writeInjConfig_fc a v), ?_, fun h => ?_, fun h => ?_,
      (State.setInj_moves.trans (State.writeInjConfig_moves.mono (by decide))).only⟩
    · rw [State.fld, State.writeInjConfig_reg_ne a v (by decide) (by decide)]
      exact State.setInj_code _
    · exact ⟨(hArg h).1, (hArg h).2.trans (State.setInj_reg _ (by decide))⟩
    · exact ⟨(hCtrl h).1, (hCtrl h).2.trans (State.setInj_reg _ (by decide))⟩
  · intro a v s hi
    obtain ⟨hArg, hCtrl⟩ := State.writeInjConfig_reg (s := s) a v
    exact ⟨_, exec_config_open a v hi, State.writeInjConfig_fc a v, hArg, hCtrl,
      (State.writeInjConfig_moves.mono (by decide)).only⟩
  · intro s hi
    exact ⟨_, if_pos hi, rfl, State.setInj_code _, State.setInj_moves.only⟩
  -- a firing
  · intro s hi hh hs h3 h4 hw
    have hNone : ¬ (s.injKind = 3 ∨ s.injKind = 4) := by tauto
    exact ⟨s.countFiring, (exec_fire ⟨hi, hh, hs⟩).trans (by rw [if_neg h3, if_neg h4, if_pos hw]), rfl, rfl, rfl, rfl,
      if_neg hNone, rfl, rfl, State.countFiring_moves.only⟩
  · intro s hi hh hs hk hw hb hp
    have hNone : ¬ (s.injKind = 3 ∨ s.injKind = 4) := by omega
    have hFired := State.countFiring_fired.keeps (State.latchFault_keepsFiring (s := s.countFiring) s.injSource
      (injectedClass s.injSource) 0 false false (.inl hp))
    have hRec := State.latchFault_same (s := s.countFiring) s.injSource (injectedClass s.injSource) 0 false false
      (.inl (by rintro h; rw [h] at hb; exact absurd hb (by decide))) (.inl hp)
    refine ⟨_, (exec_fire ⟨hi, hh, hs⟩).trans (by rw [if_neg (by omega), if_neg (by omega), if_neg (by simp [hw]),
      State.fireNow_check hb (by omega)]), hFired.fired, hFired.inj, hFired.held.trans (if_neg hNone), ?_, ?_, ?_⟩
    · exact congrArg SourceRec.cause hRec
    · exact congrArg SourceRec.cls hRec
    · exact State.latchFault_injNext _ _ _ _ _ (.inl hp) rfl
  · intro s hi hh hs hk hw hb
    have hWaits := State.countFiring_injects hk
    have hFired := State.countFiring_fired.keeps (State.corrected_flip_keepsFiring hWaits)
    exact ⟨_, (exec_fire ⟨hi, hh, hs⟩).trans (by rw [if_neg (by omega), if_neg (by omega), if_neg (by simp [hw]), hk,
      State.fireNow_flip hb]), hFired.fired, hFired.inj, State.corrected_flip_head hWaits,
      State.corrected_flip_injNext hWaits rfl, State.corrected_flip_src hWaits,
      (State.countFiring_moves.trans (State.corrected_moves.mono (by decide))).only⟩
  · intro s hi hh hs hk hl hj hp
    have hFired := State.countFiring_fired.keeps (State.latchLive_keepsFiring (s := s.countFiring)
      (cls := Config.lineClass s.injSource) (detail := 0) (.inl hp))
    obtain ⟨hCause, hLive, hCls⟩ := State.latchLive_shows (s := s.countFiring) (cls := Config.lineClass s.injSource)
      (detail := 0) hl (.inl hj) (.inl hp)
    exact ⟨_, (exec_fire ⟨hi, hh, hs⟩).trans (by rw [if_neg (by omega), if_pos hk]), hCause, hLive, hCls,
      hFired.held.trans (if_pos (.inr hk)), hFired.line.trans (decide_eq_true hk), hFired.fired, hFired.inj⟩
  · intro s hi hh hs hk hl hb
    have hFired := State.countFiring_fired.keeps (State.latchLive_keepsFiring (s := s.countFiring)
      (src := s.injSource) (cls := .d) (detail := unsignedBits (s.pwr.temps.getD (s.injSource % 64) 0) 16)
      (.inr (by decide)))
    obtain ⟨hCause, hLive, hCls⟩ := State.latchLive_shows (s := s.countFiring) (cls := .d)
      (detail := unsignedBits (s.pwr.temps.getD (s.injSource % 64) 0) 16) hl (.inl (sensor_ne_joint hb)) (.inr (by decide))
    exact ⟨_, (exec_fire ⟨hi, hh, hs⟩).trans (by rw [if_pos hk, State.levelStart_sensor hb]; rfl), hCause, hLive, hCls,
      hFired.held.trans (if_pos (.inl hk)), hFired.line.trans (decide_eq_false (by omega)), hFired.fired, hFired.inj⟩
  · intro s h
    exact ⟨s, exec_fire_blocked h, rfl⟩
  · intro s hi
    exact ⟨s, if_neg hi, rfl⟩
  -- the end of what an injection holds
  · intro s hh
    exact ⟨s, by simp only [exec, execInjectionLevelEnd, hh], rfl⟩
  · intro src s hh hl hb
    have hSrc := State.endLive_dropHeld_source (s := s) src
    exact ⟨_, (exec_levelEnd hh).trans (by rw [hl, State.levelEnd_sensor hb]; rfl), (hSrc src).trans (if_pos rfl), rfl,
      fun x hx => (hSrc x).trans (if_neg hx), (State.endLive_dropHeld_moves src).only⟩
  · intro src s hh hl
    have hSrc := State.endLive_dropHeld_source (s := s) src
    exact ⟨_, (exec_levelEnd hh).trans (by rw [if_pos hl]), (hSrc src).trans (if_pos rfl), rfl,
      fun x hx => (hSrc x).trans (if_neg hx), (State.endLive_dropHeld_moves src).only⟩
  -- guard units
  · intro u v s hc hv hh hb hs
    exact ⟨s.guStart u false, (exec_scanStart_eq u hc).trans (by simp [hh, hv, hb]), State.guStart_busy u hs,
      State.guStart_captures u hs, State.guStart_moves.only⟩
  · intro u v s hc hv hh hb hs
    obtain ⟨hState, hCause⟩ := State.guEnd_status (s := s) u (st := 3) (cause := 3) (by decide) (by decide)
    exact ⟨s.guEnd u 3 3, (exec_scanStart_eq u hc).trans (by simp [hh, hv, hb, State.guStart_refused u (fw := false) hs]),
      hState, hCause, State.guEnd_moves.only⟩
  · intro u v s hc h
    obtain ⟨hCause, hCls⟩ := State.refusedWrite_shows (s := s) (guOff u + 4)
    refine ⟨_, (exec_scanStart_eq u hc).trans ?_, (State.refusedWrite_n_moves _).same .ks (by decide), hCause, hCls,
      State.refusedWrite_frame _ _ (faultRegister_guard u (by decide))⟩
    rcases h with hh | ⟨hv, hb⟩
    · rw [if_pos hh]
    · rw [if_pos hv, if_pos hb, ite_self]
  · rintro u v s (hc | ⟨hh, hv⟩)
    · exact ⟨s, exec_scanStart_closed u hc, rfl⟩
    · cases hc : s.closed (guOff u) with
      | true => exact ⟨s, exec_scanStart_closed u hc, rfl⟩
      | false => exact ⟨s, (exec_scanStart_eq u hc).trans (by simp [hh, hv]), rfl⟩
  · intro u v ws s h
    exact ⟨s, (exec_scanStart_firmware u ws).trans (by rw [State.guFirmware_refused u h]), rfl⟩
  · intro u v s hh hb hv
    refine ⟨s.guStart u true, (exec_scanStart_firmware u []).trans (by rw [State.guFirmware_own u hh hb, hv]; rfl), ?_,
      fun hs => State.guStart_captures u hs, State.guStart_moves.only⟩
    split
    · next hs => exact State.guStart_busy u hs
    · next hs =>
      rw [State.guStart_refused u (fw := true) (Nat.le_of_not_lt hs)]
      exact (State.guEnd_status u (by decide) (by decide)).1
  · intro u v ws s hh hb hv
    exact ⟨_, (exec_scanStart_firmware u ws).trans (by rw [State.guFirmware_own u hh hb, hv]; rfl), rfl⟩
  · intro u v fw s hc hv hh hb
    obtain ⟨hState, hCause⟩ := State.guEnd_status (s := s) u (st := 3) (cause := 1) (by decide) (by decide)
    exact ⟨_, (exec_scanAbort_owner u hc hh).trans (by rw [if_pos ⟨hv, hb⟩]), hState, hCause, State.guEnd_moves.only⟩
  · intro u v s hc hh
    obtain ⟨hCause, hCls⟩ := State.refusedWrite_shows (s := s) (guOff u + 4)
    exact ⟨_, exec_scanAbort_host u hc hh, State.refusedWrite_frame _ _ (faultRegister_guard u (by decide)),
      (State.refusedWrite_n_moves _).same .ks (by decide), hCause, hCls⟩
  · rintro u v fw s (⟨rfl, hc⟩ | ⟨rfl, hh⟩ | ⟨hh, h⟩)
    · exact ⟨s, exec_scanAbort_closed u hc, rfl⟩
    · exact ⟨s, exec_scanAbort_notFirmwares u hh, rfl⟩
    · have hIdle : ¬ (getBits v 1 1 = 1 ∧ s.fld (guOff u + 8) 31 30 = 1) := by omega
      by_cases hc : fw = true ∨ s.closed (guOff u) = false
      · exact ⟨s, (exec_scanAbort_owner u hc hh).trans (by rw [if_neg hIdle]), rfl⟩
      · obtain ⟨rfl, hShut⟩ : fw = false ∧ s.closed (guOff u) = true := by simpa using hc
        exact ⟨s, exec_scanAbort_closed u hShut, rfl⟩
  · intro u d s hb hs
    obtain ⟨hLow, hHigh, hDone⟩ := State.guDone_value (s := s) u
      (s.guBytes u (s.addr64 (guOff u + 0x30)) (s.reg (guOff u + 0xC)).toNat)
    exact ⟨_, exec_scanDone_device u hb hs, hLow, hHigh, hDone, State.guDone_moves.only⟩
  · intro u bs s hb hs
    obtain ⟨hLow, hHigh, hDone⟩ := State.guDone_value (s := s) u (sliceBytes bs 0 (s.reg (guOff u + 0xC)).toNat)
    exact ⟨_, exec_scanDone_read u hb hs, hLow, hHigh, hDone, State.guDone_moves.only⟩
  · intro u s hb hs
    obtain ⟨hState, hCause⟩ := State.guEnd_status (s := s.dmaErr) u (st := 3) (cause := 2) (by decide) (by decide)
    exact ⟨_, (exec_scanDone_unread u hb (by omega)).trans (by rw [if_pos hs]), hState, hCause,
      State.guEnd_dmaErr_bit u, (State.dmaErr_moves.trans State.guEnd_moves).only⟩
  · rintro u d s (hb | ⟨rfl, hs⟩)
    · exact ⟨s, exec_scanDone_idle u hb, rfl⟩
    · by_cases hb : s.fld (guOff u + 8) 31 30 = 1
      · exact ⟨s, (exec_scanDone_unread u hb (by omega)).trans (by rw [if_neg (by omega)]), rfl⟩
      · exact ⟨s, exec_scanDone_idle u hb, rfl⟩
  -- user fields
  · intro k off v s hoff ho
    have hk := k.isLt
    refine ⟨_, exec_calibration_open (State.closed_low (by omega)), ?_⟩
    rw [hoff, State.writeCalibration_user k v ho]
    refine ⟨?_, State.flagClamp_flags (by omega), fun hc => ?_⟩
    · rw [State.flagClamp_reg _ _ (faultRegister_chip (by omega)) (by omega), State.reg_setReg_same]
      rfl
    · have hc : (s.setReg (0x1000 + 4 * k.val) (v &&& userMask k)).calClamps k = false := hc
      rw [hc, State.flagClamp_not]
      exact State.setReg_moves.only
  · intro k off v s hoff ho hd
    have hk := k.isLt
    obtain ⟨hCause, hCls⟩ := State.refusedWrite_shows (s := s) (0x1000 + 4 * k.val)
    refine ⟨_, (exec_calibration_open (State.closed_low (by omega))).trans
      (by rw [hoff, State.writeCalibration_locked k v ho hd]), ?_, hCause, hCls, State.refusedWrite_chip _⟩
    exact State.refusedWrite_frame _ _ (faultRegister_chip (by omega))
  · intro off v s h h' ha
    exact ⟨_, (exec_calibration_open (State.closed_low (by omega))).trans
      (by rw [State.writeCalibration_port v h h' ha]),
      State.asymWrite_spec v (by decide) (faultRegister_chip (by omega)) (by omega)⟩
  · intro n off v s hc hoff
    have hn := n.isLt
    refine ⟨_, (exec_calibration_open hc).trans (by rw [State.writeCalibration_pier n v hoff]),
      State.asymWrite_spec v (by decide) ?_ (by omega)⟩
    rw [hoff]
    fin_cases n <;> decide
  · rintro off v s (hc | ⟨hn, hp⟩)
    · exact ⟨s, if_pos hc, rfl⟩
    · cases hc : s.closed off.toNat with
      | true => exact ⟨s, if_pos hc, rfl⟩
      | false => exact ⟨s, (exec_calibration_open hc).trans (by rw [State.writeCalibration_none v hn hp]), rfl⟩

end Sys2Proof.Machine
end

section
/-! PROOFS. What a read of the state finds after an operation that leaves its part alone, and after a write of its table. -/

namespace Sys2Proof.Machine

variable {s : State}

section
variable {t : State} {ps : List StatePart} (h : Moves ps s t)
include h

theorem State.reg_moves (hp : .regs ∉ ps) (off : Nat) : t.reg off = s.reg off :=
  congrArg (Tbl.get resetWord · off) (h.same .regs hp)

theorem State.fld_moves (hp : .regs ∉ ps) (off hi lo : Nat) : t.fld off hi lo = s.fld off hi lo :=
  congrArg (getBits · hi lo) (State.reg_moves h hp off)

theorem State.bit_moves (hp : .regs ∉ ps) (off i : Nat) : t.bit off i = s.bit off i :=
  congrArg (fun n => decide (n = 1)) (State.fld_moves h hp off i i)

theorem State.counter_moves (hp : .counters ∉ ps) (off : Nat) : t.counter off = s.counter off :=
  congrArg (Tbl.get zeroNat · off) (h.same .counters hp)

theorem State.now_moves (hp : .time ∉ ps) : t.now = s.now := congrArg TimeState.tu (h.same .time hp)

theorem State.tx_moves (hp : .egr ∉ ps) (p : Nat) : t.tx p = s.tx p :=
  congrArg (fun e : EgrState => Tbl.get noTx e.tx p) (h.same .egr hp)

theorem State.aheadOf_moves (hp : .egr ∉ ps) (q : Nat) : t.aheadOf q = s.aheadOf q :=
  congrArg (fun e : EgrState => Tbl.get noEntries e.ahead q) (h.same .egr hp)

theorem State.rxFrame_moves (hp : .rx ∉ ps) (p : Nat) : t.rxFrame p = s.rxFrame p :=
  congrArg (fun x : RxState => Tbl.get noRx x.frames p) (h.same .rx hp)

theorem State.info_moves (hp : .rx ∉ ps) (d : Nat) : t.info d = s.info d :=
  congrArg (fun x : RxState => Tbl.get infoDefault x.info d) (h.same .rx hp)

theorem State.arrivals_moves (hp : .rx ∉ ps) (g : Nat) : t.arrivals g = s.arrivals g :=
  congrArg (fun x : RxState => Tbl.get noNats x.arrivals g) (h.same .rx hp)

theorem State.desc_moves (hp : .buf ∉ ps) (d : Nat) : t.desc d = s.desc d :=
  (congrArg (fun b : BufState => Tbl.get descDefault b.desc d) (h.same .buf hp) :)

theorem State.link_moves (hp : .buf ∉ ps) (c : Nat) : t.link c = s.link c :=
  (congrArg (fun b : BufState => Tbl.get linkDefault b.link c) (h.same .buf hp) :)

theorem State.headUse_moves (hp : .buf ∉ ps) (p : Nat) : t.headUse p = s.headUse p :=
  (congrArg (fun b : BufState => Tbl.get zeroNat b.head p) (h.same .buf hp) :)

theorem State.cellByte_moves (hp : .mem ∉ ps) (a : Nat) : t.cellByte a = s.cellByte a :=
  congrArg (Tbl.get cellByteDefault · a) (h.same .mem hp)

end

theorem State.tx_setTx (p q : Nat) (x : Option TxCopy) : (s.setTx p x).tx q = if q = p then x else s.tx q :=
  Tbl.get_put _ _ _ _ _

theorem State.aheadOf_setAhead (q r : Nat) (l : List QEntry) :
    (s.setAhead q l).aheadOf r = if r = q then l else s.aheadOf r := Tbl.get_put _ _ _ _ _

theorem State.rxFrame_setRx (p q : Nat) (x : Option RxFrame) : (s.setRx p x).rxFrame q = if q = p then x else s.rxFrame q :=
  Tbl.get_put _ _ _ _ _

theorem State.info_setInfo (d e : Nat) (x : FrameInfo) : (s.setInfo d x).info e = if e = d then x else s.info e :=
  Tbl.get_put _ _ _ _ _

theorem State.desc_setDesc (d e : Nat) (x : Desc) : (s.setDesc d x).desc e = if e = d then x else s.desc e :=
  Tbl.get_put _ _ _ _ _

theorem State.link_setLink (c k : Nat) (x : LinkWord) : (s.setLink c x).link k = if k = c then x else s.link k :=
  Tbl.get_put _ _ _ _ _

theorem State.headUse_setHeadUse (p q n : Nat) : (s.setHeadUse p n).headUse q = if q = p then n else s.headUse q :=
  Tbl.get_put _ _ _ _ _

theorem State.arrivals_setArrivals (g k : Nat) (l : List Nat) :
    (s.setArrivals g l).arrivals k = if k = g then l else s.arrivals k := Tbl.get_put _ _ _ _ _

end Sys2Proof.Machine
end

section
/-! PROOFS. Faults of class N and S of any source that names no pipeline, the ports' among them. -/

namespace Sys2Proof.Machine

variable {s : State}

theorem faultRegister_above {o : Nat} (h : 0x418100 ≤ o) : faultRegister o = false := by
  simp [faultRegister]; omega

/-- A fault whose reactions stay within some parts touches no other, beside what its latch does and the halt of an
engine (R123, R428). -/
theorem State.latchFault_halts_of {ps : List StatePart} (src : Nat) (cls : FaultClass) (detail : Nat) (live threshold : Bool)
    (hs : [.regs, .counters, .emitted, .freeCount, .fc, .buf, .trestle] ⊆ ps)
    (h : ∀ t : State, Moves ps t (t.decideFault src cls)) : Moves ps s (s.latchFault src cls detail live threshold) := by
  have hLatch (b c : Bool) : Moves ps s (((s.setReacting b).latchCore src cls detail live threshold c).haltFor src) :=
    .mono hs (.step State.haltFor_moves (by decide)
      (.step State.latchCore_moves (by decide) (State.setReacting_moves.mono (by decide))))
  unfold State.latchFault
  dsimp -proj only
  refine .step State.setReacting_moves (List.Subset.trans (by decide) hs) ?_
  split
  · exact hLatch _ _
  · exact (hLatch _ _).trans (h _)

theorem State.latchFault_n_halts (src detail : Nat) (live threshold : Bool) :
    Moves [.regs, .counters, .emitted, .freeCount, .fc, .buf, .trestle] s (s.latchFault src .n detail live threshold) :=
  State.latchFault_halts_of _ _ _ _ _ (List.Subset.refl _) fun _ => (State.decideFault_n_moves _).mono (by decide)

theorem State.latchFault_s_halts (src detail : Nat) (live threshold : Bool) (hp : pipeOfSource src = none) :
    Moves [.regs, .counters, .emitted, .freeCount, .fc, .buf, .trestle, .pierTx] s (s.latchFault src .s detail live threshold) :=
  State.latchFault_halts_of _ _ _ _ _ (by decide) fun _ => (State.decideFault_s_moves _ hp).mono (by decide)

/-! ### The source of a port (R427) -/

theorem macSource_span {p : Nat} (hp : p < 1024) : macSource p < 0xF800 := by
  unfold macSource srcSpan
  omega

theorem pipeOfSource_mac (p : Nat) : pipeOfSource (macSource p) = none := by
  have hBlock : macSource p / 0x40 % 64 = 0x13 + p / 16 % 4 := by
    unfold macSource srcSpan
    omega
  unfold pipeOfSource
  dsimp only
  rw [hBlock, if_neg (by omega), if_neg (by omega)]

end Sys2Proof.Machine
end

section
/-! PROOFS. What a nanosecond with no command leaves of the time-unit clock. -/

namespace Sys2Proof.Machine

variable {s : State}

/-- The vote rewrites copies and values of a base, and the clock counts on by itself (R441). -/
theorem State.voteBase_now (n : Nat) : (s.voteBase n).now = s.now := by
  have hCopies : ((List.range 3).foldl (fun (s : State) c => s.setCopyOff n c 0) s).now = s.now :=
    List.foldlRecOn (motive := fun t : State => t.now = s.now) _ _ rfl (fun _ h _ _ => h)
  unfold State.voteBase
  dsimp -proj only
  split
  · rfl
  · split
    · split
      · exact (State.now_moves State.corrected_moves (by decide)).trans hCopies
      · exact (State.now_moves State.corrected_moves (by decide)).trans hCopies
    · exact (State.now_moves State.latchFault_moves (by decide)).trans hCopies

theorem State.voteBases_now : s.voteBases.now = s.now := by
  unfold State.voteBases
  split
  · rfl
  · exact List.foldlRecOn (motive := fun t : State => t.now = s.now) _ _ rfl (fun _ h n _ => (State.voteBase_now n).trans h)

theorem tick_now : (tick s).now = s.now + 1 := by
  have hBases : ((List.range 4).foldl (fun s n =>
      s.setTb n { s.tb n with val := moveBase (s.tb n).val (tbStep (s.tb n)) }) s).now = s.now :=
    List.foldlRecOn (motive := fun t : State => t.now = s.now) _ _ rfl (fun _ h _ _ => h)
  exact congrArg (· + 1) hBases

/-- One cycle counts one nanosecond: nothing but the tick moves the clock (R37). -/
theorem State.cycle_now : s.cycle.now = s.now + 1 := by
  unfold State.cycle
  rw [tick_now, State.now_moves State.addEnergy_moves (by decide), State.now_moves State.countStarved_moves (by decide),
    State.now_moves State.countStarved_moves (by decide), State.now_moves State.countThresholds_moves (by decide),
    State.now_moves State.countStopped_moves (by decide), State.voteBases_now]

theorem step_idle (h : s.pending = []) : step s = .next s.idle := by simp [step, h]

/-- Settles O2: an empty queue is an idle step, which is a cycle outside OFF and nothing in OFF. -/
theorem anEmptyQueueIsOneNanosecond : Obligations.AnEmptyQueueIsOneNanosecond := by
  refine ⟨fun s hq hm => ?_, fun s hq hm => ?_⟩
  · have hCycle : s.idle = s.cycle := if_neg hm
    exact ⟨s.idle, step_idle hq, (State.idle_moves.same .pending (by decide)).trans hq, by rw [hCycle, State.cycle_now]⟩
  · exact (step_idle hq).trans (congrArg _ (if_pos hm))

end Sys2Proof.Machine
end

section
/-! PROOFS. Die-to-die links: what a replay counts, and where the traffic of a link that is taken out of use goes. -/

namespace Sys2Proof.Machine

variable {s : State}

/-! ### Corrections of an element (R24, R433) -/

/-- The corrections of an element after `n` more: those within its window, up to one more than its threshold. -/
theorem State.corrected_corrections (src n x : Nat) :
    (s.corrected src n).corrections x = if x = src then
      (List.replicate (min n ((correctedRule src).1 + 1)) s.now
        ++ (s.corrections src).filter (fun t => decide (s.now < t + (correctedRule src).2))).take ((correctedRule src).1 + 1)
    else s.corrections x := by
  unfold State.corrected
  dsimp -proj only
  split <;> exact Tbl.get_put _ _ _ _ _

/-! ### The sources of the links (R427, R433) -/

theorem d2dSource_chip (l : Fin 68) : 0xF800 ≤ d2dSource l := by revert l; decide

theorem pipeOfSource_d2d (l : Fin 68) : pipeOfSource (d2dSource l) = none := by revert l; decide

theorem correctedRule_d2d (l : Fin 68) : correctedRule (d2dSource l) = (16, 1000000) := by revert l; decide

theorem State.flitReplay_runs {l : Nat} (h : s.d2dRuns l = true) :
    s.flitReplay l = (s.corrected (d2dSource l) 1).count (cChip 4) 1 := if_pos h

/-! ### A link taken out of use (R18) -/

theorem State.d2dLink_setD2d (l j : Nat) (x : D2dLink) : (s.setD2d l x).d2dLink j = if j = l then x else s.d2dLink j :=
  Tbl.get_put _ _ _ _ _

/-- The link is out of use, and its count starts again; its traffic has not moved yet. -/
def State.d2dRetire (s : State) (l : Nat) : State :=
  (s.setD2d l { s.d2dLink l with failed := true }).setCorrections (d2dSource l) []

/-- The link whose traffic runs over link `l`. -/
def State.d2dOwner (s : State) (l : Nat) : Option Nat := if l < 64 then some l else s.d2dCarried l

/-- The spare that takes the traffic of link `l`. -/
def State.d2dSpare (s : State) (l : Nat) : Option Nat :=
  ((List.range 4).find? (fun k => !((s.d2dRetire l).d2dLink (64 + k)).failed && ((s.d2dRetire l).d2dCarried (64 + k)).isNone)).map
    (fun k => 64 + k)

/-- The link is out of use, and its traffic has moved. -/
def State.d2dShift (s : State) (l : Nat) : State :=
  match s.d2dOwner l with
  | some i => (s.d2dRetire l).setD2d i { (s.d2dRetire l).d2dLink i with spare := s.d2dSpare l }
  | none => s.d2dRetire l

theorem State.d2dMove_runs {l : Nat} (h : s.d2dRuns l = true) (threshold : Bool) :
    s.d2dMove l threshold = (s.d2dShift l).latchFault (d2dSource l) .s 0 false threshold := by
  unfold State.d2dMove State.d2dShift
  rw [h]
  rfl

theorem State.d2dRetire_link (l j : Nat) :
    (s.d2dRetire l).d2dLink j = if j = l then { s.d2dLink l with failed := true } else s.d2dLink j :=
  State.d2dLink_setD2d _ _ _

theorem State.d2dRetire_carried (l j : Nat) : (s.d2dRetire l).d2dCarried j = s.d2dCarried j := by
  have hSpare (i : Nat) : ((s.d2dRetire l).d2dLink i).spare = (s.d2dLink i).spare := by
    rw [State.d2dRetire_link]
    split
    · next h => rw [h]
    · rfl
  simp only [State.d2dCarried, hSpare]

theorem State.d2dShift_link (l j : Nat) :
    (s.d2dShift l).d2dLink j = { s.d2dLink j with
      failed := (s.d2dLink j).failed || decide (j = l)
      spare := if s.d2dOwner l = some j then s.d2dSpare l else (s.d2dLink j).spare } := by
  have hRetire : (s.d2dRetire l).d2dLink j = { s.d2dLink j with failed := (s.d2dLink j).failed || decide (j = l) } := by
    rw [State.d2dRetire_link]
    split
    · next h => simp [h]
    · next h => simp [h]
  unfold State.d2dShift
  cases hOwner : s.d2dOwner l with
  | none => simp [hRetire]
  | some i =>
    by_cases hji : j = i
    · subst hji
      simp [State.d2dLink_setD2d, hRetire]
    · simp [State.d2dLink_setD2d, hRetire, hji, Ne.symm hji]

theorem State.d2dShift_moves (l : Nat) : Moves [.chip, .fc] s (s.d2dShift l) := by
  have hRetire : Moves [.chip, .fc] s (s.d2dRetire l) :=
    .step State.setCorrections_moves (by decide) (State.setD2d_moves.mono (by decide))
  unfold State.d2dShift
  split
  · exact .step State.setD2d_moves (by decide) hRetire
  · exact hRetire

theorem State.d2dShift_source (l x : Nat) : (s.d2dShift l).source x = s.source x := by
  unfold State.d2dShift
  split <;> rfl

/-- A spare can take traffic when it has not failed and carries none (R18). -/
def State.d2dFree (s : State) (k : Nat) : Bool := !(s.d2dLink (64 + k)).failed && (s.d2dCarried (64 + k)).isNone

/-- The link that fails is not among the spares that can take its traffic: a spare that runs carries some. -/
theorem State.d2dSpare_runs {l : Nat} (h : s.d2dRuns l = true) :
    s.d2dSpare l = ((List.range 4).find? s.d2dFree).map (fun k => 64 + k) := by
  have hFree (k : Nat) : (!((s.d2dRetire l).d2dLink (64 + k)).failed && ((s.d2dRetire l).d2dCarried (64 + k)).isNone)
      = s.d2dFree k := by
    rw [State.d2dRetire_link, State.d2dRetire_carried, State.d2dFree]
    split
    · next hk =>
      subst hk
      have hCarries : (s.d2dCarried (64 + k)).isSome = true := by simpa [State.d2dRuns] using (Bool.and_eq_true_iff.mp h).2
      simp [Option.isNone_eq_false_iff.mpr hCarries]
    · rfl
  simp only [State.d2dSpare, hFree]

theorem exec_failover_runs {l : Fin 68} (ho : s.overThreshold (d2dSource l) = true) (h : s.d2dRuns l = true) :
    exec (.d2dLinkFailover l) s = .next ((s.d2dShift l).latchFault (d2dSource l) .s 0 false true) :=
  (if_pos ho).trans (congrArg _ (State.d2dMove_runs h true))

/-- What a fail-over leaves, whichever spare takes the traffic. -/
theorem failover_spec {l : Fin 68} (ho : s.overThreshold (d2dSource l) = true) (h : s.d2dRuns l = true) :
    ∃ t, exec (.d2dLinkFailover l) s = .next t ∧ (t.source (d2dSource l)).cause = true ∧ (t.source (d2dSource l)).cls = .s
      ∧ (t.d2dLink l).failed = true ∧ (l.val < 64 → (t.d2dLink l).spare = s.d2dSpare l)
      ∧ (∀ i, 64 ≤ l.val → s.d2dCarried l = some i → (t.d2dLink i).spare = s.d2dSpare l)
      ∧ (∀ j, j ≠ l.val → s.d2dCarried l ≠ some j → t.d2dLink j = s.d2dLink j)
      ∧ (∀ x, x ≠ d2dSource l → t.source x = s.source x)
      ∧ OnlyTouches [.chip, .regs, .counters, .emitted, .freeCount, .fc, .buf, .pierTx] s t := by
  have hp := pipeOfSource_d2d l
  have hFault := State.latchFault_s_moves (s := s.d2dShift l) (d2dSource l) 0 false true (d2dSource_chip l) hp
  have hSource (x : Nat) := State.latchFault_source (s := s.d2dShift l) (d2dSource l) .s 0 false true x (.inr (by decide)) (.inl hp)
  have hSame := (hSource (d2dSource l)).trans (if_pos rfl)
  have hLink (j : Nat) : ((s.d2dShift l).latchFault (d2dSource l) .s 0 false true).d2dLink j = _ :=
    (congrArg (fun c : ChipState => Tbl.get d2dDefault c.d2d j) (hFault.same .chip (by decide))).trans (State.d2dShift_link l.val j)
  refine ⟨_, exec_failover_runs ho h, congrArg SourceRec.cause hSame, congrArg SourceRec.cls hSame, ?_, fun hl => ?_,
    fun i hl hi => ?_, fun j hj hc => ?_, fun x hx => ?_, ?_⟩
  · simp [hLink]
  · simp [hLink, State.d2dOwner, hl]
  · simp [hLink, State.d2dOwner, Nat.not_lt.mpr hl, hi]
  · have hOwner : s.d2dOwner l ≠ some j := by
      unfold State.d2dOwner
      split
      · simpa using Ne.symm hj
      · exact hc
    simp [hLink, hj, hOwner]
  · exact ((hSource x).trans (if_neg hx)).trans (State.d2dShift_source _ _)
  · exact ((State.d2dShift_moves _).mono (by decide)).trans (hFault.mono (by decide)) |>.only

/-- Settles O12: a replay is one more correction of the link's source, and a fail-over is `failover_spec` with the spare
that the search finds. -/
theorem dieLinksReplayAndFailOver : Obligations.DieLinksReplayAndFailOver := by
  refine ⟨fun l s h => ?_, fun l s h => ?_, fun l k s ho h hWell hEmpty hBefore => ?_, fun l s ho h hNone => ?_, fun l s h => ?_⟩
  · refine ⟨_, congrArg Host.Outcome.next (State.flitReplay_runs h), ?_, ?_, fun x hx => ?_, ?_⟩
    · rw [State.counter_count, if_pos rfl, State.counter_moves State.corrected_moves (by decide)]
    · exact ((State.corrected_corrections _ _ _).trans (if_pos rfl)).trans (by rw [correctedRule_d2d]; rfl)
    · exact (State.corrected_corrections _ _ _).trans (if_neg hx)
    · exact (Moves.step State.count_moves (by decide) (State.corrected_moves.mono (by decide))).only
  · exact ⟨s, congrArg Host.Outcome.next (if_neg (by simp [h])), rfl⟩
  · have hSpare : s.d2dSpare l = some (64 + k.val) := by
      rw [State.d2dSpare_runs h, List.find?_range_eq_some (i := k.val) |>.mpr
        ⟨by simp [State.d2dFree, hWell, hEmpty], by simp, fun j hj => ?_⟩]
      · rfl
      · rcases hBefore j hj with hj | hj <;> simp [State.d2dFree, hj]
    simpa only [hSpare] using failover_spec ho h
  · have hSpare : s.d2dSpare l = none := by
      rw [State.d2dSpare_runs h, List.find?_range_eq_none.mpr fun j hj => ?_]
      · rfl
      · rcases hNone j hj with hj | hj <;> simp [State.d2dFree, hj]
    simpa only [hSpare] using failover_spec ho h
  · rcases h with h | h
    · exact ⟨s, if_neg (by simp [h]), rfl⟩
    · refine ⟨s, ?_, rfl⟩
      have hMove : s.d2dMove l true = s := if_pos (by simp [h])
      simp only [exec, execD2dLinkFailover, hMove, ite_self]

end Sys2Proof.Machine
end

section
/-! PROOFS. What happens to the ports of a span whose links fail: none of them stays UP, and the collector's sources of
the chip level are as they were. -/

namespace Sys2Proof.Machine

variable {s t u : State}

/-! ### The state of the ports (R338) -/

/-- No port is UP that was not UP before. -/
def NoPortRises (s t : State) : Prop := ∀ p, t.portState p = 5 → s.portState p = 5

theorem NoPortRises.refl : NoPortRises s s := fun _ h => h

theorem NoPortRises.trans (h : NoPortRises s t) (k : NoPortRises t u) : NoPortRises s u := fun p hp => h p (k p hp)

theorem NoPortRises.of_fld (h : ∀ p, t.portState p = s.portState p) : NoPortRises s t := fun p hp => (h p).symm.trans hp

theorem NoPortRises.of_regs (h : t.regs = s.regs) : NoPortRises s t :=
  .of_fld fun p => by simp [State.portState, State.fld, State.reg, h]

theorem NoPortRises.moves {ps : List StatePart} (h : Moves ps s t) (hp : .regs ∉ ps) : NoPortRises s t :=
  .of_regs (h.same .regs hp)

theorem NoPortRises.faultFrame (h : FaultFrame s t) : NoPortRises s t :=
  .of_fld fun p => h.fld (faultRegister_above (by unfold laneOff; omega)) _ _

/-- A write of another field of any register. -/
theorem NoPortRises.setFld {off hi lo v : Nat} (h : lo ≤ hi) (hd : hi < 28) : NoPortRises s (s.setFld off hi lo v) :=
  .of_fld fun _ => State.fld_setFld_ne _ _ _ _ _ _ _ _ h (by omega) (by decide) (.inl hd)

theorem NoPortRises.setBit {off i : Nat} {b : Bool} (hd : i < 28) : NoPortRises s (s.setBit off i b) :=
  .setFld le_rfl hd

/-- A lane takes a state other than UP. -/
theorem NoPortRises.setState {l v : Nat} (hv : v < 16) (h5 : v ≠ 5) : NoPortRises s (s.setFld (laneOff l + 4) 31 28 v) := by
  intro p hp
  unfold State.portState at hp ⊢
  by_cases hl : laneOff p + 4 = laneOff l + 4
  · rw [hl, State.fld_setFld_same _ _ _ _ _ (by decide) (by decide)] at hp
    omega
  · rwa [State.fld_setFld_reg _ _ _ _ _ _ _ _ hl] at hp

theorem NoPortRises.fold {α : Type} {f : State → α → State} (h : ∀ s a, NoPortRises s (f s a)) (l : List α) :
    NoPortRises s (l.foldl f s) :=
  List.foldlRecOn (motive := fun t => NoPortRises s t) _ _ .refl (fun t ht a _ => ht.trans (h t a))

/-- A port that one step of a walk takes out of UP is not UP at its end. -/
theorem State.foldl_notUp {α : Type} {f : State → α → State} (hf : ∀ s a, NoPortRises s (f s a)) {l : List α} {a : α}
    (ha : a ∈ l) {p : Nat} (h : ∀ s, (f s a).portState p ≠ 5) : (l.foldl f s).portState p ≠ 5 := by
  induction l generalizing s with
  | nil => cases ha
  | cons b l ih =>
    rcases List.mem_cons.mp ha with rfl | ha
    · exact fun h5 => h s (NoPortRises.fold hf l p h5)
    · exact ih ha

theorem State.mem_lanesOf (p : Nat) : p ∈ s.lanesOf p := by
  simp only [State.lanesOf, State.portLanes, List.mem_map, List.mem_range]
  exact ⟨0, Nat.two_pow_pos _, rfl⟩

theorem State.setPortState_rises {p v : Nat} (hv : v < 16) (h5 : v ≠ 5) : NoPortRises s (s.setPortState p v) :=
  .fold (fun _ _ => .setState hv h5) _

theorem State.showLanes_rises {p hi lo v : Nat} (h : lo ≤ hi) (hd : hi < 28) : NoPortRises s (s.showLanes p hi lo v) :=
  .fold (fun _ _ => .setFld h hd) _

theorem State.eyeAbort_rises (l : Nat) : NoPortRises s (s.eyeAbort l) := by
  unfold State.eyeAbort
  split
  · exact ((NoPortRises.setFld (by decide) (by decide)).trans (.setFld (by decide) (by decide))).trans
      (.moves State.setLane_moves (by decide))
  · exact .refl

theorem State.enterWait_rises (p : Nat) : NoPortRises s (s.enterWait p) := by
  have hWait : NoPortRises s (s.setPortState p 1) := State.setPortState_rises (by decide) (by decide)
  unfold State.enterWait
  dsimp -proj only
  split
  · exact hWait.trans (.of_regs rfl)
  · exact hWait.trans (.moves State.emitLanes_moves (by decide))

theorem State.latchFault_n_rises (src : Nat) : NoPortRises s (s.latchFault src .n) :=
  .faultFrame (State.latchFault_frame _ _ _ _ _ (by decide))

theorem State.bringupFail_rises (p : Nat) : NoPortRises s (s.bringupFail p) := by
  have hShow {v : Nat} : NoPortRises s (s.showLanes p 20 16 v) := State.showLanes_rises (by decide) (by decide)
  have hLane {y : State} {x : LaneRec} : NoPortRises y (y.setLane p x) := .moves State.setLane_moves (by decide)
  unfold State.bringupFail
  dsimp -proj only
  split
  · exact (((hShow.trans hLane).trans (State.setPortState_rises (by decide) (by decide))).trans
      (.moves State.emitLanes_moves (by decide))).trans (State.latchFault_n_rises _)
  · exact (hShow.trans hLane).trans (State.enterWait_rises p)

/-- The lanes of a port that leaves UP show the state that follows, and send nothing that an eye scan looks at (R340). -/
def State.lowerLane (next : Nat) (s : State) (l : Nat) : State :=
  (((s.setFld (laneOff l + 4) 27 25 0).setFld (laneOff l + 4) 31 28 next).setFld (laneOff l + 4) 23 22 0).eyeAbort l

theorem State.lowerLane_rises {next : Nat} (hn : next < 16) (h5 : next ≠ 5) (s : State) (l : Nat) :
    NoPortRises s (State.lowerLane next s l) :=
  (((NoPortRises.setFld (by decide) (by decide)).trans (.setState hn h5)).trans (.setFld (by decide) (by decide))).trans
    (State.eyeAbort_rises l)

theorem State.lowerLane_notUp {next : Nat} (hn : next < 16) (h5 : next ≠ 5) (l : Nat) :
    (State.lowerLane next s l).portState l ≠ 5 := by
  intro h
  have hSet := (NoPortRises.setFld (hi := 23) (lo := 22) (by decide) (by decide)).trans (State.eyeAbort_rises l) l h
  rw [State.portState, State.fld_setFld_same _ _ _ _ _ (by decide) (by decide)] at hSet
  omega

/-- What a port that leaves UP was sending stays ahead of its queue (R249, R340). -/
def State.keepAhead (s : State) (p : Nat) : State :=
  match s.tx p with
  | some t => (s.dropPass t.queue t.entry).stompAhead p
  | none => s

theorem State.keepAhead_moves (p : Nat) : Moves [.counters, .pipes, .emitted, .egr, .via] s (s.keepAhead p) := by
  unfold State.keepAhead
  split
  · exact .step State.stompAhead_moves (by decide) (State.dropPass_moves.mono (by decide))
  · exact .refl

/-- The lanes of a port that leaves UP, and its count of exits (R340). -/
def State.lowerPort (s : State) (p next : Nat) : State :=
  ((((s.keepAhead p).lanesOf p).foldl (State.lowerLane next) (s.keepAhead p)).setBit (laneOff p + 4) 24 false).count
    (laneOff p + 0x120) 1

theorem State.leaveUp_eq (p next : Nat) :
    s.leaveUp p next = ((s.lowerPort p next).latchFault (macSource p) .n).irq 7 := rfl

/-! ### A link that fails (R225, R334, R338) -/

/-- The port that has left UP shows a local fault, and is about to look for signal again. -/
def State.linkLost (s : State) (p : Nat) : State :=
  (((s.leaveUp p 1).setLane p { s.lane p with fresh := false }).showLanes p 23 23 1).emit (.lane p "REMOTE_FAULT" 0)

theorem State.linkFails_eq {p : Nat} (h : s.portState p = 5) :
    s.linkFails p = if (s.lane p).fresh then (s.linkLost p).bringupFail p else (s.linkLost p).enterWait p := by
  unfold State.linkFails
  rw [if_pos h]
  rfl

theorem State.lowerPort_rises (p : Nat) : NoPortRises s (s.lowerPort p 1) :=
  (((NoPortRises.moves (State.keepAhead_moves p) (by decide)).trans
    (.fold (State.lowerLane_rises (next := 1) (by decide) (by decide)) _)).trans (.setBit (by decide))).trans
    (.moves State.count_moves (by decide))

theorem State.lowerPort_notUp (p : Nat) : (s.lowerPort p 1).portState p ≠ 5 := by
  intro h
  have hRest : NoPortRises (((s.keepAhead p).lanesOf p).foldl (State.lowerLane 1) (s.keepAhead p)) (s.lowerPort p 1) :=
    (NoPortRises.setBit (by decide)).trans (.moves State.count_moves (by decide))
  exact State.foldl_notUp (State.lowerLane_rises (next := 1) (by decide) (by decide)) (State.mem_lanesOf p)
    (fun _ => State.lowerLane_notUp (by decide) (by decide) p) (hRest p h)

/-- What follows once the lanes of the port are down raises none of them. -/
theorem State.linkFails_afterLower {p : Nat} (h : s.portState p = 5) : NoPortRises (s.lowerPort p 1) (s.linkFails p) := by
  have hLeave : NoPortRises (s.lowerPort p 1) (s.leaveUp p 1) := by
    rw [State.leaveUp_eq]
    exact (State.latchFault_n_rises _).trans (.faultFrame (State.irq_frame _))
  have hLost : NoPortRises (s.lowerPort p 1) (s.linkLost p) :=
    ((hLeave.trans (.moves State.setLane_moves (by decide))).trans (State.showLanes_rises (by decide) (by decide))).trans
      (.moves State.emit_moves (by decide))
  rw [State.linkFails_eq h]
  split
  · exact hLost.trans (State.bringupFail_rises p)
  · exact hLost.trans (State.enterWait_rises p)

theorem State.linkFails_rises (p : Nat) : NoPortRises s (s.linkFails p) := by
  by_cases h : s.portState p = 5
  · exact (State.lowerPort_rises p).trans (State.linkFails_afterLower h)
  · rw [State.linkFails, if_neg h]
    exact .refl

theorem State.linkFails_notUp (p : Nat) : (s.linkFails p).portState p ≠ 5 := by
  by_cases h : s.portState p = 5
  · exact fun h5 => State.lowerPort_notUp p (State.linkFails_afterLower h p h5)
  · rwa [State.linkFails, if_neg h]

/-! ### What the failure of a link leaves of the chip level -/

/-- From `s` to `t` the chip is as it was, and so are the records of the sources of the chip level. -/
structure KeepsChip (s t : State) : Prop where
  chip : t.chip = s.chip
  source : ∀ x, 0xF800 ≤ x → t.source x = s.source x

theorem KeepsChip.refl : KeepsChip s s := ⟨rfl, fun _ _ => rfl⟩

theorem KeepsChip.trans (h : KeepsChip s t) (k : KeepsChip t u) : KeepsChip s u :=
  ⟨k.chip.trans h.chip, fun x hx => (k.source x hx).trans (h.source x hx)⟩

theorem KeepsChip.moves {ps : List StatePart} (h : Moves ps s t) (hc : .chip ∉ ps) (hf : .fc ∉ ps) : KeepsChip s t :=
  ⟨h.same .chip hc, fun x _ => State.source_moves h hf x⟩

theorem KeepsChip.fold {α : Type} {f : State → α → State} {l : List α} (h : ∀ s, ∀ a ∈ l, KeepsChip s (f s a)) :
    KeepsChip s (l.foldl f s) :=
  List.foldlRecOn (motive := fun t => KeepsChip s t) _ _ .refl (fun t ht a ha => ht.trans (h t a ha))

theorem State.latchFault_mac_keepsChip {p : Nat} (hp : p < 1024) : KeepsChip s (s.latchFault (macSource p) .n) :=
  ⟨(State.latchFault_n_halts _ _ _ _).same .chip (by decide), fun x hx =>
    (State.latchFault_n_source _ _ _ _ _).trans (if_neg (by have := macSource_span hp; omega))⟩

theorem State.leaveUp_keepsChip {p : Nat} (hp : p < 1024) (next : Nat) : KeepsChip s (s.leaveUp p next) := by
  have hLanes {y : State} : KeepsChip y (((y.lanesOf p).foldl (State.lowerLane next) y)) :=
    .moves (ps := [.regs, .lanes]) (Moves.fold (fun s l => .step State.eyeAbort_moves (by decide)
      (.step State.setFld_moves (by decide) (.step State.setFld_moves (by decide) (State.setFld_moves.mono (by decide))))) .refl)
      (by decide) (by decide)
  have hLower : KeepsChip s (s.lowerPort p next) :=
    (((KeepsChip.moves (State.keepAhead_moves p) (by decide) (by decide)).trans hLanes).trans
      (.moves State.setBit_moves (by decide) (by decide))).trans (.moves State.count_moves (by decide) (by decide))
  rw [State.leaveUp_eq]
  exact (hLower.trans (State.latchFault_mac_keepsChip hp)).trans (.moves State.irq_moves (by decide) (by decide))

theorem State.bringupFail_keepsChip {p : Nat} (hp : p < 1024) : KeepsChip s (s.bringupFail p) := by
  have hShow {v : Nat} : KeepsChip s (s.showLanes p 20 16 v) := .moves State.showLanes_moves (by decide) (by decide)
  have hLane {y : State} {x : LaneRec} : KeepsChip y (y.setLane p x) := .moves State.setLane_moves (by decide) (by decide)
  unfold State.bringupFail
  dsimp -proj only
  split
  · exact (((hShow.trans hLane).trans (.moves State.setPortState_moves (by decide) (by decide))).trans
      (.moves State.emitLanes_moves (by decide) (by decide))).trans (State.latchFault_mac_keepsChip hp)
  · exact (hShow.trans hLane).trans (.moves State.enterWait_moves (by decide) (by decide))

theorem State.linkFails_keepsChip {p : Nat} (hp : p < 1024) : KeepsChip s (s.linkFails p) := by
  have hLost : KeepsChip s (s.linkLost p) :=
    (((State.leaveUp_keepsChip hp 1).trans (.moves State.setLane_moves (by decide) (by decide))).trans
      (.moves State.showLanes_moves (by decide) (by decide))).trans (.moves State.emit_moves (by decide) (by decide))
  by_cases h : s.portState p = 5
  · rw [State.linkFails_eq h]
    split
    · exact hLost.trans (State.bringupFail_keepsChip hp)
    · exact hLost.trans (.moves State.enterWait_moves (by decide) (by decide))
  · rw [State.linkFails, if_neg h]
    exact .refl

end Sys2Proof.Machine
end

section
/-! PROOFS. The loss and the return of the reference clocks. -/

namespace Sys2Proof.Machine

variable {s : State}

/-! ### Persistent conditions (R428) -/

/-- A condition that starts latches its source; one that lasts already changes nothing. -/
theorem State.latchLive_source (src : Nat) (cls : FaultClass) (x : Nat) (hx : x ≠ srcChip 0 3 ∨ cls ≠ .d)
    (hp : pipeOfSource src = none ∨ cls ≠ .s) :
    (s.latchLive src cls).source x
      = if x = src ∧ (s.source src).live = false then latched (s.source src) s cls 0 true else s.source x := by
  unfold State.latchLive
  cases hLive : (s.source src).live with
  | true => simp
  | false => simpa using State.latchFault_source src cls 0 true false x hx hp

/-- The source of a condition that has started shows it. -/
theorem State.latchLive_live (src : Nat) (cls : FaultClass) (hx : src ≠ srcChip 0 3 ∨ cls ≠ .d)
    (hp : pipeOfSource src = none ∨ cls ≠ .s) : ((s.latchLive src cls).source src).live = true := by
  rw [State.latchLive_source _ _ _ hx hp]
  split
  · rfl
  · next h => simpa using h

/-- A condition that starts is an occurrence of its class. -/
theorem State.latchLive_starts (src : Nat) (cls : FaultClass) (hx : src ≠ srcChip 0 3 ∨ cls ≠ .d)
    (hp : pipeOfSource src = none ∨ cls ≠ .s) (h : (s.source src).live = false) :
    ((s.latchLive src cls).source src).cause = true ∧ ((s.latchLive src cls).source src).cls = cls := by
  rw [State.latchLive_source _ _ _ hx hp, if_pos ⟨rfl, h⟩]
  exact ⟨rfl, rfl⟩

theorem State.latchLive_s_moves (src : Nat) (h : 0xF800 ≤ src) (hp : pipeOfSource src = none) :
    Moves [.regs, .counters, .emitted, .freeCount, .fc, .buf, .pierTx] s (s.latchLive src .s) :=
  .ite .refl (State.latchFault_s_moves _ _ _ _ h hp)

theorem State.endLive_source (src x : Nat) :
    (s.endLive src).source x = if x = src then { s.source src with live := false } else s.source x :=
  Tbl.get_put _ _ _ _ _

/-- The end of a condition clears LIVE of its source and leaves the rest of the record (R428). -/
theorem State.endLive_spec (src : Nat) :
    ((s.endLive src).source src).live = false ∧ ((s.endLive src).source src).cause = (s.source src).cause
      ∧ ∀ x, x ≠ src → (s.endLive src).source x = s.source x := by
  simp +contextual [State.endLive_source]

/-! ### The monitor of a span's reference (R38, R427) -/

theorem clockSource_chip (n : Span) : 0xF800 ≤ clockSource (2 + n) := by revert n; decide

theorem pipeOfSource_clock (n : Span) : pipeOfSource (clockSource (2 + n)) = none := by revert n; decide

/-- The monitor of the span has shown the loss, and the links have not failed yet. -/
def State.refclkShown (s : State) (n : Nat) : State :=
  ({ s with chip := { s.chip with sdRefLost := addOnce s.chip.sdRefLost n } }).latchLive (clockSource (2 + n)) .s

theorem State.refclkLost_eq (n : Nat) :
    s.refclkLost n = ((List.range 64).foldl (fun s i => s.linkFails (n * 64 + i))
      ((s.refclkShown n).setReacting (s.fc.reacting || decide (s.fc.injNext = some (clockSource (2 + n)))))).setReacting
        s.fc.reacting := rfl

theorem mem_addOnce (l : List Nat) (x : Nat) : x ∈ addOnce l x := by
  unfold addOnce
  split
  · next h => simpa using h
  · simp

theorem State.refclkLost_keepsChip (n : Span) : KeepsChip (s.refclkShown n) (s.refclkLost n) := by
  have hReacting {y : State} {b : Bool} : KeepsChip y (y.setReacting b) := ⟨rfl, fun _ _ => rfl⟩
  rw [State.refclkLost_eq]
  exact (hReacting.trans (.fold fun s i hi => State.linkFails_keepsChip (by have := List.mem_range.mp hi; omega))).trans
    hReacting

theorem State.refclkLost_notUp (n : Span) {i : Nat} (hi : i < 64) : (s.refclkLost n).portState (n * 64 + i) ≠ 5 :=
  State.foldl_notUp (f := fun s i => State.linkFails s (n * 64 + i)) (fun _ _ => State.linkFails_rises _)
    (List.mem_range.mpr hi) (fun _ => State.linkFails_notUp _)

theorem State.refclkShown_lost (n : Span) : n.val ∈ (s.refclkShown n).chip.sdRefLost := by
  have hChip := (State.latchLive_s_moves (s := { s with chip := { s.chip with sdRefLost := addOnce s.chip.sdRefLost n } })
    (clockSource (2 + n)) (clockSource_chip n) (pipeOfSource_clock n)).same .chip (by decide)
  exact (congrArg ChipState.sdRefLost hChip).symm ▸ mem_addOnce _ _

/-- What the loss of a span's reference leaves, whatever its monitor showed before. -/
theorem State.refclkLost_spec (n : Span) :
    n.val ∈ (s.refclkLost n).chip.sdRefLost ∧ ((s.refclkLost n).source (clockSource (2 + n))).live = true := by
  have hKeeps := State.refclkLost_keepsChip (s := s) n
  constructor
  · rw [hKeeps.chip]
    exact State.refclkShown_lost n
  · rw [hKeeps.source _ (clockSource_chip n)]
    exact State.latchLive_live _ _ (.inr (by decide)) (.inl (pipeOfSource_clock n))

/-! ### The PCIe reference (R38) -/

/-- The link is down and its rings wait; the monitor has not shown the loss yet. -/
def State.pcieDown (s : State) : State :=
  ({ s with chip := { s.chip with pcieRefLost := true }, hq := { s.hq with pcieUp := false } }).ringsWait

theorem State.pcieRefLost_spec :
    s.pcieRefLost.hq.pcieUp = false ∧ s.pcieRefLost.chip.pcieRefLost = true
      ∧ (s.pcieRefLost.source 0xFE81).live = true ∧ s.pcieRefLost.chip.mode = s.chip.mode := by
  have hShown : Moves [.regs, .counters, .emitted, .freeCount, .fc, .buf, .pierTx] s.pcieDown s.pcieRefLost :=
    State.latchLive_s_moves (clockSource 1) (by decide) (by decide)
  have hWait := State.ringsWait_moves
    (s := { s with chip := { s.chip with pcieRefLost := true }, hq := { s.hq with pcieUp := false } })
  have hHq := (hShown.same .hq (by decide)).trans (hWait.same .hq (by decide))
  have hChip := (hShown.same .chip (by decide)).trans (hWait.same .chip (by decide))
  exact ⟨congrArg HqState.pcieUp hHq, congrArg ChipState.pcieRefLost hChip,
    State.latchLive_live (s := s.pcieDown) (clockSource 1) .s (.inr (by decide)) (.inl (by decide)),
    by rw [hChip]⟩

/-! ### SYSCLK (R38) -/

/-- What of the chip entering SAFE moves: the mode, and a warm reset, which ends (R443, R485). -/
theorem State.enterSafe_chip (src cause : Nat) :
    (s.enterSafe src cause).chip = s.chip
      ∨ (s.enterSafe src cause).chip = { s.chip with mode := .safe, warm := .none } := by
  by_cases h : s.chip.mode = .safe ∨ s.chip.mode = .off
  · exact .inl (congrArg State.chip (if_pos h))
  · have hMark : (s.showSafe src cause).markSafe.chip = { s.chip with mode := .safe, warm := .none } :=
      congrArg (fun c : ChipState => { c with mode := .safe, warm := .none })
        ((State.endPinTest_moves.same .chip (by decide)).trans (State.showSafe_moves.same .chip (by decide)))
    have hRest : Moves [.regs, .counters, .emitted, .freeCount, .fc, .buf, .pipes, .progs, .trestle, .egr, .via, .pierTx, .pwr]
        (s.showSafe src cause).markSafe (s.enterSafe src cause) := by
      unfold State.enterSafe
      rw [if_neg h]
      exact .step State.overrideStarts_moves (by decide) (.step State.capSafe_moves (by decide)
        (.fold (fun _ _ => State.haltEngine_moves.mono (by decide)) (.step State.abortJoint_moves (by decide)
          (.step State.pierPropagate_moves (by decide) (.step State.stompPorts_moves (by decide)
            (State.endSwitches_moves.mono (by decide)))))))
    exact .inr ((hRest.same .chip (by decide)).trans hMark)

theorem State.latchFault_d_chip (src detail : Nat) (live threshold : Bool) :
    (s.latchFault src .d detail live threshold).chip = s.chip
      ∨ (s.latchFault src .d detail live threshold).chip = { s.chip with mode := .safe, warm := .none } := by
  have hReact (y : State) : (y.decideFault src .d).chip = y.chip
      ∨ (y.decideFault src .d).chip = { y.chip with mode := .safe, warm := .none } := by
    unfold State.decideFault State.react
    split
    · dsimp -proj only
      split
      · exact .inl (State.pierPropagate_moves.same .chip (by decide))
      · exact State.enterSafe_chip _ _
    · exact .inl rfl
  have hLatch (b c : Bool) : (((s.setReacting b).latchCore src .d detail live threshold c).haltFor src).chip = s.chip :=
    (State.haltFor_same_chip _).trans (State.latchCore_chip _ _ _ _ _ _)
  unfold State.latchFault
  dsimp -proj only
  rw [State.setReacting_chip]
  split
  · exact .inl (hLatch _ _)
  · simpa only [hLatch] using hReact (((s.setReacting _).latchCore src .d detail live threshold _).haltFor src)

/-- The monitor of SYSCLK is about to show the loss. -/
def State.sysclkGone (s : State) : State := { s with chip := { s.chip with sysclkLost := true } }

theorem State.sysclkLost_chip : s.sysclkLost.chip.sysclkLost = true := by
  have hFault := State.latchFault_d_chip (s := s.sysclkGone) (clockSource 0) 0 true false
  have hLive : s.sysclkLost = s.sysclkGone ∨ s.sysclkLost = s.sysclkGone.latchFault (clockSource 0) .d 0 true := ite_eq_or_eq _ _ _
  rcases hLive with h | h
  · rw [h]
    rfl
  · rcases hFault with hc | hc <;> rw [h, hc] <;> rfl

/-- Settles O14: each loss shows its monitor's source live (`latchLive_live`), the links of a span fail one by one
(`refclkLost_notUp`), and a return ends LIVE alone. -/
theorem referenceClocks : Obligations.ReferenceClocks := by
  have hShows (s : State) : (s.sysclkLost.source (clockSource 0)).live = true :=
    State.latchLive_live (s := s.sysclkGone) (clockSource 0) .d (.inl (by decide)) (.inr (by decide))
  refine ⟨fun s => ?_, fun s hLive hQuiet hPaired hMode => ?_, fun n s => ?_, fun n s hLive => ?_, fun s => ?_, fun s hLive => ?_,
    fun n s => ?_, fun s => ?_⟩
  · refine ⟨_, rfl, State.sysclkLost_chip, hShows s, fun x hx hx' => ?_⟩
    exact (State.latchLive_source (s := s.sysclkGone) _ .d x (.inl hx') (.inr (by decide))).trans (if_neg (fun h => hx h.1))
  · obtain ⟨hCause, hCls⟩ := State.latchLive_starts (s := s.sysclkGone) (clockSource 0) .d (.inl (by decide)) (.inr (by decide)) hLive
    have hFault : s.sysclkLost = s.sysclkGone.latchFault (clockSource 0) .d 0 true := if_neg (ne_true_of_eq_false hLive)
    refine ⟨_, rfl, ?_, hShows s, hCause, hCls⟩
    rw [hFault]
    exact State.latchFault_safe _ _ _ _ hMode hPaired hQuiet
  · exact ⟨_, rfl, (State.refclkLost_spec n).1, (State.refclkLost_spec n).2, fun i hi => State.refclkLost_notUp n hi⟩
  · have hStarts := State.latchLive_starts (s := { s with chip := { s.chip with sdRefLost := addOnce s.chip.sdRefLost n } })
      (clockSource (2 + n)) .s (.inr (by decide)) (.inl (pipeOfSource_clock n)) hLive
    have hKept := (State.refclkLost_keepsChip (s := s) n).source _ (clockSource_chip n)
    exact ⟨_, rfl, (State.refclkLost_spec n).1, (State.refclkLost_spec n).2, (congrArg SourceRec.cause hKept).trans hStarts.1,
      (congrArg SourceRec.cls hKept).trans hStarts.2, fun i hi => State.refclkLost_notUp n hi⟩
  · obtain ⟨hDown, hLost, hShows, hSame⟩ := State.pcieRefLost_spec (s := s)
    exact ⟨_, rfl, hDown, hLost, hShows, hSame⟩
  · obtain ⟨hDown, hLost, hShows, hSame⟩ := State.pcieRefLost_spec (s := s)
    have hNot : (s.pcieDown.source (clockSource 1)).live = false := by
      rwa [State.pcieDown, State.source_moves State.ringsWait_moves (by decide)]
    obtain ⟨hCause, hCls⟩ := State.latchLive_starts (s := s.pcieDown) (clockSource 1) .s (.inr (by decide)) (.inl (by decide)) hNot
    exact ⟨_, rfl, hDown, hLost, hShows, hCause, hCls, hSame⟩
  · obtain ⟨hLive, hCause, hOther⟩ := State.endLive_spec
      (s := { s with chip := { s.chip with sdRefLost := s.chip.sdRefLost.filter (fun x => x ≠ n.val) } }) (clockSource (2 + n))
    exact ⟨_, rfl, by simp [State.endLive, State.setSource], hLive, hCause, hOther, rfl⟩
  · obtain ⟨hLive, hCause, hOther⟩ := State.endLive_spec
      (s := { s with chip := { s.chip with pcieRefLost := false } }) (clockSource 1)
    exact ⟨_, rfl, rfl, hLive, hCause, hOther, rfl⟩

end Sys2Proof.Machine
end

section
/-! PROOFS. PFC and PAUSE: what a stop does to the queues of a port, and the refresh of an XOFF. -/

namespace Sys2Proof.Machine

variable {s : State}

/-! ### A copy that is withdrawn (R211) -/

/-- The slots of passes that are discarded are counted as WASTED, and nothing else (R300). -/
theorem State.waste_counter (k : Packet) {off : Nat} (h : ∀ n, off ≠ cPipe n 2) : (s.waste k).counter off = s.counter off := by
  unfold State.waste
  dsimp -proj only
  split
  · split <;> simp [State.counter_count, h]
  · rfl

theorem State.dropWhere_counter (f : Packet → Bool) {off : Nat} (h : ∀ n, off ≠ cPipe n 2) :
    (s.dropWhere f).counter off = s.counter off :=
  List.foldlRecOn (motive := fun t : State => t.counter off = s.counter off) _ _ rfl
    (fun _ ht k _ => (State.waste_counter k h).trans ht)

theorem State.dropPass_counter (q : Nat) (e : QEntry) {off : Nat} (h : ∀ n, off ≠ cPipe n 2) :
    (s.dropPass q e).counter off = s.counter off := State.dropWhere_counter _ h

/-- A credit gives back deficits and tokens: the copies and the stops of a port stay (R211, R214). -/
theorem State.credit_egr (q g : Nat) (n : Int) :
    (s.credit q g n).egr.stops = s.egr.stops ∧ (s.credit q g n).egr.tx = s.egr.tx ∧ (s.credit q g n).egr.ahead = s.egr.ahead :=
  List.foldlRecOn (motive := fun t : State => t.egr.stops = s.egr.stops ∧ t.egr.tx = s.egr.tx ∧ t.egr.ahead = s.egr.ahead) _ _
    ⟨rfl, rfl, rfl⟩ (fun _ ht _ _ => ht)

/-- The copy `x` of port `p` is back at the head of its queue, and its pass is gone; its charge is not back yet. -/
def State.putBack (s : State) (p : Nat) (x : TxCopy) : State :=
  let u := (s.setTx p none).dropPass x.queue x.entry
  u.setAhead x.queue (x.entry :: u.aheadOf x.queue)

theorem State.withdraw_stopped {p : Nat} {x : TxCopy} (h : s.tx p = some x) (hs : x.started = false) (hr : x.resend = false)
    (hq : s.queueStopped x.queue = true) :
    s.withdraw p = ((s.putBack p x).credit x.queue x.group x.charge).count (cQueue x.queue 4) 1 := by
  simp only [State.withdraw, h, hs, hr, hq]
  rfl

theorem State.putBack_stops (p : Nat) (x : TxCopy) : (s.putBack p x).egr.stops = s.egr.stops := by
  have hEgr : ((s.setTx p none).dropPass x.queue x.entry).egr = (s.setTx p none).egr :=
    State.dropPass_moves.same .egr (by decide)
  exact (congrArg EgrState.stops hEgr :)

theorem State.putBack_tx (p : Nat) (x : TxCopy) : (s.putBack p x).tx p = none := by
  have hTx : (s.putBack p x).tx p = ((s.setTx p none).dropPass x.queue x.entry).tx p := rfl
  rw [hTx, State.tx_moves State.dropPass_moves (by decide), State.tx_setTx, if_pos rfl]

theorem State.putBack_ahead (p : Nat) (x : TxCopy) : (s.putBack p x).aheadOf x.queue = x.entry :: s.aheadOf x.queue := by
  unfold State.putBack
  dsimp -proj only
  rw [State.aheadOf_setAhead, if_pos rfl, State.aheadOf_moves State.dropPass_moves (by decide)]
  rfl

theorem State.putBack_counter (p : Nat) (x : TxCopy) {off : Nat} (h : ∀ n, off ≠ cPipe n 2) :
    (s.putBack p x).counter off = s.counter off := State.dropPass_counter _ _ h

/-- What a withdrawal leaves of the port and of the queue of the copy. -/
theorem State.withdraw_spec {p : Nat} {x : TxCopy} (h : s.tx p = some x) (hs : x.started = false) (hr : x.resend = false)
    (hq : s.queueStopped x.queue = true) :
    (s.withdraw p).tx p = none ∧ (s.withdraw p).aheadOf x.queue = x.entry :: s.aheadOf x.queue
      ∧ (s.withdraw p).counter (cQueue x.queue 4) = (s.counter (cQueue x.queue 4) + 1) % 2 ^ 64 := by
  obtain ⟨-, hTx, hAhead⟩ := State.credit_egr (s := s.putBack p x) x.queue x.group x.charge
  rw [State.withdraw_stopped h hs hr hq]
  refine ⟨?_, ?_, ?_⟩
  · exact (congrArg (Tbl.get noTx · p) hTx).trans (State.putBack_tx p x)
  · exact (congrArg (Tbl.get noEntries · x.queue) hAhead).trans (State.putBack_ahead p x)
  · have hPipe (n : Nat) : cQueue x.queue 4 ≠ cPipe n 2 := by unfold cQueue cPipe; omega
    rw [State.counter_count, if_pos rfl, State.counter_moves State.credit_moves (by decide), State.putBack_counter p x hPipe]

theorem State.withdraw_eq_or (p : Nat) : s.withdraw p = s
    ∨ ∃ x, s.withdraw p = ((s.putBack p x).credit x.queue x.group x.charge).count (cQueue x.queue 4) 1 := by
  unfold State.withdraw
  cases s.tx p with
  | none => exact .inl rfl
  | some x =>
    dsimp -proj only
    split
    · exact .inl rfl
    · exact .inr ⟨x, rfl⟩

theorem State.withdraw_stops (p : Nat) : (s.withdraw p).egr.stops = s.egr.stops := by
  rcases State.withdraw_eq_or (s := s) p with h | ⟨x, h⟩ <;> rw [h]
  rw [State.count_egr, (State.credit_egr _ _ _).1, State.putBack_stops]

theorem State.withdraw_counter (p : Nat) {off : Nat} (hPipe : ∀ n, off ≠ cPipe n 2) (hQueue : ∀ q, off ≠ cQueue q 4) :
    (s.withdraw p).counter off = s.counter off := by
  rcases State.withdraw_eq_or (s := s) p with h | ⟨x, h⟩ <;> rw [h]
  rw [State.counter_count, if_neg (hQueue _), State.counter_moves State.credit_moves (by decide),
    State.putBack_counter p x hPipe]

/-- The counters of received PFC and PAUSE frames are not among those of a withdrawal. -/
theorem State.withdraw_cPort (p : Nat) {e : Nat} (he : e = 8 ∨ e = 9) : (s.withdraw p).counter (cPort p e) = s.counter (cPort p e) :=
  State.withdraw_counter p (fun n => by unfold cPort cPipe; omega) (fun q => by unfold cPort cQueue; omega)

/-! ### Stops (R220) -/

/-- The time of a stop: of priority `k` of a port, or of the whole port for 8. -/
def State.stopOf (s : State) (i : Nat) : Nat := Tbl.get zeroNat s.egr.stops i

theorem State.setStop_stopOf (p k n i : Nat) :
    (s.setStop p k n).stopOf i = if i = p * 9 + k then n else s.stopOf i := Tbl.get_put _ _ _ _ _

theorem State.withdraw_stopOf (p i : Nat) : (s.withdraw p).stopOf i = s.stopOf i :=
  congrArg (Tbl.get zeroNat · i) (State.withdraw_stops p)

/-- A port that is stopped whole stops each of its queues. -/
theorem State.queueStopped_port {q : Nat} (h : s.stopOf (q / 16 * 9 + 8) ≠ 0) : s.queueStopped q = true := by
  unfold State.queueStopped
  dsimp only
  rw [decide_eq_true (show Tbl.get zeroNat s.egr.stops (q / 16 * 9 + 8) ≠ 0 from h)]
  rfl

/-- The entry of a PFC frame for one priority (R220, R233). -/
def takePfc (p : Nat) (en : Byte) (times : List (BitVec 16)) (s : State) (k : Nat) : State :=
  if en.getLsbD k && s.bit (0xC03000 + p * 4) k then s.setStop p k (times.getD k 0).toNat else s

/-- Each priority takes its own entry: the first `n` that the frame enables and RX_EN allows, and no other. -/
theorem foldl_takePfc (p : Nat) (en : Byte) (times : List (BitVec 16)) (n : Nat) :
    Moves [.egr] s ((List.range n).foldl (takePfc p en times) s) ∧ ∀ k,
      ((List.range n).foldl (takePfc p en times) s).stopOf (p * 9 + k)
        = if k < n ∧ (en.getLsbD k && s.bit (0xC03000 + p * 4) k) = true then (times.getD k 0).toNat
          else s.stopOf (p * 9 + k) := by
  induction n with
  | zero => exact ⟨.refl, fun k => by simp⟩
  | succ n ih =>
    obtain ⟨hMoves, hStops⟩ := ih
    rw [List.range_succ, List.foldl_append, List.foldl_cons, List.foldl_nil]
    have hBit := State.bit_moves hMoves (by decide) (0xC03000 + p * 4) n
    generalize (List.range n).foldl (takePfc p en times) s = t at hMoves hStops hBit
    unfold takePfc
    split
    · next hTakes =>
      refine ⟨.step State.setStop_moves (by decide) hMoves, fun k => ?_⟩
      rw [State.setStop_stopOf, hStops]
      rw [hBit] at hTakes
      by_cases hk : k = n
      · subst hk
        rw [if_pos rfl, if_pos ⟨Nat.lt_succ_self k, hTakes⟩]
      · rw [if_neg (by omega)]
        exact if_congr (and_congr (by omega) .rfl) rfl rfl
    · next hLeaves =>
      refine ⟨hMoves, fun k => ?_⟩
      rw [hBit] at hLeaves
      rw [hStops]
      by_cases hk : k = n
      · subst hk
        rw [if_neg (by omega), if_neg (fun h => hLeaves h.2)]
      · exact if_congr (and_congr (by omega) .rfl) rfl rfl

/-! ### The commands -/

section
variable {p : Port} {en : Byte} {times : List (BitVec 16)} {q : BitVec 16}

theorem exec_pfcRx_down (h : s.linkUp p = false) : exec (.pfcRx p en times) s = .next s := if_pos (by simp [h])

theorem exec_pfcRx_viaduct (h : s.linkUp p = true) (hv : s.viaduct p = true) :
    exec (.pfcRx p en times) s = .next (s.count (cPort p 8) 1) :=
  (if_neg (by simp [h])).trans (if_pos hv)

theorem exec_pfcRx_ordinary (h : s.linkUp p = true) (hv : s.viaduct p = false) :
    exec (.pfcRx p en times) s
      = .next (((List.range 8).foldl (takePfc p en times) (s.count (cPort p 8) 1)).withdraw p) :=
  (if_neg (by simp [h])).trans (if_neg (ne_true_of_eq_false hv))

theorem exec_pauseRx_down (h : s.linkUp p = false) : exec (.pauseRx p q) s = .next s := if_pos (by simp [h])

theorem exec_pauseRx_ignored (h : s.linkUp p = true) (hb : s.bit (0xC01000 + p * 4) 30 = false) :
    exec (.pauseRx p q) s = .next (s.count (cPort p 9) 1) :=
  (if_neg (by simp [h])).trans (if_pos (by rw [State.bit_moves State.count_moves (by decide), hb]; rfl))

/-- The port is stopped whole, and the frame counted; a copy in hand has not been withdrawn yet. -/
def State.paused (s : State) (p : Nat) (q : BitVec 16) : State := (s.count (cPort p 9) 1).setStop p 8 q.toNat

theorem exec_pauseRx_stops (h : s.linkUp p = true) (hb : s.bit (0xC01000 + p * 4) 30 = true) :
    exec (.pauseRx p q) s = .next ((s.paused p q).withdraw p) :=
  (if_neg (by simp [h])).trans (if_neg (by rw [State.bit_moves State.count_moves (by decide), hb]; decide))

theorem State.paused_stopOf (i : Nat) : (s.paused p q).stopOf i = if i = p * 9 + 8 then q.toNat else s.stopOf i :=
  State.setStop_stopOf _ _ _ _

theorem State.paused_counter (off : Nat) :
    (s.paused p q).counter off = if off = cPort p 9 then (s.counter (cPort p 9) + 1) % 2 ^ 64 else s.counter off :=
  State.counter_count _ _ _ _

end

/-- The time of XOFF is never 0 (R219, R233). -/
theorem State.xoffQuanta_ne (p : Nat) : s.xoffQuanta p ≠ 0 := by
  unfold State.xoffQuanta
  dsimp only
  split <;> omega

/-- XOFF for one priority that the port sends is one PFC frame (R219). -/
theorem State.xoff_one {p k : Nat} (h : s.pfcSends p k = true) :
    s.xoff p [k] = (s.emit (.pfc p (2 ^ k) ((List.range 8).map (fun i => if i = k then s.xoffQuanta p else 0)))).count
      (cPort p 15) 1 := by
  simp [State.xoff, State.sendPfc, h, State.xoffQuanta_ne]

theorem State.xoff_unsent {p k : Nat} (h : s.pfcSends p k = false) : s.xoff p [k] = s := by
  simp [State.xoff, State.sendPfc, h]

/-- Settles O27: each received frame sets the stops it names (`foldl_takePfc`, `State.paused_stopOf`), and the withdrawal
that follows leaves them and the frame's own counter. -/
theorem flowControl : Obligations.FlowControl := by
  refine ⟨fun p en times s h hv => ?_, fun p en times s h => ⟨_, exec_pfcRx_down h, rfl⟩,
    fun p en times s h hv => ⟨_, exec_pfcRx_viaduct h hv, rfl⟩, fun p q s h hb => ?_, fun p q x s h hb hq hx hs hr hp => ?_,
    fun p q s h => ⟨_, exec_pauseRx_down h, rfl⟩, fun p q s h hb => ⟨_, exec_pauseRx_ignored h hb, rfl⟩, fun p k s => ?_,
    fun p k s hc hs => ?_, fun p k s h => ?_⟩
  · obtain ⟨hMoves, hStops⟩ := foldl_takePfc (s := s.count (cPort p 8) 1) p en times 8
    refine ⟨_, exec_pfcRx_ordinary h hv, ?_, fun k hk => ?_, ?_⟩
    · rw [State.withdraw_cPort _ (.inl rfl), State.counter_moves hMoves (by decide), State.counter_count, if_pos rfl]
    · exact (State.withdraw_stopOf _ _).trans ((hStops k).trans (if_congr (and_iff_right hk) rfl rfl))
    · exact (State.withdraw_moves.same .regs (by decide)).trans (hMoves.same .regs (by decide))
  · refine ⟨_, exec_pauseRx_stops h hb, ?_, ?_, fun i hi => ?_⟩
    · rw [State.withdraw_cPort _ (.inr rfl), State.paused_counter, if_pos rfl]
    · exact (State.withdraw_stopOf _ _).trans ((State.paused_stopOf _).trans (if_pos rfl))
    · exact (State.withdraw_stopOf _ _).trans ((State.paused_stopOf _).trans (if_neg hi))
  · have hStopped : (s.paused p q).queueStopped x.queue = true := by
      refine State.queueStopped_port ?_
      rw [hp, State.paused_stopOf, if_pos rfl]
      exact fun h0 => hq (BitVec.eq_of_toNat_eq h0)
    obtain ⟨hTx, hAhead, hCount⟩ := State.withdraw_spec (s := s.paused p q) hx hs hr hStopped
    have hPort : cQueue x.queue 4 ≠ cPort p 9 := by unfold cQueue cPort; omega
    rw [State.paused_counter, if_neg hPort] at hCount
    exact ⟨_, exec_pauseRx_stops h hb, hTx, hAhead, hCount⟩
  · cases k with
    | some k => exact ⟨_, rfl, (State.setStop_stopOf _ _ _ _).trans (if_pos rfl),
        fun i hi => (State.setStop_stopOf _ _ _ _).trans (if_neg hi), State.setStop_moves.only⟩
    | none => exact ⟨_, rfl, (State.setStop_stopOf _ _ _ _).trans (if_pos rfl),
        fun i hi => (State.setStop_stopOf _ _ _ _).trans (if_neg hi), State.setStop_moves.only⟩
  · refine ⟨_, (if_pos hc).trans (congrArg Host.Outcome.next (State.xoff_one hs)), rfl, ?_, ?_⟩
    · rw [State.counter_count, if_pos rfl]
      rfl
    · exact (Moves.step State.count_moves (by decide) (State.emit_moves.mono (by decide))).only
  · rcases h with h | h
    · exact ⟨s, if_neg (by simp [h]), rfl⟩
    · refine ⟨s, ?_, rfl⟩
      have hXoff : s.xoff p [k.val] = s := State.xoff_unsent h
      simp only [exec, execPfcXoffRefresh, hXoff, ite_self]

end Sys2Proof.Machine
end

section
/-! PROOFS. The cells of an arriving frame: what is written of them, and what is discarded. -/

namespace Sys2Proof.Machine

variable {s : State}

/-! ### The arrival is discarded (R32, R188, R443) -/

theorem State.rxDiscard_rxFrame (p : Nat) (f : RxFrame) :
    (s.rxDiscard p f).rxFrame p = some { f with discard := true, desc := none } := by
  unfold State.rxDiscard
  rw [State.rxFrame_moves State.checkDrained_moves (by decide), State.rxFrame_setRx, if_pos rfl]

/-- The receiver forgets the frame's descriptor, whatever becomes of what has been written. -/
theorem State.dropRx_rxFrame (p : Nat) (f : RxFrame) :
    (s.dropRx p f).rxFrame p = some { f with discard := true, desc := none } := State.rxDiscard_rxFrame p f

theorem State.dropRx_noCell {p : Nat} {f : RxFrame} (h : f.desc = none) : s.dropRx p f = s.rxDiscard p f := by
  simp only [State.dropRx, h]

/-- The arrival is discarded, and counted under an event of the port. -/
theorem State.dropRx_counted {p : Nat} {f : RxFrame} (h : f.desc = none) (e : Nat) :
    ((s.dropRx p f).count (cPort p e) 1).counter (cPort p e) = (s.counter (cPort p e) + 1) % 2 ^ 64
      ∧ OnlyTouches [.regs, .rx, .counters] s ((s.dropRx p f).count (cPort p e) 1) := by
  rw [State.dropRx_noCell h]
  constructor
  · rw [State.counter_count, if_pos rfl, State.counter_moves State.rxDiscard_moves (by decide)]
  · exact (Moves.step State.count_moves (by decide) (State.rxDiscard_moves.mono (by decide))).only

theorem State.headDiscard_rxFrame (p : Nat) (f : RxFrame) :
    (s.headDiscard p f).rxFrame p = some { f with discard := true, desc := none } := by
  unfold State.headDiscard
  rw [State.rxFrame_moves (State.latchFault_s_halts _ _ _ _ (pipeOfSource_mac p)) (by decide),
    State.rxFrame_moves State.count_moves (by decide), State.dropRx_rxFrame]

theorem State.headDiscard_source {p : Nat} {f : RxFrame} (h : f.desc = none) (x : Nat) :
    (s.headDiscard p f).source x = if x = macSource p
      then latched (s.source (macSource p)) ((s.dropRx p f).count (cPort p 6) 1) .s 0 false else s.source x := by
  have hDrop (y : Nat) : ((s.dropRx p f).count (cPort p 6) 1).source y = s.source y := by
    rw [State.dropRx_noCell h, State.source_moves State.count_moves (by decide), State.source_moves State.rxDiscard_moves (by decide)]
  unfold State.headDiscard
  rw [State.latchFault_source _ _ _ _ _ _ (.inr (by decide)) (.inl (pipeOfSource_mac p)), hDrop, hDrop]

/-! ### A cell is written (R164, R165, R175, R180) -/

/-- The link word that a cell of frame `d` takes. -/
def State.cellLink (s : State) (d c : Nat) (bytes : List Byte) (last : Bool) : LinkWord where
  last := last
  alloc := true
  refcnt := if (s.desc d).cells = 0 then 1 else (s.link (s.desc d).first).refcnt
  owner := if (s.desc d).cells = 0 then (s.info d).arrivalHolder else (s.link (s.desc d).first).owner
  fill := bytes.length - 1
  guard := crc32c bytes ^^^ guardFold c (s.desc d).dest (s.desc d).seq

/-- The bytes and the link word of the cell are written; the frame does not count it yet. -/
def State.storeCell (s : State) (d c : Nat) (bytes : List Byte) (last : Bool) : State :=
  ({ s with buf := { s.buf with mem := writeCellBytes s.buf.mem (c * 256) bytes } }).setLink c (s.cellLink d c bytes last)

section
variable {d : Nat} (c : Nat) (bytes : List Byte) (last : Bool)

theorem State.writeCell_first (h : (s.desc d).cells = 0) :
    s.writeCell d c bytes last
      = (s.storeCell d c bytes last).setDesc d { s.desc d with first := c, last := c, cells := 1 } := by
  simp only [State.writeCell, State.storeCell, State.cellLink, h, if_true]

theorem State.writeCell_next (h : (s.desc d).cells ≠ 0) :
    s.writeCell d c bytes last
      = ((s.storeCell d c bytes last).setLink (s.desc d).last
          { (s.storeCell d c bytes last).link (s.desc d).last with next := c }).setDesc d
          { s.desc d with last := c, cells := (s.desc d).cells + 1 } := by
  simp only [State.writeCell, State.storeCell, State.cellLink, h, if_false]

theorem State.storeCell_link : (s.storeCell d c bytes last).link c = s.cellLink d c bytes last :=
  (State.link_setLink _ _ _).trans (if_pos rfl)

theorem State.storeCell_cellByte (a : Nat) : (s.storeCell d c bytes last).cellByte a =
    if c * 256 ≤ a ∧ a < c * 256 + bytes.length then bytes.getD (a - c * 256) 0 else s.cellByte a := by
  rw [List.getD_eq_getElem?_getD]
  exact writeCellBytes_get _ _ _ _

theorem State.storeCell_byte {k : Nat} (h : k < bytes.length) :
    (s.storeCell d c bytes last).cellByte (c * 256 + k) = bytes.getD k 0 := by
  rw [State.storeCell_cellByte, if_pos (by omega), Nat.add_sub_cancel_left]

/-- Bytes outside the cell's run stay. -/
theorem State.storeCell_outside {a : Nat} (h : a < c * 256 ∨ c * 256 + bytes.length ≤ a) :
    (s.storeCell d c bytes last).cellByte a = s.cellByte a := by
  rw [State.storeCell_cellByte, if_neg (by omega)]

end

/-! ### The first cell of a frame (R32, R164, R168) -/

/-- The arrival queue that has grown changes nothing of the receivers but who has been asked to stop (R32). -/
theorem State.arrivalXoff_rx (g : Nat) : ∃ l, (s.arrivalXoff g).rx = { s.rx with xoff := l } := by
  unfold State.arrivalXoff
  split
  · exact ⟨_, State.arrivalPfc_moves.same .rx (by decide)⟩
  · exact ⟨s.rx.xoff, rfl⟩

/-- The record that a frame of a port starts with. -/
def State.firstInfo (s : State) (p : Nat) (f : RxFrame) : FrameInfo where
  port := p
  deck := f.deck
  viaduct := f.viaduct
  cfg := f.cfg
  stamp := f.stamp
  ctMask := s.fld 0x40 15 0

/-- The frame has its descriptor, its record and its place in the HEAD region; no cell is written yet. -/
def State.openFrame (s : State) (p d : Nat) (f : RxFrame) : State :=
  ((s.setDesc d { alloc := true, gen := f.gen, tsIn := f.tsIn, dest := 0xFFFF }).setInfo d (s.firstInfo p f)).setHeadUse p
    (s.headUse p + 1)

/-- The receiver knows the frame's descriptor, and the frame is the last of its group's arrival queue. -/
def State.enqueueArrival (s : State) (p d n : Nat) (f : RxFrame) : State :=
  let u := s.setRx p (some { f with desc := some d, bytes := n })
  (u.setArrivals (portGroup p) (u.arrivals (portGroup p) ++ [d])).arrivalXoff (portGroup p)

theorem State.firstCell_eq (p d c : Nat) (f : RxFrame) (bytes : List Byte) (last : Bool) :
    s.firstCell p d c f bytes last = ((s.openFrame p d f).writeCell d c bytes last).enqueueArrival p d bytes.length f := rfl

section
variable (p d n : Nat) (f : RxFrame)

theorem State.enqueueArrival_moves : Moves [.rx, .counters, .emitted] s (s.enqueueArrival p d n f) :=
  .step State.arrivalXoff_moves (by decide) (.step State.setArrivals_moves (by decide) (State.setRx_moves.mono (by decide)))

/-- What the receiver and the arrival queue hold once the frame has joined it; no frame's record changes. -/
theorem State.enqueueArrival_spec :
    (s.enqueueArrival p d n f).rxFrame p = some { f with desc := some d, bytes := n }
      ∧ (s.enqueueArrival p d n f).arrivals (portGroup p) = s.arrivals (portGroup p) ++ [d]
      ∧ (s.enqueueArrival p d n f).info d = s.info d := by
  obtain ⟨l, hRx⟩ := State.arrivalXoff_rx
    (s := (s.setRx p (some { f with desc := some d, bytes := n })).setArrivals (portGroup p) (s.arrivals (portGroup p) ++ [d]))
    (portGroup p)
  have hRx : (s.enqueueArrival p d n f).rx = _ := hRx
  refine ⟨?_, ?_, ?_⟩
  · rw [State.rxFrame, hRx]
    exact (State.rxFrame_setRx (s := s) p p (some { f with desc := some d, bytes := n })).trans (if_pos rfl)
  · rw [State.arrivals, hRx]
    exact (State.arrivals_setArrivals (s := s.setRx p _) (portGroup p) _ _).trans (if_pos rfl)
  · rw [State.info, hRx]
    rfl

theorem State.openFrame_desc :
    (s.openFrame p d f).desc d = { alloc := true, gen := f.gen, tsIn := f.tsIn, dest := 0xFFFF } :=
  (State.desc_setDesc (s := s) _ _ _).trans (if_pos rfl)

theorem State.openFrame_info : (s.openFrame p d f).info d = s.firstInfo p f :=
  (State.info_setInfo (s := s.setDesc d _) _ _ _).trans (if_pos rfl)

theorem State.openFrame_headUse : (s.openFrame p d f).headUse p = s.headUse p + 1 :=
  (State.headUse_setHeadUse _ _ _).trans (if_pos rfl)

end

/-- What the first cell of a frame leaves: the descriptor and the link word name each other, the cell holds the bytes, and
the frame waits in its group's arrival queue. -/
theorem State.firstCell_spec (p d c : Nat) (f : RxFrame) (bytes : List Byte) (last : Bool) :
    (s.firstCell p d c f bytes last).desc d
        = { alloc := true, first := c, last := c, cells := 1, gen := f.gen, tsIn := f.tsIn, dest := 0xFFFF }
      ∧ (s.firstCell p d c f bytes last).info d = s.firstInfo p f
      ∧ (s.firstCell p d c f bytes last).headUse p = s.headUse p + 1
      ∧ (s.firstCell p d c f bytes last).link c = (s.openFrame p d f).cellLink d c bytes last
      ∧ (s.firstCell p d c f bytes last).rxFrame p = some { f with desc := some d, bytes := bytes.length }
      ∧ (s.firstCell p d c f bytes last).arrivals (portGroup p) = s.arrivals (portGroup p) ++ [d]
      ∧ ∀ a, (s.firstCell p d c f bytes last).cellByte a = ((s.openFrame p d f).storeCell d c bytes last).cellByte a := by
  have hNone : ((s.openFrame p d f).desc d).cells = 0 := by rw [State.openFrame_desc]
  have hWrite := State.writeCell_first c bytes last hNone
  have hMoves := State.enqueueArrival_moves (s := (s.openFrame p d f).writeCell d c bytes last) p d bytes.length f
  obtain ⟨hRx, hQueue, hInfo⟩ := State.enqueueArrival_spec (s := (s.openFrame p d f).writeCell d c bytes last) p d bytes.length f
  rw [State.firstCell_eq]
  refine ⟨?_, ?_, ?_, ?_, hRx, ?_, fun a => ?_⟩
  · rw [State.desc_moves hMoves (by decide), hWrite, State.desc_setDesc, if_pos rfl, State.openFrame_desc]
  · rw [hInfo, State.info_moves State.writeCell_moves (by decide), State.openFrame_info]
  · rw [State.headUse_moves hMoves (by decide), hWrite]
    exact State.openFrame_headUse p d f
  · rw [State.link_moves hMoves (by decide), hWrite]
    exact State.storeCell_link _ _ _
  · rw [hQueue, State.arrivals_moves State.writeCell_moves (by decide)]
    rfl
  · rw [State.cellByte_moves hMoves (by decide), hWrite]
    rfl

/-! ### A later cell of a frame (R164, R186) -/

section
variable {p d : Nat} {f : RxFrame} {bytes : List Byte} {last : Bool} {full : List Nat}

/-- A later cell of a frame has its place in the HEAD region, and is written and counted. -/
def State.laterCell (s : State) (p d c : Nat) (f : RxFrame) (bytes : List Byte) (last : Bool) : State :=
  ((s.setHeadUse p (s.headUse p + 1)).writeCell d c bytes last).setRx p (some { f with bytes := f.bytes + bytes.length })

/-- A cell of a frame that is not yet classified takes its place in the HEAD region. -/
theorem State.nextCell_head {v : State} {c : Nat} (hs : (s.info d).stopped = false) (hr : (s.info d).revoked = false)
    (hq : (s.desc d).quar = false) (hc : (s.info d).classified = false) (hh : s.headFull p = false)
    (ha : s.allocCell (portGroup p) (s.cellDie p (some d)) full = (v, some c)) :
    s.nextCell p d f bytes last full = v.laterCell p d c f bytes last := by
  simp [State.nextCell, State.laterCell, hs, hr, hq, hc, hh, ha]

/-- What the write of a later cell leaves: the chain goes on with it, and it carries the holders of the first. -/
theorem State.writeCell_next_spec {c : Nat} (h : (s.desc d).cells ≠ 0) (hl : (s.desc d).last ≠ c) :
    (s.writeCell d c bytes last).desc d = { s.desc d with last := c, cells := (s.desc d).cells + 1 }
      ∧ ((s.writeCell d c bytes last).link (s.desc d).last).next = c
      ∧ (s.writeCell d c bytes last).link c = s.cellLink d c bytes last
      ∧ ∀ a, (s.writeCell d c bytes last).cellByte a = (s.storeCell d c bytes last).cellByte a := by
  rw [State.writeCell_next c bytes last h]
  refine ⟨(State.desc_setDesc _ _ _).trans (if_pos rfl), ?_, ?_, fun a => rfl⟩
  · exact congrArg LinkWord.next ((State.link_setLink (s := s.storeCell d c bytes last) _ _ _).trans (if_pos rfl))
  · exact ((State.link_setLink (s := s.storeCell d c bytes last) _ _ _).trans (if_neg (Ne.symm hl))).trans
      (State.storeCell_link _ _ _)

/-- What a later cell leaves: it is written, takes its place in the HEAD region, and the receiver counts its bytes. -/
theorem State.laterCell_spec {c : Nat} (h : (s.desc d).cells ≠ 0) (hl : (s.desc d).last ≠ c) :
    (s.laterCell p d c f bytes last).desc d = { s.desc d with last := c, cells := (s.desc d).cells + 1 }
      ∧ ((s.laterCell p d c f bytes last).link (s.desc d).last).next = c
      ∧ (s.laterCell p d c f bytes last).link c = s.cellLink d c bytes last
      ∧ (s.laterCell p d c f bytes last).headUse p = s.headUse p + 1
      ∧ (s.laterCell p d c f bytes last).rxFrame p = some { f with bytes := f.bytes + bytes.length }
      ∧ ∀ a, (s.laterCell p d c f bytes last).cellByte a = (s.storeCell d c bytes last).cellByte a := by
  obtain ⟨hDesc, hNext, hLink, hByte⟩ := State.writeCell_next_spec (s := s.setHeadUse p (s.headUse p + 1)) (d := d)
    (bytes := bytes) (last := last) (c := c) h hl
  have hMoves : Moves [.rx] ((s.setHeadUse p (s.headUse p + 1)).writeCell d c bytes last) (s.laterCell p d c f bytes last) :=
    State.setRx_moves.mono (by decide)
  refine ⟨(State.desc_moves hMoves (by decide) _).trans hDesc,
    (congrArg LinkWord.next (State.link_moves hMoves (by decide) _)).trans hNext,
    (State.link_moves hMoves (by decide) _).trans hLink, (State.headUse_moves hMoves (by decide) _).trans ?_,
    (State.rxFrame_setRx _ _ _).trans (if_pos rfl), fun a => (State.cellByte_moves hMoves (by decide) a).trans (hByte a)⟩
  rw [State.writeCell_next (s := s.setHeadUse p (s.headUse p + 1)) c bytes last h]
  exact (State.headUse_setHeadUse (s := s) p p (s.headUse p + 1)).trans (if_pos rfl)

end

/-! ### The command (R21) -/

section
variable {p : Port} {bytes : List Byte} {last : Bool} {full : List Nat} {f : RxFrame} (hf : s.rxFrame p = some f)
include hf

theorem exec_cellWrite_discarding (hd : f.discard = true) :
    exec (.cellWrite p bytes last full) s = .next (s.setRx p (some { f with bytes := f.bytes + bytes.length })) := by
  simp only [exec, execCellWrite, hf, hd, if_true]

theorem exec_cellWrite_waits (hd : f.discard = false) (h : bytes = [] ∨ s.bufferPaused = true) :
    exec (.cellWrite p bytes last full) s = .next s := by
  rcases h with rfl | hp
  · simp [exec, execCellWrite, hf, hd]
  · simp [exec, execCellWrite, hf, hd, hp]

variable (hd : f.discard = false) (hp : s.bufferPaused = false) (hb : bytes ≠ [])
include hd hp hb

theorem exec_cellWrite_safe (hm : s.chip.mode = .safe) :
    exec (.cellWrite p bytes last full) s
      = .next ((s.dropRx p { f with bytes := f.bytes + bytes.length }).count (cPort p 7) 1) := by
  simp [exec, execCellWrite, hf, hd, hp, hb, hm]

variable (hm : s.chip.mode ≠ .safe)
include hm

theorem exec_cellWrite_long (hl : 16384 < f.bytes + bytes.length ∨ s.mtu p < f.bytes + bytes.length) :
    exec (.cellWrite p bytes last full) s
      = .next ((s.dropRx p { f with bytes := f.bytes + bytes.length }).count (cPort p 3) 1) := by
  simp [exec, execCellWrite, hf, hd, hp, hb, hm, hl]

variable (hl : f.bytes + bytes.length ≤ 16384 ∧ f.bytes + bytes.length ≤ s.mtu p)
include hl

theorem exec_cellWrite_later {d : Nat} (hDesc : f.desc = some d) :
    exec (.cellWrite p bytes last full) s = .next (s.nextCell p d f bytes last full) := by
  simp [exec, execCellWrite, hf, hd, hp, hb, hm, Nat.not_lt.mpr hl.1, Nat.not_lt.mpr hl.2, hDesc]

variable (hDesc : f.desc = none) (hStart : s.startDiscard p = none)
include hDesc hStart

theorem exec_cellWrite_headFull (hh : s.headFull p = true) :
    exec (.cellWrite p bytes last full) s = .next (s.headDiscard p { f with bytes := f.bytes + bytes.length }) := by
  simp [exec, execCellWrite, hf, hd, hp, hb, hm, Nat.not_lt.mpr hl.1, Nat.not_lt.mpr hl.2, hDesc, hStart, hh]

theorem exec_cellWrite_first (hh : s.headFull p = false) {v : State} {c d : Nat}
    (hCell : (s.allocCell (portGroup p) (dieOf p) full).2 = some c)
    (hFree : (s.allocCell (portGroup p) (dieOf p) full).1.allocDesc = some (v, d)) :
    exec (.cellWrite p bytes last full) s = .next (v.firstCell p d c f bytes last) := by
  simp [exec, execCellWrite, hf, hd, hp, hb, hm, Nat.not_lt.mpr hl.1, Nat.not_lt.mpr hl.2, hDesc, hStart, hh, hCell, hFree]

end

theorem exec_cellWrite_none {p : Port} {bytes : List Byte} {last : Bool} {full : List Nat} (h : s.rxFrame p = none) :
    exec (.cellWrite p bytes last full) s = .next s := by
  simp only [exec, execCellWrite, h]

/-- An arrival queue with room starts the frame (R32). -/
theorem State.startDiscard_room {p : Nat} (hm : s.chip.mode ≠ .safe) (hh : s.inHold (portGroup p) = false)
    (h : (s.arrivals (portGroup p)).length < 8192
      ∨ (s.lossless (getBits (s.portCfg p) 9 6) = true ∧ (s.arrivals (portGroup p)).length < 16384)) :
    s.startDiscard p = none := by
  simp only [State.startDiscard, hh, hm]
  rcases h with h | ⟨hl, h⟩
  · simp [show ¬ 16384 ≤ (s.arrivals (portGroup p)).length by omega, show ¬ 8192 ≤ (s.arrivals (portGroup p)).length by omega]
  · simp [hl, show ¬ 16384 ≤ (s.arrivals (portGroup p)).length by omega]

/-- Settles O16: each clause is one case of the command (`exec_cellWrite_…`), and what that case leaves. -/
theorem cellsArrive : Obligations.CellsArrive := by
  refine ⟨fun p bytes last full s f hf hd => ?_, fun p bytes last full s f hf hd hp hb hNone hm => ?_,
    fun p bytes last full s f hf hd hp hb hNone hm hl => ?_, fun p bytes last full s f hf hd hp hb h => ?_,
    fun p bytes last full s v f c d hf hd hp hb hNone hm hl hh hRoom hHead hCell hFree => ?_,
    fun p bytes last full s f hf hd hp hb hNone hm hl hh hRoom hHead => ?_,
    fun p bytes last full s v f c d hf hd hp hb hDesc hm hl hs hr hq hc hHead hCell hSome hLast => ?_,
    fun p bytes last full s h => ?_⟩
  · exact ⟨_, exec_cellWrite_discarding hf hd, (State.rxFrame_setRx _ _ _).trans (if_pos rfl),
      fun q hq => (State.rxFrame_setRx _ _ _).trans (if_neg hq), State.setRx_moves.only⟩
  · obtain ⟨hCount, hOnly⟩ := State.dropRx_counted (s := s) (p := p) (f := { f with bytes := f.bytes + bytes.length }) hNone 7
    exact ⟨_, exec_cellWrite_safe hf hd hp hb hm, hCount, State.dropRx_rxFrame _ _, hOnly⟩
  · obtain ⟨hCount, hOnly⟩ := State.dropRx_counted (s := s) (p := p) (f := { f with bytes := f.bytes + bytes.length }) hNone 3
    exact ⟨_, exec_cellWrite_long hf hd hp hb hm hl, hCount, State.dropRx_rxFrame _ _, hOnly⟩
  · by_cases hm : s.chip.mode = .safe
    · exact ⟨_, exec_cellWrite_safe hf hd hp hb hm, State.dropRx_rxFrame _ _⟩
    · exact ⟨_, exec_cellWrite_long hf hd hp hb hm (h.resolve_left hm), State.dropRx_rxFrame _ _⟩
  · obtain ⟨hD, hInfo, hUse, hLink, hFrame, hQueue, hByte⟩ := State.firstCell_spec (s := v) p d c f bytes last
    have hEmpty : ((v.openFrame p d f).desc d).cells = 0 := by rw [State.openFrame_desc]
    have hRef : (v.firstCell p d c f bytes last |>.link c).refcnt = 1 := by rw [hLink]; exact if_pos hEmpty
    have hOwner : (v.firstCell p d c f bytes last |>.link c).owner = holderArrival p := by
      rw [hLink]
      exact (if_pos hEmpty).trans (by rw [State.openFrame_info]; rfl)
    have hKeeps (a : Nat) : v.cellByte a = s.cellByte a :=
      (State.cellByte_moves (State.allocDesc_moves hFree) (by decide) a).trans
        (State.cellByte_moves State.allocCell_moves (by decide) a)
    refine ⟨_, exec_cellWrite_first hf hd hp hb hm hl hNone (State.startDiscard_room hm hh hRoom) hHead hCell hFree,
      by rw [hD], by rw [hD], by rw [hD], by rw [hD], by rw [hD], by rw [hD], by rw [hInfo]; rfl, hUse, by rw [hLink]; rfl, hRef,
      hOwner, by rw [hLink]; rfl, hFrame, hQueue, fun k hk => ?_, fun a ha => ?_⟩
    · exact (hByte _).trans (State.storeCell_byte c bytes last hk)
    · exact ((hByte _).trans (State.storeCell_outside c bytes last ha)).trans (hKeeps a)
  · have hSource := State.headDiscard_source (s := s) (p := p) (f := { f with bytes := f.bytes + bytes.length }) hNone
    have hMac := (hSource (macSource p)).trans (if_pos rfl)
    exact ⟨_, exec_cellWrite_headFull hf hd hp hb hm hl hNone (State.startDiscard_room hm hh hRoom) hHead,
      State.headDiscard_rxFrame _ _, congrArg SourceRec.cause hMac, congrArg SourceRec.cls hMac,
      fun x hx => (hSource x).trans (if_neg hx)⟩
  · obtain ⟨hD, hNext, hLink, hUse, hFrame, hByte⟩ := State.laterCell_spec (s := v) (p := p) (f := f) (bytes := bytes)
      (last := last) hSome hLast
    have hRef : ((v.laterCell p d c f bytes last).link c).refcnt = (v.link (v.desc d).first).refcnt := by
      rw [hLink]; exact if_neg hSome
    have hOwner : ((v.laterCell p d c f bytes last).link c).owner = (v.link (v.desc d).first).owner := by
      rw [hLink]; exact if_neg hSome
    exact ⟨_, (exec_cellWrite_later hf hd hp hb hm hl hDesc).trans
      (congrArg Host.Outcome.next (State.nextCell_head hs hr hq hc hHead hCell)), by rw [hD], by rw [hD], by rw [hD], hNext, hUse,
      by rw [hLink]; rfl, hRef, hOwner, by rw [hLink]; rfl, hFrame, fun k hk => (hByte _).trans (State.storeCell_byte c bytes last hk)⟩
  · rcases h with h | ⟨h, hw⟩
    · exact ⟨s, exec_cellWrite_none h, rfl⟩
    · cases hf : s.rxFrame p with
      | none => exact ⟨s, exec_cellWrite_none hf, rfl⟩
      | some f => exact ⟨s, exec_cellWrite_waits hf (by simpa [hf] using h) hw, rfl⟩

end Sys2Proof.Machine
end

section
/-! PROOFS. Two statements that fail in states no run of the device reaches. -/

namespace Sys2Proof.Machine

/-! ### A lockstep pair whose fenced copy is none of its three (R26, R437) -/

/-- The buffer pool's pair, about to give its grants back, with copy 0x900 in the place of the copy that failed. -/
def State.foreignCopy : State :=
  { State.reset with chip := { State.reset.chip with lockPool := { phase := .joining, failed := some 0x900 } } }

/-- The source that a fault of copy 0x900 is latched at lies past the block's own sources. -/
theorem lockSource_foreign : lockSource .bufferPool 0x900 = 0x10140 := rfl

/-- Refutes O13: the statement lets the copy that failed be any number, and that of a copy that is none of the pair's three
leads past the block's sources to one that names a pipeline of a span the device does not have. The class-S reaction to it
then latches a second source as well. A copy is one of 0 to 2 in every state that a run reaches. -/
theorem not_lockstepPairs : ¬ Obligations.LockstepPairs := by
  unfold Obligations.LockstepPairs
  rintro ⟨-, -, -, -, -, -, -, hResume, -⟩
  have hSecond : ∀ t, exec (.lockstepResume .bufferPool) State.foreignCopy = .next t → (t.source 0x1003E).cause = true := by
    intro t e
    obtain rfl := Host.Outcome.next.inj e
    decide
  obtain ⟨t, e, -, -, -, -, -, -, -, hOthers⟩ := hResume .bufferPool 0x900 State.foreignCopy (fun h => nomatch h)
    (fun h => nomatch h) (fun _ => rfl) rfl rfl (by decide)
  have hKept := hOthers 0x1003E (by rw [lockSource_foreign]; decide)
  have hClear : (State.foreignCopy.source 0x1003E).cause = false := by decide
  exact absurd ((congrArg SourceRec.cause hKept).symm.trans (hSecond t e)) (by rw [hClear]; decide)

/-! ### A frame in reception that its record calls ended (R243, R297) -/

/-- What the receiver of port 0 holds: 10,000 bytes of the frame of descriptor 0. -/
def endedRx : RxFrame := { desc := some 0, bytes := 10000 }

/-- Port 0 still receives the frame of descriptor 0, while the frame's record says that it has ended and its one copy waits
in queue 0, with credit enough for its bytes. -/
def State.endedInReception : State :=
  { State.reset with
    rx := { frames := [(0, some endedRx)], info := [(0, { classified := true, ended := true })] }
    cmp := { voq := [(0, { frames := [(0, { desc := 0, idx := 0, tag := 0 })], credit := 10000 })] }
    buf := { desc := [(0, { alloc := true, cells := 1 })], link := [(0, { alloc := true, refcnt := 1, last := true, next := 1 })] } }

/-- Refutes O18: at the end of a bad frame whose record says already that it has ended, the copy that waits is granted once
its length is known and is dropped for the MTU (9,216); its release frees the frame's cell and with it the record, so
the pair takes no void for the sequence. A record says ended, in every state that a run reaches, only after the receiver
has let go of the frame. -/
theorem not_framesEnd : ¬ Obligations.FramesEnd := by
  unfold Obligations.FramesEnd
  rintro ⟨-, hVoid, -⟩
  have hNoPair : ∀ t, exec (.frameEnd 0 false false) State.endedInReception = .next t → (t.order 0).held = [] := by
    intro t e
    obtain rfl := Host.Outcome.next.inj e
    decide
  obtain ⟨t, e, -, -, -, -, -, -, hHeld⟩ := hVoid 0 false false State.endedInReception endedRx 0 rfl rfl (.inl rfl)
    rfl rfl rfl rfl rfl rfl rfl
  have hPair : (State.endedInReception.info 0).pair = 0 := rfl
  rw [hPair, hNoPair t e] at hHeld
  exact List.append_ne_nil_of_right_ne_nil _ (List.cons_ne_nil _ _) hHeld.symm

end Sys2Proof.Machine
end

section
/-! PROOFS. A packet starts in stage 0 of a pipeline: what it brings, and what its start leaves of everything that waits. -/

namespace Sys2Proof.Machine

variable {s t u : State}

/-! ### What waits for the pipelines, after a write of it -/

theorem State.packet_setPacket (i j : Nat) (x : Option Packet) :
    (s.setPacket i x).packet j = if j = i then x else s.packet j := Tbl.get_put _ _ _ _ _

theorem State.pipeOf_setPipe (n m : Nat) (x : PipeState) :
    (s.setPipe n x).pipeOf m = if m = n then x else s.pipeOf m := Tbl.get_put _ _ _ _ _

theorem State.replaysOf_setReplays (g : Nat) (pass : Pass) (l : List Replay) : (s.setReplays g pass l).replaysOf g pass = l :=
  (Tbl.get_put _ _ _ _ _).trans (if_pos rfl)

theorem State.recircQueue_setRecircQueue (g : Nat) (l : List Nat) : (s.setRecircQueue g l).recircQueue g = l :=
  (Tbl.get_put _ _ _ _ _).trans (if_pos rfl)

theorem State.hostQueue_setHostQueue (g : Nat) (l : List Nat) : (s.setHostQueue g l).hostQueue g = l :=
  (Tbl.get_put _ _ _ _ _).trans (if_pos rfl)

theorem State.selectedOf_setSelected (g : Nat) (l : List (Nat × QEntry)) : (s.setSelected g l).selectedOf g = l :=
  (Tbl.get_put _ _ _ _ _).trans (if_pos rfl)

theorem Packet.mdw_setMd (k : Packet) (i c : Nat) (w : Word) : (k.setMd i w).mdw c = if c = i then w else k.mdw c :=
  Tbl.get_put _ _ _ _ _

theorem State.tb0Ns_moves {ps : List StatePart} (m : Moves ps s t) (ht : .time ∉ ps) : t.tb0Ns = s.tb0Ns :=
  congrArg (fun x : TimeState => BitVec.ofNat 32 ((Tbl.get tbDefault x.tb 0).val / nsUnits)) (m.same .time ht)

/-! ### What a reader of a frame finds, after an operation that leaves the buffer alone -/

section
variable {ps : List StatePart} (m : Moves ps s t)
include m

theorem State.cellBytes_moves (hm : .mem ∉ ps) (c n : Nat) : t.cellBytes c n = s.cellBytes c n := by
  simp only [State.cellBytes, State.cellByte_moves m hm]

variable (hb : .buf ∉ ps)
include hb

theorem State.chain_moves (n c : Nat) : t.chain n c = s.chain n c := by
  induction n generalizing c with
  | zero => rfl
  | succ n ih => rw [State.chain, State.chain, ih, State.link_moves m hb]

theorem State.cellsOf_moves (d : Nat) : t.cellsOf d = s.cellsOf d := by
  rw [State.cellsOf, State.cellsOf, State.chain_moves m hb, State.desc_moves m hb]

variable (hm : .mem ∉ ps)
include hm

theorem State.frameBytes_moves (d : Nat) : t.frameBytes d = s.frameBytes d := by
  simp only [State.frameBytes, State.cellsOf_moves m hb, State.cellBytes_moves m hm, State.link_moves m hb]

theorem State.badCell_moves (d dest : Nat) : t.badCell d dest = s.badCell d dest := by
  simp only [State.badCell, State.guardFails, State.cellsOf_moves m hb, State.cellBytes_moves m hm, State.link_moves m hb,
    State.desc_moves m hb]

theorem State.parseOf_moves (hr : .rx ∉ ps) (d : Nat) : t.parseOf d = s.parseOf d := by
  have hWhole : t.wholeFrame d = s.wholeFrame d := by
    rw [State.wholeFrame, State.wholeFrame, State.desc_moves m hb, State.link_moves m hb]
  unfold State.parseOf
  dsimp only
  rw [hWhole, State.frameBytes_moves m hb hm, State.info_moves m hr]

end

/-! ### A packet is placed in stage 0 (R51, R252) -/

/-- The packet in stage 0, shadowed or not, with no HIT bit set in its pass. -/
def Packet.atStart (k : Packet) (shadowed : Bool) : Packet := { k with shadowed := shadowed, stage := 0, hits := [] }

/-- From `s` to `t` the packet `k` starts under the next free number; no other packet changes, and whatever waits for a
slot goes on waiting. -/
structure Starts (s t : State) (k : Packet) : Prop where
  placed   : ∃ b, t.packet s.pipes.nextPkt = some (k.atStart b)
  others   : ∀ i, i ≠ s.pipes.nextPkt → t.packet i = s.packet i
  replays  : ∀ g pass, t.replaysOf g pass = s.replaysOf g pass
  recirc   : ∀ g, t.recircQueue g = s.recircQueue g
  hostTx   : ∀ g, t.hostQueue g = s.hostQueue g
  selected : ∀ g, t.selectedOf g = s.selectedOf g
  vectors  : ∀ n, (t.pipeOf n).katWait = (s.pipeOf n).katWait

theorem State.takeSlot_katWait (no n : Nat) : ((s.takeSlot no).pipeOf n).katWait = (s.pipeOf n).katWait := by
  unfold State.takeSlot
  rw [State.pipeOf_setPipe]
  split
  · next h => rw [h]
  · rfl

/-- The free pipeline runs a packet of this group too (R252). -/
def State.shadows (s : State) (k : Packet) : Bool :=
  let x := s.passOf k.span k.pass
  x.shadowOn && !x.draining && k.group % 4 = x.target

/-- A slot is taken in the packet's pipeline and, for a shadowed one, in the free pipeline. -/
def State.takeSlots (s : State) (k : Packet) : State :=
  if s.shadows k then (s.takeSlot k.no).takeSlot (pipeNo k.span k.pass ((s.passOf k.span k.pass).free.getD 4))
  else s.takeSlot k.no

/-- Taking slots writes the record of the pipelines only, and of it not the vectors that wait. -/
theorem State.takeSlots_eq (k : Packet) : ∃ l, s.takeSlots k = { s with pipes := { s.pipes with pipe := l } }
    ∧ ∀ n, (Tbl.get pipeDefault l n).katWait = (s.pipeOf n).katWait := by
  unfold State.takeSlots
  split
  · exact ⟨_, rfl, fun n => (State.takeSlot_katWait _ n).trans (State.takeSlot_katWait _ n)⟩
  · exact ⟨_, rfl, State.takeSlot_katWait _⟩

/-- Of the pipelines the start of a packet writes the packet and its number, and the slots that are taken. -/
theorem State.startPacket_pipes (k : Packet) : ∃ l, (s.startPacket k).pipes = { s.pipes with
      packets := Tbl.put noPacket s.pipes.packets s.pipes.nextPkt (some (k.atStart (s.shadows k)))
      nextPkt := s.pipes.nextPkt + 1, pipe := l }
    ∧ ∀ n, (Tbl.get pipeDefault l n).katWait = (s.pipeOf n).katWait := by
  obtain ⟨l, hSlots, hWait⟩ := State.takeSlots_eq (s := s) k
  have hStart : (s.startPacket k).pipes = { (s.takeSlots k).pipes with
    packets := Tbl.put noPacket (s.takeSlots k).pipes.packets s.pipes.nextPkt (some (k.atStart (s.shadows k)))
    nextPkt := s.pipes.nextPkt + 1 } := rfl
  exact ⟨l, hStart.trans (by rw [hSlots]), hWait⟩

/-- A packet starts, after a preparation that leaves the pipelines alone. -/
theorem State.startPacket_starts (k : Packet) (hp : u.pipes = s.pipes) : Starts s (u.startPacket k) k := by
  obtain ⟨l, hPipes, hWait⟩ := State.startPacket_pipes (s := u) k
  simp only [hp] at hPipes
  have hPacket (i : Nat) : (u.startPacket k).packet i
      = if i = s.pipes.nextPkt then some (k.atStart (u.shadows k)) else s.packet i := by
    rw [State.packet, congrArg PipesState.packets hPipes, Tbl.get_put]
    rfl
  exact {
    placed := ⟨_, (hPacket _).trans (if_pos rfl)⟩
    others := fun i hi => (hPacket i).trans (if_neg hi)
    replays := fun g pass => (congrArg (fun p : PipesState => Tbl.get noReplays p.replays (replayKey g pass)) hPipes :)
    recirc := fun g => (congrArg (fun p : PipesState => Tbl.get noNats p.recirc g) hPipes :)
    hostTx := fun g => (congrArg (fun p : PipesState => Tbl.get noNats p.hostTx g) hPipes :)
    selected := fun g => (congrArg (fun p : PipesState => Tbl.get noSelected p.selected g) hPipes :)
    vectors := fun n => calc
      ((u.startPacket k).pipeOf n).katWait = (Tbl.get pipeDefault l n).katWait :=
        congrArg (fun p : PipesState => (Tbl.get pipeDefault p.pipe n).katWait) hPipes
      _ = (u.pipeOf n).katWait := hWait n
      _ = (s.pipeOf n).katWait := congrArg (fun p : PipesState => (Tbl.get pipeDefault p.pipe n).katWait) hp }

/-! ### The metadata of a frame (R45, R47) -/

/-- What the metadata of a frame hold as its pass starts. -/
theorem State.frameMd_get (d : Nat) (p : Parsed) (r : Route) (egress : Bool) (c : Nat) (h3 : c ≠ 3) :
    Tbl.get zeroWord (s.frameMd d p r egress) c =
      if c = 13 then s.tb0Ns else if c = 12 then p.hdrValid else if c = 5 then (s.desc d).tsIn
      else if c = 4 then (s.desc d).seq else if c = 2 then (s.desc d).portinfo else if c = 1 then statusWord r egress else if c = 0 then p.pflags else 0 := by
  simp only [State.frameMd, List.foldl_cons, List.foldl_nil, Tbl.get_put, Tbl.get, zeroWord, if_neg h3]

/-! ### A frame starts its ingress pass (R45, R142) -/

/-- The packet that a frame enters an ingress pipeline as. -/
def State.ingressPacket (s : State) (span g pipe d : Nat) (origin : Origin) (failed : Option Nat) : Packet :=
  let p := if origin = .replay then s.parseOf d else (s.info d).parsed.getD {}
  let r : Route := {
    opcode := s.entryOpcode (pipeNo span .ingress pipe) (s.desc d).gen (s.desc d).portinfo, gen := (s.desc d).gen
    replay := origin = .replay }
  { pass := .ingress, span := span, pipe := pipe, group := g, origin := origin, desc := some d, copy := none
    hv := p.hv, md := s.frameMd d p r false, route := r, parsed := p, failedAt := failed }

/-- What a packet in an ingress pipeline takes from its frame's descriptor, its class's entry opcode and the time (R45,
R142). -/
structure State.BringsFrame (s : State) (span pipe d : Nat) (k : Packet) : Prop where
  gen      : k.route.gen = (s.desc d).gen
  opcode   : k.route.opcode = s.entryOpcode (pipeNo span .ingress pipe) (s.desc d).gen (s.desc d).portinfo
  cleared  : ∀ c, (6 ≤ c ∧ c ≤ 11) ∨ (15 ≤ c ∧ c ≤ 63) → k.mdw c = 0
  portinfo : k.mdw 2 = (s.desc d).portinfo
  seq      : k.mdw 4 = (s.desc d).seq
  tsIn     : k.mdw 5 = (s.desc d).tsIn
  time     : k.mdw 13 = s.tb0Ns

/-- The frame's record, its class's opcode and the time may be read before or after the preparation of its start. -/
theorem State.BringsFrame.of_moves {ps : List StatePart} {span pipe d : Nat} {k : Packet} (m : Moves ps s t)
    (hb : .buf ∉ ps) (hp : .progs ∉ ps) (ht : .time ∉ ps) (h : t.BringsFrame span pipe d k) :
    s.BringsFrame span pipe d k := by
  have hDesc : t.desc d = s.desc d := State.desc_moves m hb d
  have hStore (c key : Nat) : t.store c key = s.store c key := by
    have hProgs : t.progs = s.progs := m.same .progs hp
    simp only [State.store, State.storeBase, hProgs]
  exact {
    gen := h.gen.trans (by rw [hDesc])
    opcode := h.opcode.trans (by simp only [State.entryOpcode, hStore, hDesc])
    cleared := h.cleared
    portinfo := h.portinfo.trans (by rw [hDesc])
    seq := h.seq.trans (by rw [hDesc])
    tsIn := h.tsIn.trans (by rw [hDesc])
    time := h.time.trans (State.tb0Ns_moves m ht) }

variable (span g pipe d : Nat) (origin : Origin) (failed : Option Nat)

theorem State.ingressPacket_mdw (c : Nat) (h3 : c ≠ 3) (h1 : c ≠ 1) (h0 : c ≠ 0) (h12 : c ≠ 12) :
    (s.ingressPacket span g pipe d origin failed).mdw c =
      if c = 13 then s.tb0Ns else if c = 5 then (s.desc d).tsIn else if c = 4 then (s.desc d).seq
      else if c = 2 then (s.desc d).portinfo else 0 :=
  (State.frameMd_get d _ _ _ c h3).trans (by simp only [if_neg h1, if_neg h0, if_neg h12])

theorem State.ingressPacket_brings : s.BringsFrame span pipe d (s.ingressPacket span g pipe d origin failed) := by
  have hMd := State.ingressPacket_mdw (s := s) span g pipe d origin failed
  exact {
    gen := rfl, opcode := rfl
    cleared := fun c hc => by
      rw [hMd c (by omega) (by omega) (by omega) (by omega), if_neg (by omega), if_neg (by omega), if_neg (by omega),
        if_neg (by omega)]
    portinfo := hMd 2 (by decide) (by decide) (by decide) (by decide)
    seq := hMd 4 (by decide) (by decide) (by decide) (by decide)
    tsIn := hMd 5 (by decide) (by decide) (by decide) (by decide)
    time := hMd 13 (by decide) (by decide) (by decide) (by decide) }

theorem State.startIngress_eq : s.startIngress span g pipe d origin failed =
    ((s.drawLength d).setInfo d { s.info d with entered := true }).startPacket
      (s.ingressPacket span g pipe d origin failed) := rfl

theorem State.startIngress_starts :
    Starts s (s.startIngress span g pipe d origin failed) (s.ingressPacket span g pipe d origin failed) :=
  State.startIngress_eq (s := s) span g pipe d origin failed ▸ State.startPacket_starts _
    ((State.setInfo_moves.same .pipes (by decide)).trans (State.drawLength_moves.same .pipes (by decide)))

theorem State.startIngress_entered : ((s.startIngress span g pipe d origin failed).info d).entered = true := by
  rw [State.startIngress_eq, State.info_moves State.startPacket_moves (by decide), State.info_setInfo, if_pos rfl]

theorem State.startIngress_arrivals (n : Nat) : (s.startIngress span g pipe d origin failed).arrivals n = s.arrivals n := by
  rw [State.startIngress_eq, State.arrivals_moves State.startPacket_moves (by decide)]
  exact State.arrivals_moves State.drawLength_moves (by decide) n

/-! ### A copy starts its egress pass (R45, R47) -/

/-- The frame of a copy parsed again as stored, with the node fields of the vendor hook beside it. -/
def State.copyParse (s : State) (c : Nat × QEntry) : Parsed :=
  let bytes := s.frameBytes c.2.desc
  let whole := (s.info c.2.desc).ended
  let p := parseFrame (if whole then bytes.take (bytes.length - 4) else bytes) whole none
  { p with hv := s.ioamStage p.hv (getBits (s.desc c.2.desc).portinfo 9 0) (c.1 / 16) }

/-- The packet that a queue copy enters an egress pipeline as. -/
def State.egressPacket (s : State) (span g pipe : Nat) (c : Nat × QEntry) (origin : Origin) (failed : Option Nat) : Packet :=
  let y := s.desc c.2.desc
  let p := s.copyParse c
  let r : Route := { opcode := y.egOp, gen := y.gen, replay := origin = .replay }
  let md := [(6, setBits y.egress 13 0 c.1), (7, y.copy), (8, y.bridge0), (9, y.bridge1), (10, y.bridge2),
    (11, y.bridge3)].foldl (fun t e => Tbl.put zeroWord t e.1 e.2) (s.frameMd c.2.desc p r true)
  { pass := .egress, span := span, pipe := pipe, group := g, origin := origin, desc := some c.2.desc, copy := some c
    hv := p.hv, md := md, route := r, parsed := p, failedAt := failed }

theorem State.startEgress_eq (c : Nat × QEntry) : s.startEgress span g pipe c origin failed =
    (s.drawLength c.2.desc).startPacket (s.egressPacket span g pipe c origin failed) := rfl

theorem State.startEgress_starts (c : Nat × QEntry) :
    Starts s (s.startEgress span g pipe c origin failed) (s.egressPacket span g pipe c origin failed) :=
  State.startEgress_eq (s := s) span g pipe origin failed c ▸
    State.startPacket_starts _ (State.drawLength_moves.same .pipes (by decide))

/-- What a packet in an egress pipeline takes from its copy and from its frame's descriptor (R45, R47). -/
structure Desc.BringsCopy (y : Desc) (c : Nat × QEntry) (k : Packet) : Prop where
  gen      : k.route.gen = y.gen
  opcode   : k.route.opcode = y.egOp
  portinfo : k.mdw 2 = y.portinfo
  seq      : k.mdw 4 = y.seq
  tsIn     : k.mdw 5 = y.tsIn
  queue    : k.mdw 6 = setBits y.egress 13 0 c.1
  copyWord : k.mdw 7 = y.copy
  bridge0  : k.mdw 8 = y.bridge0
  bridge3  : k.mdw 11 = y.bridge3

theorem State.egressPacket_mdw (c : Nat × QEntry) (n : Nat) :
    (s.egressPacket span g pipe c origin failed).mdw n =
      let y := s.desc c.2.desc
      if n = 11 then y.bridge3 else if n = 10 then y.bridge2 else if n = 9 then y.bridge1 else if n = 8 then y.bridge0
      else if n = 7 then y.copy else if n = 6 then setBits y.egress 13 0 c.1
      else Tbl.get zeroWord (s.frameMd c.2.desc (s.copyParse c)
        { opcode := y.egOp, gen := y.gen, replay := origin = .replay } true) n := by
  simp only [State.egressPacket, Packet.mdw, List.foldl_cons, List.foldl_nil, Tbl.get_put]

theorem State.egressPacket_brings (c : Nat × QEntry) :
    (s.desc c.2.desc).BringsCopy c (s.egressPacket span g pipe c origin failed) := by
  have hMd := State.egressPacket_mdw (s := s) span g pipe origin failed c
  have hFrame (n : Nat) := State.frameMd_get (s := s) c.2.desc (s.copyParse c)
    { opcode := (s.desc c.2.desc).egOp, gen := (s.desc c.2.desc).gen, replay := origin = .replay } true n
  exact {
    gen := rfl, opcode := rfl
    portinfo := (hMd 2).trans (hFrame 2 (by decide))
    seq := (hMd 4).trans (hFrame 4 (by decide))
    tsIn := (hMd 5).trans (hFrame 5 (by decide))
    queue := hMd 6, copyWord := hMd 7, bridge0 := hMd 8, bridge3 := hMd 11 }

/-! ### A known-answer vector starts (R76, R254) -/

/-- The packet that a known-answer vector enters a pipeline as. -/
def State.vectorPacket (s : State) (span g pipe : Nat) (pass : Pass) (v : Bool × Nat) : Packet :=
  let r : Route := { opcode := match pass with | .ingress => 1 | .egress => 2, gen := v.1, kat := true }
  let md := Tbl.put zeroWord (Tbl.put zeroWord [] 1 (statusWord r (pass = .egress))) 13 s.tb0Ns
  { pass := pass, span := span, pipe := pipe, group := g, origin := .kat, desc := none, copy := none, md := md
    hv := (List.range 256).foldl (fun t c => Tbl.put zeroWord t c (Config.katVector v.2 c)) [], route := r, vector := v.2 }

theorem State.startVector_starts (pass : Pass) (v : Bool × Nat) :
    Starts s (s.startVector span g pipe pass v) (s.vectorPacket span g pipe pass v) := State.startPacket_starts _ rfl

end Sys2Proof.Machine
end

section
/-! PROOFS. The order in which a slot is granted, and what each grant leaves. -/

namespace Sys2Proof.Machine

variable {s : State}

/-! ### A slot of an open pipeline that serves a group (R51) -/

section
variable {span : Span} {pipe : PipeNo}

theorem exec_slotGrant_ingress {g : Nat} (hg : (s.passOf span .ingress).groupOf pipe = some g)
    (ho : s.slotOpen span .ingress pipe = true) :
    exec (.pipelineSlotGrant span .ingress pipe) s = .next (s.grantIngress span (span * 4 + g) pipe) := by
  simp [exec, execPipelineSlotGrant, hg, ho]

theorem exec_slotGrant_egress {g : Nat} (hg : (s.passOf span .egress).groupOf pipe = some g)
    (ho : s.slotOpen span .egress pipe = true) :
    exec (.pipelineSlotGrant span .egress pipe) s = .next (s.grantEgress span (span * 4 + g) pipe) := by
  simp [exec, execPipelineSlotGrant, hg, ho]

theorem exec_slotGrant_none {pass : Pass} (h : s.slotOpen span pass pipe = false ∨ (s.passOf span pass).groupOf pipe = none) :
    exec (.pipelineSlotGrant span pass pipe) s = .next s := by
  cases hg : (s.passOf span pass).groupOf pipe with
  | none => simp [exec, execPipelineSlotGrant, hg]
  | some g =>
    have ho : s.slotOpen span pass pipe = false := h.resolve_right (by simp [hg])
    simp [exec, execPipelineSlotGrant, hg, ho]

end

section
variable {span g pipe : Nat}

/-! ### The guards of the cells that are read (R182) -/

theorem State.checkGuards_good {d dest : Nat} {h : Holder} : (s.checkGuards d dest h).2 = true ↔ s.badCell d dest = none := by
  unfold State.checkGuards
  cases s.badCell d dest <;> simp

theorem State.checkGuards_eq {d dest : Nat} (h : Holder) (hb : s.badCell d dest = none) :
    s.checkGuards d dest h = (s, true) := by
  simp only [State.checkGuards, hb]

/-- A reader whose cells hold starts the replay. -/
theorem State.startReplay_good {r : Replay} (hb : s.badCell r.desc (s.desc r.desc).dest = none) :
    s.startReplay span g pipe r
      = (s.count (cPipe (pipeNo span .ingress pipe) 6) 1).startIngress span g pipe r.desc .replay r.failedAt := by
  simp only [State.startReplay, State.checkGuards_eq _ hb, if_true]

theorem State.readEgress_good {c : Nat × QEntry} {origin : Origin} {failed : Option Nat}
    (hb : s.badCell c.2.desc (s.copyReader c).2 = none) :
    s.readEgress span g pipe c origin failed = s.startEgress span g pipe c origin failed := by
  simp only [State.readEgress, State.checkGuards_eq _ hb, if_true]

/-! ### The slot order (R51) -/

/-- The replay that waited longest has left the queue of its group, and its pipeline counts it. -/
def State.unqueueReplay (s : State) (g : Nat) (pass : Pass) (rest : List Replay) (no : Nat) : State :=
  (s.setReplays g pass rest).count (cPipe no 6) 1

theorem State.unqueueReplay_moves {pass : Pass} {rest : List Replay} {no : Nat} :
    Moves [.counters, .pipes] s (s.unqueueReplay g pass rest no) :=
  .step State.count_moves (by decide) (State.setReplays_moves.mono (by decide))

theorem State.unqueueReplay_replaysOf (pass : Pass) (rest : List Replay) (no : Nat) :
    (s.unqueueReplay g pass rest no).replaysOf g pass = rest := State.replaysOf_setReplays g pass rest

theorem State.unqueueReplay_counter (pass : Pass) (rest : List Replay) (no : Nat) :
    (s.unqueueReplay g pass rest no).counter (cPipe no 6) = (s.counter (cPipe no 6) + 1) % 2 ^ 64 :=
  (State.counter_count _ _ _ _).trans (if_pos rfl)

/-- A replay whose cells hold starts its ingress pass again. -/
theorem State.grantIngress_replay {r : Replay} {rest : List Replay} (hr : s.replaysOf g .ingress = r :: rest)
    (hb : s.badCell r.desc (s.desc r.desc).dest = none) :
    s.grantIngress span g pipe = (s.unqueueReplay g .ingress rest (pipeNo span .ingress pipe)).startIngress span g pipe r.desc
      .replay r.failedAt := by
  have hSound := (State.badCell_moves (t := s.setReplays g .ingress rest) State.setReplays_moves (by decide) (by decide)
    _ _).trans hb
  simp only [State.grantIngress, hr]
  exact State.startReplay_good hSound

section
variable (hr : s.replaysOf g .ingress = [])
include hr

theorem State.grantIngress_recirc {i : Nat} {rest : List Nat} (hc : s.recircQueue g = i :: rest) :
    s.grantIngress span g pipe = s.takeRecirc g pipe i := by
  simp only [State.grantIngress, hr, hc]

variable (hc : s.recircQueue g = [])
include hc

theorem State.grantIngress_vector {v : Bool × Nat} {rest : List (Bool × Nat)}
    (hv : (s.pipeOf (pipeNo span .ingress pipe)).katWait = v :: rest) :
    s.grantIngress span g pipe = (s.setPipe (pipeNo span .ingress pipe)
      { s.pipeOf (pipeNo span .ingress pipe) with katWait := rest }).startVector span g pipe .ingress v := by
  simp only [State.grantIngress, hr, hc, hv]

variable (hv : (s.pipeOf (pipeNo span .ingress pipe)).katWait = []) (hRoom : s.reorderUse g < 4096)
include hv hRoom

theorem State.grantIngress_arrival {d : Nat} (ha : s.nextArrival g = some d)
    (hTurn : s.nextHost g = none ∨ Tbl.get (fun _ => false) s.pipes.hostTurn g = false) :
    s.grantIngress span g pipe = s.takeArrival span g pipe d := by
  simp only [State.grantIngress, hr, hc, hv, if_neg (Nat.not_le.mpr hRoom), ha]
  rcases hTurn with h | h
  · simp only [h]
  · rw [h]
    cases s.nextHost g <;> rfl

theorem State.grantIngress_host {d : Nat} (hh : s.nextHost g = some d)
    (hTurn : s.nextArrival g = none ∨ Tbl.get (fun _ => false) s.pipes.hostTurn g = true) :
    s.grantIngress span g pipe = s.takeHost span g pipe d := by
  simp only [State.grantIngress, hr, hc, hv, if_neg (Nat.not_le.mpr hRoom), hh]
  cases ha : s.nextArrival g with
  | none => rfl
  | some a => simp only [hTurn.resolve_left (by simp [ha])]

end

/-- A copy whose cells hold starts its egress pass again. -/
theorem State.grantEgress_replay {r : Replay} {c : Nat × QEntry} {rest : List Replay}
    (hr : s.replaysOf g .egress = r :: rest) (hc : r.copy = some c) (hb : s.badCell c.2.desc (s.copyReader c).2 = none) :
    s.grantEgress span g pipe = (s.unqueueReplay g .egress rest (pipeNo span .egress pipe)).startEgress span g pipe c .replay
      r.failedAt := by
  simp only [State.grantEgress, hr, hc]
  exact State.readEgress_good ((State.badCell_moves State.unqueueReplay_moves (by decide) (by decide) _ _).trans hb)

theorem State.grantEgress_vector (hr : s.replaysOf g .egress = []) {v : Bool × Nat} {rest : List (Bool × Nat)}
    (hv : (s.pipeOf (pipeNo span .egress pipe)).katWait = v :: rest) :
    s.grantEgress span g pipe = (s.setPipe (pipeNo span .egress pipe)
      { s.pipeOf (pipeNo span .egress pipe) with katWait := rest }).startVector span g pipe .egress v := by
  simp only [State.grantEgress, hr, hv]

/-- The copy chosen first starts its egress pass, when its cells hold. -/
theorem State.grantEgress_copy (hr : s.replaysOf g .egress = [])
    (hv : (s.pipeOf (pipeNo span .egress pipe)).katWait = []) {c : Nat × QEntry} {rest : List (Nat × QEntry)}
    (hc : s.selectedOf g = c :: rest) (hb : s.badCell c.2.desc (s.copyReader c).2 = none) :
    s.grantEgress span g pipe = (s.setSelected g rest).startEgress span g pipe c .copy none := by
  simp only [State.grantEgress, hr, hv, hc]
  exact State.readEgress_good ((State.badCell_moves State.setSelected_moves (by decide) (by decide) _ _).trans hb)

/-! ### The oldest frame of the arrival queue (R28, R32) -/

/-- An arrival queue that has shrunk changes nothing of the receivers but who is asked to stop (R32). -/
theorem State.arrivalXon_rx (g : Nat) : ∃ x l, (s.arrivalXon g).rx = { s.rx with xoff := x, overload := l } := by
  unfold State.arrivalXon
  dsimp -proj only
  split
  · split
    · exact ⟨_, _, State.arrivalPfc_moves.same .rx (by decide)⟩
    · exact ⟨s.rx.xoff, _, rfl⟩
  · split
    · exact ⟨_, s.rx.overload, State.arrivalPfc_moves.same .rx (by decide)⟩
    · exact ⟨s.rx.xoff, s.rx.overload, rfl⟩

/-- The oldest frame has left the arrival queue, and the next turn is the host's (R51). -/
def State.unqueueArrival (s : State) (g : Nat) : State :=
  let t := (s.setArrivals g ((s.arrivals g).drop 1)).arrivalXon g
  { t with pipes := { t.pipes with hostTurn := Tbl.put (fun _ => false) t.pipes.hostTurn g true } }

theorem State.takeArrival_eq (d : Nat) :
    s.takeArrival span g pipe d = (s.unqueueArrival g).startIngress span g pipe d .arrival none := rfl

theorem State.unqueueArrival_moves : Moves [.counters, .emitted, .rx, .pipes] s (s.unqueueArrival g) :=
  .pipes (by decide) (.step State.arrivalXon_moves (by decide) (State.setArrivals_moves.mono (by decide)))

theorem State.unqueueArrival_rx : ∃ x l, (s.unqueueArrival g).rx
    = { (s.setArrivals g ((s.arrivals g).drop 1)).rx with xoff := x, overload := l } := State.arrivalXon_rx g

theorem State.unqueueArrival_info (d : Nat) : (s.unqueueArrival g).info d = s.info d := by
  obtain ⟨x, l, hRx⟩ := State.unqueueArrival_rx (s := s) (g := g)
  rw [State.info, hRx]
  rfl

theorem State.unqueueArrival_arrivals : (s.unqueueArrival g).arrivals g = (s.arrivals g).drop 1 := by
  obtain ⟨x, l, hRx⟩ := State.unqueueArrival_rx (s := s) (g := g)
  rw [State.arrivals, hRx]
  exact (State.arrivals_setArrivals g g _).trans (if_pos rfl)

/-- The packets in the pipelines are as they were. -/
theorem State.unqueueArrival_packets :
    (s.unqueueArrival g).pipes.nextPkt = s.pipes.nextPkt ∧ ∀ i, (s.unqueueArrival g).packet i = s.packet i := by
  have hPipes : ((s.setArrivals g ((s.arrivals g).drop 1)).arrivalXon g).pipes = s.pipes :=
    State.arrivalXon_moves.same .pipes (by decide)
  exact ⟨(congrArg PipesState.nextPkt hPipes :),
    fun i => (congrArg (fun p : PipesState => Tbl.get noPacket p.packets i) hPipes :)⟩

/-! ### The oldest packet of a host ring (R386) -/

/-- The oldest packet has left the host queue, and the next turn is the arrivals' (R51). -/
def State.unqueueHost (s : State) (g : Nat) : State :=
  let t := s.setHostQueue g ((s.hostQueue g).drop 1)
  { t with pipes := { t.pipes with hostTurn := Tbl.put (fun _ => false) t.pipes.hostTurn g false } }

theorem State.takeHost_eq (d : Nat) :
    s.takeHost span g pipe d = (s.unqueueHost g).startIngress span g pipe d .host none := rfl

theorem State.unqueueHost_moves : Moves [.pipes] s (s.unqueueHost g) := .pipes (by decide) State.setHostQueue_moves

theorem State.unqueueHost_hostQueue : (s.unqueueHost g).hostQueue g = (s.hostQueue g).drop 1 :=
  State.hostQueue_setHostQueue g _

/-! ### The second pass of a packet (R69, R74) -/

/-- The packet that a packet which recirculates starts its second pass as. -/
def State.secondPass (s : State) (pipe : Nat) (x : Packet) : Packet :=
  { (x.setMd 13 s.tb0Ns).setMd 1 (statusWord x.route false) with pipe := pipe, origin := .recirc, latched := {} }

theorem State.secondPass_mdw (x : Packet) (c : Nat) : (s.secondPass pipe x).mdw c =
    if c = 1 then statusWord x.route false else if c = 13 then s.tb0Ns else x.mdw c :=
  (Packet.mdw_setMd _ _ _ _).trans (by rw [Packet.mdw_setMd])

/-- The packet has left the queue of its group and its place in the pipelines. -/
def State.unqueueRecirc (s : State) (g i : Nat) : State :=
  (s.setRecircQueue g ((s.recircQueue g).drop 1)).setPacket i none

theorem State.takeRecirc_eq {i : Nat} {x : Packet} (hx : s.packet i = some x) : s.takeRecirc g pipe i =
    ((s.unqueueRecirc g i).count (cPipe x.no 7) 1).startPacket (s.secondPass pipe x) := by
  have hKeep : (s.setRecircQueue g ((s.recircQueue g).drop 1)).packet i = some x := hx
  simp only [State.takeRecirc, hKeep]
  rfl

theorem State.unqueueRecirc_packet (i j : Nat) : (s.unqueueRecirc g i).packet j = if j = i then none else s.packet j :=
  State.packet_setPacket _ _ _

theorem State.unqueueRecirc_queue (i : Nat) : (s.unqueueRecirc g i).recircQueue g = (s.recircQueue g).drop 1 :=
  State.recircQueue_setRecircQueue g _

end

/-- A grant to a vector that waits, in either pass. -/
theorem exec_slotGrant_vector {span : Span} {pass : Pass} {pipe : PipeNo} {g : Nat} {v : Bool × Nat}
    {rest : List (Bool × Nat)}
    (hg : (s.passOf span pass).groupOf pipe = some g) (ho : s.slotOpen span pass pipe = true)
    (hr : s.replaysOf (span * 4 + g) pass = []) (hc : pass = .egress ∨ s.recircQueue (span * 4 + g) = [])
    (hv : (s.pipeOf (pipeNo span pass pipe)).katWait = v :: rest) :
    exec (.pipelineSlotGrant span pass pipe) s = .next ((s.setPipe (pipeNo span pass pipe)
      { s.pipeOf (pipeNo span pass pipe) with katWait := rest }).startVector span (span * 4 + g) pipe pass v) := by
  cases pass with
  | ingress => rw [exec_slotGrant_ingress hg ho, State.grantIngress_vector hr (hc.resolve_left (by decide)) hv]
  | egress => rw [exec_slotGrant_egress hg ho, State.grantEgress_vector hr hv]

/-- Settles O19: each clause is one case of the slot order (`grantIngress_…`, `grantEgress_…`), what the packet brings
(`ingressPacket_brings`, `egressPacket_brings`), and what its start leaves (`Starts`). -/
theorem slotsTakePackets : Obligations.SlotsTakePackets := by
  refine ⟨fun span pipe s g d hg ho hr hc hv hRoom ha hTurn => ?_, fun span pipe s g d hg ho hr hc hv hRoom hh hTurn => ?_,
    fun span pipe s g r rest hg ho hr hGuards => ?_, fun span pipe s g i rest x hg ho hr hc hx hi => ?_,
    fun span pass pipe s g v rest hg ho hr hc hv => ?_, fun span pipe s g r c rest hg ho hr hCopy hGuards => ?_,
    fun span pipe s g c rest hg ho hr hv hc hGuards => ?_, fun span pass pipe s h => ⟨s, exec_slotGrant_none h, rfl⟩⟩
  · have hBrings := (State.ingressPacket_brings span (span * 4 + g) pipe d .arrival none).of_moves
      (State.unqueueArrival_moves (s := s) (g := span * 4 + g)) (by decide) (by decide) (by decide)
    have hHv := congrArg (fun x : FrameInfo => (x.parsed.getD {}).hv) (State.unqueueArrival_info (s := s)
      (g := span * 4 + g) d)
    have hStarts := State.startIngress_starts (s := s.unqueueArrival (span * 4 + g)) span (span * 4 + g) pipe d .arrival none
    obtain ⟨hNext, hPacket⟩ := State.unqueueArrival_packets (s := s) (g := span * 4 + g)
    obtain ⟨b, hPlaced⟩ := hStarts.placed
    rw [hNext] at hPlaced
    rw [exec_slotGrant_ingress hg ho, State.grantIngress_arrival hr hc hv hRoom ha hTurn, State.takeArrival_eq]
    exact ⟨_, rfl,
      ⟨_, hPlaced, rfl, rfl, hHv, rfl, rfl, rfl, rfl, rfl, rfl, rfl, hBrings.gen, rfl, hBrings.opcode, hBrings.cleared,
        hBrings.portinfo, hBrings.seq, hBrings.tsIn, hBrings.time⟩,
      (State.startIngress_arrivals _ _ _ _ _ _ _).trans State.unqueueArrival_arrivals,
      State.startIngress_entered _ _ _ _ _ _, fun i hi => (hStarts.others i (by rwa [hNext])).trans (hPacket i)⟩
  · have hBrings := (State.ingressPacket_brings span (span * 4 + g) pipe d .host none).of_moves
      (State.unqueueHost_moves (s := s) (g := span * 4 + g)) (by decide) (by decide) (by decide)
    have hStarts := State.startIngress_starts (s := s.unqueueHost (span * 4 + g)) span (span * 4 + g) pipe d .host none
    obtain ⟨b, hPlaced⟩ := hStarts.placed
    rw [exec_slotGrant_ingress hg ho, State.grantIngress_host hr hc hv hRoom hh hTurn, State.takeHost_eq]
    exact ⟨_, rfl,
      ⟨_, hPlaced, rfl, rfl, rfl, rfl, rfl, rfl, rfl, rfl, rfl, hBrings.gen, rfl, hBrings.opcode, hBrings.cleared,
        hBrings.portinfo, hBrings.seq, hBrings.tsIn, hBrings.time⟩,
      (hStarts.hostTx _).trans State.unqueueHost_hostQueue, State.startIngress_entered _ _ _ _ _ _, hStarts.others⟩
  · have hQueued := State.unqueueReplay_moves (s := s) (g := span * 4 + g) (pass := .ingress) (rest := rest)
      (no := pipeNo span .ingress pipe)
    have hBrings := (State.ingressPacket_brings span (span * 4 + g) pipe r.desc .replay r.failedAt).of_moves hQueued (by decide)
      (by decide) (by decide)
    have hHv := congrArg Parsed.hv (State.parseOf_moves hQueued (by decide) (by decide) (by decide) r.desc)
    have hStarts := State.startIngress_starts (s := s.unqueueReplay (span * 4 + g) .ingress rest (pipeNo span .ingress pipe))
      span (span * 4 + g) pipe r.desc .replay r.failedAt
    obtain ⟨b, hPlaced⟩ := hStarts.placed
    rw [exec_slotGrant_ingress hg ho, State.grantIngress_replay hr (State.checkGuards_good.mp hGuards)]
    exact ⟨_, rfl,
      ⟨_, hPlaced, rfl, rfl, hHv, rfl, rfl, rfl, rfl, rfl, rfl, rfl, rfl, hBrings.gen, rfl, hBrings.opcode, hBrings.cleared,
        hBrings.portinfo, hBrings.seq, hBrings.tsIn, hBrings.time⟩,
      (hStarts.replays _ _).trans (State.unqueueReplay_replaysOf _ _ _),
      (State.counter_moves State.startIngress_moves (by decide) _).trans (State.unqueueReplay_counter _ _ _),
      hStarts.others⟩
  · have hMd := State.secondPass_mdw (s := s) (pipe := pipe) x
    have hStarts := State.startPacket_starts (s := s.unqueueRecirc (span * 4 + g) i)
      (u := (s.unqueueRecirc (span * 4 + g) i).count (cPipe x.no 7) 1) (s.secondPass pipe x) rfl
    have hOther (j : Nat) (hj : j ≠ s.pipes.nextPkt) := (hStarts.others j hj).trans (State.unqueueRecirc_packet i j)
    obtain ⟨b, hPlaced⟩ := hStarts.placed
    rw [exec_slotGrant_ingress hg ho, State.grantIngress_recirc hr hc, State.takeRecirc_eq hx]
    exact ⟨_, rfl,
      ⟨_, hPlaced, rfl, rfl, rfl, rfl, rfl, rfl, rfl, rfl, rfl, rfl, hMd 13, hMd 1,
        fun c h1 h13 => (hMd c).trans ((if_neg h1).trans (if_neg h13))⟩,
      (hOther i hi).trans (if_pos rfl), (hStarts.recirc _).trans ((State.unqueueRecirc_queue i).trans (by rw [hc]; rfl)),
      fun j hj hNext => (hOther j hNext).trans (if_neg hj)⟩
  · have hWait := congrArg PipeState.katWait ((State.pipeOf_setPipe (s := s) (pipeNo span pass pipe) (pipeNo span pass pipe)
      { s.pipeOf (pipeNo span pass pipe) with katWait := rest }).trans (if_pos rfl))
    have hStarts := State.startVector_starts (s := s.setPipe (pipeNo span pass pipe)
      { s.pipeOf (pipeNo span pass pipe) with katWait := rest }) span (span * 4 + g) pipe pass v
    obtain ⟨b, hPlaced⟩ := hStarts.placed
    exact ⟨_, exec_slotGrant_vector hg ho hr hc hv,
      ⟨_, hPlaced, rfl, rfl, rfl, rfl, rfl, rfl, rfl, by cases pass <;> rfl⟩, (hStarts.vectors _).trans hWait, hStarts.others,
      (Moves.step State.startVector_moves (by decide) State.setPipe_moves).only⟩
  · have hBrings := State.egressPacket_brings (s := s.unqueueReplay (span * 4 + g) .egress rest (pipeNo span .egress pipe))
      span (span * 4 + g) pipe .replay r.failedAt c
    have hStarts := State.startEgress_starts (s := s.unqueueReplay (span * 4 + g) .egress rest (pipeNo span .egress pipe))
      span (span * 4 + g) pipe .replay r.failedAt c
    obtain ⟨b, hPlaced⟩ := hStarts.placed
    rw [exec_slotGrant_egress hg ho, State.grantEgress_replay hr hCopy (State.checkGuards_good.mp hGuards)]
    exact ⟨_, rfl,
      ⟨_, hPlaced, rfl, rfl, rfl, rfl, rfl, rfl, rfl, rfl, rfl, rfl, hBrings.gen, hBrings.opcode, hBrings.portinfo, hBrings.seq,
        hBrings.tsIn, hBrings.queue, hBrings.copyWord, hBrings.bridge0, hBrings.bridge3⟩,
      (hStarts.replays _ _).trans (State.unqueueReplay_replaysOf _ _ _), hStarts.others⟩
  · have hBrings := State.egressPacket_brings (s := s.setSelected (span * 4 + g) rest) span (span * 4 + g) pipe .copy none c
    have hStarts := State.startEgress_starts (s := s.setSelected (span * 4 + g) rest) span (span * 4 + g) pipe .copy none c
    obtain ⟨b, hPlaced⟩ := hStarts.placed
    rw [exec_slotGrant_egress hg ho, State.grantEgress_copy hr hv hc (State.checkGuards_good.mp hGuards)]
    exact ⟨_, rfl,
      ⟨_, hPlaced, rfl, rfl, rfl, rfl, rfl, rfl, rfl, rfl, rfl, hBrings.gen, hBrings.opcode, hBrings.portinfo, hBrings.seq,
        hBrings.tsIn, hBrings.queue, hBrings.copyWord, hBrings.bridge0, hBrings.bridge3⟩,
      (hStarts.selected _).trans (State.selectedOf_setSelected _ _), hStarts.others⟩

end Sys2Proof.Machine
end

section
/-! PROOFS. The end of an ingress pass that names no queue and has requested a copy (R61, R62, R293). -/

namespace Sys2Proof.Machine

/-- A frame in the last stage of its ingress pass, which has ended early: its words have asked for a mirror copy and named
no queue. -/
def unqueuedMirror : Packet where
  pass := .ingress
  span := 0
  pipe := 0
  group := 0
  origin := .arrival
  desc := some 0
  copy := none
  stage := 23
  route := { ended := true }
  latched := { mirror := true, nodigest := true }

/-- The device with that frame as packet 0. -/
def State.withUnqueuedMirror : State := State.reset.setPacket 0 (some unqueuedMirror)

/-- The stage finds no error of its stores, its lookup or its checks. -/
def soundStage : StageEvent where
  checkFails := false
  corrected := 0
  rowFixed := none
  mismatch := false
  digestBad := false

/-- The copies that the results held for a pair have requested. -/
def PairOrder.heldRequests (o : PairOrder) : List CopyReq :=
  o.held.flatMap fun h => match h.2 with
    | .result r => r.requests
    | .void => []

/-- Refutes O20: the statement takes the requests of the result from the pass as its last word left it, and the device takes
them once the frame that named no queue is dropped with 0xFC: the mirror copy says DROP, with that reason (R62, R293). Any
frame whose words latch MIRROR and name no queue shows the difference. -/
theorem not_stagesExecute : ¬ Obligations.StagesExecute := by
  unfold Obligations.StagesExecute
  rintro ⟨-, -, -, -, -, -, hResult, -⟩
  have hDropped : ∀ t, exec (.stageExecute 0 soundStage) State.withUnqueuedMirror = .next t →
      (t.order 0).heldRequests = [{ mirror := true, cpu := false, md7 := 0, drop := true, reason := 0xFC }] := by
    intro t e
    obtain rfl := Host.Outcome.next.inj e
    decide
  obtain ⟨t, e, -, -, hOrder, -⟩ := hResult 0 unqueuedMirror soundStage State.withUnqueuedMirror 0 rfl rfl rfl rfl (.inl rfl)
    rfl rfl rfl rfl rfl rfl rfl rfl rfl
  have hClaimed : (t.order 0).heldRequests = [{ mirror := true, cpu := false, md7 := 0, drop := false, reason := 0 }] :=
    (congrArg PairOrder.heldRequests hOrder).trans (by decide)
  exact absurd ((hDropped t e).symm.trans hClaimed) (by decide)

end Sys2Proof.Machine
end

section
/-! PROOFS. What a fault leaves of the counters: its record takes a cell, which the pool counts, and nothing else is counted. -/

namespace Sys2Proof.Machine

variable {s : State}

/-- A cell taken for a record counts among the cells taken, and nowhere else (R170, R296). -/
theorem State.takeHead_counter (w die n : Nat) {off : Nat} (h : off ≠ cChip 2) :
    (s.takeHead w die n).1.counter off = s.counter off := by
  induction n generalizing s with
  | zero => rfl
  | succ n ih =>
    unfold State.takeHead
    generalize (if (s.usableGroups w die).isEmpty then 1 - die else die) = die'
    dsimp only
    split
    · rfl
    · have hPop (g : Nat) : (({ s with freeCount := s.freeCount + 1 } : State).popRecord g).1.counter off = s.counter off :=
        State.counter_moves State.popRecord_moves (by decide) off
      split
      · exact ih.trans (hPop _)
      · rw [State.counter_count, if_neg h]
        exact hPop _

theorem State.record_counter (src : Nat) (cls : FaultClass) (flags : Nat) {off : Nat} (h : off ≠ cChip 2) :
    (s.record src cls flags).counter off = s.counter off := by
  have hCell : s.recordCell.1.counter off = s.counter off := State.takeHead_counter _ _ _ h
  unfold State.record
  dsimp -proj only
  split
  · rfl
  · split
    · rfl
    · split
      · exact hCell
      · exact hCell

theorem State.latchCore_counter (src : Nat) (cls : FaultClass) (detail : Nat) (live threshold safe : Bool) {off : Nat}
    (h : off ≠ cChip 2) : (s.latchCore src cls detail live threshold safe).counter off = s.counter off := by
  unfold State.latchCore
  dsimp -proj only
  rw [State.counter_moves State.irq_moves (by decide)]
  split
  · exact State.record_counter _ _ _ h
  · rfl

/-- A fault whose reactions count nothing counts the cell of its record alone. -/
theorem State.latchFault_counter_of (src : Nat) (cls : FaultClass) (detail : Nat) (live threshold : Bool) {off : Nat}
    (h : off ≠ cChip 2) (hReact : ∀ t : State, (t.decideFault src cls).counter off = t.counter off) :
    (s.latchFault src cls detail live threshold).counter off = s.counter off := by
  have hLatch (b c : Bool) : (((s.setReacting b).latchCore src cls detail live threshold c).haltFor src).counter off
      = s.counter off :=
    (State.counter_moves State.haltFor_moves (by decide) off).trans (State.latchCore_counter _ _ _ _ _ _ h)
  unfold State.latchFault
  dsimp -proj only
  rw [State.counter_moves State.setReacting_moves (by decide)]
  split
  · exact hLatch _ _
  · exact (hReact _).trans (hLatch _ _)

theorem State.latchFault_n_counter (src detail : Nat) (live threshold : Bool) {off : Nat} (h : off ≠ cChip 2) :
    (s.latchFault src .n detail live threshold).counter off = s.counter off :=
  State.latchFault_counter_of _ _ _ _ _ h fun _ => State.counter_moves (State.decideFault_n_moves _) (by decide) _

theorem State.latchFault_s_counter (src detail : Nat) (live threshold : Bool) (hp : pipeOfSource src = none) {off : Nat}
    (h : off ≠ cChip 2) : (s.latchFault src .s detail live threshold).counter off = s.counter off :=
  State.latchFault_counter_of _ _ _ _ _ h fun _ => State.counter_moves (State.decideFault_s_moves _ hp) (by decide) _

theorem cPort_ne_cChip (p e n : Nat) (hn : n < 64) : cPort p e ≠ cChip n := by
  unfold cPort cChip
  omega

end Sys2Proof.Machine
end

section
/-! PROOFS. The start of a frame: what its receiver takes, and when the arrival is discarded. -/

namespace Sys2Proof.Machine

variable {s : State}

/-! ### Why a frame is discarded at its start (R32, R262, R443) -/

theorem State.startDiscard_held {p : Nat} (h : s.inHold (portGroup p) = true ∨ s.chip.mode = .safe) :
    s.startDiscard p = some 7 := by
  simp [State.startDiscard, h]

theorem State.startDiscard_lossy {p : Nat} (hh : s.inHold (portGroup p) = false) (hm : s.chip.mode ≠ .safe)
    (hl : s.lossless (getBits (s.portCfg p) 9 6) = false) (hn : 8192 ≤ (s.arrivals (portGroup p)).length) :
    s.startDiscard p = some 4 := by
  simp [State.startDiscard, hh, hm, hl, hn]

theorem State.startDiscard_lossless {p : Nat} (hh : s.inHold (portGroup p) = false) (hm : s.chip.mode ≠ .safe)
    (hl : s.lossless (getBits (s.portCfg p) 9 6) = true) (hn : 16384 ≤ (s.arrivals (portGroup p)).length) :
    s.startDiscard p = some 5 := by
  simp [State.startDiscard, hh, hm, hl, hn]

/-! ### The receiver at a start (R108) -/

/-- What the receiver of a port takes at the start of a frame (R108). -/
def State.startedRx (s : State) (p : Nat) (deck : DWord) : RxFrame where
  gen := s.activeGen
  tsIn := s.tb0Ns
  stamp := s.stamp
  deck := if s.viaduct p then deck else 0
  viaduct := s.viaduct p
  cfg := s.portCfg p

/-- The arrival is discarded, and the port counts it under `e`. -/
def State.refuseStart (s : State) (p : Nat) (f : RxFrame) (e : Nat) : State :=
  (s.setRx p (some { f with discard := true })).count (cPort p e) 1

/-- The overload of the frame's group has begun (R32). -/
def State.overloadStart (s : State) (p : Nat) : State :=
  { s with rx := { s.rx with overload := addOnce s.rx.overload (portGroup p) } }

/-- The source of a group's overload (R32, R427). -/
def overloadSource (p : Nat) : Nat := srcSpan (p / 64) 0x18 (portGroup p % 4)

theorem pipeOfSource_overload (p : Nat) : pipeOfSource (overloadSource p) = none := by
  have hBlock : overloadSource p / 0x40 % 64 = 0x18 := by
    unfold overloadSource srcSpan
    omega
  unfold pipeOfSource
  dsimp only
  rw [hBlock, if_neg (by omega), if_neg (by omega)]

theorem State.setRx_overload (p : Nat) (x : Option RxFrame) : (s.setRx p x).rx.overload = s.rx.overload := rfl

theorem State.discardStart_plain {p e : Nat} {f : RxFrame} (h : e ≠ 5 ∨ portGroup p ∈ s.rx.overload) :
    s.discardStart p f e = s.refuseStart p f e := by
  refine if_neg ?_
  rw [State.count_rx, State.setRx_overload]
  rcases h with h | h <;> simp [h]

theorem State.discardStart_first {p : Nat} {f : RxFrame} (h : portGroup p ∉ s.rx.overload) :
    s.discardStart p f 5 = (((s.refuseStart p f 5).overloadStart p).latchFault (overloadSource p) .s).nameFault
      (overloadSource p) [p] :=
  if_pos (by rw [State.count_rx, State.setRx_overload]; simp [h])

section
variable (p : Nat) (f : RxFrame) (e : Nat)

theorem State.refuseStart_moves : Moves [.rx, .counters] s (s.refuseStart p f e) :=
  .step State.count_moves (by decide) (State.setRx_moves.mono (by decide))

theorem State.refuseStart_rxFrame (q : Nat) :
    (s.refuseStart p f e).rxFrame q = if q = p then some { f with discard := true } else s.rxFrame q :=
  State.rxFrame_setRx _ _ _

theorem State.refuseStart_counter :
    (s.refuseStart p f e).counter (cPort p e) = (s.counter (cPort p e) + 1) % 2 ^ 64 :=
  (State.counter_count _ _ _ _).trans (if_pos rfl)

end

/-! ### The command (R108) -/

section
variable {p : Port} {deck : DWord}

theorem exec_frameStart_none (h : s.available p = false ∨ (s.rxFrame p).isSome = true) :
    exec (.frameStart p deck) s = .next s :=
  if_pos (by rcases h with h | h <;> simp [h])

variable (ha : s.available p = true) (hn : s.rxFrame p = none)
include ha hn

theorem exec_frameStart_taken (h : s.startDiscard p = none) :
    exec (.frameStart p deck) s = .next (s.setRx p (some (s.startedRx p deck))) := by
  simp [exec, execFrameStart, ha, hn, h, State.startedRx]

theorem exec_frameStart_discarded {e : Nat} (h : s.startDiscard p = some e) :
    exec (.frameStart p deck) s = .next (s.discardStart p (s.startedRx p deck) e) := by
  simp [exec, execFrameStart, ha, hn, h, State.startedRx]

/-- A discarded start that begins no overload counts under its event and stops the receiver. -/
theorem exec_frameStart_refused {e : Nat} (h : s.startDiscard p = some e) (he : e ≠ 5 ∨ portGroup p ∈ s.rx.overload) :
    ∃ t, exec (.frameStart p deck) s = .next t ∧ t.counter (cPort p e) = (s.counter (cPort p e) + 1) % 2 ^ 64 ∧
      t.rxFrame p = some { s.startedRx p deck with discard := true } ∧ (∀ q, q ≠ p.val → t.rxFrame q = s.rxFrame q) ∧
      OnlyTouches [.rx, .counters] s t :=
  ⟨_, (exec_frameStart_discarded ha hn h).trans (congrArg _ (State.discardStart_plain he)),
    State.refuseStart_counter _ _ _, (State.refuseStart_rxFrame _ _ _ _).trans (if_pos rfl),
    fun _ hq => (State.refuseStart_rxFrame _ _ _ _).trans (if_neg hq), (State.refuseStart_moves _ _ _).only⟩

end

theorem State.source_nameFault (src : Nat) (names : List Nat) (x : Nat) : (s.nameFault src names).source x
    = if x = src then { s.source src with names := names } else s.source x := Tbl.get_put _ _ _ _ _

/-- A class-S fault of no pipeline that names something shows in its source alone, and counts only the cell of its record. -/
theorem State.namedFault_s (src : Nat) (names : List Nat) (hp : pipeOfSource src = none) {t : State}
    (ht : t = (s.latchFault src .s).nameFault src names) :
    (∀ off, off ≠ cChip 2 → t.counter off = s.counter off) ∧ t.rx = s.rx ∧ (t.source src).cause = true ∧ (t.source src).cls = .s ∧
      (∀ x, x ≠ src → t.source x = s.source x) ∧ FaultFrame s t := by
  subst ht
  have hSource (x : Nat) := State.latchFault_source (s := s) src .s 0 false false x (.inr (by decide)) (.inl hp)
  refine ⟨fun off h => State.latchFault_s_counter src 0 false false hp h,
    (State.latchFault_s_halts src 0 false false hp).same .rx (by decide), ?_, ?_, fun x hx => ?_,
    (State.latchFault_frame _ _ _ _ _ (by decide)).trans (.of_regs rfl)⟩
  · rw [State.source_nameFault, if_pos rfl, hSource, if_pos rfl]
    rfl
  · rw [State.source_nameFault, if_pos rfl, hSource, if_pos rfl]
    rfl
  · rw [State.source_nameFault, if_neg hx, hSource, if_neg hx]

/-- What the first discard of an overload leaves beside its fault: the counter, the receivers, and the mark of the
overload (R32). -/
theorem State.discardStart_first_spec {p : Nat} (f : RxFrame) (h : portGroup p ∉ s.rx.overload) {t : State}
    (ht : t = s.discardStart p f 5) :
    t.counter (cPort p 5) = (s.counter (cPort p 5) + 1) % 2 ^ 64 ∧
      (∀ q, t.rxFrame q = if q = p then some { f with discard := true } else s.rxFrame q) ∧
      portGroup p ∈ t.rx.overload ∧ (t.source (overloadSource p)).cause = true ∧ (t.source (overloadSource p)).cls = .s ∧
      (∀ x, x ≠ overloadSource p → t.source x = s.source x) ∧ FaultFrame s t := by
  obtain ⟨hCount, hRx, hCause, hCls, hOther, hFrame⟩ :=
    State.namedFault_s _ _ (pipeOfSource_overload p) (ht.trans (State.discardStart_first h))
  have hIn : portGroup p ∈ addOnce s.rx.overload (portGroup p) := by simp [addOnce, h]
  refine ⟨(hCount _ (cPort_ne_cChip _ _ _ (by decide))).trans (State.refuseStart_counter p f 5), fun q => ?_, ?_, hCause, hCls,
    fun x hx => (hOther x hx).trans (State.source_moves (State.refuseStart_moves p f 5) (by decide) x),
    ((FaultFrame.moves (State.refuseStart_moves p f 5) (by decide)).trans (.of_regs rfl)).trans hFrame⟩
  · exact (congrArg (fun x : RxState => Tbl.get noRx x.frames q) hRx).trans (State.refuseStart_rxFrame p f 5 q)
  · rw [hRx]
    exact hIn

/-- Settles O15: the reason of the discard decides (`State.startDiscard_…`); a start that is taken writes the receiver, one
that is discarded counts, and the first of an overload latches its fault. -/
theorem framesStart : Obligations.FramesStart := by
  refine ⟨fun p deck s ha hn hh hm hRoom => ?_, fun p deck s ha hn h => ?_, fun p deck s ha hn hh hm hl h => ?_,
    fun p deck s ha hn hh hm hl h ho => ?_, fun p deck s ha hn hh hm hl h ho => ?_, fun p deck s h => ?_⟩
  · exact ⟨_, exec_frameStart_taken ha hn (State.startDiscard_room hm hh hRoom), (State.rxFrame_setRx _ _ _).trans (if_pos rfl),
      fun q hq => (State.rxFrame_setRx _ _ _).trans (if_neg hq), State.setRx_moves.only⟩
  · exact exec_frameStart_refused ha hn (State.startDiscard_held h) (.inl (by decide))
  · exact exec_frameStart_refused ha hn (State.startDiscard_lossy hh hm hl h) (.inl (by decide))
  · exact exec_frameStart_refused ha hn (State.startDiscard_lossless hh hm hl h) (.inr ho)
  · obtain ⟨hCount, hRx, hOver, hCause, hCls, hOther, hFrame⟩ := State.discardStart_first_spec (s.startedRx p deck) ho rfl
    exact ⟨_, exec_frameStart_discarded ha hn (State.startDiscard_lossless hh hm hl h), hCount, (hRx p).trans (if_pos rfl),
      fun q hq => (hRx q).trans (if_neg hq), hOver, hCause, hCls, hOther, hFrame⟩
  · exact ⟨s, exec_frameStart_none h, rfl⟩

end Sys2Proof.Machine
end

section
/-! PROOFS. Registers of the block CHIP that an operation leaves alone: what the reads below the fault collector find. -/

namespace Sys2Proof.Machine

variable {s t : State}

theorem FaultFrame.reg_chip (h : FaultFrame s t) {o : Nat} (ho : o < 0x100000) : t.reg o = s.reg o :=
  h o (faultRegister_chip ho)

theorem FaultFrame.fld_chip (h : FaultFrame s t) {o : Nat} (ho : o < 0x100000) (hi lo : Nat) : t.fld o hi lo = s.fld o hi lo :=
  h.fld (faultRegister_chip ho) hi lo

/-! ### Interrupts and faults leave the registers of CHIP (R395, R428) -/

theorem State.fld_irq (n : Nat) {o : Nat} (ho : o < 0x100000) (hi lo : Nat) : (s.irq n).fld o hi lo = s.fld o hi lo :=
  (State.irq_frame n).fld_chip ho hi lo

theorem State.reg_irq (n : Nat) {o : Nat} (ho : o < 0x100000) : (s.irq n).reg o = s.reg o := (State.irq_frame n).reg_chip ho

theorem State.fld_latchFault (src : Nat) (cls : FaultClass) (detail : Nat) (live threshold : Bool) (hc : cls ≠ .d) {o : Nat}
    (ho : o < 0x100000) (hi lo : Nat) : (s.latchFault src cls detail live threshold).fld o hi lo = s.fld o hi lo :=
  (State.latchFault_frame _ _ _ _ _ hc).fld_chip ho hi lo

theorem State.fld_latchCore (src : Nat) (cls : FaultClass) (detail : Nat) (live threshold safe : Bool) {o : Nat}
    (ho : o < 0x100000) (hi lo : Nat) : (s.latchCore src cls detail live threshold safe).fld o hi lo = s.fld o hi lo :=
  (State.latchCore_frame _ _ _ _ _ _).fld_chip ho hi lo

/-- A bit is a field of one bit. -/
theorem State.bit_eq_fld (o i : Nat) : s.bit o i = decide (s.fld o i i = 1) := rfl

theorem State.bit_of_fld {o i : Nat} (h : t.fld o i i = s.fld o i i) : t.bit o i = s.bit o i := by
  rw [State.bit_eq_fld, State.bit_eq_fld, h]

theorem State.activeGen_of_fld (h : t.fld 0x204 0 0 = s.fld 0x204 0 0) : t.activeGen = s.activeGen := State.bit_of_fld h

end Sys2Proof.Machine
end

section
/-! PROOFS. Joints: how they are armed, cancelled, checked and forced. -/

namespace Sys2Proof.Machine

variable {s : State}

/-! ### A write of JNT_CTRL (R118) -/

/-- JNT_CTRL has no locked field: a write of it is taken, and refused in no state. -/
theorem State.writeOrdinary_jntCtrl (v : Word) : ∃ w, s.writeOrdinary 0x200 v = s.setReg 0x200 w :=
  have hRow : regRow 0x200 = some (Reg.one 0x200 [Reg.o .wo 11 11 0, Reg.f .rw 10 10 0, Reg.o .wo 9 9 0, Reg.o .w1s 8 8 0,
    Reg.f .rw 5 0 0]) := by decide
  ⟨_, State.writeOrdinary_taken hRow (.inr (by simp [rwlDiffers, Reg.one, Reg.o, Reg.f]))⟩

section
variable {v : Word}

theorem State.writeJoint_arm (ha : getBits v 8 8 = 1) (hc : getBits v 9 9 = 0) (hn : getBits v 11 11 = 0) :
    s.writeJoint v = (s.writeOrdinary 0x200 v).jointArm := by
  simp [State.writeJoint, ha, hc, hn]

theorem State.writeJoint_cancel (ha : getBits v 8 8 = 0) (hc : getBits v 9 9 = 1) (hn : getBits v 11 11 = 0) :
    s.writeJoint v = (s.writeOrdinary 0x200 v).jointCancelled := by
  simp [State.writeJoint, ha, hc, hn]

theorem State.writeJoint_now (ha : getBits v 8 8 = 0) (hc : getBits v 9 9 = 0) (hn : getBits v 11 11 = 1) :
    s.writeJoint v = (s.writeOrdinary 0x200 v).jointNow := by
  simp [State.writeJoint, ha, hc, hn]

end

/-! ### What JNT_CTRL does not enter (R112, R113) -/

section
variable (w : Word)

theorem State.activeGen_setJntCtrl : (s.setReg 0x200 w).activeGen = s.activeGen :=
  State.activeGen_of_fld (State.fld_setReg_ne _ _ _ _ _ _ (by decide))

/-- A forced check takes nothing from JNT_CTRL. -/
theorem State.checkCause_setJntCtrl : (s.setReg 0x200 w).checkCause true = s.checkCause true := by
  have hShadow : (s.setReg 0x200 w).shadowState = s.shadowState := State.fld_setReg_ne _ _ _ _ _ _ (by decide)
  simp only [State.checkCause, hShadow]
  rfl

end

theorem State.armCause_lt (i : Nat) : s.armCause i < 16 := by
  unfold State.armCause
  split_ifs <;> omega

theorem State.checkCause_lt (forced : Bool) : s.checkCause forced < 16 := by
  unfold State.checkCause
  split_ifs <;> omega

/-! ### The joint shows its abort (R112, R113) -/

theorem State.showAbort_fld (cause : Nat) (report : Bool) {o hi lo : Nat} (ho : o < 0x100000) :
    (s.showAbort cause report).fld o hi lo = ((s.setBit 0x204 3 true).setFld 0x204 7 4 cause).fld o hi lo := by
  unfold State.showAbort
  cases report
  · exact State.fld_irq _ ho _ _
  · have hReport (t : State) : ((List.range 4).foldl (fun s n =>
        if s.pierSends n then s.pierSend n 0x10 ((Config.jointReport cause).take 252) else s) t).fld o hi lo = t.fld o hi lo :=
      State.fld_moves (Moves.fold (ps := [.emitted, .pierTx]) (fun _ _ => .ite State.pierSend_moves .refl) .refl) (by decide) _ _ _
    rw [if_pos rfl, hReport, State.fld_irq _ ho]

theorem State.showAbort_flag (cause : Nat) (report : Bool) : (s.showAbort cause report).bit 0x204 3 = true := by
  rw [State.bit_eq_fld, State.showAbort_fld _ _ (by decide)]
  simp (disch := omega) [State.setBit, State.fld_setFld_ne, State.fld_setFld_same]

theorem State.showAbort_cause {cause : Nat} (report : Bool) (h : cause < 16) : (s.showAbort cause report).fld 0x204 7 4 = cause := by
  rw [State.showAbort_fld _ _ (by decide), State.fld_setFld_same _ _ _ _ _ (by decide) (by decide)]
  omega

theorem State.showAbort_activeGen (cause : Nat) (report : Bool) : (s.showAbort cause report).activeGen = s.activeGen := by
  refine State.activeGen_of_fld ?_
  rw [State.showAbort_fld _ _ (by decide)]
  simp (disch := omega) [State.setBit, State.fld_setFld_ne]

/-! ### The joint is disarmed (R113) -/

theorem State.disarmJoint_joint : s.disarmJoint.progs.joint = none := by
  unfold State.disarmJoint
  split
  · assumption
  · rfl

/-- Disarming writes ARM of JNT_CTRL and of the slot, and STATE of JNT_STATUS. -/
theorem State.disarmJoint_fld {o hi lo : Nat} (ho : o < 0x200 ∨ o = 0x204 ∧ (hi < 1 ∨ 2 < lo)) (h : lo ≤ hi) :
    s.disarmJoint.fld o hi lo = s.fld o hi lo := by
  unfold State.disarmJoint
  split
  · rfl
  · rcases ho with ho | ⟨rfl, ho⟩
    · simp (disch := omega) only [State.setBit, State.fld_setFld_reg]
      rfl
    · simp (disch := omega) only [State.setBit, State.fld_setFld_reg, State.fld_setFld_ne]
      rfl

theorem State.disarmJoint_activeGen : s.disarmJoint.activeGen = s.activeGen :=
  State.activeGen_of_fld (State.disarmJoint_fld (by decide) (by decide))

theorem State.disarmJoint_reg {o : Nat} (ho : o < 0x200) : s.disarmJoint.reg o = s.reg o := by
  unfold State.disarmJoint
  split
  · rfl
  · simp (disch := omega) only [State.setBit, State.reg_setFld_ne]
    rfl

/-! ### The arm (R112) -/

theorem State.jointArm_taken (hn : s.progs.joint = none) (hc : s.armCause (s.fld 0x200 5 0) = 0) {t : State}
    (ht : t = s.jointArm) : t.progs.joint = some (s.fld 0x200 5 0) ∧ t.progs.jointChecked = false ∧
      t.slotArmed (s.fld 0x200 5 0) = true ∧ t.bit 0x200 8 = true ∧ t.fld 0x204 2 1 = 1 ∧ t.activeGen = s.activeGen := by
  simp only [State.jointArm, hn, hc, Option.isSome_none, Bool.false_eq_true, if_false, ne_eq, not_true_eq_false] at ht
  subst ht
  refine ⟨rfl, rfl, ?_, ?_, State.fld_setFld_same _ _ _ _ _ (by decide) (by decide), State.activeGen_of_fld ?_⟩
  · rw [State.slotArmed, State.bit_eq_fld]
    simp (disch := omega) [State.setBit, State.fld_setFld_reg, State.fld_setFld_same]
  · rw [State.bit_eq_fld]
    simp (disch := omega) [State.setBit, State.fld_setFld_reg, State.fld_setFld_same]
  · simp (disch := omega) only [State.setBit, State.fld_setFld_reg, State.fld_setFld_ne]
    rfl

theorem State.jointArm_refused (hn : s.progs.joint = none) (hc : s.armCause (s.fld 0x200 5 0) ≠ 0) :
    s.jointArm = s.jointRefused (s.armCause (s.fld 0x200 5 0)) := by
  simp [State.jointArm, hn, hc]

theorem State.jointRefused_spec {c : Nat} (hc : c < 16) {t : State} (ht : t = s.jointRefused c) :
    t.progs = s.progs ∧ t.bit 0x204 3 = true ∧ t.fld 0x204 7 4 = c ∧ t.activeGen = s.activeGen ∧
      (t.source loadSource).cause = true ∧ (t.source loadSource).cls = .n ∧ t.chip = s.chip := by
  subst ht
  have hLatch := State.latchFault_n_moves (s := s.showAbort c false) loadSource (c * 2 ^ 28) false false (by decide)
  have hFld (hi lo : Nat) : (s.jointRefused c).fld 0x204 hi lo = (s.showAbort c false).fld 0x204 hi lo :=
    State.fld_latchFault _ _ _ _ _ (by decide) (by decide) _ _
  obtain ⟨hCause, hCls⟩ := State.latchFault_n_shows (s := s.showAbort c false) loadSource (c * 2 ^ 28) false false
  exact ⟨(hLatch.same .progs (by decide)).trans (State.showAbort_moves.same .progs (by decide)),
    (State.bit_of_fld (hFld 3 3)).trans (State.showAbort_flag _ _), (hFld 7 4).trans (State.showAbort_cause _ hc),
    (State.activeGen_of_fld (hFld 0 0)).trans (State.showAbort_activeGen _ _), hCause, hCls,
    (hLatch.same .chip (by decide)).trans (State.showAbort_moves.same .chip (by decide))⟩

/-! ### The flip (R110, R114) -/

/-- What drains shows in STATE of MC_SHADOW and of JNT_STATUS, and nowhere else. -/
theorem State.checkDrained_fld {o hi lo : Nat} (h : lo ≤ hi) (hs : o ≠ 0x10C ∨ hi < 24)
    (hj : o ≠ 0x204 ∨ hi < 1 ∨ 2 < lo) : s.checkDrained.fld o hi lo = s.fld o hi lo := by
  have hShadow (t : State) (v : Nat) : (t.setFld 0x10C 26 24 v).fld o hi lo = t.fld o hi lo := by
    rcases hs with hs | hs
    · exact State.fld_setFld_reg _ _ _ _ _ _ _ _ hs
    · exact State.fld_setFld_ne _ _ _ _ _ _ _ _ (by decide) (by decide) h (.inr hs)
  have hJoint (t : State) (v : Nat) : (t.setFld 0x204 2 1 v).fld o hi lo = t.fld o hi lo := by
    rcases hj with hj | hj
    · exact State.fld_setFld_reg _ _ _ _ _ _ _ _ hj
    · exact State.fld_setFld_ne _ _ _ _ _ _ _ _ (by decide) (by decide) h hj.symm
  unfold State.checkDrained
  dsimp only
  split
  · split
    · rw [hJoint, hShadow]
    · exact hShadow _ _
  · rfl

theorem State.checkDrained_reg {o : Nat} (hs : o ≠ 0x10C) (hj : o ≠ 0x204) : s.checkDrained.reg o = s.reg o := by
  unfold State.checkDrained
  dsimp only
  split
  · split
    · rw [State.reg_setFld_ne _ _ _ _ _ _ hj, State.reg_setFld_ne _ _ _ _ _ _ hs]
    · exact State.reg_setFld_ne _ _ _ _ _ _ hs
  · rfl

/-- The flip makes the shadow generation the active one, exchanges the versions and is counted (R110, R114). -/
theorem State.jointFlip_spec {t : State} (ht : t = s.jointFlip) : t.activeGen = !s.activeGen ∧
    t.fld 0x204 31 16 = (s.fld 0x204 31 16 + 1) % 2 ^ 16 ∧ t.fld 0x100 23 0 = s.fld 0x10C 23 0 ∧
    t.fld 0x10C 23 0 = s.fld 0x100 23 0 ∧ t.reg 0x104 = s.reg 0x110 ∧ t.reg 0x110 = s.reg 0x104 := by
  have hVersion (o : Nat) : s.fld o 23 0 < 2 ^ 24 := getBits_lt _ _ _
  subst ht
  unfold State.jointFlip
  refine ⟨?_, ?_, ?_, ?_, ?_, ?_⟩
  · rw [State.activeGen, State.bit_eq_fld, State.fld_irq _ (by decide), State.checkDrained_fld (by decide) (by decide) (by decide)]
    simp (disch := omega) [State.setBit, State.setShadow, State.incMod, State.fld_setFld_reg, State.fld_setFld_ne,
      State.fld_setFld_same, State.activeGen, State.fld_setReg_ne, State.bit_eq_fld]
    cases decide (s.fld 0x204 0 0 = 1) <;> rfl
  · rw [State.fld_irq _ (by decide), State.checkDrained_fld (by decide) (by decide) (by decide)]
    simp (disch := omega) [State.setBit, State.setShadow, State.incMod, State.fld_setFld_reg, State.fld_setFld_ne,
      State.fld_setFld_same, State.fld_setReg_ne]
  · rw [State.fld_irq _ (by decide), State.checkDrained_fld (by decide) (by decide) (by decide)]
    simp (disch := omega) [State.setBit, State.setShadow, State.incMod, State.fld_setFld_reg, State.fld_setFld_ne,
      State.fld_setFld_same, State.fld_setReg_ne]
    exact hVersion _
  · rw [State.fld_irq _ (by decide), State.checkDrained_fld (by decide) (by decide) (by decide)]
    simp (disch := omega) [State.setBit, State.setShadow, State.incMod, State.fld_setFld_reg, State.fld_setFld_ne,
      State.fld_setFld_same, State.fld_setReg_ne]
    exact hVersion _
  · rw [State.reg_irq _ (by decide), State.checkDrained_reg (by decide) (by decide)]
    simp (disch := omega) [State.setBit, State.setShadow, State.incMod, State.reg_setFld_ne, State.reg_setReg_ne]
  · rw [State.reg_irq _ (by decide), State.checkDrained_reg (by decide) (by decide)]
    simp (disch := omega) [State.setBit, State.setShadow, State.incMod, State.reg_setFld_ne]

/-! ### NOW (R117) -/

theorem State.jointNow_aborted (hm : s.chip.mode = .startUp ∨ s.chip.mode = .test) (hc : s.checkCause true ≠ 0) :
    s.jointNow = (s.disarmJoint.showAbort (s.checkCause true) true).latchFault loadSource .n (s.checkCause true * 2 ^ 28) := by
  simp [State.jointNow, hm, hc]

theorem State.jointNow_flips (hm : s.chip.mode = .startUp ∨ s.chip.mode = .test) (hc : s.checkCause true = 0) :
    s.jointNow = s.disarmJoint.jointFlip := by
  simp [State.jointNow, hm, hc]

theorem State.jointNow_refused (hm : s.chip.mode = .service) : s.jointNow = s.latchFault loadSource .n 0x200 := by
  simp [State.jointNow, hm]

theorem State.jointNow_aborted_spec (hm : s.chip.mode = .startUp ∨ s.chip.mode = .test) (hc : s.checkCause true ≠ 0) {t : State}
    (ht : t = s.jointNow) : t.progs.joint = none ∧ t.activeGen = s.activeGen ∧ t.bit 0x204 3 = true ∧
      t.fld 0x204 7 4 = s.checkCause true ∧ t.chip = s.chip ∧ (t.source loadSource).cause = true ∧ (t.source loadSource).cls = .n := by
  rw [State.jointNow_aborted hm hc] at ht
  generalize hk : s.checkCause true = c at ht ⊢
  have hLatch := State.latchFault_n_moves (s := s.disarmJoint.showAbort c true) loadSource (c * 2 ^ 28) false false (by decide)
  have hFld (hi lo : Nat) : t.fld 0x204 hi lo = (s.disarmJoint.showAbort c true).fld 0x204 hi lo := by
    rw [ht, State.fld_latchFault _ _ _ _ _ (by decide) (by decide)]
  obtain ⟨hCause, hCls⟩ := State.latchFault_n_shows (s := s.disarmJoint.showAbort c true) loadSource (c * 2 ^ 28) false false
  rw [← ht] at hLatch hCause hCls
  refine ⟨?_, ?_, (State.bit_of_fld (hFld 3 3)).trans (State.showAbort_flag _ _),
    (hFld 7 4).trans (State.showAbort_cause _ (hk ▸ State.checkCause_lt _)), ?_, hCause, hCls⟩
  · rw [hLatch.same .progs (by decide), State.showAbort_moves.same .progs (by decide), State.disarmJoint_joint]
  · rw [State.activeGen_of_fld (hFld 0 0), State.showAbort_activeGen, State.disarmJoint_activeGen]
  · rw [hLatch.same .chip (by decide), State.showAbort_moves.same .chip (by decide), State.disarmJoint_moves.same .chip (by decide)]

/-! ### The check (R113) -/

theorem exec_jointCheck_none (h : s.progs.joint = none ∨ s.progs.jointChecked = true) : exec .jointCheck s = .next s := by
  have hNone : (s.progs.joint.isNone || s.progs.jointChecked) = true := by rcases h with h | h <;> simp [h]
  simp only [exec, execJointCheck, State.jointCheck, hNone, if_true]

section
variable (hj : s.progs.joint.isSome = true) (hk : s.progs.jointChecked = false)
include hj hk

theorem exec_jointCheck_passes (hc : s.checkCause false = 0) :
    exec .jointCheck s = .next { s with progs := { s.progs with jointChecked := true } } := by
  simp [exec, execJointCheck, State.jointCheck, Option.ne_none_iff_isSome.mpr hj, hk, hc]

theorem exec_jointCheck_aborts (hc : s.checkCause false ≠ 0) :
    exec .jointCheck s = .next (s.abortJoint (s.checkCause false)) := by
  simp [exec, execJointCheck, State.jointCheck, Option.ne_none_iff_isSome.mpr hj, hk, hc]

end

theorem State.abortJoint_eq (hj : s.progs.joint.isSome = true) (c : Nat) : s.abortJoint c
    = (s.disarmJoint.showAbort c true).latchCore loadSource .n (c * 2 ^ 28) false false false := by
  simp [State.abortJoint, Option.ne_none_iff_isSome.mpr hj, loadSource]

theorem State.abortJoint_spec (hj : s.progs.joint.isSome = true) (c : Nat) {t : State} (ht : t = s.abortJoint c) :
    t.progs.joint = none ∧ t.activeGen = s.activeGen ∧ (t.source loadSource).cause = true ∧ (t.source loadSource).cls = .n ∧
      (∀ x, x ≠ loadSource → t.source x = s.source x) ∧ (t.source loadSource).detail = BitVec.ofNat 64 (c * 2 ^ 28) := by
  rw [State.abortJoint_eq hj] at ht
  have hLatch := State.latchCore_moves (s := s.disarmJoint.showAbort c true) (src := loadSource) (cls := .n)
    (detail := c * 2 ^ 28) (live := false) (threshold := false) (safe := false)
  have hSource (x : Nat) := State.latchCore_source (s := s.disarmJoint.showAbort c true) loadSource x .n (c * 2 ^ 28) false
    false false
  have hFld : t.fld 0x204 0 0 = (s.disarmJoint.showAbort c true).fld 0x204 0 0 := by
    rw [ht, State.fld_latchCore _ _ _ _ _ _ (by decide)]
  rw [← ht] at hLatch
  simp only [← ht] at hSource
  refine ⟨?_, ?_, ?_, ?_, fun x hx => ?_, ?_⟩
  · rw [hLatch.same .progs (by decide), State.showAbort_moves.same .progs (by decide), State.disarmJoint_joint]
  · rw [State.activeGen_of_fld hFld, State.showAbort_activeGen, State.disarmJoint_activeGen]
  · rw [hSource, if_pos rfl]
    rfl
  · rw [hSource, if_pos rfl]
    rfl
  · rw [hSource, if_neg hx, State.source_moves State.showAbort_moves (by decide), State.source_moves State.disarmJoint_moves (by decide)]
  · rw [hSource, if_pos rfl]
    rfl

/-- Settles O45: a write of JNT_CTRL is one of its three acts (`State.writeJoint_…`), and each act has one lemma of what it
leaves. -/
theorem jointsFlipTheGenerations : Obligations.JointsFlipTheGenerations := by
  refine ⟨fun v s ha hc hn hj h0 => ?_, fun v s ha hc hn hj h0 => ?_, fun v s ha hc hn h => ?_, fun v s ha hc hn hm hk => ?_,
    fun s h => exec_jointCheck_none h, fun v s ha hc hn hj hk => ?_, fun v s ha hc hn hm hk => ?_, fun v s ha hc hn hm => ?_,
    fun s hj hk hc => ⟨_, exec_jointCheck_passes hj hk hc, rfl⟩,
    fun s hj hk hc => ⟨_, exec_jointCheck_aborts hj hk hc, State.abortJoint_spec hj _ rfl⟩⟩
  · obtain ⟨w, hw⟩ := State.writeOrdinary_jntCtrl (s := s) v
    rw [hw] at h0 ⊢
    obtain ⟨hJoint, hCheck, hSlot, hArm, hState, hGen⟩ := State.jointArm_taken (s := s.setReg 0x200 w) hj h0 rfl
    exact ⟨_, congrArg Host.Outcome.next ((State.writeJoint_arm ha hc hn).trans (congrArg State.jointArm hw)), hJoint, hCheck,
      hSlot, hArm, hState, hGen.trans (State.activeGen_setJntCtrl w)⟩
  · obtain ⟨w, hw⟩ := State.writeOrdinary_jntCtrl (s := s) v
    rw [hw] at h0 ⊢
    obtain ⟨hProgs, hFlag, hCause, hGen, hShow, hCls, hChip⟩ :=
      State.jointRefused_spec (s := s.setReg 0x200 w) (State.armCause_lt _) rfl
    exact ⟨_, congrArg Host.Outcome.next ((State.writeJoint_arm ha hc hn).trans ((congrArg State.jointArm hw).trans
      (State.jointArm_refused hj h0))), hProgs, hFlag, hCause, hGen.trans (State.activeGen_setJntCtrl w), hShow, hCls, hChip⟩
  · obtain ⟨w, hw⟩ := State.writeOrdinary_jntCtrl (s := s) v
    have hNone : (s.setReg 0x200 w).jointCancelled = s.setReg 0x200 w := if_neg (by rcases h with h | h <;> simp [h])
    exact ⟨_, congrArg Host.Outcome.next ((State.writeJoint_cancel ha hc hn).trans ((congrArg State.jointCancelled hw).trans
      hNone)), rfl, State.activeGen_setJntCtrl w, rfl⟩
  · obtain ⟨w, hw⟩ := State.writeOrdinary_jntCtrl (s := s) v
    rw [← State.checkCause_setJntCtrl w] at hk ⊢
    obtain ⟨hJoint, hGen, hFlag, hCause, hChip, hShow, hCls⟩ := State.jointNow_aborted_spec (s := s.setReg 0x200 w) hm hk rfl
    exact ⟨_, congrArg Host.Outcome.next ((State.writeJoint_now ha hc hn).trans (congrArg State.jointNow hw)), hJoint,
      hGen.trans (State.activeGen_setJntCtrl w), hFlag, hCause, hChip, hShow, hCls⟩
  · obtain ⟨w, hw⟩ := State.writeOrdinary_jntCtrl (s := s) v
    have hSome : (s.setReg 0x200 w).jointCancelled
        = { s.setReg 0x200 w with progs := { s.progs with jointCancel := true } } := if_pos (by simp [hj, hk])
    exact ⟨_, congrArg Host.Outcome.next ((State.writeJoint_cancel ha hc hn).trans ((congrArg State.jointCancelled hw).trans
      hSome)), rfl, State.activeGen_setJntCtrl w, rfl⟩
  · obtain ⟨w, hw⟩ := State.writeOrdinary_jntCtrl (s := s) v
    rw [← State.checkCause_setJntCtrl w] at hk
    obtain ⟨hGen, hCount, hNow, hOld, hNowId, hOldId⟩ := State.jointFlip_spec (s := (s.setReg 0x200 w).disarmJoint) rfl
    have hFld {o hi lo : Nat} (ho : o < 0x200 ∨ o = 0x204 ∧ (hi < 1 ∨ 2 < lo)) (h : lo ≤ hi) :
        (s.setReg 0x200 w).disarmJoint.fld o hi lo = s.fld o hi lo :=
      (State.disarmJoint_fld ho h).trans (State.fld_setReg_ne _ _ _ _ _ _ (by omega))
    have hReg {o : Nat} (ho : o < 0x200) : (s.setReg 0x200 w).disarmJoint.reg o = s.reg o :=
      (State.disarmJoint_reg ho).trans (State.reg_setReg_ne _ _ _ _ (by omega))
    refine ⟨_, congrArg Host.Outcome.next ((State.writeJoint_now ha hc hn).trans ((congrArg State.jointNow hw).trans
      (State.jointNow_flips hm hk))), ?_, ?_, ?_, ?_, ?_, ?_, ?_⟩
    · rw [hGen, State.disarmJoint_activeGen, State.activeGen_setJntCtrl]
    · rw [hCount, hFld (by decide) (by decide)]
    · rw [hNow, hFld (by decide) (by decide)]
    · rw [hOld, hFld (by decide) (by decide)]
    · rw [hNowId, hReg (by decide)]
    · rw [hOldId, hReg (by decide)]
    · exact (State.jointFlip_moves.same .chip (by decide)).trans (State.disarmJoint_moves.same .chip (by decide))
  · obtain ⟨w, hw⟩ := State.writeOrdinary_jntCtrl (s := s) v
    have hLatch := State.latchFault_n_moves (s := s.setReg 0x200 w) loadSource 0x200 false false (by decide)
    have hSource := State.latchFault_n_source (s := s.setReg 0x200 w) loadSource 0x200 false false loadSource
    refine ⟨_, congrArg Host.Outcome.next ((State.writeJoint_now ha hc hn).trans ((congrArg State.jointNow hw).trans
      (State.jointNow_refused hm))), ?_, hLatch.same .progs (by decide), hLatch.same .chip (by decide), ?_, ?_, ?_⟩
    · exact (State.activeGen_of_fld (State.fld_latchFault _ _ _ _ _ (by decide) (by decide) _ _)).trans
        (State.activeGen_setJntCtrl w)
    · rw [hSource, if_pos rfl]
      rfl
    · rw [hSource, if_pos rfl]
      rfl
    · rw [hSource, if_pos rfl]
      rfl

end Sys2Proof.Machine
end

section
/-! PROOFS. Faults of class S that may name a pipeline: what they show in their source, whatever the pipeline's loss raises. -/

namespace Sys2Proof.Machine

variable {s t u : State}

/-- A source that shows a class-S fault goes on showing it (R428). -/
def KeepsServiceFault (src : Nat) (s t : State) : Prop :=
  (s.source src).cause = true ∧ (s.source src).cls = .s → (t.source src).cause = true ∧ (t.source src).cls = .s

section
variable {src : Nat}

theorem KeepsServiceFault.refl : KeepsServiceFault src s s := id

theorem KeepsServiceFault.trans (h : KeepsServiceFault src s t) (k : KeepsServiceFault src t u) : KeepsServiceFault src s u :=
  k ∘ h

theorem KeepsServiceFault.of_source (h : t.source src = s.source src) : KeepsServiceFault src s t := by
  rw [KeepsServiceFault, h]
  exact id

theorem KeepsServiceFault.moves {ps : List StatePart} (h : Moves ps s t) (hp : .fc ∉ ps) : KeepsServiceFault src s t :=
  .of_source (State.source_moves h hp src)

theorem State.latchService_keepsServiceFault (other detail : Nat) : KeepsServiceFault src s (s.latchService other detail) := by
  have hLatch : KeepsServiceFault src s (s.latchCore other .s detail false false false) := by
    rw [KeepsServiceFault, State.latchCore_source]
    split
    · exact fun _ => ⟨rfl, rfl⟩
    · exact id
  exact ((hLatch.trans (.moves State.haltFor_moves (by decide))).trans (.of_source (State.raiseErrS_source src))).trans
    (.moves State.pierPropagate_moves (by decide))

theorem State.holdGroup_keepsServiceFault (span : Nat) (pass : Pass) (g pipe detail : Nat) :
    KeepsServiceFault src s (s.holdGroup span pass g pipe detail) := by
  unfold State.holdGroup
  refine .trans ?_ (State.latchService_keepsServiceFault _ _)
  cases pass
  · exact .trans (.moves State.setPass_moves (by decide)) (.moves State.enterHold_moves (by decide))
  · exact .moves State.setPass_moves (by decide)

theorem State.fence_source (party x : Nat) : (s.fence party).source x = s.source x := by
  unfold State.fence
  rfl

/-- The loss of a pipeline raises faults of class S alone (R257 to R260). -/
theorem State.pipelineFaulty_keepsServiceFault (span : Nat) (pass : Pass) (pipe detail : Nat) :
    KeepsServiceFault src s (s.pipelineFaulty span pass pipe detail) := by
  have hFence : KeepsServiceFault src s (((s.fence (partyPipe span pass pipe)).endResolution span pass).unshadow span pass) :=
    (KeepsServiceFault.of_source (State.fence_source _ _)).trans
      ((KeepsServiceFault.moves State.endResolution_moves (by decide)).trans (.moves State.unshadow_moves (by decide)))
  have hPass {y : State} {x : PassState} : KeepsServiceFault src y (y.setPass span pass x) :=
    .moves State.setPass_moves (by decide)
  unfold State.pipelineFaulty
  split
  · exact .refl
  · dsimp -proj only
    generalize ((s.fence (partyPipe span pass pipe)).endResolution span pass).unshadow span pass = y at hFence ⊢
    refine hFence.trans ?_
    split
    · have hDegrade {x : PassState} : KeepsServiceFault src y ((y.setPass span pass x).degrade span) :=
        hPass.trans (State.latchService_keepsServiceFault _ _)
      split
      · exact hDegrade.trans (State.holdGroup_keepsServiceFault _ _ _ _ _)
      · exact hDegrade
    · split
      · exact hPass
      · rename_i g _
        have hDiscard {x : PassState} : KeepsServiceFault src y ((y.setPass span pass x).discardPipe (span * 4 + g) pass pipe) :=
          hPass.trans (.moves State.discardPipe_moves (by decide))
        cases pass
        · have hRevoke {x : PassState} : KeepsServiceFault src y
              (((y.setPass span .ingress x).discardPipe (span * 4 + g) .ingress pipe).revokeLeases (span * 4 + g)) :=
            hDiscard.trans (.moves State.revokeLeases_moves (by decide))
          dsimp -proj only
          split
          · exact hRevoke.trans hPass
          · exact hRevoke.trans (State.holdGroup_keepsServiceFault _ _ _ _ _)
        · dsimp -proj only
          split
          · exact hDiscard.trans hPass
          · exact hDiscard.trans (State.holdGroup_keepsServiceFault _ _ _ _ _)

theorem State.decideFault_s_keepsServiceFault (other : Nat) : KeepsServiceFault src s (s.decideFault other .s) := by
  have hPins : KeepsServiceFault src s (if srcChip 0x13 4 ≤ other && other ≤ srcChip 0x13 7 then s.raiseErrS
      else s.raiseErrS.pierPropagate other .s) := by
    split
    · exact .of_source (State.raiseErrS_source src)
    · exact (KeepsServiceFault.of_source (State.raiseErrS_source src)).trans (.moves State.pierPropagate_moves (by decide))
  unfold State.decideFault State.react
  split
  · dsimp -proj only
    split
    · exact .refl
    · split
      · exact hPins.trans (State.pipelineFaulty_keepsServiceFault _ _ _ _)
      · exact hPins
  · exact .of_source rfl

/-- A class-S fault shows in the record of its source, whatever it does to a pipeline (R428). -/
theorem State.latchFault_s_shows (src detail : Nat) (live threshold : Bool) :
    ((s.latchFault src .s detail live threshold).source src).cause = true ∧
      ((s.latchFault src .s detail live threshold).source src).cls = .s := by
  have hLatch (b c : Bool) : ((((s.setReacting b).latchCore src .s detail live threshold c).haltFor src).source src).cause = true ∧
      ((((s.setReacting b).latchCore src .s detail live threshold c).haltFor src).source src).cls = .s := by
    rw [State.haltFor_source, State.latchCore_source, if_pos rfl]
    exact ⟨rfl, rfl⟩
  have hReact (y : State) (b : Bool) : KeepsServiceFault src y ((y.decideFault src .s).setReacting b) :=
    (State.decideFault_s_keepsServiceFault src).trans (.of_source rfl)
  unfold State.latchFault
  dsimp -proj only
  split
  · exact hLatch _ _
  · exact hReact _ _ (hLatch _ _)

end

/-- What a class-S fault may touch: no program, no table and nothing of the host. -/
def serviceParts : List StatePart :=
  [.regs, .counters, .emitted, .freeCount, .chip, .fc, .buf, .rx, .pipes, .trestle, .ord, .egr, .via, .pierTx]

theorem State.latchFault_s_any (src detail : Nat) (live threshold : Bool) :
    Moves serviceParts s (s.latchFault src .s detail live threshold) := by
  have hPins (t : State) : Moves serviceParts t (if srcChip 0x13 4 ≤ src && src ≤ srcChip 0x13 7 then t.raiseErrS
      else t.raiseErrS.pierPropagate src .s) :=
    .ite (State.raiseErrS_moves.mono (by decide))
      (.step State.pierPropagate_moves (by decide) (State.raiseErrS_moves.mono (by decide)))
  refine State.latchFault_halts_of _ _ _ _ _ (by decide) fun t => ?_
  unfold State.decideFault State.react
  split
  · dsimp -proj only
    split
    · exact .refl
    · split
      · exact .step State.pipelineFaulty_moves (by decide) (hPins t)
      · exact hPins t
  · exact .fc (by decide) .refl

end Sys2Proof.Machine
end

section
/-! PROOFS. Loads of the shadow generation, and the scrubber of the stores. -/

namespace Sys2Proof.Machine

variable {s : State}

/-! ### A write of MC_LOAD_CTRL (R105) -/

/-- MC_LOAD_CTRL has no locked field, and its CUST bit takes the one written. -/
theorem State.writeOrdinary_loadCtrl (v : Word) :
    ∃ w, s.writeOrdinary 0x120 v = s.setReg 0x120 w ∧ getBits w 1 1 = getBits v 1 1 := by
  have hRow : regRow 0x120 = some (Reg.one 0x120 [Reg.f .rw 1 1 0, Reg.o .wo 0 0 0]) := by decide
  have hBit : getBits v 1 1 < 2 := getBits_lt _ _ _
  refine ⟨_, State.writeOrdinary_taken hRow (.inr (by simp [rwlDiffers, Reg.one, Reg.o, Reg.f])), ?_⟩
  simp [writeWord, writeField, Reg.one, Reg.o, Reg.f, getBits_setBits_same]
  omega

/-! ### MC_LOAD_STATUS (R106) -/

section
variable (n : Nat) (c : LoadCode) (x : LoadPlace)

theorem State.loadStatus_state : (s.loadStatus n c x).fld 0x12C 1 0 = n % 4 := by
  simp [State.loadStatus, getBits_setBits_same]

theorem State.loadStatus_code : (s.loadStatus n c x).fld 0x12C 9 2 = c.number % 256 := by
  simp [State.loadStatus, getBits_setBits_ne, getBits_setBits_same]

theorem State.loadStatus_fld {o : Nat} (h : o ≠ 0x12C) (hi lo : Nat) : (s.loadStatus n c x).fld o hi lo = s.fld o hi lo :=
  State.fld_setReg_ne _ _ _ _ _ _ h

theorem State.loadFails_fld {o : Nat} (h : o < 0x100000) (hi lo : Nat) :
    (s.loadFails c x).fld o hi lo = (s.loadStatus 3 c x).fld o hi lo := State.fld_irq _ h _ _

theorem State.loadFails_state : (s.loadFails c x).fld 0x12C 1 0 = 3 :=
  (State.loadFails_fld c x (by decide) 1 0).trans (State.loadStatus_state 3 c x)

theorem State.loadFails_notBusy : (s.loadFails c x).loadBusy = false :=
  decide_eq_false (by rw [State.loadFails_state]; decide)

theorem State.loadFails_code : (s.loadFails c x).fld 0x12C 9 2 = c.number % 256 :=
  (State.loadFails_fld c x (by decide) 9 2).trans (State.loadStatus_code 3 c x)

theorem State.loadFails_shadow : (s.loadFails c x).shadowState = s.shadowState :=
  (State.loadFails_fld c x (by decide) _ _).trans (State.loadStatus_fld _ _ _ (by decide) _ _)

theorem State.loadFails_activeGen : (s.loadFails c x).activeGen = s.activeGen :=
  State.activeGen_of_fld ((State.loadFails_fld c x (by decide) _ _).trans (State.loadStatus_fld _ _ _ (by decide) _ _))

end

theorem State.setShadow_state (n : Nat) : (s.setShadow n).shadowState = n % 8 :=
  State.fld_setFld_same _ _ _ _ _ (by decide) (by decide)

theorem State.setShadow_fld (n : Nat) {o : Nat} (h : o ≠ 0x10C) (hi lo : Nat) : (s.setShadow n).fld o hi lo = s.fld o hi lo :=
  State.fld_setFld_reg _ _ _ _ _ _ _ _ h

theorem State.setShadow_activeGen (n : Nat) : (s.setShadow n).activeGen = s.activeGen :=
  State.activeGen_of_fld (State.setShadow_fld _ (by decide) _ _)

theorem State.setReg_activeGen {o : Nat} (h : o ≠ 0x204) (w : Word) : (s.setReg o w).activeGen = s.activeGen :=
  State.activeGen_of_fld (State.fld_setReg_ne _ _ _ _ _ _ h.symm)

/-! ### START (R98, R105) -/

section
variable {v : Word}

/-- What a START meets once its word is written. -/
theorem State.loadStart_eq (h : getBits v 0 0 = 1) {w : Word} (hw : s.writeOrdinary 0x120 v = s.setReg 0x120 w) :
    s.loadStart v =
      if (s.setReg 0x120 w).loadBusy then (s.setReg 0x120 w).latchFault loadSource .n 0x120
      else if s.chip.mode = .recovery ∨ s.chip.mode = .safe then (s.setReg 0x120 w).loadFails .deviceState {}
      else if s.progs.joint.isSome ∨ s.shadowState = 5 then (s.setReg 0x120 w).loadFails .targetBusy {}
      else ((({ s.setReg 0x120 w with progs := { s.progs with
        loadCust := (s.setReg 0x120 w).bit 0x120 1, loadPrev := s.shadowState } } : State).loadStatus 1 .ok {}).setShadow 1) := by
  have hShadow : (s.setReg 0x120 w).shadowState = s.shadowState := State.fld_setReg_ne _ _ _ _ _ _ (by decide)
  simp only [State.loadStart, hw, h, hShadow]
  rfl

theorem State.loadBusy_setReg {o : Nat} (h : o ≠ 0x12C) (w : Word) : (s.setReg o w).loadBusy = s.loadBusy :=
  congrArg (fun n => decide (n = 1)) (State.fld_setReg_ne _ _ _ _ _ _ h.symm)

theorem exec_loadStart_accepted (h : getBits v 0 0 = 1) (hb : s.loadBusy = false) (hr : s.chip.mode ≠ .recovery)
    (hs : s.chip.mode ≠ .safe) (hj : s.progs.joint = none) (h5 : s.shadowState ≠ 5) :
    ∃ t, exec (.loadStart v) s = .next t ∧ t.loadBusy = true ∧ t.shadowState = 1 ∧
      t.progs = { s.progs with loadPrev := s.shadowState, loadCust := decide (getBits v 1 1 = 1) } ∧
      t.activeGen = s.activeGen ∧ t.chip = s.chip := by
  obtain ⟨w, hw, hCust⟩ := State.writeOrdinary_loadCtrl (s := s) v
  have hBit : (s.setReg 0x120 w).bit 0x120 1 = decide (getBits v 1 1 = 1) := by
    rw [State.bit_eq_fld, State.fld_setReg_same, hCust]
  refine ⟨_, congrArg Host.Outcome.next (State.loadStart_eq h hw), ?_⟩
  rw [State.loadBusy_setReg (by decide), if_neg (by simp [hb]), if_neg (by simp [hr, hs]), if_neg (by simp [hj, h5]), hBit]
  refine ⟨decide_eq_true ?_, State.setShadow_state 1, rfl, ?_,
    (State.setShadow_moves.same .chip (by decide)).trans (State.loadStatus_moves.same .chip (by decide))⟩
  · rw [State.setShadow_fld _ (by decide), State.loadStatus_state]
  · rw [State.setShadow_activeGen]
    exact (State.setReg_activeGen (by decide) _).trans (State.setReg_activeGen (o := 0x120) (by decide) w)

theorem exec_loadStart_noStart (h : getBits v 0 0 = 0) : ∃ t, exec (.loadStart v) s = .next t ∧
    t.shadowState = s.shadowState ∧ t.progs = s.progs ∧ t.activeGen = s.activeGen ∧ OnlyTouches [.regs] s t := by
  obtain ⟨w, hw, -⟩ := State.writeOrdinary_loadCtrl (s := s) v
  have hStart : s.loadStart v = s.setReg 0x120 w := by
    simp only [State.loadStart, hw, h]
    rfl
  exact ⟨_, congrArg Host.Outcome.next hStart, State.fld_setReg_ne _ _ _ _ _ _ (by decide), rfl,
    State.setReg_activeGen (by decide) w, State.setReg_moves.only⟩

theorem exec_loadStart_busy (h : getBits v 0 0 = 1) (hb : s.loadBusy = true) : ∃ t, exec (.loadStart v) s = .next t ∧
    t.loadBusy = true ∧ t.shadowState = s.shadowState ∧ t.progs = s.progs ∧ (t.source loadSource).cause = true ∧
    (t.source loadSource).cls = .n := by
  obtain ⟨w, hw, -⟩ := State.writeOrdinary_loadCtrl (s := s) v
  have hFld {o : Nat} (ho : o < 0x100000) (hi lo : Nat) := State.fld_latchFault (s := s.setReg 0x120 w) loadSource .n 0x120
    false false (by decide) ho hi lo
  obtain ⟨hCause, hCls⟩ := State.latchFault_n_shows (s := s.setReg 0x120 w) loadSource 0x120 false false
  refine ⟨_, congrArg Host.Outcome.next (State.loadStart_eq h hw), ?_⟩
  rw [State.loadBusy_setReg (by decide), if_pos hb]
  refine ⟨decide_eq_true ?_, ?_, (State.latchFault_n_moves _ _ _ _ (by decide)).same .progs (by decide), hCause, hCls⟩
  · rw [hFld (by decide), State.fld_setReg_ne _ _ _ _ _ _ (by decide)]
    exact of_decide_eq_true hb
  · exact (hFld (by decide) _ _).trans (State.fld_setReg_ne _ _ _ _ _ _ (by decide))

theorem exec_loadStart_refused (h : getBits v 0 0 = 1) (hb : s.loadBusy = false)
    (hr : s.chip.mode = .recovery ∨ s.chip.mode = .safe ∨ s.progs.joint.isSome = true ∨ s.shadowState = 5) :
    ∃ t, exec (.loadStart v) s = .next t ∧ t.loadBusy = false ∧ t.fld 0x12C 1 0 = 3 ∧
      t.fld 0x12C 9 2 = (if s.chip.mode = .recovery ∨ s.chip.mode = .safe then LoadCode.deviceState
        else LoadCode.targetBusy).number % 256 ∧ t.shadowState = s.shadowState ∧ t.progs = s.progs := by
  obtain ⟨w, hw, -⟩ := State.writeOrdinary_loadCtrl (s := s) v
  have hFails : s.loadStart v = (s.setReg 0x120 w).loadFails (if s.chip.mode = .recovery ∨ s.chip.mode = .safe
      then LoadCode.deviceState else LoadCode.targetBusy) {} := by
    rw [State.loadStart_eq h hw, State.loadBusy_setReg (by decide), if_neg (by simp [hb])]
    split
    · rfl
    · next hMode => rw [if_pos (by tauto)]
  have hShadow : (s.setReg 0x120 w).shadowState = s.shadowState := State.fld_setReg_ne _ _ _ _ _ _ (by decide)
  exact ⟨_, congrArg Host.Outcome.next hFails, State.loadFails_notBusy _ _, State.loadFails_state _ _, State.loadFails_code _ _,
    (State.loadFails_shadow _ _).trans hShadow, State.loadFails_moves.same .progs (by decide)⟩

end

/-! ### The end of a load (R98) -/

section
variable {bad : Option (Span × Pass × PipeNo)} {img : List Byte}

theorem exec_loadComplete_idle {image : Option (List Byte)} (h : s.loadBusy = false) :
    exec (.loadComplete image bad) s = .next s := by
  simp [exec, execLoadComplete, State.loadComplete, h]

variable (hb : s.loadBusy = true)
include hb

theorem exec_loadComplete_unread : exec (.loadComplete none bad) s
    = .next ((s.setShadow s.progs.loadPrev).loadFails .dmaError {}) := by
  simp [exec, execLoadComplete, State.loadComplete, hb]

theorem exec_loadComplete_faulty (h : (s.checkImage img).1 ≠ .ok) : exec (.loadComplete (some img) bad) s
    = .next ((s.setShadow s.progs.loadPrev).loadFails (s.checkImage img).1 (s.checkImage img).2) := by
  simp [exec, execLoadComplete, State.loadComplete, hb, h]

theorem exec_loadComplete_installed (h : (s.checkImage img).1 = .ok) : exec (.loadComplete (some img) none) s
    = .next (s.installImage img) := by
  simp [exec, execLoadComplete, State.loadComplete, hb, h]

theorem exec_loadComplete_badCopy (h : (s.checkImage img).1 = .ok) (n : Span) (ps : Pass) (p : PipeNo) :
    exec (.loadComplete (some img) (some (n, ps, p))) s
      = .next ((((s.writeImage s.shadowGen s.progs.loadCust img).setShadow 4).loadFails .readback {}).latchFault
        (srcSpan n (pipeBlock ps p) 0x3F) .s) := by
  simp [exec, execLoadComplete, State.loadComplete, hb, h]

end

/-- An image is installed: its words, its version, and then the status of the load (R98). -/
theorem State.installImage_shows (img : List Byte) : ∃ (u : State) (ok : Bool), Moves [.regs, .progs] s u ∧
    u.activeGen = s.activeGen ∧ s.installImage img = ((u.setShadow (if ok then 2 else 3)).loadStatus 2 .ok {}).irq 0 := by
  have hWrite := State.writeImage_moves (s := s) (genB := s.shadowGen) (cust := s.progs.loadCust) (img := img)
  have hGen : (s.writeImage s.shadowGen s.progs.loadCust img).activeGen = s.activeGen :=
    State.bit_moves hWrite (by decide) _ _
  unfold State.installImage
  dsimp only
  refine ⟨_, _, ?_, ?_, rfl⟩
  · refine .ite ?_ ?_
    · exact .step State.incSat_moves (by decide) (.step State.setReg_moves (by decide) (.step State.setRequire_moves (by decide)
        (hWrite.mono (by decide))))
    · exact .step State.incSat_moves (by decide) (.step State.setFld_moves (by decide) (hWrite.mono (by decide)))
  · refine (State.activeGen_of_fld ?_).trans hGen
    split
    · rw [State.incSat, State.fld_setFld_reg _ _ _ _ _ _ _ _ (by decide), State.fld_setReg_ne _ _ _ _ _ _ (by decide)]
      exact State.fld_moves State.setRequire_moves (by decide) _ _ _
    · rw [State.incSat, State.fld_setFld_reg _ _ _ _ _ _ _ _ (by decide), State.fld_setFld_reg _ _ _ _ _ _ _ _ (by decide)]

theorem State.installImage_spec (img : List Byte) {t : State} (ht : t = s.installImage img) : t.loadBusy = false ∧
    t.fld 0x12C 1 0 = 2 ∧ (t.shadowState = 2 ∨ t.shadowState = 3) ∧ t.activeGen = s.activeGen ∧ t.chip = s.chip ∧
    t.tables = s.tables := by
  obtain ⟨u, ok, hMoves, hGen, hEq⟩ := State.installImage_shows (s := s) img
  have hFld {o : Nat} (ho : o < 0x100000) (hi lo : Nat) :
      t.fld o hi lo = ((u.setShadow (if ok then 2 else 3)).loadStatus 2 .ok {}).fld o hi lo := by
    rw [ht, hEq, State.fld_irq _ ho]
  have hState : t.fld 0x12C 1 0 = 2 := (hFld (by decide) _ _).trans (State.loadStatus_state _ _ _)
  have hShadow : t.shadowState = (if ok then 2 else 3) % 8 :=
    (hFld (by decide) _ _).trans ((State.loadStatus_fld _ _ _ (by decide) _ _).trans (State.setShadow_state _))
  have hInstall := State.installImage_moves (s := s) (img := img)
  rw [← ht] at hInstall
  refine ⟨decide_eq_false (by rw [hState]; decide), hState, ?_, ?_, hInstall.same .chip (by decide),
    hInstall.same .tables (by decide)⟩
  · rw [hShadow]
    cases ok
    · exact .inr rfl
    · exact .inl rfl
  · rw [← hGen, ← State.setShadow_activeGen (s := u) (if ok then 2 else 3)]
    refine State.activeGen_of_fld ?_
    rw [hFld (by decide), State.loadStatus_fld _ _ _ (by decide)]

/-- A copy that fails its read-back leaves the shadow generation DAMAGED (R98). -/
theorem State.badCopy_spec (genB cust : Bool) (img : List Byte) (src : Nat) {t : State}
    (ht : t = (((s.writeImage genB cust img).setShadow 4).loadFails .readback {}).latchFault src .s) : t.loadBusy = false ∧
      t.fld 0x12C 1 0 = 3 ∧ t.shadowState = 4 ∧ t.activeGen = s.activeGen ∧ t.tables = s.tables ∧
      (t.source src).cause = true ∧ (t.source src).cls = .s := by
  have hFld {o : Nat} (ho : o < 0x100000) (hi lo : Nat) :
      t.fld o hi lo = (((s.writeImage genB cust img).setShadow 4).loadFails .readback {}).fld o hi lo := by
    rw [ht, State.fld_latchFault _ _ _ _ _ (by decide) ho]
  have hState : t.fld 0x12C 1 0 = 3 := (hFld (by decide) _ _).trans (State.loadFails_state _ _)
  obtain ⟨hCause, hCls⟩ := State.latchFault_s_shows (s := ((s.writeImage genB cust img).setShadow 4).loadFails .readback {})
    src 0 false false
  rw [← ht] at hCause hCls
  refine ⟨decide_eq_false (by rw [hState]; decide), hState, ?_, ?_, ?_, hCause, hCls⟩
  · exact (hFld (by decide) _ _).trans ((State.loadFails_shadow _ _).trans (State.setShadow_state 4))
  · rw [State.activeGen_of_fld (hFld (by decide) _ _), State.loadFails_activeGen, State.setShadow_activeGen]
    exact State.bit_moves State.writeImage_moves (by decide) _ _
  · rw [ht, (State.latchFault_s_any _ _ _ _).same .tables (by decide)]
    exact (State.loadFails_moves.same .tables (by decide)).trans
      ((State.setShadow_moves.same .tables (by decide)).trans (State.writeImage_moves.same .tables (by decide)))

/-! ### The scrubber of the stores (R91) -/

section
variable {w : StoreRef} (hi : s.injects (storeSourceOf w) = none)
include hi

theorem State.storeScrub_good (g : Option (Fin 16)) : s.storeScrub w .good g = s := by
  simp [State.storeScrub, State.checkedRead, hi]

theorem State.storeScrub_single (g : Option (Fin 16)) : s.storeScrub w .single g
    = (if storeOfSpan w then s else s.count (cPipe (storeCopyOf w) 19) 1).corrected (storeSourceOf w) 1 := by
  simp [State.storeScrub, State.checkedRead, hi]

theorem State.storeScrub_copied (d : Fin 16) : s.storeScrub w .uncorrectable (some d)
    = (s.setStoreOne (storeCopyOf w) (storeKeyOf w) (s.store (donorCopy w d) (storeKeyOf w))).latchFault (storeSourceOf w) .n := by
  simp [State.storeScrub, State.checkedRead, hi, State.meetAt]

theorem State.storeScrub_active (hg : w.genB = s.activeGen) (hs : storeOfSpan w = false) : s.storeScrub w .uncorrectable none
    = s.latchFault (srcSpan w.span (pipeBlock (storePass w) w.pipe) (if storeStaged w then w.stage else 0x3F)) .s := by
  simp [State.storeScrub, State.checkedRead, hi, State.meetAt, hg, hs]

theorem State.storeScrub_shadow (hg : w.genB = !s.activeGen) : s.storeScrub w .uncorrectable none
    = (s.setShadow 4).latchFault (storeSourceOf w) .s := by
  simp [State.storeScrub, State.checkedRead, hi, State.meetAt, hg]

end

/-- A copy that is written holds what was written, and no other copy's base changes. -/
theorem State.store_setStoreOne (copy key v : Nat) : (s.setStoreOne copy key v).store copy key = v := by
  simp only [State.store, State.setStoreOne, Tbl.get_put, if_true]
  split
  · next h => exact (by simpa using h : v ≠ s.storeBase key ∧ v = _).2.symm
  · next h => exact (by simpa using h : v = s.storeBase key).symm

theorem State.store_of_progs {t : State} (h : t.progs = s.progs) (copy key : Nat) : t.store copy key = s.store copy key := by
  simp only [State.store, State.storeBase, h]

end Sys2Proof.Machine
end

section
/-! PROOFS. The window onto the stores and the tables: captures, stagings, commits and refusals. -/

namespace Sys2Proof.Machine

variable {s : State}

/-! ### Reads (R129) -/

section
variable {off : Offset} {x : WinReg} (hc : s.closed 0x3000000 = false)
  (hx : winReg (winSelOf (s.reg 0x180)) (off.toNat / 4 * 4) = some x)
include hc

theorem exec_windowRead_none (hn : winReg (winSelOf (s.reg 0x180)) (off.toNat / 4 * 4) = none) :
    exec (.windowRead off) s = .next { s with readData := 0 } := by
  simp [exec, execWindowRead, hc, hn, State.winRead]

theorem exec_windowWrite_none {v : Word} (hn : winReg (winSelOf (s.reg 0x180)) (off.toNat / 4 * 4) = none) :
    exec (.windowWrite off v) s = .next s := by
  simp [exec, execWindowWrite, State.windowWrite, hc, hn]

include hx

/-- The lowest register of an item captures it. -/
theorem exec_windowRead_captures (hk : x.k = 0) : exec (.windowRead off) s = .next { s with
    readData := winPart x (s.winWhole (winSelOf (s.reg 0x180)) x.item)
    progs := { s.progs with
      captured := some (winId (winSelOf (s.reg 0x180)) x.item, s.winWhole (winSelOf (s.reg 0x180)) x.item) } } := by
  have hRead : s.winRead (off.toNat / 4 * 4) = winPart x (s.winWhole (winSelOf (s.reg 0x180)) x.item) := by
    simp only [State.winRead, hx]
    split
    · simp [hk]
    · rfl
  simp [exec, execWindowRead, hc, hx, hk, hRead]

omit hc hx in
theorem State.capture_moves (r : Word) (p : ProgState) : Moves [.readData, .progs] s { s with readData := r, progs := p } :=
  Moves.progs (t := { s with readData := r }) (by decide) (.readData (by decide) .refl)

/-- A higher register reads the capture of its item. -/
theorem exec_windowRead_captured (hk : x.k ≠ 0) {v : Nat}
    (hv : s.progs.captured = some (winId (winSelOf (s.reg 0x180)) x.item, v)) :
    exec (.windowRead off) s = .next { s with readData := winPart x v } := by
  have hRead : s.winRead (off.toNat / 4 * 4) = winPart x v := by
    simp [State.winRead, hx, hv, hk]
  simp [exec, execWindowRead, hc, hx, hk, hRead]

/-! ### Writes (R129, R130) -/

theorem exec_windowWrite_stages {u row : Nat} {v : Word} (hItem : x.item = .sram u row) (hk : x.k < 7) (hm : s.chip.mode = .test) :
    exec (.windowWrite off v) s = .next { s with progs := { s.progs with
      staging := some (winId (winSelOf (s.reg 0x180)) x.item, winPut x (match s.progs.staging with
        | some (i, w) => if i = winId (winSelOf (s.reg 0x180)) x.item then w else s.winData (winSelOf (s.reg 0x180)) x.item
        | none => s.winData (winSelOf (s.reg 0x180)) x.item) v) } } := by
  simp [exec, execWindowWrite, hc, State.windowWrite, hx, winLast, hItem, State.winRefusal, hm, hk, Nat.not_lt.mpr hk.le] <;> rfl

theorem exec_windowWrite_commits {u row w : Nat} {v : Word} (hItem : x.item = .sram u row) (hk : x.k = 7)
    (hs : s.progs.staging = some (winId (winSelOf (s.reg 0x180)) x.item, w)) (hb : (winSelOf (s.reg 0x180)).bcast = false)
    (hm : s.chip.mode = .test) : exec (.windowWrite off v) s
      = .next (({ s with progs := { s.progs with staging := none } } : State).setSram (winSelOf (s.reg 0x180)).span u row
        (winPut x w v)) := by
  rw [hItem] at hs
  simp [exec, execWindowWrite, hc, State.windowWrite, hx, winLast, hItem, State.winRefusal, hm, hk, hs, hb, State.winCheck,
    State.winCommit, State.putRow]

theorem exec_windowWrite_refused {kind stage index : Nat} {v : Word} (hItem : x.item = .store kind stage index)
    (hl : winLast x.item = some 17) (hk : x.k ≤ 17) (hm : s.chip.mode = .service) :
    ∃ c, exec (.windowWrite off v) s = .next (s.winReject (off.toNat / 4 * 4) c (winPlace (winSelOf (s.reg 0x180)) x.item)) := by
  obtain ⟨c, hRefused⟩ : ∃ c, s.winRefusal (winSelOf (s.reg 0x180)) x.item = some c := by
    rw [hItem]
    simp only [State.winRefusal, hm]
    split
    · exact ⟨_, rfl⟩
    · exact ⟨_, rfl⟩
  refine ⟨c, ?_⟩
  simp only [exec, execWindowWrite, hc, State.windowWrite, hx, hl, hRefused]
  rw [if_neg (by decide), if_neg (by omega)]

end

/-- A rejected write shows as a class-N fault with its offset (R130). -/
theorem State.winReject_spec (off : Nat) (c : LoadCode) (p : LoadPlace) {t : State} (ht : t = s.winReject off c p) :
    t.progs = s.progs ∧ t.tables = s.tables ∧ t.chip = s.chip ∧ (t.source loadSource).cause = true ∧
      (t.source loadSource).cls = .n ∧ (∀ x, x ≠ loadSource → t.source x = s.source x) ∧
      (t.source loadSource).detail = BitVec.ofNat 64 (off % 2 ^ 26) := by
  have hStatus : Moves [.regs] s (if s.loadBusy then s else s.loadStatus 3 c p) := .ite .refl State.loadStatus_moves
  rw [State.winReject] at ht
  generalize (if s.loadBusy then s else s.loadStatus 3 c p) = u at hStatus ht
  have hLatch := State.latchFault_n_moves (s := u) loadSource (off % 2 ^ 26) false false (by decide)
  have hSource (x : Nat) := State.latchFault_n_source (s := u) loadSource (off % 2 ^ 26) false false x
  rw [← ht] at hLatch
  simp only [← ht] at hSource
  refine ⟨(hLatch.same .progs (by decide)).trans (hStatus.same .progs (by decide)),
    (hLatch.same .tables (by decide)).trans (hStatus.same .tables (by decide)),
    (hLatch.same .chip (by decide)).trans (hStatus.same .chip (by decide)), ?_, ?_, fun x hx => ?_, ?_⟩
  · rw [hSource, if_pos rfl]
    rfl
  · rw [hSource, if_pos rfl]
    rfl
  · rw [hSource, if_neg hx, State.source_moves hStatus (by decide)]
  · rw [hSource, if_pos rfl]
    rfl

end Sys2Proof.Machine
end

section
/-! PROOFS. Loads, the scrubber and the window together. -/

namespace Sys2Proof.Machine

variable {s : State}

theorem pipeOfSource_store (w : StoreRef) : pipeOfSource (storeSourceOf w) = none := by
  have hBlock : storeSourceOf w / 0x40 % 64 = 0x0F := by
    unfold storeSourceOf srcSpan
    split_ifs <;> omega
  unfold pipeOfSource
  dsimp only
  rw [hBlock, if_neg (by omega), if_neg (by omega)]

/-- Settles O46: each clause is one case of its command (`exec_loadStart_…`, `exec_loadComplete_…`, `State.storeScrub_…`,
`exec_windowRead_…`, `exec_windowWrite_…`), and what that case leaves. -/
theorem loadsAndTheWindow : Obligations.LoadsAndTheWindow := by
  refine ⟨fun v s h hb hr hs hj h5 => exec_loadStart_accepted h hb hr hs hj h5, fun v s h => exec_loadStart_noStart h,
    fun v s h hb => exec_loadStart_busy h hb, fun v s h hb hr => exec_loadStart_refused h hb hr,
    fun img bad s hb => exec_loadComplete_idle hb,
    fun off v s hc hn => ⟨exec_windowWrite_none hc hn, exec_windowRead_none hc hn⟩,
    fun bad s hb => ⟨_, exec_loadComplete_unread hb, State.loadFails_notBusy _ _, State.loadFails_state _ _, ?_,
      (State.loadFails_moves.same .progs (by decide)).trans (State.setShadow_moves.same .progs (by decide)), ?_⟩,
    fun img bad s hb h => ⟨_, exec_loadComplete_faulty hb h, State.loadFails_notBusy _ _, State.loadFails_state _ _,
      State.loadFails_code _ _, ?_, (State.loadFails_moves.same .progs (by decide)).trans
        (State.setShadow_moves.same .progs (by decide))⟩,
    fun img s hb h => ⟨_, exec_loadComplete_installed hb h, State.installImage_spec img rfl⟩,
    fun img n ps p s hb h => ⟨_, exec_loadComplete_badCopy hb h n ps p, State.badCopy_spec _ _ _ _ rfl⟩,
    fun w d s hi => ⟨_, congrArg Host.Outcome.next (State.storeScrub_copied hi d), ?_⟩,
    fun w g s hi => ⟨_, congrArg Host.Outcome.next (State.storeScrub_good hi g), rfl⟩,
    fun w g s hi => ⟨_, congrArg Host.Outcome.next (State.storeScrub_single hi g), ?_, ?_, fun hs => ?_⟩,
    fun w s hi hg hs => ⟨_, congrArg Host.Outcome.next (State.storeScrub_active hi hg hs),
      (State.latchFault_s_any _ _ _ _).same .progs (by decide),
      State.activeGen_of_fld (State.fld_latchFault _ _ _ _ _ (by decide) (by decide) _ _), State.latchFault_s_shows _ _ _ _⟩,
    fun w s hi hg => ⟨_, congrArg Host.Outcome.next (State.storeScrub_shadow hi hg), ?_, ?_, ?_, State.latchFault_s_shows _ _ _ _⟩,
    fun off x s hc hx hk => ⟨_, exec_windowRead_captures hc hx hk, rfl, rfl, (State.capture_moves _ _).only⟩,
    fun off x v s hc hx hk hv => ⟨_, exec_windowRead_captured hc hx hk hv, rfl, (Moves.readData (by decide) .refl).only⟩,
    fun off v x u row s hc hx hItem hk hm => ⟨_, exec_windowWrite_stages hc hx hItem hk hm, rfl, (Moves.progs (by decide) .refl).only⟩,
    fun off v x u row w s hc hx hItem hk hs hb hm => ⟨_, exec_windowWrite_commits hc hx hItem hk hs hb hm, ?_, rfl,
      (Moves.step State.setSram_moves (by decide) (.progs (by decide) .refl)).only⟩,
    fun off v x kind stage index s hc hx hItem hl hk hm => ?_⟩
  · exact (State.loadFails_shadow _ _).trans (State.setShadow_state _)
  · exact (State.loadFails_activeGen _ _).trans (State.setShadow_activeGen _)
  · exact (State.loadFails_shadow _ _).trans (State.setShadow_state _)
  · have hLatch := State.latchFault_n_halts (s := s.setStoreOne (storeCopyOf w) (storeKeyOf w)
      (s.store (donorCopy w d) (storeKeyOf w))) (storeSourceOf w) 0 false false
    have hProgs := hLatch.same .progs (by decide)
    have hBase : (s.setStoreOne (storeCopyOf w) (storeKeyOf w) (s.store (donorCopy w d) (storeKeyOf w))).progs.base
        = s.progs.base := rfl
    exact ⟨(State.store_of_progs hProgs _ _).trans (State.store_setStoreOne _ _ _), (congrArg ProgState.base hProgs).trans hBase,
      hLatch.same .chip (by decide), State.latchFault_n_shows _ _ _ _⟩
  · exact (Moves.step (ps := [.counters, .fc]) State.corrected_moves (by decide)
      (.ite .refl (State.count_moves.mono (by decide)))).same .progs (by decide)
  · exact State.fld_moves (Moves.step (ps := [.counters, .fc]) State.corrected_moves (by decide)
      (.ite .refl (State.count_moves.mono (by decide)))) (by decide) _ _ _
  · rw [State.counter_moves State.corrected_moves (by decide), hs, if_neg (by decide), State.counter_count, if_pos rfl]
  · exact (State.fld_latchFault _ _ _ _ _ (by decide) (by decide) _ _).trans (State.setShadow_state 4)
  · exact (State.activeGen_of_fld (State.fld_latchFault _ _ _ _ _ (by decide) (by decide) _ _)).trans (State.setShadow_activeGen _)
  · have hProgs : ((s.setShadow 4).latchFault (storeSourceOf w) .s).progs = (s.setShadow 4).progs :=
      (State.latchFault_s_any _ _ _ _).same .progs (by decide)
    rw [hProgs, (State.setShadow_moves (n := 4)).same .progs (by decide)]
  · exact (Tbl.get_put _ _ _ _ _).trans (if_pos rfl)
  · obtain ⟨c, e⟩ := exec_windowWrite_refused (v := v) hc hx hItem hl hk hm
    exact ⟨_, e, State.winReject_spec _ _ _ rfl⟩

end Sys2Proof.Machine
end

section
/-! PROOFS. The trestle instructions (R121): why an LD of more words than the engine has registers does not leave each
word in a register of its own. -/

namespace Sys2Proof.Machine

/-- The working registers are 16: a register number goes round. -/
theorem Trestle.reg_add_16 (x : Trestle) (i : Nat) : x.reg (i + 16) = x.reg i := by
  simp [Trestle.reg]

/-- The first row of unit 0, which `wideTable` puts in an exact table with rows of five units. -/
def wideItem : TableRef := { ternary := false, unit := 0, row := 0, low := false }

/-- A running engine 0 by an enabled exact table 0 whose descriptor names 8 units from unit 0 and entries of five rows,
the fifth of which begins with 1; R150 has no such width, but a descriptor register can hold it. -/
def wideTable : State :=
  (((State.reset.setReg (kindReg 0 0) 0x95000000).setReg (unitsReg 0 0) 0x200000).setSram 0 4 0 (2 ^ 192)).setEngine 0
    { state := 1 }

/-- An LD of `wideItem` has 20 words for 16 registers, and the word that comes 16 after the first differs from it. -/
theorem wideTable_itemWords : (wideTable.itemWords (0 : Span) wideItem).length = 20 ∧
    (wideTable.itemWords (0 : Span) wideItem).getD 0 0 = 0 ∧ (wideTable.itemWords (0 : Span) wideItem).getD 16 0 = 1 := by
  decide +kernel

/-- Refutes O47: the clause on LD wants every word of the item in the register that many after the first, but registers
go round after 16. A descriptor register can hold a width of 5 or more, with which an exact entry has 20 words or more:
word 16 would have to stand in the same register as word 0, and in `wideTable` the two differ. -/
theorem not_trestleInstructions : ¬ Obligations.TrestleInstructions := by
  rintro ⟨-, hLd, -⟩
  obtain ⟨t, -, -, -, hWords, -⟩ := hLd 0 wideItem 0 wideTable (by decide)
  obtain ⟨hLength, hFirst, hLast⟩ := wideTable_itemWords
  have h0 : (t.engine 0).reg 0 = 0 := (hWords 0 (by rw [hLength]; decide)).trans hFirst
  have h16 : (t.engine 0).reg (0 + 16) = 1 := (hWords 16 (by rw [hLength]; decide)).trans hLast
  rw [Trestle.reg_add_16, h0] at h16
  exact absurd h16 (by decide)

end Sys2Proof.Machine
end

section
/-! PROOFS. A sweep of an aging table (R162): what it does with an entry whose replicas disagree on their age. -/

namespace Sys2Proof.Machine

/-- A replica whose AGE is not the one read fails the compare, and no replica changes (R121, R162). -/
theorem State.ageEntry_of_ages_differ {s : State} {spans : List Nat} {late : Bool} {g : Geometry} {e : EntryPlace}
    (hBusy : getBits (s.placeCtl (spans.headD 0) e) 24 24 ≠ 1)
    (hAge : spans.any (fun n => ctlAge (s.placeCtl n e) ≠ ctlAge (s.placeCtl (spans.headD 0) e)) = true) :
    s.ageEntry spans late g e = s.count (cSpan s.serviceSpan 12) 1 := by
  unfold State.ageEntry
  simp only [if_neg hBusy, if_pos hAge]

/-- A sweep that the idle engine runs over a table with one entry, whose replicas disagree on their age, changes no
table. -/
theorem agingSweep_of_ages_differ {k : Fin 240} {e : EntryPlace} {s : State} (hUp : s.groupUp 0 = true)
    (hFree : s.engineFree s.serviceSpan = true) (hOne : s.entries (s.spansUp.headD 0) (s.geometry (s.spansUp.headD 0) k) = [e])
    (hBusy : getBits (s.placeCtl (s.spansUp.headD 0) e) 24 24 ≠ 1)
    (hAge : s.spansUp.any (fun n => ctlAge (s.placeCtl n e) ≠ ctlAge (s.placeCtl (s.spansUp.headD 0) e)) = true) :
    ∃ t, exec (.agingSweep k) s = .next t ∧ t.tables = s.tables := by
  refine ⟨s.agingSweep k, ?_, ?_⟩
  · simp only [exec, execAgingSweep, hUp, hFree, Bool.not_true, Bool.false_eq_true, if_false, if_true]
  · unfold State.agingSweep State.agingEntries
    simp only [hOne, List.foldl_cons, List.foldl_nil, State.ageEntry_of_ages_differ hBusy hAge]
    split <;> rfl

/-- The entry in row 0 of unit 0. -/
def firstRowEntry : EntryPlace := { unit := 0, row := 0, top := 255 }

/-- An aging exact table 0 in unit 0, whose first entry is valid with HIT in span 0 alone, where its AGE is 1; in the
other spans its row is 0, so that their AGE is 0. -/
def agesDiffer : State :=
  ((State.reset.setReg (kindReg 0 0) 0x9100C000).setReg (unitsReg 0 0) 0x100000).setSram 0 0 0
    (2 ^ 255 + 2 ^ 253 + 2 ^ 249)

/-- In `agesDiffer` the one entry of table 0 has another AGE in a span than in the first. -/
theorem agesDiffer_any : agesDiffer.spansUp.any (fun n => ctlAge (agesDiffer.placeCtl n firstRowEntry) ≠
    ctlAge (agesDiffer.placeCtl (agesDiffer.spansUp.headD 0) firstRowEntry)) = true := by
  decide +kernel

/-- Refutes O48: the clause on a sweep wants the age restarted in every replica of an entry that a span has hit, and does
not ask that the replicas agree on their age. In `agesDiffer` they do not, so that the entry fails the compare and keeps
its HIT bit in span 0. -/
theorem not_enginesAndTablesAreServed : ¬ Obligations.EnginesAndTablesAreServed := by
  rintro ⟨-, -, -, -, -, -, -, -, -, -, -, -, -, hSweep, -⟩
  obtain ⟨t, hRun, hRestarted, -⟩ := hSweep 0 firstRowEntry agesDiffer (by decide +kernel) (by decide +kernel)
    (by decide +kernel) (by decide +kernel) (by decide +kernel) (by decide +kernel) (by decide +kernel)
    (by decide +kernel)
  obtain ⟨u, hKept, hTables⟩ := agingSweep_of_ages_differ (k := 0) (e := firstRowEntry) (s := agesDiffer)
    (by decide +kernel) (by decide +kernel) (by decide +kernel) (by decide +kernel) agesDiffer_any
  obtain rfl : t = u := Host.Outcome.next.inj (hRun.symm.trans hKept)
  have hSame : t.placeCtl 0 firstRowEntry = agesDiffer.placeCtl 0 firstRowEntry := by
    simp only [State.placeCtl, State.sram, hTables]
  have hHit := hSame.symm.trans (hRestarted 0 (by decide +kernel))
  exact absurd hHit (by decide +kernel)

end Sys2Proof.Machine
end

section
/-! PROOFS. The rules of the classifier (R140): why "no other rule changes" cannot be said of every number. -/

namespace Sys2Proof.Machine

/-- Rules are kept 4,096 numbers to a span, so that number 4,096 + i of a span is number i of the next one. -/
theorem State.rule_add_4096 (s : State) (n i : Nat) : s.rule n (i + 4096) = s.rule (n + 1) i := by
  simp only [State.rule, Nat.add_mul, Nat.one_mul, Nat.add_assoc, Nat.add_comm]

/-- An INSERT of classifier rule 5 in generation A whose record is at address 8. -/
def insertRule5 : Call :=
  { idx := 0, body := [2, 1, 0, 0, 240, 1, 0, 0, 5, 0, 0, 0, 0, 0, 0, 0, 8, 0, 0, 0, 0, 0, 0, 0] }

/-- The device in TEST with that command the oldest of ring 0, and no rule in any span. -/
def ringAsksRule5 : State :=
  (({ State.reset with chip := { State.reset.chip with mode := .test } } : State).setFld 0x700000 5 0 9).setSq 0
    { calls := [insertRule5] }

/-- Refutes O57: the clause on an INSERT of a rule wants the rule in every span that takes part, and every rule of
another number as it was, whatever the number. The number 4,096 above that of the rule names, in span 0, the rule itself
in span 1, which the command writes: it would have to be both the rule written, which is valid, and the one before. -/
theorem not_tableRequestsActInEveryReplica : ¬ Obligations.TableRequestsActInEveryReplica := by
  rintro ⟨-, hInsert, -⟩
  obtain ⟨t, -, hWritten, hKept, -⟩ := hInsert 0 insertRule5 [] ringAsksRule5 (by decide) (by decide) (by decide)
    (by decide) (by decide) (by decide) (by decide) (by decide) (by decide) (by decide)
  have hNew := hWritten 1 (by decide)
  have hOld := hKept 0 (insertRule5.tableArgs.index + 4096) (by decide)
  rw [State.rule_add_4096, State.rule_add_4096, hNew] at hOld
  exact absurd (congrArg Rule.ctl hOld) (by decide)

end Sys2Proof.Machine
end

section
/-! PROOFS. The services of the keystones (R391, R415): what completing the oldest command of a ring does, how a call is
taken, refused or left, and what each function of INFO, AUDIT, PTP, PIER, FUSE, UPDATE and POWER does. -/

namespace Sys2Proof.Machine
variable {s t u : State} {r svc fn : Nat} {c : Call} {rest : List Call} {d : Done}

/-! ### Completing the oldest command of a ring -/

theorem State.sq_setSq (r : Nat) (x : SqRec) : (s.setSq r x).sq r = x := by
  simp [State.sq, State.setSq, Tbl.get_put]

theorem State.sq_of_hq (h : t.hq = s.hq) (r : Nat) : t.sq r = s.sq r := by
  rw [State.sq, State.sq, h]

theorem State.executedOf_setExecuted (r l : Nat) : (s.setExecuted r l).executedOf r = l + 1 := by
  simp [State.executedOf, State.setExecuted, Tbl.get_put]

theorem State.executedOf_of_jrn (h : t.jrn = s.jrn) (r : Nat) : t.executedOf r = s.executedOf r := by
  rw [State.executedOf, State.executedOf, h]

/-- The ring without its oldest command. -/
def State.dropCall (s : State) (r : Nat) (rest : List Call) : State := s.setSq r { (s.sq r) with calls := rest }

theorem State.finishCall_plain (h : (s.sq r).calls = c :: rest) (hLsn : c.lsn = none) :
    s.finishCall r d = (s.dropCall r rest).finishTaken r c.idx d := by
  unfold State.finishCall
  simp only [h, hLsn, State.dropCall]

theorem State.finishCall_durable {l : Nat} (h : (s.sq r).calls = c :: rest) (hLsn : c.lsn = some l) :
    s.finishCall r d = if d.code = 0 then (s.dropCall r rest).setExecuted r l
      else (((s.dropCall r rest).setExecuted r l).latchFault hostSource .n).nameFault hostSource [r, l] := by
  unfold State.finishCall
  simp only [h, hLsn, State.dropCall]

theorem State.sq_dropCall (r : Nat) (rest : List Call) : (s.dropCall r rest).sq r = { s.sq r with calls := rest } :=
  State.sq_setSq _ _

theorem State.sq_finishTaken (r : Nat) (i : Word) (d : Done) : (s.finishTaken r i d).sq r =
    { s.sq r with taken := (s.sq r).taken.map (fun t =>
        if t.idx = i && t.done.isNone then { t with done := some d } else t) } :=
  State.sq_setSq _ _

/-- The fault that records the failure of a durable command leaves its ring and the journal (R392). -/
theorem State.sq_latchHost (r : Nat) (names : List Nat) (x : Nat) :
    ((s.latchFault hostSource .n).nameFault hostSource names).sq x = s.sq x ∧
      ((s.latchFault hostSource .n).nameFault hostSource names).executedOf r = s.executedOf r := by
  have hLatch := State.latchFault_n_moves (s := s) hostSource 0 false false (by decide)
  exact ⟨(State.sq_of_hq (hLatch.same .hq (by decide)) x), State.executedOf_of_jrn (hLatch.same .jrn (by decide)) r⟩

/-- What completing a command of ring `r` shows: the command has left the ring, a durable one is executed, and an entry
of a plain one is done. -/
structure Answers (r : Nat) (c : Call) (s t : State) : Prop where
  calls : (t.sq r).calls = (s.sq r).calls.drop 1
  executed : ∀ l, c.lsn = some l → t.executedOf r = l + 1
  taken : c.lsn = none → ∀ y ∈ (t.sq r).taken, y.idx = c.idx → y.done.isSome = true

theorem State.finishCall_answers (h : (s.sq r).calls = c :: rest) : Answers r c s (s.finishCall r d) := by
  cases hLsn : c.lsn with
  | none =>
    rw [State.finishCall_plain h hLsn]
    refine ⟨?_, fun l hl => by simp [hLsn] at hl, fun _ y hy hIdx => ?_⟩
    · rw [State.sq_finishTaken, State.sq_dropCall, h]; rfl
    · rw [State.sq_finishTaken, State.sq_dropCall] at hy
      obtain ⟨x, -, rfl⟩ := List.mem_map.1 hy
      by_cases hDone : (x.idx = c.idx && x.done.isNone) = true
      · rw [if_pos hDone]; rfl
      · rw [if_neg hDone] at hIdx ⊢
        simpa [hIdx, Option.isSome_iff_ne_none] using hDone
  | some l =>
    have hRun : ((s.dropCall r rest).setExecuted r l).sq r = { s.sq r with calls := rest } := State.sq_dropCall r rest
    rw [State.finishCall_durable h hLsn]
    refine ⟨?_, fun l' hl => ?_, fun hNone => by simp [hLsn] at hNone⟩
    · split
      · rw [hRun, h]; rfl
      · rw [(State.sq_latchHost r _ r).1, hRun, h]; rfl
    · obtain rfl : l = l' := by simpa [hLsn] using hl
      split
      · exact State.executedOf_setExecuted r l
      · rw [(State.sq_latchHost r _ r).2, State.executedOf_setExecuted]

/-- An entry that has not completed takes what a plain command ends with. -/
theorem State.finishCall_done (h : (s.sq r).calls = c :: rest) {y : Taken} (hy : y ∈ (s.sq r).taken) (hIdx : y.idx = c.idx)
    (hLsn : c.lsn = none) (hDone : y.done = none) :
    ∃ z ∈ ((s.finishCall r d).sq r).taken, z.idx = c.idx ∧ z.done = some d := by
  refine ⟨{ y with done := some d }, ?_, hIdx, rfl⟩
  rw [State.finishCall_plain h hLsn, State.sq_finishTaken, State.sq_dropCall]
  exact List.mem_map.2 ⟨y, hy, by simp [hIdx, hDone]⟩

/-- A command that succeeds touches its ring and the journal alone. -/
theorem State.finishCall_ok_moves (hCode : d.code = 0) : Moves [.hq, .jrn] s (s.finishCall r d) := by
  cases h : (s.sq r).calls with
  | nil => rw [State.finishCall, h]; exact .refl
  | cons c rest =>
    have hDrop : Moves [.hq, .jrn] s (s.dropCall r rest) := State.setSq_moves.mono (by decide)
    cases hLsn : c.lsn with
    | none => rw [State.finishCall_plain h hLsn]; exact .step State.finishTaken_moves (by decide) hDrop
    | some l =>
      rw [State.finishCall_durable h hLsn, if_pos hCode]
      exact .step State.setExecuted_moves (by decide) hDrop

/-- A plain command touches its ring alone, whatever it ends with. -/
theorem State.finishCall_plain_moves (h : (s.sq r).calls = c :: rest) (hLsn : c.lsn = none) :
    Moves [.hq] s (s.finishCall r d) := by
  rw [State.finishCall_plain h hLsn]
  exact .step State.finishTaken_moves (by decide) State.setSq_moves

/-- A command leaves the registers but those of a class-N fault, whatever it ends with. -/
theorem State.finishCall_frame : FaultFrame s (s.finishCall r d) := by
  cases h : (s.sq r).calls with
  | nil => rw [State.finishCall, h]; exact .refl
  | cons c rest =>
    cases hLsn : c.lsn with
    | none => exact .moves (State.finishCall_plain_moves h hLsn) (by decide)
    | some l =>
      have hLeave : FaultFrame s ((s.dropCall r rest).setExecuted r l) := .of_regs rfl
      rw [State.finishCall_durable h hLsn]
      split
      · exact hLeave
      · exact (hLeave.trans (State.latchFault_frame _ _ _ _ _ (by decide))).trans
          (.moves State.nameFault_moves (by decide))

/-! ### Taking a call -/

theorem State.callFor_calls (h : s.callFor r svc fn = some c) : ∃ rest, (s.sq r).calls = c :: rest := by
  unfold State.callFor at h
  split at h
  · next x rest hCalls =>
    split at h
    · obtain rfl := Option.some.inj h
      exact ⟨rest, hCalls⟩
    · cases h
  · cases h

/-- The ring of a command that can run, in a state with the same rings. -/
theorem State.callFor_calls_of_hq (h : s.callFor r svc fn = some c) (hHq : u.hq = s.hq) :
    ∃ rest, (u.sq r).calls = c :: rest := by
  rw [State.sq_of_hq hHq]
  exact State.callFor_calls h

theorem State.runCall_of_allowed {allowed : DevState → Bool} {f : Call → State} (h : s.callFor r svc fn = some c)
    (ha : allowed s.chip.mode = true) : s.runCall r svc fn allowed f = f c := by
  simp [State.runCall, h, ha]

theorem State.runCall_of_state {allowed : DevState → Bool} {f : Call → State} (h : s.callFor r svc fn = some c)
    (ha : allowed s.chip.mode = false) (hd : c.lsn = none ∨ s.chip.mode ≠ .recovery) :
    s.runCall r svc fn allowed f = s.finishCall r { code := 9 } := by
  rcases hd with hd | hd <;> simp [State.runCall, h, ha, hd]

theorem State.runCall_of_none {allowed : DevState → Bool} {f : Call → State} (h : s.callFor r svc fn = none) :
    s.runCall r svc fn allowed f = s := by
  simp [State.runCall, h]

/-- A service that works in state `u`, with the rings of `s`, and completes the oldest command there, answers it. -/
theorem answered_of_exec {i : Instr} {P : State → Prop} (h : s.callFor r svc fn = some c)
    (hRun : exec i s = .next (u.finishCall r d)) (hHq : u.hq = s.hq) (hP : P (u.finishCall r d)) :
    ∃ t, exec i s = .next t ∧ (t.sq r).calls = (s.sq r).calls.drop 1 ∧ (∀ l, c.lsn = some l → t.executedOf r = l + 1) ∧
      (c.lsn = none → ∀ y ∈ (t.sq r).taken, y.idx = c.idx → y.done.isSome = true) ∧ P t := by
  obtain ⟨rest, hCalls⟩ := State.callFor_calls_of_hq h hHq
  obtain ⟨hDrop, hExecuted, hTaken⟩ := State.finishCall_answers (d := d) hCalls
  exact ⟨_, hRun, hDrop.trans (by rw [State.sq_of_hq hHq]), hExecuted, hTaken, hP⟩

/-- The entry of that command takes its result. -/
theorem result_of_callFor (h : s.callFor r svc fn = some c) (hHq : u.hq = s.hq) :
    ∀ y ∈ (s.sq r).taken, y.idx = c.idx → c.lsn = none → y.done = none →
      ∃ z ∈ ((u.finishCall r d).sq r).taken, z.idx = c.idx ∧ z.done = some d := by
  obtain ⟨rest, hCalls⟩ := State.callFor_calls_of_hq h hHq
  intro y hy hIdx hLsn hDone
  exact State.finishCall_done hCalls (by rwa [State.sq_of_hq hHq]) hIdx hLsn hDone

end Sys2Proof.Machine
end

section
/-! PROOFS. Two facts of lists of bytes, and of the flash (R491, R492) and the pier links (R353). -/

namespace Sys2Proof.Machine
variable {s t u : State} {n : Nat}

/-! ### Slices -/

theorem length_sliceBytes (bs : List Byte) (i n : Nat) : (sliceBytes bs i n).length = n := by
  simp [sliceBytes]

theorem sliceBytes_getElem? (bs : List Byte) (i n k : Nat) :
    (sliceBytes bs i n)[k]? = if k < n then some (bs[i + k]?.getD 0) else none := by
  simp only [sliceBytes, List.getElem?_append, List.length_take, List.length_drop, List.getElem?_take, List.getElem?_drop,
    List.getElem?_replicate]
  by_cases hk : k < n
  · by_cases hb : k < bs.length - i
    · rw [if_pos (by omega), if_pos hk, if_pos hk, List.getElem?_eq_getElem (by omega), Option.getD_some]
    · rw [if_neg (by omega), if_pos (by omega), if_pos hk, List.getElem?_eq_none (by omega), Option.getD_none]
  · rw [if_neg (by omega), if_neg (by omega), if_neg hk]

/-- A slice of a slice that lies within it. -/
theorem sliceBytes_sliceBytes {bs : List Byte} {i n j m : Nat} (h : j + m ≤ n) :
    sliceBytes (sliceBytes bs i n) j m = sliceBytes bs (i + j) m := by
  refine List.ext_getElem? fun k => ?_
  simp only [sliceBytes_getElem?]
  by_cases hk : k < m
  · rw [if_pos hk, if_pos hk, if_pos (by omega), Option.getD_some, Nat.add_assoc]
  · rw [if_neg hk, if_neg hk]

/-- The owner key hash of a command is its 12 words from byte 8 of the entry's arguments on. -/
theorem hashWords_body (body : List Byte) : hashWords (sliceBytes body 8 48) =
    (List.range 12).map (fun k => BitVec.ofNat 32 (beNat (sliceBytes body (8 + 4 * k) 4))) := by
  refine List.map_congr_left fun k hk => ?_
  have hk := List.mem_range.1 hk
  rw [sliceBytes_sliceBytes (by omega)]

/-! ### The flash -/

theorem Tbl.get_filter_key {α : Type} (d : Nat → α) (p : Nat → Bool) (t : Tbl α) (k : Nat) :
    Tbl.get d (t.filter (fun e => p e.1)) k = if p k then Tbl.get d t k else d k := by
  induction t with
  | nil => simp [Tbl.get]
  | cons e t ih =>
    obtain ⟨k', v⟩ := e
    by_cases hk : k = k'
    · subst hk; by_cases hp : p k = true <;> simp [Tbl.get, hp, ih]
    · by_cases hp : p k' = true <;> simp [Tbl.get, hp, ih, hk]

/-- A byte of the flash. -/
def State.flashByte (s : State) (a : Nat) : Byte := Tbl.get flashErased s.boot.flash a

theorem State.flashByte_erase (a n k : Nat) :
    (s.flashErase a n).flashByte k = if a ≤ k ∧ k < a + n then 0xFF else s.flashByte k := by
  have h := Tbl.get_filter_key flashErased (fun x => !(decide (a ≤ x) && decide (x < a + n))) s.boot.flash k
  refine h.trans ?_
  by_cases hk : a ≤ k ∧ k < a + n <;> simp [hk, flashErased, State.flashByte]

theorem State.flashByte_program (a : Nat) (bs : List Byte) (k : Nat) : (s.flashProgram a bs).flashByte k =
    if a ≤ k ∧ k < a + bs.length then bs.getD (k - a) 0 else s.flashByte k := by
  rw [List.getD_eq_getElem?_getD]
  exact programBytes_get _ _ _ _

theorem length_leBytes (n v : Nat) : (leBytes n v).length = n := by
  induction n generalizing v with
  | zero => rfl
  | succ n ih => simp [leBytes, ih]

theorem Bcb.length_bytes (b : Bcb) : b.bytes.length = 32 := by
  simp [Bcb.bytes, Bcb.body, length_leBytes]

theorem State.freePlaceFrom_lt {base m k p : Nat} (h : s.freePlaceFrom base m k = some p) : p < k + m := by
  induction m generalizing k with
  | zero => cases h
  | succ m ih =>
    unfold State.freePlaceFrom at h
    split at h
    · have := ih h; omega
    · obtain rfl := Option.some.inj h; omega

/-- The boot control block ends before byte 0x20000, and so does what appending a record changes (R491, R492). -/
theorem State.flashByte_appendBcb (b : Bcb) {a : Nat} (ha : 0x20000 ≤ a) :
    (s.appendBcb false b).flashByte a = s.flashByte a := by
  have hCopy : s.nextSeq % 2 * 2048 ≤ 2048 := by omega
  unfold State.appendBcb State.writeBcb
  split
  · next k hFree =>
    have hk : k < 0 + 2048 := State.freePlaceFrom_lt hFree
    rw [State.flashByte_program, if_neg (by rw [Bcb.length_bytes]; omega)]
  · rw [if_neg Bool.false_ne_true, State.flashByte_program, if_neg (by rw [Bcb.length_bytes]; omega),
      State.flashByte_erase, if_neg (by omega)]

/-! ### Pier links -/

theorem State.pier_setPier (n : Nat) (x : PierRec) : (s.setPier n x).pier n = x := by
  simp [State.pier, State.setPier, Tbl.get_put]

theorem State.pier_setPierState (n v m : Nat) : (s.setPierState n v).pier m = s.pier m :=
  congrArg (Tbl.get pierDefault · m) (State.setFld_moves.same .piers (by decide))

theorem State.pierState_setPierState (n : Nat) {v : Nat} (hv : v < 8) : (s.setPierState n v).pierState n = v :=
  (State.fld_setFld_same _ _ _ _ _ (by omega) (by omega)).trans (Nat.mod_eq_of_lt hv)

theorem State.pierState_setPier (n m : Nat) (x : PierRec) : (s.setPier n x).pierState m = s.pierState m := rfl

/-- The link has the enable, the rate and the exchange that it had; the boundary is at `slip`. -/
structure SearchedLink (n slip : Nat) (s t : State) : Prop where
  on : t.pierOn n = s.pierOn n
  rate : t.pierRate n = s.pierRate n
  slip : (t.pier n).slip = slip
  sends : (t.pier n).sends = (s.pier n).sends
  noStep : (t.pier n).noStep = (s.pier n).noStep
  stepSent : (t.pier n).stepSent = (s.pier n).stepSent
  capSent : (t.pier n).capSent = (s.pier n).capSent

/-- The boundary after `i` tries. -/
def slipAfter (slip i : Nat) : Nat := if i = 0 then slip else (slip + i) % 10

theorem slipAfter_succ (slip i : Nat) : (slipAfter slip i + 1) % 10 = slipAfter slip (i + 1) := by
  unfold slipAfter
  split <;> simp <;> omega

theorem slipAfter_ten {slip : Nat} (h : slip < 10) : slipAfter slip 10 = slip := by
  unfold slipAfter
  simp; omega

theorem State.pierSearch_link (hOn : s.pierOn n = true) :
    SearchedLink n (s.pier n).slip s (s.pierSearch n) ∧ (s.pierSearch n).pierState n = 1 := by
  have hRun : s.pierSearch n = (s.clearPierCounts n).setPierState n 1 := if_pos hOn
  have hPier : (s.pierSearch n).pier n = { s.pier n with hitsFrom := s.now, errsFrom := s.now } := by
    rw [hRun, State.pier_setPierState]
    exact State.pier_setPier n _
  refine ⟨⟨?_, ?_, by rw [hPier], by rw [hPier], by rw [hPier], by rw [hPier], by rw [hPier]⟩, ?_⟩
  · rw [hRun]; exact State.bit_setFld_reg _ _ _ _ _ _ _ (by omega)
  · rw [hRun]; exact State.fld_setFld_ne _ _ _ _ _ _ _ _ (by omega) (by omega) (by omega) (by omega)
  · rw [hRun]; exact State.pierState_setPierState n (by omega)

/-- A link searches with the boundary after `i` slips from where the search began. -/
theorem State.pierSlips_link (hOn : s.pierOn n = true) (i : Nat) :
    SearchedLink n (slipAfter (s.pier n).slip i) s ((List.range i).foldl (fun s _ => s.pierSlipOne n) (s.pierSearch n)) ∧
      ((List.range i).foldl (fun s _ => s.pierSlipOne n) (s.pierSearch n)).pierState n = 1 := by
  induction i with
  | zero => exact State.pierSearch_link hOn
  | succ i ih =>
    rw [List.range_succ, List.foldl_append, List.foldl_cons, List.foldl_nil]
    generalize (List.range i).foldl (fun s _ => s.pierSlipOne n) (s.pierSearch n) = t at ih ⊢
    obtain ⟨h, hState⟩ := ih
    have hPier : (t.pierSlipOne n).pier n =
        { t.pier n with slip := ((t.pier n).slip + 1) % 10, hitsFrom := t.now, errsFrom := t.now } := by
      unfold State.pierSlipOne State.clearPierCounts
      simp only [State.pier_setPier]
      rfl
    exact ⟨⟨h.on, h.rate, by rw [hPier, h.slip]; exact slipAfter_succ _ _, by rw [hPier]; exact h.sends,
      by rw [hPier]; exact h.noStep, by rw [hPier]; exact h.stepSent, by rw [hPier]; exact h.capSent⟩, hState⟩

theorem SearchedLink.settled {slip : Nat} (h : SearchedLink n slip s t) : t.pierSettled n = s.pierSettled n := by
  unfold State.pierSettled
  rw [h.rate, h.sends, h.noStep]

/-- A lock leads to UP, or to where the exchange stood, and leaves the boundary (R353, R357). -/
theorem SearchedLink.lock {slip : Nat} (h : SearchedLink n slip s t) (hOn : s.pierOn n = true) :
    ((t.pierLock n).pier n).slip = slip ∧ (t.pierLock n).pierState n = if s.pierSettled n then 5
      else if (s.pier n).stepSent then 4 else if (s.pier n).capSent then 3 else 2 := by
  have hOn' : (!t.pierOn n) = false := by rw [h.on, hOn]; rfl
  unfold State.pierLock
  rw [hOn', if_neg Bool.false_ne_true, h.settled, h.stepSent, h.capSent]
  by_cases hSettled : s.pierSettled n = true
  · rw [if_pos hSettled, if_pos hSettled]
    unfold State.pierUp
    rw [State.pier_setPier, State.pierState_setPier]
    exact ⟨h.slip, State.pierState_setPierState n (by omega)⟩
  · rw [if_neg hSettled, if_neg hSettled]
    rw [State.pier_setPierState]
    exact ⟨h.slip, State.pierState_setPierState n (by split <;> [omega; split <;> omega])⟩

theorem State.pierSlips_moves (i : Nat) :
    Moves [.regs, .piers] s ((List.range i).foldl (fun s _ => s.pierSlipOne n) (s.pierSearch n)) :=
  .fold (fun _ _ => State.pierSlipOne_moves.mono (by decide)) State.pierSearch_moves

end Sys2Proof.Machine
end

section
/-! PROOFS. What each service of the keystones does with the oldest command of its ring (R96, R179, R353, R356, R415,
R418, R482, R497, R498). -/

namespace Sys2Proof.Machine
variable {s t u : State} {r : Ring} {svc fn : Nat} {c : Call} {d : Done}

/-- A command that succeeds leaves what its service has left but its ring and the journal. -/
theorem State.finishCall_only {ps : List StatePart} (h : Moves ps s u) (hCode : d.code = 0) (hp : ps ⊆ ps ++ [.hq, .jrn])
    (hq : [.hq, .jrn] ⊆ ps ++ [.hq, .jrn]) : OnlyTouches (ps ++ [.hq, .jrn]) s (u.finishCall r d) :=
  ((h.mono hp).trans ((State.finishCall_ok_moves hCode).mono hq)).only

/-- A part that no fault and no ring is in stays as the service has left it, whatever the command ends with. -/
theorem State.finishCall_same (p : StatePart) (hp : p ∉ StatePart.hq :: .jrn :: reactParts) :
    p.same u (u.finishCall r d) :=
  State.finishCall_moves.same p hp

/-! ### AUDIT, PTP and FUSE -/

theorem exec_auditRun_eq (hc : s.callFor r 3 1 = some c) (hm : statesButOff s.chip.mode = true) :
    exec (.auditRun r) s = .next (s.audit.1.finishCall r
      { code := 0, result := leBytes 4 s.quarantined.length ++ leBytes 4 s.audit.2.2 }) :=
  congrArg Host.Outcome.next (State.runCall_of_allowed hc hm)

theorem State.ptpOf_setPtp (b : Nat) (x : PtpInstance) (k : Nat) :
    (s.setPtp b x).ptpOf k = if k = b then x else s.ptpOf k :=
  Tbl.get_put _ _ _ _ _

theorem State.ptpOf_finishCall (k : Nat) : (u.finishCall r d).ptpOf k = u.ptpOf k :=
  congrArg (fun x : KsState => Tbl.get ptpDefault x.ptp k) (State.finishCall_same .ks (by decide))

/-- A time base of PTP with a state given to a port. -/
def PtpInstance.assign (x : PtpInstance) (port role : Nat) : PtpInstance :=
  { x with ports := Tbl.put (fun _ => 0) x.ports port role }

theorem exec_ptpPort_assigns (hc : s.callFor r 4 2 = some c) (hm : statesButOff s.chip.mode = true)
    (hMay : (s.ptpOf (c.ptpArg 0)).mayAssign (c.ptpArg 2) (c.ptpArg 3) = true) :
    exec (.ptpPort r) s = .next ((s.setPtp (c.ptpArg 0)
      ((s.ptpOf (c.ptpArg 0)).assign (c.ptpArg 2) (c.ptpArg 3))).finishCall r { code := 0 }) :=
  congrArg Host.Outcome.next ((State.runCall_of_allowed hc hm).trans (if_pos hMay))

theorem exec_ptpPort_fails (hc : s.callFor r 4 2 = some c) (hm : statesButOff s.chip.mode = true)
    (hMay : (s.ptpOf (c.ptpArg 0)).mayAssign (c.ptpArg 2) (c.ptpArg 3) = false) :
    exec (.ptpPort r) s = .next (s.finishCall r (serviceError 0)) :=
  congrArg Host.Outcome.next ((State.runCall_of_allowed hc hm).trans (if_neg (by simp [hMay])))

theorem exec_fuseOwnerKey_blows (hc : s.callFor r 6 1 = some c) (hm : s.chip.mode = .startUp)
    (hKey : s.progs.ownerEn = false) :
    exec (.fuseOwnerKey r) s = .next (({ s with progs := { s.progs with
      ownerHash := hashWords (sliceBytes c.body 8 48), ownerEn := true } } : State).finishCall r { code := 0 }) :=
  congrArg Host.Outcome.next ((State.runCall_of_allowed hc (decide_eq_true hm)).trans (if_neg (by simp [hKey])))

theorem State.progs_finishCall (hCode : d.code = 0) : (u.finishCall r d).progs = u.progs :=
  (State.finishCall_ok_moves hCode).same .progs (by decide)

/-! ### PIER -/

theorem State.pier_finishCall (n : Nat) : (u.finishCall r d).pier n = u.pier n :=
  congrArg (Tbl.get pierDefault · n) (State.finishCall_same .piers (by decide))

theorem faultRegister_pier {n : Nat} : faultRegister (pierOff n + 4) = false := by
  have hAbove : ¬ pierOff n + 4 < 0x418100 := by unfold pierOff; omega
  have hNot (o : Nat) (ho : o < 0x418100) : pierOff n + 4 ≠ o := by omega
  simp [faultRegister, hAbove, hNot 0x100004 (by omega), hNot 0x100014 (by omega), hNot 0x400004 (by omega)]

theorem State.pierState_finishCall (n : Nat) : (u.finishCall r d).pierState n = u.pierState n :=
  State.finishCall_frame.fld faultRegister_pier 31 29

/-- The link after a search that has slipped `i` times. -/
def State.pierSlipped (s : State) (n i : Nat) : State :=
  (List.range i).foldl (fun s _ => s.pierSlipOne n) (s.pierSearch n)

theorem State.pierAligned_moves (i : Nat) :
    Moves [.regs, .piers] s ((s.pierSlipped c.link i).pierLock c.link) :=
  .step State.pierLock_moves (by decide) (State.pierSlips_moves i)

theorem State.pierAlign_found (i : Fin 10) (hOn : s.pierOn c.link = true) :
    let t := ((s.pierSlipped c.link i).pierLock c.link).finishCall r { code := 0 }
    (t.pier c.link).slip = (if i.val = 0 then (s.pier c.link).slip else ((s.pier c.link).slip + i.val) % 10) ∧
    t.pierState c.link = (if s.pierSettled c.link then 5 else if (s.pier c.link).stepSent then 4
      else if (s.pier c.link).capSent then 3 else 2) ∧ OnlyTouches [.regs, .piers, .hq, .jrn] s t := by
  obtain ⟨hSlip, hState⟩ := (State.pierSlips_link hOn i.val).1.lock hOn
  exact ⟨by rw [State.pier_finishCall]; exact hSlip, by rw [State.pierState_finishCall]; exact hState,
    State.finishCall_only (State.pierAligned_moves i.val) rfl (by decide) (by decide)⟩

theorem State.pierAlign_lost (hOn : s.pierOn c.link = true) :
    let t := (s.pierSlipped c.link 10).finishCall r (serviceError 0)
    t.pierState c.link = 1 ∧ ((s.pier c.link).slip < 10 → (t.pier c.link).slip = (s.pier c.link).slip) := by
  obtain ⟨hLink, hState⟩ := State.pierSlips_link hOn 10
  exact ⟨by rw [State.pierState_finishCall]; exact hState,
    fun hSlip => by rw [State.pier_finishCall]; exact hLink.slip.trans (slipAfter_ten hSlip)⟩

theorem State.pierSeq_pierSend (n type : Nat) (b : List Byte) :
    (s.pierSend n type b).pierSeq n = (s.pierSeq n + 1) % 256 :=
  (Tbl.get_put _ _ _ _ _).trans (if_pos rfl)

theorem State.pierSend_completes (n : Nat) (b : List Byte) :
    let t := (s.pierSend n 0x10 b).finishCall r { code := 0 }
    t.emitted = .pier n (pierFrame 0x10 (s.pierSeq n) b) :: s.emitted ∧ t.pierSeq n = (s.pierSeq n + 1) % 256 ∧
      OnlyTouches [.emitted, .pierTx, .hq, .jrn] s t := by
  have hEnd := State.finishCall_ok_moves (s := s.pierSend n 0x10 b) (r := r) (d := { code := 0 }) rfl
  refine ⟨hEnd.same .emitted (by decide), ?_, State.finishCall_only State.pierSend_moves rfl (by decide) (by decide)⟩
  exact (congrArg (Tbl.get zeroNat · n) (hEnd.same .pierTx (by decide))).trans (State.pierSeq_pierSend n _ _)

/-! ### UPDATE -/

theorem State.flashByte_finishCall (a : Nat) : (u.finishCall r d).flashByte a = u.flashByte a :=
  congrArg (fun b : BootState => Tbl.get flashErased b.flash a) (State.finishCall_same .boot (by decide))

/-- An erased range reads FF, and every other byte as before. -/
theorem State.flashErase_completes (a n : Nat) :
    let t := (s.flashErase a n).finishCall r { code := 0 }
    (∀ k, (a ≤ k ∧ k < a + n → t.flashByte k = 0xFF) ∧ (k < a ∨ a + n ≤ k → t.flashByte k = s.flashByte k)) ∧
      OnlyTouches [.boot, .hq, .jrn] s t := by
  refine ⟨fun k => ⟨fun hk => ?_, fun hk => ?_⟩, State.finishCall_only State.flashErase_moves rfl (by decide) (by decide)⟩
  · rw [State.flashByte_finishCall, State.flashByte_erase, if_pos hk]
  · rw [State.flashByte_finishCall, State.flashByte_erase, if_neg (by omega)]

/-- Programmed bytes read back, and every other byte as before. -/
theorem State.flashProgram_reads (a : Nat) (bs : List Byte) {k : Nat} (hk : k < bs.length) :
    (s.flashProgram a bs).flashByte (a + k) = bs.getD k 0 := by
  rw [State.flashByte_program, if_pos (by omega), Nat.add_sub_cancel_left]

theorem State.flashProgram_completes (a n : Nat) (bs : List Byte) :
    let t := (s.flashProgram a (sliceBytes bs 0 n)).finishCall r { code := 0 }
    (∀ k, k < n → t.flashByte (a + k) = (sliceBytes bs 0 n).getD k 0) ∧
      (∀ k, k < a ∨ a + n ≤ k → t.flashByte k = s.flashByte k) ∧ OnlyTouches [.boot, .hq, .jrn] s t := by
  refine ⟨fun k hk => ?_, fun k hk => ?_, State.finishCall_only State.flashProgram_moves rfl (by decide) (by decide)⟩
  · rw [State.flashByte_finishCall, State.flashProgram_reads _ _ (by rwa [length_sliceBytes])]
  · rw [State.flashByte_finishCall, State.flashByte_program, length_sliceBytes, if_neg (by omega)]

/-- The device after the settings record `bs` was written into slot `k` and the record of the boot control block that
names it was appended. -/
def State.settingsWritten (s : State) (k : Nat) (bs : List Byte) : State :=
  ((s.flashErase (slotBase k) slotSize).flashProgram (slotBase k)
    (sliceBytes bs 0 (32 + leNat (sliceBytes bs 0x10 4)))).appendBcb false { s.bcb with slot := k }

theorem slotBase_above (k : Nat) : 0x20000 ≤ slotBase k := by
  unfold slotBase
  omega

theorem settingsSound_length {bs : List Byte} (h : settingsSound bs = true) :
    32 + leNat (sliceBytes bs 0x10 4) ≤ slotSize := by
  simp only [settingsSound, Bool.and_eq_true, decide_eq_true_eq] at h
  obtain ⟨⟨⟨⟨-, hLength⟩, -⟩, -⟩, -⟩ := h
  unfold slotSize
  omega

theorem State.settingsWritten_moves (k : Nat) (bs : List Byte) : Moves [.boot] s (s.settingsWritten k bs) :=
  (State.flashErase_moves.trans State.flashProgram_moves).trans State.appendBcb_moves

theorem State.settingsWritten_completes {bs : List Byte} (h : settingsSound bs = true) (k : Nat) :
    let t := (s.settingsWritten k bs).finishCall r { code := 0 }
    (∀ j, j < 32 + leNat (sliceBytes bs 0x10 4) →
        t.flashByte (slotBase k + j) = (sliceBytes bs 0 (32 + leNat (sliceBytes bs 0x10 4))).getD j 0) ∧
      (∀ a, 0x100000 ≤ a → a < slotBase k ∨ slotBase k + slotSize ≤ a → t.flashByte a = s.flashByte a) ∧
      OnlyTouches [.boot, .hq, .jrn] s t := by
  have hAbove := slotBase_above k
  have hLength := settingsSound_length h
  refine ⟨fun j hj => ?_, fun a ha hOut => ?_,
    State.finishCall_only (State.settingsWritten_moves k bs) rfl (by decide) (by decide)⟩
  · rw [State.flashByte_finishCall, State.settingsWritten, State.flashByte_appendBcb _ (by omega),
      State.flashProgram_reads _ _ (by rwa [length_sliceBytes])]
  · rw [State.flashByte_finishCall, State.settingsWritten, State.flashByte_appendBcb _ (by omega),
      State.flashByte_program, length_sliceBytes, if_neg (by omega), State.flashByte_erase, if_neg (by omega)]

theorem State.activate_moves (b : Bcb) : Moves [.regs, .boot] s (s.appendBcb false b).showBcb :=
  .step State.showBcb_moves (by decide) (State.appendBcb_moves.mono (by decide))

theorem State.activate_completes (b : Bcb) :
    let t := (s.appendBcb false b).showBcb.finishCall r { code := 0 }
    t.boot.flash = (s.appendBcb false b).boot.flash ∧ (∀ a, 0x20000 ≤ a → t.flashByte a = s.flashByte a) ∧
      OnlyTouches [.regs, .boot, .hq, .jrn] s t := by
  have hShow : Moves [.regs] (s.appendBcb false b) (s.appendBcb false b).showBcb := State.showBcb_moves
  have hBoot : ((s.appendBcb false b).showBcb.finishCall r { code := 0 }).boot = (s.appendBcb false b).boot :=
    Eq.trans (State.finishCall_same (u := (s.appendBcb false b).showBcb) .boot (by decide)) (hShow.same .boot (by decide))
  refine ⟨congrArg BootState.flash hBoot, fun a ha => ?_,
    State.finishCall_only (State.activate_moves b) rfl (by decide) (by decide)⟩
  rw [State.flashByte, hBoot]
  exact State.flashByte_appendBcb b ha

/-- Bytes that a service writes to the host are all that changes. -/
theorem State.hostWrite_completes (a : Nat) (bs : List Byte) :
    let t := (s.hostWrite a bs).finishCall r { code := 0 }
    t.hostMem = (s.hostWrite a bs).hostMem ∧ OnlyTouches [.hostMem, .hq, .jrn] s t :=
  ⟨State.finishCall_same .hostMem (by decide), State.finishCall_only State.hostWrite_moves rfl (by decide) (by decide)⟩

theorem State.hq_hostWrite (a : Nat) (bs : List Byte) : (s.hostWrite a bs).hq = s.hq :=
  State.hostWrite_moves.same .hq (by decide)

end Sys2Proof.Machine
end

section
/-! PROOFS. The services answer their ring: the obligation, clause by clause (R391, R415). -/

namespace Sys2Proof.Machine

/-- A command of a service runs as one call of its function, in the states that the service allows. -/
def RunsCall (i : Instr) (r svc fn : Nat) (allowed : DevState → Bool) : Prop :=
  ∀ s, ∃ f, exec i s = .next (s.runCall r svc fn allowed f)

theorem RunsCall.of_none {i : Instr} {r svc fn : Nat} {allowed : DevState → Bool} (h : RunsCall i r svc fn allowed)
    {s : State} (hc : s.callFor r svc fn = none) : exec i s = .next s := by
  obtain ⟨f, hRun⟩ := h s
  exact hRun.trans (congrArg Host.Outcome.next (State.runCall_of_none hc))

theorem RunsCall.of_state {i : Instr} {r svc fn : Nat} {allowed : DevState → Bool} (h : RunsCall i r svc fn allowed)
    {s : State} {c : Call} (hc : s.callFor r svc fn = some c) (ha : allowed s.chip.mode = false)
    (hd : c.lsn = none ∨ s.chip.mode ≠ .recovery) : exec i s = .next (s.finishCall r { code := 9 }) := by
  obtain ⟨f, hRun⟩ := h s
  exact hRun.trans (congrArg Host.Outcome.next (State.runCall_of_state hc ha hd))

/-- The functions of AUDIT, PTP, PIER and POWER, which run in every state but OFF. -/
def statusServices (r : Ring) (found : Option (Fin 10)) : List (Nat × Nat × Instr) :=
  [(3, 1, Instr.auditRun r), (4, 1, .ptpInstance r), (4, 2, .ptpPort r), (4, 3, .ptpStatus r), (5, 1, .pierAlign r found),
    (5, 2, .pierSend r), (8, 1, .powerStatus r), (8, 2, .powerConcordReport r)]

/-- The functions of UPDATE, which run in START-UP, TEST and SERVICE. -/
def updateServices (r : Ring) (data : Option (List Byte)) (ok : Bool) : List (Nat × Nat × Instr) :=
  [(7, 1, Instr.updateStatus r), (7, 2, .updateErase r ok), (7, 3, .updateWrite r data ok), (7, 4, .updateRead r),
    (7, 5, .updateActivate r), (7, 6, .updateSettingsWrite r data ok), (7, 7, .updateSettingsRead r)]

theorem statusServices_run {r : Ring} {found : Option (Fin 10)} {x : Nat × Nat × Instr}
    (hx : x ∈ statusServices r found) : RunsCall x.2.2 r x.1 x.2.1 statesButOff := by
  simp only [statusServices, List.mem_cons, List.not_mem_nil, or_false] at hx
  rcases hx with rfl | rfl | rfl | rfl | rfl | rfl | rfl | rfl <;> exact fun s => ⟨_, rfl⟩

theorem updateServices_run {r : Ring} {data : Option (List Byte)} {ok : Bool} {x : Nat × Nat × Instr}
    (hx : x ∈ updateServices r data ok) : RunsCall x.2.2 r x.1 x.2.1 statesChange := by
  simp only [updateServices, List.mem_cons, List.not_mem_nil, or_false] at hx
  rcases hx with rfl | rfl | rfl | rfl | rfl | rfl | rfl <;> exact fun s => ⟨_, rfl⟩

theorem infoIdentify_runs (r : Ring) : RunsCall (.infoIdentify r) r 1 0 statesAll := fun _ => ⟨_, rfl⟩

theorem fuseOwnerKey_runs (r : Ring) : RunsCall (.fuseOwnerKey r) r 6 1 (fun m => m = .startUp) := fun _ => ⟨_, rfl⟩

/-- A ring whose oldest command asks for something else, or cannot run now, answers nothing. -/
theorem services_answer_nothing (r : Ring) (data : Option (List Byte)) (ok : Bool) (found : Option (Fin 10))
    (x : Nat × Nat × Instr) (s : State) (hx : x ∈ [(1, 0, Instr.infoIdentify r)] ++ statusServices r found
      ++ [(6, 1, Instr.fuseOwnerKey r)] ++ updateServices r data ok) (hc : s.callFor r x.1 x.2.1 = none) :
    exec x.2.2 s = .next s := by
  rcases List.mem_append.1 hx with hx | hx
  · rcases List.mem_append.1 hx with hx | hx
    · rcases List.mem_append.1 hx with hx | hx
      · obtain rfl := List.mem_singleton.1 hx; exact (infoIdentify_runs r).of_none hc
      · exact (statusServices_run hx).of_none hc
    · obtain rfl := List.mem_singleton.1 hx; exact (fuseOwnerKey_runs r).of_none hc
  · exact (updateServices_run hx).of_none hc

/-- A state that does not allow a command completes it with DEVICE_STATE. -/
theorem services_refuse_states (r : Ring) (data : Option (List Byte)) (ok : Bool) (found : Option (Fin 10))
    (x : Nat × Nat × Instr) (c : Call) (s : State) (hc : s.callFor r x.1 x.2.1 = some c)
    (hd : c.lsn = none ∨ s.chip.mode ≠ .recovery) (hx : (x ∈ statusServices r found ∧ s.chip.mode = .off) ∨
      (x ∈ updateServices r data ok ∧ statesChange s.chip.mode = false)) :
    exec x.2.2 s = .next (s.finishCall r { code := 9 }) := by
  rcases hx with ⟨hx, hm⟩ | ⟨hx, hm⟩
  · exact (statusServices_run hx).of_state hc (by rw [hm]; rfl) hd
  · exact (updateServices_run hx).of_state hc hm hd

/-! ### UPDATE commands that fail, and the paths that succeed -/

section Update
variable {s : State} {r : Ring} {c : Call} {data : Option (List Byte)} {ok : Bool}

theorem exec_updateErase (hc : s.callFor r 7 2 = some c) (hm : statesChange s.chip.mode = true) :
    exec (.updateErase r ok) s = .next (s.updErase r c ok) :=
  congrArg Host.Outcome.next (State.runCall_of_allowed hc hm)

theorem exec_updateWrite (hc : s.callFor r 7 3 = some c) (hm : statesChange s.chip.mode = true) :
    exec (.updateWrite r data ok) s = .next (s.updWrite r c data ok) :=
  congrArg Host.Outcome.next (State.runCall_of_allowed hc hm)

theorem exec_updateRead (hc : s.callFor r 7 4 = some c) (hm : statesChange s.chip.mode = true) :
    exec (.updateRead r) s = .next (s.updRead r c) :=
  congrArg Host.Outcome.next (State.runCall_of_allowed hc hm)

theorem exec_updateSettingsWrite (hc : s.callFor r 7 6 = some c) (hm : statesChange s.chip.mode = true) :
    exec (.updateSettingsWrite r data ok) s = .next (s.updSettings r c data ok) :=
  congrArg Host.Outcome.next (State.runCall_of_allowed hc hm)

theorem State.updErase_erases (hBank : c.activeBank = false) (hOffset : c.offset % 65536 = 0)
    (hLength : c.length % 65536 = 0) (hRange : c.offset + c.length ≤ bankSize) : s.updErase r c true =
      (s.flashErase (bankBase s.inactive + c.offset) c.length).finishCall r { code := 0 } := by
  unfold State.updErase
  rw [if_neg (by simp [hBank]), if_neg (by omega), if_neg (by decide)]

theorem State.updErase_fails (h : c.activeBank = true ∨ c.offset % 65536 ≠ 0 ∨ c.length % 65536 ≠ 0 ∨
    bankSize < c.offset + c.length ∨ ok = false) : s.updErase r c ok = s.finishCall r (serviceError
      (if c.activeBank then 1
        else if c.offset % 65536 ≠ 0 ∨ c.length % 65536 ≠ 0 ∨ bankSize < c.offset + c.length then 2 else 3)) := by
  unfold State.updErase
  by_cases hBank : c.activeBank = true
  · rw [if_pos hBank, if_pos hBank]; rfl
  · rw [if_neg hBank, if_neg hBank]
    by_cases hRange : c.offset % 65536 ≠ 0 ∨ c.length % 65536 ≠ 0 ∨ bankSize < c.offset + c.length
    · rw [if_pos hRange, if_pos hRange]; rfl
    · obtain rfl : ok = false := by tauto
      rw [if_neg hRange, if_neg hRange]; rfl

theorem State.updWrite_writes {bs : List Byte} (hBank : c.activeBank = false) (hLow : 0 < c.length)
    (hHigh : c.length ≤ 65536) (hRange : c.offset + c.length ≤ bankSize) (hAddress : c.address ≠ 0) :
    s.updWrite r c (some bs) true =
      (s.flashProgram (bankBase s.inactive + c.offset) (sliceBytes bs 0 c.length)).finishCall r { code := 0 } :=
  (if_neg (by simp [hBank])).trans ((if_neg (by omega)).trans (if_neg hAddress))

theorem State.updWrite_unread (hBank : c.activeBank = false) (hLow : 0 < c.length) (hHigh : c.length ≤ 65536)
    (hRange : c.offset + c.length ≤ bankSize) (hAddress : c.address ≠ 0) :
    s.updWrite r c none ok = s.dmaErr.finishCall r { code := 8 } :=
  (if_neg (by simp [hBank])).trans ((if_neg (by omega)).trans (if_neg hAddress))

theorem State.updWrite_fails (h : c.activeBank = true ∨ c.length = 0 ∨ 65536 < c.length ∨
    bankSize < c.offset + c.length ∨ c.address = 0 ∨ (data.isSome = true ∧ ok = false)) : s.updWrite r c data ok =
      s.finishCall r (if c.activeBank then serviceError 1
        else if c.length = 0 ∨ 65536 < c.length ∨ bankSize < c.offset + c.length then serviceError 2
        else if c.address = 0 then { code := 5 } else serviceError 3) := by
  unfold State.updWrite
  by_cases hBank : c.activeBank = true
  · rw [if_pos hBank, if_pos hBank]; rfl
  · rw [if_neg hBank, if_neg hBank]
    by_cases hRange : c.length = 0 ∨ 65536 < c.length ∨ bankSize < c.offset + c.length
    · rw [if_pos hRange, if_pos hRange]; rfl
    · rw [if_neg hRange, if_neg hRange]
      by_cases hAddress : c.address = 0
      · rw [if_pos hAddress, if_pos hAddress]
      · rw [if_neg hAddress, if_neg hAddress]
        obtain ⟨hData, rfl⟩ : data.isSome = true ∧ ok = false := by tauto
        obtain ⟨bs, rfl⟩ := Option.isSome_iff_exists.1 hData
        rfl

theorem State.updRead_reads (hRange : c.offset + c.length ≤ bankSize) (hAddress : c.address ≠ 0) :
    s.updRead r c = (s.hostWrite c.address (s.flashBytes (bankBase (if c.activeBank then 1 - s.inactive else s.inactive)
      + c.offset) c.length)).finishCall r { code := 0 } := by
  unfold State.updRead
  rw [if_neg (by omega), if_neg hAddress]

theorem State.updRead_fails (h : bankSize < c.offset + c.length ∨ c.address = 0) : s.updRead r c =
    s.finishCall r (if bankSize < c.offset + c.length then serviceError 2 else { code := 5 }) := by
  unfold State.updRead
  by_cases hRange : bankSize < c.offset + c.length
  · rw [if_pos hRange, if_pos hRange]; rfl
  · rw [if_neg hRange, if_neg hRange, if_pos (h.resolve_left hRange)]

theorem State.updSettings_unread (hLength : c.length ≤ slotSize) (hAddress : c.address ≠ 0) :
    s.updSettings r c none ok = s.dmaErr.finishCall r { code := 8 } := by
  unfold State.updSettings
  rw [if_neg (by omega), if_neg hAddress]

theorem State.updSettings_writes {bs : List Byte} (hLength : c.length ≤ slotSize) (hAddress : c.address ≠ 0)
    (hSound : settingsSound bs = true) (hSchema : settingsSchemaOf bs = s.runningSchema) :
    s.updSettings r c (some bs) true =
      (s.settingsWritten (1 - s.bcb.slot % 2) bs).finishCall r { code := 0 } := by
  unfold State.updSettings
  rw [if_neg (by omega), if_neg hAddress]
  exact (if_neg (by simp [hSound, hSchema])).trans (if_neg (by decide))

theorem State.updSettings_fails (h : slotSize < c.length ∨ c.address = 0 ∨ (data.isSome = true ∧
    (settingsSound (data.getD []) = false ∨ settingsSchemaOf (data.getD []) ≠ s.runningSchema ∨ ok = false))) :
    s.updSettings r c data ok = s.finishCall r (if slotSize < c.length then serviceError 2
      else if c.address = 0 then { code := 5 }
      else if settingsSound (data.getD []) = false ∨ settingsSchemaOf (data.getD []) ≠ s.runningSchema then serviceError 4
      else serviceError 3) := by
  unfold State.updSettings
  by_cases hLength : slotSize < c.length
  · rw [if_pos hLength, if_pos hLength]; rfl
  · rw [if_neg hLength, if_neg hLength]
    by_cases hAddress : c.address = 0
    · rw [if_pos hAddress, if_pos hAddress]
    · rw [if_neg hAddress, if_neg hAddress]
      obtain ⟨hData, hBad⟩ := (h.resolve_left hLength).resolve_left hAddress
      obtain ⟨bs, rfl⟩ := Option.isSome_iff_exists.1 hData
      rw [Option.getD_some] at hBad ⊢
      by_cases hRecord : settingsSound bs = false ∨ settingsSchemaOf bs ≠ s.runningSchema
      · rw [if_pos hRecord]
        exact if_pos (by simpa using hRecord)
      · obtain rfl : ok = false := by tauto
        rw [if_neg hRecord]
        exact (if_neg (by simpa using hRecord)).trans (if_pos rfl)

theorem exec_updateSettingsRead_reads (hc : s.callFor r 7 7 = some c) (hm : statesChange s.chip.mode = true)
    (hAddress : c.address ≠ 0) (hSound : settingsSound (s.settingsAt s.bcb.slot) = true) :
    exec (.updateSettingsRead r) s =
      .next ((s.hostWrite c.address (s.settingsAt s.bcb.slot)).finishCall r { code := 0 }) :=
  congrArg Host.Outcome.next ((State.runCall_of_allowed hc hm).trans
    ((if_neg hAddress).trans (if_neg (by simp [hSound]))))

theorem exec_updateSettingsRead_fails (hc : s.callFor r 7 7 = some c) (hm : statesChange s.chip.mode = true)
    (h : c.address = 0 ∨ settingsSound (s.settingsAt s.bcb.slot) = false) : exec (.updateSettingsRead r) s =
      .next (s.finishCall r (if c.address = 0 then { code := 5 } else serviceError 4)) := by
  refine congrArg Host.Outcome.next ((State.runCall_of_allowed hc hm).trans ?_)
  by_cases hAddress : c.address = 0
  · rw [if_pos hAddress, if_pos hAddress]
  · rw [if_neg hAddress, if_neg hAddress]
    exact if_pos (by simpa using h.resolve_left hAddress)

end Update

/-- Settles O58, function by function: each takes the oldest command of its ring and completes it
(`answered_of_exec`). -/
theorem servicesAnswerTheirRing : Obligations.ServicesAnswerTheirRing := by
  unfold Obligations.ServicesAnswerTheirRing
  refine ⟨?info, ?audit, ?ptpInstance, ?ptpPort, ?ptpStatus, ?pierAlign, ?pierLost, ?pierNoSend, ?pierSend, ?fuse,
    ?fuseBlown, ?fuseState, ?updateStatus, ?erase, ?write, ?writeUnread, ?read, ?activate, ?settingsWrite, ?settingsRead,
    ?powerStatus, ?concord, ?eraseFails, ?writeFails, ?readFails, ?settingsFails, ?settingsUnread, ?settingsReadFails,
    ?concordFails, services_answer_nothing, services_refuse_states⟩
  case info =>
    intro r c s hc
    exact answered_of_exec hc (congrArg Host.Outcome.next (State.runCall_of_allowed hc rfl)) rfl
      ⟨result_of_callFor hc rfl, (State.finishCall_ok_moves rfl).only⟩
  case audit =>
    intro r c s hc hm
    have hMoves : Moves reactParts s s.audit.1 := State.audit_moves
    have hHq : s.audit.1.hq = s.hq := hMoves.same .hq (by decide)
    exact answered_of_exec hc (exec_auditRun_eq hc hm) hHq
      ⟨(State.finishCall_same .tables (by decide)).trans (hMoves.same .tables (by decide)),
        (State.finishCall_same .hostMem (by decide)).trans (hMoves.same .hostMem (by decide)), result_of_callFor hc hHq⟩
  case ptpInstance =>
    intro r c s hc hm
    refine answered_of_exec hc (congrArg Host.Outcome.next (State.runCall_of_allowed hc hm)) rfl ⟨?_, fun k hk => ?_,
      State.finishCall_only State.setPtp_moves rfl (by decide) (by decide)⟩
    · rw [State.ptpOf_finishCall, State.ptpOf_setPtp, if_pos rfl]
    · rw [State.ptpOf_finishCall, State.ptpOf_setPtp, if_neg hk]
  case ptpPort =>
    intro r c s hc hm
    by_cases hMay : (s.ptpOf (c.ptpArg 0)).mayAssign (c.ptpArg 2) (c.ptpArg 3) = true
    · refine answered_of_exec hc (exec_ptpPort_assigns hc hm hMay) rfl ⟨fun _ => ?_, fun k hk => ?_, fun _ =>
        State.finishCall_only State.setPtp_moves rfl (by decide) (by decide), fun hNot => by simp [hMay] at hNot⟩
      · rw [State.ptpOf_finishCall, State.ptpOf_setPtp, if_pos rfl]; rfl
      · rw [State.ptpOf_finishCall, State.ptpOf_setPtp, if_neg hk]
    · obtain ⟨rest, hCalls⟩ := State.callFor_calls hc
      exact answered_of_exec hc (exec_ptpPort_fails hc hm (by simpa using hMay)) rfl ⟨fun h => absurd h hMay,
        fun k _ => State.ptpOf_finishCall k,
        fun hLsn => ((State.finishCall_plain_moves hCalls hLsn).mono (by decide)).only, fun _ => rfl⟩
  case ptpStatus =>
    intro r c s hc hm
    exact answered_of_exec (u := { s with freeCount := s.freeCount + 1 }) hc
      (congrArg Host.Outcome.next (State.runCall_of_allowed hc hm)) rfl
      ⟨(State.finishCall_ok_moves rfl).same .freeCount (by decide),
        State.finishCall_only (ps := [.freeCount]) (.freeCount (by decide) .refl) rfl (by decide) (by decide)⟩
  case pierAlign =>
    intro r c i s hc hm hOn
    exact answered_of_exec hc (congrArg Host.Outcome.next (State.runCall_of_allowed hc hm))
      ((State.pierAligned_moves i.val).same .hq (by decide)) (State.pierAlign_found i hOn)
  case pierLost =>
    intro r c s hc hm hOn
    exact ⟨_, congrArg Host.Outcome.next (State.runCall_of_allowed hc hm), rfl, State.pierAlign_lost hOn⟩
  case pierNoSend =>
    intro r c s hc hm hSends
    exact ⟨_, congrArg Host.Outcome.next ((State.runCall_of_allowed hc hm).trans (if_neg (by simp [hSends]))), rfl⟩
  case pierSend =>
    intro r c s hc hm hSends
    exact answered_of_exec hc (congrArg Host.Outcome.next ((State.runCall_of_allowed hc hm).trans (if_pos hSends)))
      (State.pierSend_moves.same .hq (by decide))
      (State.pierSend_completes c.link (sliceBytes c.body 8 48))
  case fuse =>
    intro r c s hc hm hKey
    refine answered_of_exec hc (exec_fuseOwnerKey_blows hc hm hKey) rfl ⟨?_, State.finishCall_only (ps := [.progs])
      (.progs (by decide) .refl) rfl (by decide) (by decide)⟩
    rw [State.progs_finishCall rfl, ← hashWords_body]
  case fuseBlown =>
    intro r c s hc hm hKey
    exact ⟨_, congrArg Host.Outcome.next ((State.runCall_of_allowed hc (decide_eq_true hm)).trans (if_pos hKey)), rfl⟩
  case fuseState =>
    intro r c s hc hm hLsn
    exact ⟨_, (fuseOwnerKey_runs r).of_state hc (decide_eq_false hm) (.inl hLsn), rfl⟩
  case updateStatus =>
    intro r c s hc hm
    exact answered_of_exec hc (congrArg Host.Outcome.next (State.runCall_of_allowed hc hm)) rfl
      ⟨result_of_callFor hc rfl, (State.finishCall_ok_moves rfl).only⟩
  case erase =>
    intro r c s hc hm hBank hOffset hLength hRange
    exact answered_of_exec hc ((exec_updateErase hc hm).trans (congrArg Host.Outcome.next
      (State.updErase_erases hBank hOffset hLength hRange))) rfl (State.flashErase_completes _ _)
  case write =>
    intro r c bs s hc hm hBank hLow hHigh hRange hAddress
    exact answered_of_exec hc ((exec_updateWrite hc hm).trans (congrArg Host.Outcome.next
      (State.updWrite_writes hBank hLow hHigh hRange hAddress))) rfl (State.flashProgram_completes _ _ _)
  case writeUnread =>
    intro r c s hc hm hBank hLow hHigh hRange hAddress hLsn
    obtain ⟨rest, hCalls⟩ := State.callFor_calls_of_hq hc (State.dmaErr_moves.same .hq (by decide))
    have hEnd := State.finishCall_plain_moves (d := { code := 8 }) hCalls hLsn
    refine ⟨_, (exec_updateWrite hc hm).trans (congrArg Host.Outcome.next
      (State.updWrite_unread hBank hLow hHigh hRange hAddress)), ?_, ?_, ?_⟩
    · exact (State.bit_moves hEnd (by decide) _ _).trans (State.bit_setBit_same _ _ _ _ (by decide))
    · exact Eq.trans (hEnd.same .boot (by decide)) (State.dmaErr_moves.same .boot (by decide))
    · exact (State.finishCall_answers hCalls).calls.trans
        (congrArg (fun x => x.calls.drop 1) (State.sq_of_hq (State.dmaErr_moves.same .hq (by decide)) r))
  case read =>
    intro r c s hc hm hRange hAddress
    exact answered_of_exec hc ((exec_updateRead hc hm).trans (congrArg Host.Outcome.next
      (State.updRead_reads hRange hAddress))) (State.hq_hostWrite _ _) (State.hostWrite_completes _ _)
  case activate =>
    intro r c s hc hm
    exact answered_of_exec hc (congrArg Host.Outcome.next (State.runCall_of_allowed hc hm))
      ((State.activate_moves _).same .hq (by decide)) (State.activate_completes _)
  case settingsWrite =>
    intro r c bs s hc hm hLength hAddress hSound hSchema
    exact answered_of_exec hc ((exec_updateSettingsWrite hc hm).trans (congrArg Host.Outcome.next
        (State.updSettings_writes hLength hAddress hSound hSchema)))
      ((State.settingsWritten_moves _ bs).same .hq (by decide)) (State.settingsWritten_completes hSound _)
  case settingsRead =>
    intro r c s hc hm hAddress hSound
    exact answered_of_exec hc (exec_updateSettingsRead_reads hc hm hAddress hSound) (State.hq_hostWrite _ _)
      (State.hostWrite_completes _ _)
  case powerStatus =>
    intro r c s hc hm
    exact answered_of_exec hc (congrArg Host.Outcome.next (State.runCall_of_allowed hc hm)) rfl
      ⟨result_of_callFor hc rfl, (State.finishCall_ok_moves rfl).only⟩
  case concord =>
    intro r c s hc hm hAddress
    exact answered_of_exec hc (congrArg Host.Outcome.next
      ((State.runCall_of_allowed hc hm).trans (if_neg hAddress))) (State.hq_hostWrite _ _) (State.hostWrite_completes _ _)
  case eraseFails =>
    intro r c ok s hc hm h
    exact ⟨_, (exec_updateErase hc hm).trans (congrArg Host.Outcome.next (State.updErase_fails h)), rfl⟩
  case writeFails =>
    intro r c data ok s hc hm h
    exact ⟨_, (exec_updateWrite hc hm).trans (congrArg Host.Outcome.next (State.updWrite_fails h)), rfl⟩
  case readFails =>
    intro r c s hc hm h
    exact ⟨_, (exec_updateRead hc hm).trans (congrArg Host.Outcome.next (State.updRead_fails h)), rfl⟩
  case settingsFails =>
    intro r c data ok s hc hm h
    exact ⟨_, (exec_updateSettingsWrite hc hm).trans (congrArg Host.Outcome.next (State.updSettings_fails h)), rfl⟩
  case settingsUnread =>
    intro r c ok s hc hm hLength hAddress
    exact ⟨_, (exec_updateSettingsWrite hc hm).trans (congrArg Host.Outcome.next
      (State.updSettings_unread hLength hAddress)), rfl⟩
  case settingsReadFails =>
    intro r c s hc hm h
    exact ⟨_, exec_updateSettingsRead_fails hc hm h, rfl⟩
  case concordFails =>
    intro r c s hc hm hAddress
    exact ⟨_, congrArg Host.Outcome.next ((State.runCall_of_allowed hc hm).trans (if_pos hAddress)), rfl⟩

end Sys2Proof.Machine
end

section
/-! PROOFS. PARSE_DONE: the parse stays with its frame, and the SPAN counters take its flags (R138, R297). -/

namespace Sys2Proof.Machine

variable {s : State}

/-! ### The SPAN counters (R297) -/

theorem cSpan_injective (n : Nat) : Function.Injective (cSpan n) := fun a b h => by
  unfold cSpan at h
  omega

/-- Counters that count once each, where their flag is set. -/
theorem State.foldl_count_counter {f : Nat → Nat} (hf : f.Injective) (b : Nat → Bool) {l : List Nat} (hl : l.Nodup) (i : Nat) :
    (l.foldl (fun s k => if b k then s.count (f k) 1 else s) s).counter (f i)
      = if i ∈ l ∧ b i = true then (s.counter (f i) + 1) % 2 ^ 64 else s.counter (f i) := by
  induction l generalizing s with
  | nil => simp
  | cons a l ih =>
    obtain ⟨ha, hl⟩ := List.nodup_cons.mp hl
    rw [List.foldl_cons, ih hl]
    by_cases hi : i = a
    · subst hi
      cases hb : b i <;> simp [ha, State.counter_count]
    · have hHead : (if b a then s.count (f a) 1 else s).counter (f i) = s.counter (f i) := by
        split
        · rw [State.counter_count, if_neg (hf.ne hi)]
        · rfl
      simp [hHead, hi]

/-- The SPAN counters take the flags of a parse. -/
def State.countFlags (s : State) (span : Nat) (flags : Word) : State :=
  let s := (List.range 9).foldl (fun s i => if flags.getLsbD (16 + i) then s.count (cSpan span i) 1 else s) s
  if flags.getLsbD 31 then s.count (cSpan span 9) 1 else s

theorem State.countFlags_moves (span : Nat) (flags : Word) : Moves [.counters] s (s.countFlags span flags) := by
  have hFold : Moves [.counters] s
      ((List.range 9).foldl (fun s i => if flags.getLsbD (16 + i) then s.count (cSpan span i) 1 else s) s) :=
    .fold (fun _ _ => .ite State.count_moves .refl) .refl
  exact .ite (hFold.trans State.count_moves) hFold

/-- The counters of the first nine flags. -/
theorem State.countFlags_counter (span : Nat) (flags : Word) {i : Nat} (hi : i < 9) :
    (s.countFlags span flags).counter (cSpan span i) = if flags.getLsbD (16 + i) then
      (s.counter (cSpan span i) + 1) % 2 ^ 64 else s.counter (cSpan span i) := by
  have hFold := State.foldl_count_counter (s := s) (cSpan_injective span) (fun k => flags.getLsbD (16 + k))
    (List.nodup_range (n := 9)) i
  have hNe : cSpan span i ≠ cSpan span 9 := (cSpan_injective span).ne (by omega)
  unfold State.countFlags
  split <;> simp [hFold, hi, hNe, State.counter_count]

/-- The counter of the flag that stands apart, in bit 31. -/
theorem State.countFlags_counter_last (span : Nat) (flags : Word) :
    (s.countFlags span flags).counter (cSpan span 9) = if flags.getLsbD 31 then
      (s.counter (cSpan span 9) + 1) % 2 ^ 64 else s.counter (cSpan span 9) := by
  have hFold := State.foldl_count_counter (s := s) (cSpan_injective span) (fun k => flags.getLsbD (16 + k))
    (List.nodup_range (n := 9)) 9
  unfold State.countFlags
  split <;> simp [hFold, State.counter_count]

/-! ### The parse is recorded (R138) -/

/-- The frame's record holds the parse, and the SPAN counters its flags. -/
def State.recordParse (s : State) (d : Nat) : State :=
  (s.setInfo d { s.info d with parsed := some (s.parseOf d) }).countFlags ((s.info d).port / 64) (s.parseOf d).pflags

theorem State.recordParse_moves (d : Nat) : Moves [.counters, .rx] s (s.recordParse d) :=
  .step (State.countFlags_moves _ _) (by decide) (State.setInfo_moves.mono (by decide))

theorem State.recordParse_info (d e : Nat) :
    (s.recordParse d).info e = if e = d then { s.info d with parsed := some (s.parseOf d) } else s.info e :=
  (State.info_moves (State.countFlags_moves _ _) (by decide) e).trans (State.info_setInfo _ _ _)

/-- The PTP service sees the frame of a port; a host's packet it does not (R308, R418). -/
def State.parseDone (s : State) (d : Nat) : State :=
  if (s.info d).ring.isNone then
    (s.recordParse d).ptpSeen (s.info d).port false (s.parseOf d).pflags (s.parseOf d).hv (s.info d).stamp
  else s.recordParse d

/-- The PTP service touches no frame's record. -/
theorem State.parseDone_after_recordParse (d : Nat) :
    Moves [.regs, .emitted, .freeCount, .time, .ks] (s.recordParse d) (s.parseDone d) :=
  .ite State.ptpSeen_moves .refl

/-- A frame without a PTP message is nothing to the PTP service. -/
theorem State.ptpSeen_other {p : Nat} {sent : Bool} {flags : Word} {hv : Tbl Word} {x : Stamp}
    (h : flags.getLsbD 11 = false ∧ flags.getLsbD 12 = false) : s.ptpSeen p sent flags hv x = s := by
  unfold State.ptpSeen
  dsimp only
  rw [h.1, h.2]
  rfl

theorem State.parseDone_other {d : Nat} (h : (s.info d).ring.isSome = true ∨
    ((s.parseOf d).pflags.getLsbD 11 = false ∧ (s.parseOf d).pflags.getLsbD 12 = false)) : s.parseDone d = s.recordParse d := by
  unfold State.parseDone
  rcases h with h | h
  · rw [if_neg (by simpa [Option.isSome_iff_ne_none] using h)]
  · rw [State.ptpSeen_other h, ite_self]

/-! ### The command -/

section
variable {d : DescId}

theorem exec_parseDone (ha : (s.desc d).alloc = true) (hc : (s.desc d).cells ≠ 0) (hp : (s.info d).parsed = none)
    (hs : (s.info d).stopped = false) : exec (.parseDone d) s = .next (s.parseDone d) :=
  if_neg (by simp [ha, hc, hp, hs])

theorem exec_parseDone_none (h : (s.desc d).alloc = false ∨ (s.desc d).cells = 0 ∨ (s.info d).parsed.isSome = true ∨
    (s.info d).stopped = true) : exec (.parseDone d) s = .next s :=
  if_pos (by rcases h with h | h | h | h <;> simp [h])

end

end Sys2Proof.Machine
end

section
/-! PROOFS. CLASSIFY_DONE: what a frame, its descriptor and the order keeper hold once it has its class (R141, R186, R244). -/

namespace Sys2Proof.Machine

variable {s : State}

theorem State.order_setOrder (q r : Nat) (x : PairOrder) : (s.setOrder q x).order r = if r = q then x else s.order r :=
  Tbl.get_put _ _ _ _ _

theorem State.order_moves {t : State} {ps : List StatePart} (h : Moves ps s t) (hp : .ord ∉ ps) (q : Nat) :
    t.order q = s.order q :=
  congrArg (fun x : OrdState => Tbl.get pairDefault x.pairs q) (h.same .ord hp)

/-! ### The sequence (R31, R181, R244) -/

theorem State.foldGuards_desc (d e : Nat) (x : Word) : (s.foldGuards d x).desc e = s.desc e :=
  List.foldlRecOn (motive := fun t : State => t.desc e = s.desc e) _ _ rfl (fun _ ht _ _ => ht)

section
variable (d : Nat)

theorem State.assignSeq_desc : (s.assignSeq d).desc d = { s.desc d with seq := (s.order (s.info d).pair).assign } :=
  (State.foldGuards_desc _ _ _).trans ((State.desc_setDesc (s := s.setOrder _ _) _ _ _).trans (if_pos rfl))

theorem State.assignSeq_order (q : Nat) : (s.assignSeq d).order q = if q = (s.info d).pair then
    { s.order (s.info d).pair with assign := (s.order (s.info d).pair).assign + 1 } else s.order q :=
  (State.order_moves State.foldGuards_moves (by decide) q).trans (State.order_setOrder _ _ _)

end

/-! ### The frame takes its class (R141, R144, R184) -/

section
variable (d : Nat) (p : Parsed)

/-- The descriptor and the record of a frame take what the classifier gives them. -/
def State.takeVerdict (s : State) (d : Nat) (p : Parsed) : State :=
  let x := s.info d
  let v := s.verdict d p
  (s.setDesc d { s.desc d with
    portinfo := BitVec.ofNat 32 (x.port % 1024 + v.tc * 2 ^ 10 + v.colour * 2 ^ 14 + v.queue * 2 ^ 16
      + getBits x.cfg 15 10 * 2 ^ 20),
    lossless := s.lossless v.tc }).setInfo d { x with classified := true, tc := v.tc, region := .pair }

/-- The counters of the class take the frame (R297). -/
def State.countClassified (s : State) (d : Nat) (x : FrameInfo) (v : Verdict) : State :=
  let s := if v.hit then s else s.count (cSpan (x.port / 64) 10) 1
  let s := s.count (cPcl (x.port * 16 + v.tc) 0) 1
  if x.ended then s.count (cPcl (x.port * 16 + v.tc) 1) (s.desc d).len else s

/-- A receiver that still takes the frame knows its pair. -/
def State.pairReceiver (s : State) (d port q : Nat) : State :=
  match s.rxFrame port with
  | some f => if f.desc = some d then s.setRx port (some { f with pair := some q }) else s
  | none => s

/-- The frame's cells leave the HEAD region of its port. -/
def State.leaveHead (s : State) (d port : Nat) : State := s.setHeadUse port (s.headUse port - (s.desc d).cells)

theorem State.classifyFrame_eq : s.classifyFrame d p =
    ((((s.takeVerdict d p).assignSeq d).countClassified d (s.info d) (s.verdict d p)).pairReceiver d (s.info d).port
      ((s.info d).port * 16 + (s.verdict d p).tc)).leaveHead d (s.info d).port := rfl

theorem State.countClassified_moves (x : FrameInfo) (v : Verdict) : Moves [.counters] s (s.countClassified d x v) := by
  have hMiss : Moves [.counters] s (if v.hit then s else s.count (cSpan (x.port / 64) 10) 1) := .ite .refl State.count_moves
  exact .ite ((hMiss.trans State.count_moves).trans State.count_moves) (hMiss.trans State.count_moves)

theorem State.pairReceiver_moves (port q : Nat) : Moves [.rx] s (s.pairReceiver d port q) := by
  unfold State.pairReceiver
  split
  · exact .ite State.setRx_moves .refl
  · exact .refl

theorem State.pairReceiver_info (port q e : Nat) : (s.pairReceiver d port q).info e = s.info e := by
  unfold State.pairReceiver
  split
  · split <;> rfl
  · rfl

/-- No record of a frame changes with the counts of its class. -/
theorem State.leaveHead_info (x : FrameInfo) (v : Verdict) (port q e : Nat) :
    (((s.countClassified d x v).pairReceiver d port q).leaveHead d port).info e = s.info e :=
  (State.pairReceiver_info d port q e).trans (State.info_moves (State.countClassified_moves d x v) (by decide) e)

/-- No descriptor changes with the counts of a frame's class. -/
theorem State.leaveHead_desc (x : FrameInfo) (v : Verdict) (port q e : Nat) :
    (((s.countClassified d x v).pairReceiver d port q).leaveHead d port).desc e = s.desc e :=
  (State.desc_moves (State.pairReceiver_moves d port q) (by decide) e).trans
    (State.desc_moves (State.countClassified_moves d x v) (by decide) e)

/-- No counter of the order keeper changes with the counts of a frame's class. -/
theorem State.leaveHead_order (x : FrameInfo) (v : Verdict) (port q r : Nat) :
    (((s.countClassified d x v).pairReceiver d port q).leaveHead d port).order r = s.order r :=
  (State.order_moves (State.pairReceiver_moves d port q) (by decide) r).trans
    (State.order_moves (State.countClassified_moves d x v) (by decide) r)

theorem State.takeVerdict_info (e : Nat) : (s.takeVerdict d p).info e = if e = d then
    { s.info d with classified := true, tc := (s.verdict d p).tc, region := .pair } else s.info e :=
  State.info_setInfo _ _ _

/-- A port's frame belongs to the pair of its port and its class (R244). -/
theorem State.takeVerdict_pair (hr : (s.info d).ring = none) :
    ((s.takeVerdict d p).info d).pair = (s.info d).port * 16 + (s.verdict d p).tc := by
  rw [State.takeVerdict_info, if_pos rfl, FrameInfo.pair]
  simp [hr]

theorem State.classifyFrame_info (e : Nat) : (s.classifyFrame d p).info e = if e = d then
    { s.info d with classified := true, tc := (s.verdict d p).tc, region := .pair } else s.info e := by
  rw [State.classifyFrame_eq, State.leaveHead_info]
  exact (State.info_moves State.assignSeq_moves (by decide) e).trans (State.takeVerdict_info d p e)

theorem State.classifyFrame_desc (hr : (s.info d).ring = none) :
    (s.classifyFrame d p).desc d = { s.desc d with
      portinfo := BitVec.ofNat 32 ((s.info d).port % 1024 + (s.verdict d p).tc * 2 ^ 10 + (s.verdict d p).colour * 2 ^ 14
        + (s.verdict d p).queue * 2 ^ 16 + getBits (s.info d).cfg 15 10 * 2 ^ 20),
      lossless := s.lossless (s.verdict d p).tc,
      seq := (s.order ((s.info d).port * 16 + (s.verdict d p).tc)).assign } := by
  have hDesc : (s.takeVerdict d p).desc d = _ := (State.desc_setDesc (s := s) _ _ _).trans (if_pos rfl)
  rw [State.classifyFrame_eq, State.leaveHead_desc, State.assignSeq_desc, hDesc, State.takeVerdict_pair d p hr]
  rfl

theorem State.classifyFrame_order (hr : (s.info d).ring = none) (q : Nat) :
    (s.classifyFrame d p).order q = if q = (s.info d).port * 16 + (s.verdict d p).tc then
      { s.order ((s.info d).port * 16 + (s.verdict d p).tc) with
        assign := (s.order ((s.info d).port * 16 + (s.verdict d p).tc)).assign + 1 } else s.order q := by
  rw [State.classifyFrame_eq, State.leaveHead_order, State.assignSeq_order, State.takeVerdict_pair d p hr]
  rfl

end

/-! ### The charge of its cells (R186) -/

section
variable (d : Nat)

/-- Of the frame's descriptor, admission writes the mark of the shared descriptor alone. -/
theorem State.admitCell_desc (p c : Nat) (first : Bool) :
    ∃ b, (s.admitCell p c d first).1.desc d = { s.desc d with shdesc := b } := by
  unfold State.admitCell
  dsimp -proj only
  split
  · exact ⟨_, rfl⟩
  · split
    · split
      · exact ⟨true, (State.desc_setDesc _ _ _).trans (if_pos rfl)⟩
      · exact ⟨_, rfl⟩
    · split
      · split
        · exact ⟨_, rfl⟩
        · exact ⟨_, State.desc_moves State.xoff_moves (by decide) d⟩
      · exact ⟨_, rfl⟩

theorem State.uncharge_desc (q n : Nat) : (s.uncharge q n).desc d = s.desc d := by
  unfold State.uncharge
  extract_lets u a b c sPair sClass bClass sGlobal u'
  have hPair : sPair.desc d = s.desc d := rfl
  have hClass : sClass.desc d = sPair.desc d := rfl
  have hGlobal : sGlobal.desc d = s.desc d := (hClass.trans hPair :)
  clear_value sGlobal
  split
  · rw [State.desc_moves State.xon_moves (by decide)]
    exact hGlobal
  · exact hGlobal

theorem State.chargeHead_desc : ∃ b, (s.chargeHead d).1.desc d = { s.desc d with shdesc := b } := by
  refine List.foldlRecOn (motive := fun a : State × Bool => ∃ b, a.1.desc d = { s.desc d with shdesc := b }) _ _ ⟨_, rfl⟩ ?_
  rintro ⟨t, ok⟩ ⟨b, ht⟩ i -
  dsimp -proj only
  split
  · exact ⟨b, ht⟩
  · split
    · exact ⟨b, (State.uncharge_desc d _ _).trans ht⟩
    · obtain ⟨b', hAdmit⟩ := State.admitCell_desc (s := t) d (s.info d).port (s.info d).tc (decide (i = 0))
      exact ⟨b', hAdmit.trans (by rw [ht])⟩

end

/-! ### Acceptance (R29) -/

theorem State.accept_desc (d : Nat) : ∃ b, (s.accept d).desc d = { s.desc d with accepted := b } := by
  unfold State.accept
  dsimp -proj only
  split
  · exact ⟨true, (State.desc_setDesc _ _ _).trans (if_pos rfl)⟩
  · exact ⟨_, rfl⟩

theorem State.accept_order (d q : Nat) : (s.accept d).order q = s.order q := by
  unfold State.accept
  dsimp -proj only
  split <;> rfl

/-! ### What admission and acceptance leave of the frame -/

section
variable (d : Nat)

theorem State.accept_chargeHead_info (e : Nat) : ((s.chargeHead d).1.accept d).info e = s.info e :=
  (State.info_moves State.accept_moves (by decide) e).trans (State.info_moves State.chargeHead_moves (by decide) e)

theorem State.accept_chargeHead_order (q : Nat) : ((s.chargeHead d).1.accept d).order q = s.order q :=
  (State.accept_order d q).trans (State.order_moves State.chargeHead_moves (by decide) q)

theorem State.accept_chargeHead_desc :
    ∃ a b, ((s.chargeHead d).1.accept d).desc d = { s.desc d with shdesc := a, accepted := b } := by
  obtain ⟨a, hShared⟩ := State.chargeHead_desc (s := s) d
  obtain ⟨b, hAccept⟩ := State.accept_desc (s := (s.chargeHead d).1) d
  exact ⟨a, b, by rw [hAccept, hShared]⟩

end

/-! ### A cell is refused (R188) -/

/-- The refusal of a lossless frame shows as a class-S fault of the MAC of its port. -/
theorem State.admissionRefuse_source {d : Nat} (h : (s.desc d).lossless = true) :
    ((s.admissionRefuse d).source (macSource (s.info d).port)).cause = true ∧
      ((s.admissionRefuse d).source (macSource (s.info d).port)).cls = .s := by
  obtain ⟨-, -, hCause, hCls, -⟩ := State.namedFault_s _ _ (pipeOfSource_mac (s.info d).port) (if_pos h : s.admissionRefuse d = _)
  exact ⟨hCause, hCls⟩

/-- The fault still shows once the receiver has discarded the rest of the arrival. -/
theorem State.classifyRefused_source {d : Nat} (h : (s.desc d).lossless = true) :
    ((s.classifyRefused d).source (macSource (s.info d).port)).cause = true ∧
      ((s.classifyRefused d).source (macSource (s.info d).port)).cls = .s := by
  have hRefuse := State.admissionRefuse_source (s := (s.setHeadUse (s.info d).port
    (s.headUse (s.info d).port + (s.desc d).cells)).setInfo d { s.info d with region := .head }) (d := d) h
  rw [State.info_setInfo, if_pos rfl] at hRefuse
  unfold State.classifyRefused
  dsimp -proj only
  split
  · split
    · rw [State.source_moves State.rxDiscard_moves (by decide)]
      exact hRefuse
    · exact hRefuse
  · exact hRefuse

/-! ### The command -/

section
variable {d : DescId}

theorem exec_classifyDone {p : Parsed} (hp : (s.info d).parsed = some p) (hc : (s.info d).classified = false)
    (hr : (s.info d).ring = none) (hs : (s.info d).stopped = false) (ha : (s.desc d).alloc = true)
    (hg : s.grantsPaused = false) (hm : s.chip.mode ≠ .safe) :
    exec (.classifyDone d) s = .next (if ((s.classifyFrame d p).chargeHead d).2 then
      ((s.classifyFrame d p).chargeHead d).1.accept d else ((s.classifyFrame d p).chargeHead d).1.classifyRefused d) := by
  simp only [exec, execClassifyDone, hp]
  rw [if_neg (by simp [hg, hm]), if_neg (by simp [hc, hr, hs, ha])]
  exact (apply_ite Host.Outcome.next _ _ _).symm

theorem exec_classifyDone_none (h : (s.info d).parsed = none ∨ s.grantsPaused = true ∨ s.chip.mode = .safe ∨
    (s.info d).classified = true ∨ (s.info d).ring.isSome = true ∨ (s.info d).stopped = true ∨ (s.desc d).alloc = false) :
    exec (.classifyDone d) s = .next s := by
  cases hp : (s.info d).parsed with
  | none => simp [exec, execClassifyDone, hp]
  | some p =>
    simp only [exec, execClassifyDone, hp]
    by_cases hWaits : s.grantsPaused = true ∨ s.chip.mode = .safe
    · exact if_pos (by simpa using hWaits)
    · obtain ⟨hGrants, hMode⟩ := not_or.mp hWaits
      exact (if_neg (by simp [hGrants, hMode])).trans (if_pos (by simpa [hp, hGrants, hMode, or_assoc] using h))

end

/-- Settles O17: the PTP service touches no frame's record, and admission and acceptance write nothing of a frame's
record, of its pair's counters or of what the classifier and the order keeper gave its descriptor. -/
theorem framesAreParsedAndClassified : Obligations.FramesAreParsedAndClassified := by
  unfold Obligations.FramesAreParsedAndClassified
  refine ⟨?parse, ?parseOther, ?parseNone, ?classify, ?refuse, ?classifyNone⟩
  case parse =>
    intro d s ha hc hp hs
    have hInfo (e : Nat) := (State.info_moves (State.parseDone_after_recordParse d.val) (by decide) e).trans
      (State.recordParse_info (s := s) d e)
    exact ⟨_, exec_parseDone ha hc hp hs, (hInfo d).trans (if_pos rfl), fun e he => (hInfo e).trans (if_neg he),
      (Moves.step (State.parseDone_after_recordParse d.val) (by decide) ((State.recordParse_moves d.val).mono (by decide))).only⟩
  case parseOther =>
    intro d s ha hc hp hs h
    refine ⟨_, (exec_parseDone ha hc hp hs).trans (congrArg _ (State.parseDone_other h)), fun i hi => ?_, ?_,
      (State.recordParse_moves d.val).only⟩
    · exact State.countFlags_counter (s := s.setInfo _ _) _ _ hi
    · exact State.countFlags_counter_last (s := s.setInfo _ _) _ _
  case parseNone => exact fun d s h => ⟨s, exec_parseDone_none h, rfl⟩
  case classify =>
    intro d p s hp hc hr hs ha hg hm hCharge
    obtain ⟨a, b, hDesc⟩ := State.accept_chargeHead_desc (s := s.classifyFrame d p) d
    rw [State.classifyFrame_desc d.val p hr] at hDesc
    have hInfo (e : Nat) := (State.accept_chargeHead_info (s := s.classifyFrame d p) d e).trans (State.classifyFrame_info d p e)
    have hOrder (q : Nat) := (State.accept_chargeHead_order (s := s.classifyFrame d p) d q).trans
      (State.classifyFrame_order d p hr q)
    refine ⟨_, (exec_classifyDone hp hc hr hs ha hg hm).trans (congrArg _ (if_pos hCharge)), ?_, ?_, ?_, ?_, ?_,
      (hOrder _).trans (if_pos rfl), fun q hq => (hOrder q).trans (if_neg hq), fun e he => (hInfo e).trans (if_neg he)⟩
    · rw [hInfo, if_pos rfl]
    · rw [hInfo, if_pos rfl]
    · rw [hDesc]
    · rw [hDesc]
    · rw [hDesc]
  case refuse =>
    intro d p s hp hc hr hs ha hg hm hCharge hLossless
    obtain ⟨b, hShared⟩ := State.chargeHead_desc (s := s.classifyFrame d p) d
    rw [State.classifyFrame_desc d.val p hr] at hShared
    have hRefused := State.classifyRefused_source ((congrArg Desc.lossless hShared).trans hLossless)
    rw [State.info_moves State.chargeHead_moves (by decide), State.classifyFrame_info, if_pos rfl] at hRefused
    exact ⟨_, (exec_classifyDone hp hc hr hs ha hg hm).trans (congrArg _ (if_neg (by simp [hCharge]))), hRefused⟩
  case classifyNone => exact fun d s h => ⟨s, exec_classifyDone_none h, rfl⟩

end Sys2Proof.Machine
end

section
/-! PROOFS. Two statements of the shared buffer and of the scheduler that fail: a final RELEASE of a frame that a free list
still ends in, and a GRANT that fills a frame of records. -/

namespace Sys2Proof.Machine

/-! ### A free list that ends in a cell of the frame (R169, R175) -/

/-- The device with a frame of three cells, 0, 8191 and 1 of bank group 0, in descriptor 0, whose last holder is 3. The
free list of the group is as after reset, and still ends at cell 8191, the second cell of the frame. -/
def State.tailInFrame : State :=
  { State.reset with
    rx := { info := [(0, { ended := true })] }
    buf := { desc := [(0, { alloc := true, cells := 3, first := 0, last := 1 })]
             link := [(0, { alloc := true, refcnt := 1, owner := 3, next := 8191 }),
                      (1, { alloc := true, refcnt := 1, owner := 3, last := true }),
                      (8191, { alloc := true, refcnt := 1, owner := 3, next := 1 })] } }

/-- Refutes O22: the statement does not ask that the free lists hold none of the frame's cells. The final RELEASE pushes
cell 0 behind cell 8191, where the list ends, so that the frame's second cell leads back to its first; the walk meets that
cell FREE, the frame is quarantined, and its third cell stays allocated. -/
theorem not_holdersMove : ¬ Obligations.HoldersMove := by
  unfold Obligations.HoldersMove
  rintro ⟨-, -, -, hLast, -⟩
  have hKept : ∀ t, exec (.holderRelease 0 3 .good) State.tailInFrame = .next t → (t.link 1).alloc = true := by
    intro t e
    obtain rfl := Host.Outcome.next.inj e
    decide
  obtain ⟨t, e, hFreed, -⟩ := hLast 0 3 .good State.tailInFrame (by decide) rfl rfl rfl rfl (by decide) (by decide)
    (by decide) rfl rfl rfl
  exact absurd (hFreed 1 (by decide)) (by rw [hKept t e]; decide)

/-! ### The GRANT that fills a frame of records (R192, R193) -/

/-- The device in SERVICE and in compatibility mode, with port 0 up: device 1, whose fabric port is port 0, has 5 GRANTs
pending for VOQ 0, and seven records wait to be sent to it. -/
def State.grantFillsFrame : State :=
  { ((((({ State.reset with chip := { State.reset.chip with mode := .service, hold := [] } } : State).setBit 0x2000000 31
      true).setBit 0x2000004 24 true).setReg 0x880000 0x80000000).setReg 0x88100C 0x80000000) with
    cmp := { pending := [(65536, 5)], gathered := [(1, List.replicate 7 0)] } }

/-- The scheduler picks queue 0 of port 0, which is empty, for the GRANT of VOQ 0 to device 1. -/
theorem State.grantFillsFrame_picks : ∃ u, State.grantFillsFrame.pickQueue 0 = some (u, 0) ∧ u.headEntry 0 = none ∧
    u.pendingGrant 0 = some (1, 0) := by
  refine ⟨((State.grantFillsFrame.pickQueue 0).get (by decide +kernel)).1, ?_, by decide +kernel, by decide +kernel⟩
  have hQueue : ((State.grantFillsFrame.pickQueue 0).get (by decide +kernel)).2 = 0 := by decide +kernel
  exact (Option.some_get _).symm.trans (congrArg some (Prod.ext rfl hQueue))

/-- Refutes O25: the statement wants every queue as it was when a queue picked for a pending GRANT issues one. The GRANT is
a record of the device that asked; when it is the eighth gathered for it, the eight leave in a frame (R192), which takes
its place in TC15 of that device's port. -/
theorem not_copiesAreSelectedAndSent : ¬ Obligations.CopiesAreSelectedAndSent := by
  unfold Obligations.CopiesAreSelectedAndSent
  rintro ⟨-, -, hGrant, -⟩
  have hSent : ∀ t, exec (.schedulerSelect 0) State.grantFillsFrame = .next t → (t.queue 15).length = 1 := by
    intro t e
    obtain rfl : State.grantFillsFrame.after (.schedulerSelect 0) = t := by rw [State.after, e]
    decide +kernel
  obtain ⟨u, hPick, hEmpty, hPending⟩ := State.grantFillsFrame_picks
  obtain ⟨t, e, -, -, hQueues, -⟩ := hGrant 0 State.grantFillsFrame u 0 1 0 (by decide +kernel) (by decide +kernel) hPick
    hEmpty hPending
  have hBefore : (State.grantFillsFrame.queue 15).length = 0 := by decide
  exact absurd ((congrArg List.length (hQueues 15)).symm.trans (hSent t e)) (by rw [hBefore]; decide)

end Sys2Proof.Machine
end

section
/-! PROOFS. GLF-7220 compatibility: what the messages of the credit protocol, its timer and a flush leave (R190 to R193). -/

namespace Sys2Proof.Machine

variable {s : State}

/-! ### Records gathered for a peer (R192) -/

/-- The records gathered for a peer are replaced. -/
def State.setGathered (s : State) (dev : Nat) (l : List DWord) : State :=
  { s with cmp := { s.cmp with gathered := Tbl.put noRecords s.cmp.gathered dev l } }

theorem State.setGathered_moves {dev : Nat} {l : List DWord} : Moves [.cmp] s (s.setGathered dev l) := .cmp (by decide) .refl

theorem State.setGathered_gathered (dev d : Nat) (l : List DWord) : Tbl.get noRecords (s.setGathered dev l).cmp.gathered d =
    if d = dev then l else Tbl.get noRecords s.cmp.gathered d := Tbl.get_put _ _ _ _ _

section
variable {dev type voq value : Nat}

theorem State.cmpSend_gathers (h : (Tbl.get noRecords s.cmp.gathered dev).length < 7) : s.cmpSend dev type voq value =
    s.setGathered dev (Tbl.get noRecords s.cmp.gathered dev ++ [cmpRecord type (s.fld 0x880000 22 16) dev voq value]) :=
  if_neg (by simp; omega)

theorem State.cmpSend_fills (h : (Tbl.get noRecords s.cmp.gathered dev).length = 7) : s.cmpSend dev type voq value =
    (s.setGathered dev (Tbl.get noRecords s.cmp.gathered dev ++
      [cmpRecord type (s.fld 0x880000 22 16) dev voq value])).cmpSendFrame dev :=
  if_pos (by simp [h])

/-- The message frame that carries records to a peer. -/
def State.peerFrame (s : State) (dev : Nat) (l : List DWord) : List Byte :=
  cmpFrame (s.fld (0x881004 + dev * 8) 15 0 * 2 ^ 32 + (s.reg (0x881000 + dev * 8)).toNat) l

/-- The queue of the messages to a peer: TC15 of its fabric port. -/
def State.peerQueue (s : State) (dev : Nat) : Nat := s.fld (0x881004 + dev * 8) 25 16 * 16 + 15

theorem State.cmpSendFrame_drops (h : Tbl.get noRecords s.cmp.gathered dev = [] ∨ s.bit (0x881004 + dev * 8) 31 = false) :
    s.cmpSendFrame dev = s.setGathered dev [] := by
  refine if_pos ?_
  rcases h with hNone | hInvalid
  · simp [hNone]
  · have hBit : getBits (s.reg (0x881004 + dev * 8)) 31 31 < 2 := getBits_lt _ _ _
    have hNot : getBits (s.reg (0x881004 + dev * 8)) 31 31 ≠ 1 := of_decide_eq_false hInvalid
    exact Bool.or_eq_true_iff.mpr (.inr (decide_eq_true (show getBits (s.reg (0x881004 + dev * 8)) 31 31 = 0 by omega)))

theorem State.cmpSendFrame_places (hSome : Tbl.get noRecords s.cmp.gathered dev ≠ [])
    (hValid : s.bit (0x881004 + dev * 8) 31 = true) : s.cmpSendFrame dev =
    (s.setGathered dev []).placeMessage (s.fld (0x881004 + dev * 8) 25 16)
      (s.peerFrame dev (Tbl.get noRecords s.cmp.gathered dev)) := by
  have hBit : getBits (s.reg (0x881004 + dev * 8)) 31 31 = 1 := of_decide_eq_true hValid
  exact if_neg (by simp [State.reg] at hBit ⊢; simp [hSome, hBit])

end

theorem State.queue_setQueue (q r : Nat) (l : List QEntry) : (s.setQueue q l).queue r = if r = q then l else s.queue r :=
  Tbl.get_put _ _ _ _ _

theorem State.queue_moves {t : State} {ps : List StatePart} (h : Moves ps s t) (hp : .egr ∉ ps) (q : Nat) :
    t.queue q = s.queue q :=
  congrArg (fun x : EgrState => Tbl.get noEntries x.queues q) (h.same .egr hp)

/-- The queue entry of a message frame, which has no descriptor (R192). -/
def messageEntry (q : Nat) (bytes : List Byte) : QEntry := { desc := 1048576, idx := 0, tag := q, msg := bytes }

theorem State.placeMessage_queue (p q : Nat) (bytes : List Byte) : (s.placeMessage p bytes).queue q = if q = p * 16 + 15 then
    s.queue (p * 16 + 15) ++ [messageEntry (p * 16 + 15) bytes] else s.queue q :=
  State.queue_setQueue _ _ _

/-- A frame of records leaves for a valid peer: it stands at the tail of TC15 of the peer's port, and nothing is gathered
for the peer any more. -/
theorem State.cmpSendFrame_spec {dev : Nat} (hSome : Tbl.get noRecords s.cmp.gathered dev ≠ [])
    (hValid : s.bit (0x881004 + dev * 8) 31 = true) :
    (∀ q, (s.cmpSendFrame dev).queue q = if q = s.peerQueue dev then
      s.queue (s.peerQueue dev) ++ [messageEntry (s.peerQueue dev) (s.peerFrame dev (Tbl.get noRecords s.cmp.gathered dev))]
      else s.queue q) ∧ Tbl.get noRecords (s.cmpSendFrame dev).cmp.gathered dev = [] := by
  rw [State.cmpSendFrame_places hSome hValid]
  exact ⟨fun q => State.placeMessage_queue _ _ _, (State.setGathered_gathered _ _ _).trans (if_pos rfl)⟩

/-! ### SYNC of every VOQ with credits outstanding (R193) -/

/-- SYNC of a VOQ, when it has credits outstanding. -/
def State.sendSync (s : State) (e : Nat × Voq) : State :=
  if 0 < e.2.out then s.cmpSend (e.1 / 512) 3 e.1 e.2.out else s

/-- The VOQ sends its SYNC to the device. -/
def syncTo (dev : Nat) (e : Nat × Voq) : Bool := decide (0 < e.2.out ∧ e.1 / 512 = dev)

/-- The SYNC record of a VOQ. -/
def State.syncRecord (s : State) (e : Nat × Voq) : DWord := cmpRecord 3 (s.fld 0x880000 22 16) (e.1 / 512) e.1 e.2.out

theorem State.sendSync_spec {e : Nat × Voq}
    (h : (Tbl.get noRecords s.cmp.gathered (e.1 / 512)).length + ([e].filter (syncTo (e.1 / 512))).length < 8) :
    (∀ dev, Tbl.get noRecords (s.sendSync e).cmp.gathered dev =
      Tbl.get noRecords s.cmp.gathered dev ++ ([e].filter (syncTo dev)).map s.syncRecord) ∧
    (s.sendSync e).cmp.voq = s.cmp.voq ∧ Moves [.cmp] s (s.sendSync e) := by
  by_cases hOut : 0 < e.2.out
  · have hRoom : (Tbl.get noRecords s.cmp.gathered (e.1 / 512)).length < 7 := by
      simpa [syncTo, hOut, Nat.succ_lt_succ_iff] using h
    rw [State.sendSync, if_pos hOut, State.cmpSend_gathers hRoom]
    refine ⟨fun dev => (State.setGathered_gathered _ _ _).trans ?_, rfl, State.setGathered_moves⟩
    by_cases hDev : e.1 / 512 = dev
    · subst hDev
      simp [syncTo, hOut, State.syncRecord]
    · simp [syncTo, hDev, Ne.symm hDev]
  · rw [State.sendSync, if_neg hOut]
    exact ⟨fun dev => by simp [syncTo, hOut], rfl, .refl⟩

/-- While no peer comes to eight records, each VOQ adds its SYNC to what is gathered for its device, and no frame leaves. -/
theorem State.foldl_sendSync (l : List (Nat × Voq))
    (h : ∀ dev, (Tbl.get noRecords s.cmp.gathered dev).length + (l.filter (syncTo dev)).length < 8) :
    (∀ dev, Tbl.get noRecords (l.foldl State.sendSync s).cmp.gathered dev =
      Tbl.get noRecords s.cmp.gathered dev ++ (l.filter (syncTo dev)).map s.syncRecord) ∧
    (l.foldl State.sendSync s).cmp.voq = s.cmp.voq ∧ Moves [.cmp] s (l.foldl State.sendSync s) := by
  induction l generalizing s with
  | nil => exact ⟨fun dev => (List.append_nil _).symm, rfl, .refl⟩
  | cons e l ih =>
    have hSplit (dev : Nat) : (e :: l).filter (syncTo dev) = [e].filter (syncTo dev) ++ l.filter (syncTo dev) :=
      List.filter_append [e] l
    obtain ⟨hFirst, hVoq, hMoves⟩ := State.sendSync_spec (s := s) (e := e)
      (by have := h (e.1 / 512); rw [hSplit, List.length_append] at this; omega)
    have hRecord : (s.sendSync e).syncRecord = s.syncRecord :=
      funext fun x => congrArg (fun n => cmpRecord 3 n _ _ _) (State.fld_moves hMoves (by decide) _ _ _)
    obtain ⟨hRest, hRestVoq, hRestMoves⟩ := ih (s := s.sendSync e) fun dev => by
      have := h dev
      rw [hSplit, List.length_append] at this
      rw [hFirst, List.length_append, List.length_map]
      omega
    refine ⟨fun dev => ?_, hRestVoq.trans hVoq, hMoves.trans hRestMoves⟩
    rw [List.foldl_cons, hRest, hFirst, hRecord, hSplit, List.map_append, List.append_assoc]

/-! ### A VOQ that runs (R191) -/

theorem State.voq_setVoq (v w : Nat) (x : Voq) : (s.setVoq v x).voq w = if w = v then x else s.voq w := Tbl.get_put _ _ _ _ _

/-- A VOQ with no frame that needs no more credit asks for none and releases nothing. -/
theorem State.voqRun_idle {v : Nat} (hFrames : (s.voq v).frames = []) (hNeed : (s.voq v).need ≤ 0) : s.voqRun v = s := by
  have hRequest (n : Nat) : s.voqRequest v n = s := by
    cases n with
    | zero => rfl
    | succ n => exact if_neg (by omega)
  rw [State.voqRun, hRequest, hFrames]
  rfl

/-- A VOQ takes what a message has made of it, and has nothing to do. -/
theorem State.setVoq_run_spec {v : Nat} {x : Voq} (hFrames : x.frames = []) (hNeed : x.need ≤ 0) :
    ((s.setVoq v x).voqRun v).voq v = x ∧ (∀ w, w ≠ v → ((s.setVoq v x).voqRun v).voq w = s.voq w) ∧
      OnlyTouches [.cmp] s ((s.setVoq v x).voqRun v) := by
  have hSelf : (s.setVoq v x).voq v = x := (State.voq_setVoq _ _ _).trans (if_pos rfl)
  rw [State.voqRun_idle (by rw [hSelf]; exact hFrames) (by rw [hSelf]; exact hNeed)]
  exact ⟨hSelf, fun w hw => (State.voq_setVoq _ _ _).trans (if_neg hw), State.setVoq_moves.only⟩

theorem State.setCmpPending_cmpPending (dev v d w n : Nat) (hv : v < 65536) (hw : w < 65536) :
    (s.setCmpPending dev v n).cmpPending d w = if (d, w) = (dev, v) then n else s.cmpPending d w := by
  have hKey : cmpKey d w = cmpKey dev v ↔ (d, w) = (dev, v) := by
    rw [Prod.mk.injEq, cmpKey, cmpKey]
    omega
  exact (Tbl.get_put _ _ _ _ _).trans (if_congr hKey rfl rfl)

/-! ### The commands -/

section
variable {dev : Fin 128} {v : BitVec 16} {n : BitVec 26}

theorem exec_cmp_off (h : s.cmpOn = false) : exec (.cmpReqRx dev v n) s = .next s ∧ exec (.cmpGrantRx v n) s = .next s ∧
    exec (.cmpSyncRx dev v n) s = .next s ∧ exec (.cmpSyncAckRx v n) s = .next s ∧ exec (.cmpSyncTimer) s = .next s ∧
    exec (.cmpMessageFlush dev) s = .next s := by
  have hOff : ¬ s.cmpOn = true := by simp [h]
  exact ⟨if_neg hOff, if_neg hOff, if_neg hOff, if_neg hOff, if_neg hOff, if_neg hOff⟩

variable (h : s.cmpOn = true)
include h

theorem exec_cmpReqRx : exec (.cmpReqRx dev v n) s =
    .next (s.setCmpPending dev v.toNat (min (s.cmpPending dev v.toNat + n.toNat) (2 ^ 26 - 1))) := if_pos h

theorem exec_cmpGrantRx : exec (.cmpGrantRx v n) s =
    .next ((s.setVoq v.toNat ((s.voq v.toNat).granted n.toNat)).voqRun v.toNat) := if_pos h

theorem exec_cmpSyncAckRx : exec (.cmpSyncAckRx v n) s =
    .next ((s.setVoq v.toNat { s.voq v.toNat with out := n.toNat }).voqRun v.toNat) := if_pos h

theorem exec_cmpSyncRx : exec (.cmpSyncRx dev v n) s =
    .next (s.cmpSend dev 4 v.toNat (s.cmpPending dev v.toNat)) := if_pos h

theorem exec_cmpSyncTimer : exec (.cmpSyncTimer) s = .next (s.cmp.voq.foldl State.sendSync s) := if_pos h

theorem exec_cmpMessageFlush : exec (.cmpMessageFlush dev) s = .next (s.cmpSendFrame dev) := if_pos h

end

/-- Settles O28: a message writes its own pending count, VOQ or gathered records; only a frame of records that leaves for
a valid peer reaches a queue. -/
theorem compatibilityCredits : Obligations.CompatibilityCredits := by
  unfold Obligations.CompatibilityCredits
  refine ⟨?off, ?flushNothing, ?syncFills, ?req, ?grant, ?grantRuns, ?syncAckRuns, ?timer, ?timerOne, ?sync, ?syncAck, ?flush⟩
  case off => exact fun dev v n s h => exec_cmp_off h
  case flushNothing =>
    intro dev s hOn h
    refine ⟨_, (exec_cmpMessageFlush hOn).trans (congrArg _ (State.cmpSendFrame_drops h)), ?_, fun d hd => ?_,
      State.setGathered_moves.only⟩
    · exact (State.setGathered_gathered _ _ _).trans (if_pos rfl)
    · exact (State.setGathered_gathered _ _ _).trans (if_neg hd)
  case syncFills =>
    intro dev v n s hOn hSeven hValid
    have hGathered := State.setGathered_gathered (s := s) dev dev (Tbl.get noRecords s.cmp.gathered dev ++
      [cmpRecord 4 (s.fld 0x880000 22 16) dev v.toNat (s.cmpPending dev v.toNat)])
    rw [if_pos rfl] at hGathered
    obtain ⟨hQueue, hEmpty⟩ := State.cmpSendFrame_spec (s := s.setGathered dev _) (by rw [hGathered]; simp) hValid
    rw [hGathered] at hQueue
    exact ⟨_, (exec_cmpSyncRx hOn).trans (congrArg _ (State.cmpSend_fills hSeven)), hEmpty, (hQueue _).trans (if_pos rfl),
      (Moves.step State.cmpSendFrame_moves (by decide) (State.setGathered_moves.mono (by decide))).only⟩
  case req =>
    intro dev v n s hOn
    refine ⟨_, exec_cmpReqRx hOn, ?_, fun d w hw hne => ?_, State.setCmpPending_moves.only⟩
    · exact (State.setCmpPending_cmpPending _ _ _ _ _ v.isLt v.isLt).trans (if_pos rfl)
    · exact (State.setCmpPending_cmpPending _ _ _ _ _ v.isLt hw).trans (if_neg hne)
  case grant =>
    intro v n s hOn hFrames hNeed
    obtain ⟨hSelf, hOthers, hOnly⟩ := State.setVoq_run_spec (s := s) (v := v.toNat)
      (x := (s.voq v.toNat).granted n.toNat) hFrames hNeed
    exact ⟨_, exec_cmpGrantRx hOn, congrArg Voq.out hSelf, congrArg Voq.credit hSelf, hOthers, hOnly⟩
  case grantRuns => exact fun v n s hOn => ⟨_, exec_cmpGrantRx hOn, rfl⟩
  case syncAckRuns => exact fun v n s hOn => ⟨_, exec_cmpSyncAckRx hOn, rfl⟩
  case timer =>
    intro s hOn hRoom
    obtain ⟨hGathered, hVoq, hMoves⟩ := State.foldl_sendSync s.cmp.voq hRoom
    exact ⟨_, exec_cmpSyncTimer hOn, hGathered, hVoq, hMoves.only⟩
  case timerOne =>
    intro s v x hOn hOne hOut hNone
    have hDue : [(v, x)].filter (syncTo (v / 512)) = [(v, x)] := by simp [syncTo, hOut]
    obtain ⟨hGathered, hVoq, hMoves⟩ := State.sendSync_spec (s := s) (e := (v, x)) (by simp [hNone, hDue])
    have hRecord := hGathered (v / 512)
    rw [hNone, hDue] at hRecord
    exact ⟨_, (exec_cmpSyncTimer hOn).trans (congrArg (fun l => Host.Outcome.next (List.foldl State.sendSync s l)) hOne), hRecord, hVoq,
      hMoves.same .emitted (by decide)⟩
  case sync =>
    intro dev v n s hOn hRoom
    exact ⟨_, (exec_cmpSyncRx hOn).trans (congrArg _ (State.cmpSend_gathers hRoom)),
      (State.setGathered_gathered _ _ _).trans (if_pos rfl), rfl, State.setGathered_moves.only⟩
  case syncAck =>
    intro v n s hOn hFrames hNeed
    obtain ⟨hSelf, hOthers, hOnly⟩ := State.setVoq_run_spec (s := s) (v := v.toNat)
      (x := { s.voq v.toNat with out := n.toNat }) hFrames hNeed
    exact ⟨_, exec_cmpSyncAckRx hOn, congrArg Voq.out hSelf, (congrArg Voq.credit hSelf :), hOthers, hOnly⟩
  case flush =>
    intro dev s hOn hSome hValid
    obtain ⟨hQueue, hEmpty⟩ := State.cmpSendFrame_spec hSome hValid
    exact ⟨_, exec_cmpMessageFlush hOn, (hQueue _).trans (if_pos rfl), fun q hq => (hQueue q).trans (if_neg hq), hEmpty,
      State.cmpSendFrame_moves.only⟩

end Sys2Proof.Machine
end

section
/-! PROOFS. A holder operation on a frame of one cell, and what the return of its charge leaves (R175, R177, R187). -/

namespace Sys2Proof.Machine

variable {s t : State}

/-! ### The walk over one cell (R177) -/

/-- A cell as its frame's holder operation leaves it. -/
def LinkWord.held (l : LinkWord) (count : Nat) (owner : Holder) (gx : Word) : LinkWord :=
  { l with refcnt := count, owner := owner, guard := l.guard ^^^ gx }

theorem walkCells_one {refcnt count n c : Nat} {owner newOwner : Holder} {gx : Word} (hOne : n = 1) (hAlloc : (s.link c).alloc = true)
    (hRefcnt : (s.link c).refcnt = refcnt) (hOwner : (s.link c).owner = owner) (hHeld : refcnt ≠ 0) :
    walkCells refcnt owner newOwner count gx s n c 0 none = {
      st := if count = 0 then (s.setLink c ((s.link c).held count newOwner gx)).pushFree c
        else s.setLink c ((s.link c).held count newOwner gx)
      freed := 0 + if count = 0 then 1 else 0, fault := none } := by
  subst hOne hRefcnt hOwner
  exact if_neg (by simp [hAlloc, hHeld])

/-- A frame of one cell that is held once, by `h`, whose manager gives its outputs (R26). -/
structure State.HeldOnce (s : State) (d : Nat) (h : Holder) : Prop where
  runs : s.bufferPaused = false
  alloc : (s.desc d).alloc = true
  quar : (s.desc d).quar = false
  cells : (s.desc d).cells = 1
  linkAlloc : (s.link (s.desc d).first).alloc = true
  refcnt : (s.link (s.desc d).first).refcnt = 1
  owner : (s.link (s.desc d).first).owner = h

/-- The frame goes from holder `h` to holder `x` and has a destination. -/
def State.transferOne (s : State) (d : Nat) (h x : Holder) (dest : Nat) : State :=
  (s.setDesc d { s.desc d with dest := dest }).setLink (s.desc d).first ((s.link (s.desc d).first).held 1
    ((s.link (s.desc d).first).owner ^^^ h ^^^ x) (BitVec.ofNat 32 (((s.desc d).dest ^^^ dest) * 2 ^ 16)))

theorem State.transferOne_moves {d dest : Nat} {h x : Holder} : Moves [.buf] s (s.transferOne d h x dest) :=
  .step State.setLink_moves (by decide) State.setDesc_moves

theorem State.transferOne_desc (d dest : Nat) (h x : Holder) :
    (s.transferOne d h x dest).desc d = { s.desc d with dest := dest } := (State.desc_setDesc _ _ _).trans (if_pos rfl)

theorem State.transferOne_link (d dest : Nat) (h x : Holder) : (s.transferOne d h x dest).link (s.desc d).first =
    (s.link (s.desc d).first).held 1 ((s.link (s.desc d).first).owner ^^^ h ^^^ x)
      (BitVec.ofNat 32 (((s.desc d).dest ^^^ dest) * 2 ^ 16)) := (State.link_setLink _ _ _).trans (if_pos rfl)

section
variable {d : Nat} {h : Holder} (hHeld : s.HeldOnce d h)
include hHeld

theorem State.HeldOnce.of_same (hChip : t.chip = s.chip) (hLink : t.buf.link = s.buf.link)
    (hAlloc : (t.desc d).alloc = (s.desc d).alloc) (hQuar : (t.desc d).quar = (s.desc d).quar)
    (hCells : (t.desc d).cells = (s.desc d).cells) (hFirst : (t.desc d).first = (s.desc d).first) : t.HeldOnce d h := by
  have hWord : t.link (t.desc d).first = s.link (s.desc d).first := by rw [State.link, State.link, hLink, hFirst]
  exact ⟨by rw [State.bufferPaused, hChip]; exact hHeld.runs, hAlloc.trans hHeld.alloc, hQuar.trans hHeld.quar,
    hCells.trans hHeld.cells, hWord ▸ hHeld.linkAlloc, hWord ▸ hHeld.refcnt, hWord ▸ hHeld.owner⟩

/-- An operation of the one holder is a walk over the one cell. -/
theorem State.HeldOnce.holderOp {add : List Holder} {dest : Option Nat} (hRoom : add.length ≤ 255) :
    s.holderOp d h add dest = s.holderWalk d h add dest none := by
  have hRefused : s.opRefused d h add.length .good = none := by
    rw [State.opRefused, if_neg (by decide), if_neg (by simp [hHeld.linkAlloc]), if_neg (by rw [hHeld.refcnt]; omega),
      if_neg (by simp [hHeld.owner])]
  rw [State.holderOp, if_neg (by simp [hHeld.runs])]
  unfold State.holderNow
  rw [show s.walkCorrected d .good = s from rfl]
  dsimp only
  rw [if_neg (by simp [hHeld.alloc]), if_neg (by simp [hHeld.quar]), hRefused]
  rfl

/-- The holder hands the frame to one other and names its destination: the cell's count stays 1. -/
theorem State.HeldOnce.transfer (x : Holder) (dest : Nat) :
    s.holderOp d h [x] (some dest) = (s.transferOne d h x dest, true) := by
  rw [hHeld.holderOp (by simp)]
  unfold State.holderWalk
  dsimp only [List.length_cons, List.length_nil, List.foldl_cons, List.foldl_nil]
  rw [hHeld.refcnt, walkCells_one (s := s.setDesc d _) (owner := (s.link (s.desc d).first).owner) hHeld.cells
    hHeld.linkAlloc hHeld.refcnt rfl (by decide)]
  rfl

/-- The holder releases the frame: its cell goes to the free list, and what is left is to return the charge and the
descriptor. -/
theorem State.HeldOnce.releases : ∃ o gx, s.holderOp d h [] none = State.walked d h 0 {
    st := (s.setLink (s.desc d).first ((s.link (s.desc d).first).held 0 o gx)).pushFree (s.desc d).first
    freed := 1, fault := none } := by
  refine ⟨h ^^^ h, 0, ?_⟩
  rw [hHeld.holderOp (by simp)]
  unfold State.holderWalk
  dsimp only [List.length_nil, List.foldl_nil]
  rw [hHeld.owner, hHeld.refcnt, walkCells_one hHeld.cells hHeld.linkAlloc hHeld.refcnt hHeld.owner (by decide)]
  rfl

end

/-! ### What the return of a charge leaves (R187) -/

theorem State.pushFree_alloc (c : Nat) : ((s.pushFree c).link c).alloc = false := by
  have hFreed (l : LinkWord) : ((s.setLink c { l with alloc := false, refcnt := 0, owner := 0, last := false }).link c).alloc
      = false := by rw [State.link_setLink, if_pos rfl]
  unfold State.pushFree
  dsimp -proj only
  specialize hFreed (s.link c)
  generalize s.setLink c _ = sFreed at hFreed ⊢
  generalize s.freeList (c / 8192) = f
  split
  · exact hFreed
  · refine (congrArg LinkWord.alloc (State.link_setLink (s := sFreed) f.tail c _)).trans ?_
    split
    · next h => exact h ▸ hFreed
    · exact hFreed

theorem State.pushFree_desc (c d : Nat) : (s.pushFree c).desc d = s.desc d := by
  unfold State.pushFree
  dsimp -proj only
  split <;> rfl

/-- A counter that the return of a charge does not count: neither one of PFC frames sent nor that of cells freed. -/
def notReturned (off : Nat) : Prop := off ≠ cChip 3 ∧ ∀ p, off ≠ cPort p 15 ∧ off ≠ cPort p 16

/-- The counters of a pair are their own. -/
theorem notReturned_cPcl (pair : Nat) : notReturned (cPcl pair 8) := by
  refine ⟨?_, fun p => ⟨?_, ?_⟩⟩ <;> simp only [cPcl, cChip, cPort, ne_eq] <;> omega

/-- What the return of a charge leaves of the buffer and of a counter. -/
structure KeepsFrames (off : Nat) (s t : State) : Prop where
  desc : t.buf.desc = s.buf.desc
  link : t.buf.link = s.buf.link
  counter : t.counter off = s.counter off

theorem KeepsFrames.refl {off : Nat} : KeepsFrames off s s := ⟨rfl, rfl, rfl⟩

theorem KeepsFrames.trans {off : Nat} {u : State} (h : KeepsFrames off s t) (k : KeepsFrames off t u) : KeepsFrames off s u :=
  ⟨k.desc.trans h.desc, k.link.trans h.link, k.counter.trans h.counter⟩

theorem KeepsFrames.ite {off : Nat} {c : Prop} [Decidable c] {u : State} (h : KeepsFrames off s t) (k : KeepsFrames off s u) :
    KeepsFrames off s (if c then t else u) := by
  split
  · exact h
  · exact k

theorem State.grantCells_keepsFrames {off : Nat} (p hop n : Nat) : KeepsFrames off s (s.grantCells p hop n) := by
  have hMoves := State.grantCells_moves (s := s) (p := p) (h := hop) (n := n)
  exact ⟨(congrArg BufState.desc (hMoves.same .buf (by decide)) :), (congrArg BufState.link (hMoves.same .buf (by decide)) :),
    State.counter_moves hMoves (by decide) _⟩

/-- The charge of cells finally freed goes back to their region. -/
def State.unchargeRegion (s : State) (x : FrameInfo) (n : Nat) : State :=
  match x.region with
  | .head => s.setHeadUse x.port (s.headUse x.port - n)
  | .host => { s with buf := { s.buf with hostUse := s.buf.hostUse - n } }
  | .pair => s.uncharge (x.port * 16 + x.tc) n

theorem State.returnCells_eq (d n : Nat) : s.returnCells d n =
    if (s.info d).acceptedVia && (((s.count (cChip 3) n).unchargeRegion (s.info d) n).desc d).accepted then
      ((s.count (cChip 3) n).unchargeRegion (s.info d) n).grantCells (s.info d).port (s.info d).hopClass n
    else (s.count (cChip 3) n).unchargeRegion (s.info d) n := rfl

section
variable {off : Nat} (h : notReturned off)
include h

theorem State.xon_keepsFrames (p : Nat) (ks : List Nat) : KeepsFrames off s (s.xon p ks) := by
  unfold State.xon State.sendPfc
  split
  · exact .refl
  · refine ⟨rfl, rfl, (State.counter_count _ _ _ _).trans (if_neg ?_)⟩
    obtain ⟨h15, h16⟩ := h.2 p
    split
    · exact h16
    · exact h15

theorem State.uncharge_keepsFrames (q n : Nat) : KeepsFrames off s (s.uncharge q n) := by
  have hPair {y : State} {k : Nat} {u : PairUse} : KeepsFrames off y (y.setPairUse k u) := ⟨rfl, rfl, rfl⟩
  have hClass {y : State} {k m : Nat} : KeepsFrames off y (y.setClsShared k m) := ⟨rfl, rfl, rfl⟩
  have hGlobal {y : State} {m : Nat} : KeepsFrames off y { y with buf := { y.buf with globSh := m } } := ⟨rfl, rfl, rfl⟩
  unfold State.uncharge
  dsimp -proj only
  split
  · exact ((hPair.trans (hClass.trans hGlobal)).trans hPair).trans (State.xon_keepsFrames h _ _)
  · exact hPair.trans (hClass.trans hGlobal)

theorem State.unchargeRegion_keepsFrames (x : FrameInfo) (n : Nat) : KeepsFrames off s (s.unchargeRegion x n) := by
  unfold State.unchargeRegion
  split
  · exact ⟨rfl, rfl, rfl⟩
  · exact ⟨rfl, rfl, rfl⟩
  · exact State.uncharge_keepsFrames h _ _

theorem State.returnCells_keepsFrames (d n : Nat) : KeepsFrames off s (s.returnCells d n) := by
  have hCounted : KeepsFrames off s (s.count (cChip 3) n) :=
    ⟨rfl, rfl, (State.counter_count _ _ _ _).trans (if_neg h.1)⟩
  have hBack := hCounted.trans (State.unchargeRegion_keepsFrames h (s.info d) n)
  rw [State.returnCells_eq]
  exact .ite (hBack.trans (State.grantCells_keepsFrames _ _ _)) hBack

theorem State.returnCharge_keepsFrames (d n : Nat) : KeepsFrames off s (s.returnCharge d n) := by
  have hBack := State.returnCells_keepsFrames (s := s) h d n
  unfold State.returnCharge
  dsimp -proj only
  split
  · exact hBack.trans ⟨rfl, rfl, rfl⟩
  · exact hBack

end

/-! ### The last holder releases the frame (R168, R175) -/

theorem State.freeDescriptor_spec {d : Nat} (hAlloc : (s.desc d).alloc = true) : (s.freeDescriptor d).desc d = {} ∧
    (∀ c, (s.freeDescriptor d).link c = s.link c) ∧ (∀ off, (s.freeDescriptor d).counter off = s.counter off) ∧
    (∀ q, (s.freeDescriptor d).order q = s.order q) := by
  unfold State.freeDescriptor
  rw [if_neg (by simp [hAlloc])]
  dsimp -proj only
  refine ⟨?_, fun c => ?_, fun off => ?_, fun q => ?_⟩
  · rw [State.desc_moves State.checkDrained_moves (by decide)]
    exact ((State.desc_setDesc (s := s) d d {}).trans (if_pos rfl) :)
  · exact State.link_moves State.checkDrained_moves (by decide) c
  · exact State.counter_moves State.checkDrained_moves (by decide) off
  · exact State.order_moves State.checkDrained_moves (by decide) q

theorem State.pushFree_counter (c off : Nat) : (s.pushFree c).counter off = s.counter off :=
  State.counter_moves State.pushFree_moves (by decide) off

/-- The one holder of a frame of one cell that has ended releases it: its descriptor and its cell are free. -/
theorem State.HeldOnce.released {d : Nat} {h : Holder} (hHeld : s.HeldOnce d h) (hEnded : (s.info d).ended = true) :
    (((s.holderOp d h [] none).1.desc d).alloc = false) ∧ (((s.holderOp d h [] none).1.link (s.desc d).first).alloc = false) ∧
    (∀ off, notReturned off → (s.holderOp d h [] none).1.counter off = s.counter off) ∧
    (∀ q, (s.holderOp d h [] none).1.order q = s.order q) := by
  obtain ⟨o, gx, hWalk⟩ := hHeld.releases
  generalize hFreed : (s.setLink (s.desc d).first ((s.link (s.desc d).first).held 0 o gx)).pushFree (s.desc d).first = u at hWalk
  have hCell : (u.link (s.desc d).first).alloc = false := hFreed ▸ State.pushFree_alloc _
  have hDesc : u.desc d = s.desc d := hFreed ▸ State.pushFree_desc _ _
  have hCounter (off : Nat) : u.counter off = s.counter off := hFreed ▸ State.pushFree_counter _ _
  have hInfo : u.info d = s.info d := hFreed ▸ State.info_moves State.pushFree_moves (by decide) d
  have hCharge := fun (off : Nat) (ho : notReturned off) => State.returnCharge_keepsFrames (s := u) ho d 1
  have hAlloc : ((u.returnCharge d 1).desc d).alloc = true := by
    rw [State.desc, (hCharge _ (notReturned_cPcl 0)).desc]
    exact (congrArg Desc.alloc hDesc).trans hHeld.alloc
  have hLast : (s.holderOp d h [] none).1 = (u.returnCharge d 1).freeDescriptor d := by
    rw [hWalk]
    unfold State.walked
    dsimp only
    rw [if_pos rfl, if_pos (by rw [State.info_moves State.returnCharge_moves (by decide), hInfo]; exact hEnded)]
  have hOrder : (u.returnCharge d 1).ord = s.ord :=
    (State.returnCharge_moves.same .ord (by decide)).trans (hFreed ▸ Moves.same State.pushFree_moves .ord (by decide))
  obtain ⟨hGone, hLinks, hCounters, hOrders⟩ := State.freeDescriptor_spec hAlloc
  rw [hLast]
  refine ⟨congrArg Desc.alloc hGone, ?_, fun off ho => ?_, fun q => ?_⟩
  · rw [hLinks, State.link, (hCharge _ (notReturned_cPcl 0)).link]
    exact hCell
  · rw [hCounters, (hCharge off ho).counter, hCounter]
  · rw [hOrders, State.order, hOrder, State.order]

end Sys2Proof.Machine
end

section
/-! PROOFS. RESULT_RELEASE: what the order keeper does with the results that wait for a pair (R244 to R246). -/

namespace Sys2Proof.Machine

variable {s : State}

/-! ### RELEASE moves on (R245) -/

theorem State.order_setReorderUse (g n q : Nat) : (s.setReorderUse g n).order q = s.order q := rfl

theorem State.advanceRelease_order (pair q : Nat) : (s.advanceRelease pair).order q =
    if q = pair then { s.order pair with release := (s.order pair).release + 1 } else s.order q := State.order_setOrder _ _ _

/-- The ledger says RELEASED of an accepted frame. -/
def State.ledgerReleased (s : State) (d : Nat) : State :=
  if (s.desc d).accepted then s.setLedger d { (s.ledger d) with state := .released } else s

theorem State.ledgerReleased_ledger {d : Nat} (h : (s.desc d).accepted = true) :
    ((s.ledgerReleased d).ledger d).state = .released := by
  rw [State.ledgerReleased, if_pos h]
  exact congrArg LedgerEntry.state ((Tbl.get_put _ _ _ _ _).trans (if_pos rfl))

theorem State.ledgerReleased_order (d q : Nat) : (s.ledgerReleased d).order q = s.order q := by
  unfold State.ledgerReleased
  split <;> rfl

theorem State.ledgerReleased_moves {d : Nat} : Moves [.ord] s (s.ledgerReleased d) :=
  .ite State.setLedger_moves .refl

/-- What a result writes in the descriptor of its frame. -/
def Desc.decided (x : Desc) (r : Result) (ct : Bool) : Desc :=
  { x with egress := r.md6, copy := r.md7, bridge0 := r.bridge.getD 0 0, bridge1 := r.bridge.getD 1 0,
           bridge2 := r.bridge.getD 2 0, bridge3 := r.bridge.getD 3 0, egOp := r.egOp, ct := ct }

section
variable (pair : Nat) (r : Result)

/-- RELEASE has moved on past a result, and its frame is released. -/
def State.pastResult (s : State) : State :=
  ((s.advanceRelease pair).setInfo r.desc { s.info r.desc with released := true }).ledgerReleased r.desc

theorem State.pastResult_moves : Moves [.rx, .ord] s (s.pastResult pair r) :=
  .step State.ledgerReleased_moves (by decide) (.step State.setInfo_moves (by decide) (State.advanceRelease_moves.mono (by decide)))

theorem State.markReleased_eq : s.markReleased pair r = (s.pastResult pair r).setDesc r.desc
    (((s.pastResult pair r).desc r.desc).decided r (!((s.pastResult pair r).info r.desc).ended)) := rfl

theorem State.markReleased_order : (s.markReleased pair r).order pair =
    { s.order pair with release := (s.order pair).release + 1 } :=
  (State.ledgerReleased_order _ _).trans ((State.advanceRelease_order _ _).trans (if_pos rfl))

theorem State.pastResult_info : (s.pastResult pair r).info r.desc = { s.info r.desc with released := true } :=
  (State.info_moves State.ledgerReleased_moves (by decide) _).trans ((State.info_setInfo _ _ _).trans (if_pos rfl))

theorem State.markReleased_info : (s.markReleased pair r).info r.desc = { s.info r.desc with released := true } :=
  State.pastResult_info _ _

theorem State.markReleased_ledger (h : (s.desc r.desc).accepted = true) :
    ((s.markReleased pair r).ledger r.desc).state = .released := State.ledgerReleased_ledger h

theorem State.markReleased_desc : (s.markReleased pair r).desc r.desc = (s.desc r.desc).decided r (!(s.info r.desc).ended) := by
  rw [State.markReleased_eq, State.desc_setDesc, if_pos rfl, State.desc_moves (State.pastResult_moves _ _) (by decide),
    State.pastResult_info]

theorem State.markReleased_link : (s.markReleased pair r).buf.link = s.buf.link :=
  (congrArg BufState.link ((State.pastResult_moves (s := s) pair r).same .buf (by decide)) :)

theorem State.markReleased_heldOnce {h : Holder} (hHeld : s.HeldOnce r.desc h) : (s.markReleased pair r).HeldOnce r.desc h := by
  have hDesc := State.markReleased_desc (s := s) pair r
  exact hHeld.of_same (State.markReleased_moves.same .chip (by decide)) (State.markReleased_link pair r)
    (congrArg Desc.alloc hDesc :) (congrArg Desc.quar hDesc :) (congrArg Desc.cells hDesc :) (congrArg Desc.first hDesc :)

end

/-! ### A result for one queue (R175, R205, R237) -/

/-- The next copy index of a frame is taken. -/
def State.indexTaken (s : State) (d : Nat) : State := s.setDesc d { s.desc d with nextIndex := (s.desc d).nextIndex + 1 }

/-- The entry of the one copy of a frame. -/
def State.nextEntry (s : State) (d q : Nat) : QEntry := { desc := d, idx := (s.desc d).nextIndex, tag := q }

theorem State.oneEntry_index {d q : Nat} (h : (s.desc d).nextIndex < 255) :
    s.oneEntry d q = (s.indexTaken d, [(q, s.nextEntry d q)]) := by
  rw [State.oneEntry, show s.takeIndex d = (s.indexTaken d, some (s.desc d).nextIndex) from if_pos h]
  rfl

theorem State.indexTaken_desc (d : Nat) : (s.indexTaken d).desc d = { s.desc d with nextIndex := (s.desc d).nextIndex + 1 } :=
  (State.desc_setDesc _ _ _).trans (if_pos rfl)

theorem State.indexTaken_heldOnce {d : Nat} {h : Holder} (hHeld : s.HeldOnce d h) : (s.indexTaken d).HeldOnce d h := by
  have hDesc := State.indexTaken_desc (s := s) d
  exact hHeld.of_same rfl rfl (congrArg Desc.alloc hDesc :) (congrArg Desc.quar hDesc :) (congrArg Desc.cells hDesc :)
    (congrArg Desc.first hDesc :)

theorem State.placeEntry_queue {q : Nat} {e : QEntry} (h : e.pool = false) : (s.placeEntry q e).queue q = s.queue q ++ [e] := by
  unfold State.placeEntry
  rw [if_neg (by simp [h]), State.queue_moves State.countPlaced_moves (by decide), State.queue_setQueue, if_pos rfl]

theorem State.countPlaced_released (d q : Nat) : ((s.countPlaced d q).info d).released = (s.info d).released := by
  have hOpen : (((s.count (cQueue q 0) 1).setInfo d { s.info d with placed := (s.info d).placed ++ [q] }).info d).released =
      (s.info d).released := (congrArg FrameInfo.released ((State.info_setInfo _ _ _).trans (if_pos rfl)) :)
  unfold State.countPlaced
  dsimp -proj only
  split <;> split
  · exact hOpen
  · exact hOpen
  · rfl
  · rfl

theorem State.placeEntry_released {q : Nat} {e : QEntry} : ((s.placeEntry q e).info e.desc).released = (s.info e.desc).released := by
  unfold State.placeEntry
  split <;> exact State.countPlaced_released _ _

/-- A copy within the MTU, for a port that is neither in viaduct mode nor given up, is placed (R208). -/
theorem State.placeCopy_placed {q : Nat} {e : QEntry} (hLen : (s.desc e.desc).len ≤ s.mtu (q / 16))
    (hOrdinary : s.viaduct (q / 16) = false) (hKept : s.egr.expired.contains (q / 16) = false) :
    s.placeCopy q e = s.placeEntry q e := by
  have hCheck : s.copyCheck e.desc q = 0 := by
    unfold State.copyCheck
    dsimp -proj only
    rw [if_neg (by simp; omega), if_neg (by simp [hOrdinary])]
  unfold State.placeCopy
  rw [hCheck]
  exact if_neg (by rw [hKept]; simp)

section
variable {pair : Nat} {r : Result}

/-- A result for one queue asks for one entry and hands the frame over. -/
theorem State.releaseResult_one (hDrop : r.drop = false) (hMc : r.mc = false) (hRequests : r.requests = [])
    (hIndex : (s.desc r.desc).nextIndex < 255) : s.releaseResult pair r =
    ((s.markReleased pair r).indexTaken r.desc).handOver r (s.info r.desc).arrivalHolder
      [(r.queue, s.nextEntry r.desc r.queue)] [] := by
  have hSame : ((s.markReleased pair r).desc r.desc).nextIndex = (s.desc r.desc).nextIndex :=
    (congrArg Desc.nextIndex (State.markReleased_desc (s := s) pair r) :)
  have hEntries : (s.markReleased pair r).makeEntries r =
      ((s.markReleased pair r).indexTaken r.desc, [(r.queue, s.nextEntry r.desc r.queue)]) := by
    rw [State.makeEntries, if_neg (by simp [hDrop]), if_neg (by simp [hMc]), State.oneEntry_index (by omega), State.nextEntry,
      State.nextEntry, hSame]
  have hCopies (t : State) : t.makeCopies r = (t, []) := by rw [State.makeCopies, hRequests]; rfl
  have hDrops (t : State) : t.countResultDrop pair r [(r.queue, s.nextEntry r.desc r.queue)] [] = t := by
    unfold State.countResultDrop
    simp [hDrop]
  unfold State.releaseResult
  dsimp only
  rw [hEntries, hCopies, hDrops]

theorem State.enqueueAll_one {q : Nat} {e : QEntry} (hPort : s.fabricPort (q / 16) = false) :
    s.enqueueAll r [(q, e)] = s.placeCopy q e := if_neg (by simp [hPort])

/-- The frame is handed from `h` to its copy, which takes its place in the queue. -/
theorem State.handOver_one {h : Holder} {e : QEntry} (hMc : r.mc = false) (hHeld : s.HeldOnce r.desc h)
    (hPort : s.fabricPort (r.queue / 16) = false) : s.handOver r h [(r.queue, e)] [] =
    (s.transferOne r.desc h (holderQueue r.queue e.idx) r.queue).placeCopy r.queue e := by
  have hDest : (if [(r.queue, e)].isEmpty then 0xFFFE else if r.mc then 0x8000 + r.group else r.queue) = r.queue := by
    rw [if_neg (by simp), if_neg (by simp [hMc])]
  unfold State.handOver
  simp only [List.map_cons, List.map_nil, List.append_nil, hDest]
  rw [show (if [holderQueue r.queue e.idx].isEmpty then none else some r.queue) = some r.queue from rfl, hHeld.transfer]
  exact State.enqueueAll_one hPort

/-- The frame of a result for one queue as it is handed over. -/
def State.handedOver (s : State) (pair : Nat) (r : Result) : State :=
  ((s.markReleased pair r).indexTaken r.desc).transferOne r.desc (s.info r.desc).arrivalHolder
    (holderQueue r.queue (s.desc r.desc).nextIndex) r.queue

theorem State.handedOver_moves : Moves [.buf] (s.markReleased pair r) (s.handedOver pair r) :=
  .trans State.setDesc_moves State.transferOne_moves

theorem State.handedOver_desc : (s.handedOver pair r).desc r.desc = { (s.desc r.desc).decided r (!(s.info r.desc).ended) with
    nextIndex := (s.desc r.desc).nextIndex + 1, dest := r.queue } := by
  rw [State.handedOver, State.transferOne_desc, State.indexTaken_desc, State.markReleased_desc]
  rfl

theorem State.handedOver_link : (s.handedOver pair r).link (s.desc r.desc).first =
    (s.link (s.desc r.desc).first).held 1 ((s.link (s.desc r.desc).first).owner ^^^ (s.info r.desc).arrivalHolder ^^^
      holderQueue r.queue (s.desc r.desc).nextIndex)
      (BitVec.ofNat 32 (((s.desc r.desc).dest ^^^ r.queue) * 2 ^ 16)) := by
  have hDesc : ((s.markReleased pair r).indexTaken r.desc).desc r.desc = _ := State.indexTaken_desc _
  rw [State.markReleased_desc] at hDesc
  have hLink (c : Nat) : ((s.markReleased pair r).indexTaken r.desc).link c = s.link c :=
    congrArg (Tbl.get linkDefault · c) (State.markReleased_link pair r)
  have hWord := State.transferOne_link (s := (s.markReleased pair r).indexTaken r.desc) r.desc r.queue
    (s.info r.desc).arrivalHolder (holderQueue r.queue (s.desc r.desc).nextIndex)
  rw [hDesc, hLink] at hWord
  exact hWord

/-- The result is for one queue of a port that is neither a fabric port nor in viaduct mode, and of a frame of one cell,
held by its arrival, that fits the port's MTU and asks for no other copy. -/
structure State.OneCopy (s : State) (r : Result) : Prop where
  drop : r.drop = false
  mc : r.mc = false
  requests : r.requests = []
  index : (s.desc r.desc).nextIndex < 255
  held : s.HeldOnce r.desc (s.info r.desc).arrivalHolder
  port : s.fabricPort (r.queue / 16) = false
  len : (s.desc r.desc).len ≤ s.mtu (r.queue / 16)
  ordinary : s.viaduct (r.queue / 16) = false
  kept : s.egr.expired.contains (r.queue / 16) = false

theorem State.releaseResult_placed (h : s.OneCopy r) : s.releaseResult pair r =
    (s.handedOver pair r).placeEntry r.queue (s.nextEntry r.desc r.queue) := by
  have hMarked := State.indexTaken_heldOnce (State.markReleased_heldOnce pair r h.held)
  have hMoves : Moves [.buf, .rx, .ord] s (s.handedOver pair r) :=
    .step State.handedOver_moves (by decide) State.markReleased_moves
  have hMarkedMoves : Moves [.buf, .rx, .ord] s ((s.markReleased pair r).indexTaken r.desc) :=
    .step State.setDesc_moves (by decide) State.markReleased_moves
  have hPort : ((s.markReleased pair r).indexTaken r.desc).fabricPort (r.queue / 16) = false := by
    rw [State.fabricPort, State.bit_moves hMarkedMoves (by decide), State.bit_moves hMarkedMoves (by decide)]
    exact h.port
  rw [State.releaseResult_one h.drop h.mc h.requests h.index, State.handOver_one h.mc hMarked hPort]
  refine State.placeCopy_placed (s := s.handedOver pair r) (e := s.nextEntry r.desc r.queue) ?_ ?_ ?_
  · rw [State.nextEntry, State.handedOver_desc, State.mtu, State.fld_moves hMoves (by decide)]
    exact h.len
  · exact (State.bit_moves hMoves (by decide) _ _).trans h.ordinary
  · rw [hMoves.same .egr (by decide)]
    exact h.kept

/-- What the release of a result for one queue leaves: the entry at the queue's tail, the frame released, and the cell
with the queue's holder (R175, R237, R245). -/
theorem State.releaseResult_spec (h : s.OneCopy r) :
    ((s.releaseResult pair r).order pair).release = (s.order pair).release + 1 ∧
    ((s.releaseResult pair r).info r.desc).released = true ∧
    ((s.desc r.desc).accepted = true → ((s.releaseResult pair r).ledger r.desc).state = .released) ∧
    ((s.releaseResult pair r).desc r.desc).egress = r.md6 ∧ ((s.releaseResult pair r).desc r.desc).egOp = r.egOp ∧
    ((s.releaseResult pair r).desc r.desc).dest = r.queue ∧
    ((s.releaseResult pair r).link (s.desc r.desc).first).refcnt = 1 ∧
    ((s.releaseResult pair r).link (s.desc r.desc).first).owner = (s.link (s.desc r.desc).first).owner ^^^
      (s.info r.desc).arrivalHolder ^^^ holderQueue r.queue (s.desc r.desc).nextIndex ∧
    (s.releaseResult pair r).queue r.queue = s.queue r.queue ++ [s.nextEntry r.desc r.queue] := by
  have hPlaced : Moves [.counters, .rx, .egr] (s.handedOver pair r) (s.releaseResult pair r) := by
    rw [State.releaseResult_placed h]
    exact State.placeEntry_moves
  have hMoves : Moves [.counters, .rx, .egr, .buf] (s.markReleased pair r) (s.releaseResult pair r) :=
    .step hPlaced (by decide) (State.handedOver_moves.mono (by decide))
  have hBefore : Moves [.buf, .rx, .ord] s (s.handedOver pair r) :=
    .step State.handedOver_moves (by decide) State.markReleased_moves
  have hDesc := (State.desc_moves hPlaced (by decide) r.desc).trans State.handedOver_desc
  have hLink := (State.link_moves hPlaced (by decide) (s.desc r.desc).first).trans State.handedOver_link
  refine ⟨?_, ?_, fun hAccepted => ?_, (congrArg Desc.egress hDesc :), (congrArg Desc.egOp hDesc :), (congrArg Desc.dest hDesc :),
    (congrArg LinkWord.refcnt hLink :), (congrArg LinkWord.owner hLink :), ?_⟩
  · rw [State.order_moves hMoves (by decide), State.markReleased_order]
  · rw [State.releaseResult_placed h]
    refine (State.placeEntry_released (s := s.handedOver pair r) (e := s.nextEntry r.desc r.queue)).trans ?_
    rw [State.info_moves State.handedOver_moves (by decide)]
    exact congrArg FrameInfo.released (State.markReleased_info pair r)
  · rw [State.ledger, hMoves.same .ord (by decide)]
    exact State.markReleased_ledger pair r hAccepted
  · rw [State.releaseResult_placed h, State.placeEntry_queue rfl, State.queue_moves hBefore (by decide)]

/-! ### A dropped result (R30, R62) -/

/-- The result is dropped, of a frame of one cell, held by its arrival, that has ended and asks for no other copy. -/
structure State.OneDropped (s : State) (r : Result) : Prop where
  drop : r.drop = true
  requests : r.requests = []
  ring : (s.info r.desc).ring = none
  ended : (s.info r.desc).ended = true
  held : s.HeldOnce r.desc (s.info r.desc).arrivalHolder

/-- A dropped result makes no copy: it is counted, and its frame's arrival releases the frame. -/
theorem State.releaseResult_drops (h : s.OneDropped r) : s.releaseResult pair r =
    ((((s.markReleased pair r).count (cPcl pair 8) 1).outcome r.desc 4).holderOp r.desc (s.info r.desc).arrivalHolder [] none).1
    := by
  have hEntries : (s.markReleased pair r).makeEntries r = (s.markReleased pair r, []) := if_pos h.drop
  have hCopies (t : State) : t.makeCopies r = (t, []) := by rw [State.makeCopies, h.requests]; rfl
  have hRing : ((s.markReleased pair r).info r.desc).ring.isNone = true := by
    rw [State.markReleased_info, h.ring]
    rfl
  have hDrops : (s.markReleased pair r).countResultDrop pair r [] [] =
      ((s.markReleased pair r).count (cPcl pair 8) 1).outcome r.desc 4 := by
    unfold State.countResultDrop
    simp [hRing]
  unfold State.releaseResult
  dsimp only
  rw [hEntries, hCopies, hDrops]
  unfold State.handOver
  exact ite_self _

theorem cPcl_four_ne_eight (p q : Nat) : cPcl p 8 ≠ cPcl q 4 := by simp only [cPcl, ne_eq]; omega

theorem State.outcome_counter (d pair : Nat) : (s.outcome d 4).counter (cPcl pair 8) = s.counter (cPcl pair 8) := by
  unfold State.outcome
  dsimp -proj only
  split
  · exact (State.counter_count _ _ _ _).trans (if_neg (cPcl_four_ne_eight _ _))
  · rfl

/-- A dropped result counts a drop of its pair, and its frame is free. -/
theorem State.releaseResult_drops_spec (h : s.OneDropped r) :
    ((s.releaseResult pair r).order pair).release = (s.order pair).release + 1 ∧
    (s.releaseResult pair r).counter (cPcl pair 8) = (s.counter (cPcl pair 8) + 1) % 2 ^ 64 ∧
    ((s.releaseResult pair r).desc r.desc).alloc = false ∧
    ((s.releaseResult pair r).link (s.desc r.desc).first).alloc = false := by
  have hMarked := State.markReleased_moves (s := s) (pair := pair) (r := r)
  obtain ⟨u, hu⟩ : ∃ u, u = ((s.markReleased pair r).count (cPcl pair 8) 1).outcome r.desc 4 := ⟨_, rfl⟩
  have hCounted : Moves [.counters] (s.markReleased pair r) u := hu ▸ .step State.outcome_moves (by decide) State.count_moves
  have hHeld : u.HeldOnce r.desc (s.info r.desc).arrivalHolder := by
    have hDesc := State.desc_moves hCounted (by decide) r.desc
    have hLink : u.buf.link = (s.markReleased pair r).buf.link :=
      (congrArg BufState.link (hCounted.same .buf (by decide)) :)
    exact (State.markReleased_heldOnce pair r h.held).of_same (hCounted.same .chip (by decide)) hLink (congrArg Desc.alloc hDesc)
      (congrArg Desc.quar hDesc) (congrArg Desc.cells hDesc) (congrArg Desc.first hDesc)
  have hFirst : (u.desc r.desc).first = (s.desc r.desc).first := by
    rw [State.desc_moves hCounted (by decide), State.markReleased_desc]
    rfl
  have hEnded : (u.info r.desc).ended = true := by
    rw [State.info_moves hCounted (by decide), State.markReleased_info]
    exact h.ended
  have hCounter : u.counter (cPcl pair 8) = (s.counter (cPcl pair 8) + 1) % 2 ^ 64 := by
    rw [hu, State.outcome_counter, State.counter_count, if_pos rfl, State.counter_moves hMarked (by decide)]
  have hEnd : s.releaseResult pair r = (u.holderOp r.desc (s.info r.desc).arrivalHolder [] none).1 :=
    hu ▸ State.releaseResult_drops h
  obtain ⟨hDesc, hLink, hCounters, hOrders⟩ := hHeld.released hEnded
  rw [hFirst] at hLink
  rw [hEnd]
  refine ⟨?_, (hCounters _ (notReturned_cPcl pair)).trans hCounter, hDesc, hLink⟩
  rw [hOrders, State.order_moves hCounted (by decide), State.markReleased_order]

end

/-! ### The command (R245) -/

section
variable {p : Port} {tc : TrafficClass}

theorem exec_resultRelease {t : State} (h : s.resultRelease (p * 16 + tc) = t) : exec (.resultRelease p tc) s = .next t :=
  congrArg Host.Outcome.next h

/-- What waits at RELEASE has left the pair. -/
def State.takeReleased (s : State) (pair : Nat) : State :=
  s.setOrder pair { s.order pair with held := (s.order pair).held.filter (fun h => h.1 ≠ (s.order pair).release) }

/-- A result at RELEASE has left the pair and the store of its port group. -/
def State.takeResult (s : State) (pair : Nat) (r : Result) : State :=
  (s.takeReleased pair).setReorderUse (portGroup r.port) (s.reorderUse (portGroup r.port) - 1)

theorem State.takeReleased_order (pair : Nat) : (s.takeReleased pair).order pair =
    { s.order pair with held := (s.order pair).held.filter (fun h => h.1 ≠ (s.order pair).release) } :=
  (State.order_setOrder _ _ _).trans (if_pos rfl)

theorem State.takeResult_moves {pair : Nat} {r : Result} : Moves [.ord] s (s.takeResult pair r) :=
  .step State.setReorderUse_moves (by decide) State.setOrder_moves

theorem State.takeResult_release (pair : Nat) (r : Result) : ((s.takeResult pair r).order pair).release = (s.order pair).release :=
  (congrArg PairOrder.release ((State.order_setReorderUse _ _ _).trans (State.takeReleased_order pair)) :)

/-- A frame is held as before when only the order keeper has moved. -/
theorem State.HeldOnce.of_moves {t : State} {d : Nat} {h : Holder} (hHeld : s.HeldOnce d h) (hMoves : Moves [.ord] s t) :
    t.HeldOnce d h := by
  have hDesc := State.desc_moves hMoves (by decide) d
  exact hHeld.of_same (hMoves.same .chip (by decide)) (congrArg BufState.link (hMoves.same .buf (by decide)) :)
    (congrArg Desc.alloc hDesc) (congrArg Desc.quar hDesc) (congrArg Desc.cells hDesc) (congrArg Desc.first hDesc)

theorem State.OneCopy.of_moves {t : State} {r : Result} (h : s.OneCopy r) (hMoves : Moves [.ord] s t) : t.OneCopy r := by
  have hDesc := State.desc_moves hMoves (by decide) r.desc
  have hInfo := State.info_moves hMoves (by decide) r.desc
  refine ⟨h.drop, h.mc, h.requests, hDesc ▸ h.index, hInfo ▸ h.held.of_moves hMoves, ?_, ?_, ?_, ?_⟩
  · rw [State.fabricPort, State.bit_moves hMoves (by decide), State.bit_moves hMoves (by decide)]
    exact h.port
  · rw [hDesc, State.mtu, State.fld_moves hMoves (by decide)]
    exact h.len
  · exact (State.bit_moves hMoves (by decide) _ _).trans h.ordinary
  · rw [hMoves.same .egr (by decide)]
    exact h.kept

theorem State.OneDropped.of_moves {t : State} {r : Result} (h : s.OneDropped r) (hMoves : Moves [.ord] s t) :
    t.OneDropped r := by
  have hInfo := State.info_moves hMoves (by decide) r.desc
  exact ⟨h.drop, h.requests, hInfo ▸ h.ring, hInfo ▸ h.ended, hInfo ▸ h.held.of_moves hMoves⟩

section
variable {pair : Nat} (hDup : (List.range (s.order pair).held.length).find? (fun i => (s.order pair).isDup i) = none)
include hDup

theorem State.resultRelease_nothing (h : (s.order pair).held.find? (fun h => h.1 = (s.order pair).release) = none) :
    s.resultRelease pair = s := by
  unfold State.resultRelease
  simp only [hDup, h]

theorem State.resultRelease_void {q : Word}
    (h : (s.order pair).held.find? (fun h => h.1 = (s.order pair).release) = some (q, .void)) :
    s.resultRelease pair = (s.takeReleased pair).advanceRelease pair := by
  unfold State.resultRelease
  simp only [hDup, h]
  rfl

/-- A void sequence is passed over: RELEASE moves on, and nothing else of the order keeper. -/
theorem State.resultRelease_void_spec {q : Word}
    (h : (s.order pair).held.find? (fun h => h.1 = (s.order pair).release) = some (q, .void)) :
    ((s.resultRelease pair).order pair).release = (s.order pair).release + 1 ∧
    ((s.resultRelease pair).order pair).assign = (s.order pair).assign ∧
    (∀ k, k ≠ pair → (s.resultRelease pair).order k = s.order k) ∧ OnlyTouches [.ord] s (s.resultRelease pair) := by
  rw [State.resultRelease_void hDup h]
  have hSelf := (State.advanceRelease_order (s := s.takeReleased pair) pair pair).trans (if_pos rfl)
  rw [State.takeReleased_order] at hSelf
  refine ⟨(congrArg PairOrder.release hSelf :), (congrArg PairOrder.assign hSelf :), fun k hk => ?_,
    (Moves.step State.advanceRelease_moves (by decide) State.setOrder_moves).only⟩
  exact (State.advanceRelease_order _ _).trans ((if_neg hk).trans ((State.order_setOrder _ _ _).trans (if_neg hk)))

theorem State.resultRelease_leaves {q : Word} {r : Result}
    (h : (s.order pair).held.find? (fun h => h.1 = (s.order pair).release) = some (q, .result r)) (hr : s.releasable r = true) :
    s.resultRelease pair = (s.takeResult pair r).releaseResult pair r := by
  unfold State.resultRelease
  simp only [hDup, h, hr, if_true]
  rfl

theorem State.resultRelease_waits {q : Word} {r : Result}
    (h : (s.order pair).held.find? (fun h => h.1 = (s.order pair).release) = some (q, .result r)) (hr : s.releasable r = false) :
    s.resultRelease pair = s := by
  unfold State.resultRelease
  simp only [hDup, h, hr, Bool.false_eq_true, if_false]

end

/-- The result of a sequence that was there already leaves pair and store. -/
def State.dropDup (s : State) (pair i g n : Nat) : State :=
  (s.setOrder pair { s.order pair with held := (s.order pair).held.eraseIdx i }).setReorderUse g n

theorem State.dropDup_moves {pair i g n : Nat} : Moves [.ord] s (s.dropDup pair i g n) :=
  .step State.setReorderUse_moves (by decide) State.setOrder_moves

theorem State.dropDup_order (pair i g n : Nat) : (s.dropDup pair i g n).order pair =
    { s.order pair with held := (s.order pair).held.eraseIdx i } :=
  (State.order_setReorderUse _ _ _).trans ((State.order_setOrder _ _ _).trans (if_pos rfl))

theorem State.resultRelease_dup {pair i : Nat}
    (h : (List.range (s.order pair).held.length).find? (fun i => (s.order pair).isDup i) = some i) : ∃ g n,
    s.resultRelease pair = ((s.dropDup pair i g n).incSat 0x410 31 0 1).count (cChip 7) 1 := by
  unfold State.resultRelease
  simp only [h]
  exact ⟨_, _, rfl⟩

/-- A duplicate is counted on the chip and in the ingress register, and RELEASE stays. -/
theorem State.resultRelease_dup_spec {pair i : Nat}
    (h : (List.range (s.order pair).held.length).find? (fun i => (s.order pair).isDup i) = some i) :
    ((s.resultRelease pair).order pair).held = (s.order pair).held.eraseIdx i ∧
    ((s.resultRelease pair).order pair).release = (s.order pair).release ∧
    (s.resultRelease pair).counter (cChip 7) = (s.counter (cChip 7) + 1) % 2 ^ 64 ∧
    (s.resultRelease pair).fld 0x410 31 0 = min (s.fld 0x410 31 0 + 1) (2 ^ 32 - 1) ∧
    OnlyTouches [.regs, .counters, .ord] s (s.resultRelease pair) := by
  obtain ⟨g, n, hEnd⟩ := State.resultRelease_dup h
  have hDropped := State.dropDup_moves (s := s) (pair := pair) (i := i) (g := g) (n := n)
  have hOrder := State.dropDup_order (s := s) pair i g n
  rw [hEnd]
  generalize s.dropDup pair i g n = u at hDropped hOrder
  have hMoves : Moves [.regs, .counters] u ((u.incSat 0x410 31 0 1).count (cChip 7) 1) :=
    .step State.count_moves (by decide) (State.incSat_moves.mono (by decide))
  refine ⟨?_, ?_, ?_, ?_, (Moves.step hMoves (by decide) (hDropped.mono (by decide))).only⟩
  · rw [State.order_moves hMoves (by decide), hOrder]
  · rw [State.order_moves hMoves (by decide), hOrder]
  · rw [State.counter_count, if_pos rfl, State.counter_moves State.incSat_moves (by decide),
      State.counter_moves hDropped (by decide)]
  · rw [State.fld_moves State.count_moves (by decide), State.fld_incSat_same _ _ _ _ _ (by decide) (by decide),
      State.fld_moves hDropped (by decide)]

end

section
variable {pair : Nat} {r : Result}

/-- What a result for one queue leaves once it has left the store: `State.releaseResult_spec` of the state before. -/
theorem State.takeResult_releaseResult (h : s.OneCopy r) :
    (((s.takeResult pair r).releaseResult pair r).order pair).release = (s.order pair).release + 1 ∧
    (((s.takeResult pair r).releaseResult pair r).info r.desc).released = true ∧
    ((s.desc r.desc).accepted = true → (((s.takeResult pair r).releaseResult pair r).ledger r.desc).state = .released) ∧
    (((s.takeResult pair r).releaseResult pair r).desc r.desc).egress = r.md6 ∧
    (((s.takeResult pair r).releaseResult pair r).desc r.desc).egOp = r.egOp ∧
    (((s.takeResult pair r).releaseResult pair r).desc r.desc).dest = r.queue ∧
    (((s.takeResult pair r).releaseResult pair r).link (s.desc r.desc).first).refcnt = 1 ∧
    (((s.takeResult pair r).releaseResult pair r).link (s.desc r.desc).first).owner =
      (s.link (s.desc r.desc).first).owner ^^^ (s.info r.desc).arrivalHolder ^^^
        holderQueue r.queue (s.desc r.desc).nextIndex ∧
    ((s.takeResult pair r).releaseResult pair r).queue r.queue = s.queue r.queue ++ [s.nextEntry r.desc r.queue] := by
  have hMoves := State.takeResult_moves (s := s) (pair := pair) (r := r)
  have hSpec := State.releaseResult_spec (pair := pair) (h.of_moves hMoves)
  rw [State.takeResult_release, State.nextEntry, State.desc_moves hMoves (by decide), State.link_moves hMoves (by decide),
    State.info_moves hMoves (by decide) r.desc, State.queue_moves hMoves (by decide)] at hSpec
  exact hSpec

theorem State.takeResult_releaseResult_drops (h : s.OneDropped r) :
    (((s.takeResult pair r).releaseResult pair r).order pair).release = (s.order pair).release + 1 ∧
    ((s.takeResult pair r).releaseResult pair r).counter (cPcl pair 8) = (s.counter (cPcl pair 8) + 1) % 2 ^ 64 ∧
    (((s.takeResult pair r).releaseResult pair r).desc r.desc).alloc = false ∧
    (((s.takeResult pair r).releaseResult pair r).link (s.desc r.desc).first).alloc = false := by
  have hMoves := State.takeResult_moves (s := s) (pair := pair) (r := r)
  have hSpec := State.releaseResult_drops_spec (pair := pair) (h.of_moves hMoves)
  rw [State.takeResult_release, State.counter_moves hMoves (by decide), State.desc_moves hMoves (by decide)] at hSpec
  exact hSpec

end

/-- Settles O21: what leaves at RELEASE moves RELEASE on by one; a result for one queue is handed to its entry, and a dropped
one to nobody. -/
theorem resultsLeaveInOrder : Obligations.ResultsLeaveInOrder := by
  unfold Obligations.ResultsLeaveInOrder
  refine ⟨?void, ?dup, ?leaves, ?one, ?marked, ?dropped, ?nothing, ?waits⟩
  case void => exact fun p tc s q hDup hVoid => ⟨_, exec_resultRelease rfl, State.resultRelease_void_spec hDup hVoid⟩
  case dup => exact fun p tc s i hDup => ⟨_, exec_resultRelease rfl, State.resultRelease_dup_spec hDup⟩
  case leaves => exact fun p tc s q r hDup hHead hr => ⟨_, exec_resultRelease (State.resultRelease_leaves hDup hHead hr), rfl⟩
  case one =>
    intro p tc s q r hDup hHead hr hDrop hMc hRequests hIndex hAlloc hQuar hCells hLink hRefcnt hOwner hLast hRuns hPort hLen
      hOrdinary hKept
    exact ⟨_, exec_resultRelease (State.resultRelease_leaves hDup hHead hr), State.takeResult_releaseResult
      ⟨hDrop, hMc, hRequests, hIndex, ⟨hRuns, hAlloc, hQuar, hCells, hLink, hRefcnt, hOwner⟩, hPort, hLen, hOrdinary, hKept⟩⟩
  case marked =>
    intro pair r s
    exact ⟨congrArg PairOrder.release (State.markReleased_order pair r), congrArg FrameInfo.released
      (State.markReleased_info pair r), State.markReleased_ledger pair r, (congrArg Desc.egress (State.markReleased_desc pair r) :)⟩
  case dropped =>
    intro p tc s q r hDup hHead hr hDrop hRequests hRing hEnded hRuns hAlloc hQuar hCells hLink hRefcnt hOwner
    exact ⟨_, exec_resultRelease (State.resultRelease_leaves hDup hHead hr), State.takeResult_releaseResult_drops
      ⟨hDrop, hRequests, hRing, hEnded, ⟨hRuns, hAlloc, hQuar, hCells, hLink, hRefcnt, hOwner⟩⟩⟩
  case nothing => exact fun p tc s hDup hNone => ⟨s, exec_resultRelease (State.resultRelease_nothing hDup hNone), rfl⟩
  case waits => exact fun p tc s q r hDup hHead hr => ⟨s, exec_resultRelease (State.resultRelease_waits hDup hHead hr), rfl⟩

end Sys2Proof.Machine
end

section
/-! PROOFS. The reports of the buffer pool manager: what a fault of class S leaves of the pool, and what a quarantine
leaves of the report (R178, R179, R199). -/

namespace Sys2Proof.Machine

variable {s t u : State}

/-! ### A fault leaves the holders (R170, R172) -/

/-- From `s` to `t` the descriptors, the manager's fault log and the holders of every allocated cell are as they were. -/
structure KeepsHolders (s t : State) : Prop where
  desc : t.buf.desc = s.buf.desc
  flog : t.buf.flog = s.buf.flog
  held : ∀ c, (s.link c).alloc = true →
    (t.link c).alloc = true ∧ (t.link c).refcnt = (s.link c).refcnt ∧ (t.link c).owner = (s.link c).owner

theorem KeepsHolders.trans (h : KeepsHolders s t) (k : KeepsHolders t u) : KeepsHolders s u := by
  refine ⟨k.desc.trans h.desc, k.flog.trans h.flog, fun c hAlloc => ?_⟩
  obtain ⟨hAlloc, hRefcnt, hOwner⟩ := h.held c hAlloc
  obtain ⟨kAlloc, kRefcnt, kOwner⟩ := k.held c hAlloc
  exact ⟨kAlloc, kRefcnt.trans hRefcnt, kOwner.trans hOwner⟩

/-- Bytes of cells may change. -/
theorem KeepsHolders.of_buf (h : StatePart.buf.same s t) : KeepsHolders s t := by
  have hLink : t.buf.link = s.buf.link := (congrArg BufState.link h :)
  refine ⟨(congrArg BufState.desc h :), (congrArg BufState.flog h :), fun c hAlloc => ?_⟩
  rw [State.link, hLink]
  exact ⟨hAlloc, rfl, rfl⟩

theorem KeepsHolders.refl : KeepsHolders s s := .of_buf rfl

/-- The count of free values is not of the pool. -/
theorem KeepsHolders.of_freeCount {n : Nat} (h : KeepsHolders { s with freeCount := n } t) : KeepsHolders s t := ⟨h.desc, h.flog, h.held⟩

theorem KeepsHolders.moves {ps : List StatePart} (h : Moves ps s t) (hp : .buf ∉ ps) : KeepsHolders s t :=
  .of_buf (h.same .buf hp)

/-- A free cell may change. -/
theorem State.setLink_keepsHolders {c : Nat} {x : LinkWord} (h : (s.link c).alloc = false) : KeepsHolders s (s.setLink c x) := by
  refine ⟨rfl, rfl, fun k hAlloc => ?_⟩
  rw [State.link_setLink, if_neg (by rintro rfl; simp [h] at hAlloc)]
  exact ⟨hAlloc, rfl, rfl⟩

theorem State.setFree_keepsHolders (g : Nat) (f : FreeList) : KeepsHolders s (s.setFree g f) := ⟨rfl, rfl, fun _ h => ⟨h, rfl, rfl⟩⟩

/-- Cells are popped past the allocated ones, and the one that is taken was free. -/
theorem State.popHeads_keepsHolders (g n : Nat) :
    KeepsHolders s (s.popHeads g n).1 ∧ ∀ c, (s.popHeads g n).2.2 = some c → (s.link c).alloc = false := by
  induction n generalizing s with
  | zero => exact ⟨.refl, fun _ h => nomatch h⟩
  | succ n ih =>
    have hList := State.setFree_keepsHolders (s := s) g
      { s.freeList g with head := (s.link (s.freeList g).head).next, count := (s.freeList g).count - 1 }
    unfold State.popHeads
    dsimp -proj only
    split
    · obtain ⟨hRest, hFree⟩ := ih (s := s.setFree g _)
      exact ⟨hList.trans hRest, hFree⟩
    · next h =>
      have h : (s.link (s.freeList g).head).alloc = false := by simpa using h
      exact ⟨hList.trans (State.setLink_keepsHolders h), fun c hc => Option.some.inj hc ▸ h⟩

/-- Linking a list of cells writes their NEXT alone. -/
theorem linkChain_get (l : List Nat) (m : Tbl LinkWord) (c : Nat) :
    (Tbl.get linkDefault (linkChain m l) c).alloc = (Tbl.get linkDefault m c).alloc ∧
    (Tbl.get linkDefault (linkChain m l) c).refcnt = (Tbl.get linkDefault m c).refcnt ∧
    (Tbl.get linkDefault (linkChain m l) c).owner = (Tbl.get linkDefault m c).owner := by
  induction m, l using linkChain.induct with
  | case1 m a b rest ih =>
    rw [linkChain, ih.1, ih.2.1, ih.2.2, Tbl.get_put]
    split
    · next h => subst h; exact ⟨rfl, rfl, rfl⟩
    · exact ⟨rfl, rfl, rfl⟩
  | case2 l m h =>
    have hSame : linkChain m l = m := by
      unfold linkChain
      split
      · exact absurd rfl (h _ _ _)
      · rfl
    rw [hSame]
    exact ⟨rfl, rfl, rfl⟩

theorem State.rebuildFree_keepsHolders (g : Nat) : KeepsHolders s (s.rebuildFree g) := by
  unfold State.rebuildFree
  generalize s.freeRows g = rows
  refine ⟨rfl, rfl, fun c hAlloc => ?_⟩
  obtain ⟨hA, hR, hO⟩ := linkChain_get rows s.buf.link c
  exact ⟨hA.trans hAlloc, hR, hO⟩

theorem State.popRecord_keepsHolders (g : Nat) :
    KeepsHolders s (s.popRecord g).1 ∧ ∀ c, (s.popRecord g).2 = some c → (s.link c).alloc = false := by
  obtain ⟨hPop, hFree⟩ := State.popHeads_keepsHolders (s := s) g (s.freeList g).count
  unfold State.popRecord
  dsimp -proj only
  split
  · exact ⟨hPop, hFree⟩
  · have hRebuilt := hPop.trans (State.rebuildFree_keepsHolders g)
    generalize (s.popHeads g (s.freeList g).count).1.rebuildFree g = u at hRebuilt ⊢
    exact ⟨⟨hRebuilt.desc, hRebuilt.flog, hRebuilt.held⟩, hFree⟩

/-- The cell of a record comes from the free ones. -/
theorem State.takeHead_keepsHolders (w die n : Nat) : KeepsHolders s (s.takeHead w die n).1 := by
  induction n generalizing s with
  | zero => exact .refl
  | succ n ih =>
    unfold State.takeHead
    generalize (if (s.usableGroups w die).isEmpty then 1 - die else die) = die'
    dsimp -proj only
    split
    · exact .refl
    · obtain ⟨hPop, hFree⟩ := State.popRecord_keepsHolders (s := { s with freeCount := s.freeCount + 1 })
        ((s.usableGroups w die').getD (Config.openStage s.freeCount % (s.usableGroups w die').length) 0)
      split
      · exact .of_freeCount (hPop.trans ih)
      · next c hc =>
        obtain ⟨hDesc, hLog, hHeld⟩ := hPop
        refine ⟨hDesc, hLog, fun k hAlloc => ?_⟩
        have hNe : k ≠ c := by rintro rfl; exact absurd (hAlloc.symm.trans (hFree _ hc)) (by decide)
        have hSame := State.link_setLink (s := (({ s with freeCount := s.freeCount + 1 } : State).popRecord
          ((s.usableGroups w die').getD (Config.openStage s.freeCount % (s.usableGroups w die').length) 0)).1) c k
        exact (congrArg (fun x : LinkWord => x.alloc = true ∧ x.refcnt = (s.link k).refcnt ∧ x.owner = (s.link k).owner)
          ((hSame _).trans (if_neg hNe))).mpr (hHeld k hAlloc)

theorem State.record_keepsHolders (src : Nat) (cls : FaultClass) (flags : Nat) : KeepsHolders s (s.record src cls flags) := by
  have hCell : KeepsHolders s s.recordCell.1 := State.takeHead_keepsHolders _ _ _
  unfold State.record
  dsimp -proj only
  split
  · exact .refl
  · split
    · exact .moves State.incSat_moves (by decide)
    · split
      · exact hCell.trans (.moves State.incSat_moves (by decide))
      · exact hCell.trans (.of_buf rfl)

theorem State.latchCore_keepsHolders (src : Nat) (cls : FaultClass) (detail : Nat) (live threshold safe : Bool) :
    KeepsHolders s (s.latchCore src cls detail live threshold safe) := by
  have hShown : KeepsHolders s (((s.setSource src (latched (s.source src) s cls detail live)).setBit 0x100004
      (16 + faultCode cls) true).takeFiring src) := .of_buf rfl
  unfold State.latchCore
  dsimp -proj only
  refine .trans ?_ (.moves State.irq_moves (by decide))
  split
  · exact hShown.trans (State.record_keepsHolders _ _ _)
  · exact hShown

/-- A class-S fault takes at most a free cell for its record. -/
theorem State.latchFault_s_keepsHolders (src detail : Nat) (live threshold : Bool) (hp : pipeOfSource src = none) :
    KeepsHolders s (s.latchFault src .s detail live threshold) := by
  have hLatch (b c : Bool) : KeepsHolders s (((s.setReacting b).latchCore src .s detail live threshold c).haltFor src) :=
    (KeepsHolders.of_buf (s := s) (t := s.setReacting b) rfl).trans
      ((State.latchCore_keepsHolders _ _ _ _ _ _).trans (.moves State.haltFor_moves (by decide)))
  unfold State.latchFault
  dsimp -proj only
  refine .trans ?_ (.moves State.setReacting_moves (by decide))
  split
  · exact hLatch _ _
  · exact (hLatch _ _).trans (.moves (State.decideFault_s_moves _ hp) (by decide))

/-! ### A report of the manager (R178, R199, R432) -/

/-- The source of a kind of the manager's faults. -/
def managerSource (kind : Nat) : Nat := srcChip 1 (16 + kind)

theorem pipeOfSource_manager {kind : Nat} (h : kind < 32) : pipeOfSource (managerSource kind) = none := by
  unfold pipeOfSource managerSource srcChip
  rw [show (0xF000 + (0x20 + 1) * 0x40 + (16 + kind)) / 0x40 % 64 = 33 by omega]
  rfl

theorem managerSource_ne_joint (kind : Nat) : managerSource kind ≠ srcChip 0 3 := by unfold managerSource srcChip; omega

theorem managerSource_inj {a b : Nat} (h : managerSource a = managerSource b) : a = b := by
  unfold managerSource srcChip at h
  omega

/-- The manager's fault log takes an entry, or shows its overflow (R199). -/
def State.logFault (s : State) (kind id : Nat) (h : Holder) : State :=
  if s.buf.flog.length < 64 then
    { s with buf := { s.buf with flog := s.buf.flog ++ [{ kind := kind, id := id, holder := h }] } }
  else s.setBit 0x800004 5 true

theorem State.bufFault_eq (kind id : Nat) (h : Holder) (cls : FaultClass) : s.bufFault kind id h cls =
    (s.logFault kind id h).latchFault (managerSource kind) cls (id + h.toNat * 2 ^ 24) := rfl

theorem State.logFault_moves {kind id : Nat} {h : Holder} : Moves [.regs, .buf] s (s.logFault kind id h) :=
  .ite (.buf (by decide) rfl .refl) (State.setBit_moves.mono (by decide))

theorem State.logFault_desc (kind id : Nat) (h : Holder) (d : Nat) : (s.logFault kind id h).desc d = s.desc d := by
  unfold State.logFault
  split <;> rfl

theorem State.logFault_link (kind id : Nat) (h : Holder) (c : Nat) : (s.logFault kind id h).link c = s.link c := by
  unfold State.logFault
  split <;> rfl

/-- From `s` to `t` the manager has reported a fault: its source shows it, and its log has it or shows the overflow. -/
structure Reported (kind id : Nat) (h : Holder) (s t : State) : Prop where
  cause : (t.source (managerSource kind)).cause = true
  cls : (t.source (managerSource kind)).cls = .s
  detail : (t.source (managerSource kind)).detail = BitVec.ofNat 64 (id + h.toNat * 2 ^ 24)
  logged : s.buf.flog.length < 64 → t.buf.flog = s.buf.flog ++ [{ kind := kind, id := id, holder := h }]
  overflow : 64 ≤ s.buf.flog.length → t.bit 0x800004 5 = true

section
variable {kind id : Nat} {h : Holder}

/-- The source of the manager shows its fault, and no other source changes. -/
theorem State.bufFault_source (hk : kind < 32) (cls : FaultClass) (x : Nat) (hx : x ≠ srcChip 0 3) :
    (s.bufFault kind id h cls).source x = if x = managerSource kind then
      latched ((s.logFault kind id h).source x) (s.logFault kind id h) cls (id + h.toNat * 2 ^ 24) false else s.source x := by
  rw [State.bufFault_eq, State.latchFault_source _ _ _ _ _ _ (.inl hx) (.inl (pipeOfSource_manager hk))]
  split
  · next hSame => rw [hSame]
  · exact State.source_moves State.logFault_moves (by decide) x

theorem State.bufFault_keepsHolders (hk : kind < 32) :
    KeepsHolders (s.logFault kind id h) (s.bufFault kind id h) := by
  rw [State.bufFault_eq]
  exact State.latchFault_s_keepsHolders _ _ _ _ (pipeOfSource_manager hk)

theorem State.bufFault_reported (hk : kind < 32) : Reported kind id h s (s.bufFault kind id h) := by
  have hSource : (s.bufFault kind id h).source (managerSource kind) = _ :=
    (State.bufFault_source hk .s _ (managerSource_ne_joint kind)).trans (if_pos rfl)
  refine ⟨by rw [hSource]; rfl, by rw [hSource]; rfl, by rw [hSource]; rfl, fun hRoom => ?_, fun hFull => ?_⟩
  · rw [(State.bufFault_keepsHolders hk).flog, State.logFault, if_pos hRoom]
  · rw [State.bufFault_eq, (State.latchFault_frame _ .s _ _ _ (by decide)).bit (by decide), State.logFault, if_neg (by omega)]
    exact State.bit_setBit_same _ _ _ _ (by decide)

theorem State.bufFault_desc (hk : kind < 32) (d : Nat) : (s.bufFault kind id h).desc d = s.desc d := by
  rw [State.desc, (State.bufFault_keepsHolders hk).desc]
  exact State.logFault_desc _ _ _ _

/-- An allocated cell goes through a fault of the manager with its count and owner. -/
theorem State.bufFault_held (hk : kind < 32) {c : Nat} (hAlloc : (s.link c).alloc = true) :
    ((s.bufFault kind id h).link c).refcnt = (s.link c).refcnt ∧ ((s.bufFault kind id h).link c).owner = (s.link c).owner := by
  have hHeld := (State.bufFault_keepsHolders (s := s) (id := id) (h := h) hk).held c
  rw [State.logFault_link] at hHeld
  exact (hHeld hAlloc).2

end

/-! ### The quarantine of a frame (R179) -/

/-- From `s` to `t` the buffer pool is as it was, the bytes of cells apart, and of the registers only PIPE_STATUS, whose bit is the overflow of the
loss log, may have changed. -/
structure KeepsPool (s t : State) : Prop where
  buf : StatePart.buf.same s t
  reg : ∀ o, o ≠ 0x404 → t.reg o = s.reg o

theorem KeepsPool.desc (h : KeepsPool s t) (d : Nat) : t.desc d = s.desc d :=
  congrArg (Tbl.get descDefault · d) (congrArg BufState.desc h.buf :)

theorem KeepsPool.link (h : KeepsPool s t) (c : Nat) : t.link c = s.link c :=
  congrArg (Tbl.get linkDefault · c) (congrArg BufState.link h.buf :)

theorem KeepsPool.flog (h : KeepsPool s t) : t.buf.flog = s.buf.flog := (congrArg BufState.flog h.buf :)

theorem KeepsPool.trans (h : KeepsPool s t) (k : KeepsPool t u) : KeepsPool s u :=
  ⟨k.buf.trans h.buf, fun o ho => (k.reg o ho).trans (h.reg o ho)⟩

theorem KeepsPool.moves {ps : List StatePart} (h : Moves ps s t) (hb : .buf ∉ ps) (hr : .regs ∉ ps) : KeepsPool s t :=
  ⟨h.same .buf hb, fun o _ => by rw [State.reg, h.same .regs hr, State.reg]⟩

theorem KeepsPool.refl : KeepsPool s s := ⟨rfl, fun _ _ => rfl⟩

theorem KeepsPool.fold {α : Type} {f : State → α → State} {l : List α} (h : ∀ s a, KeepsPool s (f s a)) :
    KeepsPool s (l.foldl f s) :=
  List.foldlRecOn (motive := fun t => KeepsPool s t) _ _ .refl (fun _ ht a _ => ht.trans (h _ a))

theorem State.lose_keepsPool (d egress kind : Nat) : KeepsPool s (s.lose d egress kind) := by
  have hLog {y : State} {k : Nat} : KeepsPool y (y.logLoss k d egress) := by
    unfold State.logLoss
    dsimp -proj only
    split
    · exact ⟨rfl, fun _ _ => rfl⟩
    · exact ⟨rfl, fun _ ho => State.reg_setFld_ne _ _ _ _ _ _ ho⟩
  unfold State.lose
  split
  · exact (KeepsPool.moves State.outcome_moves (by decide) (by decide)).trans hLog
  · exact .refl

theorem State.quarantineTx_keepsPool (d : Nat) : KeepsPool s (s.quarantineTx d) := by
  have hStop {y : State} {p : Nat} {t : TxCopy} : KeepsPool y ((y.stomp p t).setTx p none) :=
    (KeepsPool.moves State.stomp_moves (by decide) (by decide)).trans (.moves State.setTx_moves (by decide) (by decide))
  refine .fold fun s p => ?_
  split
  · split
    · exact .refl
    · split
      · exact hStop
      · exact hStop.trans ((KeepsPool.moves State.freeEntry_moves (by decide) (by decide)).trans (State.lose_keepsPool _ _ _))
  · exact .refl

theorem State.quarantineVoq_keepsPool (d : Nat) : KeepsPool s (s.quarantineVoq d) :=
  .fold fun _ _ => (KeepsPool.moves State.setVoq_moves (by decide) (by decide)).trans (.fold fun _ _ => State.lose_keepsPool _ _ _)

theorem State.quarantineRetry_keepsPool (d : Nat) : KeepsPool s (s.quarantineRetry d) :=
  .fold fun _ _ => (KeepsPool.moves State.setVia_moves (by decide) (by decide)).trans (.fold fun _ _ => State.lose_keepsPool _ _ _)

/-- The copies of a frame end LOST, wherever they wait. -/
def State.loseCopies (s : State) (d : Nat) : State :=
  ((((((s.unqueueFrame d).2.foldl (fun s e => s.lose d (e.1 / 16) 3) (s.unqueueFrame d).1).quarantineTx d).dropEgressOf
    d).quarantineVoq d).quarantineRetry d).discardCopies (fun c => c.desc = d)

theorem State.quarantine_eq (d : Nat) : s.quarantine d =
    if (s.desc d).quar then s else (s.setDesc d { s.desc d with quar := true }).loseCopies d := rfl

theorem State.loseCopies_keepsPool (d : Nat) : KeepsPool s (s.loseCopies d) := by
  have hQueues : KeepsPool s ((s.unqueueFrame d).2.foldl (fun s e => s.lose d (e.1 / 16) 3) (s.unqueueFrame d).1) :=
    (KeepsPool.moves State.unqueueFrame_moves (by decide) (by decide)).trans (.fold fun _ _ => State.lose_keepsPool _ _ _)
  exact ((((hQueues.trans (State.quarantineTx_keepsPool d)).trans (.moves State.dropEgressOf_moves (by decide)
    (by decide))).trans (State.quarantineVoq_keepsPool d)).trans (State.quarantineRetry_keepsPool d)).trans
      (.moves State.discardCopies_moves (by decide) (by decide))

theorem State.quarantine_quar (d : Nat) : ((s.quarantine d).desc d).quar = true := by
  rw [State.quarantine_eq]
  split
  · next h => exact h
  · rw [(State.loseCopies_keepsPool d).desc]
    exact congrArg Desc.quar ((State.desc_setDesc _ _ _).trans (if_pos rfl))

theorem State.quarantine_flog (d : Nat) : (s.quarantine d).buf.flog = s.buf.flog := by
  rw [State.quarantine_eq]
  split
  · rfl
  · exact (State.loseCopies_keepsPool d).flog

theorem State.quarantine_link (d c : Nat) : (s.quarantine d).link c = s.link c := by
  rw [State.quarantine_eq]
  split
  · rfl
  · exact (State.loseCopies_keepsPool d).link c

theorem State.quarantine_bit (d i : Nat) {o : Nat} (ho : o ≠ 0x404) : (s.quarantine d).bit o i = s.bit o i := by
  rw [State.quarantine_eq]
  split
  · rfl
  · rw [State.bit, State.fld, (State.loseCopies_keepsPool d).reg o ho]
    rfl

theorem State.quarantine_source (d x : Nat) : (s.quarantine d).source x = s.source x :=
  State.source_moves State.quarantine_moves (by decide) x

/-- A report stands when the frame is quarantined. -/
theorem Reported.quarantine {kind id : Nat} {h : Holder} (hReported : Reported kind id h s t) (d : Nat) :
    Reported kind id h s (t.quarantine d) := by
  obtain ⟨hCause, hCls, hDetail, hLogged, hOverflow⟩ := hReported
  refine ⟨?_, ?_, ?_, fun hRoom => ?_, fun hFull => ?_⟩
  · rw [State.quarantine_source, hCause]
  · rw [State.quarantine_source, hCls]
  · rw [State.quarantine_source, hDetail]
  · rw [State.quarantine_flog, hLogged hRoom]
  · rw [State.quarantine_bit _ _ (by decide), hOverflow hFull]

end Sys2Proof.Machine
end

section
/-! PROOFS. Refused operations of holders, and what the reactions to a class-S fault leave of the decision logic (R26, R178,
R179). -/

namespace Sys2Proof.Machine

variable {s t u : State}

/-! ### A refused operation (R178, R179) -/

section
variable {d kind : Nat} {h : Holder} {add : List Holder} {dest : Option Nat}

theorem State.holderOp_runs (hRuns : s.bufferPaused = false) : s.holderOp d h add dest = s.holderNow d h add dest .good :=
  if_neg (by simp [hRuns])

/-- An operation that names a free descriptor is reported, and nothing more. -/
theorem State.holderOp_free (hRuns : s.bufferPaused = false) (hFree : (s.desc d).alloc = false) :
    s.holderOp d h add dest = (s.bufFault 6 d h, false) := by
  rw [State.holderOp_runs hRuns]
  exact if_pos (by simp [State.walkCorrected, State.walkSource, hFree])

/-- A refused operation is reported, and its frame is quarantined. -/
theorem State.holderOp_refused (hRuns : s.bufferPaused = false) (hAlloc : (s.desc d).alloc = true)
    (hQuar : (s.desc d).quar = false) (hRefused : s.opRefused d h add.length .good = some kind) :
    s.holderOp d h add dest = ((s.bufFault kind (s.desc d).first h).quarantine d, false) := by
  rw [State.holderOp_runs hRuns]
  unfold State.holderNow
  rw [show s.walkCorrected d .good = s from rfl]
  dsimp only
  rw [if_neg (by simp [hAlloc]), if_neg (by simp [hQuar]), hRefused]

/-- The manager refuses an operation: the first cell is free (kind 2), the count would pass 255 (kind 3), or its one holder is
another (kind 1). -/
def State.Refuses (s : State) (d kind : Nat) (h : Holder) (added : Nat) : Prop :=
  (kind = 2 ∧ (s.link (s.desc d).first).alloc = false) ∨
  (kind = 3 ∧ (s.link (s.desc d).first).alloc = true ∧ 256 < (s.link (s.desc d).first).refcnt + added) ∨
  (kind = 1 ∧ (s.link (s.desc d).first).alloc = true ∧ (s.link (s.desc d).first).refcnt = 1 ∧
    (s.link (s.desc d).first).owner ≠ h ∧ added < 256)

theorem State.Refuses.opRefused {added : Nat} (hRefuses : s.Refuses d kind h added) :
    s.opRefused d h added .good = some kind ∧ kind < 32 := by
  unfold State.opRefused
  dsimp only
  rcases hRefuses with ⟨rfl, hFree⟩ | ⟨rfl, hAlloc, hCount⟩ | ⟨rfl, hAlloc, hOne, hOther, hRoom⟩
  · exact ⟨by simp [hFree], by decide⟩
  · exact ⟨by simp [hAlloc, hCount], by decide⟩
  · exact ⟨by rw [hOne]; simp [hAlloc, hOther]; omega, by decide⟩

/-- What a refused operation leaves: the report, the frame in quarantine, and an allocated first cell with its holders. -/
theorem State.holderOp_refused_spec (hRuns : s.bufferPaused = false) (hAlloc : (s.desc d).alloc = true)
    (hQuar : (s.desc d).quar = false) (hRefuses : s.Refuses d kind h add.length) :
    Reported kind (s.desc d).first h s (s.holderOp d h add dest).1 ∧ ((s.holderOp d h add dest).1.desc d).quar = true ∧
    ((s.link (s.desc d).first).alloc = true →
      ((s.holderOp d h add dest).1.link (s.desc d).first).refcnt = (s.link (s.desc d).first).refcnt ∧
      ((s.holderOp d h add dest).1.link (s.desc d).first).owner = (s.link (s.desc d).first).owner) := by
  obtain ⟨hRefused, hKind⟩ := hRefuses.opRefused
  rw [State.holderOp_refused hRuns hAlloc hQuar hRefused]
  refine ⟨(State.bufFault_reported hKind).quarantine d, State.quarantine_quar d, fun hFirst => ?_⟩
  rw [State.quarantine_link]
  exact State.bufFault_held hKind hFirst

end

/-! ### What the reactions to a class-S fault leave of the decision logic (R26, R441, R456) -/

/-- From `s` to `t` the mode and the pair of the decision logic are as they were, and a firing that has shown does not wait
again. -/
structure KeepsDecision (s t : State) : Prop where
  mode : t.chip.mode = s.chip.mode
  coll : t.chip.lockColl = s.chip.lockColl
  shown : s.fc.injNext = none → t.fc.injNext = none

theorem KeepsDecision.refl : KeepsDecision s s := ⟨rfl, rfl, id⟩

theorem KeepsDecision.trans (h : KeepsDecision s t) (k : KeepsDecision t u) : KeepsDecision s u :=
  ⟨k.mode.trans h.mode, k.coll.trans h.coll, k.shown ∘ h.shown⟩

theorem KeepsDecision.of_firing (h : KeepsFiring s t) (hChip : t.chip = s.chip) : KeepsDecision s t :=
  ⟨by rw [hChip], by rw [hChip], h.shown⟩

theorem KeepsDecision.moves {ps : List StatePart} (h : Moves ps s t) (hc : .chip ∉ ps) (hf : .fc ∉ ps) : KeepsDecision s t :=
  .of_firing (.moves h hf) (h.same .chip hc)

theorem KeepsDecision.fold {α : Type} {f : State → α → State} {l : List α} (h : ∀ s a, KeepsDecision s (f s a)) :
    KeepsDecision s (l.foldl f s) :=
  List.foldlRecOn (motive := fun t => KeepsDecision s t) _ _ .refl (fun _ ht a _ => ht.trans (h _ a))

theorem State.enterHold_keepsDecision (g : Nat) : KeepsDecision s (s.enterHold g) := by
  have hHeld {y : State} {l : List Nat} : KeepsDecision y { y with chip := { y.chip with hold := l } } := ⟨rfl, rfl, id⟩
  have hXoff {y : State} : KeepsDecision y ((groupPorts g).foldl (fun s p => s.xoff p (List.range 8)) y) :=
    .fold fun _ _ => .moves State.xoff_moves (by decide) (by decide)
  unfold State.enterHold
  split
  · exact .refl
  · exact hHeld.trans hXoff

theorem State.latchCore_keepsDecision (src : Nat) (cls : FaultClass) (detail : Nat) (live threshold safe : Bool) :
    KeepsDecision s (s.latchCore src cls detail live threshold safe) :=
  .of_firing (State.latchCore_keepsFiring _ _ _ _ _ _) (State.latchCore_chip _ _ _ _ _ _)

theorem State.raiseErrS_keepsDecision : KeepsDecision s s.raiseErrS := .of_firing State.raiseErrS_keepsFiring rfl

theorem State.latchService_keepsDecision (src detail : Nat) : KeepsDecision s (s.latchService src detail) :=
  (((State.latchCore_keepsDecision _ _ _ _ _ _).trans (.moves State.haltFor_moves (by decide) (by decide))).trans
    State.raiseErrS_keepsDecision).trans (.moves State.pierPropagate_moves (by decide) (by decide))

theorem State.holdGroup_keepsDecision (span : Nat) (pass : Pass) (g pipe detail : Nat) :
    KeepsDecision s (s.holdGroup span pass g pipe detail) := by
  unfold State.holdGroup
  refine .trans ?_ (State.latchService_keepsDecision _ _)
  cases pass
  · exact .trans (.moves State.setPass_moves (by decide) (by decide)) (State.enterHold_keepsDecision _)
  · exact .moves State.setPass_moves (by decide) (by decide)

/-- The loss of a pipeline raises faults of class S alone, which neither decide nor fire (R257 to R260). -/
theorem State.pipelineFaulty_keepsDecision (span : Nat) (pass : Pass) (pipe detail : Nat) :
    KeepsDecision s (s.pipelineFaulty span pass pipe detail) := by
  have hParty : KeepsDecision s (s.fence (partyPipe span pass pipe)) := ⟨rfl, rfl, id⟩
  have hFence : KeepsDecision s (((s.fence (partyPipe span pass pipe)).endResolution span pass).unshadow span pass) :=
    hParty.trans ((KeepsDecision.moves State.endResolution_moves (by decide) (by decide)).trans
      (.moves State.unshadow_moves (by decide) (by decide)))
  have hPass {y : State} {x : PassState} : KeepsDecision y (y.setPass span pass x) :=
    .moves State.setPass_moves (by decide) (by decide)
  unfold State.pipelineFaulty
  split
  · exact .refl
  · dsimp -proj only
    generalize ((s.fence (partyPipe span pass pipe)).endResolution span pass).unshadow span pass = y at hFence ⊢
    refine hFence.trans ?_
    split
    · have hDegrade {x : PassState} : KeepsDecision y ((y.setPass span pass x).degrade span) :=
        hPass.trans (State.latchService_keepsDecision _ _)
      split
      · exact hDegrade.trans (State.holdGroup_keepsDecision _ _ _ _ _)
      · exact hDegrade
    · split
      · exact hPass
      · rename_i g _
        have hDiscard {x : PassState} : KeepsDecision y ((y.setPass span pass x).discardPipe (span * 4 + g) pass pipe) :=
          hPass.trans (.moves State.discardPipe_moves (by decide) (by decide))
        have hSwitch {z : State} (hz : KeepsDecision y z) {c : Prop} [Decidable c] {x : PassState} : KeepsDecision y
            (if c then z.setPass span pass x else z.holdGroup span pass g pipe detail) := by
          split
          · exact hz.trans hPass
          · exact hz.trans (State.holdGroup_keepsDecision _ _ _ _ _)
        cases pass
        · exact hSwitch (hDiscard.trans (.moves State.revokeLeases_moves (by decide) (by decide)))
        · exact hSwitch hDiscard

theorem State.decideFault_s_keepsDecision (src : Nat) : KeepsDecision s (s.decideFault src .s) := by
  have hPins : KeepsDecision s (if srcChip 0x13 4 ≤ src && src ≤ srcChip 0x13 7 then s.raiseErrS
      else s.raiseErrS.pierPropagate src .s) := by
    split
    · exact State.raiseErrS_keepsDecision
    · exact State.raiseErrS_keepsDecision.trans (.moves State.pierPropagate_moves (by decide) (by decide))
  unfold State.decideFault State.react
  split
  · dsimp -proj only
    split
    · exact .refl
    · split
      · exact hPins.trans (State.pipelineFaulty_keepsDecision _ _ _ _)
      · exact hPins
  · exact ⟨rfl, rfl, id⟩

/-- A class-S fault leaves the mode and the decision logic, whatever it does to a pipeline. -/
theorem State.latchFault_s_keepsDecision (src detail : Nat) (live threshold : Bool) :
    KeepsDecision s (s.latchFault src .s detail live threshold) := by
  have hReacting {y : State} {b : Bool} : KeepsDecision y (y.setReacting b) := ⟨rfl, rfl, id⟩
  have hLatch (b c : Bool) : KeepsDecision s (((s.setReacting b).latchCore src .s detail live threshold c).haltFor src) :=
    (hReacting.trans (State.latchCore_keepsDecision _ _ _ _ _ _)).trans (.moves State.haltFor_moves (by decide) (by decide))
  unfold State.latchFault
  dsimp -proj only
  refine .trans ?_ hReacting
  split
  · exact hLatch _ _
  · exact (hLatch _ _).trans (State.decideFault_s_keepsDecision _)

theorem State.bufFault_keepsDecision (kind id : Nat) (h : Holder) : KeepsDecision s (s.bufFault kind id h) := by
  rw [State.bufFault_eq]
  exact (KeepsDecision.moves State.logFault_moves (by decide) (by decide)).trans (State.latchFault_s_keepsDecision _ _ _ _)

/-! ### Operations of holders and the release of results leave the decision logic -/

theorem State.quarantine_keepsDecision (d : Nat) : KeepsDecision s (s.quarantine d) :=
  .moves State.quarantine_moves (by decide) (by decide)

theorem State.freeDescriptor_keepsDecision (d : Nat) : KeepsDecision s (s.freeDescriptor d) := by
  have hFree {y : State} {l : List Nat} : KeepsDecision y { y with buf := { y.buf with freeDesc := l } } := ⟨rfl, rfl, id⟩
  unfold State.freeDescriptor
  split
  · exact State.bufFault_keepsDecision _ _ _
  · dsimp -proj only
    exact ((((KeepsDecision.moves State.setDesc_moves (by decide) (by decide)).trans
      (.moves State.setLedger_moves (by decide) (by decide))).trans (.moves State.setInfo_moves (by decide) (by decide))).trans
      hFree).trans (.moves State.checkDrained_moves (by decide) (by decide))

theorem State.walked_keepsDecision (d : Nat) (h : Holder) (count : Nat) (r : Walk) :
    KeepsDecision r.st (State.walked d h count r).1 := by
  have hCharge {n : Nat} : KeepsDecision r.st (r.st.returnCharge d n) := .moves State.returnCharge_moves (by decide) (by decide)
  unfold State.walked
  split
  · exact ((KeepsDecision.moves State.returnCells_moves (by decide) (by decide)).trans
      (State.bufFault_keepsDecision _ _ _)).trans (State.quarantine_keepsDecision d)
  · split
    · dsimp -proj only
      split
      · exact hCharge.trans (State.freeDescriptor_keepsDecision d)
      · exact hCharge.trans ((KeepsDecision.moves State.setInfo_moves (by decide) (by decide)).trans
          (.moves State.setDesc_moves (by decide) (by decide)))
    · exact .refl

theorem State.holderWalk_keepsDecision (d : Nat) (h : Holder) (add : List Holder) (dest bad : Option Nat) :
    KeepsDecision s (s.holderWalk d h add dest bad).1 := by
  unfold State.holderWalk
  dsimp -proj only
  refine .trans ?_ (State.walked_keepsDecision _ _ _ _)
  refine .trans ?_ (.moves walkCells_moves (by decide) (by decide))
  split
  · exact .moves State.setDesc_moves (by decide) (by decide)
  · exact .refl

theorem State.holderOp_keepsDecision (d : Nat) (h : Holder) (add : List Holder) (dest : Option Nat) :
    KeepsDecision s (s.holderOp d h add dest).1 := by
  unfold State.holderOp
  split
  · exact ⟨rfl, rfl, id⟩
  · unfold State.holderNow
    rw [show s.walkCorrected d .good = s from rfl]
    dsimp -proj only
    split
    · exact State.bufFault_keepsDecision _ _ _
    · split
      · exact .refl
      · split
        · exact (State.bufFault_keepsDecision _ _ _).trans (State.quarantine_keepsDecision d)
        · exact State.holderWalk_keepsDecision _ _ _ _ _

theorem State.release_keepsDecision (d : Nat) (h : Holder) : KeepsDecision s (s.release d h) :=
  State.holderOp_keepsDecision _ _ _ _

/-- The scheduler of a queue reports a fault of the queue or of a group, which it names. -/
theorem State.schedFault_keepsDecision (q : Nat) (names : List Nat) :
    KeepsDecision s ((s.latchFault (schedSource q) .s).nameFault (schedSource q) names) :=
  (State.latchFault_s_keepsDecision _ _ _ _).trans ⟨rfl, rfl, id⟩

theorem State.placeCopy_keepsDecision (q : Nat) (e : QEntry) : KeepsDecision s (s.placeCopy q e) := by
  have hCount {off : Nat} : KeepsDecision s (s.count off 1) := .moves State.count_moves (by decide) (by decide)
  have hOutcome {y : State} : KeepsDecision y (y.outcome e.desc 4) := .moves State.outcome_moves (by decide) (by decide)
  unfold State.placeCopy
  dsimp -proj only
  split
  · exact (hCount.trans hOutcome).trans (State.release_keepsDecision _ _)
  · exact ((hCount.trans (State.schedFault_keepsDecision _ _)).trans hOutcome).trans (State.release_keepsDecision _ _)
  · split
    · exact (hCount.trans (.moves State.lose_moves (by decide) (by decide))).trans (State.release_keepsDecision _ _)
    · exact .moves State.placeEntry_moves (by decide) (by decide)

theorem State.voqRelease_keepsDecision (v n : Nat) : KeepsDecision s (s.voqRelease v n) := by
  induction n generalizing s with
  | zero => exact .refl
  | succ n ih =>
    unfold State.voqRelease
    dsimp -proj only
    split
    · exact .refl
    · split
      · exact .refl
      · exact ((KeepsDecision.moves State.setVoq_moves (by decide) (by decide)).trans (State.placeCopy_keepsDecision _ _)).trans ih

theorem State.voqJoin_keepsDecision (v q : Nat) (e : QEntry) : KeepsDecision s (s.voqJoin v q e) := by
  have hRun {y : State} : KeepsDecision y (y.voqRun v) :=
    (KeepsDecision.moves State.voqRequest_moves (by decide) (by decide)).trans (State.voqRelease_keepsDecision _ _)
  unfold State.voqJoin
  dsimp -proj only
  split
  · exact ((KeepsDecision.moves State.outcome_moves (by decide) (by decide)).trans
      (.moves State.count_moves (by decide) (by decide))).trans (State.release_keepsDecision _ _)
  · exact (KeepsDecision.moves State.setVoq_moves (by decide) (by decide)).trans hRun

theorem State.mcEntries_keepsDecision (d tag : Nat) (qs : List Nat) : KeepsDecision s (s.mcEntries d tag qs).1 := by
  have hOutcome {y : State} : KeepsDecision y (y.outcome d 4) := .moves State.outcome_moves (by decide) (by decide)
  have hPool {y : State} : KeepsDecision y ((y.incSat 0x800018 31 0 1).count (cChip 6) 1) :=
    (KeepsDecision.moves State.incSat_moves (by decide) (by decide)).trans (.moves State.count_moves (by decide) (by decide))
  have hIndex {y z : State} {i : Option Nat} (h : y.takeIndex d = (z, i)) : KeepsDecision y z :=
    .moves (State.takeIndex_moves_eq h) (by decide) (by decide)
  refine List.foldlRecOn (motive := fun a : State × List (Nat × QEntry) × Nat => KeepsDecision s a.1) _ _ .refl fun a ha q _ => ?_
  obtain ⟨y, es, used⟩ := a
  refine KeepsDecision.trans ha ?_
  dsimp -proj only
  split
  · split
    · exact (hPool.trans (State.schedFault_keepsDecision _ _)).trans hOutcome
    · exact hPool.trans hOutcome
  · split
    · next h => exact (hIndex h).trans hOutcome
    · next h => exact hIndex h

theorem State.handOver_keepsDecision (r : Result) (h : Holder) (entries : List (Nat × QEntry)) (extra : List Holder) :
    KeepsDecision s (s.handOver r h entries extra) := by
  have hPlaced {y : State} : KeepsDecision y (y.enqueueAll r entries) := by
    refine .fold fun y e => ?_
    split
    · exact State.voqJoin_keepsDecision _ _ _
    · exact State.placeCopy_keepsDecision _ _
  have hEnd (y : State × Bool) (hy : KeepsDecision s y.1) : KeepsDecision s
      (if y.2 then y.1.enqueueAll r entries else entries.foldl (fun s e => s.lose r.desc (e.1 / 16) 3) y.1) := by
    split
    · exact hy.trans hPlaced
    · exact hy.trans (.fold fun _ _ => .moves State.lose_moves (by decide) (by decide))
  exact hEnd _ (State.holderOp_keepsDecision _ _ _ _)

theorem State.releaseResult_keepsDecision (pair : Nat) (r : Result) : KeepsDecision s (s.releaseResult pair r) := by
  have hEntries {y : State} : KeepsDecision y (y.makeEntries r).1 := by
    unfold State.makeEntries
    split
    · exact .refl
    · split
      · exact State.mcEntries_keepsDecision _ _ _
      · exact .moves State.oneEntry_moves (by decide) (by decide)
  exact ((((KeepsDecision.moves State.markReleased_moves (by decide) (by decide)).trans hEntries).trans
    (.moves State.makeCopies_moves (by decide) (by decide))).trans
      (.moves State.countResultDrop_moves (by decide) (by decide))).trans (State.handOver_keepsDecision _ _ _ _)

theorem State.resultRelease_keepsDecision (pair : Nat) : KeepsDecision s (s.resultRelease pair) := by
  have hOrder {y : State} {x : PairOrder} : KeepsDecision y (y.setOrder pair x) :=
    .moves State.setOrder_moves (by decide) (by decide)
  have hUse {y : State} {g n : Nat} : KeepsDecision y (y.setReorderUse g n) :=
    .moves State.setReorderUse_moves (by decide) (by decide)
  unfold State.resultRelease
  dsimp -proj only
  split
  · exact ((hOrder.trans hUse).trans (.moves State.incSat_moves (by decide) (by decide))).trans
      (.moves State.count_moves (by decide) (by decide))
  · split
    · exact .refl
    · exact hOrder.trans (.moves State.advanceRelease_moves (by decide) (by decide))
    · split
      · exact (hOrder.trans hUse).trans (State.releaseResult_keepsDecision _ _)
      · exact .refl

/-- A copy that is discarded leaves the mode and the decision logic, even when its sequence lets a host ring go on (R30,
R183). -/
theorem State.dropCopy_keepsDecision (d : Nat) (h : Holder) (kind : Nat) : KeepsDecision s (s.dropCopy d h kind) := by
  have hLose {y : State} {e : Nat} : KeepsDecision y (y.lose d e kind) := .moves State.lose_moves (by decide) (by decide)
  have hHeld {y : State} {pair g n : Nat} {o : PairOrder} : KeepsDecision y ((y.setOrder pair o).setReorderUse g n) :=
    (KeepsDecision.moves State.setOrder_moves (by decide) (by decide)).trans
      (.moves State.setReorderUse_moves (by decide) (by decide))
  have hVoid {y : State} : KeepsDecision y (y.voidSeq d) := by
    unfold State.voidSeq
    dsimp -proj only
    split
    · exact .refl
    · split
      · exact hHeld.trans (.fold fun _ _ => State.resultRelease_keepsDecision _)
      · exact hHeld.trans (.moves State.count_moves (by decide) (by decide))
  have hCounted {n : Nat} : KeepsDecision s { s with freeCount := n } := ⟨rfl, rfl, id⟩
  unfold State.dropCopy
  dsimp -proj only
  split
  · exact (KeepsDecision.moves State.dropQueueCopy_moves (by decide) (by decide)).trans hLose
  · exact .moves State.discardCopies_moves (by decide) (by decide)
  · exact (KeepsDecision.moves State.dropRetry_moves (by decide) (by decide)).trans hLose
  · exact ((hCounted.trans hVoid).trans (.moves State.forgetIngress_moves (by decide) (by decide))).trans hLose

end Sys2Proof.Machine
end

section
/-! PROOFS. CELL_READ: what the guard of a cell that is read decides (R182, R183). -/

namespace Sys2Proof.Machine

variable {s t : State}

/-! ### An operation of a holder reports kinds 1 to 6 alone (R178) -/

/-- A source of none of the faults that an operation of a holder can raise. -/
structure SparedByHolders (x : Nat) : Prop where
  joint : x ≠ srcChip 0 3
  kinds : ∀ kind ≤ 6, x ≠ managerSource kind

theorem sparedByHolders_manager {kind : Nat} (h : 6 < kind) : SparedByHolders (managerSource kind) :=
  ⟨managerSource_ne_joint kind, fun k hk hSame => by have := managerSource_inj hSame; omega⟩

theorem State.opRefused_le {d kind added : Nat} {h : Holder} {w : WalkCheck} (hRefused : s.opRefused d h added w = some kind) :
    kind ≤ 6 := by
  unfold State.opRefused at hRefused
  dsimp only at hRefused
  repeat' split at hRefused
  all_goals cases hRefused <;> decide

section
variable {x : Nat} (hx : SparedByHolders x)
include hx

theorem SparedByHolders.bufFault {kind : Nat} (hk : kind ≤ 6) (id : Nat) (h : Holder) :
    (s.bufFault kind id h).source x = s.source x :=
  (State.bufFault_source (by omega) .s x hx.joint).trans (if_neg (hx.kinds kind hk))

theorem SparedByHolders.freeDescriptor (d : Nat) : (s.freeDescriptor d).source x = s.source x := by
  unfold State.freeDescriptor
  split
  · exact hx.bufFault (by decide) _ _
  · exact State.source_moves State.checkDrained_moves (by decide) x

theorem SparedByHolders.walked (d : Nat) (h : Holder) (count : Nat) (r : Walk) :
    (State.walked d h count r).1.source x = r.st.source x := by
  unfold State.walked
  split
  · rw [State.quarantine_source, hx.bufFault (by decide), State.source_moves State.returnCells_moves (by decide)]
  · split
    · dsimp -proj only
      split
      · rw [hx.freeDescriptor, State.source_moves State.returnCharge_moves (by decide)]
      · exact State.source_moves State.returnCharge_moves (by decide) x
    · rfl

theorem SparedByHolders.holderWalk (d : Nat) (h : Holder) (add : List Holder) (dest bad : Option Nat) :
    (s.holderWalk d h add dest bad).1.source x = s.source x := by
  unfold State.holderWalk
  dsimp -proj only
  rw [hx.walked, State.source_moves walkCells_moves (by decide)]
  split <;> rfl

theorem SparedByHolders.holderOp (d : Nat) (h : Holder) (add : List Holder) (dest : Option Nat) :
    (s.holderOp d h add dest).1.source x = s.source x := by
  unfold State.holderOp
  split
  · rfl
  · unfold State.holderNow
    rw [show s.walkCorrected d .good = s from rfl]
    dsimp -proj only
    split
    · exact hx.bufFault (by decide) _ _
    · split
      · rfl
      · split
        · next hRefused =>
          rw [State.quarantine_source, hx.bufFault (State.opRefused_le hRefused)]
        · exact hx.holderWalk _ _ _ _ _

end

/-! ### A failed guard (R183) -/

section
variable {d c : Nat} {h : Holder}

/-- The manager remembers the time of a MISDIRECT. -/
def State.misdirected (s : State) : State := { s with buf := { s.buf with misdirect := some s.now } }

theorem State.guardFault_misdirect : s.guardFault d c h false =
    ((s.misdirected.dropCopy d h 2).bufFault 7 c h s.misdirectClass).quarantine d := rfl

theorem State.guardFault_loss : s.guardFault d c h true = ((s.dropCopy d h 1).bufFault 8 c h).release d h := rfl

theorem State.misdirectClass_eq : s.misdirectClass =
    if s.buf.misdirect.any (fun m => decide (s.now ≤ m + 1000000000)) then .d else .s := by
  unfold State.misdirectClass
  cases s.buf.misdirect with
  | none => rfl
  | some m => simp

/-- A MISDIRECT is latched with its class, and the frame is quarantined. -/
theorem State.guardFault_misdirect_spec :
    ((s.guardFault d c h false).source (managerSource 7)).cause = true ∧ ((s.guardFault d c h false).desc d).quar = true ∧
    ((s.guardFault d c h false).source (managerSource 7)).cls = s.misdirectClass := by
  have hSource := (State.bufFault_source (s := s.misdirected.dropCopy d h 2) (id := c) (h := h) (kind := 7) (by decide)
    s.misdirectClass _ (managerSource_ne_joint 7)).trans (if_pos rfl)
  rw [State.guardFault_misdirect, State.quarantine_source, hSource]
  exact ⟨rfl, State.quarantine_quar d, rfl⟩

/-- A MISDIRECT of class D enters the safe state. -/
theorem State.guardFault_safe (hClass : s.misdirectClass = .d) (hColl : s.chip.lockColl.phase = .paired)
    (hMode : s.chip.mode ≠ .off) (hShown : s.fc.injNext = none) : (s.guardFault d c h false).chip.mode = .safe := by
  have hStart : KeepsDecision s s.misdirected := ⟨rfl, rfl, id⟩
  have hKept := (hStart.trans (State.dropCopy_keepsDecision d h 2)).trans
    (.moves (State.logFault_moves (kind := 7) (id := c) (h := h)) (by decide) (by decide))
  rw [State.guardFault_misdirect, State.quarantine_moves.same .chip (by decide), State.bufFault_eq, hClass]
  exact State.latchFault_safe _ _ _ _ (by rw [hKept.mode]; exact hMode) (by rw [hKept.coll]; exact hColl)
    (.inl (by rw [hKept.shown hShown]; exact nofun))

/-- A DATA_LOSS is latched with class S, whatever the release of the copy then reports. -/
theorem State.guardFault_loss_spec : ((s.guardFault d c h true).source (managerSource 8)).cause = true ∧
    ((s.guardFault d c h true).source (managerSource 8)).cls = .s := by
  have hReported := State.bufFault_reported (s := s.dropCopy d h 1) (id := c) (h := h) (kind := 8) (by decide)
  rw [State.guardFault_loss, State.release, (sparedByHolders_manager (by decide)).holderOp]
  exact ⟨hReported.cause, hReported.cls⟩

end

/-! ### The command (R182) -/

theorem State.injects_none (hShown : s.fc.injNext = none) (src : Nat) : s.injects src = none :=
  if_neg (by simp [hShown])

theorem State.checkedRead_none (hShown : s.fc.injNext = none) (src : Nat) (found : ReadCheck) :
    s.checkedRead src found = found := by
  rw [State.checkedRead, State.injects_none hShown]

theorem State.checkedWalk_none (hShown : s.fc.injNext = none) (d : Nat) (w : WalkCheck) : s.checkedWalk d w = w := by
  have hFind : (List.range (s.cellsOf d).length).find? (fun i =>
      (s.injects (srcChip 0x0B ((s.cellsOf d).getD i 0 / 2 ^ 20))).isSome) = none :=
    List.find?_eq_none.mpr fun i _ => by simp [State.injects_none hShown]
  rw [State.checkedWalk, State.injects_none hShown]
  dsimp only
  rw [hFind]

/-- One corrected error more: its time comes first among those of the window. -/
theorem State.corrected_one (src : Nat) : (s.corrected src 1).corrections src =
    (s.now :: (s.corrections src).filter (fun x => decide (s.now < x + (correctedRule src).2))).take
      ((correctedRule src).1 + 1) := by
  rw [State.corrected_corrections, if_pos rfl, Nat.min_eq_left (by omega)]
  rfl

/-- Cell `i` of a frame. -/
def State.cellAt (s : State) (d i : Nat) : Nat := (s.cellsOf d).getD i 0

/-- The guard of cell `i` of a frame fails for reader `h` of the bytes that the read path returns. -/
def State.readFails (s : State) (d i : Nat) (h : Holder) (wrong : List (Fin 256 × Byte)) : Bool :=
  s.guardFails d (s.cellAt d i) (s.readerDest d h)
    (readBytes (s.cellBytes (s.cellAt d i) ((s.link (s.cellAt d i)).fill + 1)) wrong)

section
variable {ps : List StatePart} (m : Moves ps s t) (he : .egr ∉ ps)
include m he

theorem State.findEntry_moves (hc : .cmp ∉ ps) (q d idx : Nat) : t.findEntry q d idx = s.findEntry q d idx := by
  have hCmp : t.cmp = s.cmp := m.same .cmp hc
  simp only [State.findEntry, State.aheadOf_moves m he, State.queue_moves m he, State.tx_moves m he, hCmp]

theorem State.readerDest_moves (hc : .cmp ∉ ps) (hb : .buf ∉ ps) (d : Nat) (h : Holder) : t.readerDest d h = s.readerDest d h := by
  unfold State.readerDest
  rw [State.findEntry_moves m he hc, State.desc_moves m hb]

theorem State.readFails_moves (hc : .cmp ∉ ps) (hb : .buf ∉ ps) (hm : .mem ∉ ps) (d i : Nat) (h : Holder)
    (wrong : List (Fin 256 × Byte)) : t.readFails d i h wrong = s.readFails d i h wrong := by
  unfold State.readFails State.cellAt State.guardFails
  rw [State.readerDest_moves m he hc hb, State.cellsOf_moves m hb, State.cellBytes_moves m hm, State.link_moves m hb,
    State.desc_moves m hb]

end

theorem State.corrected_shown (src n : Nat) (hShown : s.fc.injNext = none) : (s.corrected src n).fc.injNext = none := by
  unfold State.corrected
  dsimp -proj only
  split
  · exact hShown
  · simp [State.setCorrections, State.takeFiring, hShown]

theorem State.readCorrected_shown (d c : Nat) (check : ReadCheck) (hShown : s.fc.injNext = none) :
    (s.readCorrected d c check .good).fc.injNext = none := by
  have hEnd : s.readCorrected d c check .good = if check = .single then s.corrected (bankSource c) 1 else s := rfl
  rw [hEnd]
  split
  · exact State.corrected_shown _ _ hShown
  · exact hShown

section
variable {d : DescId} {i : Fin 64} {h : Holder} {wrong : List (Fin 256 × Byte)}

/-- With no frame, or no such cell, a read does nothing. -/
theorem exec_cellRead_nothing {check : ReadCheck} {walk : WalkCheck}
    (hNone : (!(s.desc d).alloc || (s.desc d).quar || (s.desc d).cells ≤ i.val) = true) :
    exec (.cellRead d i h wrong check walk) s = .next s := if_pos hNone

/-- A read through a good walk with no injection waiting: a single-bit error is corrected, and the guard decides. -/
theorem exec_cellRead {check : ReadCheck} (hAlloc : (s.desc d).alloc = true) (hQuar : (s.desc d).quar = false)
    (hCell : i.val < (s.desc d).cells) (hShown : s.fc.injNext = none) :
    exec (.cellRead d i h wrong check .good) s = .next (if s.readFails d i h wrong then
      (s.readCorrected d (s.cellAt d i) check .good).guardFault d (s.cellAt d i) h (check = .uncorrectable)
      else s.readCorrected d (s.cellAt d i) check .good) := by
  obtain ⟨u, hu⟩ : ∃ u, u = s.readCorrected d (s.cellAt d i) check .good := ⟨_, rfl⟩
  have hMoves : Moves [.fc] s u := hu ▸ State.readCorrected_moves
  have hStill : u.fc.injNext = none := hu ▸ State.readCorrected_shown _ _ _ hShown
  have hFails : u.readFails d i h wrong = s.readFails d i h wrong :=
    State.readFails_moves hMoves (by decide) (by decide) (by decide) (by decide) _ _ _ _
  have hAt : u.cellAt d i = s.cellAt d i := by rw [State.cellAt, State.cellsOf_moves hMoves (by decide), State.cellAt]
  have hThere : ¬ (!(s.desc d).alloc || (s.desc d).quar || (s.desc d).cells ≤ i.val) = true := by
    simp [hAlloc, hQuar, hCell]
  have hUnfold : exec (.cellRead d i h wrong check .good) s = execCellRead d i h wrong check .good s := rfl
  rw [← hu, ← hFails, hUnfold]
  unfold execCellRead
  rw [if_neg hThere]
  dsimp only
  rw [State.checkedRead_none hShown, State.checkedWalk_none hShown,
    show (s.meetWalk d .good).readCorrected d ((s.cellsOf d).getD i 0) check .good = u from hu.symm, if_neg (by decide),
    if_neg (by simp [State.injects_none hStill]), State.readFails, hAt]
  exact (apply_ite _ _ _ _).symm

/-- A cell whose guard verifies is read, and at most a single-bit error of it corrected. -/
theorem exec_cellRead_verified {check : ReadCheck} (hAlloc : (s.desc d).alloc = true) (hQuar : (s.desc d).quar = false)
    (hCell : i.val < (s.desc d).cells) (hShown : s.fc.injNext = none) (hGood : s.readFails d i h wrong = false) :
    exec (.cellRead d i h wrong check .good) s = .next (s.readCorrected d (s.cellAt d i) check .good) := by
  rw [exec_cellRead hAlloc hQuar hCell hShown, hGood]
  rfl

/-- A cell whose guard fails is reported. -/
theorem exec_cellRead_failed {check : ReadCheck} (hAlloc : (s.desc d).alloc = true) (hQuar : (s.desc d).quar = false)
    (hCell : i.val < (s.desc d).cells) (hShown : s.fc.injNext = none) (hFails : s.readFails d i h wrong = true) :
    exec (.cellRead d i h wrong check .good) s = .next
      ((s.readCorrected d (s.cellAt d i) check .good).guardFault d (s.cellAt d i) h (check = .uncorrectable)) := by
  rw [exec_cellRead hAlloc hQuar hCell hShown, hFails]
  rfl

end

theorem exec_holderTransfer {d : DescId} {h : Holder} {add : List Holder} {g : Option (Fin 32768)} {w : WalkCheck}
    (hRuns : s.bufferPaused = false) :
    exec (.holderTransfer d h add g w) s = .next (s.holderOp d h add (transferDest h add g) w).1 := if_neg (by simp [hRuns])

theorem exec_holderRelease {d : DescId} {h : Holder} {w : WalkCheck} (hRuns : s.bufferPaused = false) :
    exec (.holderRelease d h w) s = .next (s.holderOp d h [] none w).1 := if_neg (by simp [hRuns])

/-- Settles O23: a refused operation is reported and its frame quarantined; a failed guard is reported by what the copy's
discard, which latches class S at most, leaves of the collector. -/
theorem wrongHoldersAreCaught : Obligations.WrongHoldersAreCaught := by
  unfold Obligations.WrongHoldersAreCaught
  refine ⟨?transfer, ?release, ?free, ?verified, ?single, ?misdirect, ?dangerous, ?loss⟩
  case transfer =>
    intro d h add g s kind hRuns hAlloc hQuar hRefuses
    obtain ⟨hReported, hSpec⟩ := State.holderOp_refused_spec (dest := transferDest h add g) hRuns hAlloc hQuar hRefuses
    exact ⟨_, exec_holderTransfer hRuns, hReported.cause, hReported.cls, hReported.detail, hReported.logged,
      hReported.overflow, hSpec⟩
  case release =>
    intro d h s kind hRuns hAlloc hQuar hRefuses
    have hRefuses : s.Refuses d kind h ([] : List Holder).length := by
      simpa [State.Refuses] using hRefuses
    obtain ⟨hReported, hSpec⟩ := State.holderOp_refused_spec (dest := none) hRuns hAlloc hQuar hRefuses
    exact ⟨_, exec_holderRelease hRuns, hReported.cause, hReported.cls, hReported.detail, hReported.logged,
      hReported.overflow, hSpec⟩
  case free =>
    intro d h s hRuns hFree
    have hEnd := congrArg Prod.fst (State.holderOp_free (h := h) (add := []) (dest := none) hRuns hFree)
    have hReported : Reported 6 d.val h s (s.holderOp d h [] none).1 := hEnd ▸ State.bufFault_reported (by decide)
    exact ⟨_, exec_holderRelease hRuns, hReported.cause, hReported.cls, hReported.detail, hReported.logged, hReported.overflow⟩
  case verified =>
    intro d i h wrong s hCell hShown hGood
    cases hAlloc : (s.desc d).alloc with
    | false => exact ⟨s, exec_cellRead_nothing (by simp [hAlloc]), rfl⟩
    | true =>
      cases hQuar : (s.desc d).quar with
      | true => exact ⟨s, exec_cellRead_nothing (by simp [hQuar]), rfl⟩
      | false => exact ⟨s, exec_cellRead_verified hAlloc hQuar hCell hShown hGood, rfl⟩
  case single =>
    intro d i h wrong s hAlloc hQuar hCell hShown hGood
    have hMoves := State.corrected_moves (s := s) (src := bankSource (s.cellAt d i)) (n := 1)
    refine ⟨_, exec_cellRead_verified hAlloc hQuar hCell hShown hGood, State.corrected_one _,
      (congrArg Desc.quar (State.desc_moves hMoves (by decide) d)).trans hQuar, hMoves.only⟩
  case misdirect =>
    intro d i h wrong s hAlloc hQuar hCell hShown hFails
    obtain ⟨hCause, hFrame, hCls⟩ := State.guardFault_misdirect_spec (s := s) (d := d) (c := s.cellAt d i) (h := h)
    exact ⟨_, exec_cellRead_failed hAlloc hQuar hCell hShown hFails, hCause, hFrame, hCls.trans State.misdirectClass_eq⟩
  case dangerous =>
    intro d i h wrong s hAlloc hQuar hCell hShown hFails hAgain hColl hMode
    exact ⟨_, exec_cellRead_failed hAlloc hQuar hCell hShown hFails,
      State.guardFault_safe (State.misdirectClass_eq.trans (if_pos hAgain)) hColl hMode hShown⟩
  case loss =>
    intro d i h wrong s hAlloc hQuar hCell hShown hFails
    exact ⟨_, exec_cellRead_failed hAlloc hQuar hCell hShown hFails, State.guardFault_loss_spec⟩

end Sys2Proof.Machine
end

section
/-! PROOFS. Shapers and multicast groups: what a refill, a swap and a write leave in each shaper and in the registers
(R214, R216, R217, R236, R237). -/

namespace Sys2Proof.Machine

variable {s t : State}

/-! ### The shapers that are known -/

theorem nodup_addOnce {l : List Nat} (h : l.Nodup) (x : Nat) : (addOnce l x).Nodup := by
  unfold addOnce
  split
  · exact h
  · next hNew => exact h.append (List.nodup_singleton x) (by simpa using hNew)

theorem State.knownShapers_nodup : s.knownShapers.Nodup :=
  List.foldlRecOn (motive := List.Nodup) _ _ List.nodup_nil (fun _ h x _ => nodup_addOnce h x)

theorem State.shaper_setShaper (x z : Nat) (y : Shaper) : (s.setShaper x y).shaper z = if z = x then y else s.shaper z :=
  Tbl.get_put _ _ _ _ _

/-! ### A refill (R214) -/

/-- A shaper after its refill. -/
def State.refilled (s : State) (x : Nat) : Shaper :=
  if (s.shaperRegs x s.profile).en then {
    tok := min ((s.shaper x).tok + (((s.now - (s.shaper x).last) * (s.shaperRegs x s.profile).rate / 31250 : Nat) : Int))
      (((s.shaperRegs x s.profile).burst * 256 : Nat) : Int),
    last := s.now, hold := none }
  else { s.shaper x with hold := none }

theorem State.refill_eq (x : Nat) : s.refill x = s.setShaper x (s.refilled x) := by
  unfold State.refill State.refilled
  dsimp only
  split <;> rfl

theorem State.refill_shaper (x z : Nat) : (s.refill x).shaper z = if z = x then s.refilled x else s.shaper z := by
  rw [State.refill_eq, State.shaper_setShaper]

/-- A refill of one shaper does not enter the refill of another. -/
theorem State.refilled_refill {x z : Nat} (h : z ≠ x) : (s.refill x).refilled z = s.refilled z := by
  have hShaper : (s.refill x).shaper z = s.shaper z := (State.refill_shaper x z).trans (if_neg h)
  rw [State.refilled, hShaper, State.refill_eq]
  rfl

theorem State.foldl_refill_shaper {l : List Nat} (hl : l.Nodup) (z : Nat) :
    (l.foldl (fun s x => s.refill x) s).shaper z = if z ∈ l then s.refilled z else s.shaper z := by
  induction l generalizing s with
  | nil => rfl
  | cons x l ih =>
    obtain ⟨hx, hl⟩ := List.nodup_cons.mp hl
    rw [List.foldl_cons, ih hl, State.refill_shaper]
    by_cases hz : z = x
    · subst hz
      simp [hx]
    · simp [hz, State.refilled_refill hz]

theorem State.foldl_refill_moves (l : List Nat) : Moves [.egr] s (l.foldl (fun s x => s.refill x) s) :=
  .fold (fun _ _ => State.refill_moves) .refl

/-! ### A change of the configuration in force (R216, R217) -/

theorem State.reshape_shaper {x z : Nat} (old : ShaperSet) (h : z ≠ x) : (s.reshape x old).shaper z = s.shaper z := by
  unfold State.reshape
  split <;> rw [State.shaper_setShaper, if_neg h]

/-- A swap writes the profile bit, and then starts the shapers anew. -/
theorem State.swapProfile_moves_after_profile : Moves [.egr] (s.setFld 0xC00010 0 0 (1 - s.profile)) s.swapProfile :=
  .fold (fun _ _ => State.reshape_moves) .refl

theorem State.profile_lt : s.profile < 2 := by
  unfold State.profile State.fld getBits
  omega

theorem State.swapProfile_profile : s.swapProfile.profile = 1 - s.profile := by
  rw [State.profile, State.fld_moves State.swapProfile_moves_after_profile (by decide),
    State.fld_setFld_same _ _ _ _ _ (by decide) (by decide)]
  have := s.profile_lt
  omega

theorem State.swapProfile_reg {o : Nat} (h : o ≠ 0xC00010) : s.swapProfile.reg o = s.reg o := by
  rw [State.reg_moves State.swapProfile_moves_after_profile (by decide), State.reg_setFld_ne _ _ _ _ _ _ h]

/-! ### A write of a rate or a burst (R236) -/

/-- The register of a shaper that holds the rate, or the burst and the enable, of a profile. -/
def shaperOffset (x k : Nat) (burst : Bool) : Nat := 0xC40000 + x * 16 + k * 8 + if burst then 4 else 0

/-- The register takes the word written, with the reserved bits of a burst as 0. -/
def State.writeShaper (s : State) (x k : Nat) (burst : Bool) (v : Word) : State :=
  s.setReg (shaperOffset x k burst) (if burst then v &&& 0x80FFFFFF else v)

section
variable {v : Word}

theorem exec_shaperSwap_asked (hv : getBits v 1 1 = 1) (hOpen : s.closed 0xC00000 = false) :
    exec (.shaperSwap v) s = .next s.swapProfile := by
  simp [exec, execShaperSwap, hv, hOpen]

theorem exec_shaperSwap_none (hv : getBits v 1 1 = 0) : exec (.shaperSwap v) s = .next s := by
  simp [exec, execShaperSwap, hv]

theorem exec_shaperConfigWrite_open {x : Fin 21504} {k : Fin 2} {burst : Bool} (hOpen : s.closed 0xC40000 = false) :
    exec (.shaperConfigWrite x k burst v) s = .next (if k.val = (s.writeShaper x k burst v).profile then
      (s.writeShaper x k burst v).reshape x (s.shaperSet x) else s.writeShaper x k burst v) := by
  have hUnfold : exec (.shaperConfigWrite x k burst v) s = execShaperConfigWrite x k burst v s := rfl
  rw [hUnfold, execShaperConfigWrite, if_neg (by simp [hOpen])]
  cases burst <;> exact (apply_ite _ _ _ _).symm

/-- Whether the profile written is in force or not, beyond the register only the shaper itself changes. -/
theorem State.reshapeIf_moves {c : Prop} [Decidable c] {x : Nat} {old : ShaperSet} :
    Moves [.egr] s (if c then s.reshape x old else s) := .ite State.reshape_moves .refl

theorem State.reshapeIf_shaper {c : Prop} [Decidable c] {x z : Nat} {old : ShaperSet} (h : z ≠ x) :
    (if c then s.reshape x old else s).shaper z = s.shaper z := by
  split
  · exact State.reshape_shaper old h
  · rfl

theorem exec_mcGroupWrite_within {g : Fin 32768} (hv : getBits v 17 0 + getBits v 25 18 ≤ 262144)
    (hOpen : s.closed 0xD00000 = false) :
    exec (.mcGroupWrite g v) s = .next (s.setReg (0xD00000 + g * 4) (v &&& 0x83FFFFFF)) := by
  simp [exec, execMcGroupWrite, hOpen, Nat.not_lt.mpr hv]

theorem exec_mcGroupWrite_beyond {g : Fin 32768} (hv : 262144 < getBits v 17 0 + getBits v 25 18)
    (hOpen : s.closed 0xD00000 = false) : exec (.mcGroupWrite g v) s = .next (s.refusedWrite (0xD00000 + g * 4)) := by
  simp [exec, execMcGroupWrite, hOpen, hv]

end

/-- Settles O26: each known shaper is refilled once, from its own registers, which no refill touches; the writes change one
register and, where its profile is in force, the tokens of their shaper. -/
theorem shapersAndGroups : Obligations.ShapersAndGroups := by
  unfold Obligations.ShapersAndGroups
  refine ⟨?refill, ?swap, ?noSwap, ?config, ?group, ?refused⟩
  case refill =>
    refine fun s => ⟨_, rfl, fun x hx => ?_, fun x hx => ?_, (State.foldl_refill_moves _).only⟩
    · exact (State.foldl_refill_shaper State.knownShapers_nodup x).trans (if_pos hx)
    · exact (State.foldl_refill_shaper State.knownShapers_nodup x).trans (if_neg hx)
  case swap =>
    exact fun v s hv hOpen => ⟨_, exec_shaperSwap_asked hv hOpen, State.swapProfile_profile, fun o ho => State.swapProfile_reg ho,
      State.swapProfile_moves.only⟩
  case noSwap => exact fun v s hv => ⟨s, exec_shaperSwap_none hv, rfl⟩
  case config =>
    intro x k burst v s hOpen
    refine ⟨_, exec_shaperConfigWrite_open hOpen, ?_, fun o ho => ?_, fun z hz => ?_, ?_⟩
    · rw [State.reg_moves State.reshapeIf_moves (by decide)]
      exact State.reg_setReg_same _ _ _
    · rw [State.reg_moves State.reshapeIf_moves (by decide)]
      exact State.reg_setReg_ne _ _ _ _ ho
    · exact State.reshapeIf_shaper hz
    · exact (Moves.trans (State.setReg_moves.mono (by decide)) (State.reshapeIf_moves.mono (by decide))).only
  case group =>
    exact fun g v s hv hOpen => ⟨_, exec_mcGroupWrite_within hv hOpen, State.reg_setReg_same _ _ _,
      fun o ho => State.reg_setReg_ne _ _ _ _ ho, State.setReg_moves.only⟩
  case refused =>
    intro g v s hv hOpen
    obtain ⟨hCause, hCls⟩ := State.refusedWrite_shows (s := s) (0xD00000 + g * 4)
    exact ⟨_, exec_mcGroupWrite_beyond hv hOpen, State.refusedWrite_frame _, hCause, hCls⟩

end Sys2Proof.Machine
end

section
/-! PROOFS. Viaduct links: what a read of a link finds after a write of it, and what interrupted transmissions and returned
credit leave of every link (R224 to R226, R249). -/

namespace Sys2Proof.Machine

variable {s t u : State}

/-! ### A link after a write -/

theorem State.viaLink_setVia (p q : Nat) (x : ViaLink) : (s.setVia p x).viaLink q = if q = p then x else s.viaLink q :=
  Tbl.get_put _ _ _ _ _

theorem State.viaLink_setVia_same (p : Nat) (x : ViaLink) : (s.setVia p x).viaLink p = x :=
  (State.viaLink_setVia p p x).trans (if_pos rfl)

theorem State.viaLink_setVia_ne {p q : Nat} (x : ViaLink) (h : q ≠ p) : (s.setVia p x).viaLink q = s.viaLink q :=
  (State.viaLink_setVia p q x).trans (if_neg h)

theorem State.viaLink_moves {ps : List StatePart} (h : Moves ps s t) (hp : .via ∉ ps) (p : Nat) : t.viaLink p = s.viaLink p :=
  congrArg (fun x : ViaState => Tbl.get viaDefault x.links p) (h.same .via hp)

/-- From `s` to `t` the link of one port has become `x`, and the others are as they were. -/
structure PutsLink (p : Nat) (x : ViaLink) (s t : State) : Prop where
  link : t.viaLink p = x
  others : ∀ o, o ≠ p → t.viaLink o = s.viaLink o

theorem State.setVia_puts (p : Nat) (x : ViaLink) : PutsLink p x s (s.setVia p x) :=
  ⟨State.viaLink_setVia_same p x, fun _ ho => State.viaLink_setVia_ne x ho⟩

theorem PutsLink.trans {p : Nat} {x y : ViaLink} (h : PutsLink p x s t) (k : PutsLink p y t u) : PutsLink p y s u :=
  ⟨k.link, fun o ho => (k.others o ho).trans (h.others o ho)⟩

theorem PutsLink.moves {p : Nat} {x : ViaLink} {ps : List StatePart} (h : PutsLink p x s t) (m : Moves ps t u)
    (hp : .via ∉ ps) : PutsLink p x s u :=
  ⟨(State.viaLink_moves m hp p).trans h.link, fun o ho => (State.viaLink_moves m hp o).trans (h.others o ho)⟩

/-- A control frame takes a due ACK with it (R223, R225). -/
theorem State.sendControl_puts (p type : Nat) (body : List Word) :
    PutsLink p { s.viaLink p with ackDue := false } s (s.sendControl p type body) :=
  (State.setVia_puts _ _).moves State.emit_moves (by decide)

theorem State.sendControl_emitted (p type : Nat) (body : List Word) : (s.sendControl p type body).emitted
    = .viaControl p (controlBytes type (s.viaLink p).ack body) :: s.emitted := rfl

/-! ### What every link keeps -/

/-- What an operation that neither acknowledges nor resets leaves of a link: its epoch, the oldest unacknowledged frame and
the timeouts since that moved; and no copy joins those kept for a retransmission. -/
structure KeepsLink (l m : ViaLink) : Prop where
  epoch : m.epoch = l.epoch
  una : m.una = l.una
  retries : m.retries = l.retries
  retry : l.retry = [] → m.retry = []

/-- Every link is so left. -/
def KeepsLinks (s t : State) : Prop := ∀ p, KeepsLink (s.viaLink p) (t.viaLink p)

theorem KeepsLink.refl {l : ViaLink} : KeepsLink l l := ⟨rfl, rfl, rfl, id⟩

theorem KeepsLinks.refl : KeepsLinks s s := fun _ => .refl

theorem KeepsLinks.trans (h : KeepsLinks s t) (k : KeepsLinks t u) : KeepsLinks s u := fun p =>
  ⟨(k p).epoch.trans (h p).epoch, (k p).una.trans (h p).una, (k p).retries.trans (h p).retries, (k p).retry ∘ (h p).retry⟩

theorem KeepsLinks.moves {ps : List StatePart} (h : Moves ps s t) (hp : .via ∉ ps) : KeepsLinks s t := fun p => by
  rw [State.viaLink_moves h hp]
  exact .refl

theorem KeepsLinks.fold {α : Type} {f : State → α → State} {l : List α} (h : ∀ s a, KeepsLinks s (f s a)) :
    KeepsLinks s (l.foldl f s) :=
  List.foldlRecOn (motive := fun t => KeepsLinks s t) _ _ .refl (fun _ ht a _ => ht.trans (h _ a))

theorem PutsLink.keepsLinks {p : Nat} {x : ViaLink} (h : PutsLink p x s t) (hx : KeepsLink (s.viaLink p) x) :
    KeepsLinks s t := fun q => by
  by_cases hq : q = p
  · subst hq
    rwa [h.link]
  · rw [h.others q hq]
    exact .refl

theorem State.sendControl_keepsLinks (p type : Nat) (body : List Word) : KeepsLinks s (s.sendControl p type body) :=
  (State.sendControl_puts p type body).keepsLinks ⟨rfl, rfl, rfl, id⟩

/-- Credit that goes back to the peer (R226). -/
theorem State.grantCells_keepsLinks (p h n : Nat) : KeepsLinks s (s.grantCells p h n) := by
  have hGrant {x : Hc4} : KeepsLinks s (s.setVia p { s.viaLink p with grant := x }) :=
    (State.setVia_puts _ _).keepsLinks ⟨rfl, rfl, rfl, id⟩
  have hCredit {y : State} : KeepsLinks y (y.sendCredit p) :=
    ((State.setVia_puts p { y.viaLink p with lastCredit := (y.viaLink p).grant }).keepsLinks ⟨rfl, rfl, rfl, id⟩).trans
      (State.sendControl_keepsLinks _ _ _)
  unfold State.grantCells
  dsimp -proj only
  split
  · exact hGrant.trans hCredit
  · exact hGrant

/-- An interrupted copy gives its sequence and its credit back (R225, R249). -/
theorem State.stomp_keepsLinks (p : Nat) (x : TxCopy) : KeepsLinks s (s.stomp p x) := by
  have hUntake : KeepsLinks s (s.untakeSeq p x) := by
    unfold State.untakeSeq
    split
    · exact .refl
    · split
      · exact .refl
      · exact (State.setVia_puts _ _).keepsLinks ⟨rfl, rfl, rfl, id⟩
  unfold State.stomp
  split
  · exact (hUntake.trans (.moves State.emit_moves (by decide))).trans (.moves State.count_moves (by decide))
  · exact .refl

theorem State.stompAhead_keepsLinks (p : Nat) : KeepsLinks s (s.stompAhead p) := by
  unfold State.stompAhead
  split
  · exact .refl
  · next x _ =>
    have hStomp := State.stomp_keepsLinks (s := s) p x
    dsimp -proj only
    refine .trans ?_ (.moves State.setTx_moves (by decide))
    split
    · exact hStomp
    · exact hStomp.trans (.moves State.setAhead_moves (by decide))

theorem State.stompData_keepsLinks (p : Nat) : KeepsLinks s (s.stompData p) := by
  unfold State.stompData
  split
  · split
    · refine .trans ?_ (State.stompAhead_keepsLinks p)
      split
      · exact .moves State.dropPass_moves (by decide)
      · exact .refl
    · exact .refl
  · exact .refl

end Sys2Proof.Machine
end

section
/-! PROOFS. What the release of a copy leaves of the sending side: every link, the registers of the egress side, and the
queues that are empty (R175 to R179, R225, R250). -/

namespace Sys2Proof.Machine

variable {s t u : State}

/-- From `s` to `t` the links are left, the registers from SCH on read as before, and no empty queue is filled. -/
structure KeepsSender (s t : State) : Prop where
  links : KeepsLinks s t
  reg : ∀ o, 0xC00000 ≤ o → t.reg o = s.reg o
  empty : ∀ q, s.queueEmpty q = true → t.queueEmpty q = true

theorem KeepsSender.refl : KeepsSender s s := ⟨.refl, fun _ _ => rfl, fun _ => id⟩

theorem KeepsSender.trans (h : KeepsSender s t) (k : KeepsSender t u) : KeepsSender s u :=
  ⟨h.links.trans k.links, fun o ho => (k.reg o ho).trans (h.reg o ho), fun q => k.empty q ∘ h.empty q⟩

theorem KeepsSender.fold {α : Type} {f : State → α → State} {l : List α} (h : ∀ s a, KeepsSender s (f s a)) :
    KeepsSender s (l.foldl f s) :=
  List.foldlRecOn (motive := fun t => KeepsSender s t) _ _ .refl (fun _ ht a _ => ht.trans (h _ a))

theorem State.queueEmpty_of_egr (h : t.egr = s.egr) (q : Nat) : t.queueEmpty q = s.queueEmpty q := by
  simp only [State.queueEmpty, State.queue, State.aheadOf, h]

section
variable {ps : List StatePart} (h : Moves ps s t)
include h

/-- An operation that moves other registers alone. -/
theorem KeepsSender.of_reg (hv : .via ∉ ps) (he : .egr ∉ ps) (hr : ∀ o, 0xC00000 ≤ o → t.reg o = s.reg o) : KeepsSender s t :=
  ⟨.moves h hv, hr, fun q hq => (State.queueEmpty_of_egr (h.same .egr he) q).trans hq⟩

theorem KeepsSender.of_links (hr : .regs ∉ ps) (he : .egr ∉ ps) (hl : KeepsLinks s t) : KeepsSender s t :=
  ⟨hl, fun o _ => State.reg_moves h hr o, fun q hq => (State.queueEmpty_of_egr (h.same .egr he) q).trans hq⟩

theorem KeepsSender.of_queues (hr : .regs ∉ ps) (hv : .via ∉ ps) (hq : ∀ q, s.queueEmpty q = true → t.queueEmpty q = true) :
    KeepsSender s t := ⟨.moves h hv, fun o _ => State.reg_moves h hr o, hq⟩

theorem KeepsSender.moves (hr : .regs ∉ ps) (hv : .via ∉ ps) (he : .egr ∉ ps) : KeepsSender s t :=
  .of_reg h hv he fun o _ => State.reg_moves h hr o

end

/-! ### A report of the manager, and a frame's quarantine (R178, R179) -/

theorem State.bufFault_keepsSender {kind : Nat} (hk : kind < 32) (id : Nat) (h : Holder) :
    KeepsSender s (s.bufFault kind id h) := by
  have hLog : KeepsSender s (s.logFault kind id h) := by
    refine .of_reg State.logFault_moves (by decide) (by decide) fun o ho => ?_
    unfold State.logFault
    split
    · rfl
    · exact State.reg_setFld_ne _ _ _ _ _ _ (by omega)
  rw [State.bufFault_eq]
  exact hLog.trans (.of_reg (State.latchFault_s_halts _ _ _ _ (pipeOfSource_manager hk)) (by decide) (by decide)
    fun o ho => State.latchFault_frame _ _ _ _ _ (by decide) o (faultRegister_above (by omega)))

theorem State.lose_keepsSender (d egress kind : Nat) : KeepsSender s (s.lose d egress kind) :=
  .of_reg State.lose_moves (by decide) (by decide) fun o ho => (State.lose_keepsPool d egress kind).reg o (by omega)

theorem State.freeEntry_keepsSender (e : QEntry) : KeepsSender s (s.freeEntry e) := by
  refine .of_queues State.freeEntry_moves (by decide) (by decide) fun q hq => ?_
  unfold State.freeEntry
  split <;> exact hq

theorem State.resetEmpty_queueEmpty (q r : Nat) : (s.resetEmpty q).queueEmpty r = s.queueEmpty r := by
  unfold State.resetEmpty
  split <;> rfl

theorem State.resetEmpty_keepsSender (q : Nat) : KeepsSender s (s.resetEmpty q) :=
  .of_queues State.resetEmpty_moves (by decide) (by decide) fun r hr => (State.resetEmpty_queueEmpty q r).trans hr

theorem State.setQueue_queueEmpty (q r : Nat) (l : List QEntry) : (s.setQueue q l).queueEmpty r
    = ((if r = q then l else s.queue r).isEmpty && (s.aheadOf r).isEmpty) := by
  rw [State.queueEmpty, State.queue_setQueue]
  rfl

theorem State.setAhead_queueEmpty (q r : Nat) (l : List QEntry) : (s.setAhead q l).queueEmpty r
    = ((s.queue r).isEmpty && (if r = q then l else s.aheadOf r).isEmpty) := by
  rw [State.queueEmpty, State.aheadOf_setAhead]
  rfl

/-- A queue that keeps some of its entries only. -/
theorem State.setQueue_filter_keepsSender (q : Nat) (f : QEntry → Bool) : KeepsSender s (s.setQueue q ((s.queue q).filter f)) := by
  refine .of_queues State.setQueue_moves (by decide) (by decide) fun r hr => ?_
  simp only [State.queueEmpty, Bool.and_eq_true, List.isEmpty_iff] at hr
  obtain ⟨hQueue, hAhead⟩ := hr
  rw [State.setQueue_queueEmpty, hAhead]
  split
  · next h => rw [← h, hQueue]; rfl
  · rw [hQueue]; rfl

theorem State.setAhead_filter_keepsSender (q : Nat) (f : QEntry → Bool) : KeepsSender s (s.setAhead q ((s.aheadOf q).filter f)) := by
  refine .of_queues State.setAhead_moves (by decide) (by decide) fun r hr => ?_
  simp only [State.queueEmpty, Bool.and_eq_true, List.isEmpty_iff] at hr
  obtain ⟨hQueue, hAhead⟩ := hr
  rw [State.setAhead_queueEmpty, hQueue]
  split
  · next h => rw [← h, hAhead]; rfl
  · rw [hAhead]; rfl

theorem State.unqueueFrame_keepsSender (d : Nat) : KeepsSender s (s.unqueueFrame d).1 := by
  refine List.foldlRecOn (motive := fun x : State × List (Nat × QEntry) => KeepsSender s x.1) _ _ .refl ?_
  rintro ⟨y, out⟩ h q -
  dsimp -proj only
  split
  · exact h
  · exact (((h.trans (State.setQueue_filter_keepsSender q _)).trans (State.setAhead_filter_keepsSender q _)).trans
      (.fold fun _ _ => State.freeEntry_keepsSender _)).trans (State.resetEmpty_keepsSender q)

theorem State.setTx_keepsSender (p : Nat) (x : Option TxCopy) : KeepsSender s (s.setTx p x) :=
  .of_queues State.setTx_moves (by decide) (by decide) fun _ hq => hq

theorem State.quarantineTx_keepsSender (d : Nat) : KeepsSender s (s.quarantineTx d) := by
  have hStop {y : State} {p : Nat} {x : TxCopy} : KeepsSender y ((y.stomp p x).setTx p none) :=
    (KeepsSender.of_links State.stomp_moves (by decide) (by decide) (State.stomp_keepsLinks p x)).trans
      (State.setTx_keepsSender p none)
  refine .fold fun y p => ?_
  split
  · split
    · exact .refl
    · split
      · exact hStop
      · exact (hStop.trans (State.freeEntry_keepsSender _)).trans (State.lose_keepsSender _ _ _)
  · exact .refl

theorem State.quarantineVoq_keepsSender (d : Nat) : KeepsSender s (s.quarantineVoq d) :=
  .fold fun _ _ => (KeepsSender.moves State.setVoq_moves (by decide) (by decide) (by decide)).trans
    (.fold fun _ _ => State.lose_keepsSender _ _ _)

/-- Copies that are kept for a retransmission go, and none joins them. -/
theorem State.setRetry_keepsSender (p : Nat) {l : List RetryEntry} (h : (s.viaLink p).retry = [] → l = []) :
    KeepsSender s (s.setVia p { s.viaLink p with retry := l }) :=
  .of_links State.setVia_moves (by decide) (by decide) ((State.setVia_puts _ _).keepsLinks ⟨rfl, rfl, rfl, h⟩)

theorem State.quarantineRetry_keepsSender (d : Nat) : KeepsSender s (s.quarantineRetry d) := by
  have hRetry {y : State} {p : Nat} {f : RetryEntry → Bool} :
      KeepsSender y (y.setVia p { y.viaLink p with retry := (y.viaLink p).retry.filter f }) :=
    State.setRetry_keepsSender p fun h => by rw [h]; rfl
  exact .fold fun _ _ => hRetry.trans (.fold fun _ _ => State.lose_keepsSender _ _ _)

theorem State.discardCopies_keepsSender (gone : CopyRec → Bool) : KeepsSender s (s.discardCopies gone) := by
  have hRest {y : State} {l : List CopyRec} {f : CopyRec → Nat} : KeepsSender y (l.foldl (fun s c => s.count (f c) 1) y) :=
    .fold fun _ _ => .moves State.count_moves (by decide) (by decide) (by decide)
  have hCopies {l : List CopyRec} : KeepsSender s { s with egr := { s.egr with copies := l } } :=
    .of_queues (.egr (ps := [.egr]) (by decide) .refl) (by decide) (by decide) fun _ hq => hq
  exact hCopies.trans hRest

theorem State.quarantine_keepsSender (d : Nat) : KeepsSender s (s.quarantine d) := by
  have hMark {x : Desc} : KeepsSender s (s.setDesc d x) := .moves State.setDesc_moves (by decide) (by decide) (by decide)
  have hLose {y : State} : KeepsSender y (y.loseCopies d) :=
    ((((((State.unqueueFrame_keepsSender d).trans (.fold fun _ _ => State.lose_keepsSender _ _ _)).trans
      (State.quarantineTx_keepsSender d)).trans (.moves State.dropEgressOf_moves (by decide) (by decide) (by decide))).trans
      (State.quarantineVoq_keepsSender d)).trans (State.quarantineRetry_keepsSender d)).trans
      (State.discardCopies_keepsSender _)
  rw [State.quarantine_eq]
  split
  · exact .refl
  · exact hMark.trans hLose

/-! ### A frame's charge and its descriptor go back (R168, R187, R226) -/

theorem State.unchargeRegion_keepsLinks (x : FrameInfo) (n : Nat) : KeepsLinks s (s.unchargeRegion x n) := by
  unfold State.unchargeRegion
  split
  · exact .refl
  · exact .refl
  · exact .moves State.uncharge_moves (by decide)

theorem State.returnCells_keepsSender (d n : Nat) : KeepsSender s (s.returnCells d n) := by
  have hRegion : KeepsLinks s ((s.count (cChip 3) n).unchargeRegion (s.info d) n) :=
    (KeepsLinks.moves State.count_moves (by decide)).trans (State.unchargeRegion_keepsLinks _ _)
  refine .of_links State.returnCells_moves (by decide) (by decide) ?_
  rw [State.returnCells_eq]
  split
  · exact hRegion.trans (State.grantCells_keepsLinks _ _ _)
  · exact hRegion

theorem State.returnCharge_keepsSender (d n : Nat) : KeepsSender s (s.returnCharge d n) := by
  have hCells := State.returnCells_keepsSender (s := s) d n
  unfold State.returnCharge
  dsimp -proj only
  split
  · exact ⟨hCells.links, hCells.reg, hCells.empty⟩
  · exact hCells

theorem State.checkDrained_keepsSender : KeepsSender s s.checkDrained :=
  .of_reg State.checkDrained_moves (by decide) (by decide) fun _ ho => State.checkDrained_reg (by omega) (by omega)

theorem State.freeDescriptor_keepsSender (d : Nat) : KeepsSender s (s.freeDescriptor d) := by
  have hFree {y : State} {l : List Nat} : KeepsSender y { y with buf := { y.buf with freeDesc := l } } :=
    ⟨.refl, fun _ _ => rfl, fun _ => id⟩
  unfold State.freeDescriptor
  split
  · exact State.bufFault_keepsSender (by decide) _ _
  · dsimp -proj only
    exact ((((KeepsSender.moves State.setDesc_moves (by decide) (by decide) (by decide)).trans
      (.moves State.setLedger_moves (by decide) (by decide) (by decide))).trans
      (.moves State.setInfo_moves (by decide) (by decide) (by decide))).trans hFree).trans State.checkDrained_keepsSender

/-! ### The release (R175) -/

theorem State.walked_keepsSender (d : Nat) (h : Holder) (count : Nat) (r : Walk) : KeepsSender r.st (State.walked d h count r).1 := by
  have hCharge {n : Nat} : KeepsSender r.st (r.st.returnCharge d n) := State.returnCharge_keepsSender d n
  unfold State.walked
  split
  · exact ((State.returnCells_keepsSender d _).trans (State.bufFault_keepsSender (by decide) _ _)).trans
      (State.quarantine_keepsSender d)
  · split
    · dsimp -proj only
      split
      · exact hCharge.trans (State.freeDescriptor_keepsSender d)
      · exact hCharge.trans ((KeepsSender.moves State.setInfo_moves (by decide) (by decide) (by decide)).trans
          (.moves State.setDesc_moves (by decide) (by decide) (by decide)))
    · exact .refl

theorem State.holderWalk_keepsSender (d : Nat) (h : Holder) (add : List Holder) (dest bad : Option Nat) :
    KeepsSender s (s.holderWalk d h add dest bad).1 := by
  unfold State.holderWalk
  dsimp -proj only
  refine .trans ?_ (State.walked_keepsSender _ _ _ _)
  refine .trans ?_ (.moves walkCells_moves (by decide) (by decide) (by decide))
  split
  · exact .moves State.setDesc_moves (by decide) (by decide) (by decide)
  · exact .refl

theorem State.release_keepsSender (d : Nat) (h : Holder) : KeepsSender s (s.release d h) := by
  unfold State.release State.holderOp
  split
  · exact ⟨.refl, fun _ _ => rfl, fun _ => id⟩
  · unfold State.holderNow
    rw [show s.walkCorrected d .good = s from rfl]
    dsimp -proj only
    split
    · exact State.bufFault_keepsSender (by decide) _ _
    · split
      · exact .refl
      · split
        · next hRefused =>
          have hKind := State.opRefused_le hRefused
          exact (State.bufFault_keepsSender (by omega) _ _).trans (State.quarantine_keepsSender d)
        · exact State.holderWalk_keepsSender _ _ _ _ _

theorem State.dropRerun_keepsSender (p : Nat) : KeepsSender s (s.dropRerun p) := by
  unfold State.dropRerun
  split
  · split
    · exact (KeepsSender.moves State.dropPass_moves (by decide) (by decide) (by decide)).trans (State.setTx_keepsSender p none)
    · exact .refl
  · exact .refl

end Sys2Proof.Machine
end

section
/-! PROOFS. The start of viaduct links: what INIT, INIT_ACK and CREDIT do, and the reset of a link (R223, R224, R226). -/

namespace Sys2Proof.Machine

variable {s t : State}

/-! ### Control frames (R223) -/

/-- The ACK of a frame acknowledges nothing new: the link is down, or the value lies outside the window (R225). -/
def ViaLink.StaleAck (l : ViaLink) (deck : DWord) : Prop :=
  l.up = false ∨ (l.next + 2 ^ 24 - l.una) % 2 ^ 24 ≤ (deckAck deck + 2 ^ 24 - l.una) % 2 ^ 24

theorem State.frameAck_stale {p : Nat} {deck : DWord} (h : (s.viaLink p).StaleAck deck) : s.frameAck p deck = s := by
  unfold State.frameAck State.viaAck
  rcases h with hDown | hOutside
  · simp [hDown]
  · dsimp only
    rw [if_neg (Nat.not_lt.mpr hOutside), ite_self]

theorem deckUnusable_good {f : ViaFrame} {type : Nat} (hGood : frameGood f type = true)
    (hType : [0, 1, 8, 9, 10, 11, 12].contains type = true) : deckUnusable f.deck = false := by
  simp only [frameGood, Bool.and_eq_true, decide_eq_true_eq] at hGood
  obtain ⟨⟨hDeck, hKind⟩, -⟩ := hGood
  rw [deckUnusable, hKind, hDeck, hType]
  rfl

section
variable {p type : Nat} {f : ViaFrame} {act : State → State}

theorem State.onControl_good (hRuns : s.viaRuns p = true) (hGood : frameGood f type = true)
    (hType : [0, 1, 8, 9, 10, 11, 12].contains type = true) : s.onControl p type f act = act s := by
  simp [State.onControl, hRuns, deckUnusable_good hGood hType, hGood]

theorem State.onControl_silent (hRuns : s.viaRuns p = false) : s.onControl p type f act = s := by
  simp [State.onControl, hRuns]

theorem State.onControl_unusable (hRuns : s.viaRuns p = true) (hDeck : deckUnusable f.deck = true) :
    s.onControl p type f act = s.count (cPort p 22) 1 := by
  simp [State.onControl, hRuns, hDeck]

theorem State.onControl_badCrc (hDeck : deckUnusable f.deck = false) (hCrc : ethFcs (beBytes 8 f.deck.toNat ++ f.body) ≠ f.crc) :
    s.onControl p type f act = s := by
  simp [State.onControl, hDeck, frameGood, hCrc]

/-- A good frame that does nothing does nothing at a port that runs no link, either. -/
theorem State.onControl_idle (hGood : frameGood f type = true) (hType : [0, 1, 8, 9, 10, 11, 12].contains type = true)
    (hAct : act s = s) : s.onControl p type f act = s := by
  by_cases hRuns : s.viaRuns p = true
  · rw [State.onControl_good hRuns hGood hType, hAct]
  · exact State.onControl_silent (by simpa using hRuns)

end

/-- What a control frame of any type does at a port, each command that receives one does. -/
theorem exec_controlFrames {p : Port} {f : ViaFrame} (h : ∀ type act, s.onControl p type f act = t) :
    exec (.viaAckRx p f) s = .next t ∧ exec (.viaNakRx p f) s = .next t ∧ exec (.viaCreditRx p f) s = .next t ∧
      exec (.viaInitRx p f) s = .next t ∧ exec (.viaInitAckRx p f) s = .next t :=
  ⟨congrArg _ (h 8 _), congrArg _ (h 9 _), congrArg _ (h 10 _), congrArg _ (h 11 _), congrArg _ (h 12 _)⟩

/-! ### The reset of a link (R224) -/

/-- A fresh EPOCH is neither 0 nor the one before it. -/
theorem State.drawEpoch_fresh (prev : Word) : (s.drawEpoch prev).2 ≠ 0 ∧ (s.drawEpoch prev).2 ≠ prev := by
  unfold State.drawEpoch
  dsimp only
  generalize Config.freeEpoch s.freeCount = e
  split
  · next h => simpa using h
  · next hFirst =>
    split
    · next h => simpa using h
    · next hSecond =>
      simp only [Bool.and_eq_true, decide_eq_true_eq, not_and_or, not_not] at hFirst hSecond
      rcases hFirst with rfl | rfl <;> rcases hSecond with h | h <;> constructor <;> bv_omega

/-- Nothing that follows fills the copies kept for a retransmission again. -/
theorem State.abandonRetry_afterEmptied (p kind : Nat) :
    KeepsSender (s.setVia p { s.viaLink p with retry := [] }) (s.abandonRetry p kind) := by
  have hEach {y : State} {e : RetryEntry} : KeepsSender y
      (((y.count (cPort p 23) 1).lose e.entry.desc p kind).release e.entry.desc (holderRetry p e.entry.idx)) :=
    ((KeepsSender.moves State.count_moves (by decide) (by decide) (by decide)).trans (State.lose_keepsSender _ _ _)).trans
      (State.release_keepsSender _ _)
  unfold State.abandonRetry
  dsimp -proj only
  exact (State.dropRerun_keepsSender p).trans (.fold fun _ _ => hEach)

theorem State.abandonRetry_keepsSender (p kind : Nat) : KeepsSender s (s.abandonRetry p kind) :=
  (State.setRetry_keepsSender p fun _ => rfl).trans (State.abandonRetry_afterEmptied p kind)

theorem State.abandonRetry_retry (p kind : Nat) : ((s.abandonRetry p kind).viaLink p).retry = [] :=
  ((State.abandonRetry_afterEmptied p kind).links p).retry (congrArg ViaLink.retry (State.viaLink_setVia_same p _))

/-- A link in the reset state: no peer, nothing sent, and the credit of its limits. -/
def resetLink (epoch : Word) (limits : Hc4) : ViaLink :=
  { epoch := epoch, granted := limits, grant := limits, lastCredit := limits }

/-- Nothing is accepted yet: the ACK is the sequence before 0 (R225). -/
theorem resetLink_ack (epoch : Word) (limits : Hc4) : (resetLink epoch limits).ack = 2 ^ 24 - 1 := by
  simp [ViaLink.ack, resetLink]

theorem State.viaLimits_of_reg (h : ∀ o, 0xC00000 ≤ o → t.reg o = s.reg o) (p : Nat) : t.viaLimits p = s.viaLimits p := by
  have hLimit (i : Nat) : t.fld (0xC06000 + p * 16 + i * 4) 21 0 = s.fld (0xC06000 + p * 16 + i * 4) 21 0 :=
    congrArg (getBits · 21 0) (h _ (by omega))
  simp only [State.viaLimits, hLimit]

/-- What interrupts the data and abandons the copies leaves the epoch and the limits, so that the new epoch differs from the
one before the reset. -/
theorem State.viaReset_spec (p kind : Nat) : ∃ e, e ≠ 0 ∧ e ≠ (s.viaLink p).epoch ∧
    (s.viaReset p kind).viaLink p = resetLink e (s.viaLimits p) := by
  have hStomp : Moves [.counters, .emitted, .pipes, .egr, .via] s (s.stompData p) := State.stompData_moves
  have hAbandon := State.abandonRetry_keepsSender (s := s.stompData p) p kind
  have hDraw (e : Word) : Moves [.freeCount] ((s.stompData p).abandonRetry p kind)
      (((s.stompData p).abandonRetry p kind).drawEpoch e).1 := State.drawEpoch_moves
  have hEpoch : (((s.stompData p).abandonRetry p kind).viaLink p).epoch = (s.viaLink p).epoch :=
    ((State.stompData_keepsLinks p).trans hAbandon.links p).epoch
  have hLimits (e : Word) : (((s.stompData p).abandonRetry p kind).drawEpoch e).1.viaLimits p = s.viaLimits p :=
    State.viaLimits_of_reg (fun o ho => (State.reg_moves (hDraw e) (by decide) o).trans
      ((hAbandon.reg o ho).trans (State.reg_moves hStomp (by decide) o))) p
  obtain ⟨hZero, hPrev⟩ := State.drawEpoch_fresh (s := (s.stompData p).abandonRetry p kind)
    (((s.stompData p).abandonRetry p kind).viaLink p).epoch
  refine ⟨_, hZero, fun h => hPrev (h.trans hEpoch.symm), ?_⟩
  rw [← hLimits (((s.stompData p).abandonRetry p kind).viaLink p).epoch]
  exact State.viaLink_setVia_same p _

/-! ### INIT and INIT_ACK (R224) -/

theorem State.sendInit_emitted (p type : Nat) : (s.sendInit p type).emitted = .viaControl p (controlBytes type (s.viaLink p).ack
    ((s.viaLink p).grant.words ++ [(s.viaLink p).epoch, (s.viaLink p).peerEpoch])) :: s.emitted := rfl

theorem State.sendInit_puts (p type : Nat) : PutsLink p { s.viaLink p with ackDue := false } s (s.sendInit p type) :=
  State.sendControl_puts p type _

theorem State.recordPeer_puts (p : Nat) (f : ViaFrame) : PutsLink p { s.viaLink p with
    peerEpoch := frameEpoch f, up := true, granted := frameGranted f } s (s.recordPeer p f) := State.setVia_puts _ _

section
variable {p : Port} {f : ViaFrame}

theorem exec_viaInitTimer_down (hRuns : s.viaRuns p = true) (hDown : (s.viaLink p).up = false) :
    exec (.viaInitTimer p) s = .next (s.sendInit p 11) := if_pos (by simp [hRuns, hDown])

theorem exec_viaInitTimer_idle (h : s.viaRuns p = false ∨ (s.viaLink p).up = true) : exec (.viaInitTimer p) s = .next s :=
  if_neg (by rcases h with h | h <;> simp [h])

theorem exec_viaCreditTimer_runs (hRuns : s.viaRuns p = true) : exec (.viaCreditTimer p) s = .next (s.sendCredit p) := if_pos hRuns

theorem exec_viaCreditTimer_silent (hRuns : s.viaRuns p = false) : exec (.viaCreditTimer p) s = .next s :=
  if_neg (by simp [hRuns])

section
variable (hRuns : s.viaRuns p = true) (hGood : frameGood f 11 = true)
include hRuns hGood

theorem exec_viaInitRx_good : exec (.viaInitRx p f) s = .next (s.initRx p f) :=
  congrArg Host.Outcome.next (State.onControl_good hRuns hGood (by decide))

theorem exec_viaInitRx_down (hDown : (s.viaLink p).up = false) :
    exec (.viaInitRx p f) s = .next ((s.recordPeer p f).sendInit p 12) := by
  rw [exec_viaInitRx_good hRuns hGood, State.initRx, if_pos (by simp [hDown])]

theorem exec_viaInitRx_known (hUp : (s.viaLink p).up = true) (hPeer : frameEpoch f = (s.viaLink p).peerEpoch)
    (hStale : (s.viaLink p).StaleAck f.deck) : exec (.viaInitRx p f) s = .next (s.sendInit p 12) := by
  rw [exec_viaInitRx_good hRuns hGood, State.initRx, if_neg (by simp [hUp]), if_pos hPeer, State.frameAck_stale hStale]

theorem exec_viaInitRx_other (hUp : (s.viaLink p).up = true) (hPeer : frameEpoch f ≠ (s.viaLink p).peerEpoch) :
    exec (.viaInitRx p f) s = .next ((s.viaReset p 6).sendInit p 12) := by
  rw [exec_viaInitRx_good hRuns hGood, State.initRx, if_neg (by simp [hUp]), if_neg hPeer]

end

section
variable (hRuns : s.viaRuns p = true) (hGood : frameGood f 12 = true)
include hRuns hGood

theorem exec_viaInitAckRx_good : exec (.viaInitAckRx p f) s = .next (s.initAckRx p f) :=
  congrArg Host.Outcome.next (State.onControl_good hRuns hGood (by decide))

theorem exec_viaInitAckRx_down (hDown : (s.viaLink p).up = false) (hMine : framePeerEpoch f = (s.viaLink p).epoch) :
    exec (.viaInitAckRx p f) s = .next (s.recordPeer p f) := by
  rw [exec_viaInitAckRx_good hRuns hGood, State.initAckRx, if_neg (by simp [hMine]), if_pos (by simp [hDown]), if_pos hMine]

theorem exec_viaInitAckRx_foreign (hSome : framePeerEpoch f ≠ 0) (hForeign : framePeerEpoch f ≠ (s.viaLink p).epoch) :
    exec (.viaInitAckRx p f) s = .next s := by
  rw [exec_viaInitAckRx_good hRuns hGood, State.initAckRx, 
    if_pos (Bool.and_eq_true_iff.mpr ⟨decide_eq_true hSome, decide_eq_true hForeign⟩)]

theorem exec_viaInitAckRx_other (hUp : (s.viaLink p).up = true) (hMine : framePeerEpoch f = 0 ∨ framePeerEpoch f = (s.viaLink p).epoch)
    (hPeer : frameEpoch f ≠ (s.viaLink p).peerEpoch) : exec (.viaInitAckRx p f) s = .next (s.viaReset p 6) := by
  have hTaken : ¬ (decide (framePeerEpoch f ≠ 0) && decide (framePeerEpoch f ≠ (s.viaLink p).epoch)) = true := by
    rcases hMine with h | h <;> simp [h]
  rw [exec_viaInitAckRx_good hRuns hGood, State.initAckRx, if_neg hTaken, if_neg (by simp [hUp]), if_neg hPeer]

end

/-! ### Credit and holds (R226, R280) -/

section
variable (hRuns : s.viaRuns p = true) (hGood : frameGood f 10 = true)
include hRuns hGood

theorem exec_viaCreditRx_good : exec (.viaCreditRx p f) s = .next (s.creditRx p f) :=
  congrArg Host.Outcome.next (State.onControl_good hRuns hGood (by decide))

theorem exec_viaCreditRx_up (hUp : (s.viaLink p).up = true) (hStale : (s.viaLink p).StaleAck f.deck) :
    exec (.viaCreditRx p f) s = .next (s.setVia p { s.viaLink p with granted := frameGranted f }) := by
  rw [exec_viaCreditRx_good hRuns hGood, State.creditRx, if_pos hUp, State.frameAck_stale hStale]

theorem exec_viaCreditRx_down (hDown : (s.viaLink p).up = false) : exec (.viaCreditRx p f) s = .next s := by
  rw [exec_viaCreditRx_good hRuns hGood, State.creditRx, if_neg (by simp [hDown])]

end

/-- CREDIT notes the values that it carries. -/
theorem State.sendCredit_eq (p : Nat) : s.sendCredit p =
    (s.setVia p { s.viaLink p with lastCredit := (s.viaLink p).grant }).sendControl p 10 (s.viaLink p).grant.words := by
  unfold State.sendCredit
  dsimp -proj only
  rw [State.viaLink_setVia_same]

theorem State.sendCredit_puts (p : Nat) : PutsLink p { s.viaLink p with lastCredit := (s.viaLink p).grant, ackDue := false } s
    (s.sendCredit p) := by
  have hCredit := State.setVia_puts (s := s) p { s.viaLink p with lastCredit := (s.viaLink p).grant }
  have hSent := hCredit.trans (State.sendControl_puts p 10 (s.viaLink p).grant.words)
  rw [hCredit.link] at hSent
  rwa [State.sendCredit_eq]

theorem State.sendCredit_emitted (p : Nat) : (s.sendCredit p).emitted
    = .viaControl p (controlBytes 10 (s.viaLink p).ack (s.viaLink p).grant.words) :: s.emitted := by
  rw [State.sendCredit_eq, State.sendControl_emitted, State.viaLink_setVia_same]
  rfl

theorem exec_viaHoldWrite_open {w : Fin 32} {v : Word} (hOpen : s.closed 0xC0A000 = false) :
    exec (.viaHoldWrite w v) s = .next (s.setReg (0xC0A000 + w * 4) v) := if_neg (by simp [hOpen])

end

/-- Settles O29: each clause is one command on one link; a reset draws an epoch that differs from the one before it, since
the release of the abandoned copies leaves the epoch and the limits of the link. -/
theorem viaductLinksStart : Obligations.ViaductLinksStart := by
  unfold Obligations.ViaductLinksStart
  refine ⟨?initTimer, ?initDown, ?initKnown, ?initOther, ?initAckDown, ?creditTimer, ?creditUp, ?unusable, ?badCrc, ?silent,
    ?timerUp, ?initAckForeign, ?initAckOther, ?creditDown, ?hold⟩
  case initTimer =>
    intro p s hRuns hDown
    obtain ⟨hLink, hOthers⟩ := State.sendInit_puts (s := s) p 11
    exact ⟨_, exec_viaInitTimer_down hRuns hDown, State.sendInit_emitted _ _, hLink, hOthers, State.sendInit_moves.only⟩
  case initDown =>
    intro p f s hRuns hGood hDown
    have hPeer := State.recordPeer_puts (s := s) p f
    have hSent := hPeer.trans (State.sendInit_puts p 12)
    rw [hPeer.link] at hSent
    refine ⟨_, exec_viaInitRx_down hRuns hGood hDown, hSent.link, ?_, hSent.others,
      (Moves.step State.sendInit_moves (by decide) (State.recordPeer_moves.mono (by decide))).only⟩
    rw [State.sendInit_emitted, hPeer.link]
    rfl
  case initKnown =>
    intro p f s hRuns hGood hUp hPeer hStale
    obtain ⟨hLink, hOthers⟩ := State.sendInit_puts (s := s) p 12
    exact ⟨_, exec_viaInitRx_known hRuns hGood hUp hPeer hStale, hLink, State.sendInit_emitted _ _, hOthers,
      State.sendInit_moves.only⟩
  case initOther =>
    intro p f s hRuns hGood hUp hPeer
    obtain ⟨e, hZero, hPrev, hReset⟩ := State.viaReset_spec (s := s) p 6
    have hLink := (State.sendInit_puts (s := s.viaReset p 6) p 12).link
    rw [hReset] at hLink
    refine ⟨_, exec_viaInitRx_other hRuns hGood hUp hPeer, ?_⟩
    rw [hLink, State.sendInit_emitted, hReset, ← resetLink_ack e (s.viaLimits p)]
    exact ⟨rfl, hZero, hPrev, rfl, rfl, rfl, rfl, rfl, rfl⟩
  case initAckDown =>
    intro p f s hRuns hGood hDown hMine
    obtain ⟨hLink, hOthers⟩ := State.recordPeer_puts (s := s) p f
    exact ⟨_, exec_viaInitAckRx_down hRuns hGood hDown hMine, hLink, hOthers, State.recordPeer_moves.only⟩
  case creditTimer =>
    intro p s hRuns
    obtain ⟨hLink, hOthers⟩ := State.sendCredit_puts (s := s) p
    exact ⟨_, exec_viaCreditTimer_runs hRuns, State.sendCredit_emitted _, hLink, hOthers, State.sendCredit_moves.only⟩
  case creditUp =>
    intro p f s hRuns hGood hUp hStale
    obtain ⟨hLink, hOthers⟩ := State.setVia_puts (s := s) p { s.viaLink p with granted := frameGranted f }
    exact ⟨_, exec_viaCreditRx_up hRuns hGood hUp hStale, hLink, hOthers, State.setVia_moves.only⟩
  case unusable => exact fun p f s hRuns hDeck => exec_controlFrames fun _ _ => State.onControl_unusable hRuns hDeck
  case badCrc => exact fun p f s hDeck hCrc => exec_controlFrames fun _ _ => State.onControl_badCrc hDeck hCrc
  case silent =>
    intro p f s hRuns
    obtain ⟨hAck, hNak, hCredit, hInit, hInitAck⟩ := exec_controlFrames (s := s) (f := f) fun _ _ => State.onControl_silent hRuns
    exact ⟨hAck, hNak, hCredit, hInit, hInitAck, exec_viaInitTimer_idle (.inl hRuns), exec_viaCreditTimer_silent hRuns⟩
  case timerUp => exact fun p s hUp => ⟨s, exec_viaInitTimer_idle (.inr hUp), rfl⟩
  case initAckForeign =>
    exact fun p f s hRuns hGood hSome hForeign => ⟨s, exec_viaInitAckRx_foreign hRuns hGood hSome hForeign, rfl⟩
  case initAckOther =>
    intro p f s hRuns hGood hUp hMine hPeer
    obtain ⟨e, hZero, hPrev, hReset⟩ := State.viaReset_spec (s := s) p 6
    refine ⟨_, exec_viaInitAckRx_other hRuns hGood hUp hMine hPeer, ?_⟩
    rw [hReset]
    exact ⟨rfl, hZero, hPrev, rfl, rfl, rfl, rfl, rfl⟩
  case creditDown => exact fun p f s hRuns hGood hDown => ⟨s, exec_viaCreditRx_down hRuns hGood hDown, rfl⟩
  case hold =>
    exact fun w v s hOpen => ⟨_, exec_viaHoldWrite_open hOpen, State.reg_setReg_same _ _ _,
      fun o ho => State.reg_setReg_ne _ _ _ _ ho, State.setReg_moves.only⟩

end Sys2Proof.Machine
end

section
/-! PROOFS. Link retry: what the receiver makes of DATA, what an acknowledgement, a NAK and a timeout do at the sender, and
what a link hold that ends abandons (R225, R226, R239, R250). -/

namespace Sys2Proof.Machine

variable {s t : State}

/-! ### Acknowledgements (R225) -/

/-- The ACK of a frame lies inside the window. -/
def ViaLink.FreshAck (l : ViaLink) (deck : DWord) : Prop :=
  (deckAck deck + 2 ^ 24 - l.una) % 2 ^ 24 < (l.next + 2 ^ 24 - l.una) % 2 ^ 24

/-- The copies that end DELIVERED leave what the acknowledgement wrote of the link. -/
theorem State.frameAck_fresh {p : Nat} {deck : DWord} (hUp : (s.viaLink p).up = true) (hFresh : (s.viaLink p).FreshAck deck) :
    ((s.frameAck p deck).viaLink p).una = (deckAck deck + 1) % 2 ^ 24 ∧ ((s.frameAck p deck).viaLink p).retries = 0 := by
  have hEach {y : State} {e : RetryEntry} : KeepsSender y (y.ackCopy p e) :=
    (KeepsSender.moves State.outcome_moves (by decide) (by decide) (by decide)).trans (State.release_keepsSender _ _)
  have hDone {y : State} {l : List RetryEntry} : KeepsSender y (l.foldl (fun s e => s.ackCopy p e) (y.dropRerun p)) :=
    (State.dropRerun_keepsSender p).trans (.fold fun _ _ => hEach)
  unfold ViaLink.FreshAck at hFresh
  unfold State.frameAck
  rw [if_pos hUp]
  unfold State.viaAck
  dsimp -proj only
  rw [if_pos hFresh, (hDone.links p).una, (hDone.links p).retries, State.viaLink_setVia_same]
  exact ⟨rfl, rfl⟩

/-! ### The receiver (R225) -/

/-- A NAK has left: it carries a due ACK, and no other leaves before DATA in sequence has arrived. -/
structure SendsNak (p : Nat) (s t : State) : Prop where
  puts : PutsLink p { s.viaLink p with nakSent := true, ackDue := false } s t
  emitted : t.emitted = .viaControl p (controlBytes 9 (s.viaLink p).ack []) :: s.emitted
  counter : t.counter (cPort p 20) = (s.counter (cPort p 20) + 1) % 2 ^ 64
  only : OnlyTouches [.counters, .emitted, .via] s t

theorem State.sendNak_sends {p : Nat} (h : (s.viaLink p).nakSent = false) : SendsNak p s (s.sendNak p) := by
  have hMark := State.setVia_puts (s := s) p { s.viaLink p with nakSent := true }
  have hSent := hMark.trans (State.sendControl_puts p 9 [])
  rw [hMark.link] at hSent
  have hEq : s.sendNak p = ((s.setVia p { s.viaLink p with nakSent := true }).sendControl p 9 []).count (cPort p 20) 1 :=
    if_neg (by simp [h])
  refine ⟨?_, ?_, ?_, State.sendNak_moves.only⟩ <;> rw [hEq]
  · exact hSent.moves State.count_moves (by decide)
  · rw [State.count_emitted, State.sendControl_emitted, State.viaLink_setVia_same]
    rfl
  · exact (State.counter_count _ _ _ _).trans (if_pos rfl)

/-- DATA in sequence allows a NAK again, which leaves at once. -/
theorem State.nakAgain_sends (p : Nat) : SendsNak p s ((s.nakAgain p).sendNak p) := by
  have hAgain := State.setVia_puts (s := s) p { s.viaLink p with nakSent := false }
  have hLink : (s.nakAgain p).viaLink p = { s.viaLink p with nakSent := false } := hAgain.link
  obtain ⟨hPuts, hEmitted, hCounter, -⟩ := State.sendNak_sends (s := s.nakAgain p) (congrArg ViaLink.nakSent hLink)
  rw [hLink] at hPuts hEmitted
  exact ⟨hAgain.trans hPuts, hEmitted, hCounter, (Moves.step State.sendNak_moves (by decide) (State.nakAgain_moves.mono (by decide))).only⟩

theorem State.sendNak_keepsLinks (p : Nat) : KeepsLinks s (s.sendNak p) := by
  cases h : (s.viaLink p).nakSent with
  | true =>
    rw [State.sendNak, if_pos h]
    exact .refl
  | false => exact (State.sendNak_sends h).puts.keepsLinks ⟨rfl, rfl, rfl, id⟩

section
variable {p seq : Nat} {good : Bool} {d : Option DescId}

theorem State.viaReceive_accepted (hSeq : seq = (s.viaLink p).e) (hAccepted : s.dataAccepted d = true) :
    s.viaReceive p seq true d = s.setVia p { s.viaLink p with e := ((s.viaLink p).e + 1) % 2 ^ 24, ackDue := true, nakSent := false } := by
  unfold State.viaReceive
  rw [if_pos hSeq, hAccepted]
  rfl

theorem State.viaReceive_bad (hSeq : seq = (s.viaLink p).e) : s.viaReceive p seq false d = (s.nakAgain p).sendNak p := by
  unfold State.viaReceive
  rw [if_pos hSeq]
  rfl

theorem State.viaReceive_behind (hSeq : seq ≠ (s.viaLink p).e) (hBehind : 2 ^ 23 ≤ (seq + 2 ^ 24 - (s.viaLink p).e) % 2 ^ 24) :
    s.viaReceive p seq good d = (s.setVia p { s.viaLink p with ackDue := true }).count (cPort p 19) 1 := by
  unfold State.viaReceive
  rw [if_neg hSeq, if_pos hBehind]

theorem State.viaReceive_ahead (hSeq : seq ≠ (s.viaLink p).e) (hAhead : (seq + 2 ^ 24 - (s.viaLink p).e) % 2 ^ 24 < 2 ^ 23) :
    s.viaReceive p seq good d = s.sendNak p := by
  unfold State.viaReceive
  rw [if_neg hSeq, if_neg (Nat.not_le.mpr hAhead)]

/-- What the receiver does leaves the sender's side of the link. -/
theorem State.viaReceive_keepsLinks (p seq : Nat) (good : Bool) (d : Option DescId) : KeepsLinks s (s.viaReceive p seq good d) := by
  have hDue : KeepsLinks s (s.setVia p { s.viaLink p with ackDue := true }) :=
    (State.setVia_puts _ _).keepsLinks ⟨rfl, rfl, rfl, id⟩
  unfold State.viaReceive
  dsimp -proj only
  split
  · split
    · exact (State.setVia_puts _ _).keepsLinks ⟨rfl, rfl, rfl, id⟩
    · exact (State.nakAgain_sends p).puts.keepsLinks ⟨rfl, rfl, rfl, id⟩
  · split
    · exact hDue.trans (.moves State.count_moves (by decide))
    · exact State.sendNak_keepsLinks p

end

section
variable {p : Port} {deck : DWord} {good : Bool} {d : Option DescId}

theorem exec_viaDataRx_ignored (h : s.viaRuns p = false ∨ deckGood deck = false ∨ 1 < deckType deck) :
    exec (.viaDataRx p deck good d) s = .next s :=
  if_pos (by rcases h with h | h | h <;> simp [h])

section
variable (hRuns : s.viaRuns p = true) (hDeck : deckGood deck = true)
include hRuns hDeck

theorem exec_viaDataRx_data (hType : deckType deck = 0) : exec (.viaDataRx p deck good d) s
    = .next ((s.frameAck p deck).viaReceive p (deckSeq deck) good d) :=
  (if_neg (by simp [hRuns, hDeck, hType])).trans (if_pos hType)

theorem exec_viaDataRx_empty (hType : deckType deck = 1) : exec (.viaDataRx p deck good d) s = .next (s.frameAck p deck) :=
  (if_neg (by simp [hRuns, hDeck, hType])).trans (if_neg (by simp [hType]))

theorem exec_viaDataRx_stale (hType : deckType deck = 0) (hStale : (s.viaLink p).StaleAck deck) :
    exec (.viaDataRx p deck good d) s = .next (s.viaReceive p (deckSeq deck) good d) := by
  rw [exec_viaDataRx_data hRuns hDeck hType, State.frameAck_stale hStale]

end

theorem exec_viaDataRx_emptyStale (hType : deckType deck = 1) (hStale : (s.viaLink p).StaleAck deck) :
    exec (.viaDataRx p deck good d) s = .next s := by
  cases hRuns : s.viaRuns p with
  | false => exact exec_viaDataRx_ignored (.inl hRuns)
  | true =>
    cases hDeck : deckGood deck with
    | false => exact exec_viaDataRx_ignored (.inr (.inl hDeck))
    | true => rw [exec_viaDataRx_empty hRuns hDeck hType, State.frameAck_stale hStale]

end

/-! ### The sender (R225) -/

theorem State.retransmitFrom_puts {p : Nat} (q : Nat) (hIdle : (s.viaLink p).retransmit = false)
    (hWaits : (s.viaLink p).una ≠ (s.viaLink p).next) :
    PutsLink p { s.viaLink p with retransmit := true, resend := q } s (s.retransmitFrom p q) := by
  unfold State.retransmitFrom
  dsimp -proj only
  rw [if_neg (by simp [hIdle, hWaits])]
  exact State.setVia_puts _ _

/-- A timeout counts, and resends from the oldest unacknowledged frame. -/
theorem State.timeoutResends_puts {p : Nat} (hIdle : (s.viaLink p).retransmit = false)
    (hWaits : (s.viaLink p).una ≠ (s.viaLink p).next) :
    PutsLink p { s.viaLink p with retries := (s.viaLink p).retries + 1, retransmit := true, resend := (s.viaLink p).una } s
      ((s.setVia p { s.viaLink p with retries := (s.viaLink p).retries + 1 }).retransmitFrom p (s.viaLink p).una) := by
  have hCount := State.setVia_puts (s := s) p { s.viaLink p with retries := (s.viaLink p).retries + 1 }
  have hResend := hCount.trans (State.retransmitFrom_puts (s.viaLink p).una (by rw [hCount.link]; exact hIdle)
    (by rw [hCount.link]; exact hWaits))
  rwa [hCount.link] at hResend

theorem State.retransmitFrom_nothing {p : Nat} (q : Nat) (h : (s.viaLink p).una = (s.viaLink p).next ∨ (s.viaLink p).retransmit = true) :
    s.retransmitFrom p q = s :=
  if_pos (by rcases h with h | h <;> simp [h])

theorem State.count_counter_same (off : Nat) : (s.count off 1).counter off = (s.counter off + 1) % 2 ^ 64 :=
  (State.counter_count _ _ _ _).trans (if_pos rfl)

theorem State.latchFault_n_keepsLinks (src : Nat) : KeepsLinks s (s.latchFault src .n) :=
  .moves (State.latchFault_n_halts _ _ _ _) (by decide)

/-- A port that leaves UP keeps what it was sending ahead of its queue (R340). -/
theorem State.leaveUp_keepsLinks (p next : Nat) : KeepsLinks s (s.leaveUp p next) := by
  have hAhead : KeepsLinks s (s.keepAhead p) := by
    unfold State.keepAhead
    split
    · exact (KeepsLinks.moves State.dropPass_moves (by decide)).trans (State.stompAhead_keepsLinks p)
    · exact .refl
  have hLanes {y : State} : KeepsLinks y ((y.lanesOf p).foldl (State.lowerLane next) y) :=
    .fold fun _ _ => (((KeepsLinks.moves State.setFld_moves (by decide)).trans (.moves State.setFld_moves (by decide))).trans
      (.moves State.setFld_moves (by decide))).trans (.moves State.eyeAbort_moves (by decide))
  rw [State.leaveUp_eq]
  exact ((((hAhead.trans hLanes).trans (.moves State.setBit_moves (by decide))).trans (.moves State.count_moves (by decide))).trans
    (State.latchFault_n_keepsLinks _)).trans (.moves State.irq_moves (by decide))

theorem State.bringupFail_keepsLinks (p : Nat) : KeepsLinks s (s.bringupFail p) := by
  have hShow {v : Nat} {x : LaneRec} : KeepsLinks s ((s.showLanes p 20 16 v).setLane p x) :=
    (KeepsLinks.moves State.showLanes_moves (by decide)).trans (.moves State.setLane_moves (by decide))
  unfold State.bringupFail
  dsimp -proj only
  split
  · exact ((hShow.trans (.moves State.setPortState_moves (by decide))).trans (.moves State.emitLanes_moves (by decide))).trans
      (State.latchFault_n_keepsLinks _)
  · exact hShow.trans (.moves State.enterWait_moves (by decide))

theorem State.linkFails_keepsLinks (p : Nat) : KeepsLinks s (s.linkFails p) := by
  have hLost : KeepsLinks s (s.linkLost p) :=
    (((State.leaveUp_keepsLinks p 1).trans (.moves State.setLane_moves (by decide))).trans
      (.moves State.showLanes_moves (by decide))).trans (.moves State.emit_moves (by decide))
  by_cases h : s.portState p = 5
  · rw [State.linkFails_eq h]
    split
    · exact hLost.trans (State.bringupFail_keepsLinks p)
    · exact hLost.trans (.moves State.enterWait_moves (by decide))
  · rw [State.linkFails, if_neg h]
    exact .refl

/-- The eighth timeout in a row: what is unacknowledged is abandoned, and the link is taken down under a class-S fault. -/
def State.retryEnds (s : State) (p : Nat) : State :=
  (((s.setVia p { s.viaLink p with retries := 8 }).abandonRetry p 5).linkFails p).latchFault (macSource p) .s

theorem State.retryEnds_spec (p : Nat) : ((s.retryEnds p).source (macSource p)).cause = true ∧
    ((s.retryEnds p).source (macSource p)).cls = .s ∧ ((s.retryEnds p).viaLink p).retry = [] := by
  have hSource := State.latchFault_source (s := ((s.setVia p { s.viaLink p with retries := 8 }).abandonRetry p 5).linkFails p)
    (macSource p) .s 0 false false (macSource p) (.inr (by decide)) (.inl (pipeOfSource_mac p))
  rw [if_pos rfl] at hSource
  have hLink : (s.retryEnds p).viaLink p = _ :=
    State.viaLink_moves (State.latchFault_s_halts _ _ _ _ (pipeOfSource_mac p)) (by decide) p
  refine ⟨congrArg SourceRec.cause hSource, congrArg SourceRec.cls hSource, ?_⟩
  rw [hLink]
  exact (State.linkFails_keepsLinks p p).retry (State.abandonRetry_retry p 5)

section
variable {p : Port} {f : ViaFrame}

theorem exec_viaAckRx_good (hRuns : s.viaRuns p = true) (hGood : frameGood f 8 = true) :
    exec (.viaAckRx p f) s = .next (s.frameAck p f.deck) :=
  congrArg Host.Outcome.next (State.onControl_good hRuns hGood (by decide))

theorem exec_viaAckRx_stale (hGood : frameGood f 8 = true) (hStale : (s.viaLink p).StaleAck f.deck) :
    exec (.viaAckRx p f) s = .next s :=
  congrArg Host.Outcome.next (State.onControl_idle hGood (by decide) (State.frameAck_stale hStale))

/-- A NAK whose acknowledgement is stale is counted, and asks for a retransmission from the frame after it. -/
theorem exec_viaNakRx_stale (hRuns : s.viaRuns p = true) (hGood : frameGood f 9 = true) (hStale : (s.viaLink p).StaleAck f.deck) :
    exec (.viaNakRx p f) s = .next ((s.count (cPort p 21) 1).retransmitFrom p ((deckAck f.deck + 1) % 2 ^ 24)) := by
  have hUnfold : exec (.viaNakRx p f) s = .next (s.nakRx p f) :=
    congrArg Host.Outcome.next (State.onControl_good hRuns hGood (by decide))
  rw [hUnfold, State.nakRx, State.frameAck_stale (s := s.count (cPort p 21) 1) hStale]

theorem exec_viaRetransmitDone_running (h : (s.viaLink p).retransmit = false ∨ (s.viaLink p).due ≠ none ∨ s.tx p ≠ none) :
    exec (.viaRetransmitDone p) s = .next s :=
  if_neg (by rcases h with h | h | h <;> simp [h])

theorem exec_viaRetransmitDone_ends (hRetransmit : (s.viaLink p).retransmit = true) (hDue : (s.viaLink p).due = none)
    (hTx : s.tx p = none) : exec (.viaRetransmitDone p) s = .next (s.setVia p { s.viaLink p with retransmit := false }) :=
  if_pos (by simp [hRetransmit, hDue, hTx])

theorem exec_viaAckTimer_idle (h : s.viaRuns p = false ∨ (s.viaLink p).ackDue = false) : exec (.viaAckTimer p) s = .next s :=
  if_neg (by rcases h with h | h <;> simp [h])

theorem exec_viaAckTimer_due (hRuns : s.viaRuns p = true) (hDue : (s.viaLink p).ackDue = true) :
    exec (.viaAckTimer p) s = .next (s.sendControl p 8 []) := if_pos (by simp [hRuns, hDue])

theorem exec_viaRetryTimeout_idle (h : s.viaRuns p = false ∨ s.viaHeld p = true ∨ (s.viaLink p).retransmit = true ∨
    (s.viaLink p).una = (s.viaLink p).next) : exec (.viaRetryTimeout p) s = .next s :=
  if_pos (by rcases h with h | h | h | h <;> simp [h])

section
variable (hRuns : s.viaRuns p = true) (hHeld : s.viaHeld p = false) (hIdle : (s.viaLink p).retransmit = false)
  (hWaits : (s.viaLink p).una ≠ (s.viaLink p).next)
include hRuns hHeld hIdle hWaits

theorem exec_viaRetryTimeout_again (hRetries : (s.viaLink p).retries < 7) : exec (.viaRetryTimeout p) s
    = .next ((s.setVia p { s.viaLink p with retries := (s.viaLink p).retries + 1 }).retransmitFrom p (s.viaLink p).una) :=
  (if_neg (by simp [hRuns, hHeld, hIdle, hWaits])).trans (if_neg (by omega))

theorem exec_viaRetryTimeout_eighth (hRetries : 7 ≤ (s.viaLink p).retries) :
    exec (.viaRetryTimeout p) s = .next (s.retryEnds p) :=
  (if_neg (by simp [hRuns, hHeld, hIdle, hWaits])).trans (if_pos (by omega))

end

end

/-! ### A link hold that ends (R250) -/

/-- A queue gives up its entries. -/
def State.clearQueue (s : State) (q : Nat) : State := ((s.setAhead q []).setQueue q []).resetEmpty q

theorem State.clearQueue_moves {q : Nat} : Moves [.egr] s (s.clearQueue q) :=
  .step State.resetEmpty_moves (by decide) (.step State.setQueue_moves (by decide) State.setAhead_moves)

theorem State.clearQueue_queueEmpty (q r : Nat) : (s.clearQueue q).queueEmpty r = if r = q then true else s.queueEmpty r := by
  rw [State.clearQueue, State.resetEmpty_queueEmpty, State.setQueue_queueEmpty]
  by_cases h : r = q
  · have hAhead : (s.setAhead q []).aheadOf r = [] := (State.aheadOf_setAhead _ _ _).trans (if_pos h)
    rw [if_pos h, if_pos h]
    exact congrArg List.isEmpty hAhead
  · have hAhead : (s.setAhead q []).aheadOf r = s.aheadOf r := (State.aheadOf_setAhead _ _ _).trans (if_neg h)
    rw [if_neg h, if_neg h]
    exact congrArg (fun l : List QEntry => (s.queue r).isEmpty && l.isEmpty) hAhead

theorem State.clearQueue_expired (q : Nat) : (s.clearQueue q).egr.expired = s.egr.expired := by
  unfold State.clearQueue State.resetEmpty
  split <;> rfl

/-- A copy that is queued for a port ends ABANDONED; a message has no frame. -/
def State.abandonEntry (p q : Nat) (s : State) (e : QEntry) : State :=
  if e.msg.isEmpty then (((s.freeEntry e).count (cPort p 24) 1).lose e.desc p 4).release e.desc (holderQueue q e.idx) else s

/-- What is queued in one of its queues is abandoned. -/
def State.abandonQueue (s : State) (p q : Nat) : State :=
  (s.aheadOf q ++ s.queue q).foldl (State.abandonEntry p q) (s.clearQueue q)

theorem State.abandonPort_eq (p : Nat) :
    s.abandonPort p = (List.range 16).foldl (fun s i => s.abandonQueue p (p * 16 + i)) s := rfl

theorem State.abandonQueue_after_clearQueue (p q : Nat) : KeepsSender (s.clearQueue q) (s.abandonQueue p q) := by
  refine .fold fun y e => ?_
  unfold State.abandonEntry
  split
  · exact (((State.freeEntry_keepsSender e).trans (.moves State.count_moves (by decide) (by decide) (by decide))).trans
      (State.lose_keepsSender _ _ _)).trans (State.release_keepsSender _ _)
  · exact .refl

theorem State.abandonQueue_empties (p q : Nat) : (s.abandonQueue p q).queueEmpty q = true :=
  (State.abandonQueue_after_clearQueue p q).empty q ((State.clearQueue_queueEmpty q q).trans (if_pos rfl))

theorem State.abandonQueue_keepsSender (p q : Nat) : KeepsSender s (s.abandonQueue p q) := by
  refine .trans (.of_queues State.clearQueue_moves (by decide) (by decide) fun r hr => ?_) (State.abandonQueue_after_clearQueue p q)
  rw [State.clearQueue_queueEmpty, hr, ite_self]

/-- An empty queue has nothing to abandon. -/
theorem State.abandonQueue_empty {p q : Nat} (h : s.queueEmpty q = true) : s.abandonQueue p q = s.clearQueue q := by
  simp only [State.queueEmpty, Bool.and_eq_true, List.isEmpty_iff] at h
  obtain ⟨hQueue, hAhead⟩ := h
  rw [State.abandonQueue, hQueue, hAhead]
  rfl

/-- Each queue is emptied in its turn, and what follows leaves it empty. -/
theorem State.abandonQueues_empty {p i : Nat} {l : List Nat} (hi : i ∈ l) :
    (l.foldl (fun s i => s.abandonQueue p (p * 16 + i)) s).queueEmpty (p * 16 + i) = true := by
  induction l generalizing s with
  | nil => cases hi
  | cons j l ih =>
    rcases List.mem_cons.mp hi with rfl | hi
    · have hRest : KeepsSender (s.abandonQueue p (p * 16 + i))
          (l.foldl (fun s i => s.abandonQueue p (p * 16 + i)) (s.abandonQueue p (p * 16 + i))) :=
        .fold fun _ _ => State.abandonQueue_keepsSender _ _
      exact hRest.empty _ (State.abandonQueue_empties _ _)
    · exact ih hi

/-- With nothing queued, the walk over the queues of the port touches only the egress side, and not the ports whose hold has
ended. -/
theorem State.abandonQueues_nothing {p : Nat} (l : List Nat) (h : ∀ i ∈ l, s.queueEmpty (p * 16 + i) = true) :
    (l.foldl (fun s i => s.abandonQueue p (p * 16 + i)) s).regs = s.regs ∧
      (l.foldl (fun s i => s.abandonQueue p (p * 16 + i)) s).egr.expired = s.egr.expired := by
  induction l generalizing s with
  | nil => exact ⟨rfl, rfl⟩
  | cons i l ih =>
    obtain ⟨hi, hl⟩ := List.forall_mem_cons.mp h
    obtain ⟨hRegs, hExpired⟩ := ih (s := s.clearQueue (p * 16 + i)) fun j hj => by
      rw [State.clearQueue_queueEmpty, hl j hj, ite_self]
    rw [List.foldl_cons, State.abandonQueue_empty hi]
    exact ⟨hRegs.trans (State.clearQueue_moves.same .regs (by decide)), hExpired.trans (State.clearQueue_expired _)⟩

/-- LINK_HOLD of a port has ended. -/
def State.holdEnds (s : State) (p : Nat) : State := { s with egr := { s.egr with expired := addOnce s.egr.expired p } }

section
variable {p : Port}

theorem exec_linkHoldExpire_none (h : s.viaduct p = true ∨ s.linkUp p = true) : exec (.linkHoldExpire p) s = .next s :=
  if_pos (by rcases h with h | h <;> simp [h])

theorem exec_linkHoldExpire_down (hOrdinary : s.viaduct p = false) (hDown : s.linkUp p = false) :
    exec (.linkHoldExpire p) s = .next ((s.holdEnds p).abandonPort p) := if_neg (by simp [hOrdinary, hDown])

end

/-- Settles O30: each clause is one command at one end of a link; the copies that an acknowledgement, the eighth timeout or
the end of a hold releases leave the sequence state of every link and fill no queue. -/
theorem viaductLinksRetry : Obligations.ViaductLinksRetry := by
  unfold Obligations.ViaductLinksRetry
  refine ⟨?accepted, ?behind, ?bad, ?ahead, ?ackFresh, ?dataIgnored, ?dataFresh, ?ackStale, ?nak, ?resendRuns, ?timeoutIdle,
    ?ackTimerIdle, ?holdNone, ?nakNothing, ?resendEnds, ?timeoutAgain, ?timeoutEighth, ?ackTimerDue, ?holdEmpty, ?holdEnds⟩
  case accepted =>
    intro p deck d s hRuns hDeck hType hSeq hAccepted hStale
    obtain ⟨hLink, hOthers⟩ := State.setVia_puts (s := s) p
      { s.viaLink p with e := ((s.viaLink p).e + 1) % 2 ^ 24, ackDue := true, nakSent := false }
    refine ⟨_, exec_viaDataRx_stale hRuns hDeck hType hStale, ?_⟩
    rw [State.viaReceive_accepted hSeq hAccepted]
    exact ⟨hLink, hOthers, State.setVia_moves.only⟩
  case behind =>
    intro p deck good d s hRuns hDeck hType hSeq hBehind hStale
    obtain ⟨hLink, hOthers⟩ := (State.setVia_puts (s := s) p { s.viaLink p with ackDue := true }).moves
      (State.count_moves (off := cPort p 19) (n := 1)) (by decide)
    refine ⟨_, exec_viaDataRx_stale hRuns hDeck hType hStale, ?_⟩
    rw [State.viaReceive_behind hSeq hBehind]
    exact ⟨hLink, State.count_counter_same _, hOthers,
      (Moves.step State.count_moves (by decide) (State.setVia_moves.mono (by decide))).only⟩
  case bad =>
    intro p deck d s hRuns hDeck hType hSeq hStale
    obtain ⟨⟨hLink, hOthers⟩, hEmitted, hCounter, hOnly⟩ := State.nakAgain_sends (s := s) p
    refine ⟨_, exec_viaDataRx_stale hRuns hDeck hType hStale, ?_⟩
    rw [State.viaReceive_bad hSeq]
    exact ⟨hLink, hEmitted, hCounter, hOthers, hOnly⟩
  case ahead =>
    intro p deck good d s hRuns hDeck hType hSeq hAhead hUnsent hStale
    obtain ⟨⟨hLink, hOthers⟩, hEmitted, hCounter, hOnly⟩ := State.sendNak_sends hUnsent
    refine ⟨_, exec_viaDataRx_stale hRuns hDeck hType hStale, ?_⟩
    rw [State.viaReceive_ahead hSeq hAhead]
    exact ⟨hLink, hEmitted, hCounter, hOthers, hOnly⟩
  case ackFresh =>
    exact fun p f s hRuns hGood hUp hFresh => ⟨_, exec_viaAckRx_good hRuns hGood, State.frameAck_fresh hUp hFresh⟩
  case dataIgnored =>
    rintro p deck good d s (hSilent | hBad | hKind | ⟨hType, hStale⟩)
    · exact ⟨s, exec_viaDataRx_ignored (.inl hSilent), rfl⟩
    · exact ⟨s, exec_viaDataRx_ignored (.inr (.inl hBad)), rfl⟩
    · exact ⟨s, exec_viaDataRx_ignored (.inr (.inr hKind)), rfl⟩
    · exact ⟨s, exec_viaDataRx_emptyStale hType hStale, rfl⟩
  case dataFresh =>
    intro p deck good d s hRuns hDeck hType hUp hFresh
    obtain ⟨hUna, hRetries⟩ := State.frameAck_fresh hUp hFresh
    rcases (by omega : deckType deck = 0 ∨ deckType deck = 1) with hData | hEmpty
    · have hKeeps := State.viaReceive_keepsLinks (s := s.frameAck p deck) p (deckSeq deck) good d p
      exact ⟨_, exec_viaDataRx_data hRuns hDeck hData, hKeeps.una.trans hUna, hKeeps.retries.trans hRetries⟩
    · exact ⟨_, exec_viaDataRx_empty hRuns hDeck hEmpty, hUna, hRetries⟩
  case ackStale => exact fun p f s hGood hStale => ⟨s, exec_viaAckRx_stale hGood hStale, rfl⟩
  case nak =>
    intro p f s hRuns hGood hWaits hIdle hStale
    obtain ⟨hLink, hOthers⟩ := State.retransmitFrom_puts (s := s.count (cPort p 21) 1) ((deckAck f.deck + 1) % 2 ^ 24) hIdle hWaits
    have hMoves := State.retransmitFrom_moves (s := s.count (cPort p 21) 1) (p := p) (q := (deckAck f.deck + 1) % 2 ^ 24)
    exact ⟨_, exec_viaNakRx_stale hRuns hGood hStale, hLink, (State.counter_moves hMoves (by decide) _).trans
      (State.count_counter_same _), hOthers, (Moves.step hMoves (by decide) (State.count_moves.mono (by decide))).only⟩
  case resendRuns => exact fun p s h => ⟨s, exec_viaRetransmitDone_running h, rfl⟩
  case timeoutIdle => exact fun p s h => exec_viaRetryTimeout_idle h
  case ackTimerIdle => exact fun p s h => exec_viaAckTimer_idle h
  case holdNone => exact fun p s h => exec_linkHoldExpire_none h
  case nakNothing =>
    intro p f s hRuns hGood hNothing hStale
    refine ⟨_, exec_viaNakRx_stale hRuns hGood hStale, ?_⟩
    rw [State.retransmitFrom_nothing (s := s.count (cPort p 21) 1) _ hNothing]
    exact ⟨rfl, State.count_counter_same _, State.count_moves.only⟩
  case resendEnds =>
    intro p s hRetransmit hDue hTx
    obtain ⟨hLink, hOthers⟩ := State.setVia_puts (s := s) p { s.viaLink p with retransmit := false }
    exact ⟨_, exec_viaRetransmitDone_ends hRetransmit hDue hTx, hLink, hOthers, State.setVia_moves.only⟩
  case timeoutAgain =>
    intro p s hRuns hHeld hIdle hWaits hRetries
    obtain ⟨hLink, hOthers⟩ := State.timeoutResends_puts hIdle hWaits
    refine ⟨_, exec_viaRetryTimeout_again hRuns hHeld hIdle hWaits hRetries, ?_⟩
    rw [hLink]
    exact ⟨rfl, rfl, rfl, hOthers, (Moves.step State.retransmitFrom_moves (by decide) State.setVia_moves).only⟩
  case timeoutEighth =>
    exact fun p s hRuns hHeld hIdle hWaits hRetries => ⟨_, exec_viaRetryTimeout_eighth hRuns hHeld hIdle hWaits hRetries,
      State.retryEnds_spec p⟩
  case ackTimerDue =>
    intro p s hRuns hDue
    obtain ⟨hLink, hOthers⟩ := State.sendControl_puts (s := s) p 8 []
    exact ⟨_, exec_viaAckTimer_due hRuns hDue, State.sendControl_emitted _ _ _, hLink, hOthers, State.sendControl_moves.only⟩
  case holdEmpty =>
    intro p s hOrdinary hDown hEmpty
    obtain ⟨hRegs, hExpired⟩ := State.abandonQueues_nothing (s := s.holdEnds p) (p := p) (List.range 16)
      fun i hi => hEmpty i (List.mem_range.mp hi)
    refine ⟨_, exec_linkHoldExpire_down hOrdinary hDown, ?_, ?_⟩
    · rw [State.abandonPort_eq, hExpired]
      exact mem_addOnce _ _
    · rw [State.abandonPort_eq, hRegs]
      rfl
  case holdEnds =>
    exact fun p s hOrdinary hDown => ⟨_, exec_linkHoldExpire_down hOrdinary hDown, fun i hi =>
      State.abandonQueues_empty (List.mem_range.mpr hi)⟩

end Sys2Proof.Machine
end

section
/-! PROOFS. Rotating shadow compare, the vectors of the suite and the loss log (R252, R254, R275). -/

namespace Sys2Proof.Machine

variable {s t : State}

/-- The state in which a command ends is one that its operation may reach. -/
theorem Ends.moves {ps : List StatePart} {o : Host.Outcome State Fault Refusal} (h : Ends ps s o) (e : o = .next t) :
    Moves ps s t := by
  obtain ⟨u, hNext, hMoves⟩ := h
  obtain rfl := Host.Outcome.next.inj (hNext.symm.trans e)
  exact hMoves

/-! ### The passes of a span -/

/-- The passes of the spans are kept apart by their numbers. -/
theorem passKey_inj {n m : Nat} {p q : Pass} : m * 2 + passNo q = n * 2 + passNo p ↔ m = n ∧ q = p := by
  cases p <;> cases q <;> simp [passNo] <;> omega

theorem State.passOf_setPass (n m : Nat) (p q : Pass) (x : PassState) :
    (s.setPass n p x).passOf m q = if m = n ∧ q = p then x else s.passOf m q := by
  simp only [State.passOf, State.setPass, Tbl.get_put, passKey_inj]

/-- The pass of a span holds a new record; every other pass is as it was, and so is all that is no pipeline. -/
structure PutsPass (n : Nat) (p : Pass) (x : PassState) (s t : State) : Prop where
  pass : t.passOf n p = x
  others : ∀ m q, (m, q) ≠ (n, p) → t.passOf m q = s.passOf m q
  only : OnlyTouches [.pipes] s t

theorem State.setPass_puts (n : Nat) (p : Pass) (x : PassState) : PutsPass n p x s (s.setPass n p x) where
  pass := (State.passOf_setPass _ _ _ _ _).trans (if_pos ⟨rfl, rfl⟩)
  others _ _ h := (State.passOf_setPass _ _ _ _ _).trans (if_neg fun ⟨hm, hq⟩ => h (Prod.ext hm hq))
  only := State.setPass_moves.only

/-! ### Shadow periods (R252) -/

section
variable {span : Span} {pass : Pass}

theorem exec_shadowPeriodStart_idle
    (h : s.mayShadow span pass = false ∨ ((s.passOf span pass).shadowOn = true ∧ (s.passOf span pass).draining = false) ∨
      ∃ e ∈ s.pipes.packets, isShadowOf span pass e = true) :
    exec (.shadowPeriodStart span pass) s = .next s := by
  refine if_pos ?_
  rcases h with hMay | ⟨hOn, hNew⟩ | hShadow
  · simp [hMay]
  · simp [hOn, hNew]
  · simp [List.any_eq_true.mpr hShadow]

variable (hMay : s.mayShadow span pass = true) (hNone : ∀ e ∈ s.pipes.packets, isShadowOf span pass e = false)
include hMay hNone

theorem exec_shadowPeriodStart_first (hOff : (s.passOf span pass).shadowOn = false) :
    exec (.shadowPeriodStart span pass) s =
      .next (s.setPass span pass { s.passOf span pass with shadowOn := true, draining := false }) := by
  have hAny : s.pipes.packets.any (isShadowOf span pass) = false := List.any_eq_false.mpr (by simpa using hNone)
  simp [exec, execShadowPeriodStart, hMay, hOff, hAny]

theorem exec_shadowPeriodStart_next (hOn : (s.passOf span pass).shadowOn = true)
    (hDrains : (s.passOf span pass).draining = true) :
    exec (.shadowPeriodStart span pass) s =
      .next (s.setPass span pass
        { s.passOf span pass with target := ((s.passOf span pass).target + 1) % 4, draining := false }) := by
  have hAny : s.pipes.packets.any (isShadowOf span pass) = false := List.any_eq_false.mpr (by simpa using hNone)
  simp [exec, execShadowPeriodStart, hMay, hOn, hDrains, hAny]

end

theorem exec_shadowPeriodEnd_runs {span : Span} {pass : Pass} (hOn : (s.passOf span pass).shadowOn = true)
    (hNew : (s.passOf span pass).draining = false) :
    exec (.shadowPeriodEnd span pass) s = .next (s.setPass span pass { s.passOf span pass with draining := true }) :=
  if_pos (by simp [hOn, hNew])

theorem exec_shadowPeriodEnd_idle {span : Span} {pass : Pass}
    (h : (s.passOf span pass).shadowOn = false ∨ (s.passOf span pass).draining = true) :
    exec (.shadowPeriodEnd span pass) s = .next s :=
  if_neg (by rcases h with h | h <;> simp [h])

/-! ### Vectors (R254, R255) -/

theorem exec_katVectorInsert_serving {span : Span} {pass : Pass} {k : PipeNo}
    (hServes : ((s.passOf span pass).groupOf k).isSome = true) (hSound : s.fenced (partyPipe span pass k) = false) :
    exec (.katVectorInsert span pass k) s =
      .next (s.setPipe (pipeNo span pass k) ((s.pipeOf (pipeNo span pass k)).insertVector s.activeGen)) :=
  if_pos (by simp [hServes, hSound])

theorem exec_katVectorInsert_none {span : Span} {pass : Pass} {k : PipeNo}
    (h : ((s.passOf span pass).groupOf k).isSome = false ∨ s.fenced (partyPipe span pass k) = true) :
    exec (.katVectorInsert span pass k) s = .next s :=
  if_neg (by rcases h with h | h <;> simp [h])

/-- The vector that waits last is the one to be confirmed, or the next of the suite. -/
theorem PipeState.insertVector_katWait (y : PipeState) (gen : Bool) :
    (y.insertVector gen).katWait =
      y.katWait ++ [(gen, match y.katBad with | some v => v | none => y.katNext)] := by
  unfold PipeState.insertVector
  cases y.katBad <;> rfl

theorem PipeState.insertVector_katNext {y : PipeState} (gen : Bool) (h : y.katBad = none) :
    (y.insertVector gen).katNext = (y.katNext + 1) % 1536 := by
  simp [PipeState.insertVector, h]

/-! ### The loss log (R275) -/

/-- The word that an entry of the loss log reads as. -/
def LossEntry.word (e : LossEntry) : Word :=
  BitVec.ofNat 32 (2 ^ 31 + e.kind % 16 * 2 ^ 27 + e.cls % 16 * 2 ^ 23 + e.port % 1024 * 2 ^ 13 + e.egress % 1024 * 2 ^ 3)

/-- An entry of the loss log has been taken out, and a word read. -/
def State.takeLoss (s : State) (w : Word) (rest : List LossEntry) : State :=
  { s with ord := { s.ord with losses := rest }, readData := w }

theorem State.takeLoss_regs (w : Word) (rest : List LossEntry) : (s.takeLoss w rest).regs = s.regs := rfl

theorem State.takeLoss_reg (w : Word) (rest : List LossEntry) (o : Nat) : (s.takeLoss w rest).reg o = s.reg o := by
  rw [State.reg, State.reg, State.takeLoss_regs]

theorem exec_lossLogRead_entry {e : LossEntry} {rest : List LossEntry} (h : s.ord.losses = e :: rest) :
    exec .lossLogRead s = .next ((s.takeLoss e.word rest).setReg 0x40C e.seq) := by
  unfold exec execLossLogRead
  rw [h]
  rfl

theorem exec_lossLogRead_empty (h : s.ord.losses = []) : exec .lossLogRead s = .next { s with readData := 0 } := by
  unfold exec execLossLogRead
  rw [h]

/-- Settles O31: each clause is one command, which writes one pass, one pipeline or the registers of the loss log. -/
theorem shadowingAndVectors : Obligations.ShadowingAndVectors := by
  unfold Obligations.ShadowingAndVectors
  refine ⟨?first, ?next, ?noStart, ?noEnd, ?noVector, ?ends, ?vector, ?entry, ?empty⟩
  case first =>
    intro sp ps s hMay hOff hNone
    obtain ⟨hPass, hOthers, hOnly⟩ := State.setPass_puts (s := s) sp ps
      { s.passOf sp ps with shadowOn := true, draining := false }
    exact ⟨_, exec_shadowPeriodStart_first hMay hNone hOff, hPass, hOthers, hOnly⟩
  case next =>
    intro sp ps s hMay hOn hDrains hNone
    obtain ⟨hPass, -, hOnly⟩ := State.setPass_puts (s := s) sp ps
      { s.passOf sp ps with target := ((s.passOf sp ps).target + 1) % 4, draining := false }
    exact ⟨_, exec_shadowPeriodStart_next hMay hNone hOn hDrains, hPass, hOnly⟩
  case noStart => exact fun sp ps s h => ⟨s, exec_shadowPeriodStart_idle h, rfl⟩
  case noEnd => exact fun sp ps s h => ⟨s, exec_shadowPeriodEnd_idle h, rfl⟩
  case noVector => exact fun sp ps k s h => ⟨s, exec_katVectorInsert_none h, rfl⟩
  case ends =>
    intro sp ps s hOn hNew
    obtain ⟨hPass, hOthers, hOnly⟩ := State.setPass_puts (s := s) sp ps { s.passOf sp ps with draining := true }
    exact ⟨_, exec_shadowPeriodEnd_runs hOn hNew, hPass, hOthers, hOnly⟩
  case vector =>
    intro sp ps k s hServes hSound
    have hPut (m : Nat) := State.pipeOf_setPipe (s := s) (pipeNo sp ps k) m
      ((s.pipeOf (pipeNo sp ps k)).insertVector s.activeGen)
    refine ⟨_, exec_katVectorInsert_serving hServes hSound, ?_, fun hSuite => ?_, fun x hx => (hPut x).trans (if_neg hx),
      State.setPipe_moves.only⟩
    · exact (congrArg PipeState.katWait ((hPut _).trans (if_pos rfl))).trans (PipeState.insertVector_katWait _ _)
    · rw [hPut, if_pos rfl, PipeState.insertVector_katNext _ hSuite]
  case entry =>
    intro s e rest h
    refine ⟨_, exec_lossLogRead_entry h, rfl, State.reg_setReg_same _ _ _, rfl, fun o ho => ?_,
      ((exec_ends s _).moves (exec_lossLogRead_entry h)).only⟩
    rw [State.reg_setReg_ne _ _ _ _ ho, State.takeLoss_reg]
  case empty => exact fun s h => ⟨_, exec_lossLogRead_empty h, rfl⟩

end Sys2Proof.Machine
end

section
/-! PROOFS. A write that clears ROT_EN while the free pipeline shadows a packet (R252, R277, R300). -/

namespace Sys2Proof.Machine

/-- A frame in the first stage of its ingress pass, which the free pipeline runs as well. -/
def shadowedFrame : Packet where
  pass := .ingress
  span := 0
  pipe := 0
  group := 0
  origin := .arrival
  desc := some 0
  copy := none
  shadowed := true

/-- The device in TEST, in a shadow period of the ingress pass of span 0 with that frame as packet 0. -/
def State.shadowsInTest : State :=
  (({ State.reset with chip := { State.reset.chip with mode := .test } } : State).setPass 0 .ingress { shadowOn := true }).setPacket
    0 (some shadowedFrame)

/-- Refutes O33: the clause on ROT_EN has a write of SPn_SPARE_CTRL touch the registers and the pipelines alone. One that
clears ROT_EN while a packet is shadowed ends the shadow, and the slot that the free pipeline then wastes is counted
(R297, R300). -/
theorem not_sparesTakeOver : ¬ Obligations.SparesTakeOver := by
  unfold Obligations.SparesTakeOver
  rintro ⟨-, -, hWrite, -⟩
  have hWasted : ∀ t, exec (.spareReinstate 0 0) State.shadowsInTest = .next t → t.counter (cPipe (pipeNo 0 .ingress 4) 2) = 1 := by
    intro t e
    obtain rfl := Host.Outcome.next.inj e
    decide
  obtain ⟨t, e, -, -, hOnly⟩ := hWrite 0 0 State.shadowsInTest (by decide) (.inr rfl) (by decide)
  have hCounters : t.counters = [] := hOnly .counters (by decide)
  have hNone : t.counter (cPipe (pipeNo 0 .ingress 4) 2) = 0 := by
    rw [State.counter, hCounters]
    rfl
  exact absurd (hNone.symm.trans (hWasted t e)) (by decide)

end Sys2Proof.Machine
end

section
/-! PROOFS. The recopy of a span whose stores are taken from a span that deviates itself (R87, R116, R263). -/

namespace Sys2Proof.Machine

/-- Span 0 under reset after its logic reset, with its stores as the image has them, while word 5 of the first store copy
of span 1 holds 9 instead. -/
def State.donorDeviates : State :=
  { State.reset with
    chip := { State.reset.chip with mode := .service, spans := [(0, .logicReset)] }
    progs := { State.reset.progs with deviant := [(10 * 2 ^ 25 + 5, some 9)] } }

/-- Refutes O34: the clause on the recopy has it leave no deviation in the stores of the span. They are copied as the donor
has them (R116), and a word in which the donor deviates from the image deviates in the span afterwards, where none did
before. -/
theorem not_spanResets : ¬ Obligations.SpanResets := by
  unfold Obligations.SpanResets
  rintro ⟨-, -, -, -, -, -, hRecopy, -⟩
  have hCopied : ∀ t, exec (.spanRecopyDone 0 1) State.donorDeviates = .next t → (5, some 9) ∈ t.progs.deviant := by
    intro t e
    obtain rfl := Host.Outcome.next.inj e
    decide
  obtain ⟨t, e, -, hNone, -⟩ := hRecopy 0 1 State.donorDeviates (by decide) (by decide)
  exact hNone _ (hCopied t e) rfl

end Sys2Proof.Machine
end

section
/-! PROOFS. A warm reset that comes while an image is being loaded (R99, R265, R488). -/

namespace Sys2Proof.Machine

variable {s : State}

/-- With no record of a frame there is nothing to cut off. -/
theorem State.cutArrivals_none (h : s.rx.frames = []) : s.cutArrivals = s := by
  rw [State.cutArrivals, h]
  rfl

/-- A load that runs is stopped: whether it had come to step 7 of R98 is drawn, and the rest shows in the registers. -/
theorem State.stopLoad_busy (h : s.loadBusy = true) :
    Moves [.regs, .emitted] { s with freeCount := s.freeCount + 1 } s.stopLoad := by
  have hDrawn : ∃ st, s.stopLoad = (({ s with freeCount := s.freeCount + 1 } : State).setShadow st).loadFails .deviceState {} :=
    ⟨_, if_pos h⟩
  obtain ⟨st, e⟩ := hDrawn
  rw [e]
  exact Moves.step State.loadFails_moves (by decide) (State.setShadow_moves.mono (by decide))

theorem State.stopLoad_freeCount (h : s.loadBusy = true) : s.stopLoad.freeCount = s.freeCount + 1 :=
  (State.stopLoad_busy h).same .freeCount (by decide)

/-- What a warm reset shows in the registers when it starts. -/
def State.showWarm (s : State) (source : Nat) : State :=
  let s := (s.endPinTest.setFld 0x4 7 4 s.chip.mode.code).incMod 0x10 31 16 1
  let s := (s.setFld 0x10 7 4 source).setBit 0x800004 6 false
  let s := (s.setBit 0x14 31 false).setBit 0x100008 31 false
  s.setBit 0x100004 19 false

/-- The device is in RECOVERY, in the first phase of a warm reset. -/
def State.enterRecovery (s : State) : State :=
  { s with
    chip := { s.chip with mode := .recovery, warm := .hold }
    fc := { s.fc with safeDone := false } }

/-- Every port group enters reset hold. -/
def State.holdAll (s : State) : State := (List.range 64).foldl (fun s g => s.enterHold g) s

theorem State.holdAll_moves : Moves [.counters, .emitted, .chip] s s.holdAll :=
  .fold (fun _ _ => State.enterHold_moves) .refl

/-- A warm reset has started; what arrives and what is being loaded still goes on. -/
def State.warmHeld (s : State) (source : Nat) : State := (s.showWarm source).enterRecovery.holdAll

theorem State.warmStart_eq (source : Nat) : s.warmStart source = (s.warmHeld source).cutArrivals.stopLoad := rfl

theorem State.showWarm_moves (source : Nat) : Moves [.regs] s (s.showWarm source) := by
  have hBits (t : State) : Moves [.regs] t
      ((((t.setBit 0x800004 6 false).setBit 0x14 31 false).setBit 0x100008 31 false).setBit 0x100004 19 false) :=
    ((State.setBit_moves.trans State.setBit_moves).trans State.setBit_moves).trans State.setBit_moves
  exact (((State.endPinTest_moves.trans State.setFld_moves).trans State.incMod_moves).trans State.setFld_moves).trans (hBits _)

theorem State.enterRecovery_moves : Moves [.chip, .fc] s s.enterRecovery :=
  .fc (t := { s with chip := { s.chip with mode := .recovery, warm := .hold } }) (by decide) (.chip (by decide) .refl)

/-- The register of the load is none of those that show the warm reset. -/
theorem State.showWarm_load (source : Nat) : (s.showWarm source).fld 0x12C 1 0 = s.fld 0x12C 1 0 := by
  have hPin : s.endPinTest.fld 0x12C 1 0 = s.fld 0x12C 1 0 := by
    unfold State.endPinTest
    split
    · exact State.fld_setBit_reg _ _ _ _ _ _ _ (by decide)
    · rfl
  simp [State.showWarm, State.fld_setBit_reg, State.fld_setFld_reg, State.incMod, hPin]

theorem State.warmHeld_moves (source : Nat) : Moves [.regs, .counters, .emitted, .chip, .fc] s (s.warmHeld source) :=
  .step State.holdAll_moves (by decide) (.step State.enterRecovery_moves (by decide) ((State.showWarm_moves source).mono (by decide)))

theorem State.warmHeld_loadBusy (source : Nat) : (s.warmHeld source).loadBusy = s.loadBusy := by
  have hLoad : (s.warmHeld source).fld 0x12C 1 0 = s.fld 0x12C 1 0 :=
    ((State.fld_moves State.holdAll_moves (by decide) _ _ _).trans
      (State.fld_moves State.enterRecovery_moves (by decide) _ _ _)).trans (State.showWarm_load source)
  rw [State.loadBusy, hLoad, State.loadBusy]

/-- A warm reset that stops a load, with no frame arriving, draws a free value. -/
theorem State.warmStart_freeCount (source : Nat) (hFrames : s.rx.frames = []) (hBusy : s.loadBusy = true) :
    (s.warmStart source).freeCount = s.freeCount + 1 := by
  have hHeld := State.warmHeld_moves (s := s) source
  have hNone : (s.warmHeld source).rx.frames = [] := (congrArg RxState.frames (hHeld.same .rx (by decide))).trans hFrames
  rw [State.warmStart_eq, State.cutArrivals_none hNone, State.stopLoad_freeCount ((State.warmHeld_loadBusy _).trans hBusy)]
  exact congrArg (· + 1) (hHeld.same .freeCount (by decide))

theorem exec_warmNAssert_starts (hHeld : s.boot.held = false) (hRunning : s.chip.mode ≠ .recovery) (hOn : s.chip.mode ≠ .off)
    (hAllowed : s.warmAllowed = true) : exec .warmNAssert s = .next (s.warmStart 1) := by
  simp [exec, execWarmNAssert, State.warmRequest, hHeld, hRunning, hOn, hAllowed]

/-- The device in START-UP while an image is being loaded. -/
def State.loading : State := State.reset.setReg 0x12C 1

/-- Refutes O35: the first clause asks only that no frame is arriving, and has the warm reset touch the registers, the
counters, the pins, the chip and the collector. A load that is under way ends with it (R99), and how far it had come is a
free value, which is drawn (R98). -/
theorem not_warmResets : ¬ Obligations.WarmResets := by
  unfold Obligations.WarmResets
  rintro ⟨hAssert, -⟩
  have hOpen : State.loading.warmAllowed = true := by decide
  obtain ⟨t, e, -, -, -, -, -, -, hOnly⟩ := hAssert State.loading rfl (by decide) (by decide) hOpen (fun _ h => nomatch h)
  obtain rfl := Host.Outcome.next.inj ((exec_warmNAssert_starts rfl (by decide) (by decide) hOpen).symm.trans e)
  have hSame : (State.loading.warmStart 1).freeCount = 0 := hOnly .freeCount (by decide)
  rw [State.warmStart_freeCount 1 rfl (by decide)] at hSame
  exact absurd hSame (by decide)

end Sys2Proof.Machine
end

section
/-! PROOFS. The completion mode of the journal (R268, R269, R281, R481). -/

namespace Sys2Proof.Machine

variable {s t : State} {wt : Bool}

/-- Into WRITE_THROUGH from FAST, the gate of the durable completions rises to the next LSN; no other change of the mode
touches the journal. -/
theorem State.setMode_jrn (wt : Bool) :
    (s.setMode wt).jrn = if wt = true ∧ s.writeThrough = false then { s.jrn with gate := s.jrn.nextLsn } else s.jrn := by
  have hShown : ((s.setBit 0x5F0004 0 wt).irq 6).jrn = s.jrn :=
    (State.irq_moves.same .jrn (by decide)).trans (State.setBit_moves.same .jrn (by decide))
  unfold State.setMode
  dsimp -proj only
  split
  · next h =>
    rw [if_neg]
    rintro ⟨rfl, hFast⟩
    exact absurd (h.symm.trans hFast) (by decide)
  · next h =>
    cases wt
    · exact hShown
    · rw [if_pos rfl, if_pos ⟨rfl, by simpa using h⟩, hShown]

theorem State.setMode_wbuf (wt : Bool) : (s.setMode wt).jrn.wbuf = s.jrn.wbuf := by
  rw [State.setMode_jrn]
  split
  · rfl
  · rfl

theorem State.setMode_noEntry (wt : Bool) : (s.setMode wt).jrn.noEntry = s.jrn.noEntry := by
  rw [State.setMode_jrn]
  split
  · rfl
  · rfl

theorem State.setMode_chip (wt : Bool) : (s.setMode wt).chip = s.chip := State.setMode_moves.same .chip (by decide)

/-- What a change of the mode leaves of the registers: all but JRN_STATUS and those of the pending interrupts. -/
theorem State.setMode_reg (wt : Bool) {o : Nat} (ho : faultRegister o = false) (h : o ≠ 0x5F0004) :
    (s.setMode wt).reg o = s.reg o := by
  have hShown : ((s.setBit 0x5F0004 0 wt).irq 6).reg o = s.reg o :=
    (State.irq_frame 6 o ho).trans (State.reg_setFld_ne _ _ _ _ _ _ h)
  unfold State.setMode
  dsimp -proj only
  split
  · rfl
  · split
    · exact hShown
    · exact hShown

theorem State.setMode_fld (wt : Bool) {o : Nat} (ho : faultRegister o = false) (h : o ≠ 0x5F0004) (hi lo : Nat) :
    (s.setMode wt).fld o hi lo = s.fld o hi lo := congrArg (getBits · hi lo) (State.setMode_reg wt ho h)

theorem State.setMode_bit (wt : Bool) {o : Nat} (ho : faultRegister o = false) (h : o ≠ 0x5F0004) (i : Nat) :
    (s.setMode wt).bit o i = s.bit o i := congrArg (fun n => decide (n = 1)) (State.setMode_fld wt ho h i i)

/-- JRN_STATUS shows the new mode, and its other bits stay. -/
theorem State.setMode_status (wt : Bool) (j : Nat) :
    (s.setMode wt).bit 0x5F0004 j = if j = 0 then wt else s.bit 0x5F0004 j := by
  have hShown : ((s.setBit 0x5F0004 0 wt).irq 6).bit 0x5F0004 j = if j = 0 then wt else s.bit 0x5F0004 j := by
    rw [(State.irq_frame 6).bit (by decide)]
    by_cases hj : j = 0
    · subst hj
      exact State.bit_setBit_same _ _ _ _ (by decide)
    · rw [State.bit_setBit_ne _ _ _ _ _ _ (by decide) (Ne.symm hj), if_neg hj]
  unfold State.setMode
  dsimp -proj only
  split
  · next h =>
    by_cases hj : j = 0
    · rw [if_pos hj, hj]
      exact h
    · rw [if_neg hj]
  · split
    · exact hShown
    · exact hShown

theorem State.setMode_writeThrough (wt : Bool) : (s.setMode wt).writeThrough = wt := State.setMode_status wt 0

/-- The return to FAST leaves the journal alone. -/
theorem State.setMode_fast_moves : Moves [.regs, .emitted] s (s.setMode false) :=
  .ite .refl (.step State.irq_moves (by decide) (State.setBit_moves.mono (by decide)))

/-! ### FORCE_WT and the return to FAST -/

section
variable {v : Word} (hOpen : s.closed 0x5F0000 = false)
include hOpen

theorem exec_journalForceWt_set (h : getBits v 0 0 = 1) :
    exec (.journalForceWt v) s = .next ((s.setFld 0x5F0000 0 0 1).setMode true) := by
  simp [exec, execJournalForceWt, hOpen, h]

theorem exec_journalForceWt_clear (h : getBits v 0 0 = 0) :
    exec (.journalForceWt v) s = .next (s.setBit 0x5F0000 0 false) := by
  simp [exec, execJournalForceWt, hOpen, h, State.setBit]

end

theorem exec_journalFastResume_waits (h : s.fld 0x300068 2 0 ≠ 0 ∨ s.bit 0x5F0000 0 = true ∨ s.jrn.noEntry = true) :
    exec .journalFastResume s = .next s :=
  if_neg (by rcases h with h | h | h <;> simp [h])

theorem exec_journalFastResume_returns (hBank : s.fld 0x300068 2 0 = 0) (hFree : s.bit 0x5F0000 0 = false)
    (hSupply : s.jrn.noEntry = false) : exec .journalFastResume s = .next (s.setMode false) :=
  if_pos (by simp [hBank, hFree, hSupply])

/-! ### The main supply fails (R269, R478, R485) -/

/-- No ring entry is taken. -/
def State.stopEntries (s : State) : State := { s with jrn := { s.jrn with noEntry := true } }

/-- The device is OFF, without its main supply. -/
def State.goDark (s : State) : State :=
  { s with chip := { s.chip with mode := .off, warm := .none }, boot := { s.boot with noSupply := true } }

theorem State.goDark_bit (o i : Nat) : s.goDark.bit o i = s.bit o i := congrArg (fun n => decide (n = 1)) rfl

/-- The state in which the supply has failed, before the device is OFF: WRITE_THROUGH, and a flush that runs. -/
def State.startFlush (s : State) : State := (s.stopEntries.setMode true).setBit 0x5F0004 2 true

theorem State.startFlush_status : s.startFlush.bit 0x5F0004 2 = true := State.bit_setBit_same _ _ _ _ (by decide)

theorem State.startFlush_writeThrough : s.startFlush.goDark.writeThrough = true :=
  ((State.goDark_bit _ _).trans (State.bit_setBit_ne _ _ _ _ _ _ (by decide) (by decide))).trans
    (State.setMode_writeThrough true)

theorem State.startFlush_jrn : s.startFlush.jrn = (s.stopEntries.setMode true).jrn := State.setBit_moves.same .jrn (by decide)

theorem State.startFlush_noEntry : s.startFlush.jrn.noEntry = true := by
  rw [State.startFlush_jrn, State.setMode_noEntry]
  rfl

theorem State.startFlush_wbuf : s.startFlush.jrn.wbuf = s.jrn.wbuf := by
  rw [State.startFlush_jrn, State.setMode_wbuf]
  rfl

theorem State.startFlush_chip : s.startFlush.chip = s.chip :=
  (State.setBit_moves.same .chip (by decide)).trans (State.setMode_chip true)

theorem State.startFlush_boot : s.startFlush.boot = s.boot :=
  (State.setBit_moves.same .boot (by decide)).trans (State.setMode_moves.same .boot (by decide))

theorem exec_mainSupplyFail : exec .mainSupplyFail s = .next s.startFlush.goDark := rfl

end Sys2Proof.Machine
end

section
/-! PROOFS. Programming the log: what a record that verifies reaches, and what a slot that fails leaves (R267, R268, R441). -/

namespace Sys2Proof.Machine

variable {s t : State} {r : JrnRecord} {rest : List JrnRecord}

/-- The source of the log's read-back (R427, R441). -/
theorem pipeOfSource_log : pipeOfSource (srcChip 0x11 1) = none := by decide

/-- The oldest record has gone into the log at the current slot. -/
def State.logRecord (s : State) (r : JrnRecord) (rest : List JrnRecord) : State :=
  { s with jrn := { s.jrn with
      wbuf := rest, log := Tbl.put noRecord s.jrn.log s.jrn.slot (some r),
      slot := nextGood s.jrn.bad s.jrn.bad.length (s.jrn.slot + 1), programmed := r.lsn + 1 } }

/-- A record in the log is counted, and the durable command of a command record is done. -/
def State.recordReached (s : State) (r : JrnRecord) : State :=
  if r.checkpoint then s.count (cChip 9) 1 else (s.count (cChip 8) 1).journalPoint r.ring r.lsn

/-- The journal with its current slot marked bad, and no record in it. -/
def JrnState.slotBad (j : JrnState) : JrnState :=
  { j with
    bad := addOnce j.bad j.slot, log := Tbl.put noRecord j.log j.slot none,
    slot := nextGood (addOnce j.bad j.slot) (addOnce j.bad j.slot).length (j.slot + 1) }

/-- The current slot is marked bad. -/
def State.markSlot (s : State) : State := { s with jrn := s.jrn.slotBad }

theorem State.markSlot_moves : Moves [.jrn] s s.markSlot := .jrn (by decide) .refl

/-- The current slot has failed, and the read-back reports it. -/
def State.slotFails (s : State) : State := s.markSlot.latchFault (srcChip 0x11 1) .s

/-- No firing waits at a source, so none meets its check. -/
theorem State.meetFiring_none {src : Nat} (h : s.injects src = none) : s.meetFiring src = s := if_neg (by simp [h])

theorem State.journalProgram_waits (ok : Bool) (h : s.jrn.wbuf = [] ∨ s.slotBusy = true ∨ s.suspended = true) :
    s.journalProgram ok = s := by
  unfold State.journalProgram
  split
  · rfl
  · next hHead =>
    refine if_pos ?_
    rcases h with h | h | h
    · exact absurd (h.symm.trans hHead) (by simp)
    · simp [h]
    · simp [h]

section
variable (hHead : s.jrn.wbuf = r :: rest) (hFree : s.slotBusy = false) (hRuns : s.suspended = false)
include hHead hFree hRuns

theorem State.journalProgram_verified (hNone : s.injects (srcChip 0x11 1) = none) :
    s.journalProgram true = (s.logRecord r rest).recordReached r := by
  unfold State.journalProgram
  rw [hHead]
  dsimp -proj only
  rw [if_neg (by simp [hFree, hRuns]), hNone, State.meetFiring_none hNone]
  rfl

theorem State.journalProgram_fails {ok : Bool} (h : ok = false ∨ (s.injects (srcChip 0x11 1)).isSome = true) :
    s.journalProgram ok = (s.meetFiring (srcChip 0x11 1)).slotFails := by
  have hJrn : (s.meetFiring (srcChip 0x11 1)).jrn = s.jrn := State.meetFiring_moves.same .jrn (by decide)
  have hBad : (ok && !(s.injects (srcChip 0x11 1)).isSome) = false := by rcases h with h | h <;> simp [h]
  unfold State.journalProgram State.slotFails State.markSlot
  rw [hHead, hJrn]
  dsimp -proj only
  rw [if_neg (by simp [hFree, hRuns]), hBad]
  rfl

end

theorem exec_journalProgram_waits {ok : Bool} (h : s.jrn.wbuf = [] ∨ s.slotBusy = true ∨ s.suspended = true) :
    exec (.journalProgram ok) s = .next s := congrArg Host.Outcome.next (State.journalProgram_waits ok h)

section
variable (hHead : s.jrn.wbuf = r :: rest) (hFree : s.slotBusy = false) (hRuns : s.suspended = false)
  (hNone : s.injects (srcChip 0x11 1) = none)
include hHead hFree hRuns hNone

theorem exec_journalProgram_verified :
    exec (.journalProgram true) s = .next ((s.logRecord r rest).recordReached r) :=
  congrArg Host.Outcome.next (State.journalProgram_verified hHead hFree hRuns hNone)

theorem exec_journalProgram_fails : exec (.journalProgram false) s = .next s.slotFails := by
  have hProgram := State.journalProgram_fails (ok := false) hHead hFree hRuns (.inl rfl)
  rw [State.meetFiring_none hNone] at hProgram
  exact congrArg Host.Outcome.next hProgram

end

theorem State.recordReached_moves : Moves [.counters, .hq] s (s.recordReached r) :=
  .ite (State.count_moves.mono (by decide)) (.step State.journalPoint_moves (by decide) (State.count_moves.mono (by decide)))

theorem State.logRecord_moves : Moves [.jrn] s (s.logRecord r rest) := .jrn (by decide) .refl

theorem State.recordReached_jrn : (s.recordReached r).jrn = s.jrn := State.recordReached_moves.same .jrn (by decide)

theorem State.logRecord_log : Tbl.get noRecord (s.logRecord r rest).jrn.log s.jrn.slot = some r := by
  unfold State.logRecord
  rw [Tbl.get_put, if_pos rfl]

theorem State.sq_of_setSq (q k : Nat) (x : SqRec) : (s.setSq q x).sq k = if k = q then x else s.sq k := Tbl.get_put _ _ _ _ _

/-- A record that has reached its point leaves the other rings. -/
theorem State.recordReached_sq {q : Nat} (h : q ≠ r.ring) : (s.recordReached r).sq q = s.sq q := by
  have hCount (o : Nat) : (s.count o 1).sq q = s.sq q := State.sq_of_hq (State.count_moves.same .hq (by decide)) q
  unfold State.recordReached
  split
  · exact hCount _
  · exact ((State.sq_of_setSq _ _ _).trans (if_neg h)).trans (hCount _)

/-- The durable command of a command record is done. -/
theorem State.recordReached_done (hCommand : r.checkpoint = false) (x : Taken)
    (hx : x ∈ ((s.recordReached r).sq r.ring).taken) (hWork : x.work = .durable r.lsn) : x.done.isSome = true := by
  rw [State.recordReached, if_neg (by simp [hCommand]), State.journalPoint, State.sq_of_setSq, if_pos rfl] at hx
  obtain ⟨y, -, rfl⟩ := List.mem_map.mp hx
  split
  · rfl
  · next h =>
    rw [if_neg h] at hWork
    cases hDone : y.done with
    | none => exact absurd (by simp [hWork, hDone]) h
    | some _ => rfl

theorem State.recordReached_counter :
    (s.recordReached r).counter (cChip (if r.checkpoint then 9 else 8))
      = (s.counter (cChip (if r.checkpoint then 9 else 8)) + 1) % 2 ^ 64 := by
  unfold State.recordReached
  split
  · exact State.count_counter_same _
  · exact (State.counter_moves State.journalPoint_moves (by decide) _).trans (State.count_counter_same _)

/-! ### A slot that fails -/

theorem State.slotFails_moves : Moves [.regs, .counters, .emitted, .freeCount, .fc, .buf, .pierTx, .jrn] s s.slotFails :=
  .step (State.latchFault_s_moves _ _ _ _ (by decide) pipeOfSource_log) (by decide)
    (State.markSlot_moves.mono (by decide))

theorem State.slotFails_jrn : s.slotFails.jrn = s.jrn.slotBad :=
  (State.latchFault_s_moves _ _ _ _ (by decide) pipeOfSource_log).same .jrn (by decide)

theorem State.slotFails_frame : FaultFrame s s.slotFails :=
  (FaultFrame.moves State.markSlot_moves (by decide)).trans (State.latchFault_frame _ _ _ _ _ (by decide))

theorem State.slotFails_source {x : Nat} (h : x ≠ srcChip 0x11 1) : s.slotFails.source x = s.source x :=
  ((State.latchFault_source _ _ _ _ _ _ (.inr (by decide)) (.inl pipeOfSource_log)).trans (if_neg h)).trans
    (State.source_moves State.markSlot_moves (by decide) x)

end Sys2Proof.Machine
end

section
/-! PROOFS. Checkpoints (R267, R270): what the records of one cover, and what they leave of the journal. -/

namespace Sys2Proof.Machine

variable {s t : State}

theorem foldl_put_get (f : Nat → Nat) (l : List Nat) (c : Tbl Nat) (k : Nat) :
    Tbl.get zeroNat (l.foldl (fun c r => Tbl.put zeroNat c r (f r)) c) k = if k ∈ l then f k else Tbl.get zeroNat c k := by
  induction l generalizing c with
  | nil => rfl
  | cons r l ih =>
    rw [List.foldl_cons, ih, Tbl.get_put]
    by_cases hl : k ∈ l
    · simp [hl]
    · by_cases hr : k = r
      · simp [hr]
      · simp [hl, hr]

/-- One checkpoint record is written, for the rings of a list. -/
def State.checkpointRecord (s : State) (now : List Nat) : State :=
  let t := s.journal (now.flatMap (fun r => s.checkpointItem r)) (2 ^ 15)
  { t with jrn := { t.jrn with covered := now.foldl (fun c r => Tbl.put zeroNat c r (s.executedOf r)) t.jrn.covered } }

theorem State.checkpoint_ends {n : Nat} {rs : List Nat} (h : rs = [] ∨ wbufRecords ≤ s.jrn.wbuf.length) :
    s.checkpoint n rs = s := by
  cases n with
  | zero => rfl
  | succ n => exact if_pos (by rcases h with h | h <;> simp [h])

theorem State.checkpoint_next {n : Nat} {rs : List Nat} (hSome : rs ≠ []) (hRoom : s.jrn.wbuf.length < wbufRecords) :
    s.checkpoint (n + 1) rs = (s.checkpointRecord (rs.take 7)).checkpoint n (rs.drop 7) :=
  if_neg (by simpa [hSome] using hRoom)

theorem State.checkpointRecord_coveredOf (now : List Nat) (r : Nat) :
    (s.checkpointRecord now).coveredOf r = if r ∈ now then s.executedOf r else s.coveredOf r :=
  foldl_put_get _ _ _ _

/-- What a checkpoint leaves of the journal: what the rings have executed, the log, and the records that wait, in front of
its own. -/
structure KeepsRecords (s t : State) : Prop where
  executed : t.jrn.executed = s.jrn.executed
  log : t.jrn.log = s.jrn.log
  wbuf : s.jrn.wbuf <+: t.jrn.wbuf

theorem KeepsRecords.trans {u : State} (h : KeepsRecords s t) (k : KeepsRecords t u) : KeepsRecords s u :=
  ⟨k.executed.trans h.executed, k.log.trans h.log, h.wbuf.trans k.wbuf⟩

theorem State.checkpointRecord_keeps (now : List Nat) : KeepsRecords s (s.checkpointRecord now) :=
  ⟨rfl, rfl, List.prefix_append _ _⟩

theorem State.checkpoint_keeps (n : Nat) (rs : List Nat) : KeepsRecords s (s.checkpoint n rs) := by
  induction n generalizing s rs with
  | zero => exact ⟨rfl, rfl, List.prefix_rfl⟩
  | succ n ih =>
    by_cases h : rs = [] ∨ wbufRecords ≤ s.jrn.wbuf.length
    · rw [State.checkpoint_ends h]
      exact ⟨rfl, rfl, List.prefix_rfl⟩
    · rw [not_or, Nat.not_le] at h
      rw [State.checkpoint_next h.1 h.2]
      exact (State.checkpointRecord_keeps _).trans (ih _)

/-- With a place of the write buffer for each ring at least, a checkpoint covers every ring of its list. -/
theorem State.checkpoint_coveredOf {n : Nat} {rs : List Nat} (hFuel : rs.length ≤ n)
    (hRoom : s.jrn.wbuf.length + n ≤ wbufRecords) (r : Nat) :
    (s.checkpoint n rs).coveredOf r = if r ∈ rs then s.executedOf r else s.coveredOf r := by
  induction n generalizing s rs with
  | zero =>
    obtain rfl := List.eq_nil_of_length_eq_zero (Nat.le_zero.mp hFuel)
    rfl
  | succ n ih =>
    by_cases hSome : rs = []
    · subst hSome
      rw [State.checkpoint_ends (.inl rfl)]
      rfl
    · have hPos : 0 < rs.length := List.length_pos_of_ne_nil hSome
      have hLonger : (s.checkpointRecord (rs.take 7)).jrn.wbuf.length = s.jrn.wbuf.length + 1 := List.length_append
      have hExecuted : (s.checkpointRecord (rs.take 7)).executedOf r = s.executedOf r := rfl
      have hSplit : r ∈ rs ↔ r ∈ rs.take 7 ∨ r ∈ rs.drop 7 := by
        rw [← List.mem_append, List.take_append_drop]
      rw [State.checkpoint_next hSome (by omega), ih (by rw [List.length_drop]; omega) (by omega), hExecuted,
        State.checkpointRecord_coveredOf]
      by_cases hLater : r ∈ rs.drop 7 <;> by_cases hNow : r ∈ rs.take 7 <;> simp [hSplit, hLater, hNow]

theorem exec_journalCheckpoint_idle (h : s.groupServed 0 = false) : exec .journalCheckpoint s = .next s :=
  if_neg (by simp [h])

theorem exec_journalCheckpoint_served (h : s.groupServed 0 = true) :
    exec .journalCheckpoint s = .next (s.checkpoint s.ringsToCheck.length s.ringsToCheck) := if_pos h

end Sys2Proof.Machine
end

section
/-! PROOFS. The flush of the write buffer on VHOLD, and what its draw measures (R269, R478, R480). -/

namespace Sys2Proof.Machine

variable {s t : State}

/-- What programming leaves: the registers but those of a fault, the chip, and of the write buffer nothing that was not in
it. -/
structure KeepsBank (s t : State) : Prop where
  regs : FaultFrame s t
  chip : t.chip = s.chip
  wbuf : t.jrn.wbuf ⊆ s.jrn.wbuf

theorem KeepsBank.refl : KeepsBank s s := ⟨.refl, rfl, List.Subset.refl _⟩

theorem KeepsBank.trans {u : State} (h : KeepsBank s t) (k : KeepsBank t u) : KeepsBank s u :=
  ⟨h.regs.trans k.regs, k.chip.trans h.chip, List.Subset.trans k.wbuf h.wbuf⟩

theorem KeepsBank.fold {α : Type} {f : State → α → State} (h : ∀ s a, KeepsBank s (f s a)) (l : List α) :
    KeepsBank s (l.foldl f s) := by
  induction l generalizing s with
  | nil => exact .refl
  | cons a l ih => exact (h s a).trans ih

theorem State.slotFails_keepsBank : KeepsBank s s.slotFails where
  regs := State.slotFails_frame
  chip := State.slotFails_moves.same .chip (by decide)
  wbuf := by
    rw [State.slotFails_jrn]
    exact List.Subset.refl _

theorem State.recordProgrammed_keepsBank {r : JrnRecord} {rest : List JrnRecord} (hHead : s.jrn.wbuf = r :: rest) :
    KeepsBank s ((s.logRecord r rest).recordReached r) where
  regs := (FaultFrame.moves State.logRecord_moves (by decide)).trans (.moves State.recordReached_moves (by decide))
  chip := State.recordReached_moves.same .chip (by decide)
  wbuf := by
    have hRest : ((s.logRecord r rest).recordReached r).jrn.wbuf = rest :=
      congrArg JrnState.wbuf (State.recordReached_moves.same .jrn (by decide))
    rw [hRest, hHead]
    exact List.subset_cons_self _ _

theorem State.journalProgram_keepsBank (ok : Bool) : KeepsBank s (s.journalProgram ok) := by
  by_cases hWaits : s.jrn.wbuf = [] ∨ s.slotBusy = true ∨ s.suspended = true
  · rw [State.journalProgram_waits ok hWaits]
    exact .refl
  · simp only [not_or, Bool.not_eq_true] at hWaits
    obtain ⟨hSome, hFree, hRuns⟩ := hWaits
    obtain ⟨r, rest, hHead⟩ := List.exists_cons_of_ne_nil hSome
    by_cases hFails : ok = false ∨ (s.injects (srcChip 0x11 1)).isSome = true
    · have hMeets : KeepsBank s (s.meetFiring (srcChip 0x11 1)) :=
        ⟨.moves State.meetFiring_moves (by decide), State.meetFiring_moves.same .chip (by decide),
          (congrArg (·.wbuf ⊆ s.jrn.wbuf) (State.meetFiring_moves.same .jrn (by decide))).mpr (List.Subset.refl _)⟩
      rw [State.journalProgram_fails hHead hFree hRuns hFails]
      exact hMeets.trans State.slotFails_keepsBank
    · simp only [not_or, Bool.not_eq_false, Option.not_isSome_iff_eq_none] at hFails
      obtain ⟨rfl, hNone⟩ := hFails
      rw [State.journalProgram_verified hHead hFree hRuns hNone]
      exact State.recordProgrammed_keepsBank hHead

/-- No warm reset suspends the journal any more (R488). -/
def State.endWarm (s : State) : State := { s with chip := { s.chip with warm := .none } }

theorem State.flushJournal_keepsBank : KeepsBank s.endWarm s.flushJournal :=
  .fold (fun _ _ => State.journalProgram_keepsBank true) _

/-! ### The charge and the voltage behind a measurement (R478, R479, R501) -/

/-- The gains of the monitor stand in the fuses and in the user field of the hold-up bank. -/
theorem State.calValue_bank (hFuses : t.chip.badFuses = s.chip.badFuses) (hField : t.fld 0x100C 7 0 = s.fld 0x100C 7 0) (i : Nat) :
    t.calValue 3 i = s.calValue 3 i := by
  have hUser : t.userField 3 = s.userField 3 := congrArg (signedBits · 8) hField
  have hBad : t.badFuse 3 = s.badFuse 3 := congrArg (BitVec.getLsbD · 3) hFuses
  rw [State.calValue, State.user, hBad, hUser]
  rfl

theorem State.voltage_bank (hFuses : t.chip.badFuses = s.chip.badFuses) (hField : t.fld 0x100C 7 0 = s.fld 0x100C 7 0) (mv : Int) :
    t.voltage mv = s.voltage mv := by
  rw [State.voltage, State.calValue_bank hFuses hField, State.voltage]

theorem State.charge_bank (hFuses : t.chip.badFuses = s.chip.badFuses) (hField : t.fld 0x100C 7 0 = s.fld 0x100C 7 0)
    (hSense : t.fld 0x300060 23 16 = s.fld 0x300060 23 16) (sense : Int) : t.charge sense = s.charge sense := by
  rw [State.charge, State.calValue_bank hFuses hField, hSense, State.charge]

/-! ### The end of the flush -/

/-- The flush has ended, and its flags show it. -/
def State.flushEnds (s : State) : State := (s.flushJournal.setBit 0x5F0004 2 false).setBit 0x300068 1 true

/-- The capacitance that a charge and a fall in voltage measure is shown, when the charge is large enough. -/
def State.showCapacitance (s : State) (q v : Int) : State :=
  if 500 ≤ q ∧ 0 < v then s.setFld 0x30006C 31 16 (clampInt (q * 1000 / v) 0 65535).toNat else s

theorem State.flushEnds_status : s.flushEnds.bit 0x5F0004 2 = false :=
  (State.bit_setBit_reg _ _ _ _ _ _ (by decide)).trans (State.bit_setBit_same _ _ _ _ (by decide))

theorem State.flushEnds_flag : s.flushEnds.bit 0x300068 1 = true := State.bit_setBit_same _ _ _ _ (by decide)

theorem State.flushEnds_jrn : s.flushEnds.jrn = s.flushJournal.jrn :=
  (State.setBit_moves.same .jrn (by decide)).trans (State.setBit_moves.same .jrn (by decide))

theorem exec_journalFlushDone_none {sense fall : Nat} (h : s.bit 0x5F0004 2 = false) :
    exec (.journalFlushDone sense fall) s = .next s := if_pos (by simp [h])

/-- A register that neither the flags of the flush nor a fault write reads as before the flush. -/
theorem State.flushEnds_fld {o : Nat} (ho : faultRegister o = false) (hStatus : o ≠ 0x5F0004) (hFlag : o ≠ 0x300068) (hi lo : Nat) :
    s.flushEnds.fld o hi lo = s.fld o hi lo := by
  rw [State.flushEnds, State.fld_setBit_reg _ _ _ _ _ _ _ hFlag, State.fld_setBit_reg _ _ _ _ _ _ _ hStatus]
  exact State.flushJournal_keepsBank.regs.fld ho hi lo

theorem State.flushEnds_chip : s.flushEnds.chip = { s.chip with warm := .none } := State.flushJournal_keepsBank.chip

theorem State.flushEnds_badFuses : s.flushEnds.chip.badFuses = s.chip.badFuses := by rw [State.flushEnds_chip]

theorem State.flushEnds_charge (sense : Int) : s.flushEnds.charge sense = s.charge sense :=
  State.charge_bank State.flushEnds_badFuses
    (State.flushEnds_fld (by decide) (by decide) (by decide) _ _) (State.flushEnds_fld (by decide) (by decide) (by decide) _ _) _

theorem State.flushEnds_voltage (mv : Int) : s.flushEnds.voltage mv = s.voltage mv :=
  State.voltage_bank State.flushEnds_badFuses
    (State.flushEnds_fld (by decide) (by decide) (by decide) _ _) _

theorem exec_journalFlushDone_flushed {sense fall : Nat} (h : s.bit 0x5F0004 2 = true) :
    exec (.journalFlushDone sense fall) s =
      .next ((s.flushEnds.showCapacitance (s.charge sense) (s.voltage fall)).setMode true) := by
  rw [← State.flushEnds_charge (s := s), ← State.flushEnds_voltage (s := s)]
  exact if_neg (by simp [h])

theorem State.showCapacitance_moves (q v : Int) : Moves [.regs] s (s.showCapacitance q v) := .ite State.setFld_moves .refl

theorem State.showCapacitance_bit (q v : Int) {o : Nat} (h : o ≠ 0x30006C) (i : Nat) :
    (s.showCapacitance q v).bit o i = s.bit o i := by
  unfold State.showCapacitance
  split
  · exact State.bit_setFld_reg _ _ _ _ _ _ _ h
  · rfl

theorem clampInt_toNat_lt (v : Int) : (clampInt v 0 65535).toNat < 2 ^ 16 := by
  unfold clampInt
  omega

theorem State.showCapacitance_fld {q v : Int} (hq : 500 ≤ q) (hv : 0 < v) :
    (s.showCapacitance q v).fld 0x30006C 31 16 = (clampInt (q * 1000 / v) 0 65535).toNat := by
  rw [State.showCapacitance, if_pos ⟨hq, hv⟩, State.fld_setFld_same _ _ _ _ _ (by decide) (by decide)]
  exact Nat.mod_eq_of_lt (clampInt_toNat_lt _)

/-- Settles O38: programming goes by whether the slot verifies, a checkpoint by induction on its rings, and the end of the
flush over the records that wait; the commands of the mode write JRN_STATUS and the gate. -/
theorem theJournalIsProgrammed : Obligations.TheJournalIsProgrammed := by
  unfold Obligations.TheJournalIsProgrammed
  refine ⟨?verified, ?fails, ?waits, ?noCheckpoint, ?checkpoint, ?force, ?unforce, ?staysThrough, ?noFlush, ?fast, ?supply, ?flushed⟩
  case verified =>
    intro r rest s hHead hFree hRuns hNone
    refine ⟨_, exec_journalProgram_verified hHead hFree hRuns hNone, ?_, ?_, ?_, ?_, State.recordReached_done,
      State.recordReached_counter, fun q hq => State.recordReached_sq hq,
      (Moves.step State.recordReached_moves (by decide) (State.logRecord_moves.mono (by decide))).only⟩
    · rw [State.recordReached_jrn]
      rfl
    · rw [State.recordReached_jrn]
      exact State.logRecord_log
    · rw [State.recordReached_jrn]
      rfl
    · rw [State.recordReached_jrn]
      rfl
  case fails =>
    intro r rest s hHead hFree hRuns hNone
    obtain ⟨hCause, hClass⟩ := State.latchFault_s_shows (s := s.markSlot) (srcChip 0x11 1) 0 false false
    refine ⟨_, exec_journalProgram_fails hHead hFree hRuns hNone, ?_, ?_, ?_, ?_, hCause, hClass,
      fun x hx => State.slotFails_source hx, State.slotFails_frame⟩
    · rw [State.slotFails_jrn]
      rfl
    · rw [State.slotFails_jrn]
      rfl
    · rw [State.slotFails_jrn]
      exact mem_addOnce _ _
    · rw [State.slotFails_jrn]
      rfl
  case waits => exact fun b s h => exec_journalProgram_waits h
  case noCheckpoint => exact fun s h => exec_journalCheckpoint_idle h
  case checkpoint =>
    intro s hServed hRoom
    obtain ⟨hExecuted, hLog, hWaiting⟩ := State.checkpoint_keeps (s := s) s.ringsToCheck.length s.ringsToCheck
    exact ⟨_, exec_journalCheckpoint_served hServed,
      fun r hr => (State.checkpoint_coveredOf (Nat.le_refl _) hRoom r).trans (if_pos hr), hExecuted, hLog,
      (List.prefix_iff_eq_take.mp hWaiting).symm, State.checkpoint_moves.only⟩
  case force =>
    intro v s hSet hOpen
    refine ⟨_, exec_journalForceWt_set hOpen hSet, State.setMode_writeThrough _, ?_, fun hFast => ?_,
      (Moves.step State.setMode_moves (by decide) (State.setFld_moves.mono (by decide))).only⟩
    · rw [State.setMode_bit _ (by decide) (by decide)]
      exact State.bit_setBit_same s 0x5F0000 0 true (by decide)
    · have hStill : (s.setFld 0x5F0000 0 0 1).writeThrough = false :=
        (State.bit_setFld_reg _ _ _ _ _ _ _ (by decide)).trans hFast
      rw [State.setMode_jrn, if_pos ⟨rfl, hStill⟩]
      rfl
  case unforce => exact fun v s hClear hOpen => ⟨_, exec_journalForceWt_clear hOpen hClear, rfl⟩
  case staysThrough => exact fun s h => exec_journalFastResume_waits h
  case noFlush => exact fun a b s h => exec_journalFlushDone_none h
  case fast =>
    intro s hBank hFree hSupply
    refine ⟨_, exec_journalFastResume_returns hBank hFree hSupply, State.setMode_writeThrough _, ?_, ?_⟩
    · rw [State.setMode_jrn, if_neg (by simp)]
    · exact State.setMode_fast_moves.only
  case supply =>
    intro s
    exact ⟨_, exec_mainSupplyFail, congrArg (fun c : ChipState => { c with mode := .off, warm := .none }) State.startFlush_chip,
      congrArg (fun b : BootState => { b with noSupply := true }) State.startFlush_boot, State.startFlush_noEntry,
      State.startFlush_wbuf, State.startFlush_writeThrough, (State.goDark_bit _ _).trans State.startFlush_status,
      ((exec_ends s _).moves exec_mainSupplyFail).only⟩
  case flushed =>
    intro sense fall s h
    refine ⟨_, exec_journalFlushDone_flushed h, ?_, ?_, fun hq hv => ?_, State.setMode_writeThrough _, ?_, ?_⟩
    · rw [State.setMode_status, if_neg (by decide), State.showCapacitance_bit _ _ (by decide)]
      exact State.flushEnds_status
    · rw [State.setMode_bit _ (by decide) (by decide), State.showCapacitance_bit _ _ (by decide)]
      exact State.flushEnds_flag
    · rw [State.setMode_fld _ (by decide) (by decide), State.showCapacitance_fld hq hv]
    · rw [State.setMode_chip, (State.showCapacitance_moves _ _).same .chip (by decide)]
      exact State.flushEnds_chip
    · rw [State.setMode_wbuf, (State.showCapacitance_moves _ _).same .jrn (by decide), State.flushEnds_jrn]
      exact fun r hr => State.flushJournal_keepsBank.wbuf hr

end Sys2Proof.Machine
end

section
/-! PROOFS. A sample of a frame that a free list still ends in (R169, R293, R300). -/

namespace Sys2Proof.Machine

variable {s u : State}

/-! ### The cells of a record (R170, R293) -/

/-- The device after the record writer has taken a cell of bank group `g` of die 0, which popped cell `c`. -/
def State.recordTaken (s : State) (g c : Nat) : State :=
  let u := (({ s with freeCount := s.freeCount + 1 } : State).popRecord g).1
  let v := u.setLink c { u.link c with owner := 0, last := true }
  ({ v with buf := { v.buf with rot := Tbl.put zeroNat u.buf.rot (recordWriter * 2) ((g % 128 + 1) % 128) } } : State).count (cChip 2) 1

/-- Where die 0 has one bank group left, the writer's cell comes from it, whatever the write stages say. -/
theorem State.recordCell_one {g c : Nat} (hGroup : s.usableGroups recordWriter 0 = [g])
    (hPop : (({ s with freeCount := s.freeCount + 1 } : State).popRecord g).2 = some c) :
    s.recordCell = (s.recordTaken g c, some c) := by
  unfold State.recordCell State.takeHead
  simp [hGroup, Nat.mod_one, hPop, State.recordTaken]

/-- A record of at most 256 bytes, with room in the RECORD pool, is built in the one cell that the writer takes. -/
theorem State.recordCells_single {n c : Nat} (hSmall : (n + 255) / 256 = 1)
    (hRoom : s.recordUse + 1 ≤ s.lim 0x800008 31 16 - 256) (hCell : s.recordCell = (u, some c)) :
    s.recordCells n = (u, some [c]) := by
  unfold State.recordCells
  rw [hSmall, if_pos hRoom]
  simp [State.recordTake, hCell]

/-! ### The delivery of a sample (R293, R387) -/

/-- The record of a session's sample, for the room in its buffer (R293). -/
def State.sampleRecord (s : State) (m : Nat) (x : CopyRec) (frame : List Byte) (room : Nat) : List Byte :=
  s.copyHeader x m (min (frame.take 256).length (room - 16) - 1) ++ frame.take 256

/-- The record of a session's sample goes to its ring, it is counted as sampled or as dropped, and the cell that it was built
in is free again. -/
def State.sendSample (s : State) (ring m c : Nat) (record : Nat → List Byte) (ci : Option Word) : State :=
  let y := s.rxDeliver ring 1 m record ci
  (y.1.count (cMirror m (if y.2 then 2 else 5)) 1).recordFree [c]

theorem State.deliverSession_sample {m c : Nat} {x : CopyRec} {frame : List Byte} {ci : Option Word}
    (hSample : s.bit (0x2501000 + m * 8) 30 = true) (hCells : s.recordCells (16 + (frame.take 256).length) = (u, some [c]))
    (hFound : u.buf.found = []) :
    s.deliverSession m x frame ci = u.sendSample (s.fld (0x2501000 + m * 8) 11 0) m c (s.sampleRecord m x frame) ci := by
  have hRaised : u.raiseFound = u := if_pos (by rw [hFound]; rfl)
  unfold State.deliverSession
  simp only [hSample, if_true, hCells, hRaised]
  rfl

theorem State.deliverCopy_session {d : Nat} {h : Holder} {cpuToo : Bool} {ci : Option Word} {x : CopyRec}
    (hCopy : s.egr.copies.find? (fun c => c.desc = d && c.holder = h) = some x) (hEnded : (s.info d).ended = true)
    (hRoom : s.sharedFull = false) (hGuards : s.badCell d (s.desc d).dest = none) (hMirror : holderTarget h ≠ 0x2000) :
    s.deliverCopy d h cpuToo ci = (s.deliverSession (holderTarget h % 64) x (s.frameBytes d) ci).endDelivery x := by
  simp [State.deliverCopy, hCopy, hEnded, hRoom, hMirror, State.checkGuards, hGuards]

theorem exec_rxCopyDeliver_sample {d : DescId} {h : Holder} {ci : Option Word}
    (hSample : s.bit (0x2501000 + holderTarget h % 64 * 8) 30 = true) :
    exec (.rxCopyDeliver d h ci) s = .next (s.deliverCopy d h true ci) := if_pos (by simp [hSample])

/-! ### The device -/

/-- A mirror copy of the frame in descriptor 5, for session 0. -/
def sampleCopy : CopyRec where
  desc := 5
  holder := holderMirror 0 0
  ts := 0
  egress := false
  dropped := false
  out := none
  reason := 0
  cpu := 0

/-- A packet of the frame's egress pass in a pipeline of span 25: physical pipeline 256. -/
def strayPacket : Packet where
  pass := .egress
  span := 25
  pipe := 1
  group := 0
  origin := .copy
  desc := some 5
  copy := none

/-- The one buffer of ring 2. -/
def sampleBuffer : RxBuf := { idx := 4, tag := 9, addr := 0x1000, len := 300, code := 0 }

/-- A cell of the frame, its guard as written. -/
def sampledCell (c next : Nat) (last : Bool) : LinkWord :=
  { next := next, last := last, alloc := true, refcnt := 2, guard := crc32c [0] ^^^ guardFold c 0 0 }

/-- The device with a frame of two cells, 49151 and 7, in descriptor 5. Bank group 5 is the one of die 0 in use; its free list
is as after reset, and still ends at cell 49151. Session 0 samples into receive ring 2, whose completion ring 2 has room, and
the stray packet of the frame is in flight. -/
def State.sampleOfTail : State :=
  { ((((State.reset.setReg 0x80000C 0x1000).setReg 0x2501000 0xC0000002).setReg 0x420098 0xB2001000).setReg 0x460098 0x82000000) with
    rx := { info := [(5, { ended := true })] }
    buf := { limits := [(0x800008, 0x02000000)], desc := [(5, { alloc := true, cells := 2, first := 49151, last := 7 })]
             link := [(7, sampledCell 7 8 true), (49151, sampledCell 49151 7 false)] }
    egr := { copies := [sampleCopy] }
    pipes := { packets := [(0, some strayPacket)] }
    hq := { busMaster := true, pcieUp := true, sq := [(2, { bufs := [sampleBuffer] })] }
    fc := { retired := (List.range 128).filter (fun g => g ≠ 5) } }

theorem State.sampleOfTail_takes : State.sampleOfTail.recordCells 18 = (State.sampleOfTail.recordTaken 5 40960, some [40960]) :=
  State.recordCells_single rfl (by decide) (State.recordCell_one (by decide +kernel) (by decide +kernel))

theorem State.sampleOfTail_frame : State.sampleOfTail.frameBytes 5 = [0, 0] := by decide +kernel

/-- What RX_COPY_DELIVER leaves of the device. -/
def State.tailSampled : State :=
  ((State.sampleOfTail.recordTaken 5 40960).sendSample 2 0 40960 (State.sampleOfTail.sampleRecord 0 sampleCopy [0, 0])
    none).endDelivery sampleCopy

theorem exec_rxCopyDeliver_sampleOfTail :
    exec (.rxCopyDeliver 5 (holderMirror 0 0) none) State.sampleOfTail = .next State.tailSampled := by
  have hSession := State.deliverSession_sample (m := 0) (x := sampleCopy) (frame := [0, 0]) (ci := none)
    (by decide : State.sampleOfTail.bit 0x2501000 30 = true) State.sampleOfTail_takes (by decide +kernel)
  have hCopy := State.deliverCopy_session (s := State.sampleOfTail) (d := 5) (h := holderMirror 0 0) (cpuToo := true) (ci := none)
    (x := sampleCopy) rfl rfl (by decide) (by decide +kernel) (by decide)
  rw [State.sampleOfTail_frame] at hCopy
  exact (exec_rxCopyDeliver_sample (by decide)).trans (congrArg Host.Outcome.next
    (hCopy.trans (congrArg (State.endDelivery · sampleCopy) hSession)))

/-- The stray packet's slot counts where the samples of session 0 are counted. -/
theorem State.tailSampled_counter : State.tailSampled.counter (cMirror 0 2) = 2 := by decide +kernel

/-- Refutes O42: the statement does not ask that the free lists hold none of the frame's cells, nor that a packet's pipeline
is one of the device's. The cell of the sample's record goes back behind cell 49151, where the list ends, so that the frame's
first cell leads to it; the release meets that cell FREE and the frame is quarantined (R179). Its packet is discarded, and
the slot wasted in pipeline 256 counts at the offset of session 0's samples (R296), which shows 2 for the one sample. -/
theorem not_telemetryIsKept : ¬ Obligations.TelemetryIsKept := by
  unfold Obligations.TelemetryIsKept
  rintro ⟨-, -, -, -, -, -, -, -, hSample, -⟩
  obtain ⟨t, e, -, -, -, hCounter⟩ := hSample 5 (holderMirror 0 0) none sampleCopy sampleBuffer [] State.sampleOfTail rfl rfl
    (by decide) (State.checkGuards_good.mpr (by decide +kernel)) (by decide) (by decide)
    (congrArg (fun x => x.2.isSome) State.sampleOfTail_takes) (by decide) (by decide) (by decide) rfl rfl (by decide)
    rfl rfl (by decide) (by decide) (by decide) (by decide) (by decide)
  obtain rfl := Host.Outcome.next.inj (exec_rxCopyDeliver_sampleOfTail.symm.trans e)
  exact absurd (State.tailSampled_counter.symm.trans hCounter) (by decide)

end Sys2Proof.Machine
end

section
/-! PROOFS. Time bases: what a read finds after a write of one, what a change of state or a switchover leaves of them, and
the registers of time that no fault or interrupt touches. -/

namespace Sys2Proof.Machine

variable {s t u : State}

/-! ### Reads of a base -/

theorem State.tb_setTb (n m : Nat) (b : TbBase) : (s.setTb n b).tb m = if m = n then b else s.tb m := by
  simp [State.tb, State.setTb, Tbl.get_put]

@[simp] theorem State.tb_setTb_same (n : Nat) (b : TbBase) : (s.setTb n b).tb n = b := by simp [State.tb_setTb]

theorem State.tb_setTb_ne {n m : Nat} (h : m ≠ n) (b : TbBase) : (s.setTb n b).tb m = s.tb m := by simp [State.tb_setTb, h]

theorem State.tb_of_time (h : t.time.tb = s.time.tb) (m : Nat) : t.tb m = s.tb m := congrArg (Tbl.get tbDefault · m) h

theorem State.tb_moves {ps : List StatePart} (h : Moves ps s t) (hp : .time ∉ ps) (m : Nat) : t.tb m = s.tb m :=
  State.tb_of_time (congrArg TimeState.tb (h.same .time hp)) m

@[simp] theorem State.fld_setTb (n : Nat) (b : TbBase) (o hi lo : Nat) : (s.setTb n b).fld o hi lo = s.fld o hi lo := rfl

@[simp] theorem State.tbState_setTb (n m : Nat) (b : TbBase) : (s.setTb n b).tbState m = s.tbState m := rfl

@[simp] theorem State.tbSource_setTb (n m : Nat) (b : TbBase) : (s.setTb n b).tbSource m = s.tbSource m := rfl

@[simp] theorem State.reg_setTb (n : Nat) (b : TbBase) (o : Nat) : (s.setTb n b).reg o = s.reg o := rfl

@[simp] theorem State.tb_setD (d : Int) (n : Nat) : (s.setD d).tb n = s.tb n := rfl

@[simp] theorem State.reg_setD (d : Int) (o : Nat) : (s.setD d).reg o = s.reg o := rfl

@[simp] theorem State.fld_setD (d : Int) (o hi lo : Nat) : (s.setD d).fld o hi lo = s.fld o hi lo := rfl

@[simp] theorem State.bit_setD (d : Int) (o i : Nat) : (s.setD d).bit o i = s.bit o i := rfl

/-! ### The registers of time -/

/-- No fault and no interrupt writes the registers of the time bases, the cadence base and its slots (R326 to R329). -/
theorem faultRegister_time {o : Nat} (h : 0x200000 ≤ o) (h' : o < 0x300000) : faultRegister o = false := by
  simp [faultRegister]; omega

/-- A field written with what it holds leaves its word. -/
theorem setBits_getBits (w : Word) (hi lo : Nat) : setBits w hi lo (getBits w hi lo) = w := by
  have hMod : getBits w hi lo % 2 ^ (hi - lo + 1) = getBits w hi lo := Nat.mod_eq_of_lt (getBits_lt w hi lo)
  rw [setBits, hMod, Nat.sub_add_cancel (getBits_le_toNat w hi lo), BitVec.ofNat_toNat, BitVec.setWidth_eq]

/-- The bases, the mode and its companions, and the registers of the time bases are as they were. -/
structure KeepsBases (s t : State) : Prop where
  tb : ∀ m, t.tb m = s.tb m
  chip : t.chip = s.chip
  reg : ∀ o, 0x200000 ≤ o → o < 0x201000 → t.reg o = s.reg o

theorem KeepsBases.refl : KeepsBases s s := ⟨fun _ => rfl, rfl, fun _ _ _ => rfl⟩

theorem KeepsBases.trans (h : KeepsBases s t) (k : KeepsBases t u) : KeepsBases s u :=
  ⟨fun m => (k.tb m).trans (h.tb m), k.chip.trans h.chip, fun o hl hh => (k.reg o hl hh).trans (h.reg o hl hh)⟩

theorem KeepsBases.fld (h : KeepsBases s t) {o : Nat} (hl : 0x200000 ≤ o) (hh : o < 0x201000) (hi lo : Nat) :
    t.fld o hi lo = s.fld o hi lo := congrArg (getBits · hi lo) (h.reg o hl hh)

/-- An operation that writes registers of faults and interrupts alone. -/
theorem KeepsBases.of_frame {ps : List StatePart} (h : Moves ps s t) (f : FaultFrame s t) (ht : .time ∉ ps)
    (hc : .chip ∉ ps) : KeepsBases s t :=
  ⟨State.tb_moves h ht, h.same .chip hc, fun o hl hh => f o (faultRegister_time hl (by omega))⟩

theorem State.irq_keepsBases (n : Nat) : KeepsBases s (s.irq n) :=
  .of_frame State.irq_moves (State.irq_frame n) (by decide) (by decide)

theorem State.latchFault_n_keepsBases (src detail : Nat) (h : 0xF800 ≤ src) : KeepsBases s (s.latchFault src .n detail) :=
  .of_frame (State.latchFault_n_moves _ _ _ _ h) (State.latchFault_frame _ _ _ _ _ (by decide)) (by decide) (by decide)

/-- A register of the cadence base is written. -/
theorem State.setFld_keepsBases {o hi lo v : Nat} (h : o < 0x200000 ∨ 0x201000 ≤ o) : KeepsBases s (s.setFld o hi lo v) :=
  ⟨fun _ => rfl, rfl, fun _ _ _ => State.reg_setFld_ne _ _ _ _ _ _ (by omega)⟩

/-! ### PPS_OUT (R325) -/

/-- PPS_OUT falls or stays; of time nothing else changes. -/
theorem State.settlePps_time : ∃ b, s.settlePps.time = { s.time with ppsOut := b } := by
  unfold State.settlePps
  split
  · exact ⟨false, rfl⟩
  · exact ⟨s.time.ppsOut, rfl⟩

theorem State.settlePps_d : s.settlePps.time.d = s.time.d := by
  obtain ⟨b, hTime⟩ := State.settlePps_time (s := s)
  rw [hTime]

theorem State.settlePps_reg (o : Nat) : s.settlePps.reg o = s.reg o := State.reg_moves State.settlePps_moves (by decide) o

theorem State.settlePps_keepsBases : KeepsBases s s.settlePps := by
  refine ⟨fun m => ?_, State.settlePps_moves.same .chip (by decide), fun o _ _ => State.settlePps_reg o⟩
  obtain ⟨b, hTime⟩ := State.settlePps_time (s := s)
  exact State.tb_of_time (by rw [hTime]) m

/-! ### A switchover (R315) -/

/-- The registers of the cadence base show the new source and count the switchover. -/
def State.showSwitchover (s : State) (n : Nat) : State :=
  ((s.setFld 0x201000 8 8 n).setFld 0x201004 0 0 n).incMod 0x201004 15 8 1

theorem State.switchover_eq (n : Nat) : s.switchover n = (((s.showSwitchover n).setD
    ((s.cb : Int) - (((s.showSwitchover n).tb n).val : Int))).latchFault (srcChip 0x12 4) .n).settlePps := rfl

theorem State.switchover_keepsBases (n : Nat) : KeepsBases s (s.switchover n) := by
  have hShown : KeepsBases s (s.showSwitchover n) := ((State.setFld_keepsBases (by decide)).trans
    (State.setFld_keepsBases (by decide))).trans (State.setFld_keepsBases (by decide))
  have hD (d : Int) : KeepsBases (s.showSwitchover n) ((s.showSwitchover n).setD d) :=
    ⟨fun _ => rfl, rfl, fun _ _ _ => rfl⟩
  rw [State.switchover_eq]
  exact ((hShown.trans (hD _)).trans (State.latchFault_n_keepsBases _ _ (by decide))).trans State.settlePps_keepsBases

theorem State.switchover_d (n : Nat) : (s.switchover n).time.d = (s.cb : Int) - ((s.tb n).val : Int) := by
  rw [State.switchover_eq, State.settlePps_d, (State.latchFault_n_moves _ _ _ _ (by decide)).same .time (by decide)]
  rfl

/-- Outside the collector and the pending interrupts a switchover writes the two registers that show it. -/
theorem State.switchover_reg (n : Nat) {o : Nat} (ho : faultRegister o = false) :
    (s.switchover n).reg o = (s.showSwitchover n).reg o := by
  rw [State.switchover_eq, State.settlePps_reg, State.latchFault_frame _ _ _ _ _ (by decide) o ho]
  rfl

theorem State.switchover_following (n : Nat) : (s.switchover n).following = n % 2 := by
  rw [State.following, State.fld, State.switchover_reg n (by decide)]
  exact (State.fld_setFld_ne _ _ _ _ _ _ _ _ (by decide) (by decide) (by decide) (by decide)).trans
    (State.fld_setFld_same _ _ _ _ _ (by decide) (by decide))

theorem State.switchover_shows (n : Nat) : ((s.switchover n).source (srcChip 0x12 4)).ShowsN := by
  rw [State.switchover_eq, State.source_moves State.settlePps_moves (by decide)]
  exact State.latchFault_n_shows _ _ _ _

/-! ### A change of state of a base (R313, R326) -/

/-- The new state of a base shows, with its interrupt and what PPS_OUT makes of it. -/
def State.showTbState (s : State) (n v : Nat) : State := ((s.setFld (0x200004 + n * 0x40) 1 0 v).irq 8).settlePps

theorem State.showTbState_keepsBases (n v : Nat) : KeepsBases (s.setFld (0x200004 + n * 0x40) 1 0 v) (s.showTbState n v) :=
  (State.irq_keepsBases 8).trans State.settlePps_keepsBases

/-- A base that changes its state shows it, and a followed base that leaves LOCKED may give way to the other. -/
theorem State.setTbState_cases (n v : Nat) : s.tbState n = v ∧ s.setTbState n v = s ∨ s.setTbState n v = s.showTbState n v ∨
    s.tbState n = 2 ∧ s.setTbState n v = (s.showTbState n v).switchover (1 - n) := by
  unfold State.setTbState
  dsimp only
  split
  · next h => exact .inl ⟨h, rfl⟩
  · split
    · next h =>
      simp only [Bool.and_eq_true, decide_eq_true_eq] at h
      exact .inr (.inr ⟨h.1.1.1.1, rfl⟩)
    · exact .inr (.inl rfl)

/-- A change of state writes the field of the state, and of the bases and their registers nothing else. -/
theorem State.setTbState_keepsBases (n v : Nat) :
    KeepsBases (s.setFld (0x200004 + n * 0x40) 1 0 v) (s.setTbState n v) := by
  obtain ⟨hSame, e⟩ | e | ⟨-, e⟩ := State.setTbState_cases (s := s) n v <;> rw [e]
  · refine ⟨fun _ => rfl, rfl, fun o _ _ => ?_⟩
    by_cases ho : o = 0x200004 + n * 0x40
    · rw [ho, State.reg_setFld_same, ← hSame]
      exact (setBits_getBits _ _ _).symm
    · exact (State.reg_setFld_ne _ _ _ _ _ _ ho).symm
  · exact State.showTbState_keepsBases n v
  · exact (State.showTbState_keepsBases n v).trans (State.switchover_keepsBases _)

theorem State.setTbState_tb (n v m : Nat) : (s.setTbState n v).tb m = s.tb m := (State.setTbState_keepsBases n v).tb m

theorem State.setTbState_chip (n v : Nat) : (s.setTbState n v).chip = s.chip := (State.setTbState_keepsBases n v).chip

section
variable {n v : Nat} (hn : n < 4)
include hn

theorem State.setTbState_state : (s.setTbState n v).tbState n = v % 4 :=
  ((State.setTbState_keepsBases n v).fld (by omega) (by omega) 1 0).trans
    (State.fld_setFld_same _ _ _ _ _ (by decide) (by decide))

theorem State.setTbState_fld {hi lo : Nat} (h : lo ≤ hi) (h' : 1 < lo) :
    (s.setTbState n v).fld (0x200004 + n * 0x40) hi lo = s.fld (0x200004 + n * 0x40) hi lo :=
  ((State.setTbState_keepsBases n v).fld (by omega) (by omega) hi lo).trans
    (State.fld_setFld_ne _ _ _ _ _ _ _ _ (by decide) (by decide) h (.inl h'))

end

theorem State.setTbState_reg {n v o : Nat} (hl : 0x200000 ≤ o) (hh : o < 0x201000) (h : o ≠ 0x200004 + n * 0x40) :
    (s.setTbState n v).reg o = s.reg o :=
  ((State.setTbState_keepsBases n v).reg o hl hh).trans (State.reg_setFld_ne _ _ _ _ _ _ h)

theorem State.setTbState_source {n v m : Nat} (hm : m < 4) : (s.setTbState n v).tbSource m = s.tbSource m := by
  have hCtrl : (s.setTbState n v).fld (0x200000 + m * 0x40) 31 28 = s.fld (0x200000 + m * 0x40) 31 28 :=
    congrArg (getBits · 31 28) (State.setTbState_reg (by omega) (by omega) (by omega))
  rw [State.tbSource, hCtrl, State.tbSource]

/-- A base that is not LOCKED raises no switchover when it changes its state. -/
theorem State.setTbState_moves_unlocked {n v : Nat} (h : s.tbState n ≠ 2) :
    Moves [.regs, .emitted, .time] s (s.setTbState n v) := by
  obtain ⟨-, e⟩ | e | ⟨h2, -⟩ := State.setTbState_cases (s := s) n v
  · rw [e]
    exact .refl
  · rw [e]
    exact Moves.step State.settlePps_moves (by decide) (Moves.step State.irq_moves (by decide)
      (State.setFld_moves.mono (by decide)))
  · exact absurd h2 h

end Sys2Proof.Machine
end

section
/-! PROOFS. Samples: what the servo of a base does with one (R312, R313), and how offsets and edges of the PPS inputs become
samples that wait (R311). -/

namespace Sys2Proof.Machine

variable {s t u : State}

/-! ### Signed arithmetic of 64 bits (R312) -/

theorem wrap64_of_fits {x : Int} (hl : -2 ^ 63 ≤ x) (hh : x < 2 ^ 63) : wrap64 x = x :=
  BitVec.toInt_ofInt_eq_self (by decide) hl hh

theorem signedBits_fits {v : Nat} (h : v < 2 ^ 64) : -2 ^ 63 ≤ signedBits v 64 ∧ signedBits v 64 < 2 ^ 63 := by
  unfold signedBits
  split <;> omega

theorem absInt_le {x b : Int} : absInt x ≤ b ↔ -b ≤ x ∧ x ≤ b := by
  unfold absInt
  split <;> omega

/-- A quotient is no further from 0 than its dividend. -/
theorem ediv_two_pow_fits {x b : Int} (hb : 0 ≤ b) (hl : -b ≤ x) (hh : x ≤ b) (k : Nat) :
    -b ≤ x / 2 ^ k ∧ x / 2 ^ k ≤ b := by
  have hPos : (0 : Int) < 2 ^ k := by positivity
  constructor
  · refine Int.le_ediv_of_mul_le hPos (le_trans ?_ hl)
    nlinarith
  · refine Int.ediv_le_of_le_mul hPos (le_trans hh ?_)
    nlinarith

theorem clampInt_fits {x l h : Int} (hlh : l ≤ h) : l ≤ clampInt x l h ∧ clampInt x l h ≤ h := by
  unfold clampInt
  split_ifs <;> omega

/-! ### The parts of the servo (R312, R313) -/

/-- A sample lies beyond the step limit of its base. -/
def State.farSample (s : State) (n : Nat) (theta : Int) : Bool :=
  decide (wrap64 (absInt theta) > ((max 1 (s.fld (0x20000C + n * 0x40) 31 16) : Nat) : Int) * 65536)

/-- A sample within the step limit is small, and none of its arithmetic wraps. -/
theorem State.farSample_of_le {n : Nat} {theta : Int}
    (h : absInt theta ≤ (max 1 (s.fld (0x20000C + n * 0x40) 31 16) : Nat) * 65536) :
    s.farSample n theta = false ∧ -2 ^ 32 ≤ theta ∧ theta ≤ 2 ^ 32 := by
  have hStep : s.fld (0x20000C + n * 0x40) 31 16 < 2 ^ 16 := getBits_lt _ _ _
  have hSmall : absInt theta ≤ 2 ^ 32 := by omega
  obtain ⟨hl, hh⟩ := absInt_le.mp hSmall
  have hAbs : 0 ≤ absInt theta := by unfold absInt; split <;> omega
  refine ⟨?_, hl, hh⟩
  rw [State.farSample, wrap64_of_fits (by omega) (by omega)]
  exact decide_eq_false (not_lt.mpr h)

/-- The base is stepped by a sample, and a followed one leaves the cadence base where it is. -/
def State.stepBase (s : State) (n : Nat) (theta : Int) : State :=
  let t := (s.setTb n { s.tb n with val := moveBase (s.tb n).val (-(theta * 2 ^ 32)) }).setBit (0x200004 + n * 0x40) 4 true
  if t.following = n then t.setD (t.time.d + theta * 2 ^ 32) else t

/-- The integrator and the frequency of the base take a sample, clamped, and a clamp shows. -/
def State.steerBase (s : State) (n : Nat) (theta : Int) : State :=
  let i := wrap64 ((s.tb n).integ - wrap64 (theta * 2 ^ 28) / 2 ^ (s.fld (0x200000 + n * 0x40) 21 16))
  let integ := clampInt i (-2147483648) 2147483647
  let f := wrap64 (integ - wrap64 (theta * 2 ^ 28) / 2 ^ (s.fld (0x200000 + n * 0x40) 27 22))
  let freq := clampInt f (-2147483648) 2147483647
  let t := s.setTb n { s.tb n with integ := integ, freq := freq }
  if integ ≠ i ∨ freq ≠ f then t.setBit (0x200004 + n * 0x40) 5 true else t

/-- The base shows a sample that has been processed. -/
def State.noteSample (s : State) (n : Nat) (theta : Int) (good : Nat) : State :=
  ((s.setTb n { s.tb n with lastSample := s.now, lastTheta := theta, good := good }).incMod (0x200004 + n * 0x40) 31 16 1).setReg
    (0x200018 + n * 0x40) (lastOffs theta)

/-- The base starts to acquire, or locks, after a sample processed in state `st0`. -/
def State.afterSample (s : State) (n st0 good : Nat) : State :=
  if st0 = 0 ∨ st0 = 3 then s.setTbState n 1
  else if st0 = 1 ∧ 16 ≤ good then (s.setTb n { s.tb n with good := 0 }).setTbState n 2
  else s

/-- A LOCKED base sets a far sample aside while fewer than four have come in a row. -/
theorem State.servo_aside {n : Nat} {theta : Int} (hLocked : s.tbState n = 2) (hFar : s.farSample n theta = true)
    (hRow : s.fld (0x200004 + n * 0x40) 3 2 < 3) :
    s.servo n theta = (s.setFld (0x200004 + n * 0x40) 3 2 (s.fld (0x200004 + n * 0x40) 3 2 + 1)).incSat
      (0x200004 + n * 0x40) 15 8 1 := by
  rw [State.farSample] at hFar
  unfold State.servo
  simp only [hLocked, hFar, hRow, decide_true, Bool.and_self, if_true]

/-- A run grows by one or starts anew. -/
theorem goodRun_le {c : Prop} [Decidable c] {n : Nat} : (if c then n + 1 else 0) ≤ n + 1 := by
  split <;> omega

/-- Any other sample, of a base that is not LOCKED or within the step limit, is processed; only a base that acquires counts
good samples. -/
theorem State.servo_near {n : Nat} {theta : Int} (hNear : s.farSample n theta = false) :
    ∃ good, s.servo n theta = (((s.setFld (0x200004 + n * 0x40) 3 2 0).steerBase n theta).noteSample n theta good).afterSample n
        ((s.setFld (0x200004 + n * 0x40) 3 2 0).tbState n) good ∧
      good ≤ (((s.setFld (0x200004 + n * 0x40) 3 2 0).steerBase n theta).tb n).good + 1 ∧
      ((s.setFld (0x200004 + n * 0x40) 3 2 0).tbState n ≠ 1 → good = 0) := by
  rw [State.farSample] at hNear
  unfold State.servo
  simp only [hNear, Bool.and_false, Bool.false_and, Bool.false_eq_true, if_false]
  exact ⟨_, rfl, goodRun_le, fun h => if_neg (by simp [h])⟩

theorem State.servo_far {n : Nat} {theta : Int} (hFar : s.farSample n theta = true) (hState : s.tbState n ≠ 2)
    (hKept : (s.setFld (0x200004 + n * 0x40) 3 2 0).tbState n = s.tbState n) :
    ∃ good, s.servo n theta = (((s.setFld (0x200004 + n * 0x40) 3 2 0).stepBase n theta).noteSample n theta good).afterSample n
        (s.tbState n) good := by
  rw [State.farSample] at hFar
  unfold State.servo
  simp only [hFar, hState, hKept, decide_false, Bool.false_and, Bool.false_eq_true, if_false, ne_eq, not_false_eq_true,
    decide_true, Bool.and_self, if_true]
  exact ⟨_, rfl⟩

/-! ### What each part leaves -/

/-- What the servo leaves until it notes the sample: the other bases, the state of its own, its count of samples, and all
but registers and time. -/
structure KeepsServo (n : Nat) (s t : State) : Prop where
  moves : Moves [.regs, .time] s t
  others : ∀ m, m ≠ n → t.tb m = s.tb m
  now : t.now = s.now
  state : t.tbState n = s.tbState n
  count : t.fld (0x200004 + n * 0x40) 31 16 = s.fld (0x200004 + n * 0x40) 31 16

theorem KeepsServo.refl {n : Nat} : KeepsServo n s s := ⟨.refl, fun _ _ => rfl, rfl, rfl, rfl⟩

theorem KeepsServo.trans {n : Nat} (h : KeepsServo n s t) (k : KeepsServo n t u) : KeepsServo n s u :=
  ⟨h.moves.trans k.moves, fun m hm => (k.others m hm).trans (h.others m hm), k.now.trans h.now,
    k.state.trans h.state, k.count.trans h.count⟩

theorem State.setTb_keepsServo (n : Nat) (b : TbBase) : KeepsServo n s (s.setTb n b) :=
  ⟨State.setTb_moves.mono (by decide), fun _ h => State.tb_setTb_ne h b, rfl, rfl, rfl⟩

/-- A field of the status between its state and its count is written. -/
theorem State.setFld_keepsServo {n hi lo v : Nat} (h : lo ≤ hi) (hl : 1 < lo) (hh : hi < 16) :
    KeepsServo n s (s.setFld (0x200004 + n * 0x40) hi lo v) :=
  ⟨State.setFld_moves.mono (by decide), fun _ _ => rfl, rfl,
    State.fld_setFld_ne _ _ _ _ _ _ _ _ h (by omega) (by decide) (.inr hl),
    State.fld_setFld_ne _ _ _ _ _ _ _ _ h (by omega) (by decide) (.inl hh)⟩

theorem State.setD_keepsServo (n : Nat) (d : Int) : KeepsServo n s (s.setD d) :=
  ⟨State.setD_moves.mono (by decide), fun _ _ => rfl, rfl, rfl, rfl⟩

theorem State.stepBase_keepsServo (n : Nat) (theta : Int) : KeepsServo n s (s.stepBase n theta) := by
  have hStep (b : TbBase) : KeepsServo n s ((s.setTb n b).setBit (0x200004 + n * 0x40) 4 true) :=
    (State.setTb_keepsServo n b).trans (State.setFld_keepsServo (by decide) (by decide) (by decide))
  unfold State.stepBase
  dsimp only
  split
  · exact (hStep _).trans (State.setD_keepsServo n _)
  · exact hStep _

theorem State.stepBase_tb (n : Nat) (theta : Int) :
    (s.stepBase n theta).tb n = { s.tb n with val := moveBase (s.tb n).val (-(theta * 2 ^ 32)) } := by
  unfold State.stepBase
  dsimp only
  split <;> exact State.tb_setTb_same n _

theorem State.stepBase_stepped (n : Nat) (theta : Int) : (s.stepBase n theta).bit (0x200004 + n * 0x40) 4 = true := by
  unfold State.stepBase
  dsimp only
  split
  · rw [State.bit_setD, State.bit_setBit_same _ _ _ _ (by decide)]
  · rw [State.bit_setBit_same _ _ _ _ (by decide)]

/-- The integrator that a sample within the step limit leaves (R312). -/
def State.steeredInteg (s : State) (n : Nat) (theta : Int) : Int :=
  clampInt (wrap64 ((s.tb n).integ - theta * 2 ^ 28 / 2 ^ (s.fld (0x200000 + n * 0x40) 21 16))) (-2147483648) 2147483647

/-- The frequency that it leaves. -/
def State.steeredFreq (s : State) (n : Nat) (theta : Int) : Int :=
  clampInt (s.steeredInteg n theta - theta * 2 ^ 28 / 2 ^ (s.fld (0x200000 + n * 0x40) 27 22)) (-2147483648) 2147483647

theorem State.steerBase_keepsServo (n : Nat) (theta : Int) : KeepsServo n s (s.steerBase n theta) := by
  unfold State.steerBase
  dsimp only
  split
  · exact (State.setTb_keepsServo n _).trans (State.setFld_keepsServo (by decide) (by decide) (by decide))
  · exact State.setTb_keepsServo n _

/-- No product of a sample within the step limit leaves 64 bits. -/
theorem State.steerBase_tb {n : Nat} {theta : Int} (hl : -2 ^ 32 ≤ theta) (hh : theta ≤ 2 ^ 32) : (s.steerBase n theta).tb n
    = { s.tb n with integ := s.steeredInteg n theta, freq := s.steeredFreq n theta } := by
  have hProduct : wrap64 (theta * 2 ^ 28) = theta * 2 ^ 28 := wrap64_of_fits (by omega) (by omega)
  have hInteg : -2147483648 ≤ s.steeredInteg n theta ∧ s.steeredInteg n theta ≤ 2147483647 := clampInt_fits (by decide)
  have hShare := ediv_two_pow_fits (x := theta * 2 ^ 28) (b := 2 ^ 60) (by decide) (by omega) (by omega)
    (s.fld (0x200000 + n * 0x40) 27 22)
  have hFreq : wrap64 (s.steeredInteg n theta - theta * 2 ^ 28 / 2 ^ (s.fld (0x200000 + n * 0x40) 27 22))
      = s.steeredInteg n theta - theta * 2 ^ 28 / 2 ^ (s.fld (0x200000 + n * 0x40) 27 22) :=
    wrap64_of_fits (by omega) (by omega)
  unfold State.steerBase
  dsimp only
  rw [hProduct, ← State.steeredInteg, hFreq, ← State.steeredFreq]
  split <;> exact State.tb_setTb_same n _

section
variable (n : Nat) (theta : Int) (good : Nat)

theorem State.noteSample_bases (m : Nat) : (s.noteSample n theta good).tb m
    = (s.setTb n { s.tb n with lastSample := s.now, lastTheta := theta, good := good }).tb m := State.tb_of_time rfl m

theorem State.noteSample_tb : (s.noteSample n theta good).tb n
    = { s.tb n with lastSample := s.now, lastTheta := theta, good := good } := by
  rw [State.noteSample_bases, State.tb_setTb_same]

theorem State.noteSample_others {m : Nat} (h : m ≠ n) : (s.noteSample n theta good).tb m = s.tb m := by
  rw [State.noteSample_bases, State.tb_setTb_ne h]

theorem State.noteSample_lastOffs : (s.noteSample n theta good).reg (0x200018 + n * 0x40) = lastOffs theta :=
  State.reg_setReg_same _ _ _

theorem State.noteSample_moves : Moves [.regs, .time] s (s.noteSample n theta good) :=
  Moves.step State.setReg_moves (by decide) (Moves.step State.incMod_moves (by decide) (State.setTb_moves.mono (by decide)))

theorem State.noteSample_count : (s.noteSample n theta good).fld (0x200004 + n * 0x40) 31 16
    = (s.fld (0x200004 + n * 0x40) 31 16 + 1) % 2 ^ 16 :=
  (State.fld_setReg_ne _ _ _ _ _ _ (by omega)).trans (State.fld_incMod_same _ _ _ _ _ (by decide) (by decide))

theorem State.noteSample_fld {hi lo : Nat} (h : lo ≤ hi) (h' : hi < 16) :
    (s.noteSample n theta good).fld (0x200004 + n * 0x40) hi lo = s.fld (0x200004 + n * 0x40) hi lo :=
  (State.fld_setReg_ne _ _ _ _ _ _ (by omega)).trans
    (State.fld_setFld_ne _ _ _ _ _ _ _ _ (by decide) (by decide) h (.inr h'))

theorem State.noteSample_state : (s.noteSample n theta good).tbState n = s.tbState n :=
  State.noteSample_fld n theta good (by decide) (by decide)

end

/-- A base that is not LOCKED may start to acquire, or lock, after a sample: its state shows it, its run of good samples may
end, and nothing else of a base changes. -/
structure Acquires (n : Nat) (s t : State) : Prop where
  moves : Moves [.regs, .emitted, .time] s t
  tb : ∃ good, t.tb n = { s.tb n with good := good }
  others : ∀ m, m ≠ n → t.tb m = s.tb m
  status : ∀ hi lo, lo ≤ hi → 1 < lo → t.fld (0x200004 + n * 0x40) hi lo = s.fld (0x200004 + n * 0x40) hi lo
  lastOffs : t.reg (0x200018 + n * 0x40) = s.reg (0x200018 + n * 0x40)

theorem Acquires.refl {n : Nat} : Acquires n s s := ⟨.refl, ⟨_, rfl⟩, fun _ _ => rfl, fun _ _ _ _ => rfl, rfl⟩

theorem State.setTbState_acquires {n v : Nat} (hn : n < 4) (h : s.tbState n ≠ 2) : Acquires n s (s.setTbState n v) :=
  ⟨State.setTbState_moves_unlocked h, ⟨_, State.setTbState_tb n v n⟩, fun m _ => State.setTbState_tb n v m,
    fun _ _ hb hl => State.setTbState_fld hn hb hl, State.setTbState_reg (by omega) (by omega) (by omega)⟩

theorem State.afterSample_acquires {n good : Nat} (hn : n < 4) (h : s.tbState n ≠ 2) :
    Acquires n s (s.afterSample n (s.tbState n) good) := by
  unfold State.afterSample
  split
  · exact State.setTbState_acquires hn h
  · split
    · have hLocks := State.setTbState_acquires (s := s.setTb n { s.tb n with good := 0 }) (v := 2) hn h
      refine ⟨Moves.trans (State.setTb_moves.mono (by decide)) hLocks.moves, ⟨0, ?_⟩,
        fun m hm => (hLocks.others m hm).trans (State.tb_setTb_ne hm _), hLocks.status, hLocks.lastOffs⟩
      rw [State.setTbState_tb, State.tb_setTb_same]
    · exact .refl

theorem State.afterSample_locked {n good : Nat} : s.afterSample n 2 good = s := by simp [State.afterSample]

/-- A base that is FREE or in holdover starts to acquire. -/
theorem State.afterSample_starts {n st0 good : Nat} (hn : n < 4) (h : st0 = 0 ∨ st0 = 3) :
    (s.afterSample n st0 good).tbState n = 1 := by
  rw [State.afterSample, if_pos h]
  exact State.setTbState_state hn

/-- A base that acquires goes on until it has sixteen good samples in a row. -/
theorem State.afterSample_acquiring {n good : Nat} (h : good < 16) : s.afterSample n 1 good = s := by
  rw [State.afterSample, if_neg (by decide), if_neg (by omega)]

end Sys2Proof.Machine
end

section
/-! PROOFS. The commands of the servos and the time bases: samples, their processing, the states of the bases, captures and
PPS_OUT (R310 to R313, R318, R325 to R327). -/

namespace Sys2Proof.Machine

variable {s t u : State}

/-! ### A sample is processed (R312, R313) -/

section
variable {n : Nat} {theta : Int}

theorem State.clearOutliers_keepsServo : KeepsServo n s (s.setFld (0x200004 + n * 0x40) 3 2 0) :=
  State.setFld_keepsServo (by decide) (by decide) (by decide)

/-- A sample within the step limit steers its base, which then notes it. -/
theorem State.servo_steers (h : absInt theta ≤ (max 1 (s.fld (0x20000C + n * 0x40) 31 16) : Nat) * 65536) :
    ∃ good u, KeepsServo n s u ∧ u.tb n = { s.tb n with integ := s.steeredInteg n theta, freq := s.steeredFreq n theta } ∧
      s.servo n theta = (u.noteSample n theta good).afterSample n (s.tbState n) good ∧ good ≤ (s.tb n).good + 1 ∧
      (s.tbState n ≠ 1 → good = 0) := by
  obtain ⟨hNear, hl, hh⟩ := State.farSample_of_le h
  obtain ⟨good, e, hGood, hZero⟩ := State.servo_near hNear
  have hClear : KeepsServo n s (s.setFld (0x200004 + n * 0x40) 3 2 0) := State.clearOutliers_keepsServo
  have hShift (hi lo : Nat) : (s.setFld (0x200004 + n * 0x40) 3 2 0).fld (0x200000 + n * 0x40) hi lo
      = s.fld (0x200000 + n * 0x40) hi lo := State.fld_setFld_reg _ _ _ _ _ _ _ _ (by omega)
  have hSteered := State.steerBase_tb (s := s.setFld (0x200004 + n * 0x40) 3 2 0) (n := n) hl hh
  simp only [State.steeredFreq, State.steeredInteg, hShift] at hSteered
  rw [hClear.state] at e hZero
  rw [hSteered] at hGood
  exact ⟨good, _, hClear.trans (State.steerBase_keepsServo n theta), hSteered, e, hGood, hZero⟩

/-- A sample beyond the step limit steps a base that is not LOCKED, which then notes it. -/
theorem State.servo_steps (hFar : (max 1 (s.fld (0x20000C + n * 0x40) 31 16) : Nat) * 65536 < wrap64 (absInt theta))
    (hState : s.tbState n ≠ 2) : ∃ good u, KeepsServo n s u ∧
      u.tb n = { s.tb n with val := moveBase (s.tb n).val (-(theta * 2 ^ 32)) } ∧ u.bit (0x200004 + n * 0x40) 4 = true ∧
      s.servo n theta = (u.noteSample n theta good).afterSample n (s.tbState n) good := by
  have hClear : KeepsServo n s (s.setFld (0x200004 + n * 0x40) 3 2 0) := State.clearOutliers_keepsServo
  obtain ⟨good, e⟩ := State.servo_far (decide_eq_true hFar) hState hClear.state
  exact ⟨good, _, hClear.trans (State.stepBase_keepsServo n theta), State.stepBase_tb n theta,
    State.stepBase_stepped n theta, e⟩

/-- What a base that is not LOCKED shows once it has noted a sample. -/
theorem State.unlocked_notes {good : Nat} (hn : n < 4) (hKeep : KeepsServo n s u) (hState : s.tbState n ≠ 2)
    (ht : t = (u.noteSample n theta good).afterSample n (s.tbState n) good) :
    Moves [.regs, .emitted, .time] s t ∧
      (∃ run, t.tb n = { u.tb n with lastSample := u.now, lastTheta := theta, good := run }) ∧
      (∀ m, m ≠ n → t.tb m = s.tb m) ∧
      t.fld (0x200004 + n * 0x40) 31 16 = (s.fld (0x200004 + n * 0x40) 31 16 + 1) % 2 ^ 16 ∧
      t.reg (0x200018 + n * 0x40) = lastOffs theta ∧ t.bit (0x200004 + n * 0x40) 4 = u.bit (0x200004 + n * 0x40) 4 := by
  have hNoted : (u.noteSample n theta good).tbState n = s.tbState n := (State.noteSample_state n theta good).trans hKeep.state
  have hAfter := State.afterSample_acquires (good := good) hn (hNoted.trans_ne hState)
  rw [hNoted, ← ht] at hAfter
  obtain ⟨run, hRun⟩ := hAfter.tb
  refine ⟨(hKeep.moves.mono (by decide)).trans (((State.noteSample_moves n theta good).mono (by decide)).trans hAfter.moves),
    ⟨run, by rw [hRun, State.noteSample_tb]⟩, fun m hm => ?_, ?_, ?_, State.bit_of_fld ?_⟩
  · rw [hAfter.others m hm, State.noteSample_others _ _ _ hm, hKeep.others m hm]
  · rw [hAfter.status 31 16 (by decide) (by decide), State.noteSample_count, hKeep.count]
  · rw [hAfter.lastOffs, State.noteSample_lastOffs]
  · rw [hAfter.status 4 4 (by decide) (by decide), State.noteSample_fld _ _ _ (by decide) (by decide)]

end

theorem exec_servoSample_none {n : Four} (h : (s.tb n).waiting = []) : exec (.servoSample n) s = .next s := by
  simp [exec, execServoSample, h]

theorem exec_servoSample_oldest {n : Four} {theta : Int} {rest : List Int} (h : (s.tb n).waiting = theta :: rest) :
    exec (.servoSample n) s = .next ((s.setTb n { s.tb n with waiting := rest }).servo n theta) := by
  simp [exec, execServoSample, h]

/-! ### A sample arrives (R311) -/

theorem State.submitSample_held {n : Nat} {theta : Int} (h : s.fc.injHeld = some (srcChip 0x12 n)) :
    s.submitSample n theta = s := if_pos h

section
variable {n : Nat} {theta : Int} (hHeld : s.fc.injHeld ≠ some (srcChip 0x12 n))
include hHeld

theorem State.submitSample_full (hFull : 4 ≤ (s.tb n).waiting.length) :
    s.submitSample n theta = s.incSat (0x200004 + n * 0x40) 15 8 1 := by
  rw [State.submitSample, if_neg hHeld, if_pos hFull]

theorem State.submitSample_room (hRoom : (s.tb n).waiting.length < 4) :
    s.submitSample n theta = s.setTb n { s.tb n with waiting := (s.tb n).waiting ++ [wrap64 theta] } := by
  rw [State.submitSample, if_neg hHeld, if_neg (by omega)]

end

section
variable {n : Four} {hi : Word}

theorem exec_tbOffsetSubmit_taken (h : s.tbSource n = 1) : exec (.tbOffsetSubmit n hi) s
    = .next (s.submitSample n (signedBits (hi.toNat * 2 ^ 32 + (s.tb n).offsLo.toNat) 64)) := by
  simp [exec, execTbOffsetSubmit, h]

theorem exec_tbOffsetSubmit_none (h : s.tbSource n ≠ 1 ∨ s.fc.injHeld = some (srcChip 0x12 n)) :
    exec (.tbOffsetSubmit n hi) s = .next s := by
  by_cases hSource : s.tbSource n = 1
  · rw [exec_tbOffsetSubmit_taken hSource, State.submitSample_held (h.resolve_left (absurd hSource))]
  · simp [exec, execTbOffsetSubmit, hSource]

end

/-! ### An edge of a PPS input (R311) -/

/-- What an edge of input `i` does with base `n`. -/
def State.edgeSample (s : State) (i : Fin 2) (n : Nat) : State :=
  if s.tbSource n = 2 + i then
    let th := s.ppsTheta n i
    if absInt th ≥ 100000000 * 65536 then s.incSat (0x200004 + n * 0x40) 15 8 1 else s.submitSample n th
  else s

theorem exec_ppsInEdge_held {i : Fin 2} (h : s.fc.injHeld = some (srcChip 0x12 5)) : exec (.ppsInEdge i) s = .next s := by
  simp [exec, execPpsInEdge, h]

theorem exec_ppsInEdge {i : Fin 2} (h : s.fc.injHeld ≠ some (srcChip 0x12 5)) :
    exec (.ppsInEdge i) s = .next ((List.range 4).foldl (fun s n => s.edgeSample i n) s) := if_neg h

/-- The base takes a sample from an edge of the input. -/
def State.takesEdge (s : State) (i : Fin 2) (n : Nat) : Prop :=
  s.tbSource n = 2 + i.val ∧ absInt (s.ppsTheta n i) < 100000000 * 65536 ∧ s.fc.injHeld ≠ some (srcChip 0x12 n) ∧
    (s.tb n).waiting.length < 4

section
variable {i : Fin 2} {n m : Nat}

theorem State.edgeSample_taken (h : s.takesEdge i n) :
    s.edgeSample i n = s.setTb n { s.tb n with waiting := (s.tb n).waiting ++ [s.ppsTheta n i] } := by
  obtain ⟨hSource, hSmall, hHeld, hRoom⟩ := h
  obtain ⟨hl, hh⟩ := absInt_le.mp hSmall.le
  rw [State.edgeSample, if_pos hSource, if_neg (by omega), State.submitSample_room hHeld hRoom,
    wrap64_of_fits (by omega) (by omega)]

/-- Any other base may count the edge. -/
theorem State.edgeSample_notTaken (h : ¬ s.takesEdge i n) :
    s.edgeSample i n = s ∨ s.edgeSample i n = s.incSat (0x200004 + n * 0x40) 15 8 1 := by
  unfold State.edgeSample State.submitSample
  dsimp only
  split
  · next hSource =>
    split
    · exact .inr rfl
    · split
      · exact .inl rfl
      · split
        · exact .inr rfl
        · exact absurd ⟨hSource, by omega, ‹_›, by omega⟩ h
  · exact .inl rfl

/-- What the other bases find after an edge of the input at one: their sample, or none. -/
structure KeepsEdge (n : Nat) (s t : State) : Prop where
  tb : ∀ m, m ≠ n → t.tb m = s.tb m
  source : ∀ m, m < 4 → t.tbSource m = s.tbSource m
  delays : t.reg 0x2001C4 = s.reg 0x2001C4
  fc : t.fc = s.fc

theorem State.edgeSample_keepsEdge (hn : n < 4) : KeepsEdge n s (s.edgeSample i n) := by
  by_cases h : s.takesEdge i n
  · rw [State.edgeSample_taken h]
    exact ⟨fun m hm => State.tb_setTb_ne hm _, fun _ _ => rfl, rfl, rfl⟩
  · obtain e | e := State.edgeSample_notTaken h <;> rw [e]
    · exact ⟨fun _ _ => rfl, fun _ _ => rfl, rfl, rfl⟩
    · refine ⟨fun _ _ => rfl, fun m hm => ?_, State.reg_setFld_ne _ _ _ _ _ _ (by omega), rfl⟩
      have hCtrl : (s.incSat (0x200004 + n * 0x40) 15 8 1).fld (0x200000 + m * 0x40) 31 28
          = s.fld (0x200000 + m * 0x40) 31 28 := State.fld_setFld_reg _ _ _ _ _ _ _ _ (by omega)
      rw [State.tbSource, hCtrl, State.tbSource]

theorem KeepsEdge.ppsTheta (h : KeepsEdge n s t) (hm : m ≠ n) : t.ppsTheta m i = s.ppsTheta m i := by
  have hDelay (hi lo : Nat) : t.fld 0x2001C4 hi lo = s.fld 0x2001C4 hi lo := congrArg (getBits · hi lo) h.delays
  rw [State.ppsTheta, hDelay, h.tb m hm, State.ppsTheta]

theorem KeepsEdge.takesEdge (h : KeepsEdge n s t) (hm : m ≠ n) (hLt : m < 4) : t.takesEdge i m ↔ s.takesEdge i m := by
  simp only [State.takesEdge, h.ppsTheta hm, h.source m hLt, h.fc, h.tb m hm]

theorem State.edgeSample_tb_notTaken (h : ¬ s.takesEdge i n) : (s.edgeSample i n).tb n = s.tb n := by
  obtain e | e := State.edgeSample_notTaken h <;> rw [e]
  rfl

/-- An edge that comes to the bases one by one leaves each as if it had come to it alone. -/
theorem State.edgeSamples_tb (l : List Nat) (hLow : ∀ n ∈ l, n < 4) (hOnce : l.Nodup) (hm : m < 4) :
    (l.foldl (fun s n => s.edgeSample i n) s).tb m = if m ∈ l then (s.edgeSample i m).tb m else s.tb m := by
  induction l generalizing s with
  | nil => rfl
  | cons n l ih =>
    obtain ⟨hNot, hOnce⟩ := List.nodup_cons.mp hOnce
    have hKeep := State.edgeSample_keepsEdge (s := s) (i := i) (hLow n List.mem_cons_self)
    rw [List.foldl_cons, ih (fun k hk => hLow k (List.mem_cons_of_mem _ hk)) hOnce]
    by_cases hEq : m = n
    · subst hEq
      rw [if_neg hNot, if_pos List.mem_cons_self]
    · simp only [List.mem_cons, hEq, false_or]
      split
      · by_cases h : s.takesEdge i m
        · rw [State.edgeSample_taken h, State.edgeSample_taken ((hKeep.takesEdge hEq hm).mpr h), State.tb_setTb_same,
            State.tb_setTb_same, hKeep.tb m hEq, hKeep.ppsTheta hEq]
        · rw [State.edgeSample_tb_notTaken h, State.edgeSample_tb_notTaken (mt (hKeep.takesEdge hEq hm).mp h),
            hKeep.tb m hEq]
      · exact hKeep.tb m hEq

theorem State.edge_tb (hm : m < 4) :
    ((List.range 4).foldl (fun s n => s.edgeSample i n) s).tb m = (s.edgeSample i m).tb m := by
  rw [State.edgeSamples_tb _ (fun _ => List.mem_range.mp) List.nodup_range hm, if_pos (List.mem_range.mpr hm)]

end

/-! ### Holdover, and a change of the source (R313, R326) -/

theorem exec_tbHoldoverTimeout {n : Four} (h : s.tbState n = 1 ∨ s.tbState n = 2) : exec (.tbHoldoverTimeout n) s
    = .next (((s.setTb n { s.tb n with freq := (s.tb n).integ, good := 0 }).setTbState n 3).latchFault (srcChip 0x12 n) .n
      (unsignedBits (s.tb n).lastTheta 64)) := if_pos h

theorem exec_tbHoldoverTimeout_none {n : Four} (h : s.tbState n = 0 ∨ s.tbState n = 3) :
    exec (.tbHoldoverTimeout n) s = .next s := if_neg (by omega)

/-- TBn_CTRL with a word taken and its source as written. -/
def State.srcWritten (s : State) (n : Nat) (v : Word) : State :=
  (s.writeOrdinary (0x200000 + n * 0x40) v).setFld (0x200000 + n * 0x40) 31 28 (getBits v 31 28)

theorem regRow_tbCtrl (n : Four) : regRow (0x200000 + n.val * 0x40)
    = some (Reg.arr 0x200000 0x40 4 [Reg.o .rw 31 28 0, Reg.f .rw 27 22 0x1E, Reg.f .rw 21 16 0x22]) := by
  revert n
  decide

/-- TBn_CTRL has no locked field: its write goes to that register alone. -/
theorem State.srcWritten_eq (n : Four) (v : Word) : ∃ w, s.srcWritten n v
    = (s.setReg (0x200000 + n.val * 0x40) w).setFld (0x200000 + n.val * 0x40) 31 28 (getBits v 31 28) :=
  ⟨_, congrArg (State.setFld · _ 31 28 _) (State.writeOrdinary_taken (regRow_tbCtrl n)
    (.inr (by simp [rwlDiffers, Reg.arr, Reg.o, Reg.f])))⟩

theorem State.srcWritten_source (n : Four) (v : Word) :
    (s.srcWritten n v).tbSource n = if getBits v 31 28 < 8 then getBits v 31 28 else 0 := by
  have hLt : getBits v 31 28 < 2 ^ 4 := getBits_lt _ _ _
  obtain ⟨w, e⟩ := State.srcWritten_eq (s := s) n v
  rw [e, State.tbSource, State.fld_setFld_same _ _ _ _ _ (by decide) (by decide), Nat.mod_eq_of_lt hLt]

theorem State.srcWritten_state (n : Four) (v : Word) : (s.srcWritten n v).tbState n = s.tbState n := by
  obtain ⟨w, e⟩ := State.srcWritten_eq (s := s) n v
  rw [e, State.tbState, State.fld_setFld_reg _ _ _ _ _ _ _ _ (by omega), State.fld_setReg_ne _ _ _ _ _ _ (by omega)]
  rfl

theorem State.srcWritten_moves (n : Four) (v : Word) : Moves [.regs] s (s.srcWritten n v) := by
  obtain ⟨w, e⟩ := State.srcWritten_eq (s := s) n v
  rw [e]
  exact Moves.step State.setFld_moves (by decide) State.setReg_moves

section
variable {n : Four} {v : Word} (hOpen : s.closed 0x200000 = false)
include hOpen

theorem exec_tbSrcWrite_free (h : (s.srcWritten n v).tbSource n = 0) : exec (.tbSrcWrite n v) s
    = .next (((s.srcWritten n v).setTb n { (s.srcWritten n v).tb n with good := 0 }).setTbState n 0) := by
  simp only [exec, execTbSrcWrite, hOpen, Bool.false_eq_true, if_false]
  exact if_pos h

theorem exec_tbSrcWrite_serves (h : (s.srcWritten n v).tbSource n ≠ 0) :
    exec (.tbSrcWrite n v) s = .next (s.srcWritten n v) := by
  simp only [exec, execTbSrcWrite, hOpen, Bool.false_eq_true, if_false]
  exact if_neg h

end

/-! ### CAPTURE, and the publication (R310, R318, R327) -/

section
variable {x y : Nat} (v : Nat)

theorem State.reg_snapOne_ne {o : Nat} (h : o < 0x200110 + y * 0x10 ∨ 0x200110 + y * 0x10 + 12 < o) :
    (s.snapOne y v).reg o = s.reg o := by
  simp (disch := omega) only [State.snapOne, State.reg_setReg_ne]

/-- The words of the snapshot in place `x` show the value. -/
def State.snapShows (s : State) (x v : Nat) : Prop :=
  s.reg (0x200110 + x * 0x10) = BitVec.ofNat 32 (secOf v) ∧ s.reg (0x200118 + x * 0x10) = BitVec.ofNat 32 (nsOf v) ∧
    s.reg (0x20011C + x * 0x10) = BitVec.ofNat 32 (fracOf v)

theorem State.snapOne_shows : (s.snapOne x v).snapShows x v := by
  have hNs : 0x200118 + x * 0x10 = 0x200110 + x * 0x10 + 8 := by omega
  have hFrac : 0x20011C + x * 0x10 = 0x200110 + x * 0x10 + 12 := by omega
  rw [State.snapShows, hNs, hFrac]
  refine ⟨?_, ?_, ?_⟩ <;> simp (disch := omega) only [State.snapOne, State.reg_setReg_ne, State.reg_setReg_same]

theorem State.snapShows_snapOne {w : Nat} (h : x ≠ y) (hShows : s.snapShows x w) : (s.snapOne y v).snapShows x w := by
  obtain ⟨hSec, hNs, hFrac⟩ := hShows
  exact ⟨(State.reg_snapOne_ne v (by omega)).trans hSec, (State.reg_snapOne_ne v (by omega)).trans hNs,
    (State.reg_snapOne_ne v (by omega)).trans hFrac⟩

/-- CAPTURE fills the five places with the four bases and the cadence base. -/
def State.snapAll (s : State) : State :=
  ((((s.snapOne 0 (s.tb 0).val).snapOne 1 (s.tb 1).val).snapOne 2 (s.tb 2).val).snapOne 3 (s.tb 3).val).snapOne 4 s.cb

theorem State.snapAll_shows (hx : x < 5) : s.snapAll.snapShows x (if x = 4 then s.cb else (s.tb x).val) := by
  unfold State.snapAll
  have hKeep {u : State} {y w v : Nat} (hShows : u.snapShows x w) (h : x ≠ y) : (u.snapOne y v).snapShows x w :=
    State.snapShows_snapOne v h hShows
  obtain rfl | rfl | rfl | rfl | rfl : x = 0 ∨ x = 1 ∨ x = 2 ∨ x = 3 ∨ x = 4 := by omega
  · exact hKeep (hKeep (hKeep (hKeep (State.snapOne_shows _) (by decide)) (by decide)) (by decide)) (by decide)
  · exact hKeep (hKeep (hKeep (State.snapOne_shows _) (by decide)) (by decide)) (by decide)
  · exact hKeep (hKeep (State.snapOne_shows _) (by decide)) (by decide)
  · exact hKeep (State.snapOne_shows _) (by decide)
  · exact State.snapOne_shows _

end

theorem exec_tbSnapshot {v : Word} (h : getBits v 0 0 = 1) (hOpen : s.closed 0x200100 = false) :
    exec (.tbSnapshot v) s = .next s.snapAll := by
  simp only [exec, execTbSnapshot, hOpen, h, Bool.false_eq_true, if_false, if_true]
  rfl

theorem exec_tbSnapshot_none {v : Word} (h : getBits v 0 0 = 0) : exec (.tbSnapshot v) s = .next s := by
  simp [exec, execTbSnapshot, h]

theorem exec_tbPubRead (hOpen : s.closed 0x200180 = false) : exec .tbPubRead s
    = .next ({ s with readData := BitVec.ofNat 32 s.time.pubSec } : State).capturePub := if_neg (by simp [pubSecLo, hOpen])

theorem State.capturePub_heldWord (o : Nat) : s.capturePub.heldWord o = if o = 0x200188 then s.time.pubN32
    else if o = 0x200184 then BitVec.ofNat 32 (s.time.pubSec / 2 ^ 32 % 65536) else s.heldWord o := by
  simp only [State.heldWord, State.capturePub, Tbl.get_put, pubSecHi, pubN32]

/-! ### PPS_OUT (R325) -/

theorem exec_ppsOutPulse (hOn : s.bit 0x2001C0 31 = true) (hRuns : s.tbState s.ppsBase ≠ 0) :
    exec .ppsOutPulse s = .next (s.drivePps true) := if_pos (by simp [State.ppsAllowed, hOn, hRuns])

theorem exec_ppsOutPulse_none (h : s.bit 0x2001C0 31 = false ∨ s.tbState s.ppsBase = 0) :
    exec .ppsOutPulse s = .next s := if_neg (by rcases h with h | h <;> simp [State.ppsAllowed, h])

theorem exec_ppsOutEnd (h : s.time.ppsOut = true) : exec .ppsOutEnd s = .next (s.drivePps false) := if_pos h

theorem exec_ppsOutEnd_none (h : s.time.ppsOut = false) : exec .ppsOutEnd s = .next s := if_neg (by simp [h])

/-! ### The obligation -/

/-- Settles O43: a sample that is processed steers or steps its base, which then notes it (`State.servo_steers`,
`State.servo_steps`); the bases take an edge one by one (`State.edge_tb`); and each change of state is one write of the
status (`State.setTbState_keepsBases`). -/
theorem servosAndBases : Obligations.ServosAndBases := by
  unfold Obligations.ServosAndBases
  refine ⟨?locked, ?aside, ?steers, ?steps, ?submits, ?full, ?none, ?edge, ?held, ?holdover, ?free, ?serves, ?capture, ?waits,
    ?publish, ?read, ?pulse, ?falls⟩
  case locked =>
    intro n theta rest s hWait hState hNear
    obtain ⟨good, u, hKeep, hBase, e, -, hZero⟩ :=
      State.servo_steers (s := s.setTb n { s.tb n with waiting := rest }) (n := n) (theta := theta) hNear
    have hLocked : (s.setTb n { s.tb n with waiting := rest }).tbState n = 2 := hState
    rw [hLocked, State.afterSample_locked, hZero (by omega)] at e
    refine ⟨_, (exec_servoSample_oldest hWait).trans (congrArg Host.Outcome.next e), ?_, ?_, ?_, fun m hm => ?_, ?_⟩
    · rw [State.noteSample_tb, hBase, hKeep.now]
      simp only [State.steeredFreq, State.steeredInteg, State.tb_setTb_same, State.fld_setTb]
      rfl
    · rw [State.noteSample_state, hKeep.state, hLocked]
    · exact State.noteSample_lastOffs _ _ _
    · rw [State.noteSample_others _ _ _ hm, hKeep.others m hm, State.tb_setTb_ne hm]
    · exact (((State.setTb_moves.mono (by decide)).trans (hKeep.moves.mono (by decide))).trans
        ((State.noteSample_moves _ _ _).mono (by decide))).only
  case aside =>
    intro n theta rest s hWait hState hFar hRow
    have e := State.servo_aside (s := s.setTb n { s.tb n with waiting := rest }) hState (decide_eq_true hFar) hRow
    refine ⟨_, (exec_servoSample_oldest hWait).trans (congrArg Host.Outcome.next e), State.tb_setTb_same _ _, ?_, ?_,
      fun o ho => ?_⟩
    · simp (disch := omega) only [State.tbState, State.incSat, State.fld_setFld_ne]
      exact hState
    · simp (disch := omega) only [State.incSat, State.fld_setFld_ne, State.fld_setFld_same, State.fld_setTb]
      omega
    · simp only [State.incSat, State.reg_setFld_ne _ _ _ _ _ _ ho, State.reg_setTb]
  case steers =>
    intro n theta rest s hWait hState hNear
    obtain ⟨good, u, hKeep, hBase, e, hGood, -⟩ :=
      State.servo_steers (s := s.setTb n { s.tb n with waiting := rest }) (n := n) (theta := theta) hNear
    obtain ⟨hMoves, ⟨run, hRun⟩, hOthers, hCount, hOffs, -⟩ := State.unlocked_notes n.isLt hKeep hState e
    rw [hBase] at hRun
    simp only [State.steeredFreq, State.steeredInteg, State.tb_setTb_same, State.fld_setTb] at hRun hGood
    refine ⟨_, exec_servoSample_oldest hWait, ?_, ?_, ?_, ?_, fun h => ?_, fun h hFew => ?_, hCount, hOffs,
      fun m hm => (hOthers m hm).trans (State.tb_setTb_ne hm _),
      (Moves.trans (State.setTb_moves.mono (by decide)) hMoves).only⟩
    · rw [hRun]
    · rw [hRun]
    · rw [hRun]
    · rw [hRun]
    · have hLt : s.tbState n < 2 ^ 2 := getBits_lt _ _ _
      rw [e]
      exact State.afterSample_starts n.isLt (by change s.tbState n = 0 ∨ s.tbState n = 3; omega)
    · have hAcquires : (s.setTb n { s.tb n with waiting := rest }).tbState n = 1 := h
      rw [e, hAcquires, State.afterSample_acquiring (by omega), State.noteSample_state, hKeep.state, hAcquires]
  case steps =>
    intro n theta rest s hWait hState hFar
    obtain ⟨good, u, hKeep, hBase, hStepped, e⟩ :=
      State.servo_steps (s := s.setTb n { s.tb n with waiting := rest }) (n := n) (theta := theta) hFar hState
    obtain ⟨hMoves, ⟨run, hRun⟩, hOthers, -, -, hFlag⟩ := State.unlocked_notes n.isLt hKeep hState e
    rw [hBase, State.tb_setTb_same] at hRun
    exact ⟨_, exec_servoSample_oldest hWait, by rw [hRun], by rw [hRun], by rw [hRun], by rw [hRun], hFlag.trans hStepped,
      fun m hm => (hOthers m hm).trans (State.tb_setTb_ne hm _),
      (Moves.trans (State.setTb_moves.mono (by decide)) hMoves).only⟩
  case submits =>
    intro n hi s hSource hHeld hRoom
    have hOffset : hi.toNat * 2 ^ 32 + (s.tb n).offsLo.toNat < 2 ^ 64 := by
      have := hi.isLt
      have := (s.tb n).offsLo.isLt
      omega
    obtain ⟨hl, hh⟩ := signedBits_fits hOffset
    have e := State.submitSample_room (theta := signedBits (hi.toNat * 2 ^ 32 + (s.tb n).offsLo.toNat) 64) hHeld hRoom
    rw [wrap64_of_fits hl hh] at e
    exact ⟨_, (exec_tbOffsetSubmit_taken hSource).trans (congrArg Host.Outcome.next e), State.tb_setTb_same _ _,
      fun m hm => State.tb_setTb_ne hm _, State.setTb_moves.only⟩
  case full =>
    intro n hi s hSource hHeld hFull
    refine ⟨_, (exec_tbOffsetSubmit_taken hSource).trans (congrArg Host.Outcome.next (State.submitSample_full hHeld hFull)),
      rfl, ?_, fun o ho => State.reg_setFld_ne _ _ _ _ _ _ ho, State.incSat_moves.only⟩
    exact State.fld_incSat_same _ _ _ _ _ (by decide) (by decide)
  case none => exact fun n hi s h => ⟨_, exec_tbOffsetSubmit_none h, rfl⟩
  case edge =>
    intro i s hPresent
    refine ⟨_, exec_ppsInEdge hPresent, fun n hn hSource => ?_, fun n hn hSource hSmall hHeld hRoom => ?_,
      (execPpsInEdge_moves.moves (exec_ppsInEdge hPresent)).only⟩
    · rw [State.edge_tb hn]
      exact State.edgeSample_tb_notTaken fun h => hSource h.1
    · rw [State.edge_tb hn, State.edgeSample_taken ⟨hSource, hSmall, hHeld, hRoom⟩, State.tb_setTb_same]
  case held => exact fun i s h => exec_ppsInEdge_held h
  case holdover =>
    intro n s hState
    generalize hu : (s.setTb n { s.tb n with freq := (s.tb n).integ, good := 0 }).setTbState n 3 = u
    have hKeep : KeepsBases u (u.latchFault (srcChip 0x12 n) .n (unsignedBits (s.tb n).lastTheta 64)) :=
      State.latchFault_n_keepsBases _ _ (by unfold srcChip; omega)
    obtain ⟨hCause, hCls⟩ := State.latchFault_n_shows (s := u) (srcChip 0x12 n) (unsignedBits (s.tb n).lastTheta 64) false false
    have hBase : (u.latchFault (srcChip 0x12 n) .n (unsignedBits (s.tb n).lastTheta 64)).tb n
        = { s.tb n with freq := (s.tb n).integ, good := 0 } := by
      rw [hKeep.tb, ← hu, State.setTbState_tb, State.tb_setTb_same]
    refine ⟨_, hu ▸ exec_tbHoldoverTimeout hState, by rw [hBase], by rw [hBase], ?_, hCause, hCls, ?_⟩
    · rw [State.tbState, hKeep.fld (by omega) (by omega), ← hu]
      exact State.setTbState_state n.isLt
    · rw [hKeep.chip, ← hu, State.setTbState_chip]
      rfl
  case free =>
    intro n v s hZero hOpen
    have hFree : (s.srcWritten n v).tbSource n = 0 := by rw [State.srcWritten_source, hZero]; rfl
    have hKept := State.srcWritten_moves (s := s) n v
    refine ⟨_, exec_tbSrcWrite_free hOpen hFree, State.setTbState_state n.isLt, ?_, ?_, ?_⟩
    · rw [State.setTbState_source n.isLt, State.tbSource_setTb, hFree]
    · rw [State.setTbState_tb, State.tb_setTb_same, State.tb_moves hKept (by decide)]
    · rw [State.setTbState_chip, State.setTb_chip, hKept.same .chip (by decide)]
  case serves =>
    intro n v s hSome hLow hOpen
    have hSource : (s.srcWritten n v).tbSource n = getBits v 31 28 := by rw [State.srcWritten_source, if_pos hLow]
    exact ⟨_, exec_tbSrcWrite_serves hOpen (hSource.trans_ne hSome), hSource, State.srcWritten_state n v,
      (State.srcWritten_moves n v).same .time (by decide), (State.srcWritten_moves n v).same .chip (by decide)⟩
  case capture => exact fun v s hAsked hOpen => ⟨_, exec_tbSnapshot hAsked hOpen, fun x hx => State.snapAll_shows hx⟩
  case waits =>
    exact fun n v s => ⟨exec_servoSample_none, exec_tbHoldoverTimeout_none, exec_tbSnapshot_none, exec_ppsOutPulse_none,
      exec_ppsOutEnd_none⟩
  case publish => exact fun s => ⟨_, rfl, rfl, (execTbSecondPublish_moves.moves rfl).only⟩
  case read =>
    intro s hOpen
    refine ⟨_, exec_tbPubRead hOpen, rfl, ?_, ?_, fun o hHi hN32 => ?_,
      ((execTbPubRead_moves.moves (exec_tbPubRead hOpen)).mono (by decide)).only⟩
    · rw [State.capturePub_heldWord, if_neg (by decide), if_pos rfl]
    · rw [State.capturePub_heldWord, if_pos rfl]
    · rw [State.capturePub_heldWord, if_neg hN32, if_neg hHi]
      rfl
  case pulse => exact fun s hOn hRuns => ⟨_, exec_ppsOutPulse hOn hRuns, rfl⟩
  case falls => exact fun s hHigh => ⟨_, exec_ppsOutEnd hHigh, rfl⟩

end Sys2Proof.Machine
end

section
/-! PROOFS. The cadence base and its slots: sources, slews and ALIGN (R314 to R316), the writes of slots (R322), and marks
that fire or are missed (R320, R321, R324). -/

namespace Sys2Proof.Machine

variable {s t : State}

/-! ### A write of CAD_CTRL (R315, R316, R328) -/

/-- CAD_CTRL with a word taken: AUTO and SLEW_PPM. -/
def State.cadCtrlWritten (s : State) (v : Word) : State :=
  s.setReg 0x201000 (setBits (setBits (s.reg 0x201000) 30 30 (getBits v 30 30)) 3 0 (getBits v 3 0))

theorem State.writeOrdinary_cadCtrl (v : Word) : s.writeOrdinary 0x201000 v = s.cadCtrlWritten v := by
  have hRow : regRow 0x201000 = some (Reg.one 0x201000 [Reg.o .wo 31 31 0, Reg.f .rw 30 30 1, Reg.o .rw 8 8 0,
    Reg.f .rw 3 0 0xA]) := by decide
  rw [State.writeOrdinary_taken hRow (.inr (by simp [rwlDiffers, Reg.one, Reg.o, Reg.f]))]
  simp [State.cadCtrlWritten, writeWord, writeField, Reg.one, Reg.o, Reg.f]

theorem State.cadCtrlWritten_source (v : Word) : (s.cadCtrlWritten v).fld 0x201000 8 8 = s.fld 0x201000 8 8 := by
  rw [State.cadCtrlWritten, State.fld_setReg_same, getBits_setBits_ne _ _ _ _ _ _ (by decide) (by decide) (by decide)
    (by decide), getBits_setBits_ne _ _ _ _ _ _ (by decide) (by decide) (by decide) (by decide), State.fld]

theorem State.cadCtrlWritten_rate (v : Word) : (s.cadCtrlWritten v).fld 0x201000 3 0 = getBits v 3 0 := by
  rw [State.cadCtrlWritten, State.fld_setReg_same, getBits_setBits_same _ _ _ _ (by decide) (by decide)]
  exact Nat.mod_eq_of_lt (getBits_lt _ _ _)

theorem State.cadCtrlWritten_moves (v : Word) : Moves [.regs] s (s.cadCtrlWritten v) := by
  rw [State.cadCtrlWritten]
  exact State.setReg_moves

theorem State.cadCtrlWritten_time (v : Word) : (s.cadCtrlWritten v).time = s.time :=
  (State.cadCtrlWritten_moves v).same .time (by decide)

theorem State.cadCtrlWritten_following (v : Word) : (s.cadCtrlWritten v).following = s.following := by
  rw [State.following, State.cadCtrlWritten, State.fld_setReg_ne _ _ _ _ _ _ (by decide), State.following]

theorem State.cadCtrlWritten_cb (v : Word) : (s.cadCtrlWritten v).cb = s.cb := by
  rw [State.cb, State.cadCtrlWritten_following, State.cadCtrlWritten_time,
    State.tb_moves (State.cadCtrlWritten_moves v) (by decide), State.cb]

/-- A change of the source is a switchover, and its rate is the one last written. -/
theorem State.switchover_rate (n : Nat) : (s.switchover n).fld 0x201000 3 0 = s.fld 0x201000 3 0 := by
  rw [State.fld, State.switchover_reg n (by decide)]
  exact (State.fld_setFld_reg _ _ _ _ _ _ _ _ (by decide)).trans ((State.fld_setFld_reg _ _ _ _ _ _ _ _ (by decide)).trans
    (State.fld_setFld_ne _ _ _ _ _ _ _ _ (by decide) (by decide) (by decide) (by decide)))

theorem State.switchover_source (n : Nat) : (s.switchover n).fld 0x201000 8 8 = n % 2 := by
  rw [State.fld, State.switchover_reg n (by decide)]
  exact (State.fld_setFld_reg _ _ _ _ _ _ _ _ (by decide)).trans ((State.fld_setFld_reg _ _ _ _ _ _ _ _ (by decide)).trans
    (State.fld_setFld_same _ _ _ _ _ (by decide) (by decide)))

/-- The residual takes up the difference of the two bases, so that the cadence base stands still (R315). -/
theorem State.switchover_cb {n : Nat} (h : n < 2) : (s.switchover n).cb = s.cb := by
  have hRange : (s.cb : Int) % (baseModulus : Int) = s.cb := by
    unfold State.cb moveBase
    rw [Int.toNat_of_nonneg (Int.emod_nonneg _ (by decide)), Int.emod_emod]
  rw [State.cb, State.switchover_following, Nat.mod_eq_of_lt h, (State.switchover_keepsBases n).tb n, State.switchover_d,
    moveBase, add_sub_cancel, hRange, Int.toNat_natCast]

/-- SRC of a word acts on the cadence base, its registers and nothing of a base. -/
theorem State.selectBase_spec {n : Nat} (h : n < 2) : KeepsBases s (s.selectBase n) ∧ (s.selectBase n).fld 0x201000 8 8 = n ∧
    (s.selectBase n).fld 0x201000 3 0 = s.fld 0x201000 3 0 := by
  unfold State.selectBase
  split
  · next e => exact ⟨.refl, e.symm, rfl⟩
  · exact ⟨State.switchover_keepsBases n, by rw [State.switchover_source, Nat.mod_eq_of_lt h], State.switchover_rate n⟩

theorem State.selectBase_other {n : Nat} (h : n ≠ s.fld 0x201000 8 8) : s.selectBase n = s.switchover n := if_neg h

theorem State.selectBase_same {n : Nat} (h : n = s.fld 0x201000 8 8) : s.selectBase n = s := if_pos h

section
variable {v : Word} (hOpen : s.closed 0x201000 = false)
include hOpen

theorem exec_cadSrcWrite_plain (h : getBits v 31 31 = 0) :
    exec (.cadSrcWrite v) s = .next ((s.cadCtrlWritten v).selectBase (getBits v 8 8)) := by
  simp [exec, execCadSrcWrite, hOpen, State.writeCadence, h, State.writeOrdinary_cadCtrl]

section
variable (hAlign : getBits v 31 31 = 1)
include hAlign

theorem exec_cadAlign_taken (h : ∀ i, i < 64 → s.slotArmed i = false) :
    exec (.cadAlign v) s = .next (((s.cadCtrlWritten v).selectBase (getBits v 8 8)).setD 0) := by
  have hNone : (List.range 64).any (fun i => s.slotArmed i) = false :=
    List.any_eq_false.mpr fun i hi => by simp [h i (List.mem_range.mp hi)]
  simp [exec, execCadAlign, hOpen, State.writeCadence, hAlign, hNone, State.writeOrdinary_cadCtrl]

theorem exec_cadAlign_refused {i : Nat} (hi : i < 64) (h : s.slotArmed i = true) :
    exec (.cadAlign v) s = .next (s.latchFault (srcChip 0x12 4) .n) := by
  have hSome : (List.range 64).any (fun i => s.slotArmed i) = true :=
    List.any_eq_true.mpr ⟨i, List.mem_range.mpr hi, h⟩
  simp only [exec, execCadAlign, hOpen, State.writeCadence, hAlign, hSome]
  rfl

end

end

/-! ### Writes of slots (R322) -/

/-- The bits that a register of a slot holds (R329). -/
def slotMask (r : Nat) : Word :=
  if r = 1 then 0xFFFF else if r = 2 then 0x3FFFFFFF else if r = 4 then 0x8000FF0F else 0xFFFFFFFF

theorem slotWriteCause_lt (i r : Nat) (v : Word) (host : Bool) : slotWriteCause s t i r v host < 8 := by
  unfold slotWriteCause
  dsimp only
  split_ifs <;> decide

section
variable {i : Sixtyfour} {r : Fin 5} {v : Word} {host : Bool}
  (hOpen : host = false ∨ s.closed (0x202000 + i.val * 0x20 + r.val * 4) = false)
include hOpen

theorem exec_cadSlotWrite {w : Word} (hw : w = v &&& slotMask r) : exec (.cadSlotWrite i r v host) s = .next
    (if slotWriteCause s (s.setReg (0x202000 + i.val * 0x20 + r.val * 4) w) i r v host = 0
      then s.setReg (0x202000 + i.val * 0x20 + r.val * 4) w
      else s.slotRefused i (slotWriteCause s (s.setReg (0x202000 + i.val * 0x20 + r.val * 4) w) i r v host)) := by
  have hPasses : (host && s.closed (0x202000 + i.val * 0x20 + r.val * 4)) = false := by
    rcases hOpen with h | h <;> simp [h]
  subst hw
  simp only [exec, execCadSlotWrite, hPasses, Bool.false_eq_true, if_false]
  exact (apply_ite Host.Outcome.next _ _ _).symm

end

/-- A refused write shows its cause and its slot in CAD_STATUS alone. -/
theorem State.slotRefused_spec {i cause : Nat} (hi : i < 64) (hc : cause < 8) :
    (s.slotRefused i cause).bit 0x201004 31 = true ∧ (s.slotRefused i cause).fld 0x201004 30 28 = cause ∧
      (s.slotRefused i cause).fld 0x201004 27 22 = i ∧ ∀ o, o ≠ 0x201004 → (s.slotRefused i cause).reg o = s.reg o := by
  refine ⟨?_, ?_, ?_, fun o ho => ?_⟩
  · rw [State.bit_eq_fld]
    simp (disch := omega) [State.slotRefused, State.setBit, State.fld_setFld_ne, State.fld_setFld_same]
  · simp (disch := omega) only [State.slotRefused, State.fld_setFld_ne, State.fld_setFld_same]
    omega
  · simp (disch := omega) only [State.slotRefused, State.fld_setFld_same]
    omega
  · simp only [State.slotRefused, State.setBit, State.reg_setFld_ne _ _ _ _ _ _ ho]

/-! ### Marks (R320, R321, R324) -/

/-- The slots that are due, in the order in which CAD_SLOT_FIRE takes them. -/
def State.dueSlots (s : State) (slots : DWord) : List Nat :=
  (63 :: List.range 63).filter (fun i => slots.getLsbD i && s.slotArmed i)

/-- They are those of the sixty-four that are armed and named. -/
theorem State.dueSlots_perm (slots : DWord) :
    (s.dueSlots slots).Perm ((List.range 64).filter (fun i => slots.getLsbD i && s.slotArmed i)) := by
  have hAll : (63 :: List.range 63).Perm (List.range 64) := by
    rw [List.range_succ (n := 63)]
    exact (List.perm_append_singleton 63 (List.range 63)).symm
  exact hAll.filter _

theorem exec_cadSlotFire (slots : DWord) : exec (.cadSlotFire slots) s = .next (if s.marksFire
    then (s.dueSlots slots).foldl (fun t i => t.slotFire (s.dueSlots slots) i) s
    else (s.dueSlots slots).foldl (fun t i => t.slotMissed i) s) := (apply_ite Host.Outcome.next _ _ _).symm

theorem exec_cadSlotFire_none {slots : DWord} (h : ∀ i, i < 64 → (slots.getLsbD i && s.slotArmed i) = false) :
    exec (.cadSlotFire slots) s = .next s := by
  have hEmpty : (List.range 64).filter (fun i => slots.getLsbD i && s.slotArmed i) = [] :=
    List.filter_eq_nil_iff.mpr fun i hi => by simp [h i (List.mem_range.mp hi)]
  have hDue : s.dueSlots slots = [] := List.perm_nil.mp (hEmpty ▸ s.dueSlots_perm slots)
  simp [exec_cadSlotFire, hDue]

section
variable {slots : DWord} {i : Nat} (hOne : (List.range 64).filter (fun i => slots.getLsbD i && s.slotArmed i) = [i])
include hOne

theorem State.dueSlots_one : s.dueSlots slots = [i] := List.perm_singleton.mp (hOne ▸ s.dueSlots_perm slots)

theorem exec_cadSlotFire_fires (h : s.marksFire = true) : exec (.cadSlotFire slots) s = .next (s.slotFire [i] i) := by
  simp [exec_cadSlotFire, State.dueSlots_one hOne, h]

theorem exec_cadSlotFire_misses (h : s.marksFire = false) : exec (.cadSlotFire slots) s = .next (s.slotMissed i) := by
  simp [exec_cadSlotFire, State.dueSlots_one hOne, h]

end

/-- A slot that fires alone with TEL_ROLL rolls telemetry and advances. -/
theorem State.slotFire_telRoll {i : Nat} (h : s.slotEvent i = 4) : s.slotFire [i] i = s.telRoll.slotAdvance i := by
  have hAlone : s.overruled [i] i = false := by simp [State.overruled]
  simp [State.slotFire, hAlone, h, State.slotEffect]

theorem State.slotBit_same (off : Nat) {i : Nat} : (s.slotBit off i).bit (off + i / 32 * 4) (i % 32) = true :=
  State.bit_setBit_same _ _ _ _ (by omega)

theorem State.slotBit_reg {off i o : Nat} (h : o ≠ off + i / 32 * 4) : (s.slotBit off i).reg o = s.reg o :=
  State.reg_setFld_ne _ _ _ _ _ _ h

/-- The period of a slot is in one register of its own. -/
theorem State.slotPeriod_of_reg {i : Nat} (h : t.reg (0x20200C + i * 0x20) = s.reg (0x20200C + i * 0x20)) :
    t.slotPeriod i = s.slotPeriod i := by
  have hFld (hi lo : Nat) : t.fld (0x20200C + i * 0x20) hi lo = s.fld (0x20200C + i * 0x20) hi lo :=
    congrArg (getBits · hi lo) h
  rw [State.slotPeriod, hFld, hFld, State.slotPeriod]

theorem State.slotArmed_disarmed (i : Nat) : (s.setBit (0x202010 + i * 0x20) 31 false).slotArmed i = false :=
  State.bit_setBit_same _ _ _ _ (by decide)

theorem State.telRoll_reg {o : Nat} (h : o < 0x2500000) : s.telRoll.reg o = s.reg o := by
  unfold State.telRoll
  rw [State.reg_setReg_ne _ _ _ _ (by omega), State.incMod, State.reg_setFld_ne _ _ _ _ _ _ (by omega)]
  rfl

/-- FIRED shows the slot, and FIRED_HO when the cadence base is in holdover. -/
def State.showFired (s : State) (i : Nat) : State :=
  let t := s.slotBit 0x201010 i
  if t.cadHoldover then t.slotBit 0x201018 i else t

theorem State.slotAdvance_eq (i : Nat) : s.slotAdvance i
    = if (s.showFired i).slotPeriod i = 0 then (s.showFired i).setBit (0x202010 + i * 0x20) 31 false
      else (s.showFired i).setSlotMark i ((s.showFired i).slotMark i + (s.showFired i).slotPeriod i) := rfl

theorem State.showFired_fired (i : Nat) : (s.showFired i).bit (0x201010 + i / 32 * 4) (i % 32) = true := by
  unfold State.showFired
  dsimp only
  split
  · rw [State.slotBit, State.bit_setBit_reg _ _ _ _ _ _ (by omega), State.slotBit_same]
  · exact State.slotBit_same _

theorem State.slotAdvance_fired (i : Nat) : (s.slotAdvance i).bit (0x201010 + i / 32 * 4) (i % 32) = true := by
  have hMark (m : Nat) : ((s.showFired i).setSlotMark i m).bit (0x201010 + i / 32 * 4) (i % 32)
      = (s.showFired i).bit (0x201010 + i / 32 * 4) (i % 32) := by
    rw [State.setSlotMark, State.bit_setFld_reg _ _ _ _ _ _ _ (by omega), State.bit_setFld_reg _ _ _ _ _ _ _ (by omega),
      State.bit_setReg_ne _ _ _ _ _ (by omega)]
  rw [State.slotAdvance_eq]
  split
  · rw [State.bit_setBit_reg _ _ _ _ _ _ (by omega), State.showFired_fired i]
  · rw [hMark, State.showFired_fired i]

section
variable {i : Nat} (hi : i < 64)
include hi

theorem State.showFired_reg {o : Nat} (h : 0x201020 ≤ o) : (s.showFired i).reg o = s.reg o := by
  unfold State.showFired
  dsimp only
  split
  · rw [State.slotBit_reg (by omega), State.slotBit_reg (by omega)]
  · exact State.slotBit_reg (by omega)

theorem State.slotAdvance_oneShot (h : s.slotPeriod i = 0) : (s.slotAdvance i).slotArmed i = false := by
  have hShown : (s.showFired i).slotPeriod i = 0 := (State.slotPeriod_of_reg (State.showFired_reg hi (by omega))).trans h
  rw [State.slotAdvance_eq, if_pos hShown, State.slotArmed_disarmed]

end

/-! ### A mark that is missed (R324, R483) -/

theorem State.dropRise_reg {o : Nat} (h : o ≠ 0x300014) : s.dropRise.reg o = s.reg o := by
  have hTarget (u : State) (v : Nat) : (u.setTarget25 v).reg o = u.reg o := by
    unfold State.setTarget25
    split
    · rfl
    · have hSent (w : State) (c d : Nat) : (w.pmbusSend c d).reg o = w.reg o := rfl
      rw [State.commandTarget, hSent, State.reg_setFld_ne _ _ _ _ _ _ h]
      rfl
  unfold State.dropRise
  split
  · rfl
  · rw [hTarget]
    rfl

/-- A change of the operating point whose mark is missed is no longer scheduled (R483). -/
def State.missedChange (s : State) (i : Nat) : State :=
  if i = 63 && s.changePending then (s.setBit 0x300008 10 false).dropRise else s

theorem State.missedChange_reg (i : Nat) {o : Nat} (h : o < 0x300000) : (s.missedChange i).reg o = s.reg o := by
  unfold State.missedChange
  split
  · rw [State.dropRise_reg (by omega), State.setBit, State.reg_setFld_ne _ _ _ _ _ _ (by omega)]
  · rfl

theorem State.slotMissed_eq {i : Nat} (h : s.progs.joint ≠ some i) : s.slotMissed i
    = if ((s.missedChange i).slotBit 0x201020 i).slotPeriod i = 0
      then ((s.missedChange i).slotBit 0x201020 i).setBit (0x202010 + i * 0x20) 31 false
      else (s.missedChange i).slotBit 0x201020 i := by
  rw [State.slotMissed, if_neg h]
  rfl

section
variable {i : Nat} (hJoint : s.progs.joint ≠ some i)
include hJoint

theorem State.slotMissed_shows : (s.slotMissed i).bit (0x201020 + i / 32 * 4) (i % 32) = true := by
  rw [State.slotMissed_eq hJoint]
  split
  · rw [State.bit_setBit_reg _ _ _ _ _ _ (by omega), State.slotBit_same]
  · exact State.slotBit_same _

theorem State.slotMissed_oneShot (hi : i < 64) (h : s.slotPeriod i = 0) : (s.slotMissed i).slotArmed i = false := by
  have hKept : ((s.missedChange i).slotBit 0x201020 i).slotPeriod i = 0 := by
    rw [State.slotPeriod_of_reg (State.slotBit_reg (by omega)), State.slotPeriod_of_reg (State.missedChange_reg i (by omega)), h]
  rw [State.slotMissed_eq hJoint, if_pos hKept, State.slotArmed_disarmed]

end

/-! ### The end of a slew (R314) -/

theorem exec_cadSlewEnd_ends (h : slewed s.time.d s.slewPpm (tbStep (s.tb s.following)) = 0) :
    exec .cadSlewEnd s = .next (s.setD 0) := if_pos h

theorem exec_cadSlewEnd_goesOn (h : slewed s.time.d s.slewPpm (tbStep (s.tb s.following)) ≠ 0) :
    exec .cadSlewEnd s = .next s := if_neg h

/-! ### The obligation -/

/-- Settles O44: a word of CAD_CTRL is taken and its SRC acts (`State.selectBase_spec`), and D takes up what a switchover
changes (`State.switchover_cb`); the slots that are due are those named and armed (`State.dueSlots_perm`). -/
theorem cadenceSlots : Obligations.CadenceSlots := by
  unfold Obligations.CadenceSlots
  have hBit (v : Word) : getBits v 8 8 < 2 := getBits_lt v 8 8
  refine ⟨?switches, ?keeps, ?ends, ?goesOn, ?aligns, ?refused, ?takes, ?shows, ?noSlot, ?fires, ?misses⟩
  case switches =>
    intro v s hOther hPlain hOpen
    have hSwitch := State.selectBase_other (s := s.cadCtrlWritten v) (n := getBits v 8 8)
      (by rwa [State.cadCtrlWritten_source])
    have hKeep := State.switchover_keepsBases (s := s.cadCtrlWritten v) (getBits v 8 8)
    have hWord := State.cadCtrlWritten_moves (s := s) v
    obtain ⟨hCause, hCls⟩ := State.switchover_shows (s := s.cadCtrlWritten v) (getBits v 8 8)
    have hBase (m : Nat) : ((s.cadCtrlWritten v).switchover (getBits v 8 8)).tb m = s.tb m :=
      (hKeep.tb m).trans (State.tb_moves hWord (by decide) m)
    refine ⟨_, (exec_cadSrcWrite_plain hOpen hPlain).trans (congrArg Host.Outcome.next hSwitch), ?_, ?_, ⟨hBase 0, hBase 1⟩,
      hCause, hCls, hKeep.chip.trans (hWord.same .chip (by decide))⟩
    · rw [State.switchover_cb (hBit v), State.cadCtrlWritten_cb]
    · rw [State.switchover_following, Nat.mod_eq_of_lt (hBit v)]
  case keeps =>
    intro v s hSame hPlain hOpen
    have hStays := State.selectBase_same (s := s.cadCtrlWritten v) (n := getBits v 8 8) (by rwa [State.cadCtrlWritten_source])
    exact ⟨_, (exec_cadSrcWrite_plain hOpen hPlain).trans (congrArg Host.Outcome.next hStays), State.cadCtrlWritten_cb v,
      State.cadCtrlWritten_following v, State.cadCtrlWritten_time v, State.cadCtrlWritten_rate v,
      (State.cadCtrlWritten_moves v).only⟩
  case ends => exact fun s h => ⟨_, exec_cadSlewEnd_ends h, rfl, rfl⟩
  case goesOn => exact fun s h => ⟨_, exec_cadSlewEnd_goesOn h, rfl⟩
  case aligns =>
    intro v s hOpen hAlign hNone
    have hWord := State.cadCtrlWritten_moves (s := s) v
    obtain ⟨hKeep, hSource, hRate⟩ := State.selectBase_spec (s := s.cadCtrlWritten v) (hBit v)
    refine ⟨_, exec_cadAlign_taken hOpen hAlign hNone, rfl, fun m _ => ?_, ?_, ?_, ?_⟩
    · rw [State.tb_setD, hKeep.tb, State.tb_moves hWord (by decide)]
    · rw [State.fld_setD, hSource]
    · rw [State.fld_setD, hRate, State.cadCtrlWritten_rate]
    · exact (State.setD_chip _ _).trans (hKeep.chip.trans (hWord.same .chip (by decide)))
  case refused =>
    intro v i s hOpen hAlign hi hArmed
    have hLatch := State.latchFault_n_moves (s := s) (srcChip 0x12 4) 0 false false (by decide)
    obtain ⟨hCause, hCls⟩ := State.latchFault_n_shows (s := s) (srcChip 0x12 4) 0 false false
    exact ⟨_, exec_cadAlign_refused hOpen hAlign hi hArmed, hLatch.same .time (by decide),
      State.latchFault_frame _ _ _ _ _ (by decide) _ (by decide), hCause, hCls, hLatch.same .chip (by decide)⟩
  case takes =>
    intro i r v host s hCause hOpen
    exact ⟨_, (exec_cadSlotWrite hOpen rfl).trans (congrArg Host.Outcome.next (if_pos hCause)), State.reg_setReg_same _ _ _,
      fun o ho => State.reg_setReg_ne _ _ _ _ ho, State.setReg_moves.only⟩
  case shows =>
    intro i r v host s hCause hOpen
    obtain ⟨hFlag, hShown, hSlot, hRegs⟩ := State.slotRefused_spec (s := s) i.isLt
      (slotWriteCause_lt (s := s) (t := s.setReg (0x202000 + i.val * 0x20 + r.val * 4) (v &&& slotMask r)) i r v host)
    exact ⟨_, (exec_cadSlotWrite hOpen rfl).trans (congrArg Host.Outcome.next (if_neg hCause)), hFlag, hShown, hSlot, hRegs,
      State.slotRefused_moves.only⟩
  case noSlot => exact fun slots s h => ⟨_, exec_cadSlotFire_none h, rfl⟩
  case fires =>
    intro slots i s hi hOne hFire hEvent
    refine ⟨_, (exec_cadSlotFire_fires hOne hFire).trans (congrArg Host.Outcome.next (State.slotFire_telRoll hEvent)), ?_,
      State.slotAdvance_fired i, fun hPeriod => State.slotAdvance_oneShot hi ?_⟩
    · exact (State.slotAdvance_moves (s := s.telRoll)).same .tel (by decide)
    · rw [State.slotPeriod_of_reg (State.telRoll_reg (by omega)), hPeriod]
  case misses =>
    intro slots i s hi hOne hSafe hJoint
    have hStill : s.marksFire = false := by simp [State.marksFire, hSafe]
    exact ⟨_, exec_cadSlotFire_misses hOne hStill, State.slotMissed_moves.same .tel (by decide),
      State.slotMissed_shows hJoint, State.slotMissed_oneShot hJoint hi, State.slotMissed_moves.same .chip (by decide)⟩

end Sys2Proof.Machine
end

section
/-! PROOFS. Two statements of the ports and of the pier links that fail: a disable whose word sets a test field, and a mark
whose times are further apart than a sample can say. -/

namespace Sys2Proof.Machine

/-! ### A disable that starts a test (R332, R333, R362) -/

/-- The device in START-UP with port 0 enabled. -/
def State.portEnabled : State := State.reset.setBit (laneOff 0) 31 true

/-- Refutes O49: the statement wants DISABLED after every word that clears ENABLE. In START-UP the same word may set LOOPBACK,
which acts on a lane that is not enabled, and the lane is then in TEST. -/
theorem not_portsComeUpAndDown : ¬ Obligations.PortsComeUpAndDown := by
  unfold Obligations.PortsComeUpAndDown
  rintro ⟨-, -, -, hDisable, -⟩
  have hTest : ∀ t, exec (.portDisable 0 0x00040000) State.portEnabled = .next t → t.portState 0 = 7 := by
    intro t e
    obtain rfl := Host.Outcome.next.inj e
    decide +kernel
  obtain ⟨t, e, -, hState, -⟩ := hDisable 0 0x00040000 State.portEnabled (by decide) (by decide) (by decide)
  exact absurd hState (by rw [show t.portState (0 : Lane) = 7 from hTest t e]; decide)

/-! ### A sample beyond 64 bits (R311, R356, R359) -/

/-- Pier link 0 is UP, its end answers marks, and time base 0 follows it. -/
def State.pierFollowed : State :=
  ((State.reset.setFld (pierOff 0 + 4) 31 29 5).setFld (pierOff 0 + 0x20) 31 30 2).setFld 0x200000 31 28 4

/-- A TMARK of mark 0 whose T1 is 2^20 s and whose T4 is 0. -/
def farMark : List Byte := [0, 1, 0, 0, 0, 0x10, 0, 0] ++ List.replicate 18 0

/-- Refutes O52: the statement wants the sample to be the offset itself. A base takes its samples as 64 bits of 2^−16 ns, and
T1 and T4 of a TMARK can lie so far apart that the offset needs more. -/
theorem not_pierLinksMarkTimeAndFaults : ¬ Obligations.PierLinksMarkTimeAndFaults := by
  unfold Obligations.PierLinksMarkTimeAndFaults
  rintro ⟨-, -, -, hMark, -⟩
  have hWrapped : ∀ t, exec (.tmark 0 farMark) State.pierFollowed = .next t →
      (t.tb 0).waiting ≠ [State.pierFollowed.pierTheta 0 0 farMark] := by
    intro t e
    obtain rfl := Host.Outcome.next.inj e
    decide +kernel
  obtain ⟨t, e, hSample, -⟩ := hMark 0 0 farMark State.pierFollowed (by decide) (by decide) (by decide) (by decide)
    (by decide) (by decide)
  exact absurd hSample (hWrapped t e)

end Sys2Proof.Machine
end

section
/-! PROOFS. Pier links: alignment, the exchange of capabilities, and the step to a higher rate (R353 to R357, R367). -/

namespace Sys2Proof.Machine

variable {s t u : State} {n : Nat}

/-! ### The record of a link -/

theorem State.pier_setPier_ne {m : Nat} (x : PierRec) (h : m ≠ n) : (s.setPier n x).pier m = s.pier m :=
  (Tbl.get_put _ _ _ _ _).trans (if_neg h)

theorem State.pier_moves {ps : List StatePart} (h : Moves ps s t) (hp : .piers ∉ ps) (m : Nat) : t.pier m = s.pier m :=
  congrArg (Tbl.get pierDefault · m) (h.same .piers hp)

/-- From `s` to `t` the record of one link has become `x`, and the others are as they were. -/
structure PutsPier (n : Nat) (x : PierRec) (s t : State) : Prop where
  record : t.pier n = x
  others : ∀ m, m ≠ n → t.pier m = s.pier m

theorem State.setPier_puts (n : Nat) (x : PierRec) : PutsPier n x s (s.setPier n x) :=
  ⟨State.pier_setPier n x, fun _ h => State.pier_setPier_ne x h⟩

theorem PutsPier.trans {x y : PierRec} (h : PutsPier n x s t) (k : PutsPier n y t u) : PutsPier n y s u :=
  ⟨k.record, fun m hm => (k.others m hm).trans (h.others m hm)⟩

theorem PutsPier.moves {x : PierRec} {ps : List StatePart} (h : PutsPier n x s t) (k : Moves ps t u) (hp : .piers ∉ ps) :
    PutsPier n x s u :=
  ⟨(State.pier_moves k hp n).trans h.record, fun m hm => (State.pier_moves k hp m).trans (h.others m hm)⟩

theorem PutsPier.after {x : PierRec} {ps : List StatePart} (k : PutsPier n x t u) (h : Moves ps s t) (hp : .piers ∉ ps) :
    PutsPier n x s u :=
  ⟨k.record, fun m hm => (k.others m hm).trans (State.pier_moves h hp m)⟩

/-! ### The status of a link (R367) -/

theorem State.pierState_moves {ps : List StatePart} (h : Moves ps s t) (hp : .regs ∉ ps) : t.pierState n = s.pierState n :=
  State.fld_moves h hp _ _ _

theorem State.pierRate_moves {ps : List StatePart} (h : Moves ps s t) (hp : .regs ∉ ps) : t.pierRate n = s.pierRate n :=
  State.fld_moves h hp _ _ _

/-- A bit of PLn_STATUS below RATE leaves STATE and RATE. -/
theorem State.status_setBit {i : Nat} (h : i < 27) (b : Bool) : (s.setBit (pierOff n + 4) i b).pierState n = s.pierState n ∧
    (s.setBit (pierOff n + 4) i b).pierRate n = s.pierRate n :=
  ⟨State.fld_setFld_ne _ _ _ _ _ _ _ _ (Nat.le_refl i) (by omega) (by omega) (by omega),
    State.fld_setFld_ne _ _ _ _ _ _ _ _ (Nat.le_refl i) (by omega) (by omega) (by omega)⟩

theorem State.pierRate_setPierState (v : Nat) : (s.setPierState n v).pierRate n = s.pierRate n :=
  State.fld_setFld_ne _ _ _ _ _ _ _ _ (by omega) (by omega) (by omega) (by omega)

theorem State.pierRate_setFld (v : Nat) : (s.setFld (pierOff n + 4) 28 27 v).pierRate n = v % 4 :=
  State.fld_setFld_same _ _ _ _ _ (by omega) (by omega)

/-- A field of five bits that is 0 has its upper three and its lower two at 0. -/
theorem getBits_of_status_zero {w : Word} (h : getBits w 31 27 = 0) : getBits w 31 29 = 0 ∧ getBits w 28 27 = 0 := by
  have hWord := w.isLt
  simp only [getBits] at *
  omega

/-- EN and the fields beside it are written; the rest of PLn_CFG reads 0. -/
theorem getBits_enable (v : Word) : getBits (v &&& 0xFC000000) 31 31 = getBits v 31 31 := by
  simp only [getBits, BitVec.toNat_and, Nat.and_div_two_pow]
  exact (congrArg (· % 2) (Nat.and_one_is_mod _)).trans (Nat.mod_mod _ _)

/-! ### Alignment (R353, R354) -/

theorem State.clearPierCounts_puts :
    PutsPier n { s.pier n with hitsFrom := s.now, errsFrom := s.now } s (s.clearPierCounts n) := State.setPier_puts n _

theorem State.pierSearch_on (hOn : s.pierOn n = true) : s.pierSearch n = (s.clearPierCounts n).setPierState n 1 := if_pos hOn

theorem State.pierSlipOne_puts : PutsPier n { s.pier n with
    slip := ((s.pier n).slip + 1) % 10, hitsFrom := s.now, errsFrom := s.now } s (s.pierSlipOne n) := by
  have hClear := State.clearPierCounts_puts (n := n)
    (s := s.setPier n { s.pier n with slip := ((s.pier n).slip + 1) % 10 })
  rw [State.pier_setPier] at hClear
  exact (State.setPier_puts n _).trans hClear

theorem State.pierUp_puts :
    PutsPier n { s.pier n with sends := true, t1 := none, marks := 1, heard := 0 } s (s.pierUp n) :=
  (State.setPier_puts n _).after State.setPierState_moves (by decide)

theorem State.pierUp_state : (s.pierUp n).pierState n = 5 := by
  rw [State.pierUp, State.pierState_setPier, State.pierState_setPierState n (by omega)]

section
variable (hOn : s.pierOn n = true)
include hOn

/-- A lock while the exchange goes on leads to where it stood. -/
theorem State.pierLock_exchange (h : s.pierSettled n = false) :
    s.pierLock n = s.setPierState n (if (s.pier n).stepSent then 4 else if (s.pier n).capSent then 3 else 2) := by
  rw [State.pierLock, hOn, h]
  rfl

theorem State.pierLock_settled (h : s.pierSettled n = true) : s.pierLock n = s.pierUp n := by
  rw [State.pierLock, hOn, h]
  rfl

end

/-- A class-N fault of a link's port: what it shows, and what it leaves. -/
structure PierFaults (n : Nat) (s t : State) : Prop where
  shows : (t.source (pierSource n)).ShowsN
  others : ∀ x, x ≠ pierSource n → t.source x = s.source x
  piers : t.piers = s.piers
  status : ∀ hi lo, t.fld (pierOff n + 4) hi lo = s.fld (pierOff n + 4) hi lo

theorem State.pierFaults (n : Nat) : PierFaults n s (s.latchFault (pierSource n) .n) where
  shows := State.latchFault_n_shows _ _ _ _
  others x hx := (State.latchFault_n_source _ _ _ _ x).trans (if_neg hx)
  piers := (State.latchFault_n_halts _ _ _ _).same .piers (by decide)
  status := (State.latchFault_frame _ _ _ _ _ (by decide)).fld faultRegister_pier

theorem PierFaults.bit (h : PierFaults n s t) (i : Nat) : t.bit (pierOff n + 4) i = s.bit (pierOff n + 4) i :=
  State.bit_of_fld (h.status i i)

/-! ### What a word of PLn_CFG does (R367) -/

/-- A change of EN starts the link from nothing. -/
def State.pierRestarted (s : State) (n : Nat) (v : Word) : State :=
  (((s.setReg (pierOff n) (v &&& 0xFC000000)).setFld (pierOff n + 4) 31 27 0).setPier n
    { hitsFrom := s.now, errsFrom := s.now }).emit (.pierSymbols n (if s.pierOn n then 0 else 285) 0)

theorem State.pierOn_setCfg (v : Word) :
    (s.setReg (pierOff n) (v &&& 0xFC000000)).pierOn n = decide (getBits v 31 31 = 1) := by
  unfold State.pierOn State.bit
  rw [State.fld_setReg_same, getBits_enable]

/-- The registers of the link are written before its record. -/
theorem State.pierRestarted_after (v : Word) : Moves [.emitted, .piers]
    ((s.setReg (pierOff n) (v &&& 0xFC000000)).setFld (pierOff n + 4) 31 27 0) (s.pierRestarted n v) :=
  .step State.emit_moves (by decide) (State.setPier_moves.mono (by decide))

theorem State.pierRestarted_on (v : Word) : (s.pierRestarted n v).pierOn n = decide (getBits v 31 31 = 1) :=
  (State.bit_moves (State.pierRestarted_after v) (by decide) _ _).trans
    ((State.bit_setFld_reg _ _ _ _ _ _ _ (by omega)).trans (State.pierOn_setCfg v))

theorem State.pierRestarted_reg (v : Word) : (s.pierRestarted n v).reg (pierOff n) = v &&& 0xFC000000 :=
  (State.reg_moves (State.pierRestarted_after v) (by decide) _).trans
    ((State.reg_setFld_ne _ _ _ _ _ _ (by omega)).trans (State.reg_setReg_same _ _ _))

theorem State.pierRestarted_status (v : Word) :
    (s.pierRestarted n v).pierState n = 0 ∧ (s.pierRestarted n v).pierRate n = 0 :=
  getBits_of_status_zero ((State.fld_moves (State.pierRestarted_after v) (by decide) _ 31 27).trans
    (State.fld_setFld_same _ _ _ _ _ (by omega) (by omega)))

theorem State.pierRestarted_puts (v : Word) :
    PutsPier n { hitsFrom := s.now, errsFrom := s.now } s (s.pierRestarted n v) :=
  ((State.setPier_puts n _).after ((State.setReg_moves).trans State.setFld_moves) (by decide)).moves State.emit_moves
    (by decide)

theorem State.pierRestarted_moves (v : Word) : Moves [.regs, .emitted, .piers] s (s.pierRestarted n v) :=
  .step State.emit_moves (by decide) (.step State.setPier_moves (by decide)
    (.step State.setFld_moves (by decide) (State.setReg_moves.mono (by decide))))

section
variable {n : Four} {v : Word} (hOpen : s.closed (pierOff n) = false)
include hOpen

theorem exec_pierEnableWrite_changes (h : decide (getBits v 31 31 = 1) ≠ s.pierOn n) :
    exec (.pierEnableWrite n v) s = .next (s.pierRestarted n v) :=
  (if_neg (by simp [hOpen])).trans (if_neg (by rwa [State.pierOn_setCfg]))

theorem exec_pierEnableWrite_keeps (h : decide (getBits v 31 31 = 1) = s.pierOn n) :
    exec (.pierEnableWrite n v) s = .next (s.setReg (pierOff n) (v &&& 0xFC000000)) :=
  (if_neg (by simp [hOpen])).trans (if_pos (by rwa [State.pierOn_setCfg]))

end

/-! ### The exchange of capabilities (R356, R357) -/

/-- A link that steps to a rate says so to its peer. -/
def State.pierSteps (s : State) (n target : Nat) : State :=
  ((s.setPier n { s.pier n with target := target, stepSent := true, sends := false }).setPierState n 4).pierSend n 2
    [BitVec.ofNat 8 target]

theorem State.pierSteps_state (target : Nat) : (s.pierSteps n target).pierState n = 4 :=
  (State.pierState_moves State.pierSend_moves (by decide)).trans (State.pierState_setPierState n (by omega))

theorem State.pierSteps_puts (target : Nat) :
    PutsPier n { s.pier n with target := target, stepSent := true, sends := false } s (s.pierSteps n target) :=
  ((State.setPier_puts n _).moves State.setPierState_moves (by decide)).moves State.pierSend_moves (by decide)

theorem State.capDone_waits (h : (s.pier n).peerRate = none) : s.capDone n = s := by
  unfold State.capDone
  simp only [h]

/-- Both CAPs are exchanged, and the common rate decides. -/
theorem State.capDone_decides {r : Nat} (hPeer : (s.pier n).peerRate = some r) (hSent : (s.pier n).capSent = true)
    (hStep : (s.pier n).noStep = false) : s.capDone n = if min (s.maxRate n) (min 2 r) = 0 then s.pierUp n
      else s.pierSteps n (min (s.maxRate n) (min 2 r)) := by
  unfold State.capDone
  dsimp only
  split
  case h_1 h => exact absurd (h.symm.trans hPeer) (by simp)
  case h_2 r' h =>
    obtain rfl := Option.some.inj (h.symm.trans hPeer)
    rw [if_neg (show ¬ (!(s.pier n).capSent) = true by simp [hSent]), if_neg (show ¬ (s.pier n).noStep = true by simp [hStep])]
    rfl

/-- The frame CAP of a link. -/
def State.capPayload (s : State) (n : Nat) : List Byte :=
  [BitVec.ofNat 8 (s.maxRate n), 1] ++ beBytes 2 s.deviceId ++ [BitVec.ofNat 8 (s.fld (pierOff n + 0x20) 31 30)]

/-- The frame has left and STATE shows CAP. -/
def State.capShown (s : State) (n : Nat) : State := (s.pierSend n 1 (s.capPayload n)).setPierState n 3

/-- A link has sent its CAP. -/
def State.capSent (s : State) (n : Nat) : State :=
  (s.capShown n).setPier n { (s.capShown n).pier n with capSent := true }

theorem State.capShown_moves : Moves [.regs, .emitted, .pierTx] s (s.capShown n) :=
  .step State.setPierState_moves (by decide) (State.pierSend_moves.mono (by decide))

theorem State.capSent_puts : PutsPier n { s.pier n with capSent := true } s (s.capSent n) := by
  have hPuts := State.setPier_puts (s := s.capShown n) n { (s.capShown n).pier n with capSent := true }
  have hBefore : (s.capShown n).pier n = s.pier n := State.pier_moves State.capShown_moves (by decide) n
  unfold State.capSent
  rw [hBefore] at hPuts ⊢
  exact hPuts.after State.capShown_moves (by decide)

theorem State.capSent_state : (s.capSent n).pierState n = 3 := by
  rw [State.capSent, State.pierState_setPier, State.capShown, State.pierState_setPierState n (by omega)]

/-- The frame that leaves is the one counted. -/
theorem State.capSent_sends : (s.capSent n).pierSeq n = (s.pierSeq n + 1) % 256 ∧
    (s.capSent n).emitted = .pier n (pierFrame 1 (s.pierSeq n) (s.capPayload n)) :: s.emitted := by
  have hMoves : Moves [.regs, .piers] (s.pierSend n 1 (s.capPayload n)) (s.capSent n) :=
    .step State.setPier_moves (by decide) (State.setPierState_moves.mono (by decide))
  exact ⟨(congrArg (Tbl.get zeroNat · n) (hMoves.same .pierTx (by decide))).trans (State.pierSeq_pierSend n _ _),
    hMoves.same .emitted (by decide)⟩

theorem State.capSent_moves : Moves [.regs, .emitted, .pierTx, .piers] s (s.capSent n) :=
  .step State.setPier_moves (by decide) (State.capShown_moves.mono (by decide))

section
variable {n : Four} {payload : List Byte} (hState : s.pierState n = 2 ∨ s.pierState n = 3)
include hState

theorem exec_pierCapTimer (hOn : s.pierOn n = true) (hPeer : (s.pier n).peerRate = none) :
    exec (.pierCapTimer n) s = .next (s.capSent n) := by
  have hWaits : (s.capSent n).capDone n = s.capSent n :=
    State.capDone_waits (by rw [State.capSent_puts.record]; exact hPeer)
  refine (if_pos (by simp [hOn, hState])).trans ?_
  exact congrArg Host.Outcome.next hWaits

/-- The peer's rate is noted. -/
def State.capHeard (s : State) (n : Nat) (payload : List Byte) : State :=
  s.setPier n { s.pier n with peerRate := some (payload.getD 0 0).toNat }

theorem exec_cap (hSent : (s.pier n).capSent = true) (hStep : (s.pier n).noStep = false) :
    exec (.cap n payload) s = .next (if min (s.maxRate n) (min 2 (payload.getD 0 0).toNat) = 0
      then (s.capHeard n payload).pierUp n
      else (s.capHeard n payload).pierSteps n (min (s.maxRate n) (min 2 (payload.getD 0 0).toNat))) := by
  have hRecord : (s.capHeard n payload).pier n = { s.pier n with peerRate := some (payload.getD 0 0).toNat } :=
    State.pier_setPier n _
  refine (if_pos (by simp [hState])).trans (congrArg Host.Outcome.next ?_)
  exact State.capDone_decides (s := s.capHeard n payload) (congrArg PierRec.peerRate hRecord)
    ((congrArg PierRec.capSent hRecord).trans hSent) ((congrArg PierRec.noStep hRecord).trans hStep)

end

/-! ### The step to a higher rate, and back (R357) -/

/-- Both ends have switched to the target, and search. -/
def State.pierSwitched (s : State) (n : Nat) : State :=
  ((s.setFld (pierOff n + 4) 28 27 (s.pier n).target).setPierState n 1).clearPierCounts n

/-- An end that falls back searches at 1.25 GBd, and shows it. -/
def State.pierFalls (s : State) (n : Nat) : State :=
  (((s.setFld (pierOff n + 4) 28 27 0).setPierState n 1).clearPierCounts n).setBit (pierOff n + 4) 26 true

/-- It stays at 1.25 GBd. -/
def State.pierFallen (s : State) (n : Nat) : State :=
  (s.pierFalls n).setPier n { (s.pierFalls n).pier n with noStep := true, sends := false }

section
variable {n : Four}

theorem exec_pierStepSwitch (hState : s.pierState n = 4) (hSent : (s.pier n).stepSent = true)
    (hHeard : (s.pier n).stepRx = true) : exec (.pierStepSwitch n) s = .next (s.pierSwitched n) :=
  if_pos (by simp [hState, hSent, hHeard])

theorem exec_pierStepTimeout (hState : s.pierState n ≤ 1) (hRate : s.pierRate n ≠ 0) :
    exec (.pierStepTimeout n) s = .next ((s.pierFallen n).latchFault (pierSource n) .n) :=
  if_pos (by simp [hState, hRate])

end

/-- A link that has taken a rate searches at it: its record keeps all but the starts of its counts. -/
theorem State.retuned_puts (v : Nat) : PutsPier n { s.pier n with hitsFrom := s.now, errsFrom := s.now } s
    (((s.setFld (pierOff n + 4) 28 27 v).setPierState n 1).clearPierCounts n) := by
  have hMoves : Moves [.regs] s ((s.setFld (pierOff n + 4) 28 27 v).setPierState n 1) :=
    State.setFld_moves.trans State.setPierState_moves
  have hClear := State.clearPierCounts_puts (n := n) (s := (s.setFld (pierOff n + 4) 28 27 v).setPierState n 1)
  rw [State.pier_moves hMoves (by decide) n, State.now_moves hMoves (by decide)] at hClear
  exact hClear.after hMoves (by decide)

theorem State.pierSwitched_status :
    (s.pierSwitched n).pierRate n = (s.pier n).target % 4 ∧ (s.pierSwitched n).pierState n = 1 :=
  ⟨(State.pierRate_moves State.clearPierCounts_moves (by decide)).trans
      ((State.pierRate_setPierState 1).trans (State.pierRate_setFld _)),
    (State.pierState_moves State.clearPierCounts_moves (by decide)).trans (State.pierState_setPierState n (by omega))⟩

theorem State.pierSwitched_moves : Moves [.regs, .piers] s (s.pierSwitched n) :=
  .step State.clearPierCounts_moves (by decide) (.step State.setPierState_moves (by decide)
    (State.setFld_moves.mono (by decide)))

theorem State.pierFallen_status : (s.pierFallen n).pierRate n = 0 ∧ (s.pierFallen n).pierState n = 1 ∧
    (s.pierFallen n).bit (pierOff n + 4) 26 = true := by
  obtain ⟨hState, hRate⟩ := State.status_setBit (n := n) (i := 26) (by omega) true
    (s := ((s.setFld (pierOff n + 4) 28 27 0).setPierState n 1).clearPierCounts n)
  refine ⟨(State.pierRate_moves State.setPier_moves (by decide)).trans (hRate.trans ?_),
    (State.pierState_moves State.setPier_moves (by decide)).trans (hState.trans ?_),
    (State.bit_moves State.setPier_moves (by decide) _ _).trans (State.bit_setBit_same _ _ _ _ (by omega))⟩
  · exact (State.pierRate_moves State.clearPierCounts_moves (by decide)).trans
      ((State.pierRate_setPierState 1).trans (State.pierRate_setFld 0))
  · exact (State.pierState_moves State.clearPierCounts_moves (by decide)).trans (State.pierState_setPierState n (by omega))

theorem State.pierFallen_puts : PutsPier n { s.pier n with
    noStep := true, sends := false, hitsFrom := s.now, errsFrom := s.now } s (s.pierFallen n) := by
  have hFalls : PutsPier n { s.pier n with hitsFrom := s.now, errsFrom := s.now } s (s.pierFalls n) :=
    (State.retuned_puts 0).moves State.setBit_moves (by decide)
  have hStays := State.setPier_puts (s := s.pierFalls n) n { (s.pierFalls n).pier n with noStep := true, sends := false }
  unfold State.pierFallen
  rw [hFalls.record] at hStays ⊢
  exact hFalls.trans hStays

theorem State.pierFallen_moves : Moves [.regs, .piers] s (s.pierFallen n) :=
  .step State.setPier_moves (by decide) (.step State.setBit_moves (by decide)
    (.step State.clearPierCounts_moves (by decide) (.step State.setPierState_moves (by decide)
      (State.setFld_moves.mono (by decide)))))

/-! ### Events of another state of the link -/

section
variable {n : Four} {payload : List Byte}

theorem exec_pier_off (h : s.pierOn n = false) : exec (.pierAlignSearch n) s = .next s ∧
    exec (.pierAlignLock n) s = .next s ∧ exec (.pierCapTimer n) s = .next s :=
  ⟨congrArg Host.Outcome.next (if_neg (by simp [h])), congrArg Host.Outcome.next (if_pos (by simp [h])),
    if_neg (by simp [h])⟩

theorem exec_pier_unaligned (h : s.pierState n < 2) :
    exec (.pierAlignLost n) s = .next s ∧ exec (.pierFrameBad n) s = .next s :=
  ⟨if_neg (by omega), if_neg (by omega)⟩

theorem exec_pier_unexchanging (h : s.pierState n ≠ 2) (h' : s.pierState n ≠ 3) :
    exec (.cap n payload) s = .next s ∧ exec (.pierCapTimer n) s = .next s :=
  ⟨if_neg (by simp [h, h']), if_neg (by simp [h, h'])⟩

theorem exec_step_none (h : s.pierState n < 2 ∨ 4 < s.pierState n) : exec (.step n payload) s = .next s :=
  if_neg (by simp; omega)

theorem exec_pierStepSwitch_none (h : s.pierState n ≠ 4 ∨ (s.pier n).stepSent = false ∨ (s.pier n).stepRx = false) :
    exec (.pierStepSwitch n) s = .next s := if_neg (by
  simp only [Bool.and_eq_true, decide_eq_true_eq]
  rintro ⟨⟨hState, hSent⟩, hHeard⟩
  simp [hState, hSent, hHeard] at h)

theorem exec_pierStepTimeout_none (h : 1 < s.pierState n ∨ s.pierRate n = 0) : exec (.pierStepTimeout n) s = .next s :=
  if_neg (by simp only [Bool.and_eq_true, decide_eq_true_eq]; omega)

end

/-! ### What the links do -/

/-- Settles O51: alignment, the exchange of capabilities, the step-up and the fall-back, each by what it leaves of the
link's status and of its record; every other record is kept because a link writes its own. -/
theorem pierLinksAlignAndStepUp : Obligations.PierLinksAlignAndStepUp := by
  unfold Obligations.PierLinksAlignAndStepUp
  refine ⟨?search, ?slip, ?lock, ?lockStepped, ?lost, ?enable, ?keepEnable, ?nothing, ?capTimer, ?cap, ?step, ?switch,
    ?timeout, ?badFrame⟩
  case search =>
    intro n s hOn
    have hRun := State.pierSearch_on hOn
    have hPuts : PutsPier n { s.pier n with hitsFrom := s.now, errsFrom := s.now } s (s.pierSearch n) := by
      rw [hRun]
      exact State.clearPierCounts_puts.moves State.setPierState_moves (by decide)
    exact ⟨_, rfl, (State.pierSearch_link hOn).2, hPuts.record, hPuts.others, State.pierSearch_moves.only⟩
  case slip =>
    exact fun n s => ⟨_, rfl, State.pierSlipOne_puts.record, State.pierSlipOne_puts.others, State.pierSlipOne_moves.only⟩
  case lock =>
    intro n s hOn hRate hSends hStep
    have hExchange : s.pierSettled n = false := by simp [State.pierSettled, hRate, hSends, hStep]
    exact ⟨_, congrArg Host.Outcome.next (State.pierLock_exchange hOn hExchange),
      State.pierState_setPierState n (by split <;> [omega; split <;> omega]), State.setPierState_moves.only⟩
  case lockStepped =>
    intro n s hOn hRate
    have hSettled : s.pierSettled n = true := by simp [State.pierSettled, hRate]
    exact ⟨_, congrArg Host.Outcome.next (State.pierLock_settled hOn hSettled), State.pierUp_state,
      State.pierUp_puts.record, State.pierUp_puts.others, State.pierUp_moves.only⟩
  case lost =>
    intro n s hState
    have hFault := State.pierFaults (s := (s.setPierState n 0).setBit (pierOff n + 4) 24 true) n
    have hShown : Moves [.regs] s ((s.setPierState n 0).setBit (pierOff n + 4) 24 true) :=
      State.setPierState_moves.trans State.setBit_moves
    refine ⟨_, if_pos hState, ?_, ?_, hFault.shows.1, hFault.shows.2,
      fun x hx => (hFault.others x hx).trans (State.source_moves hShown (by decide) x),
      hFault.piers.trans (hShown.same .piers (by decide))⟩
    · exact (hFault.status 31 29).trans ((State.status_setBit (by omega) true).1.trans
        (State.pierState_setPierState n (by omega)))
    · exact (hFault.bit 24).trans (State.bit_setBit_same _ _ _ _ (by omega))
  case enable =>
    intro n v s hOpen hChanges
    have hPuts := State.pierRestarted_puts (s := s) (n := n) v
    obtain ⟨hState, hRate⟩ := State.pierRestarted_status (s := s) (n := n) v
    refine ⟨_, exec_pierEnableWrite_changes hOpen hChanges, ?_, State.pierRestarted_reg v, hState, hRate, hPuts.record,
      hPuts.others, (State.pierRestarted_moves v).only⟩
    exact (State.pierRestarted_on v).trans (Bool.eq_not_of_ne hChanges)
  case keepEnable => exact fun n v s hOpen hSame => ⟨_, exec_pierEnableWrite_keeps hOpen hSame, rfl⟩
  case nothing =>
    exact fun n payload s => ⟨exec_pier_off, exec_pier_unaligned, exec_pier_unexchanging, exec_step_none,
      exec_pierStepSwitch_none, exec_pierStepTimeout_none⟩
  case capTimer =>
    exact fun n s hOn hState hPeer => ⟨_, exec_pierCapTimer hState hOn hPeer, State.capSent_state,
      State.capSent_puts.record, State.capSent_sends.1, State.capSent_sends.2, State.capSent_puts.others,
      State.capSent_moves.only⟩
  case cap =>
    intro n payload s hState hSent hStep
    have hHeard : PutsPier n { s.pier n with peerRate := some (payload.getD 0 0).toNat } s (s.capHeard n payload) :=
      State.setPier_puts n _
    refine ⟨_, exec_cap hState hSent hStep, ?_⟩
    by_cases hRate : min (s.maxRate n) (min 2 (payload.getD 0 0).toNat) = 0
    · simp only [if_pos hRate]
      have hUp := State.pierUp_puts (s := s.capHeard n payload) (n := n)
      exact ⟨State.pierUp_state, by rw [hUp.record, hHeard.record], by rw [hUp.record, hHeard.record],
        (hHeard.trans hUp).others⟩
    · simp only [if_neg hRate]
      have hSteps := State.pierSteps_puts (s := s.capHeard n payload) (n := n)
        (min (s.maxRate n) (min 2 (payload.getD 0 0).toNat))
      exact ⟨State.pierSteps_state _, by rw [hSteps.record, hHeard.record], by rw [hSteps.record],
        (hHeard.trans hSteps).others⟩
  case step =>
    intro n payload s hAligned hExchange
    have hPuts := State.setPier_puts (s := s) n { s.pier n with stepRx := true }
    exact ⟨_, if_pos (by simp [hAligned, hExchange]), hPuts.record, hPuts.others, State.setPier_moves.only⟩
  case switch =>
    intro n s hState hSent hHeard
    have hPuts := State.retuned_puts (s := s) (n := n) (s.pier n).target
    exact ⟨_, exec_pierStepSwitch hState hSent hHeard, State.pierSwitched_status.1, State.pierSwitched_status.2,
      hPuts.record, hPuts.others, State.pierSwitched_moves.only⟩
  case timeout =>
    intro n s hState hRate
    have hFault := State.pierFaults (s := s.pierFallen n) n
    obtain ⟨hRate', hState', hFlag⟩ := State.pierFallen_status (s := s) (n := n)
    refine ⟨_, exec_pierStepTimeout hState hRate, (hFault.status 28 27).trans hRate', (hFault.status 31 29).trans hState',
      (hFault.bit 26).trans hFlag, ?_, hFault.shows.1, hFault.shows.2,
      fun x hx => (hFault.others x hx).trans (State.source_moves State.pierFallen_moves (by decide) x)⟩
    exact (congrArg (Tbl.get pierDefault · n.val) hFault.piers).trans State.pierFallen_puts.record
  case badFrame =>
    exact fun n s hState => ⟨_, if_pos hState, State.fld_incSat_same _ _ _ _ _ (by omega) (by omega),
      fun o ho => State.reg_setFld_ne _ _ _ _ _ _ ho, State.incSat_moves.only⟩

end Sys2Proof.Machine
end

section
/-! PROOFS. Lanes: what the record of a lane reads after a write of one, and the taps of a transmitter (R341, R343, R363). -/

namespace Sys2Proof.Machine

variable {s t : State} {l : Nat}

/-! ### The record of a lane -/

theorem State.lane_setLane (l m : Nat) (x : LaneRec) : (s.setLane l x).lane m = if m = l then x else s.lane m :=
  Tbl.get_put _ _ _ _ _

theorem State.lane_setLane_same (l : Nat) (x : LaneRec) : (s.setLane l x).lane l = x :=
  (State.lane_setLane _ _ _).trans (if_pos rfl)

theorem State.lane_setLane_ne {m : Nat} (x : LaneRec) (h : m ≠ l) : (s.setLane l x).lane m = s.lane m :=
  (State.lane_setLane _ _ _).trans (if_neg h)

theorem State.lane_moves {ps : List StatePart} (h : Moves ps s t) (hp : .lanes ∉ ps) (l : Nat) : t.lane l = s.lane l := by
  rw [State.lane, State.lane, h.same .lanes hp]

theorem faultRegister_lane {l k : Nat} : faultRegister (laneOff l + k) = false :=
  faultRegister_above (by unfold laneOff; omega)

/-! ### The taps of a transmitter (R341, R363) -/

/-- Six coefficients that the fields of the tap registers can hold. -/
structure TapsFit (c : List Int) : Prop where
  length : c.length = 6
  range : ∀ i, -128 ≤ c.getD i 0 ∧ c.getD i 0 < 128

theorem unsignedBits_lt (x : Int) : unsignedBits x 8 < 256 := by
  unfold unsignedBits
  omega

theorem signedBits_unsignedBits {x : Int} (h : -128 ≤ x ∧ x < 128) : signedBits (unsignedBits x 8) 8 = x := by
  unfold signedBits unsignedBits
  split <;> omega

theorem signedBits_fits_byte {v : Nat} (h : v < 256) : -128 ≤ signedBits v 8 ∧ signedBits v 8 < 128 := by
  unfold signedBits
  split <;> omega

/-- The fields of the two tap registers hold the coefficients, c(−3) first. -/
theorem tapWords_fields (c : List Int) :
    [getBits (tapWords c).1 31 24, getBits (tapWords c).1 23 16, getBits (tapWords c).1 15 8, getBits (tapWords c).1 7 0,
      getBits (tapWords c).2 15 8, getBits (tapWords c).2 7 0] = (List.range 6).map fun i => unsignedBits (c.getD i 0) 8 := by
  have hByte (i : Nat) : unsignedBits (c.getD i 0) 8 < 256 := unsignedBits_lt _
  have h0 := hByte 0
  have h1 := hByte 1
  have h2 := hByte 2
  have h3 := hByte 3
  have h4 := hByte 4
  have h5 := hByte 5
  simp only [tapWords, getBits, BitVec.toNat_ofNat, List.range, List.range.loop, List.map, List.cons.injEq, and_true]
  omega

theorem State.taps_setTaps {c : List Int} (h : TapsFit c) : (s.setTaps l c).taps l = c := by
  have hHigh (hi lo : Nat) : (s.setTaps l c).fld (laneOff l + 0x10) hi lo = getBits (tapWords c).1 hi lo := by
    rw [State.setTaps, State.fld_setReg_ne _ _ _ _ _ _ (by omega), State.fld_setReg_same]
  have hLow (hi lo : Nat) : (s.setTaps l c).fld (laneOff l + 0x14) hi lo = getBits (tapWords c).2 hi lo :=
    State.fld_setReg_same _ _ _ _ _
  have hRead : (s.setTaps l c).taps l = (List.range 6).map fun i => signedBits (unsignedBits (c.getD i 0) 8) 8 := by
    have hFields := congrArg (List.map (signedBits · 8)) (tapWords_fields c)
    rw [List.map_map] at hFields
    rw [State.taps]
    simp only [hHigh, hLow]
    exact hFields
  refine hRead.trans (List.ext_getElem (by simp [h.length]) fun i _ hi => ?_)
  have hTap := signedBits_unsignedBits (h.range i)
  rw [List.getD_eq_getElem _ _ hi] at hTap
  simpa [hi] using hTap

theorem State.taps_fit (l : Nat) : TapsFit (s.taps l) := by
  have hByte (off hi lo : Nat) (h : hi - lo + 1 = 8) :
      -128 ≤ signedBits (s.fld off hi lo) 8 ∧ signedBits (s.fld off hi lo) 8 < 128 :=
    signedBits_fits_byte (by have := getBits_lt (s.reg off) hi lo; rwa [h] at this)
  refine ⟨rfl, fun i => ?_⟩
  match i with
  | 0 | 1 | 2 | 3 | 4 | 5 => exact hByte _ _ _ rfl
  | _ + 6 => exact ⟨show (-128 : Int) ≤ 0 by decide, show (0 : Int) < 128 by decide⟩

theorem State.taps_moves {ps : List StatePart} (h : Moves ps s t) (hp : .regs ∉ ps) (l : Nat) : t.taps l = s.taps l := by
  simp only [State.taps, State.fld_moves h hp]

/-- A write of a register that holds no taps. -/
theorem State.taps_setFld {off hi lo v : Nat} (h : off ≠ laneOff l + 0x10) (h' : off ≠ laneOff l + 0x14) :
    (s.setFld off hi lo v).taps l = s.taps l := by
  have hHigh (a b : Nat) : (s.setFld off hi lo v).fld (laneOff l + 0x10) a b = s.fld (laneOff l + 0x10) a b :=
    State.fld_setFld_reg _ _ _ _ _ _ _ _ h.symm
  have hLow (a b : Nat) : (s.setFld off hi lo v).fld (laneOff l + 0x14) a b = s.fld (laneOff l + 0x14) a b :=
    State.fld_setFld_reg _ _ _ _ _ _ _ _ h'.symm
  simp only [State.taps, hHigh, hLow]

/-! ### A request applied to the taps (R341, R343) -/

theorem listSet_eq_set {α : Type} (c : List α) (i : Nat) (v : α) : listSet c i v = c.set i v := by
  induction c generalizing i with
  | nil => rfl
  | cons x c ih =>
    cases i with
    | zero => rfl
    | succ i => exact congrArg (x :: ·) (ih i)

theorem TapsFit.set {c : List Int} (h : TapsFit c) (i : Nat) {v : Int} (hv : -128 ≤ v ∧ v < 128) : TapsFit (listSet c i v) := by
  rw [listSet_eq_set]
  refine ⟨by rw [List.length_set, h.length], fun j => ?_⟩
  rw [List.getD_eq_getElem?_getD, List.getElem?_set]
  split
  · split
    · exact hv
    · exact ⟨by decide, by decide⟩
  · rw [← List.getD_eq_getElem?_getD]
    exact h.range j

theorem TapsFit.preset (k : Nat) : TapsFit (preset k) := by
  have hSix {c : List Int} (hLength : c.length = 6) (hAll : ∀ x ∈ c, -128 ≤ x ∧ x < 128) : TapsFit c := by
    refine ⟨hLength, fun i => ?_⟩
    rcases lt_or_ge i c.length with hi | hi
    · rw [List.getD_eq_getElem _ _ hi]
      exact hAll _ (List.getElem_mem hi)
    · rw [List.getD_eq_default _ _ hi]
      exact ⟨by decide, by decide⟩
  unfold Machine.preset
  split <;> exact hSix rfl (by decide)

theorem tapMax_le (i : Nat) : tapMax i ≤ 64 := by
  match i with
  | 0 | 1 | 2 | 3 | 4 | 5 => decide
  | _ + 6 => exact show (0 : Int) ≤ 64 by decide

theorem le_tapMin (i : Nat) : -24 ≤ tapMin i := by
  match i with
  | 0 | 1 | 2 | 3 | 4 | 5 => decide
  | _ + 6 => exact show (-24 : Int) ≤ 0 by decide

/-- A request leaves the taps as they are, presets them, or moves one of them by 1 within its limits. -/
theorem TapsFit.applyRequest {c : List Int} (h : TapsFit c) (q : BitVec 16) : TapsFit (applyRequest c q).1 := by
  have hTap := h.range (reqTap q)
  have hMax := tapMax_le (reqTap q)
  have hMin := le_tapMin (reqTap q)
  have hActions : reqAction q = 0 ∨ reqAction q = 1 ∨ reqAction q = 2 ∨ reqAction q = 3 := by
    unfold reqAction
    omega
  unfold Machine.applyRequest
  rcases hActions with hAction | hAction | hAction | hAction <;> simp only [hAction]
  case inl => exact h
  case inr.inl =>
    simp only [reduceIte, decide_true, Bool.true_and, Bool.not_true, Bool.false_and, decide_eq_true_eq, Bool.false_eq_true]
    split <;> [exact h; skip]
    split <;> [exact h; skip]
    split <;> [exact h; exact h.set _ (by omega)]
  case inr.inr.inl =>
    simp only [OfNat.ofNat_ne_one, reduceIte, decide_false, Bool.false_and, Bool.not_false, Bool.true_and,
      decide_eq_true_eq, Bool.false_eq_true]
    split <;> [exact h; skip]
    split <;> [exact h; skip]
    split <;> [exact h; exact h.set _ (by omega)]
  case inr.inr.inr => split <;> [exact h; exact .preset _]

end Sys2Proof.Machine
end

section
/-! PROOFS. The training exchange of a lane, its eye scan, and the FEC windows of a port (R343, R344, R346 to R350). -/

namespace Sys2Proof.Machine

variable {s t : State}

/-! ### The transmitter answers (R342, R343) -/

section
variable {l : Lane} {q r next : BitVec 16}

/-- LANE_TR_RSP.REQ shows the request received (R363). -/
def State.showRequest (s : State) (l : Nat) (q : BitVec 16) : State := s.setFld (laneOff l + 0x1C) 31 16 q.toNat

/-- A request shown leaves the taps. -/
theorem State.showRequest_taps : (s.showRequest l q).taps l = s.taps l := State.taps_setFld (by omega) (by omega)

/-- The transmitter has applied a request and answered it; it keeps the answer while that is a status (R343). -/
def State.answered (s : State) (l : Nat) (q : BitVec 16) : State :=
  let a := applyRequest (s.taps l) q
  let answer := response (reqTap q) a.2 (s.lane l).trained
  (((s.showRequest l q).setTaps l a.1).emit (.lane l "response" answer.toNat)).setLane l
    { s.lane l with held := if a.2 = 0 then none else some answer }

/-- The transmitter has answered a HOLD, and keeps its answer no longer (R343). -/
def State.released (s : State) (l : Nat) (q : BitVec 16) : State :=
  ((s.showRequest l q).setLane l { s.lane l with held := none }).emit
    (.lane l "response" (response (reqTap q) 0 (s.lane l).trained).toNat)

/-- The transmitter has repeated the answer that it keeps (R343). -/
def State.repeated (s : State) (l : Nat) (q r : BitVec 16) : State :=
  (s.showRequest l q).emit (.lane l "response" (response (reqTap r) (rspStatus r) (s.lane l).trained).toNat)

theorem exec_trainingRequestRx_applies (hTrain : s.fld (laneOff l + 4) 31 28 = 3) (hFree : (s.lane l).held = none) :
    exec (.trainingRequestRx l q) s = .next (s.answered l q) := by
  have hRun : exec (.trainingRequestRx l q) s = .next ((((s.showRequest l q).setTaps l
      (applyRequest ((s.showRequest l q).taps l) q).1).emit (.lane l "response" (response (reqTap q)
        (applyRequest ((s.showRequest l q).taps l) q).2 (s.lane l).trained).toNat)).setLane l { s.lane l with
          held := if (applyRequest ((s.showRequest l q).taps l) q).2 = 0 then none else some (response (reqTap q)
            (applyRequest ((s.showRequest l q).taps l) q).2 (s.lane l).trained) }) := by
    refine (if_neg (not_not.mpr hTrain)).trans ?_
    simp only [hFree]
    rfl
  rw [hRun, State.showRequest_taps]
  rfl

theorem exec_trainingRequestRx_holds (hTrain : s.fld (laneOff l + 4) 31 28 = 3) (hHeld : (s.lane l).held = some r)
    (hHold : reqAction q = 0) : exec (.trainingRequestRx l q) s = .next (s.released l q) := by
  refine (if_neg (not_not.mpr hTrain)).trans ?_
  simp only [hHeld, hHold]
  rfl

theorem exec_trainingRequestRx_repeats (hTrain : s.fld (laneOff l + 4) 31 28 = 3) (hHeld : (s.lane l).held = some r)
    (hOther : reqAction q ≠ 0) : exec (.trainingRequestRx l q) s = .next (s.repeated l q r) := by
  refine (if_neg (not_not.mpr hTrain)).trans ?_
  simp only [hHeld]
  rfl

theorem State.showRequest_shown (l : Nat) (q : BitVec 16) : (s.showRequest l q).fld (laneOff l + 0x1C) 31 16 = q.toNat :=
  (State.fld_setFld_same _ _ _ _ _ (by decide) (by decide)).trans (Nat.mod_eq_of_lt q.isLt)

/-- The registers of the lane are written before its record. -/
theorem State.answered_after : Moves [.emitted, .lanes]
    ((s.showRequest l q).setTaps l (applyRequest (s.taps l) q).1) (s.answered l q) :=
  .step State.setLane_moves (by decide) (State.emit_moves.mono (by decide))

theorem State.answered_taps : (s.answered l q).taps l = (applyRequest (s.taps l) q).1 :=
  (State.taps_moves State.answered_after (by decide) _).trans (State.taps_setTaps ((State.taps_fit _).applyRequest q))

theorem State.answered_shown : (s.answered l q).fld (laneOff l + 0x1C) 31 16 = q.toNat := by
  refine (State.fld_moves State.answered_after (by decide) _ _ _).trans ?_
  rw [State.setTaps, State.fld_setReg_ne _ _ _ _ _ _ (by omega), State.fld_setReg_ne _ _ _ _ _ _ (by omega),
    State.showRequest_shown]

/-- Before the answer leaves, the lane has written its registers alone. -/
theorem State.answered_before : Moves [.regs] s ((s.showRequest l q).setTaps l (applyRequest (s.taps l) q).1) :=
  State.setFld_moves.trans State.setTaps_moves

theorem State.answered_emitted : (s.answered l q).emitted = .lane l "response"
    (response (reqTap q) (applyRequest (s.taps l) q).2 (s.lane l).trained).toNat :: s.emitted :=
  (State.setLane_moves.same .emitted (by decide)).trans
    (congrArg (_ :: ·) (State.answered_before.same .emitted (by decide)))

theorem State.answered_held : ((s.answered l q).lane l).held = if (applyRequest (s.taps l) q).2 = 0 then none
    else some (response (reqTap q) (applyRequest (s.taps l) q).2 (s.lane l).trained) :=
  congrArg LaneRec.held (State.lane_setLane_same _ _)

theorem State.answered_others {x : Nat} (hx : x ≠ l) : (s.answered l q).lane x = s.lane x :=
  (State.lane_setLane_ne _ hx).trans ((State.lane_moves State.emit_moves (by decide) x).trans
    (State.lane_moves State.answered_before (by decide) x))

theorem State.answered_moves : Moves [.regs, .emitted, .lanes] s (s.answered l q) :=
  .step State.setLane_moves (by decide) (.step State.emit_moves (by decide)
    (.step State.setTaps_moves (by decide) (State.setFld_moves.mono (by decide))))

theorem State.released_after : Moves [.emitted, .lanes] (s.showRequest l q) (s.released l q) :=
  .step State.emit_moves (by decide) (State.setLane_moves.mono (by decide))

theorem State.released_lane : (s.released l q).lane l = { s.lane l with held := none } :=
  (State.lane_moves State.emit_moves (by decide) _).trans (State.lane_setLane_same _ _)

theorem State.released_emitted : (s.released l q).emitted
    = .lane l "response" (response (reqTap q) 0 (s.lane l).trained).toNat :: s.emitted := rfl

theorem State.repeated_emitted : (s.repeated l q r).emitted
    = .lane l "response" (response (reqTap r) (rspStatus r) (s.lane l).trained).toNat :: s.emitted := rfl

theorem State.released_moves : Moves [.regs, .emitted, .lanes] s (s.released l q) :=
  (State.setFld_moves.mono (by decide)).trans (State.released_after.mono (by decide))

theorem State.repeated_moves : Moves [.regs, .emitted] s (s.repeated l q r) :=
  .step State.emit_moves (by decide) (State.setFld_moves.mono (by decide))

/-! ### The receiver asks (R343, R344, R363) -/

/-- LANE_TR_RSP.RSP shows the response received (R363). -/
def State.showResponse (s : State) (l : Nat) (r : BitVec 16) : State := s.setFld (laneOff l + 0x1C) 15 0 r.toNat

theorem State.showResponse_shown (l : Nat) (r : BitVec 16) : (s.showResponse l r).fld (laneOff l + 0x1C) 15 0 = r.toNat :=
  (State.fld_setFld_same _ _ _ _ _ (by decide) (by decide)).trans (Nat.mod_eq_of_lt r.isLt)

theorem State.showResponse_manualMode (l : Nat) (r : BitVec 16) : (s.showResponse l r).manualMode l = s.manualMode l :=
  congrArg (s.chip.mode = .test && ·) (State.bit_setFld_reg _ _ _ _ _ _ _ (by omega))

theorem State.sendRequest_lane (l : Nat) (q : BitVec 16) : (s.sendRequest l q).lane l = { s.lane l with
    sent := q, wait := if reqAction q = 0 then .notUpdated else .status, trained := false } :=
  State.lane_setLane_same _ _

/-- LANE_TR_REQ shows the request before it leaves. -/
theorem State.sendRequest_after (l : Nat) (q : BitVec 16) :
    Moves [.emitted, .lanes] (s.setFld (laneOff l + 0x18) 15 0 q.toNat) (s.sendRequest l q) :=
  .step State.setLane_moves (by decide) (State.emit_moves.mono (by decide))

theorem State.sendRequest_shown (l : Nat) (q : BitVec 16) : (s.sendRequest l q).fld (laneOff l + 0x18) 15 0 = q.toNat :=
  (State.fld_moves (State.sendRequest_after l q) (by decide) _ _ _).trans
    ((State.fld_setFld_same _ _ _ _ _ (by decide) (by decide)).trans (Nat.mod_eq_of_lt q.isLt))

theorem State.sendRequest_response (l : Nat) (q : BitVec 16) :
    (s.sendRequest l q).fld (laneOff l + 0x1C) 15 0 = s.fld (laneOff l + 0x1C) 15 0 :=
  (State.fld_moves (State.sendRequest_after l q) (by decide) _ _ _).trans
    (State.fld_setFld_reg _ _ _ _ _ _ _ _ (by omega))

/-- A HOLD asks for nothing. -/
theorem reqAction_hold (q : BitVec 16) : (BitVec.ofNat 16 (reqTap q * 2 ^ 13)).toNat = reqTap q * 2 ^ 13 ∧
    reqAction (BitVec.ofNat 16 (reqTap q * 2 ^ 13)) = 0 := by
  have hTap : reqTap q < 8 := by have := q.isLt; unfold reqTap; omega
  have hWord : (BitVec.ofNat 16 (reqTap q * 2 ^ 13)).toNat = reqTap q * 2 ^ 13 := by
    rw [BitVec.toNat_ofNat, Nat.mod_eq_of_lt (by omega)]
  refine ⟨hWord, ?_⟩
  rw [reqAction, hWord]
  omega

/-- After a status the receiver answers with a HOLD on the tap that it asked for. -/
theorem exec_trainingResponseRx_status (hTrain : s.fld (laneOff l + 4) 31 28 = 3) (hWait : (s.lane l).wait = .status)
    (hStatus : rspStatus r ≠ 0) : exec (.trainingResponseRx l r next) s =
      .next ((s.showResponse l r).sendRequest l (BitVec.ofNat 16 (reqTap (s.lane l).sent * 2 ^ 13))) := by
  have hLane : (s.setFld (laneOff l + 0x1C) 15 0 r.toNat).lane l = s.lane l := State.lane_moves State.setFld_moves (by decide) l
  refine (if_neg (not_not.mpr hTrain)).trans ?_
  rw [hLane, hWait]
  split
  case h_1 hZero => exact absurd hZero hStatus
  case h_2 => rfl
  case h_3 hNot => exact absurd rfl hNot
  case h_4 hNot _ _ => exact absurd rfl hNot

/-- After NOT_UPDATED the exchange is idle. -/
theorem exec_trainingResponseRx_notUpdated (hTrain : s.fld (laneOff l + 4) 31 28 = 3) (hWait : (s.lane l).wait ≠ .status)
    (hStatus : rspStatus r = 0) : exec (.trainingResponseRx l r next) s =
      .next ((s.showResponse l r).nextRequest l next) := by
  have hLane : (s.setFld (laneOff l + 0x1C) 15 0 r.toNat).lane l = s.lane l := State.lane_moves State.setFld_moves (by decide) l
  refine (if_neg (not_not.mpr hTrain)).trans ?_
  rw [hLane, hStatus]
  split
  case h_1 hIs _ => exact absurd hIs hWait
  case h_2 hIs _ => exact absurd hIs hWait
  case h_3 => rfl
  case h_4 hOther _ => exact absurd rfl hOther

theorem exec_training_none (h : s.fld (laneOff l + 4) 31 28 ≠ 3) :
    exec (.trainingRequestRx l q) s = .next s ∧ exec (.trainingResponseRx l r next) s = .next s := ⟨if_pos h, if_pos h⟩

end

theorem State.nextRequest_sends {l : Nat} {next : BitVec 16} (hAuto : s.manualMode l = false) (hAsks : reqAction next ≠ 0) :
    s.nextRequest l next = s.sendRequest l next := by
  rw [State.nextRequest, hAuto]
  exact if_neg hAsks

theorem State.nextRequest_trained {l : Nat} {next : BitVec 16} (hAuto : s.manualMode l = false) (hNone : reqAction next = 0) :
    s.nextRequest l next = s.setLane l { s.lane l with wait := .idle, trained := true } := by
  rw [State.nextRequest, hAuto]
  exact if_pos hNone

theorem State.nextRequest_manual {l : Nat} {next q : BitVec 16} {rest : List (BitVec 16)} (hManual : s.manualMode l = true)
    (hFirst : (s.lane l).manual = q :: rest) :
    s.nextRequest l next = (s.setLane l { s.lane l with manual := rest }).sendRequest l q := by
  simp only [State.nextRequest, hManual, hFirst, if_true]

/-! ### Manual requests (R344) -/

/-- LANE_TR_REQ.MANUAL is as chosen, and the request sent beside it leaves it. -/
theorem State.manual_setFld (l v q : Nat) :
    ((s.setFld (laneOff l + 0x18) 31 31 v).setFld (laneOff l + 0x18) 15 0 q).fld (laneOff l + 0x18) 31 31 = v % 2 :=
  (State.fld_setFld_ne _ _ _ _ _ _ _ _ (by decide) (by decide) (by decide) (by decide)).trans
    (State.fld_setFld_same _ _ _ _ _ (by decide) (by decide))

/-- LANE_TR_REQ.MANUAL shows the mode chosen (R363). -/
def State.manualShown (s : State) (l : Nat) (v : Word) : State := s.setFld (laneOff l + 0x18) 31 31 (getBits v 31 31)

/-- A manual request waits behind those before it (R344). -/
def State.manualWaits (s : State) (l : Nat) (v : Word) : State :=
  ((s.manualShown l v).setFld (laneOff l + 0x18) 15 0 (v.setWidth 16).toNat).setLane l
    { (s.manualShown l v).lane l with manual := ((s.manualShown l v).lane l).manual ++ [v.setWidth 16] }

section
variable {l : Lane} {v : Word}

theorem exec_manualRequest_refused (hOpen : s.closed (laneOff l) = false) (hMode : s.chip.mode ≠ .test)
    (hDiffers : getBits v 31 31 ≠ s.fld (laneOff l + 0x18) 31 31) :
    exec (.trainingManualRequest l v) s = .next (s.refusedWrite (laneOff l + 0x18)) :=
  (if_neg (by simp [hOpen])).trans ((if_pos hMode).trans (if_pos hDiffers))

theorem exec_manualRequest_none (hMode : s.chip.mode ≠ .test) (hSame : getBits v 31 31 = s.fld (laneOff l + 0x18) 31 31) :
    exec (.trainingManualRequest l v) s = .next s := by
  cases hOpen : s.closed (laneOff l) with
  | true => exact if_pos hOpen
  | false => exact (if_neg (by simp [hOpen])).trans ((if_pos hMode).trans (if_neg (not_not.mpr hSame)))

variable (hOpen : s.closed (laneOff l) = false) (hMode : s.chip.mode = .test)
include hOpen hMode

theorem exec_manualRequest_automatic (hValue : getBits v 31 31 = 0) :
    exec (.trainingManualRequest l v) s = .next (s.setFld (laneOff l + 0x18) 31 31 (getBits v 31 31)) :=
  (if_neg (by simp [hOpen])).trans ((if_neg (not_not.mpr hMode)).trans (if_pos hValue))

/-- In manual mode a request leaves at once when the exchange is idle, and waits otherwise. -/
theorem exec_manualRequest_manual (hValue : getBits v 31 31 = 1) : exec (.trainingManualRequest l v) s = .next
    (if (s.lane l).wait = .idle then (s.manualShown l v).sendRequest l (v.setWidth 16) else s.manualWaits l v) := by
  have hLane : (s.manualShown l v).lane l = s.lane l := State.lane_moves State.setFld_moves (by decide) l
  refine (if_neg (by simp [hOpen])).trans ((if_neg (not_not.mpr hMode)).trans ((if_neg (by omega)).trans ?_))
  rw [State.manualWaits, hLane]
  unfold State.manualShown at *
  dsimp only
  rw [hLane]
  split
  case h_1 hIdle => rw [if_pos hIdle]
  case h_2 hBusy => rw [if_neg hBusy]

end

/-- The low half of a word, as a request and as a field. -/
theorem toNat_setWidth_word (v : Word) : (v.setWidth 16).toNat = getBits v 15 0 := by
  simp [getBits]

/-! ### The eye scan (R349, R350, R366) -/

theorem State.eyeAbort_idle {l : Nat} (h : s.fld (laneOff l + 0x44) 1 0 ≠ 1) : s.eyeAbort l = s := if_neg h

/-- A scan that is BUSY ends in ABORTED, without counts. -/
theorem State.eyeAbort_busy {l : Nat} (h : s.fld (laneOff l + 0x44) 1 0 = 1) :
    (s.eyeAbort l).fld (laneOff l + 0x44) 1 0 = 3 ∧ ((s.eyeAbort l).lane l).eye = [] := by
  rw [State.eyeAbort, if_pos h]
  exact ⟨State.fld_setFld_same (s.setFld (laneOff l + 0x44) 14 8 (s.eyeColumns l)) (laneOff l + 0x44) 1 0 3 (by decide)
    (by decide), congrArg LaneRec.eye (State.lane_setLane_same _ _)⟩

/-- A scan is BUSY, and has no counts yet (R349). -/
def State.eyeStarted (s : State) (l : Nat) (v : Word) : State :=
  ((s.setEyeCtrl l v).setReg (laneOff l + 0x44) 1).setLane l { (s.setEyeCtrl l v).lane l with
    eye := [], eyeStart := (s.setEyeCtrl l v).now,
    eyeDwell := max 10 (min 30 ((s.setEyeCtrl l v).fld (laneOff l + 0x40) 26 22)) }

theorem State.setEyeCtrl_fld (l : Nat) (v : Word) {o : Nat} (h : o ≠ laneOff l + 0x40) (hi lo : Nat) :
    (s.setEyeCtrl l v).fld o hi lo = s.fld o hi lo := State.fld_setReg_ne _ _ _ _ _ _ h

section
variable {l : Lane} {v : Word} (hOpen : s.closed (laneOff l) = false)
include hOpen

theorem exec_eyeScanStart_plain (hStart : getBits v 31 31 = 0) :
    exec (.eyeScanStart l v) s = .next (s.setEyeCtrl l v) := (if_neg (by simp [hOpen])).trans (if_pos hStart)

theorem exec_eyeScanStart_ends (hStart : getBits v 31 31 = 1) (hBusy : s.fld (laneOff l + 0x44) 1 0 = 1) :
    exec (.eyeScanStart l v) s = .next ((s.setEyeCtrl l v).eyeAbort l) :=
  (if_neg (by simp [hOpen])).trans ((if_neg (by omega)).trans
    (if_pos (.inr ((State.setEyeCtrl_fld _ _ (by omega) _ _).trans hBusy))))

theorem exec_eyeScanStart_starts (hStart : getBits v 31 31 = 1) (hStop : getBits v 30 30 = 0)
    (hIdle : s.fld (laneOff l + 0x44) 1 0 ≠ 1) : exec (.eyeScanStart l v) s = .next (s.eyeStarted l v) := by
  have hNot : ¬ (getBits v 30 30 = 1 ∨ (s.setEyeCtrl l v).fld (laneOff l + 0x44) 1 0 = 1) := by
    rw [State.setEyeCtrl_fld _ _ (by omega)]
    omega
  exact (if_neg (by simp [hOpen])).trans ((if_neg (by omega)).trans (if_neg hNot))

theorem exec_eyeScanStop_ends (hStop : getBits v 30 30 = 1) :
    exec (.eyeScanStop l v) s = .next ((s.setEyeCtrl l v).eyeAbort l) := (if_neg (by simp [hOpen])).trans (if_pos hStop)

/-- A word without STOP, and one that finds no scan BUSY, set the scan's fields alone. -/
theorem exec_eyeScanStop_plain (h : getBits v 30 30 = 0 ∨ s.fld (laneOff l + 0x44) 1 0 ≠ 1) :
    exec (.eyeScanStop l v) s = .next (s.setEyeCtrl l v) := by
  by_cases hStop : getBits v 30 30 = 1
  · have hIdle : s.fld (laneOff l + 0x44) 1 0 ≠ 1 := h.resolve_left (by omega)
    rw [exec_eyeScanStop_ends hOpen hStop, State.eyeAbort_idle (by rwa [State.setEyeCtrl_fld _ _ (by omega)])]
  · exact (if_neg (by simp [hOpen])).trans (if_neg hStop)

end

/-- LANE_EYE_STATUS shows a scan that is whole (R366). -/
def State.eyeShown (s : State) (l : Nat) : State := (s.setFld (laneOff l + 0x44) 14 8 64).setFld (laneOff l + 0x44) 1 0 2

/-- A scan that is whole is DONE with its counts (R349). -/
def State.eyeWhole (s : State) (l : Nat) (counts : List Nat) : State :=
  (s.eyeShown l).setLane l { (s.lane l) with eye := (counts.take 4096).map (fun c => min c 0xFFFF) }

theorem exec_eyeScanDone_whole {l : Lane} {counts : List Nat} (h : s.fld (laneOff l + 0x44) 1 0 = 1) :
    exec (.eyeScanDone l counts) s = .next (s.eyeWhole l counts) := if_pos h

theorem State.eyeWhole_reg (l : Nat) (counts : List Nat) {o : Nat} (h : o ≠ laneOff l + 0x44) :
    (s.eyeWhole l counts).reg o = s.reg o :=
  (State.reg_moves State.setLane_moves (by decide) o).trans
    ((State.reg_setFld_ne _ _ _ _ _ _ h).trans (State.reg_setFld_ne _ _ _ _ _ _ h))

theorem State.eyeShown_status (l : Nat) :
    (s.eyeShown l).fld (laneOff l + 0x44) 1 0 = 2 ∧ (s.eyeShown l).fld (laneOff l + 0x44) 14 8 = 64 :=
  ⟨State.fld_setFld_same _ _ _ _ _ (by decide) (by decide),
    (State.fld_setFld_ne _ _ _ _ _ _ _ _ (by decide) (by decide) (by decide) (by decide)).trans
      (State.fld_setFld_same _ _ _ _ _ (by decide) (by decide))⟩

theorem State.eyeWhole_fld (l : Nat) (counts : List Nat) (o hi lo : Nat) :
    (s.eyeWhole l counts).fld o hi lo = (s.eyeShown l).fld o hi lo := State.fld_moves State.setLane_moves (by decide) _ _ _

theorem State.eyeWhole_moves (l : Nat) (counts : List Nat) : Moves [.regs, .lanes] s (s.eyeWhole l counts) :=
  .step State.setLane_moves (by decide) (.step State.setFld_moves (by decide) (State.setFld_moves.mono (by decide)))

/-! ### FEC windows (R346, R347, R365) -/

/-- A walk that counts at other offsets leaves a counter. -/
theorem State.foldl_count_ne {α : Type} {f g : α → Nat} {k : List α} {off : Nat} (h : ∀ a ∈ k, off ≠ f a) :
    (k.foldl (fun s a => s.count (f a) (g a)) s).counter off = s.counter off :=
  List.foldlRecOn (motive := fun t : State => t.counter off = s.counter off) _ _ rfl fun _ ht a ha =>
    ((State.counter_count _ _ _ _).trans (if_neg (h a ha))).trans ht

/-- The codewords of a window, and those that were not corrected, are counted on the port's first lane. -/
theorem State.countFec_counter (p : Nat) (hist : List Nat) (uncorr : Nat) (symbols : List Nat) :
    (s.countFec p hist uncorr symbols).counter (laneOff p + 0x100)
      = (s.counter (laneOff p + 0x100) + (sumNat hist + uncorr)) % 2 ^ 64 ∧
    (s.countFec p hist uncorr symbols).counter (laneOff p + 0x110) = (s.counter (laneOff p + 0x110) + uncorr) % 2 ^ 64 := by
  have hWalks {u : State} {n : Nat} {off : Nat} (hHist : ∀ b, off ≠ laneOff p + 0x180 + b * 8)
      (hLanes : ∀ i, off ≠ laneOff (p + i) + 0x118) :
      ((List.range n).foldl (fun s i => s.count (laneOff (p + i) + 0x118) (symbols.getD i 0))
        ((List.range 16).foldl (fun s b => s.count (laneOff p + 0x180 + b * 8) (hist.getD b 0)) u)).counter off
        = u.counter off :=
    (State.foldl_count_ne fun i _ => hLanes i).trans (State.foldl_count_ne fun b _ => hHist b)
  unfold State.countFec
  constructor
  · rw [hWalks (by omega) (by unfold laneOff; omega)]
    simp [State.counter_count]
  · rw [hWalks (by omega) (by unfold laneOff; omega)]
    simp [State.counter_count]

theorem State.judgeWindow_degrades {p c : Nat} (hMore : s.fld (laneOff p + 0x20) 23 0 < c)
    (hClear : s.bit (laneOff p + 4) 21 = false) :
    s.judgeWindow p c = (s.setBit (laneOff p + 4) 21 true).latchFault (macSource p) .n :=
  (if_pos hMore).trans (if_neg (by simp [hClear]))

theorem State.judgeWindow_recovers {p c : Nat} (hHalf : c ≤ s.fld (laneOff p + 0x20) 23 0 / 2) :
    s.judgeWindow p c = s.setBit (laneOff p + 4) 21 false :=
  (if_neg (by omega)).trans (if_pos hHalf)

section
variable {p : Port} {hist : List Nat} {uncorr : Nat} {symbols : List Nat}

theorem exec_fecWindow_whole (hUp : s.portState p = 5) (hWhole : sumNat (hist.take 16) + uncorr = s.fecWindow p) :
    exec (.fecDegradeWindow p hist uncorr symbols) s = .next ((s.countFec p (hist.take 16) uncorr symbols).judgeWindow p
      (sumNat (symbols.take (s.portLanes p)))) := if_neg (by simp [hUp, hWhole])

theorem exec_fecWindow_none (h : s.portState p ≠ 5 ∨ sumNat (hist.take 16) + uncorr ≠ s.fecWindow p) :
    exec (.fecDegradeWindow p hist uncorr symbols) s = .next s := if_pos (by simpa using h)

end

end Sys2Proof.Machine
end

section
/-! PROOFS. What a lane that trains, an eye scan and an FEC window do (R341, R343, R344, R347, R349, R350). -/

namespace Sys2Proof.Machine

variable {s : State}

theorem State.sendRequest_touches {t : State} {ps : List StatePart} (h : Moves ps s t)
    (hp : ps ⊆ [.regs, .emitted, .lanes]) (l : Nat) (q : BitVec 16) :
    OnlyTouches [.regs, .emitted, .lanes] s (t.sendRequest l q) :=
  (Moves.step State.sendRequest_moves (by decide) (h.mono hp)).only

/-- A class-N fault of the MAC of a port shows DEGRADED and leaves the counters of the port. -/
theorem State.fecFault (p : Port) :
    let t := (s.setBit (laneOff p + 4) 21 true).latchFault (macSource p) .n
    t.bit (laneOff p + 4) 21 = true ∧ t.portState p = s.portState p ∧
      (∀ k, k < 0x1000 → t.counter (laneOff p + k) = s.counter (laneOff p + k)) ∧ (t.source (macSource p)).ShowsN ∧
      (∀ x, x ≠ macSource p → t.source x = s.source x) ∧ t.chip = s.chip := by
  have hFrame : FaultFrame (s.setBit (laneOff p + 4) 21 true)
      ((s.setBit (laneOff p + 4) 21 true).latchFault (macSource p) .n) := State.latchFault_frame _ _ _ _ _ (by decide)
  refine ⟨(hFrame.bit faultRegister_lane 21).trans (State.bit_setBit_same _ _ _ _ (by decide)),
    (hFrame.fld faultRegister_lane 31 28).trans
      (State.fld_setFld_ne _ _ _ _ _ _ _ _ (by decide) (by decide) (by decide) (by decide)),
    fun k hk => (State.latchFault_n_counter _ _ _ _ ?_).trans (State.counter_moves State.setBit_moves (by decide) _),
    State.latchFault_n_shows _ _ _ _,
    fun x hx => ((State.latchFault_n_source _ _ _ _ x).trans (if_neg hx)).trans
      (State.source_moves State.setBit_moves (by decide) x),
    ((State.latchFault_n_halts _ _ _ _).same .chip (by decide)).trans (State.setBit_moves.same .chip (by decide))⟩
  unfold laneOff cChip
  omega

/-- Settles O50: the training exchange, the manual requests, the FEC windows and the eye scans, each by the state that its
command leaves; the taps read back what was written because the tap fields hold all that a request can lead to. -/
theorem lanesTrainAndScan : Obligations.LanesTrainAndScan := by
  unfold Obligations.LanesTrainAndScan
  refine ⟨?applies, ?holds, ?repeats, ?asksHold, ?asks, ?trained, ?manualIdle, ?manualWaits, ?manualRefused, ?manualNext,
    ?untrained, ?automatic, ?manualNone, ?scanEnded, ?scanFields, ?stopFields, ?scanNone, ?windowNone, ?degrades, ?recovers,
    ?scanStarts, ?stopEnds, ?scanDone⟩
  case applies =>
    exact fun l q s hTrain hFree => ⟨_, exec_trainingRequestRx_applies hTrain hFree, State.answered_taps,
      State.answered_held, State.answered_emitted, State.answered_shown, fun x hx => State.answered_others hx,
      State.answered_moves.only⟩
  case holds =>
    exact fun l q r s hTrain hHeld hHold => ⟨_, exec_trainingRequestRx_holds hTrain hHeld hHold,
      (State.taps_moves State.released_after (by decide) _).trans State.showRequest_taps, State.released_lane,
      State.released_emitted,
      State.released_moves.only⟩
  case repeats =>
    exact fun l q r s hTrain hHeld hOther => ⟨_, exec_trainingRequestRx_repeats hTrain hHeld hOther,
      (State.taps_moves State.emit_moves (by decide) _).trans State.showRequest_taps,
      State.repeated_moves.same .lanes (by decide), State.repeated_emitted, State.repeated_moves.only⟩
  case asksHold =>
    intro l r next s hTrain hWait hStatus
    obtain ⟨hWord, hHold⟩ := reqAction_hold (s.lane l).sent
    refine ⟨_, exec_trainingResponseRx_status hTrain hWait hStatus, ?_, ?_, (State.sendRequest_shown _ _).trans hWord,
      (State.sendRequest_response _ _).trans (State.showResponse_shown _ _),
      State.sendRequest_touches State.setFld_moves (by decide) _ _⟩
    · rw [State.sendRequest_lane]
    · rw [State.sendRequest_lane, hHold, if_pos rfl]
  case asks =>
    intro l r next s hTrain hWait hAnswered hAuto hAsks
    refine ⟨_, (exec_trainingResponseRx_notUpdated hTrain hWait hAnswered).trans (congrArg _
      (State.nextRequest_sends ((State.showResponse_manualMode _ _).trans hAuto) hAsks)), ?_, ?_, State.sendRequest_shown _ _,
      State.sendRequest_touches State.setFld_moves (by decide) _ _⟩
    · rw [State.sendRequest_lane]
    · rw [State.sendRequest_lane, if_neg hAsks]
  case trained =>
    intro l r next s hTrain hWait hAnswered hAuto hNone
    have hLane : (s.showResponse l r).lane l = s.lane l := State.lane_moves State.setFld_moves (by decide) l
    have hMoves : Moves [.regs, .lanes] s ((s.showResponse l r).setLane l
        { (s.showResponse l r).lane l with wait := .idle, trained := true }) :=
      .step State.setLane_moves (by decide) (State.setFld_moves.mono (by decide))
    exact ⟨_, (exec_trainingResponseRx_notUpdated hTrain hWait hAnswered).trans (congrArg _
      (State.nextRequest_trained ((State.showResponse_manualMode _ _).trans hAuto) hNone)),
      (State.lane_setLane_same _ _).trans (by rw [hLane]),
      (State.fld_moves State.setLane_moves (by decide) _ _ _).trans (State.showResponse_shown _ _),
      hMoves.same .emitted (by decide), hMoves.only⟩
  case manualIdle =>
    intro l v s hOpen hMode hManual hIdle
    refine ⟨_, (exec_manualRequest_manual hOpen hMode hManual).trans (congrArg _ (if_pos hIdle)), ?_,
      (State.sendRequest_shown _ _).trans (toNat_setWidth_word v), decide_eq_true ?_,
      State.sendRequest_touches State.setFld_moves (by decide) _ _⟩
    · rw [State.sendRequest_lane]
    · rw [State.fld_moves (State.sendRequest_after _ _) (by decide), State.manualShown, State.manual_setFld, hManual]
  case manualWaits =>
    intro l v s hOpen hMode hManual hBusy
    have hLane : (s.manualShown l v).lane l = s.lane l := State.lane_moves State.setFld_moves (by decide) l
    have hRecord := State.lane_setLane_same (s := (s.manualShown l v).setFld (laneOff l + 0x18) 15 0 (v.setWidth 16).toNat) l
      { (s.manualShown l v).lane l with manual := ((s.manualShown l v).lane l).manual ++ [v.setWidth 16] }
    refine ⟨_, (exec_manualRequest_manual hOpen hMode hManual).trans (congrArg _ (if_neg hBusy)),
      (congrArg LaneRec.manual hRecord).trans (by rw [hLane]), (congrArg LaneRec.sent hRecord).trans (by rw [hLane]), ?_,
      (Moves.step State.setLane_moves (by decide)
        (.step State.setFld_moves (by decide) (State.setFld_moves.mono (by decide)))).only⟩
    refine (State.fld_moves State.setLane_moves (by decide) _ _ _).trans
      ((State.fld_setFld_same _ _ _ _ _ (by decide) (by decide)).trans ?_)
    rw [toNat_setWidth_word]
    exact Nat.mod_eq_of_lt (getBits_lt v 15 0)
  case manualRefused =>
    intro l v s hOpen hMode hDiffers
    obtain ⟨hCause, hCls⟩ := State.refusedWrite_shows (s := s) (laneOff l + 0x18)
    exact ⟨_, exec_manualRequest_refused hOpen hMode hDiffers, (State.refusedWrite_n_moves _).same .lanes (by decide),
      hCause, hCls, State.refusedWrite_frame _⟩
  case manualNext =>
    intro l r next q rest s hTrain hWait hAnswered hManual hFirst
    refine ⟨_, (exec_trainingResponseRx_notUpdated hTrain hWait hAnswered).trans (congrArg _
      (State.nextRequest_manual ((State.showResponse_manualMode _ _).trans hManual) hFirst)), ?_, ?_,
      State.sendRequest_shown _ _, State.sendRequest_touches (ps := [.regs, .lanes])
        (.step State.setLane_moves (by decide) (State.setFld_moves.mono (by decide))) (by decide) _ _⟩
    · rw [State.sendRequest_lane]
    · rw [State.sendRequest_lane, State.lane_setLane_same]
  case untrained => exact fun l q r next s h => exec_training_none h
  case automatic =>
    intro l v s hOpen hMode hAuto
    refine ⟨_, exec_manualRequest_automatic hOpen hMode hAuto, decide_eq_false ?_, State.setFld_moves.same .lanes (by decide),
      State.setFld_moves.only⟩
    rw [State.fld_setFld_same _ _ _ _ _ (by decide) (by decide), hAuto]
    decide
  case manualNone => exact fun l v s hMode hSame => exec_manualRequest_none hMode hSame
  case scanEnded =>
    intro l v s hOpen hStart hBusy
    obtain ⟨hAborted, hCounts⟩ := State.eyeAbort_busy (s := s.setEyeCtrl l v)
      ((State.setEyeCtrl_fld l v (by omega) 1 0).trans hBusy)
    exact ⟨_, exec_eyeScanStart_ends hOpen hStart hBusy, hAborted, hCounts,
      (Moves.step State.eyeAbort_moves (by decide) (State.setEyeCtrl_moves.mono (by decide))).only⟩
  case scanFields =>
    exact fun l v s hOpen hStart => ⟨_, exec_eyeScanStart_plain hOpen hStart, State.reg_setReg_same _ _ _,
      fun o ho => State.reg_setReg_ne _ _ _ _ ho, State.setEyeCtrl_moves.only⟩
  case stopFields =>
    exact fun l v s hOpen h => ⟨_, exec_eyeScanStop_plain hOpen h, State.reg_setReg_same _ _ _,
      fun o ho => State.reg_setReg_ne _ _ _ _ ho, State.setEyeCtrl_moves.only⟩
  case scanNone => exact fun l counts s h => if_neg h
  case windowNone => exact fun p hist uncorr symbols s h => exec_fecWindow_none h
  case degrades =>
    intro p hist uncorr symbols s hUp hWhole hMore hClear
    have hCount := State.countFec_moves (s := s) (p := p.val) (hist := hist.take 16) (uncorr := uncorr) (symbols := symbols)
    obtain ⟨hWords, hBad⟩ := State.countFec_counter (s := s) p (hist.take 16) uncorr symbols
    rw [hWhole] at hWords
    obtain ⟨hFlag, hState, hCounters, ⟨hCause, hCls⟩, hOthers, hChip⟩ :=
      State.fecFault (s := s.countFec p (hist.take 16) uncorr symbols) p
    refine ⟨_, (exec_fecWindow_whole hUp hWhole).trans (congrArg _ (State.judgeWindow_degrades ?_ ?_)), hFlag,
      hState.trans ?_, (hCounters _ (by decide)).trans hWords, (hCounters _ (by decide)).trans hBad, hCause, hCls,
      fun x hx => (hOthers x hx).trans ?_,
      hChip.trans (hCount.same .chip (by decide))⟩
    · rwa [State.fld_moves hCount (by decide)]
    · rwa [State.bit_moves hCount (by decide)]
    · exact (State.fld_moves hCount (by decide) _ _ _).trans hUp
    · exact State.source_moves hCount (by decide) x
  case recovers =>
    intro p hist uncorr symbols s hUp hWhole hHalf
    have hCount := State.countFec_moves (s := s) (p := p.val) (hist := hist.take 16) (uncorr := uncorr) (symbols := symbols)
    obtain ⟨hWords, hBad⟩ := State.countFec_counter (s := s) p (hist.take 16) uncorr symbols
    rw [hWhole] at hWords
    refine ⟨_, (exec_fecWindow_whole hUp hWhole).trans (congrArg _ (State.judgeWindow_recovers ?_)),
      State.bit_setBit_same _ _ _ _ (by decide),
      (State.counter_moves State.setBit_moves (by decide) _).trans hWords,
      (State.counter_moves State.setBit_moves (by decide) _).trans hBad, fun o ho => ?_, ?_⟩
    · rwa [State.fld_moves hCount (by decide)]
    · exact (State.reg_setFld_ne _ _ _ _ _ _ ho).trans (State.reg_moves hCount (by decide) o)
    · exact (Moves.step State.setBit_moves (by decide) (hCount.mono (by decide))).only
  case scanStarts =>
    intro l v s hOpen hStart hStop hIdle
    refine ⟨_, exec_eyeScanStart_starts hOpen hStart hStop hIdle,
      (State.reg_moves State.setLane_moves (by decide) _).trans (State.reg_setReg_same _ _ _),
      congrArg LaneRec.eye (State.lane_setLane_same _ _), ?_,
      (Moves.step State.setLane_moves (by decide)
        (.step State.setReg_moves (by decide) (State.setEyeCtrl_moves.mono (by decide)))).only⟩
    exact (State.reg_moves State.setLane_moves (by decide) _).trans
      ((State.reg_setReg_ne _ _ _ _ (by omega)).trans (State.reg_setReg_same _ _ _))
  case stopEnds =>
    intro l v s hOpen hStop hBusy
    obtain ⟨hAborted, hCounts⟩ := State.eyeAbort_busy (s := s.setEyeCtrl l v)
      ((State.setEyeCtrl_fld l v (by omega) 1 0).trans hBusy)
    exact ⟨_, exec_eyeScanStop_ends hOpen hStop, hAborted, hCounts,
      (Moves.step State.eyeAbort_moves (by decide) (State.setEyeCtrl_moves.mono (by decide))).only⟩
  case scanDone =>
    intro l counts s hBusy
    obtain ⟨hDone, hColumns⟩ := State.eyeShown_status (s := s) l
    exact ⟨_, exec_eyeScanDone_whole hBusy, (State.eyeWhole_fld _ _ _ _ _).trans hDone,
      (State.eyeWhole_fld _ _ _ _ _).trans hColumns, State.lane_setLane_same _ _,
      fun o ho => State.eyeWhole_reg _ _ ho, (State.eyeWhole_moves l counts).only⟩

end Sys2Proof.Machine
end

section
/-! PROOFS. What every step holds: reset, the front command, and the frame of every command. -/

namespace Sys2Proof.Machine

/-- No command writes the queue. -/
theorem pending_not_mem_footprint (c : Instr) : .pending ∉ footprint c := by
  cases c <;> simp [footprint, reactParts]

theorem exec_keeps_pending (c : Instr) (s : State) : ∃ t, exec c s = .next t ∧ t.pending = s.pending := by
  obtain ⟨t, hNext, hMoves⟩ := exec_ends s c
  exact ⟨t, hNext, hMoves.only .pending (pending_not_mem_footprint c)⟩

/-- Settles O1: a step looks at the front of the queue and runs it. -/
theorem stepRunsTheFrontCommand : Obligations.StepRunsTheFrontCommand := by
  unfold Obligations.StepRunsTheFrontCommand
  exact fun _ _ => rfl

/-- Settles O3: every store is empty at reset, and no command waits. -/
theorem resetCanonical : Obligations.ResetCanonical := by
  unfold Obligations.ResetCanonical
  exact ⟨⟨rfl, rfl, rfl, rfl, rfl, rfl⟩, rfl⟩

/-- Settles O6: the law of each command's operation, and no footprint lists the queue. -/
theorem commandsKeepTheirFootprint : Obligations.CommandsKeepTheirFootprint := by
  unfold Obligations.CommandsKeepTheirFootprint
  intro c s
  obtain ⟨t, hNext, hMoves⟩ := exec_ends s c
  exact ⟨t, hNext, hMoves.only, hMoves.only .pending (pending_not_mem_footprint c)⟩

/-- Settles O7, by cases on the queue: an idle step by the law of the tick, a command by its frame. -/
theorem stepTakesOneCommand : Obligations.StepTakesOneCommand := by
  unfold Obligations.StepTakesOneCommand
  intro s
  cases hq : s.pending with
  | nil =>
    exact ⟨s.idle, by simp [step, hq], (State.idle_moves.only .pending (by decide)).trans hq⟩
  | cons c rest =>
    obtain ⟨t, hNext, hPending⟩ := exec_keeps_pending c { s with pending := rest }
    exact ⟨t, by simpa [step, hq] using hNext, hPending⟩

end Sys2Proof.Machine
end

section
/-! PROOFS. The part of a warm reset in which the blocks outside CHIP and FC are closed. -/

namespace Sys2Proof.Machine

variable {s : State}

theorem State.hostRead_closed {off : Nat} (h : s.closed off = true) : s.hostRead off = { s with readData := 0xFFFFFFFF } :=
  if_pos h

/-- Once the value is read, what follows writes registers, holding copies and the counts of the pier links alone. -/
theorem State.readPlain_moves_read (off : Nat) :
    Moves [.regs, .holding, .freeCount, .piers] { s with readData := s.readReg off } (s.readPlain off) := by
  have hRow : ∀ t : State, Moves [.regs] t
      (match regRow off with | none => t | some r => t.setReg off (clearRc r (t.reg off))) := by
    intro t
    cases regRow off with
    | none => exact .refl
    | some r => exact State.setReg_moves
  unfold State.readPlain
  refine .step (hRow _) (by decide) ?_
  have hStep : ∀ {c : Prop} [Decidable c] {ps : List StatePart} {u v : State}, ps ⊆ [.regs, .holding, .freeCount, .piers] →
      Moves ps u v → Moves [.regs, .holding, .freeCount, .piers] u (if c then v else u) :=
    fun hs h => .ite (h.mono hs) .refl
  refine Moves.trans (Moves.trans ?_ (hStep (by simp) State.setReg_moves)) (hStep (by simp) State.pierReadClear_moves)
  exact .ite (.holding (by simp) (Tbl.wf_put _ _ _ _) .refl) (hStep (by simp) State.capturePub_moves)

theorem State.readPlain_readData (off : Nat) : (s.readPlain off).readData = s.readReg off :=
  (State.readPlain_moves_read off).same .readData (by decide)

/-- An aligned read of an open register brings its value; it may clear RC fields after that (R12, R490). -/
theorem State.hostRead_open_readData {off : Nat} (h : s.closed off = false) (ha : off % 4 = 0) :
    (s.hostRead off).readData = s.readReg off := by
  have hAlign : off / 4 * 4 = off := by omega
  rw [State.hostRead, if_neg (by simp [h]), hAlign]
  exact State.readPlain_readData off

/-- Settles O9: in the closed part every access meets the guard of its block (`State.closed_sealed`), whose offset lies at
or above 0x20_0000; the registers below it are open (`State.closed_low`). -/
theorem closedRegistersAnswerNothing : Obligations.ClosedRegistersAnswerNothing := by
  unfold Obligations.ClosedRegistersAnswerNothing
  refine ⟨?write, ?readClear, ?pairLow, ?reads, ?writes, ?lower⟩
  case write => exact fun off v s hw h => ⟨s, congrArg Host.Outcome.next (if_pos (State.closed_sealed hw h)), rfl⟩
  case readClear => exact fun off s hw h => ⟨_, congrArg Host.Outcome.next (State.hostRead_closed
    (State.closed_sealed hw h)), rfl⟩
  case pairLow => exact fun off s hw h => ⟨_, congrArg Host.Outcome.next (State.hostRead_closed
    (State.closed_sealed hw h)), rfl⟩
  case reads =>
    intro off s hw h
    have hClosed : ∀ {o}, 0x200000 ≤ o → s.closed o = true := State.closed_sealed hw
    exact ⟨congrArg Host.Outcome.next (State.hostRead_closed (hClosed h)), if_pos (hClosed (by decide)),
      if_pos (hClosed (by decide)),
      if_pos (hClosed (by decide))⟩
  case writes =>
    intro v off l n w u sp t b r g x k z i s hw h
    have hClosed : ∀ {o}, 0x200000 ≤ o → s.closed o = true := State.closed_sealed hw
    have hFixed : ∀ {o}, 0x200000 ≤ o → (true && s.closed o) = true := fun ho => by rw [hClosed ho]; rfl
    have hLane : s.closed (laneOff l) = true := hClosed (by unfold laneOff; omega)
    have hPier : s.closed (pierOff n) = true := hClosed (by unfold pierOff; omega)
    have hSpare : s.closed (spareCtrl sp) = true := hClosed (by unfold spareCtrl; omega)
    have hTrestle : s.closed (trCtrl sp) = true := hClosed (by unfold trCtrl; omega)
    have hKind : s.closed (kindReg sp t) = true := hClosed (by unfold kindReg; omega)
    have hGuard : s.closed (guOff u) = true := hClosed (by unfold guOff; omega)
    have hSlot : s.closed (0x202000 + z.val * 0x20 + i.val * 4) = true := hClosed (by omega)
    exact ⟨if_pos (hClosed (by decide)), if_pos (hFixed (by decide)), if_pos (hClosed h), if_pos (hClosed (by decide)),
      if_pos (hClosed (by decide)), if_pos (hClosed (by decide)), exec_scanStart_closed u hGuard,
      exec_scanAbort_closed u hGuard, if_pos (hClosed (by decide)), if_pos (hClosed (by decide)),
      if_pos (hClosed (by decide)), if_pos hLane, if_pos hLane, if_pos hLane, if_pos hLane, if_pos hLane, if_pos hPier,
      if_pos (hClosed (by decide)), if_pos (hClosed (by decide)), if_pos (hClosed (by decide)), if_pos hSpare,
      if_pos (hClosed (by decide)), if_pos (hClosed (by decide)), if_pos (hClosed (by decide)),
      if_pos (hClosed (by decide)), if_pos (hClosed (by decide)), if_pos (hClosed (by decide)), if_pos (by simp [hSlot]),
      if_pos hTrestle, if_pos hTrestle, if_pos hTrestle, if_pos hKind, if_pos (hClosed (by decide)),
      if_pos (hClosed (by decide))⟩
  case lower => exact fun off s _ h ha => ⟨_, rfl, State.hostRead_open_readData (State.closed_low h) ha⟩

end Sys2Proof.Machine
end

section
/-! PROOFS. What a cold reset, the start that follows it and the choice of a bank write, and what they leave. -/

namespace Sys2Proof.Machine

variable {s t : State}

/-! ### The write buffer is programmed before a cold reset (R270, R487) -/

/-- The parts that the programming of the log writes: neither the flash, nor the fuses, nor the memory of the host. -/
def logParts : List StatePart :=
  [.regs, .counters, .emitted, .freeCount, .fc, .buf, .pierTx, .hq, .jrn]

theorem State.journalProgram_moves_log (ok : Bool) : Moves logParts s (s.journalProgram ok) := by
  by_cases hWaits : s.jrn.wbuf = [] ∨ s.slotBusy = true ∨ s.suspended = true
  · rw [State.journalProgram_waits ok hWaits]
    exact .refl
  · simp only [not_or, Bool.not_eq_true] at hWaits
    obtain ⟨hSome, hFree, hRuns⟩ := hWaits
    obtain ⟨r, rest, hHead⟩ := List.exists_cons_of_ne_nil hSome
    by_cases hFails : ok = false ∨ (s.injects (srcChip 0x11 1)).isSome = true
    · rw [State.journalProgram_fails hHead hFree hRuns hFails]
      exact .step State.slotFails_moves (by decide) (State.meetFiring_moves.mono (by decide))
    · simp only [not_or, Bool.not_eq_false, Option.not_isSome_iff_eq_none] at hFails
      obtain ⟨rfl, hNone⟩ := hFails
      rw [State.journalProgram_verified hHead hFree hRuns hNone]
      exact .step State.recordReached_moves (by decide) (State.logRecord_moves.mono (by decide))

theorem State.flushJournal_moves_log : Moves (.chip :: logParts) s s.flushJournal :=
  .fold (fun _ _ => (State.journalProgram_moves_log true).mono (by simp)) (.chip (by simp) .refl)

/-! ### The device after a cold reset (R487, R489) -/

/-- What a cold reset leaves: the device in OFF, its cause shown, every store at its reset value but the flash, the fused
owner key and the memory of the host. -/
structure ColdFrom (s : State) (cause : Nat) (t : State) : Prop where
  mode     : t.chip.mode = .off
  shown    : t.fld 0x10 3 0 = cause
  regs     : ∀ o, o ≠ 0x10 → t.reg o = resetWord o
  counters : t.counters = []
  holding  : t.holding = []
  buf      : t.buf = {}
  fc       : t.fc = {}
  wbuf     : t.jrn.wbuf = []
  boot     : t.boot = { flash := s.boot.flash, held := s.boot.held, noSupply := s.boot.noSupply, railsOut := s.boot.railsOut }
  owner    : t.progs.ownerHash = s.progs.ownerHash
  hostMem  : t.hostMem = s.hostMem

theorem ColdFrom.flash (h : ColdFrom s cause t) : t.boot.flash = s.boot.flash := by rw [h.boot]

theorem ColdFrom.held (h : ColdFrom s cause t) (o : Nat) : t.heldWord o = 0 := by
  rw [State.heldWord, h.holding]
  rfl

/-- The stores of the device after a cold reset, before the checkpoints of the log are read and the cause is shown. -/
def State.coldStores (s : State) (mode : DevState) : State :=
  { pending := s.pending
    readData := s.readData
    hostMem := s.hostMem
    emitted := s.emitted
    freeCount := s.freeCount
    chip := { mode := mode, strap0 := s.chip.strap0, badFuses := s.chip.badFuses }
    progs := { ownerHash := s.progs.ownerHash, ownerEn := s.progs.ownerEn, revoked0 := s.progs.revoked0,
               revoked1 := s.progs.revoked1, vk0 := s.progs.vk0, vk1 := s.progs.vk1 }
    jrn := { log := s.jrn.log, bad := s.jrn.bad, slot := s.jrn.slot, nextLsn := s.jrn.programmed,
             programmed := s.jrn.programmed }
    boot := { flash := s.boot.flash, held := s.boot.held, noSupply := s.boot.noSupply, railsOut := s.boot.railsOut } }

theorem State.coldReset_eq (cause : Nat) (mode : DevState) :
    s.coldReset cause mode = ((s.coldStores mode).readCheckpoints.setFld 0x10 3 0 cause).emit (.pin "ERR_D" true) := rfl

theorem State.coldReset_moves_stores (cause : Nat) (mode : DevState) :
    Moves [.regs, .emitted, .jrn] (s.coldStores mode) (s.coldReset cause mode) := by
  rw [State.coldReset_eq]
  exact .step State.emit_moves (by decide) (.step State.setFld_moves (by decide) (State.readCheckpoints_moves.mono (by decide)))

theorem State.coldReset_reg (cause : Nat) (mode : DevState) (o : Nat) :
    (s.coldReset cause mode).reg o = ((s.coldStores mode).setFld 0x10 3 0 cause).reg o := rfl

theorem State.coldReset_buf (cause : Nat) (mode : DevState) : (s.coldReset cause mode).buf = {} := rfl

theorem State.coldReset_wbuf (cause : Nat) (mode : DevState) : (s.coldReset cause mode).jrn.wbuf = [] := rfl

theorem State.coldReset_from {cause : Nat} (hc : cause < 16) : ColdFrom s cause (s.coldReset cause .off) := by
  have h : Moves [.regs, .emitted, .jrn] (s.coldStores .off) (s.coldReset cause .off) := State.coldReset_moves_stores _ _
  exact {
    mode := congrArg ChipState.mode (h.same .chip (by decide))
    shown := (State.fld_setFld_same (s.coldStores .off) 0x10 3 0 cause (by decide) (by decide)).trans (Nat.mod_eq_of_lt hc)
    regs := fun _ ho => State.reg_setFld_ne (s.coldStores .off) _ _ _ _ _ ho
    counters := h.same .counters (by decide)
    holding := h.same .holding (by decide)
    buf := State.coldReset_buf _ _
    fc := h.same .fc (by decide)
    wbuf := State.coldReset_wbuf _ _
    boot := h.same .boot (by decide)
    owner := (congrArg ProgState.ownerHash (h.same .progs (by decide)) :)
    hostMem := h.same .hostMem (by decide) }

/-- The flush that a cold request begins with leaves what the reset keeps. -/
theorem State.coldRequest_from {cause : Nat} (hc : cause < 16) : ColdFrom s cause (s.coldRequest cause) := by
  have h : ColdFrom s.flushJournal cause (s.coldRequest cause) := State.coldReset_from hc
  have hFlush : Moves (.chip :: logParts) s s.flushJournal := State.flushJournal_moves_log
  have hBoot : s.flushJournal.boot = s.boot := hFlush.same .boot (by decide)
  have hProgs : s.flushJournal.progs = s.progs := hFlush.same .progs (by decide)
  have hHost : s.flushJournal.hostMem = s.hostMem := hFlush.same .hostMem (by decide)
  exact { h with boot := hBoot ▸ h.boot, owner := hProgs ▸ h.owner, hostMem := hHost ▸ h.hostMem }

/-! ### The start (R485, R501, R502) -/

/-- The parts that a fault of the chip level writes, a class-S one among them. -/
def chipFaultParts : List StatePart := [.regs, .counters, .emitted, .freeCount, .fc, .buf, .pierTx]

/-- What the start leaves: the chip and the boot record, the registers but those of a fault and the CLAMPED bits, and every
fault that has been shown. -/
structure KeepsStart (s t : State) : Prop where
  moves : Moves chipFaultParts s t
  regs  : ∀ o, faultRegister o = false → o ≠ 0x1010 → t.reg o = s.reg o
  shown : ∀ x, (s.source x).cause = true → (t.source x).cause = true

theorem KeepsStart.refl : KeepsStart s s := ⟨.refl, fun _ _ _ => rfl, fun _ h => h⟩

theorem KeepsStart.trans {u : State} (h : KeepsStart s t) (k : KeepsStart t u) : KeepsStart s u :=
  ⟨h.moves.trans k.moves, fun o ho h' => (k.regs o ho h').trans (h.regs o ho h'), fun x hx => k.shown x (h.shown x hx)⟩

theorem State.flagClamp_keepsStart (k : Nat) (c : Bool) : KeepsStart s (s.flagClamp k c) where
  moves := by
    unfold State.flagClamp
    exact .ite (.step (State.latchFault_n_moves _ _ _ _ (by decide)) (by decide) (State.setBit_moves.mono (by decide))) .refl
  regs := fun _ hf h => State.flagClamp_reg k c hf h
  shown := by
    intro x hx
    unfold State.flagClamp
    split
    · rw [State.latchFault_n_source]
      split
      · rfl
      · exact hx
    · exact hx

theorem KeepsStart.fold {α : Type} {f : State → α → State} (h : ∀ s a, KeepsStart s (f s a)) (l : List α) :
    KeepsStart s (l.foldl f s) := by
  induction l generalizing s with
  | nil => exact .refl
  | cons a l ih => exact (h s a).trans ih

theorem State.calibrate_keepsStart : KeepsStart s s.calibrate :=
  ((KeepsStart.fold (fun s k => State.flagClamp_keepsStart k (s.calClamps k)) (List.range 4)).trans
    (State.flagClamp_keepsStart _ _)).trans (State.flagClamp_keepsStart _ _)

theorem State.fuseFault_keepsStart : KeepsStart s (s.latchFault (srcChip 0 2) .s) where
  moves := State.latchFault_s_moves _ _ _ _ (by decide) (by decide)
  regs := fun o ho _ => State.latchFault_frame _ _ _ _ _ (by decide) o ho
  shown := by
    intro x hx
    rw [State.latchFault_source _ _ _ _ _ _ (.inr (by decide)) (.inl (by decide))]
    split
    · rfl
    · exact hx

/-- START-UP begins, and the fuses are read. -/
def State.entersStartUp (s : State) : State := { s with chip := { s.chip with mode := .startUp } }

theorem State.startUp_keepsStart : KeepsStart s.entersStartUp s.startUp := by
  have hFuses : KeepsStart s.entersStartUp
      (if s.chip.badFuses ≠ 0 then s.entersStartUp.latchFault (srcChip 0 2) .s else s.entersStartUp) := by
    split
    · exact State.fuseFault_keepsStart
    · exact .refl
  exact hFuses.trans State.calibrate_keepsStart

theorem State.startUp_chip : s.startUp.chip = { s.chip with mode := .startUp } :=
  State.startUp_keepsStart.moves.same .chip (by decide)

theorem State.startUp_boot : s.startUp.boot = s.boot := State.startUp_keepsStart.moves.same .boot (by decide)

/-- An uncorrectable fuse latches CHIP element 2 (R502). -/
theorem State.startUp_fuses (h : s.chip.badFuses ≠ 0) : (s.startUp.source (srcChip 0 2)).cause = true := by
  have hStart : s.startUp = (s.entersStartUp.latchFault (srcChip 0 2) .s).calibrate :=
    congrArg State.calibrate (if_pos h)
  rw [hStart]
  exact State.calibrate_keepsStart.shown _ (State.latchFault_cause _ _ _ _ _ (.inr (by decide)) (.inl (by decide)))

/-! ### The choice of a bank (R494) -/

/-- The bank that the ROM boots by the governing record. -/
def Bcb.chosen (b : Bcb) : Nat := if b.trial < 2 then b.active else if b.pending < 2 then b.pending else b.active

theorem State.showBcb_boot : s.showBcb.boot = s.boot := State.showBcb_moves.same .boot (by decide)

theorem State.tryBank_boot (bank : Nat) (trial : Bool) :
    (s.tryBank bank trial).boot = { s.boot with bank := bank, trial := trial, starting := false } :=
  (State.setFld_moves.same .boot (by decide)).trans State.showBcb_boot

theorem State.tryBank_phase (bank : Nat) (trial : Bool) : (s.tryBank bank trial).bootPhase = 1 :=
  State.fld_setFld_same _ _ _ _ _ (by decide) (by decide)

/-- Whatever the governing record asks for, the ROM boots the bank that it names. -/
theorem State.chooseBank_tries : ∃ (u : State) (trial : Bool), s.chooseBank = u.tryBank s.bcb.chosen trial := by
  unfold State.chooseBank Bcb.chosen
  dsimp -proj only
  split
  · exact ⟨_, _, rfl⟩
  · split <;> exact ⟨_, _, rfl⟩

theorem State.chooseBank_spec :
    s.chooseBank.bootPhase = 1 ∧ s.chooseBank.boot.starting = false ∧ s.chooseBank.boot.bank = s.bcb.chosen := by
  obtain ⟨u, trial, h⟩ := s.chooseBank_tries
  rw [h, State.tryBank_boot]
  exact ⟨State.tryBank_phase _ _, rfl, rfl⟩

/-- The collector has passed its self-test: ERR_D reads 1/0, unless something else holds it. -/
def State.collectorPassed (s : State) : State :=
  let t := { s with fc := { s.fc with selfTest := true } }
  if t.errDActive then t else t.emit (.pin "ERR_D" false)

theorem State.collectorPassed_spec :
    s.collectorPassed.fc = { s.fc with selfTest := true } ∧ s.collectorPassed.boot = s.boot
      ∧ Moves [.emitted, .fc] s s.collectorPassed := by
  unfold State.collectorPassed
  dsimp -proj only
  split
  · exact ⟨rfl, rfl, .fc (by decide) .refl⟩
  · exact ⟨rfl, rfl, .emitted (by decide) (.fc (by decide) .refl)⟩

/-- What the record of the banks says goes by the flash alone. -/
theorem State.bcb_of_boot (h : t.boot = s.boot) : t.bcb = s.bcb := by
  simp only [State.bcb, State.governing, State.bcbPlaces, State.flashBytes, h]

end Sys2Proof.Machine
end

section
/-! PROOFS. The commands of the cold reset and of the start, by the state that they meet. -/

namespace Sys2Proof.Machine

variable {s : State}

theorem exec_selftestDone_passed (hm : s.chip.mode = .startUp) (hf : s.fc.selfTest = false) :
    exec (.collectorSelftestDone true) s = .next s.collectorPassed.chooseBank :=
  (if_neg (by simp [hm, hf])).trans (if_pos rfl)

theorem exec_selftestDone_failed (hm : s.chip.mode = .startUp) (hf : s.fc.selfTest = false) :
    exec (.collectorSelftestDone false) s = .next (s.enterSafe 0 0x0B) :=
  (if_neg (by simp [hm, hf])).trans (if_neg (by decide))

theorem exec_coldRequest {v : Word} (hKey : getBits v 31 16 = 0x5EA7) (hCold : getBits v 0 0 = 1) (hWarm : getBits v 1 1 = 0)
    (hSpan : getBits v 2 2 = 0) (hOff : s.chip.mode ≠ .off) : exec (.coldResetRequest v) s = .next (s.coldRequest 3) :=
  congrArg Host.Outcome.next
    ((if_neg hOff).trans ((if_neg (by simp [hKey, hCold, hWarm, hSpan])).trans (if_pos hCold)))

theorem exec_coldRequest_refused {v : Word} (h : getBits v 31 16 ≠ 0x5EA7 ∨ 1 < getBits v 0 0 + getBits v 1 1 + getBits v 2 2)
    (hOff : s.chip.mode ≠ .off) : exec (.coldResetRequest v) s = .next (s.refusedWrite 0xC) :=
  congrArg Host.Outcome.next ((if_neg hOff).trans (if_pos h))

/-- RESET_N is low. -/
def State.heldInReset (s : State) : State := { s with boot := { s.boot with held := true } }

theorem exec_resetNAssert_cold (hHeld : s.boot.held = false) (hSupply : s.boot.noSupply = false) :
    exec .resetNAssert s = .next (s.heldInReset.coldRequest 2) :=
  (if_neg (by simp [hHeld])).trans (if_neg (by simp [hSupply]))

theorem exec_resetNAssert_noSupply (hSupply : s.boot.noSupply = true) : exec .resetNAssert s = .next s.heldInReset := by
  by_cases hHeld : s.boot.held = true
  · rw [State.heldInReset, ← hHeld]
    exact if_pos hHeld
  · exact (if_neg hHeld).trans (if_pos hSupply)

/-- The supplies have come in. -/
def State.supplied (s : State) : State := { s with boot := { s.boot with noSupply := false, railsOut := [] } }

theorem exec_powerOn_held (hm : s.chip.mode = .off) (hp : s.noPower = true) (hHeld : s.boot.held = true) :
    exec .powerOn s = .next (s.supplied.coldReset 1 .off) := (if_neg (by simp [hm, hp])).trans (if_pos hHeld)

theorem exec_powerOn_starts (hm : s.chip.mode = .off) (hp : s.noPower = true) (hHeld : s.boot.held = false) :
    exec .powerOn s = .next (s.supplied.coldReset 1 .off).startUp :=
  (if_neg (by simp [hm, hp])).trans (if_neg (show ¬ s.boot.held = true by simp [hHeld]))

/-- RESET_N is high, and the straps and the fuses are read. -/
def State.sampled (s : State) (strap : Bool) (bad : BitVec 8) : State :=
  { s with boot := { s.boot with held := false }, chip := { s.chip with strap0 := strap, badFuses := bad } }

theorem exec_resetNRelease {strap : Bool} {bad : BitVec 8} (hm : s.chip.mode = .off) :
    exec (.resetNRelease strap bad) s
      = if s.noPower then .next (s.sampled strap bad) else .next (s.sampled strap bad).startUp := if_neg (by simp [hm])

/-- Settles O36: a cold reset by what `ColdFrom` says of it, a start by `KeepsStart`, the choice of a bank by the governing
record. -/
theorem coldStarts : Obligations.ColdStarts := by
  unfold Obligations.ColdStarts
  refine ⟨?cold, ?resetN, ?power, ?refused, ?noSupply, ?noPower, ?unfit, ?release, ?passed, ?failed⟩
  case cold =>
    intro v s hKey hCold hWarm hSpan hOff
    have h : ColdFrom s 3 (s.coldRequest 3) := State.coldRequest_from (by decide)
    exact ⟨_, exec_coldRequest hKey hCold hWarm hSpan hOff, h.mode, h.shown, h.regs, h.counters, h.holding, h.held, h.buf,
      h.fc, h.wbuf, h.flash, h.owner, h.hostMem⟩
  case resetN =>
    intro s hHeld hSupply
    have h : ColdFrom s.heldInReset 2 (s.heldInReset.coldRequest 2) := State.coldRequest_from (by decide)
    exact ⟨_, exec_resetNAssert_cold hHeld hSupply, h.mode, congrArg BootState.held h.boot, h.shown, h.regs, h.counters,
      h.holding, h.held, h.buf, h.fc, h.wbuf, h.flash, h.owner, h.hostMem⟩
  case power =>
    intro s hm hp
    have h : ColdFrom s.supplied 1 (s.supplied.coldReset 1 .off) := State.coldReset_from (by decide)
    cases hHeld : s.boot.held with
    | true =>
      exact ⟨_, exec_powerOn_held hm hp hHeld, h.mode, congrArg BootState.noSupply h.boot, h.shown, h.flash⟩
    | false =>
      have hBoot := (State.startUp_boot (s := s.supplied.coldReset 1 .off)).trans h.boot
      have hCause := State.startUp_keepsStart (s := s.supplied.coldReset 1 .off) |>.regs 0x10 (by decide) (by decide)
      exact ⟨_, exec_powerOn_starts hm hp hHeld, congrArg ChipState.mode State.startUp_chip,
        congrArg BootState.noSupply hBoot, (congrArg (getBits · 3 0) hCause).trans h.shown,
        (congrArg BootState.flash hBoot :)⟩
  case refused =>
    intro v s hKey hOff
    obtain ⟨hCause, hClass⟩ := State.refusedWrite_shows (s := s) 0xC
    refine ⟨_, exec_coldRequest_refused hKey hOff, State.refusedWrite_chip _, hCause, hClass, ?_, fun x hx => ?_,
      State.refusedWrite_frame _⟩
    · exact congrArg SourceRec.detail ((State.refusedWrite_source 0xC _).trans (if_pos rfl))
    · exact (State.refusedWrite_source 0xC x).trans (if_neg hx)
  case noSupply => exact fun s h => ⟨_, exec_resetNAssert_noSupply h, rfl⟩
  case noPower => exact fun strap bad s hm hp => ⟨_, (exec_resetNRelease hm).trans (if_pos hp), rfl⟩
  case unfit =>
    refine fun v strap b bad s => ⟨fun h => ?_, fun h => if_pos h, fun h => if_pos ?_, fun h => if_pos h, fun h => if_pos h⟩
    · exact congrArg Host.Outcome.next (if_pos h)
    · simpa using h
  case release =>
    intro strap bad s hm hp
    exact ⟨_, (exec_resetNRelease hm).trans (if_neg (by simp [hp])), State.startUp_chip, State.startUp_boot,
      fun hb => State.startUp_fuses hb⟩
  case passed =>
    intro s hm hf
    obtain ⟨hFc, hBoot, hMoves⟩ := s.collectorPassed_spec
    obtain ⟨hPhase, hStarting, hBank⟩ := s.collectorPassed.chooseBank_spec
    have hChoose : Moves [.regs, .boot] s.collectorPassed s.collectorPassed.chooseBank := State.chooseBank_moves
    rw [State.bcb_of_boot hBoot] at hBank
    exact ⟨_, exec_selftestDone_passed hm hf, (hChoose.same .fc (by decide)).trans hFc, hPhase, hStarting, hBank,
      (Moves.step hChoose (by decide) (hMoves.mono (by decide))).only⟩
  case failed =>
    exact fun s hm hf => ⟨_, exec_selftestDone_failed hm hf, State.enterSafe_mode _ _ (by simp [hm])⟩

end Sys2Proof.Machine
end

section
/-! PROOFS. The regulator's alert (R470): CLEAR_FAULTS can be the transaction that ends the PMBus cap, and then the target
that was held is sent after it. -/

namespace Sys2Proof.Machine

/-- The PMBus cap is in force after one good transaction, and the target held lies below the window of the point in use. The
fuse of the VCORE window is uncorrectable, so the window is the conservative one (R502). -/
def State.targetHeld : State :=
  { State.reset with
    chip := { State.reset.chip with badFuses := 1 }
    pwr := { State.reset.pwr with pmbus := some 0, pmbusOk := 1, target25 := 0 } }

/-- Refutes O39: the statement wants CLEAR_FAULTS to be the last thing that an alert puts out. Where it is the third good
transaction in a row it ends the PMBus cap, and VOUT_COMMAND with the target in the window of the point follows it. -/
theorem not_holdUpAndVoltage : ¬ Obligations.HoldUpAndVoltage := by
  unfold Obligations.HoldUpAndVoltage
  rintro ⟨-, -, -, -, -, -, -, -, -, -, -, hAlert⟩
  have hTarget : ∀ t, exec (.pmbAlert 0) State.targetHeld = .next t →
      t.emitted.head? ≠ some (.pmbus (State.targetHeld.fld 0x300018 6 0) 0x03 0) := by
    intro t e
    obtain rfl := Host.Outcome.next.inj e
    decide +kernel
  obtain ⟨t, e, -, -, -, -, -, hLast⟩ := hAlert 0 State.targetHeld
  exact hTarget t e hLast

end Sys2Proof.Machine
end

section
/-! PROOFS. The keystone pairs: frame windows, traps and interrupts of Koltan-C, and the failure of a pair (R406 to R414). -/

namespace Sys2Proof.Machine

variable {s t u : State} {p : Fin 2} {x : KcPair}

/-! ### The record of a pair -/

theorem State.kc_setKc (p q : Fin 2) : (s.setKc p x).kc q = if q = p then x else s.kc q := by
  match p, q with
  | 0, 0 => rfl
  | 0, 1 => rfl
  | 1, 0 => rfl
  | 1, 1 => rfl

@[simp] theorem State.kc_setKc_same (p : Fin 2) : (s.setKc p x).kc p = x := (State.kc_setKc p p).trans (if_pos rfl)

theorem State.setKc_setKc (p : Fin 2) (y : KcPair) : (s.setKc p x).setKc p y = s.setKc p y := by
  match p with
  | 0 => rfl
  | 1 => rfl

theorem State.setKc_puts (p : Fin 2) (x : KcPair) :
    (s.setKc p x).kc p = x ∧ (∀ q : Fin 2, q ≠ p → (s.setKc p x).kc q = s.kc q) ∧ OnlyTouches [.ks] s (s.setKc p x) :=
  ⟨State.kc_setKc_same p, fun q hq => (State.kc_setKc p q).trans (if_neg hq), State.setKc_moves.only⟩

theorem State.setKc_kcRuns (p : Fin 2) (q : Nat) : (s.setKc p x).kcRuns q = s.kcRuns q := by
  have h : (s.setKc p x).ksState q = s.ksState q := State.fld_moves State.setKc_moves (by decide) _ _ _
  rw [State.kcRuns, h]
  rfl

/-! ### Failure of a pair (R406, R407, R424) -/

theorem chipBlock_pair (p : Fin 2) {elem : Nat} (h : elem < 64) : srcChip (0x0F + p) elem / 0x40 % 64 = 0x2F + p := by
  simp only [srcChip]
  omega

theorem pipeOfSource_pair (p : Fin 2) {elem : Nat} (h : elem < 64) : pipeOfSource (srcChip (0x0F + p) elem) = none := by
  simp only [pipeOfSource, chipBlock_pair p h]
  rw [if_neg (by omega), if_neg (by omega)]

theorem srcChip_le (b e : Nat) : 0xF800 ≤ srcChip b e := by simp only [srcChip]; omega

/-- The address of KS_HALT_p (R424). -/
def haltOff (p : Nat) : Nat := 0x700010 + p * 0x10

theorem faultRegister_haltOff (p : Fin 2) : faultRegister (haltOff p) = false := by
  match p with
  | 0 => decide
  | 1 => decide

/-- The first word of the dump of a pair (R424). -/
def KcPair.haltInfo (x : KcPair) (c : Nat) (double mismatch watchdog : Bool) : Nat :=
  c % 256 * 2 ^ 24 + double.toNat * 2 ^ 23 + mismatch.toNat * 2 ^ 22 + watchdog.toNat * 2 ^ 21
    + x.tactive.toNat * 2 ^ 20 + x.wsel % 16 * 2 ^ 16 + x.depth % 16 * 2 ^ 12 + x.spillFull.toNat * 2 ^ 11

theorem State.reg_haltDump (c : Nat) (double mismatch watchdog : Bool) :
    (s.haltDump p c double mismatch watchdog).reg (haltOff p)
      = BitVec.ofNat 32 ((s.kc p).haltInfo c double mismatch watchdog) := by
  simp only [State.haltDump, haltOff]
  simp (disch := omega) only [State.reg_setReg_ne, State.reg_setReg_same]
  rfl

theorem State.reg_haltDump_ne (c : Nat) (double mismatch watchdog : Bool) {o : Nat} (ho : o < 0x700010) :
    (s.haltDump p c double mismatch watchdog).reg o = s.reg o := by
  simp only [State.haltDump]
  simp (disch := omega) only [State.reg_setReg_ne]

theorem KcPair.haltInfo_ecause (c : Nat) (double mismatch watchdog : Bool) :
    getBits (BitVec.ofNat 32 (x.haltInfo c double mismatch watchdog)) 31 24 = c % 256 := by
  have := double.toNat_le
  have := mismatch.toNat_le
  have := watchdog.toNat_le
  have := x.tactive.toNat_le
  have := x.spillFull.toNat_le
  simp only [getBits, BitVec.toNat_ofNat, KcPair.haltInfo]
  omega

theorem KcPair.haltInfo_double (c : Nat) (double mismatch watchdog : Bool) :
    getBits (BitVec.ofNat 32 (x.haltInfo c double mismatch watchdog)) 23 23 = double.toNat := by
  have := double.toNat_le
  have := mismatch.toNat_le
  have := watchdog.toNat_le
  have := x.tactive.toNat_le
  have := x.spillFull.toNat_le
  simp only [getBits, BitVec.toNat_ofNat, KcPair.haltInfo]
  omega

theorem KcPair.haltInfo_mismatch (c : Nat) (double mismatch watchdog : Bool) :
    getBits (BitVec.ofNat 32 (x.haltInfo c double mismatch watchdog)) 22 22 = mismatch.toNat := by
  have := mismatch.toNat_le
  have := watchdog.toNat_le
  have := x.tactive.toNat_le
  have := x.spillFull.toNat_le
  simp only [getBits, BitVec.toNat_ofNat, KcPair.haltInfo]
  omega

theorem KcPair.haltInfo_watchdog (c : Nat) (double mismatch watchdog : Bool) :
    getBits (BitVec.ofNat 32 (x.haltInfo c double mismatch watchdog)) 21 21 = watchdog.toNat := by
  have := watchdog.toNat_le
  have := x.tactive.toNat_le
  have := x.spillFull.toNat_le
  simp only [getBits, BitVec.toNat_ofNat, KcPair.haltInfo]
  omega

/-- The pair is halted and fenced, with its dump latched; no fault is raised yet. -/
def State.pairHalted (s : State) (p : Fin 2) (c : Nat) (double mismatch watchdog : Bool) : State :=
  ((s.haltDump p c double mismatch watchdog).setKsState p 2).fence (partyPair p)

theorem State.pairHalted_moves {c : Nat} {double mismatch watchdog : Bool} :
    Moves [.regs, .fc] s (s.pairHalted p c double mismatch watchdog) :=
  .step State.fence_moves (by decide) (.step State.setKsState_moves (by decide) (State.haltDump_moves.mono (by decide)))

theorem State.setKsState_2 (p : Nat) : s.setKsState p 2 = s.setFld 0x700000 (3 * p + 2) (3 * p) 2 := rfl

theorem State.pairHalted_reg (c : Nat) (double mismatch watchdog : Bool) :
    (s.pairHalted p c double mismatch watchdog).reg (haltOff p)
      = BitVec.ofNat 32 ((s.kc p).haltInfo c double mismatch watchdog) := by
  rw [State.pairHalted, State.reg_moves State.fence_moves (by decide), State.setKsState_2,
    State.reg_setFld_ne _ _ _ _ _ _ (by simp only [haltOff]; omega), State.reg_haltDump]

theorem State.pairHalted_ksState (c : Nat) (double mismatch watchdog : Bool) :
    (s.pairHalted p c double mismatch watchdog).ksState p = 2 := by
  rw [State.ksState, State.pairHalted, State.fld_moves State.fence_moves (by decide), State.setKsState_2,
    State.fld_setFld_same _ _ _ _ _ (by omega) (by omega), show 3 * p.val + 2 - 3 * p + 1 = 3 by omega]
  rfl

theorem State.fenced_fence (party : Nat) : (s.fence party).fenced party = true :=
  List.contains_iff_mem.mpr (mem_addOnce _ _)

theorem State.pairHalted_source (c : Nat) (double mismatch watchdog : Bool) (y : Nat) :
    (s.pairHalted p c double mismatch watchdog).source y = s.source y := by
  rw [State.pairHalted, State.fence_source, State.setKsState_2, State.source_moves State.setFld_moves (by decide),
    State.source_moves State.haltDump_moves (by decide)]

theorem State.pairHalted_chip (c : Nat) (double mismatch watchdog : Bool) :
    (s.pairHalted p c double mismatch watchdog).chip = s.chip :=
  State.pairHalted_moves.same .chip (by decide)

theorem State.pairFails_eq {elem c : Nat} {double mismatch watchdog : Bool} (h : s.kcRuns p = true) :
    s.pairFails p elem c double mismatch watchdog
      = (s.pairHalted p c double mismatch watchdog).latchFault (srcChip (0x0F + p) elem)
          (if s.kcRuns (1 - p) then .s else .d) (c % 256 + (s.kc p).pc.toNat % 2 ^ 56 * 2 ^ 8) := by
  unfold State.pairFails
  rw [h]
  rfl

theorem State.pairFails_stopped {elem c : Nat} {double mismatch watchdog : Bool} (h : s.kcRuns p = false) :
    s.pairFails p elem c double mismatch watchdog = s := by
  unfold State.pairFails
  rw [h]
  rfl

/-- A pair has failed while the other runs (R406): it is halted and fenced, its dump is latched, and class S stands against
an element of it. -/
structure PairFailed (p : Fin 2) (elem c : Nat) (double mismatch watchdog : Bool) (s t : State) : Prop where
  halted : t.ksState p = 2
  fenced : t.fenced (partyPair p) = true
  cause : (t.source (srcChip (0x0F + p) elem)).cause = true
  cls : (t.source (srcChip (0x0F + p) elem)).cls = .s
  others : ∀ y, y ≠ srcChip (0x0F + p) elem → t.source y = s.source y
  ecause : t.fld (haltOff p) 31 24 = c % 256
  double : t.bit (haltOff p) 23 = double
  mismatch : t.bit (haltOff p) 22 = mismatch
  watchdog : t.bit (haltOff p) 21 = watchdog
  chip : t.chip = s.chip

theorem State.react_s_fences (src : Nat) (hp : pipeOfSource src = none) : (s.react src .s).fc.fences = s.fc.fences := by
  unfold State.react
  rw [hp]
  dsimp -proj only
  split
  · rfl
  · split
    · rfl
    · have hFc : (s.raiseErrS.pierPropagate src .s).fc = s.raiseErrS.fc := State.pierPropagate_moves.same .fc (by decide)
      rw [hFc]
      rfl

theorem State.decideFault_s_fences (src : Nat) (hp : pipeOfSource src = none) :
    (s.decideFault src .s).fc.fences = s.fc.fences := by
  unfold State.decideFault
  split
  · exact State.react_s_fences _ hp
  · rfl

/-- A class-S fault of no pipeline fences nothing (R451). -/
theorem State.latchFault_s_fences (src detail : Nat) (live threshold : Bool) (hp : pipeOfSource src = none) :
    (s.latchFault src .s detail live threshold).fc.fences = s.fc.fences := by
  have hLatch (b c : Bool) :
      (((s.setReacting b).latchCore src .s detail live threshold c).haltFor src).fc.fences = s.fc.fences := by
    obtain ⟨l, hFc⟩ := State.latchCore_fc (s := s.setReacting b) src .s detail live threshold c
    rw [State.haltFor_moves.same .fc (by decide), hFc]
    rfl
  unfold State.latchFault
  dsimp -proj only
  split
  · exact hLatch _ _
  · exact (State.decideFault_s_fences _ hp).trans (hLatch _ _)

theorem State.pairFails_fails {elem c : Nat} {double mismatch watchdog : Bool} (he : elem < 64) (h : s.kcRuns p = true)
    (ho : s.kcRuns (1 - p.val) = true) :
    PairFailed p elem c double mismatch watchdog s (s.pairFails p elem c double mismatch watchdog) := by
  rw [State.pairFails_eq h, ho, if_pos rfl]
  have hPipe := pipeOfSource_pair p he
  have hFrame := State.latchFault_frame (s := s.pairHalted p c double mismatch watchdog) (srcChip (0x0F + p) elem) .s
    (c % 256 + (s.kc p).pc.toNat % 2 ^ 56 * 2 ^ 8) false false (by decide)
  have hShows := State.latchFault_s_shows (s := s.pairHalted p c double mismatch watchdog) (srcChip (0x0F + p) elem)
    (c % 256 + (s.kc p).pc.toNat % 2 ^ 56 * 2 ^ 8) false false
  have hBit (i : Nat) (b : Bool) (e : getBits (BitVec.ofNat 32 ((s.kc p).haltInfo c double mismatch watchdog)) i i = b.toNat) :
      (s.pairHalted p c double mismatch watchdog).bit (haltOff p) i = b := by
    rw [State.bit_eq_fld, State.fld, State.pairHalted_reg, e]
    cases b <;> rfl
  exact {
    halted := (hFrame.fld (by decide) _ _).trans (State.pairHalted_ksState _ _ _ _)
    fenced := (congrArg (fun l => List.contains l (partyPair p)) (State.latchFault_s_fences _ _ _ _ hPipe)).trans
      (State.fenced_fence _)
    cause := hShows.1
    cls := hShows.2
    others := fun y hy => by
      rw [State.latchFault_source _ _ _ _ _ _ (.inr (by decide)) (.inl hPipe), if_neg hy, State.pairHalted_source]
    ecause := by rw [hFrame.fld (faultRegister_haltOff p), State.fld, State.pairHalted_reg, KcPair.haltInfo_ecause]
    double := (hFrame.bit (faultRegister_haltOff p) _).trans (hBit _ _ (KcPair.haltInfo_double _ _ _ _))
    mismatch := (hFrame.bit (faultRegister_haltOff p) _).trans (hBit _ _ (KcPair.haltInfo_mismatch _ _ _ _))
    watchdog := (hFrame.bit (faultRegister_haltOff p) _).trans (hBit _ _ (KcPair.haltInfo_watchdog _ _ _ _))
    chip := ((State.latchFault_s_moves _ _ _ _ (srcChip_le _ _) hPipe).same .chip (by decide)).trans
      (State.pairHalted_chip _ _ _ _) }

/-! ### Traps and interrupts (R411 to R414) -/

/-- A pair that has trapped: pc and cause are saved, and the handler of the vector starts. -/
def KcPair.trapped (x : KcPair) (c : Nat) : KcPair :=
  { x with epc := x.pc, ecause := BitVec.ofNat 8 c, tactive := true, pc := Config.kcVector (BitVec.ofNat 8 c) }

theorem State.kcTrap_first (c : Nat) (h : (s.kc p).tactive = false) : s.kcTrap p c = s.setKc p ((s.kc p).trapped c) := by
  exact if_neg (by simp [h])

/-- A trap inside a handler is a double fault (R411, R412). -/
theorem State.kcTrap_double (c : Nat) (h : (s.kc p).tactive = true) : s.kcTrap p c = s.pairFails p 1 c true false false := by
  exact if_pos h

theorem State.kcTrap_fails (c : Nat) (h : (s.kc p).tactive = true)
    (hRuns : s.kcRuns p = true) (hOther : s.kcRuns (1 - p.val) = true) :
    PairFailed p 1 c true false false s (s.kcTrap p c) := by
  rw [State.kcTrap_double c h]
  exact State.pairFails_fails (by decide) hRuns hOther

theorem KcPair.interrupt_some {i : Nat} (h : x.interrupt = some i) : x.tactive = false := by
  unfold KcPair.interrupt at h
  cases hActive : x.tactive with
  | false => rfl
  | true => simp [hActive] at h

/-- An interrupt has been taken (R414): its line is no longer pending, and its handler starts. -/
structure TakesInterrupt (p : Fin 2) (i : Nat) (s t : State) : Prop where
  epc : (t.kc p).epc = (s.kc p).pc
  ecause : (t.kc p).ecause = BitVec.ofNat 8 (0x40 + i)
  active : (t.kc p).tactive = true
  vector : (t.kc p).pc = Config.kcVector (BitVec.ofNat 8 (0x40 + i))
  line : (t.kc p).irq.getLsbD i = false
  others : ∀ q : Fin 2, q ≠ p → t.kc q = s.kc q
  touches : OnlyTouches [.ks] s t

theorem clear_line (w : DWord) (i : Nat) : (w &&& ~~~(1#64 <<< i)).getLsbD i = false := by
  by_cases h : i < 64
  · simp [h]
  · exact BitVec.getLsbD_of_ge _ _ (by omega)

theorem State.kcTakeInterrupt_none (h : (s.kc p).interrupt = none) : s.kcTakeInterrupt p = s := by
  simp only [State.kcTakeInterrupt, h]

theorem State.kcTakeInterrupt_some {i : Nat} (h : (s.kc p).interrupt = some i) : s.kcTakeInterrupt p
    = s.setKc p (({ s.kc p with irq := (s.kc p).irq &&& ~~~(1#64 <<< i) } : KcPair).trapped (0x40 + i)) := by
  have hFirst : ((s.setKc p { s.kc p with irq := (s.kc p).irq &&& ~~~(1#64 <<< i) }).kc p).tactive = false := by
    rw [State.kc_setKc_same]
    exact KcPair.interrupt_some (x := s.kc p) h
  simp only [State.kcTakeInterrupt, h]
  rw [State.kcTrap_first _ hFirst, State.setKc_setKc, State.kc_setKc_same]

theorem State.kcTakeInterrupt_takes {i : Nat} (h : (s.kc p).interrupt = some i) :
    TakesInterrupt p i s (s.kcTakeInterrupt p) := by
  rw [State.kcTakeInterrupt_some h]
  obtain ⟨hPair, hOthers, hTouches⟩ := State.setKc_puts (s := s) p
    (({ s.kc p with irq := (s.kc p).irq &&& ~~~(1#64 <<< i) } : KcPair).trapped (0x40 + i))
  constructor
  case others => exact hOthers
  case touches => exact hTouches
  all_goals rw [hPair]
  case line => exact clear_line _ _
  all_goals rfl

theorem State.setKc_takesNone (h : x.interrupt = none) : (s.setKc p x).kcTakeInterrupt p = s.setKc p x :=
  State.kcTakeInterrupt_none (by rwa [State.kc_setKc_same])

/-- An interrupt is taken by a pair whose record has been written first. -/
theorem State.setKc_takes {i : Nat} (h : x.interrupt = some i) :
    ((s.setKc p x).kcTakeInterrupt p |>.kc p).epc = x.pc ∧
      TakesInterrupt p i (s.setKc p x) ((s.setKc p x).kcTakeInterrupt p) ∧
      (∀ q : Fin 2, q ≠ p → ((s.setKc p x).kcTakeInterrupt p).kc q = s.kc q) ∧
      OnlyTouches [.ks] s ((s.setKc p x).kcTakeInterrupt p) := by
  have hTakes : TakesInterrupt p i (s.setKc p x) ((s.setKc p x).kcTakeInterrupt p) :=
    State.kcTakeInterrupt_takes (by rwa [State.kc_setKc_same])
  obtain ⟨-, hOthers, hTouches⟩ := State.setKc_puts (s := s) p x
  exact ⟨hTakes.epc.trans (congrArg KcPair.pc (State.kc_setKc_same p)), hTakes,
    fun q hq => (hTakes.others q hq).trans (hOthers q hq),
    fun q hq => StatePart.same_trans (hTouches q hq) (hTakes.touches q hq)⟩

/-! ### Windows in memory (R410) -/

theorem KcPair.h_setH (w h v w' h') (hh : h < 16) (hh' : h' < 16) :
    (x.setH w h v).h w' h' = if w' = w ∧ h' = h then v else x.h w' h' := by
  have hKey : w' * 16 + h' = w * 16 + h ↔ w' = w ∧ h' = h := by omega
  simp only [KcPair.h, KcPair.setH, Tbl.get_put, hKey]

/-- Registers of a window read from memory, one after the other. -/
theorem KcPair.h_foldl_setH (w : Nat) (f : Nat → DWord) (l : List Nat) (hl : ∀ i ∈ l, i < 16) (w' h' : Nat) (hh : h' < 16) :
    (l.foldl (fun y i => y.setH w i (f i)) x).h w' h' = if w' = w ∧ h' ∈ l then f h' else x.h w' h' := by
  induction l generalizing x with
  | nil => simp
  | cons i l ih =>
    obtain ⟨hi, hRest⟩ := List.forall_mem_cons.mp hl
    rw [List.foldl_cons, ih hRest, KcPair.h_setH _ _ _ _ _ hi hh]
    by_cases hw : w' = w <;> by_cases hm : h' ∈ l <;> by_cases he : h' = i <;> simp [hw, hm, he]

theorem KcPair.foldl_setH (w : Nat) (f : Nat → DWord) (l : List Nat) :
    ∃ win, l.foldl (fun y i => y.setH w i (f i)) x = { x with win := win } := by
  induction l generalizing x with
  | nil => exact ⟨_, rfl⟩
  | cons i l ih =>
    obtain ⟨win, h⟩ := ih (x := x.setH w i (f i))
    exact ⟨win, h⟩

theorem putBytes_get (m : Tbl Byte) (a : Nat) (bs : List Byte) (k : Nat) :
    Tbl.get kcByteDefault (putBytes m a bs) k =
      if a ≤ k ∧ k < a + bs.length then bs[k - a]?.getD 0 else Tbl.get kcByteDefault m k := by
  induction bs generalizing m a with
  | nil =>
    rw [putBytes, if_neg (by simp only [List.length_nil]; omega)]
  | cons b t ih =>
    rw [putBytes, ih, Tbl.get_put, List.length_cons]
    rcases Nat.lt_trichotomy k a with h | h | h
    · rw [if_neg (by omega), if_neg (by omega), if_neg (by omega)]
    · rw [if_neg (by omega), if_pos h, if_pos (by omega), h, Nat.sub_self, List.getElem?_cons_zero, Option.getD_some]
    · rw [show k - a = k - (a + 1) + 1 by omega, List.getElem?_cons_succ]
      by_cases hIn : k < a + 1 + t.length
      · rw [if_pos (by omega), if_pos (by omega)]
      · rw [if_neg (by omega), if_neg (by omega), if_neg (by omega)]

theorem leNat_leBytes (n v : Nat) : leNat (leBytes n v) = v % 256 ^ n := by
  induction n generalizing v with
  | zero => simp [leBytes, leNat, Nat.mod_one]
  | succ n ih =>
    rw [leBytes, leNat, ih, BitVec.toNat_ofNat, show 256 ^ (n + 1) = 256 * 256 ^ n from Nat.pow_succ']
    exact Nat.mod_mul.symm

/-- Where the pieces of a list have one length, a piece is found by its number. -/
theorem getElem?_flatMap_of_length {α β : Type} (f : α → List β) (n : Nat) (l : List α)
    (hf : ∀ a ∈ l, (f a).length = n) (i k : Nat) (hk : k < n) :
    (l.flatMap f)[n * i + k]? = l[i]?.bind (fun a => (f a)[k]?) := by
  induction l generalizing i with
  | nil => rfl
  | cons a l ih =>
    obtain ⟨ha, hRest⟩ := List.forall_mem_cons.mp hf
    rw [List.flatMap_cons]
    cases i with
    | zero => rw [Nat.mul_zero, Nat.zero_add, List.getElem?_append_left (by omega)]; rfl
    | succ i =>
      rw [List.getElem?_append_right (by rw [ha, Nat.mul_succ]; omega), ha,
        show n * (i + 1) + k - n = n * i + k by rw [Nat.mul_succ]; omega, ih hRest, List.getElem?_cons_succ]

theorem KcPair.windowBytes_get (w : Nat) {i k : Nat} (hi : i < 16) (hk : k < 8) :
    (x.windowBytes w)[8 * i + k]? = (leBytes 8 (x.h w i).toNat)[k]? := by
  rw [KcPair.windowBytes, getElem?_flatMap_of_length _ 8 _ (fun _ _ => length_leBytes _ _) _ _ hk,
    List.getElem?_range hi]
  rfl

theorem KcPair.length_windowBytes (w : Nat) : (x.windowBytes w).length = 128 := by
  simp only [KcPair.windowBytes, List.length_flatMap, length_leBytes]
  rfl

/-- A window written to memory reads back there. -/
theorem KcPair.saved_putBytes (w a : Nat) {i : Nat} (hi : i < 16) :
    ({ x with mem := putBytes x.mem a (x.windowBytes w) } : KcPair).saved a i = x.h w i := by
  have hByte (k : Nat) (hk : k < 8) : Tbl.get kcByteDefault (putBytes x.mem a (x.windowBytes w)) (a + 8 * i + k)
      = (leBytes 8 (x.h w i).toNat)[k]?.getD 0 := by
    rw [putBytes_get, KcPair.length_windowBytes, if_pos (by omega), show a + 8 * i + k - a = 8 * i + k by omega,
      KcPair.windowBytes_get w hi hk]
  have hBytes : (List.range 8).map (fun k => Tbl.get kcByteDefault (putBytes x.mem a (x.windowBytes w)) (a + 8 * i + k))
      = leBytes 8 (x.h w i).toNat := by
    refine List.ext_getElem (by simp [length_leBytes]) fun k h₁ h₂ => ?_
    have hk : k < 8 := by simpa using h₁
    rw [List.getElem_map, List.getElem_range, hByte k hk, List.getElem?_eq_getElem h₂, Option.getD_some]
  simp only [KcPair.saved]
  rw [hBytes, leNat_leBytes]
  have hReg := (x.h w i).isLt
  exact BitVec.eq_of_toNat_eq (by simp only [BitVec.toNat_ofNat]; omega)

/-! ### The instructions of a pair that runs -/

theorem exec_wsave (hRuns : s.kcRuns p = true) (w : Fin 16) (hRoom : (s.kc p).spillFull = false) :
    exec (.wsave p w) s = .next (s.setKc p { s.kc p with
      mem := putBytes (s.kc p).mem (s.kc p).spillPtr.toNat ((s.kc p).windowBytes w), spillPtr := (s.kc p).spillPtr + 128,
      pc := Config.kcNext (s.kc p).pc }) := by
  simp only [exec, execWsave, hRuns, hRoom, Bool.not_true, if_neg Bool.false_ne_true]

/-- The record of a pair after WLOAD (R410). -/
def KcPair.loaded (x : KcPair) (w : Nat) : KcPair :=
  { (List.range 16).foldl (fun y i => y.setH w i (x.saved (x.spillPtr.toNat - 128) i)) x with
    spillPtr := BitVec.ofNat 64 (x.spillPtr.toNat - 128), pc := Config.kcNext x.pc }

theorem KcPair.loaded_win (w : Nat) : (x.loaded w).win
    = ((List.range 16).foldl (fun y i => y.setH w i (x.saved (x.spillPtr.toNat - 128) i)) x).win := by
  rw [KcPair.loaded]

theorem KcPair.loaded_h (w w' : Nat) {i : Nat} (hi : i < 16) :
    (x.loaded w).h w' i = if w' = w then x.saved (x.spillPtr.toNat - 128) i else x.h w' i := by
  have hIn : (w' = w ∧ i ∈ List.range 16) ↔ w' = w := and_iff_left (List.mem_range.mpr hi)
  have hRead := KcPair.h_foldl_setH (x := x) w (x.saved (x.spillPtr.toNat - 128)) (List.range 16)
    (fun _ h => List.mem_range.mp h) w' i hi
  rw [KcPair.h, KcPair.loaded_win, ← KcPair.h, hRead]
  exact if_congr hIn rfl rfl

theorem exec_wload (w : Fin 16) (hRuns : s.kcRuns p = true)
    (hBound : (s.kc p).spillBase.toNat + 128 ≤ (s.kc p).spillPtr.toNat) :
    exec (.wload p w) s = .next (s.setKc p ((s.kc p).loaded w)) := by
  obtain ⟨win, hWin⟩ := KcPair.foldl_setH (x := s.kc p) w ((s.kc p).saved ((s.kc p).spillPtr.toNat - 128)) (List.range 16)
  simp only [exec, execWload, hRuns, Bool.not_true, if_neg Bool.false_ne_true, if_neg (Nat.not_lt.mpr hBound),
    KcPair.loaded, hWin]

/-- A failure inside a handler, as the statement lists it. -/
theorem PairFailed.listed {c : Nat} (h : PairFailed p 1 c true false false s t) :
    t.ksState p = 2 ∧ t.fenced (partyPair p) = true ∧ (t.source (srcChip (0x0F + p.val) 1)).cause = true ∧
      (t.source (srcChip (0x0F + p.val) 1)).cls = .s ∧ (∀ y, y ≠ srcChip (0x0F + p.val) 1 → t.source y = s.source y) ∧
      t.fld (0x700010 + p.val * 0x10) 31 24 = c % 256 ∧ t.bit (0x700010 + p.val * 0x10) 23 = true ∧ t.chip = s.chip :=
  ⟨h.halted, h.fenced, h.cause, h.cls, h.others, h.ecause, h.double, h.chip⟩

/-- A trap of a pair that is not in a handler, as the statement lists it. -/
theorem State.kcTrap_listed (c : Nat) (h : (s.kc p).tactive = false) :
    (s.kcTrap p c).kc p = (s.kc p).trapped c ∧ (∀ q : Fin 2, q ≠ p → (s.kcTrap p c).kc q = s.kc q)
      ∧ OnlyTouches [.ks] s (s.kcTrap p c) := by
  rw [State.kcTrap_first c h]
  exact State.setKc_puts p _

theorem State.kcPend_kc (lines : DWord) : (s.kcPend p lines).kc p = { s.kc p with irq := (s.kc p).irq ||| lines } :=
  State.kc_setKc_same p

theorem State.kcPend_puts (lines : DWord) :
    (s.kcPend p lines).kc p = { s.kc p with irq := (s.kc p).irq ||| lines } ∧
      (∀ q : Fin 2, q ≠ p → (s.kcPend p lines).kc q = s.kc q) ∧ OnlyTouches [.ks] s (s.kcPend p lines) :=
  State.setKc_puts p _

/-- Settles O56: an instruction with room writes the record of its pair (`setKc_puts`), one at a bound traps
(`kcTrap_listed`, or inside a handler `kcTrap_fails`), and at a boundary the first interrupt that may be taken is taken
(`setKc_takes`). -/
theorem frameWindowsAndTraps : Obligations.FrameWindowsAndTraps := by
  unfold Obligations.FrameWindowsAndTraps
  have hGo {a b : Host.Outcome State Fault Refusal} {r : Bool} (h : r = true) : (if !r then a else b) = b := by simp [h]
  have hStop {a b : Host.Outcome State Fault Refusal} {r : Bool} (h : r = false) : (if !r then a else b) = a := by simp [h]
  refine ⟨?call, ?callFull, ?callHandler, ?callStopped, ?retHandler, ?retStopped, ?ret, ?retEmpty, ?wsave, ?wsaveFull,
    ?wsaveHandler, ?wsaveStopped, ?wloadEmpty, ?wloadHandler, ?wloadStopped, ?wload, ?texit, ?texitOutside, ?texitInterrupt,
    ?texitStopped, ?trap, ?trapHandler, ?lines, ?linesTaken, ?trapStopped, ?pending, ?pendingTaken, ?interruptStopped⟩
  case call =>
    intro p target ret s hRuns hOut hRoom
    exact ⟨_, by simp only [exec, execCall]; rw [hGo hRuns, if_neg (by simp [hOut]), if_neg hRoom], State.setKc_puts p _⟩
  case callFull =>
    intro p target ret s hRuns hOut hFull
    exact ⟨_, by simp only [exec, execCall]; rw [hGo hRuns, if_neg (by simp [hOut]), if_pos hFull],
      State.kcTrap_listed 6 hOut⟩
  case callHandler =>
    intro p target ret s hRuns hIn hOther
    exact ⟨_, by simp only [exec, execCall]; rw [hGo hRuns, if_pos hIn], (State.kcTrap_fails 2 hIn hRuns hOther).listed⟩
  case callStopped =>
    intro p target ret s hRuns
    exact ⟨_, hStop hRuns, rfl⟩
  case retHandler =>
    intro p s hRuns hIn hDepth hOther
    exact ⟨_, by simp only [exec, execRet]; rw [hGo hRuns, if_pos hDepth], (State.kcTrap_fails 7 hIn hRuns hOther).listed⟩
  case retStopped =>
    intro p s hRuns
    exact ⟨_, hStop hRuns, rfl⟩
  case ret =>
    intro p s hRuns hDepth
    exact ⟨_, by simp only [exec, execRet]; rw [hGo hRuns, if_neg hDepth], State.setKc_puts p _⟩
  case retEmpty =>
    intro p s hRuns hOut hDepth
    exact ⟨_, by simp only [exec, execRet]; rw [hGo hRuns, if_pos hDepth], State.kcTrap_listed 7 hOut⟩
  case wsave =>
    intro p w s hRuns hRoom
    obtain ⟨hPair, hOthers, hTouches⟩ := State.setKc_puts (s := s) p { s.kc p with
      mem := putBytes (s.kc p).mem (s.kc p).spillPtr.toNat ((s.kc p).windowBytes w), spillPtr := (s.kc p).spillPtr + 128,
      pc := Config.kcNext (s.kc p).pc }
    refine ⟨_, exec_wsave hRuns w hRoom, fun i hi => ?_, ?_, fun y i => ?_, ?_, hOthers, hTouches⟩ <;> rw [hPair]
    · exact KcPair.saved_putBytes _ _ hi
    · rfl
  case wsaveFull =>
    intro p w s hRuns hOut hFull
    exact ⟨_, by simp only [exec, execWsave]; rw [hGo hRuns, if_pos hFull], State.kcTrap_listed 3 hOut⟩
  case wsaveHandler =>
    intro p w s hRuns hIn hFull hOther
    exact ⟨_, by simp only [exec, execWsave]; rw [hGo hRuns, if_pos hFull], (State.kcTrap_fails 3 hIn hRuns hOther).listed⟩
  case wsaveStopped =>
    intro p w s hRuns
    exact ⟨_, hStop hRuns, rfl⟩
  case wloadEmpty =>
    intro p w s hRuns hOut hEmpty
    exact ⟨_, by simp only [exec, execWload]; rw [hGo hRuns, if_pos hEmpty], State.kcTrap_listed 3 hOut⟩
  case wloadHandler =>
    intro p w s hRuns hIn hEmpty hOther
    exact ⟨_, by simp only [exec, execWload]; rw [hGo hRuns, if_pos hEmpty], (State.kcTrap_fails 3 hIn hRuns hOther).listed⟩
  case wloadStopped =>
    intro p w s hRuns
    exact ⟨_, hStop hRuns, rfl⟩
  case wload =>
    intro p w s hRuns hBound
    obtain ⟨hPair, hOthers, hTouches⟩ := State.setKc_puts (s := s) p ((s.kc p).loaded w)
    refine ⟨_, exec_wload w hRuns hBound, fun i hi => ?_, fun y i hy hi => ?_, ?_, ?_, hOthers, hTouches⟩ <;> rw [hPair]
    · exact (KcPair.loaded_h _ _ hi).trans (if_pos rfl)
    · exact (KcPair.loaded_h _ _ hi).trans (if_neg hy)
    · rfl
    · rfl
  case texit =>
    intro p s hRuns hIn hNone
    have hStays := State.setKc_takesNone (s := s) (p := p)
      (x := { s.kc p with pc := (s.kc p).epc, tactive := false, depth := (s.kc p).handlerDepth }) hNone
    exact ⟨_, by simp only [exec, execTexit]; rw [hGo hRuns, if_pos hIn, hStays], State.setKc_puts p _⟩
  case texitOutside =>
    intro p s hRuns hOut
    exact ⟨_, by simp only [exec, execTexit]; rw [hGo hRuns, if_neg (by simp [hOut])], State.setKc_puts p _⟩
  case texitInterrupt =>
    intro p i s hRuns hIn hSome
    obtain ⟨hEpc, hTakes, hOthers, hTouches⟩ := State.setKc_takes (s := s) (p := p)
      (x := { s.kc p with pc := (s.kc p).epc, tactive := false, depth := (s.kc p).handlerDepth }) hSome
    exact ⟨_, by simp only [exec, execTexit]; rw [hGo hRuns, if_pos hIn], hEpc, hTakes.ecause, hTakes.active,
      hTakes.vector, hTakes.line, hOthers, hTouches⟩
  case texitStopped =>
    intro p s hRuns
    exact ⟨_, hStop hRuns, rfl⟩
  case trap =>
    intro p causes c s hRuns hOut hFirst
    have hPair := State.kcPend_kc (s := s) (p := p) (kcLines causes)
    obtain ⟨hTrap, hTrapOthers, hTrapTouches⟩ := State.kcTrap_listed (s := s.kcPend p (kcLines causes)) (p := p) c
      (by rw [hPair]; exact hOut)
    obtain ⟨-, hOthers, hTouches⟩ := State.kcPend_puts (s := s) (p := p) (kcLines causes)
    refine ⟨_, by simp only [exec, execKcTrapEntry, hFirst]; rw [hGo hRuns], ?_,
      fun q hq => (hTrapOthers q hq).trans (hOthers q hq),
      fun q hq => StatePart.same_trans (hTouches q hq) (hTrapTouches q hq)⟩
    rw [hTrap, hPair]
    rfl
  case trapHandler =>
    intro p causes c s hRuns hIn hFirst hOther
    have hKeep (q : Nat) : (s.kcPend p (kcLines causes)).kcRuns q = s.kcRuns q := State.setKc_kcRuns p q
    have hFails := (State.kcTrap_fails (s := s.kcPend p (kcLines causes)) (p := p) c
      (by rw [State.kcPend_kc]; exact hIn) ((hKeep p).trans hRuns) ((hKeep _).trans hOther)).listed
    obtain ⟨hHalt, hFence, hCause, hCls, hSources, hCode, hDouble, hChip⟩ := hFails
    exact ⟨_, by simp only [exec, execKcTrapEntry, hFirst]; rw [hGo hRuns], hHalt, hFence, hCause, hCls,
      fun y hy => (hSources y hy).trans (State.source_moves State.kcPend_moves (by decide) y), hCode, hDouble,
      hChip.trans (State.kcPend_moves.same .chip (by decide))⟩
  case lines =>
    intro p causes s hRuns hFirst hNone
    exact ⟨_, by simp only [exec, execKcTrapEntry, hFirst]; rw [hGo hRuns, State.kcPend, State.setKc_takesNone hNone],
      State.kcPend_puts _⟩
  case linesTaken =>
    intro p causes i s hRuns hFirst hSome
    obtain ⟨hEpc, hTakes, hOthers, hTouches⟩ := State.setKc_takes (s := s) (p := p) hSome
    exact ⟨_, by simp only [exec, execKcTrapEntry, hFirst]; rw [hGo hRuns]; rfl, hEpc, hTakes.ecause, hTakes.active,
      hTakes.vector, hTakes.line, hOthers, hTouches⟩
  case trapStopped =>
    intro p causes s hRuns
    exact ⟨_, hStop hRuns, rfl⟩
  case pending =>
    intro p lines s hRuns hNone
    exact ⟨_, by simp only [exec, execKcInterrupt]; rw [hGo hRuns, State.kcPend, State.setKc_takesNone hNone],
      State.kcPend_puts _⟩
  case pendingTaken =>
    intro p lines i s hRuns hSome
    obtain ⟨hEpc, hTakes, hOthers, hTouches⟩ := State.setKc_takes (s := s) (p := p) hSome
    exact ⟨_, by simp only [exec, execKcInterrupt]; rw [hGo hRuns]; rfl, hEpc, hTakes.ecause, hTakes.active,
      hTakes.vector, hTakes.line, hOthers, hTouches⟩
  case interruptStopped =>
    intro p lines s hRuns
    exact ⟨_, hStop hRuns, rfl⟩

end Sys2Proof.Machine
end

section
/-! PROOFS. The operating point: what each operation on it writes of the registers and of the power controller's record
(R466 to R469, R477, R483). -/

namespace Sys2Proof.Machine

variable {s t u : State} {os : List Nat}

/-! ### Registers that an operation may write -/

/-- From `s` to `t` only the registers listed may change. -/
def WritesOnly (os : List Nat) (s t : State) : Prop := ∀ o, o ∉ os → t.reg o = s.reg o

theorem WritesOnly.refl : WritesOnly os s s := fun _ _ => rfl

theorem WritesOnly.trans (h : WritesOnly os s t) (k : WritesOnly os t u) : WritesOnly os s u :=
  fun o ho => (k o ho).trans (h o ho)

theorem WritesOnly.mono {os' : List Nat} (hs : os ⊆ os') (h : WritesOnly os s t) : WritesOnly os' s t :=
  fun o ho => h o (fun hIn => ho (hs hIn))

theorem WritesOnly.of_regs (h : t.regs = s.regs) : WritesOnly os s t := fun _ _ => by simp only [State.reg, h]

theorem WritesOnly.moves {ps : List StatePart} (h : Moves ps s t) (hp : .regs ∉ ps) : WritesOnly os s t :=
  .of_regs (h.same .regs hp)

theorem WritesOnly.setFld {off hi lo v : Nat} (ho : off ∈ os) (h : WritesOnly os s t) :
    WritesOnly os s (t.setFld off hi lo v) :=
  fun o hn => (State.reg_setFld_ne _ _ _ _ _ _ (by rintro rfl; exact hn ho)).trans (h o hn)

theorem WritesOnly.setBit {off i : Nat} {b : Bool} (ho : off ∈ os) (h : WritesOnly os s t) :
    WritesOnly os s (t.setBit off i b) :=
  WritesOnly.setFld ho h

theorem WritesOnly.setReg {off : Nat} {w : Word} (ho : off ∈ os) (h : WritesOnly os s t) :
    WritesOnly os s (t.setReg off w) :=
  fun o hn => (State.reg_setReg_ne _ _ _ _ (by rintro rfl; exact hn ho)).trans (h o hn)

theorem WritesOnly.ite {c : Prop} [Decidable c] (h : WritesOnly os s t) (k : WritesOnly os s u) :
    WritesOnly os s (if c then t else u) := by
  split
  · exact h
  · exact k

theorem WritesOnly.fld (h : WritesOnly os s t) {o : Nat} (ho : o ∉ os) (hi lo : Nat) : t.fld o hi lo = s.fld o hi lo := by
  rw [State.fld, State.fld, h o ho]

theorem WritesOnly.bit (h : WritesOnly os s t) {o : Nat} (ho : o ∉ os) (i : Nat) : t.bit o i = s.bit o i :=
  State.bit_of_fld (h.fld ho i i)

theorem State.fld_setBit_ne {off i hi lo : Nat} {b : Bool} (hw : i < 32) (h : lo ≤ hi) (hd : i < lo ∨ hi < i) (o : Nat) :
    (s.setBit off i b).fld o hi lo = s.fld o hi lo := State.fld_setFld_ne _ _ _ _ _ _ _ _ (Nat.le_refl i) hw h hd

/-! ### The record of the power controller -/

/-- From `s` to `t` the limits, the readings and the group's standing are as they were: of the power controller's record only
the rise, the VCORE target and the rounds known may change. -/
def KeepsCaps (s t : State) : Prop :=
  t.pwr = { s.pwr with
    rise := t.pwr.rise, riseOk := t.pwr.riseOk, target25 := t.pwr.target25, before25 := t.pwr.before25, votes := t.pwr.votes }

theorem KeepsCaps.of_pwr (h : t.pwr = s.pwr) : KeepsCaps s t := by
  rw [KeepsCaps, h]

theorem KeepsCaps.refl : KeepsCaps s s := .of_pwr rfl

theorem KeepsCaps.trans (h : KeepsCaps s t) (k : KeepsCaps t u) : KeepsCaps s u := by
  unfold KeepsCaps at *
  rw [k, h]

theorem KeepsCaps.moves {ps : List StatePart} (h : Moves ps s t) (hp : .pwr ∉ ps) : KeepsCaps s t := .of_pwr (h.same .pwr hp)

theorem KeepsCaps.capOp (h : KeepsCaps s t) : t.capOp = s.capOp := by
  unfold KeepsCaps at h
  unfold State.capOp
  rw [h]

theorem KeepsCaps.safeCap (h : KeepsCaps s t) : t.pwr.safeCap = s.pwr.safeCap := by rw [h]
theorem KeepsCaps.alert (h : KeepsCaps s t) : t.pwr.alert = s.pwr.alert := by rw [h]
theorem KeepsCaps.tjmax (h : KeepsCaps s t) : t.pwr.tjmax = s.pwr.tjmax := by rw [h]
theorem KeepsCaps.throttle (h : KeepsCaps s t) : t.pwr.throttle = s.pwr.throttle := by rw [h]
theorem KeepsCaps.temps (h : KeepsCaps s t) : t.pwr.temps = s.pwr.temps := by rw [h]
theorem KeepsCaps.hot (h : KeepsCaps s t) : t.pwr.hot = s.pwr.hot := by rw [h]
theorem KeepsCaps.member (h : KeepsCaps s t) : t.pwr.member = s.pwr.member := by rw [h]
theorem KeepsCaps.closed (h : KeepsCaps s t) : t.pwr.closed = s.pwr.closed := by rw [h]

theorem State.capOp_le (s : State) : s.capOp ≤ 5 := by
  unfold State.capOp
  dsimp only
  split <;> omega

theorem State.opMax_le (s : State) : s.opMax ≤ 5 := Nat.min_le_left _ _
theorem State.policy_le (s : State) : s.policy ≤ 5 := (Nat.min_le_right _ _).trans s.opMax_le
theorem State.request_le (s : State) : s.request ≤ 5 := (Nat.min_le_left _ _).trans s.policy_le

/-! ### The point and its status (R466, R483) -/

theorem State.curOp_setOp {n : Nat} (h : n ≤ 5) : (s.setOp n).curOp = n :=
  (State.fld_setFld_same _ _ _ _ _ (by decide) (by decide)).trans (Nat.mod_eq_of_lt (by omega))

theorem State.setOp_writes (n : Nat) : WritesOnly [0x300008] s (s.setOp n) := .setFld (by decide) .refl

theorem State.showCaps_writes : WritesOnly [0x300008] s s.showCaps := by
  unfold State.showCaps
  exact .setFld (by decide) (.setBit (by decide) (.setBit (by decide) (.setBit (by decide) (.setBit (by decide)
    (.setBit (by decide) (.setFld (by decide) .refl))))))

/-- The fields of PWR_STATUS that no cap decides stay. -/
theorem State.showCaps_fld {hi lo : Nat} (h : lo ≤ hi) (hd : 28 < lo ∨ (19 < lo ∧ hi < 26) ∨ hi < 11) (o : Nat) :
    s.showCaps.fld o hi lo = s.fld o hi lo := by
  unfold State.showCaps
  dsimp only
  rw [State.fld_setFld_ne _ _ _ _ _ _ _ _ (by decide) (by decide) h (by omega), State.fld_setBit_ne (by decide) h (by omega),
    State.fld_setBit_ne (by decide) h (by omega), State.fld_setBit_ne (by decide) h (by omega),
    State.fld_setBit_ne (by decide) h (by omega), State.fld_setBit_ne (by decide) h (by omega),
    State.fld_setFld_ne _ _ _ _ _ _ _ _ (by decide) (by decide) h (by omega)]

theorem State.showCaps_pwr : s.showCaps.pwr = s.pwr := State.showCaps_moves.same .pwr (by decide)

@[simp] theorem State.showCaps_curOp : s.showCaps.curOp = s.curOp := State.showCaps_fld (by decide) (by decide) _

theorem State.showCaps_keepsCaps : KeepsCaps s s.showCaps := .of_pwr State.showCaps_pwr

@[simp] theorem State.showCaps_capOp : s.showCaps.capOp = s.capOp := State.showCaps_keepsCaps.capOp

/-! ### The VCORE target (R468, R469) -/

theorem State.commandTarget_writes (v : Nat) : WritesOnly [0x300014] s (s.commandTarget v) := by
  have hShown : WritesOnly [0x300014] s (({ s with pwr := { s.pwr with target25 := v } }).setFld 0x300014 25 16 (v * 5 / 2)) :=
    .setFld (by decide) (.of_regs rfl)
  exact hShown.trans (.moves State.pmbusSend_moves (by decide))

theorem State.commandTarget_pwr (v : Nat) : (s.commandTarget v).pwr = { s.pwr with target25 := v } :=
  (State.pmbusSend_moves.same .pwr (by decide)).trans (State.setFld_moves.same .pwr (by decide))

theorem State.setTarget25_writes (v : Nat) : WritesOnly [0x300014] s (s.setTarget25 v) :=
  .ite .refl (State.commandTarget_writes v)

theorem State.setTarget25_keepsCaps (v : Nat) : KeepsCaps s (s.setTarget25 v) := by
  unfold State.setTarget25
  split
  · exact .refl
  · rfl

theorem State.settleVcore_writes : WritesOnly [0x300014] s s.settleVcore := .ite .refl (State.setTarget25_writes _)

theorem State.settleVcore_keepsCaps : KeepsCaps s s.settleVcore := by
  unfold State.settleVcore
  split
  · exact .refl
  · exact State.setTarget25_keepsCaps _

theorem State.dropRise_writes : WritesOnly [0x300014] s s.dropRise := fun o ho => State.dropRise_reg (by simpa using ho)

theorem State.dropRise_keepsCaps : KeepsCaps s s.dropRise := by
  unfold State.dropRise
  split
  · exact .refl
  · exact .trans rfl (State.setTarget25_keepsCaps _)

theorem State.startRise_writes : WritesOnly [0x300014] s s.startRise := by
  unfold State.startRise
  dsimp -proj only
  split
  · exact .refl
  · exact .trans (.of_regs rfl) (State.commandTarget_writes _)

theorem State.startRise_keepsCaps : KeepsCaps s s.startRise := by
  unfold State.startRise
  dsimp only
  split
  · exact .refl
  · rfl

/-! ### The caps (R466, R467, R477) -/

theorem State.putVote_keepsCaps (v : Vote) : KeepsCaps s (s.putVote v) := rfl

theorem State.tellRound_keepsCaps : KeepsCaps s s.tellRound := by
  unfold State.tellRound
  split
  · dsimp -proj only
    split
    · exact (State.putVote_keepsCaps _).trans (.moves State.sendConcord_moves (by decide))
    · exact .refl
  · exact .refl

theorem State.capFall_writes : WritesOnly [0x300008, 0x300014] s s.capFall := by
  have hShown : WritesOnly [0x300008, 0x300014] s s.showCaps := State.showCaps_writes.mono (by decide)
  unfold State.capFall
  exact .ite (.trans (.trans (.trans (.trans hShown ((State.setOp_writes _).mono (by decide)))
    (State.dropRise_writes.mono (by decide))) (State.settleVcore_writes.mono (by decide)))
    (.moves State.tellRound_moves (by decide))) hShown

theorem State.capFall_keepsCaps : KeepsCaps s s.capFall := by
  unfold State.capFall
  dsimp only
  split
  · exact .trans (.trans (.trans (.trans State.showCaps_keepsCaps (.moves State.setOp_moves (by decide)))
      State.dropRise_keepsCaps) State.settleVcore_keepsCaps) State.tellRound_keepsCaps
  · exact State.showCaps_keepsCaps

theorem State.dropRise_curOp : s.dropRise.curOp = s.curOp := State.dropRise_writes.fld (by decide) _ _
theorem State.settleVcore_curOp : s.settleVcore.curOp = s.curOp := State.settleVcore_writes.fld (by decide) _ _
theorem State.tellRound_curOp : s.tellRound.curOp = s.curOp := State.fld_moves State.tellRound_moves (by decide) _ _ _

/-- A cap that has fallen brings the point down to it (R467). -/
theorem State.capFall_curOp : s.capFall.curOp = min s.curOp s.capOp := by
  unfold State.capFall
  dsimp only
  rw [State.showCaps_capOp, State.showCaps_curOp]
  split
  · next h =>
    rw [State.tellRound_curOp, State.settleVcore_curOp, State.dropRise_curOp, State.curOp_setOp s.capOp_le]
    omega
  · rw [State.showCaps_curOp]
    omega

theorem State.overrideStarts_writes : WritesOnly [0x300008, 0x300014, 0x30000C] s s.overrideStarts := by
  have hFall : WritesOnly [0x300008, 0x300014, 0x30000C] s s.capFall := State.capFall_writes.mono (by decide)
  unfold State.overrideStarts
  exact .ite (.setFld (by decide) hFall) hFall

theorem State.overrideStarts_keepsCaps : KeepsCaps s s.overrideStarts := by
  unfold State.overrideStarts
  dsimp only
  split
  · exact State.capFall_keepsCaps.trans (.moves State.incSat_moves (by decide))
  · exact State.capFall_keepsCaps

theorem State.overrideStarts_curOp : s.overrideStarts.curOp = min s.curOp s.capOp := by
  unfold State.overrideStarts
  dsimp only
  split
  · exact (State.fld_setFld_reg _ _ _ _ _ _ _ _ (by decide)).trans State.capFall_curOp
  · exact State.capFall_curOp

/-! ### A change of the point at a mark (R467, R476) -/

/-- The registers of CS63, with PWR_STATUS and the VCORE target. -/
def changeRegs : List Nat := [0x300014, 0x2027E0, 0x2027E4, 0x2027E8, 0x2027EC, 0x2027F0, 0x300008]

theorem State.armChange_writes (op mark : Nat) : WritesOnly changeRegs s (s.armChange op mark) :=
  .setBit (by decide) (.setReg (by decide) (.setReg (by decide) (.setFld (by decide) (.setFld (by decide) (.setReg (by decide)
    (State.dropRise_writes.mono (by decide)))))))

theorem State.armChange_keepsCaps (op mark : Nat) : KeepsCaps s (s.armChange op mark) := by
  have hRest : Moves [.regs] s.dropRise (s.armChange op mark) :=
    .step State.setBit_moves (by decide) (.step State.setReg_moves (by decide) (.step State.setReg_moves (by decide)
      (State.setSlotMark_moves.mono (by decide))))
  exact State.dropRise_keepsCaps.trans (.moves hRest (by decide))

/-- What PWR_STATUS shows beside RISE stays. -/
theorem State.armChange_status (op mark : Nat) {hi lo : Nat} (h : lo ≤ hi) (hd : 10 < lo ∨ hi < 10) :
    (s.armChange op mark).fld 0x300008 hi lo = s.fld 0x300008 hi lo := by
  unfold State.armChange State.setSlotMark
  dsimp only
  rw [State.fld_setBit_ne (by decide) h (by omega), State.fld_setReg_ne _ _ _ _ _ _ (by decide),
    State.fld_setReg_ne _ _ _ _ _ _ (by decide), State.fld_setFld_reg _ _ _ _ _ _ _ _ (by decide),
    State.fld_setFld_reg _ _ _ _ _ _ _ _ (by decide), State.fld_setReg_ne _ _ _ _ _ _ (by decide),
    State.dropRise_writes.fld (by decide)]

theorem State.armChange_slot (op mark : Nat) :
    (s.armChange op mark).reg 0x2027F0 = BitVec.ofNat 32 (2 ^ 31 + op * 2 ^ 8 + 3) :=
  (State.reg_setFld_ne _ _ _ _ _ _ (by decide)).trans (State.reg_setReg_same _ _ _)

theorem State.changePending_eq : s.changePending
    = (decide (getBits (s.reg 0x2027F0) 31 31 = 1) && decide (getBits (s.reg 0x2027F0) 3 0 = 3)) := rfl

theorem State.slotArg_63 : s.slotArg 63 = getBits (s.reg 0x2027F0) 15 8 := rfl

theorem State.armChange_pending {op : Nat} (mark : Nat) (h : op ≤ 5) : (s.armChange op mark).changePending = true := by
  have hArm : getBits (BitVec.ofNat 32 (2 ^ 31 + op * 2 ^ 8 + 3)) 31 31 = 1 := by
    simp only [getBits, BitVec.toNat_ofNat]
    omega
  have hEvent : getBits (BitVec.ofNat 32 (2 ^ 31 + op * 2 ^ 8 + 3)) 3 0 = 3 := by
    simp only [getBits, BitVec.toNat_ofNat]
    omega
  rw [State.changePending_eq, State.armChange_slot, hArm, hEvent]
  rfl

theorem State.armChange_arg {op : Nat} (mark : Nat) (h : op ≤ 5) : (s.armChange op mark).slotArg 63 = op := by
  rw [State.slotArg_63, State.armChange_slot]
  simp only [getBits, BitVec.toNat_ofNat]
  omega

theorem State.schedulePoint_writes : WritesOnly changeRegs s s.schedulePoint := by
  have hShown : WritesOnly changeRegs s s.showCaps := State.showCaps_writes.mono (by decide)
  unfold State.schedulePoint
  exact .ite hShown (.ite (hShown.trans (State.armChange_writes _ _)) hShown)

theorem State.schedulePoint_keepsCaps : KeepsCaps s s.schedulePoint := by
  unfold State.schedulePoint
  dsimp only
  split
  · exact State.showCaps_keepsCaps
  · split
    · exact State.showCaps_keepsCaps.trans (State.armChange_keepsCaps _ _)
    · exact State.showCaps_keepsCaps

theorem State.schedulePoint_status {hi lo : Nat} (h : lo ≤ hi) (hd : 28 < lo ∨ (19 < lo ∧ hi < 26) ∨ hi < 10) :
    s.schedulePoint.fld 0x300008 hi lo = s.fld 0x300008 hi lo := by
  have hShown := State.showCaps_fld (s := s) h (by omega) 0x300008
  unfold State.schedulePoint
  dsimp only
  split
  · exact hShown
  · split
    · exact (State.armChange_status _ _ h (by omega)).trans hShown
    · exact hShown

theorem State.schedulePoint_curOp : s.schedulePoint.curOp = s.curOp := State.schedulePoint_status (by decide) (by decide)

/-- What the device asks for hangs on its policy registers, the phase and the caps. -/
theorem KeepsCaps.request (h : KeepsCaps s t) (hMax : t.reg 0x300000 = s.reg 0x300000)
    (hPhases : t.reg 0x300004 = s.reg 0x300004)
    (hPhase : t.fld 0x300008 22 20 = s.fld 0x300008 22 20) : t.request = s.request := by
  simp only [State.request, State.policy, State.phaseOp, State.phase, State.opMin, State.opMax, State.fld, hMax, hPhases,
    h.capOp]
  simp only [State.fld] at hPhase
  rw [hPhase]

theorem State.showCaps_request : s.showCaps.request = s.request :=
  State.showCaps_keepsCaps.request (State.showCaps_writes _ (by decide)) (State.showCaps_writes _ (by decide))
    (State.showCaps_fld (by decide) (by decide) _)

theorem State.schedulePoint_request : s.schedulePoint.request = s.request :=
  State.schedulePoint_keepsCaps.request (State.schedulePoint_writes _ (by decide)) (State.schedulePoint_writes _ (by decide))
    (State.schedulePoint_status (by decide) (by decide))

/-- Outside a group another point than the one in use is scheduled in CS63 (R467). -/
theorem State.schedulePoint_arms (hOut : s.inGroup = false) (hOther : s.request ≠ s.curOp) :
    s.schedulePoint.changePending = true ∧ s.schedulePoint.slotArg 63 = s.request := by
  have hGroup : s.showCaps.inGroup = false := State.showCaps_keepsCaps.member.trans hOut
  have hArm : s.schedulePoint = s.showCaps.armChange s.request s.showCaps.nextChangeMark := by
    unfold State.schedulePoint
    dsimp only
    rw [if_neg (by rw [hGroup]; decide), State.showCaps_request, State.showCaps_curOp, if_pos (by simp [hOther])]
  rw [hArm]
  exact ⟨State.armChange_pending _ s.request_le, State.armChange_arg _ s.request_le⟩

end Sys2Proof.Machine
end

section
/-! PROOFS. Registers that no fault of any class touches, the entry into the safe state included (R443, R461, R466). -/

namespace Sys2Proof.Machine

variable {s t u : State}

/-- The registers that a fault can write: those of a class-N or class-S fault, FC_SAFE and its companions, FC_PIN, the joint's
status and its slot, and the operating point (R113, R445, R461, R462, R466). -/
def safeRegister (o : Nat) : Bool :=
  faultRegister o || [0x100008, 0x10000C, 0x100010, 0x100018, 0x200, 0x204, 0x300008, 0x300014, 0x30000C].contains o
    || (decide (0x202010 ≤ o) && decide (o % 0x20 = 0x10))

/-- Every register that no fault writes reads as before. -/
def SafeFrame (s t : State) : Prop := ∀ o, safeRegister o = false → t.reg o = s.reg o

theorem SafeFrame.refl : SafeFrame s s := fun _ _ => rfl
theorem SafeFrame.trans (h : SafeFrame s t) (k : SafeFrame t u) : SafeFrame s u := fun o ho => (k o ho).trans (h o ho)
theorem SafeFrame.of_regs (h : t.regs = s.regs) : SafeFrame s t := fun o _ => by simp only [State.reg, h]
theorem SafeFrame.moves {ps : List StatePart} (h : Moves ps s t) (hp : .regs ∉ ps) : SafeFrame s t := .of_regs (h.same .regs hp)

theorem SafeFrame.writes {os : List Nat} (h : WritesOnly os s t) (hs : ∀ o ∈ os, safeRegister o = true) : SafeFrame s t :=
  fun o ho => h o (fun hIn => by simp [hs o hIn] at ho)

theorem SafeFrame.faults (h : FaultFrame s t) : SafeFrame s t :=
  fun o ho => h o (Bool.or_eq_false_iff.mp (Bool.or_eq_false_iff.mp ho).1).1

theorem SafeFrame.fld (h : SafeFrame s t) {o : Nat} (ho : safeRegister o = false) (hi lo : Nat) :
    t.fld o hi lo = s.fld o hi lo := by
  rw [State.fld, State.fld, h o ho]

theorem safeRegister_slot (i : Nat) : safeRegister (0x202010 + i * 0x20) = true := by
  simp only [safeRegister, Bool.or_eq_true, Bool.and_eq_true, decide_eq_true_eq]
  exact .inr (by omega)

theorem State.disarmJoint_safeFrame : SafeFrame s s.disarmJoint := by
  unfold State.disarmJoint
  split
  · exact .refl
  · next i _ =>
    have hJoint : SafeFrame s { s with progs := { s.progs with joint := none, jointChecked := false, jointCancel := false } } :=
      .of_regs rfl
    have hRegs (v : State) (n : Nat) : WritesOnly [0x202010 + i * 0x20, 0x200, 0x204] v
        (((v.setBit (0x202010 + i * 0x20) 31 false).setBit 0x200 8 false).setFld 0x204 2 1 n) :=
      .setFld (by simp) (.setBit (by simp) (.setBit (by simp) .refl))
    exact hJoint.trans (.writes (hRegs _ _) (by
      simp only [List.forall_mem_cons]
      exact ⟨safeRegister_slot i, by decide, by decide, by simp⟩))

theorem State.showAbort_safeFrame (cause : Nat) (report : Bool) : SafeFrame s (s.showAbort cause report) := by
  have hShown : SafeFrame s (((s.setBit 0x204 3 true).setFld 0x204 7 4 cause).irq 1) :=
    (SafeFrame.writes (os := [0x204]) (.setFld (by decide) (.setBit (by decide) .refl)) (by decide)).trans
      (.faults (State.irq_frame 1))
  unfold State.showAbort
  dsimp -proj only
  split
  · refine hShown.trans (.moves (ps := [.emitted, .pierTx]) (.fold (fun v n => ?_) .refl) (by decide))
    exact .ite State.pierSend_moves .refl
  · exact hShown

theorem State.abortJoint_safeFrame (cause : Nat) : SafeFrame s (s.abortJoint cause) := by
  unfold State.abortJoint
  split
  · exact .refl
  · exact (State.disarmJoint_safeFrame.trans (State.showAbort_safeFrame _ _)).trans (.faults
      (State.latchCore_frame _ _ _ _ _ _))

theorem State.showSafe_writes (src cause : Nat) :
    WritesOnly [0x100008, 0x10000C, 0x100010, 0x100004] s (s.showSafe src cause) :=
  .setBit (by decide) (.setReg (by decide) (.setReg (by decide) (.setReg (by decide) .refl)))

theorem State.endPinTest_writes : WritesOnly [0x100018] s s.endPinTest := .ite (.setBit (by decide) .refl) .refl

theorem State.markSafe_safeFrame : SafeFrame s s.markSafe :=
  (SafeFrame.writes State.endPinTest_writes (by decide)).trans (.of_regs rfl)

theorem State.enterSafe_safeFrame (src cause : Nat) : SafeFrame s (s.enterSafe src cause) := by
  have hMark : SafeFrame s (s.showSafe src cause).markSafe :=
    (SafeFrame.writes (State.showSafe_writes src cause) (by decide)).trans State.markSafe_safeFrame
  have hStomp {x : State} : SafeFrame x (x.endSwitches.stompPorts x.endSwitches.busyPorts) :=
    (SafeFrame.moves State.endSwitches_moves (by decide)).trans (.moves State.stompPorts_moves (by decide))
  have hAbort {x : State} : SafeFrame x ((x.pierPropagate src .d).abortJoint 4) :=
    (SafeFrame.moves State.pierPropagate_moves (by decide)).trans (State.abortJoint_safeFrame _)
  have hHalt {x : State} : SafeFrame x ((List.range 16).foldl (fun s n => s.haltEngine n 3) x) :=
    .moves (ps := [.trestle]) (Moves.fold (fun _ _ => State.haltEngine_moves) .refl) (by decide)
  have hCap {x : State} : SafeFrame x x.capSafe.overrideStarts :=
    (SafeFrame.moves State.capSafe_moves (by decide)).trans (.writes State.overrideStarts_writes (by decide))
  unfold State.enterSafe
  split
  · exact .refl
  · exact (((hMark.trans hStomp).trans hAbort).trans hHalt).trans hCap

theorem State.decideFault_safeFrame (src : Nat) (cls : FaultClass) : SafeFrame s (s.decideFault src cls) := by
  by_cases hc : cls = .d
  · subst hc
    unfold State.decideFault State.react
    split
    · dsimp -proj only
      split
      · exact .moves State.pierPropagate_moves (by decide)
      · exact State.enterSafe_safeFrame _ _
    · exact .of_regs rfl
  · exact .faults (State.decideFault_frame _ _ hc)

theorem State.latchFault_safeFrame (src : Nat) (cls : FaultClass) (detail : Nat) (live threshold : Bool) :
    SafeFrame s (s.latchFault src cls detail live threshold) := by
  have hLatch (b c : Bool) : SafeFrame s (((s.setReacting b).latchCore src cls detail live threshold c).haltFor src) :=
    ((SafeFrame.of_regs rfl : SafeFrame s (s.setReacting b)).trans (.faults (State.latchCore_frame _ _ _ _ _ _))).trans
      (.faults (State.haltFor_frame _))
  unfold State.latchFault
  dsimp -proj only
  refine SafeFrame.trans ?_ (.of_regs rfl)
  split
  · exact hLatch _ _
  · exact (hLatch _ _).trans (State.decideFault_safeFrame _ _)

end Sys2Proof.Machine
end

section
/-! PROOFS. The keystone pairs: failure, takeover, reinstatement and return (R404 to R408, R422, R423). -/

namespace Sys2Proof.Machine

variable {s t u : State}

/-! ### KS_STATUS (R422) -/

theorem State.reg_setKsState (p v : Nat) (o : Nat) :
    (s.setKsState p v).reg o = (s.setFld 0x700000 (3 * p + 2) (3 * p) v).reg o := by
  unfold State.setKsState
  dsimp -proj only
  split <;> rfl

theorem State.fld_setKsState (p v : Nat) (o hi lo : Nat) :
    (s.setKsState p v).fld o hi lo = (s.setFld 0x700000 (3 * p + 2) (3 * p) v).fld o hi lo := by
  rw [State.fld, State.fld, State.reg_setKsState]

theorem State.ksState_setKsState_same {p v : Nat} (hp : p < 2) (hv : v < 8) : (s.setKsState p v).ksState p = v := by
  rw [State.ksState, State.fld_setKsState, State.fld_setFld_same _ _ _ _ _ (by omega) (by omega),
    show 3 * p + 2 - 3 * p + 1 = 3 by omega]
  exact Nat.mod_eq_of_lt hv

theorem State.ksState_setKsState_ne {p q v : Nat} (hp : p < 2) (hne : q ≠ p) : (s.setKsState p v).ksState q = s.ksState q := by
  rw [State.ksState, State.fld_setKsState, State.fld_setFld_ne _ _ _ _ _ _ _ _ (by omega) (by omega) (by omega) (by omega)]
  rfl

theorem State.groupPair_setKsState {p v : Nat} (hp : p < 2) (g : Nat) : (s.setKsState p v).groupPair g = s.groupPair g := by
  have hField (i : Nat) (hi : 8 ≤ i) : (s.setKsState p v).fld 0x700000 i i = s.fld 0x700000 i i := by
    rw [State.fld_setKsState, State.fld_setFld_ne _ _ _ _ _ _ _ _ (by omega) (by omega) (by omega) (by omega)]
  rw [State.groupPair, State.groupPair, hField 9 (by omega), hField 8 (by omega)]

theorem State.ksState_moves {ps : List StatePart} (h : Moves ps s t) (hp : .regs ∉ ps) (p : Nat) : t.ksState p = s.ksState p :=
  State.fld_moves h hp _ _ _

theorem State.groupPair_moves {ps : List StatePart} (h : Moves ps s t) (hp : .regs ∉ ps) (g : Nat) :
    t.groupPair g = s.groupPair g := by
  rw [State.groupPair, State.groupPair, State.fld_moves h hp, State.fld_moves h hp]

theorem State.groupPair_le (g : Nat) : s.groupPair g ≤ 1 := by
  have hBit : s.fld 0x700000 9 9 < 2 := getBits_lt _ _ _
  unfold State.groupPair
  split <;> omega

/-- A group moved to a pair runs there, and the other group where it ran. -/
theorem State.groupPair_moveGroup {g q h : Nat} (hg : g < 2) (hq : q < 2) (hh : h < 2) :
    (s.moveGroup g q).groupPair h = if h = g then q else s.groupPair h := by
  have hOne (i : Nat) (hi : i < 32) (b : Bool) : (s.setBit 0x700000 i b).fld 0x700000 i i = b.toNat := by
    cases b <;> simp [State.setBit, State.fld_setFld_same, hi]
  have hOther (i j : Nat) (hi : i < 32) (hij : i < j ∨ j < i) (b : Bool) :
      (s.setBit 0x700000 i b).fld 0x700000 j j = s.fld 0x700000 j j :=
    State.fld_setBit_ne hi (Nat.le_refl _) hij _
  unfold State.moveGroup
  obtain rfl | rfl : g = 0 ∨ g = 1 := by omega
  · obtain rfl | rfl : h = 0 ∨ h = 1 := by omega
    · obtain rfl | rfl : q = 0 ∨ q = 1 := by omega
      · exact hOne 9 (by decide) _
      · exact hOne 9 (by decide) _
    · exact congrArg (1 - ·) (hOther 9 8 (by decide) (by decide) _)
  · obtain rfl | rfl : h = 0 ∨ h = 1 := by omega
    · exact hOther 8 9 (by decide) (by decide) _
    · obtain rfl | rfl : q = 0 ∨ q = 1 := by omega
      · exact congrArg (1 - ·) (hOne 8 (by decide) _)
      · exact congrArg (1 - ·) (hOne 8 (by decide) _)

theorem State.fld_moveGroup (g q : Nat) {hi lo : Nat} (h : lo ≤ hi) (hd : hi < 8 ∨ 9 < lo) (o : Nat) :
    (s.moveGroup g q).fld o hi lo = s.fld o hi lo := by
  unfold State.moveGroup
  split
  · exact State.fld_setBit_ne (by decide) h (by omega) o
  · exact State.fld_setBit_ne (by decide) h (by omega) o

theorem State.ksState_moveGroup (g q : Nat) {p : Nat} (hp : p < 2) : (s.moveGroup g q).ksState p = s.ksState p :=
  State.fld_moveGroup g q (by omega) (by omega) _

/-! ### The last pair fails (R407) -/

/-- Without the other pair the failure is of class D: the safe state follows, and the pair is halted. -/
theorem State.pairFails_safe {p : Fin 2} {elem c : Nat} {double mismatch watchdog : Bool} (h : s.kcRuns p = true)
    (hOther : s.kcRuns (1 - p.val) = false) (hOn : s.chip.mode ≠ .off)
    (hAlone : s.fc.injNext ≠ some (srcChip (0x0F + p) elem) ∨ s.fc.injQuiet = false)
    (hPaired : s.chip.lockColl.phase = .paired) :
    (s.pairFails p elem c double mismatch watchdog).chip.mode = .safe
      ∧ (s.pairFails p elem c double mismatch watchdog).ksState p = 2 := by
  have hChip : (s.pairHalted p c double mismatch watchdog).chip = s.chip := State.pairHalted_chip _ _ _ _
  have hFiring : (s.pairHalted p c double mismatch watchdog).fc.injNext = s.fc.injNext ∧
      (s.pairHalted p c double mismatch watchdog).fc.injQuiet = s.fc.injQuiet := by
    have hFc : ((s.haltDump p c double mismatch watchdog).setKsState p 2).fc = s.fc :=
      (State.setFld_moves.same .fc (by decide)).trans (State.haltDump_moves.same .fc (by decide))
    rw [State.pairHalted, State.fence, hFc]
    exact ⟨rfl, rfl⟩
  rw [State.pairFails_eq h, hOther, if_neg (by decide)]
  constructor
  · exact State.latchFault_safe _ _ _ _ (by rwa [hChip]) (by rwa [hChip]) (by rwa [hFiring.1, hFiring.2])
  · exact ((State.latchFault_safeFrame _ _ _ _ _).fld (by decide) _ _).trans (State.pairHalted_ksState _ _ _ _)

/-! ### Takeover (R393, R406) -/

theorem Tbl.get_mem {α : Type} (d : Nat → α) (t : Tbl α) (k : Nat) : Tbl.get d t k = d k ∨ (k, Tbl.get d t k) ∈ t := by
  induction t with
  | nil => exact .inl rfl
  | cons e t ih =>
    obtain ⟨k', v⟩ := e
    rw [Tbl.get]
    split
    · next h => exact .inr (by rw [h]; exact List.mem_cons_self)
    · exact ih.imp_right (List.mem_cons_of_mem _)

/-- The plain commands of one ring that a takeover finishes: `e` is the ring with its record before. -/
def State.sweepRing (s : State) (code : Nat) (which : Call → Bool) (e : Nat × SqRec) : State :=
  let gone := e.2.calls.filter (fun c => c.lsn.isNone && which c)
  let x := s.sq e.1
  s.setSq e.1 { x with
    calls := x.calls.filter (fun c => !(c.lsn.isNone && which c))
    taken := x.taken.map (fun t =>
      if t.done.isNone && gone.any (fun c => c.idx = t.idx) then { t with done := some { code := code } } else t) }

/-- Every command of a ring that was taken with an index is done. -/
def State.DoneAt (s : State) (r : Nat) (i : Word) : Prop := ∀ y ∈ (s.sq r).taken, y.idx = i → y.done.isSome = true

theorem State.sweepRing_keeps {code : Nat} {which : Call → Bool} {e : Nat × SqRec} {r : Nat} {i : Word} (h : s.DoneAt r i) :
    (s.sweepRing code which e).DoneAt r i := by
  intro y hy hi
  rw [State.sweepRing, State.sq_of_setSq] at hy
  split at hy
  · next hr =>
    subst hr
    obtain ⟨x, hx, rfl⟩ := List.mem_map.mp hy
    split
    · rfl
    · next hNot => exact h x hx (by rwa [if_neg hNot] at hi)
  · exact h y hy hi

theorem State.sweepRing_done {code : Nat} {which : Call → Bool} {e : Nat × SqRec} {c : Call} (hc : c ∈ e.2.calls)
    (hPlain : c.lsn = none) (hWhich : which c = true) : (s.sweepRing code which e).DoneAt e.1 c.idx := by
  intro y hy hi
  rw [State.sweepRing, State.sq_of_setSq, if_pos rfl] at hy
  obtain ⟨x, -, rfl⟩ := List.mem_map.mp hy
  split
  · rfl
  · next hNot =>
    rw [if_neg hNot] at hi
    have hGone : (e.2.calls.filter (fun c => c.lsn.isNone && which c)).any (fun c => c.idx = x.idx) = true :=
      List.any_eq_true.mpr ⟨c, List.mem_filter.mpr ⟨hc, by simp [hPlain, hWhich]⟩, by simp [hi]⟩
    rw [hGone, Bool.and_true] at hNot
    cases hDone : x.done with
    | none => simp [hDone] at hNot
    | some _ => rfl

theorem State.sweepRings_done {code : Nat} {which : Call → Bool} {l : List (Nat × SqRec)} {e : Nat × SqRec} {c : Call}
    (he : e ∈ l) (hc : c ∈ e.2.calls) (hPlain : c.lsn = none) (hWhich : which c = true) :
    (l.foldl (fun v e => v.sweepRing code which e) s).DoneAt e.1 c.idx := by
  have hKeep (l : List (Nat × SqRec)) (v : State) (h : v.DoneAt e.1 c.idx) :
      (l.foldl (fun v e => v.sweepRing code which e) v).DoneAt e.1 c.idx := by
    induction l generalizing v with
    | nil => exact h
    | cons a l ih => exact ih _ (State.sweepRing_keeps h)
  induction l generalizing s with
  | nil => cases he
  | cons a l ih =>
    rw [List.foldl_cons]
    rcases List.mem_cons.mp he with rfl | hRest
    · exact hKeep _ _ (State.sweepRing_done hc hPlain hWhich)
    · exact ih hRest

/-- The sweep of a takeover leaves no plain command of a ring open (R393). -/
theorem State.sweepPlain_done {code : Nat} {which : Call → Bool} {r : Nat} {c : Call} (hc : c ∈ (s.sq r).calls)
    (hPlain : c.lsn = none) (hWhich : which c = true) : (s.sweepPlain code which).DoneAt r c.idx := by
  have hKnown : (r, s.sq r) ∈ s.hq.sq := by
    rcases Tbl.get_mem sqDefault s.hq.sq r with h | h
    · rw [State.sq, h] at hc
      cases hc
    · exact h
  exact State.sweepRings_done hKnown hc hPlain hWhich

/-- The survivor of a pair, with the takeover's line pending (R406). -/
def State.survivor (s : State) (p : Nat) : KcPair :=
  { s.kc (1 - p) with irq := (s.kc (1 - p)).irq ||| 1#64 <<< (Config.takeoverSource % 64) }

/-- The pair that survives. -/
def otherPair (p : Fin 2) : Fin 2 := ⟨1 - p.val, by omega⟩

theorem otherPair_ne (p : Fin 2) : p ≠ otherPair p := by
  match p with
  | 0 => decide
  | 1 => decide

/-- The plain commands are swept and the takeover is under way; the survivor has not heard of it. -/
def State.takeoverBegun (s : State) (p : Fin 2) : State :=
  let t := s.sweepPlain 0x0D (fun c => decide (s.groupPair 0 = p) || (decide (s.groupPair 1 = p) && serviceGroup c.service = 1))
  { t with ks := { t.ks with taking := addOnce t.ks.taking p } }

theorem State.takeoverBegun_kc (p q : Fin 2) : (s.takeoverBegun p).kc q = s.kc q := by
  have hKs (which : Call → Bool) : (s.sweepPlain 0x0D which).ks = s.ks := State.sweepPlain_moves.same .ks (by decide)
  rw [State.takeoverBegun, State.kc, State.kc, hKs]

theorem State.takeoverBegun_touches (p : Fin 2) : Moves [.trestle, .hq, .ks] s (s.takeoverBegun p) :=
  .ks (by decide) (State.sweepPlain_moves.mono (by decide))

/-- What a takeover and then the survivor's own record touch. -/
theorem State.takeoverBegun_then (p : Fin 2) (h : OnlyTouches [.ks] (s.takeoverBegun p) t) :
    OnlyTouches [.trestle, .hq, .ks] s t :=
  fun q hq => StatePart.same_trans ((State.takeoverBegun_touches p).only q hq)
    (h q (fun hIn => hq (List.mem_cons_of_mem _ (List.mem_cons_of_mem _ hIn))))

theorem State.takeoverBegun_taking (p : Fin 2) : p.val ∈ (s.takeoverBegun p).ks.taking := mem_addOnce _ _

theorem State.taking_setKc (p : Nat) (x : KcPair) : (s.setKc p x).ks.taking = s.ks.taking := by
  unfold State.setKc
  split <;> rfl

theorem exec_takeoverStart {p : Fin 2} (hOwed : s.owesTakeover p = true) (hNew : s.ks.taking.contains p.val = false) :
    exec (.keystoneTakeoverStart p) s
      = .next (((s.takeoverBegun p).setKc (otherPair p) (s.survivor p)).kcTakeInterrupt (otherPair p)) := by
  have hKc := State.takeoverBegun_kc (s := s) p (otherPair p)
  have hPend : (s.takeoverBegun p).kcPend (otherPair p) (1#64 <<< (Config.takeoverSource % 64))
      = (s.takeoverBegun p).setKc (otherPair p) (s.survivor p) := by
    rw [State.kcPend, hKc]
    rfl
  have hGo : (!s.owesTakeover p || s.ks.taking.contains p.val) = false := by rw [hOwed, hNew]; rfl
  rw [← hPend]
  exact if_neg (by rw [hGo]; decide)

theorem exec_takeoverStart_none {p : Fin 2} (h : s.owesTakeover p = false ∨ s.ks.taking.contains p.val = true) :
    exec (.keystoneTakeoverStart p) s = .next s :=
  if_pos (by rcases h with h | h <;> simp only [h, Bool.not_false, Bool.true_or, Bool.or_true])

/-- A group that runs on a failed pair moves to the survivor. -/
def State.groupMoved (s : State) (p g : Nat) : State := if s.groupPair g = p then s.moveGroup g (1 - p) else s

theorem State.groupMoved_moves {p g : Nat} : Moves [.regs] s (s.groupMoved p g) := .ite State.moveGroup_moves .refl

theorem State.groupMoved_same {p g : Nat} (hp : p < 2) (hg : g < 2) : (s.groupMoved p g).groupPair g ≠ p := by
  unfold State.groupMoved
  split
  · rw [State.groupPair_moveGroup hg (by omega) hg, if_pos rfl]
    omega
  · assumption

theorem State.groupMoved_ne {p g h : Nat} (hp : p < 2) (hg : g < 2) (hh : h < 2) (hne : h ≠ g) :
    (s.groupMoved p g).groupPair h = s.groupPair h := by
  unfold State.groupMoved
  split
  · rw [State.groupPair_moveGroup hg (by omega) hh, if_neg hne]
  · rfl

theorem State.groupMoved_fld (p g : Nat) {hi lo : Nat} (h : lo ≤ hi) (hd : hi < 8 ∨ 9 < lo) (o : Nat) :
    (s.groupMoved p g).fld o hi lo = s.fld o hi lo := by
  unfold State.groupMoved
  split
  · exact State.fld_moveGroup _ _ h hd _
  · rfl

/-- The groups of a failed pair have moved to the survivor. -/
def State.groupsMoved (s : State) (p : Nat) : State := (s.groupMoved p 0).groupMoved p 1

theorem State.groupsMoved_moves {p : Nat} : Moves [.regs] s (s.groupsMoved p) :=
  State.groupMoved_moves.trans State.groupMoved_moves

theorem State.groupsMoved_groupPair {p : Nat} (hp : p < 2) :
    (s.groupsMoved p).groupPair 0 ≠ p ∧ (s.groupsMoved p).groupPair 1 ≠ p :=
  ⟨(State.groupMoved_ne hp (by decide) (by decide) (by decide)).trans_ne (State.groupMoved_same hp (by decide)),
    State.groupMoved_same hp (by decide)⟩

theorem State.groupsMoved_fld (p : Nat) {hi lo : Nat} (h : lo ≤ hi) (hd : hi < 8 ∨ 9 < lo) (o : Nat) :
    (s.groupsMoved p).fld o hi lo = s.fld o hi lo :=
  (State.groupMoved_fld p 1 h hd o).trans (State.groupMoved_fld p 0 h hd o)

/-- The takeover of a pair is no longer under way. -/
def State.takingEnded (s : State) (p : Nat) : State :=
  { s with ks := { s.ks with taking := s.ks.taking.filter (fun x => x ≠ p) } }

/-- A takeover that has ended, before its interrupt to the host. -/
def State.takeoverEnded (s : State) (p : Fin 2) : State :=
  (((s.takingEnded p).groupsMoved p).setKsState (1 - p) 1).incMod 0x700000 31 16 1

theorem exec_takeoverDone {p : Fin 2} (hOwed : s.owesTakeover p = true) (hTaking : s.ks.taking.contains p.val = true) :
    exec (.keystoneTakeoverDone p) s = .next ((s.takeoverEnded p).irq 9) :=
  if_neg (by simp only [hOwed, hTaking]; decide)

/-- What the end of a takeover shows in KS_STATUS (R406, R422). -/
theorem State.takeoverEnded_fld (p : Fin 2) {hi lo : Nat} (h : lo ≤ hi) (hd : hi < 16) :
    (s.takeoverEnded p).fld 0x700000 hi lo = (((s.takingEnded p).groupsMoved p).setKsState (1 - p) 1).fld 0x700000 hi lo :=
  State.fld_setFld_ne _ _ _ _ _ _ _ _ (by decide) (by decide) h (by omega)

theorem State.takeoverEnded_groupPair (p : Fin 2) (g : Nat) :
    (s.takeoverEnded p).groupPair g = ((s.takingEnded p).groupsMoved p).groupPair g := by
  have hShown : (s.takeoverEnded p).groupPair g = (((s.takingEnded p).groupsMoved p).setKsState (1 - p) 1).groupPair g := by
    rw [State.groupPair, State.groupPair, State.takeoverEnded_fld p (by decide) (by decide),
      State.takeoverEnded_fld p (by decide) (by decide)]
  exact hShown.trans (State.groupPair_setKsState (by omega) g)

theorem State.takeoverEnded_other (p : Fin 2) : (s.takeoverEnded p).ksState (1 - p) = 1 :=
  (State.takeoverEnded_fld p (by omega) (by omega)).trans (State.ksState_setKsState_same (by omega) (by decide))

theorem State.takeoverEnded_self (p : Fin 2) : (s.takeoverEnded p).ksState p = s.ksState p :=
  (State.takeoverEnded_fld p (by omega) (by omega)).trans
    ((State.ksState_setKsState_ne (by omega) (by omega)).trans (State.groupsMoved_fld p (by omega) (by omega) _))

theorem State.takeoverEnded_count (p : Fin 2) :
    (s.takeoverEnded p).fld 0x700000 31 16 = (s.fld 0x700000 31 16 + 1) % 2 ^ 16 := by
  have hKept : (((s.takingEnded p).groupsMoved p).setKsState (1 - p) 1).fld 0x700000 31 16 = s.fld 0x700000 31 16 := by
    rw [State.fld_setKsState, State.fld_setFld_ne _ _ _ _ _ _ _ _ (by omega) (by omega) (by omega) (by omega)]
    exact State.groupsMoved_fld p (by decide) (by decide) _
  rw [State.takeoverEnded, State.fld_incMod_same _ _ _ _ _ (by decide) (by decide), hKept]

theorem State.takeoverEnded_moves (p : Fin 2) : Moves [.regs, .fc, .ks] s (s.takeoverEnded p) :=
  .step State.incMod_moves (by decide) (.step State.setKsState_moves (by decide) (.step State.groupsMoved_moves (by decide)
    (.ks (by decide) .refl)))

/-! ### Reinstatement and return (R408, R423) -/

theorem getBits_one_lt (v : Word) (i : Nat) : getBits v i i < 2 := by
  have h := getBits_lt v i i
  rwa [Nat.sub_self] at h

theorem State.kc_setKc_nat {p q : Nat} (hp : p < 2) (hq : q < 2) (x : KcPair) :
    (s.setKc p x).kc q = if q = p then x else s.kc q := by
  have h := State.kc_setKc (s := s) (x := x) ⟨p, hp⟩ ⟨q, hq⟩
  simpa only [Fin.mk.injEq] using h

/-- The write of KS_CTRL shows which pair it names. -/
def State.ksCtrlNamed (s : State) (v : Word) : State := s.setFld 0x700004 0 0 (getBits v 0 0)

theorem State.ksCtrlNamed_ksState (v : Word) (p : Nat) : (s.ksCtrlNamed v).ksState p = s.ksState p :=
  State.fld_setFld_reg _ _ _ _ _ _ _ _ (by decide)

theorem State.ksCtrlNamed_groupPair (v : Word) (g : Nat) : (s.ksCtrlNamed v).groupPair g = s.groupPair g := by
  have h (i : Nat) : (s.ksCtrlNamed v).fld 0x700000 i i = s.fld 0x700000 i i := State.fld_setFld_reg _ _ _ _ _ _ _ _ (by decide)
  rw [State.groupPair, State.groupPair, h, h]

theorem State.ksCtrlNamed_moves (v : Word) : Moves [.regs] s (s.ksCtrlNamed v) := State.setFld_moves

theorem State.writeKsCtrl_reinstates {v : Word} (hSet : getBits v 1 1 = 1) (hClear : getBits v 2 2 = 0) :
    s.writeKsCtrl v = if s.ksState (getBits v 0 0) = 2
      then ((s.ksCtrlNamed v).setKc (getBits v 0 0) {}).setKsState (getBits v 0 0) 3
      else (s.ksCtrlNamed v).refusedWrite 0x700004 := by
  unfold State.writeKsCtrl
  dsimp only
  rw [hSet, hClear, if_pos rfl, if_neg (by decide), ← State.ksCtrlNamed, State.ksCtrlNamed_ksState]

theorem State.writeKsCtrl_returns {v : Word} (hClear : getBits v 1 1 = 0) (hSet : getBits v 2 2 = 1) :
    s.writeKsCtrl v = if s.ksState (getBits v 0 0) = 4
      then ((s.ksCtrlNamed v).moveGroup (getBits v 0 0) (getBits v 0 0)).setKsState (getBits v 0 0) 1
      else (s.ksCtrlNamed v).refusedWrite 0x700004 := by
  unfold State.writeKsCtrl
  dsimp only
  rw [hSet, hClear, if_pos rfl, if_neg (by decide), ← State.ksCtrlNamed, State.ksCtrlNamed_ksState]

theorem exec_reinstate {v : Word} (h : s.closed 0x700004 = false) : exec (.keystoneReinstate v) s = .next (s.writeKsCtrl v) :=
  if_neg (by rw [h]; decide)

theorem exec_return {v : Word} (h : s.closed 0x700004 = false) : exec (.keystoneReturn v) s = .next (s.writeKsCtrl v) :=
  if_neg (by rw [h]; decide)

/-- A request that the pair's state does not allow latches class N and nothing else of the pairs. -/
theorem State.ksCtrlRefused (v : Word) :
    (∀ p, p < 2 → ((s.ksCtrlNamed v).refusedWrite 0x700004).ksState p = s.ksState p) ∧
      ((s.ksCtrlNamed v).refusedWrite 0x700004).ks = s.ks ∧
      (((s.ksCtrlNamed v).refusedWrite 0x700004).source (srcChip 0 1)).cause = true ∧
      (((s.ksCtrlNamed v).refusedWrite 0x700004).source (srcChip 0 1)).cls = .n := by
  obtain ⟨hCause, hCls⟩ := State.refusedWrite_shows (s := s.ksCtrlNamed v) 0x700004
  exact ⟨fun p _ => ((State.refusedWrite_frame _).fld (by decide) _ _).trans (State.ksCtrlNamed_ksState v p),
    ((State.refusedWrite_n_moves _).same .ks (by decide)).trans ((State.ksCtrlNamed_moves v).same .ks (by decide)),
      hCause, hCls⟩

theorem State.setKsState_stays {p v : Nat} (hv : v ≠ 1) : s.setKsState p v = s.setFld 0x700000 (3 * p + 2) (3 * p) v :=
  if_neg hv

/-- Settles O55: a failure is class S while the other pair runs (`pairFails_fails`) and class D else (`pairFails_safe`); the
sweep of a takeover finishes every plain command (`sweepPlain_done`), and its end moves the groups (`groupsMoved_groupPair`). -/
theorem keystonePairsFailAndReturn : Obligations.KeystonePairsFailAndReturn := by
  unfold Obligations.KeystonePairsFailAndReturn
  refine ⟨?mismatch, ?mismatchLast, ?mismatchStopped, ?watchdog, ?watchdogLast, ?watchdogStopped, ?start, ?startTaken,
    ?startNone,
    ?done, ?doneNone, ?reinstate, ?reinstateRefused, ?reinstateSealed, ?returns, ?returnRefused, ?returnSealed, ?passed,
      ?failed,
    ?noTest⟩
  case mismatch =>
    intro p s hRuns hOther
    have h := State.pairFails_fails (elem := 0) (c := 0) (double := false) (mismatch := true) (watchdog := false) (by decide)
      hRuns hOther
    exact ⟨_, rfl, h.halted, h.fenced, h.cause, h.cls, h.others, h.mismatch, h.chip⟩
  case mismatchLast =>
    intro p s hRuns hOther hOn hAlone hPaired
    exact ⟨_, rfl, State.pairFails_safe hRuns hOther hOn hAlone hPaired⟩
  case mismatchStopped =>
    intro p s hRuns
    exact ⟨_, rfl, State.pairFails_stopped hRuns⟩
  case watchdog =>
    intro p s hRuns hOther
    have h := State.pairFails_fails (elem := 2) (c := 0) (double := false) (mismatch := false) (watchdog := true) (by decide)
      hRuns hOther
    exact ⟨_, rfl, h.halted, h.fenced, h.cause, h.cls, h.others, h.watchdog, h.chip⟩
  case watchdogLast =>
    intro p s hRuns hOther hOn hAlone hPaired
    exact ⟨_, rfl, State.pairFails_safe hRuns hOther hOn hAlone hPaired⟩
  case watchdogStopped =>
    intro p s hRuns
    exact ⟨_, rfl, State.pairFails_stopped hRuns⟩
  case start =>
    intro p s hOwed hNew hNone
    have hStays := State.setKc_takesNone (s := s.takeoverBegun p) (p := otherPair p) (x := s.survivor p) hNone
    obtain ⟨hPair, hOthers, hTouches⟩ := State.setKc_puts (s := s.takeoverBegun p) (otherPair p) (s.survivor p)
    refine ⟨_, (exec_takeoverStart hOwed hNew).trans (congrArg _ hStays), ?_,
      (hOthers p (otherPair_ne p)).trans (State.takeoverBegun_kc p p), hPair, fun hHost r c hc hPlain y hy hi => ?_,
      State.takeoverBegun_then p hTouches⟩
    · rw [State.taking_setKc]
      exact State.takeoverBegun_taking p
    · rw [State.sq_of_hq (State.setKc_moves.same .hq (by decide))] at hy
      exact State.sweepPlain_done (code := 0x0D) hc hPlain (by simp [hHost]) y hy hi
  case startTaken =>
    intro p i s hOwed hNew hSome
    obtain ⟨hEpc, hTakes, hOthers, hTouches⟩ := State.setKc_takes (s := s.takeoverBegun p) (p := otherPair p)
      (x := s.survivor p) hSome
    refine ⟨_, exec_takeoverStart hOwed hNew, ?_, (hOthers p (otherPair_ne p)).trans (State.takeoverBegun_kc p p), hEpc,
      hTakes.ecause,
      hTakes.active, hTakes.vector,
      State.takeoverBegun_then p hTouches⟩
    rw [State.kcTakeInterrupt_some (p := otherPair p) (by rwa [State.kc_setKc_same]), State.taking_setKc, State.taking_setKc]
    exact State.takeoverBegun_taking p
  case startNone =>
    intro p s h
    exact ⟨s, exec_takeoverStart_none h, rfl⟩
  case done =>
    intro p s hOwed hTaking
    obtain ⟨hHost, hSafe⟩ := State.groupsMoved_groupPair (s := s.takingEnded p) p.isLt
    have hIrq := State.irq_frame (s := s.takeoverEnded p) 9
    have hGroup (g : Nat) : ((s.takeoverEnded p).irq 9).groupPair g = (s.takeoverEnded p).groupPair g := by
      rw [State.groupPair, State.groupPair, hIrq.fld (by decide), hIrq.fld (by decide)]
    refine ⟨_, exec_takeoverDone hOwed hTaking, ?_, ?_, ?_, (hIrq.fld (by decide) _ _).trans (State.takeoverEnded_other p),
      (hIrq.fld (by decide) _ _).trans (State.takeoverEnded_self p), (hIrq.fld (by decide) _ _).trans
        (State.takeoverEnded_count p),
      (Moves.step State.irq_moves (by decide) ((State.takeoverEnded_moves p).mono (by decide))).only⟩
    · have hKs : ((s.takeoverEnded p).irq 9).ks = (s.takingEnded p).ks :=
        (State.irq_moves.same .ks (by decide)).trans ((State.incMod_moves.same .ks (by decide)).trans
          ((State.setKsState_moves.same .ks (by decide)).trans (State.groupsMoved_moves.same .ks (by decide))))
      rw [hKs, State.takingEnded]
      simp
    · rw [hGroup, State.takeoverEnded_groupPair]
      exact hHost
    · rw [hGroup, State.takeoverEnded_groupPair]
      exact hSafe
  case doneNone =>
    intro p s h
    exact ⟨s, if_pos (by rcases h with h | h <;> simp only [h, Bool.not_false, Bool.true_or, Bool.or_true]), rfl⟩
  case reinstate =>
    intro v s hOpen hSet hClear hHalted
    have hp := getBits_one_lt v 0
    refine ⟨_, (exec_reinstate hOpen).trans (congrArg _ ((State.writeKsCtrl_reinstates hSet hClear).trans (if_pos hHalted))),
      State.ksState_setKsState_same hp (by decide), ?_, ?_, ?_, ?_⟩
    · rw [State.setKsState_stays (by decide)]
      exact (State.kc_setKc_nat hp hp _).trans (if_pos rfl)
    · rw [State.setKsState_stays (by decide)]
      exact (State.kc_setKc_nat hp (by omega) _).trans (if_neg (by omega))
    · rw [State.ksState_setKsState_ne hp (by omega), State.ksState_moves State.setKc_moves (by decide),
        State.ksCtrlNamed_ksState]
    · rw [State.setKsState_stays (by decide)]
      exact (Moves.step State.setFld_moves (by decide) (.step State.setKc_moves (by decide)
        ((State.ksCtrlNamed_moves v).mono (by decide)))).only
  case reinstateRefused =>
    intro v s hOpen hSet hClear hNot
    exact ⟨_, (exec_reinstate hOpen).trans (congrArg _ ((State.writeKsCtrl_reinstates hSet hClear).trans (if_neg hNot))),
      State.ksCtrlRefused v⟩
  case reinstateSealed =>
    intro v s h
    exact ⟨s, if_pos h, rfl⟩
  case returns =>
    intro v s hOpen hClear hSet hStands
    have hp := getBits_one_lt v 0
    refine ⟨_, (exec_return hOpen).trans (congrArg _ ((State.writeKsCtrl_returns hClear hSet).trans (if_pos hStands))),
      State.ksState_setKsState_same hp (by decide), ?_, ?_, ?_, ?_⟩
    · rw [State.groupPair_setKsState hp, State.groupPair_moveGroup hp hp hp, if_pos rfl]
    · rw [State.groupPair_setKsState hp, State.groupPair_moveGroup hp hp (by omega), if_neg (by omega),
        State.ksCtrlNamed_groupPair]
    · exact (State.setKsState_moves.same .ks (by decide)).trans ((State.moveGroup_moves.same .ks (by decide)).trans
        ((State.ksCtrlNamed_moves v).same .ks (by decide)))
    · exact (Moves.step State.setKsState_moves (by decide) (.step State.moveGroup_moves (by decide)
        ((State.ksCtrlNamed_moves v).mono (by decide)))).only
  case returnRefused =>
    intro v s hOpen hClear hSet hNot
    exact ⟨_, (exec_return hOpen).trans (congrArg _ ((State.writeKsCtrl_returns hClear hSet).trans (if_neg hNot))),
      State.ksCtrlRefused v⟩
  case returnSealed =>
    intro v s h
    exact ⟨s, if_pos h, rfl⟩
  case passed =>
    intro p s hTest
    refine ⟨(s.setKsState p 4).unfence (partyPair p), (if_neg (not_not_intro hTest)).trans (if_pos rfl), ?_, ?_, ?_, ?_⟩
    · exact State.ksState_setKsState_same p.isLt (by decide)
    · simp [State.fenced, State.unfence]
    · exact (State.unfence_moves.same .ks (by decide)).trans (State.setKsState_moves.same .ks (by decide))
    · exact (Moves.step State.unfence_moves (by decide) (State.setKsState_moves.mono (by decide))).only
  case failed =>
    intro p s hTest
    have hMoves := State.latchFault_n_moves (s := s.setKsState p 2) (srcChip (0x0F + p) 0) 0 false false (srcChip_le _ _)
    obtain ⟨hCause, hCls⟩ := State.latchFault_n_shows (s := s.setKsState p 2) (srcChip (0x0F + p) 0) 0 false false
    refine ⟨_, (if_neg (not_not_intro hTest)).trans (if_neg (by decide)), ?_, hCause, hCls, fun x hx => ?_, ?_, ?_⟩
    · exact ((State.latchFault_frame _ _ _ _ _ (by decide)).fld (by decide) _ _).trans
        (State.ksState_setKsState_same p.isLt (by decide))
    · rw [State.latchFault_n_source, if_neg hx, State.setKsState_2]
      exact State.source_moves State.setFld_moves (by decide) x
    · exact (hMoves.same .ks (by decide)).trans (State.setKsState_moves.same .ks (by decide))
    · exact (hMoves.same .chip (by decide)).trans (State.setKsState_moves.same .chip (by decide))
  case noTest =>
    intro p passed s hTest
    exact ⟨s, if_pos hTest, rfl⟩

end Sys2Proof.Machine
end

section
/-! PROOFS. Frequency concord: rounds that open, frames of a round, and rounds that close (R474 to R477, R483). -/

namespace Sys2Proof.Machine

variable {s t u : State}

/-! ### The rounds known: what leaves them alone -/

theorem State.setTarget25_votes (v : Nat) : (s.setTarget25 v).pwr.votes = s.pwr.votes := by
  unfold State.setTarget25
  split
  · rfl
  · rw [State.commandTarget_pwr]

theorem State.dropRise_votes : s.dropRise.pwr.votes = s.pwr.votes := by
  unfold State.dropRise
  split
  · rfl
  · exact State.setTarget25_votes _

theorem State.armChange_votes (op mark : Nat) : (s.armChange op mark).pwr.votes = s.pwr.votes := State.dropRise_votes

theorem State.schedulePoint_votes : s.schedulePoint.pwr.votes = s.pwr.votes := by
  have hShown : s.showCaps.pwr.votes = s.pwr.votes := congrArg PwrState.votes State.showCaps_pwr
  unfold State.schedulePoint
  dsimp only
  split
  · exact hShown
  · split
    · exact (State.armChange_votes _ _).trans hShown
    · exact hShown

theorem State.startRise_votes : s.startRise.pwr.votes = s.pwr.votes := by
  unfold State.startRise
  dsimp only
  split
  · rfl
  · rw [State.commandTarget_pwr]

/-! ### A round opens (R476) -/

theorem Vote.hear_spec (v : Vote) (op dev : Nat) :
    (v.hear op dev).opened = v.opened ∧ (v.hear op dev).sec = v.sec ∧ (v.hear op dev).ns = v.ns
      ∧ (v.hear op dev).minOp ≤ v.minOp := by
  unfold Vote.hear
  split
  · next h => exact ⟨rfl, rfl, rfl, by rcases h with h | h <;> dsimp only <;> omega⟩
  · exact ⟨rfl, rfl, rfl, Nat.le_refl _⟩

/-- The vote that a member puts in when it opens a round: its own request. -/
def State.ownVote (s : State) : Vote :=
  { sec := s.nextConcordMark / 1000000000 % 2 ^ 48, ns := s.nextConcordMark % 1000000000, minOp := s.request,
    minDev := s.deviceId, opened := true }

/-- The vote of a round that opens, with what has been heard of it before. -/
def State.openingVote (s : State) : Vote :=
  match s.pwr.votes.find? (fun x => x.sec = s.ownVote.sec && x.ns = s.ownVote.ns) with
  | some x => s.ownVote.hear x.minOp x.minDev
  | none => s.ownVote

theorem State.openingVote_spec (s : State) : s.openingVote.opened = true ∧ s.openingVote.sec = s.ownVote.sec
    ∧ s.openingVote.ns = s.ownVote.ns ∧ s.openingVote.minOp ≤ s.request := by
  unfold State.openingVote
  split
  · exact Vote.hear_spec s.ownVote _ _
  · exact ⟨rfl, rfl, rfl, Nat.le_refl _⟩

theorem State.openRound_pwr : s.openRound.pwr.member = true ∧ s.openRound.pwr.votes.head? = some s.openingVote := by
  have hPut : s.openRound.pwr = (({ s with pwr := { s.pwr with
      member := true, votes := s.pwr.votes.filter (fun v => decide (s.nextConcordMark < v.mark)) } } : State).putVote
        s.openingVote).pwr := State.sendConcord_moves.same .pwr (by decide)
  rw [hPut]
  exact ⟨rfl, rfl⟩

/-- The device is no member any more; its policy does not govern yet. -/
def State.memberLeft (s : State) : State :=
  ({ s with pwr := { s.pwr with member := false, votes := [] } } : State).setFld 0x300008 25 23 7

theorem State.memberLeft_pwr : s.memberLeft.pwr = { s.pwr with member := false, votes := [] } :=
  State.setFld_moves.same .pwr (by decide)

theorem State.leaveGroup_spec : s.leaveGroup.inGroup = false ∧ s.leaveGroup.pwr.votes = [] ∧
    s.leaveGroup.fld 0x300008 25 23 = 7 := by
  have hLeave : s.leaveGroup = s.memberLeft.schedulePoint := rfl
  rw [hLeave, State.inGroup, State.schedulePoint_keepsCaps.member, State.schedulePoint_votes, State.memberLeft_pwr,
    State.schedulePoint_status (by decide) (by decide), State.memberLeft,
    State.fld_setFld_same _ _ _ _ _ (by decide) (by decide)]
  exact ⟨rfl, rfl, rfl⟩

/-! ### A frame of a round (R475, R476) -/

/-- The payload of a CONCORD frame is kept as the last one of its link. -/
def State.heardOn (s : State) (n : Nat) (payload : List Byte) : State :=
  { s with pwr := { s.pwr with heard := Tbl.put (fun _ => ([] : List Byte)) s.pwr.heard n payload } }

/-- The vote that a frame carries. -/
def frameVote (payload : List Byte) : Vote :=
  { sec := beNat (sliceBytes payload 2 6), ns := beNat (sliceBytes payload 8 4), minOp := beNat (sliceBytes payload 12 1),
    minDev := beNat (sliceBytes payload 14 2) % 4096, opened := false }

/-- The frame comes over a usable link with a whole payload, to a service that runs. -/
def State.hearsConcord (s : State) (n : Four) (payload : List Byte) : Prop :=
  payload.length = 16 ∧ s.pierUsable n = true ∧ s.groupServed 1 = true

section
variable {n : Four} {payload : List Byte}

theorem State.hearsConcord.go (h : s.hearsConcord n payload) :
    (payload.length ≠ 16 || !s.pierUsable n || !s.groupServed 1) = false := by
  obtain ⟨hLength, hUsable, hServed⟩ := h
  simp [hLength, hUsable, hServed]

theorem exec_concord_outside (h : s.hearsConcord n payload) (hOut : s.inGroup = false) (hOff : s.bit 0x300040 31 = false) :
    exec (.concord n payload) s = .next (s.heardOn n payload) := by
  have hSkip : (!((s.heardOn n payload).bit 0x300040 31 || (s.heardOn n payload).inGroup)) = true := by
    rw [show (s.heardOn n payload).bit 0x300040 31 = s.bit 0x300040 31 from rfl, hOff,
      show (s.heardOn n payload).inGroup = s.inGroup from rfl, hOut]
    rfl
  have hAll : (!((s.heardOn n payload).bit 0x300040 31 || (s.heardOn n payload).inGroup)
      || !(s.heardOn n payload).bit 0x300040 (24 + n.val)
      || beNat (sliceBytes payload 0 2) ≠ (s.heardOn n payload).fld 0x300040 15 0) = true := by
    rw [hSkip, Bool.true_or, Bool.true_or]
  exact (if_neg (ne_true_of_eq_false h.go)).trans (if_pos hAll)

/-- The frame is one of the device's group. -/
def State.ofGroup (s : State) (n : Four) (payload : List Byte) : Prop :=
  s.inGroup = true ∧ s.bit 0x300040 (24 + n.val) = true ∧ beNat (sliceBytes payload 0 2) = s.fld 0x300040 15 0

theorem State.ofGroup.go (h : s.ofGroup n payload) :
    (!((s.heardOn n payload).bit 0x300040 31 || (s.heardOn n payload).inGroup)
      || !(s.heardOn n payload).bit 0x300040 (24 + n.val)
      || beNat (sliceBytes payload 0 2) ≠ (s.heardOn n payload).fld 0x300040 15 0) = false := by
  obtain ⟨hIn, hLink, hId⟩ := h
  rw [show (s.heardOn n payload).inGroup = s.inGroup from rfl, hIn,
    show (s.heardOn n payload).bit 0x300040 (24 + n.val) = s.bit 0x300040 (24 + n.val) from rfl, hLink,
    show (s.heardOn n payload).fld 0x300040 15 0 = s.fld 0x300040 15 0 from rfl, hId, Bool.or_true]
  simp

theorem exec_concord_late (h : s.hearsConcord n payload) (hGroup : s.ofGroup n payload)
    (hOver : s.roundOver (frameVote payload).mark = true) :
    exec (.concord n payload) s = .next ((s.heardOn n payload).incSat 0x300044 15 8 1) :=
  (if_neg (ne_true_of_eq_false h.go)).trans ((if_neg (ne_true_of_eq_false hGroup.go)).trans (if_pos hOver))

theorem exec_concord_new (h : s.hearsConcord n payload) (hGroup : s.ofGroup n payload)
    (hOver : s.roundOver (frameVote payload).mark = false)
    (hNew : s.pwr.votes.find? (fun x => x.sec = (frameVote payload).sec && x.ns = (frameVote payload).ns) = none) :
    exec (.concord n payload) s = .next ((s.heardOn n payload).putVote (frameVote payload)) := by
  have hKeep : exec (.concord n payload) s
      = match s.pwr.votes.find? (fun x => x.sec = (frameVote payload).sec && x.ns = (frameVote payload).ns) with
        | some v =>
          if v.hear (frameVote payload).minOp (frameVote payload).minDev = v then .next (s.heardOn n payload)
          else if v.opened then .next (((s.heardOn n payload).putVote
              (v.hear (frameVote payload).minOp (frameVote payload).minDev)).sendConcord
                (v.hear (frameVote payload).minOp (frameVote payload).minDev))
          else .next ((s.heardOn n payload).putVote (v.hear (frameVote payload).minOp (frameVote payload).minDev))
        | none => .next ((s.heardOn n payload).putVote (frameVote payload)) :=
    (if_neg (ne_true_of_eq_false h.go)).trans ((if_neg (ne_true_of_eq_false hGroup.go)).trans
      (if_neg (ne_true_of_eq_false hOver)))
  rw [hKeep, hNew]

/-- A vote for a round that is not known is added, and every other stays. -/
theorem State.putVote_new {v : Vote} (h : s.pwr.votes.find? (fun x => x.sec = v.sec && x.ns = v.ns) = none) :
    v ∈ (s.putVote v).pwr.votes ∧ ∀ x ∈ s.pwr.votes, x ∈ (s.putVote v).pwr.votes := by
  refine ⟨List.mem_cons_self, fun x hx => List.mem_cons_of_mem _ (List.mem_filter.mpr ⟨hx, ?_⟩)⟩
  have hOther := List.find?_eq_none.mp h x hx
  simpa [← Bool.not_and] using hOther

end

/-! ### A round closes (R476) -/

/-- A link of the group is down as its round closes. -/
def State.linkMissing (s : State) : Bool := (List.range 4).any (fun i => s.bit 0x300040 (24 + i) && !s.pierUsable i)

/-- The round is closed, and its outcome shown; a missing link is not reported yet. -/
def State.roundShown (s : State) (v : Vote) : State :=
  let s := { s with pwr := { s.pwr with votes := s.pwr.votes.filter (fun x => !x.opened), closed := some (v.sec, v.ns) } }
  ((s.setFld 0x300044 31 29 (min 5 v.minOp)).setFld 0x300044 27 16 v.minDev).incMod 0x300044 7 0 1

/-- The round is closed, with a missing link as a class-N fault. -/
def State.roundClosed (s : State) (v : Vote) : State :=
  if (s.roundShown v).linkMissing then ((s.roundShown v).setBit 0x300044 28 true).latchFault (srcChip 0x14 2) .n
  else s.roundShown v

theorem exec_concordRoundClose {v : Vote} (hServed : s.groupServed 1 = true) (hOpen : s.openVote = some v)
    (hIn : s.inGroup = true) :
    exec .concordRoundClose s = .next ((s.roundClosed v).armChange (min 5 v.minOp) v.mark).startRise := by
  have hGo : (!s.inGroup || !s.groupServed 1) = false := by rw [hIn, hServed]; rfl
  simp only [exec, execConcordRoundClose, hOpen]
  exact if_neg (by rw [hGo]; decide)

theorem State.roundShown_pwr (v : Vote) : (s.roundShown v).pwr
    = { s.pwr with votes := s.pwr.votes.filter (fun x => !x.opened), closed := some (v.sec, v.ns) } :=
  (State.incMod_moves.same .pwr (by decide)).trans ((State.setFld_moves.same .pwr (by decide)).trans
    (State.setFld_moves.same .pwr (by decide)))

theorem State.roundShown_fld (v : Vote) : (s.roundShown v).fld 0x300044 31 29 = min 5 v.minOp ∧
    (s.roundShown v).fld 0x300044 27 16 = v.minDev % 4096 ∧
      (s.roundShown v).fld 0x300044 7 0 = (s.fld 0x300044 7 0 + 1) % 256 := by
  unfold State.roundShown
  dsimp only
  refine ⟨?_, ?_, ?_⟩
  · rw [State.incMod, State.fld_setFld_ne _ _ _ _ _ _ _ _ (by decide) (by decide) (by decide) (by decide),
      State.fld_setFld_ne _ _ _ _ _ _ _ _ (by decide) (by decide) (by decide) (by decide),
      State.fld_setFld_same _ _ _ _ _ (by decide) (by decide)]
    omega
  · rw [State.incMod, State.fld_setFld_ne _ _ _ _ _ _ _ _ (by decide) (by decide) (by decide) (by decide),
      State.fld_setFld_same _ _ _ _ _ (by decide) (by decide)]
    rfl
  · rw [State.fld_incMod_same _ _ _ _ _ (by decide) (by decide),
      State.fld_setFld_ne _ _ _ _ _ _ _ _ (by decide) (by decide) (by decide) (by decide),
      State.fld_setFld_ne _ _ _ _ _ _ _ _ (by decide) (by decide) (by decide) (by decide)]
    rfl

theorem State.roundClosed_pwr (v : Vote) : (s.roundClosed v).pwr = (s.roundShown v).pwr := by
  unfold State.roundClosed
  split
  · exact ((State.latchFault_n_moves _ _ _ _ (by decide)).same .pwr (by decide)).trans (State.setBit_moves.same .pwr
      (by decide))
  · rfl

theorem State.roundClosed_fld (v : Vote) {hi lo : Nat} (h : lo ≤ hi) (hd : 28 < lo ∨ hi < 28) :
    (s.roundClosed v).fld 0x300044 hi lo = (s.roundShown v).fld 0x300044 hi lo := by
  unfold State.roundClosed
  split
  · exact ((State.latchFault_frame _ _ _ _ _ (by decide)).fld (by decide) _ _).trans
      (State.fld_setBit_ne (by decide) h (by omega) _)
  · rfl

/-- Settles O41: a round opens with the member's own vote (`openingVote_spec`), a frame for an unknown round is added
(`putVote_new`), and closing shows the minimum and arms CS63 (`roundShown_fld`, `armChange_pending`). -/
theorem concordRounds : Obligations.ConcordRounds := by
  unfold Obligations.ConcordRounds
  refine ⟨?opens, ?leaves, ?outside, ?late, ?new, ?nothing, ?closes⟩
  case opens =>
    intro s hServed hEn
    obtain ⟨hMember, hFirst⟩ := State.openRound_pwr (s := s)
    obtain ⟨hOpened, hSec, hNs, hMin⟩ := s.openingVote_spec
    exact ⟨_, (if_neg (by rw [hServed]; decide)).trans (if_pos hEn), ⟨_, hFirst, hOpened, hSec, hNs, hMin⟩, hMember,
      State.openRound_moves.only⟩
  case leaves =>
    intro s hServed hEn hIn
    obtain ⟨hOut, hVotes, hPoint⟩ := State.leaveGroup_spec (s := s)
    exact ⟨_, (if_neg (by rw [hServed]; decide)).trans ((if_neg (by rw [hEn]; decide)).trans (if_pos hIn)), hOut, hVotes,
      hPoint,
      State.leaveGroup_moves.same .chip (by decide)⟩
  case outside =>
    intro n payload s hLength hUsable hServed hOut hEn
    exact ⟨_, exec_concord_outside ⟨hLength, hUsable, hServed⟩ hOut hEn, rfl,
      (Tbl.get_put _ _ _ _ _).trans (if_pos rfl), (Moves.pwr (by decide) .refl).only⟩
  case late =>
    intro n payload s hLength hUsable hServed hIn hLink hId hOver
    refine ⟨_, exec_concord_late ⟨hLength, hUsable, hServed⟩ ⟨hIn, hLink, hId⟩ hOver,
      State.fld_incSat_same _ _ _ _ _ (by decide) (by decide), ?_, fun o ho => State.reg_setFld_ne _ _ _ _ _ _ ho, ?_⟩
    · have hPwr : ((s.heardOn n payload).incSat 0x300044 15 8 1).pwr = (s.heardOn n payload).pwr :=
        State.incSat_moves.same .pwr (by decide)
      rw [hPwr]
      rfl
    · exact (Moves.step State.incSat_moves (by decide) (.pwr (by decide) .refl)).only
  case new =>
    intro n payload s hLength hUsable hServed hIn hLink hId hOver hNew
    obtain ⟨hAdded, hKept⟩ := State.putVote_new (s := s.heardOn n payload) (v := frameVote payload) hNew
    exact ⟨_, exec_concord_new ⟨hLength, hUsable, hServed⟩ ⟨hIn, hLink, hId⟩ hOver hNew, hAdded, hKept,
      (Moves.step State.putVote_moves (by decide) (.pwr (by decide) .refl)).only⟩
  case nothing =>
    intro n payload s
    refine ⟨fun h => ?_, fun h => if_pos ?_, fun h => ?_⟩
    · rcases h with h | ⟨hEn, hOut⟩
      · exact if_pos (by rw [h]; rfl)
      · simp only [exec, execConcordRoundOpen, hEn, hOut, if_neg Bool.false_ne_true, ite_self]
    · rcases h with h | h | h <;> simp [h]
    · simp only [exec, execConcordRoundClose]
      split
      · rfl
      · next v hOpen =>
        refine if_pos ?_
        rcases h with h | h | h
        · simp [h]
        · rw [h] at hOpen; cases hOpen
        · simp [h]
  case closes =>
    intro v s hServed hOpen hIn
    obtain ⟨hPoint, hDev, hCount⟩ := State.roundShown_fld (s := s) v
    have hPwr := (State.roundClosed_pwr (s := s) v).trans (State.roundShown_pwr v)
    have hKeeps : KeepsCaps (s.roundClosed v) ((s.roundClosed v).armChange (min 5 v.minOp) v.mark).startRise :=
      (State.armChange_keepsCaps _ _).trans State.startRise_keepsCaps
    have hFld (hi lo : Nat) : ((s.roundClosed v).armChange (min 5 v.minOp) v.mark).startRise.fld 0x300044 hi lo
        = (s.roundClosed v).fld 0x300044 hi lo :=
      (State.startRise_writes.fld (by decide) _ _).trans ((State.armChange_writes _ _).fld (by decide) _ _)
    have hSlot : ((s.roundClosed v).armChange (min 5 v.minOp) v.mark).startRise.reg 0x2027F0
        = ((s.roundClosed v).armChange (min 5 v.minOp) v.mark).reg 0x2027F0 := State.startRise_writes _ (by decide)
    refine ⟨_, exec_concordRoundClose hServed hOpen hIn, ?_, fun x hx => ?_, ?_, ?_, ?_, ?_, ?_⟩
    · rw [hKeeps.closed, hPwr]
    · rw [State.startRise_votes, State.armChange_votes, hPwr] at hx
      simpa using (List.mem_filter.mp hx).2
    · rw [hFld, State.roundClosed_fld v (by decide) (by decide), hPoint]
    · rw [hFld, State.roundClosed_fld v (by decide) (by decide), hDev]
    · rw [hFld, State.roundClosed_fld v (by decide) (by decide), hCount]
    · rw [State.changePending_eq, hSlot, ← State.changePending_eq]
      exact State.armChange_pending _ (Nat.min_le_left _ _)
    · rw [State.slotArg_63, hSlot, ← State.slotArg_63]
      exact State.armChange_arg _ (Nat.min_le_left _ _)

end Sys2Proof.Machine
end

section
/-! PROOFS. Caps, samples of the sensors, droop and rails (R441, R466, R467, R471, R472, R511). -/

namespace Sys2Proof.Machine

variable {s t u : State}

/-! ### What a fault leaves of the thermal record (R443, R466) -/

/-- From `s` to `t` the readings, and the caps that hang on them, are as they were. -/
structure KeepsSample (s t : State) : Prop where
  temps : t.pwr.temps = s.pwr.temps
  hot : t.pwr.hot = s.pwr.hot
  throttle : t.pwr.throttle = s.pwr.throttle
  tjmax : t.pwr.tjmax = s.pwr.tjmax

theorem KeepsSample.of_pwr (h : t.pwr = s.pwr) : KeepsSample s t := by
  constructor <;> rw [h]

theorem KeepsSample.refl : KeepsSample s s := .of_pwr rfl

theorem KeepsSample.trans (h : KeepsSample s t) (k : KeepsSample t u) : KeepsSample s u :=
  ⟨k.temps.trans h.temps, k.hot.trans h.hot, k.throttle.trans h.throttle, k.tjmax.trans h.tjmax⟩

theorem KeepsSample.moves {ps : List StatePart} (h : Moves ps s t) (hp : .pwr ∉ ps) : KeepsSample s t :=
    .of_pwr (h.same .pwr hp)

theorem KeepsCaps.sample (h : KeepsCaps s t) : KeepsSample s t := ⟨h.temps, h.hot, h.throttle, h.tjmax⟩

theorem State.enterSafe_keepsSample (src cause : Nat) : KeepsSample s (s.enterSafe src cause) := by
  have hMark : KeepsSample s (s.showSafe src cause).markSafe :=
    (KeepsSample.moves State.showSafe_moves (by decide)).trans (.moves State.markSafe_moves (by decide))
  have hStomp {x : State} : KeepsSample x (x.endSwitches.stompPorts x.endSwitches.busyPorts) :=
    (KeepsSample.moves State.endSwitches_moves (by decide)).trans (.moves State.stompPorts_moves (by decide))
  have hAbort {x : State} : KeepsSample x ((x.pierPropagate src .d).abortJoint 4) :=
    (KeepsSample.moves State.pierPropagate_moves (by decide)).trans (.moves State.abortJoint_moves (by decide))
  have hHalt {x : State} : KeepsSample x ((List.range 16).foldl (fun s n => s.haltEngine n 3) x) :=
    .moves (ps := [.trestle]) (Moves.fold (fun _ _ => State.haltEngine_moves) .refl) (by decide)
  have hCap {x : State} : KeepsSample x x.capSafe.overrideStarts :=
    (⟨rfl, rfl, rfl, rfl⟩ : KeepsSample x x.capSafe).trans State.overrideStarts_keepsCaps.sample
  unfold State.enterSafe
  split
  · exact .refl
  · exact (((hMark.trans hStomp).trans hAbort).trans hHalt).trans hCap

theorem State.latchFault_d_keepsSample (src detail : Nat) (live threshold : Bool) :
    KeepsSample s (s.latchFault src .d detail live threshold) := by
  have hLatch (b c : Bool) : KeepsSample s (((s.setReacting b).latchCore src .d detail live threshold c).haltFor src) :=
    ((KeepsSample.moves State.setReacting_moves (by decide)).trans (.moves State.latchCore_moves (by decide))).trans
      (.moves State.haltFor_moves (by decide))
  have hReact (x : State) : KeepsSample x (x.decideFault src .d) := by
    unfold State.decideFault State.react
    split
    · dsimp -proj only
      split
      · exact .moves State.pierPropagate_moves (by decide)
      · exact State.enterSafe_keepsSample _ _
    · exact .moves (ps := [.fc]) (.fc (by decide) .refl) (by decide)
  unfold State.latchFault
  dsimp -proj only
  refine KeepsSample.trans ?_ (.moves State.setReacting_moves (by decide))
  split
  · exact hLatch _ _
  · exact (hLatch _ _).trans (hReact _)

/-! ### A sample of the sensors (R441, R466, R471) -/

/-- The readings of a sample, with their offsets. -/
def State.readings (s : State) (temps : List Int) : List Int := (List.range 64).map (fun i => temps.getD i 0 + s.calValue 2 i)

theorem State.readings_getD (temps : List Int) {i : Nat} (h : i < 64) :
    (s.readings temps).getD i 0 = temps.getD i 0 + s.calValue 2 i := by
  rw [State.readings, List.getD_eq_getElem?_getD, List.getElem?_map, List.getElem?_range h]
  rfl

/-- The sample is kept and shown; no cap has started. -/
def State.sampleKept (s : State) (temps : List Int) : State :=
  let h := hottest (s.readings temps).tail 1 (0, (s.readings temps).headD 0)
  let s := { s with pwr := { s.pwr with temps := s.readings temps } }
  let s := { s with pwr := { s.pwr with hot := s.hotAt s.throttleAt } }
  (s.setFld 0x300010 23 16 (unsignedBits (h.2 / 16) 8)).setFld 0x300010 13 8 h.1

/-- The throttle cap stands at a point. -/
def State.throttledTo (s : State) (c : Nat) : State := { s with pwr := { s.pwr with throttle := some c } }

/-- The OP0 cap of the grade maximum has started. -/
def State.tjmaxCapped (s : State) : State := { s with pwr := { s.pwr with tjmax := true } }

theorem State.throttledTo_moves (c : Nat) : Moves [.pwr] s (s.throttledTo c) := .pwr (by decide) .refl
theorem State.tjmaxCapped_moves : Moves [.pwr] s s.tjmaxCapped := .pwr (by decide) .refl
theorem State.throttledTo_chip (c : Nat) : (s.throttledTo c).chip = s.chip := rfl
theorem State.tjmaxCapped_chip : s.tjmaxCapped.chip = s.chip := rfl

/-- The throttle cap has started where the sample crosses THROTTLE. -/
def State.sampleThrottles (s : State) (temps : List Int) : State :=
  if (s.sampleKept temps).pwr.hot && (!s.pwr.hot || s.pwr.throttle.isNone) then
    ((s.sampleKept temps).throttledTo (max ((s.sampleKept temps).curOp - 1) (s.sampleKept temps).opMin)).capFall
  else s.sampleKept temps

/-- The OP0 cap has started where the sample reaches the grade maximum. -/
def State.sampleCaps (s : State) (temps : List Int) : State :=
  if (s.sampleThrottles temps).hotAt (s.sampleThrottles temps).gradeMax && !(s.sampleThrottles temps).pwr.tjmax then
    (s.sampleThrottles temps).tjmaxCapped.overrideStarts
  else s.sampleThrottles temps

/-- A sensor's reading meets 125 °C, or leaves it. -/
def State.sensorMeets (s : State) (ts : List Int) (i : Nat) : State :=
  if 2000 ≤ ts.getD i 0 ∨ s.fc.injHeld = some (srcChip 0x15 i) then
    s.latchLive (srcChip 0x15 i) .d (unsignedBits (ts.getD i 0) 16)
  else if (s.source (srcChip 0x15 i)).live then s.endLive (srcChip 0x15 i) else s

theorem exec_thermalSample (temps : List Int) :
    exec (.thermalSample temps) s
      = .next ((List.range 64).foldl (fun v i => v.sensorMeets (s.readings temps) i) (s.sampleCaps temps)) := rfl

theorem State.sampleKept_pwr (temps : List Int) : (s.sampleKept temps).pwr
    = { s.pwr with temps := s.readings temps, hot := (s.readings temps).any (fun x => decide (s.throttleAt ≤ x)) } :=
  (State.setFld_moves.same .pwr (by decide)).trans (State.setFld_moves.same .pwr (by decide))

theorem State.sampleKept_writes (temps : List Int) : WritesOnly [0x300010] s (s.sampleKept temps) :=
  .setFld (by decide) (.setFld (by decide) (.of_regs rfl))

theorem State.sampleKept_chip (temps : List Int) : (s.sampleKept temps).chip = s.chip :=
  (State.setFld_moves.same .chip (by decide)).trans (State.setFld_moves.same .chip (by decide))

theorem State.curOp_writes {os : List Nat} (h : WritesOnly os s t) (ho : 0x300008 ∉ os) : t.curOp = s.curOp := h.fld ho _ _

theorem State.opMin_writes {os : List Nat} (h : WritesOnly os s t) (ho : 0x300000 ∉ os) : t.opMin = s.opMin := by
  rw [State.opMin, State.opMin, State.opMax, State.opMax, h.fld ho, h.fld ho]

theorem State.sampleThrottles_spec (temps : List Int) :
    (s.sampleThrottles temps).pwr.temps = s.readings temps
      ∧ (s.sampleThrottles temps).pwr.hot = (s.readings temps).any (fun x => decide (s.throttleAt ≤ x))
      ∧ ((s.readings temps).any (fun x => decide (s.throttleAt ≤ x)) = true → s.pwr.hot = false ∨ s.pwr.throttle = none →
        (s.sampleThrottles temps).pwr.throttle = some (max (s.curOp - 1) s.opMin))
      ∧ (s.sampleThrottles temps).chip = s.chip := by
  have hKept := State.sampleKept_pwr (s := s) temps
  unfold State.sampleThrottles
  split
  · have hCaps := State.capFall_keepsCaps (s := (s.sampleKept temps).throttledTo
      (max ((s.sampleKept temps).curOp - 1) (s.sampleKept temps).opMin))
    refine ⟨hCaps.temps.trans (congrArg PwrState.temps hKept), hCaps.hot.trans (congrArg PwrState.hot hKept), fun _ _ => ?_, ?_⟩
    · rw [hCaps.throttle, State.curOp_writes (State.sampleKept_writes temps) (by decide),
        State.opMin_writes (State.sampleKept_writes temps) (by decide)]
      rfl
    · rw [State.capFall_moves.same .chip (by decide), State.throttledTo_chip, State.sampleKept_chip]
  · next hNot =>
    refine ⟨congrArg PwrState.temps hKept, congrArg PwrState.hot hKept, fun hHot hFirst => absurd ?_ hNot,
      State.sampleKept_chip temps⟩
    rw [hKept]
    simpa [hHot] using hFirst

theorem State.sampleCaps_spec (temps : List Int) :
    (s.sampleCaps temps).pwr.temps = (s.sampleThrottles temps).pwr.temps
      ∧ (s.sampleCaps temps).pwr.hot = (s.sampleThrottles temps).pwr.hot
      ∧ (s.sampleCaps temps).pwr.throttle = (s.sampleThrottles temps).pwr.throttle
      ∧ ((s.readings temps).any (fun x => decide (s.gradeMax ≤ x)) = true → (s.sampleCaps temps).pwr.tjmax = true)
      ∧ (s.sampleCaps temps).chip = s.chip := by
  obtain ⟨hTemps, -, -, hChip⟩ := State.sampleThrottles_spec (s := s) temps
  have hHot : (s.sampleThrottles temps).hotAt (s.sampleThrottles temps).gradeMax
      = (s.readings temps).any (fun x => decide (s.gradeMax ≤ x)) := by
    rw [State.hotAt, hTemps, State.gradeMax, State.gradeX, State.badFuse, hChip]
    rfl
  unfold State.sampleCaps
  split
  · have hCaps := State.overrideStarts_keepsCaps (s := (s.sampleThrottles temps).tjmaxCapped)
    exact ⟨hCaps.temps, hCaps.hot, hCaps.throttle, fun _ => hCaps.tjmax,
      (State.overrideStarts_moves.same .chip (by decide)).trans (State.tjmaxCapped_chip.trans hChip)⟩
  · next hNot =>
    refine ⟨rfl, rfl, rfl, fun hMax => ?_, hChip⟩
    rw [hHot, hMax] at hNot
    simpa using hNot

theorem State.sensorMeets_keepsSample (ts : List Int) (i : Nat) : KeepsSample s (s.sensorMeets ts i) := by
  unfold State.sensorMeets
  split
  · unfold State.latchLive
    split
    · exact .refl
    · exact State.latchFault_d_keepsSample _ _ _ _
  · split
    · exact .moves State.endLive_moves (by decide)
    · exact .refl

/-- What a sample leaves: the readings, and the caps that they start. -/
structure Sampled (s : State) (temps : List Int) (t : State) : Prop where
  temps : t.pwr.temps = s.readings temps
  tjmax : t.hotAt s.gradeMax = true → t.pwr.tjmax = true
  hot : t.pwr.hot = t.hotAt s.throttleAt
  throttle : t.hotAt s.throttleAt = true → s.pwr.hot = false ∨ s.pwr.throttle = none →
    t.pwr.throttle = some (max (s.curOp - 1) s.opMin)

theorem State.sample_spec (temps : List Int) :
    Sampled s temps ((List.range 64).foldl (fun v i => v.sensorMeets (s.readings temps) i) (s.sampleCaps temps)) := by
  have hFold : KeepsSample (s.sampleCaps temps)
      ((List.range 64).foldl (fun v i => v.sensorMeets (s.readings temps) i) (s.sampleCaps temps)) :=
    List.foldlRecOn (motive := fun v => KeepsSample (s.sampleCaps temps) v) _ _ .refl
      (fun _ hv i _ => hv.trans (State.sensorMeets_keepsSample _ i))
  obtain ⟨hCapTemps, hCapHot, hCapThrottle, hMax, -⟩ := State.sampleCaps_spec (s := s) temps
  obtain ⟨hTemps, hHot, hThrottle, -⟩ := State.sampleThrottles_spec (s := s) temps
  have hKept := (hFold.temps.trans hCapTemps).trans hTemps
  constructor
  case temps => exact hKept
  case tjmax => rw [State.hotAt, hKept, hFold.tjmax]; exact hMax
  case hot => rw [State.hotAt, hKept, hFold.hot, hCapHot]; exact hHot
  case throttle => rw [State.hotAt, hKept, hFold.throttle, hCapThrottle]; exact hThrottle

theorem State.sampleCaps_moves (temps : List Int) : Moves [.regs, .emitted, .pierTx, .pwr] s (s.sampleCaps temps) := by
  have hKept : Moves [.regs, .emitted, .pierTx, .pwr] s (s.sampleKept temps) :=
    .step State.setFld_moves (by decide) (.step State.setFld_moves (by decide) (.pwr (by decide) (.pwr (by decide) .refl)))
  have hThrottles : Moves [.regs, .emitted, .pierTx, .pwr] s (s.sampleThrottles temps) :=
    .ite (.step State.capFall_moves (by decide) (.step (State.throttledTo_moves _) (by decide) hKept)) hKept
  exact .ite (.step State.overrideStarts_moves (by decide) (.step State.tjmaxCapped_moves (by decide) hThrottles)) hThrottles

/-- While every sensor stays below 125 °C, and none is held there by an injection, no fault is latched. -/
theorem State.sample_chip (temps : List Int) (hCool : ∀ i, i < 64 → temps.getD i 0 + s.calValue 2 i < 2000)
    (hFree : ∀ i, i < 64 → s.fc.injHeld ≠ some (srcChip 0x15 i)) :
    ((List.range 64).foldl (fun v i => v.sensorMeets (s.readings temps) i) (s.sampleCaps temps)).chip = s.chip := by
  have hCaps := State.sampleCaps_moves (s := s) temps
  have hStep (v : State) (hv : v.chip = s.chip ∧ v.fc.injHeld = s.fc.injHeld) (i : Nat) (hi : i < 64) :
      (v.sensorMeets (s.readings temps) i).chip = s.chip ∧ (v.sensorMeets (s.readings temps) i).fc.injHeld = s.fc.injHeld := by
    obtain ⟨hChip, hHeld⟩ := hv
    have hBelow : ¬ (2000 ≤ (s.readings temps).getD i 0 ∨ v.fc.injHeld = some (srcChip 0x15 i)) := by
      rw [State.readings_getD temps hi, hHeld]
      exact not_or_intro (Int.not_le.mpr (hCool i hi)) (hFree i hi)
    rw [State.sensorMeets, if_neg hBelow]
    split
    · exact ⟨(State.endLive_moves.same .chip (by decide)).trans hChip, hHeld⟩
    · exact ⟨hChip, hHeld⟩
  have hStart : (s.sampleCaps temps).chip = s.chip ∧ (s.sampleCaps temps).fc.injHeld = s.fc.injHeld :=
    ⟨hCaps.same .chip (by decide), congrArg FcState.injHeld (hCaps.same .fc (by decide))⟩
  exact (List.foldlRecOn (motive := fun v => v.chip = s.chip ∧ v.fc.injHeld = s.fc.injHeld) _ _ hStart
    (fun v hv i hi => hStep v hv i (List.mem_range.mp hi))).1

/-! ### The regulator alert (R472) -/

/-- The OP0 cap of the alert has started. -/
def State.alertCapped (s : State) : State := { s with pwr := { s.pwr with alert := true } }

/-- The point has gone to OP0 with its voltage; the fault is not raised yet. -/
def State.alertTaken (s : State) : State := s.alertCapped.overrideStarts.dropRise.settleVcore

theorem State.alertCapped_capOp : s.alertCapped.capOp = 0 := by
  have hZero : (s.alertCapped.pwr.safeCap || s.alertCapped.pwr.alert || s.alertCapped.pwr.tjmax) = true := by
    simp [State.alertCapped]
  unfold State.capOp
  dsimp only
  rw [if_pos hZero, Nat.zero_min]

theorem State.alertTaken_keepsCaps : KeepsCaps s.alertCapped s.alertTaken :=
  (State.overrideStarts_keepsCaps.trans State.dropRise_keepsCaps).trans State.settleVcore_keepsCaps

theorem State.alertTaken_curOp : s.alertTaken.curOp = 0 := by
  rw [State.alertTaken, State.settleVcore_curOp, State.dropRise_curOp, State.overrideStarts_curOp, State.alertCapped_capOp,
    Nat.min_zero]

theorem State.alertTaken_source (x : Nat) : s.alertTaken.source x = s.source x :=
  State.source_moves (ps := [.regs, .emitted, .pierTx, .pwr]) (.step State.settleVcore_moves (by decide)
    (.step State.dropRise_moves (by decide) (.step State.overrideStarts_moves (by decide) (.pwr (by decide) .refl))))
      (by decide) x

theorem exec_regAlertConfirm (h : s.pwr.alert = false) :
    exec .regAlertConfirm s = .next (s.alertTaken.latchLive alertSource .s) := by
  have hStarts : s.alertStarts = s.alertTaken.latchLive alertSource .s := if_neg (ne_true_of_eq_false h)
  rw [← hStarts]
  rfl

theorem State.alertLatched_spec : (s.alertTaken.latchLive alertSource .s).pwr.alert = true
    ∧ (s.alertTaken.latchLive alertSource .s).curOp = 0 := by
  have hMoves := State.latchLive_s_moves (s := s.alertTaken) alertSource (by decide) (by decide)
  have hFrame : FaultFrame s.alertTaken (s.alertTaken.latchLive alertSource .s) := by
    unfold State.latchLive
    split
    · exact .refl
    · exact State.latchFault_frame _ _ _ _ _ (by decide)
  exact ⟨(congrArg PwrState.alert (hMoves.same .pwr (by decide))).trans State.alertTaken_keepsCaps.alert,
    (hFrame.fld (by decide) _ _).trans State.alertTaken_curOp⟩

/-- The alert is over; the point is not scheduled yet. -/
def State.alertOver (s : State) : State := ({ s with pwr := { s.pwr with alert := false } } : State).endLive alertSource

theorem exec_regAlertEnd (h : s.pwr.alert = true) : exec .regAlertEnd s = .next s.alertOver.schedulePoint := by
  have hEnds : s.alertEnds = s.alertOver.schedulePoint := if_pos h
  rw [← hEnds]
  rfl

/-! ### Rails (R511) -/

/-- What a measurement shows of a rail among those outside their limits. -/
def State.railNoted (s : State) (r : Rail) (good : Bool) : State :=
  { s with boot := { s.boot with railsOut := if good then s.boot.railsOut.filter (fun q => q ≠ r)
    else r :: s.boot.railsOut.filter (fun q => q ≠ r) } }

theorem State.railNoted_moves (r : Rail) (good : Bool) : Moves [.boot] s (s.railNoted r good) := .boot (by decide) id .refl

theorem State.railNoted_out (r : Rail) : r ∈ (s.railNoted r false).boot.railsOut := List.mem_cons_self

theorem State.railNoted_kept (r : Rail) : ∀ q ∈ s.boot.railsOut, q ∈ (s.railNoted r false).boot.railsOut := by
  intro q hq
  by_cases h : q = r
  · exact List.mem_cons.mpr (.inl h)
  · exact List.mem_cons.mpr (.inr (List.mem_filter.mpr ⟨hq, by simp [h]⟩))

/-- A device in OFF that has its supply and RESET_N high waits for a rail. -/
def State.waitsForRail (s : State) : Bool :=
  decide (s.chip.mode = .off) && !s.boot.held && !s.boot.noSupply && !s.boot.railsOut.isEmpty

/-- What a rail outside its limits does to a device that is on. -/
def State.railActs (s : State) (r : Rail) (ports : List Port) : State :=
  match r with
  | .vio | .vsram => s.startFlush.goDark
  | .vcore => s
  | .vsdA | .vsdT => ports.foldl (fun (v : State) (p : Port) => v.linkFails p.val) s

theorem exec_railFault (r : Rail) (uv : Nat) (ports : List Port) : exec (.railFault r uv ports) s
    = if s.waitsForRail && (s.railNoted r (railGood r uv (s.pwr.target25 * 2500))).boot.railsOut.isEmpty then
        .next (s.railNoted r (railGood r uv (s.pwr.target25 * 2500))).startUp
      else if s.boot.held || s.chip.mode = .off || railGood r uv (s.pwr.target25 * 2500) then
        .next (s.railNoted r (railGood r uv (s.pwr.target25 * 2500)))
      else .next ((s.railNoted r (railGood r uv (s.pwr.target25 * 2500))).railActs r ports) := by
  cases r <;> rfl

theorem exec_railFault_good (r : Rail) {uv : Nat} (ports : List Port) (hGood : railGood r uv (s.pwr.target25 * 2500) = true) :
    exec (.railFault r uv ports) s = if s.waitsForRail && (s.railNoted r true).boot.railsOut.isEmpty
      then .next (s.railNoted r true).startUp else .next (s.railNoted r true) := by
  rw [exec_railFault, hGood, if_pos (Bool.or_true _)]

theorem exec_railFault_bad (r : Rail) {uv : Nat} (ports : List Port) (hBad : railGood r uv (s.pwr.target25 * 2500) = false) :
    exec (.railFault r uv ports) s = if s.boot.held || s.chip.mode = .off then .next (s.railNoted r false)
      else .next ((s.railNoted r false).railActs r ports) := by
  have hOut : ¬ (s.waitsForRail && (s.railNoted r false).boot.railsOut.isEmpty) = true :=
    ne_true_of_eq_false (Bool.and_false _)
  rw [exec_railFault, hBad, if_neg hOut, Bool.or_false]

theorem exec_railFault_noted (r : Rail) {uv : Nat} (ports : List Port) (hBad : railGood r uv (s.pwr.target25 * 2500) = false)
    (h : s.boot.held = true ∨ s.chip.mode = .off ∨ r = .vcore) :
    exec (.railFault r uv ports) s = .next (s.railNoted r false) := by
  rw [exec_railFault_bad r ports hBad]
  rcases h with h | h | rfl
  · exact if_pos (by rw [h, Bool.true_or])
  · exact if_pos (by rw [decide_eq_true h, Bool.or_true])
  · exact ite_self _

theorem exec_railFault_acts (r : Rail) {uv : Nat} (ports : List Port) (hBad : railGood r uv (s.pwr.target25 * 2500) = false)
    (hHigh : s.boot.held = false) (hOn : s.chip.mode ≠ .off) :
    exec (.railFault r uv ports) s = .next ((s.railNoted r false).railActs r ports) := by
  rw [exec_railFault_bad r ports hBad, if_neg (by rw [hHigh, decide_eq_false hOn]; decide)]

/-- A supply failure leaves the device OFF, in WRITE_THROUGH (R478). -/
theorem State.supplyLost_spec : s.startFlush.goDark.chip.mode = .off ∧ s.startFlush.goDark.boot.noSupply = true
    ∧ s.startFlush.goDark.boot.railsOut = s.boot.railsOut ∧ s.startFlush.goDark.jrn.noEntry = true := by
  have hRails : s.startFlush.goDark.boot.railsOut = s.startFlush.boot.railsOut := rfl
  exact ⟨rfl, rfl, hRails.trans (congrArg BootState.railsOut State.startFlush_boot), State.startFlush_noEntry⟩

/-- Settles O40: a cap that starts brings the point down to it (`capFall_curOp`), one that ends leaves it to the schedule
(`schedulePoint_curOp`); a sample keeps its readings whatever the sensors then raise (`sample_spec`). -/
theorem capsMoveThePoint : Obligations.CapsMoveThePoint := by
  unfold Obligations.CapsMoveThePoint
  refine ⟨?policy, ?cool, ?sample, ?step, ?release, ?tjmaxEnd, ?nothing, ?droopAgain, ?alert, ?alertLive, ?alertEnd, ?droop,
    ?recover, ?supply, ?serdes, ?good, ?last, ?noted⟩
  case policy =>
    intro phases v s hOpen
    have hArms (y : State) (hReg : y.curOp = s.curOp) (hPwr : y.pwr = s.pwr) : s.inGroup = false →
        y.schedulePoint.request ≠ s.curOp →
          y.schedulePoint.changePending = true ∧ y.schedulePoint.slotArg 63 = y.schedulePoint.request := by
      intro hOut hOther
      rw [State.schedulePoint_request] at hOther ⊢
      exact State.schedulePoint_arms ((congrArg PwrState.member hPwr).trans hOut) (by rwa [hReg])
    have hMoves (y : State) (h : Moves [.regs] s y) : OnlyTouches [.regs, .emitted, .pwr] s y.schedulePoint :=
      (Moves.step State.schedulePoint_moves (by decide) (h.mono (by decide))).only
    refine ⟨_, if_neg (ne_true_of_eq_false hOpen), ?_⟩
    cases phases with
    | true =>
      have hReg : (s.setReg 0x300004 (v &&& 0x77777777)).curOp = s.curOp := State.fld_setReg_ne _ _ _ _ _ _ (by decide)
      exact ⟨(State.schedulePoint_writes _ (by decide)).trans (State.reg_setReg_same _ _ _),
        State.schedulePoint_curOp.trans hReg, hArms _ hReg (State.setReg_moves.same .pwr (by decide)),
          hMoves _ State.setReg_moves⟩
    | false =>
      have hReg : (s.setReg 0x300000 (v &&& 0x770)).curOp = s.curOp := State.fld_setReg_ne _ _ _ _ _ _ (by decide)
      exact ⟨(State.schedulePoint_writes _ (by decide)).trans (State.reg_setReg_same _ _ _),
        State.schedulePoint_curOp.trans hReg, hArms _ hReg (State.setReg_moves.same .pwr (by decide)),
          hMoves _ State.setReg_moves⟩
  case cool =>
    intro temps s hCool hFree
    have hSample := State.sample_spec (s := s) temps
    exact ⟨_, exec_thermalSample temps, hSample.temps, hSample.tjmax, State.sample_chip temps hCool hFree⟩
  case sample =>
    intro temps s
    have hSample := State.sample_spec (s := s) temps
    exact ⟨_, exec_thermalSample temps, hSample.temps, hSample.tjmax, hSample.hot, hSample.throttle⟩
  case step =>
    intro c s hCap hHot
    have hCaps := State.capFall_keepsCaps (s := s.throttledTo (max (c - 1) s.opMin))
    refine ⟨(s.throttledTo (max (c - 1) s.opMin)).capFall, ?_, hCaps.throttle, ?_, hCaps.temps, ?_⟩
    · simp only [exec, execThrottleStep, hCap]
      exact if_pos hHot
    · rw [hCaps.capOp, State.capFall_curOp]
      exact Nat.min_le_right _ _
    · exact (Moves.step State.capFall_moves (by decide) ((State.throttledTo_moves _).mono (by decide))).only
  case release =>
    intro c s hCap hCool
    refine ⟨({ s with pwr := { s.pwr with throttle := if 5 ≤ c then none else some (c + 1) } } : State).schedulePoint, ?_,
      State.schedulePoint_keepsCaps.throttle, State.schedulePoint_curOp,
      (Moves.step State.schedulePoint_moves (by decide) (.pwr (by decide) .refl)).only⟩
    simp only [exec, execThrottleReleaseStep, hCap]
    exact if_neg (ne_true_of_eq_false hCool)
  case tjmaxEnd =>
    intro s hCap hCool
    exact ⟨({ s with pwr := { s.pwr with tjmax := false } } : State).schedulePoint, if_pos (by rw [hCap, hCool]; rfl),
      State.schedulePoint_keepsCaps.tjmax, State.schedulePoint_curOp,
      (Moves.step State.schedulePoint_moves (by decide) (.pwr (by decide) .refl)).only⟩
  case nothing =>
    intro s
    refine ⟨fun h => ?_, fun h => ?_, fun h => if_neg ?_, fun h => ?_, fun h => ?_⟩
    · simp only [exec, execThrottleStep]
      split
      · next c hCap => exact if_neg (ne_true_of_eq_false (h.resolve_left (by simp [hCap])))
      · rfl
    · simp only [exec, execThrottleReleaseStep]
      split
      · next c hCap => exact if_pos (h.resolve_left (by simp [hCap]))
      · rfl
    · rcases h with h | h <;> simp [h]
    · exact congrArg Host.Outcome.next (if_pos h : s.alertStarts = s)
    · exact congrArg Host.Outcome.next (if_neg (ne_true_of_eq_false h) : s.alertEnds = s)
  case droopAgain =>
    intro det s h
    exact congrArg Host.Outcome.next (if_pos h : s.droopStarts det = s)
  case alert =>
    intro s hOff hQuiet
    obtain ⟨hAlert, hPoint⟩ := State.alertLatched_spec (s := s)
    obtain ⟨hCause, hCls⟩ := State.latchLive_starts (s := s.alertTaken) alertSource .s (.inl (by decide)) (.inl (by decide))
      (by rwa [State.alertTaken_source])
    refine ⟨_, exec_regAlertConfirm hOff, hAlert, hPoint, hCause, hCls, fun x hx => ?_⟩
    rw [State.latchLive_source _ _ _ (.inr (by decide)) (.inl (by decide)), if_neg (fun h => hx h.1), State.alertTaken_source]
  case alertLive =>
    intro s hOff
    obtain ⟨hAlert, hPoint⟩ := State.alertLatched_spec (s := s)
    exact ⟨_, exec_regAlertConfirm hOff, hAlert, hPoint,
      State.latchLive_live alertSource .s (.inl (by decide)) (.inl (by decide))⟩
  case alertEnd =>
    intro s hOn
    have hSource (x : Nat) : s.alertOver.schedulePoint.source x = s.alertOver.source x :=
      State.source_moves State.schedulePoint_moves (by decide) x
    obtain ⟨hLive, -, hOthers⟩ := State.endLive_spec (s := { s with pwr := { s.pwr with alert := false } }) alertSource
    exact ⟨_, exec_regAlertEnd hOn, State.schedulePoint_keepsCaps.alert, State.schedulePoint_curOp,
      (congrArg SourceRec.live (hSource _)).trans hLive, fun x hx => (hSource x).trans (hOthers x hx)⟩
  case droop =>
    intro det s hNew
    refine ⟨_, congrArg Host.Outcome.next (if_neg (ne_true_of_eq_false hNew)), ?_, ?_, fun o ho => ?_, ?_⟩
    · rw [State.incSat_moves.same .pwr (by decide)]
      exact mem_addOnce _ _
    · exact State.fld_incSat_same _ _ _ _ _ (by decide) (by decide)
    · exact State.reg_setFld_ne _ _ _ _ _ _ ho
    · exact (Moves.step State.incSat_moves (by decide) (.pwr (by decide) .refl)).only
  case recover =>
    intro det s
    refine ⟨s.droopEnds det, rfl, ?_, fun d hd => ?_, (Moves.pwr (by decide) .refl).only⟩
    · simp [State.droopEnds]
    · simp [State.droopEnds, hd]
  case supply =>
    intro r uv ports s hHigh hOn hRail hBad
    obtain ⟨hMode, hSupply, hRails, hEntry⟩ := State.supplyLost_spec (s := s.railNoted r false)
    refine ⟨(s.railNoted r false).startFlush.goDark, ?_, hMode, hSupply, ?_, hEntry, State.startFlush_writeThrough⟩
    · rw [exec_railFault_acts r ports hBad hHigh hOn]
      rcases hRail with rfl | rfl <;> rfl
    · rw [hRails]
      exact State.railNoted_out r
  case serdes =>
    intro r uv p s hHigh hOn hRail hBad
    refine ⟨(s.railNoted r false).linkFails p, ?_, State.linkFails_notUp p, ?_, ?_⟩
    · rw [exec_railFault_acts r [p] hBad hHigh hOn]
      rcases hRail with rfl | rfl <;> rfl
    · rw [State.linkFails_moves.same .boot (by decide)]
      exact State.railNoted_out r
    · rw [(State.linkFails_keepsChip (by omega)).chip]
      rfl
  case good =>
    intro r uv ports s hGood h
    have hStays : (s.waitsForRail && (s.railNoted r true).boot.railsOut.isEmpty) = false := by
      unfold State.waitsForRail State.railNoted
      rcases h with h | h | h | ⟨q, hq, hne⟩ | h
      · simp [h]
      · simp [h]
      · simp [h]
      · have hLeft : s.boot.railsOut.filter (fun q => q ≠ r) ≠ [] :=
          List.ne_nil_of_mem (List.mem_filter.mpr ⟨hq, by simpa using hne⟩)
        simp only [if_true, List.isEmpty_eq_false_iff.mpr hLeft, Bool.and_false]
      · simp [h]
    refine ⟨_, (exec_railFault_good r ports hGood).trans (if_neg (ne_true_of_eq_false hStays)), ?_, fun q hq hne => ?_,
      (State.railNoted_moves r true).only⟩
    · simp [State.railNoted]
    · simpa [State.railNoted, hne] using hq
  case last =>
    intro r uv ports s hGood hOff hHigh hSupply hOnly
    have hStarts : (s.waitsForRail && (s.railNoted r true).boot.railsOut.isEmpty) = true := by
      simp [State.waitsForRail, State.railNoted, hOff, hHigh, hSupply, hOnly]
    refine ⟨_, (exec_railFault_good r ports hGood).trans (if_pos hStarts), ?_, ?_⟩
    · rw [State.startUp_chip]
    · rw [State.startUp_boot]
      simp [State.railNoted, hOnly]
  case noted =>
    intro r uv ports s hBad h
    exact ⟨_, exec_railFault_noted r ports hBad h, State.railNoted_out r, State.railNoted_kept r,
      (State.railNoted_moves r false).only⟩

end Sys2Proof.Machine
end

section
/-! PROOFS. What a class-S fault and a quarantine leave of the packets that wait for an ingress slot (R257 to R260, R386). -/

namespace Sys2Proof.Machine

variable {s t u : State} {ps : List StatePart}

/-- The host's packets wait for their ingress slots as they did. -/
def KeepsHostTx (s t : State) : Prop := t.pipes.hostTx = s.pipes.hostTx

theorem KeepsHostTx.refl : KeepsHostTx s s := rfl
theorem KeepsHostTx.trans (h : KeepsHostTx s t) (k : KeepsHostTx t u) : KeepsHostTx s u := Eq.trans k h
theorem KeepsHostTx.moves (h : Moves ps s t) (hp : .pipes ∉ ps) : KeepsHostTx s t :=
    congrArg PipesState.hostTx (h.same .pipes hp)
theorem KeepsHostTx.fold {α : Type} {f : State → α → State} {l : List α} (h : ∀ s a, KeepsHostTx s (f s a)) :
    KeepsHostTx s (l.foldl f s) :=
  List.foldlRecOn (motive := fun t => KeepsHostTx s t) _ _ .refl (fun _ ht a _ => ht.trans (h _ a))

theorem State.setPass_keepsHostTx (span : Nat) (pass : Pass) (x : PassState) : KeepsHostTx s (s.setPass span pass x) := rfl

theorem State.setReplays_keepsHostTx (g : Nat) (pass : Pass) (l : List Replay) : KeepsHostTx s (s.setReplays g pass l) := rfl

theorem State.dropWhere_keepsHostTx (f : Packet → Bool) : KeepsHostTx s (s.dropWhere f) := by
  have hFiltered {l : Tbl (Option Packet)} : KeepsHostTx s { s with pipes := { s.pipes with packets := l } } := rfl
  exact hFiltered.trans (.fold fun _ _ => .moves State.waste_moves (by decide))

theorem State.dropPackets_keepsHostTx (span : Nat) (pass : Pass) (pipe : Nat) : KeepsHostTx s (s.dropPackets span pass pipe) :=
  State.dropWhere_keepsHostTx _

theorem State.queueReplays_keepsHostTx (g : Nat) (ds : List Nat) (again : Nat → Option Nat) :
    KeepsHostTx s (s.queueReplays g ds again) :=
  (KeepsHostTx.fold fun _ _ => .moves State.setInfo_moves (by decide)).trans (State.setReplays_keepsHostTx _ _ _)

theorem State.discardIngress_keepsHostTx (g pipe : Nat) (same : Bool) : KeepsHostTx s (s.discardIngress g pipe same) := by
  have hRecirc {y : State} {l : Tbl (List Nat)} : KeepsHostTx y { y with pipes := { y.pipes with recirc := l } } := rfl
  unfold State.discardIngress
  dsimp -proj only
  exact (((State.dropPackets_keepsHostTx _ _ _).trans hRecirc).trans (.moves State.dropResults_moves (by decide))).trans
    (State.queueReplays_keepsHostTx _ _ _)

theorem State.discardEgress_keepsHostTx (g pipe : Nat) (same : Bool) : KeepsHostTx s (s.discardEgress g pipe same) := by
  unfold State.discardEgress
  dsimp -proj only
  refine .trans ?_ (State.setReplays_keepsHostTx _ _ _)
  split
  · exact State.dropPackets_keepsHostTx _ _ _
  · exact (State.dropPackets_keepsHostTx _ _ _).trans (.moves State.stompGroup_moves (by decide))

theorem State.discardPipe_keepsHostTx (g : Nat) (pass : Pass) (pipe : Nat) (same : Bool) :
    KeepsHostTx s (s.discardPipe g pass pipe same) := by
  cases pass
  · exact State.discardIngress_keepsHostTx _ _ _
  · exact State.discardEgress_keepsHostTx _ _ _

theorem State.unshadow_keepsHostTx (span : Nat) (pass : Pass) : KeepsHostTx s (s.unshadow span pass) := by
  have hShadows {l : Tbl (Option Packet)} : KeepsHostTx s { s with pipes := { s.pipes with packets := l } } := rfl
  unfold State.unshadow
  dsimp -proj only
  split
  · exact hShadows
  · exact hShadows.trans (.moves State.count_moves (by decide))

theorem State.rotationStop_keepsHostTx (span : Nat) (pass : Pass) : KeepsHostTx s (s.rotationStop span pass) := by
  unfold State.rotationStop
  dsimp -proj only
  split
  · exact .refl
  · exact (State.setPass_keepsHostTx _ _ _).trans (State.unshadow_keepsHostTx _ _)

theorem State.endResolution_keepsHostTx (span : Nat) (pass : Pass) : KeepsHostTx s (s.endResolution span pass) := by
  unfold State.endResolution
  dsimp -proj only
  split
  · exact .refl
  · exact ((State.setPass_keepsHostTx _ _ _).trans (State.discardPipe_keepsHostTx _ _ _ _)).trans
      (State.rotationStop_keepsHostTx _ _)

theorem State.revokeLeases_keepsHostTx (g : Nat) : KeepsHostTx s (s.revokeLeases g) := by
  have hRevoke (y : State) (d : Nat) : KeepsHostTx y (y.revoke d) := .moves State.revoke_moves (by decide)
  exact (State.setReplays_keepsHostTx _ _ _).trans (.fold fun _ _ => hRevoke _ _)

theorem State.holdGroup_keepsHostTx (span : Nat) (pass : Pass) (g pipe detail : Nat) :
    KeepsHostTx s (s.holdGroup span pass g pipe detail) := by
  have hLatch {y : State} {src : Nat} : KeepsHostTx y (y.latchService src detail) := .moves State.latchService_moves (by decide)
  unfold State.holdGroup
  cases pass
  · exact ((State.setPass_keepsHostTx _ _ _).trans (.moves State.enterHold_moves (by decide))).trans hLatch
  · exact (State.setPass_keepsHostTx _ _ _).trans hLatch

theorem State.pipelineFaulty_keepsHostTx (span : Nat) (pass : Pass) (pipe detail : Nat) :
    KeepsHostTx s (s.pipelineFaulty span pass pipe detail) := by
  have hFence : KeepsHostTx s (((s.fence (partyPipe span pass pipe)).endResolution span pass).unshadow span pass) :=
    ((KeepsHostTx.moves State.fence_moves (by decide)).trans (State.endResolution_keepsHostTx _ _)).trans
      (State.unshadow_keepsHostTx _ _)
  unfold State.pipelineFaulty
  split
  · exact .refl
  · dsimp -proj only
    generalize ((s.fence (partyPipe span pass pipe)).endResolution span pass).unshadow span pass = y at hFence ⊢
    have hPass {z : State} {x : PassState} : KeepsHostTx z (z.setPass span pass x) := State.setPass_keepsHostTx _ _ _
    refine hFence.trans ?_
    split
    · have hDegrade {x : PassState} : KeepsHostTx y ((y.setPass span pass x).degrade span) :=
        hPass.trans (.moves State.degrade_moves (by decide))
      split
      · exact hDegrade.trans (State.holdGroup_keepsHostTx _ _ _ _ _)
      · exact hDegrade
    · split
      · exact hPass
      · rename_i g _
        have hDiscard {x : PassState} : KeepsHostTx y ((y.setPass span pass x).discardPipe (span * 4 + g) pass pipe) :=
          hPass.trans (State.discardPipe_keepsHostTx _ _ _ _)
        have hSwitch {z : State} (hz : KeepsHostTx y z) {c : Prop} [Decidable c] {x : PassState} :
            KeepsHostTx y (if c then z.setPass span pass x else z.holdGroup span pass g pipe detail) := by
          split
          · exact hz.trans hPass
          · exact hz.trans (State.holdGroup_keepsHostTx _ _ _ _ _)
        cases pass
        · exact hSwitch (hDiscard.trans (State.revokeLeases_keepsHostTx _))
        · exact hSwitch hDiscard

/-- A class-S fault leaves the host's packets that wait, whatever it does to a pipeline. -/
theorem State.latchFault_s_keepsHostTx (src detail : Nat) (live threshold : Bool) :
    KeepsHostTx s (s.latchFault src .s detail live threshold) := by
  have hReact {y : State} : KeepsHostTx y (y.react src .s) := by
    have hPins : KeepsHostTx y (if srcChip 0x13 4 ≤ src && src ≤ srcChip 0x13 7 then y.raiseErrS
        else y.raiseErrS.pierPropagate src .s) := by
      split
      · exact rfl
      · exact .moves (ps := [.regs, .emitted, .fc, .pierTx]) (.step State.pierPropagate_moves (by decide)
          (State.raiseErrS_moves.mono (by decide))) (by decide)
    unfold State.react
    dsimp -proj only
    split
    · exact .refl
    · split
      · exact hPins.trans (State.pipelineFaulty_keepsHostTx _ _ _ _)
      · exact hPins
  have hDecide {y : State} : KeepsHostTx y (y.decideFault src .s) := by
    unfold State.decideFault
    split
    · exact hReact
    · exact rfl
  have hCore (b c : Bool) : KeepsHostTx s (((s.setReacting b).latchCore src .s detail live threshold c).haltFor src) :=
    ((KeepsHostTx.moves State.setReacting_moves (by decide)).trans (.moves State.latchCore_moves (by decide))).trans
      (.moves State.haltFor_moves (by decide))
  unfold State.latchFault
  dsimp -proj only
  refine .trans ?_ (.moves State.setReacting_moves (by decide))
  split
  · exact hCore _ _
  · exact (hCore _ _).trans hDecide

/-! ### Quarantine -/

theorem State.dropEgressOf_keepsHostTx (d : Nat) : KeepsHostTx s (s.dropEgressOf d) := by
  have hGroup {y : State} {g : Nat} {l : List (Nat × QEntry)} : KeepsHostTx y (y.setSelected g l) := rfl
  exact (KeepsHostTx.fold fun _ _ => hGroup.trans (State.setReplays_keepsHostTx _ _ _)).trans (State.dropWhere_keepsHostTx _)

theorem State.loseCopies_keepsHostTx (d : Nat) : KeepsHostTx s (s.loseCopies d) := by
  have hQueues : KeepsHostTx s ((s.unqueueFrame d).2.foldl (fun s e => s.lose d (e.1 / 16) 3) (s.unqueueFrame d).1) :=
    (KeepsHostTx.moves State.unqueueFrame_moves (by decide)).trans (.fold fun _ _ => .moves State.lose_moves (by decide))
  exact ((((hQueues.trans (.moves State.quarantineTx_moves (by decide))).trans (State.dropEgressOf_keepsHostTx d)).trans
    (.moves State.quarantineVoq_moves (by decide))).trans (.moves State.quarantineRetry_moves (by decide))).trans
      (.moves State.discardCopies_moves (by decide))

theorem State.quarantine_keepsHostTx (d : Nat) : KeepsHostTx s (s.quarantine d) := by
  rw [State.quarantine_eq]
  split
  · exact .refl
  · exact (KeepsHostTx.moves State.setDesc_moves (by decide)).trans (State.loseCopies_keepsHostTx d)

end Sys2Proof.Machine
end

section
/-! PROOFS. The registers that the release of a result can write (R182, R183, R245, R386). -/

namespace Sys2Proof.Machine

variable {s t u : State} {ps : List StatePart}

/-- Beside those of a fault, the registers that operations of holders and the release of results write: the flags and counts
of losses, late duplicates and refused copies, and what a drained buffer shows. -/
def resultRegs : List Nat := [0x404, 0x410, 0x800018, 0x10C, 0x204, 0x800004]

/-- Every register that neither a fault below class D nor the release of a result writes reads as before, and the host's
packets wait for their ingress slots as they did. -/
structure ResultFrame (s t : State) : Prop where
  regs : ∀ o, faultRegister o = false → o ∉ resultRegs → t.reg o = s.reg o
  hostTx : KeepsHostTx s t

theorem ResultFrame.refl : ResultFrame s s := ⟨fun _ _ _ => rfl, rfl⟩
theorem ResultFrame.trans (h : ResultFrame s t) (k : ResultFrame t u) : ResultFrame s u :=
  ⟨fun o ho hr => (k.regs o ho hr).trans (h.regs o ho hr), h.hostTx.trans k.hostTx⟩
theorem ResultFrame.moves (h : Moves ps s t) (hr : .regs ∉ ps) (hp : .pipes ∉ ps) : ResultFrame s t :=
  ⟨fun o _ _ => congrArg (fun regs => Tbl.get resetWord regs o) (h.same .regs hr), .moves h hp⟩
theorem ResultFrame.writes (h : WritesOnly resultRegs s t) (k : KeepsHostTx s t) : ResultFrame s t := ⟨fun o _ hr => h o hr, k⟩
theorem ResultFrame.bit (h : ResultFrame s t) {o : Nat} (ho : faultRegister o = false) (hr : o ∉ resultRegs) (i : Nat) :
    t.bit o i = s.bit o i := by
  rw [State.bit, State.bit, State.fld, State.fld, h.regs o ho hr]

theorem ResultFrame.fold {α : Type} {f : State → α → State} {l : List α} (h : ∀ s a, ResultFrame s (f s a)) :
    ResultFrame s (l.foldl f s) :=
  List.foldlRecOn (motive := fun t => ResultFrame s t) _ _ .refl (fun _ ht a _ => ht.trans (h _ a))

/-! ### Registers of single operations -/

theorem State.incSat_resultFrame {off : Nat} (ho : off ∈ resultRegs) (hi lo n : Nat) : ResultFrame s (s.incSat off hi lo n) :=
  .writes (.setFld ho .refl) (.moves State.incSat_moves (by decide))

theorem State.count_resultFrame (off n : Nat) : ResultFrame s (s.count off n) := .moves State.count_moves (by decide)
    (by decide)

theorem State.outcome_resultFrame (d e : Nat) : ResultFrame s (s.outcome d e) := .moves State.outcome_moves (by decide)
    (by decide)

theorem State.latchFault_s_resultFrame (src detail : Nat) (live threshold : Bool) :
    ResultFrame s (s.latchFault src .s detail live threshold) :=
  ⟨fun o ho _ => State.latchFault_frame _ _ _ _ _ (by decide) o ho, State.latchFault_s_keepsHostTx _ _ _ _⟩

theorem State.bufFault_resultFrame (kind id : Nat) (h : Holder) : ResultFrame s (s.bufFault kind id h) := by
  have hLog : ResultFrame s (s.logFault kind id h) := by
    unfold State.logFault
    split
    · exact ⟨fun _ _ _ => rfl, rfl⟩
    · exact .writes (.setBit (by decide) .refl) (.moves State.setBit_moves (by decide))
  rw [State.bufFault_eq]
  exact hLog.trans (State.latchFault_s_resultFrame _ _ _ _)

theorem State.quarantine_resultFrame (d : Nat) : ResultFrame s (s.quarantine d) := by
  rw [State.quarantine_eq]
  split
  · exact .refl
  · exact (ResultFrame.moves State.setDesc_moves (by decide) (by decide)).trans
      ⟨fun o _ hr => (State.loseCopies_keepsPool d).reg o (fun h => hr (by simp [h, resultRegs])),
        State.loseCopies_keepsHostTx d⟩

theorem State.lose_resultFrame (d egress kind : Nat) : ResultFrame s (s.lose d egress kind) :=
  ⟨fun o _ hr => (State.lose_keepsPool d egress kind).reg o (fun h => hr (by simp [h, resultRegs])),
    .moves State.lose_moves (by decide)⟩

theorem State.checkDrained_resultFrame : ResultFrame s s.checkDrained :=
  .writes (.ite (.ite (.setFld (by decide) (.setFld (by decide) .refl)) (.setFld (by decide) .refl)) .refl)
    (.moves State.checkDrained_moves (by decide))

theorem State.takeIndex_resultFrame (d : Nat) : ResultFrame s (s.takeIndex d).1 := by
  unfold State.takeIndex
  dsimp only
  split
  · exact .moves State.setDesc_moves (by decide) (by decide)
  · exact (State.incSat_resultFrame (by decide) _ _ _).trans (State.count_resultFrame _ _)

theorem State.takeIndex_resultFrame_eq {d : Nat} {i : Option Nat} (h : s.takeIndex d = (t, i)) : ResultFrame s t := by
  have := State.takeIndex_resultFrame (s := s) d
  rwa [h] at this

/-! ### Operations of holders -/

theorem State.freeDescriptor_resultFrame (d : Nat) : ResultFrame s (s.freeDescriptor d) := by
  have hFree {y : State} {l : List Nat} : ResultFrame y { y with buf := { y.buf with freeDesc := l } } :=
    ⟨fun _ _ _ => rfl, rfl⟩
  unfold State.freeDescriptor
  split
  · exact State.bufFault_resultFrame _ _ _
  · dsimp -proj only
    exact ((((ResultFrame.moves State.setDesc_moves (by decide) (by decide)).trans (.moves State.setLedger_moves
      (by decide) (by decide))).trans
      (.moves State.setInfo_moves (by decide) (by decide))).trans hFree).trans State.checkDrained_resultFrame

theorem State.walked_resultFrame (d : Nat) (h : Holder) (count : Nat) (r : Walk) :
    ResultFrame r.st (State.walked d h count r).1 := by
  have hCharge {n : Nat} : ResultFrame r.st (r.st.returnCharge d n) := .moves State.returnCharge_moves (by decide) (by decide)
  unfold State.walked
  split
  · exact ((ResultFrame.moves State.returnCells_moves (by decide) (by decide)).trans (State.bufFault_resultFrame _ _ _)).trans
      (State.quarantine_resultFrame d)
  · split
    · dsimp -proj only
      split
      · exact hCharge.trans (State.freeDescriptor_resultFrame d)
      · exact hCharge.trans ((ResultFrame.moves State.setInfo_moves (by decide) (by decide)).trans
          (.moves State.setDesc_moves (by decide) (by decide)))
    · exact .refl

theorem State.holderWalk_resultFrame (d : Nat) (h : Holder) (add : List Holder) (dest bad : Option Nat) :
    ResultFrame s (s.holderWalk d h add dest bad).1 := by
  unfold State.holderWalk
  dsimp -proj only
  refine .trans ?_ (State.walked_resultFrame _ _ _ _)
  refine .trans ?_ (.moves walkCells_moves (by decide) (by decide))
  split
  · exact .moves State.setDesc_moves (by decide) (by decide)
  · exact .refl

theorem State.holderOp_resultFrame (d : Nat) (h : Holder) (add : List Holder) (dest : Option Nat) :
    ResultFrame s (s.holderOp d h add dest).1 := by
  unfold State.holderOp
  split
  · exact ⟨fun _ _ _ => rfl, rfl⟩
  · unfold State.holderNow
    rw [show s.walkCorrected d .good = s from rfl]
    dsimp -proj only
    split
    · exact State.bufFault_resultFrame _ _ _
    · split
      · exact .refl
      · split
        · exact (State.bufFault_resultFrame _ _ _).trans (State.quarantine_resultFrame d)
        · exact State.holderWalk_resultFrame _ _ _ _ _

theorem State.release_resultFrame (d : Nat) (h : Holder) : ResultFrame s (s.release d h) := State.holderOp_resultFrame _ _ _ _

/-! ### The release of a result -/

theorem State.schedFault_resultFrame (q : Nat) (names : List Nat) :
    ResultFrame s ((s.latchFault (schedSource q) .s).nameFault (schedSource q) names) :=
  (State.latchFault_s_resultFrame _ _ _ _).trans (.moves State.nameFault_moves (by decide) (by decide))

theorem State.placeCopy_resultFrame (q : Nat) (e : QEntry) : ResultFrame s (s.placeCopy q e) := by
  have hCount {off : Nat} : ResultFrame s (s.count off 1) := State.count_resultFrame _ _
  unfold State.placeCopy
  dsimp -proj only
  split
  · exact (hCount.trans (State.outcome_resultFrame _ _)).trans (State.release_resultFrame _ _)
  · exact ((hCount.trans (State.schedFault_resultFrame _ _)).trans (State.outcome_resultFrame _ _)).trans
      (State.release_resultFrame _ _)
  · split
    · exact (hCount.trans (State.lose_resultFrame _ _ _)).trans (State.release_resultFrame _ _)
    · exact .moves State.placeEntry_moves (by decide) (by decide)

theorem State.voqRelease_resultFrame (v n : Nat) : ResultFrame s (s.voqRelease v n) := by
  induction n generalizing s with
  | zero => exact .refl
  | succ n ih =>
    unfold State.voqRelease
    dsimp -proj only
    split
    · exact .refl
    · split
      · exact .refl
      · exact ((ResultFrame.moves State.setVoq_moves (by decide) (by decide)).trans (State.placeCopy_resultFrame _ _)).trans ih

theorem State.voqJoin_resultFrame (v q : Nat) (e : QEntry) : ResultFrame s (s.voqJoin v q e) := by
  have hRun {y : State} : ResultFrame y (y.voqRun v) :=
    (ResultFrame.moves State.voqRequest_moves (by decide) (by decide)).trans (State.voqRelease_resultFrame _ _)
  unfold State.voqJoin
  dsimp -proj only
  split
  · exact ((State.outcome_resultFrame _ _).trans (State.count_resultFrame _ _)).trans (State.release_resultFrame _ _)
  · exact (ResultFrame.moves State.setVoq_moves (by decide) (by decide)).trans hRun

theorem State.mcEntries_resultFrame (d tag : Nat) (qs : List Nat) : ResultFrame s (s.mcEntries d tag qs).1 := by
  have hOutcome {y : State} : ResultFrame y (y.outcome d 4) := State.outcome_resultFrame _ _
  have hPool {y : State} : ResultFrame y ((y.incSat 0x800018 31 0 1).count (cChip 6) 1) :=
    (State.incSat_resultFrame (by decide) _ _ _).trans (State.count_resultFrame _ _)
  refine List.foldlRecOn (motive := fun a : State × List (Nat × QEntry) × Nat => ResultFrame s a.1) _ _ .refl fun a ha q _ => ?_
  obtain ⟨y, es, used⟩ := a
  refine ResultFrame.trans ha ?_
  dsimp -proj only
  split
  · split
    · exact (hPool.trans (State.schedFault_resultFrame _ _)).trans hOutcome
    · exact hPool.trans hOutcome
  · split
    · next h => exact (State.takeIndex_resultFrame_eq h).trans hOutcome
    · next h => exact State.takeIndex_resultFrame_eq h

theorem State.makeEntries_resultFrame (r : Result) : ResultFrame s (s.makeEntries r).1 := by
  unfold State.makeEntries State.oneEntry
  split
  · exact .refl
  · split
    · exact State.mcEntries_resultFrame _ _ _
    · split <;> next h => exact State.takeIndex_resultFrame_eq h

theorem State.passCopies_resultFrame (d : Nat) (r : CopyReq) (ts : Word) (egress : Bool) (out : Option Nat) :
    ResultFrame s (s.passCopies d r ts egress out).1 := by
  have hCopy {y : State} {c : List CopyRec} : ResultFrame y { y with egr := { y.egr with copies := c } } :=
    ⟨fun _ _ _ => rfl, rfl⟩
  have hTaken {y z : State} {i : Option Nat} (h : y.takeIndex d = (z, i)) : ResultFrame y z := State.takeIndex_resultFrame_eq h
  have hAsked {y z : State} {m : Nat} {b : Bool} (h : y.mirrorRequest m = (z, b)) : ResultFrame y z :=
    .moves (State.mirrorRequest_moves_eq h) (by decide) (by decide)
  have hCount {y : State} {off : Nat} : ResultFrame y (y.count off 1) := State.count_resultFrame _ _
  unfold State.passCopies
  dsimp -proj only
  generalize hCpu : (ite (r.cpu = true) _ _ : State × List Holder) = y
  have hFirst : ResultFrame s y.1 := by
    rw [← hCpu]
    split
    · split
      · next h => exact (hTaken h).trans hCopy
      · next h => exact hTaken h
    · exact .refl
  split
  · exact hFirst
  · split
    · next h => exact hFirst.trans (hAsked h)
    · next h =>
      split
      · exact (hFirst.trans (hAsked h)).trans hCount
      · split
        · next h' => exact ((hFirst.trans (hAsked h)).trans (hTaken h')).trans hCount
        · next h' => exact (((hFirst.trans (hAsked h)).trans (hTaken h')).trans hCopy).trans hCount

theorem State.makeCopies_resultFrame (r : Result) : ResultFrame s (s.makeCopies r).1 :=
  List.foldlRecOn (motive := fun a : State × List Holder => ResultFrame s a.1) _ _ .refl
    fun _ ha _ _ => ha.trans (State.passCopies_resultFrame _ _ _ _ _)

theorem State.handOver_resultFrame (r : Result) (h : Holder) (entries : List (Nat × QEntry)) (extra : List Holder) :
    ResultFrame s (s.handOver r h entries extra) := by
  have hPlaced {y : State} : ResultFrame y (y.enqueueAll r entries) := by
    refine .fold fun y e => ?_
    split
    · exact State.voqJoin_resultFrame _ _ _
    · exact State.placeCopy_resultFrame _ _
  have hEnd (y : State × Bool) (hy : ResultFrame s y.1) : ResultFrame s
      (if y.2 then y.1.enqueueAll r entries else entries.foldl (fun s e => s.lose r.desc (e.1 / 16) 3) y.1) := by
    split
    · exact hy.trans hPlaced
    · exact hy.trans (.fold fun _ _ => State.lose_resultFrame _ _ _)
  exact hEnd _ (State.holderOp_resultFrame _ _ _ _)

theorem State.releaseResult_resultFrame (pair : Nat) (r : Result) : ResultFrame s (s.releaseResult pair r) :=
  ((((ResultFrame.moves State.markReleased_moves (by decide) (by decide)).trans (State.makeEntries_resultFrame r)).trans
    (State.makeCopies_resultFrame r)).trans (.moves State.countResultDrop_moves (by decide) (by decide))).trans
      (State.handOver_resultFrame _ _ _ _)

/-- A release of a pair's next result writes the registers of its counts and faults alone. -/
theorem State.resultRelease_resultFrame (pair : Nat) : ResultFrame s (s.resultRelease pair) := by
  have hOrder {y : State} {x : PairOrder} : ResultFrame y (y.setOrder pair x) := .moves State.setOrder_moves (by decide)
    (by decide)
  have hUse {y : State} {g n : Nat} : ResultFrame y (y.setReorderUse g n) := .moves State.setReorderUse_moves (by decide)
    (by decide)
  unfold State.resultRelease
  dsimp -proj only
  split
  · exact ((hOrder.trans hUse).trans (State.incSat_resultFrame (by decide) _ _ _)).trans (State.count_resultFrame _ _)
  · split
    · exact .refl
    · exact hOrder.trans (.moves State.advanceRelease_moves (by decide) (by decide))
    · split
      · exact (hOrder.trans hUse).trans (State.releaseResult_resultFrame _ _)
      · exact .refl

theorem State.releaseRing_resultFrame (pair : Nat) : ResultFrame s (s.releaseRing pair) :=
  .fold fun _ _ => State.resultRelease_resultFrame _

theorem State.releaseHost_resultFrame : ResultFrame s s.releaseHost :=
  .fold fun _ _ => .fold fun _ _ => State.resultRelease_resultFrame _

theorem State.releaseHost_keepsDecision : KeepsDecision s s.releaseHost :=
  .fold fun _ _ => .fold fun _ _ => State.resultRelease_keepsDecision _

/-- With no ring of the host in order, none is released. -/
theorem State.releaseHost_none (h : ∀ e ∈ s.ord.pairs, e.1 < 16384) : s.releaseHost = s := by
  have hNone : s.ord.pairs.filter (fun e => decide (16384 ≤ e.1)) = [] :=
    List.filter_eq_nil_iff.mpr fun e he => by simpa using h e he
  rw [State.releaseHost, hNone, List.foldl_nil]

end Sys2Proof.Machine
end

section
/-! PROOFS. The boot from the chosen bank to READY (R493 to R496, R500). -/

namespace Sys2Proof.Machine

variable {s t u : State}

/-! ### A boot that fails (R495) -/

theorem State.writeBcb_boot (rom : Bool) (base : Nat) (b : List Byte) :
    ∃ flash, (s.writeBcb rom base b).boot = { s.boot with flash := flash } := by
  unfold State.writeBcb
  split
  · exact ⟨_, rfl⟩
  · split
    · exact ⟨_, rfl⟩
    · exact ⟨_, rfl⟩

theorem State.appendBcb_boot (rom : Bool) (r : Bcb) : ∃ flash, (s.appendBcb rom r).boot = { s.boot with flash := flash } :=
  State.writeBcb_boot _ _ _

/-- The boot of a bank has failed: it is among those tried, the first failure is noted, and no part is starting. -/
structure BootFailed (f : Nat) (s t : State) : Prop where
  tried : s.boot.bank ∈ t.boot.tried
  failed : t.boot.failed = some (s.boot.failed.getD f)
  starting : t.boot.starting = false

/-- The trial, if one was under way, is recorded as failed. -/
def State.trialRecorded (s : State) (f : Nat) : State :=
  if s.boot.trial then s.appendBcb true { s.bcb with trial := 0xFF, fail := f } else s

/-- The bank is noted as tried. -/
def State.bankFailed (s : State) (f : Nat) : State :=
  let s := s.trialRecorded f
  { s with boot := { s.boot with
    tried := addOnce s.boot.tried s.boot.bank, failed := some (s.boot.failed.getD f), starting := false, trial := false } }

theorem State.trialRecorded_boot (f : Nat) : ∃ flash, (s.trialRecorded f).boot = { s.boot with flash := flash } := by
  unfold State.trialRecorded
  split
  · exact State.appendBcb_boot _ _
  · exact ⟨_, rfl⟩

theorem State.bankFailed_failed (f : Nat) : BootFailed f s (s.bankFailed f) := by
  obtain ⟨flash, hBoot⟩ := State.trialRecorded_boot (s := s) f
  constructor
  case tried => rw [State.bankFailed, hBoot]; exact mem_addOnce _ _
  case failed => rw [State.bankFailed, hBoot]
  case starting => rfl

theorem State.bootFails_next (part cause : Nat) : ∃ next : Nat, s.bootFails part cause
    = if (s.bankFailed (part * 16 + cause)).boot.tried.contains next
      then (s.bankFailed (part * 16 + cause)).showBcb.setPhase 5
      else (s.bankFailed (part * 16 + cause)).tryBank next false := ⟨_, rfl⟩

theorem State.bootFails_failed (part cause : Nat) : BootFailed (part * 16 + cause) s (s.bootFails part cause) := by
  obtain ⟨hTried, hFailed, hStarting⟩ := State.bankFailed_failed (s := s) (part * 16 + cause)
  obtain ⟨next, hNext⟩ := State.bootFails_next (s := s) part cause
  rw [hNext]
  split
  · have hBoot : ((s.bankFailed (part * 16 + cause)).showBcb.setPhase 5).boot = (s.bankFailed (part * 16 + cause)).boot :=
      (State.setPhase_moves.same .boot (by decide)).trans State.showBcb_boot
    constructor <;> rwa [hBoot]
  · constructor <;> rw [State.tryBank_boot]
    · exact hTried
    · exact hFailed

theorem BootFailed.listed {f : Nat} (h : BootFailed f s t) :
    s.boot.bank ∈ t.boot.tried ∧ t.boot.failed = some (s.boot.failed.getD f) ∧ t.boot.starting = false :=
  ⟨h.tried, h.failed, h.starting⟩

/-! ### READY (R496, R500) -/

theorem State.setPhase_phase {n : Nat} (h : n < 16) : (s.setPhase n).bootPhase = n :=
  (State.fld_setFld_same _ _ _ _ _ (by decide) (by decide)).trans (Nat.mod_eq_of_lt h)

theorem State.becomeReady_spec : s.becomeReady.bootPhase = 4 ∧ s.becomeReady.boot.starting = false
    ∧ s.becomeReady.boot.trial = false := by
  have hReady (y : State) : ((y.partsStarted.setPhase 4).journalRecovery).schedulePoint.boot = y.partsStarted.boot :=
    (State.schedulePoint_moves.same .boot (by decide)).trans ((State.journalRecovery_moves.same .boot (by decide)).trans
      (State.setPhase_moves.same .boot (by decide)))
  have hPhase (y : State) : ((y.partsStarted.setPhase 4).journalRecovery).schedulePoint.bootPhase = 4 :=
    (State.schedulePoint_writes.fld (by decide) _ _).trans ((State.fld_moves State.journalRecovery_moves
      (by decide) _ _ _).trans
      (State.setPhase_phase (by decide)))
  have hForm : ∃ y : State, s.becomeReady = ((y.partsStarted.setPhase 4).journalRecovery).schedulePoint := ⟨_, rfl⟩
  obtain ⟨y, hy⟩ := hForm
  rw [hy, hReady]
  exact ⟨hPhase y, rfl, rfl⟩

theorem State.settingsStage_ready (h : s.boot.trial = false) : s.settingsStage = s.becomeReady :=
  if_neg (fun hBoth => by simp [h] at hBoth)

theorem State.loadVendor_boot (c : Option (Span × Pass × PipeNo)) : (s.loadVendor c).1.boot = s.boot :=
  State.loadVendor_moves.same .boot (by decide)

theorem State.loadVendor_phaseBoot (c : Option (Span × Pass × PipeNo)) (n : Nat) :
    ((s.loadVendor c).1.setPhase n).boot = s.boot :=
  (State.setPhase_moves.same .boot (by decide)).trans (State.loadVendor_boot c)

/-- A load of the vendor image that fails ends in ERROR and leaves the boot's phase (R98). -/
theorem State.loadVendor_fails {c : Option (Span × Pass × PipeNo)} (h : (s.loadVendor c).2 = false) :
    (s.loadVendor c).1.fld 0x12C 1 0 = 3 ∧ (s.loadVendor c).1.bootPhase = s.bootPhase := by
  have hFails (y : State) (hy : y.bootPhase = s.bootPhase) (k : LoadCode) (x : LoadPlace) :
      (y.loadFails k x).fld 0x12C 1 0 = 3 ∧ (y.loadFails k x).bootPhase = s.bootPhase :=
    ⟨State.loadFails_state k x, ((State.loadFails_fld k x (by decide) _ _).trans
      (State.loadStatus_fld _ _ _ (by decide) _ _)).trans hy⟩
  unfold State.loadVendor at h ⊢
  dsimp only at h ⊢
  split
  · exact hFails { s with progs := { s.progs with loadCust := false } } rfl _ _
  · next hGood =>
    rw [if_neg hGood] at h
    cases c with
    | none => cases h
    | some c =>
      dsimp only
      generalize hy : (State.writeImage (State.writeImage _ _ _ _) _ _ _) = y
      have hPhase : (y.setShadow 4).bootPhase = s.bootPhase := by
        rw [State.bootPhase, State.setShadow_fld _ (by decide), ← hy, State.fld_moves State.writeImage_moves (by decide),
          State.fld_moves State.writeImage_moves (by decide)]
        rfl
      have hLatch := State.latchFault_frame (s := (y.setShadow 4).loadFails .readback {})
        (srcSpan c.1 (pipeBlock c.2.1 c.2.2) 0x3F) .s 0 false false (by decide)
      obtain ⟨hState, hKept⟩ := hFails _ hPhase .readback {}
      exact ⟨(hLatch.fld (by decide) _ _).trans hState, (hLatch.fld (by decide) _ _).trans hKept⟩

/-! ### The commands of the boot, by the state that they meet -/

theorem exec_bootVerify_starts (hMode : s.chip.mode = .startUp) (hPhase : s.bootPhase = 1)
    (hSigned : s.manifestSigned s.boot.bank = true) (hFormat : s.manifestFormat s.boot.bank = true)
    (hParts : s.badPart none 1 (s.manifestParts s.boot.bank) = none) :
    exec (.bootVerifyDone none) s = .next (({ s with boot := { s.boot with starting := true } } : State).setPhase 2) := by
  simp only [exec, execBootVerifyDone, hMode, hPhase, hSigned, hFormat, hParts, Option.map_none]
  rfl

theorem exec_bootVerify_unread (hMode : s.chip.mode = .startUp) (hPhase : s.bootPhase = 1) :
    exec (.bootVerifyDone (some 0)) s = .next (s.bootFails 0 6) :=
  (if_neg (by simp [hMode, hPhase])).trans (if_pos rfl)

theorem exec_bootVerify_unsigned {v : Option (Fin 7)} (hMode : s.chip.mode = .startUp) (hPhase : s.bootPhase = 1)
    (hRead : v ≠ some 0) (hSigned : s.manifestSigned s.boot.bank = false) :
    exec (.bootVerifyDone v) s = .next (s.bootFails 0 1) :=
  (if_neg (by simp [hMode, hPhase])).trans ((if_neg hRead).trans (if_pos (by rw [hSigned]; rfl)))

theorem exec_bootStartTimeout (part : BitVec 4) (hMode : s.chip.mode = .startUp) (hStarting : s.boot.starting = true)
    (hPhase : s.bootPhase ≠ 3) : exec (.bootStartTimeout part) s = .next (s.bootFails part.toNat 4) :=
  if_pos ⟨hMode, hStarting, hPhase⟩

section
variable {c : Option (Span × Pass × PipeNo)} (hMode : s.chip.mode = .startUp) (hStarting : s.boot.starting = true)
include hMode hStarting

theorem exec_bootReady_load (b : Bool) (hPhase : s.bootPhase ≠ 3) :
    exec (.bootReady c b) s = if !(s.loadVendor c).2 then .next (s.loadVendor c).1
      else if b then .next ((s.loadVendor c).1.setPhase 3).settingsStage else .next ((s.loadVendor c).1.setPhase 3) :=
  (if_neg (by simp [hMode, hStarting])).trans (if_neg hPhase)

theorem exec_bootReady_loaded (hPhase : s.bootPhase ≠ 3) (hLoaded : (s.loadVendor c).2 = true) :
    exec (.bootReady c true) s = .next ((s.loadVendor c).1.setPhase 3).settingsStage := by
  rw [exec_bootReady_load hMode hStarting true hPhase, if_neg (by simp [hLoaded]), if_pos rfl]

theorem exec_bootReady_loadedFirst (hPhase : s.bootPhase ≠ 3) (hLoaded : (s.loadVendor c).2 = true) :
    exec (.bootReady c false) s = .next ((s.loadVendor c).1.setPhase 3) := by
  rw [exec_bootReady_load hMode hStarting false hPhase, if_neg (by simp [hLoaded]), if_neg (by decide)]

theorem exec_bootReady_settings (hPhase : s.bootPhase = 3) : exec (.bootReady c true) s = .next s.settingsStage :=
  (if_neg (by simp [hMode, hStarting])).trans ((if_pos hPhase).trans (if_pos rfl))

end

end Sys2Proof.Machine
end

section
/-! PROOFS. A GOTO that moves the device, and the traffic that it releases (R265, R485, R486). -/

namespace Sys2Proof.Machine

variable {s t u : State}

/-! ### The end of reset hold -/

/-- Reset hold may have ended for some groups: mode, pipelines, registers and orders are as before, and no group is held that
was not. -/
structure EndsHolds (s t : State) : Prop where
  mode : t.chip.mode = s.chip.mode
  hold : t.chip.hold ⊆ s.chip.hold
  pipes : t.pipes = s.pipes
  regs : t.regs = s.regs
  ord : t.ord = s.ord

theorem EndsHolds.refl : EndsHolds s s := ⟨rfl, fun _ h => h, rfl, rfl, rfl⟩

theorem EndsHolds.trans (h : EndsHolds s t) (k : EndsHolds t u) : EndsHolds s u :=
  ⟨k.mode.trans h.mode, List.Subset.trans k.hold h.hold, k.pipes.trans h.pipes, k.regs.trans h.regs, k.ord.trans h.ord⟩

theorem State.xons_chip (ps : List Nat) : (ps.foldl (fun s p => s.xon p (List.range 8)) s).chip = s.chip :=
  (Moves.fold (ps := [.counters, .emitted]) (fun _ _ => State.xon_moves) .refl).same .chip (by decide)

theorem State.leaveHold_chip (g : Nat) (h : s.inHold g = true) :
    (s.leaveHold g).chip = { s.chip with hold := s.chip.hold.filter (fun x => x ≠ g) } := by
  rw [State.leaveHold, if_pos h]
  exact State.xons_chip _

theorem State.endHold_ends (g : Nat) : EndsHolds s (s.endHold g) := by
  have hMoves := State.endHold_moves (s := s) (g := g)
  have hChip : (s.endHold g).chip = s.chip
      ∨ (s.endHold g).chip = { s.chip with hold := s.chip.hold.filter (fun x => x ≠ g) } := by
    unfold State.endHold
    split
    · exact .inl rfl
    · by_cases hHeld : s.inHold g = true
      · exact .inr (State.leaveHold_chip g hHeld)
      · exact .inl (by rw [State.leaveHold, if_neg hHeld])
  refine ⟨?_, ?_, hMoves.same .pipes (by decide), hMoves.same .regs (by decide), hMoves.same .ord (by decide)⟩
  · rcases hChip with h | h <;> rw [h]
  · rcases hChip with h | h <;> rw [h]
    · exact fun _ hIn => hIn
    · exact List.filter_subset_self _

/-- A group that a pipeline serves is in reset hold no more. -/
theorem State.endHold_served {g : Nat} (h : (s.passOf (g / 4) .ingress).unserved.contains (g % 4) = false) :
    g ∉ (s.endHold g).chip.hold := by
  rw [State.endHold, if_neg (by rw [h]; exact Bool.false_ne_true)]
  by_cases hHeld : s.inHold g = true
  · rw [State.leaveHold_chip g hHeld]
    simp
  · rw [State.leaveHold, if_neg hHeld]
    simpa [State.inHold] using hHeld

theorem State.endHoldFold_ends (gs : List Nat) : EndsHolds s (gs.foldl (fun s g => s.endHold g) s) :=
  List.foldlRecOn (motive := fun t => EndsHolds s t) _ _ .refl (fun _ ht g _ => ht.trans (State.endHold_ends g))

theorem State.endHoldFold_served {gs : List Nat} {g : Nat} (hIn : g ∈ gs)
    (h : (s.passOf (g / 4) .ingress).unserved.contains (g % 4) = false) :
    g ∉ (gs.foldl (fun s g => s.endHold g) s).chip.hold := by
  induction gs generalizing s with
  | nil => cases hIn
  | cons a gs ih =>
    by_cases ha : g = a
    · subst ha
      exact fun hHeld => State.endHold_served h ((State.endHoldFold_ends gs).hold hHeld)
    · refine ih (List.mem_of_ne_of_mem ha hIn) ?_
      rw [State.passOf, (State.endHold_ends a).pipes]
      exact h

/-- With no host ring in order, the release of traffic ends holds and lets the links go on. -/
theorem State.releaseTraffic_noHost (h : ∀ e ∈ s.ord.pairs, e.1 < 16384) :
    s.releaseTraffic = (List.range 64).foldl (fun s g => s.endHold g) s.resumeLinks := by
  refine State.releaseHost_none fun e he => h e ?_
  rwa [(State.endHoldFold_ends _).ord, State.resumeLinks_moves.same .ord (by decide)] at he

theorem State.releaseTraffic_served (hHost : ∀ e ∈ s.ord.pairs, e.1 < 16384) {g : Nat} (hg : g < 64)
    (h : (s.passOf (g / 4) .ingress).unserved.contains (g % 4) = false) : g ∉ s.releaseTraffic.chip.hold := by
  rw [State.releaseTraffic_noHost hHost]
  refine State.endHoldFold_served (List.mem_range.mpr hg) ?_
  rwa [State.passOf, State.resumeLinks_moves.same .pipes (by decide)]

theorem State.releaseTraffic_mode : s.releaseTraffic.chip.mode = s.chip.mode := by
  rw [State.releaseTraffic, State.endHolds, State.releaseHost_keepsDecision.mode, (State.endHoldFold_ends _).mode]
  exact congrArg ChipState.mode (State.resumeLinks_moves.same .chip (by decide))

theorem State.releaseTraffic_resultFrame : ResultFrame s s.releaseTraffic := by
  have hHolds : ResultFrame s.resumeLinks ((List.range 64).foldl (fun s g => s.endHold g) s.resumeLinks) :=
    ⟨fun o _ _ => congrArg (fun regs => Tbl.get resetWord regs o) (State.endHoldFold_ends _).regs,
      congrArg PipesState.hostTx (State.endHoldFold_ends _).pipes⟩
  rw [State.releaseTraffic, State.endHolds]
  exact ((ResultFrame.moves State.resumeLinks_moves (by decide) (by decide)).trans hHolds).trans State.releaseHost_resultFrame

/-! ### GOTO -/

/-- The device in the mode that a GOTO names, with the pins settled and no pin test in SERVICE (R462, R485). -/
def State.goneTo (s : State) (target : DevState) : State :=
  let y : State := { s with chip := { s.chip with mode := target } }
  (if target = .service then y.setBit 0x100018 31 false else y).settlePins s.errDActive s.errSActive

theorem State.goto_accepted {m : DevState} (h : s.gotoCause m = 0) :
    s.goto m = if s.chip.mode = .startUp then (s.goneTo m).releaseTraffic else s.goneTo m := by
  rw [State.goto]
  simp only [h, ne_eq, not_true_eq_false, if_false, decide_eq_true_eq]
  rfl

theorem State.goto_refused {m : DevState} (h : s.gotoCause m ≠ 0) : s.goto m = s.gotoRefused (s.gotoCause m) := if_pos h

theorem State.goneTo_moves (m : DevState) : Moves [.emitted, .regs, .chip] s (s.goneTo m) :=
  .step State.settlePins_moves (by decide)
    (.ite (.step State.setBit_moves (by decide) (.chip (by decide) .refl)) (.chip (by decide) .refl))

theorem State.goneTo_chip (m : DevState) : (s.goneTo m).chip = { s.chip with mode := m } := by
  refine (State.settlePins_moves.same .chip (by decide)).trans ?_
  split <;> rfl

theorem State.goneTo_pinTest : (s.goneTo .service).bit 0x100018 31 = false :=
  (State.bit_moves State.settlePins_moves (by decide) _ _).trans (State.bit_setBit_same _ _ _ _ (by decide))

theorem State.goto_mode {m : DevState} (h : s.gotoCause m = 0) : (s.goto m).chip.mode = m := by
  rw [State.goto_accepted h]
  split
  · rw [State.releaseTraffic_mode, State.goneTo_chip]
  · rw [State.goneTo_chip]

theorem State.goto_pinTest (h : s.gotoCause .service = 0) : (s.goto .service).bit 0x100018 31 = false := by
  rw [State.goto_accepted h]
  split
  · exact (State.releaseTraffic_resultFrame.bit (by decide) (by decide) _).trans State.goneTo_pinTest
  · exact State.goneTo_pinTest

/-- Holds stay out of START-UP and end, in START-UP, for every group that is served. -/
theorem State.goto_holds {m : DevState} (h : s.gotoCause m = 0) (hHost : ∀ e ∈ s.ord.pairs, e.1 < 16384) :
    (s.chip.mode ≠ .startUp → (s.goto m).chip.hold = s.chip.hold) ∧
    (s.chip.mode = .startUp → ∀ g, g < 64 → (s.passOf (g / 4) .ingress).unserved.contains (g % 4) = false →
      g ∉ (s.goto m).chip.hold) := by
  rw [State.goto_accepted h]
  constructor
  · intro hMode
    rw [if_neg hMode, State.goneTo_chip]
  · intro hMode g hg hServed
    rw [if_pos hMode]
    refine State.releaseTraffic_served ?_ hg ?_
    · rwa [(State.goneTo_moves m).same .ord (by decide)]
    · rwa [State.passOf, (State.goneTo_moves m).same .pipes (by decide)]

theorem State.gotoCause_le (m : DevState) : s.gotoCause m ≤ 5 := by
  unfold State.gotoCause
  extract_lets legal
  clear_value legal
  split_ifs <;> omega

theorem State.gotoRefused_spec {c : Nat} (hc : c ≤ 5) : (s.gotoRefused c).chip = s.chip ∧ (s.gotoRefused c).bit 0x8 31 = true ∧
    (s.gotoRefused c).fld 0x8 11 8 = c ∧ (∀ o, o ≠ 0x8 → (s.gotoRefused c).reg o = s.reg o) ∧
    OnlyTouches [.regs] s (s.gotoRefused c) := by
  refine ⟨State.gotoRefused_moves.same .chip (by decide), ?_, ?_, fun o ho => ?_, State.gotoRefused_moves.only⟩
  · have hKept : (s.gotoRefused c).bit 0x8 31 = (s.setBit 0x8 31 true).bit 0x8 31 := by
      rw [State.bit, State.bit, State.gotoRefused, State.fld_setFld_ne _ _ _ _ _ _ _ _ (by decide) (by decide) (by decide)
        (by decide)]
    exact hKept.trans (State.bit_setBit_same _ _ _ _ (by decide))
  · exact (State.fld_setFld_same _ _ _ _ _ (by decide) (by decide)).trans (Nat.mod_eq_of_lt (by omega))
  · exact (State.reg_setFld_ne _ _ _ _ _ _ ho).trans (State.reg_setFld_ne _ _ _ _ _ _ ho)

/-- Settles O37: a bank that fails is noted by what every failed boot does, and a GOTO moves the device by what the release of
traffic leaves. -/
theorem bootsAndMoves : Obligations.BootsAndMoves := by
  unfold Obligations.BootsAndMoves
  refine ⟨?starts, ?unsigned, ?unread, ?timeout, ?ready, ?readySettings, ?settings, ?trialFails, ?nothing, ?vendorFails,
    ?gotoService, ?gotoTest, ?gotoServiceAny, ?gotoTestAny, ?testRefused, ?serviceRefused⟩
  case starts =>
    intro s hMode hPhase hSigned hFormat hParts
    have hMoves : Moves [.regs, .boot] s (({ s with boot := { s.boot with starting := true } } : State).setPhase 2) :=
      .step State.setPhase_moves (by decide) (.boot (by decide) (fun h => h) .refl)
    exact ⟨_, exec_bootVerify_starts hMode hPhase hSigned hFormat hParts, State.setPhase_phase (by decide), rfl,
      fun o ho => State.reg_setFld_ne _ _ _ _ _ _ ho, hMoves.only⟩
  case unsigned =>
    intro v s hMode hPhase hRead hSigned _
    exact ⟨_, exec_bootVerify_unsigned hMode hPhase hRead hSigned, (State.bootFails_failed 0 1).listed⟩
  case unread =>
    intro s hMode hPhase
    obtain ⟨hTried, hFailed, hStarting⟩ := State.bootFails_failed (s := s) 0 6
    exact ⟨_, exec_bootVerify_unread hMode hPhase, hTried, hFailed, hStarting, State.bootFails_moves.only⟩
  case timeout =>
    intro part s hMode hStarting hPhase
    obtain ⟨hTried, hFailed, hStopped⟩ := State.bootFails_failed (s := s) part.toNat 4
    exact ⟨_, exec_bootStartTimeout part hMode hStarting hPhase, hTried, hFailed, hStopped, State.bootFails_moves.only⟩
  case ready =>
    intro s hMode hStarting hPhase hTrial hLoaded
    refine ⟨_, exec_bootReady_loaded hMode hStarting hPhase hLoaded, ?_⟩
    rw [State.settingsStage_ready]
    · exact State.becomeReady_spec
    · rw [State.loadVendor_phaseBoot, hTrial]
  case readySettings =>
    intro s hMode hStarting hPhase hLoaded
    exact ⟨_, exec_bootReady_loadedFirst hMode hStarting hPhase hLoaded, State.setPhase_phase (by decide),
      State.loadVendor_phaseBoot none 3⟩
  case settings =>
    intro c s hMode hStarting hPhase hTrial
    refine ⟨_, exec_bootReady_settings hMode hStarting hPhase, ?_⟩
    rw [State.settingsStage_ready hTrial]
    exact State.becomeReady_spec
  case trialFails =>
    intro c s hMode hStarting hPhase hTrial hFate
    refine ⟨_, exec_bootReady_settings hMode hStarting hPhase, ?_⟩
    rw [State.settingsStage, if_pos ⟨hTrial, hFate⟩]
    exact (State.bootFails_failed 6 5).listed
  case nothing =>
    intro c b u part s
    refine ⟨fun h => ?_, fun h => if_pos h, fun h => if_neg ?_⟩
    · rcases h with h | h | ⟨h, rfl⟩
      · exact if_pos (.inl h)
      · exact if_pos (.inr (by simp [h]))
      · exact ite_eq_left_iff.mpr fun _ => (if_pos h).trans (if_neg (by decide))
    · rintro ⟨hMode, hStarting, hPhase⟩
      rcases h with h | h | h
      · exact h hMode
      · simp [h] at hStarting
      · exact hPhase h
  case vendorFails =>
    intro c b s hMode hStarting hPhase hFails
    obtain ⟨hState, hKept⟩ := State.loadVendor_fails hFails
    exact ⟨_, (exec_bootReady_load hMode hStarting b hPhase).trans (if_pos (by simp [hFails])), hState, hKept,
      State.loadVendor_boot c⟩
  case gotoService =>
    intro s hCause hHost
    exact ⟨_, rfl, State.goto_mode hCause, State.goto_pinTest hCause, State.goto_holds hCause hHost⟩
  case gotoTest => exact fun s hCause hHost => ⟨_, rfl, State.goto_mode hCause, State.goto_holds hCause hHost⟩
  case gotoServiceAny => exact fun s hCause => ⟨_, rfl, State.goto_mode hCause, State.goto_pinTest hCause⟩
  case gotoTestAny => exact fun s hCause => ⟨_, rfl, State.goto_mode hCause⟩
  case testRefused =>
    intro s hCause
    refine ⟨s.gotoRefused (s.gotoCause .test), congrArg Host.Outcome.next (State.goto_refused hCause),
      State.gotoRefused_spec (State.gotoCause_le _)⟩
  case serviceRefused =>
    intro s hCause
    refine ⟨s.gotoRefused (s.gotoCause .service), congrArg Host.Outcome.next (State.goto_refused hCause),
      State.gotoRefused_spec (State.gotoCause_le _)⟩

end Sys2Proof.Machine
end

section
/-! PROOFS. A write of FC_PIN that asks for what stands there, in a register table that is not canonical (R462). -/

namespace Sys2Proof.Machine

/-- A device in SERVICE whose register table holds an entry that repeats the reset value of FC_PIN: every register reads as
after reset. -/
def pinEntryKept : State := { State.reset with
  regs := (0x100018, resetWord 0x100018) :: State.reset.regs
  chip := { State.reset.chip with mode := .service } }

/-- The write is taken, for it asks for what FC_PIN holds, and the entry that repeats the reset value leaves the table. -/
theorem pinEntryKept_write : ∃ t, exec (.fcPinTestWrite 0) pinEntryKept = .next t ∧ t.regs ≠ pinEntryKept.regs :=
  ⟨_, rfl, by decide +kernel⟩

/-- Refutes O59: of FC_PIN.TEST it says that a write which changes nothing leaves the state as it was, of every state; where the
register table holds an entry equal to the reset value, the write takes that entry out. No run
reaches such a table: O5 keeps it canonical. -/
theorem not_faultsLatchAndReact : ¬ Obligations.FaultsLatchAndReact := by
  unfold Obligations.FaultsLatchAndReact
  rintro ⟨_, _, _, _, _, _, _, _, _, _, _, _, _, _, _, _, _, _, _, _, _, _, _, _, _, _, _, _, hPinSame, _⟩
  obtain ⟨t, hExec, hSame⟩ := hPinSame 0 pinEntryKept (by decide) (by decide)
  obtain ⟨t', hExec', hRegs⟩ := pinEntryKept_write
  cases hExec.symm.trans hExec'
  exact hRegs (congrArg State.regs hSame)

end Sys2Proof.Machine
end

section
/-! PROOFS. Submission and receive rings: their registers, the start of a scan, and buffers read ahead (R371 to R380, R387). -/

namespace Sys2Proof.Machine

variable {s t u : State} {r : Nat}

/-! ### The registers of a ring (R402, R403) -/

theorem State.setSqState_writes (st cause : Nat) : WritesOnly [sqOff r + 0x1C] s (s.setSqState r st cause) :=
  .setFld (by simp) (.setFld (by simp) .refl)

theorem State.setSqState_state {st : Nat} (h : st < 8) (cause : Nat) : (s.setSqState r st cause).sqState r = st := by
  rw [State.sqState, State.setSqState, State.fld_setFld_ne _ _ _ _ _ _ _ _ (by decide) (by decide) (by decide) (by decide)]
  exact (State.fld_setFld_same _ _ _ _ _ (by decide) (by decide)).trans (Nat.mod_eq_of_lt h)

theorem State.setSqState_cause {cause : Nat} (h : cause < 8) (st : Nat) : (s.setSqState r st cause).sqCause r = cause :=
  (State.fld_setFld_same _ _ _ _ _ (by decide) (by decide)).trans (Nat.mod_eq_of_lt h)

/-- STALL and RING_ERR stand when STATE changes. -/
theorem State.setSqState_bit {i : Nat} (h : i < 26) (st cause : Nat) :
    (s.setSqState r st cause).bit (sqOff r + 0x1C) i = s.bit (sqOff r + 0x1C) i := by
  have hFld : (s.setSqState r st cause).fld (sqOff r + 0x1C) i i = s.fld (sqOff r + 0x1C) i i := by
    rw [State.setSqState, State.fld_setFld_ne _ _ _ _ _ _ _ _ (by decide) (by decide) (by omega) (by omega),
      State.fld_setFld_ne _ _ _ _ _ _ _ _ (by decide) (by decide) (by omega) (by omega)]
  exact congrArg (fun n => decide (n = 1)) hFld

theorem State.sq_setSqState (st cause k : Nat) : (s.setSqState r st cause).sq k = s.sq k :=
  State.sq_of_hq (State.setSqState_moves.same .hq (by decide)) k

/-- What a submission ring's STATUS register holds does not say what its CFG and CI registers hold. -/
structure KeepsSq (r : Nat) (s t : State) : Prop where
  cfg : t.reg (sqOff r + 0x18) = s.reg (sqOff r + 0x18)
  ci : t.reg (sqOff r + 0x20) = s.reg (sqOff r + 0x20)

theorem KeepsSq.kind (h : KeepsSq r s t) : t.sqKind r = s.sqKind r := by rw [State.sqKind, State.fld, h.cfg]; rfl
theorem KeepsSq.en (h : KeepsSq r s t) : t.sqEn r = s.sqEn r := by rw [State.sqEn, State.bit, State.fld, h.cfg]; rfl
theorem KeepsSq.log (h : KeepsSq r s t) : t.sqLog r = s.sqLog r := by rw [State.sqLog, State.fld, h.cfg]; rfl
theorem KeepsSq.cq (h : KeepsSq r s t) : t.sqCq r = s.sqCq r := by rw [State.sqCq, State.fld, h.cfg]; rfl
theorem KeepsSq.sqCi (h : KeepsSq r s t) : t.sqCi r = s.sqCi r := h.ci

theorem KeepsSq.refl : KeepsSq r s s := ⟨rfl, rfl⟩
theorem KeepsSq.trans (h : KeepsSq r s t) (k : KeepsSq r t u) : KeepsSq r s u := ⟨k.cfg.trans h.cfg, k.ci.trans h.ci⟩
theorem KeepsSq.of_regs (h : t.regs = s.regs) : KeepsSq r s t :=
  ⟨congrArg (fun regs => Tbl.get resetWord regs (sqOff r + 0x18)) h, congrArg (fun regs => Tbl.get resetWord regs
    (sqOff r + 0x20)) h⟩

theorem KeepsSq.writes {os : List Nat} (h : WritesOnly os s t) (hs : ∀ o ∈ os, o ≠ sqOff r + 0x18 ∧ o ≠ sqOff r + 0x20) :
    KeepsSq r s t :=
  ⟨h _ fun hIn => (hs _ hIn).1 rfl, h _ fun hIn => (hs _ hIn).2 rfl⟩

theorem State.setSqState_keepsSq (st cause : Nat) : KeepsSq r s (s.setSqState r st cause) :=
  .writes (State.setSqState_writes st cause) (by simp)

theorem State.scanPi_keepsSq (pi : Word) : KeepsSq r s (s.setReg (sqOff r + 0x24) pi) :=
  .writes (os := [sqOff r + 0x24]) (.setReg (by simp) .refl) (by simp)

/-! ### The start of a scan (R376) -/

theorem State.startScan_none (h : s.sqRuns r = false ∨ 3 ≤ s.sqKind r) : s.startScan r = s :=
  if_pos (by simpa using h)

section
variable (hRuns : s.sqRuns r = true) (hKind : s.sqKind r ≤ 2)
include hRuns hKind

theorem State.startScan_noBus (hBus : s.hostOn = false) : s.startScan r = s.setSqState r 3 5 :=
  (if_neg (by simp [hRuns]; omega)).trans (if_pos (by rw [hBus]; rfl))

theorem State.startScan_running (hBus : s.hostOn = true) (hScans : s.sqState r = 2) :
    s.startScan r = s.setSq r { (s.sq r) with again := true } :=
  (if_neg (by simp [hRuns]; omega)).trans ((if_neg (by simp [hBus])).trans (if_pos hScans))

theorem State.startScan_starts (hBus : s.hostOn = true) (hRests : s.sqState r ≠ 2) :
    s.startScan r = (s.setSq r { (s.sq r) with again := false }).setSqState r 2 0 :=
  (if_neg (by simp [hRuns]; omega)).trans ((if_neg (by simp [hBus])).trans (if_neg hRests))

end

/-- A write of BAR2 that meets one doorbell of a submission ring starts its scan (R371). -/
theorem exec_sqDoorbell {off : BitVec 19} {len : Fin 64} {cis : List (Option Word)} (hRing : r < 4096)
    (h : doorbellsOf off.toNat (len.val + 1) = [r]) : exec (.sqDoorbell off len cis) s = .next (s.startScan r) := by
  have hOne : State.ringDoorbells [r] cis s = s.startScan r := if_pos hRing
  rw [← hOne, ← h]
  rfl

/-! ### The timer of a stopped scan, and a freed resource (R377, R380) -/

/-- A scan that has stopped for 1 ms shows STALL. -/
def State.stallRing (s : State) (r : Nat) : State :=
  (((s.setSq r { (s.sq r) with stalled := true }).setBit (sqOff r + 0x1C) 24 true).setSqState r 4 0).irq 5

theorem State.irq_keepsRegs {o : Nat} (h : o < 0x418000 ∨ 0x418100 ≤ o) (n : Nat) : (s.irq n).reg o = s.reg o := by
  have hVector (v : Nat) (hv : v < 2048) : (s.msixVector v).reg o = s.reg o := by
    unfold State.msixVector
    split
    · exact State.reg_setFld_ne _ _ _ _ _ _ (by omega)
    · split <;> rfl
  unfold State.irq
  split
  · exact hVector _ (getBits_lt _ _ _)
  · rfl

theorem State.stallRing_moves : Moves [.regs, .emitted, .hq] s (s.stallRing r) :=
  .step State.irq_moves (by decide) (.step State.setSqState_moves (by decide) (.step State.setBit_moves (by decide)
    (State.setSq_moves.mono (by decide))))

theorem State.stallRing_status (i : Nat) (h : i < 26) :
    (s.stallRing r).bit (sqOff r + 0x1C) i = (s.setBit (sqOff r + 0x1C) 24 true).bit (sqOff r + 0x1C) i := by
  rw [State.stallRing, State.bit, State.fld, State.irq_keepsRegs (.inr (by simp [sqOff]; omega))]
  exact State.setSqState_bit h _ _

theorem State.stallRing_state : (s.stallRing r).sqState r = 4 := by
  rw [State.stallRing, State.sqState, State.fld, State.irq_keepsRegs (.inr (by simp [sqOff]; omega))]
  exact State.setSqState_state (by decide) _

theorem State.stallRing_sq : (s.stallRing r).sq r = { (s.sq r) with stalled := true } := by
  have hHq : (s.stallRing r).hq = (s.setSq r { (s.sq r) with stalled := true }).hq :=
    (State.irq_moves.same .hq (by decide)).trans ((State.setSqState_moves.same .hq (by decide)).trans
      (State.setBit_moves.same .hq (by decide)))
  rw [State.sq_of_hq hHq, State.sq_setSq]

theorem State.stallRing_keepsSq : KeepsSq r s (s.stallRing r) := by
  have hSet : WritesOnly [sqOff r + 0x1C] s (((s.setSq r { (s.sq r) with stalled := true }).setBit (sqOff r + 0x1C) 24
      true).setSqState r 4 0) :=
    .trans (.setBit (by simp) (.of_regs rfl)) (State.setSqState_writes _ _)
  exact (KeepsSq.writes hSet (by simp)).trans
    ⟨State.irq_keepsRegs (.inr (by simp [sqOff]; omega)) 5, State.irq_keepsRegs (.inr (by simp [sqOff]; omega)) 5⟩

/-- A stop of 1 ms is shown and the scan starts again. -/
theorem exec_sqRescanTimer_stalls {q : Ring} {t0 : Nat} (hRuns : s.sqRuns q = true) (hScans : s.sqState q ≠ 2)
    (hWaits : s.sqState q ≠ 3) (hSince : (s.sq q).since = some t0) (hLong : t0 + 1000000 ≤ s.now)
    (hNew : (s.sq q).stalled = false) : exec (.sqRescanTimer q) s = .next ((s.stallRing q).startScan q) := by
  show execSqRescanTimer q s = _
  unfold execSqRescanTimer
  dsimp -proj only
  split
  · next hNone => simp [hSince] at hNone
  · next t1 hSome =>
    obtain rfl : t0 = t1 := Option.some.inj (hSince.symm.trans hSome)
    rw [if_neg (by simp [hRuns, hScans, hWaits]), if_pos (by simp [hLong, hNew])]
    rfl

theorem exec_sqRescanTimer_nothing {q : Ring}
    (h : (s.sq q).since = none ∨ s.sqRuns q = false ∨ s.sqState q = 2 ∨ s.sqState q = 3) :
    exec (.sqRescanTimer q) s = .next s := by
  cases hSince : (s.sq q).since with
  | none => simp only [exec, execSqRescanTimer, hSince]
  | some t0 =>
    have hIdle : (!s.sqRuns q || s.sqState q = 2 || s.sqState q = 3) = true := by
      rw [hSince] at h
      simpa [or_assoc] using h
    simp only [exec, execSqRescanTimer, hSince, hIdle, if_true]

/-- The ring of a started scan runs with its bus. -/
theorem State.stallRing_runs (hRuns : s.sqRuns r = true) : (s.stallRing r).sqRuns r = true := by
  have hEn : s.sqEn r = true := (Bool.and_eq_true_iff.mp hRuns).1
  rw [State.sqRuns, State.stallRing_keepsSq.en, hEn, State.stallRing_state]
  rfl

theorem State.stallRing_hostOn : (s.stallRing r).hostOn = s.hostOn := by
  have hHq : (s.stallRing r).hq = (s.setSq r { (s.sq r) with stalled := true }).hq :=
    (State.irq_moves.same .hq (by decide)).trans ((State.setSqState_moves.same .hq (by decide)).trans
      (State.setBit_moves.same .hq (by decide)))
  rw [State.hostOn, hHq]
  rfl

/-! ### A ring in ERROR, and buffers read ahead (R378, R379, R387) -/

theorem State.latchCore_dmaErr (src detail : Nat) (cls : FaultClass) (live threshold safe : Bool) :
    (s.latchCore src cls detail live threshold safe).bit 0x400004 16 = s.bit 0x400004 16 := by
  have hLost (y : State) : (y.incSat 0x400004 15 0 1).bit 0x400004 16 = y.bit 0x400004 16 := by
    rw [State.bit, State.incSat, State.fld_setFld_ne _ _ _ _ _ _ _ _ (by decide) (by decide) (by decide) (by decide)]
    rfl
  have hRecord (y : State) (flags : Nat) : (y.record src cls flags).bit 0x400004 16 = y.bit 0x400004 16 := by
    unfold State.record
    dsimp -proj only
    split
    · rfl
    · split
      · exact hLost y
      · split
        · exact (hLost _).trans (State.bit_moves State.recordCell_moves (by decide) _ _)
        · exact State.bit_moves State.recordCell_moves (by decide) _ _
  have hSummary (x : SourceRec) (i : Nat) :
      (((s.setSource src x).setBit 0x100004 i true).takeFiring src).bit 0x400004 16 = s.bit 0x400004 16 :=
    (State.bit_moves State.takeFiring_moves (by decide) _ _).trans
      ((State.bit_setBit_reg _ _ _ _ _ _ (by decide)).trans (State.bit_moves State.setSource_moves (by decide) _ _))
  have hIrq (y : State) (n : Nat) : (y.irq n).bit 0x400004 16 = y.bit 0x400004 16 := by
    rw [State.bit, State.fld, State.irq_keepsRegs (.inl (by decide))]
    rfl
  unfold State.latchCore
  dsimp -proj only
  rw [hIrq]
  split
  · exact (hRecord _ _).trans (hSummary _ _)
  · exact hSummary _ _

/-- A class-N fault at chip level leaves DMA_ERR. -/
theorem State.latchFault_n_dmaErr {src : Nat} (h : 0xF800 ≤ src) (detail : Nat) :
    (s.latchFault src .n detail).bit 0x400004 16 = s.bit 0x400004 16 := by
  have hDecide (y : State) : (y.decideFault src .n).bit 0x400004 16 = y.bit 0x400004 16 := by
    unfold State.decideFault
    split <;> rfl
  have hCore (b c : Bool) :
      ((s.setReacting b).latchCore src .n detail false false c).bit 0x400004 16 = s.bit 0x400004 16 :=
    State.latchCore_dmaErr _ _ _ _ _ _
  unfold State.latchFault
  dsimp -proj only
  rw [State.haltFor_chip _ h]
  split
  · exact hCore _ _
  · exact (hDecide _).trans (hCore _ _)

/-- The ring shows RING_ERR and STATE ERROR. -/
def State.ringStopped (s : State) (r : Nat) : State := (s.setBit (sqOff r + 0x1C) 25 true).setSqState r 5 0

theorem State.ringError_status {o : Nat} (hFault : faultRegister o = false) :
    (s.ringError r).reg o = (s.ringStopped r).reg o :=
  (State.latchFault_frame _ _ _ _ _ (by decide) o hFault).trans (State.irq_frame 5 o hFault)

theorem faultRegister_ring {o : Nat} (h : 0x420000 ≤ o) : faultRegister o = false := by
  simp [faultRegister]
  omega

theorem State.ringError_state : (s.ringError r).sqState r = 5 := by
  rw [State.sqState, State.fld, State.ringError_status (faultRegister_ring (by simp [sqOff]; omega))]
  exact State.setSqState_state (by decide) _

theorem State.ringError_bit : (s.ringError r).bit (sqOff r + 0x1C) 25 = true := by
  rw [State.bit, State.fld, State.ringError_status (faultRegister_ring (by simp [sqOff]; omega))]
  exact (State.setSqState_bit (by decide) 5 0).trans (State.bit_setBit_same _ _ _ _ (by decide))

theorem State.ringError_dmaErr : (s.ringError r).bit 0x400004 16 = s.bit 0x400004 16 := by
  have hOther : (0x400004 : Nat) ≠ sqOff r + 0x1C := by simp [sqOff]; omega
  have hStopped : (s.ringStopped r).reg 0x400004 = s.reg 0x400004 :=
    (State.setSqState_writes 5 0 _ (by simpa using hOther)).trans (State.reg_setFld_ne _ _ _ _ _ _ hOther)
  refine (State.latchFault_n_dmaErr (by decide) 0).trans ?_
  rw [State.bit, State.fld, State.irq_keepsRegs (.inl (by decide))]
  exact congrArg (fun w => decide (getBits w 16 16 = 1)) hStopped

theorem State.dmaErr_bit : s.dmaErr.bit 0x400004 16 = true := State.bit_setBit_same _ _ _ _ (by decide)

theorem State.ringError_hq : (s.ringError r).hq = s.hq :=
  ((State.latchFault_n_moves _ _ _ _ (by decide)).same .hq (by decide)).trans ((State.irq_moves.same .hq (by decide)).trans
    ((State.setSqState_moves.same .hq (by decide)).trans (State.setBit_moves.same .hq (by decide))))

section
variable {q : Ring} (hRuns : s.sqRuns q = true) (hKind : s.sqKind q = 3) (hBus : s.hostOn = true)
include hRuns hKind hBus

theorem exec_rxRingReadAhead_unread (es : List EntryRead) :
    exec (.rxRingReadAhead q none es) s = .next (s.dmaErr.ringError q) :=
  if_pos (by simp [hRuns, hKind, hBus])

theorem exec_rxRingReadAhead_reads {pi : Word} (es : List EntryRead) (hPi : s.badPi q pi = false) :
    exec (.rxRingReadAhead q (some pi) es) s = .next ((s.setReg (sqOff q + 0x24) pi).readAhead q pi es) := by
  have hSame : (s.setReg (sqOff q + 0x24) pi).badPi q pi = false := by
    have hKeeps : KeepsSq q s (s.setReg (sqOff q + 0x24) pi) := State.scanPi_keepsSq pi
    rw [State.badPi, hKeeps.log, hKeeps.sqCi]
    exact hPi
  exact (if_pos (by simp [hRuns, hKind, hBus])).trans (if_neg (by rw [hSame]; exact Bool.false_ne_true))

end

theorem exec_rxRingReadAhead_nothing {q : Ring} {pi : Option Word} {es : List EntryRead}
    (h : s.sqRuns q = false ∨ s.sqKind q ≠ 3 ∨ s.hostOn = false) : exec (.rxRingReadAhead q pi es) s = .next s :=
  if_neg (by rcases h with h | h | h <;> simp [h])

/-- One owned buffer is read ahead, as its entry has it. -/
theorem State.readAhead_one {pi : Word} {e : List Byte}
    (hMore : s.sqCi r + BitVec.ofNat 32 (s.sq r).bufs.length ≠ pi) (hRoom : (s.sq r).bufs.length < 16)
    (hOwned : entryByte e 0 % 2 = phaseOf (s.sqCi r + BitVec.ofNat 32 (s.sq r).bufs.length) (s.sqLog r)) :
    s.readAhead r pi [some e] = s.setSq r { (s.sq r) with bufs := (s.sq r).bufs ++ [{
      idx := s.sqCi r + BitVec.ofNat 32 (s.sq r).bufs.length, tag := entryField e 2 2, addr := entryField e 8 8,
      len := entryField e 16 4, code := s.entryCode r (s.sqCi r + BitVec.ofNat 32 (s.sq r).bufs.length) e }] } := by
  rw [State.readAhead, if_neg (by simp [hMore, hRoom])]
  exact if_neg (by simp [hOwned])

end Sys2Proof.Machine
end

section
/-! PROOFS. Completion rings: the host's CI, the interrupt, and the entries that the device writes (R373 to R375, R379, R394). -/

namespace Sys2Proof.Machine

variable {s t u : State} {c : Nat}

/-! ### Registers -/

theorem State.hostOn_of_hq (h : t.hq = s.hq) : t.hostOn = s.hostOn := by rw [State.hostOn, State.hostOn, h]

theorem State.reg_same_bit {o i : Nat} (h : t.reg o = s.reg o) : t.bit o i = s.bit o i := by
  rw [State.bit, State.bit, State.fld, State.fld, h]

theorem State.reg_same_fld {o hi lo : Nat} (h : t.reg o = s.reg o) : t.fld o hi lo = s.fld o hi lo := by
  rw [State.fld, State.fld, h]

theorem State.msixVector_reg {o v : Nat} (hv : v < 2048) (h : o < 0x418000 ∨ 0x418100 ≤ o) :
    (s.msixVector v).reg o = s.reg o := by
  unfold State.msixVector
  split
  · exact State.reg_setFld_ne _ _ _ _ _ _ (by omega)
  · split <;> rfl

theorem State.cqVector_lt : s.fld (cqOff c + 0x18) 10 0 < 2048 := getBits_lt _ _ _

/-- The message of a ring writes its STATUS register and the pending bits alone. -/
theorem State.cqMessage_reg {o : Nat} (h : o < 0x418000 ∨ 0x418100 ≤ o) (hOther : o ≠ cqOff c + 0x20) :
    (s.cqMessage c).reg o = s.reg o := by
  unfold State.cqMessage
  split
  · exact (State.msixVector_reg State.cqVector_lt h).trans (State.reg_setFld_ne _ _ _ _ _ _ hOther)
  · rfl

theorem State.cqMessage_bit {i : Nat} (hi : i ≠ 29) : (s.cqMessage c).bit (cqOff c + 0x20) i = s.bit (cqOff c + 0x20) i := by
  unfold State.cqMessage
  split
  · exact (State.reg_same_bit (State.msixVector_reg State.cqVector_lt (.inr (by simp [cqOff]; omega)))).trans
      (State.bit_setBit_ne _ _ _ _ _ _ (by decide) (Ne.symm hi))
  · rfl

theorem State.cqMessage_disarms (h : s.hostOn = true) : (s.cqMessage c).bit (cqOff c + 0x20) 29 = false := by
  rw [State.cqMessage, if_pos h]
  exact (State.reg_same_bit (State.msixVector_reg State.cqVector_lt (.inr (by simp [cqOff]; omega)))).trans
    (State.bit_setBit_same _ _ _ _ (by decide))

theorem State.cqInterrupt_reg {o : Nat} (h : o < 0x418000 ∨ 0x418100 ≤ o) (hOther : o ≠ cqOff c + 0x20) :
    (s.cqInterrupt c).reg o = s.reg o := by
  unfold State.cqInterrupt
  split
  · exact State.cqMessage_reg h hOther
  · rfl

theorem State.cqInterrupt_bit {i : Nat} (hi : i ≠ 29) :
    (s.cqInterrupt c).bit (cqOff c + 0x20) i = s.bit (cqOff c + 0x20) i := by
  unfold State.cqInterrupt
  split
  · exact State.cqMessage_bit hi
  · rfl

theorem State.readCi_writes (ci : Option Word) : WritesOnly [0x400004, cqOff c + 0x20, cqOff c + 0x28] s (s.readCi c ci) := by
  cases ci with
  | none => exact .setBit (by simp) .refl
  | some v => exact .setBit (by simp) (.setReg (by simp) .refl)

theorem State.readCi_reg {o : Nat} (ci : Option Word) (h : o ≠ 0x400004) (hStatus : o ≠ cqOff c + 0x20)
    (hCi : o ≠ cqOff c + 0x28) :
    (s.readCi c ci).reg o = s.reg o :=
  State.readCi_writes ci o (by simp [h, hStatus, hCi])

/-- The registers of a ring but STATUS and CI read as before when its CI is read. -/
theorem State.readCi_kept {k : Nat} (ci : Option Word) (h : k < 0x20 ∨ k = 0x24) :
    (s.readCi c ci).reg (cqOff c + k) = s.reg (cqOff c + k) :=
  State.readCi_reg ci (by simp [cqOff]; omega) (by omega) (by omega)

theorem State.readCi_pi (ci : Option Word) : (s.readCi c ci).cqPi c = s.cqPi c := State.readCi_kept ci (.inr rfl)

theorem State.readCi_ci (ci : Option Word) : (s.readCi c ci).cqCi c = ci.getD (s.cqCi c) := by
  cases ci with
  | none => exact State.reg_setFld_ne _ _ _ _ _ _ (by simp [cqOff]; omega)
  | some v => exact (State.reg_setFld_ne _ _ _ _ _ _ (by omega)).trans (State.reg_setReg_same _ _ _)

theorem State.readCi_armed (ci : Option Word) : (s.readCi c ci).bit (cqOff c + 0x20) 29 = s.bit (cqOff c + 0x20) 29 := by
  cases ci with
  | none => exact State.bit_setBit_reg _ _ _ _ _ _ (by simp [cqOff]; omega)
  | some v => exact (State.bit_setBit_ne _ _ _ _ _ _ (by decide) (by decide)).trans (State.bit_setReg_ne _ _ _ _ _ (by omega))

theorem State.cqReserved_of_hq (h : t.hq = s.hq) (k : Nat) : t.cqReserved k = s.cqReserved k := by
  rw [State.cqReserved, State.cqReserved, h]

/-- The free slots of a ring follow from DEPTH, PI, CI and what is reserved. -/
theorem State.cqFree_congr (hCfg : t.reg (cqOff c + 0x18) = s.reg (cqOff c + 0x18)) (hPi : t.cqPi c = s.cqPi c)
    (hCi : t.cqCi c = s.cqCi c) (hHq : t.hq = s.hq) : t.cqFree c = s.cqFree c := by
  rw [State.cqFree, State.cqFree, State.cqLog, State.cqLog, State.reg_same_fld hCfg, State.cqUnread, State.cqUnread, hPi, hCi,
    State.cqReserved_of_hq hHq]

/-- FULL shows whether a slot is free by the CI that has been read (R403). -/
theorem State.readCi_full (v : Word) :
    (s.readCi c (some v)).bit (cqOff c + 0x20) 28 = decide ((s.readCi c (some v)).cqFree c = 0) := by
  have hFree : (s.readCi c (some v)).cqFree c = (s.setReg (cqOff c + 0x28) v).cqFree c :=
    State.cqFree_congr (State.reg_setFld_ne _ _ _ _ _ _ (by omega)) (State.reg_setFld_ne _ _ _ _ _ _ (by omega))
      (State.reg_setFld_ne _ _ _ _ _ _ (by omega)) (State.setBit_moves.same .hq (by decide))
  rw [hFree]
  exact State.bit_setBit_same _ _ _ _ (by decide)

/-! ### The CI is read and the interrupt decided -/

/-- The host's CI of a ring is read, and its conditions are evaluated. -/
def State.cqSettled (s : State) (c : Nat) (ci : Option Word) : State := (s.readCi c ci).cqInterrupt c

theorem State.cqSettled_moves (ci : Option Word) : Moves [.regs, .emitted] s (s.cqSettled c ci) :=
  .step State.cqInterrupt_moves (by decide) (State.readCi_moves.mono (by decide))

theorem State.cqInterrupt_pointer {k : Nat} (h : k ≠ 0x20) : (s.cqInterrupt c).reg (cqOff c + k) = s.reg (cqOff c + k) :=
  State.cqInterrupt_reg (.inr (by simp [cqOff]; omega)) (by omega)

theorem State.cqSettled_pi (ci : Option Word) : (s.cqSettled c ci).cqPi c = s.cqPi c :=
  (State.cqInterrupt_pointer (by decide)).trans (State.readCi_pi ci)

theorem State.cqSettled_ci (ci : Option Word) : (s.cqSettled c ci).cqCi c = ci.getD (s.cqCi c) :=
  (State.cqInterrupt_pointer (by decide)).trans (State.readCi_ci ci)

theorem State.cqSettled_full (v : Word) :
    (s.cqSettled c (some v)).bit (cqOff c + 0x20) 28 = decide ((s.cqSettled c (some v)).cqFree c = 0) := by
  have hFree : (s.cqSettled c (some v)).cqFree c = (s.readCi c (some v)).cqFree c :=
    State.cqFree_congr (State.cqInterrupt_pointer (by decide)) (State.cqInterrupt_pointer (by decide))
      (State.cqInterrupt_pointer (by decide)) (State.cqInterrupt_moves.same .hq (by decide))
  rw [hFree]
  exact (State.cqInterrupt_bit (by decide)).trans (State.readCi_full v)

/-! ### The doorbell of a completion ring (R371, R379) -/

theorem exec_cqDoorbell {off : BitVec 19} {len : Fin 64} {cis : List (Option Word)} (hRing : c < 4096)
    (h : doorbellsOf off.toNat (len.val + 1) = [4096 + c]) :
    exec (.cqDoorbell off len cis) s = .next (s.cqRing c (cis.headD none)) := by
  have hOne : State.ringDoorbells [4096 + c] cis s = s.cqRing c (cis.headD none) := by
    have hMod : (4096 + c) % 4096 = c := by omega
    simp only [State.ringDoorbells, if_neg (show ¬ 4096 + c < 4096 by omega), hMod]
  rw [← hOne, ← h]
  rfl

theorem State.cqRing_armedOnly (ci : Option Word) (h : s.cqEn c = false ∨ s.hostOn = false) :
    s.cqRing c ci = if s.cqEn c then s.setBit (cqOff c + 0x20) 29 true else s := by
  unfold State.cqRing
  split
  · next hEn =>
    have hOff : s.hostOn = false := h.resolve_left (by simp [hEn])
    have hSame : (s.setBit (cqOff c + 0x20) 29 true).hostOn = s.hostOn :=
      State.hostOn_of_hq (State.setBit_moves.same .hq (by decide))
    rw [State.cqLook, if_neg (by rw [hSame, hOff]; exact Bool.false_ne_true)]
  · rfl

theorem State.cqRing_reads (ci : Option Word) (hEn : s.cqEn c = true) (hBus : s.hostOn = true) :
    s.cqRing c ci = (s.setBit (cqOff c + 0x20) 29 true).cqSettled c ci := by
  have hSame : (s.setBit (cqOff c + 0x20) 29 true).hostOn = true :=
    (State.hostOn_of_hq (State.setBit_moves.same .hq (by decide))).trans hBus
  rw [State.cqRing, if_pos hEn, State.cqLook, if_pos hSame, State.cqSettled]

/-! ### The message of an armed ring (R394) -/

/-- A masked vector becomes pending; one that is not masked is sent. -/
theorem State.msixVector_sends {v : Nat} (hBus : s.hostOn = true) :
    (s.bit (0x41000C + v * 0x10) 0 = true →
      (s.msixVector v).emitted = s.emitted ∧ (s.msixVector v).bit (0x418000 + v / 32 * 4) (v % 32) = true) ∧
    (s.bit (0x41000C + v * 0x10) 0 = false → (s.msixVector v).emitted.length = s.emitted.length + 1) := by
  unfold State.msixVector
  constructor
  · intro hMasked
    rw [if_pos hMasked]
    exact ⟨State.setBit_moves.same .emitted (by decide), State.bit_setBit_same _ _ _ _ (by omega)⟩
  · intro hOpen
    rw [if_neg (by simp [hOpen]), if_neg (by simp [hBus])]
    rfl

theorem State.cqMessage_sends (hBus : s.hostOn = true) :
    (s.bit (0x41000C + s.fld (cqOff c + 0x18) 10 0 * 0x10) 0 = true → (s.cqMessage c).emitted = s.emitted ∧
      (s.cqMessage c).bit (0x418000 + s.fld (cqOff c + 0x18) 10 0 / 32 * 4) (s.fld (cqOff c + 0x18) 10 0 % 32) = true) ∧
    (s.bit (0x41000C + s.fld (cqOff c + 0x18) 10 0 * 0x10) 0 = false →
      (s.cqMessage c).emitted.length = s.emitted.length + 1) := by
  have hMoves : Moves [.regs] s (s.setBit (cqOff c + 0x20) 29 false) := State.setBit_moves
  have hMask : (s.setBit (cqOff c + 0x20) 29 false).bit (0x41000C + s.fld (cqOff c + 0x18) 10 0 * 0x10) 0
      = s.bit (0x41000C + s.fld (cqOff c + 0x18) 10 0 * 0x10) 0 :=
    State.bit_setBit_reg _ _ _ _ _ _ (by have := State.cqVector_lt (s := s) (c := c); simp only [cqOff]; omega)
  obtain ⟨hMasked, hOpen⟩ := State.msixVector_sends (v := s.fld (cqOff c + 0x18) 10 0)
    ((State.hostOn_of_hq (hMoves.same .hq (by decide))).trans hBus)
  rw [hMask, hMoves.same .emitted (by decide)] at hMasked hOpen
  rw [State.cqMessage, if_pos hBus]
  exact ⟨hMasked, hOpen⟩

section
variable {q : Ring} {ci : Option Word} (hEn : s.cqEn q = true) (hIrq : s.bit (cqOff q + 0x18) 29 = true)
  (hArmed : s.bit (cqOff q + 0x20) 29 = true) (hUnread : s.cqUnread q ≠ 0) (hBus : s.hostOn = true)
include hEn hIrq hArmed hUnread hBus

theorem exec_cqCoalTimer_same (h : ci = none ∨ ci = some (s.cqCi q)) :
    exec (.cqCoalTimer q ci) s = .next ((s.readCi q ci).cqMessage q) := by
  have hCi : (s.readCi q ci).cqCi q = s.cqCi q := by
    rw [State.readCi_ci]
    rcases h with rfl | rfl <;> rfl
  refine (if_pos (by simp [hEn, hIrq, hArmed, hUnread, hBus])).trans (congrArg Host.Outcome.next (if_pos ?_))
  rw [State.cqUnread, State.cqUnread, State.readCi_pi, hCi]

theorem exec_cqCoalTimer_moved {v : Word} (h : v ≠ s.cqCi q) :
    exec (.cqCoalTimer q (some v)) s = .next (s.cqSettled q (some v)) := by
  refine (if_pos (by simp [hEn, hIrq, hArmed, hUnread, hBus])).trans (congrArg Host.Outcome.next (if_neg fun hSame => h ?_))
  rw [State.cqUnread, State.cqUnread, State.readCi_pi, State.readCi_ci] at hSame
  exact sub_right_injective (BitVec.eq_of_toNat_eq hSame)

end

theorem exec_cqCoalTimer_nothing {q : Ring} {ci : Option Word}
    (h : s.cqEn q = false ∨ s.bit (cqOff q + 0x18) 29 = false ∨ s.bit (cqOff q + 0x20) 29 = false ∨ s.cqUnread q = 0 ∨
      s.hostOn = false) : exec (.cqCoalTimer q ci) s = .next s :=
  if_neg (by rcases h with h | h | h | h | h <;> simp [h])

/-! ### Entries that the device writes (R373, R375) -/

theorem State.writeEntry_writes (type tag part : Nat) (body : List Byte) :
    WritesOnly [cqOff c + 0x24] s (s.writeEntry c type tag part body) :=
  .setReg (by simp) ((WritesOnly.moves State.hostWrite_moves (by decide)).trans (.moves State.hostWrite_moves (by decide)))

theorem State.writeEntry_pi (type tag part : Nat) (body : List Byte) :
    (s.writeEntry c type tag part body).cqPi c = s.cqPi c + 1 := State.reg_setReg_same _ _ _

theorem State.writeRecord_writes (type : Nat) (body : List Byte) :
    WritesOnly [cqOff c + 0x24] s (s.writeRecord c type body) := by
  have hHost {y : State} {a : Nat} {bs : List Byte} : WritesOnly [cqOff c + 0x24] y (y.hostWrite a bs) :=
    .moves State.hostWrite_moves (by decide)
  exact .setReg (by simp) (((((hHost.trans hHost).trans hHost).trans hHost).trans hHost).trans hHost)

theorem State.writeRecord_pi (type : Nat) (body : List Byte) : (s.writeRecord c type body).cqPi c = s.cqPi c + 3 :=
  State.reg_setReg_same _ _ _

theorem State.writePi_regs : (s.writePi c).regs = s.regs := State.writePi_moves.same .regs (by decide)

end Sys2Proof.Machine
end

section
/-! PROOFS. Completions and event records (R375, R380, R382, R390, R399). -/

namespace Sys2Proof.Machine

variable {s t u : State} {c r : Nat}

/-! ### A completion that is posted (R382) -/

/-- Bytes 8 to 63 of a completion (R382). -/
def completionBody (r : Nat) (x : Taken) (d : Done) : List Byte :=
  leBytes 2 r ++ leBytes 1 d.code ++ leBytes 1 d.detail ++ leBytes 4 x.idx.toNat ++ sliceBytes d.result 0 48

/-- The completion of a ring's oldest entry and the PI write-back stand in host memory. -/
def State.completion (s : State) (r : Nat) (x : Taken) (d : Done) : State :=
  (s.writeEntry (s.sqCq r) 1 x.tag 0 (completionBody r x d)).writePi (s.sqCq r)

/-- A durable command that is completed counts under the mode (R297). -/
def State.countDurable (s : State) (x : Taken) : State :=
  match x.work with
  | .durable _ => s.count (cChip (if s.writeThrough then 11 else 10)) 1
  | _ => s

/-- One reserved slot of a ring is given back. -/
def State.slotUsed (s : State) (c : Nat) : State := s.setReserved c (s.cqReserved c - 1)

/-- The taken entries of a ring are these. -/
def State.setTaken (s : State) (r : Nat) (l : List Taken) : State := s.setSq r { (s.sq r) with taken := l }

/-- The completion is posted, its slot is no longer reserved, and the entry is no longer taken. -/
def State.posted (s : State) (r : Nat) (x : Taken) (rest : List Taken) (d : Done) : State :=
  (((s.completion r x d).slotUsed (s.sqCq r)).countDurable x).setTaken r rest

/-- The completion is posted, and the host's CI and the interrupt of its ring follow. -/
def State.completed (s : State) (r : Nat) (x : Taken) (rest : List Taken) (d : Done) (ci : Option Word) : State :=
  ((s.posted r x rest d).checkDrainedSq r).cqSettled (s.sqCq r) ci

theorem State.postOne_posts {x : Taken} {rest : List Taken} {d : Done} (ci : Option Word) (hTaken : (s.sq r).taken = x :: rest)
    (hDone : s.postable x = some d) :
    s.postOne r ci = s.completed r x rest d ci := by
  unfold State.postOne
  rw [hTaken]
  dsimp -proj only
  rw [hDone]
  rfl

theorem State.postOne_nothing (ci : Option Word) (h : (s.sq r).taken.head?.bind s.postable = none) : s.postOne r ci = s := by
  unfold State.postOne
  split
  · rfl
  · next x rest hTaken =>
    rw [hTaken] at h
    have hNone : s.postable x = none := h
    rw [hNone]

theorem State.completion_moves (x : Taken) (d : Done) : Moves [.regs, .hostMem] s (s.completion r x d) :=
  .step State.writePi_moves (by decide) State.writeEntry_moves

theorem State.countDurable_moves (x : Taken) : Moves [.counters] s (s.countDurable x) := by
  unfold State.countDurable
  split
  · exact State.count_moves
  · exact .refl

theorem State.slotUsed_moves : Moves [.hq] s (s.slotUsed c) := State.setReserved_moves

theorem State.setTaken_moves (l : List Taken) : Moves [.hq] s (s.setTaken r l) := State.setSq_moves

theorem State.slotCounted_moves (x : Taken) : Moves [.counters, .hq] s ((s.slotUsed c).countDurable x) :=
  .step (State.countDurable_moves x) (by decide) (State.slotUsed_moves.mono (by decide))

theorem State.posted_after (x : Taken) (rest : List Taken) (d : Done) :
    Moves [.counters, .hq] (s.completion r x d) (s.posted r x rest d) :=
  .step (State.setTaken_moves rest) (by decide) (State.slotCounted_moves x)

theorem State.posted_moves (x : Taken) (rest : List Taken) (d : Done) :
    Moves [.regs, .counters, .hostMem, .hq] s (s.posted r x rest d) :=
  .step (State.posted_after x rest d) (by decide) ((State.completion_moves x d).mono (by decide))

theorem State.completion_writes (x : Taken) (d : Done) : WritesOnly [cqOff (s.sqCq r) + 0x24] s (s.completion r x d) :=
  (State.writeEntry_writes _ _ _ _).trans (.of_regs State.writePi_regs)

theorem State.completion_pi (x : Taken) (d : Done) : (s.completion r x d).cqPi (s.sqCq r) = s.cqPi (s.sqCq r) + 1 := by
  rw [State.cqPi, State.reg, State.completion, State.writePi_regs]
  exact State.writeEntry_pi _ _ _ _

theorem State.cqReserved_setReserved (n : Nat) : (s.setReserved c n).cqReserved c = n :=
  (Tbl.get_put _ _ _ _ _).trans (if_pos rfl)

theorem State.posted_reserved (x : Taken) (rest : List Taken) (d : Done) :
    (s.posted r x rest d).cqReserved (s.sqCq r) = s.cqReserved (s.sqCq r) - 1 := by
  have hTaken (y : State) : (y.setTaken r rest).cqReserved (s.sqCq r) = y.cqReserved (s.sqCq r) := rfl
  rw [State.posted, hTaken, State.cqReserved_of_hq ((State.countDurable_moves x).same .hq (by decide)), State.slotUsed,
    State.cqReserved_setReserved, State.cqReserved_of_hq ((State.completion_moves x d).same .hq (by decide))]

theorem State.posted_taken (x : Taken) (rest : List Taken) (d : Done) : ((s.posted r x rest d).sq r).taken = rest := by
  rw [State.posted, State.setTaken, State.sq_setSq]

theorem State.checkDrainedSq_writes : WritesOnly [sqOff r + 0x1C] s (s.checkDrainedSq r) :=
  .ite (State.setSqState_writes _ _) .refl

/-- A ring that may be drained leaves the registers of a completion ring. -/
theorem State.checkDrainedSq_cq (hRing : r < 4096) (k : Nat) :
    (s.checkDrainedSq r).reg (cqOff c + k) = s.reg (cqOff c + k) :=
  State.checkDrainedSq_writes _ (by simp [sqOff, cqOff]; omega)

theorem exec_completionPost_nothing {q : Ring} {ci : Option Word}
    (h : s.hostOn = false ∨ (s.sq q).taken.head?.bind s.postable = none) : exec (.completionPost q ci) s = .next s := by
  by_cases hBus : s.hostOn = true
  · exact (if_pos hBus).trans (congrArg Host.Outcome.next (State.postOne_nothing ci (h.resolve_left (by simp [hBus]))))
  · exact if_neg hBus

section
variable (x : Taken) (rest : List Taken) (d : Done) (ci : Option Word)

theorem State.completed_after : Moves [.regs, .emitted] (s.posted r x rest d) (s.completed r x rest d ci) :=
  .step (State.cqSettled_moves ci) (by decide) (State.checkDrainedSq_moves.mono (by decide))

theorem State.completed_moves : Moves [.regs, .counters, .hostMem, .emitted, .hq] s (s.completed r x rest d ci) :=
  .step (State.completed_after x rest d ci) (by decide) ((State.posted_moves x rest d).mono (by decide))

theorem State.completed_taken : ((s.completed r x rest d ci).sq r).taken = rest := by
  rw [State.sq_of_hq ((State.completed_after x rest d ci).same .hq (by decide)), State.posted_taken]

theorem State.completed_reserved :
    (s.completed r x rest d ci).cqReserved (s.sqCq r) = s.cqReserved (s.sqCq r) - 1 := by
  rw [State.cqReserved_of_hq ((State.completed_after x rest d ci).same .hq (by decide)), State.posted_reserved]

theorem State.completed_hostMem : (s.completed r x rest d ci).hostMem = (s.completion r x d).hostMem :=
  ((State.completed_after x rest d ci).same .hostMem (by decide)).trans
    ((State.posted_after x rest d).same .hostMem (by decide))

theorem State.posted_cqReg (hRing : r < 4096) (k : Nat) :
    ((s.posted r x rest d).checkDrainedSq r).reg (cqOff (s.sqCq r) + k) = (s.completion r x d).reg (cqOff (s.sqCq r) + k) := by
  rw [State.checkDrainedSq_cq hRing, State.reg, (State.posted_after x rest d).same .regs (by decide)]
  rfl

theorem State.completed_pi (hRing : r < 4096) :
    (s.completed r x rest d ci).cqPi (s.sqCq r) = s.cqPi (s.sqCq r) + 1 :=
  (State.cqSettled_pi ci).trans ((State.posted_cqReg x rest d hRing 0x24).trans (State.completion_pi x d))

theorem State.completed_ci (hRing : r < 4096) :
    (s.completed r x rest d ci).cqCi (s.sqCq r) = ci.getD (s.cqCi (s.sqCq r)) :=
  (State.cqSettled_ci ci).trans (congrArg ci.getD
    ((State.posted_cqReg x rest d hRing 0x28).trans (State.completion_writes x d _ (by simp))))

end

/-! ### Event records (R390, R399) -/

theorem State.raiseFound_none (h : s.buf.found = []) : s.raiseFound = s := by
  rw [State.raiseFound]
  exact if_pos (by rw [h]; rfl)

/-- The oldest fault record leaves its cell. -/
def State.faultTaken (s : State) (f : FaultRecord) (rest : List FaultRecord) : State :=
  { s with fc := { s.fc with records := rest } }.recordFree [f.cell]

theorem State.faultTaken_moves (f : FaultRecord) (rest : List FaultRecord) :
    Moves [.counters, .fc, .buf] s (s.faultTaken f rest) :=
  .step State.recordFree_moves (by decide) (.fc (by decide) .refl)

theorem State.faultTaken_records (f : FaultRecord) (rest : List FaultRecord) : (s.faultTaken f rest).fc.records = rest :=
  congrArg FcState.records (State.recordFree_moves.same .fc (by decide))

/-- The oldest capture record leaves its cells. -/
def State.captureTaken (s : State) (x : CaptureRec) (rest : List CaptureRec) : State :=
  { s with hq := { s.hq with captures := rest } }.recordFree x.cells

theorem State.captureTaken_moves (x : CaptureRec) (rest : List CaptureRec) :
    Moves [.counters, .buf, .hq] s (s.captureTaken x rest) :=
  .step State.recordFree_moves (by decide) (.hq (by decide) .refl)

theorem State.captureTaken_hq (x : CaptureRec) (rest : List CaptureRec) :
    (s.captureTaken x rest).hq = { s.hq with captures := rest } := State.recordFree_moves.same .hq (by decide)

theorem State.captureTaken_counter (x : CaptureRec) (rest : List CaptureRec) {m e : Nat} :
    (s.captureTaken x rest).counter (cMirror m e) = s.counter (cMirror m e) := by
  have hCells (y : State) (cs : List Nat) : (cs.foldl (fun s c => s.pushFree c) y).counters = y.counters :=
    (Moves.fold (ps := [.buf]) (fun _ _ => State.pushFree_moves) .refl).same .counters (by decide)
  rw [State.captureTaken, State.recordFree, State.counter_count, if_neg (by simp [cMirror, cChip]; omega), State.counter,
    hCells]
  rfl

/-- Room in an event ring is a matter of its registers and of the slots that are reserved. -/
theorem State.eventRoom_congr (hRegs : t.regs = s.regs) (hReserved : t.hq.reserved = s.hq.reserved)
    (hBus : t.hostOn = s.hostOn) (c n : Nat) : t.eventRoom c n = s.eventRoom c n := by
  have hReg (o : Nat) : t.reg o = s.reg o := congrArg (fun regs => Tbl.get resetWord regs o) hRegs
  have hFree : t.cqFree c = s.cqFree c := by
    rw [State.cqFree, State.cqFree, State.cqLog, State.cqLog, State.reg_same_fld (hReg _), State.cqUnread, State.cqUnread,
      State.cqPi, State.cqPi, State.cqCi, State.cqCi, hReg, hReg, State.cqReserved, State.cqReserved, hReserved]
  rw [State.eventRoom, State.eventRoom, hFree, hBus, State.cqEn, State.cqEn, State.cqEvent, State.cqEvent,
    State.reg_same_bit (hReg _), State.reg_same_bit (hReg _)]

theorem State.faultTaken_room (f : FaultRecord) (rest : List FaultRecord) (c n : Nat) :
    (s.faultTaken f rest).eventRoom c n = s.eventRoom c n := by
  have hMoves := State.faultTaken_moves (s := s) f rest
  have hHq := hMoves.same .hq (by decide)
  exact State.eventRoom_congr (hMoves.same .regs (by decide)) (congrArg HqState.reserved hHq) (State.hostOn_of_hq hHq) c n

theorem State.captureTaken_room (x : CaptureRec) (rest : List CaptureRec) (c n : Nat) :
    (s.captureTaken x rest).eventRoom c n = s.eventRoom c n := by
  have hHq := State.captureTaken_hq (s := s) x rest
  refine State.eventRoom_congr ((State.captureTaken_moves x rest).same .regs (by decide)) ?_ ?_ c n
  · rw [hHq]
  · rw [State.hostOn, hHq]
    rfl

/-- The ring that takes fault records (R399). -/
def State.faultRing (s : State) : Nat := s.fld 0x400000 11 0

/-- A fault record that finds no room is counted as lost, and by its ring (R390). -/
def State.faultRecordLost (s : State) (c : Nat) : State :=
  if (s.incSat 0x400004 15 0 1).cqEvent c then (s.incSat 0x400004 15 0 1).eventDrop c else s.incSat 0x400004 15 0 1

/-- A fault record that has left its cell is written in its ring, or dropped. -/
def State.faultWritten (s : State) (f : FaultRecord) (ci : Option Word) : State :=
  if !s.bit 0x400000 31 then s
  else if s.eventRoom s.faultRing 1 then
    ((s.writeEntry s.faultRing 0x10 0 0 f.body).writePi s.faultRing).cqSettled s.faultRing ci
  else s.faultRecordLost s.faultRing

theorem State.writeFaultRecord_eq {f : FaultRecord} {rest : List FaultRecord} (ci : Option Word)
    (hRecords : s.fc.records = f :: rest) : s.writeFaultRecord ci = (s.faultTaken f rest).faultWritten f ci := by
  unfold State.writeFaultRecord
  rw [hRecords]
  rfl

theorem State.faultTaken_ring (f : FaultRecord) (rest : List FaultRecord) : (s.faultTaken f rest).faultRing = s.faultRing := by
  rw [State.faultRing, State.fld, State.reg, (State.faultTaken_moves f rest).same .regs (by decide)]
  rfl

theorem State.faultTaken_on (f : FaultRecord) (rest : List FaultRecord) :
    (s.faultTaken f rest).bit 0x400000 31 = s.bit 0x400000 31 :=
  State.bit_moves (State.faultTaken_moves f rest) (by decide) _ _

theorem State.writeFaultRecord_writes {f : FaultRecord} {rest : List FaultRecord} (ci : Option Word)
    (hRecords : s.fc.records = f :: rest) (hOn : s.bit 0x400000 31 = true) (hRoom : s.eventRoom s.faultRing 1 = true) :
    s.writeFaultRecord ci
      = (((s.faultTaken f rest).writeEntry s.faultRing 0x10 0 0 f.body).writePi s.faultRing).cqSettled s.faultRing ci := by
  rw [State.writeFaultRecord_eq ci hRecords, State.faultWritten, State.faultTaken_on, State.faultTaken_ring,
    State.faultTaken_room, if_neg (by simp [hOn]), if_pos hRoom]

theorem State.writeFaultRecord_drops {f : FaultRecord} {rest : List FaultRecord} (ci : Option Word)
    (hRecords : s.fc.records = f :: rest) (h : s.bit 0x400000 31 = false ∨ s.eventRoom s.faultRing 1 = false) :
    s.writeFaultRecord ci = if s.bit 0x400000 31 then (s.faultTaken f rest).faultRecordLost s.faultRing
      else s.faultTaken f rest := by
  rw [State.writeFaultRecord_eq ci hRecords, State.faultWritten, State.faultTaken_on, State.faultTaken_ring,
    State.faultTaken_room]
  by_cases hOn : s.bit 0x400000 31 = true
  · have hFull : s.eventRoom s.faultRing 1 = false := h.resolve_left (by simp [hOn])
    rw [if_neg (by simp [hOn]), if_neg (by simp [hFull]), if_pos hOn]
  · rw [if_pos (by simp [hOn]), if_neg hOn]

theorem State.faultRecordLost_moves : Moves [.regs] s (s.faultRecordLost c) :=
  .ite (.step State.eventDrop_moves (by decide) State.incSat_moves) State.incSat_moves

theorem State.faultRecordLost_count : (s.faultRecordLost c).fld 0x400004 15 0 = min (s.fld 0x400004 15 0 + 1) 0xFFFF := by
  have hCounted := State.fld_incSat_same s 0x400004 15 0 1 (by decide) (by decide)
  unfold State.faultRecordLost
  split
  · exact (State.fld_setFld_reg _ _ _ _ _ _ _ _ (by simp [cqOff]; omega)).trans hCounted
  · exact hCounted

/-- A capture record that has left its cells is written as three entries, or dropped and counted (R390). -/
def State.captureWritten (s : State) (x : CaptureRec) (ci : Option Word) : State :=
  if s.eventRoom x.ring 3 then
    (((s.writeRecord x.ring 0x11 x.bytes).writePi x.ring).count (cMirror x.session 2) 1).cqSettled x.ring ci
  else (s.eventDrop x.ring).count (cMirror x.session 5) 1

theorem State.writeCapture_eq {x : CaptureRec} {rest : List CaptureRec} (ci : Option Word)
    (hCaptures : s.hq.captures = x :: rest) : s.writeCapture ci = (s.captureTaken x rest).captureWritten x ci := by
  unfold State.writeCapture
  rw [hCaptures]
  rfl

theorem State.writeCapture_writes {x : CaptureRec} {rest : List CaptureRec} (ci : Option Word)
    (hCaptures : s.hq.captures = x :: rest) (hRoom : s.eventRoom x.ring 3 = true) :
    s.writeCapture ci = ((((s.captureTaken x rest).writeRecord x.ring 0x11 x.bytes).writePi x.ring).count
      (cMirror x.session 2) 1).cqSettled x.ring ci := by
  rw [State.writeCapture_eq ci hCaptures, State.captureWritten, State.captureTaken_room, if_pos hRoom]

theorem State.writeCapture_drops {x : CaptureRec} {rest : List CaptureRec} (ci : Option Word)
    (hCaptures : s.hq.captures = x :: rest) (hRoom : s.eventRoom x.ring 3 = false) :
    s.writeCapture ci = ((s.captureTaken x rest).eventDrop x.ring).count (cMirror x.session 5) 1 := by
  rw [State.writeCapture_eq ci hCaptures, State.captureWritten, State.captureTaken_room,
    if_neg (by rw [hRoom]; exact Bool.false_ne_true)]

end Sys2Proof.Machine
end

section
/-! PROOFS. A turn of the scan of a submission ring (R376 to R381). -/

namespace Sys2Proof.Machine

variable {s t u : State} {c r : Nat}

/-! ### The end of a turn -/

theorem SqRec.again_false {x : SqRec} (h : x.again = false) : { x with again := false } = x := by
  cases x
  cases h
  rfl

theorem State.endTurn_state {st : Nat} (h : st < 8) (cause : Nat) :
    (s.endTurn r st cause).sqState r = if (s.sq r).again then 2 else st := by
  unfold State.endTurn
  dsimp -proj only
  split
  · exact State.setSqState_state (by decide) _
  · exact State.setSqState_state h _

theorem State.sq_writeSqCi : (s.writeSqCi r).sq r = s.sq r := State.sq_of_hq (State.writeSqCi_moves.same .hq (by decide)) r

theorem State.endTurn_sq (st cause : Nat) : (s.endTurn r st cause).sq r = { (s.sq r) with again := false } := by
  unfold State.endTurn
  dsimp -proj only
  split
  · rw [State.sq_setSqState, State.sq_setSq]
  · next h => rw [State.sq_setSqState, State.sq_writeSqCi, SqRec.again_false (by simpa using h)]

theorem State.writeSqCi_keepsSq : KeepsSq r s (s.writeSqCi r) := .of_regs (State.writeSqCi_moves.same .regs (by decide))

theorem State.setSq_keepsSq (x : SqRec) : KeepsSq r s (s.setSq r x) := .of_regs (State.setSq_moves.same .regs (by decide))

theorem State.endTurn_keepsSq (st cause : Nat) : KeepsSq r s (s.endTurn r st cause) := by
  unfold State.endTurn
  dsimp -proj only
  split
  · exact (State.writeSqCi_keepsSq.trans (State.setSq_keepsSq _)).trans (State.setSqState_keepsSq _ _)
  · exact State.writeSqCi_keepsSq.trans (State.setSqState_keepsSq _ _)

/-- The record of a ring whose scan has caught up with PI. -/
def SqRec.caughtUp (x : SqRec) : SqRec := { x with since := none, stalled := false }

/-- A turn that finds no more entries ends. -/
def State.turnDone (s : State) (r : Nat) : State := (s.setSq r (s.sq r).caughtUp).endTurn r 1 0

theorem State.turnDone_moves : Moves [.regs, .hostMem, .hq] s (s.turnDone r) :=
  .step State.endTurn_moves (by decide) (State.setSq_moves.mono (by decide))

theorem State.turnDone_sq : (s.turnDone r).sq r = { (s.sq r).caughtUp with again := false } := by
  rw [State.turnDone, State.endTurn_sq, State.sq_setSq]

theorem State.turnDone_state : (s.turnDone r).sqState r = if (s.sq r).again then 2 else 1 := by
  have hAgain : (s.sq r).caughtUp.again = (s.sq r).again := rfl
  rw [State.turnDone, State.endTurn_state (by decide), State.sq_setSq, hAgain]

theorem State.turnDone_sqCi : (s.turnDone r).sqCi r = s.sqCi r :=
  ((State.setSq_keepsSq _).trans (State.endTurn_keepsSq 1 0)).sqCi

theorem State.cqReserved_setSq (x : SqRec) : (s.setSq r x).cqReserved c = s.cqReserved c := rfl

theorem State.turnDone_reserved (k : Nat) : (s.turnDone r).cqReserved k = s.cqReserved k := by
  have hEnd (y : State) (st cause : Nat) : (y.endTurn r st cause).cqReserved k = y.cqReserved k := by
    have hHost : (y.writeSqCi r).cqReserved k = y.cqReserved k :=
      State.cqReserved_of_hq (State.writeSqCi_moves.same .hq (by decide)) k
    have hShown (z : State) (st cause : Nat) : (z.setSqState r st cause).cqReserved k = z.cqReserved k :=
      State.cqReserved_of_hq (State.setSqState_moves.same .hq (by decide)) k
    unfold State.endTurn
    dsimp -proj only
    split
    · exact (hShown _ _ _).trans ((State.cqReserved_setSq _).trans hHost)
    · exact (hShown _ _ _).trans hHost
  exact (hEnd _ 1 0).trans (State.cqReserved_setSq _)

/-! ### Entries that are taken -/

theorem State.takeEntries_caughtUp {pi : Word} (ci : Option Word) (es : List EntryRead) (h : s.sqCi r = pi) :
    s.takeEntries r pi ci es = (s, .finished) := by
  cases es with
  | nil => rw [State.takeEntries, if_pos h]
  | cons e es =>
    unfold State.takeEntries
    exact if_pos h

/-- The turn of a scan that reads PI within the ring's depth. -/
theorem State.scan_finishes {pi : Word} {es : List EntryRead} {ci : Option Word} (hPi : s.badPi r pi = false)
    (hTaken : (s.setReg (sqOff r + 0x24) pi).takeEntries r pi ci es = (t, .finished)) :
    s.scan r (some pi) es ci = t.turnDone r := by
  have hSame : (s.setReg (sqOff r + 0x24) pi).badPi r pi = false := by
    rw [State.badPi, (State.scanPi_keepsSq pi).log, (State.scanPi_keepsSq pi).sqCi]
    exact hPi
  unfold State.scan
  dsimp -proj only
  rw [if_neg (by rw [hSame]; exact Bool.false_ne_true), hTaken]
  rfl

/-- One plain command has been taken: a completion slot is reserved, and it waits for its service. -/
def SqRec.withCommand (x : SqRec) (i : Word) (e : List Byte) : SqRec :=
  { x with
    calls := x.calls ++ [{ idx := i, body := sliceBytes e 8 56 }]
    taken := x.taken ++ [{ idx := i, tag := entryField e 2 2, work := .command, done := none }]
    since := none, stalled := false }

theorem State.sq_setReserved (n : Nat) : (s.setReserved c n).sq r = s.sq r := rfl

theorem State.takeEntry_command {e : List Byte} (hKind : s.sqKind r = 0) (hCode : s.entryCode r (s.sqCi r) e = 0) :
    (s.takeEntry r e).sq r = (s.sq r).withCommand (s.sqCi r) e ∧ (s.takeEntry r e).sqCi r = s.sqCi r + 1 ∧
    (s.takeEntry r e).cqReserved (s.sqCq r) = s.cqReserved (s.sqCq r) + 1 ∧ (s.takeEntry r e).jrn = s.jrn := by
  have hStart (n : Nat) : (s.setReserved (s.sqCq r) n).startEntry r e
      = ((s.setReserved (s.sqCq r) n).setSq r { ((s.setReserved (s.sqCq r) n).sq r) with
          calls := ((s.setReserved (s.sqCq r) n).sq r).calls ++ [{ idx := s.sqCi r, body := sliceBytes e 8 56 }] }, .command) :=
    if_pos hKind
  have hTaken : s.takeEntry r e = ((((s.setReserved (s.sqCq r) (s.cqReserved (s.sqCq r) + 1)).setSq r { (s.sq r) with
      calls := (s.sq r).calls ++ [{ idx := s.sqCi r, body := sliceBytes e 8 56 }] }).setSq r
        ((s.sq r).withCommand (s.sqCi r) e)).setSqCi r (s.sqCi r + 1)) := by
    unfold State.takeEntry
    dsimp -proj only
    rw [hCode, if_neg (by decide), hStart]
    dsimp -proj only
    rw [State.sq_setSq, State.sq_setReserved]
    rfl
  rw [hTaken]
  refine ⟨?_, State.reg_setReg_same _ _ _, ?_, ?_⟩
  · rw [State.sq_of_hq (t := State.setSqCi _ _ _) (State.setReg_moves.same .hq (by decide)), State.sq_setSq]
  · rw [State.cqReserved_of_hq (t := State.setSqCi _ _ _) (State.setReg_moves.same .hq (by decide)),
      State.cqReserved_setSq, State.cqReserved_setSq, State.cqReserved_setReserved]
  · exact State.setReg_moves.same .jrn (by decide)

/-- The read of CI when the last slot was reserved leaves the ring that is scanned. -/
theorem State.readWhenFull_keepsSq (hRing : r < 4096) (ci : Option Word) : KeepsSq r s (s.readWhenFull c ci) := by
  unfold State.readWhenFull
  split
  · refine KeepsSq.writes (State.readCi_writes ci) ?_
    simp [sqOff, cqOff]
    omega
  · exact .refl

/-- The scan has written down the PI that it has read. -/
def State.piRead (s : State) (r : Nat) (pi : Word) : State := s.setReg (sqOff r + 0x24) pi

theorem State.piRead_keepsSq (pi : Word) : KeepsSq r s (s.piRead r pi) := State.scanPi_keepsSq pi

theorem State.piRead_moves (pi : Word) : Moves [.regs] s (s.piRead r pi) := State.setReg_moves

theorem State.piRead_cqFree (hRing : r < 4096) (pi : Word) : (s.piRead r pi).cqFree c = s.cqFree c := by
  have hCq (k : Nat) : (s.piRead r pi).reg (cqOff c + k) = s.reg (cqOff c + k) :=
    State.reg_setReg_ne _ _ _ _ (by simp only [sqOff, cqOff]; omega)
  exact State.cqFree_congr (hCq 0x18) (hCq 0x24) (hCq 0x28) ((State.piRead_moves pi).same .hq (by decide))

/-- What an entry of a command ring waits for does not hang on the PI that is shown. -/
theorem State.piRead_missing (hRing : r < 4096) (hKind : s.sqKind r = 0) (pi : Word) (e : List Byte) :
    (s.piRead r pi).missing r e = s.missing r e := by
  have hJrn : (s.piRead r pi).jrn = s.jrn := (State.piRead_moves pi).same .jrn (by decide)
  have hSq : (s.piRead r pi).sq r = s.sq r := State.sq_of_hq ((State.piRead_moves pi).same .hq (by decide)) r
  simp only [State.missing, (State.piRead_keepsSq pi).kind, (State.piRead_keepsSq pi).cq, State.piRead_cqFree hRing, hJrn, hSq,
    hKind, false_and, if_false, OfNat.zero_ne_ofNat, zero_ne_one]

theorem State.entryCode_command (hKind : s.sqKind r = 0) (hKind' : t.sqKind r = 0) (i : Word) (e : List Byte) :
    t.entryCode r i e = s.entryCode r i e := by
  simp only [State.entryCode, hKind, hKind', true_or, if_true]

theorem State.takeEntries_one {pi : Word} {e : List Byte} (ci : Option Word) (hMore : s.sqCi r ≠ pi)
    (hOwned : entryByte e 0 % 2 = phaseOf (s.sqCi r) (s.sqLog r)) (hMissing : s.missing r e = 0) :
    s.takeEntries r pi ci [some e] = ((s.takeEntry r e).readWhenFull (s.sqCq r) ci).takeEntries r pi ci [] := by
  conv_lhs => unfold State.takeEntries
  exact (if_neg hMore).trans ((if_neg (by simp [hOwned])).trans (if_neg (by simp [hMissing])))

section
variable {q : Ring} {pi : Option Word} {es : List EntryRead} {ci : Option Word}

theorem exec_sqScan_turn (hEn : s.sqEn q = true) (hScans : s.sqState q = 2) (hKind : s.sqKind q ≤ 2) (hBus : s.hostOn = true)
    (hServed : s.sqKind q = 2 ∨ s.groupServed 0 = true) : exec (.sqScan q pi es ci) s = .next (s.scan q pi es ci) :=
  if_pos (by simp [hEn, hScans, hKind, hBus, hServed])

theorem exec_sqScan_nothing (h : s.sqEn q = false ∨ s.sqState q ≠ 2 ∨ 2 < s.sqKind q ∨ s.hostOn = false ∨
    (s.sqKind q ≠ 2 ∧ s.groupServed 0 = false)) : exec (.sqScan q pi es ci) s = .next s :=
  if_neg (by
    rcases h with h | h | h | h | h
    · simp [h]
    · simp [h]
    · simp only [Bool.and_eq_true, decide_eq_true_eq]
      omega
    · simp [h]
    · simp [h])

end

/-- A scan that finds no entry ends its turn. -/
theorem State.scan_empty (es : List EntryRead) (ci : Option Word) :
    s.scan r (some (s.sqCi r)) es ci = (s.piRead r (s.sqCi r)).turnDone r := by
  refine State.scan_finishes ?_ (State.takeEntries_caughtUp ci es (State.scanPi_keepsSq _).sqCi)
  simp [State.badPi]

theorem add_one_ne (w : Word) : w ≠ w + 1 := by
  intro h
  have := congrArg (fun x => x - w) h
  simp at this

/-- A scan that takes one command. -/
theorem State.scan_command {e : List Byte} (ci : Option Word) (hRing : r < 4096) (hKind : s.sqKind r = 0)
    (hOwned : entryByte e 0 % 2 = phaseOf (s.sqCi r) (s.sqLog r)) (hMissing : s.missing r e = 0)
    (hCode : s.entryCode r (s.sqCi r) e = 0) :
    s.scan r (some (s.sqCi r + 1)) [some e] ci
      = (((s.piRead r (s.sqCi r + 1)).takeEntry r e).readWhenFull (s.sqCq r) ci).turnDone r := by
  have hKeeps : KeepsSq r s (s.piRead r (s.sqCi r + 1)) := State.piRead_keepsSq _
  have hTake := State.takeEntry_command (s := s.piRead r (s.sqCi r + 1)) (r := r) (e := e) (hKeeps.kind.trans hKind)
    ((State.entryCode_command hKind (hKeeps.kind.trans hKind) _ e).trans (by rw [hKeeps.sqCi]; exact hCode))
  have hOwned' : entryByte e 0 % 2
      = phaseOf ((s.piRead r (s.sqCi r + 1)).sqCi r) ((s.piRead r (s.sqCi r + 1)).sqLog r) := by
    rw [hKeeps.sqCi, hKeeps.log]
    exact hOwned
  refine State.scan_finishes ?_ ?_
  · have hOne : (s.sqCi r + 1 - s.sqCi r).toNat = 1 := by simp
    rw [State.badPi, hOne]
    simp
  · refine (State.takeEntries_one ci ?_ ?_ ?_).trans ?_
    · exact fun h => add_one_ne _ (hKeeps.sqCi.symm.trans h)
    · exact hOwned'
    · exact (State.piRead_missing hRing hKind _ e).trans hMissing
    · rw [← hKeeps.cq]
      refine State.takeEntries_caughtUp ci [] ?_
      rw [(State.readWhenFull_keepsSq hRing ci).sqCi]
      exact hTake.2.1.trans (congrArg (· + 1) hKeeps.sqCi)

/-- What stands after a scan that took one command. -/
theorem State.scan_command_spec {e : List Byte} (ci : Option Word) (hRing : r < 4096) (hKind : s.sqKind r = 0)
    (hOwned : entryByte e 0 % 2 = phaseOf (s.sqCi r) (s.sqLog r)) (hMissing : s.missing r e = 0)
    (hCode : s.entryCode r (s.sqCi r) e = 0) :
    (s.scan r (some (s.sqCi r + 1)) [some e] ci).sqCi r = s.sqCi r + 1 ∧
    (s.scan r (some (s.sqCi r + 1)) [some e] ci).sq r
      = { ((s.sq r).withCommand (s.sqCi r) e).caughtUp with again := false } ∧
    (s.scan r (some (s.sqCi r + 1)) [some e] ci).cqReserved (s.sqCq r) = s.cqReserved (s.sqCq r) + 1 ∧
    (s.scan r (some (s.sqCi r + 1)) [some e] ci).jrn = s.jrn := by
  have hKeeps : KeepsSq r s (s.piRead r (s.sqCi r + 1)) := State.piRead_keepsSq _
  have hRead := State.piRead_moves (s := s) (r := r) (s.sqCi r + 1)
  obtain ⟨hSq, hCi, hReserved, hJrn⟩ := State.takeEntry_command (s := s.piRead r (s.sqCi r + 1)) (r := r) (e := e)
    (hKeeps.kind.trans hKind) ((State.entryCode_command hKind (hKeeps.kind.trans hKind) _ e).trans
      (by rw [hKeeps.sqCi]; exact hCode))
  rw [hKeeps.sqCi] at hSq hCi
  rw [hKeeps.cq, State.cqReserved_of_hq (hRead.same .hq (by decide))] at hReserved
  rw [State.sq_of_hq (hRead.same .hq (by decide))] at hSq
  rw [State.scan_command ci hRing hKind hOwned hMissing hCode]
  have hFull {y : State} : Moves [.regs] y (y.readWhenFull (s.sqCq r) ci) := State.readWhenFull_moves
  refine ⟨?_, ?_, ?_, ?_⟩
  · rw [State.turnDone_sqCi, (State.readWhenFull_keepsSq hRing ci).sqCi, hCi]
  · rw [State.turnDone_sq, State.sq_of_hq (hFull.same .hq (by decide)), hSq]
  · rw [State.turnDone_reserved, State.cqReserved_of_hq (hFull.same .hq (by decide)), hReserved]
  · rw [State.turnDone_moves.same .jrn (by decide), hFull.same .jrn (by decide), hJrn, hRead.same .jrn (by decide)]

end Sys2Proof.Machine
end

section
/-! PROOFS. Host packets that are read: into the buffer and on, or their read or their cells fail (R26, R170, R386, R388). -/

namespace Sys2Proof.Machine

variable {s t u v : State} {r : Nat}

/-- The parts of the state that a class-S fault of the buffer manager and the repair of a free list touch. -/
def mendParts : List StatePart := [.regs, .counters, .emitted, .freeCount, .fc, .buf, .pierTx]

/-- Damaged free lists that are rebuilt leave the descriptors. -/
structure Mended (s t : State) : Prop where
  moves : Moves mendParts s t
  desc : t.buf.desc = s.buf.desc

theorem Mended.refl : Mended s s := ⟨.refl, rfl⟩
theorem Mended.trans (h : Mended s t) (k : Mended t u) : Mended s u := ⟨h.moves.trans k.moves, k.desc.trans h.desc⟩
theorem Mended.fold {α : Type} {f : State → α → State} {l : List α} (h : ∀ s a, Mended s (f s a)) : Mended s (l.foldl f s) :=
  List.foldlRecOn (motive := fun t => Mended s t) _ _ .refl (fun _ ht a _ => ht.trans (h _ a))

theorem State.bufFault_mended {kind : Nat} (hKind : kind < 32) (id : Nat) (h : Holder) : Mended s (s.bufFault kind id h) := by
  have hLog : (s.logFault kind id h).buf.desc = s.buf.desc := by
    unfold State.logFault
    split <;> rfl
  rw [State.bufFault_eq]
  constructor
  · exact .step (State.latchFault_s_moves _ _ _ _ (by simp only [managerSource, srcChip]; omega)
      (pipeOfSource_manager hKind)) (by decide)
      (State.logFault_moves.mono (by decide))
  · exact (State.latchFault_s_keepsHolders _ _ _ _ (pipeOfSource_manager hKind)).desc.trans hLog

theorem State.mendList_mended (g : Nat) : Mended s (s.mendList g) := by
  have hRebuilt : Mended s (s.rebuildFree g) := ⟨State.rebuildFree_moves.mono (by decide),
    (State.rebuildFree_keepsHolders g).desc⟩
  unfold State.mendList
  dsimp -proj only
  split
  · exact .refl
  · exact hRebuilt.trans (.fold fun _ _ => State.bufFault_mended (by decide) _ _)

theorem State.mendAfter_mended : Mended s (s.mendAfter v) := .fold fun _ _ => State.mendList_mended _

/-! ### The packet that is read -/

/-- The state in which the oldest packet that is read finds its cells. -/
def State.hostCells (u : State) (r d : Nat) (w : TxWork) (b : List Byte) (full : List (Fin 256)) : State × Bool :=
  (u.hostFrame r d w).writeHostCells d (dieOf ((u.hostFrame r d w).info d).port) (full.map Fin.val)
    (sliceBytes b 0 w.len ++ ethFcs (sliceBytes b 0 w.len)) (txCells w.len)

/-- What the completion of a packet that was read says (R388). -/
def State.sentDone (v : State) (d : Nat) : Done :=
  { code := 0, result := leBytes 4 (v.desc d).seq.toNat ++ leBytes 4 v.tb0Ns.toNat }

/-- The cells that a packet was to take are back in the host's share. -/
def State.cellsReturned (s : State) (w : TxWork) : State :=
  { s with buf := { s.buf with hostUse := s.buf.hostUse - txCells w.len } }

/-- A read that failed gives its cells back, and its entry is done (R386, R399). -/
def State.readFailed (s : State) (r : Nat) (x : Taken) (w : TxWork) : State :=
  ((s.cellsReturned w).dmaErr.finishTaken r x.idx { code := 8 }).checkDrained

section
variable {q : Ring} {full : List (Fin 256)}

theorem exec_txPacketReadDone_nothing {bytes : Option (List Byte)} (h : s.hostOn = false ∨ s.bufferPaused = true ∨
    (s.sq q).reading = none ∨ (bytes.isSome = true ∧ s.allocDesc = none)) : exec
      (.txPacketReadDone q bytes full) s = .next s := by
  have hIdle (hNone : (s.sq q).reading = none ∨ (bytes.isSome = true ∧ s.allocDesc = none)) :
      s.txReadDone q bytes (full.map Fin.val) = s := by
    unfold State.txReadDone
    cases hRead : (s.sq q).reading with
    | none => rfl
    | some xw =>
      obtain ⟨hSome, hDesc⟩ := hNone.resolve_left (by simp [hRead])
      obtain ⟨b, rfl⟩ := Option.isSome_iff_exists.mp hSome
      dsimp -proj only
      rw [hDesc]
  rcases h with h | h | h
  · exact if_neg (by simp [h])
  · exact if_neg (by simp [h])
  · by_cases hRuns : (s.hostOn && !s.bufferPaused) = true
    · exact (if_pos hRuns).trans (congrArg Host.Outcome.next (hIdle h))
    · exact if_neg hRuns

variable {x : Taken} {w : TxWork} (hBus : s.hostOn = true) (hRuns : s.bufferPaused = false)
  (hRead : (s.sq q).reading = some (x, w))
include hBus hRuns hRead

theorem exec_txPacketReadDone_failed : exec (.txPacketReadDone q none full) s = .next (s.readFailed q x w) := by
  refine (if_pos (by simp [hBus, hRuns])).trans (congrArg Host.Outcome.next ?_)
  unfold State.txReadDone
  rw [hRead]
  rfl

variable {b : List Byte} {d : Nat} (hDesc : s.allocDesc = some (u, d))
include hDesc

theorem exec_txPacketReadDone_sent (hCells : u.hostCells q d w b full = (v, true)) :
    exec (.txPacketReadDone q (some b) full) s
      = .next ((v.finishTaken q x.idx (v.sentDone d)).sendHost q d w) := by
  refine (if_pos (by simp [hBus, hRuns])).trans (congrArg Host.Outcome.next ?_)
  unfold State.hostCells at hCells
  unfold State.txReadDone
  rw [hRead]
  dsimp -proj only
  rw [hDesc]
  dsimp -proj only
  rw [hCells]
  rfl

theorem exec_txPacketReadDone_noCell (hCells : u.hostCells q d w b full = (v, false)) :
    exec (.txPacketReadDone q (some b) full) s = .next (s.mendAfter v) := by
  refine (if_pos (by simp [hBus, hRuns])).trans (congrArg Host.Outcome.next ?_)
  unfold State.hostCells at hCells
  unfold State.txReadDone
  rw [hRead]
  dsimp -proj only
  rw [hDesc]
  dsimp -proj only
  rw [hCells]
  rfl

end

/-- Every taken entry of an index is done once one is finished. -/
theorem State.finishTaken_allDone (i : Word) (e : Done) {y : Taken} (hy : y ∈ ((s.finishTaken r i e).sq r).taken)
    (hIdx : y.idx = i) : y.done.isSome = true := by
  rw [State.sq_finishTaken] at hy
  obtain ⟨z, _, rfl⟩ := List.mem_map.mp hy
  by_cases hDone : z.idx = i && z.done.isNone
  · rw [if_pos hDone]
    rfl
  · rw [if_neg hDone] at hIdx ⊢
    simpa [hIdx, Option.isSome_iff_ne_none] using hDone

/-! ### The packet is sent on -/

/-- The result of a DIRECT packet, which takes its place in ring order (R386). -/
def State.directResult (s : State) (d : Nat) (w : TxWork) : Result :=
  { port := (s.info d).port, tc := 0, seq := (s.desc d).seq, desc := d, pipe := 7, drop := false, reason := 0,
    md6 := BitVec.ofNat 32 (2 ^ 14 + w.target % 2 ^ 14), md7 := 0, bridge := [], egOp := w.op, requests := [], after := false,
    direct := true }

theorem State.sendHost_queued {w : TxWork} {d : Nat} (h : w.direct = false) :
    s.sendHost r d w = s.setHostQueue (portGroup (s.info d).port) (s.hostQueue (portGroup (s.info d).port) ++ [d]) :=
  if_neg (by rw [h]; exact Bool.false_ne_true)

theorem State.sendHost_direct {w : TxWork} {d : Nat} (h : w.direct = true) :
    s.sendHost r d w = (((s.setInfo d { (s.info d) with ingressDone := true }).holdResult (16384 + r)
      (s.directResult d w)).releaseRing (16384 + r)) :=
  if_pos h

theorem State.sendHost_keepsHostTx {w : TxWork} {d : Nat} (h : w.direct = true) : KeepsHostTx s (s.sendHost r d w) := by
  rw [State.sendHost_direct h]
  exact ((KeepsHostTx.moves State.setInfo_moves (by decide)).trans (.moves State.holdResult_moves (by decide))).trans
    (State.releaseRing_resultFrame _).hostTx

/-- The parts of the state up to the host's cells leave host memory. -/
theorem State.hostCells_hostMem {q d : Nat} {w : TxWork} {b : List Byte} {full : List (Fin 256)} {ok : Bool}
    (hDesc : s.allocDesc = some (u, d)) (hCells : u.hostCells q d w b full = (v, ok)) : v.hostMem = s.hostMem := by
  have hWritten : Moves (.mem :: reactParts) (u.hostFrame q d w) v := by
    have := State.writeHostCells_moves (s := u.hostFrame q d w) (d := d) (die := dieOf ((u.hostFrame q d w).info d).port)
      (full := full.map Fin.val) (bs := sliceBytes b 0 w.len ++ ethFcs (sliceBytes b 0 w.len)) (n := txCells w.len)
    unfold State.hostCells at hCells
    rwa [hCells] at this
  rw [hWritten.same .hostMem (by decide), State.hostFrame_moves.same .hostMem (by decide),
    (State.allocDesc_moves hDesc).same .hostMem (by decide)]

end Sys2Proof.Machine
end

section
/-! PROOFS. Rings take and complete entries: the parts of the settled statement (R371 to R399). -/

namespace Sys2Proof.Machine

variable {s t u : State} {r : Nat}

theorem Moves.wholeBuf {ps : List StatePart} (h : Moves ps s t) (hBuf : .buf ∉ ps) (hMem : .mem ∉ ps) : t.buf = s.buf := by
  have hRest : { t.buf with mem := [] } = { s.buf with mem := [] } := h.same .buf hBuf
  have hBytes : t.buf.mem = s.buf.mem := h.same .mem hMem
  calc t.buf = { ({ t.buf with mem := [] } : BufState) with mem := t.buf.mem } := rfl
    _ = { ({ s.buf with mem := [] } : BufState) with mem := s.buf.mem } := by rw [hRest, hBytes]

theorem State.checkDrained_bit {o i : Nat} (h : o ∉ [0x10C, 0x204]) : s.checkDrained.bit o i = s.bit o i := by
  have hWrites : WritesOnly [0x10C, 0x204] s s.checkDrained :=
    .ite (.ite (.setFld (by decide) (.setFld (by decide) .refl)) (.setFld (by decide) .refl)) .refl
  exact hWrites.bit h i

/-! ### A buffer that a receive ring reads ahead (R379) -/

theorem State.entryCode_receive (hKind : s.sqKind r = 3) (hKind' : t.sqKind r = 3) (i : Word) (e : List Byte) :
    t.entryCode r i e = s.entryCode r i e := by
  simp [State.entryCode, hKind, hKind']

theorem State.readAhead_owned {pi : Word} {e : List Byte} (hKind : s.sqKind r = 3)
    (hMore : s.sqCi r + BitVec.ofNat 32 (s.sq r).bufs.length ≠ pi) (hRoom : (s.sq r).bufs.length < 16)
    (hOwned : entryByte e 0 % 2 = phaseOf (s.sqCi r + BitVec.ofNat 32 (s.sq r).bufs.length) (s.sqLog r)) :
    (s.piRead r pi).readAhead r pi [some e] = (s.piRead r pi).setSq r { (s.sq r) with bufs := (s.sq r).bufs ++ [{
      idx := s.sqCi r + BitVec.ofNat 32 (s.sq r).bufs.length, tag := entryField e 2 2, addr := entryField e 8 8,
      len := entryField e 16 4, code := s.entryCode r (s.sqCi r + BitVec.ofNat 32 (s.sq r).bufs.length) e }] } := by
  have hKeeps : KeepsSq r s (s.piRead r pi) := State.piRead_keepsSq pi
  have hSq : (s.piRead r pi).sq r = s.sq r := State.sq_of_hq ((State.piRead_moves pi).same .hq (by decide)) r
  have hOne := State.readAhead_one (s := s.piRead r pi) (r := r) (pi := pi) (e := e) (by rwa [hKeeps.sqCi, hSq])
    (by rwa [hSq]) (by rwa [hKeeps.sqCi, hKeeps.log, hSq])
  rwa [hKeeps.sqCi, hSq, State.entryCode_receive hKind (hKeeps.kind.trans hKind)] at hOne

/-! ### The scan after a stop -/

/-- A ring that has stopped for 1 ms scans again, with STALL showing. -/
theorem State.stallRing_scans (hRuns : s.sqRuns r = true) (hKind : s.sqKind r ≤ 2) (hBus : s.hostOn = true) :
    (((s.stallRing r).startScan r).sq r).stalled = true ∧ ((s.stallRing r).startScan r).bit (sqOff r + 0x1C) 24 = true ∧
    ((s.stallRing r).startScan r).sqState r = 2 := by
  have hStarts := State.startScan_starts (State.stallRing_runs hRuns) (by rwa [State.stallRing_keepsSq.kind])
    (State.stallRing_hostOn.trans hBus) (by rw [State.stallRing_state]; decide)
  rw [hStarts]
  refine ⟨?_, ?_, State.setSqState_state (by decide) _⟩
  · rw [State.sq_setSqState, State.sq_setSq, State.stallRing_sq]
  · rw [State.setSqState_bit (by decide), State.bit_moves State.setSq_moves (by decide), State.stallRing_status _ (by decide)]
    exact State.bit_setBit_same _ _ _ _ (by decide)

/-! ### Event records -/

theorem exec_eventRecordWrite_capture (ci : Option Word) (hFound : s.buf.found = []) :
    exec (.eventRecordWrite true ci) s = .next (s.writeCapture ci) := by
  change Host.Outcome.next (s.raiseFound.writeCapture ci) = _
  rw [State.raiseFound_none hFound]

theorem exec_eventRecordWrite_fault (ci : Option Word) (hFound : s.buf.found = []) :
    exec (.eventRecordWrite false ci) s = .next (if s.groupServed 1 then s.writeFaultRecord ci else s) := by
  change Host.Outcome.next (if s.raiseFound.groupServed 1 then s.raiseFound.writeFaultRecord ci else s.raiseFound) = _
  rw [State.raiseFound_none hFound]

/-- A fault record stands in its ring (R390). -/
def State.faultEntered (s : State) (f : FaultRecord) (rest : List FaultRecord) (c : Nat) : State :=
  ((s.faultTaken f rest).writeEntry c 0x10 0 0 f.body).writePi c

section
variable (f : FaultRecord) (rest : List FaultRecord) (c : Nat)

theorem State.faultEntered_after : Moves [.regs, .hostMem] (s.faultTaken f rest) (s.faultEntered f rest c) :=
  .step State.writePi_moves (by decide) State.writeEntry_moves

theorem State.faultEntered_records : (s.faultEntered f rest c).fc.records = rest :=
  (congrArg FcState.records ((State.faultEntered_after f rest c).same .fc (by decide))).trans
    (State.faultTaken_records f rest)

theorem State.faultEntered_pi : (s.faultEntered f rest c).cqPi c = s.cqPi c + 1 := by
  have hTaken : (s.faultTaken f rest).regs = s.regs := (State.faultTaken_moves f rest).same .regs (by decide)
  have hPi := State.writeEntry_pi (s := s.faultTaken f rest) (c := c) 0x10 0 0 f.body
  rw [State.cqPi, State.reg] at hPi ⊢
  rw [State.faultEntered, State.writePi_regs, hPi, State.cqPi, State.cqPi, State.reg, State.reg, hTaken]

end

/-- A capture record stands in its ring, and is counted for its session (R293, R390). -/
def State.captureEntered (s : State) (x : CaptureRec) (rest : List CaptureRec) : State :=
  (((s.captureTaken x rest).writeRecord x.ring 0x11 x.bytes).writePi x.ring).count (cMirror x.session 2) 1

theorem State.captureEntered_after (x : CaptureRec) (rest : List CaptureRec) :
    Moves [.regs, .counters, .hostMem] (s.captureTaken x rest) (s.captureEntered x rest) :=
  .step State.count_moves (by decide) (.step State.writePi_moves (by decide) (State.writeRecord_moves.mono (by decide)))

theorem State.captureEntered_hq (x : CaptureRec) (rest : List CaptureRec) :
    (s.captureEntered x rest).hq = { s.hq with captures := rest } :=
  ((State.captureEntered_after x rest).same .hq (by decide)).trans (State.captureTaken_hq x rest)

theorem State.captureEntered_pi (x : CaptureRec) (rest : List CaptureRec) :
    (s.captureEntered x rest).cqPi x.ring = s.cqPi x.ring + 3 := by
  have hTaken : (s.captureTaken x rest).regs = s.regs := (State.captureTaken_moves x rest).same .regs (by decide)
  have hPi := State.writeRecord_pi (s := s.captureTaken x rest) (c := x.ring) 0x11 x.bytes
  have hCount : (s.captureEntered x rest).regs = ((s.captureTaken x rest).writeRecord x.ring 0x11 x.bytes).regs :=
    (State.count_moves.same .regs (by decide)).trans State.writePi_regs
  rw [State.cqPi, State.reg] at hPi ⊢
  rw [hCount, hPi, State.cqPi, State.cqPi, State.reg, State.reg, hTaken]

theorem State.captureEntered_counter (x : CaptureRec) (rest : List CaptureRec) :
    (s.captureEntered x rest).counter (cMirror x.session 2) = (s.counter (cMirror x.session 2) + 1) % 2 ^ 64 := by
  have hRecord : Moves [.regs, .hostMem] (s.captureTaken x rest)
      (((s.captureTaken x rest).writeRecord x.ring 0x11 x.bytes).writePi x.ring) :=
    .step State.writePi_moves (by decide) (State.writeRecord_moves.mono (by decide))
  rw [State.captureEntered, State.counter_count, if_pos rfl, State.counter_moves hRecord (by decide),
    State.captureTaken_counter]

/-- Settles O54: each command is one of the equations above, and what it leaves is read off the state that they name. -/
theorem ringsTakeAndComplete : Obligations.RingsTakeAndComplete := by
  unfold Obligations.RingsTakeAndComplete
  refine ⟨?starts, ?waits, ?none, ?again, ?empty, ?command, ?scanNothing, ?timerNothing, ?stalls, ?freed, ?notWaiting,
    ?rxNothing, ?rxUnread, ?rxReads, ?readFails, ?queued, ?direct, ?noCell, ?txNothing, ?posted, ?postNothing, ?armed,
    ?ciTaken, ?timerSame, ?timerMoved, ?coalNothing, ?faultWritten, ?captureWritten, ?faultDropped, ?captureDropped,
    ?recordNothing⟩
  case starts =>
    intro off len cis r s hBell hRuns hKind hBus hRests
    refine ⟨_, exec_sqDoorbell r.isLt hBell, ?_⟩
    have hMoves := State.startScan_moves (s := s) (r := r)
    rw [State.startScan_starts hRuns hKind hBus hRests] at hMoves ⊢
    exact ⟨State.setSqState_state (by decide) _, by rw [State.sq_setSqState, State.sq_setSq], hMoves.only⟩
  case waits =>
    intro off len cis r s hBell hRuns hKind hBus
    refine ⟨_, exec_sqDoorbell r.isLt hBell, ?_⟩
    rw [State.startScan_noBus hRuns hKind hBus]
    exact ⟨State.setSqState_state (by decide) _, State.setSqState_cause (by decide) _, State.setSqState_moves.only⟩
  case none =>
    intro off len cis r s hBell hOff
    exact ⟨_, exec_sqDoorbell r.isLt hBell, State.startScan_none hOff⟩
  case again =>
    intro off len cis r s hBell hRuns hKind hBus hScans
    refine ⟨_, exec_sqDoorbell r.isLt hBell, ?_⟩
    rw [State.startScan_running hRuns hKind hBus hScans]
    exact ⟨State.sq_setSq _ _, State.setSq_moves.only⟩
  case empty =>
    intro r es ci s hEn hScans hKind hBus hServed
    refine ⟨_, exec_sqScan_turn hEn hScans hKind hBus hServed, ?_⟩
    rw [State.scan_empty]
    have hRead := State.piRead_moves (s := s) (r := r) (s.sqCi r)
    have hSq : (s.piRead r (s.sqCi r)).sq r = s.sq r := State.sq_of_hq (hRead.same .hq (by decide)) r
    refine ⟨?_, ?_, ?_, ?_, ?_⟩
    · rw [State.turnDone_state, hSq]
    · rw [State.turnDone_sqCi, (State.piRead_keepsSq _).sqCi]
    · rw [State.turnDone_sq, hSq]
      rfl
    · exact (State.turnDone_moves.same .chip (by decide)).trans (hRead.same .chip (by decide))
    · exact (State.turnDone_moves.same .fc (by decide)).trans (hRead.same .fc (by decide))
  case command =>
    intro r e ci s hEn hScans hKind hBus hServed hOwned hMissing hCode
    refine ⟨_, exec_sqScan_turn hEn hScans (by omega) hBus (.inr hServed), ?_⟩
    obtain ⟨hCi, hSq, hReserved, hJrn⟩ := State.scan_command_spec ci r.isLt hKind hOwned hMissing hCode
    exact ⟨hCi, by rw [hSq]; rfl, by rw [hSq]; rfl, hReserved, hJrn⟩
  case scanNothing => exact fun r pi es ci s hOff => ⟨s, exec_sqScan_nothing hOff, rfl⟩
  case timerNothing => exact fun r s hIdle => ⟨s, exec_sqRescanTimer_nothing hIdle, rfl⟩
  case stalls =>
    intro r t0 s hRuns hKind hBus hSince hScans hWaits hLong hNew
    obtain ⟨hStalled, hShown, hState⟩ := State.stallRing_scans hRuns hKind hBus
    exact ⟨_, exec_sqRescanTimer_stalls hRuns hScans hWaits hSince hLong hNew, hStalled, hShown, hState,
      (Moves.step State.startScan_moves (by decide) (State.stallRing_moves.mono (by decide))).only⟩
  case freed =>
    intro r s hRuns hKind hBus hWaits
    refine ⟨s.startScan r, if_pos hWaits, ?_, State.startScan_moves.only⟩
    rw [State.startScan_starts hRuns hKind hBus (by omega)]
    exact State.setSqState_state (by decide) _
  case notWaiting =>
    intro r s h
    by_cases hWaits : s.sqState r = 3
    · exact ⟨_, if_pos hWaits, State.startScan_none (h.resolve_left (by simp [hWaits]))⟩
    · exact ⟨s, if_neg hWaits, rfl⟩
  case rxNothing => exact fun r pi es s hOff => ⟨s, exec_rxRingReadAhead_nothing hOff, rfl⟩
  case rxUnread =>
    intro r es s hRuns hKind hBus
    have hShows : ((s.dmaErr.ringError r).source hostSource).ShowsN := State.latchFault_n_shows _ _ _ _
    obtain ⟨hCause, hCls⟩ := hShows
    exact ⟨_, exec_rxRingReadAhead_unread hRuns hKind hBus es, State.ringError_dmaErr.trans State.dmaErr_bit,
      State.ringError_state, State.ringError_bit, hCause, hCls,
      State.ringError_hq.trans (State.dmaErr_moves.same .hq (by decide))⟩
  case rxReads =>
    intro r pi e s hRuns hKind hBus hPi hMore hRoom hOwned
    refine ⟨_, exec_rxRingReadAhead_reads hRuns hKind hBus [some e] hPi, ?_⟩
    have hMoves : Moves [.regs, .hq] s ((s.piRead r pi).readAhead r pi [some e]) :=
      .step State.readAhead_moves (by decide) ((State.piRead_moves pi).mono (by decide))
    change ((s.piRead r pi).readAhead r pi [some e]).sq r = _ ∧ ((s.piRead r pi).readAhead r pi [some e]).sqCi r = _ ∧ _
    refine ⟨?_, ?_, hMoves.only⟩
    · rw [State.readAhead_owned hKind hMore hRoom hOwned, State.sq_setSq]
    · rw [State.readAhead_owned hKind hMore hRoom hOwned, (State.setSq_keepsSq _).sqCi, (State.piRead_keepsSq pi).sqCi]
  case readFails =>
    intro r full x w s hBus hRuns hRead
    refine ⟨_, exec_txPacketReadDone_failed hBus hRuns hRead, ?_⟩
    have hFreed : Moves [.buf] s (s.cellsReturned w) := .buf (by decide) rfl .refl
    have hAll : Moves [.regs, .hq] (s.cellsReturned w) (s.readFailed r x w) :=
      .step State.checkDrained_moves (by decide) (.step State.finishTaken_moves (by decide) (State.dmaErr_moves.mono
        (by decide)))
    refine ⟨?_, fun z hz hIdx => ?_, hAll.wholeBuf (by decide) (by decide),
      (Moves.step hAll (by decide) (hFreed.mono (by decide))).only⟩
    · rw [State.readFailed, State.checkDrained_bit (by decide), State.bit_moves State.finishTaken_moves (by decide)]
      exact State.dmaErr_bit
    · rw [State.readFailed, State.sq_of_hq (State.checkDrained_moves.same .hq (by decide))] at hz
      exact State.finishTaken_allDone _ _ hz hIdx
  case queued =>
    intro r b full x w u v d s hBus hRuns hRead hQueued hDesc hCells
    refine ⟨_, exec_txPacketReadDone_sent hBus hRuns hRead hDesc hCells, ?_⟩
    have hFinished : Moves [.hq] v (v.finishTaken r x.idx (v.sentDone d)) := State.finishTaken_moves
    rw [State.sendHost_queued hQueued]
    refine ⟨fun z hz hIdx => ?_, ?_, ?_, ?_⟩
    · rw [State.sq_of_hq (State.setHostQueue_moves.same .hq (by decide))] at hz
      exact State.finishTaken_allDone _ _ hz hIdx
    · have hInfo : (v.finishTaken r x.idx (v.sentDone d)).info d = v.info d := by
        rw [State.info, State.info, hFinished.same .rx (by decide)]
      rw [hInfo, State.hostQueue_setHostQueue, State.hostQueue, hFinished.same .pipes (by decide)]
      rfl
    · exact (State.setHostQueue_moves.wholeBuf (by decide) (by decide)).trans (hFinished.wholeBuf (by decide) (by decide))
    · rw [State.setHostQueue_moves.same .hostMem (by decide), hFinished.same .hostMem (by decide),
        State.hostCells_hostMem hDesc hCells]
  case direct =>
    intro r b full x w u v d s hBus hRuns hRead hDirect hDesc hCells
    refine ⟨_, exec_txPacketReadDone_sent hBus hRuns hRead hDesc hCells, fun z hz hIdx => ?_, fun g => ?_, ?_⟩
    · rw [State.sq_of_hq (State.sendHost_moves.same .hq (by decide))] at hz
      exact State.finishTaken_allDone _ _ hz hIdx
    · have hFinished : KeepsHostTx v (v.finishTaken r x.idx (v.sentDone d)) := .moves State.finishTaken_moves (by decide)
      have hKept : ((v.finishTaken r x.idx (v.sentDone d)).sendHost r d w).pipes.hostTx = v.pipes.hostTx :=
        hFinished.trans (State.sendHost_keepsHostTx hDirect)
      rw [State.hostQueue, State.hostQueue, hKept]
    · rw [State.sendHost_moves.same .hostMem (by decide), State.finishTaken_moves.same .hostMem (by decide),
        State.hostCells_hostMem hDesc hCells]
  case noCell =>
    intro r b full x w u v d s hBus hRuns hRead hDesc hCells
    obtain ⟨hMoves, hKept⟩ := State.mendAfter_mended (s := s) (v := v)
    exact ⟨_, exec_txPacketReadDone_noCell hBus hRuns hRead hDesc hCells, congrArg RxState.info (hMoves.same .rx (by decide)),
      hKept, hMoves.same .hq (by decide), hMoves.same .ord (by decide), hMoves.only⟩
  case txNothing => exact fun r bytes full s hIdle => ⟨s, exec_txPacketReadDone_nothing hIdle, rfl⟩
  case posted =>
    intro r ci x rest d s hBus hTaken hDone
    exact ⟨_, (if_pos hBus).trans (congrArg Host.Outcome.next (State.postOne_posts ci hTaken hDone)),
      State.completed_taken _ _ _ _, State.completed_pi _ _ _ _ r.isLt, State.completed_ci _ _ _ _ r.isLt,
      State.completed_reserved _ _ _ _, State.completed_hostMem _ _ _ _, (State.completed_moves _ _ _ _).only⟩
  case postNothing => exact fun r ci s hIdle => ⟨s, exec_completionPost_nothing hIdle, rfl⟩
  case armed =>
    intro off len r cis s hBell hOff
    exact ⟨_, exec_cqDoorbell r.isLt hBell, State.cqRing_armedOnly _ hOff⟩
  case ciTaken =>
    intro off len r ci rest s hBell hEn hBus
    refine ⟨_, exec_cqDoorbell r.isLt hBell, ?_⟩
    have hArm : Moves [.regs] s (s.setBit (cqOff r + 0x20) 29 true) := State.setBit_moves
    rw [List.headD_cons, State.cqRing_reads _ hEn hBus]
    refine ⟨State.cqSettled_ci _, ?_, State.cqSettled_full ci,
      (Moves.step (State.cqSettled_moves _) (by decide) (hArm.mono (by decide))).only⟩
    rw [State.cqSettled_pi]
    exact State.reg_setFld_ne _ _ _ _ _ _ (by omega)
  case timerSame =>
    intro r ci s hEn hIrq hArmed hUnread hBus hSame
    have hRead : Moves [.regs] s (s.readCi r ci) := State.readCi_moves
    have hBus' : (s.readCi r ci).hostOn = true := (State.hostOn_of_hq (hRead.same .hq (by decide))).trans hBus
    have hVector : (s.readCi r ci).fld (cqOff r + 0x18) 10 0 = s.fld (cqOff r + 0x18) 10 0 :=
      State.reg_same_fld (State.readCi_kept ci (.inl (by decide)))
    have hMask : (s.readCi r ci).bit (0x41000C + s.fld (cqOff r + 0x18) 10 0 * 0x10) 0
        = s.bit (0x41000C + s.fld (cqOff r + 0x18) 10 0 * 0x10) 0 := by
      have hv := State.cqVector_lt (s := s) (c := r)
      exact State.reg_same_bit (State.readCi_reg ci (by omega) (by simp only [cqOff]; omega) (by simp only [cqOff]; omega))
    obtain ⟨hMasked, hOpen⟩ := State.cqMessage_sends (s := s.readCi r ci) (c := r) hBus'
    rw [hVector, hMask, hRead.same .emitted (by decide)] at hMasked hOpen
    refine ⟨_, exec_cqCoalTimer_same hEn hIrq hArmed hUnread hBus hSame, State.cqMessage_disarms hBus', ?_, ?_, hMasked, hOpen,
      (Moves.step State.cqMessage_moves (by decide) (hRead.mono (by decide))).only⟩
    · exact (State.cqMessage_reg (.inr (by simp only [cqOff]; omega)) (by omega)).trans (State.readCi_pi ci)
    · refine (State.cqMessage_reg (.inr (by simp only [cqOff]; omega)) (by omega)).trans ((State.readCi_ci ci).trans ?_)
      rcases hSame with rfl | rfl <;> rfl
  case timerMoved =>
    intro r v s hEn hIrq hArmed hUnread hBus hMoved
    have hRead : Moves [.regs] s (s.readCi r (some v)) := State.readCi_moves
    refine ⟨_, exec_cqCoalTimer_moved hEn hIrq hArmed hUnread hBus hMoved, State.cqSettled_ci _, State.cqSettled_pi _,
      fun hQuiet => ?_, fun hDue => ?_, (State.cqSettled_moves _).only⟩
    · rw [State.cqSettled, State.cqInterrupt, if_neg (by rw [hQuiet]; exact Bool.false_ne_true)]
      exact ⟨hRead.same .emitted (by decide), (State.readCi_armed _).trans hArmed⟩
    · rw [State.cqSettled, State.cqInterrupt, if_pos hDue]
      exact State.cqMessage_disarms ((State.hostOn_of_hq (hRead.same .hq (by decide))).trans hBus)
  case coalNothing => exact fun r ci s hOff => ⟨s, exec_cqCoalTimer_nothing hOff, rfl⟩
  case faultWritten =>
    intro ci f rest s hServed hFound hRecords hOn hRoom
    have hShown : Moves [.regs, .emitted] (s.faultEntered f rest s.faultRing)
        ((s.faultEntered f rest s.faultRing).cqSettled s.faultRing (some ci)) := State.cqSettled_moves _
    have hMoves : Moves [.regs, .counters, .buf, .hostMem, .emitted, .fc] s
        ((s.faultEntered f rest s.faultRing).cqSettled s.faultRing (some ci)) :=
      .step hShown (by decide) (.step (State.faultEntered_after _ _ _) (by decide)
        ((State.faultTaken_moves f rest).mono (by decide)))
    refine ⟨_, (exec_eventRecordWrite_fault _ hFound).trans (congrArg Host.Outcome.next ((if_pos hServed).trans
      (State.writeFaultRecord_writes _ hRecords hOn hRoom))), ?_⟩
    exact ⟨(congrArg FcState.records (hShown.same .fc (by decide))).trans (State.faultEntered_records _ _ _),
      (State.cqSettled_pi _).trans (State.faultEntered_pi _ _ _), State.cqSettled_ci _, (hMoves.mono (by decide)).only⟩
  case captureWritten =>
    intro ci x rest s hFound hCaptures _ _ hRoom
    have hShown : Moves [.regs, .emitted] (s.captureEntered x rest) ((s.captureEntered x rest).cqSettled x.ring (some ci)) :=
      State.cqSettled_moves _
    have hMoves : Moves [.regs, .counters, .buf, .hostMem, .emitted, .hq] s
        ((s.captureEntered x rest).cqSettled x.ring (some ci)) :=
      .step hShown (by decide) (.step (State.captureEntered_after x rest) (by decide)
        ((State.captureTaken_moves x rest).mono (by decide)))
    refine ⟨_, (exec_eventRecordWrite_capture _ hFound).trans
      (congrArg Host.Outcome.next (State.writeCapture_writes _ hCaptures hRoom)), ?_⟩
    refine ⟨(hShown.same .hq (by decide)).trans (State.captureEntered_hq x rest),
      (State.cqSettled_pi _).trans (State.captureEntered_pi x rest), State.cqSettled_ci _, ?_, (hMoves.mono (by decide)).only⟩
    exact (State.counter_moves hShown (by decide) _).trans (State.captureEntered_counter x rest)
  case faultDropped =>
    intro ci f rest s hServed hFound hRecords hNoRoom
    have hTaken := State.faultTaken_moves (s := s) f rest
    refine ⟨_, exec_eventRecordWrite_fault _ hFound, ?_⟩
    rw [if_pos hServed, State.writeFaultRecord_drops _ hRecords hNoRoom]
    by_cases hOn : s.bit 0x400000 31 = true
    · have hLost := State.faultRecordLost_moves (s := s.faultTaken f rest) (c := s.faultRing)
      have hMoves : Moves [.regs, .counters, .fc, .buf] s ((s.faultTaken f rest).faultRecordLost s.faultRing) :=
        .step hLost (by decide) (hTaken.mono (by decide))
      rw [if_pos hOn, if_pos hOn]
      refine ⟨?_, hMoves.same .hostMem (by decide), hMoves.same .emitted (by decide), ?_, (hMoves.mono (by decide)).only⟩
      · rw [hLost.same .fc (by decide), State.faultTaken_records]
      · rw [State.faultRecordLost_count, State.fld_moves hTaken (by decide)]
    · rw [if_neg hOn, if_neg hOn]
      exact ⟨State.faultTaken_records f rest, hTaken.same .hostMem (by decide), hTaken.same .emitted (by decide),
        State.fld_moves hTaken (by decide) _ _ _, (hTaken.mono (by decide)).only⟩
  case captureDropped =>
    intro ci x rest s hFound hCaptures _ hRoom
    have hTaken := State.captureTaken_moves (s := s) x rest
    have hDropped : Moves [.regs] (s.captureTaken x rest) ((s.captureTaken x rest).eventDrop x.ring) := State.eventDrop_moves
    have hMoves : Moves [.regs, .counters, .buf, .hq] s
        (((s.captureTaken x rest).eventDrop x.ring).count (cMirror x.session 5) 1) :=
      .step State.count_moves (by decide) (.step hDropped (by decide) (hTaken.mono (by decide)))
    refine ⟨_, exec_eventRecordWrite_capture _ hFound, ?_⟩
    rw [State.writeCapture_drops _ hCaptures hRoom]
    refine ⟨?_, hMoves.same .hostMem (by decide), hMoves.same .emitted (by decide), ?_, (hMoves.mono (by decide)).only⟩
    · rw [State.count_moves.same .hq (by decide), hDropped.same .hq (by decide), State.captureTaken_hq]
    · rw [State.counter_count, if_pos rfl, State.counter_moves hDropped (by decide), State.captureTaken_counter]
  case recordNothing =>
    intro capture ci s hFound h
    rcases h with ⟨rfl, hNone⟩ | ⟨rfl, hOff | hNone⟩
    · refine ⟨_, exec_eventRecordWrite_capture _ hFound, ?_⟩
      rw [State.writeCapture, hNone]
    · exact ⟨_, exec_eventRecordWrite_fault _ hFound, if_neg (by rw [hOff]; exact Bool.false_ne_true)⟩
    · refine ⟨_, exec_eventRecordWrite_fault _ hFound, ?_⟩
      rw [State.writeFaultRecord, hNone]
      exact ite_self s

end Sys2Proof.Machine
end
